-- ==== Sys2Proof/Word.lean ====
section
/-! DEFINITION. The word types of the EV-2048: bytes, 32-bit register words, 64-bit counters, Saffron's 96-bit time. -/
namespace Sys2Proof

/-- One byte of a frame, of the flash or of a message. -/
abbrev Byte := BitVec 8

/-- One register word (R4: register values are 32-bit quantities). -/
abbrev Word := BitVec 32

/-- One counter value or 64-bit table word. -/
abbrev Word64 := BitVec 64

/-- Saffron's time T, a 64.32 value in nanoseconds (R319): bits 95..32 are the integer nanoseconds. -/
abbrev Time := BitVec 96

end Sys2Proof
end

