-- ==== Sys2Proof/Syntax.lean ====
section
/-! DEFINITION. The commands of the EV-2048: one constructor per row of the opcode table, with the operands that the
outside world supplies (what arrives on a wire, what a measurement gave, which register is written). -/
namespace Sys2Proof

/-- What the wire brought in one frame, from the first byte of the destination address to the last byte of the FCS, as
it will have arrived when the frame ends (R174, R175). -/
structure RxFrame where
  port : Nat
  lane : Nat
  /-- event time at the lane's ball: T's 48-bit ns part and 16 fraction bits, in units of 2^-16 ns (R326). -/
  ball : Nat
  bytes : List Byte
  /-- some block of the frame is an error block, or the frame ends without a valid terminate. -/
  errBlock : Bool
  /-- the frame ends in an error control block. -/
  errCtl : Bool
  /-- the receive FIFO has room for a frame of the port's maximum size (R22; a quantity exempt under R14). -/
  room : Bool
  deriving DecidableEq, Repr

/-- Why an UP port goes down (R172). -/
inductive DownCause where | lanes | alignment | localFault | remoteFault
  deriving DecidableEq, Repr

/-- Words read with an uncorrectable error (R284): the place in the frame in 64-bit words, and the eight bytes as read. -/
abbrev BadWords := List (Nat × List Byte)

/-- What the error-correcting code said while a replica was read (R284): corrected words, bad words, and the cell whose link
word could not be corrected. -/
structure EccSeen where
  corrected : Nat
  bad : BadWords
  link : Option Nat
  deriving DecidableEq, Repr

/-- The outcome of one tier-2 bucket read (R267). -/
inductive BucketEcc where | clean | corrected | uncorrectable
  deriving DecidableEq, Repr

/-- A measured cycle time list: every unit of one peer group, in ascending physical index (R428, R429). -/
structure CycleGroup where
  kind : Nat
  /-- the peer group within the kind: slice, bank group, or 0. -/
  group : Nat
  times : List Nat
  deriving DecidableEq, Repr

/-- What was measured of one resource over the last 100 µs (R436): the cycle times of its units in ps, by physical index, and the
tokens offered to it. -/
structure Demand where
  kind : Nat
  index : Nat
  times : List (Nat × Nat)
  tokens : Nat
  deriving DecidableEq, Repr

/-- What the host does with MSI-X (R453, R476): it sets MSI-X Enable and the Function Mask, or writes or reads the word of BAR 2-3
that `offset` names, `value` being what it writes. -/
inductive MsixOp where
  | control (en funcMask : Bool)
  | write
  | read
  deriving DecidableEq, Repr

/-- What one pass of the steward memory scrub found (R440). -/
inductive ScrubFound where | corrected | activeBad | standbyBad
  deriving DecidableEq, Repr

/-- A DMA failure on a ring (R470). -/
inductive DmaError where | errorCompletion | timeout
  deriving DecidableEq, Repr

/-- A transmit or receive descriptor as the device reads it from host memory: its eight words (R464, R465). -/
abbrev Desc := List Word

/-- What causes the device to lose PCIe (R454). -/
inductive PcieLoss where | linkDown | hotReset | linkDisable | functionReset
  deriving DecidableEq, Repr

/-- The path of a register access that is not a mailbox message: the window (R97) or the TAP (R538). -/
inductive RegPath where | window | jtag
  deriving DecidableEq, Repr

/-- What a calibration step measured (R404 to R409): code hits of the internal source and of CAL_IN, the codes between the next tick
and the one after it over the edges of CAL_IN and of the position's own input, and the differences position minus spare in
femtoseconds. -/
structure CalSeen where
  internal : List Nat
  calIn : List Nat
  scaleCalIn : List Nat
  scaleOwn : List Nat
  diffs : List Int
  deriving DecidableEq, Repr

/-- Temperatures that have moved since the last calibration: position and eighths of a degree (R407). -/
abbrev TempMoves := List (Nat × Nat)

/-- Where a mailbox request stands: in the registers of a PCIe channel, or at the head of the service port's queue (R93,
R457). -/
inductive Via where
  | chan (c : Nat)
  | svc
  deriving DecidableEq, Repr

/-- What a start-up step showed at its end (R65, R72): its duration, TEST_EN at step 1, the fuse ECC at step 2, the stewards'
self-tests at step 3, the flash's SFDP answer and the CRC of the running image at step 4, the HBM stacks that failed both
attempts at step 6. -/
structure StepSeen where
  micros : Nat
  testEn : Bool
  fuseBad : Bool
  fuseFixed : Bool
  failA : Bool
  failB : Bool
  flashOk : Bool
  imageOk : Bool
  hbmBad : List Nat
  deriving DecidableEq, Repr

/-- What a LOCKED group loop saw (R126): a phase error in ps on two consecutive cycles, a count over 256 GREF cycles, or a
delay line at the end of its range. -/
inductive LolCause where
  | phase (ps : Nat)
  | frequency (count : Nat)
  | delayLine
  deriving DecidableEq, Repr

/-- A partner's request in training (R137, R138): a step of tap 0 to 4 (c(-3) to c(+1)), a preset, or precoding. -/
inductive CoeffReq where
  | step (tap : Nat) (up : Bool)
  | preset (k : Nat)
  | precode (on : Bool)
  deriving DecidableEq, Repr

/-! `env`, an operand of several lane commands: the receive envelope exceeds 60 mV at that instant (R141). `probes` of
UNIT_SELFTEST_DONE: the unit's probed cycle times over 1 s, each with those of its peer group in the same window (R433). `copied`
and `inWindow` of SERVO_STROBE: the standby engine has loaded the copy, and its SCLK is within 5 ps (R347). `unlocked` of
ENGINE_FAULT: what failed is the lock of the tick multiplier (R348, R427). `offs` of STEWARD_STROBE and `off` of WORNAN_TRAIN_DONE:
how far a chiplet's time copy stands from T, in 2^-16 ns (R39, R328). An operand that is given a value in the list below may be left
out by the sender, and then has that value. -/

/-- What an Anise phase gave (R145): an eye metric in mV, the settings adapted, and the corrected symbols of the 10 ms before
and after a swap. -/
structure AniseSeen where
  eye : Nat
  adapted : Nat
  before : Nat
  after : Nat
  deriving DecidableEq, Repr


/-- The commands. The docstring of each is its row's mnemonic. -/
inductive Instr where
  -- 05 ports and MAC
  -- `localF`, `remoteF`: a local or remote fault is seen at that instant (R195); `skew`: the largest between two lanes, ps (R170).
  /-- PORT_LANES_UP -/
  | portLanesUp (p : Nat) (localF remoteF : Bool := false)
  /-- PORT_UP -/
  | portUp (p : Nat) (skew : Nat := 0)
  /-- PORT_ALIGN_FAIL -/
  | portAlignFail (p : Nat) (localF remoteF : Bool := false)
  /-- PORT_DOWN -/
  | portDown (p : Nat) (cause : DownCause)
  /-- PARK_WINDOW_EXPIRES -/
  | parkWindowExpires (p : Nat)
  /-- FRAME_START_RX -/
  | frameStartRx (f : RxFrame)
  /-- FRAME_END_RX -/
  | frameEndRx (id : Nat)
  /-- PAUSE_FRAME_RX -/
  | pauseFrameRx (id : Nat)
  /-- PAUSE_EXPIRES -/
  | pauseExpires (p prio : Nat)
  /-- PAUSE_REPEAT_DUE -/
  | pauseRepeatDue (p prio : Nat)
  /-- PAUSE_FRAME_TX -/
  | pauseFrameTx (p : Nat)
  /-- FEC_CODEWORD_ERROR -/
  | fecCodewordError (p : Nat) (corrected : Bool)
  -- 06 parsing
  /-- FRAME_PARSE -/
  | frameParse (id : Nat)
  /-- CLASSIFY -/
  | classify (id : Nat) (badRows : List Nat)
  /-- DPI_VERDICT -/
  | dpiVerdict (id : Nat) (badRows : List Nat)
  /-- RECIRC_PASS -/
  | recircPass (id : Nat) (badRows : List Nat)
  /-- PIP_TBL_WRITE -/
  | pipTblWrite (sl : Nat)
  /-- PIP_TBL_CLEAR -/
  | pipTblClear (sl : Nat)
  /-- PIP_TBL_READ -/
  | pipTblRead (sl : Nat)
  -- 07 tables; `ecc`: the buckets whose read by the table unit or by Caraway met an error (R267)
  /-- LOOKUP -/
  | lookup (id : Nat) (shorter : Option Nat)
  /-- TIER2_READ_DONE -/
  | tier2ReadDone (id : Nat) (e1 e2 : BucketEcc)
  /-- LEARN_CHECK -/
  | learnCheck (capacity : Bool) (ecc : List (Nat × BucketEcc) := [])
  /-- RELOCATION_MOVE_END -/
  | relocationMoveEnd (ecc : List (Nat × BucketEcc) := [])
  /-- GONE_CLEAR -/
  | goneClear (bucket : Nat)
  /-- FWD_TBL_WRITE -/
  | fwdTblWrite
  /-- FWD_TBL_CLEAR -/
  | fwdTblClear
  /-- FWD_TBL_READ -/
  | fwdTblRead (ecc : List (Nat × BucketEcc) := [])
  /-- FWD_TBL_READ_NEXT -/
  | fwdTblReadNext (ecc : List (Nat × BucketEcc) := [])
  /-- FWD_TBL_FLUSH -/
  | fwdTblFlush
  /-- AGING_PASS_START -/
  | agingPassStart
  /-- CARAWAY_VISIT -/
  | carawayVisit (ecc : List (Nat × BucketEcc) := [])
  /-- CARAWAY_PASS_END -/
  | carawayPassEnd
  /-- T1_DECAY_TICK -/
  | t1DecayTick
  /-- REHASH_GO -/
  | rehashGo (path : RegPath) (value : Word)
  /-- REHASH_STEP_DONE -/
  | rehashStepDone (ecc : List (Nat × BucketEcc) := [])
  /-- HBM_STACK_DOWN -/
  | hbmStackDown (h : Nat)
  -- 08 switch core
  /-- ENQUEUE -/
  | enqueue (id : Nat) (spillBudget : Bool)
  /-- FRAME_LAST_CELL -/
  | frameLastCell (id : Nat)
  /-- SPILL_REFILL -/
  | spillRefill (g q : Nat) (bad : BadWords := [])
  /-- MATCHING_ROUND -/
  | matchingRound (arrived drained : List (Nat × Nat))
  /-- BANK_COPY_DONE -/
  | bankCopyDone (bank : Nat)
  /-- MCAST_TBL_WRITE -/
  | mcastTblWrite
  /-- MCAST_TBL_CLEAR -/
  | mcastTblClear
  /-- MCAST_TBL_READ -/
  | mcastTblRead
  /-- FRAME_TX_START -/
  | frameTxStart (p lane ball : Nat)
  /-- FRAME_TX_END -/
  | frameTxEnd (p : Nat) (ecc : EccSeen)
  -- 12 self management
  /-- STANDBY_ACK_TIMEOUT -/
  | standbyAckTimeout
  /-- STEWARD_LOCKSTEP_MISMATCH -/
  | stewardLockstepMismatch
  /-- STEWARD_MEMORY_ERROR -/
  | stewardMemoryError
  /-- STEWARD_SWAP -/
  | stewardSwap (path : RegPath) (value : Word)
  /-- STEWARD_ROTATION -/
  | stewardRotation
  /-- STEWARD_SELFTEST_DONE -/
  | stewardSelftestDone (pass : Bool)
  /-- STANDBY_SELFTEST -/
  | standbySelftest (pass : Bool)
  /-- STEWARD_SINGLE_TIMER -/
  | stewardSingleTimer
  /-- SUMAC_WINDOW -/
  | sumacWindow (groups : List CycleGroup)
  /-- UNIT_STALLED -/
  | unitStalled (kind idx : Nat) (frames : List Nat)
  /-- UNIT_SELFTEST_DONE -/
  | unitSelftestDone (kind idx : Nat) (pass : Bool) (probes : List (Nat × List Nat))
  /-- AVS_EVAL -/
  | avsEval (demands : List Demand)
  /-- AVS_READBACK -/
  | avsReadback (mv : Option Nat)
  /-- AVS_RETRY -/
  | avsRetry (mv : Option Nat)
  /-- MEMORY_SCRUB -/
  | memoryScrub (found : ScrubFound)
  /-- ROW_SCRUB -/
  | rowScrub (table row : Nat)
  /-- SPARE_SELFTEST -/
  | spareSelftest (failed : List (Nat × Nat))
  /-- ENGINE_STANDBY_SELFTEST -/
  | engineStandbySelftest (pass : Bool)
  /-- SENSOR_CHECK -/
  | sensorCheck (failed : List Nat)
  /-- TEMP_READING -/
  | tempReading (sensor : Nat) (eighths : Int)
  -- 13 host
  /-- PCIE_LINK_LOSS -/
  | pcieLinkLoss (cause : PcieLoss)
  /-- PCIE_LINK_UP -/
  | pcieLinkUp (speed width : Nat)
  /-- SVC_LINK_CHANGE -/
  | svcLinkChange (up lock : Bool)
  /-- HOST_RX_DELIVER -/
  | hostRxDeliver (r : Nat) (bufs : List Nat)
  /-- HOST_TX_FRAME -/
  | hostTxFrame (r : Nat) (chain : List Desc) (data : List Byte) (badRows : List Nat)
  /-- HOST_TX_RETRY -/
  | hostTxRetry (r : Nat) (spillBudget : Bool)
  /-- HOST_TX_COMPLETION -/
  | hostTxCompletion (r : Nat)
  /-- RING_ENABLE -/
  | ringEnable (path : RegPath) (x : Nat) (value : Word)
  /-- RING_DISABLE -/
  | ringDisable (path : RegPath) (x : Nat) (value : Word)
  /-- RING_STOPPED -/
  | ringStopped (x : Nat)
  /-- RING_DMA_ERROR -/
  | ringDmaError (x : Nat) (err : DmaError) (frame : Option Nat)
  /-- RING_NOTICE_TIMEOUT -/
  | ringNoticeTimeout (x : Nat)
  /-- IRQ_CLAIM -/
  | irqClaim (path : RegPath) (t : Nat)
  /-- IRQ_EOI -/
  | irqEoi (path : RegPath) (t : Nat) (value : Word)
  /-- IRQ_SRC_WRITE -/
  | irqSrcWrite (path : RegPath) (n : Nat) (value : Word)
  /-- MSIX_UNMASK -/
  | msixUnmask (op : MsixOp) (offset : Nat) (value : Word)
  -- 14 counters
  /-- COUNTER_READ -/
  | counterRead (path : RegPath) (id : Nat)
  /-- HIST_CFG_WRITE -/
  | histCfgWrite (path : RegPath) (p : Nat) (value : Word)
  -- 09 to 11 time
  /-- STEWARD_STROBE -/
  | stewardStrobe (offs : List Int)
  /-- SERVO_STROBE -/
  | servoStrobe (copied inWindow : Bool := true)
  /-- SAF_SET -/
  | safSet (path : RegPath) (value : Word)
  /-- SAF_STEP -/
  | safStep (path : RegPath) (value : Word)
  /-- SAF_SLEW -/
  | safSlew (path : RegPath) (value : Word)
  /-- SAF_CANCEL -/
  | safCancel (path : RegPath) (value : Word)
  /-- SLEW_COMPLETE -/
  | slewComplete
  /-- SAF_TIME_READ -/
  | safTimeRead (path : RegPath)
  /-- PHASE_SAMPLE -/
  | phaseSample (p wrapped : Nat) (outOfRange : Bool)
  /-- PTP_SYNC_RX -/
  | ptpSyncRx (id : Nat)
  /-- PTP_FOLLOW_UP_RX -/
  | ptpFollowUpRx (id : Nat)
  /-- PTP_DELAY_REQ_RX -/
  | ptpDelayReqRx (id : Nat)
  /-- PTP_DELAY_RESP_RX -/
  | ptpDelayRespRx (id : Nat)
  /-- PTP_ANNOUNCE_RX -/
  | ptpAnnounceRx (id : Nat)
  /-- PTP_SIGNALING_RX -/
  | ptpSignalingRx (id : Nat)
  /-- PTP_SYNC_TX -/
  | ptpSyncTx (p : Nat)
  /-- PTP_FOLLOW_UP_TX -/
  | ptpFollowUpTx (p : Nat)
  /-- PTP_DELAY_RESP_TX -/
  | ptpDelayRespTx (p : Nat)
  /-- PTP_ANNOUNCE_TX -/
  | ptpAnnounceTx (p : Nat)
  /-- PTP_DELAY_REQ_TX -/
  | ptpDelayReqTx (p : Nat)
  /-- PTP_SIGNALING_TX -/
  | ptpSignalingTx (p : Nat)
  /-- ANNOUNCE_TIMEOUT -/
  | announceTimeout (p : Nat)
  /-- L1_PEER_TIMEOUT -/
  | l1PeerTimeout (p : Nat)
  /-- TRIGGER_ARM -/
  | triggerArm (path : RegPath) (k : Nat) (value : Word)
  /-- TRIGGER_STOP -/
  | triggerStop (path : RegPath) (k : Nat) (value : Word)
  /-- TRIGGER_INSTANT -/
  | triggerInstant (k : Nat)
  /-- PPS_PULSE_END -/
  | ppsPulseEnd (k : Nat)
  /-- GATE_ENTRY_CHANGE -/
  | gateEntryChange (p : Nat)
  /-- GATE_SCHEDULE_CHANGE -/
  | gateScheduleChange (p : Nat)
  /-- GATE_TBL_WRITE -/
  | gateTblWrite
  /-- GATE_TBL_CLEAR -/
  | gateTblClear
  /-- GATE_TBL_READ -/
  | gateTblRead
  /-- ENGINE_FAULT -/
  | engineFault (unlocked : Bool := false)
  /-- ENGINE_SWAP -/
  | engineSwap (path : RegPath) (value : Word)
  /-- ENGINE_SELFTEST_DONE -/
  | engineSelftestDone (pass : Bool)
  /-- REF_EDGE -/
  | refEdge (k code : Nat)
  /-- REF_LOS -/
  | refLos (k : Nat)
  /-- FREQ_ESTIMATE -/
  | freqEstimate
  /-- SLOT_REMAIN_EXPIRES -/
  | slotRemainExpires (k : Nat)
  /-- REF_CFG_WRITE -/
  | refCfgWrite (path : RegPath) (k : Nat) (value : Word)
  /-- SWITCH_COMMIT -/
  | switchCommit
  /-- HOLDOVER_STORE -/
  | holdoverStore
  /-- HOLDOVER_EXPIRES -/
  | holdoverExpires
  /-- TIC_EDGE -/
  | ticEdge (k : Nat) (rising : Bool) (code : Nat)
  /-- STOP_STAMP_EXPIRES -/
  | stopStampExpires (k : Nat)
  /-- INTERVAL_TIMEOUT -/
  | intervalTimeout (k : Nat)
  /-- RECIP_GATE_END -/
  | recipGateEnd (k : Nat)
  /-- TIC_RESULT_READ -/
  | ticResultRead (path : RegPath) (k : Nat)
  /-- TIC_CFG_WRITE -/
  | ticCfgWrite (path : RegPath) (k : Nat) (second : Bool) (value : Word)
  /-- CAL_ROTATION_START -/
  | calRotationStart (moves : TempMoves) (due : Bool := true)
  /-- CAL_STEP_DONE -/
  | calStepDone (seen : CalSeen) (moves : TempMoves)
  -- 02 start-up
  /-- COLD_RESET -/
  | coldReset
  /-- STARTUP_BEGIN -/
  | startupBegin
  /-- STARTUP_STEP_END -/
  | startupStepEnd (o : StepSeen)
  /-- RST_N_LOW -/
  | rstNLow
  /-- WARM_RESET -/
  | warmReset
  /-- RAIL_LOST -/
  | railLost
  /-- RESET_CTL_WARM -/
  | resetCtlWarm (path : RegPath) (value : Word)
  /-- RESET_CTL_RELOAD -/
  | resetCtlReload (path : RegPath) (value : Word)
  /-- BLOCK_RESET_REQUEST -/
  | blockResetRequest (path : RegPath) (d w b : Nat) (value : Word)
  /-- BLOCK_RESET_DONE -/
  | blockResetDone (d w b : Nat)
  /-- BLOCK_RESET_TIMEOUT -/
  | blockResetTimeout (d w b : Nat)
  /-- OSC_PRESENCE_GATE -/
  | oscPresenceGate (ppb : Option Int)
  /-- OSC_STABILITY_GATE -/
  | oscStabilityGate (deci : Int)
  /-- OCXO_WARM_HELD -/
  | ocxoWarmHeld
  /-- OCXO_WARM_LOST -/
  | ocxoWarmLost
  /-- OCXO_SLOW -/
  | ocxoSlow
  /-- OSC_QUAL_CFG_WRITE -/
  | oscQualCfgWrite (path : RegPath) (value : Word)
  -- 03 sessions and commits
  /-- OPEN -/
  | openReq (via : Via)
  /-- AUTH -/
  | auth (via : Via)
  /-- OPENING_TIMEOUT -/
  | openingTimeout (handle : Nat)
  /-- HOLD_OFF_EXPIRES -/
  | holdOffExpires (chan : Option Nat) (src : Nat)
  /-- CLOSE -/
  | close (via : Via)
  /-- IDLE_TIMEOUT -/
  | idleTimeout (handle : Nat)
  /-- BIND -/
  | bind (via : Via)
  /-- UNBIND -/
  | unbind (via : Via)
  /-- READ -/
  | read (via : Via)
  /-- WRITE -/
  | write (via : Via)
  /-- READ_STAGED -/
  | readStaged (via : Via)
  /-- BEGIN -/
  | begin (via : Via)
  /-- COMMIT -/
  | commit (via : Via)
  /-- ABORT -/
  | abort (via : Via)
  /-- TABLE_OP -/
  | tableOp (via : Via)
  /-- TXN_STATUS -/
  | txnStatus (via : Via)
  /-- IMAGE_BEGIN -/
  | imageBegin (via : Via)
  /-- IMAGE_DATA -/
  | imageData (via : Via)
  /-- IMAGE_END -/
  | imageEnd (via : Via)
  /-- SVC_FRAME_RX -/
  | svcFrameRx (bytes : List Byte)
  -- `scanning`: the frames whose scan is under way (R224)
  /-- EPOCH_PROMOTION -/
  | epochPromotion (scanning : List Nat := [])
  /-- COMMIT_APPLY -/
  | commitApply (ecc : List (Nat × BucketEcc) := [])
  /-- COMMIT_POINT -/
  | commitPoint
  /-- FLASH_WRITE_DONE -/
  | flashWriteDone (flaws : List (Nat × Byte)) (err : Bool)
  /-- BANK_ERASE_DONE -/
  | bankEraseDone (err : Bool)
  /-- REGISTER_WRITE -/
  | registerWrite (path : RegPath) (addr : Nat) (value : Word) (full : Bool)
  /-- WINDOW_READ -/
  | windowRead (addr : Nat)
  -- 04 lanes
  /-- BAND_CHECK_END -/
  | bandCheckEnd (b count : Nat)
  /-- LOCK_DECLARED -/
  | lockDeclared (b ps : Nat)
  /-- LOCK_ATTEMPT_FAIL -/
  | lockAttemptFail (b : Nat)
  /-- ALIGNMENT_DONE -/
  | alignmentDone (b : Nat)
  /-- ALIGN_TIMEOUT -/
  | alignTimeout (b : Nat)
  /-- LOSS_OF_LOCK -/
  | lossOfLock (b : Nat) (cause : LolCause)
  /-- PLL_RETRY -/
  | pllRetry (b : Nat)
  /-- COEFF_REQUEST_RX -/
  | coeffRequestRx (n : Nat) (req : CoeffReq)
  /-- COEFF_REQUEST_REPEAT -/
  | coeffRequestRepeat (n : Nat) (req : CoeffReq) (anew env : Bool := false)
  /-- TRAIN_SUCCESS -/
  | trainSuccess (n : Nat)
  /-- TRAIN_TIMEOUT -/
  | trainTimeout (n : Nat) (env : Bool := false)
  /-- CW_LOCK_GAINED -/
  | cwLockGained (n : Nat)
  /-- CW_LOCK_LOST -/
  | cwLockLost (n : Nat)
  /-- CW_SEARCH_TIMEOUT -/
  | cwSearchTimeout (n : Nat) (env : Bool := false)
  /-- LOSS_OF_SIGNAL -/
  | lossOfSignal (n : Nat)
  /-- HOLDOFF_EXPIRES -/
  | holdoffExpires (n : Nat) (env : Bool := false)
  /-- LANE_SLEEP_ENTER -/
  | laneSleepEnter (p : Nat)
  /-- WAKE_DETECTED -/
  | wakeDetected (n : Nat)
  /-- PROBE_DUE -/
  | probeDue (p : Nat)
  /-- WAKE_TONE_DONE -/
  | wakeToneDone (n : Nat) (env : Bool := false)
  /-- LANE_CFG_WRITE -/
  | laneCfgWrite (path : RegPath) (n : Nat) (value : Word)
  /-- ANISE_CYCLE_START -/
  | aniseCycleStart (n : Nat)
  /-- ANISE_PHASE_END -/
  | anisePhaseEnd (n : Nat) (o : AniseSeen)
  /-- PRBS_LOCK_GAINED -/
  | prbsLockGained (n : Nat) (env : Bool := false)
  /-- PRBS_SYMBOL_MISMATCH -/
  | prbsSymbolMismatch (n : Nat)
  /-- WORNAN_ATTEMPT_START -/
  | wornanAttemptStart (c : Nat)
  /-- WORNAN_TRAIN_DONE -/
  | wornanTrainDone (c roundTrip : Nat) (off : Int := 0)
  /-- WORNAN_ATTEMPT_FAIL -/
  | wornanAttemptFail (c : Nat)
  /-- WORNAN_LINK_FAULT -/
  | wornanLinkFault (c : Nat)
  /-- WORNAN_RETRY -/
  | wornanRetry (c : Nat)
  /-- WORNAN_FLIT_ERROR -/
  | wornanFlitError (c : Nat) (corrected : Bool)
  -- 16 test access port
  /-- TAP_INSTRUCTION_LOAD -/
  | tapInstructionLoad (code : Option Nat) (trst : Option Bool := none) (cells : List Bool := [])
  /-- JTAG_REG_ACCESS -/
  | jtagRegAccess (write : Bool) (addr : Nat) (data : Word)
  deriving DecidableEq, Repr

end Sys2Proof
end

