-- ==== Sys2Proof/Decode.lean ====
section
/-! DEFINITION. The opcode table gives no row any bits: the block's commands arrive as events, not as words. No word spells a
command. -/
namespace Sys2Proof

/-- The command that a word spells by the table's bits: the table gives none, so every word is refused. -/
def decodeTableWord (_nbits _w : Nat) : Option Instr := none

end Sys2Proof
end

