-- ==== Sys2Proof/Config.lean ====
section
/-! DEFINITION. What the manual leaves open: values without a body, so that nothing can be proved of them. Each is applied
to a plain counter of the state (`State.free`), which numbers the values drawn. -/
namespace Sys2Proof.Config

/-- A random 32-bit word drawn by the device (R82: a HANDLE). -/
opaque random32 : Nat → BitVec 32

/-- A random 128-bit value drawn by the device (R84: N_dev). -/
opaque random128 : Nat → BitVec 128

/-- A value that the manual bounds but does not fix: which of the values it allows (R320, R361, R369, R376: rounding). -/
opaque rounding : Nat → Int

/-- A natural number that the manual does not state (assumption log). -/
opaque freeNat : Nat → Nat

/-- Trims fused at test, which the manual does not state: the width of a code of a stamper position (R405), the codes that
span a tick, and the position's path trim in units of 2^-16 ns (R391). -/
opaque fusedWidth : Nat → Nat → Nat
opaque fusedSpan : Nat → Nat
opaque pathTrim : Nat → Int

/-- The fused ratio of a watched unit (R430), kind and physical index, in units of 2^-16. -/
opaque fusedRatio : Nat → Nat → Nat

/-- Whether a lane's receive envelope exceeds 60 mV at a tick (R141): what the line brings, which the device does not decide
(assumption log 48). Tick, then lane. -/
opaque envelope : Nat → Nat → Bool

/-- The cell of the boundary register that drives a pin (R537), which the manual leaves to IEEE 1149.1's description of the part. -/
opaque boundaryCell : Nat → Nat

end Sys2Proof.Config
end

