-- ==== Sys2Proof/Machine/Ids.lean ====
section
/-! DEFINITION. Counter identifiers (R486), health event codes (R446) and the few codes that several chapters share. -/
namespace Sys2Proof.Machine

namespace C
def authFailures : Nat := 0x0
def winErrors : Nat := 0x1
def dmaErrors : Nat := 0x2
def svcRxDrops : Nat := 0x3
def svcReplays : Nat := 0x4
def commits : Nat := 0x8
def commitRefused : Nat := 0x9
def epochPromoted : Nat := 0xA
def handovers : Nat := 0xB
def promotions : Nat := 0x10
def promoteSkipped : Nat := 0x11
def learned : Nat := 0x12
def learnMoves : Nat := 0x13
def learnSkipped : Nat := 0x14
def aged : Nat := 0x15
def relocations : Nat := 0x16
def t2EccCorrected : Nat := 0x17
def t2EccRepaired : Nat := 0x18
def t2Lost : Nat := 0x19
def t2Unavailable : Nat := 0x1A
def bufEccCorrected : Nat := 0x20
def bufEccStomped : Nat := 0x21
def spillRefused : Nat := 0x22
def spillLost : Nat := 0x23
def ladderYield (r : Nat) : Nat := 0x28 + r
def engFailovers : Nat := 0x30
def selSwitches : Nat := 0x31
def selAbandoned : Nat := 0x32
def selHoldovers : Nat := 0x33
def selPhaseJumps : Nat := 0x34
def ticCalRuns : Nat := 0x35
def ticCalFails : Nat := 0x36
def refFaults (k : Nat) : Nat := 0x38 + k
def stragglers : Nat := 0x40
def swaps : Nat := 0x41
def avsUp : Nat := 0x42
def avsDown : Nat := 0x43
def irqClaims (t : Nat) : Nat := 0x48 + t
def irqSpurious (t : Nat) : Nat := 0x50 + t
def rxFrames (r : Nat) : Nat := 0x60 + r
def rxDrops (r : Nat) : Nat := 0x80 + r
def txFrames (r : Nat) : Nat := 0xA0 + r
def txDrops (r : Nat) : Nat := 0xC0 + r
def txMalformed (r : Nat) : Nat := 0xE0 + r
def events (code : Nat) : Nat := 0x100 + code
def wrnCorrected (c : Nat) : Nat := 0x200 + c
def wrnUncorrectable (c : Nat) : Nat := 0x208 + c
def wrnRetrains (c : Nat) : Nat := 0x210 + c
def dpiSteered (s : Nat) : Nat := 0x220 + s
def dpiHits (s : Nat) : Nat := 0x228 + s
def dpiRecirc (s : Nat) : Nat := 0x230 + s
def dpiBypass (s : Nat) : Nat := 0x238 + s
def dpiOverflow (s : Nat) : Nat := 0x240 + s
def t1Hits (s : Nat) : Nat := 0x248 + s
def t2Lookups (s : Nat) : Nat := 0x250 + s
def t2Hits (s : Nat) : Nat := 0x258 + s
def misses (s : Nat) : Nat := 0x260 + s
def keyInvalid (s : Nat) : Nat := 0x268 + s
def ticStamps (k : Nat) : Nat := 0x280 + k
def ticHoldoff (k : Nat) : Nat := 0x290 + k
def ticIgnored (k : Nat) : Nat := 0x2A0 + k
def ticLost (k : Nat) : Nat := 0x2B0 + k
def grpLol (b : Nat) : Nat := 0x300 + b
/-- Page `P` of the per-lane and per-port counters (R486). -/
def page (P i : Nat) : Nat := 0x400 * P + i
def trainAttempts (n : Nat) : Nat := page 1 n
def linkDown (n : Nat) : Nat := page 2 n
def wakes (n : Nat) : Nat := page 3 n
def aniseSwaps (n : Nat) : Nat := page 4 n
def aniseReverts (n : Nat) : Nat := page 5 n
def prbsErrors (n : Nat) : Nat := page 6 n
def prtRxFrames (p : Nat) : Nat := page 7 p
def prtRxRunts (p : Nat) : Nat := page 8 p
def prtRxFcsErrors (p : Nat) : Nat := page 9 p
def prtRxOversize (p : Nat) : Nat := page 10 p
def prtRxStompSeen (p : Nat) : Nat := page 11 p
def prtRxFifoDrops (p : Nat) : Nat := page 12 p
def prtRxPause (p : Nat) : Nat := page 13 p
def prtTxStomped (p : Nat) : Nat := page 14 p
def prtTxUnderrun (p : Nat) : Nat := page 15 p
def fecCorrected (p : Nat) : Nat := page 16 p
def fecUncorrectable (p : Nat) : Nat := page 17 p
def portDown (p : Nat) : Nat := page 18 p
def alignFail (p : Nat) : Nat := page 19 p
def parkDrops (p : Nat) : Nat := page 20 p
def stale (p : Nat) : Nat := page 21 p
def flushed (p : Nat) : Nat := page 22 p
def parseDeep (p : Nat) : Nat := page 23 p
def parseLength (p : Nat) : Nat := page 24 p
def pipDefault (p : Nat) : Nat := page 25 p
def pipDrops (p : Nat) : Nat := page 26 p
def fwdDrops (p : Nat) : Nat := page 27 p
def timeOver (p : Nat) : Nat := page 28 p
def timeLong (p : Nat) : Nat := page 29 p
def ptpRx (p : Nat) : Nat := page 30 p
def ptpTx (p : Nat) : Nat := page 31 p
def ptpIgnored (p : Nat) : Nat := page 32 p
def ptpTimeouts (p : Nat) : Nat := page 33 p
def ptpTc (p : Nat) : Nat := page 34 p
def gateOverrun (p : Nat) : Nat := page 35 p
def dropsFull (q : Nat) : Nat := 0x10000 + q
def dropsRed (q : Nat) : Nat := 0x14000 + q
def latHist (p j : Nat) : Nat := 0x20000 + 64 * p + j
def tcamHits (s i : Nat) : Nat := 0x40000 + 0x4000 * s + i
end C

/-- The port-indexed position of a counter ID, if it is indexed by a port or by one of a port's queues or bins (R486). -/
def cntPort (id : Nat) : Option Nat :=
  if 0x400 * 7 ≤ id ∧ id < 0x400 * 36 then some (id % 0x400)
  else if 0x10000 ≤ id ∧ id < 0x18000 then some (id % 0x4000 / 16)
  else if 0x20000 ≤ id ∧ id < 0x30000 then some ((id - 0x20000) / 64)
  else none

/-- Whether R486 assigns a counter to the identifier. -/
def cntAssigned (id : Nat) : Bool :=
  id < 5 || (0x8 ≤ id && id < 0xC) || (0x10 ≤ id && id < 0x1B) || (0x20 ≤ id && id < 0x24) ||
  id == 0x2A || (0x2C ≤ id && id < 0x30) || (0x30 ≤ id && id < 0x37) || (0x38 ≤ id && id < 0x44) ||
  (0x48 ≤ id && id < 0x58) || (0x60 ≤ id && id < 0x218) || (0x220 ≤ id && id < 0x270) ||
  (0x280 ≤ id && id < 0x2C0) || (0x300 ≤ id && id < 0x380) || (0x400 ≤ id && id < 0x9000) ||
  (0x10000 ≤ id && id < 0x18000) || (0x20000 ≤ id && id < 0x30000) ||
  (0x40000 ≤ id && id < 0x60000 && id % 0x4000 < 12288)

namespace Ev
def authFail : Nat := 0x01
def stewardSelftest : Nat := 0x10
def stewardHandover : Nat := 0x11
def stewardSingle : Nat := 0x12
def stewardLost : Nat := 0x13
def bankFallback : Nat := 0x14
def pllNoLock : Nat := 0x20
def pllLoss : Nat := 0x21
def wornanRetrain : Nat := 0x22
def wornanDown : Nat := 0x23
def rehashNeeded : Nat := 0x50
def t2CopyDown : Nat := 0x51
def tier2Down : Nat := 0x52
def tableEntryLost : Nat := 0x53
def spillLost : Nat := 0x60
def hbmStackDown : Nat := 0x61
def ocxoAbsent : Nat := 0x70
def ocxoSlow : Nat := 0x71
def saffronFailover : Nat := 0x72
def saffronSingle : Nat := 0x73
def saffronLost : Nat := 0x74
def refDisagree : Nat := 0x75
def holdoverEnter : Nat := 0x76
def holdoverExpired : Nat := 0x77
def freeRun : Nat := 0x78
def phaseJump : Nat := 0x79
def ticSourceFallback : Nat := 0x7A
def ticCalMismatch : Nat := 0x7B
def ticSpareDown : Nat := 0x7C
def stragglerSwap : Nat := 0x80
def stragglerNoSpare : Nat := 0x81
def unitStalled : Nat := 0x82
def sparesExhausted : Nat := 0x83
def rateLimit : Nat := 0x84
def avsLevel : Nat := 0x85
def avsNoResponse : Nat := 0x86
def tempHigh : Nat := 0x87
def tempCrit : Nat := 0x88
def scrubRepair : Nat := 0x89
def selftestFail : Nat := 0x8A
end Ev

/-- Severity of a health event (R443, R446): 0 NOTE, 1 DEGRADED, 2 FAULT. -/
def evSeverity (code : Nat) : Nat :=
  if [0x01, 0x11, 0x72, 0x75, 0x79, 0x7A, 0x7B, 0x80, 0x85, 0x89].contains code then 0
  else if [0x13, 0x20, 0x23, 0x52, 0x53, 0x60, 0x70, 0x74, 0x77, 0x78, 0x82, 0x84, 0x86, 0x88].contains code then 2
  else 1

/-- Whether the event names a condition, which R446 lets end ("Clears when" not a dash). -/
def evCondition (code : Nat) : Bool :=
  [0x12, 0x13, 0x20, 0x23, 0x50, 0x51, 0x52, 0x61, 0x70, 0x71, 0x73, 0x74, 0x75, 0x76, 0x77, 0x78, 0x7C, 0x81, 0x83,
   0x84, 0x86, 0x87, 0x88].contains code

end Sys2Proof.Machine
end

