-- ==== Sys2Proof/Machine/Regs.lean ====
section
/-! DEFINITION. The register map: every software-visible register by its name in the manual, its address (R31 and
the defining statement of each register), and its fields with access, level and reset (the field tables).
The names are the manual's own, in capitals; an index argument is the manual's index. -/
namespace Sys2Proof.Machine

/-- A software-visible register (R501), named as in the manual. `BLKCTL d w b` is DISTRICT_BLOCK_BLKCTL of block `b`
of ward `w` of district `d` (R79); `CNT id` is the counter word of counter `id` (R485). -/
inductive Reg where
  | BLKCTL (d w b : Nat)
  | HST_PCIE_STATUS
  | HST_SVC_CFG
  | HST_SVC_STATUS
  | HST_RING_GLOBAL
  | HST_MBX_DOORBELL (c : Nat)
  | HST_MBX_STATE (c : Nat)
  | HST_MBX_REQ (c i : Nat)
  | HST_MBX_RSP (c i : Nat)
  | HST_WIN_STATUS
  | HST_RING_CFG (x : Nat)
  | HST_RING_BASE_L (x : Nat)
  | HST_RING_BASE_H (x : Nat)
  | HST_RING_TAIL (x : Nat)
  | HST_RING_HEAD (x : Nat)
  | HST_RING_CPTR (x : Nat)
  | HST_RING_ACK (x : Nat)
  | HST_RING_IRQ (x : Nat)
  | HST_RING_STATUS (x : Nat)
  | HST_IRQ_SRC (i : Nat)
  | HST_IRQ_PEND (j : Nat)
  | HST_IRQ_TGT_CFG (t : Nat)
  | HST_IRQ_CLAIM (t : Nat)
  | HST_IRQ_EOI (t : Nat)
  | HST_IRQ_TGT_STATUS (t : Nat)
  | STW_ID_FAMILY
  | STW_ID_STEPPING
  | STW_ID_CL
  | STW_ID_PCI
  | STW_ID_SERIAL_L
  | STW_ID_SERIAL_H
  | STW_ID_LOT
  | STW_ID_DIE
  | STW_ID_MAC_L
  | STW_ID_MAC_H
  | STW_ID_FUSE
  | STW_BOOT_STATUS
  | STW_BANK_STATE (k : Nat)
  | STW_BANK_SEQ (k : Nat)
  | STW_BOOT_STEP_TIME (i : Nat)
  | STW_RESET_CTL
  | STW_TXN_CFG
  | STW_EPOCH_STATUS
  | STW_EPOCH_NUMBER
  | STW_PERSIST_STATUS
  | STW_PAIR_STATUS
  | STW_PAIR_CFG
  | STW_PAIR_CTL
  | LNE_GRP_CFG (b : Nat)
  | LNE_GRP_PLL_CFG (b : Nat)
  | LNE_GRP_STATUS (b : Nat)
  | LNE_LANE_CFG (n : Nat)
  | LNE_LANE_STATUS (n : Nat)
  | LNE_LANE_TXFFE_SET (n : Nat)
  | LNE_LANE_TXFFE (n : Nat)
  | LNE_LANE_ANISE (n : Nat)
  | LNE_WRN_STATUS (c : Nat)
  | LNE_WRN_LATENCY (c : Nat)
  | LNE_WRN_CFG (c : Nat)
  | LNE_TRAIN_CFG
  | LNE_ANISE_CFG
  | PRT_BLK_CFG (b : Nat)
  | PRT_MAC_CFG (p : Nat)
  | PRT_PORT_STATUS (p : Nat)
  | PRT_FC_CFG (p : Nat)
  | PRT_PFC_WM (p : Nat)
  | PRT_PFC_STATUS (p : Nat)
  | PRT_PARK_CFG
  | PRT_PARK_CAP
  | PRT_PFC_MAP0
  | PRT_PFC_MAP1
  | PIP_PORT_CFG (p : Nat)
  | PIP_PORT_DEF_A (p : Nat)
  | PIP_PORT_DEF_B (p : Nat)
  | PIP_TBL_CMD (s : Nat)
  | PIP_TBL_STATUS (s : Nat)
  | PIP_TBL_DATA (s i : Nat)
  | PIP_DPI_CFG (s : Nat)
  | PIP_DPI_STATUS (s : Nat)
  | PIP_TUN_PORTS
  | PIP_TPID
  | FWD_TBL_CMD
  | FWD_TBL_STATUS
  | FWD_TBL_DATA (i : Nat)
  | FWD_HASH_SEED1
  | FWD_HASH_SEED2
  | FWD_REHASH_SEED1
  | FWD_REHASH_SEED2
  | FWD_REHASH_CTL
  | FWD_HASH_STATUS
  | FWD_LKP_A (k : Nat)
  | FWD_LKP_B (k : Nat)
  | FWD_LEARN_CFG
  | FWD_CARAWAY_CFG
  | FWD_ENTRIES
  | FWD_LEARNED_ENTRIES
  | FWD_CARAWAY_STATUS
  | SWC_Q_CFG (q : Nat)
  | SWC_Q_STATUS (q : Nat)
  | SWC_HIST_CFG (p : Nat)
  | SWC_CLASS_CFG (k : Nat)
  | SWC_RED_PROF (k c : Nat)
  | SWC_RED_CFG
  | SWC_BUF_CFG
  | SWC_SPILL_CFG
  | SWC_TIME_CFG
  | SWC_BUF_STATUS
  | SWC_SPILL_STATUS
  | SWC_SPILL_CELLS
  | SWC_TBL_CMD
  | SWC_TBL_STATUS
  | SWC_TBL_INDEX
  | SWC_TBL_DATA (i : Nat)
  | TIM_SAF_STATUS
  | TIM_SAF_INC_L
  | TIM_SAF_INC_H
  | TIM_SAF_TIME_F
  | TIM_SAF_TIME_L
  | TIM_SAF_TIME_H
  | TIM_SAF_VAL_L
  | TIM_SAF_VAL_H
  | TIM_SAF_CMD
  | TIM_SAF_CFG
  | TIM_ENG_CTL
  | TIM_OSC_QUAL_CFG
  | TIM_OSC_QUAL_STATUS
  | TIM_TRIG_CTRL (k : Nat)
  | TIM_TRIG_START_F (k : Nat)
  | TIM_TRIG_START_L (k : Nat)
  | TIM_TRIG_START_H (k : Nat)
  | TIM_TRIG_PERIOD (k : Nat)
  | TIM_TRIG_COUNT (k : Nat)
  | TIM_TRIG_STATUS (k : Nat)
  | TIM_TRIG_FIRED (k : Nat)
  | TIM_PTP_PORT (p : Nat)
  | TIM_PORT_ASYM (p : Nat)
  | TIM_PORT_LAT (p : Nat)
  | TIM_PHASE (p : Nat)
  | TIM_PORT_STATUS (p : Nat)
  | TIM_PTP_OFFSET (p : Nat)
  | TIM_PTP_DELAY (p : Nat)
  | TIM_PTP_CFG
  | TIM_PTP_UTC
  | TIM_TBL_CMD
  | TIM_TBL_STATUS
  | TIM_TBL_DATA (i : Nat)
  | TIM_SEL_CFG
  | TIM_SEL_TIMES
  | TIM_HO_CFG
  | TIM_SEL_STATUS
  | TIM_HO_FREQ
  | TIM_HO_DRIFT
  | TIM_PJ_LAST
  | TIM_PJ_ABSORBED
  | TIM_SERVO_ERR
  | TIM_REF_CFG (k : Nat)
  | TIM_REF_DELAY (k : Nat)
  | TIM_REF_STATUS (k : Nat)
  | TIM_REF_FREQ (k : Nat)
  | TIM_PPS_OFS_L (k : Nat)
  | TIM_PPS_OFS_H (k : Nat)
  | TIM_ANN_CFG
  | TIM_ANN_VAR
  | TIM_ANN_TSRC
  | TIM_TIC_CFG (k : Nat)
  | TIM_TIC_CFG2 (k : Nat)
  | TIM_TIC_DELAY (k : Nat)
  | TIM_TIC_STATUS (k : Nat)
  | TIM_TIC_RES_ST (k : Nat)
  | TIM_TIC_RES_L (k : Nat)
  | TIM_TIC_RES_H (k : Nat)
  | TIM_TIC_RES_CNT (k : Nat)
  | TIM_TIC_CAL_CFG
  | TIM_TIC_CAL_STATUS
  | HLT_HEALTH_CFG
  | HLT_HEALTH_STATUS
  | HLT_LOG_HEAD
  | HLT_SUMAC_CFG
  | HLT_SPARES
  | HLT_MARGIN
  | HLT_AVS_CFG
  | HLT_AVS_STATUS
  | HLT_TEMP_CFG
  | HLT_TEMP (i : Nat)
  | HLT_LOG (j w : Nat)
  | HLT_CNT_VAL_H
  | HLT_CNT_TIME_L
  | HLT_CNT_TIME_H
  | HLT_CNT_FLAGS
  | HLT_CAP_MEMBER (j m : Nat)
  | HLT_CAP_VAL_L (j m : Nat)
  | HLT_CAP_VAL_H (j m : Nat)
  | HLT_CAP_TIME_L (j : Nat)
  | HLT_CAP_TIME_H (j : Nat)
  | HLT_CAP_SEQ (j : Nat)
  | HLT_CAP_WRAP_L (j : Nat)
  | HLT_CAP_WRAP_H (j : Nat)
  | CNT (id : Nat)
  deriving DecidableEq, Repr

/-- Access types of R7. -/
inductive Access where | rw | ro | w1c | w1s | wo | st | rwl
  deriving DecidableEq, Repr

/-- Levels of R10. -/
inductive Level where | b | e
  deriving DecidableEq, Repr

/-- A bit field of a register word: lowest bit and width. -/
structure Fld where
  lo : Nat
  w  : Nat
  deriving DecidableEq, Repr

/-- One row of a field table: the field, its access, its level, and whether its reset comes from the image. -/
structure FieldInfo where
  fld : Fld
  acc : Access
  lvl : Level
  img : Bool
  deriving DecidableEq, Repr

/-- The byte address of district, ward, block and register number (R31). -/
def addrOf (d w b r : Nat) : Nat := d * 0x400000 + w * 0x10000 + b * 0x400 + r * 4

/-- The register's byte address: district, ward, block and number as its defining statement gives them. -/
def Reg.addr : Reg → Nat
  | .BLKCTL d w b => addrOf d w b 255
  | .HST_PCIE_STATUS => addrOf 0 0 1 0
  | .HST_SVC_CFG => addrOf 0 0 2 0
  | .HST_SVC_STATUS => addrOf 0 0 2 1
  | .HST_RING_GLOBAL => addrOf 0 0 3 0
  | .HST_MBX_DOORBELL c => addrOf 0 1 c 0
  | .HST_MBX_STATE c => addrOf 0 1 c 1
  | .HST_MBX_REQ c i => addrOf 0 1 c (16 + i)
  | .HST_MBX_RSP c i => addrOf 0 1 c (80 + i)
  | .HST_WIN_STATUS => addrOf 0 1 8 0
  | .HST_RING_CFG x => addrOf 0 2 x 0
  | .HST_RING_BASE_L x => addrOf 0 2 x 1
  | .HST_RING_BASE_H x => addrOf 0 2 x 2
  | .HST_RING_TAIL x => addrOf 0 2 x 3
  | .HST_RING_HEAD x => addrOf 0 2 x 4
  | .HST_RING_CPTR x => addrOf 0 2 x 5
  | .HST_RING_ACK x => addrOf 0 2 x 6
  | .HST_RING_IRQ x => addrOf 0 2 x 7
  | .HST_RING_STATUS x => addrOf 0 2 x 8
  | .HST_IRQ_SRC i => addrOf 0 3 0 i
  | .HST_IRQ_PEND j => addrOf 0 3 0 (128 + j)
  | .HST_IRQ_TGT_CFG t => addrOf 0 3 (1 + t) 0
  | .HST_IRQ_CLAIM t => addrOf 0 3 (1 + t) 1
  | .HST_IRQ_EOI t => addrOf 0 3 (1 + t) 2
  | .HST_IRQ_TGT_STATUS t => addrOf 0 3 (1 + t) 3
  | .STW_ID_FAMILY => addrOf 1 0 0 0
  | .STW_ID_STEPPING => addrOf 1 0 0 1
  | .STW_ID_CL => addrOf 1 0 0 2
  | .STW_ID_PCI => addrOf 1 0 0 3
  | .STW_ID_SERIAL_L => addrOf 1 0 0 4
  | .STW_ID_SERIAL_H => addrOf 1 0 0 5
  | .STW_ID_LOT => addrOf 1 0 0 6
  | .STW_ID_DIE => addrOf 1 0 0 7
  | .STW_ID_MAC_L => addrOf 1 0 0 8
  | .STW_ID_MAC_H => addrOf 1 0 0 9
  | .STW_ID_FUSE => addrOf 1 0 0 10
  | .STW_BOOT_STATUS => addrOf 1 0 4 0
  | .STW_BANK_STATE k => addrOf 1 0 4 (2 + k)
  | .STW_BANK_SEQ k => addrOf 1 0 4 (4 + k)
  | .STW_BOOT_STEP_TIME i => addrOf 1 0 4 (8 + i)
  | .STW_RESET_CTL => addrOf 1 0 4 24
  | .STW_TXN_CFG => addrOf 1 0 5 0
  | .STW_EPOCH_STATUS => addrOf 1 0 5 1
  | .STW_EPOCH_NUMBER => addrOf 1 0 5 2
  | .STW_PERSIST_STATUS => addrOf 1 0 5 3
  | .STW_PAIR_STATUS => addrOf 1 0 6 0
  | .STW_PAIR_CFG => addrOf 1 0 6 1
  | .STW_PAIR_CTL => addrOf 1 0 6 2
  | .LNE_GRP_CFG b => addrOf 2 (b / 16) (b % 16) 0
  | .LNE_GRP_PLL_CFG b => addrOf 2 (b / 16) (b % 16) 1
  | .LNE_GRP_STATUS b => addrOf 2 (b / 16) (b % 16) 2
  | .LNE_LANE_CFG n => addrOf 2 (n / 128) (n / 8 % 16) (16 + 16 * (n % 8) + 0)
  | .LNE_LANE_STATUS n => addrOf 2 (n / 128) (n / 8 % 16) (16 + 16 * (n % 8) + 1)
  | .LNE_LANE_TXFFE_SET n => addrOf 2 (n / 128) (n / 8 % 16) (16 + 16 * (n % 8) + 2)
  | .LNE_LANE_TXFFE n => addrOf 2 (n / 128) (n / 8 % 16) (16 + 16 * (n % 8) + 3)
  | .LNE_LANE_ANISE n => addrOf 2 (n / 128) (n / 8 % 16) (16 + 16 * (n % 8) + 4)
  | .LNE_WRN_STATUS c => addrOf 2 c 16 0
  | .LNE_WRN_LATENCY c => addrOf 2 c 16 1
  | .LNE_WRN_CFG c => addrOf 2 c 16 2
  | .LNE_TRAIN_CFG => addrOf 2 8 0 0
  | .LNE_ANISE_CFG => addrOf 2 8 0 1
  | .PRT_BLK_CFG b => addrOf 3 (b / 16) (b % 16) 0
  | .PRT_MAC_CFG p => addrOf 3 (p / 128) (p / 8 % 16) (16 + 16 * (p % 8) + 0)
  | .PRT_PORT_STATUS p => addrOf 3 (p / 128) (p / 8 % 16) (16 + 16 * (p % 8) + 1)
  | .PRT_FC_CFG p => addrOf 3 (p / 128) (p / 8 % 16) (16 + 16 * (p % 8) + 2)
  | .PRT_PFC_WM p => addrOf 3 (p / 128) (p / 8 % 16) (16 + 16 * (p % 8) + 3)
  | .PRT_PFC_STATUS p => addrOf 3 (p / 128) (p / 8 % 16) (16 + 16 * (p % 8) + 4)
  | .PRT_PARK_CFG => addrOf 3 8 0 0
  | .PRT_PARK_CAP => addrOf 3 8 0 1
  | .PRT_PFC_MAP0 => addrOf 3 8 0 2
  | .PRT_PFC_MAP1 => addrOf 3 8 0 3
  | .PIP_PORT_CFG p => addrOf 4 (p / 128) (p / 16 % 8) (16 + 4 * (p % 16) + 0)
  | .PIP_PORT_DEF_A p => addrOf 4 (p / 128) (p / 16 % 8) (16 + 4 * (p % 16) + 1)
  | .PIP_PORT_DEF_B p => addrOf 4 (p / 128) (p / 16 % 8) (16 + 4 * (p % 16) + 2)
  | .PIP_TBL_CMD s => addrOf 4 s 8 0
  | .PIP_TBL_STATUS s => addrOf 4 s 8 1
  | .PIP_TBL_DATA s i => addrOf 4 s 8 (16 + i)
  | .PIP_DPI_CFG s => addrOf 4 s 9 0
  | .PIP_DPI_STATUS s => addrOf 4 s 9 1
  | .PIP_TUN_PORTS => addrOf 4 8 0 0
  | .PIP_TPID => addrOf 4 8 0 1
  | .FWD_TBL_CMD => addrOf 5 8 0 0
  | .FWD_TBL_STATUS => addrOf 5 8 0 1
  | .FWD_TBL_DATA i => addrOf 5 8 0 (16 + i)
  | .FWD_HASH_SEED1 => addrOf 5 8 1 0
  | .FWD_HASH_SEED2 => addrOf 5 8 1 1
  | .FWD_REHASH_SEED1 => addrOf 5 8 1 2
  | .FWD_REHASH_SEED2 => addrOf 5 8 1 3
  | .FWD_REHASH_CTL => addrOf 5 8 1 4
  | .FWD_HASH_STATUS => addrOf 5 8 1 5
  | .FWD_LKP_A k => addrOf 5 8 2 (2 * k)
  | .FWD_LKP_B k => addrOf 5 8 2 (2 * k + 1)
  | .FWD_LEARN_CFG => addrOf 5 8 3 0
  | .FWD_CARAWAY_CFG => addrOf 5 8 3 1
  | .FWD_ENTRIES => addrOf 5 8 3 2
  | .FWD_LEARNED_ENTRIES => addrOf 5 8 3 3
  | .FWD_CARAWAY_STATUS => addrOf 5 8 3 4
  | .SWC_Q_CFG q => addrOf 6 (q / 2048) (16 + q % 2048 / 64) (2 * (q % 64))
  | .SWC_Q_STATUS q => addrOf 6 (q / 2048) (16 + q % 2048 / 64) (2 * (q % 64) + 1)
  | .SWC_HIST_CFG p => addrOf 6 (p / 128) 48 (p % 128)
  | .SWC_CLASS_CFG k => addrOf 6 8 0 k
  | .SWC_RED_PROF k c => addrOf 6 8 1 (3 * k + c)
  | .SWC_RED_CFG => addrOf 6 8 1 48
  | .SWC_BUF_CFG => addrOf 6 8 2 0
  | .SWC_SPILL_CFG => addrOf 6 8 2 1
  | .SWC_TIME_CFG => addrOf 6 8 2 2
  | .SWC_BUF_STATUS => addrOf 6 8 2 3
  | .SWC_SPILL_STATUS => addrOf 6 8 2 4
  | .SWC_SPILL_CELLS => addrOf 6 8 2 5
  | .SWC_TBL_CMD => addrOf 6 8 3 0
  | .SWC_TBL_STATUS => addrOf 6 8 3 1
  | .SWC_TBL_INDEX => addrOf 6 8 3 2
  | .SWC_TBL_DATA i => addrOf 6 8 3 (16 + i)
  | .TIM_SAF_STATUS => addrOf 7 0 0 0
  | .TIM_SAF_INC_L => addrOf 7 0 0 1
  | .TIM_SAF_INC_H => addrOf 7 0 0 2
  | .TIM_SAF_TIME_F => addrOf 7 0 0 3
  | .TIM_SAF_TIME_L => addrOf 7 0 0 4
  | .TIM_SAF_TIME_H => addrOf 7 0 0 5
  | .TIM_SAF_VAL_L => addrOf 7 0 0 6
  | .TIM_SAF_VAL_H => addrOf 7 0 0 7
  | .TIM_SAF_CMD => addrOf 7 0 0 8
  | .TIM_SAF_CFG => addrOf 7 0 0 9
  | .TIM_ENG_CTL => addrOf 7 0 3 0
  | .TIM_OSC_QUAL_CFG => addrOf 7 0 1 0
  | .TIM_OSC_QUAL_STATUS => addrOf 7 0 1 1
  | .TIM_TRIG_CTRL k => addrOf 7 0 2 (8 * k + 0)
  | .TIM_TRIG_START_F k => addrOf 7 0 2 (8 * k + 1)
  | .TIM_TRIG_START_L k => addrOf 7 0 2 (8 * k + 2)
  | .TIM_TRIG_START_H k => addrOf 7 0 2 (8 * k + 3)
  | .TIM_TRIG_PERIOD k => addrOf 7 0 2 (8 * k + 4)
  | .TIM_TRIG_COUNT k => addrOf 7 0 2 (8 * k + 5)
  | .TIM_TRIG_STATUS k => addrOf 7 0 2 (8 * k + 6)
  | .TIM_TRIG_FIRED k => addrOf 7 0 2 (8 * k + 7)
  | .TIM_PTP_PORT p => addrOf 7 1 (p / 32) (8 * (p % 32) + 0)
  | .TIM_PORT_ASYM p => addrOf 7 1 (p / 32) (8 * (p % 32) + 1)
  | .TIM_PORT_LAT p => addrOf 7 1 (p / 32) (8 * (p % 32) + 2)
  | .TIM_PHASE p => addrOf 7 1 (p / 32) (8 * (p % 32) + 3)
  | .TIM_PORT_STATUS p => addrOf 7 1 (p / 32) (8 * (p % 32) + 4)
  | .TIM_PTP_OFFSET p => addrOf 7 1 (p / 32) (8 * (p % 32) + 5)
  | .TIM_PTP_DELAY p => addrOf 7 1 (p / 32) (8 * (p % 32) + 6)
  | .TIM_PTP_CFG => addrOf 7 2 0 0
  | .TIM_PTP_UTC => addrOf 7 2 0 1
  | .TIM_TBL_CMD => addrOf 7 2 1 0
  | .TIM_TBL_STATUS => addrOf 7 2 1 1
  | .TIM_TBL_DATA i => addrOf 7 2 1 (16 + i)
  | .TIM_SEL_CFG => addrOf 7 3 0 0
  | .TIM_SEL_TIMES => addrOf 7 3 0 1
  | .TIM_HO_CFG => addrOf 7 3 0 2
  | .TIM_SEL_STATUS => addrOf 7 3 0 3
  | .TIM_HO_FREQ => addrOf 7 3 0 4
  | .TIM_HO_DRIFT => addrOf 7 3 0 5
  | .TIM_PJ_LAST => addrOf 7 3 0 6
  | .TIM_PJ_ABSORBED => addrOf 7 3 0 7
  | .TIM_SERVO_ERR => addrOf 7 3 0 8
  | .TIM_REF_CFG k => addrOf 7 3 1 (4 * k + 0)
  | .TIM_REF_DELAY k => addrOf 7 3 1 (4 * k + 1)
  | .TIM_REF_STATUS k => addrOf 7 3 1 (4 * k + 2)
  | .TIM_REF_FREQ k => addrOf 7 3 1 (4 * k + 3)
  | .TIM_PPS_OFS_L k => addrOf 7 3 2 (2 * k)
  | .TIM_PPS_OFS_H k => addrOf 7 3 2 (2 * k + 1)
  | .TIM_ANN_CFG => addrOf 7 3 2 8
  | .TIM_ANN_VAR => addrOf 7 3 2 9
  | .TIM_ANN_TSRC => addrOf 7 3 2 10
  | .TIM_TIC_CFG k => addrOf 7 4 k 0
  | .TIM_TIC_CFG2 k => addrOf 7 4 k 1
  | .TIM_TIC_DELAY k => addrOf 7 4 k 2
  | .TIM_TIC_STATUS k => addrOf 7 4 k 3
  | .TIM_TIC_RES_ST k => addrOf 7 4 k 4
  | .TIM_TIC_RES_L k => addrOf 7 4 k 5
  | .TIM_TIC_RES_H k => addrOf 7 4 k 6
  | .TIM_TIC_RES_CNT k => addrOf 7 4 k 7
  | .TIM_TIC_CAL_CFG => addrOf 7 4 16 0
  | .TIM_TIC_CAL_STATUS => addrOf 7 4 16 1
  | .HLT_HEALTH_CFG => addrOf 8 0 0 0
  | .HLT_HEALTH_STATUS => addrOf 8 0 0 1
  | .HLT_LOG_HEAD => addrOf 8 0 0 2
  | .HLT_SUMAC_CFG => addrOf 8 0 1 0
  | .HLT_SPARES => addrOf 8 0 1 1
  | .HLT_MARGIN => addrOf 8 0 1 2
  | .HLT_AVS_CFG => addrOf 8 0 2 0
  | .HLT_AVS_STATUS => addrOf 8 0 2 1
  | .HLT_TEMP_CFG => addrOf 8 0 3 0
  | .HLT_TEMP i => addrOf 8 0 3 (16 + i)
  | .HLT_LOG j w => addrOf 8 0 (8 + j / 16) (8 * (j % 16) + w)
  | .HLT_CNT_VAL_H => addrOf 8 1 0 0
  | .HLT_CNT_TIME_L => addrOf 8 1 0 1
  | .HLT_CNT_TIME_H => addrOf 8 1 0 2
  | .HLT_CNT_FLAGS => addrOf 8 1 0 3
  | .HLT_CAP_MEMBER j m => addrOf 8 2 j m
  | .HLT_CAP_VAL_L j m => addrOf 8 2 j (64 + 2 * m)
  | .HLT_CAP_VAL_H j m => addrOf 8 2 j (65 + 2 * m)
  | .HLT_CAP_TIME_L j => addrOf 8 2 j 192
  | .HLT_CAP_TIME_H j => addrOf 8 2 j 193
  | .HLT_CAP_SEQ j => addrOf 8 2 j 194
  | .HLT_CAP_WRAP_L j => addrOf 8 2 j 195
  | .HLT_CAP_WRAP_H j => addrOf 8 2 j 196
  | .CNT id => addrOf 8 (16 + id / 8192) (id / 128 % 64) (id % 128)

/-- Bounds on a register's indices (R500 to R503 and the defining statements). -/
def Reg.indexOk : Reg → Bool
  | .BLKCTL d w b => decide (d < 9) && decide (w < 64) && decide (b < 64)
  | .HST_MBX_DOORBELL c => decide (c < 8)
  | .HST_MBX_STATE c => decide (c < 8)
  | .HST_MBX_REQ c i => decide (c < 8) && decide (i < 64)
  | .HST_MBX_RSP c i => decide (c < 8) && decide (i < 64)
  | .HST_RING_CFG x => decide (x < 64)
  | .HST_RING_BASE_L x => decide (x < 64)
  | .HST_RING_BASE_H x => decide (x < 64)
  | .HST_RING_TAIL x => decide (x < 64)
  | .HST_RING_HEAD x => decide (x < 64)
  | .HST_RING_CPTR x => decide (x < 64)
  | .HST_RING_ACK x => decide (x < 64)
  | .HST_RING_IRQ x => decide (x < 64)
  | .HST_RING_STATUS x => decide (x < 64)
  | .HST_IRQ_SRC i => decide (i < 128)
  | .HST_IRQ_PEND j => decide (j < 4)
  | .HST_IRQ_TGT_CFG t => decide (t < 8)
  | .HST_IRQ_CLAIM t => decide (t < 8)
  | .HST_IRQ_EOI t => decide (t < 8)
  | .HST_IRQ_TGT_STATUS t => decide (t < 8)
  | .STW_BANK_STATE k => decide (k < 2)
  | .STW_BANK_SEQ k => decide (k < 2)
  | .STW_BOOT_STEP_TIME i => 1 ≤ i && i ≤ 9
  | .LNE_GRP_CFG b => decide (b < 128)
  | .LNE_GRP_PLL_CFG b => decide (b < 128)
  | .LNE_GRP_STATUS b => decide (b < 128)
  | .LNE_LANE_CFG n => decide (n < 1024)
  | .LNE_LANE_STATUS n => decide (n < 1024)
  | .LNE_LANE_TXFFE_SET n => decide (n < 1024)
  | .LNE_LANE_TXFFE n => decide (n < 1024)
  | .LNE_LANE_ANISE n => decide (n < 1024)
  | .LNE_WRN_STATUS c => decide (c < 8)
  | .LNE_WRN_LATENCY c => decide (c < 8)
  | .LNE_WRN_CFG c => decide (c < 8)
  | .PRT_BLK_CFG b => decide (b < 128)
  | .PRT_MAC_CFG p => decide (p < 1024)
  | .PRT_PORT_STATUS p => decide (p < 1024)
  | .PRT_FC_CFG p => decide (p < 1024)
  | .PRT_PFC_WM p => decide (p < 1024)
  | .PRT_PFC_STATUS p => decide (p < 1024)
  | .PIP_PORT_CFG p => decide (p < 1024)
  | .PIP_PORT_DEF_A p => decide (p < 1024)
  | .PIP_PORT_DEF_B p => decide (p < 1024)
  | .PIP_TBL_CMD s => decide (s < 8)
  | .PIP_TBL_STATUS s => decide (s < 8)
  | .PIP_TBL_DATA s i => decide (s < 8) && decide (i < 34)
  | .PIP_DPI_CFG s => decide (s < 8)
  | .PIP_DPI_STATUS s => decide (s < 8)
  | .FWD_TBL_DATA i => decide (i < 9)
  | .FWD_LKP_A k => decide (k < 16)
  | .FWD_LKP_B k => decide (k < 16)
  | .SWC_Q_CFG q => decide (q < 16384)
  | .SWC_Q_STATUS q => decide (q < 16384)
  | .SWC_HIST_CFG p => decide (p < 1024)
  | .SWC_CLASS_CFG k => decide (k < 16)
  | .SWC_RED_PROF k c => decide (k < 16) && decide (c < 3)
  | .SWC_TBL_DATA i => decide (i < 32)
  | .TIM_TRIG_CTRL k => decide (k < 16)
  | .TIM_TRIG_START_F k => decide (k < 16)
  | .TIM_TRIG_START_L k => decide (k < 16)
  | .TIM_TRIG_START_H k => decide (k < 16)
  | .TIM_TRIG_PERIOD k => decide (k < 16)
  | .TIM_TRIG_COUNT k => decide (k < 16)
  | .TIM_TRIG_STATUS k => decide (k < 16)
  | .TIM_TRIG_FIRED k => decide (k < 16)
  | .TIM_PTP_PORT p => decide (p < 1024)
  | .TIM_PORT_ASYM p => decide (p < 1024)
  | .TIM_PORT_LAT p => decide (p < 1024)
  | .TIM_PHASE p => decide (p < 1024)
  | .TIM_PORT_STATUS p => decide (p < 1024)
  | .TIM_PTP_OFFSET p => decide (p < 1024)
  | .TIM_PTP_DELAY p => decide (p < 1024)
  | .TIM_TBL_DATA i => decide (i < 4)
  | .TIM_REF_CFG k => decide (k < 8)
  | .TIM_REF_DELAY k => decide (k < 8)
  | .TIM_REF_STATUS k => decide (k < 8)
  | .TIM_REF_FREQ k => decide (k < 8)
  | .TIM_PPS_OFS_L k => decide (k < 4)
  | .TIM_PPS_OFS_H k => decide (k < 4)
  | .TIM_TIC_CFG k => decide (k < 16)
  | .TIM_TIC_CFG2 k => decide (k < 16)
  | .TIM_TIC_DELAY k => decide (k < 16)
  | .TIM_TIC_STATUS k => decide (k < 16)
  | .TIM_TIC_RES_ST k => decide (k < 16)
  | .TIM_TIC_RES_L k => decide (k < 16)
  | .TIM_TIC_RES_H k => decide (k < 16)
  | .TIM_TIC_RES_CNT k => decide (k < 16)
  | .HLT_TEMP i => decide (i < 32)
  | .HLT_LOG j w => decide (j < 256) && decide (w < 8)
  | .HLT_CAP_MEMBER j m => decide (j < 8) && decide (m < 64)
  | .HLT_CAP_VAL_L j m => decide (j < 8) && decide (m < 64)
  | .HLT_CAP_VAL_H j m => decide (j < 8) && decide (m < 64)
  | .HLT_CAP_TIME_L j => decide (j < 8)
  | .HLT_CAP_TIME_H j => decide (j < 8)
  | .HLT_CAP_SEQ j => decide (j < 8)
  | .HLT_CAP_WRAP_L j => decide (j < 8)
  | .HLT_CAP_WRAP_H j => decide (j < 8)
  | .CNT id => decide (id < 393216)
  | _ => true

/-! Field constants `F.<REGISTER>_<FIELD>`: lowest bit and width, from the field tables. -/
namespace F
abbrev BLKCTL_RST : Fld := ⟨0, 1⟩
abbrev BLKCTL_TIMEOUT : Fld := ⟨1, 1⟩
abbrev HST_PCIE_STATUS_LINK_UP : Fld := ⟨0, 1⟩
abbrev HST_PCIE_STATUS_SPEED : Fld := ⟨1, 3⟩
abbrev HST_PCIE_STATUS_WIDTH : Fld := ⟨4, 4⟩
abbrev HST_PCIE_STATUS_MSIX_EN : Fld := ⟨8, 1⟩
abbrev HST_PCIE_STATUS_FUNC_MASK : Fld := ⟨9, 1⟩
abbrev HST_PCIE_STATUS_LINK_LOST : Fld := ⟨10, 1⟩
abbrev HST_SVC_CFG_EN : Fld := ⟨0, 1⟩
abbrev HST_SVC_STATUS_LINK_UP : Fld := ⟨0, 1⟩
abbrev HST_SVC_STATUS_BLOCK_LOCK : Fld := ⟨1, 1⟩
abbrev HST_SVC_STATUS_LINK_CHANGED : Fld := ⟨2, 1⟩
abbrev HST_RING_GLOBAL_DQ_LIMIT : Fld := ⟨0, 16⟩
abbrev HST_RING_GLOBAL_HOLD_LIMIT : Fld := ⟨16, 16⟩
abbrev HST_MBX_DOORBELL_GO : Fld := ⟨0, 1⟩
abbrev HST_MBX_DOORBELL_DONE : Fld := ⟨1, 1⟩
abbrev HST_MBX_DOORBELL_OVERRUN : Fld := ⟨2, 1⟩
abbrev HST_MBX_STATE_STATE : Fld := ⟨0, 2⟩
abbrev HST_MBX_STATE_BOUND : Fld := ⟨2, 1⟩
abbrev HST_MBX_STATE_ROLE : Fld := ⟨3, 3⟩
abbrev HST_MBX_REQ_WORD : Fld := ⟨0, 32⟩
abbrev HST_MBX_RSP_WORD : Fld := ⟨0, 32⟩
abbrev HST_WIN_STATUS_BOUND : Fld := ⟨0, 1⟩
abbrev HST_WIN_STATUS_CHANNEL : Fld := ⟨1, 3⟩
abbrev HST_WIN_STATUS_ERROR : Fld := ⟨4, 1⟩
abbrev HST_WIN_STATUS_LAST_STATUS : Fld := ⟨8, 8⟩
abbrev HST_RING_CFG_EN : Fld := ⟨0, 1⟩
abbrev HST_RING_CFG_SIZE_LOG2 : Fld := ⟨1, 4⟩
abbrev HST_RING_CFG_BUF : Fld := ⟨5, 6⟩
abbrev HST_RING_CFG_IRQ_EN : Fld := ⟨11, 1⟩
abbrev HST_RING_BASE_L_ADDR : Fld := ⟨5, 27⟩
abbrev HST_RING_BASE_H_ADDR : Fld := ⟨0, 32⟩
abbrev HST_RING_TAIL_INDEX : Fld := ⟨0, 16⟩
abbrev HST_RING_HEAD_INDEX : Fld := ⟨0, 16⟩
abbrev HST_RING_CPTR_INDEX : Fld := ⟨0, 16⟩
abbrev HST_RING_ACK_INDEX : Fld := ⟨0, 16⟩
abbrev HST_RING_IRQ_COUNT : Fld := ⟨0, 16⟩
abbrev HST_RING_IRQ_TIME : Fld := ⟨16, 16⟩
abbrev HST_RING_STATUS_STATE : Fld := ⟨0, 2⟩
abbrev HST_RING_STATUS_ERR : Fld := ⟨2, 2⟩
abbrev HST_RING_STATUS_DROP_SEEN : Fld := ⟨4, 1⟩
abbrev HST_RING_STATUS_HELD : Fld := ⟨5, 1⟩
abbrev HST_IRQ_SRC_PRIO : Fld := ⟨0, 4⟩
abbrev HST_IRQ_SRC_SENSE : Fld := ⟨4, 1⟩
abbrev HST_IRQ_SRC_MASK : Fld := ⟨5, 1⟩
abbrev HST_IRQ_SRC_ROUTE : Fld := ⟨6, 1⟩
abbrev HST_IRQ_SRC_TARGETS : Fld := ⟨8, 8⟩
abbrev HST_IRQ_SRC_PENDING : Fld := ⟨16, 1⟩
abbrev HST_IRQ_SRC_IN_SERVICE : Fld := ⟨17, 1⟩
abbrev HST_IRQ_SRC_BOUND : Fld := ⟨18, 1⟩
abbrev HST_IRQ_SRC_BOUND_TGT : Fld := ⟨19, 3⟩
abbrev HST_IRQ_PEND_PENDING : Fld := ⟨0, 32⟩
abbrev HST_IRQ_TGT_CFG_THRESHOLD : Fld := ⟨0, 4⟩
abbrev HST_IRQ_TGT_CFG_ONLINE : Fld := ⟨4, 1⟩
abbrev HST_IRQ_CLAIM_SOURCE : Fld := ⟨0, 16⟩
abbrev HST_IRQ_EOI_SOURCE : Fld := ⟨0, 16⟩
abbrev HST_IRQ_TGT_STATUS_CURRENT : Fld := ⟨0, 4⟩
abbrev HST_IRQ_TGT_STATUS_DEPTH : Fld := ⟨4, 4⟩
abbrev HST_IRQ_TGT_STATUS_NOTIFIED : Fld := ⟨8, 1⟩
abbrev HST_IRQ_TGT_STATUS_DELIVERABLE : Fld := ⟨9, 1⟩
abbrev HST_IRQ_TGT_STATUS_EOI_MISMATCH : Fld := ⟨10, 1⟩
abbrev STW_ID_FAMILY_FAMILY : Fld := ⟨0, 32⟩
abbrev STW_ID_STEPPING_MINOR : Fld := ⟨0, 4⟩
abbrev STW_ID_STEPPING_MAJOR : Fld := ⟨4, 4⟩
abbrev STW_ID_CL_HIGHEST : Fld := ⟨0, 8⟩
abbrev STW_ID_CL_OPERATING : Fld := ⟨8, 8⟩
abbrev STW_ID_PCI_VENDOR : Fld := ⟨0, 16⟩
abbrev STW_ID_PCI_DEVICE : Fld := ⟨16, 16⟩
abbrev STW_ID_SERIAL_L_SERIAL : Fld := ⟨0, 32⟩
abbrev STW_ID_SERIAL_H_SERIAL : Fld := ⟨0, 32⟩
abbrev STW_ID_LOT_LOT : Fld := ⟨0, 24⟩
abbrev STW_ID_LOT_WAFER : Fld := ⟨24, 5⟩
abbrev STW_ID_DIE_X : Fld := ⟨0, 8⟩
abbrev STW_ID_DIE_Y : Fld := ⟨8, 8⟩
abbrev STW_ID_MAC_L_BASE : Fld := ⟨0, 32⟩
abbrev STW_ID_MAC_H_BASE : Fld := ⟨0, 16⟩
abbrev STW_ID_FUSE_SIGN_REQ : Fld := ⟨0, 1⟩
abbrev STW_ID_FUSE_IMAGE_KEY : Fld := ⟨1, 1⟩
abbrev STW_ID_FUSE_RECOVERY_KEY : Fld := ⟨2, 1⟩
abbrev STW_ID_FUSE_ECC_CORRECTED : Fld := ⟨3, 1⟩
abbrev STW_BOOT_STATUS_STEP : Fld := ⟨0, 4⟩
abbrev STW_BOOT_STATUS_BANK : Fld := ⟨4, 1⟩
abbrev STW_BOOT_STATUS_IMAGE : Fld := ⟨5, 1⟩
abbrev STW_BOOT_STATUS_CAUSE : Fld := ⟨8, 2⟩
abbrev STW_BOOT_STATUS_DEGRADED : Fld := ⟨16, 1⟩
abbrev STW_BOOT_STATUS_SKIPPED : Fld := ⟨17, 1⟩
abbrev STW_BANK_STATE_RESULT : Fld := ⟨0, 4⟩
abbrev STW_BANK_STATE_CHOSEN : Fld := ⟨4, 1⟩
abbrev STW_BANK_STATE_CL : Fld := ⟨8, 8⟩
abbrev STW_BANK_SEQ_SEQUENCE : Fld := ⟨0, 32⟩
abbrev STW_BOOT_STEP_TIME_MICROSECONDS : Fld := ⟨0, 32⟩
abbrev STW_RESET_CTL_WARM : Fld := ⟨0, 1⟩
abbrev STW_RESET_CTL_RELOAD : Fld := ⟨1, 1⟩
abbrev STW_TXN_CFG_DRAIN_LIMIT : Fld := ⟨0, 16⟩
abbrev STW_TXN_CFG_IDLE_TIMEOUT : Fld := ⟨16, 8⟩
abbrev STW_EPOCH_STATUS_SELECTOR : Fld := ⟨0, 1⟩
abbrev STW_EPOCH_STATUS_RETIRED_LIVE : Fld := ⟨1, 1⟩
abbrev STW_EPOCH_STATUS_WAITING : Fld := ⟨2, 1⟩
abbrev STW_EPOCH_STATUS_QUEUED : Fld := ⟨8, 8⟩
abbrev STW_EPOCH_NUMBER_EPOCH : Fld := ⟨0, 32⟩
abbrev STW_PERSIST_STATUS_STATE : Fld := ⟨0, 2⟩
abbrev STW_PERSIST_STATUS_AGAIN : Fld := ⟨2, 1⟩
abbrev STW_PERSIST_STATUS_UPLOAD_PENDING : Fld := ⟨3, 1⟩
abbrev STW_PERSIST_STATUS_BANK : Fld := ⟨4, 1⟩
abbrev STW_PERSIST_STATUS_STATUS : Fld := ⟨8, 8⟩
abbrev STW_PAIR_STATUS_ACTIVE : Fld := ⟨0, 1⟩
abbrev STW_PAIR_STATUS_STANDBY_OK : Fld := ⟨1, 1⟩
abbrev STW_PAIR_STATUS_STATE_A : Fld := ⟨2, 2⟩
abbrev STW_PAIR_STATUS_STATE_B : Fld := ⟨4, 2⟩
abbrev STW_PAIR_STATUS_GIVEUPS_A : Fld := ⟨6, 2⟩
abbrev STW_PAIR_STATUS_GIVEUPS_B : Fld := ⟨8, 2⟩
abbrev STW_PAIR_STATUS_LOST : Fld := ⟨10, 1⟩
abbrev STW_PAIR_CFG_ROTATE : Fld := ⟨0, 8⟩
abbrev STW_PAIR_CFG_SELFTEST_PERIOD : Fld := ⟨8, 8⟩
abbrev STW_PAIR_CTL_SWAP : Fld := ⟨0, 1⟩
abbrev LNE_GRP_CFG_EN : Fld := ⟨0, 1⟩
abbrev LNE_GRP_CFG_RATE : Fld := ⟨1, 1⟩
abbrev LNE_GRP_PLL_CFG_LOCK_WIN : Fld := ⟨0, 8⟩
abbrev LNE_GRP_PLL_CFG_UNLOCK_WIN : Fld := ⟨8, 8⟩
abbrev LNE_GRP_PLL_CFG_ATTEMPTS : Fld := ⟨16, 4⟩
abbrev LNE_GRP_STATUS_STATE : Fld := ⟨0, 3⟩
abbrev LNE_GRP_STATUS_LOL_SEEN : Fld := ⟨3, 1⟩
abbrev LNE_GRP_STATUS_ATTEMPT : Fld := ⟨4, 4⟩
abbrev LNE_GRP_STATUS_BAND : Fld := ⟨8, 8⟩
abbrev LNE_GRP_STATUS_GOOD_BAND : Fld := ⟨16, 8⟩
abbrev LNE_LANE_CFG_TX_INV : Fld := ⟨0, 1⟩
abbrev LNE_LANE_CFG_RX_INV : Fld := ⟨1, 1⟩
abbrev LNE_LANE_CFG_TRAIN_EN : Fld := ⟨2, 1⟩
abbrev LNE_LANE_CFG_SLEEP : Fld := ⟨3, 2⟩
abbrev LNE_LANE_CFG_ANISE_EN : Fld := ⟨5, 1⟩
abbrev LNE_LANE_CFG_PATTERN : Fld := ⟨6, 2⟩
abbrev LNE_LANE_CFG_LOOPBACK : Fld := ⟨8, 1⟩
abbrev LNE_LANE_STATUS_STATE : Fld := ⟨0, 4⟩
abbrev LNE_LANE_STATUS_SIGNAL : Fld := ⟨4, 1⟩
abbrev LNE_LANE_STATUS_CW_LOCK : Fld := ⟨5, 1⟩
abbrev LNE_LANE_STATUS_TRAIN_FAIL : Fld := ⟨6, 1⟩
abbrev LNE_LANE_STATUS_PRBS_LOCK : Fld := ⟨7, 1⟩
abbrev LNE_LANE_TXFFE_SET_CM3 : Fld := ⟨0, 6⟩
abbrev LNE_LANE_TXFFE_SET_CM2 : Fld := ⟨6, 6⟩
abbrev LNE_LANE_TXFFE_SET_CM1 : Fld := ⟨12, 6⟩
abbrev LNE_LANE_TXFFE_SET_C0 : Fld := ⟨18, 7⟩
abbrev LNE_LANE_TXFFE_SET_CP1 : Fld := ⟨25, 6⟩
abbrev LNE_LANE_TXFFE_CM3 : Fld := ⟨0, 6⟩
abbrev LNE_LANE_TXFFE_CM2 : Fld := ⟨6, 6⟩
abbrev LNE_LANE_TXFFE_CM1 : Fld := ⟨12, 6⟩
abbrev LNE_LANE_TXFFE_C0 : Fld := ⟨18, 7⟩
abbrev LNE_LANE_TXFFE_CP1 : Fld := ⟨25, 6⟩
abbrev LNE_LANE_ANISE_EYE_MAIN : Fld := ⟨0, 8⟩
abbrev LNE_LANE_ANISE_EYE_SHADOW : Fld := ⟨8, 8⟩
abbrev LNE_LANE_ANISE_PHASE : Fld := ⟨16, 3⟩
abbrev LNE_WRN_STATUS_STATE : Fld := ⟨0, 2⟩
abbrev LNE_WRN_STATUS_ATTEMPT : Fld := ⟨2, 2⟩
abbrev LNE_WRN_STATUS_TIME_VALID : Fld := ⟨4, 1⟩
abbrev LNE_WRN_LATENCY_LATENCY : Fld := ⟨0, 32⟩
abbrev LNE_WRN_CFG_UNCORR_LIMIT : Fld := ⟨0, 8⟩
abbrev LNE_TRAIN_CFG_TRAIN_TIMEOUT : Fld := ⟨0, 10⟩
abbrev LNE_TRAIN_CFG_HOLDOFF : Fld := ⟨10, 6⟩
abbrev LNE_TRAIN_CFG_PROBE_PERIOD : Fld := ⟨16, 8⟩
abbrev LNE_TRAIN_CFG_SLEEP_DELAY : Fld := ⟨24, 7⟩
abbrev LNE_TRAIN_CFG_PRECODE : Fld := ⟨31, 1⟩
abbrev LNE_ANISE_CFG_PERIOD : Fld := ⟨0, 8⟩
abbrev LNE_ANISE_CFG_SWAP_GAIN : Fld := ⟨8, 8⟩
abbrev LNE_ANISE_CFG_REVERT_EN : Fld := ⟨16, 1⟩
abbrev PRT_BLK_CFG_MODE : Fld := ⟨0, 3⟩
abbrev PRT_MAC_CFG_MODE : Fld := ⟨0, 1⟩
abbrev PRT_MAC_CFG_MAX_FRAME : Fld := ⟨2, 14⟩
abbrev PRT_PORT_STATUS_STATE : Fld := ⟨0, 2⟩
abbrev PRT_PORT_STATUS_PARK : Fld := ⟨2, 2⟩
abbrev PRT_PORT_STATUS_LOCAL_FAULT : Fld := ⟨4, 1⟩
abbrev PRT_PORT_STATUS_REMOTE_FAULT : Fld := ⟨5, 1⟩
abbrev PRT_PORT_STATUS_DOWN_SEEN : Fld := ⟨6, 1⟩
abbrev PRT_FC_CFG_FC_MODE : Fld := ⟨0, 2⟩
abbrev PRT_FC_CFG_PFC_EN : Fld := ⟨8, 8⟩
abbrev PRT_FC_CFG_QUANTA : Fld := ⟨16, 16⟩
abbrev PRT_PFC_WM_XOFF : Fld := ⟨0, 16⟩
abbrev PRT_PFC_WM_XON : Fld := ⟨16, 16⟩
abbrev PRT_PFC_STATUS_TX_XOFF : Fld := ⟨0, 8⟩
abbrev PRT_PFC_STATUS_RX_PAUSED : Fld := ⟨8, 8⟩
abbrev PRT_PARK_CFG_WINDOW : Fld := ⟨0, 16⟩
abbrev PRT_PARK_CFG_STALE : Fld := ⟨16, 16⟩
abbrev PRT_PARK_CAP_CAPACITY : Fld := ⟨0, 16⟩
abbrev PRT_PFC_MAP0_CLASS0 : Fld := ⟨0, 3⟩
abbrev PRT_PFC_MAP0_CLASS1 : Fld := ⟨3, 3⟩
abbrev PRT_PFC_MAP0_CLASS2 : Fld := ⟨6, 3⟩
abbrev PRT_PFC_MAP0_CLASS3 : Fld := ⟨9, 3⟩
abbrev PRT_PFC_MAP0_CLASS4 : Fld := ⟨12, 3⟩
abbrev PRT_PFC_MAP0_CLASS5 : Fld := ⟨15, 3⟩
abbrev PRT_PFC_MAP0_CLASS6 : Fld := ⟨18, 3⟩
abbrev PRT_PFC_MAP0_CLASS7 : Fld := ⟨21, 3⟩
abbrev PRT_PFC_MAP1_CLASS8 : Fld := ⟨0, 3⟩
abbrev PRT_PFC_MAP1_CLASS9 : Fld := ⟨3, 3⟩
abbrev PRT_PFC_MAP1_CLASS10 : Fld := ⟨6, 3⟩
abbrev PRT_PFC_MAP1_CLASS11 : Fld := ⟨9, 3⟩
abbrev PRT_PFC_MAP1_CLASS12 : Fld := ⟨12, 3⟩
abbrev PRT_PFC_MAP1_CLASS13 : Fld := ⟨15, 3⟩
abbrev PRT_PFC_MAP1_CLASS14 : Fld := ⟨18, 3⟩
abbrev PRT_PFC_MAP1_CLASS15 : Fld := ⟨21, 3⟩
abbrev PIP_PORT_CFG_KEY_MODE : Fld := ⟨0, 1⟩
abbrev PIP_PORT_CFG_TUNNEL : Fld := ⟨1, 2⟩
abbrev PIP_PORT_CFG_MPLS_EN : Fld := ⟨3, 1⟩
abbrev PIP_PORT_CFG_PORT_LABEL : Fld := ⟨8, 8⟩
abbrev PIP_PORT_DEF_A_CLASS : Fld := ⟨0, 4⟩
abbrev PIP_PORT_DEF_A_COLOUR : Fld := ⟨4, 2⟩
abbrev PIP_PORT_DEF_A_DISP : Fld := ⟨6, 2⟩
abbrev PIP_PORT_DEF_A_STEER : Fld := ⟨8, 1⟩
abbrev PIP_PORT_DEF_A_RECIRC : Fld := ⟨9, 2⟩
abbrev PIP_PORT_DEF_A_COPY_HOST : Fld := ⟨11, 1⟩
abbrev PIP_PORT_DEF_A_RING : Fld := ⟨12, 5⟩
abbrev PIP_PORT_DEF_A_REDIR : Fld := ⟨17, 1⟩
abbrev PIP_PORT_DEF_A_NO_LEARN : Fld := ⟨18, 1⟩
abbrev PIP_PORT_DEF_A_LKP : Fld := ⟨19, 4⟩
abbrev PIP_PORT_DEF_B_PORT : Fld := ⟨0, 10⟩
abbrev PIP_TBL_CMD_OP : Fld := ⟨0, 4⟩
abbrev PIP_TBL_CMD_TABLE : Fld := ⟨8, 8⟩
abbrev PIP_TBL_CMD_INDEX : Fld := ⟨16, 14⟩
abbrev PIP_TBL_CMD_GO : Fld := ⟨31, 1⟩
abbrev PIP_TBL_STATUS_CODE : Fld := ⟨0, 8⟩
abbrev PIP_TBL_STATUS_SESSION : Fld := ⟨8, 8⟩
abbrev PIP_TBL_STATUS_OVERRUN : Fld := ⟨16, 1⟩
abbrev PIP_TBL_STATUS_VIS_BOTH : Fld := ⟨17, 1⟩
abbrev PIP_TBL_DATA_WORD : Fld := ⟨0, 32⟩
abbrev PIP_DPI_CFG_EN : Fld := ⟨0, 1⟩
abbrev PIP_DPI_CFG_OVERFLOW : Fld := ⟨1, 2⟩
abbrev PIP_DPI_STATUS_OCCUPANCY : Fld := ⟨0, 16⟩
abbrev PIP_DPI_STATUS_OVERFLOW_SEEN : Fld := ⟨16, 1⟩
abbrev PIP_TUN_PORTS_VXLAN_PORT : Fld := ⟨0, 16⟩
abbrev PIP_TUN_PORTS_GENEVE_PORT : Fld := ⟨16, 16⟩
abbrev PIP_TPID_TPID_ALT : Fld := ⟨0, 16⟩
abbrev FWD_TBL_CMD_OP : Fld := ⟨0, 4⟩
abbrev FWD_TBL_CMD_TABLE : Fld := ⟨8, 8⟩
abbrev FWD_TBL_CMD_GO : Fld := ⟨31, 1⟩
abbrev FWD_TBL_STATUS_CODE : Fld := ⟨0, 8⟩
abbrev FWD_TBL_STATUS_SESSION : Fld := ⟨8, 8⟩
abbrev FWD_TBL_STATUS_OVERRUN : Fld := ⟨16, 1⟩
abbrev FWD_TBL_DATA_WORD : Fld := ⟨0, 32⟩
abbrev FWD_HASH_SEED1_SEED : Fld := ⟨0, 32⟩
abbrev FWD_HASH_SEED2_SEED : Fld := ⟨0, 32⟩
abbrev FWD_REHASH_SEED1_SEED : Fld := ⟨0, 32⟩
abbrev FWD_REHASH_SEED2_SEED : Fld := ⟨0, 32⟩
abbrev FWD_REHASH_CTL_GO : Fld := ⟨0, 1⟩
abbrev FWD_HASH_STATUS_NEEDED : Fld := ⟨0, 1⟩
abbrev FWD_HASH_STATUS_STATE : Fld := ⟨1, 3⟩
abbrev FWD_HASH_STATUS_COPY0 : Fld := ⟨4, 1⟩
abbrev FWD_HASH_STATUS_COPY1 : Fld := ⟨5, 1⟩
abbrev FWD_LKP_A_KTYPE : Fld := ⟨0, 3⟩
abbrev FWD_LKP_A_DOMAIN_SRC : Fld := ⟨3, 2⟩
abbrev FWD_LKP_A_LEARN : Fld := ⟨5, 1⟩
abbrev FWD_LKP_A_PROMOTE : Fld := ⟨6, 1⟩
abbrev FWD_LKP_A_MISS_DISP : Fld := ⟨7, 2⟩
abbrev FWD_LKP_A_MISS_RING : Fld := ⟨9, 5⟩
abbrev FWD_LKP_A_NO_HAIRPIN : Fld := ⟨14, 1⟩
abbrev FWD_LKP_B_DOMAIN_CONST : Fld := ⟨0, 16⟩
abbrev FWD_LKP_B_MISS_MGID : Fld := ⟨16, 16⟩
abbrev FWD_LEARN_CFG_MAX_LEARNED : Fld := ⟨0, 26⟩
abbrev FWD_LEARN_CFG_MOVE_EN : Fld := ⟨26, 1⟩
abbrev FWD_LEARN_CFG_DOWN_FLUSH : Fld := ⟨27, 1⟩
abbrev FWD_CARAWAY_CFG_PERIOD : Fld := ⟨0, 16⟩
abbrev FWD_CARAWAY_CFG_T1_DECAY : Fld := ⟨16, 8⟩
abbrev FWD_CARAWAY_CFG_T1_EN : Fld := ⟨24, 1⟩
abbrev FWD_ENTRIES_KEYS : Fld := ⟨0, 26⟩
abbrev FWD_LEARNED_ENTRIES_COUNT : Fld := ⟨0, 26⟩
abbrev FWD_CARAWAY_STATUS_FLUSH_BUSY : Fld := ⟨0, 1⟩
abbrev FWD_CARAWAY_STATUS_AGING_HELD : Fld := ⟨1, 1⟩
abbrev SWC_Q_CFG_WEIGHT : Fld := ⟨0, 8⟩
abbrev SWC_Q_CFG_MIN_RATE : Fld := ⟨8, 14⟩
abbrev SWC_Q_STATUS_OCC : Fld := ⟨0, 21⟩
abbrev SWC_Q_STATUS_SPILLED : Fld := ⟨21, 1⟩
abbrev SWC_Q_STATUS_BELOW_MIN : Fld := ⟨22, 1⟩
abbrev SWC_Q_STATUS_LATE : Fld := ⟨23, 1⟩
abbrev SWC_HIST_CFG_CLASSES : Fld := ⟨0, 16⟩
abbrev SWC_HIST_CFG_MIN_EXP : Fld := ⟨16, 5⟩
abbrev SWC_HIST_CFG_EN : Fld := ⟨21, 1⟩
abbrev SWC_HIST_CFG_GEN : Fld := ⟨24, 8⟩
abbrev SWC_CLASS_CFG_TIME : Fld := ⟨0, 1⟩
abbrev SWC_CLASS_CFG_EXPRESS : Fld := ⟨1, 1⟩
abbrev SWC_CLASS_CFG_SPILL_EN : Fld := ⟨2, 1⟩
abbrev SWC_CLASS_CFG_ALPHA : Fld := ⟨3, 3⟩
abbrev SWC_CLASS_CFG_RESERVE : Fld := ⟨8, 6⟩
abbrev SWC_CLASS_CFG_LAT_TARGET : Fld := ⟨16, 8⟩
abbrev SWC_RED_PROF_MIN : Fld := ⟨0, 12⟩
abbrev SWC_RED_PROF_MAX : Fld := ⟨12, 12⟩
abbrev SWC_RED_PROF_PMAX : Fld := ⟨24, 8⟩
abbrev SWC_RED_CFG_WEIGHT_EXP : Fld := ⟨0, 4⟩
abbrev SWC_RED_CFG_SEED : Fld := ⟨16, 16⟩
abbrev SWC_BUF_CFG_HR_POOL : Fld := ⟨0, 10⟩
abbrev SWC_BUF_CFG_HEADROOM : Fld := ⟨10, 8⟩
abbrev SWC_SPILL_CFG_EN : Fld := ⟨0, 1⟩
abbrev SWC_SPILL_CFG_ON : Fld := ⟨8, 16⟩
abbrev SWC_SPILL_CFG_MAX : Fld := ⟨24, 8⟩
abbrev SWC_TIME_CFG_BURST : Fld := ⟨0, 8⟩
abbrev SWC_BUF_STATUS_SHARED_FREE : Fld := ⟨0, 21⟩
abbrev SWC_SPILL_STATUS_STACKS : Fld := ⟨0, 4⟩
abbrev SWC_SPILL_STATUS_REFUSING : Fld := ⟨4, 1⟩
abbrev SWC_SPILL_CELLS_CELLS : Fld := ⟨0, 32⟩
abbrev SWC_TBL_CMD_OP : Fld := ⟨0, 4⟩
abbrev SWC_TBL_CMD_TABLE : Fld := ⟨8, 8⟩
abbrev SWC_TBL_CMD_GO : Fld := ⟨31, 1⟩
abbrev SWC_TBL_STATUS_CODE : Fld := ⟨0, 8⟩
abbrev SWC_TBL_STATUS_SESSION : Fld := ⟨8, 8⟩
abbrev SWC_TBL_STATUS_OVERRUN : Fld := ⟨16, 1⟩
abbrev SWC_TBL_INDEX_INDEX : Fld := ⟨0, 16⟩
abbrev SWC_TBL_DATA_WORD : Fld := ⟨0, 32⟩
abbrev TIM_SAF_STATUS_ACTIVE : Fld := ⟨0, 2⟩
abbrev TIM_SAF_STATUS_STANDBY_OK : Fld := ⟨2, 1⟩
abbrev TIM_SAF_STATUS_TIME_SET : Fld := ⟨3, 1⟩
abbrev TIM_SAF_STATUS_SLEWING : Fld := ⟨4, 1⟩
abbrev TIM_SAF_STATUS_CMD_RESULT : Fld := ⟨5, 2⟩
abbrev TIM_SAF_STATUS_ENG_A : Fld := ⟨8, 2⟩
abbrev TIM_SAF_STATUS_ENG_B : Fld := ⟨10, 2⟩
abbrev TIM_SAF_INC_L_FRAC : Fld := ⟨0, 32⟩
abbrev TIM_SAF_INC_H_INT : Fld := ⟨0, 32⟩
abbrev TIM_SAF_TIME_F_FRAC : Fld := ⟨0, 16⟩
abbrev TIM_SAF_TIME_L_NS : Fld := ⟨0, 32⟩
abbrev TIM_SAF_TIME_H_NS : Fld := ⟨0, 32⟩
abbrev TIM_SAF_VAL_L_VAL : Fld := ⟨0, 32⟩
abbrev TIM_SAF_VAL_H_VAL : Fld := ⟨0, 32⟩
abbrev TIM_SAF_CMD_OP : Fld := ⟨0, 2⟩
abbrev TIM_SAF_CFG_SLEW_PPB : Fld := ⟨0, 16⟩
abbrev TIM_ENG_CTL_SWAP : Fld := ⟨0, 1⟩
abbrev TIM_OSC_QUAL_CFG_WARM_USE : Fld := ⟨0, 1⟩
abbrev TIM_OSC_QUAL_CFG_WARM_POL : Fld := ⟨1, 1⟩
abbrev TIM_OSC_QUAL_CFG_LIMIT : Fld := ⟨8, 8⟩
abbrev TIM_OSC_QUAL_CFG_COUNT : Fld := ⟨16, 8⟩
abbrev TIM_OSC_QUAL_CFG_TIMEOUT : Fld := ⟨24, 8⟩
abbrev TIM_OSC_QUAL_STATUS_STATE : Fld := ⟨0, 3⟩
abbrev TIM_OSC_QUAL_STATUS_SLOW : Fld := ⟨3, 1⟩
abbrev TIM_OSC_QUAL_STATUS_PASSED : Fld := ⟨8, 8⟩
abbrev TIM_OSC_QUAL_STATUS_LAST_DELTA : Fld := ⟨16, 16⟩
abbrev TIM_TRIG_CTRL_EN : Fld := ⟨0, 1⟩
abbrev TIM_TRIG_CTRL_WIDTH : Fld := ⟨8, 24⟩
abbrev TIM_TRIG_START_F_FRAC : Fld := ⟨0, 16⟩
abbrev TIM_TRIG_START_L_NS : Fld := ⟨0, 32⟩
abbrev TIM_TRIG_START_H_NS : Fld := ⟨0, 32⟩
abbrev TIM_TRIG_PERIOD_NS : Fld := ⟨0, 32⟩
abbrev TIM_TRIG_COUNT_COUNT : Fld := ⟨0, 32⟩
abbrev TIM_TRIG_STATUS_ARMED : Fld := ⟨0, 1⟩
abbrev TIM_TRIG_STATUS_DONE : Fld := ⟨1, 1⟩
abbrev TIM_TRIG_STATUS_MISSED : Fld := ⟨2, 1⟩
abbrev TIM_TRIG_STATUS_LATE : Fld := ⟨3, 1⟩
abbrev TIM_TRIG_STATUS_SUPPRESSED : Fld := ⟨4, 1⟩
abbrev TIM_TRIG_FIRED_FIRED : Fld := ⟨0, 32⟩
abbrev TIM_PTP_PORT_ROLE : Fld := ⟨0, 2⟩
abbrev TIM_PTP_PORT_ONE_STEP : Fld := ⟨2, 1⟩
abbrev TIM_PTP_PORT_HA : Fld := ⟨3, 1⟩
abbrev TIM_PTP_PORT_TC_EN : Fld := ⟨4, 1⟩
abbrev TIM_PTP_PORT_DEST : Fld := ⟨5, 1⟩
abbrev TIM_PTP_PORT_LOG_SYNC : Fld := ⟨8, 4⟩
abbrev TIM_PTP_PORT_LOG_DREQ : Fld := ⟨12, 4⟩
abbrev TIM_PTP_PORT_LOG_ANN : Fld := ⟨16, 4⟩
abbrev TIM_PTP_PORT_ANN_TIMEOUT : Fld := ⟨20, 4⟩
abbrev TIM_PORT_ASYM_ASYM : Fld := ⟨0, 32⟩
abbrev TIM_PORT_LAT_RX_LAT : Fld := ⟨0, 16⟩
abbrev TIM_PORT_LAT_TX_LAT : Fld := ⟨16, 16⟩
abbrev TIM_PHASE_ACC : Fld := ⟨0, 32⟩
abbrev TIM_PORT_STATUS_PH_VALID : Fld := ⟨0, 1⟩
abbrev TIM_PORT_STATUS_PH_OOR : Fld := ⟨1, 1⟩
abbrev TIM_PORT_STATUS_L1_STATE : Fld := ⟨2, 3⟩
abbrev TIM_PORT_STATUS_ANN_OK : Fld := ⟨5, 1⟩
abbrev TIM_PORT_STATUS_GATE_PENDING : Fld := ⟨6, 1⟩
abbrev TIM_PORT_STATUS_GATE_ACTIVE : Fld := ⟨7, 1⟩
abbrev TIM_PTP_OFFSET_OFFSET : Fld := ⟨0, 32⟩
abbrev TIM_PTP_DELAY_DELAY : Fld := ⟨0, 32⟩
abbrev TIM_PTP_CFG_DOMAIN : Fld := ⟨0, 8⟩
abbrev TIM_PTP_CFG_PRIORITY1 : Fld := ⟨8, 8⟩
abbrev TIM_PTP_CFG_PRIORITY2 : Fld := ⟨16, 8⟩
abbrev TIM_PTP_CFG_CLASS : Fld := ⟨24, 4⟩
abbrev TIM_PTP_UTC_UTC_OFFSET : Fld := ⟨0, 16⟩
abbrev TIM_PTP_UTC_UTC_VALID : Fld := ⟨16, 1⟩
abbrev TIM_PTP_UTC_LEAP61 : Fld := ⟨17, 1⟩
abbrev TIM_PTP_UTC_LEAP59 : Fld := ⟨18, 1⟩
abbrev TIM_TBL_CMD_OP : Fld := ⟨0, 4⟩
abbrev TIM_TBL_CMD_TABLE : Fld := ⟨8, 8⟩
abbrev TIM_TBL_CMD_INDEX : Fld := ⟨16, 15⟩
abbrev TIM_TBL_CMD_GO : Fld := ⟨31, 1⟩
abbrev TIM_TBL_STATUS_CODE : Fld := ⟨0, 8⟩
abbrev TIM_TBL_STATUS_SESSION : Fld := ⟨8, 8⟩
abbrev TIM_TBL_STATUS_OVERRUN : Fld := ⟨16, 1⟩
abbrev TIM_TBL_DATA_WORD : Fld := ⟨0, 32⟩
abbrev TIM_SEL_CFG_MODE : Fld := ⟨0, 2⟩
abbrev TIM_SEL_CFG_REVERTIVE : Fld := ⟨2, 1⟩
abbrev TIM_SEL_CFG_PJ_MODE : Fld := ⟨3, 1⟩
abbrev TIM_SEL_CFG_FORCE_SLOT : Fld := ⟨4, 3⟩
abbrev TIM_SEL_CFG_PJ_THRESH : Fld := ⟨8, 8⟩
abbrev TIM_SEL_CFG_DISAGREE : Fld := ⟨16, 8⟩
abbrev TIM_SEL_CFG_FREQ_LIMIT : Fld := ⟨24, 8⟩
abbrev TIM_SEL_TIMES_WTR : Fld := ⟨0, 16⟩
abbrev TIM_SEL_TIMES_QUAL_TIME : Fld := ⟨16, 8⟩
abbrev TIM_HO_CFG_HO_AVG : Fld := ⟨0, 12⟩
abbrev TIM_HO_CFG_HO_GUARD : Fld := ⟨12, 8⟩
abbrev TIM_HO_CFG_DRIFT_EN : Fld := ⟨20, 1⟩
abbrev TIM_HO_CFG_HO_LIMIT : Fld := ⟨24, 8⟩
abbrev TIM_SEL_STATUS_STATE : Fld := ⟨0, 3⟩
abbrev TIM_SEL_STATUS_ACTIVE : Fld := ⟨3, 3⟩
abbrev TIM_SEL_STATUS_ACTIVE_VALID : Fld := ⟨6, 1⟩
abbrev TIM_SEL_STATUS_TARGET : Fld := ⟨7, 3⟩
abbrev TIM_SEL_STATUS_SETTLED : Fld := ⟨10, 1⟩
abbrev TIM_SEL_STATUS_ALIGNED : Fld := ⟨11, 1⟩
abbrev TIM_SEL_STATUS_HO_VALID : Fld := ⟨12, 1⟩
abbrev TIM_SEL_STATUS_HO_EXPIRED : Fld := ⟨13, 1⟩
abbrev TIM_SEL_STATUS_DRIFT_VALID : Fld := ⟨14, 1⟩
abbrev TIM_SEL_STATUS_DISAGREE : Fld := ⟨15, 1⟩
abbrev TIM_SEL_STATUS_PHASE_JUMP : Fld := ⟨16, 1⟩
abbrev TIM_SEL_STATUS_SYNTONIZED : Fld := ⟨17, 1⟩
abbrev TIM_HO_FREQ_FREQ : Fld := ⟨0, 32⟩
abbrev TIM_HO_DRIFT_DRIFT : Fld := ⟨0, 32⟩
abbrev TIM_PJ_LAST_VALUE : Fld := ⟨0, 32⟩
abbrev TIM_PJ_ABSORBED_VALUE : Fld := ⟨0, 32⟩
abbrev TIM_SERVO_ERR_VALUE : Fld := ⟨0, 32⟩
abbrev TIM_REF_CFG_PRIO : Fld := ⟨0, 4⟩
abbrev TIM_REF_CFG_KIND : Fld := ⟨4, 3⟩
abbrev TIM_REF_CFG_PORT : Fld := ⟨8, 10⟩
abbrev TIM_REF_CFG_BW : Fld := ⟨18, 4⟩
abbrev TIM_REF_CFG_TBW : Fld := ⟨22, 4⟩
abbrev TIM_REF_DELAY_DELAY : Fld := ⟨0, 32⟩
abbrev TIM_REF_STATUS_STATE : Fld := ⟨0, 3⟩
abbrev TIM_REF_STATUS_LOS : Fld := ⟨3, 1⟩
abbrev TIM_REF_STATUS_FREQ_FAULT : Fld := ⟨4, 1⟩
abbrev TIM_REF_STATUS_PHASE_FAULT : Fld := ⟨5, 1⟩
abbrev TIM_REF_STATUS_PTP_FAULT : Fld := ⟨6, 1⟩
abbrev TIM_REF_STATUS_PORT_FAULT : Fld := ⟨7, 1⟩
abbrev TIM_REF_STATUS_DEVIATES : Fld := ⟨8, 1⟩
abbrev TIM_REF_STATUS_WTR : Fld := ⟨9, 1⟩
abbrev TIM_REF_STATUS_BW_USED : Fld := ⟨10, 4⟩
abbrev TIM_REF_STATUS_FREQ_VALID : Fld := ⟨14, 1⟩
abbrev TIM_REF_STATUS_REMAIN : Fld := ⟨16, 16⟩
abbrev TIM_REF_FREQ_FREQ : Fld := ⟨0, 32⟩
abbrev TIM_PPS_OFS_L_OFS : Fld := ⟨0, 32⟩
abbrev TIM_PPS_OFS_H_OFS : Fld := ⟨0, 16⟩
abbrev TIM_ANN_CFG_CLASS_LOCKED : Fld := ⟨0, 8⟩
abbrev TIM_ANN_CFG_CLASS_HOLD : Fld := ⟨8, 8⟩
abbrev TIM_ANN_CFG_CLASS_FREE : Fld := ⟨16, 8⟩
abbrev TIM_ANN_CFG_ACC_LOCKED : Fld := ⟨24, 8⟩
abbrev TIM_ANN_VAR_VAR : Fld := ⟨0, 16⟩
abbrev TIM_ANN_TSRC_TSRC0 : Fld := ⟨0, 8⟩
abbrev TIM_ANN_TSRC_TSRC1 : Fld := ⟨8, 8⟩
abbrev TIM_ANN_TSRC_TSRC2 : Fld := ⟨16, 8⟩
abbrev TIM_ANN_TSRC_TSRC3 : Fld := ⟨24, 8⟩
abbrev TIM_TIC_CFG_MODE : Fld := ⟨0, 2⟩
abbrev TIM_TIC_CFG_EDGE : Fld := ⟨2, 2⟩
abbrev TIM_TIC_CFG_HYST : Fld := ⟨4, 2⟩
abbrev TIM_TIC_CFG_ORDERED : Fld := ⟨6, 1⟩
abbrev TIM_TIC_CFG_TIMEBASE : Fld := ⟨7, 1⟩
abbrev TIM_TIC_CFG_STOP_CH : Fld := ⟨8, 4⟩
abbrev TIM_TIC_CFG_START_POL : Fld := ⟨12, 1⟩
abbrev TIM_TIC_CFG_STOP_POL : Fld := ⟨13, 1⟩
abbrev TIM_TIC_CFG_PRESCALE : Fld := ⟨14, 4⟩
abbrev TIM_TIC_CFG_LIMIT_EXP : Fld := ⟨18, 6⟩
abbrev TIM_TIC_CFG2_HOLDOFF : Fld := ⟨0, 16⟩
abbrev TIM_TIC_CFG2_GATE : Fld := ⟨16, 16⟩
abbrev TIM_TIC_DELAY_DELAY : Fld := ⟨0, 32⟩
abbrev TIM_TIC_STATUS_FILL : Fld := ⟨0, 7⟩
abbrev TIM_TIC_STATUS_OVERFLOW : Fld := ⟨7, 1⟩
abbrev TIM_TIC_STATUS_CAL_KIND : Fld := ⟨8, 2⟩
abbrev TIM_TIC_STATUS_CAL_STALE : Fld := ⟨10, 1⟩
abbrev TIM_TIC_STATUS_ON_SPARE : Fld := ⟨11, 1⟩
abbrev TIM_TIC_STATUS_OPEN : Fld := ⟨12, 1⟩
abbrev TIM_TIC_RES_ST_STATUS : Fld := ⟨0, 4⟩
abbrev TIM_TIC_RES_ST_TB : Fld := ⟨4, 2⟩
abbrev TIM_TIC_RES_ST_STEPPED : Fld := ⟨6, 1⟩
abbrev TIM_TIC_RES_ST_BIN_A : Fld := ⟨8, 10⟩
abbrev TIM_TIC_RES_ST_BIN_B : Fld := ⟨18, 10⟩
abbrev TIM_TIC_RES_L_VALUE : Fld := ⟨0, 32⟩
abbrev TIM_TIC_RES_H_VALUE : Fld := ⟨0, 32⟩
abbrev TIM_TIC_RES_CNT_COUNT : Fld := ⟨0, 32⟩
abbrev TIM_TIC_CAL_CFG_PERIOD : Fld := ⟨0, 8⟩
abbrev TIM_TIC_CAL_CFG_SOURCE : Fld := ⟨8, 2⟩
abbrev TIM_TIC_CAL_CFG_CAL_IN_KIND : Fld := ⟨10, 1⟩
abbrev TIM_TIC_CAL_CFG_TEMP_STEP : Fld := ⟨12, 4⟩
abbrev TIM_TIC_CAL_STATUS_POS : Fld := ⟨0, 5⟩
abbrev TIM_TIC_CAL_STATUS_PHASE : Fld := ⟨5, 3⟩
abbrev TIM_TIC_CAL_STATUS_INT_SRC_OK : Fld := ⟨8, 1⟩
abbrev TIM_TIC_CAL_STATUS_CAL_IN_OK : Fld := ⟨9, 1⟩
abbrev TIM_TIC_CAL_STATUS_SPARE_OK : Fld := ⟨10, 1⟩
abbrev HLT_HEALTH_CFG_IRQ_MIN : Fld := ⟨0, 2⟩
abbrev HLT_HEALTH_CFG_CAL_FREEZE : Fld := ⟨2, 1⟩
abbrev HLT_HEALTH_STATUS_DEGRADED_ACTIVE : Fld := ⟨0, 8⟩
abbrev HLT_HEALTH_STATUS_FAULT_ACTIVE : Fld := ⟨8, 8⟩
abbrev HLT_HEALTH_STATUS_WORST : Fld := ⟨16, 2⟩
abbrev HLT_HEALTH_STATUS_FROZEN : Fld := ⟨18, 1⟩
abbrev HLT_LOG_HEAD_SEQ : Fld := ⟨0, 32⟩
abbrev HLT_SUMAC_CFG_THRESH : Fld := ⟨0, 8⟩
abbrev HLT_SUMAC_CFG_HOLD : Fld := ⟨8, 8⟩
abbrev HLT_SUMAC_CFG_RESPARE : Fld := ⟨16, 1⟩
abbrev HLT_SPARES_PARSE : Fld := ⟨0, 8⟩
abbrev HLT_SPARES_BANKS : Fld := ⟨8, 7⟩
abbrev HLT_SPARES_ITER : Fld := ⟨15, 1⟩
abbrev HLT_SPARES_PLANE : Fld := ⟨16, 1⟩
abbrev HLT_MARGIN_MARGIN : Fld := ⟨0, 16⟩
abbrev HLT_MARGIN_KIND : Fld := ⟨16, 4⟩
abbrev HLT_MARGIN_INDEX : Fld := ⟨20, 12⟩
abbrev HLT_AVS_CFG_FLOOR : Fld := ⟨0, 10⟩
abbrev HLT_AVS_CFG_CEIL : Fld := ⟨10, 10⟩
abbrev HLT_AVS_CFG_UP : Fld := ⟨20, 5⟩
abbrev HLT_AVS_CFG_DOWN : Fld := ⟨25, 5⟩
abbrev HLT_AVS_CFG_EN : Fld := ⟨30, 1⟩
abbrev HLT_AVS_STATUS_REQUEST : Fld := ⟨0, 10⟩
abbrev HLT_AVS_STATUS_READBACK : Fld := ⟨10, 10⟩
abbrev HLT_AVS_STATUS_AT_CEIL : Fld := ⟨20, 1⟩
abbrev HLT_AVS_STATUS_NO_RESPONSE : Fld := ⟨21, 1⟩
abbrev HLT_TEMP_CFG_WARN : Fld := ⟨0, 8⟩
abbrev HLT_TEMP_CFG_CRIT : Fld := ⟨8, 8⟩
abbrev HLT_TEMP_TEMP : Fld := ⟨0, 12⟩
abbrev HLT_TEMP_VALID : Fld := ⟨12, 1⟩
abbrev HLT_LOG_WORD : Fld := ⟨0, 32⟩
abbrev HLT_CNT_VAL_H_VALUE : Fld := ⟨0, 32⟩
abbrev HLT_CNT_TIME_L_NS : Fld := ⟨0, 32⟩
abbrev HLT_CNT_TIME_H_NS : Fld := ⟨0, 16⟩
abbrev HLT_CNT_TIME_H_STEP_SEQ : Fld := ⟨16, 16⟩
abbrev HLT_CNT_FLAGS_STATE : Fld := ⟨0, 2⟩
abbrev HLT_CNT_FLAGS_WRAP : Fld := ⟨2, 1⟩
abbrev HLT_CAP_MEMBER_ID : Fld := ⟨0, 20⟩
abbrev HLT_CAP_MEMBER_VALID : Fld := ⟨31, 1⟩
abbrev HLT_CAP_VAL_L_VALUE : Fld := ⟨0, 32⟩
abbrev HLT_CAP_VAL_H_VALUE : Fld := ⟨0, 32⟩
abbrev HLT_CAP_TIME_L_NS : Fld := ⟨0, 32⟩
abbrev HLT_CAP_TIME_H_NS : Fld := ⟨0, 16⟩
abbrev HLT_CAP_TIME_H_STEP_SEQ : Fld := ⟨16, 16⟩
abbrev HLT_CAP_SEQ_SEQ : Fld := ⟨0, 32⟩
abbrev HLT_CAP_WRAP_L_WRAP : Fld := ⟨0, 32⟩
abbrev HLT_CAP_WRAP_H_WRAP : Fld := ⟨0, 32⟩
abbrev CNT_VALUE : Fld := ⟨0, 32⟩
end F

/-- The field table of a register (R7, R10, R11), in the manual's order. -/
def Reg.fields : Reg → List FieldInfo
  | .BLKCTL _ _ _ => [⟨F.BLKCTL_RST, .w1s, .e, false⟩, ⟨F.BLKCTL_TIMEOUT, .w1c, .e, false⟩]
  | .HST_PCIE_STATUS => [⟨F.HST_PCIE_STATUS_LINK_UP, .ro, .b, false⟩, ⟨F.HST_PCIE_STATUS_SPEED, .ro, .b, false⟩, ⟨F.HST_PCIE_STATUS_WIDTH, .ro, .b, false⟩, ⟨F.HST_PCIE_STATUS_MSIX_EN, .ro, .b, false⟩, ⟨F.HST_PCIE_STATUS_FUNC_MASK, .ro, .b, false⟩, ⟨F.HST_PCIE_STATUS_LINK_LOST, .w1c, .b, false⟩]
  | .HST_SVC_CFG => [⟨F.HST_SVC_CFG_EN, .rw, .b, true⟩]
  | .HST_SVC_STATUS => [⟨F.HST_SVC_STATUS_LINK_UP, .ro, .b, false⟩, ⟨F.HST_SVC_STATUS_BLOCK_LOCK, .ro, .b, false⟩, ⟨F.HST_SVC_STATUS_LINK_CHANGED, .w1c, .b, false⟩]
  | .HST_RING_GLOBAL => [⟨F.HST_RING_GLOBAL_DQ_LIMIT, .rw, .b, true⟩, ⟨F.HST_RING_GLOBAL_HOLD_LIMIT, .rw, .b, true⟩]
  | .HST_MBX_DOORBELL _ => [⟨F.HST_MBX_DOORBELL_GO, .w1s, .b, false⟩, ⟨F.HST_MBX_DOORBELL_DONE, .w1c, .b, false⟩, ⟨F.HST_MBX_DOORBELL_OVERRUN, .w1c, .b, false⟩]
  | .HST_MBX_STATE _ => [⟨F.HST_MBX_STATE_STATE, .ro, .b, false⟩, ⟨F.HST_MBX_STATE_BOUND, .ro, .b, false⟩, ⟨F.HST_MBX_STATE_ROLE, .ro, .b, false⟩]
  | .HST_MBX_REQ _ _ => [⟨F.HST_MBX_REQ_WORD, .rw, .b, false⟩]
  | .HST_MBX_RSP _ _ => [⟨F.HST_MBX_RSP_WORD, .ro, .b, false⟩]
  | .HST_WIN_STATUS => [⟨F.HST_WIN_STATUS_BOUND, .ro, .b, false⟩, ⟨F.HST_WIN_STATUS_CHANNEL, .ro, .b, false⟩, ⟨F.HST_WIN_STATUS_ERROR, .w1c, .b, false⟩, ⟨F.HST_WIN_STATUS_LAST_STATUS, .ro, .b, false⟩]
  | .HST_RING_CFG _ => [⟨F.HST_RING_CFG_EN, .rw, .b, false⟩, ⟨F.HST_RING_CFG_SIZE_LOG2, .rw, .b, false⟩, ⟨F.HST_RING_CFG_BUF, .rw, .b, false⟩, ⟨F.HST_RING_CFG_IRQ_EN, .rw, .b, false⟩]
  | .HST_RING_BASE_L _ => [⟨F.HST_RING_BASE_L_ADDR, .rw, .b, false⟩]
  | .HST_RING_BASE_H _ => [⟨F.HST_RING_BASE_H_ADDR, .rw, .b, false⟩]
  | .HST_RING_TAIL _ => [⟨F.HST_RING_TAIL_INDEX, .rw, .b, false⟩]
  | .HST_RING_HEAD _ => [⟨F.HST_RING_HEAD_INDEX, .ro, .b, false⟩]
  | .HST_RING_CPTR _ => [⟨F.HST_RING_CPTR_INDEX, .ro, .b, false⟩]
  | .HST_RING_ACK _ => [⟨F.HST_RING_ACK_INDEX, .rw, .b, false⟩]
  | .HST_RING_IRQ _ => [⟨F.HST_RING_IRQ_COUNT, .rw, .b, false⟩, ⟨F.HST_RING_IRQ_TIME, .rw, .b, false⟩]
  | .HST_RING_STATUS _ => [⟨F.HST_RING_STATUS_STATE, .ro, .b, false⟩, ⟨F.HST_RING_STATUS_ERR, .ro, .b, false⟩, ⟨F.HST_RING_STATUS_DROP_SEEN, .w1c, .b, false⟩, ⟨F.HST_RING_STATUS_HELD, .ro, .b, false⟩]
  | .HST_IRQ_SRC _ => [⟨F.HST_IRQ_SRC_PRIO, .rw, .b, true⟩, ⟨F.HST_IRQ_SRC_SENSE, .rw, .b, true⟩, ⟨F.HST_IRQ_SRC_MASK, .rw, .b, true⟩, ⟨F.HST_IRQ_SRC_ROUTE, .rw, .b, true⟩, ⟨F.HST_IRQ_SRC_TARGETS, .rw, .b, true⟩, ⟨F.HST_IRQ_SRC_PENDING, .w1c, .b, false⟩, ⟨F.HST_IRQ_SRC_IN_SERVICE, .ro, .b, false⟩, ⟨F.HST_IRQ_SRC_BOUND, .ro, .e, false⟩, ⟨F.HST_IRQ_SRC_BOUND_TGT, .ro, .e, false⟩]
  | .HST_IRQ_PEND _ => [⟨F.HST_IRQ_PEND_PENDING, .ro, .b, false⟩]
  | .HST_IRQ_TGT_CFG _ => [⟨F.HST_IRQ_TGT_CFG_THRESHOLD, .rw, .b, true⟩, ⟨F.HST_IRQ_TGT_CFG_ONLINE, .rw, .b, true⟩]
  | .HST_IRQ_CLAIM _ => [⟨F.HST_IRQ_CLAIM_SOURCE, .ro, .b, false⟩]
  | .HST_IRQ_EOI _ => [⟨F.HST_IRQ_EOI_SOURCE, .wo, .b, false⟩]
  | .HST_IRQ_TGT_STATUS _ => [⟨F.HST_IRQ_TGT_STATUS_CURRENT, .ro, .b, false⟩, ⟨F.HST_IRQ_TGT_STATUS_DEPTH, .ro, .b, false⟩, ⟨F.HST_IRQ_TGT_STATUS_NOTIFIED, .ro, .b, false⟩, ⟨F.HST_IRQ_TGT_STATUS_DELIVERABLE, .ro, .b, false⟩, ⟨F.HST_IRQ_TGT_STATUS_EOI_MISMATCH, .w1c, .b, false⟩]
  | .STW_ID_FAMILY => [⟨F.STW_ID_FAMILY_FAMILY, .ro, .b, false⟩]
  | .STW_ID_STEPPING => [⟨F.STW_ID_STEPPING_MINOR, .ro, .b, false⟩, ⟨F.STW_ID_STEPPING_MAJOR, .ro, .b, false⟩]
  | .STW_ID_CL => [⟨F.STW_ID_CL_HIGHEST, .ro, .b, false⟩, ⟨F.STW_ID_CL_OPERATING, .ro, .b, false⟩]
  | .STW_ID_PCI => [⟨F.STW_ID_PCI_VENDOR, .ro, .b, false⟩, ⟨F.STW_ID_PCI_DEVICE, .ro, .b, false⟩]
  | .STW_ID_SERIAL_L => [⟨F.STW_ID_SERIAL_L_SERIAL, .ro, .b, false⟩]
  | .STW_ID_SERIAL_H => [⟨F.STW_ID_SERIAL_H_SERIAL, .ro, .b, false⟩]
  | .STW_ID_LOT => [⟨F.STW_ID_LOT_LOT, .ro, .b, false⟩, ⟨F.STW_ID_LOT_WAFER, .ro, .b, false⟩]
  | .STW_ID_DIE => [⟨F.STW_ID_DIE_X, .ro, .b, false⟩, ⟨F.STW_ID_DIE_Y, .ro, .b, false⟩]
  | .STW_ID_MAC_L => [⟨F.STW_ID_MAC_L_BASE, .ro, .b, false⟩]
  | .STW_ID_MAC_H => [⟨F.STW_ID_MAC_H_BASE, .ro, .b, false⟩]
  | .STW_ID_FUSE => [⟨F.STW_ID_FUSE_SIGN_REQ, .ro, .b, false⟩, ⟨F.STW_ID_FUSE_IMAGE_KEY, .ro, .b, false⟩, ⟨F.STW_ID_FUSE_RECOVERY_KEY, .ro, .b, false⟩, ⟨F.STW_ID_FUSE_ECC_CORRECTED, .ro, .b, false⟩]
  | .STW_BOOT_STATUS => [⟨F.STW_BOOT_STATUS_STEP, .ro, .b, false⟩, ⟨F.STW_BOOT_STATUS_BANK, .ro, .b, false⟩, ⟨F.STW_BOOT_STATUS_IMAGE, .ro, .b, false⟩, ⟨F.STW_BOOT_STATUS_CAUSE, .ro, .b, false⟩, ⟨F.STW_BOOT_STATUS_DEGRADED, .ro, .b, false⟩, ⟨F.STW_BOOT_STATUS_SKIPPED, .ro, .b, false⟩]
  | .STW_BANK_STATE _ => [⟨F.STW_BANK_STATE_RESULT, .ro, .b, false⟩, ⟨F.STW_BANK_STATE_CHOSEN, .ro, .b, false⟩, ⟨F.STW_BANK_STATE_CL, .ro, .b, false⟩]
  | .STW_BANK_SEQ _ => [⟨F.STW_BANK_SEQ_SEQUENCE, .ro, .b, false⟩]
  | .STW_BOOT_STEP_TIME _ => [⟨F.STW_BOOT_STEP_TIME_MICROSECONDS, .ro, .b, false⟩]
  | .STW_RESET_CTL => [⟨F.STW_RESET_CTL_WARM, .wo, .e, false⟩, ⟨F.STW_RESET_CTL_RELOAD, .wo, .e, false⟩]
  | .STW_TXN_CFG => [⟨F.STW_TXN_CFG_DRAIN_LIMIT, .rw, .e, true⟩, ⟨F.STW_TXN_CFG_IDLE_TIMEOUT, .rw, .b, true⟩]
  | .STW_EPOCH_STATUS => [⟨F.STW_EPOCH_STATUS_SELECTOR, .ro, .b, false⟩, ⟨F.STW_EPOCH_STATUS_RETIRED_LIVE, .ro, .b, false⟩, ⟨F.STW_EPOCH_STATUS_WAITING, .ro, .b, false⟩, ⟨F.STW_EPOCH_STATUS_QUEUED, .ro, .b, false⟩]
  | .STW_EPOCH_NUMBER => [⟨F.STW_EPOCH_NUMBER_EPOCH, .ro, .b, false⟩]
  | .STW_PERSIST_STATUS => [⟨F.STW_PERSIST_STATUS_STATE, .ro, .b, false⟩, ⟨F.STW_PERSIST_STATUS_AGAIN, .ro, .b, false⟩, ⟨F.STW_PERSIST_STATUS_UPLOAD_PENDING, .ro, .b, false⟩, ⟨F.STW_PERSIST_STATUS_BANK, .ro, .b, false⟩, ⟨F.STW_PERSIST_STATUS_STATUS, .ro, .b, false⟩]
  | .STW_PAIR_STATUS => [⟨F.STW_PAIR_STATUS_ACTIVE, .ro, .b, false⟩, ⟨F.STW_PAIR_STATUS_STANDBY_OK, .ro, .b, false⟩, ⟨F.STW_PAIR_STATUS_STATE_A, .ro, .e, false⟩, ⟨F.STW_PAIR_STATUS_STATE_B, .ro, .e, false⟩, ⟨F.STW_PAIR_STATUS_GIVEUPS_A, .ro, .e, false⟩, ⟨F.STW_PAIR_STATUS_GIVEUPS_B, .ro, .e, false⟩, ⟨F.STW_PAIR_STATUS_LOST, .ro, .b, false⟩]
  | .STW_PAIR_CFG => [⟨F.STW_PAIR_CFG_ROTATE, .rw, .e, true⟩, ⟨F.STW_PAIR_CFG_SELFTEST_PERIOD, .rw, .e, true⟩]
  | .STW_PAIR_CTL => [⟨F.STW_PAIR_CTL_SWAP, .wo, .e, false⟩]
  | .LNE_GRP_CFG _ => [⟨F.LNE_GRP_CFG_EN, .st, .b, true⟩, ⟨F.LNE_GRP_CFG_RATE, .st, .b, true⟩]
  | .LNE_GRP_PLL_CFG _ => [⟨F.LNE_GRP_PLL_CFG_LOCK_WIN, .rw, .e, true⟩, ⟨F.LNE_GRP_PLL_CFG_UNLOCK_WIN, .rw, .e, true⟩, ⟨F.LNE_GRP_PLL_CFG_ATTEMPTS, .rw, .e, true⟩]
  | .LNE_GRP_STATUS _ => [⟨F.LNE_GRP_STATUS_STATE, .ro, .b, false⟩, ⟨F.LNE_GRP_STATUS_LOL_SEEN, .w1c, .b, false⟩, ⟨F.LNE_GRP_STATUS_ATTEMPT, .ro, .b, false⟩, ⟨F.LNE_GRP_STATUS_BAND, .ro, .e, false⟩, ⟨F.LNE_GRP_STATUS_GOOD_BAND, .ro, .e, false⟩]
  | .LNE_LANE_CFG _ => [⟨F.LNE_LANE_CFG_TX_INV, .rw, .b, true⟩, ⟨F.LNE_LANE_CFG_RX_INV, .rw, .b, true⟩, ⟨F.LNE_LANE_CFG_TRAIN_EN, .rw, .b, true⟩, ⟨F.LNE_LANE_CFG_SLEEP, .rw, .b, true⟩, ⟨F.LNE_LANE_CFG_ANISE_EN, .rw, .e, true⟩, ⟨F.LNE_LANE_CFG_PATTERN, .rw, .e, true⟩, ⟨F.LNE_LANE_CFG_LOOPBACK, .rw, .e, true⟩]
  | .LNE_LANE_STATUS _ => [⟨F.LNE_LANE_STATUS_STATE, .ro, .b, false⟩, ⟨F.LNE_LANE_STATUS_SIGNAL, .ro, .b, false⟩, ⟨F.LNE_LANE_STATUS_CW_LOCK, .ro, .b, false⟩, ⟨F.LNE_LANE_STATUS_TRAIN_FAIL, .w1c, .b, false⟩, ⟨F.LNE_LANE_STATUS_PRBS_LOCK, .ro, .e, false⟩]
  | .LNE_LANE_TXFFE_SET _ => [⟨F.LNE_LANE_TXFFE_SET_CM3, .rw, .e, true⟩, ⟨F.LNE_LANE_TXFFE_SET_CM2, .rw, .e, true⟩, ⟨F.LNE_LANE_TXFFE_SET_CM1, .rw, .e, true⟩, ⟨F.LNE_LANE_TXFFE_SET_C0, .rw, .e, true⟩, ⟨F.LNE_LANE_TXFFE_SET_CP1, .rw, .e, true⟩]
  | .LNE_LANE_TXFFE _ => [⟨F.LNE_LANE_TXFFE_CM3, .ro, .b, false⟩, ⟨F.LNE_LANE_TXFFE_CM2, .ro, .b, false⟩, ⟨F.LNE_LANE_TXFFE_CM1, .ro, .b, false⟩, ⟨F.LNE_LANE_TXFFE_C0, .ro, .b, false⟩, ⟨F.LNE_LANE_TXFFE_CP1, .ro, .b, false⟩]
  | .LNE_LANE_ANISE _ => [⟨F.LNE_LANE_ANISE_EYE_MAIN, .ro, .b, false⟩, ⟨F.LNE_LANE_ANISE_EYE_SHADOW, .ro, .e, false⟩, ⟨F.LNE_LANE_ANISE_PHASE, .ro, .e, false⟩]
  | .LNE_WRN_STATUS _ => [⟨F.LNE_WRN_STATUS_STATE, .ro, .b, false⟩, ⟨F.LNE_WRN_STATUS_ATTEMPT, .ro, .b, false⟩, ⟨F.LNE_WRN_STATUS_TIME_VALID, .ro, .b, false⟩]
  | .LNE_WRN_LATENCY _ => [⟨F.LNE_WRN_LATENCY_LATENCY, .ro, .e, false⟩]
  | .LNE_WRN_CFG _ => [⟨F.LNE_WRN_CFG_UNCORR_LIMIT, .rw, .e, true⟩]
  | .LNE_TRAIN_CFG => [⟨F.LNE_TRAIN_CFG_TRAIN_TIMEOUT, .rw, .b, true⟩, ⟨F.LNE_TRAIN_CFG_HOLDOFF, .rw, .b, true⟩, ⟨F.LNE_TRAIN_CFG_PROBE_PERIOD, .rw, .b, true⟩, ⟨F.LNE_TRAIN_CFG_SLEEP_DELAY, .rw, .b, true⟩, ⟨F.LNE_TRAIN_CFG_PRECODE, .rw, .e, true⟩]
  | .LNE_ANISE_CFG => [⟨F.LNE_ANISE_CFG_PERIOD, .rw, .e, true⟩, ⟨F.LNE_ANISE_CFG_SWAP_GAIN, .rw, .e, true⟩, ⟨F.LNE_ANISE_CFG_REVERT_EN, .rw, .e, true⟩]
  | .PRT_BLK_CFG _ => [⟨F.PRT_BLK_CFG_MODE, .st, .b, true⟩]
  | .PRT_MAC_CFG _ => [⟨F.PRT_MAC_CFG_MODE, .st, .b, true⟩, ⟨F.PRT_MAC_CFG_MAX_FRAME, .st, .b, true⟩]
  | .PRT_PORT_STATUS _ => [⟨F.PRT_PORT_STATUS_STATE, .ro, .b, false⟩, ⟨F.PRT_PORT_STATUS_PARK, .ro, .b, false⟩, ⟨F.PRT_PORT_STATUS_LOCAL_FAULT, .ro, .b, false⟩, ⟨F.PRT_PORT_STATUS_REMOTE_FAULT, .ro, .b, false⟩, ⟨F.PRT_PORT_STATUS_DOWN_SEEN, .w1c, .b, false⟩]
  | .PRT_FC_CFG _ => [⟨F.PRT_FC_CFG_FC_MODE, .st, .b, true⟩, ⟨F.PRT_FC_CFG_PFC_EN, .st, .b, true⟩, ⟨F.PRT_FC_CFG_QUANTA, .st, .b, true⟩]
  | .PRT_PFC_WM _ => [⟨F.PRT_PFC_WM_XOFF, .rw, .b, true⟩, ⟨F.PRT_PFC_WM_XON, .rw, .b, true⟩]
  | .PRT_PFC_STATUS _ => [⟨F.PRT_PFC_STATUS_TX_XOFF, .ro, .b, false⟩, ⟨F.PRT_PFC_STATUS_RX_PAUSED, .ro, .b, false⟩]
  | .PRT_PARK_CFG => [⟨F.PRT_PARK_CFG_WINDOW, .rw, .b, true⟩, ⟨F.PRT_PARK_CFG_STALE, .rw, .b, true⟩]
  | .PRT_PARK_CAP => [⟨F.PRT_PARK_CAP_CAPACITY, .rw, .e, true⟩]
  | .PRT_PFC_MAP0 => [⟨F.PRT_PFC_MAP0_CLASS0, .st, .e, true⟩, ⟨F.PRT_PFC_MAP0_CLASS1, .st, .e, true⟩, ⟨F.PRT_PFC_MAP0_CLASS2, .st, .e, true⟩, ⟨F.PRT_PFC_MAP0_CLASS3, .st, .e, true⟩, ⟨F.PRT_PFC_MAP0_CLASS4, .st, .e, true⟩, ⟨F.PRT_PFC_MAP0_CLASS5, .st, .e, true⟩, ⟨F.PRT_PFC_MAP0_CLASS6, .st, .e, true⟩, ⟨F.PRT_PFC_MAP0_CLASS7, .st, .e, true⟩]
  | .PRT_PFC_MAP1 => [⟨F.PRT_PFC_MAP1_CLASS8, .st, .e, true⟩, ⟨F.PRT_PFC_MAP1_CLASS9, .st, .e, true⟩, ⟨F.PRT_PFC_MAP1_CLASS10, .st, .e, true⟩, ⟨F.PRT_PFC_MAP1_CLASS11, .st, .e, true⟩, ⟨F.PRT_PFC_MAP1_CLASS12, .st, .e, true⟩, ⟨F.PRT_PFC_MAP1_CLASS13, .st, .e, true⟩, ⟨F.PRT_PFC_MAP1_CLASS14, .st, .e, true⟩, ⟨F.PRT_PFC_MAP1_CLASS15, .st, .e, true⟩]
  | .PIP_PORT_CFG _ => [⟨F.PIP_PORT_CFG_KEY_MODE, .st, .b, true⟩, ⟨F.PIP_PORT_CFG_TUNNEL, .st, .b, true⟩, ⟨F.PIP_PORT_CFG_MPLS_EN, .st, .b, true⟩, ⟨F.PIP_PORT_CFG_PORT_LABEL, .st, .b, true⟩]
  | .PIP_PORT_DEF_A _ => [⟨F.PIP_PORT_DEF_A_CLASS, .st, .b, true⟩, ⟨F.PIP_PORT_DEF_A_COLOUR, .st, .b, true⟩, ⟨F.PIP_PORT_DEF_A_DISP, .st, .b, true⟩, ⟨F.PIP_PORT_DEF_A_STEER, .st, .b, true⟩, ⟨F.PIP_PORT_DEF_A_RECIRC, .st, .b, true⟩, ⟨F.PIP_PORT_DEF_A_COPY_HOST, .st, .b, true⟩, ⟨F.PIP_PORT_DEF_A_RING, .st, .b, true⟩, ⟨F.PIP_PORT_DEF_A_REDIR, .st, .b, true⟩, ⟨F.PIP_PORT_DEF_A_NO_LEARN, .st, .b, true⟩, ⟨F.PIP_PORT_DEF_A_LKP, .st, .b, true⟩]
  | .PIP_PORT_DEF_B _ => [⟨F.PIP_PORT_DEF_B_PORT, .st, .b, true⟩]
  | .PIP_TBL_CMD _ => [⟨F.PIP_TBL_CMD_OP, .rw, .e, false⟩, ⟨F.PIP_TBL_CMD_TABLE, .rw, .e, false⟩, ⟨F.PIP_TBL_CMD_INDEX, .rw, .e, false⟩, ⟨F.PIP_TBL_CMD_GO, .w1s, .e, false⟩]
  | .PIP_TBL_STATUS _ => [⟨F.PIP_TBL_STATUS_CODE, .ro, .e, false⟩, ⟨F.PIP_TBL_STATUS_SESSION, .ro, .e, false⟩, ⟨F.PIP_TBL_STATUS_OVERRUN, .w1c, .e, false⟩, ⟨F.PIP_TBL_STATUS_VIS_BOTH, .ro, .e, false⟩]
  | .PIP_TBL_DATA _ _ => [⟨F.PIP_TBL_DATA_WORD, .rw, .e, false⟩]
  | .PIP_DPI_CFG _ => [⟨F.PIP_DPI_CFG_EN, .st, .b, true⟩, ⟨F.PIP_DPI_CFG_OVERFLOW, .st, .b, true⟩]
  | .PIP_DPI_STATUS _ => [⟨F.PIP_DPI_STATUS_OCCUPANCY, .ro, .b, false⟩, ⟨F.PIP_DPI_STATUS_OVERFLOW_SEEN, .w1c, .b, false⟩]
  | .PIP_TUN_PORTS => [⟨F.PIP_TUN_PORTS_VXLAN_PORT, .st, .e, true⟩, ⟨F.PIP_TUN_PORTS_GENEVE_PORT, .st, .e, true⟩]
  | .PIP_TPID => [⟨F.PIP_TPID_TPID_ALT, .st, .e, true⟩]
  | .FWD_TBL_CMD => [⟨F.FWD_TBL_CMD_OP, .rw, .e, false⟩, ⟨F.FWD_TBL_CMD_TABLE, .rw, .e, false⟩, ⟨F.FWD_TBL_CMD_GO, .w1s, .e, false⟩]
  | .FWD_TBL_STATUS => [⟨F.FWD_TBL_STATUS_CODE, .ro, .e, false⟩, ⟨F.FWD_TBL_STATUS_SESSION, .ro, .e, false⟩, ⟨F.FWD_TBL_STATUS_OVERRUN, .w1c, .e, false⟩]
  | .FWD_TBL_DATA _ => [⟨F.FWD_TBL_DATA_WORD, .rw, .e, false⟩]
  | .FWD_HASH_SEED1 => [⟨F.FWD_HASH_SEED1_SEED, .rwl, .e, true⟩]
  | .FWD_HASH_SEED2 => [⟨F.FWD_HASH_SEED2_SEED, .rwl, .e, true⟩]
  | .FWD_REHASH_SEED1 => [⟨F.FWD_REHASH_SEED1_SEED, .rw, .e, false⟩]
  | .FWD_REHASH_SEED2 => [⟨F.FWD_REHASH_SEED2_SEED, .rw, .e, false⟩]
  | .FWD_REHASH_CTL => [⟨F.FWD_REHASH_CTL_GO, .w1s, .e, false⟩]
  | .FWD_HASH_STATUS => [⟨F.FWD_HASH_STATUS_NEEDED, .w1c, .b, false⟩, ⟨F.FWD_HASH_STATUS_STATE, .ro, .b, false⟩, ⟨F.FWD_HASH_STATUS_COPY0, .ro, .b, false⟩, ⟨F.FWD_HASH_STATUS_COPY1, .ro, .b, false⟩]
  | .FWD_LKP_A _ => [⟨F.FWD_LKP_A_KTYPE, .st, .b, true⟩, ⟨F.FWD_LKP_A_DOMAIN_SRC, .st, .b, true⟩, ⟨F.FWD_LKP_A_LEARN, .st, .b, true⟩, ⟨F.FWD_LKP_A_PROMOTE, .st, .b, true⟩, ⟨F.FWD_LKP_A_MISS_DISP, .st, .b, true⟩, ⟨F.FWD_LKP_A_MISS_RING, .st, .b, true⟩, ⟨F.FWD_LKP_A_NO_HAIRPIN, .st, .b, true⟩]
  | .FWD_LKP_B _ => [⟨F.FWD_LKP_B_DOMAIN_CONST, .st, .b, true⟩, ⟨F.FWD_LKP_B_MISS_MGID, .st, .b, true⟩]
  | .FWD_LEARN_CFG => [⟨F.FWD_LEARN_CFG_MAX_LEARNED, .rw, .b, true⟩, ⟨F.FWD_LEARN_CFG_MOVE_EN, .rw, .b, true⟩, ⟨F.FWD_LEARN_CFG_DOWN_FLUSH, .rw, .b, true⟩]
  | .FWD_CARAWAY_CFG => [⟨F.FWD_CARAWAY_CFG_PERIOD, .rw, .b, true⟩, ⟨F.FWD_CARAWAY_CFG_T1_DECAY, .rw, .e, true⟩, ⟨F.FWD_CARAWAY_CFG_T1_EN, .rw, .e, true⟩]
  | .FWD_ENTRIES => [⟨F.FWD_ENTRIES_KEYS, .ro, .b, false⟩]
  | .FWD_LEARNED_ENTRIES => [⟨F.FWD_LEARNED_ENTRIES_COUNT, .ro, .b, false⟩]
  | .FWD_CARAWAY_STATUS => [⟨F.FWD_CARAWAY_STATUS_FLUSH_BUSY, .ro, .b, false⟩, ⟨F.FWD_CARAWAY_STATUS_AGING_HELD, .ro, .b, false⟩]
  | .SWC_Q_CFG _ => [⟨F.SWC_Q_CFG_WEIGHT, .st, .b, true⟩, ⟨F.SWC_Q_CFG_MIN_RATE, .st, .b, true⟩]
  | .SWC_Q_STATUS _ => [⟨F.SWC_Q_STATUS_OCC, .ro, .b, false⟩, ⟨F.SWC_Q_STATUS_SPILLED, .ro, .b, false⟩, ⟨F.SWC_Q_STATUS_BELOW_MIN, .ro, .b, false⟩, ⟨F.SWC_Q_STATUS_LATE, .ro, .b, false⟩]
  | .SWC_HIST_CFG _ => [⟨F.SWC_HIST_CFG_CLASSES, .rw, .b, true⟩, ⟨F.SWC_HIST_CFG_MIN_EXP, .rw, .b, true⟩, ⟨F.SWC_HIST_CFG_EN, .rw, .b, true⟩, ⟨F.SWC_HIST_CFG_GEN, .ro, .b, false⟩]
  | .SWC_CLASS_CFG _ => [⟨F.SWC_CLASS_CFG_TIME, .st, .b, true⟩, ⟨F.SWC_CLASS_CFG_EXPRESS, .st, .b, true⟩, ⟨F.SWC_CLASS_CFG_SPILL_EN, .st, .b, true⟩, ⟨F.SWC_CLASS_CFG_ALPHA, .st, .e, true⟩, ⟨F.SWC_CLASS_CFG_RESERVE, .st, .e, true⟩, ⟨F.SWC_CLASS_CFG_LAT_TARGET, .st, .b, true⟩]
  | .SWC_RED_PROF _ _ => [⟨F.SWC_RED_PROF_MIN, .st, .e, true⟩, ⟨F.SWC_RED_PROF_MAX, .st, .e, true⟩, ⟨F.SWC_RED_PROF_PMAX, .st, .e, true⟩]
  | .SWC_RED_CFG => [⟨F.SWC_RED_CFG_WEIGHT_EXP, .rw, .e, true⟩, ⟨F.SWC_RED_CFG_SEED, .rwl, .e, true⟩]
  | .SWC_BUF_CFG => [⟨F.SWC_BUF_CFG_HR_POOL, .rwl, .e, true⟩, ⟨F.SWC_BUF_CFG_HEADROOM, .rw, .b, true⟩]
  | .SWC_SPILL_CFG => [⟨F.SWC_SPILL_CFG_EN, .rw, .b, true⟩, ⟨F.SWC_SPILL_CFG_ON, .rw, .e, true⟩, ⟨F.SWC_SPILL_CFG_MAX, .rw, .e, true⟩]
  | .SWC_TIME_CFG => [⟨F.SWC_TIME_CFG_BURST, .rw, .b, true⟩]
  | .SWC_BUF_STATUS => [⟨F.SWC_BUF_STATUS_SHARED_FREE, .ro, .b, false⟩]
  | .SWC_SPILL_STATUS => [⟨F.SWC_SPILL_STATUS_STACKS, .ro, .b, false⟩, ⟨F.SWC_SPILL_STATUS_REFUSING, .ro, .b, false⟩]
  | .SWC_SPILL_CELLS => [⟨F.SWC_SPILL_CELLS_CELLS, .ro, .b, false⟩]
  | .SWC_TBL_CMD => [⟨F.SWC_TBL_CMD_OP, .rw, .e, false⟩, ⟨F.SWC_TBL_CMD_TABLE, .rw, .e, false⟩, ⟨F.SWC_TBL_CMD_GO, .w1s, .e, false⟩]
  | .SWC_TBL_STATUS => [⟨F.SWC_TBL_STATUS_CODE, .ro, .e, false⟩, ⟨F.SWC_TBL_STATUS_SESSION, .ro, .e, false⟩, ⟨F.SWC_TBL_STATUS_OVERRUN, .w1c, .e, false⟩]
  | .SWC_TBL_INDEX => [⟨F.SWC_TBL_INDEX_INDEX, .rw, .e, false⟩]
  | .SWC_TBL_DATA _ => [⟨F.SWC_TBL_DATA_WORD, .rw, .e, false⟩]
  | .TIM_SAF_STATUS => [⟨F.TIM_SAF_STATUS_ACTIVE, .ro, .b, false⟩, ⟨F.TIM_SAF_STATUS_STANDBY_OK, .ro, .b, false⟩, ⟨F.TIM_SAF_STATUS_TIME_SET, .ro, .b, false⟩, ⟨F.TIM_SAF_STATUS_SLEWING, .ro, .b, false⟩, ⟨F.TIM_SAF_STATUS_CMD_RESULT, .ro, .b, false⟩, ⟨F.TIM_SAF_STATUS_ENG_A, .ro, .e, false⟩, ⟨F.TIM_SAF_STATUS_ENG_B, .ro, .e, false⟩]
  | .TIM_SAF_INC_L => [⟨F.TIM_SAF_INC_L_FRAC, .ro, .b, false⟩]
  | .TIM_SAF_INC_H => [⟨F.TIM_SAF_INC_H_INT, .ro, .b, false⟩]
  | .TIM_SAF_TIME_F => [⟨F.TIM_SAF_TIME_F_FRAC, .ro, .b, false⟩]
  | .TIM_SAF_TIME_L => [⟨F.TIM_SAF_TIME_L_NS, .ro, .b, false⟩]
  | .TIM_SAF_TIME_H => [⟨F.TIM_SAF_TIME_H_NS, .ro, .b, false⟩]
  | .TIM_SAF_VAL_L => [⟨F.TIM_SAF_VAL_L_VAL, .rw, .e, false⟩]
  | .TIM_SAF_VAL_H => [⟨F.TIM_SAF_VAL_H_VAL, .rw, .e, false⟩]
  | .TIM_SAF_CMD => [⟨F.TIM_SAF_CMD_OP, .wo, .e, false⟩]
  | .TIM_SAF_CFG => [⟨F.TIM_SAF_CFG_SLEW_PPB, .rw, .e, true⟩]
  | .TIM_ENG_CTL => [⟨F.TIM_ENG_CTL_SWAP, .wo, .e, false⟩]
  | .TIM_OSC_QUAL_CFG => [⟨F.TIM_OSC_QUAL_CFG_WARM_USE, .rw, .b, true⟩, ⟨F.TIM_OSC_QUAL_CFG_WARM_POL, .rw, .b, true⟩, ⟨F.TIM_OSC_QUAL_CFG_LIMIT, .rw, .e, true⟩, ⟨F.TIM_OSC_QUAL_CFG_COUNT, .rw, .e, true⟩, ⟨F.TIM_OSC_QUAL_CFG_TIMEOUT, .rw, .b, true⟩]
  | .TIM_OSC_QUAL_STATUS => [⟨F.TIM_OSC_QUAL_STATUS_STATE, .ro, .b, false⟩, ⟨F.TIM_OSC_QUAL_STATUS_SLOW, .ro, .b, false⟩, ⟨F.TIM_OSC_QUAL_STATUS_PASSED, .ro, .b, false⟩, ⟨F.TIM_OSC_QUAL_STATUS_LAST_DELTA, .ro, .b, false⟩]
  | .TIM_TRIG_CTRL _ => [⟨F.TIM_TRIG_CTRL_EN, .rw, .b, true⟩, ⟨F.TIM_TRIG_CTRL_WIDTH, .rw, .b, true⟩]
  | .TIM_TRIG_START_F _ => [⟨F.TIM_TRIG_START_F_FRAC, .rw, .b, true⟩]
  | .TIM_TRIG_START_L _ => [⟨F.TIM_TRIG_START_L_NS, .rw, .b, true⟩]
  | .TIM_TRIG_START_H _ => [⟨F.TIM_TRIG_START_H_NS, .rw, .b, true⟩]
  | .TIM_TRIG_PERIOD _ => [⟨F.TIM_TRIG_PERIOD_NS, .rw, .b, true⟩]
  | .TIM_TRIG_COUNT _ => [⟨F.TIM_TRIG_COUNT_COUNT, .rw, .b, true⟩]
  | .TIM_TRIG_STATUS _ => [⟨F.TIM_TRIG_STATUS_ARMED, .ro, .b, false⟩, ⟨F.TIM_TRIG_STATUS_DONE, .w1c, .b, false⟩, ⟨F.TIM_TRIG_STATUS_MISSED, .w1c, .b, false⟩, ⟨F.TIM_TRIG_STATUS_LATE, .w1c, .b, false⟩, ⟨F.TIM_TRIG_STATUS_SUPPRESSED, .ro, .b, false⟩]
  | .TIM_TRIG_FIRED _ => [⟨F.TIM_TRIG_FIRED_FIRED, .ro, .b, false⟩]
  | .TIM_PTP_PORT _ => [⟨F.TIM_PTP_PORT_ROLE, .st, .b, true⟩, ⟨F.TIM_PTP_PORT_ONE_STEP, .st, .b, true⟩, ⟨F.TIM_PTP_PORT_HA, .st, .b, true⟩, ⟨F.TIM_PTP_PORT_TC_EN, .st, .b, true⟩, ⟨F.TIM_PTP_PORT_DEST, .st, .b, true⟩, ⟨F.TIM_PTP_PORT_LOG_SYNC, .st, .b, true⟩, ⟨F.TIM_PTP_PORT_LOG_DREQ, .st, .b, true⟩, ⟨F.TIM_PTP_PORT_LOG_ANN, .st, .b, true⟩, ⟨F.TIM_PTP_PORT_ANN_TIMEOUT, .st, .b, true⟩]
  | .TIM_PORT_ASYM _ => [⟨F.TIM_PORT_ASYM_ASYM, .st, .b, true⟩]
  | .TIM_PORT_LAT _ => [⟨F.TIM_PORT_LAT_RX_LAT, .st, .b, true⟩, ⟨F.TIM_PORT_LAT_TX_LAT, .st, .b, true⟩]
  | .TIM_PHASE _ => [⟨F.TIM_PHASE_ACC, .ro, .b, false⟩]
  | .TIM_PORT_STATUS _ => [⟨F.TIM_PORT_STATUS_PH_VALID, .ro, .b, false⟩, ⟨F.TIM_PORT_STATUS_PH_OOR, .ro, .b, false⟩, ⟨F.TIM_PORT_STATUS_L1_STATE, .ro, .b, false⟩, ⟨F.TIM_PORT_STATUS_ANN_OK, .ro, .b, false⟩, ⟨F.TIM_PORT_STATUS_GATE_PENDING, .ro, .b, false⟩, ⟨F.TIM_PORT_STATUS_GATE_ACTIVE, .ro, .b, false⟩]
  | .TIM_PTP_OFFSET _ => [⟨F.TIM_PTP_OFFSET_OFFSET, .ro, .b, false⟩]
  | .TIM_PTP_DELAY _ => [⟨F.TIM_PTP_DELAY_DELAY, .ro, .b, false⟩]
  | .TIM_PTP_CFG => [⟨F.TIM_PTP_CFG_DOMAIN, .st, .b, true⟩, ⟨F.TIM_PTP_CFG_PRIORITY1, .st, .b, true⟩, ⟨F.TIM_PTP_CFG_PRIORITY2, .st, .b, true⟩, ⟨F.TIM_PTP_CFG_CLASS, .st, .b, true⟩]
  | .TIM_PTP_UTC => [⟨F.TIM_PTP_UTC_UTC_OFFSET, .rw, .b, true⟩, ⟨F.TIM_PTP_UTC_UTC_VALID, .rw, .b, true⟩, ⟨F.TIM_PTP_UTC_LEAP61, .rw, .b, true⟩, ⟨F.TIM_PTP_UTC_LEAP59, .rw, .b, true⟩]
  | .TIM_TBL_CMD => [⟨F.TIM_TBL_CMD_OP, .rw, .e, false⟩, ⟨F.TIM_TBL_CMD_TABLE, .rw, .e, false⟩, ⟨F.TIM_TBL_CMD_INDEX, .rw, .e, false⟩, ⟨F.TIM_TBL_CMD_GO, .w1s, .e, false⟩]
  | .TIM_TBL_STATUS => [⟨F.TIM_TBL_STATUS_CODE, .ro, .e, false⟩, ⟨F.TIM_TBL_STATUS_SESSION, .ro, .e, false⟩, ⟨F.TIM_TBL_STATUS_OVERRUN, .w1c, .e, false⟩]
  | .TIM_TBL_DATA _ => [⟨F.TIM_TBL_DATA_WORD, .rw, .e, false⟩]
  | .TIM_SEL_CFG => [⟨F.TIM_SEL_CFG_MODE, .rw, .b, true⟩, ⟨F.TIM_SEL_CFG_REVERTIVE, .rw, .b, true⟩, ⟨F.TIM_SEL_CFG_PJ_MODE, .rw, .e, true⟩, ⟨F.TIM_SEL_CFG_FORCE_SLOT, .rw, .b, true⟩, ⟨F.TIM_SEL_CFG_PJ_THRESH, .rw, .e, true⟩, ⟨F.TIM_SEL_CFG_DISAGREE, .rw, .e, true⟩, ⟨F.TIM_SEL_CFG_FREQ_LIMIT, .rw, .b, true⟩]
  | .TIM_SEL_TIMES => [⟨F.TIM_SEL_TIMES_WTR, .rw, .b, true⟩, ⟨F.TIM_SEL_TIMES_QUAL_TIME, .rw, .b, true⟩]
  | .TIM_HO_CFG => [⟨F.TIM_HO_CFG_HO_AVG, .rw, .e, true⟩, ⟨F.TIM_HO_CFG_HO_GUARD, .rw, .e, true⟩, ⟨F.TIM_HO_CFG_DRIFT_EN, .rw, .e, true⟩, ⟨F.TIM_HO_CFG_HO_LIMIT, .rw, .b, true⟩]
  | .TIM_SEL_STATUS => [⟨F.TIM_SEL_STATUS_STATE, .ro, .b, false⟩, ⟨F.TIM_SEL_STATUS_ACTIVE, .ro, .b, false⟩, ⟨F.TIM_SEL_STATUS_ACTIVE_VALID, .ro, .b, false⟩, ⟨F.TIM_SEL_STATUS_TARGET, .ro, .b, false⟩, ⟨F.TIM_SEL_STATUS_SETTLED, .ro, .b, false⟩, ⟨F.TIM_SEL_STATUS_ALIGNED, .ro, .b, false⟩, ⟨F.TIM_SEL_STATUS_HO_VALID, .ro, .b, false⟩, ⟨F.TIM_SEL_STATUS_HO_EXPIRED, .ro, .b, false⟩, ⟨F.TIM_SEL_STATUS_DRIFT_VALID, .ro, .e, false⟩, ⟨F.TIM_SEL_STATUS_DISAGREE, .ro, .b, false⟩, ⟨F.TIM_SEL_STATUS_PHASE_JUMP, .w1c, .b, false⟩, ⟨F.TIM_SEL_STATUS_SYNTONIZED, .ro, .b, false⟩]
  | .TIM_HO_FREQ => [⟨F.TIM_HO_FREQ_FREQ, .ro, .b, false⟩]
  | .TIM_HO_DRIFT => [⟨F.TIM_HO_DRIFT_DRIFT, .ro, .e, false⟩]
  | .TIM_PJ_LAST => [⟨F.TIM_PJ_LAST_VALUE, .ro, .b, false⟩]
  | .TIM_PJ_ABSORBED => [⟨F.TIM_PJ_ABSORBED_VALUE, .ro, .b, false⟩]
  | .TIM_SERVO_ERR => [⟨F.TIM_SERVO_ERR_VALUE, .ro, .e, false⟩]
  | .TIM_REF_CFG _ => [⟨F.TIM_REF_CFG_PRIO, .rw, .b, true⟩, ⟨F.TIM_REF_CFG_KIND, .rw, .b, true⟩, ⟨F.TIM_REF_CFG_PORT, .rw, .b, true⟩, ⟨F.TIM_REF_CFG_BW, .rw, .b, true⟩, ⟨F.TIM_REF_CFG_TBW, .rw, .e, true⟩]
  | .TIM_REF_DELAY _ => [⟨F.TIM_REF_DELAY_DELAY, .rw, .b, true⟩]
  | .TIM_REF_STATUS _ => [⟨F.TIM_REF_STATUS_STATE, .ro, .b, false⟩, ⟨F.TIM_REF_STATUS_LOS, .ro, .b, false⟩, ⟨F.TIM_REF_STATUS_FREQ_FAULT, .ro, .b, false⟩, ⟨F.TIM_REF_STATUS_PHASE_FAULT, .ro, .b, false⟩, ⟨F.TIM_REF_STATUS_PTP_FAULT, .ro, .b, false⟩, ⟨F.TIM_REF_STATUS_PORT_FAULT, .ro, .b, false⟩, ⟨F.TIM_REF_STATUS_DEVIATES, .ro, .b, false⟩, ⟨F.TIM_REF_STATUS_WTR, .ro, .b, false⟩, ⟨F.TIM_REF_STATUS_BW_USED, .ro, .e, false⟩, ⟨F.TIM_REF_STATUS_FREQ_VALID, .ro, .b, false⟩, ⟨F.TIM_REF_STATUS_REMAIN, .ro, .b, false⟩]
  | .TIM_REF_FREQ _ => [⟨F.TIM_REF_FREQ_FREQ, .ro, .b, false⟩]
  | .TIM_PPS_OFS_L _ => [⟨F.TIM_PPS_OFS_L_OFS, .st, .b, true⟩]
  | .TIM_PPS_OFS_H _ => [⟨F.TIM_PPS_OFS_H_OFS, .st, .b, true⟩]
  | .TIM_ANN_CFG => [⟨F.TIM_ANN_CFG_CLASS_LOCKED, .rw, .b, true⟩, ⟨F.TIM_ANN_CFG_CLASS_HOLD, .rw, .b, true⟩, ⟨F.TIM_ANN_CFG_CLASS_FREE, .rw, .b, true⟩, ⟨F.TIM_ANN_CFG_ACC_LOCKED, .rw, .b, true⟩]
  | .TIM_ANN_VAR => [⟨F.TIM_ANN_VAR_VAR, .rw, .b, true⟩]
  | .TIM_ANN_TSRC => [⟨F.TIM_ANN_TSRC_TSRC0, .rw, .b, true⟩, ⟨F.TIM_ANN_TSRC_TSRC1, .rw, .b, true⟩, ⟨F.TIM_ANN_TSRC_TSRC2, .rw, .b, true⟩, ⟨F.TIM_ANN_TSRC_TSRC3, .rw, .b, true⟩]
  | .TIM_TIC_CFG _ => [⟨F.TIM_TIC_CFG_MODE, .rw, .b, true⟩, ⟨F.TIM_TIC_CFG_EDGE, .rw, .b, true⟩, ⟨F.TIM_TIC_CFG_HYST, .rw, .b, true⟩, ⟨F.TIM_TIC_CFG_ORDERED, .rw, .b, true⟩, ⟨F.TIM_TIC_CFG_TIMEBASE, .rw, .e, true⟩, ⟨F.TIM_TIC_CFG_STOP_CH, .rw, .b, true⟩, ⟨F.TIM_TIC_CFG_START_POL, .rw, .b, true⟩, ⟨F.TIM_TIC_CFG_STOP_POL, .rw, .b, true⟩, ⟨F.TIM_TIC_CFG_PRESCALE, .rw, .b, true⟩, ⟨F.TIM_TIC_CFG_LIMIT_EXP, .rw, .b, true⟩]
  | .TIM_TIC_CFG2 _ => [⟨F.TIM_TIC_CFG2_HOLDOFF, .rw, .b, true⟩, ⟨F.TIM_TIC_CFG2_GATE, .rw, .b, true⟩]
  | .TIM_TIC_DELAY _ => [⟨F.TIM_TIC_DELAY_DELAY, .rw, .b, true⟩]
  | .TIM_TIC_STATUS _ => [⟨F.TIM_TIC_STATUS_FILL, .ro, .b, false⟩, ⟨F.TIM_TIC_STATUS_OVERFLOW, .w1c, .b, false⟩, ⟨F.TIM_TIC_STATUS_CAL_KIND, .ro, .b, false⟩, ⟨F.TIM_TIC_STATUS_CAL_STALE, .ro, .b, false⟩, ⟨F.TIM_TIC_STATUS_ON_SPARE, .ro, .e, false⟩, ⟨F.TIM_TIC_STATUS_OPEN, .ro, .b, false⟩]
  | .TIM_TIC_RES_ST _ => [⟨F.TIM_TIC_RES_ST_STATUS, .ro, .b, false⟩, ⟨F.TIM_TIC_RES_ST_TB, .ro, .b, false⟩, ⟨F.TIM_TIC_RES_ST_STEPPED, .ro, .b, false⟩, ⟨F.TIM_TIC_RES_ST_BIN_A, .ro, .b, false⟩, ⟨F.TIM_TIC_RES_ST_BIN_B, .ro, .b, false⟩]
  | .TIM_TIC_RES_L _ => [⟨F.TIM_TIC_RES_L_VALUE, .ro, .b, false⟩]
  | .TIM_TIC_RES_H _ => [⟨F.TIM_TIC_RES_H_VALUE, .ro, .b, false⟩]
  | .TIM_TIC_RES_CNT _ => [⟨F.TIM_TIC_RES_CNT_COUNT, .ro, .b, false⟩]
  | .TIM_TIC_CAL_CFG => [⟨F.TIM_TIC_CAL_CFG_PERIOD, .rw, .e, true⟩, ⟨F.TIM_TIC_CAL_CFG_SOURCE, .rw, .e, true⟩, ⟨F.TIM_TIC_CAL_CFG_CAL_IN_KIND, .rw, .b, true⟩, ⟨F.TIM_TIC_CAL_CFG_TEMP_STEP, .rw, .e, true⟩]
  | .TIM_TIC_CAL_STATUS => [⟨F.TIM_TIC_CAL_STATUS_POS, .ro, .e, false⟩, ⟨F.TIM_TIC_CAL_STATUS_PHASE, .ro, .e, false⟩, ⟨F.TIM_TIC_CAL_STATUS_INT_SRC_OK, .ro, .b, false⟩, ⟨F.TIM_TIC_CAL_STATUS_CAL_IN_OK, .ro, .b, false⟩, ⟨F.TIM_TIC_CAL_STATUS_SPARE_OK, .ro, .b, false⟩]
  | .HLT_HEALTH_CFG => [⟨F.HLT_HEALTH_CFG_IRQ_MIN, .rw, .b, true⟩, ⟨F.HLT_HEALTH_CFG_CAL_FREEZE, .rw, .e, true⟩]
  | .HLT_HEALTH_STATUS => [⟨F.HLT_HEALTH_STATUS_DEGRADED_ACTIVE, .ro, .b, false⟩, ⟨F.HLT_HEALTH_STATUS_FAULT_ACTIVE, .ro, .b, false⟩, ⟨F.HLT_HEALTH_STATUS_WORST, .ro, .b, false⟩, ⟨F.HLT_HEALTH_STATUS_FROZEN, .ro, .b, false⟩]
  | .HLT_LOG_HEAD => [⟨F.HLT_LOG_HEAD_SEQ, .ro, .b, false⟩]
  | .HLT_SUMAC_CFG => [⟨F.HLT_SUMAC_CFG_THRESH, .rw, .e, true⟩, ⟨F.HLT_SUMAC_CFG_HOLD, .rw, .e, true⟩, ⟨F.HLT_SUMAC_CFG_RESPARE, .rw, .e, true⟩]
  | .HLT_SPARES => [⟨F.HLT_SPARES_PARSE, .ro, .b, false⟩, ⟨F.HLT_SPARES_BANKS, .ro, .b, false⟩, ⟨F.HLT_SPARES_ITER, .ro, .b, false⟩, ⟨F.HLT_SPARES_PLANE, .ro, .b, false⟩]
  | .HLT_MARGIN => [⟨F.HLT_MARGIN_MARGIN, .ro, .b, false⟩, ⟨F.HLT_MARGIN_KIND, .ro, .b, false⟩, ⟨F.HLT_MARGIN_INDEX, .ro, .b, false⟩]
  | .HLT_AVS_CFG => [⟨F.HLT_AVS_CFG_FLOOR, .rw, .e, true⟩, ⟨F.HLT_AVS_CFG_CEIL, .rw, .e, true⟩, ⟨F.HLT_AVS_CFG_UP, .rw, .e, true⟩, ⟨F.HLT_AVS_CFG_DOWN, .rw, .e, true⟩, ⟨F.HLT_AVS_CFG_EN, .rw, .e, true⟩]
  | .HLT_AVS_STATUS => [⟨F.HLT_AVS_STATUS_REQUEST, .ro, .b, false⟩, ⟨F.HLT_AVS_STATUS_READBACK, .ro, .b, false⟩, ⟨F.HLT_AVS_STATUS_AT_CEIL, .ro, .b, false⟩, ⟨F.HLT_AVS_STATUS_NO_RESPONSE, .ro, .b, false⟩]
  | .HLT_TEMP_CFG => [⟨F.HLT_TEMP_CFG_WARN, .rw, .b, true⟩, ⟨F.HLT_TEMP_CFG_CRIT, .rw, .b, true⟩]
  | .HLT_TEMP _ => [⟨F.HLT_TEMP_TEMP, .ro, .b, false⟩, ⟨F.HLT_TEMP_VALID, .ro, .b, false⟩]
  | .HLT_LOG _ _ => [⟨F.HLT_LOG_WORD, .ro, .b, false⟩]
  | .HLT_CNT_VAL_H => [⟨F.HLT_CNT_VAL_H_VALUE, .ro, .b, false⟩]
  | .HLT_CNT_TIME_L => [⟨F.HLT_CNT_TIME_L_NS, .ro, .b, false⟩]
  | .HLT_CNT_TIME_H => [⟨F.HLT_CNT_TIME_H_NS, .ro, .b, false⟩, ⟨F.HLT_CNT_TIME_H_STEP_SEQ, .ro, .b, false⟩]
  | .HLT_CNT_FLAGS => [⟨F.HLT_CNT_FLAGS_STATE, .ro, .b, false⟩, ⟨F.HLT_CNT_FLAGS_WRAP, .ro, .b, false⟩]
  | .HLT_CAP_MEMBER _ _ => [⟨F.HLT_CAP_MEMBER_ID, .rw, .b, true⟩, ⟨F.HLT_CAP_MEMBER_VALID, .rw, .b, true⟩]
  | .HLT_CAP_VAL_L _ _ => [⟨F.HLT_CAP_VAL_L_VALUE, .ro, .b, false⟩]
  | .HLT_CAP_VAL_H _ _ => [⟨F.HLT_CAP_VAL_H_VALUE, .ro, .b, false⟩]
  | .HLT_CAP_TIME_L _ => [⟨F.HLT_CAP_TIME_L_NS, .ro, .b, false⟩]
  | .HLT_CAP_TIME_H _ => [⟨F.HLT_CAP_TIME_H_NS, .ro, .b, false⟩, ⟨F.HLT_CAP_TIME_H_STEP_SEQ, .ro, .b, false⟩]
  | .HLT_CAP_SEQ _ => [⟨F.HLT_CAP_SEQ_SEQ, .ro, .b, false⟩]
  | .HLT_CAP_WRAP_L _ => [⟨F.HLT_CAP_WRAP_L_WRAP, .ro, .b, false⟩]
  | .HLT_CAP_WRAP_H _ => [⟨F.HLT_CAP_WRAP_H_WRAP, .ro, .b, false⟩]
  | .CNT _ => [⟨F.CNT_VALUE, .ro, .b, false⟩]

/-- SENSE at reset of interrupt source `i` (R472): 1 for the edge-sensed sources. -/
def irqEdgeAtReset (i : Nat) : Bool :=
  i == 41 || i == 48 || (64 ≤ i && i < 89) || i == 112 || i == 113

/-- Whether interrupt source `i` is assigned (R472). -/
def irqAssigned (i : Nat) : Bool :=
  i < 42 || i == 48 || (64 ≤ i && i < 89) || i == 112 || i == 113

/-- Whether interrupt source `i` has a condition in R472, so that SENSE = level is a listed value (R473). -/
def irqHasCondition (i : Nat) : Bool := i < 41 || (64 ≤ i && i < 80)

/-- Reset of HST_IRQ_SRC[i] (R472, R482): SENSE per source, ROUTE = LOWEST, TARGETS = 0x01; zero if not assigned. -/
def irqSrcReset (i : Nat) : Word :=
  if irqAssigned i then (if irqEdgeAtReset i then 0x00000150#32 else 0x00000140#32) else 0#32

/-- Reset of SWC_CLASS_CFG[k] (R314). -/
def classCfgReset (k : Nat) : Word :=
  if k ≤ 12 then 0x0000081C#32 else if k = 13 then 0x00000819#32 else 0x0000081A#32

/-- Reset of SWC_RED_PROF[k][c] (R315). -/
def redProfReset (c : Nat) : Word :=
  if c = 0 then 0x200C0040#32 else if c = 1 then 0x40080020#32 else 0x80040000#32

/-- Reset of TIM_TRIG_PERIOD[k] (R352). -/
def trigPeriodReset (k : Nat) : Word :=
  if k ≤ 3 then 1000000000#32 else if k ≤ 7 then 100#32 else 1000000#32

/-- Reset of TIM_REF_CFG[k] (R386). -/
def refCfgReset (k : Nat) : Word := if k ≤ 3 then 0x007C0010#32 else 0x007C0040#32

/-- The Reset column of a register as one word, every "img" field at the value after the slash (R11, R507).
Fields marked fuse or trim are 0 here and read through the fuses (R507). -/
def Reg.resetWord : Reg → Word
  | .HST_SVC_CFG => 0x00000001#32
  | .HST_RING_GLOBAL => 0x03E81000#32
  | .HST_RING_CFG _ => 0x0000010C#32
  | .HST_RING_IRQ _ => 0x00000001#32
  | .HST_IRQ_SRC i => irqSrcReset i
  | .HST_IRQ_CLAIM _ => 0x000000FF#32
  | .STW_ID_FAMILY => 0x00002048#32
  | .STW_BOOT_STATUS => 0x00000001#32
  | .STW_TXN_CFG => 0x003C0FA0#32
  | .STW_PAIR_STATUS => 0x00000010#32
  | .STW_PAIR_CFG => 0x00003C18#32
  | .LNE_GRP_PLL_CFG _ => 0x00083C14#32
  | .LNE_LANE_CFG _ => 0x00000024#32
  | .LNE_LANE_TXFFE_SET _ => 0x01000000#32
  | .LNE_WRN_CFG _ => 0x00000010#32
  | .LNE_TRAIN_CFG => 0x010A29F4#32
  | .LNE_ANISE_CFG => 0x00010201#32
  | .PRT_MAC_CFG _ => 0x00009000#32
  | .PRT_FC_CFG _ => 0xFFFF0000#32
  | .PRT_PFC_WM _ => 0x00C00100#32
  | .PRT_PARK_CFG => 0x01F40064#32
  | .PRT_PARK_CAP => 0x00000040#32
  | .PRT_PFC_MAP0 => 0x006D2240#32
  | .PRT_PFC_MAP1 => 0x00FF6B64#32
  | .PIP_PORT_CFG _ => 0x00000008#32
  | .PIP_DPI_CFG _ => 0x00000001#32
  | .PIP_TUN_PORTS => 0x17C112B5#32
  | .PIP_TPID => 0x00009100#32
  | .FWD_HASH_SEED1 => 0xFFFFFFFF#32
  | .FWD_HASH_SEED2 => 0xFFFFFFFF#32
  | .FWD_LKP_A _ => 0x000040E9#32
  | .FWD_LEARN_CFG => 0x0E000000#32
  | .FWD_CARAWAY_CFG => 0x010A012C#32
  | .SWC_Q_CFG _ => 0x00000001#32
  | .SWC_HIST_CFG _ => 0x0026FFFF#32
  | .SWC_CLASS_CFG k => classCfgReset k
  | .SWC_RED_PROF _ c => redProfReset c
  | .SWC_RED_CFG => 0xACE10006#32
  | .SWC_BUF_CFG => 0x00020100#32
  | .SWC_SPILL_CFG => 0x08100001#32
  | .SWC_TIME_CFG => 0x00000010#32
  | .TIM_SAF_STATUS => 0x00000400#32
  | .TIM_SAF_INC_H => 0x00000001#32
  | .TIM_SAF_CFG => 0x00002710#32
  | .TIM_OSC_QUAL_CFG => 0x141E0A01#32
  | .TIM_TRIG_CTRL _ => 0x0186A000#32
  | .TIM_TRIG_PERIOD k => trigPeriodReset k
  | .TIM_PTP_PORT _ => 0x0030CC3C#32
  | .TIM_PTP_CFG => 0x0D808000#32
  | .TIM_PTP_UTC => 0x00010025#32
  | .TIM_SEL_CFG => 0x2E321404#32
  | .TIM_SEL_TIMES => 0x000A012C#32
  | .TIM_HO_CFG => 0x18102384#32
  | .TIM_REF_CFG k => refCfgReset k
  | .TIM_ANN_CFG => 0x21F80706#32
  | .TIM_ANN_VAR => 0x00004E5D#32
  | .TIM_ANN_TSRC => 0x20202020#32
  | .TIM_TIC_CFG _ => 0x00A00010#32
  | .TIM_TIC_CFG2 _ => 0x03E80000#32
  | .TIM_TIC_RES_ST _ => 0x00000006#32
  | .TIM_TIC_CAL_CFG => 0x0000200A#32
  | .TIM_TIC_CAL_STATUS => 0x0000001F#32
  | .HLT_HEALTH_CFG => 0x00000001#32
  | .HLT_SUMAC_CFG => 0x00016450#32
  | .HLT_SPARES => 0x0001C0FF#32
  | .HLT_MARGIN => 0x000F7FFF#32
  | .HLT_AVS_CFG => 0x5E8C82BC#32
  | .HLT_AVS_STATUS => 0x000002BC#32
  | .HLT_TEMP_CFG => 0x00007369#32
  | _ => 0#32

end Sys2Proof.Machine
end

