-- ==== Sys2Proof/Machine/RegMap.lean ====
section
/-! DEFINITION. The address map read backwards (R31, R500 to R503), and which values of a register are invalid (R505):
reserved bits and the conditions that the field tables state within one register. -/
namespace Sys2Proof.Machine

/-- The value of field `f` in word `w`. -/
def Fld.get (f : Fld) (w : Word) : Nat := w.toNat / 2 ^ f.lo % 2 ^ f.w

/-- The mask of field `f`. -/
def Fld.mask (f : Fld) : Word := BitVec.ofNat 32 ((2 ^ f.w - 1) * 2 ^ f.lo)

/-- Word `w` with field `f` set to `v` (the low bits of `v`). -/
def Fld.set (f : Fld) (w : Word) (v : Nat) : Word :=
  (w &&& ~~~f.mask) ||| BitVec.ofNat 32 (v % 2 ^ f.w * 2 ^ f.lo)

/-- The value of field `f` read as two's complement over the field width (R3). -/
def Fld.sget (f : Fld) (w : Word) : Int :=
  let v := f.get w
  if v < 2 ^ (f.w - 1) then v else (v : Int) - (2 : Int) ^ f.w

/-- Populated blocks (R503): every block here holds BLKCTL at register 0xFF. -/
def blockPopulated (d w b : Nat) : Bool :=
  match d with
  | 0 => (w = 0 && (b = 1 || b = 2 || b = 3)) || (w = 1 && b ≤ 8) || (w = 2) || (w = 3 && b ≤ 8)
  | 1 => w = 0 && (b = 0 || b = 4 || b = 5 || b = 6)
  | 2 => (w ≤ 7 && b ≤ 16) || (w = 8 && b = 0)
  | 3 => (w ≤ 7 && b ≤ 15) || (w = 8 && b = 0)
  | 4 => (w ≤ 7 && b ≤ 9) || (w = 8 && b = 0)
  | 5 => w = 8 && b ≤ 3
  | 6 => (w ≤ 7 && 16 ≤ b && b ≤ 48) || (w = 8 && b ≤ 3)
  | 7 => (w = 0 && b ≤ 3) || (w = 1 && b ≤ 31) || (w = 2 && b ≤ 1) || (w = 3 && b ≤ 2) || (w = 4 && b ≤ 16)
  | 8 => (w = 0 && (b ≤ 3 || (8 ≤ b && b ≤ 23))) || (w = 1 && b = 0) || (w = 2 && b ≤ 7) || (16 ≤ w && w ≤ 63)
  | _ => false

/-- Registers of district HST. -/
def decodeHst (w b r : Nat) : Option Reg :=
  if w = 0 then
    if b = 1 then (if r = 0 then some .HST_PCIE_STATUS else none)
    else if b = 2 then (if r = 0 then some .HST_SVC_CFG else if r = 1 then some .HST_SVC_STATUS else none)
    else if b = 3 then (if r = 0 then some .HST_RING_GLOBAL else none)
    else none
  else if w = 1 then
    if b ≤ 7 then
      if r = 0 then some (.HST_MBX_DOORBELL b) else if r = 1 then some (.HST_MBX_STATE b)
      else if 16 ≤ r ∧ r < 80 then some (.HST_MBX_REQ b (r - 16))
      else if 80 ≤ r ∧ r < 144 then some (.HST_MBX_RSP b (r - 80)) else none
    else if b = 8 ∧ r = 0 then some .HST_WIN_STATUS else none
  else if w = 2 then
    match r with
    | 0 => some (.HST_RING_CFG b) | 1 => some (.HST_RING_BASE_L b) | 2 => some (.HST_RING_BASE_H b)
    | 3 => some (.HST_RING_TAIL b) | 4 => some (.HST_RING_HEAD b) | 5 => some (.HST_RING_CPTR b)
    | 6 => some (.HST_RING_ACK b) | 7 => some (.HST_RING_IRQ b) | 8 => some (.HST_RING_STATUS b)
    | _ => none
  else if w = 3 then
    if b = 0 then
      if r < 128 then some (.HST_IRQ_SRC r) else if r < 132 then some (.HST_IRQ_PEND (r - 128)) else none
    else if b ≤ 8 then
      match r with
      | 0 => some (.HST_IRQ_TGT_CFG (b - 1)) | 1 => some (.HST_IRQ_CLAIM (b - 1))
      | 2 => some (.HST_IRQ_EOI (b - 1)) | 3 => some (.HST_IRQ_TGT_STATUS (b - 1)) | _ => none
    else none
  else none

/-- Registers of district STW. -/
def decodeStw (w b r : Nat) : Option Reg :=
  if w ≠ 0 then none
  else if b = 0 then
    match r with
    | 0 => some .STW_ID_FAMILY | 1 => some .STW_ID_STEPPING | 2 => some .STW_ID_CL | 3 => some .STW_ID_PCI
    | 4 => some .STW_ID_SERIAL_L | 5 => some .STW_ID_SERIAL_H | 6 => some .STW_ID_LOT | 7 => some .STW_ID_DIE
    | 8 => some .STW_ID_MAC_L | 9 => some .STW_ID_MAC_H | 10 => some .STW_ID_FUSE | _ => none
  else if b = 4 then
    if r = 0 then some .STW_BOOT_STATUS
    else if r = 2 ∨ r = 3 then some (.STW_BANK_STATE (r - 2))
    else if r = 4 ∨ r = 5 then some (.STW_BANK_SEQ (r - 4))
    else if 9 ≤ r ∧ r ≤ 17 then some (.STW_BOOT_STEP_TIME (r - 8))
    else if r = 24 then some .STW_RESET_CTL else none
  else if b = 5 then
    match r with
    | 0 => some .STW_TXN_CFG | 1 => some .STW_EPOCH_STATUS | 2 => some .STW_EPOCH_NUMBER
    | 3 => some .STW_PERSIST_STATUS | _ => none
  else if b = 6 then
    match r with
    | 0 => some .STW_PAIR_STATUS | 1 => some .STW_PAIR_CFG | 2 => some .STW_PAIR_CTL | _ => none
  else none

/-- Registers of district LNE. -/
def decodeLne (w b r : Nat) : Option Reg :=
  if w ≤ 7 then
    if b ≤ 15 then
      if r = 0 then some (.LNE_GRP_CFG (16 * w + b)) else if r = 1 then some (.LNE_GRP_PLL_CFG (16 * w + b))
      else if r = 2 then some (.LNE_GRP_STATUS (16 * w + b))
      else if 16 ≤ r ∧ r < 144 then
        let n := 128 * w + 8 * b + (r - 16) / 16
        match (r - 16) % 16 with
        | 0 => some (.LNE_LANE_CFG n) | 1 => some (.LNE_LANE_STATUS n) | 2 => some (.LNE_LANE_TXFFE_SET n)
        | 3 => some (.LNE_LANE_TXFFE n) | 4 => some (.LNE_LANE_ANISE n) | _ => none
      else none
    else if b = 16 then
      match r with
      | 0 => some (.LNE_WRN_STATUS w) | 1 => some (.LNE_WRN_LATENCY w) | 2 => some (.LNE_WRN_CFG w) | _ => none
    else none
  else if w = 8 ∧ b = 0 then
    (if r = 0 then some .LNE_TRAIN_CFG else if r = 1 then some .LNE_ANISE_CFG else none)
  else none

/-- Registers of district PRT. -/
def decodePrt (w b r : Nat) : Option Reg :=
  if w ≤ 7 then
    if b ≤ 15 then
      if r = 0 then some (.PRT_BLK_CFG (16 * w + b))
      else if 16 ≤ r ∧ r < 144 then
        let p := 128 * w + 8 * b + (r - 16) / 16
        match (r - 16) % 16 with
        | 0 => some (.PRT_MAC_CFG p) | 1 => some (.PRT_PORT_STATUS p) | 2 => some (.PRT_FC_CFG p)
        | 3 => some (.PRT_PFC_WM p) | 4 => some (.PRT_PFC_STATUS p) | _ => none
      else none
    else none
  else if w = 8 ∧ b = 0 then
    match r with
    | 0 => some .PRT_PARK_CFG | 1 => some .PRT_PARK_CAP | 2 => some .PRT_PFC_MAP0 | 3 => some .PRT_PFC_MAP1
    | _ => none
  else none

/-- Registers of district PIP. -/
def decodePip (w b r : Nat) : Option Reg :=
  if w ≤ 7 then
    if b ≤ 7 then
      if 16 ≤ r ∧ r < 80 then
        let p := 128 * w + 16 * b + (r - 16) / 4
        match (r - 16) % 4 with
        | 0 => some (.PIP_PORT_CFG p) | 1 => some (.PIP_PORT_DEF_A p) | 2 => some (.PIP_PORT_DEF_B p) | _ => none
      else none
    else if b = 8 then
      if r = 0 then some (.PIP_TBL_CMD w) else if r = 1 then some (.PIP_TBL_STATUS w)
      else if 16 ≤ r ∧ r < 50 then some (.PIP_TBL_DATA w (r - 16)) else none
    else if b = 9 then
      (if r = 0 then some (.PIP_DPI_CFG w) else if r = 1 then some (.PIP_DPI_STATUS w) else none)
    else none
  else if w = 8 ∧ b = 0 then
    (if r = 0 then some .PIP_TUN_PORTS else if r = 1 then some .PIP_TPID else none)
  else none

/-- Registers of district FWD. -/
def decodeFwd (w b r : Nat) : Option Reg :=
  if w ≠ 8 then none
  else if b = 0 then
    if r = 0 then some .FWD_TBL_CMD else if r = 1 then some .FWD_TBL_STATUS
    else if 16 ≤ r ∧ r < 25 then some (.FWD_TBL_DATA (r - 16)) else none
  else if b = 1 then
    match r with
    | 0 => some .FWD_HASH_SEED1 | 1 => some .FWD_HASH_SEED2 | 2 => some .FWD_REHASH_SEED1
    | 3 => some .FWD_REHASH_SEED2 | 4 => some .FWD_REHASH_CTL | 5 => some .FWD_HASH_STATUS | _ => none
  else if b = 2 then
    if r < 32 then (if r % 2 = 0 then some (.FWD_LKP_A (r / 2)) else some (.FWD_LKP_B (r / 2))) else none
  else if b = 3 then
    match r with
    | 0 => some .FWD_LEARN_CFG | 1 => some .FWD_CARAWAY_CFG | 2 => some .FWD_ENTRIES
    | 3 => some .FWD_LEARNED_ENTRIES | 4 => some .FWD_CARAWAY_STATUS | _ => none
  else none

/-- Registers of district SWC. -/
def decodeSwc (w b r : Nat) : Option Reg :=
  if w ≤ 7 then
    if 16 ≤ b ∧ b ≤ 47 then
      if r < 128 then
        let q := 2048 * w + 64 * (b - 16) + r / 2
        if r % 2 = 0 then some (.SWC_Q_CFG q) else some (.SWC_Q_STATUS q)
      else none
    else if b = 48 then (if r < 128 then some (.SWC_HIST_CFG (128 * w + r)) else none)
    else none
  else if w = 8 then
    if b = 0 then (if r < 16 then some (.SWC_CLASS_CFG r) else none)
    else if b = 1 then
      if r < 48 then some (.SWC_RED_PROF (r / 3) (r % 3)) else if r = 48 then some .SWC_RED_CFG else none
    else if b = 2 then
      match r with
      | 0 => some .SWC_BUF_CFG | 1 => some .SWC_SPILL_CFG | 2 => some .SWC_TIME_CFG | 3 => some .SWC_BUF_STATUS
      | 4 => some .SWC_SPILL_STATUS | 5 => some .SWC_SPILL_CELLS | _ => none
    else if b = 3 then
      if r = 0 then some .SWC_TBL_CMD else if r = 1 then some .SWC_TBL_STATUS else if r = 2 then some .SWC_TBL_INDEX
      else if 16 ≤ r ∧ r < 48 then some (.SWC_TBL_DATA (r - 16)) else none
    else none
  else none

/-- Registers of district TIM. -/
def decodeTim (w b r : Nat) : Option Reg :=
  if w = 0 then
    if b = 0 then
      match r with
      | 0 => some .TIM_SAF_STATUS | 1 => some .TIM_SAF_INC_L | 2 => some .TIM_SAF_INC_H | 3 => some .TIM_SAF_TIME_F
      | 4 => some .TIM_SAF_TIME_L | 5 => some .TIM_SAF_TIME_H | 6 => some .TIM_SAF_VAL_L | 7 => some .TIM_SAF_VAL_H
      | 8 => some .TIM_SAF_CMD | 9 => some .TIM_SAF_CFG | _ => none
    else if b = 1 then
      (if r = 0 then some .TIM_OSC_QUAL_CFG else if r = 1 then some .TIM_OSC_QUAL_STATUS else none)
    else if b = 2 then
      if r < 128 then
        match r % 8 with
        | 0 => some (.TIM_TRIG_CTRL (r / 8)) | 1 => some (.TIM_TRIG_START_F (r / 8))
        | 2 => some (.TIM_TRIG_START_L (r / 8)) | 3 => some (.TIM_TRIG_START_H (r / 8))
        | 4 => some (.TIM_TRIG_PERIOD (r / 8)) | 5 => some (.TIM_TRIG_COUNT (r / 8))
        | 6 => some (.TIM_TRIG_STATUS (r / 8)) | _ => some (.TIM_TRIG_FIRED (r / 8))
      else none
    else if b = 3 then (if r = 0 then some .TIM_ENG_CTL else none)
    else none
  else if w = 1 then
    if b ≤ 31 then
      let p := 32 * b + r / 8
      match r % 8 with
      | 0 => some (.TIM_PTP_PORT p) | 1 => some (.TIM_PORT_ASYM p) | 2 => some (.TIM_PORT_LAT p)
      | 3 => some (.TIM_PHASE p) | 4 => some (.TIM_PORT_STATUS p) | 5 => some (.TIM_PTP_OFFSET p)
      | 6 => some (.TIM_PTP_DELAY p) | _ => none
    else none
  else if w = 2 then
    if b = 0 then (if r = 0 then some .TIM_PTP_CFG else if r = 1 then some .TIM_PTP_UTC else none)
    else if b = 1 then
      if r = 0 then some .TIM_TBL_CMD else if r = 1 then some .TIM_TBL_STATUS
      else if 16 ≤ r ∧ r < 20 then some (.TIM_TBL_DATA (r - 16)) else none
    else none
  else if w = 3 then
    if b = 0 then
      match r with
      | 0 => some .TIM_SEL_CFG | 1 => some .TIM_SEL_TIMES | 2 => some .TIM_HO_CFG | 3 => some .TIM_SEL_STATUS
      | 4 => some .TIM_HO_FREQ | 5 => some .TIM_HO_DRIFT | 6 => some .TIM_PJ_LAST | 7 => some .TIM_PJ_ABSORBED
      | 8 => some .TIM_SERVO_ERR | _ => none
    else if b = 1 then
      if r < 32 then
        match r % 4 with
        | 0 => some (.TIM_REF_CFG (r / 4)) | 1 => some (.TIM_REF_DELAY (r / 4))
        | 2 => some (.TIM_REF_STATUS (r / 4)) | _ => some (.TIM_REF_FREQ (r / 4))
      else none
    else if b = 2 then
      if r < 8 then (if r % 2 = 0 then some (.TIM_PPS_OFS_L (r / 2)) else some (.TIM_PPS_OFS_H (r / 2)))
      else if r = 8 then some .TIM_ANN_CFG else if r = 9 then some .TIM_ANN_VAR
      else if r = 10 then some .TIM_ANN_TSRC else none
    else none
  else if w = 4 then
    if b ≤ 15 then
      match r with
      | 0 => some (.TIM_TIC_CFG b) | 1 => some (.TIM_TIC_CFG2 b) | 2 => some (.TIM_TIC_DELAY b)
      | 3 => some (.TIM_TIC_STATUS b) | 4 => some (.TIM_TIC_RES_ST b) | 5 => some (.TIM_TIC_RES_L b)
      | 6 => some (.TIM_TIC_RES_H b) | 7 => some (.TIM_TIC_RES_CNT b) | _ => none
    else if b = 16 then
      (if r = 0 then some .TIM_TIC_CAL_CFG else if r = 1 then some .TIM_TIC_CAL_STATUS else none)
    else none
  else none

/-- Registers of district HLT. -/
def decodeHlt (w b r : Nat) : Option Reg :=
  if w = 0 then
    if b = 0 then
      match r with
      | 0 => some .HLT_HEALTH_CFG | 1 => some .HLT_HEALTH_STATUS | 2 => some .HLT_LOG_HEAD | _ => none
    else if b = 1 then
      match r with
      | 0 => some .HLT_SUMAC_CFG | 1 => some .HLT_SPARES | 2 => some .HLT_MARGIN | _ => none
    else if b = 2 then (if r = 0 then some .HLT_AVS_CFG else if r = 1 then some .HLT_AVS_STATUS else none)
    else if b = 3 then
      if r = 0 then some .HLT_TEMP_CFG else if 16 ≤ r ∧ r < 48 then some (.HLT_TEMP (r - 16)) else none
    else if 8 ≤ b ∧ b ≤ 23 then (if r < 128 then some (.HLT_LOG (16 * (b - 8) + r / 8) (r % 8)) else none)
    else none
  else if w = 1 then
    if b = 0 then
      match r with
      | 0 => some .HLT_CNT_VAL_H | 1 => some .HLT_CNT_TIME_L | 2 => some .HLT_CNT_TIME_H | 3 => some .HLT_CNT_FLAGS
      | _ => none
    else none
  else if w = 2 then
    if b ≤ 7 then
      if r < 64 then some (.HLT_CAP_MEMBER b r)
      else if r < 192 then
        (if r % 2 = 0 then some (.HLT_CAP_VAL_L b ((r - 64) / 2)) else some (.HLT_CAP_VAL_H b ((r - 64) / 2)))
      else match r with
        | 192 => some (.HLT_CAP_TIME_L b) | 193 => some (.HLT_CAP_TIME_H b) | 194 => some (.HLT_CAP_SEQ b)
        | 195 => some (.HLT_CAP_WRAP_L b) | 196 => some (.HLT_CAP_WRAP_H b) | _ => none
    else none
  else if 16 ≤ w ∧ w ≤ 63 then
    (if r < 128 then some (.CNT (8192 * (w - 16) + 128 * b + r)) else none)
  else none

/-- The register at a byte address of the window, if the address is assigned (R31, R501). Bits [1:0] and [31:26] of an
assigned address are zero (R502). -/
def decodeAddr (a : Nat) : Option Reg :=
  if a % 4 ≠ 0 ∨ a ≥ 0x4000000 then none
  else
    let d := a / 0x400000
    let w := a / 0x10000 % 64
    let b := a / 0x400 % 64
    let r := a / 4 % 256
    if r = 255 then (if blockPopulated d w b then some (.BLKCTL d w b) else none)
    else match d with
      | 0 => decodeHst w b r
      | 1 => decodeStw w b r
      | 2 => decodeLne w b r
      | 3 => decodePrt w b r
      | 4 => decodePip w b r
      | 5 => decodeFwd w b r
      | 6 => decodeSwc w b r
      | 7 => decodeTim w b r
      | 8 => decodeHlt w b r
      | _ => none

/-- The bits of a register that belong to some listed field; every other bit is reserved (R9). -/
def Reg.fieldMask (r : Reg) : Word := (r.fields).foldl (fun m f => m ||| f.fld.mask) 0#32

/-- The bits of the fields of a register that satisfy `p`. -/
def Reg.maskOf (r : Reg) (p : FieldInfo → Bool) : Word :=
  (r.fields).foldl (fun m f => if p f then m ||| f.fld.mask else m) 0#32

def Reg.hasAcc (r : Reg) (a : Access) : Bool := r.fields.any (fun f => f.acc == a)

/-- Whether the register holds ST fields, so that writes of it are staged (R7, R504: none holds both ST and RW). -/
def Reg.isST (r : Reg) : Bool := r.hasAcc .st

/-- Whether the register has a field of type RW, W1C, W1S, WO, ST or RWL (R502). -/
def Reg.writable (r : Reg) : Bool := r.fields.any (fun f => f.acc != .ro)

/-- Whether an image REG record may set the register: some field RW, ST or RWL (R502). -/
def Reg.imageWritable (r : Reg) : Bool :=
  r.fields.any (fun f => f.acc == .rw || f.acc == .st || f.acc == .rwl)

/-- The five transmit taps of R136 lie in their ranges and their magnitudes sum to at most 64. -/
def tapsOk (cm3 cm2 cm1 c0 cp1 : Int) : Bool :=
  decide (-8 ≤ cm3) && decide (cm3 ≤ 0) && decide (0 ≤ cm2) && decide (cm2 ≤ 12) && decide (-24 ≤ cm1) &&
  decide (cm1 ≤ 0) && decide (32 ≤ c0) && decide (c0 ≤ 64) && decide (-16 ≤ cp1) && decide (cp1 ≤ 0) &&
  decide (cm3.natAbs + cm2.natAbs + cm1.natAbs + c0.natAbs + cp1.natAbs ≤ 64)

/-- A default action word A (R216, R218): listed encodings of COLOUR and DISP, STEER and RECIRC zero. -/
def defActOk (w : Word) : Bool :=
  F.PIP_PORT_DEF_A_COLOUR.get w != 3 && F.PIP_PORT_DEF_A_DISP.get w != 3 &&
  F.PIP_PORT_DEF_A_STEER.get w == 0 && F.PIP_PORT_DEF_A_RECIRC.get w == 0

/-- A signed 4-bit field within `lo` to `hi`. -/
def s4In (v : Nat) (lo hi : Int) : Bool :=
  let x : Int := if v < 8 then v else (v : Int) - 16
  decide (lo ≤ x) && decide (x ≤ hi)

/-- The conditions of R505 that a register's own table and statement place on a value, reserved bits apart. The ring
TAIL condition needs the ring's size and is checked where the ring is known. -/
def Reg.fieldsOk (r : Reg) (v : Word) : Bool :=
  let g (f : Fld) : Nat := f.get v
  match r with
  | .HST_RING_CFG x =>
      6 ≤ g F.HST_RING_CFG_SIZE_LOG2 &&
      (x ≥ 32 || g F.HST_RING_CFG_BUF != 0)
  | .HST_RING_IRQ _ => g F.HST_RING_IRQ_COUNT != 0
  | .HST_RING_GLOBAL => 16 ≤ g F.HST_RING_GLOBAL_DQ_LIMIT
  | .HST_IRQ_SRC i => !irqAssigned i || g F.HST_IRQ_SRC_SENSE == 1 || irqHasCondition i
  | .STW_TXN_CFG => 100 ≤ g F.STW_TXN_CFG_DRAIN_LIMIT
  | .STW_PAIR_CFG => g F.STW_PAIR_CFG_SELFTEST_PERIOD != 0
  | .LNE_GRP_PLL_CFG _ =>
      g F.LNE_GRP_PLL_CFG_LOCK_WIN != 0 && g F.LNE_GRP_PLL_CFG_LOCK_WIN ≤ g F.LNE_GRP_PLL_CFG_UNLOCK_WIN &&
      g F.LNE_GRP_PLL_CFG_ATTEMPTS != 0
  | .LNE_LANE_CFG _ => g F.LNE_LANE_CFG_SLEEP != 3 && g F.LNE_LANE_CFG_PATTERN != 3
  | .LNE_LANE_TXFFE_SET _ =>
      tapsOk (F.LNE_LANE_TXFFE_SET_CM3.sget v) (F.LNE_LANE_TXFFE_SET_CM2.sget v) (F.LNE_LANE_TXFFE_SET_CM1.sget v)
        (F.LNE_LANE_TXFFE_SET_C0.get v) (F.LNE_LANE_TXFFE_SET_CP1.sget v)
  | .LNE_WRN_CFG _ => g F.LNE_WRN_CFG_UNCORR_LIMIT != 0
  | .LNE_TRAIN_CFG =>
      10 ≤ g F.LNE_TRAIN_CFG_TRAIN_TIMEOUT && g F.LNE_TRAIN_CFG_HOLDOFF != 0 && g F.LNE_TRAIN_CFG_SLEEP_DELAY != 0
  | .LNE_ANISE_CFG => g F.LNE_ANISE_CFG_SWAP_GAIN != 0
  | .PRT_MAC_CFG _ => 1518 ≤ g F.PRT_MAC_CFG_MAX_FRAME
  | .PRT_FC_CFG _ => g F.PRT_FC_CFG_FC_MODE != 3 && g F.PRT_FC_CFG_QUANTA != 0
  | .PRT_PFC_WM _ => 2 ≤ g F.PRT_PFC_WM_XOFF && g F.PRT_PFC_WM_XON < g F.PRT_PFC_WM_XOFF
  | .PRT_PARK_CFG => g F.PRT_PARK_CFG_STALE != 0
  | .PIP_PORT_CFG _ => g F.PIP_PORT_CFG_TUNNEL != 3
  | .PIP_PORT_DEF_A _ => defActOk v
  | .PIP_DPI_CFG _ => g F.PIP_DPI_CFG_OVERFLOW < 2
  | .PIP_TUN_PORTS => g F.PIP_TUN_PORTS_VXLAN_PORT != g F.PIP_TUN_PORTS_GENEVE_PORT
  | .PIP_TPID =>
      !([0x8100, 0x88A8, 0x8847, 0x8848, 0x0800, 0x86DD].contains (g F.PIP_TPID_TPID_ALT))
  | .FWD_LKP_A _ =>
      g F.FWD_LKP_A_KTYPE ≤ 4 && g F.FWD_LKP_A_MISS_DISP != 3 &&
      (g F.FWD_LKP_A_LEARN == 0 || g F.FWD_LKP_A_KTYPE == 1)
  | .FWD_LEARN_CFG => g F.FWD_LEARN_CFG_MAX_LEARNED ≤ 33554432
  | .FWD_CARAWAY_CFG => g F.FWD_CARAWAY_CFG_T1_DECAY != 0
  | .SWC_Q_CFG _ => g F.SWC_Q_CFG_WEIGHT != 0
  | .SWC_HIST_CFG _ => g F.SWC_HIST_CFG_MIN_EXP ≤ 16
  | .SWC_CLASS_CFG _ =>
      g F.SWC_CLASS_CFG_ALPHA != 7 && g F.SWC_CLASS_CFG_RESERVE ≤ 32 &&
      g F.SWC_CLASS_CFG_TIME + g F.SWC_CLASS_CFG_EXPRESS + g F.SWC_CLASS_CFG_SPILL_EN ≤ 1
  | .SWC_RED_PROF _ _ => g F.SWC_RED_PROF_MIN < g F.SWC_RED_PROF_MAX
  | .SWC_RED_CFG =>
      1 ≤ g F.SWC_RED_CFG_WEIGHT_EXP && g F.SWC_RED_CFG_WEIGHT_EXP ≤ 12 && g F.SWC_RED_CFG_SEED != 0
  | .SWC_BUF_CFG =>
      1 ≤ g F.SWC_BUF_CFG_HR_POOL && g F.SWC_BUF_CFG_HR_POOL ≤ 512 && 16 ≤ g F.SWC_BUF_CFG_HEADROOM
  | .SWC_SPILL_CFG => 256 ≤ g F.SWC_SPILL_CFG_ON && g F.SWC_SPILL_CFG_MAX != 0
  | .SWC_TIME_CFG => 2 ≤ g F.SWC_TIME_CFG_BURST
  | .TIM_SAF_CFG => g F.TIM_SAF_CFG_SLEW_PPB != 0
  | .TIM_OSC_QUAL_CFG => g F.TIM_OSC_QUAL_CFG_LIMIT != 0 && g F.TIM_OSC_QUAL_CFG_COUNT != 0
  | .TIM_TRIG_CTRL _ => g F.TIM_TRIG_CTRL_WIDTH != 0
  | .TIM_PTP_PORT _ =>
      s4In (g F.TIM_PTP_PORT_LOG_SYNC) (-7) 1 && s4In (g F.TIM_PTP_PORT_LOG_DREQ) (-7) 1 &&
      s4In (g F.TIM_PTP_PORT_LOG_ANN) (-3) 3 &&
      2 ≤ g F.TIM_PTP_PORT_ANN_TIMEOUT && g F.TIM_PTP_PORT_ANN_TIMEOUT ≤ 10
  | .TIM_PTP_UTC => !(g F.TIM_PTP_UTC_LEAP61 == 1 && g F.TIM_PTP_UTC_LEAP59 == 1)
  | .TIM_SEL_CFG =>
      g F.TIM_SEL_CFG_MODE != 3 && g F.TIM_SEL_CFG_PJ_THRESH != 0 && g F.TIM_SEL_CFG_DISAGREE != 0 &&
      g F.TIM_SEL_CFG_FREQ_LIMIT != 0
  | .TIM_SEL_TIMES => g F.TIM_SEL_TIMES_QUAL_TIME != 0
  | .TIM_HO_CFG => 60 ≤ g F.TIM_HO_CFG_HO_AVG && g F.TIM_HO_CFG_HO_LIMIT != 0
  | .TIM_REF_CFG k =>
      (if k ≤ 3 then g F.TIM_REF_CFG_KIND ≤ 2
       else g F.TIM_REF_CFG_KIND = 3 || g F.TIM_REF_CFG_KIND = 4) &&
      g F.TIM_REF_CFG_BW != 0xE && g F.TIM_REF_CFG_TBW ≤ 4
  | .TIM_TIC_CFG _ =>
      g F.TIM_TIC_CFG_EDGE != 3 && 10 ≤ g F.TIM_TIC_CFG_LIMIT_EXP && g F.TIM_TIC_CFG_LIMIT_EXP ≤ 40
  | .TIM_TIC_CFG2 _ => g F.TIM_TIC_CFG2_GATE != 0
  | .TIM_TIC_CAL_CFG => g F.TIM_TIC_CAL_CFG_SOURCE != 3
  | .HLT_HEALTH_CFG => g F.HLT_HEALTH_CFG_IRQ_MIN != 3
  | .HLT_SUMAC_CFG => 65 ≤ g F.HLT_SUMAC_CFG_THRESH && 10 ≤ g F.HLT_SUMAC_CFG_HOLD
  | .HLT_AVS_CFG =>
      550 ≤ g F.HLT_AVS_CFG_FLOOR && g F.HLT_AVS_CFG_FLOOR ≤ g F.HLT_AVS_CFG_CEIL && g F.HLT_AVS_CFG_CEIL ≤ 800 &&
      g F.HLT_AVS_CFG_UP != 0 && g F.HLT_AVS_CFG_UP < g F.HLT_AVS_CFG_DOWN
  | .HLT_TEMP_CFG => g F.HLT_TEMP_CFG_WARN < g F.HLT_TEMP_CFG_CRIT && g F.HLT_TEMP_CFG_CRIT ≤ 150
  | _ => true

/-- A value that R505 does not call invalid, as far as one register tells. -/
def Reg.valueOk (r : Reg) (v : Word) : Bool :=
  (v &&& ~~~r.fieldMask) == 0#32 && r.fieldsOk v

end Sys2Proof.Machine
end

