-- ==== Sys2Proof/Machine/Store.lean ====
section
/-! DEFINITION. Sparse stores: lists of (key, value) pairs in one canonical form, keys strictly rising and no entry equal
to what an unlisted key reads as. -/
namespace Sys2Proof.Machine

/-- A sparse store. An unlisted key reads as the default its reader names. -/
abbrev SMap (α : Type) := List (Nat × α)

/-- The entry at key `k`, if listed. -/
def sfind {α : Type} : SMap α → Nat → Option α
  | [], _ => none
  | (j, v) :: m, k => if j = k then some v else sfind m k

/-- The value at key `k`, or `d` where unlisted. -/
def sgetD {α : Type} (m : SMap α) (k : Nat) (d : α) : α := (sfind m k).getD d

/-- List `v` at key `k`, in key order, replacing what stood there. -/
def sinsert {α : Type} : SMap α → Nat → α → SMap α
  | [], k, v => [(k, v)]
  | (j, w) :: m, k, v =>
    if k < j then (k, v) :: (j, w) :: m else if k = j then (k, v) :: m else (j, w) :: sinsert m k v

/-- Unlist key `k`. -/
def serase {α : Type} : SMap α → Nat → SMap α
  | [], _ => []
  | (j, w) :: m, k => if j = k then m else (j, w) :: serase m k

/-- Write `v` at key `k`, where unlisted keys read as `d`: writing `d` unlists the key. -/
def sput {α : Type} [DecidableEq α] (d : α) (m : SMap α) (k : Nat) (v : α) : SMap α :=
  if v = d then serase m k else sinsert m k v

/-- Keys strictly rising, all above `lo` when `lo` is given. -/
def skeysFrom {α : Type} : Option Nat → SMap α → Bool
  | _, [] => true
  | none, (k, _) :: m => skeysFrom (some k) m
  | some l, (k, _) :: m => decide (l < k) && skeysFrom (some k) m

/-- The canonical form of a store whose unlisted keys read as `d k`. -/
def swf {α : Type} [DecidableEq α] (d : Nat → α) (m : SMap α) : Bool :=
  skeysFrom none m && m.all (fun kv => decide (kv.2 ≠ d kv.1))

end Sys2Proof.Machine
end

