-- ==== Sys2Proof/Machine/State.lean ====
section
/-! DEFINITION. The state of the EV-2048: plain data. Software-visible registers stand in `regs` (and the banks of the
staged ones in `st0` and `st1`); everything a register does not show stands in the records of its chapter. -/
namespace Sys2Proof.Machine

/-- Why the machine stops with a fault. The manual gives every command of the block an effect, so none stops it. -/
inductive Fault where
  /-- Raised by nothing: no meaning and no step answers it. Safe, since it would stop the machine. -/
  | unreachable
  deriving DecidableEq, Repr

/-- Why a command is refused. -/
inductive Refusal where
  /-- Raised by `exec`'s own arms for a command that has no meaning yet; safe, because the machine stops. -/
  | notModelled (mnemonic : String)
  deriving DecidableEq, Repr

/-! ## Counters (R485 to R492) -/

/-- One counter: its 64-bit value and its sticky WRAP bit (R487, R488). -/
structure Cnt where
  val  : Word64
  wrap : Bool
  deriving DecidableEq, Repr

/-- A session's counter latch: the words of HLT_CNT_VAL_H, _TIME_L, _TIME_H and _FLAGS (R490, R491). -/
structure Latch where
  valH  : Word
  timeL : Word
  timeH : Word
  flags : Word
  deriving DecidableEq, Repr

/-! ## Table rows (R214, R215, R298, R344) -/

/-- A row of a ternary, pattern, multicast or gate table: its data words and its two visibility bits. -/
structure Row where
  words : List Word
  vis0 : Bool
  vis1 : Bool
  deriving DecidableEq, Repr

/-! ## Frames (R174 to R186, R203 to R224, R281 to R305) -/

/-- The parser's verdict (R205, R207). -/
inductive Verdict where | ok | deep | length
  deriving DecidableEq, Repr

/-- The parse result (R209): the key fields of R210 to R212, the payload offset, the verdict and the validity flags.
A field whose header was not parsed is zero (R213). -/
structure Parse where
  verdict : Verdict
  payload : Nat
  l3v : Bool
  l4v : Bool
  tcpfV : Bool
  tun : Nat
  vni : Nat
  tags : Nat
  ovid : Nat
  opcp : Nat
  odei : Nat
  ivid : Nat
  ipcp : Nat
  mplsN : Nat
  label0 : Nat
  label1 : Nat
  mplsTc : Nat
  ptp : Bool
  ptpType : Nat
  ptpOff : Option Nat
  l3type : Nat
  frag : Nat
  sip : Nat
  dip : Nat
  proto : Nat
  dscp : Nat
  ecn : Nat
  ttl : Nat
  flow : Nat
  sport : Nat
  dport : Nat
  tcpf : Nat
  da : Nat
  sa : Nat
  etype : Nat
  innerDa : Nat
  innerEtype : Nat
  pay16 : Nat
  deriving DecidableEq, Repr

/-- An action (R216): word A and word B. -/
structure Action where
  a : Word
  b : Word
  deriving DecidableEq, Repr

/-- Where a frame goes after classification or lookup (R217, R242, R244). -/
inductive Route where
  | port (e : Nat)
  | mcast (group : Nat) (noHairpin : Bool)
  | ring (r : Nat) (reason : Nat)
  deriving DecidableEq, Repr

/-- Where a frame stands on the path of R32. -/
inductive Stage where
  | admitted | parsed | dpi | recirc | lookup
  /-- tier-2 reads issued: the copy read, the set's SETGEN then, the lookup key. -/
  | tier2 (copy setgen key : Nat)
  | routed | queued | dropped
  deriving DecidableEq, Repr

/-- The pool that a frame's cells are charged to (R288, R290). -/
inductive Pool where | reserve | shared | headroom | spill
  deriving DecidableEq, Repr

/-- A frame in the device, from admission until its last reference is released. -/
structure Frame where
  /-- ingress port, or the transmit ring when `fromHost`. -/
  port : Nat
  fromHost : Bool
  /-- a frame that the PTP engine itself sends. -/
  engine : Bool
  lane : Nat
  /-- ingress timestamp in units of 2^-16 ns (R326). -/
  ts : Nat
  /-- parse pipeline that it was dealt to (R203), by its physical index. -/
  pipe : Nat
  /-- epoch selector (R33). -/
  sel : Nat
  /-- ADMIT (R283): Saffron time at admission, ns, modulo 2^32. -/
  admitT : Nat
  bytes : List Byte
  errBlock : Bool
  errCtl : Bool
  /-- the last byte has arrived and the checks of R175 are made. -/
  ended : Bool
  bad : Bool
  parse : Option Parse
  act : Option Action
  pass2 : Bool
  dpiHit : Bool
  dpiTag : Nat
  /-- the inspection engine's verdict is formed (R220); the rows that match where a promotion found the scan under way (R224). -/
  scanned : Bool
  scanOld : Option (List (Nat × Row))
  stage : Stage
  /-- order of release to lookup or enqueue within the ingress port (R249, R222). -/
  lkSeq : Nat
  route : Option Route
  /-- COPY_HOST ring (R217). -/
  copyRing : Option Nat
  cls : Nat
  vid : Option Nat
  /-- source key to learn, once looked up with a learning profile (R259). -/
  learnKey : Option Nat
  /-- cells reserved or held, the pool charged and further cells from the shared pool (R289, R290). -/
  pool : Option Pool
  charge : Nat
  extra : Nat
  written : Nat
  whole : Bool
  /-- addresses of the written cells, first cell first (R282). -/
  cells : List Nat
  /-- cells that have crossed and left the buffer, of a frame with one replica alone (R290). -/
  left : Nat
  /-- words of the buffer met with an uncorrectable error: the place in 64-bit words and the bytes as read; and the first cell
  whose link word was (R284). -/
  badWords : List (Nat × List Byte)
  badLink : Option Nat
  /-- cells that a stalled bank holds, by their place in the frame (R434). -/
  gone : List Nat
  deriving DecidableEq, Repr

/-- Where a replica's cells stand with respect to spill (R294 to R297). -/
inductive SpillSt where
  | onDie
  | inSpill (stack : Nat)
  /-- the stack left service with the cells. -/
  | lost (stack : Nat)
  deriving DecidableEq, Repr

/-- A replica of a frame in a VOQ, crossing, in a transmit buffer or in transmission (R283, R285). -/
structure Replica where
  frame : Nat
  /-- egress queue. -/
  q : Nat
  /-- ingress port group of the VOQ. -/
  g : Nat
  pool : Pool
  lossless : Bool
  /-- CT: may be sent cut-through (R176). -/
  ct : Bool
  noRewrite : Bool
  vid : Option Nat
  spill : SpillSt
  /-- cells that have crossed. -/
  crossed : Nat
  /-- cells that the MAC has drained from the transmit buffer. -/
  drained : Nat
  /-- the MAC has started the frame; its egress timestamp in units of 2^-16 ns. -/
  tx : Option Nat
  /-- held at a return instant: checked for age on reaching the head; and whether that check is made (R189). -/
  ageChk : Bool
  aged : Bool
  /-- it has been examined for the yield of rung 2, or counted for that of rung 6 (R311). -/
  yielded : Bool
  /-- order number of its first crossing (R304: the transmit buffer is first in, first out). -/
  xseq : Nat
  deriving DecidableEq, Repr

/-! ## Exact match (R243 to R267) -/

/-- A tier-2 bucket (R243): key, results and state word. `moved` is STATE = MOVED. -/
structure FwdEntry where
  key : Nat
  resA : Word
  resB : Word
  moved : Bool
  vis : Nat
  slot : Nat
  ageEn : Bool
  learned : Bool
  deriving DecidableEq, Repr

/-- A tier-1 way (R248). -/
structure Way where
  key : Nat
  resA : Word
  resB : Word
  vis : Nat
  bucket : Nat
  recn : Nat
  deriving DecidableEq, Repr

/-- A tier-1 set: four ways and SETGEN (R248). -/
structure T1Set where
  ways : List (Option Way)
  gen : Nat
  deriving DecidableEq, Repr

/-- A relocation chain under way in the table unit (R251, R257): the MOVED bucket waiting to become EMPTY, the buckets
of the chain still to be moved (from the empty end backwards), and the version to place at the end. -/
structure TuJob where
  moved : Nat
  chain : List Nat
  entry : FwdEntry
  /-- the insert belongs to the commit being applied; otherwise to a learning request. -/
  commit : Bool
  deriving DecidableEq, Repr

/-- Exact-match state beyond the registers. -/
structure Fwd where
  copy0 : SMap FwdEntry
  copy1 : SMap FwdEntry
  /-- the two stacks of each copy, none where the copy was not formed (R245). -/
  stacks0 : Option (Nat × Nat)
  stacks1 : Option (Nat × Nat)
  /-- hit memory: bit 0 HIT, bit 1 GONE (R252). -/
  hit : SMap Nat
  /-- tier 1 (R248). -/
  t1 : SMap T1Set
  /-- learning queue: source key and ingress port (R260). -/
  learnQ : List (Nat × Nat)
  job : Option TuJob
  /-- keys whose versions the commit that created the current epoch touched (R258). -/
  touched : List Nat
  /-- the same, for the commit at its step 4 (R108). -/
  touching : List Nat
  /-- Caraway: the pass under way (aging?), next bucket, ports served, and the flush set; port 1024 is "every port" (R264). -/
  pass : Option Bool
  pos : Nat
  serving : List Nat
  flushSet : List Nat
  /-- ports flushed again while the pass under way serves them: a following pass serves them anew (R264). -/
  again : List Nat
  /-- the port that the pending FLUSH command named (R264); 1024 is every port. -/
  flushCmd : Option Nat
  /-- the pass under way serves that command, so it is pending until the pass ends (R264). -/
  cmdServed : Bool
  /-- an aging pass fell due during another pass (R264). -/
  agingDue : Bool
  /-- buckets whose GONE returns to 0 after an aging removal (R262). -/
  gone : List Nat
  /-- copy 1 of a rebuild failed and is being restored under the old seeds (R266). -/
  rebuildFailed : Bool
  /-- the seeds of the rebuild under way (R266). -/
  newSeeds : Nat × Nat
  /-- the seeds each copy was built with, where they are not those of the seed registers (R266). -/
  over0 : Option (Nat × Nat)
  over1 : Option (Nat × Nat)
  deriving DecidableEq, Repr

/-! ## Switch core (R281 to R311) -/

/-- Scheduler, averages and bank rotation. -/
structure Swc where
  /-- grant pointers GP[h][t], key 8h + t, and accept pointers AP[g][t], key 8g + t (R303). -/
  gp : SMap Nat
  ap : SMap Nat
  /-- port served first in the previous round per (g, h), key 64g + h; VOQ pointer per (g, h, tier), key 8(64g + h) + t (R304). -/
  rotPort : SMap Nat
  rotVoq : SMap Nat
  /-- TOK[q] in units of 1/80 byte, and the tick it was brought up to date at (R302); unlisted: 0 at `tokTick`. -/
  tok : SMap (Nat × Nat)
  tokTick : Nat
  /-- DC[q] in bytes (R302). -/
  dc : SMap Int
  /-- AVG[q] with 8 fraction bits (R293). -/
  avg : SMap Int
  /-- one LFSR per slice (R293). -/
  lfsr : SMap Nat
  /-- bank rotation pointer per slice (R281). -/
  bankRot : SMap Nat
  /-- logical banks whose live rows are being copied to a spare: old physical, new physical (R308). -/
  bankCopy : List (Nat × Nat)
  /-- spill writes and refill reads of the last 1 µs: tick and cells (R295). -/
  spillLog : List (Nat × Nat)
  /-- tick of the latest spill refusal for budget (R316), if any. -/
  refusedAt : Option Nat
  deriving DecidableEq, Repr

/-! ## Ports and MAC (R167 to R202) -/

/-- MAC and park state of a port beyond its registers. -/
structure PortSt where
  /-- priorities (bit 0 alone in pause mode) for which a frame with time QUANTA is due, and with time 0 (R183). -/
  dueXoff : Nat
  dueXon : Nat
  /-- due zero-time frames of an old kind after commits (R183, R196), oldest first: FC_MODE and priorities. -/
  olds : List (Nat × Nat)
  /-- STALE of PRT_PARK_CFG at the latest down instant, µs (R199). -/
  stale : Nat
  /-- every alignment-marker lock holds and deskew is complete (R172). -/
  aligned : Bool
  deriving DecidableEq, Repr

/-! ## Host rings (R459 to R471) -/

/-- A frame or copy in a delivery queue (R461): frame, REASON of R464. -/
structure RxItem where
  frame : Nat
  reason : Nat
  deriving DecidableEq, Repr

/-- A transmit frame whose completion is unwritten (R468): SOP index, descriptors, TS_REQ, status, the frame while it is
in the device, whether its completion is ready, its timestamp. -/
structure TxItem where
  sop : Nat
  descs : Nat
  tsReq : Bool
  status : Nat
  frame : Option Nat
  ready : Bool
  stamp : Option Nat
  /-- the lowest-numbered egress port among its replicas. -/
  low : Option Nat
  /-- word 2 of the SOP descriptor as read. -/
  w2 : Word
  deriving DecidableEq, Repr

/-- A held transmit frame (R467): the frame waiting in its ring, and the tick of its first test. -/
structure Held where
  frame : Nat
  since : Nat
  deriving DecidableEq, Repr

/-- A ring beyond its registers. -/
structure Ring where
  dq : List RxItem
  items : List TxItem
  held : Option Held
  /-- completions not yet acknowledged, oldest first: CPTR after each, and the tick at which it was written (R471). -/
  written : List (Nat × Nat)
  /-- a transmit ring's chain from HEAD had no end as of this TAIL, so that no frame of it can be taken (R466). -/
  short : Option Nat
  deriving DecidableEq, Repr

/-- What an entry of the MSI-X table says of its message (R453): address and data. -/
structure MsixEntry where
  addr : Word64
  data : Word
  deriving DecidableEq, Repr

/-- Interrupt controller beyond HST_IRQ_SRC (R474 to R478). -/
structure Irq where
  /-- priority stack of each target: (priority, source), top first. -/
  prios : SMap (List (Nat × Nat))
  notified : Nat
  /-- MSI-X Pending Bits, vector masks, and the message address and data of the table's entries (R453, R476). -/
  pba : Nat
  vmask : Nat
  table : SMap MsixEntry
  /-- rotating pointer of R475. -/
  ptr : Nat
  deriving DecidableEq, Repr

/-! ## Health and self-management (R420 to R446) -/

/-- A watched unit's place (R428, R433). -/
inductive UnitSt where | active | spare | testing | retired
  deriving DecidableEq, Repr

/-- Sumac, adaptive voltage and health beyond the registers. -/
structure Hlt where
  /-- raised conditions: code, instance (R445). -/
  raised : List (Nat × Nat)
  /-- tick of the last logged entry per code and instance, key 2^32 code + instance (R445). -/
  lastLog : SMap Nat
  /-- units away from their place at cold reset, key 2^16 kind + physical index. -/
  units : SMap UnitSt
  /-- the logical index a unit stands in for, where it is not its own. -/
  logical : SMap Nat
  /-- consecutive windows above, and at or below, the threshold; swaps out since reset. -/
  aboveRun : SMap Nat
  belowRun : SMap Nat
  /-- units declared stragglers in their present run above the threshold (R431). -/
  declared : List Nat
  swaps : SMap Nat
  /-- RATE_LIMIT: consecutive negative, and non-negative, evaluations per resource (R438). -/
  neg : SMap Nat
  nonneg : SMap Nat
  /-- consecutive AVS evaluations with M at or above DOWN, and the tick of the last AVS_LEVEL (R437). -/
  downRun : Nat
  levelAt : Option Nat
  avsFails : Nat
  deriving DecidableEq, Repr

/-- The steward pair beyond STW_PAIR_STATUS (R420 to R427). -/
structure Pair where
  /-- cause of a hand-over that takes place at the next strobe. -/
  cause : Option Nat
  /-- window accesses that wait for the hand-over, in order: address, and the word of a write (R424). -/
  waiting : List (Nat × Option Word)
  /-- ticks of the give-ups of each steward in the last 24 h. -/
  giveA : List Nat
  giveB : List Nat
  deriving DecidableEq, Repr
/-! ## Time (R319 to R349) -/

/-- A gate schedule (R344): EN, BASE and CYCLE in ns of T, and the entries 1 to LENGTH as (GATES, INTERVAL). -/
structure Sched where
  en : Bool
  base : Nat
  cycle : Nat
  entries : List (Nat × Nat)
  deriving DecidableEq, Repr

/-- The gates of a port (R345, R346): the operational schedule, the start of its current cycle, the entry in force, the
instant of the next change, the gates open; the pending schedule and its change time. -/
structure Gate where
  oper : Option Sched
  start : Nat
  idx : Nat
  next : Nat
  mask : Nat
  pend : Option (Sched × Nat)
  /-- when the open interval of each class began that a change has opened: class, and the tick, which a step of T leaves alone. -/
  opened : List (Nat × Nat)
  deriving DecidableEq, Repr

/-- A pulse of a PPS output, or the high half of a clock cycle (R341, R381): its instant and its edges, in units of 2^-16 ns, and
whether it had risen at the latest step of T (R343). -/
structure Pulse where
  inst : Int
  rise : Int
  fall : Int
  up : Bool
  deriving DecidableEq, Repr

/-- A trigger unit (R340): the settings copied at arming, the next instant (2^-16 ns), the latest instant whose pulse is planned,
and pulses not yet fallen. -/
structure Trig where
  armedAt : Int
  period : Nat
  count : Nat
  width : Nat
  next : Option Int
  planned : Option Int
  pulses : List Pulse
  deriving DecidableEq, Repr

/-- What a RECEIVER port holds of a Sync (R337): sequenceId, sourcePortIdentity, t1 (known at once for one-step), t2, cS.
Times in units of 2^-16 ns. -/
structure SyncIn where
  seq : Nat
  src : Nat
  t1 : Option Int
  t2 : Int
  cS : Int
  deriving DecidableEq, Repr

/-- What the latest Announce of a port carried (R379). -/
structure AnnIn where
  prio1 : Nat
  prio2 : Nat
  cls : Nat
  acc : Nat
  var : Nat
  gm : Nat
  steps : Nat
  tsrc : Nat
  deriving DecidableEq, Repr

/-- A Delay_Resp owed (R336): sequenceId, the requester's portIdentity, t4 (2^-16 ns), the Delay_Req's correctionField. -/
structure RespDue where
  seq : Nat
  req : Nat
  t4 : Int
  cf : Int
  deriving DecidableEq, Repr

/-- The PTP engine at a port (R333 to R338). -/
structure PtpPort where
  seqSync : Nat
  seqAnn : Nat
  seqReq : Nat
  seqSig : Nat
  sync : Option SyncIn
  /-- Delay_Req outstanding: sequenceId, tick of enqueue, t3 once sent. -/
  req : Option (Nat × Nat × Option Int)
  ann : Option AnnIn
  resps : List RespDue
  /-- a two-step Sync sent: sequenceId and t1, its Follow_Up owed. -/
  fup : Option (Nat × Int)
  /-- tick of the latest complete exchange. -/
  exAt : Option Nat
  /-- latest phase sample of the detector, as it will be added to ACC (R331). -/
  beat : Int
  deriving DecidableEq, Repr

/-- A reference slot beyond its registers (R358 to R363). Phases and times of T in units of 2^-32 ns. -/
structure Slot where
  wtrArm : Bool
  /-- origin of a frequency-only slot: the stamp s₀, or ACC₀ for RCLK. -/
  origin : Option Int
  /-- edges counted since the origin (CLK10, CLK25). -/
  edges : Nat
  /-- stamp of the latest edge stamped, and the edges counted at it. -/
  stamp : Option Int
  stampEdges : Nat
  /-- an edge was stamped since the last steward strobe. -/
  fresh : Bool
  /-- the tick, in 2^-16 ns, of the last edge that the stamper accepted, for its hold-off (R392). -/
  lastEdge : Option Int
  /-- a write of PRIO, KIND or PORT takes the slot to OFF at the next steward strobe (R363). -/
  off : Bool
  /-- latest sample: its T and e. -/
  sample : Option (Int × Int)
  /-- samples of the last 8 s, newest first: T and e. -/
  samples : List (Int × Int)
  /-- T of the first sample after the latest interruption of FREQ_VALID. -/
  since : Option Int
  /-- consecutive strobes with an edge, or intervals in range, since a fault was declared (R362). -/
  run : Nat
  deriving DecidableEq, Repr

/-- Reference selection and the clean-up loop (R364 to R377). y and I in units of 2^-64, times of T in 2^-32 ns. -/
structure Sel where
  y : Int
  i : Int
  /-- T of the previous evaluation, or of the commit. -/
  evalAt : Int
  /-- A of R373. -/
  aOff : Int
  /-- latest loop input e. -/
  err : Int
  /-- y at the decision, the state before it, and T of the decision. -/
  decY : Int
  decState : Nat
  decAt : Int
  /-- the holdover that the decision left had expired (R379); the active slot was lost to a fault (R366). -/
  decExpired : Bool
  faulted : Bool
  /-- syntonized operation (R371): origin of P, and Q. -/
  pOrig : Int
  q : Int
  /-- T at which LOCKED began, and of the latest evaluation with |e| above 100 ns. -/
  lockedAt : Int
  bigAt : Option Int
  /-- T at which SETTLED became 1. -/
  settledAt : Int
  /-- tick at which HOLDOVER began. -/
  hoAt : Nat
  /-- changes of y in the last 8 s and one before them, newest first: T and y. -/
  yLog : List (Int × Int)
  /-- stored means of y, newest first: T and y (R375). -/
  store : List (Int × Int)
  /-- HO_FREQ, its time t_c, and DRIFT as a fraction of two integers (R376). -/
  ho : Int
  tc : Int
  driftN : Int
  driftD : Int
  deriving DecidableEq, Repr

/-- A chiplet's copy of Saffron's time (R37, R328): T as the latest time word gave it, in steps of 2^-32 ns, the link latency that
it is corrected for (R156), and how far the copy stands from T, in 2^-16 ns. -/
structure ChipCopy where
  word : Nat
  lat : Nat
  off : Int
  deriving DecidableEq, Repr

/-- The standby engine's copy of the active engine's state (R347), as of a servo strobe: T and what remains of a slew, in steps of
2^-32 ns, the servo's request, and the loop's y and I. -/
structure EngineCopy where
  t : Nat
  slew : Int
  servo : Int
  y : Int
  i : Int
  deriving DecidableEq, Repr

/-- Saffron. -/
structure Tim where
  /-- T, 64.32 ns (R319). -/
  t : Time
  /-- time copies of the chiplets whose copy is valid. -/
  copies : SMap ChipCopy
  /-- ticks since the tick started: TICK form, ns (R391). -/
  tick : Nat
  /-- the tick runs (R319). -/
  ticking : Bool
  /-- steps of T since reset (R492). -/
  stepSeq : Nat
  /-- pending time command: OP and the value taken with it (R322). -/
  cmd : Option (Nat × Word64)
  /-- what remains of a slew, in steps of 2^-32 ns, signed (R322). -/
  slew : Int
  /-- INC that the servo requests, as an offset from nominal in steps of 2^-32 ns (R369). -/
  servo : Int
  /-- the engine under self-test (R348), if any, and the engine that has passed it and awaits its copy. -/
  testing : Option Nat
  passed : Option Nat
  /-- what the standby engine has loaded. -/
  standby : Option EngineCopy
  /-- the multiplier of the tick has lost lock with no standby to take over (R427); steward strobes since the last servo strobe
  while SYSCLK_IN gives them. -/
  unlocked : Bool
  strobes : Nat
  /-- next steward and servo strobes, integer ns of T (R321, R343). -/
  nextStw : Nat
  nextServo : Nat
  trigs : SMap Trig
  gates : SMap Gate
  ptp : SMap PtpPort
  slots : SMap Slot
  sel : Sel
  deriving DecidableEq, Repr
/-! ## Sessions and commits (R82 to R117) -/

/-- One table operation of a transaction (R100): TABLE, OP, INDEX (0 where the table has none), data words. -/
structure TblOp where
  table : Nat
  op : Nat
  index : Nat
  words : List Word
  deriving DecidableEq, Repr

/-- An open transaction (R100): staged register writes by address, table operations in order, units. -/
structure Txn where
  regs : SMap Word
  ops : List TblOp
  units : Nat
  deriving DecidableEq, Repr

/-- A session (R82 to R87), keyed by its HANDLE. -/
structure Session where
  /-- the PCIe mailbox channel; none on the service port. -/
  chan : Option Nat
  /-- the service-port source MAC address. -/
  src : Nat
  slot : Nat
  /-- 0 while OPENING; 1 Observer, 2 Operator, 3 Expert, 4 Recovery. -/
  role : Nat
  nHost : Nat
  nDev : Nat
  txn : Option Txn
  /-- TAG of the latest answered service-port request and its response (R458). -/
  kept : Option (Word × List Word)
  latch : Latch
  deriving DecidableEq, Repr

/-- Who waits for the outcome of a commit or of a flash operation. -/
inductive Reply where
  /-- the mailbox request still standing on channel `c`. -/
  | mbx (c : Nat)
  /-- a service-port request: source address and the request's words 1 and 2 (HANDLE, TAG). -/
  | svc (src : Nat) (handle tag : Word)
  /-- the command registers of a table (R226): 0 to 7 PIP slice, 8 FWD, 9 SWC, 10 TIM. -/
  | cmd (t : Nat)
  | nobody
  deriving DecidableEq, Repr

/-- What a re-placement under new seeds replaced (R547): what the copies in service held and the seeds they were placed under where
those were not the registers', the hit memory, tier 1 and the seed registers. -/
structure SeedUndo where
  copy : SMap FwdEntry
  under : Option (Nat × Nat)
  hit : SMap Nat
  t1 : SMap T1Set
  seeds : Nat × Nat
  deriving DecidableEq, Repr

/-- A commit accepted and not yet at its commit point (R108). -/
structure Job where
  handle : Nat
  reply : Reply
  persist : Bool
  regs : SMap Word
  ops : List TblOp
  /-- steps 3 and 4 have begun; operations done; step 4 is complete. -/
  started : Bool
  done : Nat
  ready : Bool
  /-- what abandonment puts back, where the commit has re-placed the entries under new seeds. -/
  undo : Option SeedUndo
  deriving DecidableEq, Repr


/-! ## Time-interval measurement (R390 to R411) -/

/-- A stamp in both forms (R391), units of 2^-16 ns, with its code, the code's width as a fraction of the tick (numerator,
denominator), STEP_SEQ and the state of the timebase when it was taken (R393, R400), the polarity of its edge, and the TICK form
before delays are subtracted, by which hold-off goes (R392). -/
structure Stamp where
  saf : Int
  tck : Int
  raw : Int
  rising : Bool
  code : Nat
  wN : Nat
  wD : Nat
  step : Nat
  tb : Nat
  deriving DecidableEq, Repr

/-- A result in a channel's FIFO (R403, R415, R416). -/
structure TicRes where
  status : Nat
  tb : Nat
  stepped : Bool
  binA : Nat
  binB : Nat
  value : Int
  count : Nat
  deriving DecidableEq, Repr

/-- A measurement channel (R392 to R402). -/
structure TicChan where
  /-- TIM_TIC_CFG and TIM_TIC_CFG2 in force (R402: a change takes effect at the next edge). -/
  cfg : Word
  cfg2 : Word
  /-- the configuration has been written since the last edge: nothing is open until the next one takes it up (R402). -/
  dirty : Bool
  /-- the last edge accepted for the channel's own MODE, and as a stop edge, each with its own hold-off (R392, R396). -/
  last : Option Int
  lastStop : Option Int
  /-- edges accepted since arming (R395). -/
  idx : Nat
  fifo : List TicRes
  /-- the start stamp of the open measurement (R397). -/
  start : Option Stamp
  /-- stamps of this channel's stop channel that its measurements have not used, oldest first (R397; log 142). -/
  stops : List Stamp
  /-- RECIP: a gate is under way; the last stamped edge of the gate before, the last of this gate, intervals between them, this
  gate's end, or the first gate's beginning. -/
  gated : Bool
  prev : Option Stamp
  cur : Option Stamp
  n : Nat
  gateEnd : Int
  deriving DecidableEq, Repr

/-- The calibration of a stamper position (R404 to R410): the code widths (none: the fused table), the codes that span a tick where
scale calibration gave them, in sixteenths, CAL_KIND, whether its first calibration has ended, the tick of its last one, and how far its temperature has moved
since, in eighths of a degree. -/
structure CalTable where
  widths : Option (List Nat)
  span : Option Nat
  kind : Nat
  done : Bool
  doneAt : Nat
  moved : Nat
  deriving DecidableEq, Repr

/-- Channels and calibration. -/
structure Tic where
  chans : SMap TicChan
  tables : SMap CalTable
  /-- positions still to serve in the rotation, and whether it is the first one (R407, R411). -/
  todo : List Nat
  first : Bool
  /-- the new table of a position on the spare, until it has passed its check (R408). -/
  cand : Option CalTable
  deriving DecidableEq, Repr

/-! ## Lanes, group loops and die links (R118 to R166) -/

/-- A group loop beyond its registers: bands checked in the acquisition under way, and the settings it began with (R123,
R132). -/
structure Loop where
  checked : List Nat
  lockWin : Nat
  attempts : Nat
  deriving DecidableEq, Repr

/-- A lane beyond its registers: WAKE (R142), the precoding its partner asked for, its own request that is outstanding and how
often it has been repeated (R138), and the settings of the main path, of the shadow and of the main path before a swap, each set
named by a number (R145). -/
structure LaneSt where
  wake : Bool
  precode : Bool
  asked : Option (CoeffReq × Nat)
  main : Nat
  shadow : Nat
  former : Nat
  deriving DecidableEq, Repr

/-- Lanes, loops and links. -/
structure Lne where
  loops : SMap Loop
  lanes : SMap LaneSt
  /-- ticks of the uncorrectable flits of the last 1 ms (R155). -/
  flits : SMap (List Nat)
  /-- links in a single attempt of R157. -/
  retrying : List Nat
  deriving DecidableEq, Repr

/-! ## Start-up, image and flash (R47 to R81, R111 to R113, R536 to R538) -/

/-- What the fuses hold (R65 step 2, R509): identity, keys, MAC address base, the band trim of each group loop. -/
structure Fuses where
  stepMinor : Nat
  stepMajor : Nat
  highest : Nat
  vendor : Nat
  device : Nat
  serial : Nat
  lot : Nat
  wafer : Nat
  dieX : Nat
  dieY : Nat
  mac : Nat
  signReq : Bool
  imageKey : Option Nat
  recoveryKey : Option Nat
  jedec : Nat
  bands : SMap Nat
  /-- asymmetry trim of each Wornan link, 2^-16 ns (R156). -/
  wrnAsym : SMap Int
  deriving DecidableEq, Repr

/-- A KEY record (R57). -/
structure KeyRec where
  slot : Nat
  role : Nat
  key : Nat
  deriving DecidableEq, Repr

/-- The running image (R47): its source, SEQUENCE, CL, BUILD_ID, the registers it holds with their values as of the latest
refresh, its keys, and the TABLE records as of the latest refresh. -/
structure RunImage where
  bank : Nat
  seq : Nat
  cl : Nat
  build : Nat
  regs : SMap Word
  keys : List KeyRec
  ops : List TblOp
  deriving DecidableEq, Repr

/-- Start-up beyond its registers, oscillator qualification, and the test access port. -/
structure Boot where
  fuses : Fuses
  /-- every rail has been in regulation since power-on: STARTUP_BEGIN has come (R65, R524). -/
  rails : Bool
  /-- step 1 has begun. -/
  begun : Bool
  /-- RST_N is low. -/
  rstLow : Bool
  image : Option RunImage
  /-- this start-up re-applies the running image (R49). -/
  warm : Bool
  /-- the TABLE records of the image are installed (R47: the tables now say what the running image holds). -/
  tabled : Bool
  /-- addresses that the image under application has written (R62). -/
  applied : List Nat
  /-- candidate banks still to try, and whether one failed check 9 or later (R62). -/
  cands : List Nat
  fell : Bool
  /-- the bank headers have been read in this start-up. -/
  headers : Bool
  /-- Wornan links and HBM stacks are trained. -/
  trained : Bool
  /-- TABLE records to apply at step 6. -/
  records : List TblOp
  /-- a reset asked for by STW_RESET_CTL: 2 WARM, 3 RELOAD (R50). -/
  resetReq : Option Nat
  /-- fractional frequency of the latest STABILITY gate, 0.1 ppb; consecutive failed PRESENCE gates; OCXO_WARM has held its
  warm level for 1 s. -/
  lastGate : Option Int
  gateFails : Nat
  ocxoPin : Bool
  /-- TAP: instruction register, scan hold, and the address and read data of the latest REG_ACCESS. -/
  ir : Nat
  scanHold : Bool
  drAddr : Nat
  drData : Word
  /-- TRST_N is low (R536), and what the boundary register holds, cell by cell (R537). -/
  trstLow : Bool
  boundary : List Bool
  deriving DecidableEq, Repr

/-- A flash write under way (R64, R112). -/
inductive FlashOp where
  /-- a persist of these bytes to a bank. -/
  | persist (bank : Nat) (bytes : List Byte)
  /-- the erase of IMAGE_BEGIN. -/
  | erase (bank : Nat) (reply : Reply)
  /-- the header of an uploaded image; whether the other bank's header is erased after it. -/
  | header (bank : Nat) (bytes : List Byte) (other : Bool) (reply : Reply)
  deriving DecidableEq, Repr

/-- An upload (R112): the session, the bank, the next offset, the header held back, and the bytes of the page not yet full. -/
structure Upload where
  handle : Nat
  bank : Nat
  next : Nat
  header : List Byte
  page : List Byte
  deriving DecidableEq, Repr

/-- The SPI flash: its cells by offset, erased cells unlisted (0xFF). -/
structure Flash where
  cells : SMap Byte
  op : Option FlashOp
  upload : Option Upload
  deriving DecidableEq, Repr

/-- The mailbox (R85, R457, R458): requests on the service port (source, words), OPEN responses kept (source, TAG, tick,
words), channels and sources held off. -/
structure Mbx where
  queue : List (Nat × List Word)
  kept : List (Nat × Word × Nat × List Word)
  holdCh : List Nat
  holdSrc : List Nat
  deriving DecidableEq, Repr
/-! ## The outside world -/

/-- What the device sends: the model's own record of its outputs, newest first. -/
inductive Output where
  /-- a frame sent whole, or ended stomped at the byte given (R178). -/
  | frame (port : Nat) (bytes : List Byte) (stomped : Bool)
  /-- a pause or PFC frame (R183). -/
  | pause (port : Nat) (bytes : List Byte)
  /-- an MSI-X message: vector, and its table entry's address and data (R453, R476). -/
  | msix (vector : Nat) (addr : Word64) (data : Word)
  /-- a Vout request on AVSBus, in mV (R435). -/
  | avs (mv : Nat)
  /-- a frame of the service port (R456). -/
  | service (bytes : List Byte)
  /-- the answer to a coefficient request of the partner: lane, and 0 updated, 1 at limit, 2 not supported (R137). -/
  | coeff (lane status : Nat)
  /-- a coefficient or precoding request of the device's own to the partner (R138). -/
  | coeffReq (lane : Nat) (req : CoeffReq)
  /-- what a read by the window or the test access port returned (R97, R538). -/
  | readData (value : Word)
  /-- a write to host memory: address and bytes (R463, R468). -/
  | dma (addr : Nat) (bytes : List Byte)
  deriving DecidableEq, Repr

/-! ## The state -/

/-- The state of the machine. -/
structure State where
  /-- the register file, by byte address: every stored word that is not staged (R6). Unlisted: the reset word. -/
  regs : SMap Word
  /-- the banks of the staged registers for selectors 0 and 1, by byte address (R107). Unlisted: the reset word. -/
  st0 : SMap Word
  st1 : SMap Word
  /-- bits of device-wide fields that a block reset has put at Reset (R51), by byte address: they read as Reset until the device
  stores them anew. -/
  masked : SMap Word
  cnt : SMap Cnt
  /-- frames in the device, and the next frame's number. -/
  frames : SMap Frame
  nextFrame : Nat
  /-- replicas, in the order in which they entered their VOQs. -/
  reps : SMap Replica
  nextRep : Nat
  /-- next order number: of release to lookup or enqueue (R222, R249), of a first crossing. -/
  nextLk : Nat
  /-- rows of the ternary (0x10 + s), pattern (0x18 + s), multicast (0x30) and gate (0x40) tables, key 2^20 TABLE + index. -/
  rows : SMap (List Row)
  /-- the next pipeline that each port group deals to, 0 to 3 (R203). -/
  deal : SMap Nat
  fwd : Fwd
  swc : Swc
  ports : SMap PortSt
  rings : SMap Ring
  /-- next receive ring (R462) and transmit ring (R467) to serve. -/
  rxNext : Nat
  txNext : Nat
  irq : Irq
  hlt : Hlt
  pair : Pair
  tim : Tim
  tic : Tic
  /-- sessions by HANDLE; the commits accepted, first in, first out. -/
  sessions : SMap Session
  /-- HANDLE of the session whose write set GO in the command registers of a table (R226): 0 to 7 PIP slice, 8 FWD, 9 SWC,
  10 TIM. -/
  tblOwner : SMap Nat
  jobs : List Job
  mbx : Mbx
  boot : Boot
  flash : Flash
  lne : Lne
  /-- numbers the free values drawn so far (the model's own). -/
  free : Nat
  out : List Output
  /-- commands waiting, first in, first out. -/
  pending : List Instr
  deriving DecidableEq, Repr

/-- Fuses of the unit that the manual leaves to the unit: assumption log 3. -/
def Fuses.reset : Fuses :=
  { stepMinor := 0, stepMajor := 0, highest := 1, vendor := 0, device := 0, serial := 0, lot := 0, wafer := 0, dieX := 0,
    dieY := 0, mac := 0, signReq := false, imageKey := none, recoveryKey := none, jedec := 0, bands := [], wrnAsym := [] }

def Boot.reset (f : Fuses) : Boot :=
  { fuses := f, rails := false, begun := false, rstLow := false, image := none, warm := false, tabled := false, applied := [], cands := [],
    fell := false, headers := false, trained := false, records := [], resetReq := none, lastGate := none, gateFails := 0, ocxoPin := false,
    ir := 2, scanHold := false, drAddr := 0, drData := 0#32, trstLow := false,
    boundary := [] }

def Sel.reset : Sel :=
  { y := 0, i := 0, evalAt := 0, aOff := 0, err := 0, decY := 0, decState := 0, decAt := 0, decExpired := false, faulted := false,
    pOrig := 0, q := 0, lockedAt := 0,
    bigAt := none, settledAt := 0, hoAt := 0, yLog := [], store := [], ho := 0, tc := 0, driftN := 0, driftD := 1 }

def Tim.reset : Tim :=
  { t := 0#96, copies := [], tick := 0, ticking := false, stepSeq := 0, cmd := none, slew := 0, servo := 0, testing := none, passed := none,
    standby := none, unlocked := false, strobes := 0, nextStw := 0, nextServo := 0, trigs := [], gates := [], ptp := [], slots := [], sel := Sel.reset }

def Fwd.reset : Fwd :=
  { copy0 := [], copy1 := [], stacks0 := none, stacks1 := none, hit := [], t1 := [], learnQ := [], job := none, touched := [],
    touching := [], pass := none, pos := 0, serving := [], flushSet := [], again := [], flushCmd := none, cmdServed := false,
    agingDue := false, gone := [],
    rebuildFailed := false, newSeeds := (0, 0), over0 := none, over1 := none }

def Swc.reset : Swc :=
  { gp := [], ap := [], rotPort := [], rotVoq := [], tok := [], tokTick := 0, dc := [], avg := [], lfsr := [], bankRot := [],
    bankCopy := [], spillLog := [], refusedAt := none }

def Hlt.reset : Hlt :=
  { raised := [], lastLog := [], units := [], logical := [], aboveRun := [], belowRun := [], declared := [], swaps := [], neg := [], nonneg := [],
    downRun := 0, levelAt := none, avsFails := 0 }

/-- The machine right after a reset of the unit with fuses `f`: every register at its Reset value (R11, R507). -/
def State.fresh (f : Fuses) : State :=
  { regs := [], st0 := [], st1 := [], masked := [], cnt := [], frames := [], nextFrame := 0, reps := [], nextRep := 0, nextLk := 0, rows := [], deal := [],
    fwd := Fwd.reset, swc := Swc.reset, ports := [], rings := [], rxNext := 0, txNext := 0, irq := ⟨[], 0, 0, 255, [], 0⟩, hlt := Hlt.reset,
    pair := ⟨none, [], [], []⟩, tim := Tim.reset, tic := ⟨[], [], [], false, none⟩, sessions := [], tblOwner := [], jobs := [],
    mbx := ⟨[], [], [], []⟩, boot := Boot.reset f, flash := ⟨[], none, none⟩, lne := ⟨[], [], [], []⟩, free := 0, out := [],
    pending := [] }

/-- The machine right after power-on: the flash erased, no command waiting. -/
def State.reset : State := State.fresh Fuses.reset

end Sys2Proof.Machine
end

