-- ==== Sys2Proof/Machine/Ops.lean ====
section
/-! DEFINITION. The named operations over the state that every family shares: register and field access, ports and
selectors, counters, Saffron's time as readers see it, health events, and the interrupt controller. -/
namespace Sys2Proof.Machine

/-! ## Registers -/

/-- The stored word of a register that is not staged. -/
def State.get (s : State) (r : Reg) : Word := sgetD s.regs r.addr r.resetWord

/-- Fields by which the rest of the device goes (start-up, the selectors, the stewards, the PCIe function, the copies and stacks in
service, the engines): a block reset sets what is read of them to Reset, and what they stand for goes on (log 45). -/
def Reg.keptFields (r : Reg) : List Fld :=
  match r with
  | .STW_BOOT_STATUS | .STW_PAIR_STATUS | .HST_PCIE_STATUS => (r.fields.filter fun f => f.acc == .ro).map fun f => f.fld
  | .STW_EPOCH_STATUS => [F.STW_EPOCH_STATUS_SELECTOR, F.STW_EPOCH_STATUS_RETIRED_LIVE]
  | .FWD_HASH_STATUS => [F.FWD_HASH_STATUS_COPY0, F.FWD_HASH_STATUS_COPY1]
  | .SWC_SPILL_STATUS => [F.SWC_SPILL_STATUS_STACKS]
  | .TIM_SAF_STATUS => [F.TIM_SAF_STATUS_ACTIVE, F.TIM_SAF_STATUS_STANDBY_OK, F.TIM_SAF_STATUS_ENG_A, F.TIM_SAF_STATUS_ENG_B]
  | _ => []

def maskOfFields (l : List Fld) : Word := l.foldl (fun m f => m ||| f.mask) 0#32

def Reg.keptMask (r : Reg) : Word := maskOfFields r.keptFields

/-- The bits of a register that a block reset has put at Reset and the device has not stored since (R51). -/
def State.resetBits (s : State) (r : Reg) : Word := sgetD s.masked r.addr 0#32

/-- The device stores bits `b` of a register: those that a block reset had put at Reset show what they hold again (R51). -/
def unmask (m : SMap Word) (r : Reg) (b : Word) : SMap Word :=
  if r.keptFields.isEmpty then m else sput 0#32 m r.addr (sgetD m r.addr 0#32 &&& ~~~b)

/-- Store a register's word. -/
def State.put (s : State) (r : Reg) (v : Word) : State :=
  { s with regs := sput r.resetWord s.regs r.addr v, masked := unmask s.masked r (BitVec.allOnes 32) }

/-- The value of a field of a stored word. -/
def State.fld (s : State) (r : Reg) (f : Fld) : Nat := f.get (s.get r)

/-- Set a field of a stored word. -/
def State.setFld (s : State) (r : Reg) (f : Fld) (v : Nat) : State :=
  { s with regs := sput r.resetWord s.regs r.addr (f.set (s.get r) v), masked := unmask s.masked r f.mask }

/-- Selector of the current epoch (R115). -/
def State.curSel (s : State) : Nat := s.fld .STW_EPOCH_STATUS F.STW_EPOCH_STATUS_SELECTOR

/-- The bank of staged registers of selector `e` (R107). -/
def State.bank (s : State) (e : Nat) : SMap Word := if e = 0 then s.st0 else s.st1

/-- A staged register's word under selector `e`. -/
def State.stGet (s : State) (e : Nat) (r : Reg) : Word := sgetD (s.bank e) r.addr r.resetWord

/-- Write a staged register's word in the bank of selector `e`. -/
def State.stPut (s : State) (e : Nat) (r : Reg) (v : Word) : State :=
  if e = 0 then { s with st0 := sput r.resetWord s.st0 r.addr v }
  else { s with st1 := sput r.resetWord s.st1 r.addr v }

/-- A field of a staged register under selector `e`. -/
def State.stFld (s : State) (e : Nat) (r : Reg) (f : Fld) : Nat := f.get (s.stGet e r)

/-- A field of a staged register as committed (R7: a read of an ST field returns the committed value). -/
def State.cFld (s : State) (r : Reg) (f : Fld) : Nat := s.stFld s.curSel r f

/-- The committed word of a staged register, the stored word of any other. -/
def State.committed (s : State) (r : Reg) : Word := if r.isST then s.stGet s.curSel r else s.get r

/-- The block accepts no new token: its reset is requested (R52 step 1, R79), or forwarding is stopped by scan hold (R537). -/
def State.rstSet (s : State) (d w b : Nat) : Bool := s.fld (.BLKCTL d w b) F.BLKCTL_RST == 1 || s.boot.scanHold

/-! ## Instructions of the test access port (R536, R537) -/

inductive TapInstr where
  | extest | samplePreload | idcode | clamp | highz | extestPulse | extestTrain | regAccess | bypass
  deriving DecidableEq, Repr

/-- The instruction that a code of the 8-bit register names: any that is not listed is BYPASS. -/
def tapInstr (c : Nat) : TapInstr :=
  match c with
  | 0x00 => .extest
  | 0x01 => .samplePreload
  | 0x02 => .idcode
  | 0x03 => .clamp
  | 0x04 => .highz
  | 0x05 => .extestPulse
  | 0x06 => .extestTrain
  | 0x10 => .regAccess
  | _ => .bypass

/-- Instructions that start scan hold: EXTEST, CLAMP, HIGHZ, EXTEST_PULSE, EXTEST_TRAIN. -/
def holdInstr (c : Nat) : Bool := [TapInstr.extest, .clamp, .highz, .extestPulse, .extestTrain].contains (tapInstr c)

/-- Instructions that select the boundary register. -/
def TapInstr.selectsBoundary (i : TapInstr) : Bool := [extest, samplePreload, extestPulse, extestTrain].contains i

/-! ## The running image (R47) -/

/-- Some field's Reset column reads "img". -/
def Reg.imaged (r : Reg) : Bool := r.fields.any fun f => f.img

/-- The running image takes in a register that a write amends (R47). -/
def State.noteImage (s : State) (r : Reg) : State :=
  match s.boot.image with
  | some i => if r.imaged then
      { s with boot := { s.boot with image := some { i with regs := sinsert i.regs r.addr (s.committed r) } } } else s
  | none => s

/-! ## Free values -/

/-- Number a free value drawn. -/
def State.tick1Free (s : State) : State := { s with free := s.free + 1 }

/-- A value that the manual bounds between `lo` and `hi` and otherwise leaves open. -/
def freeIn (k : Nat) (lo hi : Int) : Int := max lo (min hi (Config.rounding k))

/-! ## Data hierarchy (R23 to R26, R167) -/

/-- Lanes of each port of a block in MODE `m` (R24, R167). -/
def modeLanes (m : Nat) : Nat := 8 / 2 ^ (m % 4)

/-- Lanes of a port of block `b` under the committed mode. -/
def State.blkLanes (s : State) (b : Nat) : Nat := modeLanes (s.cFld (.PRT_BLK_CFG b) F.PRT_BLK_CFG_MODE)

/-- Whether position `p` is a port (R25, R172): its block is enabled and the mode makes it a first lane. -/
def State.isPort (s : State) (p : Nat) : Bool :=
  p < 1024 && s.cFld (.LNE_GRP_CFG (p / 8)) F.LNE_GRP_CFG_EN == 1 && p % 8 % s.blkLanes (p / 8) == 0

/-- The first lane of the port that lane `n` belongs to. -/
def State.portOfLane (s : State) (n : Nat) : Nat := n - n % 8 % s.blkLanes (n / 8)

/-- The lanes of port `p`. -/
def State.lanesOf (s : State) (p : Nat) : List Nat := (List.range (s.blkLanes (p / 8))).map (p + ·)

/-- Every port of the device, ascending. -/
def State.allPorts (s : State) : List Nat :=
  (List.range 128).flatMap fun b =>
    if s.cFld (.LNE_GRP_CFG b) F.LNE_GRP_CFG_EN == 1 then
      (List.range (8 / s.blkLanes b)).map fun i => 8 * b + i * s.blkLanes b
    else []

/-- The speed of port `p` in Gb/s (R24). -/
def State.speed (s : State) (p : Nat) : Nat :=
  s.blkLanes (p / 8) * (if s.cFld (.PRT_BLK_CFG (p / 8)) F.PRT_BLK_CFG_MODE < 4 then 200 else 100)

/-- The slice, and the port group, of lane or port `n` (R23). -/
def sliceOf (n : Nat) : Nat := n / 128
def groupOf (n : Nat) : Nat := n / 16

/-- Port states of PRT_PORT_STATUS.STATE (R195). -/
def State.portState (s : State) (p : Nat) : Nat := s.fld (.PRT_PORT_STATUS p) F.PRT_PORT_STATUS_STATE

/-- The port is UP; no port forwards in scan hold (R537). -/
def State.portIsUp (s : State) (p : Nat) : Bool := s.isPort p && s.portState p == 3 && !s.boot.scanHold

/-- The steps of STW_BOOT_STATUS.STEP (R74). -/
def State.bootStep (s : State) : Nat := s.fld .STW_BOOT_STATUS F.STW_BOOT_STATUS_STEP

/-- Start-up step 9 is done (R65). -/
def State.running (s : State) : Bool := s.bootStep == 0xA

/-- STEWARD_LOST holds (R426). -/
def State.stewardLost (s : State) : Bool := s.fld .STW_PAIR_STATUS F.STW_PAIR_STATUS_LOST == 1

/-- No steward works: STEWARD_LOST holds (R426), or the giving-up steward has stopped and the standby has not yet become active
(R423, R424). -/
def State.stewardHeld (s : State) : Bool := s.stewardLost || s.pair.cause.isSome

/-- The service port operates: its transmitter is not squelched and its receiver not ignored (R73, R455). -/
def State.svcOn (s : State) : Bool := s.fld .HST_SVC_CFG F.HST_SVC_CFG_EN == 1 || s.bootStep == 0xB

/-! ## Time as readers see it -/

/-- The integer nanoseconds of T. -/
def State.nowNs (s : State) : Nat := s.tim.t.toNat / 2 ^ 32

/-- T in the 48.16 form of a timestamp (R323). -/
def State.now16 (s : State) : Nat := s.tim.t.toNat / 2 ^ 16 % 2 ^ 64

/-- ADMIT (R283): Saffron time in ns, modulo 2^32. -/
def State.admitNow (s : State) : Nat := s.nowNs % 2 ^ 32

/-- The age of a frame in ns (R283). -/
def State.age (s : State) (admitT : Nat) : Nat := (s.admitNow + 2 ^ 32 - admitT) % 2 ^ 32

/-! ## Counters -/

/-- The counter of an identifier; unlisted counters are zero. -/
def State.counter (s : State) (id : Nat) : Cnt := sgetD s.cnt id ⟨0, false⟩

/-- Advance a counter by one (R487); from 2^64 - 1 it gives 0 and sets WRAP (R488). -/
def State.count (s : State) (id : Nat) : State :=
  let c := s.counter id
  { s with cnt := sput ⟨0, false⟩ s.cnt id ⟨c.val + 1, c.wrap || c.val == BitVec.allOnes 64⟩ }

/-- Advance a counter once for each of `n` occurrences. -/
def State.countN (s : State) (id n : Nat) : State :=
  match n with
  | 0 => s
  | n + 1 => (s.count id).countN id n

/-- Clear counters and their WRAP bits (R489). -/
def State.clearCounters (s : State) (p : Nat → Bool) : State := { s with cnt := s.cnt.filter fun kv => !p kv.1 }

/-! ## Interrupts (R472 to R478) -/

def freshRing : Ring := { dq := [], items := [], held := none, written := [], short := none }

def State.ring (s : State) (x : Nat) : Ring := sgetD s.rings x freshRing

def State.putRing (s : State) (x : Nat) (r : Ring) : State := { s with rings := sput freshRing s.rings x r }

/-- Descriptors of a ring (R459). -/
def State.ringSize (s : State) (x : Nat) : Nat := 2 ^ s.fld (.HST_RING_CFG x) F.HST_RING_CFG_SIZE_LOG2

/-- TAIL of a ring is an index of its descriptors (R480). -/
def State.tailOk (s : State) (r : Reg) (v : Word) : Bool :=
  match r with
  | .HST_RING_TAIL x => decide (v.toNat < s.ringSize x)
  | _ => true

/-- How far `i` lies past ACK of ring `x`, and U of R471. -/
def State.pastAck (s : State) (x i : Nat) : Nat :=
  (i + s.ringSize x - s.fld (.HST_RING_ACK x) F.HST_RING_ACK_INDEX % s.ringSize x) % s.ringSize x
def State.ringU (s : State) (x : Nat) : Nat := s.pastAck x (s.fld (.HST_RING_CPTR x) F.HST_RING_CPTR_INDEX)

/-- The completions of ring `x` that ACK has not passed, oldest first; the first of them is the one at ACK. -/
def State.unacked (s : State) (x : Nat) : List (Nat × Nat) :=
  (s.ring x).written.filter fun e => decide (0 < s.pastAck x e.1) && decide (s.pastAck x e.1 ≤ s.ringU x)

/-- The completion at ACK was written more than TIME µs ago (R471). -/
def State.ackAged (s : State) (x : Nat) : Bool :=
  match s.unacked x with
  | e :: _ => decide (e.2 + 1000 * s.fld (.HST_RING_IRQ x) F.HST_RING_IRQ_TIME < s.tim.tick)
  | [] => false

/-- The notice condition of ring `x` (R471). -/
def State.ringNotice (s : State) (x : Nat) : Bool :=
  s.fld (.HST_RING_CFG x) F.HST_RING_CFG_IRQ_EN == 1 &&
  (s.fld (.HST_RING_STATUS x) F.HST_RING_STATUS_STATE == 3 ||
   decide (s.fld (.HST_RING_IRQ x) F.HST_RING_IRQ_COUNT ≤ s.ringU x) ||
   (decide (0 < s.ringU x) && s.fld (.HST_RING_IRQ x) F.HST_RING_IRQ_TIME != 0 && s.ackAged x))

/-- The condition of interrupt source `i` (R472); sources without one have none. -/
def State.irqCond (s : State) (i : Nat) : Bool :=
  if i < 32 then s.ringNotice i || s.ringNotice (i + 32)
  else if i < 40 then s.fld (.HST_MBX_DOORBELL (i - 32)) F.HST_MBX_DOORBELL_DONE == 1
  else if i = 40 then s.fld .HST_WIN_STATUS F.HST_WIN_STATUS_ERROR == 1
  else if 64 ≤ i ∧ i < 80 then decide (0 < s.fld (.TIM_TIC_STATUS (i - 64)) F.TIM_TIC_STATUS_FILL)
  else false

def State.src (s : State) (i : Nat) (f : Fld) : Nat := s.fld (.HST_IRQ_SRC i) f

/-- PENDING of source `i` (R473). -/
def State.irqPending (s : State) (i : Nat) : Bool :=
  irqAssigned i &&
  (if s.src i F.HST_IRQ_SRC_SENSE == 1 then s.src i F.HST_IRQ_SRC_PENDING == 1 else s.irqCond i)

def State.irqStack (s : State) (t : Nat) : List (Nat × Nat) := sgetD s.irq.prios t []

/-- Running priority of target `t` (R474). -/
def State.runPrio (s : State) (t : Nat) : Nat :=
  let th := s.fld (.HST_IRQ_TGT_CFG t) F.HST_IRQ_TGT_CFG_THRESHOLD
  match s.irqStack t with
  | [] => th
  | (p, _) :: _ => max th p

/-- The lowest set bit of a target mask. -/
def lowestBit (m : Nat) : Option Nat := (List.range 8).find? fun t => m.testBit t

/-- Whether source `i` is deliverable to target `t` (R474). -/
def State.deliverable (s : State) (i t : Nat) : Bool :=
  s.src i F.HST_IRQ_SRC_PRIO != 0 && s.irqPending i && s.src i F.HST_IRQ_SRC_IN_SERVICE == 0 &&
  s.src i F.HST_IRQ_SRC_MASK == 0 &&
  s.fld (.HST_IRQ_TGT_CFG t) F.HST_IRQ_TGT_CFG_ONLINE == 1 &&
  (if s.src i F.HST_IRQ_SRC_ROUTE == 0 then lowestBit (s.src i F.HST_IRQ_SRC_TARGETS) == some t
   else (s.src i F.HST_IRQ_SRC_TARGETS).testBit t) &&
  decide (s.runPrio t < s.src i F.HST_IRQ_SRC_PRIO)

def State.irqBound (s : State) (i : Nat) : Option Nat :=
  if s.src i F.HST_IRQ_SRC_BOUND == 1 then some (s.src i F.HST_IRQ_SRC_BOUND_TGT) else none

def State.irqBind (s : State) (i : Nat) (t : Option Nat) : State :=
  match t with
  | some t => (s.setFld (.HST_IRQ_SRC i) F.HST_IRQ_SRC_BOUND 1).setFld (.HST_IRQ_SRC i) F.HST_IRQ_SRC_BOUND_TGT t
  | none => (s.setFld (.HST_IRQ_SRC i) F.HST_IRQ_SRC_BOUND 0).setFld (.HST_IRQ_SRC i) F.HST_IRQ_SRC_BOUND_TGT 0

def State.emit (s : State) (o : Output) : State := { s with out := o :: s.out }

def setBit (m i : Nat) : Nat := m ||| 2 ^ i
def clrBit (m i : Nat) : Nat := if m.testBit i then m - 2 ^ i else m

/-- MSI-X messages of vector `t` are held: MSI-X disabled, the function or the vector masked (R476). -/
def State.msixHeld (s : State) (t : Nat) : Bool :=
  s.fld .HST_PCIE_STATUS F.HST_PCIE_STATUS_MSIX_EN == 0 || s.fld .HST_PCIE_STATUS F.HST_PCIE_STATUS_FUNC_MASK == 1 ||
  s.irq.vmask.testBit t

/-- Entry `t` of the MSI-X table (R453). -/
def State.msixEntry (s : State) (t : Nat) : MsixEntry := sgetD s.irq.table t ⟨0#64, 0#32⟩

/-- The MSI-X message of vector `t` (R453, R476). -/
def State.msixSend (s : State) (t : Nat) : State := s.emit (.msix t (s.msixEntry t).addr (s.msixEntry t).data)

/-- Step 3 of R476: notify target `t` unless it is already notified. -/
def State.notify (s : State) (t : Nat) : State :=
  if s.irq.notified.testBit t then s
  else
    let s := { s with irq := { s.irq with notified := setBit s.irq.notified t } }
    if s.msixHeld t then { s with irq := { s.irq with pba := setBit s.irq.pba t } }
    else s.msixSend t

/-- The target that an unbound deliverable source is bound to, and the rotating pointer afterwards (R475). -/
def State.chooseTarget (s : State) (i : Nat) : Option (Nat × Nat) :=
  let ts := (List.range 8).filter (s.deliverable i)
  match ts with
  | [] => none
  | t0 :: rest =>
    let low := (rest.map s.runPrio).foldl min (s.runPrio t0)
    let cands := ts.filter fun t => s.runPrio t == low
    match cands with
    | [t] => some (t, s.irq.ptr)
    | _ =>
      match ((List.range 8).map fun k => (s.irq.ptr + k) % 8).find? cands.contains with
      | some t => some (t, (t + 1) % 8)
      | none => none

/-- Sources that could be delivered at all: those with a priority. -/
def State.irqLive (s : State) : List Nat :=
  (List.range 128).filter fun i => s.src i F.HST_IRQ_SRC_PRIO != 0 && irqAssigned i

/-- Bind one unbound source if it is deliverable (R475, R476). -/
def State.irqBindOne (s : State) (i : Nat) : State :=
  if (s.irqBound i).isSome then s
  else match s.chooseTarget i with
    | none => s
    | some (t, ptr) => (({ s with irq := { s.irq with ptr := ptr } }).irqBind i (some t)).notify t

/-- Re-evaluate every binding (R475): bindings end where the source is no longer deliverable to its target, then unbound
sources are bound in descending PRIO and ascending number. -/
def State.irqSettle (s : State) : State :=
  let live := s.irqLive
  let s := (List.range 128).foldl (fun s i =>
    match s.irqBound i with
    | some t => if s.deliverable i t then s else s.irqBind i none
    | none => s) s
  let ordered := ((List.range 15).map (15 - ·)).flatMap fun p => live.filter fun i => s.src i F.HST_IRQ_SRC_PRIO == p
  ordered.foldl State.irqBindOne s

/-- An event of source `i` (R472, R473): with SENSE = edge it sets PENDING. -/
def State.irqEvent (s : State) (i : Nat) : State :=
  (if s.src i F.HST_IRQ_SRC_SENSE == 1 then s.setFld (.HST_IRQ_SRC i) F.HST_IRQ_SRC_PENDING 1 else s).irqSettle

/-- A condition of source `i` that has become 1 is its event (R472); one that was 1 before is none. -/
def State.irqRise (s : State) (i : Nat) (was : Bool) : State := if was then s.irqSettle else s.irqEvent i

/-! ## Health events (R443 to R446) -/

def evKey (code inst : Nat) : Nat := code * 2 ^ 32 + inst

/-- Write one log entry and advance HEAD (R444), and raise the interrupt sources of R443 unless it is a clear entry. -/
def State.logEntry (s : State) (code inst detail : Nat) (clear : Bool) : State :=
  let head := s.fld .HLT_LOG_HEAD F.HLT_LOG_HEAD_SEQ
  let j := head % 256
  let w (k v : Nat) (s : State) : State := s.put (.HLT_LOG j k) (BitVec.ofNat 32 v)
  let s := w 0 head <| w 1 (code + evSeverity code * 256 + (if clear then 1024 else 0)) <|
    w 2 inst <| w 3 detail <| w 4 s.nowNs <| w 5 (s.nowNs / 2 ^ 32 % 2 ^ 16) <| w 6 s.tim.tick <|
    w 7 (s.tim.tick / 2 ^ 32 % 2 ^ 16) s
  let s := s.put .HLT_LOG_HEAD (BitVec.ofNat 32 (head + 1))
  let s := { s with hlt := { s.hlt with lastLog := sinsert s.hlt.lastLog (evKey code inst) s.tim.tick } }
  if clear then s
  else if evSeverity code = 2 then s.irqEvent 112
  else if s.fld .HLT_HEALTH_CFG F.HLT_HEALTH_CFG_IRQ_MIN ≤ evSeverity code then s.irqEvent 113
  else s

/-- A health event occurs (R445): counted, its condition raised, and logged unless the pair was logged within 10 ms. -/
def State.event (s : State) (code inst detail : Nat) : State :=
  let s := s.count (C.events code)
  let s := if evCondition code && !s.hlt.raised.contains (code, inst) then
      { s with hlt := { s.hlt with raised := s.hlt.raised ++ [(code, inst)] } } else s
  match sfind s.hlt.lastLog (evKey code inst) with
  | some t => if s.tim.tick - t < 10000000 then s else s.logEntry code inst detail false
  | none => s.logEntry code inst detail false

def State.raised (s : State) (code inst : Nat) : Bool := s.hlt.raised.contains (code, inst)

/-- A raised condition clears (R445): one clear entry; nothing where it is not raised. -/
def State.eventClear (s : State) (code inst : Nat) : State :=
  if s.raised code inst then
    ({ s with hlt := { s.hlt with raised := s.hlt.raised.filter (· != (code, inst)) } }).logEntry code inst 0 true
  else s

/-- The onset of a condition that a test finds again and again (a temperature, RATE_LIMIT): no occurrence while it is raised (R438,
R446). -/
def State.raise (s : State) (code inst detail : Nat) : State :=
  if s.raised code inst then s else s.event code inst detail

/-- HLT_HEALTH_STATUS (R448): summaries of the raised conditions, and FROZEN. -/
def State.healthStatus (s : State) : Word :=
  let deg := (s.hlt.raised.filter fun e => evSeverity e.1 == 1).length
  let flt := (s.hlt.raised.filter fun e => evSeverity e.1 == 2).length
  BitVec.ofNat 32 (min 255 deg + min 255 flt * 256 + (if 0 < flt then 2 else if 0 < deg then 1 else 0) * 65536 +
    s.fld .HLT_HEALTH_CFG F.HLT_HEALTH_CFG_CAL_FREEZE * 262144)

/-! ## Watched units (R428, R431 to R433) -/

def unitKey (kind idx : Nat) : Nat := kind * 2 ^ 16 + idx

/-- Units of a peer group: 33, 68, 5, 17 and 8 (R428). -/
def peerSize (kind : Nat) : Nat := if kind = 0 then 33 else if kind = 1 then 68 else if kind = 2 then 5 else if kind = 3 then 17 else 8

/-- The pool (and peer group) of a unit. -/
def poolOf (kind idx : Nat) : Nat := if kind = 0 then idx / 33 else if kind = 1 then idx / 68 else 0

/-- Physical indices of a pool. -/
def poolUnits (kind pool : Nat) : List Nat := (List.range (peerSize kind)).map fun i => pool * peerSize kind + i

/-- Where a unit stands at cold reset. -/
def initialUnit (kind idx : Nat) : UnitSt :=
  if (kind = 0 ∧ idx % 33 = 32) ∨ (kind = 1 ∧ 64 ≤ idx % 68) ∨ (kind = 2 ∧ idx = 4) ∨ (kind = 3 ∧ idx = 16) then .spare
  else .active

def State.unit (s : State) (kind idx : Nat) : UnitSt := sgetD s.hlt.units (unitKey kind idx) (initialUnit kind idx)
def State.setUnit (s : State) (kind idx : Nat) (u : UnitSt) : State :=
  { s with hlt := { s.hlt with units := sput (initialUnit kind idx) s.hlt.units (unitKey kind idx) u } }

/-- The logical number a unit has at cold reset: buffer bank i of group m is logical bank 64m + i. -/
def initialLogical (kind idx : Nat) : Nat :=
  if kind = 0 then idx / 33 * 32 + idx % 33 else if kind = 1 then idx / 68 * 64 + idx % 68 else idx
def State.logicalOf (s : State) (kind idx : Nat) : Nat := sgetD s.hlt.logical (unitKey kind idx) (initialLogical kind idx)

/-- The unit that stands at a logical place of a pool. -/
def State.unitAt (s : State) (kind pool l : Nat) : Option Nat :=
  (poolUnits kind pool).find? fun i => s.unit kind i == UnitSt.active && s.logicalOf kind i == l

/-! ## Table rows (R214, R215) -/

def rowKey (table index : Nat) : Nat := table * 2 ^ 20 + index

def State.rowsAt (s : State) (table index : Nat) : List Row := sgetD s.rows (rowKey table index) []

def State.putRows (s : State) (table index : Nat) (rs : List Row) : State :=
  { s with rows := sput [] s.rows (rowKey table index) rs }

def Row.vis (r : Row) (e : Nat) : Bool := if e = 0 then r.vis0 else r.vis1

def Row.setVis (r : Row) (e : Nat) (b : Bool) : Row := if e = 0 then { r with vis0 := b } else { r with vis1 := b }

/-- The row of a position that is visible to selector `e`. -/
def State.rowFor (s : State) (table index e : Nat) : Option Row := (s.rowsAt table index).find? fun r => r.vis e

/-- A row left invisible to both selectors is free (R215). -/
def dropFree (rs : List Row) : List Row := rs.filter fun r => r.vis0 || r.vis1

/-- WRITE at a position against selector `f` (R215): the free row takes the words and VIS[f], and the row that was visible
to `f` loses VIS[f]; a second WRITE in one commit overwrites the row the first one filled. -/
def State.rowWrite (s : State) (table index f : Nat) (ws : List Word) : State :=
  let old := dropFree ((s.rowsAt table index).map fun r => r.setVis f false)
  s.putRows table index (old ++ [(⟨ws, false, false⟩ : Row).setVis f true])

/-- CLEAR at a position against selector `f` (R215). -/
def State.rowClear (s : State) (table index f : Nat) : State :=
  s.putRows table index (dropFree ((s.rowsAt table index).map fun r => r.setVis f false))

/-- At the end of a retired epoch `r`, VIS[r] := VIS[c] in every row (R215). -/
def State.rowsMerge (s : State) (r c : Nat) : State :=
  { s with rows := s.rows.filterMap fun kv =>
      let rs := dropFree (kv.2.map fun w => w.setVis r (w.vis c))
      if rs.isEmpty then none else some (kv.1, rs) }

end Sys2Proof.Machine
end

