-- ==== Sys2Proof/Machine/Exact.lean ====
section
/-! DEFINITION. The exact-match table (R243 to R267): the hashes, the two copies, the table unit's changes, tier 1 and the
hit memory. -/
namespace Sys2Proof.Machine

/-! ## Reflected CRCs (R175, R246) -/

/-- One shift of a reflected CRC register. -/
def crcShift (poly r : Nat) : Nat := if r % 2 = 1 then r / 2 ^^^ poly else r / 2

/-- One byte, least significant bit first. -/
def crcByte (poly r byte : Nat) : Nat :=
  let r := r ^^^ byte
  let r := crcShift poly (crcShift poly (crcShift poly (crcShift poly r)))
  crcShift poly (crcShift poly (crcShift poly (crcShift poly r)))

/-- The register after the bytes, XORed with 0xFFFF_FFFF. -/
def crcBytes (poly seed : Nat) (bs : List Nat) : Nat := bs.foldl (crcByte poly) seed ^^^ 0xFFFFFFFF

/-- CRC-32C and the IEEE 802.3 CRC-32 from a seed (R246). -/
def crc32c (seed : Nat) (bs : List Nat) : Nat := crcBytes 0x82F63B78 seed bs
def crc32 (seed : Nat) (bs : List Nat) : Nat := crcBytes 0xEDB88320 seed bs

/-! ## Buckets (R246, R247, R248) -/

/-- A key's 20 bytes in wire order. -/
def keyBytes (key : Nat) : List Nat := (List.range 20).map fun i => key / 2 ^ (8 * (19 - i)) % 256

/-- The two candidate buckets of a key under the seeds. -/
def buckets (sd : Nat × Nat) (key : Nat) : Nat × Nat :=
  let b1 := crc32c sd.1 (keyBytes key) % 2 ^ 27
  let b2 := crc32 sd.2 (keyBytes key) % 2 ^ 27
  (b1, if b2 % 64 = b1 % 64 then b2 ^^^ 1 else b2)

/-- The candidate bucket that the entry of a key does not occupy. -/
def altBucket (sd : Nat × Nat) (key b : Nat) : Nat :=
  let c := buckets sd key
  if b = c.1 then c.2 else c.1

/-- A key's tier-1 set (R248). -/
def t1Index (sd : Nat × Nat) (key : Nat) : Nat := crc32c sd.1 (keyBytes key) % 2 ^ 20

/-! ## Copies (R245, R266) -/

def State.copyUp (s : State) (c : Nat) : Bool :=
  s.fld .FWD_HASH_STATUS (if c = 0 then F.FWD_HASH_STATUS_COPY0 else F.FWD_HASH_STATUS_COPY1) == 1

def State.setCopyUp (s : State) (c : Nat) (b : Bool) : State :=
  s.setFld .FWD_HASH_STATUS (if c = 0 then F.FWD_HASH_STATUS_COPY0 else F.FWD_HASH_STATUS_COPY1) (if b then 1 else 0)

/-- Some copy is in lookup service. -/
def State.t2Up (s : State) : Bool := s.copyUp 0 || s.copyUp 1

/-- The copy that the table unit reads first: copy 0 when in service, else copy 1. -/
def State.mainCopy (s : State) : Nat := if s.copyUp 0 then 0 else 1

/-- FWD_HASH_STATUS.STATE (R275): 1 step 1, 2 step 3, 3 DONE, 4 FAILED, 5 REFUSED. -/
def State.hashState (s : State) : Nat := s.fld .FWD_HASH_STATUS F.FWD_HASH_STATUS_STATE

def State.rebuilding (s : State) : Bool := s.hashState == 1 || s.hashState == 2

def State.seedRegs (s : State) : Nat × Nat := ((s.get .FWD_HASH_SEED1).toNat, (s.get .FWD_HASH_SEED2).toNat)

/-- The seeds that a copy is placed under. -/
def State.seedsOf (s : State) (c : Nat) : Nat × Nat :=
  (if c = 0 then s.fwd.over0 else s.fwd.over1).getD s.seedRegs

/-- The seeds of the copy that serves lookups. -/
def State.seeds (s : State) : Nat × Nat := s.seedsOf s.mainCopy

def State.copy (s : State) (c : Nat) : SMap FwdEntry := if c = 0 then s.fwd.copy0 else s.fwd.copy1

def State.setCopy (s : State) (c : Nat) (m : SMap FwdEntry) : State :=
  if c = 0 then { s with fwd := { s.fwd with copy0 := m } } else { s with fwd := { s.fwd with copy1 := m } }

/-- The copy that a rebuild is filling (R266), if any. -/
def State.rebuiltCopy (s : State) : Option Nat :=
  if s.hashState = 1 ∧ !s.fwd.rebuildFailed then some 1 else if s.hashState = 2 then some 0 else none

/-- The copies in lookup service. -/
def State.servingCopies (s : State) : List Nat := [0, 1].filter s.copyUp

/-- Apply a change to every copy in service (same seeds, same placement). -/
def State.onServing (s : State) (f : SMap FwdEntry → SMap FwdEntry) : State :=
  s.servingCopies.foldl (fun s c => s.setCopy c (f (s.copy c))) s

/-! ## Tier 1 and the hit memory (R248, R250, R252) -/

def emptySet : T1Set := ⟨[none, none, none, none], 0⟩

def State.t1Set (s : State) (key : Nat) : T1Set := sgetD s.fwd.t1 (t1Index s.seeds key) emptySet

def State.putT1 (s : State) (key : Nat) (w : T1Set) : State :=
  { s with fwd := { s.fwd with t1 := sput emptySet s.fwd.t1 (t1Index s.seeds key) w } }

/-- Invalidate any tier-1 copy of the key and increment the set's SETGEN (R250). -/
def State.t1Inval (s : State) (key : Nat) : State :=
  let w := s.t1Set key
  s.putT1 key ⟨w.ways.map (fun o => match o with | some x => if x.key = key then none else some x | none => none),
    (w.gen + 1) % 256⟩

/-- Invalidate tier 1 entirely (R266); SETGENs stay. -/
def State.t1Clear (s : State) : State :=
  { s with fwd := { s.fwd with t1 := s.fwd.t1.filterMap fun kv =>
      if kv.2.gen = 0 then none else some (kv.1, ⟨[none, none, none, none], kv.2.gen⟩) } }

def State.hitBits (s : State) (b : Nat) : Nat := sgetD s.fwd.hit b 0

def State.setHit (s : State) (b v : Nat) : State := { s with fwd := { s.fwd with hit := sput 0 s.fwd.hit b v } }

/-- The atomic operation of a hit (R252): with GONE = 0 it sets HIT and the hit stands. -/
def State.hitOp (s : State) (b : Nat) : State × Bool :=
  if (s.hitBits b).testBit 1 then (s, false) else (s.setHit b (setBit (s.hitBits b) 0), true)

/-- HIT = 1 and GONE = 0 for every entry of a copy (R266, R547). -/
def State.hitAll (s : State) (m : SMap FwdEntry) : State :=
  { s with fwd := { s.fwd with hit := m.map fun kv => (kv.1, 1) } }

/-! ## Versions -/

/-- The version of a key in a copy that satisfies `p`, and its bucket; VALID before MOVED. -/
def findVer (m : SMap FwdEntry) (sd : Nat × Nat) (key : Nat) (p : FwdEntry → Bool) : Option (Nat × FwdEntry) :=
  let c := buckets sd key
  let at' (moved : Bool) (b : Nat) : Option (Nat × FwdEntry) :=
    match sfind m b with
    | some e => if e.key = key ∧ e.moved = moved ∧ p e then some (b, e) else none
    | none => none
  (at' false c.1 <|> at' false c.2) <|> (at' true c.1 <|> at' true c.2)

/-- The versions of a key in the main copy. -/
def State.versions (s : State) (key : Nat) : List (Nat × FwdEntry) :=
  let c := buckets s.seeds key
  [c.1, c.2].filterMap fun b => match sfind (s.copy s.mainCopy) b with
    | some e => if e.key = key ∧ !e.moved then some (b, e) else none
    | none => none

/-- Visible to selector `e`. -/
def visTo (vis e : Nat) : Bool := vis.testBit e

/-- Change or remove (none) the versions of a key, in each copy written, under that copy's seeds. -/
def mapKey (sd : Nat × Nat) (key : Nat) (g : FwdEntry → Option FwdEntry) (m : SMap FwdEntry) : SMap FwdEntry :=
  let c := buckets sd key
  [c.1, c.2].foldl (fun m b => match sfind m b with
    | some e => if e.key = key then (match g e with | some e' => sinsert m b e' | none => serase m b) else m
    | none => m) m

/-- A change of a key's versions by the table unit (R250): every copy in service or being rebuilt, then tier 1. -/
def State.changeKey (s : State) (key : Nat) (g : FwdEntry → Option FwdEntry) : State :=
  let cs := s.servingCopies ++ s.rebuiltCopy.toList
  (cs.foldl (fun s c => s.setCopy c (mapKey (s.seedsOf c) key g (s.copy c))) s).t1Inval key

/-- Versions left visible to no selector become EMPTY at the end of an epoch or of an abandoned commit (R258). -/
def keepVisible (e : FwdEntry) : Option FwdEntry := if e.vis = 0 then none else some e

/-- VIS[a] := VIS[b]. -/
def copyVis (vis a b : Nat) : Nat := if vis.testBit b then setBit vis a else clrBit vis a

/-- Keys with a visible version (R279). -/
def State.keysHeld (s : State) : Nat :=
  (((s.copy s.mainCopy).filter fun kv => kv.2.vis != 0 && !kv.2.moved).map fun kv => kv.2.key).eraseDups.length

/-- Learned keys held (R279). -/
def State.learnedHeld (s : State) : Nat :=
  ((s.copy s.mainCopy).filter fun kv => kv.2.learned && !kv.2.moved).length

/-- The largest number of keys (R257). -/
def maxKeys : Nat := 33554432

/-! ## Placement (R251, R257) -/

/-- The chain search from a bucket: the buckets read, the EMPTY one first; none after 500. -/
def chainPath (m : SMap FwdEntry) (sd : Nat × Nat) : Nat → Nat → List Nat → Option (List Nat)
  | 0, _, _ => none
  | n + 1, b, acc =>
    match sfind m b with
    | none => some (b :: acc)
    | some e => chainPath m sd n (altBucket sd e.key b) (b :: acc)

/-- Write an entry into a bucket of a copy, with its SLOT. -/
def placeAt (sd : Nat × Nat) (b : Nat) (e : FwdEntry) (m : SMap FwdEntry) : SMap FwdEntry :=
  sinsert m b { e with moved := false, slot := if b = (buckets sd e.key).1 then 0 else 1 }

/-- Move the entry of bucket `a` to `c` in a copy (R251 steps 1 and 2). -/
def moveEntry (sd : Nat × Nat) (a c : Nat) (m : SMap FwdEntry) : SMap FwdEntry :=
  match sfind m a with
  | some e => sinsert (placeAt sd c e m) a { e with moved := true }
  | none => m

/-- Run a chain at once in one copy: path as `chainPath` gives it. -/
def runChain (sd : Nat × Nat) : List Nat → SMap FwdEntry → SMap FwdEntry
  | c :: a :: rest, m => runChain sd (a :: rest) (serase (moveEntry sd a c m) a)
  | _, m => m

/-- Insert into one copy with every move at once: the copy, the bucket taken and the moves made; none: REHASH_NEEDED. -/
def insertNow (sd : Nat × Nat) (e : FwdEntry) (m : SMap FwdEntry) : Option (SMap FwdEntry × Nat × Nat) :=
  let c := buckets sd e.key
  if (sfind m c.1).isNone then some (placeAt sd c.1 e m, c.1, 0)
  else if (sfind m c.2).isNone then some (placeAt sd c.2 e m, c.2, 0)
  else match chainPath m sd 500 c.1 [] with
    | none => none
    | some path => some (placeAt sd c.1 e (runChain sd path m), c.1, path.length - 1)

/-- The entry lands in bucket `b` of every copy in service: hit memory, tier 1 (R250, R252). -/
def State.landEntry (s : State) (b : Nat) (e : FwdEntry) : State :=
  ((s.onServing (placeAt s.seeds b e)).setHit b 1).t1Inval e.key

/-- Steps 1 and 2 of R251 in every copy in service; the entry's hit bits go with it, and its SETGEN advances. -/
def State.beginMove (s : State) (a c : Nat) : State :=
  match sfind (s.copy s.mainCopy) a with
  | some e => (((s.onServing (moveEntry s.seeds a c)).setHit c (s.hitBits a)).t1Inval e.key).count C.relocations
  | none => s

/-- Health event REHASH_NEEDED and FWD_HASH_STATUS.NEEDED (R265). -/
def State.rehashNeeded (s : State) : State :=
  (s.setFld .FWD_HASH_STATUS F.FWD_HASH_STATUS_NEEDED 1).event Ev.rehashNeeded 0 0

/-- The insert into the copy that a rebuild fills, under that copy's seeds (R266). In step 3 that copy follows the one in service
bucket for bucket, whose moves are counted already. -/
def State.insertRebuilt (s : State) (e : FwdEntry) : State :=
  match s.rebuiltCopy with
  | none => s
  | some c =>
    match insertNow (s.seedsOf c) e (s.copy c) with
    | some r => (s.setCopy c r.1).countN C.relocations (if s.hashState = 1 then r.2.2 else 0)
    | none => ({ s with fwd := { s.fwd with rebuildFailed := true } }).rehashNeeded

/-- How an insert stands after its call. -/
inductive InsertResult where | placed | moving | needed
  deriving DecidableEq, Repr

/-- An insert by the table unit (R257): placed, its chain of moves begun, or REHASH_NEEDED with nothing moved. -/
def State.insertEntry (s : State) (e : FwdEntry) (commit : Bool) : State × InsertResult :=
  let m := s.copy s.mainCopy
  let c := buckets s.seeds e.key
  if (sfind m c.1).isNone then ((s.landEntry c.1 e).insertRebuilt e, .placed)
  else if (sfind m c.2).isNone then ((s.landEntry c.2 e).insertRebuilt e, .placed)
  else match chainPath m s.seeds 500 c.1 [] with
    | none => (s.rehashNeeded, .needed)
    | some (c0 :: a :: rest) =>
      let s := s.beginMove a c0
      ({ s with fwd := { s.fwd with job := some ⟨a, rest, e, commit⟩ } }, .moving)
    | some _ => (s, .needed)

/-- The same with every move at once, as at start-up step 6, where no lookup runs. -/
def State.insertAtOnce (s : State) (e : FwdEntry) : Option State :=
  match insertNow s.seeds e (s.copy s.mainCopy) with
  | none => none
  | some (m, b, k) =>
    let s := s.servingCopies.foldl (fun s c => s.setCopy c m) s
    some (((s.setHit b 1).t1Inval e.key).countN C.relocations k)

/-- The end of one move (R251 step 3): the MOVED bucket becomes EMPTY; the next move begins, or the entry is placed. The
flag says whether the insert is complete. -/
def State.endMove (s : State) (j : TuJob) : State × Bool :=
  let s := s.onServing fun m => serase m j.moved
  match j.chain with
  | a :: rest =>
    let s := s.beginMove a j.moved
    ({ s with fwd := { s.fwd with job := some { j with moved := a, chain := rest } } }, false)
  | [] =>
    let s := (s.landEntry j.moved j.entry).insertRebuilt j.entry
    ({ s with fwd := { s.fwd with job := none } }, true)

/-- Removal of the version at a bucket by Caraway or after an uncorrectable error: both copies, tier 1. -/
def State.removeVersion (s : State) (e : FwdEntry) : State :=
  s.changeKey e.key fun x => if x.vis = e.vis then none else some x

/-! ## Caraway's passes (R262, R264) -/

/-- The flush set's name for "every port" (FLUSH with DATA[0][31]). -/
def everyPort : Nat := 1024

/-- Aging is suspended: a rebuild, or no copy in service (R266, R267, R279). -/
def State.agingHeld (s : State) : Bool := s.rebuilding || !s.t2Up

def State.beginPass (s : State) (aging : Bool) : State :=
  { s with fwd := { s.fwd with pass := some aging, pos := 0, serving := s.fwd.flushSet,
                               cmdServed := s.fwd.flushCmd.isSome,
                               agingDue := if aging then false else s.fwd.agingDue } }

/-- FLUSH_PASS_START: with the flush set not empty and no pass under way, a flush pass begins at once. -/
def State.flushStart (s : State) : State :=
  if s.fwd.pass.isNone && !s.fwd.flushSet.isEmpty && s.t2Up then s.beginPass false else s

/-- Add a port to Caraway's flush set (R264). A port that the pass under way serves is served again by the next one. -/
def State.flushAdd (s : State) (p : Nat) : State :=
  (if s.fwd.pass.isSome && s.fwd.serving.contains p then
     (if s.fwd.again.contains p then s else { s with fwd := { s.fwd with again := s.fwd.again ++ [p] } })
   else if s.fwd.flushSet.contains p then s
   else { s with fwd := { s.fwd with flushSet := s.fwd.flushSet ++ [p] } }).flushStart

/-! ## Visibility at the end of an epoch (R258) -/

/-- VIS[r] := VIS[c] for every version touched by the commit that created the current epoch. -/
def State.fwdMerge (s : State) (keys : List Nat) (r c : Nat) : State :=
  keys.foldl (fun s k => s.changeKey k fun e => keepVisible { e with vis := copyVis e.vis r c }) s

end Sys2Proof.Machine
end

