-- ==== Sys2Proof/Machine/Parse.lean ====
section
/-! DEFINITION. The parser (R203 to R209): the header graph over the first 64 bytes of a frame, the verdict and the parse
result; and the classification key (R210 to R213). -/
namespace Sys2Proof.Machine

/-- Byte `i` of a byte list, 0 beyond its end. -/
def byteAt (w : List Byte) (i : Nat) : Nat := (w.getD i 0).toNat

/-- The `n` bytes from offset `o`, most significant first (R4). -/
def beAt (w : List Byte) (o : Nat) : Nat → Nat
  | 0 => 0
  | n + 1 => beAt w o n * 256 + byteAt w (o + n)

/-- The settings that govern a port's parse (R204, R229, R236, R237). -/
structure ParseCfg where
  tunnel : Nat
  mpls : Bool
  tpidAlt : Nat
  vxlan : Nat
  geneve : Nat
  deriving DecidableEq, Repr

/-- The parse result before any header is read. -/
def Parse.empty : Parse :=
  { verdict := .ok, payload := 0, l3v := false, l4v := false, tcpfV := false, tun := 0, vni := 0, tags := 0, ovid := 0,
    opcp := 0, odei := 0, ivid := 0, ipcp := 0, mplsN := 0, label0 := 0, label1 := 0, mplsTc := 0, ptp := false,
    ptpType := 0, ptpOff := none, l3type := 0, frag := 0, sip := 0, dip := 0, proto := 0, dscp := 0, ecn := 0, ttl := 0,
    flow := 0, sport := 0, dport := 0, tcpf := 0, da := 0, sa := 0, etype := 0, innerDa := 0, innerEtype := 0, pay16 := 0 }

/-- A header of the graph that the path has been named to reach (R204). -/
inductive Hdr where
  | eth | tag | mpls | ip4 | ip6 | ext (nh : Nat) | udp | tcp | vxlan | geneve | inner
  deriving DecidableEq, Repr

/-- The walk's state: the result so far, whether DEEP or LENGTH has been found, the IP payload length and UDP Length as far
as known, the IPv6 Payload Length and extension bytes, and whether the next header is terminal (a later fragment). -/
structure Walk where
  p : Parse
  deep : Bool
  len : Bool
  ipLen : Option Nat
  udpLen : Option Nat
  pl6 : Nat
  ext : Nat
  later : Bool
  ptpAt : Option Nat
  deriving DecidableEq, Repr

/-- What the walk does after a header: stop, or go on with the named header at an offset. -/
abbrev Next := Walk × Option (Hdr × Nat)

def Walk.stop (k : Walk) : Next := (k, none)
def Walk.stopDeep (k : Walk) : Next := ({ k with deep := true }, none)
def Walk.pay (k : Walk) (o : Nat) : Walk := { k with p := { k.p with payload := o } }

/-- The header that an EtherType names at offset `o`, or a stop; a version nibble outside the window gives DEEP (R205). -/
def byEtherType (c : ParseCfg) (w : List Byte) (k : Walk) (et o : Nat) : Next :=
  if et = 0x8100 ∨ et = 0x88A8 ∨ (c.tpidAlt ≠ 0 ∧ et = c.tpidAlt) then (k, some (.tag, o))
  else if (et = 0x8847 ∨ et = 0x8848) ∧ c.mpls then (k, some (.mpls, o))
  else if et = 0x0800 then
    if w.length ≤ o then k.stopDeep else if byteAt w o / 16 = 4 then (k, some (.ip4, o)) else k.stop
  else if et = 0x86DD then
    if w.length ≤ o then k.stopDeep else if byteAt w o / 16 = 6 then (k, some (.ip6, o)) else k.stop
  else k.stop

/-- The header that an IPv6 Next Header names. -/
def byNextHeader (k : Walk) (nh o : Nat) : Next :=
  if nh = 0 ∨ nh = 43 ∨ nh = 44 ∨ nh = 60 then (k, some (.ext nh, o))
  else if nh = 17 then (k, some (.udp, o))
  else if nh = 6 then (k, some (.tcp, o))
  else k.stop

/-- The label stack from offset `o`, with `n` labels read (R204). -/
def mplsWalk (w : List Byte) (k : Walk) (o n : Nat) : Nat → Next
  | 0 => k.stopDeep
  | fuel + 1 =>
    if w.length < o + 4 then k.stopDeep
    else
      let lab := beAt w o 4
      let p := k.p
      let p := { p with mplsN := n + 1 }
      let p := if n = 0 then { p with label0 := lab / 4096, mplsTc := lab / 512 % 8 } else p
      let p := if n = 1 then { p with label1 := lab / 4096 } else p
      let k := { k with p := p }
      if lab / 256 % 2 = 1 then
        let k := k.pay (o + 4)
        if w.length ≤ o + 4 then k.stopDeep
        else if byteAt w (o + 4) / 16 = 4 then (k, some (.ip4, o + 4))
        else if byteAt w (o + 4) / 16 = 6 then (k, some (.ip6, o + 4))
        else k.stop
      else mplsWalk w k (o + 4) (n + 1) fuel

def walkEth (c : ParseCfg) (w : List Byte) (k : Walk) : Next :=
  if w.length < 14 then k.stopDeep
  else
    let et := beAt w 12 2
    let k := { k with p := { k.p with da := beAt w 0 6, sa := beAt w 6 6, etype := et, payload := 14 },
                      ptpAt := if et = 0x88F7 then some 14 else none }
    byEtherType c w k et 14

def walkTag (c : ParseCfg) (w : List Byte) (k : Walk) (o : Nat) : Next :=
  if k.p.tags = 2 ∨ w.length < o + 4 then k.stopDeep
  else
    let tci := beAt w o 2
    let et := beAt w (o + 2) 2
    let p := { k.p with tags := k.p.tags + 1, etype := et, payload := o + 4 }
    let p := if k.p.tags = 0 then { p with ovid := tci % 4096, opcp := tci / 8192, odei := tci / 4096 % 2 }
             else { p with ivid := tci % 4096, ipcp := tci / 8192 }
    let k := { k with p := p, ptpAt := if et = 0x88F7 then some (o + 4) else none }
    byEtherType c w k et (o + 4)

def walkIp4 (w : List Byte) (k : Walk) (o : Nat) : Next :=
  let ihl := byteAt w o % 16
  let tl := beAt w (o + 2) 2
  let bad := decide (o < w.length ∧ ihl < 5) || decide (o + 4 ≤ w.length ∧ tl < ihl * 4)
  let k := { k with len := k.len || bad }
  if w.length < o + 20 then k.stopDeep
  else
    let fr := beAt w (o + 6) 2
    let fo := fr % 8192
    let proto := byteAt w (o + 9)
    let k := { k with
      p := { k.p with
        l3type := 1, l3v := !k.len, dscp := byteAt w (o + 1) / 4, ecn := byteAt w (o + 1) % 4, ttl := byteAt w (o + 8),
        proto := proto, sip := beAt w (o + 12) 4, dip := beAt w (o + 16) 4,
        frag := if fo ≠ 0 then 2 else if fr / 8192 % 2 = 1 then 1 else 0,
        payload := o + ihl * 4 },
      ipLen := some (tl - ihl * 4) }
    if fo ≠ 0 then k.stop
    else if proto = 17 then (k, some (.udp, o + ihl * 4))
    else if proto = 6 then (k, some (.tcp, o + ihl * 4))
    else k.stop

def walkIp6 (w : List Byte) (k : Walk) (o : Nat) : Next :=
  let pl := beAt w (o + 4) 2
  let nh := byteAt w (o + 6)
  let bad := decide (o + 7 ≤ w.length ∧ pl = 0 ∧ nh ≠ 59)
  let k := { k with len := k.len || bad }
  if w.length < o + 40 then k.stopDeep
  else
    let tc := byteAt w o % 16 * 16 + byteAt w (o + 1) / 16
    let k := { k with
      p := { k.p with
        l3type := 2, l3v := !k.len, dscp := tc / 4, ecn := tc % 4, flow := beAt w (o + 1) 3 % 2 ^ 20,
        ttl := byteAt w (o + 7), proto := nh, sip := beAt w (o + 8) 16, dip := beAt w (o + 24) 16, payload := o + 40 },
      ipLen := some pl, pl6 := pl, ext := 0 }
    byNextHeader k nh (o + 40)

/-- An extension header. A chain that runs past Payload Length is a LENGTH failure after the IPv6 header, which stays parsed: L3V
is 1 (log 131). A Fragment header of which only the first 2 bytes lie in the window leaves FRAG 0 and counts as no later fragment
(log 154). -/
def walkExt (w : List Byte) (k : Walk) (nh o : Nat) : Next :=
  if w.length < o + 2 then k.stopDeep
  else
    let nxt := byteAt w o
    let ln := if nh = 44 then 8 else (byteAt w (o + 1) + 1) * 8
    let ext := k.ext + ln
    let frInWin := decide (nh = 44 ∧ o + 4 ≤ w.length)
    let x := beAt w (o + 2) 2
    let frag := if frInWin then (if x / 8 ≠ 0 then 2 else if x % 2 = 1 then 1 else 0) else k.p.frag
    let k' := { k with
      p := { k.p with proto := nxt, payload := o + ln, frag := frag },
      len := k.len || decide (k.pl6 < ext), ipLen := some (k.pl6 - ext), ext := ext,
      later := k.later || (frInWin && decide (x / 8 ≠ 0)) }
    if k.later then k'.stop else byNextHeader k' nxt (o + ln)

def walkUdp (c : ParseCfg) (w : List Byte) (k : Walk) (o : Nat) : Next :=
  let ul := beAt w (o + 4) 2
  let ulIn := decide (o + 6 ≤ w.length)
  let bad := ulIn && (decide (ul < 8) || (match k.ipLen with | some l => decide (l < ul) | none => false))
  let k := { k with len := k.len || bad }
  if w.length < o + 4 then k.stopDeep
  else
    let dport := beAt w (o + 2) 2
    let k := { k with
      p := { k.p with sport := beAt w o 2, dport := dport, l4v := true, payload := o + 8 },
      udpLen := if ulIn then some ul else none,
      ptpAt := if dport = 319 ∨ dport = 320 then some (o + 8) else k.ptpAt }
    let t := o + 8
    if c.tunnel = 0 ∨ k.later then k.stop
    else if dport = c.vxlan then
      if w.length ≤ t then k.stopDeep
      else if byteAt w t / 8 % 2 = 1 then (k, some (.vxlan, t)) else k.stop
    else if dport = c.geneve then
      if w.length < t + 4 then k.stopDeep
      else if byteAt w t / 64 = 0 ∧ beAt w (t + 2) 2 = 0x6558 then (k, some (.geneve, t)) else k.stop
    else k.stop

def walkTcp (w : List Byte) (k : Walk) (o : Nat) : Next :=
  let off := byteAt w (o + 12) / 16
  let offIn := decide (o + 13 ≤ w.length)
  let bad := offIn && (decide (off < 5) || (match k.ipLen with | some l => decide (l < off * 4) | none => false))
  let k := { k with len := k.len || bad }
  if w.length < o + 4 then k.stopDeep
  else
    let p := { k.p with sport := beAt w o 2, dport := beAt w (o + 2) 2, l4v := true,
                        payload := if offIn then o + off * 4 else o + 20 }
    let p := if o + 14 ≤ w.length then { p with tcpf := byteAt w (o + 13), tcpfV := true } else p
    ({ k with p := p }).stop

def walkVxlan (c : ParseCfg) (w : List Byte) (k : Walk) (o : Nat) : Next :=
  if w.length < o + 8 then k.stopDeep
  else
    let k := { k with p := { k.p with tun := 1, vni := beAt w (o + 4) 3, payload := o + 8 } }
    if c.tunnel = 2 then (k, some (.inner, o + 8)) else k.stop

def walkGeneve (c : ParseCfg) (w : List Byte) (k : Walk) (o : Nat) : Next :=
  let opt := byteAt w o % 64 * 4
  let bad := decide (o < w.length) && (match k.udpLen with | some ul => decide (ul - 8 < 8 + opt) | none => false)
  let k := { k with len := k.len || bad }
  if w.length < o + 8 then k.stopDeep
  else
    let k := { k with p := { k.p with tun := 2, vni := beAt w (o + 4) 3, payload := o + 8 + opt } }
    if c.tunnel = 2 then (k, some (.inner, o + 8 + opt)) else k.stop

def walkInner (w : List Byte) (k : Walk) (o : Nat) : Next :=
  if w.length < o + 14 then k.stopDeep
  else ({ k with p := { k.p with innerDa := beAt w o 6, innerEtype := beAt w (o + 12) 2, payload := o + 14 } }).stop

/-- One header of the path (R204). -/
def walkStep (c : ParseCfg) (w : List Byte) (k : Walk) (h : Hdr) (o : Nat) : Next :=
  match h with
  | .eth => walkEth c w k
  | .tag => walkTag c w k o
  | .mpls => mplsWalk w k o 0 6
  | .ip4 => walkIp4 w k o
  | .ip6 => walkIp6 w k o
  | .ext nh => walkExt w k nh o
  | .udp => walkUdp c w k o
  | .tcp => walkTcp w k o
  | .vxlan => walkVxlan c w k o
  | .geneve => walkGeneve c w k o
  | .inner => walkInner w k o

/-- The path: at most 8 headers; a ninth gives DEEP (R205). -/
def walkPath (c : ParseCfg) (w : List Byte) : Nat → Walk → Hdr → Nat → Walk
  | 0, k, _, _ => { k with deep := true }
  | n + 1, k, h, o =>
    match walkStep c w k h o with
    | (k, none) => k
    | (k, some (h, o)) => walkPath c w n k h o

/-- The parse result of a frame (R203 to R209). -/
def parseFrame (c : ParseCfg) (bytes : List Byte) : Parse :=
  let w := bytes.take 64
  let k := walkPath c w 8 ⟨Parse.empty, false, false, none, none, 0, 0, false, none⟩ .eth 0
  let p := k.p
  let p := match k.ptpAt with
    | some o => if o < w.length then { p with ptp := true, ptpOff := some o, ptpType := byteAt w o % 16 }
                else { p with ptp := true }
    | none => p
  { p with verdict := if k.len then .length else if k.deep then .deep else .ok, pay16 := beAt w p.payload 16 }

/-! ## The classification key (R210 to R213) -/

/-- What the key takes beside the parse result. -/
structure KeyCtx where
  keyMode : Nat
  pass2 : Bool
  port : Nat
  label : Nat
  dpiHit : Bool
  dpiTag : Nat
  fromHost : Bool
  deriving DecidableEq, Repr

def bit (b : Bool) : Nat := if b then 1 else 0

/-- Bits [383:0] of the IP profile (R211). -/
def keyIp (p : Parse) : Nat :=
  p.sip * 2 ^ 256 + p.dip * 2 ^ 128 + p.proto * 2 ^ 120 + p.dscp * 2 ^ 114 + p.ecn * 2 ^ 112 + p.ttl * 2 ^ 104 +
  p.flow * 2 ^ 84 + p.sport * 2 ^ 68 + p.dport * 2 ^ 52 + p.tcpf * 2 ^ 44 + p.label0 * 2 ^ 24 + p.ivid * 2 ^ 12 +
  p.mplsTc * 2 ^ 9

/-- Bits [383:0] of the L2 profile (R212). -/
def keyL2 (p : Parse) : Nat :=
  p.da * 2 ^ 336 + p.sa * 2 ^ 288 + p.etype * 2 ^ 272 + p.ivid * 2 ^ 260 + p.ipcp * 2 ^ 257 + p.odei * 2 ^ 256 +
  p.label0 * 2 ^ 236 + p.label1 * 2 ^ 216 + p.mplsTc * 2 ^ 213 + p.innerDa * 2 ^ 165 + p.innerEtype * 2 ^ 149 +
  p.pay16 * 2 ^ 21

/-- The 480-bit key (R210, R213). -/
def makeKey (x : KeyCtx) (p : Parse) : Nat :=
  let l2 := decide (x.keyMode = 1 ∨ p.l3type = 0)
  bit l2 * 2 ^ 479 + bit x.pass2 * 2 ^ 478 + x.port % 1024 * 2 ^ 468 + x.label * 2 ^ 460 + bit x.dpiHit * 2 ^ 459 +
  x.dpiTag * 2 ^ 443 + p.tun * 2 ^ 441 + p.vni * 2 ^ 417 + p.tags * 2 ^ 415 + p.ovid * 2 ^ 403 + p.opcp * 2 ^ 400 +
  p.mplsN * 2 ^ 397 + bit p.ptp * 2 ^ 396 + p.ptpType * 2 ^ 392 + p.l3type * 2 ^ 390 + p.frag * 2 ^ 388 +
  bit p.l4v * 2 ^ 387 + bit p.tcpfV * 2 ^ 386 + bit x.fromHost * 2 ^ 385 +
  (if l2 then keyL2 p else keyIp p)

/-- Key bits that are always zero in a profile (R227): [384] and [8:0] in the IP profile, [384] and [20:0] in the L2
profile. SIP, DIP and the other fields may take any value. -/
def keyZeroIp : Nat := 2 ^ 384 + (2 ^ 9 - 1)
def keyZeroL2 : Nat := 2 ^ 384 + (2 ^ 21 - 1)

end Sys2Proof.Machine
end

