-- ==== Sys2Proof/Machine/Rewrite.lean ====
section
/-! DEFINITION. The bytes that a replica puts on the wire (R175, R178, R244, R284, R297, R324, R325, R336, R339, R434). -/
namespace Sys2Proof.Machine

/-! ## Checks and fields -/

/-- The IEEE 802.3 FCS of bytes, first byte on the wire first (R175). -/
def fcsOf (bs : List Byte) : List Byte :=
  let c := crc32 0xFFFFFFFF (bs.map BitVec.toNat)
  (List.range 4).map fun i => BitVec.ofNat 8 (c / 2 ^ (8 * i))

/-- The ones' complement of the FCS, as a stomp sends it (R178). -/
def stompFcs (bs : List Byte) : List Byte := (fcsOf bs).map fun b => ~~~b

/-- `n` bytes of a number, most significant first. -/
def beBytes (n v : Nat) : List Byte := (List.range n).map fun i => BitVec.ofNat 8 (v / 2 ^ (8 * (n - 1 - i)))

/-! ## Rewrites -/

/-- Replace bytes from offset `o`. -/
def patch (bs : List Byte) (o : Nat) (new : List Byte) : List Byte :=
  (bs.take o ++ new.take (bs.length - o)) ++ bs.drop (o + new.length)

/-- The frame with a fresh FCS. -/
def refcs (bs : List Byte) : List Byte :=
  let b := bs.take (bs.length - 4)
  b ++ fcsOf b

/-- The outer tag carries `vid` (R244); a frame without an outer tag is unchanged. -/
def rewriteVid (p : Parse) (vid : Nat) (bs : List Byte) : List Byte :=
  if p.tags = 0 then bs
  else refcs (patch bs 14 (beBytes 2 (beAt bs 14 2 / 4096 * 4096 + vid % 4096)))

/-- One's complement sum of 16-bit words. -/
def onesSum (ws : List Nat) : Nat :=
  let t := ws.sum
  let t := t % 65536 + t / 65536
  t % 65536 + t / 65536

/-- The 16-bit words of `n` bytes at offset `o`. -/
def words16 (bs : List Byte) (o n : Nat) : List Nat := (List.range (n / 2)).map fun i => beAt bs (o + 2 * i) 2

/-- A field of a UDP datagram changes and its checksum at `c` is updated incrementally (R339): HC' = ~(~HC + ~m + m'). -/
def udpUpdate (old new : List Byte) (c o n : Nat) : List Byte :=
  let hc := beAt old c 2
  let sum := onesSum ([65535 - hc] ++ (words16 old o n).map (65535 - ·) ++ words16 new o n)
  let v := 65535 - sum
  patch new c (beBytes 2 (if v = 0 then 65535 else v))

/-- Add `d` (units of 2^-16 ns) to the correctionField of a PTP message whose header starts at `o` (R339). -/
def addCorrection (p : Parse) (o : Nat) (d : Int) (bs : List Byte) : List Byte :=
  let old := beAt bs (o + 8) 8
  let new := patch bs (o + 8) (beBytes 8 (((old : Int) + d) % 2 ^ 64).toNat)
  let udp := p.l4v && p.proto == 17 && decide (8 ≤ o)
  refcs (if udp && (p.l3type == 2 || beAt bs (o - 2) 2 != 0) then udpUpdate bs new (o - 2) (o + 8) 8 else new)

/-- A forwarded Sync or Delay_Req takes the residence update (R339). -/
def State.tcUpdates (s : State) (f : Frame) (r : Replica) : Bool :=
  !f.fromHost && !f.engine && !r.noRewrite &&
  s.stFld f.sel (.TIM_PTP_PORT f.port) F.TIM_PTP_PORT_TC_EN == 1 &&
  (match f.parse with | some p => p.ptp && decide (p.ptpType ≤ 1) && p.ptpOff.isSome | none => false)

/-- Difference of two 48.16 timestamps (R325): modulo 2^64, signed. -/
def tsDiff (a b : Nat) : Int :=
  let d : Nat := (a + 2 ^ 64 - b % 2 ^ 64) % 2 ^ 64
  if d < 2 ^ 63 then d else (d : Int) - 2 ^ 64

/-- T in whole units of 2^-16 ns. -/
def State.full16 (s : State) : Int := (s.tim.t.toNat / 2 ^ 16 : Nat)

/-- The full time of a 48.16 timestamp (R325). -/
def State.restore (s : State) (ts : Nat) : Int := s.full16 - ((s.now16 + 2 ^ 64 - ts % 2 ^ 64) % 2 ^ 64 : Nat)

/-- The full time of a stamp that may lie after the present T, as an egress timestamp does when it is fixed (R327; log 141). -/
def State.timeOf (s : State) (ts : Nat) : Int := s.full16 + tsDiff ts s.now16

/-- Seconds, nanoseconds and fraction of a time in units of 2^-16 ns (R324). -/
def ptpTime (t : Int) : Nat × Nat × Nat :=
  let n := t.toNat
  (n / 65536 / 1000000000 % 2 ^ 48, n / 65536 % 1000000000, n % 65536)

/-- A one-step Sync carries its own egress time (R336). -/
def stampSync (t : Int) (bs : List Byte) : List Byte :=
  let x := ptpTime t
  refcs (patch (patch bs 48 (beBytes 6 x.1 ++ beBytes 4 x.2.1)) 22 (beBytes 8 x.2.2))

/-- A two-step Sync carries an origin time within 1 µs of the event (R336). -/
def originOnly (t : Int) (bs : List Byte) : List Byte :=
  let x := ptpTime t
  refcs (patch bs 48 (beBytes 6 x.1 ++ beBytes 4 x.2.1))

/-- twoStepFlag of a PTP message in the IEEE 802.3 transport. -/
def twoStep (bs : List Byte) : Bool := (byteAt bs 20).testBit 1

/-- The bytes that a replica puts on the wire, its egress timestamp known. -/
def State.sentBytes (s : State) (f : Frame) (r : Replica) (ts : Nat) : List Byte :=
  if f.engine then
    if byteAt f.bytes 14 % 16 = 0 then
      (if twoStep f.bytes then originOnly (s.timeOf ts) f.bytes else stampSync (s.timeOf ts) f.bytes)
    else f.bytes
  else
    match f.parse with
    | none => f.bytes
    | some p =>
      let b := match r.vid with
        | some v => if r.noRewrite then f.bytes else rewriteVid p v f.bytes
        | none => f.bytes
      if s.tcUpdates f r then addCorrection p (p.ptpOff.getD 0) (tsDiff ts f.ts) b else b

/-- The bytes with the cells of a stalled bank sent as zero bytes (R434). -/
def zeroCells (gone : List Nat) (bs : List Byte) : List Byte :=
  gone.foldl (fun b i => patch b (256 * i) (List.replicate 256 0#8)) bs

/-- The bytes of a frame as its cells are read: each bad word as it was read (R284). -/
def asRead (bad : BadWords) (bs : List Byte) : List Byte :=
  bad.foldl (fun b w => patch b (8 * w.1) (w.2.take 8)) bs

/-- Words of the frame that a read has met with an uncorrectable error (R284). -/
def Frame.readBad (f : Frame) (bad : BadWords) : Frame :=
  { f with badWords := f.badWords ++ bad.filter fun w => decide (8 * w.1 < f.bytes.length) && !f.badWords.contains w }

/-- What a replica puts on the wire, bad words as they were read (R284) and lost cells as 256 zero bytes each (R297, R434). -/
def State.wireBytes (s : State) (f : Frame) (r : Replica) (ts : Nat) : List Byte :=
  match r.spill with
  | .lost _ => List.replicate (256 * ((f.bytes.length + 255) / 256)) 0#8
  | _ => zeroCells f.gone (s.sentBytes { f with bytes := asRead f.badWords f.bytes } r ts)

/-- Some cell of the frame is damaged or lost on die, so that every replica read from now on ends stomped (R284, R434). -/
def Frame.faulty (f : Frame) : Bool := !f.badWords.isEmpty || f.badLink.isSome || !f.gone.isEmpty

/-- The bytes before the stomped FCS of a replica that ends under R284: a bad link word ends it at its cell. -/
def State.stompedBody (s : State) (f : Frame) (r : Replica) (ts : Nat) : List Byte :=
  let bytes := s.wireBytes f r ts
  match r.spill, f.badLink with
  | .lost _, _ => bytes
  | _, some i => bytes.take (min (256 * (i + 1)) (bytes.length - 4))
  | _, none => bytes.take (bytes.length - 4)

end Sys2Proof.Machine
end

