-- ==== Sys2Proof/Machine/Buffer.lean ====
section
/-! DEFINITION. Frames, replicas and cells (R281 to R300): occupancy, pools, references, the end of an epoch, and the pause
state that occupancy drives (R183). -/
namespace Sys2Proof.Machine

/-! ## Frames and replicas -/

def State.frame (s : State) (id : Nat) : Option Frame := sfind s.frames id

def State.putFrame (s : State) (id : Nat) (f : Frame) : State := { s with frames := sinsert s.frames id f }

/-- Apply a change to a frame, if it is in the device. -/
def State.updFrame (s : State) (id : Nat) (g : Frame → Frame) : State :=
  match s.frame id with
  | some f => s.putFrame id (g f)
  | none => s

def State.rep (s : State) (k : Nat) : Option Replica := sfind s.reps k

def State.putRep (s : State) (k : Nat) (r : Replica) : State := { s with reps := sinsert s.reps k r }

def State.updRep (s : State) (k : Nat) (g : Replica → Replica) : State :=
  match s.rep k with
  | some r => s.putRep k (g r)
  | none => s

/-- ⌈n / 256⌉ (R281). -/
def cellsFor (n : Nat) : Nat := (n + 255) / 256

/-- Length of a frame in bytes (R175). -/
def Frame.len (f : Frame) : Nat := f.bytes.length

/-- Cells of the whole frame. -/
def Frame.ncells (f : Frame) : Nat := cellsFor f.len

/-- Cells that a frame has taken for itself in all (R289). -/
def Frame.taken (f : Frame) : Nat := f.charge + f.extra

/-- Cells that a frame holds or reserves now, those that have left the buffer apart (R290): of its pool, of the further shared
ones, and in all. -/
def Frame.chargeNow (f : Frame) : Nat := f.charge - f.left
def Frame.extraNow (f : Frame) : Nat := f.extra - (f.left - f.charge)
def Frame.held (f : Frame) : Nat := f.taken - f.left

/-- A frame for one port and no ring: its cells leave the buffer as they cross (R290). -/
def Frame.unicast (f : Frame) : Bool := (match f.route with | some (.port _) => true | _ => false) && f.copyRing.isNone

/-- MAX_FRAME of a port under a selector (R194). -/
def State.maxFrame (s : State) (e p : Nat) : Nat := s.stFld e (.PRT_MAC_CFG p) F.PRT_MAC_CFG_MAX_FRAME

/-- The replicas of a frame. -/
def State.repsOf (s : State) (id : Nat) : List (Nat × Replica) := s.reps.filter fun kv => kv.2.frame == id

/-- Host copies of a frame waiting in delivery queues. -/
def State.copiesOf (s : State) (id : Nat) : Nat :=
  (s.rings.map fun kv => (kv.2.dq.filter fun x => x.frame == id).length).sum

/-- The reference count (R299). -/
def State.refs (s : State) (id : Nat) : Nat := (s.repsOf id).length + s.copiesOf id

/-! ## Classes and queues -/

def classOf (q : Nat) : Nat := q % 16
def portOf (q : Nat) : Nat := q / 16

/-- Priority of a class under a selector (R201). -/
def State.prioOf (s : State) (e k : Nat) : Nat :=
  (s.stGet e (if k < 8 then .PRT_PFC_MAP0 else .PRT_PFC_MAP1)).toNat / 2 ^ (3 * (k % 8)) % 8

def State.classFld (s : State) (e k : Nat) (f : Fld) : Nat := s.stFld e (.SWC_CLASS_CFG k) f

def State.timeClass (s : State) (e k : Nat) : Bool := s.classFld e k F.SWC_CLASS_CFG_TIME == 1
def State.expressClass (s : State) (e k : Nat) : Bool := s.classFld e k F.SWC_CLASS_CFG_EXPRESS == 1

/-- FC_MODE and PFC_EN of a port under a selector (R196). -/
def State.fcMode (s : State) (e p : Nat) : Nat := s.stFld e (.PRT_FC_CFG p) F.PRT_FC_CFG_FC_MODE
def State.pfcEn (s : State) (e p : Nat) : Nat := s.stFld e (.PRT_FC_CFG p) F.PRT_FC_CFG_PFC_EN

/-- Whether a frame of class `k` admitted at port `p` is lossless (R287). -/
def State.lossless (s : State) (e p k : Nat) : Bool :=
  !s.timeClass e k && !s.expressClass e k &&
  (s.fcMode e p == 1 || (s.fcMode e p == 2 && (s.pfcEn e p).testBit (s.prioOf e k)))

/-! ## Occupancy (R290, R295, R313) -/

/-- Cells that a frame holds or reserves, by number; 0 where it is gone. -/
def State.cellsHeld (s : State) (id : Nat) : Nat := match s.frame id with | some f => f.held | none => 0

def Replica.onDie (r : Replica) : Bool := r.spill == SpillSt.onDie

/-- Held in spill (R296); lost cells are held nowhere, and are sent at their turn (R297). -/
def Replica.inSpillNow (r : Replica) : Bool := match r.spill with | .inSpill _ => true | _ => false

/-- Cells that a replica counts in its queue: those of its frame that have not crossed (R290; log 137). -/
def State.repCells (s : State) (r : Replica) : Nat :=
  match s.frame r.frame with | some f => f.taken - r.crossed | none => 0

/-- Sum of the cells of the queue's replicas that satisfy `p`. -/
def State.qCells (s : State) (q : Nat) (p : Replica → Bool) : Nat :=
  ((s.reps.filter fun kv => kv.2.q == q && p kv.2).map fun kv => s.repCells kv.2).sum

/-- On-die occupancy OCC of queue `q`. -/
def State.qOcc (s : State) (q : Nat) : Nat := s.qCells q Replica.onDie

/-- Cells of queue `q` in spill. -/
def State.qSpilled (s : State) (q : Nat) : Nat := s.qCells q Replica.inSpillNow

/-- Cells that frames hold of a pool. -/
def State.poolUsed (s : State) (p : Pool) : Nat :=
  ((s.frames.filter fun kv => kv.2.pool == some p).map fun kv => kv.2.chargeNow).sum

/-- The reserve pool: RESERVE of the class for each egress queue of every existing port (R288). -/
def State.reservePool (s : State) : Nat :=
  s.allPorts.length *
    ((List.range 16).map fun k => s.cFld (.SWC_CLASS_CFG k) F.SWC_CLASS_CFG_RESERVE).sum

def totalCells : Nat := 1572864

/-- The headroom pool (R288). -/
def State.headroomPool (s : State) : Nat := s.fld .SWC_BUF_CFG F.SWC_BUF_CFG_HR_POOL * 1024

/-- The shared pool (R288). -/
def State.sharedPool (s : State) : Nat := totalCells - s.headroomPool - s.reservePool

/-- Shared cells in use, further cells of long time-class frames among them (R289). -/
def State.sharedUsed (s : State) : Nat := s.poolUsed .shared + (s.frames.map fun kv => kv.2.extraNow).sum

/-- Free shared cells (R316); a pool over its size has none. -/
def State.sharedFree (s : State) : Nat := s.sharedPool - s.sharedUsed

/-- Headroom cells held by port `p` and priority `i` (R288). -/
def State.headroomHeld (s : State) (p i : Nat) : Nat :=
  ((s.frames.filter fun kv => kv.2.pool == some .headroom && kv.2.port == p && !kv.2.fromHost &&
    s.prioOf kv.2.sel kv.2.cls == i).map fun kv => kv.2.chargeNow).sum

/-! ## Spill (R294, R295) -/

/-- Stacks in service as spill sees them: SWC_SPILL_STATUS.STACKS. -/
def State.spillStacks (s : State) : Nat := s.fld .SWC_SPILL_STATUS F.SWC_SPILL_STATUS_STACKS

/-- The stack that slice `sl` spills to (R294). -/
def State.spillStack (s : State) (sl : Nat) : Option Nat :=
  ((List.range 4).map fun k => (sl / 2 + k) % 4).find? (s.spillStacks).testBit

/-- The stack carries a tier-2 copy (R245). -/
def State.stackHasCopy (s : State) (h : Nat) : Bool :=
  let has (o : Option (Nat × Nat)) : Bool := match o with | some (a, b) => a == h || b == h | none => false
  has s.fwd.stacks0 || has s.fwd.stacks1

/-- Cells of a stack's spill region (R294). -/
def State.spillRegion (s : State) (h : Nat) : Nat := if s.stackHasCopy h then 85361392 else 93750000

/-- The spill stack of a frame, when its cells are charged to spill: bits [30:29] of its cell addresses (R282). -/
def State.stackOf (s : State) (id : Nat) : Option Nat :=
  (s.repsOf id).findSome? fun kv => match kv.2.spill with
    | .inSpill h => some h
    | .lost h => some h
    | .onDie => none

/-- Cells a stack holds in spill; lost ones are held no more (R297). -/
def State.spillUsed (s : State) (h : Nat) : Nat :=
  ((s.frames.filter fun kv => kv.2.pool == some .spill &&
    (s.repsOf kv.1).any fun x => x.2.spill == SpillSt.inSpill h).map fun kv => kv.2.chargeNow).sum

/-! ## Pause and PFC (R181 to R185) -/

def State.portSt (s : State) (p : Nat) : PortSt := sgetD s.ports p ⟨0, 0, [], 0, false⟩
def State.putPortSt (s : State) (p : Nat) (x : PortSt) : State :=
  { s with ports := sput ⟨0, 0, [], 0, false⟩ s.ports p x }

/-- OCC[p][i] (R183): cells of frames admitted at port `p` whose class maps to priority `i`, from enqueue on. -/
def State.pauseOcc (s : State) (p i : Nat) : Nat :=
  ((s.frames.filter fun kv => kv.2.port == p && !kv.2.fromHost && !kv.2.engine && kv.2.stage == Stage.queued &&
    s.prioOf kv.2.sel kv.2.cls == i).map fun kv => kv.2.held).sum

/-- XOFF or XON of the port for the bits of `m` falls due. -/
def State.pauseDue (s : State) (p m : Nat) (xoff : Bool) : State :=
  let x := s.portSt p
  s.putPortSt p (if xoff then { x with dueXoff := x.dueXoff ||| m, dueXon := x.dueXon &&& (255 - m) }
                 else { x with dueXon := x.dueXon ||| m, dueXoff := x.dueXoff &&& (255 - m) })

/-- One watermark test of R183 on bit `i` with occupancy `occ`. -/
def State.pauseTest (s : State) (p i occ : Nat) : State :=
  let st := s.fld (.PRT_PFC_STATUS p) F.PRT_PFC_STATUS_TX_XOFF
  if st.testBit i then
    if occ ≤ s.fld (.PRT_PFC_WM p) F.PRT_PFC_WM_XON then
      (s.setFld (.PRT_PFC_STATUS p) F.PRT_PFC_STATUS_TX_XOFF (clrBit st i)).pauseDue p (2 ^ i) false
    else s
  else if s.fld (.PRT_PFC_WM p) F.PRT_PFC_WM_XOFF ≤ occ then
    (s.setFld (.PRT_PFC_STATUS p) F.PRT_PFC_STATUS_TX_XOFF (setBit st i)).pauseDue p (2 ^ i) true
  else s

/-- R183 evaluated for port `p`: XOFF entered or left. A port that is not UP keeps no XOFF state (R185). -/
def State.pauseEval (s : State) (p : Nat) : State :=
  if !s.portIsUp p then s
  else match s.fcMode s.curSel p with
    | 1 => s.pauseTest p 0 ((List.range 8).map (s.pauseOcc p)).sum
    | 2 => (List.range 8).foldl (fun s i =>
        if (s.pfcEn s.curSel p).testBit i then s.pauseTest p i (s.pauseOcc p i) else s) s
    | _ => s

/-- A pause or PFC frame of port `p` is due: it begins directly after the frame in transmission (R183). -/
def State.pauseWaits (s : State) (p : Nat) : Bool :=
  !(s.portSt p).olds.isEmpty || (s.fcMode s.curSel p != 0 && (s.portSt p).dueXoff ||| (s.portSt p).dueXon != 0)

/-- Queue `q` is paused by the partner (R184). -/
def State.queuePaused (s : State) (q : Nat) : Bool :=
  (s.fld (.PRT_PFC_STATUS (portOf q)) F.PRT_PFC_STATUS_RX_PAUSED).testBit (s.prioOf s.curSel (classOf q))

/-! ## Epochs (R105, R106, R215, R258) -/

/-- Packets in flight with a selector (R105). -/
def State.inFlight (s : State) (e : Nat) : Nat :=
  (s.frames.filter fun kv => kv.2.sel == e && kv.2.stage != Stage.dropped).length

/-- The retired epoch ends: the free selector sees what the current one sees, everywhere. -/
def State.endEpoch (s : State) : State :=
  let c := s.curSel
  let r := 1 - c
  let s := s.setFld .STW_EPOCH_STATUS F.STW_EPOCH_STATUS_RETIRED_LIVE 0
  let s := if c = 0 then { s with st1 := s.st0 } else { s with st0 := s.st1 }
  let s := (s.rowsMerge r c).fwdMerge s.fwd.touched r c
  { s with fwd := { s.fwd with touched := [] } }

/-- EPOCH_END: the retired epoch ends once its selector has no packet in flight. -/
def State.checkEpoch (s : State) : State :=
  if s.fld .STW_EPOCH_STATUS F.STW_EPOCH_STATUS_RETIRED_LIVE = 1 ∧ s.inFlight (1 - s.curSel) = 0 then s.endEpoch else s

/-! ## Queues (R285, R286, R301, R345) -/

def State.setPark (s : State) (p v : Nat) : State := s.setFld (.PRT_PORT_STATUS p) F.PRT_PORT_STATUS_PARK v

/-- PARK of a port (R195): 0 not parked, 1 in window, 2 flushed, 3 age check running. -/
def State.park (s : State) (p : Nat) : Nat := s.fld (.PRT_PORT_STATUS p) F.PRT_PORT_STATUS_PARK

def allOpen : Gate := ⟨none, 0, 0, 0, 65535, none, []⟩
def State.gate (s : State) (p : Nat) : Gate := sgetD s.tim.gates p allOpen
def State.putGate (s : State) (p : Nat) (g : Gate) : State := { s with tim := { s.tim with gates := sput allOpen s.tim.gates p g } }

/-- The gate of queue `q` is open (R345). -/
def State.gateOpen (s : State) (q : Nat) : Bool := (s.gate (portOf q)).mask.testBit (classOf q)

/-- The replica that port `e` is transmitting. -/
def State.transmitting (s : State) (e : Nat) : Option Nat :=
  (s.reps.find? fun kv => portOf kv.2.q == e && kv.2.tx.isSome).map Prod.fst

/-- Cells of a replica to cross: the whole frame once it is whole. -/
def Frame.total (f : Frame) : Option Nat := if f.whole then some f.ncells else none

/-- A replica whose last cell has crossed. -/
def State.allCrossed (s : State) (r : Replica) : Bool :=
  match s.frame r.frame with
  | some f => f.total == some r.crossed
  | none => false

/-- The replica that is crossing to port `e`: started, last cell not yet crossed. -/
def State.crossing (s : State) (e : Nat) : Option Nat :=
  (s.reps.find? fun kv => portOf kv.2.q == e && decide (0 < kv.2.crossed) && !s.allCrossed kv.2).map Prod.fst

/-- The head of each VOQ: the first replica whose last cell has not crossed (R285). -/
def State.voqHeads (s : State) : List (Nat × Replica) :=
  let rs := s.reps.filter fun kv => !s.allCrossed kv.2
  rs.filter fun (kv : Nat × Replica) =>
    !(rs.any fun (x : Nat × Replica) => decide (x.1 < kv.1) && x.2.q == kv.2.q && x.2.g == kv.2.g)

/-- Ready for dequeue (R176, R177). -/
def State.readyRep (s : State) (r : Replica) : Bool :=
  match s.frame r.frame with
  | some f => f.whole || (r.ct && decide (2 ≤ f.written))
  | none => false

/-- The queue may start frames: port UP and unparked, its block accepting tokens, no pause, gate open (R52, R184, R187, R286,
R345). -/
def State.queueMayStart (s : State) (q : Nat) : Bool :=
  s.portIsUp (portOf q) && !s.rstSet 3 (portOf q / 128) (portOf q / 8 % 16) && s.park (portOf q) != 1 && s.park (portOf q) != 2 && !s.queuePaused q && s.gateOpen q

/-- Eligible, for the head of a VOQ (R286). -/
def State.eligible (s : State) (r : Replica) : Bool :=
  s.readyRep r && !r.inSpillNow && s.queueMayStart r.q

/-- The frame's age exceeds its class's LAT_TARGET (R301). -/
def State.repLate (s : State) (r : Replica) : Bool :=
  let t := s.classFld s.curSel (classOf r.q) F.SWC_CLASS_CFG_LAT_TARGET
  t != 0 && (match s.frame r.frame with | some f => decide (t * 1000 < s.age f.admitT) | none => false)

/-- Yields that a frame makes once (R311): rung 2 as a time-class frame becomes eligible, rung 6 as a LATE head waits for
refill. -/
def State.frameYields (s : State) : State :=
  s.voqHeads.foldl (fun (s : State) (kv : Nat × Replica) =>
    if kv.2.yielded then s
    else if s.timeClass s.curSel (classOf kv.2.q) && s.eligible kv.2 then
      let e := portOf kv.2.q
      let busy := (match s.transmitting e with | some k => k != kv.1 | none => false) ||
        (match s.crossing e with | some k => k != kv.1 | none => false)
      let s := s.putRep kv.1 { kv.2 with yielded := true }
      if busy then s.count (C.ladderYield 2) else s
    else if kv.2.inSpillNow && s.repLate kv.2 then
      (s.putRep kv.1 { kv.2 with yielded := true }).count (C.ladderYield 6)
    else s) s

/-! ## References (R299) -/

/-- A transmit frame whose every replica has left: its completion is ready (R468). -/
def State.txDone (s : State) (id : Nat) : State :=
  { s with rings := s.rings.map fun kv =>
      (kv.1, { kv.2 with items := kv.2.items.map fun t =>
        if t.frame == some id then { t with ready := true, frame := none } else t }) }

/-- The device is done with a frame that has no reference left: cells freed, XON and the end of its epoch examined. A
transmit frame discarded before its queues was admitted all the same (R467, R468). A frame still in reception stays, marked as dropped, until it ends. -/
def State.frameGone (s : State) (id : Nat) : State :=
  match s.frame id with
  | none => s
  | some f =>
    let s := s.txDone id
    let s := if f.fromHost && f.stage != Stage.queued then s.count (C.txFrames f.port) else s
    let s := if f.ended then { s with frames := serase s.frames id }
             else s.putFrame id { f with stage := .dropped, pool := none, charge := 0, extra := 0, left := 0, cells := [] }
    let s := if f.fromHost then s else s.pauseEval f.port
    s.checkEpoch

/-- A frame enters no queue and no delivery queue: it is gone unless some reference holds it. -/
def State.checkGone (s : State) (id : Nat) : State := if s.refs id = 0 then s.frameGone id else s

/-- A replica leaves the device by any route (R299). Frames that wait behind it for its port are examined first (R311). Without its last
replica a transmit frame's completion is ready, whatever host copies of it still wait (R468). -/
def State.release (s : State) (k : Nat) : State :=
  match s.rep k with
  | none => s
  | some r =>
    let s := if r.tx.isSome || 0 < r.crossed then s.frameYields else s
    let s := { s with reps := serase s.reps k }
    let s := if (s.frame r.frame).any Frame.fromHost && (s.repsOf r.frame).isEmpty then s.txDone r.frame else s
    s.checkGone r.frame

/-- The frame is discarded at a point before its queues. -/
def State.dropFrame (s : State) (id : Nat) : State := s.checkGone id

/-- The per-port discard counter of a frame, or HST_TX_DROPS for a host frame (R469). -/
def State.countDrop (s : State) (f : Frame) (c : Nat → Nat) : State :=
  s.count (if f.fromHost then C.txDrops f.port else c f.port)

/-! ## Stomping and flushing -/

/-- Stomp the replica in transmission (R178): the bytes it has put on the wire, then the complemented FCS; the replica leaves. The
model's choices: the bytes sent are whole cells of 256, and a frame that a squelch cuts is recorded with its stomped FCS (log 152). -/
def State.stompRep (s : State) (k : Nat) : State :=
  match s.rep k with
  | none => s
  | some r =>
    let sent := match s.frame r.frame with
      | some f => (s.wireBytes f r (r.tx.getD 0)).take (256 * r.drained)
      | none => []
    (((s.emit (.frame (portOf r.q) (sent ++ stompFcs sent) true)).count (C.prtTxStomped (portOf r.q)))).release k

/-- Every frame in the queues of port `p` is discarded (R190, R168), the one in transmission apart. -/
def State.flushPort (s : State) (p : Nat) : State :=
  let ks := (s.reps.filter fun kv => portOf kv.2.q == p && kv.2.tx.isNone).map Prod.fst
  let s := ks.foldl (fun s k => (s.count (C.flushed p)).release k) s
  if s.fld .FWD_LEARN_CFG F.FWD_LEARN_CFG_DOWN_FLUSH = 1 then s.flushAdd p else s

/-- Frames found bad (R179): each replica is stomped if it is being sent, else discarded. -/
def State.killReplicas (s : State) (id : Nat) : State :=
  (s.repsOf id).foldl (fun s kv => if kv.2.tx.isSome then s.stompRep kv.1 else s.release kv.1) s

end Sys2Proof.Machine
end

