-- ==== Sys2Proof/Machine/Ports.lean ====
section
/-! DEFINITION. Port states, reception and pause (R167 to R202): the commands of "Port Blocks, PCS and MAC". -/
namespace Sys2Proof.Machine

/-- What a machine answers when it takes a command in. -/
abbrev Answer := Host.Outcome State Fault Refusal

/-! ## Learning requests (R259, R260) -/

/-- A learning request joins its queue, merged with one of the same key (the later port is kept); a full queue skips it. -/
def State.queueLearn (s : State) (key port : Nat) : State :=
  if s.fwd.learnQ.any fun x => x.1 == key then
    { s with fwd := { s.fwd with learnQ := s.fwd.learnQ.map fun x => if x.1 = key then (key, port) else x } }
  else if 4096 ≤ s.fwd.learnQ.length then s.count C.learnSkipped
  else { s with fwd := { s.fwd with learnQ := s.fwd.learnQ ++ [(key, port)] } }

/-- A frame that has been looked up for learning and has ended good asks to be learned from, once. -/
def State.tryLearn (s : State) (id : Nat) : State :=
  match s.frame id with
  | some f =>
    match f.learnKey with
    | some k => if f.ended && !f.bad then (s.putFrame id { f with learnKey := none }).queueLearn k f.port else s
    | none => s
  | none => s

/-! ## Port states (R172, R173, R187 to R191) -/

def State.setPortState (s : State) (p v : Nat) : State :=
  s.setFld (.PRT_PORT_STATUS p) F.PRT_PORT_STATUS_STATE v

def State.laneState (s : State) (n : Nat) : Nat := s.fld (.LNE_LANE_STATUS n) F.LNE_LANE_STATUS_STATE

/-- Lanes-up (R143): every lane of the port is UP. -/
def State.lanesUp (s : State) (p : Nat) : Bool := (s.lanesOf p).all fun n => s.laneState n == 6

/-- PARK_START (R187): the queues park under the settings of this down instant (R199), or are flushed with WINDOW = 0. -/
def State.parkStart (s : State) (p : Nat) : State :=
  let s := s.putPortSt p { s.portSt p with stale := s.fld .PRT_PARK_CFG F.PRT_PARK_CFG_STALE }
  if s.fld .PRT_PARK_CFG F.PRT_PARK_CFG_WINDOW = 0 then (s.flushPort p).setPark p 2 else s.setPark p 1

/-- The frame in transmission at a port is stomped (R180). -/
def State.stompPort (s : State) (p : Nat) : State :=
  match s.transmitting p with
  | some k => s.stompRep k
  | none => s

/-- Pause received, and XOFF held, by a port that goes DOWN end (R185). -/
def State.clearPause (s : State) (p : Nat) : State :=
  (s.put (.PRT_PFC_STATUS p) 0#32).putPortSt p ⟨0, 0, [], 0, false⟩

/-- Frames in reception at a port that goes down end in error (R180). -/
def State.failReception (s : State) (p : Nat) : State :=
  { s with frames := s.frames.map fun kv =>
      if kv.2.port = p ∧ !kv.2.fromHost ∧ !kv.2.engine ∧ !kv.2.ended then (kv.1, { kv.2 with errBlock := true }) else kv }

/-- An UP port goes DOWN (R172). -/
def State.downPort (s : State) (p : Nat) : State :=
  let s := ((s.frameYields.setPortState p 1).stompPort p).failReception p
  let s := s.clearPause p
  let s := (s.setFld (.PRT_PORT_STATUS p) F.PRT_PORT_STATUS_DOWN_SEEN 1).count (C.portDown p)
  s.parkStart p

/-- The faults seen at this instant (R195; log 134: between the rows that bring them the bits stand). -/
def State.seeFaults (s : State) (p : Nat) (localF remoteF : Bool) : State :=
  (s.setFld (.PRT_PORT_STATUS p) F.PRT_PORT_STATUS_LOCAL_FAULT (if localF then 1 else 0)).setFld (.PRT_PORT_STATUS p)
    F.PRT_PORT_STATUS_REMOTE_FAULT (if remoteF then 1 else 0)

def State.setAligned (s : State) (p : Nat) (b : Bool) : State := s.putPortSt p { s.portSt p with aligned := b }

/-- Lanes-up is lost for port `p`, a local fault: UP goes DOWN with R172's actions, ALIGNING goes DOWN. -/
def State.lanesLost (s : State) (p : Nat) : State :=
  if s.portState p = 3 then (s.seeFaults p true false).downPort p
  else if s.portState p = 2 then ((s.setPortState p 1).seeFaults p true false).setAligned p false
  else s

/-- Age, in ns, above which a frame for port `p` is stale: STALE as of the latest down instant (R189, R199). -/
def State.staleNs (s : State) (p : Nat) : Nat := (s.portSt p).stale * 1000

/-- The heads of the VOQs of port `p` that no transmission has begun of. A frame that stands whole in the transmit buffer at the
down instant has left its VOQ: it is kept for the return, flushed with the queues at expiry, and never checked for age (log
130). -/
def State.headsOf (s : State) (p : Nat) : List (Nat × Replica) :=
  s.voqHeads.filter fun (kv : Nat × Replica) => portOf kv.2.q == p && kv.2.tx.isNone

/-- A replica's frame is older than the stale limit. -/
def State.isStale (s : State) (r : Replica) : Bool :=
  match s.frame r.frame with
  | some f => decide (s.staleNs (portOf r.q) < s.age f.admitT)
  | none => false

/-- STALE_DISCARD (R189): each frame is checked once, as it reaches the head: a stale one is discarded, another is sent whenever its
turn comes. The check ends when every frame held at the return instant has left its queue. -/
def State.staleCheck (s : State) (p : Nat) : Nat → State
  | 0 => s
  | n + 1 =>
    match (s.headsOf p).find? (fun (kv : Nat × Replica) => kv.2.ageChk && !kv.2.aged) with
    | some kv =>
      if s.isStale kv.2 then ((s.count (C.stale p)).release kv.1).staleCheck p n
      else (s.putRep kv.1 { kv.2 with aged := true }).staleCheck p n
    | none =>
      if s.reps.any fun (kv : Nat × Replica) => portOf kv.2.q == p && kv.2.ageChk && !s.allCrossed kv.2 then s else s.setPark p 0

/-- The age check of a port, while it runs. -/
def State.ageCheck (s : State) (p : Nat) : State :=
  if s.park p = 3 then s.staleCheck p (s.reps.length + 1) else s

/-- What a port's transmitter sends where it sends no frame (R172, R173). -/
inductive LineFill where | silence | idles | remoteFault
  deriving DecidableEq, Repr

/-- Remote fault ordered sets while the port is not aligned or sees a local fault; idles once it is, and in answer to a remote fault,
as the Reconciliation Sublayer of IEEE 802.3 has it (R173; log 136). In scan hold the pins are the boundary register's (R537). -/
def State.lineFill (s : State) (p : Nat) : LineFill :=
  if !s.isPort p || s.portState p = 0 || s.boot.scanHold then .silence
  else if !(s.portSt p).aligned || s.fld (.PRT_PORT_STATUS p) F.PRT_PORT_STATUS_LOCAL_FAULT = 1 then .remoteFault
  else .idles

/-- A port enters UP (R172, R185, R189, R190). -/
def State.upPort (s : State) (p : Nat) : State :=
  let s := ((s.setPortState p 3).seeFaults p false false).setAligned p true
  let s :=
    if s.park p = 1 then
      (({ s with reps := s.reps.map fun (kv : Nat × Replica) =>
          if portOf kv.2.q = p then (kv.1, { kv.2 with ageChk := true, aged := false }) else kv }).setPark p 3).ageCheck p
    else s.setPark p 0
  s.pauseEval p

/-- PORT_LANES_UP: DOWN to ALIGNING, with the faults now seen. In ALIGNING it brings the faults now seen alone: a port that sees no
local fault is aligned (log 134). -/
def execPortLanesUp (p : Nat) (s : State) (localF remoteF : Bool := false) : Answer :=
  .next (
    if s.isPort p ∧ s.portState p = 1 ∧ s.lanesUp p then ((s.setPortState p 2).seeFaults p localF remoteF).setAligned p false
    else if s.isPort p ∧ s.portState p = 2 then (s.seeFaults p localF remoteF).setAligned p (!localF)
    else s)

/-- PORT_UP: ALIGNING to UP, after 10 µs aligned without a fault; skew above 180 ns prevents alignment (R170). -/
def execPortUp (p : Nat) (s : State) (skew : Nat := 0) : Answer :=
  .next (if s.isPort p ∧ s.portState p = 2 ∧ s.lanesUp p ∧ skew ≤ 180000 then s.upPort p else s)

/-- PORT_ALIGN_FAIL: ALIGNING to DOWN, and to ALIGNING again at once while lanes-up holds (R170, R172). -/
def execPortAlignFail (p : Nat) (s : State) (localF remoteF : Bool := false) : Answer :=
  .next (if s.isPort p ∧ s.portState p = 2 then
      (((s.setPortState p (if s.lanesUp p then 2 else 1)).seeFaults p localF remoteF).setAligned p false).count (C.alignFail p)
    else s)

/-- What goes wrong at a port is shown (R195): a remote fault is received by an aligned port, and anything else is a local one. -/
def State.seeCause (s : State) (p : Nat) (cause : DownCause) : State :=
  s.seeFaults p (cause != .remoteFault) (cause == .remoteFault)

/-- PORT_DOWN (R172, R173): an UP port goes DOWN; in DOWN and ALIGNING the fault is shown alone (log 134). -/
def execPortDown (p : Nat) (cause : DownCause) (s : State) : Answer :=
  .next (
    if !s.isPort p || s.portState p = 0 then s
    else if s.portState p = 3 then ((s.seeCause p cause).downPort p).setAligned p (cause == .remoteFault)
    else (s.seeCause p cause).setAligned p (cause == .remoteFault))

/-- PARK_WINDOW_EXPIRES (R190). -/
def execParkWindowExpires (p : Nat) (s : State) : Answer :=
  .next (if s.isPort p ∧ s.park p = 1 ∧ s.portState p ≠ 3 then (s.flushPort p).setPark p 2 else s)

/-! ## Reception (R174, R175, R181, R186) -/

/-- A port's address (R182): the fused MAC address base plus 1 + p. -/
def State.macBase (s : State) : Nat := (s.get .STW_ID_MAC_H).toNat % 2 ^ 16 * 2 ^ 32 + (s.get .STW_ID_MAC_L).toNat
def State.portMac (s : State) (p : Nat) : Nat := (s.macBase + 1 + p) % 2 ^ 48

/-- The FCS that a frame carries, and the bytes it covers (R175). -/
def fcsGood (bs : List Byte) : Bool := decide (4 ≤ bs.length) && bs.drop (bs.length - 4) == fcsOf (bs.take (bs.length - 4))
def fcsStomped (bs : List Byte) : Bool :=
  decide (4 ≤ bs.length) && bs.drop (bs.length - 4) == stompFcs (bs.take (bs.length - 4))

/-- A pause or PFC frame for the port (R181): a MAC control frame to the pause address or the port's own, opcode 0x0001 or
0x0101. -/
def State.isPause (s : State) (p : Nat) (bs : List Byte) : Bool :=
  beAt bs 12 2 == 0x8808 && (beAt bs 0 6 == 0x0180C2000001 || beAt bs 0 6 == s.portMac p) &&
  (beAt bs 14 2 == 1 || beAt bs 14 2 == 0x101)

/-- A frame record at admission; every later field is as yet undecided. -/
def newFrame (port lane ts sel admitT : Nat) (bytes : List Byte) : Frame :=
  { port := port, fromHost := false, engine := false, lane := lane, ts := ts, pipe := 0, sel := sel, admitT := admitT, bytes := bytes,
    errBlock := false, errCtl := false, ended := false, bad := false, parse := none, act := none, pass2 := false,
    dpiHit := false, dpiTag := 0, scanned := false, scanOld := none, stage := .admitted, lkSeq := 0, route := none, copyRing := none,
    cls := 0, vid := none, learnKey := none, pool := none, charge := 0, extra := 0, written := 0, whole := false,
    cells := [], left := 0, badWords := [], badLink := none, gone := [] }

/-- The time that the copy on lane `n`'s chiplet shows at an instant of Saffron time, in 2^-16 ns (R37, R328; log 132). -/
def State.chipTime (s : State) (n ball : Nat) : Nat :=
  match sfind s.tim.copies (n / 128) with
  | some x => (((ball : Int) + x.off) % 2 ^ 64).toNat
  | none => ball

/-- The ingress timestamp of port `p` on lane `n` (R326): event time at the balls less RX_LAT (2^-12 ns). -/
def State.ingressTs (s : State) (p n ball : Nat) : Nat :=
  (s.chipTime n ball + 2 ^ 64 - 16 * s.cFld (.TIM_PORT_LAT p) F.TIM_PORT_LAT_RX_LAT) % 2 ^ 64

/-- The pipeline to which port group `g` deals its next frame, and the group's turn after it (R203, R432). -/
def State.dealTo (s : State) (g : Nat) : Nat × State :=
  let k := sgetD s.deal g 0
  ((s.unitAt 0 (g / 8) (4 * g + k)).getD (g / 8 * 33 + 4 * (g % 8) + k), { s with deal := sput 0 s.deal g ((k + 1) % 4) })

/-- FRAME_START_RX: admission or refusal at the first block (R22, R174), timestamp and epoch selector (R33, R186), and the parse
pipeline (R203). -/
def execFrameStartRx (r : RxFrame) (s : State) : Answer :=
  .next (
    if !s.running || !s.portIsUp r.port || r.lane < r.port || r.port + s.blkLanes (r.port / 8) ≤ r.lane then s
    else if s.frames.any fun kv => kv.2.port == r.port && !kv.2.fromHost && !kv.2.engine && !kv.2.ended then s
    else if !r.room || s.rstSet 3 (r.port / 128) (r.port / 8 % 16) then s.count (C.prtRxFifoDrops r.port)
    else
      let f := newFrame r.port r.lane (s.ingressTs r.port r.lane r.ball) s.curSel s.admitNow
        (r.bytes.take (s.maxFrame s.curSel r.port + 1))
      let d := s.dealTo (groupOf r.port)
      { d.2 with frames := sinsert s.frames s.nextFrame { f with errBlock := r.errBlock, errCtl := r.errCtl, pipe := d.1 },
                 nextFrame := s.nextFrame + 1 })

/-- The received pause times act on RX_PAUSED (R184): PFC per enabled priority, pause for all queues. -/
def State.obeyPause (s : State) (p : Nat) (bs : List Byte) : State :=
  let old := s.fld (.PRT_PFC_STATUS p) F.PRT_PFC_STATUS_RX_PAUSED
  let mode := s.fcMode s.curSel p
  if beAt bs 14 2 = 1 then
    if mode = 1 then
      s.setFld (.PRT_PFC_STATUS p) F.PRT_PFC_STATUS_RX_PAUSED (if beAt bs 16 2 = 0 then 0 else 255)
    else s
  else if mode = 2 then
    let v := beAt bs 16 2 &&& s.pfcEn s.curSel p
    s.setFld (.PRT_PFC_STATUS p) F.PRT_PFC_STATUS_RX_PAUSED
      ((List.range 8).foldl (fun m i =>
        if v.testBit i then (if beAt bs (18 + 2 * i) 2 = 0 then clrBit m i else setBit m i) else m) old)
  else s

/-- PAUSE_FRAME_RX: a good pause or PFC frame is consumed, and acted on if its kind matches FC_MODE (R181). -/
def execPauseFrameRx (id : Nat) (s : State) : Answer :=
  .next (
    match s.frame id with
    | none => s
    | some f =>
      if f.ended && !f.bad && !f.fromHost && !f.engine && s.isPause f.port f.bytes then
        ((s.frameYields.count (C.prtRxPause f.port)).obeyPause f.port f.bytes).frameGone id
      else s)

/-- PAUSE_EXPIRES: a received pause time runs out (R184); in pause mode all priorities together. -/
def execPauseExpires (p prio : Nat) (s : State) : Answer :=
  .next (
    let old := s.fld (.PRT_PFC_STATUS p) F.PRT_PFC_STATUS_RX_PAUSED
    if !s.isPort p || !old.testBit prio || 8 ≤ prio then s
    else s.setFld (.PRT_PFC_STATUS p) F.PRT_PFC_STATUS_RX_PAUSED
      (if s.fcMode s.curSel p = 1 then 0 else clrBit old prio))

/-! ## Sending pause and PFC (R183) -/

/-- PAUSE_REPEAT_DUE: QUANTA div 2 quanta have passed while XOFF holds. -/
def execPauseRepeatDue (p prio : Nat) (s : State) : Answer :=
  .next (if s.isPort p && decide (prio < 8) && (s.fld (.PRT_PFC_STATUS p) F.PRT_PFC_STATUS_TX_XOFF).testBit prio then
      s.pauseDue p (2 ^ prio) true
    else s)

/-- A whole MAC frame: padded with zero bytes to 60 bytes, and the FCS. -/
def sealFrame (bs : List Byte) : List Byte :=
  let b := bs ++ List.replicate (60 - bs.length) 0#8
  b ++ fcsOf b

/-- A pause (mode 1) or PFC (mode 2) frame from an address: the priorities it carries and each one's time. -/
def pauseBytes (src mode vec : Nat) (time : Nat → Nat) : List Byte :=
  sealFrame (beBytes 6 0x0180C2000001 ++ beBytes 6 src ++ beBytes 2 0x8808 ++
    (if mode = 1 then beBytes 2 1 ++ beBytes 2 (time 0)
     else beBytes 2 0x101 ++ beBytes 2 vec ++
       (List.range 8).flatMap fun i => beBytes 2 (if vec.testBit i then time i else 0)))

/-- PAUSE_FRAME_TX: the due frame is sent when the transmitter is idle; one PFC frame carries every due priority,
also those that fell due more than 100 ns apart (log 152). Frames of
an old kind after a commit go first (R183, R196). With QUANTA div 2 = 0 an XOFF frame falls due again at once. -/
def execPauseFrameTx (p : Nat) (s : State) : Answer :=
  .next (
    let x := s.portSt p
    let quanta := s.cFld (.PRT_FC_CFG p) F.PRT_FC_CFG_QUANTA
    let mode := s.fcMode s.curSel p
    if !s.portIsUp p || (s.transmitting p).isSome then s
    else match x.olds with
      | (m, v) :: rest =>
        (s.emit (.pause p (pauseBytes (s.portMac p) m v fun _ => 0))).putPortSt p { x with olds := rest }
      | [] =>
        if mode = 0 ∨ x.dueXoff ||| x.dueXon = 0 then s
        else
          let s := s.emit (.pause p (pauseBytes (s.portMac p) mode (x.dueXoff ||| x.dueXon) fun i =>
            if x.dueXoff.testBit i then quanta else 0))
          s.putPortSt p { x with
            dueXoff := if quanta / 2 = 0 then s.fld (.PRT_PFC_STATUS p) F.PRT_PFC_STATUS_TX_XOFF else 0
            dueXon := 0 })

/-- FEC_CODEWORD_ERROR (R169, R171): a codeword that could not be corrected makes error blocks of the frame it carries. -/
def execFecCodewordError (p : Nat) (corrected : Bool) (s : State) : Answer :=
  .next (
    if !s.isPort p then s
    else if corrected then s.count (C.fecCorrected p)
    else (s.count (C.fecUncorrectable p)).failReception p)

end Sys2Proof.Machine
end

