-- ==== Sys2Proof/Machine/Lanes.lean ====
section
/-! DEFINITION. Lane-group loops, lanes, Anise, sleep, test patterns and Wornan links (R118 to R166). -/
namespace Sys2Proof.Machine

def State.grp (s : State) (b : Nat) (f : Fld) : Nat := s.fld (.LNE_GRP_STATUS b) f
def State.setGrp (s : State) (b : Nat) (f : Fld) (v : Nat) : State := s.setFld (.LNE_GRP_STATUS b) f v
/-- STATE of a group loop (R133): 0 OFF, 1 SWEEP, 2 SETTLE, 3 ALIGN, 4 LOCKED, 5 FAILED. -/
def State.grpState (s : State) (b : Nat) : Nat := s.grp b F.LNE_GRP_STATUS_STATE
def State.setGrpState (s : State) (b v : Nat) : State := s.setGrp b F.LNE_GRP_STATUS_STATE v
def State.grpEn (s : State) (b : Nat) : Bool := s.cFld (.LNE_GRP_CFG b) F.LNE_GRP_CFG_EN == 1

def freshLoop : Loop := ⟨[], 0, 0⟩
def State.loop (s : State) (b : Nat) : Loop := sgetD s.lne.loops b freshLoop
def State.putLoop (s : State) (b : Nat) (x : Loop) : State :=
  { s with lne := { s.lne with loops := sput freshLoop s.lne.loops b x } }

def freshLane : LaneSt := ⟨false, false, none, 0, 0, 0⟩
def State.lane (s : State) (n : Nat) : LaneSt := sgetD s.lne.lanes n freshLane
def State.putLane (s : State) (n : Nat) (x : LaneSt) : State :=
  { s with lne := { s.lne with lanes := sput freshLane s.lne.lanes n x } }

def blockLanes (b : Nat) : List Nat := (List.range 8).map (8 * b + ·)

def State.setLaneState (s : State) (n v : Nat) : State := s.setFld (.LNE_LANE_STATUS n) F.LNE_LANE_STATUS_STATE v
def State.laneCfg (s : State) (n : Nat) (f : Fld) : Nat := s.fld (.LNE_LANE_CFG n) f
def State.anisePhase (s : State) (n : Nat) : Nat := s.fld (.LNE_LANE_ANISE n) F.LNE_LANE_ANISE_PHASE

/-- The Wornan link of a chiplet is UP (R158). -/
def State.wornanUp (s : State) (c : Nat) : Bool := s.fld (.LNE_WRN_STATUS c) F.LNE_WRN_STATUS_STATE == 2

def State.degrade (s : State) : State := s.setFld .STW_BOOT_STATUS F.STW_BOOT_STATUS_DEGRADED 1

/-! ## Lane transitions (R142, R143, R148) -/

/-- A lane enters a state. Leaving UP ends lanes-up, the port's phase samples and the Anise cycle (R143, R146, R332); leaving
TEST ends PRBS lock. -/
def State.goLane (s : State) (n v : Nat) : State :=
  let old := s.laneState n
  let s := s.setLaneState n v
  let s := if v = 6 then s else s.setFld (.LNE_LANE_STATUS n) F.LNE_LANE_STATUS_CW_LOCK 0
  let s := if old = 8 ∧ v ≠ 8 then s.setFld (.LNE_LANE_STATUS n) F.LNE_LANE_STATUS_PRBS_LOCK 0 else s
  if old = 6 ∧ v ≠ 6 then
    let p := s.portOfLane n
    let s := if n = p then s.setFld (.TIM_PORT_STATUS p) F.TIM_PORT_STATUS_PH_VALID 0 else s
    (s.setFld (.LNE_LANE_ANISE n) F.LNE_LANE_ANISE_PHASE 0).lanesLost p
  else s

/-- SIGNAL as a lane's row tells of its receive envelope (R141). Between such rows a signal that comes is seen when the register is
read (`State.rawWord`, log 48). -/
def State.signalIs (s : State) (n : Nat) (env : Bool) : State :=
  s.setFld (.LNE_LANE_STATUS n) F.LNE_LANE_STATUS_SIGNAL (if env then 1 else 0)

/-- With TRAIN_EN = 0 the transmitter uses the taps of LNE_LANE_TXFFE_SET (R119, R162). Log 129: with TRAIN_EN = 1 it keeps the taps
of the latest training, zero before one. -/
def State.loadTaps (s : State) (n : Nat) : State :=
  if s.laneCfg n F.LNE_LANE_CFG_TRAIN_EN = 0 then s.put (.LNE_LANE_TXFFE n) (s.get (.LNE_LANE_TXFFE_SET n)) else s

/-- The device asks its partner for something in training; at most one request is outstanding (R138). -/
def State.ask (s : State) (n : Nat) (req : CoeffReq) (repeats : Nat) : State :=
  (s.putLane n { s.lane n with asked := some (req, repeats) }).emit (.coeffReq n req)

/-- A training attempt starts, from preset 1, with a request for precoding where PRECODE = 1 (R137 to R139). -/
def State.enterTrain (s : State) (n : Nat) : State :=
  let s := (s.goLane n 4).count (C.trainAttempts n)
  let s := (s.putLane n { s.lane n with precode := false, asked := none }).put (.LNE_LANE_TXFFE n)
    (F.LNE_LANE_TXFFE_C0.set 0#32 64)
  if s.fld .LNE_TRAIN_CFG F.LNE_TRAIN_CFG_PRECODE = 1 then s.ask n (.precode true) 0 else s

/-- Bring-up (R142). -/
def State.bringUp (s : State) (n : Nat) : State :=
  if s.laneCfg n F.LNE_LANE_CFG_TRAIN_EN = 1 then s.enterTrain n else (s.goLane n 5).loadTaps n

def State.sleepMode (s : State) (p : Nat) : Nat := s.laneCfg p F.LNE_LANE_CFG_SLEEP

/-- All lanes of a port enter SLEEP together (R148). -/
def State.sleepPort (s : State) (p : Nat) : State :=
  (s.lanesOf p).foldl (fun (s : State) n => if s.laneState n = 0 then s else s.goLane n 1) s

/-- With SLEEP = 2 a port sleeps at once from WAIT_GROUP and HOLDOFF, as judged for its first lane. -/
def State.sleepNow (s : State) (p : Nat) : State :=
  if s.sleepMode p = 2 ∧ (s.laneState p = 2 ∨ s.laneState p = 7) then s.sleepPort p else s

/-- The rows of R142 for a lane in WAIT_GROUP. -/
def State.leaveWait (s : State) (n : Nat) : State :=
  let s := s.sleepNow (s.portOfLane n)
  if s.laneState n = 2 ∧ s.grpState (n / 8) = 4 ∧ s.wornanUp (n / 128) then
    if s.laneCfg n F.LNE_LANE_CFG_PATTERN ≠ 0 ∨ s.laneCfg n F.LNE_LANE_CFG_LOOPBACK = 1 then (s.goLane n 8).loadTaps n
    else if (s.lane n).wake then (s.goLane n 3).loadTaps n
    else s.bringUp n
  else s

/-! ## Group loops (R123 to R129) -/

/-- The spiral from a band: it, +1, -1, +2, -2 and so on, codes outside 0 to 255 skipped (R123). -/
def spiral (g : Nat) : List Nat :=
  ((List.range 256).flatMap fun k => if k = 0 then [g] else if k ≤ g then [g + k, g - k] else [g + k]).filter (· < 256)

/-- The next band to check: the first of the spiral that the acquisition has not checked. -/
def State.nextBand (s : State) (b : Nat) : Option Nat :=
  (spiral (s.grp b F.LNE_GRP_STATUS_GOOD_BAND)).find? fun k => !(s.loop b).checked.contains k

/-- A group is FAILED: PLL_NO_LOCK, and a degraded start-up during step 7 (R72, R127). -/
def State.grpFail (s : State) (b : Nat) : State :=
  let s := (s.setGrpState b 5).event Ev.pllNoLock b 0
  if s.bootStep = 7 then s.degrade else s

/-- SWEEP at the next unchecked band, or FAILED when there is none. -/
def State.sweep (s : State) (b : Nat) : State :=
  match s.nextBand b with
  | some k => (s.setGrpState b 1).setGrp b F.LNE_GRP_STATUS_BAND k
  | none => s.grpFail b

/-- A new acquisition (R123, R132). -/
def State.acquire (s : State) (b : Nat) : State :=
  let s := s.putLoop b ⟨[], s.fld (.LNE_GRP_PLL_CFG b) F.LNE_GRP_PLL_CFG_LOCK_WIN,
    s.fld (.LNE_GRP_PLL_CFG b) F.LNE_GRP_PLL_CFG_ATTEMPTS⟩
  (s.setGrp b F.LNE_GRP_STATUS_ATTEMPT 1).sweep b

/-- The group loop's OFF rows (R127), then the lanes in WAIT_GROUP. Loops run from start-up step 7 (R65). -/
def State.settleBlock (s : State) (b : Nat) : State :=
  if s.bootStep < 7 ∨ 0xA < s.bootStep then s
  else
    let s := (blockLanes b).foldl State.leaveWait s
    if !s.grpEn b ∨ (blockLanes b).all (fun n => s.laneState n ≤ 1) then
      (if s.grpState b = 0 then s else s.setGrpState b 0)
    else if s.grpState b = 0 ∧ (blockLanes b).any (fun n => s.laneState n == 2) then s.acquire b
    else s

/-- Lanes go to WAIT_GROUP, DISABLED ones apart. -/
def State.toWait (s : State) (ns : List Nat) : State :=
  ns.foldl (fun (s : State) n => if s.laneState n = 0 ∨ s.laneState n = 2 then s else s.goLane n 2) s

/-- A band passes within 1,000 ppm of 108,800 counts (R123). -/
def bandPasses (count : Nat) : Bool :=
  decide (((count : Int) - 108800).natAbs * 1000000 ≤ 1000 * 108800)

/-- BAND_CHECK_END (R123, R127). -/
def execBandCheckEnd (b count : Nat) (s : State) : Answer :=
  .next (if s.grpState b = 1 then
      let x := s.loop b
      let s := s.putLoop b { x with checked := x.checked ++ [s.grp b F.LNE_GRP_STATUS_BAND] }
      if bandPasses count then s.setGrpState b 2 else s.sweep b
    else s)

/-- LOCK_DECLARED (R124): the phase error stayed within the window in force; the largest magnitude in ps is given. -/
def execLockDeclared (b ps : Nat) (s : State) : Answer :=
  .next (if s.grpState b = 2 ∧ ps ≤ (s.loop b).lockWin then s.setGrpState b 3 else s)

/-- A failed attempt (R127). -/
def State.attemptFail (s : State) (b : Nat) : State :=
  let a := s.grp b F.LNE_GRP_STATUS_ATTEMPT
  if a < (s.loop b).attempts then (s.setGrp b F.LNE_GRP_STATUS_ATTEMPT (a + 1)).sweep b else s.grpFail b

/-- LOCK_ATTEMPT_FAIL (R124). -/
def execLockAttemptFail (b : Nat) (s : State) : Answer := .next (if s.grpState b = 2 then s.attemptFail b else s)

/-- ALIGN_TIMEOUT (R125). -/
def execAlignTimeout (b : Nat) (s : State) : Answer := .next (if s.grpState b = 3 then s.attemptFail b else s)

/-- ALIGNMENT_DONE (R125, R127, R129). -/
def execAlignmentDone (b : Nat) (s : State) : Answer :=
  .next (if s.grpState b = 3 then
      let s := (s.setGrpState b 4).setGrp b F.LNE_GRP_STATUS_GOOD_BAND (s.grp b F.LNE_GRP_STATUS_BAND)
      (s.eventClear Ev.pllNoLock b).settleBlock b
    else s)

/-- Whether what the loop saw is a loss of lock (R126). -/
def State.lolHolds (s : State) (b : Nat) (c : LolCause) : Bool :=
  match c with
  | .phase ps => decide (s.fld (.LNE_GRP_PLL_CFG b) F.LNE_GRP_PLL_CFG_UNLOCK_WIN < ps)
  | .frequency n => decide (500 * 108800 < ((n : Int) - 108800).natAbs * 1000000)
  | .delayLine => true

/-- LOSS_OF_LOCK (R126, R127, R134). -/
def execLossOfLock (b : Nat) (cause : LolCause) (s : State) : Answer :=
  .next (if s.grpState b = 4 && s.lolHolds b cause then
      let s := s.setGrp b F.LNE_GRP_STATUS_LOL_SEEN 1
      let s := ((s.toWait (blockLanes b)).count (C.grpLol b)).event Ev.pllLoss b 0
      (s.acquire b).settleBlock b
    else s)

/-- PLL_RETRY (R127): 1 s in FAILED, after step 9. -/
def execPllRetry (b : Nat) (s : State) : Answer :=
  .next (if s.grpState b = 5 && s.running then s.acquire b else s)

/-- GROUP_CFG_CHANGE (R131): EN and RATE of a block as they were; the new values are committed. -/
def State.groupCfgChange (s : State) (b : Nat) (wasEn : Bool) (wasRate : Nat) : State :=
  if s.bootStep < 7 ∨ 0xA < s.bootStep then s
  else if !s.grpEn b then
    (if wasEn then ((blockLanes b).foldl (fun (s : State) n => s.goLane n 0) s).settleBlock b else s)
  else if !wasEn then
    ((blockLanes b).foldl (fun (s : State) n => s.goLane n 2) s).settleBlock b
  else if s.cFld (.LNE_GRP_CFG b) F.LNE_GRP_CFG_RATE ≠ wasRate then
    let s := s.toWait (blockLanes b)
    (if s.grpState b = 4 then s.setGrpState b 3 else s).settleBlock b
  else s

/-! ## Training (R136 to R139) -/

/-- The taps of a register word, c(-3) to c(+1). -/
def tapsOf (w : Word) : List Int :=
  [F.LNE_LANE_TXFFE_CM3.sget w, F.LNE_LANE_TXFFE_CM2.sget w, F.LNE_LANE_TXFFE_CM1.sget w, F.LNE_LANE_TXFFE_C0.get w,
   F.LNE_LANE_TXFFE_CP1.sget w]

def tapWord (t : List Int) : Word :=
  let f (x : Fld) (i : Nat) (w : Word) : Word := x.set w ((t.getD i 0) % (2 ^ x.w : Nat)).toNat
  f F.LNE_LANE_TXFFE_CM3 0 <| f F.LNE_LANE_TXFFE_CM2 1 <| f F.LNE_LANE_TXFFE_CM1 2 <| f F.LNE_LANE_TXFFE_C0 3 <|
    f F.LNE_LANE_TXFFE_CP1 4 0#32

def tapListOk (t : List Int) : Bool := tapsOk (t.getD 0 0) (t.getD 1 0) (t.getD 2 0) (t.getD 3 0) (t.getD 4 0)

/-- Presets of R136. -/
def preset (k : Nat) : Option (List Int) :=
  match k with
  | 1 => some [0, 0, 0, 64, 0]
  | 2 => some [0, 0, -8, 56, 0]
  | 3 => some [0, 4, -12, 44, -4]
  | _ => none

/-- COEFF_REQUEST_RX (R137, R138): applied and answered, at limit, or not supported. -/
def execCoeffRequestRx (n : Nat) (req : CoeffReq) (s : State) : Answer :=
  .next (if s.laneState n ≠ 4 then s
    else
      let s := s.signalIs n true
      match req with
      | .step k up =>
        let t := tapsOf (s.get (.LNE_LANE_TXFFE n))
        let t' := t.set k (t.getD k 0 + (if up then 1 else -1))
        if k < 5 && tapListOk t' then (s.put (.LNE_LANE_TXFFE n) (tapWord t')).emit (.coeff n 0) else s.emit (.coeff n 1)
      | .preset k => match preset k with
        | some t => (s.put (.LNE_LANE_TXFFE n) (tapWord t)).emit (.coeff n 0)
        | none => s.emit (.coeff n 2)
      | .precode on => (s.putLane n { s.lane n with precode := on }).emit (.coeff n 0))

/-- HOLDOFF after a failed attempt or a lost lane; a port with SLEEP = 2 sleeps at once (R142). -/
def State.holdOff (s : State) (n : Nat) : State :=
  let s := s.goLane n 7
  (s.sleepNow (s.portOfLane n)).settleBlock (n / 8)

/-- A training attempt fails (R142). -/
def State.trainFail (s : State) (n : Nat) : State :=
  (s.setFld (.LNE_LANE_STATUS n) F.LNE_LANE_STATUS_TRAIN_FAIL 1).holdOff n

/-- The repeats that the outstanding request has had: none where `req` is another, or was sent `anew` after an answer. -/
def LaneSt.repeats (x : LaneSt) (req : CoeffReq) (anew : Bool) : Nat :=
  match x.asked with
  | some (r, k) => if r = req && !anew then k else 0
  | none => 0

/-- The device may ask for it: precoding only with PRECODE = 1 (R138). -/
def State.mayAsk (s : State) (req : CoeffReq) : Bool :=
  match req with
  | .precode _ => s.fld .LNE_TRAIN_CFG F.LNE_TRAIN_CFG_PRECODE == 1
  | _ => true

/-- COEFF_REQUEST_REPEAT (R138): the device's request `req` has stood 5 ms without an answer. It is repeated, and after three
repeats the attempt fails. -/
def execCoeffRequestRepeat (n : Nat) (req : CoeffReq) (s : State) (anew env : Bool := false) : Answer :=
  .next (if s.laneState n ≠ 4 || !s.mayAsk req then s
    else
      let s := s.signalIs n env
      let k := (s.lane n).repeats req anew
      if k < 3 then s.ask n req (k + 1) else s.trainFail n)

/-- TRAIN_SUCCESS (R139). -/
def execTrainSuccess (n : Nat) (s : State) : Answer :=
  .next (if s.laneState n = 4 then (s.goLane n 5).signalIs n true else s)

/-- TRAIN_TIMEOUT (R139). -/
def execTrainTimeout (n : Nat) (s : State) (env : Bool := false) : Answer :=
  .next (if s.laneState n = 4 then (s.trainFail n).signalIs n env else s)

/-- CW_LOCK_GAINED (R140, R142). -/
def execCwLockGained (n : Nat) (s : State) : Answer :=
  .next (if s.laneState n = 5 then
      ((s.goLane n 6).setFld (.LNE_LANE_STATUS n) F.LNE_LANE_STATUS_CW_LOCK 1).signalIs n true
    else s)

/-- CW_LOCK_LOST with signal present (R142). -/
def execCwLockLost (n : Nat) (s : State) : Answer :=
  .next (if s.laneState n = 6 ∧ s.fld (.LNE_LANE_STATUS n) F.LNE_LANE_STATUS_SIGNAL = 1 then
      (s.goLane n 5).count (C.linkDown n)
    else s)

/-- CW_SEARCH_TIMEOUT (R142). -/
def execCwSearchTimeout (n : Nat) (s : State) (env : Bool := false) : Answer :=
  .next (if s.laneState n = 5 then (s.holdOff n).signalIs n env else s)

/-- LOSS_OF_SIGNAL (R141, R142). -/
def execLossOfSignal (n : Nat) (s : State) : Answer :=
  .next (
    let s := s.signalIs n false
    if s.laneState n = 6 then (s.count (C.linkDown n)).holdOff n else s)

/-- HOLDOFF_EXPIRES (R142). -/
def execHoldoffExpires (n : Nat) (s : State) (env : Bool := false) : Answer :=
  .next (if s.laneState n = 7 then (s.signalIs n env).bringUp n else s)

/-! ## Sleep and wake (R148 to R151) -/

/-- LANE_SLEEP_ENTER (R142): SLEEP = 1 and the port has not been up for SLEEP_DELAY. -/
def execLaneSleepEnter (p : Nat) (s : State) : Answer :=
  .next (if s.isPort p && s.sleepMode p == 1 && s.laneState p == 7 && !s.portIsUp p then (s.sleepPort p).settleBlock (p / 8)
    else s)

/-- A port's lanes leave SLEEP together, each counted (R142, R148). -/
def State.wakePort (s : State) (p : Nat) : State :=
  ((s.lanesOf p).foldl (fun (s : State) n =>
    if s.laneState n = 1 then
      ((s.putLane n { s.lane n with wake := true }).goLane n 2).count (C.wakes n)
    else s) s).settleBlock (p / 8)

/-- WAKE_DETECTED on a sleeping lane (R148, R149): with SLEEP = 1 the whole port wakes; with SLEEP = 2 the pattern is ignored, but its
envelope shows in SIGNAL (R141). -/
def execWakeDetected (n : Nat) (s : State) : Answer :=
  .next (
    let p := s.portOfLane n
    if s.laneState n ≠ 1 then s
    else if s.sleepMode p = 1 then (s.signalIs n true).wakePort p
    else s.signalIs n true)

/-- PROBE_DUE (R150). -/
def execProbeDue (p : Nat) (s : State) : Answer :=
  .next (if s.isPort p && s.laneState p == 1 && s.sleepMode p == 1 &&
      s.fld .LNE_TRAIN_CFG F.LNE_TRAIN_CFG_PROBE_PERIOD != 0 then s.wakePort p else s)

/-- WAKE_TONE_DONE (R150). -/
def execWakeToneDone (n : Nat) (s : State) (env : Bool := false) : Answer :=
  .next (if s.laneState n = 3 then ((s.putLane n { s.lane n with wake := false }).signalIs n env).bringUp n else s)

/-- What a write of LNE_LANE_CFG starts (R142, R148, R160); `old` is the word before it. -/
def State.laneCfgWritten (s : State) (n : Nat) (old : Word) : State :=
  let w := s.get (.LNE_LANE_CFG n)
  let changed (f : Fld) : Bool := f.get w != f.get old
  let s := if 2 ≤ s.laneState n && (changed F.LNE_LANE_CFG_TX_INV || changed F.LNE_LANE_CFG_RX_INV ||
      changed F.LNE_LANE_CFG_TRAIN_EN || changed F.LNE_LANE_CFG_PATTERN || changed F.LNE_LANE_CFG_LOOPBACK) then
    s.toWait [n] else s
  let s := if s.portOfLane n = n then
      (if s.sleepMode n = 0 ∧ s.laneState n = 1 then s.wakePort n else s.sleepNow n) else s
  s.settleBlock (n / 8)

/-- Sleep is judged anew for the ports of a block whose MODE has changed: each port's lanes sleep or wake together, as its
first lane does (R142, R148). -/
def State.sleepEval (s : State) (b : Nat) : State :=
  let port (s : State) (p : Nat) : State :=
    if !s.isPort p then s
    else if s.laneState p = 1 then (if s.sleepMode p = 0 then s.wakePort p else s.sleepPort p)
    else
      let s := s.sleepNow p
      if s.laneState p = 1 then s else s.wakePort p
  ((blockLanes b).foldl port s).settleBlock b

/-! ## Anise (R145 to R147) -/

/-- ANISE_CYCLE_START: the shadow takes the main path's settings. No cycle starts while calibration is frozen (R442). -/
def execAniseCycleStart (n : Nat) (s : State) : Answer :=
  .next (if s.laneState n = 6 ∧ s.laneCfg n F.LNE_LANE_CFG_ANISE_EN = 1 ∧ s.anisePhase n = 0 ∧
      s.fld .HLT_HEALTH_CFG F.HLT_HEALTH_CFG_CAL_FREEZE = 0 then
      let x := s.lane n
      (s.putLane n { x with shadow := x.main }).setFld (.LNE_LANE_ANISE n) F.LNE_LANE_ANISE_PHASE 1
    else s)

/-- ANISE_PHASE_END (R145). -/
def execAnisePhaseEnd (n : Nat) (o : AniseSeen) (s : State) : Answer :=
  .next (
    let ph (s : State) (v : Nat) : State := s.setFld (.LNE_LANE_ANISE n) F.LNE_LANE_ANISE_PHASE v
    let x := s.lane n
    if s.laneState n ≠ 6 then s
    else match s.anisePhase n with
      | 1 => ph (s.setFld (.LNE_LANE_ANISE n) F.LNE_LANE_ANISE_EYE_MAIN (min 255 o.eye)) 2
      | 2 => ph (s.putLane n { x with shadow := o.adapted }) 3
      | 3 => ph (s.setFld (.LNE_LANE_ANISE n) F.LNE_LANE_ANISE_EYE_SHADOW (min 255 o.eye)) 4
      | 4 =>
        if s.fld (.LNE_LANE_ANISE n) F.LNE_LANE_ANISE_EYE_MAIN + s.fld .LNE_ANISE_CFG F.LNE_ANISE_CFG_SWAP_GAIN ≤
            s.fld (.LNE_LANE_ANISE n) F.LNE_LANE_ANISE_EYE_SHADOW then
          let s := (s.putLane n { x with former := x.main, main := x.shadow }).count (C.aniseSwaps n)
          ph s (if s.fld .LNE_ANISE_CFG F.LNE_ANISE_CFG_REVERT_EN = 1 then 5 else 0)
        else ph s 0
      | 5 =>
        let s := if 2 * o.before < o.after then (s.putLane n { x with main := x.former }).count (C.aniseReverts n) else s
        ph s 0
      | _ => s)

/-! ## Test patterns (R152) -/

/-- PRBS_LOCK_GAINED: 64 consecutive symbols matched. -/
def execPrbsLockGained (n : Nat) (s : State) (env : Bool := false) : Answer :=
  .next (if s.laneState n = 8 then (s.setFld (.LNE_LANE_STATUS n) F.LNE_LANE_STATUS_PRBS_LOCK 1).signalIs n env else s)

/-- PRBS_SYMBOL_MISMATCH after lock. -/
def execPrbsSymbolMismatch (n : Nat) (s : State) : Answer :=
  .next (if s.laneState n = 8 ∧ s.fld (.LNE_LANE_STATUS n) F.LNE_LANE_STATUS_PRBS_LOCK = 1 then
      s.count (C.prbsErrors n) else s)

/-! ## Wornan links (R153 to R158) -/

def State.wrn (s : State) (c : Nat) (f : Fld) : Nat := s.fld (.LNE_WRN_STATUS c) f
def State.setWrn (s : State) (c : Nat) (f : Fld) (v : Nat) : State := s.setFld (.LNE_WRN_STATUS c) f v
def sliceLanes (c : Nat) : List Nat := (List.range 128).map (128 * c + ·)
def sliceBlocks (c : Nat) : List Nat := (List.range 16).map (16 * c + ·)

/-- WORNAN_ATTEMPT_START: the next attempt of the series at start-up or after a fault (R18, R154). A link that a block reset of block
16 has put DOWN with ATTEMPT 0 trains anew by the same series, also while the device runs, which no rule says: the model's choice
(log 46). -/
def execWornanAttemptStart (c : Nat) (s : State) : Answer :=
  .next (if c < 8 ∧ s.wrn c F.LNE_WRN_STATUS_STATE = 0 ∧ s.wrn c F.LNE_WRN_STATUS_ATTEMPT < 3 ∧ 5 ≤ s.bootStep ∧
      s.bootStep ≤ 0xA then
      (s.setWrn c F.LNE_WRN_STATUS_STATE 1).setWrn c F.LNE_WRN_STATUS_ATTEMPT (s.wrn c F.LNE_WRN_STATUS_ATTEMPT + 1)
    else s)

/-- One-way latency of a link from its round trip in steps of 2^-12 ns: half of it plus the fused trim, in 2^-16 ns (R156). -/
def State.wrnLatency (s : State) (c roundTrip : Nat) : Int := 8 * (roundTrip : Int) + sgetD s.boot.fuses.wrnAsym c 0

/-- A chiplet's time copy receives a time word: it holds T to within 4 ps, `off` from it (R37, R39, R328; log 132). -/
def State.timeWord (s : State) (c : Nat) (off : Int) : State :=
  let x : ChipCopy := ⟨s.tim.t.toNat, (s.get (.LNE_WRN_LATENCY c)).toNat, max (-262) (min 262 off)⟩
  { s with tim := { s.tim with copies := sinsert s.tim.copies c x } }

/-- WORNAN_TRAIN_DONE: the latency is measured, the chiplet's time copy reloaded, and the link UP (R154, R156, R328). -/
def execWornanTrainDone (c roundTrip : Nat) (s : State) (off : Int := 0) : Answer :=
  .next (if s.wrn c F.LNE_WRN_STATUS_STATE = 1 then
      let s := (s.setWrn c F.LNE_WRN_STATUS_STATE 2).setWrn c F.LNE_WRN_STATUS_TIME_VALID 1
      let s := (s.put (.LNE_WRN_LATENCY c) (BitVec.ofInt 32 (s.wrnLatency c roundTrip))).timeWord c off
      let s := { s with lne := { s.lne with retrying := s.lne.retrying.filter (· != c) } }
      (sliceBlocks c).foldl State.settleBlock (s.eventClear Ev.wornanDown c)
    else s)

/-- WORNAN_ATTEMPT_FAIL (R154, R157): after the last attempt of a series the slice is disabled. -/
def execWornanAttemptFail (c : Nat) (s : State) : Answer :=
  .next (if s.wrn c F.LNE_WRN_STATUS_STATE ≠ 1 then s
    else if s.lne.retrying.contains c then
      { (s.setWrn c F.LNE_WRN_STATUS_STATE 3) with
        lne := { (s.setWrn c F.LNE_WRN_STATUS_STATE 3).lne with retrying := s.lne.retrying.filter (· != c) } }
    else if s.wrn c F.LNE_WRN_STATUS_ATTEMPT < 3 then s.setWrn c F.LNE_WRN_STATUS_STATE 0
    else
      let s := (s.setWrn c F.LNE_WRN_STATUS_STATE 3).raise Ev.wornanDown c 0
      if s.bootStep = 5 then s.degrade else s)

/-- A link fault (R155): the link retrains, the slice's lanes go to WAIT_GROUP and its ports park. -/
def State.linkFault (s : State) (c : Nat) : State :=
  let s := ((s.setWrn c F.LNE_WRN_STATUS_STATE 1).setWrn c F.LNE_WRN_STATUS_ATTEMPT 1).setWrn c
    F.LNE_WRN_STATUS_TIME_VALID 0
  let s := { s with lne := { s.lne with flits := serase s.lne.flits c }, tim := { s.tim with copies := serase s.tim.copies c } }
  let s := ((s.count (C.wrnRetrains c)).event Ev.wornanRetrain c 0).toWait (sliceLanes c)
  (sliceBlocks c).foldl State.settleBlock s

/-- WORNAN_LINK_FAULT: lost block lock or forwarded clock (R155). -/
def execWornanLinkFault (c : Nat) (s : State) : Answer := .next (if s.wornanUp c then s.linkFault c else s)

/-- WORNAN_RETRY: every 10 s after step 9, one attempt for a disabled slice (R157). -/
def execWornanRetry (c : Nat) (s : State) : Answer :=
  .next (if s.running && s.wrn c F.LNE_WRN_STATUS_STATE == 3 then
      let s := (s.setWrn c F.LNE_WRN_STATUS_STATE 1).setWrn c F.LNE_WRN_STATUS_ATTEMPT 1
      { s with lne := { s.lne with retrying := s.lne.retrying ++ [c] } }
    else s)

/-- WORNAN_FLIT_ERROR (R155): counted; uncorrectable flits within 1 ms may declare a fault. -/
def execWornanFlitError (c : Nat) (corrected : Bool) (s : State) : Answer :=
  .next (if !s.wornanUp c then s
    else if corrected then s.count (C.wrnCorrected c)
    else
      let s := s.count (C.wrnUncorrectable c)
      let l := s.tim.tick :: (sgetD s.lne.flits c []).filter fun t => decide (s.tim.tick < t + 1000000)
      let s := { s with lne := { s.lne with flits := sput [] s.lne.flits c l } }
      if s.fld (.LNE_WRN_CFG c) F.LNE_WRN_CFG_UNCORR_LIMIT ≤ l.length then s.linkFault c else s)

end Sys2Proof.Machine
end

