-- ==== Sys2Proof/Machine/Hmac.lean ====
section
/-! DEFINITION. SHA-256 and HMAC-SHA-256, which the session handshake and the image signature use (R60, R84). -/
namespace Sys2Proof.Machine

/-- The eight initial words of SHA-256. -/
def shaInit : List (BitVec 32) :=
  [0x6a09e667#32, 0xbb67ae85#32, 0x3c6ef372#32, 0xa54ff53a#32, 0x510e527f#32, 0x9b05688c#32, 0x1f83d9ab#32, 0x5be0cd19#32]

/-- The 64 round constants of SHA-256. -/
def shaK : List (BitVec 32) :=
  [0x428a2f98#32, 0x71374491#32, 0xb5c0fbcf#32, 0xe9b5dba5#32, 0x3956c25b#32, 0x59f111f1#32, 0x923f82a4#32, 0xab1c5ed5#32,
   0xd807aa98#32, 0x12835b01#32, 0x243185be#32, 0x550c7dc3#32, 0x72be5d74#32, 0x80deb1fe#32, 0x9bdc06a7#32, 0xc19bf174#32,
   0xe49b69c1#32, 0xefbe4786#32, 0x0fc19dc6#32, 0x240ca1cc#32, 0x2de92c6f#32, 0x4a7484aa#32, 0x5cb0a9dc#32, 0x76f988da#32,
   0x983e5152#32, 0xa831c66d#32, 0xb00327c8#32, 0xbf597fc7#32, 0xc6e00bf3#32, 0xd5a79147#32, 0x06ca6351#32, 0x14292967#32] ++
  [0x27b70a85#32, 0x2e1b2138#32, 0x4d2c6dfc#32, 0x53380d13#32, 0x650a7354#32, 0x766a0abb#32, 0x81c2c92e#32, 0x92722c85#32,
   0xa2bfe8a1#32, 0xa81a664b#32, 0xc24b8b70#32, 0xc76c51a3#32, 0xd192e819#32, 0xd6990624#32, 0xf40e3585#32, 0x106aa070#32,
   0x19a4c116#32, 0x1e376c08#32, 0x2748774c#32, 0x34b0bcb5#32, 0x391c0cb3#32, 0x4ed8aa4a#32, 0x5b9cca4f#32, 0x682e6ff3#32,
   0x748f82ee#32, 0x78a5636f#32, 0x84c87814#32, 0x8cc70208#32, 0x90befffa#32, 0xa4506ceb#32, 0xbef9a3f7#32, 0xc67178f2#32]

def shaBig (a b c : Nat) (x : BitVec 32) : BitVec 32 := x.rotateRight a ^^^ x.rotateRight b ^^^ x.rotateRight c
def shaSmall (a b c : Nat) (x : BitVec 32) : BitVec 32 := x.rotateRight a ^^^ x.rotateRight b ^^^ (x >>> c)

/-- The message schedule, newest word first: `n` further words after the sixteen of the block. -/
def shaSchedule : Nat → List (BitVec 32) → List (BitVec 32)
  | 0, w => w
  | n + 1, w => shaSchedule n ((shaSmall 17 19 10 (w.getD 1 0) + w.getD 6 0 + shaSmall 7 18 3 (w.getD 14 0) + w.getD 15 0) :: w)

/-- One round over the working words a to h. -/
def shaRound (v : List (BitVec 32)) (kw : BitVec 32 × BitVec 32) : List (BitVec 32) :=
  match v with
  | [a, b, c, d, e, f, g, h] =>
    let t1 := h + shaBig 6 11 25 e + ((e &&& f) ^^^ (~~~e &&& g)) + kw.1 + kw.2
    let t2 := shaBig 2 13 22 a + ((a &&& b) ^^^ (a &&& c) ^^^ (b &&& c))
    [t1 + t2, a, b, c, d + t1, e, f, g]
  | _ => v

/-- Compress one block of sixteen words. -/
def shaBlock (h : List (BitVec 32)) (ws : List (BitVec 32)) : List (BitVec 32) :=
  let sched := (shaSchedule 48 ws.reverse).reverse
  let v := (shaK.zip sched).foldl shaRound h
  h.zipWith (· + ·) v

/-- Big-endian 32-bit words of a byte list. -/
def beWords : List Byte → List (BitVec 32)
  | a :: b :: c :: d :: rest => BitVec.ofNat 32 (((a.toNat * 256 + b.toNat) * 256 + c.toNat) * 256 + d.toNat) :: beWords rest
  | _ => []

/-- Compress `n` blocks. -/
def shaBlocks : Nat → List (BitVec 32) → List (BitVec 32) → List (BitVec 32)
  | 0, h, _ => h
  | n + 1, h, ws => shaBlocks n (shaBlock h (ws.take 16)) (ws.drop 16)

/-- The bytes of a word, most significant first. -/
def wordBytes (w : BitVec 32) : List Byte := (List.range 4).map fun i => BitVec.ofNat 8 (w.toNat / 2 ^ (8 * (3 - i)))

/-- SHA-256. -/
def sha256 (m : List Byte) : List Byte :=
  let pad := (64 - (m.length + 9) % 64) % 64
  let len := (List.range 8).map fun i => BitVec.ofNat 8 (m.length * 8 / 2 ^ (8 * (7 - i)))
  let full := m ++ [0x80#8] ++ List.replicate pad 0#8 ++ len
  (shaBlocks (full.length / 64) shaInit (beWords full)).flatMap wordBytes

/-- HMAC-SHA-256 under a 256-bit key given as a number, first byte most significant. -/
def hmac (key : Nat) (m : List Byte) : List Byte :=
  let k := ((List.range 32).map fun i => BitVec.ofNat 8 (key / 2 ^ (8 * (31 - i)))) ++ List.replicate 32 0#8
  sha256 ((k.map (· ^^^ 0x5c#8)) ++ sha256 ((k.map (· ^^^ 0x36#8)) ++ m))

end Sys2Proof.Machine
end

