-- ==== Sys2Proof/Machine/Classify.lean ====
section
/-! DEFINITION. Parsing, the ternary search, actions and deep inspection (R203 to R224, R441). -/
namespace Sys2Proof.Machine

/-! ## Parsing -/

/-- Slice of a frame: its ingress port's, or 0 for a host frame (R467). -/
def Frame.slice (f : Frame) : Nat := if f.fromHost then 0 else sliceOf f.port

/-- The settings of a port's parse under a selector; a host frame's are fixed (R467). -/
def State.parseCfg (s : State) (f : Frame) : ParseCfg :=
  { tunnel := if f.fromHost then 0 else s.stFld f.sel (.PIP_PORT_CFG f.port) F.PIP_PORT_CFG_TUNNEL
    mpls := f.fromHost || s.stFld f.sel (.PIP_PORT_CFG f.port) F.PIP_PORT_CFG_MPLS_EN == 1
    tpidAlt := s.stFld f.sel .PIP_TPID F.PIP_TPID_TPID_ALT
    vxlan := s.stFld f.sel .PIP_TUN_PORTS F.PIP_TUN_PORTS_VXLAN_PORT
    geneve := s.stFld f.sel .PIP_TUN_PORTS F.PIP_TUN_PORTS_GENEVE_PORT }

/-- FRAME_PARSE: the parse result and verdict (R203 to R209). The MAC keeps pause frames from the parser (R181). -/
def execFrameParse (id : Nat) (s : State) : Answer :=
  .next (
    match s.frame id with
    | none => s
    | some f =>
      if f.stage != Stage.admitted || f.fromHost || s.isPause f.port f.bytes || s.rstSet 4 f.slice (groupOf f.port % 8) then s
      else
        let p := parseFrame (s.parseCfg f) f.bytes
        let s := match p.verdict with
          | .deep => s.count (C.parseDeep f.port)
          | .length => s.count (C.parseLength f.port)
          | .ok => s
        s.putFrame id { f with parse := some p, stage := .parsed })

/-- The PTP engine consumes the frame (R334). -/
def State.ptpConsumes (s : State) (f : Frame) : Bool :=
  match f.parse with
  | none => false
  | some p =>
    p.verdict == Verdict.ok && p.ptp && p.etype == 0x88F7 && !f.fromHost && !f.engine &&
    s.stFld f.sel (.TIM_PTP_PORT f.port) F.TIM_PTP_PORT_ROLE != 0 &&
    (p.da == 0x011B19000000 || p.da == 0x0180C200000E || p.da == s.portMac f.port) &&
    (match p.ptpOff with
     | some o => byteAt f.bytes o / 16 == 0 && byteAt f.bytes (o + 4) == s.stFld f.sel .TIM_PTP_CFG F.TIM_PTP_CFG_DOMAIN
     | none => false)

/-! ## The ternary search (R214, R441) -/

/-- A 480-bit value from 15 words, bits [31:0] first (R225). -/
def wide (ws : List Word) : Nat := ws.foldr (fun w a => w.toNat + 2 ^ 32 * a) 0

/-- A row's VALUE, MASK and action. -/
def Row.value (r : Row) : Nat := wide (r.words.take 15)
def Row.mask (r : Row) : Nat := wide ((r.words.drop 15).take 15)
def Row.action (r : Row) : Action := ⟨r.words.getD 30 0, r.words.getD 31 0⟩

/-- The rows of a table visible to a selector, ascending by position. -/
def State.visibleRows (s : State) (table e : Nat) : List (Nat × Row) :=
  s.rows.filterMap fun kv =>
    if kv.1 / 2 ^ 20 = table then
      match kv.2.find? fun r => r.vis e with
      | some r => some (kv.1 % 2 ^ 20, r)
      | none => none
    else none

/-- The first match that passes its row check; the failing rows met before it are rewritten from the shadow (R441). -/
def State.searchRows (s : State) (table : Nat) (bad : List Nat) : List (Nat × Row) → State × Option (Nat × Row)
  | [] => (s, none)
  | x :: xs =>
    if bad.contains x.1 then (s.event Ev.scrubRepair table x.1).searchRows table bad xs else (s, some x)

/-- The rows of a slice that a key matches under a selector, ascending by position. -/
def State.tcamMatches (s : State) (sl e key : Nat) : List (Nat × Row) :=
  (s.visibleRows (0x10 + sl) e).filter fun x => key &&& x.2.mask == x.2.value

/-- The ternary search of a slice for a key under a selector. Every match counts, those from the row that wins on (log 63: a row
passed over in the search is no match of it). -/
def State.tcamSearch (s : State) (sl e key : Nat) (bad : List Nat) : State × Option (Nat × Row) :=
  let ms := s.tcamMatches sl e key
  let r := s.searchRows (0x10 + sl) bad ms
  match r.2 with
  | some x => ((ms.filter fun m => decide (x.1 ≤ m.1)).foldl (fun (t : State) m => t.count (C.tcamHits sl m.1)) r.1, some x)
  | none => r

/-! ## Actions (R216, R217) -/

def Action.cls (a : Action) : Nat := F.PIP_PORT_DEF_A_CLASS.get a.a
def Action.colour (a : Action) : Nat := F.PIP_PORT_DEF_A_COLOUR.get a.a
def Action.disp (a : Action) : Nat := F.PIP_PORT_DEF_A_DISP.get a.a
def Action.steer (a : Action) : Bool := F.PIP_PORT_DEF_A_STEER.get a.a == 1
def Action.recirc (a : Action) : Nat := F.PIP_PORT_DEF_A_RECIRC.get a.a
def Action.copyHost (a : Action) : Bool := F.PIP_PORT_DEF_A_COPY_HOST.get a.a == 1
def Action.ring (a : Action) : Nat := F.PIP_PORT_DEF_A_RING.get a.a
def Action.redir (a : Action) : Bool := F.PIP_PORT_DEF_A_REDIR.get a.a == 1
def Action.noLearn (a : Action) : Bool := F.PIP_PORT_DEF_A_NO_LEARN.get a.a == 1
def Action.lkp (a : Action) : Nat := F.PIP_PORT_DEF_A_LKP.get a.a
def Action.port (a : Action) : Nat := F.PIP_PORT_DEF_B_PORT.get a.b

/-- An action is valid (R216, R227): listed encodings, zero bits zero; RECIRC 0b11 is invalid whatever STEER holds. -/
def Action.valid (a : Action) : Bool :=
  a.colour != 3 && a.disp != 3 && a.recirc != 3 && decide (a.a.toNat < 2 ^ 23) && decide (a.b.toNat < 2 ^ 10)

/-- A frame moves to its queues or to lookup: it takes its place in its port's order (R222, R249). -/
def State.advance (s : State) (id : Nat) (f : Frame) (st : Stage) : State :=
  { s with frames := sinsert s.frames id { f with stage := st, lkSeq := s.nextLk }, nextLk := s.nextLk + 1 }

/-- A discard by action or lookup, counted once (R36, R469); a COPY_HOST still adds its copy (R217, R242). -/
def State.discardTo (s : State) (id : Nat) (f : Frame) (c : Nat → Nat) : State :=
  let s := s.countDrop f c
  match f.copyRing with
  | some _ => s.putFrame id { f with stage := .routed, route := none }
  | none => (s.putFrame id f).dropFrame id

/-- The action applies to the frame (R217). -/
def State.applyAction (s : State) (id : Nat) (f : Frame) (a : Action) : State :=
  let f := { f with act := some a, cls := a.cls, copyRing := if a.copyHost && a.disp == 0 then some a.ring else none }
  if a.disp = 2 ∨ (a.disp = 1 ∧ a.copyHost) then s.advance id { f with route := some (.ring a.ring 0) } .routed
  else if a.disp = 1 then s.discardTo id f C.pipDrops
  else if a.redir then
    if s.isPort a.port then s.advance id { f with route := some (.port a.port) } .routed
    else match f.copyRing with
      | some _ => (s.countDrop f C.pipDrops).advance id { f with route := none } .routed
      | none => s.discardTo id f C.pipDrops
  else s.advance id f .lookup

/-! ## Deep inspection (R219 to R224) -/

/-- Cells a frame takes in the inspection buffer: MAX_FRAME until it has ended. -/
def State.dpiCells (s : State) (f : Frame) : Nat :=
  if f.ended || f.fromHost then f.ncells else cellsFor (s.maxFrame f.sel f.port)

/-- Cells held in the inspection buffer of slice `sl` (R235). -/
def State.dpiOcc (s : State) (sl : Nat) : Nat :=
  ((s.frames.filter fun kv => kv.2.slice == sl && (kv.2.stage == Stage.dpi || kv.2.stage == Stage.recirc)).map
    fun kv => s.dpiCells kv.2).sum

/-- Cells that must be free for a frame to be admitted: MAX_FRAME of its ingress port, whatever its length (R219). -/
def State.dpiRoom (s : State) (f : Frame) : Nat := if f.fromHost then f.ncells else cellsFor (s.maxFrame f.sel f.port)

/-- DPI_ADMIT: a steered frame is admitted, or bypassed, or overflows (R219). -/
def State.dpiAdmit (s : State) (id : Nat) (f : Frame) (a : Action) : State :=
  let sl := f.slice
  let f := { f with act := some a, cls := a.cls }
  let bypass (s : State) : State := (s.count (C.dpiBypass sl)).applyAction id f a
  if s.stFld f.sel (.PIP_DPI_CFG sl) F.PIP_DPI_CFG_EN = 0 then bypass s
  else if s.dpiOcc sl + s.dpiRoom f ≤ 16384 then
    (s.count (C.dpiSteered sl)).putFrame id { f with stage := .dpi, scanned := false, scanOld := none }
  else
    let s := s.setFld (.PIP_DPI_STATUS sl) F.PIP_DPI_STATUS_OVERFLOW_SEEN 1
    let keep := !f.fromHost && (s.pfcEn f.sel f.port).testBit (s.prioOf f.sel a.cls)
    if s.stFld f.sel (.PIP_DPI_CFG sl) F.PIP_DPI_CFG_OVERFLOW = 1 ∧ !keep then
      ((s.count (C.dpiOverflow sl)).putFrame id f).dropFrame id
    else bypass s

/-- The context of a frame's key (R210, R467). -/
def State.keyCtx (s : State) (f : Frame) : KeyCtx :=
  { keyMode := if f.fromHost then 0 else s.stFld f.sel (.PIP_PORT_CFG f.port) F.PIP_PORT_CFG_KEY_MODE
    pass2 := f.pass2, port := f.port
    label := if f.fromHost then 0 else s.stFld f.sel (.PIP_PORT_CFG f.port) F.PIP_PORT_CFG_PORT_LABEL
    dpiHit := f.dpiHit, dpiTag := f.dpiTag, fromHost := f.fromHost }

/-- A port's default action under a selector (R218). -/
def State.defAction (s : State) (e p : Nat) : Action := ⟨s.stGet e (.PIP_PORT_DEF_A p), s.stGet e (.PIP_PORT_DEF_B p)⟩

/-- The first pass of a frame with its parse result, whose no-match action is `d` (R208, R214, R218). A steered frame waits while
the engine accepts no token (R52). -/
def State.firstPass (s : State) (id : Nat) (f : Frame) (p : Parse) (d : Action) (bad : List Nat) : State :=
  if p.verdict != Verdict.ok then s.applyAction id f d
  else
    let r := s.tcamSearch f.slice f.sel (makeKey (s.keyCtx f) p) bad
    match r.2 with
    | some x =>
      if !x.2.action.steer then r.1.applyAction id f x.2.action
      else if s.rstSet 4 f.slice 9 then s else r.1.dpiAdmit id f x.2.action
    | none => (if f.fromHost then r.1 else r.1.count (C.pipDefault f.port)).applyAction id f d

/-- An earlier frame of the same source stands at one of the stages `p`. -/
def State.behind (s : State) (id : Nat) (f : Frame) (p : Stage → Bool) : Bool :=
  s.frames.any fun kv => decide (kv.1 < id) && kv.2.port == f.port && kv.2.fromHost == f.fromHost && !kv.2.engine &&
    p kv.2.stage

/-- CLASSIFY: the first pass, in admission order of each port (R203). A frame that the PTP engine consumes is not classified
(R334). -/
def execClassify (id : Nat) (badRows : List Nat) (s : State) : Answer :=
  .next (
    match s.frame id with
    | none => s
    | some f =>
      match f.parse with
      | none => s
      | some p =>
        if f.stage != Stage.parsed || s.ptpConsumes f || s.rstSet 4 f.slice 8 ||
            s.behind id f (fun t => t == Stage.admitted || t == Stage.parsed) then s
        else s.firstPass id f p (s.defAction f.sel f.port) badRows)

/-- One pattern element (R221). -/
def elemMatches (e : Word) (b : Byte) : Bool :=
  let a := e.toNat % 256
  let o := e.toNat / 256 % 256
  let x := b.toNat
  let t := match e.toNat / 65536 % 4 with
    | 0 => x == a
    | 1 => decide (a ≤ x) && decide (x ≤ o)
    | 2 => x &&& o == a
    | _ => true
  t != (e.toNat / 262144 % 2 == 1)

/-- The elements match consecutive bytes from the start of the list. -/
def elemsMatch : List Word → List Byte → Bool
  | [], _ => true
  | _ :: _, [] => false
  | e :: es, b :: bs => elemMatches e b && elemsMatch es bs

/-- The pattern matches the region, its first byte numbered `i` (R220, R221). -/
def patMatches (off anchor : Nat) (es : List Word) : Nat → List Byte → Bool
  | i, [] => es.isEmpty && (anchor == 0 || (anchor == 1 && i == off) || (anchor == 2 && decide (i ≤ off)))
  | i, b :: bs =>
    ((anchor == 0 || (anchor == 1 && i == off) || (anchor == 2 && decide (i ≤ off))) && elemsMatch es (b :: bs)) ||
    patMatches off anchor es (i + 1) bs

def Row.patMatches (r : Row) (region : List Byte) : Bool :=
  let w0 := (r.words.getD 0 0).toNat
  let n := (r.words.getD 1 0).toNat % 64
  Machine.patMatches (w0 / 65536 % 2048) (w0 / 2 ^ 27 % 4) ((r.words.drop 2).take n) 0 region

/-- The scanned region (R220): 2,048 bytes from the payload offset, short of the FCS. -/
def scanRegion (p : Parse) (bs : List Byte) : List Byte := ((bs.take (bs.length - 4)).drop p.payload).take 2048

/-- Frames of a source leave the engine in the order it admitted them, each once its verdict is formed and the second pass of the
one before it is done (R222). -/
def State.dpiRelease (s : State) (f0 : Frame) : Nat → State
  | 0 => s
  | n + 1 =>
    match s.frames.find? fun kv => (kv.2.stage == Stage.dpi || kv.2.stage == Stage.recirc) && kv.2.port == f0.port &&
        kv.2.fromHost == f0.fromHost with
    | none => s
    | some (id, f) =>
      if f.stage == Stage.recirc || !f.scanned then s
      else
        let a := f.act.getD ⟨0, 0⟩
        let s := if a.recirc = 2 ∨ (a.recirc = 1 ∧ f.dpiHit) then
            (s.count (C.dpiRecirc f.slice)).putFrame id { f with stage := .recirc }
          else s.applyAction id { f with dpiHit := false, dpiTag := 0 } a
        s.dpiRelease f0 n

/-- The pattern rows that match a frame's region (R220). -/
def State.patternMatches (s : State) (f : Frame) (p : Parse) : List (Nat × Row) :=
  let region := scanRegion p f.bytes
  (s.visibleRows (0x18 + f.slice) f.sel).filter fun x => x.2.patMatches region

/-- A scan under way when its epoch is promoted completes under the old rows (R224). -/
def State.holdScans (s : State) (ids : List Nat) : State :=
  ids.foldl (fun (s : State) id => s.updFrame id fun f =>
    match f.parse with
    | some p => if f.stage == Stage.dpi && !f.scanned && f.scanOld.isNone then { f with scanOld := some (s.patternMatches f p) } else f
    | none => f) s

/-- DPI_VERDICT: the scan ends; the frame, and those waiting behind it, leave the engine in port order. -/
def execDpiVerdict (id : Nat) (badRows : List Nat) (s : State) : Answer :=
  .next (
    match s.frame id with
    | none => s
    | some f =>
      match f.parse with
      | none => s
      | some p =>
        if f.stage != Stage.dpi || f.scanned then s
        else
          let r := s.searchRows (0x18 + f.slice) badRows (f.scanOld.getD (s.patternMatches f p))
          let s := match r.2 with
            | some x => (r.1.count (C.dpiHits f.slice)).putFrame id
                { f with scanned := true, dpiHit := true, dpiTag := (x.2.words.getD 0 0).toNat % 65536 }
            | none => r.1.putFrame id { f with scanned := true, dpiHit := false, dpiTag := 0 }
          s.dpiRelease f (s.frames.length + 1))

/-- A frame found bad, or a runt (R179): its replicas leave, and frames that waited behind it in the engine move on. -/
def State.killBad (s : State) (id : Nat) (f : Frame) : State :=
  let s := ((s.putFrame id { f with ended := true, bad := true }).killReplicas id).checkGone id
  s.dpiRelease f (s.frames.length + 1)

/-- The frame's data has ended bad (R175, R179). -/
def State.endBad (s : State) (id : Nat) (f : Frame) : State :=
  let s := s.count (C.prtRxFcsErrors f.port)
  let s := if s.maxFrame f.sel f.port < f.len then s.count (C.prtRxOversize f.port) else s
  let s := if fcsStomped f.bytes || f.errCtl then s.count (C.prtRxStompSeen f.port) else s
  s.killBad id f

/-- FRAME_END_RX: the checks of R175. A frame under 64 bytes counts as a runt alone, whatever else is wrong with it: the model's choice
(log 152). -/
def execFrameEndRx (id : Nat) (s : State) : Answer :=
  .next (
    match s.frame id with
    | none => s
    | some f =>
      if f.ended || f.fromHost then s
      else if f.len < 64 then
        (s.count (C.prtRxRunts f.port)).killBad id f
      else if s.maxFrame f.sel f.port < f.len || f.errBlock || f.errCtl || !fcsGood f.bytes then s.endBad id f
      else if s.isPause f.port f.bytes then s.putFrame id { f with ended := true }
      else
        let s := ((s.count (C.prtRxFrames f.port)).putFrame id { f with ended := true }).tryLearn id
        if f.stage == Stage.dropped then s.checkGone id else s)

/-- RECIRC_PASS: the second pass (R223); without a match, the action that steered the frame, STEER taken as 0 (R218). The frames
that waited behind it in the engine move on (R222). -/
def execRecircPass (id : Nat) (badRows : List Nat) (s : State) : Answer :=
  .next (
    match s.frame id with
    | none => s
    | some f =>
      match f.parse with
      | none => s
      | some p =>
        if f.stage != Stage.recirc || s.rstSet 4 f.slice 8 || s.behind id f (fun t => t == Stage.recirc) then s
        else
          let f := { f with pass2 := true }
          let r := s.tcamSearch f.slice f.sel (makeKey (s.keyCtx f) p) badRows
          let s := match r.2 with
            | some x => r.1.applyAction id f x.2.action
            | none => r.1.applyAction id f (f.act.getD ⟨0, 0⟩)
          s.dpiRelease f (s.frames.length + 1))

end Sys2Proof.Machine
end

