-- ==== Sys2Proof/Machine/Forward.lean ====
section
/-! DEFINITION. Lookup, learning, Caraway, rebuilds and tier-2 faults (R239 to R270). -/
namespace Sys2Proof.Machine

/-! ## Profiles and keys (R239 to R241, R276) -/

def State.lkpA (s : State) (e k : Nat) (f : Fld) : Nat := s.stFld e (.FWD_LKP_A k) f
def State.lkpB (s : State) (e k : Nat) (f : Fld) : Nat := s.stFld e (.FWD_LKP_B k) f

/-- The lookup key from KTYPE, DOMAIN and ADDR (R240). -/
def fwdKey (ktype domain addr : Nat) : Nat := ktype % 16 * 2 ^ 152 + domain % 2 ^ 24 * 2 ^ 128 + addr % 2 ^ 128

/-- DOMAIN of a frame under profile `k` (R240). -/
def State.domain (s : State) (f : Frame) (p : Parse) (k : Nat) : Nat :=
  match s.lkpA f.sel k F.FWD_LKP_A_DOMAIN_SRC with
  | 0 => s.lkpB f.sel k F.FWD_LKP_B_DOMAIN_CONST
  | 1 => if p.tags = 0 then 0 else p.ovid
  | 2 => if f.fromHost then 0 else s.stFld f.sel (.PIP_PORT_CFG f.port) F.PIP_PORT_CFG_PORT_LABEL
  | _ => if p.tun = 0 then 0 else p.vni

/-- ADDR for a KTYPE, none where the key is not valid (R240). -/
def keyAddr (ktype : Nat) (p : Parse) : Option Nat :=
  match ktype with
  | 1 => some p.da
  | 2 => if p.l3type = 1 ∧ p.l3v then some p.dip else none
  | 3 => if p.l3type = 2 ∧ p.l3v then some p.dip else none
  | 4 => if 1 ≤ p.mplsN then some p.label0 else none
  | _ => none

/-! ## Results (R242, R244) -/

/-- The frame goes where its lookup sends it. -/
def State.routeTo (s : State) (id : Nat) (f : Frame) (r : Route) : State :=
  s.putFrame id { f with stage := .routed, route := some r }

/-- The profile of a frame's lookup. -/
def Frame.profile (f : Frame) : Nat := match f.act with | some a => a.lkp | none => 0

def State.noHairpin (s : State) (f : Frame) : Bool := s.lkpA f.sel f.profile F.FWD_LKP_A_NO_HAIRPIN == 1

/-- A miss (R242). -/
def State.miss (s : State) (id : Nat) (f : Frame) : State :=
  let s := s.count (C.misses f.slice)
  match s.lkpA f.sel f.profile F.FWD_LKP_A_MISS_DISP with
  | 1 => s.routeTo id f (.mcast (s.lkpB f.sel f.profile F.FWD_LKP_B_MISS_MGID) (s.noHairpin f))
  | 2 => s.routeTo id f (.ring (s.lkpA f.sel f.profile F.FWD_LKP_A_MISS_RING) 2)
  | _ => s.discardTo id f C.fwdDrops

/-- A hit applies the entry's result (R244). The VID rewrite of a DEEP or LENGTH frame is suppressed when it is sent. -/
def State.applyHit (s : State) (id : Nat) (f : Frame) (resA resB : Word) : State :=
  let a := resA.toNat
  let arg := a / 4 % 65536
  let f := { f with cls := if a.testBit 18 then a / 2 ^ 19 % 16 else f.cls,
                    vid := if a.testBit 23 then some (resB.toNat % 4096) else none }
  match a % 4 with
  | 0 =>
    if !s.isPort (arg % 1024) || (s.noHairpin f && !f.fromHost && arg % 1024 == f.port) then s.discardTo id f C.fwdDrops
    else s.routeTo id f (.port (arg % 1024))
  | 1 => s.routeTo id f (.mcast arg (s.noHairpin f))
  | 2 => s.routeTo id f (.ring (arg % 32) 3)
  | _ => s.discardTo id f C.fwdDrops

/-- The source key of a frame that may be learned from (R259). -/
def State.sourceKey (s : State) (f : Frame) (p : Parse) : Option Nat :=
  let k := f.profile
  if s.lkpA f.sel k F.FWD_LKP_A_LEARN = 1 ∧ s.lkpA f.sel k F.FWD_LKP_A_KTYPE = 1 ∧ !f.fromHost ∧
      (f.act.map Action.noLearn).getD true = false ∧ p.sa ≠ 0 ∧ p.sa / 2 ^ 40 % 2 = 0 then
    some (fwdKey 1 (s.domain f p k) p.sa)
  else none

/-! ## Lookup (R249, R252, R253) -/

/-- The tier-1 way of a key visible to a selector. -/
def t1Find (w : T1Set) (key e : Nat) : Option Way :=
  w.ways.findSome? fun o => match o with
    | some x => if x.key = key ∧ visTo x.vis e then some x else none
    | none => none

/-- Set REC of the ways holding a key. -/
def t1Touch (w : T1Set) (key : Nat) : T1Set :=
  { w with ways := w.ways.map fun o => match o with
      | some x => if x.key = key then some { x with recn := 3 } else some x
      | none => none }

/-- Where a promotion puts its copy (R253): the way of the same key, the lowest invalid way, the lowest way with REC 0. -/
def t1Victim (w : T1Set) (key : Nat) : Option Nat :=
  (w.ways.findIdx? fun o => match o with | some x => x.key == key | none => false) <|>
  (w.ways.findIdx? Option.isNone) <|>
  (w.ways.findIdx? fun o => match o with | some x => x.recn == 0 | none => false)

/-- The second condition of R253: an invalid way, or a way with REC = 0. -/
def t1Room (w : T1Set) : Bool := w.ways.any fun o => match o with | some x => x.recn == 0 | none => true

/-- Lookups of a slice that wait for tier 2 (R270). -/
def State.t2Waiting (s : State) (sl : Nat) : Nat :=
  (s.frames.filter fun kv => kv.2.slice == sl && (match kv.2.stage with | .tier2 _ _ _ => true | _ => false)).length

/-- LOOKUP: tier 1, and on a miss the tier-2 reads (R239 to R242, R249, R252, R267). What the lookup does with a frame does not
bear on learning from it (R259). With 2,048 lookups waiting the slice's unit accepts no frame (R270). -/
def execLookup (id : Nat) (shorter : Option Nat) (s : State) : Answer :=
  .next (
    match s.frame id with
    | none => s
    | some f =>
      match f.parse with
      | none => s
      | some p =>
        if f.stage != Stage.lookup || s.rstSet 5 8 2 || 2048 ≤ s.t2Waiting f.slice then s
        else
          let k := f.profile
          let kt := s.lkpA f.sel k F.FWD_LKP_A_KTYPE
          let s := (s.putFrame id { f with learnKey := s.sourceKey f p }).tryLearn id
          let f := (s.frame id).getD f
          (
            if kt = 0 then s.miss id f
            else match keyAddr kt p with
              | none => (s.count (C.keyInvalid f.slice)).miss id f
              | some a =>
                let key := fwdKey kt (s.domain f p k) a
                let w := s.t1Set key
                match t1Find w key f.sel with
                | some x =>
                  let r := s.hitOp x.bucket
                  if r.2 then ((r.1.count (C.t1Hits f.slice)).putT1 key (t1Touch w key)).applyHit id f x.resA x.resB
                  else s.miss id f
                | none =>
                  if !s.t2Up then (s.count C.t2Unavailable).miss id f
                  else
                    let want := shorter.getD (f.slice / 4) % 2
                    let c := if s.copyUp want then want else s.mainCopy
                    (s.count (C.t2Lookups f.slice)).putFrame id { f with stage := .tier2 c w.gen key }))

/-- One bucket read's ECC outcome (R267): the state, and whether the bucket's content was lost. -/
def State.bucketEcc (s : State) (c b : Nat) (e : BucketEcc) : State × Bool :=
  match e with
  | .clean => (s, false)
  | .corrected => (s.count C.t2EccCorrected, false)
  | .uncorrectable =>
    if s.copyUp (1 - c) then (s.count C.t2EccRepaired, false)
    else
      let s := (s.count C.t2Lost).event Ev.tableEntryLost b 0
      match sfind (s.copy c) b with
      | some x => ((s.setCopy c (serase (s.copy c) b)).t1Inval x.key, true)
      | none => (s, true)

/-- The same for bucket reads of the table unit and of Caraway: the buckets whose read met an error. -/
def State.readEcc (s : State) (l : List (Nat × BucketEcc)) : State :=
  if s.t2Up then l.foldl (fun (s : State) x => (s.bucketEcc s.mainCopy x.1 x.2).1) s else s

/-- Promotion after a tier-2 hit (R253). -/
def State.promote (s : State) (f : Frame) (key gen bucket : Nat) (e : FwdEntry) : State :=
  let w := s.t1Set key
  if s.lkpA f.sel f.profile F.FWD_LKP_A_PROMOTE = 1 ∧ s.fld .FWD_CARAWAY_CFG F.FWD_CARAWAY_CFG_T1_EN = 1 ∧ w.gen = gen then
    if !t1Room w then s.count C.promoteSkipped
    else match t1Victim w key with
      | some i =>
        (s.putT1 key { w with ways := w.ways.set i (some ⟨e.key, e.resA, e.resB, e.vis, bucket, 3⟩) }).count C.promotions
      | none => s
  else s

/-- TIER2_READ_DONE: hit, miss or ECC outcome (R249, R251, R252, R253, R267). -/
def execTier2ReadDone (id : Nat) (e1 e2 : BucketEcc) (s : State) : Answer :=
  .next (
    match s.frame id with
    | none => s
    | some f =>
      match f.stage with
      | .tier2 c0 gen key =>
        if !s.t2Up then (s.count C.t2Unavailable).miss id f
        else
          let c := if s.copyUp c0 then c0 else s.mainCopy
          let sd := s.seedsOf c
          let bs := buckets sd key
          let r1 := s.bucketEcc c bs.1 e1
          let r2 := r1.1.bucketEcc c bs.2 e2
          let s := r2.1
          if r1.2 || r2.2 then s.miss id f
          else match findVer (s.copy c) sd key (fun e => visTo e.vis f.sel) with
            | none => s.miss id f
            | some (b, e) =>
              let b := if e.moved then altBucket sd key b else b
              let h := s.hitOp b
              if h.2 then ((h.1.count (C.t2Hits f.slice)).promote f key gen b e).applyHit id f e.resA e.resB
              else s.miss id f
      | _ => s)

/-! ## Learning (R259 to R261) -/

/-- The entry that learning installs (R260). -/
def learnedEntry (key port : Nat) : FwdEntry :=
  { key := key, resA := BitVec.ofNat 32 (port * 4), resB := 0, moved := false, vis := 3, slot := 0, ageEn := true,
    learned := true }

/-- The outcome of a learning request in the table unit (R260). -/
def State.learn (s : State) (key port : Nat) : State :=
  match s.versions key with
  | [] =>
    if s.learnedHeld < s.fld .FWD_LEARN_CFG F.FWD_LEARN_CFG_MAX_LEARNED ∧ s.keysHeld < maxKeys then
      let r := s.insertEntry (learnedEntry key port) false
      match r.2 with
      | .placed => r.1.count C.learned
      | .moving => r.1
      | .needed => r.1.count C.learnSkipped
    else s.count C.learnSkipped
  | (b, e) :: rest =>
    if !e.learned || rest.any fun x => !x.2.learned then s
    else if e.resA.toNat / 4 % 65536 = port then (s.hitOp b).1
    else if s.fld .FWD_LEARN_CFG F.FWD_LEARN_CFG_MOVE_EN = 1 then
      ((s.changeKey key fun x =>
        some { x with resA := BitVec.ofNat 32 (x.resA.toNat - x.resA.toNat / 4 % 65536 * 4 + port * 4) }).setHit b
          (setBit (s.hitBits b) 0)).count C.learnMoves
    else s

/-- LEARN_CHECK: the request at the head of the learning queue, where the lookups leave capacity (R260). -/
def execLearnCheck (capacity : Bool) (s : State) (ecc : List (Nat × BucketEcc) := []) : Answer :=
  .next (
    let s := s.readEcc ecc
    match s.fwd.learnQ with
    | [] => s
    | (key, port) :: rest =>
      if s.fwd.job.isSome || !s.t2Up then s
      else
        let s := { s with fwd := { s.fwd with learnQ := rest } }
        if capacity then s.learn key port else s.count C.learnSkipped)

/-- GONE_CLEAR: GONE of a bucket returns to 0, 1 µs after its removal (R262). -/
def execGoneClear (bucket : Nat) (s : State) : Answer :=
  .next (if s.fwd.gone.contains bucket then
      { (s.setHit bucket (clrBit (s.hitBits bucket) 1)) with
        fwd := { (s.setHit bucket (clrBit (s.hitBits bucket) 1)).fwd with gone := s.fwd.gone.filter (· != bucket) } }
    else s)

/-! ## Caraway (R262 to R264) -/

/-- An aging removal or a flush removal of the version at a bucket (R262). -/
def State.removeAged (s : State) (b : Nat) (e : FwdEntry) : State :=
  let s := ((s.setHit b (setBit (s.hitBits b) 1)).removeVersion e).count C.aged
  { s with fwd := { s.fwd with gone := if s.fwd.gone.contains b then s.fwd.gone else s.fwd.gone ++ [b] } }

/-- AGING_PASS_START: PERIOD after the start of the latest aging pass; during another pass it waits for its end (R264). -/
def execAgingPassStart (s : State) : Answer :=
  .next (
    if s.fld .FWD_CARAWAY_CFG F.FWD_CARAWAY_CFG_PERIOD = 0 || !s.t2Up || !s.running then s
    else if s.fwd.pass.isNone && !s.agingHeld then s.beginPass true
    else { s with fwd := { s.fwd with agingDue := true } })

/-- CARAWAY_VISIT: the next occupied bucket of the pass under way (R262, R264). -/
def execCarawayVisit (s : State) (ecc : List (Nat × BucketEcc) := []) : Answer :=
  .next (
    let s := s.readEcc ecc
    match s.fwd.pass with
    | none => s
    | some aging =>
      if s.fwd.job.isSome || !s.t2Up then s
      else match (s.copy s.mainCopy).find? fun kv => decide (s.fwd.pos ≤ kv.1) && !kv.2.moved with
        | none => s
        | some (b, e) =>
          let s := { s with fwd := { s.fwd with pos := b + 1 } }
          if e.learned && (s.fwd.serving.contains (e.resA.toNat / 4 % 1024) || s.fwd.serving.contains everyPort) then
            s.removeAged b e
          else if aging && !s.agingHeld && e.ageEn && e.vis == 3 then
            if (s.hitBits b).testBit 0 then s.setHit b (clrBit (s.hitBits b) 0) else s.removeAged b e
          else s)

/-- An aging pass is due; with PERIOD 0 there is none (R262, R278). -/
def State.agingWaits (s : State) : Bool := s.fwd.agingDue && s.fld .FWD_CARAWAY_CFG F.FWD_CARAWAY_CFG_PERIOD != 0

/-- What begins when a pass or a rebuild ends: a waiting aging pass, else a flush pass for ports added meanwhile; a pass under way
goes on. -/
def State.nextPass (s : State) : State :=
  if s.fwd.pass.isSome then s
  else if s.agingWaits && !s.agingHeld then s.beginPass true else s.flushStart

/-- CARAWAY_PASS_END: the pass has read every bucket; the ports it served leave the flush set, and a FLUSH that it served is
pending no longer (R264). -/
def execCarawayPassEnd (s : State) : Answer :=
  .next (
    match s.fwd.pass with
    | none => s
    | some _ =>
      if (s.copy s.mainCopy).any fun kv => decide (s.fwd.pos ≤ kv.1) && !kv.2.moved then s
      else
        let served := s.fwd.serving.filter fun p => !s.fwd.again.contains p
        let s := { s with fwd := { s.fwd with
          pass := none, serving := [], again := [], pos := 0, flushSet := s.fwd.flushSet.filter fun p => !served.contains p,
          flushCmd := if s.fwd.cmdServed then none else s.fwd.flushCmd, cmdServed := false } }
        s.nextPass)

/-- T1_DECAY_TICK: REC of every valid way above 0 is decremented (R263); with no copy in service Caraway stops (R267). -/
def execT1DecayTick (s : State) : Answer :=
  .next (if !s.t2Up then s else { s with fwd := { s.fwd with t1 := s.fwd.t1.map fun kv =>
    (kv.1, { kv.2 with ways := kv.2.ways.map fun o => match o with
      | some x => some { x with recn := x.recn - 1 }
      | none => none }) } })

/-! ## Rebuilds (R266, R547) -/

def State.setHashState (s : State) (v : Nat) : State := s.setFld .FWD_HASH_STATUS F.FWD_HASH_STATUS_STATE v

/-- GO of FWD_REHASH_CTL (R266, R274): step 1 begins, or is refused with fewer than two copies. -/
def State.rehashStart (s : State) : State :=
  if s.fld .FWD_REHASH_CTL F.FWD_REHASH_CTL_GO = 1 then s
  else if !s.copyUp 0 || !s.copyUp 1 then s.setHashState 5
  else
    let n := ((s.get .FWD_REHASH_SEED1).toNat, (s.get .FWD_REHASH_SEED2).toNat)
    let s := ((s.setFld .FWD_REHASH_CTL F.FWD_REHASH_CTL_GO 1).setHashState 1).setCopyUp 1 false
    { s with fwd := { s.fwd with copy1 := [], newSeeds := n, over1 := some n, rebuildFailed := false } }

/-- Every version of a copy inserted into another under its own seeds (none: REHASH_NEEDED), and the moves made until then. -/
def insertAll (sd : Nat × Nat) : List FwdEntry → SMap FwdEntry → Option (SMap FwdEntry) × Nat
  | [], m => (some m, 0)
  | e :: es, m =>
    if (findVer m sd e.key fun x => x.vis == e.vis).isSome then insertAll sd es m
    else match insertNow sd e m with
      | some r => ((insertAll sd es r.1).1, (insertAll sd es r.1).2 + r.2.2)
      | none => (none, 0)

/-- The versions a copy holds. -/
def versionsOf (m : SMap FwdEntry) : List FwdEntry := (m.filter fun kv => !kv.2.moved).map Prod.snd

/-- The rebuild ends FAILED: the seeds stay, NEEDED stays, aging resumes. -/
def State.rehashFailed (s : State) : State :=
  let s := (s.setFld .FWD_REHASH_CTL F.FWD_REHASH_CTL_GO 0).setHashState 4
  ({ s with fwd := { s.fwd with rebuildFailed := false } }).nextPass

/-- Step 2 of R266: a copy placed anew serves. Tier 1 is invalidated, and every entry's hit memory is HIT = 1, GONE = 0. A pass of
Caraway under way reads the new placement from its first bucket, or it would not read every bucket (R264). -/
def State.placedAnew (s : State) (m : SMap FwdEntry) : State :=
  let s := s.t1Clear.hitAll m
  { s with fwd := { s.fwd with pos := 0, gone := [] } }

/-- REHASH_STEP_DONE: the end of step 1 or step 3 of R266, or of the restoration after a failed step 1. -/
def execRehashStepDone (s : State) (ecc : List (Nat × BucketEcc) := []) : Answer :=
  .next (
    let s := s.readEcc ecc
    if s.fwd.job.isSome then s
    else if s.hashState = 1 then
      if s.fwd.rebuildFailed then
        (({ s with fwd := { s.fwd with copy1 := s.fwd.copy0, over1 := s.fwd.over0 } }).setCopyUp 1 true).rehashFailed
      else
        let r := insertAll s.fwd.newSeeds (versionsOf s.fwd.copy0) s.fwd.copy1
        let s := s.countN C.relocations r.2
        match r.1 with
        | none =>
          let s := s.rehashNeeded
          { s with fwd := { s.fwd with copy1 := [], rebuildFailed := true } }
        | some m =>
          let s := ({ s with fwd := { s.fwd with copy1 := m } }).placedAnew m
          let s := (s.setCopyUp 1 true).setCopyUp 0 false
          ({ s with fwd := { s.fwd with over0 := some s.fwd.newSeeds, copy0 := m } }).setHashState 2
    else if s.hashState = 2 then
      let s := ({ s with fwd := { s.fwd with copy0 := s.fwd.copy1, over0 := none, over1 := none } }).setCopyUp 0 true
      let s := (s.put .FWD_HASH_SEED1 (BitVec.ofNat 32 s.fwd.newSeeds.1)).put .FWD_HASH_SEED2
        (BitVec.ofNat 32 s.fwd.newSeeds.2)
      let s := (s.noteImage .FWD_HASH_SEED1).noteImage .FWD_HASH_SEED2
      let s := ((s.setFld .FWD_HASH_STATUS F.FWD_HASH_STATUS_NEEDED 0).eventClear Ev.rehashNeeded 0).setHashState 3
      (s.setFld .FWD_REHASH_CTL F.FWD_REHASH_CTL_GO 0).nextPass
    else s)

/-! ## Loss of a stack (R267, R294, R297) -/

/-- A chain of moves under way goes with the copy that held it: the request waits again, a learning one at the head of its queue
(log 140). -/
def State.jobLost (s : State) : State :=
  match s.fwd.job with
  | none => s
  | some j =>
    let q := if j.commit then s.fwd.learnQ else (j.entry.key, j.entry.resA.toNat / 4 % 65536) :: s.fwd.learnQ
    { s with fwd := { s.fwd with job := none, learnQ := q } }

/-- A rebuild loses the copy that serves: the one it fills serves alone, with what it holds by then (R266; log 140: how far the
rebuild has come is a free value). Tier 1 holds copies of tier-2 entries only (R248), so it is invalidated; a copy placed under the
new seeds begins as in step 2. -/
def State.survivor (s : State) (c : Nat) : State :=
  let n := Config.freeNat s.free
  if s.hashState = 1 ∧ c = 0 then
    if s.fwd.rebuildFailed then
      ({ s with fwd := { s.fwd with copy1 := s.fwd.copy0.take n, over1 := s.fwd.over0 } }).tick1Free.t1Clear.setCopyUp 1 true
    else
      let r := insertAll s.fwd.newSeeds ((versionsOf s.fwd.copy0).take n) s.fwd.copy1
      let m := r.1.getD s.fwd.copy1
      let s := { s.countN C.relocations r.2 with fwd := { s.fwd with copy1 := m } }
      (s.tick1Free.placedAnew m).jobLost.setCopyUp 1 true
  else if s.hashState = 2 ∧ c = 1 then
    ({ s with fwd := { s.fwd with copy0 := s.fwd.copy1.take n } }).tick1Free.t1Clear.setCopyUp 0 true
  else s

/-- A copy leaves lookup service for the loss of stack `h`. Tier 1 stays under the seeds of the copy that serves, or served last. -/
def State.copyDown (s : State) (c h : Nat) : State :=
  let s := ((s.survivor c).setCopyUp c false).raise Ev.t2CopyDown c h
  let s := s.setCopy c []
  let s := if c = 0 then { s with fwd := { s.fwd with stacks0 := none } } else { s with fwd := { s.fwd with stacks1 := none } }
  let kept := if s.copyUp (1 - c) == (c == 0) then s.fwd.over1 else s.fwd.over0
  let s := { s with fwd := { s.fwd with over0 := kept, over1 := kept } }
  let s := if s.rebuilding then s.rehashFailed else s
  if s.t2Up then s else { (s.raise Ev.tier2Down 0 0) with fwd := { (s.raise Ev.tier2Down 0 0).fwd with pass := none } }

/-- Replicas with cells spilled on the stack lose them (R297). -/
def State.spillLoss (s : State) (h : Nat) : State :=
  let s := s.frameYields
  s.reps.foldl (fun (s : State) (kv : Nat × Replica) =>
    if kv.2.spill = SpillSt.inSpill h then
      ((s.putRep kv.1 { kv.2 with spill := .lost h }).count C.spillLost).event Ev.spillLost h 0
    else s) s

/-- HBM_STACK_DOWN. -/
def execHbmStackDown (h : Nat) (s : State) : Answer :=
  .next (
    if 4 ≤ h || s.raised Ev.hbmStackDown h then s
    else
      let s := s.raise Ev.hbmStackDown h 0
      let on (o : Option (Nat × Nat)) : Bool := match o with | some (a, b) => a == h || b == h | none => false
      let s := if on s.fwd.stacks0 then s.copyDown 0 h else s
      let s := if on s.fwd.stacks1 then s.copyDown 1 h else s
      let s := s.setFld .SWC_SPILL_STATUS F.SWC_SPILL_STATUS_STACKS (clrBit s.spillStacks h)
      s.spillLoss h)

end Sys2Proof.Machine
end

