-- ==== Sys2Proof/Machine/Switch.lean ====
section
/-! DEFINITION. The switch core (R281 to R311): enqueue and the pools, the random drop test, spill, and the matching
round. -/
namespace Sys2Proof.Machine

/-! ## Cells and banks (R281, R282, R289) -/

/-- The first number of `n` from `a` on that is not used. -/
def firstFree (used : List Nat) : Nat → Nat → Option Nat
  | 0, _ => none
  | n + 1, a => if used.contains a then firstFree used n (a + 1) else some a

/-- Addresses in use. -/
def State.usedCells (s : State) : List Nat := s.frames.flatMap fun kv => kv.2.cells.drop kv.2.left

/-- The next bank of slice `sl` in its rotation that has a free row and is not `last`; the address and the bank after it. -/
def pickCell (used : List Nat) (sl : Nat) (last : Option Nat) : Nat → Nat → Option (Nat × Nat)
  | 0, _ => none
  | n + 1, j =>
    let b := sl * 128 + j % 128
    if last == some b then pickCell used sl last n (j + 1)
    else match firstFree used 1536 (b * 2048) with
      | some a => some (a, (j + 1) % 128)
      | none => pickCell used sl last n (j + 1)

/-- Write one more cell of a frame: on die in its slice's bank rotation, or in its stack's spill region. -/
def State.writeCell (s : State) (id : Nat) : State :=
  match s.frame id with
  | none => s
  | some f =>
    let used := s.usedCells
    match f.pool, s.stackOf id with
    | some .spill, some h =>
      match firstFree used (s.spillRegion h) (2 ^ 31 + h * 2 ^ 29) with
      | some a => s.putFrame id { f with cells := f.cells ++ [a], written := f.written + 1 }
      | none => s.putFrame id { f with written := f.written + 1 }
    | _, _ =>
      match pickCell used f.slice (f.cells.getLast?.map (· / 2048)) 129 (sgetD s.swc.bankRot f.slice 0) with
      | some (a, j) =>
        let s := s.putFrame id { f with cells := f.cells ++ [a], written := f.written + 1 }
        { s with swc := { s.swc with bankRot := sput 0 s.swc.bankRot f.slice j } }
      | none => s.putFrame id { f with written := f.written + 1 }

/-- Write cells until `n` of the frame are written. -/
def State.writeCells (s : State) (id : Nat) : Nat → State
  | 0 => s
  | n + 1 => (s.writeCell id).writeCells id n

/-- The link word stored with cell `i` of a frame (R282): NEXT in bits [31:0], LAST in bit 32, BYTES in bits [40:33]. NEXT of the
final cell, and of a cell whose successor is not yet written, is 0 (log 138). -/
def Frame.linkWord (f : Frame) (i : Nat) : BitVec 41 :=
  let last := f.whole && i + 1 == f.ncells
  let next := if last then 0 else f.cells.getD (i + 1) 0
  let bytes := if last then f.len - 256 * i - 1 else 255
  BitVec.ofNat 41 (next + (if last then 2 ^ 32 else 0) + bytes * 2 ^ 33)

/-- A wire frame of a time class, which reserves two cells (R289). -/
def State.shortTime (s : State) (f : Frame) : Bool := !f.fromHost && !f.engine && s.timeClass f.sel f.cls

/-- N of R289. -/
def State.reserveCells (s : State) (f : Frame) : Nat :=
  if f.fromHost || f.engine then f.ncells
  else if s.timeClass f.sel f.cls then 2 else cellsFor (s.maxFrame f.sel f.port)

/-- A frame whose buffer space fails is handled as found bad (R289, R179): every queue that held it counts the loss. -/
def State.noRoom (s : State) (id : Nat) (f : Frame) : State :=
  let s := (s.repsOf id).foldl (fun (s : State) (kv : Nat × Replica) => s.count (C.dropsFull kv.2.q)) s
  ((s.putFrame id { f with bad := true }).killReplicas id).checkGone id

/-- The cells of a frame arrive up to `n` (R289): a long time-class frame takes each further cell from the shared pool. -/
def State.arriveTo (s : State) (id n : Nat) : State :=
  match s.frame id with
  | none => s
  | some f =>
    let more := n - f.written
    if s.shortTime f then
      let extra := n - 2 - f.extra
      if s.sharedFree < extra then s.noRoom id f
      else
        let s := (s.putFrame id { f with extra := f.extra + extra }).writeCells id more
        if extra = 0 then s else s.pauseEval f.port
    else s.writeCells id more

/-! ## Queue state (R301, R302) -/

/-- TOK[q] now, in units of 1/80 byte: it grows by MIN_RATE (0.1 Gb/s) each ns, up to 2,048 bytes (R302). -/
def State.tokNow (s : State) (q : Nat) : Nat :=
  let x := sgetD s.swc.tok q (0, s.swc.tokTick)
  min 163840 (x.1 + s.cFld (.SWC_Q_CFG q) F.SWC_Q_CFG_MIN_RATE * (s.tim.tick - x.2))

def State.setTok (s : State) (q v : Nat) : State :=
  { s with swc := { s.swc with tok := sput (0, s.swc.tokTick) s.swc.tok q (v, s.tim.tick) } }

/-- The queue holds a frame that has not wholly crossed. -/
def State.queueHolds (s : State) (q : Nat) : Bool := s.reps.any fun kv => kv.2.q == q && !s.allCrossed kv.2

/-- DC[q] (R302): 0 for a queue with no frames. -/
def State.dcOf (s : State) (q : Nat) : Int := if s.queueHolds q then sgetD s.swc.dc q 0 else 0
def State.setDc (s : State) (q : Nat) (v : Int) : State := { s with swc := { s.swc with dc := sput 0 s.swc.dc q v } }

/-- Queues with an eligible frame. -/
def State.eligibleQueue (s : State) (q : Nat) : Bool := s.voqHeads.any fun kv => kv.2.q == q && s.eligible kv.2

/-- BELOW_MIN (R302). -/
def State.belowMin (s : State) (q : Nat) : Bool :=
  s.cFld (.SWC_Q_CFG q) F.SWC_Q_CFG_MIN_RATE != 0 && s.eligibleQueue q && decide (20480 ≤ s.tokNow q)

/-- The tier of a VOQ by its head (R301); none: the VOQ does not request. -/
def State.tierOf (s : State) (r : Replica) : Option Nat :=
  if 0 < r.crossed then some 5
  else if !s.eligible r then none
  else if s.timeClass s.curSel (classOf r.q) then some 4
  else if s.cFld (.SWC_Q_CFG r.q) F.SWC_Q_CFG_MIN_RATE ≠ 0 ∧ 20480 ≤ s.tokNow r.q then some 3
  else if s.repLate r then some 2
  else if 0 < s.dcOf r.q then some 1
  else none

/-- Some VOQ of the queue is in tier LATE (R313). -/
def State.queueLate (s : State) (q : Nat) : Bool := s.voqHeads.any fun kv => kv.2.q == q && s.tierOf kv.2 == some 2

/-! ## Random drop (R293) -/

/-- One advance of the LFSR. -/
def lfsrNext (x : Nat) : Nat := x / 2 + (x % 2 + x / 4 % 2 + x / 8 % 2 + x / 32 % 2) % 2 * 2 ^ 15

/-- The drop level for an average with 8 fraction bits under a profile. -/
def redLevel (avg : Int) (prof : Word) : Nat :=
  let mn := F.SWC_RED_PROF_MIN.get prof * 256
  let mx := F.SWC_RED_PROF_MAX.get prof * 256
  let a := avg.toNat
  if a < mn then 0
  else if a < mx then F.SWC_RED_PROF_PMAX.get prof * (a - mn) / (mx - mn)
  else 256

/-- The test of R293 on queue `q`: whether the replica is discarded. -/
def State.redTest (s : State) (f : Frame) (q : Nat) : State × Bool :=
  let old := sgetD s.swc.avg q 0
  let diff : Int := (s.qOcc q : Int) * 256 - old
  let avg := old + diff / 2 ^ s.fld .SWC_RED_CFG F.SWC_RED_CFG_WEIGHT_EXP
  let r := lfsrNext (sgetD s.swc.lfsr f.slice 0)
  let s := { s with swc := { s.swc with avg := sput 0 s.swc.avg q avg, lfsr := sput 0 s.swc.lfsr f.slice r } }
  let colour := match f.act with | some a => a.colour | none => 0
  (s, decide (r % 256 < redLevel avg (s.stGet f.sel (.SWC_RED_PROF (classOf q) colour))))

/-! ## Admission (R287 to R297) -/

/-- Cells that the queue's replicas hold of a pool (R290). -/
def State.queuePool (s : State) (q : Nat) (p : Pool) : Nat := s.qCells q fun r => r.pool == p

/-- The dynamic threshold (order 3 of R290): α = 2^(ALPHA - 3). -/
def State.sharedAccepts (s : State) (e k held n : Nat) : Bool :=
  decide (8 * (held + n) ≤ 2 ^ s.classFld e k F.SWC_CLASS_CFG_ALPHA * s.sharedFree) && decide (s.sharedUsed < s.sharedPool)

/-- Cells that spill writes and refill reads have carried in the last 1 µs (R295). -/
def State.spillRecent (s : State) : List (Nat × Nat) := s.swc.spillLog.filter fun x => decide (s.tim.tick < x.1 + 1000)
def State.spillWindow (s : State) : Nat := (s.spillRecent.map Prod.snd).sum

/-- `n` more cells go to or come from the stacks. -/
def State.spillCarry (s : State) (n : Nat) : State :=
  { s with swc := { s.swc with spillLog := (s.tim.tick, n) :: s.spillRecent } }

/-- The replica's frame may be refilled (R296): whole, the first spilled one of its VOQ, fewer than 64 on-die cells ahead of it,
and shared cells free. -/
def State.refillable (s : State) (k : Nat) (r : Replica) : Bool :=
  let ahead := s.reps.filter fun (kv : Nat × Replica) => kv.2.g == r.g && kv.2.q == r.q && decide (kv.1 < k)
  r.inSpillNow && !(ahead.any fun kv => kv.2.inSpillNow) &&
  decide (((ahead.filter fun kv => kv.2.onDie).map fun kv => s.repCells kv.2).sum < 64) &&
  (match s.frame r.frame with
   | some f => f.whole && decide (f.charge ≤ s.sharedFree)
   | none => false)

/-- Cells that wait to be refilled: they take precedence within the budget (R295). -/
def State.refillDue (s : State) : Nat :=
  ((s.reps.filter fun (kv : Nat × Replica) => s.refillable kv.1 kv.2).map fun kv => s.cellsHeld kv.2.frame).sum

/-- The budget of R295 has `n` cells left for a spill write. -/
def State.spillBudget (s : State) (n : Nat) : Bool := decide (s.spillWindow + s.refillDue + n ≤ 18750)

/-- The conditions of R295 but the budget. -/
def State.spillAccepts (s : State) (f : Frame) (q n : Nat) : Bool :=
  s.fld .SWC_SPILL_CFG F.SWC_SPILL_CFG_EN == 1 &&
  (match s.spillStack f.slice with
   | some h => decide (s.spillUsed h + n ≤ s.spillRegion h)
   | none => false) &&
  decide (s.qSpilled q + n ≤ s.fld .SWC_SPILL_CFG F.SWC_SPILL_CFG_MAX * 2 ^ 20) &&
  decide (s.fld .SWC_SPILL_CFG F.SWC_SPILL_CFG_ON ≤ s.qOcc q)

/-- The headroom pool and the limit of R288 allow `n` cells. -/
def State.headroomAccepts (s : State) (f : Frame) (n : Nat) : Bool :=
  let i := s.prioOf f.sel f.cls
  decide (s.headroomHeld f.port i + n ≤
    s.fld .SWC_BUF_CFG F.SWC_BUF_CFG_HEADROOM * s.blkLanes (f.port / 8)) &&
  decide (s.poolUsed .headroom + n ≤ s.headroomPool)

/-- The pool that accepts a replica of the frame for queue `q` (R290). The frame's cells are written once, for its first replica, and
only that one takes of the spill budget (R295). -/
def State.choosePool (s : State) (f : Frame) (q n : Nat) (lossless budget hrOnly : Bool) : State × Option Pool :=
  let headroom := if lossless && s.headroomAccepts f n then some Pool.headroom else none
  if hrOnly then (s, headroom)
  else if s.queuePool q .reserve + n ≤ s.classFld f.sel f.cls F.SWC_CLASS_CFG_RESERVE ∧
      s.poolUsed .reserve < s.reservePool then (s, some .reserve)
  else
    let spill := lossless && s.classFld f.sel f.cls F.SWC_CLASS_CFG_SPILL_EN == 1 && s.spillAccepts f q n
    if spill && f.pool.isSome then (s, some .spill)
    else if spill && budget && s.spillBudget n then (s.spillCarry n, some .spill)
    else
      let s := if spill then { (s.count C.spillRefused) with
          swc := { (s.count C.spillRefused).swc with refusedAt := some s.tim.tick } } else s
      if s.sharedAccepts f.sel f.cls (s.queuePool q .shared) n then (s, some .shared) else (s, headroom)

/-- The frame's cells are charged to the pool of its first replica (R290). -/
def Frame.chargeTo (f : Frame) (p : Pool) (n : Nat) : Frame :=
  if f.pool.isNone then { f with pool := some p, charge := n } else f

/-- A replica admitted to a pool enters its VOQ. -/
def State.addReplica (s : State) (id : Nat) (f : Frame) (q : Nat) (p : Pool) (lossless : Bool) (n : Nat) : State :=
  let f := f.chargeTo p n
  let spilled := f.pool == some Pool.spill
  let st := if spilled then
      (match s.stackOf id with
       | some h => SpillSt.inSpill h
       | none => match s.spillStack f.slice with | some h => .inSpill h | none => .onDie)
    else .onDie
  let ct := !f.fromHost && !f.engine && !spilled && s.stFld f.sel (.PRT_MAC_CFG (portOf q)) F.PRT_MAC_CFG_MODE == 0 &&
    decide (s.speed (portOf q) ≤ s.speed f.port)
  let bad := match f.parse with | some x => x.verdict != Verdict.ok | none => false
  let r : Replica :=
    { frame := id, q := q, g := if f.fromHost || f.engine then 0 else groupOf f.port, pool := p, lossless := lossless,
      ct := ct, noRewrite := bad, vid := f.vid, spill := st, crossed := 0, drained := 0, tx := none, ageChk := false, aged := false,
      yielded := false, xseq := 0 }
  let dc := if s.queueHolds q then s.swc.dc else serase s.swc.dc q
  { s with frames := sinsert s.frames id f, reps := sinsert s.reps s.nextRep r, nextRep := s.nextRep + 1
           swc := { s.swc with dc := dc } }

/-- How a replica fares at enqueue. -/
inductive Fate where | admitted | discarded | refused
  deriving DecidableEq, Repr

/-- Cells reserved or held by time-class frames for port `e` whose transmission has not started (R305). -/
def State.timeHeld (s : State) (e : Nat) : Nat :=
  ((s.reps.filter fun kv => portOf kv.2.q == e && kv.2.tx.isNone && s.timeClass s.curSel (classOf kv.2.q)).map
    fun kv => match s.frame kv.2.frame with | some f => f.taken | none => 0).sum

/-- The pools are tested for one replica (R290). -/
def State.testPools (s : State) (id q : Nat) (f : Frame) (lossless budget hrOnly : Bool) : State × Fate :=
  let n := s.reserveCells f
  let r := s.choosePool f q n lossless budget hrOnly
  match r.2 with
  | some p => (r.1.addReplica id f q p lossless n, .admitted)
  | none => (r.1, .refused)

/-- One replica at enqueue: flushed and parked ports (R190, R188, R292), the time-class test (R305), random drop (R293),
then the pools. The model's choices: with CAPACITY 0 a lossless arrival may still go to headroom, and a port that is DOWN and has not
been UP takes arrivals without a capacity test (log 152). -/
def State.enqueueOne (s : State) (id q : Nat) (budget : Bool) : State × Fate :=
  match s.frame id with
  | none => (s, .discarded)
  | some f =>
    let e := portOf q
    let n := s.reserveCells f
    let lossless := !f.fromHost && !f.engine && s.lossless f.sel f.port f.cls
    let parkFull := s.park e == 1 &&
      decide (s.fld .PRT_PARK_CAP F.PRT_PARK_CAP_CAPACITY < s.qOcc q + s.qSpilled q + n)
    if s.park e = 2 then (s.count (C.flushed e), .discarded)
    else if parkFull && !lossless then (s.count (C.parkDrops e), .discarded)
    else if s.timeClass f.sel f.cls && decide (s.fld .SWC_TIME_CFG F.SWC_TIME_CFG_BURST < s.timeHeld e + 2) then
      ((s.count (C.dropsFull q)).count (C.timeOver e), .discarded)
    else if s.expressClass f.sel f.cls then
      let r := s.redTest f q
      if r.2 then (r.1.count (C.dropsRed q), .discarded) else r.1.testPools id q f lossless budget parkFull
    else s.testPools id q f lossless budget parkFull

/-- A replica that no pool accepts is discarded as queue full, with the yields of R311. -/
def State.dropFull (s : State) (q : Nat) (lossless : Bool) : State :=
  let low := s.belowMin q && decide (0 < s.poolUsed .headroom)
  let s := s.count (C.dropsFull q)
  let s := if lossless then s.count (C.ladderYield 4) else s
  if low then s.count (C.ladderYield 5) else s

/-- Replicas of the queues, ascending; the state and the queues refused by every pool. -/
def State.enqueueAll (s : State) (id : Nat) (budget : Bool) : List Nat → State × List Nat
  | [] => (s, [])
  | q :: qs =>
    let r := s.enqueueOne id q budget
    let rest := r.1.enqueueAll id budget qs
    (rest.1, if r.2 = .refused then q :: rest.2 else rest.2)

/-- The members of group `g` under selector `e` (R298). -/
def State.members (s : State) (g e : Nat) : Nat :=
  match s.rowFor 0x30 g e with
  | some r => wide r.words
  | none => 0

/-- The egress queues of a frame's replicas, ascending (R217, R242, R244, R299). -/
def State.targetQueues (s : State) (f : Frame) : List Nat :=
  match f.route with
  | some (.port e) => if s.isPort e then [16 * e + f.cls] else []
  | some (.mcast g nh) =>
    let m := s.members g f.sel
    ((List.range 1024).filter fun e => m.testBit e && s.isPort e && !(nh && !f.fromHost && e == f.port)).map
      fun e => 16 * e + f.cls
  | _ => []

/-- Host copies of a frame: ring and REASON (R461, R464). -/
def Frame.hostCopies (f : Frame) : List (Nat × Nat) :=
  (match f.route with | some (.ring r why) => [(r, why)] | _ => []) ++
  (match f.copyRing with | some r => [(r, 1)] | none => [])

/-- Cells in a delivery queue. -/
def State.dqCells (s : State) (r : Nat) : Nat := ((s.ring r).dq.map fun x => s.cellsHeld x.frame).sum

/-- HOST_RX_ENQUEUE: a host copy enters its delivery queue or is dropped (R461). -/
def State.hostEnqueue (s : State) (id : Nat) (c : Nat × Nat) : State :=
  match s.frame id with
  | none => s
  | some f =>
    let n := s.reserveCells f
    let held := s.dqCells c.1
    if s.fld (.HST_RING_CFG c.1) F.HST_RING_CFG_EN = 1 ∧ held + n ≤ s.fld .HST_RING_GLOBAL F.HST_RING_GLOBAL_DQ_LIMIT ∧
        s.sharedAccepts f.sel f.cls held n then
      let s := s.putFrame id (f.chargeTo .shared n)
      let x := s.ring c.1
      s.putRing c.1 { x with dq := x.dq ++ [⟨id, c.2⟩] }
    else s.count (C.rxDrops c.1)

/-- The completion of a transmit frame once it is admitted (R468). -/
def State.txAdmitted (s : State) (id : Nat) (full : Bool) : State :=
  let low := match (s.repsOf id).map fun kv => portOf kv.2.q with
    | [] => none
    | p :: ps => some (ps.foldl min p)
  { s with rings := s.rings.map fun kv =>
      (kv.1, { kv.2 with items := kv.2.items.map fun t =>
        if t.frame == some id then
          { t with status := if full then 1 else 0, ready := !t.tsReq || (s.repsOf id).isEmpty, low := low }
        else t }) }

/-- A time-class frame of more than 512 bytes counts at each of its egress ports (R289). -/
def State.countLong (s : State) (id : Nat) : State :=
  (s.repsOf id).foldl (fun (s : State) (kv : Nat × Replica) => s.count (C.timeLong (portOf kv.2.q))) s

/-- The frame stands in its queues: its first cell is written; a frame without references is gone. -/
def State.settleEnqueue (s : State) (id : Nat) : State :=
  match s.frame id with
  | none => s
  | some f =>
    let s := s.putFrame id { f with stage := .queued }
    if s.refs id = 0 then s.frameGone id
    else if f.fromHost || f.engine then
      let s := (s.writeCells id f.ncells).updFrame id fun f => { f with whole := true }
      if s.timeClass f.sel f.cls && decide (2 < f.ncells) then s.countLong id else s
    else (s.writeCell id).pauseEval f.port

/-- A frame that yields no replica counts in the discard counter of what sent it there (R36, R217, R299); one for a ring does
not. -/
def State.countNoReplica (s : State) (f : Frame) : State :=
  if !(s.targetQueues f).isEmpty then s
  else match f.route with
    | some (.mcast _ _) => s.countDrop f C.fwdDrops
    | some (.port _) => s.countDrop f (if (f.act.map Action.redir).getD false then C.pipDrops else C.fwdDrops)
    | _ => s

/-- A frame from the wire, or of the PTP engine, at enqueue. -/
def State.enqueueFrame (s : State) (id : Nat) (f : Frame) (budget : Bool) : State :=
  let qs := s.targetQueues f
  let s := s.countNoReplica f
  let r := s.enqueueAll id budget qs
  let lossless := !f.fromHost && !f.engine && s.lossless f.sel f.port f.cls
  let s := r.2.foldl (fun (s : State) q => s.dropFull q lossless) r.1
  (f.hostCopies.foldl (fun (s : State) c => s.hostEnqueue id c) s).settleEnqueue id

/-- A transmit frame that is not admitted is completed ABORTED (R468, R470). -/
def State.txAbort (s : State) (id : Nat) : State :=
  let s := { s with rings := s.rings.map fun (kv : Nat × Ring) => (kv.1, { kv.2 with
    items := kv.2.items.map fun (t : TxItem) => if t.frame == some id then { t with status := 3, ready := true, frame := none } else t
    held := match kv.2.held with
      | some h => if h.frame = id then none else some h
      | none => none }) }
  ({ s with frames := serase s.frames id }).checkEpoch

/-- A transmit frame at enqueue (R467): with any replica refused none is admitted and the frame is held, or aborted
once its ring is STOPPING; `force` discards the refused replicas and lets the others proceed. -/
def State.enqueueHost (s : State) (id : Nat) (f : Frame) (budget force : Bool) : State :=
  let r := s.enqueueAll id budget (s.targetQueues f)
  if r.2.isEmpty || force then
    let s := r.2.foldl (fun (s : State) q => s.dropFull q false) (r.1.countNoReplica f)
    let s := f.hostCopies.foldl (fun (s : State) c => s.hostEnqueue id c) s
    let s := (s.count (C.txFrames f.port)).txAdmitted id (!r.2.isEmpty)
    let x := s.ring (f.port + 32)
    (s.putRing (f.port + 32) { x with held := none }).settleEnqueue id
  else if s.fld (.HST_RING_STATUS (f.port + 32)) F.HST_RING_STATUS_STATE = 2 then s.txAbort id
  else
    let s := { s with swc := { s.swc with avg := r.1.swc.avg, lfsr := r.1.swc.lfsr } }
    let x := s.ring (f.port + 32)
    if x.held.isSome then s else s.putRing (f.port + 32) { x with held := some ⟨id, s.tim.tick⟩ }

/-- The order of one source's frames (R222, R249): an earlier one still stands before its queues. -/
def State.enqueueBehind (s : State) (id : Nat) (f : Frame) : Bool :=
  s.frames.any fun kv => kv.1 != id && kv.2.port == f.port && kv.2.fromHost == f.fromHost && !kv.2.engine &&
    decide (kv.2.lkSeq < f.lkSeq) &&
    (match kv.2.stage with
     | .lookup => true
     | .tier2 _ _ _ => true
     | .routed => true
     | _ => false)

/-- Some block that the frame would enter accepts no token: a queue's, the buffer's, a ring's (R52). -/
def State.enqueueShut (s : State) (f : Frame) : Bool :=
  s.rstSet 6 8 2 || (s.targetQueues f).any (fun q => s.rstSet 6 (q / 2048) (16 + q % 2048 / 64)) ||
  f.hostCopies.any fun c => s.rstSet 0 2 c.1

/-- ENQUEUE: a routed frame enters its queues at its first cell; `spillBudget` is whether the spill budget allows it. -/
def execEnqueue (id : Nat) (spillBudget : Bool) (s : State) : Answer :=
  .next (
    match s.frame id with
    | none => s
    | some f =>
      if f.stage != Stage.routed || s.enqueueBehind id f || s.enqueueShut f then s
      else if f.fromHost then
        if (s.ring (f.port + 32)).held.isSome then s else s.enqueueHost id f spillBudget false
      else s.enqueueFrame id f spillBudget)

/-- FRAME_LAST_CELL: the last cell is written; unused cells return to the pool, and a long time-class frame is counted
(R289). -/
def execFrameLastCell (id : Nat) (s : State) : Answer :=
  .next (
    match s.frame id with
    | none => s
    | some f =>
      if f.stage != Stage.queued || f.whole || !f.ended || f.bad then s
      else
        let s := s.arriveTo id f.ncells
        match s.frame id with
        | none => s
        | some g =>
          if g.bad then s
          else
            let long := s.shortTime g && decide (2 < g.ncells)
            let s := if long then s.countLong id else s
            (s.putFrame id { g with whole := true, charge := min g.charge g.ncells }).pauseEval g.port)

/-! ## Refill (R296) -/

/-- A refilled replica is on die, and counts in the shared pool if it counted in spill. -/
def Replica.refilled (r : Replica) : Replica :=
  { r with spill := .onDie, pool := if r.pool = .spill then .shared else r.pool }

/-- SPILL_REFILL: the first spilled frame of VOQ (g, q) moves into the shared pool, within the budget of R295; `bad`: its words
read with an uncorrectable error (R297). -/
def execSpillRefill (g q : Nat) (s : State) (bad : BadWords := []) : Answer :=
  .next (
    match s.reps.find? fun (kv : Nat × Replica) => kv.2.g == g && kv.2.q == q && s.refillable kv.1 kv.2 with
    | none => s
    | some (_, r) =>
      match s.frame r.frame with
      | none => s
      | some f =>
        if 18750 < s.spillWindow + f.ncells then s
        else
          let s := s.frameYields
          let s := { s.spillCarry f.ncells with reps := s.reps.map fun (kv : Nat × Replica) =>
            if kv.2.frame = r.frame ∧ kv.2.inSpillNow then (kv.1, kv.2.refilled) else kv }
          let s := s.putFrame r.frame { f.readBad bad with pool := some .shared, cells := [], written := 0 }
          s.writeCells r.frame f.ncells)

/-! ## The matching round (R301 to R304) -/

/-- Requests: the highest tier of the VOQs of ingress group g for ports of egress group h, as (g, h, tier). -/
def addRequest (g h t : Nat) : List (Nat × Nat × Nat) → List (Nat × Nat × Nat)
  | [] => [(g, h, t)]
  | x :: xs => if x.1 = g ∧ x.2.1 = h then (g, h, max t x.2.2) :: xs else x :: addRequest g h t xs

def State.requests (s : State) : List (Nat × Nat × Nat) :=
  s.voqHeads.foldl (fun acc kv => match s.tierOf kv.2 with
    | some t => addRequest kv.2.g (groupOf (portOf kv.2.q)) t acc
    | none => acc) []

/-- The candidate first at or after a pointer, counting upwards modulo `m`. -/
def firstFrom (m ptr : Nat) : List Nat → Option Nat
  | [] => none
  | x :: xs =>
    match firstFrom m ptr xs with
    | some y => if (x + m - ptr) % m ≤ (y + m - ptr) % m then some x else some y
    | none => some x

def maxOf (l : List Nat) : Nat := l.foldl max 0

/-- Grants: for each egress group its highest request, ties by GP. -/
def State.grants (s : State) (reqs : List (Nat × Nat × Nat)) : List (Nat × Nat × Nat) :=
  (List.range 64).filterMap fun h =>
    match reqs.filter fun x => x.2.1 == h with
    | [] => none
    | r :: rs =>
      let t := maxOf ((r :: rs).map fun x => x.2.2)
      match firstFrom 64 (sgetD s.swc.gp (8 * h + t) 0) (((r :: rs).filter fun x => x.2.2 == t).map Prod.fst) with
      | some g => some (g, h, t)
      | none => none

/-- Accepts: for each ingress group the highest grant, ties by AP. -/
def State.accepts (s : State) (gs : List (Nat × Nat × Nat)) : List (Nat × Nat × Nat) :=
  (List.range 64).filterMap fun g =>
    match gs.filter fun x => x.1 == g with
    | [] => none
    | r :: rs =>
      let t := maxOf ((r :: rs).map fun x => x.2.2)
      match firstFrom 64 (sgetD s.swc.ap (8 * g + t) 0) (((r :: rs).filter fun x => x.2.2 == t).map fun x => x.2.1) with
      | some h => some (g, h, t)
      | none => none

/-- Requests of groups that are not matched. -/
def unmatched (m reqs : List (Nat × Nat × Nat)) : List (Nat × Nat × Nat) :=
  reqs.filter fun x => !(m.any fun y => y.1 == x.1 || y.2.1 == x.2.1)

/-- The rung that a tier serves (R301). -/
def rungOf (t : Nat) : Nat := if t = 4 then 2 else if t = 3 then 5 else if t = 2 then 6 else 7

/-- Yields of iteration 1 (R311): a grant of one tier over requests of lower ones. -/
def State.roundYields (s : State) (reqs gs : List (Nat × Nat × Nat)) : State :=
  gs.foldl (fun (s : State) x =>
    [1, 2, 3, 4].foldl (fun (s : State) u =>
      if u < x.2.2 ∧ (reqs.any fun y => y.2.1 == x.2.1 && y.2.2 == u) then s.count (C.ladderYield (rungOf u)) else s) s) s

/-- Pointers move on the accepts of iteration 1 (R303). -/
def State.movePointers (s : State) (acc : List (Nat × Nat × Nat)) : State :=
  acc.foldl (fun (s : State) x => { s with swc := { s.swc with
    gp := sput 0 s.swc.gp (8 * x.2.1 + x.2.2) ((x.1 + 1) % 64),
    ap := sput 0 s.swc.ap (8 * x.1 + x.2.2) ((x.2.1 + 1) % 64) } }) s

/-- Iterations 2 to 4. -/
def State.iterate (s : State) (reqs : List (Nat × Nat × Nat)) : Nat → List (Nat × Nat × Nat) → List (Nat × Nat × Nat)
  | 0, m => m
  | n + 1, m => s.iterate reqs n (m ++ s.accepts (s.grants (unmatched m reqs)))

/-- Cells in the transmit buffer of port `e`. -/
def State.txBuffered (s : State) (e : Nat) : Nat :=
  ((s.reps.filter fun kv => portOf kv.2.q == e).map fun kv => kv.2.crossed - kv.2.drained).sum

/-- Free cells of the transmit buffer of port `e` (R304). -/
def State.txRoom (s : State) (e : Nat) : Nat := 32 * s.blkLanes (e / 8) - s.txBuffered e

/-- Cells of a replica that could move: written, not crossed, with room at the port. -/
def State.movable (s : State) (r : Replica) (budget : Nat) : Nat :=
  match s.frame r.frame with
  | some f => min (min budget ((if f.whole then f.ncells else f.written) - r.crossed)) (s.txRoom (portOf r.q))
  | none => 0

/-- Cells of a unicast frame return to their pool as they cross (R290). -/
def State.leaveBuffer (s : State) (id n : Nat) : State :=
  match s.frame id with
  | some f =>
    let s := if f.unicast then s.putFrame id { f with left := f.left + n } else s
    if f.fromHost || f.engine then s else s.pauseEval f.port
  | none => s

/-- `n` cells of a replica cross (R302, R304). With the last one the next replica reaches the head (R189). -/
def State.moveCells (s : State) (k : Nat) (r : Replica) (n : Nat) : State :=
  let dc := s.dcOf r.q
  let s := if r.crossed = 0 then
      ({ s with nextLk := s.nextLk + 1 }).putRep k { r with crossed := n, xseq := s.nextLk }
    else s.putRep k { r with crossed := r.crossed + n }
  let s := s.setTok r.q (s.tokNow r.q - 20480 * n)
  ((s.setDc r.q (dc - 256 * n)).leaveBuffer r.frame n).ageCheck (portOf r.q)

/-- Part 1 of R304: frames of g that are crossing to ports of h, the ports in rotation. -/
def State.serveCrossing (s : State) (g h : Nat) (served : Bool) : List Nat → Nat → State × Nat
  | [], b => (s, b)
  | i :: is, b =>
    let e := 16 * h + i
    match s.voqHeads.find? fun kv => kv.2.g == g && portOf kv.2.q == e && decide (0 < kv.2.crossed) with
    | none => s.serveCrossing g h served is b
    | some (k, r) =>
      let n := s.movable r b
      if n = 0 then s.serveCrossing g h served is b
      else
        let s := s.moveCells k r n
        let s := if served then s else { s with swc := { s.swc with rotPort := sput 0 s.swc.rotPort (64 * g + h) ((i + 1) % 16) } }
        s.serveCrossing g h true is (b - n)

/-- Part 2 of R304: first cells of new frames from the highest tier, VOQs by a rotating pointer. -/
def State.serveNew (s : State) (g h : Nat) : Nat → Nat → State
  | 0, _ => s
  | n + 1, b =>
    if b = 0 then s
    else
      let heads := s.voqHeads.filter fun kv => kv.2.g == g && groupOf (portOf kv.2.q) == h && kv.2.crossed == 0 &&
        (s.crossing (portOf kv.2.q)).isNone && (s.tierOf kv.2).isSome && decide (0 < s.movable kv.2 b)
      match heads with
      | [] => s
      | _ =>
        let t := maxOf (heads.map fun kv => (s.tierOf kv.2).getD 0)
        let key := 8 * (64 * g + h) + t
        let top := heads.filter fun kv => s.tierOf kv.2 == some t
        match firstFrom 256 (sgetD s.swc.rotVoq key 0) (top.map fun kv => kv.2.q % 256) with
        | none => s
        | some j =>
          match top.find? fun kv => kv.2.q % 256 == j with
          | none => s
          | some (k, r) =>
            let m := s.movable r b
            let s := s.moveCells k r m
            let s := { s with swc := { s.swc with rotVoq := sput 0 s.swc.rotVoq key ((j + 1) % 256) } }
            s.serveNew g h n (b - m)

/-- A matched pair moves up to 8 cells. -/
def State.movePair (s : State) (x : Nat × Nat × Nat) : State :=
  let g := x.1
  let h := x.2.1
  let rot := sgetD s.swc.rotPort (64 * g + h) 0
  let r := s.serveCrossing g h false ((List.range 16).map fun i => (rot + i) % 16) 8
  r.1.serveNew g h 8 r.2

/-- Cells that have arrived since the previous round; the last cell is written by FRAME_LAST_CELL. -/
def State.takeArrivals (s : State) (arrived : List (Nat × Nat)) : State :=
  arrived.foldl (fun (s : State) x => match s.frame x.1 with
    | some f =>
      if f.stage == Stage.queued && !f.whole then s.arriveTo x.1 (min (f.written + x.2) (max f.written (f.ncells - 1)))
      else s
    | none => s) s

/-- The MAC of port `x.1` has needed `x.2` further cells: drained, or an underrun (R177). -/
def State.drainPort (s : State) (x : Nat × Nat) : State :=
  match s.transmitting x.1 with
  | none => s
  | some k =>
    match s.rep k with
    | none => s
    | some r =>
      if s.allCrossed r then s.putRep k { r with drained := min r.crossed (r.drained + x.2) }
      else if r.crossed < r.drained + x.2 then
        ((s.putRep k { r with drained := r.crossed }).count (C.prtTxUnderrun x.1)).stompRep k
      else s.putRep k { r with drained := r.drained + x.2 }

/-- DC of R302: none for a queue without frames, and growth while no queue of a port with eligible frames is OPEN. -/
def State.growDeficits (s : State) : State :=
  let s := { s with swc := { s.swc with dc := s.swc.dc.filter fun kv => s.queueHolds kv.1 } }
  let qs := ((s.voqHeads.filter fun kv => s.eligible kv.2).map fun kv => kv.2.q).eraseDups
  ((qs.map portOf).eraseDups).foldl (fun (s : State) e =>
    let own := qs.filter fun q => portOf q == e
    if own.any fun q => decide (0 < s.dcOf q) then s
    else
      let w (q : Nat) : Nat := max 1 (s.cFld (.SWC_Q_CFG q) F.SWC_Q_CFG_WEIGHT)
      let need (q : Nat) : Nat := (-(s.dcOf q)).toNat / (256 * w q) + 1
      match own.map need with
      | [] => s
      | k :: ks =>
        let times := ks.foldl min k
        own.foldl (fun (s : State) q => s.setDc q (s.dcOf q + 256 * w q * times)) s) s

/-- Ports whose age check runs (R189). -/
def State.ageChecks (s : State) : State :=
  (((s.reps.filter fun kv => kv.2.ageChk).map fun kv => portOf kv.2.q).eraseDups).foldl
    (fun (s : State) p => s.ageCheck p) s

/-- MATCHING_ROUND: cells written and drained since the last round, then one round of four iterations and the crossings; none
in scan hold (R537). -/
def execMatchingRound (arrived drained : List (Nat × Nat)) (s : State) : Answer :=
  .next (
    if s.boot.scanHold then s
    else
    let s := drained.foldl State.drainPort (s.takeArrivals arrived)
    let s := s.ageChecks.growDeficits.frameYields
    let reqs := s.requests
    let gs := s.grants reqs
    let acc := s.accepts gs
    let s := s.roundYields reqs gs
    let m := s.iterate reqs 3 acc
    (m.foldl State.movePair (s.movePointers acc)).frameYields)

/-- BANK_COPY_DONE: the live rows of a swapped-out bank are copied (R308). -/
def execBankCopyDone (bank : Nat) (s : State) : Answer :=
  .next { s with swc := { s.swc with bankCopy := s.swc.bankCopy.filter fun x => x.1 != bank } }

end Sys2Proof.Machine
end

