-- ==== Sys2Proof/Machine/Transmit.lean ====
section
/-! DEFINITION. The transmit side of the MAC: gates (R345), the start of a frame with its timestamp and rewrites (R32, R244,
R326, R336, R339), and its end (R284, R297, R299, R497, R498). -/
namespace Sys2Proof.Machine

/-! ## Gates (R345) -/

/-- The time each entry of a schedule lasts; the last one holds to the end of the cycle. -/
def Sched.spans (x : Sched) : List (Nat × Nat) :=
  let used := (x.entries.map Prod.snd).sum
  match x.entries.reverse with
  | [] => []
  | e :: es => (es.reverse) ++ [(e.1, e.2 + (x.cycle - used))]

/-- Time that class `k` stays open over the entries from the head on. -/
def openFor (k : Nat) : List (Nat × Nat) → Nat
  | [] => 0
  | e :: es => if e.1.testBit k then e.2 + openFor k es else 0

/-- The longest open interval of class `k`, an interval that runs into the next cycle among them; none: always open. -/
def Sched.longestOpen (x : Sched) (k : Nat) : Option Nat :=
  let sp := x.spans
  if sp.all fun e => e.1.testBit k then none
  else some (maxOf ((List.range sp.length).map fun i => openFor k (sp.drop i ++ sp.take i)))

/-- How long class `k` stays open from the head of an entry on, the entries rotated by `i`; none: it never closes. -/
def Sched.opensFor (x : Sched) (k i : Nat) : Option Nat :=
  let sp := x.spans
  if !x.en || (sp.all fun e => e.1.testBit k) then none else some (openFor k (sp.drop i ++ sp.take i))

/-- The integer nanosecond at which the gate of class `k`, open now at port `p`, closes; none: no close is scheduled. A pending
schedule cuts the operational one at its change time (R346). -/
def State.closeAt (s : State) (p k : Nat) : Option Nat :=
  let g := s.gate p
  let own : Option Nat := match g.oper with
    | some x => (x.opensFor k (g.idx + 1)).map (g.next + ·)
    | none => none
  match g.pend with
  | some (x, t) => if own.any fun c => decide (c < t) then own else (x.opensFor k 0).map (t + ·)
  | none => own

/-- Whether a frame of `len` bytes ends before its gate closes (R345): 8 × (L + 20) / speed, speed in Gb/s, from T as it stands, in
steps of 2^-32 ns. -/
def State.fitsGate (s : State) (p k len : Nat) : Bool :=
  match s.closeAt p k with
  | none => true
  | some c => decide (8 * (len + 20) * 2 ^ 32 < (c * 2 ^ 32 - s.tim.t.toNat) * s.speed p)

/-- A frame that fits in none of its queue's open intervals (R345): started as one begins, it does not end before the close. -/
def State.neverFits (s : State) (p k len : Nat) : Bool :=
  match (s.gate p).oper with
  | none => false
  | some x =>
    x.en && (match x.longestOpen k with
      | none => false
      | some d => decide (d * s.speed p ≤ 8 * (len + 20)))

/-- An open interval of class `k` at port `p` begins: its gate has opened within the 5 ns that the MAC may take (R345). -/
def State.gateOpening (s : State) (p k : Nat) : Bool :=
  match (s.gate p).opened.find? fun x => x.1 == k with
  | some x => decide (s.tim.tick ≤ x.2 + 5)
  | none => false

/-! ## Start (R32 step 12, R186, R304, R326) -/

def freshPtp : PtpPort := ⟨0, 0, 0, 0, none, none, none, [], none, none, 0⟩
def State.ptpPort (s : State) (p : Nat) : PtpPort := sgetD s.tim.ptp p freshPtp
def State.putPtp (s : State) (p : Nat) (x : PtpPort) : State :=
  { s with tim := { s.tim with ptp := sput freshPtp s.tim.ptp p x } }

/-- What the engine notes when a frame of its own starts: t1 of a two-step Sync, t3 of a Delay_Req (R336, R337). -/
def State.noteEngine (s : State) (f : Frame) (ts : Nat) : State :=
  let x := s.ptpPort f.port
  let seq := beAt f.bytes 44 2
  match byteAt f.bytes 14 % 16 with
  | 0 => if twoStep f.bytes then s.putPtp f.port { x with fup := some (seq, s.timeOf ts) } else s
  | 1 =>
    match x.req with
    | some (q, t, _) => if q = seq then s.putPtp f.port { x with req := some (q, t, some (s.timeOf ts)) } else s
    | none => s
  | _ => s

/-- The frame that the MAC of port `p` would start: the first in its transmit buffer, with its first two cells, or all. -/
def State.nextToSend (s : State) (p : Nat) : Option (Nat × Replica) :=
  let xs := s.reps.filter fun kv => portOf kv.2.q == p && decide (0 < kv.2.crossed) && kv.2.tx.isNone
  match xs.find? fun (kv : Nat × Replica) => !(xs.any fun (x : Nat × Replica) => decide (x.2.xseq < kv.2.xseq)) with
  | some kv => if 2 ≤ kv.2.crossed ∨ s.allCrossed kv.2 then some kv else none
  | none => none

/-- A transmit frame's timestamp is that of its lowest-numbered port (R468). -/
def State.stampTx (s : State) (id e ts : Nat) : State :=
  { s with rings := s.rings.map fun kv =>
      (kv.1, { kv.2 with items := kv.2.items.map fun t =>
        if t.frame == some id && t.low == some e then { t with stamp := some ts } else t }) }

/-- FRAME_TX_START: `lane` carries the event bit, which crosses the transmit balls at `ball` (2^-16 ns). -/
def execFrameTxStart (p lane ball : Nat) (s : State) : Answer :=
  .next (
    if !s.portIsUp p || (s.transmitting p).isSome || s.pauseWaits p || lane < p || p + s.blkLanes (p / 8) ≤ lane then s
    else match s.nextToSend p with
      | none => s
      | some (k, r) =>
        match s.frame r.frame with
        | none => s
        | some f =>
          let c := classOf r.q
          let len := if f.whole then f.len else s.maxFrame s.curSel p
          let never := s.neverFits p c len
          if s.queuePaused r.q || !s.gateOpen r.q || !(if never then s.gateOpening p c else s.fitsGate p c len) then s
          else
            let s := s.frameYields
            let ts := (s.chipTime lane ball + 16 * s.stFld f.sel (.TIM_PORT_LAT p) F.TIM_PORT_LAT_TX_LAT) % 2 ^ 64
            let s := s.updRep k fun r => { r with tx := some ts }
            let s := if never then s.count (C.gateOverrun p) else s
            let s := if s.tcUpdates f r then s.count (C.ptpTc p) else s
            let s := if f.engine then s.noteEngine f ts else s
            if f.fromHost then s.stampTx r.frame p ts else s)

/-! ## End -/

/-- The bin of a latency in ns (R498). -/
def latBin (e x : Nat) : Nat :=
  if x < 2 ^ e then 0
  else
    let l := Nat.log2 x
    min 63 (1 + 4 * (l - e) + x * 4 / 2 ^ l % 4)

/-- Latency of a replica (R497), and its bin. -/
def latency (f : Frame) (ts e : Nat) : Nat :=
  if f.fromHost || f.engine then latBin e ((ts / 65536 + 2 ^ 32 - f.admitT) % 2 ^ 32)
  else
    let d := tsDiff ts f.ts
    if d < 0 then 0 else latBin e (d.toNat / 65536)

/-- The histogram counts a replica sent whole (R497). -/
def State.histCount (s : State) (f : Frame) (r : Replica) (ts : Nat) : State :=
  let p := portOf r.q
  let w := s.get (.SWC_HIST_CFG p)
  if F.SWC_HIST_CFG_EN.get w = 1 ∧ (F.SWC_HIST_CFG_CLASSES.get w).testBit (classOf r.q) then
    s.count (C.latHist p (latency f ts (F.SWC_HIST_CFG_MIN_EXP.get w)))
  else s

/-- What the code of R284 saw while the replica was read becomes the frame's: bad words, and the first bad link word read. -/
def Frame.seen (f : Frame) (r : Replica) (ecc : EccSeen) : Frame :=
  let links := (f.badLink.toList ++ ecc.link.toList).filter fun i => decide (i < r.crossed)
  { f.readBad ecc.bad with badLink := match links with | [] => f.badLink | i :: is => some (is.foldl min i) }

/-- The replica ends before its last cell: the cell with the bad link word has crossed (R284). -/
def Frame.cutShort (f : Frame) (r : Replica) : Bool :=
  match f.badLink with | some i => decide (i < r.crossed) | none => false

/-- The frame as it ends on the wire: whole, or with a stomped FCS (R284, R297, R434). -/
def State.endFrame (s : State) (f : Frame) (r : Replica) (ts : Nat) : State :=
  let lost := match r.spill with | .lost _ => true | _ => false
  if lost || f.faulty then
    let b := s.stompedBody f r ts
    (s.emit (.frame (portOf r.q) (b ++ stompFcs b) true)).count C.bufEccStomped
  else
    let s := (s.emit (.frame (portOf r.q) (s.wireBytes f r ts) false)).histCount f r ts
    if f.engine then s.count (C.ptpTx (portOf r.q)) else s

/-- FRAME_TX_END: the frame in transmission ends, with what the code of R284 saw while it was read. In scan
hold the boundary register has its pins, and it does not end (R537). -/
def execFrameTxEnd (p : Nat) (ecc : EccSeen) (s : State) : Answer :=
  .next (
    if s.boot.scanHold then s
    else match s.transmitting p with
    | none => s
    | some k =>
      match s.rep k with
      | none => s
      | some r =>
        match s.frame r.frame, r.tx with
        | some f, some ts =>
          let g := f.seen r ecc
          if !s.allCrossed r && !g.cutShort r then s
          else
            let s := (s.countN C.bufEccCorrected ecc.corrected).putFrame r.frame g
            ((s.endFrame g r ts).release k).ageCheck p
        | _, _ => s)

end Sys2Proof.Machine
end

