-- ==== Sys2Proof/Machine/Time.lean ====
section
/-! DEFINITION. Saffron (R319 to R349): the tick, time commands, steps of T, trigger units, captures, gate schedules, and
the two engines. -/
namespace Sys2Proof.Machine

/-! ## State of the core -/

/-- An engine is active (R347, R349). -/
def State.engineOn (s : State) : Bool := s.tim.ticking && s.fld .TIM_SAF_STATUS F.TIM_SAF_STATUS_ACTIVE != 2

/-- TIM_OSC_QUAL_STATUS.STATE: 0 PRESENCE, 1 WAIT_WARM, 2 STABILITY, 3 QUALIFIED, 4 SUBSTITUTE (R81). -/
def State.oscState (s : State) : Nat := s.fld .TIM_OSC_QUAL_STATUS F.TIM_OSC_QUAL_STATUS_STATE
def State.qualified (s : State) : Bool := s.oscState == 3

/-- Output of PPS_OUT and CLK_OUT is held low (R70, R341, R349). -/
def State.outputsHeld (s : State) : Bool := !s.qualified || !s.engineOn

/-- Selection states of TIM_SEL_STATUS (R384): 0 WAIT_OSC, 1 FREE, 2 SWITCHING, 3 LOCKED, 4 HOLDOVER. -/
def State.selState (s : State) : Nat := s.fld .TIM_SEL_STATUS F.TIM_SEL_STATUS_STATE

/-- Every raised instance of a code clears (R445, R446). -/
def State.clearCode (s : State) (code : Nat) : State :=
  (s.hlt.raised.filter fun x => x.1 == code).foldl (fun (s : State) x => s.eventClear code x.2) s

/-- The selection state changes (R367, R472): SEL_STATE, and the conditions that end with the state left. -/
def State.setSelState (s : State) (v : Nat) : State :=
  let old := s.selState
  if old = v then s
  else
    let s := s.setFld .TIM_SEL_STATUS F.TIM_SEL_STATUS_STATE v
    let s := if old = 4 then
        ((s.setFld .TIM_SEL_STATUS F.TIM_SEL_STATUS_HO_EXPIRED 0).clearCode Ev.holdoverEnter).clearCode Ev.holdoverExpired
      else if old = 1 then s.clearCode Ev.freeRun else s
    let s := if v = 2 ∨ v = 3 then s else s.setFld .TIM_SEL_STATUS F.TIM_SEL_STATUS_ACTIVE_VALID 0
    (if v = 3 then s else s.setFld .TIM_SEL_STATUS F.TIM_SEL_STATUS_SETTLED 0).irqEvent 88

/-- T in steps of 2^-32 ns. -/
def State.t32 (s : State) : Int := (s.tim.t.toNat : Nat)

/-- INC is clamped to 2^32 ± 2^20 (R320). -/
def clampInc (x : Int) : Int := max (-(2 ^ 20)) (min (2 ^ 20) x)

/-- SLEW_PPB in steps of 2^-32 ns a tick (R322): rounded half away from zero, at least 1. -/
def State.slewStep (s : State) : Nat :=
  max 1 ((s.fld .TIM_SAF_CFG F.TIM_SAF_CFG_SLEW_PPB * 2 ^ 32 * 2 + 1000000000) / 2000000000)

/-- The offset that a slew asks for at this tick (R322). -/
def State.slewAsk (s : State) : Int :=
  let k : Int := s.slewStep
  if s.tim.slew.natAbs < s.slewStep then s.tim.slew else if s.tim.slew < 0 then -k else k

/-- What of the slew the clamp lets through at this tick. -/
def State.slewPart (s : State) : Int := clampInc (s.tim.servo + s.slewAsk) - s.tim.servo

/-- INC in steps of 2^-32 ns (R320). -/
def State.inc (s : State) : Int := 2 ^ 32 + s.tim.servo + s.slewPart

/-- SLEW_COMPLETE: nothing remains of the slew (R322). -/
def State.slewEnd (s : State) : State :=
  if s.tim.slew = 0 then s.setFld .TIM_SAF_STATUS F.TIM_SAF_STATUS_SLEWING 0 else s

/-- One tick of Saffron: the active engine adds INC to T; with no engine active T follows the tick unsteered (R320, R349). -/
def State.saffronTick (s : State) : State :=
  if !s.tim.ticking then s
  else if !s.engineOn then { s with tim := { s.tim with t := s.tim.t + BitVec.ofNat 96 (2 ^ 32), tick := s.tim.tick + 1 } }
  else
    let part := s.slewPart
    let t := s.tim.t + BitVec.ofNat 96 s.inc.toNat
    let s := { s with tim := { s.tim with t := t, tick := s.tim.tick + 1, slew := s.tim.slew - part } }
    s.slewEnd

/-! ## Counter samples and captures (R490, R494) -/

/-- A sample of a counter: STATE code (0 OK, 1 ABSENT, 2 NONE) and the counter. -/
def State.sample (s : State) (id : Nat) : Nat × Cnt :=
  if !cntAssigned id then (2, ⟨0, false⟩)
  else match cntPort id with
    | some p => if s.isPort p then (0, s.counter id) else (1, ⟨0, false⟩)
    | none => (0, s.counter id)

/-- STEP_SEQ in bits [31:16] beside bits [47:32] of the time (R491). -/
def State.stepTime (s : State) (ns : Nat) : Word :=
  BitVec.ofNat 32 (ns / 2 ^ 32 % 2 ^ 16 + s.tim.stepSeq % 2 ^ 16 * 2 ^ 16)

/-- COUNTER_CAPTURE: the members of capture set `j` are copied with a common sample time (R494, R495). -/
def State.capture (s : State) (j ns : Nat) : State :=
  let copy (s : State) (m : Nat) : State :=
    let w := s.get (.HLT_CAP_MEMBER j m)
    let c := if F.HLT_CAP_MEMBER_VALID.get w = 1 then (s.sample (F.HLT_CAP_MEMBER_ID.get w)).2 else ⟨0, false⟩
    let s := (s.put (.HLT_CAP_VAL_L j m) (c.val.setWidth 32)).put (.HLT_CAP_VAL_H j m) ((c.val >>> 32).setWidth 32)
    let r : Reg := if m < 32 then .HLT_CAP_WRAP_L j else .HLT_CAP_WRAP_H j
    let old := (s.get r).toNat
    s.put r (BitVec.ofNat 32 (if c.wrap then setBit old (m % 32) else clrBit old (m % 32)))
  let s := (List.range 64).foldl copy s
  let s := (s.put (.HLT_CAP_TIME_L j) (BitVec.ofNat 32 ns)).put (.HLT_CAP_TIME_H j) (s.stepTime ns)
  (s.put (.HLT_CAP_SEQ j) (s.get (.HLT_CAP_SEQ j) + 2)).irqEvent (80 + j)

/-! ## Trigger units (R340 to R343) -/

def idleTrig : Trig := ⟨0, 0, 0, 0, none, none, []⟩
def State.trig (s : State) (k : Nat) : Trig := sgetD s.tim.trigs k idleTrig
def State.putTrig (s : State) (k : Nat) (x : Trig) : State :=
  { s with tim := { s.tim with trigs := sput idleTrig s.tim.trigs k x } }

/-- The committed offset of PPS_OUT k: a signed 48-bit value in units of 2^-16 ns (R381). -/
def State.ppsOffset (s : State) (k : Nat) : Int :=
  let v : Nat := s.cFld (.TIM_PPS_OFS_H k) F.TIM_PPS_OFS_H_OFS * 2 ^ 32 + (s.committed (.TIM_PPS_OFS_L k)).toNat
  if v < 2 ^ 47 then v else (v : Int) - 2 ^ 48

def us16 : Int := 1000 * 65536

/-- The pulse of an instant is planned with the offset `ofs` (R341, R381): omitted less than 1 µs after the arming write or after
the fall of the pulse before it. -/
def Trig.plan (x : Trig) (ofs i : Int) : Trig :=
  let rise := i + ofs
  let close := rise < x.armedAt + us16 || x.pulses.any fun p => decide (rise < p.fall + us16)
  if close then { x with planned := some i }
  else { x with planned := some i, pulses := x.pulses ++ [⟨i, rise, rise + us16 * x.width, false⟩] }

/-- The next instants whose edges the offset `ofs` may put at or before the next instant, and one more, within COUNT (R340, R381);
`fired` instants have been taken. -/
def Trig.ahead (x : Trig) (ofs : Int) (fired : Nat) : List Int :=
  match x.next with
  | none => []
  | some nx =>
    let p := x.period * 65536
    let n := if p = 0 then 0 else (0 - ofs).toNat / p + 1
    let n := if x.count = 0 then n else min n (x.count - 1 - fired)
    (List.range (n + 1)).map fun m => nx + (m * p : Nat)

/-- The instant's pulse is planned already. -/
def Trig.isPlanned (x : Trig) (i : Int) : Bool := match x.planned with | some j => decide (i ≤ j) | none => false

/-- The pulses ahead of PPS_OUT k are planned. -/
def State.planPulses (s : State) (k : Nat) (x : Trig) : Trig :=
  if 4 ≤ k then x
  else
    (x.ahead (s.ppsOffset k) (s.get (.TIM_TRIG_FIRED k)).toNat).foldl
      (fun y i => if y.isPlanned i then y else y.plan (s.ppsOffset k) i) x

def State.setTrigStatus (s : State) (k : Nat) (f : Fld) (v : Nat) : State := s.setFld (.TIM_TRIG_STATUS k) f v

/-- Smallest m with a + m·p ≥ b, for p > 0. -/
def stepsTo (a b : Int) (p : Nat) : Nat := if b ≤ a then 0 else ((b - a + p - 1) / (p : Int)).toNat

/-- TRIGGER_ARM: EN from 0 to 1 copies the settings and finds the first instant (R340, R341). -/
def State.armTrigger (s : State) (k : Nat) : State :=
  let start : Int := (s.get (.TIM_TRIG_START_F k)).toNat % 65536 +
    65536 * ((s.get (.TIM_TRIG_START_L k)).toNat + 2 ^ 32 * (s.get (.TIM_TRIG_START_H k)).toNat : Nat)
  let period := (s.get (.TIM_TRIG_PERIOD k)).toNat
  let count := (s.get (.TIM_TRIG_COUNT k)).toNat
  let width := s.fld (.TIM_TRIG_CTRL k) F.TIM_TRIG_CTRL_WIDTH
  let w := s.full16
  let bad := (k < 4 && period != 0 && decide (period ≤ width * 1000)) || (4 ≤ k && k < 8 && decide (period ≤ 1))
  let first : Option Int :=
    if bad then none
    else if w + us16 ≤ start then some start
    else if period ≠ 0 then some (start + stepsTo start (w + us16) (period * 65536) * (period * 65536 : Nat))
    else none
  let s := s.put (.TIM_TRIG_FIRED k) 0#32
  match first with
  | none =>
    let s := (s.setTrigStatus k F.TIM_TRIG_STATUS_MISSED 1).setTrigStatus k F.TIM_TRIG_STATUS_ARMED 0
    (s.setFld (.TIM_TRIG_CTRL k) F.TIM_TRIG_CTRL_EN 0).putTrig k { s.trig k with next := none }
  | some i =>
    let s := s.setTrigStatus k F.TIM_TRIG_STATUS_ARMED 1
    let s := s.setTrigStatus k F.TIM_TRIG_STATUS_SUPPRESSED (if k < 8 && s.outputsHeld then 1 else 0)
    let x : Trig := { armedAt := w, period := period, count := count, width := width, next := some i, planned := none,
                      pulses := (s.trig k).pulses.filter fun p => decide (s.full16 < p.fall) }
    s.putTrig k (s.planPulses k x)

/-- The output of trigger unit `k` is not held low (R341). -/
def State.outputOn (s : State) (k : Nat) : Bool :=
  !s.outputsHeld && s.fld (.TIM_TRIG_STATUS k) F.TIM_TRIG_STATUS_SUPPRESSED == 0

/-- The pulse has risen. -/
def Pulse.risen (p : Pulse) (now : Int) : Bool := p.up || decide (p.rise ≤ now)

/-- The pulse is high. -/
def Pulse.high (p : Pulse) (now : Int) : Bool := p.risen now && decide (now < p.fall)

/-- TRIGGER_STOP: EN := 0 stops the unit; a pulse or clock cycle already started completes, and pulses that have not risen are
cancelled (R340, R381). -/
def State.stopTrigger (s : State) (k : Nat) : State :=
  let x := s.trig k
  let s := (s.setFld (.TIM_TRIG_CTRL k) F.TIM_TRIG_CTRL_EN 0).setTrigStatus k F.TIM_TRIG_STATUS_ARMED 0
  s.putTrig k { x with next := none, pulses := x.pulses.filter fun p => p.risen s.full16 }

/-- The unit has taken its last instant. -/
def State.trigDone (s : State) (k : Nat) (x : Trig) : State :=
  let s := (s.setFld (.TIM_TRIG_CTRL k) F.TIM_TRIG_CTRL_EN 0).setTrigStatus k F.TIM_TRIG_STATUS_ARMED 0
  (s.setTrigStatus k F.TIM_TRIG_STATUS_DONE 1).putTrig k { x with next := none }

/-- What instant `i`, taken now, does to the pulses of unit `k` (R341, R343): a clock cycle begins; at a forward step the pulse of the
instant rises that the step has passed, and those of the instants skipped before `nx` are omitted. -/
def Trig.fire (x : Trig) (k : Nat) (i now nx : Int) (late : Bool) : Trig :=
  if k < 4 then
    if !late then x
    else { x with pulses := (x.pulses.filter fun p => p.up || decide (p.inst ≤ i) || decide (nx ≤ p.inst)).map fun p =>
      if p.inst = i ∧ !p.up ∧ p.rise ≤ now then ⟨i, now, now + us16 * x.width, true⟩ else p }
  else if k < 8 then
    let rise := if late then now else i
    { x with pulses := [⟨i, rise, rise + (x.period * 32768 : Nat), true⟩] }
  else x

/-- Unit `k` acts at instant `i`; `late` at a forward step, at which a pulse that the step passes rises (R340 to R343). -/
def State.fireTrigger (s : State) (k : Nat) (i : Int) (late : Bool) : State :=
  let x := s.trig k
  let fired := (s.get (.TIM_TRIG_FIRED k)).toNat + 1
  let s := s.put (.TIM_TRIG_FIRED k) (BitVec.ofNat 32 fired)
  let s := if late then s.setTrigStatus k F.TIM_TRIG_STATUS_LATE 1 else s
  let held := k < 8 && s.outputsHeld
  let s := if k < 8 then s.setTrigStatus k F.TIM_TRIG_STATUS_SUPPRESSED (if held then 1 else 0) else s
  let p := x.period * 65536
  let nx := if late then i + stepsTo i (s.full16 + 1) p * (p : Nat) else i + (p : Nat)
  let x := if held then { x with pulses := x.pulses.filter fun p => p.inst != i } else x.fire k i s.full16 nx late
  let s := s.putTrig k x
  let s := if 8 ≤ k then s.capture (k - 8) (if late then s.nowNs else (i / 65536).toNat) else s
  let counts := !(4 ≤ k && k < 8) && x.count != 0 && decide (x.count ≤ fired)
  if x.period = 0 || counts then s.trigDone k x else s.putTrig k (s.planPulses k { x with next := some nx })

/-- TRIGGER_INSTANT: T has reached the unit's instant. -/
def execTriggerInstant (k : Nat) (s : State) : Answer :=
  .next (
    match (s.trig k).next with
    | some i => if k < 16 ∧ i ≤ s.full16 then s.fireTrigger k i false else s
    | none => s)

/-- PPS_PULSE_END: pulses whose fall T has reached end (R341). -/
def execPpsPulseEnd (k : Nat) (s : State) : Answer :=
  .next (if k < 4 then
      s.putTrig k { s.trig k with pulses := (s.trig k).pulses.filter fun p => decide (s.full16 < p.fall) }
    else s)

/-- PPS_OUTk at its pin (R341). -/
def State.ppsPin (s : State) (k : Nat) : Bool :=
  s.outputOn k && (s.trig k).pulses.any fun p => p.high s.full16

/-- CLK_OUTk at its pin (R341): high for the first half of each period. -/
def State.clkPin (s : State) (k : Nat) : Bool :=
  s.outputOn (4 + k) && (s.trig (4 + k)).pulses.any fun p => p.high s.full16

/-- A committed offset in place of `old` (R381): it moves the pulses whose new edges lie at least 1 µs ahead. -/
def State.newPpsOffset (s : State) (k : Nat) (old : Int) : State :=
  let x := s.trig k
  let now := s.full16
  let new := s.ppsOffset k
  let taken (i : Int) : Bool := match x.next with | some nx => decide (i < nx) | none => true
  let fired := (s.get (.TIM_TRIG_FIRED k)).toNat
  let waiting := (x.pulses.filter fun p => !p.risen now && taken p.inst).map Pulse.inst
  let ahead := x.ahead (min new old) fired
  let up := (x.pulses.filter fun p => p.risen now).map Pulse.inst
  s.putTrig k (((waiting ++ ahead).filter fun i => !up.contains i).foldl
    (fun y i => if i + new < now + us16 then y.plan old i else y.plan new i)
    { x with pulses := x.pulses.filter fun p => p.risen now })

/-! ## Gate schedules (R345, R346) -/

/-- Gates of the entry in force. -/
def Sched.maskAt (x : Sched) (i : Nat) : Nat :=
  if !x.en then 65535 else match x.entries[i]? with | some e => e.1 | none => 65535

/-- End of entry `i` of the cycle that starts at `start`. -/
def Sched.endOf (x : Sched) (start i : Nat) : Nat := start + ((x.spans.take (i + 1)).map Prod.snd).sum

/-- The gates take a mask at tick `t`: the open interval of each class that was closed begins. -/
def Gate.open' (g : Gate) (mask t : Nat) : Gate :=
  let fresh := (List.range 16).filter fun c => mask.testBit c && !g.mask.testBit c
  { g with mask := mask, opened := (g.opened.filter fun x => mask.testBit x.1 && !fresh.contains x.1) ++ fresh.map fun c => (c, t) }

/-- A schedule runs from the start of a cycle, at tick `t`. -/
def Gate.begin (g : Gate) (x : Sched) (start t : Nat) : Gate :=
  { (g.open' (x.maskAt 0) t) with oper := some x, start := start, idx := 0, next := x.endOf start 0, pend := none }

/-- A change of port `p`'s gates; what a frame's eligibility has shown until now is noted first (R311). -/
def State.changeGate (s : State) (p : Nat) (g : Gate) : State := s.frameYields.putGate p g

/-- GATE_SCHEDULE_CHANGE (R346): the old cycle is cut and the pending schedule starts. -/
def State.gateSwitch (s : State) (p : Nat) : State :=
  match (s.gate p).pend with
  | some (x, t) =>
    s.changeGate p (if x.en then (s.gate p).begin x t s.tim.tick
      else { ((s.gate p).open' 65535 s.tim.tick) with oper := some x, start := 0, idx := 0, next := 0, pend := none })
  | none => s

/-- GATE_ENTRY_CHANGE (R345): the next entry, or the first of the next cycle. -/
def State.gateAdvance (s : State) (p : Nat) : State :=
  let g := s.gate p
  match g.oper with
  | some x =>
    if g.idx + 1 < x.entries.length then
      s.changeGate p { (g.open' (x.maskAt (g.idx + 1)) s.tim.tick) with idx := g.idx + 1, next := x.endOf g.start (g.idx + 1) }
    else
      let st := g.start + x.cycle
      s.changeGate p { (g.open' (x.maskAt 0) s.tim.tick) with start := st, idx := 0, next := x.endOf st 0 }
  | none => s

/-- An operational schedule with EN = 1 (R355). -/
def State.gateActive (s : State) (p : Nat) : Bool := match (s.gate p).oper with | some x => x.en | none => false

/-- GATE_ENTRY_CHANGE. -/
def execGateEntryChange (p : Nat) (s : State) : Answer :=
  .next (if s.gateActive p && decide ((s.gate p).next ≤ s.nowNs) then s.gateAdvance p else s)

/-- GATE_SCHEDULE_CHANGE. -/
def execGateScheduleChange (p : Nat) (s : State) : Answer :=
  .next (
    match (s.gate p).pend with
    | some (_, t) => if t ≤ s.nowNs then s.gateSwitch p else s
    | none => s)

/-- The change time of a schedule committed now (R346): at least 10 µs ahead, to the step of T. -/
def State.changeTime (s : State) (x : Sched) : Nat :=
  let soon := (s.tim.t.toNat + 2 ^ 32 - 1) / 2 ^ 32 + 10000
  if !x.en && x.cycle == 0 then s.nowNs
  else if soon ≤ x.base then x.base
  else x.base + stepsTo x.base soon x.cycle * x.cycle

/-- The port's committed schedule becomes pending (R346). -/
def State.gatePending (s : State) (p : Nat) (x : Sched) : State :=
  s.putGate p { s.gate p with pend := some (x, s.changeTime x) }

/-- The entry whose span holds the offset, counted from `i`. -/
def entryAt (off : Nat) : Nat → List (Nat × Nat) → Nat
  | i, [] => i - 1
  | i, e :: es => if off < e.2 then i else entryAt (off - e.2) (i + 1) es

/-- Each gate schedule acts once at a forward step and goes on from its grid (R343). -/
def State.gateLate (s : State) (p : Nat) : State :=
  let s := match (s.gate p).pend with
    | some (_, t) => if t ≤ s.nowNs then s.gateSwitch p else s
    | none => s
  let g := s.gate p
  match g.oper with
  | some x =>
    if x.en && decide (g.next ≤ s.nowNs) && decide (0 < x.cycle) then
      let st := g.start + (s.nowNs - g.start) / x.cycle * x.cycle
      let i := entryAt (s.nowNs - st) 0 x.spans
      s.changeGate p { (g.open' (x.maskAt i) s.tim.tick) with start := st, idx := i, next := x.endOf st i }
    else s
  | none => s

/-! ## Steps of T (R322, R343, R373) -/

/-- Smallest multiple of `m` not below `x`. -/
def ceilTo (m x : Nat) : Nat := (x + m - 1) / m * m

/-- What the device holds of past instants, re-expressed on the stepped time: stamps, samples and loop instants move with T
by `d` steps of 2^-32 ns, and so does the phase of a slot that is measured against whole seconds or a remote clock. -/
def State.shiftTimes (s : State) (d : Int) : State :=
  let d16 := d / 2 ^ 16
  let timed (k : Nat) : Bool := s.fld (.TIM_REF_CFG k) F.TIM_REF_CFG_KIND == 0 || s.fld (.TIM_REF_CFG k) F.TIM_REF_CFG_KIND == 4
  let clk (k : Nat) : Bool := s.fld (.TIM_REF_CFG k) F.TIM_REF_CFG_KIND == 1 || s.fld (.TIM_REF_CFG k) F.TIM_REF_CFG_KIND == 2
  let mv (k : Nat) (x : Int × Int) : Int × Int := (x.1 + d, if timed k then x.2 + d else x.2)
  let slot (k : Nat) (x : Slot) : Slot :=
    { x with stamp := x.stamp.map (· + d), origin := if clk k then x.origin.map (· + d) else x.origin,
             sample := x.sample.map (mv k), samples := x.samples.map (mv k), since := x.since.map (· + d) }
  let l := s.tim.sel
  { s with tim := { s.tim with
    slots := s.tim.slots.map fun kv => (kv.1, slot kv.1 kv.2),
    ptp := s.tim.ptp.map fun kv => (kv.1, { kv.2 with
      sync := kv.2.sync.map fun x => { x with t2 := x.t2 + d16 },
      req := kv.2.req.map fun x => (x.1, x.2.1, x.2.2.map (· + d16)) }),
    sel := { l with evalAt := l.evalAt + d, decAt := l.decAt + d, lockedAt := l.lockedAt + d, bigAt := l.bigAt.map (· + d),
                    settledAt := l.settledAt + d, yLog := l.yLog.map fun x => (x.1 + d, x.2),
                    store := l.store.map fun x => (x.1 + d, x.2), tc := l.tc + d } } }

/-- What the outputs show as T is stepped: pulses that have ended are gone, and those that have risen stay up until they fall
(R343). -/
def State.holdEdges (s : State) : State :=
  let now := s.full16
  { s with tim := { s.tim with trigs := s.tim.trigs.map fun kv =>
      (kv.1, { kv.2 with pulses := (kv.2.pulses.filter fun p => decide (now < p.fall)).map fun p => { p with up := p.risen now } }) } }

/-- After a backward step the gate under way of each RECIP channel in SAFFRON form ends at the next multiple of GATE of the new T
(R401). -/
def State.regate (s : State) : State :=
  { s with tic := { s.tic with chans := s.tic.chans.map fun kv =>
      let g : Int := (F.TIM_TIC_CFG2_GATE.get kv.2.cfg2 * 1000000 * 65536 : Nat)
      (kv.1, if F.TIM_TIC_CFG_TIMEBASE.get kv.2.cfg = 0 ∧ 0 < g ∧ s.full16 < kv.2.gateEnd - g then
          { kv.2 with gateEnd := (s.full16 / g + 1) * g } else kv.2) } }

/-- T is stepped to a new value in steps of 2^-32 ns: STEP_SEQ, the strobes, the trigger units, the measurement gates and the gates
of the ports (R343). -/
def State.stepTo (s : State) (v : Int) : State :=
  let t := (v % 2 ^ 96).toNat
  let forward := decide (s.t32 < v)
  let s := s.holdEdges.shiftTimes (v - s.t32)
  let s := { s with tim := { s.tim with
    t := BitVec.ofNat 96 t, stepSeq := s.tim.stepSeq + 1,
    nextStw := ceilTo (1000 * 2 ^ 32) (t + 500 * 2 ^ 32) / 2 ^ 32,
    nextServo := ceilTo (1000000 * 2 ^ 32) (t + 500000 * 2 ^ 32) / 2 ^ 32 } }
  if !forward then s.regate
  else
    let s := (List.range 16).foldl (fun (s : State) k => match (s.trig k).next with
      | some i => if i ≤ s.full16 then s.fireTrigger k i true else s
      | none => s) s
    (s.tim.gates.map Prod.fst).foldl State.gateLate s

/-- A signed 48.16 value. -/
def signed64 (w : Word64) : Int := w.toInt

/-- SAF_CMD_APPLY: the pending time command applies, or is refused, at a steward strobe (R322, R368). -/
def State.safApply (s : State) : State :=
  match s.tim.cmd with
  | none => s
  | some (op, v) =>
    let s := { s with tim := { s.tim with cmd := none } }
    if s.selState = 2 ∨ s.selState = 3 then s.setFld .TIM_SAF_STATUS F.TIM_SAF_STATUS_CMD_RESULT 2
    else
      let s := s.setFld .TIM_SAF_STATUS F.TIM_SAF_STATUS_CMD_RESULT 0
      if op = 3 then
        ({ s with tim := { s.tim with slew := signed64 v * 2 ^ 16 } }).setFld .TIM_SAF_STATUS F.TIM_SAF_STATUS_SLEWING 1
      else
        let s := ({ s with tim := { s.tim with slew := 0 } }).setFld .TIM_SAF_STATUS F.TIM_SAF_STATUS_SLEWING 0
        let s := s.setFld .TIM_SEL_STATUS F.TIM_SEL_STATUS_ALIGNED 0
        if op = 1 then (s.stepTo (v.toNat * 2 ^ 32 : Nat)).setFld .TIM_SAF_STATUS F.TIM_SAF_STATUS_TIME_SET 1
        else s.stepTo (s.t32 + signed64 v * 2 ^ 16)

/-- TIM_SAF_CMD is written (R322): OP with the value then held, or a cancel. -/
def State.safTake (s : State) (op : Nat) : State :=
  if op = 0 then
    match s.tim.cmd with
    | some _ => ({ s with tim := { s.tim with cmd := none } }).setFld .TIM_SAF_STATUS F.TIM_SAF_STATUS_CMD_RESULT 0
    | none => s
  else
    let v := (s.get .TIM_SAF_VAL_H).setWidth 64 <<< 32 ||| (s.get .TIM_SAF_VAL_L).setWidth 64
    ({ s with tim := { s.tim with cmd := some (op, v) } }).setFld .TIM_SAF_STATUS F.TIM_SAF_STATUS_CMD_RESULT 1

/-- SLEW_COMPLETE: at the tick at which what remains is smaller than k, it is added whole and the slew ends (R322). -/
def execSlewComplete (s : State) : Answer :=
  .next (if s.engineOn && s.tim.slew != 0 && decide (s.tim.slew.natAbs < s.slewStep) then s.saffronTick else s)

/-! ## L1 synchronisation (R338) -/

/-- L1 synchronisation is enabled at port `p`: HA = 1 in a role that sends L1_SYNC (R335, R338). -/
def State.l1Enabled (s : State) (p : Nat) : Bool :=
  let role := s.cFld (.TIM_PTP_PORT p) F.TIM_PTP_PORT_ROLE
  s.isPort p && s.cFld (.TIM_PTP_PORT p) F.TIM_PTP_PORT_HA == 1 && (role == 1 || role == 2)

/-- The L1 state machine of port `p` is enabled or disabled: DISABLED, or IDLE from DISABLED (R338, R355; log 144). -/
def State.l1Eval (s : State) (p : Nat) : State :=
  let old := s.fld (.TIM_PORT_STATUS p) F.TIM_PORT_STATUS_L1_STATE
  if !s.l1Enabled p then s.setFld (.TIM_PORT_STATUS p) F.TIM_PORT_STATUS_L1_STATE 0
  else if old = 0 then s.setFld (.TIM_PORT_STATUS p) F.TIM_PORT_STATUS_L1_STATE 1 else s

/-! ## The two engines (R347 to R349) -/

def engFld (e : Nat) : Fld := if e = 0 then F.TIM_SAF_STATUS_ENG_A else F.TIM_SAF_STATUS_ENG_B

/-- Units 0 to 7 are suppressed as the outputs come to be held low (R70, R341, R349). -/
def State.suppressAll (s : State) : State :=
  (List.range 8).foldl (fun (s : State) k =>
    if s.fld (.TIM_TRIG_STATUS k) F.TIM_TRIG_STATUS_ARMED = 1 then s.setTrigStatus k F.TIM_TRIG_STATUS_SUPPRESSED 1 else s) s

/-- Selection stops with the engines (R349, R367, R371): no slot is active any more, and nothing is syntonized. -/
def State.selectionLost (s : State) : State :=
  let s := (List.range 8).foldl (fun (s : State) k =>
    if s.fld (.TIM_REF_STATUS k) F.TIM_REF_STATUS_STATE = 4 then s.setFld (.TIM_REF_STATUS k) F.TIM_REF_STATUS_STATE 3 else s) s
  (s.setFld .TIM_SEL_STATUS F.TIM_SEL_STATUS_SYNTONIZED 0).setSelState 0

/-- The active engine gives up (R348): fail-over, or SAFFRON_LOST when the standby is not ready (R349, R367). -/
def State.engineGiveUp (s : State) : State :=
  let a := s.fld .TIM_SAF_STATUS F.TIM_SAF_STATUS_ACTIVE
  if s.fld .TIM_SAF_STATUS F.TIM_SAF_STATUS_STANDBY_OK = 1 then
    let s := (s.setFld .TIM_SAF_STATUS F.TIM_SAF_STATUS_ACTIVE (1 - a)).setFld .TIM_SAF_STATUS F.TIM_SAF_STATUS_STANDBY_OK 0
    let s := (s.setFld .TIM_SAF_STATUS (engFld (1 - a)) 0).setFld .TIM_SAF_STATUS (engFld a) 2
    let s := { s with tim := { s.tim with testing := some a, standby := none } }
    (s.count C.engFailovers).event Ev.saffronFailover (1 - a) 0
  else
    let s := (s.setFld .TIM_SAF_STATUS F.TIM_SAF_STATUS_ACTIVE 2).setFld .TIM_SAF_STATUS (engFld a) 2
    (s.suppressAll.raise Ev.saffronLost 0 0).selectionLost

/-- ENGINE_FAULT: lockstep mismatch, loss of lock, or a failed self-test of the active engine. With no standby to take over, a tick
multiplier that has lost lock gives no strobes (R427). -/
def execEngineFault (s : State) (unlocked : Bool := false) : Answer :=
  .next (
    if !s.engineOn then s
    else
      let t := s.engineGiveUp
      if unlocked && !t.engineOn then { t with tim := { t.tim with unlocked := true } } else t)

/-- A write of TIM_ENG_CTL.SWAP = 1: ignored while STANDBY_OK = 0 (R348). -/
def State.engineSwap (s : State) : State :=
  if s.engineOn && s.fld .TIM_SAF_STATUS F.TIM_SAF_STATUS_STANDBY_OK == 1 then s.engineGiveUp else s

/-- ENGINE_SELFTEST_DONE: the former active engine will load the next copy, or stays out (R348 step 4). -/
def execEngineSelftestDone (pass : Bool) (s : State) : Answer :=
  .next (
    match s.tim.testing with
    | none => s
    | some e =>
      let s := { s with tim := { s.tim with testing := none } }
      if !s.engineOn then s
      else if pass then { s with tim := { s.tim with passed := some e } }
      else s.raise Ev.saffronSingle e 0)

/-- A servo strobe as the standby engine sees it (R347, R348 step 4): it loads the copy of the active engine's state, or misses it;
an engine that has passed its self-test becomes standby with the copy. -/
def State.engineCopy (s : State) (copied inWindow : Bool) : State :=
  let e := 1 - s.fld .TIM_SAF_STATUS F.TIM_SAF_STATUS_ACTIVE
  let joins := copied && s.tim.passed == some e
  if !s.engineOn || !(joins || s.fld .TIM_SAF_STATUS (engFld e) == 1) then s
  else
    let s := if joins then
        ({ s with tim := { s.tim with passed := none } }).setFld .TIM_SAF_STATUS (engFld e) 1 else s
    let copy : EngineCopy :=
      ⟨s.tim.t.toNat, s.tim.slew, s.tim.servo, s.tim.sel.y, s.tim.sel.i⟩
    let s := if copied then { s with tim := { s.tim with standby := some copy } } else s
    s.setFld .TIM_SAF_STATUS F.TIM_SAF_STATUS_STANDBY_OK (if copied && inWindow then 1 else 0)

end Sys2Proof.Machine
end

