-- ==== Sys2Proof/Machine/Tables.lean ====
section
/-! DEFINITION. Table operations (R225 to R228, R254 to R258, R298, R344): their checks, their effect against a selector, the
reads that return committed content, the command registers, and relocation. -/
namespace Sys2Proof.Machine

/-! ## Tables and their records -/

/-- Whether a TABLE identifier is assigned (R225, R254, R298, R344). -/
def tableAssigned (t : Nat) : Bool := (0x10 ≤ t && t < 0x20) || t == 0x20 || t == 0x30 || t == 0x40

/-- Whether the operations of a table carry an INDEX (R254: those of the exact-match table do not). -/
def tableIndexed (t : Nat) : Bool := t != 0x20

/-- Data words of a WRITE (1) or CLEAR (2). -/
def opWords (t op index : Nat) : Nat :=
  if t = 0x20 then (if op = 1 then 8 else 5)
  else if op = 2 then 0
  else if t < 0x18 then 32
  else if t < 0x20 then 34
  else if t = 0x30 then 32
  else if index % 32 = 0 then 4 else 2

/-- Bits of the INDEX word, and the first INDEX beyond the table. -/
def indexBits (t : Nat) : Nat := if t < 0x20 then 14 else if t = 0x30 then 16 else 15
def indexLimit (t : Nat) : Nat := if t < 0x18 then 12288 else if t < 0x20 then 16384 else if t = 0x30 then 65536 else 32768

/-! ## Entry checks (R227, R256) -/

/-- A ternary entry: VALUE under MASK, zero key fields, action (R216, R227). -/
def ternaryOk (ws : List Word) : Bool :=
  let v := wide (ws.take 15)
  let m := wide ((ws.drop 15).take 15)
  let clear := if m.testBit 479 && v.testBit 479 then 2 ^ 384 + (2 ^ 21 - 1) else 2 ^ 384 + (2 ^ 9 - 1)
  v &&& m == v && m &&& clear == 0 && (⟨ws.getD 30 0, ws.getD 31 0⟩ : Action).valid

/-- A pattern element (R221). -/
def elemOk (e : Word) : Bool :=
  let a := e.toNat % 256
  let b := e.toNat / 256 % 256
  e.toNat < 2 ^ 19 &&
  (match e.toNat / 65536 % 4 with
   | 1 => decide (a ≤ b)
   | 2 => a &&& b == a
   | 3 => e.toNat / 262144 % 2 == 0
   | _ => true)

/-- A pattern entry (R221). -/
def patternOk (ws : List Word) : Bool :=
  let w0 := (ws.getD 0 0).toNat
  let n := (ws.getD 1 0).toNat
  w0 < 2 ^ 29 && w0 / 2 ^ 27 != 3 && decide (1 ≤ n) && decide (n ≤ 32) &&
  ((ws.drop 2).take n).all elemOk && (ws.drop (2 + n)).all (· == 0#32)

/-- The key of an exact-match record (R243). -/
def recKey (ws : List Word) : Nat := wide (ws.take 5)

/-- An exact-match key: KTYPE, zero bits, ADDR within its width (R240, R256). -/
def keyOk (k : Nat) : Bool :=
  match k / 2 ^ 152 with
  | 1 => k % 2 ^ 128 < 2 ^ 48
  | 2 => k % 2 ^ 128 < 2 ^ 32
  | 3 => true
  | 4 => k % 2 ^ 128 < 2 ^ 20
  | _ => false

/-- The results and state word of an exact-match WRITE (R243, R254). -/
def resultOk (ws : List Word) : Bool :=
  let w5 := (ws.getD 5 0).toNat
  let arg := w5 / 4 % 2 ^ 16
  w5 < 2 ^ 24 && (ws.getD 6 0).toNat < 2 ^ 12 && (ws.getD 7 0 &&& 0xFFFFFFDF#32) == 0#32 &&
  (match w5 % 4 with | 0 => arg < 1024 | 1 => true | 2 => arg < 32 | _ => arg == 0)

/-- A gate record (R344). -/
def gateOk (index : Nat) (ws : List Word) : Bool :=
  if index % 32 = 0 then
    let c := (ws.getD 2 0).toNat
    let w := (ws.getD 3 0).toNat
    decide (1000 ≤ c) && decide (c ≤ 1000000000) && w % 32 != 0 && (ws.getD 3 0 &&& 0xFFFFFEE0#32) == 0#32
  else (ws.getD 0 0).toNat < 2 ^ 16 && (ws.getD 1 0).toNat != 0

/-- The content of a WRITE or CLEAR whose words are of the right number. -/
def entryOk (o : TblOp) : Bool :=
  if o.table = 0x20 then keyOk (recKey o.words) && (o.op == 2 || resultOk o.words)
  else if o.op = 2 then true
  else if o.table < 0x18 then ternaryOk o.words
  else if o.table < 0x20 then patternOk o.words
  else if o.table = 0x30 then true
  else gateOk o.index o.words

/-- The status code of a WRITE or CLEAR when it is staged or issued: 0 where it is good. TABLE is judged first, then OP,
then INDEX, then the number of words, then the entry. -/
def TblOp.check (o : TblOp) : Nat :=
  if !tableAssigned o.table then 2
  else if o.op ≠ 1 ∧ o.op ≠ 2 then 1
  else if tableIndexed o.table && indexLimit o.table ≤ o.index then 3
  else if o.words.length ≠ opWords o.table o.op o.index then 4
  else if entryOk o then 0 else 4

/-- The operation of a TABLE record or TABLE_OP (R57, R228): TABLE, OP and the words after WORDS. A code where the words do
not make one. -/
def opOfRecord (t op : Nat) (ws : List Word) : Nat ⊕ TblOp :=
  if !tableAssigned t then .inl 2
  else if op ≠ 1 ∧ op ≠ 2 then .inl 1
  else if tableIndexed t then
    match ws with
    | [] => .inl 4
    | i :: rest =>
      if 2 ^ indexBits t ≤ i.toNat then .inl 4
      else
        let o : TblOp := ⟨t, op, i.toNat, rest⟩
        if o.check = 0 then .inr o else .inl o.check
  else
    let o : TblOp := ⟨t, op, 0, ws⟩
    if o.check = 0 then .inr o else .inl o.check

/-! ## Effect against a selector (R215, R258) -/

/-- How an operation stands after its call. -/
inductive OpEnd where
  | done (code : Nat)
  /-- its chain of relocation moves is under way. -/
  | moving
  deriving DecidableEq, Repr

/-- VIS[f] of every older version of the key is cleared; a version left at 0b00 stays until the epoch ends (R258). -/
def State.clearOlder (s : State) (f key : Nat) : State :=
  s.changeKey key fun e => if e.vis = 2 ^ f then some e else some { e with vis := clrBit e.vis f }

/-- The version that an earlier WRITE of the same commit inserted (R258): it is visible to the free selector alone, or to none
where a CLEAR of the commit followed. No other version of a key stands so while a commit is at its step 4, because the end of
the retired epoch made both visibility bits of every version equal. -/
def insertedBy (f vis : Nat) : Bool := vis == 2 ^ f || vis == 0

def State.touch (s : State) (key : Nat) : State :=
  if s.fwd.touching.contains key then s else { s with fwd := { s.fwd with touching := s.fwd.touching ++ [key] } }

/-- The entry that an exact-match WRITE installs. -/
def writtenEntry (ws : List Word) (vis : Nat) : FwdEntry :=
  { key := recKey ws, resA := ws.getD 5 0, resB := ws.getD 6 0, moved := false, vis := vis, slot := 0,
    ageEn := (ws.getD 7 0).toNat.testBit 5, learned := false }

/-- An exact-match WRITE of a commit against the free selector (R258). -/
def State.fwdWrite (s : State) (f : Nat) (ws : List Word) : State × OpEnd :=
  let key := recKey ws
  let vs := s.versions key
  let n := writtenEntry ws (2 ^ f)
  if !s.t2Up then (s, .done 10)
  else if !(vs.any fun x => x.2.vis != 0) && maxKeys ≤ s.keysHeld then (s, .done 8)
  else if vs.any fun x => insertedBy f x.2.vis then
    ((s.touch key).changeKey key (fun e => if insertedBy f e.vis then
      some { e with resA := n.resA, resB := n.resB, ageEn := n.ageEn, vis := 2 ^ f }
      else some { e with vis := clrBit e.vis f }), .done 0)
  else
    let r := (s.touch key).insertEntry n true
    match r.2 with
    | .placed => (r.1.clearOlder f key, .done 0)
    | .moving => (r.1, .moving)
    | .needed => (r.1, .done 7)

/-- An exact-match CLEAR of a commit (R258). -/
def State.fwdClear (s : State) (f : Nat) (ws : List Word) : State × OpEnd :=
  if !s.t2Up then (s, .done 10)
  else
    let key := recKey ws
    ((s.touch key).changeKey key (fun e => some { e with vis := clrBit e.vis f }), .done 0)

/-- One operation of a commit at its step 4 (R108). -/
def State.applyOp (s : State) (f : Nat) (o : TblOp) : State × OpEnd :=
  if o.table = 0x20 then (if o.op = 1 then s.fwdWrite f o.words else s.fwdClear f o.words)
  else if o.op = 1 then (s.rowWrite o.table o.index f o.words, .done 0)
  else (s.rowClear o.table o.index f, .done 0)

/-- An operation of an image record: it takes effect for both selectors at once (R58, R258). The code where it fails. -/
def State.imageOp (s : State) (o : TblOp) : State × Nat :=
  if o.table = 0x20 then
    let key := recKey o.words
    if !s.t2Up then (s, 10)
    else if o.op = 2 then (s.changeKey key fun _ => none, 0)
    else if (s.versions key).isEmpty then
      if maxKeys ≤ s.keysHeld then (s, 8)
      else match s.insertAtOnce (writtenEntry o.words 3) with
        | some s => (s, 0)
        | none => (s.rehashNeeded, 7)
    else (s.changeKey key fun e => some { writtenEntry o.words 3 with slot := e.slot, moved := e.moved }, 0)
  else if o.op = 1 then (s.putRows o.table o.index [⟨o.words, true, true⟩], 0)
  else (s.putRows o.table o.index [], 0)

/-! ## Gate schedules of a bank (R344) -/

/-- The schedule in the gate table as selector `e` sees it, and whether every entry it needs is there; none without a
header. -/
def State.schedOf (s : State) (e p : Nat) : Option (Sched × Bool) :=
  match s.rowFor 0x40 (32 * p) e with
  | none => none
  | some h =>
    let w (i : Nat) : Nat := (h.words.getD i 0).toNat
    let rows := (List.range (w 3 % 32)).map fun i => s.rowFor 0x40 (32 * p + i + 1) e
    some (⟨(w 3).testBit 8, w 0 + 2 ^ 32 * w 1, w 2,
      rows.filterMap fun o => o.map fun r => ((r.words.getD 0 0).toNat % 65536, (r.words.getD 1 0).toNat)⟩,
      rows.all Option.isSome)

/-- Ports whose gate records the operations write or clear, ascending. -/
def gatePorts (ops : List TblOp) : List Nat :=
  (List.range 1024).filter fun p => ops.any fun o => o.table == 0x40 && o.index / 32 == p

/-- The first port that fails the check of R344. -/
def State.gateFault (s : State) (e : Nat) (ops : List TblOp) : Option Nat :=
  (gatePorts ops).find? fun p => match s.schedOf e p with
    | some (x, whole) => x.en && (!whole || decide (x.cycle < (x.entries.map Prod.snd).sum))
    | none => false

/-- Index of the last operation on port `p`'s records. -/
def lastGateOp (p : Nat) (ops : List TblOp) : Nat :=
  ((List.range ops.length).filter fun i => match ops[i]? with
    | some o => o.table == 0x40 && o.index / 32 == p
    | none => false).getLastD 0

/-! ## Command registers (R226, R231 to R233, R271, R272, R317, R356)

The tables are named by a number: 0 to 7 the PIP slice, 8 FWD, 9 SWC, 10 TIM. -/

def cmdReg (t : Nat) : Reg :=
  if t < 8 then .PIP_TBL_CMD t else if t = 8 then .FWD_TBL_CMD else if t = 9 then .SWC_TBL_CMD else .TIM_TBL_CMD
def statusReg (t : Nat) : Reg :=
  if t < 8 then .PIP_TBL_STATUS t else if t = 8 then .FWD_TBL_STATUS else if t = 9 then .SWC_TBL_STATUS else .TIM_TBL_STATUS
def dataReg (t i : Nat) : Reg :=
  if t < 8 then .PIP_TBL_DATA t i else if t = 8 then .FWD_TBL_DATA i else if t = 9 then .SWC_TBL_DATA i else .TIM_TBL_DATA i

/-- GO of a table's command register; the four registers place it, OP and TABLE alike. -/
def State.cmdGo (s : State) (t : Nat) : Bool := s.fld (cmdReg t) F.PIP_TBL_CMD_GO == 1
def State.cmdOp (s : State) (t : Nat) : Nat := s.fld (cmdReg t) F.PIP_TBL_CMD_OP
def State.cmdTable (s : State) (t : Nat) : Nat := s.fld (cmdReg t) F.PIP_TBL_CMD_TABLE

/-- INDEX as the command's registers give it. -/
def State.cmdIndex (s : State) (t : Nat) : Nat :=
  if t < 8 then s.fld (.PIP_TBL_CMD t) F.PIP_TBL_CMD_INDEX
  else if t = 9 then s.fld .SWC_TBL_INDEX F.SWC_TBL_INDEX_INDEX
  else if t = 10 then s.fld .TIM_TBL_CMD F.TIM_TBL_CMD_INDEX else 0

/-- The TABLE identifiers of a table's command registers. -/
def cmdTables (t : Nat) : List Nat :=
  if t < 8 then [0x10 + t, 0x18 + t] else if t = 8 then [0x20] else if t = 9 then [0x30] else [0x40]

/-- Whether the table's registers list the OP: the others end with BAD_OP (R231, R271, R317, R356). -/
def cmdOpListed (t op : Nat) : Bool := if t = 8 then 1 ≤ op && op ≤ 5 else 1 ≤ op && op ≤ 3

/-- The operation in a table's registers. -/
def State.cmdRecord (s : State) (t : Nat) : TblOp :=
  let tb := s.cmdTable t
  let i := s.cmdIndex t
  ⟨tb, s.cmdOp t, i, (List.range (opWords tb (s.cmdOp t) i)).map fun j => s.get (dataReg t j)⟩

/-- An operation has been started and no row has taken it up. -/
def State.cmdWaiting (s : State) (t op : Nat) : Bool := s.cmdGo t && s.cmdOp t == op && (sfind s.tblOwner t).isSome

/-- The operation is taken up. -/
def State.cmdTake (s : State) (t : Nat) : State := { s with tblOwner := serase s.tblOwner t }

/-- The operation ends: GO returns to 0, CODE and SESSION hold its result (R226). -/
def State.cmdEnd (s : State) (t code sess : Nat) : State :=
  let s := (s.cmdTake t).setFld (cmdReg t) F.PIP_TBL_CMD_GO 0
  let s := (s.setFld (statusReg t) F.PIP_TBL_STATUS_CODE code).setFld (statusReg t) F.PIP_TBL_STATUS_SESSION sess
  if t < 8 then s.setFld (statusReg t) F.PIP_TBL_STATUS_VIS_BOTH 0 else s

/-- The words of a read into DATA, zero up to the `n` data registers. -/
def State.cmdData (s : State) (t n : Nat) (ws : List Word) : State :=
  (List.range n).foldl (fun (s : State) i => s.put (dataReg t i) (ws.getD i 0)) s

/-- READ of a ternary, pattern, multicast or gate table (R225, R298, R344): the row visible to the current selector. -/
def State.readRow (s : State) (t n : Nat) : State :=
  let o := s.cmdRecord t
  if !(cmdTables t).contains o.table then s.cmdEnd t 2 0
  else if indexLimit o.table ≤ o.index then s.cmdEnd t 3 0
  else match s.rowFor o.table o.index s.curSel with
    | none => s.cmdEnd t 5 0
    | some r =>
      let s := (s.cmdData t n r.words).cmdEnd t 0 0
      if t < 8 && r.vis0 && r.vis1 then s.setFld (statusReg t) F.PIP_TBL_STATUS_VIS_BOTH 1 else s

/-- The nine words that READ and READ_NEXT return (R255). -/
def State.fwdWords (s : State) (b : Nat) (e : FwdEntry) : List Word :=
  let t1 := ((s.t1Set e.key).ways.any fun o => match o with | some x => x.key == e.key | none => false)
  let w7 := 1 + e.vis * 4 + (if e.slot = 1 then 16 else 0) + (if e.ageEn then 32 else 0) + (if e.learned then 64 else 0) +
    (if t1 then 128 else 0)
  ((List.range 5).map fun i => BitVec.ofNat 32 (e.key / 2 ^ (32 * i))) ++
    [e.resA, e.resB, BitVec.ofNat 32 w7, BitVec.ofNat 32 b]

/-- READ of the exact-match table (R254, R255). -/
def State.fwdRead (s : State) : State :=
  if s.cmdTable 8 ≠ 0x20 then s.cmdEnd 8 2 0
  else if !s.t2Up then s.cmdEnd 8 10 0
  else
    let key := recKey ((List.range 5).map fun i => s.get (.FWD_TBL_DATA i))
    match findVer (s.copy s.mainCopy) s.seeds key fun e => visTo e.vis s.curSel with
    | none => s.cmdEnd 8 5 0
    | some (b, e) => (s.cmdData 8 9 (s.fwdWords b e)).cmdEnd 8 0 0

/-- READ_NEXT (R254, R255): the first visible entry at 65,536 buckets from DATA[0]. -/
def State.fwdReadNext (s : State) : State :=
  let from' := (s.get (.FWD_TBL_DATA 0)).toNat
  if s.cmdTable 8 ≠ 0x20 then s.cmdEnd 8 2 0
  else if 2 ^ 27 ≤ from' then s.cmdEnd 8 3 0
  else if s.rebuilding then s.cmdEnd 8 9 0
  else if !s.t2Up then s.cmdEnd 8 10 0
  else match (s.copy s.mainCopy).find? fun kv =>
      decide (from' ≤ kv.1) && decide (kv.1 < from' + 65536) && visTo kv.2.vis s.curSel with
    | some (b, e) => (s.cmdData 8 9 (s.fwdWords b e)).cmdEnd 8 0 0
    | none => (s.put (.FWD_TBL_DATA 8) (BitVec.ofNat 32 (min (from' + 65536) (2 ^ 27)))).cmdEnd 8 5 0

/-- FLUSH (R254, R264). -/
def State.fwdFlush (s : State) : State :=
  let d := (s.get (.FWD_TBL_DATA 0)).toNat
  if s.cmdTable 8 ≠ 0x20 then s.cmdEnd 8 2 0
  else if !s.t2Up then s.cmdEnd 8 10 0
  else if s.fwd.flushCmd.isSome then s.cmdEnd 8 9 0
  else
    let p := if d.testBit 31 then everyPort else d % 1024
    (({ s with fwd := { s.fwd with flushCmd := some p } }).flushAdd p).cmdEnd 8 0 0

/-- PIP_TBL_READ (R225). -/
def execPipTblRead (sl : Nat) (s : State) : Answer :=
  .next (if sl < 8 && s.cmdWaiting sl 3 then s.readRow sl 34 else s)

/-- MCAST_TBL_READ (R298). -/
def execMcastTblRead (s : State) : Answer := .next (if s.cmdWaiting 9 3 then s.readRow 9 32 else s)

/-- GATE_TBL_READ (R344): the committed content. -/
def execGateTblRead (s : State) : Answer := .next (if s.cmdWaiting 10 3 then s.readRow 10 4 else s)

/-- FWD_TBL_READ (R254). -/
def execFwdTblRead (s : State) (ecc : List (Nat × BucketEcc) := []) : Answer :=
  .next (if s.cmdWaiting 8 3 then (s.readEcc ecc).fwdRead else s)

/-- FWD_TBL_READ_NEXT (R254). -/
def execFwdTblReadNext (s : State) (ecc : List (Nat × BucketEcc) := []) : Answer :=
  .next (if s.cmdWaiting 8 4 then (s.readEcc ecc).fwdReadNext else s)

/-- FWD_TBL_FLUSH (R264). -/
def execFwdTblFlush (s : State) : Answer := .next (if s.cmdWaiting 8 5 then s.fwdFlush else s)

/-! ## Rebuilds before step 9 (R547) -/

/-- What the copies in service hold, and the seeds they are placed under; a rebuild under way ends FAILED with both copies in
service (log 140), and a pass of Caraway begins anew with the first bucket. -/
def State.placeAll (s : State) (m : SMap FwdEntry) (sds : Option (Nat × Nat)) : State :=
  let r := s.rebuilding
  let s := if r then (s.setCopyUp 0 true).setCopyUp 1 true else s
  let s := s.servingCopies.foldl (fun (s : State) c => s.setCopy c m) s
  let s := { s with fwd := { s.fwd with over0 := sds, over1 := sds, pos := 0 } }
  if r then s.rehashFailed else s

/-- Every copy in service re-placed under new seeds: the state, and whether every insert found its bucket. The moves made before
an insert ends with REHASH_NEEDED are counted too (R257, R280). -/
def State.seedRebuild (s : State) (sd : Nat × Nat) : State × Bool :=
  let r := insertAll sd (versionsOf (s.copy s.mainCopy)) []
  let s := s.countN C.relocations r.2
  match r.1 with
  | none => (s, false)
  | some m =>
    let s := s.placeAll m none
    let s := (s.put .FWD_HASH_SEED1 (BitVec.ofNat 32 sd.1)).put .FWD_HASH_SEED2 (BitVec.ofNat 32 sd.2)
    (s.placedAnew m, true)

end Sys2Proof.Machine
end

