-- ==== Sys2Proof/Machine/Image.lean ====
section
/-! DEFINITION. Chrotil images (R47, R54 to R63, R111, R228, R545): their layout, checks 2 to 11, application, undo, and the
running image as it would be written. -/
namespace Sys2Proof.Machine

/-! ## Instances of ports (R25) -/

/-- The port position that a per-port or per-queue register belongs to. -/
def Reg.portIdx : Reg → Option Nat
  | .PRT_MAC_CFG p => some p
  | .PRT_PORT_STATUS p => some p
  | .PRT_FC_CFG p => some p
  | .PRT_PFC_WM p => some p
  | .PRT_PFC_STATUS p => some p
  | .PIP_PORT_CFG p => some p
  | .PIP_PORT_DEF_A p => some p
  | .PIP_PORT_DEF_B p => some p
  | .SWC_Q_CFG q => some (q / 16)
  | .SWC_Q_STATUS q => some (q / 16)
  | .SWC_HIST_CFG p => some p
  | .TIM_PTP_PORT p => some p
  | .TIM_PORT_ASYM p => some p
  | .TIM_PORT_LAT p => some p
  | .TIM_PHASE p => some p
  | .TIM_PORT_STATUS p => some p
  | .TIM_PTP_OFFSET p => some p
  | .TIM_PTP_DELAY p => some p
  | _ => none

/-- Whether position `p` is a port under the bank of selector `e`. -/
def State.isPortIn (s : State) (e p : Nat) : Bool :=
  p < 1024 && s.stFld e (.LNE_GRP_CFG (p / 8)) F.LNE_GRP_CFG_EN == 1 &&
  p % 8 % modeLanes (s.stFld e (.PRT_BLK_CFG (p / 8)) F.PRT_BLK_CFG_MODE) == 0

/-- The instance exists: it is not of a position that is no port. -/
def State.instIn (s : State) (e : Nat) (r : Reg) : Bool :=
  match r.portIdx with
  | some p => s.isPortIn e p
  | none => true

/-- The bits of a register that an image may set. -/
def Reg.imageMask (r : Reg) : Word := r.maskOf fun f => f.acc == .rw || f.acc == .st || f.acc == .rwl

/-! ## The running image as it would be written (R47, R111) -/

/-- The TABLE records of a table's rows. -/
def State.rowRecords (s : State) (t : Nat) : List TblOp :=
  (s.visibleRows t s.curSel).map fun x => ⟨t, 1, x.1, x.2.words⟩

/-- Every table entry installed by the image or by a commit and not removed since, as TABLE records. -/
def State.tableRecords (s : State) : List TblOp :=
  ((List.range 16).flatMap fun i => s.rowRecords (0x10 + i)) ++
  ((s.copy s.mainCopy).filterMap fun kv =>
    if !kv.2.learned && !kv.2.moved && visTo kv.2.vis s.curSel then
      some ⟨0x20, 1, 0, ((List.range 5).map fun i => BitVec.ofNat 32 (kv.2.key / 2 ^ (32 * i))) ++
        [kv.2.resA, kv.2.resB, if kv.2.ageEn then 32#32 else 0#32]⟩
    else none) ++
  s.rowRecords 0x30 ++ s.rowRecords 0x40

/-- The running image with its values and entries as they stand: instances that are no ports are left out (R25). -/
def State.snapshot (s : State) (i : RunImage) : RunImage :=
  { i with
    regs := i.regs.filterMap fun kv => match decodeAddr kv.1 with
      | some r => if s.instIn s.curSel r then some (kv.1, s.committed r &&& r.imageMask) else none
      | none => none
    ops := s.tableRecords ++ (if s.boot.tabled then [] else s.boot.records) }

/-- Words of a TABLE record after WORDS. -/
def TblOp.recordWords (o : TblOp) : List Word := (if tableIndexed o.table then [BitVec.ofNat 32 o.index] else []) ++ o.words

/-- BODY_LENGTH of an image with three sections REG, KEY and TABLE. -/
def imageSize (regs keys : Nat) (ops : List TblOp) : Nat :=
  48 + 8 * regs + 36 * keys + (ops.map fun o => 4 + 4 * o.recordWords.length).sum

/-- The largest BODY_LENGTH (R47, R54). -/
def maxBody : Nat := 16776960

/-! ## Bytes (R55 to R57) -/

def be (n v : Nat) : List Byte := (List.range n).map fun i => BitVec.ofNat 8 (v / 2 ^ (8 * (n - 1 - i)))

def TblOp.bytes (o : TblOp) : List Byte :=
  let ws := o.recordWords
  be 1 o.table ++ be 1 o.op ++ be 2 ws.length ++ ws.flatMap fun w => be 4 w.toNat

/-- The body: directory, REG, KEY and TABLE. -/
def RunImage.body (i : RunImage) : List Byte :=
  let regs := i.regs.flatMap fun kv => be 4 kv.1 ++ be 4 kv.2.toNat
  let keys := i.keys.flatMap fun k => be 1 k.slot ++ be 1 k.role ++ be 2 0 ++ be 32 k.key
  let ops := i.ops.flatMap TblOp.bytes
  let entry (t off len : Nat) : List Byte := be 2 t ++ be 2 0 ++ be 4 off ++ be 4 len ++ be 4 0
  let o := 256 + 48
  entry 1 o regs.length ++ entry 2 (o + regs.length) keys.length ++
    entry 4 (o + regs.length + keys.length) ops.length ++ regs ++ keys ++ ops

def crcOf (bs : List Byte) : Nat := crc32c 0xFFFFFFFF (bs.map BitVec.toNat)

/-- What TAG covers of a header (R60). -/
def tagged (h body : List Byte) : List Byte := h.take 48 ++ (h.drop 80).take 172 ++ body

/-- A header with SEQUENCE, SIGNED and TAG, and HDR_CRC set (R60, R112). -/
def sealHeader (key : Option Nat) (signed : Bool) (seq : Nat) (h body : List Byte) : List Byte :=
  let h := h.take 16 ++ be 4 seq ++ h.drop 20
  let h := h.take 13 ++ be 1 (if signed then 1 else 0) ++ h.drop 14
  let tag := match key with | some k => if signed then hmac k (tagged h body) else be 32 0 | none => be 32 0
  let h := h.take 48 ++ tag ++ (h.drop 80).take 172
  h ++ be 4 (crcOf h)

/-- The whole image that a persist writes (R111): SIGNED as R60 says. -/
def RunImage.bytes (i : RunImage) (f : Fuses) (seq : Nat) : List Byte :=
  let body := i.body
  let h := be 4 0x43485254 ++ be 2 1 ++ be 2 256 ++ be 2 1 ++ be 2 0 ++ be 1 i.cl ++ be 1 0 ++ be 2 0 ++ be 4 0 ++
    be 4 body.length ++ be 4 (crcOf body) ++ be 2 3 ++ be 2 0 ++ be 8 i.build ++ be 4 0x2048 ++ be 4 0 ++ be 32 0 ++
    be 172 0 ++ be 4 0
  sealHeader f.imageKey f.imageKey.isSome seq h body ++ body

/-! ## Checks 2 to 11 (R61, R545); the result is the RESULT code of R75, 0 where all pass -/

def allZero (bs : List Byte) (o n : Nat) : Bool := ((bs.drop o).take n).all (· == 0#8)

/-- Checks 3 to 8, over the 256 bytes of a header. -/
def headerChecks (f : Fuses) (h : List Byte) : Nat :=
  let len := beAt h 0x14 4
  let n := beAt h 0x1C 2
  if beAt h 0 4 ≠ 0x43485254 then 4
  else if beAt h 0xFC 4 ≠ crcOf (h.take 252) then 5
  else if beAt h 4 2 ≠ 1 ∨ beAt h 6 2 ≠ 256 ∨ 1 < beAt h 0xD 1 ∨ len % 4 ≠ 0 ∨ len < 16 ∨ maxBody < len ∨ n = 0 ∨ 16 < n ∨
      !allZero h 0xE 2 ∨ !allZero h 0x1E 2 ∨ !allZero h 0x2C 4 ∨ !allZero h 0x50 172 then 6
  else if beAt h 0x28 4 ≠ 0x2048 then 7
  else if beAt h 0xC 1 = 0 ∨ f.highest < beAt h 0xC 1 then 8
  else if beAt h 8 2 ≠ 1 then 9 else 0

/-- Checks 2 to 8. -/
def headerResult (f : Fuses) (h : List Byte) : Nat :=
  let seq := beAt h 0x10 4
  if beAt h 0 4 = 0xFFFFFFFF ∨ seq = 0 ∨ seq = 0xFFFFFFFF then 3 else headerChecks f h

/-- A directory entry (R56). -/
structure Section where
  ty : Nat
  flags : Nat
  off : Nat
  len : Nat
  rest : Nat
  deriving DecidableEq, Repr

def sectionsOf (n : Nat) (body : List Byte) : List Section :=
  (List.range n).map fun i =>
    let o := 16 * i
    ⟨beAt body o 2, beAt body (o + 2) 2, beAt body (o + 4) 4, beAt body (o + 8) 4, beAt body (o + 12) 4⟩

/-- The bytes of a section. -/
def Section.of (x : Section) (body : List Byte) : List Byte := (body.drop (x.off - 256)).take x.len

def sectionAssigned (t : Nat) : Bool := t == 1 || t == 2 || t == 3 || t == 4 || t == 0xFF

/-- The TABLE records of a section, as TABLE, OP and words; none where they do not end exactly at its end. -/
def tableRecs : Nat → List Byte → Option (List (Nat × Nat × List Word))
  | 0, bs => if bs.isEmpty then some [] else none
  | n + 1, bs =>
    if bs.isEmpty then some []
    else
      let w := 4 * beAt bs 2 2
      if bs.length < 4 + w then none
      else (tableRecs n (bs.drop (4 + w))).map fun l => (beAt bs 0 1, beAt bs 1 1, beWords ((bs.drop 4).take w)) :: l

/-- The PATTERN records of a section (R228): ENGINES and words; none where the structure of R545 is broken. -/
def patternRecs : Nat → List Byte → Option (List (Nat × List Word))
  | 0, bs => if bs.isEmpty then some [] else none
  | n + 1, bs =>
    if bs.isEmpty then some []
    else if bs.length < 144 ∨ beAt bs 1 1 ≠ 0 ∨ beAt bs 2 2 ≠ 35 then none
    else (patternRecs n (bs.drop 144)).map fun l => (beAt bs 0 1, beWords ((bs.drop 4).take 140)) :: l

/-- The KEY records of a section. -/
def keyRecs (bs : List Byte) : List KeyRec :=
  (List.range (bs.length / 36)).map fun i => ⟨beAt bs (36 * i) 1, beAt bs (36 * i + 1) 1, beAt bs (36 * i + 4) 32⟩

/-- The record structure of an assigned section (R545). -/
def recordsOk (ty : Nat) (bs : List Byte) : Bool :=
  match ty with
  | 1 => bs.length % 8 == 0
  | 2 => bs.length % 36 == 0 && (keyRecs bs).all (fun k => k.slot ≤ 7 && 1 ≤ k.role && k.role ≤ 3) &&
      (List.range (bs.length / 36)).all fun i => allZero bs (36 * i + 2) 2
  | 3 => (patternRecs bs.length bs).isSome
  | 4 => (tableRecs bs.length bs).isSome
  | _ => true

/-- The directory (R56, R59) and the records (R545). -/
def sectionsOk (n : Nat) (body : List Byte) : Bool :=
  let xs := sectionsOf n body
  16 * n ≤ body.length &&
  xs.all (fun x => x.flags ≤ 1 && x.off % 4 == 0 && x.len % 4 == 0 && x.rest == 0 && 256 + 16 * n ≤ x.off &&
    x.off + x.len ≤ 256 + body.length && (sectionAssigned x.ty || x.flags == 0)) &&
  (List.range n).all (fun i => (List.range n).all fun j => match xs[i]?, xs[j]? with
    | some x, some y => i == j || ((x.ty != y.ty || x.ty == 0xFF) &&
        (x.len == 0 || y.len == 0 || x.off + x.len ≤ y.off || y.off + y.len ≤ x.off))
    | _, _ => true) &&
  xs.all fun x => recordsOk x.ty (x.of body)

/-- TAG obeys R60. -/
def tagOk (f : Fuses) (h body : List Byte) : Bool :=
  let tag := (h.drop 48).take 32
  if beAt h 0xD 1 = 1 then
    match f.imageKey with
    | some k => tag == hmac k (tagged h body)
    | none => false
  else !f.signReq && tag.all (· == 0#8)

/-- Checks 9 to 11. -/
def bodyResult (f : Fuses) (h body : List Byte) : Nat :=
  if beAt h 0x18 4 ≠ crcOf body then 0xA
  else if !tagOk f h body then 0xB
  else if !sectionsOk (beAt h 0x1C 2) body then 0xC else 0

/-! ## Content -/

/-- What an image holds. -/
structure Img where
  seq : Nat
  cl : Nat
  build : Nat
  regs : List (Nat × Word)
  keys : List KeyRec
  pats : List (Nat × List Word)
  recs : List (Nat × Nat × List Word)
  skipped : Bool
  deriving DecidableEq, Repr

/-- The content of a header and body that have passed the checks. -/
def readImg (h body : List Byte) : Img :=
  let xs := sectionsOf (beAt h 0x1C 2) body
  let sec (t : Nat) : List Byte := match xs.find? fun x => x.ty == t with | some x => x.of body | none => []
  let rb := sec 1
  { seq := beAt h 0x10 4, cl := beAt h 0xC 1, build := beAt h 0x20 8,
    regs := (List.range (rb.length / 8)).map fun i => (beAt rb (8 * i) 4, BitVec.ofNat 32 (beAt rb (8 * i + 4) 4)),
    keys := keyRecs (sec 2), pats := (patternRecs (sec 3).length (sec 3)).getD [],
    recs := (tableRecs (sec 4).length (sec 4)).getD [], skipped := xs.any fun x => !sectionAssigned x.ty }

/-- Cells of the flash. -/
def State.flashBytes (s : State) (off n : Nat) : List Byte := (List.range n).map fun i => sgetD s.flash.cells (off + i) 0xFF#8

def bankOff (k : Nat) : Nat := k * 0x1000000

def State.bankHeader (s : State) (k : Nat) : List Byte := s.flashBytes (bankOff k) 256

def State.bankBody (s : State) (k : Nat) : List Byte :=
  s.flashBytes (bankOff k + 256) (beAt (s.bankHeader k) 0x14 4)

/-- Checks 2 to 11 of a bank as its cells stand (R64). -/
def State.bankResult (s : State) (k : Nat) : Nat :=
  let h := s.bankHeader k
  let r := headerResult s.boot.fuses h
  if r = 0 then bodyResult s.boot.fuses h (s.bankBody k) else r

/-! ## Application (R58) -/

/-- A register takes a value from an image: its RW, ST and RWL fields, ST fields in both banks. -/
def State.imagePut (s : State) (r : Reg) (v : Word) : State :=
  let m := r.imageMask
  if r.isST then
    let w (e : Nat) : Word := (s.stGet e r &&& ~~~m) ||| (v &&& m)
    (s.stPut 0 r (w 0)).stPut 1 r (w 1)
  else s.put r ((s.get r &&& ~~~m) ||| (v &&& m))

/-- The block modes in force after an image's last REG record. -/
def State.imageModes (s : State) (regs : List (Nat × Word)) : State :=
  regs.foldl (fun (s : State) kv => match decodeAddr kv.1 with
    | some (.PRT_BLK_CFG b) => s.imagePut (.PRT_BLK_CFG b) kv.2
    | some (.LNE_GRP_CFG b) => s.imagePut (.LNE_GRP_CFG b) kv.2
    | _ => s) s

/-- REG records in order, judged against the final modes `m`, up to the first that fails; whether all succeeded. A TAIL
is judged against the SIZE in force when its record is applied (R505; log 151). -/
def State.applyRegs (m : State) : State → List (Nat × Word) → State × Bool
  | s, [] => (s, true)
  | s, (a, v) :: rest =>
    match decodeAddr a with
    | none => (s, false)
    | some r =>
      if !r.imageWritable then (s, false)
      else if !m.instIn 0 r then m.applyRegs s rest
      else if !r.valueOk v || !s.tailOk r v then (s, false)
      else
        let s := s.imagePut r v
        m.applyRegs { s with boot := { s.boot with applied := if s.boot.applied.contains a then s.boot.applied
                                                              else s.boot.applied ++ [a] } } rest

/-- Every coupled group's rule that spans registers (R511), as the bank of selector `e` stands. -/
def State.blockCoupled (s : State) (e b : Nat) : Bool :=
  s.stFld e (.LNE_GRP_CFG b) F.LNE_GRP_CFG_EN == 0 ||
  s.stFld e (.LNE_GRP_CFG b) F.LNE_GRP_CFG_RATE == s.stFld e (.PRT_BLK_CFG b) F.PRT_BLK_CFG_MODE / 4

/-- A pulse offset lies within its bound (R381, R511). -/
def State.ppsCoupled (s : State) (e k : Nat) : Bool :=
  let v : Int := (BitVec.ofNat 48 ((s.stGet e (.TIM_PPS_OFS_H k)).toNat * 2 ^ 32 + (s.stGet e (.TIM_PPS_OFS_L k)).toNat)).toInt
  decide (v.natAbs ≤ 0x1DCD65000000)

def State.allCoupled (s : State) (e : Nat) : Bool :=
  (List.range 128).all (s.blockCoupled e) && (List.range 4).all (s.ppsCoupled e)

/-- PATTERN records, each as a WRITE to every engine named; whether all succeeded. -/
def State.applyPatterns (s : State) : List (Nat × List Word) → State × Bool
  | [] => (s, true)
  | (en, ws) :: rest =>
    let go (o : State × Bool) (k : Nat) : State × Bool :=
      if o.2 && en.testBit k then
        (match opOfRecord (0x18 + k) 1 ws with
         | .inr op => ((o.1.imageOp op).1, true)
         | .inl _ => (o.1, false))
      else o
    let r := (List.range 8).foldl go (s, true)
    if r.2 then r.1.applyPatterns rest else r

/-- REG, KEY and PATTERN of bank `k` (R58, step 4), and whether application succeeded. -/
def State.applyImage (s : State) (k : Nat) (i : Img) : State × Bool :=
  let r := (s.imageModes i.regs).applyRegs s i.regs
  let p := if r.2 && r.1.allCoupled 0 then r.1.applyPatterns i.pats else (r.1, false)
  let t := p.1
  if p.2 then
    let regs := t.boot.applied.foldl (fun m a => match decodeAddr a with
      | some r => sinsert m a (t.committed r)
      | none => m) []
    ({ t with boot := { t.boot with image := some ⟨k, i.seq, i.cl, i.build, regs, i.keys, []⟩ } }, true)
  else (t, false)

/-- TABLE records (R58, step 6), up to the first that ends with another status than success; whether all succeeded. -/
def State.applyRecords (s : State) : List TblOp → State × Bool
  | [] => (s, true)
  | o :: rest =>
    if o.check ≠ 0 then (s, false)
    else
      let r := s.imageOp o
      if r.2 = 0 then r.1.applyRecords rest else (r.1, false)

/-- The operation of a raw TABLE record; one that is no WRITE where its words make no operation. -/
def rawRecord (x : Nat × Nat × List Word) : TblOp :=
  match opOfRecord x.1 x.2.1 x.2.2 with
  | .inr o => o
  | .inl _ => ⟨x.1, 0, 0, x.2.2⟩

/-- Every table cleared. -/
def State.clearTables (s : State) : State :=
  { s with rows := [], fwd := { s.fwd with copy0 := [], copy1 := [], hit := [], t1 := [], touched := [], touching := [] } }

/-- The block of an address (R31). -/
def blockOf (a : Nat) : Nat := a / 0x400

end Sys2Proof.Machine
end

