-- ==== Sys2Proof/Machine/Sess.lean ====
section
/-! DEFINITION. Sessions, requests and their responses, locks, staging and the acceptance of commits (R82 to R104, R456 to
R458). -/
namespace Sys2Proof.Machine

/-! ## Status codes (R92) -/

namespace Stat
def ok : Nat := 0x00
def notReady : Nat := 0x01
def badCommand : Nat := 0x02
def badLength : Nat := 0x03
def sessionsFull : Nat := 0x04
def noSession : Nat := 0x05
def badSlot : Nat := 0x06
def authFailed : Nat := 0x07
def holdOff : Nat := 0x08
def role : Nat := 0x09
def level : Nat := 0x0A
def address : Nat := 0x0B
def value : Nat := 0x0C
def rwlLocked : Nat := 0x0D
def noTxn : Nat := 0x0E
def txnOpen : Nat := 0x0F
def txnFull : Nat := 0x10
def locked : Nat := 0x11
def coupled : Nat := 0x12
def inconsistent : Nat := 0x13
def table : Nat := 0x14
def imageFull : Nat := 0x15
def seqExhausted : Nat := 0x16
def flashError : Nat := 0x17
def imageInvalid : Nat := 0x18
def busy : Nat := 0x19
def uploadPending : Nat := 0x1A
def state : Nat := 0x1B
end Stat

/-! ## Requests (R88, R93, R457) -/

/-- The request standing on a channel (GO = 1) or at the head of the service port's queue: its source and words. -/
def State.request (s : State) : Via → Option (Nat × List Word)
  | .chan c =>
    if c < 8 && s.fld (.HST_MBX_DOORBELL c) F.HST_MBX_DOORBELL_GO == 1 then
      some (0, (List.range 64).map fun i => s.get (.HST_MBX_REQ c i))
    else none
  | .svc => s.mbx.queue.head?

/-- Who is to be answered. -/
def replyFor (v : Via) (src : Nat) (ws : List Word) : Reply :=
  match v with
  | .chan c => .mbx c
  | .svc => .svc src (ws.getD 1 0) (ws.getD 2 0)

/-- The request is taken up and its response still to come. -/
def State.awaiting (s : State) (r : Reply) : Bool :=
  s.jobs.any (fun j => j.reply == r) ||
  (match s.flash.op with
   | some (.erase _ x) => x == r
   | some (.header _ _ _ x) => x == r
   | _ => false)

def reqCommand (ws : List Word) : Nat := (ws.getD 0 0).toNat % 256
def reqFlags (ws : List Word) : Nat := (ws.getD 0 0).toNat / 256 % 256
def reqLength (ws : List Word) : Nat := (ws.getD 0 0).toNat / 65536
/-- Word `i` of the payload. -/
def reqWord (ws : List Word) (i : Nat) : Word := ws.getD (3 + i) 0

/-! ## Responses (R88, R94, R456, R458) -/

/-- A frame of the service port: padding up to 64 bytes, FCS included. -/
def svcFrame (dst src : Nat) (ws : List Word) : List Byte :=
  sealFrame (beBytes 6 dst ++ beBytes 6 src ++ beBytes 2 0x88B5 ++ beBytes 2 1 ++ beBytes 2 0 ++ ws.flatMap wordBytes)

def response (st detail : Nat) (w1 w2 : Word) (payload : List Word) : List Word :=
  [BitVec.ofNat 32 (st + detail % 256 * 256 + 4 * payload.length * 65536), w1, w2] ++ payload

/-- A frame leaves by the service port, whose transmitter is squelched while the port does not operate (R455). -/
def State.svcSend (s : State) (src : Nat) (ws : List Word) : State :=
  if s.svcOn then s.emit (.service (svcFrame src s.macBase ws)) else s

/-- A table's command ends with a session's refusal: CODE REFUSED and SESSION (R227). -/
def State.cmdRefused (s : State) (t st : Nat) : State := s.cmdEnd t 6 st

/-- Commands of R90. -/
def cmdListed (c : Nat) : Bool :=
  [0x01, 0x02, 0x03, 0x04, 0x05, 0x10, 0x11, 0x12, 0x20, 0x21, 0x22, 0x23, 0x24, 0x30, 0x31, 0x32].contains c

/-- The status of a request whose command no row of R90 lists (R89 checks 1 and 2). -/
def unlistedStatus (ws : List Word) : Nat := if 244 < reqLength ws then Stat.badLength else Stat.badCommand

/-- The response kept for a retry (R458): of the session's latest answered request, or of an OPEN within 1 s. -/
def State.svcKept (s : State) (src : Nat) (ws : List Word) : Option (List Word) :=
  if reqCommand ws = 1 then
    (s.mbx.kept.find? fun k => k.1 == src && k.2.1 == ws.getD 2 0 && decide (s.tim.tick - k.2.2.1 ≤ 1000000000)).map
      fun k => k.2.2.2
  else match sfind s.sessions (ws.getD 1 0).toNat with
    | some x => match x.kept with
      | some (t, r) => if x.chan = none ∧ x.src = src ∧ t = ws.getD 2 0 then some r else none
      | none => none
    | none => none

/-- The response to an OPEN is kept for 1 s, by source and TAG (R458). -/
def State.keepOpen (s : State) (src : Nat) (t : Word) (ws : List Word) : State :=
  let old := s.mbx.kept.filter fun (k : Nat × Word × Nat × List Word) =>
    decide (s.tim.tick - k.2.2.1 ≤ 1000000000) && !(k.1 == src && k.2.1 == t)
  { s with mbx := { s.mbx with kept := old ++ [(src, t, s.tim.tick, ws)] } }

/-- The request at the head of the service port's queue is answered: it leaves the queue, and its response is kept with the
session it names, or as an OPEN's, and sent. -/
def State.svcAnswer (s : State) (src : Nat) (h t : Word) (ws : List Word) : State :=
  let isOpen := match s.mbx.queue with | x :: _ => reqCommand x.2 == 1 | [] => false
  let s := { s with mbx := { s.mbx with queue := s.mbx.queue.drop 1 } }
  let s := if isOpen then s.keepOpen src t ws else s
  let s := match sfind s.sessions h.toNat with
    | some x => if x.chan = none ∧ x.src = src then
        { s with sessions := sinsert s.sessions h.toNat { x with kept := some (t, ws) } } else s
    | none => s
  s.svcSend src ws

/-- Requests at the head of the queue that no row stands for: retries of answered ones, and unlisted commands. In STEWARD_LOST
every request has the answer STATE (R426); before a take-over each waits (R423). -/
def State.svcDrain (s : State) : Nat → State
  | 0 => s
  | n + 1 => if s.stewardHeld then s else match s.mbx.queue with
    | [] => s
    | (src, ws) :: rest =>
      match s.svcKept src ws with
      | some r =>
        ((({ s with mbx := { s.mbx with queue := rest } }).count C.svcReplays).svcSend src r).svcDrain n
      | none =>
        if cmdListed (reqCommand ws) then s
        else (s.svcAnswer src (ws.getD 1 0) (ws.getD 2 0)
          (response (unlistedStatus ws) 0 (ws.getD 1 0) (ws.getD 2 0) [])).svcDrain n

/-- The response to a request. A channel's goes to RSP, clears GO and sets DONE; a service port's is sent and kept, and its
request leaves the queue; a table's command registers take the code. -/
def State.respond (s : State) (r : Reply) (st detail : Nat) (payload : List Word) : State :=
  match r with
  | .mbx c =>
    let was := s.irqCond (32 + c)
    let ws := response st detail (s.get (.HST_MBX_REQ c 1)) (s.get (.HST_MBX_REQ c 2)) payload
    let s := (List.range ws.length).foldl (fun (s : State) i => s.put (.HST_MBX_RSP c i) (ws.getD i 0)) s
    let s := (s.setFld (.HST_MBX_DOORBELL c) F.HST_MBX_DOORBELL_GO 0).setFld (.HST_MBX_DOORBELL c) F.HST_MBX_DOORBELL_DONE 1
    s.irqRise (32 + c) was
  | .svc src h t => (s.svcAnswer src h t (response st detail h t payload)).svcDrain 16
  | .cmd t => if st = Stat.ok then s.cmdEnd t 0 0 else if st = Stat.table then s.cmdEnd t detail 0 else s.cmdRefused t st
  | .nobody => s

/-- A request on channel `c` that no row of R90 lists is answered. -/
def State.answerUnlisted (s : State) (c : Nat) : State :=
  let ws := (List.range 64).map fun i => s.get (.HST_MBX_REQ c i)
  if cmdListed (reqCommand ws) then s else s.respond (.mbx c) (unlistedStatus ws) 0 []

/-- The requests on the service port's queue are answered STATE one after another (R426). -/
def State.answerQueue (s : State) : Nat → State
  | 0 => s
  | n + 1 => match s.mbx.queue with
    | [] => s
    | (src, ws) :: _ => (s.respond (.svc src (ws.getD 1 0) (ws.getD 2 0)) Stat.state 0 []).answerQueue n

/-- A reply that STEWARD_LOST has answered is owed no more. -/
def Reply.paid (r : Reply) : Reply := match r with | .mbx _ | .svc _ _ _ => .nobody | r => r

def FlashOp.paid (o : FlashOp) : FlashOp :=
  match o with
  | .erase k r => .erase k r.paid
  | .header k bytes other r => .header k bytes other r.paid
  | .persist _ _ => o

/-- STEWARD_LOST begins: every request standing is answered STATE (R426), one whose commit or flash work was under way
included. -/
def State.answerLost (s : State) : State :=
  let s : State := { s with jobs := s.jobs.map fun j => { j with reply := j.reply.paid },
                            flash := { s.flash with op := s.flash.op.map FlashOp.paid } }
  let s := ((List.range 8).filter fun c => s.fld (.HST_MBX_DOORBELL c) F.HST_MBX_DOORBELL_GO == 1).foldl
    (fun (s : State) c => s.respond (.mbx c) Stat.state 0 []) s
  s.answerQueue 16

/-! ## Sessions -/

def State.session (s : State) (h : Nat) : Option Session := sfind s.sessions h
def State.putSession (s : State) (h : Nat) (x : Session) : State := { s with sessions := sinsert s.sessions h x }

/-- The session on a channel. -/
def State.sessionOn (s : State) (c : Nat) : Option (Nat × Session) := s.sessions.find? fun kv => kv.2.chan == some c

def State.winBound (s : State) : Bool := s.fld .HST_WIN_STATUS F.HST_WIN_STATUS_BOUND == 1
def State.winChan (s : State) : Nat := s.fld .HST_WIN_STATUS F.HST_WIN_STATUS_CHANNEL

/-- The session that holds the window. -/
def State.winHolder (s : State) : Option (Nat × Session) := if s.winBound then s.sessionOn s.winChan else none

/-- STATE, BOUND and ROLE of a channel (R96). -/
def State.setMbxState (s : State) (c st role : Nat) : State :=
  (s.setFld (.HST_MBX_STATE c) F.HST_MBX_STATE_STATE st).setFld (.HST_MBX_STATE c) F.HST_MBX_STATE_ROLE role

/-- The window becomes unbound. -/
def State.unbindWindow (s : State) : State :=
  if s.winBound then
    let s := s.setFld (.HST_MBX_STATE s.winChan) F.HST_MBX_STATE_BOUND 0
    (s.setFld .HST_WIN_STATUS F.HST_WIN_STATUS_BOUND 0).setFld .HST_WIN_STATUS F.HST_WIN_STATUS_CHANNEL 0
  else s

/-- A session closes (R87): its transaction is aborted with its locks, the window unbound, the channel freed, an upload of
its own abandoned. Commits it has had accepted go on. -/
def State.closeSession (s : State) (h : Nat) : State :=
  match s.session h with
  | none => s
  | some x =>
    let s := match x.chan with
      | some c =>
        let s := if s.winBound && s.winChan == c then s.unbindWindow else s
        s.setMbxState c 0 0
      | none => s
    let s := match s.flash.upload with
      | some u => if u.handle = h then { s with flash := { s.flash with upload := none } } else s
      | none => s
    { s with sessions := serase s.sessions h }

/-- Every session closes. -/
def State.closeAll (s : State) : State := (s.sessions.map Prod.fst).foldl State.closeSession s

/-! ## Coupled groups (R103, R511) -/

/-- The group that a register's fields belong to: type and number. -/
def coupledOf : Reg → Option (Nat × Nat)
  | .PRT_BLK_CFG b => some (1, b)
  | .LNE_GRP_CFG b => some (1, b)
  | .PIP_PORT_DEF_A p => some (2, p)
  | .PIP_PORT_DEF_B p => some (2, p)
  | .PIP_TUN_PORTS => some (3, 0)
  | .FWD_LKP_A k => some (4, k)
  | .FWD_LKP_B k => some (4, k)
  | .TIM_PPS_OFS_L k => some (5, k)
  | .TIM_PPS_OFS_H k => some (5, k)
  | _ => none

def coupledRegs (g : Nat × Nat) : List Reg :=
  match g.1 with
  | 1 => [.PRT_BLK_CFG g.2, .LNE_GRP_CFG g.2]
  | 2 => [.PIP_PORT_DEF_A g.2, .PIP_PORT_DEF_B g.2]
  | 3 => [.PIP_TUN_PORTS]
  | 4 => [.FWD_LKP_A g.2, .FWD_LKP_B g.2]
  | 5 => [.TIM_PPS_OFS_L g.2, .TIM_PPS_OFS_H g.2]
  | _ => []

/-- The part of a group's rule that spans registers. -/
def State.coupledHolds (s : State) (e : Nat) (g : Nat × Nat) : Bool :=
  match g.1 with
  | 1 => s.blockCoupled e g.2
  | 5 => s.ppsCoupled e g.2
  | _ => true

/-- Staged words written into the bank of selector `e`. -/
def State.stageInto (s : State) (e : Nat) (regs : SMap Word) : State :=
  regs.foldl (fun (s : State) kv => match decodeAddr kv.1 with
    | some r => if r.isST then s.stPut e r kv.2 else s
    | none => s) s

def groupKey (g : Nat × Nat) : Nat := g.1 * 65536 + g.2

/-- The first group, in ascending type and instance, that the staged words leave incomplete or inconsistent, and its status
(R103, R512). -/
def State.coupledFault (s : State) (regs : SMap Word) : Option (Nat × Nat × Nat) :=
  let v := s.stageInto s.curSel regs
  let faults := regs.filterMap fun kv =>
    match (decodeAddr kv.1).bind coupledOf with
    | none => none
    | some g =>
      if !((coupledRegs g).all fun r => (sfind regs r.addr).isSome) then some (Stat.coupled, g)
      else if !v.coupledHolds s.curSel g then some (Stat.inconsistent, g) else none
  faults.foldl (fun (b : Option (Nat × Nat × Nat)) x => match b with
    | none => some x
    | some y => if groupKey x.2 < groupKey y.2 then some x else some y) none

/-! ## Size of the running image (R47) -/

/-- Two operations concern the same entry. -/
def TblOp.same (a b : TblOp) : Bool :=
  a.table == b.table && (if a.table = 0x20 then recKey a.words == recKey b.words else a.index == b.index)

/-- The records as one more operation leaves them. -/
def recordsAfter (l : List TblOp) (o : TblOp) : List TblOp :=
  let l := l.filter fun x => !x.same o
  if o.op = 1 then l ++ [o] else l

/-- BODY_LENGTH of the running image once the staged words and operations given have taken effect, in order. -/
def State.sizeAfter (s : State) (i : RunImage) (work : List (SMap Word × List TblOp)) : Nat :=
  let v := work.foldl (fun (s : State) w => s.stageInto s.curSel w.1) s
  let named := (work.flatMap fun w => w.1.map Prod.fst).filter fun a => match decodeAddr a with
    | some r => r.imaged
    | none => false
  let addrs := named.foldl (fun (m : SMap Word) a => sinsert m a 0) i.regs
  let regs := (addrs.filter fun kv => match decodeAddr kv.1 with | some r => v.instIn v.curSel r | none => false).length
  let recs := (work.flatMap Prod.snd).foldl recordsAfter (s.tableRecords ++ (if s.boot.tabled then [] else s.boot.records))
  imageSize regs i.keys.length recs

/-- A staged word changes an RWL field after step 9 (R102, R504). -/
def State.rwlFault (s : State) (regs : SMap Word) : Bool :=
  s.running && regs.any fun kv => match decodeAddr kv.1 with
    | some r => (kv.2 ^^^ s.committed r) &&& (r.maskOf fun f => f.acc == .rwl) != 0
    | none => false

/-- Step 1 of R108: the status of the first check that fails, DETAIL and EPOCH; 0 where all pass. -/
def State.validate (s : State) (regs : SMap Word) (ops : List TblOp) : Nat × Nat × Nat :=
  if s.rwlFault regs then (Stat.rwlLocked, 0, 0)
  else match s.coupledFault regs with
  | some (st, g) => (st, g.1, g.2)
  | none => match s.boot.image with
    | some i =>
      if maxBody < s.sizeAfter i ((s.jobs.map fun j => (j.regs, j.ops)) ++ [(regs, ops)]) then (Stat.imageFull, 0, 0)
      else (0, 0, 0)
    | none => (0, 0, 0)

/-! ## Locks and staging (R100 to R102) -/

/-- Another session's transaction, open or accepted, holds the register. -/
def State.regLocked (s : State) (h a : Nat) : Bool :=
  s.sessions.any (fun kv => kv.1 != h && (match kv.2.txn with | some t => (sfind t.regs a).isSome | none => false)) ||
  s.jobs.any fun j => j.handle != h && (sfind j.regs a).isSome

/-- The same for a table. -/
def State.tblLocked (s : State) (h t : Nat) : Bool :=
  s.sessions.any (fun kv => kv.1 != h && (match kv.2.txn with | some x => x.ops.any fun o => o.table == t | none => false)) ||
  s.jobs.any fun j => j.handle != h && j.ops.any fun o => o.table == t

def maxUnits : Nat := 4096

/-- The commit is accepted: it waits behind earlier ones. -/
def State.accept (s : State) (j : Job) : State := { s with jobs := s.jobs ++ [j] }

def newJob (h : Nat) (r : Reply) (persist : Bool) (regs : SMap Word) (ops : List TblOp) : Job :=
  ⟨h, r, persist, regs, ops, false, 0, false, none⟩

/-- The open transaction of a handle. -/
def State.txnOf (s : State) (h : Nat) : Option Txn := (s.session h).bind (·.txn)

/-- A register write enters the open transaction, or is committed alone (R101, R102). The status; where several refusals hold, the
first in the order of the text below (log 153). -/
def State.stageReg (s : State) (h : Nat) (r : Reg) (v : Word) : State × Nat :=
  match s.session h with
  | none => (s, Stat.noSession)
  | some x => match x.txn with
    | some t =>
      if s.regLocked h r.addr then (s, Stat.locked)
      else if (sfind t.regs r.addr).isSome then
        (s.putSession h { x with txn := some { t with regs := sinsert t.regs r.addr v } }, 0)
      else if maxUnits < t.units + 1 then (s, Stat.txnFull)
      else (s.putSession h { x with txn := some { t with regs := sinsert t.regs r.addr v, units := t.units + 1 } }, 0)
    | none =>
      if (coupledOf r).isSome then (s, Stat.coupled)
      else if s.regLocked h r.addr then (s, Stat.locked)
      else
        let w := s.validate [(r.addr, v)] []
        if w.1 ≠ 0 then (s.count C.commitRefused, w.1)
        else (s.accept (newJob h .nobody false [(r.addr, v)] []), 0)

/-- A table operation enters the open transaction, or is committed alone, in which case its status comes with the commit.
The answer: status and DETAIL, none where it is still to come; where several refusals hold, the first in the order of the text below
(log 153). -/
def State.stageOp (s : State) (h : Nat) (r : Reply) (o : TblOp) : State × Option (Nat × Nat) :=
  match s.session h with
  | none => (s, some (Stat.noSession, 0))
  | some x =>
    if o.check ≠ 0 then (s, some (Stat.table, o.check))
    else if s.tblLocked h o.table then (s, some (Stat.locked, 0))
    else match x.txn with
      | some t =>
        if maxUnits < t.units + 4 then (s, some (Stat.txnFull, 0))
        else (s.putSession h { x with txn := some { t with ops := t.ops ++ [o], units := t.units + 4 } }, some (0, 0))
      | none =>
        let w := s.validate [] [o]
        if w.1 ≠ 0 then (s.count C.commitRefused, some (w.1, 0))
        else (s.accept (newJob h r false [] [o]), none)

end Sys2Proof.Machine
end

