-- ==== Sys2Proof/Machine/Commit.lean ====
section
/-! DEFINITION. The commit sequence (R105 to R111): applying a commit against the free selector, its commit point with what
each chapter says happens there, abandonment, promotion, and the start of a persist. -/
namespace Sys2Proof.Machine

/-! ## Step 3: staged values into the free bank (R25, R108) -/

def isBlockReg : Reg → Bool
  | .PRT_BLK_CFG _ => true
  | .LNE_GRP_CFG _ => true
  | _ => false

/-- The per-port and per-queue registers of a position (R25). -/
def portRegs (p : Nat) : List Reg :=
  [.PRT_MAC_CFG p, .PRT_PORT_STATUS p, .PRT_FC_CFG p, .PRT_PFC_WM p, .PRT_PFC_STATUS p, .PIP_PORT_CFG p, .PIP_PORT_DEF_A p,
   .PIP_PORT_DEF_B p, .SWC_HIST_CFG p, .TIM_PTP_PORT p, .TIM_PORT_ASYM p, .TIM_PORT_LAT p, .TIM_PHASE p, .TIM_PORT_STATUS p,
   .TIM_PTP_OFFSET p, .TIM_PTP_DELAY p] ++
  (List.range 16).flatMap fun k => [.SWC_Q_CFG (16 * p + k), .SWC_Q_STATUS (16 * p + k)]

/-- Positions of the blocks whose mode or enable the two banks hold differently. -/
def State.movedPositions (s : State) (e c : Nat) : List Nat :=
  ((List.range 128).filter fun b => s.stGet e (.PRT_BLK_CFG b) != s.stGet c (.PRT_BLK_CFG b) ||
    s.stFld e (.LNE_GRP_CFG b) F.LNE_GRP_CFG_EN != s.stFld c (.LNE_GRP_CFG b) F.LNE_GRP_CFG_EN).flatMap blockLanes

/-- Positions that become ports, and that cease to be ports, between bank `c` and bank `e`. -/
def State.createdPorts (s : State) (e c : Nat) : List Nat :=
  (s.movedPositions e c).filter fun p => s.isPortIn e p && !s.isPortIn c p
def State.ceasedPorts (s : State) (e c : Nat) : List Nat :=
  (s.movedPositions e c).filter fun p => !s.isPortIn e p && s.isPortIn c p

/-- A staged register of bank `e` at its Reset column value. -/
def State.stErase (s : State) (e : Nat) (r : Reg) : State :=
  if e = 0 then { s with st0 := serase s.st0 r.addr } else { s with st1 := serase s.st1 r.addr }

/-- The staged values of a commit in bank `f`: block modes first, then the instances of new ports at their resets, then every
other value whose instance exists. -/
def State.writeBank (s : State) (f : Nat) (regs : SMap Word) : State :=
  let put (want : Bool) (s : State) (kv : Nat × Word) : State := match decodeAddr kv.1 with
    | some r => if r.isST && isBlockReg r == want && s.instIn f r then s.stPut f r kv.2 else s
    | none => s
  let s := regs.foldl (put true) s
  let s := (s.createdPorts f (1 - f)).foldl (fun (s : State) p =>
    ((portRegs p).filter Reg.isST).foldl (fun (s : State) r => s.stErase f r) s) s
  regs.foldl (put false) s

/-- The hash seeds after a commit that stages them; none where it stages neither, and after step 9, when they are locked (R7). -/
def State.stagedSeeds (s : State) (regs : SMap Word) : Option (Nat × Nat) :=
  if s.running then none else match sfind regs Reg.FWD_HASH_SEED1.addr, sfind regs Reg.FWD_HASH_SEED2.addr with
  | none, none => none
  | a, b => some ((a.getD (s.get .FWD_HASH_SEED1)).toNat, (b.getD (s.get .FWD_HASH_SEED2)).toNat)

/-! ## Abandonment (R109) -/

/-- The payload of a COMMIT's response; a TABLE_OP and a table's command registers have none (R90). -/
def State.commitPayload (s : State) (r : Reply) (epoch : Word) (persist : Nat) : List Word :=
  let w : Word := match r with
    | .mbx c => s.get (.HST_MBX_REQ c 0)
    | .svc _ _ _ => match s.mbx.queue with
      | x :: _ => x.2.getD 0 0
      | [] => 0
    | _ => 0
  if w.toNat % 256 = 0x21 then [epoch, BitVec.ofNat 32 (persist * 2 ^ 24)] else []

/-- A re-placement under new seeds is undone: every copy in service is as it was under the old seeds (R109, R547). -/
def State.seedRestore (s : State) (u : SeedUndo) : State :=
  let s := s.placeAll u.copy u.under
  let s := { s with fwd := { s.fwd with hit := u.hit, t1 := u.t1 } }
  (s.put .FWD_HASH_SEED1 (BitVec.ofNat 32 u.seeds.1)).put .FWD_HASH_SEED2 (BitVec.ofNat 32 u.seeds.2)

/-- The bank of selector `f` and its visibility bits are made as those of `c`. -/
def State.copyBank (s : State) (f c : Nat) : State :=
  let s := if f = 0 then { s with st0 := s.st1 } else { s with st1 := s.st0 }
  let s := (s.rowsMerge f c).fwdMerge s.fwd.touching f c
  { s with fwd := { s.fwd with touching := [] } }

/-- The head commit fails at step 4: what it did is undone, and the failure is answered (COMMIT_ABANDON). Log 126: where the
re-placement of R547 fails and no table operation has, the index answered is 0. -/
def State.abandon (s : State) (j : Job) (rest : List Job) (code index : Nat) : State :=
  let f := 1 - s.curSel
  let s := match j.undo with | some u => s.seedRestore u | none => s
  let s := ({ s with jobs := rest }).copyBank f s.curSel
  (s.count C.commitRefused).respond j.reply Stat.table code (s.commitPayload j.reply (BitVec.ofNat 32 index) 0)

/-! ## Step 4 (R108, R109, R344) -/

/-- Operations of the head commit from where it stands, until one must wait for a relocation, one fails, or all are done. -/
def State.runOps (s : State) : Nat → State
  | 0 => s
  | n + 1 =>
    match s.jobs with
    | [] => s
    | j :: rest =>
      let f := 1 - s.curSel
      match j.ops[j.done]? with
      | none =>
        match s.gateFault f j.ops with
        | some p => s.abandon j rest 7 (lastGateOp p j.ops)
        | none => { s with jobs := { j with ready := true } :: rest }
      | some o =>
        if o.table = 0x20 ∧ s.fwd.job.isSome then s
        else
          let r := s.applyOp f o
          match r.2 with
          | .moving => r.1
          | .done 0 => ({ r.1 with jobs := { j with done := j.done + 1 } :: rest }).runOps n
          | .done c => r.1.abandon j rest c j.done

/-- Steps 3 and 4 of the head commit. Log 126: abandonment by the re-placement itself answers index 0. -/
def State.applyJob (s : State) (j : Job) (rest : List Job) : State :=
  let f := 1 - s.curSel
  let s := ({ s with jobs := { j with started := true } :: rest }).writeBank f j.regs
  match s.stagedSeeds j.regs with
  | none => s.runOps (j.ops.length + 1)
  | some sd =>
    if sd = s.seedRegs then s.runOps (j.ops.length + 1)
    else
      let c := s.mainCopy
      let u : SeedUndo := ⟨s.copy c, if c = 0 then s.fwd.over0 else s.fwd.over1, s.fwd.hit, s.fwd.t1, s.seedRegs⟩
      let t := s.seedRebuild sd
      if t.2 then ({ t.1 with jobs := { j with started := true, undo := some u } :: rest }).runOps (j.ops.length + 1)
      else t.1.rehashNeeded.abandon j rest 7 0

/-- COMMIT_APPLY: the retired epoch has ended, so the head commit takes its steps 3 and 4. -/
def execCommitApply (s : State) (ecc : List (Nat × BucketEcc) := []) : Answer :=
  .next (match s.jobs with
    | j :: rest =>
      if s.fld .STW_EPOCH_STATUS F.STW_EPOCH_STATUS_RETIRED_LIVE = 1 || s.stewardHeld || j.started then s
      else (s.readEcc ecc).applyJob j rest
    | [] => s)

/-- The head commit goes on with its operations, unless no steward works (R423, R426). -/
def State.goOn (s : State) : State :=
  match s.jobs with
  | j :: _ => if !j.started || j.ready || s.stewardHeld then s else s.runOps (j.ops.length + 1)
  | [] => s

/-- The insert under way has no copy left to land in (R267): a commit that waits for it ends with TIER2_DOWN, a learning request
ends. -/
def State.insertLost (s : State) (t : TuJob) : State :=
  let s := { s with fwd := { s.fwd with job := none } }
  match s.jobs with
  | j :: rest => if t.commit && j.started && !j.ready && !s.stewardHeld then s.abandon j rest 10 j.done else s.goOn
  | [] => s

/-- RELOCATION_MOVE_END (R251): the vacated bucket becomes EMPTY and the next move of the chain begins; after the last one
the entry lands, and a commit that waited for it goes on. A commit whose chain a lost copy has taken along takes its operation up
again (log 140). -/
def execRelocationMoveEnd (s : State) (ecc : List (Nat × BucketEcc) := []) : Answer :=
  .next (match s.fwd.job with
    | none => s.goOn
    | some t =>
      let s := s.readEcc ecc
      let r := s.endMove t
      if !s.t2Up then s.insertLost t
      else if !r.2 then r.1
      else
        let s := if t.commit then r.1 else r.1.count C.learned
        match s.jobs with
        | j :: rest =>
          if t.commit && j.started && !j.ready then
            let s := s.clearOlder (1 - s.curSel) t.entry.key
            ({ s with jobs := { j with done := j.done + 1 } :: rest }).goOn
          else s.goOn
        | [] => s)

/-! ## What the chapters do at the commit point -/

/-- A port of an old mode, or of a block whose EN becomes 0, goes down; its queues are flushed, without a park (R168). -/
def State.endPort (s : State) (p : Nat) (stays : Bool) : State :=
  let s := if s.portState p = 3 then
      let s := ((s.stompPort p).failReception p).clearPause p
      (s.setFld (.PRT_PORT_STATUS p) F.PRT_PORT_STATUS_DOWN_SEEN 1).count (C.portDown p)
    else s
  ((s.setPortState p (if stays then 1 else 0)).flushPort p).setPark p 0

/-- The registers of a position that are not staged take their Reset column values (R25). -/
def State.freshInstances (s : State) (p : Nat) : State :=
  ((portRegs p).filter fun r => !r.isST).foldl (fun (s : State) r => { s with regs := serase s.regs r.addr }) s

/-- A position becomes a port (R25, R168, R302, R489): its registers that are not staged at their resets, its counters, its
queues' tokens, deficits and averages cleared, DOWN. -/
def State.createPort (s : State) (p : Nat) : State :=
  let s := ((s.freshInstances p).clearCounters fun id => cntPort id == some p).putPortSt p ⟨0, 0, [], 0, false⟩
  let s := (List.range 16).foldl (fun (s : State) k =>
    let q := 16 * p + k
    ({ s with swc := { s.swc with avg := serase s.swc.avg q, dc := serase s.swc.dc q } }).setTok q 0) s
  let s := { s with tim := { s.tim with ptp := serase s.tim.ptp p } }
  s.setPortState p 1

/-- The registers of positions that cease to be ports leave the running image (R25). -/
def State.forgetPorts (s : State) (ps : List Nat) : State :=
  let keep (kv : Nat × Word) : Bool := match (decodeAddr kv.1).bind Reg.portIdx with
    | some p => !ps.contains p
    | none => true
  match s.boot.image with
  | some i => { s with boot := { s.boot with image := some { i with regs := i.regs.filter keep } } }
  | none => s

/-- PORT_MODE_CHANGE (R168, R25): `old` and `new` are the positions' ports before and after, of the blocks that changed. -/
def State.portModeChange (s : State) (old ceased created : List Nat) : State :=
  let s := old.foldl (fun (s : State) p => s.endPort p (!ceased.contains p)) s
  let s := created.foldl State.createPort s
  s.forgetPorts ceased

/-- Bits of a port's pause state that a setting has in force: the port's own as bit 0, or the enabled priorities. -/
def fcBits (mode en : Nat) : Nat := if mode = 1 then 1 else if mode = 2 then en else 0

/-- Frames of the old kind with time 0 fall due for the priorities `v` (R183, R196). -/
def PortSt.release (x : PortSt) (mode v : Nat) : PortSt :=
  if v = 0 ∨ mode = 0 then x
  else match x.olds.reverse with
    | (m, w) :: rest => { x with olds := if m = mode then rest.reverse ++ [(m, w ||| v)] else x.olds ++ [(mode, v)] }
    | [] => { x with olds := [(mode, v)] }

/-- Frames of the kind in force stay due for the priorities still enabled. -/
def PortSt.keep (x : PortSt) (xoff xon : Nat) : PortSt := { x with dueXoff := x.dueXoff &&& xoff, dueXon := xon }

/-- FC_CFG_CHANGE (R196): from FC_MODE `m0` to the values now committed. -/
def State.fcCfgChange (s : State) (p m0 : Nat) : State :=
  let m1 := s.fcMode s.curSel p
  let e1 := s.pfcEn s.curSel p
  let st := s.fld (.PRT_PFC_STATUS p) F.PRT_PFC_STATUS_TX_XOFF
  let gone := (List.range 8).foldl (fun m i =>
    if st.testBit i && !(m0 == m1 && (fcBits m1 e1).testBit i) then setBit m i else m) 0
  let x := s.portSt p
  let xon := if m0 = m1 then x.dueXon &&& fcBits m1 e1 else 0
  let x := (x.release m0 (gone ||| (x.dueXon &&& (255 - xon)))).keep (255 - gone) xon
  let s := (s.putPortSt p x).setFld (.PRT_PFC_STATUS p) F.PRT_PFC_STATUS_TX_XOFF (st &&& (255 - gone))
  let rx := s.fld (.PRT_PFC_STATUS p) F.PRT_PFC_STATUS_RX_PAUSED
  let obeyed := if m0 ≠ m1 then 0 else if m1 = 2 then rx &&& e1 else if m1 = 1 then rx else 0
  let s := s.setFld (.PRT_PFC_STATUS p) F.PRT_PFC_STATUS_RX_PAUSED obeyed
  s.pauseEval p

/-- TOK of a queue whose MIN_RATE a commit changes (R302): `was` is its rate, `tok` its tokens just before. -/
def State.tokChange (s : State) (q was tok : Nat) : State :=
  if was ≠ 0 ∧ s.cFld (.SWC_Q_CFG q) F.SWC_Q_CFG_MIN_RATE ≠ 0 then s.setTok q tok else s.setTok q 0

/-- The gate schedules of the ports touched become pending (R346). -/
def State.gatesCommitted (s : State) (ops : List TblOp) : State :=
  (gatePorts ops).foldl (fun (s : State) p => match s.schedOf s.curSel p with
    | some x => s.gatePending p x.1
    | none => if (s.gate p).oper.isSome || (s.gate p).pend.isSome then s.gatePending p ⟨false, 0, 0, []⟩ else s) s

/-! ## Persisting (R63, R64, R111, R113) -/

/-- Every cell of a bank erased. -/
def State.eraseBank (s : State) (k : Nat) : State :=
  { s with flash := { s.flash with cells := s.flash.cells.filter fun kv => kv.1 / 0x1000000 != k } }

def State.setPersist (s : State) (f : Fld) (v : Nat) : State := s.setFld .STW_PERSIST_STATUS f v

/-- A persist ends without a write. -/
def State.persistFailed (s : State) (st : Nat) : State :=
  ((s.setPersist F.STW_PERSIST_STATUS_STATE 3).setPersist F.STW_PERSIST_STATUS_STATUS st).irqEvent 48

/-- PERSIST_START: a write of the running image begins, is queued, or fails; PERSIST_STATE of the response. -/
def State.persistStart (s : State) : State × Nat :=
  match s.boot.image with
  | none => (s, 3)
  | some i =>
    if s.flash.upload.isSome || s.fld .STW_PERSIST_STATUS F.STW_PERSIST_STATUS_UPLOAD_PENDING == 1 ||
        (match s.flash.op with | some (.persist _ _) => false | some _ => true | none => false) then
      (s.persistFailed Stat.uploadPending, 3)
    else if s.flash.op.isSome then (s.setPersist F.STW_PERSIST_STATUS_AGAIN 1, 2)
    else if 0xFFFFFFFF ≤ i.seq + 1 then (s.persistFailed Stat.seqExhausted, 3)
    else
      let k := 1 - i.bank
      let img := s.snapshot i
      let s := { s with boot := { s.boot with image := some img } }
      let s := ((s.eraseBank k).setPersist F.STW_PERSIST_STATUS_STATE 1).setPersist F.STW_PERSIST_STATUS_BANK k
      ({ s with flash := { s.flash with op := some (.persist k (img.bytes s.boot.fuses (i.seq + 1))) } }, 1)

/-! ## Step 5: the commit point -/

/-- The current epoch is retired and the next begins on the other selector (R105). Before step 9 the values take effect in
both banks and no epoch is created (R68, R109). -/
def State.switchEpoch (s : State) : State :=
  let f := 1 - s.curSel
  if s.running then
    let s := s.setFld .STW_EPOCH_STATUS F.STW_EPOCH_STATUS_SELECTOR f
    let s := s.put .STW_EPOCH_NUMBER (s.get .STW_EPOCH_NUMBER + 1)
    let s := s.setFld .STW_EPOCH_STATUS F.STW_EPOCH_STATUS_RETIRED_LIVE 1
    { s with fwd := { s.fwd with touched := s.fwd.touching, touching := [] } }
  else s.copyBank s.curSel f

/-- What the staged registers were before the commit point, and the actions that their owning chapters give (R108 step 5). -/
def State.commitActions (was : State) (regs : SMap Word) (s : State) : State :=
  let rs := regs.filterMap fun kv => decodeAddr kv.1
  let s := rs.foldl (fun (s : State) r => match r with
    | .LNE_GRP_CFG b => s.groupCfgChange b (was.grpEn b) (was.cFld (.LNE_GRP_CFG b) F.LNE_GRP_CFG_RATE)
    | .PRT_BLK_CFG b => if was.committed (.PRT_BLK_CFG b) = s.committed (.PRT_BLK_CFG b) then s else s.sleepEval b
    | .SWC_Q_CFG q =>
      if s.isPort (portOf q) && was.isPort (portOf q) then
        s.tokChange q (was.cFld (.SWC_Q_CFG q) F.SWC_Q_CFG_MIN_RATE) (was.tokNow q)
      else s
    | .PRT_FC_CFG p =>
      if s.isPort p && was.isPort p then s.fcCfgChange p (was.fcMode was.curSel p) else s
    | .TIM_PTP_PORT p => s.l1Eval p
    | .TIM_PPS_OFS_L k => s.newPpsOffset k (was.ppsOffset k)
    | .TIM_PPS_OFS_H k => if (sfind regs (Reg.TIM_PPS_OFS_L k).addr).isSome then s else s.newPpsOffset k (was.ppsOffset k)
    | _ => s) s
  rs.foldl (fun (s : State) r => if s.instIn s.curSel r then s.noteImage r else s) s

/-- The head commit takes effect and is answered. Log 125: PERSIST_STATE is 0 in the response of a COMMIT without PERSIST. -/
def State.pointOf (was : State) (j : Job) (rest : List Job) : State :=
  let f := 1 - was.curSel
  let c := was.curSel
  let created := was.createdPorts f c
  let ceased := was.ceasedPorts f c
  let old := (was.movedPositions f c).filter (was.isPortIn c)
  let s := ({ was with jobs := rest }).switchEpoch
  let s := if was.running then s.portModeChange old ceased created
    else (created.foldl State.freshInstances s).forgetPorts ceased
  let s := (was.commitActions j.regs s).gatesCommitted j.ops
  let s := s.count C.commits
  let p := if j.persist then s.persistStart else (s, 0)
  (p.1.respond j.reply Stat.ok 0 (p.1.commitPayload j.reply (p.1.get .STW_EPOCH_NUMBER) p.2)).checkEpoch

/-- COMMIT_POINT. -/
def execCommitPoint (s : State) : Answer :=
  .next (match s.jobs with
    | j :: rest => if j.ready && !s.stewardHeld then s.pointOf j rest else s
    | [] => s)

/-- The two selectors give every class the same priority (R201). -/
def State.samePriorities (s : State) : Bool :=
  [Reg.PRT_PFC_MAP0, Reg.PRT_PFC_MAP1].all fun r => s.stGet 0 r == s.stGet 1 r

/-- EPOCH_PROMOTION (R106); the frames promoted count for their new priorities (R183). -/
def execEpochPromotion (s : State) (scanning : List Nat := []) : Answer :=
  .next (if s.fld .STW_EPOCH_STATUS F.STW_EPOCH_STATUS_RETIRED_LIVE = 1 then
      let t := ((s.holdScans scanning).countN C.epochPromoted (s.inFlight (1 - s.curSel))).endEpoch
      if s.samePriorities then t else t.allPorts.foldl State.pauseEval t
    else s)

end Sys2Proof.Machine
end

