-- ==== Sys2Proof/Machine/Tic.lean ====
section
/-! DEFINITION. Time-interval measurement (R390 to R419): stampers, channels, the result FIFOs, calibration. -/
namespace Sys2Proof.Machine

/-- n/d to the nearest integer, halves away from zero; d > 0. -/
def roundHalfAway (n d : Int) : Int := if n < 0 then -((-2 * n + d) / (2 * d)) else (2 * n + d) / (2 * d)

/-! ## Stampers (R390, R391) -/

def freshTable : CalTable := ⟨none, none, 0, false, 0, 0⟩
def State.table (s : State) (pos : Nat) : CalTable := sgetD s.tic.tables pos freshTable
def State.putTable (s : State) (pos : Nat) (x : CalTable) : State :=
  { s with tic := { s.tic with tables := sput freshTable s.tic.tables pos x } }

/-- Width of a code of a position's table. -/
def CalTable.width (x : CalTable) (pos i : Nat) : Nat :=
  match x.widths with
  | some l => l.getD i 0
  | none => Config.fusedWidth pos i

/-- Codes that span a tick, in sixteenths (R404, R405: scale calibration takes the mean of 16 edges). -/
def CalTable.codes16 (x : CalTable) (pos : Nat) : Nat :=
  match x.span, x.widths with
  | some m, _ => m
  | none, some l => 16 * l.length
  | none, none => 16 * Config.fusedSpan pos

/-- Sum of the widths below code `c`. -/
def CalTable.below (x : CalTable) (pos : Nat) : Nat → Nat
  | 0 => 0
  | c + 1 => x.below pos c + x.width pos c

/-- The widths that make up one tick, a last code that the span takes in part counting in proportion; in sixteenths (R405). -/
def CalTable.total16 (x : CalTable) (pos : Nat) : Nat :=
  let m := x.codes16 pos
  max 1 (16 * x.below pos (m / 16) + m % 16 * x.width pos (m / 16))

/-- POS and PHASE of TIM_TIC_CAL_STATUS (R418). -/
def State.calPos (s : State) : Nat := s.fld .TIM_TIC_CAL_STATUS F.TIM_TIC_CAL_STATUS_POS
def State.calPhase (s : State) : Nat := s.fld .TIM_TIC_CAL_STATUS F.TIM_TIC_CAL_STATUS_PHASE

/-- The stamper that serves a position: the spare from HANDOVER to CHECK (R408). -/
def State.servedBy (s : State) (pos : Nat) : Nat :=
  if s.calPos = pos ∧ 2 ≤ s.calPhase ∧ s.calPhase ≤ 4 then 20 else pos

/-- The state of the timebase that a stamp taken now carries into its result (R393). -/
def State.timebase (s : State) : Nat :=
  if !s.engineOn then 3 else if s.oscState = 4 then 2 else if s.qualified then 0 else 1

/-- The stamp of an edge now, whose interpolator code is `code`: T at the tick before plus φ × INC, and the tick count plus φ,
less the path trim and the board delay (R391). φ is the centre of the code on the calibrated scale. -/
def State.stampNow (s : State) (pos code : Nat) (rising : Bool) (delay : Int) : Stamp :=
  let by' := s.servedBy pos
  let x := s.table by'
  let total := x.total16 by'
  let num : Int := (16 * (2 * x.below by' code + x.width by' code) : Nat)
  let den : Int := (2 * total : Nat)
  let inc := if s.engineOn then s.inc else 2 ^ 32
  let trim := Config.pathTrim by' + delay
  let raw := roundHalfAway ((s.tim.tick : Int) * 65536 * den + num * 65536) den
  { saf := (roundHalfAway (s.t32 * den + num * inc) (den * 2 ^ 16) - trim) % 2 ^ 64
    tck := raw - trim, raw := raw, rising := rising, code := code, wN := 16 * x.width by' code, wD := total, step := s.tim.stepSeq,
    tb := s.timebase }

/-- An edge at `raw` comes before the hold-off `h` after the last accepted one has passed (R392). -/
def tooSoon (last : Option Int) (raw : Int) (h : Nat) : Bool := match last with | some l => decide (raw - l < (h : Int)) | none => false

/-- The dead time of a stamper with PRESCALE 0 and no HOLDOFF, 4 ns (R392). -/
def deadTime : Nat := 4 * 65536

/-! ## Channels -/

def freshChan : TicChan :=
  { cfg := Reg.resetWord (.TIM_TIC_CFG 0), cfg2 := Reg.resetWord (.TIM_TIC_CFG2 0), dirty := false, last := none, lastStop := none,
    idx := 0, fifo := [], start := none, stops := [], gated := false, prev := none, cur := none, n := 0, gateEnd := 0 }
def State.chan (s : State) (k : Nat) : TicChan := sgetD s.tic.chans k freshChan

/-- Store a channel, and FILL and OPEN as they read (R414). -/
def State.putChan (s : State) (k : Nat) (x : TicChan) : State :=
  let s := { s with tic := { s.tic with chans := sput freshChan s.tic.chans k x } }
  let s := s.setFld (.TIM_TIC_STATUS k) F.TIM_TIC_STATUS_FILL x.fifo.length
  s.setFld (.TIM_TIC_STATUS k) F.TIM_TIC_STATUS_OPEN (if x.start.isSome || x.gated then 1 else 0)

def TicChan.fld (x : TicChan) (f : Fld) : Nat := f.get x.cfg
def TicChan.mode (x : TicChan) : Nat := x.fld F.TIM_TIC_CFG_MODE
def TicChan.stopCh (x : TicChan) : Nat := x.fld F.TIM_TIC_CFG_STOP_CH

/-- The form that a channel's results use (R391). -/
def TicChan.form (x : TicChan) (t : Stamp) : Int := if x.fld F.TIM_TIC_CFG_TIMEBASE = 1 then t.tck else t.saf

/-- The present time in a channel's form. -/
def State.formNow (s : State) (x : TicChan) : Int :=
  if x.fld F.TIM_TIC_CFG_TIMEBASE = 1 then (s.tim.tick : Int) * 65536 else s.full16

/-- Difference of two values of a form (R325). -/
def formDiff (a b : Int) : Int :=
  let d := (a - b) % 2 ^ 64
  if d < 2 ^ 63 then d else d - 2 ^ 64

/-- A result enters the FIFO, or is lost (R403). -/
def State.pushResult (s : State) (k : Nat) (r : TicRes) : State :=
  let x := s.chan k
  if 64 ≤ x.fifo.length then (s.count (C.ticLost k)).setFld (.TIM_TIC_STATUS k) F.TIM_TIC_STATUS_OVERFLOW 1
  else
    let s := s.putChan k { x with fifo := x.fifo ++ [r] }
    if x.fifo.isEmpty then s.irqEvent (64 + k) else s

/-- The result of a pair of stamps (R398, R400). -/
def State.pairResult (s : State) (x : TicChan) (a b : Stamp) : TicRes :=
  let v := formDiff (x.form b) (x.form a)
  let saf := x.fld F.TIM_TIC_CFG_TIMEBASE == 0
  let unresolved := decide (2 * v.natAbs * a.wD * b.wD < 65536 * (a.wN * b.wD + b.wN * a.wD))
  let r (st : Nat) (val : Int) : TicRes :=
    { status := st, tb := s.timebase, stepped := saf && a.step != b.step, binA := a.code, binB := b.code, value := val,
      count := 0 }
  if unresolved then r 2 0
  else if v < 0 then r 1 (if x.fld F.TIM_TIC_CFG_ORDERED = 1 then 0 else v)
  else if 2 ^ 56 ≤ v.natAbs then r 5 0
  else r 0 v

/-- One microsecond in units of 2^-16 ns. -/
def usec16 : Int := 65536000

/-- The edge is a stop edge for channel `x`, `both` being whether the stop channel selects both edges (R396). -/
def TicChan.isStop (x : TicChan) (both rising : Bool) : Bool :=
  !both || (x.fld F.TIM_TIC_CFG_STOP_POL == if rising then 0 else 1)

/-- The edge is a start edge of its channel, by polarity when EDGE is both (R396). -/
def TicChan.isStart (x : TicChan) (rising : Bool) : Bool :=
  x.fld F.TIM_TIC_CFG_EDGE != 2 || (x.fld F.TIM_TIC_CFG_START_POL == if rising then 0 else 1)

/-- A start edge of channel `k` (R397): it pairs with the latest unused stop stamp of the 1 µs before it, else with the earliest that
lies after it, else it waits. -/
def State.startEdge (s : State) (k : Nat) (t : Stamp) : State :=
  let x := s.chan k
  if x.start.isSome then s.count (C.ticIgnored k)
  else
    let both := (s.chan x.stopCh).fld F.TIM_TIC_CFG_EDGE == 2
    let d (u : Stamp) : Int := formDiff (x.form t) (x.form u)
    let held := x.stops.filter fun u => x.isStop both u.rising
    let near := held.filter fun u => decide (0 ≤ d u) && decide (d u ≤ usec16)
    match near.getLast? <|> held.find? fun u => decide (d u < 0) with
    | some u => (s.putChan k { x with stops := x.stops.filter (· != u) }).pushResult k (s.pairResult x t u)
    | none => s.putChan k { x with start := some t }

/-- A stamp of its stop channel reaches channel `j` (R397): it ends the open measurement that it does not come before, or is held. -/
def State.stopFor (s : State) (j : Nat) (t : Stamp) : State :=
  let x := s.chan j
  match x.start with
  | some a =>
    if 0 ≤ formDiff (x.form t) (x.form a) then (s.putChan j { x with start := none }).pushResult j (s.pairResult x a t)
    else s.putChan j { x with stops := x.stops ++ [t] }
  | none => s.putChan j { x with stops := x.stops ++ [t] }

/-- Start and stop edges of channel `k` are the same edges of its input, this one among them (R396). -/
def TicChan.isPeriod (x : TicChan) (k : Nat) (rising : Bool) : Bool :=
  x.mode == 2 && x.stopCh == k && x.isStart rising && x.isStop (x.fld F.TIM_TIC_CFG_EDGE == 2) rising

/-- An edge of channel `k` is a stop edge for channel `j`, which names `k`; the consecutive periods of `k` itself take theirs apart
(R396). -/
def State.stopsFor (s : State) (k j : Nat) (rising : Bool) : Bool :=
  (s.chan j).mode == 2 && (s.chan j).stopCh == k && (s.chan j).isStop ((s.chan k).fld F.TIM_TIC_CFG_EDGE == 2) rising &&
    !(j == k && (s.chan k).isPeriod k rising)

/-- A stop stamp of channel `k` (R396, R397): every start channel that names `k` has it for its own measurements, each at most once
(log 142). -/
def State.stopStamp (s : State) (k : Nat) (t : Stamp) : State :=
  ((List.range 16).filter fun j => s.stopsFor k j t.rising).foldl (fun (s : State) j => s.stopFor j t) s

/-- An edge that both ends the open measurement and opens the next (R396). -/
def State.periodEdge (s : State) (k : Nat) (t : Stamp) : State :=
  let x := s.chan k
  match x.start with
  | some a => (s.putChan k { x with start := some t }).pushResult k (s.pairResult x a t)
  | none => s.putChan k { x with start := some t }

/-- A stamped edge of a RECIP channel in a gate (R401). -/
def State.recipEdge (s : State) (k : Nat) (t : Stamp) : State :=
  let x := s.chan k
  if !x.gated then s
  else match x.prev with
    | none => s.putChan k { x with prev := some t }
    | some _ => s.putChan k { x with cur := some t, n := x.n + 1 }

/-- Units of 2^-16 ns in a gate. -/
def TicChan.gate (x : TicChan) : Int := (F.TIM_TIC_CFG2_GATE.get x.cfg2 * 1000000 * 65536 : Nat)

/-- An open measurement or gate closes without a result. -/
def TicChan.closed (x : TicChan) : TicChan := { x with dirty := true, start := none, gated := false, prev := none, cur := none, n := 0 }

/-- TIM_TIC_CFG[k] or TIM_TIC_CFG2[k], which held `old`, is written with another value: what is open closes (R402). -/
def State.ticCfgWritten (s : State) (k : Nat) (old new : Word) : State :=
  if old = new then s else s.putChan k (s.chan k).closed

/-- Some channel in INTERVAL names `k` as its stop channel (R396). -/
def State.namedStop (s : State) (k : Nat) : Bool := (List.range 16).any fun j => (s.chan j).mode == 2 && (s.chan j).stopCh == k

/-- A changed configuration takes effect at an edge (R402): RECIP gates begin at the next multiple of GATE, and stop stamps of a
channel that is not the stop channel any more are gone. -/
def State.takeCfg (s : State) (k : Nat) : State :=
  let x := s.chan k
  let c := s.get (.TIM_TIC_CFG k)
  let c2 := s.get (.TIM_TIC_CFG2 k)
  if x.cfg = c ∧ x.cfg2 = c2 ∧ !x.dirty then s
  else
    let y := { x.closed with cfg := c, cfg2 := c2, dirty := false, idx := if x.mode = 0 then 0 else x.idx }
    let now := s.formNow y
    s.putChan k { y with stops := if y.mode = 2 ∧ y.stopCh = x.stopCh then x.stops else []
                         gateEnd := if 0 < y.gate then (now / y.gate + 1) * y.gate else 0 }

/-- The channel stamps: it measures, or a channel in INTERVAL names it as its stop channel (R396). -/
def State.stamping (s : State) (k : Nat) : Bool := (s.chan k).mode != 0 || s.namedStop k

/-- EDGE selects the polarity (R392, R412). -/
def TicChan.selects (x : TicChan) (rising : Bool) : Bool :=
  match x.fld F.TIM_TIC_CFG_EDGE with
  | 0 => rising
  | 1 => !rising
  | _ => true

/-- The effective hold-off at a PRESCALE, in units of 2^-16 ns (R392). -/
def TicChan.holdoff (x : TicChan) (prescale : Nat) : Nat :=
  max (F.TIM_TIC_CFG2_HOLDOFF.get x.cfg2 * 65536) (max (deadTime / 2 ^ prescale) 65536)

/-- What the channel itself makes of an edge accepted for its MODE; `stop`: it is accepted as a stop edge too. -/
def State.ownEdge (s : State) (k : Nat) (t : Stamp) (stop : Bool) : State :=
  let x := s.chan k
  let p := 2 ^ x.fld F.TIM_TIC_CFG_PRESCALE
  let stamped := x.idx % p == 0
  let s := s.putChan k { x with idx := x.idx + 1 }
  match x.mode with
  | 1 =>
    if stamped then s.pushResult k
        { status := 0, tb := t.tb, stepped := false, binA := 0, binB := 0, value := x.form t % 2 ^ 64,
          count := x.idx / p % 2 ^ 32 }
    else s
  | 2 =>
    if x.isPeriod k t.rising && stop then s.periodEdge k t
    else if x.isStart t.rising then s.startEdge k t else s
  | 3 => if stamped then s.recipEdge k t else s
  | _ => s

/-- What an edge at TIC_INk does, `own` and `stop` being whether it is accepted for the channel's MODE and as a stop edge. -/
def State.acceptEdge (s : State) (k : Nat) (t : Stamp) (own stop : Bool) : State :=
  let x := s.chan k
  let s := (s.count (C.ticStamps k)).putChan k
    { x with last := if own then some t.raw else x.last, lastStop := if stop then some t.raw else x.lastStop }
  let s := if stop then s.stopStamp k t else s
  if own then s.ownEdge k t stop else s

/-- TIC_EDGE: an edge at TIC_INk now, with the interpolator's code (R392, R395 to R402, R411). -/
def execTicEdge (k : Nat) (rising : Bool) (code : Nat) (s : State) : Answer :=
  .next (
    if 16 ≤ k || !s.tim.ticking then s
    else
      let s := (List.range 16).foldl (fun (s : State) j =>
        if j = k ∨ F.TIM_TIC_CFG_STOP_CH.get (s.get (.TIM_TIC_CFG j)) = k then s.takeCfg j else s) s
      let x := s.chan k
      if !s.stamping k || !x.selects rising then s
      else if !(s.table k).done then s.count (C.ticIgnored k)
      else
        let t := s.stampNow k code rising (s.get (.TIM_TIC_DELAY k)).toInt
        let own := x.mode != 0 && !tooSoon x.last t.raw (x.holdoff (x.fld F.TIM_TIC_CFG_PRESCALE))
        let stop := s.namedStop k && !tooSoon x.lastStop t.raw (x.holdoff 0)
        if !own && !stop then s.count (C.ticHoldoff k) else s.acceptEdge k t own stop)

/-- STOP_STAMP_EXPIRES: the stop stamps that channel `k` has not used and that are more than 1 µs old are discarded and counted
(R397). -/
def execStopStampExpires (k : Nat) (s : State) : Answer :=
  .next (
    let x := s.chan k
    if 16 ≤ k || x.mode != 2 then s
    else
      let old (u : Stamp) : Bool := decide (usec16 < formDiff (s.formNow x) (x.form u))
      (s.putChan k { x with stops := x.stops.filter fun u => !old u }).countN (C.ticIgnored k) (x.stops.filter old).length)

/-- INTERVAL_TIMEOUT: the measurement of channel `k` has been open for 2^LIMIT_EXP ns (R399). -/
def execIntervalTimeout (k : Nat) (s : State) : Answer :=
  .next (
    let x := s.chan k
    match x.start with
    | none => s
    | some a =>
      if k < 16 ∧ (2 ^ (x.fld F.TIM_TIC_CFG_LIMIT_EXP + 16) : Int) ≤ formDiff (s.formNow x) (x.form a) then
        (s.putChan k { x with start := none }).pushResult k
          { status := 3, tb := a.tb, stepped := false,
            binA := a.code, binB := 0, value := 0, count := 0 }
      else s)

/-- RECIP_GATE_END: a gate of channel `k` ends, or the first after arming begins (R401). A result carries the timebase at its last
stamp, one without a stamp that of the moment (R393); none is formed before the position's first calibration ends (R411). -/
def execRecipGateEnd (k : Nat) (s : State) : Answer :=
  .next (
    let x := s.chan k
    let now := s.formNow x
    if 16 ≤ k || x.mode != 3 || x.dirty || decide (now < x.gateEnd) || decide (x.gate ≤ 0) then s
    else if !x.gated || !(s.table k).done then
      s.putChan k { x with gateEnd := (now / x.gate + 1) * x.gate, gated := true, prev := none, cur := none, n := 0 }
    else
      let y := { x with gateEnd := (now / x.gate + 1) * x.gate, cur := none, n := 0 }
      let r (st tb : Nat) (v : Int) (c : Nat) (stepped : Bool) : TicRes :=
        { status := st, tb := tb, stepped := stepped, binA := 0, binB := 0, value := v, count := c }
      match x.prev, x.cur with
      | some a, some b =>
        let stepped := x.fld F.TIM_TIC_CFG_TIMEBASE == 0 && a.step != b.step
        let s := s.putChan k { y with prev := some b }
        if 2 ^ 32 ≤ x.n then s.pushResult k (r 5 b.tb 0 0 stepped)
        else s.pushResult k (r 0 b.tb (formDiff (x.form b) (x.form a)) x.n stepped)
      | p, _ => (s.putChan k { y with prev := none }).pushResult k (r 4 ((p.map Stamp.tb).getD s.timebase) 0 0 false))

/-- A read of TIM_TIC_RES_ST[k] (R403): the status word, the oldest result removed and its value latched. -/
def State.readResult (s : State) (k : Nat) : State × Word :=
  let x := s.chan k
  match x.fifo with
  | [] =>
    (((s.put (.TIM_TIC_RES_L k) 0#32).put (.TIM_TIC_RES_H k) 0#32).put (.TIM_TIC_RES_CNT k) 0#32, 6#32)
  | r :: rest =>
    let v := BitVec.ofInt 64 r.value
    let s := (s.putChan k { x with fifo := rest }).irqSettle
    let s := (s.put (.TIM_TIC_RES_L k) (v.setWidth 32)).put (.TIM_TIC_RES_H k) ((v >>> 32).setWidth 32)
    (s.put (.TIM_TIC_RES_CNT k) (BitVec.ofNat 32 r.count),
     BitVec.ofNat 32 (r.status + r.tb * 16 + (if r.stepped then 64 else 0) + r.binA * 256 + r.binB * 2 ^ 18))

/-! ## Calibration (R404 to R411) -/

/-- The density test of R404: 2^22 hits over M codes. -/
def densityOk (hits : List Nat) : Bool :=
  let m := hits.length
  decide (560 ≤ m) && decide (m ≤ 800) && hits.sum == 2 ^ 22 && hits.all fun h => decide (1 ≤ h) && decide (2 * h * m ≤ 5 * hits.sum)

/-- The first source of R406 that succeeds: the table, and whether the internal source and CAL_IN passed where tried. -/
def State.tryCal (s : State) (old : CalTable) (seen : CalSeen) : Option CalTable × Option Bool × Option Bool :=
  let src := s.fld .TIM_TIC_CAL_CFG F.TIM_TIC_CAL_CFG_SOURCE
  let mk (k : Nat) (h : List Nat) : CalTable := { old with widths := some h, span := none, kind := k }
  let scale (l : List Nat) : Option CalTable :=
    if l.length = 16 ∧ 0 < l.sum then some { old with span := some l.sum, kind := 3 } else none
  let calIn10 := s.fld .TIM_TIC_CAL_CFG F.TIM_TIC_CAL_CFG_CAL_IN_KIND == 0
  if src ≠ 2 ∧ densityOk seen.internal then (some (mk 1 seen.internal), some true, none)
  else
    let int' := if src = 2 then none else some false
    if src = 1 then (none, int', none)
    else if calIn10 && densityOk seen.calIn then (some (mk 2 seen.calIn), int', some true)
    else match scale seen.scaleCalIn with
      | some t => (some t, int', some true)
      | none => (if src = 0 then scale seen.scaleOwn else none, int', some false)

/-- Two stampers agree (R409): over the first 64 edges at most, the mean is within ±1 ps and every difference within ±6 ps; without an
edge the step passes. -/
def agree (diffs : List Int) : Bool :=
  let l := diffs.take 64
  (l.all fun d => decide (d.natAbs ≤ 6000)) && decide (l.sum.natAbs ≤ 1000 * l.length)

def State.setCal (s : State) (f : Fld) (v : Nat) : State := s.setFld .TIM_TIC_CAL_STATUS f v

/-- A position is idle (R407). -/
def State.idlePos (s : State) (pos : Nat) : Bool :=
  if pos < 16 then !s.stamping pos
  else if pos < 20 then s.fld (.TIM_REF_CFG (pos - 16)) F.TIM_REF_CFG_PRIO == 0
  else true

def State.setOnSpare (s : State) (pos v : Nat) : State :=
  if pos < 16 then s.setFld (.TIM_TIC_STATUS pos) F.TIM_TIC_STATUS_ON_SPARE v else s

/-- The next position is served: one whose temperature has moved by TEMP_STEP first, then the rotation's (R407). Active
positions are passed over while the spare is down (R410). -/
def State.nextPos (s : State) : Nat → State
  | 0 => s
  | n + 1 =>
    let ts := s.fld .TIM_TIC_CAL_CFG F.TIM_TIC_CAL_CFG_TEMP_STEP * 8
    let spare := s.fld .TIM_TIC_CAL_STATUS F.TIM_TIC_CAL_STATUS_SPARE_OK == 1
    let hot := if ts = 0 then none else (List.range 21).find? fun p =>
      decide (ts ≤ (s.table p).moved) && p != s.calPos && (s.tic.first || s.idlePos p || spare)
    let (pos, todo) := match hot, s.tic.todo with
      | some p, l => (some p, l)
      | none, p :: l => (some p, l)
      | none, [] => (none, [])
    let s := { s with tic := { s.tic with todo := todo } }
    match pos with
    | none =>
      let s := { s with tic := { s.tic with first := false } }
      (s.setCal F.TIM_TIC_CAL_STATUS_POS 0x1F).setCal F.TIM_TIC_CAL_STATUS_PHASE 0
    | some p =>
      let inPlace := s.tic.first || s.idlePos p
      if !inPlace && !spare then s.nextPos n
      else
        ((s.setCal F.TIM_TIC_CAL_STATUS_POS p).setCal F.TIM_TIC_CAL_STATUS_PHASE (if inPlace then 6 else 1)).count
          C.ticCalRuns

/-- The rotation goes on. -/
def State.calOn (s : State) : State := s.nextPos (s.tic.todo.length + 22)

/-- Temperatures that have moved are noted. -/
def State.noteTemps (s : State) (m : TempMoves) : State :=
  m.foldl (fun (s : State) x => if x.1 < 21 then s.putTable x.1 { s.table x.1 with moved := x.2 } else s) s

/-- A rotation begins: position 20, then 0 to 19 (R407). -/
def State.calRotation (s : State) : State :=
  ({ s with tic := { s.tic with todo := 20 :: List.range 20 } }).calOn

/-- CAL_ROTATION_START. Where no rotation is due (`due` false), and always with PERIOD = 0, the positions whose temperature has moved
are served alone (R407). -/
def execCalRotationStart (moves : TempMoves) (s : State) (due : Bool := true) : Answer :=
  .next (
    let s := s.noteTemps moves
    if !s.tim.ticking || s.calPos != 0x1F || s.fld .HLT_HEALTH_CFG F.HLT_HEALTH_CFG_CAL_FREEZE == 1 then s
    else if !due || s.fld .TIM_TIC_CAL_CFG F.TIM_TIC_CAL_CFG_PERIOD == 0 then s.calOn
    else s.calRotation)

/-- A position's calibration has ended with a new table, or, without one, with the table it had, whose age and temperature stay
(R406, R409, R410). -/
def State.finishTable (s : State) (pos : Nat) (new : Option CalTable) : State :=
  match new with
  | some x =>
    let s := s.putTable pos { x with done := true, doneAt := s.tim.tick, moved := 0 }
    if pos < 16 then s.setFld (.TIM_TIC_STATUS pos) F.TIM_TIC_STATUS_CAL_KIND x.kind else s
  | none => s.putTable pos { s.table pos with done := true }

/-- The sources of R406 have been tried for a position: the flags, the fallback event and the count of failures. -/
def State.noteSources (s : State) (pos : Nat) (r : Option CalTable × Option Bool × Option Bool) : State :=
  let s := match r.2.1 with
    | some true => s.setCal F.TIM_TIC_CAL_STATUS_INT_SRC_OK 1
    | some false => (s.setCal F.TIM_TIC_CAL_STATUS_INT_SRC_OK 0).event Ev.ticSourceFallback pos 0
    | none => s
  let s := match r.2.2 with
    | some b => s.setCal F.TIM_TIC_CAL_STATUS_CAL_IN_OK (if b then 1 else 0)
    | none => s
  if r.1.isNone then s.count C.ticCalFails else s

/-- A comparison under R409 has failed. -/
def State.calMismatch (s : State) (pos : Nat) : State := (s.count C.ticCalFails).event Ev.ticCalMismatch pos 0

/-- CAL_STEP_DONE: the step of TIM_TIC_CAL_STATUS.PHASE completes (R404 to R410). -/
def execCalStepDone (seen : CalSeen) (moves : TempMoves) (s : State) : Answer :=
  .next (
    let s := s.noteTemps moves
    let pos := s.calPos
    if 20 < pos then s
    else match s.calPhase with
      | 1 =>
        if agree seen.diffs then (s.setCal F.TIM_TIC_CAL_STATUS_PHASE 2).setOnSpare pos 1
        else
          let s := s.calMismatch pos
          (s.finishTable pos none).calOn
      | 2 => s.setCal F.TIM_TIC_CAL_STATUS_PHASE 3
      | 3 =>
        let r := s.tryCal (s.table pos) seen
        let s := s.noteSources pos r
        ({ s with tic := { s.tic with cand := r.1 } }).setCal F.TIM_TIC_CAL_STATUS_PHASE 4
      | 4 =>
        let s := if agree seen.diffs then s.finishTable pos s.tic.cand else (s.calMismatch pos).finishTable pos none
        ({ s with tic := { s.tic with cand := none } }).setCal F.TIM_TIC_CAL_STATUS_PHASE 5
      | 5 => (s.setOnSpare pos 0).calOn
      | 6 =>
        let r := s.tryCal (s.table pos) seen
        let s := (s.noteSources pos r).finishTable pos r.1
        let s :=
          if pos = 20 then
            if r.1.isSome then (s.setCal F.TIM_TIC_CAL_STATUS_SPARE_OK 1).eventClear Ev.ticSpareDown 0
            else (s.setCal F.TIM_TIC_CAL_STATUS_SPARE_OK 0).event Ev.ticSpareDown 0 0
          else s
        s.calOn
      | _ => s)

/-- CAL_STALE of a channel (R410). -/
def State.calStale (s : State) (k : Nat) : Bool :=
  let x := s.table k
  let period := s.fld .TIM_TIC_CAL_CFG F.TIM_TIC_CAL_CFG_PERIOD
  let ts := s.fld .TIM_TIC_CAL_CFG F.TIM_TIC_CAL_CFG_TEMP_STEP
  (period != 0 && decide (10 * period * 1000000000 < s.tim.tick - x.doneAt)) || (ts != 0 && decide (2 * ts * 8 < x.moved))

end Sys2Proof.Machine
end

