-- ==== Sys2Proof/Machine/Refs.lean ====
section
/-! DEFINITION. Reference slots, selection, the clean-up loop and holdover (R358 to R377). Phases and times of T are in units of
2^-32 ns, y and I in units of 2^-64. -/
namespace Sys2Proof.Machine

/-! ## Slots -/

def State.refKind (s : State) (k : Nat) : Nat := s.fld (.TIM_REF_CFG k) F.TIM_REF_CFG_KIND
def State.refPort (s : State) (k : Nat) : Nat := s.fld (.TIM_REF_CFG k) F.TIM_REF_CFG_PORT
def State.refPrio (s : State) (k : Nat) : Nat := s.fld (.TIM_REF_CFG k) F.TIM_REF_CFG_PRIO

/-- Slot states (R387): 0 OFF, 1 FAILED, 2 QUAL, 3 READY, 4 ACTIVE. -/
def State.refState (s : State) (k : Nat) : Nat := s.fld (.TIM_REF_STATUS k) F.TIM_REF_STATUS_STATE
def State.setRef (s : State) (k : Nat) (f : Fld) (v : Nat) : State := s.setFld (.TIM_REF_STATUS k) f v
def State.refBit (s : State) (k : Nat) (f : Fld) : Bool := s.fld (.TIM_REF_STATUS k) f == 1

def idleSlot : Slot :=
  { wtrArm := false, origin := none, edges := 0, stamp := none, stampEdges := 0, fresh := false, lastEdge := none, off := false,
    sample := none, samples := [], since := none, run := 0 }
def State.slot (s : State) (k : Nat) : Slot := sgetD s.tim.slots k idleSlot
def State.putSlot (s : State) (k : Nat) (x : Slot) : State :=
  { s with tim := { s.tim with slots := sput idleSlot s.tim.slots k x } }
def State.setSel (s : State) (x : Sel) : State := { s with tim := { s.tim with sel := x } }

/-- A second and a nanosecond in steps of 2^-32 ns. -/
def sec32 : Int := 1000000000 * 2 ^ 32
def ns32 : Int := 2 ^ 32

/-- A signed register value, saturating. -/
def sat32 (x : Int) : Word := BitVec.ofInt 32 (max (-(2 ^ 31)) (min (2 ^ 31 - 1) x))

/-- Some fault of the slot holds (R362). -/
def State.refFault (s : State) (k : Nat) : Bool :=
  s.refBit k F.TIM_REF_STATUS_LOS || s.refBit k F.TIM_REF_STATUS_FREQ_FAULT || s.refBit k F.TIM_REF_STATUS_PHASE_FAULT ||
  s.refBit k F.TIM_REF_STATUS_PTP_FAULT || s.refBit k F.TIM_REF_STATUS_PORT_FAULT

/-- FREQ_VALID becomes 0 (R361): the record restarts. -/
def State.freqLost (s : State) (k : Nat) : State :=
  (s.setRef k F.TIM_REF_STATUS_FREQ_VALID 0).putSlot k { s.slot k with samples := [], since := none }

/-- LOS is declared (R362). -/
def State.declareLos (s : State) (k : Nat) : State :=
  let s := (s.setRef k F.TIM_REF_STATUS_LOS 1).freqLost k
  s.putSlot k { s.slot k with run := 0 }

/-- A sample of the slot (R360). -/
def State.addSample (s : State) (k : Nat) (t e : Int) : State :=
  let x := s.slot k
  s.putSlot k { x with sample := some (t, e), samples := (t, e) :: x.samples.filter fun y => decide (t - 8 * sec32 ≤ y.1),
                       since := x.since <|> some t }

/-- The slot enters QUAL (R360, R363): a frequency-only slot takes a new origin. -/
def State.enterQual (s : State) (k : Nat) (wtr : Bool) : State :=
  let s := (s.setRef k F.TIM_REF_STATUS_STATE 2).setRef k F.TIM_REF_STATUS_WTR (if wtr then 1 else 0)
  let s := s.setRef k F.TIM_REF_STATUS_REMAIN
    (if wtr then s.fld .TIM_SEL_TIMES F.TIM_SEL_TIMES_WTR else s.fld .TIM_SEL_TIMES F.TIM_SEL_TIMES_QUAL_TIME)
  s.putSlot k { s.slot k with origin := none, edges := 0 }

/-- The slot fails. -/
def State.failSlot (s : State) (k : Nat) (arm : Bool) : State :=
  let active := s.refState k == 4
  let s := (s.setRef k F.TIM_REF_STATUS_STATE 1).setRef k F.TIM_REF_STATUS_WTR 0
  let s := if arm then s.putSlot k { s.slot k with wtrArm := true } else s
  let s := if active then
      (s.setFld .TIM_SEL_STATUS F.TIM_SEL_STATUS_ACTIVE_VALID 0).setSel { s.tim.sel with faulted := true } else s
  s.count (C.refFaults k)

/-- The faults that a slot of a kind can have (R362), as bits of TIM_REF_STATUS. -/
def faultMask (kind : Nat) : Word :=
  F.TIM_REF_STATUS_LOS.mask ||| F.TIM_REF_STATUS_FREQ_FAULT.mask |||
  (if kind = 0 then F.TIM_REF_STATUS_PHASE_FAULT.mask else 0) ||| (if kind = 4 then F.TIM_REF_STATUS_PTP_FAULT.mask else 0) |||
  (if kind = 3 ∨ kind = 4 then F.TIM_REF_STATUS_PORT_FAULT.mask else 0)

/-- PRIO written 0, or KIND or PORT with a new value (R361, R363): the slot is OFF and its record restarts. A fault that is held
stays until it clears (R362); one that the kind now set does not have is gone (log 91). -/
def State.slotOff (s : State) (k : Nat) : State :=
  let active := s.refState k == 4
  let last := (s.slot k).lastEdge
  let s := (s.put (.TIM_REF_STATUS k) (s.get (.TIM_REF_STATUS k) &&& faultMask (s.refKind k))).putSlot k
    { idleSlot with lastEdge := last }
  if active then s.setFld .TIM_SEL_STATUS F.TIM_SEL_STATUS_ACTIVE_VALID 0 else s

/-- The effect of a write of TIM_REF_CFG[k] whose old word is `old` (R363): the slot goes to OFF at the next steward strobe. PORT
is ignored in slots 0 to 3 (R386). -/
def State.refCfgWritten (s : State) (k : Nat) (old : Word) : State :=
  if s.refPrio k = 0 ∨ F.TIM_REF_CFG_KIND.get old ≠ s.refKind k ∨ (4 ≤ k ∧ F.TIM_REF_CFG_PORT.get old ≠ s.refPort k) then
    s.putSlot k { s.slot k with off := true }
  else s

/-- The FREQ fault (R362): FREQ_LIMIT is in 0.1 ppm, FREQ in 2^-8 ppb. -/
def State.freqFault (s : State) (k : Nat) : State :=
  let f := (s.get (.TIM_REF_FREQ k)).toInt.natAbs
  let lim := s.fld .TIM_SEL_CFG F.TIM_SEL_CFG_FREQ_LIMIT * 25600
  if s.refBit k F.TIM_REF_STATUS_FREQ_VALID && decide (lim < f) then s.setRef k F.TIM_REF_STATUS_FREQ_FAULT 1
  else if 10 * f ≤ 9 * lim then s.setRef k F.TIM_REF_STATUS_FREQ_FAULT 0 else s

/-- The transitions of slot `k` at a steward strobe (R363). A change of FREQ_LIMIT applies from that strobe (R382). -/
def State.slotStep (s : State) (k : Nat) : State :=
  if (s.slot k).off then s.slotOff k
  else
  let s := if s.refState k = 0 ∧ !s.refBit k F.TIM_REF_STATUS_FREQ_FAULT then s else s.freqFault k
  match s.refState k with
  | 0 => if s.refPrio k = 0 then s else if s.refFault k then s.setRef k F.TIM_REF_STATUS_STATE 1 else s.enterQual k false
  | 1 =>
    if s.refFault k then s
    else s.enterQual k ((s.slot k).wtrArm && s.fld .TIM_SEL_TIMES F.TIM_SEL_TIMES_WTR != 0)
  | 2 =>
    if s.refFault k then s.failSlot k false
    else if s.fld (.TIM_REF_STATUS k) F.TIM_REF_STATUS_REMAIN = 0 ∧ s.refBit k F.TIM_REF_STATUS_FREQ_VALID then
      (s.setRef k F.TIM_REF_STATUS_STATE 3).setRef k F.TIM_REF_STATUS_WTR 0
    else s
  | 3 => if s.refFault k then s.failSlot k true else s
  | 4 => if s.refFault k then s.failSlot k true else s
  | _ => s


/-- SLOT_REMAIN_EXPIRES. -/
def execSlotRemainExpires (k : Nat) (s : State) : Answer :=
  .next (if k < 8 ∧ s.refState k = 2 ∧ s.fld (.TIM_REF_STATUS k) F.TIM_REF_STATUS_REMAIN = 0 then s.slotStep k else s)

/-! ## The loop (R369, R370) -/

/-- π in units of 10^-40. -/
def piN : Int := 31415926535897932384626433832795028841971

/-- One of the values that rounding may give: n/d rounded to an integer, either way. -/
def State.roundFree (s : State) (n d : Int) : State × Int :=
  (s.tick1Free, freeIn s.free (n / d) (-((-n) / d)))

/-- y takes a new value, and with it INC (R369). -/
def State.setY (s : State) (y : Int) : State :=
  let now := s.t32
  let l := s.tim.sel
  let recent := l.yLog.takeWhile fun x => decide (now - 8 * sec32 ≤ x.1)
  let log := (now, y) :: l.yLog.take (recent.length + 1)
  { s with tim := { s.tim with servo := clampInc (roundHalfAway y (2 ^ 32)), sel := { l with y := y, yLog := log } } }

/-- Bandwidths of R370 in mHz. -/
def bwMhz (code : Nat) : Nat :=
  [1, 3, 10, 30, 100, 300, 1000, 3000, 10000, 30000, 100000, 300000, 1000000, 3000000].getD code 1

/-- A 4-bit signed log field, as num/den of 2^L: (2^L, 1) or (1, 2^-L). -/
def pow2Log (v : Nat) : Nat × Nat := if v < 8 then (2 ^ v, 1) else (1, 2 ^ (16 - v))

/-- SYNTONIZED (R371). -/
def State.syntonized (s : State) : Bool := s.fld .TIM_SEL_STATUS F.TIM_SEL_STATUS_SYNTONIZED == 1

/-- The bandwidth code in use for slot `k` (R370). -/
def State.bwUsed (s : State) (k : Nat) : Nat :=
  let req := s.fld (.TIM_REF_CFG k) F.TIM_REF_CFG_BW
  let cap (auto hi : Nat) : Nat := min (if req = 15 then auto else req) hi
  match s.refKind k with
  | 0 => cap 2 3
  | 1 => cap 6 13
  | 2 => cap 6 13
  | 3 => cap 6 8
  | _ =>
    if s.syntonized && s.refState k == 4 then cap 6 8
    else
      let l := pow2Log (s.cFld (.TIM_PTP_PORT (s.refPort k)) F.TIM_PTP_PORT_LOG_DREQ)
      let fits := (List.range 7).filter fun c => decide (bwMhz c * 30 * l.1 ≤ 1000 * l.2)
      cap 4 (maxOf fits)

/-- One evaluation of the loop with input `e` (R369). -/
def State.loopEval (s : State) (k : Nat) (e : Int) : State :=
  let l := s.tim.sel
  let b : Int := bwMhz (s.bwUsed k)
  let dt := s.t32 - l.evalAt
  let r1 := s.roundFree (4 * piN * piN * b * b * e * dt) (10100 * 10100 * 10 ^ 18 * 10 ^ 80)
  let i := l.i + r1.2
  let r2 := r1.1.roundFree (20 * piN * b * e * 2 ^ 32) (10100 * 10 ^ 9 * 10 ^ 40)
  let big := if 100 * ns32 < e.natAbs then some s.t32 else l.bigAt
  let s := r2.1.setSel { r2.1.tim.sel with i := i, evalAt := s.t32, err := e, bigAt := big }
  let r3 := s.roundFree e (2 ^ 16)
  (r3.1.put .TIM_SERVO_ERR (sat32 r3.2)).setY (-(r2.2 + i))

/-- The active slot, while LOCKED. -/
def State.lockedTo (s : State) (k : Nat) : Bool := s.selState == 3 && s.refState k == 4

/-- SETTLED (R375). -/
def State.settle (s : State) : State :=
  let k := s.fld .TIM_SEL_STATUS F.TIM_SEL_STATUS_ACTIVE
  if s.selState ≠ 3 ∨ s.fld .TIM_SEL_STATUS F.TIM_SEL_STATUS_SETTLED = 1 then s
  else
    let b : Int := bwMhz (s.bwUsed k)
    let l := s.tim.sel
    let quiet := match l.bigAt with | some t => decide (1000 * sec32 ≤ (s.t32 - t) * b) | none => true
    if quiet && decide (2000 * sec32 ≤ (s.t32 - l.lockedAt) * b) then
      (s.setFld .TIM_SEL_STATUS F.TIM_SEL_STATUS_SETTLED 1).setSel { l with settledAt := s.t32 }
    else s

/-- The loop takes a sample of slot `k`, less A (R369, R373). -/
def State.loopSample (s : State) (k : Nat) (e : Int) : State :=
  if s.lockedTo k then (s.loopEval k (e - s.tim.sel.aOff)).settle else s

/-! ## Samples (R359 to R362) -/

/-- TIM_REF_DELAY[k], in 2^-16 ns. -/
def State.refDelay (s : State) (k : Nat) : Int := (s.get (.TIM_REF_DELAY k)).toInt

/-- A PPS edge stamped at `st`, in full (R359 to R362). -/
def State.ppsEdge (s : State) (k : Nat) (st : Int) : State :=
  let r := st % sec32
  let e := if 2 * r ≤ sec32 then r else r - sec32
  let x := s.slot k
  let s := s.setRef k F.TIM_REF_STATUS_LOS 0
  let s := match x.stamp with
    | none => s.putSlot k { x with stamp := some st }
    | some p =>
      if (st - p - sec32).natAbs ≤ 1000 * 2 ^ 32 then
        let s := s.putSlot k { x with stamp := some st, run := x.run + 1 }
        if 2 ≤ x.run + 1 then s.setRef k F.TIM_REF_STATUS_PHASE_FAULT 0 else s
      else (s.setRef k F.TIM_REF_STATUS_PHASE_FAULT 1).putSlot k { x with stamp := some st, run := 0 }
  (s.addSample k st e).loopSample k e

/-- An edge of a CLK10 or CLK25 slot: every edge is counted, and the first after each steward strobe is stamped (R359). -/
def State.clkEdge (s : State) (k : Nat) (st : Int) : State :=
  let x := s.slot k
  let x := { x with edges := x.edges + 1 }
  s.putSlot k (if x.fresh then x else { x with stamp := some st, stampEdges := x.edges, fresh := true })

/-- REF_EDGE: a rising edge at REF_INk, with the interpolator's code (R359, R360, R391, R392). -/
def execRefEdge (k code : Nat) (s : State) : Answer :=
  .next (
    if !(decide (k < 4) && decide (s.refKind k ≤ 2) && s.refState k != 0 && s.tim.ticking) then s
    else
      let t := s.stampNow (16 + k) code true (s.refDelay k)
      if tooSoon (s.slot k).lastEdge t.raw deadTime then s
      else
        let s := s.putSlot k { s.slot k with lastEdge := some t.raw }
        let st := s.timeOf t.saf.toNat * 2 ^ 16
        if s.refKind k = 0 then s.ppsEdge k st else s.clkEdge k st)

/-- REF_LOS: the edge of a PPS, CLK10 or CLK25 slot is missing (R362). -/
def execRefLos (k : Nat) (s : State) : Answer :=
  .next (if k < 4 ∧ s.refKind k ≤ 2 ∧ s.refState k ≠ 0 then s.declareLos k else s)

/-- At a steward strobe, the edge that a CLK10 or CLK25 slot has stamped since the last one gives its sample; without an origin it
is the origin (R359, R360, R362). -/
def State.clkStrobe (s : State) (k : Nat) : State :=
  if s.refState k = 0 ∨ (s.refKind k ≠ 1 ∧ s.refKind k ≠ 2) then s
  else
    let x := s.slot k
    match x.fresh, x.stamp with
    | true, some st =>
      let period : Int := if s.refKind k = 1 then 100 * ns32 else 40 * ns32
      let m := if x.origin.isSome then x.stampEdges else 0
      let o := x.origin.getD st
      let s := s.putSlot k { x with origin := some o, edges := m + (x.edges - x.stampEdges), stampEdges := m, run := x.run + 1,
                                    fresh := false }
      let s := if 8 ≤ x.run + 1 then s.setRef k F.TIM_REF_STATUS_LOS 0 else s
      let e := st - o - m * period
      (s.addSample k st e).loopSample k e
    | _, _ => s.putSlot k { x with run := 0, fresh := false }

/-- PH_VALID of a port (R332). -/
def State.phValid (s : State) (p : Nat) : Bool :=
  s.fld (.TIM_PORT_STATUS p) F.TIM_PORT_STATUS_PH_VALID == 1 && s.isPort p && s.laneState p == 6

/-- ACC of a port as it reads, and as the latest beat leaves it (R332). -/
def State.accOf (s : State) (p : Nat) : Int := ((s.get (.TIM_PHASE p)).toNat : Int)
def State.beatOf (s : State) (p : Nat) : Int := (s.ptpPort p).beat % 2 ^ 32

/-- The phase of a recovered clock from an ACC origin (R332, R360): the difference at 32 bits, 2^-11 ns a step. -/
def rclkPhase (acc orig : Int) : Int :=
  let d : Int := (acc - orig) % 2 ^ 32
  0 - (if d < 2 ^ 31 then d else d - 2 ^ 32) * 2 ^ 21

/-- The PORT fault of an RCLK or PTP slot (R362). -/
def State.portFault (s : State) (k : Nat) : State :=
  if s.refPrio k = 0 ∨ s.refKind k < 3 then s
  else if s.isPort (s.refPort k) then s.setRef k F.TIM_REF_STATUS_PORT_FAULT 0
  else if s.refBit k F.TIM_REF_STATUS_PORT_FAULT then s
  else (s.setRef k F.TIM_REF_STATUS_PORT_FAULT 1).freqLost k

/-- At a servo strobe: an RCLK slot's sample and faults, a PTP slot's faults (R360, R362). -/
def State.slotServo (s : State) (k : Nat) : State :=
  let p := s.refPort k
  if s.refState k = 0 ∨ s.refKind k < 3 then s
  else
    let s := s.portFault k
    let los := !s.portIsUp p || (s.refKind k == 3 && !s.phValid p)
    let s := if !los then s.setRef k F.TIM_REF_STATUS_LOS 0
             else if s.refBit k F.TIM_REF_STATUS_LOS then s else s.declareLos k
    if s.refKind k = 3 then
      if !s.phValid p then s
      else
        let x := s.slot k
        let o := x.origin.getD (s.accOf p)
        let s := s.putSlot k { x with origin := some o }
        let e := rclkPhase (s.accOf p) o
        (s.addSample k s.t32 e).loopSample k e
    else
      let x := s.ptpPort p
      let l := pow2Log (s.cFld (.TIM_PTP_PORT p) F.TIM_PTP_PORT_LOG_DREQ)
      let old := match x.exAt with
        | some t => decide (4 * l.1 * 1000000000 < (s.tim.tick - t) * l.2)
        | none => true
      let bad := s.cFld (.TIM_PTP_PORT p) F.TIM_PTP_PORT_ROLE != 2 ||
        s.fld (.TIM_PORT_STATUS p) F.TIM_PORT_STATUS_ANN_OK == 0 || old ||
        (match x.ann with | some a => a.cls == 255 | none => false)
      s.setRef k F.TIM_REF_STATUS_PTP_FAULT (if bad then 1 else 0)

/-- Syntonization of the active PTP slot at a servo strobe, in SWITCHING as in LOCKED, and in LOCKED its evaluation (R366, R371). -/
def State.syntServo (s : State) (k : Nat) : State :=
  let p := s.refPort k
  let ok := s.cFld (.TIM_PTP_PORT p) F.TIM_PTP_PORT_HA == 1 && s.phValid p &&
    s.fld (.TIM_PORT_STATUS p) F.TIM_PORT_STATUS_L1_STATE == 4
  if s.refState k ≠ 4 ∨ s.refKind k ≠ 4 then s
  else if !ok then s.setFld .TIM_SEL_STATUS F.TIM_SEL_STATUS_SYNTONIZED 0
  else
    let l := s.tim.sel
    let s := if s.syntonized then s
      else (s.setFld .TIM_SEL_STATUS F.TIM_SEL_STATUS_SYNTONIZED 1).setSel
        { l with pOrig := s.accOf p, q := l.err }
    if s.selState ≠ 3 then s
    else (s.loopEval k (rclkPhase (s.accOf p) s.tim.sel.pOrig + s.tim.sel.q)).settle

/-- A complete exchange of port `p` gives the offset `o` (R337, R360, R371); `since` is the time since the one before, ns. -/
def State.ptpSample (s : State) (p : Nat) (o : Int) (since : Option Nat) : State :=
  [4, 5, 6, 7].foldl (fun (s : State) k =>
    if s.refState k = 0 ∨ s.refKind k ≠ 4 ∨ s.refPort k ≠ p then s
    else
      let s := s.addSample k s.t32 o
      if !s.lockedTo k then s
      else if s.syntonized then
        let l := s.tim.sel
        let ph := rclkPhase (s.accOf p) l.pOrig
        let d := o - l.aOff - ph - l.q
        let bt : Int := bwMhz (s.fld (.TIM_REF_CFG k) F.TIM_REF_CFG_TBW)
        let num := 2 * piN * bt * (since.getD 0 : Nat)
        let den : Int := 1000 * 10 ^ 9 * 10 ^ 40
        if den ≤ num then s.setSel { l with q := l.q + d }
        else
          let r := s.roundFree (d * num) den
          r.1.setSel { r.1.tim.sel with q := l.q + r.2 }
      else s.loopSample k o) s

/-! ## Frequency (R361) -/

/-- Sums for a least-squares line: n, Σt, Σe, Σt², Σte. -/
def fitSums (l : List (Int × Int)) : Int × Int × Int × Int × Int :=
  l.foldl (fun a x => (a.1 + 1, a.2.1 + x.1, a.2.2.1 + x.2, a.2.2.2.1 + x.1 * x.1, a.2.2.2.2 + x.1 * x.2)) (0, 0, 0, 0, 0)

/-- The slope of the least-squares line as numerator and denominator. -/
def slope (l : List (Int × Int)) : Int × Int :=
  let a := fitSums l
  (a.1 * a.2.2.2.2 - a.2.1 * a.2.2.1, a.1 * a.2.2.2.1 - a.2.1 * a.2.1)

/-- The integral of a piecewise constant value, newest change first, from `from'` to `till`. -/
def integral (from' : Int) : Int → List (Int × Int) → Int
  | _, [] => 0
  | till, (t, v) :: rest =>
    if t ≤ from' then v * (till - from') else v * (till - t) + integral from' t rest

/-- PPS samples unwrapped by whole seconds, newest first (R361). -/
def unwrapPps : List (Int × Int) → List (Int × Int)
  | [] => []
  | (t, e) :: rest =>
    match unwrapPps rest with
    | [] => [(t, e)]
    | (t', e') :: r =>
      let d := e' - e
      (t, e + (2 * d + sec32) / (2 * sec32) * sec32) :: (t', e') :: r

/-- FREQ[k] from the samples of the last 8 s and the mean of y (R361). -/
def State.estimate (s : State) (k : Nat) : State :=
  let x := s.slot k
  let now := s.t32
  let recent := x.samples.filter fun y => decide (now - 8 * sec32 ≤ y.1)
  let m := slope (if s.refKind k = 0 then unwrapPps recent else recent)
  let s := if m.2 ≤ 0 then s
    else
      let yInt := integral (now - 8 * sec32) now s.tim.sel.yLog
      let den := 8 * sec32
      let r := s.roundFree (256 * 10 ^ 9 * (yInt * m.2 - m.1 * 2 ^ 64 * den)) (2 ^ 64 * den * m.2)
      r.1.put (.TIM_REF_FREQ k) (sat32 r.2)
  let full := match x.since with | some t => decide (8 * sec32 ≤ now - t) | none => false
  (if full then s.setRef k F.TIM_REF_STATUS_FREQ_VALID 1 else s).freqFault k

/-- FREQ_ESTIMATE: once per second, FREQ of every measured slot; REMAIN counts down (R361, R363). -/
def execFreqEstimate (s : State) : Answer :=
  .next ((List.range 8).foldl (fun (s : State) k =>
    if s.refState k = 0 then s
    else
      let s := s.estimate k
      if s.refState k = 2 then
        s.setRef k F.TIM_REF_STATUS_REMAIN (s.fld (.TIM_REF_STATUS k) F.TIM_REF_STATUS_REMAIN - 1)
      else s) s)

/-! ## Selection (R364 to R368) -/

def State.freqOf (s : State) (k : Nat) : Int := (s.get (.TIM_REF_FREQ k)).toInt
def State.hoValid (s : State) : Bool := s.fld .TIM_SEL_STATUS F.TIM_SEL_STATUS_HO_VALID == 1

/-- deviates(k) (R364), FREQ and HO_FREQ in 2^-8 ppb. -/
def State.deviates (s : State) (k : Nat) : Bool :=
  s.hoValid && decide (s.fld .TIM_SEL_CFG F.TIM_SEL_CFG_DISAGREE * 256 < (s.freqOf k - (s.get .TIM_HO_FREQ).toInt).natAbs)

/-- The eligible slots (R363). -/
def State.eligibleSlots (s : State) : List Nat := (List.range 8).filter fun k => s.refState k == 3 || s.refState k == 4

/-- The eligible slots of the best priority. -/
def State.bestSlots (s : State) : List Nat :=
  let e := s.eligibleSlots
  match e.map s.refPrio with
  | [] => []
  | p :: ps => let best := ps.foldl min p
               e.filter fun k => s.refPrio k == best

/-- nearest(S) (R364). -/
def State.nearest (s : State) : List Nat → Option Nat
  | [] => none
  | k :: ks =>
    if !s.hoValid then some k
    else
      let d (x : Nat) : Nat := (s.freqOf x - (s.get .TIM_HO_FREQ).toInt).natAbs
      some (ks.foldl (fun b x => if d x < d b then x else b) k)

/-- The ACTIVE slot. -/
def State.activeSlot (s : State) : Option Nat := (List.range 8).find? fun k => s.refState k == 4

/-- The target (R364). -/
def State.selTarget (s : State) : Option Nat :=
  let e := s.eligibleSlots
  let mode := s.fld .TIM_SEL_CFG F.TIM_SEL_CFG_MODE
  if mode = 2 ∨ e.isEmpty then none
  else if mode = 1 then
    let f := s.fld .TIM_SEL_CFG F.TIM_SEL_CFG_FORCE_SLOT
    if e.contains f then some f else none
  else
    let b := s.bestSlots
    match s.activeSlot with
    | some a =>
      if e.contains a && (s.fld .TIM_SEL_CFG F.TIM_SEL_CFG_REVERTIVE == 0 || b.contains a) then
        if b.contains a && s.deviates a && b.any fun x => x != a && !s.deviates x then s.nearest b else some a
      else s.nearest b
    | none => s.nearest b

/-- The holdover value now (R377). -/
def State.holdoverY (s : State) : State × Int :=
  let l := s.tim.sel
  if s.fld .TIM_HO_CFG F.TIM_HO_CFG_DRIFT_EN = 1 ∧ s.fld .TIM_SEL_STATUS F.TIM_SEL_STATUS_DRIFT_VALID = 1 ∧ 0 < l.driftD then
    let r := s.roundFree (l.driftN * (s.t32 - l.tc)) l.driftD
    (r.1, l.ho + r.2)
  else (s, l.ho)

/-- The slot that was ACTIVE is ready again when selection leaves SWITCHING and LOCKED (R368). -/
def State.releaseActive (s : State) : State :=
  match s.activeSlot with
  | some a => s.setRef a F.TIM_REF_STATUS_STATE 3
  | none => s

/-- Selection finds no target (R367): HOLDOVER, or FREE without a holdover value. -/
def State.loseTarget (s : State) : State :=
  let a := s.fld .TIM_SEL_STATUS F.TIM_SEL_STATUS_ACTIVE
  let s := s.releaseActive.setFld .TIM_SEL_STATUS F.TIM_SEL_STATUS_SYNTONIZED 0
  if s.hoValid then
    let r := s.holdoverY
    let s := (r.1.setY r.2).setSelState 4
    let s := s.setSel { s.tim.sel with hoAt := s.tim.tick, faulted := false }
    (s.count C.selHoldovers).event Ev.holdoverEnter a 0
  else ((s.setY (-s.tim.sel.i)).setSelState 1).event Ev.freeRun 0 0

/-- A decision to switch to `k` (R366 step 1). -/
def State.selDecide (s : State) (k : Nat) (again : Bool) : State :=
  let l := s.tim.sel
  let old := s.selState
  let lost := (old == 3 || old == 2) && s.activeSlot.isNone && l.faulted && s.hoValid
  let expired := s.fld .TIM_SEL_STATUS F.TIM_SEL_STATUS_HO_EXPIRED == 1
  let s := s.setSel (if again then { l with decAt := s.t32, faulted := false }
    else { l with decAt := s.t32, decY := l.y, decState := old, decExpired := expired, faulted := false })
  let s := if lost then (let r := s.holdoverY; r.1.setY r.2) else s
  let valid := s.activeSlot.isSome
  let s := if valid then s else s.setFld .TIM_SEL_STATUS F.TIM_SEL_STATUS_SYNTONIZED 0
  let s := ({ s with tim := { s.tim with slew := 0 } }).slewEnd
  let s := (s.setSelState 2).setFld .TIM_SEL_STATUS F.TIM_SEL_STATUS_TARGET k
  s.setFld .TIM_SEL_STATUS F.TIM_SEL_STATUS_ACTIVE_VALID (if valid then 1 else 0)

/-- DISAGREE (R365). -/
def State.disagree (s : State) : State :=
  let b := s.bestSlots
  let lim := s.fld .TIM_SEL_CFG F.TIM_SEL_CFG_DISAGREE * 256
  let d := b.any fun x => b.any fun y => decide (lim < (s.freqOf x - s.freqOf y).natAbs)
  if d then
    if s.fld .TIM_SEL_STATUS F.TIM_SEL_STATUS_DISAGREE = 1 then s
    else (s.setFld .TIM_SEL_STATUS F.TIM_SEL_STATUS_DISAGREE 1).event Ev.refDisagree 0 0
  else (s.setFld .TIM_SEL_STATUS F.TIM_SEL_STATUS_DISAGREE 0).eventClear Ev.refDisagree 0

/-- HO_VALID and DEVIATES as they read (R364, R376). -/
def State.selFlags (s : State) : State :=
  let need := s.fld .TIM_HO_CFG F.TIM_HO_CFG_HO_AVG + s.fld .TIM_HO_CFG F.TIM_HO_CFG_HO_GUARD
  let s := s.setFld .TIM_SEL_STATUS F.TIM_SEL_STATUS_HO_VALID (if need ≤ s.tim.sel.store.length then 1 else 0)
  (List.range 8).foldl (fun (s : State) k =>
    s.setRef k F.TIM_REF_STATUS_DEVIATES (if s.deviates k then 1 else 0)) s

/-- HO_FREQ, t_c and DRIFT from the store (R376). Outside LOCKED they are frozen: they are made anew at each value stored, at a write of their
settings in LOCKED, and on entry to LOCKED. -/
def State.holdoverEstimate (s : State) : State :=
  let avg := s.fld .TIM_HO_CFG F.TIM_HO_CFG_HO_AVG
  let l := s.tim.sel
  let used := (l.store.drop (s.fld .TIM_HO_CFG F.TIM_HO_CFG_HO_GUARD)).take avg
  let m := slope l.store
  let span := match l.store, l.store.getLast? with
    | (t, _) :: _, some (t0, _) => decide (23 * 3600 * sec32 ≤ t - t0)
    | _, _ => false
  let driftOk := decide (72000 ≤ l.store.length) && span
  let s := s.setFld .TIM_SEL_STATUS F.TIM_SEL_STATUS_DRIFT_VALID (if driftOk then 1 else 0)
  let s := if 0 < m.2 then
      let r := s.roundFree (m.1 * 86400 * sec32 * 10 ^ 9 * 2 ^ 16) (m.2 * 2 ^ 64)
      (r.1.put .TIM_HO_DRIFT (sat32 r.2)).setSel { r.1.tim.sel with driftN := m.1, driftD := m.2 }
    else s
  if used.isEmpty then s
  else
    let n : Int := used.length
    let r := s.roundFree (used.map Prod.snd).sum n
    let tc := (used.map Prod.fst).sum / n
    let s := r.1.setSel { r.1.tim.sel with ho := r.2, tc := tc }
    let f := s.roundFree (r.2 * 10 ^ 9 * 256) (2 ^ 64)
    f.1.put .TIM_HO_FREQ (sat32 f.2)

/-- LOCKED is entered: the estimates are frozen no longer. -/
def State.enterLocked (s : State) : State := (s.setSelState 3).holdoverEstimate

/-- The effect of a write of TIM_HO_CFG (R376). -/
def State.hoCfgWritten (s : State) : State := (if s.selState = 3 then s.holdoverEstimate else s).selFlags

/-- SELECTION_EVAL: the states of R367 at a steward strobe. While the oscillator is not qualified the device measures candidates and
selects none (R70; log 143). -/
def State.selectionEval (s : State) : State :=
  if !s.engineOn then s
  else match s.selState with
  | 0 => if s.qualified then (s.setY 0).setSelState 1 else s
  | st =>
    let s := s.disagree
    let target := if s.qualified then s.selTarget else none
    if st = 2 then
      let cur := s.fld .TIM_SEL_STATUS F.TIM_SEL_STATUS_TARGET
      if target = some cur then s
      else
        let s := s.count C.selAbandoned
        match target with
        | none => s.loseTarget
        | some k =>
          if s.activeSlot = some k then
            let s := (s.setY s.tim.sel.decY).enterLocked
            s.setSel { s.tim.sel with lockedAt := s.t32 }
          else s.selDecide k true
    else match target with
    | none => if st = 3 then s.loseTarget
              else if st = 4 then (let r := s.holdoverY; r.1.setY r.2) else s
    | some k => if st = 3 ∧ s.activeSlot = some k then s.settle else s.selDecide k false

/-- The phase of `e0` is a phase jump (R373). -/
def State.notePhaseJump (s : State) (k : Nat) (e0 : Int) : State :=
  let r := (s.setFld .TIM_SEL_STATUS F.TIM_SEL_STATUS_PHASE_JUMP 1).roundFree e0 (2 ^ 16)
  ((r.1.put .TIM_PJ_LAST (sat32 r.2)).count C.selPhaseJumps).event Ev.phaseJump k 0

/-- Phase at the commit (R372, R373). -/
def State.commitPhase (s : State) (k : Nat) (e0 : Int) : State :=
  let s := (s.setSel { s.tim.sel with aOff := 0 }).put .TIM_PJ_ABSORBED 0#32
  let kind := s.refKind k
  if kind ≠ 0 ∧ kind ≠ 4 then
    let x := s.slot k
    let o := if kind = 3 then some (s.beatOf (s.refPort k)) else x.stamp
    s.putSlot k { x with origin := o, edges := x.edges - x.stampEdges, stampEdges := 0, sample := x.sample.map fun y => (y.1, y.2 - e0),
                         samples := x.samples.map fun y => (y.1, y.2 - e0) }
  else
    let aligned := s.fld .TIM_SEL_STATUS F.TIM_SEL_STATUS_ALIGNED == 1
    let set := s.fld .TIM_SAF_STATUS F.TIM_SAF_STATUS_TIME_SET == 1
    let thresh : Nat := s.fld .TIM_SEL_CFG F.TIM_SEL_CFG_PJ_THRESH * 2 ^ 32
    if !aligned || (kind == 4 && !set) then
      let s := (s.stepTo (s.t32 - e0)).setFld .TIM_SEL_STATUS F.TIM_SEL_STATUS_ALIGNED 1
      if kind = 4 then s.setFld .TIM_SAF_STATUS F.TIM_SAF_STATUS_TIME_SET 1 else s
    else if 10 * e0.natAbs ≤ thresh then s
    else if s.fld .TIM_SEL_CFG F.TIM_SEL_CFG_PJ_MODE = 0 then (s.stepTo (s.t32 - e0)).notePhaseJump k e0
    else
      let s := s.notePhaseJump k e0
      let r := (s.setSel { s.tim.sel with aOff := e0 }).roundFree e0 (2 ^ 16)
      r.1.put .TIM_PJ_ABSORBED (sat32 r.2)

/-- Steps 2 and 4 of R366: the target has its sample e₀; of an RCLK slot that of the port's latest beat. -/
def State.switchSample (s : State) (k : Nat) : Option Int :=
  let x := s.slot k
  if s.refKind k = 3 then
    if s.phValid (s.refPort k) then x.origin.map fun o => rclkPhase (s.beatOf (s.refPort k)) o else none
  else match x.sample with
    | none => none
    | some (t, e) => if (s.refKind k = 1 ∨ s.refKind k = 2) ∧ t < s.tim.sel.decAt then none else some e

/-- SWITCH_COMMIT: step 4 of R366, at a steward strobe. -/
def execSwitchCommit (s : State) : Answer :=
  .next (
    let k := s.fld .TIM_SEL_STATUS F.TIM_SEL_STATUS_TARGET
    if s.selState ≠ 2 ∨ !s.engineOn ∨ !s.qualified ∨ s.refState k ≠ 3 then s
    else match s.switchSample k with
      | none => s
      | some e0 =>
        let s := (s.releaseActive.setRef k F.TIM_REF_STATUS_STATE 4).setFld .TIM_SEL_STATUS F.TIM_SEL_STATUS_ACTIVE k
        let s := s.setFld .TIM_SEL_STATUS F.TIM_SEL_STATUS_SYNTONIZED 0
        let s := (s.commitPhase k e0).count C.selSwitches
        let l := s.tim.sel
        let s := s.setSel { l with i := -l.y, evalAt := s.t32, lockedAt := s.t32, bigAt := none, faulted := false }
        s.enterLocked.setFld .TIM_SEL_STATUS F.TIM_SEL_STATUS_ACTIVE_VALID 1)

/-! ## Holdover (R375 to R377) -/

/-- HOLDOVER_STORE: a second of T throughout which the state was LOCKED and SETTLED ends (R375). -/
def execHoldoverStore (s : State) : Answer :=
  .next (
    let l := s.tim.sel
    let now := s.t32
    if s.selState ≠ 3 ∨ s.fld .TIM_SEL_STATUS F.TIM_SEL_STATUS_SETTLED = 0 ∨ now < l.settledAt + sec32 then s
    else
      let r := s.roundFree (integral (now - sec32) now l.yLog) sec32
      let store := (now, r.2) :: l.store.filter fun x => decide (now - 86400 * sec32 < x.1)
      ((r.1.setSel { r.1.tim.sel with store := store }).holdoverEstimate).selFlags)

/-- HO_LIMIT hours have passed in HOLDOVER (R367). -/
def State.hoOver (s : State) : Bool :=
  decide (s.fld .TIM_HO_CFG F.TIM_HO_CFG_HO_LIMIT * 3600 * 1000000000 ≤ s.tim.tick - s.tim.sel.hoAt)

/-- HOLDOVER_EXPIRES (R367). -/
def execHoldoverExpires (s : State) : Answer :=
  .next (if s.selState = 4 ∧ s.fld .TIM_SEL_STATUS F.TIM_SEL_STATUS_HO_EXPIRED = 0 ∧ s.hoOver then
      (s.setFld .TIM_SEL_STATUS F.TIM_SEL_STATUS_HO_EXPIRED 1).event Ev.holdoverExpired 0 0
    else s)

/-! ## The phase detectors (R331, R332) -/

/-- PHASE_SAMPLE: one beat of a port's detector: the wrapped phase in steps of 2^-11 ns (8 ns: 16,384 steps), and whether
the two inputs differ by more than 25 ppm. -/
def execPhaseSample (p wrapped : Nat) (outOfRange : Bool) (s : State) : Answer :=
  .next (
    if !s.isPort p then s
    else
      let was := s.fld (.TIM_PORT_STATUS p) F.TIM_PORT_STATUS_PH_VALID == 1
      let ok := !outOfRange && s.laneState p == 6
      let s := s.setFld (.TIM_PORT_STATUS p) F.TIM_PORT_STATUS_PH_OOR (if outOfRange then 1 else 0)
      let s := s.setFld (.TIM_PORT_STATUS p) F.TIM_PORT_STATUS_PH_VALID (if ok then 1 else 0)
      let x := s.ptpPort p
      if !ok then s
      else if !was then
        (s.putPtp p { x with beat := wrapped % 16384 }).put (.TIM_PHASE p) (BitVec.ofNat 32 (wrapped % 16384))
      else
        let d : Int := ((wrapped : Int) - x.beat) % 16384
        s.putPtp p { x with beat := x.beat + (if d < 8192 then d else d - 16384) })

/-- ACC takes the latest sample at a servo strobe (R332). -/
def State.phaseServo (s : State) : State :=
  s.allPorts.foldl (fun (s : State) p =>
    if s.phValid p then s.put (.TIM_PHASE p) (BitVec.ofInt 32 (s.ptpPort p).beat) else s) s

end Sys2Proof.Machine
end

