-- ==== Sys2Proof/Machine/Ptp.lean ====
section
/-! DEFINITION. The PTP engine (R333 to R338, R379, R380). Layouts that the manual takes from IEEE 1588-2019 (header, TLV,
port identity) are PRESUMED from that standard; the log names them. -/
namespace Sys2Proof.Machine

/-! ## Roles and identities -/

/-- ROLE of a port: 0 NONE, 1 TRANSMITTER, 2 RECEIVER, 3 PASSIVE (R335, R354). -/
def State.ptpRole (s : State) (p : Nat) : Nat := s.cFld (.TIM_PTP_PORT p) F.TIM_PTP_PORT_ROLE
def State.ptpFld (s : State) (p : Nat) (f : Fld) : Nat := s.cFld (.TIM_PTP_PORT p) f

/-- clockIdentity (R336): the MAC address base in EUI-64 form. -/
def State.clockId (s : State) : Nat := s.macBase / 2 ^ 24 * 2 ^ 40 + 0xFFFE * 2 ^ 24 + s.macBase % 2 ^ 24

/-- The port's portIdentity: clockIdentity and portNumber p + 1. -/
def State.portId (s : State) (p : Nat) : Nat := s.clockId * 2 ^ 16 + (p + 1) % 2 ^ 16

/-- An 8-bit two's complement form of a 4-bit signed log field. -/
def logByte (v : Nat) : Nat := if v < 8 then v else 240 + v

/-! ## Messages -/

/-- What every message of the engine has in common. -/
structure PtpHead where
  type : Nat
  flags : Nat
  cf : Nat
  seq : Nat
  control : Nat
  log : Nat
  deriving DecidableEq, Repr

/-- A message of port `p` as a whole MAC frame (R333, R336). -/
def State.ptpFrame (s : State) (p : Nat) (h : PtpHead) (body : List Byte) : List Byte :=
  let dest := if s.ptpFld p F.TIM_PTP_PORT_DEST = 0 then 0x011B19000000 else 0x0180C200000E
  sealFrame (beBytes 6 dest ++ beBytes 6 (s.portMac p) ++ beBytes 2 0x88F7 ++
    beBytes 1 h.type ++ beBytes 1 0x12 ++ beBytes 2 (34 + body.length) ++
    beBytes 1 (s.cFld .TIM_PTP_CFG F.TIM_PTP_CFG_DOMAIN) ++ beBytes 1 0 ++ beBytes 2 h.flags ++ beBytes 8 h.cf ++
    beBytes 4 0 ++ beBytes 10 (s.portId p) ++ beBytes 2 h.seq ++ beBytes 1 h.control ++ beBytes 1 h.log ++ body)

/-- Seconds and nanoseconds as 10 bytes (R324). -/
def timeBytes (t : Int) : List Byte := beBytes 6 (ptpTime t).1 ++ beBytes 4 (ptpTime t).2.1

/-- The engine enqueues a frame at port `p` (R336): admitted, for R105 and ADMIT, at this instant. -/
def State.engineSend (s : State) (p : Nat) (bytes : List Byte) : State :=
  let f := newFrame p p s.now16 s.curSel s.admitNow bytes
  let f := { f with engine := true, ended := true, stage := Stage.routed, route := some (.port p),
                    cls := s.cFld .TIM_PTP_CFG F.TIM_PTP_CFG_CLASS }
  let id := s.nextFrame
  ({ s with frames := sinsert s.frames id f, nextFrame := id + 1 }).enqueueFrame id f true

/-- A TRANSMITTER port may send (R70, R335, R349). -/
def State.mayTransmit (s : State) (p : Nat) : Bool :=
  s.running && s.isPort p && s.ptpRole p == 1 && s.qualified && s.engineOn

/-- PTP_SYNC_TX (R335, R336); its time is written as it starts. -/
def execPtpSyncTx (p : Nat) (s : State) : Answer :=
  .next (
    if !s.mayTransmit p then s
    else
      let x := s.ptpPort p
      let two := s.ptpFld p F.TIM_PTP_PORT_ONE_STEP == 0
      let b := s.ptpFrame p ⟨0, if two then 0x200 else 0, 0, x.seqSync, 0, logByte (s.ptpFld p F.TIM_PTP_PORT_LOG_SYNC)⟩
        (beBytes 10 0)
      (s.putPtp p { x with seqSync := (x.seqSync + 1) % 65536 }).engineSend p b)

/-- PTP_FOLLOW_UP_TX: the precise time of a two-step Sync that has started (R336). -/
def execPtpFollowUpTx (p : Nat) (s : State) : Answer :=
  .next (
    match (s.ptpPort p).fup with
    | none => s
    | some (seq, t) =>
      if !s.mayTransmit p then s
      else
        let b := s.ptpFrame p ⟨8, 0, (ptpTime t).2.2, seq, 2, logByte (s.ptpFld p F.TIM_PTP_PORT_LOG_SYNC)⟩ (timeBytes t)
        (s.putPtp p { s.ptpPort p with fup := none }).engineSend p b)

/-- PTP_DELAY_RESP_TX: the oldest Delay_Req that is owed an answer (R336). -/
def execPtpDelayRespTx (p : Nat) (s : State) : Answer :=
  .next (
    match (s.ptpPort p).resps with
    | [] => s
    | r :: rest =>
      if !s.mayTransmit p then s
      else
        let cf := ((r.cf - (ptpTime r.t4).2.2) % 2 ^ 64).toNat
        let b := s.ptpFrame p ⟨9, 0, cf, r.seq, 3, logByte (s.ptpFld p F.TIM_PTP_PORT_LOG_DREQ)⟩
          (timeBytes r.t4 ++ beBytes 10 r.req)
        (s.putPtp p { s.ptpPort p with resps := rest }).engineSend p b)

/-- PTP_DELAY_REQ_TX (R335). -/
def execPtpDelayReqTx (p : Nat) (s : State) : Answer :=
  .next (
    if !s.running || !s.isPort p || s.ptpRole p != 2 then s
    else
      let x := s.ptpPort p
      let b := s.ptpFrame p ⟨1, 0, 0, x.seqReq, 1, 0x7F⟩ (beBytes 10 0)
      (s.putPtp p { x with seqReq := (x.seqReq + 1) % 65536, req := some (x.seqReq, s.tim.tick, none) }).engineSend p b)

/-- The selection state that announcements follow (R379). -/
def State.annState (s : State) : Nat := if s.selState = 2 then s.tim.sel.decState else s.selState

/-- HO_EXPIRED as announcements see it: in SWITCHING as it was before the decision (R379). -/
def State.annExpired (s : State) : Bool :=
  if s.selState = 2 then s.tim.sel.decExpired else s.fld .TIM_SEL_STATUS F.TIM_SEL_STATUS_HO_EXPIRED == 1

/-- The Announce fields of R379. -/
def State.annFields (s : State) : AnnIn :=
  let own (cls acc var tsrc : Nat) : AnnIn :=
    { prio1 := s.cFld .TIM_PTP_CFG F.TIM_PTP_CFG_PRIORITY1, prio2 := s.cFld .TIM_PTP_CFG F.TIM_PTP_CFG_PRIORITY2,
      cls := cls, acc := acc, var := var, gm := s.clockId, steps := 0, tsrc := tsrc }
  let free := own (s.fld .TIM_ANN_CFG F.TIM_ANN_CFG_CLASS_FREE) 0xFE 0xFFFF 0xA0
  let hold := own (s.fld .TIM_ANN_CFG F.TIM_ANN_CFG_CLASS_HOLD) 0xFE 0xFFFF 0xA0
  let a := s.fld .TIM_SEL_STATUS F.TIM_SEL_STATUS_ACTIVE
  let aligned := s.fld .TIM_SEL_STATUS F.TIM_SEL_STATUS_ALIGNED == 1
  if s.annState = 3 then
    match s.refKind a with
    | 4 =>
      match (s.ptpPort (s.refPort a)).ann with
      | some x => { x with steps := (x.steps + 1) % 65536 }
      | none => free
    | 0 => own (s.fld .TIM_ANN_CFG F.TIM_ANN_CFG_CLASS_LOCKED) (s.fld .TIM_ANN_CFG F.TIM_ANN_CFG_ACC_LOCKED)
        (s.fld .TIM_ANN_VAR F.TIM_ANN_VAR_VAR) ((s.get .TIM_ANN_TSRC).toNat / 2 ^ (8 * (a % 4)) % 256)
    | _ => if aligned then hold else free
  else if s.annState = 4 ∧ aligned ∧ !s.annExpired then hold
  else free

/-- PTP_ANNOUNCE_TX (R335, R336, R379). -/
def execPtpAnnounceTx (p : Nat) (s : State) : Answer :=
  .next (
    if !s.mayTransmit p then s
    else
      let x := s.ptpPort p
      let a := s.annFields
      let u (f : Fld) : Nat := s.fld .TIM_PTP_UTC f
      let flags := u F.TIM_PTP_UTC_LEAP61 + 2 * u F.TIM_PTP_UTC_LEAP59 + 4 * u F.TIM_PTP_UTC_UTC_VALID + 8
      let body := beBytes 10 0 ++ beBytes 2 (u F.TIM_PTP_UTC_UTC_OFFSET) ++ beBytes 1 0 ++ beBytes 1 a.prio1 ++
        beBytes 1 a.cls ++ beBytes 1 a.acc ++ beBytes 2 a.var ++ beBytes 1 a.prio2 ++ beBytes 8 a.gm ++
        beBytes 2 a.steps ++ beBytes 1 a.tsrc
      let b := s.ptpFrame p ⟨11, flags, 0, x.seqAnn, 5, logByte (s.ptpFld p F.TIM_PTP_PORT_LOG_ANN)⟩ body
      (s.putPtp p { x with seqAnn := (x.seqAnn + 1) % 65536 }).engineSend p b)

/-- The L1_SYNC flags of a port (R338, R380): TCR, RCR, CR in the first byte; isTxCoherent, isRxCoherent, isCongruent in
the second. -/
def State.l1Flags (s : State) (p : Nat) : Nat × Nat :=
  let rx := s.ptpRole p == 2
  let tc := s.selState != 0
  let rc := rx && s.syntonized && (match s.activeSlot with
    | some k => s.refKind k == 4 && s.refPort k == p
    | none => false)
  (1 + (if rx then 6 else 0), (if tc then 1 else 0) + (if rc then 2 else 0) + (if tc && rc then 4 else 0))

/-- PTP_SIGNALING_TX (R338). -/
def execPtpSignalingTx (p : Nat) (s : State) : Answer :=
  .next (
    let ok := if s.ptpRole p = 1 then s.mayTransmit p else s.running && s.isPort p && s.ptpRole p == 2
    if !ok || s.ptpFld p F.TIM_PTP_PORT_HA == 0 then s
    else
      let x := s.ptpPort p
      let l := s.l1Flags p
      let b := s.ptpFrame p ⟨12, 0, 0, x.seqSig, 5, 0x7F⟩
        (beBytes 10 (2 ^ 80 - 1) ++ beBytes 2 0x8001 ++ beBytes 2 2 ++ beBytes 1 l.1 ++ beBytes 1 l.2)
      (s.putPtp p { x with seqSig := (x.seqSig + 1) % 65536 }).engineSend p b)

/-! ## Reception (R334, R335, R337, R338) -/

/-- A consumed frame that has been received whole and found good, and the offset of its PTP header. -/
def State.ptpTaken (s : State) (id : Nat) : Option (Frame × Nat) :=
  match s.frame id with
  | none => none
  | some f =>
    match f.parse with
    | none => none
    | some p =>
      match p.ptpOff with
      | none => none
      | some o => if f.stage == Stage.parsed && f.ended && !f.bad && s.ptpConsumes f then some (f, o) else none

/-- The role that governs a received message: its port's under the frame's selector. -/
def State.roleOf (s : State) (f : Frame) : Nat := s.stFld f.sel (.TIM_PTP_PORT f.port) F.TIM_PTP_PORT_ROLE

/-- A message of type `t` is consumed: used by `use` where the port's role is one of `roles`, else ignored (R334). -/
def State.ptpReceive (s : State) (id : Nat) (t : Nat → Bool) (roles : List Nat) (use : State → Frame → Nat → State) : State :=
  match s.ptpTaken id with
  | none => s
  | some (f, o) =>
    if !t (byteAt f.bytes o % 16) then s
    else
      let s := s.count (C.ptpRx f.port)
      let s := if roles.contains (s.roleOf f) then use s f o else s.count (C.ptpIgnored f.port)
      s.frameGone id

/-- A signed 64-bit correctionField. -/
def cfOf (bs : List Byte) (o : Nat) : Int :=
  let v := beAt bs (o + 8) 8
  if v < 2 ^ 63 then v else (v : Int) - 2 ^ 64

/-- A PTP timestamp (seconds and nanoseconds) in units of 2^-16 ns. -/
def tsAt (bs : List Byte) (o : Nat) : Int := ((beAt bs o 6 * 1000000000 + beAt bs (o + 6) 4) * 65536 : Nat)

/-- A Sync (R337). -/
def State.useSync (s : State) (f : Frame) (o : Nat) : State :=
  let two := (byteAt f.bytes (o + 6)).testBit 1
  let y : SyncIn :=
    { seq := beAt f.bytes (o + 30) 2, src := beAt f.bytes (o + 20) 10,
      t1 := if two then none else some (tsAt f.bytes (o + 34)), t2 := s.restore f.ts, cS := cfOf f.bytes o }
  s.putPtp f.port { s.ptpPort f.port with sync := some y }

/-- PTP_SYNC_RX. -/
def execPtpSyncRx (id : Nat) (s : State) : Answer := .next (s.ptpReceive id (· == 0) [2] State.useSync)

/-- A Follow_Up supplies t1 (R337). -/
def State.useFollowUp (s : State) (f : Frame) (o : Nat) : State :=
  let x := s.ptpPort f.port
  match x.sync with
  | none => s
  | some y =>
    if y.t1.isNone && y.seq == beAt f.bytes (o + 30) 2 && y.src == beAt f.bytes (o + 20) 10 then
      s.putPtp f.port { x with sync := some { y with t1 := some (tsAt f.bytes (o + 34)), cS := y.cS + cfOf f.bytes o } }
    else s

/-- PTP_FOLLOW_UP_RX. -/
def execPtpFollowUpRx (id : Nat) (s : State) : Answer := .next (s.ptpReceive id (· == 8) [2] State.useFollowUp)

/-- A Delay_Req is stamped for its Delay_Resp (R336). -/
def State.useDelayReq (s : State) (f : Frame) (o : Nat) : State :=
  let x := s.ptpPort f.port
  let r : RespDue := ⟨beAt f.bytes (o + 30) 2, beAt f.bytes (o + 20) 10, s.restore f.ts, cfOf f.bytes o⟩
  s.putPtp f.port { x with resps := x.resps ++ [r] }

/-- PTP_DELAY_REQ_RX. -/
def execPtpDelayReqRx (id : Nat) (s : State) : Answer := .next (s.ptpReceive id (· == 1) [1] State.useDelayReq)

/-- An unsigned register value, saturating (R355). -/
def satU32 (x : Int) : Word := BitVec.ofInt 32 (max 0 (min (2 ^ 32 - 1) x))

/-- A complete exchange (R337): offset and delay. -/
def State.exchange (s : State) (p : Nat) (y : SyncIn) (t1 t3 t4 cD : Int) : State :=
  let a := y.t2 - t1 - y.cS
  let b := t4 - t3 - cD
  let asym := (s.committed (.TIM_PORT_ASYM p)).toInt
  let rd := s.roundFree (a + b) 2
  let ro := rd.1.roundFree (a - b - 2 * asym) 2
  let s := (ro.1.put (.TIM_PTP_DELAY p) (satU32 rd.2)).put (.TIM_PTP_OFFSET p) (sat32 ro.2)
  let x := s.ptpPort p
  let since := x.exAt.map fun t => s.tim.tick - t
  let s := s.putPtp p { x with req := none, exAt := some s.tim.tick }
  s.ptpSample p ((a - b - 2 * asym) * 2 ^ 15) since

/-- A Delay_Resp that matches the outstanding Delay_Req within 2^LOG_DREQ s completes an exchange (R337). -/
def State.useDelayResp (s : State) (f : Frame) (o : Nat) : State :=
  let p := f.port
  let x := s.ptpPort p
  match x.req, x.sync with
  | some (seq, at', some t3), some y =>
    let l := pow2Log (s.ptpFld p F.TIM_PTP_PORT_LOG_DREQ)
    match y.t1 with
    | some t1 =>
      if seq = beAt f.bytes (o + 30) 2 ∧ beAt f.bytes (o + 44) 10 = s.portId p ∧
          (s.tim.tick - at') * l.2 ≤ l.1 * 1000000000 then
        s.exchange p y t1 t3 (tsAt f.bytes (o + 34)) (cfOf f.bytes o)
      else s
    | none => s
  | _, _ => s

/-- PTP_DELAY_RESP_RX. -/
def execPtpDelayRespRx (id : Nat) (s : State) : Answer := .next (s.ptpReceive id (· == 9) [2] State.useDelayResp)

/-- An Announce refreshes ANN_OK and the announced fields (R337, R379). -/
def State.useAnnounce (s : State) (f : Frame) (o : Nat) : State :=
  let b (i n : Nat) : Nat := beAt f.bytes (o + i) n
  let a : AnnIn := { prio1 := b 47 1, prio2 := b 52 1, cls := b 48 1, acc := b 49 1, var := b 50 2, gm := b 53 8,
                     steps := b 61 2, tsrc := b 63 1 }
  (s.putPtp f.port { s.ptpPort f.port with ann := some a }).setFld (.TIM_PORT_STATUS f.port) F.TIM_PORT_STATUS_ANN_OK 1

/-- PTP_ANNOUNCE_RX. -/
def execPtpAnnounceRx (id : Nat) (s : State) : Answer := .next (s.ptpReceive id (· == 11) [2, 3] State.useAnnounce)

def State.l1State (s : State) (p : Nat) : Nat := s.fld (.TIM_PORT_STATUS p) F.TIM_PORT_STATUS_L1_STATE
def State.setL1 (s : State) (p v : Nat) : State := s.setFld (.TIM_PORT_STATUS p) F.TIM_PORT_STATUS_L1_STATE v

/-- A Signaling message with an L1_SYNC TLV drives the port's L1 state (R338). The profile's state machine goes from IDLE to
LINK_ALIVE, from LINK_ALIVE to CONFIG_MATCH, from CONFIG_MATCH to L1_SYNC_UP, and back; whether the configurations and states match
is a free value (log 144). -/
def State.useSignaling (s : State) (f : Frame) (o : Nat) : State :=
  let p := f.port
  if beAt f.bytes (o + 44) 2 ≠ 0x8001 ∨ !s.l1Enabled p then s
  else match s.l1State p with
    | 0 => s.setL1 p 2
    | 1 => s.setL1 p 2
    | 2 => s.tick1Free.setL1 p (2 + Config.freeNat s.free % 2)
    | _ => s.tick1Free.setL1 p (2 + Config.freeNat s.free % 3)

/-- PTP_SIGNALING_RX; a consumed message of a type that no role uses comes here too, and is ignored. -/
def execPtpSignalingRx (id : Nat) (s : State) : Answer :=
  .next (
    match s.ptpTaken id with
    | none => s
    | some (f, o) =>
      let t := byteAt f.bytes o % 16
      s.ptpReceive id (fun t => !(([0, 1, 8, 9, 11] : List Nat).contains t)) (if t = 12 then [1, 2] else []) State.useSignaling)

/-- ANNOUNCE_TIMEOUT (R337). -/
def execAnnounceTimeout (p : Nat) (s : State) : Answer :=
  .next (if s.isPort p ∧ 2 ≤ s.ptpRole p then
      (s.setFld (.TIM_PORT_STATUS p) F.TIM_PORT_STATUS_ANN_OK 0).count (C.ptpTimeouts p)
    else s)

/-- L1_PEER_TIMEOUT (R338). -/
def execL1PeerTimeout (p : Nat) (s : State) : Answer :=
  .next (
    if !s.isPort p then s
    else match s.l1State p with
      | 4 => s.setL1 p 2
      | 3 => s.setL1 p 1
      | 2 => s.setL1 p 1
      | _ => s)

end Sys2Proof.Machine
end

