-- ==== Sys2Proof/Machine/Health.lean ====
section
/-! DEFINITION. The steward pair, Sumac, adaptive voltage, self-test and the health report (R420 to R451). -/
namespace Sys2Proof.Machine

/-! ## The steward pair (R420 to R427) -/

def State.pairFld (s : State) (f : Fld) : Nat := s.fld .STW_PAIR_STATUS f
def State.setPair (s : State) (f : Fld) (v : Nat) : State := s.setFld .STW_PAIR_STATUS f v

/-- STATE_A or STATE_B: 0 active, 1 standby, 2 self-test, 3 out. -/
def stwFld (w : Nat) : Fld := if w = 0 then F.STW_PAIR_STATUS_STATE_A else F.STW_PAIR_STATUS_STATE_B
def State.activeStw (s : State) : Nat := s.pairFld F.STW_PAIR_STATUS_ACTIVE
def State.standbyOk (s : State) : Bool := s.pairFld F.STW_PAIR_STATUS_STANDBY_OK == 1

/-- STANDBY_OK; its return clears STEWARD_SINGLE (R425). -/
def State.setStandbyOk (s : State) (b : Bool) : State :=
  let s := s.setPair F.STW_PAIR_STATUS_STANDBY_OK (if b then 1 else 0)
  if b then s.clearCode Ev.stewardSingle else s

/-- 24 hours in ticks. -/
def day : Nat := 86400 * 1000000000

/-- Give-ups of steward `w` in the last 24 h (R423). -/
def State.giveUps (s : State) (w : Nat) : Nat :=
  ((if w = 0 then s.pair.giveA else s.pair.giveB).filter fun t => decide (s.tim.tick - t < day)).length

/-- The active steward gives up control (R422): the standby takes over at the next strobe, or STEWARD_LOST (R426). -/
def State.giveUp (s : State) (cause : Nat) : State :=
  if s.pair.cause.isSome || s.stewardLost then s
  else
    let s := { s with pair := if s.activeStw = 0 then { s.pair with giveA := s.tim.tick :: s.pair.giveA }
                              else { s.pair with giveB := s.tim.tick :: s.pair.giveB } }
    if s.standbyOk then { s with pair := { s.pair with cause := some cause } }
    else ((s.setPair F.STW_PAIR_STATUS_LOST 1).raise Ev.stewardLost 0 0).answerLost

/-- STEWARD_TAKEOVER: step 2 of R423 at a strobe; for a swap or a rotation the former active steward goes straight to
step 4. -/
def State.takeover (s : State) : State :=
  match s.pair.cause with
  | none => s
  | some c =>
    let a := s.activeStw
    let s := { s with pair := { s.pair with cause := none } }
    let s := (s.setPair F.STW_PAIR_STATUS_ACTIVE (1 - a)).setPair (stwFld (1 - a)) 0
    let s := (s.count C.handovers).event Ev.stewardHandover (1 - a) c
    if c ≤ 1 then (s.setPair (stwFld a) 2).setStandbyOk false
    else if s.giveUps a < 3 then (s.setPair (stwFld a) 1).setStandbyOk true
    else (s.setPair (stwFld a) 3).setStandbyOk false

/-- STANDBY_ACK_TIMEOUT (R421). -/
def execStandbyAckTimeout (s : State) : Answer := .next (if s.standbyOk then s.setStandbyOk false else s)

/-- STEWARD_LOCKSTEP_MISMATCH (R422, cause 0). -/
def execStewardLockstepMismatch (s : State) : Answer := .next (s.giveUp 0)

/-- STEWARD_MEMORY_ERROR (R422, cause 1). -/
def execStewardMemoryError (s : State) : Answer := .next (s.giveUp 1)

/-- A write of STW_PAIR_CTL.SWAP = 1: ignored while STANDBY_OK = 0 (R425). -/
def State.stewardSwap (s : State) : State := if s.standbyOk then s.giveUp 2 else s

/-- STEWARD_ROTATION (R425). -/
def execStewardRotation (s : State) : Answer :=
  .next (if s.standbyOk && s.fld .STW_PAIR_CFG F.STW_PAIR_CFG_ROTATE != 0 then s.giveUp 3 else s)

/-- STEWARD_SELFTEST_DONE: step 4 of R423. -/
def execStewardSelftestDone (pass : Bool) (s : State) : Answer :=
  .next (
    let w := 1 - s.activeStw
    if s.pairFld (stwFld w) ≠ 2 then s
    else if pass && decide (s.giveUps w < 3) then (s.setPair (stwFld w) 1).setStandbyOk true
    else s.setPair (stwFld w) 3)

/-- STANDBY_SELFTEST: the standby's periodic logic self-test ends (R425, R440). -/
def execStandbySelftest (pass : Bool) (s : State) : Answer :=
  .next (
    let w := 1 - s.activeStw
    if s.pairFld (stwFld w) ≠ 1 ∨ pass then s else (s.setPair (stwFld w) 3).setStandbyOk false)

/-- STEWARD_SINGLE_TIMER: STANDBY_OK has been 0 for 1 s (R425). -/
def execStewardSingleTimer (s : State) : Answer :=
  .next (if s.standbyOk then s else s.raise Ev.stewardSingle (1 - s.activeStw) 0)

/-- MEMORY_SCRUB (R440). A standby whose memory is bad is out, and receives a state copy before it is standby again (step 4 of
R423, which STEWARD_SELFTEST_DONE ends). -/
def execMemoryScrub (found : ScrubFound) (s : State) : Answer :=
  .next (
    let w := 1 - s.activeStw
    match found with
    | .corrected => s.event Ev.scrubRepair 0xFF 0
    | .activeBad => s.giveUp 1
    | .standbyBad =>
      if s.pairFld (stwFld w) = 1 ∧ s.pair.cause.isNone then (s.setPair (stwFld w) 2).setStandbyOk false else s)

/-- ROW_SCRUB: a row with an uncorrectable error is rewritten from the shadow (R441). -/
def execRowScrub (table row : Nat) (s : State) : Answer := .next (s.event Ev.scrubRepair table row)

/-! ## Sumac (R428 to R434) -/

/-- The lowest spare of a pool. -/
def State.spareOf (s : State) (kind pool : Nat) : Option Nat :=
  if 3 < kind then none else (poolUnits kind pool).find? fun i => s.unit kind i == UnitSt.spare

/-- INSTANCE of a unit, or of a resource (R444). -/
def unitInst (kind idx : Nat) : Nat := kind * 2 ^ 28 + idx

/-- A straggler is swapped for a spare of its pool (R431, R432). -/
def State.swapUnit (s : State) (kind idx spare : Nat) : State :=
  let k := unitKey kind idx
  let l := s.logicalOf kind idx
  let s := (s.setUnit kind idx .testing).setUnit kind spare .active
  let s := { s with hlt := { s.hlt with
    logical := sput (initialLogical kind spare) s.hlt.logical (unitKey kind spare) l, declared := s.hlt.declared.filter (· != k),
    swaps := sput 0 s.hlt.swaps k (sgetD s.hlt.swaps k 0 + 1), aboveRun := serase s.hlt.aboveRun k, belowRun := serase s.hlt.belowRun k } }
  let s := if kind = 1 then { s with swc := { s.swc with bankCopy := s.swc.bankCopy ++ [(idx, spare)] } } else s
  let s := (s.count C.swaps).event Ev.stragglerSwap (unitInst kind idx) spare
  if (s.spareOf kind (poolOf kind idx)).isNone then s.event Ev.sparesExhausted (unitInst kind (poolOf kind idx)) 0 else s

/-- A unit is declared a straggler (R431). -/
def State.straggler (s : State) (kind idx : Nat) : State :=
  match s.unit kind idx with
  | .active =>
    let s := s.count C.stragglers
    match s.spareOf kind (poolOf kind idx) with
    | some sp => s.swapUnit kind idx sp
    | none => s.event Ev.stragglerNoSpare (unitInst kind idx) 0
  | .spare => (s.count C.stragglers).setUnit kind idx .retired
  | .testing => s
  | .retired => s

/-- A number inserted into an ascending list. -/
def insertNat (x : Nat) : List Nat → List Nat
  | [] => [x]
  | y :: ys => if x ≤ y then x :: y :: ys else y :: insertNat x ys

/-- Twice the median (R430). -/
def median2 (l : List Nat) : Nat :=
  let o := l.foldr insertNat []
  let n := o.length
  o.getD ((n - 1) / 2) 0 + o.getD (n / 2) 0

/-- One unit's window (R430, R431): its runs above and at or below the threshold, its declaration once in a run that has reached HOLD,
and the end of STRAGGLER_NO_SPARE. -/
def State.sumacUnit (s : State) (kind idx t med2 : Nat) : State :=
  let k := unitKey kind idx
  let above := decide (s.fld .HLT_SUMAC_CFG F.HLT_SUMAC_CFG_THRESH * Config.fusedRatio kind idx * med2 < t * 2 * 64 * 65536)
  let up := if above then sgetD s.hlt.aboveRun k 0 + 1 else 0
  let down := if above then 0 else sgetD s.hlt.belowRun k 0 + 1
  let told := above && s.hlt.declared.contains k
  let due := above && !told && decide (s.fld .HLT_SUMAC_CFG F.HLT_SUMAC_CFG_HOLD ≤ up)
  let rest := s.hlt.declared.filter (· != k)
  let s := { s with hlt := { s.hlt with aboveRun := sput 0 s.hlt.aboveRun k up, belowRun := sput 0 s.hlt.belowRun k (min 100 down),
                                        declared := if told || due then k :: rest else rest } }
  if due then s.straggler kind idx
  else if 100 ≤ down then s.eventClear Ev.stragglerNoSpare (unitInst kind idx) else s

/-- SUMAC_WINDOW: one window of 10 µs; peer groups not named are within their thresholds. -/
def execSumacWindow (groups : List CycleGroup) (s : State) : Answer :=
  .next (groups.foldl (fun (s : State) g =>
    if 8 ≤ g.kind ∨ g.times.length ≠ peerSize g.kind then s
    else
      let m := median2 g.times
      ((List.range g.times.length).zip g.times).foldl (fun (s : State) x =>
        s.sumacUnit g.kind (g.group * peerSize g.kind + x.1) x.2 m) s) s)

/-- A frame held in a stalled unit is handled as found bad (R434, R179): its replicas leave, and frames that waited behind it in
the inspection engine move on. -/
def State.stallFrame (s : State) (kind : Nat) (s0 : State) (id : Nat) : State :=
  match s0.frame id with
  | none => s
  | some f =>
    let s := if kind = 0 then s.countDrop f C.pipDrops
      else (s.repsOf id).foldl (fun (s : State) kv => if kv.2.tx.isSome then s else s.count (C.dropsFull kv.2.q)) s
    let s := ((s.updFrame id fun f => { f with bad := true }).killReplicas id).checkGone id
    s.dpiRelease f (s.frames.length + 1)

/-- The frames that are lost with a stalled unit: of a parse pipeline those dealt to it that have not left it (R203), of another
unit those that hold a token in it. -/
def State.heldIn (s : State) (kind idx : Nat) (tokens : List Nat) : List Nat :=
  if kind = 0 then (s.frames.filter fun kv => kv.2.stage == Stage.admitted && kv.2.pipe == idx).map Prod.fst else tokens

/-- Cells of the frames that a stalled bank holds are lost (R434). -/
def State.loseBank (s : State) (bank : Nat) : State :=
  { s with frames := s.frames.map fun kv =>
      let hit := (List.range kv.2.cells.length).filter fun i =>
        kv.2.pool != some Pool.spill && kv.2.cells.getD i 0 / 2048 == bank
      (kv.1, { kv.2 with gone := kv.2.gone ++ hit }) }

/-- UNIT_STALLED (R434); `frames` are those with a token in a unit that is no parse pipeline. -/
def execUnitStalled (kind idx : Nat) (frames : List Nat) (s : State) : Answer :=
  .next (
    if 8 ≤ kind then s
    else
      let bank := s.logicalOf kind idx
      let active := s.unit kind idx == UnitSt.active
      let s := s.event Ev.unitStalled (unitInst kind idx) 0
      let s := (s.heldIn kind idx frames).foldl (fun (s : State) id => s.stallFrame kind s id) s
      let s := if kind = 1 ∧ active then s.loseBank bank else s
      if !active then s
      else match s.spareOf kind (poolOf kind idx) with
        | some sp =>
          let t := s.swapUnit kind idx sp
          if kind = 1 then { t with swc := { t.swc with bankCopy := t.swc.bankCopy.filter fun x => x.1 != idx } } else t
        | none => s.event Ev.stragglerNoSpare (unitInst kind idx) 0)

/-- A probed cycle time is within 1.10 × nominal, nominal being the fused ratio times the median of the peer group (R430, R433). -/
def withinNominal (kind idx : Nat) (probe : Nat × List Nat) : Bool :=
  decide (10 * 2 * 65536 * probe.1 ≤ 11 * Config.fusedRatio kind idx * median2 probe.2)

/-- UNIT_SELFTEST_DONE: a unit swapped out becomes a spare again, or is retired (R433). -/
def execUnitSelftestDone (kind idx : Nat) (pass : Bool) (probes : List (Nat × List Nat)) (s : State) : Answer :=
  .next (
    if s.unit kind idx != UnitSt.testing then s
    else if pass && probes.all (withinNominal kind idx) && s.fld .HLT_SUMAC_CFG F.HLT_SUMAC_CFG_RESPARE == 1 &&
        decide (sgetD s.hlt.swaps (unitKey kind idx) 0 < 3) then
      (s.setUnit kind idx .spare).eventClear Ev.sparesExhausted (unitInst kind (poolOf kind idx))
    else s.setUnit kind idx .retired)

/-- SPARE_SELFTEST: the spares, and the units awaiting R433, that fail their test (R440). -/
def execSpareSelftest (failed : List (Nat × Nat)) (s : State) : Answer :=
  .next (
    if s.fld .HLT_HEALTH_CFG F.HLT_HEALTH_CFG_CAL_FREEZE = 1 then s
    else failed.foldl (fun (s : State) x =>
      if s.unit x.1 x.2 == UnitSt.spare || s.unit x.1 x.2 == UnitSt.testing then
        (s.setUnit x.1 x.2 .retired).event Ev.selftestFail (unitInst x.1 x.2) 0
      else s) s)

/-- HLT_SPARES (R448). -/
def State.sparesWord (s : State) : Word :=
  let parse := ((List.range 8).map fun sl => if (s.spareOf 0 sl).isSome then 2 ^ sl else 0).sum
  let banks := ((List.range 16).map fun m => ((poolUnits 1 m).filter fun i => s.unit 1 i == UnitSt.spare).length).sum
  BitVec.ofNat 32 (parse + banks * 256 + (if (s.spareOf 2 0).isSome then 2 ^ 15 else 0) +
    (if (s.spareOf 3 0).isSome then 2 ^ 16 else 0))

/-! ## Adaptive voltage (R435 to R439) -/

def State.avs (s : State) (f : Fld) : Nat := s.fld .HLT_AVS_STATUS f
def State.avsCfg (s : State) (f : Fld) : Nat := s.fld .HLT_AVS_CFG f

/-- The request takes a value and is written to the regulator (R435): AT_CEIL, and AVS_LEVEL at a new 25 mV band, at most once per
second (R437). -/
def State.setRequest (s : State) (mv : Nat) : State :=
  let old := s.avs F.HLT_AVS_STATUS_REQUEST
  let s := if old = mv then s else s.emit (.avs mv)
  let s := s.setFld .HLT_AVS_STATUS F.HLT_AVS_STATUS_REQUEST mv
  let s := s.setFld .HLT_AVS_STATUS F.HLT_AVS_STATUS_AT_CEIL (if mv = s.avsCfg F.HLT_AVS_CFG_CEIL then 1 else 0)
  let soon := match s.hlt.levelAt with | some t => decide (s.tim.tick - t < 1000000000) | none => false
  if (old - 550) / 25 = (mv - 550) / 25 || soon then s
  else ({ s with hlt := { s.hlt with levelAt := some s.tim.tick } }).event Ev.avsLevel 0 mv

/-- The regulator is asked for the request that stands: at the end of step 2 (R435), and when the block's reset has set it. -/
def State.askRequest (s : State) : State := s.emit (.avs (s.avs F.HLT_AVS_STATUS_REQUEST))

/-- The margin of one resource, a fraction (R436). -/
structure Margin where
  kind : Nat
  index : Nat
  num : Int
  den : Nat
  deriving DecidableEq, Repr

/-- The margin is less than so many per cent. -/
def Margin.below (m : Margin) (percent : Nat) : Bool := decide (100 * m.num < percent * m.den)

/-- Tokens that units with these cycle times in ps take in 100 µs, as numerator and denominator (R436; log 145). -/
def capacity : List Nat → Nat × Nat
  | [] => (0, 1)
  | t :: ts => let c := capacity ts
               if t = 0 then c else (c.1 * t + c.2 * 100000000, c.2 * t)

/-- The cycle times of a resource's active units (R428, R436). -/
def State.activeTimes (s : State) (d : Demand) : List Nat :=
  (d.times.filter fun x => s.unit d.kind x.1 == UnitSt.active).map Prod.snd

/-- The margin of a resource, where its demand is at least 25 % of its capacity: capacity divided by demand, minus 1 (R436). -/
def State.marginOf (s : State) (d : Demand) : Option Margin :=
  let c := capacity (s.activeTimes d)
  if d.tokens = 0 || decide (4 * d.tokens * c.2 < c.1) then none
  else some ⟨d.kind, d.index, (c.1 : Int) - (d.tokens * c.2 : Nat), d.tokens * c.2⟩

/-- The smallest margin taken. -/
def worst : List Margin → Option Margin
  | [] => none
  | m :: ms => match worst ms with
    | none => some m
    | some x => if m.num * x.den ≤ x.num * m.den then some m else some x

/-- The request of R437 for margin `m`. -/
def State.avsStep (s : State) (m : Option Margin) : State :=
  let req := s.avs F.HLT_AVS_STATUS_REQUEST
  let ceil := s.avsCfg F.HLT_AVS_CFG_CEIL
  let floor := s.avsCfg F.HLT_AVS_CFG_FLOOR
  let high := match m with | some x => !x.below (s.avsCfg F.HLT_AVS_CFG_DOWN) | none => false
  let run := if high then min 100 (s.hlt.downRun + 1) else 0
  let s := { s with hlt := { s.hlt with downRun := run } }
  if s.avs F.HLT_AVS_STATUS_NO_RESPONSE = 1 then s
  else if s.avsCfg F.HLT_AVS_CFG_EN = 0 then s.setRequest floor
  else match m with
    | none => s
    | some x =>
      if x.below (s.avsCfg F.HLT_AVS_CFG_UP) then
        if req < ceil then (s.setRequest (min ceil (req + 5))).count C.avsUp else s
      else if run = 100 ∧ floor < req then (s.setRequest (max floor (req - 5))).count C.avsDown
      else s

/-- The pool of a resource (R428): port group to slice, bank group, or the one pool. -/
def resourcePool (kind idx : Nat) : Nat := if kind = 0 then idx / 8 else if kind = 1 then idx else 0

/-- RATE_LIMIT for one resource with its latest margin (R438). -/
def State.rateLimit (s : State) (kind idx : Nat) (margin : Option Margin) : State :=
  let k := unitKey kind idx
  let below := match margin with | some x => x.below 0 | none => false
  let neg := if below then min 10 (sgetD s.hlt.neg k 0 + 1) else 0
  let non := if below then 0 else min 1000 (sgetD s.hlt.nonneg k 0 + 1)
  let s := { s with hlt := { s.hlt with neg := sput 0 s.hlt.neg k neg, nonneg := sput 0 s.hlt.nonneg k non } }
  let ceil := s.avs F.HLT_AVS_STATUS_AT_CEIL == 1
  if non = 1000 || !ceil then s.eventClear Ev.rateLimit (unitInst kind idx)
  else if neg = 10 && (s.spareOf kind (resourcePool kind idx)).isNone then s.raise Ev.rateLimit (unitInst kind idx) 0
  else s

/-- HLT_MARGIN (R436, R448): M in units of 0.01 %, with whichever rounding, and the resource that set it. -/
def State.showMargin (s : State) (m : Option Margin) : State :=
  match m with
  | some m =>
    let r := s.roundFree (10000 * m.num) m.den
    r.1.put .HLT_MARGIN (BitVec.ofNat 32 (((max (-32768) (min 32766 r.2)) % 65536).toNat + m.kind % 16 * 65536 + m.index % 4096 * 2 ^ 20))
  | none => s.put .HLT_MARGIN 0x000F7FFF#32

/-- AVS_EVAL: one evaluation over the margins taken (R436 to R438); the request follows it from the end of step 9 (R435). -/
def execAvsEval (demands : List Demand) (s : State) : Answer :=
  .next (
    let margins := demands.filterMap s.marginOf
    let w := worst margins
    let s := s.showMargin w
    let s := if s.running then s.avsStep w else s
    let seen := margins.map fun m => unitKey m.kind m.index
    let s := margins.foldl (fun (s : State) m => s.rateLimit m.kind m.index (some m)) s
    (((s.hlt.neg.map Prod.fst) ++ (s.hlt.raised.filter fun x => x.1 == Ev.rateLimit).map fun x =>
        unitKey (x.2 / 2 ^ 28) (x.2 % 2 ^ 16)).eraseDups.filter fun k => !seen.contains k).foldl
      (fun (s : State) k => s.rateLimit (k / 2 ^ 16) (k % 2 ^ 16) none) s)

/-- A regulator transaction succeeds (R439). -/
def State.avsAnswer (s : State) (mv : Nat) : State :=
  let s := (s.setFld .HLT_AVS_STATUS F.HLT_AVS_STATUS_READBACK mv).setFld .HLT_AVS_STATUS F.HLT_AVS_STATUS_NO_RESPONSE 0
  ({ s with hlt := { s.hlt with avsFails := 0 } }).eventClear Ev.avsNoResponse 0

/-- AVS_READBACK: the reading of every 1 ms; none: the transaction failed (R439). -/
def execAvsReadback (mv : Option Nat) (s : State) : Answer :=
  .next (
    if s.avs F.HLT_AVS_STATUS_NO_RESPONSE = 1 then s
    else match mv with
      | some v => s.avsAnswer v
      | none =>
        let n := s.hlt.avsFails + 1
        let s := { s with hlt := { s.hlt with avsFails := n } }
        if 3 ≤ n then (s.setFld .HLT_AVS_STATUS F.HLT_AVS_STATUS_NO_RESPONSE 1).raise Ev.avsNoResponse 0 0 else s)

/-- AVS_RETRY: every 10 ms while NO_RESPONSE holds (R439). -/
def execAvsRetry (mv : Option Nat) (s : State) : Answer :=
  .next (
    match mv with
    | some v => if s.avs F.HLT_AVS_STATUS_NO_RESPONSE = 1 then s.avsAnswer v else s
    | none => s)

/-! ## Self-test and temperature (R440, R446) -/

/-- ENGINE_STANDBY_SELFTEST: the Saffron standby engine (R348 step 4 rules). -/
def execEngineStandbySelftest (pass : Bool) (s : State) : Answer :=
  .next (
    let e := 1 - s.fld .TIM_SAF_STATUS F.TIM_SAF_STATUS_ACTIVE
    if pass || !s.engineOn || s.fld .TIM_SAF_STATUS (engFld e) != 1 then s
    else
      let s := (s.setFld .TIM_SAF_STATUS (engFld e) 2).setFld .TIM_SAF_STATUS F.TIM_SAF_STATUS_STANDBY_OK 0
      ({ s with tim := { s.tim with standby := none } }).raise Ev.saffronSingle e 0)

/-- SENSOR_CHECK: the sensors that failed against their neighbours (R440). -/
def execSensorCheck (failed : List Nat) (s : State) : Answer :=
  .next ((List.range 32).foldl (fun (s : State) i =>
    if failed.contains i then
      (s.setFld (.HLT_TEMP i) F.HLT_TEMP_VALID 0).event Ev.selftestFail (0xF0000000 + i) 0
    else s.setFld (.HLT_TEMP i) F.HLT_TEMP_VALID 1) s)

/-- The reading of a sensor in eighths of a degree. -/
def State.tempOf (s : State) (i : Nat) : Int := F.HLT_TEMP_TEMP.sget (s.get (.HLT_TEMP i))

/-- One code's rule at a reading (R446): raised at or above its limit; all cleared together. -/
def State.tempRule (s : State) (code limit sensor : Nat) : State :=
  let valid (i : Nat) : Bool := s.fld (.HLT_TEMP i) F.HLT_TEMP_VALID == 1
  let t := s.tempOf sensor
  if valid sensor && decide ((8 * limit : Nat) ≤ t) then s.raise code sensor (t % 2 ^ 32).toNat
  else if (List.range 32).all fun i => !valid i || decide (s.tempOf i ≤ (8 * limit : Nat) - 40) then s.clearCode code
  else s

/-- TEMP_READING (R446). -/
def execTempReading (sensor : Nat) (eighths : Int) (s : State) : Answer :=
  .next (
    if 32 ≤ sensor then s
    else
      let s := s.setFld (.HLT_TEMP sensor) F.HLT_TEMP_TEMP (eighths % 4096).toNat
      (s.tempRule Ev.tempHigh (s.fld .HLT_TEMP_CFG F.HLT_TEMP_CFG_WARN) sensor).tempRule Ev.tempCrit
        (s.fld .HLT_TEMP_CFG F.HLT_TEMP_CFG_CRIT) sensor)

end Sys2Proof.Machine
end

