-- ==== Sys2Proof/Machine/Host.lean ====
section
/-! DEFINITION. The host link, DMA rings and interrupts (R452 to R484). -/
namespace Sys2Proof.Machine

/-! ## Rings (R459, R460, R470) -/

/-- STATE of a ring: 0 STOPPED, 1 RUNNING, 2 STOPPING, 3 ERROR. -/
def State.ringState (s : State) (x : Nat) : Nat := s.fld (.HST_RING_STATUS x) F.HST_RING_STATUS_STATE
def State.setRingState (s : State) (x v : Nat) : State := s.setFld (.HST_RING_STATUS x) F.HST_RING_STATUS_STATE v
def State.ringTail (s : State) (x : Nat) : Nat := s.fld (.HST_RING_TAIL x) F.HST_RING_TAIL_INDEX
def State.ringHead (s : State) (x : Nat) : Nat := s.fld (.HST_RING_HEAD x) F.HST_RING_HEAD_INDEX
def State.ringCptr (s : State) (x : Nat) : Nat := s.fld (.HST_RING_CPTR x) F.HST_RING_CPTR_INDEX
def State.ringAck (s : State) (x : Nat) : Nat := s.fld (.HST_RING_ACK x) F.HST_RING_ACK_INDEX
def State.setHead (s : State) (x v : Nat) : State := s.setFld (.HST_RING_HEAD x) F.HST_RING_HEAD_INDEX v
/-- A completion is written, and CPTR passes its descriptors (R463, R468). -/
def State.completed (s : State) (x v : Nat) : State :=
  (s.putRing x { s.ring x with written := s.unacked x ++ [(v, s.tim.tick)] }).setFld (.HST_RING_CPTR x) F.HST_RING_CPTR_INDEX v

/-- The address of descriptor `i` of ring `x` (R459). -/
def State.descAddr (s : State) (x i : Nat) : Nat :=
  ((s.get (.HST_RING_BASE_H x)).toNat * 2 ^ 32 + (s.get (.HST_RING_BASE_L x)).toNat + 32 * i) % 2 ^ 64

/-- Descriptors between HEAD and TAIL. -/
def State.posted (s : State) (x : Nat) : Nat := (s.ringTail x + s.ringSize x - s.ringHead x) % s.ringSize x

/-- The bytes of words in host memory: little-endian. -/
def leBytes (ws : List Nat) : List Byte := ws.flatMap fun w => (List.range 4).map fun i => BitVec.ofNat 8 (w / 2 ^ (8 * i))

/-! ## Receive (R461 to R464) -/

/-- The frame at the head of a delivery queue whose last cell is written. -/
def State.rxReady (s : State) (r : Nat) : Bool :=
  match (s.ring r).dq with
  | x :: _ => match s.frame x.frame with
    | some f => f.bad || f.whole
    | none => true
  | [] => false

/-- The next ring in rotation with a head to serve (R462). -/
def State.rxTurn (s : State) : Option Nat :=
  ((List.range 32).map fun k => (s.rxNext + k) % 32).find? fun r => s.ringState r == 1 && s.rxReady r && !s.boot.scanHold

/-- The head of a delivery queue leaves it, and its reference with it. -/
def State.rxPop (s : State) (r : Nat) : State :=
  match (s.ring r).dq with
  | x :: rest => (s.putRing r { s.ring r with dq := rest }).checkGone x.frame
  | [] => s

/-- The words of descriptor `i` of `d` that a frame fills (R464): word 2, and words 3 to 7 of the first. -/
def rxWord2 (len buf d i : Nat) : Nat :=
  min buf (len - i * buf) + (if i = 0 then 2 ^ 14 + len * 2 ^ 16 else 0) + (if i + 1 = d then 2 ^ 15 else 0) + 2 ^ 31

def rxWords (f : Frame) (why : Nat) : List Nat :=
  let verdict := match f.parse with
    | some p => (match p.verdict with | .ok => 0 | .deep => 1 | .length => 2)
    | none => 0
  [f.port + (if f.fromHost then 2 ^ 10 else 0) + f.cls * 2 ^ 11 + why * 2 ^ 15 + verdict * 2 ^ 18 +
     (if f.pass2 && f.dpiHit then 2 ^ 20 else 0) + f.sel * 2 ^ 21,
   if f.pass2 then f.dpiTag else 0, 0, f.ts % 2 ^ 32, f.ts / 2 ^ 32]

/-- The writes of R463, in their order. -/
def State.rxWrites (s : State) (r : Nat) (f : Frame) (why : Nat) (bufs : List Nat) : State :=
  let buf := 256 * s.fld (.HST_RING_CFG r) F.HST_RING_CFG_BUF
  let data := f.bytes.take (f.len - 4)
  let d := (data.length + buf - 1) / buf
  let at' (i w : Nat) : Nat := s.descAddr r ((s.ringHead r + i) % s.ringSize r) + 4 * w
  let s' := (List.range d).foldl (fun (s : State) i => s.emit (.dma (bufs.getD i 0) ((data.drop (i * buf)).take buf))) s
  let s' := ((List.range d).drop 1).foldl (fun (s : State) i =>
    s.emit (.dma (at' i 2) (leBytes [rxWord2 data.length buf d i, 0, 0, 0, 0, 0]))) s'
  (s'.emit (.dma (at' 0 3) (leBytes (rxWords f why)))).emit (.dma (at' 0 2) (leBytes [rxWord2 data.length buf d 0]))

/-- The head frame is delivered, or dropped for lack of descriptors (R463). -/
def State.rxServe (s : State) (r : Nat) (bufs : List Nat) (x : RxItem) (f : Frame) : State :=
  let buf := 256 * s.fld (.HST_RING_CFG r) F.HST_RING_CFG_BUF
  let d := (f.len - 4 + buf - 1) / buf
  if s.posted r < d then
    ((s.count (C.rxDrops r)).setFld (.HST_RING_STATUS r) F.HST_RING_STATUS_DROP_SEEN 1).rxPop r
  else
    let h := (s.ringHead r + d) % s.ringSize r
    let s := (((s.rxWrites r f x.reason bufs).setHead r h).completed r h).count (C.rxFrames r)
    (s.rxPop r).irqSettle

/-- HOST_RX_DELIVER: `bufs` are the buffer addresses that the descriptors hold. -/
def execHostRxDeliver (r : Nat) (bufs : List Nat) (s : State) : Answer :=
  .next (if s.rxTurn ≠ some r then s
    else match (s.ring r).dq with
      | [] => s
      | x :: _ => match s.frame x.frame with
        | none => s.rxPop r
        | some f =>
          if f.bad then s.rxPop r
          else ({ s with rxNext := (r + 1) % 32 }).rxServe r bufs x f)

/-! ## Transmit (R465 to R468) -/

def descBytes (d : Desc) : Nat := (d.getD 2 0).toNat % 2 ^ 14
def descSop (d : Desc) : Bool := (d.getD 2 0).toNat.testBit 14
def descEop (d : Desc) : Bool := (d.getD 2 0).toNat.testBit 15

/-- How the descriptors from HEAD begin (R466): a whole chain, a malformed one of so many descriptors, or one whose end is
not yet posted. -/
inductive Chain where
  | whole (n : Nat)
  | bad (n : Nat)
  | short
  deriving DecidableEq, Repr

/-- The chain from its descriptor `i` on. -/
def chainFrom : Nat → List Desc → Chain
  | _, [] => .short
  | i, d :: ds =>
    if 0 < i ∧ descSop d then .bad i
    else if descEop d then .whole (i + 1)
    else if i + 1 = 64 then .bad 64
    else chainFrom (i + 1) ds

/-- An action that a transmit descriptor may carry. -/
def txActionOk (a : Action) : Bool := a.valid && !a.steer && a.recirc == 0

/-- The chain with every condition of R466. -/
def checkChain (ds : List Desc) : Chain :=
  match chainFrom 0 ds with
  | .whole n =>
    let c := ds.take n
    let sop := c.headD []
    if !descSop sop || c.any (fun d => descBytes d == 0) || 16379 < (c.map descBytes).sum ||
        !txActionOk ⟨sop.getD 4 0, sop.getD 5 0⟩ then .bad n else .whole n
  | x => x

/-- A frame of the ring stands before its queues. -/
def State.txPendingAdmission (s : State) (r : Nat) : Bool :=
  s.frames.any fun kv => kv.2.fromHost && kv.2.port == r && kv.2.stage != Stage.queued && kv.2.stage != Stage.dropped

/-- An item joins the ring's completions, and HEAD passes its descriptors. -/
def State.txTake (s : State) (r n : Nat) (t : TxItem) : State :=
  let x := r + 32
  let s := s.putRing x { s.ring x with items := (s.ring x).items ++ [t], short := none }
  s.setHead x ((s.ringHead x + n) % s.ringSize x)

/-- A transmit frame as it is admitted: the FCS appended, padded to 60 bytes first (R466, R467). -/
def State.txFrame (s : State) (r : Nat) (data : List Byte) : Frame :=
  { newFrame r 0 s.now16 s.curSel s.admitNow (sealFrame data) with fromHost := true, ended := true }

/-- A transmit ring's fetch waits while its block, or slice 0's search array or engine, accepts no token (R52). -/
def State.txShut (s : State) (x : Nat) : Bool := s.rstSet 0 2 x || s.rstSet 4 0 8 || s.rstSet 4 0 9

/-- A frame of transmit ring `r` may be fetched: descriptors are posted, and no chain without an end is known to stand at HEAD. -/
def State.txReady (s : State) (r : Nat) : Bool :=
  let x := r + 32
  s.running && s.ringState x == 1 && (s.ring x).held.isNone && !s.txPendingAdmission r && !s.txShut x &&
    decide (0 < s.posted x) && (s.ring x).short != some (s.ringTail x)

/-- The next transmit ring in rotation (R467). -/
def State.txTurn (s : State) : Option Nat := ((List.range 32).map fun k => (s.txNext + k) % 32).find? s.txReady

/-- HOST_TX_FRAME, at its ring's turn: `chain` is what the ring's descriptors from HEAD hold, `data` the bytes of their buffers. A
chain whose end is not yet posted gives the turn to the next ring. -/
def execHostTxFrame (r : Nat) (chain : List Desc) (data : List Byte) (badRows : List Nat) (s : State) : Answer :=
  .next (
    let x := r + 32
    if s.txTurn ≠ some r then s
    else
      let ds := chain.take (s.posted x)
      let sop := ds.headD []
      let item : TxItem := ⟨s.ringHead x, 0, (sop.getD 2 0).toNat.testBit 16, 0, none, false, none, none, sop.getD 2 0⟩
      match checkChain ds with
      | .short => s.putRing x { s.ring x with short := some (s.ringTail x) }
      | .bad n =>
        (({ s with txNext := (r + 1) % 32 }).count (C.txMalformed r)).txTake r n { item with descs := n, tsReq := false, status := 2, ready := true }
      | .whole n =>
        let len := ((ds.take n).map descBytes).sum
        let f := s.txFrame r ((data ++ List.replicate (len - data.length) 0#8).take len)
        let p := parseFrame (s.parseCfg f) f.bytes
        let f := { f with parse := some p }
        let id := s.nextFrame
        let s := ({ s with frames := sinsert s.frames id f, nextFrame := id + 1, txNext := (r + 1) % 32 }).txTake r n
          { item with descs := n, frame := some id }
        let a : Action := ⟨sop.getD 4 0, sop.getD 5 0⟩
        if (sop.getD 2 0).toNat.testBit 17 then s.applyAction id f a else s.firstPass id f p a badRows)

/-- HOST_TX_RETRY: a held frame is tested again; at HOLD_LIMIT its refused replicas are discarded (R467). -/
def execHostTxRetry (r : Nat) (spillBudget : Bool) (s : State) : Answer :=
  .next (
    let limit := s.fld .HST_RING_GLOBAL F.HST_RING_GLOBAL_HOLD_LIMIT
    match (s.ring (r + 32)).held with
    | none => s
    | some h => match s.frame h.frame with
      | none => s
      | some f =>
        if (s.ringState (r + 32) = 1 ∨ s.ringState (r + 32) = 3) ∧ !s.enqueueShut f then
          s.enqueueHost h.frame f spillBudget (limit != 0 && decide (limit * 1000 ≤ s.tim.tick - h.since))
        else s)

/-- HOST_TX_COMPLETION: the oldest completion of the ring, when it is due (R468). -/
def execHostTxCompletion (r : Nat) (s : State) : Answer :=
  .next (
    let x := r + 32
    match (s.ring x).items with
    | [] => s
    | t :: rest =>
      if s.ringState x = 0 || !t.ready then s
      else
        let a := s.descAddr x t.sop
        let stamp := match t.stamp with
          | some v => if t.tsReq && t.status != 3 then some v else none
          | none => none
        let v := stamp.getD 0
        let s := (s.emit (.dma (a + 12) (leBytes [t.status + (if stamp.isSome then 4 else 0)]))).emit
          (.dma (a + 24) (leBytes [v % 2 ^ 32, v / 2 ^ 32]))
        let s := s.emit (.dma (a + 8) (leBytes [t.w2.toNat % 2 ^ 31 + 2 ^ 31]))
        ((s.putRing x { s.ring x with items := rest }).completed x ((s.ringCptr x + t.descs) % s.ringSize x)).irqSettle)

/-! ## Ring control (R470, R471) -/

/-- Frames in a delivery queue are dropped and counted. -/
def State.rxFlush (s : State) (r : Nat) : State :=
  (s.ring r).dq.foldl (fun (s : State) _ => (s.count (C.rxDrops r)).rxPop r) s

/-- What a write of HST_RING_CFG[x] starts, its word written. -/
def State.ringCfgWritten (s : State) (x : Nat) : State :=
  let en := s.fld (.HST_RING_CFG x) F.HST_RING_CFG_EN
  let st := s.ringState x
  let s :=
    if en = 1 ∧ st = 0 then
      let s := ((s.put (.HST_RING_HEAD x) 0).put (.HST_RING_CPTR x) 0).put (.HST_RING_TAIL x) 0
      ((s.put (.HST_RING_ACK x) 0).putRing x { s.ring x with written := [], short := none }).setRingState x 1
    else if en = 0 ∧ (st = 1 ∨ st = 3) then
      let s := s.setRingState x 2
      if x < 32 then s.rxFlush x
      else match (s.ring x).held with
        | some h => s.txAbort h.frame
        | none => s
    else s
  s.irqSettle

/-- What a write of HST_RING_ACK[x] starts: completions that ACK has passed are acknowledged. -/
def State.ringAckWritten (s : State) (x : Nat) : State := (s.putRing x { s.ring x with written := s.unacked x }).irqSettle

/-- RING_STOPPED (R470). -/
def execRingStopped (x : Nat) (s : State) : Answer :=
  .next (if s.ringState x = 2 ∧ (s.ring x).items.isEmpty then (s.setRingState x 0).irqSettle else s)

/-- A DMA failure of a transmit ring: the admitted frame under read is found bad and its completion ABORTED (R470). -/
def State.txDmaFail (s : State) (x id : Nat) : State :=
  if (s.ring x).items.any fun t => t.frame == some id then
    let s := s.count (C.txDrops (x - 32))
    match s.frame id with
    | some f =>
      if f.stage != Stage.queued then s.txAbort id
      else
        let items := (s.ring x).items.map fun (t : TxItem) =>
          if t.frame == some id then { t with status := 3, ready := true, frame := none } else t
        (((s.putRing x { s.ring x with items := items }).putFrame id { f with bad := true }).killReplicas id).checkGone id
    | none => s
  else s

/-- RING_DMA_ERROR (R470): `frame` is the transmit frame under read, none for a descriptor. -/
def execRingDmaError (x : Nat) (err : DmaError) (frame : Option Nat) (s : State) : Answer :=
  .next (
    if s.ringState x ≠ 1 then s
    else
      let s := (s.setRingState x 3).setFld (.HST_RING_STATUS x) F.HST_RING_STATUS_ERR
        (match err with | .errorCompletion => 1 | .timeout => 2)
      let s := s.count C.dmaErrors
      let s :=
        if x < 32 then (if (s.ring x).dq.isEmpty then s else (s.count (C.rxDrops x)).rxPop x)
        else match frame with
          | some id => s.txDmaFail x id
          | none => s
      s.irqSettle)

/-- RING_NOTICE_TIMEOUT (R471): the completion at ACK has come to be older than TIME, so that its source is examined. -/
def execRingNoticeTimeout (x : Nat) (s : State) : Answer := .next (if s.ackAged x then s.irqSettle else s)

/-! ## Claims, ends of interrupt and masks (R475 to R478) -/

/-- The source that a claim on target `t` takes (R477). -/
def State.claimable (s : State) (t : Nat) : Option Nat :=
  let c := s.irqLive.filter fun i => s.deliverable i t && (s.irqBound i == none || s.irqBound i == some t)
  c.find? fun i => c.all fun j => s.src j F.HST_IRQ_SRC_PRIO ≤ s.src i F.HST_IRQ_SRC_PRIO

/-- A claim read: the state after it and what it returns. -/
def State.irqClaim (s : State) (t : Nat) : State × Nat :=
  let unbind (s : State) : State :=
    let s := (List.range 128).foldl (fun (s : State) i => if s.irqBound i = some t then s.irqBind i none else s) s
    ({ s with irq := { s.irq with notified := clrBit s.irq.notified t } }).irqSettle
  match s.claimable t with
  | none => (unbind (s.count (C.irqSpurious t)), 0xFF)
  | some i =>
    let p := s.src i F.HST_IRQ_SRC_PRIO
    let s := s.setFld (.HST_IRQ_SRC i) F.HST_IRQ_SRC_IN_SERVICE 1
    let s := if s.src i F.HST_IRQ_SRC_SENSE = 1 then s.setFld (.HST_IRQ_SRC i) F.HST_IRQ_SRC_PENDING 0 else s
    let s := { s with irq := { s.irq with prios := sput [] s.irq.prios t ((p, i) :: s.irqStack t) } }
    (unbind (s.count (C.irqClaims t)), i)

/-- A write of HST_IRQ_EOI[t] (R478). -/
def State.irqEoi (s : State) (t : Nat) (v : Word) : State :=
  let mismatch (s : State) : State := s.setFld (.HST_IRQ_TGT_STATUS t) F.HST_IRQ_TGT_STATUS_EOI_MISMATCH 1
  match s.irqStack t with
  | [] => mismatch s
  | (_, i) :: rest =>
    let s := if F.HST_IRQ_EOI_SOURCE.get v = i then s else mismatch s
    let s := s.setFld (.HST_IRQ_SRC i) F.HST_IRQ_SRC_IN_SERVICE 0
    ({ s with irq := { s.irq with prios := sput [] s.irq.prios t rest } }).irqSettle

/-- A held message of target `t` is sent, or its Pending Bit and NOTIFIED are cleared (R476). -/
def State.msixRelease (s : State) (t : Nat) : State :=
  if !s.irq.pba.testBit t || s.msixHeld t then s
  else
    let s := { s with irq := { s.irq with pba := clrBit s.irq.pba t } }
    if s.irqLive.any fun i => s.deliverable i t then s.msixSend t
    else { s with irq := { s.irq with notified := clrBit s.irq.notified t } }

/-- A word of BAR 2-3 is written (R453): entry `offset / 16` of the table holds the message address, its data and the vector's mask;
the Pending Bit Array takes no write. -/
def State.msixWrite (s : State) (offset : Nat) (v : Word) : State :=
  let t := offset / 16
  let e := s.msixEntry t
  let put (e : MsixEntry) : State := { s with irq := { s.irq with table := sput ⟨0#64, 0#32⟩ s.irq.table t e } }
  if 8 ≤ t then s
  else match offset / 4 % 4 with
    | 0 => put { e with addr := (e.addr &&& 0xFFFFFFFF00000000#64) ||| v.setWidth 64 }
    | 1 => put { e with addr := (e.addr &&& 0x00000000FFFFFFFF#64) ||| v.setWidth 64 <<< 32 }
    | 2 => put { e with data := v }
    | _ => { s with irq := { s.irq with vmask := if v.getLsbD 0 then setBit s.irq.vmask t else clrBit s.irq.vmask t } }

/-- A word of BAR 2-3 as it reads (R453): the table, and at 0x1000 the Pending Bits. -/
def State.msixWord (s : State) (offset : Nat) : Word :=
  let t := offset / 16
  let e := s.msixEntry t
  if offset / 4 = 0x400 then BitVec.ofNat 32 s.irq.pba
  else if 8 ≤ t then 0#32
  else match offset / 4 % 4 with
    | 0 => e.addr.setWidth 32
    | 1 => (e.addr >>> 32).setWidth 32
    | 2 => e.data
    | _ => if s.irq.vmask.testBit t then 1#32 else 0#32

/-- MSIX_UNMASK: the host sets MSI-X Enable and the Function Mask, or accesses a word of BAR 2-3; messages that nothing holds any
more are released (R453, R476). -/
def execMsixUnmask (op : MsixOp) (offset : Nat) (value : Word) (s : State) : Answer :=
  .next (
    match op with
    | .control en funcMask =>
      let s := (s.setFld .HST_PCIE_STATUS F.HST_PCIE_STATUS_MSIX_EN (if en then 1 else 0)).setFld .HST_PCIE_STATUS
        F.HST_PCIE_STATUS_FUNC_MASK (if funcMask then 1 else 0)
      (List.range 8).foldl State.msixRelease s
    | .write => (List.range 8).foldl State.msixRelease (s.msixWrite offset value)
    | .read => s.emit (.readData (s.msixWord offset)))

/-! ## The link (R452, R454, R455) -/

/-- A ring goes to STOPPED with EN := 0: its delivery queue is dropped, its frames not yet admitted are abandoned. -/
def State.ringLost (s : State) (x : Nat) : State :=
  let s := if x < 32 then s.rxFlush x else s
  let s := ((s.setFld (.HST_RING_CFG x) F.HST_RING_CFG_EN 0).setRingState x 0).putRing x freshRing
  if x < 32 then s
  else { s with frames := s.frames.filter fun kv =>
    !(kv.2.fromHost && kv.2.port + 32 == x && kv.2.stage != Stage.queued && kv.2.stage != Stage.dropped) }

/-- PCIE_LINK_LOSS (R454). Every event but a Function Level Reset takes the link down. -/
def execPcieLinkLoss (cause : PcieLoss) (s : State) : Answer :=
  .next (
    let s := ((List.range 64).foldl State.ringLost s).checkEpoch
    let s := ((s.sessions.filter fun kv => kv.2.chan.isSome).map Prod.fst).foldl State.closeSession s
    let s := (List.range 128).foldl (fun (s : State) i =>
      (s.irqBind i none).setFld (.HST_IRQ_SRC i) F.HST_IRQ_SRC_IN_SERVICE 0) s.unbindWindow
    let s := { s with irq := { s.irq with prios := [], notified := 0, pba := 0, vmask := 255, table := [] } }
    let s := (s.setFld .HST_PCIE_STATUS F.HST_PCIE_STATUS_MSIX_EN 0).setFld .HST_PCIE_STATUS F.HST_PCIE_STATUS_FUNC_MASK 0
    let s := match cause with
      | .functionReset => s
      | _ => ((s.setFld .HST_PCIE_STATUS F.HST_PCIE_STATUS_LINK_UP 0).setFld .HST_PCIE_STATUS
          F.HST_PCIE_STATUS_SPEED 0).setFld .HST_PCIE_STATUS F.HST_PCIE_STATUS_WIDTH 0
    (s.setFld .HST_PCIE_STATUS F.HST_PCIE_STATUS_LINK_LOST 1).irqSettle)

/-- PCIE_LINK_UP (R452, R479). -/
def execPcieLinkUp (speed width : Nat) (s : State) : Answer :=
  .next (((s.setFld .HST_PCIE_STATUS F.HST_PCIE_STATUS_LINK_UP 1).setFld .HST_PCIE_STATUS F.HST_PCIE_STATUS_SPEED
    speed).setFld .HST_PCIE_STATUS F.HST_PCIE_STATUS_WIDTH width)

/-- SVC_LINK_CHANGE (R472, R479). -/
def execSvcLinkChange (up lock : Bool) (s : State) : Answer :=
  .next (
    let lock := lock && s.svcOn
    let up := if up && lock then 1 else 0
    let was := s.fld .HST_SVC_STATUS F.HST_SVC_STATUS_LINK_UP
    let s := (s.setFld .HST_SVC_STATUS F.HST_SVC_STATUS_BLOCK_LOCK (if lock then 1 else 0)).setFld .HST_SVC_STATUS
      F.HST_SVC_STATUS_LINK_UP up
    if up = was then s else (s.setFld .HST_SVC_STATUS F.HST_SVC_STATUS_LINK_CHANGED 1).irqEvent 41)

end Sys2Proof.Machine
end

