-- ==== Sys2Proof/Machine/Osc.lean ====
section
/-! DEFINITION. Qualification of the oven oscillator (R70, R71, R80, R81), from start-up step 3 on; after a reset of its block the gates run anew. -/
namespace Sys2Proof.Machine

def State.oscCfg (s : State) (f : Fld) : Nat := s.fld .TIM_OSC_QUAL_CFG f
def State.setOsc (s : State) (f : Fld) (v : Nat) : State := s.setFld .TIM_OSC_QUAL_STATUS f v

/-- Start-up step 8 has begun, and start-up has not ended in RECOVERY or a halt. -/
def State.stepEight (s : State) : Bool := s.boot.begun && decide (8 ≤ s.bootStep) && decide (s.bootStep ≤ 0xA)

/-- A change of STATE that begins a new count of passing gates. -/
def State.oscGo (s : State) (v : Nat) : State :=
  let s := (s.setOsc F.TIM_OSC_QUAL_STATUS_STATE v).setOsc F.TIM_OSC_QUAL_STATUS_PASSED 0
  { s with boot := { s.boot with lastGate := none } }

/-- The rows of R71 that OCXO_WARM and TIM_OSC_QUAL_CFG move. Log 120: with WARM_USE = 1 the state is WAIT_WARM whenever the pin has
not held its warm level, also where WARM_USE itself has turned 1. -/
def State.oscEval (s : State) : State :=
  let cold := s.oscCfg F.TIM_OSC_QUAL_CFG_WARM_USE == 1 && !s.boot.ocxoPin
  if s.oscState = 1 ∧ s.stepEight ∧ !cold then s.oscGo 2
  else if s.oscState = 2 ∧ cold then s.oscGo 1
  else s

/-- Where WARM_POL differs from what it was in `was`, the warm level is counted anew (R71). -/
def State.polNoted (was s : State) : State :=
  if was.oscCfg F.TIM_OSC_QUAL_CFG_WARM_POL = s.oscCfg F.TIM_OSC_QUAL_CFG_WARM_POL then s
  else { s with boot := { s.boot with ocxoPin := false } }

/-- TIM_OSC_QUAL_CFG has been written; `old` is what it held. After a change of WARM_POL the warm level is counted anew. -/
def State.oscCfgWritten (s : State) (old : Word) : State :=
  if s.oscState = 3 then s
  else
    let s := if F.TIM_OSC_QUAL_CFG_WARM_POL.get old = s.oscCfg F.TIM_OSC_QUAL_CFG_WARM_POL then s
      else { s with boot := { s.boot with ocxoPin := false } }
    s.oscEval

/-- Saffron's tick starts (R42, R319), and with it the first calibration rotation (R411); nothing where it runs. The first
strobes are at 1,000 ns and 10^6 ns of T (R321). -/
def State.startTick (s : State) : State :=
  if s.tim.ticking then s
  else
    ({ s with tim := { s.tim with ticking := true, nextStw := 1000, nextServo := 1000000 },
              tic := { s.tic with first := true } }).calRotation

/-- OSC_PRESENCE_GATE: a gate of 10 ms ends, with OCXO_IN measured `ppb` from 10 MHz; none where it is absent. A failure is one of
start-up only within step 3 (R72). -/
def execOscPresenceGate (ppb : Option Int) (s : State) : Answer :=
  .next (
    if !s.boot.begun || decide (s.bootStep < 3) || decide (0xB < s.bootStep) || s.oscState != 0 then s
    else
      let good := match ppb with | some x => decide (x.natAbs ≤ 200000) | none => false
      if good then
        (({ s with boot := { s.boot with gateFails := 0 } }).startTick.setOsc F.TIM_OSC_QUAL_STATUS_STATE 1).oscEval
      else
        let n := s.boot.gateFails + 1
        let s := { s with boot := { s.boot with gateFails := n } }
        if n < 3 then s
        else
          let t := (s.startTick.setOsc F.TIM_OSC_QUAL_STATUS_STATE 4).raise Ev.ocxoAbsent 0 0
          if s.bootStep = 3 then t.degrade else t)

/-- OSC_STABILITY_GATE: a gate of 1 s ends with a fractional frequency of `deci` tenths of a ppb. -/
def execOscStabilityGate (deci : Int) (s : State) : Answer :=
  .next (
    if s.oscState ≠ 2 then s
    else
      let was := s.boot.lastGate
      let s := { s with boot := { s.boot with lastGate := some deci } }
      match was with
      | none => s
      | some b =>
        let d := deci - b
        let s := s.setOsc F.TIM_OSC_QUAL_STATUS_LAST_DELTA (max (-32767) (min 32767 d) % 65536).toNat
        if 10 * s.oscCfg F.TIM_OSC_QUAL_CFG_LIMIT < d.natAbs then s.setOsc F.TIM_OSC_QUAL_STATUS_PASSED 0
        else
          let n := min 255 (s.fld .TIM_OSC_QUAL_STATUS F.TIM_OSC_QUAL_STATUS_PASSED + 1)
          let s := s.setOsc F.TIM_OSC_QUAL_STATUS_PASSED n
          if n < s.oscCfg F.TIM_OSC_QUAL_CFG_COUNT then s
          else (s.setOsc F.TIM_OSC_QUAL_STATUS_STATE 3).eventClear Ev.ocxoSlow 0)

/-- OCXO_WARM_HELD: OCXO_WARM has held its warm level for 1 s. -/
def execOcxoWarmHeld (s : State) : Answer := .next ({ s with boot := { s.boot with ocxoPin := true } }).oscEval

/-- OCXO_WARM_LOST: OCXO_WARM leaves its warm level. -/
def execOcxoWarmLost (s : State) : Answer := .next ({ s with boot := { s.boot with ocxoPin := false } }).oscEval

/-- OCXO_SLOW: TIMEOUT minutes have passed since step 8 began (once). -/
def execOcxoSlow (s : State) : Answer :=
  .next (
    if s.stepEight && (s.oscState == 1 || s.oscState == 2) && s.oscCfg F.TIM_OSC_QUAL_CFG_TIMEOUT != 0 &&
        s.fld .TIM_OSC_QUAL_STATUS F.TIM_OSC_QUAL_STATUS_SLOW == 0 then
      (s.setOsc F.TIM_OSC_QUAL_STATUS_SLOW 1).raise Ev.ocxoSlow 0 0
    else s)


end Sys2Proof.Machine
end

