-- ==== Sys2Proof/Machine/Access.lean ====
section
/-! DEFINITION. Reads and writes of registers (R6 to R10, R86, R97, R98, R500 to R506): what each path reaches, the order of
the checks of a write, what a write starts, the fields that are computed when they are read, and reads that act. -/
namespace Sys2Proof.Machine

/-- Whose access it is: nobody's (the unbound window, the test access port), or a session's, by HANDLE and role. -/
inductive Who where
  | anon
  | sess (h role : Nat)
  deriving DecidableEq, Repr

def Who.role : Who → Nat
  | .anon => 0
  | .sess _ r => r

def Who.handle : Who → Nat
  | .anon => 0
  | .sess h _ => h

/-- The identity registers (R508). -/
def Reg.identity : Reg → Bool
  | .STW_ID_FAMILY => true
  | .STW_ID_STEPPING => true
  | .STW_ID_CL => true
  | .STW_ID_PCI => true
  | .STW_ID_SERIAL_L => true
  | .STW_ID_SERIAL_H => true
  | .STW_ID_LOT => true
  | .STW_ID_DIE => true
  | .STW_ID_MAC_L => true
  | .STW_ID_MAC_H => true
  | .STW_ID_FUSE => true
  | .STW_BOOT_STATUS => true
  | _ => false

/-- The mailbox channel registers and HST_WIN_STATUS (R93, R99). -/
def Reg.channel : Reg → Bool
  | .HST_MBX_DOORBELL _ => true
  | .HST_MBX_STATE _ => true
  | .HST_MBX_REQ _ _ => true
  | .HST_MBX_RSP _ _ => true
  | .HST_WIN_STATUS => true
  | _ => false

/-- What a recovery session may read (R73, R86). -/
def Reg.recovery (r : Reg) : Bool :=
  r.identity || (match r with
    | .STW_BANK_STATE _ => true
    | .STW_BANK_SEQ _ => true
    | .STW_BOOT_STEP_TIME _ => true
    | .STW_RESET_CTL => true
    | _ => false)

/-- The fields that an access may see and set: E fields in Expert sessions, and to a recovery session those of
STW_RESET_CTL (R10, R86). -/
def Who.seesE (w : Who) (r : Reg) : Bool := w.role == 3 || (w.role == 4 && r == .STW_RESET_CTL)

def eMask (w : Who) (r : Reg) : Word := if w.seesE r then 0#32 else r.maskOf fun f => f.lvl == .e

/-- The bits of a register that a written word sets: RW, RWL and ST fields. A W1C, W1S or WO field acts on the word instead. -/
def Reg.heldMask (r : Reg) : Word := r.maskOf fun f => f.acc == .rw || f.acc == .rwl || f.acc == .st

/-- Bits of the register through which an access outside an Expert session may act (R504). -/
def Reg.actMask (r : Reg) (w : Who) : Word :=
  (r.maskOf fun f => f.acc != .ro) &&& ~~~(eMask w r)

/-! ## What a block reset leaves of device-wide fields (R51) -/

/-- A register's word as its fields show it: those that a block reset has put at Reset read so until the device stores them anew
(R51). -/
def State.shown (s : State) (r : Reg) : Word :=
  let m := s.resetBits r
  (s.committed r &&& ~~~m) ||| (r.resetWord &&& m)

/-! ## Reads -/

def bitOf (b : Bool) : Nat := if b then 1 else 0

/-- A register's word with the fields that are computed when read. -/
def State.rawWord (s : State) (l : Latch) (r : Reg) : Word :=
  let base := s.shown r
  match r with
  | .LNE_LANE_STATUS n => if Config.envelope s.tim.tick n then F.LNE_LANE_STATUS_SIGNAL.set base 1 else base
  | .HST_RING_STATUS x => F.HST_RING_STATUS_HELD.set base (bitOf (s.ring x).held.isSome)
  | .HST_IRQ_SRC i => if irqAssigned i then F.HST_IRQ_SRC_PENDING.set base (bitOf (s.irqPending i)) else 0
  | .HST_IRQ_PEND j => BitVec.ofNat 32 (((List.range 32).map fun b => if s.irqPending (32 * j + b) then 2 ^ b else 0).sum)
  | .HST_IRQ_TGT_STATUS t =>
      let st := s.irqStack t
      let base := F.HST_IRQ_TGT_STATUS_CURRENT.set base (match st with | [] => 0 | (p, _) :: _ => p)
      let base := F.HST_IRQ_TGT_STATUS_DEPTH.set base st.length
      let base := F.HST_IRQ_TGT_STATUS_NOTIFIED.set base (bitOf (s.irq.notified.testBit t))
      F.HST_IRQ_TGT_STATUS_DELIVERABLE.set base (bitOf (s.claimable t).isSome)
  | .STW_EPOCH_STATUS =>
      let base := F.STW_EPOCH_STATUS_WAITING.set base (bitOf (s.jobs.any fun j => !j.started))
      F.STW_EPOCH_STATUS_QUEUED.set base (min 8 s.jobs.length)
  | .STW_PAIR_STATUS =>
      F.STW_PAIR_STATUS_GIVEUPS_B.set (F.STW_PAIR_STATUS_GIVEUPS_A.set base (min 3 (s.giveUps 0))) (min 3 (s.giveUps 1))
  | .PIP_DPI_STATUS sl => F.PIP_DPI_STATUS_OCCUPANCY.set base (s.dpiOcc sl)
  | .FWD_ENTRIES => BitVec.ofNat 32 s.keysHeld
  | .FWD_LEARNED_ENTRIES => BitVec.ofNat 32 s.learnedHeld
  | .FWD_CARAWAY_STATUS =>
      let base := F.FWD_CARAWAY_STATUS_FLUSH_BUSY.set base
        (bitOf s.fwd.flushCmd.isSome)
      F.FWD_CARAWAY_STATUS_AGING_HELD.set base (bitOf (s.running && s.agingHeld))
  | .SWC_Q_STATUS q =>
      let base := F.SWC_Q_STATUS_OCC.set base (s.qOcc q)
      let base := F.SWC_Q_STATUS_SPILLED.set base (bitOf (decide (0 < s.qSpilled q)))
      let base := F.SWC_Q_STATUS_BELOW_MIN.set base (bitOf (s.belowMin q))
      F.SWC_Q_STATUS_LATE.set base (bitOf (s.queueLate q))
  | .SWC_BUF_STATUS => F.SWC_BUF_STATUS_SHARED_FREE.set base (if s.running then s.sharedFree else 0)
  | .SWC_SPILL_STATUS =>
      F.SWC_SPILL_STATUS_REFUSING.set base (bitOf (match s.swc.refusedAt with
        | some t => decide (s.tim.tick - t ≤ 1000000)
        | none => false))
  | .SWC_SPILL_CELLS => BitVec.ofNat 32 (((List.range 4).map s.spillUsed).sum)
  | .TIM_SAF_INC_L => BitVec.ofInt 32 s.inc
  | .TIM_SAF_INC_H => BitVec.ofInt 32 (s.inc / 2 ^ 32)
  | .TIM_PORT_STATUS p =>
      let base := F.TIM_PORT_STATUS_PH_VALID.set base (bitOf (s.phValid p))
      F.TIM_PORT_STATUS_GATE_ACTIVE.set (F.TIM_PORT_STATUS_GATE_PENDING.set base (bitOf (s.gate p).pend.isSome))
        (bitOf (s.gateActive p))
  | .TIM_REF_STATUS k => F.TIM_REF_STATUS_BW_USED.set base (if s.refState k = 0 then 0 else s.bwUsed k)
  | .TIM_TIC_STATUS k => F.TIM_TIC_STATUS_CAL_STALE.set base (bitOf (s.calStale k))
  | .HLT_HEALTH_STATUS => s.healthStatus
  | .HLT_SPARES => s.sparesWord
  | .HLT_CNT_VAL_H => l.valH
  | .HLT_CNT_TIME_L => l.timeL
  | .HLT_CNT_TIME_H => l.timeH
  | .HLT_CNT_FLAGS => l.flags
  | _ => base

def freshLatch : Latch := ⟨0, 0, 0, 0⟩

/-- The counter latch of an access. -/
def State.latchOf (s : State) (w : Who) : Latch := match s.session w.handle with | some x => x.latch | none => freshLatch

/-- A read of a counter word (R490): bits 31 to 0 of the sample; the rest goes to the session's latch. -/
def State.readCounter (s : State) (w : Who) (id : Nat) : State × Word :=
  let x := s.sample id
  let l : Latch := if x.1 = 0 then
      ⟨(x.2.val >>> 32).setWidth 32, BitVec.ofNat 32 s.nowNs, s.stepTime s.nowNs, BitVec.ofNat 32 (4 * bitOf x.2.wrap)⟩
    else ⟨0, 0, 0, BitVec.ofNat 32 x.1⟩
  match s.session w.handle with
  | some se => (s.putSession w.handle { se with latch := l }, x.2.val.setWidth 32)
  | none => (s, x.2.val.setWidth 32)

/-- A read with its action: latches, claims and FIFOs. -/
def State.readActing (s : State) (w : Who) (r : Reg) : State × Word :=
  match r with
  | .CNT id => s.readCounter w id
  | .HST_IRQ_CLAIM t => let x := s.irqClaim t; (x.1, BitVec.ofNat 32 x.2)
  | .TIM_SAF_TIME_F =>
      let ns := s.nowNs
      ((s.put .TIM_SAF_TIME_L (BitVec.ofNat 32 ns)).put .TIM_SAF_TIME_H (BitVec.ofNat 32 (ns / 2 ^ 32)),
        BitVec.ofNat 32 (s.now16 % 65536))
  | .TIM_TIC_RES_ST k => s.readResult k
  | _ => (s, s.rawWord (s.latchOf w) r)

/-- A read of a register (R7, R10, R25): the word as this access sees it. -/
def State.readReg (s : State) (w : Who) (r : Reg) : State × Word :=
  if !s.instIn s.curSel r then (s, 0)
  else
    let x := s.readActing w r
    let seen := r.fieldMask &&& ~~~(r.maskOf fun f => f.acc == .wo) &&& ~~~(eMask w r)
    (x.1, x.2 &&& seen)

/-- A read of an address by a session: its status (R91, R502, R86) and the word. -/
def State.readAddr (s : State) (w : Who) (a : Nat) : State × Nat × Word :=
  match decodeAddr a with
  | none => (s, Stat.address, 0)
  | some r =>
    if w.role = 4 ∧ !r.recovery then (s, Stat.role, 0)
    else
      let x := s.readReg w r
      (x.1, 0, x.2)

/-! ## Checks of a write -/

/-- The command registers of a table that hold an operation's arguments: the table of `tblOwner` (R226). -/
def argTable : Reg → Option Nat
  | .PIP_TBL_CMD sl => some sl
  | .PIP_TBL_DATA sl _ => some sl
  | .FWD_TBL_CMD => some 8
  | .FWD_TBL_DATA _ => some 8
  | .SWC_TBL_CMD => some 9
  | .SWC_TBL_INDEX => some 9
  | .SWC_TBL_DATA _ => some 9
  | .TIM_TBL_CMD => some 10
  | .TIM_TBL_DATA _ => some 10
  | _ => none

/-- What R470 and R480 refuse of a ring's registers: `v` is the word that would be held. -/
def State.ringWriteOk (s : State) (r : Reg) (v : Word) : Bool :=
  match r with
  | .HST_RING_CFG x =>
      s.ringState x == 0 ||
      (F.HST_RING_CFG_SIZE_LOG2.get v == s.fld (.HST_RING_CFG x) F.HST_RING_CFG_SIZE_LOG2 &&
       F.HST_RING_CFG_BUF.get v == s.fld (.HST_RING_CFG x) F.HST_RING_CFG_BUF &&
       !(s.ringState x == 2 && F.HST_RING_CFG_EN.get v == 1))
  | .HST_RING_BASE_L x => s.ringState x == 0 || s.get (.HST_RING_BASE_L x) == v
  | .HST_RING_BASE_H x => s.ringState x == 0 || s.get (.HST_RING_BASE_H x) == v
  | .HST_RING_TAIL _ => s.tailOk r v
  | .HST_RING_ACK x =>
      s.ringState x == 0 ||
      (decide (v.toNat < s.ringSize x) &&
       decide ((v.toNat + s.ringSize x - s.ringAck x) % s.ringSize x ≤
         (s.ringCptr x + s.ringSize x - s.ringAck x) % s.ringSize x))
  | _ => true

/-- The word that a session's write comes to (R504): outside an Expert session each E field keeps its value, and none of them acts. -/
def State.keepE (s : State) (w : Who) (r : Reg) (v : Word) : Word :=
  (v &&& ~~~(eMask w r)) ||| (s.committed r &&& eMask w r &&& r.heldMask)

/-- The checks of a session's write (R86, R502, R504, R505, R7), in their order: a status, or the register and the word. -/
def State.checkWrite (s : State) (w : Who) (a : Nat) (v : Word) : Nat ⊕ (Reg × Word) :=
  if w.role = 1 then .inl Stat.role
  else match decodeAddr a with
    | none => .inl (if w.role = 4 then Stat.role else Stat.address)
    | some r =>
      if w.role = 4 ∧ r ≠ .STW_RESET_CTL then .inl Stat.role
      else
        let em := eMask w r
        let cur := s.committed r
        if v &&& em ≠ 0 then .inl Stat.level
        else if !r.writable then .inl Stat.address
        else
          let m := s.keepE w r v
          let rwl := r.maskOf fun f => f.acc == .rwl
          if (v &&& ~~~r.fieldMask) ≠ 0 ∨ !r.fieldsOk m ∨ !s.ringWriteOk r m then .inl Stat.value
          else if s.running ∧ (m ^^^ cur) &&& rwl ≠ 0 then .inl Stat.rwlLocked
          else .inr (r, m)

/-! ## What a write does -/

/-- The word that a register holds after a direct write of `m` (R7): RW and RWL fields take their values, W1C bits clear, W1S
bits set, WO bits are not held. -/
def Reg.written (r : Reg) (old m : Word) : Word :=
  let set := r.maskOf fun f => f.acc == .rw || f.acc == .rwl
  let clr := r.maskOf fun f => f.acc == .w1c
  let one := r.maskOf fun f => f.acc == .w1s
  (((old &&& ~~~set) ||| (m &&& set)) &&& ~~~(m &&& clr)) ||| (m &&& one)

/-- GO is written on a channel (R94): the request is submitted. One that no row of R90 lists is answered here, and while
STEWARD_LOST holds the channel answers STATE (R426). -/
def State.submit (s : State) (c : Nat) : State :=
  let s := s.setFld (.HST_MBX_DOORBELL c) F.HST_MBX_DOORBELL_GO 1
  if s.stewardLost then s.respond (.mbx c) Stat.state 0 []
  else if s.pair.cause.isSome then s
  else s.answerUnlisted c

/-- GO is written in the command registers of table `t`: the operation belongs to session `h`; an unassigned OP ends at
once. -/
def State.submitTable (s : State) (h t : Nat) : State :=
  let s := { s with tblOwner := sinsert s.tblOwner t h }
  if cmdOpListed t (s.cmdOp t) then s else s.cmdTake t |>.cmdEnd t 1 0

/-- SWC_HIST_CFG has been written (R499). -/
def State.histWritten (s : State) (p : Nat) (old : Word) : State :=
  let new := s.get (.SWC_HIST_CFG p)
  if F.SWC_HIST_CFG_CLASSES.get old = F.SWC_HIST_CFG_CLASSES.get new ∧
      F.SWC_HIST_CFG_MIN_EXP.get old = F.SWC_HIST_CFG_MIN_EXP.get new then s
  else
    (s.clearCounters fun id => decide (C.latHist p 0 ≤ id) && decide (id < C.latHist (p + 1) 0)).setFld
      (.SWC_HIST_CFG p) F.SWC_HIST_CFG_GEN (F.SWC_HIST_CFG_GEN.get old + 1)

/-- HLT_AVS_CFG has been written: the request stays within FLOOR to CEIL, and with EN = 0 is FLOOR (R435, R437). -/
def State.avsWritten (s : State) : State :=
  if s.avs F.HLT_AVS_STATUS_REQUEST = 0 then s
  else
    let lo := s.avsCfg F.HLT_AVS_CFG_FLOOR
    let hi := s.avsCfg F.HLT_AVS_CFG_CEIL
    let mv := if s.running ∧ s.avsCfg F.HLT_AVS_CFG_EN = 0 then lo else max lo (min hi (s.avs F.HLT_AVS_STATUS_REQUEST))
    s.setRequest mv

/-- HST_IRQ_SRC has been written: a source that turns from level to edge keeps what it was pending for (R473). -/
def State.irqSrcWritten (s : State) (i : Nat) (old : Word) : State :=
  (if F.HST_IRQ_SRC_SENSE.get old = 0 ∧ s.src i F.HST_IRQ_SRC_SENSE = 1 then
    s.setFld (.HST_IRQ_SRC i) F.HST_IRQ_SRC_PENDING (bitOf (s.irqCond i)) else s).irqSettle

/-- A trigger unit's EN changes (R340). -/
def State.trigWritten (s : State) (k : Nat) (old : Word) : State :=
  let was := F.TIM_TRIG_CTRL_EN.get old
  let now := s.fld (.TIM_TRIG_CTRL k) F.TIM_TRIG_CTRL_EN
  if was = 0 ∧ now = 1 then s.armTrigger k else if was = 1 ∧ now = 0 then s.stopTrigger k else s

/-- What a direct write starts, beyond the word held: `old` is what the register held, `m` what was written. -/
def State.writeAction (s : State) (h : Nat) (r : Reg) (old m : Word) : State :=
  match r with
  | .STW_RESET_CTL =>
      if F.STW_RESET_CTL_RELOAD.get m = 1 then { s with boot := { s.boot with resetReq := some 3 } }
      else if F.STW_RESET_CTL_WARM.get m = 1 then { s with boot := { s.boot with resetReq := some 2 } }
      else s
  | .TIM_OSC_QUAL_CFG => s.oscCfgWritten old
  | .HST_MBX_DOORBELL c =>
      let s := s.irqSettle
      if F.HST_MBX_DOORBELL_GO.get m = 0 then s
      else if F.HST_MBX_DOORBELL_GO.get old = 1 then s.setFld (.HST_MBX_DOORBELL c) F.HST_MBX_DOORBELL_OVERRUN 1
      else s.submit c
  | .HST_WIN_STATUS => s.irqSettle
  | .LNE_LANE_CFG n => s.laneCfgWritten n old
  | .LNE_LANE_TXFFE_SET n => s.loadTaps n
  | .PRT_PFC_WM p => s.pauseEval p
  | .FWD_CARAWAY_CFG =>
    if s.fld .FWD_CARAWAY_CFG F.FWD_CARAWAY_CFG_PERIOD = 0 then { s with fwd := { s.fwd with agingDue := false } } else s
  | .PIP_TBL_CMD sl => if F.PIP_TBL_CMD_GO.get m = 1 then s.submitTable h sl else s
  | .FWD_TBL_CMD => if F.FWD_TBL_CMD_GO.get m = 1 then s.submitTable h 8 else s
  | .SWC_TBL_CMD => if F.SWC_TBL_CMD_GO.get m = 1 then s.submitTable h 9 else s
  | .TIM_TBL_CMD => if F.TIM_TBL_CMD_GO.get m = 1 then s.submitTable h 10 else s
  | .FWD_REHASH_CTL => if F.FWD_REHASH_CTL_GO.get m = 1 then (s.put .FWD_REHASH_CTL old).rehashStart else s
  | .FWD_HASH_STATUS =>
      if F.FWD_HASH_STATUS_NEEDED.get old = 1 ∧ F.FWD_HASH_STATUS_NEEDED.get m = 1 then s.eventClear Ev.rehashNeeded 0 else s
  | .TIM_SAF_CMD => s.safTake (F.TIM_SAF_CMD_OP.get m)
  | .TIM_ENG_CTL => if F.TIM_ENG_CTL_SWAP.get m = 1 then s.engineSwap else s
  | .TIM_TRIG_CTRL k => s.trigWritten k old
  | .TIM_REF_CFG k => s.refCfgWritten k old
  | .TIM_HO_CFG => s.hoCfgWritten
  | .TIM_TIC_CFG k => s.ticCfgWritten k old (s.get (.TIM_TIC_CFG k))
  | .TIM_TIC_CFG2 k => s.ticCfgWritten k old (s.get (.TIM_TIC_CFG2 k))
  | .STW_PAIR_CTL => if F.STW_PAIR_CTL_SWAP.get m = 1 then s.stewardSwap else s
  | .HLT_AVS_CFG => s.avsWritten
  | .HST_RING_CFG x => s.ringCfgWritten x
  | .HST_RING_ACK x => s.ringAckWritten x
  | .HST_RING_IRQ _ => s.irqSettle
  | .HST_IRQ_SRC i => s.irqSrcWritten i old
  | .HST_IRQ_TGT_CFG _ => s.irqSettle
  | .HST_IRQ_EOI t => s.irqEoi t m
  | .SWC_HIST_CFG p => s.histWritten p old
  | _ => s

/-- A direct write is discarded: a request or an operation's arguments while GO = 1 (R94, R226). -/
def State.discardWrite (s : State) (r : Reg) : Option State :=
  match r with
  | .HST_MBX_REQ c _ =>
      if s.fld (.HST_MBX_DOORBELL c) F.HST_MBX_DOORBELL_GO = 1 then
        some (s.setFld (.HST_MBX_DOORBELL c) F.HST_MBX_DOORBELL_OVERRUN 1) else none
  | .HST_IRQ_SRC i => if irqAssigned i then none else some s
  | _ => match argTable r with
    | some t => if s.cmdGo t then some (s.setFld (statusReg t) F.PIP_TBL_STATUS_OVERRUN 1) else none
    | none => none

/-- A write of RW, W1C, W1S, WO and RWL fields, made at once (R7), unless its index is no port (R25) or it is discarded. -/
def State.directWrite (s : State) (h : Nat) (r : Reg) (m : Word) : State :=
  if !s.instIn s.curSel r then s
  else match s.discardWrite r with
    | some t => t
    | none =>
      let old := s.get r
      ((s.put r (r.written old m)).noteImage r).writeAction h r old m

/-- A hash seed before step 9 (R547): staged in an open transaction; otherwise every entry is placed anew at once. -/
def State.seedWrite (s : State) (h : Nat) (r : Reg) (m : Word) : State × Nat :=
  if (s.txnOf h).isSome then s.stageReg h r m
  else
    let sd := if r = .FWD_HASH_SEED1 then (m.toNat, (s.get .FWD_HASH_SEED2).toNat)
      else ((s.get .FWD_HASH_SEED1).toNat, m.toNat)
    if sd = s.seedRegs then (s.noteImage r, 0)
    else
      let t := s.seedRebuild sd
      if t.2 then (t.1.noteImage r, 0) else (t.1.rehashNeeded, Stat.table)

/-- A session's register write (R91, R101, R102): its status. -/
def State.writeAddr (s : State) (w : Who) (a : Nat) (v : Word) : State × Nat :=
  match s.checkWrite w a v with
  | .inl st => (s, st)
  | .inr (r, m) =>
    if r.isST then s.stageReg w.handle r (m &&& r.maskOf fun f => f.acc == .st)
    else if (r = .FWD_HASH_SEED1 ∨ r = .FWD_HASH_SEED2) ∧ !s.running then s.seedWrite w.handle r m
    else if r.actMask w = 0 then (s, 0)
    else (s.directWrite w.handle r m, 0)

/-! ## Paths without a status: the window and the test access port -/

/-- The device is halted at step 2 or 3 (R72, R546). -/
def State.halted (s : State) : Bool := s.bootStep == 0xC || s.bootStep == 0xD

/-- Step 2 has ended: the identity registers respond (R68). -/
def State.stepTwoDone (s : State) : Bool := s.boot.begun && decide (3 ≤ s.bootStep)
def State.stepFourDone (s : State) : Bool := s.boot.begun && decide (5 ≤ s.bootStep)

/-- A refused window access (R98). -/
def State.winRefuse (s : State) (st : Nat) : State :=
  let was := s.irqCond 40
  let s := (s.setFld .HST_WIN_STATUS F.HST_WIN_STATUS_ERROR 1).setFld .HST_WIN_STATUS F.HST_WIN_STATUS_LAST_STATUS st
  (s.count C.winErrors).irqRise 40 was

/-- Who a window access is: the holder of the window, or nobody. -/
def State.winWho (s : State) : Who := match s.winHolder with | some (h, x) => .sess h x.role | none => .anon

/-- A register that answers without a session (R10, R97, R538). -/
def Reg.open' (r : Reg) : Bool := r.identity || r.channel

/-- Nobody's write: a channel register or HST_WIN_STATUS takes it if the value is valid; anything else is discarded. -/
def State.anonWrite (s : State) (a : Nat) (v : Word) : State :=
  match decodeAddr a with
  | some r => if r.channel && r.writable && r.valueOk v then s.directWrite 0 r v else s
  | none => s

/-- Nobody's read: the registers that answer without a session, else zero. -/
def State.anonRead (s : State) (a : Nat) : State × Word :=
  match decodeAddr a with
  | some r => if r.open' then s.readReg .anon r else (s, 0)
  | none => (s, 0)

/-- A window access waits for the new active steward (R424). -/
def State.awaitStw (s : State) (a : Nat) (v : Option Word) : State :=
  { s with pair := { s.pair with waiting := s.pair.waiting ++ [(a, v)] } }

/-- A write through the window or the test access port. Between a give-up and the take-over the channel hardware takes a write
of its own registers, and any other waits for the new active steward (R423, R424). -/
def State.pathWrite (s : State) (p : RegPath) (a : Nat) (v : Word) : State :=
  if !s.stepTwoDone || s.halted then s
  else match p with
    | .jtag => if s.stepFourDone then s.anonWrite a v else s
    | .window =>
      if s.stewardLost then
        match decodeAddr a with
        | some r => if r.channel then s.anonWrite a v else s.winRefuse Stat.state
        | none => s.winRefuse Stat.state
      else if s.pair.cause.isSome then
        match decodeAddr a with
        | some r => if r.channel then s.anonWrite a v else s.awaitStw a (some v)
        | none => s.awaitStw a (some v)
      else match s.winWho with
        | .anon => s.anonWrite a v
        | w =>
          let x := s.writeAddr w a v
          if x.2 = 0 then x.1 else x.1.winRefuse x.2

/-- A read through the window or the test access port. -/
def State.pathRead (s : State) (p : RegPath) (a : Nat) : State × Word :=
  let idOnly (a : Nat) : State × Word := match decodeAddr a with
    | some r => if r.identity then s.readReg .anon r else (s, 0)
    | none => (s, 0)
  if !s.stepTwoDone then (s, 0)
  else if s.halted then idOnly a
  else match p with
    | .jtag => if s.stepFourDone then s.anonRead a else idOnly a
    | .window =>
      if s.stewardLost then s.anonRead a
      else match s.winWho with
        | .anon => s.anonRead a
        | w =>
          let x := s.readAddr w a
          if x.2.1 = 0 then (x.1, x.2.2) else (x.1.winRefuse x.2.1, 0)

/-- A register that the window reads with no steward. -/
def openAddr (a : Nat) : Bool := match decodeAddr a with | some r => r.open' | none => false

/-- A read by the window: what it returned is an output. Between a give-up and the take-over a read of what the steward serves
waits, and the new active one answers it (R424). -/
def State.readOut (s : State) (p : RegPath) (a : Nat) : State :=
  if p = .window && s.stepTwoDone && !s.halted && s.pair.cause.isSome && !openAddr a then s.awaitStw a none else
  let x := s.pathRead p a
  x.1.emit (.readData x.2)

end Sys2Proof.Machine
end

