-- ==== Sys2Proof/Machine/Blocks.lean ====
section
/-! DEFINITION. Block resets (R51, R52, R79): the registers of the block and the state behind them. -/
namespace Sys2Proof.Machine

/-- The number of a block: its addresses divided by 0x400 (R31). -/
def blockNo (d w b : Nat) : Nat := d * 4096 + w * 64 + b

/-- Fields whose Reset column reads "fuse": after a block reset they hold the fused values again (R507). -/
def Reg.fusedFields (r : Reg) : List Fld :=
  match r with
  | .STW_ID_CL => [F.STW_ID_CL_HIGHEST]
  | .STW_ID_STEPPING | .STW_ID_PCI | .STW_ID_SERIAL_L | .STW_ID_SERIAL_H | .STW_ID_LOT | .STW_ID_DIE | .STW_ID_MAC_L
  | .STW_ID_MAC_H | .STW_ID_FUSE => (r.fields.filter fun f => f.acc == .ro).map fun f => f.fld
  | _ => []

/-- The bits whose Reset column reads "img". -/
def Reg.imgMask (r : Reg) : Word := r.maskOf fun f => f.img

/-- The word stored in a register after a block reset: its Reset value, with "img" bits from the running image, "fuse" bits as
fused, and the bits by which the device goes. -/
def State.blockWord (s : State) (r : Reg) (old : Word) : Word :=
  let base := match s.boot.image with
    | some i => match sfind i.regs r.addr with
      | some v => (r.resetWord &&& ~~~r.imgMask) ||| (v &&& r.imgMask)
      | none => r.resetWord
    | none => r.resetWord
  let k := r.keptMask ||| maskOfFields r.fusedFields
  (base &&& ~~~k) ||| (old &&& k)

/-- The registers of a block that are listed in a store, or that the running image sets. -/
def State.blockRegs (s : State) (m : SMap Word) (n : Nat) : List Reg :=
  let img := match s.boot.image with | some i => i.regs | none => []
  let l := (m ++ img).filterMap fun kv => if kv.1 / 0x400 = n then decodeAddr kv.1 else none
  l.foldl (fun acc r => if acc.contains r then acc else r :: acc) []

/-- The kept fields of the block's registers read as Reset from now on, until the device stores them anew. -/
def State.maskBlock (s : State) (n : Nat) : State :=
  { s with masked := (s.blockRegs s.regs n).foldl (fun (m : SMap Word) r => sput 0#32 m r.addr r.keptMask) s.masked }

/-- Every register of block `n` after its reset; a commit that is being applied keeps its values in the free bank (R52). -/
def State.resetBlockRegs (s : State) (n : Nat) : State :=
  let t := ((s.blockRegs s.regs n).filter fun r => !r.isST).foldl (fun (t : State) r => t.put r (s.blockWord r (s.get r))) s
  let t := ((s.blockRegs s.st0 n).filter Reg.isST).foldl (fun (t : State) r => t.stPut 0 r (s.blockWord r 0#32)) t
  let t := ((s.blockRegs s.st1 n).filter Reg.isST).foldl (fun (t : State) r => t.stPut 1 r (s.blockWord r 0#32)) t
  match s.jobs with
  | j :: _ =>
    if j.started then j.regs.foldl (fun (t : State) kv => match decodeAddr kv.1 with
      | some r => if kv.1 / 0x400 = n && r.isST && t.instIn (1 - t.curSel) r then t.stPut (1 - t.curSel) r kv.2 else t
      | none => t) t
    else t
  | [] => t

/-- An interrupt target's stack and messages. -/
def State.clearTarget (s : State) (t : Nat) : State :=
  let s := (s.irqStack t).foldl (fun (s : State) x => s.setFld (.HST_IRQ_SRC x.2) F.HST_IRQ_SRC_IN_SERVICE 0) s
  { s with irq := { s.irq with
    prios := serase s.irq.prios t, notified := clrBit s.irq.notified t, pba := clrBit s.irq.pba t } }

/-- The active reference is lost with the slots' state (R367). -/
def State.clearSlots (s : State) : State :=
  let s := if s.activeSlot.isSome then s.setFld .TIM_SEL_STATUS F.TIM_SEL_STATUS_ACTIVE_VALID 0 else s
  { s with tim := { s.tim with slots := [] } }

/-- The random-drop registers as step 9 leaves them (R293). -/
def State.seedRed (s : State) : State :=
  let seed := s.fld .SWC_RED_CFG F.SWC_RED_CFG_SEED
  let l := (List.range 8).foldl (fun (m : SMap Nat) k => sput 0 m k (if seed ^^^ k = 0 then seed else seed ^^^ k)) []
  { s with swc := { s.swc with lfsr := l } }

/-- Queue state of a port's or block's queue `q` returns to its reset: average, deficit, tokens. -/
def State.clearQueue (s : State) (q : Nat) : State :=
  ({ s with swc := { s.swc with avg := serase s.swc.avg q, dc := serase s.swc.dc q } }).setTok q 0

/-- The open transactions are discarded, and the commits whose step 3 has not begun; each of these is answered NO_TXN (log 46). A
commit that has begun takes effect after the reset (R52). -/
def State.dropTxns (s : State) : State :=
  let waiting := s.jobs.filter fun j => !j.started
  let s := { s with jobs := s.jobs.filter fun j => j.started
                    sessions := s.sessions.map fun (kv : Nat × Session) => (kv.1, { kv.2 with txn := none }) }
  waiting.foldl (fun (s : State) j => s.respond j.reply Stat.noTxn 0 (s.commitPayload j.reply 0#32 0)) s

/-- The rows of a table are gone. -/
def State.clearRows (s : State) (t : Nat) : State := { s with rows := s.rows.filter fun kv => kv.1 / 2 ^ 20 != t }

/-- The exact-match entries are gone, in every copy and in tier 1, with an insert under way. -/
def State.clearEntries (s : State) : State :=
  { s with fwd := { s.fwd with copy0 := [], copy1 := [], hit := [], t1 := [], gone := [], job := none, touched := [], touching := [] } }

/-- What stands behind the block's registers, before they are reset (R51). -/
def State.clearBehind (s : State) (d w b : Nat) : State :=
  let ports : List Nat := blockLanes (16 * w + b)
  match d, w with
  | 0, 0 =>
    if b = 2 then { s with mbx := { s.mbx with queue := [], kept := [] } }
    else if b = 3 then { s with rxNext := 0, txNext := 0 } else s
  | 0, 1 =>
    if b = 8 then s.unbindWindow
    else match s.sessionOn b with
      | some (h, _) => s.closeSession h
      | none => s
  | 0, 2 => s.ringLost b
  | 0, 3 => if 1 ≤ b then s.clearTarget (b - 1) else { s with irq := { s.irq with ptr := 0 } }
  | 1, 0 =>
    if b = 4 then { s with boot := { s.boot with resetReq := none } }
    else if b = 5 then s.dropTxns
    else if b = 6 then { s with pair := { s.pair with giveA := [], giveB := [] } } else s
  | 2, _ =>
    if 8 ≤ w then s
    else if b = 16 then
      let t := s.toWait (sliceLanes w)
      let l := { t.lne with flits := serase t.lne.flits w, retrying := t.lne.retrying.filter (· != w) }
      { t with lne := l, tim := { t.tim with copies := serase t.tim.copies w } }
    else
      let s := ports.foldl (fun (s : State) n => s.goLane n 0) s
      { s with lne := { s.lne with loops := serase s.lne.loops (16 * w + b),
                                   lanes := ports.foldl (fun (m : SMap LaneSt) n => serase m n) s.lne.lanes } }
  | 3, _ =>
    if 8 ≤ w then s
    else
      let s := ports.foldl (fun (s : State) p =>
        if s.portState p = 3 then ((s.stompPort p).failReception p).count (C.portDown p) else s) s
      { s with ports := ports.foldl (fun (m : SMap PortSt) p => serase m p) s.ports }
  | 4, _ =>
    if 8 ≤ w then s
    else if b ≤ 7 then { s with deal := serase s.deal (8 * w + b) }
    else if b = 8 then ((s.cmdTake w).clearRows (0x10 + w)).clearRows (0x18 + w) else s
  | 5, _ =>
    if b = 0 then (s.cmdTake 8).clearEntries
    else if b = 1 then s.clearEntries
    else if b = 2 then { s with fwd := { s.fwd with t1 := [] } }
    else if b = 3 then
      let s := s.clearEntries
      { s with fwd := { s.fwd with
          learnQ := [], pass := none, pos := 0, serving := [], flushSet := [], again := [], flushCmd := none,
          cmdServed := false, agingDue := false } }
    else s
  | 6, 8 =>
    if b = 0 then { s with swc := { s.swc with gp := [], ap := [], rotPort := [], rotVoq := [] } }
    else if b = 1 then { s with swc := { s.swc with avg := [] } }
    else if b = 2 then { s with swc := { s.swc with bankRot := [], refusedAt := none } }
    else if b = 3 then (s.cmdTake 9).clearRows 0x30 else s
  | 6, _ =>
    if 16 ≤ b ∧ b ≤ 47 then
      ((List.range 64).map fun k => 2048 * w + 64 * (b - 16) + k).foldl State.clearQueue s
    else s
  | 7, 0 =>
    if b = 0 then { s with tim := { s.tim with cmd := none, slew := 0 } }
    else if b = 1 then { s with boot := { s.boot with lastGate := none, gateFails := 0 } }
    else if b = 2 then { s with tim := { s.tim with trigs := [] } } else s
  | 7, 1 => { s with tim := { s.tim with ptp := s.tim.ptp.filter fun kv => kv.1 / 32 != b,
                                         gates := s.tim.gates.filter fun kv => kv.1 / 32 != b } }
  | 7, 2 => if b = 1 then (s.cmdTake 10).clearRows 0x40 else s
  | 7, 3 =>
    if b = 0 then ({ s with tim := { s.tim with servo := 0, sel := { Sel.reset with store := s.tim.sel.store } } }).releaseActive
    else if b = 1 then s.clearSlots else s
  | 7, 4 =>
    if b ≤ 15 then { s with tic := { s.tic with chans := serase s.tic.chans b } }
    else { s with tic := { s.tic with todo := [], cand := none, tables := [] } }
  | 8, 0 =>
    if b = 0 then { s with hlt := { s.hlt with lastLog := [], raised := [] } }
    else if b = 1 then { s with hlt := { s.hlt with
      aboveRun := [], belowRun := [], neg := [], nonneg := [], declared := [], units := [], logical := [], swaps := [] } }
    else if b = 2 then { s with hlt := { s.hlt with downRun := 0, levelAt := none, avsFails := 0 } } else s
  | 8, 1 => { s with sessions := s.sessions.map fun kv => (kv.1, { kv.2 with latch := freshLatch }) }
  | _, _ => s

/-- Ports with a header in the gate table. -/
def State.gateHeaders (s : State) : List Nat :=
  s.rows.filterMap fun kv => if kv.1 / 2 ^ 20 = 0x40 ∧ kv.1 % 2 ^ 20 % 32 = 0 then some (kv.1 % 2 ^ 20 / 32) else none

/-- The schedules that the gate table holds for the ports become pending (R346). -/
def State.gatesHeld (s : State) (ps : List Nat) : State :=
  ps.foldl (fun (s : State) p => match s.schedOf s.curSel p with
    | some x => s.gatePending p x.1
    | none => s) s

/-- What starts again once the block's registers are reset: ports are DOWN, lanes wait for their group, the loops of the other
blocks take up their reset settings. -/
def State.resume (s : State) (d w b : Nat) : State :=
  match d, w with
  | 0, 3 => s.irqSettle
  | 2, _ =>
    if w < 8 ∧ b < 16 then
      let s := match sfind s.boot.fuses.bands (16 * w + b) with
        | some g => s.setGrp (16 * w + b) F.LNE_GRP_STATUS_GOOD_BAND g
        | none => s
      if s.grpEn (16 * w + b) ∧ 7 ≤ s.bootStep ∧ s.bootStep ≤ 0xA then
        ((blockLanes (16 * w + b)).foldl (fun (s : State) n => s.goLane n 2) s).settleBlock (16 * w + b)
      else s
    else if w < 8 ∧ b = 16 then (sliceBlocks w).foldl State.settleBlock s
    else s
  | 3, _ =>
    if w < 8 ∧ s.running then
      ((blockLanes (16 * w + b)).filter s.isPort).foldl (fun (s : State) p => s.setPortState p 1) s
    else s
  | 5, _ => s.goOn
  | 6, 8 => if b = 1 ∧ s.running then s.seedRed else s
  | 7, 1 =>
    let s := if s.running then (s.allPorts.filter fun p => p / 32 == b).foldl State.l1Eval s else s
    s.gatesHeld (s.gateHeaders.filter fun p => p / 32 == b)
  | 7, 3 => if b = 0 then s.holdoverEstimate.selFlags else s
  | 7, 4 => if b = 16 ∧ s.tim.ticking then ({ s with tic := { s.tic with first := true } }).calRotation else s
  | 8, 0 => if b = 2 then s.askRequest.avsWritten else s
  | _, _ => s

def State.blockFld (s : State) (d w b : Nat) (f : Fld) : Nat := s.fld (.BLKCTL d w b) f

/-- Frames that a block of the data path holds (R32, R52; log 47). A frame waits in the block that has dealt with it until the next
one takes it: in its port's from its first byte until a pipeline parses it, in its port group's until the search, in the search's
until the lookup, in the inspection engine, in the lookup while it reads tier 2, in its queues, the buffers, a transmit buffer, a
ring. -/
def State.blockHolds (s : State) (d w b : Nat) : Bool :=
  let some? (p : Frame → Bool) : Bool := s.frames.any fun kv => p kv.2
  match d, w with
  | 0, 2 => !(s.ring b).dq.isEmpty || (s.ring b).held.isSome ||
      some? fun f => f.fromHost && f.port + 32 == b && f.stage != Stage.queued
  | 3, _ => w < 8 &&
      (some? (fun f => !f.fromHost && !f.engine && (!f.ended || f.stage == Stage.admitted) && f.port / 8 == 16 * w + b) ||
       s.reps.any fun kv => portOf kv.2.q / 8 == 16 * w + b && decide (0 < kv.2.crossed))
  | 4, _ => w < 8 && some? fun f =>
      if b ≤ 7 then !f.fromHost && groupOf f.port == 8 * w + b && f.stage == Stage.parsed
      else f.slice == w && (if b = 8 then f.stage == Stage.lookup else f.stage == Stage.dpi || f.stage == Stage.recirc)
  | 5, _ => b == 2 && some? fun f => match f.stage with
      | .tier2 _ _ _ => true
      | _ => false
  | 6, 8 => b == 2 && !s.reps.isEmpty
  | 6, _ => s.reps.any fun kv => kv.2.q / 64 == 32 * w + b - 16
  | _, _ => false

/-- What keeps a block from being empty: frames, or a rebuild of the tables (R266) in FWD's blocks that hold them. -/
def State.blockBusy (s : State) (d w b : Nat) : Bool :=
  s.blockHolds d w b || (d == 5 && w == 8 && b != 2 && s.rebuilding)

/-- The block's registers and the state behind them are reset (R11, R51). The oscillator's SUBSTITUTE outlasts it (R71). -/
def State.resetBlock (s : State) (d w b : Nat) : State :=
  let t := ((s.clearBehind d w b).resetBlockRegs (blockNo d w b)).resume d w b
  if blockNo d w b = blockNo 7 0 1 then
    let t := State.polNoted s t
    if s.oscState = 4 then t.setOsc F.TIM_OSC_QUAL_STATUS_STATE 4 else t.suppressAll
  else t

/-- BLOCK_RESET_DONE: the block is empty and is reset; what it shows of the device at large reads as Reset. -/
def execBlockResetDone (d w b : Nat) (s : State) : Answer :=
  .next (
    if s.blockFld d w b F.BLKCTL_RST = 0 || s.blockBusy d w b then s
    else (s.resetBlock d w b).maskBlock (blockNo d w b))

/-- BLOCK_RESET_TIMEOUT: the block is not empty after 100 µs, and the reset is abandoned. -/
def execBlockResetTimeout (d w b : Nat) (s : State) : Answer :=
  .next (
    if s.blockFld d w b F.BLKCTL_RST = 0 then s
    else (s.setFld (.BLKCTL d w b) F.BLKCTL_RST 0).setFld (.BLKCTL d w b) F.BLKCTL_TIMEOUT 1)

/-! ## Undoing an image (R62) -/

/-- A block that the image wrote is reset. The Wornan links keep their training (R62, R72). -/
def State.undoBlock (s : State) (n : Nat) : State :=
  let d := n / 4096
  let w := n / 64 % 64
  let b := n % 64
  if d = 2 ∧ b = 16 then
    (((s.resetBlockRegs n).put (.LNE_WRN_STATUS w) (s.get (.LNE_WRN_STATUS w))).put (.LNE_WRN_LATENCY w)
      (s.get (.LNE_WRN_LATENCY w)))
  else s.resetBlock d w b

/-- IMAGE_UNDO (R62): every session is closed, every table is cleared, and every block that the image wrote is reset. -/
def State.undoImage (s : State) : State :=
  let blocks := (s.boot.applied.map blockOf).foldl (fun acc n => if acc.contains n then acc else n :: acc) []
  let s := s.closeAll.clearTables
  let s := { s with boot := { s.boot with image := none, applied := [], records := [], tabled := false } }
  blocks.foldl State.undoBlock s

end Sys2Proof.Machine
end

