-- ==== Sys2Proof/Machine/Mailbox.lean ====
section
/-! DEFINITION. The mailbox (R82 to R104, R456 to R458): requests in the order of their checks, sessions, reads, writes and
transactions, and the service port's frames. Image uploads are in `Flash.lean`. -/
namespace Sys2Proof.Machine

/-! ## Checks of a request (R89) -/

/-- Check 1: LENGTH against the command's payload rule (R90). -/
def lengthOk (code : Nat) (ws : List Word) : Bool :=
  let n := reqLength ws
  if code = 0x01 then n == 20
  else if code = 0x02 then n == 32
  else if code = 0x10 ∨ code = 0x12 then n == 8
  else if code = 0x11 then n % 8 == 0 && 8 ≤ n && n ≤ 240
  else if code = 0x23 then
    let w := (reqWord ws 0).toNat % 65536
    w ≤ 60 && n == 4 + 4 * w
  else if code = 0x30 then n == 4
  else if code = 0x31 then n % 4 == 0 && 8 ≤ n && n ≤ 244
  else n == 0

/-- Check 2: FLAGS, and commands that the service port does not take (R90). -/
def flagsOk (v : Via) (code : Nat) (ws : List Word) : Bool :=
  (if code = 0x21 then reqFlags ws ≤ 1 else reqFlags ws == 0) &&
  !(v == .svc && (code == 0x04 || code == 0x05))

/-- The request of path `v`, when it is one of command `code` whose response is still to be made: checks 1 and 2, then
`act`, given the reply, the source and the words. While STEWARD_LOST holds the channel answers STATE (R426); between a give-up
and the take-over the request waits (R423). -/
def State.serve (s : State) (v : Via) (code : Nat) (act : State → Reply → Nat → List Word → State) : State :=
  match s.request v with
  | none => s
  | some (src, ws) =>
    let r := replyFor v src ws
    if reqCommand ws ≠ code || s.awaiting r || s.halted || s.pair.cause.isSome then s
    else if s.stewardLost then s.respond r Stat.state 0 []
    else if !lengthOk code ws then s.respond r Stat.badLength 0 []
    else if !flagsOk v code ws then s.respond r Stat.badCommand 0 []
    else act s r src ws

/-- The session names itself on its own path. -/
def Session.isOn (x : Session) (v : Via) (src : Nat) : Bool :=
  match v with
  | .chan c => x.chan == some c
  | .svc => x.chan == none && x.src == src

/-- Check 3 for every command but OPEN: a session of this channel or source, authenticated unless `early`. -/
def State.serveSession (s : State) (v : Via) (code : Nat) (early : Bool)
    (act : State → Reply → Nat → Session → List Word → State) : State :=
  s.serve v code fun s r src ws =>
    let h := (ws.getD 1 0).toNat
    match s.session h with
    | some x => if x.isOn v src && (early || x.role != 0) then act s r h x ws else s.respond r Stat.noSession 0 []
    | none => s.respond r Stat.noSession 0 []

/-- Check 4 for the transaction commands (R86): Operator or Expert. -/
def Session.mayCommit (x : Session) : Bool := x.role == 2 || x.role == 3

/-! ## OPEN and AUTH (R82 to R85) -/

/-- The 256-bit key of a slot and its role: the image's KEY records, and slot 8 for the recovery key (R57, R83). Log 122: of two KEY
records of one slot the last holds. -/
def State.slotKey (s : State) (slot : Nat) : Option (Nat × Nat) :=
  if slot = 8 then s.boot.fuses.recoveryKey.map fun k => (k, 4)
  else match s.boot.image with
    | some i => (i.keys.reverse.find? fun k => k.slot == slot).map fun k => (k.key, k.role)
    | none => none

/-- The checks of OPEN in place of checks 3 and 4 (R89): 0 where all pass. -/
def State.openStatus (s : State) (v : Via) (src slot : Nat) : Nat :=
  let recovery := s.bootStep == 0xB
  let held := match v with | .chan c => s.mbx.holdCh.contains c | .svc => s.mbx.holdSrc.contains src
  let busy := match v with | .chan c => s.fld (.HST_MBX_STATE c) F.HST_MBX_STATE_STATE != 0 | .svc => false
  if !s.stepFourDone then Stat.notReady
  else if held then Stat.holdOff
  else if busy then Stat.state
  else if recovery && slot != 8 then Stat.state
  else if !recovery && 8 ≤ slot then Stat.badSlot
  else if (s.slotKey slot).isNone then Stat.badSlot
  else if 8 ≤ s.sessions.length then Stat.sessionsFull
  else 0

/-- A HANDLE: random, not zero, unique among open sessions (R84). -/
def State.newHandle (s : State) : Nat :=
  let r := (Config.random32 s.free).toNat
  (((List.range 10).map fun i => (r + i) % 2 ^ 32).find? fun h => h != 0 && (s.session h).isNone).getD 1

/-- The bytes of `n` words of the payload from word `i`. -/
def reqBytes (ws : List Word) (i n : Nat) : List Byte := ((ws.drop (3 + i)).take n).flatMap wordBytes

/-- OPEN. -/
def execOpenReq (v : Via) (s : State) : Answer :=
  .next (s.serve v 0x01 fun s r src ws =>
    let slot := (reqWord ws 0).toNat / 2 ^ 24
    let st := s.openStatus v src slot
    if st ≠ 0 then s.respond r st 0 []
    else
      let h := s.newHandle
      let nDev := Config.random128 s.free
      let nHost := beAt (reqBytes ws 1 4) 0 16
      let c := match v with | .chan c => some c | .svc => none
      let x : Session := ⟨c, src, slot, 0, nHost, nDev.toNat, none, none, freshLatch⟩
      let s := s.tick1Free.putSession h x
      let s := match c with | some c => s.setMbxState c 1 0 | none => s
      s.respond r Stat.ok 0 (BitVec.ofNat 32 h :: beWords (be 16 nDev.toNat)))

/-- P_host and P_dev (R84): the first byte, then the nonces in the order given. -/
def proof (key first n1 n2 h slot : Nat) : List Byte := hmac key (be 1 first ++ be 16 n1 ++ be 16 n2 ++ be 4 h ++ be 1 slot)

/-- A failed authentication closes the session and starts the hold-off (AUTH_FAILED). -/
def State.authFailed (s : State) (h : Nat) (x : Session) (r : Reply) : State :=
  let s := (s.closeSession h).count C.authFailures
  let s := match x.chan with
    | some c => { s.event Ev.authFail c 0 with mbx := { s.mbx with holdCh := c :: s.mbx.holdCh.filter (· != c) } }
    | none => { s.event Ev.authFail 0x100 0 with mbx := { s.mbx with holdSrc := x.src :: s.mbx.holdSrc.filter (· != x.src) } }
  s.respond r Stat.authFailed 0 []

/-- AUTH. -/
def execAuth (v : Via) (s : State) : Answer :=
  .next (s.serveSession v 0x02 true fun s r h x ws =>
    if x.role ≠ 0 then s.respond r Stat.state 0 []
    else match s.slotKey x.slot with
      | none => s.authFailed h x r
      | some (key, role) =>
        if reqBytes ws 0 8 ≠ proof key 0x48 x.nDev x.nHost h x.slot then s.authFailed h x r
        else
          let s := s.putSession h { x with role := role }
          let s := match x.chan with | some c => s.setMbxState c 2 role | none => s
          s.respond r Stat.ok 0 (BitVec.ofNat 32 (role * 2 ^ 24) :: beWords (proof key 0x44 x.nHost x.nDev h x.slot)))

/-- OPENING_TIMEOUT (R84). -/
def execOpeningTimeout (handle : Nat) (s : State) : Answer :=
  .next (match s.session handle with
    | some x => if x.role = 0 then s.closeSession handle else s
    | none => s)

/-- HOLD_OFF_EXPIRES (R85). -/
def execHoldOffExpires (chan : Option Nat) (src : Nat) (s : State) : Answer :=
  .next (match chan with
    | some c => { s with mbx := { s.mbx with holdCh := s.mbx.holdCh.filter (· != c) } }
    | none => { s with mbx := { s.mbx with holdSrc := s.mbx.holdSrc.filter (· != src) } })

/-! ## CLOSE, IDLE_TIMEOUT, BIND, UNBIND (R87, R97) -/

def execClose (v : Via) (s : State) : Answer :=
  .next (s.serveSession v 0x03 true fun s r h _ _ => (s.closeSession h).respond r Stat.ok 0 [])

/-- IDLE_TIMEOUT: never with the setting 0. -/
def execIdleTimeout (handle : Nat) (s : State) : Answer :=
  .next (if s.fld .STW_TXN_CFG F.STW_TXN_CFG_IDLE_TIMEOUT = 0 then s
    else match s.session handle with
      | some x => if x.role = 0 then s else s.closeSession handle
      | none => s)

/-- The window goes to the session of channel `c`. -/
def State.bindWindow (s : State) (c : Nat) : State :=
  if s.winBound && s.winChan == c then s
  else
    let s := s.unbindWindow.setFld (.HST_MBX_STATE c) F.HST_MBX_STATE_BOUND 1
    (s.setFld .HST_WIN_STATUS F.HST_WIN_STATUS_BOUND 1).setFld .HST_WIN_STATUS F.HST_WIN_STATUS_CHANNEL c

def execBind (v : Via) (s : State) : Answer :=
  .next (s.serveSession v 0x04 false fun s r _ x _ =>
    match x.chan with
    | some c => (s.bindWindow c).respond r Stat.ok 0 []
    | none => s.respond r Stat.badCommand 0 [])

def execUnbind (v : Via) (s : State) : Answer :=
  .next (s.serveSession v 0x05 false fun s r _ x _ =>
    if s.winBound && x.chan == some s.winChan then s.unbindWindow.respond r Stat.ok 0 []
    else s.respond r Stat.state 0 [])

/-! ## READ, READ_STAGED, WRITE (R90, R91) -/

/-- The staged word of an address as the session sees it, if its transaction holds one. -/
def State.stagedWord (s : State) (w : Who) (a : Nat) : Option Word :=
  match s.txnOf w.handle, decodeAddr a with
  | some t, some r => (sfind t.regs a).map fun v => v &&& ~~~(eMask w r)
  | _, _ => none

/-- `n` registers from address `a`, from index `i`, in order, up to the first that fails: its status (0: none), its index, and
the words read, in reverse. -/
def State.readMany (s : State) (w : Who) (staged : Bool) (a : Nat) : Nat → Nat → List Word → State × Nat × Nat × List Word
  | 0, i, acc => (s, 0, i, acc)
  | n + 1, i, acc =>
    let x := s.readAddr w (a + 4 * i)
    if x.2.1 ≠ 0 then (x.1, x.2.1, i, acc)
    else
      let v := if staged then (x.1.stagedWord w (a + 4 * i)).getD x.2.2 else x.2.2
      x.1.readMany w staged a n (i + 1) (v :: acc)

/-- The first of `n` registers from address `a` that a recovery session may not read (R86): check 4 of R89, before the values. -/
def barredRead (x : Session) (a n : Nat) : Option Nat :=
  if x.role = 4 then (List.range n).find? fun i => match decodeAddr (a + 4 * i) with | some r => !r.recovery | none => false else none

/-- READ and READ_STAGED. One that fails has no effect (R89). -/
def State.readCmd (s : State) (r : Reply) (h : Nat) (x : Session) (ws : List Word) (staged : Bool) : State :=
  let a := (reqWord ws 0).toNat
  let n := (reqWord ws 1).toNat
  match barredRead x a (min 60 (max 1 n)) with
  | some i => s.respond r Stat.role i []
  | none =>
    if n = 0 ∨ 60 < n then s.respond r Stat.value 0 []
    else
      let o := s.readMany (.sess h x.role) staged a n 0 []
      if o.2.1 ≠ 0 then s.respond r o.2.1 o.2.2.1 [] else o.1.respond r Stat.ok 0 o.2.2.2.reverse

def execRead (v : Via) (s : State) : Answer :=
  .next (s.serveSession v 0x10 false fun s r h x ws => s.readCmd r h x ws false)

def execReadStaged (v : Via) (s : State) : Answer :=
  .next (s.serveSession v 0x12 false fun s r h x ws => s.readCmd r h x ws true)

/-- The pairs of a WRITE from index `i`, in order, up to the first that fails: its index and status. -/
def State.writeMany (s : State) (w : Who) : Nat → List Word → State × Nat × Nat
  | i, a :: v :: rest =>
    let x := s.writeAddr w a.toNat v
    if x.2 ≠ 0 then (x.1, i, x.2) else x.1.writeMany w (i + 1) rest
  | i, _ => (s, i, 0)

/-! ## Transactions (R100 to R104, R108 step 1) -/

def execBegin (v : Via) (s : State) : Answer :=
  .next (s.serveSession v 0x20 false fun s r h x _ =>
    if !x.mayCommit then s.respond r Stat.role 0 []
    else if x.txn.isSome then s.respond r Stat.txnOpen 0 []
    else (s.putSession h { x with txn := some ⟨[], [], 0⟩ }).respond r Stat.ok 0 [])

def execAbort (v : Via) (s : State) : Answer :=
  .next (s.serveSession v 0x22 false fun s r h x _ =>
    if !x.mayCommit then s.respond r Stat.role 0 []
    else if x.txn.isNone then s.respond r Stat.noTxn 0 []
    else (s.putSession h { x with txn := none }).respond r Stat.ok 0 [])

/-- A COMMIT that ends at step 1 (R104, R117, R512): its payload carries the instance of the group that failed. -/
def State.commitRefuse (s : State) (r : Reply) (st detail word : Nat) : State :=
  (s.count C.commitRefused).respond r st detail (s.commitPayload r (BitVec.ofNat 32 word) 0)

/-- COMMIT. Log 127: one refused by checks 1 to 3 of R89 is not counted in STW_COMMIT_REFUSED; an implicit transaction that validation
refuses is. -/
def execCommit (v : Via) (s : State) : Answer :=
  .next (s.serveSession v 0x21 false fun s r h x ws =>
    if !x.mayCommit then (s.count C.commitRefused).respond r Stat.role 0 []
    else match x.txn with
      | none => s.commitRefuse r Stat.noTxn 0 0
      | some t =>
        let s := s.putSession h { x with txn := none }
        let c := s.validate t.regs t.ops
        if c.1 ≠ 0 then s.commitRefuse r c.1 c.2.1 c.2.2
        else s.accept (newJob h r (reqFlags ws == 1) t.regs t.ops))

/-- TABLE_OP. -/
def execTableOp (v : Via) (s : State) : Answer :=
  .next (s.serveSession v 0x23 false fun s r h x ws =>
    if !x.mayCommit then s.respond r Stat.role 0 []
    else
      let w := (reqWord ws 0).toNat
      match opOfRecord (w / 2 ^ 24) (w / 2 ^ 16 % 256) ((ws.drop 4).take (w % 65536)) with
      | .inl code => s.respond r Stat.table code []
      | .inr o => match s.stageOp h r o with
        | (s, some (st, d)) => s.respond r st d []
        | (s, none) => s)

/-- The locks a transaction holds: registers and tables (R102). -/
def Txn.locks (t : Txn) : Nat := t.regs.length + (t.ops.foldl (fun (l : List Nat) o => if l.contains o.table then l else o.table :: l) []).length

/-- TXN_STATUS. -/
def execTxnStatus (v : Via) (s : State) : Answer :=
  .next (s.serveSession v 0x24 false fun s r _ x _ =>
    if x.role = 4 then s.respond r Stat.role 0 []
    else match x.txn with
      | none => s.respond r Stat.ok 0 [0, 0]
      | some t => s.respond r Stat.ok 0 [BitVec.ofNat 32 (t.units * 65536 + t.locks), BitVec.ofNat 32 (2 ^ 24)])

/-! ## The service port (R455 to R458) -/

/-- The message of a service-port frame, if the frame is accepted (R456): source and words. -/
def State.svcMessage (s : State) (bytes : List Byte) : Option (Nat × List Word) :=
  let dst := beAt bytes 0 6
  let len := beAt bytes 18 2
  if !fcsGood bytes ∨ (dst ≠ s.macBase ∧ dst ≠ 2 ^ 48 - 1) ∨ beAt bytes 12 2 ≠ 0x88B5 ∨ beAt bytes 14 2 ≠ 1 ∨
      bytes.length < 18 + 12 + len + 4 then none
  else some (beAt bytes 6 6, beWords ((bytes.drop 18).take (12 + len) ++ List.replicate ((4 - len % 4) % 4) 0#8))

/-- SVC_FRAME_RX. -/
def execSvcFrameRx (bytes : List Byte) (s : State) : Answer :=
  .next (
    if !s.svcOn || !s.stepTwoDone || s.halted then s
    else match s.svcMessage bytes with
      | none => s.count C.svcRxDrops
      | some (src, ws) =>
        if 16 ≤ s.mbx.queue.length then s.count C.svcRxDrops
        else
          let t : State := { s with mbx := { s.mbx with queue := s.mbx.queue ++ [(src, ws)] } }
          if s.stewardLost then t.answerQueue 16 else if s.mbx.queue.isEmpty then t.svcDrain 16 else t)

end Sys2Proof.Machine
end

