-- ==== Sys2Proof/Machine/Flash.lean ====
section
/-! DEFINITION. The SPI flash (R53, R63, R64, R111 to R113): the end of a bank write, and uploads. -/
namespace Sys2Proof.Machine

/-- Program bytes at an offset. -/
def State.program (s : State) (off : Nat) (bs : List Byte) : State :=
  { s with flash := { s.flash with
    cells := ((List.range bs.length).zip bs).foldl (fun (m : SMap Byte) x => sput 0xFF#8 m (off + x.1) x.2) s.flash.cells } }

/-- Cells of a bank that did not take what was programmed: offset in the bank and byte. -/
def State.spoil (s : State) (k : Nat) (flaws : List (Nat × Byte)) : State :=
  flaws.foldl (fun (s : State) x => if x.1 < 0x1000000 then s.program (bankOff k + x.1) [x.2] else s) s

/-- STW_BANK_STATE and STW_BANK_SEQ after a check of the bank (R75, R76). -/
def State.noteBank (s : State) (k result : Nat) : State :=
  let h := s.bankHeader k
  let s := (s.setFld (.STW_BANK_STATE k) F.STW_BANK_STATE_RESULT result).setFld (.STW_BANK_STATE k) F.STW_BANK_STATE_CL (beAt h 0xC 1)
  s.put (.STW_BANK_SEQ k) (BitVec.ofNat 32 (beAt h 0x10 4))

/-- The bank that the running image comes from. -/
def State.chooseBank (s : State) (k : Nat) : State :=
  let s := (s.setFld (.STW_BANK_STATE k) F.STW_BANK_STATE_CHOSEN 1).setFld (.STW_BANK_STATE (1 - k)) F.STW_BANK_STATE_CHOSEN 0
  s.setFld .STW_BOOT_STATUS F.STW_BOOT_STATUS_BANK k

/-- The read-back of a persist (R64, R75, R111): the running image's source moves only when it passes. -/
def State.persistEnd (s : State) (k : Nat) (bytes : List Byte) (flaws : List (Nat × Byte)) (err : Bool) : State :=
  let s := if err then s else (s.program (bankOff k) bytes).spoil k flaws
  let r := s.bankResult k
  if err || r != 0 then (s.noteBank k (if r = 0 then 2 else r)).persistFailed Stat.flashError
  else
    let s := (s.noteBank k 1).chooseBank k
    let s := match s.boot.image with
      | some i => { s with boot := { s.boot with image := some { i with bank := k, seq := beAt bytes 0x10 4 } } }
      | none => s
    ((s.setPersist F.STW_PERSIST_STATUS_STATE 2).setPersist F.STW_PERSIST_STATUS_STATUS 0).irqEvent 48

/-- The read-back of an upload (R112). Log 128: an upload shows in STW_PERSIST_STATUS by BANK and STATUS, at its end alone; STATE
stays. Log 153: an upload in RECOVERY does not set UPLOAD_PENDING. -/
def State.uploadEnd (s : State) (k : Nat) (header : List Byte) (other : Bool) (reply : Reply) (flaws : List (Nat × Byte))
    (err : Bool) : State :=
  let s := if err then s else (s.program (bankOff k) header).spoil k flaws
  let r := s.bankResult k
  let s := s.setPersist F.STW_PERSIST_STATUS_BANK k
  if err || r != 0 then
    ((s.noteBank k (if r = 0 then 2 else r)).setPersist F.STW_PERSIST_STATUS_STATUS Stat.flashError).respond reply Stat.flashError 0 []
  else
    let s := (s.noteBank k 0xE).setPersist F.STW_PERSIST_STATUS_STATUS 0
    let s := if s.bootStep = 0xB then s else s.setPersist F.STW_PERSIST_STATUS_UPLOAD_PENDING 1
    let s := if other then
        { s with flash := { s.flash with cells := s.flash.cells.filter fun kv => kv.1 / 0x1000 != bankOff (1 - k) / 0x1000 } }
      else s
    s.respond reply Stat.ok 0 []

/-- FLASH_WRITE_DONE: the bank write under way ends; `flaws` are cells that read back otherwise, `err` that the flash did not
complete. A persist queued behind it begins (PERSIST_START). -/
def execFlashWriteDone (flaws : List (Nat × Byte)) (err : Bool) (s : State) : Answer :=
  .next (
    if s.stewardHeld then s
    else
      let t : State := { s with flash := { s.flash with op := none } }
      match s.flash.op with
      | some (.persist k bytes) =>
        let t := t.persistEnd k bytes flaws err
        if t.fld .STW_PERSIST_STATUS F.STW_PERSIST_STATUS_AGAIN = 1 then
          (t.setPersist F.STW_PERSIST_STATUS_AGAIN 0).persistStart.1
        else t
      | some (.header k h other reply) => t.uploadEnd k h other reply flaws err
      | _ => s)

/-- BANK_ERASE_DONE: the erase of IMAGE_BEGIN ends, and the upload is open for the session that asked. -/
def execBankEraseDone (err : Bool) (s : State) : Answer :=
  .next (
    if s.stewardHeld then s
    else match s.flash.op with
      | some (.erase _ reply) =>
        let t : State := { s with flash := { s.flash with op := none } }
        if err then ({ t with flash := { t.flash with upload := none } }).respond reply Stat.flashError 0 []
        else t.respond reply Stat.ok 0 []
      | _ => s)

/-! ## Uploads (R86, R112, R113) -/

/-- Expert and recovery sessions upload. -/
def Session.mayUpload (x : Session) : Bool := x.role == 3 || x.role == 4

/-- IMAGE_BEGIN. Log 123: a second one by the session whose upload is open begins that upload anew. Log 124: start-up steps 5 to 9,
neither RUNNING nor RECOVERY, are taken as RUNNING. Log 153: VALUE is tested before BUSY. -/
def execImageBegin (v : Via) (s : State) : Answer :=
  .next (s.serveSession v 0x30 false fun s r h x ws =>
    let k := (reqWord ws 0).toNat / 2 ^ 24
    let source : Bool := match s.boot.image with | some i => s.bootStep != 0xB && i.bank == k | none => false
    let other : Bool := match s.flash.upload with | some u => u.handle != h | none => false
    if !x.mayUpload then s.respond r Stat.role 0 []
    else if 1 < k ∨ source then s.respond r Stat.value 0 []
    else if s.flash.op.isSome || other then s.respond r Stat.busy 0 []
    else
      let s := s.eraseBank k
      { s with flash := { s.flash with op := some (.erase k r), upload := some ⟨h, k, 0, [], []⟩ } })

/-- One byte of an upload: the header is held, body pages are programmed as they fill. -/
def State.uploadByte (s : State) (b : Byte) : State :=
  match s.flash.upload with
  | none => s
  | some u =>
    let n := u.next + 1
    if u.next < 256 then { s with flash := { s.flash with upload := some { u with next := n, header := u.header ++ [b] } } }
    else
      let page := u.page ++ [b]
      if n % 256 = 0 then
        ({ s with flash := { s.flash with upload := some { u with next := n, page := [] } } }).program
          (bankOff u.bank + n - 256) page
      else { s with flash := { s.flash with upload := some { u with next := n, page := page } } }

/-- The open upload of a session. -/
def State.uploadOf (s : State) (h : Nat) : Option Upload :=
  match s.flash.upload with
  | some u => if u.handle = h ∧ s.flash.op.isNone then some u else none
  | none => none

/-- IMAGE_DATA. Log 153: data that would run past the bank's 16 MiB are refused with VALUE. -/
def execImageData (v : Via) (s : State) : Answer :=
  .next (s.serveSession v 0x31 false fun s r h x ws =>
    let n := reqLength ws / 4 - 1
    match s.uploadOf h with
    | none => s.respond r Stat.state 0 []
    | some u =>
      if !x.mayUpload then s.respond r Stat.role 0 []
      else
        if (reqWord ws 0).toNat ≠ u.next ∨ 0x1000000 < u.next + 4 * n then s.respond r Stat.value 0 []
        else ((reqBytes ws 1 n).foldl State.uploadByte s).respond r Stat.ok 0 [])

/-- SEQUENCE of an upload (R63, R112), and whether the other bank's header is erased after it; none: no number is left. -/
def State.uploadSeq (s : State) : Option (Nat × Bool) :=
  if s.bootStep = 0xB then
    let q (k : Nat) : Nat := let v := (s.get (.STW_BANK_SEQ k)).toNat; if v = 0xFFFFFFFF then 0 else v
    let m := max (q 0) (q 1)
    if m = 0xFFFFFFFE then some (1, true) else some (m + 1, false)
  else match s.boot.image with
    | some i => if 0xFFFFFFFF ≤ i.seq + 1 then none else some (i.seq + 1, false)
    | none => none

/-- The image received: checks 3 to 11 of R61. -/
def State.receivedResult (s : State) (u : Upload) : Nat :=
  let h := u.header ++ List.replicate (256 - u.header.length) 0xFF#8
  let r := headerChecks s.boot.fuses h
  if r ≠ 0 then r
  else bodyResult s.boot.fuses h (s.flashBytes (bankOff u.bank + 256) (beAt h 0x14 4))

/-- IMAGE_END. -/
def execImageEnd (v : Via) (s : State) : Answer :=
  .next (s.serveSession v 0x32 false fun s r h x _ =>
    match s.uploadOf h with
    | none => s.respond r Stat.state 0 []
    | some u =>
      if !x.mayUpload then s.respond r Stat.role 0 []
      else
        let s := s.program (bankOff u.bank + u.next - u.page.length) u.page
        let t : State := { s with flash := { s.flash with upload := none } }
        let c := s.receivedResult u
        if c ≠ 0 then t.respond r Stat.imageInvalid c []
        else match s.uploadSeq with
          | none => t.respond r Stat.seqExhausted 0 []
          | some (q, other) =>
            let signed := beAt u.header 0xD 1 == 1
            let body := s.flashBytes (bankOff u.bank + 256) (beAt u.header 0x14 4)
            let hd := sealHeader s.boot.fuses.imageKey signed q u.header body
            { t with flash := { t.flash with op := some (.header u.bank hd other r) } })

end Sys2Proof.Machine
end

