-- ==== Sys2Proof/Machine/Start.lean ====
section
/-! DEFINITION. Cold and warm resets, start-up (R11, R47 to R50, R61 to R73, R524), and the test access port (R536 to R538). -/
namespace Sys2Proof.Machine

/-! ## Cold and warm resets (R11, R48 to R50, R110) -/

/-- The running image as it stands: from the end of start-up step 4 the registers and tables hold its values (R47). -/
def State.imageNow (s : State) : Option RunImage :=
  match s.boot.image with
  | some i => if 5 ≤ s.bootStep ∧ s.bootStep ≤ 0xA then some (s.snapshot i) else some i
  | none => none

/-- A reset with the running image kept or dropped: all other state returns to its Reset value. The flash keeps its cells, the
test access port its state; of a bank write under way nothing more is programmed (R64). -/
def State.resetTo (s : State) (cause : Nat) (image : Option RunImage) : State :=
  let t := State.fresh s.boot.fuses
  let t : State := { t with
    free := s.free, out := s.out, pending := s.pending, flash := ⟨s.flash.cells, none, none⟩,
    boot := { t.boot with rails := s.boot.rails, image := image, warm := image.isSome, ir := s.boot.ir,
                          scanHold := s.boot.scanHold, drAddr := s.boot.drAddr, drData := s.boot.drData,
                          trstLow := s.boot.trstLow, boundary := s.boot.boundary } }
  let t := t.setFld .STW_BOOT_STATUS F.STW_BOOT_STATUS_CAUSE cause
  if image.isSome then
    [0, 1].foldl (fun (t : State) k => (t.put (.STW_BANK_STATE k) (s.get (.STW_BANK_STATE k))).put (.STW_BANK_SEQ k)
      (s.get (.STW_BANK_SEQ k))) t
  else t

/-- Start-up step 1 begins. -/
def State.start (s : State) : State := { s with boot := { s.boot with begun := true } }

/-- All state reset, the running image included (R11, R524). The level of the TRST_N pin is not the device's. -/
def State.coldReset (s : State) : State :=
  { State.fresh s.boot.fuses with
    free := s.free, out := s.out, pending := s.pending, flash := ⟨s.flash.cells, none, none⟩,
    boot := { Boot.reset s.boot.fuses with trstLow := s.boot.trstLow } }

/-- COLD_RESET: power-on; step 1 waits for the rails and RST_N (STARTUP_BEGIN). -/
def execColdReset (s : State) : Answer := .next s.coldReset

/-- RAIL_LOST: after step 1 has begun, a lost rail acts as power-on (R524). -/
def execRailLost (s : State) : Answer := .next (if s.boot.begun || s.boot.rails then s.coldReset else s)

/-- STARTUP_BEGIN: all rails are in regulation and RST_N is high (R65). -/
def execStartupBegin (s : State) : Answer :=
  .next (if s.boot.begun || s.boot.rstLow then s else { s with boot := { s.boot with rails := true, begun := true } })

/-- RST_N_LOW (R48): everything but the running image is reset, and no start-up runs. Before step 1 of a power-on the cause stays
cold. -/
def execRstNLow (s : State) : Answer :=
  .next (
    if s.boot.rstLow then s
    else
      let t := s.resetTo (if s.boot.begun then 1 else s.fld .STW_BOOT_STATUS F.STW_BOOT_STATUS_CAUSE) s.imageNow
      { t with boot := { t.boot with rstLow := true } })

/-- WARM_RESET: RST_N rises, and step 1 begins if all rails have been in regulation (R65); step 4 re-applies the running image
(R48, R49). -/
def execWarmReset (s : State) : Answer :=
  .next (if s.boot.rstLow then { s with boot := { s.boot with rstLow := false, begun := s.boot.rails } } else s)

/-- A reset that a write of STW_RESET_CTL asked for begins (R50): WARM keeps the running image, RELOAD drops it. -/
def State.takeReset (s : State) : State :=
  match s.boot.resetReq with
  | some 3 => (s.resetTo 3 none).start
  | some c => (s.resetTo c s.imageNow).start
  | none => s

/-! ## Start-up (R61, R62, R65 to R73) -/

def State.toStep (s : State) (v : Nat) : State := s.setFld .STW_BOOT_STATUS F.STW_BOOT_STATUS_STEP v

def State.setBoot (s : State) (f : Fld) (v : Nat) : State := s.setFld .STW_BOOT_STATUS f v

def State.bankResultIs (s : State) (k v : Nat) : State := s.setFld (.STW_BANK_STATE k) F.STW_BANK_STATE_RESULT v

/-- The duration of a step (R69, R77): runs are summed. -/
def State.noteTime (s : State) (i micros : Nat) : State :=
  s.put (.STW_BOOT_STEP_TIME i) (BitVec.ofNat 32 (min 0xFFFFFFFF ((s.get (.STW_BOOT_STEP_TIME i)).toNat + micros)))

/-- Step 2: identity, keys and trims from the fuses (R65, R129, R507, R509). -/
def State.loadFuses (s : State) (fixed : Bool) : State :=
  let f := s.boot.fuses
  let w (r : Reg) (v : Nat) (s : State) : State := s.put r (BitVec.ofNat 32 v)
  let s := w .STW_ID_STEPPING (f.stepMinor % 16 + f.stepMajor % 16 * 16) <| w .STW_ID_CL (f.highest % 256) <|
    w .STW_ID_PCI (f.vendor % 2 ^ 16 + f.device % 2 ^ 16 * 2 ^ 16) <| w .STW_ID_SERIAL_L f.serial <|
    w .STW_ID_SERIAL_H (f.serial / 2 ^ 32) <| w .STW_ID_LOT (f.lot % 2 ^ 24 + f.wafer % 32 * 2 ^ 24) <|
    w .STW_ID_DIE (f.dieX % 256 + f.dieY % 256 * 256) <| w .STW_ID_MAC_L f.mac <|
    w .STW_ID_MAC_H (f.mac / 2 ^ 32 % 2 ^ 16) <|
    w .STW_ID_FUSE (bitOf f.signReq + 2 * bitOf f.imageKey.isSome + 4 * bitOf f.recoveryKey.isSome + 8 * bitOf fixed) s
  f.bands.foldl (fun (s : State) x => if x.1 < 128 then s.setGrp x.1 F.LNE_GRP_STATUS_GOOD_BAND x.2 else s) s

/-- Step 3: the stewards' self-tests (R72, R420). -/
def State.stewardTests (s : State) (failA failB : Bool) : State :=
  if failA && failB then s.toStep 0xD
  else
    let s :=
      if failA then
        (((s.setPair F.STW_PAIR_STATUS_ACTIVE 1).setPair F.STW_PAIR_STATUS_STATE_A 3).setPair F.STW_PAIR_STATUS_STATE_B 0).event
          Ev.stewardSelftest 0 0 |>.degrade
      else if failB then ((s.setPair F.STW_PAIR_STATUS_STATE_B 3).event Ev.stewardSelftest 1 0).degrade
      else s.setPair F.STW_PAIR_STATUS_STANDBY_OK 1
    s.toStep 4

/-- ENTER_RECOVERY (R73). -/
def State.enterRecovery (s : State) : State :=
  ((s.setBoot F.STW_BOOT_STATUS_IMAGE 0).setFld .STW_ID_CL F.STW_ID_CL_OPERATING 0).toStep 0xB

/-- The end of step 4: the core-supply request stays within the image's FLOOR to CEIL (R435), and the Wornan links and HBM stacks
train unless they have (R62). -/
def State.afterFour (s : State) : State := s.avsWritten.toStep (if s.boot.trained then 6 else 5)

/-- BANK_CHOICE: candidates in order, each checked and applied (R62). -/
def State.tryBanks (s : State) : List Nat → State
  | [] => s.enterRecovery
  | k :: rest =>
    let h := s.bankHeader k
    let body := s.bankBody k
    let r := bodyResult s.boot.fuses h body
    let failed (s : State) (v : Nat) : State :=
      let s := s.bankResultIs k v
      { s with boot := { s.boot with fell := true } }
    if r ≠ 0 then (failed s r).tryBanks rest
    else
      let i := readImg h body
      let a := s.applyImage k i
      if !a.2 then (failed a.1.undoImage 0xD).tryBanks rest
      else
        let s := ((a.1.chooseBank k).setBoot F.STW_BOOT_STATUS_IMAGE 1).setFld .STW_ID_CL F.STW_ID_CL_OPERATING i.cl
        let s := if i.skipped then s.setBoot F.STW_BOOT_STATUS_SKIPPED 1 else s

        ({ s with boot := { s.boot with records := i.recs.map rawRecord, tabled := false, cands := rest } }).afterFour

/-- Checks 1 to 8 on both banks, and the candidates: higher SEQUENCE first, A before B on a tie. -/
def State.readFlash (s : State) (flashOk : Bool) : State :=
  let s : State := { s with boot := { s.boot with headers := true } }
  if !flashOk then ((s.bankResultIs 0 2).bankResultIs 1 2).enterRecovery
  else
    let r (k : Nat) : Nat := headerResult s.boot.fuses (s.bankHeader k)
    let q (k : Nat) : Nat := beAt (s.bankHeader k) 0x10 4
    let note (s : State) (k : Nat) : State := s.noteBank k (if r k = 0 then 0xE else r k)
    let order := if q 0 < q 1 then [1, 0] else [0, 1]
    ((note (note s 0) 1)).tryBanks (order.filter fun k => r k == 0)

/-- The bank registers at their Reset values. -/
def State.clearBanks (s : State) : State :=
  [0, 1].foldl (fun (s : State) k => (s.put (.STW_BANK_STATE k) 0#32).put (.STW_BANK_SEQ k) 0#32) s

/-- A warm reset's step 4: the running image is re-applied and no flash is read (R49, R81). -/
def State.reapply (s : State) (i : RunImage) : State :=
  let s := i.regs.foldl (fun (s : State) kv => match decodeAddr kv.1 with
    | some r => s.imagePut r kv.2
    | none => s) s
  let s : State := { s with boot := { s.boot with applied := i.regs.map Prod.fst, records := i.ops, tabled := false } }
  (((s.setBoot F.STW_BOOT_STATUS_BANK i.bank).setBoot F.STW_BOOT_STATUS_IMAGE 1).setFld .STW_ID_CL
    F.STW_ID_CL_OPERATING i.cl).afterFour

/-- Step 4 ends. -/
def State.stepFour (s : State) (flashOk imageOk : Bool) : State :=
  match s.boot.image with
  | some i =>
    if s.boot.warm && imageOk then s.reapply i
    else ({ s with boot := { s.boot with image := none, warm := false } }).clearBanks.readFlash flashOk
  | none => if s.boot.headers then s.tryBanks s.boot.cands else s.readFlash flashOk

/-- The HBM stacks have trained, `bad` of them failing (R72, R245, R267, R294). -/
def State.trainHbm (s : State) (bad : List Nat) : State :=
  let up := (List.range 4).filter fun h => !bad.contains h
  let down := (List.range 4).filter bad.contains
  let s := down.foldl (fun (s : State) h => (s.raise Ev.hbmStackDown h 0).degrade) s
  let s := s.setFld .SWC_SPILL_STATUS F.SWC_SPILL_STATUS_STACKS ((up.map fun h => 2 ^ h).sum)
  let s : State := { s with boot := { s.boot with trained := true } }
  let none' (s : State) (c : Nat) : State := s.raise Ev.t2CopyDown c (down.headD 0)
  match up with
  | [a, b, c, d] => (({ s with fwd := { s.fwd with stacks0 := some (a, b), stacks1 := some (c, d) } }).setCopyUp 0 true).setCopyUp 1 true
  | a :: b :: _ => none' (({ s with fwd := { s.fwd with stacks0 := some (a, b) } }).setCopyUp 0 true) 1
  | _ => (none' (none' s 0) 1).raise Ev.tier2Down 0 0

/-- Step 7 begins: lanes of the enabled blocks wait for their groups, and the loops acquire (R65, R127, R142). -/
def State.startLanes (s : State) : State :=
  ((List.range 128).filter s.grpEn).foldl (fun (s : State) b =>
    ((blockLanes b).foldl (fun (s : State) n => s.goLane n 2) s).settleBlock b) s

/-- TABLE records in order, up to the first that fails, and whether all succeeded. Log 121: gate records are then held to the
schedule check of R344, and the schedules become pending as at a commit point (R346). -/
def State.applyTable (s : State) : State × Bool :=
  let ops := s.boot.records
  let r := s.applyRecords ops
  if r.2 && (r.1.gateFault r.1.curSel ops).isNone then (r.1.gatesCommitted ops, true) else (r.1, false)

/-- Step 6 ends: TABLE records are applied, or the application is undone and start-up returns to step 4 (R62, R72). -/
def State.stepSix (s : State) (bad : List Nat) : State :=
  let s := if s.boot.trained then s else s.trainHbm bad
  let k := match s.boot.image with | some i => i.bank | none => 0
  let r := s.applyTable
  if r.2 then
    let s := if s.boot.warm then r.1 else r.1.bankResultIs k 1
    let s := if s.boot.fell then (s.event Ev.bankFallback k 0).degrade else s
    (({ s with boot := { s.boot with tabled := true, records := [] } }).toStep 7).startLanes
  else
    let s := (r.1.undoImage.avsWritten.degrade.setBoot F.STW_BOOT_STATUS_IMAGE 0).setFld .STW_ID_CL F.STW_ID_CL_OPERATING 0
    let s := if s.boot.warm then
        let s := s.clearBanks
        { s with boot := { s.boot with warm := false, headers := false } }
      else
        let s := (s.bankResultIs k 0xD).setFld (.STW_BANK_STATE k) F.STW_BANK_STATE_CHOSEN 0
        { s with boot := { s.boot with fell := true } }
    s.toStep 4

/-- Step 7 ends: a group that has not locked is marked failed (R67, R72). -/
def State.stepSeven (s : State) : State :=
  let late := (List.range 128).filter fun b => s.grpEn b && s.grpState b != 0 && s.grpState b != 4 && s.grpState b != 5
  ((late.foldl State.grpFail s).toStep 8).oscEval

/-- FORWARDING_ENABLE: step 9 ends; epoch 0, new ports, the random-drop registers (R105, R172, R293, R302, R489, R499). -/
def State.enableForwarding (s : State) : State :=
  let ports := s.allPorts
  let s := s.clearCounters fun id => match cntPort id with | some p => s.isPort p | none => false
  let s := ports.foldl (fun (s : State) p =>
    ((s.setPortState p 1).l1Eval p).setFld (.SWC_HIST_CFG p) F.SWC_HIST_CFG_GEN 0) s
  ({ s.seedRed with swc := { s.seedRed.swc with avg := [], dc := [], tok := [], tokTick := s.tim.tick } }).toStep 0xA

/-- The oscillator's presence is known before step 3 ends, and every Wornan link has trained or failed before step 5 does. -/
def State.stepMayEnd (s : State) (i : Nat) : Bool :=
  if i = 3 then s.oscState != 0
  else if i = 5 then (List.range 8).all fun c => decide (2 ≤ s.wrn c F.LNE_WRN_STATUS_STATE)
  else decide (1 ≤ i) && decide (i ≤ 9)

/-- Step `i` ends with what it showed. -/
def State.endStep (s : State) (i : Nat) (o : StepSeen) : State :=
  let t := s.noteTime i o.micros
  State.polNoted s (
      match i with
      | 2 => if o.fuseBad then t.toStep 0xC else (t.loadFuses o.fuseFixed).askRequest.toStep 3
      | 3 => t.stewardTests o.failA o.failB
      | 4 => t.stepFour o.flashOk o.imageOk
      | 6 => t.stepSix o.hbmBad
      | 7 => t.stepSeven
      | 9 => t.enableForwarding
      | _ => t.toStep (i + 1))

/-- STARTUP_STEP_END: the step in progress ends, its duration is recorded, and the next step begins (R65). With TEST_EN high at
step 1 the device stays in it (R521). -/
def execStartupStepEnd (o : StepSeen) (s : State) : Answer :=
  .next (
    let i := s.bootStep
    if !s.boot.begun || !s.stepMayEnd i || (i == 1 && o.testEn) then s else s.endStep i o)

/-! ## Mailbox WRITE (R91), and the reset it may ask for (R50) -/

/-- WRITE. -/
def execWrite (v : Via) (s : State) : Answer :=
  .next (s.serveSession v 0x11 false fun s r h x ws =>
    let o := s.writeMany (.sess h x.role) 0 ((ws.drop 3).take (reqLength ws / 4))
    (if o.2.2 = 0 then o.1.respond r Stat.ok 0 [] else o.1.respond r o.2.2 o.2.1 []).takeReset)

/-! ## Test access port (R536 to R538) -/

/-- TAP_INSTRUCTION_LOAD: an instruction, or none for Test-Logic-Reset, which loads IDCODE. `trst` is a change of TRST_N (true: low),
which holds the TAP in Test-Logic-Reset; `cells` is what a scan has put into the boundary register under the instruction that this one
replaces. Scan hold closes every session; its end acts as RST_N held low for 1 µs. -/
def execTapInstructionLoad (code : Option Nat) (s : State) (trst : Option Bool := none) (cells : List Bool := []) : Answer :=
  .next (
    let low := trst.getD s.boot.trstLow
    let c := if low then 0x02 else code.getD 0x02
    let held := if (tapInstr s.boot.ir).selectsBoundary && !s.boot.trstLow && !cells.isEmpty then cells else s.boot.boundary
    let s := { s with boot := { s.boot with trstLow := low, boundary := held } }
    if holdInstr c then
      let s := if s.boot.scanHold then s else s.closeAll
      { s with boot := { s.boot with ir := c, scanHold := true } }
    else if s.boot.scanHold then
      let t := s.resetTo 1 s.imageNow
      { t with boot := { t.boot with ir := c, scanHold := false, begun := s.boot.begun, rstLow := s.boot.rstLow } }
    else { s with boot := { s.boot with ir := c } })

/-- IDCODE (R536): the stepping, the family, the fused manufacturer and a 1. -/
def State.idcode (s : State) : Word :=
  let stepping := 4 * s.fld .STW_ID_STEPPING F.STW_ID_STEPPING_MAJOR + s.fld .STW_ID_STEPPING F.STW_ID_STEPPING_MINOR
  BitVec.ofNat 32 (stepping * 2 ^ 28 + 0x2048 * 2 ^ 12 + s.boot.fuses.jedec % 2 ^ 11 * 2 + 1)

/-- What REG_ACCESS captures (R538): the read data and the address of the latest access, which a command completes. -/
def State.accessCapture (s : State) : BitVec 66 :=
  BitVec.ofNat 66 (s.boot.drData.toNat + s.boot.drAddr % 2 ^ 32 * 2 ^ 32 + 2 ^ 65)

/-- The data register that the instruction selects (R536 to R538): its bits and what it captures. BYPASS, CLAMP and HIGHZ select the one
bit of IEEE 1149.1, which captures 0. -/
def State.tapData (s : State) : List Bool :=
  let bits (n v : Nat) : List Bool := (List.range n).map v.testBit
  match tapInstr s.boot.ir with
  | .idcode => bits 32 s.idcode.toNat
  | .regAccess => bits 66 s.accessCapture.toNat
  | .bypass => [false]
  | .clamp => [false]
  | .highz => [false]
  | _ => s.boot.boundary

/-- JTAG_REG_ACCESS: an Update-DR of REG_ACCESS makes one access; the data register then holds its address and what it read. -/
def execJtagRegAccess (write : Bool) (addr : Nat) (data : Word) (s : State) : Answer :=
  .next (
    if s.boot.ir ≠ 0x10 then s
    else if write then
      let s := s.pathWrite .jtag addr data
      { s with boot := { s.boot with drAddr := addr, drData := 0#32 } }
    else
      let x := s.pathRead .jtag addr
      { x.1 with boot := { x.1.boot with drAddr := addr, drData := x.2 } })

end Sys2Proof.Machine
end

