-- ==== Sys2Proof/Machine/Rows.lean ====
section
/-! DEFINITION. Register writes and reads that have a row of their own, and the rows for all the others (R6, R7, R97, R98): each
is that access by the path given. A row stands for its write only when the value asks for what the row names. -/
namespace Sys2Proof.Machine

/-- A register write by a path, and the reset it may ask for. -/
def State.rowWriteReg (s : State) (p : RegPath) (r : Reg) (v : Word) : State := (s.pathWrite p r.addr v).takeReset

/-- A field of a value written has the value `x`. -/
def asks (f : Fld) (v : Word) (x : Nat) : Bool := f.get v == x

/-! ## Rings and interrupts (R460, R470, R472 to R478) -/

/-- RING_ENABLE: EN := 1. -/
def execRingEnable (p : RegPath) (x : Nat) (v : Word) (s : State) : Answer :=
  .next (if asks F.HST_RING_CFG_EN v 1 then s.rowWriteReg p (.HST_RING_CFG x) v else s)

/-- RING_DISABLE: EN := 0. -/
def execRingDisable (p : RegPath) (x : Nat) (v : Word) (s : State) : Answer :=
  .next (if asks F.HST_RING_CFG_EN v 0 then s.rowWriteReg p (.HST_RING_CFG x) v else s)

/-- IRQ_CLAIM: a read of HST_IRQ_CLAIM[t] (R475). -/
def execIrqClaim (p : RegPath) (t : Nat) (s : State) : Answer := .next (s.readOut p (Reg.HST_IRQ_CLAIM t).addr)

/-- IRQ_EOI: a write of HST_IRQ_EOI[t] (R477). -/
def execIrqEoi (p : RegPath) (t : Nat) (v : Word) (s : State) : Answer := .next (s.rowWriteReg p (.HST_IRQ_EOI t) v)

/-- IRQ_SRC_WRITE. -/
def execIrqSrcWrite (p : RegPath) (i : Nat) (v : Word) (s : State) : Answer := .next (s.rowWriteReg p (.HST_IRQ_SRC i) v)

/-! ## Counters (R490, R499) -/

/-- COUNTER_READ. -/
def execCounterRead (p : RegPath) (id : Nat) (s : State) : Answer := .next (s.readOut p (Reg.CNT id).addr)

/-- HIST_CFG_WRITE. -/
def execHistCfgWrite (p : RegPath) (q : Nat) (v : Word) (s : State) : Answer := .next (s.rowWriteReg p (.SWC_HIST_CFG q) v)

/-! ## Time (R322, R340, R348, R351) -/

/-- SAF_SET, SAF_STEP, SAF_SLEW, SAF_CANCEL: a write of TIM_SAF_CMD with OP 1, 2, 3, 0. -/
def State.safWrite (s : State) (p : RegPath) (op : Nat) (v : Word) : State :=
  if asks F.TIM_SAF_CMD_OP v op then s.rowWriteReg p .TIM_SAF_CMD v else s

def execSafSet (p : RegPath) (v : Word) (s : State) : Answer := .next (s.safWrite p 1 v)

def execSafStep (p : RegPath) (v : Word) (s : State) : Answer := .next (s.safWrite p 2 v)

def execSafSlew (p : RegPath) (v : Word) (s : State) : Answer := .next (s.safWrite p 3 v)

def execSafCancel (p : RegPath) (v : Word) (s : State) : Answer := .next (s.safWrite p 0 v)

/-- SAF_TIME_READ: a read of TIM_SAF_TIME_F, which latches _L and _H. -/
def execSafTimeRead (p : RegPath) (s : State) : Answer := .next (s.readOut p Reg.TIM_SAF_TIME_F.addr)

/-- TRIGGER_ARM: EN := 1. -/
def execTriggerArm (p : RegPath) (k : Nat) (v : Word) (s : State) : Answer :=
  .next (if asks F.TIM_TRIG_CTRL_EN v 1 then s.rowWriteReg p (.TIM_TRIG_CTRL k) v else s)

/-- TRIGGER_STOP: EN := 0. -/
def execTriggerStop (p : RegPath) (k : Nat) (v : Word) (s : State) : Answer :=
  .next (if asks F.TIM_TRIG_CTRL_EN v 0 then s.rowWriteReg p (.TIM_TRIG_CTRL k) v else s)

/-- ENGINE_SWAP: SWAP = 1. -/
def execEngineSwap (p : RegPath) (v : Word) (s : State) : Answer :=
  .next (if asks F.TIM_ENG_CTL_SWAP v 1 then s.rowWriteReg p .TIM_ENG_CTL v else s)

/-- REF_CFG_WRITE. -/
def execRefCfgWrite (p : RegPath) (k : Nat) (v : Word) (s : State) : Answer := .next (s.rowWriteReg p (.TIM_REF_CFG k) v)

/-- OSC_QUAL_CFG_WRITE. -/
def execOscQualCfgWrite (p : RegPath) (v : Word) (s : State) : Answer := .next (s.rowWriteReg p .TIM_OSC_QUAL_CFG v)

/-! ## Measurement channels (R402, R403) -/

/-- TIC_CFG_WRITE: TIM_TIC_CFG[k] or TIM_TIC_CFG2[k]. -/
def execTicCfgWrite (p : RegPath) (k : Nat) (second : Bool) (v : Word) (s : State) : Answer :=
  .next (s.rowWriteReg p (if second then .TIM_TIC_CFG2 k else .TIM_TIC_CFG k) v)

/-- TIC_RESULT_READ: a read of TIM_TIC_RES_ST[k]. -/
def execTicResultRead (p : RegPath) (k : Nat) (s : State) : Answer := .next (s.readOut p (Reg.TIM_TIC_RES_ST k).addr)

/-! ## Lanes, tables, stewards, resets (R142, R266, R422, R50, R52) -/

/-- LANE_CFG_WRITE. -/
def execLaneCfgWrite (p : RegPath) (n : Nat) (v : Word) (s : State) : Answer := .next (s.rowWriteReg p (.LNE_LANE_CFG n) v)

/-- REHASH_GO: GO = 1. -/
def execRehashGo (p : RegPath) (v : Word) (s : State) : Answer :=
  .next (if asks F.FWD_REHASH_CTL_GO v 1 then s.rowWriteReg p .FWD_REHASH_CTL v else s)

/-- STEWARD_SWAP: SWAP = 1. -/
def execStewardSwap (p : RegPath) (v : Word) (s : State) : Answer :=
  .next (if asks F.STW_PAIR_CTL_SWAP v 1 then s.rowWriteReg p .STW_PAIR_CTL v else s)

/-- RESET_CTL_WARM: WARM = 1 and RELOAD = 0. -/
def execResetCtlWarm (p : RegPath) (v : Word) (s : State) : Answer :=
  .next (if asks F.STW_RESET_CTL_WARM v 1 && asks F.STW_RESET_CTL_RELOAD v 0 then s.rowWriteReg p .STW_RESET_CTL v else s)

/-- RESET_CTL_RELOAD: RELOAD = 1. -/
def execResetCtlReload (p : RegPath) (v : Word) (s : State) : Answer :=
  .next (if asks F.STW_RESET_CTL_RELOAD v 1 then s.rowWriteReg p .STW_RESET_CTL v else s)

/-- BLOCK_RESET_REQUEST: RST = 1. -/
def execBlockResetRequest (p : RegPath) (d w b : Nat) (v : Word) (s : State) : Answer :=
  .next (if asks F.BLKCTL_RST v 1 then s.rowWriteReg p (.BLKCTL d w b) v else s)

/-! ## Any other register -/

/-- REGISTER_WRITE: a write narrower than a register is discarded (R6). -/
def execRegisterWrite (p : RegPath) (a : Nat) (v : Word) (full : Bool) (s : State) : Answer :=
  .next (if full then (s.pathWrite p a v).takeReset else s)

/-- WINDOW_READ. -/
def execWindowRead (a : Nat) (s : State) : Answer := .next (s.readOut .window a)

end Sys2Proof.Machine
end

