-- ==== Sys2Proof/Machine/Strobe.lean ====
section
/-! DEFINITION. The steward and servo strobes (R321, R343, R349, R427): what happens at each crossing of T. -/
namespace Sys2Proof.Machine

/-- The first integer multiple of `m` ns after now. -/
def State.nextMultiple (s : State) (m : Nat) : Nat := (s.nowNs / m + 1) * m

/-- SYSCLK_IN gives the strobes: before the tick starts, and while its multiplier is unlocked (R427). -/
def State.sysclkStrobes (s : State) : Bool := !s.tim.ticking || s.tim.unlocked

/-- The active engine sends a time word to every chiplet whose link is UP (R328); `offs`: how far each chiplet's copy then stands
from T. -/
def State.timeWords (s : State) (offs : List Int) : State :=
  (List.range 8).foldl (fun (s : State) c =>
    if s.wrn c F.LNE_WRN_STATUS_TIME_VALID = 1 then s.timeWord c (offs.getD c 0) else s) s

/-- What waited for a steward goes on (R423, R424): the head commit, requests that no row stands for, and window accesses. -/
def State.resumeWork (s : State) : State :=
  let w := s.pair.waiting
  let s := ({ s with pair := { s.pair with waiting := [] } }).goOn
  let s := ((List.range 8).filter fun c => s.fld (.HST_MBX_DOORBELL c) F.HST_MBX_DOORBELL_GO == 1 && !s.awaiting (.mbx c)).foldl
    State.answerUnlisted s
  (w.foldl (fun (s : State) x => match x.2 with
    | some v => s.pathWrite .window x.1 v
    | none => s.readOut .window x.1) (s.svcDrain 16)).takeReset

/-- STEWARD_TAKEOVER, where one is due. -/
def State.handOver (s : State) : State := if s.pair.cause.isSome then s.takeover.resumeWork else s

/-- What a steward strobe does while the tick runs: a time command applies (R322), the time words go out (R328), the CLK slots take
their edges (R360), the slots move (R363), selection is evaluated (R364, R367), and a hand-over takes place (R423). -/
def State.stewardActs (s : State) (offs : List Int) : State :=
  let s := if s.engineOn then s.safApply.timeWords offs else s
  let s := (List.range 4).foldl State.clkStrobe s
  let s := (List.range 8).foldl State.slotStep ((List.range 8).foldl State.portFault s)
  (s.selFlags.selectionEval.settle).handOver

/-- STEWARD_STROBE (R321, R427): T crosses a multiple of 1,000 ns, of the unsteered tick without an active engine. Before the tick
starts SYSCLK_IN gives the strobe, and only the stewards act on it. -/
def execStewardStrobe (offs : List Int) (s : State) : Answer :=
  .next (
    if s.sysclkStrobes then
      if !s.boot.begun then s
      else
        let s : State := { s with tim := { s.tim with strobes := s.tim.strobes + 1 } }
        if s.tim.ticking then s.stewardActs offs else s.handOver
    else if s.nowNs < s.tim.nextStw then s
    else State.stewardActs { s with tim := { s.tim with nextStw := s.nextMultiple 1000 } } offs)

/-- What a servo strobe does: the phase accumulators take their samples (R332), the RCLK and PTP slots theirs (R360, R362), a
syntonized PTP slot is evaluated (R371), and the standby engine loads its copy (R347). -/
def State.servoActs (s : State) (copied inWindow : Bool) : State :=
  let s := [4, 5, 6, 7].foldl State.slotServo s.phaseServo
  let s := match s.activeSlot with
    | some k => s.syntServo k
    | none => s
  s.engineCopy copied inWindow

/-- SERVO_STROBE (R321, R427): T crosses a multiple of 10^6 ns, or SYSCLK_IN has given 1,000 steward strobes. -/
def execServoStrobe (s : State) (copied inWindow : Bool := true) : Answer :=
  .next (
    if s.sysclkStrobes then
      if s.tim.strobes < 1000 then s
      else State.servoActs { s with tim := { s.tim with strobes := 0 } } copied inWindow
    else if s.nowNs < s.tim.nextServo then s
    else State.servoActs { s with tim := { s.tim with nextServo := s.nextMultiple 1000000 } } copied inWindow)

end Sys2Proof.Machine
end

