-- ==== Sys2Proof/Machine/TableRows.lean ====
section
/-! DEFINITION. Table operations through command registers (R226, R231, R271, R317, R356): WRITE and CLEAR, which are staged in
the session's transaction or committed alone. -/
namespace Sys2Proof.Machine

/-- The checks of a WRITE or CLEAR in a table's registers, in their order: OP has been checked, then TABLE, INDEX and the entry;
the CODE of the first that fails. -/
def State.cmdFault (s : State) (t : Nat) : Nat :=
  if !(cmdTables t).contains (s.cmdTable t) then 2 else (s.cmdRecord t).check

/-- A WRITE or CLEAR of table `t` is taken up: the session whose write set GO stages it, or commits it alone (R101). -/
def State.cmdStage (s : State) (t : Nat) : State :=
  let h := sgetD s.tblOwner t 0
  match s.session h with
  | none => s.cmdRefused t Stat.noSession
  | some x =>
    if x.role ≠ 2 ∧ x.role ≠ 3 then s.cmdRefused t Stat.role
    else if s.cmdFault t ≠ 0 then s.cmdEnd t (s.cmdFault t) 0
    else match (s.cmdTake t).stageOp h (.cmd t) (s.cmdRecord t) with
      | (s, some (st, d)) => if st = Stat.ok then s.cmdEnd t 0 0 else if st = Stat.table then s.cmdEnd t d 0 else s.cmdRefused t st
      | (s, none) => s

/-- A table's command with the OP given, while a steward works. -/
def State.cmdServe (s : State) (t op : Nat) : State :=
  if s.cmdWaiting t op && !s.stewardHeld then s.cmdStage t else s

/-- PIP_TBL_WRITE. -/
def execPipTblWrite (sl : Nat) (s : State) : Answer := .next (if sl < 8 then s.cmdServe sl 1 else s)

/-- PIP_TBL_CLEAR. -/
def execPipTblClear (sl : Nat) (s : State) : Answer := .next (if sl < 8 then s.cmdServe sl 2 else s)

/-- FWD_TBL_WRITE. -/
def execFwdTblWrite (s : State) : Answer := .next (s.cmdServe 8 1)

/-- FWD_TBL_CLEAR. -/
def execFwdTblClear (s : State) : Answer := .next (s.cmdServe 8 2)

/-- MCAST_TBL_WRITE. -/
def execMcastTblWrite (s : State) : Answer := .next (s.cmdServe 9 1)

/-- MCAST_TBL_CLEAR. -/
def execMcastTblClear (s : State) : Answer := .next (s.cmdServe 9 2)

/-- GATE_TBL_WRITE. -/
def execGateTblWrite (s : State) : Answer := .next (s.cmdServe 10 1)

/-- GATE_TBL_CLEAR. -/
def execGateTblClear (s : State) : Answer := .next (s.cmdServe 10 2)

end Sys2Proof.Machine
end

