-- ==== Sys2Proof/Machine/Dispatch.lean ====
section
/-! DEFINITION. The meaning of every command: one arm per constructor, each a direct call. -/
namespace Sys2Proof.Machine

-- `s` holds everything but the front of the queue, which `step` has taken off.
def exec (i : Instr) (s : State) : Host.Outcome State Fault Refusal :=
  match i with
  | .portLanesUp p l r => Sys2Proof.Machine.execPortLanesUp p s l r
  | .portUp p skew => Sys2Proof.Machine.execPortUp p s skew
  | .portAlignFail p l r => Sys2Proof.Machine.execPortAlignFail p s l r
  | .portDown p cause => Sys2Proof.Machine.execPortDown p cause s
  | .parkWindowExpires p => Sys2Proof.Machine.execParkWindowExpires p s
  | .frameStartRx f => Sys2Proof.Machine.execFrameStartRx f s
  | .frameEndRx id => Sys2Proof.Machine.execFrameEndRx id s
  | .pauseFrameRx id => Sys2Proof.Machine.execPauseFrameRx id s
  | .pauseExpires p prio => Sys2Proof.Machine.execPauseExpires p prio s
  | .pauseRepeatDue p prio => Sys2Proof.Machine.execPauseRepeatDue p prio s
  | .pauseFrameTx p => Sys2Proof.Machine.execPauseFrameTx p s
  | .fecCodewordError p corrected => Sys2Proof.Machine.execFecCodewordError p corrected s
  | .frameParse id => Sys2Proof.Machine.execFrameParse id s
  | .classify id badRows => Sys2Proof.Machine.execClassify id badRows s
  | .dpiVerdict id badRows => Sys2Proof.Machine.execDpiVerdict id badRows s
  | .recircPass id badRows => Sys2Proof.Machine.execRecircPass id badRows s
  | .pipTblWrite sl => Sys2Proof.Machine.execPipTblWrite sl s
  | .pipTblClear sl => Sys2Proof.Machine.execPipTblClear sl s
  | .pipTblRead sl => Sys2Proof.Machine.execPipTblRead sl s
  | .lookup id shorter => Sys2Proof.Machine.execLookup id shorter s
  | .tier2ReadDone id e1 e2 => Sys2Proof.Machine.execTier2ReadDone id e1 e2 s
  | .learnCheck capacity ecc => Sys2Proof.Machine.execLearnCheck capacity s ecc
  | .relocationMoveEnd ecc => Sys2Proof.Machine.execRelocationMoveEnd s ecc
  | .goneClear bucket => Sys2Proof.Machine.execGoneClear bucket s
  | .fwdTblWrite => Sys2Proof.Machine.execFwdTblWrite s
  | .fwdTblClear => Sys2Proof.Machine.execFwdTblClear s
  | .fwdTblRead ecc => Sys2Proof.Machine.execFwdTblRead s ecc
  | .fwdTblReadNext ecc => Sys2Proof.Machine.execFwdTblReadNext s ecc
  | .fwdTblFlush => Sys2Proof.Machine.execFwdTblFlush s
  | .agingPassStart => Sys2Proof.Machine.execAgingPassStart s
  | .carawayVisit ecc => Sys2Proof.Machine.execCarawayVisit s ecc
  | .carawayPassEnd => Sys2Proof.Machine.execCarawayPassEnd s
  | .t1DecayTick => Sys2Proof.Machine.execT1DecayTick s
  | .rehashGo path value => Sys2Proof.Machine.execRehashGo path value s
  | .rehashStepDone ecc => Sys2Proof.Machine.execRehashStepDone s ecc
  | .hbmStackDown h => Sys2Proof.Machine.execHbmStackDown h s
  | .enqueue id spillBudget => Sys2Proof.Machine.execEnqueue id spillBudget s
  | .frameLastCell id => Sys2Proof.Machine.execFrameLastCell id s
  | .spillRefill g q bad => Sys2Proof.Machine.execSpillRefill g q s bad
  | .matchingRound arrived drained => Sys2Proof.Machine.execMatchingRound arrived drained s
  | .bankCopyDone bank => Sys2Proof.Machine.execBankCopyDone bank s
  | .mcastTblWrite => Sys2Proof.Machine.execMcastTblWrite s
  | .mcastTblClear => Sys2Proof.Machine.execMcastTblClear s
  | .mcastTblRead => Sys2Proof.Machine.execMcastTblRead s
  | .frameTxStart p lane ball => Sys2Proof.Machine.execFrameTxStart p lane ball s
  | .frameTxEnd p ecc => Sys2Proof.Machine.execFrameTxEnd p ecc s
  | .standbyAckTimeout => Sys2Proof.Machine.execStandbyAckTimeout s
  | .stewardLockstepMismatch => Sys2Proof.Machine.execStewardLockstepMismatch s
  | .stewardMemoryError => Sys2Proof.Machine.execStewardMemoryError s
  | .stewardSwap path value => Sys2Proof.Machine.execStewardSwap path value s
  | .stewardRotation => Sys2Proof.Machine.execStewardRotation s
  | .stewardSelftestDone pass => Sys2Proof.Machine.execStewardSelftestDone pass s
  | .standbySelftest pass => Sys2Proof.Machine.execStandbySelftest pass s
  | .stewardSingleTimer => Sys2Proof.Machine.execStewardSingleTimer s
  | .sumacWindow groups => Sys2Proof.Machine.execSumacWindow groups s
  | .unitStalled kind idx frames => Sys2Proof.Machine.execUnitStalled kind idx frames s
  | .unitSelftestDone kind idx pass probes => Sys2Proof.Machine.execUnitSelftestDone kind idx pass probes s
  | .avsEval demands => Sys2Proof.Machine.execAvsEval demands s
  | .avsReadback mv => Sys2Proof.Machine.execAvsReadback mv s
  | .avsRetry mv => Sys2Proof.Machine.execAvsRetry mv s
  | .memoryScrub found => Sys2Proof.Machine.execMemoryScrub found s
  | .rowScrub table row => Sys2Proof.Machine.execRowScrub table row s
  | .spareSelftest failed => Sys2Proof.Machine.execSpareSelftest failed s
  | .engineStandbySelftest pass => Sys2Proof.Machine.execEngineStandbySelftest pass s
  | .sensorCheck failed => Sys2Proof.Machine.execSensorCheck failed s
  | .tempReading sensor eighths => Sys2Proof.Machine.execTempReading sensor eighths s
  | .pcieLinkLoss cause => Sys2Proof.Machine.execPcieLinkLoss cause s
  | .pcieLinkUp speed width => Sys2Proof.Machine.execPcieLinkUp speed width s
  | .svcLinkChange up lock => Sys2Proof.Machine.execSvcLinkChange up lock s
  | .hostRxDeliver r bufs => Sys2Proof.Machine.execHostRxDeliver r bufs s
  | .hostTxFrame r chain data badRows => Sys2Proof.Machine.execHostTxFrame r chain data badRows s
  | .hostTxRetry r spillBudget => Sys2Proof.Machine.execHostTxRetry r spillBudget s
  | .hostTxCompletion r => Sys2Proof.Machine.execHostTxCompletion r s
  | .ringEnable path x value => Sys2Proof.Machine.execRingEnable path x value s
  | .ringDisable path x value => Sys2Proof.Machine.execRingDisable path x value s
  | .ringStopped x => Sys2Proof.Machine.execRingStopped x s
  | .ringDmaError x err frame => Sys2Proof.Machine.execRingDmaError x err frame s
  | .ringNoticeTimeout x => Sys2Proof.Machine.execRingNoticeTimeout x s
  | .irqClaim path t => Sys2Proof.Machine.execIrqClaim path t s
  | .irqEoi path t value => Sys2Proof.Machine.execIrqEoi path t value s
  | .irqSrcWrite path n value => Sys2Proof.Machine.execIrqSrcWrite path n value s
  | .msixUnmask op offset value => Sys2Proof.Machine.execMsixUnmask op offset value s
  | .counterRead path id => Sys2Proof.Machine.execCounterRead path id s
  | .histCfgWrite path p value => Sys2Proof.Machine.execHistCfgWrite path p value s
  | .stewardStrobe offs => Sys2Proof.Machine.execStewardStrobe offs s
  | .servoStrobe copied inWindow => Sys2Proof.Machine.execServoStrobe s copied inWindow
  | .safSet path value => Sys2Proof.Machine.execSafSet path value s
  | .safStep path value => Sys2Proof.Machine.execSafStep path value s
  | .safSlew path value => Sys2Proof.Machine.execSafSlew path value s
  | .safCancel path value => Sys2Proof.Machine.execSafCancel path value s
  | .slewComplete => Sys2Proof.Machine.execSlewComplete s
  | .safTimeRead path => Sys2Proof.Machine.execSafTimeRead path s
  | .phaseSample p wrapped outOfRange => Sys2Proof.Machine.execPhaseSample p wrapped outOfRange s
  | .ptpSyncRx id => Sys2Proof.Machine.execPtpSyncRx id s
  | .ptpFollowUpRx id => Sys2Proof.Machine.execPtpFollowUpRx id s
  | .ptpDelayReqRx id => Sys2Proof.Machine.execPtpDelayReqRx id s
  | .ptpDelayRespRx id => Sys2Proof.Machine.execPtpDelayRespRx id s
  | .ptpAnnounceRx id => Sys2Proof.Machine.execPtpAnnounceRx id s
  | .ptpSignalingRx id => Sys2Proof.Machine.execPtpSignalingRx id s
  | .ptpSyncTx p => Sys2Proof.Machine.execPtpSyncTx p s
  | .ptpFollowUpTx p => Sys2Proof.Machine.execPtpFollowUpTx p s
  | .ptpDelayRespTx p => Sys2Proof.Machine.execPtpDelayRespTx p s
  | .ptpAnnounceTx p => Sys2Proof.Machine.execPtpAnnounceTx p s
  | .ptpDelayReqTx p => Sys2Proof.Machine.execPtpDelayReqTx p s
  | .ptpSignalingTx p => Sys2Proof.Machine.execPtpSignalingTx p s
  | .announceTimeout p => Sys2Proof.Machine.execAnnounceTimeout p s
  | .l1PeerTimeout p => Sys2Proof.Machine.execL1PeerTimeout p s
  | .triggerArm path k value => Sys2Proof.Machine.execTriggerArm path k value s
  | .triggerStop path k value => Sys2Proof.Machine.execTriggerStop path k value s
  | .triggerInstant k => Sys2Proof.Machine.execTriggerInstant k s
  | .ppsPulseEnd k => Sys2Proof.Machine.execPpsPulseEnd k s
  | .gateEntryChange p => Sys2Proof.Machine.execGateEntryChange p s
  | .gateScheduleChange p => Sys2Proof.Machine.execGateScheduleChange p s
  | .gateTblWrite => Sys2Proof.Machine.execGateTblWrite s
  | .gateTblClear => Sys2Proof.Machine.execGateTblClear s
  | .gateTblRead => Sys2Proof.Machine.execGateTblRead s
  | .engineFault unlocked => Sys2Proof.Machine.execEngineFault s unlocked
  | .engineSwap path value => Sys2Proof.Machine.execEngineSwap path value s
  | .engineSelftestDone pass => Sys2Proof.Machine.execEngineSelftestDone pass s
  | .refEdge k code => Sys2Proof.Machine.execRefEdge k code s
  | .refLos k => Sys2Proof.Machine.execRefLos k s
  | .freqEstimate => Sys2Proof.Machine.execFreqEstimate s
  | .slotRemainExpires k => Sys2Proof.Machine.execSlotRemainExpires k s
  | .refCfgWrite path k value => Sys2Proof.Machine.execRefCfgWrite path k value s
  | .switchCommit => Sys2Proof.Machine.execSwitchCommit s
  | .holdoverStore => Sys2Proof.Machine.execHoldoverStore s
  | .holdoverExpires => Sys2Proof.Machine.execHoldoverExpires s
  | .ticEdge k rising code => Sys2Proof.Machine.execTicEdge k rising code s
  | .stopStampExpires k => Sys2Proof.Machine.execStopStampExpires k s
  | .intervalTimeout k => Sys2Proof.Machine.execIntervalTimeout k s
  | .recipGateEnd k => Sys2Proof.Machine.execRecipGateEnd k s
  | .ticResultRead path k => Sys2Proof.Machine.execTicResultRead path k s
  | .ticCfgWrite path k second value => Sys2Proof.Machine.execTicCfgWrite path k second value s
  | .calRotationStart moves due => Sys2Proof.Machine.execCalRotationStart moves s due
  | .calStepDone seen moves => Sys2Proof.Machine.execCalStepDone seen moves s
  | .coldReset => Sys2Proof.Machine.execColdReset s
  | .startupBegin => Sys2Proof.Machine.execStartupBegin s
  | .startupStepEnd o => Sys2Proof.Machine.execStartupStepEnd o s
  | .rstNLow => Sys2Proof.Machine.execRstNLow s
  | .warmReset => Sys2Proof.Machine.execWarmReset s
  | .railLost => Sys2Proof.Machine.execRailLost s
  | .resetCtlWarm path value => Sys2Proof.Machine.execResetCtlWarm path value s
  | .resetCtlReload path value => Sys2Proof.Machine.execResetCtlReload path value s
  | .blockResetRequest path d w b value => Sys2Proof.Machine.execBlockResetRequest path d w b value s
  | .blockResetDone d w b => Sys2Proof.Machine.execBlockResetDone d w b s
  | .blockResetTimeout d w b => Sys2Proof.Machine.execBlockResetTimeout d w b s
  | .oscPresenceGate ppb => Sys2Proof.Machine.execOscPresenceGate ppb s
  | .oscStabilityGate deci => Sys2Proof.Machine.execOscStabilityGate deci s
  | .ocxoWarmHeld => Sys2Proof.Machine.execOcxoWarmHeld s
  | .ocxoWarmLost => Sys2Proof.Machine.execOcxoWarmLost s
  | .ocxoSlow => Sys2Proof.Machine.execOcxoSlow s
  | .oscQualCfgWrite path value => Sys2Proof.Machine.execOscQualCfgWrite path value s
  | .openReq via => Sys2Proof.Machine.execOpenReq via s
  | .auth via => Sys2Proof.Machine.execAuth via s
  | .openingTimeout handle => Sys2Proof.Machine.execOpeningTimeout handle s
  | .holdOffExpires chan src => Sys2Proof.Machine.execHoldOffExpires chan src s
  | .close via => Sys2Proof.Machine.execClose via s
  | .idleTimeout handle => Sys2Proof.Machine.execIdleTimeout handle s
  | .bind via => Sys2Proof.Machine.execBind via s
  | .unbind via => Sys2Proof.Machine.execUnbind via s
  | .read via => Sys2Proof.Machine.execRead via s
  | .write via => Sys2Proof.Machine.execWrite via s
  | .readStaged via => Sys2Proof.Machine.execReadStaged via s
  | .begin via => Sys2Proof.Machine.execBegin via s
  | .commit via => Sys2Proof.Machine.execCommit via s
  | .abort via => Sys2Proof.Machine.execAbort via s
  | .tableOp via => Sys2Proof.Machine.execTableOp via s
  | .txnStatus via => Sys2Proof.Machine.execTxnStatus via s
  | .imageBegin via => Sys2Proof.Machine.execImageBegin via s
  | .imageData via => Sys2Proof.Machine.execImageData via s
  | .imageEnd via => Sys2Proof.Machine.execImageEnd via s
  | .svcFrameRx bytes => Sys2Proof.Machine.execSvcFrameRx bytes s
  | .epochPromotion ids => Sys2Proof.Machine.execEpochPromotion s ids
  | .commitApply ecc => Sys2Proof.Machine.execCommitApply s ecc
  | .commitPoint => Sys2Proof.Machine.execCommitPoint s
  | .flashWriteDone flaws err => Sys2Proof.Machine.execFlashWriteDone flaws err s
  | .bankEraseDone err => Sys2Proof.Machine.execBankEraseDone err s
  | .registerWrite path addr value full => Sys2Proof.Machine.execRegisterWrite path addr value full s
  | .windowRead addr => Sys2Proof.Machine.execWindowRead addr s
  | .bandCheckEnd b count => Sys2Proof.Machine.execBandCheckEnd b count s
  | .lockDeclared b ps => Sys2Proof.Machine.execLockDeclared b ps s
  | .lockAttemptFail b => Sys2Proof.Machine.execLockAttemptFail b s
  | .alignmentDone b => Sys2Proof.Machine.execAlignmentDone b s
  | .alignTimeout b => Sys2Proof.Machine.execAlignTimeout b s
  | .lossOfLock b cause => Sys2Proof.Machine.execLossOfLock b cause s
  | .pllRetry b => Sys2Proof.Machine.execPllRetry b s
  | .coeffRequestRx n req => Sys2Proof.Machine.execCoeffRequestRx n req s
  | .coeffRequestRepeat n req anew env => Sys2Proof.Machine.execCoeffRequestRepeat n req s anew env
  | .trainSuccess n => Sys2Proof.Machine.execTrainSuccess n s
  | .trainTimeout n env => Sys2Proof.Machine.execTrainTimeout n s env
  | .cwLockGained n => Sys2Proof.Machine.execCwLockGained n s
  | .cwLockLost n => Sys2Proof.Machine.execCwLockLost n s
  | .cwSearchTimeout n env => Sys2Proof.Machine.execCwSearchTimeout n s env
  | .lossOfSignal n => Sys2Proof.Machine.execLossOfSignal n s
  | .holdoffExpires n env => Sys2Proof.Machine.execHoldoffExpires n s env
  | .laneSleepEnter p => Sys2Proof.Machine.execLaneSleepEnter p s
  | .wakeDetected n => Sys2Proof.Machine.execWakeDetected n s
  | .probeDue p => Sys2Proof.Machine.execProbeDue p s
  | .wakeToneDone n env => Sys2Proof.Machine.execWakeToneDone n s env
  | .laneCfgWrite path n value => Sys2Proof.Machine.execLaneCfgWrite path n value s
  | .aniseCycleStart n => Sys2Proof.Machine.execAniseCycleStart n s
  | .anisePhaseEnd n o => Sys2Proof.Machine.execAnisePhaseEnd n o s
  | .prbsLockGained n env => Sys2Proof.Machine.execPrbsLockGained n s env
  | .prbsSymbolMismatch n => Sys2Proof.Machine.execPrbsSymbolMismatch n s
  | .wornanAttemptStart c => Sys2Proof.Machine.execWornanAttemptStart c s
  | .wornanTrainDone c roundTrip off => Sys2Proof.Machine.execWornanTrainDone c roundTrip s off
  | .wornanAttemptFail c => Sys2Proof.Machine.execWornanAttemptFail c s
  | .wornanLinkFault c => Sys2Proof.Machine.execWornanLinkFault c s
  | .wornanRetry c => Sys2Proof.Machine.execWornanRetry c s
  | .wornanFlitError c corrected => Sys2Proof.Machine.execWornanFlitError c corrected s
  | .tapInstructionLoad code trst cells => Sys2Proof.Machine.execTapInstructionLoad code s trst cells
  | .jtagRegAccess write addr data => Sys2Proof.Machine.execJtagRegAccess write addr data s

end Sys2Proof.Machine
end

