-- ==== Sys2Proof/Machine/Pins.lean ====
section
/-! DEFINITION. The pins that the state drives or holds (R48, R521, R528, R537), and the PCI Revision ID (R509). -/
namespace Sys2Proof.Machine

/-- The pins are held: power-up to the end of step 2, and while RST_N is low (R521). A unit halted at step 2 has left
it. -/
def State.pinsHeld (s : State) : Bool := s.boot.rstLow || !s.stepTwoDone

/-- In scan hold the boundary register drives the pins (R537): what it drives at pin `n`, PPS_OUT0 to 3 being pins 0 to 3, CLK_OUT0 to 3
pins 4 to 7, TEMP_N 8 and FAULT_N 9. HIGHZ drives none. -/
def State.scanDrives (s : State) (n : Nat) : Option Bool :=
  if tapInstr s.boot.ir = .highz then none else some (s.boot.boundary.getD (Config.boundaryCell n) false)

/-- The SPI flash pins are tri-stated, so that a board programmer may drive the flash (R48, R521); in scan hold under HIGHZ. -/
def State.spiTristated (s : State) : Bool := if s.boot.scanHold then tapInstr s.boot.ir == .highz else s.pinsHeld

/-- TDO is tri-stated but while the TAP shifts data (R521). -/
def State.tdoTristated (s : State) (shifting : Bool) : Bool := s.pinsHeld && !shifting

/-- The transmitters of PCIe and of the service port are squelched by the pins' hold (R521). -/
def State.hostSquelched (s : State) : Bool := s.pinsHeld

/-- PPS_OUTk (k = 0 to 3) and CLK_OUTk at the pins: low while the pins are held (R341, R521). -/
def State.ppsAtPin (s : State) (k : Nat) : Bool :=
  if s.boot.scanHold then s.scanDrives k == some true else !s.pinsHeld && s.ppsPin k
def State.clkAtPin (s : State) (k : Nat) : Bool :=
  if s.boot.scanHold then s.scanDrives (4 + k) == some true else !s.pinsHeld && s.clkPin k

/-- TEMP_N is driven low: a TEMP_CRIT condition holds (R446, R528). -/
def State.tempNLow (s : State) : Bool :=
  if s.boot.scanHold then s.scanDrives 8 == some false else !s.pinsHeld && s.hlt.raised.any fun x => x.1 == Ev.tempCrit

/-- FAULT_N is driven low: a FAULT condition is active, or start-up stands in RECOVERY, HALT_FUSE or HALT_STEWARD (R528). -/
def State.faultNLow (s : State) : Bool :=
  if s.boot.scanHold then s.scanDrives 9 == some false
  else !s.pinsHeld &&
    (F.HLT_HEALTH_STATUS_FAULT_ACTIVE.get s.healthStatus != 0 || s.bootStep == 0xB || s.bootStep == 0xC || s.bootStep == 0xD)

/-- The Revision ID in PCI configuration space (R509). -/
def State.pciRevision (s : State) : Byte := (s.get .STW_ID_STEPPING).setWidth 8

end Sys2Proof.Machine
end

