-- ==== Sys2Proof/Safety.lean ====
section
/-! DEFINITION. What counts as a safe run, and the frames that statements are written in: what a command leaves as it was. -/
namespace Sys2Proof

open Sys2Proof.Machine

/-- A step neither stops with a fault nor is refused. -/
def Answers (s : State) : Prop := ∃ t, step s = .next t

/-- The stores that hold registers, their two staged banks, counters, frames, replicas and sessions have their one form:
keys strictly rising, so that each key names one entry. -/
structure StoresCanonical (s : State) : Prop where
  regs : skeysFrom none s.regs = true
  st0 : skeysFrom none s.st0 = true
  st1 : skeysFrom none s.st1 = true
  cnt : skeysFrom none s.cnt = true
  frames : skeysFrom none s.frames = true
  reps : skeysFrom none s.reps = true
  sessions : skeysFrom none s.sessions = true

/-- Frames name an ingress port, or a transmit ring, and a class; replicas name an egress queue (R23, R26, R459). -/
structure FramesInRange (s : State) : Prop where
  ports : ∀ kv ∈ s.frames, kv.2.port < 1024
  rings : ∀ kv ∈ s.frames, kv.2.fromHost = true → kv.2.port < 32
  classes : ∀ kv ∈ s.frames, kv.2.cls < 16
  queues : ∀ kv ∈ s.reps, kv.2.q < 16384

/-- Every register outside `rs` reads as before: its word, and the bits of it that a block reset has put at Reset (R51). -/
def KeepsRegs (rs : List Reg) (s t : State) : Prop :=
  ∀ q : Reg, (∀ r ∈ rs, q.addr ≠ r.addr) → t.get q = s.get q ∧ t.resetBits q = s.resetBits q

/-- Every counter outside `ids` reads as before. -/
def KeepsCounters (ids : List Nat) (s t : State) : Prop := ∀ id, id ∉ ids → t.counter id = s.counter id

/-- Nothing changes but the registers `rs` and the counters `ids`. -/
structure Writes (rs : List Reg) (ids : List Nat) (s t : State) : Prop where
  rest : t = { s with regs := t.regs, masked := t.masked, cnt := t.cnt }
  regs : KeepsRegs rs s t
  cnts : KeepsCounters ids s t

/-- The addresses that a health event or an interrupt event writes: the log and its head (R444), and the sources (R473). -/
def signalAddr (a : Nat) : Prop :=
  a = Reg.HLT_LOG_HEAD.addr ∨ (∃ j k, j < 256 ∧ k < 8 ∧ a = (Reg.HLT_LOG j k).addr) ∨
  ∃ i, i < 128 ∧ a = (Reg.HST_IRQ_SRC i).addr

/-- Every register outside `rs` and outside what signalling writes reads as before. -/
def SignalsRegs (rs : List Reg) (s t : State) : Prop :=
  ∀ q : Reg, ¬ signalAddr q.addr → (∀ r ∈ rs, q.addr ≠ r.addr) → t.get q = s.get q ∧ t.resetBits q = s.resetBits q

/-- Every counter outside `ids` and outside the counters of health events (0x100 to 0x1FF, R486) reads as before. -/
def SignalsCounters (ids : List Nat) (s t : State) : Prop :=
  ∀ id, ¬ (0x100 ≤ id ∧ id < 0x200) → id ∉ ids → t.counter id = s.counter id

/-- Nothing changes but the registers `rs`, the counters `ids`, and what signalling changes: the health log and its event
counters, the raised conditions, the interrupt controller, and messages sent. -/
structure Signals (rs : List Reg) (ids : List Nat) (s t : State) : Prop where
  rest : t = { s with regs := t.regs, masked := t.masked, cnt := t.cnt, hlt := t.hlt, irq := t.irq, out := t.out }
  regs : SignalsRegs rs s t
  cnts : SignalsCounters ids s t

/-- The counter advanced by one: the value one more, WRAP kept or set by a wrap (R487, R488). -/
def CountedOnce (id : Nat) (s t : State) : Prop :=
  t.counter id = ⟨(s.counter id).val + 1, (s.counter id).wrap || (s.counter id).val == BitVec.allOnes 64⟩

/-- A replica but for the mark that a yield of its frame was counted. -/
def Replica.calm (r : Replica) : Replica := { r with yielded := false }

/-- Yields of rungs 2 and 6 may have been counted, each with its mark (R311); replicas and counters are else as before. -/
structure YieldsNoted (s t : State) : Prop where
  reps : ∀ k, (t.rep k).map Replica.calm = (s.rep k).map Replica.calm
  cnts : KeepsCounters [C.ladderYield 2, C.ladderYield 6] s t

/-- The window is bound to an Expert session of HANDLE `h`, and the device serves it: start-up step 2 has ended, no step has
halted, a steward works, and no reset is asked for (R97, R98, R423, R426). -/
structure ExpertWindow (s : State) (h : Nat) : Prop where
  holder : ∃ x, s.winHolder = some (h, x) ∧ x.role = 3
  up : s.stepTwoDone = true
  live : s.halted = false
  stewards : s.stewardHeld = false
  noReset : s.boot.resetReq = none

/-- A write of the word by the Expert session passes every check of R504 and reaches the register. -/
def Passes (s : State) (h : Nat) (r : Reg) (v : Word) : Prop :=
  s.checkWrite (.sess h 3) r.addr v = .inr (r, v) ∧ s.instIn s.curSel r = true

/-- The register holds what a direct write of the word leaves, and the running image has taken it in (R7, R47). -/
def wrote (s : State) (r : Reg) (v : Word) : State := (s.put r (r.written (s.get r) v)).noteImage r

/-- A request of a command stands on a path, is not yet taken up, and passes checks 1 and 2 of R89; no step of start-up has
halted and a steward works (R423, R426). -/
structure Asked (s : State) (v : Via) (code src : Nat) (ws : List Word) : Prop where
  standing : s.request v = some (src, ws)
  command : reqCommand ws = code
  fresh : s.awaiting (replyFor v src ws) = false
  live : s.halted = false
  stewards : s.stewardHeld = false
  len : lengthOk code ws = true
  flags : flagsOk v code ws = true

/-- The request names an open session of its own path (check 3 of R89). -/
structure AskedBy (s : State) (v : Via) (code src : Nat) (ws : List Word) (h : Nat) (x : Session) : Prop where
  asked : Asked s v code src ws
  named : (ws.getD 1 0).toNat = h
  known : s.session h = some x
  own : x.isOn v src = true

/-- A command that a session sends: its path, its code, and whether an OPENING session may send it (R84, R90). -/
def sessionCommand : Instr → Option (Via × Nat × Bool)
  | .auth v => some (v, 0x02, true)
  | .close v => some (v, 0x03, true)
  | .bind v => some (v, 0x04, false)
  | .unbind v => some (v, 0x05, false)
  | .read v => some (v, 0x10, false)
  | .write v => some (v, 0x11, false)
  | .readStaged v => some (v, 0x12, false)
  | .begin v => some (v, 0x20, false)
  | .commit v => some (v, 0x21, false)
  | .abort v => some (v, 0x22, false)
  | .tableOp v => some (v, 0x23, false)
  | .txnStatus v => some (v, 0x24, false)
  | .imageBegin v => some (v, 0x30, false)
  | .imageData v => some (v, 0x31, false)
  | .imageEnd v => some (v, 0x32, false)
  | _ => none

/-- The counter has advanced by `n`. -/
def CountedTimes (id n : Nat) (s t : State) : Prop := (t.counter id).val = (s.counter id).val + BitVec.ofNat 64 n

/-- Every field of a word is as in another word. -/
def Holds (w : Word) (fs : List Fld) (v : Word) : Prop := ∀ f ∈ fs, f.get w = f.get v

/-- A WRITE (1) or CLEAR (2) through a table's command registers: the table (0 to 7 the PIP slice, 8 FWD, 9 SWC, 10 TIM) and
the OP of the command (R226). -/
def tableCommand : Instr → Option (Nat × Nat)
  | .pipTblWrite sl => if sl < 8 then some (sl, 1) else none
  | .pipTblClear sl => if sl < 8 then some (sl, 2) else none
  | .fwdTblWrite => some (8, 1)
  | .fwdTblClear => some (8, 2)
  | .mcastTblWrite => some (9, 1)
  | .mcastTblClear => some (9, 2)
  | .gateTblWrite => some (10, 1)
  | .gateTblClear => some (10, 2)
  | _ => none

end Sys2Proof
end

