-- ==== Sys2Proof/Certificates/Slice0/Obligations.lean ====
section
/-! DEFINITION. The statements for the provers, one definition each; OBLIGATIONS.json lists what each states. -/

open Sys2Proof Sys2Proof.Machine

/-- For every command, state and queue: the step takes the command at the front and answers what the command answers
on the state whose queue is the rest. -/
def Obligations.StepRunsFrontCommand : Prop :=
  (∀ (c : Instr) (rest : List Instr) (s : State), s.pending = c :: rest → step s = exec c { s with pending := rest }) ∧
  (∀ (c : Instr) (s : State), step { s with pending := c :: s.pending } = exec c s)

/-- That an empty queue is a tick is the model's choice, log 1. Before the tick starts the state stays as it is. With
an active engine T grows by INC and the tick count by one; without one T grows by 1 ns, on the unsteered tick (R349,
log 84). No register but TIM_SAF_STATUS changes, and of the state of time only T, the tick count and what remains of a
slew. -/
def Obligations.EmptyQueueTicks : Prop :=
  ∀ s : State, s.pending = [] → skeysFrom none s.regs = true → ∃ t, step s = .next t ∧
    (s.tim.ticking = false → t = s) ∧
    (s.engineOn = true → t.tim.t = s.tim.t + BitVec.ofNat 96 s.inc.toNat ∧ t.tim.tick = s.tim.tick + 1) ∧
    (s.tim.ticking = true → s.engineOn = false → t.tim.t = s.tim.t + BitVec.ofNat 96 (2 ^ 32) ∧ t.tim.tick = s.tim.tick + 1) ∧
    KeepsRegs [.TIM_SAF_STATUS] s t ∧
    t = { s with regs := t.regs, masked := t.masked, tim := { s.tim with t := t.tim.t, tick := t.tim.tick, slew := t.tim.slew } }

/-- For every command with every operand and every state: the command answers a next state, never a fault or a
refusal, and the commands that wait behind it are the same after it. -/
def Obligations.EveryCommandAnswers : Prop :=
  ∀ (c : Instr) (s : State), ∃ t, exec c s = .next t ∧ t.pending = s.pending

/-- For every register with every index that the map admits (a BLKCTL of a populated block): the decoder reads that
register, with the same indices, from the address that the map gives it. For every address: where the decoder answers
a register, the register's index is valid and its address is that one, so two registers never share an address, no bit
of an address is dropped, and an address that is not a multiple of four names none. -/
def Obligations.RegisterMapDecodes : Prop :=
  (∀ r : Reg, r.indexOk = true → (∀ d w b, r = .BLKCTL d w b → blockPopulated d w b = true) → decodeAddr r.addr = some r) ∧
  (∀ (a : Nat) (r : Reg), decodeAddr a = some r → r.addr = a ∧ r.indexOk = true ∧ a % 4 = 0 ∧ a < 0x4000000) ∧
  (∀ (q r : Reg), decodeAddr q.addr = some q → decodeAddr r.addr = some r → q.addr = r.addr → q = r)

/-- From every state whose stores of registers, staged banks, counters, frames, replicas and sessions have strictly
rising keys, so that each name has one value, and whose frames name an ingress port below 1,024 or a transmit ring
below 32 and a class below 16, and whose replicas a queue below 16,384: every step, whatever command it runs with
whatever operands, leads to such a state again. -/
def Obligations.EveryStepKeepsTheStores : Prop :=
  ∀ s t : State, StoresCanonical s → FramesInRange s → step s = .next t → StoresCanonical t ∧ FramesInRange t

/-- At reset every register and both staged banks read their Reset values (a value that the manual does not give is
the model's, log 4), STW_BOOT_STATUS names step 1 with cause 0 and no image, T is 0 and does not advance, no command
waits, and the stores meet the invariant of EveryStepKeepsTheStores. -/
def Obligations.ResetMachine : Prop :=
  StoresCanonical State.reset ∧ FramesInRange State.reset ∧ (∀ r : Reg, State.reset.get r = r.resetWord) ∧
    (∀ e, ∀ r : Reg, State.reset.stGet e r = r.resetWord) ∧ State.reset.bootStep = 1 ∧
    State.reset.fld .STW_BOOT_STATUS F.STW_BOOT_STATUS_CAUSE = 0 ∧ State.reset.fld .STW_BOOT_STATUS F.STW_BOOT_STATUS_IMAGE = 0 ∧
    State.reset.boot.begun = false ∧ State.reset.boot.image = none ∧ State.reset.tim.t = 0 ∧
    State.reset.tim.ticking = false ∧ State.reset.pending = [] ∧ State.reset.sessions = [] ∧ (∀ id, (State.reset.counter id).val = 0)

/-- An occurrence adds one to HLT_EVENTS of its code and, for a condition, leaves it raised. It is logged, advancing
HLT_LOG_HEAD by one, unless the same code and instance was logged within 10 ms, when the log stays as it is. Clearing
a raised condition logs one entry with CLEAR = 1, whatever was logged before, and leaves it not raised; that a
clearing is not counted, so that the counters stay, is the model's choice (log 100). Clearing a condition that is not
raised changes nothing at all. The counts of HLT_HEALTH_STATUS are those of the raised conditions of each severity (up
to 255), so a clearing takes one away. A cold reset and a warm one leave no condition raised. -/
def Obligations.HealthEventsCounted : Prop :=
  (∀ (s : State) (code inst detail : Nat), StoresCanonical s → code < 256 → let t := s.event code inst detail
      let head := s.fld .HLT_LOG_HEAD F.HLT_LOG_HEAD_SEQ
      let merged : Prop := ∃ at', sfind s.hlt.lastLog (evKey code inst) = some at' ∧ s.tim.tick - at' < 10000000
      CountedOnce (C.events code) s t ∧ (evCondition code = true → t.raised code inst = true) ∧
      (merged → t.regs = s.regs) ∧
      (¬ merged → t.get .HLT_LOG_HEAD = s.get .HLT_LOG_HEAD + 1 ∧
        t.get (.HLT_LOG (head % 256) 0) = BitVec.ofNat 32 head ∧
        t.get (.HLT_LOG (head % 256) 1) = BitVec.ofNat 32 (code + evSeverity code * 256) ∧
        t.get (.HLT_LOG (head % 256) 2) = BitVec.ofNat 32 inst ∧ t.get (.HLT_LOG (head % 256) 3) = BitVec.ofNat 32 detail ∧
        sfind t.hlt.lastLog (evKey code inst) = some s.tim.tick)) ∧
  (∀ (s : State) (code inst : Nat), StoresCanonical s → code < 256 → let t := s.eventClear code inst
      let head := s.fld .HLT_LOG_HEAD F.HLT_LOG_HEAD_SEQ
      (s.raised code inst = false → t = s) ∧
      (s.raised code inst = true → t.raised code inst = false ∧ t.cnt = s.cnt ∧
        t.get .HLT_LOG_HEAD = s.get .HLT_LOG_HEAD + 1 ∧
        t.get (.HLT_LOG (head % 256) 1) = BitVec.ofNat 32 (code + evSeverity code * 256 + 1024) ∧
        (∀ x, x ∈ t.hlt.raised ↔ x ∈ s.hlt.raised ∧ x ≠ (code, inst)))) ∧
  (∀ s : State, F.HLT_HEALTH_STATUS_DEGRADED_ACTIVE.get s.healthStatus =
        min 255 (s.hlt.raised.filter fun e => evSeverity e.1 == 1).length ∧
      F.HLT_HEALTH_STATUS_FAULT_ACTIVE.get s.healthStatus = min 255 (s.hlt.raised.filter fun e => evSeverity e.1 == 2).length) ∧
  (∀ s : State, (∃ t, exec .coldReset s = .next t ∧ t.hlt.raised = []) ∧
      (s.boot.rstLow = false → ∃ t, exec .rstNLow s = .next t ∧ t.hlt.raised = []))

/-- The timestamp of now is below 2^64; its bits 63 to 16 are bits 47 to 0 of T's integer part and its bits 15 to 0
are bits 31 to 16 of T's fraction, so a step of it is 2^-16 ns. When T is 2^48 ns further on, it is the same. The
48-bit sample time that the counters show is its bits 63 to 16. -/
def Obligations.TimestampFormat : Prop :=
  (∀ s : State, s.now16 < 2 ^ 64 ∧ s.now16 / 2 ^ 16 = s.tim.t.toNat / 2 ^ 32 % 2 ^ 48 ∧
      s.now16 % 2 ^ 16 = s.tim.t.toNat / 2 ^ 16 % 2 ^ 16) ∧
  (∀ s u : State, u.tim.t.toNat = s.tim.t.toNat + 2 ^ 48 * 2 ^ 32 → u.now16 = s.now16) ∧
  (∀ s : State, (BitVec.ofNat 32 s.nowNs).toNat + (s.stepTime s.nowNs).toNat % 2 ^ 16 * 2 ^ 32 = s.now16 / 2 ^ 16)

/-- A step that may end adds its duration to its register and the next step begins: step 2 loads the identity (or
halts on bad fuses); step 3 makes the stewards' pair, or one steward with DEGRADED, or halts; step 4 re-applies a kept
image; without one it takes the bank of the higher SEQUENCE (A on a tie) that passes checks 1 to 8, and where that
bank fails check 9 to 11 or its application fails, the other one; the bank taken is CHOSEN, BANK, IMAGE and OPERATING
show it and its TABLE records wait for step 6; a bank that failed has the code of its check, or APPLY, in RESULT; with
no bank left, as with an unreadable flash, the end is RECOVERY. Steps 5 and 8 lead on. Step 6 trains the HBM stacks
unless they have (both tier-2 copies are up where no stack is bad) and applies the TABLE records: where they all
succeed it leads on, the bank's RESULT 1; where one fails the application is undone, every table is empty, RESULT is
APPLY, and start-up is at step 4 again. Step 7 leads on; step 9 ends in RUNNING with every port DOWN. The duration is
stated where nothing is undone. Step 3 waits while the oscillator is unknown, step 5 while a Wornan link is neither up
nor disabled (log 15), step 1 under TEST_EN; before step 1 and after step 9 nothing ends. Other choices of the model:
logs 16, 20, 21, 23, 110, 121, 122. -/
def Obligations.StartupSteps : Prop :=
  ∀ (s : State) (o : StepSeen), StoresCanonical s →
    let i := s.bootStep
    let mayEnd := s.boot.begun = true ∧ s.stepMayEnd i = true ∧ ¬ (i = 1 ∧ o.testEn = true)
    let flag (t : State) (f : Fld) : Nat := t.fld .STW_BOOT_STATUS f
    let result (t : State) (k : Nat) : Nat := t.fld (.STW_BANK_STATE k) F.STW_BANK_STATE_RESULT
    let v : State := s.noteTime i o.micros
    let code (k : Nat) : Nat := headerResult s.boot.fuses (s.bankHeader k)
    let seq (k : Nat) : Nat := beAt (s.bankHeader k) 0x10 4
    let noted (k : Nat) : Nat := if code k = 0 then 0xE else code k
    let bad (k : Nat) : Nat := bodyResult s.boot.fuses (s.bankHeader k) (s.bankBody k)
    let fits (k : Nat) : Prop := bad k = 0
    let img (k : Nat) : Img := readImg (s.bankHeader k) (s.bankBody k)
    let took (t : State) (k : Nat) : Prop := t.bootStep = (if s.boot.trained then 6 else 5) ∧
      flag t F.STW_BOOT_STATUS_IMAGE = 1 ∧ flag t F.STW_BOOT_STATUS_BANK = k ∧
      t.fld (.STW_BANK_STATE k) F.STW_BANK_STATE_CHOSEN = 1 ∧ t.fld .STW_ID_CL F.STW_ID_CL_OPERATING = (img k).cl ∧
      t.boot.records = (img k).recs.map rawRecord ∧ ∃ x, t.boot.image = some x ∧ x.bank = k ∧ x.seq = (img k).seq
    let timed (t : State) : Prop := t.get (.STW_BOOT_STEP_TIME i) =
      BitVec.ofNat 32 (min 0xFFFFFFFF ((s.get (.STW_BOOT_STEP_TIME i)).toNat + o.micros))
    (s.boot.begun = false ∨ (i = 3 ∧ s.oscState = 0) ∨
      (i = 5 ∧ ∃ c, c < 8 ∧ s.wrn c F.LNE_WRN_STATUS_STATE < 2) ∨ (i = 1 ∧ o.testEn = true) ∨ i = 0 ∨ 9 < i →
        exec (.startupStepEnd o) s = .next s) ∧
    (mayEnd → ∃ t, exec (.startupStepEnd o) s = .next t ∧ (i ≠ 4 → i ≠ 6 → timed t) ∧
      (i = 1 → t.bootStep = 2) ∧
      (i = 2 → (o.fuseBad = true → t.bootStep = 0xC) ∧ (o.fuseBad = false → t.bootStep = 3 ∧
        t.get .STW_ID_SERIAL_L = BitVec.ofNat 32 s.boot.fuses.serial ∧
        F.STW_ID_CL_HIGHEST.get (t.get .STW_ID_CL) = s.boot.fuses.highest % 256)) ∧
      (i = 3 → (o.failA = true → o.failB = true → t.bootStep = 0xD) ∧
        (o.failA = true → o.failB = false → t.bootStep = 4 ∧ t.activeStw = 1 ∧ t.pairFld (stwFld 0) = 3 ∧
          flag t F.STW_BOOT_STATUS_DEGRADED = 1) ∧
        (o.failA = false → o.failB = true → t.bootStep = 4 ∧ t.pairFld (stwFld 1) = 3 ∧
          flag t F.STW_BOOT_STATUS_DEGRADED = 1) ∧
        (o.failA = false → o.failB = false → t.bootStep = 4 ∧ t.standbyOk = true)) ∧
      (i = 4 → (∀ img, s.boot.image = some img → s.boot.warm = true → o.imageOk = true →
          timed t ∧ t.bootStep = (if s.boot.trained then 6 else 5) ∧ flag t F.STW_BOOT_STATUS_IMAGE = 1 ∧
          t.boot.image = some img ∧ t.boot.records = img.ops) ∧
        (s.boot.image = none → s.boot.headers = false → o.flashOk = false → timed t ∧ t.bootStep = 0xB ∧
          flag t F.STW_BOOT_STATUS_IMAGE = 0 ∧ result t 0 = 2 ∧ result t 1 = 2) ∧
        (s.boot.image = none → s.boot.headers = false → o.flashOk = true →
          let first (k : Nat) : Prop := code k = 0 ∧ (code (1 - k) ≠ 0 ∨ seq (1 - k) < seq k ∨ (seq 0 = seq 1 ∧ k = 0))
          let u : State := (({ v with boot := { v.boot with headers := true } }).noteBank 0 (noted 0)).noteBank 1 (noted 1)
          (code 0 ≠ 0 → code 1 ≠ 0 → timed t ∧ t.bootStep = 0xB ∧ result t 0 = code 0 ∧ result t 1 = code 1) ∧
          (∀ k, k < 2 → first k →
            (fits k → (u.applyImage k (img k)).2 = true → timed t ∧ took t k) ∧
            (¬ fits k → (code (1 - k) ≠ 0 → timed t ∧ t.bootStep = 0xB ∧ flag t F.STW_BOOT_STATUS_IMAGE = 0 ∧
                result t k = bad k) ∧
              (let u' : State := u.bankResultIs k (bad k)
               code (1 - k) = 0 → fits (1 - k) →
                (State.applyImage ({ u' with boot := { u'.boot with fell := true } }) (1 - k) (img (1 - k))).2 = true →
                timed t ∧ took t (1 - k) ∧ result t k = bad k ∧ t.boot.fell = true)) ∧
            (fits k → (u.applyImage k (img k)).2 = false → code (1 - k) ≠ 0 →
              t.bootStep = 0xB ∧ flag t F.STW_BOOT_STATUS_IMAGE = 0 ∧ result t k = 0xD ∧ t.boot.image = none ∧ t.rows = [])))) ∧
      (i = 5 → t.bootStep = 6) ∧
      (i = 6 → (∀ img, s.boot.image = some img → img.bank < 2) →
        let u : State := if s.boot.trained then v else v.trainHbm o.hbmBad
        let ended (r : Nat) : Prop := ∀ img, s.boot.image = some img → s.boot.warm = false → result t img.bank = r
        t.boot.trained = true ∧ (s.boot.trained = false → o.hbmBad = [] → t.copyUp 0 = true ∧ t.copyUp 1 = true) ∧
        (s.boot.records = [] → u.applyTable.2 = true) ∧
        (u.applyTable.2 = true → timed t ∧ t.bootStep = 7 ∧ t.boot.tabled = true ∧ t.boot.records = [] ∧ ended 1) ∧
        (u.applyTable.2 = false → t.bootStep = 4 ∧ flag t F.STW_BOOT_STATUS_IMAGE = 0 ∧ t.boot.image = none ∧ t.rows = [] ∧
          t.fwd.copy0 = [] ∧ t.fwd.copy1 = [] ∧ ended 0xD)) ∧
      (i = 7 → t.bootStep = 8) ∧ (i = 8 → t.bootStep = 9) ∧
      (i = 9 → t.running = true ∧ ∀ p, s.isPort p = true → t.isPort p = true ∧ t.portState p = 1))

/-- A request sets RST and nothing else happens yet. When the block is reset, RST and TIMEOUT read 0 and, with no
running image and no commit under way, every register of a block outside LNE, PRT and the interrupt controller whose
fields show only the block itself and hold no fuse reads its Reset value in both banks, the oscillator's block in
SUBSTITUTE and the calibration block while the tick runs (its first rotation begins at once) apart, and the holdover
store empty where it is the selection's block. A block that does not empty has RST 0 and TIMEOUT 1, and nothing else
changes. Without a request neither row changes anything, and frames in the block or a rebuild of the tables keep it
from being reset. Which frames a block holds, and what its reset keeps and starts again, are the model's choices (logs
47, 46, 45). A cold reset puts every register at its Reset value and empties everything but the flash cells; the
running image is gone. A lost rail does the same once the rails have come up, before that nothing. STARTUP_BEGIN,
rails up and RST_N high, begins step 1. RST_N low resets all but the running image and the bank registers, with CAUSE
1, and nothing runs until it rises, which begins step 1 where the rails have been up. RESET_CTL.WARM resets with CAUSE
2 and keeps the running image; RELOAD with CAUSE 3 drops it; both begin step 1 at once. COLD_RESET leaves RST_N high
and waits for the rails (log 17); the TRST_N pin keeps its level (log 18). -/
def Obligations.ResetsOfEveryKind : Prop :=
  ((∀ (s : State) (h d w b : Nat) (v : Word), StoresCanonical s → ExpertWindow s h → Passes s h (.BLKCTL d w b) v →
      F.BLKCTL_RST.get v = 1 → exec (.blockResetRequest .window d w b v) s = .next (wrote s (.BLKCTL d w b) v) ∧
      (wrote s (.BLKCTL d w b) v).fld (.BLKCTL d w b) F.BLKCTL_RST = 1 ∧
      KeepsRegs [.BLKCTL d w b] s (wrote s (.BLKCTL d w b) v)) ∧
  (∀ (s : State) (d w b : Nat), s.fld (.BLKCTL d w b) F.BLKCTL_RST = 0 ∨ s.blockBusy d w b = true →
      exec (.blockResetDone d w b) s = .next s) ∧
  (∀ (s : State) (d w b : Nat), StoresCanonical s → skeysFrom none s.tim.slots = true →
      decodeAddr (Reg.BLKCTL d w b).addr = some (.BLKCTL d w b) →
      s.fld (.BLKCTL d w b) F.BLKCTL_RST = 1 → s.blockBusy d w b = false → s.boot.image = none → s.jobs = [] →
      d ≠ 2 → d ≠ 3 → ¬ (d = 0 ∧ w = 3) → (blockNo d w b = blockNo 7 0 1 → s.oscState ≠ 4) →
      (d = 7 ∧ w = 4 ∧ b = 16 → s.tim.ticking = false) → (d = 7 ∧ w = 3 ∧ b = 0 → s.tim.sel.store = []) →
      ∃ t, exec (.blockResetDone d w b) s = .next t ∧ t.fld (.BLKCTL d w b) F.BLKCTL_RST = 0 ∧
        t.fld (.BLKCTL d w b) F.BLKCTL_TIMEOUT = 0 ∧
        ∀ r : Reg, decodeAddr r.addr = some r → r.addr / 0x400 = blockNo d w b → r.keptFields = [] → r.fusedFields = [] →
          (r.isST = false → t.get r = r.resetWord) ∧
          (r.isST = true → t.stGet 0 r = r.resetWord ∧ t.stGet 1 r = r.resetWord)) ∧
  (∀ (s : State) (d w b : Nat), StoresCanonical s →
      (s.fld (.BLKCTL d w b) F.BLKCTL_RST = 0 → exec (.blockResetTimeout d w b) s = .next s) ∧
      (s.fld (.BLKCTL d w b) F.BLKCTL_RST = 1 → ∃ t, exec (.blockResetTimeout d w b) s = .next t ∧
        t.fld (.BLKCTL d w b) F.BLKCTL_RST = 0 ∧ t.fld (.BLKCTL d w b) F.BLKCTL_TIMEOUT = 1 ∧
        Writes [.BLKCTL d w b] [] s t))) ∧
  ((∀ s : State, ∃ t, exec .coldReset s = .next t ∧ (∀ r : Reg, t.get r = r.resetWord) ∧
      (∀ e, ∀ r : Reg, t.stGet e r = r.resetWord) ∧ t.cnt = [] ∧ t.frames = [] ∧ t.reps = [] ∧ t.rows = [] ∧
      t.sessions = [] ∧ t.jobs = [] ∧ t.boot = { Boot.reset s.boot.fuses with trstLow := s.boot.trstLow } ∧ t.flash.cells = s.flash.cells ∧ t.flash.op = none ∧
      t.pending = s.pending ∧ t.out = s.out) ∧
  (∀ s : State, (s.boot.begun = true ∨ s.boot.rails = true → exec .railLost s = exec .coldReset s) ∧
      (s.boot.begun = false → s.boot.rails = false → exec .railLost s = .next s)) ∧
  (∀ s : State, (s.boot.begun = true ∨ s.boot.rstLow = true → exec .startupBegin s = .next s) ∧
      (s.boot.begun = false → s.boot.rstLow = false →
        exec .startupBegin s = .next { s with boot := { s.boot with rails := true, begun := true } })) ∧
  (∀ s : State, (s.boot.rstLow = true → exec .rstNLow s = .next s ∧
        exec .warmReset s = .next { s with boot := { s.boot with rstLow := false, begun := s.boot.rails } }) ∧
      (s.boot.rstLow = false → exec .warmReset s = .next s ∧ ∃ t, exec .rstNLow s = .next t ∧ t.boot.rstLow = true ∧
        t.boot.begun = false ∧ t.boot.image = s.imageNow ∧ t.flash.cells = s.flash.cells ∧ t.flash.op = none ∧
        t.cnt = [] ∧ t.frames = [] ∧ t.sessions = [] ∧ t.jobs = [] ∧ t.rows = [] ∧
        (s.boot.begun = true → t.fld .STW_BOOT_STATUS F.STW_BOOT_STATUS_CAUSE = 1) ∧
        (s.imageNow ≠ none → ∀ k, k < 2 → t.get (.STW_BANK_STATE k) = s.get (.STW_BANK_STATE k) ∧
          t.get (.STW_BANK_SEQ k) = s.get (.STW_BANK_SEQ k)) ∧
        (∀ q : Reg, q.addr ≠ Reg.STW_BOOT_STATUS.addr → (∀ k, k < 2 → q.addr ≠ (Reg.STW_BANK_STATE k).addr ∧
          q.addr ≠ (Reg.STW_BANK_SEQ k).addr) → t.get q = q.resetWord))) ∧
  (∀ (s : State) (h : Nat) (v : Word), StoresCanonical s → ExpertWindow s h → Passes s h .STW_RESET_CTL v →
      let begins (t : State) (cause : Nat) : Prop := t.fld .STW_BOOT_STATUS F.STW_BOOT_STATUS_CAUSE = cause ∧
        t.bootStep = 1 ∧ t.boot.begun = true ∧ t.boot.resetReq = none ∧ t.sessions = [] ∧ t.frames = [] ∧ t.jobs = [] ∧
        t.cnt = [] ∧ t.flash.cells = s.flash.cells
      (F.STW_RESET_CTL_WARM.get v = 1 → F.STW_RESET_CTL_RELOAD.get v = 0 → ∃ t, exec (.resetCtlWarm .window v) s = .next t ∧
        begins t 2 ∧ t.boot.image = s.imageNow) ∧
      (F.STW_RESET_CTL_RELOAD.get v = 1 → ∃ t, exec (.resetCtlReload .window v) s = .next t ∧ begins t 3 ∧
        t.boot.image = none)))

/-- In PRESENCE a gate within 200 ppm (200,000 ppb) starts the tick and leads to WAIT_WARM, and at once to STABILITY
where step 8 has begun and the warm level is held or not used; the third gate that fails starts the tick in SUBSTITUTE
with the condition OCXO_ABSENT, and with DEGRADED within step 3 alone; an earlier one is counted. In STABILITY a gate
that differs from the one before by more than LIMIT clears PASSED, another adds one to it, and with COUNT reached the
oscillator is QUALIFIED. A held warm level leads from WAIT_WARM to STABILITY once step 8 has begun, its loss back
where WARM_USE is 1. The time limit sets SLOW and raises OCXO_SLOW once. A write of the settings re-evaluates these
rows, and has no further effect in QUALIFIED. Which of the pin and WARM_USE leads back to WAIT_WARM, and what a reset
does to the second of warmth, are the model's choices (logs 120, 19). -/
def Obligations.OscillatorQualifies : Prop :=
  (∀ (s : State) (ppb : Option Int), StoresCanonical s →
      let good : Prop := ∃ x, ppb = some x ∧ x.natAbs ≤ 200000
      (s.boot.begun = false ∨ s.bootStep < 3 ∨ 0xB < s.bootStep ∨ s.oscState ≠ 0 → exec (.oscPresenceGate ppb) s = .next s) ∧
      (s.boot.begun = true → 3 ≤ s.bootStep → s.bootStep ≤ 0xB → s.oscState = 0 → ∃ t,
        exec (.oscPresenceGate ppb) s = .next t ∧
        (good → t.tim.ticking = true ∧ t.oscState =
          if s.stepEight = true ∧ (s.oscCfg F.TIM_OSC_QUAL_CFG_WARM_USE = 0 ∨ s.boot.ocxoPin = true) then 2 else 1) ∧
        (¬ good → s.boot.gateFails < 2 → t = { s with boot := { s.boot with gateFails := s.boot.gateFails + 1 } }) ∧
        (¬ good → 2 ≤ s.boot.gateFails → t.oscState = 4 ∧ t.tim.ticking = true ∧ t.raised Ev.ocxoAbsent 0 = true ∧
          (s.bootStep = 3 → t.fld .STW_BOOT_STATUS F.STW_BOOT_STATUS_DEGRADED = 1) ∧
          (s.bootStep ≠ 3 → t.get .STW_BOOT_STATUS = s.get .STW_BOOT_STATUS)))) ∧
  (∀ (s : State) (deci : Int), StoresCanonical s →
      (s.oscState ≠ 2 → exec (.oscStabilityGate deci) s = .next s) ∧
      (s.oscState = 2 → s.boot.lastGate = none →
        exec (.oscStabilityGate deci) s = .next { s with boot := { s.boot with lastGate := some deci } }) ∧
      (∀ before : Int, s.oscState = 2 → s.boot.lastGate = some before → ∃ t, exec (.oscStabilityGate deci) s = .next t ∧
        t.boot.lastGate = some deci ∧
        (let n := s.fld .TIM_OSC_QUAL_STATUS F.TIM_OSC_QUAL_STATUS_PASSED
         let bound := 10 * s.oscCfg F.TIM_OSC_QUAL_CFG_LIMIT
         (bound < (deci - before).natAbs → t.oscState = 2 ∧ t.fld .TIM_OSC_QUAL_STATUS F.TIM_OSC_QUAL_STATUS_PASSED = 0) ∧
         ((deci - before).natAbs ≤ bound → n < 255 → t.fld .TIM_OSC_QUAL_STATUS F.TIM_OSC_QUAL_STATUS_PASSED = n + 1 ∧
           t.oscState = if n + 1 < s.oscCfg F.TIM_OSC_QUAL_CFG_COUNT then 2 else 3)))) ∧
  (∀ s : State, StoresCanonical s → (∃ t, exec .ocxoWarmHeld s = .next t ∧ t.boot.ocxoPin = true ∧
        t.oscState = if s.oscState = 1 ∧ s.stepEight = true then 2 else s.oscState) ∧
      (s.oscState ≠ 1 → ∃ t, exec .ocxoWarmLost s = .next t ∧ t.boot.ocxoPin = false ∧
        t.oscState = if s.oscState = 2 ∧ s.oscCfg F.TIM_OSC_QUAL_CFG_WARM_USE = 1 then 1 else s.oscState)) ∧
  (∀ s : State, StoresCanonical s →
      let due : Prop := s.stepEight = true ∧ (s.oscState = 1 ∨ s.oscState = 2) ∧ s.oscCfg F.TIM_OSC_QUAL_CFG_TIMEOUT ≠ 0 ∧
        s.fld .TIM_OSC_QUAL_STATUS F.TIM_OSC_QUAL_STATUS_SLOW = 0
      (due → ∃ t, exec .ocxoSlow s = .next t ∧ t.fld .TIM_OSC_QUAL_STATUS F.TIM_OSC_QUAL_STATUS_SLOW = 1 ∧
        t.raised Ev.ocxoSlow 0 = true ∧ t.oscState = s.oscState) ∧ (¬ due → exec .ocxoSlow s = .next s)) ∧
  (∀ (s : State) (h : Nat) (v : Word), StoresCanonical s → ExpertWindow s h → Passes s h .TIM_OSC_QUAL_CFG v →
      ∃ t, exec (.oscQualCfgWrite .window v) s = .next t ∧
        (s.oscState = 3 → t = wrote s .TIM_OSC_QUAL_CFG v) ∧
        (s.oscState = 2 → F.TIM_OSC_QUAL_CFG_WARM_USE.get v = 1 → s.boot.ocxoPin = false → t.oscState = 1) ∧
        (s.oscState = 1 → s.stepEight = true → F.TIM_OSC_QUAL_CFG_WARM_USE.get v = 0 → t.oscState = 2) ∧
        KeepsRegs [.TIM_OSC_QUAL_CFG, .TIM_OSC_QUAL_STATUS] s t)

/-- An Observer's write ends with ROLE whatever it names; a recovery session's with ROLE unless it names
STW_RESET_CTL. For the other roles an unassigned address ends with ADDRESS; outside an Expert session a set bit of an
E field ends with LEVEL; then a register without a writable field ends with ADDRESS; then a set reserved bit or a
value that breaks a condition of its register ends with VALUE; then, once start-up is over, a changed RWL field ends
with RWL_LOCKED. A write whose check fails leaves the state as it is. An Expert's word that passes reaches the
register as written. An Operator's word is judged, and reaches the register, with every E field that holds a value
keeping it and every other E field untouched; a register whose every writable field is E does nothing. That ROLE goes
first whatever the address is the model's choice (logs 37, 52, 33). For every register with a valid index and every
field of it, a direct write of a word leaves the field at the value written where it is RW or RWL; with the bits
written 1 cleared where it is W1C and set where it is W1S; and as it was where it is RO or WO. Bits that belong to no
field keep their value. A read returns zero in WO fields, in bits that belong to no field, and outside Expert and
recovery sessions in E fields; it returns zero whole where the register's index is no port. A write of fewer than four
bytes changes nothing. -/
def Obligations.RegisterWrites : Prop :=
  (∀ (s : State) (h role a : Nat) (v : Word),
    let c := s.checkWrite (.sess h role) a v
    (∀ st, c = .inl st → s.writeAddr (.sess h role) a v = (s, st)) ∧
    (role = 1 → c = .inl Stat.role) ∧
    (role = 4 → decodeAddr a ≠ some .STW_RESET_CTL → c = .inl Stat.role) ∧
    (role = 2 ∨ role = 3 → decodeAddr a = none → c = .inl Stat.address) ∧
    (∀ r, role = 2 ∨ role = 3 → decodeAddr a = some r →
      let em := if role = 3 then 0#32 else r.maskOf fun f => f.lvl == .e
      (v &&& em ≠ 0 → c = .inl Stat.level) ∧
      (v &&& em = 0 → r.writable = false → c = .inl Stat.address) ∧
      (r.writable = true → v &&& em = 0 → v &&& ~~~r.fieldMask ≠ 0 → c = .inl Stat.value) ∧
      (r.writable = true → role = 3 → v &&& ~~~r.fieldMask = 0 →
        (r.fieldsOk v = false ∨ s.ringWriteOk r v = false → c = .inl Stat.value) ∧
        (r.fieldsOk v = true → s.ringWriteOk r v = true →
          (s.running = true → (v ^^^ s.committed r) &&& (r.maskOf fun f => f.acc == .rwl) ≠ 0 →
            c = .inl Stat.rwlLocked) ∧
          (s.running = false ∨ (v ^^^ s.committed r) &&& (r.maskOf fun f => f.acc == .rwl) = 0 → c = .inr (r, v)))) ∧
      (r.writable = true → role = 2 → v &&& em = 0 → v &&& ~~~r.fieldMask = 0 →
        let m := s.keepE (.sess h role) r v
        (r.fieldsOk m = false ∨ s.ringWriteOk r m = false → c = .inl Stat.value) ∧
        (r.fieldsOk m = true → s.ringWriteOk r m = true →
          (s.running = true → (m ^^^ s.committed r) &&& (r.maskOf fun f => f.acc == .rwl) ≠ 0 →
            c = .inl Stat.rwlLocked) ∧
          (s.running = false ∨ (m ^^^ s.committed r) &&& (r.maskOf fun f => f.acc == .rwl) = 0 → c = .inr (r, m))) ∧
        (∀ f ∈ r.fields, f.lvl ≠ .e → f.fld.get m = f.fld.get v) ∧
        (∀ f ∈ r.fields, f.lvl = .e → (f.acc = .rw ∨ f.acc = .rwl ∨ f.acc = .st → f.fld.get m = f.fld.get (s.committed r)) ∧
          (r.isST = false → f.fld.get (r.written (s.get r) m) = f.fld.get (s.get r)))) ∧
      (∀ m, c = .inr (r, m) → r.isST = false → r ≠ .FWD_HASH_SEED1 → r ≠ .FWD_HASH_SEED2 →
        s.writeAddr (.sess h role) a v =
          if r.actMask (.sess h role) = 0 then (s, 0) else (s.directWrite h r m, 0)))) ∧
  ((∀ (r : Reg) (old m : Word) (f : FieldInfo), r.indexOk = true → f ∈ r.fields →
      let new := r.written old m
      ((f.acc = .rw ∨ f.acc = .rwl) → f.fld.get new = f.fld.get m) ∧
      (f.acc = .w1c → new &&& f.fld.mask = old &&& ~~~m &&& f.fld.mask) ∧
      (f.acc = .w1s → new &&& f.fld.mask = (old ||| m) &&& f.fld.mask) ∧
      ((f.acc = .ro ∨ f.acc = .wo) → f.fld.get new = f.fld.get old)) ∧
  (∀ (r : Reg) (old m : Word), r.indexOk = true → r.written old m &&& ~~~r.fieldMask = old &&& ~~~r.fieldMask) ∧
  (∀ (s : State) (w : Who) (r : Reg),
      let v := (s.readReg w r).2
      v &&& ~~~r.fieldMask = 0 ∧ (∀ f ∈ r.fields, f.acc = .wo → f.fld.get v = 0) ∧
      (w.role ≠ 3 → w.role ≠ 4 → ∀ f ∈ r.fields, f.lvl = .e → f.fld.get v = 0) ∧
      (s.instIn s.curSel r = false → v = 0 ∧ (s.readReg w r).1 = s)) ∧
  (∀ (s : State) (p : RegPath) (a : Nat) (v : Word), exec (.registerWrite p a v false) s = .next s))

/-- For the session that holds the window, whatever its role, and every address and value. A write that ends with
another status than OK: ERROR is 1, LAST_STATUS is that status, HST_WIN_ERRORS has counted one, and nothing is
returned (no output but messages of interrupts). A read that ends with another status than OK: the same, and the read
returns zero. -/
def Obligations.WindowRefusalsRecorded : Prop :=
  ∀ (s : State) (h a : Nat) (x : Session) (v : Word), StoresCanonical s → s.winHolder = some (h, x) → s.stepTwoDone = true →
    s.halted = false → s.stewardHeld = false → s.boot.resetReq = none →
    (∀ st, (s.writeAddr (.sess h x.role) a v).2 = st → st ≠ 0 → ∃ t, exec (.registerWrite .window a v true) s = .next t ∧
      t.fld .HST_WIN_STATUS F.HST_WIN_STATUS_ERROR = 1 ∧ t.fld .HST_WIN_STATUS F.HST_WIN_STATUS_LAST_STATUS = st ∧
      CountedOnce C.winErrors s t ∧ ∃ pre, t.out = pre ++ s.out ∧ ∀ o ∈ pre, ∃ n a d, o = Output.msix n a d) ∧
    (∀ st, (s.readAddr (.sess h x.role) a).2.1 = st → st ≠ 0 → ∃ t, exec (.windowRead a) s = .next t ∧
      t.fld .HST_WIN_STATUS F.HST_WIN_STATUS_ERROR = 1 ∧ t.fld .HST_WIN_STATUS F.HST_WIN_STATUS_LAST_STATUS = st ∧
      CountedOnce C.winErrors s t ∧ ∃ pre, t.out = Output.readData 0 :: (pre ++ s.out) ∧ ∀ o ∈ pre, ∃ n a d, o = Output.msix n a d)

/-- A full write by an Expert's window that passes the checks: a register without ST fields, that is no hash seed and
is not being discarded, takes the word by its access types, joins the running image and starts what its chapter says;
a register of ST fields is staged or committed alone. A read by it that succeeds returns the word. Nobody's access
(the unbound window; the test access port, from the end of step 4) reads identity and channel registers and reads zero
elsewhere, and writes only channel registers. REG_ACCESS keeps the address and the word read, and captures them with
the bits 0 and 1 above them; without that instruction nothing happens. IDCODE holds the stepping, 0x2048, the fused
manufacturer identity and 1. An instruction that starts scan hold closes every session and stops every port from
forwarding; another one, outside scan hold, is only loaded, and in scan hold acts as RST_N held low, the instruction
register surviving (log 18). TRST_N low holds IDCODE whatever is loaded; the boundary register holds what its scan
brought. A scan shows the identification, the access, or the one bit of BYPASS (log 155). -/
def Obligations.PathsReachRegisters : Prop :=
  (∀ (s : State) (h : Nat) (r : Reg) (v : Word), ExpertWindow s h → r.indexOk = true → decodeAddr r.addr = some r →
      Passes s h r v →
      (r.isST = true → exec (.registerWrite .window r.addr v true) s = .next
        (let o := s.stageReg h r (v &&& r.maskOf fun f => f.acc == .st)
         if o.2 = 0 then o.1.takeReset else (o.1.winRefuse o.2).takeReset)) ∧
      (r.isST = false → r ≠ .FWD_HASH_SEED1 → r ≠ .FWD_HASH_SEED2 → s.discardWrite r = none →
        exec (.registerWrite .window r.addr v true) s = .next
          ((((s.put r (r.written (s.get r) v)).noteImage r).writeAction h r (s.get r) v).takeReset))) ∧
  (∀ (s : State) (h a : Nat) (v : Word) (t : State), ExpertWindow s h → s.readAddr (.sess h 3) a = (t, 0, v) →
      exec (.windowRead a) s = .next (t.emit (.readData v))) ∧
  (∀ (s : State) (a : Nat) (v : Word), s.stepTwoDone = true → s.halted = false → s.stewardHeld = false →
      s.winHolder = none → s.boot.resetReq = none →
      (∀ r, decodeAddr a = some r → r.open' = false → exec (.windowRead a) s = .next (s.emit (.readData 0))) ∧
      (∀ r, decodeAddr a = some r → r.open' = true →
        exec (.windowRead a) s = .next ((s.readReg .anon r).1.emit (.readData (s.readReg .anon r).2))) ∧
      (decodeAddr a = none → exec (.windowRead a) s = .next (s.emit (.readData 0)) ∧
        exec (.registerWrite .window a v true) s = .next s) ∧
      (∀ r, decodeAddr a = some r → r.channel = false → exec (.registerWrite .window a v true) s = .next s)) ∧
  (∀ (s : State) (w : Bool) (a : Nat) (d : Word), s.boot.ir ≠ 0x10 → exec (.jtagRegAccess w a d) s = .next s) ∧
  (∀ s : State, let c := s.accessCapture
      s.idcode.getLsbD 0 = true ∧ s.idcode.extractLsb' 1 11 = BitVec.ofNat 11 s.boot.fuses.jedec ∧
      s.idcode.extractLsb' 12 16 = 0x2048#16 ∧
      s.idcode.extractLsb' 28 4 = BitVec.ofNat 4 (4 * s.fld .STW_ID_STEPPING F.STW_ID_STEPPING_MAJOR +
        s.fld .STW_ID_STEPPING F.STW_ID_STEPPING_MINOR) ∧
      c.extractLsb' 0 32 = s.boot.drData ∧ c.extractLsb' 32 32 = BitVec.ofNat 32 s.boot.drAddr ∧
      c.getLsbD 64 = false ∧ c.getLsbD 65 = true) ∧
  (∀ (s : State) (a : Nat) (d : Word) (r : Reg), s.boot.ir = 0x10 → s.stepFourDone = true → s.halted = false →
      decodeAddr a = some r →
      (r.identity = true → ∃ t, exec (.jtagRegAccess false a d) s = .next t ∧ t.boot.drAddr = a ∧
        t.boot.drData = (s.readReg .anon r).2 ∧ t = { s with boot := t.boot }) ∧
      (r.open' = false → ∃ t, exec (.jtagRegAccess false a d) s = .next t ∧ t.boot.drData = 0 ∧
        t = { s with boot := { s.boot with drAddr := a, drData := 0 } }) ∧
      (r.channel = false → exec (.jtagRegAccess true a d) s =
        .next { s with boot := { s.boot with drAddr := a, drData := 0 } })) ∧
  (∀ (s : State) (c : Option Nat) (trst : Option Bool) (cells : List Bool), StoresCanonical s →
      let low := trst.getD s.boot.trstLow
      let ir := if low then 2 else c.getD 2
      let held := if (tapInstr s.boot.ir).selectsBoundary = true ∧ s.boot.trstLow = false ∧ cells ≠ [] then cells
        else s.boot.boundary
      (s.boot.scanHold = false → holdInstr ir = true → ∃ t, exec (.tapInstructionLoad c trst cells) s = .next t ∧
        t.sessions = [] ∧ t.boot.ir = ir ∧ t.boot.scanHold = true ∧ t.boot.boundary = held ∧ ∀ p, t.portIsUp p = false) ∧
      (s.boot.scanHold = false → holdInstr ir = false → exec (.tapInstructionLoad c trst cells) s =
        .next { s with boot := { s.boot with ir := ir, trstLow := low, boundary := held } }) ∧
      (s.boot.scanHold = true → holdInstr ir = false → ∃ t, exec (.tapInstructionLoad c trst cells) s = .next t ∧
        t.boot.ir = ir ∧ t.boot.trstLow = low ∧ t.boot.scanHold = false ∧ t.boot.image = s.imageNow ∧ t.sessions = [] ∧
        t.frames = [] ∧ t.cnt = [] ∧ t.flash.cells = s.flash.cells)) ∧
  (∀ s : State, (s.boot.ir = 0x02 → s.tapData = (List.range 32).map s.idcode.getLsbD) ∧
      (s.boot.ir = 0x10 → s.tapData = (List.range 66).map s.accessCapture.getLsbD) ∧
      (tapInstr s.boot.ir = .bypass → s.tapData = [false]))

/-- For every command of a session, on both paths. Without a request of that command on the path, or with its response
still to come, or in a halted device, or between a give-up of the steward and the take-over (log 103), nothing
changes. Otherwise the request is answered, and has no other effect: STATE while STEWARD_LOST holds; else BAD_LENGTH
where LENGTH breaks the command's rule; else BAD_COMMAND where FLAGS does, or the path does not take the command; else
NO_SESSION where HANDLE names no session of this path, or one still OPENING that sends another command than AUTH and
CLOSE. -/
def Obligations.RequestsCheckedInOrder : Prop :=
  ∀ (s : State) (c : Instr) (v : Via) (code : Nat) (early : Bool), sessionCommand c = some (v, code, early) →
    ((∀ src ws, s.request v = some (src, ws) →
        reqCommand ws ≠ code ∨ s.awaiting (replyFor v src ws) = true ∨ s.halted = true ∨ s.pair.cause ≠ none) →
      exec c s = .next s) ∧
    (∀ src ws, s.request v = some (src, ws) → reqCommand ws = code → s.awaiting (replyFor v src ws) = false →
      s.halted = false → s.pair.cause = none →
      let r := replyFor v src ws
      (s.stewardLost = true → exec c s = .next (s.respond r Stat.state 0 [])) ∧
      (s.stewardLost = false →
        (lengthOk code ws = false → exec c s = .next (s.respond r Stat.badLength 0 [])) ∧
        (lengthOk code ws = true → flagsOk v code ws = false → exec c s = .next (s.respond r Stat.badCommand 0 [])) ∧
        (lengthOk code ws = true → flagsOk v code ws = true →
          (∀ x, s.session (ws.getD 1 0).toNat = some x → x.isOn v src = false ∨ (x.role = 0 ∧ early = false)) →
          exec c s = .next (s.respond r Stat.noSession 0 []))))

/-- An OPEN whose checks pass (below 8 sessions, a loaded slot, no hold-off, a free channel) adds one OPENING session
under a HANDLE that is not zero and that no session has, with the host's and the device's nonce, and answers OK with
both. One whose checks fail is answered with that status and adds none: NOT_READY before the end of step 4, then
HOLD_OFF, STATE on a taken channel, the slot's STATE or BAD_SLOT, SESSIONS_FULL. An AUTH with the right proof gives
the session the slot's role and answers with P_dev; with a wrong proof the session is gone, HST_AUTH_FAILURES and the
event AUTH_FAIL count one each, the channel or the source is held off, and the answer is AUTH_FAILED. A hold-off ends
at its timer, and an OPENING session at its own. HANDLE and N_dev are free values, the byte order of the proofs is
read from R84 (logs 8, 27, 40). Closing a session removes it and only it; its channel is FREE without a role; the
window is unbound if it held it, and otherwise keeps its holder; its upload is abandoned; accepted commits stay. CLOSE
does this and answers OK; IDLE_TIMEOUT does it for an open session unless IDLE_TIMEOUT is 0. BIND answers OK with the
window bound to the caller's channel and BOUND shown there alone. UNBIND by the holder leaves the window unbound and
answers OK; by another session it answers STATE and changes nothing else. -/
def Obligations.SessionsLive : Prop :=
  ((∀ (s : State) (v : Via) (src : Nat) (ws : List Word), Asked s v 0x01 src ws →
      let slot := (reqWord ws 0).toNat / 2 ^ 24
      let st := s.openStatus v src slot
      let r := replyFor v src ws
      (st ≠ 0 → exec (.openReq v) s = .next (s.respond r st 0 [])) ∧
      (st = 0 → (s.slotKey slot).isSome = true ∧ s.sessions.length < 8 ∧
        ∃ h, h ≠ 0 ∧ h < 2 ^ 32 ∧ s.session h = none ∧
        let nDev := (Config.random128 s.free).toNat
        let c := match v with | .chan c => some c | .svc => none
        let u := s.tick1Free.putSession h ⟨c, src, slot, 0, beAt (reqBytes ws 1 4) 0 16, nDev, none, none, freshLatch⟩
        exec (.openReq v) s = .next ((match v with | .chan c => u.setMbxState c 1 0 | .svc => u).respond r Stat.ok 0
          (BitVec.ofNat 32 h :: beWords (be 16 nDev))))) ∧
  (∀ (s : State) (v : Via) (src slot : Nat),
      let held := match v with | .chan c => s.mbx.holdCh.contains c | .svc => s.mbx.holdSrc.contains src
      let st := s.openStatus v src slot
      (s.stepFourDone = false → st = Stat.notReady) ∧
      (s.stepFourDone = true → held = true → st = Stat.holdOff) ∧
      (∀ c, s.stepFourDone = true → held = false → v = .chan c →
        s.fld (.HST_MBX_STATE c) F.HST_MBX_STATE_STATE ≠ 0 → st = Stat.state) ∧
      (s.stepFourDone = true → held = false → v = .svc → s.bootStep ≠ 0xB → 8 ≤ slot → st = Stat.badSlot) ∧
      (s.stepFourDone = true → held = false → v = .svc → s.bootStep ≠ 0xB → slot < 8 → s.slotKey slot = none →
        st = Stat.badSlot) ∧
      (s.stepFourDone = true → held = false → v = .svc → s.bootStep = 0xB → slot ≠ 8 → st = Stat.state) ∧
      (s.stepFourDone = true → held = false → v = .svc → s.bootStep ≠ 0xB → slot < 8 → (s.slotKey slot).isSome = true →
        st = if 8 ≤ s.sessions.length then Stat.sessionsFull else 0)) ∧
  (∀ (s : State) (v : Via) (src h : Nat) (ws : List Word) (x : Session) (key role : Nat),
      AskedBy s v 0x02 src ws h x → x.role = 0 → s.slotKey x.slot = some (key, role) → StoresCanonical s →
      let r := replyFor v src ws
      (reqBytes ws 0 8 = proof key 0x48 x.nDev x.nHost h x.slot →
        let u := s.putSession h { x with role := role }
        exec (.auth v) s = .next ((match x.chan with | some c => u.setMbxState c 2 role | none => u).respond r Stat.ok 0
          (BitVec.ofNat 32 (role * 2 ^ 24) :: beWords (proof key 0x44 x.nHost x.nDev h x.slot)))) ∧
      (reqBytes ws 0 8 ≠ proof key 0x48 x.nDev x.nHost h x.slot → ∃ u,
        exec (.auth v) s = .next (u.respond r Stat.authFailed 0 []) ∧ u.session h = none ∧
        (∀ k, k ≠ h → u.session k = s.session k) ∧ CountedOnce C.authFailures s u ∧
        CountedOnce (C.events Ev.authFail) s u ∧ u.jobs = s.jobs ∧
        (match x.chan with
         | some c => c ∈ u.mbx.holdCh ∧ u.mbx.holdSrc = s.mbx.holdSrc
         | none => x.src ∈ u.mbx.holdSrc ∧ u.mbx.holdCh = s.mbx.holdCh))) ∧
  (∀ (s : State) (c src : Nat),
      (∃ t, exec (.holdOffExpires (some c) src) s = .next t ∧ t = { s with mbx := { s.mbx with holdCh := t.mbx.holdCh } } ∧
        ∀ k, k ∈ t.mbx.holdCh ↔ k ∈ s.mbx.holdCh ∧ k ≠ c) ∧
      (∃ t, exec (.holdOffExpires none src) s = .next t ∧ t = { s with mbx := { s.mbx with holdSrc := t.mbx.holdSrc } } ∧
        ∀ k, k ∈ t.mbx.holdSrc ↔ k ∈ s.mbx.holdSrc ∧ k ≠ src)) ∧
  (∀ (s : State) (h : Nat) (x : Session), s.session h = some x →
      exec (.openingTimeout h) s = .next (if x.role = 0 then s.closeSession h else s))) ∧
  ((∀ (s : State) (h : Nat) (x : Session), StoresCanonical s → s.session h = some x → (∀ c, x.chan = some c → c < 8) →
      s.winChan < 8 →
      let t := s.closeSession h
      t.session h = none ∧ (∀ k, k ≠ h → t.session k = s.session k) ∧ t.jobs = s.jobs ∧ t.cnt = s.cnt ∧ t.st0 = s.st0 ∧
      t.st1 = s.st1 ∧
      (∀ c, x.chan = some c → t.fld (.HST_MBX_STATE c) F.HST_MBX_STATE_STATE = 0 ∧
        t.fld (.HST_MBX_STATE c) F.HST_MBX_STATE_ROLE = 0 ∧
        (s.winBound = true → s.winChan = c → t.winBound = false ∧ t.fld (.HST_MBX_STATE c) F.HST_MBX_STATE_BOUND = 0) ∧
        (s.winBound = false ∨ s.winChan ≠ c → t.winBound = s.winBound ∧ t.winChan = s.winChan)) ∧
      (∀ u, s.flash.upload = some u → t.flash.upload = if u.handle = h then none else some u)) ∧
  (∀ (s : State) (v : Via) (src h : Nat) (ws : List Word) (x : Session), AskedBy s v 0x03 src ws h x →
      exec (.close v) s = .next ((s.closeSession h).respond (replyFor v src ws) Stat.ok 0 [])) ∧
  (∀ (s : State) (h : Nat) (x : Session), s.session h = some x →
      exec (.idleTimeout h) s = .next (if s.fld .STW_TXN_CFG F.STW_TXN_CFG_IDLE_TIMEOUT = 0 ∨ x.role = 0 then s
        else s.closeSession h)) ∧
  (∀ (s : State) (src h c : Nat) (ws : List Word) (x : Session), StoresCanonical s → AskedBy s (.chan c) 0x04 src ws h x →
      x.role ≠ 0 → c < 8 → s.winChan < 8 →
      ∃ u, exec (.bind (.chan c)) s = .next (u.respond (.mbx c) Stat.ok 0 []) ∧ u.winBound = true ∧ u.winChan = c ∧
        (s.winBound = true → s.winChan = c → u = s) ∧
        (s.winBound = false ∨ s.winChan ≠ c → u.fld (.HST_MBX_STATE c) F.HST_MBX_STATE_BOUND = 1 ∧
          (s.winBound = true → u.fld (.HST_MBX_STATE s.winChan) F.HST_MBX_STATE_BOUND = 0) ∧
          Writes [.HST_WIN_STATUS, .HST_MBX_STATE c, .HST_MBX_STATE s.winChan] [] s u)) ∧
  (∀ (s : State) (src h c : Nat) (ws : List Word) (x : Session), StoresCanonical s → AskedBy s (.chan c) 0x05 src ws h x →
      x.role ≠ 0 → c < 8 →
      (s.winBound = true → s.winChan = c → ∃ u, exec (.unbind (.chan c)) s = .next (u.respond (.mbx c) Stat.ok 0 []) ∧
        u.winBound = false ∧ u.fld (.HST_MBX_STATE c) F.HST_MBX_STATE_BOUND = 0 ∧
        Writes [.HST_WIN_STATUS, .HST_MBX_STATE c] [] s u) ∧
      (s.winBound = false ∨ s.winChan ≠ c →
        exec (.unbind (.chan c)) s = .next (s.respond (.mbx c) Stat.state 0 []))))

/-- A READ of 1 to 60 consecutive registers that all read answers OK with their words in order, and READ_STAGED with
the staged word where the session's transaction holds one; the reads take effect in their order. Where the register at
an index does not read, the answer is its status with DETAIL that index, and none of them has an effect. A COUNT
outside 1 to 60 answers VALUE; a register that a recovery session may not read answers ROLE with its index before
that. A WRITE of 1 to 30 pairs handles them in order: where all succeed it answers OK; where one fails it answers that
status with DETAIL its index, the pairs before it keeping their effects and the later ones having none. That a reset
which a WRITE asks for begins after the answer (log 156), that ROLE goes before a bad COUNT (log 52) and that no read
of a failing READ stands (log 38) are the model's choices. -/
def Obligations.RequestsReadAndWrite : Prop :=
  (∀ (s : State) (v : Via) (src h : Nat) (ws : List Word) (x : Session) (staged : Bool) (n a : Nat) (σ : Nat → State)
      (words : Nat → Word),
      AskedBy s v (if staged then 0x12 else 0x10) src ws h x → x.role ≠ 0 → (reqWord ws 0).toNat = a →
      (reqWord ws 1).toNat = n → σ 0 = s →
      let c : Instr := if staged then .readStaged v else .read v
      let r := replyFor v src ws
      let barred := barredRead x a (min 60 (max 1 n))
      let reads (i : Nat) : Prop := (σ i).readAddr (.sess h x.role) (a + 4 * i) = (σ (i + 1), 0, words i)
      (∀ i, barred = some i → exec c s = .next (s.respond r Stat.role i [])) ∧
      (barred = none → n = 0 ∨ 60 < n → exec c s = .next (s.respond r Stat.value 0 [])) ∧
      (barred = none → 1 ≤ n → n ≤ 60 → (∀ i, i < n → reads i) →
        exec c s = .next ((σ n).respond r Stat.ok 0 ((List.range n).map fun i =>
          if staged then ((σ (i + 1)).stagedWord (.sess h x.role) (a + 4 * i)).getD (words i) else words i))) ∧
      (∀ k st, barred = none → 1 ≤ n → n ≤ 60 → k < n → (∀ i, i < k → reads i) →
        ((σ k).readAddr (.sess h x.role) (a + 4 * k)).2.1 = st → st ≠ 0 → exec c s = .next (s.respond r st k []))) ∧
  (∀ (s : State) (w : Who) (a : Nat), decodeAddr a = none → (s.readAddr w a).2.1 = Stat.address) ∧
  (∀ (s : State) (v : Via) (src h : Nat) (ws : List Word) (x : Session) (n : Nat) (A V : Nat → Word) (σ : Nat → State),
      AskedBy s v 0x11 src ws h x → x.role ≠ 0 → 1 ≤ n → n ≤ 30 →
      (ws.drop 3).take (reqLength ws / 4) = (List.range n).flatMap (fun i => [A i, V i]) → σ 0 = s →
      let r := replyFor v src ws
      let put (i : Nat) : State × Nat := (σ i).writeAddr (.sess h x.role) (A i).toNat (V i)
      ((∀ i, i < n → put i = (σ (i + 1), 0)) → exec (.write v) s = .next ((σ n).respond r Stat.ok 0 []).takeReset) ∧
      (∀ k, k < n → (∀ i, i < k → put i = (σ (i + 1), 0)) → (put k).2 ≠ 0 →
        exec (.write v) s = .next ((put k).1.respond r (put k).2 k []).takeReset))

/-- BEGIN of an Operator or Expert without an open transaction opens an empty one; with one it answers TXN_OPEN. ABORT
discards it, or answers NO_TXN. Other roles are answered ROLE. A TABLE_OP enters the open transaction last and costs 4
units, is answered TXN_FULL beyond 4,096 units, LOCKED where another session's transaction or accepted commit holds
the table, and TABLE with its code where it is not good; without a transaction it becomes an accepted commit whose
answer is to come. A staged register write to a new address costs one unit; to an address staged before it replaces
the value at no cost; beyond 4,096 units it ends with TXN_FULL; another session's lock gives LOCKED. TXN_STATUS
answers the units, the locks and whether a transaction is open. The order of refusals that hold together is the
model's choice (log 153). -/
def Obligations.TransactionsStage : Prop :=
  (∀ (s : State) (v : Via) (src h : Nat) (ws : List Word) (x : Session), x.role ≠ 0 →
      let r := replyFor v src ws
      (AskedBy s v 0x20 src ws h x → exec (.begin v) s = .next (
        if x.mayCommit = false then s.respond r Stat.role 0 []
        else if x.txn.isSome then s.respond r Stat.txnOpen 0 []
        else (s.putSession h { x with txn := some ⟨[], [], 0⟩ }).respond r Stat.ok 0 [])) ∧
      (AskedBy s v 0x22 src ws h x → exec (.abort v) s = .next (
        if x.mayCommit = false then s.respond r Stat.role 0 []
        else if x.txn.isNone then s.respond r Stat.noTxn 0 []
        else (s.putSession h { x with txn := none }).respond r Stat.ok 0 [])) ∧
      (AskedBy s v 0x24 src ws h x → x.role ≠ 4 → exec (.txnStatus v) s = .next (s.respond r Stat.ok 0 (
        match x.txn with
        | none => [0, 0]
        | some t => [BitVec.ofNat 32 (t.units * 65536 + t.locks), BitVec.ofNat 32 (2 ^ 24)])))) ∧
  (∀ (s : State) (v : Via) (src h : Nat) (ws : List Word) (x : Session), AskedBy s v 0x23 src ws h x → x.role ≠ 0 →
      let r := replyFor v src ws
      let w := (reqWord ws 0).toNat
      let rec' := opOfRecord (w / 2 ^ 24) (w / 2 ^ 16 % 256) ((ws.drop 4).take (w % 65536))
      (x.mayCommit = false → exec (.tableOp v) s = .next (s.respond r Stat.role 0 [])) ∧
      (∀ code, x.mayCommit = true → rec' = .inl code → exec (.tableOp v) s = .next (s.respond r Stat.table code [])) ∧
      (∀ o, x.mayCommit = true → rec' = .inr o → o.check = 0 ∧
        (s.tblLocked h o.table = true → exec (.tableOp v) s = .next (s.respond r Stat.locked 0 [])) ∧
        (∀ t, s.tblLocked h o.table = false → x.txn = some t →
          exec (.tableOp v) s = .next (
            if 4096 < t.units + 4 then s.respond r Stat.txnFull 0 []
            else (s.putSession h { x with txn := some { t with ops := t.ops ++ [o], units := t.units + 4 } }).respond r
              Stat.ok 0 [])) ∧
        (s.tblLocked h o.table = false → x.txn = none → (s.validate [] [o]).1 = 0 →
          exec (.tableOp v) s = .next { s with jobs := s.jobs ++ [newJob h r false [] [o]] }))) ∧
  (∀ (s : State) (h : Nat) (r : Reg) (w : Word) (x : Session) (t : Txn), s.session h = some x → x.txn = some t →
      (s.regLocked h r.addr = true → s.stageReg h r w = (s, Stat.locked)) ∧
      (s.regLocked h r.addr = false → (sfind t.regs r.addr).isSome = true → s.stageReg h r w =
        (s.putSession h { x with txn := some { t with regs := sinsert t.regs r.addr w } }, 0)) ∧
      (s.regLocked h r.addr = false → sfind t.regs r.addr = none → s.stageReg h r w =
        if 4096 < t.units + 1 then (s, Stat.txnFull)
        else (s.putSession h { x with txn := some { t with regs := sinsert t.regs r.addr w, units := t.units + 1 } }, 0)) ∧
      (∀ k y u, k ≠ h → (k, y) ∈ s.sessions → y.txn = some u → (sfind u.regs r.addr).isSome = true →
        s.regLocked h r.addr = true))

/-- A COMMIT without the role is answered ROLE, without a transaction NO_TXN. Otherwise the transaction is closed; if
validation passes the commit waits last in the queue with its registers and operations; if it fails it is answered
with that status, STW_COMMIT_REFUSED counts one, and neither registers, tables nor the queue change. COMMIT_APPLY with
no retired epoch live and a steward at work, after what its bucket reads show of errors, for a head commit of staged
registers only and no block change: the free bank holds exactly the staged values over what it held, the current bank
and everything else stay, and the commit is ready. With one ternary, pattern or multicast WRITE the row is visible to
the free selector and what the current one sees stays. An exact-match WRITE while tier 2 is down abandons the commit:
the free bank is again as the current one and STW_COMMIT_REFUSED counts one. What counts as a refused commit, and the
undoing at abandon, are the model's choices (logs 31, 108, 126, 127). -/
def Obligations.CommitsAccepted : Prop :=
  (∀ (s : State) (v : Via) (src h : Nat) (ws : List Word) (x : Session), AskedBy s v 0x21 src ws h x → x.role ≠ 0 →
      let r := replyFor v src ws
      (x.mayCommit = false → exec (.commit v) s = .next ((s.count C.commitRefused).respond r Stat.role 0 [])) ∧
      (x.mayCommit = true → x.txn = none → exec (.commit v) s = .next (s.commitRefuse r Stat.noTxn 0 0)) ∧
      (∀ t, x.mayCommit = true → x.txn = some t →
        let u := s.putSession h { x with txn := none }
        let c := u.validate t.regs t.ops
        exec (.commit v) s = .next (
          if c.1 = 0 then { u with jobs := u.jobs ++ [newJob h r (reqFlags ws == 1) t.regs t.ops] }
          else (u.count C.commitRefused).respond r c.1 c.2.1 (u.commitPayload r (BitVec.ofNat 32 c.2.2) 0)))) ∧
  (∀ (v : State) (ecc : List (Nat × BucketEcc)) (j : Job) (rest : List Job), StoresCanonical v → v.jobs = j :: rest →
      v.fld .STW_EPOCH_STATUS F.STW_EPOCH_STATUS_RETIRED_LIVE = 0 → v.stewardHeld = false → j.started = false → j.done = 0 →
      let s := v.readEcc ecc
      skeysFrom none j.regs = true → s.movedPositions (1 - s.curSel) s.curSel = [] →
      (∀ kv ∈ j.regs, ∃ r, decodeAddr kv.1 = some r ∧ r.addr = kv.1 ∧ r.isST = true ∧ isBlockReg r = false) →
      let f := 1 - s.curSel
      (j.ops = [] → ∃ t, exec (.commitApply ecc) v = .next t ∧ t = { s with st0 := t.st0, st1 := t.st1, jobs := t.jobs } ∧
        t.jobs = { j with started := true, ready := true } :: rest ∧ t.bank s.curSel = s.bank s.curSel ∧
        ∀ r : Reg, decodeAddr r.addr = some r → t.stGet f r = match sfind j.regs r.addr with
          | some w => if s.instIn f r then w else s.stGet f r
          | none => s.stGet f r) ∧
      (∀ o, j.ops = [o] → o.table < 0x20 ∨ o.table = 0x30 → o.op = 1 → skeysFrom none s.rows = true →
        ∃ t, exec (.commitApply ecc) v = .next t ∧ t.jobs = { j with started := true, ready := true, done := 1 } :: rest ∧
          (t.rowFor o.table o.index f).map Row.words = some o.words ∧
          t.rowFor o.table o.index s.curSel = (s.rowFor o.table o.index s.curSel).map fun w => w.setVis f false)) ∧
  (∀ (v : State) (ecc : List (Nat × BucketEcc)) (j : Job) (rest : List Job) (o : TblOp), v.jobs = j :: rest →
      v.fld .STW_EPOCH_STATUS F.STW_EPOCH_STATUS_RETIRED_LIVE = 0 → v.stewardHeld = false → j.started = false → j.done = 0 →
      j.regs = [] → j.ops = [o] → o.table = 0x20 → o.op = 1 → v.fwd.job = none → v.t2Up = false →
      let s := v.readEcc ecc
      ∃ u, exec (.commitApply ecc) v = .next (u.respond j.reply Stat.table 10 (u.commitPayload j.reply 0#32 0)) ∧ u.jobs = rest ∧
        u.bank (1 - s.curSel) = u.bank s.curSel ∧ u.bank s.curSel = s.bank s.curSel ∧
        (skeysFrom none v.cnt = true → CountedOnce C.commitRefused s u))

/-- The head commit, ready: it leaves the queue, STW_COMMITS counts one, and every staged register reads as the free
bank held it. Once start-up is over the selector is the other one and EPOCH is one more; where neither block modes nor
groups change, the retired epoch is live exactly while packets of its selector are in flight. Before step 9 the
selector and EPOCH stay and both banks are the free one. With PERSIST, an image running, no upload and no write under
way, a write of the running image to the other bank, with SEQUENCE one more, begins (its moment: log 41). Promotion,
while a retired epoch is live: STW_EPOCH_PROMOTED grows by the packets still in flight, the retired bank and what its
selector sees in the row tables become as the current ones, and the epoch has ended; the scans under way go on under
the old rows; with none live nothing changes. -/
def Obligations.CommitsTakeEffect : Prop :=
  (∀ (s : State) (j : Job) (rest : List Job), StoresCanonical s → FramesInRange s → s.jobs = j :: rest → j.ready = true →
      s.stewardHeld = false → (∀ c, j.reply = .mbx c → c < 8) →
      let c := s.curSel
      ∃ t, exec .commitPoint s = .next t ∧ t.jobs = rest ∧ CountedOnce C.commits s t ∧
        (∀ r : Reg, t.stGet t.curSel r = s.stGet (1 - c) r) ∧
        (s.running = true → t.curSel = 1 - c ∧ t.get .STW_EPOCH_NUMBER = s.get .STW_EPOCH_NUMBER + 1 ∧
          (s.movedPositions (1 - c) c = [] → (∀ kv ∈ j.regs, ∀ b, decodeAddr kv.1 ≠ some (.LNE_GRP_CFG b)) →
            t.fld .STW_EPOCH_STATUS F.STW_EPOCH_STATUS_RETIRED_LIVE = if s.inFlight c = 0 then 0 else 1)) ∧
        (s.running = false → t.curSel = c ∧ t.get .STW_EPOCH_NUMBER = s.get .STW_EPOCH_NUMBER ∧
          t.bank 0 = t.bank 1) ∧
        (j.persist = false → t.flash = s.flash) ∧
        (∀ i, j.persist = true → s.boot.image = some i → s.flash.op = none → s.flash.upload = none →
          s.fld .STW_PERSIST_STATUS F.STW_PERSIST_STATUS_UPLOAD_PENDING = 0 → i.seq + 1 < 0xFFFFFFFF → i.bank < 2 →
          t.fld .STW_PERSIST_STATUS F.STW_PERSIST_STATUS_STATE = 1 ∧
          t.fld .STW_PERSIST_STATUS F.STW_PERSIST_STATUS_BANK = 1 - i.bank ∧
          ∃ img : RunImage, img.keys = i.keys ∧ img.cl = i.cl ∧ img.build = i.build ∧
            t.flash.op = some (.persist (1 - i.bank) (img.bytes s.boot.fuses (i.seq + 1))))) ∧
  (∀ (s : State) (scanning : List Nat), skeysFrom none s.cnt = true → skeysFrom none s.regs = true →
      skeysFrom none s.rows = true →
      (s.fld .STW_EPOCH_STATUS F.STW_EPOCH_STATUS_RETIRED_LIVE = 0 → exec (.epochPromotion scanning) s = .next s) ∧
      (s.fld .STW_EPOCH_STATUS F.STW_EPOCH_STATUS_RETIRED_LIVE = 1 → ∃ t, exec (.epochPromotion scanning) s = .next t ∧
        t.fld .STW_EPOCH_STATUS F.STW_EPOCH_STATUS_RETIRED_LIVE = 0 ∧ t.curSel = s.curSel ∧ t.frames = (s.holdScans scanning).frames ∧
        CountedTimes C.epochPromoted (s.inFlight (1 - s.curSel)) s t ∧ t.bank s.curSel = s.bank s.curSel ∧
        t.bank (1 - s.curSel) = s.bank s.curSel ∧
        ∀ table i, (t.rowFor table i (1 - s.curSel)).map Row.words = (s.rowFor table i s.curSel).map Row.words ∧
          (t.rowFor table i s.curSel).map Row.words = (s.rowFor table i s.curSel).map Row.words))

/-- IMAGE_BEGIN of an Expert or recovery session for a bank that is not the running image's source, with no write and
no other upload under way: every cell of the bank reads 0xFF, the other bank stays, and the upload of the session is
open at offset 0 with the answer to come; the wrong role, bank or moment is answered ROLE, VALUE or BUSY. The end of
the erase answers OK, or FLASH_ERROR and no upload. Data at the next offset advance it; the first 256 bytes are held
as the header, and a body page is programmed when it is full; another offset is answered VALUE, no upload STATE, an
upload of a session without the role ROLE. At the end the received image is checked: a failed check is answered
IMAGE_INVALID with its code and the upload is over; otherwise the header is written. A persist whose read-back passes
is DONE, and the running image's source and SEQUENCE are those of its bank; one that fails is FAILED with FLASH_ERROR,
and the running image stays. Choices of the model: a second IMAGE_BEGIN of the same session (log 123), what a failed
check leaves (log 26), steps 5 to 9 (log 124), VALUE before BUSY and past 16 MiB (log 153). -/
def Obligations.FlashWrites : Prop :=
  (∀ (s : State) (v : Via) (src h : Nat) (ws : List Word) (x : Session), AskedBy s v 0x30 src ws h x → x.role ≠ 0 →
      let r := replyFor v src ws
      let k := (reqWord ws 0).toNat / 2 ^ 24
      let isSource : Prop := ∃ i, s.boot.image = some i ∧ s.bootStep ≠ 0xB ∧ i.bank = k
      let busy : Prop := s.flash.op ≠ none ∨ ∃ u, s.flash.upload = some u ∧ u.handle ≠ h
      (x.mayUpload = false → exec (.imageBegin v) s = .next (s.respond r Stat.role 0 [])) ∧
      (x.mayUpload = true → (1 < k ∨ isSource) → exec (.imageBegin v) s = .next (s.respond r Stat.value 0 [])) ∧
      (x.mayUpload = true → k ≤ 1 → ¬ isSource → busy → exec (.imageBegin v) s = .next (s.respond r Stat.busy 0 [])) ∧
      (x.mayUpload = true → k ≤ 1 → ¬ isSource → ¬ busy → ∃ t, exec (.imageBegin v) s = .next t ∧
        t = { s with flash := t.flash } ∧ t.flash.op = some (.erase k r) ∧ t.flash.upload = some ⟨h, k, 0, [], []⟩ ∧
        (∀ o, o < 0x1000000 → sgetD t.flash.cells (bankOff k + o) 0xFF#8 = 0xFF#8) ∧
        (skeysFrom none s.flash.cells = true → ∀ o, o < 0x1000000 →
          sgetD t.flash.cells (bankOff (1 - k) + o) 0xFF#8 = sgetD s.flash.cells (bankOff (1 - k) + o) 0xFF#8))) ∧
  (∀ (s : State) (k : Nat) (r : Reply), s.stewardHeld = false → s.flash.op = some (.erase k r) →
      exec (.bankEraseDone false) s = .next (({ s with flash := { s.flash with op := none } }).respond r Stat.ok 0 []) ∧
      exec (.bankEraseDone true) s =
        .next (({ s with flash := { s.flash with op := none, upload := none } }).respond r Stat.flashError 0 [])) ∧
  (∀ (s : State) (v : Via) (src h : Nat) (ws : List Word) (x : Session), AskedBy s v 0x31 src ws h x → x.role ≠ 0 →
      let r := replyFor v src ws
      let n := reqLength ws / 4 - 1
      let bytes := reqBytes ws 1 n
      (s.uploadOf h = none → exec (.imageData v) s = .next (s.respond r Stat.state 0 [])) ∧
      (s.uploadOf h ≠ none → x.mayUpload = false → exec (.imageData v) s = .next (s.respond r Stat.role 0 [])) ∧
      (∀ u, s.uploadOf h = some u → x.mayUpload = true → (reqWord ws 0).toNat ≠ u.next ∨ 0x1000000 < u.next + 4 * n →
        exec (.imageData v) s = .next (s.respond r Stat.value 0 [])) ∧
      (∀ u, s.uploadOf h = some u → x.mayUpload = true → (reqWord ws 0).toNat = u.next → u.next + 4 * n ≤ 0x1000000 → bytes.length = 4 * n →
        ∃ t : State, exec (.imageData v) s = .next (t.respond r Stat.ok 0 []) ∧ t = { s with flash := t.flash } ∧
        t.flash.op = none ∧
        (u.next + 4 * n ≤ 256 → t.flash.upload = some { u with next := u.next + 4 * n, header := u.header ++ bytes } ∧
          t.flash.cells = s.flash.cells) ∧
        (256 ≤ u.next → u.page.length = u.next % 256 → u.next % 256 + 4 * n < 256 →
          t.flash.upload = some { u with next := u.next + 4 * n, page := u.page ++ bytes } ∧
          t.flash.cells = s.flash.cells) ∧
        (256 ≤ u.next → u.page.length = u.next % 256 → u.next % 256 + 4 * n = 256 → 0 < n →
          t.flash.upload = some { u with next := u.next + 4 * n, page := [] } ∧
          t.flash.cells = (s.program (bankOff u.bank + (u.next - u.next % 256)) (u.page ++ bytes)).flash.cells))) ∧
  (∀ (s : State) (v : Via) (src h : Nat) (ws : List Word) (x : Session) (u : Upload), AskedBy s v 0x32 src ws h x →
      x.role ≠ 0 → x.mayUpload = true → s.uploadOf h = some u →
      let r := replyFor v src ws
      let p := s.program (bankOff u.bank + u.next - u.page.length) u.page
      let t : State := { p with flash := { p.flash with upload := none } }
      (p.receivedResult u ≠ 0 → exec (.imageEnd v) s = .next (t.respond r Stat.imageInvalid (p.receivedResult u) [])) ∧
      (p.receivedResult u = 0 → p.uploadSeq = none → exec (.imageEnd v) s = .next (t.respond r Stat.seqExhausted 0 [])) ∧
      (∀ q other, p.receivedResult u = 0 → p.uploadSeq = some (q, other) → ∃ hd,
        exec (.imageEnd v) s = .next { t with flash := { t.flash with op := some (.header u.bank hd other r) } } ∧
        hd = sealHeader s.boot.fuses.imageKey (beAt u.header 0xD 1 == 1) q u.header
          (p.flashBytes (bankOff u.bank + 256) (beAt u.header 0x14 4)))) ∧
  (∀ (s : State) (k : Nat) (bytes : List Byte) (i : RunImage), StoresCanonical s → s.stewardHeld = false → k < 2 →
      s.flash.op = some (.persist k bytes) → s.boot.image = some i →
      s.fld .STW_PERSIST_STATUS F.STW_PERSIST_STATUS_AGAIN = 0 →
      ((s.program (bankOff k) bytes).bankResult k = 0 → ∃ t, exec (.flashWriteDone [] false) s = .next t ∧
        t.fld .STW_PERSIST_STATUS F.STW_PERSIST_STATUS_STATE = 2 ∧
        t.fld .STW_PERSIST_STATUS F.STW_PERSIST_STATUS_STATUS = 0 ∧ t.flash.op = none ∧
        t.boot.image = some { i with bank := k, seq := beAt bytes 0x10 4 } ∧
        t.fld (.STW_BANK_STATE k) F.STW_BANK_STATE_RESULT = 1 ∧ t.fld (.STW_BANK_STATE k) F.STW_BANK_STATE_CHOSEN = 1 ∧
        t.fld (.STW_BANK_STATE (1 - k)) F.STW_BANK_STATE_CHOSEN = 0 ∧
        t.flash.cells = (s.program (bankOff k) bytes).flash.cells) ∧
      (∃ t, exec (.flashWriteDone [] true) s = .next t ∧ t.fld .STW_PERSIST_STATUS F.STW_PERSIST_STATUS_STATE = 3 ∧
        t.fld .STW_PERSIST_STATUS F.STW_PERSIST_STATUS_STATUS = Stat.flashError ∧ t.flash.op = none ∧
        t.boot.image = some i ∧ t.flash.cells = s.flash.cells))

/-- While the service port operates. A frame whose FCS, destination, type or length is not that of a message counts in
HST_SVC_RX_DROPS and changes nothing else; so does a message that finds 16 waiting, a retry too. With fewer, and some,
waiting it waits last with its source. With none waiting: one that repeats a request already answered has the same
response sent again, counted in HST_SVC_REPLAYS; another of a listed command waits; between a give-up and the
take-over each waits; under STEWARD_LOST it is answered STATE. While the port does not operate nothing changes.
Requests one at a time, and what a give-up does to them, are the model's choices (logs 29, 36, 103). On a channel: RSP
words 0, 1 and 2 hold STATUS with DETAIL and LENGTH, the HANDLE and the TAG of the request, the words after them the
payload; GO is 0 and DONE is 1; apart from the channel's registers only what signalling changes does. On the service
port, for the one request waiting: it leaves the queue, exactly one frame with the response is sent to its source
while the port operates and none while it does not, the response is kept with the session it names if that session is
the source's own, an OPEN's by source and TAG with its time, and no register changes. What becomes of a message the
port can not send, and RSP beyond the response, are the model's choices (logs 29, 32). -/
def Obligations.RequestsTravel : Prop :=
  (∀ (s : State) (bytes : List Byte),
    let on := s.svcOn = true ∧ s.stepTwoDone = true ∧ s.halted = false
    (¬ on → exec (.svcFrameRx bytes) s = .next s) ∧
    (on → s.svcMessage bytes = none → exec (.svcFrameRx bytes) s = .next (s.count C.svcRxDrops)) ∧
    (∀ src ws, on → s.svcMessage bytes = some (src, ws) →
      let waits : State := { s with mbx := { s.mbx with queue := s.mbx.queue ++ [(src, ws)] } }
      (16 ≤ s.mbx.queue.length → exec (.svcFrameRx bytes) s = .next (s.count C.svcRxDrops)) ∧
      (s.stewardLost = false → s.mbx.queue ≠ [] → s.mbx.queue.length < 16 → exec (.svcFrameRx bytes) s = .next waits) ∧
      (s.mbx.queue = [] →
        (s.stewardLost = true → exec (.svcFrameRx bytes) s =
          .next (waits.respond (.svc src (ws.getD 1 0) (ws.getD 2 0)) Stat.state 0 [])) ∧
        (s.stewardLost = false → s.stewardHeld = true → exec (.svcFrameRx bytes) s = .next waits) ∧
        (∀ r, s.stewardHeld = false → s.svcKept src ws = some r →
          exec (.svcFrameRx bytes) s = .next ((s.count C.svcReplays).svcSend src r)) ∧
        (s.stewardHeld = false → s.svcKept src ws = none → cmdListed (reqCommand ws) = true →
          exec (.svcFrameRx bytes) s = .next waits))) ∧
    (∀ src ws, s.svcMessage bytes = some (src, ws) → fcsGood bytes = true ∧ beAt bytes 12 2 = 0x88B5 ∧ beAt bytes 14 2 = 1 ∧
      (beAt bytes 0 6 = s.macBase ∨ beAt bytes 0 6 = 2 ^ 48 - 1) ∧ src = beAt bytes 6 6)) ∧
  ((∀ (s : State) (c st d : Nat) (payload : List Word), StoresCanonical s → c < 8 → payload.length ≤ 61 → st < 256 →
      let t := s.respond (.mbx c) st d payload
      t.get (.HST_MBX_RSP c 0) = BitVec.ofNat 32 (st + d % 256 * 256 + 4 * payload.length * 65536) ∧
      t.get (.HST_MBX_RSP c 1) = s.get (.HST_MBX_REQ c 1) ∧ t.get (.HST_MBX_RSP c 2) = s.get (.HST_MBX_REQ c 2) ∧
      (∀ i w, payload[i]? = some w → t.get (.HST_MBX_RSP c (3 + i)) = w) ∧
      t.fld (.HST_MBX_DOORBELL c) F.HST_MBX_DOORBELL_GO = 0 ∧ t.fld (.HST_MBX_DOORBELL c) F.HST_MBX_DOORBELL_DONE = 1 ∧
      Signals (.HST_MBX_DOORBELL c :: (List.range (3 + payload.length)).map (Reg.HST_MBX_RSP c)) [] s t ∧ t.cnt = s.cnt) ∧
  (∀ (s : State) (src st d : Nat) (h tag : Word) (ws payload : List Word), StoresCanonical s → s.mbx.queue = [(src, ws)] →
      let t := s.respond (.svc src h tag) st d payload
      let msg := response st d h tag payload
      t.mbx.queue = [] ∧ t.out = (if s.svcOn = true then Output.service (svcFrame src s.macBase msg) :: s.out else s.out) ∧
      (∀ x, s.session h.toNat = some x → x.chan = none → x.src = src →
        t.session h.toNat = some { x with kept := some (tag, msg) }) ∧
      (∀ k, k ≠ h.toNat → t.session k = s.session k) ∧
      (reqCommand ws = 1 → (src, tag, s.tim.tick, msg) ∈ t.mbx.kept ∧
        ∀ k ∈ t.mbx.kept, k = (src, tag, s.tim.tick, msg) ∨ k ∈ s.mbx.kept) ∧
      (reqCommand ws ≠ 1 → t.mbx.kept = s.mbx.kept) ∧
      t = { s with mbx := { s.mbx with queue := [], kept := t.mbx.kept }, sessions := t.sessions, out := t.out }))

/-- In SWEEP a count of 108,692 to 108,908 leads to SETTLE; another marks the band checked and goes to the next band
of the spiral, or to FAILED when none is left. In SETTLE a phase within the window leads to ALIGN; a failed attempt in
SETTLE or ALIGN starts the next one, or FAILED after the last. Alignment ends in LOCKED, or in OFF where EN is 0 or
every lane of the block is then DISABLED or in SLEEP (log 48), with GOOD_BAND the band, and a waiting lane of a port
that may train then trains. A loss of lock by the limits of R126 sets LOL_SEEN, counts, records PLL_LOSS, begins a new
acquisition in SWEEP at GOOD_BAND with attempt 1 (OFF as before), and sends every lane that is not DISABLED to
WAIT_GROUP or SLEEP. After 1 s in FAILED a running device begins again at GOOD_BAND with attempt 1. In other states
none of these changes anything. -/
def Obligations.GroupLoopsAcquire : Prop :=
  (∀ (s : State) (b count : Nat), StoresCanonical s → skeysFrom none s.lne.loops = true → b < 128 →
      (s.grpState b ≠ 1 → exec (.bandCheckEnd b count) s = .next s) ∧
      (s.grpState b = 1 → ∃ t, exec (.bandCheckEnd b count) s = .next t ∧
        (let u := s.putLoop b { s.loop b with checked := (s.loop b).checked ++ [s.grp b F.LNE_GRP_STATUS_BAND] }
         (108692 ≤ count → count ≤ 108908 → t.grpState b = 2 ∧ Writes [.LNE_GRP_STATUS b] [] u t) ∧
         (count < 108692 ∨ 108908 < count →
           (∀ k, u.nextBand b = some k → t.grpState b = 1 ∧ t.grp b F.LNE_GRP_STATUS_BAND = k ∧
             Writes [.LNE_GRP_STATUS b] [] u t) ∧
           (u.nextBand b = none → t.grpState b = 5 ∧ CountedOnce (C.events Ev.pllNoLock) s t ∧
             t.raised Ev.pllNoLock b = true))))) ∧
  (∀ (s : State) (b ps : Nat), StoresCanonical s → b < 128 →
      (s.grpState b ≠ 2 ∨ (s.loop b).lockWin < ps → exec (.lockDeclared b ps) s = .next s) ∧
      (s.grpState b = 2 → ps ≤ (s.loop b).lockWin → ∃ t, exec (.lockDeclared b ps) s = .next t ∧ t.grpState b = 3 ∧
        Writes [.LNE_GRP_STATUS b] [] s t)) ∧
  (∀ (s : State) (b : Nat) (c : Instr) (at' : Nat), StoresCanonical s → b < 128 →
      (c, at') ∈ [(Instr.lockAttemptFail b, 2), (.alignTimeout b, 3)] →
      (s.grpState b ≠ at' → exec c s = .next s) ∧
      (s.grpState b = at' → ∃ t, exec c s = .next t ∧
        (let a := s.grp b F.LNE_GRP_STATUS_ATTEMPT
         (a < (s.loop b).attempts → a < 15 → t.grp b F.LNE_GRP_STATUS_ATTEMPT = a + 1 ∧
           (∀ k, s.nextBand b = some k → t.grpState b = 1 ∧ t.grp b F.LNE_GRP_STATUS_BAND = k) ∧
           (s.nextBand b = none → t.grpState b = 5)) ∧
         ((s.loop b).attempts ≤ a → t.grpState b = 5 ∧ CountedOnce (C.events Ev.pllNoLock) s t)))) ∧
  (∀ (s : State) (b : Nat), StoresCanonical s → FramesInRange s → b < 128 →
      let asleep (s t : State) (b : Nat) : Prop := 7 ≤ s.bootStep ∧ s.bootStep ≤ 0xA ∧
        (s.grpEn b = false ∨ ∀ n ∈ blockLanes b, t.laneState n ≤ 1)
      (s.grpState b ≠ 3 → exec (.alignmentDone b) s = .next s) ∧
      (s.grpState b = 3 → ∃ t, exec (.alignmentDone b) s = .next t ∧
        (asleep s t b → t.grpState b = 0) ∧ (¬ asleep s t b → t.grpState b = 4) ∧
        t.grp b F.LNE_GRP_STATUS_GOOD_BAND = s.grp b F.LNE_GRP_STATUS_BAND ∧ t.raised Ev.pllNoLock b = false ∧
        ∀ n ∈ blockLanes b, 7 ≤ s.bootStep → s.bootStep ≤ 0xA → s.laneState n = 2 → s.wornanUp (n / 128) = true →
          s.laneCfg n F.LNE_LANE_CFG_PATTERN = 0 → s.laneCfg n F.LNE_LANE_CFG_LOOPBACK = 0 →
          s.laneCfg n F.LNE_LANE_CFG_TRAIN_EN = 1 → (s.lane n).wake = false → s.sleepMode (s.portOfLane n) ≠ 2 →
          t.laneState n = 4)) ∧
  (∀ (s : State) (b : Nat) (cause : LolCause), StoresCanonical s → FramesInRange s → b < 128 →
      skeysFrom none s.lne.loops = true →
      let asleep (t : State) : Prop := 7 ≤ s.bootStep ∧ s.bootStep ≤ 0xA ∧
        (s.grpEn b = false ∨ ∀ n ∈ blockLanes b, t.laneState n ≤ 1)
      (s.grpState b ≠ 4 ∨ s.lolHolds b cause = false → exec (.lossOfLock b cause) s = .next s) ∧
      (s.grpState b = 4 → s.lolHolds b cause = true → ∃ t, exec (.lossOfLock b cause) s = .next t ∧
        t.grp b F.LNE_GRP_STATUS_LOL_SEEN = 1 ∧ CountedOnce (C.grpLol b) s t ∧
        CountedOnce (C.events Ev.pllLoss) s t ∧ (asleep t → t.grpState b = 0) ∧ (¬ asleep t → t.grpState b = 1) ∧
        t.grp b F.LNE_GRP_STATUS_BAND = s.grp b F.LNE_GRP_STATUS_GOOD_BAND ∧ t.grp b F.LNE_GRP_STATUS_ATTEMPT = 1 ∧
        ∀ n ∈ blockLanes b, (s.laneState n = 0 → t.laneState n = 0) ∧
          (s.laneState n ≠ 0 → t.laneState n = 2 ∨ t.laneState n = 1))) ∧
  (∀ (s : State) (b : Nat), StoresCanonical s → skeysFrom none s.lne.loops = true → b < 128 →
      (s.grpState b ≠ 5 ∨ s.running = false → exec (.pllRetry b) s = .next s) ∧
      (s.grpState b = 5 → s.running = true → ∃ t, exec (.pllRetry b) s = .next t ∧ t.grpState b = 1 ∧
        t.grp b F.LNE_GRP_STATUS_ATTEMPT = 1 ∧ t.grp b F.LNE_GRP_STATUS_BAND = s.grp b F.LNE_GRP_STATUS_GOOD_BAND))

/-- A tap request in TRAIN is applied where the taps stay within their limits, and answered applied, at limit or not
supported; with SIGNAL 1; elsewhere it does nothing. A request of the lane's own that has stood unanswered is repeated
up to three times, one for precoding only with PRECODE = 1. Training succeeds into search with SIGNAL; it fails after
3 repeats or a timeout, with TRAIN_FAIL, into HOLDOFF. SIGNAL follows the envelope. Codeword lock makes a searching
lane UP; its loss with signal leads back to search, its loss with the signal to HOLDOFF, each counted. A search that
times out leads to HOLDOFF; the end of HOLDOFF trains with preset 1 or takes the set taps. A changed PATTERN takes a
lane to WAIT_GROUP. PRBS lock and mismatches are noted in TEST only. A port with SLEEP = 2 is apart from the HOLDOFF
clauses. Status bits between the rows are the model's choice (logs 48, 129). -/
def Obligations.LanesTrainAndLock : Prop :=
  (∀ (s : State) (n : Nat) (req : CoeffReq), s.laneState n ≠ 4 → exec (.coeffRequestRx n req) s = .next s) ∧
  (∀ (s : State) (n k : Nat) (up : Bool), StoresCanonical s → n < 1024 → s.laneState n = 4 →
      let old := tapsOf (s.get (.LNE_LANE_TXFFE n))
      let new := old.set k (old.getD k 0 + (if up then 1 else -1))
      let signal (t : State) : Nat := t.fld (.LNE_LANE_STATUS n) F.LNE_LANE_STATUS_SIGNAL
      (k < 5 → tapListOk new = true → ∃ t, exec (.coeffRequestRx n (.step k up)) s = .next t ∧
        t.get (.LNE_LANE_TXFFE n) = tapWord new ∧ tapsOf (tapWord new) = new ∧ t.out = Output.coeff n 0 :: s.out ∧
        signal t = 1 ∧ Writes [.LNE_LANE_TXFFE n, .LNE_LANE_STATUS n] [] { s with out := t.out } t) ∧
      (5 ≤ k ∨ tapListOk new = false → ∃ t, exec (.coeffRequestRx n (.step k up)) s = .next t ∧
        t.out = Output.coeff n 1 :: s.out ∧ signal t = 1 ∧ Writes [.LNE_LANE_STATUS n] [] { s with out := t.out } t) ∧
      (∀ p w, preset p = some w → ∃ t, exec (.coeffRequestRx n (.preset p)) s = .next t ∧
        tapsOf (t.get (.LNE_LANE_TXFFE n)) = w ∧ t.out = Output.coeff n 0 :: s.out) ∧
      (∀ p, preset p = none → ∃ t, exec (.coeffRequestRx n (.preset p)) s = .next t ∧ t.out = Output.coeff n 2 :: s.out ∧
        Writes [.LNE_LANE_STATUS n] [] { s with out := t.out } t) ∧
      (∀ on, ∃ t, exec (.coeffRequestRx n (.precode on)) s = .next t ∧ t.out = Output.coeff n 0 :: s.out ∧
        (skeysFrom none s.lne.lanes = true → (t.lane n).precode = on))) ∧
  (∀ (s : State) (n : Nat) (req : CoeffReq) (anew env : Bool), StoresCanonical s → FramesInRange s → n < 1024 →
      s.sleepMode (s.portOfLane n) ≠ 2 → let status (t : State) (f : Fld) : Nat := t.fld (.LNE_LANE_STATUS n) f
      let seen (t : State) : Prop := status t F.LNE_LANE_STATUS_SIGNAL = if env = true then 1 else 0
      let before := (s.lane n).repeats req anew
      (s.laneState n ≠ 4 ∨ s.mayAsk req = false → exec (.coeffRequestRepeat n req anew env) s = .next s) ∧
      (s.laneState n = 4 → s.mayAsk req = true → before < 3 → ∃ t, exec (.coeffRequestRepeat n req anew env) s = .next t ∧
        t.laneState n = 4 ∧ (t.lane n).asked = some (req, before + 1) ∧ t.out = Output.coeffReq n req :: s.out ∧ seen t) ∧
      (s.laneState n = 4 → s.mayAsk req = true → 3 ≤ before → ∃ t, exec (.coeffRequestRepeat n req anew env) s = .next t ∧
        t.laneState n = 7 ∧ status t F.LNE_LANE_STATUS_TRAIN_FAIL = 1) ∧
      (s.laneState n = 4 → (∃ t, exec (.trainTimeout n env) s = .next t ∧ t.laneState n = 7 ∧
          status t F.LNE_LANE_STATUS_TRAIN_FAIL = 1 ∧ seen t) ∧
        (∃ t, exec (.trainSuccess n) s = .next t ∧ t.laneState n = 5 ∧ status t F.LNE_LANE_STATUS_SIGNAL = 1 ∧
          Writes [.LNE_LANE_STATUS n] [] s t)) ∧
      (s.laneState n ≠ 4 → exec (.trainSuccess n) s = .next s ∧ exec (.trainTimeout n env) s = .next s) ∧
      (s.laneState n = 5 → (∃ t, exec (.cwLockGained n) s = .next t ∧ t.laneState n = 6 ∧
          status t F.LNE_LANE_STATUS_CW_LOCK = 1 ∧ status t F.LNE_LANE_STATUS_SIGNAL = 1 ∧
          Writes [.LNE_LANE_STATUS n] [] s t) ∧
        (∃ t, exec (.cwSearchTimeout n env) s = .next t ∧ t.laneState n = 7 ∧ seen t)) ∧
      (s.laneState n ≠ 5 → exec (.cwLockGained n) s = .next s ∧ exec (.cwSearchTimeout n env) s = .next s) ∧
      (s.laneState n = 6 → status s F.LNE_LANE_STATUS_SIGNAL = 1 → ∃ t, exec (.cwLockLost n) s = .next t ∧
        t.laneState n = 5 ∧ status t F.LNE_LANE_STATUS_CW_LOCK = 0 ∧ CountedOnce (C.linkDown n) s t) ∧
      (s.laneState n = 6 → ∃ t, exec (.lossOfSignal n) s = .next t ∧ t.laneState n = 7 ∧
        status t F.LNE_LANE_STATUS_SIGNAL = 0 ∧ CountedOnce (C.linkDown n) s t) ∧
      (s.laneState n ≠ 6 → exec (.cwLockLost n) s = .next s ∧ ∃ t, exec (.lossOfSignal n) s = .next t ∧
        t.laneState n = s.laneState n ∧ status t F.LNE_LANE_STATUS_SIGNAL = 0 ∧ Writes [.LNE_LANE_STATUS n] [] s t) ∧
      (s.laneState n ≠ 7 → exec (.holdoffExpires n env) s = .next s) ∧
      (s.laneState n = 7 → ∃ t, exec (.holdoffExpires n env) s = .next t ∧ seen t ∧
        (s.laneCfg n F.LNE_LANE_CFG_TRAIN_EN = 1 → t.laneState n = 4 ∧ CountedOnce (C.trainAttempts n) s t ∧
          tapsOf (t.get (.LNE_LANE_TXFFE n)) = [0, 0, 0, 64, 0]) ∧
        (s.laneCfg n F.LNE_LANE_CFG_TRAIN_EN = 0 → t.laneState n = 5 ∧
          t.get (.LNE_LANE_TXFFE n) = s.get (.LNE_LANE_TXFFE_SET n)))) ∧
  (∀ (s : State) (h n : Nat) (v : Word), StoresCanonical s → FramesInRange s → ExpertWindow s h → n < 1024 →
      Passes s h (.LNE_LANE_CFG n) v → ∃ t, exec (.laneCfgWrite .window n v) s = .next t ∧
        t.get (.LNE_LANE_CFG n) = (Reg.LNE_LANE_CFG n).written (s.get (.LNE_LANE_CFG n)) v ∧
        (2 ≤ s.laneState n → s.laneCfg n F.LNE_LANE_CFG_PATTERN ≠ F.LNE_LANE_CFG_PATTERN.get v → s.grpState (n / 8) ≠ 4 →
          F.LNE_LANE_CFG_SLEEP.get v ≠ 2 → s.sleepMode (s.portOfLane n) ≠ 2 → t.laneState n = 2)) ∧
  (∀ (s : State) (n : Nat), StoresCanonical s → n < 1024 →
      (∀ env, s.laneState n ≠ 8 → exec (.prbsLockGained n env) s = .next s ∧ exec (.prbsSymbolMismatch n) s = .next s) ∧
      (∀ env, s.laneState n = 8 → ∃ t, exec (.prbsLockGained n env) s = .next t ∧
        t.fld (.LNE_LANE_STATUS n) F.LNE_LANE_STATUS_PRBS_LOCK = 1 ∧
        t.fld (.LNE_LANE_STATUS n) F.LNE_LANE_STATUS_SIGNAL = (if env = true then 1 else 0) ∧ Writes [.LNE_LANE_STATUS n] [] s t) ∧
      (s.laneState n = 8 → s.fld (.LNE_LANE_STATUS n) F.LNE_LANE_STATUS_PRBS_LOCK = 1 → ∃ t,
        exec (.prbsSymbolMismatch n) s = .next t ∧ CountedOnce (C.prbsErrors n) s t ∧ Writes [] [C.prbsErrors n] s t))

/-- A port with SLEEP = 1 in HOLDOFF that is not up puts every lane of it that is not DISABLED to SLEEP. A tone on a
sleeping lane, or a due probe, takes the port's sleeping lanes to WAIT_GROUP, or on to the wake tone or a test where
the group is locked, each counted. After the tone a lane trains or searches. A cycle of Anise begins on an UP lane
with ANISE_EN while calibration is not frozen (R442); its phases measure the main eye, adapt the shadow, measure its
eye, swap where the gain suffices (counted), and revert where the errors doubled (counted). In other states nothing
changes, but a tone on a sleeping lane with another SLEEP shows in SIGNAL. Sleeping lanes of a group that is off or
locked, and the tests, follow the model's choices of logs 48 and 49. -/
def Obligations.LanesSleepAndAdapt : Prop :=
  (∀ (s : State) (p : Nat), StoresCanonical s → FramesInRange s →
      let may : Prop := s.isPort p = true ∧ s.sleepMode p = 1 ∧ s.laneState p = 7 ∧ s.portIsUp p = false
      (¬ may → exec (.laneSleepEnter p) s = .next s) ∧
      (may → ∃ t, exec (.laneSleepEnter p) s = .next t ∧
        ∀ n ∈ s.lanesOf p, t.laneState n = if s.laneState n = 0 then 0 else 1)) ∧
  (∀ (s : State) (n : Nat), StoresCanonical s → FramesInRange s → n < 1024 →
      (s.laneState n ≠ 1 → exec (.wakeDetected n) s = .next s) ∧
      (s.laneState n = 1 → s.sleepMode (s.portOfLane n) ≠ 1 → ∃ t, exec (.wakeDetected n) s = .next t ∧
        t.laneState n = 1 ∧ t.fld (.LNE_LANE_STATUS n) F.LNE_LANE_STATUS_SIGNAL = 1 ∧ Writes [.LNE_LANE_STATUS n] [] s t) ∧
      (s.laneState n = 1 → s.sleepMode (s.portOfLane n) = 1 → ∃ t, exec (.wakeDetected n) s = .next t ∧
        CountedOnce (C.wakes n) s t ∧ (t.laneState n = 2 ∨ t.laneState n = 3 ∨ t.laneState n = 8) ∧
        t.fld (.LNE_LANE_STATUS n) F.LNE_LANE_STATUS_SIGNAL = 1)) ∧
  (∀ (s : State) (p : Nat), StoresCanonical s → FramesInRange s →
      let may : Prop := s.isPort p = true ∧ s.laneState p = 1 ∧ s.sleepMode p = 1 ∧
        s.fld .LNE_TRAIN_CFG F.LNE_TRAIN_CFG_PROBE_PERIOD ≠ 0
      (¬ may → exec (.probeDue p) s = .next s) ∧
      (may → ∃ t, exec (.probeDue p) s = .next t ∧ CountedOnce (C.wakes p) s t ∧
        (t.laneState p = 2 ∨ t.laneState p = 3 ∨ t.laneState p = 8))) ∧
  (∀ (s : State) (n : Nat) (env : Bool), StoresCanonical s → skeysFrom none s.lne.lanes = true → n < 1024 →
      (s.laneState n ≠ 3 → exec (.wakeToneDone n env) s = .next s) ∧
      (s.laneState n = 3 → ∃ t, exec (.wakeToneDone n env) s = .next t ∧ (t.lane n).wake = false ∧
        t.laneState n = if s.laneCfg n F.LNE_LANE_CFG_TRAIN_EN = 1 then 4 else 5)) ∧
  (∀ (s : State) (n : Nat), StoresCanonical s → skeysFrom none s.lne.lanes = true → n < 1024 →
      let may : Prop := s.laneState n = 6 ∧ s.laneCfg n F.LNE_LANE_CFG_ANISE_EN = 1 ∧ s.anisePhase n = 0 ∧
        s.fld .HLT_HEALTH_CFG F.HLT_HEALTH_CFG_CAL_FREEZE = 0
      (¬ may → exec (.aniseCycleStart n) s = .next s) ∧
      (may → ∃ t, exec (.aniseCycleStart n) s = .next t ∧ t.anisePhase n = 1 ∧ (t.lane n).shadow = (s.lane n).main ∧
        KeepsRegs [.LNE_LANE_ANISE n] s t)) ∧
  (∀ (s : State) (n : Nat) (o : AniseSeen), StoresCanonical s → skeysFrom none s.lne.lanes = true → n < 1024 →
      (s.laneState n ≠ 6 ∨ s.anisePhase n = 0 → exec (.anisePhaseEnd n o) s = .next s) ∧
      (s.laneState n = 6 → 1 ≤ s.anisePhase n → s.anisePhase n ≤ 5 → ∃ t, exec (.anisePhaseEnd n o) s = .next t ∧
        KeepsRegs [.LNE_LANE_ANISE n] s t ∧
        (let eye (t : State) (f : Fld) : Nat := t.fld (.LNE_LANE_ANISE n) f
         (s.anisePhase n = 1 → t.anisePhase n = 2 ∧ eye t F.LNE_LANE_ANISE_EYE_MAIN = min 255 o.eye) ∧
         (s.anisePhase n = 2 → t.anisePhase n = 3 ∧ (t.lane n).shadow = o.adapted) ∧
         (s.anisePhase n = 3 → t.anisePhase n = 4 ∧ eye t F.LNE_LANE_ANISE_EYE_SHADOW = min 255 o.eye) ∧
         (s.anisePhase n = 4 →
           let gain := eye s F.LNE_LANE_ANISE_EYE_MAIN + s.fld .LNE_ANISE_CFG F.LNE_ANISE_CFG_SWAP_GAIN
           (gain ≤ eye s F.LNE_LANE_ANISE_EYE_SHADOW → (t.lane n).main = (s.lane n).shadow ∧
             (t.lane n).former = (s.lane n).main ∧ CountedOnce (C.aniseSwaps n) s t ∧
             t.anisePhase n = if s.fld .LNE_ANISE_CFG F.LNE_ANISE_CFG_REVERT_EN = 1 then 5 else 0) ∧
           (eye s F.LNE_LANE_ANISE_EYE_SHADOW < gain → t.anisePhase n = 0 ∧ (t.lane n).main = (s.lane n).main)) ∧
         (s.anisePhase n = 5 → t.anisePhase n = 0 ∧
           (2 * o.before < o.after → (t.lane n).main = (s.lane n).former ∧ CountedOnce (C.aniseReverts n) s t) ∧
           (o.after ≤ 2 * o.before → (t.lane n).main = (s.lane n).main)))))

/-- An attempt of a link that is down starts from start-up step 5 on and is numbered; success makes the link UP with
TIME_VALID, the latency half the measured round trip (counted in 1/64 of a unit interval, 2^-12 ns) plus the fused
trim, and the chiplet's time copy reloaded, within 4 ps of T; a failure makes it DOWN for the next attempt, or, as the
third of a series or as a retry, DISABLED, the third with the condition WORNAN_DOWN and with DEGRADED at step 5. A
fault of an UP link counts a retrain, starts training with attempt 1, clears TIME_VALID, and sends every lane of the
slice that is not DISABLED to WAIT_GROUP, and on to SLEEP with SLEEP = 2. A retry of a disabled link in a running
device is attempt 1. A corrected flit counts; an uncorrectable one counts, and is a fault when the limit within 1 ms
is reached. The latency's units, what a failed retry does, and that a link whose block reset has left it DOWN with
ATTEMPT 0 trains anew while RUNNING, are the model's choices (logs 50, 132, 46). -/
def Obligations.WornanLinks : Prop :=
  (∀ (s : State) (c : Nat), StoresCanonical s →
      let may : Prop := c < 8 ∧ s.wrn c F.LNE_WRN_STATUS_STATE = 0 ∧ s.wrn c F.LNE_WRN_STATUS_ATTEMPT < 3 ∧
        5 ≤ s.bootStep ∧ s.bootStep ≤ 0xA
      (¬ may → exec (.wornanAttemptStart c) s = .next s) ∧
      (may → ∃ t, exec (.wornanAttemptStart c) s = .next t ∧ t.wrn c F.LNE_WRN_STATUS_STATE = 1 ∧
        t.wrn c F.LNE_WRN_STATUS_ATTEMPT = s.wrn c F.LNE_WRN_STATUS_ATTEMPT + 1 ∧ Writes [.LNE_WRN_STATUS c] [] s t)) ∧
  (∀ (s : State) (c roundTrip : Nat) (off : Int), StoresCanonical s → FramesInRange s → c < 8 →
      (s.wrn c F.LNE_WRN_STATUS_STATE ≠ 1 → exec (.wornanTrainDone c roundTrip off) s = .next s ∧
        exec (.wornanAttemptFail c) s = .next s) ∧
      (s.wrn c F.LNE_WRN_STATUS_STATE = 1 →
        (∃ t, exec (.wornanTrainDone c roundTrip off) s = .next t ∧ t.wornanUp c = true ∧
          t.wrn c F.LNE_WRN_STATUS_TIME_VALID = 1 ∧
          t.get (.LNE_WRN_LATENCY c) = BitVec.ofInt 32 (8 * (roundTrip : Int) + sgetD s.boot.fuses.wrnAsym c 0) ∧
          sfind t.tim.copies c = some ⟨s.tim.t.toNat, (t.get (.LNE_WRN_LATENCY c)).toNat, max (-262) (min 262 off)⟩ ∧
          c ∉ t.lne.retrying ∧ t.raised Ev.wornanDown c = false) ∧
        (∃ t, exec (.wornanAttemptFail c) s = .next t ∧
          (s.lne.retrying.contains c = true → t.wrn c F.LNE_WRN_STATUS_STATE = 3 ∧ c ∉ t.lne.retrying ∧ t.hlt = s.hlt) ∧
          (s.lne.retrying.contains c = false → s.wrn c F.LNE_WRN_STATUS_ATTEMPT < 3 →
            t.wrn c F.LNE_WRN_STATUS_STATE = 0 ∧ Writes [.LNE_WRN_STATUS c] [] s t) ∧
          (s.lne.retrying.contains c = false → 3 ≤ s.wrn c F.LNE_WRN_STATUS_ATTEMPT →
            t.wrn c F.LNE_WRN_STATUS_STATE = 3 ∧ t.raised Ev.wornanDown c = true ∧
            (s.bootStep = 5 → t.fld .STW_BOOT_STATUS F.STW_BOOT_STATUS_DEGRADED = 1))))) ∧
  (∀ (s : State) (c : Nat), StoresCanonical s → FramesInRange s → c < 8 →
      let faulted (t : State) : Prop := t.wrn c F.LNE_WRN_STATUS_STATE = 1 ∧ t.wrn c F.LNE_WRN_STATUS_ATTEMPT = 1 ∧
        t.wrn c F.LNE_WRN_STATUS_TIME_VALID = 0 ∧ CountedOnce (C.wrnRetrains c) s t ∧
        sfind t.tim.copies c = none ∧ ∀ n ∈ sliceLanes c, (s.laneState n = 0 → t.laneState n = 0) ∧
          (s.laneState n ≠ 0 → t.laneState n = 2 ∨ (s.sleepMode (s.portOfLane n) = 2 ∧ t.laneState n = 1))
      (s.wornanUp c = false → exec (.wornanLinkFault c) s = .next s ∧
        ∀ fixed, exec (.wornanFlitError c fixed) s = .next s) ∧
      (s.wornanUp c = true → (∃ t, exec (.wornanLinkFault c) s = .next t ∧ faulted t) ∧
        (∃ t, exec (.wornanFlitError c true) s = .next t ∧ CountedOnce (C.wrnCorrected c) s t ∧
          Writes [] [C.wrnCorrected c] s t) ∧
        (∃ t, exec (.wornanFlitError c false) s = .next t ∧ CountedOnce (C.wrnUncorrectable c) s t ∧
          (let recent := (sgetD s.lne.flits c []).filter fun at' => decide (s.tim.tick < at' + 1000000)
           let limit := s.fld (.LNE_WRN_CFG c) F.LNE_WRN_CFG_UNCORR_LIMIT
           (limit ≤ recent.length + 1 → faulted t) ∧
           (recent.length + 1 < limit → t.wornanUp c = true ∧ t.regs = s.regs))))) ∧
  (∀ (s : State) (c : Nat), StoresCanonical s → c < 8 →
      (s.running = false ∨ s.wrn c F.LNE_WRN_STATUS_STATE ≠ 3 → exec (.wornanRetry c) s = .next s) ∧
      (s.running = true → s.wrn c F.LNE_WRN_STATUS_STATE = 3 → ∃ t, exec (.wornanRetry c) s = .next t ∧
        t.wrn c F.LNE_WRN_STATUS_STATE = 1 ∧ t.wrn c F.LNE_WRN_STATUS_ATTEMPT = 1 ∧ c ∈ t.lne.retrying))

/-- With lanes-up a DOWN port enters ALIGNING. The fault bits show the faults seen, in ALIGNING at every
PORT_LANES_UP, in DOWN and ALIGNING at every PORT_DOWN; it is aligned from the first row that shows no local fault
until it loses its lanes or alignment (log 134). An ALIGNING port aligned with at most 180 ns of skew enters UP with
no fault shown, with more it stays; it is then unparked, or, its window open, its age check runs or has ended. One
that fails to align is counted in PRT_ALIGN_FAIL and is DOWN, or ALIGNING again while lanes-up holds. An UP port goes
DOWN for each of the four causes: DOWN_SEEN is set, PRT_PORT_DOWN counts once, received pause and its own XOFF end,
and its queues park, or are flushed with WINDOW = 0. A window that expires with the port not UP leaves it flushed.
Nothing but the status register, that mark and the counter changes at the first and third; a port not parked changes
only its own status, pause status and due frames at UP; one that sends nothing keeps every replica in its queues when
it parks (the yields of that instant are noted, R311; a frame whole in the transmit buffer: log 130). At a running
device, a frame that begins at an UP port's lane while the port receives no other: with no room, or while its block is
being reset, it is refused and counted in PRT_RX_FIFO_DROPS of the port, and nothing else changes; with room it joins
the device under the next number, with its port and lane, the current epoch selector, the ingress timestamp (event
time at the balls, by the lane's chiplet, less RX_LAT), the parse pipeline whose turn it is and its bytes up to
MAX_FRAME + 1, and every other frame and all else stays. Each codeword with errors adds one to the port's corrected or
uncorrectable counter; one that could not be corrected marks the frame in reception at the port bad, and nothing else
changes. The frame's bytes as an operand, the coding left out, and the turn of the pipelines are the model's (logs 11,
133, 150). -/
def Obligations.PortsChangeAndReceive : Prop :=
  (∀ (s : State) (p : Nat) (lf rf : Bool), StoresCanonical s → FramesInRange s → s.isPort p = true →
    let status (t : State) (f : Fld) : Nat := t.fld (.PRT_PORT_STATUS p) f
    let shows (t : State) : Prop := status t F.PRT_PORT_STATUS_LOCAL_FAULT = (if lf = true then 1 else 0) ∧
      status t F.PRT_PORT_STATUS_REMOTE_FAULT = (if rf = true then 1 else 0)
    let others (t : State) : Prop := t.park p = s.park p ∧
      status t F.PRT_PORT_STATUS_DOWN_SEEN = status s F.PRT_PORT_STATUS_DOWN_SEEN
    let line (t : State) (a : Bool) : Prop := (skeysFrom none s.ports = true → (t.portSt p).aligned = a) ∧
      ∀ q, q ≠ p → (t.portSt q).aligned = (s.portSt q).aligned
    let alone (t : State) : Prop := t = { s with regs := t.regs, ports := t.ports } ∧ KeepsRegs [.PRT_PORT_STATUS p] s t ∧
      (skeysFrom none s.ports = true → t.portSt p = { s.portSt p with aligned := (t.portSt p).aligned }) ∧
      ∀ q, q ≠ p → t.portSt q = s.portSt q
    (s.portState p = 1 → s.lanesUp p = true → ∃ t, exec (.portLanesUp p lf rf) s = .next t ∧
      t.portState p = 2 ∧ shows t ∧ others t ∧ alone t ∧ line t false) ∧
    (s.portState p = 2 → ∃ t, exec (.portLanesUp p lf rf) s = .next t ∧ t.portState p = 2 ∧ shows t ∧ others t ∧
      alone t ∧ line t (!lf)) ∧
    (∀ skew, 180000 < skew → exec (.portUp p skew) s = .next s) ∧
    (∀ skew, skew ≤ 180000 → s.portState p = 2 → s.lanesUp p = true → ∃ t, exec (.portUp p skew) s = .next t ∧ t.portState p = 3 ∧
      t.fld (.PRT_PORT_STATUS p) F.PRT_PORT_STATUS_LOCAL_FAULT = 0 ∧
      t.fld (.PRT_PORT_STATUS p) F.PRT_PORT_STATUS_REMOTE_FAULT = 0 ∧
      t.fld (.PRT_PORT_STATUS p) F.PRT_PORT_STATUS_DOWN_SEEN =
        s.fld (.PRT_PORT_STATUS p) F.PRT_PORT_STATUS_DOWN_SEEN ∧ line t true ∧
      (s.park p ≠ 1 → t.park p = 0 ∧ KeepsRegs [.PRT_PORT_STATUS p, .PRT_PFC_STATUS p] s t ∧
        t = { s with regs := t.regs, ports := t.ports }) ∧
      (s.park p = 1 → t.park p = 3 ∨ t.park p = 0)) ∧
    (s.portState p = 2 → ∃ t, exec (.portAlignFail p lf rf) s = .next t ∧
      t.portState p = (if s.lanesUp p = true then 2 else 1) ∧ shows t ∧ others t ∧
      CountedOnce (C.alignFail p) s t ∧ KeepsCounters [C.alignFail p] s t ∧ line t false ∧
      KeepsRegs [.PRT_PORT_STATUS p] s t ∧ t = { s with regs := t.regs, cnt := t.cnt, ports := t.ports }) ∧
    (∀ cause, s.portState p = 1 ∨ s.portState p = 2 → ∃ t, exec (.portDown p cause) s = .next t ∧
      t.portState p = s.portState p ∧ others t ∧ alone t ∧ line t (cause == .remoteFault) ∧
      status t F.PRT_PORT_STATUS_LOCAL_FAULT = (if cause = .remoteFault then 0 else 1) ∧
      status t F.PRT_PORT_STATUS_REMOTE_FAULT = (if cause = .remoteFault then 1 else 0)) ∧
    (∀ cause, s.portState p = 3 → ∃ t, exec (.portDown p cause) s = .next t ∧ t.portState p = 1 ∧
      t.fld (.PRT_PORT_STATUS p) F.PRT_PORT_STATUS_DOWN_SEEN = 1 ∧ t.get (.PRT_PFC_STATUS p) = 0#32 ∧
      CountedOnce (C.portDown p) s t ∧
      t.park p = (if s.fld .PRT_PARK_CFG F.PRT_PARK_CFG_WINDOW = 0 then 2 else 1) ∧
      status t F.PRT_PORT_STATUS_LOCAL_FAULT = (if cause = .remoteFault then 0 else 1) ∧
      (skeysFrom none s.ports = true → (t.portSt p).aligned = (cause == .remoteFault)) ∧
      status t F.PRT_PORT_STATUS_REMOTE_FAULT = (if cause = .remoteFault then 1 else 0) ∧
      (s.fld .PRT_PARK_CFG F.PRT_PARK_CFG_WINDOW ≠ 0 → s.transmitting p = none →
        let u := (s.seeCause p cause).frameYields
        t = { u with regs := t.regs, cnt := t.cnt, frames := t.frames, ports := t.ports } ∧
        KeepsRegs [.PRT_PORT_STATUS p, .PRT_PFC_STATUS p] s t ∧ KeepsCounters [C.portDown p] u t)) ∧
    (s.park p = 1 → s.portState p ≠ 3 → ∃ t, exec (.parkWindowExpires p) s = .next t ∧ t.park p = 2 ∧
      t.portState p = s.portState p ∧
      ∀ k r, t.rep k = some r → (∃ b, s.rep k = some { r with yielded := b }) ∧ (portOf r.q = p → r.tx.isSome = true))) ∧
  ((∀ (s : State) (f : RxFrame), s.running = true → s.portIsUp f.port = true → f.port ≤ f.lane →
      f.lane < f.port + s.blkLanes (f.port / 8) →
      (∀ kv ∈ s.frames, kv.2.port = f.port → kv.2.fromHost = true ∨ kv.2.engine = true ∨ kv.2.ended = true) →
      let refused : Prop := f.room = false ∨ s.rstSet 3 (f.port / 128) (f.port / 8 % 16) = true
      ∃ t, exec (.frameStartRx f) s = .next t ∧
        (refused → CountedOnce (C.prtRxFifoDrops f.port) s t ∧ t.regs = s.regs ∧
          Writes [] [C.prtRxFifoDrops f.port] s t) ∧
        (¬ refused → t = { s with frames := t.frames, nextFrame := s.nextFrame + 1, deal := t.deal } ∧
          (∀ id, id ≠ s.nextFrame → t.frame id = s.frame id) ∧
          ∃ g, t.frame s.nextFrame = some g ∧ g.port = f.port ∧ g.lane = f.lane ∧ g.fromHost = false ∧
            g.sel = s.curSel ∧ g.ts = s.ingressTs f.port f.lane f.ball ∧ g.pipe = (s.dealTo (groupOf f.port)).1 ∧ g.admitT = s.admitNow ∧
            g.bytes = f.bytes.take (s.maxFrame s.curSel f.port + 1) ∧ g.errBlock = f.errBlock ∧
            g.errCtl = f.errCtl ∧ g.ended = false ∧ g.stage = Stage.admitted)) ∧
  (∀ (s : State) (p : Nat) (corrected : Bool), s.isPort p = true →
      ∃ t, exec (.fecCodewordError p corrected) s = .next t ∧
        (if corrected then CountedOnce (C.fecCorrected p) s t ∧ Writes [] [C.fecCorrected p] s t
         else CountedOnce (C.fecUncorrectable p) s t ∧ Writes [] [C.fecUncorrectable p] { s with frames := t.frames } t ∧
          ∀ id f, s.frame id = some f → t.frame id = some { f with errBlock := f.errBlock ||
            (f.port == p && !f.fromHost && !f.engine && !f.ended) })))

/-- A good pause or PFC frame for the port is consumed: it leaves the device, PRT_RX_PAUSED counts it once, and it is
obeyed only if its kind matches FC_MODE. In pause mode the whole port is paused, or released by a time of 0. In PFC
mode each priority that the frame's vector names and PFC_EN enables is paused, or released by a time of 0, and every
other priority stays as it was. A frame of the other kind leaves RX_PAUSED as it was. When a received pause time runs
out the priority (in pause mode every priority) is no longer paused, and nothing else changes. While priority i of a
port is in XOFF, the repeat makes a frame with time QUANTA due for it and nothing else changes. An UP port that is
transmitting nothing sends the due frame: the frames of an old kind left by commits first, oldest first, each with
time 0; else one frame of the mode's kind carrying every due priority, with time QUANTA for those in XOFF and 0 for
those that left it, after which no priority is due unless QUANTA div 2 is 0. Only the message and the due priorities
change. That priorities due more than 100 ns apart share a frame is the model's choice (log 152). -/
def Obligations.PauseReceivedAndSent : Prop :=
  ((∀ (s : State) (id : Nat) (f : Frame), StoresCanonical s → s.frame id = some f → f.ended = true → f.bad = false →
      f.fromHost = false → f.engine = false → s.isPause f.port f.bytes = true →
      ∃ t, exec (.pauseFrameRx id) s = .next t ∧ t.frame id = none ∧ CountedOnce (C.prtRxPause f.port) s t ∧
        KeepsCounters [C.prtRxPause f.port] s.frameYields t ∧ (∀ k, k ≠ id → t.frame k = s.frame k) ∧
        (beAt f.bytes 14 2 = 1 → s.fcMode s.curSel f.port = 1 →
          t.fld (.PRT_PFC_STATUS f.port) F.PRT_PFC_STATUS_RX_PAUSED = (if beAt f.bytes 16 2 = 0 then 0 else 255)) ∧
        (beAt f.bytes 14 2 ≠ 1 → s.fcMode s.curSel f.port = 2 → ∀ i, i < 8 →
          (t.fld (.PRT_PFC_STATUS f.port) F.PRT_PFC_STATUS_RX_PAUSED).testBit i =
            if (beAt f.bytes 16 2).testBit i && (s.pfcEn s.curSel f.port).testBit i
            then decide (beAt f.bytes (18 + 2 * i) 2 ≠ 0)
            else (s.fld (.PRT_PFC_STATUS f.port) F.PRT_PFC_STATUS_RX_PAUSED).testBit i) ∧
        ((beAt f.bytes 14 2 = 1 → s.fcMode s.curSel f.port ≠ 1) →
          (beAt f.bytes 14 2 ≠ 1 → s.fcMode s.curSel f.port ≠ 2) →
          t.fld (.PRT_PFC_STATUS f.port) F.PRT_PFC_STATUS_RX_PAUSED =
            s.fld (.PRT_PFC_STATUS f.port) F.PRT_PFC_STATUS_RX_PAUSED)) ∧
  (∀ (s : State) (p i : Nat), StoresCanonical s → s.isPort p = true → i < 8 →
      (s.fld (.PRT_PFC_STATUS p) F.PRT_PFC_STATUS_RX_PAUSED).testBit i = true →
      ∃ t, exec (.pauseExpires p i) s = .next t ∧ Writes [.PRT_PFC_STATUS p] [] s t ∧
        t.fld (.PRT_PFC_STATUS p) F.PRT_PFC_STATUS_TX_XOFF = s.fld (.PRT_PFC_STATUS p) F.PRT_PFC_STATUS_TX_XOFF ∧
        ∀ j, (t.fld (.PRT_PFC_STATUS p) F.PRT_PFC_STATUS_RX_PAUSED).testBit j =
          (decide (s.fcMode s.curSel p ≠ 1) && decide (j ≠ i) &&
            (s.fld (.PRT_PFC_STATUS p) F.PRT_PFC_STATUS_RX_PAUSED).testBit j))) ∧
  ((∀ (s : State) (p i : Nat), s.isPort p = true → i < 8 →
      (s.fld (.PRT_PFC_STATUS p) F.PRT_PFC_STATUS_TX_XOFF).testBit i = true →
      ∃ t, exec (.pauseRepeatDue p i) s = .next t ∧ t = { s with ports := t.ports } ∧
        (skeysFrom none s.ports = true → (t.portSt p).dueXoff.testBit i = true ∧
          (t.portSt p).dueXon.testBit i = false) ∧ ∀ q, q ≠ p → t.portSt q = s.portSt q) ∧
  (∀ (s : State) (p : Nat), skeysFrom none s.ports = true → s.portIsUp p = true → s.transmitting p = none →
      (∀ m v rest, (s.portSt p).olds = (m, v) :: rest → ∃ t, exec (.pauseFrameTx p) s = .next t ∧
        t = { s.emit (.pause p (pauseBytes (s.portMac p) m v fun _ => 0))
          with ports := t.ports } ∧
        (t.portSt p).olds = rest ∧ (t.portSt p).dueXoff = (s.portSt p).dueXoff ∧
        (t.portSt p).dueXon = (s.portSt p).dueXon ∧ ∀ q, q ≠ p → t.portSt q = s.portSt q) ∧
      ((s.portSt p).olds = [] → s.fcMode s.curSel p ≠ 0 → (s.portSt p).dueXoff ||| (s.portSt p).dueXon ≠ 0 →
        ∃ t, exec (.pauseFrameTx p) s = .next t ∧
        t = { s.emit (.pause p (pauseBytes (s.portMac p) (s.fcMode s.curSel p)
            ((s.portSt p).dueXoff ||| (s.portSt p).dueXon) fun i =>
              if (s.portSt p).dueXoff.testBit i then s.cFld (.PRT_FC_CFG p) F.PRT_FC_CFG_QUANTA else 0))
          with ports := t.ports } ∧
        (t.portSt p).dueXon = 0 ∧ (t.portSt p).olds = [] ∧
        (t.portSt p).dueXoff = (if s.cFld (.PRT_FC_CFG p) F.PRT_FC_CFG_QUANTA / 2 = 0
          then s.fld (.PRT_PFC_STATUS p) F.PRT_PFC_STATUS_TX_XOFF else 0) ∧
        ∀ q, q ≠ p → t.portSt q = s.portSt q)))

/-- The last byte of a received frame arrives. A runt is counted in PRT_RX_RUNTS, is counted nowhere else among the
receive checks, no replica of it stays in the device, and what a copy still refers to is marked bad. A bad frame
(oversize, an error block, an error control block, or a wrong FCS) is counted once in PRT_RX_FCS_ERRORS, also in
PRT_RX_OVERSIZE exactly if it is oversize and in PRT_RX_STOMP_SEEN exactly if its FCS is stomped or it ended in an
error control block, and it ends as a runt does. A good pause frame only becomes whole and counts nothing here. Any
other good frame is counted in PRT_RX_FRAMES and is whole, its bytes as they were, and the registers stay as they
were. That a runt with an error counts as a runt alone is the model's choice (log 152). -/
def Obligations.FrameEnds : Prop :=
  ∀ (s : State) (id : Nat) (f : Frame), StoresCanonical s → FramesInRange s → s.frame id = some f → f.ended = false →
    f.fromHost = false →
    let endsBad (t : State) : Prop := t.repsOf id = [] ∧ ∀ g, t.frame id = some g → g.ended = true ∧ g.bad = true
    (f.len < 64 → ∃ t, exec (.frameEndRx id) s = .next t ∧ CountedOnce (C.prtRxRunts f.port) s t ∧ endsBad t ∧
      ∀ c ∈ [C.prtRxFcsErrors f.port, C.prtRxOversize f.port, C.prtRxStompSeen f.port, C.prtRxFrames f.port],
        t.counter c = s.counter c) ∧
    (64 ≤ f.len →
      (s.maxFrame f.sel f.port < f.len ∨ f.errBlock = true ∨ f.errCtl = true ∨ fcsGood f.bytes = false) →
      ∃ t, exec (.frameEndRx id) s = .next t ∧ CountedOnce (C.prtRxFcsErrors f.port) s t ∧ endsBad t ∧
        (if s.maxFrame f.sel f.port < f.len then CountedOnce (C.prtRxOversize f.port) s t
         else t.counter (C.prtRxOversize f.port) = s.counter (C.prtRxOversize f.port)) ∧
        (if fcsStomped f.bytes = true ∨ f.errCtl = true then CountedOnce (C.prtRxStompSeen f.port) s t
         else t.counter (C.prtRxStompSeen f.port) = s.counter (C.prtRxStompSeen f.port)) ∧
        t.counter (C.prtRxRunts f.port) = s.counter (C.prtRxRunts f.port) ∧
        t.counter (C.prtRxFrames f.port) = s.counter (C.prtRxFrames f.port)) ∧
    (64 ≤ f.len → f.len ≤ s.maxFrame f.sel f.port → f.errBlock = false → f.errCtl = false → fcsGood f.bytes = true →
      (s.isPause f.port f.bytes = true → ∃ t, exec (.frameEndRx id) s = .next t ∧
        t.frame id = some { f with ended := true } ∧ (∀ k, k ≠ id → t.frame k = s.frame k) ∧
        t = { s with frames := t.frames }) ∧
      (s.isPause f.port f.bytes = false → ∃ t, exec (.frameEndRx id) s = .next t ∧
        CountedOnce (C.prtRxFrames f.port) s t ∧
        KeepsCounters [C.prtRxFrames f.port, C.learnSkipped] s t ∧
        (f.stage ≠ Stage.dropped → t.regs = s.regs ∧ t.reps = s.reps ∧
          ∃ g, t.frame id = some g ∧ g.ended = true ∧ g.bytes = f.bytes ∧ g.stage = f.stage)))

/-- The scan of a steered frame ends, with no other frame of its source in the engine and no reference to the frame
yet. If some visible pattern matches its region (of a scan that a promotion found under way: of the rows it began
with), the lowest slot gives DPI_HIT = 1 and DPI_TAG and PIP_DPI_HITS counts; else DPI_HIT = 0. With RECIRC = 2, or 1
and a hit, the frame goes to the recirculation port with that verdict and PIP_DPI_RECIRC counts; otherwise, and so a
hit with RECIRC = 0, it is released on its first-pass action, and its key shows no hit. Registers and other frames
stay at a recirculation. An action of valid encoding applied to a frame in the device. HOST, and DROP with COPY_HOST,
route it to receive ring RING with reason 0 and make no copy. FORWARD without REDIR sends it to lookup. FORWARD with
REDIR routes it to PORT where that is a port. FORWARD with COPY_HOST keeps a copy for ring RING. A discard (DROP, or
REDIR to a position that is no port) adds one to the discard counter of the frame's source, and a frame so discarded
that nothing refers to leaves the device, or stays marked as dropped until it has ended; with a copy owed it stays for
the copy. Class and action are recorded with the frame. No register and no other frame changes where the frame stays.
-/
def Obligations.InspectionAndItsAction : Prop :=
  (∀ (s : State) (id : Nat) (f : Frame) (p : Parse) (a : Action), StoresCanonical s → FramesInRange s →
    s.frame id = some f → f.parse = some p → f.act = some a → f.stage = Stage.dpi → f.scanned = false → s.refs id = 0 →
    (∀ kv ∈ s.frames, kv.2.stage = Stage.dpi ∨ kv.2.stage = Stage.recirc → kv.2.port = f.port →
      kv.2.fromHost = f.fromHost → kv.1 = id) →
    let cand := f.scanOld.getD (s.patternMatches f p)
    (f.scanOld = none → (∀ y, y ∈ cand ↔
      y ∈ s.visibleRows (0x18 + f.slice) f.sel ∧ y.2.patMatches (scanRegion p f.bytes) = true) ∧
      (skeysFrom none s.rows = true → ∀ x rest, cand = x :: rest → ∀ y ∈ rest, x.1 < y.1)) ∧
    (∀ x rest, cand = x :: rest → ∃ t, exec (.dpiVerdict id []) s = .next t ∧ CountedOnce (C.dpiHits f.slice) s t ∧
        (a.recirc = 1 ∨ a.recirc = 2 →
          t.frame id = some { f with scanned := true, dpiHit := true,
                                     dpiTag := (x.2.words.getD 0 0).toNat % 65536, stage := .recirc } ∧
          CountedOnce (C.dpiRecirc f.slice) s t ∧ (∀ k, k ≠ id → t.frame k = s.frame k) ∧
          Writes [] [C.dpiHits f.slice, C.dpiRecirc f.slice] { s with frames := t.frames } t) ∧
        (a.recirc ≠ 1 → a.recirc ≠ 2 → t = State.applyAction
          ((s.count (C.dpiHits f.slice)).putFrame id
            { f with scanned := true, dpiHit := true, dpiTag := (x.2.words.getD 0 0).toNat % 65536 }) id
          { f with scanned := true, dpiHit := false, dpiTag := 0 } a)) ∧
    (cand = [] → ∀ bad,
      (a.recirc = 2 → ∃ t, exec (.dpiVerdict id bad) s = .next t ∧
        t.frame id = some { f with scanned := true, dpiHit := false, dpiTag := 0, stage := .recirc } ∧
        CountedOnce (C.dpiRecirc f.slice) s t ∧ (∀ k, k ≠ id → t.frame k = s.frame k) ∧
        Writes [] [C.dpiRecirc f.slice] { s with frames := t.frames } t) ∧
      (a.recirc ≠ 2 → exec (.dpiVerdict id bad) s = .next (State.applyAction
        (s.putFrame id { f with scanned := true, dpiHit := false, dpiTag := 0 }) id
        { f with scanned := true, dpiHit := false, dpiTag := 0 } a)))) ∧
  (∀ (s : State) (id : Nat) (f : Frame) (a : Action), a.valid = true → s.refs id = 0 →
    let ring := if a.disp = 0 ∧ a.copyHost = true then some a.ring else none
    let drops := if f.fromHost then C.txDrops f.port else C.pipDrops f.port
    let t := s.applyAction id f a
    (∀ r st, (a.disp = 2 ∧ r = Route.ring a.ring 0 ∧ st = Stage.routed ∨
              a.disp = 1 ∧ a.copyHost = true ∧ r = Route.ring a.ring 0 ∧ st = Stage.routed ∨
              a.disp = 0 ∧ a.redir = true ∧ s.isPort a.port = true ∧ r = Route.port a.port ∧ st = Stage.routed) →
      t.frame id = some { f with act := some a, cls := a.cls, copyRing := ring, route := some r, stage := st,
                                 lkSeq := s.nextLk } ∧
      t = { s with frames := t.frames, nextLk := s.nextLk + 1 } ∧ ∀ k, k ≠ id → t.frame k = s.frame k) ∧
    (a.disp = 0 → a.redir = false →
      t.frame id = some { f with act := some a, cls := a.cls, copyRing := ring, stage := .lookup, lkSeq := s.nextLk } ∧
      t = { s with frames := t.frames, nextLk := s.nextLk + 1 } ∧ ∀ k, k ≠ id → t.frame k = s.frame k) ∧
    ((a.disp = 1 ∧ a.copyHost = false ∨ a.disp = 0 ∧ a.redir = true ∧ s.isPort a.port = false) →
      CountedOnce drops s t ∧
      (ring.isSome = true → ∃ g, t.frame id = some g ∧ g.stage = Stage.routed ∧ g.copyRing = ring) ∧
      (ring = none → f.fromHost = false → StoresCanonical s →
        (f.ended = true → t.frame id = none) ∧
        (f.ended = false → ∃ g, t.frame id = some g ∧ g.stage = Stage.dropped ∧ g.charge = 0 ∧ g.cells = []))))

/-- With the rows of a slice in their one form and no row failing its check, the search for a key under a selector
answers a position whose visible row satisfies (key AND MASK) = VALUE, no visible row of a lower position does, and
PIP_TCAM_HITS of every position that matches counts once and nothing else changes; it answers nothing, and changes
nothing, exactly when no visible row matches. FRAME_PARSE gives an admitted frame its parse result from its bytes and
its port's settings under its own epoch selector; a DEEP or LENGTH verdict is counted, and nothing else changes; while
its pipeline's block is being reset the frame waits. CLASSIFY of a parsed frame that no earlier frame of its source
stands before: with a verdict other than OK the port's default action applies without a search; with OK and no visible
row that matches, the default action applies and PIP_DEFAULT counts; with a match that passes its row check, every
match from the lowest on is counted and the lowest one's action applies, or steers the frame to the inspection engine,
for which it waits while that block is being reset. RECIRC_PASS searches with the second-pass key: a match's action
applies, STEER ignored, and without one the action that steered the frame; the frames that waited behind it in the
engine then move on. What an action does is stated by InspectionAndItsAction. Which frames one waits behind, and a
block in reset, are the model's choices (logs 62, 63). -/
def Obligations.FramesParsedAndClassified : Prop :=
  (∀ (s : State) (sl e key : Nat), skeysFrom none s.rows = true →
    (∀ i r, (s.tcamSearch sl e key []).2 = some (i, r) →
      (i, r) ∈ s.visibleRows (0x10 + sl) e ∧ key &&& r.mask = r.value ∧
      (∀ j q, (j, q) ∈ s.visibleRows (0x10 + sl) e → key &&& q.mask = q.value → i ≤ j) ∧
      (let t := (s.tcamSearch sl e key []).1
       (∀ j q, (j, q) ∈ s.visibleRows (0x10 + sl) e → key &&& q.mask = q.value → CountedOnce (C.tcamHits sl j) s t) ∧
       t = { s with cnt := t.cnt } ∧
       ∀ c, (∀ j q, (j, q) ∈ s.visibleRows (0x10 + sl) e → key &&& q.mask = q.value → c ≠ C.tcamHits sl j) →
        t.counter c = s.counter c)) ∧
    ((s.tcamSearch sl e key []).2 = none ↔
      ∀ j q, (j, q) ∈ s.visibleRows (0x10 + sl) e → key &&& q.mask ≠ q.value) ∧
    ((s.tcamSearch sl e key []).2 = none → (s.tcamSearch sl e key []).1 = s)) ∧
  (let counted (s : State) (f : Frame) (key i : Nat) : State :=
    ((s.tcamMatches f.slice f.sel key).filter fun m => decide (i ≤ m.1)).foldl
      (fun (t : State) m => t.count (C.tcamHits f.slice m.1)) s
  (∀ (s : State) (id : Nat) (f : Frame), s.frame id = some f → f.stage = Stage.admitted → f.fromHost = false →
      s.isPause f.port f.bytes = false →
      (s.rstSet 4 f.slice (groupOf f.port % 8) = true → exec (.frameParse id) s = .next s) ∧
      (s.rstSet 4 f.slice (groupOf f.port % 8) = false → ∃ t, exec (.frameParse id) s = .next t ∧
        t.frame id = some { f with parse := some (parseFrame (s.parseCfg f) f.bytes), stage := .parsed } ∧
        (∀ k, k ≠ id → t.frame k = s.frame k) ∧ t = { s with frames := t.frames, cnt := t.cnt } ∧
        (match (parseFrame (s.parseCfg f) f.bytes).verdict with
         | .deep => CountedOnce (C.parseDeep f.port) s t ∧ KeepsCounters [C.parseDeep f.port] s t
         | .length => CountedOnce (C.parseLength f.port) s t ∧ KeepsCounters [C.parseLength f.port] s t
         | .ok => t.cnt = s.cnt))) ∧
  (∀ (s : State) (id : Nat) (f : Frame) (p : Parse), s.frame id = some f → f.parse = some p →
      f.stage = Stage.parsed → f.fromHost = false → s.ptpConsumes f = false → s.rstSet 4 f.slice 8 = false →
      s.behind id f (fun t => t == Stage.admitted || t == Stage.parsed) = false →
      (p.verdict ≠ Verdict.ok → ∀ bad,
        exec (.classify id bad) s = .next (s.applyAction id f (s.defAction f.sel f.port))) ∧
      (p.verdict = Verdict.ok →
        (∀ x ∈ s.visibleRows (0x10 + f.slice) f.sel,
          makeKey (s.keyCtx f) p &&& x.2.mask ≠ x.2.value) → ∀ bad,
        exec (.classify id bad) s =
          .next ((s.count (C.pipDefault f.port)).applyAction id f (s.defAction f.sel f.port))) ∧
      (∀ x pre post, p.verdict = Verdict.ok → s.visibleRows (0x10 + f.slice) f.sel = pre ++ x :: post →
        (∀ y ∈ pre, makeKey (s.keyCtx f) p &&& y.2.mask ≠ y.2.value) →
        makeKey (s.keyCtx f) p &&& x.2.mask = x.2.value → ∀ bad, x.1 ∉ bad →
        let hit := counted s f (makeKey (s.keyCtx f) p) x.1
        exec (.classify id bad) s =
          .next (if x.2.action.steer = false then hit.applyAction id f x.2.action
                 else if s.rstSet 4 f.slice 9 = true then s else hit.dpiAdmit id f x.2.action))) ∧
  (∀ (s : State) (id : Nat) (f : Frame) (p : Parse) (a : Action), s.frame id = some f → f.parse = some p →
      f.act = some a → f.stage = Stage.recirc → s.rstSet 4 f.slice 8 = false →
      s.behind id f (fun t => t == Stage.recirc) = false →
      let g := { f with pass2 := true }
      let next (u : State) : State := u.dpiRelease g (u.frames.length + 1)
      ((∀ x ∈ s.visibleRows (0x10 + f.slice) f.sel, makeKey (s.keyCtx g) p &&& x.2.mask ≠ x.2.value) →
        ∀ bad, exec (.recircPass id bad) s = .next (next (s.applyAction id g a))) ∧
      (∀ x pre post, s.visibleRows (0x10 + f.slice) f.sel = pre ++ x :: post →
        (∀ y ∈ pre, makeKey (s.keyCtx g) p &&& y.2.mask ≠ y.2.value) →
        makeKey (s.keyCtx g) p &&& x.2.mask = x.2.value → ∀ bad, x.1 ∉ bad →
        exec (.recircPass id bad) s =
          .next (next ((counted s g (makeKey (s.keyCtx g) p) x.1).applyAction id g x.2.action)))))

/-- The eight commands PIP_TBL_WRITE, PIP_TBL_CLEAR, FWD_TBL_WRITE, FWD_TBL_CLEAR, MCAST_TBL_WRITE, MCAST_TBL_CLEAR,
GATE_TBL_WRITE and GATE_TBL_CLEAR, each with its operation waiting in its table's command registers, a steward at
work: the owner session gone or of a role that may not write ends it with REFUSED and the session status; a bad record
ends it with the code of R227; a table that another transaction holds ends it with REFUSED and LOCKED; in an open
transaction with 4 units free it is staged at the end, costs 4 units and ends with SUCCESS; in a full one REFUSED and
TXN_FULL; with none open and the validation of R108 passed it waits as a commit of its own, GO still 1. In every case
that ends, GO is 0 and CODE and SESSION hold the result, and no other register changes. PIP_TBL_READ, MCAST_TBL_READ
and GATE_TBL_READ with their operation waiting: a TABLE of other registers ends with BAD_TABLE, an INDEX beyond the
table with BAD_INDEX, a position with no row visible to the current selector with NOT_PRESENT, and otherwise the row's
words stand in the data registers (zero after the last) and CODE is SUCCESS. FWD_TBL_READ looks the key of DATA 0 to 4
up in a copy in service; FWD_TBL_READ_NEXT ends with BAD_INDEX from bucket 2^27 on, with BUSY while the tables are
rebuilt, and otherwise with the first visible entry within 65,536 buckets or with NOT_PRESENT and the bucket to go on
from; FWD_TBL_FLUSH adds a port, or with bit 31 every port, to the flush set unless another flush waits. GO returns to
0 in every case, and nothing changes but the registers named and, for the two reads, what the bucket errors met change
(R267). -/
def Obligations.TableCommandsDone : Prop :=
  (∀ (s : State) (c : Instr) (T op : Nat), tableCommand c = some (T, op) → StoresCanonical s → s.cmdWaiting T op = true →
    s.stewardHeld = false → ∃ t, exec c s = .next t ∧
    let h := sgetD s.tblOwner T 0
    let ends (code sess : Nat) : Prop := t.cmdGo T = false ∧
      t.fld (statusReg T) F.PIP_TBL_STATUS_CODE = code ∧ t.fld (statusReg T) F.PIP_TBL_STATUS_SESSION = sess ∧
      KeepsRegs [cmdReg T, statusReg T] s t
    let plain : Prop := t = { s with regs := t.regs, tblOwner := t.tblOwner } ∧
      ∀ k, k ≠ T → sfind t.tblOwner k = sfind s.tblOwner k
    (s.session h = none → ends 6 5 ∧ plain) ∧
    ∀ x, s.session h = some x →
      (x.role ≠ 2 → x.role ≠ 3 → ends 6 9 ∧ plain) ∧
      (x.role = 2 ∨ x.role = 3 →
        (s.cmdFault T ≠ 0 → ends (s.cmdFault T) 0 ∧ plain) ∧
        (s.cmdFault T = 0 →
          (s.tblLocked h (s.cmdTable T) = true → ends 6 17 ∧ plain) ∧
          (s.tblLocked h (s.cmdTable T) = false →
            (∀ y, x.txn = some y →
              (4096 < y.units + 4 → ends 6 16 ∧ plain) ∧
              (y.units + 4 ≤ 4096 → ends 0 0 ∧ t.txnOf h = some ⟨y.regs, y.ops ++ [s.cmdRecord T], y.units + 4⟩ ∧
                t.jobs = s.jobs)) ∧
            (x.txn = none → ((s.cmdTake T).validate [] [s.cmdRecord T]).1 = 0 →
              t.cmdGo T = true ∧ t = { s with
                tblOwner := serase s.tblOwner T, jobs := s.jobs ++ [newJob h (.cmd T) false [] [s.cmdRecord T]] }))))) ∧
  ((∀ (s : State) (c : Instr) (T n : Nat),
      ((∃ sl, sl < 8 ∧ c = .pipTblRead sl ∧ T = sl ∧ n = 34) ∨ c = .mcastTblRead ∧ T = 9 ∧ n = 32 ∨
        c = .gateTblRead ∧ T = 10 ∧ n = 4) →
      StoresCanonical s → s.cmdWaiting T 3 = true → ∃ t, exec c s = .next t ∧ t.cmdGo T = false ∧
      t = { s with regs := t.regs, tblOwner := serase s.tblOwner T } ∧
      t.fld (statusReg T) F.PIP_TBL_STATUS_SESSION = 0 ∧
      let code := t.fld (statusReg T) F.PIP_TBL_STATUS_CODE
      (s.cmdTable T ∉ cmdTables T → code = 2 ∧ KeepsRegs [cmdReg T, statusReg T] s t) ∧
      (s.cmdTable T ∈ cmdTables T →
        (indexLimit (s.cmdTable T) ≤ s.cmdIndex T → code = 3 ∧ KeepsRegs [cmdReg T, statusReg T] s t) ∧
        (s.cmdIndex T < indexLimit (s.cmdTable T) →
          (s.rowFor (s.cmdTable T) (s.cmdIndex T) s.curSel = none → code = 5 ∧ KeepsRegs [cmdReg T, statusReg T] s t) ∧
          ∀ r, s.rowFor (s.cmdTable T) (s.cmdIndex T) s.curSel = some r → code = 0 ∧
            (∀ i, i < n → t.get (dataReg T i) = r.words.getD i 0) ∧
            (T < 8 → t.fld (statusReg T) F.PIP_TBL_STATUS_VIS_BOTH = (if r.vis0 && r.vis1 then 1 else 0)) ∧
            KeepsRegs ([cmdReg T, statusReg T] ++ (List.range n).map (dataReg T)) s t))) ∧
  (∀ (v : State) (ecc : List (Nat × BucketEcc)), StoresCanonical v → v.cmdTable 8 = 0x20 →
    let s := v.readEcc ecc
    let key := recKey ((List.range 5).map fun i => v.get (.FWD_TBL_DATA i))
    let from' := (v.get (.FWD_TBL_DATA 0)).toNat
    let done (t : State) (code : Nat) : Prop := t.cmdGo 8 = false ∧
      t.fld .FWD_TBL_STATUS F.PIP_TBL_STATUS_CODE = code ∧
      KeepsRegs ([.FWD_TBL_CMD, .FWD_TBL_STATUS] ++ (List.range 9).map .FWD_TBL_DATA) s t
    (v.cmdWaiting 8 3 = true → ∃ t, exec (.fwdTblRead ecc) v = .next t ∧
      t = { s with regs := t.regs, tblOwner := serase s.tblOwner 8 } ∧
      (v.t2Up = false → s = v ∧ done t 10) ∧
      (v.t2Up = true →
        (findVer (s.copy s.mainCopy) s.seeds key (fun e => visTo e.vis s.curSel) = none → done t 5) ∧
        ∀ b e, findVer (s.copy s.mainCopy) s.seeds key (fun e => visTo e.vis s.curSel) = some (b, e) →
          done t 0 ∧ ∀ i, i < 9 → t.get (.FWD_TBL_DATA i) = (s.fwdWords b e).getD i 0)) ∧
    (v.cmdWaiting 8 4 = true → ∃ t, exec (.fwdTblReadNext ecc) v = .next t ∧
      t = { s with regs := t.regs, tblOwner := serase s.tblOwner 8 } ∧
      (2 ^ 27 ≤ from' → done t 3) ∧
      (from' < 2 ^ 27 → v.rebuilding = true → done t 9) ∧
      (from' < 2 ^ 27 → v.rebuilding = false → v.t2Up = true →
        (s.copy s.mainCopy).find? (fun kv => decide (from' ≤ kv.1) && decide (kv.1 < from' + 65536) &&
          visTo kv.2.vis s.curSel) = none →
        done t 5 ∧ (t.get (.FWD_TBL_DATA 8)).toNat = min (from' + 65536) (2 ^ 27)) ∧
      (from' < 2 ^ 27 → v.rebuilding = false → v.t2Up = true → ∀ b e,
        (s.copy s.mainCopy).find? (fun kv => decide (from' ≤ kv.1) && decide (kv.1 < from' + 65536) &&
          visTo kv.2.vis s.curSel) = some (b, e) →
        done t 0 ∧ ∀ i, i < 9 → t.get (.FWD_TBL_DATA i) = (s.fwdWords b e).getD i 0))) ∧
  (∀ s : State, StoresCanonical s → s.cmdTable 8 = 0x20 → s.cmdWaiting 8 5 = true → s.t2Up = true →
    let from' := (s.get (.FWD_TBL_DATA 0)).toNat
    let done (t : State) (code : Nat) : Prop := t.cmdGo 8 = false ∧ t.fld .FWD_TBL_STATUS F.PIP_TBL_STATUS_CODE = code ∧
      KeepsRegs [.FWD_TBL_CMD, .FWD_TBL_STATUS] s t
    ∃ t, exec .fwdTblFlush s = .next t ∧
      (s.fwd.flushCmd.isSome = true → done t 9 ∧ t.fwd = s.fwd) ∧
      (s.fwd.flushCmd = none → done t 0 ∧
        t.fwd.flushCmd = some (if from'.testBit 31 then everyPort else from' % 1024) ∧ t.cnt = s.cnt ∧
        t.st0 = s.st0 ∧ t.st1 = s.st1)))

/-- A frame at lookup waits while its block is being reset or 2,048 of its slice's lookups wait for tier 2. Otherwise,
first, a frame that has ended good asks to be learned from and another one keeps its source key for its end; then:
with KTYPE NONE it is a miss; with a key that is not valid it is counted in FWD_KEY_INVALID and is a miss; a tier-1
way visible to its selector hits, sets HIT and REC and is counted, unless the bucket's GONE is 1, when it is a miss;
otherwise with no copy in service it is a miss counted in FWD_T2_UNAVAILABLE, and with one the tier-2 reads are issued
with the set's SETGEN noted. At the end of the tier-2 reads with no copy in service left the frame is a miss counted
in FWD_T2_UNAVAILABLE. Clean tier-2 reads of a serving copy: no visible version is a miss; a version with GONE = 1 is
a miss; any other sets HIT at its bucket (at the alternate one where the bucket is MOVED), is counted, may be
promoted, and its result applies. An uncorrectable error with the other copy out of service is a miss, FWD_T2_LOST
counts and the bucket is empty afterwards. What a miss and a hit do is stated by HitsMissesPromotion. -/
def Obligations.LookupTiers : Prop :=
  (∀ (s : State) (id : Nat) (f : Frame) (p : Parse) (shorter : Option Nat), s.frame id = some f →
      f.parse = some p → f.stage = Stage.lookup →
      (s.rstSet 5 8 2 = true ∨ 2048 ≤ s.t2Waiting f.slice → exec (.lookup id shorter) s = .next s) ∧
      (s.rstSet 5 8 2 = false → s.t2Waiting f.slice < 2048 →
        let kt := s.lkpA f.sel f.profile F.FWD_LKP_A_KTYPE
        let u := (s.putFrame id { f with learnKey := s.sourceKey f p }).tryLearn id
        let g := (u.frame id).getD f
        (∀ k, s.sourceKey f p = some k → f.ended = true → f.bad = false →
          u = (s.putFrame id { f with learnKey := none }).queueLearn k f.port ∧ g = { f with learnKey := none }) ∧
        (s.sourceKey f p = none ∨ f.ended = false ∨ f.bad = true →
          u = s.putFrame id { f with learnKey := s.sourceKey f p } ∧ g = { f with learnKey := s.sourceKey f p }) ∧
        (kt = 0 → exec (.lookup id shorter) s = .next (u.miss id g)) ∧
        (kt ≠ 0 → keyAddr kt p = none →
          exec (.lookup id shorter) s = .next ((u.count (C.keyInvalid g.slice)).miss id g)) ∧
        ∀ a, kt ≠ 0 → keyAddr kt p = some a →
          let key := fwdKey kt (u.domain g p f.profile) a
          (∀ x, t1Find (u.t1Set key) key g.sel = some x →
            ((u.hitBits x.bucket).testBit 1 = true → exec (.lookup id shorter) s = .next (u.miss id g)) ∧
            ((u.hitBits x.bucket).testBit 1 = false →
              exec (.lookup id shorter) s = .next ((((u.setHit x.bucket (setBit (u.hitBits x.bucket) 0)).count
                (C.t1Hits g.slice)).putT1 key (t1Touch (u.t1Set key) key)).applyHit id g x.resA x.resB))) ∧
          (t1Find (u.t1Set key) key g.sel = none →
            (u.t2Up = false → exec (.lookup id shorter) s = .next ((u.count C.t2Unavailable).miss id g)) ∧
            (u.t2Up = true → ∃ c, u.copyUp c = true ∧ c ≤ 1 ∧
              exec (.lookup id shorter) s = .next ((u.count (C.t2Lookups g.slice)).putFrame id
                { g with stage := .tier2 c (u.t1Set key).gen key }))))) ∧
  (∀ (s : State) (id : Nat) (f : Frame) (c0 gen key : Nat), s.frame id = some f → f.stage = Stage.tier2 c0 gen key →
      c0 ≤ 1 →
      (s.t2Up = false → ∀ e1 e2, exec (.tier2ReadDone id e1 e2) s = .next ((s.count C.t2Unavailable).miss id f)) ∧
      (s.t2Up = true →
        let c := if s.copyUp c0 = true then c0 else s.mainCopy
        let sd := s.seedsOf c
        let seen := findVer (s.copy c) sd key fun e => visTo e.vis f.sel
        s.copyUp c = true ∧
        (seen = none → exec (.tier2ReadDone id .clean .clean) s = .next (s.miss id f)) ∧
        (∀ b e, seen = some (b, e) →
          let at' := if e.moved then altBucket sd key b else b
          ((s.hitBits at').testBit 1 = true → exec (.tier2ReadDone id .clean .clean) s = .next (s.miss id f)) ∧
          ((s.hitBits at').testBit 1 = false → exec (.tier2ReadDone id .clean .clean) s =
            .next ((((s.setHit at' (setBit (s.hitBits at') 0)).count (C.t2Hits f.slice)).promote f key gen at' e).applyHit
              id f e.resA e.resB))) ∧
        (s.copyUp (1 - c) = true → seen = none → exec (.tier2ReadDone id .uncorrectable .clean) s =
          .next ((s.count C.t2EccRepaired).miss id f)) ∧
        (seen = none → exec (.tier2ReadDone id .corrected .clean) s = .next ((s.count C.t2EccCorrected).miss id f)) ∧
        (s.copyUp (1 - c) = false → skeysFrom none (s.copy c) = true → ∃ u,
          exec (.tier2ReadDone id .uncorrectable .clean) s = .next (u.miss id f) ∧ CountedOnce C.t2Lost s u ∧
          sfind (u.copy c) (buckets sd key).1 = none ∧ u.frames = s.frames)))

/-- The operations State.miss and State.applyHit on a frame in the device. A miss counts FWD_MISSES of the slice once;
with MISS_DISP FLOOD the frame is routed to group MISS_MGID, with HOST to ring MISS_RING with reason 2, and keeps its
class. A hit with DEST PORT routes to the port unless it is no port, or is the ingress port under NO_HAIRPIN; MCAST
routes to the group; HOST routes to the ring with reason 3; CLASS_OVR replaces the class, and VID_SET sets the outer
VID. Each of the discards (MISS_DISP DROP, a refused port, DEST DROP) counts the frame's discard counter. No register
changes where the frame is routed. State.promote, the promotion after a tier-2 hit. With PROMOTE = 0, T1_EN = 0 or a
changed SETGEN nothing changes. With them met and no way invalid or with REC = 0, FWD_PROMOTE_SKIPPED counts once and
nothing else changes. Otherwise FWD_PROMOTIONS counts once and the way of the same key, else the lowest invalid way,
else the lowest way with REC = 0 holds the entry with its VIS, its bucket and REC 3, and SETGEN stays. -/
def Obligations.HitsMissesPromotion : Prop :=
  (∀ (s : State) (id : Nat) (f : Frame), f.port < 1024 → (f.fromHost = true → f.port < 32) →
    let disp := s.lkpA f.sel f.profile F.FWD_LKP_A_MISS_DISP
    let drops := if f.fromHost then C.txDrops f.port else C.fwdDrops f.port
    CountedOnce (C.misses f.slice) s (s.miss id f) ∧
    (disp = 1 → (s.miss id f).frame id = some { f with stage := .routed, route := some (.mcast
        (s.lkpB f.sel f.profile F.FWD_LKP_B_MISS_MGID) (s.noHairpin f)) } ∧ (s.miss id f).regs = s.regs) ∧
    (disp = 2 → (s.miss id f).frame id = some { f with stage := .routed, route := some (.ring
        (s.lkpA f.sel f.profile F.FWD_LKP_A_MISS_RING) 2) } ∧ (s.miss id f).regs = s.regs) ∧
    (disp ≠ 1 → disp ≠ 2 → CountedOnce drops s (s.miss id f)) ∧
    ∀ resA resB : Word,
      let a := resA.toNat
      let arg := a / 4 % 65536
      let g := { f with cls := if a.testBit 18 then a / 2 ^ 19 % 16 else f.cls,
                        vid := if a.testBit 23 then some (resB.toNat % 4096) else none, stage := .routed }
      let t := s.applyHit id f resA resB
      let barred := s.isPort (arg % 1024) = false ∨
        (s.noHairpin f = true ∧ f.fromHost = false ∧ arg % 1024 = f.port)
      (a % 4 = 0 → ¬ barred → t.frame id = some { g with route := some (.port (arg % 1024)) } ∧
        t = { s with frames := t.frames }) ∧
      (a % 4 = 1 → t.frame id = some { g with route := some (.mcast arg (s.noHairpin f)) } ∧
        t = { s with frames := t.frames }) ∧
      (a % 4 = 2 → t.frame id = some { g with route := some (.ring (arg % 32) 3) } ∧ t = { s with frames := t.frames }) ∧
      ((a % 4 = 3 ∨ a % 4 = 0 ∧ barred) → CountedOnce drops s t)) ∧
  (∀ (s : State) (f : Frame) (key gen b : Nat) (e : FwdEntry), skeysFrom none s.fwd.t1 = true →
    let w := s.t1Set key
    let on : Prop := s.lkpA f.sel f.profile F.FWD_LKP_A_PROMOTE = 1 ∧
      s.fld .FWD_CARAWAY_CFG F.FWD_CARAWAY_CFG_T1_EN = 1 ∧ w.gen = gen
    (¬ on → s.promote f key gen b e = s) ∧
    (on → t1Room w = false → CountedOnce C.promoteSkipped s (s.promote f key gen b e) ∧
      Writes [] [C.promoteSkipped] s (s.promote f key gen b e)) ∧
    (on → t1Room w = true → ∃ i, i < w.ways.length ∧ CountedOnce C.promotions s (s.promote f key gen b e) ∧
      (s.promote f key gen b e).t1Set key =
        ⟨w.ways.set i (some ⟨e.key, e.resA, e.resB, e.vis, b, 3⟩), w.gen⟩ ∧
      (let same (j : Nat) : Prop := ∃ x : Way, w.ways[j]? = some (some x) ∧ x.key = key
       let free (j : Nat) : Prop := w.ways[j]? = some none
       let cold (j : Nat) : Prop := ∃ x : Way, w.ways[j]? = some (some x) ∧ x.recn = 0
       ((∃ j, same j) → same i ∧ ∀ j, j < i → ¬ same j) ∧
       ((∀ j, ¬ same j) → (∃ j, free j) → free i ∧ ∀ j, j < i → ¬ free j) ∧
       ((∀ j, ¬ same j) → (∀ j, ¬ free j) → cold i ∧ ∀ j, j < i → ¬ cold j))))

/-- The request at the head of the learning queue, with no chain under way and a copy in service, leaves the queue,
after what its bucket reads show of errors. Without capacity, or with the key absent and the limit of learned keys
reached, FWD_LEARN_SKIPPED counts and nothing else changes. An absent key whose first bucket is empty (no rebuild
running) is installed there as a learned entry of the ingress port, visible to both selectors, its hit memory HIT = 1
and GONE = 0, and FWD_LEARNED counts. A static key is left alone. A learned key of the same port has HIT set unless it
is being removed. At the end of a relocation move, after what its reads show of errors, with moves left, the vacated
bucket takes the next entry of the chain, whose old bucket becomes MOVED, and FWD_RELOCATIONS counts; after the last
move of a learning chain the entry lands in the vacated bucket, the chain ends and FWD_LEARNED counts. With no copy
left the chain only ends; with no chain and no commit that a steward can take on nothing changes. -/
def Obligations.Learning : Prop :=
  (∀ (v : State) (ecc : List (Nat × BucketEcc)) (key port : Nat) (rest : List (Nat × Nat)),
      v.fwd.learnQ = (key, port) :: rest → v.fwd.job = none → v.t2Up = true → v.rebuilding = false →
      let s := v.readEcc ecc
      let b := (buckets s.seeds key).1
      let popped := { s with fwd := { s.fwd with learnQ := rest } }
      (∃ t, exec (.learnCheck false ecc) v = .next t ∧ CountedOnce C.learnSkipped s t ∧ Writes [] [C.learnSkipped] popped t) ∧
      (s.versions key = [] →
        (s.fld .FWD_LEARN_CFG F.FWD_LEARN_CFG_MAX_LEARNED ≤ s.learnedHeld ∨ maxKeys ≤ s.keysHeld →
          ∃ t, exec (.learnCheck true ecc) v = .next t ∧ CountedOnce C.learnSkipped s t ∧
            Writes [] [C.learnSkipped] popped t) ∧
        (s.learnedHeld < s.fld .FWD_LEARN_CFG F.FWD_LEARN_CFG_MAX_LEARNED → s.keysHeld < maxKeys →
          sfind (s.copy s.mainCopy) b = none → ∃ t, exec (.learnCheck true ecc) v = .next t ∧ CountedOnce C.learned s t ∧
            t.fwd.learnQ = rest ∧ (∀ c, c ≤ 1 → s.copyUp c = true →
              sfind (t.copy c) b = some { learnedEntry key port with moved := false, slot := 0 }) ∧
            (skeysFrom none s.fwd.hit = true → t.hitBits b = 1) ∧ t = { s with fwd := t.fwd, cnt := t.cnt })) ∧
      (∀ k e vs, s.versions key = (k, e) :: vs →
        (e.learned = false ∨ vs.any (fun x => !x.2.learned) = true →
          exec (.learnCheck true ecc) v = .next popped) ∧
        (e.learned = true → vs.any (fun x => !x.2.learned) = false → e.resA.toNat / 4 % 65536 = port →
          (s.hitBits k).testBit 1 = false →
          exec (.learnCheck true ecc) v = .next (popped.setHit k (setBit (s.hitBits k) 0))))) ∧
  (∀ (v : State) (ecc : List (Nat × BucketEcc)) (j : TuJob), v.fwd.job = some j → v.t2Up = true → v.rebuilding = false →
      let s := v.readEcc ecc
      (∀ a rest e, j.chain = a :: rest → a ≠ j.moved → sfind (s.copy s.mainCopy) a = some e → ∃ t,
        exec (.relocationMoveEnd ecc) v = .next t ∧ t.fwd.job = some { j with moved := a, chain := rest } ∧
        CountedOnce C.relocations s t ∧ sfind (t.copy s.mainCopy) a = some { e with moved := true } ∧
        (∃ x, sfind (t.copy s.mainCopy) j.moved = some x ∧ x.key = e.key ∧ x.resA = e.resA ∧ x.resB = e.resB ∧
          x.vis = e.vis ∧ x.moved = false) ∧ t.regs = s.regs) ∧
      (j.chain = [] → j.commit = false → s.jobs = [] → ∃ t, exec (.relocationMoveEnd ecc) v = .next t ∧ t.fwd.job = none ∧
        CountedOnce C.learned s t ∧ (∃ x, sfind (t.copy s.mainCopy) j.moved = some x ∧ x.key = j.entry.key ∧
          x.resA = j.entry.resA ∧ x.resB = j.entry.resB ∧ x.moved = false) ∧ t.regs = s.regs)) ∧
  (∀ (s : State) (ecc : List (Nat × BucketEcc)) (j : TuJob), s.fwd.job = some j → s.t2Up = false → s.jobs = [] →
      exec (.relocationMoveEnd ecc) s = .next { s with fwd := { s.fwd with job := none } }) ∧
  (∀ (s : State) (ecc : List (Nat × BucketEcc)), s.fwd.job = none → s.jobs = [] ∨ s.stewardHeld = true →
      exec (.relocationMoveEnd ecc) s = .next s)

/-- AGING_PASS_START at a running device with PERIOD not 0 and a copy in service begins an aging pass over the flush
set as it stands, or is noted to be due while another pass runs or aging is held. CARAWAY_VISIT, after what its bucket
reads show of errors, goes on to the next occupied bucket: a learned entry of a port served is removed; in an aging
pass an entry with AGE_EN and VIS 0b11 loses HIT if it has it, and is otherwise removed; any other entry is passed
over. A removal counts FWD_AGED, sets GONE, and leaves no entry in the bucket. CARAWAY_PASS_END with no bucket left
ends the pass: the ports served leave the flush set, one flushed again meanwhile apart, a FLUSH that it served is
pending no longer, and the aging pass noted (with PERIOD not 0), else a flush pass for ports added meanwhile, begins.
GONE_CLEAR returns GONE to 0. T1_DECAY_TICK lowers each REC above 0 by one, with a copy in service. Registers never
change. When a pass starts, and what is noted while one runs, are the model's choices (logs 68, 69). A stack that is
not yet out of service goes down: its condition HBM_STACK_DOWN is raised, SWC_SPILL_STATUS no longer shows it and
shows the others as before, a copy that lay on it leaves lookup service and is empty, a copy that did not keeps its
service state (and serves alone where a rebuild has lost the copy that served, the model's choice of log 140), a copy
that so takes over finds tier 1 empty; and every replica spilled there has lost its cells; other replicas stay as they
were, the yields of that instant noted. -/
def Obligations.CarawayAndStacks : Prop :=
  ((∀ s : State, s.fld .FWD_CARAWAY_CFG F.FWD_CARAWAY_CFG_PERIOD ≠ 0 → s.t2Up = true → s.running = true →
      (s.fwd.pass = none → s.rebuilding = false → exec .agingPassStart s = .next { s with fwd := { s.fwd with
        pass := some true, pos := 0, serving := s.fwd.flushSet, cmdServed := s.fwd.flushCmd.isSome, agingDue := false } }) ∧
      (s.fwd.pass.isSome = true ∨ s.rebuilding = true →
        exec .agingPassStart s = .next { s with fwd := { s.fwd with agingDue := true } })) ∧
  (∀ (v : State) (ecc : List (Nat × BucketEcc)) (aging : Bool) (b : Nat) (e : FwdEntry), v.fwd.pass = some aging →
      v.fwd.job = none → v.t2Up = true →
      let s := v.readEcc ecc
      (s.copy s.mainCopy).find? (fun kv => decide (s.fwd.pos ≤ kv.1) && !kv.2.moved) = some (b, e) →
      skeysFrom none (s.copy s.mainCopy) = true → skeysFrom none s.fwd.hit = true →
      let served := e.learned = true ∧ (e.resA.toNat / 4 % 1024 ∈ s.fwd.serving ∨ everyPort ∈ s.fwd.serving)
      let ages := aging = true ∧ s.rebuilding = false ∧ e.ageEn = true ∧ e.vis = 3
      let hit := (s.hitBits b).testBit 0 = true
      ∃ t, exec (.carawayVisit ecc) v = .next t ∧ t.fwd.pos = b + 1 ∧ t = { s with fwd := t.fwd, cnt := t.cnt } ∧
        (served ∨ (ages ∧ ¬ hit) → CountedOnce C.aged s t ∧ (t.hitBits b).testBit 1 = true ∧ b ∈ t.fwd.gone ∧
          (b = (buckets s.seeds e.key).1 ∨ b = (buckets s.seeds e.key).2 → sfind (t.copy s.mainCopy) b = none)) ∧
        (¬ served → ages → hit → (t.hitBits b).testBit 0 = false ∧ t.cnt = s.cnt ∧
          t.fwd.copy0 = s.fwd.copy0 ∧ t.fwd.copy1 = s.fwd.copy1) ∧
        (¬ served → ¬ ages → t = { s with fwd := { s.fwd with pos := b + 1 } })) ∧
  (∀ (s : State) (aging : Bool), s.fwd.pass = some aging →
      ((s.copy s.mainCopy).any fun kv => decide (s.fwd.pos ≤ kv.1) && !kv.2.moved) = false →
      let served := s.fwd.serving.filter fun p => !s.fwd.again.contains p
      ∃ t, exec .carawayPassEnd s = .next t ∧ t.fwd.again = [] ∧ t = { s with fwd := t.fwd } ∧
        t.fwd.flushSet = s.fwd.flushSet.filter (fun p => !served.contains p) ∧
        t.fwd.pass = (if s.fwd.agingDue = true ∧ s.fld .FWD_CARAWAY_CFG F.FWD_CARAWAY_CFG_PERIOD ≠ 0 ∧ s.agingHeld = false
            then some true
          else if t.fwd.flushSet ≠ [] ∧ s.t2Up = true then some false else none) ∧
        t.fwd.flushCmd = (if s.fwd.cmdServed = true then none else s.fwd.flushCmd)) ∧
  (∀ (s : State) (b : Nat), skeysFrom none s.fwd.hit = true → b ∈ s.fwd.gone → ∃ t, exec (.goneClear b) s = .next t ∧
      (t.hitBits b).testBit 1 = false ∧ (∀ k, k ≠ b → t.hitBits k = s.hitBits k) ∧ b ∉ t.fwd.gone ∧
      t = { s with fwd := t.fwd }) ∧
  (∀ s : State, s.t2Up = false → exec .t1DecayTick s = .next s) ∧
  (∀ s : State, s.t2Up = true → ∃ t, exec .t1DecayTick s = .next t ∧ t = { s with fwd := { s.fwd with t1 := t.fwd.t1 } } ∧
      ∀ k w, sfind s.fwd.t1 k = some w → sfind t.fwd.t1 k =
        some { w with ways := w.ways.map (Option.map fun x : Way => { x with recn := x.recn - 1 }) })) ∧
  (∀ (s : State) (h : Nat), StoresCanonical s → h < 4 → s.raised Ev.hbmStackDown h = false →
    let on (o : Option (Nat × Nat)) : Bool := match o with | some (a, b) => a == h || b == h | none => false
    let empty (t : State) : Prop := ∀ kv ∈ t.fwd.t1, kv.2.ways = [none, none, none, none]
    ∃ t, exec (.hbmStackDown h) s = .next t ∧ t.raised Ev.hbmStackDown h = true ∧
      (∀ k, t.spillStacks.testBit k = (s.spillStacks.testBit k && decide (k ≠ h))) ∧
      (on s.fwd.stacks0 = true → t.copyUp 0 = false ∧ t.fwd.copy0 = [] ∧ t.fwd.stacks0 = none) ∧
      (on s.fwd.stacks1 = true → t.copyUp 1 = false ∧ t.fwd.copy1 = [] ∧ t.fwd.stacks1 = none) ∧
      (s.hashState = 1 → on s.fwd.stacks0 = true → on s.fwd.stacks1 = false → t.copyUp 1 = true ∧ empty t) ∧
      (s.hashState = 2 → on s.fwd.stacks1 = true → on s.fwd.stacks0 = false → t.copyUp 0 = true ∧ empty t) ∧
      (on s.fwd.stacks0 = false → s.hashState ≠ 2 ∨ on s.fwd.stacks1 = false → t.copyUp 0 = s.copyUp 0 ∧ t.fwd.copy0 = s.fwd.copy0) ∧
      (on s.fwd.stacks1 = false → s.hashState ≠ 1 ∨ on s.fwd.stacks0 = false → t.copyUp 1 = s.copyUp 1 ∧ t.fwd.copy1 = s.fwd.copy1) ∧
      (∀ k r, s.rep k = some r → ∃ b, t.rep k =
        some { (if r.spill = SpillSt.inSpill h then { r with spill := .lost h } else r) with yielded := b }) ∧
      t.frames = s.frames)

/-- A GO written with both copies in service and no rebuild under way starts one: copy 1 is emptied and leaves
service, the new seeds are those of the seed registers, GO is 1 and STATE says step 1; with a copy out of service
STATE says refused. The rest with no chain under way, after what the step's reads show of errors. Step 1 with every
version placed under the new seeds: copy 1 takes them, each move counted, and enters service, copy 0 leaves it, tier 1
holds no copy, every entry's hit memory is HIT = 1 and GONE = 0, a pass of Caraway starts over (log 140), and step 3
begins. Step 1 with an insert that finds no place: the moves made before it are counted, copy 1 is emptied to be
restored, NEEDED is set, no seed changes. The restoration done: copy 1 is copy 0 again and serves, STATE is FAILED, GO
is 0. Step 3 done: copy 0 is copy 1 bucket for bucket and serves, the seed registers and the running image hold the
new seeds, NEEDED is 0, STATE is DONE and GO is 0. How a failed rebuild is restored is the model's choice (log 70). -/
def Obligations.RebuildSteps : Prop :=
  (∀ (s : State) (h : Nat) (v : Word), StoresCanonical s → ExpertWindow s h → Passes s h .FWD_REHASH_CTL v →
      F.FWD_REHASH_CTL_GO.get v = 1 → ∃ t, exec (.rehashGo .window v) s = .next t ∧
      Writes [.FWD_HASH_STATUS, .FWD_REHASH_CTL] [] { s with fwd := t.fwd } t ∧
      (s.fld .FWD_REHASH_CTL F.FWD_REHASH_CTL_GO = 0 →
        (s.copyUp 0 = true → s.copyUp 1 = true → t.hashState = 1 ∧ t.fld .FWD_REHASH_CTL F.FWD_REHASH_CTL_GO = 1 ∧
          t.copyUp 1 = false ∧ t.copyUp 0 = true ∧ t.fwd.copy1 = [] ∧ t.fwd.copy0 = s.fwd.copy0 ∧
          t.fwd.newSeeds = ((s.get .FWD_REHASH_SEED1).toNat, (s.get .FWD_REHASH_SEED2).toNat)) ∧
        (s.copyUp 0 = false ∨ s.copyUp 1 = false → t.hashState = 5 ∧ t.fwd = s.fwd)) ∧
      (s.fld .FWD_REHASH_CTL F.FWD_REHASH_CTL_GO = 1 → t.fwd = s.fwd ∧ t.hashState = s.hashState)) ∧
  ∀ (v : State) (ecc : List (Nat × BucketEcc)), StoresCanonical v → v.fwd.job = none →
    let s := v.readEcc ecc
    let status (t : State) (f : Fld) : Nat := t.fld .FWD_HASH_STATUS f
    let placed := insertAll s.fwd.newSeeds (versionsOf s.fwd.copy0) s.fwd.copy1
    let counted (t : State) : Prop := skeysFrom none s.cnt = true → CountedTimes C.relocations placed.2 s t
    (s.hashState = 1 → s.fwd.rebuildFailed = false → ∀ m, placed.1 = some m →
      ∃ t, exec (.rehashStepDone ecc) v = .next t ∧ t.fwd.copy1 = m ∧ t.copyUp 1 = true ∧ t.copyUp 0 = false ∧
        t.hashState = 2 ∧ t.fwd.hit = m.map (fun kv => (kv.1, 1)) ∧ t.fwd.gone = [] ∧ t.fwd.pos = 0 ∧
        (∀ kv ∈ t.fwd.t1, kv.2.ways = [none, none, none, none]) ∧ counted t ∧
        Writes [.FWD_HASH_STATUS] [C.relocations] { s with fwd := t.fwd } t) ∧
    (s.hashState = 1 → s.fwd.rebuildFailed = false → placed.1 = none →
      ∃ t, exec (.rehashStepDone ecc) v = .next t ∧ t.fwd.copy1 = [] ∧ t.fwd.rebuildFailed = true ∧
        status t F.FWD_HASH_STATUS_NEEDED = 1 ∧ t.hashState = 1 ∧ t.raised Ev.rehashNeeded 0 = true ∧ counted t ∧
        Signals [.FWD_HASH_STATUS] [C.relocations] { s with fwd := t.fwd } t) ∧
    (s.hashState = 1 → s.fwd.rebuildFailed = true → ∃ t, exec (.rehashStepDone ecc) v = .next t ∧
      t.fwd.copy1 = s.fwd.copy0 ∧ t.fwd.copy0 = s.fwd.copy0 ∧ t.copyUp 1 = true ∧ t.hashState = 4 ∧
      t.fld .FWD_REHASH_CTL F.FWD_REHASH_CTL_GO = 0 ∧ Writes [.FWD_HASH_STATUS, .FWD_REHASH_CTL] [] { s with fwd := t.fwd } t) ∧
    (s.hashState = 2 → ∃ t, exec (.rehashStepDone ecc) v = .next t ∧ t.fwd.copy0 = s.fwd.copy1 ∧ t.copyUp 0 = true ∧
      t.get .FWD_HASH_SEED1 = BitVec.ofNat 32 s.fwd.newSeeds.1 ∧ t.get .FWD_HASH_SEED2 = BitVec.ofNat 32 s.fwd.newSeeds.2 ∧
      status t F.FWD_HASH_STATUS_NEEDED = 0 ∧ t.hashState = 3 ∧ t.fld .FWD_REHASH_CTL F.FWD_REHASH_CTL_GO = 0 ∧
      Signals [.FWD_HASH_STATUS, .FWD_REHASH_CTL, .FWD_HASH_SEED1, .FWD_HASH_SEED2] []
        { s with fwd := t.fwd, boot := { s.boot with image := t.boot.image } } t ∧
      ∀ i, s.boot.image = some i → ∃ regs, t.boot.image = some { i with regs := regs } ∧
        (skeysFrom none i.regs = true → ∀ r ∈ [Reg.FWD_HASH_SEED1, Reg.FWD_HASH_SEED2],
          r.imaged = true → (sfind regs r.addr).getD 0#32 = t.get r))

/-- A wire frame routed to one egress port, with no host copy, no earlier frame of its source before its queues, and
no block that it would enter in reset. Where the port is a port no longer, one discard is counted, in PIP_DROPS or
FWD_DROPS of the ingress port by whether an action or a lookup sent it, and no replica exists. Where its queues are
flushed, PRT_Q_FLUSHED counts. A time-class frame beyond BURST counts in SWC_Q_DROPS_FULL and SWC_TIME_OVER. A frame
of a class neither time nor express that the reserve of its queue accepts, at a port that is not parked, has one
replica more, at the tail (the highest number), charged to the reserve with N cells, its first cell written. A frame
of such a class that is not lossless and that no pool accepts counts in SWC_Q_DROPS_FULL. In the four discards no
replica changes. Host copies, and the acceptance of lossless and express classes, are left out here. What a frame
costs and when it counts are the model's choices (logs 139, 137, 54). The last cell of a queued good frame that is not
of a short time class: the frame is whole, every cell of it is written, its charge is at most its own cells, and no
replica changes. A frame that SPILL_REFILL finds is its VOQ's first spilled one, whole, with fewer than 64 on-die
cells ahead of it and room in the shared pool; where the 18,750 cells of the last microsecond leave no budget nothing
changes; else its replicas in spill are on die and count in the shared pool, it is charged to that pool, all its cells
are written anew, its cells join the microsecond's, and the words read with an uncorrectable error are its bad words;
other replicas stay, the yields of that instant noted. The end of a bank's copy takes the bank off the list of banks
being copied and changes nothing else. -/
def Obligations.FramesQueuedAndHeld : Prop :=
  (∀ (s : State) (id e : Nat) (f : Frame) (budget : Bool), StoresCanonical s → FramesInRange s → s.frame id = some f →
    f.stage = Stage.routed → f.fromHost = false → f.engine = false → f.route = some (.port e) → f.copyRing = none →
    e < 1024 → s.enqueueBehind id f = false → s.enqueueShut f = false → s.refs id = 0 →
    let q := 16 * e + f.cls
    let n := s.reserveCells f
    let plain := s.timeClass f.sel f.cls = false ∧ s.expressClass f.sel f.cls = false
    let inReserve := s.queuePool q .reserve + n ≤ s.classFld f.sel f.cls F.SWC_CLASS_CFG_RESERVE ∧
      s.poolUsed .reserve < s.reservePool
    ∃ t, exec (.enqueue id budget) s = .next t ∧
      (s.isPort e = false → t.reps = s.reps ∧
        CountedOnce ((if (f.act.map Action.redir).getD false then C.pipDrops else C.fwdDrops) f.port) s t) ∧
      (s.isPort e = true → s.park e = 2 → t.reps = s.reps ∧ CountedOnce (C.flushed e) s t) ∧
      (s.isPort e = true → s.park e ≠ 2 → s.park e ≠ 1 → s.timeClass f.sel f.cls = true →
        s.fld .SWC_TIME_CFG F.SWC_TIME_CFG_BURST < s.timeHeld e + 2 →
        t.reps = s.reps ∧ CountedOnce (C.dropsFull q) s t ∧ CountedOnce (C.timeOver e) s t) ∧
      (s.isPort e = true → s.park e ≠ 2 → s.park e ≠ 1 → plain → inReserve → f.pool = none →
        (∀ k r, s.rep k = some r → k < s.nextRep) →
        t.nextRep = s.nextRep + 1 ∧ (∀ k, k ≠ s.nextRep → t.rep k = s.rep k) ∧
        (∃ r, t.rep s.nextRep = some r ∧ r.frame = id ∧ r.q = q ∧ r.g = groupOf f.port ∧ r.pool = .reserve ∧
          r.lossless = s.lossless f.sel f.port f.cls ∧ r.spill = SpillSt.onDie ∧ r.crossed = 0 ∧ r.tx = none) ∧
        ∃ g, t.frame id = some g ∧ g.stage = Stage.queued ∧ g.pool = some .reserve ∧ g.charge = n ∧
          g.written = f.written + 1) ∧
      (s.isPort e = true → s.park e ≠ 2 → s.park e ≠ 1 → plain → ¬ inReserve → s.lossless f.sel f.port f.cls = false →
        s.sharedAccepts f.sel f.cls (s.queuePool q .shared) n = false →
        t.reps = s.reps ∧ CountedOnce (C.dropsFull q) s t)) ∧
  ((∀ (s : State) (id : Nat) (f : Frame), s.frame id = some f → f.stage = Stage.queued → f.whole = false →
      f.ended = true → f.bad = false → s.shortTime f = false → f.written ≤ f.ncells → ∃ t,
      exec (.frameLastCell id) s = .next t ∧ t.reps = s.reps ∧ t.cnt = s.cnt ∧ (∀ k, k ≠ id → t.frame k = s.frame k) ∧
      ∃ g, t.frame id = some g ∧ g.whole = true ∧ g.written = f.ncells ∧ g.charge = min f.charge f.ncells ∧
        g.bytes = f.bytes ∧ g.stage = Stage.queued) ∧
  (∀ (s : State) (g q k : Nat) (r : Replica) (f : Frame) (bad : BadWords), StoresCanonical s →
      s.reps.find? (fun kv => kv.2.g == g && kv.2.q == q && s.refillable kv.1 kv.2) = some (k, r) →
      s.frame r.frame = some f →
      let ahead := s.reps.filter fun kv => kv.2.g == g && kv.2.q == q && decide (kv.1 < k)
      r.inSpillNow = true ∧ f.whole = true ∧ f.charge ≤ s.sharedFree ∧ (∀ x ∈ ahead, x.2.inSpillNow = false) ∧
      ((ahead.filter fun kv => kv.2.onDie).map fun kv => s.repCells kv.2).sum < 64 ∧
      (18750 < s.spillWindow + f.ncells → exec (.spillRefill g q bad) s = .next s) ∧
      (s.spillWindow + f.ncells ≤ 18750 →
      ∃ t, exec (.spillRefill g q bad) s = .next t ∧ t.regs = s.regs ∧
        KeepsCounters [C.ladderYield 2, C.ladderYield 6] s t ∧
        t.spillWindow = s.spillWindow + f.ncells ∧
        (∀ j x, s.rep j = some x → ∃ b, t.rep j = some { (if x.frame = r.frame ∧ x.inSpillNow then
          { x with spill := .onDie, pool := if x.pool = .spill then .shared else x.pool } else x) with yielded := b }) ∧
        (∀ j, j ≠ r.frame → t.frame j = s.frame j) ∧
        ∃ h, t.frame r.frame = some h ∧ h.pool = some .shared ∧ h.charge = f.charge ∧ h.written = f.ncells ∧
          h.bytes = f.bytes ∧ ∀ w, w ∈ h.badWords ↔ w ∈ f.badWords ∨ w ∈ bad ∧ 8 * w.1 < f.bytes.length)) ∧
  (∀ (s : State) (bank : Nat), ∃ t, exec (.bankCopyDone bank) s = .next t ∧
      t = { s with swc := { s.swc with bankCopy := t.swc.bankCopy } } ∧
      ∀ x, x ∈ t.swc.bankCopy ↔ x ∈ s.swc.bankCopy ∧ x.1 ≠ bank))

/-- One round, outside scan hold (in it nothing happens, R537), u being the state once the cells written and drained
since the last round are taken in, the age checks due are made (log 55), the deficits of backlogged queues have grown
(log 73), and the frames that yield are noted (log 74). Over its four iterations no ingress group and no egress group
is matched twice, and each matched pair has a request of its tier. For each pair (g, h) accepted at tier t in the
first iteration GP[h][t] becomes g + 1 and AP[g][t] becomes h + 1, modulo 64; every other grant and accept pointer
keeps its value. The crossings change no row; where no port checks ages they change no ring and of a frame only how
many of its cells have left the buffer, for a unicast frame, and of the registers only PRT_PFC_STATUS of ports whose
occupancy fell. -/
def Obligations.MatchingRound : Prop :=
  ∀ (s : State) (arrived drained : List (Nat × Nat)),
    let u := (drained.foldl State.drainPort (s.takeArrivals arrived)).ageChecks.growDeficits.frameYields
    let acc := u.accepts (u.grants u.requests)
    let m := u.iterate u.requests 3 acc
    (s.boot.scanHold = true → exec (.matchingRound arrived drained) s = .next s) ∧
    m.Pairwise (fun x y => x.1 ≠ y.1 ∧ x.2.1 ≠ y.2.1) ∧ (∀ x ∈ m, x ∈ u.requests) ∧
    (s.boot.scanHold = false → ∃ t, exec (.matchingRound arrived drained) s = .next t ∧
      (skeysFrom none s.swc.gp = true → skeysFrom none s.swc.ap = true → ∀ x ∈ acc,
        sgetD t.swc.gp (8 * x.2.1 + x.2.2) 0 = (x.1 + 1) % 64 ∧
        sgetD t.swc.ap (8 * x.1 + x.2.2) 0 = (x.2.1 + 1) % 64) ∧
      (∀ k, (∀ x ∈ acc, k ≠ 8 * x.2.1 + x.2.2) → sgetD t.swc.gp k 0 = sgetD s.swc.gp k 0) ∧
      (∀ k, (∀ x ∈ acc, k ≠ 8 * x.1 + x.2.2) → sgetD t.swc.ap k 0 = sgetD s.swc.ap k 0) ∧
      t.rows = u.rows ∧
      (StoresCanonical s → FramesInRange s → (∀ p, u.park p ≠ 3) → t.rings = u.rings ∧
        (∀ id, u.frame id = none → t.frame id = none) ∧
        (∀ id f, u.frame id = some f → ∃ n, t.frame id = some { f with left := f.left + n } ∧
          (f.unicast = false → n = 0)) ∧
        ∀ q : Reg, (∀ p, p < 1024 → q.addr ≠ (Reg.PRT_PFC_STATUS p).addr) → t.get q = u.get q))

/-- At an UP port that sends nothing and has no pause frame due (one that is due goes first, R183), the first frame of
the transmit buffer whose queue is not paused, whose gate is open and which fits its gate (or fits in none of its
intervals, and its gate opens now, which the port's gate overrun counter counts): its replica is in transmission with
the egress timestamp TX_LAT after the lane's event time by its chiplet's copy, and frames, registers and other
replicas stay, but for the mark that a frame's yield was counted. When the frame in transmission has crossed whole, or
its cell with a bad link word has, it ends: a clean one leaves as its bytes rewritten for the port and is counted in
its port's latency histogram if that is enabled for the class; one whose cells hold bad words, a bad link word or
cells of a stalled bank leaves with each bad word as it was read, those cells zero, cut after the cell of the bad link
word, with a stomped FCS, and SWC_BUF_ECC_STOMPED counts; one whose cells were lost in spill leaves as zero bytes,
stomped, and SWC_BUF_ECC_STOMPED counts. In each case exactly that one message joins the outputs, the replica leaves
the device, the corrected words are counted, and what was found bad stays the frame's. In scan hold none ends (R537).
The length of a frame not yet whole, and when a gate's opening still counts as the beginning of its interval, are the
model's choices (logs 87, 88). -/
def Obligations.FrameSent : Prop :=
  (∀ (s : State) (p lane ball k : Nat) (r : Replica) (f : Frame), StoresCanonical s → s.portIsUp p = true →
      s.transmitting p = none → p ≤ lane → lane < p + s.blkLanes (p / 8) → s.nextToSend p = some (k, r) →
      s.frame r.frame = some f → s.queuePaused r.q = false → s.gateOpen r.q = true →
      (s.pauseWaits p = true → exec (.frameTxStart p lane ball) s = .next s) ∧
      (s.pauseWaits p = false →
      let len := if f.whole then f.len else s.maxFrame s.curSel p
      let never := s.neverFits p (classOf r.q) len
      let calm := Option.map fun x : Replica => { x with yielded := false }
      (never = true → s.gateOpening p (classOf r.q) = true) → (never = false → s.fitsGate p (classOf r.q) len = true) →
      ∃ t, exec (.frameTxStart p lane ball) s = .next t ∧
        calm (t.rep k) = calm (some { r with
          tx := some ((s.chipTime lane ball + 16 * s.stFld f.sel (.TIM_PORT_LAT p) F.TIM_PORT_LAT_TX_LAT) % 2 ^ 64) }) ∧
        (∀ j, j ≠ k → calm (t.rep j) = calm (s.rep j)) ∧ t.frames = s.frames ∧ t.regs = s.regs ∧ t.out = s.out ∧
        (if never then CountedOnce (C.gateOverrun p) s t
         else t.counter (C.gateOverrun p) = s.counter (C.gateOverrun p)) ∧
        (if s.tcUpdates f r then CountedOnce (C.ptpTc p) s t else t.counter (C.ptpTc p) = s.counter (C.ptpTc p)))) ∧
  (∀ (s : State) (p k ts : Nat) (r : Replica) (f : Frame) (ecc : EccSeen), StoresCanonical s → FramesInRange s →
      s.transmitting p = some k → s.rep k = some r → s.frame r.frame = some f → r.tx = some ts → s.boot.scanHold = false →
      let g := f.seen r ecc
      let lost := match r.spill with | .lost _ => true | _ => false
      let faulty := !g.badWords.isEmpty || g.badLink.isSome || !g.gone.isEmpty
      let bytes := s.sentBytes f r ts
      let zeros := List.replicate (256 * ((f.bytes.length + 255) / 256)) 0#8
      let damaged := zeroCells g.gone (s.sentBytes { g with bytes := asRead g.badWords g.bytes } r ts)
      let body := match g.badLink with
        | some i => damaged.take (min (256 * (i + 1)) (damaged.length - 4))
        | none => damaged.take (damaged.length - 4)
      let cfg := s.get (.SWC_HIST_CFG p)
      let bin := C.latHist p (latency f ts (F.SWC_HIST_CFG_MIN_EXP.get cfg))
      s.allCrossed r = true ∨ (∃ i, g.badLink = some i ∧ i < r.crossed) →
      ∃ t, exec (.frameTxEnd p ecc) s = .next t ∧ t.rep k = none ∧ CountedTimes C.bufEccCorrected ecc.corrected s t ∧
        (∀ x, t.frame r.frame = some x → x.badWords = g.badWords ∧ x.badLink = g.badLink) ∧
        (lost = true → CountedOnce C.bufEccStomped s t ∧ t.out = .frame p (zeros ++ stompFcs zeros) true :: s.out) ∧
        (lost = false → faulty = true → CountedOnce C.bufEccStomped s t ∧
          t.out = .frame p (body ++ stompFcs body) true :: s.out) ∧
        (lost = false → faulty = false → t.out = .frame p bytes false :: s.out ∧
          t.counter C.bufEccStomped = s.counter C.bufEccStomped ∧
          (if F.SWC_HIST_CFG_EN.get cfg = 1 ∧ (F.SWC_HIST_CFG_CLASSES.get cfg).testBit (classOf r.q) = true
           then CountedOnce bin s t else ∀ j, j < 64 → t.counter (C.latHist p j) = s.counter (C.latHist p j))))

/-- A write of TIM_SAF_CMD through the window by an Expert takes the command with the value then held and CMD_RESULT
reads pending; a cancel drops a pending one and CMD_RESULT is 0; nothing else changes. At the first steward strobe
with an active engine, of T or of SYSCLK_IN while the tick's multiplier is unlocked, a pending SET makes T the value
in ns, a STEP adds the signed value to T, both adding 1 to STEP_SEQ, and a SLEW leaves T; SWITCHING or LOCKED refuses
with CMD_RESULT 2 and T stays. Those are the strobes at which no steward takes over (a window access that waited for
it may bring the next command). The strobes without an engine are R427's, the refusal R368's; that a command waits for
an engine's strobe and what a locked multiplier means are the model's (logs 84, 149). Before T reaches the strobe's
instant nothing happens. A read of TIM_SAF_TIME_F returns the fraction and latches the other words. The last tick of a
slew adds all that remains where the clamp lets it through, and SLEWING is 0. One tick adds INC to T, which lies
within 2^32 - 2^20 to 2^32 + 2^20. -/
def Obligations.TimeCommandsTaken : Prop :=
  (∀ (s : State) (h : Nat) (v : Word), StoresCanonical s → ExpertWindow s h → Passes s h .TIM_SAF_CMD v →
      let held := (s.get .TIM_SAF_VAL_H).setWidth 64 <<< 32 ||| (s.get .TIM_SAF_VAL_L).setWidth 64
      let op := F.TIM_SAF_CMD_OP.get v
      (∀ c : Instr, (c, op) ∈ [(Instr.safSet .window v, 1), (.safStep .window v, 2), (.safSlew .window v, 3)] →
        ∃ t, exec c s = .next t ∧ t.tim.cmd = some (op, held) ∧ t.fld .TIM_SAF_STATUS F.TIM_SAF_STATUS_CMD_RESULT = 1 ∧
          t = { s with regs := t.regs, masked := t.masked, tim := { s.tim with cmd := t.tim.cmd } } ∧
          KeepsRegs [.TIM_SAF_CMD, .TIM_SAF_STATUS] s t) ∧
      (op = 0 → ∃ t, exec (.safCancel .window v) s = .next t ∧ t.tim.cmd = none ∧
        (s.tim.cmd ≠ none → t.fld .TIM_SAF_STATUS F.TIM_SAF_STATUS_CMD_RESULT = 0) ∧
        t = { s with regs := t.regs, masked := t.masked, tim := { s.tim with cmd := none } } ∧ KeepsRegs [.TIM_SAF_CMD, .TIM_SAF_STATUS] s t)) ∧
  (∀ (s : State) (offs : List Int), s.sysclkStrobes = false → s.nowNs < s.tim.nextStw →
      exec (.stewardStrobe offs) s = .next s) ∧
  (∀ (s : State) (op : Nat) (v : Word64) (offs : List Int), StoresCanonical s → s.engineOn = true →
      (s.tim.unlocked = false ∧ s.tim.nextStw ≤ s.nowNs) ∨ (s.tim.unlocked = true ∧ s.boot.begun = true) →
      s.tim.cmd = some (op, v) → op = 1 ∨ op = 2 ∨ op = 3 → s.pair.cause = none →
      ∃ t, exec (.stewardStrobe offs) s = .next t ∧ t.tim.cmd = none ∧ t.tim.tick = s.tim.tick ∧
        (s.selState = 2 ∨ s.selState = 3 → t.fld .TIM_SAF_STATUS F.TIM_SAF_STATUS_CMD_RESULT = 2 ∧ t.tim.t = s.tim.t ∧
          t.tim.stepSeq = s.tim.stepSeq) ∧
        (s.selState ≠ 2 → s.selState ≠ 3 → t.fld .TIM_SAF_STATUS F.TIM_SAF_STATUS_CMD_RESULT = 0 ∧
          (op = 1 → t.tim.t = BitVec.ofNat 96 (v.toNat * 2 ^ 32) ∧ t.tim.stepSeq = s.tim.stepSeq + 1 ∧
            t.fld .TIM_SAF_STATUS F.TIM_SAF_STATUS_TIME_SET = 1) ∧
          (op = 2 → t.tim.t = BitVec.ofInt 96 (s.t32 + v.toInt * 2 ^ 16) ∧ t.tim.stepSeq = s.tim.stepSeq + 1) ∧
          (op = 3 → t.tim.t = s.tim.t ∧ t.tim.stepSeq = s.tim.stepSeq ∧ s.safApply.tim.slew = v.toInt * 2 ^ 16 ∧
            s.safApply.fld .TIM_SAF_STATUS F.TIM_SAF_STATUS_SLEWING = 1))) ∧
  (∀ (s : State) (h : Nat), StoresCanonical s → ExpertWindow s h → ∃ t, exec (.safTimeRead .window) s = .next t ∧
      t.get .TIM_SAF_TIME_L = BitVec.ofNat 32 s.nowNs ∧ t.get .TIM_SAF_TIME_H = BitVec.ofNat 32 (s.nowNs / 2 ^ 32) ∧
      t.out = Output.readData (BitVec.ofNat 32 (s.now16 % 65536)) :: s.out ∧ t = { s with regs := t.regs, out := t.out } ∧
      KeepsRegs [.TIM_SAF_TIME_L, .TIM_SAF_TIME_H] s t) ∧
  (∀ s : State, skeysFrom none s.regs = true →
      (s.engineOn = true → s.tim.slew ≠ 0 → s.tim.slew.natAbs < s.slewStep → (s.tim.servo + s.tim.slew).natAbs ≤ 2 ^ 20 →
        ∃ t, exec .slewComplete s = .next t ∧ t.tim.slew = 0 ∧ t.fld .TIM_SAF_STATUS F.TIM_SAF_STATUS_SLEWING = 0 ∧
          t.tim.t = s.tim.t + BitVec.ofNat 96 (2 ^ 32 + s.tim.servo + s.tim.slew).toNat ∧ t.tim.tick = s.tim.tick + 1) ∧
      (s.tim.slew = 0 ∨ s.engineOn = false → exec .slewComplete s = .next s) ∧
      (s.engineOn = true → s.tim.servo.natAbs ≤ 2 ^ 20 → 2 ^ 32 - 2 ^ 20 ≤ s.inc ∧ s.inc ≤ 2 ^ 32 + 2 ^ 20 ∧
        s.saffronTick.tim.t = s.tim.t + BitVec.ofNat 96 s.inc.toNat ∧ s.saffronTick.tim.slew = s.tim.slew - s.slewPart ∧
        s.saffronTick.tim.tick = s.tim.tick + 1))

/-- A write of EN := 1 to an idle unit clears FIRED; with the start at least 1 µs ahead the first instant is the
start; with a start less than that ahead and a period it is the first instant of the grid at least 1 µs ahead; without
a period, or with a bad setting, MISSED is 1 and EN returns to 0. At an instant that T has reached FIRED grows by one;
a unit without a period, or whose count is used up, is DONE with EN 0; otherwise the next instant is one period on. EN
:= 0 ends the unit and drops every pulse that has not risen; the clock output of a unit stays as it stood, its cycle
completes. While the outputs are not held no pulse that is planned is dropped by an instant. A pulse ends when T
reaches its fall. What becomes of pulses and cycles under way at EN := 0 or a step of T, and when SUPPRESSED changes,
are the model's choices (logs 117, 148, 83). While a schedule runs and T has reached the end of the entry in force,
the next entry is in force with its gates until the sum of the intervals up to it; after the last one the next cycle
begins one cycle time later with its first entry. When T has reached the change time of a pending schedule, that
schedule is operational from there, its first entry in force, or, with EN = 0, every gate is open; nothing is pending
any more. A class whose gate opens so begins its open interval at that tick. Before these times nothing changes, and
no other port's gates ever do; frames that waited for a gate are looked at for yields first. A schedule whose header
was cleared counting as EN = 0 is the model's choice (log 89). -/
def Obligations.TriggersAndGates : Prop :=
  ((∀ (s : State) (h k : Nat) (v : Word), StoresCanonical s → ExpertWindow s h → k < 16 → Passes s h (.TIM_TRIG_CTRL k) v →
      let u := wrote s (.TIM_TRIG_CTRL k) v
      let was := s.fld (.TIM_TRIG_CTRL k) F.TIM_TRIG_CTRL_EN
      (F.TIM_TRIG_CTRL_EN.get v = 1 → exec (.triggerArm .window k v) s = .next (if was = 0 then u.armTrigger k else u)) ∧
      (F.TIM_TRIG_CTRL_EN.get v = 0 → exec (.triggerStop .window k v) s = .next (if was = 1 then u.stopTrigger k else u))) ∧
  (∀ (u : State) (k : Nat), StoresCanonical u → skeysFrom none u.tim.trigs = true → k < 16 →
      let start : Int := (u.get (.TIM_TRIG_START_F k)).toNat % 65536 +
        65536 * ((u.get (.TIM_TRIG_START_L k)).toNat + 2 ^ 32 * (u.get (.TIM_TRIG_START_H k)).toNat : Nat)
      let p := (u.get (.TIM_TRIG_PERIOD k)).toNat
      let width := u.fld (.TIM_TRIG_CTRL k) F.TIM_TRIG_CTRL_WIDTH
      let soon := u.full16 + 1000 * 65536
      let bad : Prop := (k < 4 ∧ p ≠ 0 ∧ p ≤ width * 1000) ∨ (4 ≤ k ∧ k < 8 ∧ p ≤ 1)
      let t := u.armTrigger k
      t.get (.TIM_TRIG_FIRED k) = 0 ∧
      (bad ∨ (p = 0 ∧ start < soon) → (t.trig k).next = none ∧
        t.fld (.TIM_TRIG_STATUS k) F.TIM_TRIG_STATUS_MISSED = 1 ∧ t.fld (.TIM_TRIG_STATUS k) F.TIM_TRIG_STATUS_ARMED = 0 ∧
        t.fld (.TIM_TRIG_CTRL k) F.TIM_TRIG_CTRL_EN = 0) ∧
      (¬ bad → soon ≤ start → (t.trig k).next = some start ∧ t.fld (.TIM_TRIG_STATUS k) F.TIM_TRIG_STATUS_ARMED = 1) ∧
      (¬ bad → start < soon → p ≠ 0 → ∃ n : Nat, (t.trig k).next = some (start + n * (p * 65536)) ∧
        soon ≤ start + n * (p * 65536) ∧ start + ((n : Int) - 1) * (p * 65536) < soon ∧
        t.fld (.TIM_TRIG_STATUS k) F.TIM_TRIG_STATUS_ARMED = 1)) ∧
  (∀ (u : State) (k : Nat), StoresCanonical u → skeysFrom none u.tim.trigs = true → k < 16 → let t := u.stopTrigger k
      (t.trig k).next = none ∧ t.fld (.TIM_TRIG_CTRL k) F.TIM_TRIG_CTRL_EN = 0 ∧
      t.fld (.TIM_TRIG_STATUS k) F.TIM_TRIG_STATUS_ARMED = 0 ∧
      ((t.trig k).pulses = (u.trig k).pulses.filter fun q => q.up || decide (q.rise ≤ u.full16)) ∧
      (∀ j, k = 4 + j → j < 4 → t.clkPin j = u.clkPin j)) ∧
  (∀ (s : State) (k : Nat), StoresCanonical s → skeysFrom none s.tim.trigs = true →
      ((s.trig k).next = none → exec (.triggerInstant k) s = .next s) ∧
      (∀ i, (s.trig k).next = some i → s.full16 < i → exec (.triggerInstant k) s = .next s) ∧
      (∀ i, (s.trig k).next = some i → i ≤ s.full16 → k < 16 → ∃ t, exec (.triggerInstant k) s = .next t ∧
        t.get (.TIM_TRIG_FIRED k) = s.get (.TIM_TRIG_FIRED k) + 1 ∧ t.tim.t = s.tim.t ∧
        (let x := s.trig k
         let last : Prop := x.period = 0 ∨
           (¬ (4 ≤ k ∧ k < 8) ∧ x.count ≠ 0 ∧ x.count ≤ (s.get (.TIM_TRIG_FIRED k)).toNat + 1)
         (last → (t.trig k).next = none ∧ t.fld (.TIM_TRIG_STATUS k) F.TIM_TRIG_STATUS_DONE = 1 ∧
            t.fld (.TIM_TRIG_CTRL k) F.TIM_TRIG_CTRL_EN = 0) ∧
         (¬ last → (t.trig k).next = some (i + (x.period * 65536 : Nat)) ∧
            t.fld (.TIM_TRIG_CTRL k) F.TIM_TRIG_CTRL_EN = s.fld (.TIM_TRIG_CTRL k) F.TIM_TRIG_CTRL_EN)) ∧
        (k < 4 → s.outputsHeld = false → ∀ q ∈ (s.trig k).pulses, q ∈ (t.trig k).pulses) ∧
        (8 ≤ k → t.get (.HLT_CAP_SEQ (k - 8)) = s.get (.HLT_CAP_SEQ (k - 8)) + 2))) ∧
  (∀ (s : State) (k : Nat), skeysFrom none s.tim.trigs = true → k < 4 → ∃ t, exec (.ppsPulseEnd k) s = .next t ∧
      t.trig k = { s.trig k with pulses := (s.trig k).pulses.filter fun q => decide (s.full16 < q.fall) } ∧
      (∀ j, j ≠ k → t.trig j = s.trig j) ∧ t = { s with tim := { s.tim with trigs := t.tim.trigs } })) ∧
  ((∀ (s : State) (p : Nat) (x : Sched), StoresCanonical s → skeysFrom none s.tim.gates = true → (s.gate p).oper = some x →
      x.en = true →
      let g := s.gate p
      (s.nowNs < g.next → exec (.gateEntryChange p) s = .next s) ∧
      (g.next ≤ s.nowNs → ∃ t, exec (.gateEntryChange p) s = .next t ∧
        t = { s with tim := { s.tim with gates := t.tim.gates }, reps := t.reps, cnt := t.cnt } ∧ YieldsNoted s t ∧
        (∀ q, q ≠ p → t.gate q = s.gate q) ∧
        (∀ c, c < 16 → (t.gate p).mask.testBit c = true → g.mask.testBit c = false → (c, s.tim.tick) ∈ (t.gate p).opened) ∧
        (g.idx + 1 < x.entries.length → t.gate p =
          { g with idx := g.idx + 1, mask := (x.entries.getD (g.idx + 1) (65535, 0)).1, opened := (t.gate p).opened,
                   next := g.start + ((x.spans.take (g.idx + 2)).map Prod.snd).sum }) ∧
        (x.entries.length ≤ g.idx + 1 → t.gate p =
          { g with idx := 0, start := g.start + x.cycle, mask := (x.entries.getD 0 (65535, 0)).1, opened := (t.gate p).opened,
                   next := g.start + x.cycle + ((x.spans.take 1).map Prod.snd).sum }))) ∧
  (∀ (s : State) (p : Nat), (∀ x, (s.gate p).oper = some x → x.en = false) → exec (.gateEntryChange p) s = .next s) ∧
  (∀ (s : State) (p : Nat), (s.gate p).pend = none → exec (.gateScheduleChange p) s = .next s) ∧
  (∀ (s : State) (p at' : Nat) (x : Sched), StoresCanonical s → skeysFrom none s.tim.gates = true →
      (s.gate p).pend = some (x, at') →
      (s.nowNs < at' → exec (.gateScheduleChange p) s = .next s) ∧
      (at' ≤ s.nowNs → ∃ t, exec (.gateScheduleChange p) s = .next t ∧
        t = { s with tim := { s.tim with gates := t.tim.gates }, reps := t.reps, cnt := t.cnt } ∧ YieldsNoted s t ∧
        (∀ q, q ≠ p → t.gate q = s.gate q) ∧
        (t.gate p).pend = none ∧ (t.gate p).oper = some x ∧
        (x.en = false → (t.gate p).mask = 65535) ∧
        (x.en = true → (t.gate p).start = at' ∧ (t.gate p).idx = 0 ∧ (t.gate p).mask = (x.entries.getD 0 (65535, 0)).1))))

/-- When the active engine gives up with a ready standby, the standby is ACTIVE, the former is out and under test,
STANDBY_OK is 0, the fail-over is counted, and T does not change. Without one no engine is ACTIVE, SEL_STATUS is
WAIT_OSC with SYNTONIZED 0, the ACTIVE slot is READY, every armed unit among 0 to 7 is suppressed, and a multiplier
that has lost lock stays unlocked. With none active nothing changes. A swap does the same but only with a ready
standby. A passed self-test lets the former engine load the next copy; a failed one leaves it out. At a servo strobe
(a multiple of 10^6 ns, or 1,000 strobes of SYSCLK_IN) each valid phase detector's ACC takes its latest sample, an
engine that has passed its self-test becomes standby with a copy of T, the slew, the servo's request and the loop, and
STANDBY_OK is whether the standby has loaded the copy with its SCLK within the window; the next strobe is at the next
multiple of 10^6 ns. What the units and the multiplier keep after SAFFRON_LOST, and the strobes of SYSCLK_IN, are the
model's choices (logs 85, 149). -/
def Obligations.EnginesFailOver : Prop :=
  (∀ (s : State), StoresCanonical s → s.engineOn = true → s.fld .TIM_SAF_STATUS F.TIM_SAF_STATUS_ACTIVE ≤ 1 →
      let a := s.fld .TIM_SAF_STATUS F.TIM_SAF_STATUS_ACTIVE
      (s.fld .TIM_SAF_STATUS F.TIM_SAF_STATUS_STANDBY_OK = 1 → ∀ lost, ∃ t, exec (.engineFault lost) s = .next t ∧
        t.fld .TIM_SAF_STATUS F.TIM_SAF_STATUS_ACTIVE = 1 - a ∧ t.fld .TIM_SAF_STATUS F.TIM_SAF_STATUS_STANDBY_OK = 0 ∧
        t.fld .TIM_SAF_STATUS (engFld (1 - a)) = 0 ∧ t.fld .TIM_SAF_STATUS (engFld a) = 2 ∧
        CountedOnce C.engFailovers s t ∧ SignalsRegs [.TIM_SAF_STATUS] s t ∧ SignalsCounters [C.engFailovers] s t ∧
        t = { s with regs := t.regs, masked := t.masked, cnt := t.cnt, hlt := t.hlt, irq := t.irq, out := t.out,
                     tim := { s.tim with testing := some a, standby := none } }) ∧
      (s.fld .TIM_SAF_STATUS F.TIM_SAF_STATUS_STANDBY_OK = 0 → ∀ lost, ∃ t, exec (.engineFault lost) s = .next t ∧
        t.fld .TIM_SAF_STATUS F.TIM_SAF_STATUS_ACTIVE = 2 ∧ t.fld .TIM_SAF_STATUS (engFld a) = 2 ∧ t.selState = 0 ∧
        t.tim = { s.tim with unlocked := lost || s.tim.unlocked } ∧ t.raised Ev.saffronLost 0 = true ∧
        t.fld .TIM_SEL_STATUS F.TIM_SEL_STATUS_SYNTONIZED = 0 ∧
        (∀ k, k < 8 → t.refState k = if s.refState k = 4 then 3 else s.refState k) ∧
        ∀ k, k < 8 → s.fld (.TIM_TRIG_STATUS k) F.TIM_TRIG_STATUS_ARMED = 1 →
          t.fld (.TIM_TRIG_STATUS k) F.TIM_TRIG_STATUS_SUPPRESSED = 1)) ∧
  (∀ (s : State) (lost : Bool), s.engineOn = false → exec (.engineFault lost) s = .next s) ∧
  (∀ (s : State) (h : Nat) (v : Word), ExpertWindow s h → Passes s h .TIM_ENG_CTL v → F.TIM_ENG_CTL_SWAP.get v = 1 →
      let u := wrote s .TIM_ENG_CTL v
      (u.engineOn = true → u.fld .TIM_SAF_STATUS F.TIM_SAF_STATUS_STANDBY_OK = 1 →
        exec (.engineSwap .window v) s = exec (.engineFault false) u) ∧
      (u.engineOn = false ∨ u.fld .TIM_SAF_STATUS F.TIM_SAF_STATUS_STANDBY_OK = 0 →
        exec (.engineSwap .window v) s = .next u)) ∧
  (∀ (s : State) (pass : Bool), s.tim.testing = none → exec (.engineSelftestDone pass) s = .next s) ∧
  (∀ (s : State) (e : Nat) (pass : Bool), s.tim.testing = some e → s.engineOn = false →
      exec (.engineSelftestDone pass) s = .next { s with tim := { s.tim with testing := none } }) ∧
  (∀ (s : State) (e : Nat), StoresCanonical s → s.tim.testing = some e → e ≤ 1 → s.engineOn = true →
      exec (.engineSelftestDone true) s = .next { s with tim := { s.tim with testing := none, passed := some e } } ∧
      (∃ t, exec (.engineSelftestDone false) s = .next t ∧ t.raised Ev.saffronSingle e = true ∧
        t.get .TIM_SAF_STATUS = s.get .TIM_SAF_STATUS ∧ t.tim = { s.tim with testing := none })) ∧
  (∀ (s : State) (copied near : Bool), (if s.sysclkStrobes then s.tim.strobes < 1000 else s.nowNs < s.tim.nextServo) →
      exec (.servoStrobe copied near) s = .next s) ∧
  (∀ (s : State) (copied near : Bool), StoresCanonical s → skeysFrom none s.tim.ptp = true →
      (if s.sysclkStrobes then 1000 ≤ s.tim.strobes else s.tim.nextServo ≤ s.nowNs) →
      ∃ t, exec (.servoStrobe copied near) s = .next t ∧ t.tim.t = s.tim.t ∧
        (if s.sysclkStrobes then t.tim.strobes = 0 ∧ t.tim.nextServo = s.tim.nextServo
         else t.tim.nextServo = (s.nowNs / 1000000 + 1) * 1000000) ∧
        (∀ p, p < 1024 → s.phValid p = true → t.get (.TIM_PHASE p) = BitVec.ofInt 32 (s.ptpPort p).beat) ∧
        (∀ p, p < 1024 → s.phValid p = false → t.get (.TIM_PHASE p) = s.get (.TIM_PHASE p)) ∧
        (s.engineOn = true → s.fld .TIM_SAF_STATUS F.TIM_SAF_STATUS_ACTIVE ≤ 1 →
          let e := 1 - s.fld .TIM_SAF_STATUS F.TIM_SAF_STATUS_ACTIVE
          let joins := copied = true ∧ s.tim.passed = some e
          (joins → t.fld .TIM_SAF_STATUS (engFld e) = 1 ∧ t.tim.passed = none) ∧
          (joins ∨ s.fld .TIM_SAF_STATUS (engFld e) = 1 →
            t.fld .TIM_SAF_STATUS F.TIM_SAF_STATUS_STANDBY_OK = (if copied && near then 1 else 0) ∧
            t.tim.standby = (if copied then some ⟨t.tim.t.toNat, t.tim.slew, t.tim.servo, t.tim.sel.y, t.tim.sel.i⟩
              else s.tim.standby)) ∧
          (¬ joins → s.fld .TIM_SAF_STATUS (engFld e) ≠ 1 → t.fld .TIM_SAF_STATUS F.TIM_SAF_STATUS_STANDBY_OK =
            s.fld .TIM_SAF_STATUS F.TIM_SAF_STATUS_STANDBY_OK ∧ t.tim.standby = s.tim.standby)))

/-- A consumed message counts in TIM_PTP_RX of its port; the role of the port under the frame's selector decides
whether it is used or counts in TIM_PTP_IGNORED; its frame is then done with. A frame that is not such a message
changes nothing. A Sync leaves its sequence, source, t1 (one-step), the ingress time and its correction; the matching
Follow_Up supplies t1 and adds its correction; a Delay_Req is owed an answer; the matching Delay_Resp completes the
exchange, whose offset ((t2 - t1 - cS) - (t4 - t3 - cD))/2 less the asymmetry and delay half the sum, never below 0,
are shown, rounded to a neighbouring unit; an Announce sets ANN_OK; an L1_SYNC TLV on a port where L1 synchronization
is enabled moves the L1 state from IDLE to LINK_ALIVE, from there to CONFIG_MATCH or not, and above among the upper
three (which of them is free, the model's choice; the states and the messages' layout are those of logs 144 and 86). A
missed Announce clears ANN_OK and is counted; a lost L1 peer moves L1_SYNC_UP to LINK_ALIVE and the states below it to
IDLE. -/
def Obligations.PtpMessagesReceived : Prop :=
  (∀ (s : State) (id o : Nat) (f : Frame), s.ptpTaken id = some (f, o) →
      let ty := byteAt f.bytes o % 16
      let u := s.count (C.ptpRx f.port)
      let role := s.roleOf f
      let out (used : Bool) (v : State) : State := (if used then v else u.count (C.ptpIgnored f.port)).frameGone id
      (ty = 0 → exec (.ptpSyncRx id) s = .next (out (role == 2) (u.useSync f o))) ∧
      (ty = 8 → exec (.ptpFollowUpRx id) s = .next (out (role == 2) (u.useFollowUp f o))) ∧
      (ty = 1 → exec (.ptpDelayReqRx id) s = .next (out (role == 1) (u.useDelayReq f o))) ∧
      (ty = 9 → exec (.ptpDelayRespRx id) s = .next (out (role == 2) (u.useDelayResp f o))) ∧
      (ty = 11 → exec (.ptpAnnounceRx id) s = .next (out (role == 2 || role == 3) (u.useAnnounce f o))) ∧
      (ty = 12 → exec (.ptpSignalingRx id) s = .next (out (role == 1 || role == 2) (u.useSignaling f o))) ∧
      (ty ≠ 0 → ty ≠ 1 → ty ≠ 8 → ty ≠ 9 → ty ≠ 11 → ty ≠ 12 →
        exec (.ptpSignalingRx id) s = .next (out false u)) ∧
      (ty ≠ 0 → exec (.ptpSyncRx id) s = .next s)) ∧
  (∀ (s : State) (id : Nat), s.ptpTaken id = none → exec (.ptpSyncRx id) s = .next s ∧ exec (.ptpAnnounceRx id) s = .next s) ∧
  (∀ (u : State) (f : Frame) (o : Nat), StoresCanonical u → skeysFrom none u.tim.ptp = true → f.port < 1024 →
      let x := u.ptpPort f.port
      let seq := beAt f.bytes (o + 30) 2
      let src := beAt f.bytes (o + 20) 10
      ((u.useSync f o).ptpPort f.port).sync = some
        ⟨seq, src, if (byteAt f.bytes (o + 6)).testBit 1 then none else some (tsAt f.bytes (o + 34)), u.restore f.ts,
          cfOf f.bytes o⟩ ∧
      (∀ y, x.sync = some y →
        (y.t1 = none → y.seq = seq → y.src = src → ((u.useFollowUp f o).ptpPort f.port).sync =
          some { y with t1 := some (tsAt f.bytes (o + 34)), cS := y.cS + cfOf f.bytes o }) ∧
        (y.t1 ≠ none ∨ y.seq ≠ seq ∨ y.src ≠ src → u.useFollowUp f o = u)) ∧
      ((u.useDelayReq f o).ptpPort f.port).resps = x.resps ++ [⟨seq, src, u.restore f.ts, cfOf f.bytes o⟩] ∧
      (∀ y t1 t3 sent, x.sync = some y → y.t1 = some t1 → x.req = some (seq, sent, some t3) →
        beAt f.bytes (o + 44) 10 = u.portId f.port → u.tim.tick ≤ sent + 1000 →
        let t := u.useDelayResp f o
        let a := y.t2 - t1 - y.cS
        let b := tsAt f.bytes (o + 34) - t3 - cfOf f.bytes o
        let asym := (u.committed (.TIM_PORT_ASYM f.port)).toInt
        (t.ptpPort f.port).req = none ∧ (t.ptpPort f.port).exAt = some u.tim.tick ∧
        ∃ d off : Int, t.get (.TIM_PTP_DELAY f.port) = BitVec.ofInt 32 (max 0 (min (2 ^ 32 - 1) d)) ∧ t.get (.TIM_PTP_OFFSET f.port) = sat32 off ∧
          (2 * d - (a + b)).natAbs ≤ 1 ∧ (2 * off - (a - b - 2 * asym)).natAbs ≤ 1) ∧
      (u.useAnnounce f o).fld (.TIM_PORT_STATUS f.port) F.TIM_PORT_STATUS_ANN_OK = 1 ∧
      (beAt f.bytes (o + 44) 2 ≠ 0x8001 ∨ u.l1Enabled f.port = false → u.useSignaling f o = u) ∧
      (beAt f.bytes (o + 44) 2 = 0x8001 → u.l1Enabled f.port = true →
        let old := u.fld (.TIM_PORT_STATUS f.port) F.TIM_PORT_STATUS_L1_STATE
        let l := (u.useSignaling f o).fld (.TIM_PORT_STATUS f.port) F.TIM_PORT_STATUS_L1_STATE
        (old ≤ 1 → l = 2) ∧ (old = 2 → l = 2 ∨ l = 3) ∧ (3 ≤ old → 2 ≤ l ∧ l ≤ 4))) ∧
  (∀ (s : State) (p : Nat), StoresCanonical s →
      (s.isPort p = true → 2 ≤ s.ptpRole p → ∃ t, exec (.announceTimeout p) s = .next t ∧
        t.fld (.TIM_PORT_STATUS p) F.TIM_PORT_STATUS_ANN_OK = 0 ∧ CountedOnce (C.ptpTimeouts p) s t ∧
        Writes [.TIM_PORT_STATUS p] [C.ptpTimeouts p] s t) ∧
      (s.isPort p = false ∨ s.ptpRole p < 2 → exec (.announceTimeout p) s = .next s) ∧
      (let old := s.fld (.TIM_PORT_STATUS p) F.TIM_PORT_STATUS_L1_STATE
       (s.isPort p = true → 2 ≤ old → old ≤ 4 → ∃ t, exec (.l1PeerTimeout p) s = .next t ∧
         t.fld (.TIM_PORT_STATUS p) F.TIM_PORT_STATUS_L1_STATE = (if old = 4 then 2 else 1) ∧
         Writes [.TIM_PORT_STATUS p] [] s t) ∧
       (s.isPort p = false ∨ old < 2 → exec (.l1PeerTimeout p) s = .next s)))

/-- A TRANSMITTER port of a running device with a qualified oscillator and an active engine sends Sync (with
twoStepFlag unless ONE_STEP), the Follow_Up of a Sync that has started, the Delay_Resp to the oldest Delay_Req owed,
and Announce; a RECEIVER sends Delay_Req; each kind has its own sequence number, one more for each message, and the
frame enters the queues as the device's own. Where the role, the qualification or the message that is to be answered
is missing nothing changes. Every message has its type, length, domain, flags, sequence and log interval in the header
after a MAC header of EtherType 0x88F7. Where these fields lie, and the intervals of Delay_Req and L1_SYNC messages,
are the model's (log 86). -/
def Obligations.PtpMessagesSent : Prop :=
  (∀ (s : State) (p : Nat), s.mayTransmit p = true →
      let x := s.ptpPort p
      (∃ t, exec (.ptpSyncTx p) s = .next t ∧ t = (s.putPtp p { x with seqSync := (x.seqSync + 1) % 65536 }).engineSend p
        (s.ptpFrame p ⟨0, if s.ptpFld p F.TIM_PTP_PORT_ONE_STEP = 0 then 0x200 else 0, 0, x.seqSync, 0,
          logByte (s.ptpFld p F.TIM_PTP_PORT_LOG_SYNC)⟩ (beBytes 10 0))) ∧
      (∀ seq at', x.fup = some (seq, at') → exec (.ptpFollowUpTx p) s = .next ((s.putPtp p { x with fup := none }).engineSend p
        (s.ptpFrame p ⟨8, 0, (ptpTime at').2.2, seq, 2, logByte (s.ptpFld p F.TIM_PTP_PORT_LOG_SYNC)⟩ (timeBytes at')))) ∧
      (x.fup = none → exec (.ptpFollowUpTx p) s = .next s) ∧
      (∀ r rest, x.resps = r :: rest → exec (.ptpDelayRespTx p) s = .next ((s.putPtp p { x with resps := rest }).engineSend p
        (s.ptpFrame p ⟨9, 0, ((r.cf - (ptpTime r.t4).2.2) % 2 ^ 64).toNat, r.seq, 3,
          logByte (s.ptpFld p F.TIM_PTP_PORT_LOG_DREQ)⟩ (timeBytes r.t4 ++ beBytes 10 r.req)))) ∧
      (x.resps = [] → exec (.ptpDelayRespTx p) s = .next s) ∧
      (∃ body flags, body.length = 30 ∧ exec (.ptpAnnounceTx p) s = .next
        ((s.putPtp p { x with seqAnn := (x.seqAnn + 1) % 65536 }).engineSend p
          (s.ptpFrame p ⟨11, flags, 0, x.seqAnn, 5, logByte (s.ptpFld p F.TIM_PTP_PORT_LOG_ANN)⟩ body)) ∧
        body.getD 14 0 = BitVec.ofNat 8 s.annFields.cls ∧ body.getD 13 0 = BitVec.ofNat 8 s.annFields.prio1) ∧
      (s.ptpFld p F.TIM_PTP_PORT_HA = 1 → exec (.ptpSignalingTx p) s = .next
        ((s.putPtp p { x with seqSig := (x.seqSig + 1) % 65536 }).engineSend p
          (s.ptpFrame p ⟨12, 0, 0, x.seqSig, 5, 0x7F⟩ (beBytes 10 (2 ^ 80 - 1) ++ beBytes 2 0x8001 ++ beBytes 2 2 ++
            beBytes 1 (s.l1Flags p).1 ++ beBytes 1 (s.l1Flags p).2)))) ∧
      (s.ptpFld p F.TIM_PTP_PORT_HA = 0 → exec (.ptpSignalingTx p) s = .next s)) ∧
  (∀ (s : State) (p : Nat), s.running = true → s.isPort p = true → s.ptpRole p = 2 →
      let x := s.ptpPort p
      exec (.ptpDelayReqTx p) s = .next ((s.putPtp p
        { x with seqReq := (x.seqReq + 1) % 65536, req := some (x.seqReq, s.tim.tick, none) }).engineSend p
          (s.ptpFrame p ⟨1, 0, 0, x.seqReq, 1, 0x7F⟩ (beBytes 10 0)))) ∧
  (∀ (s : State) (p : Nat), s.mayTransmit p = false → exec (.ptpSyncTx p) s = .next s ∧ exec (.ptpAnnounceTx p) s = .next s ∧
      (s.ptpRole p ≠ 2 → exec (.ptpDelayReqTx p) s = .next s)) ∧
  (∀ (s : State) (p : Nat), (s.mayTransmit p = true ↔ s.running = true ∧ s.isPort p = true ∧ s.ptpRole p = 1 ∧
      s.qualified = true ∧ s.engineOn = true)) ∧
  (∀ (u : State) (p : Nat) (b : List Byte), (u.engineSend p b).nextFrame = u.nextFrame + 1) ∧
  (∀ (s : State) (p : Nat) (m : PtpHead) (body : List Byte), body.length < 1400 → let b := s.ptpFrame p m body
      beAt b 12 2 = 0x88F7 ∧ beAt b 14 1 = m.type % 256 ∧ beAt b 16 2 = 34 + body.length ∧
      beAt b 20 2 = m.flags % 65536 ∧ beAt b 44 2 = m.seq % 65536 ∧ beAt b 47 1 = m.log % 256 ∧
      beAt b 34 10 = s.portId p % 2 ^ 80 ∧ (b.drop 48).take body.length = body)

/-- An edge less than 4 ns after the last one taken does nothing. A good edge of a PPS slot clears LOS and gives a
sample, the stamp's offset from the nearest second; an edge whose distance from the one before is not a second within
1 µs declares PHASE_FAULT. Of a CLK10 or CLK25 slot every edge is counted and the first since a steward strobe is
stamped. A missing edge sets LOS and drops FREQ_VALID. A slot that is OFF, or not of the kind, takes neither. A write
of PRIO 0 or of another KIND or, in slots 4 to 7, PORT marks the slot, which the next strobe puts OFF with its record
cleared and the faults of its kind held (R362); any other write leaves it. FREQ_FAULT is as FREQ stands to FREQ_LIMIT
at the strobe. A slot in QUAL with REMAIN 0, no fault and FREQ_VALID becomes READY; with a fault it fails and is
counted. The estimate counts down REMAIN in QUAL, and does nothing to a slot that is OFF. A detector's beat marks
PH_OOR, and PH_VALID with the lane up. How OFF is marked and taken, the second that REMAIN counts, and CLK edges
coming by REF_EDGE are the model's choices (logs 91, 93, 147). -/
def Obligations.ReferenceSlots : Prop :=
  (∀ (s : State) (k code : Nat), StoresCanonical s → skeysFrom none s.tim.slots = true → k < 4 →
      let at' := s.stampNow (16 + k) code true (s.refDelay k)
      let early : Prop := ∃ l, (s.slot k).lastEdge = some l ∧ at'.raw - l < 4 * 65536
      let st := (s.full16 + tsDiff at'.saf.toNat s.now16) * 2 ^ 16
      (2 < s.refKind k ∨ s.refState k = 0 ∨ s.tim.ticking = false ∨ early → exec (.refEdge k code) s = .next s) ∧
      (s.refState k ≠ 0 → s.tim.ticking = true → ¬ early →
        (s.refKind k = 0 → ∃ t e, exec (.refEdge k code) s = .next t ∧
          (t.slot k).stamp = some st ∧ (t.slot k).sample = some (st, e) ∧ (t.slot k).lastEdge = some at'.raw ∧
          t.tim.t = s.tim.t ∧ (e - st) % sec32 = 0 ∧ 2 * e ≤ sec32 ∧ -sec32 < 2 * e ∧
          t.refBit k F.TIM_REF_STATUS_LOS = false ∧
          (∀ p, (s.slot k).stamp = some p → 1000 * 2 ^ 32 < (st - p - sec32).natAbs →
            t.refBit k F.TIM_REF_STATUS_PHASE_FAULT = true)) ∧
        (s.refKind k = 1 ∨ s.refKind k = 2 → let x := s.slot k
          exec (.refEdge k code) s = .next (s.putSlot k
            (if x.fresh then { x with lastEdge := some at'.raw, edges := x.edges + 1 }
             else { x with lastEdge := some at'.raw, edges := x.edges + 1, stamp := some st, stampEdges := x.edges + 1,
                           fresh := true }))))) ∧
  (∀ (s : State) (k : Nat), StoresCanonical s → skeysFrom none s.tim.slots = true → k < 4 →
      (s.refKind k ≤ 2 → s.refState k ≠ 0 → ∃ t, exec (.refLos k) s = .next t ∧ t.refBit k F.TIM_REF_STATUS_LOS = true ∧
        t.refBit k F.TIM_REF_STATUS_FREQ_VALID = false ∧ (t.slot k).samples = [] ∧
        t = { s with regs := t.regs, tim := { s.tim with slots := t.tim.slots } } ∧ KeepsRegs [.TIM_REF_STATUS k] s t) ∧
      (2 < s.refKind k ∨ s.refState k = 0 → exec (.refLos k) s = .next s)) ∧
  (∀ (s : State) (h k : Nat) (v : Word), StoresCanonical s → skeysFrom none s.tim.slots = true → ExpertWindow s h → k < 8 →
      Passes s h (.TIM_REF_CFG k) v → ∃ t, exec (.refCfgWrite .window k v) s = .next t ∧ 
        t.get (.TIM_REF_CFG k) = (Reg.TIM_REF_CFG k).written (s.get (.TIM_REF_CFG k)) v ∧
        (let off := F.TIM_REF_CFG_PRIO.get v = 0 ∨ F.TIM_REF_CFG_KIND.get v ≠ s.refKind k ∨
           (4 ≤ k ∧ F.TIM_REF_CFG_PORT.get v ≠ s.refPort k)
         (off → t = (wrote s (.TIM_REF_CFG k) v).putSlot k { s.slot k with off := true }) ∧
         (¬ off → t = wrote s (.TIM_REF_CFG k) v))) ∧
  (∀ (s : State) (k : Nat), StoresCanonical s → skeysFrom none s.tim.slots = true → k < 8 →
      ((s.slot k).off = true → let t := s.slotStep k
        t.get (.TIM_REF_STATUS k) = s.get (.TIM_REF_STATUS k) &&& faultMask (s.refKind k) ∧ t.slot k = { idleSlot with lastEdge := (s.slot k).lastEdge } ∧
        (∀ j, j ≠ k → t.slot j = s.slot j) ∧ KeepsRegs [.TIM_REF_STATUS k, .TIM_SEL_STATUS] s t ∧
        (s.refState k = 4 → t.fld .TIM_SEL_STATUS F.TIM_SEL_STATUS_ACTIVE_VALID = 0)) ∧
      (let f := (s.get (.TIM_REF_FREQ k)).toInt.natAbs
       let lim := s.fld .TIM_SEL_CFG F.TIM_SEL_CFG_FREQ_LIMIT * 25600
       (s.freqFault k).refBit k F.TIM_REF_STATUS_FREQ_FAULT =
         (if s.refBit k F.TIM_REF_STATUS_FREQ_VALID = true ∧ lim < f then true
          else if 10 * f ≤ 9 * lim then false else s.refBit k F.TIM_REF_STATUS_FREQ_FAULT)) ∧
      (s.refState k ≠ 2 ∨ s.fld (.TIM_REF_STATUS k) F.TIM_REF_STATUS_REMAIN ≠ 0 → exec (.slotRemainExpires k) s = .next s) ∧
      (s.refState k = 2 → s.fld (.TIM_REF_STATUS k) F.TIM_REF_STATUS_REMAIN = 0 → ∃ t,
        exec (.slotRemainExpires k) s = .next t ∧ ((s.slot k).off = true → t.refState k = 0) ∧
        ((s.slot k).off = false → let u := s.freqFault k
          (u.refFault k = true → t.refState k = 1 ∧ CountedOnce (C.refFaults k) s t) ∧
          (u.refFault k = false → s.refBit k F.TIM_REF_STATUS_FREQ_VALID = true → t.refState k = 3 ∧
            Writes [.TIM_REF_STATUS k] [] s t) ∧
          (u.refFault k = false → s.refBit k F.TIM_REF_STATUS_FREQ_VALID = false → t = u)))) ∧
  (∀ s : State, StoresCanonical s → ∃ t, exec .freqEstimate s = .next t ∧ t.tim.t = s.tim.t ∧ ∀ k, k < 8 →
      t.refState k = s.refState k ∧
      (s.refState k = 0 → t.get (.TIM_REF_STATUS k) = s.get (.TIM_REF_STATUS k) ∧
        t.get (.TIM_REF_FREQ k) = s.get (.TIM_REF_FREQ k)) ∧
      (s.refState k = 2 → t.fld (.TIM_REF_STATUS k) F.TIM_REF_STATUS_REMAIN =
        s.fld (.TIM_REF_STATUS k) F.TIM_REF_STATUS_REMAIN - 1)) ∧
  (∀ (s : State) (p wrapped : Nat) (far : Bool), StoresCanonical s →
      (s.isPort p = false → exec (.phaseSample p wrapped far) s = .next s) ∧
      (s.isPort p = true → ∃ t, exec (.phaseSample p wrapped far) s = .next t ∧
        t.fld (.TIM_PORT_STATUS p) F.TIM_PORT_STATUS_PH_OOR = (if far then 1 else 0) ∧
        t.fld (.TIM_PORT_STATUS p) F.TIM_PORT_STATUS_PH_VALID = (if far = false ∧ s.laneState p = 6 then 1 else 0) ∧
        (far = false → s.laneState p = 6 → s.fld (.TIM_PORT_STATUS p) F.TIM_PORT_STATUS_PH_VALID = 0 →
          t.get (.TIM_PHASE p) = BitVec.ofNat 32 (wrapped % 16384)) ∧
        KeepsRegs [.TIM_PORT_STATUS p, .TIM_PHASE p] s t))

/-- With the state SWITCHING, an active engine, a qualified oscillator, the target READY and its sample taken: the
target is ACTIVE and named in ACTIVE, the state LOCKED, the switch counted. A frequency-only target keeps T and takes
its phase as zero. For a PPS or PTP target T is stepped by minus the phase where no alignment holds, and stays where
the phase is within a tenth of the threshold. Otherwise a phase jump is counted and either stepped or absorbed as
PJ_MODE says. Without these conditions nothing changes. A second LOCKED and SETTLED adds one value to the store, T
unchanged; otherwise none. HO_LIMIT hours in HOLDOVER set HO_EXPIRED once. Values that no register holds exactly are
one of the two integers beside the exact value (log 94). -/
def Obligations.SwitchingAndHoldover : Prop :=
  (∀ (s : State), (let k := s.fld .TIM_SEL_STATUS F.TIM_SEL_STATUS_TARGET
      s.selState ≠ 2 ∨ s.engineOn = false ∨ s.qualified = false ∨ s.refState k ≠ 3 ∨ s.switchSample k = none) → exec .switchCommit s = .next s) ∧
  (∀ (s : State) (k : Nat) (e : Int), StoresCanonical s → s.selState = 2 → s.engineOn = true → s.qualified = true →
      s.fld .TIM_SEL_STATUS F.TIM_SEL_STATUS_TARGET = k → k < 8 → s.refState k = 3 → s.switchSample k = some e →
      ∃ t, exec .switchCommit s = .next t ∧ t.selState = 3 ∧ t.refState k = 4 ∧
        t.fld .TIM_SEL_STATUS F.TIM_SEL_STATUS_ACTIVE = k ∧ t.fld .TIM_SEL_STATUS F.TIM_SEL_STATUS_ACTIVE_VALID = 1 ∧
        CountedOnce C.selSwitches s t ∧ t.tim.sel.i = -s.tim.sel.y ∧ t.tim.tick = s.tim.tick ∧
        (let free := s.refKind k ≠ 0 ∧ s.refKind k ≠ 4
         let aligned := s.fld .TIM_SEL_STATUS F.TIM_SEL_STATUS_ALIGNED = 1 ∧
           (s.refKind k = 0 ∨ s.fld .TIM_SAF_STATUS F.TIM_SAF_STATUS_TIME_SET = 1)
         let thresh := s.fld .TIM_SEL_CFG F.TIM_SEL_CFG_PJ_THRESH * 2 ^ 32
         let mode := s.fld .TIM_SEL_CFG F.TIM_SEL_CFG_PJ_MODE
         (free → t.tim.t = s.tim.t ∧ t.tim.stepSeq = s.tim.stepSeq) ∧
         (¬ free → ¬ aligned → t.tim.t = BitVec.ofInt 96 (s.t32 - e) ∧ t.tim.stepSeq = s.tim.stepSeq + 1 ∧
           t.fld .TIM_SEL_STATUS F.TIM_SEL_STATUS_ALIGNED = 1) ∧
         (¬ free → aligned → 10 * e.natAbs ≤ thresh → t.tim.t = s.tim.t ∧ t.tim.sel.aOff = 0) ∧
         (¬ free → aligned → thresh < 10 * e.natAbs → CountedOnce C.selPhaseJumps s t ∧
           t.fld .TIM_SEL_STATUS F.TIM_SEL_STATUS_PHASE_JUMP = 1 ∧
           (∃ v, e / 2 ^ 16 ≤ v ∧ (v - 1) * 2 ^ 16 < e ∧ t.get .TIM_PJ_LAST = sat32 v) ∧
           (mode = 0 → t.tim.t = BitVec.ofInt 96 (s.t32 - e)) ∧
           (mode ≠ 0 → t.tim.t = s.tim.t ∧ t.tim.sel.aOff = e ∧
             ∃ v, e / 2 ^ 16 ≤ v ∧ (v - 1) * 2 ^ 16 < e ∧ t.get .TIM_PJ_ABSORBED = sat32 v)))) ∧
  (∀ s : State, (s.selState ≠ 3 ∨ s.fld .TIM_SEL_STATUS F.TIM_SEL_STATUS_SETTLED = 0 ∨
      s.t32 < s.tim.sel.settledAt + sec32 → exec .holdoverStore s = .next s) ∧
      (s.selState = 3 → s.fld .TIM_SEL_STATUS F.TIM_SEL_STATUS_SETTLED = 1 → s.tim.sel.settledAt + sec32 ≤ s.t32 →
        ∃ t v, exec .holdoverStore s = .next t ∧ t.tim.t = s.tim.t ∧ t.tim.sel.store = (s.t32, v) ::
          s.tim.sel.store.filter fun x => decide (s.t32 - 86400 * sec32 < x.1))) ∧
  (∀ s : State, StoresCanonical s →
      let past := s.fld .TIM_HO_CFG F.TIM_HO_CFG_HO_LIMIT * 3600 * 1000000000 ≤ s.tim.tick - s.tim.sel.hoAt
      (s.selState ≠ 4 ∨ s.fld .TIM_SEL_STATUS F.TIM_SEL_STATUS_HO_EXPIRED = 1 ∨ ¬ past →
        exec .holdoverExpires s = .next s) ∧
      (s.selState = 4 → s.fld .TIM_SEL_STATUS F.TIM_SEL_STATUS_HO_EXPIRED = 0 → past → ∃ t, exec .holdoverExpires s = .next t ∧
        t.fld .TIM_SEL_STATUS F.TIM_SEL_STATUS_HO_EXPIRED = 1 ∧ CountedOnce (C.events Ev.holdoverExpired) s t ∧
        Signals [.TIM_SEL_STATUS] [] s t))

/-- With the settings in force: an edge of a channel that does not stamp, or of a polarity not selected, does nothing;
one before the first calibration is ignored, one within the hold-off, of the channel's own use and of its use as a
stop channel, is counted so. Otherwise it is stamped and counted, and in STAMP mode its time is a result, in a period
measurement it ends the open measurement with the pair's result and opens the next. A stop stamp that no open
measurement awaits is held by every channel that names the stop channel; one older than 1 µs is discarded and counted
for the channel that holds it; a measurement open longer than the limit ends with status TIMEOUT and the timebase of
its start stamp; the first gate of a RECIP channel begins at a multiple of GATE, and its end gives the pair, the
timebase of its last stamp and the count of edges, or status NO_SIGNAL with the timebase of the one stamp or of the
moment. A full FIFO loses the result, counted, with OVERFLOW. A read gives the oldest result and removes it, or status
EMPTY. A write of other settings closes what is open and waits for the next edge. The two hold-offs, the timebase of a
result without a pair, edges before calibration, and a stop stamp that several channels have are the model's choices
(logs 96, 97, 98, 142). -/
def Obligations.IntervalsMeasured : Prop :=
  (∀ (s : State) (k : Nat) (rising : Bool) (code : Nat), StoresCanonical s → skeysFrom none s.tic.chans = true → k < 16 →
      (∀ j, j < 16 → (s.chan j).cfg = s.get (.TIM_TIC_CFG j) ∧ (s.chan j).cfg2 = s.get (.TIM_TIC_CFG2 j) ∧
        (s.chan j).dirty = false) →
      let x := s.chan k
      let at' := s.stampNow k code rising (s.get (.TIM_TIC_DELAY k)).toInt
      let after (last : Option Int) (h : Nat) : Bool := match last with
        | some l => decide ((h : Int) ≤ at'.raw - l)
        | none => true
      let own := x.mode != 0 && after x.last (x.holdoff (x.fld F.TIM_TIC_CFG_PRESCALE))
      let stop := s.namedStop k && after x.lastStop (x.holdoff 0)
      (s.tim.ticking = false ∨ s.stamping k = false ∨ x.selects rising = false →
        exec (.ticEdge k rising code) s = .next s) ∧
      (s.tim.ticking = true → s.stamping k = true → x.selects rising = true →
        ((s.table k).done = false → exec (.ticEdge k rising code) s = .next (s.count (C.ticIgnored k))) ∧
        ((s.table k).done = true → own = false → stop = false → exec (.ticEdge k rising code) s = .next (s.count (C.ticHoldoff k))) ∧
        ((s.table k).done = true → own = true ∨ stop = true → ∃ t, exec (.ticEdge k rising code) s = .next t ∧
          CountedOnce (C.ticStamps k) s t ∧ (t.chan k).last = (if own then some at'.raw else x.last) ∧
          (t.chan k).lastStop = (if stop then some at'.raw else x.lastStop) ∧
          (own = true → x.mode = 1 → x.idx % 2 ^ x.fld F.TIM_TIC_CFG_PRESCALE = 0 →
            (x.fifo.length < 64 → (t.chan k).fifo = x.fifo ++
              [⟨0, s.timebase, false, 0, 0, x.form at' % 2 ^ 64, x.idx / 2 ^ x.fld F.TIM_TIC_CFG_PRESCALE % 2 ^ 32⟩]) ∧
            (64 ≤ x.fifo.length → (t.chan k).fifo = x.fifo ∧ CountedOnce (C.ticLost k) s t ∧
              t.fld (.TIM_TIC_STATUS k) F.TIM_TIC_STATUS_OVERFLOW = 1)) ∧
          (own = true → stop = true → x.mode = 2 → x.stopCh = k → x.fld F.TIM_TIC_CFG_EDGE ≠ 2 → (t.chan k).start = some at' ∧
            (∀ a, x.start = some a → x.fifo.length < 64 → (t.chan k).fifo = x.fifo ++ [s.pairResult x a at']))))) ∧
  (∀ (s : State) (k : Nat), StoresCanonical s → skeysFrom none s.tic.chans = true → k < 16 →
      let x := s.chan k
      let old (u : Stamp) : Bool := decide (usec16 < formDiff (s.formNow x) (x.form u))
      (x.mode ≠ 2 → exec (.stopStampExpires k) s = .next s) ∧
      (x.mode = 2 → ∃ t, exec (.stopStampExpires k) s = .next t ∧
        t.chan k = { x with stops := x.stops.filter fun u => !old u } ∧ (∀ j, j ≠ k → t.chan j = s.chan j) ∧
        CountedTimes (C.ticIgnored k) (x.stops.filter old).length s t ∧
        ∀ j, j < 16 → j ≠ k → t.counter (C.ticIgnored j) = s.counter (C.ticIgnored j)) ∧
      (∀ at' : Stamp, (∀ j, s.stopsFor k j at'.rising = true → (s.chan j).start = none) →
        ∀ j, j < 16 → ((s.stopStamp k at').chan j).stops =
          (if s.stopsFor k j at'.rising then (s.chan j).stops ++ [at'] else (s.chan j).stops)) ∧
      (x.start = none → exec (.intervalTimeout k) s = .next s) ∧
      (∀ a, x.start = some a →
        let open' := formDiff (s.formNow x) (x.form a)
        let limit : Int := 2 ^ (x.fld F.TIM_TIC_CFG_LIMIT_EXP + 16)
        (open' < limit → exec (.intervalTimeout k) s = .next s) ∧
        (limit ≤ open' → x.fifo.length < 64 → ∃ t r, exec (.intervalTimeout k) s = .next t ∧ r.status = 3 ∧ r.value = 0 ∧ r.tb = a.tb ∧
          t.chan k = { x with start := none, fifo := x.fifo ++ [r] })) ∧
      (x.mode ≠ 3 ∨ x.dirty = true ∨ s.formNow x < x.gateEnd ∨ x.gate ≤ 0 → exec (.recipGateEnd k) s = .next s) ∧
      (x.mode = 3 → x.dirty = false → x.gateEnd ≤ s.formNow x → 0 < x.gate → x.gated = false ∨ (s.table k).done = false →
        ∃ t, exec (.recipGateEnd k) s = .next t ∧ t.chan k =
          { x with gateEnd := (s.formNow x / x.gate + 1) * x.gate, gated := true, prev := none, cur := none, n := 0 }) ∧
      (x.mode = 3 → x.dirty = false → x.gateEnd ≤ s.formNow x → 0 < x.gate → x.gated = true → (s.table k).done = true →
        x.fifo.length < 64 → ∃ t r,
        exec (.recipGateEnd k) s = .next t ∧ (t.chan k).fifo = x.fifo ++ [r] ∧ (t.chan k).n = 0 ∧
        (t.chan k).gateEnd = (s.formNow x / x.gate + 1) * x.gate ∧
        (∀ a b, x.prev = some a → x.cur = some b → (t.chan k).prev = some b ∧
          (2 ^ 32 ≤ x.n → r.status = 5) ∧
          (x.n < 2 ^ 32 → r.status = 0 ∧ r.tb = b.tb ∧ r.value = formDiff (x.form b) (x.form a) ∧ r.count = x.n)) ∧
        (x.prev = none ∨ x.cur = none → r.status = 4 ∧ (t.chan k).prev = none ∧
          r.tb = ((x.prev.map Stamp.tb).getD s.timebase)))) ∧
  (∀ (s : State) (h k : Nat), StoresCanonical s → skeysFrom none s.tic.chans = true → ExpertWindow s h → k < 16 →
      ((s.chan k).fifo = [] → ∃ t, exec (.ticResultRead .window k) s = .next t ∧
        t.out = Output.readData 6#32 :: s.out ∧ t.get (.TIM_TIC_RES_L k) = 0 ∧ t.get (.TIM_TIC_RES_H k) = 0 ∧
        t.get (.TIM_TIC_RES_CNT k) = 0) ∧
      (∀ r rest, (s.chan k).fifo = r :: rest → r.status < 16 → r.tb < 4 → r.binA < 1024 → r.binB < 1024 → ∃ t w pre,
        exec (.ticResultRead .window k) s = .next t ∧ t.out = Output.readData w :: (pre ++ s.out) ∧
        (∀ o ∈ pre, ∃ n a d, o = Output.msix n a d) ∧ (t.chan k).fifo = rest ∧
        F.TIM_TIC_RES_ST_STATUS.get w = r.status ∧ F.TIM_TIC_RES_ST_TB.get w = r.tb ∧
        F.TIM_TIC_RES_ST_BIN_A.get w = r.binA ∧ F.TIM_TIC_RES_ST_BIN_B.get w = r.binB ∧
        t.get (.TIM_TIC_RES_L k) = (BitVec.ofInt 64 r.value).setWidth 32 ∧
        t.get (.TIM_TIC_RES_H k) = (BitVec.ofInt 64 r.value >>> 32).setWidth 32 ∧
        t.get (.TIM_TIC_RES_CNT k) = BitVec.ofNat 32 r.count)) ∧
  (∀ (s : State) (h k : Nat) (v : Word) (second : Bool), ExpertWindow s h →
      let r : Reg := if second then .TIM_TIC_CFG2 k else .TIM_TIC_CFG k
      Passes s h r v → let u := wrote s r v
      (u.get r = s.get r → exec (.ticCfgWrite .window k second v) s = .next u) ∧
      (u.get r ≠ s.get r → exec (.ticCfgWrite .window k second v) s = .next (u.putChan k { s.chan k with
        dirty := true, start := none, gated := false, prev := none, cur := none, n := 0 })))

/-- A rotation starts with the spare, position 20, measured in place and counted, unless it is frozen, under way, or
no tick runs; where no rotation is due, or with PERIOD = 0, only a position whose temperature has moved by TEMP_STEP
is served. A step of a position: with both stampers agreeing the spare serves it (ON_SPARE), else the failure is
counted and its table stays; then its edges move, its table is measured by the first source of R406 that succeeds, the
check takes the new table or keeps the old one, and the position returns from the spare. In place, the spare's table
decides SPARE_OK, and its failure raises TIC_SPARE_DOWN. With no position in work nothing happens. Every position
served has its table done at the end. What a failed calibration leaves, and which position is passed over, are the
model's choices (log 118). -/
def Obligations.StampersCalibrated : Prop :=
  (∀ (s : State), StoresCanonical s → skeysFrom none s.tic.tables = true →
      let may : Prop := s.tim.ticking = true ∧ s.calPos = 0x1F ∧ s.fld .HLT_HEALTH_CFG F.HLT_HEALTH_CFG_CAL_FREEZE = 0
      let period := s.fld .TIM_TIC_CAL_CFG F.TIM_TIC_CAL_CFG_PERIOD
      let step := s.fld .TIM_TIC_CAL_CFG F.TIM_TIC_CAL_CFG_TEMP_STEP
      (∀ due, ¬ may → exec (.calRotationStart [] due) s = .next s) ∧
      (may → period ≠ 0 → step = 0 → ∃ t, exec (.calRotationStart []) s = .next t ∧
        t.calPos = 20 ∧ t.calPhase = 6 ∧ CountedOnce C.ticCalRuns s t ∧ t.tic.todo = List.range 20) ∧
      (∀ due, may → due = false ∨ period = 0 → s.tic.todo = [] → (∀ q, q ≤ 20 → step = 0 ∨ (s.table q).moved < step * 8) → ∃ t,
        exec (.calRotationStart [] due) s = .next t ∧ t.calPos = 0x1F ∧ t.calPhase = 0 ∧ t.tic.tables = s.tic.tables) ∧
      (∀ p due, may → due = false ∨ period = 0 → step ≠ 0 → p ≤ 20 → step * 8 ≤ (s.table p).moved →
        (∀ q, q < p → (s.table q).moved < step * 8) → s.tic.first = true ∨ s.idlePos p = true → ∃ t,
        exec (.calRotationStart [] due) s = .next t ∧ t.calPos = p ∧ t.calPhase = 6 ∧ CountedOnce C.ticCalRuns s t)) ∧
  (∀ (s : State) (seen : CalSeen), StoresCanonical s → skeysFrom none s.tic.tables = true →
      let p := s.calPos
      let made := s.tryCal (s.table p) seen
      (20 < p → exec (.calStepDone seen []) s = .next s) ∧
      (p ≤ 20 → 1 ≤ s.calPhase → s.calPhase ≤ 6 → ∃ t, exec (.calStepDone seen []) s = .next t ∧
        (s.calPhase = 1 → (agree seen.diffs = true → t.calPhase = 2 ∧ t.calPos = p ∧
            (p < 16 → t.fld (.TIM_TIC_STATUS p) F.TIM_TIC_STATUS_ON_SPARE = 1)) ∧
          (agree seen.diffs = false → CountedOnce C.ticCalFails s t ∧ (t.table p).done = true ∧
            (t.table p).widths = (s.table p).widths)) ∧
        (s.calPhase = 2 → t.calPhase = 3 ∧ t.calPos = p) ∧
        (s.calPhase = 3 → t.calPhase = 4 ∧ t.tic.cand = made.1 ∧ (made.1 = none → CountedOnce C.ticCalFails s t)) ∧
        (s.calPhase = 4 → t.calPhase = 5 ∧ t.tic.cand = none ∧ (t.table p).done = true ∧
          (t.table p).doneAt = (if agree seen.diffs = true ∧ s.tic.cand.isSome = true then s.tim.tick else (s.table p).doneAt) ∧
          (t.table p).widths = (if agree seen.diffs then s.tic.cand.getD (s.table p) else s.table p).widths) ∧
        (s.calPhase = 5 → (p < 16 → t.fld (.TIM_TIC_STATUS p) F.TIM_TIC_STATUS_ON_SPARE = 0) ∧
          (t.table p).widths = (s.table p).widths) ∧
        (s.calPhase = 6 → (t.table p).done = true ∧ (t.table p).widths = (made.1.getD (s.table p)).widths ∧
          (p = 20 → t.fld .TIM_TIC_CAL_STATUS F.TIM_TIC_CAL_STATUS_SPARE_OK = (if made.1.isSome then 1 else 0) ∧
            t.raised Ev.ticSpareDown 0 = !made.1.isSome))))

/-- A lockstep mismatch (cause 0), an uncorrectable error in the active steward's memory, found in use or by the scrub
(cause 1), and a due rotation (cause 3), while no hand-over is due and no STEWARD_LOST holds: one give-up more of the
active steward is counted. With STANDBY_OK = 1 the hand-over is due with the cause, and nothing else changes. With
STANDBY_OK = 0 LOST becomes 1, the condition STEWARD_LOST is raised (its event counted if it was not raised), ACTIVE
and the two STATE fields keep their values, and every request that stands is answered STATE; where none stands only
signalling follows. A rotation with ROTATE = 0 or with STANDBY_OK = 0 does nothing. A SWAP written with STANDBY_OK = 1
gives up with cause 2, without it the write has no effect. What waits between a give-up and the take-over, and where a
cycle's outputs stand, are the model's choices (logs 102, 103). The take-over that the steward strobe runs: the other
steward becomes active, STW_HANDOVERS and the event STEWARD_HANDOVER count one each; for causes 0 and 1 the former
active steward is in self-test and STANDBY_OK is 0; for causes 2 and 3 it becomes standby again with STANDBY_OK = 1 if
it gave up fewer than 3 times in the last 24 h, and otherwise it stays out. The strobe before the tick runs is exactly
this take-over, counted towards the servo strobe, and what waited for it then goes on. While the take-over is awaited,
an access through the window of what the channel hardware does not serve waits; after it the accesses that waited are
performed in order (R424). When the former active steward returns, and what waits, are the model's reading (logs 102,
103). The end of the self-test decides by the same rule. A standby that fails its periodic test is out, one that
passes changes nothing. A missing acknowledgement clears STANDBY_OK. The 1 s timer raises STEWARD_SINGLE for the
steward that is not active, and STANDBY_OK = 1 leaves no instance of it raised. -/
def Obligations.StewardFailsOver : Prop :=
  ((∀ (s : State) (c : Instr) (cause : Nat), StoresCanonical s → s.pair.cause = none →
      s.fld .STW_PAIR_STATUS F.STW_PAIR_STATUS_LOST = 0 →
      ((c = .stewardLockstepMismatch ∧ cause = 0) ∨ (c = .stewardMemoryError ∧ cause = 1) ∨
        (c = .memoryScrub .activeBad ∧ cause = 1) ∨
        (c = .stewardRotation ∧ cause = 3 ∧ s.standbyOk = true ∧
          s.fld .STW_PAIR_CFG F.STW_PAIR_CFG_ROTATE ≠ 0)) →
      let a := s.activeStw
      ∃ t, exec c s = .next t ∧ t.giveUps a = s.giveUps a + 1 ∧ t.giveUps (1 - a) = s.giveUps (1 - a) ∧
        (s.standbyOk = true → t = { s with pair := t.pair } ∧ t.pair.cause = some cause) ∧
        (s.standbyOk = false → t.pair.cause = none ∧ t.fld .STW_PAIR_STATUS F.STW_PAIR_STATUS_LOST = 1 ∧
          t.raised Ev.stewardLost 0 = true ∧ t.activeStw = a ∧ (∀ w, t.pairFld (stwFld w) = s.pairFld (stwFld w)) ∧
          (∀ c, c < 8 → t.fld (.HST_MBX_DOORBELL c) F.HST_MBX_DOORBELL_GO = 0 ∧
            (s.fld (.HST_MBX_DOORBELL c) F.HST_MBX_DOORBELL_GO = 1 →
              t.get (.HST_MBX_RSP c 0) = BitVec.ofNat 32 Stat.state ∧
              t.fld (.HST_MBX_DOORBELL c) F.HST_MBX_DOORBELL_DONE = 1)) ∧
          (s.mbx.queue.length ≤ 16 → t.mbx.queue = []) ∧
          ((∀ c, c < 8 → s.fld (.HST_MBX_DOORBELL c) F.HST_MBX_DOORBELL_GO = 0) → s.mbx.queue = [] →
            Signals [.STW_PAIR_STATUS] [] { s with pair := t.pair, jobs := t.jobs, flash := t.flash } t) ∧
          (s.raised Ev.stewardLost 0 = false → CountedOnce (C.events Ev.stewardLost) s t))) ∧
  (∀ s : State, s.standbyOk = false ∨ s.fld .STW_PAIR_CFG F.STW_PAIR_CFG_ROTATE = 0 →
      exec .stewardRotation s = .next s) ∧
  (∀ (s : State) (h : Nat) (v : Word), StoresCanonical s → ExpertWindow s h → Passes s h .STW_PAIR_CTL v →
      F.STW_PAIR_CTL_SWAP.get v = 1 → let u := wrote s .STW_PAIR_CTL v
      (u.standbyOk = true → u.pair.cause = none → ∃ t, exec (.stewardSwap .window v) s = .next t ∧
        t = { u with pair := t.pair } ∧ t.pair.cause = some 2 ∧ t.giveUps u.activeStw = u.giveUps u.activeStw + 1) ∧
      (u.standbyOk = false → exec (.stewardSwap .window v) s = .next u))) ∧
  ((∀ (s : State) (c : Nat), StoresCanonical s → s.pair.cause = some c →
      let a := s.activeStw
      let t := s.takeover
      t.activeStw = 1 - a ∧ t.pairFld (stwFld (1 - a)) = 0 ∧ t.pair.cause = none ∧
      (∀ w, t.giveUps w = s.giveUps w) ∧ CountedOnce C.handovers s t ∧
      CountedOnce (C.events Ev.stewardHandover) s t ∧
      Signals [.STW_PAIR_STATUS] [C.handovers] { s with pair := t.pair } t ∧
      (if c ≤ 1 then t.pairFld (stwFld a) = 2 ∧ t.standbyOk = false
       else if s.giveUps a < 3 then t.pairFld (stwFld a) = 1 ∧ t.standbyOk = true ∧
         ∀ i, t.raised Ev.stewardSingle i = false
       else t.pairFld (stwFld a) = 3 ∧ t.standbyOk = false)) ∧
  (∀ (s : State) (offs : List Int), s.tim.ticking = false → s.boot.begun = true →
      let u : State := { s with tim := { s.tim with strobes := s.tim.strobes + 1 } }
      (s.pair.cause = none → exec (.stewardStrobe offs) s = .next u) ∧
      (s.pair.cause ≠ none → exec (.stewardStrobe offs) s = .next u.takeover.resumeWork)) ∧
  (∀ (s : State) (a : Nat) (v : Word), s.stepTwoDone = true → s.halted = false → s.stewardLost = false → s.pair.cause ≠ none →
      (∀ r, decodeAddr a = some r → r.channel = false ∧ r.identity = false) →
      exec (.windowRead a) s = .next { s with pair := { s.pair with waiting := s.pair.waiting ++ [(a, none)] } } ∧
      (s.boot.resetReq = none → exec (.registerWrite .window a v true) s =
        .next { s with pair := { s.pair with waiting := s.pair.waiting ++ [(a, some v)] } })) ∧
  (∀ s : State, s.jobs = [] → s.mbx.queue = [] → (∀ c, c < 8 → s.fld (.HST_MBX_DOORBELL c) F.HST_MBX_DOORBELL_GO = 0) →
      let u : State := { s with pair := { s.pair with waiting := [] } }
      s.resumeWork = State.takeReset (s.pair.waiting.foldl (fun t x => match x.2 with
        | some w => t.pathWrite .window x.1 w
        | none => t.readOut .window x.1) u)) ∧
  (∀ (s : State) (pass : Bool), StoresCanonical s →
      let w := 1 - s.activeStw
      s.pairFld (stwFld w) = 2 → ∃ t, exec (.stewardSelftestDone pass) s = .next t ∧ Signals [.STW_PAIR_STATUS] [] s t ∧
      t.activeStw = s.activeStw ∧
      (if pass = true ∧ s.giveUps w < 3 then t.pairFld (stwFld w) = 1 ∧ t.standbyOk = true ∧
         ∀ i, t.raised Ev.stewardSingle i = false
       else t.pairFld (stwFld w) = 3 ∧ t.standbyOk = s.standbyOk)) ∧
  (∀ s : State, StoresCanonical s →
      let w := 1 - s.activeStw
      s.pairFld (stwFld w) = 1 → exec (.standbySelftest true) s = .next s ∧
      ∃ t, exec (.standbySelftest false) s = .next t ∧ Writes [.STW_PAIR_STATUS] [] s t ∧ t.activeStw = s.activeStw ∧
        t.pairFld (stwFld w) = 3 ∧ t.standbyOk = false) ∧
  (∀ s : State, StoresCanonical s → ∃ t, exec .standbyAckTimeout s = .next t ∧ t.standbyOk = false ∧
      Writes [.STW_PAIR_STATUS] [] s t ∧ t.activeStw = s.activeStw ∧ ∀ w, t.pairFld (stwFld w) = s.pairFld (stwFld w)) ∧
  (∀ s : State, StoresCanonical s → (s.standbyOk = true → exec .stewardSingleTimer s = .next s) ∧
      (s.standbyOk = false → ∃ t, exec .stewardSingleTimer s = .next t ∧
        t.raised Ev.stewardSingle (1 - s.activeStw) = true ∧ Signals [] [] s t)))

/-- A corrected error of steward memory and a repaired table row are one event SCRUB_REPAIR each, with INSTANCE 0xFF
or the table and DETAIL the row. A spare, or a unit awaiting its return, that fails its test is retired, and no other
unit changes its place; with CAL_FREEZE = 1 nothing happens. A standby engine that fails its test is out of service
(state 2), STANDBY_OK is 0 and SAFFRON_SINGLE is raised for it; one that passes changes nothing. A sensor check sets
VALID of every sensor by whether it failed, keeps every reading, and counts one SELFTEST_FAIL where one sensor failed.
An uncorrectable error found in the standby steward's memory takes the standby out: its state becomes 2 (self-test)
and STANDBY_OK 0, until STEWARD_SELFTEST_DONE ends its copy (the model's reading, log entry 103). A reading of a
sensor with VALID = 1, as the sensor's new TEMP: at or above WARN the sensor's TEMP_HIGH is raised, at or above CRIT
its TEMP_CRIT. When every valid sensor reads at or below a limit less 5 °C, no instance of that code is raised.
Otherwise the raised instances of the code stay as they are. With TEMP_CRIT raised and the pins no longer held, and
outside scan hold, TEMP_N and FAULT_N are low. A reading of a sensor with VALID = 0 raises nothing. -/
def Obligations.ScrubsTestsTemperatures : Prop :=
  ((∀ s : State, exec (.memoryScrub .corrected) s = .next (s.event Ev.scrubRepair 0xFF 0) ∧
      ∀ table row, exec (.rowScrub table row) s = .next (s.event Ev.scrubRepair table row)) ∧
  (∀ s : State, StoresCanonical s →
      let w := 1 - s.activeStw
      s.pairFld (stwFld w) = 1 → s.pair.cause = none → ∃ t, exec (.memoryScrub .standbyBad) s = .next t ∧
        Writes [.STW_PAIR_STATUS] [] s t ∧ t.activeStw = s.activeStw ∧ t.pairFld (stwFld w) = 2 ∧ t.standbyOk = false) ∧
  (∀ (s : State) (failed : List (Nat × Nat)), skeysFrom none s.hlt.units = true → (∀ x ∈ failed, x.2 < 2 ^ 16) →
      ∃ t, exec (.spareSelftest failed) s = .next t ∧ Signals [] [] s t ∧
      (s.fld .HLT_HEALTH_CFG F.HLT_HEALTH_CFG_CAL_FREEZE = 1 → t = s) ∧
      (s.fld .HLT_HEALTH_CFG F.HLT_HEALTH_CFG_CAL_FREEZE = 0 → ∀ kind idx, idx < 2 ^ 16 →
        t.unit kind idx = if (kind, idx) ∈ failed ∧ (s.unit kind idx = .spare ∨ s.unit kind idx = .testing) then .retired
          else s.unit kind idx)) ∧
  (∀ s : State, exec (.engineStandbySelftest true) s = .next s) ∧
  (∀ s : State, StoresCanonical s → s.engineOn = true → s.fld .TIM_SAF_STATUS F.TIM_SAF_STATUS_ACTIVE ≤ 1 →
      let e := 1 - s.fld .TIM_SAF_STATUS F.TIM_SAF_STATUS_ACTIVE
      s.fld .TIM_SAF_STATUS (engFld e) = 1 → ∃ t, exec (.engineStandbySelftest false) s = .next t ∧ t.fld .TIM_SAF_STATUS (engFld e) = 2 ∧
        t.fld .TIM_SAF_STATUS F.TIM_SAF_STATUS_STANDBY_OK = 0 ∧ t.raised Ev.saffronSingle e = true ∧
        t.fld .TIM_SAF_STATUS F.TIM_SAF_STATUS_ACTIVE = s.fld .TIM_SAF_STATUS F.TIM_SAF_STATUS_ACTIVE ∧
        Signals [.TIM_SAF_STATUS] [] { s with tim := { s.tim with standby := none } } t) ∧
  (∀ (s : State) (failed : List Nat), StoresCanonical s →
      ∃ t, exec (.sensorCheck failed) s = .next t ∧ Signals ((List.range 32).map Reg.HLT_TEMP) [] s t ∧
      (∀ i, i < 32 → t.fld (.HLT_TEMP i) F.HLT_TEMP_VALID = (if i ∈ failed then 0 else 1) ∧ t.tempOf i = s.tempOf i) ∧
      (∀ i, i < 32 → failed = [i] → CountedOnce (C.events Ev.selftestFail) s t))) ∧
  (∀ (s : State) (i : Nat) (e : Int), StoresCanonical s → i < 32 → -2048 ≤ e → e < 2048 →
    let warn := s.fld .HLT_TEMP_CFG F.HLT_TEMP_CFG_WARN
    let crit := s.fld .HLT_TEMP_CFG F.HLT_TEMP_CFG_CRIT
    let valid (j : Nat) : Prop := s.fld (.HLT_TEMP j) F.HLT_TEMP_VALID = 1
    ∃ t, exec (.tempReading i e) s = .next t ∧ t.tempOf i = e ∧ (∀ j, j < 32 → j ≠ i → t.tempOf j = s.tempOf j) ∧
      Signals [.HLT_TEMP i] [] s t ∧
      (valid i → (warn * 8 : Int) ≤ e → t.raised Ev.tempHigh i = true) ∧
      (valid i → (crit * 8 : Int) ≤ e → t.raised Ev.tempCrit i = true ∧
        (s.pinsHeld = false → s.boot.scanHold = false → t.tempNLow = true ∧ t.faultNLow = true)) ∧
      ((∀ j, j < 32 → valid j → t.tempOf j ≤ (warn * 8 : Int) - 40) → ∀ j, t.raised Ev.tempHigh j = false) ∧
      ((∀ j, j < 32 → valid j → t.tempOf j ≤ (crit * 8 : Int) - 40) → ∀ j, t.raised Ev.tempCrit j = false) ∧
      (¬ valid i ∨ e < (warn * 8 : Int) → (∃ j, j < 32 ∧ valid j ∧ (warn * 8 : Int) - 40 < t.tempOf j) →
        ∀ j, t.raised Ev.tempHigh j = s.raised Ev.tempHigh j) ∧
      (¬ valid i ∨ e < (crit * 8 : Int) → (∃ j, j < 32 ∧ valid j ∧ (crit * 8 : Int) - 40 < t.tempOf j) →
        ∀ j, t.raised Ev.tempCrit j = s.raised Ev.tempCrit j))

/-- Every window completes and changes units, runs, counts and events only. In a window of one peer group (kind below
8, its group within the pool layout) a unit that exceeds THRESH / 64 of its nominal cycle time has its run above one
longer, every other its run above 0 and its run below one longer (at most 100), and a 100th window below clears its
STRAGGLER_NO_SPARE. A run that has reached HOLD is due once. If no unit is due, none moves. If one unit alone is due,
an active unit with a spare in its pool is swapped: it is under test, the lowest spare is active under its logical
number, HLT_STRAGGLERS, HLT_SWAPS and the event STRAGGLER_SWAP count one each, and SPARES_EXHAUSTED is raised for the
pool if no spare is left. Without a spare the unit stays active, HLT_STRAGGLERS counts and STRAGGLER_NO_SPARE occurs
and is raised. A unit under test comes back as a spare, with SPARES_EXHAUSTED of its pool no longer raised, if it
passes, every probe stays within 1.10 of nominal, RESPARE = 1 and it was swapped out fewer than 3 times; otherwise it
is retired. UNIT_STALLED counts once. Every frame held, in a parse pipeline those dealt to it that have not left it,
in another unit those with a token in it, is marked bad, and its replicas leave the device. An active unit that has a
spare is under test and the spare active under its logical number; one that has none stays active and
STRAGGLER_NO_SPARE is raised; a unit that is not active moves no unit. Without frames held nothing else changes,
except that where a buffer bank stalls, the copy of its rows is not begun, and in every frame the cells that lie in
that bank are lost. A frame held in a parse pipeline, in the device without references, leaves it, counted in
PIP_DROPS of its ingress port. Which frames a unit holds, and that this swap is no straggler's, are the model's
choices (log 80). -/
def Obligations.SumacSwapsUnits : Prop :=
  ((∀ (s : State) (groups : List CycleGroup), StoresCanonical s → ∃ t, exec (.sumacWindow groups) s = .next t ∧
      Signals [] [C.stragglers, C.swaps] { s with swc := { s.swc with bankCopy := t.swc.bankCopy } } t) ∧
  (∀ (s : State) (g : CycleGroup), skeysFrom none s.cnt = true → skeysFrom none s.hlt.units = true →
      skeysFrom none s.hlt.logical = true → skeysFrom none s.hlt.aboveRun = true → skeysFrom none s.hlt.belowRun = true →
      skeysFrom none s.hlt.swaps = true → g.kind < 8 → g.times.length = peerSize g.kind →
      g.group < (if g.kind = 0 then 8 else if g.kind = 1 then 16 else 1) →
      let n := peerSize g.kind
      let idx (i : Nat) : Nat := g.group * n + i
      let key (i : Nat) : Nat := unitKey g.kind (idx i)
      let above (i : Nat) : Prop := s.fld .HLT_SUMAC_CFG F.HLT_SUMAC_CFG_THRESH * Config.fusedRatio g.kind (idx i) *
        median2 g.times < g.times.getD i 0 * 2 * 64 * 65536
      let due (i : Nat) : Prop := above i ∧ key i ∉ s.hlt.declared ∧
        s.fld .HLT_SUMAC_CFG F.HLT_SUMAC_CFG_HOLD ≤ sgetD s.hlt.aboveRun (key i) 0 + 1
      ∃ t, exec (.sumacWindow [g]) s = .next t ∧
        ((∀ i, i < n → ¬ due i) → Signals [] [] s t ∧ t.hlt.units = s.hlt.units ∧ ∀ i, i < n →
          (¬ above i → sgetD t.hlt.aboveRun (key i) 0 = 0 ∧ key i ∉ t.hlt.declared ∧
            sgetD t.hlt.belowRun (key i) 0 = min 100 (sgetD s.hlt.belowRun (key i) 0 + 1) ∧
            (99 ≤ sgetD s.hlt.belowRun (key i) 0 → t.raised Ev.stragglerNoSpare (unitInst g.kind (idx i)) = false)) ∧
          (above i → sgetD t.hlt.aboveRun (key i) 0 = sgetD s.hlt.aboveRun (key i) 0 + 1 ∧
            sgetD t.hlt.belowRun (key i) 0 = 0 ∧ (key i ∈ t.hlt.declared ↔ key i ∈ s.hlt.declared))) ∧
        (∀ j sp, j < n → due j → (∀ i, i < n → i ≠ j → ¬ due i) → s.unit g.kind (idx j) = .active →
          s.spareOf g.kind (poolOf g.kind (idx j)) = some sp →
          t.unit g.kind (idx j) = .testing ∧ t.unit g.kind sp = .active ∧
          (∀ u, u < 2 ^ 16 → u ≠ idx j → u ≠ sp → t.unit g.kind u = s.unit g.kind u) ∧
          t.logicalOf g.kind sp = s.logicalOf g.kind (idx j) ∧ CountedOnce C.stragglers s t ∧ CountedOnce C.swaps s t ∧
          CountedOnce (C.events Ev.stragglerSwap) s t ∧
          (g.kind = 1 → t.swc.bankCopy = s.swc.bankCopy ++ [(idx j, sp)]) ∧
          (t.spareOf g.kind (poolOf g.kind (idx j)) = none →
            t.raised Ev.sparesExhausted (unitInst g.kind (poolOf g.kind (idx j))) = true)) ∧
        (∀ j, j < n → due j → (∀ i, i < n → i ≠ j → ¬ due i) → s.unit g.kind (idx j) = .active →
          s.spareOf g.kind (poolOf g.kind (idx j)) = none →
          t.hlt.units = s.hlt.units ∧ key j ∈ t.hlt.declared ∧ CountedOnce C.stragglers s t ∧
          CountedOnce (C.events Ev.stragglerNoSpare) s t ∧
          t.raised Ev.stragglerNoSpare (unitInst g.kind (idx j)) = true ∧ Signals [] [C.stragglers] s t)) ∧
  (∀ (s : State) (kind idx : Nat) (pass : Bool) (probes : List (Nat × List Nat)), skeysFrom none s.hlt.units = true →
      kind < 8 → idx < 2 ^ 16 → ∃ t, exec (.unitSelftestDone kind idx pass probes) s = .next t ∧ Signals [] [] s t ∧
      (∀ k u, u < 2 ^ 16 → (k, u) ≠ (kind, idx) → t.unit k u = s.unit k u) ∧
      (s.unit kind idx ≠ .testing → t = s) ∧
      (s.unit kind idx = .testing →
        if pass = true ∧ s.fld .HLT_SUMAC_CFG F.HLT_SUMAC_CFG_RESPARE = 1 ∧ sgetD s.hlt.swaps (unitKey kind idx) 0 < 3 ∧
            (∀ x ∈ probes, 10 * 2 * 65536 * x.1 ≤ 11 * Config.fusedRatio kind idx * median2 x.2) then
          t.unit kind idx = .spare ∧ t.raised Ev.sparesExhausted (unitInst kind (poolOf kind idx)) = false
        else t.unit kind idx = .retired))) ∧
  ((∀ (s : State) (kind idx : Nat) (tokens : List Nat), StoresCanonical s → FramesInRange s →
      skeysFrom none s.hlt.units = true → skeysFrom none s.hlt.logical = true → kind < 8 → idx < 2 ^ 16 →
      let held (id : Nat) : Prop := if kind = 0 then ∃ f, s.frame id = some f ∧ f.stage = Stage.admitted ∧ f.pipe = idx
        else id ∈ tokens
      ∃ t, exec (.unitStalled kind idx tokens) s = .next t ∧ CountedOnce (C.events Ev.unitStalled) s t ∧
        (∀ id f, held id → s.frame id = some f → (∀ g, t.frame id = some g → g.bad = true) ∧
          ∀ k r, s.rep k = some r → r.frame = id → t.rep k = none) ∧
        (s.unit kind idx ≠ .active → t.hlt.units = s.hlt.units ∧ t.swc.bankCopy = s.swc.bankCopy ∧
          t.counter C.swaps = s.counter C.swaps) ∧
        (∀ sp, s.unit kind idx = .active → s.spareOf kind (poolOf kind idx) = some sp →
          t.unit kind idx = .testing ∧ t.unit kind sp = .active ∧ t.logicalOf kind sp = s.logicalOf kind idx ∧
          (∀ u, u < 2 ^ 16 → u ≠ idx → u ≠ sp → t.unit kind u = s.unit kind u) ∧ CountedOnce C.swaps s t) ∧
        (s.unit kind idx = .active → s.spareOf kind (poolOf kind idx) = none → t.hlt.units = s.hlt.units ∧
          t.raised Ev.stragglerNoSpare (unitInst kind idx) = true ∧ t.counter C.swaps = s.counter C.swaps)) ∧
  (∀ (s : State) (kind idx : Nat), skeysFrom none s.hlt.units = true → skeysFrom none s.hlt.logical = true → kind < 8 →
      idx < 2 ^ 16 → s.unit kind idx = .active → (∀ x ∈ s.swc.bankCopy, x.1 ≠ idx) →
      (kind = 0 → ∀ id f, s.frame id = some f → f.stage ≠ Stage.admitted ∨ f.pipe ≠ idx) → StoresCanonical s →
      ∃ t, exec (.unitStalled kind idx []) s = .next t ∧
        t.swc.bankCopy = s.swc.bankCopy ∧ t.reps = s.reps ∧
        (kind ≠ 1 → t.frames = s.frames) ∧
        (kind = 1 → t.frames.map Prod.fst = s.frames.map Prod.fst ∧ ∀ id f, s.frame id = some f → ∃ g, t.frame id = some g ∧
          ∀ c, c ∈ g.gone ↔ c ∈ f.gone ∨ (c < f.cells.length ∧ f.pool ≠ some .spill ∧
            f.cells.getD c 0 / 2048 = s.logicalOf kind idx)) ∧
        Signals [] [C.swaps] { s with frames := t.frames } t) ∧
  (∀ (s : State) (idx id : Nat) (f : Frame) (tokens : List Nat), StoresCanonical s → FramesInRange s →
      s.unit 0 idx = .retired → s.frame id = some f → f.fromHost = false → s.refs id = 0 → f.ended = true →
      f.stage = Stage.admitted → f.pipe = idx →
      (∀ k g, s.frame k = some g → k ≠ id → (g.stage ≠ Stage.admitted ∨ g.pipe ≠ idx) ∧
        (g.port = f.port → g.stage ≠ Stage.dpi ∧ g.stage ≠ Stage.recirc)) →
      ∃ t, exec (.unitStalled 0 idx tokens) s = .next t ∧ t.frame id = none ∧ (∀ k, k ≠ id → t.frame k = s.frame k) ∧
        t.reps = s.reps ∧ CountedOnce (C.pipDrops f.port) s t))

/-- The margin of a resource is what its active units take in 100 µs (each that time over its cycle time, the model's
reading, log 145) divided by the demand, less 1; a resource whose demand is below 25 % of that is left out. An
evaluation after start-up step 9 with EN = 1 and the regulator answering, over resources named once, w having the
smallest margin: HLT_MARGIN shows the margin, rounded either way, kind and index of w. Below UP the request grows by 5
mV up to CEIL and HLT_AVS_STEPS_UP counts; at or above DOWN for the 100th evaluation in a row it falls by 5 mV down to
FLOOR and HLT_AVS_STEPS_DOWN counts; each new request goes to the regulator; otherwise it stays. A resource without a
spare whose margin was below 0 ten times in a row while the request equals CEIL has RATE_LIMIT raised; one whose
margin was 0 or more for 1,000 evaluations, and every resource while AT_CEIL is 0, has not. Before that step ends, and
with every resource left out, an evaluation leaves the request and its counts. A reading sets READBACK; the third
failed transaction in a row sets NO_RESPONSE and raises AVS_NO_RESPONSE; the first success of a retry clears both.
Roundings and when a step counts are the model's choices (logs 94, 104). -/
def Obligations.VoltageFollowsMargin : Prop :=
  (∀ (s : State) (d : Demand), let c := capacity ((d.times.filter fun x => s.unit d.kind x.1 == UnitSt.active).map Prod.snd)
      (d.tokens = 0 ∨ 4 * d.tokens * c.2 < c.1 → s.marginOf d = none) ∧
      (d.tokens ≠ 0 → c.1 ≤ 4 * d.tokens * c.2 →
        s.marginOf d = some ⟨d.kind, d.index, (c.1 : Int) - (d.tokens * c.2 : Nat), d.tokens * c.2⟩)) ∧
  (capacity [] = (0, 1) ∧ ∀ (x : Nat) (l : List Nat), 0 < x →
      (capacity (x :: l)).1 = (capacity l).1 * x + (capacity l).2 * 100000000 ∧ (capacity (x :: l)).2 = (capacity l).2 * x) ∧
  (∀ (s : State) (ds : List Demand) (w : Margin), StoresCanonical s → skeysFrom none s.hlt.neg = true →
      skeysFrom none s.hlt.nonneg = true → let ms := ds.filterMap s.marginOf
      worst ms = some w → ms.Pairwise (fun x y => (x.kind, x.index) ≠ (y.kind, y.index)) →
      (∀ m ∈ ms, m.kind < 8 ∧ m.index < 4096 ∧ 0 < m.den) →
      s.avs F.HLT_AVS_STATUS_NO_RESPONSE = 0 → s.avsCfg F.HLT_AVS_CFG_EN = 1 → s.running = true →
      let req := s.avs F.HLT_AVS_STATUS_REQUEST
      let lo := s.avsCfg F.HLT_AVS_CFG_FLOOR
      let hi := s.avsCfg F.HLT_AVS_CFG_CEIL
      let up := s.avsCfg F.HLT_AVS_CFG_UP
      let down := s.avsCfg F.HLT_AVS_CFG_DOWN
      let low : Prop := 100 * w.num < (up * w.den : Int)
      let high : Prop := (down * w.den : Int) ≤ 100 * w.num
      lo ≤ req → req ≤ hi → up < down → (∀ m ∈ ms, w.num * m.den ≤ m.num * w.den) ∧
      ∃ t v, exec (.avsEval ds) s = .next t ∧
        Signals [.HLT_MARGIN, .HLT_AVS_STATUS] [C.avsUp, C.avsDown] { s with free := t.free } t ∧
        v * w.den - w.den < 10000 * w.num ∧ 10000 * w.num < v * w.den + w.den ∧
        F.HLT_MARGIN_MARGIN.sget (t.get .HLT_MARGIN) = max (-32768) (min 32766 v) ∧
        t.fld .HLT_MARGIN F.HLT_MARGIN_KIND = w.kind ∧ t.fld .HLT_MARGIN F.HLT_MARGIN_INDEX = w.index ∧
        (low → req < hi → t.avs F.HLT_AVS_STATUS_REQUEST = min hi (req + 5) ∧ Output.avs (min hi (req + 5)) ∈ t.out ∧
          CountedOnce C.avsUp s t ∧ t.avs F.HLT_AVS_STATUS_AT_CEIL = if min hi (req + 5) = hi then 1 else 0) ∧
        (high → 99 ≤ s.hlt.downRun → lo < req → t.avs F.HLT_AVS_STATUS_REQUEST = max lo (req - 5) ∧
          Output.avs (max lo (req - 5)) ∈ t.out ∧ CountedOnce C.avsDown s t) ∧
        (¬ low → ¬ high ∨ s.hlt.downRun < 99 ∨ lo = req →
          t.avs F.HLT_AVS_STATUS_REQUEST = req ∧ t.counter C.avsUp = s.counter C.avsUp ∧
          t.counter C.avsDown = s.counter C.avsDown) ∧
        (∀ m ∈ ms, m.num < 0 → t.avs F.HLT_AVS_STATUS_AT_CEIL = 1 → 9 ≤ sgetD s.hlt.neg (unitKey m.kind m.index) 0 →
          s.spareOf m.kind (resourcePool m.kind m.index) = none → t.raised Ev.rateLimit (unitInst m.kind m.index) = true) ∧
        (∀ m ∈ ms, (0 ≤ m.num ∧ 999 ≤ sgetD s.hlt.nonneg (unitKey m.kind m.index) 0) ∨
          t.avs F.HLT_AVS_STATUS_AT_CEIL = 0 → t.raised Ev.rateLimit (unitInst m.kind m.index) = false)) ∧
  (∀ (s : State) (ds : List Demand), StoresCanonical s →
      s.running = false ∨ (ds.filterMap s.marginOf = [] ∧ s.avsCfg F.HLT_AVS_CFG_EN = 1) → ∃ t, exec (.avsEval ds) s = .next t ∧
        t.get .HLT_AVS_STATUS = s.get .HLT_AVS_STATUS ∧
        t.counter C.avsUp = s.counter C.avsUp ∧ t.counter C.avsDown = s.counter C.avsDown ∧
        (ds.filterMap s.marginOf = [] → t.fld .HLT_MARGIN F.HLT_MARGIN_MARGIN = 0x7FFF)) ∧
  (∀ (s : State) (mv : Nat), StoresCanonical s → mv < 1024 →
      (s.avs F.HLT_AVS_STATUS_NO_RESPONSE = 0 → ∃ t, exec (.avsReadback (some mv)) s = .next t ∧
        t.avs F.HLT_AVS_STATUS_READBACK = mv ∧ t.avs F.HLT_AVS_STATUS_REQUEST = s.avs F.HLT_AVS_STATUS_REQUEST ∧
        t.hlt.avsFails = 0 ∧ Signals [.HLT_AVS_STATUS] [] s t) ∧
      (s.avs F.HLT_AVS_STATUS_NO_RESPONSE = 1 → ∃ t, exec (.avsRetry (some mv)) s = .next t ∧
        t.avs F.HLT_AVS_STATUS_READBACK = mv ∧ t.avs F.HLT_AVS_STATUS_NO_RESPONSE = 0 ∧ t.hlt.avsFails = 0 ∧
        t.raised Ev.avsNoResponse 0 = false ∧ Signals [.HLT_AVS_STATUS] [] s t)) ∧
  (∀ s : State, StoresCanonical s → s.avs F.HLT_AVS_STATUS_NO_RESPONSE = 0 → exec (.avsRetry none) s = .next s ∧
      ∃ t, exec (.avsReadback none) s = .next t ∧ t.hlt.avsFails = s.hlt.avsFails + 1 ∧
        Signals [.HLT_AVS_STATUS] [] s t ∧
        t.avs F.HLT_AVS_STATUS_NO_RESPONSE = (if 2 ≤ s.hlt.avsFails then 1 else 0) ∧
        (2 ≤ s.hlt.avsFails → t.raised Ev.avsNoResponse 0 = true))

/-- By an Expert session's window, with a value that passes the checks of a write. EN = 1 in STOPPED: the ring is
RUNNING, its word is the one written, and HEAD, CPTR, TAIL and ACK are 0. EN = 0 in RUNNING or ERROR: the ring is
STOPPING; a receive ring's delivery queue is empty and HST_RX_DROPS has counted every item; a held transmit frame is
completed ABORTED and leaves. STOPPING with every completion written: STOPPED; otherwise nothing changes. A DMA
failure in RUNNING: ERROR with ERR, HST_DMA_ERRORS counts once; the head of a receive ring's queue is dropped and
counted; a transmit frame under read that is not in its queues leaves, counted in HST_TX_DROPS, its completion
ABORTED. A notice timer does nothing until the completion at ACK is older than TIME; from then the source's condition
holds where IRQ_EN = 1 and TIME is not 0, and the bindings are re-evaluated. -/
def Obligations.RingControl : Prop :=
  (∀ (s : State) (h x : Nat) (v : Word), StoresCanonical s → ExpertWindow s h → x < 64 →
      Passes s h (.HST_RING_CFG x) v → F.HST_RING_CFG_EN.get v = 1 → s.ringState x = 0 →
      ∃ t, exec (.ringEnable .window x v) s = .next t ∧ t.ringState x = 1 ∧
        Holds (t.get (.HST_RING_CFG x)) [F.HST_RING_CFG_EN, F.HST_RING_CFG_SIZE_LOG2, F.HST_RING_CFG_BUF,
          F.HST_RING_CFG_IRQ_EN] v ∧
        t.ringHead x = 0 ∧ t.ringCptr x = 0 ∧ t.ringTail x = 0 ∧ t.ringAck x = 0 ∧
        t.frames = s.frames ∧ t.reps = s.reps ∧ t.cnt = s.cnt ∧
        SignalsRegs [.HST_RING_CFG x, .HST_RING_HEAD x, .HST_RING_CPTR x, .HST_RING_TAIL x, .HST_RING_ACK x,
          .HST_RING_STATUS x] s t) ∧
  (∀ (s : State) (h x : Nat) (v : Word), StoresCanonical s → FramesInRange s → skeysFrom none s.rings = true →
      ExpertWindow s h → x < 64 → Passes s h (.HST_RING_CFG x) v → F.HST_RING_CFG_EN.get v = 0 →
      (s.ringState x = 1 ∨ s.ringState x = 3) →
      ∃ t, exec (.ringDisable .window x v) s = .next t ∧ t.ringState x = 2 ∧
        t.fld (.HST_RING_CFG x) F.HST_RING_CFG_EN = 0 ∧ t.ringHead x = s.ringHead x ∧ t.ringCptr x = s.ringCptr x ∧
        (x < 32 → (t.ring x).dq = [] ∧ CountedTimes (C.rxDrops x) (s.ring x).dq.length s t) ∧
        (32 ≤ x → (s.ring x).held = none → t.rings = s.rings ∧ t.frames = s.frames ∧ t.cnt = s.cnt) ∧
        (∀ hd, 32 ≤ x → (s.ring x).held = some hd → (t.ring x).held = none ∧ t.frame hd.frame = none ∧ t.cnt = s.cnt ∧
          (t.ring x).items = (s.ring x).items.map fun it =>
            if it.frame = some hd.frame then { it with status := 3, ready := true, frame := none } else it)) ∧
  (∀ (s : State) (x : Nat), StoresCanonical s → x < 64 → s.ringState x = 2 →
      ((s.ring x).items ≠ [] → exec (.ringStopped x) s = .next s) ∧
      ((s.ring x).items = [] → ∃ t, exec (.ringStopped x) s = .next t ∧ t.ringState x = 0 ∧
        Signals [.HST_RING_STATUS x] [] s t)) ∧
  (∀ (s : State) (x : Nat) (err : DmaError) (fr : Option Nat), StoresCanonical s → FramesInRange s →
      skeysFrom none s.rings = true → x < 64 → s.ringState x = 1 →
      ∃ t, exec (.ringDmaError x err fr) s = .next t ∧ t.ringState x = 3 ∧ CountedOnce C.dmaErrors s t ∧
        t.fld (.HST_RING_STATUS x) F.HST_RING_STATUS_ERR = (match err with | .errorCompletion => 1 | .timeout => 2) ∧
        (x < 32 → ∀ it rest, (s.ring x).dq = it :: rest → (t.ring x).dq = rest ∧ CountedOnce (C.rxDrops x) s t) ∧
        (32 ≤ x → fr = none → t.rings = s.rings ∧ t.frames = s.frames) ∧
        (32 ≤ x → ∀ id f it, fr = some id → it ∈ (s.ring x).items → it.frame = some id → s.frame id = some f →
          f.stage ≠ Stage.queued → t.frame id = none ∧ CountedOnce (C.txDrops (x - 32)) s t ∧
          { it with status := 3, ready := true, frame := none } ∈ (t.ring x).items)) ∧
  (∀ (s : State) (x : Nat), x < 64 →
      let old (e : Nat × Nat) : Prop := e.2 + 1000 * s.fld (.HST_RING_IRQ x) F.HST_RING_IRQ_TIME < s.tim.tick
      (s.unacked x = [] → exec (.ringNoticeTimeout x) s = .next s) ∧
      (∀ e rest, s.unacked x = e :: rest → ¬ old e → exec (.ringNoticeTimeout x) s = .next s) ∧
      (∀ e rest, s.unacked x = e :: rest → old e → ∃ t, exec (.ringNoticeTimeout x) s = .next t ∧ t = s.irqSettle ∧
        Signals [] [] s t ∧ (s.fld (.HST_RING_CFG x) F.HST_RING_CFG_IRQ_EN = 1 →
          s.fld (.HST_RING_IRQ x) F.HST_RING_IRQ_TIME ≠ 0 → t.irqCond (x % 32) = true))) ∧
  (∀ (s : State) (x : Nat) (e : Nat × Nat), e ∈ s.unacked x ↔ e ∈ (s.ring x).written ∧ 0 < s.pastAck x e.1 ∧
      s.pastAck x e.1 ≤ s.pastAck x (s.ringCptr x))

/-- For the ring whose turn it is. A whole good frame for which enough descriptors are posted: HEAD and CPTR advance
by D, HST_RX_FRAMES counts once, the item leaves the queue, and to the outputs are added exactly the writes of the
frame to host memory, followed by messages of interrupts only. In a frame that fits one buffer these writes are: its
bytes without FCS to the buffer, words 3 to 7, then word 2 with DONE, SOP and EOP. With too few descriptors posted the
frame is dropped: HST_RX_DROPS counts once, DROP_SEEN is 1, HEAD stays, nothing is written. A frame found bad leaves
the queue uncounted. A ring whose turn it is not does nothing. -/
def Obligations.HostReceives : Prop :=
  ∀ (s : State) (r : Nat) (bufs : List Nat), StoresCanonical s → FramesInRange s → skeysFrom none s.rings = true →
    (s.rxTurn ≠ some r → exec (.hostRxDeliver r bufs) s = .next s) ∧
    (∀ it rest f, s.rxTurn = some r → (s.ring r).dq = it :: rest → s.frame it.frame = some f →
      let buf := 256 * s.fld (.HST_RING_CFG r) F.HST_RING_CFG_BUF
      let d := (f.len - 4 + buf - 1) / buf
      ∃ t, exec (.hostRxDeliver r bufs) s = .next t ∧ (t.ring r).dq = rest ∧
        (f.bad = false → d ≤ s.posted r →
          t.ringHead r = (s.ringHead r + d) % s.ringSize r ∧ t.ringCptr r = t.ringHead r ∧
          CountedOnce (C.rxFrames r) s t ∧ t.counter (C.rxDrops r) = s.counter (C.rxDrops r) ∧
          t.rxNext = (r + 1) % 32 ∧
          (∃ pre, t.out = pre ++ (s.rxWrites r f it.reason bufs).out ∧ ∀ o ∈ pre, ∃ v a d, o = Output.msix v a d) ∧
          (d = 1 → let a := s.descAddr r (s.ringHead r % s.ringSize r)
            (s.rxWrites r f it.reason bufs).out =
              Output.dma (a + 8) (leBytes [f.len - 4 + 2 ^ 14 + (f.len - 4) * 2 ^ 16 + 2 ^ 15 + 2 ^ 31]) ::
              Output.dma (a + 12) (leBytes (rxWords f it.reason)) ::
              Output.dma (bufs.getD 0 0) (f.bytes.take (f.len - 4)) :: s.out)) ∧
        (f.bad = false → s.posted r < d → CountedOnce (C.rxDrops r) s t ∧ t.ringHead r = s.ringHead r ∧ t.out = s.out ∧
          t.fld (.HST_RING_STATUS r) F.HST_RING_STATUS_DROP_SEEN = 1) ∧
        (f.bad = true → t.out = s.out ∧ t.ringHead r = s.ringHead r ∧
          t.counter (C.rxDrops r) = s.counter (C.rxDrops r) ∧ t.counter (C.rxFrames r) = s.counter (C.rxFrames r)))

/-- The transmit rings take their turns: after the ring served last, the next that is RUNNING with descriptors posted,
without a held frame or one before its queues, no block that its fetch enters in reset, start-up being over, and whose
chain is not known to want its end; a ring whose turn it is not does nothing. A chain of n descriptors that breaks
R466 is counted in HST_TX_MALFORMED; its completion MALFORMED is ready, and HEAD passes it. A chain whose end is not
posted gives up the turn until TAIL moves (the model's choice, log 111). A whole chain becomes a frame: the bytes of
its buffers padded to 60 with the FCS appended, of the ring, under the current epoch, timestamped now, parsed as R467
says; HEAD passes it, an item waits for its completion, and then the descriptor's action applies with BYPASS = 1 and
the first pass of slice 0 otherwise. One descriptor with SOP, EOP, a length of 1 to 16,379 and a valid action without
STEER and RECIRC is a whole chain; one with a length of 0 or without SOP is malformed; one without EOP is unfinished.
A held frame of a RUNNING or ERROR ring, no block that it enters in reset, is tested again. If no replica is refused,
or HOLD_LIMIT (not 0) has passed since its first test, it is admitted: nothing is held, HST_TX_FRAMES counts once,
every refused queue counts one frame as queue full, and its completion has STATUS 0, or 1 where a replica was refused,
and is due at once without TS_REQ. Otherwise it stays held, and only the averages and random-drop registers may
change. A completion that is due writes word 3 with STATUS and TS_VALID, words 6 and 7 with the timestamp (zero
without one), and word 2 with DONE, in this order; CPTR passes the frame's descriptors and the item is gone. When a
retry is made and what it may move are the model's choices (logs 111, 112). -/
def Obligations.HostFramesCompleteInOrder : Prop :=
  ((∀ (s : State) (r n : Nat) (chain : List Desc) (data : List Byte) (bad : List Nat), StoresCanonical s → r < 32 →
      s.txTurn = some r →
      let x := r + 32
      let ds := chain.take (s.posted x)
      let sop := ds.headD []
      (checkChain ds = .short → exec (.hostTxFrame r chain data bad) s =
        .next (s.putRing x { s.ring x with short := some (s.ringTail x) })) ∧
      (checkChain ds = .bad n → ∃ t, exec (.hostTxFrame r chain data bad) s = .next t ∧ CountedOnce (C.txMalformed r) s t ∧
        t.ringHead x = (s.ringHead x + n) % s.ringSize x ∧
        (∃ it, (t.ring x).items = (s.ring x).items ++ [it] ∧ it.status = 2 ∧ it.ready = true ∧ it.descs = n ∧
          it.sop = s.ringHead x) ∧ Writes [.HST_RING_HEAD x] [C.txMalformed r] { s with rings := t.rings, txNext := (r + 1) % 32 } t) ∧
      (checkChain ds = .whole n →
        let len := ((ds.take n).map descBytes).sum
        let bytes := (data ++ List.replicate (len - data.length) 0#8).take len
        ∃ u f, u.frame s.nextFrame = some f ∧ u.nextFrame = s.nextFrame + 1 ∧
          (∀ k, k ≠ s.nextFrame → u.frame k = s.frame k) ∧ f.bytes = sealFrame bytes ∧ f.port = r ∧ f.fromHost = true ∧
          f.sel = s.curSel ∧ f.ts = s.now16 ∧ f.admitT = s.admitNow ∧ f.ended = true ∧
          f.parse = some (parseFrame (s.parseCfg f) f.bytes) ∧
          u.ringHead x = (s.ringHead x + n) % s.ringSize x ∧
          (∃ it, (u.ring x).items = (s.ring x).items ++ [it] ∧ it.frame = some s.nextFrame ∧ it.ready = false ∧
            it.descs = n ∧ it.sop = s.ringHead x ∧ it.tsReq = (sop.getD 2 0).toNat.testBit 16) ∧
          Writes [.HST_RING_HEAD x] [] { s with rings := u.rings, frames := u.frames, nextFrame := u.nextFrame, txNext := (r + 1) % 32 } u ∧
          exec (.hostTxFrame r chain data bad) s = .next
            (if (sop.getD 2 0).toNat.testBit 17 then u.applyAction s.nextFrame f ⟨sop.getD 4 0, sop.getD 5 0⟩
             else u.firstPass s.nextFrame f (parseFrame (s.parseCfg f) f.bytes) ⟨sop.getD 4 0, sop.getD 5 0⟩ bad))) ∧
  (∀ (s : State) (r : Nat) (chain : List Desc) (data : List Byte) (bad : List Nat), s.txTurn ≠ some r →
      exec (.hostTxFrame r chain data bad) s = .next s) ∧
  (∀ (s : State) (r : Nat), s.txReady r = true ↔ s.running = true ∧ s.ringState (r + 32) = 1 ∧ (s.ring (r + 32)).held = none ∧
      s.txPendingAdmission r = false ∧ s.txShut (r + 32) = false ∧ 0 < s.posted (r + 32) ∧
      (s.ring (r + 32)).short ≠ some (s.ringTail (r + 32))) ∧
  (∀ (s : State) (j : Nat), j < 32 → s.txReady ((s.txNext + j) % 32) = true →
      (∀ k, k < j → s.txReady ((s.txNext + k) % 32) = false) → s.txTurn = some ((s.txNext + j) % 32)) ∧
  (∀ (d : Desc) (ds : List Desc),
      (descEop d = false → checkChain [d] = .short) ∧
      (descEop d = true → descSop d = true → 1 ≤ descBytes d → descBytes d ≤ 16379 →
        txActionOk ⟨d.getD 4 0, d.getD 5 0⟩ = true → checkChain (d :: ds) = .whole 1) ∧
      (descEop d = true → (descSop d = false ∨ descBytes d = 0 ∨ txActionOk ⟨d.getD 4 0, d.getD 5 0⟩ = false) →
        checkChain (d :: ds) = .bad 1) ∧
      (descEop d = false → (∃ e rest, ds = e :: rest ∧ descSop e = true) → checkChain (d :: ds) = .bad 1))) ∧
  ((∀ (s : State) (r : Nat) (b : Bool) (hd : Held) (f : Frame), StoresCanonical s → FramesInRange s →
      skeysFrom none s.rings = true → r < 32 → (s.ring (r + 32)).held = some hd → s.frame hd.frame = some f →
      f.fromHost = true → f.port = r → f.ended = true → (∀ c ∈ f.hostCopies, c.1 < 32) →
      (s.ringState (r + 32) = 1 ∨ s.ringState (r + 32) = 3) → s.enqueueShut f = false →
      let limit := s.fld .HST_RING_GLOBAL F.HST_RING_GLOBAL_HOLD_LIMIT
      let force := limit ≠ 0 ∧ limit * 1000 ≤ s.tim.tick - hd.since
      let refused := (s.enqueueAll hd.frame b (s.targetQueues f)).2
      ∃ t, exec (.hostTxRetry r b) s = .next t ∧
        (refused = [] ∨ force → (t.ring (r + 32)).held = none ∧ CountedOnce (C.txFrames r) s t ∧
          (∀ q ∈ refused, CountedOnce (C.dropsFull q) s t) ∧
          ∀ it ∈ (s.ring (r + 32)).items, it.frame = some hd.frame → ∃ u ∈ (t.ring (r + 32)).items, u.sop = it.sop ∧
            u.descs = it.descs ∧ u.status = (if refused = [] then 0 else 1) ∧ (it.tsReq = false → u.ready = true)) ∧
        (refused ≠ [] → ¬ force → t = { s with swc := t.swc } ∧ t.swc = { s.swc with avg := t.swc.avg, lfsr := t.swc.lfsr })) ∧
  (∀ (s : State) (r : Nat) (it : TxItem) (rest : List TxItem), StoresCanonical s → skeysFrom none s.rings = true → r < 32 →
      (s.ring (r + 32)).items = it :: rest →
      let x := r + 32
      let a := s.descAddr x it.sop
      let stamp := if it.tsReq = true ∧ it.status ≠ 3 then it.stamp else none
      (s.ringState x = 0 ∨ it.ready = false → exec (.hostTxCompletion r) s = .next s) ∧
      (s.ringState x ≠ 0 → it.ready = true → ∃ t, exec (.hostTxCompletion r) s = .next t ∧
        (t.ring x).items = rest ∧ t.ringCptr x = (s.ringCptr x + it.descs) % s.ringSize x ∧
        (∃ pre, (∀ o ∈ pre, ∃ v a d, o = Output.msix v a d) ∧ t.out = pre ++
          Output.dma (a + 8) (leBytes [it.w2.toNat % 2 ^ 31 + 2 ^ 31]) ::
          Output.dma (a + 24) (leBytes [stamp.getD 0 % 2 ^ 32, stamp.getD 0 / 2 ^ 32]) ::
          Output.dma (a + 12) (leBytes [it.status + (if stamp.isSome then 4 else 0)]) :: s.out) ∧
        Signals [.HST_RING_CPTR x] [] { s with rings := t.rings } t)))

/-- Re-evaluation of the bindings, with the register store in its one form: a source bound afterwards is deliverable
to its target; a source not bound is deliverable to no target; a source that was not bound before, or was bound
elsewhere, is bound to a target of the lowest running priority among those to which it is deliverable, and that target
is notified. Priority stacks stay, and no register but the sources' changes. By an Expert session's window. A claim on
target t, source i having the highest PRIO, and the lowest number at that PRIO, among the sources deliverable to t
that are bound to t or unbound: the read returns i, IN_SERVICE of i is 1, an edge-sensed PENDING is 0, its PRIO is
pushed, HST_IRQ_CLAIMS counts once. With no such source the read returns 0xFF, the stack stays and HST_IRQ_SPURIOUS
counts once. An EOI pops the stack, clears IN_SERVICE of the source on top, and sets EOI_MISMATCH where SOURCE differs
or the stack is empty. A write of an assigned source sets PRIO, SENSE, MASK, ROUTE and TARGETS; with SENSE level the
source is then pending as its condition is, and one that stays edge-sensed is pending as before unless PENDING is
written 1; a write of a source not assigned changes nothing. Through BAR 2-3 a word of the MSI-X table is written and
read back: address, data, the vector's mask; the Pending Bits are read. Once MSI-X is enabled and neither the function
nor the vector is masked the vector's Pending Bit clears; the message, with the entry's address and data, is sent if a
source is deliverable to the target, and otherwise NOTIFIED is cleared. That one row carries every access to BAR 2-3
and every change of the enables is the model's choice (log 146). -/
def Obligations.InterruptsNotify : Prop :=
  (∀ s : State, StoresCanonical s →
    let t := s.irqSettle
    (∀ i tt, i < 128 → t.irqBound i = some tt → t.deliverable i tt = true) ∧
    (∀ i tt, i < 128 → tt < 8 → t.irqBound i = none → t.deliverable i tt = false) ∧
    (∀ i tt, i < 128 → t.irqBound i = some tt → s.irqBound i ≠ some tt → t.irq.notified.testBit tt = true ∧
      ∀ u, u < 8 → t.deliverable i u = true → t.runPrio tt ≤ t.runPrio u) ∧
    t.irq.prios = s.irq.prios ∧ Signals [] [] s t ∧ t.hlt = s.hlt ∧ t.cnt = s.cnt) ∧
  ((∀ (s : State) (h tt i : Nat), StoresCanonical s → ExpertWindow s h → tt < 8 → i < 128 →
      (let ok (j : Nat) : Prop := s.deliverable j tt = true ∧ (s.irqBound j = none ∨ s.irqBound j = some tt)
       ok i ∧ ∀ j, j < 128 → ok j → s.src j F.HST_IRQ_SRC_PRIO < s.src i F.HST_IRQ_SRC_PRIO ∨
         (s.src j F.HST_IRQ_SRC_PRIO = s.src i F.HST_IRQ_SRC_PRIO ∧ i ≤ j)) →
      ∃ t, exec (.irqClaim .window tt) s = .next t ∧ t.out.head? = some (Output.readData (BitVec.ofNat 32 i)) ∧
        t.irqStack tt = (s.src i F.HST_IRQ_SRC_PRIO, i) :: s.irqStack tt ∧ t.src i F.HST_IRQ_SRC_IN_SERVICE = 1 ∧
        (s.src i F.HST_IRQ_SRC_SENSE = 1 → t.src i F.HST_IRQ_SRC_PENDING = 0) ∧ CountedOnce (C.irqClaims tt) s t ∧
        Signals [] [C.irqClaims tt] s t ∧ t.hlt = s.hlt) ∧
  (∀ (s : State) (h tt : Nat), StoresCanonical s → ExpertWindow s h → tt < 8 →
      (∀ j, j < 128 → s.deliverable j tt = true → s.irqBound j ≠ none ∧ s.irqBound j ≠ some tt) →
      ∃ t, exec (.irqClaim .window tt) s = .next t ∧ t.out.head? = some (Output.readData 0xFF#32) ∧
        t.irq.prios = s.irq.prios ∧ CountedOnce (C.irqSpurious tt) s t ∧ Signals [] [C.irqSpurious tt] s t ∧
        ∀ j, t.src j F.HST_IRQ_SRC_PENDING = s.src j F.HST_IRQ_SRC_PENDING) ∧
  (∀ (s : State) (h tt : Nat) (v : Word), StoresCanonical s → skeysFrom none s.irq.prios = true → ExpertWindow s h → tt < 8 →
      Passes s h (.HST_IRQ_EOI tt) v →
      ∃ t, exec (.irqEoi .window tt v) s = .next t ∧ Signals [.HST_IRQ_TGT_STATUS tt, .HST_IRQ_EOI tt] [] s t ∧
        (s.irqStack tt = [] → t.irqStack tt = [] ∧
          t.fld (.HST_IRQ_TGT_STATUS tt) F.HST_IRQ_TGT_STATUS_EOI_MISMATCH = 1) ∧
        (∀ p i rest, i < 128 → s.irqStack tt = (p, i) :: rest → t.irqStack tt = rest ∧
          t.src i F.HST_IRQ_SRC_IN_SERVICE = 0 ∧
          t.fld (.HST_IRQ_TGT_STATUS tt) F.HST_IRQ_TGT_STATUS_EOI_MISMATCH =
            (if F.HST_IRQ_EOI_SOURCE.get v = i then
               s.fld (.HST_IRQ_TGT_STATUS tt) F.HST_IRQ_TGT_STATUS_EOI_MISMATCH else 1))) ∧
  (∀ (s : State) (h n : Nat) (v : Word), StoresCanonical s → ExpertWindow s h → n < 128 → Passes s h (.HST_IRQ_SRC n) v →
      (irqAssigned n = false → exec (.irqSrcWrite .window n v) s = .next s) ∧
      (irqAssigned n = true → ∃ t, exec (.irqSrcWrite .window n v) s = .next t ∧
        Holds (t.get (.HST_IRQ_SRC n)) [F.HST_IRQ_SRC_PRIO, F.HST_IRQ_SRC_SENSE, F.HST_IRQ_SRC_MASK, F.HST_IRQ_SRC_ROUTE,
          F.HST_IRQ_SRC_TARGETS] v ∧
        (F.HST_IRQ_SRC_SENSE.get v = 0 → t.irqPending n = s.irqCond n) ∧
        (F.HST_IRQ_SRC_SENSE.get v = 1 → s.src n F.HST_IRQ_SRC_SENSE = 1 →
          t.irqPending n = (s.irqPending n && F.HST_IRQ_SRC_PENDING.get v != 1)) ∧
        t.src n F.HST_IRQ_SRC_IN_SERVICE = s.src n F.HST_IRQ_SRC_IN_SERVICE ∧
        Signals [.HST_IRQ_SRC n] [] { s with boot := t.boot } t)) ∧
  (let released (s t : State) (held : Nat → Prop) : Prop := ∀ tt, tt < 8 → s.irq.pba.testBit tt = true →
        (held tt → t.irq.pba.testBit tt = true) ∧
        (¬ held tt → t.irq.pba.testBit tt = false ∧
          ((∃ i, i < 128 ∧ s.deliverable i tt = true) →
            Output.msix tt (t.msixEntry tt).addr (t.msixEntry tt).data ∈ t.out ∧
            t.irq.notified.testBit tt = s.irq.notified.testBit tt) ∧
          ((∀ i, i < 128 → s.deliverable i tt = false) → t.irq.notified.testBit tt = false))
   let enabled (s : State) : Prop := s.fld .HST_PCIE_STATUS F.HST_PCIE_STATUS_MSIX_EN = 1
   let funcMask (s : State) : Prop := s.fld .HST_PCIE_STATUS F.HST_PCIE_STATUS_FUNC_MASK = 1
   (∀ (s : State) (en fm : Bool) (at' : Nat) (v : Word), StoresCanonical s → s.irq.pba < 256 → s.irq.notified < 256 →
      ∃ t, exec (.msixUnmask (.control en fm) at' v) s = .next t ∧
        t.fld .HST_PCIE_STATUS F.HST_PCIE_STATUS_MSIX_EN = (if en then 1 else 0) ∧
        t.fld .HST_PCIE_STATUS F.HST_PCIE_STATUS_FUNC_MASK = (if fm then 1 else 0) ∧
        t.irq.vmask = s.irq.vmask ∧ t.irq.table = s.irq.table ∧ Signals [.HST_PCIE_STATUS] [] s t ∧ t.cnt = s.cnt ∧
        released s t fun tt => en = false ∨ fm = true ∨ s.irq.vmask.testBit tt = true) ∧
   (∀ (s : State) (at' : Nat) (v : Word), StoresCanonical s → skeysFrom none s.irq.table = true → s.irq.pba < 256 →
      s.irq.vmask < 256 → s.irq.notified < 256 →
      ∃ t, exec (.msixUnmask .write at' v) s = .next t ∧ t.regs = s.regs ∧ t.cnt = s.cnt ∧ Signals [] [] s t ∧
        (∀ tt, tt < 8 → t.irq.vmask.testBit tt =
          if at' / 16 = tt ∧ at' / 4 % 4 = 3 then v.getLsbD 0 else s.irq.vmask.testBit tt) ∧
        (∀ tt, tt < 8 → t.msixEntry tt =
          ⟨if at' / 16 = tt ∧ at' / 4 % 4 = 0 then ((s.msixEntry tt).addr >>> 32) <<< 32 ||| v.setWidth 64
           else if at' / 16 = tt ∧ at' / 4 % 4 = 1 then ((s.msixEntry tt).addr.setWidth 32).setWidth 64 |||
             v.setWidth 64 <<< 32
           else (s.msixEntry tt).addr,
           if at' / 16 = tt ∧ at' / 4 % 4 = 2 then v else (s.msixEntry tt).data⟩) ∧
        released s t fun tt => ¬ enabled s ∨ funcMask s ∨ t.irq.vmask.testBit tt = true) ∧
   (∀ (s : State) (at' : Nat) (v : Word), ∃ w : Word, exec (.msixUnmask .read at' v) s = .next (s.emit (.readData w)) ∧
      (at' / 4 = 0x400 → w = BitVec.ofNat 32 s.irq.pba) ∧
      (at' / 16 < 8 → let e := s.msixEntry (at' / 16)
        (at' / 4 % 4 = 0 → w = e.addr.setWidth 32) ∧ (at' / 4 % 4 = 1 → w = (e.addr >>> 32).setWidth 32) ∧
        (at' / 4 % 4 = 2 → w = e.data) ∧
        (at' / 4 % 4 = 3 → w = if s.irq.vmask.testBit (at' / 16) then 1 else 0)))))

/-- The loss of PCIe, by any of its four causes: every ring is STOPPED with EN = 0 and holds nothing, HST_RX_DROPS
counts what stood in each delivery queue, no session of a PCIe channel stands while those of the service port stay,
the window is unbound, no priority stack and no source in service is left, MSI-X is disabled with every vector masked,
and LINK_LOST is 1; LINK_UP, SPEED and WIDTH are 0 unless the cause is a Function Level Reset (this, and what becomes
of MSI-X, are the model's choices: logs 157, 5). A link that comes up shows its speed and width. A change of the
service port's link shows in HST_SVC_STATUS, and where LINK_UP changes it sets LINK_CHANGED. -/
def Obligations.LinksChange : Prop :=
  (∀ (s : State) (c : PcieLoss), StoresCanonical s → FramesInRange s → skeysFrom none s.rings = true →
      ∃ t, exec (.pcieLinkLoss c) s = .next t ∧
        (∀ x, x < 64 → t.ringState x = 0 ∧ t.fld (.HST_RING_CFG x) F.HST_RING_CFG_EN = 0 ∧
          t.ring x = freshRing) ∧
        (∀ r, r < 32 → CountedTimes (C.rxDrops r) (s.ring r).dq.length s t) ∧
        (∀ kv ∈ t.sessions, kv.2.chan = none) ∧
        (∀ k x, s.session k = some x → x.chan = none → t.session k = some x) ∧
        t.winBound = false ∧ t.irq.prios = [] ∧ (∀ i, i < 128 → t.src i F.HST_IRQ_SRC_IN_SERVICE = 0) ∧
        t.irq.vmask = 255 ∧ t.irq.table = [] ∧ t.fld .HST_PCIE_STATUS F.HST_PCIE_STATUS_MSIX_EN = 0 ∧
        t.fld .HST_PCIE_STATUS F.HST_PCIE_STATUS_FUNC_MASK = 0 ∧ t.fld .HST_PCIE_STATUS F.HST_PCIE_STATUS_LINK_LOST = 1 ∧
        (if c = .functionReset then
           Holds (t.get .HST_PCIE_STATUS) [F.HST_PCIE_STATUS_LINK_UP, F.HST_PCIE_STATUS_SPEED, F.HST_PCIE_STATUS_WIDTH]
             (s.get .HST_PCIE_STATUS)
         else Holds (t.get .HST_PCIE_STATUS) [F.HST_PCIE_STATUS_LINK_UP, F.HST_PCIE_STATUS_SPEED,
           F.HST_PCIE_STATUS_WIDTH] 0#32)) ∧
  (∀ (s : State) (speed width : Nat), StoresCanonical s → speed < 8 → width < 16 →
      ∃ t, exec (.pcieLinkUp speed width) s = .next t ∧ Writes [.HST_PCIE_STATUS] [] s t ∧
        t.fld .HST_PCIE_STATUS F.HST_PCIE_STATUS_LINK_UP = 1 ∧ t.fld .HST_PCIE_STATUS F.HST_PCIE_STATUS_SPEED = speed ∧
        t.fld .HST_PCIE_STATUS F.HST_PCIE_STATUS_WIDTH = width ∧
        t.fld .HST_PCIE_STATUS F.HST_PCIE_STATUS_LINK_LOST = s.fld .HST_PCIE_STATUS F.HST_PCIE_STATUS_LINK_LOST) ∧
  (∀ (s : State) (up lock : Bool), StoresCanonical s → s.svcOn = true →
      let now := if up && lock then 1 else 0
      let was := s.fld .HST_SVC_STATUS F.HST_SVC_STATUS_LINK_UP
      ∃ t, exec (.svcLinkChange up lock) s = .next t ∧ Signals [.HST_SVC_STATUS] [] s t ∧
        t.fld .HST_SVC_STATUS F.HST_SVC_STATUS_LINK_UP = now ∧
        t.fld .HST_SVC_STATUS F.HST_SVC_STATUS_BLOCK_LOCK = (if lock then 1 else 0) ∧
        t.fld .HST_SVC_STATUS F.HST_SVC_STATUS_LINK_CHANGED =
          (if now = was then s.fld .HST_SVC_STATUS F.HST_SVC_STATUS_LINK_CHANGED else 1))

/-- Counting an identifier adds one to its value modulo 2^64 and leaves every other counter; at the largest value the
result is 0 with WRAP set; WRAP once set stays set through any number of further counts; and n counts add n. By an
Expert session's window. A read of a listed counter whose port, if it has one, exists: it returns bits 31 to 0; the
session's latch takes bits 63 to 32, bits 31 to 0 of the time, its bits 47 to 32 with STEP_SEQ above, and WRAP with
STATE OK; nothing else changes. Of a position that is no port it returns zero and latches zeros with STATE ABSENT, and
of a vacant identifier zeros with STATE NONE; that STEP_SEQ is zero there too is the model's reading (log 106). A
write of SWC_HIST_CFG for a port is held; one that changes CLASSES or MIN_EXP clears the 64 bins of the port and
advances GEN, and one that changes neither leaves every counter and GEN; counters outside the port's bins stay. -/
def Obligations.CountersCountAndRead : Prop :=
  (∀ (s : State) (id n : Nat), skeysFrom none s.cnt = true →
    (s.count id).counter id = ⟨(s.counter id).val + 1, (s.counter id).wrap || (s.counter id).val == BitVec.allOnes 64⟩ ∧
    (∀ j, j ≠ id → (s.count id).counter j = s.counter j) ∧
    ((s.counter id).val = BitVec.allOnes 64 → ((s.count id).counter id).val = 0 ∧ ((s.count id).counter id).wrap = true) ∧
    ((s.counter id).wrap = true → ((s.countN id n).counter id).wrap = true) ∧
    ((s.countN id n).counter id).val = (s.counter id).val + BitVec.ofNat 64 n) ∧
  ((∀ (s : State) (h id : Nat) (x : Session), StoresCanonical s → ExpertWindow s h → s.session h = some x → id < 0x60000 →
      let port := match cntPort id with | some p => s.isPort p | none => true
      let c := s.counter id
      let read (l : Latch) (v : Word) : Prop := ∃ t, exec (.counterRead .window id) s = .next t ∧
        t.session h = some { x with latch := l } ∧ (∀ k, k ≠ h → t.session k = s.session k) ∧
        t = { s with sessions := t.sessions, out := Output.readData v :: s.out }
      (cntAssigned id = true → port = true →
        read ⟨(c.val >>> 32).setWidth 32, BitVec.ofNat 32 s.nowNs,
          BitVec.ofNat 32 (s.nowNs / 2 ^ 32 % 2 ^ 16 + s.tim.stepSeq % 2 ^ 16 * 2 ^ 16),
          BitVec.ofNat 32 (if c.wrap then 4 else 0)⟩ (c.val.setWidth 32)) ∧
      (cntAssigned id = true → port = false → read ⟨0, 0, 0, 1⟩ 0#32) ∧
      (cntAssigned id = false → read ⟨0, 0, 0, 2⟩ 0#32)) ∧
  (∀ (s : State) (h p : Nat) (v : Word), StoresCanonical s → ExpertWindow s h → p < 1024 → Passes s h (.SWC_HIST_CFG p) v →
      let old := s.get (.SWC_HIST_CFG p)
      let same := F.SWC_HIST_CFG_CLASSES.get old = F.SWC_HIST_CFG_CLASSES.get v ∧
        F.SWC_HIST_CFG_MIN_EXP.get old = F.SWC_HIST_CFG_MIN_EXP.get v
      ∃ t, exec (.histCfgWrite .window p v) s = .next t ∧
        Holds (t.get (.SWC_HIST_CFG p)) [F.SWC_HIST_CFG_CLASSES, F.SWC_HIST_CFG_MIN_EXP, F.SWC_HIST_CFG_EN] v ∧
        (same → t.cnt = s.cnt ∧ t.fld (.SWC_HIST_CFG p) F.SWC_HIST_CFG_GEN = F.SWC_HIST_CFG_GEN.get old) ∧
        (¬ same → t.fld (.SWC_HIST_CFG p) F.SWC_HIST_CFG_GEN = (F.SWC_HIST_CFG_GEN.get old + 1) % 256 ∧
          ∀ j, j < 64 → t.counter (C.latHist p j) = ⟨0, false⟩) ∧
        (∀ id, ¬ (C.latHist p 0 ≤ id ∧ id < C.latHist p 64) → t.counter id = s.counter id) ∧
        KeepsRegs [.SWC_HIST_CFG p] s t ∧ t.frames = s.frames ∧ t.reps = s.reps))

/-- For every identifier of the counter space, 0x0_0000 to 0x5_FFFF, the counter word is the register at 0x0210_0000 +
(ID div 8,192) × 0x0001_0000 + ((ID div 128) mod 64) × 0x0400 + (ID mod 128) × 4, in HLT ward 16 + ID div 8,192 and
block (ID div 128) mod 64, at register ID mod 128; that address decodes to the word of this identifier and of no
other. In those blocks registers 0x80 to 0xFE decode to nothing and register 0xFF to the block's BLKCTL. A read of an
identifier that R486 does not list is a read of zero with STATE NONE (R490), which is so for every identifier of
0x6_0000 and above. -/
def Obligations.CounterWordsLieWhereTheyShould : Prop :=
  (∀ id, id < 0x60000 →
      (Reg.CNT id).addr = 0x02100000 + id / 8192 * 0x10000 + id / 128 % 64 * 0x400 + id % 128 * 4 ∧
      (Reg.CNT id).addr / 0x400000 = 8 ∧ (Reg.CNT id).addr / 0x10000 % 64 = 16 + id / 8192 ∧
      (Reg.CNT id).addr / 0x400 % 64 = id / 128 % 64 ∧ (Reg.CNT id).addr / 4 % 256 = id % 128 ∧
      decodeAddr (Reg.CNT id).addr = some (.CNT id)) ∧
  (∀ w b r, 16 ≤ w → w < 64 → b < 64 → 0x80 ≤ r → r ≤ 0xFE →
      decodeAddr (8 * 0x400000 + w * 0x10000 + b * 0x400 + 4 * r) = none) ∧
  (∀ w b, 16 ≤ w → w < 64 → b < 64 →
      decodeAddr (8 * 0x400000 + w * 0x10000 + b * 0x400 + 4 * 0xFF) = some (.BLKCTL 8 w b)) ∧
  (∀ (s : State) (id : Nat), cntAssigned id = false → s.sample id = (2, ⟨0, false⟩)) ∧
  (∀ id, 0x60000 ≤ id → cntAssigned id = false)
end

