-- ==== Sys2Proof/Laws/Fields.lean ====
section
/-! SUPPORT. Bit fields: a field reads what was set in it, and setting one leaves a disjoint one as it was. -/
namespace Sys2Proof.Machine

/-- Two fields of one word that share no bit. -/
def Fld.apart (f g : Fld) : Bool := decide (f.lo + f.w ≤ g.lo) || decide (g.lo + g.w ≤ f.lo)

theorem Fld.get_testBit (f : Fld) (w : Word) (i : Nat) :
    (f.get w).testBit i = (decide (i < f.w) && w.getLsbD (f.lo + i)) := by
  simp [Fld.get, Nat.testBit_mod_two_pow, Nat.testBit_div_two_pow, BitVec.getLsbD, Nat.add_comm]

theorem Fld.mask_getLsbD (f : Fld) (i : Nat) (h : i < 32) :
    f.mask.getLsbD i = (decide (f.lo ≤ i) && decide (i < f.lo + f.w)) := by
  unfold Fld.mask
  rw [BitVec.getLsbD_ofNat, Nat.testBit_mul_two_pow]
  by_cases h1 : f.lo ≤ i <;> simp [h1, h]
  omega

theorem Fld.set_getLsbD (f : Fld) (w : Word) (v i : Nat) (h : i < 32) :
    (f.set w v).getLsbD i =
      if f.lo ≤ i ∧ i < f.lo + f.w then v.testBit (i - f.lo) else w.getLsbD i := by
  unfold Fld.set
  rw [BitVec.getLsbD_or, BitVec.getLsbD_and, BitVec.getLsbD_not, f.mask_getLsbD i h, BitVec.getLsbD_ofNat,
    Nat.testBit_mul_two_pow, Nat.testBit_mod_two_pow]
  by_cases h1 : f.lo ≤ i <;> by_cases h2 : i < f.lo + f.w <;> simp [h, h1, h2]
  · intro hw; omega
  · omega

/-- A field within the word reads the low bits of what was set in it. -/
theorem Fld.get_set (f : Fld) (w : Word) (v : Nat) (hf : f.lo + f.w ≤ 32) : f.get (f.set w v) = v % 2 ^ f.w := by
  apply Nat.eq_of_testBit_eq
  intro i
  rw [f.get_testBit, Nat.testBit_mod_two_pow]
  by_cases h : i < f.w
  · rw [f.set_getLsbD w v (f.lo + i) (by omega)]
    simp [h]
  · simp [h]

theorem Fld.get_set_apart (f g : Fld) (w : Word) (v : Nat) (h : f.apart g = true) (hg : g.lo + g.w ≤ 32) :
    g.get (f.set w v) = g.get w := by
  apply Nat.eq_of_testBit_eq
  intro i
  rw [g.get_testBit, g.get_testBit]
  by_cases hi : i < g.w
  · rw [f.set_getLsbD w v (g.lo + i) (by omega)]
    simp only [Fld.apart, Bool.or_eq_true, decide_eq_true_eq] at h
    have : ¬ (f.lo ≤ g.lo + i ∧ g.lo + i < f.lo + f.w) := by omega
    simp [this]
  · simp [hi]

end Sys2Proof.Machine
end

