-- ==== Sys2Proof/Laws/State.lean ====
section
/-! SUPPORT. What the smallest updates leave of each field of the state. -/
namespace Sys2Proof.Machine

variable (s : State)

@[simp] theorem State.put_st0 (r : Reg) (v : Word) : (s.put r v).st0 = s.st0 := rfl
@[simp] theorem State.put_st1 (r : Reg) (v : Word) : (s.put r v).st1 = s.st1 := rfl
@[simp] theorem State.put_cnt (r : Reg) (v : Word) : (s.put r v).cnt = s.cnt := rfl
@[simp] theorem State.put_frames (r : Reg) (v : Word) : (s.put r v).frames = s.frames := rfl
@[simp] theorem State.put_nextFrame (r : Reg) (v : Word) : (s.put r v).nextFrame = s.nextFrame := rfl
@[simp] theorem State.put_reps (r : Reg) (v : Word) : (s.put r v).reps = s.reps := rfl
@[simp] theorem State.put_nextRep (r : Reg) (v : Word) : (s.put r v).nextRep = s.nextRep := rfl
@[simp] theorem State.put_nextLk (r : Reg) (v : Word) : (s.put r v).nextLk = s.nextLk := rfl
@[simp] theorem State.put_rows (r : Reg) (v : Word) : (s.put r v).rows = s.rows := rfl
@[simp] theorem State.put_fwd (r : Reg) (v : Word) : (s.put r v).fwd = s.fwd := rfl
@[simp] theorem State.put_swc (r : Reg) (v : Word) : (s.put r v).swc = s.swc := rfl
@[simp] theorem State.put_ports (r : Reg) (v : Word) : (s.put r v).ports = s.ports := rfl
@[simp] theorem State.put_rings (r : Reg) (v : Word) : (s.put r v).rings = s.rings := rfl
@[simp] theorem State.put_rxNext (r : Reg) (v : Word) : (s.put r v).rxNext = s.rxNext := rfl
@[simp] theorem State.put_txNext (r : Reg) (v : Word) : (s.put r v).txNext = s.txNext := rfl
@[simp] theorem State.put_irq (r : Reg) (v : Word) : (s.put r v).irq = s.irq := rfl
@[simp] theorem State.put_hlt (r : Reg) (v : Word) : (s.put r v).hlt = s.hlt := rfl
@[simp] theorem State.put_pair (r : Reg) (v : Word) : (s.put r v).pair = s.pair := rfl
@[simp] theorem State.put_tim (r : Reg) (v : Word) : (s.put r v).tim = s.tim := rfl
@[simp] theorem State.put_tic (r : Reg) (v : Word) : (s.put r v).tic = s.tic := rfl
@[simp] theorem State.put_sessions (r : Reg) (v : Word) : (s.put r v).sessions = s.sessions := rfl
@[simp] theorem State.put_tblOwner (r : Reg) (v : Word) : (s.put r v).tblOwner = s.tblOwner := rfl
@[simp] theorem State.put_jobs (r : Reg) (v : Word) : (s.put r v).jobs = s.jobs := rfl
@[simp] theorem State.put_mbx (r : Reg) (v : Word) : (s.put r v).mbx = s.mbx := rfl
@[simp] theorem State.put_boot (r : Reg) (v : Word) : (s.put r v).boot = s.boot := rfl
@[simp] theorem State.put_flash (r : Reg) (v : Word) : (s.put r v).flash = s.flash := rfl
@[simp] theorem State.put_lne (r : Reg) (v : Word) : (s.put r v).lne = s.lne := rfl
@[simp] theorem State.put_deal (r : Reg) (v : Word) : (s.put r v).deal = s.deal := rfl
@[simp] theorem State.put_free (r : Reg) (v : Word) : (s.put r v).free = s.free := rfl
@[simp] theorem State.put_out (r : Reg) (v : Word) : (s.put r v).out = s.out := rfl
@[simp] theorem State.put_pending (r : Reg) (v : Word) : (s.put r v).pending = s.pending := rfl

@[simp] theorem State.setFld_st0 (r : Reg) (f : Fld) (v : Nat) : (s.setFld r f v).st0 = s.st0 := rfl
@[simp] theorem State.setFld_st1 (r : Reg) (f : Fld) (v : Nat) : (s.setFld r f v).st1 = s.st1 := rfl
@[simp] theorem State.setFld_cnt (r : Reg) (f : Fld) (v : Nat) : (s.setFld r f v).cnt = s.cnt := rfl
@[simp] theorem State.setFld_frames (r : Reg) (f : Fld) (v : Nat) : (s.setFld r f v).frames = s.frames := rfl
@[simp] theorem State.setFld_nextFrame (r : Reg) (f : Fld) (v : Nat) : (s.setFld r f v).nextFrame = s.nextFrame := rfl
@[simp] theorem State.setFld_reps (r : Reg) (f : Fld) (v : Nat) : (s.setFld r f v).reps = s.reps := rfl
@[simp] theorem State.setFld_nextRep (r : Reg) (f : Fld) (v : Nat) : (s.setFld r f v).nextRep = s.nextRep := rfl
@[simp] theorem State.setFld_nextLk (r : Reg) (f : Fld) (v : Nat) : (s.setFld r f v).nextLk = s.nextLk := rfl
@[simp] theorem State.setFld_rows (r : Reg) (f : Fld) (v : Nat) : (s.setFld r f v).rows = s.rows := rfl
@[simp] theorem State.setFld_fwd (r : Reg) (f : Fld) (v : Nat) : (s.setFld r f v).fwd = s.fwd := rfl
@[simp] theorem State.setFld_swc (r : Reg) (f : Fld) (v : Nat) : (s.setFld r f v).swc = s.swc := rfl
@[simp] theorem State.setFld_ports (r : Reg) (f : Fld) (v : Nat) : (s.setFld r f v).ports = s.ports := rfl
@[simp] theorem State.setFld_rings (r : Reg) (f : Fld) (v : Nat) : (s.setFld r f v).rings = s.rings := rfl
@[simp] theorem State.setFld_rxNext (r : Reg) (f : Fld) (v : Nat) : (s.setFld r f v).rxNext = s.rxNext := rfl
@[simp] theorem State.setFld_txNext (r : Reg) (f : Fld) (v : Nat) : (s.setFld r f v).txNext = s.txNext := rfl
@[simp] theorem State.setFld_irq (r : Reg) (f : Fld) (v : Nat) : (s.setFld r f v).irq = s.irq := rfl
@[simp] theorem State.setFld_hlt (r : Reg) (f : Fld) (v : Nat) : (s.setFld r f v).hlt = s.hlt := rfl
@[simp] theorem State.setFld_pair (r : Reg) (f : Fld) (v : Nat) : (s.setFld r f v).pair = s.pair := rfl
@[simp] theorem State.setFld_tim (r : Reg) (f : Fld) (v : Nat) : (s.setFld r f v).tim = s.tim := rfl
@[simp] theorem State.setFld_tic (r : Reg) (f : Fld) (v : Nat) : (s.setFld r f v).tic = s.tic := rfl
@[simp] theorem State.setFld_sessions (r : Reg) (f : Fld) (v : Nat) : (s.setFld r f v).sessions = s.sessions := rfl
@[simp] theorem State.setFld_tblOwner (r : Reg) (f : Fld) (v : Nat) : (s.setFld r f v).tblOwner = s.tblOwner := rfl
@[simp] theorem State.setFld_jobs (r : Reg) (f : Fld) (v : Nat) : (s.setFld r f v).jobs = s.jobs := rfl
@[simp] theorem State.setFld_mbx (r : Reg) (f : Fld) (v : Nat) : (s.setFld r f v).mbx = s.mbx := rfl
@[simp] theorem State.setFld_boot (r : Reg) (f : Fld) (v : Nat) : (s.setFld r f v).boot = s.boot := rfl
@[simp] theorem State.setFld_flash (r : Reg) (f : Fld) (v : Nat) : (s.setFld r f v).flash = s.flash := rfl
@[simp] theorem State.setFld_lne (r : Reg) (f : Fld) (v : Nat) : (s.setFld r f v).lne = s.lne := rfl
@[simp] theorem State.setFld_deal (r : Reg) (f : Fld) (v : Nat) : (s.setFld r f v).deal = s.deal := rfl
@[simp] theorem State.setFld_free (r : Reg) (f : Fld) (v : Nat) : (s.setFld r f v).free = s.free := rfl
@[simp] theorem State.setFld_out (r : Reg) (f : Fld) (v : Nat) : (s.setFld r f v).out = s.out := rfl
@[simp] theorem State.setFld_pending (r : Reg) (f : Fld) (v : Nat) : (s.setFld r f v).pending = s.pending := rfl

@[simp] theorem State.count_regs (id : Nat) : (s.count id).regs = s.regs := rfl
@[simp] theorem State.count_st0 (id : Nat) : (s.count id).st0 = s.st0 := rfl
@[simp] theorem State.count_st1 (id : Nat) : (s.count id).st1 = s.st1 := rfl
@[simp] theorem State.count_frames (id : Nat) : (s.count id).frames = s.frames := rfl
@[simp] theorem State.count_nextFrame (id : Nat) : (s.count id).nextFrame = s.nextFrame := rfl
@[simp] theorem State.count_reps (id : Nat) : (s.count id).reps = s.reps := rfl
@[simp] theorem State.count_nextRep (id : Nat) : (s.count id).nextRep = s.nextRep := rfl
@[simp] theorem State.count_nextLk (id : Nat) : (s.count id).nextLk = s.nextLk := rfl
@[simp] theorem State.count_rows (id : Nat) : (s.count id).rows = s.rows := rfl
@[simp] theorem State.count_fwd (id : Nat) : (s.count id).fwd = s.fwd := rfl
@[simp] theorem State.count_swc (id : Nat) : (s.count id).swc = s.swc := rfl
@[simp] theorem State.count_ports (id : Nat) : (s.count id).ports = s.ports := rfl
@[simp] theorem State.count_rings (id : Nat) : (s.count id).rings = s.rings := rfl
@[simp] theorem State.count_rxNext (id : Nat) : (s.count id).rxNext = s.rxNext := rfl
@[simp] theorem State.count_txNext (id : Nat) : (s.count id).txNext = s.txNext := rfl
@[simp] theorem State.count_irq (id : Nat) : (s.count id).irq = s.irq := rfl
@[simp] theorem State.count_hlt (id : Nat) : (s.count id).hlt = s.hlt := rfl
@[simp] theorem State.count_pair (id : Nat) : (s.count id).pair = s.pair := rfl
@[simp] theorem State.count_tim (id : Nat) : (s.count id).tim = s.tim := rfl
@[simp] theorem State.count_tic (id : Nat) : (s.count id).tic = s.tic := rfl
@[simp] theorem State.count_sessions (id : Nat) : (s.count id).sessions = s.sessions := rfl
@[simp] theorem State.count_tblOwner (id : Nat) : (s.count id).tblOwner = s.tblOwner := rfl
@[simp] theorem State.count_jobs (id : Nat) : (s.count id).jobs = s.jobs := rfl
@[simp] theorem State.count_mbx (id : Nat) : (s.count id).mbx = s.mbx := rfl
@[simp] theorem State.count_boot (id : Nat) : (s.count id).boot = s.boot := rfl
@[simp] theorem State.count_flash (id : Nat) : (s.count id).flash = s.flash := rfl
@[simp] theorem State.count_lne (id : Nat) : (s.count id).lne = s.lne := rfl
@[simp] theorem State.count_masked (id : Nat) : (s.count id).masked = s.masked := rfl
@[simp] theorem State.count_deal (id : Nat) : (s.count id).deal = s.deal := rfl
@[simp] theorem State.count_free (id : Nat) : (s.count id).free = s.free := rfl
@[simp] theorem State.count_out (id : Nat) : (s.count id).out = s.out := rfl
@[simp] theorem State.count_pending (id : Nat) : (s.count id).pending = s.pending := rfl

@[simp] theorem State.emit_regs (o : Output) : (s.emit o).regs = s.regs := rfl
@[simp] theorem State.emit_st0 (o : Output) : (s.emit o).st0 = s.st0 := rfl
@[simp] theorem State.emit_st1 (o : Output) : (s.emit o).st1 = s.st1 := rfl
@[simp] theorem State.emit_cnt (o : Output) : (s.emit o).cnt = s.cnt := rfl
@[simp] theorem State.emit_frames (o : Output) : (s.emit o).frames = s.frames := rfl
@[simp] theorem State.emit_nextFrame (o : Output) : (s.emit o).nextFrame = s.nextFrame := rfl
@[simp] theorem State.emit_reps (o : Output) : (s.emit o).reps = s.reps := rfl
@[simp] theorem State.emit_nextRep (o : Output) : (s.emit o).nextRep = s.nextRep := rfl
@[simp] theorem State.emit_nextLk (o : Output) : (s.emit o).nextLk = s.nextLk := rfl
@[simp] theorem State.emit_rows (o : Output) : (s.emit o).rows = s.rows := rfl
@[simp] theorem State.emit_fwd (o : Output) : (s.emit o).fwd = s.fwd := rfl
@[simp] theorem State.emit_swc (o : Output) : (s.emit o).swc = s.swc := rfl
@[simp] theorem State.emit_ports (o : Output) : (s.emit o).ports = s.ports := rfl
@[simp] theorem State.emit_rings (o : Output) : (s.emit o).rings = s.rings := rfl
@[simp] theorem State.emit_rxNext (o : Output) : (s.emit o).rxNext = s.rxNext := rfl
@[simp] theorem State.emit_txNext (o : Output) : (s.emit o).txNext = s.txNext := rfl
@[simp] theorem State.emit_irq (o : Output) : (s.emit o).irq = s.irq := rfl
@[simp] theorem State.emit_hlt (o : Output) : (s.emit o).hlt = s.hlt := rfl
@[simp] theorem State.emit_pair (o : Output) : (s.emit o).pair = s.pair := rfl
@[simp] theorem State.emit_tim (o : Output) : (s.emit o).tim = s.tim := rfl
@[simp] theorem State.emit_tic (o : Output) : (s.emit o).tic = s.tic := rfl
@[simp] theorem State.emit_sessions (o : Output) : (s.emit o).sessions = s.sessions := rfl
@[simp] theorem State.emit_tblOwner (o : Output) : (s.emit o).tblOwner = s.tblOwner := rfl
@[simp] theorem State.emit_jobs (o : Output) : (s.emit o).jobs = s.jobs := rfl
@[simp] theorem State.emit_mbx (o : Output) : (s.emit o).mbx = s.mbx := rfl
@[simp] theorem State.emit_boot (o : Output) : (s.emit o).boot = s.boot := rfl
@[simp] theorem State.emit_flash (o : Output) : (s.emit o).flash = s.flash := rfl
@[simp] theorem State.emit_lne (o : Output) : (s.emit o).lne = s.lne := rfl
@[simp] theorem State.emit_masked (o : Output) : (s.emit o).masked = s.masked := rfl
@[simp] theorem State.emit_deal (o : Output) : (s.emit o).deal = s.deal := rfl
@[simp] theorem State.emit_free (o : Output) : (s.emit o).free = s.free := rfl
@[simp] theorem State.emit_pending (o : Output) : (s.emit o).pending = s.pending := rfl

@[simp] theorem State.putFrame_regs (id : Nat) (f : Frame) : (s.putFrame id f).regs = s.regs := rfl
@[simp] theorem State.putFrame_st0 (id : Nat) (f : Frame) : (s.putFrame id f).st0 = s.st0 := rfl
@[simp] theorem State.putFrame_st1 (id : Nat) (f : Frame) : (s.putFrame id f).st1 = s.st1 := rfl
@[simp] theorem State.putFrame_cnt (id : Nat) (f : Frame) : (s.putFrame id f).cnt = s.cnt := rfl
@[simp] theorem State.putFrame_nextFrame (id : Nat) (f : Frame) : (s.putFrame id f).nextFrame = s.nextFrame := rfl
@[simp] theorem State.putFrame_reps (id : Nat) (f : Frame) : (s.putFrame id f).reps = s.reps := rfl
@[simp] theorem State.putFrame_nextRep (id : Nat) (f : Frame) : (s.putFrame id f).nextRep = s.nextRep := rfl
@[simp] theorem State.putFrame_nextLk (id : Nat) (f : Frame) : (s.putFrame id f).nextLk = s.nextLk := rfl
@[simp] theorem State.putFrame_rows (id : Nat) (f : Frame) : (s.putFrame id f).rows = s.rows := rfl
@[simp] theorem State.putFrame_fwd (id : Nat) (f : Frame) : (s.putFrame id f).fwd = s.fwd := rfl
@[simp] theorem State.putFrame_swc (id : Nat) (f : Frame) : (s.putFrame id f).swc = s.swc := rfl
@[simp] theorem State.putFrame_ports (id : Nat) (f : Frame) : (s.putFrame id f).ports = s.ports := rfl
@[simp] theorem State.putFrame_rings (id : Nat) (f : Frame) : (s.putFrame id f).rings = s.rings := rfl
@[simp] theorem State.putFrame_rxNext (id : Nat) (f : Frame) : (s.putFrame id f).rxNext = s.rxNext := rfl
@[simp] theorem State.putFrame_txNext (id : Nat) (f : Frame) : (s.putFrame id f).txNext = s.txNext := rfl
@[simp] theorem State.putFrame_irq (id : Nat) (f : Frame) : (s.putFrame id f).irq = s.irq := rfl
@[simp] theorem State.putFrame_hlt (id : Nat) (f : Frame) : (s.putFrame id f).hlt = s.hlt := rfl
@[simp] theorem State.putFrame_pair (id : Nat) (f : Frame) : (s.putFrame id f).pair = s.pair := rfl
@[simp] theorem State.putFrame_tim (id : Nat) (f : Frame) : (s.putFrame id f).tim = s.tim := rfl
@[simp] theorem State.putFrame_tic (id : Nat) (f : Frame) : (s.putFrame id f).tic = s.tic := rfl
@[simp] theorem State.putFrame_sessions (id : Nat) (f : Frame) : (s.putFrame id f).sessions = s.sessions := rfl
@[simp] theorem State.putFrame_tblOwner (id : Nat) (f : Frame) : (s.putFrame id f).tblOwner = s.tblOwner := rfl
@[simp] theorem State.putFrame_jobs (id : Nat) (f : Frame) : (s.putFrame id f).jobs = s.jobs := rfl
@[simp] theorem State.putFrame_mbx (id : Nat) (f : Frame) : (s.putFrame id f).mbx = s.mbx := rfl
@[simp] theorem State.putFrame_boot (id : Nat) (f : Frame) : (s.putFrame id f).boot = s.boot := rfl
@[simp] theorem State.putFrame_flash (id : Nat) (f : Frame) : (s.putFrame id f).flash = s.flash := rfl
@[simp] theorem State.putFrame_lne (id : Nat) (f : Frame) : (s.putFrame id f).lne = s.lne := rfl
@[simp] theorem State.putFrame_masked (id : Nat) (f : Frame) : (s.putFrame id f).masked = s.masked := rfl
@[simp] theorem State.putFrame_deal (id : Nat) (f : Frame) : (s.putFrame id f).deal = s.deal := rfl
@[simp] theorem State.putFrame_free (id : Nat) (f : Frame) : (s.putFrame id f).free = s.free := rfl
@[simp] theorem State.putFrame_out (id : Nat) (f : Frame) : (s.putFrame id f).out = s.out := rfl
@[simp] theorem State.putFrame_pending (id : Nat) (f : Frame) : (s.putFrame id f).pending = s.pending := rfl

@[simp] theorem State.putRep_regs (k : Nat) (r : Replica) : (s.putRep k r).regs = s.regs := rfl
@[simp] theorem State.putRep_st0 (k : Nat) (r : Replica) : (s.putRep k r).st0 = s.st0 := rfl
@[simp] theorem State.putRep_st1 (k : Nat) (r : Replica) : (s.putRep k r).st1 = s.st1 := rfl
@[simp] theorem State.putRep_cnt (k : Nat) (r : Replica) : (s.putRep k r).cnt = s.cnt := rfl
@[simp] theorem State.putRep_frames (k : Nat) (r : Replica) : (s.putRep k r).frames = s.frames := rfl
@[simp] theorem State.putRep_nextFrame (k : Nat) (r : Replica) : (s.putRep k r).nextFrame = s.nextFrame := rfl
@[simp] theorem State.putRep_nextRep (k : Nat) (r : Replica) : (s.putRep k r).nextRep = s.nextRep := rfl
@[simp] theorem State.putRep_nextLk (k : Nat) (r : Replica) : (s.putRep k r).nextLk = s.nextLk := rfl
@[simp] theorem State.putRep_rows (k : Nat) (r : Replica) : (s.putRep k r).rows = s.rows := rfl
@[simp] theorem State.putRep_fwd (k : Nat) (r : Replica) : (s.putRep k r).fwd = s.fwd := rfl
@[simp] theorem State.putRep_swc (k : Nat) (r : Replica) : (s.putRep k r).swc = s.swc := rfl
@[simp] theorem State.putRep_ports (k : Nat) (r : Replica) : (s.putRep k r).ports = s.ports := rfl
@[simp] theorem State.putRep_rings (k : Nat) (r : Replica) : (s.putRep k r).rings = s.rings := rfl
@[simp] theorem State.putRep_rxNext (k : Nat) (r : Replica) : (s.putRep k r).rxNext = s.rxNext := rfl
@[simp] theorem State.putRep_txNext (k : Nat) (r : Replica) : (s.putRep k r).txNext = s.txNext := rfl
@[simp] theorem State.putRep_irq (k : Nat) (r : Replica) : (s.putRep k r).irq = s.irq := rfl
@[simp] theorem State.putRep_hlt (k : Nat) (r : Replica) : (s.putRep k r).hlt = s.hlt := rfl
@[simp] theorem State.putRep_pair (k : Nat) (r : Replica) : (s.putRep k r).pair = s.pair := rfl
@[simp] theorem State.putRep_tim (k : Nat) (r : Replica) : (s.putRep k r).tim = s.tim := rfl
@[simp] theorem State.putRep_tic (k : Nat) (r : Replica) : (s.putRep k r).tic = s.tic := rfl
@[simp] theorem State.putRep_sessions (k : Nat) (r : Replica) : (s.putRep k r).sessions = s.sessions := rfl
@[simp] theorem State.putRep_tblOwner (k : Nat) (r : Replica) : (s.putRep k r).tblOwner = s.tblOwner := rfl
@[simp] theorem State.putRep_jobs (k : Nat) (r : Replica) : (s.putRep k r).jobs = s.jobs := rfl
@[simp] theorem State.putRep_mbx (k : Nat) (r : Replica) : (s.putRep k r).mbx = s.mbx := rfl
@[simp] theorem State.putRep_boot (k : Nat) (r : Replica) : (s.putRep k r).boot = s.boot := rfl
@[simp] theorem State.putRep_flash (k : Nat) (r : Replica) : (s.putRep k r).flash = s.flash := rfl
@[simp] theorem State.putRep_lne (k : Nat) (r : Replica) : (s.putRep k r).lne = s.lne := rfl
@[simp] theorem State.putRep_masked (k : Nat) (r : Replica) : (s.putRep k r).masked = s.masked := rfl
@[simp] theorem State.putRep_deal (k : Nat) (r : Replica) : (s.putRep k r).deal = s.deal := rfl
@[simp] theorem State.putRep_free (k : Nat) (r : Replica) : (s.putRep k r).free = s.free := rfl
@[simp] theorem State.putRep_out (k : Nat) (r : Replica) : (s.putRep k r).out = s.out := rfl
@[simp] theorem State.putRep_pending (k : Nat) (r : Replica) : (s.putRep k r).pending = s.pending := rfl

@[simp] theorem State.stPut_regs (e : Nat) (r : Reg) (v : Word) : (s.stPut e r v).regs = s.regs := by
  unfold State.stPut; split <;> rfl
@[simp] theorem State.stPut_cnt (e : Nat) (r : Reg) (v : Word) : (s.stPut e r v).cnt = s.cnt := by
  unfold State.stPut; split <;> rfl
@[simp] theorem State.stPut_frames (e : Nat) (r : Reg) (v : Word) : (s.stPut e r v).frames = s.frames := by
  unfold State.stPut; split <;> rfl
@[simp] theorem State.stPut_nextFrame (e : Nat) (r : Reg) (v : Word) : (s.stPut e r v).nextFrame = s.nextFrame := by
  unfold State.stPut; split <;> rfl
@[simp] theorem State.stPut_reps (e : Nat) (r : Reg) (v : Word) : (s.stPut e r v).reps = s.reps := by
  unfold State.stPut; split <;> rfl
@[simp] theorem State.stPut_nextRep (e : Nat) (r : Reg) (v : Word) : (s.stPut e r v).nextRep = s.nextRep := by
  unfold State.stPut; split <;> rfl
@[simp] theorem State.stPut_nextLk (e : Nat) (r : Reg) (v : Word) : (s.stPut e r v).nextLk = s.nextLk := by
  unfold State.stPut; split <;> rfl
@[simp] theorem State.stPut_rows (e : Nat) (r : Reg) (v : Word) : (s.stPut e r v).rows = s.rows := by
  unfold State.stPut; split <;> rfl
@[simp] theorem State.stPut_fwd (e : Nat) (r : Reg) (v : Word) : (s.stPut e r v).fwd = s.fwd := by
  unfold State.stPut; split <;> rfl
@[simp] theorem State.stPut_swc (e : Nat) (r : Reg) (v : Word) : (s.stPut e r v).swc = s.swc := by
  unfold State.stPut; split <;> rfl
@[simp] theorem State.stPut_ports (e : Nat) (r : Reg) (v : Word) : (s.stPut e r v).ports = s.ports := by
  unfold State.stPut; split <;> rfl
@[simp] theorem State.stPut_rings (e : Nat) (r : Reg) (v : Word) : (s.stPut e r v).rings = s.rings := by
  unfold State.stPut; split <;> rfl
@[simp] theorem State.stPut_rxNext (e : Nat) (r : Reg) (v : Word) : (s.stPut e r v).rxNext = s.rxNext := by
  unfold State.stPut; split <;> rfl
@[simp] theorem State.stPut_txNext (e : Nat) (r : Reg) (v : Word) : (s.stPut e r v).txNext = s.txNext := by
  unfold State.stPut; split <;> rfl
@[simp] theorem State.stPut_irq (e : Nat) (r : Reg) (v : Word) : (s.stPut e r v).irq = s.irq := by
  unfold State.stPut; split <;> rfl
@[simp] theorem State.stPut_hlt (e : Nat) (r : Reg) (v : Word) : (s.stPut e r v).hlt = s.hlt := by
  unfold State.stPut; split <;> rfl
@[simp] theorem State.stPut_pair (e : Nat) (r : Reg) (v : Word) : (s.stPut e r v).pair = s.pair := by
  unfold State.stPut; split <;> rfl
@[simp] theorem State.stPut_tim (e : Nat) (r : Reg) (v : Word) : (s.stPut e r v).tim = s.tim := by
  unfold State.stPut; split <;> rfl
@[simp] theorem State.stPut_tic (e : Nat) (r : Reg) (v : Word) : (s.stPut e r v).tic = s.tic := by
  unfold State.stPut; split <;> rfl
@[simp] theorem State.stPut_sessions (e : Nat) (r : Reg) (v : Word) : (s.stPut e r v).sessions = s.sessions := by
  unfold State.stPut; split <;> rfl
@[simp] theorem State.stPut_tblOwner (e : Nat) (r : Reg) (v : Word) : (s.stPut e r v).tblOwner = s.tblOwner := by
  unfold State.stPut; split <;> rfl
@[simp] theorem State.stPut_jobs (e : Nat) (r : Reg) (v : Word) : (s.stPut e r v).jobs = s.jobs := by
  unfold State.stPut; split <;> rfl
@[simp] theorem State.stPut_mbx (e : Nat) (r : Reg) (v : Word) : (s.stPut e r v).mbx = s.mbx := by
  unfold State.stPut; split <;> rfl
@[simp] theorem State.stPut_boot (e : Nat) (r : Reg) (v : Word) : (s.stPut e r v).boot = s.boot := by
  unfold State.stPut; split <;> rfl
@[simp] theorem State.stPut_flash (e : Nat) (r : Reg) (v : Word) : (s.stPut e r v).flash = s.flash := by
  unfold State.stPut; split <;> rfl
@[simp] theorem State.stPut_lne (e : Nat) (r : Reg) (v : Word) : (s.stPut e r v).lne = s.lne := by
  unfold State.stPut; split <;> rfl
@[simp] theorem State.stPut_masked (e : Nat) (r : Reg) (v : Word) : (s.stPut e r v).masked = s.masked := by
  unfold State.stPut; split <;> rfl
@[simp] theorem State.stPut_deal (e : Nat) (r : Reg) (v : Word) : (s.stPut e r v).deal = s.deal := by
  unfold State.stPut; split <;> rfl
@[simp] theorem State.stPut_free (e : Nat) (r : Reg) (v : Word) : (s.stPut e r v).free = s.free := by
  unfold State.stPut; split <;> rfl
@[simp] theorem State.stPut_out (e : Nat) (r : Reg) (v : Word) : (s.stPut e r v).out = s.out := by
  unfold State.stPut; split <;> rfl
@[simp] theorem State.stPut_pending (e : Nat) (r : Reg) (v : Word) : (s.stPut e r v).pending = s.pending := by
  unfold State.stPut; split <;> rfl

@[simp] theorem State.put_self_regs (r : Reg) (v : Word) : (s.put r v).regs = sput r.resetWord s.regs r.addr v := rfl
@[simp] theorem State.emit_out (o : Output) : (s.emit o).out = o :: s.out := rfl
@[simp] theorem State.putFrame_frames (id : Nat) (f : Frame) : (s.putFrame id f).frames = sinsert s.frames id f := rfl
@[simp] theorem State.putRep_reps (k : Nat) (r : Replica) : (s.putRep k r).reps = sinsert s.reps k r := rfl
@[simp] theorem State.put_self_masked (r : Reg) (v : Word) :
    (s.put r v).masked = unmask s.masked r (BitVec.allOnes 32) := rfl
@[simp] theorem State.setFld_self_masked (r : Reg) (f : Fld) (v : Nat) :
    (s.setFld r f v).masked = unmask s.masked r f.mask := rfl

end Sys2Proof.Machine
end

