-- ==== Sys2Proof/Laws/Store.lean ====
section
/-! SUPPORT. Sparse stores: what a write leaves, and that every operation keeps the canonical form. -/
namespace Sys2Proof.Machine

variable {α : Type}

theorem sfind_sinsert_self (m : SMap α) (k : Nat) (v : α) : sfind (sinsert m k v) k = some v := by
  induction m with
  | nil => simp [sinsert, sfind]
  | cons h m ih =>
    obtain ⟨j, w⟩ := h
    simp only [sinsert]
    split
    · simp [sfind]
    · split
      · simp [sfind]
      · rename_i h1 h2
        simp [sfind, ih, Ne.symm h2]

theorem sfind_sinsert_ne (m : SMap α) (k k' : Nat) (v : α) (h : k ≠ k') : sfind (sinsert m k v) k' = sfind m k' := by
  induction m with
  | nil => simp [sinsert, sfind, h]
  | cons e m ih =>
    obtain ⟨j, w⟩ := e
    simp only [sinsert]
    split
    · simp [sfind, h]
    · split
      · rename_i h2; subst h2; simp [sfind, h]
      · simp [sfind, ih]

theorem sfind_serase_ne (m : SMap α) (k k' : Nat) (h : k ≠ k') : sfind (serase m k) k' = sfind m k' := by
  induction m with
  | nil => rfl
  | cons e m ih =>
    obtain ⟨j, w⟩ := e
    simp only [serase]
    split
    · rename_i h2; subst h2; simp [sfind, h]
    · simp [sfind, ih]

theorem skeysFrom_cons (l : Option Nat) (k : Nat) (v : α) (m : SMap α) :
    skeysFrom l ((k, v) :: m) = true ↔ (∀ x, l = some x → x < k) ∧ skeysFrom (some k) m = true := by
  cases l <;> simp [skeysFrom]

theorem skeysFrom_mono (m : SMap α) {a b : Nat} (h : a ≤ b) (hm : skeysFrom (some b) m = true) :
    skeysFrom (some a) m = true := by
  cases m with
  | nil => rfl
  | cons e m =>
    obtain ⟨k, v⟩ := e
    rw [skeysFrom_cons] at *
    exact ⟨fun x hx => by cases hx; have := hm.1 b rfl; omega, hm.2⟩

theorem skeysFrom_none (m : SMap α) {l : Option Nat} (hm : skeysFrom l m = true) : skeysFrom none m = true := by
  cases m with
  | nil => rfl
  | cons e m =>
    obtain ⟨k, v⟩ := e
    rw [skeysFrom_cons] at *
    exact ⟨fun x hx => (by cases hx), hm.2⟩

/-- A key at or below the bound is not listed. -/
theorem sfind_below (m : SMap α) {b k : Nat} (h : k ≤ b) (hm : skeysFrom (some b) m = true) : sfind m k = none := by
  induction m generalizing b with
  | nil => rfl
  | cons e m ih =>
    obtain ⟨j, v⟩ := e
    rw [skeysFrom_cons] at hm
    have hj := hm.1 b rfl
    have : j ≠ k := by omega
    simp [sfind, this, ih (by omega : k ≤ j) hm.2]

theorem skeysFrom_sinsert (m : SMap α) (l : Option Nat) (k : Nat) (v : α) (hl : ∀ x, l = some x → x < k)
    (hm : skeysFrom l m = true) : skeysFrom l (sinsert m k v) = true := by
  induction m generalizing l with
  | nil => rw [sinsert, skeysFrom_cons]; exact ⟨hl, rfl⟩
  | cons e m ih =>
    obtain ⟨j, w⟩ := e
    rw [skeysFrom_cons] at hm
    simp only [sinsert]
    split
    · rw [skeysFrom_cons, skeysFrom_cons]
      exact ⟨hl, fun x hx => (by cases hx; assumption), hm.2⟩
    · split
      · rename_i h1 h2; subst h2; rw [skeysFrom_cons]; exact ⟨hl, hm.2⟩
      · rw [skeysFrom_cons]
        exact ⟨hm.1, ih (some j) (fun x hx => by cases hx; omega) hm.2⟩

theorem skeysFrom_serase (m : SMap α) (l : Option Nat) (k : Nat) (hm : skeysFrom l m = true) :
    skeysFrom l (serase m k) = true := by
  induction m generalizing l with
  | nil => rfl
  | cons e m ih =>
    obtain ⟨j, w⟩ := e
    rw [skeysFrom_cons] at hm
    simp only [serase]
    split
    · cases l with
      | none => exact skeysFrom_none m hm.2
      | some x => exact skeysFrom_mono m (le_of_lt (hm.1 x rfl)) hm.2
    · rw [skeysFrom_cons]; exact ⟨hm.1, ih (some j) hm.2⟩

theorem skeysFrom_sput [DecidableEq α] (d : α) (m : SMap α) (k : Nat) (v : α) (hm : skeysFrom none m = true) :
    skeysFrom none (sput d m k v) = true := by
  unfold sput
  split
  · exact skeysFrom_serase m none k hm
  · exact skeysFrom_sinsert m none k v (fun x hx => by cases hx) hm

theorem skeysFrom_filter (m : SMap α) (l : Option Nat) (p : Nat × α → Bool) (hm : skeysFrom l m = true) :
    skeysFrom l (m.filter p) = true := by
  induction m generalizing l with
  | nil => rfl
  | cons e m ih =>
    obtain ⟨j, w⟩ := e
    rw [skeysFrom_cons] at hm
    rw [List.filter_cons]
    split
    · rw [skeysFrom_cons]; exact ⟨hm.1, ih (some j) hm.2⟩
    · cases l with
      | none => exact skeysFrom_none _ (ih (some j) hm.2)
      | some x => exact skeysFrom_mono _ (le_of_lt (hm.1 x rfl)) (ih (some j) hm.2)

theorem sfind_serase_self (m : SMap α) (l : Option Nat) (k : Nat) (hm : skeysFrom l m = true) :
    sfind (serase m k) k = none := by
  induction m generalizing l with
  | nil => rfl
  | cons e m ih =>
    obtain ⟨j, w⟩ := e
    rw [skeysFrom_cons] at hm
    simp only [serase]
    split
    · rename_i h; subst h; exact sfind_below m (le_refl _) hm.2
    · rename_i h; simp [sfind, h, ih (some j) hm.2]

/-- A read at the key written gives what was written. -/
theorem sgetD_sput_self [DecidableEq α] (d : α) (m : SMap α) (k : Nat) (v : α) (hm : skeysFrom none m = true) :
    sgetD (sput d m k v) k d = v := by
  unfold sgetD sput
  split
  · rename_i h; rw [sfind_serase_self m none k hm, h]; rfl
  · rw [sfind_sinsert_self]; rfl

/-- A write leaves every other key as it was. -/
theorem sgetD_sput_ne [DecidableEq α] (d e : α) (m : SMap α) (k k' : Nat) (v : α) (h : k ≠ k') :
    sgetD (sput d m k v) k' e = sgetD m k' e := by
  unfold sgetD sput
  split
  · rw [sfind_serase_ne m k k' h]
  · rw [sfind_sinsert_ne m k k' v h]

end Sys2Proof.Machine
end

