-- ==== Sys2Proof/Laws/Registers.lean ====
section
/-! SUPPORT. Registers and counters: a read after a write, and what the shared operations change at all. -/
namespace Sys2Proof.Machine

variable (s : State)

/-- The register file is in its one form. -/
abbrev State.regsOk (s : State) : Prop := skeysFrom none s.regs = true

theorem State.regsOk_put (r : Reg) (v : Word) (h : s.regsOk) : (s.put r v).regsOk := skeysFrom_sput _ _ _ _ h

theorem State.regsOk_setFld (r : Reg) (f : Fld) (v : Nat) (h : s.regsOk) : (s.setFld r f v).regsOk :=
  skeysFrom_sput _ _ _ _ h

theorem State.get_put_self (r : Reg) (v : Word) (h : s.regsOk) : (s.put r v).get r = v :=
  sgetD_sput_self _ _ _ _ h

theorem State.get_put_ne (r q : Reg) (v : Word) (h : r.addr ≠ q.addr) : (s.put r v).get q = s.get q :=
  sgetD_sput_ne _ _ _ _ _ _ h

theorem State.get_setFld_self (r : Reg) (f : Fld) (v : Nat) (h : s.regsOk) :
    (s.setFld r f v).get r = f.set (s.get r) v := sgetD_sput_self _ _ _ _ h

theorem State.get_setFld_ne (r q : Reg) (f : Fld) (v : Nat) (h : r.addr ≠ q.addr) :
    (s.setFld r f v).get q = s.get q := sgetD_sput_ne _ _ _ _ _ _ h

theorem State.fld_setFld_self (r : Reg) (f : Fld) (v : Nat) (h : s.regsOk) (hf : f.lo + f.w ≤ 32) :
    (s.setFld r f v).fld r f = v % 2 ^ f.w := by
  rw [State.fld, s.get_setFld_self r f v h, f.get_set _ _ hf]

theorem State.fld_setFld_apart (r : Reg) (f g : Fld) (v : Nat) (h : s.regsOk) (ha : f.apart g = true)
    (hg : g.lo + g.w ≤ 32) : (s.setFld r f v).fld r g = s.fld r g := by
  rw [State.fld, s.get_setFld_self r f v h, f.get_set_apart g _ _ ha hg, State.fld]

theorem State.fld_setFld_ne (r q : Reg) (f g : Fld) (v : Nat) (h : r.addr ≠ q.addr) :
    (s.setFld r f v).fld q g = s.fld q g := by
  rw [State.fld, s.get_setFld_ne r q f v h, State.fld]

theorem unmask_ne (m : SMap Word) (r q : Reg) (b : Word) (h : r.addr ≠ q.addr) :
    sgetD (unmask m r b) q.addr 0#32 = sgetD m q.addr 0#32 := by
  unfold unmask
  split
  · rfl
  · exact sgetD_sput_ne _ _ _ _ _ _ h

theorem State.resetBits_put_ne (r q : Reg) (v : Word) (h : r.addr ≠ q.addr) :
    (s.put r v).resetBits q = s.resetBits q := unmask_ne _ _ _ _ h
theorem State.resetBits_setFld_ne (r q : Reg) (f : Fld) (v : Nat) (h : r.addr ≠ q.addr) :
    (s.setFld r f v).resetBits q = s.resetBits q := unmask_ne _ _ _ _ h
/-- Only registers with kept fields carry such bits. -/
theorem State.masked_put_plain (r : Reg) (v : Word) (h : r.keptFields = []) : (s.put r v).masked = s.masked := by
  simp [unmask, h]
theorem State.masked_setFld_plain (r : Reg) (f : Fld) (v : Nat) (h : r.keptFields = []) :
    (s.setFld r f v).masked = s.masked := by
  simp [unmask, h]

@[simp] theorem State.count_resetBits (id : Nat) (r : Reg) : (s.count id).resetBits r = s.resetBits r := rfl
@[simp] theorem State.emit_resetBits (o : Output) (r : Reg) : (s.emit o).resetBits r = s.resetBits r := rfl
@[simp] theorem State.count_get (id : Nat) (r : Reg) : (s.count id).get r = s.get r := rfl
@[simp] theorem State.emit_get (o : Output) (r : Reg) : (s.emit o).get r = s.get r := rfl
@[simp] theorem State.count_fld (id : Nat) (r : Reg) (f : Fld) : (s.count id).fld r f = s.fld r f := rfl
@[simp] theorem State.emit_fld (o : Output) (r : Reg) (f : Fld) : (s.emit o).fld r f = s.fld r f := rfl

/-- A counter that is counted holds one more and keeps its WRAP bit, which a wrap sets. -/
theorem State.counter_count_self (id : Nat) (h : skeysFrom none s.cnt = true) :
    (s.count id).counter id =
      ⟨(s.counter id).val + 1, (s.counter id).wrap || (s.counter id).val == BitVec.allOnes 64⟩ :=
  sgetD_sput_self _ _ _ _ h

theorem State.counter_count_ne (id k : Nat) (h : id ≠ k) : (s.count id).counter k = s.counter k :=
  sgetD_sput_ne _ _ _ _ _ _ h

end Sys2Proof.Machine
end

