-- ==== Sys2Proof/Laws/Signals.lean ====
section
/-! SUPPORT. What raising an event can change at all, said once: whatever the log's registers, the event counters, the
conditions, the interrupt controller and messages leave as it was is left by every health event and interrupt. -/
namespace Sys2Proof

open Sys2Proof.Machine

/-- A property that no part of signalling disturbs. -/
structure SignalProof (P : State → Prop) : Prop where
  put : ∀ u r v, signalAddr r.addr → P u → P (u.put r v)
  count : ∀ u id, 0x100 ≤ id → id < 0x200 → P u → P (u.count id)
  hlt : ∀ (u : State) (x : Hlt), P u → P { u with hlt := x }
  irq : ∀ (u : State) (x : Irq), P u → P { u with irq := x }
  emit : ∀ u o, P u → P (u.emit o)

theorem signalAddr_src {i : Nat} (h : i < 128) : signalAddr (Reg.HST_IRQ_SRC i).addr := .inr (.inr ⟨i, h, rfl⟩)
theorem signalAddr_log {j k : Nat} (h : j < 256) (h' : k < 8) : signalAddr (Reg.HLT_LOG j k).addr :=
  .inr (.inl ⟨j, k, h, h', rfl⟩)
theorem signalAddr_head : signalAddr Reg.HLT_LOG_HEAD.addr := .inl rfl

theorem foldl_keeps {α : Type} {P : State → Prop} (l : List α) (f : State → α → State) {u : State} (h : P u)
    (hf : ∀ v x, x ∈ l → P v → P (f v x)) : P (l.foldl f u) := by
  induction l generalizing u with
  | nil => exact h
  | cons x l ih => exact ih (hf _ _ (by simp) h) fun v y hy => hf v y (by simp [hy])

theorem irqLive_lt {i : Nat} (s : State) (h : i ∈ s.irqLive) : i < 128 := by
  unfold State.irqLive at h; simp at h; exact h.1

namespace SignalProof

variable {P : State → Prop} (c : SignalProof P) {u : State}
include c

theorem irqBind (h : P u) {i : Nat} (hi : i < 128) (t : Option Nat) : P (u.irqBind i t) := by
  unfold State.irqBind
  split <;> exact c.put _ _ _ (signalAddr_src hi) (c.put _ _ _ (signalAddr_src hi) h)

theorem notify (h : P u) (t : Nat) : P (u.notify t) := by
  unfold State.notify
  split
  · exact h
  · dsimp only
    split
    · exact c.irq _ _ (c.irq _ _ h)
    · exact c.emit _ _ (c.irq _ _ h)

theorem irqBindOne (h : P u) {i : Nat} (hi : i < 128) : P (u.irqBindOne i) := by
  unfold State.irqBindOne
  split
  · exact h
  · split
    · exact h
    · exact c.notify (c.irqBind (c.irq _ _ h) hi _) _

theorem irqSettle (h : P u) : P u.irqSettle := by
  unfold State.irqSettle
  dsimp only
  refine foldl_keeps _ _ (foldl_keeps _ _ h ?_) ?_
  · intro v x hx hv
    simp only [List.mem_range] at hx
    split
    · split
      · exact hv
      · exact c.irqBind hv hx _
    · exact hv
  · intro v x hx hv
    simp only [List.mem_flatMap, List.mem_filter] at hx
    obtain ⟨_, _, hx, _⟩ := hx
    exact c.irqBindOne hv (irqLive_lt u hx)

theorem irqEvent (h : P u) {i : Nat} (hi : i < 128) : P (u.irqEvent i) := by
  unfold State.irqEvent
  split
  · exact c.irqSettle (c.put _ _ _ (signalAddr_src hi) h)
  · exact c.irqSettle h

theorem logEntry (h : P u) (code i d : Nat) (b : Bool) : P (u.logEntry code i d b) := by
  unfold State.logEntry
  extract_lets head j w s1 s2 x s3
  have hw : ∀ k x v, k < 8 → P v → P (w k x v) := fun k x v hk hv =>
    c.put _ _ _ (signalAddr_log (by omega) hk) hv
  have h1 : P s1 := by
    repeat' apply hw
    all_goals first | exact h | omega
  have h2 : P s2 := c.put _ _ _ signalAddr_head h1
  have h3 : P s3 := c.hlt _ _ h2
  clear_value s3
  split
  · exact h3
  · split
    · exact c.irqEvent h3 (by omega)
    · split
      · exact c.irqEvent h3 (by omega)
      · exact h3

theorem event (h : P u) {code : Nat} (hc : code < 256) (i d : Nat) : P (u.event code i d) := by
  have h1 := c.count _ (C.events code) (by unfold C.events; omega) (by unfold C.events; omega) h
  unfold State.event
  extract_lets v x w
  have h2 : P w := by
    unfold w
    split
    · exact c.hlt _ _ h1
    · exact h1
  clear_value w
  split
  · split
    · exact h2
    · exact c.logEntry h2 ..
  · exact c.logEntry h2 ..

theorem eventClear (h : P u) (code i : Nat) : P (u.eventClear code i) := by
  unfold State.eventClear
  split
  · exact c.logEntry (c.hlt _ _ h) ..
  · exact h

theorem raise (h : P u) {code : Nat} (hc : code < 256) (i d : Nat) : P (u.raise code i d) := by
  unfold State.raise
  split
  · exact h
  · exact c.event h hc i d

end SignalProof

/-! ## The three properties that statements use -/

theorem StoresCanonical.signalProof : SignalProof StoresCanonical where
  put _ _ _ _ h := ⟨skeysFrom_sput _ _ _ _ h.regs, h.st0, h.st1, h.cnt, h.frames, h.reps, h.sessions⟩
  count _ _ _ _ h := ⟨h.regs, h.st0, h.st1, skeysFrom_sput _ _ _ _ h.cnt, h.frames, h.reps, h.sessions⟩
  hlt _ _ h := ⟨h.regs, h.st0, h.st1, h.cnt, h.frames, h.reps, h.sessions⟩
  irq _ _ h := ⟨h.regs, h.st0, h.st1, h.cnt, h.frames, h.reps, h.sessions⟩
  emit _ _ h := ⟨h.regs, h.st0, h.st1, h.cnt, h.frames, h.reps, h.sessions⟩

theorem StoresCanonical.put {s : State} (h : StoresCanonical s) (r : Reg) (v : Word) : StoresCanonical (s.put r v) :=
  ⟨skeysFrom_sput _ _ _ _ h.regs, h.st0, h.st1, h.cnt, h.frames, h.reps, h.sessions⟩
theorem StoresCanonical.setFld {s : State} (h : StoresCanonical s) (r : Reg) (f : Fld) (v : Nat) :
    StoresCanonical (s.setFld r f v) :=
  ⟨skeysFrom_sput _ _ _ _ h.regs, h.st0, h.st1, h.cnt, h.frames, h.reps, h.sessions⟩
theorem StoresCanonical.count {s : State} (h : StoresCanonical s) (id : Nat) : StoresCanonical (s.count id) :=
  ⟨h.regs, h.st0, h.st1, skeysFrom_sput _ _ _ _ h.cnt, h.frames, h.reps, h.sessions⟩

section Frames
variable {rs : List Reg} {ids : List Nat} {s u t : State}

theorem Writes.refl : Writes rs ids s s := ⟨rfl, fun _ _ => ⟨rfl, rfl⟩, fun _ _ => rfl⟩
theorem Writes.put {r : Reg} (h : Writes rs ids s u) (hr : r ∈ rs) (v : Word) : Writes rs ids s (u.put r v) := by
  refine ⟨?_, fun q hn => ?_, h.cnts⟩
  · rw [show u.put r v = { u with regs := (u.put r v).regs, masked := (u.put r v).masked } from rfl, h.rest]
  · rw [State.get_put_ne _ _ _ _ (hn r hr).symm, State.resetBits_put_ne _ _ _ _ (hn r hr).symm]; exact h.regs q hn
theorem Writes.setFld {r : Reg} (h : Writes rs ids s u) (hr : r ∈ rs) (f : Fld) (v : Nat) :
    Writes rs ids s (u.setFld r f v) := by
  refine ⟨?_, fun q hn => ?_, h.cnts⟩
  · rw [show u.setFld r f v = { u with regs := (u.setFld r f v).regs, masked := (u.setFld r f v).masked } from rfl, h.rest]
  · rw [State.get_setFld_ne _ _ _ _ _ (hn r hr).symm, State.resetBits_setFld_ne _ _ _ _ _ (hn r hr).symm]
    exact h.regs q hn
theorem Writes.count {id : Nat} (h : Writes rs ids s u) (hi : id ∈ ids) : Writes rs ids s (u.count id) := by
  refine ⟨?_, h.regs, fun i a => by rw [State.counter_count_ne _ _ _ (by rintro rfl; exact a hi), h.cnts i a]⟩
  rw [show u.count id = { u with cnt := (u.count id).cnt } from rfl, h.rest]

theorem Signals.refl : Signals rs ids s s := ⟨rfl, fun _ _ _ => ⟨rfl, rfl⟩, fun _ _ _ => rfl⟩
theorem Signals.put {r : Reg} (h : Signals rs ids s u) (hr : signalAddr r.addr ∨ r ∈ rs) (v : Word) :
    Signals rs ids s (u.put r v) := by
  refine ⟨?_, ?_, h.cnts⟩
  · rw [show u.put r v = { u with regs := (u.put r v).regs, masked := (u.put r v).masked } from rfl, h.rest]
  · intro q hq hn
    have hne : r.addr ≠ q.addr := by
      rcases hr with hr | hr
      · intro e; exact hq (e ▸ hr)
      · exact (hn r hr).symm
    rw [State.get_put_ne _ _ _ _ hne, State.resetBits_put_ne _ _ _ _ hne]
    exact h.regs q hq hn
theorem Signals.setFld {r : Reg} (h : Signals rs ids s u) (hr : r ∈ rs) (f : Fld) (v : Nat) :
    Signals rs ids s (u.setFld r f v) := by
  refine ⟨?_, fun q hq hn => ?_, h.cnts⟩
  · rw [show u.setFld r f v = { u with regs := (u.setFld r f v).regs, masked := (u.setFld r f v).masked } from rfl, h.rest]
  · rw [State.get_setFld_ne _ _ _ _ _ (hn r hr).symm, State.resetBits_setFld_ne _ _ _ _ _ (hn r hr).symm]
    exact h.regs q hq hn
theorem Signals.count {id : Nat} (h : Signals rs ids s u) (hi : (0x100 ≤ id ∧ id < 0x200) ∨ id ∈ ids) :
    Signals rs ids s (u.count id) := by
  refine ⟨by rw [show u.count id = { u with cnt := (u.count id).cnt } from rfl, h.rest], h.regs, ?_⟩
  intro i a b
  rw [State.counter_count_ne _ _ _ (by rintro rfl; exact hi.elim a b), h.cnts i a b]

theorem Signals.signalProof : SignalProof (Signals rs ids s) where
  put _ _ v hr h := h.put (.inl hr) v
  count _ _ a b h := h.count (.inl ⟨a, b⟩)
  hlt _ _ h := ⟨by rw [h.rest], h.regs, h.cnts⟩
  irq _ _ h := ⟨by rw [h.rest], h.regs, h.cnts⟩
  emit _ _ h := ⟨by rw [State.emit, h.rest], h.regs, h.cnts⟩

end Frames

/-- A register that signalling does not write reads as before after a health event. -/
theorem event_get (s : State) {code : Nat} (hc : code < 256) (i d : Nat) (r : Reg) (h : ¬ signalAddr r.addr) :
    (s.event code i d).get r = s.get r :=
  (((Signals.signalProof (rs := []) (ids := []) (s := s)).event .refl hc i d).regs r h (by simp)).1
theorem eventClear_get (s : State) (code i : Nat) (r : Reg) (h : ¬ signalAddr r.addr) :
    (s.eventClear code i).get r = s.get r :=
  ((Signals.signalProof (rs := []) (ids := []) (s := s)).eventClear .refl code i).regs r h (by simp) |>.1
theorem irqEvent_get (s : State) {i : Nat} (hi : i < 128) (r : Reg) (h : ¬ signalAddr r.addr) :
    (s.irqEvent i).get r = s.get r :=
  ((Signals.signalProof (rs := []) (ids := []) (s := s)).irqEvent .refl hi).regs r h (by simp) |>.1
theorem irqSettle_get (s : State) (r : Reg) (h : ¬ signalAddr r.addr) : s.irqSettle.get r = s.get r :=
  ((Signals.signalProof (rs := []) (ids := []) (s := s)).irqSettle .refl).regs r h (by simp) |>.1
theorem event_counter (s : State) {code : Nat} (hc : code < 256) (i d id : Nat) (h : ¬ (0x100 ≤ id ∧ id < 0x200)) :
    (s.event code i d).counter id = s.counter id :=
  ((Signals.signalProof (rs := []) (ids := []) (s := s)).event .refl hc i d).cnts id h (by simp)

end Sys2Proof
end

