-- ==== Sys2Proof/WellFormed.lean ====
section
/-! DEFINITION. Which commands name things the device has: ports, lanes, blocks, rings, channels and the like within the
counts of R23, R93, R459, R472 and of their own chapters. A command that names something else is no command of the device;
its meaning still answers a state. -/
namespace Sys2Proof

/-- A request comes from one of the 8 channels or from the service port (R93). -/
def Via.ok : Via → Bool
  | .chan c => c < 8
  | .svc => true

/-- Each word is given by its eight bytes (R284). -/
def badWordsOk (l : BadWords) : Bool := l.all fun w => w.2.length == 8

/-- The command's operands name existing units. -/
def Instr.wf : Instr → Bool
  | .portLanesUp p _ _ | .portUp p _ | .portAlignFail p _ _ | .portDown p _ | .parkWindowExpires p | .pauseFrameTx p => p < 1024
  | .pauseExpires p i | .pauseRepeatDue p i => p < 1024 && i < 8
  | .fecCodewordError p _ => p < 1024
  | .frameStartRx f => f.port < 1024 && f.lane < 1024 && f.ball < 2 ^ 64
  | .pipTblWrite k | .pipTblClear k | .pipTblRead k => k < 8
  | .goneClear b => b < 2 ^ 27
  | .hbmStackDown h => h < 4
  | .spillRefill g q bad => g < 64 && q < 16384 && badWordsOk bad
  | .bankCopyDone b => b < 1088
  | .frameTxStart p lane ball => p < 1024 && lane < 1024 && ball < 2 ^ 64
  | .frameTxEnd p ecc => p < 1024 && badWordsOk ecc.bad
  | .unitStalled k _ _ | .unitSelftestDone k _ _ _ => k < 8
  | .tempReading k _ => k < 32
  | .pcieLinkUp speed width => 1 ≤ speed && speed ≤ 5 && [1, 2, 4, 8].contains width
  | .hostRxDeliver r _ | .hostTxFrame r _ _ _ | .hostTxRetry r _ | .hostTxCompletion r => r < 32
  | .ringEnable _ x _ | .ringDisable _ x _ | .ringStopped x | .ringDmaError x _ _ | .ringNoticeTimeout x => x < 64
  | .irqClaim _ t | .irqEoi _ t _ => t < 8
  | .irqSrcWrite _ n _ => n < 128
  | .msixUnmask o a _ => (match o with | .control _ _ => true | .write => decide (a < 8192) | .read => decide (a < 8192))
  | .counterRead _ id => id < 0x60000
  | .histCfgWrite _ p _ => p < 1024
  | .phaseSample p w _ => p < 1024 && w < 2 ^ 32
  | .ptpSyncTx p | .ptpFollowUpTx p | .ptpDelayRespTx p | .ptpAnnounceTx p | .ptpDelayReqTx p | .ptpSignalingTx p
  | .announceTimeout p | .l1PeerTimeout p | .gateEntryChange p | .gateScheduleChange p => p < 1024
  | .triggerArm _ k _ | .triggerStop _ k _ | .triggerInstant k => k < 16
  | .ppsPulseEnd k => k < 4
  | .refEdge k code => k < 4 && code < 1024
  | .refLos k | .slotRemainExpires k | .refCfgWrite _ k _ => k < 8
  | .ticEdge k _ code => k < 16 && code < 1024
  | .stopStampExpires k | .intervalTimeout k | .recipGateEnd k | .ticResultRead _ k
  | .ticCfgWrite _ k _ _ => k < 16
  | .blockResetRequest _ d w b _ | .blockResetDone d w b | .blockResetTimeout d w b => d < 16 && w < 64 && b < 64
  | .openReq v | .auth v | .close v | .bind v | .unbind v | .read v | .write v | .readStaged v | .begin v | .commit v
  | .abort v | .tableOp v | .txnStatus v | .imageBegin v | .imageData v | .imageEnd v => v.ok
  | .registerWrite _ a _ _ | .windowRead a => a < 2 ^ 26
  | .bandCheckEnd b _ | .lockDeclared b _ | .lockAttemptFail b | .alignmentDone b | .alignTimeout b | .lossOfLock b _
  | .pllRetry b => b < 128
  | .coeffRequestRx n r => n < 1024 && (match r with | .step t _ => decide (t < 5) | _ => true)
  | .coeffRequestRepeat n r _ _ => n < 1024 && (match r with | .step t _ => decide (t < 5) | _ => true)
  | .trainSuccess n | .trainTimeout n _ | .cwLockGained n | .cwLockLost n | .cwSearchTimeout n _
  | .lossOfSignal n | .holdoffExpires n _ | .wakeDetected n | .wakeToneDone n _ | .laneCfgWrite _ n _ | .aniseCycleStart n
  | .anisePhaseEnd n _ | .prbsLockGained n _ | .prbsSymbolMismatch n => n < 1024
  | .laneSleepEnter p | .probeDue p => p < 1024
  | .wornanAttemptStart c | .wornanTrainDone c _ _ | .wornanAttemptFail c | .wornanLinkFault c | .wornanRetry c
  | .wornanFlitError c _ => c < 8
  | .tapInstructionLoad code _ _ => (match code with | some x => decide (x < 256) | none => true)
  | .jtagRegAccess _ a _ => a < 2 ^ 32
  | .holdOffExpires c _ => (match c with | some x => decide (x < 8) | none => true)
  | .pcieLinkLoss _ | .svcLinkChange _ _ => true
  | .frameEndRx _ | .pauseFrameRx _ | .frameParse _ | .classify _ _ | .dpiVerdict _ _ | .recircPass _ _ | .lookup _ _
  | .tier2ReadDone _ _ _ | .learnCheck _ _ | .relocationMoveEnd _ | .fwdTblWrite | .fwdTblClear | .fwdTblRead _ | .fwdTblReadNext _
  | .fwdTblFlush | .agingPassStart | .carawayVisit _ | .carawayPassEnd | .t1DecayTick | .rehashGo _ _ | .rehashStepDone _
  | .enqueue _ _ | .frameLastCell _ | .matchingRound _ _ | .mcastTblWrite | .mcastTblClear | .mcastTblRead => true
  | .standbyAckTimeout | .stewardLockstepMismatch | .stewardMemoryError | .stewardSwap _ _ | .stewardRotation
  | .stewardSelftestDone _ | .standbySelftest _ | .stewardSingleTimer | .sumacWindow _ | .avsEval _ | .avsReadback _
  | .avsRetry _ | .memoryScrub _ | .rowScrub _ _ | .spareSelftest _ | .engineStandbySelftest _ | .sensorCheck _ => true
  | .stewardStrobe _ | .servoStrobe _ _ | .safSet _ _ | .safStep _ _ | .safSlew _ _ | .safCancel _ _ | .slewComplete
  | .safTimeRead _ | .ptpSyncRx _ | .ptpFollowUpRx _ | .ptpDelayReqRx _ | .ptpDelayRespRx _ | .ptpAnnounceRx _
  | .ptpSignalingRx _ | .gateTblWrite | .gateTblClear | .gateTblRead | .engineFault _ | .engineSwap _ _
  | .engineSelftestDone _ | .freqEstimate | .switchCommit | .holdoverStore | .holdoverExpires | .calRotationStart _ _ => true
  | .calStepDone seen _ => (seen.scaleCalIn ++ seen.scaleOwn).all fun m => m < 1024
  | .coldReset | .startupBegin | .startupStepEnd _ | .rstNLow | .warmReset | .railLost | .resetCtlWarm _ _
  | .resetCtlReload _ _ | .oscPresenceGate _ | .oscStabilityGate _ | .ocxoWarmHeld | .ocxoWarmLost | .ocxoSlow
  | .oscQualCfgWrite _ _ | .openingTimeout _ | .idleTimeout _ | .svcFrameRx _ | .epochPromotion _ | .commitApply _ | .commitPoint
  | .flashWriteDone _ _ | .bankEraseDone _ => true

end Sys2Proof
end

