-- ==== Sys2Proof/Tests/Slice0.lean ====
section
/-! SUPPORT. The model's own tests: that ill-formed commands are refused, results that the manual states, and for every
statement with hypotheses a state and operands that meet them. -/
namespace Sys2Proof.Tests

open Sys2Proof Sys2Proof.Machine

set_option Elab.async false

/-! ## Small states -/

theorem canon {s : State} (h : (skeysFrom none s.regs && skeysFrom none s.st0 && skeysFrom none s.st1 &&
    skeysFrom none s.cnt && skeysFrom none s.frames && skeysFrom none s.reps && skeysFrom none s.sessions) = true) :
    StoresCanonical s := by
  simp only [Bool.and_eq_true] at h
  exact ⟨h.1.1.1.1.1.1, h.1.1.1.1.1.2, h.1.1.1.1.2, h.1.1.1.2, h.1.1.2, h.1.2, h.2⟩

theorem inRange {s : State} (h : (∀ kv ∈ s.frames, kv.2.port < 1024 ∧ (kv.2.fromHost = true → kv.2.port < 32) ∧
    kv.2.cls < 16) ∧ ∀ kv ∈ s.reps, kv.2.q < 16384) : FramesInRange s :=
  ⟨fun kv m => (h.1 kv m).1, fun kv m => (h.1 kv m).2.1, fun kv m => (h.1 kv m).2.2, h.2⟩

theorem asked {s : State} {v : Via} {code src : Nat} {ws : List Word}
    (a : s.request v = some (src, ws) ∧ reqCommand ws = code ∧ s.awaiting (replyFor v src ws) = false ∧
      s.halted = false ∧ s.stewardHeld = false ∧ lengthOk code ws = true ∧ flagsOk v code ws = true) : Asked s v code src ws :=
  ⟨a.1, a.2.1, a.2.2.1, a.2.2.2.1, a.2.2.2.2.1, a.2.2.2.2.2.1, a.2.2.2.2.2.2⟩

theorem askedBy {s : State} {v : Via} {code src h : Nat} {ws : List Word} {x : Session}
    (a : s.request v = some (src, ws) ∧ reqCommand ws = code ∧ s.awaiting (replyFor v src ws) = false ∧
      s.halted = false ∧ s.stewardHeld = false ∧ lengthOk code ws = true ∧ flagsOk v code ws = true ∧
      (ws.getD 1 0).toNat = h ∧ s.session h = some x ∧ x.isOn v src = true) : AskedBy s v code src ws h x :=
  ⟨⟨a.1, a.2.1, a.2.2.1, a.2.2.2.1, a.2.2.2.2.1, a.2.2.2.2.2.1, a.2.2.2.2.2.2.1⟩, a.2.2.2.2.2.2.2.1,
    a.2.2.2.2.2.2.2.2.1, a.2.2.2.2.2.2.2.2.2⟩

/-- A device at start-up step `i`. -/
def boot (i : Nat) : State :=
  let s := State.reset.setFld .STW_BOOT_STATUS F.STW_BOOT_STATUS_STEP i
  { s with boot := { s.boot with begun := true } }

/-- A running device whose tick advances, its oscillator qualified. -/
def up : State :=
  let s := (boot 10).setFld .TIM_OSC_QUAL_STATUS F.TIM_OSC_QUAL_STATUS_STATE 3
  { s with tim := { s.tim with ticking := true } }

/-- A session on channel 0. -/
def sess (role : Nat) : Session := ⟨some 0, 0, 0, role, 0, 0, none, none, ⟨0, 0, 0, 0⟩⟩

/-- The session of HANDLE 5 with an open transaction. -/
def txn (x : Session) (regs : SMap Word) (ops : List TblOp) (units : Nat) : Session := { x with txn := some ⟨regs, ops, units⟩ }

/-- The session of HANDLE 5 on channel 0 holds the window. -/
def bound (s : State) (x : Session) : State :=
  { s.setFld .HST_WIN_STATUS F.HST_WIN_STATUS_BOUND 1 with sessions := [(5, x)] }

/-- An Expert's window at a running device. -/
def win : State := bound up (sess 3)

theorem expert {s : State} (h : s.stepTwoDone = true ∧ s.halted = false ∧ s.stewardHeld = false ∧
    s.boot.resetReq = none ∧ s.winHolder = some (5, sess 3)) : ExpertWindow s 5 :=
  ⟨⟨sess 3, h.2.2.2.2, rfl⟩, h.1, h.2.1, h.2.2.1, h.2.2.2.1⟩

theorem passes {s : State} {r : Reg} {v : Word}
    (h : s.checkWrite (.sess 5 3) r.addr v = .inr (r, v) ∧ s.instIn s.curSel r = true) : Passes s 5 r v := h

/-- The words of a request: command, flags and length, HANDLE 5, TAG 9, the payload; 64 words. -/
def req (code flags : Nat) (pay : List Word) : List Word :=
  (List.range 64).map fun i =>
    ([BitVec.ofNat 32 (code + flags * 256 + 4 * pay.length * 65536), 5#32, 9#32] ++ pay).getD i 0#32

/-- The request stands on channel 0. -/
def asks (s : State) (ws : List Word) : State :=
  let t := (List.range 64).foldl (fun u i => u.put (.HST_MBX_REQ 0 i) (ws.getD i 0#32)) s
  t.setFld (.HST_MBX_DOORBELL 0) F.HST_MBX_DOORBELL_GO 1

/-- Blocks 0 and 1 of the port map, enabled: 8 ports each, in both banks. -/
def ports (s : State) : State :=
  [0, 1].foldl (fun u b => [0, 1].foldl (fun u e =>
    (u.stPut e (.LNE_GRP_CFG b) (F.LNE_GRP_CFG_EN.set (u.stGet e (.LNE_GRP_CFG b)) 1)).stPut e (.PRT_BLK_CFG b)
      (F.PRT_BLK_CFG_MODE.set (u.stGet e (.PRT_BLK_CFG b)) 3)) u) s

/-- Port `p` in state `st` (3 is UP). -/
def portAt (s : State) (p st : Nat) : State := s.setFld (.PRT_PORT_STATUS p) F.PRT_PORT_STATUS_STATE st

/-- A running device with ports 0 to 15 and the first two UP. -/
def net : State := portAt (portAt (ports up) 0 3) 1 3

/-- A frame of `bytes` admitted at port 0. -/
def frm (bytes : List Byte) : Frame :=
  { port := 0, fromHost := false, engine := false, lane := 0, ts := 0, sel := 0, admitT := 0, bytes := bytes,
    errBlock := false, errCtl := false, ended := true, bad := false, parse := none, act := none, pass2 := false,
    dpiHit := false, dpiTag := 0, scanned := false, stage := .admitted, lkSeq := 0, route := none, copyRing := none,
    cls := 0, vid := none, learnKey := none, pool := none, charge := 0, extra := 0, written := 0, whole := false,
    cells := [], gone := [], pipe := 0, scanOld := none, left := 0, badWords := [], badLink := none }

/-- One replica of a frame for egress queue `q`. -/
def repl (frame q : Nat) : Replica :=
  { frame := frame, q := q, g := 0, pool := .shared, lossless := false, ct := false, noRewrite := false, vid := none,
    spill := .onDie, crossed := 0, drained := 0, tx := none, ageChk := false, aged := false, yielded := false, xseq := 0 }

/-- The frame is in the device as number 7. -/
def holding (s : State) (f : Frame) : State := { s.putFrame 7 f with nextFrame := 8 }

theorem holding_frame (f : Frame) : (holding net f).frame 7 = some f := rfl

/-- A running image. -/
def img : RunImage := { bank := 1, seq := 7, cl := 1, build := 0, regs := [], keys := [], ops := [] }

/-! ## The statements' hypotheses can be met -/

theorem wit_StepRunsFrontCommand : ({ up with pending := [.startupBegin, .coldReset] } : State).pending = [.startupBegin, .coldReset] :=
  by decide +kernel

theorem wit_EmptyQueueTicks : State.reset.pending = [] ∧ skeysFrom none State.reset.regs = true ∧
    State.reset.tim.ticking = false ∧ up.pending = [] ∧ skeysFrom none up.regs = true ∧ up.engineOn = true ∧
    (let s := up.setFld .TIM_SAF_STATUS F.TIM_SAF_STATUS_ACTIVE 2
     s.pending = [] ∧ skeysFrom none s.regs = true ∧ s.tim.ticking = true ∧ s.engineOn = false) := by decide +kernel

theorem wit_RegisterMapDecodes : (Reg.HST_RING_CFG 63).indexOk = true ∧ (Reg.CNT 0x5FFFF).indexOk = true ∧
    (Reg.BLKCTL 8 63 63).indexOk = true ∧ blockPopulated 8 63 63 = true ∧ decodeAddr 0 = none ∧
    decodeAddr (Reg.HST_RING_CFG 63).addr = some (.HST_RING_CFG 63) := by decide +kernel

theorem wit_EveryStepKeepsTheStores :
    let s := { holding net (frm []) with pending := [.frameParse 7] }.putRep 0 (repl 7 16383)
    StoresCanonical s ∧ FramesInRange s ∧ ∃ t, step s = .next t :=
  ⟨canon (by decide +kernel), inRange (by decide +kernel), _, rfl⟩

theorem wit_HealthEventsCounted : StoresCanonical up ∧ evCondition 0x88 = true ∧ up.raised 0x88 0 = false ∧
    (up.event 0x88 0 0).raised 0x88 0 = true ∧ StoresCanonical (up.event 0x88 0 0) ∧
    (let s := up.event 255 3 4
     StoresCanonical s ∧ (∃ a, sfind s.hlt.lastLog (evKey 255 3) = some a ∧ s.tim.tick - a < 10000000)) ∧
    up.boot.rstLow = false :=
  ⟨canon (by decide +kernel), by decide, by decide, by decide +kernel, canon (by decide +kernel),
   ⟨canon (by decide +kernel), up.tim.tick, by decide +kernel⟩, by decide⟩

theorem wit_TimestampFormat : ({ up with tim := { up.tim with t := BitVec.ofNat 96 (2 ^ 80) } } : State).tim.t.toNat =
    up.tim.t.toNat + 2 ^ 48 * 2 ^ 32 := by decide +kernel

/-- At every start-up step from 1 to 9, the last with ports, the step may end. -/
theorem wit_StartupSteps : StoresCanonical (boot 1) ∧ (∀ i ∈ [1, 2, 4, 6, 7, 8, 9], (boot i).bootStep = i ∧
      (boot i).boot.begun = true ∧ (boot i).stepMayEnd i = true) ∧
    (let s := (boot 3).setFld .TIM_OSC_QUAL_STATUS F.TIM_OSC_QUAL_STATUS_STATE 1
     s.bootStep = 3 ∧ s.stepMayEnd 3 = true) ∧
    (let s := (List.range 8).foldl (fun s c => s.setFld (.LNE_WRN_STATUS c) F.LNE_WRN_STATUS_STATE 2) (boot 5)
     s.bootStep = 5 ∧ s.stepMayEnd 5 = true) ∧
    ((boot 3).oscState = 0) ∧ (∃ c, c < 8 ∧ (boot 5).wrn c F.LNE_WRN_STATUS_STATE < 2) ∧
    (boot 4).boot.image = none ∧ (boot 4).boot.headers = false ∧ (boot 6).boot.records = [] ∧
    (∀ img, (boot 6).boot.image = some img → img.bank < 2) ∧ (boot 6).boot.trained = false ∧
    (ports (boot 9)).isPort 15 = true ∧ (ports (boot 9)).stepMayEnd 9 = true :=
  ⟨canon (by decide +kernel), by decide +kernel, by decide +kernel, by decide +kernel, by decide +kernel,
   ⟨0, by decide +kernel⟩, rfl, rfl, rfl, (by intro img h; cases h),
   by decide +kernel⟩

theorem wit_StartupSteps_image :
    let s := { boot 4 with boot := { (boot 4).boot with image := some img, warm := true } }
    StoresCanonical s ∧ s.boot.begun = true ∧ s.bootStep = 4 ∧ s.stepMayEnd 4 = true ∧ s.boot.image = some img ∧
      s.boot.warm = true := ⟨canon (by decide +kernel), by decide +kernel⟩

/-- Bank `k` holds an image's bytes. -/
def flashed (s : State) (k : Nat) (bs : List Byte) : State :=
  let cells := ((List.range bs.length).zip bs).filterMap fun x => if x.2 = 0xFF#8 then none else some (bankOff k + x.1, x.2)
  { s with flash := { s.flash with cells := s.flash.cells ++ cells } }

/-- An image of SEQUENCE `n`, with REG records; the same with its last byte another. -/
def imageOf (n : Nat) (regs : SMap Word) (ops : List TblOp) : List Byte :=
  ({ img with regs := regs, ops := ops } : RunImage).bytes (boot 4).boot.fuses n
def spoilt (n : Nat) : List Byte := (imageOf n [] []).dropLast ++ [0x5A#8]

/-- One REG record that no register takes. -/
def badRegs : SMap Word := [(0, 0#32)]

def code (s : State) (k : Nat) : Nat := headerResult s.boot.fuses (s.bankHeader k)
def bad (s : State) (k : Nat) : Nat := bodyResult s.boot.fuses (s.bankHeader k) (s.bankBody k)
def seqOf (s : State) (k : Nat) : Nat := beAt (s.bankHeader k) 0x10 4
def imgOf (s : State) (k : Nat) : Img := readImg (s.bankHeader k) (s.bankBody k)

/-- Step 4's state when a bank is applied, and when the other one is after `k` failed. -/
def judged (s : State) : State :=
  let n (k : Nat) : Nat := if code s k = 0 then 0xE else code s k
  let v := s.noteTime 4 9
  (({ v with boot := { v.boot with headers := true } } : State).noteBank 0 (n 0)).noteBank 1 (n 1)
def fellBack (s : State) (k : Nat) : State :=
  let u := (judged s).bankResultIs k (bad s k)
  { u with boot := { u.boot with fell := true } }

/-- Step 4 with no running image, and banks that hold images of SEQUENCE 7 and 8 (or erased); the second spoilt or not. -/
def banks (b0 : Option Nat) (b1 : List Byte) : State :=
  let s := match b0 with | some n => flashed (boot 4) 0 (imageOf n [] []) | none => boot 4
  flashed s 1 b1

theorem wit_StartupSteps_erased : let s := banks none []
    s.boot.begun = true ∧ s.bootStep = 4 ∧ s.stepMayEnd 4 = true ∧ s.boot.image = none ∧ s.boot.headers = false ∧
      code s 0 ≠ 0 ∧ code s 1 ≠ 0 := by decide +kernel

theorem wit_StartupSteps_applies : let s := banks none (imageOf 8 [] [])
    code s 0 ≠ 0 ∧ code s 1 = 0 ∧ bad s 1 = 0 ∧ ((judged s).applyImage 1 (imgOf s 1)).2 = true := by decide +kernel

theorem wit_StartupSteps_spoilt : let s := banks none (spoilt 8)
    code s 1 = 0 ∧ code s 0 ≠ 0 ∧ bad s 1 ≠ 0 := by decide +kernel

theorem wit_StartupSteps_fallBack : let s := banks (some 7) (spoilt 8)
    code s 1 = 0 ∧ bad s 1 ≠ 0 ∧ code s 0 = 0 ∧ seqOf s 0 < seqOf s 1 ∧ bad s 0 = 0 ∧
      ((fellBack s 1).applyImage 0 (imgOf s 0)).2 = true := by decide +kernel

theorem wit_StartupSteps_applyFails : let s := banks none (imageOf 8 badRegs [])
    code s 1 = 0 ∧ code s 0 ≠ 0 ∧ bad s 1 = 0 ∧ ((judged s).applyImage 1 (imgOf s 1)).2 = false := by decide +kernel

/-- TABLE records at step 6, in a bank that has failed nothing yet: one that succeeds and one that does not. -/
theorem wit_StartupSteps_records :
    let at6 (o : TblOp) : State := { boot 6 with boot := { (boot 6).boot with records := [o], image := some img } }
    let v (o : TblOp) : State := (at6 o).noteTime 6 9
    (∀ o : TblOp, o ∈ [⟨0x30, 2, 0, []⟩, ⟨0x99, 1, 0, []⟩] → (at6 o).bootStep = 6 ∧ (at6 o).stepMayEnd 6 = true ∧
      (at6 o).boot.begun = true ∧ (at6 o).boot.records ≠ [] ∧ (at6 o).boot.warm = false ∧ img.bank < 2) ∧
    ((v ⟨0x30, 2, 0, []⟩).trainHbm []).applyTable.2 = true ∧ ((v ⟨0x99, 1, 0, []⟩).trainHbm []).applyTable.2 = false := by
  decide +kernel

theorem wit_BlockResets :
    (StoresCanonical win ∧ ExpertWindow win 5 ∧ Passes win 5 (.BLKCTL 1 0 5) 1#32 ∧ F.BLKCTL_RST.get 1#32 = 1) ∧
    (let s := up.setFld (.BLKCTL 1 0 5) F.BLKCTL_RST 1
     StoresCanonical s ∧ skeysFrom none s.tim.slots = true ∧
       decodeAddr (Reg.BLKCTL 1 0 5).addr = some (.BLKCTL 1 0 5) ∧ s.fld (.BLKCTL 1 0 5) F.BLKCTL_RST = 1 ∧
       s.blockBusy 1 0 5 = false ∧ s.boot.image = none ∧ s.jobs = [] ∧ (blockNo 1 0 5 = blockNo 7 0 1 → s.oscState ≠ 4) ∧
       (∃ r : Reg, decodeAddr r.addr = some r ∧ r.addr / 0x400 = blockNo 1 0 5 ∧ r.keptFields = [] ∧ r.fusedFields = [] ∧
         r.isST = false)) ∧
    (let s := (boot 3).setFld (.BLKCTL 7 4 16) F.BLKCTL_RST 1
     s.fld (.BLKCTL 7 4 16) F.BLKCTL_RST = 1 ∧ s.blockBusy 7 4 16 = false ∧ s.tim.ticking = false ∧ s.boot.image = none ∧ s.jobs = []) ∧
    (let s := up.setFld (.BLKCTL 7 3 0) F.BLKCTL_RST 1
     s.fld (.BLKCTL 7 3 0) F.BLKCTL_RST = 1 ∧ s.blockBusy 7 3 0 = false ∧ s.tim.sel.store = []) ∧
    (up.setFld (.BLKCTL 0 0 5) F.BLKCTL_RST 1).fld (.BLKCTL 0 0 5) F.BLKCTL_RST = 1 ∧
    up.fld (.BLKCTL 1 0 5) F.BLKCTL_RST = 0 :=
  ⟨⟨canon (by decide +kernel), expert (by decide +kernel), passes (by decide +kernel), by decide⟩,
   ⟨canon (by decide +kernel), by decide +kernel, by decide +kernel, by decide +kernel, by decide +kernel, by decide +kernel,
    by decide +kernel, by decide, ⟨.BLKCTL 1 0 5, by decide +kernel⟩⟩, by decide +kernel⟩

theorem wit_ResetsAndWhatTheyKeep : (up.boot.begun = true ∧ up.boot.rstLow = false ∧ up.imageNow = none) ∧
    (State.reset.boot.begun = false ∧ State.reset.boot.rstLow = false ∧ State.reset.boot.rails = false) ∧
    (let s := { State.reset with boot := { State.reset.boot with rails := true } }; s.boot.begun = false ∧ s.boot.rails = true) ∧
    ({ up with boot := { up.boot with rstLow := true } } : State).boot.rstLow = true ∧
    ({ up with boot := { up.boot with image := some img } } : State).imageNow ≠ none ∧
    (StoresCanonical win ∧ ExpertWindow win 5 ∧ Passes win 5 .STW_RESET_CTL 1#32 ∧ Passes win 5 .STW_RESET_CTL 2#32 ∧
      F.STW_RESET_CTL_WARM.get 1#32 = 1 ∧ F.STW_RESET_CTL_RELOAD.get 1#32 = 0 ∧ F.STW_RESET_CTL_RELOAD.get 2#32 = 1) :=
  ⟨by decide +kernel, by decide +kernel, by decide +kernel, by decide +kernel,
   by simp [State.imageNow]; split <;> simp, canon (by decide +kernel), expert (by decide +kernel), passes (by decide +kernel), passes (by decide +kernel),
   by decide⟩

/-- The oscillator's state set. -/
def osc (s : State) (v : Nat) : State := s.setFld .TIM_OSC_QUAL_STATUS F.TIM_OSC_QUAL_STATUS_STATE v

theorem wit_OscillatorQualifies :
    (StoresCanonical (boot 3) ∧ (boot 3).boot.begun = true ∧ 3 ≤ (boot 3).bootStep ∧ (boot 0xB).bootStep ≤ 0xB ∧
      (boot 3).oscState = 0 ∧ (∃ x : Int, some x = some (-200000) ∧ x.natAbs ≤ 200000) ∧
      ¬ (∃ x : Int, some x = some 200001 ∧ x.natAbs ≤ 200000) ∧ (boot 3).boot.gateFails < 2 ∧
      2 ≤ ({ boot 3 with boot := { (boot 3).boot with gateFails := 2 } } : State).boot.gateFails) ∧
    (let s := { osc up 2 with boot := { (osc up 2).boot with lastGate := some 4 } }
     StoresCanonical s ∧ s.oscState = 2 ∧ s.boot.lastGate = some 4 ∧
       s.fld .TIM_OSC_QUAL_STATUS F.TIM_OSC_QUAL_STATUS_PASSED < 255 ∧
       ((10 * s.oscCfg F.TIM_OSC_QUAL_CFG_LIMIT : Nat) : Int) = ((4 + 10 * s.oscCfg F.TIM_OSC_QUAL_CFG_LIMIT : Nat) : Int) - 4) ∧
    (osc up 2).boot.lastGate = none ∧ (osc up 1).oscState = 1 ∧ (osc up 1).stepEight = true ∧ (osc up 2).oscState ≠ 1 ∧
    ((osc up 1).stepEight = true ∧ (osc up 1).oscCfg F.TIM_OSC_QUAL_CFG_TIMEOUT ≠ 0 ∧
      (osc up 1).fld .TIM_OSC_QUAL_STATUS F.TIM_OSC_QUAL_STATUS_SLOW = 0) ∧
    (let v := up.get .TIM_OSC_QUAL_CFG
     ExpertWindow (osc win 2) 5 ∧ Passes (osc win 2) 5 .TIM_OSC_QUAL_CFG v ∧ F.TIM_OSC_QUAL_CFG_WARM_USE.get v = 1 ∧
       (osc win 2).boot.ocxoPin = false ∧ ExpertWindow (osc win 3) 5 ∧ Passes (osc win 3) 5 .TIM_OSC_QUAL_CFG v ∧
       ExpertWindow (osc win 1) 5 ∧ Passes (osc win 1) 5 .TIM_OSC_QUAL_CFG (F.TIM_OSC_QUAL_CFG_WARM_USE.set v 0)) :=
  ⟨⟨canon (by decide +kernel), by decide +kernel, by decide +kernel, by decide +kernel, by decide +kernel,
     ⟨-200000, by decide⟩, fun ⟨x, h, l⟩ => by simp at h; omega, by decide +kernel⟩,
   ⟨canon (by decide +kernel), by decide +kernel, by decide +kernel, by decide +kernel, by omega⟩,
   by decide +kernel, by decide +kernel, by decide +kernel, by decide +kernel, by decide +kernel,
   expert (by decide +kernel), passes (by decide +kernel), by decide +kernel, by decide +kernel,
   expert (by decide +kernel), passes (by decide +kernel), expert (by decide +kernel), passes (by decide +kernel)⟩

/-- A request of the session of HANDLE 5 on channel 0 passes checks 1 to 3. -/
theorem wit_commandsAsked : ∀ q ∈ ([(0x02, List.replicate 8 0), (0x03, []), (0x04, []), (0x05, []),
      (0x10, [0, 1]), (0x12, [0, 60]), (0x11, [0, 0]), (0x20, []), (0x21, []), (0x22, []), (0x23, [0x30020001, 0]), (0x24, []),
      (0x30, [0]), (0x31, [0, 0]), (0x32, [])] : List (Nat × List Word)),
    AskedBy (asks win (req q.1 0 q.2)) (.chan 0) q.1 0
      (req q.1 0 q.2) 5 (sess 3) := by
  intro q h
  simp only [List.mem_cons, List.not_mem_nil, or_false] at h
  rcases h with rfl | rfl | rfl | rfl | rfl | rfl | rfl | rfl | rfl | rfl | rfl | rfl | rfl | rfl | rfl <;>
    exact askedBy (by decide +kernel)

theorem wit_RegisterWrites :
    win.checkWrite (.sess 5 1) 0 0#32 = .inl Stat.role ∧ decodeAddr 0 ≠ some .STW_RESET_CTL ∧ decodeAddr 0 = none ∧
    (decodeAddr Reg.STW_ID_FAMILY.addr = some .STW_ID_FAMILY ∧ Reg.STW_ID_FAMILY.writable = false) ∧
    (decodeAddr Reg.STW_RESET_CTL.addr = some .STW_RESET_CTL ∧ Reg.STW_RESET_CTL.writable = true ∧
      1#32 &&& Reg.STW_RESET_CTL.maskOf (fun f => f.lvl == .e) ≠ 0 ∧ 0x80000000#32 &&& ~~~Reg.STW_RESET_CTL.fieldMask ≠ 0 ∧
      Reg.STW_RESET_CTL.fieldsOk 1#32 = true ∧ up.ringWriteOk .STW_RESET_CTL 1#32 = true ∧
      (1#32 ^^^ up.committed .STW_RESET_CTL) &&& Reg.STW_RESET_CTL.maskOf (fun f => f.acc == .rwl) = 0) ∧
    (up.running = true ∧ ∃ r : Reg, r = .HST_SVC_CFG ∧
      ((r.maskOf fun f => f.acc == .rwl) = 0 ∨ (r.maskOf fun f => f.acc == .rwl) ≠ 0)) ∧
    (∃ f ∈ Reg.STW_RESET_CTL.fields, f.lvl = .e) ∧ up.instIn 0 (.PRT_PORT_STATUS 1023) = false :=
  ⟨by decide +kernel, by decide +kernel, by decide +kernel, by decide +kernel, by decide +kernel,
   ⟨by decide +kernel, .HST_SVC_CFG, rfl, by decide +kernel⟩, by decide +kernel⟩

/-- An Operator's zero word at a register with E fields that hold a value passes and keeps them. -/
theorem wit_RegisterWrites_operator :
    let r := Reg.SWC_SPILL_CFG
    decodeAddr r.addr = some r ∧ r.writable = true ∧ r.isST = false ∧ (0#32) &&& ~~~r.fieldMask = 0 ∧
      up.keepE (.sess 5 2) r 0 ≠ 0 ∧ r.fieldsOk (up.keepE (.sess 5 2) r 0) = true ∧
      up.ringWriteOk r (up.keepE (.sess 5 2) r 0) = true ∧ (r.maskOf fun f => f.acc == .rwl) = 0 ∧
      up.checkWrite (.sess 5 2) r.addr 0 = .inr (r, up.keepE (.sess 5 2) r 0) ∧ r.actMask (.sess 5 2) ≠ 0 ∧
      Reg.STW_RESET_CTL.actMask (.sess 5 2) = 0 ∧ (up.put r 5).keepE (.sess 5 2) r 0 ≠ up.keepE (.sess 5 2) r 0 ∧
      (∃ q : Reg, q.writable = true ∧ q.fieldsOk (up.keepE (.sess 5 2) q (q.maskOf fun f => f.lvl != .e)) = false ∧
        (q.maskOf fun f => f.lvl != .e) ≠ 0) := by
  refine ⟨by decide +kernel, by decide +kernel, by decide +kernel, by decide +kernel, by decide +kernel, by decide +kernel,
    by decide +kernel, by decide +kernel, by decide +kernel, by decide +kernel, by decide +kernel, by decide +kernel,
    .TIM_SEL_CFG, by decide +kernel⟩

theorem wit_WindowRefusalsRecorded : StoresCanonical win ∧ win.winHolder = some (5, sess 3) ∧ win.stepTwoDone = true ∧
    win.halted = false ∧ win.stewardHeld = false ∧ win.boot.resetReq = none ∧
    (win.writeAddr (.sess 5 3) 0 0#32).2 = Stat.address ∧ Stat.address ≠ 0 ∧
    (win.readAddr (.sess 5 3) 0).2.1 = Stat.address :=
  ⟨canon (by decide +kernel), by decide +kernel⟩

theorem wit_PathsReachRegisters : ExpertWindow win 5 ∧
    (∀ r ∈ [Reg.TIM_OSC_QUAL_CFG, .PRT_BLK_CFG 127], r.indexOk = true ∧ decodeAddr r.addr = some r ∧
      win.checkWrite (.sess 5 3) r.addr (win.committed r) = .inr (r, win.committed r) ∧ win.instIn win.curSel r = true) ∧
    Reg.isST (.PRT_BLK_CFG 127) = true ∧ Reg.TIM_OSC_QUAL_CFG.isST = false ∧
    win.discardWrite .TIM_OSC_QUAL_CFG = none ∧
    win.readAddr (.sess 5 3) Reg.STW_ID_FAMILY.addr = (win, 0, (win.readAddr (.sess 5 3) Reg.STW_ID_FAMILY.addr).2.2) ∧
    (up.stepTwoDone = true ∧ up.halted = false ∧ up.stewardHeld = false ∧ up.winHolder = none ∧ up.boot.resetReq = none ∧
      decodeAddr Reg.TIM_OSC_QUAL_CFG.addr = some .TIM_OSC_QUAL_CFG ∧ Reg.TIM_OSC_QUAL_CFG.open' = false ∧
      decodeAddr (Reg.HST_MBX_RSP 7 63).addr = some (.HST_MBX_RSP 7 63) ∧ (Reg.HST_MBX_RSP 7 63).open' = true ∧
      Reg.TIM_OSC_QUAL_CFG.channel = false) ∧
    (up.boot.ir ≠ 0x10 ∧ up.boot.scanHold = false ∧ holdInstr 0 = true ∧ holdInstr 6 = true ∧ holdInstr 1 = false ∧
      StoresCanonical up ∧ up.boot.trstLow = false ∧ holdInstr ((none : Option Nat).getD 2) = false ∧
      (tapInstr 1).selectsBoundary = true ∧ (tapInstr 0x10).selectsBoundary = false ∧ tapInstr 0x7F = .bypass ∧
      (let s := { up with boot := { up.boot with ir := 1, trstLow := true } }
       s.boot.trstLow = true ∧ s.boot.ir = 1 ∧ (tapInstr s.boot.ir).selectsBoundary = true) ∧
      ({ up with boot := { up.boot with ir := 0x7F } } : State).boot.ir ≠ 0x02) ∧
    (let s := { up with boot := { up.boot with ir := 0x10, scanHold := true } }
     s.boot.ir = 0x10 ∧ s.stepFourDone = true ∧ s.halted = false ∧ s.boot.scanHold = true ∧
       decodeAddr Reg.STW_ID_FUSE.addr = some .STW_ID_FUSE ∧ Reg.STW_ID_FUSE.identity = true) :=
  ⟨expert (by decide +kernel), by decide +kernel, by decide +kernel, by decide +kernel, by decide +kernel,
   by decide +kernel, by decide +kernel,
   ⟨by decide +kernel, by decide +kernel, by decide +kernel, by decide +kernel, by decide +kernel, canon (by decide +kernel),
    by decide +kernel⟩, by decide +kernel⟩

theorem wit_RequestsCheckedInOrder : sessionCommand (.read (.chan 0)) = some (.chan 0, 0x10, false) ∧
    (let ws := req 0x10 0 [0, 0]
     let s := asks win ws
     s.request (.chan 0) = some (0, ws) ∧ reqCommand ws = 0x10 ∧ s.awaiting (replyFor (.chan 0) 0 ws) = false ∧
       s.halted = false ∧ s.pair.cause = none ∧ s.stewardLost = false ∧ lengthOk 0x10 ws = true ∧ flagsOk (.chan 0) 0x10 ws = true ∧
       (s.setFld .STW_PAIR_STATUS F.STW_PAIR_STATUS_LOST 1).stewardLost = true ∧ lengthOk 0x10 (req 0x10 0 []) = false ∧
       flagsOk (.chan 0) 0x10 (req 0x10 1 [0, 0]) = false ∧ (asks up ws).session 5 = none ∧
       ({ s with pair := { s.pair with cause := some 2 } } : State).pair.cause ≠ none) ∧
    (asks win (req 0x11 0 [0, 0])).request (.chan 0) = some (0, req 0x11 0 [0, 0]) ∧ reqCommand (req 0x11 0 [0, 0]) ≠ 0x10 :=
  ⟨rfl, by decide +kernel⟩

/-- A running image with one key in slot 7, for the Expert's role. -/
def keyed (s : State) : State := { s with boot := { s.boot with image := some { img with keys := [⟨7, 3, 9⟩] } } }

theorem wit_SessionsLive_open :
    (let ws := req 0x01 0 [0x07000000, 1, 2, 3, 4]
     let s := asks (keyed up) ws
     Asked s (.chan 0) 0x01 0 ws ∧ s.openStatus (.chan 0) 0 7 = 0 ∧ s.openStatus (.chan 0) 0 6 ≠ 0 ∧ s.stepFourDone = true ∧
       s.mbx.holdCh.contains 0 = false ∧ s.bootStep ≠ 0xB ∧ (s.slotKey 7).isSome = true ∧ s.slotKey 6 = none) ∧
    (boot 4).stepFourDone = false ∧ ({ up with mbx := { up.mbx with holdCh := [0] } } : State).mbx.holdCh.contains 0 = true ∧
    (up.setFld (.HST_MBX_STATE 7) F.HST_MBX_STATE_STATE 1).fld (.HST_MBX_STATE 7) F.HST_MBX_STATE_STATE ≠ 0 ∧
    (boot 0xB).stepFourDone = true ∧ (boot 0xB).bootStep = 0xB :=
  ⟨⟨asked (by decide +kernel), by decide +kernel⟩, by decide +kernel⟩

theorem wit_SessionsLive_auth :
    (let ws := req 0x02 0 (List.replicate 8 0)
     let x := { sess 0 with slot := 7 }
     let s := asks (keyed (bound up x)) ws
     AskedBy s (.chan 0) 0x02 0 ws 5 x ∧ s.slotKey 7 = some (9, 3) ∧ StoresCanonical s ∧
       reqBytes ws 0 8 ≠ proof 9 0x48 0 0 5 7) ∧
    (∃ ws : List Word, reqBytes ws 0 8 = proof 9 0x48 0 0 5 7) ∧
    (∃ x, (bound up (sess 0)).session 5 = some x ∧ x.role = 0) :=
  ⟨⟨askedBy (by decide +kernel), by decide +kernel, canon (by decide +kernel), by decide +kernel⟩,
   ⟨[0, 0, 0] ++ beWords (proof 9 0x48 0 0 5 7), by decide +kernel⟩, ⟨sess 0, by decide +kernel⟩⟩

theorem wit_SessionsLive_close :
    (StoresCanonical win ∧ win.session 5 = some (sess 3) ∧ (∀ c, (sess 3).chan = some c → c < 8) ∧ win.winChan < 8 ∧
      win.winBound = true ∧ win.winChan = 0 ∧ (sess 3).role ≠ 0) ∧
    up.winBound = false ∧ ({ win with flash := { win.flash with upload := some ⟨5, 0, 0, [], []⟩ } } : State).flash.upload =
      some ⟨5, 0, 0, [], []⟩ ∧
    (let s := asks ({ up with sessions := [(5, sess 3)] }) (req 0x04 0 [])
     AskedBy s (.chan 0) 0x04 0 (req 0x04 0 []) 5 (sess 3) ∧ StoresCanonical s ∧ s.winBound = false) ∧
    (let s := asks win (req 0x05 0 [])
     AskedBy s (.chan 0) 0x05 0 (req 0x05 0 []) 5 (sess 3) ∧ StoresCanonical s ∧ s.winBound = true ∧ s.winChan = 0) :=
  ⟨⟨canon (by decide +kernel), by decide +kernel, by intro c h; cases h; decide, by decide +kernel⟩, by decide +kernel, by decide +kernel,
   ⟨askedBy (by decide +kernel), canon (by decide +kernel), by decide +kernel⟩,
   ⟨askedBy (by decide +kernel), canon (by decide +kernel), by decide +kernel⟩⟩

theorem wit_RequestsReadAndWrite :
    (let a := BitVec.ofNat 32 Reg.STW_ID_FAMILY.addr
     ∀ q ∈ ([0x10, 0x12] : List Nat), let ws := req q 0 [a, 2]
       let s := asks win ws
       s.readAddr (.sess 5 3) (a.toNat + 4 * 0) = (s, 0, (s.readReg (.sess 5 3) .STW_ID_FAMILY).2) ∧
       s.readAddr (.sess 5 3) (a.toNat + 4 * 1) = (s, 0, (s.readReg (.sess 5 3) .STW_ID_STEPPING).2) ∧
       (reqWord ws 1).toNat = 2 ∧ (sess 3).role ≠ 0 ∧ barredRead (sess 3) a.toNat 2 = none) ∧
    (barredRead (sess 4) 0 1 = none ∧ barredRead (sess 4) Reg.TIM_OSC_QUAL_CFG.addr 1 = some 0 ∧ (sess 4).role ≠ 0 ∧
      (win.readAddr (.sess 5 3) (Reg.STW_ID_FAMILY.addr + 4 * 100)).2.1 ≠ 0) ∧
    decodeAddr 0 = none ∧ (reqWord (req 0x10 0 [0, 61]) 1).toNat = 61 ∧ reqLength (req 0x10 0 [0, 61]) = 8 ∧
    (let A (i : Nat) : Word := if i < 2 then BitVec.ofNat 32 Reg.SWC_SPILL_CFG.addr else 0#32
     let v := up.committed .SWC_SPILL_CFG
     let ws := req 0x11 0 [A 0, v, A 1, v, A 2, v]
     let s := asks win ws
     let σ := (s.writeAddr (.sess 5 3) (A 0).toNat v).1
     AskedBy s (.chan 0) 0x11 0 ws 5 (sess 3) ∧
       (ws.drop 3).take (reqLength ws / 4) = (List.range 3).flatMap (fun i => [A i, v]) ∧
       (s.writeAddr (.sess 5 3) (A 0).toNat v).2 = 0 ∧ (σ.writeAddr (.sess 5 3) (A 1).toNat v).2 = 0 ∧
       (σ.writeAddr (.sess 5 3) (A 2).toNat v).2 ≠ 0) :=
  ⟨by decide +kernel, by decide +kernel, by decide +kernel, by decide +kernel, by decide +kernel,
   askedBy (by decide +kernel), by decide +kernel⟩

theorem wit_TransactionsStage :
    (let x := txn (sess 3) [(Reg.addr (.PRT_BLK_CFG 0), 3#32)] [] 4096
     let s := bound up x
     s.session 5 = some x ∧ s.regLocked 5 (Reg.addr (.PRT_BLK_CFG 0)) = false ∧
       (sfind [(Reg.addr (.PRT_BLK_CFG 0), 3#32)] (Reg.addr (.PRT_BLK_CFG 0))).isSome = true ∧
       sfind [(Reg.addr (.PRT_BLK_CFG 0), 3#32)] (Reg.addr (.PRT_BLK_CFG 127)) = none ∧ 4096 < 4096 + 1 ∧
       ({ s with sessions := [(5, x), (6, txn (sess 3) [] [] 0)] } : State).regLocked 6 (Reg.addr (.PRT_BLK_CFG 0)) = true ∧
       x.mayCommit = true ∧ (sess 1).mayCommit = false) ∧
    (let ws := req 0x23 0 [0x30020001, 65535]
     let s := asks win ws
     AskedBy s (.chan 0) 0x23 0 ws 5 (sess 3) ∧
       opOfRecord 0x99 1 [] = .inl 2 ∧ opOfRecord 0x30 2 [65535] = .inr ⟨0x30, 2, 65535, []⟩ ∧ s.tblLocked 5 0x30 = false) :=
  ⟨by decide +kernel, askedBy (by decide +kernel), by decide +kernel⟩

/-- A commit waiting at the head of the queue. -/
def job (regs : SMap Word) (ops : List TblOp) (ready : Bool) : Job := ⟨5, .mbx 0, false, regs, ops, ready, 0, ready, none⟩

theorem wit_CommitsAccepted :
    (∃ x : Session, x.mayCommit = true ∧ x.txn = some ⟨[], [], 0⟩ ∧ x.role ≠ 0 ∧
      AskedBy (asks (bound up x) (req 0x21 1 [])) (.chan 0) 0x21 0 (req 0x21 1 []) 5 x) ∧
    (let j := job [(Reg.addr (.PRT_FC_CFG 1023), 1#32)] [] false
     let v := { up with jobs := [j] }
     let s := v.readEcc [(1, .corrected)]
     StoresCanonical v ∧ v.jobs = [j] ∧ v.fld .STW_EPOCH_STATUS F.STW_EPOCH_STATUS_RETIRED_LIVE = 0 ∧
       v.stewardHeld = false ∧ j.started = false ∧ j.done = 0 ∧ skeysFrom none j.regs = true ∧
       s.movedPositions (1 - s.curSel) s.curSel = [] ∧
       (∀ kv ∈ j.regs, ∃ r, decodeAddr kv.1 = some r ∧ r.addr = kv.1 ∧ r.isST = true ∧ isBlockReg r = false)) ∧
    ((0x1F < 0x20 ∨ 0x1F = 0x30) ∧ skeysFrom none up.rows = true ∧ up.fwd.job = none ∧ up.t2Up = false ∧
      skeysFrom none up.cnt = true) :=
  ⟨⟨txn (sess 3) [] [] 0, by decide, rfl, by decide, askedBy (by decide +kernel)⟩,
   ⟨canon (by decide +kernel), rfl, by decide +kernel, by decide +kernel, rfl, rfl, by decide +kernel, by decide +kernel,
    by intro kv h; simp only [job, List.mem_singleton] at h; subst h; exact ⟨.PRT_FC_CFG 1023, by decide +kernel⟩⟩,
   by decide +kernel⟩

theorem wit_CommitsTakeEffect :
    (∀ t : State, t ∈ [{ ports up with jobs := [job [] [] true] }, { ports (boot 6) with jobs := [job [] [] true] }] →
      StoresCanonical t ∧ FramesInRange t ∧ t.jobs = [job [] [] true] ∧ t.stewardHeld = false ∧
        t.movedPositions (1 - t.curSel) t.curSel = []) ∧
    (job [] [] true).ready = true ∧ (∀ c, (job [] [] true).reply = .mbx c → c < 8) ∧
    (let s := { up with boot := { up.boot with image := some img } }
     s.boot.image = some img ∧ s.flash.op = none ∧ s.flash.upload = none ∧
       s.fld .STW_PERSIST_STATUS F.STW_PERSIST_STATUS_UPLOAD_PENDING = 0 ∧ img.seq + 1 < 0xFFFFFFFF ∧ img.bank < 2) ∧
    (let s := up.setFld .STW_EPOCH_STATUS F.STW_EPOCH_STATUS_RETIRED_LIVE 1
     skeysFrom none s.cnt = true ∧ skeysFrom none s.regs = true ∧ skeysFrom none s.rows = true ∧
       s.fld .STW_EPOCH_STATUS F.STW_EPOCH_STATUS_RETIRED_LIVE = 1) := by
  refine ⟨?_, rfl, by intro c h; cases h; decide, by decide +kernel⟩
  intro t h
  simp only [List.mem_cons, List.not_mem_nil, or_false] at h
  rcases h with rfl | rfl <;>
    exact ⟨canon (by decide +kernel), inRange (by decide +kernel), rfl, by decide +kernel⟩

/-- An upload of the session of HANDLE 5 to bank 0 at an offset. -/
def upload (s : State) (next : Nat) (page : List Byte) : State :=
  { s with flash := { s.flash with upload := some ⟨5, 0, next, [], page⟩ } }

theorem wit_FlashWrites :
    ((sess 3).mayUpload = true ∧ (sess 2).mayUpload = false ∧ win.flash.op = none ∧ win.flash.upload = none ∧
      skeysFrom none win.flash.cells = true ∧ win.boot.image = none ∧
      (∃ s : State, s.boot.image = some img ∧ s.bootStep ≠ 0xB ∧ img.bank = 1)) ∧
    (∃ s : State, s.stewardHeld = false ∧ s.flash.op = some (.erase 1 (.mbx 7))) ∧
    (let ws := req 0x31 0 [256, 0]
     let s := asks (upload win 256 []) ws
     AskedBy s (.chan 0) 0x31 0 ws 5 (sess 3) ∧ s.uploadOf 5 = some ⟨5, 0, 256, [], []⟩ ∧ (reqWord ws 0).toNat = 256 ∧
       reqLength ws / 4 - 1 = 1 ∧ (reqBytes ws 1 1).length = 4 ∧ win.uploadOf 5 = none ∧ (sess 2).mayUpload = false) ∧
    ((upload win 508 (List.replicate 252 0)).uploadOf 5 = some ⟨5, 0, 508, [], List.replicate 252 0⟩ ∧ 508 % 256 + 4 = 256) ∧
    (let ws := req 0x32 0 []
     let s := asks (upload win 256 []) ws
     AskedBy s (.chan 0) 0x32 0 ws 5 (sess 3) ∧
       (s.program (bankOff 0 + 256 - 0) []).receivedResult ⟨5, 0, 256, [], []⟩ ≠ 0) ∧
    (let s := { up with flash := { up.flash with op := some (.persist 1 []) }, boot := { up.boot with image := some img } }
     StoresCanonical s ∧ s.stewardHeld = false ∧ s.fld .STW_PERSIST_STATUS F.STW_PERSIST_STATUS_AGAIN = 0) :=
  ⟨⟨rfl, rfl, rfl, rfl, rfl, rfl, { up with boot := { up.boot with image := some img } }, rfl, by decide +kernel, rfl⟩,
   ⟨{ up with flash := { up.flash with op := some (.erase 1 (.mbx 7)) } }, by decide +kernel, rfl⟩,
   ⟨askedBy (by decide +kernel), by decide +kernel⟩, by decide +kernel,
   ⟨askedBy (by decide +kernel), by decide +kernel⟩, canon (by decide +kernel), by decide +kernel⟩

/-- A service-port frame of a request. -/
def svcAsk : List Byte := svcFrame 0xFFFFFFFFFFFF 0x1234 [0x10 + 8 * 65536, 5, 9, 0, 1]

/-- The service port operates. -/
def svc : State := up.setFld .HST_SVC_CFG F.HST_SVC_CFG_EN 1

theorem wit_RequestsTravel :
    (svc.svcOn = true ∧ svc.stepTwoDone = true ∧ svc.halted = false ∧ svc.svcMessage [] = none ∧
      (up.setFld .HST_SVC_CFG F.HST_SVC_CFG_EN 0).svcOn = false) ∧
    (svc.svcMessage svcAsk = some (0x1234, [0x10 + 8 * 65536, 5, 9, 0, 1]) ∧ svc.stewardLost = false ∧
      svc.svcKept 0x1234 [0x10 + 8 * 65536, 5, 9, 0, 1] = none ∧ svc.mbx.queue = [] ∧ cmdListed 0x10 = true) ∧
    (let s := { svc with sessions := [(5, { sess 3 with chan := none, src := 0x1234, kept := some (9, [0]) })] }
     s.svcKept 0x1234 [0x10 + 8 * 65536, 5, 9, 0, 1] = some [0]) ∧
    (16 ≤ (List.replicate 16 ((0x1234, []) : Nat × List Word)).length) ∧
    (StoresCanonical svc ∧ (List.replicate 61 (0 : Word)).length ≤ 61 ∧
      ({ svc with mbx := { svc.mbx with queue := [(1, [])] } } : State).mbx.queue = [(1, [])] ∧
      ({ svc with mbx := { svc.mbx with queue := [(1, [])] } } : State).mbx.queue.length < 16) ∧
    ((svc.setFld .STW_PAIR_STATUS F.STW_PAIR_STATUS_LOST 1).stewardLost = true ∧
      (let s := { svc with pair := { svc.pair with cause := some 3 } }
       s.stewardHeld = true ∧ s.stewardLost = false) ∧ svc.stewardHeld = false ∧
      reqCommand [1] = 1 ∧ reqCommand [0x10 + 8 * 65536, 5, 9, 0, 1] ≠ 1 ∧ svc.mbx.kept = []) :=
  ⟨by decide +kernel, by decide +kernel, by decide +kernel, by decide, ⟨canon (by decide +kernel), by decide, rfl, by decide⟩,
   by decide +kernel⟩

/-! ### Lanes -/

/-- Group `b` in state `st`, lane `n` in state `st`. -/
def grpAt (s : State) (b st : Nat) : State := s.setFld (.LNE_GRP_STATUS b) F.LNE_GRP_STATUS_STATE st
def laneAt (s : State) (n st : Nat) : State := s.setFld (.LNE_LANE_STATUS n) F.LNE_LANE_STATUS_STATE st
def wrnAt (s : State) (c st : Nat) : State := s.setFld (.LNE_WRN_STATUS c) F.LNE_WRN_STATUS_STATE st

theorem wit_GroupLoopsAcquire :
    (∀ st ∈ [1, 2, 3, 4, 5], (grpAt up 127 st).grpState 127 = st ∧ up.grpState 127 ≠ st) ∧
    (StoresCanonical (grpAt up 127 1) ∧ skeysFrom none (grpAt up 127 1).lne.loops = true ∧ FramesInRange (grpAt up 127 1)) ∧
    (let s := grpAt up 127 1
     let u := s.putLoop 127 { s.loop 127 with checked := (s.loop 127).checked ++ [s.grp 127 F.LNE_GRP_STATUS_BAND] }
     (∃ k, u.nextBand 127 = some k) ∧
       (s.putLoop 127 { s.loop 127 with checked := List.range 256 }).nextBand 127 = none) ∧
    (0 ≤ (up.loop 127).lockWin ∧ (up.loop 127).lockWin < (up.loop 127).lockWin + 1) ∧
    (let s := ((grpAt up 127 2).putLoop 127 { up.loop 127 with attempts := 3 }).setFld (.LNE_GRP_STATUS 127)
       F.LNE_GRP_STATUS_ATTEMPT 1
     s.grpState 127 = 2 ∧ s.grp 127 F.LNE_GRP_STATUS_ATTEMPT < (s.loop 127).attempts ∧
       s.grp 127 F.LNE_GRP_STATUS_ATTEMPT < 15 ∧
       (s.loop 127).attempts ≤ (s.setFld (.LNE_GRP_STATUS 127) F.LNE_GRP_STATUS_ATTEMPT 15).grp 127 F.LNE_GRP_STATUS_ATTEMPT) ∧
    (∃ c, (c, 3) ∈ [(Instr.lockAttemptFail 127, 2), (.alignTimeout 127, 3)]) ∧
    (let s := laneAt (wrnAt up 7 2) 1023 2
     1023 ∈ blockLanes 127 ∧ 7 ≤ s.bootStep ∧ s.bootStep ≤ 0xA ∧ s.laneState 1023 = 2 ∧ s.wornanUp (1023 / 128) = true ∧
       s.laneCfg 1023 F.LNE_LANE_CFG_PATTERN = 0 ∧ s.laneCfg 1023 F.LNE_LANE_CFG_LOOPBACK = 0 ∧
       s.laneCfg 1023 F.LNE_LANE_CFG_TRAIN_EN = 1 ∧ (s.lane 1023).wake = false ∧ s.sleepMode (s.portOfLane 1023) ≠ 2) ∧
    ((grpAt up 127 4).lolHolds 127 .delayLine = true ∧ (∃ c, (grpAt up 127 4).lolHolds 127 c = false)) ∧ up.running = true :=
  ⟨by decide +kernel, ⟨canon (by decide +kernel), by decide +kernel, inRange (by decide +kernel)⟩,
   ⟨⟨_, rfl⟩, by decide +kernel⟩, by omega, by decide +kernel, ⟨_, List.mem_cons_of_mem _ (List.mem_singleton.2 rfl)⟩,
   by decide +kernel, ⟨by decide +kernel, .phase 0, by decide +kernel⟩, by decide +kernel⟩

theorem wit_LanesTrainAndLock :
    (∀ st ∈ [4, 5, 6, 7, 8], (laneAt up 1023 st).laneState 1023 = st ∧ up.laneState 1023 ≠ st) ∧
    (StoresCanonical (laneAt up 1023 4) ∧ FramesInRange (laneAt up 1023 4) ∧ up.sleepMode (up.portOfLane 1023) ≠ 2) ∧
    (let s := (laneAt up 1023 4).put (.LNE_LANE_TXFFE 1023) (tapWord [0, 0, -8, 56, 0])
     let old := tapsOf (s.get (.LNE_LANE_TXFFE 1023))
     (∃ (k : Nat) (u : Bool), k < 5 ∧ tapListOk (old.set k (old.getD k 0 + if u then 1 else -1)) = true) ∧
       (∃ w, preset 1 = some w) ∧ preset 99 = none ∧ skeysFrom none s.lne.lanes = true) ∧
    (let s := (laneAt up 1023 4).ask 1023 (.preset 1) 3
     s.laneState 1023 = 4 ∧ s.mayAsk (.preset 1) = true ∧ 3 ≤ (s.lane 1023).repeats (.preset 1) false ∧
       (s.lane 1023).repeats (.preset 1) true < 3 ∧
       (s.setFld .LNE_TRAIN_CFG F.LNE_TRAIN_CFG_PRECODE 0).mayAsk (.precode true) = false ∧
       (s.setFld .LNE_TRAIN_CFG F.LNE_TRAIN_CFG_PRECODE 1).mayAsk (.precode true) = true) ∧
    (let s := (laneAt up 1023 6).setFld (.LNE_LANE_STATUS 1023) F.LNE_LANE_STATUS_SIGNAL 1
     s.laneState 1023 = 6 ∧ s.fld (.LNE_LANE_STATUS 1023) F.LNE_LANE_STATUS_SIGNAL = 1) ∧
    (let s := laneAt up 1023 7
     s.laneCfg 1023 F.LNE_LANE_CFG_TRAIN_EN = 1 ∧
       (s.setFld (.LNE_LANE_CFG 1023) F.LNE_LANE_CFG_TRAIN_EN 0).laneCfg 1023 F.LNE_LANE_CFG_TRAIN_EN = 0) ∧
    (let s := laneAt win 1023 2
     let v := F.LNE_LANE_CFG_PATTERN.set (s.get (.LNE_LANE_CFG 1023)) 1
     StoresCanonical s ∧ FramesInRange s ∧ ExpertWindow s 5 ∧ Passes s 5 (.LNE_LANE_CFG 1023) v ∧ 2 ≤ s.laneState 1023 ∧
       s.laneCfg 1023 F.LNE_LANE_CFG_PATTERN ≠ F.LNE_LANE_CFG_PATTERN.get v ∧ s.grpState (1023 / 8) ≠ 4 ∧
       F.LNE_LANE_CFG_SLEEP.get v ≠ 2 ∧ s.sleepMode (s.portOfLane 1023) ≠ 2) ∧
    (let s := (laneAt up 1023 8).setFld (.LNE_LANE_STATUS 1023) F.LNE_LANE_STATUS_PRBS_LOCK 1
     s.laneState 1023 = 8 ∧ s.fld (.LNE_LANE_STATUS 1023) F.LNE_LANE_STATUS_PRBS_LOCK = 1) :=
  ⟨by decide +kernel, ⟨canon (by decide +kernel), inRange (by decide +kernel), by decide +kernel⟩,
   ⟨⟨3, false, by decide +kernel⟩, ⟨_, rfl⟩, by decide +kernel⟩, by decide +kernel, by decide +kernel, by decide +kernel,
   ⟨canon (by decide +kernel), inRange (by decide +kernel), expert (by decide +kernel), passes (by decide +kernel),
    by decide +kernel⟩, by decide +kernel⟩

/-- Lane 8, a port, with SLEEP = 1. -/
def sleepy : State := (ports up).setFld (.LNE_LANE_CFG 8) F.LNE_LANE_CFG_SLEEP 1

theorem wit_LanesSleepAndAdapt :
    (StoresCanonical sleepy ∧ FramesInRange sleepy ∧ sleepy.isPort 8 = true ∧ sleepy.sleepMode 8 = 1 ∧
      (laneAt sleepy 8 7).laneState 8 = 7 ∧ (laneAt sleepy 8 7).portIsUp 8 = false ∧ (laneAt sleepy 8 7).sleepMode 8 = 1) ∧
    (let s := (laneAt sleepy 8 1).setFld .LNE_TRAIN_CFG F.LNE_TRAIN_CFG_PROBE_PERIOD 1
     s.laneState 8 = 1 ∧ s.sleepMode (s.portOfLane 8) = 1 ∧ s.isPort 8 = true ∧
       s.fld .LNE_TRAIN_CFG F.LNE_TRAIN_CFG_PROBE_PERIOD ≠ 0) ∧
    ((laneAt up 1023 3).laneState 1023 = 3 ∧ skeysFrom none up.lne.lanes = true) ∧
    (let s := laneAt (up.setFld (.LNE_LANE_CFG 1023) F.LNE_LANE_CFG_ANISE_EN 1) 1023 6
     s.laneState 1023 = 6 ∧ s.laneCfg 1023 F.LNE_LANE_CFG_ANISE_EN = 1 ∧ s.anisePhase 1023 = 0 ∧
     s.fld .HLT_HEALTH_CFG F.HLT_HEALTH_CFG_CAL_FREEZE = 0 ∧
     ∀ ph ∈ [1, 2, 3, 4, 5], (s.setFld (.LNE_LANE_ANISE 1023) F.LNE_LANE_ANISE_PHASE ph).anisePhase 1023 = ph) ∧
    (let s := (up.setFld (.LNE_LANE_ANISE 1023) F.LNE_LANE_ANISE_EYE_SHADOW 255)
     s.fld (.LNE_LANE_ANISE 1023) F.LNE_LANE_ANISE_EYE_MAIN + s.fld .LNE_ANISE_CFG F.LNE_ANISE_CFG_SWAP_GAIN ≤
       s.fld (.LNE_LANE_ANISE 1023) F.LNE_LANE_ANISE_EYE_SHADOW ∧
     up.fld (.LNE_LANE_ANISE 1023) F.LNE_LANE_ANISE_EYE_SHADOW <
       up.fld (.LNE_LANE_ANISE 1023) F.LNE_LANE_ANISE_EYE_MAIN + up.fld .LNE_ANISE_CFG F.LNE_ANISE_CFG_SWAP_GAIN) :=
  ⟨⟨canon (by decide +kernel), inRange (by decide +kernel), by decide +kernel⟩, by decide +kernel⟩

theorem wit_WornanLinks :
    (StoresCanonical up ∧ FramesInRange up ∧ up.wrn 7 F.LNE_WRN_STATUS_STATE = 0 ∧ up.wrn 7 F.LNE_WRN_STATUS_ATTEMPT < 3 ∧
      5 ≤ up.bootStep ∧ up.bootStep ≤ 0xA ∧ up.wornanUp 7 = false) ∧
    (∀ st ∈ [1, 2, 3], (wrnAt up 7 st).wrn 7 F.LNE_WRN_STATUS_STATE = st) ∧
    (let s := { wrnAt up 7 1 with lne := { up.lne with retrying := [7] } }
     s.lne.retrying.contains 7 = true ∧ up.lne.retrying.contains 7 = false) ∧
    (3 ≤ ((wrnAt (boot 5) 7 1).setFld (.LNE_WRN_STATUS 7) F.LNE_WRN_STATUS_ATTEMPT 3).wrn 7 F.LNE_WRN_STATUS_ATTEMPT) ∧
    ((wrnAt up 7 2).wornanUp 7 = true ∧ up.running = true) ∧
    (∃ limit, limit = up.fld (.LNE_WRN_CFG 7) F.LNE_WRN_CFG_UNCORR_LIMIT ∧ (limit ≤ 1 ∨ 0 + 1 < limit)) :=
  ⟨⟨canon (by decide +kernel), inRange (by decide +kernel), by decide +kernel⟩, by decide +kernel, by decide +kernel,
   by decide +kernel, by decide +kernel, ⟨_, rfl, by decide +kernel⟩⟩

/-! ### Ports and frames -/

/-- A pause frame (opcode 1) or PFC frame (0x101) with the words that follow it, sealed. -/
def pauseBs (op : Nat) (ws : List Nat) : List Byte :=
  sealFrame (beBytes 6 0x0180C2000001 ++ beBytes 6 2 ++ beBytes 2 0x8808 ++ beBytes 2 op ++ ws.flatMap (beBytes 2))

/-- A plain frame: unicast, type 0x9000, 60 bytes and FCS. -/
def plainBs : List Byte := sealFrame (beBytes 6 0x020000000001 ++ beBytes 6 0x020000000002 ++ beBytes 2 0x9000)

/-- The FCS of IEEE 802.3 over the nine bytes of its published check string is 0xCBF43926 (R176), least significant byte first. -/
theorem test_fcs : fcsOf ([0x31, 0x32, 0x33, 0x34, 0x35, 0x36, 0x37, 0x38, 0x39] : List Byte) = [0x26, 0x39, 0xF4, 0xCB] := by
  decide +kernel

theorem wit_PortsChangeAndReceive :
    (StoresCanonical net ∧ FramesInRange net ∧ net.isPort 15 = true ∧ net.portIsUp 0 = true ∧ net.running = true ∧
      net.transmitting 0 = none ∧ net.fld .PRT_PARK_CFG F.PRT_PARK_CFG_WINDOW ≠ 0) ∧
    (∀ st ∈ [1, 2, 3], (portAt net 15 st).portState 15 = st ∧ skeysFrom none (portAt net 15 st).ports = true) ∧
    (let s := laneAt (portAt net 15 2) 15 6
     s.portState 15 = 2 ∧ s.lanesUp 15 = true ∧ net.lanesUp 15 = false ∧ s.park 15 ≠ 1 ∧
       (s.setFld (.PRT_PORT_STATUS 15) F.PRT_PORT_STATUS_PARK 1).park 15 = 1) ∧
    ((180000 : Nat) ≤ 180000 ∧ 180000 < 180001) ∧
    (net.rstSet 3 (0 / 128) (0 / 8 % 16) = false ∧
      (net.setFld (.BLKCTL 3 0 0) F.BLKCTL_RST 1).rstSet 3 (7 / 128) (7 / 8 % 16) = true ∧ (holding net (frm plainBs)).frame 7 = some (frm plainBs)) ∧
    ((0 : Nat) ≤ 0 ∧ 0 < 0 + net.blkLanes (0 / 8) ∧
      (∀ kv ∈ net.frames, kv.2.port = 0 → kv.2.fromHost = true ∨ kv.2.engine = true ∨ kv.2.ended = true)) :=
  ⟨⟨canon (by decide +kernel), inRange (by decide +kernel), by decide +kernel⟩, by decide +kernel⟩

theorem wit_PauseReceivedAndSent :
    (∀ q ∈ [(1, [0]), (1, [65535]), (0x101, [255, 0, 1, 2, 3, 4, 5, 6, 65535])],
      net.isPause 0 (pauseBs q.1 q.2) = true ∧ beAt (pauseBs q.1 q.2) 14 2 = q.1) ∧
    (let s := holding net (frm (pauseBs 1 [65535]))
     StoresCanonical s ∧ s.frame 7 = some (frm (pauseBs 1 [65535])) ∧ (frm (pauseBs 1 [65535])).ended = true ∧
       (frm (pauseBs 1 [65535])).bad = false ∧ (frm (pauseBs 1 [65535])).fromHost = false) ∧
    (∀ m ∈ [1, 2], (net.stPut 0 (.PRT_FC_CFG 0) (F.PRT_FC_CFG_FC_MODE.set 0#32 m)).fcMode 0 0 = m) ∧
    (let s := net.setFld (.PRT_PFC_STATUS 15) F.PRT_PFC_STATUS_RX_PAUSED 128
     StoresCanonical s ∧ s.isPort 15 = true ∧ (s.fld (.PRT_PFC_STATUS 15) F.PRT_PFC_STATUS_RX_PAUSED).testBit 7 = true) ∧
    (let s := net.setFld (.PRT_PFC_STATUS 15) F.PRT_PFC_STATUS_TX_XOFF 128
     (s.fld (.PRT_PFC_STATUS 15) F.PRT_PFC_STATUS_TX_XOFF).testBit 7 = true) ∧
    (let s := { net with ports := [(0, ⟨128, 1, [], 0, false⟩)] }
     skeysFrom none s.ports = true ∧ s.portIsUp 0 = true ∧ s.transmitting 0 = none ∧ (s.portSt 0).olds = [] ∧
       (s.portSt 0).dueXoff ||| (s.portSt 0).dueXon ≠ 0 ∧
       (({ net with ports := [(0, ⟨0, 0, [(2, 128)], 0, false⟩)] } : State).portSt 0).olds = (2, 128) :: []) :=
  by refine ⟨?_, ⟨canon ?_, ?_⟩, ?_, ⟨canon ?_, ?_⟩, ?_⟩ <;> decide +kernel

/-- A frame whose last byte has yet to arrive. -/
def arriving (bytes : List Byte) : Frame := { frm bytes with ended := false }

theorem wit_FrameEnds :
    (∀ bs ∈ [plainBs, List.replicate 63 0, List.replicate 64 0, pauseBs 1 [0]],
      let s := holding net (arriving bs)
      s.frame 7 = some (arriving bs) ∧ (arriving bs).ended = false ∧ (arriving bs).fromHost = false) ∧
    (let s := holding net (arriving plainBs)
     StoresCanonical s ∧ FramesInRange s ∧ s.isPause 0 plainBs = false ∧ (frm plainBs).stage ≠ Stage.dropped) ∧
    ((arriving plainBs).len = 64 ∧ 64 ≤ net.maxFrame 0 0 ∧ fcsGood plainBs = true ∧ fcsGood (List.replicate 64 0) = false ∧
      (arriving (List.replicate 63 0)).len < 64 ∧ fcsStomped (plainBs.take 60 ++ (plainBs.drop 60).map (~~~ ·)) = true ∧
      net.isPause 0 (pauseBs 1 [0]) = true ∧ fcsGood (pauseBs 1 [0]) = true) ∧
    ((holding net (arriving (List.replicate 9728 0))).frame 7 = some (arriving (List.replicate 9728 0)) ∧
      net.maxFrame 0 0 < (arriving (List.replicate 9728 0)).len) :=
  ⟨by decide +kernel, ⟨canon (by decide +kernel), inRange (by decide +kernel), by decide +kernel⟩, by decide +kernel,
   holding_frame _, by simp only [Frame.len, arriving, frm, List.length_replicate]; decide +kernel⟩

/-- The parse result of the plain frame at port 0. -/
def plainParse : Parse := parseFrame (net.parseCfg (frm plainBs)) plainBs

/-- An action word pair: disposition 0 (FORWARD). -/
def act0 : Action := ⟨0, 0⟩

/-- A frame parsed, and one whose action has been applied, at a stage. -/
def parsed : Frame := { frm plainBs with parse := some plainParse, stage := .parsed }
def acted (a : Action) (st : Stage) : Frame := { parsed with act := some a, stage := st }

/-- A ternary row that matches any key (mask 0), and a pattern row that matches nothing asked of it, of slice 0. -/
def anyRow : Row := ⟨List.replicate 32 0, true, true⟩

theorem wit_FramesParsedAndClassified :
    (skeysFrom none net.rows = true ∧
      (let s := { net with rows := [(rowKey 0x10 12287, [anyRow])] }
       (s.tcamSearch 0 0 77 []).2 = some (12287, anyRow) ∧ skeysFrom none s.rows = true ∧
         s.visibleRows 0x10 0 = [] ++ (12287, anyRow) :: [] ∧ 77 &&& anyRow.mask = anyRow.value) ∧
      (net.tcamSearch 0 0 77 []).2 = none) ∧
    (let s := holding net (frm plainBs)
     s.frame 7 = some (frm plainBs) ∧ (frm plainBs).stage = Stage.admitted ∧ s.isPause 0 plainBs = false ∧ s.rstSet 4 0 (groupOf 0 % 8) = false ∧
       (s.setFld (.BLKCTL 4 0 0) F.BLKCTL_RST 1).rstSet 4 0 (groupOf 0 % 8) = true) ∧
    (let s := holding net parsed
     s.frame 7 = some parsed ∧ parsed.parse = some plainParse ∧ s.ptpConsumes parsed = false ∧ s.rstSet 4 0 8 = false ∧
       s.behind 7 parsed (fun t => t == Stage.admitted || t == Stage.parsed) = false ∧ plainParse.verdict = Verdict.ok ∧
       (parseFrame (net.parseCfg (frm [])) []).verdict ≠ Verdict.ok ∧ s.visibleRows (0x10 + parsed.slice) parsed.sel = []) ∧
    (let s := holding net (acted act0 .recirc)
     s.frame 7 = some (acted act0 .recirc) ∧ (acted act0 .recirc).act = some act0 ∧
       s.behind 7 (acted act0 .recirc) (fun t => t == Stage.recirc) = false) := by decide +kernel

/-- An action of a disposition. -/
def actDisp (d : Nat) : Action := ⟨F.PIP_PORT_DEF_A_DISP.set 0#32 d, 0⟩

theorem wit_InspectionAndItsAction :
    (let s := holding net (acted act0 .dpi)
     StoresCanonical s ∧ FramesInRange s ∧ s.frame 7 = some (acted act0 .dpi) ∧ (acted act0 .dpi).scanned = false ∧
       s.refs 7 = 0 ∧ s.visibleRows (0x18 + (acted act0 .dpi).slice) 0 = [] ∧
       (∀ kv ∈ s.frames, kv.2.stage = Stage.dpi ∨ kv.2.stage = Stage.recirc → kv.2.port = 0 → kv.2.fromHost = false → kv.1 = 7) ∧
       (acted act0 .dpi).scanOld = none ∧ skeysFrom none s.rows = true ∧
       (acted act0 .dpi).scanOld.getD (s.patternMatches (acted act0 .dpi) plainParse) = []) ∧
    (let s := { holding net (acted act0 .dpi) with rows := [(rowKey 0x18 16383, [⟨List.replicate 34 0, true, true⟩])] }
     ∃ x, (acted act0 .dpi).scanOld.getD (s.patternMatches (acted act0 .dpi) plainParse) = x :: []) ∧
    (∀ d ∈ [0, 1, 2], (actDisp d).valid = true ∧ (actDisp d).disp = d) ∧
    (let a : Action := ⟨F.PIP_PORT_DEF_A_REDIR.set (actDisp 0).a 1, 15⟩
     a.valid = true ∧ a.disp = 0 ∧ a.redir = true ∧ a.port = 15 ∧ net.isPort a.port = true) ∧
    (∀ d ∈ [0, 1], let a : Action := ⟨F.PIP_PORT_DEF_A_COPY_HOST.set (actDisp d).a 1, 0⟩
     a.valid = true ∧ a.disp = d ∧ a.copyHost = true) ∧
    (∀ c ∈ [0, 1, 2], let a : Action := ⟨F.PIP_PORT_DEF_A_RECIRC.set 0#32 c, 0⟩
     a.valid = true ∧ a.recirc = c) :=
  ⟨⟨canon (by decide +kernel), inRange (by decide +kernel), by decide +kernel⟩, ⟨(16383, ⟨List.replicate 34 0, true, true⟩), by decide +kernel⟩, by decide +kernel⟩

/-- Slice 7's tables take a command of a session of HANDLE 5 with its operation in the registers. -/
def tblCmd (T op table : Nat) (x : Session) : State :=
  let s := { up with sessions := [(5, x)], tblOwner := [(T, 5)] }
  s.put (cmdReg T) (F.PIP_TBL_CMD_GO.set (F.PIP_TBL_CMD_TABLE.set (F.PIP_TBL_CMD_OP.set 0#32 op) table) 1)

theorem wit_TableCommandsDone :
    (∀ q ∈ [(Instr.pipTblWrite 7, 7, 1, 0x17), (.pipTblClear 7, 7, 2, 0x1F), (.fwdTblWrite, 8, 1, 0x20),
        (.fwdTblClear, 8, 2, 0x20), (.mcastTblWrite, 9, 1, 0x30), (.mcastTblClear, 9, 2, 0x30), (.gateTblWrite, 10, 1, 0x40),
        (.gateTblClear, 10, 2, 0x40)],
      tableCommand q.1 = some (q.2.1, q.2.2.1) ∧ (tblCmd q.2.1 q.2.2.1 q.2.2.2 (sess 2)).cmdWaiting q.2.1 q.2.2.1 = true) ∧
    (let s := tblCmd 9 2 0x30 (sess 2)
     StoresCanonical s ∧ s.stewardHeld = false ∧ s.session (sgetD s.tblOwner 9 0) = some (sess 2) ∧ s.cmdFault 9 = 0 ∧
       s.tblLocked 5 (s.cmdTable 9) = false ∧ ((s.cmdTake 9).validate [] [s.cmdRecord 9]).1 = 0) ∧
    ((tblCmd 9 2 0x20 (sess 3)).cmdFault 9 ≠ 0 ∧
      (let s := { tblCmd 9 2 0x30 (sess 2) with sessions := [(5, sess 2), (6, txn (sess 2) [] [⟨0x30, 2, 0, []⟩] 4)] }
       s.tblLocked 5 (s.cmdTable 9) = true) ∧ (tblCmd 9 2 0x30 (txn (sess 2) [] [] 4092)).stewardHeld = false) ∧
    (∀ q ∈ [(7, 0x17), (9, 0x30), (10, 0x40)], let s := tblCmd q.1 3 q.2 (sess 1)
      s.cmdWaiting q.1 3 = true ∧ s.cmdTable q.1 ∈ cmdTables q.1 ∧ s.cmdIndex q.1 < indexLimit (s.cmdTable q.1) ∧
        s.rowFor (s.cmdTable q.1) (s.cmdIndex q.1) s.curSel = none) ∧
    (let s := { tblCmd 9 3 0x30 (sess 1) with rows := [(rowKey 0x30 0, [anyRow])] }
     s.rowFor (s.cmdTable 9) (s.cmdIndex 9) s.curSel = some anyRow) ∧
    (∀ op ∈ [3, 4, 5], let s := ((tblCmd 8 op 0x20 (sess 1)).setCopyUp 0 true).readEcc [(1, .corrected)]
      s.cmdTable 8 = 0x20 ∧ s.cmdWaiting 8 op = true ∧ s.t2Up = true ∧ s.rebuilding = false ∧ s.fwd.flushCmd = none ∧
        findVer (s.copy s.mainCopy) s.seeds (recKey ((List.range 5).map fun i => s.get (.FWD_TBL_DATA i)))
          (fun e => visTo e.vis s.curSel) = none ∧
        (s.get (.FWD_TBL_DATA 0)).toNat < 2 ^ 27 ∧ 2 ^ 27 ≤ ((s.put (.FWD_TBL_DATA 0) 0x08000000).get (.FWD_TBL_DATA 0)).toNat) :=
  ⟨by decide +kernel, ⟨canon (by decide +kernel), by decide +kernel⟩, by decide +kernel⟩

/-! ### Exact match -/

/-- Both tier-2 copies in service. -/
def t2 : State := (net.setCopyUp 0 true).setCopyUp 1 true

/-- The key of the plain frame's destination in domain 0 (KTYPE 1), and an entry of it that port 15 learned. -/
def dstKey : Nat := fwdKey 1 (net.domain (acted act0 .lookup) plainParse 0) plainParse.da
def dstEntry : FwdEntry := learnedEntry dstKey 15

/-- The entry stands at its first bucket in both copies. -/
def known : State :=
  let b := (buckets t2.seeds dstKey).1
  { t2 with fwd := { t2.fwd with copy0 := [(b, dstEntry)], copy1 := [(b, dstEntry)], hit := [(b, 1)] } }

/-- Profile 0 looks the destination up. -/
def looks (s : State) (ktype : Nat) : State := s.stPut 0 (.FWD_LKP_A 0) (F.FWD_LKP_A_KTYPE.set (s.stGet 0 (.FWD_LKP_A 0)) ktype)

/-- A tier-1 set of one way. -/
def oneWay (key bucket recn : Nat) : T1Set := ⟨[some ⟨key, 0, 0, 3, bucket, recn⟩, none, none, none], 0⟩

theorem wit_LookupTiers :
    (∀ kt ∈ [0, 1, 2], let s := looks (holding t2 (acted act0 .lookup)) kt
      s.frame 7 = some (acted act0 .lookup) ∧ (acted act0 .lookup).parse = some plainParse ∧
        s.lkpA 0 (acted act0 .lookup).profile F.FWD_LKP_A_KTYPE = kt ∧ s.rstSet 5 8 2 = false ∧ s.t2Waiting 0 < 2048) ∧
    (t2.setFld (.BLKCTL 5 8 2) F.BLKCTL_RST 1).rstSet 5 8 2 = true ∧
    keyAddr 2 plainParse = none ∧ keyAddr 1 plainParse = some plainParse.da ∧
    (let s := { known with fwd := { known.fwd with t1 := [(t1Index known.seeds dstKey, oneWay dstKey 5 1)], hit := [(6, 3)] } }
     t1Find (s.t1Set dstKey) dstKey 0 = some ⟨dstKey, 0, 0, 3, 5, 1⟩ ∧ (s.hitBits 5).testBit 1 = false ∧
       (s.hitBits 6).testBit 1 = true) ∧
    (t1Find (t2.t1Set dstKey) dstKey 0 = none ∧ t2.t2Up = true ∧ net.t2Up = false) ∧
    (let f := acted act0 (.tier2 1 0 dstKey)
     let s := holding known f
     s.frame 7 = some f ∧ f.stage = Stage.tier2 1 0 dstKey ∧ s.copyUp 1 = true ∧ s.copyUp (1 - 1) = true ∧
       findVer (s.copy 1) (s.seedsOf 1) dstKey (fun e => visTo e.vis f.sel) = some ((buckets t2.seeds dstKey).1, dstEntry) ∧
       findVer (t2.copy 1) (t2.seedsOf 1) dstKey (fun e => visTo e.vis f.sel) = none ∧
       (s.hitBits (buckets t2.seeds dstKey).1).testBit 1 = false) ∧
    (let s := net.setCopyUp 1 true
     s.copyUp 1 = true ∧ s.copyUp (1 - 1) = false ∧ skeysFrom none (s.copy 1) = true) := by decide +kernel

theorem wit_HitsMissesPromotion :
    ((acted act0 .lookup).port < 1024 ∧ (acted act0 .lookup).fromHost = false) ∧
    (∀ d ∈ [0, 1, 2], (net.stPut 0 (.FWD_LKP_A 0) (F.FWD_LKP_A_MISS_DISP.set 0#32 d)).lkpA 0 0 F.FWD_LKP_A_MISS_DISP = d) ∧
    (∀ d ∈ [0, 1, 2, 3], ((BitVec.ofNat 32 (15 * 4 + d)).toNat % 4 = d)) ∧ net.isPort 15 = true ∧ net.isPort 1023 = false ∧
    net.noHairpin (acted act0 .lookup) = true ∧
    (let s := (t2.stPut 0 (.FWD_LKP_A 0) (F.FWD_LKP_A_PROMOTE.set (t2.stGet 0 (.FWD_LKP_A 0)) 1)).setFld .FWD_CARAWAY_CFG
       F.FWD_CARAWAY_CFG_T1_EN 1
     s.lkpA 0 0 F.FWD_LKP_A_PROMOTE = 1 ∧ s.fld .FWD_CARAWAY_CFG F.FWD_CARAWAY_CFG_T1_EN = 1 ∧ (s.t1Set dstKey).gen = 0 ∧
       t1Room (s.t1Set dstKey) = true ∧ skeysFrom none s.fwd.t1 = true) ∧
    t1Room ⟨List.replicate 4 (some ⟨1, 0, 0, 3, 5, 1⟩), 0⟩ = false ∧
    (let w := oneWay dstKey 5 1
     w.ways[0]? = some (some ⟨dstKey, 0, 0, 3, 5, 1⟩) ∧ w.ways[1]? = some none ∧
       (oneWay (dstKey + 1) 5 1).ways = [some ⟨dstKey + 1, 0, 0, 3, 5, 1⟩, none, none, none]) ∧
    (let full : T1Set := ⟨[1, 2, 0, 0].map fun n => some ⟨1, 0, 0, 3, 5, n⟩, 0⟩
     t1Room full = true ∧ full.ways[2]? = some (some ⟨1, 0, 0, 3, 5, 0⟩) ∧ 1 ≠ dstKey) := by decide +kernel

theorem wit_Learning :
    (let s := { t2 with fwd := { t2.fwd with learnQ := [(dstKey, 15)] } }
     s.fwd.learnQ = [(dstKey, 15)] ∧ s.fwd.job = none ∧ s.t2Up = true ∧ s.rebuilding = false ∧ s.versions dstKey = [] ∧ s.readEcc [] = s ∧
       s.learnedHeld < s.fld .FWD_LEARN_CFG F.FWD_LEARN_CFG_MAX_LEARNED ∧ s.keysHeld < maxKeys ∧
       (s.setFld .FWD_LEARN_CFG F.FWD_LEARN_CFG_MAX_LEARNED 0).fld .FWD_LEARN_CFG F.FWD_LEARN_CFG_MAX_LEARNED ≤ s.learnedHeld ∧
       sfind (s.copy s.mainCopy) (buckets s.seeds dstKey).1 = none) ∧
    (known.versions dstKey = [((buckets t2.seeds dstKey).1, dstEntry)] ∧ dstEntry.learned = true ∧
      dstEntry.resA.toNat / 4 % 65536 = 15 ∧ (known.hitBits (buckets t2.seeds dstKey).1).testBit 1 = false) ∧
    (let j : TuJob := ⟨9, [(buckets t2.seeds dstKey).1], dstEntry, false⟩
     let s := { known with fwd := { known.fwd with job := some j } }
     s.fwd.job = some j ∧ s.t2Up = true ∧ s.rebuilding = false ∧ (buckets t2.seeds dstKey).1 ≠ j.moved ∧
       sfind (s.copy s.mainCopy) (buckets t2.seeds dstKey).1 = some dstEntry ∧ s.jobs = [] ∧
       ({ net with fwd := { net.fwd with job := some j } } : State).t2Up = false) := by decide +kernel

/-- A Caraway pass under way. -/
def passing (aging : Bool) : State := { known with fwd := { known.fwd with pass := some aging, serving := [15] } }

theorem wit_CarawayAndStacks :
    (known.fld .FWD_CARAWAY_CFG F.FWD_CARAWAY_CFG_PERIOD = known.fld .FWD_CARAWAY_CFG F.FWD_CARAWAY_CFG_PERIOD ∧
      (known.setFld .FWD_CARAWAY_CFG F.FWD_CARAWAY_CFG_PERIOD 1).fld .FWD_CARAWAY_CFG F.FWD_CARAWAY_CFG_PERIOD ≠ 0 ∧
      known.t2Up = true ∧ known.running = true ∧ known.fwd.pass = none ∧ known.rebuilding = false) ∧
    (∀ aging ∈ [true, false], let s := passing aging
      s.fwd.pass = some aging ∧ s.fwd.job = none ∧ s.t2Up = true ∧
        (s.copy s.mainCopy).find? (fun kv => decide (s.fwd.pos ≤ kv.1) && !kv.2.moved) =
          some ((buckets t2.seeds dstKey).1, dstEntry) ∧ skeysFrom none (s.copy s.mainCopy) = true ∧
        skeysFrom none s.fwd.hit = true ∧ dstEntry.resA.toNat / 4 % 1024 ∈ s.fwd.serving ∧ dstEntry.ageEn = true ∧
        dstEntry.vis = 3 ∧ (s.hitBits (buckets t2.seeds dstKey).1).testBit 0 = true) ∧
    (let s := { passing true with fwd := { (passing true).fwd with pos := 2 ^ 27, gone := [5] } }
     ((s.copy s.mainCopy).any fun kv => decide (s.fwd.pos ≤ kv.1) && !kv.2.moved) = false ∧ 5 ∈ s.fwd.gone) ∧
    (let s := { known with fwd := { known.fwd with stacks0 := some (0, 1), stacks1 := some (2, 3) } }
     s.raised Ev.hbmStackDown 3 = false ∧ net.t2Up = false ∧ net.fwd.job = none ∧ net.jobs = [] ∧ s.fwd.stacks1 = some (2, 3) ∧
       ∀ st ∈ [1, 2], (s.setFld .FWD_HASH_STATUS F.FWD_HASH_STATUS_STATE st).hashState = st) ∧ StoresCanonical known :=
  ⟨by decide +kernel, by decide +kernel, by decide +kernel, by decide +kernel, canon (by decide +kernel)⟩

/-- A copy of three keys whose hashes agree under every pair of seeds, so that the third finds no bucket in any placement. -/
def alike : SMap FwdEntry :=
  [0, 0x57ca5bdce73587, 0x8722aac9cadcee].map fun d => (d, { dstEntry with key := dstKey ^^^ d })

theorem wit_RebuildSteps :
    (let s := { bound t2 (sess 3) with fwd := known.fwd }
     StoresCanonical s ∧ ExpertWindow s 5 ∧ Passes s 5 .FWD_REHASH_CTL 1#32 ∧ F.FWD_REHASH_CTL_GO.get 1#32 = 1 ∧
       s.fld .FWD_REHASH_CTL F.FWD_REHASH_CTL_GO = 0 ∧ s.copyUp 0 = true ∧ s.copyUp 1 = true ∧ net.copyUp 0 = false) ∧
    (∀ st ∈ [1, 2], let s := known.setFld .FWD_HASH_STATUS F.FWD_HASH_STATUS_STATE st
      s.hashState = st ∧ s.fwd.job = none ∧ s.fwd.rebuildFailed = false ∧ skeysFrom none s.cnt = true) ∧
    (skeysFrom none img.regs = true ∧ Reg.FWD_HASH_SEED1.imaged = true) ∧
    (insertAll (3, 4) (versionsOf known.fwd.copy0) []).1.isSome = true ∧
    (insertAll (3, 4) (versionsOf alike) []).1 = none :=
  ⟨⟨canon (by decide +kernel), expert (by decide +kernel), passes (by decide +kernel), by decide +kernel⟩, by decide +kernel⟩

/-! ### Queues -/

/-- The plain frame routed to port 15, and queued there with one replica in the reserve. -/
def routed : Frame := { acted act0 .routed with route := some (.port 15) }
def queuedF : Frame := { routed with stage := .queued, pool := some .reserve, charge := 1, written := 1, whole := true,
                                     cells := [0] }
def queued (r : Replica) : State := { (holding net queuedF).putRep 0 r with nextRep := 1 }

theorem wit_FramesQueuedAndHeld :
    (let s := holding net routed
     StoresCanonical s ∧ FramesInRange s ∧ s.frame 7 = some routed ∧ routed.stage = Stage.routed ∧
       routed.route = some (.port 15) ∧ s.enqueueBehind 7 routed = false ∧ s.enqueueShut routed = false ∧ s.refs 7 = 0 ∧ s.isPort 15 = true ∧
       s.park 15 ≠ 2 ∧ s.park 15 ≠ 1 ∧ s.timeClass 0 0 = false ∧ s.expressClass 0 0 = false ∧ s.lossless 0 0 0 = false ∧
       (∀ kv ∈ s.reps, kv.1 < s.nextRep) ∧ net.isPort 1023 = false) ∧
    ((net.setFld (.PRT_PORT_STATUS 15) F.PRT_PORT_STATUS_PARK 2).park 15 = 2) ∧
    (let s := (net.stPut 0 (.SWC_CLASS_CFG 0) (F.SWC_CLASS_CFG_TIME.set 0#32 1)).setFld .SWC_TIME_CFG F.SWC_TIME_CFG_BURST 0
     s.timeClass 0 0 = true ∧ s.fld .SWC_TIME_CFG F.SWC_TIME_CFG_BURST < s.timeHeld 15 + 2) ∧
    (let s := net.stPut 0 (.SWC_CLASS_CFG 0) (F.SWC_CLASS_CFG_RESERVE.set (net.stGet 0 (.SWC_CLASS_CFG 0)) 63)
     s.queuePool 240 .reserve + s.reserveCells routed ≤ s.classFld 0 0 F.SWC_CLASS_CFG_RESERVE ∧
       s.poolUsed .reserve < s.reservePool) ∧
    (let s := net.stPut 0 (.SWC_CLASS_CFG 0) 0#32
     ¬ (s.queuePool 240 .reserve + s.reserveCells routed ≤ s.classFld 0 0 F.SWC_CLASS_CFG_RESERVE) ∧
       s.sharedAccepts 0 0 (2 ^ 60) (s.reserveCells routed) = false) ∧
    (let f := { queuedF with whole := false }
     (holding net f).frame 7 = some f ∧ (holding net f).shortTime f = false ∧ f.written ≤ f.ncells) ∧
    (let r := { repl 7 240 with spill := SpillSt.inSpill 3 }
     let s := queued r
     s.reps.find? (fun kv => kv.2.g == 0 && kv.2.q == 240 && s.refillable kv.1 kv.2) = some (0, r) ∧
       s.frame r.frame = some queuedF ∧ s.spillWindow + queuedF.ncells ≤ 18750 ∧ StoresCanonical s ∧
       18750 < (s.spillCarry 18750).spillWindow + queuedF.ncells) :=
  ⟨⟨canon (by decide +kernel), inRange (by decide +kernel), by decide +kernel⟩, by decide +kernel, by decide +kernel,
   by decide +kernel, by decide +kernel, by decide +kernel,
   ⟨by decide +kernel, by decide +kernel, by decide +kernel, canon (by decide +kernel), by decide +kernel⟩⟩

theorem wit_MatchingRound : net.boot.scanHold = false ∧
    ({ net with boot := { net.boot with scanHold := true } } : State).boot.scanHold = true ∧ skeysFrom none net.swc.gp = true ∧ skeysFrom none net.swc.ap = true ∧ StoresCanonical net ∧
    FramesInRange net ∧
    ∀ p, (([] : List (Nat × Nat)).foldl State.drainPort (State.reset.takeArrivals [])).ageChecks.growDeficits.frameYields.park p ≠ 3 := by
  have h : (([] : List (Nat × Nat)).foldl State.drainPort (State.reset.takeArrivals [])).ageChecks.growDeficits.frameYields.regs = [] := by
    decide +kernel
  refine ⟨by decide +kernel, by decide +kernel, by decide +kernel, by decide +kernel, canon (by decide +kernel),
    inRange (by decide +kernel), fun p => ?_⟩
  rw [State.park, State.fld, State.get, h]
  change F.PRT_PORT_STATUS_PARK.get (Reg.resetWord (.PRT_PORT_STATUS 0)) ≠ 3
  decide

/-- A request of port group 0 for queue 16 is matched in the first iteration, once deficits have grown (R302). -/
theorem test_matchingRound : (let s := (queued (repl 7 16)).growDeficits; s.accepts (s.grants s.requests)).map (fun x => (x.1, x.2.1)) =
    [(0, 0)] := by decide +kernel

theorem wit_FrameSent :
    (let r := { repl 7 16 with crossed := 1 }
     let s := queued r
     StoresCanonical s ∧ FramesInRange s ∧ s.portIsUp 1 = true ∧ s.transmitting 1 = none ∧ (1 : Nat) ≤ 1 ∧
       1 < 1 + s.blkLanes (1 / 8) ∧ s.nextToSend 1 = some (0, r) ∧ s.frame r.frame = some queuedF ∧
       s.queuePaused r.q = false ∧ s.gateOpen r.q = true ∧ s.fitsGate 1 (classOf r.q) queuedF.len = true ∧ s.neverFits 1 (classOf r.q) queuedF.len = false ∧
       s.pauseWaits 1 = false ∧ ({ s with ports := [(1, ⟨0, 0, [(2, 128)], 0, true⟩)] } : State).pauseWaits 1 = true) ∧
    (let r := { repl 7 16 with crossed := 1, tx := some 5 }
     let s := queued r
     StoresCanonical s ∧ s.transmitting 1 = some 0 ∧ s.rep 0 = some r ∧ r.tx = some 5 ∧ s.allCrossed r = true ∧
       queuedF.gone = [] ∧ (queuedF.seen r ⟨0, [], none⟩).badWords = [] ∧ (queuedF.seen r ⟨0, [], none⟩).badLink = none ∧
       (queuedF.seen r ⟨1, [(0, List.replicate 8 0)], some 0⟩).badWords ≠ [] ∧
       (queuedF.seen r ⟨1, [], some 0⟩).badLink = some 0 ∧ 0 < r.crossed ∧ s.boot.scanHold = false) :=
  ⟨⟨canon (by decide +kernel), inRange (by decide +kernel), by decide +kernel⟩, canon (by decide +kernel), by decide +kernel⟩

/-! ### Time -/

/-- An Expert's window at a running device with ports; T at 2^40 ns. -/
def timed : State := { bound net (sess 3) with tim := { net.tim with t := BitVec.ofNat 96 (2 ^ 72) } }

theorem wit_TimeCommandsTaken :
    (StoresCanonical timed ∧ ExpertWindow timed 5 ∧
      (∀ op ∈ [0, 1, 2, 3], timed.checkWrite (.sess 5 3) (Reg.addr .TIM_SAF_CMD) (F.TIM_SAF_CMD_OP.set 0#32 op) =
        .inr (.TIM_SAF_CMD, F.TIM_SAF_CMD_OP.set 0#32 op) ∧ F.TIM_SAF_CMD_OP.get (F.TIM_SAF_CMD_OP.set 0#32 op) = op) ∧
      timed.instIn timed.curSel .TIM_SAF_CMD = true) ∧
    (timed.sysclkStrobes = false ∧ timed.nowNs < ({ timed with tim := { timed.tim with nextStw := 2 ^ 41 } } : State).tim.nextStw) ∧
    (let s := { timed with tim := { timed.tim with cmd := some (3, 5) } }
     s.engineOn = true ∧ s.tim.unlocked = false ∧ s.tim.nextStw ≤ s.nowNs ∧ s.boot.begun = true ∧ s.pair.cause = none ∧ s.tim.cmd = some (3, 5) ∧ s.selState ≠ 2 ∧ s.selState ≠ 3 ∧
       (s.setFld .TIM_SEL_STATUS F.TIM_SEL_STATUS_STATE 3).selState = 3) ∧
    (let s := { timed with tim := { timed.tim with slew := -1 } }
     s.engineOn = true ∧ s.tim.slew ≠ 0 ∧ (s.slewStep ≤ 1 ∨ s.tim.slew.natAbs < s.slewStep) ∧
       (s.tim.servo + s.tim.slew).natAbs ≤ 2 ^ 20 ∧ s.tim.servo.natAbs ≤ 2 ^ 20 ∧
       (-1 : Int).natAbs < (s.setFld .TIM_SAF_CFG F.TIM_SAF_CFG_SLEW_PPB 65535).slewStep) :=
  ⟨⟨canon (by decide +kernel), expert (by decide +kernel), by decide +kernel⟩, by decide +kernel⟩

/-- Trigger unit `k` armed for an instant. -/
def armed (k : Nat) (next : Int) (period : Nat) : State :=
  { timed with tim := { timed.tim with trigs := [(k, ⟨next, period, 0, 1, some next, none, []⟩)] } }

/-- Port 15 with a schedule of two entries in force and another pending. -/
def gated (idx next : Nat) : State :=
  let x : Sched := ⟨true, 0, 1000, [(1, 400), (2, 600)]⟩
  { timed with tim := { timed.tim with gates := [(15, ⟨some x, 0, idx, next, 1, some (x, next), []⟩)] } }

theorem wit_TriggersAndGates :
    (ExpertWindow timed 5 ∧ Passes timed 5 (.TIM_TRIG_CTRL 0) 0x101#32 ∧ Passes timed 5 (.TIM_TRIG_CTRL 15) 0x100#32 ∧
      F.TIM_TRIG_CTRL_EN.get 0x101#32 = 1 ∧ F.TIM_TRIG_CTRL_EN.get 0x100#32 = 0) ∧
    (StoresCanonical timed ∧ skeysFrom none timed.tim.trigs = true ∧
      timed.fld (.TIM_TRIG_CTRL 15) F.TIM_TRIG_CTRL_EN = 0 ∧ (timed.trig 15).next = none) ∧
    ((0 : Int) < timed.full16 + 1000 * 65536 ∧
      ((timed.put (.TIM_TRIG_PERIOD 15) 7).get (.TIM_TRIG_PERIOD 15)).toNat ≠ 0 ∧
      (let u := timed.put (.TIM_TRIG_START_H 15) 0xFFFF
       u.full16 + 1000 * 65536 ≤ (65536 * ((u.get (.TIM_TRIG_START_L 15)).toNat + 2 ^ 32 *
         (u.get (.TIM_TRIG_START_H 15)).toNat : Nat) : Int))) ∧
    (∀ p ∈ [0, 5], let s := armed 15 7 p
      (s.trig 15).next = some 7 ∧ (7 : Int) ≤ s.full16 ∧ skeysFrom none s.tim.trigs = true ∧ (s.trig 15).period = p ∧ s.outputsHeld = false) ∧
    ((armed 15 (2 ^ 60) 0).full16 < 2 ^ 60) ∧
    (∀ i ∈ [0, 1], let s := gated i 400
      (s.gate 15).oper = some ⟨true, 0, 1000, [(1, 400), (2, 600)]⟩ ∧ skeysFrom none s.tim.gates = true ∧
        (s.gate 15).next ≤ s.nowNs ∧ (s.gate 15).idx = i ∧ (s.gate 15).pend.isSome = true ∧ (s.gate 15).opened = []) ∧
    ((gated 0 (2 ^ 60)).nowNs < ((gated 0 (2 ^ 60)).gate 15).next ∧ (timed.gate 1023).pend = none ∧
      (timed.gate 1023).oper = none) :=
  ⟨⟨expert (by decide +kernel), passes (by decide +kernel), passes (by decide +kernel), by decide +kernel⟩,
   ⟨canon (by decide +kernel), by decide +kernel⟩, by decide +kernel⟩

theorem wit_EnginesFailOver :
    (StoresCanonical timed ∧ timed.engineOn = true ∧ timed.fld .TIM_SAF_STATUS F.TIM_SAF_STATUS_ACTIVE ≤ 1 ∧
      (∀ v ∈ [0, 1], (timed.setFld .TIM_SAF_STATUS F.TIM_SAF_STATUS_STANDBY_OK v).fld .TIM_SAF_STATUS
        F.TIM_SAF_STATUS_STANDBY_OK = v)) ∧
    ((timed.setFld .TIM_SAF_STATUS F.TIM_SAF_STATUS_ACTIVE 2).engineOn = false) ∧
    (ExpertWindow timed 5 ∧ Passes timed 5 .TIM_ENG_CTL 1#32 ∧ F.TIM_ENG_CTL_SWAP.get 1#32 = 1 ∧
      (wrote timed .TIM_ENG_CTL 1#32).engineOn = true) ∧
    (let s := { timed.setFld .TIM_SAF_STATUS F.TIM_SAF_STATUS_ACTIVE 2 with tim := { timed.tim with testing := some 1 } }
     s.tim.testing = some 1 ∧ s.engineOn = false) ∧
    (let s := { timed with tim := { timed.tim with passed := some 1, unlocked := true, strobes := 1000 } }
     s.sysclkStrobes = true ∧ timed.sysclkStrobes = false ∧ timed.tim.strobes < 1000 ∧ s.tim.passed = some 1 ∧
       1 - s.fld .TIM_SAF_STATUS F.TIM_SAF_STATUS_ACTIVE = 1 ∧
       (timed.setFld .TIM_SAF_STATUS (engFld 1) 1).fld .TIM_SAF_STATUS (engFld 1) = 1 ∧
       (timed.setFld .TIM_SAF_STATUS (engFld 1) 0).fld .TIM_SAF_STATUS (engFld 1) ≠ 1) ∧
    (timed.tim.testing = none ∧ ({ timed with tim := { timed.tim with testing := some 1 } } : State).tim.testing = some 1) ∧
    (State.reset.tim.ticking = false ∧ skeysFrom none timed.tim.ptp = true ∧ timed.tim.ticking = true ∧
      timed.tim.nextServo ≤ timed.nowNs ∧
      (let s := laneAt ({ timed.setFld (.TIM_PORT_STATUS 8) F.TIM_PORT_STATUS_PH_VALID 1 with
          tim := { timed.tim with ptp := [(8, timed.ptpPort 8)] } }) 8 6
       sfind s.tim.ptp 8 = some (timed.ptpPort 8) ∧ s.phValid 8 = true ∧ timed.phValid 8 = false)) :=
  ⟨⟨canon (by decide +kernel), by decide +kernel⟩, by decide +kernel,
   ⟨expert (by decide +kernel), passes (by decide +kernel), by decide +kernel⟩, by decide +kernel⟩

/-! ### PTP -/

/-- A PTP message of type `ty` over Ethernet for the device's group address, body zero. -/
def ptpBs (ty : Nat) : List Byte :=
  sealFrame (beBytes 6 0x011B19000000 ++ beBytes 6 0x020000000002 ++ beBytes 2 0x88F7 ++
    [BitVec.ofNat 8 ty, 2#8] ++ beBytes 2 64 ++ List.replicate 60 0#8)

/-- Port 0 in a PTP role. -/
def role (s : State) (r : Nat) : State := s.stPut 0 (.TIM_PTP_PORT 0) (F.TIM_PTP_PORT_ROLE.set (s.stGet 0 (.TIM_PTP_PORT 0)) r)

/-- The message parsed at port 0. -/
def ptpFrm (ty : Nat) : Frame :=
  { frm (ptpBs ty) with parse := some (parseFrame (net.parseCfg (frm [])) (ptpBs ty)), stage := .parsed }

theorem wit_PtpMessagesReceived :
    (∀ ty ∈ [0, 1, 8, 9, 11, 12, 13], let s := holding (role timed 2) (ptpFrm ty)
      s.ptpTaken 7 = some (ptpFrm ty, 14) ∧ byteAt (ptpFrm ty).bytes 14 % 16 = ty) ∧
    (timed.ptpTaken 7 = none ∧ (ptpFrm 0).port < 1024 ∧ skeysFrom none timed.tim.ptp = true) ∧
    (∀ y ∈ [(none : Option Int), some 3], let x : PtpPort := { timed.ptpPort 0 with
        sync := some ⟨0, 0, y, 4, 0⟩, req := some (0, 0, some 9) }
      let u := { timed with tim := { timed.tim with ptp := [(0, x)] } }
      (u.ptpPort 0).sync = some ⟨0, 0, y, 4, 0⟩ ∧ beAt (ptpBs 8) (14 + 30) 2 = 0 ∧ beAt (ptpBs 8) (14 + 20) 10 = 0 ∧
        (u.ptpPort 0).req = some (0, 0, some 9) ∧ u.tim.tick ≤ 0 + 1000) ∧
    ((role timed 2).isPort 0 = true ∧ 2 ≤ (role timed 2).ptpRole 0 ∧ (role timed 1).ptpRole 0 < 2 ∧
      ∀ l ∈ [0, 1, 2, 3, 4], (timed.setFld (.TIM_PORT_STATUS 0) F.TIM_PORT_STATUS_L1_STATE l).fld (.TIM_PORT_STATUS 0)
        F.TIM_PORT_STATUS_L1_STATE = l) ∧
    ((role timed 2).l1Enabled 0 = true ∧ (role timed 3).l1Enabled 0 = false) ∧
    StoresCanonical timed :=
  ⟨by decide +kernel, by decide +kernel, by decide +kernel, by decide +kernel, by decide +kernel, canon (by decide +kernel)⟩

theorem wit_PtpMessagesSent : (role timed 1).mayTransmit 0 = true ∧ (role timed 2).mayTransmit 0 = false ∧
    ((role timed 2).running = true ∧ (role timed 2).isPort 0 = true ∧ (role timed 2).ptpRole 0 = 2) ∧
    (let x : PtpPort := { timed.ptpPort 0 with fup := some (3, 4), resps := [⟨1, 2, 3, 4⟩] }
     x.fup = some (3, 4) ∧ x.resps = [⟨1, 2, 3, 4⟩]) ∧ (timed.ptpPort 0).fup = none ∧ (timed.ptpPort 0).resps = [] ∧
    (∀ v ∈ [0, 1], (timed.stPut 0 (.TIM_PTP_PORT 0) (F.TIM_PTP_PORT_HA.set 0#32 v)).ptpFld 0 F.TIM_PTP_PORT_HA = v) ∧
    (List.replicate 1399 (0 : Byte)).length < 1400 :=
  ⟨by decide +kernel, by decide +kernel, by decide +kernel, by decide +kernel, by decide +kernel, by decide +kernel,
   by decide +kernel, by rw [List.length_replicate]; decide⟩

/-! ### References -/

/-- Slot `k` of a KIND in a state. -/
def slotAt (k kind st : Nat) : State :=
  (timed.setFld (.TIM_REF_CFG k) F.TIM_REF_CFG_KIND kind).setFld (.TIM_REF_STATUS k) F.TIM_REF_STATUS_STATE st

theorem stampNow_slots (s : State) (xs : SMap Slot) (p c : Nat) (r : Bool) (d : Int) :
    (({ s with tim := { s.tim with slots := xs } } : State).stampNow p c r d).raw = (s.stampNow p c r d).raw := rfl

theorem wit_ReferenceSlots :
    (StoresCanonical (slotAt 3 0 2) ∧ skeysFrom none (slotAt 3 0 2).tim.slots = true ∧ (slotAt 3 0 2).refKind 3 = 0 ∧
      (slotAt 3 0 2).refState 3 = 2 ∧ (slotAt 3 2 2).refKind 3 ≤ 2 ∧ 2 < (slotAt 3 3 2).refKind 3 ∧
      (slotAt 3 3 2).refKind 3 ≠ 0 ∧ (slotAt 3 0 0).refState 3 = 0) ∧
    (let s := { slotAt 3 0 2 with tim := { (slotAt 3 0 2).tim with slots := [(3, { idleSlot with lastEdge := some 0, off := true })] } }
     (s.slot 3).lastEdge = some 0 ∧ (s.slot 3).off = true ∧ (slotAt 3 0 2).tim.ticking = true ∧
       ((slotAt 3 0 2).slot 3).lastEdge = none ∧ (slotAt 3 1 2).refKind 3 = 1 ∧ (slotAt 3 2 2).refKind 3 = 2) ∧
    (∃ l : Int, let at' := ({ slotAt 3 0 2 with tim := { (slotAt 3 0 2).tim with slots := [(3, { idleSlot with lastEdge := some l })] } } :
       State).stampNow 19 0 true ((slotAt 3 0 2).refDelay 3)
     at'.raw - l < 4 * 65536) ∧
    (ExpertWindow timed 5 ∧ Passes timed 5 (.TIM_REF_CFG 7) 0x007C0040#32 ∧ Passes timed 5 (.TIM_REF_CFG 7) 0x007C0041#32 ∧
      F.TIM_REF_CFG_PRIO.get 0x007C0040#32 = 0 ∧ F.TIM_REF_CFG_PRIO.get 0x007C0041#32 = 1 ∧
      F.TIM_REF_CFG_KIND.get 0x007C0041#32 = timed.refKind 7 ∧ F.TIM_REF_CFG_PORT.get 0x007C0041#32 = timed.refPort 7) ∧
    ((slotAt 7 0 2).refState 7 = 2 ∧ (slotAt 7 0 2).fld (.TIM_REF_STATUS 7) F.TIM_REF_STATUS_REMAIN = 0 ∧
      (slotAt 7 0 2).refFault 7 = false ∧ (slotAt 7 0 2).refBit 7 F.TIM_REF_STATUS_FREQ_VALID = false ∧
      ((slotAt 7 0 2).setFld (.TIM_REF_STATUS 7) F.TIM_REF_STATUS_FREQ_VALID 1).refBit 7 F.TIM_REF_STATUS_FREQ_VALID = true ∧
      ((slotAt 7 0 2).setFld (.TIM_REF_STATUS 7) F.TIM_REF_STATUS_LOS 1).refFault 7 = true ∧
      ((slotAt 7 0 2).setFld (.TIM_REF_STATUS 7) F.TIM_REF_STATUS_REMAIN 1).fld (.TIM_REF_STATUS 7) F.TIM_REF_STATUS_REMAIN ≠ 0) ∧
    (timed.isPort 15 = true ∧ timed.isPort 1023 = false ∧ (laneAt timed 15 6).laneState 15 = 6 ∧
      timed.fld (.TIM_PORT_STATUS 15) F.TIM_PORT_STATUS_PH_VALID = 0) :=
  ⟨⟨canon (by decide +kernel), by decide +kernel⟩, by decide +kernel,
   ⟨((slotAt 3 0 2).stampNow 19 0 true ((slotAt 3 0 2).refDelay 3)).raw, by
      have h : ∀ x y : Int, x = y → x - y < 4 * 65536 := by omega
      exact h _ _ (stampNow_slots _ _ _ _ _ _)⟩,
   ⟨expert (by decide +kernel), passes (by decide +kernel), passes (by decide +kernel), by decide +kernel⟩, by decide +kernel⟩

/-- SWITCHING to slot 7 of a KIND, READY with a sample of phase `e`. -/
def switching (kind : Nat) (e : Int) : State :=
  let s := ((slotAt 7 kind 3).setFld .TIM_SEL_STATUS F.TIM_SEL_STATUS_STATE 2).setFld .TIM_SEL_STATUS F.TIM_SEL_STATUS_TARGET 7
  { s with tim := { s.tim with slots := [(7, { idleSlot with sample := some (0, e) })] } }

theorem wit_SwitchingAndHoldover :
    (∀ kind ∈ [0, 1], let s := switching kind (2 ^ 40)
      s.selState = 2 ∧ s.engineOn = true ∧ s.qualified = true ∧ s.fld .TIM_SEL_STATUS F.TIM_SEL_STATUS_TARGET = 7 ∧ s.refState 7 = 3 ∧
        s.switchSample 7 = some (2 ^ 40) ∧ s.refKind 7 = kind) ∧
    StoresCanonical (switching 0 0) ∧
    (let s := (switching 0 0).setFld .TIM_SEL_STATUS F.TIM_SEL_STATUS_ALIGNED 1
     s.fld .TIM_SEL_STATUS F.TIM_SEL_STATUS_ALIGNED = 1 ∧ (switching 0 0).fld .TIM_SEL_STATUS F.TIM_SEL_STATUS_ALIGNED ≠ 1 ∧
       10 * (0 : Int).natAbs ≤ s.fld .TIM_SEL_CFG F.TIM_SEL_CFG_PJ_THRESH * 2 ^ 32 ∧
       s.fld .TIM_SEL_CFG F.TIM_SEL_CFG_PJ_THRESH * 2 ^ 32 < 10 * (2 ^ 60 : Int).natAbs ∧
       ∀ m ∈ [0, 1], (s.setFld .TIM_SEL_CFG F.TIM_SEL_CFG_PJ_MODE m).fld .TIM_SEL_CFG F.TIM_SEL_CFG_PJ_MODE = m) ∧
    (let s := (timed.setFld .TIM_SEL_STATUS F.TIM_SEL_STATUS_STATE 3).setFld .TIM_SEL_STATUS F.TIM_SEL_STATUS_SETTLED 1
     s.selState = 3 ∧ s.fld .TIM_SEL_STATUS F.TIM_SEL_STATUS_SETTLED = 1 ∧ s.tim.sel.settledAt + sec32 ≤ s.t32) ∧
    (let s := timed.setFld .TIM_SEL_STATUS F.TIM_SEL_STATUS_STATE 4
     s.selState = 4 ∧ s.fld .TIM_SEL_STATUS F.TIM_SEL_STATUS_HO_EXPIRED = 0 ∧
       (let u := { s with tim := { s.tim with tick := 2 ^ 80 } }
        u.fld .TIM_HO_CFG F.TIM_HO_CFG_HO_LIMIT * 3600 * 1000000000 ≤ u.tim.tick - u.tim.sel.hoAt)) :=
  ⟨by decide +kernel, canon (by decide +kernel), by decide +kernel⟩

/-! ### Interval measurement -/

/-- Channel 15 with its position calibrated, in a MODE, holding a record. -/
def chanAt (mode : Nat) (x : TicChan) : State :=
  let v := F.TIM_TIC_CFG_MODE.set (timed.get (.TIM_TIC_CFG 15)) mode
  let s := timed.put (.TIM_TIC_CFG 15) v
  { s with tic := { s.tic with chans := [(15, { x with cfg := v })], tables := [(15, { timed.table 15 with done := true })] } }

theorem wit_IntervalsMeasured :
    (∀ m ∈ [1, 2, 3], let s := chanAt m (timed.chan 15)
      (∀ j ∈ List.range 16, (s.chan j).cfg = s.get (.TIM_TIC_CFG j) ∧ (s.chan j).cfg2 = s.get (.TIM_TIC_CFG2 j) ∧ (s.chan j).dirty = false) ∧
        skeysFrom none s.tic.chans = true ∧ s.tim.ticking = true ∧ s.stamping 15 = true ∧
        (s.chan 15).mode = m ∧ (s.table 15).done = true ∧ (s.chan 15).last = none ∧
        (s.chan 15).selects true = true ∧ (s.chan 15).fifo.length < 64 ∧ (s.chan 15).idx = 0) ∧
    (timed.stamping 15 = false ∧ (timed.table 15).done = false ∧ (timed.chan 15).start = none ∧
      StoresCanonical (chanAt 1 (timed.chan 15))) ∧
    (let a : Stamp := ⟨0, 0, 0, true, 0, 0, 1, 0, 0⟩
     let s := chanAt 3 { timed.chan 15 with start := some a, prev := some a, cur := some a, n := 1, gated := true, gateEnd := 5 }
     (s.chan 15).start = some a ∧ (s.chan 15).mode = 3 ∧ (s.chan 15).gateEnd ≤ s.formNow (s.chan 15) ∧ 0 < (s.chan 15).gate ∧ (s.chan 15).gated = true ∧ (s.chan 15).dirty = false ∧ (timed.chan 15).gated = false ∧ (s.table 15).done = true ∧ (s.chan 15).stopCh < 16 ∧
       s.formNow (s.chan 15) < ((chanAt 3 { timed.chan 15 with gateEnd := 2 ^ 80 }).chan 15).gateEnd) ∧
    (let s := chanAt 2 { timed.chan 15 with start := none }
     let k := (s.chan 15).stopCh
     (s.chan 15).mode = 2 ∧ k < 16 ∧ (∃ r : Bool, s.stopsFor k 15 r = true) ∧ (s.chan 15).start = none ∧
       (∀ j ∈ List.range 15, (timed.chan j).mode ≠ 2)) ∧
    (let r : TicRes := ⟨15, 3, false, 1023, 1023, 7, 8⟩
     let s := chanAt 1 { timed.chan 15 with fifo := [r] }
     (s.chan 15).fifo = r :: [] ∧ r.status < 16 ∧ r.tb < 4 ∧ r.binA < 1024 ∧ ExpertWindow s 5 ∧ (timed.chan 15).fifo = []) ∧
    (Passes timed 5 (.TIM_TIC_CFG 15) (timed.get (.TIM_TIC_CFG 15)) ∧
      Passes timed 5 (.TIM_TIC_CFG2 15) (timed.get (.TIM_TIC_CFG2 15)) ∧
      (let v := timed.get (.TIM_TIC_CFG 15) ^^^ 1#32
       Passes timed 5 (.TIM_TIC_CFG 15) v ∧ (wrote timed (.TIM_TIC_CFG 15) v).get (.TIM_TIC_CFG 15) ≠ timed.get (.TIM_TIC_CFG 15))) :=
  ⟨by decide +kernel, ⟨by decide +kernel, by decide +kernel, by decide +kernel, canon (by decide +kernel)⟩, by decide +kernel,
   ⟨by decide +kernel, by decide +kernel, ⟨true, by decide +kernel⟩, by decide +kernel⟩,
   ⟨by decide +kernel, by decide +kernel, by decide +kernel, by decide +kernel, expert (by decide +kernel), by decide +kernel⟩,
   passes (by decide +kernel), passes (by decide +kernel), passes (by decide +kernel), by decide +kernel⟩

/-- Position `p` in calibration phase `ph`. -/
def calAt (p ph : Nat) : State :=
  (timed.setFld .TIM_TIC_CAL_STATUS F.TIM_TIC_CAL_STATUS_POS p).setFld .TIM_TIC_CAL_STATUS F.TIM_TIC_CAL_STATUS_PHASE ph

theorem wit_StampersCalibrated :
    (StoresCanonical timed ∧ skeysFrom none timed.tic.tables = true ∧ (calAt 0x1F 0).tim.ticking = true ∧
      (calAt 0x1F 0).calPos = 0x1F ∧ (calAt 0x1F 0).fld .HLT_HEALTH_CFG F.HLT_HEALTH_CFG_CAL_FREEZE = 0 ∧
      ((calAt 0x1F 0).setFld .TIM_TIC_CAL_CFG F.TIM_TIC_CAL_CFG_PERIOD 1).fld .TIM_TIC_CAL_CFG F.TIM_TIC_CAL_CFG_PERIOD ≠ 0 ∧
      (let s := (calAt 0x1F 0).setFld .TIM_TIC_CAL_CFG F.TIM_TIC_CAL_CFG_PERIOD 0
       s.fld .TIM_TIC_CAL_CFG F.TIM_TIC_CAL_CFG_PERIOD = 0 ∧ s.calPos = 0x1F ∧ s.tic.todo = [] ∧
         s.fld .TIM_TIC_CAL_CFG F.TIM_TIC_CAL_CFG_TEMP_STEP ≠ 0 ∧
         (∀ q ∈ List.range 21, (s.table q).moved < s.fld .TIM_TIC_CAL_CFG F.TIM_TIC_CAL_CFG_TEMP_STEP * 8) ∧
         (let u := { s with tic := { s.tic with first := true, tables := [(20, { s.table 20 with moved := 2000 })] } }
          u.fld .TIM_TIC_CAL_CFG F.TIM_TIC_CAL_CFG_TEMP_STEP * 8 ≤ (u.table 20).moved ∧ u.tic.first = true ∧
            ∀ q ∈ List.range 20, (u.table q).moved < u.fld .TIM_TIC_CAL_CFG F.TIM_TIC_CAL_CFG_TEMP_STEP * 8)) ∧
      ((calAt 0x1F 0).setFld .TIM_TIC_CAL_CFG F.TIM_TIC_CAL_CFG_TEMP_STEP 0).fld .TIM_TIC_CAL_CFG F.TIM_TIC_CAL_CFG_TEMP_STEP = 0) ∧
    (∀ p ∈ [0, 15, 20], ∀ ph ∈ [1, 2, 3, 4, 5, 6], (calAt p ph).calPos = p ∧ (calAt p ph).calPhase = ph) ∧
    (agree [] = false ∨ agree [] = true) ∧ agree (List.replicate 64 0) = true ∧ agree (List.replicate 64 1000000000) = false :=
  ⟨⟨canon (by decide +kernel), by decide +kernel⟩, by decide +kernel⟩

/-! ### Self-management -/

/-- The pair with STANDBY_OK as given, the standby's STATE 1, and as many give-ups of the active one as there are ticks. -/
def paired (s : State) (ok st : Nat) : State :=
  (s.setFld .STW_PAIR_STATUS F.STW_PAIR_STATUS_STANDBY_OK ok).setFld .STW_PAIR_STATUS (stwFld (1 - s.activeStw)) st

theorem wit_StewardFailsOver :
    (∀ ok ∈ [0, 1], (paired win ok 1).pair.cause = none ∧ (paired win ok 1).fld .STW_PAIR_STATUS F.STW_PAIR_STATUS_LOST = 0 ∧
      (paired win ok 1).standbyOk = (ok == 1)) ∧
    (StoresCanonical (paired win 1 1) ∧ ExpertWindow (paired win 1 1) 5 ∧ Passes (paired win 1 1) 5 .STW_PAIR_CTL 1#32 ∧
      F.STW_PAIR_CTL_SWAP.get 1#32 = 1 ∧ (wrote (paired win 1 1) .STW_PAIR_CTL 1#32).standbyOk = true ∧
      (wrote (paired win 1 1) .STW_PAIR_CTL 1#32).pair.cause = none ∧
      (wrote (paired win 0 1) .STW_PAIR_CTL 1#32).standbyOk = false) ∧
    ((∀ c ∈ List.range 8, (paired win 0 1).fld (.HST_MBX_DOORBELL c) F.HST_MBX_DOORBELL_GO = 0) ∧ (paired win 0 1).mbx.queue = [] ∧
      (asks (paired win 0 1) []).fld (.HST_MBX_DOORBELL 0) F.HST_MBX_DOORBELL_GO = 1) ∧
    ((∀ v ∈ [0, 1], ((paired win 1 1).setFld .STW_PAIR_CFG F.STW_PAIR_CFG_ROTATE v).fld .STW_PAIR_CFG F.STW_PAIR_CFG_ROTATE = v) ∧
      ({ up with pair := ⟨some 3, [], [], []⟩ } : State).giveUps 0 < 3 ∧
      ¬ ({ up with pair := ⟨some 3, [], [0, 0, 0], []⟩ } : State).giveUps 0 < 3 ∧ (boot 1).tim.ticking = false ∧
      (boot 1).boot.begun = true ∧ (boot 1).pair.cause = none ∧
      ({ boot 1 with pair := { up.pair with cause := some 0 } } : State).pair.cause ≠ none) ∧
    (let s := { up with pair := { up.pair with cause := some 0, waiting := [(Reg.TIM_OSC_QUAL_CFG.addr, none), (0, some 0#32)] } }
     s.stepTwoDone = true ∧ s.halted = false ∧ s.stewardLost = false ∧ s.boot.resetReq = none ∧ decodeAddr 0 = none ∧
       (decodeAddr Reg.TIM_OSC_QUAL_CFG.addr = some .TIM_OSC_QUAL_CFG ∧ Reg.TIM_OSC_QUAL_CFG.channel = false ∧
         Reg.TIM_OSC_QUAL_CFG.identity = false) ∧ s.jobs = [] ∧ s.mbx.queue = [] ∧
       ∀ c ∈ List.range 8, s.fld (.HST_MBX_DOORBELL c) F.HST_MBX_DOORBELL_GO = 0) ∧
    (∀ st ∈ [1, 2], (paired up 0 st).pairFld (stwFld (1 - (paired up 0 st).activeStw)) = st) :=
  ⟨by decide +kernel, ⟨canon (by decide +kernel), expert (by decide +kernel), passes (by decide +kernel), by decide +kernel⟩,
   by decide +kernel⟩

/-- All sensors valid at reading `v` (eighths of a degree). -/
def sensed (v : Nat) : State :=
  (List.range 32).foldl (fun s i => (s.setFld (.HLT_TEMP i) F.HLT_TEMP_VALID 1).setFld (.HLT_TEMP i) F.HLT_TEMP_TEMP v) up

theorem wit_ScrubsTestsTemperatures :
    (skeysFrom none up.hlt.units = true ∧ (∀ x ∈ [(0, 32), (1, 68)], x.2 < 2 ^ 16) ∧ up.unit 0 32 = .spare ∧
      (∀ v ∈ [0, 1], (up.setFld .HLT_HEALTH_CFG F.HLT_HEALTH_CFG_CAL_FREEZE v).fld .HLT_HEALTH_CFG
        F.HLT_HEALTH_CFG_CAL_FREEZE = v)) ∧
    (let s := up.setFld .TIM_SAF_STATUS F.TIM_SAF_STATUS_STANDBY_OK 1
     s.engineOn = true ∧ (s.setFld .TIM_SAF_STATUS (engFld 1) 1).fld .TIM_SAF_STATUS (engFld 1) = 1 ∧
       s.fld .TIM_SAF_STATUS F.TIM_SAF_STATUS_ACTIVE ≤ 1) ∧
    (up.pairFld (stwFld (1 - up.activeStw)) = 1 ∧ up.pair.cause = none ∧ StoresCanonical up) ∧
    (StoresCanonical (sensed 200) ∧ (∀ j ∈ List.range 32, (sensed 200).fld (.HLT_TEMP j) F.HLT_TEMP_VALID = 1 ∧
      (sensed 200).tempOf j = 200 ∧ (sensed 200).tempOf j ≤
        ((sensed 200).fld .HLT_TEMP_CFG F.HLT_TEMP_CFG_WARN * 8 : Int) - 40)) ∧
    ((-2048 : Int) ≤ 2047 ∧ (2047 : Int) < 2048 ∧ (up.fld .HLT_TEMP_CFG F.HLT_TEMP_CFG_WARN * 8 : Int) ≤ 2047 ∧
      (up.fld .HLT_TEMP_CFG F.HLT_TEMP_CFG_CRIT * 8 : Int) ≤ 2047 ∧ up.pinsHeld = false ∧ up.boot.scanHold = false ∧
      up.fld (.HLT_TEMP 31) F.HLT_TEMP_VALID ≠ 1) :=
  ⟨by decide +kernel, by decide +kernel, ⟨by decide +kernel, by decide +kernel, canon (by decide +kernel)⟩,
    ⟨canon (by decide +kernel), by decide +kernel⟩, by decide +kernel⟩

/-- With every other unit at 0, a unit of cycle time 1 is above any threshold, and with all at 0 none is. -/
theorem wit_SumacSwapsUnits :
    (let g : CycleGroup := ⟨1, 15, 1 :: List.replicate 67 0⟩
     g.kind < 8 ∧ g.times.length = peerSize g.kind ∧ g.group < 16 ∧ median2 g.times = 0 ∧ g.times.getD 0 0 = 1 ∧
       (∀ i ∈ (List.range 68).drop 1, g.times.getD i 0 = 0) ∧ up.unit 1 (15 * 68) = .active ∧
       up.spareOf 1 (poolOf 1 (15 * 68)) = some (15 * 68 + 64)) ∧
    (∀ t : Nat, t * Config.fusedRatio 1 (15 * 68) * 0 < 1 * 2 * 64 * 65536) ∧
    unitKey 1 (15 * 68) ∉ up.hlt.declared ∧ sgetD up.hlt.aboveRun (unitKey 1 (15 * 68)) 0 + 1 = 1 ∧
    (∀ x ∈ [((0 : Nat), [(5 : Nat)])], 10 * 2 * 65536 * x.1 ≤ 11 * Config.fusedRatio 1 64 * median2 x.2) ∧
    (skeysFrom none up.cnt = true ∧ skeysFrom none up.hlt.units = true ∧ skeysFrom none up.hlt.logical = true ∧
      StoresCanonical up ∧ skeysFrom none up.hlt.aboveRun = true ∧ skeysFrom none up.hlt.belowRun = true ∧ skeysFrom none up.hlt.swaps = true ∧
      (up.setFld .HLT_SUMAC_CFG F.HLT_SUMAC_CFG_HOLD 1).fld .HLT_SUMAC_CFG F.HLT_SUMAC_CFG_HOLD = 1 ∧
      up.spareOf 4 0 = none) ∧
    (let s := { up with hlt := { up.hlt with units := [(unitKey 1 64, .testing)] } }
     s.unit 1 64 = .testing ∧ skeysFrom none s.hlt.units = true) ∧
    ((∀ x ∈ up.swc.bankCopy, x.1 ≠ 0) ∧
      (let s := { holding net { frm plainBs with pipe := 5 } with hlt := { up.hlt with units := [(unitKey 0 5, .retired)] } }
       s.unit 0 5 = .retired ∧ s.frame 7 = some { frm plainBs with pipe := 5 } ∧ s.refs 7 = 0 ∧ (∀ kv ∈ s.frames, kv.1 = 7))) :=
  ⟨by decide +kernel, fun t => by rw [Nat.mul_zero]; decide, by decide +kernel, by decide +kernel,
   by simp only [List.mem_singleton, forall_eq, Nat.mul_zero, Nat.zero_le],
   ⟨by decide +kernel, by decide +kernel, by decide +kernel, canon (by decide +kernel), by decide +kernel⟩, by decide +kernel⟩

/-- The regulator controlled, request REQUEST, between the limits of reset. -/
def avsAt (req : Nat) : State :=
  (up.setFld .HLT_AVS_CFG F.HLT_AVS_CFG_EN 1).setFld .HLT_AVS_STATUS F.HLT_AVS_STATUS_REQUEST req

theorem wit_VoltageFollowsMargin :
    (∀ n ∈ [200000000, 40000], let ds : List Demand := [⟨0, 3, [(0, 2000), (1, 2000)], n⟩, ⟨1, 4, [(0, 2000)], 1⟩, ⟨2, 5, [], 7⟩]
      let ms := ds.filterMap up.marginOf
      let w : Margin := ⟨0, 3, 400000000000 - n * 4000000, n * 4000000⟩
      worst ms = some ⟨2, 5, -7, 7⟩ ∧ worst [w] = some w ∧
        ms.Pairwise (fun x y => (x.kind, x.index) ≠ (y.kind, y.index)) ∧ ms.length = 2 ∧
        ∀ x ∈ ms, x.kind < 8 ∧ x.index < 4096 ∧ 0 < x.den) ∧
    ([] : List Demand).filterMap up.marginOf = [] ∧
    (let w : Margin := ⟨0, 3, 0, 1⟩
     100 * w.num < (up.avsCfg F.HLT_AVS_CFG_UP * w.den : Int) ∧
       ((up.avsCfg F.HLT_AVS_CFG_DOWN * 1 : Int) ≤ 100 * (2 : Int)) ∧ ¬ 100 * (1 : Int) < (up.avsCfg F.HLT_AVS_CFG_UP * 5 : Int)) ∧
    (let lo := up.avsCfg F.HLT_AVS_CFG_FLOOR
     let hi := up.avsCfg F.HLT_AVS_CFG_CEIL
     let s := avsAt hi
     s.running = true ∧ State.reset.running = false ∧ s.avs F.HLT_AVS_STATUS_NO_RESPONSE = 0 ∧ s.avsCfg F.HLT_AVS_CFG_EN = 1 ∧ lo ≤ hi ∧
       s.avs F.HLT_AVS_STATUS_REQUEST = hi ∧ (avsAt lo).avs F.HLT_AVS_STATUS_REQUEST = lo ∧
       s.avsCfg F.HLT_AVS_CFG_UP < s.avsCfg F.HLT_AVS_CFG_DOWN) ∧
    (∀ v ∈ [0, 1], (up.setFld .HLT_AVS_STATUS F.HLT_AVS_STATUS_NO_RESPONSE v).avs F.HLT_AVS_STATUS_NO_RESPONSE = v) ∧
    skeysFrom none up.hlt.neg = true ∧ skeysFrom none up.hlt.nonneg = true ∧ StoresCanonical up :=
  ⟨by decide +kernel, by decide +kernel, by decide +kernel, by decide +kernel, by decide +kernel, by decide +kernel,
   by decide +kernel, canon (by decide +kernel)⟩

/-! ### The host's rings -/

/-- Ring `x` in a state, with a record, TAIL at `tail`. -/
def ringAt (s : State) (x st tail : Nat) (r : Ring) : State :=
  ((s.setFld (.HST_RING_STATUS x) F.HST_RING_STATUS_STATE st).setFld (.HST_RING_TAIL x) F.HST_RING_TAIL_INDEX tail).putRing x r

def item (frame : Option Nat) (ready : Bool) : TxItem := ⟨0, 1, false, 0, frame, ready, none, none, 0⟩

/-- Ring 63 with EN as written on top of its word. -/
def enWord (en : Nat) : Word := F.HST_RING_CFG_EN.set (Reg.resetWord (.HST_RING_CFG 63)) en

theorem wit_RingControl :
    (StoresCanonical win ∧ ExpertWindow win 5 ∧ Passes win 5 (.HST_RING_CFG 63) (enWord 1) ∧
      F.HST_RING_CFG_EN.get (enWord 1) = 1 ∧ win.ringState 63 = 0) ∧
    (let s := ringAt win 63 1 0 ⟨[], [item (some 7) false], some ⟨7, 0⟩, [], none⟩
     FramesInRange s ∧ skeysFrom none s.rings = true ∧ ExpertWindow s 5 ∧ Passes s 5 (.HST_RING_CFG 63) (enWord 0) ∧
       F.HST_RING_CFG_EN.get (enWord 0) = 0 ∧ s.ringState 63 = 1 ∧ (s.ring 63).held = some ⟨7, 0⟩) ∧
    ((ringAt win 63 2 0 freshRing).ringState 63 = 2 ∧ (ringAt win 63 2 0 ⟨[], [item none true], none, [], none⟩).ringState 63 = 2) ∧
    (let f := { frm plainBs with fromHost := true, port := 31 }
     let s := ringAt (holding net f) 63 1 0 ⟨[], [item (some 7) false], none, [], none⟩
     StoresCanonical s ∧ FramesInRange s ∧ s.ringState 63 = 1 ∧ item (some 7) false ∈ (s.ring 63).items ∧
       s.frame 7 = some f ∧ f.stage ≠ Stage.queued) ∧
    (let s := (ringAt win 0 1 0 ⟨[⟨7, 0⟩], [], none, [], none⟩)
     (s.ring 0).dq = ⟨7, 0⟩ :: [] ∧ s.ringCptr 0 = s.ringAck 0) ∧
    (let u := (win.setFld (.HST_RING_CPTR 63) F.HST_RING_CPTR_INDEX 1).setFld (.HST_RING_IRQ 63) F.HST_RING_IRQ_TIME 1
     let s := (u.setFld (.HST_RING_CFG 63) F.HST_RING_CFG_IRQ_EN 1).putRing 63 ⟨[], [], none, [(1, 5)], none⟩
     s.unacked 63 = [(1, 5)] ∧ win.unacked 63 = [] ∧ s.fld (.HST_RING_IRQ 63) F.HST_RING_IRQ_TIME ≠ 0 ∧
       s.fld (.HST_RING_CFG 63) F.HST_RING_CFG_IRQ_EN = 1 ∧
       s.tim.tick ≤ 5 + 1000 * s.fld (.HST_RING_IRQ 63) F.HST_RING_IRQ_TIME ∧
       (let t := { s with tim := { s.tim with tick := 1006 } }
        t.unacked 63 = [(1, 5)] ∧ 5 + 1000 * t.fld (.HST_RING_IRQ 63) F.HST_RING_IRQ_TIME < t.tim.tick)) :=
  ⟨⟨canon (by decide +kernel), expert (by decide +kernel), passes (by decide +kernel), by decide +kernel⟩,
   ⟨inRange (by decide +kernel), by decide +kernel, expert (by decide +kernel), passes (by decide +kernel), by decide +kernel⟩,
   by decide +kernel, ⟨canon (by decide +kernel), inRange (by decide +kernel), by decide +kernel⟩, by decide +kernel⟩

theorem wit_HostReceives :
    (let f := { frm plainBs with route := some (.ring 31 0), stage := .routed, whole := true }
     let s := (ringAt (holding net f) 31 1 4 ⟨[⟨7, 0⟩], [], none, [], none⟩).setFld (.HST_RING_CFG 31) F.HST_RING_CFG_BUF 8
     StoresCanonical s ∧ FramesInRange s ∧ skeysFrom none s.rings = true ∧ s.rxTurn = some 31 ∧ s.rxTurn ≠ some 0 ∧
       (s.ring 31).dq = ⟨7, 0⟩ :: [] ∧ s.frame 7 = some f ∧ f.bad = false ∧
       (f.len - 4 + 256 * s.fld (.HST_RING_CFG 31) F.HST_RING_CFG_BUF - 1) / (256 * s.fld (.HST_RING_CFG 31) F.HST_RING_CFG_BUF) = 1 ∧
       s.posted 31 = 4 ∧ (ringAt s 31 1 0 (s.ring 31)).posted 31 = 0) :=
  ⟨canon (by decide +kernel), inRange (by decide +kernel), by decide +kernel⟩

/-- A descriptor of `n` bytes with SOP and EOP as given and BYPASS. -/
def desc (n : Nat) (sop eop : Bool) : Desc :=
  [0, 0, BitVec.ofNat 32 (n + (if sop then 2 ^ 14 else 0) + (if eop then 2 ^ 15 else 0) + 2 ^ 17), 0, 0, 0, 0, 0]

/-- Which descriptors are whole, malformed and unfinished (R466), at the bounds of LENGTH. -/
theorem test_checkChain : checkChain [desc 1 true true] = .whole 1 ∧ checkChain [desc 16379 true true] = .whole 1 ∧
    checkChain [desc 16380 true true] = .bad 1 ∧ checkChain [desc 0 true true] = .bad 1 ∧
    checkChain [desc 60 false true] = .bad 1 ∧ checkChain [desc 60 true false] = .short ∧
    checkChain [desc 8000 true false, desc 8379 false true] = .whole 2 := by decide +kernel

theorem wit_HostFramesCompleteInOrder :
    (let s := ringAt net 63 1 1 freshRing
     StoresCanonical s ∧ s.txTurn = some 31 ∧ s.txReady 31 = true ∧ s.txTurn ≠ some 30 ∧
       (s.putRing 63 { s.ring 63 with short := some (s.ringTail 63) }).txTurn ≠ some 31 ∧
       s.txReady ((s.txNext + 31) % 32) = true ∧ (∀ k ∈ List.range 31, s.txReady ((s.txNext + k) % 32) = false) ∧ s.posted 63 = 1 ∧ checkChain ([desc 1 true true].take (s.posted 63)) = .whole 1 ∧
       checkChain ([desc 0 true true].take (s.posted 63)) = .bad 1 ∧ checkChain ([desc 1 true false].take (s.posted 63)) = .short) ∧
    (descEop (desc 16379 true true) = true ∧ descSop (desc 16379 true true) = true ∧ descBytes (desc 16379 true true) = 16379 ∧
      txActionOk ⟨(desc 1 true true).getD 4 0, (desc 1 true true).getD 5 0⟩ = true ∧ descEop (desc 1 true false) = false) ∧
    (let f := { frm plainBs with fromHost := true, port := 31, stage := .routed, route := some (.port 1) }
     let s := ringAt (holding net f) 63 1 0 ⟨[], [item (some 7) false], some ⟨7, 0⟩, [], none⟩
     StoresCanonical s ∧ FramesInRange s ∧ skeysFrom none s.rings = true ∧ (s.ring (31 + 32)).held = some ⟨7, 0⟩ ∧
       s.frame 7 = some f ∧ f.fromHost = true ∧ f.port = 31 ∧ (∀ c ∈ f.hostCopies, c.1 < 32) ∧ s.ringState 63 = 1 ∧ s.enqueueShut f = false) ∧
    (let s := ringAt net 63 1 0 ⟨[], [item none true], none, [], none⟩
     StoresCanonical s ∧ (s.ring (31 + 32)).items = item none true :: [] ∧ s.ringState 63 ≠ 0 ∧ (item none true).ready = true) :=
  ⟨⟨canon (by decide +kernel), by decide +kernel⟩, by decide +kernel,
   ⟨canon (by decide +kernel), inRange (by decide +kernel), by decide +kernel⟩, canon (by decide +kernel), by decide +kernel⟩

/-- Source 112, edge-sensed and pending, for target 7 alone. -/
def source : State :=
  let f := fun (x : Fld) (v : Nat) (s : State) => s.setFld (.HST_IRQ_SRC 112) x v
  (f F.HST_IRQ_SRC_PRIO 15 <| f F.HST_IRQ_SRC_SENSE 1 <| f F.HST_IRQ_SRC_PENDING 1 <| f F.HST_IRQ_SRC_TARGETS 128 <|
    f F.HST_IRQ_SRC_MASK 0 win).setFld (.HST_IRQ_TGT_CFG 7) F.HST_IRQ_TGT_CFG_ONLINE 1

theorem wit_InterruptsNotify :
    (StoresCanonical source ∧ ExpertWindow source 5 ∧ source.deliverable 112 7 = true ∧ source.irqBound 112 = none ∧
      source.irqSettle.irqBound 112 = some 7 ∧ (∀ j ∈ List.range 128, j ≠ 112 → source.deliverable j 7 = false) ∧
      (∀ j ∈ List.range 128, win.deliverable j 7 = false)) ∧
    (skeysFrom none win.irq.prios = true ∧ Passes win 5 (.HST_IRQ_EOI 7) 112#32 ∧ win.irqStack 7 = [] ∧
      ({ win with irq := { win.irq with prios := [(7, [(15, 112)])] } } : State).irqStack 7 = (15, 112) :: []) ∧
    (Passes win 5 (.HST_IRQ_SRC 127) 0#32 ∧ Passes win 5 (.HST_IRQ_SRC 112) 16#32 ∧ irqAssigned 112 = true ∧
      irqAssigned 127 = false) ∧
    (let s := { source with irq := { source.irq with pba := 128, notified := 128 } }
     s.irq.pba < 256 ∧ s.irq.vmask < 256 ∧ skeysFrom none s.irq.table = true ∧ s.irq.notified < 256 ∧ s.irq.pba.testBit 7 = true ∧ (127 : Nat).testBit 7 = false) :=
  ⟨⟨canon (by decide +kernel), expert (by decide +kernel), by decide +kernel⟩,
   ⟨by decide +kernel, passes (by decide +kernel), by decide +kernel⟩,
   ⟨passes (by decide +kernel), passes (by decide +kernel), by decide +kernel⟩, by decide +kernel⟩

theorem wit_LinksChange : StoresCanonical win ∧ FramesInRange win ∧ skeysFrom none win.rings = true ∧ win.svcOn = true ∧
    (∃ x : Session, ({ win with sessions := [(6, x)] } : State).session 6 = some x ∧ x.chan = none) :=
  ⟨canon (by decide +kernel), inRange (by decide +kernel), by decide +kernel, by decide +kernel,
   { sess 1 with chan := none }, by decide +kernel⟩

/-! ### Counters -/

theorem wit_CountersCountAndRead :
    (let s := { timed with cnt := [(C.commits, ⟨BitVec.allOnes 64, true⟩)] }
     skeysFrom none s.cnt = true ∧ (s.counter C.commits).val = BitVec.allOnes 64 ∧ (s.counter C.commits).wrap = true) ∧
    (StoresCanonical timed ∧ ExpertWindow timed 5 ∧ timed.session 5 = some (sess 3) ∧ cntAssigned (C.latHist 15 63) = true ∧
      cntPort (C.latHist 15 63) = some 15 ∧ timed.isPort 15 = true ∧ timed.isPort 1023 = false ∧
      cntPort (C.latHist 1023 0) = some 1023 ∧ cntAssigned 0x5FFFF = false) ∧
    (Passes timed 5 (.SWC_HIST_CFG 15) (timed.get (.SWC_HIST_CFG 15)) ∧
      Passes timed 5 (.SWC_HIST_CFG 15) (F.SWC_HIST_CFG_CLASSES.set (timed.get (.SWC_HIST_CFG 15)) 0x5A5A) ∧
      F.SWC_HIST_CFG_CLASSES.get (F.SWC_HIST_CFG_CLASSES.set (timed.get (.SWC_HIST_CFG 15)) 0x5A5A) ≠
        F.SWC_HIST_CFG_CLASSES.get (timed.get (.SWC_HIST_CFG 15))) :=
  ⟨by decide +kernel, ⟨canon (by decide +kernel), expert (by decide +kernel), by decide +kernel⟩,
   passes (by decide +kernel), passes (by decide +kernel), by decide +kernel⟩

theorem wit_CounterWordsLieWhereTheyShould : (0x5FFFF : Nat) < 0x60000 ∧ (16 : Nat) ≤ 63 ∧ (63 : Nat) < 64 ∧
    (0x80 : Nat) ≤ 0xFE ∧ cntAssigned 0x5FFFF = false := by decide +kernel

/-! ## Commands that name nothing the device has are refused by `Instr.wf` -/

/-- A received frame at lane `n` of port `p` whose lead byte crossed the balls at `ball`. -/
def seen (n p ball : Nat) : RxFrame :=
  { lane := n, port := p, ball := ball, bytes := [], errBlock := false, errCtl := false, room := true }

theorem test_wf_ports : ([.portLanesUp 1024 false false, .portUp 1024 0, .portAlignFail 1024 false false, .portDown 1024 .lanes, .parkWindowExpires 1024,
    .pauseFrameTx 1024, .pauseExpires 1024 0, .pauseExpires 0 8, .pauseRepeatDue 1024 0, .pauseRepeatDue 0 8,
    .fecCodewordError 1024 true, .frameStartRx (seen 1024 0 0), .frameStartRx (seen 0 1024 0), .frameStartRx (seen 0 0 (2 ^ 64)),
    .frameTxStart 1024 0 0, .frameTxStart 0 1024 0, .frameTxStart 0 0 (2 ^ 64), .frameTxEnd 1024 ⟨0, [], none⟩, .frameTxEnd 0 ⟨0, [(0, [])], none⟩,
    .histCfgWrite .window 1024 0, .gateEntryChange 1024, .gateScheduleChange 1024] : List Instr).any Instr.wf = false := by
  decide

theorem test_wf_tables : ([.pipTblWrite 8, .pipTblClear 8, .pipTblRead 8, .goneClear (2 ^ 27), .hbmStackDown 4, .spillRefill 64 0 [],
    .spillRefill 0 16384 [], .spillRefill 0 0 [(0, [])], .bankCopyDone 1088, .counterRead .window 0x60000] : List Instr).any Instr.wf = false := by
  decide

theorem test_wf_health : ([.unitStalled 8 0 [], .unitSelftestDone 8 0 true [], .tempReading 32 0,
    .blockResetRequest .window 16 0 0 0, .blockResetRequest .window 0 64 0 0, .blockResetRequest .window 0 0 64 0,
    .blockResetDone 16 0 0, .blockResetDone 0 64 0, .blockResetDone 0 0 64, .blockResetTimeout 16 0 0,
    .blockResetTimeout 0 64 0, .blockResetTimeout 0 0 64] : List Instr).any Instr.wf = false := by decide

theorem test_wf_host : ([.pcieLinkUp 0 1, .pcieLinkUp 6 1, .pcieLinkUp 1 3, .hostRxDeliver 32 [], .hostTxFrame 32 [] [] [],
    .hostTxRetry 32 false, .hostTxCompletion 32, .ringEnable .window 64 0, .ringDisable .window 64 0, .ringStopped 64,
    .ringDmaError 64 .timeout none, .ringNoticeTimeout 64, .irqClaim .window 8, .irqEoi .window 8 0,
    .irqSrcWrite .window 128 0, .msixUnmask .write 8192 0, .msixUnmask .read 8192 0] : List Instr).any Instr.wf = false := by decide

theorem test_wf_time : ([.phaseSample 1024 0 false, .phaseSample 0 (2 ^ 32) false, .ptpSyncTx 1024, .ptpFollowUpTx 1024,
    .ptpDelayRespTx 1024, .ptpAnnounceTx 1024, .ptpDelayReqTx 1024, .ptpSignalingTx 1024, .announceTimeout 1024,
    .l1PeerTimeout 1024, .triggerArm .window 16 0, .triggerStop .window 16 0, .triggerInstant 16, .ppsPulseEnd 4,
    .refEdge 4 0, .refEdge 0 1024, .refLos 8, .slotRemainExpires 8, .refCfgWrite .window 8 0, .ticEdge 16 true 0, .ticEdge 0 true 1024, .stopStampExpires 16,
    .intervalTimeout 16, .recipGateEnd 16, .ticResultRead .window 16, .ticCfgWrite .window 16 false 0] :
    List Instr).any Instr.wf = false := by decide

theorem test_wf_sessions : ([Via.chan 8].flatMap fun v => ([.openReq v, .auth v, .close v, .bind v, .unbind v, .read v, .write v,
    .readStaged v, .begin v, .commit v, .abort v, .tableOp v, .txnStatus v, .imageBegin v, .imageData v, .imageEnd v] :
    List Instr)).any Instr.wf = false ∧
    ([.registerWrite .window (2 ^ 26) 0 true, .windowRead (2 ^ 26), .holdOffExpires (some 8) 0, .tapInstructionLoad (some 256),
      .jtagRegAccess true (2 ^ 32) 0] : List Instr).any Instr.wf = false := by decide

theorem test_wf_lanes : ([.bandCheckEnd 128 0, .lockDeclared 128 0, .lockAttemptFail 128, .alignmentDone 128, .alignTimeout 128,
    .lossOfLock 128 .delayLine, .pllRetry 128, .coeffRequestRx 1024 (.preset 1), .coeffRequestRx 0 (.step 5 true),
    .coeffRequestRepeat 1024 (.preset 1) true true, .coeffRequestRepeat 0 (.step 5 true) true true, .trainSuccess 1024, .trainTimeout 1024 true, .cwLockGained 1024, .cwLockLost 1024,
    .cwSearchTimeout 1024 true, .lossOfSignal 1024, .holdoffExpires 1024 true, .laneSleepEnter 1024, .wakeDetected 1024,
    .probeDue 1024, .wakeToneDone 1024 true, .laneCfgWrite .window 1024 0, .aniseCycleStart 1024,
    .anisePhaseEnd 1024 ⟨0, 0, 0, 0⟩, .prbsLockGained 1024 true, .prbsSymbolMismatch 1024, .wornanAttemptStart 8,
    .wornanTrainDone 8 0, .wornanAttemptFail 8, .wornanLinkFault 8, .wornanRetry 8, .wornanFlitError 8 true] :
    List Instr).any Instr.wf = false := by decide

theorem test_wf_accepts : ([.portUp 1023 0, .spillRefill 63 16383 [(0, List.replicate 8 0)], .refEdge 3 1023, .unitStalled 7 0 [], .pauseExpires 1023 7, .coeffRequestRx 1023 (.step 4 true), .pcieLinkUp 5 8, .openReq (.chan 7),
    .openReq .svc, .tapInstructionLoad none, .holdOffExpires none 0, .coldReset] : List Instr).all Instr.wf = true := by decide

/-! ## Worked examples of the manual -/

/-- Chapter 01: lane 709 of block 88 at 4 × 400GbE. -/
theorem test_lane709 : (let s := [88].foldl (fun u b =>
      (u.stPut 0 (.LNE_GRP_CFG b) (F.LNE_GRP_CFG_EN.set (u.stGet 0 (.LNE_GRP_CFG b)) 1)).stPut 0 (.PRT_BLK_CFG b)
        (F.PRT_BLK_CFG_MODE.set (u.stGet 0 (.PRT_BLK_CFG b)) 2)) up
    (s.portOfLane 709, (List.range 8).map (fun i => s.isPort (704 + i)), sliceOf 709, 16 * s.portOfLane 709, 16 * s.portOfLane 709 + 15)) =
    (708, [true, false, true, false, true, false, true, false], 5, 11328, 11343) := by decide +kernel

/-- Chapters 04, 09, 11, 14: addresses. -/
theorem test_addresses : (Reg.LNE_LANE_CFG 709).addr = 0x00852180 ∧ (Reg.SWC_HIST_CFG 708).addr = 0x0185C110 ∧
    (Reg.TIM_PTP_PORT 708).addr = 0x01C15880 ∧ (Reg.TIM_TIC_CFG 3).addr = 0x01C40C00 ∧
    (Reg.CNT (C.prtRxFcsErrors 708)).addr = 0x02113510 ∧ (Reg.CNT (C.t1Hits 3)).addr = 0x0210112C ∧
    (Reg.CNT (C.t2Lookups 3)).addr = 0x0210114C := by decide +kernel

/-- Chapter 02: the gates ending at 242 s to 280 s, the one at 250 s measuring a difference of 14 ppb. -/
theorem test_oscillatorGates : (let s0 := (boot 0xA).setFld .TIM_OSC_QUAL_STATUS F.TIM_OSC_QUAL_STATUS_STATE 2
    let gate := fun (s : State) d => match execOscStabilityGate d s with | .next t => t | _ => s
    let at' := fun (ds : List Int) => let t := ds.foldl gate s0
      (t.oscState, t.fld .TIM_OSC_QUAL_STATUS F.TIM_OSC_QUAL_STATUS_PASSED)
    (at' (List.replicate 8 0), at' (List.replicate 8 0 ++ [140]), at' (List.replicate 8 0 ++ List.replicate 30 140),
      at' (List.replicate 8 0 ++ List.replicate 31 140))) = ((2, 7), (2, 0), (2, 29), (3, 30)) := by decide +kernel

def eth (et : List Byte) : List Byte := List.replicate 12 0x11#8 ++ et
def ipv4 : List Byte := [0x45#8, 0, 0, 200, 0, 0, 0, 0, 64, 17, 0, 0, 10, 0, 0, 1, 10, 0, 0, 2]
def ipv6 : List Byte := [0x60#8, 0, 0, 0, 0, 180, 17, 64] ++ List.replicate 32 1#8
def udpVxlan : List Byte := [0x12#8, 0x34, 0x12, 0xB5, 0, 180, 0, 0, 8, 0, 0, 0, 0, 0, 42, 0] ++ eth [0x12#8, 0x34]

/-- The verdict, the payload's offset and the destination port of a frame under a setting of TUNNEL. -/
def verdictOf (tunnel : Nat) (bs : List Byte) : Verdict × Nat × Nat :=
  let p := parseFrame ⟨tunnel, false, 0, 4789, 6081⟩ (bs ++ List.replicate 100 0#8)
  (p.verdict, p.payload, p.dport)

/-- Chapter 06: VXLAN on IPv4, the same with an outer tag, and on IPv6. -/
theorem test_parse_ipv4 : verdictOf 2 (eth [8#8, 0] ++ ipv4 ++ udpVxlan) = (.ok, 64, 4789) ∧
    (verdictOf 2 (eth [0x81#8, 0, 0, 1, 8, 0] ++ ipv4 ++ udpVxlan)).1 = .deep := by decide +kernel

theorem test_parse_ipv6 : (verdictOf 1 (eth [0x86#8, 0xDD] ++ ipv6 ++ udpVxlan)).1 = .deep ∧
    (verdictOf 2 (eth [0x86#8, 0xDD] ++ ipv6 ++ udpVxlan)).1 = .deep ∧
    verdictOf 0 (eth [0x86#8, 0xDD] ++ ipv6 ++ udpVxlan) = (.ok, 62, 4789) := by decide +kernel

/-- Chapter 13: an interrupt source. -/
def srcAt (s : State) (n prio targets sense : Nat) : State :=
  (((s.setFld (.HST_IRQ_SRC n) F.HST_IRQ_SRC_PRIO prio).setFld (.HST_IRQ_SRC n) F.HST_IRQ_SRC_TARGETS targets).setFld
    (.HST_IRQ_SRC n) F.HST_IRQ_SRC_ROUTE 1).setFld (.HST_IRQ_SRC n) F.HST_IRQ_SRC_SENSE sense

/-- Targets 0 and 1 ONLINE, source 33 in service on target 1; 64 and 112 then arrive. -/
def arrivals : State :=
  let s := (State.reset.setFld (.HST_IRQ_TGT_CFG 0) F.HST_IRQ_TGT_CFG_ONLINE 1).setFld (.HST_IRQ_TGT_CFG 1) F.HST_IRQ_TGT_CFG_ONLINE 1
  let s := srcAt (srcAt (srcAt s 33 6 2 1) 64 4 3 1) 112 12 3 1
  (((s.irqEvent 33).irqClaim 1).1.irqEvent 64).irqEvent 112

theorem test_irq_binding : arrivals.irqStack 1 = [(6, 33)] ∧ arrivals.irqBound 64 = some 0 ∧ arrivals.irqBound 112 = some 0 := by decide +kernel

theorem test_irq_claims : (let a := arrivals.irqClaim 0
    let b := a.1.irqEoi 1 33
    let c := b.irqClaim 1
    let d := c.1.irqEoi 0 112
    a.2 = 112 ∧ a.1.irqStack 0 = [(12, 112)] ∧ a.1.irqBound 64 = none ∧ b.irqStack 1 = [] ∧ b.irqBound 64 = some 1 ∧
      c.2 = 64 ∧ d.irqStack 0 = [] ∧ d.irqPending 112 = false) := by decide +kernel

/-- RFC 4231, test case 1: the proof's function (R85) is HMAC-SHA-256. -/
theorem test_hmac : hmac (0x0b0b0b0b0b0b0b0b0b0b0b0b0b0b0b0b0b0b0b0b * 2 ^ 96) [0x48, 0x69, 0x20, 0x54, 0x68, 0x65, 0x72, 0x65] =
    beBytes 32 0xb0344c61d8db38535ca8afceaf0bf12b881dc200c9833da726e9376c2e32cff7 := by decide +kernel

/-- Chapter 15: LNE_LANE_CFG[709] after its image, as an Operator and as an Expert read it. -/
theorem test_laneWord : (let w := F.LNE_LANE_CFG_ANISE_EN.set (F.LNE_LANE_CFG_TRAIN_EN.set 0 1) 1
    w = 0x00000024#32) := by decide

end Sys2Proof.Tests
end

section
/-! SUPPORT. What signalling sends, and what counting many times keeps. -/
namespace Sys2Proof

open Sys2Proof.Machine

/-- Between `s` and `t` nothing has been sent but messages of interrupts. -/
def SendsOnlyMsix (s t : State) : Prop :=
  ∃ pre, t.out = pre ++ s.out ∧ ∀ o ∈ pre, ∃ n a d, o = Output.msix n a d

theorem countN_keeps {P : State → Prop} {id : Nat} (hc : ∀ v, P v → P (v.count id)) (n : Nat) {u : State} (h : P u) :
    P (u.countN id n) := by
  induction n generalizing u with
  | zero => exact h
  | succ n ih => exact ih (hc u h)

theorem SignalProof.irqRise {P : State → Prop} (c : SignalProof P) {u : State} (h : P u) {i : Nat} (hi : i < 128)
    (was : Bool) : P (u.irqRise i was) := by
  cases was
  · exact c.irqEvent h hi
  · exact c.irqSettle h

namespace SendsOnlyMsix

variable {s u t : State}

theorem refl : SendsOnlyMsix s s := ⟨[], rfl, by simp⟩

/-- A step that leaves the outputs as they were sends nothing. -/
theorem of_out_eq (h : SendsOnlyMsix s u) (e : t.out = u.out) : SendsOnlyMsix s t := by
  unfold SendsOnlyMsix
  rw [e]
  exact h

theorem setFld (h : SendsOnlyMsix s u) (r : Reg) (f : Fld) (v : Nat) : SendsOnlyMsix s (u.setFld r f v) :=
  h.of_out_eq rfl

theorem count (h : SendsOnlyMsix s u) (id : Nat) : SendsOnlyMsix s (u.count id) := h.of_out_eq rfl

theorem irq (h : SendsOnlyMsix s u) (x : Irq) : SendsOnlyMsix s { u with irq := x } := h.of_out_eq rfl

theorem irqBind (h : SendsOnlyMsix s u) (i : Nat) (t : Option Nat) : SendsOnlyMsix s (u.irqBind i t) := by
  cases t <;> exact (h.setFld ..).setFld ..

theorem msixSend (h : SendsOnlyMsix s u) (t : Nat) : SendsOnlyMsix s (u.msixSend t) := by
  obtain ⟨pre, hout, hpre⟩ := h
  refine ⟨.msix t (u.msixEntry t).addr (u.msixEntry t).data :: pre, by simp [State.msixSend, hout], ?_⟩
  rintro o (_ | ⟨_, ho⟩)
  · exact ⟨_, _, _, rfl⟩
  · exact hpre o ho

theorem notify (h : SendsOnlyMsix s u) (t : Nat) : SendsOnlyMsix s (u.notify t) := by
  unfold State.notify
  split
  · exact h
  · dsimp only
    split
    · exact (h.irq _).irq _
    · exact (h.irq _).msixSend t

theorem irqBindOne (h : SendsOnlyMsix s u) (i : Nat) : SendsOnlyMsix s (u.irqBindOne i) := by
  unfold State.irqBindOne
  split
  · exact h
  · split
    · exact h
    · exact ((h.irq _).irqBind ..).notify _

theorem irqSettle (h : SendsOnlyMsix s u) : SendsOnlyMsix s u.irqSettle := by
  unfold State.irqSettle
  dsimp only
  refine foldl_keeps _ _ (foldl_keeps _ _ h ?_) ?_
  · intro v i _ hv
    split
    · split
      · exact hv
      · exact hv.irqBind ..
    · exact hv
  · exact fun v i _ hv => hv.irqBindOne i

theorem irqEvent (h : SendsOnlyMsix s u) (i : Nat) : SendsOnlyMsix s (u.irqEvent i) := by
  unfold State.irqEvent
  split
  · exact (h.setFld ..).irqSettle
  · exact h.irqSettle

theorem irqRise (h : SendsOnlyMsix s u) (i : Nat) (was : Bool) : SendsOnlyMsix s (u.irqRise i was) := by
  cases was
  · exact h.irqEvent i
  · exact h.irqSettle

theorem logEntry (h : SendsOnlyMsix s u) (code i d : Nat) (clear : Bool) :
    SendsOnlyMsix s (u.logEntry code i d clear) := by
  unfold State.logEntry
  extract_lets head j w s1 s2 x s3
  have h3 : SendsOnlyMsix s s3 := h.of_out_eq rfl
  clear_value s3
  split
  · exact h3
  · split
    · exact h3.irqEvent 112
    · split
      · exact h3.irqEvent 113
      · exact h3

theorem event (h : SendsOnlyMsix s u) (code i d : Nat) : SendsOnlyMsix s (u.event code i d) := by
  unfold State.event
  extract_lets v x w
  have hw : SendsOnlyMsix s w := by
    unfold w
    split <;> exact h.of_out_eq rfl
  clear_value w
  split
  · split
    · exact hw
    · exact hw.logEntry ..
  · exact hw.logEntry ..

end SendsOnlyMsix
end Sys2Proof
end

section
/-! SUPPORT. Refused accesses (R91, R100 to R103, R502, R547): which statuses refuse, and what a refusal leaves. -/
namespace Sys2Proof

open Sys2Proof.Machine

/-- What a refused write may have done before the refusal is recorded: a commit or relocations counted, REHASH_NEEDED
signalled (R103, R547). -/
structure RefusalLeaves (s t : State) : Prop where
  canonical : StoresCanonical t
  signals : Signals [.FWD_HASH_STATUS] [C.commitRefused, C.relocations] s t
  sends : SendsOnlyMsix s t

/-! ## Statuses fit LAST_STATUS -/

theorem coupledFault_status_lt (s : State) (regs : SMap Word) : ∀ x ∈ s.coupledFault regs, x.1 < 256 := by
  unfold State.coupledFault
  extract_lets v faults
  have hfaults : ∀ x ∈ faults, x.1 < 256 := by
    intro x hx
    obtain ⟨kv, -, hkv⟩ := List.mem_filterMap.mp hx
    split at hkv
    · cases hkv
    · split at hkv
      · cases hkv; exact (by decide : Stat.coupled < 256)
      · split at hkv
        · cases hkv; exact (by decide : Stat.inconsistent < 256)
        · cases hkv
  clear_value faults
  refine List.foldlRecOn (motive := fun b : Option (Nat × Nat × Nat) => ∀ x ∈ b, x.1 < 256) faults _ (by simp)
    fun b hb x hx => ?_
  cases b with
  | none => simpa using hfaults x hx
  | some y =>
    dsimp only
    split
    · simpa using hfaults x hx
    · exact hb

theorem validate_status_lt (s : State) (regs : SMap Word) (ops : List TblOp) : (s.validate regs ops).1 < 256 := by
  unfold State.validate
  split
  · decide
  · split
    · next st g hg => exact coupledFault_status_lt s regs _ hg
    · split
      · split <;> decide
      · decide

theorem checkWrite_status_lt (s : State) (w : Who) (a : Nat) (v : Word) :
    ∀ st, s.checkWrite w a v = .inl st → st < 256 := by
  have hrole : Stat.role < 256 := by decide
  have haddress : Stat.address < 256 := by decide
  unfold State.checkWrite
  dsimp only
  split
  · rintro _ ⟨⟩; exact hrole
  · split
    · rintro _ ⟨⟩; split <;> assumption
    · split
      · rintro _ ⟨⟩; exact hrole
      · split
        · rintro _ ⟨⟩; exact (by decide : Stat.level < 256)
        · split
          · rintro _ ⟨⟩; exact haddress
          · split
            · rintro _ ⟨⟩; exact (by decide : Stat.value < 256)
            · split
              · rintro _ ⟨⟩; exact (by decide : Stat.rwlLocked < 256)
              · rintro _ ⟨⟩

/-! ## Writes -/

namespace RefusalLeaves

variable {s u : State}

theorem refl (h : StoresCanonical s) : RefusalLeaves s s := ⟨h, .refl, .refl⟩

theorem count (h : RefusalLeaves s u) {id : Nat} (hid : id ∈ [C.commitRefused, C.relocations]) :
    RefusalLeaves s (u.count id) :=
  ⟨h.canonical.count id, h.signals.count (.inr hid), h.sends.count id⟩

theorem rehashNeeded (h : RefusalLeaves s u) : RefusalLeaves s u.rehashNeeded where
  canonical := StoresCanonical.signalProof.event (h.canonical.setFld ..) (by decide) 0 0
  signals := Signals.signalProof.event (h.signals.setFld (by simp) _ _) (by decide) 0 0
  sends := (h.sends.setFld ..).event ..

end RefusalLeaves

/-- Where the answer to a write of `s` is a refusal, its status fits LAST_STATUS and the state is as `RefusalLeaves` says. -/
def RefusesCleanly (s : State) (x : State × Nat) : Prop := x.2 ≠ 0 → RefusalLeaves s x.1 ∧ x.2 < 256

theorem RefusesCleanly.accepted {s u : State} : RefusesCleanly s (u, 0) := fun h => absurd rfl h

theorem RefusesCleanly.refused {s u : State} {st : Nat} (h : RefusalLeaves s u) (hst : st < 256) :
    RefusesCleanly s (u, st) := fun _ => ⟨h, hst⟩

section Writes

variable {s : State} (hs : StoresCanonical s)
include hs

/-- A refused staging changes nothing but the count of refused commits. -/
theorem stageReg_refusesCleanly (h : Nat) (r : Reg) (v : Word) : RefusesCleanly s (s.stageReg h r v) := by
  have stays := RefusalLeaves.refl hs
  unfold State.stageReg
  split
  · exact .refused stays (by decide)
  · split
    · split
      · exact .refused stays (by decide)
      · split
        · exact .accepted
        · split
          · exact .refused stays (by decide)
          · exact .accepted
    · split
      · exact .refused stays (by decide)
      · split
        · exact .refused stays (by decide)
        · dsimp only
          split
          · exact .refused (stays.count (by simp)) (validate_status_lt ..)
          · exact .accepted

/-- A rebuild under new seeds that finds no place for an entry has counted its relocations only. -/
theorem seedRebuild_failed (sd : Nat × Nat) :
    (s.seedRebuild sd).2 ≠ true → RefusalLeaves s (s.seedRebuild sd).1 := by
  unfold State.seedRebuild
  extract_lets r u
  have hu : RefusalLeaves s u := countN_keeps (fun _ hv => hv.count (by simp)) _ (.refl hs)
  split
  · exact fun _ => hu
  · exact fun hf => absurd rfl hf

theorem seedWrite_refusesCleanly (h : Nat) (r : Reg) (m : Word) : RefusesCleanly s (s.seedWrite h r m) := by
  unfold State.seedWrite
  extract_lets sd t
  split
  · exact stageReg_refusesCleanly hs h r m
  · split
    · exact .accepted
    · split
      · exact .accepted
      · next hf => exact .refused (seedRebuild_failed hs sd hf).rehashNeeded (by decide)

theorem writeAddr_refusesCleanly (w : Who) (a : Nat) (v : Word) : RefusesCleanly s (s.writeAddr w a v) := by
  unfold State.writeAddr
  split
  · next st hc => exact .refused (.refl hs) (checkWrite_status_lt s w a v st hc)
  · split
    · exact stageReg_refusesCleanly hs _ _ _
    · split
      · exact seedWrite_refusesCleanly hs _ _ _
      · split <;> exact .accepted

end Writes

/-! ## Reads -/

/-- A refused read has not touched the register (R91, R502). -/
theorem readAddr_refused (s : State) (w : Who) (a : Nat) :
    (s.readAddr w a).2.1 ≠ 0 → (s.readAddr w a).1 = s ∧ (s.readAddr w a).2.1 < 256 := by
  unfold State.readAddr
  split
  · exact fun _ => ⟨rfl, (by decide : Stat.address < 256)⟩
  · split
    · exact fun _ => ⟨rfl, (by decide : Stat.role < 256)⟩
    · exact fun hst => absurd rfl hst

end Sys2Proof
end

section
/-! PROOF. Window accesses that are refused (R98). -/
namespace Sys2Proof

open Sys2Proof.Machine

/-- What R98 records of a refused window access, and what was sent meanwhile. -/
structure RecordsRefusal (st : Nat) (s t : State) : Prop where
  error : t.fld .HST_WIN_STATUS F.HST_WIN_STATUS_ERROR = 1
  status : t.fld .HST_WIN_STATUS F.HST_WIN_STATUS_LAST_STATUS = st
  counted : CountedOnce C.winErrors s t
  sends : SendsOnlyMsix s t

theorem winStatus_not_signalAddr : ¬ signalAddr Reg.HST_WIN_STATUS.addr := by
  rintro (h | ⟨j, k, -, -, h⟩ | ⟨i, -, h⟩) <;> simp [Reg.addr, addrOf] at h <;> omega

theorem exec_registerWrite_window (a : Nat) (v : Word) (s : State) :
    exec (.registerWrite .window a v true) s = .next (s.pathWrite .window a v).takeReset := rfl

theorem exec_windowRead (a : Nat) (s : State) : exec (.windowRead a) s = .next (s.readOut .window a) := rfl

theorem takeReset_of_none {s : State} (h : s.boot.resetReq = none) : s.takeReset = s := by
  simp [State.takeReset, h]

/-- ERROR and LAST_STATUS set and the refusal counted: `winRefuse` before its interrupt. -/
def refusalNoted (u : State) (st : Nat) : State :=
  ((u.setFld .HST_WIN_STATUS F.HST_WIN_STATUS_ERROR 1).setFld .HST_WIN_STATUS F.HST_WIN_STATUS_LAST_STATUS st).count
    C.winErrors

theorem winRefuse_eq (u : State) (st : Nat) : u.winRefuse st = (refusalNoted u st).irqRise 40 (u.irqCond 40) := rfl

/-- The interrupt of source 40 changes nothing that signalling does not. -/
theorem winRefuse_signals (u : State) (st : Nat) : Signals [] [] (refusalNoted u st) (u.winRefuse st) :=
  winRefuse_eq u st ▸ Signals.signalProof.irqRise .refl (by decide) _

theorem winRefuse_boot (u : State) (st : Nat) : (u.winRefuse st).boot = u.boot := by
  rw [(winRefuse_signals u st).rest]; rfl

theorem winRefuse_fld_winStatus (u : State) (st : Nat) (f : Fld) :
    (u.winRefuse st).fld .HST_WIN_STATUS f = (refusalNoted u st).fld .HST_WIN_STATUS f := by
  rw [State.fld, ((winRefuse_signals u st).regs _ winStatus_not_signalAddr (by simp)).1, State.fld]

theorem winRefuse_counter_winErrors (u : State) (st : Nat) :
    (u.winRefuse st).counter C.winErrors = (refusalNoted u st).counter C.winErrors :=
  (winRefuse_signals u st).cnts _ (by decide) (by simp)

theorem winRefuse_records {s u : State} {st : Nat} (h : RefusalLeaves s u) (hst : st < 256) :
    RecordsRefusal st s (u.winRefuse st) where
  error := by
    rw [winRefuse_fld_winStatus, refusalNoted, State.count_fld,
      State.fld_setFld_apart _ _ _ _ _ (State.regsOk_setFld _ _ _ _ h.canonical.regs) (by decide) (by decide),
      State.fld_setFld_self _ _ _ _ h.canonical.regs (by decide)]
    rfl
  status := by
    rw [winRefuse_fld_winStatus, refusalNoted, State.count_fld,
      State.fld_setFld_self _ _ _ _ (State.regsOk_setFld _ _ _ _ h.canonical.regs) (by decide)]
    exact Nat.mod_eq_of_lt hst
  counted := by
    have hkept : u.counter C.winErrors = s.counter C.winErrors := h.signals.cnts _ (by decide) (by decide)
    unfold CountedOnce
    rw [winRefuse_counter_winErrors, ← hkept]
    exact State.counter_count_self _ _ h.canonical.cnt
  sends := winRefuse_eq u st ▸ SendsOnlyMsix.irqRise (((h.sends.setFld ..).setFld ..).count _) 40 _

/-! ## Accesses by the session that holds the window -/

section Served

variable {s : State} {h : Nat} {x : Session} (holder : s.winHolder = some (h, x)) (up : s.stepTwoDone = true)
  (live : s.halted = false) (stewards : s.stewardHeld = false)
include holder up live stewards

/-- With a steward at work the holder's write is a session's write, its refusal recorded (R97, R98). -/
theorem pathWrite_of_holder (a : Nat) (v : Word) :
    s.pathWrite .window a v =
      if (s.writeAddr (.sess h x.role) a v).2 = 0 then (s.writeAddr (.sess h x.role) a v).1
      else (s.writeAddr (.sess h x.role) a v).1.winRefuse (s.writeAddr (.sess h x.role) a v).2 := by
  obtain ⟨hlost, hcause⟩ := Bool.or_eq_false_iff.mp stewards
  simp [State.pathWrite, State.winWho, up, live, hlost, hcause, holder]

theorem readOut_of_holder (a : Nat) :
    s.readOut .window a =
      if (s.readAddr (.sess h x.role) a).2.1 = 0 then
        (s.readAddr (.sess h x.role) a).1.emit (.readData (s.readAddr (.sess h x.role) a).2.2)
      else ((s.readAddr (.sess h x.role) a).1.winRefuse (s.readAddr (.sess h x.role) a).2.1).emit (.readData 0) := by
  obtain ⟨hlost, hcause⟩ := Bool.or_eq_false_iff.mp stewards
  by_cases hst : (s.readAddr (.sess h x.role) a).2.1 = 0 <;>
    simp [State.readOut, State.pathRead, State.winWho, up, live, hlost, hcause, holder, hst]

/-- A refused write by the holder (R98). -/
theorem registerWrite_refused (hs : StoresCanonical s) (noReset : s.boot.resetReq = none) {a : Nat} {v : Word}
    (hst : (s.writeAddr (.sess h x.role) a v).2 ≠ 0) :
    ∃ t, exec (.registerWrite .window a v true) s = .next t ∧
      RecordsRefusal (s.writeAddr (.sess h x.role) a v).2 s t := by
  obtain ⟨hleaves, hlt⟩ := writeAddr_refusesCleanly hs _ _ _ hst
  have hboot : (s.writeAddr (.sess h x.role) a v).1.boot = s.boot := by rw [hleaves.signals.rest]
  refine ⟨_, ?_, winRefuse_records hleaves hlt⟩
  rw [exec_registerWrite_window, pathWrite_of_holder holder up live stewards, if_neg hst,
    takeReset_of_none (by rw [winRefuse_boot, hboot, noReset])]

/-- A refused read by the holder returns zero and is recorded alike (R98). -/
theorem windowRead_refused (hs : StoresCanonical s) {a : Nat} (hst : (s.readAddr (.sess h x.role) a).2.1 ≠ 0) :
    ∃ t, exec (.windowRead a) s = .next (t.emit (.readData 0)) ∧
      RecordsRefusal (s.readAddr (.sess h x.role) a).2.1 s t := by
  obtain ⟨hsame, hlt⟩ := readAddr_refused _ _ _ hst
  refine ⟨_, ?_, winRefuse_records (.refl hs) hlt⟩
  rw [exec_windowRead, readOut_of_holder holder up live stewards, if_neg hst, hsame]

end Served

/-- Settles O13: every refusal, by whatever check, leaves the stores canonical and HST_WIN_ERRORS as it was, and then
`winRefuse` records it. -/
theorem windowRefusalsRecorded : Obligations.WindowRefusalsRecorded := by
  unfold Obligations.WindowRefusalsRecorded
  intro s h a x v hs holder up live stewards noReset
  refine ⟨?_, ?_⟩
  · rintro st rfl hst
    obtain ⟨t, ht, hr⟩ := registerWrite_refused holder up live stewards hs noReset hst
    exact ⟨t, ht, hr.error, hr.status, hr.counted, hr.sends⟩
  · rintro st rfl hst
    obtain ⟨t, ht, hr⟩ := windowRead_refused holder up live stewards hs hst
    obtain ⟨pre, hout, hpre⟩ := hr.sends
    exact ⟨t.emit (.readData 0), ht, hr.error, hr.status, hr.counted, pre, by rw [State.emit_out, hout], hpre⟩

end Sys2Proof
end

section
/-! PROOF. The format of a timestamp and of a sample time (R323, R491). -/
namespace Sys2Proof

open Sys2Proof.Machine

theorem now16_lt (s : State) : s.now16 < 2 ^ 64 := Nat.mod_lt _ (by decide)

/-- Above a timestamp's fraction stands T's integer part, cut to 48 bits. -/
theorem now16_div (s : State) : s.now16 / 2 ^ 16 = s.nowNs % 2 ^ 48 := by
  simp only [State.now16, State.nowNs]
  omega

theorem now16_mod (s : State) : s.now16 % 2 ^ 16 = s.tim.t.toNat / 2 ^ 16 % 2 ^ 16 :=
  Nat.mod_mod_of_dvd _ (by decide)

/-- 2^48 ns are 2^64 units of a timestamp. -/
theorem now16_wraps {s u : State} (h : u.tim.t.toNat = s.tim.t.toNat + 2 ^ 48 * 2 ^ 32) : u.now16 = s.now16 := by
  simp only [State.now16, h]
  omega

/-- STEP_SEQ stands above the low half of the word, which is bits 47 to 32 of the sample time. -/
theorem stepTime_mod (s : State) (ns : Nat) : (s.stepTime ns).toNat % 2 ^ 16 = ns / 2 ^ 32 % 2 ^ 16 := by
  simp only [State.stepTime, BitVec.toNat_ofNat]
  omega

/-- The two words in which a counter's sample time is read hold its 48 bits. -/
theorem sampleTime_words (s : State) (ns : Nat) :
    (BitVec.ofNat 32 ns).toNat + (s.stepTime ns).toNat % 2 ^ 16 * 2 ^ 32 = ns % 2 ^ 48 := by
  rw [stepTime_mod, BitVec.toNat_ofNat]
  omega

/-- Settles O8: the integer part and the fraction by `now16_div` and `now16_mod`; the words of a sample time and the
timestamp's upper part are both the integer part modulo 2^48. -/
theorem timestampFormat : Obligations.TimestampFormat := by
  unfold Obligations.TimestampFormat
  refine ⟨fun s => ⟨now16_lt s, now16_div s, now16_mod s⟩, fun _ _ => now16_wraps, fun s => ?_⟩
  rw [sampleTime_words, now16_div]

end Sys2Proof
end

section
/-! PROOF. The address map and the decoder are inverse to each other (R31, R500 to R503). -/
namespace Sys2Proof

open Sys2Proof.Machine

/-- What the decoder makes of district, ward, block and register number. -/
def decodeParts (d w b r : Nat) : Option Reg :=
  if r = 255 then (if blockPopulated d w b then some (.BLKCTL d w b) else none)
  else match d with
    | 0 => decodeHst w b r
    | 1 => decodeStw w b r
    | 2 => decodeLne w b r
    | 3 => decodePrt w b r
    | 4 => decodePip w b r
    | 5 => decodeFwd w b r
    | 6 => decodeSwc w b r
    | 7 => decodeTim w b r
    | 8 => decodeHlt w b r
    | _ => none

/-- An address splits into its four parts. -/
theorem decodeAddr_addrOf {d w b r : Nat} (hd : d < 16) (hw : w < 64) (hb : b < 64) (hr : r < 256) :
    decodeAddr (addrOf d w b r) = decodeParts d w b r := by
  have h0 : ¬ (addrOf d w b r % 4 ≠ 0 ∨ addrOf d w b r ≥ 0x4000000) := by unfold addrOf; omega
  have h1 : addrOf d w b r / 0x400000 = d := by unfold addrOf; omega
  have h2 : addrOf d w b r / 0x10000 % 64 = w := by unfold addrOf; omega
  have h3 : addrOf d w b r / 0x400 % 64 = b := by unfold addrOf; omega
  have h4 : addrOf d w b r / 4 % 256 = r := by unfold addrOf; omega
  unfold decodeAddr
  rw [if_neg h0, h1, h2, h3, h4]
  rfl

theorem addr_BLKCTL (d w b : Nat) : (Reg.BLKCTL d w b).addr = addrOf d w b 255 := rfl

/-- The parts of an address that decodes, and what they decode to. -/
theorem decodeParts_of_decodeAddr {a : Nat} {q : Reg} (h : decodeAddr a = some q) :
    ∃ d w b r, a = addrOf d w b r ∧ d < 16 ∧ w < 64 ∧ b < 64 ∧ r < 256 ∧ decodeParts d w b r = some q := by
  have ha : ¬ (a % 4 ≠ 0 ∨ a ≥ 0x4000000) := fun hn => by simp [decodeAddr, hn] at h
  have e : a = addrOf (a / 0x400000) (a / 0x10000 % 64) (a / 0x400 % 64) (a / 4 % 256) := by unfold addrOf; omega
  refine ⟨_, _, _, _, e, by omega, by omega, by omega, by omega, ?_⟩
  rw [← decodeAddr_addrOf (by omega) (by omega) (by omega) (by omega), ← e, h]

/-- A register that lies at the parts given, with its index in the map's bounds. -/
def LiesAt (d w b r : Nat) (q : Reg) : Prop := q.addr = addrOf d w b r ∧ q.indexOk = true

theorem decodeHst_liesAt {w b r : Nat} {q : Reg} (hb : b < 64)
    (h : decodeHst w b r = some q) : LiesAt 0 w b r q := by
  unfold decodeHst at h
  repeat' split at h
  all_goals
    cases h
    try exact ⟨by simp only [Reg.addr, addrOf]; omega, by simp [Reg.indexOk] <;> omega⟩

theorem decodeStw_liesAt {w b r : Nat} {q : Reg}
    (h : decodeStw w b r = some q) : LiesAt 1 w b r q := by
  unfold decodeStw at h
  repeat' split at h
  all_goals
    cases h
    try exact ⟨by simp only [Reg.addr, addrOf]; omega, by simp [Reg.indexOk] <;> omega⟩

theorem decodeLne_liesAt {w b r : Nat} {q : Reg} (hw : w < 64) (hb : b < 64)
    (h : decodeLne w b r = some q) : LiesAt 2 w b r q := by
  unfold decodeLne at h
  repeat' split at h
  all_goals
    cases h
    try exact ⟨by simp only [Reg.addr, addrOf]; omega, by simp [Reg.indexOk] <;> omega⟩

theorem decodePrt_liesAt {w b r : Nat} {q : Reg} (hw : w < 64) (hb : b < 64)
    (h : decodePrt w b r = some q) : LiesAt 3 w b r q := by
  unfold decodePrt at h
  repeat' split at h
  all_goals
    cases h
    try exact ⟨by simp only [Reg.addr, addrOf]; omega, by simp [Reg.indexOk] <;> omega⟩

theorem decodePip_liesAt {w b r : Nat} {q : Reg} (hw : w < 64) (hb : b < 64)
    (h : decodePip w b r = some q) : LiesAt 4 w b r q := by
  unfold decodePip at h
  repeat' split at h
  all_goals
    cases h
    try exact ⟨by simp only [Reg.addr, addrOf]; omega, by simp [Reg.indexOk] <;> omega⟩

theorem decodeFwd_liesAt {w b r : Nat} {q : Reg}
    (h : decodeFwd w b r = some q) : LiesAt 5 w b r q := by
  unfold decodeFwd at h
  repeat' split at h
  all_goals
    cases h
    try exact ⟨by simp only [Reg.addr, addrOf]; omega, by simp [Reg.indexOk] <;> omega⟩

theorem decodeSwc_liesAt {w b r : Nat} {q : Reg} (hw : w < 64) (hb : b < 64)
    (h : decodeSwc w b r = some q) : LiesAt 6 w b r q := by
  unfold decodeSwc at h
  repeat' split at h
  all_goals
    cases h
    try exact ⟨by simp only [Reg.addr, addrOf]; omega, by simp [Reg.indexOk] <;> omega⟩

theorem decodeTim_liesAt_low {w b r : Nat} {q : Reg} (hw : w < 2) (hr : r < 256) (h : decodeTim w b r = some q) : LiesAt 7 w b r q := by
  unfold decodeTim at h
  simp only [show w ≠ 2 by omega, show w ≠ 3 by omega, show w ≠ 4 by omega, if_false] at h
  repeat' split at h
  all_goals
    cases h
    try simp only [imp_false] at *
    try exact ⟨by simp only [Reg.addr, addrOf]; omega, by simp [Reg.indexOk] <;> omega⟩

theorem decodeTim_liesAt_high {w b r : Nat} {q : Reg} (hw : 2 ≤ w) (h : decodeTim w b r = some q) : LiesAt 7 w b r q := by
  unfold decodeTim at h
  simp only [show w ≠ 0 by omega, show w ≠ 1 by omega, if_false] at h
  repeat' split at h
  all_goals
    cases h
    try simp only [imp_false] at *
    try exact ⟨by simp only [Reg.addr, addrOf]; omega, by simp [Reg.indexOk] <;> omega⟩

theorem decodeTim_liesAt {w b r : Nat} {q : Reg} (hr : r < 256) (h : decodeTim w b r = some q) : LiesAt 7 w b r q :=
  (Nat.lt_or_ge w 2).elim (decodeTim_liesAt_low · hr h) (decodeTim_liesAt_high · h)

theorem decodeHlt_liesAt {w b r : Nat} {q : Reg} (hw : w < 64) (hb : b < 64)
    (h : decodeHlt w b r = some q) : LiesAt 8 w b r q := by
  unfold decodeHlt at h
  repeat' split at h
  all_goals
    cases h
    try exact ⟨by simp only [Reg.addr, addrOf]; omega, by simp [Reg.indexOk] <;> omega⟩

/-- Past the last district no block is populated. -/
theorem blockPopulated_past {d w b : Nat} (h : 9 ≤ d) : blockPopulated d w b = false := by
  obtain ⟨k, rfl⟩ := Nat.exists_eq_add_of_le' h
  rfl

/-- Whatever a district's decoder answers lies at the parts that it was asked for. -/
theorem decodeParts_liesAt {d w b r : Nat} {q : Reg} (hw : w < 64) (hb : b < 64) (hr : r < 256)
    (h : decodeParts d w b r = some q) : LiesAt d w b r q := by
  unfold decodeParts at h
  split at h
  · next h255 =>
    split at h
    · next hp =>
      cases h
      have hd9 : d < 9 := by
        by_contra hn
        rw [blockPopulated_past (Nat.le_of_not_lt hn)] at hp
        cases hp
      simp [LiesAt, Reg.addr, Reg.indexOk, h255, hd9, hw, hb]
    · cases h
  · split at h
    · exact decodeHst_liesAt hb h
    · exact decodeStw_liesAt h
    · exact decodeLne_liesAt hw hb h
    · exact decodePrt_liesAt hw hb h
    · exact decodePip_liesAt hw hb h
    · exact decodeFwd_liesAt h
    · exact decodeSwc_liesAt hw hb h
    · exact decodeTim_liesAt hr h
    · exact decodeHlt_liesAt hw hb h
    · cases h

theorem decodeAddr_liesAt {a : Nat} {q : Reg} (h : decodeAddr a = some q) :
    q.addr = a ∧ q.indexOk = true ∧ a % 4 = 0 ∧ a < 0x4000000 := by
  obtain ⟨d, w, b, r, rfl, hd, hw, hb, hr, h⟩ := decodeParts_of_decodeAddr h
  obtain ⟨haddr, hok⟩ := decodeParts_liesAt hw hb hr h
  exact ⟨haddr, hok, by unfold addrOf; omega, by unfold addrOf; omega⟩


theorem strided_mod (o k m c : Nat) (hc : c < k) : (o + k * m + c - o) % k = c := by
  rw [show o + k * m + c - o = k * m + c by omega, Nat.mul_add_mod, Nat.mod_eq_of_lt hc]

theorem strided_div (o k m c : Nat) (hc : c < k) : (o + k * m + c - o) / k = m := by
  rw [show o + k * m + c - o = k * m + c by omega, Nat.mul_add_div (by omega), Nat.div_eq_of_lt hc, Nat.add_zero]

theorem strided_mod₀ (k m c : Nat) (hc : c < k) : (k * m + c) % k = c := by
  rw [Nat.mul_add_mod, Nat.mod_eq_of_lt hc]

theorem strided_div₀ (k m c : Nat) (hc : c < k) : (k * m + c) / k = m := by
  rw [Nat.mul_add_div (by omega), Nat.div_eq_of_lt hc, Nat.add_zero]

/-! Every register decodes from its own address. The registers are taken in runs of the map, by their place in it, so that each
lemma stays small. -/

theorem not_lt_of_ble {m n : Nat} (h : m.ble n = true) : ¬ n < m := Nat.not_lt.mpr (Nat.le_of_ble_eq_true h)

theorem decodeAddr_addr_hst {r : Reg} (hok : r.indexOk = true) (hlo : 0 < r.ctorIdx) (hhi : r.ctorIdx < 25) :
    decodeAddr r.addr = some r := by
  cases r
  all_goals
    try exact absurd hlo (not_lt_of_ble rfl)
    try exact absurd hhi (not_lt_of_ble rfl)
  all_goals
    simp only [Reg.indexOk, Bool.and_eq_true, decide_eq_true_eq] at hok
    rw [Reg.addr, decodeAddr_addrOf (by omega) (by omega) (by omega) (by omega), decodeParts]
    simp (disch := omega) only [decodeHst.eq_def, if_pos, if_neg, Nat.add_sub_cancel_left,
      if_true, and_self]
    try (congr 1 <;> omega)

theorem decodeAddr_addr_stw {r : Reg} (hok : r.indexOk = true) (hlo : 24 < r.ctorIdx) (hhi : r.ctorIdx < 48) :
    decodeAddr r.addr = some r := by
  cases r
  all_goals
    try exact absurd hlo (not_lt_of_ble rfl)
    try exact absurd hhi (not_lt_of_ble rfl)
  all_goals
    simp only [Reg.indexOk, Bool.and_eq_true, decide_eq_true_eq] at hok
    rw [Reg.addr, decodeAddr_addrOf (by omega) (by omega) (by omega) (by omega), decodeParts]
    simp (disch := omega) only [decodeStw.eq_def, if_pos, if_neg, Nat.add_sub_cancel_left,
      if_true, and_self]
    try (congr 1 <;> omega)

theorem decodeAddr_addr_lne {r : Reg} (hok : r.indexOk = true) (hlo : 47 < r.ctorIdx) (hhi : r.ctorIdx < 61) :
    decodeAddr r.addr = some r := by
  cases r
  all_goals
    try exact absurd hlo (not_lt_of_ble rfl)
    try exact absurd hhi (not_lt_of_ble rfl)
  all_goals
    simp only [Reg.indexOk, Bool.and_eq_true, decide_eq_true_eq] at hok
    rw [Reg.addr, decodeAddr_addrOf (by omega) (by omega) (by omega) (by omega), decodeParts]
    simp (disch := omega) only [decodeLne.eq_def, if_pos, if_neg, strided_mod, strided_div,
      Option.some.injEq, if_true, and_self]
    try (congr 1 <;> omega)

theorem decodeAddr_addr_prt {r : Reg} (hok : r.indexOk = true) (hlo : 60 < r.ctorIdx) (hhi : r.ctorIdx < 71) :
    decodeAddr r.addr = some r := by
  cases r
  all_goals
    try exact absurd hlo (not_lt_of_ble rfl)
    try exact absurd hhi (not_lt_of_ble rfl)
  all_goals
    simp only [Reg.indexOk, Bool.and_eq_true, decide_eq_true_eq] at hok
    rw [Reg.addr, decodeAddr_addrOf (by omega) (by omega) (by omega) (by omega), decodeParts]
    simp (disch := omega) only [decodePrt.eq_def, if_pos, if_neg, strided_mod, strided_div,
      Option.some.injEq, if_true, and_self]
    try (congr 1 <;> omega)

theorem decodeAddr_addr_pipFwd {r : Reg} (hok : r.indexOk = true) (hlo : 70 < r.ctorIdx) (hhi : r.ctorIdx < 97) :
    decodeAddr r.addr = some r := by
  cases r
  all_goals
    try exact absurd hlo (not_lt_of_ble rfl)
    try exact absurd hhi (not_lt_of_ble rfl)
  all_goals
    simp only [Reg.indexOk, Bool.and_eq_true, decide_eq_true_eq] at hok
    rw [Reg.addr, decodeAddr_addrOf (by omega) (by omega) (by omega) (by omega), decodeParts]
    simp (disch := omega) only [decodePip.eq_def, decodeFwd.eq_def, if_pos, if_neg, strided_mod, strided_div,
      strided_mod₀, strided_div₀, Nat.add_sub_cancel_left, Option.some.injEq, if_true, and_self]
    try (congr 1 <;> omega)

theorem decodeAddr_addr_swc {r : Reg} (hok : r.indexOk = true) (hlo : 96 < r.ctorIdx) (hhi : r.ctorIdx < 113) :
    decodeAddr r.addr = some r := by
  cases r
  all_goals
    try exact absurd hlo (not_lt_of_ble rfl)
    try exact absurd hhi (not_lt_of_ble rfl)
  all_goals
    simp only [Reg.indexOk, Bool.and_eq_true, decide_eq_true_eq] at hok
    rw [Reg.addr, decodeAddr_addrOf (by omega) (by omega) (by omega) (by omega), decodeParts]
    simp (disch := omega) only [decodeSwc.eq_def, if_pos, if_neg, strided_mod, strided_div,
      strided_mod₀, strided_div₀, Nat.add_sub_cancel_left, Option.some.injEq, if_true, and_self]
    try (congr 1 <;> omega)

theorem decodeAddr_addr_timSaffron {r : Reg} (hok : r.indexOk = true) (hlo : 112 < r.ctorIdx) (hhi : r.ctorIdx < 146) :
    decodeAddr r.addr = some r := by
  cases r
  all_goals
    try exact absurd hlo (not_lt_of_ble rfl)
    try exact absurd hhi (not_lt_of_ble rfl)
  all_goals
    simp only [Reg.indexOk, Bool.and_eq_true, decide_eq_true_eq] at hok
    rw [Reg.addr, decodeAddr_addrOf (by omega) (by omega) (by omega) (by omega), decodeParts]
    simp (disch := omega) only [decodeTim.eq_def, if_pos, if_neg,
      strided_mod₀, strided_div₀, Nat.add_sub_cancel_left, Option.some.injEq, if_true]
    try (congr 1 <;> omega)

theorem decodeAddr_addr_timReference {r : Reg} (hok : r.indexOk = true) (hlo : 145 < r.ctorIdx) (hhi : r.ctorIdx < 174) :
    decodeAddr r.addr = some r := by
  cases r
  all_goals
    try exact absurd hlo (not_lt_of_ble rfl)
    try exact absurd hhi (not_lt_of_ble rfl)
  all_goals
    simp only [Reg.indexOk, Bool.and_eq_true, decide_eq_true_eq] at hok
    rw [Reg.addr, decodeAddr_addrOf (by omega) (by omega) (by omega) (by omega), decodeParts]
    simp (disch := omega) only [decodeTim.eq_def, if_pos, if_neg,
      strided_mod₀, strided_div₀, Nat.add_sub_cancel_left, Option.some.injEq, if_true]
    try (congr 1 <;> omega)

theorem decodeAddr_addr_hlt {r : Reg} (hok : r.indexOk = true) (hlo : 173 < r.ctorIdx) (hhi : r.ctorIdx < 198) :
    decodeAddr r.addr = some r := by
  cases r
  all_goals
    try exact absurd hlo (not_lt_of_ble rfl)
    try exact absurd hhi (not_lt_of_ble rfl)
  all_goals
    simp only [Reg.indexOk, Bool.and_eq_true, decide_eq_true_eq] at hok
    rw [Reg.addr, decodeAddr_addrOf (by omega) (by omega) (by omega) (by omega), decodeParts]
    simp (disch := omega) only [decodeHlt.eq_def, if_pos, if_neg,
      strided_mod₀, strided_div₀, Nat.add_sub_cancel_left, Option.some.injEq, if_true]
    try (congr 1 <;> omega)

/-- Every register of the map but a vacant BLKCTL decodes from its own address. -/
theorem decodeAddr_addr {r : Reg} (hok : r.indexOk = true)
    (hblk : ∀ d w b, r = .BLKCTL d w b → blockPopulated d w b = true) : decodeAddr r.addr = some r := by
  rcases Nat.lt_or_ge r.ctorIdx 1 with h0 | h0
  · cases r
    case BLKCTL d w b =>
      simp only [Reg.indexOk, Bool.and_eq_true, decide_eq_true_eq] at hok
      rw [Reg.addr, decodeAddr_addrOf (by omega) (by omega) (by omega) (by omega)]
      simp [decodeParts, hblk d w b rfl]
    all_goals exact absurd h0 (not_lt_of_ble rfl)
  rcases Nat.lt_or_ge r.ctorIdx 25 with h1 | h1
  · exact decodeAddr_addr_hst hok h0 h1
  rcases Nat.lt_or_ge r.ctorIdx 48 with h2 | h2
  · exact decodeAddr_addr_stw hok h1 h2
  rcases Nat.lt_or_ge r.ctorIdx 61 with h3 | h3
  · exact decodeAddr_addr_lne hok h2 h3
  rcases Nat.lt_or_ge r.ctorIdx 71 with h4 | h4
  · exact decodeAddr_addr_prt hok h3 h4
  rcases Nat.lt_or_ge r.ctorIdx 97 with h5 | h5
  · exact decodeAddr_addr_pipFwd hok h4 h5
  rcases Nat.lt_or_ge r.ctorIdx 113 with h6 | h6
  · exact decodeAddr_addr_swc hok h5 h6
  rcases Nat.lt_or_ge r.ctorIdx 146 with h7 | h7
  · exact decodeAddr_addr_timSaffron hok h6 h7
  rcases Nat.lt_or_ge r.ctorIdx 174 with h8 | h8
  · exact decodeAddr_addr_timReference hok h7 h8
  exact decodeAddr_addr_hlt hok h8 (by cases r <;> exact Nat.le_of_ble_eq_true rfl)

/-- Settles O4: `decodeAddr_addr` one way, `decodeAddr_liesAt` the other; together they make the map injective. -/
theorem registerMapDecodes : Obligations.RegisterMapDecodes := by
  unfold Obligations.RegisterMapDecodes
  refine ⟨fun r hok hblk => decodeAddr_addr hok hblk, fun a r h => decodeAddr_liesAt h, fun q r hq hr h => ?_⟩
  rw [h, hr] at hq
  exact (Option.some.inj hq).symm

/-- Register 0xFF of a block holds a BLKCTL alone. -/
theorem addr_ne_addr_BLKCTL {r : Reg} {d w b : Nat} (hr : r.indexOk = true) (hn : ∀ d w b, r ≠ .BLKCTL d w b)
    (hb : (Reg.BLKCTL d w b).indexOk = true) : r.addr ≠ (Reg.BLKCTL d w b).addr := by
  intro h
  have hdec := decodeAddr_addr hr fun d w b hd => absurd hd (hn d w b)
  simp only [Reg.indexOk, Bool.and_eq_true, decide_eq_true_eq] at hb
  rw [h, addr_BLKCTL, decodeAddr_addrOf (by omega) (by omega) (by omega) (by omega)] at hdec
  unfold decodeParts at hdec
  rw [if_pos rfl] at hdec
  split at hdec
  · exact hn _ _ _ (Option.some.inj hdec).symm
  · cases hdec

theorem addr_BLKCTL_injective {d w b d' w' b' : Nat} (h : (Reg.BLKCTL d w b).indexOk = true)
    (h' : (Reg.BLKCTL d' w' b').indexOk = true) (ha : (Reg.BLKCTL d w b).addr = (Reg.BLKCTL d' w' b').addr) :
    Reg.BLKCTL d w b = Reg.BLKCTL d' w' b' := by
  simp only [Reg.indexOk, Bool.and_eq_true, decide_eq_true_eq] at h h'
  simp only [Reg.addr, addrOf] at ha
  rw [show d = d' by omega, show w = w' by omega, show b = b' by omega]

/-- Two registers with valid indices share no address. -/
theorem addr_injective {q r : Reg} (hq : q.indexOk = true) (hr : r.indexOk = true) (h : q.addr = r.addr) : q = r := by
  by_cases hqb : ∃ d w b, q = .BLKCTL d w b <;> by_cases hrb : ∃ d w b, r = .BLKCTL d w b
  · obtain ⟨_, _, _, rfl⟩ := hqb
    obtain ⟨_, _, _, rfl⟩ := hrb
    exact addr_BLKCTL_injective hq hr h
  · obtain ⟨_, _, _, rfl⟩ := hqb
    exact absurd h.symm (addr_ne_addr_BLKCTL hr (fun d w b e => hrb ⟨d, w, b, e⟩) hq)
  · obtain ⟨_, _, _, rfl⟩ := hrb
    exact absurd h (addr_ne_addr_BLKCTL hq (fun d w b e => hqb ⟨d, w, b, e⟩) hr)
  · have hdq := decodeAddr_addr hq fun d w b e => absurd ⟨d, w, b, e⟩ hqb
    have hdr := decodeAddr_addr hr fun d w b e => absurd ⟨d, w, b, e⟩ hrb
    rw [h, hdr] at hdq
    exact (Option.some.inj hdq).symm

theorem addr_ne {q r : Reg} (hq : q.indexOk = true) (hr : r.indexOk = true) (h : q ≠ r) : q.addr ≠ r.addr :=
  fun ha => h (addr_injective hq hr ha)

/-! ## Counter words (R485) -/

/-- Wards 16 and above of HLT hold counter words in registers 0 to 127 of a block, and nothing up to its BLKCTL. -/
theorem decodeParts_hlt_vacant {w b r : Nat} (hw : 16 ≤ w) (hw' : w < 64) (hr : 0x80 ≤ r) (hr' : r ≤ 0xFE) :
    decodeParts 8 w b r = none := by
  rw [decodeParts, if_neg (by omega)]
  simp (disch := omega) only [decodeHlt.eq_def, if_neg, if_pos]

/-- Settles O60: the address is `addrOf` of the counter's ward, block and number, and `decodeAddr_addr` reads it back. -/
theorem counterWordsLieWhereTheyShould : Obligations.CounterWordsLieWhereTheyShould := by
  unfold Obligations.CounterWordsLieWhereTheyShould
  refine ⟨fun id hid => ?_, fun w b r hw hw' hb hr hr' => ?_, fun w b hw hw' hb => ?_, fun s id h => ?_, fun id h => ?_⟩
  · have hdec : decodeAddr (Reg.CNT id).addr = some (.CNT id) :=
      decodeAddr_addr (by simpa [Reg.indexOk] using hid) fun _ _ _ h => nomatch h
    refine ⟨?_, ?_, ?_, ?_, ?_, hdec⟩ <;> simp only [Reg.addr, addrOf] <;> omega
  · rw [Nat.mul_comm 4 r]
    exact (decodeAddr_addrOf (by decide) hw' hb (by omega)).trans (decodeParts_hlt_vacant hw hw' hr hr')
  · refine (decodeAddr_addrOf (d := 8) (r := 255) (by decide) hw' hb (by decide)).trans ?_
    have hp : blockPopulated 8 w b = true := by simp [blockPopulated]; omega
    simp [decodeParts, hp]
  · simp [State.sample, h]
  · simp [cntAssigned]
    omega

end Sys2Proof
end

section
/-! PROOF. The step, the tick on an empty queue, and the machine at reset. -/
namespace Sys2Proof

open Sys2Proof.Machine

theorem step_cons {s : State} {c : Instr} {rest : List Instr} (h : s.pending = c :: rest) :
    step s = exec c { s with pending := rest } := by
  rw [step, h]

theorem step_nil {s : State} (h : s.pending = []) : step s = .next s.saffronTick := by
  rw [step, h]

/-- Settles O1, both ways of saying it by `step_cons`. -/
theorem stepRunsFrontCommand : Obligations.StepRunsFrontCommand :=
  ⟨fun _ _ _ h => step_cons h, fun _ _ => step_cons rfl⟩

/-! ## The tick (R319, R349) -/

theorem saffronTick_stopped {s : State} (h : s.tim.ticking = false) : s.saffronTick = s := by
  simp [State.saffronTick, h]

/-- Without an active engine T follows the unsteered tick. -/
theorem saffronTick_unsteered {s : State} (ht : s.tim.ticking = true) (he : s.engineOn = false) :
    s.saffronTick = { s with tim := { s.tim with t := s.tim.t + BitVec.ofNat 96 (2 ^ 32), tick := s.tim.tick + 1 } } := by
  simp [State.saffronTick, ht, he]

/-- T advanced by INC, and the slew by its part. -/
def steered (s : State) : State :=
  { s with tim := { s.tim with t := s.tim.t + BitVec.ofNat 96 s.inc.toNat, tick := s.tim.tick + 1, slew := s.tim.slew - s.slewPart } }

theorem engineOn_ticking {s : State} (he : s.engineOn = true) : s.tim.ticking = true := by
  simp only [State.engineOn, Bool.and_eq_true] at he
  exact he.1

theorem saffronTick_steered {s : State} (he : s.engineOn = true) : s.saffronTick = (steered s).slewEnd := by
  simp [State.saffronTick, engineOn_ticking he, he, steered]

theorem slewEnd_tim (s : State) : s.slewEnd.tim = s.tim := by
  unfold State.slewEnd
  split <;> rfl

/-- SLEWING alone may change at the end of a slew. -/
theorem slewEnd_writes (s : State) : Writes [.TIM_SAF_STATUS] [] s s.slewEnd := by
  unfold State.slewEnd
  split
  · exact Writes.refl.setFld (by simp) _ _
  · exact .refl

theorem KeepsRegs.of_eq {rs : List Reg} {s t : State} (hr : t.regs = s.regs) (hm : t.masked = s.masked) :
    KeepsRegs rs s t :=
  fun q _ => ⟨by rw [State.get, hr, State.get], by rw [State.resetBits, hm, State.resetBits]⟩

theorem saffronTick_keepsRegs (s : State) : KeepsRegs [.TIM_SAF_STATUS] s s.saffronTick := by
  by_cases ht : s.tim.ticking = true
  · by_cases he : s.engineOn = true
    · rw [saffronTick_steered he]
      exact (slewEnd_writes (steered s)).regs
    · rw [saffronTick_unsteered ht (Bool.eq_false_iff.mpr he)]
      exact .of_eq rfl rfl
  · rw [saffronTick_stopped (Bool.eq_false_iff.mpr ht)]
    exact .of_eq rfl rfl

/-- Nothing but registers, T, the tick count and what remains of a slew. -/
def TicksOnly (s t : State) : Prop :=
  t = { s with regs := t.regs, masked := t.masked, tim := { s.tim with t := t.tim.t, tick := t.tim.tick, slew := t.tim.slew } }

theorem ticksOnly_tim (s : State) (t : Time) (tick : Nat) (slew : Int) :
    TicksOnly s { s with tim := { s.tim with t := t, tick := tick, slew := slew } } := rfl

theorem TicksOnly.setFld {s u : State} (h : TicksOnly s u) (r : Reg) (f : Fld) (v : Nat) : TicksOnly s (u.setFld r f v) := by
  unfold TicksOnly at *
  rw [State.setFld, h]

theorem saffronTick_rest (s : State) : TicksOnly s s.saffronTick := by
  by_cases ht : s.tim.ticking = true
  · by_cases he : s.engineOn = true
    · rw [saffronTick_steered he, State.slewEnd]
      split
      · exact (ticksOnly_tim s _ _ _).setFld _ _ _
      · exact ticksOnly_tim s _ _ _
    · rw [saffronTick_unsteered ht (Bool.eq_false_iff.mpr he)]
      exact ticksOnly_tim s _ _ _
  · rw [saffronTick_stopped (Bool.eq_false_iff.mpr ht)]
    exact ticksOnly_tim s _ _ _

/-- Settles O2, by the three cases of the tick. -/
theorem emptyQueueTicks : Obligations.EmptyQueueTicks := by
  intro s hq _
  refine ⟨_, step_nil hq, saffronTick_stopped, fun he => ?_, fun ht he => ?_, saffronTick_keepsRegs s, saffronTick_rest s⟩
  · rw [saffronTick_steered he, slewEnd_tim]
    exact ⟨rfl, rfl⟩
  · rw [saffronTick_unsteered ht he]
    exact ⟨rfl, rfl⟩

/-! ## Reset (R11, R507) -/

theorem fresh_get (f : Fuses) (r : Reg) : (State.fresh f).get r = r.resetWord := rfl

theorem fresh_stGet (f : Fuses) (e : Nat) (r : Reg) : (State.fresh f).stGet e r = r.resetWord := by
  unfold State.stGet State.bank
  split <;> rfl

theorem fresh_storesCanonical (f : Fuses) : StoresCanonical (State.fresh f) :=
  ⟨rfl, rfl, rfl, rfl, rfl, rfl, rfl⟩

theorem fresh_framesInRange (f : Fuses) : FramesInRange (State.fresh f) := by
  constructor <;> intro kv h <;> cases h

/-- Settles O6: every store of `State.fresh` is empty, so that every register reads its Reset value. -/
theorem resetMachine : Obligations.ResetMachine := by
  unfold Obligations.ResetMachine
  refine ⟨fresh_storesCanonical _, fresh_framesInRange _, fresh_get _, fresh_stGet _, ?_, ?_, ?_, rfl, rfl, rfl, rfl, rfl, rfl,
    fun _ => rfl⟩ <;> decide

end Sys2Proof
end

section
/-! PROOF. What every operation of the model keeps: the queue of waiting commands, the canonical form of the stores, and
frames and replicas that name existing ports, rings, classes and queues. `Evolves s t` says it of two states; each operation of
the shared families has one lemma, which says that the state after it has evolved as the one before it. -/
namespace Sys2Proof

open Sys2Proof.Machine

set_option Elab.async false

/-- The frame names an ingress port or a transmit ring, and a class (R23, R26, R459). -/
structure FrameInRange (f : Frame) : Prop where
  port : f.port < 1024
  ring : f.fromHost = true → f.port < 32
  cls : f.cls < 16

/-- `t` waits for the same commands as `s`, and its stores and frames are as they should be where those of `s` are. -/
structure Evolves (s t : State) : Prop where
  pending : t.pending = s.pending
  stores : StoresCanonical s → StoresCanonical t
  range : FramesInRange s → FramesInRange t

/-- The answer is a next state that `s` has evolved to. -/
def Steps (s : State) (o : Answer) : Prop := ∃ t, o = .next t ∧ Evolves s t

/-- All that `Evolves` speaks of. -/
structure Kept where
  regs : SMap Word
  st0 : SMap Word
  st1 : SMap Word
  cnt : SMap Cnt
  frames : SMap Frame
  reps : SMap Replica
  sessions : SMap Session
  pending : List Instr

def kept (s : State) : Kept := ⟨s.regs, s.st0, s.st1, s.cnt, s.frames, s.reps, s.sessions, s.pending⟩

/-! ## Sparse stores under maps -/

theorem skeysFrom_map {α β : Type} (m : SMap α) (l : Option Nat) (g : Nat × α → Nat × β) (hg : ∀ kv, (g kv).1 = kv.1)
    (hm : skeysFrom l m = true) : skeysFrom l (m.map g) = true := by
  induction m generalizing l with
  | nil => rfl
  | cons e m ih =>
    obtain ⟨k, v⟩ := e
    rw [skeysFrom_cons] at hm
    obtain ⟨hk, hm⟩ := hm
    rw [List.map_cons, show g (k, v) = (k, (g (k, v)).2) from Prod.ext (hg _) rfl, skeysFrom_cons]
    exact ⟨hk, ih _ hm⟩

theorem mem_of_sfind {α : Type} {m : SMap α} {k : Nat} {v : α} (h : sfind m k = some v) : (k, v) ∈ m := by
  induction m with
  | nil => cases h
  | cons e m ih =>
    obtain ⟨j, w⟩ := e
    simp only [sfind] at h
    split at h
    · next hj => subst hj; cases h; exact List.mem_cons_self ..
    · exact List.mem_cons_of_mem _ (ih h)

theorem mem_sinsert {α : Type} {m : SMap α} {k : Nat} {v : α} {e : Nat × α} (h : e ∈ sinsert m k v) : e = (k, v) ∨ e ∈ m := by
  induction m with
  | nil => simpa [sinsert] using h
  | cons x m ih =>
    obtain ⟨j, w⟩ := x
    simp only [sinsert] at h
    split at h
    · exact (List.mem_cons.mp h)
    · split at h
      · exact (List.mem_cons.mp h).imp id (List.mem_cons_of_mem _)
      · rcases List.mem_cons.mp h with h | h
        · exact .inr (h ▸ List.mem_cons_self ..)
        · exact (ih h).imp id (List.mem_cons_of_mem _)

theorem mem_serase {α : Type} {m : SMap α} {k : Nat} {e : Nat × α} (h : e ∈ serase m k) : e ∈ m := by
  induction m with
  | nil => exact h
  | cons x m ih =>
    obtain ⟨j, w⟩ := x
    simp only [serase] at h
    split at h
    · exact List.mem_cons_of_mem _ h
    · rcases List.mem_cons.mp h with h | h
      · exact h ▸ List.mem_cons_self ..
      · exact List.mem_cons_of_mem _ (ih h)

theorem FramesInRange.frame {s : State} (h : FramesInRange s) {kv : Nat × Frame} (hm : kv ∈ s.frames) : FrameInRange kv.2 :=
  ⟨h.ports _ hm, h.rings _ hm, h.classes _ hm⟩

theorem framesInRange_of {s : State} (hf : ∀ kv ∈ s.frames, FrameInRange kv.2) (hr : ∀ kv ∈ s.reps, kv.2.q < 16384) :
    FramesInRange s :=
  ⟨fun kv h => (hf kv h).port, fun kv h => (hf kv h).ring, fun kv h => (hf kv h).cls, hr⟩

namespace Evolves

variable {s u : State}

theorem refl : Evolves s s := ⟨rfl, id, id⟩

theorem trans {v : State} (h : Evolves s u) (h' : Evolves u v) : Evolves s v :=
  ⟨h'.pending.trans h.pending, h'.stores ∘ h.stores, h'.range ∘ h.range⟩

/-- A change of what `Evolves` does not speak of. -/
theorem of_kept {v : State} (h : Evolves s u) (hv : kept v = kept u := by rfl) : Evolves s v := by
  simp only [kept, Kept.mk.injEq] at hv
  obtain ⟨h1, h2, h3, h4, h5, h6, h7, h8⟩ := hv
  exact ⟨h8.trans h.pending, fun hs => by obtain ⟨a, b, c, d, e, f, g⟩ := h.stores hs; constructor <;> simp only [*],
    fun hr => by obtain ⟨a, b, c, d⟩ := h.range hr; constructor <;> simpa only [*]⟩

theorem ite {c : Prop} [Decidable c] {a b : State} (ha : Evolves s a) (hb : Evolves s b) : Evolves s (if c then a else b) := by
  split
  · exact ha
  · exact hb

theorem foldl {α : Type} {l : List α} {f : State → α → State} (h : Evolves s u) (hf : ∀ v x, Evolves s v → Evolves s (f v x)) :
    Evolves s (l.foldl f u) := foldl_keeps l f h fun v x _ hv => hf v x hv

/-! ### The stores -/

theorem regs {v : State} (h : Evolves s u) (hk : kept v = { kept u with regs := v.regs })
    (hr : skeysFrom none u.regs = true → skeysFrom none v.regs = true) : Evolves s v := by
  simp only [kept, Kept.mk.injEq, true_and] at hk
  obtain ⟨h2, h3, h4, h5, h6, h7, h8⟩ := hk
  exact ⟨h8.trans h.pending, fun hs => by obtain ⟨a, b, c, d, e, f, g⟩ := h.stores hs; exact ⟨hr a, h2 ▸ b, h3 ▸ c, h4 ▸ d, h5 ▸ e, h6 ▸ f, h7 ▸ g⟩,
    fun hr => by obtain ⟨a, b, c, d⟩ := h.range hr; constructor <;> simpa only [*]⟩

theorem put (h : Evolves s u) (r : Reg) (v : Word) : Evolves s (u.put r v) := h.regs rfl (skeysFrom_sput _ _ _ _)

theorem setFld (h : Evolves s u) (r : Reg) (f : Fld) (v : Nat) : Evolves s (u.setFld r f v) := h.regs rfl (skeysFrom_sput _ _ _ _)

theorem staged {v : State} (h : Evolves s u) (hk : kept v = { kept u with st0 := v.st0, st1 := v.st1 })
    (hb : skeysFrom none u.st0 = true → skeysFrom none u.st1 = true → skeysFrom none v.st0 = true ∧ skeysFrom none v.st1 = true) :
    Evolves s v := by
  simp only [kept, Kept.mk.injEq, true_and] at hk
  obtain ⟨h1, h4, h5, h6, h7, h8⟩ := hk
  exact ⟨h8.trans h.pending, fun hs => by
      obtain ⟨a, b, c, d, e, f, g⟩ := h.stores hs
      exact ⟨h1 ▸ a, (hb b c).1, (hb b c).2, h4 ▸ d, h5 ▸ e, h6 ▸ f, h7 ▸ g⟩,
    fun hr => by obtain ⟨a, b, c, d⟩ := h.range hr; constructor <;> simpa only [*]⟩

theorem stPut (h : Evolves s u) (e : Nat) (r : Reg) (v : Word) : Evolves s (u.stPut e r v) := by
  unfold State.stPut
  split
  · exact h.staged rfl fun h0 h1 => ⟨skeysFrom_sput _ _ _ _ h0, h1⟩
  · exact h.staged rfl fun h0 h1 => ⟨h0, skeysFrom_sput _ _ _ _ h1⟩

theorem counters {v : State} (h : Evolves s u) (hk : kept v = { kept u with cnt := v.cnt })
    (hc : skeysFrom none u.cnt = true → skeysFrom none v.cnt = true) : Evolves s v := by
  simp only [kept, Kept.mk.injEq, true_and] at hk
  obtain ⟨h1, h2, h3, h5, h6, h7, h8⟩ := hk
  exact ⟨h8.trans h.pending, fun hs => by
      obtain ⟨a, b, c, d, e, f, g⟩ := h.stores hs
      exact ⟨h1 ▸ a, h2 ▸ b, h3 ▸ c, hc d, h5 ▸ e, h6 ▸ f, h7 ▸ g⟩,
    fun hr => by obtain ⟨a, b, c, d⟩ := h.range hr; constructor <;> simpa only [*]⟩

theorem count (h : Evolves s u) (id : Nat) : Evolves s (u.count id) := h.counters rfl (skeysFrom_sput _ _ _ _)

theorem countN (h : Evolves s u) (id n : Nat) : Evolves s (u.countN id n) := by
  induction n generalizing u with
  | zero => exact h
  | succ n ih => exact ih (h.count id)

theorem clearCounters (h : Evolves s u) (p : Nat → Bool) : Evolves s (u.clearCounters p) :=
  h.counters rfl (skeysFrom_filter _ _ _)

theorem frames {v : State} (h : Evolves s u) (hk : kept v = { kept u with frames := v.frames })
    (hc : skeysFrom none u.frames = true → skeysFrom none v.frames = true)
    (hf : FramesInRange s → ∀ kv ∈ v.frames, FrameInRange kv.2) : Evolves s v := by
  simp only [kept, Kept.mk.injEq, true_and] at hk
  obtain ⟨h1, h2, h3, h4, h6, h7, h8⟩ := hk
  exact ⟨h8.trans h.pending, fun hs => by
      obtain ⟨a, b, c, d, e, f, g⟩ := h.stores hs
      exact ⟨h1 ▸ a, h2 ▸ b, h3 ▸ c, h4 ▸ d, hc e, h6 ▸ f, h7 ▸ g⟩,
    fun hr => framesInRange_of (hf hr) (h6 ▸ (h.range hr).queues)⟩

theorem replicas {v : State} (h : Evolves s u) (hk : kept v = { kept u with reps := v.reps })
    (hc : skeysFrom none u.reps = true → skeysFrom none v.reps = true)
    (hq : FramesInRange s → ∀ kv ∈ v.reps, kv.2.q < 16384) : Evolves s v := by
  simp only [kept, Kept.mk.injEq, true_and] at hk
  obtain ⟨h1, h2, h3, h4, h5, h7, h8⟩ := hk
  exact ⟨h8.trans h.pending, fun hs => by
      obtain ⟨a, b, c, d, e, f, g⟩ := h.stores hs
      exact ⟨h1 ▸ a, h2 ▸ b, h3 ▸ c, h4 ▸ d, h5 ▸ e, hc f, h7 ▸ g⟩,
    fun hr => framesInRange_of (fun kv hm => (h.range hr).frame (h5 ▸ hm)) (hq hr)⟩

theorem sessions {v : State} (h : Evolves s u) (hk : kept v = { kept u with sessions := v.sessions })
    (hc : skeysFrom none u.sessions = true → skeysFrom none v.sessions = true) : Evolves s v := by
  simp only [kept, Kept.mk.injEq, true_and] at hk
  obtain ⟨h1, h2, h3, h4, h5, h6, h8⟩ := hk
  exact ⟨h8.trans h.pending, fun hs => by
      obtain ⟨a, b, c, d, e, f, g⟩ := h.stores hs
      exact ⟨h1 ▸ a, h2 ▸ b, h3 ▸ c, h4 ▸ d, h5 ▸ e, h6 ▸ f, hc g⟩,
    fun hr => by obtain ⟨a, b, c, d⟩ := h.range hr; constructor <;> simpa only [*]⟩

/-! ### Frames and replicas that the device holds -/

theorem frame (h : Evolves s u) {kv : Nat × Frame} (hm : kv ∈ u.frames) (hr : FramesInRange s) : FrameInRange kv.2 :=
  (h.range hr).frame hm

theorem frame_of_find (h : Evolves s u) {id : Nat} {f : Frame} (hf : u.frame id = some f) (hr : FramesInRange s) :
    FrameInRange f := h.frame (mem_of_sfind hf) hr

theorem rep_of_find (h : Evolves s u) {k : Nat} {r : Replica} (hf : u.rep k = some r) (hr : FramesInRange s) : r.q < 16384 :=
  (h.range hr).queues _ (mem_of_sfind hf)

theorem putFrame (h : Evolves s u) (id : Nat) {f : Frame} (hf : FramesInRange s → FrameInRange f) : Evolves s (u.putFrame id f) :=
  h.frames rfl (skeysFrom_sinsert _ _ _ _ (fun _ hx => nomatch hx)) fun hr kv hm =>
    (mem_sinsert hm).elim (fun e => e ▸ hf hr) fun hm => h.frame hm hr

theorem eraseFrame (h : Evolves s u) (id : Nat) : Evolves s { u with frames := serase u.frames id } :=
  h.frames rfl (skeysFrom_serase _ _ _) fun hr _ hm => h.frame (mem_serase hm) hr

theorem mapFrames (h : Evolves s u) {g : Nat × Frame → Nat × Frame} (hg : ∀ kv, (g kv).1 = kv.1)
    (hf : ∀ kv, FrameInRange kv.2 → FrameInRange (g kv).2) : Evolves s { u with frames := u.frames.map g } :=
  h.frames rfl (skeysFrom_map _ _ _ hg) fun hr kv hm => by
    obtain ⟨x, hx, rfl⟩ := List.mem_map.mp hm
    exact hf _ (h.frame hx hr)

theorem updFrame (h : Evolves s u) (id : Nat) {g : Frame → Frame} (hg : ∀ f, FrameInRange f → FrameInRange (g f)) :
    Evolves s (u.updFrame id g) := by
  unfold State.updFrame
  split
  · next f hf => exact h.putFrame id fun hr => hg f (h.frame_of_find hf hr)
  · exact h

theorem putRep (h : Evolves s u) (k : Nat) {r : Replica} (hr : FramesInRange s → r.q < 16384) : Evolves s (u.putRep k r) :=
  h.replicas rfl (skeysFrom_sinsert _ _ _ _ (fun _ hx => nomatch hx)) fun hs kv hm =>
    (mem_sinsert hm).elim (fun e => e ▸ hr hs) fun hm => (h.range hs).queues kv hm

theorem eraseRep (h : Evolves s u) (k : Nat) : Evolves s { u with reps := serase u.reps k } :=
  h.replicas rfl (skeysFrom_serase _ _ _) fun hr _ hm => (h.range hr).queues _ (mem_serase hm)

theorem mapReps (h : Evolves s u) {g : Nat × Replica → Nat × Replica} (hg : ∀ kv, (g kv).1 = kv.1)
    (hq : ∀ kv, (g kv).2.q = kv.2.q) : Evolves s { u with reps := u.reps.map g } :=
  h.replicas rfl (skeysFrom_map _ _ _ hg) fun hr kv hm => by
    obtain ⟨x, hx, rfl⟩ := List.mem_map.mp hm
    exact hq x ▸ (h.range hr).queues x hx

theorem updRep (h : Evolves s u) (k : Nat) {g : Replica → Replica} (hg : ∀ r, (g r).q = r.q) : Evolves s (u.updRep k g) := by
  unfold State.updRep
  split
  · next r hf => exact h.putRep k fun hr => hg r ▸ h.rep_of_find hf hr
  · exact h

/-! ### Signalling (R443 to R446, R472 to R478) -/

theorem emit (h : Evolves s u) (o : Output) : Evolves s (u.emit o) := h.of_kept

theorem noteImage (h : Evolves s u) (r : Reg) : Evolves s (u.noteImage r) := by
  unfold State.noteImage
  split
  · exact .ite h.of_kept h
  · exact h

theorem irqBind (h : Evolves s u) (i : Nat) (t : Option Nat) : Evolves s (u.irqBind i t) := by
  unfold State.irqBind
  split <;> exact (h.setFld ..).setFld ..

theorem notify (h : Evolves s u) (t : Nat) : Evolves s (u.notify t) := by
  unfold State.notify State.msixSend
  exact .ite h (.ite h.of_kept (.emit h.of_kept _))

theorem irqBindOne (h : Evolves s u) (i : Nat) : Evolves s (u.irqBindOne i) := by
  unfold State.irqBindOne
  refine .ite h ?_
  split
  · exact h
  · exact .notify (.irqBind h.of_kept ..) _

theorem irqSettle (h : Evolves s u) : Evolves s u.irqSettle := by
  unfold State.irqSettle
  refine .foldl (.foldl h fun v i hv => ?_) fun v i hv => hv.irqBindOne i
  split
  · exact .ite hv (hv.irqBind ..)
  · exact hv

theorem irqEvent (h : Evolves s u) (i : Nat) : Evolves s (u.irqEvent i) := (Evolves.ite (h.setFld ..) h).irqSettle

theorem irqRise (h : Evolves s u) (i : Nat) (was : Bool) : Evolves s (u.irqRise i was) := .ite h.irqSettle (h.irqEvent i)

theorem logEntry (h : Evolves s u) (code i d : Nat) (b : Bool) : Evolves s (u.logEntry code i d b) := by
  unfold State.logEntry
  extract_lets head j w s1 s2 x s3
  have hw : ∀ k x v, Evolves s v → Evolves s (w k x v) := fun k x v hv => hv.put ..
  have h1 : Evolves s s1 := by
    repeat' apply hw
    exact h
  have h2 : Evolves s s2 := h1.put ..
  clear_value s2
  have h3 : Evolves s s3 := h2.of_kept
  exact .ite h3 (.ite (h3.irqEvent _) (.ite (h3.irqEvent _) h3))

theorem event (h : Evolves s u) (code i d : Nat) : Evolves s (u.event code i d) := by
  unfold State.event
  extract_lets v x w
  have h2 : Evolves s w := .ite ((h.count _).of_kept) (h.count _)
  split
  · exact .ite h2 (h2.logEntry ..)
  · exact h2.logEntry ..

theorem eventClear (h : Evolves s u) (code i : Nat) : Evolves s (u.eventClear code i) := by
  unfold State.eventClear
  exact .ite (.logEntry h.of_kept ..) h

theorem raise (h : Evolves s u) (code i d : Nat) : Evolves s (u.raise code i d) := .ite h (h.event ..)

theorem setUnit (h : Evolves s u) (k i : Nat) (x : UnitSt) : Evolves s (u.setUnit k i x) := h.of_kept
theorem putRing (h : Evolves s u) (x : Nat) (r : Ring) : Evolves s (u.putRing x r) := h.of_kept
theorem putRows (h : Evolves s u) (t i : Nat) (rs : List Row) : Evolves s (u.putRows t i rs) := h.of_kept
theorem rowWrite (h : Evolves s u) (t i f : Nat) (ws : List Word) : Evolves s (u.rowWrite t i f ws) := h.putRows ..
theorem rowClear (h : Evolves s u) (t i f : Nat) : Evolves s (u.rowClear t i f) := h.putRows ..
theorem rowsMerge (h : Evolves s u) (r c : Nat) : Evolves s (u.rowsMerge r c) := h.of_kept

/-! ### The exact-match table (R243 to R267) -/

theorem setCopyUp (h : Evolves s u) (c : Nat) (b : Bool) : Evolves s (u.setCopyUp c b) := h.setFld ..

theorem setCopy (h : Evolves s u) (c : Nat) (m : SMap FwdEntry) : Evolves s (u.setCopy c m) := .ite h.of_kept h.of_kept

theorem onServing (h : Evolves s u) (f : SMap FwdEntry → SMap FwdEntry) : Evolves s (u.onServing f) :=
  h.foldl fun _ _ hv => hv.setCopy ..

theorem putT1 (h : Evolves s u) (key : Nat) (w : T1Set) : Evolves s (u.putT1 key w) := h.of_kept
theorem t1Inval (h : Evolves s u) (key : Nat) : Evolves s (u.t1Inval key) := h.putT1 ..
theorem t1Clear (h : Evolves s u) : Evolves s u.t1Clear := h.of_kept
theorem setHit (h : Evolves s u) (b v : Nat) : Evolves s (u.setHit b v) := h.of_kept
theorem hitAll (h : Evolves s u) (m : SMap FwdEntry) : Evolves s (u.hitAll m) := h.of_kept

theorem hitOp (h : Evolves s u) (b : Nat) : Evolves s (u.hitOp b).1 := by
  unfold State.hitOp
  split
  · exact h
  · exact h.setHit ..

theorem changeKey (h : Evolves s u) (key : Nat) (g : FwdEntry → Option FwdEntry) : Evolves s (u.changeKey key g) :=
  .t1Inval (h.foldl fun _ _ hv => hv.setCopy ..) _

theorem landEntry (h : Evolves s u) (b : Nat) (e : FwdEntry) : Evolves s (u.landEntry b e) :=
  ((h.onServing _).setHit ..).t1Inval _

theorem beginMove (h : Evolves s u) (a c : Nat) : Evolves s (u.beginMove a c) := by
  unfold State.beginMove
  split
  · exact (((h.onServing _).setHit ..).t1Inval _).count _
  · exact h

theorem rehashNeeded (h : Evolves s u) : Evolves s u.rehashNeeded := (h.setFld ..).event ..

theorem insertRebuilt (h : Evolves s u) (e : FwdEntry) : Evolves s (u.insertRebuilt e) := by
  unfold State.insertRebuilt
  split
  · exact h
  · split
    · exact (h.setCopy ..).countN ..
    · exact .rehashNeeded h.of_kept

theorem insertEntry (h : Evolves s u) (e : FwdEntry) (commit : Bool) : Evolves s (u.insertEntry e commit).1 := by
  unfold State.insertEntry
  extract_lets m c
  split
  · exact (h.landEntry ..).insertRebuilt _
  · split
    · exact (h.landEntry ..).insertRebuilt _
    · split
      · exact h.rehashNeeded
      · exact (h.beginMove ..).of_kept
      · exact h

theorem insertAtOnce (h : Evolves s u) {e : FwdEntry} {v : State} (hv : u.insertAtOnce e = some v) : Evolves s v := by
  unfold State.insertAtOnce at hv
  split at hv
  · cases hv
  · cases hv
    exact (((h.foldl fun _ _ hw => hw.setCopy ..).setHit ..).t1Inval _).countN ..

theorem endMove (h : Evolves s u) (j : TuJob) : Evolves s (u.endMove j).1 := by
  unfold State.endMove
  extract_lets v
  have h1 : Evolves s v := h.onServing _
  split
  · exact (h1.beginMove ..).of_kept
  · exact ((h1.landEntry ..).insertRebuilt _).of_kept

theorem removeVersion (h : Evolves s u) (e : FwdEntry) : Evolves s (u.removeVersion e) := h.changeKey ..
theorem beginPass (h : Evolves s u) (aging : Bool) : Evolves s (u.beginPass aging) := h.of_kept
theorem flushStart (h : Evolves s u) : Evolves s u.flushStart := .ite (h.beginPass _) h

theorem flushAdd (h : Evolves s u) (p : Nat) : Evolves s (u.flushAdd p) :=
  .flushStart (.ite (.ite h h.of_kept) (.ite h h.of_kept))

theorem fwdMerge (h : Evolves s u) (keys : List Nat) (r c : Nat) : Evolves s (u.fwdMerge keys r c) :=
  h.foldl fun _ _ hv => hv.changeKey ..

/-! ### Frames, replicas and cells (R281 to R300) -/

theorem putPortSt (h : Evolves s u) (p : Nat) (x : PortSt) : Evolves s (u.putPortSt p x) := h.of_kept
theorem pauseDue (h : Evolves s u) (p m : Nat) (b : Bool) : Evolves s (u.pauseDue p m b) := h.putPortSt ..

theorem pauseTest (h : Evolves s u) (p i occ : Nat) : Evolves s (u.pauseTest p i occ) :=
  .ite (.ite ((h.setFld ..).pauseDue ..) h) (.ite ((h.setFld ..).pauseDue ..) h)

theorem pauseEval (h : Evolves s u) (p : Nat) : Evolves s (u.pauseEval p) := by
  unfold State.pauseEval
  refine .ite h ?_
  split
  · exact h.pauseTest ..
  · exact h.foldl fun v i hv => .ite (hv.pauseTest ..) hv
  · exact h

theorem endEpoch (h : Evolves s u) : Evolves s u.endEpoch := by
  unfold State.endEpoch
  extract_lets c r u1 u2
  have h1 : Evolves s u1 := h.setFld ..
  have h2 : Evolves s u2 :=
    .ite (h1.staged rfl fun h0 _ => ⟨h0, h0⟩) (h1.staged rfl fun _ h1 => ⟨h1, h1⟩)
  exact ((h2.rowsMerge ..).fwdMerge ..).of_kept

theorem checkEpoch (h : Evolves s u) : Evolves s u.checkEpoch := .ite h.endEpoch h
theorem setPark (h : Evolves s u) (p v : Nat) : Evolves s (u.setPark p v) := h.setFld ..
theorem putGate (h : Evolves s u) (p : Nat) (g : Gate) : Evolves s (u.putGate p g) := h.of_kept

theorem frameYields (h : Evolves s u) : Evolves s u.frameYields := by
  unfold State.frameYields
  refine foldl_keeps _ _ h fun v kv hm hv => ?_
  have hq : FramesInRange s → kv.2.q < 16384 := fun hr =>
    (h.range hr).queues kv (List.mem_of_mem_filter (List.mem_of_mem_filter hm))
  have hp : Evolves s (v.putRep kv.1 { kv.2 with yielded := true }) := hv.putRep _ hq
  exact .ite hv (.ite (.ite (hp.count _) hp) (.ite (hp.count _) hv))

theorem txDone (h : Evolves s u) (id : Nat) : Evolves s (u.txDone id) := h.of_kept

theorem frameGone (h : Evolves s u) (id : Nat) : Evolves s (u.frameGone id) := by
  unfold State.frameGone
  split
  · exact h
  · next f hf =>
    extract_lets u1 u2 u3 u4
    have h2 : Evolves s u2 := .ite ((h.txDone id).count _) (h.txDone id)
    have h3 : Evolves s u3 := .ite (h2.eraseFrame id) (h2.putFrame id fun hr =>
      let ⟨a, b, c⟩ := h.frame_of_find hf hr; ⟨a, b, c⟩)
    exact Evolves.checkEpoch (.ite h3 (h3.pauseEval _))

theorem checkGone (h : Evolves s u) (id : Nat) : Evolves s (u.checkGone id) := .ite (h.frameGone id) h

theorem release (h : Evolves s u) (k : Nat) : Evolves s (u.release k) := by
  unfold State.release
  split
  · exact h
  · extract_lets u1 u2 u3
    have h1 : Evolves s u1 := .ite h.frameYields h
    have h2 : Evolves s u2 := h1.eraseRep k
    exact Evolves.checkGone (.ite (h2.txDone _) h2) _

theorem dropFrame (h : Evolves s u) (id : Nat) : Evolves s (u.dropFrame id) := h.checkGone id
theorem countDrop (h : Evolves s u) (f : Frame) (c : Nat → Nat) : Evolves s (u.countDrop f c) := h.count _

theorem stompRep (h : Evolves s u) (k : Nat) : Evolves s (u.stompRep k) := by
  unfold State.stompRep
  split
  · exact h
  · exact ((h.emit _).count _).release k

theorem flushPort (h : Evolves s u) (p : Nat) : Evolves s (u.flushPort p) := by
  unfold State.flushPort
  extract_lets ks v
  have h1 : Evolves s v := h.foldl fun w k hw => (hw.count _).release k
  exact .ite (h1.flushAdd p) h1

theorem killReplicas (h : Evolves s u) (id : Nat) : Evolves s (u.killReplicas id) :=
  h.foldl fun v kv hv => .ite (hv.stompRep _) (hv.release _)

end Evolves

end Sys2Proof
end

section
/-! PROOF. What port and lane operations keep (R118 to R202). -/
namespace Sys2Proof

open Sys2Proof.Machine

set_option Elab.async false

namespace Steps

variable {s t : State}

theorem next (h : Evolves s t) : Steps s (.next t) := ⟨t, rfl, h⟩

end Steps

namespace Evolves

variable {s u : State}

/-! ### Ports -/

theorem queueLearn (h : Evolves s u) (key port : Nat) : Evolves s (u.queueLearn key port) :=
  .ite h.of_kept (.ite (h.count _) h.of_kept)

theorem tryLearn (h : Evolves s u) (id : Nat) : Evolves s (u.tryLearn id) := by
  unfold State.tryLearn
  split
  · next f hf =>
    split
    · refine .ite (.queueLearn (h.putFrame id fun hr => ?_) ..) h
      obtain ⟨hp, hg, hc⟩ := h.frame_of_find hf hr
      exact ⟨hp, hg, hc⟩
    · exact h
  · exact h

theorem setPortState (h : Evolves s u) (p v : Nat) : Evolves s (u.setPortState p v) := h.setFld ..

theorem parkStart (h : Evolves s u) (p : Nat) : Evolves s (u.parkStart p) := by
  unfold State.parkStart
  extract_lets x v
  have hv : Evolves s v := h.putPortSt ..
  exact .ite ((hv.flushPort p).setPark ..) (hv.setPark ..)

theorem stompPort (h : Evolves s u) (p : Nat) : Evolves s (u.stompPort p) := by
  unfold State.stompPort
  split
  · exact h.stompRep _
  · exact h

theorem clearPause (h : Evolves s u) (p : Nat) : Evolves s (u.clearPause p) := (h.put ..).putPortSt ..

theorem failReception (h : Evolves s u) (p : Nat) : Evolves s (u.failReception p) :=
  h.mapFrames (fun _ => by split <;> rfl) fun kv ⟨hp, hg, hc⟩ => by split <;> exact ⟨hp, hg, hc⟩

theorem downPort (h : Evolves s u) (p : Nat) : Evolves s (u.downPort p) :=
  ((((((h.frameYields.setPortState p 1).stompPort p).failReception p).clearPause p).setFld ..).count _).parkStart p

theorem seeFaults (h : Evolves s u) (p : Nat) (l r : Bool) : Evolves s (u.seeFaults p l r) := (h.setFld ..).setFld ..
theorem setAligned (h : Evolves s u) (p : Nat) (b : Bool) : Evolves s (u.setAligned p b) := h.putPortSt ..

theorem lanesLost (h : Evolves s u) (p : Nat) : Evolves s (u.lanesLost p) :=
  .ite ((h.seeFaults ..).downPort p) (.ite (((h.setPortState ..).seeFaults ..).setAligned ..) h)

theorem staleCheck (h : Evolves s u) (p n : Nat) : Evolves s (u.staleCheck p n) := by
  induction n generalizing u with
  | zero => exact h
  | succ n ih =>
    unfold State.staleCheck
    split
    · next kv hkv =>
      refine .ite (ih ((h.count _).release _)) (ih (h.putRep _ fun hr => (h.range hr).queues kv ?_))
      exact List.mem_of_mem_filter (List.mem_of_mem_filter (List.mem_of_mem_filter (List.mem_of_find?_eq_some hkv)))
    · exact .ite h (h.setPark ..)

theorem ageCheck (h : Evolves s u) (p : Nat) : Evolves s (u.ageCheck p) := .ite (h.staleCheck ..) h

theorem upPort (h : Evolves s u) (p : Nat) : Evolves s (u.upPort p) := by
  unfold State.upPort
  extract_lets v w
  have hv : Evolves s v := ((h.setPortState ..).seeFaults ..).setAligned ..
  refine Evolves.pauseEval (.ite ?_ (hv.setPark ..)) p
  exact ((hv.mapReps (fun _ => by split <;> rfl) fun _ => by split <;> rfl).setPark ..).ageCheck p

theorem seeCause (h : Evolves s u) (p : Nat) (c : DownCause) : Evolves s (u.seeCause p c) := h.seeFaults ..

theorem obeyPause (h : Evolves s u) (p : Nat) (bs : List Byte) : Evolves s (u.obeyPause p bs) :=
  .ite (.ite (h.setFld ..) h) (.ite (h.setFld ..) h)

/-! ### Lanes, group loops and die links -/

theorem setGrp (h : Evolves s u) (b : Nat) (f : Fld) (v : Nat) : Evolves s (u.setGrp b f v) := h.setFld ..
theorem setGrpState (h : Evolves s u) (b v : Nat) : Evolves s (u.setGrpState b v) := h.setFld ..
theorem putLoop (h : Evolves s u) (b : Nat) (x : Loop) : Evolves s (u.putLoop b x) := h.of_kept
theorem putLane (h : Evolves s u) (n : Nat) (x : LaneSt) : Evolves s (u.putLane n x) := h.of_kept
theorem setLaneState (h : Evolves s u) (n v : Nat) : Evolves s (u.setLaneState n v) := h.setFld ..
theorem degrade (h : Evolves s u) : Evolves s u.degrade := h.setFld ..
theorem signalIs (h : Evolves s u) (n : Nat) (b : Bool) : Evolves s (u.signalIs n b) := h.setFld ..
theorem setWrn (h : Evolves s u) (c : Nat) (f : Fld) (v : Nat) : Evolves s (u.setWrn c f v) := h.setFld ..

theorem goLane (h : Evolves s u) (n v : Nat) : Evolves s (u.goLane n v) := by
  unfold State.goLane
  extract_lets old u1 u2 u3 p u4
  have h1 : Evolves s u1 := h.setLaneState ..
  have h2 : Evolves s u2 := .ite h1 (h1.setFld ..)
  have h3 : Evolves s u3 := .ite (h2.setFld ..) h2
  have h4 : Evolves s u4 := .ite (h3.setFld ..) h3
  exact .ite ((h4.setFld ..).lanesLost _) h3

theorem loadTaps (h : Evolves s u) (n : Nat) : Evolves s (u.loadTaps n) := .ite (h.put ..) h
theorem ask (h : Evolves s u) (n : Nat) (r : CoeffReq) (k : Nat) : Evolves s (u.ask n r k) := (h.putLane ..).emit _

theorem enterTrain (h : Evolves s u) (n : Nat) : Evolves s (u.enterTrain n) := by
  unfold State.enterTrain
  extract_lets v x w
  have hw : Evolves s w := (((h.goLane ..).count _).putLane ..).put ..
  exact .ite (hw.ask ..) hw

theorem bringUp (h : Evolves s u) (n : Nat) : Evolves s (u.bringUp n) := .ite (h.enterTrain n) ((h.goLane ..).loadTaps n)
theorem sleepPort (h : Evolves s u) (p : Nat) : Evolves s (u.sleepPort p) := h.foldl fun _ _ hv => .ite hv (hv.goLane ..)
theorem sleepNow (h : Evolves s u) (p : Nat) : Evolves s (u.sleepNow p) := .ite (h.sleepPort p) h

theorem leaveWait (h : Evolves s u) (n : Nat) : Evolves s (u.leaveWait n) := by
  unfold State.leaveWait
  extract_lets v
  have hv : Evolves s v := h.sleepNow _
  exact .ite (.ite ((hv.goLane ..).loadTaps n) (.ite ((hv.goLane ..).loadTaps n) (hv.bringUp n))) hv

theorem grpFail (h : Evolves s u) (b : Nat) : Evolves s (u.grpFail b) :=
  have h1 := (h.setGrpState b 5).event Ev.pllNoLock b 0
  .ite h1.degrade h1

theorem sweep (h : Evolves s u) (b : Nat) : Evolves s (u.sweep b) := by
  unfold State.sweep
  split
  · exact (h.setGrpState ..).setGrp ..
  · exact h.grpFail b

theorem acquire (h : Evolves s u) (b : Nat) : Evolves s (u.acquire b) := ((h.putLoop ..).setGrp ..).sweep b

theorem settleBlock (h : Evolves s u) (b : Nat) : Evolves s (u.settleBlock b) := by
  unfold State.settleBlock
  extract_lets v
  have hv : Evolves s v := h.foldl fun _ _ hw => hw.leaveWait _
  exact .ite h (.ite (.ite hv (hv.setGrpState ..)) (.ite (hv.acquire b) hv))

theorem toWait (h : Evolves s u) (ns : List Nat) : Evolves s (u.toWait ns) := h.foldl fun _ _ hv => .ite hv (hv.goLane ..)

theorem attemptFail (h : Evolves s u) (b : Nat) : Evolves s (u.attemptFail b) := .ite ((h.setGrp ..).sweep b) (h.grpFail b)

theorem groupCfgChange (h : Evolves s u) (b : Nat) (e : Bool) (r : Nat) : Evolves s (u.groupCfgChange b e r) := by
  have hw := h.toWait (blockLanes b)
  exact .ite h (.ite (.ite ((h.foldl fun _ _ hv => hv.goLane ..).settleBlock b) h)
    (.ite ((h.foldl fun _ _ hv => hv.goLane ..).settleBlock b) (.ite (Evolves.settleBlock (.ite (hw.setGrpState ..) hw) b) h)))

theorem holdOff (h : Evolves s u) (n : Nat) : Evolves s (u.holdOff n) := ((h.goLane ..).sleepNow _).settleBlock _
theorem trainFail (h : Evolves s u) (n : Nat) : Evolves s (u.trainFail n) := (h.setFld ..).holdOff n

theorem wakePort (h : Evolves s u) (p : Nat) : Evolves s (u.wakePort p) :=
  (h.foldl fun _ _ hv => .ite (((hv.putLane ..).goLane ..).count _) hv).settleBlock _

theorem laneCfgWritten (h : Evolves s u) (n : Nat) (old : Word) : Evolves s (u.laneCfgWritten n old) := by
  unfold State.laneCfgWritten
  extract_lets w changed v x
  have hv : Evolves s v := .ite (h.toWait _) h
  exact Evolves.settleBlock (.ite (.ite (hv.wakePort n) (hv.sleepNow n)) hv) _

theorem sleepEval (h : Evolves s u) (b : Nat) : Evolves s (u.sleepEval b) := by
  unfold State.sleepEval
  refine Evolves.settleBlock (h.foldl fun v p hv => ?_) b
  have hw := hv.sleepNow p
  exact .ite hv (.ite (.ite (hv.wakePort p) (hv.sleepPort p)) (.ite hw (hw.wakePort p)))

theorem timeWord (h : Evolves s u) (c : Nat) (off : Int) : Evolves s (u.timeWord c off) := h.of_kept

theorem linkFault (h : Evolves s u) (c : Nat) : Evolves s (u.linkFault c) := by
  unfold State.linkFault
  extract_lets u1 tim lne u2 u3
  have h1 : Evolves s u1 := ((h.setWrn ..).setWrn ..).setWrn ..
  clear_value u1
  have h2 : Evolves s u2 := h1.of_kept
  clear_value u2
  exact ((((h2.count _).event ..).toWait _).foldl fun _ _ hv => hv.settleBlock _)

end Evolves

namespace Steps

variable {s : State}

theorem portLanesUp (p : Nat) (l r : Bool) : Steps s (execPortLanesUp p s l r) :=
  .next (.ite (((Evolves.refl.setPortState ..).seeFaults ..).setAligned ..) (.ite ((Evolves.refl.seeFaults ..).setAligned ..) .refl))

theorem portUp (p k : Nat) : Steps s (execPortUp p s k) := .next (.ite (.upPort .refl p) .refl)

theorem portAlignFail (p : Nat) (l r : Bool) : Steps s (execPortAlignFail p s l r) :=
  .next (.ite ((((Evolves.refl.setPortState ..).seeFaults ..).setAligned ..).count _) .refl)

theorem portDown (p : Nat) (c : DownCause) : Steps s (execPortDown p c s) :=
  have h := Evolves.refl.seeCause p c
  .next (.ite .refl (.ite ((h.downPort p).setAligned ..) (h.setAligned ..)))

theorem parkWindowExpires (p : Nat) : Steps s (execParkWindowExpires p s) :=
  .next (.ite ((Evolves.refl.flushPort p).setPark ..) .refl)

theorem portIsUp_lt {p : Nat} (h : s.portIsUp p = true) : p < 1024 := by
  simp only [State.portIsUp, State.isPort, Bool.and_eq_true, decide_eq_true_eq] at h
  exact h.1.1.1.1

theorem frameStartRx (f : RxFrame) : Steps s (execFrameStartRx f s) := by
  unfold execFrameStartRx
  refine .next ?_
  split
  · exact .refl
  · next hup =>
    have hp : f.port < 1024 := portIsUp_lt (s := s) (by simp at hup; tauto)
    refine .ite .refl (.ite (.count .refl _) ?_)
    exact Evolves.refl.frames rfl (skeysFrom_sinsert _ _ _ _ (fun _ hx => nomatch hx)) fun hr kv hm =>
      (mem_sinsert hm).elim (fun e => by rw [e]; exact ⟨hp, (fun hh => nomatch hh), (by decide : 0 < 16)⟩) fun hm => hr.frame hm

theorem pauseFrameRx (id : Nat) : Steps s (execPauseFrameRx id s) := by
  unfold execPauseFrameRx
  refine .next ?_
  split
  · exact .refl
  · exact .ite (((Evolves.refl.frameYields.count _).obeyPause ..).frameGone id) .refl

theorem pauseExpires (p i : Nat) : Steps s (execPauseExpires p i s) := .next (.ite .refl (.setFld .refl ..))
theorem pauseRepeatDue (p i : Nat) : Steps s (execPauseRepeatDue p i s) := .next (.ite (.pauseDue .refl ..) .refl)

theorem pauseFrameTx (p : Nat) : Steps s (execPauseFrameTx p s) := by
  unfold execPauseFrameTx
  refine .next ?_
  extract_lets x quanta mode
  refine .ite .refl ?_
  split
  · exact (Evolves.refl.emit _).putPortSt ..
  · exact .ite .refl ((Evolves.refl.emit _).putPortSt ..)

theorem fecCodewordError (p : Nat) (b : Bool) : Steps s (execFecCodewordError p b s) :=
  .next (.ite .refl (.ite (.count .refl _) ((Evolves.refl.count _).failReception p)))

theorem bandCheckEnd (b k : Nat) : Steps s (execBandCheckEnd b k s) :=
  have h := Evolves.refl (s := s) |>.putLoop b { s.loop b with checked := (s.loop b).checked ++ [s.grp b F.LNE_GRP_STATUS_BAND] }
  .next (.ite (.ite (h.setGrpState ..) (h.sweep b)) .refl)

theorem lockDeclared (b k : Nat) : Steps s (execLockDeclared b k s) := .next (.ite (.setGrpState .refl ..) .refl)
theorem lockAttemptFail (b : Nat) : Steps s (execLockAttemptFail b s) := .next (.ite (.attemptFail .refl b) .refl)
theorem alignTimeout (b : Nat) : Steps s (execAlignTimeout b s) := .next (.ite (.attemptFail .refl b) .refl)

theorem alignmentDone (b : Nat) : Steps s (execAlignmentDone b s) :=
  .next (.ite ((((Evolves.refl.setGrpState ..).setGrp ..).eventClear ..).settleBlock b) .refl)

theorem lossOfLock (b : Nat) (c : LolCause) : Steps s (execLossOfLock b c s) :=
  .next (.ite ((((((Evolves.refl.setGrp ..).toWait _).count _).event ..).acquire b).settleBlock b) .refl)

theorem pllRetry (b : Nat) : Steps s (execPllRetry b s) := .next (.ite (.acquire .refl b) .refl)

theorem coeffRequestRx (n : Nat) (r : CoeffReq) : Steps s (execCoeffRequestRx n r s) := by
  unfold execCoeffRequestRx
  refine .next (.ite .refl ?_)
  extract_lets v
  have hv : Evolves s v := .signalIs .refl ..
  clear_value v
  split
  · exact .ite ((hv.put ..).emit _) (hv.emit _)
  · split
    · exact (hv.put ..).emit _
    · exact hv.emit _
  · exact (hv.putLane ..).emit _

theorem coeffRequestRepeat (n : Nat) (r : CoeffReq) (a e : Bool) : Steps s (execCoeffRequestRepeat n r s a e) :=
  have h := Evolves.refl (s := s) |>.signalIs n e
  .next (.ite .refl (.ite (h.ask ..) (h.trainFail n)))

theorem trainSuccess (n : Nat) : Steps s (execTrainSuccess n s) := .next (.ite ((Evolves.refl.goLane ..).signalIs ..) .refl)
theorem trainTimeout (n : Nat) (e : Bool) : Steps s (execTrainTimeout n s e) :=
  .next (.ite ((Evolves.refl.trainFail n).signalIs ..) .refl)
theorem cwLockGained (n : Nat) : Steps s (execCwLockGained n s) :=
  .next (.ite (((Evolves.refl.goLane ..).setFld ..).signalIs ..) .refl)
theorem cwLockLost (n : Nat) : Steps s (execCwLockLost n s) := .next (.ite ((Evolves.refl.goLane ..).count _) .refl)
theorem cwSearchTimeout (n : Nat) (e : Bool) : Steps s (execCwSearchTimeout n s e) :=
  .next (.ite ((Evolves.refl.holdOff n).signalIs ..) .refl)

theorem lossOfSignal (n : Nat) : Steps s (execLossOfSignal n s) :=
  have h := Evolves.refl (s := s) |>.signalIs n false
  .next (.ite ((h.count _).holdOff n) h)

theorem holdoffExpires (n : Nat) (e : Bool) : Steps s (execHoldoffExpires n s e) :=
  .next (.ite ((Evolves.refl.signalIs ..).bringUp n) .refl)
theorem laneSleepEnter (p : Nat) : Steps s (execLaneSleepEnter p s) := .next (.ite ((Evolves.refl.sleepPort p).settleBlock _) .refl)

theorem wakeDetected (n : Nat) : Steps s (execWakeDetected n s) :=
  have h := Evolves.refl (s := s) |>.signalIs n true
  .next (.ite .refl (.ite (h.wakePort _) h))

theorem probeDue (p : Nat) : Steps s (execProbeDue p s) := .next (.ite (.wakePort .refl p) .refl)
theorem wakeToneDone (n : Nat) (e : Bool) : Steps s (execWakeToneDone n s e) :=
  .next (.ite (((Evolves.refl.putLane ..).signalIs ..).bringUp n) .refl)
theorem aniseCycleStart (n : Nat) : Steps s (execAniseCycleStart n s) :=
  .next (.ite ((Evolves.refl.putLane ..).setFld ..) .refl)

theorem anisePhaseEnd (n : Nat) (o : AniseSeen) : Steps s (execAnisePhaseEnd n o s) := by
  unfold execAnisePhaseEnd
  refine .next ?_
  extract_lets ph x
  refine .ite .refl ?_
  split
  · exact (Evolves.refl.setFld ..).setFld ..
  · exact (Evolves.refl.putLane ..).setFld ..
  · exact (Evolves.refl.setFld ..).setFld ..
  · exact .ite (((Evolves.refl.putLane ..).count _).setFld ..) (Evolves.refl.setFld ..)
  · exact Evolves.setFld (.ite ((Evolves.refl.putLane ..).count _) .refl) ..
  · exact .refl

theorem prbsLockGained (n : Nat) (e : Bool) : Steps s (execPrbsLockGained n s e) :=
  .next (.ite ((Evolves.refl.setFld ..).signalIs ..) .refl)
theorem prbsSymbolMismatch (n : Nat) : Steps s (execPrbsSymbolMismatch n s) := .next (.ite (.count .refl _) .refl)
theorem wornanAttemptStart (c : Nat) : Steps s (execWornanAttemptStart c s) :=
  .next (.ite ((Evolves.refl.setWrn ..).setWrn ..) .refl)

theorem wornanTrainDone (c k : Nat) (off : Int) : Steps s (execWornanTrainDone c k s off) := by
  unfold execWornanTrainDone
  refine .next (.ite ?_ .refl)
  extract_lets u1 u2 lne u3
  have h1 : Evolves s u1 := (Evolves.refl.setWrn ..).setWrn ..
  clear_value u1
  have h2 : Evolves s u2 := (h1.put ..).timeWord ..
  clear_value u2
  have h3 : Evolves s u3 := h2.of_kept
  exact (h3.eventClear ..).foldl fun _ _ hv => hv.settleBlock _

theorem wornanAttemptFail (c : Nat) : Steps s (execWornanAttemptFail c s) := by
  unfold execWornanAttemptFail
  have h3 := Evolves.refl (s := s) |>.setWrn c F.LNE_WRN_STATUS_STATE 3
  have h4 := h3.raise Ev.wornanDown c 0
  exact .next (.ite .refl (.ite h3.of_kept (.ite (.setWrn .refl ..) (.ite h4.degrade h4))))

theorem wornanLinkFault (c : Nat) : Steps s (execWornanLinkFault c s) := .next (.ite (.linkFault .refl c) .refl)

theorem wornanRetry (c : Nat) : Steps s (execWornanRetry c s) := by
  unfold execWornanRetry
  have h := (Evolves.refl (s := s) |>.setWrn c F.LNE_WRN_STATUS_STATE 1).setWrn c F.LNE_WRN_STATUS_ATTEMPT 1
  exact .next (.ite h.of_kept .refl)

theorem wornanFlitError (c : Nat) (b : Bool) : Steps s (execWornanFlitError c b s) := by
  unfold execWornanFlitError
  refine .next (.ite .refl (.ite (.count .refl _) ?_))
  extract_lets v l lne w
  have hv : Evolves s v := .count .refl _
  have hw : Evolves s w := hv.of_kept
  exact .ite (hw.linkFault c) hw

end Steps

end Sys2Proof
end

section
/-! PROOF. What parsing, classification and inspection keep (R203 to R224). -/
namespace Sys2Proof

open Sys2Proof.Machine

set_option Elab.async false

theorem Fld.get_lt (f : Fld) (w : Word) : f.get w < 2 ^ f.w := Nat.mod_lt _ (Nat.two_pow_pos _)

theorem Action.cls_lt (a : Action) : a.cls < 16 := Fld.get_lt _ _

/-- The frame is in range where the frames of `s` are. -/
def Named (s : State) (f : Frame) : Prop := FramesInRange s → FrameInRange f

namespace Named

variable {s : State} {f g : Frame}

/-- A change of a frame that leaves its names. -/
theorem upd (hf : Named s f) (hp : g.port = f.port := by rfl) (hh : g.fromHost = f.fromHost := by rfl)
    (hc : g.cls = f.cls := by rfl) : Named s g := fun hr => by
  obtain ⟨a, b, c⟩ := hf hr
  exact ⟨hp ▸ a, fun h => hp ▸ b (hh ▸ h), hc ▸ c⟩

theorem withCls (hf : Named s f) (hc : g.cls < 16) (hp : g.port = f.port := by rfl) (hh : g.fromHost = f.fromHost := by rfl) :
    Named s g := fun hr => by
  obtain ⟨a, b, c⟩ := hf hr
  exact ⟨hp ▸ a, fun h => hp ▸ b (hh ▸ h), hc⟩

end Named

namespace Evolves

variable {s u : State}

theorem named (h : Evolves s u) {id : Nat} {f : Frame} (hf : u.frame id = some f) : Named s f := h.frame_of_find hf

theorem searchRows (h : Evolves s u) (t : Nat) (bad : List Nat) (xs : List (Nat × Row)) : Evolves s (u.searchRows t bad xs).1 := by
  induction xs generalizing u with
  | nil => exact h
  | cons x xs ih =>
    unfold State.searchRows
    split
    · exact ih (h.event ..)
    · exact h

theorem tcamSearch (h : Evolves s u) (sl e key : Nat) (bad : List Nat) : Evolves s (u.tcamSearch sl e key bad).1 := by
  unfold State.tcamSearch
  extract_lets ms r
  have hr : Evolves s r.1 := h.searchRows ..
  split
  · exact hr.foldl fun _ _ hv => hv.count _
  · exact hr

theorem advance (h : Evolves s u) (id : Nat) {f : Frame} (st : Stage) (hf : Named s f) : Evolves s (u.advance id f st) :=
  h.frames rfl (skeysFrom_sinsert _ _ _ _ (fun _ hx => nomatch hx)) fun hr _ hm =>
    (mem_sinsert hm).elim (fun e => by rw [e]; exact (hf.upd : Named s _) hr) fun hm => h.frame hm hr

theorem discardTo (h : Evolves s u) (id : Nat) {f : Frame} (c : Nat → Nat) (hf : Named s f) : Evolves s (u.discardTo id f c) := by
  unfold State.discardTo
  split
  · exact (h.countDrop ..).putFrame id hf.upd
  · exact ((h.countDrop ..).putFrame id hf).dropFrame id

theorem applyAction (h : Evolves s u) (id : Nat) {f : Frame} (a : Action) (hf : Named s f) : Evolves s (u.applyAction id f a) := by
  unfold State.applyAction
  extract_lets g
  have hg : Named s g := hf.withCls (Action.cls_lt a)
  refine .ite (h.advance id _ hg.upd) (.ite (h.discardTo id _ hg) (.ite (.ite (h.advance id _ hg.upd) ?_) (h.advance id _ hg)))
  split
  · exact (h.countDrop ..).advance id _ hg.upd
  · exact h.discardTo id _ hg

theorem dpiAdmit (h : Evolves s u) (id : Nat) {f : Frame} (a : Action) (hf : Named s f) : Evolves s (u.dpiAdmit id f a) := by
  unfold State.dpiAdmit
  extract_lets sl g bypass v keep
  have hg : Named s g := hf.withCls (Action.cls_lt a)
  have hb : ∀ w, Evolves s w → Evolves s (bypass w) := fun w hw => (hw.count _).applyAction id a hg
  have hv : Evolves s v := h.setFld ..
  exact .ite (hb _ h) (.ite ((h.count _).putFrame id hg.upd) (.ite (((hv.count _).putFrame id hg).dropFrame id) (hb _ hv)))

theorem firstPass (h : Evolves s u) (id : Nat) {f : Frame} (p : Parse) (d : Action) (bad : List Nat) (hf : Named s f) :
    Evolves s (u.firstPass id f p d bad) := by
  unfold State.firstPass
  extract_lets r
  have hr : Evolves s r.1 := h.tcamSearch ..
  refine .ite (h.applyAction id d hf) ?_
  split
  · exact .ite (hr.applyAction id _ hf) (.ite h (hr.dpiAdmit id _ hf))
  · exact Evolves.applyAction (.ite hr (hr.count _)) id d hf

theorem dpiRelease (h : Evolves s u) (f0 : Frame) (n : Nat) : Evolves s (u.dpiRelease f0 n) := by
  induction n generalizing u with
  | zero => exact h
  | succ n ih =>
    unfold State.dpiRelease
    split
    · exact h
    · next id f hfind =>
      have hf : Named s f := h.frame (List.mem_of_find?_eq_some hfind)
      exact .ite h (ih (.ite ((h.count _).putFrame id hf.upd) (h.applyAction id _ hf.upd)))

theorem holdScans (h : Evolves s u) (ids : List Nat) : Evolves s (u.holdScans ids) :=
  h.foldl fun v id hv => hv.updFrame id fun f ⟨a, b, c⟩ => by
    split
    · split <;> exact ⟨a, b, c⟩
    · exact ⟨a, b, c⟩

theorem killBad (h : Evolves s u) (id : Nat) {f : Frame} (hf : Named s f) : Evolves s (u.killBad id f) :=
  (((h.putFrame id hf.upd).killReplicas id).checkGone id).dpiRelease ..

theorem endBad (h : Evolves s u) (id : Nat) {f : Frame} (hf : Named s f) : Evolves s (u.endBad id f) := by
  unfold State.endBad
  extract_lets u1 u2 u3
  have h1 : Evolves s u1 := h.count _
  have h2 : Evolves s u2 := .ite (h1.count _) h1
  have h3 : Evolves s u3 := .ite (h2.count _) h2
  exact h3.killBad id hf

end Evolves

namespace Steps

variable {s : State}

theorem frameParse (id : Nat) : Steps s (execFrameParse id s) := by
  unfold execFrameParse
  refine .next ?_
  split
  · exact .refl
  · next f hf =>
    refine .ite .refl ?_
    extract_lets p v
    have hv : Evolves s v := by
      unfold v
      split
      · exact .count .refl _
      · exact .count .refl _
      · exact .refl
    exact hv.putFrame id (Evolves.refl.named hf).upd

theorem classify (id : Nat) (bad : List Nat) : Steps s (execClassify id bad s) := by
  unfold execClassify
  refine .next ?_
  split
  · exact .refl
  · next f hf =>
    split
    · exact .refl
    · exact .ite .refl (Evolves.refl.firstPass id _ _ bad (Evolves.refl.named hf))

theorem dpiVerdict (id : Nat) (bad : List Nat) : Steps s (execDpiVerdict id bad s) := by
  unfold execDpiVerdict
  refine .next ?_
  split
  · exact .refl
  · next f hf =>
    have hn := Evolves.refl.named hf
    split
    · exact .refl
    · next p _ =>
      refine .ite .refl (Evolves.dpiRelease ?_ ..)
      have hr := Evolves.refl (s := s) |>.searchRows (0x18 + f.slice) bad (f.scanOld.getD (s.patternMatches f p))
      split
      · exact (hr.count _).putFrame id hn.upd
      · exact hr.putFrame id hn.upd

theorem frameEndRx (id : Nat) : Steps s (execFrameEndRx id s) := by
  unfold execFrameEndRx
  refine .next ?_
  split
  · exact .refl
  · next f hf =>
    have hn := Evolves.refl.named hf
    extract_lets v
    have hv : Evolves s v := ((Evolves.refl.count _).putFrame id hn.upd).tryLearn id
    exact .ite .refl (.ite ((Evolves.refl.count _).killBad id hn) (.ite (Evolves.refl.endBad id hn)
      (.ite (Evolves.refl.putFrame id hn.upd) (.ite (hv.checkGone id) hv))))

theorem recircPass (id : Nat) (bad : List Nat) : Steps s (execRecircPass id bad s) := by
  unfold execRecircPass
  refine .next ?_
  split
  · exact .refl
  · next f hf =>
    split
    · exact .refl
    · next p _ =>
      refine .ite .refl ?_
      extract_lets g r v
      have hn : Named s g := (Evolves.refl.named hf).upd
      have hr : Evolves s r.1 := Evolves.refl.tcamSearch ..
      refine Evolves.dpiRelease ?_ ..
      unfold v
      split
      · exact hr.applyAction id _ hn
      · exact hr.applyAction id _ hn

end Steps

end Sys2Proof
end

section
/-! PROOF. What lookup, learning, Caraway, rebuilds and a lost stack keep (R239 to R270). -/
namespace Sys2Proof

open Sys2Proof.Machine

set_option Elab.async false

theorem Named.getD {s u : State} {f : Frame} (h : Evolves s u) (hf : Named s f) (id : Nat) : Named s ((u.frame id).getD f) := by
  cases hu : u.frame id with
  | none => exact hf
  | some g => exact h.named hu

namespace Evolves

variable {s u : State}

theorem routeTo (h : Evolves s u) (id : Nat) {f : Frame} (r : Route) (hf : Named s f) : Evolves s (u.routeTo id f r) :=
  h.putFrame id hf.upd

theorem miss (h : Evolves s u) (id : Nat) {f : Frame} (hf : Named s f) : Evolves s (u.miss id f) := by
  unfold State.miss
  extract_lets v
  have hv : Evolves s v := h.count _
  split
  · exact hv.routeTo id _ hf
  · exact hv.routeTo id _ hf
  · exact hv.discardTo id _ hf

theorem applyHit (h : Evolves s u) (id : Nat) {f : Frame} (a b : Word) (hf : Named s f) : Evolves s (u.applyHit id f a b) := by
  unfold State.applyHit
  extract_lets x arg g
  have hg : Named s g := fun hr => by
    obtain ⟨hp, hh, hc⟩ := hf hr
    refine ⟨hp, hh, ?_⟩
    simp only [g]
    split
    · exact Nat.mod_lt _ (by decide)
    · exact hc
  split
  · exact .ite (h.discardTo id _ hg) (h.routeTo id _ hg)
  · exact h.routeTo id _ hg
  · exact h.routeTo id _ hg
  · exact h.discardTo id _ hg

theorem bucketEcc (h : Evolves s u) (c b : Nat) (e : BucketEcc) : Evolves s (u.bucketEcc c b e).1 := by
  unfold State.bucketEcc
  split
  · exact h
  · exact h.count _
  · split
    · exact h.count _
    · extract_lets v
      have hv : Evolves s v := (h.count _).event ..
      split
      · exact (hv.setCopy ..).t1Inval _
      · exact hv

theorem readEcc (h : Evolves s u) (l : List (Nat × BucketEcc)) : Evolves s (u.readEcc l) :=
  .ite (h.foldl fun _ _ hv => hv.bucketEcc ..) h

theorem promote (h : Evolves s u) (f : Frame) (key gen bucket : Nat) (e : FwdEntry) : Evolves s (u.promote f key gen bucket e) := by
  unfold State.promote
  refine .ite (.ite (h.count _) ?_) h
  split
  · exact (h.putT1 ..).count _
  · exact h

theorem learn (h : Evolves s u) (key port : Nat) : Evolves s (u.learn key port) := by
  unfold State.learn
  split
  · refine .ite ?_ (h.count _)
    extract_lets r
    have hr : Evolves s r.1 := h.insertEntry ..
    split
    · exact hr.count _
    · exact hr
    · exact hr.count _
  · exact .ite h (.ite (h.hitOp _) (.ite (((h.changeKey ..).setHit ..).count _) h))

theorem removeAged (h : Evolves s u) (b : Nat) (e : FwdEntry) : Evolves s (u.removeAged b e) := by
  unfold State.removeAged
  extract_lets v
  have hv : Evolves s v := ((h.setHit ..).removeVersion e).count _
  clear_value v
  exact hv.of_kept

theorem nextPass (h : Evolves s u) : Evolves s u.nextPass := .ite h (.ite (h.beginPass _) h.flushStart)

theorem setHashState (h : Evolves s u) (v : Nat) : Evolves s (u.setHashState v) := h.setFld ..

theorem rehashStart (h : Evolves s u) : Evolves s u.rehashStart := by
  unfold State.rehashStart
  refine .ite h (.ite (h.setHashState 5) ?_)
  extract_lets n v
  have hv : Evolves s v := ((h.setFld ..).setHashState 1).setCopyUp ..
  clear_value v
  exact hv.of_kept

theorem rehashFailed (h : Evolves s u) : Evolves s u.rehashFailed := by
  unfold State.rehashFailed
  extract_lets v
  have hv : Evolves s v := (h.setFld ..).setHashState 4
  clear_value v
  exact Evolves.nextPass hv.of_kept

theorem placedAnew (h : Evolves s u) (m : SMap FwdEntry) : Evolves s (u.placedAnew m) := (h.t1Clear.hitAll m).of_kept

theorem jobLost (h : Evolves s u) : Evolves s u.jobLost := by
  unfold State.jobLost
  split
  · exact h
  · exact h.of_kept

theorem tick1Free (h : Evolves s u) : Evolves s u.tick1Free := h.of_kept

theorem survivor (h : Evolves s u) (c : Nat) : Evolves s (u.survivor c) := by
  unfold State.survivor
  extract_lets n src r m src2 v
  refine .ite (.ite (.setCopyUp (.t1Clear (.tick1Free h.of_kept)) ..) ?_) (.ite (.setCopyUp (.t1Clear (.tick1Free h.of_kept)) ..) h)
  have hv : Evolves s v := (h.countN ..).of_kept
  exact ((hv.tick1Free.placedAnew _).jobLost).setCopyUp ..

theorem copyDown (h : Evolves s u) (c k : Nat) : Evolves s (u.copyDown c k) := by
  unfold State.copyDown
  extract_lets v1 v2 f0 v3 o f1 v4 v5 v6 f2
  have h1 : Evolves s v1 := ((h.survivor c).setCopyUp ..).raise ..
  have h2 : Evolves s v2 := h1.setCopy ..
  clear_value v2
  have h3 : Evolves s v3 := .ite h2.of_kept h2.of_kept
  clear_value v3
  have h4 : Evolves s v4 := h3.of_kept
  have h5 : Evolves s v5 := .ite h4.rehashFailed h4
  have h6 : Evolves s v6 := h5.raise ..
  clear_value v6
  exact .ite h5 h6.of_kept

theorem spillLoss (h : Evolves s u) (k : Nat) : Evolves s (u.spillLoss k) := by
  unfold State.spillLoss
  extract_lets v
  have hv : Evolves s v := h.frameYields
  refine foldl_keeps _ _ hv fun w kv hm hw => .ite ?_ hw
  have h1 : Evolves s (w.putRep kv.1 { kv.2 with spill := .lost k }) := hw.putRep _ fun hr => (hv.range hr).queues kv hm
  exact (h1.count _).event ..

end Evolves

namespace Steps

variable {s : State}

theorem lookup (id : Nat) (sh : Option Nat) : Steps s (execLookup id sh s) := by
  unfold execLookup
  refine .next ?_
  split
  · exact .refl
  · next f hf =>
    split
    · exact .refl
    · refine .ite .refl ?_
      extract_lets k kt v g
      have hn : Named s f := Evolves.refl.named hf
      have hv : Evolves s v := (Evolves.refl.putFrame id hn.upd).tryLearn id
      have hg : Named s g := hn.getD hv id
      refine .ite (hv.miss id hg) ?_
      split
      · exact (hv.count _).miss id hg
      · extract_lets key w
        split
        · extract_lets r
          have hr : Evolves s r.1 := hv.hitOp _
          exact .ite (((hr.count _).putT1 ..).applyHit id _ _ hg) (hv.miss id hg)
        · exact .ite ((hv.count _).miss id hg) ((hv.count _).putFrame id hg.upd)

theorem tier2ReadDone (id : Nat) (e1 e2 : BucketEcc) : Steps s (execTier2ReadDone id e1 e2 s) := by
  unfold execTier2ReadDone
  refine .next ?_
  split
  · exact .refl
  · next f hf =>
    have hn : Named s f := Evolves.refl.named hf
    split
    · refine .ite ((Evolves.refl.count _).miss id hn) ?_
      extract_lets c sd bs r1 r2 v
      have hv : Evolves s v := (Evolves.refl.bucketEcc ..).bucketEcc ..
      refine .ite (hv.miss id hn) ?_
      split
      · exact hv.miss id hn
      · extract_lets b h
        have hh : Evolves s h.1 := hv.hitOp _
        exact .ite (((hh.count _).promote ..).applyHit id _ _ hn) (hv.miss id hn)
    · exact .refl

theorem learnCheck (c : Bool) (ecc : List (Nat × BucketEcc)) : Steps s (execLearnCheck c s ecc) := by
  unfold execLearnCheck
  refine .next ?_
  extract_lets v f0
  have hv : Evolves s v := Evolves.refl.readEcc _
  split
  · exact hv
  · refine .ite hv ?_
    extract_lets w
    have hw : Evolves s w := hv.of_kept
    exact .ite (hw.learn ..) (hw.count _)

theorem goneClear (b : Nat) : Steps s (execGoneClear b s) :=
  .next (.ite (.of_kept (u := s.setHit b (clrBit (s.hitBits b) 1)) (.setHit .refl ..)) .refl)

theorem agingPassStart : Steps s (execAgingPassStart s) := .next (.ite .refl (.ite (.beginPass .refl _) (.of_kept .refl)))

theorem carawayVisit (ecc : List (Nat × BucketEcc)) : Steps s (execCarawayVisit s ecc) := by
  unfold execCarawayVisit
  refine .next ?_
  extract_lets v f0
  have hv : Evolves s v := Evolves.refl.readEcc _
  split
  · exact hv
  · refine .ite hv ?_
    split
    · exact hv
    · extract_lets w
      have hw : Evolves s w := hv.of_kept
      exact .ite (hw.removeAged ..) (.ite (.ite (hw.setHit ..) (hw.removeAged ..)) hw)

theorem carawayPassEnd : Steps s (execCarawayPassEnd s) := by
  unfold execCarawayPassEnd
  refine .next ?_
  split
  · exact .refl
  · refine .ite .refl ?_
    extract_lets served f0 w
    have hw : Evolves s w := .of_kept .refl
    exact hw.nextPass

theorem t1DecayTick : Steps s (execT1DecayTick s) := .next (.ite .refl (.of_kept .refl))

theorem rehashStepDone (ecc : List (Nat × BucketEcc)) : Steps s (execRehashStepDone s ecc) := by
  unfold execRehashStepDone
  refine .next ?_
  extract_lets v f0 r w y f1 f2 v1 v2 v3 v4
  have hv : Evolves s v := Evolves.refl.readEcc _
  refine .ite hv (.ite (.ite (.rehashFailed (.setCopyUp hv.of_kept ..)) ?_) (.ite ?_ hv))
  · have hw : Evolves s w := hv.countN ..
    clear_value w
    split
    · have hx : Evolves s y := hw.rehashNeeded
      clear_value y
      exact hx.of_kept
    · next m _ =>
      extract_lets x1 x2
      have h1 : Evolves s x1 := .placedAnew (hw.of_kept (v := { w with fwd := { w.fwd with copy1 := m } })) _
      have h2 : Evolves s x2 := (h1.setCopyUp ..).setCopyUp ..
      clear_value x2
      exact .setHashState h2.of_kept _
  · have h1 : Evolves s v1 := .setCopyUp hv.of_kept ..
    have h2 : Evolves s v2 := (h1.put ..).put ..
    have h3 : Evolves s v3 := (h2.noteImage _).noteImage _
    have h4 : Evolves s v4 := ((h3.setFld ..).eventClear ..).setHashState 3
    exact (h4.setFld ..).nextPass

theorem hbmStackDown (k : Nat) : Steps s (execHbmStackDown k s) := by
  unfold execHbmStackDown
  refine .next (.ite .refl ?_)
  extract_lets v on v1 v2 v3
  have hv : Evolves s v := Evolves.refl.raise ..
  have h1 : Evolves s v1 := .ite (hv.copyDown ..) hv
  have h2 : Evolves s v2 := .ite (h1.copyDown ..) h1
  have h3 : Evolves s v3 := h2.setFld ..
  exact h3.spillLoss k

end Steps

end Sys2Proof
end

section
/-! PROOF. What the switch core keeps: enqueue and the pools, spill, and the matching round (R281 to R311). -/
namespace Sys2Proof

open Sys2Proof.Machine

set_option Elab.async false

theorem Named.chargeTo {s : State} {f : Frame} (hf : Named s f) (p : Pool) (n : Nat) : Named s (f.chargeTo p n) := by
  unfold Frame.chargeTo
  split
  · exact hf.upd
  · exact hf

theorem State.targetQueues_lt {s : State} {f : Frame} (hf : f.cls < 16) {q : Nat} (hq : q ∈ s.targetQueues f) : q < 16384 := by
  unfold State.targetQueues at hq
  split at hq
  · split at hq
    · next hp =>
      rw [List.mem_singleton] at hq
      simp only [State.isPort, Bool.and_eq_true, decide_eq_true_eq] at hp
      omega
    · cases hq
  · simp only [List.mem_map, List.mem_filter, List.mem_range] at hq
    obtain ⟨e, ⟨he, -⟩, rfl⟩ := hq
    omega
  · cases hq

namespace Evolves

variable {s u : State}

theorem writeCell (h : Evolves s u) (id : Nat) : Evolves s (u.writeCell id) := by
  unfold State.writeCell
  split
  · exact h
  · next f hf =>
    have hn := h.named hf
    extract_lets used
    split
    · split
      · exact h.putFrame id hn.upd
      · exact h.putFrame id hn.upd
    · split
      · extract_lets v src
        have hv : Evolves s v := h.putFrame id hn.upd
        clear_value v
        exact hv.of_kept
      · exact h.putFrame id hn.upd

theorem writeCells (h : Evolves s u) (id n : Nat) : Evolves s (u.writeCells id n) := by
  induction n generalizing u with
  | zero => exact h
  | succ n ih => exact ih (h.writeCell id)

theorem noRoom (h : Evolves s u) (id : Nat) {f : Frame} (hf : Named s f) : Evolves s (u.noRoom id f) := by
  unfold State.noRoom
  extract_lets v
  have hv : Evolves s v := h.foldl fun _ _ hw => hw.count _
  exact ((hv.putFrame id hf.upd).killReplicas id).checkGone id

theorem arriveTo (h : Evolves s u) (id n : Nat) : Evolves s (u.arriveTo id n) := by
  unfold State.arriveTo
  split
  · exact h
  · next f hf =>
    have hn := h.named hf
    refine .ite (.ite (h.noRoom id hn) ?_) (h.writeCells ..)
    have hw := (h.putFrame id (f := { f with extra := f.extra + (n - 2 - f.extra) }) hn.upd).writeCells id (n - f.written)
    exact .ite hw (hw.pauseEval _)

theorem setTok (h : Evolves s u) (q v : Nat) : Evolves s (u.setTok q v) := h.of_kept
theorem setDc (h : Evolves s u) (q : Nat) (v : Int) : Evolves s (u.setDc q v) := h.of_kept
theorem redTest (h : Evolves s u) (f : Frame) (q : Nat) : Evolves s (u.redTest f q).1 := h.of_kept
theorem spillCarry (h : Evolves s u) (n : Nat) : Evolves s (u.spillCarry n) := h.of_kept

theorem choosePool (h : Evolves s u) (f : Frame) (q n : Nat) (l b o : Bool) : Evolves s (u.choosePool f q n l b o).1 := by
  unfold State.choosePool
  extract_lets hr sp v x w
  have hv : Evolves s v := h.count _
  clear_value v
  have hw : Evolves s w := .ite hv.of_kept h
  split
  · exact h
  · split
    · exact h
    · split
      · exact h
      · split
        · exact h.spillCarry _
        · split
          · exact hw
          · exact hw

theorem addReplica (h : Evolves s u) (id : Nat) {f : Frame} (q : Nat) (p : Pool) (l : Bool) (n : Nat) (hf : Named s f)
    (hq : FramesInRange s → q < 16384) : Evolves s (u.addReplica id f q p l n) := by
  unfold State.addReplica
  extract_lets g sp st ct bad r dc x
  have h1 : Evolves s (u.putFrame id g) := h.putFrame id (hf.chargeTo p n)
  have h2 : Evolves s ((u.putFrame id g).putRep u.nextRep r) := h1.putRep _ hq
  exact h2.of_kept

theorem testPools (h : Evolves s u) (id q : Nat) {f : Frame} (l b o : Bool) (hf : Named s f)
    (hq : FramesInRange s → q < 16384) : Evolves s (u.testPools id q f l b o).1 := by
  unfold State.testPools
  extract_lets n r
  have hr : Evolves s r.1 := h.choosePool ..
  split
  · exact hr.addReplica id q _ _ _ hf hq
  · exact hr

theorem enqueueOne (h : Evolves s u) (id q : Nat) (b : Bool) (hq : FramesInRange s → q < 16384) :
    Evolves s (u.enqueueOne id q b).1 := by
  unfold State.enqueueOne
  split
  · exact h
  · next f hf =>
    have hn := h.named hf
    extract_lets e n l full r
    have hr : Evolves s r.1 := h.redTest f q
    split
    · exact h.count _
    · split
      · exact h.count _
      · split
        · exact (h.count _).count _
        · split
          · split
            · exact hr.count _
            · exact hr.testPools id q _ _ _ hn hq
          · exact h.testPools id q _ _ _ hn hq

theorem dropFull (h : Evolves s u) (q : Nat) (l : Bool) : Evolves s (u.dropFull q l) := by
  unfold State.dropFull
  extract_lets low v w
  have hv : Evolves s v := h.count _
  have hw : Evolves s w := .ite (hv.count _) hv
  exact .ite (hw.count _) hw

theorem enqueueAll (h : Evolves s u) (id : Nat) (b : Bool) (qs : List Nat) (hq : FramesInRange s → ∀ q ∈ qs, q < 16384) :
    Evolves s (u.enqueueAll id b qs).1 := by
  induction qs generalizing u with
  | nil => exact h
  | cons q qs ih =>
    exact ih (h.enqueueOne id q b fun hr => hq hr q (List.mem_cons_self ..)) fun hr x hx => hq hr x (List.mem_cons_of_mem _ hx)

theorem hostEnqueue (h : Evolves s u) (id : Nat) (c : Nat × Nat) : Evolves s (u.hostEnqueue id c) := by
  unfold State.hostEnqueue
  split
  · exact h
  · next f hf =>
    exact .ite ((h.putFrame id ((h.named hf).chargeTo _ _)).putRing ..) (h.count _)

theorem txAdmitted (h : Evolves s u) (id : Nat) (b : Bool) : Evolves s (u.txAdmitted id b) := h.of_kept

theorem countLong (h : Evolves s u) (id : Nat) : Evolves s (u.countLong id) := h.foldl fun _ _ hw => hw.count _

theorem settleEnqueue (h : Evolves s u) (id : Nat) : Evolves s (u.settleEnqueue id) := by
  unfold State.settleEnqueue
  split
  · exact h
  · next f hf =>
    have hw : Evolves s (u.putFrame id { f with stage := .queued }) := h.putFrame id (h.named hf).upd
    have hx := (hw.writeCells id f.ncells).updFrame id (g := fun f => { f with whole := true }) fun g ⟨a, b, c⟩ => ⟨a, b, c⟩
    exact .ite (hw.frameGone id) (.ite (.ite (hx.countLong id) hx) ((hw.writeCell id).pauseEval _))

theorem countNoReplica (h : Evolves s u) (f : Frame) : Evolves s (u.countNoReplica f) := by
  unfold State.countNoReplica
  refine .ite h ?_
  split
  · exact h.countDrop ..
  · exact h.countDrop ..
  · exact h

theorem targets {f : Frame} (hf : Named s f) : FramesInRange s → ∀ q ∈ u.targetQueues f, q < 16384 := fun hr _ hq =>
  State.targetQueues_lt (hf hr).cls hq

theorem enqueueFrame (h : Evolves s u) (id : Nat) {f : Frame} (b : Bool) (hf : Named s f) : Evolves s (u.enqueueFrame id f b) := by
  unfold State.enqueueFrame
  extract_lets qs v r l w
  have hr : Evolves s r.1 := (h.countNoReplica f).enqueueAll id b _ (targets hf)
  have hw : Evolves s w := hr.foldl fun _ _ hx => hx.dropFull ..
  exact (hw.foldl fun _ _ hx => hx.hostEnqueue ..).settleEnqueue id

theorem txAbort (h : Evolves s u) (id : Nat) : Evolves s (u.txAbort id) := by
  unfold State.txAbort
  extract_lets v
  have hv : Evolves s v := h.of_kept
  exact (hv.eraseFrame id).checkEpoch

theorem enqueueHost (h : Evolves s u) (id : Nat) {f : Frame} (b force : Bool) (hf : Named s f) :
    Evolves s (u.enqueueHost id f b force) := by
  unfold State.enqueueHost
  extract_lets r v1 v2 v3 x src v4 y
  have hr : Evolves s r.1 := h.enqueueAll id b _ (targets hf)
  have h1 : Evolves s v1 := (hr.countNoReplica f).foldl fun _ _ hx => hx.dropFull ..
  have h2 : Evolves s v2 := h1.foldl fun _ _ hx => hx.hostEnqueue ..
  have h3 : Evolves s v3 := (h2.count _).txAdmitted ..
  have h4 : Evolves s v4 := h.of_kept
  exact .ite ((h3.putRing ..).settleEnqueue id) (.ite (h.txAbort id) (.ite h4 (h4.putRing ..)))

theorem roundYields (h : Evolves s u) (a b : List (Nat × Nat × Nat)) : Evolves s (u.roundYields a b) :=
  h.foldl fun _ _ hv => hv.foldl fun _ _ hw => .ite (hw.count _) hw

theorem movePointers (h : Evolves s u) (a : List (Nat × Nat × Nat)) : Evolves s (u.movePointers a) :=
  h.foldl fun _ _ hv => hv.of_kept

theorem leaveBuffer (h : Evolves s u) (id n : Nat) : Evolves s (u.leaveBuffer id n) := by
  unfold State.leaveBuffer
  split
  · next f hf =>
    have hv : Evolves s (if f.unicast then u.putFrame id { f with left := f.left + n } else u) :=
      .ite (h.putFrame id (h.named hf).upd) h
    exact .ite hv (hv.pauseEval _)
  · exact h

theorem moveCells (h : Evolves s u) (k : Nat) {r : Replica} (n : Nat) (hr : FramesInRange s → r.q < 16384) :
    Evolves s (u.moveCells k r n) := by
  unfold State.moveCells
  extract_lets dc v w
  have h0 : Evolves s { u with nextLk := u.nextLk + 1 } := h.of_kept
  have hv : Evolves s v := .ite (h0.putRep k hr) (h.putRep k hr)
  exact (((hv.setTok ..).setDc ..).leaveBuffer ..).ageCheck _

/-- A head of a queue is a replica that the device holds. -/
theorem head (h : Evolves s u) {kv : Nat × Replica} (hm : kv ∈ u.voqHeads) (hr : FramesInRange s) : kv.2.q < 16384 :=
  (h.range hr).queues kv (List.mem_of_mem_filter (List.mem_of_mem_filter hm))

theorem serveCrossing (h : Evolves s u) (g k : Nat) (served : Bool) (is : List Nat) (b : Nat) :
    Evolves s (u.serveCrossing g k served is b).1 := by
  induction is generalizing u served b with
  | nil => exact h
  | cons i is ih =>
    unfold State.serveCrossing
    extract_lets e
    split
    · exact ih h ..
    · next j r hfind =>
      extract_lets n v src w
      have hv : Evolves s v := h.moveCells j n (h.head (List.mem_of_find?_eq_some hfind))
      clear_value v
      have hw : Evolves s w := .ite hv hv.of_kept
      split
      · exact ih h ..
      · exact ih hw ..

theorem serveNew (h : Evolves s u) (g k n b : Nat) : Evolves s (u.serveNew g k n b) := by
  induction n generalizing u b with
  | zero => exact h
  | succ n ih =>
    unfold State.serveNew
    refine .ite h ?_
    extract_lets heads t key top
    have hsub : ∀ kv ∈ heads, kv ∈ u.voqHeads := fun _ hkv => List.mem_of_mem_filter hkv
    clear_value t key heads
    split
    · exact h
    · split
      · exact h
      · split
        · exact h
        · next j r hfind =>
          extract_lets m v src w
          have hm := List.mem_of_mem_filter (List.mem_of_find?_eq_some hfind)
          have hv : Evolves s v := h.moveCells j m (h.head (hsub _ hm))
          clear_value v
          exact ih (u := w) hv.of_kept _

theorem movePair (h : Evolves s u) (x : Nat × Nat × Nat) : Evolves s (u.movePair x) := (h.serveCrossing ..).serveNew ..

theorem takeArrivals (h : Evolves s u) (l : List (Nat × Nat)) : Evolves s (u.takeArrivals l) := by
  refine h.foldl fun v x hv => ?_
  split
  · exact .ite (hv.arriveTo ..) hv
  · exact hv

theorem drainPort (h : Evolves s u) (x : Nat × Nat) : Evolves s (u.drainPort x) := by
  unfold State.drainPort
  split
  · exact h
  · next k _ =>
    split
    · exact h
    · next r hf =>
      have hq := h.rep_of_find hf
      exact .ite (h.putRep k hq) (.ite (.stompRep (.count (h.putRep k (r := { r with drained := r.crossed }) hq) _) k) (h.putRep k hq))

theorem growDeficits (h : Evolves s u) : Evolves s u.growDeficits := by
  unfold State.growDeficits
  extract_lets src v qs
  have hv : Evolves s v := h.of_kept
  refine hv.foldl fun w e hw => .ite hw ?_
  extract_lets own f g
  split
  · exact hw
  · exact hw.foldl fun _ _ hx => hx.setDc ..

theorem ageChecks (h : Evolves s u) : Evolves s u.ageChecks := h.foldl fun _ _ hv => hv.ageCheck _

end Evolves

namespace Steps

variable {s : State}

theorem enqueue (id : Nat) (b : Bool) : Steps s (execEnqueue id b s) := by
  unfold execEnqueue
  refine .next ?_
  split
  · exact .refl
  · next f hf =>
    have hn := Evolves.refl.named hf
    exact .ite .refl (.ite (.ite .refl (Evolves.refl.enqueueHost id _ _ hn)) (Evolves.refl.enqueueFrame id _ hn))

theorem frameLastCell (id : Nat) : Steps s (execFrameLastCell id s) := by
  unfold execFrameLastCell
  refine .next ?_
  split
  · exact .refl
  · next f _ =>
    refine .ite .refl ?_
    extract_lets v
    have hv : Evolves s v := Evolves.refl.arriveTo ..
    split
    · exact hv
    · next g hg =>
      refine .ite hv ?_
      extract_lets long w
      have hw : Evolves s w := .ite (hv.countLong id) hv
      exact (hw.putFrame id (hv.named hg).upd).pauseEval _

theorem spillRefill (g q : Nat) (bad : BadWords) : Steps s (execSpillRefill g q s bad) := by
  unfold execSpillRefill
  refine .next ?_
  split
  · exact .refl
  · next r _ =>
    split
    · exact .refl
    · next f hf =>
      refine .ite .refl ?_
      extract_lets v src w src2 x
      have hv : Evolves s v := Evolves.refl.frameYields
      have hw : Evolves s w := Evolves.mapReps
        (g := fun kv => if kv.2.frame = r.frame ∧ kv.2.inSpillNow then (kv.1, kv.2.refilled) else kv) (hv.spillCarry f.ncells) (fun kv => by split <;> rfl) fun kv => by split <;> rfl
      have hx : Evolves s x := hw.putFrame _ (Evolves.refl.named hf).upd
      exact hx.writeCells ..

theorem matchingRound (a d : List (Nat × Nat)) : Steps s (execMatchingRound a d s) := by
  unfold execMatchingRound
  refine .next (.ite .refl ?_)
  extract_lets v w reqs gs acc x m
  have hv : Evolves s v := (Evolves.refl.takeArrivals a).foldl fun _ _ h => h.drainPort _
  have hw : Evolves s w := hv.ageChecks.growDeficits.frameYields
  have hx : Evolves s x := hw.roundYields ..
  exact ((hx.movePointers _).foldl fun _ _ h => h.movePair _).frameYields

theorem bankCopyDone (b : Nat) : Steps s (execBankCopyDone b s) := .next (.of_kept .refl)

end Steps

end Sys2Proof
end

section
/-! PROOF. What the transmit side of the MAC and the time core keep (R284, R319 to R349). -/
namespace Sys2Proof

open Sys2Proof.Machine

set_option Elab.async false

theorem Named.readBad {s : State} {f : Frame} (hf : Named s f) (b : BadWords) : Named s (f.readBad b) := hf.upd

namespace Evolves

variable {s u : State}

theorem putPtp (h : Evolves s u) (p : Nat) (x : PtpPort) : Evolves s (u.putPtp p x) := h.of_kept

theorem noteEngine (h : Evolves s u) (f : Frame) (ts : Nat) : Evolves s (u.noteEngine f ts) := by
  unfold State.noteEngine
  extract_lets x seq
  split
  · exact .ite (h.putPtp ..) h
  · split
    · exact .ite (h.putPtp ..) h
    · exact h
  · exact h

theorem stampTx (h : Evolves s u) (id e ts : Nat) : Evolves s (u.stampTx id e ts) := h.of_kept

theorem histCount (h : Evolves s u) (f : Frame) (r : Replica) (ts : Nat) : Evolves s (u.histCount f r ts) := .ite (h.count _) h

theorem endFrame (h : Evolves s u) (f : Frame) (r : Replica) (ts : Nat) : Evolves s (u.endFrame f r ts) := by
  unfold State.endFrame
  extract_lets lost b v
  have hv : Evolves s v := (h.emit _).histCount ..
  exact .ite ((h.emit _).count _) (.ite (hv.count _) hv)

/-! ### Time (R319 to R349) -/

theorem tim (h : Evolves s u) (x : Tim) : Evolves s { u with tim := x } := h.of_kept

theorem clearCode (h : Evolves s u) (code : Nat) : Evolves s (u.clearCode code) := h.foldl fun _ _ hv => hv.eventClear ..

theorem setSelState (h : Evolves s u) (v : Nat) : Evolves s (u.setSelState v) := by
  unfold State.setSelState
  extract_lets old v1 v2 v3
  have h1 : Evolves s v1 := h.setFld ..
  have h2 : Evolves s v2 := .ite (((h1.setFld ..).clearCode _).clearCode _) (.ite (h1.clearCode _) h1)
  have h3 : Evolves s v3 := .ite h2 (h2.setFld ..)
  exact .ite h (.irqEvent (.ite h3 (h3.setFld ..)) _)

theorem slewEnd (h : Evolves s u) : Evolves s u.slewEnd := .ite (h.setFld ..) h

theorem saffronTick (h : Evolves s u) : Evolves s u.saffronTick := by
  unfold State.saffronTick
  extract_lets src part t v
  have hv : Evolves s v := h.tim _
  exact .ite h (.ite (h.tim _) hv.slewEnd)

theorem capture (h : Evolves s u) (j ns : Nat) : Evolves s (u.capture j ns) := by
  unfold State.capture
  extract_lets copy v w
  have hv : Evolves s v := h.foldl fun x m hx => ((hx.put ..).put ..).put ..
  have hw : Evolves s w := (hv.put ..).put ..
  exact (hw.put ..).irqEvent _

theorem putTrig (h : Evolves s u) (k : Nat) (x : Trig) : Evolves s (u.putTrig k x) := h.tim _
theorem setTrigStatus (h : Evolves s u) (k : Nat) (f : Fld) (v : Nat) : Evolves s (u.setTrigStatus k f v) := h.setFld ..

theorem armTrigger (h : Evolves s u) (k : Nat) : Evolves s (u.armTrigger k) := by
  unfold State.armTrigger
  extract_lets start period count width w bad first v v1 src v2 v3
  have hv : Evolves s v := h.put ..
  have h1 : Evolves s v1 := (hv.setTrigStatus ..).setTrigStatus ..
  have h3 : Evolves s v3 := .setTrigStatus (hv.setTrigStatus ..) ..
  clear_value first
  split
  · exact (h1.setFld ..).putTrig ..
  · exact h3.putTrig ..

theorem stopTrigger (h : Evolves s u) (k : Nat) : Evolves s (u.stopTrigger k) := ((h.setFld ..).setTrigStatus ..).putTrig ..

theorem trigDone (h : Evolves s u) (k : Nat) (x : Trig) : Evolves s (u.trigDone k x) :=
  (((h.setFld ..).setTrigStatus ..).setTrigStatus ..).putTrig ..

theorem fireTrigger (h : Evolves s u) (k : Nat) (i : Int) (late : Bool) : Evolves s (u.fireTrigger k i late) := by
  unfold State.fireTrigger
  extract_lets x fired v1 v2 held v3 p nx y v4 v5 counts
  have h1 : Evolves s v1 := h.put ..
  have h2 : Evolves s v2 := .ite (h1.setTrigStatus ..) h1
  have h3 : Evolves s v3 := .ite (h2.setTrigStatus ..) h2
  have h4 : Evolves s v4 := h3.putTrig ..
  have h5 : Evolves s v5 := .ite (h4.capture ..) h4
  exact .ite (h5.trigDone ..) (h5.putTrig ..)

theorem newPpsOffset (h : Evolves s u) (k : Nat) (old : Int) : Evolves s (u.newPpsOffset k old) := h.putTrig ..

theorem changeGate (h : Evolves s u) (p : Nat) (g : Gate) : Evolves s (u.changeGate p g) := h.frameYields.putGate ..

theorem gateSwitch (h : Evolves s u) (p : Nat) : Evolves s (u.gateSwitch p) := by
  unfold State.gateSwitch
  split
  · exact h.changeGate ..
  · exact h

theorem gateAdvance (h : Evolves s u) (p : Nat) : Evolves s (u.gateAdvance p) := by
  unfold State.gateAdvance
  extract_lets g
  split
  · exact .ite (h.changeGate ..) (h.changeGate ..)
  · exact h

theorem gatePending (h : Evolves s u) (p : Nat) (x : Sched) : Evolves s (u.gatePending p x) := h.putGate ..

theorem gateLate (h : Evolves s u) (p : Nat) : Evolves s (u.gateLate p) := by
  unfold State.gateLate
  extract_lets v g
  have hv : Evolves s v := by
    unfold v
    split
    · exact .ite (h.gateSwitch p) h
    · exact h
  split
  · exact .ite (hv.changeGate ..) hv
  · exact hv

theorem shiftTimes (h : Evolves s u) (d : Int) : Evolves s (u.shiftTimes d) := h.tim _
theorem holdEdges (h : Evolves s u) : Evolves s u.holdEdges := h.tim _
theorem regate (h : Evolves s u) : Evolves s u.regate := h.of_kept

theorem stepTo (h : Evolves s u) (v : Int) : Evolves s (u.stepTo v) := by
  unfold State.stepTo
  extract_lets t forward v1 src v2 v3
  have h1 : Evolves s v1 := h.holdEdges.shiftTimes _
  clear_value v1
  have h2 : Evolves s v2 := h1.tim _
  have h3 : Evolves s v3 := by
    refine h2.foldl fun w k hw => ?_
    split
    · exact .ite (hw.fireTrigger ..) hw
    · exact hw
  exact .ite h2.regate (h3.foldl fun _ _ hw => hw.gateLate _)

theorem safApply (h : Evolves s u) : Evolves s u.safApply := by
  unfold State.safApply
  split
  · exact h
  · extract_lets src v1 v2 src2 v3 v4
    have h1 : Evolves s v1 := h.tim _
    have h2 : Evolves s v2 := h1.setFld ..
    clear_value v2
    have h3 : Evolves s v3 := (h2.tim _).setFld ..
    have h4 : Evolves s v4 := h3.setFld ..
    exact .ite (h1.setFld ..) (.ite ((h2.tim _).setFld ..) (.ite ((h4.stepTo _).setFld ..) (h4.stepTo _)))

theorem safTake (h : Evolves s u) (op : Nat) : Evolves s (u.safTake op) := by
  unfold State.safTake
  refine .ite ?_ ((h.tim _).setFld ..)
  split
  · exact (h.tim _).setFld ..
  · exact h

theorem l1Eval (h : Evolves s u) (p : Nat) : Evolves s (u.l1Eval p) := .ite (h.setFld ..) (.ite (h.setFld ..) h)

theorem suppressAll (h : Evolves s u) : Evolves s u.suppressAll := h.foldl fun _ _ hv => .ite (hv.setTrigStatus ..) hv

theorem selectionLost (h : Evolves s u) : Evolves s u.selectionLost := by
  unfold State.selectionLost
  extract_lets v
  have hv : Evolves s v := h.foldl fun _ _ hw => .ite (hw.setFld ..) hw
  exact (hv.setFld ..).setSelState 0

theorem engineGiveUp (h : Evolves s u) : Evolves s u.engineGiveUp := by
  unfold State.engineGiveUp
  extract_lets a v1 v2 src v3 v4
  have h1 : Evolves s v1 := (h.setFld ..).setFld ..
  have h2 : Evolves s v2 := (h1.setFld ..).setFld ..
  clear_value v2
  have h3 : Evolves s v3 := h2.tim _
  have h4 : Evolves s v4 := (h.setFld ..).setFld ..
  exact .ite ((h3.count _).event ..) (h4.suppressAll.raise ..).selectionLost

theorem engineSwap (h : Evolves s u) : Evolves s u.engineSwap := .ite h.engineGiveUp h

theorem engineCopy (h : Evolves s u) (c w : Bool) : Evolves s (u.engineCopy c w) := by
  unfold State.engineCopy
  extract_lets e joins src v copy src2 x
  have hv : Evolves s v := .ite ((h.tim _).setFld ..) h
  clear_value v
  have hx : Evolves s x := .ite (hv.tim _) hv
  exact .ite h (hx.setFld ..)

end Evolves

namespace Steps

variable {s : State}

theorem frameTxStart (p lane ball : Nat) : Steps s (execFrameTxStart p lane ball s) := by
  unfold execFrameTxStart
  refine .next (.ite .refl ?_)
  split
  · exact .refl
  · next k r _ =>
    split
    · exact .refl
    · next f _ =>
      extract_lets c len never v0 ts v1 v2 v3 v4
      have h0 : Evolves s v0 := Evolves.refl.frameYields
      have h1 : Evolves s v1 := h0.updRep k fun _ => rfl
      have h2 : Evolves s v2 := .ite (h1.count _) h1
      have h3 : Evolves s v3 := .ite (h2.count _) h2
      have h4 : Evolves s v4 := .ite (h3.noteEngine ..) h3
      exact .ite .refl (.ite (h4.stampTx ..) h4)

theorem frameTxEnd (p : Nat) (ecc : EccSeen) : Steps s (execFrameTxEnd p ecc s) := by
  unfold execFrameTxEnd
  refine .next (.ite .refl ?_)
  split
  · exact .refl
  · next k _ =>
    split
    · exact .refl
    · next r _ =>
      split
      · next f ts hf _ =>
        extract_lets g v
        have hn : Named s g := (Evolves.refl.named hf).upd
        have hv : Evolves s v := (Evolves.refl.countN ..).putFrame _ hn
        exact .ite .refl (((hv.endFrame ..).release k).ageCheck p)
      · exact .refl

theorem triggerInstant (k : Nat) : Steps s (execTriggerInstant k s) := by
  unfold execTriggerInstant
  refine .next ?_
  split
  · exact .ite (Evolves.refl.fireTrigger ..) .refl
  · exact .refl

theorem ppsPulseEnd (k : Nat) : Steps s (execPpsPulseEnd k s) := .next (.ite (Evolves.refl.putTrig ..) .refl)

theorem gateEntryChange (p : Nat) : Steps s (execGateEntryChange p s) := .next (.ite (Evolves.refl.gateAdvance p) .refl)

theorem gateScheduleChange (p : Nat) : Steps s (execGateScheduleChange p s) := by
  unfold execGateScheduleChange
  refine .next ?_
  split
  · exact .ite (Evolves.refl.gateSwitch p) .refl
  · exact .refl

theorem slewComplete : Steps s (execSlewComplete s) := .next (.ite Evolves.refl.saffronTick .refl)

theorem engineFault (b : Bool) : Steps s (execEngineFault s b) := by
  unfold execEngineFault
  refine .next ?_
  extract_lets t src
  have ht : Evolves s t := Evolves.refl.engineGiveUp
  clear_value t
  exact .ite .refl (.ite (ht.tim _) ht)

theorem engineSelftestDone (b : Bool) : Steps s (execEngineSelftestDone b s) := by
  unfold execEngineSelftestDone
  refine .next ?_
  split
  · exact .refl
  · extract_lets src v src2
    have hv : Evolves s v := .tim .refl _
    exact .ite hv (.ite (hv.tim _) (hv.raise ..))

end Steps

end Sys2Proof
end

section
/-! PROOF. What table operations and the table command registers keep (R225 to R228, R254 to R258, R298, R344). -/
namespace Sys2Proof

open Sys2Proof.Machine

set_option Elab.async false

namespace Evolves

variable {s u : State}

theorem clearOlder (h : Evolves s u) (f key : Nat) : Evolves s (u.clearOlder f key) := h.changeKey ..
theorem touch (h : Evolves s u) (key : Nat) : Evolves s (u.touch key) := .ite h h.of_kept

theorem fwdWrite (h : Evolves s u) (f : Nat) (ws : List Word) : Evolves s (u.fwdWrite f ws).1 := by
  unfold State.fwdWrite
  extract_lets key vs n r
  have hr : Evolves s r.1 := (h.touch key).insertEntry ..
  split
  · exact h
  · split
    · exact h
    · split
      · exact (h.touch key).changeKey ..
      · split
        · exact hr.clearOlder ..
        · exact hr
        · exact hr

theorem fwdClear (h : Evolves s u) (f : Nat) (ws : List Word) : Evolves s (u.fwdClear f ws).1 := by
  unfold State.fwdClear
  split
  · exact h
  · exact (h.touch _).changeKey ..

theorem applyOp (h : Evolves s u) (f : Nat) (o : TblOp) : Evolves s (u.applyOp f o).1 := by
  unfold State.applyOp
  split
  · split
    · exact h.fwdWrite ..
    · exact h.fwdClear ..
  · split
    · exact h.rowWrite ..
    · exact h.rowClear ..

theorem imageOp (h : Evolves s u) (o : TblOp) : Evolves s (u.imageOp o).1 := by
  unfold State.imageOp
  extract_lets key
  split
  · split
    · exact h
    · split
      · exact h.changeKey ..
      · split
        · split
          · exact h
          · split
            · next v hv => exact h.insertAtOnce hv
            · exact h.rehashNeeded
        · exact h.changeKey ..
  · split
    · exact h.putRows ..
    · exact h.putRows ..

theorem cmdTake (h : Evolves s u) (t : Nat) : Evolves s (u.cmdTake t) := h.of_kept

theorem cmdEnd (h : Evolves s u) (t code sess : Nat) : Evolves s (u.cmdEnd t code sess) := by
  unfold State.cmdEnd
  extract_lets v w
  have hw : Evolves s w := (((h.cmdTake t).setFld ..).setFld ..).setFld ..
  exact .ite (hw.setFld ..) hw

theorem cmdData (h : Evolves s u) (t n : Nat) (ws : List Word) : Evolves s (u.cmdData t n ws) := h.foldl fun _ _ hv => hv.put ..

theorem readRow (h : Evolves s u) (t n : Nat) : Evolves s (u.readRow t n) := by
  unfold State.readRow
  refine .ite (h.cmdEnd ..) (.ite (h.cmdEnd ..) ?_)
  split
  · exact h.cmdEnd ..
  · next r _ =>
    have hd := (h.cmdData t n r.words).cmdEnd t 0 0
    exact .ite (hd.setFld ..) hd

theorem fwdRead (h : Evolves s u) : Evolves s u.fwdRead := by
  unfold State.fwdRead
  refine .ite (h.cmdEnd ..) (.ite (h.cmdEnd ..) ?_)
  extract_lets key
  split
  · exact h.cmdEnd ..
  · exact (h.cmdData ..).cmdEnd ..

theorem fwdReadNext (h : Evolves s u) : Evolves s u.fwdReadNext := by
  unfold State.fwdReadNext
  refine .ite (h.cmdEnd ..) (.ite (h.cmdEnd ..) (.ite (h.cmdEnd ..) (.ite (h.cmdEnd ..) ?_)))
  split
  · exact (h.cmdData ..).cmdEnd ..
  · exact (h.put ..).cmdEnd ..

theorem fwdFlush (h : Evolves s u) : Evolves s u.fwdFlush := by
  unfold State.fwdFlush
  refine .ite (h.cmdEnd ..) (.ite (h.cmdEnd ..) (.ite (h.cmdEnd ..) ?_))
  extract_lets p src
  have h1 : Evolves s { u with fwd := { u.fwd with flushCmd := some p } } := h.of_kept
  exact (h1.flushAdd p).cmdEnd ..

theorem placeAll (h : Evolves s u) (m : SMap FwdEntry) (sds : Option (Nat × Nat)) : Evolves s (u.placeAll m sds) := by
  unfold State.placeAll
  extract_lets r v w src x
  have hv : Evolves s v := .ite ((h.setCopyUp ..).setCopyUp ..) h
  have hw : Evolves s w := hv.foldl fun _ _ hy => hy.setCopy ..
  clear_value w
  have hx : Evolves s x := hw.of_kept
  exact .ite hx.rehashFailed hx

theorem seedRebuild (h : Evolves s u) (sd : Nat × Nat) : Evolves s (u.seedRebuild sd).1 := by
  unfold State.seedRebuild
  extract_lets r v
  have hv : Evolves s v := h.countN ..
  split
  · exact hv
  · exact (((hv.placeAll ..).put ..).put ..).placedAnew _

end Evolves

namespace Steps

variable {s : State}

theorem pipTblRead (sl : Nat) : Steps s (execPipTblRead sl s) := .next (.ite (.readRow .refl ..) .refl)
theorem mcastTblRead : Steps s (execMcastTblRead s) := .next (.ite (.readRow .refl ..) .refl)
theorem gateTblRead : Steps s (execGateTblRead s) := .next (.ite (.readRow .refl ..) .refl)
theorem fwdTblRead (ecc : List (Nat × BucketEcc)) : Steps s (execFwdTblRead s ecc) := .next (.ite (Evolves.refl.readEcc ecc).fwdRead .refl)
theorem fwdTblReadNext (ecc : List (Nat × BucketEcc)) : Steps s (execFwdTblReadNext s ecc) :=
  .next (.ite (Evolves.refl.readEcc ecc).fwdReadNext .refl)
theorem fwdTblFlush : Steps s (execFwdTblFlush s) := .next (.ite Evolves.refl.fwdFlush .refl)

end Steps

end Sys2Proof
end

section
/-! PROOF. What images, requests, sessions and staging keep (R54 to R62, R82 to R104, R456 to R458). -/
namespace Sys2Proof

open Sys2Proof.Machine

set_option Elab.async false

namespace Evolves

variable {s u : State}

/-! ### Images (R58) -/

theorem imagePut (h : Evolves s u) (r : Reg) (v : Word) : Evolves s (u.imagePut r v) :=
  .ite ((h.stPut ..).stPut ..) (h.put ..)

theorem imageModes (h : Evolves s u) (regs : List (Nat × Word)) : Evolves s (u.imageModes regs) := by
  refine h.foldl fun v kv hv => ?_
  split
  · exact hv.imagePut ..
  · exact hv.imagePut ..
  · exact hv

theorem applyRegs (m : State) (regs : List (Nat × Word)) (h : Evolves s u) : Evolves s (m.applyRegs u regs).1 := by
  induction regs generalizing u with
  | nil => exact h
  | cons kv rest ih =>
    unfold State.applyRegs
    split
    · exact h
    · split
      · exact h
      · split
        · exact ih h
        · split
          · exact h
          · exact ih (.of_kept (h.imagePut ..))

theorem applyPatterns (h : Evolves s u) (l : List (Nat × List Word)) : Evolves s (u.applyPatterns l).1 := by
  induction l generalizing u with
  | nil => exact h
  | cons x rest ih =>
    unfold State.applyPatterns
    extract_lets go r
    have hr : Evolves s r.1 := by
      refine List.foldlRecOn (motive := fun o : State × Bool => Evolves s o.1) _ _ h fun o ho k _ => ?_
      simp only [go]
      split
      · split
        · exact Evolves.imageOp ho _
        · exact ho
      · exact ho
    split
    · exact ih hr
    · exact hr

theorem applyImage (h : Evolves s u) (k : Nat) (i : Img) : Evolves s (u.applyImage k i).1 := by
  unfold State.applyImage
  extract_lets r p t regs src
  have hr : Evolves s r.1 := Evolves.applyRegs _ _ h
  have ht : Evolves s t := by
    unfold t p
    split
    · exact hr.applyPatterns _
    · exact hr
  clear_value t
  split
  · exact ht.of_kept
  · exact ht

theorem applyRecords (h : Evolves s u) (l : List TblOp) : Evolves s (u.applyRecords l).1 := by
  induction l generalizing u with
  | nil => exact h
  | cons o rest ih =>
    unfold State.applyRecords
    split
    · exact h
    · extract_lets r
      have hr : Evolves s r.1 := h.imageOp o
      split
      · exact ih hr
      · exact hr

theorem clearTables (h : Evolves s u) : Evolves s u.clearTables := h.of_kept

/-! ### Requests and responses (R88, R94, R456, R458) -/

theorem svcSend (h : Evolves s u) (src : Nat) (ws : List Word) : Evolves s (u.svcSend src ws) := .ite (h.emit _) h
theorem cmdRefused (h : Evolves s u) (t st : Nat) : Evolves s (u.cmdRefused t st) := h.cmdEnd ..
theorem keepOpen (h : Evolves s u) (src : Nat) (t : Word) (ws : List Word) : Evolves s (u.keepOpen src t ws) := h.of_kept

theorem putSession (h : Evolves s u) (k : Nat) (x : Session) : Evolves s (u.putSession k x) :=
  h.sessions rfl (skeysFrom_sinsert _ _ _ _ (fun _ hx => nomatch hx))

theorem svcAnswer (h : Evolves s u) (src : Nat) (k t : Word) (ws : List Word) : Evolves s (u.svcAnswer src k t ws) := by
  unfold State.svcAnswer
  extract_lets isOpen src v w x
  have hv : Evolves s v := h.of_kept
  have hw : Evolves s w := .ite (hv.keepOpen ..) hv
  have hx : Evolves s x := by
    unfold x
    split
    · exact .ite (hw.putSession ..) hw
    · exact hw
  exact hx.svcSend ..

theorem svcDrain (h : Evolves s u) (n : Nat) : Evolves s (u.svcDrain n) := by
  induction n generalizing u with
  | zero => exact h
  | succ n ih =>
    unfold State.svcDrain
    refine .ite h ?_
    split
    · exact h
    · next src ws rest _ =>
      have hq : Evolves s { u with mbx := { u.mbx with queue := rest } } := h.of_kept
      split
      · exact ih ((hq.count _).svcSend ..)
      · exact .ite h (ih (h.svcAnswer ..))

theorem respond (h : Evolves s u) (r : Reply) (st d : Nat) (p : List Word) : Evolves s (u.respond r st d p) := by
  unfold State.respond
  split
  · extract_lets was ws v w
    have hv : Evolves s v := h.foldl fun _ _ hx => hx.put ..
    have hw : Evolves s w := (hv.setFld ..).setFld ..
    exact hw.irqRise ..
  · exact (h.svcAnswer ..).svcDrain 16
  · exact .ite (h.cmdEnd ..) (.ite (h.cmdEnd ..) (h.cmdRefused ..))
  · exact h

theorem answerUnlisted (h : Evolves s u) (c : Nat) : Evolves s (u.answerUnlisted c) := .ite h (h.respond ..)

theorem answerQueue (h : Evolves s u) (n : Nat) : Evolves s (u.answerQueue n) := by
  induction n generalizing u with
  | zero => exact h
  | succ n ih =>
    unfold State.answerQueue
    split
    · exact h
    · exact ih (h.respond ..)

theorem answerLost (h : Evolves s u) : Evolves s u.answerLost := by
  unfold State.answerLost
  extract_lets src v w
  have hv : Evolves s v := h.of_kept
  have hw : Evolves s w := hv.foldl fun _ _ hx => hx.respond ..
  exact hw.answerQueue 16

/-! ### Sessions and staging (R82 to R104) -/

theorem setMbxState (h : Evolves s u) (c st role : Nat) : Evolves s (u.setMbxState c st role) := (h.setFld ..).setFld ..

theorem unbindWindow (h : Evolves s u) : Evolves s u.unbindWindow := .ite (((h.setFld ..).setFld ..).setFld ..) h

theorem eraseSession (h : Evolves s u) (k : Nat) : Evolves s { u with sessions := serase u.sessions k } :=
  h.sessions rfl (skeysFrom_serase _ _ _)

theorem closeSession (h : Evolves s u) (k : Nat) : Evolves s (u.closeSession k) := by
  unfold State.closeSession
  split
  · exact h
  · extract_lets v src w
    have hv : Evolves s v := by
      unfold v
      split
      · exact .setMbxState (.ite h.unbindWindow h) ..
      · exact h
    have hw : Evolves s w := by
      unfold w
      clear_value v
      split
      · exact .ite hv.of_kept hv
      · exact hv
    exact hw.eraseSession k

theorem closeAll (h : Evolves s u) : Evolves s u.closeAll := h.foldl fun _ _ hv => hv.closeSession _

theorem stageInto (h : Evolves s u) (e : Nat) (regs : SMap Word) : Evolves s (u.stageInto e regs) := by
  refine h.foldl fun v kv hv => ?_
  split
  · exact .ite (hv.stPut ..) hv
  · exact hv

theorem accept (h : Evolves s u) (j : Job) : Evolves s (u.accept j) := h.of_kept

theorem stageReg (h : Evolves s u) (k : Nat) (r : Reg) (v : Word) : Evolves s (u.stageReg k r v).1 := by
  unfold State.stageReg
  split
  · exact h
  · split
    · split
      · exact h
      · split
        · exact h.putSession ..
        · split
          · exact h
          · exact h.putSession ..
    · split
      · exact h
      · split
        · exact h
        · extract_lets w
          split
          · exact h.count _
          · exact h.accept _

theorem stageOp (h : Evolves s u) (k : Nat) (r : Reply) (o : TblOp) : Evolves s (u.stageOp k r o).1 := by
  unfold State.stageOp
  split
  · exact h
  · split
    · exact h
    · split
      · exact h
      · split
        · split
          · exact h
          · exact h.putSession ..
        · extract_lets w
          split
          · exact h.count _
          · exact h.accept _

end Evolves

end Sys2Proof
end

section
/-! PROOF. What the commit sequence keeps (R105 to R111). -/
namespace Sys2Proof

open Sys2Proof.Machine

set_option Elab.async false

namespace Evolves

variable {s u : State}

theorem iteFst {α : Type} {c : Prop} [Decidable c] {a b : State × α} (ha : Evolves s a.1) (hb : Evolves s b.1) :
    Evolves s (if c then a else b).1 := by
  split
  · exact ha
  · exact hb

theorem stErase (h : Evolves s u) (e : Nat) (r : Reg) : Evolves s (u.stErase e r) := by
  unfold State.stErase
  split
  · exact h.staged rfl fun h0 h1 => ⟨skeysFrom_serase _ _ _ h0, h1⟩
  · exact h.staged rfl fun h0 h1 => ⟨h0, skeysFrom_serase _ _ _ h1⟩

theorem writeBank (h : Evolves s u) (f : Nat) (regs : SMap Word) : Evolves s (u.writeBank f regs) := by
  unfold State.writeBank
  extract_lets put v w
  have hput : ∀ b x kv, Evolves s x → Evolves s (put b x kv) := fun b x kv hx => by
    unfold put
    split
    · exact .ite (hx.stPut ..) hx
    · exact hx
  have hv : Evolves s v := h.foldl fun x kv hx => hput _ _ _ hx
  have hw : Evolves s w := hv.foldl fun _ _ hx => hx.foldl fun _ _ hy => hy.stErase ..
  exact hw.foldl fun x kv hx => hput _ _ _ hx

theorem seedRestore (h : Evolves s u) (x : SeedUndo) : Evolves s (u.seedRestore x) := by
  unfold State.seedRestore
  extract_lets v src w
  have hv : Evolves s v := h.placeAll ..
  clear_value v
  have hw : Evolves s w := hv.of_kept
  exact (hw.put ..).put ..

theorem copyBank (h : Evolves s u) (f c : Nat) : Evolves s (u.copyBank f c) := by
  unfold State.copyBank
  extract_lets v w src
  have hv : Evolves s v := .ite (h.staged rfl fun _ h1 => ⟨h1, h1⟩) (h.staged rfl fun h0 _ => ⟨h0, h0⟩)
  have hw : Evolves s w := (hv.rowsMerge ..).fwdMerge ..
  clear_value w
  exact hw.of_kept

theorem jobs (h : Evolves s u) (l : List Job) : Evolves s { u with jobs := l } := h.of_kept

theorem abandon (h : Evolves s u) (j : Job) (rest : List Job) (code index : Nat) : Evolves s (u.abandon j rest code index) := by
  unfold State.abandon
  extract_lets f v w
  have hv : Evolves s v := by
    unfold v
    split
    · exact h.seedRestore _
    · exact h
  have hw : Evolves s w := (hv.jobs rest).copyBank ..
  exact (hw.count _).respond ..

theorem runOps (h : Evolves s u) (n : Nat) : Evolves s (u.runOps n) := by
  induction n generalizing u with
  | zero => exact h
  | succ n ih =>
    unfold State.runOps
    split
    · exact h
    · extract_lets f
      split
      · split
        · exact h.abandon ..
        · exact h.jobs _
      · refine .ite h ?_
        extract_lets r
        have hr : Evolves s r.1 := h.applyOp ..
        split
        · exact hr
        · exact ih (hr.jobs _)
        · exact hr.abandon ..

theorem applyJob (h : Evolves s u) (j : Job) (rest : List Job) : Evolves s (u.applyJob j rest) := by
  unfold State.applyJob
  extract_lets f v c x t
  have hv : Evolves s v := (h.jobs _).writeBank ..
  split
  · exact hv.runOps _
  · next sd _ =>
    have ht : Evolves s (v.seedRebuild sd).1 := hv.seedRebuild sd
    exact .ite (hv.runOps _) (.ite ((ht.jobs _).runOps _) (ht.rehashNeeded.abandon ..))

theorem goOn (h : Evolves s u) : Evolves s u.goOn := by
  unfold State.goOn
  split
  · exact .ite h (h.runOps _)
  · exact h

theorem insertLost (h : Evolves s u) (t : TuJob) : Evolves s (u.insertLost t) := by
  unfold State.insertLost
  extract_lets src v
  have hv : Evolves s v := h.of_kept
  split
  · exact .ite (hv.abandon ..) hv.goOn
  · exact hv

theorem endPort (h : Evolves s u) (p : Nat) (b : Bool) : Evolves s (u.endPort p b) := by
  unfold State.endPort
  extract_lets v w
  have hv : Evolves s v := ((h.stompPort p).failReception p).clearPause p
  have hw : Evolves s w := .ite ((hv.setFld ..).count _) h
  exact ((hw.setPortState ..).flushPort p).setPark ..

theorem eraseReg (h : Evolves s u) (r : Reg) : Evolves s { u with regs := serase u.regs r.addr } :=
  h.regs rfl (skeysFrom_serase _ _ _)

theorem freshInstances (h : Evolves s u) (p : Nat) : Evolves s (u.freshInstances p) := h.foldl fun _ _ hv => hv.eraseReg _

theorem createPort (h : Evolves s u) (p : Nat) : Evolves s (u.createPort p) := by
  unfold State.createPort
  extract_lets v w src x
  have hv : Evolves s v := ((h.freshInstances p).clearCounters _).putPortSt ..
  have hw : Evolves s w := hv.foldl fun y k hy => .setTok hy.of_kept ..
  clear_value w
  have hx : Evolves s x := hw.tim _
  exact hx.setPortState ..

theorem forgetPorts (h : Evolves s u) (ps : List Nat) : Evolves s (u.forgetPorts ps) := by
  unfold State.forgetPorts
  extract_lets keep
  split
  · exact h.of_kept
  · exact h

theorem portModeChange (h : Evolves s u) (a b c : List Nat) : Evolves s (u.portModeChange a b c) :=
  .forgetPorts (.foldl (h.foldl fun _ _ hv => hv.endPort ..) fun _ _ hv => hv.createPort _) _

theorem fcCfgChange (h : Evolves s u) (p m : Nat) : Evolves s (u.fcCfgChange p m) := by
  unfold State.fcCfgChange
  extract_lets m1 e1 st gone x xon y v rx obeyed w
  have hv : Evolves s v := (h.putPortSt ..).setFld ..
  have hw : Evolves s w := hv.setFld ..
  exact hw.pauseEval p

theorem tokChange (h : Evolves s u) (q w t : Nat) : Evolves s (u.tokChange q w t) := .ite (h.setTok ..) (h.setTok ..)

theorem gatesCommitted (h : Evolves s u) (ops : List TblOp) : Evolves s (u.gatesCommitted ops) := by
  refine h.foldl fun v p hv => ?_
  split
  · exact hv.gatePending ..
  · exact .ite (hv.gatePending ..) hv

theorem eraseBank (h : Evolves s u) (k : Nat) : Evolves s (u.eraseBank k) := h.of_kept
theorem setPersist (h : Evolves s u) (f : Fld) (v : Nat) : Evolves s (u.setPersist f v) := h.setFld ..
theorem persistFailed (h : Evolves s u) (st : Nat) : Evolves s (u.persistFailed st) := ((h.setPersist ..).setPersist ..).irqEvent _

theorem persistStart (h : Evolves s u) : Evolves s u.persistStart.1 := by
  unfold State.persistStart
  split
  · exact h
  · next i _ =>
    refine .iteFst (h.persistFailed _) (.iteFst (h.setPersist ..) (.iteFst (h.persistFailed _) ?_))
    extract_lets k img src v w src2
    have hv : Evolves s v := h.of_kept
    have hw : Evolves s w := ((hv.eraseBank k).setPersist ..).setPersist ..
    clear_value w
    exact hw.of_kept

theorem switchEpoch (h : Evolves s u) : Evolves s u.switchEpoch := by
  unfold State.switchEpoch
  extract_lets f v w x src
  have hv : Evolves s v := h.setFld ..
  have hw : Evolves s w := hv.put ..
  have hx : Evolves s x := hw.setFld ..
  clear_value x
  exact .ite hx.of_kept (h.copyBank ..)

theorem commitActions (h : Evolves s u) (was : State) (regs : SMap Word) : Evolves s (State.commitActions was regs u) := by
  unfold State.commitActions
  extract_lets rs v
  have hv : Evolves s v := by
    refine h.foldl fun w r hw => ?_
    split
    · exact hw.groupCfgChange ..
    · exact .ite hw (hw.sleepEval _)
    · exact .ite (hw.tokChange ..) hw
    · exact .ite (hw.fcCfgChange ..) hw
    · exact hw.l1Eval _
    · exact hw.newPpsOffset ..
    · exact .ite hw (hw.newPpsOffset ..)
    · exact hw
  exact hv.foldl fun _ _ hw => .ite (hw.noteImage _) hw

theorem pointOf (h : Evolves s u) (j : Job) (rest : List Job) : Evolves s (State.pointOf u j rest) := by
  unfold State.pointOf
  extract_lets f c created ceased old v1 v2 v3 v4 p
  have h1 : Evolves s v1 := (h.jobs rest).switchEpoch
  have h2 : Evolves s v2 := .ite (h1.portModeChange ..) ((h1.foldl fun _ _ hw => hw.freshInstances _).forgetPorts _)
  have h3 : Evolves s v3 := (h2.commitActions ..).gatesCommitted _
  have h4 : Evolves s v4 := h3.count _
  have hp : Evolves s p.1 := by
    unfold p
    split
    · exact h4.persistStart
    · exact h4
  exact (hp.respond ..).checkEpoch

end Evolves

namespace Steps

variable {s : State}

theorem commitApply (ecc : List (Nat × BucketEcc)) : Steps s (execCommitApply s ecc) := by
  unfold execCommitApply
  refine .next ?_
  split
  · exact .ite .refl ((Evolves.refl.readEcc ecc).applyJob ..)
  · exact .refl

theorem relocationMoveEnd (ecc : List (Nat × BucketEcc)) : Steps s (execRelocationMoveEnd s ecc) := by
  unfold execRelocationMoveEnd
  refine .next ?_
  split
  · exact Evolves.refl.goOn
  · next t _ =>
    extract_lets v r w x
    have hv : Evolves s v := Evolves.refl.readEcc ecc
    have hr : Evolves s r.1 := hv.endMove t
    have hw : Evolves s w := .ite hr (hr.count _)
    refine .ite (hv.insertLost t) (.ite hr ?_)
    split
    · exact .ite (.goOn ((hw.clearOlder ..).jobs _)) hw.goOn
    · exact hw

theorem commitPoint : Steps s (execCommitPoint s) := by
  unfold execCommitPoint
  refine .next ?_
  split
  · exact .ite (Evolves.refl.pointOf ..) .refl
  · exact .refl

theorem epochPromotion (l : List Nat) : Steps s (execEpochPromotion s l) := by
  unfold execEpochPromotion
  refine .next ?_
  extract_lets t
  have ht : Evolves s t := ((Evolves.refl.holdScans l).countN ..).endEpoch
  exact .ite (.ite ht (ht.foldl fun _ _ hv => hv.pauseEval _)) .refl

end Steps

end Sys2Proof
end

section
/-! PROOF. What time-interval measurement and its calibration keep (R390 to R411). -/
namespace Sys2Proof

open Sys2Proof.Machine

set_option Elab.async false

namespace Evolves

variable {s u : State}

theorem tic (h : Evolves s u) (x : Tic) : Evolves s { u with tic := x } := h.of_kept
theorem putTable (h : Evolves s u) (p : Nat) (x : CalTable) : Evolves s (u.putTable p x) := h.tic _
theorem putChan (h : Evolves s u) (k : Nat) (x : TicChan) : Evolves s (u.putChan k x) := ((h.tic _).setFld ..).setFld ..

theorem pushResult (h : Evolves s u) (k : Nat) (r : TicRes) : Evolves s (u.pushResult k r) :=
  .ite ((h.count _).setFld ..) (.ite ((h.putChan ..).irqEvent _) (h.putChan ..))

theorem startEdge (h : Evolves s u) (k : Nat) (t : Stamp) : Evolves s (u.startEdge k t) := by
  unfold State.startEdge
  refine .ite (h.count _) ?_
  extract_lets both d held near
  split
  · exact (h.putChan ..).pushResult ..
  · exact h.putChan ..

theorem stopFor (h : Evolves s u) (k : Nat) (t : Stamp) : Evolves s (u.stopFor k t) := by
  unfold State.stopFor
  extract_lets x
  split
  · exact .ite ((h.putChan ..).pushResult ..) (h.putChan ..)
  · exact h.putChan ..

theorem stopStamp (h : Evolves s u) (k : Nat) (t : Stamp) : Evolves s (u.stopStamp k t) := h.foldl fun _ _ hv => hv.stopFor ..

theorem periodEdge (h : Evolves s u) (k : Nat) (t : Stamp) : Evolves s (u.periodEdge k t) := by
  unfold State.periodEdge
  extract_lets x
  split
  · exact (h.putChan ..).pushResult ..
  · exact h.putChan ..

theorem recipEdge (h : Evolves s u) (k : Nat) (t : Stamp) : Evolves s (u.recipEdge k t) := by
  unfold State.recipEdge
  extract_lets x
  refine .ite h ?_
  split
  · exact h.putChan ..
  · exact h.putChan ..

theorem ticCfgWritten (h : Evolves s u) (k : Nat) (a b : Word) : Evolves s (u.ticCfgWritten k a b) := .ite h (h.putChan ..)
theorem takeCfg (h : Evolves s u) (k : Nat) : Evolves s (u.takeCfg k) := .ite h (h.putChan ..)

theorem ownEdge (h : Evolves s u) (k : Nat) (t : Stamp) (b : Bool) : Evolves s (u.ownEdge k t b) := by
  unfold State.ownEdge
  extract_lets x p stamped v
  have hv : Evolves s v := h.putChan ..
  split
  · exact .ite (hv.pushResult ..) hv
  · exact .ite (hv.periodEdge ..) (.ite (hv.startEdge ..) hv)
  · exact .ite (hv.recipEdge ..) hv
  · exact hv

theorem acceptEdge (h : Evolves s u) (k : Nat) (t : Stamp) (a b : Bool) : Evolves s (u.acceptEdge k t a b) := by
  unfold State.acceptEdge
  extract_lets x v w
  have hv : Evolves s v := (h.count _).putChan ..
  have hw : Evolves s w := .ite (hv.stopStamp ..) hv
  exact .ite (hw.ownEdge ..) hw

theorem readResult (h : Evolves s u) (k : Nat) : Evolves s (u.readResult k).1 := by
  unfold State.readResult
  extract_lets x
  split
  · exact ((h.put ..).put ..).put ..
  · exact (((h.putChan ..).irqSettle.put ..).put ..).put ..

theorem setCal (h : Evolves s u) (f : Fld) (v : Nat) : Evolves s (u.setCal f v) := h.setFld ..
theorem setOnSpare (h : Evolves s u) (p v : Nat) : Evolves s (u.setOnSpare p v) := .ite (h.setFld ..) h

theorem nextPos (h : Evolves s u) (n : Nat) : Evolves s (u.nextPos n) := by
  induction n generalizing u with
  | zero => exact h
  | succ n ih =>
    unfold State.nextPos
    extract_lets ts spare hot src
    clear_value hot
    split
    next pos todo _ =>
    extract_lets v src2 w inPlace
    have hv : Evolves s v := h.tic _
    clear_value v
    have hw : Evolves s w := hv.tic _
    split
    · exact (hw.setCal ..).setCal ..
    · exact .ite (ih hv) (((hv.setCal ..).setCal ..).count _)

theorem calOn (h : Evolves s u) : Evolves s u.calOn := h.nextPos _

theorem noteTemps (h : Evolves s u) (m : TempMoves) : Evolves s (u.noteTemps m) := h.foldl fun _ _ hv => .ite (hv.putTable ..) hv

theorem calRotation (h : Evolves s u) : Evolves s u.calRotation := (h.tic _).calOn

theorem finishTable (h : Evolves s u) (p : Nat) (x : Option CalTable) : Evolves s (u.finishTable p x) := by
  unfold State.finishTable
  split
  · exact .ite ((h.putTable ..).setFld ..) (h.putTable ..)
  · exact h.putTable ..

theorem noteSources (h : Evolves s u) (p : Nat) (r : Option CalTable × Option Bool × Option Bool) : Evolves s (u.noteSources p r) := by
  unfold State.noteSources
  extract_lets v w
  have hv : Evolves s v := by
    unfold v
    split
    · exact h.setCal ..
    · exact (h.setCal ..).event ..
    · exact h
  have hw : Evolves s w := by
    unfold w
    split
    · exact hv.setCal ..
    · exact hv
  exact .ite (hw.count _) hw

theorem calMismatch (h : Evolves s u) (p : Nat) : Evolves s (u.calMismatch p) := (h.count _).event ..

end Evolves

namespace Steps

variable {s : State}

theorem ticEdge (k : Nat) (b : Bool) (c : Nat) : Steps s (execTicEdge k b c s) := by
  unfold execTicEdge
  refine .next ?_
  extract_lets v x t own stop
  have hv : Evolves s v := Evolves.refl.foldl fun _ _ hw => .ite (hw.takeCfg _) hw
  exact .ite .refl (.ite hv (.ite (hv.count _) (.ite (hv.count _) (hv.acceptEdge ..))))

theorem stopStampExpires (k : Nat) : Steps s (execStopStampExpires k s) := .next (.ite .refl ((Evolves.refl.putChan ..).countN ..))

theorem intervalTimeout (k : Nat) : Steps s (execIntervalTimeout k s) := by
  unfold execIntervalTimeout
  refine .next ?_
  extract_lets x
  split
  · exact .refl
  · exact .ite ((Evolves.refl.putChan ..).pushResult ..) .refl

theorem recipGateEnd (k : Nat) : Steps s (execRecipGateEnd k s) := by
  unfold execRecipGateEnd
  refine .next ?_
  extract_lets x now y r
  refine .ite .refl (.ite (Evolves.refl.putChan ..) ?_)
  split
  · exact .ite ((Evolves.refl.putChan ..).pushResult ..) ((Evolves.refl.putChan ..).pushResult ..)
  · exact (Evolves.refl.putChan ..).pushResult ..

theorem calRotationStart (m : TempMoves) (b : Bool) : Steps s (execCalRotationStart m s b) := by
  have hv : Evolves s (s.noteTemps m) := Evolves.refl.noteTemps m
  exact .next (.ite hv (.ite hv.calOn hv.calRotation))

theorem calStepDone (seen : CalSeen) (m : TempMoves) : Steps s (execCalStepDone seen m s) := by
  unfold execCalStepDone
  refine .next ?_
  extract_lets v pos w r x src y src2 z q
  have hv : Evolves s v := Evolves.refl.noteTemps m
  have hx : Evolves s x := hv.noteSources ..
  have hy : Evolves s y := .ite (hv.finishTable ..) ((hv.calMismatch _).finishTable ..)
  have hz : Evolves s z := (hv.noteSources ..).finishTable ..
  have hq : Evolves s q := .ite (.ite ((hz.setCal ..).eventClear ..) ((hz.setCal ..).event ..)) hz
  clear_value x y
  refine .ite hv ?_
  split
  · exact .ite ((hv.setCal ..).setOnSpare ..) ((hv.calMismatch _).finishTable ..).calOn
  · exact hv.setCal ..
  · exact (hx.tic _).setCal ..
  · exact (hy.tic _).setCal ..
  · exact (hv.setOnSpare ..).calOn
  · exact hq.calOn
  · exact hv

end Steps

end Sys2Proof
end

section
/-! PROOF. What reference slots, selection, the loop and holdover keep (R358 to R377). -/
namespace Sys2Proof

open Sys2Proof.Machine

set_option Elab.async false

namespace Evolves

variable {s u : State}

theorem setRef (h : Evolves s u) (k : Nat) (f : Fld) (v : Nat) : Evolves s (u.setRef k f v) := h.setFld ..
theorem putSlot (h : Evolves s u) (k : Nat) (x : Slot) : Evolves s (u.putSlot k x) := h.tim _
theorem setSel (h : Evolves s u) (x : Sel) : Evolves s (u.setSel x) := h.tim _
theorem freqLost (h : Evolves s u) (k : Nat) : Evolves s (u.freqLost k) := (h.setRef ..).putSlot ..
theorem declareLos (h : Evolves s u) (k : Nat) : Evolves s (u.declareLos k) := ((h.setRef ..).freqLost k).putSlot ..
theorem addSample (h : Evolves s u) (k : Nat) (t e : Int) : Evolves s (u.addSample k t e) := h.putSlot ..

theorem enterQual (h : Evolves s u) (k : Nat) (b : Bool) : Evolves s (u.enterQual k b) :=
  (((h.setRef ..).setRef ..).setRef ..).putSlot ..

theorem failSlot (h : Evolves s u) (k : Nat) (arm : Bool) : Evolves s (u.failSlot k arm) := by
  unfold State.failSlot
  extract_lets active v src w src2 x
  have hv : Evolves s v := (h.setRef ..).setRef ..
  have hw : Evolves s w := .ite (hv.putSlot ..) hv
  have hx : Evolves s x := .ite ((hw.setFld ..).setSel _) hw
  exact hx.count _

theorem slotOff (h : Evolves s u) (k : Nat) : Evolves s (u.slotOff k) := by
  have hv := (h.put (.TIM_REF_STATUS k) (u.get (.TIM_REF_STATUS k) &&& faultMask (u.refKind k))).putSlot k
    { idleSlot with lastEdge := (u.slot k).lastEdge }
  exact .ite (hv.setFld ..) hv

theorem refCfgWritten (h : Evolves s u) (k : Nat) (old : Word) : Evolves s (u.refCfgWritten k old) := .ite (h.putSlot ..) h
theorem freqFault (h : Evolves s u) (k : Nat) : Evolves s (u.freqFault k) := .ite (h.setRef ..) (.ite (h.setRef ..) h)

theorem slotStep (h : Evolves s u) (k : Nat) : Evolves s (u.slotStep k) := by
  unfold State.slotStep
  extract_lets v
  have hv : Evolves s v := .ite h (h.freqFault k)
  refine .ite (h.slotOff k) ?_
  split
  · exact .ite hv (.ite (hv.setRef ..) (hv.enterQual ..))
  · exact .ite hv (hv.enterQual ..)
  · exact .ite (hv.failSlot ..) (.ite ((hv.setRef ..).setRef ..) hv)
  · exact .ite (hv.failSlot ..) hv
  · exact .ite (hv.failSlot ..) hv
  · exact hv

theorem roundFree (h : Evolves s u) (n d : Int) : Evolves s (u.roundFree n d).1 := h.tick1Free
theorem setY (h : Evolves s u) (y : Int) : Evolves s (u.setY y) := h.tim _

theorem loopEval (h : Evolves s u) (k : Nat) (e : Int) : Evolves s (u.loopEval k e) := by
  unfold State.loopEval
  extract_lets l b dt r1 i r2 big src v r3
  have h2 : Evolves s r2.1 := (h.roundFree ..).roundFree ..
  have hv : Evolves s v := h2.setSel _
  exact ((hv.roundFree ..).put ..).setY _

theorem settle (h : Evolves s u) : Evolves s u.settle := .ite h (.ite ((h.setFld ..).setSel _) h)
theorem loopSample (h : Evolves s u) (k : Nat) (e : Int) : Evolves s (u.loopSample k e) := .ite (h.loopEval ..).settle h

theorem ppsEdge (h : Evolves s u) (k : Nat) (st : Int) : Evolves s (u.ppsEdge k st) := by
  unfold State.ppsEdge
  extract_lets r e x v w y
  have hv : Evolves s v := h.setRef ..
  have hy : Evolves s y := by
    unfold y
    split
    · exact hv.putSlot ..
    · exact .ite (.ite ((hv.putSlot ..).setRef ..) (hv.putSlot ..)) ((hv.setRef ..).putSlot ..)
  exact (hy.addSample ..).loopSample ..

theorem clkEdge (h : Evolves s u) (k : Nat) (st : Int) : Evolves s (u.clkEdge k st) := h.putSlot ..

theorem clkStrobe (h : Evolves s u) (k : Nat) : Evolves s (u.clkStrobe k) := by
  unfold State.clkStrobe
  refine .ite h ?_
  extract_lets x period m
  split
  · extract_lets o v w e
    have hv : Evolves s v := h.putSlot ..
    have hw : Evolves s w := .ite (hv.setRef ..) hv
    exact (hw.addSample ..).loopSample ..
  · exact h.putSlot ..

theorem portFault (h : Evolves s u) (k : Nat) : Evolves s (u.portFault k) :=
  .ite h (.ite (h.setRef ..) (.ite h ((h.setRef ..).freqLost k)))

theorem slotServo (h : Evolves s u) (k : Nat) : Evolves s (u.slotServo k) := by
  unfold State.slotServo
  extract_lets p v los w x o y e z l old bad
  have hv : Evolves s v := h.portFault k
  have hw : Evolves s w := .ite (hv.setRef ..) (.ite hv (hv.declareLos k))
  have hy : Evolves s y := hw.putSlot ..
  exact .ite h (.ite (.ite hw ((hy.addSample ..).loopSample ..)) (hw.setRef ..))

theorem syntServo (h : Evolves s u) (k : Nat) : Evolves s (u.syntServo k) := by
  unfold State.syntServo
  extract_lets p ok l v
  have hv : Evolves s v := .ite h ((h.setFld ..).setSel _)
  exact .ite h (.ite (h.setFld ..) (.ite hv (hv.loopEval ..).settle))

theorem ptpSample (h : Evolves s u) (p : Nat) (o : Int) (n : Option Nat) : Evolves s (u.ptpSample p o n) := by
  unfold State.ptpSample
  refine h.foldl fun v k hv => .ite hv ?_
  extract_lets w l ph d bt num den r src src2
  have hw : Evolves s w := hv.addSample ..
  have hr : Evolves s r.1 := hw.roundFree ..
  exact .ite hw (.ite (.ite (hw.setSel _) (hr.setSel _)) (hw.loopSample ..))

theorem estimate (h : Evolves s u) (k : Nat) : Evolves s (u.estimate k) := by
  unfold State.estimate
  extract_lets x now recent m yInt den r v full
  have hv : Evolves s v := .ite h ((h.roundFree ..).put ..)
  exact .freqFault (.ite (hv.setRef ..) hv) k

theorem holdoverY (h : Evolves s u) : Evolves s u.holdoverY.1 := by
  unfold State.holdoverY
  extract_lets l r
  have hr : Evolves s r.1 := h.roundFree ..
  exact .iteFst hr h

theorem releaseActive (h : Evolves s u) : Evolves s u.releaseActive := by
  unfold State.releaseActive
  split
  · exact h.setRef ..
  · exact h

theorem loseTarget (h : Evolves s u) : Evolves s u.loseTarget := by
  unfold State.loseTarget
  extract_lets a v r w src x
  have hv : Evolves s v := h.releaseActive.setFld ..
  have hr : Evolves s r.1 := hv.holdoverY
  have hw : Evolves s w := (hr.setY _).setSelState 4
  have hx : Evolves s x := hw.setSel _
  exact .ite ((hx.count _).event ..) (((hv.setY _).setSelState 1).event ..)

theorem selDecide (h : Evolves s u) (k : Nat) (again : Bool) : Evolves s (u.selDecide k again) := by
  unfold State.selDecide
  extract_lets l old lost expired v r w valid x src y z
  have hv : Evolves s v := h.setSel _
  have hr : Evolves s r.1 := hv.holdoverY
  have hw : Evolves s w := .ite (hr.setY _) hv
  have hx : Evolves s x := .ite hw (hw.setFld ..)
  clear_value x
  have hy : Evolves s y := (hx.tim _).slewEnd
  have hz : Evolves s z := (hy.setSelState 2).setFld ..
  exact hz.setFld ..

theorem disagree (h : Evolves s u) : Evolves s u.disagree :=
  .ite (.ite h ((h.setFld ..).event ..)) ((h.setFld ..).eventClear ..)

theorem selFlags (h : Evolves s u) : Evolves s u.selFlags := (h.setFld ..).foldl fun _ _ hv => hv.setRef ..

theorem holdoverEstimate (h : Evolves s u) : Evolves s u.holdoverEstimate := by
  unfold State.holdoverEstimate
  extract_lets avg l used m span driftOk v r src w n q tc src2 x f
  have hv : Evolves s v := h.setFld ..
  have hr : Evolves s r.1 := hv.roundFree ..
  have hw : Evolves s w := .ite ((hr.put ..).setSel _) hv
  have hq : Evolves s q.1 := hw.roundFree ..
  have hx : Evolves s x := hq.setSel _
  exact .ite hw ((hx.roundFree ..).put ..)

theorem enterLocked (h : Evolves s u) : Evolves s u.enterLocked := (h.setSelState 3).holdoverEstimate
theorem hoCfgWritten (h : Evolves s u) : Evolves s u.hoCfgWritten := .selFlags (.ite h.holdoverEstimate h)

theorem selectionEval (h : Evolves s u) : Evolves s u.selectionEval := by
  unfold State.selectionEval
  refine .ite h ?_
  split
  · exact .ite ((h.setY 0).setSelState 1) h
  · extract_lets v target cur w x src r
    have hv : Evolves s v := h.disagree
    have hw : Evolves s w := hv.count _
    have hx : Evolves s x := (hw.setY _).enterLocked
    have hr : Evolves s r.1 := hv.holdoverY
    clear_value target
    refine .ite (.ite hv ?_) ?_
    · split
      · exact hw.loseTarget
      · exact .ite (hx.setSel _) (hw.selDecide ..)
    · split
      · exact .ite hv.loseTarget (.ite (hr.setY _) hv)
      · exact .ite hv.settle (hv.selDecide ..)

theorem notePhaseJump (h : Evolves s u) (k : Nat) (e : Int) : Evolves s (u.notePhaseJump k e) := by
  unfold State.notePhaseJump
  extract_lets r
  have hr : Evolves s r.1 := (h.setFld ..).roundFree ..
  exact ((hr.put ..).count _).event ..

theorem commitPhase (h : Evolves s u) (k : Nat) (e : Int) : Evolves s (u.commitPhase k e) := by
  unfold State.commitPhase
  extract_lets src v kind x o aligned set thresh w y src2 r
  have hv : Evolves s v := (h.setSel _).put ..
  have hw : Evolves s w := (hv.stepTo _).setFld ..
  have hy : Evolves s y := hv.notePhaseJump ..
  have hr : Evolves s r.1 := (hy.setSel _).roundFree ..
  exact .ite (hv.putSlot ..) (.ite (.ite (hw.setFld ..) hw) (.ite hv (.ite ((hv.stepTo _).notePhaseJump ..) (hr.put ..))))

theorem phaseServo (h : Evolves s u) : Evolves s u.phaseServo := h.foldl fun _ _ hv => .ite (hv.put ..) hv

end Evolves

namespace Steps

variable {s : State}

theorem slotRemainExpires (k : Nat) : Steps s (execSlotRemainExpires k s) := .next (.ite (.slotStep .refl k) .refl)

theorem refEdge (k c : Nat) : Steps s (execRefEdge k c s) := by
  unfold execRefEdge
  refine .next ?_
  extract_lets t src v st
  have hv : Evolves s v := Evolves.refl.putSlot ..
  exact .ite .refl (.ite .refl (.ite (hv.ppsEdge ..) (hv.clkEdge ..)))

theorem refLos (k : Nat) : Steps s (execRefLos k s) := .next (.ite (.declareLos .refl k) .refl)

theorem freqEstimate : Steps s (execFreqEstimate s) :=
  .next (Evolves.refl.foldl fun _ _ hv => .ite hv (.ite ((hv.estimate _).setRef ..) (hv.estimate _)))

theorem switchCommit : Steps s (execSwitchCommit s) := by
  unfold execSwitchCommit
  refine .next ?_
  extract_lets k v w
  have hv : Evolves s v := (Evolves.refl.releaseActive.setRef ..).setFld ..
  have hw : Evolves s w := hv.setFld ..
  refine .ite .refl ?_
  split
  · exact .refl
  · extract_lets x l y
    have hx : Evolves s x := (hw.commitPhase ..).count _
    have hy : Evolves s y := hx.setSel _
    exact hy.enterLocked.setFld ..

theorem holdoverStore : Steps s (execHoldoverStore s) := by
  unfold execHoldoverStore
  refine .next ?_
  extract_lets l now r store src
  have hr : Evolves s r.1 := Evolves.refl.roundFree ..
  exact .ite .refl (hr.setSel _).holdoverEstimate.selFlags

theorem holdoverExpires : Steps s (execHoldoverExpires s) := .next (.ite ((Evolves.refl.setFld ..).event ..) .refl)

theorem phaseSample (p w : Nat) (b : Bool) : Steps s (execPhaseSample p w b s) := by
  unfold execPhaseSample
  refine .next ?_
  extract_lets was ok v x y d
  have hv : Evolves s v := Evolves.refl.setFld ..
  have hx : Evolves s x := hv.setFld ..
  exact .ite .refl (.ite hx (.ite ((hx.putPtp ..).put ..) (hx.putPtp ..)))

end Steps

end Sys2Proof
end

section
/-! PROOF. What the PTP engine, the steward pair, Sumac and the rest of self-management keep (R333 to R338, R420 to R446). -/
namespace Sys2Proof

open Sys2Proof.Machine

set_option Elab.async false

theorem State.isPort_lt {s : State} {p : Nat} (h : s.isPort p = true) : p < 1024 := by
  simp only [State.isPort, Bool.and_eq_true, decide_eq_true_eq] at h
  exact h.1.1

theorem State.mayTransmit_lt {s : State} {p : Nat} (h : s.mayTransmit p = true) : p < 1024 := by
  simp only [State.mayTransmit, Bool.and_eq_true] at h
  exact State.isPort_lt h.1.1.1.2

namespace Evolves

variable {s u : State}

/-! ### The PTP engine (R333 to R338) -/

theorem engineSend (h : Evolves s u) {p : Nat} (bytes : List Byte) (hp : p < 1024) : Evolves s (u.engineSend p bytes) := by
  unfold State.engineSend
  extract_lets f0 f id
  have hf : Named s f := fun _ => ⟨hp, (nomatch ·), Fld.get_lt _ _⟩
  have hv : Evolves s (u.putFrame id f) := h.putFrame id hf
  have hw : Evolves s { u.putFrame id f with nextFrame := id + 1 } := hv.of_kept
  exact hw.enqueueFrame id true hf

theorem ptpReceive (h : Evolves s u) (id : Nat) (t : Nat → Bool) (roles : List Nat) (use : State → Frame → Nat → State)
    (huse : ∀ v f o, Evolves s v → Evolves s (use v f o)) : Evolves s (u.ptpReceive id t roles use) := by
  unfold State.ptpReceive
  split
  · exact h
  · next f o _ =>
    have hc := h.count (C.ptpRx f.port)
    exact .ite h (.frameGone (.ite (huse _ _ _ hc) (hc.count _)) id)

theorem useSync (h : Evolves s u) (f : Frame) (o : Nat) : Evolves s (u.useSync f o) := h.putPtp ..

theorem useFollowUp (h : Evolves s u) (f : Frame) (o : Nat) : Evolves s (u.useFollowUp f o) := by
  unfold State.useFollowUp
  extract_lets x
  split
  · exact h
  · exact .ite (h.putPtp ..) h

theorem useDelayReq (h : Evolves s u) (f : Frame) (o : Nat) : Evolves s (u.useDelayReq f o) := h.putPtp ..

theorem exchange (h : Evolves s u) (p : Nat) (y : SyncIn) (a b c d : Int) : Evolves s (u.exchange p y a b c d) := by
  unfold State.exchange
  extract_lets a b asym rd ro v x since w
  have hro : Evolves s ro.1 := (h.roundFree ..).roundFree ..
  have hv : Evolves s v := (hro.put ..).put ..
  have hw : Evolves s w := hv.putPtp ..
  exact hw.ptpSample ..

theorem useDelayResp (h : Evolves s u) (f : Frame) (o : Nat) : Evolves s (u.useDelayResp f o) := by
  unfold State.useDelayResp
  extract_lets p x l
  split
  · split
    · exact .ite (h.exchange ..) h
    · exact h
  · exact h

theorem useAnnounce (h : Evolves s u) (f : Frame) (o : Nat) : Evolves s (u.useAnnounce f o) := (h.putPtp ..).setFld ..

theorem setL1 (h : Evolves s u) (p v : Nat) : Evolves s (u.setL1 p v) := h.setFld ..

theorem useSignaling (h : Evolves s u) (f : Frame) (o : Nat) : Evolves s (u.useSignaling f o) := by
  unfold State.useSignaling
  refine .ite h ?_
  split
  · exact h.setL1 ..
  · exact h.setL1 ..
  · exact h.tick1Free.setL1 ..
  · exact h.tick1Free.setL1 ..

/-! ### The steward pair (R420 to R427) -/

theorem setPair (h : Evolves s u) (f : Fld) (v : Nat) : Evolves s (u.setPair f v) := h.setFld ..
theorem setStandbyOk (h : Evolves s u) (b : Bool) : Evolves s (u.setStandbyOk b) := .ite ((h.setPair ..).clearCode _) (h.setPair ..)

theorem giveUp (h : Evolves s u) (c : Nat) : Evolves s (u.giveUp c) := by
  unfold State.giveUp
  extract_lets src v src2
  have hv : Evolves s v := h.of_kept
  exact .ite h (.ite hv.of_kept ((hv.setPair ..).raise ..).answerLost)

theorem takeover (h : Evolves s u) : Evolves s u.takeover := by
  unfold State.takeover
  split
  · exact h
  · extract_lets a src v w x
    have hv : Evolves s v := h.of_kept
    have hw : Evolves s w := (hv.setPair ..).setPair ..
    have hx : Evolves s x := (hw.count _).event ..
    exact .ite ((hx.setPair ..).setStandbyOk _) (.ite ((hx.setPair ..).setStandbyOk _) ((hx.setPair ..).setStandbyOk _))

theorem stewardSwap (h : Evolves s u) : Evolves s u.stewardSwap := .ite (h.giveUp 2) h

/-! ### Sumac (R428 to R434) -/

theorem swapUnit (h : Evolves s u) (kind idx sp : Nat) : Evolves s (u.swapUnit kind idx sp) := by
  unfold State.swapUnit
  extract_lets k l v src w src2 x y
  have hv : Evolves s v := (h.setUnit ..).setUnit ..
  have hw : Evolves s w := hv.of_kept
  have hx : Evolves s x := .ite hw.of_kept hw
  have hy : Evolves s y := (hx.count _).event ..
  exact .ite (hy.event ..) hy

theorem straggler (h : Evolves s u) (kind idx : Nat) : Evolves s (u.straggler kind idx) := by
  unfold State.straggler
  split
  · extract_lets v
    have hv : Evolves s v := h.count _
    split
    · exact hv.swapUnit ..
    · exact hv.event ..
  · exact (h.count _).setUnit ..
  · exact h
  · exact h

theorem sumacUnit (h : Evolves s u) (kind idx t m : Nat) : Evolves s (u.sumacUnit kind idx t m) := by
  unfold State.sumacUnit
  extract_lets k above up down told due rest src v
  have hv : Evolves s v := h.of_kept
  exact .ite (hv.straggler ..) (.ite (hv.eventClear ..) hv)

theorem stallFrame (h : Evolves s u) (kind : Nat) (s0 : State) (id : Nat) : Evolves s (u.stallFrame kind s0 id) := by
  unfold State.stallFrame
  split
  · exact h
  · extract_lets v w
    have hv : Evolves s v := .ite (h.countDrop ..) (h.foldl fun _ _ hx => .ite hx (hx.count _))
    have hw : Evolves s w := ((hv.updFrame id (g := fun f => { f with bad := true }) fun f ⟨a, b, c⟩ => ⟨a, b, c⟩).killReplicas id).checkGone id
    exact hw.dpiRelease ..

theorem loseBank (h : Evolves s u) (b : Nat) : Evolves s (u.loseBank b) :=
  h.mapFrames (fun _ => rfl) fun _ ⟨a, b, c⟩ => ⟨a, b, c⟩

/-! ### Adaptive voltage, temperature (R435 to R446) -/

theorem hlt (h : Evolves s u) (x : Hlt) : Evolves s { u with hlt := x } := h.of_kept

theorem setRequest (h : Evolves s u) (mv : Nat) : Evolves s (u.setRequest mv) := by
  unfold State.setRequest
  extract_lets old v w x soon src
  have hv : Evolves s v := .ite h (h.emit _)
  have hw : Evolves s w := hv.setFld ..
  have hx : Evolves s x := hw.setFld ..
  clear_value soon x
  exact .ite hx ((hx.hlt _).event ..)

theorem askRequest (h : Evolves s u) : Evolves s u.askRequest := h.emit _

theorem avsStep (h : Evolves s u) (m : Option Margin) : Evolves s (u.avsStep m) := by
  unfold State.avsStep
  extract_lets req ceil floor high run src v
  have hv : Evolves s v := h.of_kept
  refine .ite hv (.ite (hv.setRequest _) ?_)
  split
  · exact hv
  · exact .ite (.ite ((hv.setRequest _).count _) hv) (.ite ((hv.setRequest _).count _) hv)

theorem rateLimit (h : Evolves s u) (k i : Nat) (m : Option Margin) : Evolves s (u.rateLimit k i m) := by
  unfold State.rateLimit
  extract_lets k below neg non src v ceil
  have hv : Evolves s v := h.of_kept
  exact .ite (hv.eventClear ..) (.ite (hv.raise ..) hv)

theorem showMargin (h : Evolves s u) (m : Option Margin) : Evolves s (u.showMargin m) := by
  unfold State.showMargin
  split
  · exact (h.roundFree ..).put ..
  · exact h.put ..

theorem avsAnswer (h : Evolves s u) (mv : Nat) : Evolves s (u.avsAnswer mv) := by
  unfold State.avsAnswer
  extract_lets v src
  have hv : Evolves s v := (h.setFld ..).setFld ..
  clear_value v
  exact .eventClear hv.of_kept ..

theorem tempRule (h : Evolves s u) (c l k : Nat) : Evolves s (u.tempRule c l k) := .ite (h.raise ..) (.ite (h.clearCode _) h)

end Evolves

namespace Steps

variable {s : State}

theorem ptpSyncTx (p : Nat) : Steps s (execPtpSyncTx p s) := by
  unfold execPtpSyncTx
  refine .next ?_
  split
  · exact .refl
  · next hm => exact (Evolves.refl.putPtp ..).engineSend _ (State.mayTransmit_lt (by simpa using hm))

theorem ptpFollowUpTx (p : Nat) : Steps s (execPtpFollowUpTx p s) := by
  unfold execPtpFollowUpTx
  refine .next ?_
  split
  · exact .refl
  · split
    · exact .refl
    · next hm => exact (Evolves.refl.putPtp ..).engineSend _ (State.mayTransmit_lt (by simpa using hm))

theorem ptpDelayRespTx (p : Nat) : Steps s (execPtpDelayRespTx p s) := by
  unfold execPtpDelayRespTx
  refine .next ?_
  split
  · exact .refl
  · split
    · exact .refl
    · next hm => exact (Evolves.refl.putPtp ..).engineSend _ (State.mayTransmit_lt (by simpa using hm))

theorem ptpDelayReqTx (p : Nat) : Steps s (execPtpDelayReqTx p s) := by
  unfold execPtpDelayReqTx
  refine .next ?_
  split
  · exact .refl
  · next hm =>
    simp only [Bool.or_eq_true, Bool.not_eq_true', not_or, Bool.not_eq_false] at hm
    exact (Evolves.refl.putPtp ..).engineSend _ (State.isPort_lt hm.1.2)

theorem ptpAnnounceTx (p : Nat) : Steps s (execPtpAnnounceTx p s) := by
  unfold execPtpAnnounceTx
  refine .next ?_
  split
  · exact .refl
  · next hm => exact (Evolves.refl.putPtp ..).engineSend _ (State.mayTransmit_lt (by simpa using hm))

theorem ptpSignalingTx (p : Nat) : Steps s (execPtpSignalingTx p s) := by
  unfold execPtpSignalingTx
  refine .next ?_
  extract_lets ok x l b
  split
  · exact .refl
  · next hm =>
    simp only [Bool.or_eq_true, Bool.not_eq_true', not_or, Bool.not_eq_false] at hm
    refine (Evolves.refl.putPtp ..).engineSend _ ?_
    have hok := hm.1
    unfold ok at hok
    split at hok
    · exact State.mayTransmit_lt hok
    · simp only [Bool.and_eq_true] at hok
      exact State.isPort_lt hok.1.2

theorem ptpSyncRx (id : Nat) : Steps s (execPtpSyncRx id s) := .next (.ptpReceive .refl _ _ _ _ fun _ _ _ h => h.useSync ..)
theorem ptpFollowUpRx (id : Nat) : Steps s (execPtpFollowUpRx id s) := .next (.ptpReceive .refl _ _ _ _ fun _ _ _ h => h.useFollowUp ..)
theorem ptpDelayReqRx (id : Nat) : Steps s (execPtpDelayReqRx id s) := .next (.ptpReceive .refl _ _ _ _ fun _ _ _ h => h.useDelayReq ..)
theorem ptpDelayRespRx (id : Nat) : Steps s (execPtpDelayRespRx id s) :=
  .next (.ptpReceive .refl _ _ _ _ fun _ _ _ h => h.useDelayResp ..)
theorem ptpAnnounceRx (id : Nat) : Steps s (execPtpAnnounceRx id s) := .next (.ptpReceive .refl _ _ _ _ fun _ _ _ h => h.useAnnounce ..)

theorem ptpSignalingRx (id : Nat) : Steps s (execPtpSignalingRx id s) := by
  unfold execPtpSignalingRx
  refine .next ?_
  split
  · exact .refl
  · exact .ptpReceive .refl _ _ _ _ fun _ _ _ h => h.useSignaling ..

theorem announceTimeout (p : Nat) : Steps s (execAnnounceTimeout p s) := .next (.ite ((Evolves.refl.setFld ..).count _) .refl)

theorem l1PeerTimeout (p : Nat) : Steps s (execL1PeerTimeout p s) := by
  unfold execL1PeerTimeout
  refine .next (.ite .refl ?_)
  split
  · exact .setL1 .refl ..
  · exact .setL1 .refl ..
  · exact .setL1 .refl ..
  · exact .refl

theorem standbyAckTimeout : Steps s (execStandbyAckTimeout s) := .next (.ite (.setStandbyOk .refl _) .refl)
theorem stewardLockstepMismatch : Steps s (execStewardLockstepMismatch s) := .next (.giveUp .refl _)
theorem stewardMemoryError : Steps s (execStewardMemoryError s) := .next (.giveUp .refl _)
theorem stewardRotation : Steps s (execStewardRotation s) := .next (.ite (.giveUp .refl _) .refl)
theorem stewardSelftestDone (b : Bool) : Steps s (execStewardSelftestDone b s) :=
  .next (.ite .refl (.ite ((Evolves.refl.setPair ..).setStandbyOk _) (Evolves.refl.setPair ..)))
theorem standbySelftest (b : Bool) : Steps s (execStandbySelftest b s) :=
  .next (.ite .refl ((Evolves.refl.setPair ..).setStandbyOk _))
theorem stewardSingleTimer : Steps s (execStewardSingleTimer s) := .next (.ite .refl (.raise .refl ..))

theorem memoryScrub (f : ScrubFound) : Steps s (execMemoryScrub f s) := by
  unfold execMemoryScrub
  refine .next ?_
  extract_lets w
  split
  · exact .event .refl ..
  · exact .giveUp .refl _
  · exact .ite ((Evolves.refl.setPair ..).setStandbyOk _) .refl

theorem rowScrub (t r : Nat) : Steps s (execRowScrub t r s) := .next (.event .refl ..)

theorem sumacWindow (g : List CycleGroup) : Steps s (execSumacWindow g s) :=
  .next (Evolves.refl.foldl fun _ _ hv => .ite hv (hv.foldl fun _ _ hw => hw.sumacUnit ..))

theorem unitStalled (k i : Nat) (l : List Nat) : Steps s (execUnitStalled k i l s) := by
  unfold execUnitStalled
  refine .next ?_
  extract_lets bank active v w x
  have hv : Evolves s v := Evolves.refl.event ..
  have hw : Evolves s w := hv.foldl fun _ _ h => h.stallFrame ..
  have hx : Evolves s x := .ite (hw.loseBank _) hw
  refine .ite .refl (.ite hx ?_)
  split
  · extract_lets t src
    have ht : Evolves s t := hx.swapUnit ..
    clear_value t
    exact .ite ht.of_kept ht
  · exact hx.event ..

theorem unitSelftestDone (k i : Nat) (b : Bool) (p : List (Nat × List Nat)) : Steps s (execUnitSelftestDone k i b p s) :=
  .next (.ite .refl (.ite ((Evolves.refl.setUnit ..).eventClear ..) (Evolves.refl.setUnit ..)))

theorem spareSelftest (l : List (Nat × Nat)) : Steps s (execSpareSelftest l s) :=
  .next (.ite .refl (Evolves.refl.foldl fun _ _ hv => .ite ((hv.setUnit ..).event ..) hv))

theorem avsEval (d : List Demand) : Steps s (execAvsEval d s) := by
  unfold execAvsEval
  refine .next ?_
  extract_lets margins w v x seen y
  have hv : Evolves s v := Evolves.refl.showMargin _
  have hx : Evolves s x := .ite (hv.avsStep _) hv
  have hy : Evolves s y := hx.foldl fun _ _ h => h.rateLimit ..
  exact hy.foldl fun _ _ h => h.rateLimit ..

theorem avsReadback (mv : Option Nat) : Steps s (execAvsReadback mv s) := by
  unfold execAvsReadback
  refine .next (.ite .refl ?_)
  split
  · exact .avsAnswer .refl _
  · extract_lets n src v
    have hv : Evolves s v := .of_kept .refl
    exact .ite ((hv.setFld ..).raise ..) hv

theorem avsRetry (mv : Option Nat) : Steps s (execAvsRetry mv s) := by
  unfold execAvsRetry
  refine .next ?_
  split
  · exact .ite (.avsAnswer .refl _) .refl
  · exact .refl

theorem engineStandbySelftest (b : Bool) : Steps s (execEngineStandbySelftest b s) := by
  unfold execEngineStandbySelftest
  refine .next ?_
  extract_lets e v src
  have hv : Evolves s v := (Evolves.refl.setFld ..).setFld ..
  clear_value v
  exact .ite .refl ((hv.tim _).raise ..)

theorem sensorCheck (l : List Nat) : Steps s (execSensorCheck l s) :=
  .next (Evolves.refl.foldl fun _ _ hv => .ite ((hv.setFld ..).event ..) (hv.setFld ..))

theorem tempReading (k : Nat) (e : Int) : Steps s (execTempReading k e s) :=
  .next (.ite .refl (((Evolves.refl.setFld ..).tempRule ..).tempRule ..))

end Steps

end Sys2Proof
end

section
/-! PROOF. What the host link, the rings and the interrupt controller keep (R452 to R484). -/
namespace Sys2Proof

open Sys2Proof.Machine

set_option Elab.async false

/-- The transmit rings take their turns among 32. -/
theorem State.txTurn_lt {s : State} {r : Nat} (h : s.txTurn = some r) : r < 32 := by
  have hm := List.mem_of_find?_eq_some h
  obtain ⟨k, -, rfl⟩ := List.mem_map.mp hm
  exact Nat.mod_lt _ (by decide)

namespace Evolves

variable {s u : State}

theorem setRingState (h : Evolves s u) (x v : Nat) : Evolves s (u.setRingState x v) := h.setFld ..
theorem setHead (h : Evolves s u) (x v : Nat) : Evolves s (u.setHead x v) := h.setFld ..
theorem completed (h : Evolves s u) (x v : Nat) : Evolves s (u.completed x v) := (h.putRing ..).setFld ..

theorem rxPop (h : Evolves s u) (r : Nat) : Evolves s (u.rxPop r) := by
  unfold State.rxPop
  split
  · exact (h.putRing ..).checkGone _
  · exact h

theorem rxWrites (h : Evolves s u) (r : Nat) (f : Frame) (why : Nat) (bufs : List Nat) : Evolves s (u.rxWrites r f why bufs) := by
  unfold State.rxWrites
  extract_lets buf data d at' v w
  have hv : Evolves s v := h.foldl fun _ _ hx => hx.emit _
  have hw : Evolves s w := hv.foldl fun _ _ hx => hx.emit _
  exact (hw.emit _).emit _

theorem rxServe (h : Evolves s u) (r : Nat) (bufs : List Nat) (x : RxItem) (f : Frame) : Evolves s (u.rxServe r bufs x f) := by
  unfold State.rxServe
  extract_lets buf d k v
  have hv : Evolves s v := (((h.rxWrites ..).setHead ..).completed ..).count _
  exact .ite (((h.count _).setFld ..).rxPop r) (hv.rxPop r).irqSettle

theorem txTake (h : Evolves s u) (r n : Nat) (t : TxItem) : Evolves s (u.txTake r n t) := (h.putRing ..).setHead ..

theorem rxFlush (h : Evolves s u) (r : Nat) : Evolves s (u.rxFlush r) := h.foldl fun _ _ hv => (hv.count _).rxPop r

theorem ringCfgWritten (h : Evolves s u) (x : Nat) : Evolves s (u.ringCfgWritten x) := by
  unfold State.ringCfgWritten
  extract_lets en st v src w y
  have hv : Evolves s v := ((h.put ..).put ..).put ..
  have hw : Evolves s w := h.setRingState ..
  have hy : Evolves s y := by
    refine .ite (((hv.put ..).putRing ..).setRingState ..) (.ite (.ite (hw.rxFlush x) ?_) h)
    split
    · exact hw.txAbort _
    · exact hw
  exact hy.irqSettle

theorem ringAckWritten (h : Evolves s u) (x : Nat) : Evolves s (u.ringAckWritten x) := (h.putRing ..).irqSettle

theorem txDmaFail (h : Evolves s u) (x id : Nat) : Evolves s (u.txDmaFail x id) := by
  unfold State.txDmaFail
  extract_lets v items src
  have hv : Evolves s v := h.count _
  refine .ite ?_ h
  split
  · next f hf =>
    exact .ite (hv.txAbort id) ((((hv.putRing ..).putFrame id (hv.named hf).upd).killReplicas id).checkGone id)
  · exact hv

theorem irq (h : Evolves s u) (x : Irq) : Evolves s { u with irq := x } := h.of_kept

theorem irqClaim (h : Evolves s u) (t : Nat) : Evolves s (u.irqClaim t).1 := by
  unfold State.irqClaim
  extract_lets unbind
  have hb : ∀ v, Evolves s v → Evolves s (unbind v) := fun v hv => by
    unfold unbind
    extract_lets w src
    have hw : Evolves s w := hv.foldl fun _ _ hx => .ite (hx.irqBind ..) hx
    clear_value w
    exact (hw.irq _).irqSettle
  split
  · exact hb _ (h.count _)
  · next i _ =>
    extract_lets p v w src x
    have hv : Evolves s v := h.setFld ..
    have hw : Evolves s w := .ite (hv.setFld ..) hv
    clear_value w
    have hx : Evolves s x := hw.irq _
    exact hb _ (hx.count _)

theorem irqEoi (h : Evolves s u) (t : Nat) (v : Word) : Evolves s (u.irqEoi t v) := by
  unfold State.irqEoi
  extract_lets mismatch
  have hm : ∀ w, Evolves s w → Evolves s (mismatch w) := fun w hw => hw.setFld ..
  split
  · exact hm _ h
  · extract_lets w x src
    have hw : Evolves s w := .ite h (hm _ h)
    have hx : Evolves s x := hw.setFld ..
    clear_value x
    exact (hx.irq _).irqSettle

theorem msixSend (h : Evolves s u) (t : Nat) : Evolves s (u.msixSend t) := h.emit _

theorem msixRelease (h : Evolves s u) (t : Nat) : Evolves s (u.msixRelease t) := by
  unfold State.msixRelease
  extract_lets src v src2
  have hv : Evolves s v := h.irq _
  exact .ite h (.ite (hv.msixSend t) (hv.irq _))

theorem msixWrite (h : Evolves s u) (o : Nat) (v : Word) : Evolves s (u.msixWrite o v) := by
  unfold State.msixWrite
  extract_lets t e src put
  have hp : ∀ e, Evolves s (put e) := fun e => h.irq _
  refine .ite h ?_
  split
  · exact hp _
  · exact hp _
  · exact hp _
  · exact h.irq _

theorem filterFrames (h : Evolves s u) (p : Nat × Frame → Bool) : Evolves s { u with frames := u.frames.filter p } :=
  h.frames rfl (skeysFrom_filter _ _ _) fun hr _ hm => h.frame (List.mem_of_mem_filter hm) hr

theorem ringLost (h : Evolves s u) (x : Nat) : Evolves s (u.ringLost x) := by
  unfold State.ringLost
  extract_lets v w
  have hv : Evolves s v := .ite (h.rxFlush x) h
  have hw : Evolves s w := ((hv.setFld ..).setRingState ..).putRing ..
  exact .ite hw (hw.filterFrames _)

end Evolves

namespace Steps

variable {s : State}

theorem hostRxDeliver (r : Nat) (b : List Nat) : Steps s (execHostRxDeliver r b s) := by
  unfold execHostRxDeliver
  refine .next (.ite .refl ?_)
  split
  · exact .refl
  · split
    · exact .rxPop .refl r
    · have hv : Evolves s { s with rxNext := (r + 1) % 32 } := .of_kept .refl
      exact .ite (.rxPop .refl r) (hv.rxServe ..)

theorem hostTxFrame (r : Nat) (c : List Desc) (d : List Byte) (b : List Nat) : Steps s (execHostTxFrame r c d b s) := by
  unfold execHostTxFrame
  refine .next ?_
  extract_lets x ds sop item src id a
  split
  · exact .refl
  · next hr =>
    have hr : r < 32 := State.txTurn_lt (not_not.mp hr)
    split
    · exact .putRing .refl ..
    · have hv : Evolves s { s with txNext := (r + 1) % 32 } := .of_kept .refl
      exact (hv.count _).txTake ..
    · next n _ =>
      extract_lets len f0 p f v
      have hf : Named s f := fun _ => ⟨by show r < 1024; omega, fun _ => hr, by show 0 < 16; decide⟩
      have hv : Evolves s v := by
        have h1 : Evolves s (s.putFrame id f) := Evolves.refl.putFrame id hf
        have h2 : Evolves s { s.putFrame id f with nextFrame := id + 1, txNext := (r + 1) % 32 } := h1.of_kept
        exact h2.txTake ..
      exact .ite (hv.applyAction id a hf) (hv.firstPass id p a b hf)

theorem hostTxRetry (r : Nat) (b : Bool) : Steps s (execHostTxRetry r b s) := by
  unfold execHostTxRetry
  refine .next ?_
  extract_lets limit
  split
  · exact .refl
  · split
    · exact .refl
    · next f hf => exact .ite (Evolves.refl.enqueueHost _ _ _ (Evolves.refl.named hf)) .refl

theorem hostTxCompletion (r : Nat) : Steps s (execHostTxCompletion r s) := by
  unfold execHostTxCompletion
  refine .next ?_
  extract_lets x
  split
  · exact .refl
  · refine .ite .refl ?_
    extract_lets a stamp v w y
    have hw : Evolves s w := (Evolves.refl.emit _).emit _
    have hy : Evolves s y := hw.emit _
    exact ((hy.putRing ..).completed ..).irqSettle

theorem ringStopped (x : Nat) : Steps s (execRingStopped x s) := .next (.ite (Evolves.refl.setRingState ..).irqSettle .refl)

theorem ringDmaError (x : Nat) (e : DmaError) (f : Option Nat) : Steps s (execRingDmaError x e f s) := by
  unfold execRingDmaError
  refine .next ?_
  extract_lets v w y
  have hv : Evolves s v := (Evolves.refl.setRingState ..).setFld ..
  have hw : Evolves s w := hv.count _
  have hy : Evolves s y := by
    refine .ite (.ite hw ((hw.count _).rxPop x)) ?_
    split
    · exact hw.txDmaFail ..
    · exact hw
  exact .ite .refl hy.irqSettle

theorem ringNoticeTimeout (x : Nat) : Steps s (execRingNoticeTimeout x s) := .next (.ite Evolves.refl.irqSettle .refl)

theorem msixUnmask (op : MsixOp) (o : Nat) (v : Word) : Steps s (execMsixUnmask op o v s) := by
  unfold execMsixUnmask
  refine .next ?_
  split
  · exact Evolves.foldl ((Evolves.refl.setFld ..).setFld ..) fun _ _ h => h.msixRelease _
  · exact (Evolves.refl.msixWrite ..).foldl fun _ _ h => h.msixRelease _
  · exact .emit .refl _

theorem pcieLinkLoss (c : PcieLoss) : Steps s (execPcieLinkLoss c s) := by
  unfold execPcieLinkLoss
  refine .next ?_
  extract_lets v1 v2 v3 src v4 v5 v6
  have h1 : Evolves s v1 := (Evolves.refl.foldl fun _ _ h => h.ringLost _).checkEpoch
  have h2 : Evolves s v2 := h1.foldl fun _ _ h => h.closeSession _
  have h3 : Evolves s v3 := h2.unbindWindow.foldl fun _ _ h => (h.irqBind ..).setFld ..
  clear_value v3
  have h4 : Evolves s v4 := h3.irq _
  have h5 : Evolves s v5 := (h4.setFld ..).setFld ..
  have h6 : Evolves s v6 := by
    unfold v6
    split
    · exact h5
    · exact ((h5.setFld ..).setFld ..).setFld ..
  exact (h6.setFld ..).irqSettle

theorem pcieLinkUp (a b : Nat) : Steps s (execPcieLinkUp a b s) := .next (((Evolves.refl.setFld ..).setFld ..).setFld ..)

theorem svcLinkChange (a b : Bool) : Steps s (execSvcLinkChange a b s) := by
  unfold execSvcLinkChange
  refine .next ?_
  extract_lets lock up was v
  have hv : Evolves s v := (Evolves.refl.setFld ..).setFld ..
  exact .ite hv ((hv.setFld ..).irqEvent _)

end Steps

end Sys2Proof
end

section
/-! PROOF. What oscillator qualification and register accesses keep (R6 to R10, R70 to R81, R97, R98). -/
namespace Sys2Proof

open Sys2Proof.Machine

set_option Elab.async false

namespace Evolves

variable {s u : State}

theorem boot (h : Evolves s u) (x : Boot) : Evolves s { u with boot := x } := h.of_kept

theorem setOsc (h : Evolves s u) (f : Fld) (v : Nat) : Evolves s (u.setOsc f v) := h.setFld ..
theorem oscGo (h : Evolves s u) (v : Nat) : Evolves s (u.oscGo v) := ((h.setOsc ..).setOsc ..).boot _
theorem oscEval (h : Evolves s u) : Evolves s u.oscEval := .ite (h.oscGo 2) (.ite (h.oscGo 1) h)
theorem polNoted (h : Evolves s u) (was : State) : Evolves s (State.polNoted was u) := .ite h (h.boot _)
theorem oscCfgWritten (h : Evolves s u) (old : Word) : Evolves s (u.oscCfgWritten old) := .ite h (.oscEval (.ite h (h.boot _)))

theorem startTick (h : Evolves s u) : Evolves s u.startTick := by
  unfold State.startTick
  refine .ite h (calRotation ?_)
  exact h.of_kept

/-! ### Reads (R7, R10, R490) -/

theorem readCounter (h : Evolves s u) (w : Who) (id : Nat) : Evolves s (u.readCounter w id).1 := by
  unfold State.readCounter
  extract_lets x l
  split
  · exact h.putSession ..
  · exact h

theorem readActing (h : Evolves s u) (w : Who) (r : Reg) : Evolves s (u.readActing w r).1 := by
  unfold State.readActing
  split
  · exact h.readCounter ..
  · exact h.irqClaim _
  · exact (h.put ..).put ..
  · exact h.readResult _
  · exact h

theorem readReg (h : Evolves s u) (w : Who) (r : Reg) : Evolves s (u.readReg w r).1 := .iteFst h (h.readActing ..)

theorem readAddr (h : Evolves s u) (w : Who) (a : Nat) : Evolves s (u.readAddr w a).1 := by
  unfold State.readAddr
  split
  · exact h
  · exact .iteFst h (h.readReg ..)

/-! ### Writes (R7, R91, R94, R226) -/

theorem submit (h : Evolves s u) (c : Nat) : Evolves s (u.submit c) := by
  unfold State.submit
  extract_lets v
  have hv : Evolves s v := h.setFld ..
  exact .ite (hv.respond ..) (.ite hv (hv.answerUnlisted c))

theorem submitTable (h : Evolves s u) (k t : Nat) : Evolves s (u.submitTable k t) := by
  unfold State.submitTable
  extract_lets v
  have hv : Evolves s v := h.of_kept
  exact .ite hv ((hv.cmdTake t).cmdEnd ..)

theorem histWritten (h : Evolves s u) (p : Nat) (old : Word) : Evolves s (u.histWritten p old) :=
  .ite h ((h.clearCounters _).setFld ..)

theorem avsWritten (h : Evolves s u) : Evolves s u.avsWritten := .ite h (h.setRequest _)
theorem irqSrcWritten (h : Evolves s u) (i : Nat) (old : Word) : Evolves s (u.irqSrcWritten i old) := .irqSettle (.ite (h.setFld ..) h)
theorem trigWritten (h : Evolves s u) (k : Nat) (old : Word) : Evolves s (u.trigWritten k old) :=
  .ite (h.armTrigger k) (.ite (h.stopTrigger k) h)

theorem writeAction (h : Evolves s u) (k : Nat) (r : Reg) (old m : Word) : Evolves s (u.writeAction k r old m) := by
  unfold State.writeAction
  split
  · exact .ite (h.boot _) (.ite (h.boot _) h)
  · exact h.oscCfgWritten _
  · exact .ite h.irqSettle (.ite (h.irqSettle.setFld ..) (h.irqSettle.submit _))
  · exact h.irqSettle
  · exact h.laneCfgWritten ..
  · exact h.loadTaps _
  · exact h.pauseEval _
  · exact .ite h.of_kept h
  · exact .ite (h.submitTable ..) h
  · exact .ite (h.submitTable ..) h
  · exact .ite (h.submitTable ..) h
  · exact .ite (h.submitTable ..) h
  · exact .ite (h.put ..).rehashStart h
  · exact .ite (h.eventClear ..) h
  · exact h.safTake _
  · exact .ite h.engineSwap h
  · exact h.trigWritten ..
  · exact h.refCfgWritten ..
  · exact h.hoCfgWritten
  · exact h.ticCfgWritten ..
  · exact h.ticCfgWritten ..
  · exact .ite h.stewardSwap h
  · exact h.avsWritten
  · exact h.ringCfgWritten _
  · exact h.ringAckWritten _
  · exact h.irqSettle
  · exact h.irqSrcWritten ..
  · exact h.irqSettle
  · exact h.irqEoi ..
  · exact h.histWritten ..
  · exact h

theorem discardWrite (h : Evolves s u) {r : Reg} {v : State} (hv : u.discardWrite r = some v) : Evolves s v := by
  unfold State.discardWrite at hv
  split at hv
  · split at hv
    · cases hv
      exact h.setFld ..
    · cases hv
  · split at hv
    · cases hv
    · cases hv
      exact h
  · split at hv
    · split at hv
      · cases hv
        exact h.setFld ..
      · cases hv
    · cases hv

theorem directWrite (h : Evolves s u) (k : Nat) (r : Reg) (m : Word) : Evolves s (u.directWrite k r m) := by
  unfold State.directWrite
  refine .ite h ?_
  split
  · next v hv => exact h.discardWrite hv
  · exact ((h.put ..).noteImage r).writeAction ..

theorem seedWrite (h : Evolves s u) (k : Nat) (r : Reg) (m : Word) : Evolves s (u.seedWrite k r m).1 := by
  unfold State.seedWrite
  extract_lets sd t
  have ht : Evolves s t.1 := h.seedRebuild sd
  exact .iteFst (h.stageReg ..) (.iteFst (h.noteImage r) (.iteFst (ht.noteImage r) ht.rehashNeeded))

theorem writeAddr (h : Evolves s u) (w : Who) (a : Nat) (v : Word) : Evolves s (u.writeAddr w a v).1 := by
  unfold State.writeAddr
  split
  · exact h
  · exact .iteFst (h.stageReg ..) (.iteFst (h.seedWrite ..) (.iteFst h (h.directWrite ..)))

/-! ### The window and the test access port (R97, R98, R424) -/

theorem winRefuse (h : Evolves s u) (st : Nat) : Evolves s (u.winRefuse st) := (((h.setFld ..).setFld ..).count _).irqRise ..

theorem anonWrite (h : Evolves s u) (a : Nat) (v : Word) : Evolves s (u.anonWrite a v) := by
  unfold State.anonWrite
  split
  · exact .ite (h.directWrite ..) h
  · exact h

theorem anonRead (h : Evolves s u) (a : Nat) : Evolves s (u.anonRead a).1 := by
  unfold State.anonRead
  split
  · exact .iteFst (h.readReg ..) h
  · exact h

theorem awaitStw (h : Evolves s u) (a : Nat) (v : Option Word) : Evolves s (u.awaitStw a v) := h.of_kept

theorem pathWrite (h : Evolves s u) (p : RegPath) (a : Nat) (v : Word) : Evolves s (u.pathWrite p a v) := by
  unfold State.pathWrite
  refine .ite h ?_
  split
  · exact .ite (h.anonWrite ..) h
  · refine .ite ?_ (.ite ?_ ?_)
    · split
      · exact .ite (h.anonWrite ..) (h.winRefuse _)
      · exact h.winRefuse _
    · split
      · exact .ite (h.anonWrite ..) (h.awaitStw ..)
      · exact h.awaitStw ..
    · split
      · exact h.anonWrite ..
      · exact .ite (h.writeAddr ..) ((h.writeAddr ..).winRefuse _)

theorem pathRead (h : Evolves s u) (p : RegPath) (a : Nat) : Evolves s (u.pathRead p a).1 := by
  unfold State.pathRead
  extract_lets idOnly
  have hi : ∀ a, Evolves s (idOnly a).1 := fun a => by
    unfold idOnly
    split
    · exact .iteFst (h.readReg ..) h
    · exact h
  refine .iteFst h (.iteFst (hi a) ?_)
  split
  · exact .iteFst (h.anonRead a) (hi a)
  · refine .iteFst (h.anonRead a) ?_
    split
    · exact h.anonRead a
    · exact .iteFst (h.readAddr ..) ((h.readAddr ..).winRefuse _)

theorem readOut (h : Evolves s u) (p : RegPath) (a : Nat) : Evolves s (u.readOut p a) := .ite (h.awaitStw ..) ((h.pathRead ..).emit _)

end Evolves

namespace Steps

variable {s : State}

theorem oscPresenceGate (x : Option Int) : Steps s (execOscPresenceGate x s) := by
  unfold execOscPresenceGate
  refine .next ?_
  extract_lets good src n v t
  have hv : Evolves s v := Evolves.refl.boot _
  have ht : Evolves s t := (hv.startTick.setOsc ..).raise ..
  exact .ite .refl (.ite ((Evolves.refl.boot _).startTick.setOsc ..).oscEval (.ite hv (.ite ht.degrade ht)))

theorem oscStabilityGate (d : Int) : Steps s (execOscStabilityGate d s) := by
  unfold execOscStabilityGate
  refine .next ?_
  extract_lets was src v
  have hv : Evolves s v := Evolves.refl.boot _
  refine .ite .refl ?_
  clear_value was
  split
  · exact hv
  · extract_lets d w n x
    have hw : Evolves s w := hv.setOsc ..
    have hx : Evolves s x := hw.setOsc ..
    exact .ite (hw.setOsc ..) (.ite hx ((hx.setOsc ..).eventClear ..))

theorem ocxoWarmHeld : Steps s (execOcxoWarmHeld s) := .next (Evolves.refl.boot _).oscEval
theorem ocxoWarmLost : Steps s (execOcxoWarmLost s) := .next (Evolves.refl.boot _).oscEval
theorem ocxoSlow : Steps s (execOcxoSlow s) := .next (.ite ((Evolves.refl.setOsc ..).raise ..) .refl)

end Steps

end Sys2Proof
end

section
/-! PROOF. What block resets and the undoing of an image keep (R51, R52, R62). -/
namespace Sys2Proof

open Sys2Proof.Machine

set_option Elab.async false

namespace Evolves

variable {s u : State}

theorem mbx (h : Evolves s u) (x : Mbx) : Evolves s { u with mbx := x } := h.of_kept
theorem fwd (h : Evolves s u) (x : Fwd) : Evolves s { u with fwd := x } := h.of_kept
theorem swc (h : Evolves s u) (x : Swc) : Evolves s { u with swc := x } := h.of_kept
theorem pair (h : Evolves s u) (x : Pair) : Evolves s { u with pair := x } := h.of_kept
theorem lne (h : Evolves s u) (x : Lne) : Evolves s { u with lne := x } := h.of_kept
theorem ports (h : Evolves s u) (x : SMap PortSt) : Evolves s { u with ports := x } := h.of_kept
theorem rows (h : Evolves s u) (x : SMap (List Row)) : Evolves s { u with rows := x } := h.of_kept
theorem flash (h : Evolves s u) (x : Flash) : Evolves s { u with flash := x } := h.of_kept

theorem mapSessions (h : Evolves s u) {g : Nat × Session → Nat × Session} (hg : ∀ kv, (g kv).1 = kv.1) :
    Evolves s { u with sessions := u.sessions.map g } := h.sessions rfl (skeysFrom_map _ _ _ hg)

theorem maskBlock (h : Evolves s u) (n : Nat) : Evolves s (u.maskBlock n) := h.of_kept

theorem resetBlockRegs (h : Evolves s u) (n : Nat) : Evolves s (u.resetBlockRegs n) := by
  unfold State.resetBlockRegs
  extract_lets t1 t2 t3
  have h1 : Evolves s t1 := h.foldl fun _ _ hv => hv.put ..
  have h2 : Evolves s t2 := h1.foldl fun _ _ hv => hv.stPut ..
  have h3 : Evolves s t3 := h2.foldl fun _ _ hv => hv.stPut ..
  split
  · refine .ite (h3.foldl fun v kv hv => ?_) h3
    split
    · exact .ite (hv.stPut ..) hv
    · exact hv
  · exact h3

theorem clearTarget (h : Evolves s u) (t : Nat) : Evolves s (u.clearTarget t) := by
  unfold State.clearTarget
  extract_lets v src
  have hv : Evolves s v := h.foldl fun _ _ hw => hw.setFld ..
  exact hv.irq _

theorem clearSlots (h : Evolves s u) : Evolves s u.clearSlots := by
  unfold State.clearSlots
  extract_lets v src
  have hv : Evolves s v := .ite (h.setFld ..) h
  exact hv.tim _

theorem seedRed (h : Evolves s u) : Evolves s u.seedRed := h.swc _
theorem clearQueue (h : Evolves s u) (q : Nat) : Evolves s (u.clearQueue q) := (h.swc _).setTok ..

theorem dropTxns (h : Evolves s u) : Evolves s u.dropTxns := by
  unfold State.dropTxns
  extract_lets waiting v
  have hv : Evolves s v :=
    (h.mapSessions (g := fun kv => (kv.1, { kv.2 with txn := none })) fun _ => rfl).jobs (u.jobs.filter fun j => j.started)
  exact hv.foldl fun _ _ hw => hw.respond ..

theorem clearRows (h : Evolves s u) (t : Nat) : Evolves s (u.clearRows t) := h.rows _
theorem clearEntries (h : Evolves s u) : Evolves s u.clearEntries := h.fwd _

theorem clearBehind (h : Evolves s u) (d w b : Nat) : Evolves s (u.clearBehind d w b) := by
  unfold State.clearBehind
  extract_lets ps mbx irq boot pair t lne l tim v lne2 y fwd x fwd2 swc tim2 sel tic hlt
  have ht : Evolves s t := h.toWait _
  have hv : Evolves s v := h.foldl fun _ _ hz => hz.goLane ..
  have hy : Evolves s y := h.foldl fun _ _ hz => .ite (((hz.stompPort _).failReception _).count _) hz
  have hx : Evolves s x := h.clearEntries
  clear_value t v y x
  split
  · exact .ite (h.mbx _) (.ite h.of_kept h)
  · refine .ite h.unbindWindow ?_
    split
    · exact h.closeSession _
    · exact h
  · exact h.ringLost b
  · exact .ite (h.clearTarget _) (h.irq _)
  · exact .ite (h.boot _) (.ite h.dropTxns (.ite (h.pair _) h))
  · exact .ite h (.ite ht.of_kept (hv.lne _))
  · exact .ite h (hy.ports _)
  · exact .ite h (.ite h.of_kept (.ite (((h.cmdTake w).clearRows _).clearRows _) h))
  · exact .ite (h.cmdTake 8).clearEntries (.ite h.clearEntries (.ite (h.fwd _) (.ite (hx.fwd _) h)))
  · exact .ite (h.swc _) (.ite (h.swc _) (.ite (h.swc _) (.ite ((h.cmdTake 9).clearRows _) h)))
  · exact .ite (h.foldl fun _ _ hz => hz.clearQueue _) h
  · exact .ite (h.tim _) (.ite (h.boot _) (.ite (h.tim _) h))
  · exact h.tim _
  · exact .ite ((h.cmdTake 10).clearRows _) h
  · exact .ite (h.tim _).releaseActive (.ite h.clearSlots h)
  · exact .ite (h.tic _) (h.tic _)
  · exact .ite (h.hlt _) (.ite (h.hlt _) (.ite (h.hlt _) h))
  · exact h.mapSessions fun _ => rfl
  · exact h

theorem gatesHeld (h : Evolves s u) (ps : List Nat) : Evolves s (u.gatesHeld ps) := by
  refine h.foldl fun v p hv => ?_
  split
  · exact hv.gatePending ..
  · exact hv

theorem resume (h : Evolves s u) (d w b : Nat) : Evolves s (u.resume d w b) := by
  unfold State.resume
  extract_lets v y tic
  have hv : Evolves s v := by
    unfold v
    split
    · exact h.setGrp ..
    · exact h
  have hy : Evolves s y := .ite (h.foldl fun _ _ hz => hz.l1Eval _) h
  clear_value v y
  split
  · exact h.irqSettle
  · exact .ite (.ite ((hv.foldl fun _ _ hz => hz.goLane ..).settleBlock _) hv) (.ite (h.foldl fun _ _ hz => hz.settleBlock _) h)
  · exact .ite (h.foldl fun _ _ hz => hz.setPortState ..) h
  · exact h.goOn
  · exact .ite h.seedRed h
  · exact hy.gatesHeld _
  · exact .ite h.holdoverEstimate.selFlags h
  · exact .ite (h.tic _).calRotation h
  · exact .ite h.askRequest.avsWritten h
  · exact h

theorem resetBlock (h : Evolves s u) (d w b : Nat) : Evolves s (u.resetBlock d w b) := by
  unfold State.resetBlock
  extract_lets t t'
  have ht : Evolves s t := ((h.clearBehind ..).resetBlockRegs _).resume ..
  have ht' : Evolves s t' := ht.polNoted u
  exact .ite (.ite (ht'.setOsc ..) ht'.suppressAll) ht

theorem undoBlock (h : Evolves s u) (n : Nat) : Evolves s (u.undoBlock n) :=
  .ite (((h.resetBlockRegs n).put ..).put ..) (h.resetBlock ..)

theorem undoImage (h : Evolves s u) : Evolves s u.undoImage := by
  unfold State.undoImage
  extract_lets blocks v src w
  have hv : Evolves s v := h.closeAll.clearTables
  have hw : Evolves s w := hv.boot _
  exact hw.foldl fun _ _ hz => hz.undoBlock _

end Evolves

namespace Steps

variable {s : State}

theorem blockResetDone (d w b : Nat) : Steps s (execBlockResetDone d w b s) := .next (.ite .refl ((Evolves.refl.resetBlock ..).maskBlock _))
theorem blockResetTimeout (d w b : Nat) : Steps s (execBlockResetTimeout d w b s) :=
  .next (.ite .refl ((Evolves.refl.setFld ..).setFld ..))

end Steps

end Sys2Proof
end

section
/-! PROOF. What the mailbox and the flash keep (R82 to R104, R111 to R113, R456 to R458). -/
namespace Sys2Proof

open Sys2Proof.Machine

set_option Elab.async false

namespace Evolves

variable {s u : State}

/-! ### Requests -/

theorem serve {act : State → Reply → Nat → List Word → State} (v : Via) (code : Nat) (h : Evolves s u)
    (ha : ∀ w r src ws, Evolves s w → Evolves s (act w r src ws)) : Evolves s (u.serve v code act) := by
  unfold State.serve
  split
  · exact h
  · next src ws _ =>
    exact .ite h (.ite (h.respond ..) (.ite (h.respond ..) (.ite (h.respond ..) (ha _ _ _ _ h))))

theorem serveSession {act : State → Reply → Nat → Session → List Word → State} (v : Via) (code : Nat) (early : Bool)
    (h : Evolves s u) (ha : ∀ w r k x ws, Evolves s w → Evolves s (act w r k x ws)) :
    Evolves s (u.serveSession v code early act) := by
  refine h.serve v code fun w r src ws hw => ?_
  beta_reduce
  extract_lets k
  split
  · exact .ite (ha _ _ _ _ _ hw) (hw.respond ..)
  · exact hw.respond ..

theorem authFailed (h : Evolves s u) (k : Nat) (x : Session) (r : Reply) : Evolves s (u.authFailed k x r) := by
  unfold State.authFailed
  extract_lets v mbx ev w
  have hv : Evolves s v := (h.closeSession k).count _
  have hw : Evolves s w := by
    unfold w
    clear_value v
    split
    · exact Evolves.of_kept (hv.event ..)
    · exact Evolves.of_kept (hv.event ..)
  exact hw.respond ..

theorem bindWindow (h : Evolves s u) (c : Nat) : Evolves s (u.bindWindow c) := by
  unfold State.bindWindow
  extract_lets v
  have hv : Evolves s v := h.unbindWindow.setFld ..
  exact .ite h ((hv.setFld ..).setFld ..)

theorem readMany (w : Who) (staged : Bool) (a n i : Nat) (acc : List Word) (h : Evolves s u) :
    Evolves s (u.readMany w staged a n i acc).1 := by
  induction n generalizing u i acc with
  | zero => exact h
  | succ n ih =>
    unfold State.readMany
    extract_lets x v
    have hx : Evolves s x.1 := h.readAddr ..
    exact .iteFst hx (ih _ _ hx)

theorem readCmd (h : Evolves s u) (r : Reply) (k : Nat) (x : Session) (ws : List Word) (staged : Bool) :
    Evolves s (u.readCmd r k x ws staged) := by
  unfold State.readCmd
  extract_lets a n o
  have ho : Evolves s o.1 := h.readMany ..
  split
  · exact h.respond ..
  · exact .ite (h.respond ..) (.ite (h.respond ..) (ho.respond ..))

theorem writeMany (w : Who) (i : Nat) (ws : List Word) (h : Evolves s u) : Evolves s (u.writeMany w i ws).1 := by
  fun_induction State.writeMany u w i ws with
  | case1 u i a v rest x hx => exact h.writeAddr ..
  | case2 u i a v rest x hx ih => exact ih (h.writeAddr ..)
  | case3 u i ws => exact h

theorem commitRefuse (h : Evolves s u) (r : Reply) (st d w : Nat) : Evolves s (u.commitRefuse r st d w) := (h.count _).respond ..

/-! ### The flash -/

theorem program (h : Evolves s u) (off : Nat) (bs : List Byte) : Evolves s (u.program off bs) := h.flash _
theorem spoil (h : Evolves s u) (k : Nat) (l : List (Nat × Byte)) : Evolves s (u.spoil k l) :=
  h.foldl fun _ _ hv => .ite (hv.program ..) hv

theorem noteBank (h : Evolves s u) (k r : Nat) : Evolves s (u.noteBank k r) := ((h.setFld ..).setFld ..).put ..
theorem chooseBank (h : Evolves s u) (k : Nat) : Evolves s (u.chooseBank k) := ((h.setFld ..).setFld ..).setFld ..

theorem persistEnd (h : Evolves s u) (k : Nat) (bytes : List Byte) (flaws : List (Nat × Byte)) (err : Bool) :
    Evolves s (u.persistEnd k bytes flaws err) := by
  unfold State.persistEnd
  extract_lets v r w boot x
  have hv : Evolves s v := .ite h ((h.program ..).spoil ..)
  have hw : Evolves s w := (hv.noteBank ..).chooseBank k
  have hx : Evolves s x := by
    unfold x
    clear_value w
    split
    · exact hw.boot _
    · exact hw
  exact .ite ((hv.noteBank ..).persistFailed _) (((hx.setPersist ..).setPersist ..).irqEvent _)

theorem uploadEnd (h : Evolves s u) (k : Nat) (header : List Byte) (other : Bool) (reply : Reply) (flaws : List (Nat × Byte))
    (err : Bool) : Evolves s (u.uploadEnd k header other reply flaws err) := by
  unfold State.uploadEnd
  extract_lets v r w x y flash z
  have hv : Evolves s v := .ite h ((h.program ..).spoil ..)
  have hw : Evolves s w := hv.setPersist ..
  have hx : Evolves s x := (hw.noteBank ..).setPersist ..
  have hy : Evolves s y := .ite hx (hx.setPersist ..)
  clear_value y
  exact .ite (((hw.noteBank ..).setPersist ..).respond ..) (.respond (.ite (hy.flash _) hy) ..)

theorem uploadByte (h : Evolves s u) (b : Byte) : Evolves s (u.uploadByte b) := by
  unfold State.uploadByte
  split
  · exact h
  · exact .ite (h.flash _) (.ite ((h.flash _).program ..) (h.flash _))

end Evolves

namespace Steps

variable {s : State}

/-! ### Sessions (R82 to R89, R97) -/

theorem openReq (v : Via) : Steps s (execOpenReq v s) := by
  refine .next (Evolves.refl.serve v 0x01 fun u r src ws hu => ?_)
  beta_reduce
  extract_lets slot st h nDev nHost c x w y
  have hw : Evolves s w := hu.tick1Free.putSession ..
  have hy : Evolves s y := by
    unfold y
    clear_value c
    split
    · exact hw.setMbxState ..
    · exact hw
  exact .ite (hu.respond ..) (hy.respond ..)

theorem auth (v : Via) : Steps s (execAuth v s) := by
  refine .next (Evolves.refl.serveSession v 0x02 true fun u r h x ws hu => ?_)
  beta_reduce
  refine .ite (hu.respond ..) ?_
  split
  · exact hu.authFailed ..
  · next key role _ =>
    refine .ite (hu.authFailed ..) (.respond ?_ ..)
    have hv : Evolves s (u.putSession h { x with role := role }) := hu.putSession ..
    split
    · exact hv.setMbxState ..
    · exact hv

theorem openingTimeout (h : Nat) : Steps s (execOpeningTimeout h s) := by
  refine .next ?_
  split
  · exact .ite (Evolves.refl.closeSession _) .refl
  · exact .refl

theorem holdOffExpires (c : Option Nat) (src : Nat) : Steps s (execHoldOffExpires c src s) := by
  refine .next ?_
  split
  · exact Evolves.refl.mbx _
  · exact Evolves.refl.mbx _

theorem close (v : Via) : Steps s (execClose v s) :=
  .next (Evolves.refl.serveSession v 0x03 true fun _ _ _ _ _ hu => (hu.closeSession _).respond ..)

theorem idleTimeout (h : Nat) : Steps s (execIdleTimeout h s) := by
  refine .next (.ite .refl ?_)
  split
  · exact .ite .refl (Evolves.refl.closeSession _)
  · exact .refl

theorem bind (v : Via) : Steps s (execBind v s) := by
  refine .next (Evolves.refl.serveSession v 0x04 false fun u r h x ws hu => ?_)
  beta_reduce
  split
  · exact (hu.bindWindow _).respond ..
  · exact hu.respond ..

theorem unbind (v : Via) : Steps s (execUnbind v s) :=
  .next (Evolves.refl.serveSession v 0x05 false fun _ _ _ _ _ hu => .ite (hu.unbindWindow.respond ..) (hu.respond ..))

/-! ### Registers and transactions (R90, R91, R100 to R104) -/

theorem read (v : Via) : Steps s (execRead v s) := .next (Evolves.refl.serveSession v 0x10 false fun _ _ _ _ _ hu => hu.readCmd ..)
theorem readStaged (v : Via) : Steps s (execReadStaged v s) :=
  .next (Evolves.refl.serveSession v 0x12 false fun _ _ _ _ _ hu => hu.readCmd ..)

theorem begin (v : Via) : Steps s (execBegin v s) :=
  .next (Evolves.refl.serveSession v 0x20 false fun _ _ _ _ _ hu =>
    .ite (hu.respond ..) (.ite (hu.respond ..) ((hu.putSession ..).respond ..)))

theorem abort (v : Via) : Steps s (execAbort v s) :=
  .next (Evolves.refl.serveSession v 0x22 false fun _ _ _ _ _ hu =>
    .ite (hu.respond ..) (.ite (hu.respond ..) ((hu.putSession ..).respond ..)))

theorem commit (v : Via) : Steps s (execCommit v s) := by
  refine .next (Evolves.refl.serveSession v 0x21 false fun u r h x ws hu => ?_)
  beta_reduce
  refine .ite ((hu.count _).respond ..) ?_
  split
  · exact hu.commitRefuse ..
  · exact .ite ((hu.putSession ..).commitRefuse ..) ((hu.putSession ..).accept _)

theorem tableOp (v : Via) : Steps s (execTableOp v s) := by
  refine .next (Evolves.refl.serveSession v 0x23 false fun u r h x ws hu => ?_)
  beta_reduce
  refine .ite (hu.respond ..) ?_
  extract_lets w
  split
  · exact hu.respond ..
  · next o _ =>
    have ho : Evolves s (u.stageOp h r o).1 := hu.stageOp ..
    split
    · next v st d he => exact .respond (by rw [he] at ho; exact ho) ..
    · next v he => rw [he] at ho; exact ho

theorem txnStatus (v : Via) : Steps s (execTxnStatus v s) := by
  refine .next (Evolves.refl.serveSession v 0x24 false fun u r h x ws hu => ?_)
  beta_reduce
  refine .ite (hu.respond ..) ?_
  split
  · exact hu.respond ..
  · exact hu.respond ..

theorem svcFrameRx (bytes : List Byte) : Steps s (execSvcFrameRx bytes s) := by
  unfold execSvcFrameRx
  refine .next (.ite .refl ?_)
  split
  · exact Evolves.refl.count _
  · extract_lets src t
    have ht : Evolves s t := Evolves.refl.mbx _
    exact .ite (Evolves.refl.count _) (.ite (ht.answerQueue _) (.ite (ht.svcDrain _) ht))

/-! ### Images and uploads (R64, R111 to R113) -/

theorem flashWriteDone (flaws : List (Nat × Byte)) (err : Bool) : Steps s (execFlashWriteDone flaws err s) := by
  unfold execFlashWriteDone
  refine .next (.ite .refl ?_)
  extract_lets src t
  have ht : Evolves s t := Evolves.refl.flash _
  split
  · next k bytes _ =>
    have hp : Evolves s (t.persistEnd k bytes flaws err) := ht.persistEnd ..
    exact .ite (hp.setPersist ..).persistStart hp
  · exact ht.uploadEnd ..
  · exact .refl

theorem bankEraseDone (err : Bool) : Steps s (execBankEraseDone err s) := by
  unfold execBankEraseDone
  refine .next (.ite .refl ?_)
  split
  · exact .ite (((Evolves.refl.flash _).flash _).respond ..) ((Evolves.refl.flash _).respond ..)
  · exact .refl

theorem imageBegin (v : Via) : Steps s (execImageBegin v s) := by
  refine .next (Evolves.refl.serveSession v 0x30 false fun u r h x ws hu => ?_)
  beta_reduce
  extract_lets k source other w src
  have hw : Evolves s w := hu.eraseBank k
  exact .ite (hu.respond ..) (.ite (hu.respond ..) (.ite (hu.respond ..) (hw.flash _)))

theorem imageData (v : Via) : Steps s (execImageData v s) := by
  refine .next (Evolves.refl.serveSession v 0x31 false fun u r h x ws hu => ?_)
  beta_reduce
  extract_lets n
  split
  · exact hu.respond ..
  · exact .ite (hu.respond ..) (.ite (hu.respond ..) (.respond (hu.foldl fun _ _ hv => hv.uploadByte _) ..))

theorem imageEnd (v : Via) : Steps s (execImageEnd v s) := by
  refine .next (Evolves.refl.serveSession v 0x32 false fun u r h x ws hu => ?_)
  beta_reduce
  split
  · exact hu.respond ..
  · refine .ite (hu.respond ..) ?_
    extract_lets w src t c
    have ht : Evolves s t := (hu.program ..).flash _
    refine .ite (ht.respond ..) ?_
    clear_value t
    split
    · exact ht.respond ..
    · exact ht.flash _

end Steps

end Sys2Proof
end

section
/-! PROOF. What resets, start-up, strobes and the rows of registers keep (R48 to R73, R321, R427, R536 to R538). -/
namespace Sys2Proof

open Sys2Proof.Machine

set_option Elab.async false

/-! ### The queue of waiting commands is no part of the stores -/

theorem StoresCanonical.pending {s : State} (h : StoresCanonical s) (l : List Instr) : StoresCanonical { s with pending := l } :=
  ⟨h.regs, h.st0, h.st1, h.cnt, h.frames, h.reps, h.sessions⟩

theorem FramesInRange.pending {s : State} (h : FramesInRange s) (l : List Instr) : FramesInRange { s with pending := l } :=
  ⟨h.ports, h.rings, h.classes, h.queues⟩

namespace Evolves

variable {s u : State}

/-! ### Resets (R11, R48 to R50, R524) -/

/-- A state with the stores of `State.fresh`, all empty. -/
theorem of_fresh {v : State} (f : Fuses) (hv : kept v = { kept (State.fresh f) with pending := s.pending } := by rfl) :
    Evolves s v := by
  have hf : Evolves { State.fresh f with pending := s.pending } v := Evolves.refl.of_kept hv
  exact ⟨hf.pending, fun _ => hf.stores ((fresh_storesCanonical f).pending _), fun _ => hf.range ((fresh_framesInRange f).pending _)⟩

theorem coldReset (h : Evolves s u) : Evolves s u.coldReset := h.trans (of_fresh u.boot.fuses)

theorem resetTo (h : Evolves s u) (cause : Nat) (image : Option RunImage) : Evolves s (u.resetTo cause image) := by
  refine h.trans ?_
  unfold State.resetTo
  extract_lets f boot t v
  have ht : Evolves u t := of_fresh u.boot.fuses
  have hv : Evolves u v := ht.setFld ..
  exact .ite (hv.foldl fun _ _ hw => (hw.put ..).put ..) hv

theorem start (h : Evolves s u) : Evolves s u.start := h.boot _

theorem takeReset (h : Evolves s u) : Evolves s u.takeReset := by
  unfold State.takeReset
  split
  · exact (h.resetTo ..).start
  · exact (h.resetTo ..).start
  · exact h

/-! ### Start-up (R61 to R73) -/

theorem toStep (h : Evolves s u) (v : Nat) : Evolves s (u.toStep v) := h.setFld ..
theorem setBoot (h : Evolves s u) (f : Fld) (v : Nat) : Evolves s (u.setBoot f v) := h.setFld ..
theorem bankResultIs (h : Evolves s u) (k v : Nat) : Evolves s (u.bankResultIs k v) := h.setFld ..
theorem noteTime (h : Evolves s u) (i m : Nat) : Evolves s (u.noteTime i m) := h.put ..

theorem loadFuses (h : Evolves s u) (b : Bool) : Evolves s (u.loadFuses b) := by
  unfold State.loadFuses
  extract_lets f w v
  have hw : ∀ r n x, Evolves s x → Evolves s (w r n x) := fun _ _ _ hx => hx.put ..
  have hv : Evolves s v := by
    repeat' apply hw
    exact h
  exact hv.foldl fun _ _ hx => .ite (hx.setGrp ..) hx

theorem stewardTests (h : Evolves s u) (a b : Bool) : Evolves s (u.stewardTests a b) := by
  unfold State.stewardTests
  extract_lets v
  have hv : Evolves s v :=
    .ite ((((h.setPair ..).setPair ..).setPair ..).event ..).degrade (.ite ((h.setPair ..).event ..).degrade (h.setPair ..))
  exact .ite (h.toStep _) (hv.toStep _)

theorem enterRecovery (h : Evolves s u) : Evolves s u.enterRecovery := ((h.setBoot ..).setFld ..).toStep _
theorem afterFour (h : Evolves s u) : Evolves s u.afterFour := h.avsWritten.toStep _

theorem tryBanks (h : Evolves s u) (l : List Nat) : Evolves s (u.tryBanks l) := by
  induction l generalizing u with
  | nil => exact h.enterRecovery
  | cons k rest ih =>
    unfold State.tryBanks
    extract_lets hd body r failed i a v w boot
    have hf : ∀ x n, Evolves s x → Evolves s (failed x n) := fun x n hx => by
      unfold failed
      extract_lets y
      have hy : Evolves s y := hx.bankResultIs ..
      exact hy.boot _
    have ha : Evolves s a.1 := h.applyImage ..
    have hv : Evolves s v := ((ha.chooseBank k).setBoot ..).setFld ..
    have hw : Evolves s w := .ite (hv.setBoot ..) hv
    clear_value w
    exact .ite (ih (hf _ _ h)) (.ite (ih (hf _ _ ha.undoImage)) (hw.boot _).afterFour)

theorem readFlash (h : Evolves s u) (b : Bool) : Evolves s (u.readFlash b) := by
  unfold State.readFlash
  extract_lets boot v r q note order
  have hv : Evolves s v := h.boot _
  have hn : ∀ x k, Evolves s x → Evolves s (note x k) := fun _ _ hx => hx.noteBank ..
  exact .ite ((hv.bankResultIs ..).bankResultIs ..).enterRecovery ((hn _ _ (hn _ _ hv)).tryBanks _)

theorem clearBanks (h : Evolves s u) : Evolves s u.clearBanks := h.foldl fun _ _ hv => (hv.put ..).put ..

theorem reapply (h : Evolves s u) (i : RunImage) : Evolves s (u.reapply i) := by
  unfold State.reapply
  extract_lets v boot w
  have hv : Evolves s v := by
    refine h.foldl fun x kv hx => ?_
    split
    · exact hx.imagePut ..
    · exact hx
  clear_value v
  have hw : Evolves s w := hv.boot _
  exact (((hw.setBoot ..).setBoot ..).setFld ..).afterFour

theorem stepFour (h : Evolves s u) (a b : Bool) : Evolves s (u.stepFour a b) := by
  unfold State.stepFour
  split
  · exact .ite (h.reapply _) ((h.boot _).clearBanks.readFlash _)
  · exact .ite (h.tryBanks _) (h.readFlash _)

theorem trainHbm (h : Evolves s u) (bad : List Nat) : Evolves s (u.trainHbm bad) := by
  unfold State.trainHbm
  extract_lets up down v w boot x none' fwd
  have hv : Evolves s v := h.foldl fun _ _ hy => (hy.raise ..).degrade
  have hw : Evolves s w := hv.setFld ..
  clear_value w
  have hx : Evolves s x := hw.boot _
  clear_value x up
  have hn : ∀ y c, Evolves s y → Evolves s (none' y c) := fun _ _ hy => hy.raise ..
  split
  · exact ((hx.fwd _).setCopyUp ..).setCopyUp ..
  · exact hn _ _ ((hx.fwd _).setCopyUp ..)
  · exact (hn _ _ (hn _ _ hx)).raise ..

theorem startLanes (h : Evolves s u) : Evolves s u.startLanes :=
  h.foldl fun _ _ hv => (hv.foldl fun _ _ hw => hw.goLane ..).settleBlock _

theorem applyTable (h : Evolves s u) : Evolves s u.applyTable.1 := by
  unfold State.applyTable
  extract_lets ops r
  have hr : Evolves s r.1 := h.applyRecords ops
  have hg : Evolves s (r.1.gatesCommitted ops) := hr.gatesCommitted ops
  generalize r.1.gatesCommitted ops = g at hg
  exact .iteFst hg hr

theorem stepSix (h : Evolves s u) (bad : List Nat) : Evolves s (u.stepSix bad) := by
  unfold State.stepSix
  extract_lets v k r w x boot y z boot2 a boot3 b
  have hv : Evolves s v := .ite h (h.trainHbm bad)
  have hr : Evolves s r.1 := hv.applyTable
  have hw : Evolves s w := .ite hr (hr.bankResultIs ..)
  have hx : Evolves s x := .ite (hw.event ..).degrade hw
  have hy : Evolves s y := (hr.undoImage.avsWritten.degrade.setBoot ..).setFld ..
  have hz : Evolves s z := hy.clearBanks
  have ha : Evolves s a := (hy.bankResultIs ..).setFld ..
  clear_value x y z a
  have hb : Evolves s b := .ite (hz.boot _) (ha.boot _)
  exact .ite (((hx.boot _).toStep _).startLanes) (hb.toStep _)

theorem stepSeven (h : Evolves s u) : Evolves s u.stepSeven := ((h.foldl fun _ _ hv => hv.grpFail _).toStep _).oscEval

theorem enableForwarding (h : Evolves s u) : Evolves s u.enableForwarding := by
  unfold State.enableForwarding
  extract_lets ports v w x swc
  have hv : Evolves s v := h.clearCounters _
  have hw : Evolves s w := hv.foldl fun _ _ hy => ((hy.setPortState ..).l1Eval _).setFld ..
  have hx : Evolves s x := hw.seedRed
  clear_value x
  exact (hx.swc _).toStep _

theorem endStep (h : Evolves s u) (i : Nat) (o : StepSeen) : Evolves s (u.endStep i o) := by
  unfold State.endStep
  extract_lets t
  have ht : Evolves s t := h.noteTime ..
  refine .polNoted ?_ u
  split
  · exact .ite (ht.toStep _) ((ht.loadFuses _).askRequest.toStep _)
  · exact ht.stewardTests ..
  · exact ht.stepFour ..
  · exact ht.stepSix _
  · exact ht.stepSeven
  · exact ht.enableForwarding
  · exact ht.toStep _

/-! ### Strobes and rows (R321, R423, R427, R226) -/

theorem timeWords (h : Evolves s u) (offs : List Int) : Evolves s (u.timeWords offs) :=
  h.foldl fun _ _ hv => .ite (hv.timeWord ..) hv

theorem resumeWork (h : Evolves s u) : Evolves s u.resumeWork := by
  unfold State.resumeWork
  extract_lets w pair v x
  have hv : Evolves s v := (h.pair _).goOn
  have hx : Evolves s x := hv.foldl fun _ _ hy => hy.answerUnlisted _
  refine ((hx.svcDrain _).foldl fun y a hy => ?_).takeReset
  split
  · exact hy.pathWrite ..
  · exact hy.readOut ..

theorem handOver (h : Evolves s u) : Evolves s u.handOver := .ite h.takeover.resumeWork h

theorem stewardActs (h : Evolves s u) (offs : List Int) : Evolves s (u.stewardActs offs) := by
  unfold State.stewardActs
  extract_lets v w x
  have hv : Evolves s v := .ite (h.safApply.timeWords _) h
  have hw : Evolves s w := hv.foldl fun _ _ hy => hy.clkStrobe _
  have hx : Evolves s x := (hw.foldl fun _ _ hy => hy.portFault _).foldl fun _ _ hy => hy.slotStep _
  exact hx.selFlags.selectionEval.settle.handOver

theorem servoActs (h : Evolves s u) (c w : Bool) : Evolves s (u.servoActs c w) := by
  unfold State.servoActs
  extract_lets v x
  have hv : Evolves s v := h.phaseServo.foldl fun _ _ hy => hy.slotServo _
  have hx : Evolves s x := by
    unfold x
    split
    · exact hv.syntServo _
    · exact hv
  exact hx.engineCopy ..

theorem rowWriteReg (h : Evolves s u) (p : RegPath) (r : Reg) (v : Word) : Evolves s (u.rowWriteReg p r v) := (h.pathWrite ..).takeReset

theorem safWrite (h : Evolves s u) (p : RegPath) (op : Nat) (v : Word) : Evolves s (u.safWrite p op v) := .ite (h.rowWriteReg ..) h

theorem cmdStage (h : Evolves s u) (t : Nat) : Evolves s (u.cmdStage t) := by
  unfold State.cmdStage
  extract_lets k
  split
  · exact h.cmdRefused ..
  · refine .ite (h.cmdRefused ..) (.ite (h.cmdEnd ..) ?_)
    have ho : Evolves s ((u.cmdTake t).stageOp k (.cmd t) (u.cmdRecord t)).1 := (h.cmdTake t).stageOp ..
    split
    · next v st d he =>
      have hv : Evolves s v := by rw [he] at ho; exact ho
      exact .ite (hv.cmdEnd ..) (.ite (hv.cmdEnd ..) (hv.cmdRefused ..))
    · next v he => rw [he] at ho; exact ho

theorem cmdServe (h : Evolves s u) (t op : Nat) : Evolves s (u.cmdServe t op) := .ite (h.cmdStage t) h

end Evolves

namespace Steps

variable {s : State}

theorem coldReset : Steps s (execColdReset s) := .next Evolves.refl.coldReset
theorem railLost : Steps s (execRailLost s) := .next (.ite Evolves.refl.coldReset .refl)
theorem startupBegin : Steps s (execStartupBegin s) := .next (.ite .refl (Evolves.refl.boot _))

theorem rstNLow : Steps s (execRstNLow s) := by
  unfold execRstNLow
  refine .next (.ite .refl ?_)
  extract_lets t boot
  have ht : Evolves s t := Evolves.refl.resetTo ..
  exact ht.boot _

theorem warmReset : Steps s (execWarmReset s) := .next (.ite (Evolves.refl.boot _) .refl)
theorem startupStepEnd (o : StepSeen) : Steps s (execStartupStepEnd o s) := .next (.ite .refl (Evolves.refl.endStep ..))

theorem write (v : Via) : Steps s (execWrite v s) := by
  refine .next (Evolves.refl.serveSession v 0x11 false fun u r h x ws hu => ?_)
  beta_reduce
  extract_lets o
  have ho : Evolves s o.1 := hu.writeMany ..
  exact .takeReset (.ite (ho.respond ..) (ho.respond ..))

theorem tapInstructionLoad (code : Option Nat) (trst : Option Bool) (cells : List Bool) :
    Steps s (execTapInstructionLoad code s trst cells) := by
  unfold execTapInstructionLoad
  refine .next ?_
  extract_lets low c held boot v w boot2 t boot3 boot4
  have hv : Evolves s v := Evolves.refl.boot _
  have hw : Evolves s w := .ite hv hv.closeAll
  have ht : Evolves s t := hv.resetTo ..
  clear_value v w t
  exact .ite (hw.boot _) (.ite (ht.boot _) (hv.boot _))

theorem jtagRegAccess (w : Bool) (a : Nat) (d : Word) : Steps s (execJtagRegAccess w a d s) := by
  unfold execJtagRegAccess
  refine .next (.ite .refl ?_)
  extract_lets v boot x y boot2
  have hv : Evolves s v := Evolves.refl.pathWrite ..
  have hy : Evolves s y := Evolves.refl.pathRead ..
  clear_value v y x
  exact .ite (hv.boot _) (hy.boot _)

theorem row {c : Bool} (p : RegPath) (r : Reg) (v : Word) : Steps s (.next (if c = true then s.rowWriteReg p r v else s)) :=
  .next (.ite (Evolves.refl.rowWriteReg ..) .refl)

theorem registerWrite (p : RegPath) (a : Nat) (v : Word) (full : Bool) : Steps s (execRegisterWrite p a v full s) :=
  .next (.ite (Evolves.refl.pathWrite ..).takeReset .refl)

theorem ticCfgWrite (p : RegPath) (k : Nat) (b : Bool) (v : Word) : Steps s (execTicCfgWrite p k b v s) :=
  .next (Evolves.refl.rowWriteReg ..)

theorem stewardStrobe (offs : List Int) : Steps s (execStewardStrobe offs s) := by
  unfold execStewardStrobe
  refine .next ?_
  extract_lets tim v
  have hv : Evolves s v := Evolves.refl.tim _
  exact .ite (.ite .refl (.ite (hv.stewardActs _) hv.handOver)) (.ite .refl ((Evolves.refl.tim _).stewardActs _))

theorem servoStrobe (c w : Bool) : Steps s (execServoStrobe s c w) :=
  .next (.ite (.ite .refl ((Evolves.refl.tim _).servoActs ..)) (.ite .refl ((Evolves.refl.tim _).servoActs ..)))

theorem tableRow {c : Prop} [Decidable c] (t op : Nat) : Steps s (.next (if c then s.cmdServe t op else s)) :=
  .next (.ite (Evolves.refl.cmdServe ..) .refl)

end Steps

end Sys2Proof
end

section
/-! PROOF. Every command answers a next state that keeps what `Evolves` says. -/
namespace Sys2Proof

open Sys2Proof.Machine

set_option Elab.async false

theorem exec_steps (c : Instr) (s : State) : Steps s (exec c s) := by
  cases c with
  | portLanesUp => exact .portLanesUp ..
  | portUp => exact .portUp ..
  | portAlignFail => exact .portAlignFail ..
  | portDown => exact .portDown ..
  | parkWindowExpires => exact .parkWindowExpires ..
  | frameStartRx => exact .frameStartRx ..
  | frameEndRx => exact .frameEndRx ..
  | pauseFrameRx => exact .pauseFrameRx ..
  | pauseExpires => exact .pauseExpires ..
  | pauseRepeatDue => exact .pauseRepeatDue ..
  | pauseFrameTx => exact .pauseFrameTx ..
  | fecCodewordError => exact .fecCodewordError ..
  | frameParse => exact .frameParse ..
  | classify => exact .classify ..
  | dpiVerdict => exact .dpiVerdict ..
  | recircPass => exact .recircPass ..
  | pipTblRead => exact .pipTblRead ..
  | lookup => exact .lookup ..
  | tier2ReadDone => exact .tier2ReadDone ..
  | learnCheck => exact .learnCheck ..
  | relocationMoveEnd => exact .relocationMoveEnd ..
  | goneClear => exact .goneClear ..
  | fwdTblRead => exact .fwdTblRead ..
  | fwdTblReadNext => exact .fwdTblReadNext ..
  | fwdTblFlush => exact .fwdTblFlush ..
  | agingPassStart => exact .agingPassStart ..
  | carawayVisit => exact .carawayVisit ..
  | carawayPassEnd => exact .carawayPassEnd ..
  | t1DecayTick => exact .t1DecayTick ..
  | rehashStepDone => exact .rehashStepDone ..
  | hbmStackDown => exact .hbmStackDown ..
  | enqueue => exact .enqueue ..
  | frameLastCell => exact .frameLastCell ..
  | spillRefill => exact .spillRefill ..
  | matchingRound => exact .matchingRound ..
  | bankCopyDone => exact .bankCopyDone ..
  | mcastTblRead => exact .mcastTblRead ..
  | frameTxStart => exact .frameTxStart ..
  | frameTxEnd => exact .frameTxEnd ..
  | standbyAckTimeout => exact .standbyAckTimeout ..
  | stewardLockstepMismatch => exact .stewardLockstepMismatch ..
  | stewardMemoryError => exact .stewardMemoryError ..
  | stewardRotation => exact .stewardRotation ..
  | stewardSelftestDone => exact .stewardSelftestDone ..
  | standbySelftest => exact .standbySelftest ..
  | stewardSingleTimer => exact .stewardSingleTimer ..
  | sumacWindow => exact .sumacWindow ..
  | unitStalled => exact .unitStalled ..
  | unitSelftestDone => exact .unitSelftestDone ..
  | avsEval => exact .avsEval ..
  | avsReadback => exact .avsReadback ..
  | avsRetry => exact .avsRetry ..
  | memoryScrub => exact .memoryScrub ..
  | rowScrub => exact .rowScrub ..
  | spareSelftest => exact .spareSelftest ..
  | engineStandbySelftest => exact .engineStandbySelftest ..
  | sensorCheck => exact .sensorCheck ..
  | tempReading => exact .tempReading ..
  | pcieLinkLoss => exact .pcieLinkLoss ..
  | pcieLinkUp => exact .pcieLinkUp ..
  | svcLinkChange => exact .svcLinkChange ..
  | hostRxDeliver => exact .hostRxDeliver ..
  | hostTxFrame => exact .hostTxFrame ..
  | hostTxRetry => exact .hostTxRetry ..
  | hostTxCompletion => exact .hostTxCompletion ..
  | ringStopped => exact .ringStopped ..
  | ringDmaError => exact .ringDmaError ..
  | ringNoticeTimeout => exact .ringNoticeTimeout ..
  | msixUnmask => exact .msixUnmask ..
  | stewardStrobe => exact .stewardStrobe ..
  | servoStrobe => exact .servoStrobe ..
  | slewComplete => exact .slewComplete ..
  | phaseSample => exact .phaseSample ..
  | ptpSyncRx => exact .ptpSyncRx ..
  | ptpFollowUpRx => exact .ptpFollowUpRx ..
  | ptpDelayReqRx => exact .ptpDelayReqRx ..
  | ptpDelayRespRx => exact .ptpDelayRespRx ..
  | ptpAnnounceRx => exact .ptpAnnounceRx ..
  | ptpSignalingRx => exact .ptpSignalingRx ..
  | ptpSyncTx => exact .ptpSyncTx ..
  | ptpFollowUpTx => exact .ptpFollowUpTx ..
  | ptpDelayRespTx => exact .ptpDelayRespTx ..
  | ptpAnnounceTx => exact .ptpAnnounceTx ..
  | ptpDelayReqTx => exact .ptpDelayReqTx ..
  | ptpSignalingTx => exact .ptpSignalingTx ..
  | announceTimeout => exact .announceTimeout ..
  | l1PeerTimeout => exact .l1PeerTimeout ..
  | triggerInstant => exact .triggerInstant ..
  | ppsPulseEnd => exact .ppsPulseEnd ..
  | gateEntryChange => exact .gateEntryChange ..
  | gateScheduleChange => exact .gateScheduleChange ..
  | gateTblRead => exact .gateTblRead ..
  | engineFault => exact .engineFault ..
  | engineSelftestDone => exact .engineSelftestDone ..
  | refEdge => exact .refEdge ..
  | refLos => exact .refLos ..
  | freqEstimate => exact .freqEstimate ..
  | slotRemainExpires => exact .slotRemainExpires ..
  | switchCommit => exact .switchCommit ..
  | holdoverStore => exact .holdoverStore ..
  | holdoverExpires => exact .holdoverExpires ..
  | ticEdge => exact .ticEdge ..
  | stopStampExpires => exact .stopStampExpires ..
  | intervalTimeout => exact .intervalTimeout ..
  | recipGateEnd => exact .recipGateEnd ..
  | ticCfgWrite => exact .ticCfgWrite ..
  | calRotationStart => exact .calRotationStart ..
  | calStepDone => exact .calStepDone ..
  | coldReset => exact .coldReset ..
  | startupBegin => exact .startupBegin ..
  | startupStepEnd => exact .startupStepEnd ..
  | rstNLow => exact .rstNLow ..
  | warmReset => exact .warmReset ..
  | railLost => exact .railLost ..
  | blockResetDone => exact .blockResetDone ..
  | blockResetTimeout => exact .blockResetTimeout ..
  | oscPresenceGate => exact .oscPresenceGate ..
  | oscStabilityGate => exact .oscStabilityGate ..
  | ocxoWarmHeld => exact .ocxoWarmHeld ..
  | ocxoWarmLost => exact .ocxoWarmLost ..
  | ocxoSlow => exact .ocxoSlow ..
  | openReq => exact .openReq ..
  | auth => exact .auth ..
  | openingTimeout => exact .openingTimeout ..
  | holdOffExpires => exact .holdOffExpires ..
  | close => exact .close ..
  | idleTimeout => exact .idleTimeout ..
  | bind => exact .bind ..
  | unbind => exact .unbind ..
  | read => exact .read ..
  | write => exact .write ..
  | readStaged => exact .readStaged ..
  | begin => exact .begin ..
  | commit => exact .commit ..
  | abort => exact .abort ..
  | tableOp => exact .tableOp ..
  | txnStatus => exact .txnStatus ..
  | imageBegin => exact .imageBegin ..
  | imageData => exact .imageData ..
  | imageEnd => exact .imageEnd ..
  | svcFrameRx => exact .svcFrameRx ..
  | epochPromotion => exact .epochPromotion ..
  | commitApply => exact .commitApply ..
  | commitPoint => exact .commitPoint ..
  | flashWriteDone => exact .flashWriteDone ..
  | bankEraseDone => exact .bankEraseDone ..
  | registerWrite => exact .registerWrite ..
  | bandCheckEnd => exact .bandCheckEnd ..
  | lockDeclared => exact .lockDeclared ..
  | lockAttemptFail => exact .lockAttemptFail ..
  | alignmentDone => exact .alignmentDone ..
  | alignTimeout => exact .alignTimeout ..
  | lossOfLock => exact .lossOfLock ..
  | pllRetry => exact .pllRetry ..
  | coeffRequestRx => exact .coeffRequestRx ..
  | coeffRequestRepeat => exact .coeffRequestRepeat ..
  | trainSuccess => exact .trainSuccess ..
  | trainTimeout => exact .trainTimeout ..
  | cwLockGained => exact .cwLockGained ..
  | cwLockLost => exact .cwLockLost ..
  | cwSearchTimeout => exact .cwSearchTimeout ..
  | lossOfSignal => exact .lossOfSignal ..
  | holdoffExpires => exact .holdoffExpires ..
  | laneSleepEnter => exact .laneSleepEnter ..
  | wakeDetected => exact .wakeDetected ..
  | probeDue => exact .probeDue ..
  | wakeToneDone => exact .wakeToneDone ..
  | aniseCycleStart => exact .aniseCycleStart ..
  | anisePhaseEnd => exact .anisePhaseEnd ..
  | prbsLockGained => exact .prbsLockGained ..
  | prbsSymbolMismatch => exact .prbsSymbolMismatch ..
  | wornanAttemptStart => exact .wornanAttemptStart ..
  | wornanTrainDone => exact .wornanTrainDone ..
  | wornanAttemptFail => exact .wornanAttemptFail ..
  | wornanLinkFault => exact .wornanLinkFault ..
  | wornanRetry => exact .wornanRetry ..
  | wornanFlitError => exact .wornanFlitError ..
  | tapInstructionLoad => exact .tapInstructionLoad ..
  | jtagRegAccess => exact .jtagRegAccess ..
  | rehashGo | stewardSwap | ringEnable | ringDisable | triggerArm | triggerStop | engineSwap | resetCtlWarm
  | resetCtlReload | blockResetRequest | safSet | safStep | safSlew | safCancel =>
    exact .row ..
  | irqEoi | irqSrcWrite | histCfgWrite | refCfgWrite | oscQualCfgWrite | laneCfgWrite =>
    exact .next (Evolves.refl.rowWriteReg ..)
  | irqClaim | counterRead | safTimeRead | ticResultRead | windowRead =>
    exact .next (Evolves.refl.readOut ..)
  | fwdTblWrite | fwdTblClear | mcastTblWrite | mcastTblClear | gateTblWrite | gateTblClear =>
    exact .next (Evolves.refl.cmdServe ..)
  | pipTblWrite | pipTblClear =>
    exact .tableRow ..

/-- Settles O3: every arm of `exec` answers a next state, and no operation touches the queue (`exec_steps`). -/
theorem everyCommandAnswers : Obligations.EveryCommandAnswers := by
  unfold Obligations.EveryCommandAnswers
  intro c s
  obtain ⟨t, he, ht⟩ := exec_steps c s
  exact ⟨t, he, ht.pending⟩

theorem step_steps {s t : State} (h : step s = .next t) (hs : StoresCanonical s) (hr : FramesInRange s) :
    StoresCanonical t ∧ FramesInRange t := by
  cases hp : s.pending with
  | nil =>
    obtain rfl : s.saffronTick = t := by simpa [step_nil hp] using h
    have ht : Evolves s s.saffronTick := Evolves.refl.saffronTick
    exact ⟨ht.stores hs, ht.range hr⟩
  | cons c rest =>
    rw [step_cons hp] at h
    obtain ⟨v, he, hv⟩ := exec_steps c { s with pending := rest }
    obtain rfl : v = t := by simpa [he] using h
    exact ⟨hv.stores (hs.pending rest), hv.range (hr.pending rest)⟩

/-- Settles O5: a tick and every command lead to a state that has evolved from the one before (`exec_steps`). -/
theorem everyStepKeepsTheStores : Obligations.EveryStepKeepsTheStores := by
  unfold Obligations.EveryStepKeepsTheStores
  exact fun _ _ hs hr h => step_steps h hs hr

end Sys2Proof
end

section
/-! PROOF. Requests in the order of their checks (R89, R426). -/
namespace Sys2Proof

open Sys2Proof.Machine

set_option Elab.async false

variable {s : State} {v : Via} {code src : Nat} {ws : List Word} {act : State → Reply → Nat → List Word → State}

theorem serve_unasked (h : ∀ src ws, s.request v = some (src, ws) →
      reqCommand ws ≠ code ∨ s.awaiting (replyFor v src ws) = true ∨ s.halted = true ∨ s.pair.cause ≠ none) :
    s.serve v code act = s := by
  unfold State.serve
  split
  · rfl
  · next src ws hr =>
    rw [if_pos]
    simpa [Option.isSome_iff_ne_none, or_assoc] using h src ws hr

/-- The command of a request that stands and is to be served: what `State.serve` tests next. -/
theorem serve_standing (hr : s.request v = some (src, ws)) (hc : reqCommand ws = code)
    (ha : s.awaiting (replyFor v src ws) = false) (hh : s.halted = false) (hp : s.pair.cause = none) :
    s.serve v code act =
      if s.stewardLost then s.respond (replyFor v src ws) Stat.state 0 []
      else if !lengthOk code ws then s.respond (replyFor v src ws) Stat.badLength 0 []
      else if !flagsOk v code ws then s.respond (replyFor v src ws) Stat.badCommand 0 []
      else act s (replyFor v src ws) src ws := by
  simp [State.serve, hr, hc, ha, hh, hp]

theorem serve_asked (h : Asked s v code src ws) : s.serve v code act = act s (replyFor v src ws) src ws := by
  have hs : s.stewardLost = false ∧ s.pair.cause = none := by simpa [State.stewardHeld] using h.stewards
  simp [serve_standing h.standing h.command h.fresh h.live hs.2, hs.1, h.len, h.flags]

variable {early : Bool} {actS : State → Reply → Nat → Session → List Word → State}

theorem serveSession_asked {h : Nat} {x : Session} (ha : AskedBy s v code src ws h x) (hx : early = true ∨ x.role ≠ 0) :
    s.serveSession v code early actS = actS s (replyFor v src ws) h x ws := by
  rw [State.serveSession, serve_asked ha.asked]
  simp only [ha.named, ha.known, ha.own, Bool.true_and]
  exact if_pos (by simpa using hx)

/-- Every command of a session is served by `State.serveSession`. -/
theorem exec_sessionCommand {c : Instr} (h : sessionCommand c = some (v, code, early)) :
    ∃ act, ∀ s, exec c s = .next (s.serveSession v code early act) := by
  cases c <;> simp only [sessionCommand, Option.some.injEq, Prod.mk.injEq, reduceCtorEq] at h <;>
    obtain ⟨rfl, rfl, rfl⟩ := h <;> exact ⟨_, fun _ => rfl⟩

/-- Settles O15, by the order in which `State.serve` and `State.serveSession` test. -/
theorem requestsCheckedInOrder : Obligations.RequestsCheckedInOrder := by
  unfold Obligations.RequestsCheckedInOrder
  intro s c v code early hc
  obtain ⟨act, he⟩ := exec_sessionCommand hc
  rw [he]
  refine ⟨fun h => congrArg _ (serve_unasked h), fun src ws hr hcode ha hh hp => ?_⟩
  rw [State.serveSession, serve_standing hr hcode ha hh hp]
  refine ⟨fun hl => by rw [if_pos hl], fun hl => ⟨fun hlen => by simp [hl, hlen], fun hlen hf => by simp [hl, hlen, hf],
    fun hlen hf hn => ?_⟩⟩
  simp only [hl, hlen, hf, Bool.not_true, Bool.false_eq_true, if_false]
  congr 1
  split
  · next x hx =>
    have hno : ¬ ((x.isOn v src && (early || x.role != 0)) = true) := by
      rcases hn x hx with h | ⟨h, he⟩ <;> simp [*]
    exact if_neg hno
  · rfl

end Sys2Proof
end

section
/-! PROOF. What interrupts change, and what a health event writes (R443 to R448, R472 to R476). -/
namespace Sys2Proof

open Sys2Proof.Machine

set_option Elab.async false

/-! ## Interrupts -/

/-- A property that no part of the interrupt controller's work disturbs. -/
structure IrqProof (P : State → Prop) : Prop where
  src : ∀ (u : State) i f v, i < 128 → P u → P (u.setFld (.HST_IRQ_SRC i) f v)
  irq : ∀ (u : State) (x : Irq), P u → P { u with irq := x }
  msix : ∀ (u : State) t, P u → P (u.msixSend t)

namespace IrqProof

variable {P : State → Prop} (c : IrqProof P) {u : State}
include c

theorem irqBind (h : P u) {i : Nat} (hi : i < 128) (t : Option Nat) : P (u.irqBind i t) := by
  cases t with
  | none => exact c.src _ _ _ _ hi (c.src _ _ _ _ hi h)
  | some t => exact c.src _ _ _ _ hi (c.src _ _ _ _ hi h)

theorem notify (h : P u) (t : Nat) : P (u.notify t) := by
  unfold State.notify
  extract_lets x v y
  have hv : P v := c.irq _ _ h
  clear_value v
  split
  · exact h
  · split
    · exact c.irq _ _ hv
    · exact c.msix _ _ hv

theorem irqBindOne (h : P u) {i : Nat} (hi : i < 128) : P (u.irqBindOne i) := by
  unfold State.irqBindOne
  split
  · exact h
  · split
    · exact h
    · exact c.notify (c.irqBind (c.irq _ _ h) hi _) _

theorem irqSettle (h : P u) : P u.irqSettle := by
  unfold State.irqSettle
  extract_lets live v ordered
  have hv : P v := by
    refine foldl_keeps _ _ h fun w i hi hw => ?_
    split
    · split
      · exact hw
      · exact c.irqBind hw (List.mem_range.mp hi) _
    · exact hw
  refine foldl_keeps _ _ hv fun w i hi hw => ?_
  obtain ⟨_, -, hi⟩ := List.mem_flatMap.mp hi
  exact c.irqBindOne hw (irqLive_lt u (List.mem_filter.mp hi).1)

theorem irqEvent (h : P u) {i : Nat} (hi : i < 128) : P (u.irqEvent i) := by
  unfold State.irqEvent
  split
  · exact c.irqSettle (c.src _ _ _ _ hi h)
  · exact c.irqSettle h

theorem irqRise (h : P u) {i : Nat} (hi : i < 128) (was : Bool) : P (u.irqRise i was) := by
  cases was
  · exact c.irqEvent h hi
  · exact c.irqSettle h

end IrqProof

/-- Nothing has changed but the registers of interrupt sources, the controller, and messages of interrupts sent. -/
structure IrqChanges (s t : State) : Prop where
  rest : t = { s with regs := t.regs, masked := t.masked, irq := t.irq, out := t.out }
  regs : ∀ q : Reg, (∀ i < 128, (Reg.HST_IRQ_SRC i).addr ≠ q.addr) → t.get q = s.get q ∧ t.resetBits q = s.resetBits q
  canonical : s.regsOk → t.regsOk
  sends : SendsOnlyMsix s t

theorem IrqChanges.refl {s : State} : IrqChanges s s := ⟨rfl, fun _ _ => ⟨rfl, rfl⟩, id, .refl⟩

theorem IrqChanges.irqProof (s : State) : IrqProof (IrqChanges s) where
  src u i f v hi h := by
    refine ⟨?_, fun q hq => ?_, fun hs => u.regsOk_setFld _ _ _ (h.canonical hs), h.sends.setFld ..⟩
    · rw [h.rest]; rfl
    · rw [State.get_setFld_ne _ _ _ _ _ (hq i hi), State.resetBits_setFld_ne _ _ _ _ _ (hq i hi)]
      exact h.regs q hq
  irq u x h := ⟨by rw [h.rest], h.regs, h.canonical, h.sends.irq x⟩
  msix u t h := ⟨by rw [h.rest]; rfl, h.regs, h.canonical, h.sends.msixSend t⟩

theorem irqSettle_changes (s : State) : IrqChanges s s.irqSettle := (IrqChanges.irqProof s).irqSettle .refl
theorem irqEvent_changes (s : State) {i : Nat} (hi : i < 128) : IrqChanges s (s.irqEvent i) := (IrqChanges.irqProof s).irqEvent .refl hi
theorem irqRise_changes (s : State) {i : Nat} (hi : i < 128) (was : Bool) : IrqChanges s (s.irqRise i was) :=
  (IrqChanges.irqProof s).irqRise .refl hi was

theorem IrqChanges.hlt {s t : State} (h : IrqChanges s t) : t.hlt = s.hlt := (congrArg State.hlt h.rest).trans rfl
theorem IrqChanges.cnt {s t : State} (h : IrqChanges s t) : t.cnt = s.cnt := (congrArg State.cnt h.rest).trans rfl

/-! ## The log (R444) -/

/-- The words of a log entry. -/
def logWords (s : State) (code inst detail : Nat) (clear : Bool) : List Nat :=
  [s.fld .HLT_LOG_HEAD F.HLT_LOG_HEAD_SEQ, code + evSeverity code * 256 + (if clear then 1024 else 0), inst, detail, s.nowNs,
    s.nowNs / 2 ^ 32 % 2 ^ 16, s.tim.tick, s.tim.tick / 2 ^ 32 % 2 ^ 16]

/-- Words `ks` of the log entry at `j` written. -/
def putLog (s : State) (j : Nat) (ws : List Nat) (ks : List Nat) : State :=
  ks.foldr (fun k v => v.put (.HLT_LOG j k) (BitVec.ofNat 32 (ws.getD k 0))) s

/-- A log entry written and HEAD advanced, before the interrupt that it raises. -/
def logged (s : State) (code inst detail : Nat) (clear : Bool) : State :=
  let head := s.fld .HLT_LOG_HEAD F.HLT_LOG_HEAD_SEQ
  let t := (putLog s (head % 256) (logWords s code inst detail clear) [0, 1, 2, 3, 4, 5, 6, 7]).put .HLT_LOG_HEAD
    (BitVec.ofNat 32 (head + 1))
  { t with hlt := { t.hlt with lastLog := sinsert t.hlt.lastLog (evKey code inst) s.tim.tick } }

/-- After the entry is written only an interrupt follows. -/
theorem logEntry_changes (s : State) (code inst detail : Nat) (clear : Bool) :
    IrqChanges (logged s code inst detail clear) (s.logEntry code inst detail clear) := by
  have he : s.logEntry code inst detail clear =
      if clear then logged s code inst detail clear
      else if evSeverity code = 2 then (logged s code inst detail clear).irqEvent 112
      else if (logged s code inst detail clear).fld .HLT_HEALTH_CFG F.HLT_HEALTH_CFG_IRQ_MIN ≤ evSeverity code then
        (logged s code inst detail clear).irqEvent 113
      else logged s code inst detail clear := rfl
  rw [he]
  split
  · exact .refl
  · split
    · exact irqEvent_changes _ (by decide)
    · split
      · exact irqEvent_changes _ (by decide)
      · exact .refl

theorem logged_hlt (s : State) (code inst detail : Nat) (clear : Bool) :
    (logged s code inst detail clear).hlt = { s.hlt with lastLog := sinsert s.hlt.lastLog (evKey code inst) s.tim.tick } := rfl

theorem logged_cnt (s : State) (code inst detail : Nat) (clear : Bool) : (logged s code inst detail clear).cnt = s.cnt := rfl

theorem addr_HLT_LOG_ne {j k k' : Nat} (hj : j < 256) (hk : k < 8) (hk' : k' < 8) (h : k ≠ k') :
    (Reg.HLT_LOG j k).addr ≠ (Reg.HLT_LOG j k').addr :=
  addr_ne (by simp [Reg.indexOk]; omega) (by simp [Reg.indexOk]; omega) (by simpa using h)

theorem addr_HLT_LOG_ne_head {j k : Nat} (hj : j < 256) (hk : k < 8) : (Reg.HLT_LOG j k).addr ≠ Reg.HLT_LOG_HEAD.addr :=
  addr_ne (by simp [Reg.indexOk]; omega) rfl (by simp)

theorem addr_HST_IRQ_SRC_ne {i : Nat} (hi : i < 128) {r : Reg} (hr : r.indexOk = true) (h : ∀ i, r ≠ .HST_IRQ_SRC i) :
    (Reg.HST_IRQ_SRC i).addr ≠ r.addr := addr_ne (by simpa [Reg.indexOk] using hi) hr (h i).symm

theorem putLog_regsOk {s : State} (hs : s.regsOk) (j : Nat) (ws ks : List Nat) : (putLog s j ws ks).regsOk := by
  induction ks with
  | nil => exact hs
  | cons k ks ih => exact State.regsOk_put _ _ _ ih

theorem putLog_get {s : State} (hs : s.regsOk) {j k : Nat} (hj : j < 256) (hk : k < 8) (ws ks : List Nat) (hks : ∀ i ∈ ks, i < 8)
    (hm : k ∈ ks) : (putLog s j ws ks).get (.HLT_LOG j k) = BitVec.ofNat 32 (ws.getD k 0) := by
  induction ks with
  | nil => cases hm
  | cons i ks ih =>
    change ((putLog s j ws ks).put (.HLT_LOG j i) _).get _ = _
    by_cases hi : i = k
    · rw [hi, State.get_put_self _ _ _ (putLog_regsOk hs ..)]
    · rw [State.get_put_ne _ _ _ _ (addr_HLT_LOG_ne hj (hks i (by simp)) hk hi)]
      exact ih (fun x hx => hks x (by simp [hx])) ((List.mem_cons.mp hm).resolve_left (Ne.symm hi))

theorem logged_regs (s : State) (code inst detail : Nat) (clear : Bool) :
    (logged s code inst detail clear).regs =
      ((putLog s (s.fld .HLT_LOG_HEAD F.HLT_LOG_HEAD_SEQ % 256) (logWords s code inst detail clear) [0, 1, 2, 3, 4, 5, 6, 7]).put
        .HLT_LOG_HEAD (BitVec.ofNat 32 (s.fld .HLT_LOG_HEAD F.HLT_LOG_HEAD_SEQ + 1))).regs := rfl

/-- Registers in the same store read the same. -/
theorem get_of_regs {s t : State} (h : t.regs = s.regs) (r : Reg) : t.get r = s.get r := by
  rw [State.get, h, State.get]

section Logged
variable {s : State} (hs : s.regsOk) (code inst detail : Nat) (clear : Bool)
include hs

theorem logged_get_head :
    (logged s code inst detail clear).get .HLT_LOG_HEAD = BitVec.ofNat 32 (s.fld .HLT_LOG_HEAD F.HLT_LOG_HEAD_SEQ + 1) := by
  rw [get_of_regs (logged_regs ..), State.get_put_self _ _ _ (putLog_regsOk hs ..)]

theorem logged_get {k : Nat} (hk : k < 8) :
    (logged s code inst detail clear).get (.HLT_LOG (s.fld .HLT_LOG_HEAD F.HLT_LOG_HEAD_SEQ % 256) k) =
      BitVec.ofNat 32 ((logWords s code inst detail clear).getD k 0) := by
  have hj : s.fld .HLT_LOG_HEAD F.HLT_LOG_HEAD_SEQ % 256 < 256 := Nat.mod_lt _ (by decide)
  have hput := putLog_get hs hj hk (logWords s code inst detail clear) [0, 1, 2, 3, 4, 5, 6, 7] (by decide) (by simp; omega)
  rw [get_of_regs (logged_regs ..), State.get_put_ne _ _ _ _ (addr_HLT_LOG_ne_head hj hk).symm, hput]

end Logged

/-- The number of log entries modulo 2^32 is the whole word of HEAD. -/
theorem fld_HLT_LOG_HEAD (s : State) : s.fld .HLT_LOG_HEAD F.HLT_LOG_HEAD_SEQ = (s.get .HLT_LOG_HEAD).toNat := by
  have := (s.get .HLT_LOG_HEAD).isLt
  simp only [State.fld, Fld.get, Nat.pow_zero, Nat.div_one]
  omega

section Entry
variable {s : State} (hs : s.regsOk) (code inst detail : Nat) (clear : Bool)
include hs

theorem logEntry_get_head : (s.logEntry code inst detail clear).get .HLT_LOG_HEAD = s.get .HLT_LOG_HEAD + 1 := by
  rw [((logEntry_changes ..).regs _ fun i hi => addr_HST_IRQ_SRC_ne hi rfl (by simp)).1, logged_get_head hs, fld_HLT_LOG_HEAD]
  exact BitVec.eq_of_toNat_eq (by simp)

theorem logEntry_get {k : Nat} (hk : k < 8) :
    (s.logEntry code inst detail clear).get (.HLT_LOG (s.fld .HLT_LOG_HEAD F.HLT_LOG_HEAD_SEQ % 256) k) =
      BitVec.ofNat 32 ((logWords s code inst detail clear).getD k 0) := by
  rw [((logEntry_changes ..).regs _ fun i hi => addr_HST_IRQ_SRC_ne hi ?_ (by simp)).1, logged_get hs _ _ _ _ hk]
  simp [Reg.indexOk]
  omega

end Entry

theorem logEntry_hlt (s : State) (code inst detail : Nat) (clear : Bool) :
    (s.logEntry code inst detail clear).hlt = { s.hlt with lastLog := sinsert s.hlt.lastLog (evKey code inst) s.tim.tick } :=
  (logEntry_changes ..).hlt

theorem logEntry_cnt (s : State) (code inst detail : Nat) (clear : Bool) : (s.logEntry code inst detail clear).cnt = s.cnt :=
  (logEntry_changes ..).cnt

/-! ## Events (R445) -/

/-- The occurrence is counted and its condition raised, before it is logged. -/
def occurred (s : State) (code inst : Nat) : State :=
  let s := s.count (C.events code)
  if evCondition code && !s.hlt.raised.contains (code, inst) then
    { s with hlt := { s.hlt with raised := s.hlt.raised ++ [(code, inst)] } } else s

/-- The pair was logged within 10 ms. -/
def loggedLately (s : State) (code inst : Nat) : Prop :=
  ∃ t, sfind s.hlt.lastLog (evKey code inst) = some t ∧ s.tim.tick - t < 10000000

theorem occurred_rest (s : State) (code inst : Nat) :
    occurred s code inst = { s.count (C.events code) with hlt := { s.hlt with raised := (occurred s code inst).hlt.raised } } := by
  unfold occurred
  extract_lets v
  split <;> rfl

theorem event_of_lately {s : State} {code inst : Nat} (h : loggedLately s code inst) (detail : Nat) :
    s.event code inst detail = occurred s code inst := by
  obtain ⟨t, ht, hl⟩ := h
  have ht' : sfind (occurred s code inst).hlt.lastLog (evKey code inst) = some t := by rw [occurred_rest]; exact ht
  have hl' : (occurred s code inst).tim.tick - t < 10000000 := by rw [occurred_rest]; exact hl
  have he : s.event code inst detail = match sfind (occurred s code inst).hlt.lastLog (evKey code inst) with
    | some t => if (occurred s code inst).tim.tick - t < 10000000 then occurred s code inst
        else (occurred s code inst).logEntry code inst detail false
    | none => (occurred s code inst).logEntry code inst detail false := rfl
  rw [he, ht']
  exact if_pos hl'

theorem event_of_not_lately {s : State} {code inst : Nat} (h : ¬ loggedLately s code inst) (detail : Nat) :
    s.event code inst detail = (occurred s code inst).logEntry code inst detail false := by
  have he : s.event code inst detail = match sfind (occurred s code inst).hlt.lastLog (evKey code inst) with
    | some t => if (occurred s code inst).tim.tick - t < 10000000 then occurred s code inst
        else (occurred s code inst).logEntry code inst detail false
    | none => (occurred s code inst).logEntry code inst detail false := rfl
  rw [he]
  split
  · next t ht =>
    refine if_neg fun hl => h ⟨t, ?_, ?_⟩
    · rw [occurred_rest] at ht; exact ht
    · rw [occurred_rest] at hl; exact hl
  · rfl

theorem event_cnt (s : State) (code inst detail : Nat) : (s.event code inst detail).cnt = (s.count (C.events code)).cnt := by
  by_cases h : loggedLately s code inst
  · rw [event_of_lately h, occurred_rest]
  · rw [event_of_not_lately h, logEntry_cnt, occurred_rest]

theorem event_raised (s : State) (code inst detail : Nat) :
    (s.event code inst detail).hlt.raised = (occurred s code inst).hlt.raised := by
  by_cases h : loggedLately s code inst
  · rw [event_of_lately h]
  · rw [event_of_not_lately h, logEntry_hlt]

theorem counter_of_cnt {s t : State} (h : t.cnt = s.cnt) (id : Nat) : t.counter id = s.counter id := by
  rw [State.counter, h, State.counter]

theorem countedOnce_count {s : State} (hs : StoresCanonical s) (id : Nat) : CountedOnce id s (s.count id) :=
  s.counter_count_self id hs.cnt

theorem event_countedOnce {s : State} (hs : StoresCanonical s) (code inst detail : Nat) :
    CountedOnce (C.events code) s (s.event code inst detail) := by
  rw [CountedOnce, counter_of_cnt (event_cnt ..)]
  exact countedOnce_count hs _

theorem event_counter_ne (s : State) {code k : Nat} (h : C.events code ≠ k) (inst detail : Nat) :
    (s.event code inst detail).counter k = s.counter k := by
  rw [counter_of_cnt (event_cnt ..), State.counter_count_ne _ _ _ h]

theorem raised_iff (s : State) (code inst : Nat) : s.raised code inst = true ↔ (code, inst) ∈ s.hlt.raised := by
  simp [State.raised]

theorem occurred_raised {s : State} {code inst : Nat} (hc : evCondition code = true) : (code, inst) ∈ (occurred s code inst).hlt.raised := by
  unfold occurred
  simp only [hc, Bool.true_and]
  split
  · simp
  · next h => simpa using h

end Sys2Proof
end

section
/-! PROOF. Health events: counted, logged, raised and cleared (R444, R445, R448). -/
namespace Sys2Proof

open Sys2Proof.Machine

set_option Elab.async false

variable {s : State}

theorem occurred_regs (s : State) (code inst : Nat) : (occurred s code inst).regs = s.regs := by rw [occurred_rest]; rfl
theorem occurred_tim (s : State) (code inst : Nat) : (occurred s code inst).tim = s.tim := by rw [occurred_rest]; rfl

theorem occurred_fld (s : State) (code inst : Nat) (r : Reg) (f : Fld) : (occurred s code inst).fld r f = s.fld r f := by
  rw [State.fld, get_of_regs (occurred_regs ..), State.fld]

/-- What an occurrence that is logged writes. -/
theorem event_logged {code inst : Nat} (hs : StoresCanonical s) (h : ¬ loggedLately s code inst) (detail : Nat) :
    let t := s.event code inst detail
    let head := s.fld .HLT_LOG_HEAD F.HLT_LOG_HEAD_SEQ
    t.get .HLT_LOG_HEAD = s.get .HLT_LOG_HEAD + 1 ∧ t.get (.HLT_LOG (head % 256) 0) = BitVec.ofNat 32 head ∧
    t.get (.HLT_LOG (head % 256) 1) = BitVec.ofNat 32 (code + evSeverity code * 256) ∧
    t.get (.HLT_LOG (head % 256) 2) = BitVec.ofNat 32 inst ∧ t.get (.HLT_LOG (head % 256) 3) = BitVec.ofNat 32 detail ∧
    sfind t.hlt.lastLog (evKey code inst) = some s.tim.tick := by
  intro t head
  have ho : (occurred s code inst).regsOk := by rw [State.regsOk, occurred_regs]; exact hs.regs
  have hh : (occurred s code inst).fld .HLT_LOG_HEAD F.HLT_LOG_HEAD_SEQ = head := occurred_fld ..
  have hw {k : Nat} (hk : k < 8) : t.get (.HLT_LOG (head % 256) k) =
      BitVec.ofNat 32 ((logWords (occurred s code inst) code inst detail false).getD k 0) := by
    have := logEntry_get ho code inst detail false hk
    rwa [hh, ← event_of_not_lately h] at this
  refine ⟨?_, ?_, hw (k := 1) (by decide), hw (k := 2) (by decide), hw (k := 3) (by decide), ?_⟩
  · rw [show t = _ from event_of_not_lately h detail, logEntry_get_head ho, get_of_regs (occurred_regs ..)]
  · rw [hw (by decide), ← hh]
    rfl
  · rw [show t = _ from event_of_not_lately h detail, logEntry_hlt, occurred_tim]
    exact sfind_sinsert_self ..

/-- The condition is raised no more, before its end is logged. -/
def conditionEnded (s : State) (code inst : Nat) : State :=
  { s with hlt := { s.hlt with raised := s.hlt.raised.filter (· != (code, inst)) } }

theorem eventClear_of_raised {code inst : Nat} (h : s.raised code inst = true) :
    s.eventClear code inst = (conditionEnded s code inst).logEntry code inst 0 true := if_pos h

/-- What clearing a raised condition leaves raised. -/
theorem eventClear_raised {code inst : Nat} (h : s.raised code inst = true) (x : Nat × Nat) :
    x ∈ (s.eventClear code inst).hlt.raised ↔ x ∈ s.hlt.raised ∧ x ≠ (code, inst) := by
  rw [eventClear_of_raised h, logEntry_hlt]
  simp [conditionEnded]

theorem eventClear_logged {code inst : Nat} (hs : StoresCanonical s) (h : s.raised code inst = true) :
    let t := s.eventClear code inst
    let head := s.fld .HLT_LOG_HEAD F.HLT_LOG_HEAD_SEQ
    t.cnt = s.cnt ∧ t.get .HLT_LOG_HEAD = s.get .HLT_LOG_HEAD + 1 ∧
    t.get (.HLT_LOG (head % 256) 1) = BitVec.ofNat 32 (code + evSeverity code * 256 + 1024) := by
  intro t head
  have hr : (conditionEnded s code inst).regsOk := hs.regs
  have ht : t = (conditionEnded s code inst).logEntry code inst 0 true := eventClear_of_raised h
  rw [ht]
  exact ⟨logEntry_cnt .., logEntry_get_head hr .., logEntry_get hr code inst 0 true (k := 1) (by decide)⟩

theorem healthStatus_counts (s : State) :
    F.HLT_HEALTH_STATUS_DEGRADED_ACTIVE.get s.healthStatus = min 255 (s.hlt.raised.filter fun e => evSeverity e.1 == 1).length ∧
    F.HLT_HEALTH_STATUS_FAULT_ACTIVE.get s.healthStatus = min 255 (s.hlt.raised.filter fun e => evSeverity e.1 == 2).length := by
  unfold State.healthStatus
  extract_lets deg flt
  simp only [Fld.get, BitVec.toNat_ofNat]
  omega

theorem resetTo_hlt (s : State) (cause : Nat) (image : Option RunImage) : (s.resetTo cause image).hlt = Hlt.reset := by
  unfold State.resetTo
  extract_lets f boot t v
  have hv : v.hlt = Hlt.reset := rfl
  split
  · exact foldl_keeps (P := fun w => w.hlt = Hlt.reset) _ _ hv fun _ _ _ h => h
  · exact hv

/-- Settles O7, by `event_logged` and `eventClear_logged`. -/
theorem healthEventsCounted : Obligations.HealthEventsCounted := by
  unfold Obligations.HealthEventsCounted
  refine ⟨fun s code inst detail hs _ => ⟨event_countedOnce hs .., fun hc => ?_, fun hm => ?_, fun hm => event_logged hs hm _⟩,
    fun s code inst hs _ => ⟨fun hr => ?_, fun hr => ?_⟩, healthStatus_counts, fun s => ⟨⟨_, rfl, rfl⟩, fun hr => ?_⟩⟩
  · rw [raised_iff, event_raised]
    exact occurred_raised hc
  · rw [event_of_lately hm, occurred_regs]
  · exact if_neg (by simp [hr])
  · obtain ⟨hcnt, hhead, hword⟩ := eventClear_logged hs hr
    refine ⟨?_, hcnt, hhead, hword, eventClear_raised hr⟩
    rw [Bool.eq_false_iff, Ne, raised_iff, eventClear_raised hr]
    simp
  · have he : exec .rstNLow s = execRstNLow s := rfl
    refine ⟨_, he.trans (congrArg Host.Outcome.next (if_neg (by simp [hr]))), ?_⟩
    exact congrArg Hlt.raised (resetTo_hlt ..)

end Sys2Proof
end

section
/-! PROOF. Sessions: how one opens, is authenticated, and closes (R82 to R89, R97). -/
namespace Sys2Proof

open Sys2Proof.Machine

set_option Elab.async false

variable {s : State}

/-! ## What registers read after writes -/

theorem regsOk_setFld {r : Reg} {f : Fld} {v : Nat} (h : s.regsOk) : (s.setFld r f v).regsOk := s.regsOk_setFld r f v h

theorem fld_setFld_lt {r : Reg} {f : Fld} {v : Nat} (h : s.regsOk) (hf : f.lo + f.w ≤ 32) (hv : v < 2 ^ f.w) :
    (s.setFld r f v).fld r f = v := by
  rw [State.fld_setFld_self _ _ _ _ h hf, Nat.mod_eq_of_lt hv]

theorem Writes.fld {rs : List Reg} {ids : List Nat} {t : State} (h : Writes rs ids s t) {q : Reg}
    (hq : ∀ r ∈ rs, q.addr ≠ r.addr) (f : Fld) : t.fld q f = s.fld q f := by
  rw [State.fld, (h.regs q hq).1, State.fld]

theorem addr_HST_MBX_STATE_ne_HST_WIN_STATUS {c : Nat} (hc : c < 8) : (Reg.HST_MBX_STATE c).addr ≠ Reg.HST_WIN_STATUS.addr :=
  addr_ne (by simpa [Reg.indexOk] using hc) rfl (by simp)

theorem addr_HST_MBX_STATE_ne {c d : Nat} (hc : c < 8) (hd : d < 8) (h : c ≠ d) : (Reg.HST_MBX_STATE c).addr ≠ (Reg.HST_MBX_STATE d).addr :=
  addr_ne (by simpa [Reg.indexOk] using hc) (by simpa [Reg.indexOk] using hd) (by simpa using h)

/-- Nothing but registers has changed. -/
def RegsOnly (s t : State) : Prop := t = { s with regs := t.regs, masked := t.masked }

theorem RegsOnly.refl : RegsOnly s s := rfl

theorem RegsOnly.setFld {u : State} (h : RegsOnly s u) (r : Reg) (f : Fld) (v : Nat) : RegsOnly s (u.setFld r f v) := by
  unfold RegsOnly at *
  rw [h]
  rfl

theorem RegsOnly.put {u : State} (h : RegsOnly s u) (r : Reg) (v : Word) : RegsOnly s (u.put r v) := by
  unfold RegsOnly at *
  rw [h]
  rfl

/-! ## OPEN (R84, R89) -/

/-- Of ten successive handles at most eight are zero or taken. -/
theorem newHandle_fresh (h : s.sessions.length < 8) :
    s.newHandle ≠ 0 ∧ s.newHandle < 2 ^ 32 ∧ s.session s.newHandle = none := by
  unfold State.newHandle
  extract_lets r
  have hnodup : ((List.range 10).map fun i => (r + i) % 2 ^ 32).Nodup := by
    refine List.Nodup.map_on (fun i hi j hj hij => ?_) List.nodup_range
    simp only [List.mem_range] at hi hj
    omega
  cases hf : ((List.range 10).map fun i => (r + i) % 2 ^ 32).find? fun h => h != 0 && (s.session h).isNone with
  | none =>
    have htaken : ((List.range 10).map fun i => (r + i) % 2 ^ 32) ⊆ 0 :: s.sessions.map Prod.fst := by
      intro k hk
      have hk' := List.find?_eq_none.mp hf k hk
      by_cases h0 : k = 0
      · simp [h0]
      · cases hs : s.session k with
        | none => simp [h0, hs] at hk'
        | some x => exact List.mem_cons_of_mem _ (List.mem_map_of_mem (mem_of_sfind hs))
    have := (List.subperm_of_subset hnodup htaken).length_le
    simp at this
    omega
  | some k =>
    have hk := List.find?_some hf
    obtain ⟨i, -, rfl⟩ := List.mem_map.mp (List.mem_of_find?_eq_some hf)
    simp only [Bool.and_eq_true, bne_iff_ne, Option.isNone_iff_eq_none] at hk
    exact ⟨hk.1, Nat.mod_lt _ (by decide), hk.2⟩

/-- A check that fails answers a status other than 0. -/
theorem check_passed {c : Prop} [Decidable c] {x y : Nat} (hx : x ≠ 0) (h : (if c then x else y) = 0) : ¬ c ∧ y = 0 := by
  split at h
  · exact absurd h hx
  · next hc => exact ⟨hc, h⟩

theorem openStatus_zero {v : Via} {src slot : Nat} (h : s.openStatus v src slot = 0) :
    (s.slotKey slot).isSome = true ∧ s.sessions.length < 8 := by
  obtain ⟨-, h⟩ := check_passed (by decide) h
  obtain ⟨-, h⟩ := check_passed (by decide) h
  obtain ⟨-, h⟩ := check_passed (by decide) h
  obtain ⟨-, h⟩ := check_passed (by decide) h
  obtain ⟨-, h⟩ := check_passed (by decide) h
  obtain ⟨hk, h⟩ := check_passed (by decide) h
  obtain ⟨hl, -⟩ := check_passed (by decide) h
  exact ⟨by simpa [Option.isSome_iff_ne_none] using hk, Nat.not_le.mp hl⟩

theorem exec_openReq {v : Via} {src : Nat} {ws : List Word} (h : Asked s v 0x01 src ws) :
    let slot := (reqWord ws 0).toNat / 2 ^ 24
    let r := replyFor v src ws
    let nDev := (Config.random128 s.free).toNat
    let c := match (generalizing := false) v with | .chan c => some c | .svc => none
    let u := s.tick1Free.putSession s.newHandle ⟨c, src, slot, 0, beAt (reqBytes ws 1 4) 0 16, nDev, none, none, freshLatch⟩
    exec (.openReq v) s = .next (if s.openStatus v src slot ≠ 0 then s.respond r (s.openStatus v src slot) 0 []
      else (match (generalizing := false) v with | .chan c => u.setMbxState c 1 0 | .svc => u).respond r Stat.ok 0
        (BitVec.ofNat 32 s.newHandle :: beWords (be 16 nDev))) := by
  intro slot r nDev c u
  have he : exec (.openReq v) s = execOpenReq v s := rfl
  rw [he, execOpenReq.eq_def, serve_asked h]
  cases v <;> rfl

/-! ## Closing (R87) -/

/-- The channel of a session that closes is freed, and the window unbound if the session held it. -/
def freeChannel (s : State) (x : Session) : State :=
  match x.chan with
  | some c => (if s.winBound && s.winChan == c then s.unbindWindow else s).setMbxState c 0 0
  | none => s

/-- The upload of a session that closes is abandoned. -/
def dropUpload (s : State) (h : Nat) : State :=
  match s.flash.upload with
  | some u => if u.handle = h then { s with flash := { s.flash with upload := none } } else s
  | none => s

theorem closeSession_known {h : Nat} {x : Session} (hx : s.session h = some x) :
    s.closeSession h = { dropUpload (freeChannel s x) h with sessions := serase (dropUpload (freeChannel s x) h).sessions h } := by
  simp only [State.closeSession, hx, freeChannel, dropUpload] <;> rfl

theorem unbindWindow_writes {rs : List Reg} {c : Nat} (hr : .HST_WIN_STATUS ∈ rs) (hc : .HST_MBX_STATE c ∈ rs) (hw : s.winBound = true → s.winChan = c) :
    Writes rs [] s s.unbindWindow := by
  unfold State.unbindWindow
  split
  · next hb => exact (((Writes.refl).setFld (hw hb ▸ hc) _ _).setFld hr _ _).setFld hr _ _
  · exact .refl

theorem freeChannel_writes {x : Session} {rs : List Reg} (hw : .HST_WIN_STATUS ∈ rs) (hc : ∀ c, x.chan = some c → .HST_MBX_STATE c ∈ rs) :
    Writes rs [] s (freeChannel s x) := by
  unfold freeChannel
  split
  · next c hx =>
    refine Writes.setFld (.setFld ?_ (hc c hx) _ _) (hc c hx) _ _
    split
    · next h => exact unbindWindow_writes hw (hc c hx) fun _ => by simp_all
    · exact .refl
  · exact .refl

theorem dropUpload_rest (s : State) (h : Nat) : dropUpload s h = { s with flash := (dropUpload s h).flash } := by
  unfold dropUpload
  split
  · split <;> rfl
  · rfl

theorem dropUpload_upload {h : Nat} {u : Upload} (hu : s.flash.upload = some u) :
    (dropUpload s h).flash.upload = if u.handle = h then none else some u := by
  unfold dropUpload
  simp only [hu]
  split
  · rfl
  · exact hu

theorem unbindWindow_regsOnly {u : State} (h : RegsOnly s u) : RegsOnly s u.unbindWindow := by
  unfold State.unbindWindow
  split
  · exact ((h.setFld ..).setFld ..).setFld ..
  · exact h

theorem freeChannel_regsOnly (s : State) (x : Session) : RegsOnly s (freeChannel s x) := by
  unfold freeChannel
  split
  · refine RegsOnly.setFld (.setFld ?_ ..) ..
    split
    · exact unbindWindow_regsOnly .refl
    · exact .refl
  · exact .refl

theorem serase_of_none {α : Type} {m : SMap α} {k : Nat} (h : sfind m k = none) : serase m k = m := by
  induction m with
  | nil => rfl
  | cons e m ih =>
    obtain ⟨j, w⟩ := e
    simp only [sfind] at h
    split at h
    · cases h
    · next hj => rw [serase, if_neg hj, ih h]

/-- Closing changes the sessions, the upload, and the registers that show the channel and the window. -/
theorem closeSession_rest (s : State) (h : Nat) :
    s.closeSession h = { s with regs := (s.closeSession h).regs, masked := (s.closeSession h).masked,
                                flash := (s.closeSession h).flash, sessions := serase s.sessions h } := by
  cases hx : s.session h with
  | none =>
    have hs : serase s.sessions h = s.sessions := serase_of_none hx
    simp only [State.closeSession, hx, hs]
  | some x =>
    rw [closeSession_known hx, dropUpload_rest, freeChannel_regsOnly]

theorem closeSession_session_self (h : Nat) (hs : StoresCanonical s) : (s.closeSession h).session h = none := by
  rw [State.session, closeSession_rest]
  exact sfind_serase_self _ _ _ hs.sessions

theorem closeSession_session_ne {h k : Nat} (hk : k ≠ h) : (s.closeSession h).session k = s.session k := by
  rw [State.session, closeSession_rest]
  exact sfind_serase_ne _ _ _ (Ne.symm hk)

theorem setMbxState_fld {c : Nat} (hs : s.regsOk) (st role : Nat) (hst : st < 4) (hrole : role < 8) :
    (s.setMbxState c st role).fld (.HST_MBX_STATE c) F.HST_MBX_STATE_STATE = st ∧
    (s.setMbxState c st role).fld (.HST_MBX_STATE c) F.HST_MBX_STATE_ROLE = role ∧
    (s.setMbxState c st role).fld (.HST_MBX_STATE c) F.HST_MBX_STATE_BOUND = s.fld (.HST_MBX_STATE c) F.HST_MBX_STATE_BOUND := by
  unfold State.setMbxState
  have h1 : (s.setFld (.HST_MBX_STATE c) F.HST_MBX_STATE_STATE st).regsOk := regsOk_setFld hs
  refine ⟨?_, fld_setFld_lt h1 (by decide) hrole, ?_⟩
  · rw [State.fld_setFld_apart _ _ _ _ _ h1 (by decide) (by decide), fld_setFld_lt hs (by decide) hst]
  · rw [State.fld_setFld_apart _ _ _ _ _ h1 (by decide) (by decide), State.fld_setFld_apart _ _ _ _ _ hs (by decide) (by decide)]

theorem setMbxState_fld_win {c : Nat} (hc : c < 8) (st role : Nat) (f : Fld) :
    (s.setMbxState c st role).fld .HST_WIN_STATUS f = s.fld .HST_WIN_STATUS f := by
  unfold State.setMbxState
  rw [State.fld_setFld_ne _ _ _ _ _ _ (addr_HST_MBX_STATE_ne_HST_WIN_STATUS hc),
    State.fld_setFld_ne _ _ _ _ _ _ (addr_HST_MBX_STATE_ne_HST_WIN_STATUS hc)]

theorem regsOk_unbindWindow (h : s.regsOk) : s.unbindWindow.regsOk := by
  unfold State.unbindWindow
  split
  · exact regsOk_setFld (regsOk_setFld (regsOk_setFld h))
  · exact h

/-- An unbound window shows no channel, and the channel that held it is bound no more. -/
theorem unbindWindow_bound (h : s.regsOk) (hw : s.winBound = true) (hc : s.winChan < 8) :
    s.unbindWindow.winBound = false ∧ s.unbindWindow.fld (.HST_MBX_STATE s.winChan) F.HST_MBX_STATE_BOUND = 0 := by
  have hne := addr_HST_MBX_STATE_ne_HST_WIN_STATUS hc
  have h1 : (s.setFld (.HST_MBX_STATE s.winChan) F.HST_MBX_STATE_BOUND 0).regsOk := regsOk_setFld h
  unfold State.unbindWindow
  rw [if_pos hw]
  refine ⟨?_, ?_⟩
  · rw [State.winBound, State.fld_setFld_apart _ _ _ _ _ (regsOk_setFld h1) (by decide) (by decide), fld_setFld_lt h1 (by decide) (by decide)]
    rfl
  · rw [State.fld_setFld_ne _ _ _ _ _ _ hne.symm, State.fld_setFld_ne _ _ _ _ _ _ hne.symm, fld_setFld_lt h (by decide) (by decide)]

theorem winChan_eq {t : State} (h : t.fld .HST_WIN_STATUS F.HST_WIN_STATUS_CHANNEL = s.fld .HST_WIN_STATUS F.HST_WIN_STATUS_CHANNEL) :
    t.winChan = s.winChan := h

theorem winBound_eq {t : State} (h : t.fld .HST_WIN_STATUS F.HST_WIN_STATUS_BOUND = s.fld .HST_WIN_STATUS F.HST_WIN_STATUS_BOUND) :
    t.winBound = s.winBound := by rw [State.winBound, h, State.winBound]

theorem closeSession_fld {h : Nat} {x : Session} (hx : s.session h = some x) (r : Reg) (f : Fld) :
    (s.closeSession h).fld r f = (freeChannel s x).fld r f := by
  rw [closeSession_known hx, dropUpload_rest]
  rfl

/-- What closing shows of the session's channel and of the window (R87, R97). -/
theorem closeSession_channel {h c : Nat} {x : Session} (hx : s.session h = some x) (hxc : x.chan = some c) (hc : c < 8)
    (hs : s.regsOk) :
    let t := s.closeSession h
    t.fld (.HST_MBX_STATE c) F.HST_MBX_STATE_STATE = 0 ∧ t.fld (.HST_MBX_STATE c) F.HST_MBX_STATE_ROLE = 0 ∧
    (s.winBound = true → s.winChan = c → t.winBound = false ∧ t.fld (.HST_MBX_STATE c) F.HST_MBX_STATE_BOUND = 0) ∧
    (s.winBound = false ∨ s.winChan ≠ c → t.winBound = s.winBound ∧ t.winChan = s.winChan) := by
  intro t
  by_cases hb : s.winBound = true ∧ s.winChan = c
  · obtain ⟨hb, rfl⟩ := hb
    have hf : freeChannel s x = s.unbindWindow.setMbxState s.winChan 0 0 := by simp [freeChannel, hxc, hb]
    obtain ⟨h1, h2, h3⟩ := setMbxState_fld (c := s.winChan) (regsOk_unbindWindow hs) 0 0 (by decide) (by decide)
    obtain ⟨h4, h5⟩ := unbindWindow_bound hs hb hc
    have hbound : t.winBound = false := by rw [winBound_eq (t := t) (s := s.unbindWindow) (by rw [closeSession_fld hx, hf, setMbxState_fld_win hc]), h4]
    refine ⟨by rw [closeSession_fld hx, hf, h1], by rw [closeSession_fld hx, hf, h2],
      fun _ _ => ⟨hbound, by rw [closeSession_fld hx, hf, h3, h5]⟩, fun hn => ?_⟩
    simp [hb] at hn
  · have hf : freeChannel s x = s.setMbxState c 0 0 := by simp only [freeChannel, hxc]; rw [if_neg (by simpa using hb)]
    obtain ⟨h1, h2, h3⟩ := setMbxState_fld (c := c) hs 0 0 (by decide) (by decide)
    simp only [t, State.winBound, State.winChan, closeSession_fld hx, hf, h1, h2, setMbxState_fld_win hc]
    simp_all [State.winBound, State.winChan]

/-! ## AUTH (R84, R85) -/

theorem StoresCanonical.closeSession (hs : StoresCanonical s) (h : Nat) : StoresCanonical (s.closeSession h) :=
  (Evolves.refl.closeSession h).stores hs

theorem event_rest (s : State) {code : Nat} (hc : code < 256) (i d : Nat) :
    s.event code i d = { s with regs := (s.event code i d).regs, masked := (s.event code i d).masked, cnt := (s.event code i d).cnt,
                                hlt := (s.event code i d).hlt, irq := (s.event code i d).irq, out := (s.event code i d).out } :=
  ((Signals.signalProof (rs := []) (ids := []) (s := s)).event .refl hc i d).rest

/-- The session is closed, the failure counted and its event raised (AUTH_FAILED). -/
def authNoted (s : State) (h : Nat) (x : Session) : State :=
  ((s.closeSession h).count C.authFailures).event Ev.authFail (x.chan.getD 0x100) 0

/-- What a failed authentication leaves before its answer: the hold-off too (R85). -/
def authRefused (s : State) (h : Nat) (x : Session) : State :=
  match x.chan with
  | some c => { authNoted s h x with mbx := { s.mbx with holdCh := c :: s.mbx.holdCh.filter (· != c) } }
  | none => { authNoted s h x with mbx := { s.mbx with holdSrc := x.src :: s.mbx.holdSrc.filter (· != x.src) } }

theorem closeSession_mbx (s : State) (h : Nat) : (s.closeSession h).mbx = s.mbx := by rw [closeSession_rest]
theorem closeSession_jobs (s : State) (h : Nat) : (s.closeSession h).jobs = s.jobs := by rw [closeSession_rest]
theorem closeSession_cnt (s : State) (h : Nat) : (s.closeSession h).cnt = s.cnt := by rw [closeSession_rest]
theorem closeSession_st0 (s : State) (h : Nat) : (s.closeSession h).st0 = s.st0 := by rw [closeSession_rest]
theorem closeSession_st1 (s : State) (h : Nat) : (s.closeSession h).st1 = s.st1 := by rw [closeSession_rest]

theorem authFailed_eq (s : State) (h : Nat) (x : Session) (r : Reply) :
    s.authFailed h x r = (authRefused s h x).respond r Stat.authFailed 0 [] := by
  unfold State.authFailed authRefused authNoted
  cases hx : x.chan with
  | none => simp only [State.count_mbx, closeSession_mbx, Option.getD_none]
  | some c => simp only [State.count_mbx, closeSession_mbx, Option.getD_some]

theorem authNoted_sessions (s : State) (h : Nat) (x : Session) : (authNoted s h x).sessions = (s.closeSession h).sessions := by
  rw [authNoted, event_rest _ (by decide)]
  rfl

theorem authNoted_jobs (s : State) (h : Nat) (x : Session) : (authNoted s h x).jobs = s.jobs := by
  rw [authNoted, event_rest _ (by decide)]
  exact closeSession_jobs s h

theorem authNoted_counts (h : Nat) (x : Session) (hs : StoresCanonical s) :
    CountedOnce C.authFailures s (authNoted s h x) ∧ CountedOnce (C.events Ev.authFail) s (authNoted s h x) := by
  have hv : StoresCanonical (s.closeSession h) := hs.closeSession h
  have hc : ∀ id, (s.closeSession h).counter id = s.counter id := counter_of_cnt (closeSession_cnt s h)
  constructor
  · rw [CountedOnce, authNoted, event_counter_ne _ (by decide), State.counter_count_self _ _ hv.cnt, hc]
  · have := event_countedOnce (hv.count C.authFailures) Ev.authFail (x.chan.getD 0x100) 0
    rwa [CountedOnce, State.counter_count_ne _ _ _ (by decide), hc] at this

/-- What a failed authentication leaves (R85). -/
theorem authRefused_leaves (h : Nat) (x : Session) (hs : StoresCanonical s) :
    let u := authRefused s h x
    u.session h = none ∧ (∀ k, k ≠ h → u.session k = s.session k) ∧ CountedOnce C.authFailures s u ∧
    CountedOnce (C.events Ev.authFail) s u ∧ u.jobs = s.jobs ∧
    (match x.chan with
      | some c => c ∈ u.mbx.holdCh ∧ u.mbx.holdSrc = s.mbx.holdSrc
      | none => x.src ∈ u.mbx.holdSrc ∧ u.mbx.holdCh = s.mbx.holdCh) := by
  intro u
  have hu : u = { authNoted s h x with mbx := u.mbx } := by
    simp only [u, authRefused]
    split <;> rfl
  have hsess : ∀ k, u.session k = (s.closeSession h).session k := fun k => by
    rw [hu, State.session, authNoted_sessions]
    rfl
  have hcnt : u.cnt = (authNoted s h x).cnt := by rw [hu]
  have hjobs : u.jobs = s.jobs := by rw [hu, authNoted_jobs]
  obtain ⟨h1, h2⟩ := authNoted_counts h x hs
  refine ⟨by rw [hsess, closeSession_session_self h hs], fun k hk => by rw [hsess, closeSession_session_ne hk],
    by rwa [CountedOnce, counter_of_cnt hcnt], by rwa [CountedOnce, counter_of_cnt hcnt], hjobs, ?_⟩
  simp only [u, authRefused]
  cases x.chan <;> simp

theorem exec_auth {v : Via} {src h : Nat} {ws : List Word} {x : Session} {key role : Nat} (ha : AskedBy s v 0x02 src ws h x)
    (hx : x.role = 0) (hk : s.slotKey x.slot = some (key, role)) :
    let r := replyFor v src ws
    let u := s.putSession h { x with role := role }
    exec (.auth v) s = .next (if reqBytes ws 0 8 ≠ proof key 0x48 x.nDev x.nHost h x.slot then s.authFailed h x r
      else (match x.chan with | some c => u.setMbxState c 2 role | none => u).respond r Stat.ok 0
        (BitVec.ofNat 32 (role * 2 ^ 24) :: beWords (proof key 0x44 x.nHost x.nDev h x.slot))) := by
  intro r u
  have he : exec (.auth v) s = execAuth v s := rfl
  rw [he, execAuth.eq_def, serveSession_asked ha (.inl rfl)]
  simp only [hx, hk, ne_eq, not_true_eq_false, if_false]
  rfl

/-! ## BIND and UNBIND (R97) -/

theorem unbindWindow_writes_of_bound {rs : List Reg} (hw : .HST_WIN_STATUS ∈ rs) (hc : .HST_MBX_STATE s.winChan ∈ rs) :
    Writes rs [] s s.unbindWindow := unbindWindow_writes hw hc fun _ => rfl

/-- The window bound to a channel that did not hold it. -/
theorem bindWindow_anew {c : Nat} (hs : s.regsOk) (hc : c < 8) (hw : s.winChan < 8) (hn : s.winBound = false ∨ s.winChan ≠ c) :
    let u := s.bindWindow c
    u.winBound = true ∧ u.winChan = c ∧ u.fld (.HST_MBX_STATE c) F.HST_MBX_STATE_BOUND = 1 ∧
    (s.winBound = true → u.fld (.HST_MBX_STATE s.winChan) F.HST_MBX_STATE_BOUND = 0) ∧
    Writes [.HST_WIN_STATUS, .HST_MBX_STATE c, .HST_MBX_STATE s.winChan] [] s u := by
  intro u
  have hu : u = ((s.unbindWindow.setFld (.HST_MBX_STATE c) F.HST_MBX_STATE_BOUND 1).setFld .HST_WIN_STATUS F.HST_WIN_STATUS_BOUND 1).setFld
      .HST_WIN_STATUS F.HST_WIN_STATUS_CHANNEL c := by
    refine if_neg ?_
    rcases hn with h | h <;> simp [h]
  have h0 : s.unbindWindow.regsOk := regsOk_unbindWindow hs
  have h1 : (s.unbindWindow.setFld (.HST_MBX_STATE c) F.HST_MBX_STATE_BOUND 1).regsOk := regsOk_setFld h0
  have hne := (addr_HST_MBX_STATE_ne_HST_WIN_STATUS hc).symm
  refine ⟨?_, ?_, ?_, fun hb => ?_, ?_⟩
  · rw [State.winBound, hu, State.fld_setFld_apart _ _ _ _ _ (regsOk_setFld h1) (by decide) (by decide), fld_setFld_lt h1 (by decide) (by decide)]
    rfl
  · rw [State.winChan, hu, fld_setFld_lt (regsOk_setFld h1) (by decide) hc]
  · rw [hu, State.fld_setFld_ne _ _ _ _ _ _ hne, State.fld_setFld_ne _ _ _ _ _ _ hne, fld_setFld_lt h0 (by decide) (by decide)]
  · have hcw : c ≠ s.winChan := fun h => hn.elim (by simp [hb]) (· h.symm)
    have hne' := (addr_HST_MBX_STATE_ne_HST_WIN_STATUS hw).symm
    rw [hu, State.fld_setFld_ne _ _ _ _ _ _ hne', State.fld_setFld_ne _ _ _ _ _ _ hne',
      State.fld_setFld_ne _ _ _ _ _ _ (addr_HST_MBX_STATE_ne hc hw hcw), (unbindWindow_bound hs hb hw).2]
  · rw [hu]
    exact (((unbindWindow_writes_of_bound (by simp) (by simp)).setFld (by simp) _ _).setFld (by simp) _ _).setFld (by simp) _ _

theorem chan_of_isOn {x : Session} {c src : Nat} (h : x.isOn (.chan c) src = true) : x.chan = some c := by
  simpa [Session.isOn] using h

theorem exec_unbind {src h c : Nat} {ws : List Word} {x : Session} (ha : AskedBy s (.chan c) 0x05 src ws h x) (hr : x.role ≠ 0) :
    exec (.unbind (.chan c)) s = .next (if s.winBound = true ∧ s.winChan = c then s.unbindWindow.respond (.mbx c) Stat.ok 0 []
      else s.respond (.mbx c) Stat.state 0 []) := by
  have he : exec (.unbind (.chan c)) s = execUnbind (.chan c) s := rfl
  rw [he, execUnbind, serveSession_asked ha (.inr hr)]
  simp only [chan_of_isOn ha.own, Bool.and_eq_true, beq_iff_eq, Option.some.injEq, eq_comm (a := c)]
  rfl

/-- Settles O16: `exec_openReq` and `openStatus_zero` for OPEN, `authRefused_leaves` for AUTH, `closeSession_channel` for
closing, `bindWindow_anew` and `unbindWindow_bound` for the window. -/
theorem sessionsLive : Obligations.SessionsLive := by
  unfold Obligations.SessionsLive
  refine ⟨⟨fun s v src ws ha => ⟨fun hst => ?_, fun hst => ?_⟩, fun s v src slot => ?_,
      fun s v src h ws x key role ha hx hk hs => ⟨fun hp => ?_, fun hp => ?_⟩, fun s c src => ⟨⟨_, rfl, rfl, fun k => ?_⟩, ⟨_, rfl, rfl, fun k => ?_⟩⟩,
      fun s h x hx => ?_⟩,
    fun s h x hs hx hc hw => ?_, fun s v src h ws x ha => ?_, fun s h x hx => ?_, fun s src h c ws x hs ha hr hc hw => ?_,
    fun s src h c ws x hs ha hr hc => ⟨fun hb hch => ?_, fun hn => ?_⟩⟩
  · rw [exec_openReq ha, if_pos hst]
  · obtain ⟨hk, hl⟩ := openStatus_zero hst
    obtain ⟨h0, hlt, hfree⟩ := newHandle_fresh hl
    exact ⟨hk, hl, s.newHandle, h0, hlt, hfree, by rw [exec_openReq ha, if_neg (by simpa using hst)] <;> cases v <;> rfl⟩
  · refine ⟨fun h4 => by simp [State.openStatus, h4], fun h4 hh => ?_, fun c h4 hh hv hb => ?_, fun h4 hh hv hb hsl => ?_,
      fun h4 hh hv hb hsl hk => ?_, fun h4 hh hv hb hsl => ?_, fun h4 hh hv hb hsl hk => ?_⟩
    · cases v <;> simp_all [State.openStatus]
    · simp_all [State.openStatus]
    · simp_all [State.openStatus]
    · simp_all [State.openStatus]
    · simp_all [State.openStatus]
    · have hsl' : ¬ 8 ≤ slot := Nat.not_le.mpr hsl
      have hk' : s.slotKey slot ≠ none := Option.isSome_iff_ne_none.mp hk
      subst hv
      simp_all [State.openStatus]
  · rw [exec_auth ha hx hk, if_neg (by simpa using hp)] <;> cases x.chan <;> rfl
  · exact ⟨authRefused s h x, by rw [exec_auth ha hx hk, if_pos hp, authFailed_eq], authRefused_leaves h x hs⟩
  · simp
  · simp
  · have he : exec (.openingTimeout h) s = execOpeningTimeout h s := rfl
    rw [he, execOpeningTimeout, hx]
  · refine ⟨closeSession_session_self h hs, fun _ => closeSession_session_ne, closeSession_jobs s h, closeSession_cnt s h,
      closeSession_st0 s h, closeSession_st1 s h, fun c hxc => closeSession_channel hx hxc (hc c hxc) hs.regs, fun u hu => ?_⟩
    rw [closeSession_known hx]
    exact dropUpload_upload (by rw [freeChannel_regsOnly]; exact hu)
  · have he : exec (.close v) s = execClose v s := rfl
    rw [he, execClose, serveSession_asked ha (.inl rfl)]
  · have he : exec (.idleTimeout h) s = execIdleTimeout h s := rfl
    rw [he, execIdleTimeout, hx]
    by_cases h0 : s.fld .STW_TXN_CFG F.STW_TXN_CFG_IDLE_TIMEOUT = 0 <;> simp [h0]
  · have he : exec (.bind (.chan c)) s = .next ((s.bindWindow c).respond (.mbx c) Stat.ok 0 []) := by
      have hb : exec (.bind (.chan c)) s = execBind (.chan c) s := rfl
      rw [hb, execBind, serveSession_asked ha (.inr hr)]
      simp only [chan_of_isOn ha.own]
      rfl
    by_cases hn : s.winBound = true ∧ s.winChan = c
    · have hu : s.bindWindow c = s := if_pos (by simp [hn])
      exact ⟨s, by rw [he, hu], hn.1, hn.2, fun _ _ => rfl, fun hn' => absurd hn (by rcases hn' with h | h <;> simp [h])⟩
    · have hn' : s.winBound = false ∨ s.winChan ≠ c := by simpa [Classical.or_iff_not_imp_left] using hn
      obtain ⟨h1, h2, h3, h4, h5⟩ := bindWindow_anew hs.regs hc hw hn'
      exact ⟨_, he, h1, h2, fun hb hch => absurd ⟨hb, hch⟩ hn, fun _ => ⟨h3, h4, h5⟩⟩
  · subst hch
    refine ⟨s.unbindWindow, ?_, (unbindWindow_bound hs.regs hb hc).1, (unbindWindow_bound hs.regs hb hc).2,
      unbindWindow_writes_of_bound (by simp) (by simp)⟩
    rw [exec_unbind ha hr, if_pos (by simp [hb])]
  · rw [exec_unbind ha hr, if_neg (by rcases hn with h | h <;> simp [h])]

end Sys2Proof
end

section
/-! PROOF. READ, READ_STAGED and WRITE (R90, R91). -/
namespace Sys2Proof

open Sys2Proof.Machine

set_option Elab.async false

variable {s : State} {w : Who} {σ : Nat → State}

/-! ## Runs of registers -/

section Reads
variable {a : Nat} {words : Nat → Word} (staged : Bool)

/-- The word that a READ (READ_STAGED) returns of the register at index `i`. -/
def wordRead (w : Who) (a : Nat) (σ : Nat → State) (words : Nat → Word) (staged : Bool) (i : Nat) : Word :=
  if staged then ((σ (i + 1)).stagedWord w (a + 4 * i)).getD (words i) else words i

/-- `k` registers that read are read, and the run goes on at the next. -/
theorem readMany_reads (k m i : Nat) (acc : List Word)
    (h : ∀ j, i ≤ j → j < i + k → (σ j).readAddr w (a + 4 * j) = (σ (j + 1), 0, words j)) :
    (σ i).readMany w staged a (k + m) i acc =
      (σ (i + k)).readMany w staged a m (i + k) (((List.range' i k).map (wordRead w a σ words staged)).reverse ++ acc) := by
  induction k generalizing i acc with
  | zero => simp
  | succ k ih =>
    have hi := h i (Nat.le_refl i) (by omega)
    rw [Nat.add_right_comm, State.readMany]
    simp only [hi, ne_eq, not_true_eq_false, if_false]
    rw [ih (i + 1) _ fun j hj hlt => h j (by omega) (by omega), List.range'_succ]
    simp only [Nat.add_right_comm i 1 k, Nat.add_assoc, List.map_cons, List.reverse_cons, List.append_assoc, List.singleton_append]
    rfl

end Reads

/-- The words written: pairs of an address and a value. -/
def pairWords (A V : Nat → Word) (l : List Nat) : List Word := l.flatMap fun i => [A i, V i]

theorem writeMany_writes {A V : Nat → Word} (k i : Nat) (rest : List Word)
    (h : ∀ j, i ≤ j → j < i + k → (σ j).writeAddr w (A j).toNat (V j) = (σ (j + 1), 0)) :
    (σ i).writeMany w i (pairWords A V (List.range' i k) ++ rest) = (σ (i + k)).writeMany w (i + k) rest := by
  induction k generalizing i with
  | zero => rfl
  | succ k ih =>
    have hi := h i (Nat.le_refl i) (by omega)
    simp only [List.range'_succ, pairWords, List.flatMap_cons, List.cons_append, List.nil_append, State.writeMany, hi, ne_eq,
      not_true_eq_false, if_false]
    rw [← pairWords, ih (i + 1) fun j hj hlt => h j (by omega) (by omega), Nat.add_right_comm, Nat.add_assoc]

/-! ## The commands -/

theorem exec_read {v : Via} {src h : Nat} {ws : List Word} {x : Session} {staged : Bool}
    (ha : AskedBy s v (if staged then 0x12 else 0x10) src ws h x) (hx : x.role ≠ 0) :
    exec (if staged then .readStaged v else .read v) s = .next (s.readCmd (replyFor v src ws) h x ws staged) := by
  cases staged
  · have he : exec (.read v) s = execRead v s := rfl
    exact he.trans (congrArg Host.Outcome.next (serveSession_asked ha (.inr hx)))
  · have he : exec (.readStaged v) s = execReadStaged v s := rfl
    exact he.trans (congrArg Host.Outcome.next (serveSession_asked ha (.inr hx)))

section ReadCmd
variable {r : Reply} {h n a : Nat} {x : Session} {ws : List Word} {staged : Bool} (hwa : (reqWord ws 0).toNat = a)
  (hwn : (reqWord ws 1).toNat = n)
include hwa hwn

theorem readCmd_barred {i : Nat} (hb : barredRead x a (min 60 (max 1 n)) = some i) :
    s.readCmd r h x ws staged = s.respond r Stat.role i [] := by
  simp only [State.readCmd, hwa, hwn, hb]

theorem readCmd_count (hb : barredRead x a (min 60 (max 1 n)) = none) (hn : n = 0 ∨ 60 < n) :
    s.readCmd r h x ws staged = s.respond r Stat.value 0 [] := by
  simp only [State.readCmd, hwa, hwn, hb, hn, if_true]

theorem readCmd_run (hb : barredRead x a (min 60 (max 1 n)) = none) (h1 : 1 ≤ n) (h60 : n ≤ 60) :
    s.readCmd r h x ws staged =
      let o := s.readMany (.sess h x.role) staged a n 0 []
      if o.2.1 ≠ 0 then s.respond r o.2.1 o.2.2.1 [] else o.1.respond r Stat.ok 0 o.2.2.2.reverse := by
  simp only [State.readCmd, hwa, hwn, hb]
  exact if_neg (by omega)

end ReadCmd

/-- Settles O17: a run goes as far as its registers read (`readMany_reads`) or its pairs are written (`writeMany_writes`). -/
theorem requestsReadAndWrite : Obligations.RequestsReadAndWrite := by
  unfold Obligations.RequestsReadAndWrite
  refine ⟨fun s v src h ws x staged n a σ words ha hx hwa hwn hσ => ?_, fun s w a hd => by simp [State.readAddr, hd],
    fun s v src h ws x n A V σ ha hx h1 h30 hp hσ => ?_⟩
  · subst hσ
    intro c r barred reads
    have hc : exec c (σ 0) = .next ((σ 0).readCmd r h x ws staged) := exec_read ha hx
    rw [hc]
    refine ⟨fun i hb => ?_, fun hb hn => ?_, fun hb h1 h60 hr => ?_, fun k st hb h1 h60 hk hr hst hne => ?_⟩
    · rw [readCmd_barred hwa hwn hb]
    · rw [readCmd_count hwa hwn hb hn]
    · have hm := readMany_reads staged n 0 0 [] fun j _ hj => hr j (by omega)
      rw [readCmd_run hwa hwn hb h1 h60, show n = n + 0 from rfl, hm]
      simp only [State.readMany, ne_eq, not_true_eq_false, if_false, List.reverse_append, List.reverse_reverse, Nat.zero_add,
        List.range_eq_range']
      rfl
    · obtain ⟨m, rfl⟩ : ∃ m, n = k + (m + 1) := ⟨n - k - 1, by omega⟩
      have hm := readMany_reads staged k (m + 1) 0 [] fun j _ hj => hr j (by omega)
      rw [readCmd_run hwa hwn hb h1 h60, hm, Nat.zero_add, State.readMany]
      simp only [hst, hne, ne_eq, not_false_eq_true, if_true]
  · subst hσ
    have he : exec (.write v) (σ 0) = execWrite v (σ 0) := rfl
    rw [he, execWrite, serveSession_asked ha (.inr hx)]
    simp only [hp]
    refine ⟨fun hw => ?_, fun k hk hw hne => ?_⟩
    · have hm := writeMany_writes n 0 [] fun j _ hj => hw j (by omega)
      rw [List.append_nil, Nat.zero_add, pairWords, ← List.range_eq_range'] at hm
      rw [hm]
      rfl
    · obtain ⟨m, rfl⟩ : ∃ m, n = k + (m + 1) := ⟨n - k - 1, by omega⟩
      have hm := writeMany_writes k 0 (pairWords A V (List.range' (0 + k) (m + 1))) fun j _ hj => hw j (by omega)
      rw [pairWords, pairWords, ← List.flatMap_append, List.range'_append_1, ← List.range_eq_range', List.range'_succ,
        List.flatMap_cons, Nat.zero_add] at hm
      rw [hm]
      simp only [List.cons_append, List.nil_append, State.writeMany, hne, ne_eq, not_false_eq_true, if_true, if_false]

end Sys2Proof
end

section
/-! PROOF. Transactions: BEGIN, ABORT, TXN_STATUS, TABLE_OP and staged register writes (R86, R100 to R104). -/
namespace Sys2Proof

open Sys2Proof.Machine

set_option Elab.async false

variable {s : State} {h : Nat} {x : Session}

/-- An operation that a record gives is a good one (R104). -/
theorem opOfRecord_check {t op : Nat} {ws : List Word} {o : TblOp} (h : opOfRecord t op ws = .inr o) : o.check = 0 := by
  unfold opOfRecord at h
  have hchecked : ∀ p : TblOp, (if p.check = 0 then Sum.inr p else Sum.inl p.check) = Sum.inr o → o.check = 0 := fun p hp => by
    split at hp
    · next h0 => exact Sum.inr.inj hp ▸ h0
    · cases hp
  split at h
  · cases h
  · split at h
    · cases h
    · split at h
      · split at h
        · cases h
        · split at h
          · cases h
          · exact hchecked _ h
      · exact hchecked _ h

/-! ## Staging of an operation -/

theorem stageOp_locked {r : Reply} {o : TblOp} (hx : s.session h = some x) (ho : o.check = 0) (hl : s.tblLocked h o.table = true) :
    s.stageOp h r o = (s, some (Stat.locked, 0)) := by
  simp [State.stageOp, hx, ho, hl]

theorem stageOp_open {r : Reply} {o : TblOp} {t : Txn} (hx : s.session h = some x) (ho : o.check = 0)
    (hl : s.tblLocked h o.table = false) (ht : x.txn = some t) :
    s.stageOp h r o = if 4096 < t.units + 4 then (s, some (Stat.txnFull, 0))
      else (s.putSession h { x with txn := some { t with ops := t.ops ++ [o], units := t.units + 4 } }, some (0, 0)) := by
  simp [State.stageOp, hx, ho, hl, ht, maxUnits]
  rfl

theorem stageOp_alone {r : Reply} {o : TblOp} (hx : s.session h = some x) (ho : o.check = 0)
    (hl : s.tblLocked h o.table = false) (ht : x.txn = none) (hv : (s.validate [] [o]).1 = 0) :
    s.stageOp h r o = (s.accept (newJob h r false [] [o]), none) := by
  simp [State.stageOp, hx, ho, hl, ht, hv]

section TableOp
variable {v : Via} {src : Nat} {ws : List Word} (ha : AskedBy s v 0x23 src ws h x) (hx : x.role ≠ 0)
include ha hx

theorem exec_tableOp_role (hm : x.mayCommit = false) : exec (.tableOp v) s = .next (s.respond (replyFor v src ws) Stat.role 0 []) := by
  have he : exec (.tableOp v) s = execTableOp v s := rfl
  rw [he, execTableOp, serveSession_asked ha (.inr hx)]
  simp [hm]

variable (hm : x.mayCommit = true)
include hm

theorem exec_tableOp_bad {code : Nat} (hr : opOfRecord ((reqWord ws 0).toNat / 2 ^ 24) ((reqWord ws 0).toNat / 2 ^ 16 % 256)
      ((ws.drop 4).take ((reqWord ws 0).toNat % 65536)) = .inl code) :
    exec (.tableOp v) s = .next (s.respond (replyFor v src ws) Stat.table code []) := by
  have he : exec (.tableOp v) s = execTableOp v s := rfl
  rw [he, execTableOp, serveSession_asked ha (.inr hx)]
  simp only [hm, hr, Bool.not_true, Bool.false_eq_true, if_false]

variable {o : TblOp} {u : State} (hr : opOfRecord ((reqWord ws 0).toNat / 2 ^ 24) ((reqWord ws 0).toNat / 2 ^ 16 % 256)
  ((ws.drop 4).take ((reqWord ws 0).toNat % 65536)) = .inr o)
include hr

theorem exec_tableOp_answered {st d : Nat} (hs : s.stageOp h (replyFor v src ws) o = (u, some (st, d))) :
    exec (.tableOp v) s = .next (u.respond (replyFor v src ws) st d []) := by
  have he : exec (.tableOp v) s = execTableOp v s := rfl
  rw [he, execTableOp, serveSession_asked ha (.inr hx)]
  simp only [hm, hr, hs, Bool.not_true, Bool.false_eq_true, if_false]

theorem exec_tableOp_accepted (hs : s.stageOp h (replyFor v src ws) o = (u, none)) : exec (.tableOp v) s = .next u := by
  have he : exec (.tableOp v) s = execTableOp v s := rfl
  rw [he, execTableOp, serveSession_asked ha (.inr hx)]
  simp only [hm, hr, hs, Bool.not_true, Bool.false_eq_true, if_false]

end TableOp

/-! ## Staging of a register -/

section Reg
variable {r : Reg} {w : Word} {t : Txn} (hx : s.session h = some x) (ht : x.txn = some t)
include hx ht

theorem stageReg_locked (hl : s.regLocked h r.addr = true) : s.stageReg h r w = (s, Stat.locked) := by
  simp [State.stageReg, hx, ht, hl]

theorem stageReg_again (hl : s.regLocked h r.addr = false) (hf : (sfind t.regs r.addr).isSome = true) :
    s.stageReg h r w = (s.putSession h { x with txn := some { t with regs := sinsert t.regs r.addr w } }, 0) := by
  simp [State.stageReg, hx, ht, hl, hf]

theorem stageReg_new (hl : s.regLocked h r.addr = false) (hf : sfind t.regs r.addr = none) :
    s.stageReg h r w = if 4096 < t.units + 1 then (s, Stat.txnFull)
      else (s.putSession h { x with txn := some { t with regs := sinsert t.regs r.addr w, units := t.units + 1 } }, 0) := by
  simp [State.stageReg, hx, ht, hl, hf, maxUnits]

end Reg

/-- Another session's open transaction locks the registers it stages. -/
theorem regLocked_of_staged {k a : Nat} {y : Session} {u : Txn} (hk : k ≠ h) (hy : (k, y) ∈ s.sessions) (hu : y.txn = some u)
    (hf : (sfind u.regs a).isSome = true) : s.regLocked h a = true := by
  unfold State.regLocked
  rw [Bool.or_eq_true]
  exact .inl (List.any_eq_true.mpr ⟨(k, y), hy, by simp [hk, hu, hf]⟩)

/-- Settles O18: the commands by `serveSession_asked`, staging by the lemmas about `stageOp` and `stageReg`. -/
theorem transactionsStage : Obligations.TransactionsStage := by
  unfold Obligations.TransactionsStage
  refine ⟨fun s v src h ws x hx => ⟨fun ha => ?_, fun ha => ?_, fun ha h4 => ?_⟩, fun s v src h ws x ha hx => ?_,
    fun s h r w x t hx ht => ⟨stageReg_locked hx ht, stageReg_again hx ht, stageReg_new hx ht, fun k y u hk => regLocked_of_staged hk⟩⟩
  · have he : exec (.begin v) s = execBegin v s := rfl
    rw [he, execBegin, serveSession_asked ha (.inr hx)]
    cases x.mayCommit <;> rfl
  · have he : exec (.abort v) s = execAbort v s := rfl
    rw [he, execAbort, serveSession_asked ha (.inr hx)]
    cases x.mayCommit <;> rfl
  · have he : exec (.txnStatus v) s = execTxnStatus v s := rfl
    rw [he, execTxnStatus, serveSession_asked ha (.inr hx)]
    simp only [h4, if_false]
    cases x.txn <;> rfl
  · intro r w rec'
    refine ⟨fun hm => exec_tableOp_role ha hx hm, fun code hm hr => exec_tableOp_bad ha hx hm hr, fun o hm hr => ?_⟩
    have ho : o.check = 0 := opOfRecord_check hr
    refine ⟨ho, fun hl => exec_tableOp_answered ha hx hm hr (stageOp_locked ha.known ho hl), fun t hl ht => ?_,
      fun hl ht hv => exec_tableOp_accepted ha hx hm hr (stageOp_alone ha.known ho hl ht hv)⟩
    have hs := stageOp_open (r := r) ha.known ho hl ht
    split at hs
    · exact (exec_tableOp_answered ha hx hm hr hs).trans (congrArg Host.Outcome.next (if_pos ‹_›).symm)
    · exact (exec_tableOp_answered ha hx hm hr hs).trans (congrArg Host.Outcome.next (if_neg ‹_›).symm)

end Sys2Proof
end

section
/-! PROOF. COMMIT, and the free bank that COMMIT_APPLY fills (R103 to R109). -/
namespace Sys2Proof

open Sys2Proof.Machine

set_option Elab.async false

/-! ## What the table unit changes -/

/-- Nothing but registers and the exact-match table has changed. -/
def UnitOnly (s t : State) : Prop := t = { s with regs := t.regs, masked := t.masked, fwd := t.fwd }

namespace UnitOnly

variable {s u : State}

theorem refl : UnitOnly s s := rfl

theorem setFld (h : UnitOnly s u) (r : Reg) (f : Fld) (v : Nat) : UnitOnly s (u.setFld r f v) := by
  unfold UnitOnly at *
  rw [h]
  rfl

theorem put (h : UnitOnly s u) (r : Reg) (v : Word) : UnitOnly s (u.put r v) := by
  unfold UnitOnly at *
  rw [h]
  rfl

theorem fwd (h : UnitOnly s u) (x : Fwd) : UnitOnly s { u with fwd := x } := by
  unfold UnitOnly at *
  rw [h]

theorem ite {c : Prop} [Decidable c] {a b : State} (ha : UnitOnly s a) (hb : UnitOnly s b) : UnitOnly s (if c then a else b) := by
  split
  · exact ha
  · exact hb

theorem foldl {α : Type} {l : List α} {f : State → α → State} (h : UnitOnly s u) (hf : ∀ v x, UnitOnly s v → UnitOnly s (f v x)) :
    UnitOnly s (l.foldl f u) := foldl_keeps l f h fun v x _ hv => hf v x hv

theorem setCopy (h : UnitOnly s u) (c : Nat) (m : SMap FwdEntry) : UnitOnly s (u.setCopy c m) := .ite (h.fwd _) (h.fwd _)
theorem t1Inval (h : UnitOnly s u) (key : Nat) : UnitOnly s (u.t1Inval key) := h.fwd _
theorem setCopyUp (h : UnitOnly s u) (c : Nat) (b : Bool) : UnitOnly s (u.setCopyUp c b) := h.setFld ..

theorem changeKey (h : UnitOnly s u) (key : Nat) (g : FwdEntry → Option FwdEntry) : UnitOnly s (u.changeKey key g) :=
  .t1Inval (h.foldl fun _ _ hv => hv.setCopy ..) _

theorem fwdMerge (h : UnitOnly s u) (keys : List Nat) (r c : Nat) : UnitOnly s (u.fwdMerge keys r c) :=
  h.foldl fun _ _ hv => hv.changeKey ..

theorem flushStart (h : UnitOnly s u) : UnitOnly s u.flushStart := .ite (h.fwd _) h

theorem nextPass (h : UnitOnly s u) : UnitOnly s u.nextPass := .ite h (.ite (h.fwd _) h.flushStart)

theorem rehashFailed (h : UnitOnly s u) : UnitOnly s u.rehashFailed := .nextPass (.fwd (.setFld (.setFld h ..) ..) _)

theorem placeAll (h : UnitOnly s u) (m : SMap FwdEntry) (sd : Option (Nat × Nat)) : UnitOnly s (u.placeAll m sd) := by
  unfold State.placeAll
  extract_lets r v w fwd x
  have hv : UnitOnly s v := .ite ((h.setCopyUp ..).setCopyUp ..) h
  have hw : UnitOnly s w := hv.foldl fun _ _ hy => hy.setCopy ..
  clear_value w
  have hx : UnitOnly s x := hw.fwd _
  exact .ite hx.rehashFailed hx

theorem seedRestore (h : UnitOnly s u) (x : SeedUndo) : UnitOnly s (u.seedRestore x) := by
  unfold State.seedRestore
  extract_lets v fwd w
  have hv : UnitOnly s v := h.placeAll ..
  clear_value v
  have hw : UnitOnly s w := hv.fwd _
  exact (hw.put ..).put ..

end UnitOnly

/-! ## Bucket reads (R267) -/

theorem bucketEcc_jobs (s : State) (c b : Nat) (e : BucketEcc) : (s.bucketEcc c b e).1.jobs = s.jobs := by
  unfold State.bucketEcc
  extract_lets v
  have hv : v.jobs = s.jobs := (congrArg State.jobs (event_rest (s.count C.t2Lost) (by decide) b 0)).trans rfl
  have hc : ∀ m k, ((v.setCopy c m).t1Inval k).jobs = v.jobs := fun m k =>
    (congrArg State.jobs (UnitOnly.t1Inval (.setCopy (s := v) .refl c m) k)).trans rfl
  split
  · rfl
  · rfl
  · split
    · rfl
    · split
      · exact (hc _ _).trans hv
      · exact hv

theorem readEcc_jobs (s : State) (l : List (Nat × BucketEcc)) : (s.readEcc l).jobs = s.jobs := by
  unfold State.readEcc
  split
  · exact foldl_keeps (P := fun t => t.jobs = s.jobs) l _ rfl fun v x _ hv => (bucketEcc_jobs ..).trans hv
  · rfl

/-! ## Staged registers in the free bank (R108) -/

variable {s : State}

theorem curSel_lt (s : State) : s.curSel < 2 := Fld.get_lt _ _

theorem stGet_stPut_ne (e e' : Nat) {r q : Reg} (v : Word) (h : r.addr ≠ q.addr) : (s.stPut e r v).stGet e' q = s.stGet e' q := by
  unfold State.stPut State.stGet State.bank
  split <;> split <;> simp only [sgetD_sput_ne _ _ _ _ _ _ h]

theorem stGet_stPut_self (hs : StoresCanonical s) (e : Nat) (r : Reg) (v : Word) : (s.stPut e r v).stGet e r = v := by
  unfold State.stPut State.stGet State.bank
  split
  · exact sgetD_sput_self _ _ _ _ hs.st0
  · exact sgetD_sput_self _ _ _ _ hs.st1

theorem bank_stPut_ne {e e' : Nat} (h : (e = 0) ≠ (e' = 0)) (r : Reg) (v : Word) : (s.stPut e r v).bank e' = s.bank e' := by
  unfold State.stPut State.bank
  by_cases h0 : e = 0 <;> by_cases h1 : e' = 0 <;> simp_all

theorem StoresCanonical.stPut (hs : StoresCanonical s) (e : Nat) (r : Reg) (v : Word) : StoresCanonical (s.stPut e r v) :=
  (Evolves.refl.stPut e r v).stores hs

/-- A register of a valid index that no block mode lies in. -/
structure Plain (r : Reg) : Prop where
  ok : r.indexOk = true
  block : isBlockReg r = false

theorem Plain.addr_ne_LNE_GRP_CFG {r : Reg} (h : Plain r) {b : Nat} (hb : b < 128) : r.addr ≠ (Reg.LNE_GRP_CFG b).addr :=
  addr_ne h.ok (by simpa [Reg.indexOk] using hb) fun he => by simp [he, isBlockReg] at h; exact absurd h.block (by simp [isBlockReg])

theorem Plain.addr_ne_PRT_BLK_CFG {r : Reg} (h : Plain r) {b : Nat} (hb : b < 128) : r.addr ≠ (Reg.PRT_BLK_CFG b).addr :=
  addr_ne h.ok (by simpa [Reg.indexOk] using hb) fun he => absurd (he ▸ h.block) (by simp [isBlockReg])

theorem isPortIn_stPut {r : Reg} (hr : Plain r) (e e' : Nat) (v : Word) (p : Nat) : (s.stPut e r v).isPortIn e' p = s.isPortIn e' p := by
  unfold State.isPortIn State.stFld
  by_cases hp : p < 1024
  · rw [stGet_stPut_ne _ _ _ (hr.addr_ne_LNE_GRP_CFG (by omega)), stGet_stPut_ne _ _ _ (hr.addr_ne_PRT_BLK_CFG (by omega))]
  · simp [hp]

theorem instIn_stPut {r : Reg} (hr : Plain r) (e e' : Nat) (v : Word) (q : Reg) : (s.stPut e r v).instIn e' q = s.instIn e' q := by
  unfold State.instIn
  split
  · exact isPortIn_stPut hr ..
  · rfl

/-- One staged value in bank `f`, if it is of the kind wanted and its instance exists: a step of `State.writeBank`. -/
def stageOne (f : Nat) (want : Bool) (s : State) (kv : Nat × Word) : State :=
  match decodeAddr kv.1 with
  | some r => if r.isST && isBlockReg r == want && s.instIn f r then s.stPut f r kv.2 else s
  | none => s

/-- The staged words name staged registers, none of them a block mode. -/
def StagesPlain (regs : SMap Word) : Prop :=
  ∀ kv ∈ regs, ∃ r, decodeAddr kv.1 = some r ∧ r.addr = kv.1 ∧ r.isST = true ∧ isBlockReg r = false

theorem plain_of_decode {a : Nat} {r : Reg} (h : decodeAddr a = some r) (hb : isBlockReg r = false) : Plain r :=
  ⟨(registerMapDecodes.2.1 a r h).2.1, hb⟩

theorem stageOne_true {f : Nat} {kv : Nat × Word} {r : Reg} (hd : decodeAddr kv.1 = some r) (hb : isBlockReg r = false) :
    stageOne f true s kv = s := by
  simp [stageOne, hd, hb]

theorem stageOne_false {f : Nat} {kv : Nat × Word} {r : Reg} (hd : decodeAddr kv.1 = some r) (hb : isBlockReg r = false)
    (hst : r.isST = true) : stageOne f false s kv = if s.instIn f r then s.stPut f r kv.2 else s := by
  simp [stageOne, hd, hb, hst]

/-- What filling bank `f` with plain staged words leaves. -/
structure Filled (s : State) (f : Nat) (regs : SMap Word) (t : State) : Prop where
  rest : t = { s with st0 := t.st0, st1 := t.st1 }
  inst : ∀ q, t.instIn f q = s.instIn f q
  other : ∀ e, (f = 0) ≠ (e = 0) → t.bank e = s.bank e
  canonical : StoresCanonical t
  value : ∀ r : Reg, decodeAddr r.addr = some r → t.stGet f r = match sfind regs r.addr with
    | some w => if s.instIn f r then w else s.stGet f r
    | none => s.stGet f r

theorem filled (regs : SMap Word) (f : Nat) (l : Option Nat) (hk : skeysFrom l regs = true) (hp : StagesPlain regs)
    (hs : StoresCanonical s) : Filled s f regs (regs.foldl (stageOne f false) s) := by
  induction regs generalizing s l with
  | nil => exact ⟨rfl, fun _ => rfl, fun _ _ => rfl, hs, fun _ _ => rfl⟩
  | cons kv regs ih =>
    obtain ⟨k, w⟩ := kv
    obtain ⟨q, hq, hqa, hst, hb⟩ := hp (k, w) (by simp)
    have hplain : Plain q := plain_of_decode hq hb
    rw [skeysFrom_cons] at hk
    have hu := stageOne_false (s := s) (f := f) hq hb hst
    have hcan : StoresCanonical (stageOne f false s (k, w)) := by
      rw [hu]
      split
      · exact hs.stPut ..
      · exact hs
    have hinst : ∀ r, (stageOne f false s (k, w)).instIn f r = s.instIn f r := fun r => by
      rw [hu]
      split
      · exact instIn_stPut hplain ..
      · rfl
    obtain ⟨h1, h2, h3, h4, h5⟩ := ih (some k) hk.2 (fun x hx => hp x (by simp [hx])) hcan
    rw [List.foldl_cons]
    refine ⟨?_, fun r => (h2 r).trans (hinst r), fun e he => (h3 e he).trans ?_, h4, fun r hr => (h5 r hr).trans ?_⟩
    · rw [h1, hu]
      split
      · unfold State.stPut
        split <;> rfl
      · rfl
    · rw [hu]
      split
      · exact bank_stPut_ne he ..
      · rfl
    · simp only [hinst, sfind]
      by_cases hk' : k = r.addr
      · subst hk'
        obtain rfl : q = r := Option.some.inj (hq.symm.trans hr)
        rw [if_pos rfl, sfind_below _ (Nat.le_refl _) hk.2, hu]
        dsimp only
        split
        · exact stGet_stPut_self hs ..
        · rfl
      · have hkeep : (stageOne f false s (k, w)).stGet f r = s.stGet f r := by
          rw [hu]
          split
          · exact stGet_stPut_ne _ _ _ (by rw [hqa]; exact hk')
          · rfl
        rw [if_neg hk', hkeep]

/-- With no block mode staged and none moved, filling the bank is one fold. -/
theorem writeBank_plain {f : Nat} {regs : SMap Word} (hp : StagesPlain regs) (hm : s.movedPositions f (1 - f) = []) :
    s.writeBank f regs = regs.foldl (stageOne f false) s := by
  have h1 : regs.foldl (stageOne f true) s = s := foldl_keeps (P := fun t => t = s) regs _ rfl fun v kv hkv hv => by
    obtain ⟨r, hr, -, -, hb⟩ := hp kv hkv
    rw [stageOne_true hr hb, hv]
  have hw : s.writeBank f regs = regs.foldl (stageOne f false)
      (((regs.foldl (stageOne f true) s).createdPorts f (1 - f)).foldl (fun (s : State) p =>
        ((portRegs p).filter Reg.isST).foldl (fun (s : State) r => s.stErase f r) s) (regs.foldl (stageOne f true) s)) := rfl
  rw [hw, h1, State.createdPorts, hm]
  rfl

theorem stagedSeeds_plain {regs : SMap Word} (hp : StagesPlain regs) : s.stagedSeeds regs = none := by
  have hno : ∀ r : Reg, decodeAddr r.addr = some r → r.isST = false → sfind regs r.addr = none := fun r hr hst => by
    cases hf : sfind regs r.addr with
    | none => rfl
    | some w =>
      obtain ⟨q, hq, -, hqst, -⟩ := hp _ (mem_of_sfind hf)
      obtain rfl : q = r := Option.some.inj (hq.symm.trans hr)
      rw [hst] at hqst
      cases hqst
  unfold State.stagedSeeds
  rw [hno .FWD_HASH_SEED1 (by decide) (by decide), hno .FWD_HASH_SEED2 (by decide) (by decide)]
  split <;> rfl

/-- The head commit taken up, before its values are staged. -/
def headTaken (s : State) (j : Job) (rest : List Job) : State := { s with jobs := { j with started := true } :: rest }

theorem applyJob_plain {j : Job} {rest : List Job} (hp : StagesPlain j.regs) (hm : s.movedPositions (1 - s.curSel) s.curSel = []) :
    s.applyJob j rest = (j.regs.foldl (stageOne (1 - s.curSel) false) (headTaken s j rest)).runOps (j.ops.length + 1) := by
  have hc : 1 - (1 - s.curSel) = s.curSel := by have := curSel_lt s; omega
  have hw : (headTaken s j rest).writeBank (1 - s.curSel) j.regs = _ := writeBank_plain hp (by rw [hc]; exact hm)
  unfold State.applyJob
  extract_lets f v c u t
  have hv : v = j.regs.foldl (stageOne (1 - s.curSel) false) (headTaken s j rest) := hw
  rw [stagedSeeds_plain hp, hv]

theorem applyJob_nil {j : Job} {rest : List Job} (hr : j.regs = []) :
    s.applyJob j rest = ((headTaken s j rest).writeBank (1 - s.curSel) []).runOps (j.ops.length + 1) := by
  unfold State.applyJob
  extract_lets f v c u t
  have hv : v = (headTaken s j rest).writeBank (1 - s.curSel) [] := congrArg ((headTaken s j rest).writeBank (1 - s.curSel)) hr
  rw [stagedSeeds_plain (by simp [StagesPlain, hr]), hv]

theorem gateFault_none (e : Nat) {ops : List TblOp} (h : ∀ o ∈ ops, o.table ≠ 0x40) : s.gateFault e ops = none := by
  have hg : gatePorts ops = [] := by
    refine List.filter_eq_nil_iff.mpr fun p _ => ?_
    simp only [List.any_eq_true, not_exists, not_and, Bool.and_eq_true, beq_iff_eq]
    exact fun o ho ht => absurd ht (h o ho)
  rw [State.gateFault, hg]
  rfl

/-- All operations of the head commit are done: it is ready. -/
theorem runOps_done {n : Nat} {j : Job} {rest : List Job} (hj : s.jobs = j :: rest) (hd : j.ops.length ≤ j.done)
    (hg : ∀ o ∈ j.ops, o.table ≠ 0x40) : s.runOps (n + 1) = { s with jobs := { j with ready := true } :: rest } := by
  simp only [State.runOps, hj, List.getElem?_eq_none hd, gateFault_none _ hg]

/-- A row operation of the head commit. -/
theorem runOps_row {n : Nat} {j : Job} {rest : List Job} {o : TblOp} (hj : s.jobs = j :: rest) (ho : j.ops[j.done]? = some o)
    (ht : o.table ≠ 0x20) (hop : o.op = 1) :
    s.runOps (n + 1) =
      ({ s.rowWrite o.table o.index (1 - s.curSel) o.words with jobs := { j with done := j.done + 1 } :: rest }).runOps n := by
  simp only [State.runOps, hj, ho, ht, false_and, if_false, State.applyOp, hop, if_true]

/-- An exact-match WRITE of the head commit with no copy in service. -/
theorem runOps_lost {n : Nat} {j : Job} {rest : List Job} {o : TblOp} (hj : s.jobs = j :: rest) (ho : j.ops[j.done]? = some o)
    (ht : o.table = 0x20) (hop : o.op = 1) (hjob : s.fwd.job = none) (hup : s.t2Up = false) :
    s.runOps (n + 1) = s.abandon j rest 10 j.done := by
  have hw : s.fwdWrite (1 - s.curSel) o.words = (s, .done 10) := by simp [State.fwdWrite, hup]
  simp only [State.runOps, hj, ho, ht, hjob, Option.isSome_none, Bool.false_eq_true, and_false, if_false, State.applyOp, hop, if_true, hw]

/-! ## The row that a WRITE leaves (R215) -/

theorem rowsAt_putRows (h : skeysFrom none s.rows = true) (t i : Nat) (rs : List Row) : (s.putRows t i rs).rowsAt t i = rs :=
  sgetD_sput_self _ _ _ _ h

theorem Row.vis_setVis_self (r : Row) (e : Nat) (b : Bool) : (r.setVis e b).vis e = b := by
  unfold Row.setVis Row.vis
  split <;> rfl

theorem Row.vis_setVis_ne (r : Row) {e e' : Nat} (h : (e = 0) ≠ (e' = 0)) (b : Bool) : (r.setVis e b).vis e' = r.vis e' := by
  unfold Row.setVis Row.vis
  by_cases h0 : e = 0 <;> by_cases h1 : e' = 0 <;> simp_all

theorem Row.setVis_words (r : Row) (e : Nat) (b : Bool) : (r.setVis e b).words = r.words := by
  unfold Row.setVis
  split <;> rfl

theorem find?_dropFree (rs : List Row) (e : Nat) : (dropFree rs).find? (fun r => r.vis e) = rs.find? fun r => r.vis e := by
  have h : ∀ r : Row, r.vis e = true → (r.vis0 || r.vis1) = true := fun r hr => by
    unfold Row.vis at hr
    split at hr <;> simp [hr]
  rw [dropFree, List.find?_filter]
  refine congrArg (List.find? · rs) (funext fun r => ?_)
  by_cases hr : r.vis e = true
  · simp [hr, h r hr]
  · simp [hr]

section Row
variable (h : skeysFrom none s.rows = true) (t i f : Nat) (ws : List Word)
include h

theorem rowFor_rowWrite_self : ((s.rowWrite t i f ws).rowFor t i f).map Row.words = some ws := by
  have hnone : ((s.rowsAt t i).map fun r => r.setVis f false).find? (fun r => r.vis f) = none := by
    rw [List.find?_eq_none]
    intro r hr
    obtain ⟨q, -, rfl⟩ := List.mem_map.mp hr
    simp [Row.vis_setVis_self]
  unfold State.rowFor State.rowWrite
  rw [rowsAt_putRows h, List.find?_append, find?_dropFree, hnone, Option.none_or,
    List.find?_cons_of_pos (p := fun r : Row => r.vis f) (Row.vis_setVis_self ..)]
  simp [Row.setVis_words]

theorem rowFor_rowWrite_ne {e : Nat} (he : (f = 0) ≠ (e = 0)) :
    (s.rowWrite t i f ws).rowFor t i e = (s.rowFor t i e).map fun w => w.setVis f false := by
  have hnew : ((⟨ws, false, false⟩ : Row).setVis f true).vis e = false := by
    rw [Row.vis_setVis_ne _ he]
    unfold Row.vis
    split <;> rfl
  unfold State.rowFor State.rowWrite
  rw [rowsAt_putRows h, List.find?_append, find?_dropFree, List.find?_cons_of_neg (p := fun r : Row => r.vis e) (by simp [hnew]), List.find?_nil, Option.or_none,
    List.find?_map]
  exact congrArg (Option.map _) (congrArg (List.find? · _) (funext fun r => Row.vis_setVis_ne r he false))

end Row

/-! ## Abandonment (R109) -/

/-- Nothing but the bank of selector `f` has changed. -/
structure BankOnly (f : Nat) (s t : State) : Prop where
  rest : t = { s with st0 := t.st0, st1 := t.st1 }
  other : ∀ e, (f = 0) ≠ (e = 0) → t.bank e = s.bank e

theorem BankOnly.stErase {f : Nat} {u : State} (h : BankOnly f s u) (r : Reg) : BankOnly f s (u.stErase f r) := by
  refine ⟨?_, fun e he => Eq.trans ?_ (h.other e he)⟩
  · rw [h.rest]
    unfold State.stErase
    split <;> rfl
  · unfold State.stErase State.bank
    by_cases h0 : f = 0
    · have h1 : e ≠ 0 := fun h1 => he (by simp [h0, h1])
      rw [if_pos h0, if_neg h1, if_neg h1]
    · have h1 : e = 0 := by
        by_contra h1
        exact he (by simp [h0, h1])
      rw [if_neg h0, if_pos h1, if_pos h1]

/-- With nothing staged, filling bank `f` only puts instances of new ports at their resets. -/
theorem writeBank_nil (s : State) (f : Nat) : BankOnly f s (s.writeBank f []) := by
  have hw : s.writeBank f [] = (s.createdPorts f (1 - f)).foldl (fun (s : State) p =>
      ((portRegs p).filter Reg.isST).foldl (fun (s : State) r => s.stErase f r) s) s := rfl
  rw [hw]
  exact foldl_keeps _ _ ⟨rfl, fun _ _ => rfl⟩ fun v p _ hv => foldl_keeps (P := BankOnly f s) _ _ hv fun w r _ hw => hw.stErase r

/-- The head commit abandoned, before its answer. -/
def abandoned (s : State) (j : Job) (rest : List Job) : State :=
  let f := 1 - s.curSel
  let s := match j.undo with | some u => s.seedRestore u | none => s
  (({ s with jobs := rest }).copyBank f s.curSel).count C.commitRefused

theorem abandon_eq (s : State) (j : Job) (rest : List Job) (code index : Nat) :
    s.abandon j rest code index = (abandoned s j rest).respond j.reply Stat.table code
      ((abandoned s j rest).commitPayload j.reply (BitVec.ofNat 32 index) 0) := rfl

/-- The other bank's words in both banks. -/
def levelBanks (s : State) (f : Nat) : State := if f = 0 then { s with st0 := s.st1 } else { s with st1 := s.st0 }

/-- Beyond the banks only the tables change when a bank is made as the other one. -/
theorem copyBank_levels (s : State) (f c : Nat) : UnitOnly ((levelBanks s f).rowsMerge f c) (s.copyBank f c) :=
  (UnitOnly.fwdMerge .refl ..).fwd _

theorem abandoned_leaves (j : Job) (rest : List Job) :
    let u := abandoned s j rest
    u.jobs = rest ∧ u.bank (1 - s.curSel) = u.bank s.curSel ∧ u.bank s.curSel = s.bank s.curSel ∧
    (skeysFrom none s.cnt = true → CountedOnce C.commitRefused s u) := by
  intro u
  have hv : ∃ v, UnitOnly s v ∧ u = (({ v with jobs := rest }).copyBank (1 - s.curSel) v.curSel).count C.commitRefused := by
    cases hj : j.undo with
    | none => exact ⟨s, .refl, by simp only [u, abandoned, hj]⟩
    | some x => exact ⟨s.seedRestore x, UnitOnly.seedRestore .refl x, by simp only [u, abandoned, hj]⟩
  obtain ⟨v, hv, hu⟩ := hv
  have hb := copyBank_levels { v with jobs := rest } (1 - s.curSel) v.curSel
  have hst0 : u.st0 = (levelBanks v (1 - s.curSel)).st0 := by
    rw [hu]
    refine (congrArg State.st0 hb).trans ?_
    unfold levelBanks
    split <;> rfl
  have hst1 : u.st1 = (levelBanks v (1 - s.curSel)).st1 := by
    rw [hu]
    refine (congrArg State.st1 hb).trans ?_
    unfold levelBanks
    split <;> rfl
  have h0 : v.st0 = s.st0 := (congrArg State.st0 hv).trans rfl
  have h1 : v.st1 = s.st1 := (congrArg State.st1 hv).trans rfl
  have hcnt : (({ v with jobs := rest }).copyBank (1 - s.curSel) v.curSel).cnt = s.cnt := by
    have hvc : v.cnt = s.cnt := (congrArg State.cnt hv).trans rfl
    refine (congrArg State.cnt hb).trans (Eq.trans ?_ hvc)
    unfold levelBanks
    split <;> rfl
  refine ⟨?_, ?_, ?_, fun hc => ?_⟩
  · rw [hu]
    refine (congrArg State.jobs hb).trans ?_
    unfold levelBanks
    split <;> rfl
  · unfold State.bank levelBanks at *
    have := curSel_lt s
    rw [hst0, hst1]
    by_cases hs : s.curSel = 0 <;> simp [hs, show (1 - s.curSel = 0) = (s.curSel ≠ 0) by simp; omega]
  · unfold State.bank levelBanks at *
    have := curSel_lt s
    rw [hst0, hst1, ← h0, ← h1]
    by_cases hs : s.curSel = 0 <;> simp [hs, show (1 - s.curSel = 0) = (s.curSel ≠ 0) by simp; omega]
  · rw [CountedOnce, hu, State.counter_count_self _ _ (by rw [hcnt]; exact hc), counter_of_cnt hcnt]

/-! ## The commands -/

theorem exec_commit {v : Via} {src h : Nat} {ws : List Word} {x : Session} (ha : AskedBy s v 0x21 src ws h x) (hx : x.role ≠ 0) :
    exec (.commit v) s = .next (if x.mayCommit = false then (s.count C.commitRefused).respond (replyFor v src ws) Stat.role 0 []
      else match x.txn with
        | none => s.commitRefuse (replyFor v src ws) Stat.noTxn 0 0
        | some t =>
          let u := s.putSession h { x with txn := none }
          let c := u.validate t.regs t.ops
          if c.1 ≠ 0 then u.commitRefuse (replyFor v src ws) c.1 c.2.1 c.2.2
          else u.accept (newJob h (replyFor v src ws) (reqFlags ws == 1) t.regs t.ops)) := by
  have he : exec (.commit v) s = execCommit v s := rfl
  rw [he, execCommit, serveSession_asked ha (.inr hx)] <;> cases x.mayCommit <;> rfl

/-- COMMIT_APPLY of a head commit that may be taken up. -/
theorem exec_commitApply {v : State} {ecc : List (Nat × BucketEcc)} {j : Job} {rest : List Job} (hj : v.jobs = j :: rest)
    (hr : v.fld .STW_EPOCH_STATUS F.STW_EPOCH_STATUS_RETIRED_LIVE = 0) (hs : v.stewardHeld = false) (hst : j.started = false) :
    exec (.commitApply ecc) v = .next ((v.readEcc ecc).applyJob j rest) := by
  have he : exec (.commitApply ecc) v = execCommitApply v ecc := rfl
  rw [he, execCommitApply, hj]
  simp [hr, hs, hst]

theorem StoresCanonical.jobs (h : StoresCanonical s) (l : List Job) : StoresCanonical { s with jobs := l } :=
  (Evolves.refl.jobs l).stores h

theorem StoresCanonical.readEcc (h : StoresCanonical s) (l : List (Nat × BucketEcc)) : StoresCanonical (s.readEcc l) :=
  (Evolves.refl.readEcc l).stores h

/-- Settles O19: `exec_commit` for COMMIT; `filled` for what the free bank holds, `rowFor_rowWrite_self` and
`rowFor_rowWrite_ne` for a row, `abandoned_leaves` for an abandoned commit. -/
theorem commitsAccepted : Obligations.CommitsAccepted := by
  unfold Obligations.CommitsAccepted
  refine ⟨fun s v src h ws x ha hx => ⟨fun hm => ?_, fun hm ht => ?_, fun t hm ht => ?_⟩,
    fun v ecc j rest hv hj hr hh hst hdone => ?_, fun v ecc j rest o hj hr hh hst hdone hregs hops ht hop hjob hup => ?_⟩
  · rw [exec_commit ha hx, if_pos hm]
  · rw [exec_commit ha hx, if_neg (by simp [hm]), ht]
  · rw [exec_commit ha hx, if_neg (by simp [hm]), ht]
    intro u c
    by_cases hc : c.1 = 0
    · rw [if_pos hc]
      exact congrArg Host.Outcome.next (if_neg (by simpa using hc))
    · rw [if_neg hc]
      exact congrArg Host.Outcome.next (if_pos hc)
  · intro s hk hm hp f
    have hs : StoresCanonical s := hv.readEcc ecc
    have hf := filled (s := headTaken s j rest) j.regs f none hk hp (hs.jobs _)
    have hfc : (f = 0) ≠ (s.curSel = 0) := by
      have := curSel_lt s
      simp only [f, ne_eq, eq_iff_iff]
      omega
    have he := exec_commitApply (ecc := ecc) hj hr hh hst
    rw [applyJob_plain hp hm] at he
    generalize j.regs.foldl (stageOne (1 - s.curSel) false) (headTaken s j rest) = t at hf he
    have htj : t.jobs = { j with started := true } :: rest := (congrArg State.jobs hf.rest).trans rfl
    refine ⟨fun hops => ?_, fun o hops ht hop hrows => ?_⟩
    · rw [hops, runOps_done htj (by simp [hops]) (by simp [hops])] at he
      refine ⟨_, he, ?_, rfl, hf.other _ hfc, hf.value⟩
      rw [hf.rest]
      rfl
    · have htc : t.curSel = s.curSel := by rw [hf.rest]; rfl
      have htr : t.rows = s.rows := by rw [hf.rest]; rfl
      have hrun : t.runOps (j.ops.length + 1) = { t.rowWrite o.table o.index f o.words with
          jobs := { j with started := true, ready := true, done := 1 } :: rest } := by
        rw [show j.ops.length = 1 by simp [hops], runOps_row htj (o := o) (by simp [hops, hdone]) (by omega) hop, htc,
          runOps_done rfl (by simp [hops]) (by simp [hops]; omega), hdone]
      rw [hrun] at he
      refine ⟨_, he, rfl, ?_, ?_⟩
      · exact rowFor_rowWrite_self (by rw [htr]; exact hrows) o.table o.index f o.words
      · have hrow : t.rowFor o.table o.index s.curSel = s.rowFor o.table o.index s.curSel := by
          simp only [State.rowFor, State.rowsAt, htr]
        rw [← hrow]
        exact rowFor_rowWrite_ne (by rw [htr]; exact hrows) o.table o.index f o.words hfc
  · intro s
    have hsv : s = v := if_neg (by simp [hup])
    have hw := writeBank_nil (headTaken s j rest) (1 - s.curSel)
    have he := exec_commitApply (ecc := ecc) hj hr hh hst
    rw [show v.readEcc ecc = s from rfl, applyJob_nil hregs, hops] at he
    generalize (headTaken s j rest).writeBank (1 - s.curSel) [] = w at hw he
    have hwj : w.jobs = { j with started := true } :: rest := (congrArg State.jobs hw.rest).trans rfl
    have hwup : w.t2Up = false := by rw [hw.rest, ← hup, ← hsv]; rfl
    have hwjob : w.fwd.job = none := by rw [hw.rest, ← hjob, ← hsv]; rfl
    have hwc : w.curSel = s.curSel := by rw [hw.rest]; rfl
    have hwcnt : w.cnt = s.cnt := by rw [hw.rest]; rfl
    have hsc := curSel_lt s
    rw [List.length_singleton, runOps_lost hwj (o := o) (by simp [hops, hdone]) ht hop hwjob hwup, abandon_eq] at he
    obtain ⟨h1, h2, h3, h4⟩ := abandoned_leaves (s := w) { j with started := true } rest
    rw [hwc] at h2 h3
    refine ⟨_, he.trans (by simp [hdone]), h1, h2, h3.trans (hw.other _ (by simp only [ne_eq, eq_iff_iff]; omega)), fun hc => ?_⟩
    rw [CountedOnce, h4 (by rw [hwcnt, hsv]; exact hc), counter_of_cnt hwcnt]

end Sys2Proof
end

section
/-! PROOF. Field tables, and writes through the window that pass their checks (R7, R10, R97, R504). -/
namespace Sys2Proof

open Sys2Proof.Machine

set_option Elab.async false

variable {s : State} {r : Reg}

/-! ## Field tables (R11) -/

/-- Each field lies within the word, has at least one bit, and lies apart from the fields after it. -/
def wellLaid : List FieldInfo → Bool
  | [] => true
  | f :: l => decide (f.fld.lo + f.fld.w ≤ 32) && decide (0 < f.fld.w) && l.all (fun g => f.fld.apart g.fld) && wellLaid l

theorem fields_wellLaid (r : Reg) : wellLaid r.fields = true := by
  cases r <;> rfl

theorem apart_comm (f g : Fld) : f.apart g = g.apart f := Bool.or_comm ..

theorem wellLaid_mem {l : List FieldInfo} {f : FieldInfo} (h : wellLaid l = true) (hf : f ∈ l) :
    f.fld.lo + f.fld.w ≤ 32 ∧ 0 < f.fld.w := by
  induction l with
  | nil => cases hf
  | cons g l ih =>
    simp only [wellLaid, Bool.and_eq_true, decide_eq_true_eq] at h
    obtain ⟨⟨⟨hlo, hw⟩, -⟩, hl⟩ := h
    rcases List.mem_cons.mp hf with rfl | hf
    · exact ⟨hlo, hw⟩
    · exact ih hl hf

theorem wellLaid_apart {l : List FieldInfo} {f g : FieldInfo} (h : wellLaid l = true) (hf : f ∈ l) (hg : g ∈ l) :
    f = g ∨ f.fld.apart g.fld = true := by
  induction l with
  | nil => cases hf
  | cons k l ih =>
    simp only [wellLaid, Bool.and_eq_true, List.all_eq_true] at h
    obtain ⟨⟨-, hk⟩, hl⟩ := h
    rcases List.mem_cons.mp hf with rfl | hf' <;> rcases List.mem_cons.mp hg with rfl | hg'
    · exact .inl rfl
    · exact .inr (hk _ hg')
    · exact .inr (apart_comm _ _ ▸ hk _ hf')
    · exact ih hl hf' hg'

/-- A bit lies in at most one of two fields that lie apart. -/
theorem mask_apart {f g : Fld} {i : Nat} (ha : f.apart g = true) (hi : i < 32) (hf : f.mask.getLsbD i = true) : g.mask.getLsbD i = false := by
  rw [Fld.mask_getLsbD _ _ hi] at *
  simp only [Fld.apart, Bool.or_eq_true, decide_eq_true_eq, Bool.and_eq_true] at ha hf
  simp only [Bool.and_eq_false_iff, decide_eq_false_iff_not]
  omega

theorem getLsbD_foldl_mask (l : List FieldInfo) (p : FieldInfo → Bool) (m : Word) (i : Nat) :
    (l.foldl (fun m f => if p f then m ||| f.fld.mask else m) m).getLsbD i =
      (m.getLsbD i || l.any fun f => p f && f.fld.mask.getLsbD i) := by
  induction l generalizing m with
  | nil => simp
  | cons f l ih =>
    rw [List.foldl_cons, ih, List.any_cons]
    cases hp : p f <;> simp [Bool.or_assoc]

/-- The bits of the fields that satisfy `p`. -/
theorem getLsbD_maskOf (r : Reg) (p : FieldInfo → Bool) (i : Nat) :
    (r.maskOf p).getLsbD i = r.fields.any fun f => p f && f.fld.mask.getLsbD i := by
  rw [Reg.maskOf, getLsbD_foldl_mask]
  simp

theorem fieldMask_eq (r : Reg) : r.fieldMask = r.maskOf fun _ => true := rfl

/-- A bit of a field is in the mask if the field is. -/
theorem getLsbD_maskOf_mem {f : FieldInfo} {p : FieldInfo → Bool} {i : Nat} (hf : f ∈ r.fields) (hi : i < 32) (hb : f.fld.mask.getLsbD i = true) :
    (r.maskOf p).getLsbD i = p f := by
  rw [getLsbD_maskOf, Bool.eq_iff_iff, List.any_eq_true]
  constructor
  · rintro ⟨g, hg, hp⟩
    rw [Bool.and_eq_true] at hp
    rcases wellLaid_apart (fields_wellLaid r) hf hg with rfl | ha
    · exact hp.1
    · simp [mask_apart ha hi hb] at hp
  · exact fun hp => ⟨f, hf, by simp [hp, hb]⟩

/-- A bit of no field is in no mask. -/
theorem getLsbD_maskOf_of_not {i : Nat} (h : r.fieldMask.getLsbD i = false) (p : FieldInfo → Bool) : (r.maskOf p).getLsbD i = false := by
  rw [fieldMask_eq, getLsbD_maskOf, List.any_eq_false] at h
  rw [getLsbD_maskOf, List.any_eq_false]
  intro f hf
  have := h f hf
  simp_all

/-- The lowest bit of a field. -/
theorem mask_lo {f : FieldInfo} (hf : f ∈ r.fields) : f.fld.lo < 32 ∧ f.fld.mask.getLsbD f.fld.lo = true := by
  obtain ⟨h1, h2⟩ := wellLaid_mem (fields_wellLaid r) hf
  have hlo : f.fld.lo < 32 := by omega
  refine ⟨hlo, ?_⟩
  rw [Fld.mask_getLsbD _ _ hlo]
  simp [h2]

theorem maskOf_ne_zero {f : FieldInfo} {p : FieldInfo → Bool} (hf : f ∈ r.fields) (hp : p f = true) : r.maskOf p ≠ 0#32 := by
  intro h
  obtain ⟨hlo, hb⟩ := mask_lo hf
  have := getLsbD_maskOf_mem (p := p) hf hlo hb
  simp [h, hp] at this

/-! ## What an Expert's write does -/

theorem actMask_expert {h : Nat} (hw : r.writable = true) : r.actMask (.sess h 3) ≠ 0#32 := by
  obtain ⟨f, hf, hp⟩ := List.any_eq_true.mp hw
  have he : r.actMask (.sess h 3) = r.maskOf fun f => f.acc != .ro := by
    simp only [Reg.actMask, eMask, Who.seesE, Who.role, beq_self_eq_true, Bool.true_or, if_true]
    exact BitVec.and_allOnes
  exact he ▸ maskOf_ne_zero (p := fun f => f.acc != .ro) hf hp

/-- A register whose write passes the checks is writable. -/
theorem checkWrite_writable {w : Who} {a : Nat} {v m : Word} (h : s.checkWrite w a v = .inr (r, m)) : r.writable = true := by
  unfold State.checkWrite at h
  split at h
  · cases h
  · split at h
    · cases h
    · extract_lets em cur m' rwl at h
      split at h
      · cases h
      · split at h
        · cases h
        · split at h
          · cases h
          · next hw =>
            split at h
            · cases h
            · split at h
              · cases h
              · obtain ⟨rfl, -⟩ := Prod.mk.inj (Sum.inr.inj h)
                simpa using hw

variable {h : Nat} {v : Word}

/-- A write by an Expert's window that passes: a direct one for a register without ST fields that is no hash seed (R7, R97). -/
theorem writeAddr_direct (hp : Passes s h r v) (hst : r.isST = false) (h1 : r ≠ .FWD_HASH_SEED1) (h2 : r ≠ .FWD_HASH_SEED2) :
    s.writeAddr (.sess h 3) r.addr v = (s.directWrite h r v, 0) := by
  simp only [State.writeAddr, hp.1, hst, h1, h2, or_self, false_and, if_false, Bool.false_eq_true]
  exact if_neg (actMask_expert (checkWrite_writable hp.1))

theorem directWrite_passed (hp : Passes s h r v) (hd : s.discardWrite r = none) :
    s.directWrite h r v = (wrote s r v).writeAction h r (s.get r) v := by
  simp only [State.directWrite, hp.2, hd]
  rfl

theorem pathWrite_expert (he : ExpertWindow s h) (a : Nat) (v : Word) :
    s.pathWrite .window a v =
      if (s.writeAddr (.sess h 3) a v).2 = 0 then (s.writeAddr (.sess h 3) a v).1
      else (s.writeAddr (.sess h 3) a v).1.winRefuse (s.writeAddr (.sess h 3) a v).2 := by
  obtain ⟨x, hx, hr⟩ := he.holder
  rw [pathWrite_of_holder hx he.up he.live he.stewards, hr]

theorem rowWriteReg_expert (he : ExpertWindow s h) (hp : Passes s h r v) (hst : r.isST = false) (h1 : r ≠ .FWD_HASH_SEED1)
    (h2 : r ≠ .FWD_HASH_SEED2) (hd : s.discardWrite r = none) :
    s.rowWriteReg .window r v = ((wrote s r v).writeAction h r (s.get r) v).takeReset := by
  rw [State.rowWriteReg, pathWrite_expert he, writeAddr_direct hp hst h1 h2, directWrite_passed hp hd]
  rfl

/-! ## The word held -/

theorem wrote_rest (s : State) (r : Reg) (v : Word) :
    wrote s r v = { s with regs := (wrote s r v).regs, masked := (wrote s r v).masked, boot := { s.boot with image := (wrote s r v).boot.image } } := by
  unfold wrote State.noteImage
  split
  · split <;> rfl
  · rfl

theorem wrote_regs (s : State) (r : Reg) (v : Word) : (wrote s r v).regs = (s.put r (r.written (s.get r) v)).regs := by
  unfold wrote State.noteImage
  split
  · split <;> rfl
  · rfl

theorem wrote_masked (s : State) (r : Reg) (v : Word) : (wrote s r v).masked = (s.put r (r.written (s.get r) v)).masked := by
  unfold wrote State.noteImage
  split
  · split <;> rfl
  · rfl

theorem wrote_canonical (hs : StoresCanonical s) (r : Reg) (v : Word) : StoresCanonical (wrote s r v) := by
  have hp := hs.put r (r.written (s.get r) v)
  unfold wrote State.noteImage
  split
  · split
    · exact ⟨hp.regs, hp.st0, hp.st1, hp.cnt, hp.frames, hp.reps, hp.sessions⟩
    · exact hp
  · exact hp

theorem wrote_get (hs : StoresCanonical s) (r : Reg) (v : Word) : (wrote s r v).get r = r.written (s.get r) v :=
  (get_of_regs (wrote_regs s r v) r).trans (State.get_put_self _ _ _ hs.regs)

theorem wrote_keeps (s : State) (r : Reg) (v : Word) : KeepsRegs [r] s (wrote s r v) := by
  intro q hq
  have hne : r.addr ≠ q.addr := fun h => hq r (by simp) h.symm
  refine ⟨(get_of_regs (wrote_regs s r v) q).trans (State.get_put_ne _ _ _ _ hne), ?_⟩
  rw [State.resetBits, wrote_masked]
  exact ((Writes.refl (rs := [r]) (ids := [])).put (by simp) _ |>.regs q hq).2

theorem wrote_fld_ne (s : State) {q : Reg} (hq : q.addr ≠ r.addr) (v : Word) (f : Fld) : (wrote s r v).fld q f = s.fld q f := by
  rw [State.fld, (wrote_keeps s r v q (by simpa using hq)).1, State.fld]

theorem wrote_resetReq (s : State) (r : Reg) (v : Word) : (wrote s r v).boot.resetReq = s.boot.resetReq := by
  rw [wrote_rest]

/-! ## What a direct write leaves of each field (R7) -/

/-- A bit of a field after a direct write (R7): `o` is what it was, `b` the bit written. -/
def heldBit (o b : Bool) : Access → Bool
  | .rw | .rwl => b
  | .w1c => o && !b
  | .w1s => o || b
  | .ro | .wo | .st => o

theorem written_getLsbD {f : FieldInfo} (hf : f ∈ r.fields) {i : Nat} (hi : i < 32) (hb : f.fld.mask.getLsbD i = true) (old m : Word) :
    (r.written old m).getLsbD i = heldBit (old.getLsbD i) (m.getLsbD i) f.acc := by
  simp only [Reg.written, BitVec.getLsbD_or, BitVec.getLsbD_and, BitVec.getLsbD_not, hi, decide_true, Bool.true_and,
    getLsbD_maskOf_mem hf hi hb]
  generalize f.acc = a
  generalize old.getLsbD i = o
  generalize m.getLsbD i = b
  cases a <;> cases o <;> cases b <;> rfl

/-- A field's value is told by its bits. -/
theorem get_congr {f : Fld} {a b : Word} (h : ∀ i, i < 32 → f.mask.getLsbD i = true → a.getLsbD i = b.getLsbD i) : f.get a = f.get b := by
  refine Nat.eq_of_testBit_eq fun i => ?_
  rw [Fld.get_testBit, Fld.get_testBit]
  by_cases hi : i < f.w
  · by_cases h32 : f.lo + i < 32
    · rw [h _ h32 (by rw [Fld.mask_getLsbD _ _ h32]; simp [hi])]
    · simp [Nat.le_of_not_lt h32]
  · simp [hi]

theorem get_written_rw {f : FieldInfo} (hf : f ∈ r.fields) (ha : f.acc = .rw ∨ f.acc = .rwl) (old m : Word) :
    f.fld.get (r.written old m) = f.fld.get m := by
  refine get_congr fun i hi hb => ?_
  rw [written_getLsbD hf hi hb]
  rcases ha with ha | ha <;> rw [ha, heldBit]

theorem get_written_kept {f : FieldInfo} (hf : f ∈ r.fields) (ha : f.acc = .ro ∨ f.acc = .wo) (old m : Word) :
    f.fld.get (r.written old m) = f.fld.get old := by
  refine get_congr fun i hi hb => ?_
  rw [written_getLsbD hf hi hb]
  rcases ha with ha | ha <;> rw [ha, heldBit]

/-- After a write of a field of type RW the register shows the value written. -/
theorem wrote_fld_rw (hs : StoresCanonical s) {f : FieldInfo} (hf : f ∈ r.fields) (ha : f.acc = .rw ∨ f.acc = .rwl) (v : Word) :
    (wrote s r v).fld r f.fld = f.fld.get v := by
  rw [State.fld, wrote_get hs, get_written_rw hf ha]

end Sys2Proof
end

section
/-! PROOF. The oscillator qualifies (R70, R71, R80, R81). -/
namespace Sys2Proof

open Sys2Proof.Machine

set_option Elab.async false

variable {s u : State}

/-! ## Registers kept -/

theorem KeepsRegs.setFld {rs : List Reg} {r : Reg} (h : KeepsRegs rs s u) (hr : r ∈ rs) (f : Fld) (v : Nat) : KeepsRegs rs s (u.setFld r f v) := by
  intro q hq
  obtain ⟨h1, h2⟩ := ((Writes.refl (s := u) (ids := [])).setFld hr f v).regs q hq
  exact ⟨h1.trans (h q hq).1, h2.trans (h q hq).2⟩

theorem KeepsRegs.of_regs {rs : List Reg} {t : State} (h : KeepsRegs rs s u) (hr : t.regs = u.regs) (hm : t.masked = u.masked) : KeepsRegs rs s t := by
  intro q hq
  obtain ⟨h1, h2⟩ := h q hq
  refine ⟨(get_of_regs hr q).trans h1, ?_⟩
  rw [State.resetBits, hm]
  exact h2

theorem KeepsRegs.refl {rs : List Reg} : KeepsRegs rs s s := fun _ _ => ⟨rfl, rfl⟩

theorem KeepsRegs.trans {rs : List Reg} {t : State} (h : KeepsRegs rs s u) (h' : KeepsRegs rs u t) : KeepsRegs rs s t :=
  fun q hq => ⟨(h' q hq).1.trans (h q hq).1, (h' q hq).2.trans (h q hq).2⟩

theorem KeepsRegs.weaken {rs rs' : List Reg} (h : KeepsRegs rs s u) (hs : ∀ r ∈ rs, r ∈ rs') : KeepsRegs rs' s u :=
  fun q hq => h q fun r hr => hq r (hs r hr)

theorem KeepsRegs.fld {rs : List Reg} (h : KeepsRegs rs s u) {q : Reg} (hq : ∀ r ∈ rs, q.addr ≠ r.addr) (f : Fld) : u.fld q f = s.fld q f := by
  rw [State.fld, (h q hq).1, State.fld]

/-! ## Fields of one register after a write of another field or register -/

theorem fld_setFld_off {r q : Reg} {f g : Fld} {v : Nat} (hr : r.indexOk = true) (hq : q.indexOk = true) (h : r ≠ q) :
    (s.setFld r f v).fld q g = s.fld q g :=
  State.fld_setFld_ne _ _ _ _ _ _ (addr_ne hr hq h)

theorem get_setFld_off {r q : Reg} {f : Fld} {v : Nat} (hr : r.indexOk = true) (hq : q.indexOk = true) (h : r ≠ q) :
    (s.setFld r f v).get q = s.get q :=
  State.get_setFld_ne _ _ _ _ _ (addr_ne hr hq h)

theorem fld_setFld_beside {r : Reg} {f g : Fld} {v : Nat} (h : s.regsOk) (ha : f.apart g = true) (hg : g.lo + g.w ≤ 32) :
    (s.setFld r f v).fld r g = s.fld r g :=
  State.fld_setFld_apart _ _ _ _ _ h ha hg

/-! ## A calibration rotation begins (R407, R411) -/

/-- Nothing has changed but the calibration's state, registers and counters, of registers only `rs`. -/
structure TicOnly (rs : List Reg) (s t : State) : Prop where
  rest : t = { s with regs := t.regs, masked := t.masked, cnt := t.cnt, tic := t.tic }
  regs : KeepsRegs rs s t

namespace TicOnly

variable {rs : List Reg}

theorem refl : TicOnly rs s s := ⟨rfl, .refl⟩

theorem tic (h : TicOnly rs s u) (x : Tic) : TicOnly rs s { u with tic := x } := by
  obtain ⟨h1, h2⟩ := h
  refine ⟨?_, h2.of_regs rfl rfl⟩
  rw [h1]

theorem setFld {r : Reg} (h : TicOnly rs s u) (hr : r ∈ rs) (f : Fld) (v : Nat) : TicOnly rs s (u.setFld r f v) := by
  refine ⟨?_, h.regs.setFld hr f v⟩
  rw [h.rest]
  rfl

theorem count (h : TicOnly rs s u) (id : Nat) : TicOnly rs s (u.count id) := by
  refine ⟨?_, h.regs.of_regs rfl rfl⟩
  rw [h.rest]
  rfl

theorem ite {c : Prop} [Decidable c] {v w : State} (hv : TicOnly rs s v) (hw : TicOnly rs s w) : TicOnly rs s (if c then v else w) := by
  split <;> assumption

theorem nextPos (h : TicOnly rs s u) (hr : .TIM_TIC_CAL_STATUS ∈ rs) (n : Nat) : TicOnly rs s (u.nextPos n) := by
  induction n generalizing u with
  | zero => exact h
  | succ n ih =>
    unfold State.nextPos
    extract_lets ts spare hot src
    split
    next pos todo _ =>
    extract_lets v src2 w inPlace
    have hv : TicOnly rs s v := h.tic _
    clear_value v
    have hw : TicOnly rs s w := hv.tic _
    split
    · exact (hw.setFld hr _ _).setFld hr _ _
    · exact .ite (ih hv) (((hv.setFld hr _ _).setFld hr _ _).count _)

theorem calRotation (h : TicOnly rs s u) (hr : .TIM_TIC_CAL_STATUS ∈ rs) : TicOnly rs s u.calRotation := (h.tic _).nextPos hr _

end TicOnly

theorem startTick_ticking (s : State) : s.startTick.tim.ticking = true := by
  unfold State.startTick
  split
  · assumption
  · exact (congrArg (fun t => t.tim.ticking) (TicOnly.calRotation .refl (List.mem_singleton_self _)).rest).trans rfl

theorem startTick_regs (s : State) : KeepsRegs [.TIM_TIC_CAL_STATUS] s s.startTick := by
  unfold State.startTick
  split
  · exact .refl
  · exact (KeepsRegs.refl.of_regs rfl rfl).trans (TicOnly.calRotation .refl (List.mem_singleton_self _)).regs

theorem startTick_rest (s : State) :
    s.startTick = { s with regs := s.startTick.regs, masked := s.startTick.masked, cnt := s.startTick.cnt, tim := s.startTick.tim, tic := s.startTick.tic } := by
  unfold State.startTick
  split
  · rfl
  · rw [(TicOnly.calRotation .refl (List.mem_singleton_self _)).rest]

/-! ## The states of R71 -/

/-- A state, shown with a new count of passing gates. -/
theorem oscGo_oscState (h : s.regsOk) {v : Nat} (hv : v < 8) : (s.oscGo v).oscState = v := by
  have h1 : (s.setOsc F.TIM_OSC_QUAL_STATUS_STATE v).oscState = v := fld_setFld_lt h (by decide) hv
  exact (fld_setFld_beside (regsOk_setFld h) (by decide) (by decide)).trans h1

theorem oscEval_oscState (h : s.regsOk) :
    s.oscEval.oscState =
      if s.oscState = 1 ∧ s.stepEight = true ∧ ¬ (s.oscCfg F.TIM_OSC_QUAL_CFG_WARM_USE = 1 ∧ s.boot.ocxoPin = false) then 2
      else if s.oscState = 2 ∧ s.oscCfg F.TIM_OSC_QUAL_CFG_WARM_USE = 1 ∧ s.boot.ocxoPin = false then 1
      else s.oscState := by
  have hcold : (s.oscCfg F.TIM_OSC_QUAL_CFG_WARM_USE == 1 && !s.boot.ocxoPin) = true ↔
      s.oscCfg F.TIM_OSC_QUAL_CFG_WARM_USE = 1 ∧ s.boot.ocxoPin = false := by simp
  unfold State.oscEval
  simp only [Bool.not_eq_true', ← Bool.not_eq_true, hcold]
  split
  · exact oscGo_oscState h (by decide)
  · split
    · exact oscGo_oscState h (by decide)
    · rfl

/-- The evaluation changes the state and the count of passing gates alone. -/
theorem oscEval_rest (s : State) :
    s.oscEval = { s with regs := s.oscEval.regs, masked := s.oscEval.masked, boot := { s.boot with lastGate := s.oscEval.boot.lastGate } } := by
  unfold State.oscEval
  extract_lets cold
  split
  · rfl
  · split <;> rfl

theorem oscEval_regs {rs : List Reg} (hr : .TIM_OSC_QUAL_STATUS ∈ rs) (s : State) : KeepsRegs rs s s.oscEval := by
  have hgo : ∀ v, KeepsRegs rs s (s.oscGo v) := fun v => ((KeepsRegs.refl.setFld hr _ _).setFld hr _ _).of_regs rfl rfl
  unfold State.oscEval
  extract_lets cold
  split
  · exact hgo 2
  · split
    · exact hgo 1
    · exact .refl

/-- WARM_USE is one bit. -/
theorem warmUse_lt (s : State) : s.oscCfg F.TIM_OSC_QUAL_CFG_WARM_USE < 2 := Fld.get_lt ..

/-- A register that is neither of the health log nor an interrupt source. -/
theorem not_signalAddr {r : Reg} (hr : r.indexOk = true) (h1 : r ≠ .HLT_LOG_HEAD) (h2 : ∀ j k, r ≠ .HLT_LOG j k) (h3 : ∀ i, r ≠ .HST_IRQ_SRC i) :
    ¬ signalAddr r.addr := by
  rintro (h | ⟨j, k, hj, hk, h⟩ | ⟨i, hi, h⟩)
  · exact addr_ne hr rfl h1 h
  · exact addr_ne hr (by simp [Reg.indexOk]; omega) (h2 j k) h
  · exact addr_ne hr (by simpa [Reg.indexOk] using hi) (h3 i) h

theorem Signals.fld {rs : List Reg} {ids : List Nat} {t : State} (h : Signals rs ids s t) {q : Reg} (hn : ¬ signalAddr q.addr)
    (hq : ∀ r ∈ rs, q.addr ≠ r.addr) (f : Fld) : t.fld q f = s.fld q f := by
  rw [State.fld, (h.regs q hn hq).1, State.fld]

/-- A condition stands raised after its onset. -/
theorem raise_raised {code inst : Nat} (hc : evCondition code = true) (d : Nat) : (s.raise code inst d).raised code inst = true := by
  unfold State.raise
  split
  · assumption
  · rw [raised_iff, event_raised]
    exact occurred_raised hc

/-! ## OSC_PRESENCE_GATE -/

/-- The gate ends in PRESENCE, within start-up steps 3 to 9 or after them (R70, R71). -/
def gateDue (s : State) : Prop := s.boot.begun = true ∧ 3 ≤ s.bootStep ∧ s.bootStep ≤ 0xB ∧ s.oscState = 0

/-- The gate found the oscillator within 200 ppm. -/
def gateGood (ppb : Option Int) : Prop := ∃ x, ppb = some x ∧ x.natAbs ≤ 200000

/-- The tick starts with the oscillator present (R71). -/
def presenceGood (s : State) : State :=
  (({ s with boot := { s.boot with gateFails := 0 } }).startTick.setOsc F.TIM_OSC_QUAL_STATUS_STATE 1).oscEval

/-- The tick starts without the oscillator (R71, R72). -/
def presenceAbsent (s : State) : State :=
  (({ s with boot := { s.boot with gateFails := s.boot.gateFails + 1 } }).startTick.setOsc F.TIM_OSC_QUAL_STATUS_STATE 4).raise Ev.ocxoAbsent 0 0

theorem exec_presence_idle (ppb : Option Int) (h : ¬ gateDue s) : exec (.oscPresenceGate ppb) s = .next s := by
  refine congrArg Host.Outcome.next (if_pos ?_)
  simp only [gateDue] at h
  simp only [Bool.or_eq_true, Bool.not_eq_true', decide_eq_true_eq, bne_iff_ne, ne_eq]
  by_cases hb : s.boot.begun = true
  · simp [hb] at h ⊢
    omega
  · simp [hb]

theorem exec_presence {ppb : Option Int} (h : gateDue s) :
    (gateGood ppb → exec (.oscPresenceGate ppb) s = .next (presenceGood s)) ∧
    (¬ gateGood ppb → s.boot.gateFails < 2 →
      exec (.oscPresenceGate ppb) s = .next { s with boot := { s.boot with gateFails := s.boot.gateFails + 1 } }) ∧
    (¬ gateGood ppb → 2 ≤ s.boot.gateFails →
      exec (.oscPresenceGate ppb) s = .next (if s.bootStep = 3 then (presenceAbsent s).degrade else presenceAbsent s)) := by
  obtain ⟨hb, h3, hB, h0⟩ := h
  have hdue : (!s.boot.begun || decide (s.bootStep < 3) || decide (0xB < s.bootStep) || s.oscState != 0) = false := by
    simp [hb, h0, h3, hB]
  have hgood : (match ppb with | some x => decide (x.natAbs ≤ 200000) | none => false) = true ↔ gateGood ppb := by
    cases ppb <;> simp [gateGood]
  have he : exec (.oscPresenceGate ppb) s = execOscPresenceGate ppb s := rfl
  rw [he]
  simp only [execOscPresenceGate, hdue, Bool.false_eq_true, if_false]
  refine ⟨fun hg => ?_, fun hg hn => ?_, fun hg hn => ?_⟩
  · exact congrArg Host.Outcome.next (if_pos (hgood.mpr hg))
  · exact congrArg Host.Outcome.next ((if_neg (mt hgood.mp hg)).trans (if_pos (by omega)))
  · exact congrArg Host.Outcome.next ((if_neg (mt hgood.mp hg)).trans (if_neg (by omega)))

theorem presenceGood_leaves (hs : StoresCanonical s) :
    (presenceGood s).tim.ticking = true ∧
    (presenceGood s).oscState = if s.stepEight = true ∧ (s.oscCfg F.TIM_OSC_QUAL_CFG_WARM_USE = 0 ∨ s.boot.ocxoPin = true) then 2 else 1 := by
  unfold presenceGood
  generalize hv : ({ s with boot := { s.boot with gateFails := 0 } } : State) = v
  have hvs : StoresCanonical v := hv ▸ ⟨hs.regs, hs.st0, hs.st1, hs.cnt, hs.frames, hs.reps, hs.sessions⟩
  have htick := startTick_ticking v
  have hkeep := startTick_regs v
  have hrest := startTick_rest v
  have hws : StoresCanonical v.startTick := (Evolves.refl.startTick).stores hvs
  have hboot : v.startTick.boot = v.boot := by rw [hrest]
  generalize v.startTick = w at *
  have hw1 : (w.setOsc F.TIM_OSC_QUAL_STATUS_STATE 1).oscState = 1 := fld_setFld_lt hws.regs (by decide) (by decide)
  have hcfg : (w.setOsc F.TIM_OSC_QUAL_STATUS_STATE 1).oscCfg F.TIM_OSC_QUAL_CFG_WARM_USE = s.oscCfg F.TIM_OSC_QUAL_CFG_WARM_USE := by
    rw [State.oscCfg, State.setOsc, fld_setFld_off rfl rfl (by simp), hkeep.fld (by simp [Reg.addr, addrOf]), ← hv]
    rfl
  have hstep : (w.setOsc F.TIM_OSC_QUAL_STATUS_STATE 1).bootStep = s.bootStep := by
    rw [State.bootStep, State.setOsc, fld_setFld_off rfl rfl (by simp), hkeep.fld (by simp [Reg.addr, addrOf]), ← hv]
    rfl
  have hbt : (w.setOsc F.TIM_OSC_QUAL_STATUS_STATE 1).boot = { s.boot with gateFails := 0 } := hboot.trans (by rw [← hv])
  have height : (w.setOsc F.TIM_OSC_QUAL_STATUS_STATE 1).stepEight = s.stepEight := by
    simp only [State.stepEight, hbt, hstep]
  refine ⟨(congrArg (fun t => t.tim.ticking) (oscEval_rest (w.setOsc F.TIM_OSC_QUAL_STATUS_STATE 1))).trans htick, ?_⟩
  rw [oscEval_oscState (s := w.setOsc F.TIM_OSC_QUAL_STATUS_STATE 1) (hws.setFld ..).regs, hw1, height, hcfg, hbt]
  have hu : s.oscCfg F.TIM_OSC_QUAL_CFG_WARM_USE = 0 ∨ s.oscCfg F.TIM_OSC_QUAL_CFG_WARM_USE = 1 := by
    have := warmUse_lt s
    omega
  rcases hu with hu | hu <;> cases hp : s.boot.ocxoPin <;> cases s.stepEight <;> simp [hu]

theorem presenceAbsent_leaves (hs : StoresCanonical s) :
    (presenceAbsent s).oscState = 4 ∧ (presenceAbsent s).tim.ticking = true ∧ (presenceAbsent s).raised Ev.ocxoAbsent 0 = true ∧
      (presenceAbsent s).get .STW_BOOT_STATUS = s.get .STW_BOOT_STATUS ∧ StoresCanonical (presenceAbsent s) := by
  unfold presenceAbsent
  generalize hv : ({ s with boot := { s.boot with gateFails := s.boot.gateFails + 1 } } : State) = v
  have hvs : StoresCanonical v := hv ▸ ⟨hs.regs, hs.st0, hs.st1, hs.cnt, hs.frames, hs.reps, hs.sessions⟩
  have htick := startTick_ticking v
  have hkeep := startTick_regs v
  have hws : StoresCanonical v.startTick := (Evolves.refl.startTick).stores hvs
  generalize v.startTick = w at *
  have hsig := (Signals.signalProof (rs := []) (ids := []) (s := w.setOsc F.TIM_OSC_QUAL_STATUS_STATE 4)).raise .refl (by decide : Ev.ocxoAbsent < 256) 0 0
  have hcan := StoresCanonical.signalProof.raise (hws.setFld .TIM_OSC_QUAL_STATUS F.TIM_OSC_QUAL_STATUS_STATE 4) (by decide : Ev.ocxoAbsent < 256) 0 0
  refine ⟨?_, ?_, raise_raised (by decide) 0, ?_, hcan⟩
  · rw [State.oscState, hsig.fld (not_signalAddr rfl (by simp) (by simp) (by simp)) (by simp)]
    exact fld_setFld_lt hws.regs (by decide) (by decide)
  · rw [hsig.rest]
    exact htick
  · rw [(hsig.regs _ (not_signalAddr rfl (by simp) (by simp) (by simp)) (by simp)).1, State.setOsc,
      get_setFld_off rfl rfl (by simp), (hkeep _ (by simp [Reg.addr, addrOf])).1, ← hv]
    rfl

/-! ## OSC_STABILITY_GATE -/

/-- A gate that differs from the one before by `d`, in STABILITY (R71). -/
def stabilityGate (s : State) (deci before : Int) : State :=
  ({ s with boot := { s.boot with lastGate := some deci } }).setOsc F.TIM_OSC_QUAL_STATUS_LAST_DELTA
    (max (-32767) (min 32767 (deci - before)) % 65536).toNat

theorem exec_stability {deci before : Int} (h : s.oscState = 2) (hb : s.boot.lastGate = some before) :
    exec (.oscStabilityGate deci) s = .next
      (let u := stabilityGate s deci before
       if 10 * u.oscCfg F.TIM_OSC_QUAL_CFG_LIMIT < (deci - before).natAbs then u.setOsc F.TIM_OSC_QUAL_STATUS_PASSED 0
       else
         let n := min 255 (u.fld .TIM_OSC_QUAL_STATUS F.TIM_OSC_QUAL_STATUS_PASSED + 1)
         let w := u.setOsc F.TIM_OSC_QUAL_STATUS_PASSED n
         if n < w.oscCfg F.TIM_OSC_QUAL_CFG_COUNT then w
         else (w.setOsc F.TIM_OSC_QUAL_STATUS_STATE 3).eventClear Ev.ocxoSlow 0) := by
  have he : exec (.oscStabilityGate deci) s = execOscStabilityGate deci s := rfl
  rw [he]
  simp only [execOscStabilityGate, h, hb, ne_eq, not_true_eq_false, if_false]
  rfl

theorem stabilityGate_leaves (hs : StoresCanonical s) (deci before : Int) (n : Nat) (hn : n ≤ 255) :
    let w := (stabilityGate s deci before).setOsc F.TIM_OSC_QUAL_STATUS_PASSED n
    StoresCanonical w ∧ (stabilityGate s deci before).fld .TIM_OSC_QUAL_STATUS F.TIM_OSC_QUAL_STATUS_PASSED =
        s.fld .TIM_OSC_QUAL_STATUS F.TIM_OSC_QUAL_STATUS_PASSED ∧
      (∀ f, (stabilityGate s deci before).oscCfg f = s.oscCfg f) ∧ (∀ f, w.oscCfg f = s.oscCfg f) ∧
      w.oscState = s.oscState ∧ w.fld .TIM_OSC_QUAL_STATUS F.TIM_OSC_QUAL_STATUS_PASSED = n ∧ w.boot.lastGate = some deci := by
  intro w
  have hv : StoresCanonical ({ s with boot := { s.boot with lastGate := some deci } } : State) :=
    ⟨hs.regs, hs.st0, hs.st1, hs.cnt, hs.frames, hs.reps, hs.sessions⟩
  have hu : StoresCanonical (stabilityGate s deci before) := hv.setFld ..
  have hcfg : ∀ f, (stabilityGate s deci before).oscCfg f = s.oscCfg f := fun f =>
    fld_setFld_off rfl rfl (by simp)
  have hfld : ∀ f, F.TIM_OSC_QUAL_STATUS_LAST_DELTA.apart f = true → f.lo + f.w ≤ 32 →
      (stabilityGate s deci before).fld .TIM_OSC_QUAL_STATUS f = s.fld .TIM_OSC_QUAL_STATUS f := fun f ha hf =>
    fld_setFld_beside hv.regs ha hf
  refine ⟨hu.setFld .., hfld _ (by decide) (by decide), hcfg, fun f => ?_, ?_, ?_, rfl⟩
  · exact (fld_setFld_off rfl rfl (by simp)).trans (hcfg f)
  · exact (fld_setFld_beside hu.regs (by decide) (by decide)).trans (hfld _ (by decide) (by decide))
  · exact fld_setFld_lt hu.regs (by decide) (by show n < 256; omega)

/-! ## OSC_QUAL_CFG_WRITE -/

/-- The settings as they are evaluated: a change of WARM_POL counts the warm level anew. -/
def polChanged (s : State) (old : Word) : State :=
  if F.TIM_OSC_QUAL_CFG_WARM_POL.get old = s.oscCfg F.TIM_OSC_QUAL_CFG_WARM_POL then s else { s with boot := { s.boot with ocxoPin := false } }

theorem polChanged_rest (s : State) (old : Word) :
    polChanged s old = { s with boot := { s.boot with ocxoPin := (polChanged s old).boot.ocxoPin } } := by
  unfold polChanged
  split <;> rfl

/-- A changed WARM_POL can only take the warm level away. -/
theorem polChanged_cold (old : Word) (h : s.boot.ocxoPin = false) : (polChanged s old).boot.ocxoPin = false := by
  unfold polChanged
  split
  · exact h
  · rfl

theorem oscCfgWritten_eq (old : Word) : s.oscCfgWritten old = if s.oscState = 3 then s else (polChanged s old).oscEval := rfl

theorem oscCfgWritten_resetReq (old : Word) : (s.oscCfgWritten old).boot.resetReq = s.boot.resetReq := by
  rw [oscCfgWritten_eq]
  split
  · rfl
  · rw [oscEval_rest, polChanged_rest]

theorem oscCfgWritten_regs (old : Word) : KeepsRegs [.TIM_OSC_QUAL_STATUS] s (s.oscCfgWritten old) := by
  rw [oscCfgWritten_eq]
  split
  · exact .refl
  · refine KeepsRegs.trans (u := polChanged s old) ?_ (oscEval_regs (List.mem_singleton_self _) _)
    rw [polChanged_rest]
    exact KeepsRegs.refl.of_regs rfl rfl

/-- The rows of R71 after a write of the settings, outside QUALIFIED. -/
theorem oscCfgWritten_oscState (hs : s.regsOk) (old : Word) (h3 : s.oscState ≠ 3) :
    (s.oscState = 2 → s.oscCfg F.TIM_OSC_QUAL_CFG_WARM_USE = 1 → s.boot.ocxoPin = false → (s.oscCfgWritten old).oscState = 1) ∧
    (s.oscState = 1 → s.stepEight = true → s.oscCfg F.TIM_OSC_QUAL_CFG_WARM_USE = 0 → (s.oscCfgWritten old).oscState = 2) := by
  have hp := polChanged_rest s old
  have hr : (polChanged s old).regsOk := by rw [hp]; exact hs
  have hst : (polChanged s old).oscState = s.oscState := by rw [hp]; rfl
  have huse : (polChanged s old).oscCfg F.TIM_OSC_QUAL_CFG_WARM_USE = s.oscCfg F.TIM_OSC_QUAL_CFG_WARM_USE := by rw [hp]; rfl
  have h8 : (polChanged s old).stepEight = s.stepEight := by rw [hp]; rfl
  rw [oscCfgWritten_eq, if_neg h3, oscEval_oscState hr, hst, huse, h8]
  refine ⟨fun h hu hpin => ?_, fun h he hu => ?_⟩
  · rw [if_neg (by simp [h]), if_pos ⟨h, hu, polChanged_cold old hpin⟩]
  · rw [if_pos ⟨h, he, by simp [hu]⟩]

theorem cfgWrite {h : Nat} {v : Word} (hs : StoresCanonical s) (he : ExpertWindow s h) (hp : Passes s h .TIM_OSC_QUAL_CFG v) :
    ∃ t, exec (.oscQualCfgWrite .window v) s = .next t ∧
      (s.oscState = 3 → t = wrote s .TIM_OSC_QUAL_CFG v) ∧
      (s.oscState = 2 → F.TIM_OSC_QUAL_CFG_WARM_USE.get v = 1 → s.boot.ocxoPin = false → t.oscState = 1) ∧
      (s.oscState = 1 → s.stepEight = true → F.TIM_OSC_QUAL_CFG_WARM_USE.get v = 0 → t.oscState = 2) ∧
      KeepsRegs [.TIM_OSC_QUAL_CFG, .TIM_OSC_QUAL_STATUS] s t := by
  have hw := wrote_canonical hs .TIM_OSC_QUAL_CFG v
  have hst : (wrote s .TIM_OSC_QUAL_CFG v).oscState = s.oscState := wrote_fld_ne s (addr_ne rfl rfl (by simp)) v _
  have h8 : (wrote s .TIM_OSC_QUAL_CFG v).stepEight = s.stepEight := by
    have hb : (wrote s .TIM_OSC_QUAL_CFG v).bootStep = s.bootStep := wrote_fld_ne s (addr_ne rfl rfl (by simp)) v _
    rw [State.stepEight, hb, wrote_rest, State.stepEight]
  have hpin : (wrote s .TIM_OSC_QUAL_CFG v).boot.ocxoPin = s.boot.ocxoPin := by rw [wrote_rest]
  have huse : (wrote s .TIM_OSC_QUAL_CFG v).oscCfg F.TIM_OSC_QUAL_CFG_WARM_USE = F.TIM_OSC_QUAL_CFG_WARM_USE.get v :=
    wrote_fld_rw hs (f := ⟨F.TIM_OSC_QUAL_CFG_WARM_USE, .rw, .b, true⟩) (by simp [Reg.fields]) (by simp) v
  have hx : exec (.oscQualCfgWrite .window v) s = .next ((wrote s .TIM_OSC_QUAL_CFG v).oscCfgWritten (s.get .TIM_OSC_QUAL_CFG)) := by
    have h1 := rowWriteReg_expert he hp rfl (by simp) (by simp) rfl
    rw [show (wrote s .TIM_OSC_QUAL_CFG v).writeAction h .TIM_OSC_QUAL_CFG (s.get .TIM_OSC_QUAL_CFG) v =
      (wrote s .TIM_OSC_QUAL_CFG v).oscCfgWritten (s.get .TIM_OSC_QUAL_CFG) from rfl,
      takeReset_of_none (by rw [oscCfgWritten_resetReq, wrote_resetReq, he.noReset])] at h1
    exact congrArg Host.Outcome.next h1
  refine ⟨_, hx, fun h3 => ?_, fun h2 hu hc => ?_, fun h1 he8 hu => ?_, ?_⟩
  · rw [oscCfgWritten_eq, if_pos (by rw [hst, h3])]
  · exact (oscCfgWritten_oscState hw.regs _ (by rw [hst, h2]; decide)).1 (hst.trans h2) (huse.trans hu) (hpin.trans hc)
  · exact (oscCfgWritten_oscState hw.regs _ (by rw [hst, h1]; decide)).2 (hst.trans h1) (h8.trans he8) (huse.trans hu)
  · exact ((wrote_keeps s _ v).weaken (by simp)).trans ((oscCfgWritten_regs _).weaken (by simp))

/-- Settles O11: the rows of R71 by `presenceGood_leaves`, `presenceAbsent_leaves` and `stabilityGate_leaves`; warmth and the settings
by `oscEval_oscState`. -/
theorem oscillatorQualifies : Obligations.OscillatorQualifies := by
  unfold Obligations.OscillatorQualifies
  refine ⟨fun s ppb hs => ⟨fun h => exec_presence_idle ppb fun hd => ?_, fun hb h3 hB h0 => ?_⟩, fun s deci hs => ⟨fun h => ?_, fun h hb => ?_,
    fun before h hb => ?_⟩, fun s hs => ⟨?_, fun h1 => ?_⟩, fun s hs => ⟨fun h => ?_, fun h => ?_⟩, fun s h v hs he hp => ?_⟩
  · obtain ⟨hb, h3, hB, h0⟩ := hd
    rcases h with h | h | h | h
    · rw [hb] at h; cases h
    · omega
    · omega
    · exact h h0
  · obtain ⟨hgood, hfew, habsent⟩ := exec_presence (ppb := ppb) ⟨hb, h3, hB, h0⟩
    by_cases hg : gateGood ppb
    · exact ⟨_, hgood hg, fun _ => presenceGood_leaves hs, fun h => absurd hg h, fun h => absurd hg h⟩
    · by_cases hn : s.boot.gateFails < 2
      · exact ⟨_, hfew hg hn, fun h => absurd h hg, fun _ _ => rfl, fun _ h => absurd h (by omega)⟩
      · refine ⟨_, habsent hg (by omega), fun h => absurd h hg, fun _ h => absurd h hn, fun _ _ => ?_⟩
        obtain ⟨h4, ht, hr, hbs, hc⟩ := presenceAbsent_leaves hs
        split
        · next hs3 =>
          refine ⟨?_, ht, hr, fun _ => ?_, fun h => absurd hs3 h⟩
          · exact (fld_setFld_off rfl rfl (by simp)).trans h4
          · exact fld_setFld_lt hc.regs (by decide) (by decide)
        · next hs3 => exact ⟨h4, ht, hr, fun h => absurd h hs3, fun _ => hbs⟩
  · exact congrArg Host.Outcome.next (if_pos h)
  · have he : exec (.oscStabilityGate deci) s = execOscStabilityGate deci s := rfl
    rw [he]
    simp only [execOscStabilityGate, h, hb, ne_eq, not_true_eq_false, if_false]
  · rw [exec_stability h hb]
    extract_lets u k w n bound
    obtain ⟨-, hpass, hcfg, -, -, -, -⟩ := stabilityGate_leaves hs deci before 0 (by omega)
    have hlim : 10 * u.oscCfg F.TIM_OSC_QUAL_CFG_LIMIT = bound := by rw [hcfg]
    have hn : n < 256 := Fld.get_lt ..
    by_cases hb : bound < (deci - before).natAbs
    · obtain ⟨-, -, -, -, hst, hp, hg⟩ := stabilityGate_leaves hs deci before 0 (by omega)
      refine ⟨_, congrArg Host.Outcome.next (if_pos (by rw [hlim]; exact hb)), hg, fun _ => ⟨hst.trans h, hp⟩, fun hle => absurd hb (by omega)⟩
    · have hk : k ≤ 255 := Nat.min_le_left _ _
      obtain ⟨hc, -, -, hcfg', hst, hp, hg⟩ := stabilityGate_leaves hs deci before k hk
      have hkn : n < 255 → k = n + 1 := fun hlt => by
        rw [show k = min 255 (n + 1) from congrArg (fun x => min 255 (x + 1)) hpass]
        omega
      have hsig := (Signals.signalProof (rs := []) (ids := []) (s := w.setOsc F.TIM_OSC_QUAL_STATUS_STATE 3)).eventClear .refl Ev.ocxoSlow 0
      refine ⟨_, congrArg Host.Outcome.next (if_neg (by rw [hlim]; exact hb)), ?_, fun h => absurd h hb, fun _ hlt => ?_⟩
      · split
        · exact hg
        · rw [hsig.rest]
          exact hg
      · rw [← hkn hlt, show w.oscCfg F.TIM_OSC_QUAL_CFG_COUNT = s.oscCfg F.TIM_OSC_QUAL_CFG_COUNT from hcfg' _]
        split
        · exact ⟨hp, hst.trans h⟩
        · have hfld := fun f => hsig.fld (q := .TIM_OSC_QUAL_STATUS) (not_signalAddr rfl (by simp) (by simp) (by simp)) (by simp) f
          refine ⟨(hfld _).trans ?_, (hfld _).trans (fld_setFld_lt hc.regs (by decide) (by decide))⟩
          exact (fld_setFld_beside hc.regs (by decide) (by decide)).trans hp
  · have he : exec .ocxoWarmHeld s = .next ({ s with boot := { s.boot with ocxoPin := true } } : State).oscEval := rfl
    refine ⟨_, he, ?_, ?_⟩
    · rw [oscEval_rest]
    · rw [oscEval_oscState (s := { s with boot := { s.boot with ocxoPin := true } }) hs.regs]
      simp only [Bool.true_eq_false, and_false, not_false_eq_true, and_true, if_false]
      rfl
  · have he : exec .ocxoWarmLost s = .next ({ s with boot := { s.boot with ocxoPin := false } } : State).oscEval := rfl
    refine ⟨_, he, ?_, ?_⟩
    · rw [oscEval_rest]
    · rw [oscEval_oscState (s := { s with boot := { s.boot with ocxoPin := false } }) hs.regs, if_neg (fun hc => h1 hc.1)]
      simp only [and_true]
      rfl
  · have he : exec .ocxoSlow s = .next ((s.setOsc F.TIM_OSC_QUAL_STATUS_SLOW 1).raise Ev.ocxoSlow 0 0) := by
      obtain ⟨h8, hst, ht, hslow⟩ := h
      exact congrArg Host.Outcome.next (if_pos (by simp [h8, hst, ht, hslow]))
    have hsig := (Signals.signalProof (rs := []) (ids := []) (s := s.setOsc F.TIM_OSC_QUAL_STATUS_SLOW 1)).raise .refl (by decide : Ev.ocxoSlow < 256) 0 0
    have hfld := fun f => hsig.fld (q := .TIM_OSC_QUAL_STATUS) (not_signalAddr rfl (by simp) (by simp) (by simp)) (by simp) f
    exact ⟨_, he, (hfld _).trans (fld_setFld_lt hs.regs (by decide) (by decide)), raise_raised (by decide) 0,
      (hfld _).trans (fld_setFld_beside hs.regs (by decide) (by decide))⟩
  · refine congrArg Host.Outcome.next (if_neg fun hd => h ?_)
    simpa [and_assoc] using hd
  · exact cfgWrite hs he hp

end Sys2Proof
end

section
/-! PROOF. Checks of a write, and what registers hold and show (R6 to R10, R86, R502 to R505). -/
namespace Sys2Proof

open Sys2Proof.Machine

set_option Elab.async false

variable {s : State} {r : Reg} {h role a : Nat} {v m : Word}

/-! ## The order of the checks -/

/-- The checks of a session that may write, at a register's address. -/
theorem checkWrite_reg (hr : role = 2 ∨ role = 3) (ha : decodeAddr a = some r) :
    s.checkWrite (.sess h role) a v =
      if v &&& eMask (.sess h role) r ≠ 0 then .inl Stat.level
      else if !r.writable then .inl Stat.address
      else
        let m := s.keepE (.sess h role) r v
        if (v &&& ~~~r.fieldMask) ≠ 0 ∨ !r.fieldsOk m ∨ !s.ringWriteOk r m then .inl Stat.value
        else if s.running ∧ (m ^^^ s.committed r) &&& (r.maskOf fun f => f.acc == .rwl) ≠ 0 then .inl Stat.rwlLocked
        else .inr (r, m) := by
  have h1 : role ≠ 1 := by omega
  have h4 : role ≠ 4 := by omega
  simp only [State.checkWrite, Who.role, h1, h4, ha, if_false, false_and]

/-- The E fields that a session of a role that may write does not reach. -/
theorem eMask_writer (hr : role = 2 ∨ role = 3) : eMask (.sess h role) r = if role = 3 then 0#32 else r.maskOf fun f => f.lvl == .e := by
  rcases hr with rfl | rfl <;> simp [eMask, Who.seesE, Who.role]

theorem keepE_expert : s.keepE (.sess h 3) r v = v := by
  rw [State.keepE, eMask_writer (.inr rfl), if_pos rfl]
  simp only [BitVec.zero_and, BitVec.and_zero, BitVec.or_zero]
  exact BitVec.and_allOnes

/-- A word whose bits pass the checks before VALUE. -/
theorem checkWrite_value (hr : role = 2 ∨ role = 3) (ha : decodeAddr a = some r) (hw : r.writable = true)
    (he : v &&& eMask (.sess h role) r = 0) (hm : s.keepE (.sess h role) r v = m) :
    (v &&& ~~~r.fieldMask ≠ 0 → s.checkWrite (.sess h role) a v = .inl Stat.value) ∧
    (v &&& ~~~r.fieldMask = 0 →
      (r.fieldsOk m = false ∨ s.ringWriteOk r m = false → s.checkWrite (.sess h role) a v = .inl Stat.value) ∧
      (r.fieldsOk m = true → s.ringWriteOk r m = true →
        (s.running = true → (m ^^^ s.committed r) &&& (r.maskOf fun f => f.acc == .rwl) ≠ 0 →
          s.checkWrite (.sess h role) a v = .inl Stat.rwlLocked) ∧
        (s.running = false ∨ (m ^^^ s.committed r) &&& (r.maskOf fun f => f.acc == .rwl) = 0 →
          s.checkWrite (.sess h role) a v = .inr (r, m)))) := by
  rw [checkWrite_reg hr ha, if_neg (by simpa using he), if_neg (by simp [hw]), hm]
  refine ⟨fun hv => if_pos (.inl hv), fun hv => ⟨fun hf => if_pos ?_, fun hf hg => ⟨fun hrun hl => ?_, fun hl => ?_⟩⟩⟩
  · simpa using .inr hf
  · exact (if_neg (by simp [hv, hf, hg])).trans (if_pos ⟨hrun, hl⟩)
  · refine (if_neg (by simp [hv, hf, hg])).trans (if_neg ?_)
    rintro ⟨h1, h2⟩
    rcases hl with hl | hl
    · rw [hl] at h1; cases h1
    · exact h2 hl

/-! ## What an Operator's word comes to -/

theorem keepE_getLsbD {f : FieldInfo} (hf : f ∈ r.fields) {i : Nat} (hi : i < 32) (hb : f.fld.mask.getLsbD i = true) :
    (s.keepE (.sess h 2) r v).getLsbD i =
      if f.lvl = .e then (s.committed r).getLsbD i && (f.acc == .rw || f.acc == .rwl || f.acc == .st) else v.getLsbD i := by
  simp only [State.keepE, eMask_writer (.inl rfl), Reg.heldMask, BitVec.getLsbD_or, BitVec.getLsbD_and, BitVec.getLsbD_not, hi,
    decide_true, Bool.true_and, show (2 : Nat) ≠ 3 by decide, if_false, getLsbD_maskOf_mem hf hi hb]
  by_cases he : f.lvl = .e
  · simp [he]
  · have : (f.lvl == Level.e) = false := beq_eq_false_iff_ne.mpr he
    simp [he, this]

theorem get_keepE_seen {f : FieldInfo} (hf : f ∈ r.fields) (hl : f.lvl ≠ .e) :
    f.fld.get (s.keepE (.sess h 2) r v) = f.fld.get v :=
  get_congr fun i hi hb => by rw [keepE_getLsbD hf hi hb, if_neg hl]

theorem get_keepE_held {f : FieldInfo} (hf : f ∈ r.fields) (hl : f.lvl = .e) (ha : f.acc = .rw ∨ f.acc = .rwl ∨ f.acc = .st) :
    f.fld.get (s.keepE (.sess h 2) r v) = f.fld.get (s.committed r) := by
  refine get_congr fun i hi hb => ?_
  rw [keepE_getLsbD hf hi hb, if_pos hl]
  rcases ha with ha | ha | ha <;> rw [ha] <;> simp

/-- An Operator's write leaves an E field as it was. -/
theorem get_written_keepE {f : FieldInfo} (hf : f ∈ r.fields) (hl : f.lvl = .e) (hst : r.isST = false) :
    f.fld.get (r.written (s.get r) (s.keepE (.sess h 2) r v)) = f.fld.get (s.get r) := by
  have hc : s.committed r = s.get r := by simp [State.committed, hst]
  refine get_congr fun i hi hb => ?_
  rw [written_getLsbD hf hi hb, keepE_getLsbD hf hi hb, if_pos hl, hc]
  cases f.acc <;> simp [heldBit] <;> decide

/-! ## Bits after a write -/

theorem and_mask_congr {f : Fld} {x y : Word} (h : ∀ i, i < 32 → f.mask.getLsbD i = true → x.getLsbD i = y.getLsbD i) : x &&& f.mask = y &&& f.mask := by
  refine BitVec.eq_of_getLsbD_eq fun i hi => ?_
  rw [BitVec.getLsbD_and, BitVec.getLsbD_and]
  cases hb : f.mask.getLsbD i
  · simp
  · rw [h i hi hb]

theorem written_outside (r : Reg) (old m : Word) : r.written old m &&& ~~~r.fieldMask = old &&& ~~~r.fieldMask := by
  refine BitVec.eq_of_getLsbD_eq fun i hi => ?_
  simp only [BitVec.getLsbD_and, BitVec.getLsbD_not, hi, decide_true, Bool.true_and]
  cases hb : r.fieldMask.getLsbD i
  · simp only [Reg.written, BitVec.getLsbD_or, BitVec.getLsbD_and, BitVec.getLsbD_not, getLsbD_maskOf_of_not hb, hi]
    simp
  · simp

/-- The bits that an access sees of a register. -/
def seenMask (w : Who) (r : Reg) : Word := r.fieldMask &&& ~~~(r.maskOf fun f => f.acc == .wo) &&& ~~~(eMask w r)

theorem readReg_seen (w : Who) (r : Reg) : ∃ x, (s.readReg w r).2 = x &&& seenMask w r := by
  unfold State.readReg
  split
  · exact ⟨0#32, by simp⟩
  · exact ⟨_, rfl⟩

theorem get_of_masked {f : Fld} {x k : Word} (h : ∀ i, i < 32 → f.mask.getLsbD i = true → k.getLsbD i = false) : f.get (x &&& k) = 0 := by
  have h0 : f.get (x &&& k) = f.get 0#32 := get_congr fun i hi hb => by rw [BitVec.getLsbD_and, h i hi hb]; simp
  exact h0.trans (by simp [Fld.get])

theorem readReg_outside (w : Who) (r : Reg) : (s.readReg w r).2 &&& ~~~r.fieldMask = 0 := by
  obtain ⟨x, hx⟩ := readReg_seen (s := s) w r
  rw [hx]
  refine BitVec.eq_of_getLsbD_eq fun i hi => ?_
  cases hb : r.fieldMask.getLsbD i <;> simp [seenMask, hb]

/-- Settles O12: the checks in their order by `checkWrite_reg`, an Operator's word by `keepE_getLsbD`, a field after a write by
`written_getLsbD`. -/
theorem registerWrites : Obligations.RegisterWrites := by
  unfold Obligations.RegisterWrites
  refine ⟨fun s h role a v => ?_, fun r old m f _ hf => ?_, fun r old m _ => written_outside r old m, fun s w r => ?_, fun s p a v => rfl⟩
  · intro c
    refine ⟨fun st hc => ?_, fun h1 => ?_, fun h4 hr => ?_, fun hr ha => ?_, fun r hr ha => ?_⟩
    · simp only [State.writeAddr, show s.checkWrite (.sess h role) a v = .inl st from hc]
    · exact if_pos h1
    · refine (if_neg (by show role ≠ 1; omega)).trans ?_
      split
      · exact congrArg _ (if_pos h4)
      · next r hd =>
        exact if_pos ⟨h4, fun he => hr (hd.trans (congrArg some he))⟩
    · have h1 : role ≠ 1 := by omega
      have h4 : role ≠ 4 := by omega
      simp only [c, State.checkWrite, Who.role, h1, ha, h4, if_false]
    · intro em
      have hem : eMask (.sess h role) r = em := eMask_writer hr
      refine ⟨fun hl => ?_, fun hl hw => ?_, fun hw hl hv => ?_, fun hw h3 hv => ?_, fun hw h2 hl hv => ?_, fun m hc hst h1 h2 => ?_⟩
      · exact (checkWrite_reg hr ha).trans (if_pos (by rw [hem]; exact hl))
      · exact (checkWrite_reg hr ha).trans ((if_neg (by simpa [hem] using hl)).trans (if_pos (by simp [hw])))
      · exact (checkWrite_value hr ha hw (by rw [hem]; exact hl) rfl).1 hv
      · subst h3
        exact (checkWrite_value hr ha hw (by rw [hem]; simp [em]) keepE_expert).2 hv
      · subst h2
        intro m
        have hc := (checkWrite_value (m := m) hr ha hw (by rw [hem]; exact hl) rfl).2 hv
        exact ⟨hc.1, hc.2, fun f hf hle => get_keepE_seen hf hle, fun f hf hle => ⟨get_keepE_held hf hle, get_written_keepE hf hle⟩⟩
      · simp only [State.writeAddr, show s.checkWrite (.sess h role) a v = .inr (r, m) from hc, hst, h1, h2, or_self, false_and, if_false,
          Bool.false_eq_true]
        rfl
  · intro new
    refine ⟨fun ha => get_written_rw hf ha old m, fun ha => and_mask_congr fun i hi hb => ?_, fun ha => and_mask_congr fun i hi hb => ?_,
      fun ha => get_written_kept hf ha old m⟩
    · rw [written_getLsbD hf hi hb, ha]
      simp [heldBit, hi]
    · rw [written_getLsbD hf hi hb, ha]
      simp [heldBit]
  · intro v
    obtain ⟨x, hx⟩ := readReg_seen (s := s) w r
    refine ⟨readReg_outside w r, fun f hf ha => ?_, fun h3 h4 f hf hl => ?_, fun hi => ?_⟩
    · rw [show v = x &&& seenMask w r from hx]
      refine get_of_masked fun i hi hb => ?_
      simp [seenMask, getLsbD_maskOf_mem hf hi hb, ha]
    · rw [show v = x &&& seenMask w r from hx]
      refine get_of_masked fun i hi hb => ?_
      simp [seenMask, eMask, Who.seesE, h3, h4, getLsbD_maskOf_mem hf hi hb, hl]
    · simp only [v, State.readReg, hi, Bool.not_false, if_true, and_self]

end Sys2Proof
end

section
/-! PROOF. Counters: counting, a read of one, and the clear of a histogram (R487 to R492, R499). -/
namespace Sys2Proof

open Sys2Proof.Machine

set_option Elab.async false

variable {s : State}

/-! ## Counting (R487, R488) -/

theorem countN_counter (hs : skeysFrom none s.cnt = true) (id n : Nat) :
    ((s.countN id n).counter id).val = (s.counter id).val + BitVec.ofNat 64 n ∧
      ((s.counter id).wrap = true → ((s.countN id n).counter id).wrap = true) := by
  induction n generalizing s with
  | zero => exact ⟨by simp [State.countN], fun h => h⟩
  | succ n ih =>
    have hone := s.counter_count_self id hs
    obtain ⟨hval, hwrap⟩ := ih (s := s.count id) (skeysFrom_sput _ _ _ _ hs)
    refine ⟨?_, fun h => hwrap ?_⟩
    · rw [State.countN, hval, hone, Nat.add_comm n 1, BitVec.ofNat_add]
      exact BitVec.add_assoc ..
    · rw [hone, h, Bool.true_or]

/-! ## COUNTER_READ (R489 to R492) -/

/-- What a read of a counter word latches, and returns (R491). -/
def counterLatch (s : State) (id : Nat) : Latch × Word :=
  let x := s.sample id
  (if x.1 = 0 then
      ⟨(x.2.val >>> 32).setWidth 32, BitVec.ofNat 32 s.nowNs, s.stepTime s.nowNs, BitVec.ofNat 32 (4 * bitOf x.2.wrap)⟩
    else ⟨0, 0, 0, BitVec.ofNat 32 x.1⟩, x.2.val.setWidth 32)

/-- An Expert sees every bit of a counter word. -/
theorem seenMask_counter (h id : Nat) : seenMask (.sess h 3) (.CNT id) = BitVec.allOnes 32 := by
  simp only [seenMask, Reg.fieldMask, Reg.maskOf, Reg.fields, eMask, Who.seesE, Who.role, List.foldl, beq_self_eq_true, Bool.true_or, if_true]
  decide

theorem exec_counterRead {h id : Nat} {x : Session} (he : ExpertWindow s h) (hx : s.session h = some x) (hid : id < 0x60000) :
    exec (.counterRead .window id) s =
      .next ((s.putSession h { x with latch := (counterLatch s id).1 }).emit (.readData (counterLatch s id).2)) := by
  obtain ⟨y, hy, hrole⟩ := he.holder
  have hd : decodeAddr (Reg.CNT id).addr = some (.CNT id) := decodeAddr_addr (by simpa [Reg.indexOk] using hid) nofun
  have hr : s.readReg (.sess h 3) (.CNT id) = (s.putSession h { x with latch := (counterLatch s id).1 }, (counterLatch s id).2) := by
    have hi : s.instIn s.curSel (.CNT id) = true := rfl
    have ha : s.readActing (.sess h 3) (.CNT id) = (s.putSession h { x with latch := (counterLatch s id).1 }, (counterLatch s id).2) := by
      simp only [State.readActing, State.readCounter, Who.handle, hx]
      rfl
    simp only [State.readReg, hi, Bool.not_true, Bool.false_eq_true, if_false, ha]
    rw [show (Reg.CNT id).fieldMask &&& ~~~((Reg.CNT id).maskOf fun f => f.acc == .wo) &&& ~~~(eMask (.sess h 3) (.CNT id)) =
      BitVec.allOnes 32 from seenMask_counter h id, BitVec.and_allOnes]
  have ha : s.readAddr (.sess h 3) (Reg.CNT id).addr = (s.putSession h { x with latch := (counterLatch s id).1 }, 0, (counterLatch s id).2) := by
    simp only [State.readAddr, hd, Who.role, hr]
    rfl
  refine congrArg Host.Outcome.next ?_
  rw [readOut_of_holder hy he.up he.live he.stewards, hrole, ha]
  rfl

/-! ## SWC_HIST_CFG (R499) -/

theorem sfind_filter {α : Type} (p : Nat → Bool) (m : SMap α) (k : Nat) : sfind (m.filter fun kv => p kv.1) k = if p k then sfind m k else none := by
  induction m with
  | nil => simp [sfind]
  | cons kv m ih =>
    obtain ⟨j, v⟩ := kv
    by_cases hjk : j = k
    · subst hjk
      cases hp : p j <;> simp [List.filter_cons, hp, sfind, ih]
    · cases hp : p j <;> simp [List.filter_cons, hp, sfind, hjk, ih]

theorem clearCounters_counter (p : Nat → Bool) (id : Nat) :
    (s.clearCounters p).counter id = if p id then ⟨0, false⟩ else s.counter id := by
  have hc : (s.clearCounters p).counter id = (sfind (s.cnt.filter fun kv => (fun k => !p k) kv.1) id).getD ⟨0, false⟩ := rfl
  rw [hc, sfind_filter (fun k => !p k)]
  cases p id <;> rfl

/-- The histogram of a port begins anew (R499). -/
def histCleared (s : State) (p : Nat) (old : Word) : State :=
  (s.clearCounters fun id => decide (C.latHist p 0 ≤ id) && decide (id < C.latHist (p + 1) 0)).setFld
    (.SWC_HIST_CFG p) F.SWC_HIST_CFG_GEN (F.SWC_HIST_CFG_GEN.get old + 1)

theorem histWritten_eq (p : Nat) (old : Word) :
    s.histWritten p old =
      if F.SWC_HIST_CFG_CLASSES.get old = s.fld (.SWC_HIST_CFG p) F.SWC_HIST_CFG_CLASSES ∧
          F.SWC_HIST_CFG_MIN_EXP.get old = s.fld (.SWC_HIST_CFG p) F.SWC_HIST_CFG_MIN_EXP then s
      else histCleared s p old := rfl

theorem histWritten_rest (p : Nat) (old : Word) :
    s.histWritten p old = { s with regs := (s.histWritten p old).regs, masked := (s.histWritten p old).masked, cnt := (s.histWritten p old).cnt } := by
  rw [histWritten_eq]
  split <;> rfl

theorem exec_histCfgWrite {h p : Nat} {v : Word} (he : ExpertWindow s h) (hp : Passes s h (.SWC_HIST_CFG p) v) :
    exec (.histCfgWrite .window p v) s = .next ((wrote s (.SWC_HIST_CFG p) v).histWritten p (s.get (.SWC_HIST_CFG p))) := by
  have h1 := rowWriteReg_expert he hp rfl (by simp) (by simp) rfl
  rw [show (wrote s (.SWC_HIST_CFG p) v).writeAction h (.SWC_HIST_CFG p) (s.get (.SWC_HIST_CFG p)) v =
      (wrote s (.SWC_HIST_CFG p) v).histWritten p (s.get (.SWC_HIST_CFG p)) from rfl,
    takeReset_of_none (by rw [histWritten_rest]; exact (wrote_resetReq ..).trans he.noReset)] at h1
  exact congrArg Host.Outcome.next h1

/-- Settles O59: counts by `countN_counter`, a read by `exec_counterRead`, the clear of a histogram by `clearCounters_counter`. -/
theorem countersCountAndRead : Obligations.CountersCountAndRead := by
  unfold Obligations.CountersCountAndRead
  refine ⟨fun s id n hs => ?_, fun s h id x hs he hx hid => ?_, fun s h p v hs he hp1024 hp => ?_⟩
  · obtain ⟨hval, hwrap⟩ := countN_counter hs id n
    have hone := s.counter_count_self id hs
    refine ⟨hone, fun j hj => s.counter_count_ne id j (Ne.symm hj), fun h => ?_, hwrap, hval⟩
    rw [hone, h]
    exact ⟨rfl, by simp⟩
  · intro port c read
    have hread : ∀ l v, (counterLatch s id) = (l, v) → read l v := by
      intro l v hl
      refine ⟨_, exec_counterRead he hx hid, ?_, fun k hk => ?_, ?_⟩
      · rw [hl]
        exact sfind_sinsert_self _ _ _
      · exact sfind_sinsert_ne _ _ _ _ (Ne.symm hk)
      · rw [hl]
        rfl
    refine ⟨fun ha hport => hread _ _ ?_, fun ha hport => hread _ _ ?_, fun ha => hread _ _ ?_⟩
    · have hsam : s.sample id = (0, s.counter id) := by
        simp only [State.sample, ha, Bool.not_true, Bool.false_eq_true, if_false]
        cases hc : cntPort id with
        | none => rfl
        | some q => simp only [port, hc] at hport; simp [hport]
      simp only [counterLatch, hsam, if_true]
      congr 2
      cases (s.counter id).wrap <;> rfl
    · have hsam : s.sample id = (1, ⟨0, false⟩) := by
        simp only [State.sample, ha, Bool.not_true, Bool.false_eq_true, if_false]
        cases hc : cntPort id with
        | none => simp [port, hc] at hport
        | some q => simp only [port, hc] at hport; simp [hport]
      simp only [counterLatch, hsam]
      rfl
    · have hsam : s.sample id = (2, ⟨0, false⟩) := by simp [State.sample, ha]
      simp only [counterLatch, hsam]
      rfl
  · intro old same
    have hw := wrote_canonical hs (.SWC_HIST_CFG p) v
    have hcnt : (wrote s (.SWC_HIST_CFG p) v).cnt = s.cnt := by rw [wrote_rest]
    have hcls : (wrote s (.SWC_HIST_CFG p) v).fld (.SWC_HIST_CFG p) F.SWC_HIST_CFG_CLASSES = F.SWC_HIST_CFG_CLASSES.get v :=
      wrote_fld_rw hs (f := ⟨F.SWC_HIST_CFG_CLASSES, .rw, .b, true⟩) (by simp [Reg.fields]) (by simp) v
    have hmin : (wrote s (.SWC_HIST_CFG p) v).fld (.SWC_HIST_CFG p) F.SWC_HIST_CFG_MIN_EXP = F.SWC_HIST_CFG_MIN_EXP.get v :=
      wrote_fld_rw hs (f := ⟨F.SWC_HIST_CFG_MIN_EXP, .rw, .b, true⟩) (by simp [Reg.fields]) (by simp) v
    have hen : (wrote s (.SWC_HIST_CFG p) v).fld (.SWC_HIST_CFG p) F.SWC_HIST_CFG_EN = F.SWC_HIST_CFG_EN.get v :=
      wrote_fld_rw hs (f := ⟨F.SWC_HIST_CFG_EN, .rw, .b, true⟩) (by simp [Reg.fields]) (by simp) v
    have hgen : (wrote s (.SWC_HIST_CFG p) v).fld (.SWC_HIST_CFG p) F.SWC_HIST_CFG_GEN = F.SWC_HIST_CFG_GEN.get old := by
      rw [State.fld, wrote_get hs, get_written_kept (f := ⟨F.SWC_HIST_CFG_GEN, .ro, .b, false⟩) (by simp [Reg.fields]) (by simp)]
    have hkeep := wrote_keeps s (.SWC_HIST_CFG p) v
    have hfr : (wrote s (.SWC_HIST_CFG p) v).frames = s.frames := by rw [wrote_rest]
    have hrp : (wrote s (.SWC_HIST_CFG p) v).reps = s.reps := by rw [wrote_rest]
    have hx := exec_histCfgWrite he hp
    rw [histWritten_eq, hcls, hmin] at hx
    generalize wrote s (.SWC_HIST_CFG p) v = w at *
    refine ⟨_, hx, ?_⟩
    by_cases hsame : same
    · rw [if_pos hsame]
      refine ⟨?_, fun _ => ⟨hcnt, hgen⟩, fun h => absurd hsame h, fun id _ => counter_of_cnt hcnt id, hkeep, hfr, hrp⟩
      simpa [Holds] using ⟨hcls, hmin, hen⟩
    · rw [if_neg hsame]
      have hbeside : ∀ f, F.SWC_HIST_CFG_GEN.apart f = true → f.lo + f.w ≤ 32 →
          (histCleared w p old).fld (.SWC_HIST_CFG p) f = w.fld (.SWC_HIST_CFG p) f := fun f ha hf => fld_setFld_beside hw.regs ha hf
      have hcount : ∀ id, (histCleared w p old).counter id = if C.latHist p 0 ≤ id ∧ id < C.latHist p 64 then ⟨0, false⟩ else s.counter id := by
        intro id
        have hend : C.latHist (p + 1) 0 = C.latHist p 64 := by simp only [C.latHist]; omega
        have hc := clearCounters_counter (s := w) (fun id => decide (C.latHist p 0 ≤ id) && decide (id < C.latHist (p + 1) 0)) id
        refine Eq.trans (b := (w.clearCounters fun id => decide (C.latHist p 0 ≤ id) && decide (id < C.latHist (p + 1) 0)).counter id) rfl (hc.trans ?_)
        rw [hend, counter_of_cnt hcnt]
        simp only [Bool.and_eq_true, decide_eq_true_eq]
      refine ⟨?_, fun h => absurd h hsame, fun _ => ⟨?_, fun j hj => ?_⟩, fun id hid => ?_, ?_, hfr, hrp⟩
      · simpa [Holds] using ⟨(hbeside _ (by decide) (by decide)).trans hcls, (hbeside _ (by decide) (by decide)).trans hmin,
          (hbeside _ (by decide) (by decide)).trans hen⟩
      · exact State.fld_setFld_self _ _ _ _ hw.regs (by decide)
      · rw [hcount, if_pos (by simp only [C.latHist]; omega)]
      · rw [hcount, if_neg hid]
      · exact hkeep.trans ((KeepsRegs.refl.of_regs rfl rfl).setFld (List.mem_singleton_self _) _ _)

end Sys2Proof
end

section
/-! PROOF. What each path reaches: the window, and the test access port (R7, R97, R101, R536 to R538). -/
namespace Sys2Proof

open Sys2Proof.Machine

set_option Elab.async false

variable {s : State} {r : Reg} {h a : Nat} {v : Word}

/-! ## The window -/

theorem takeReset_ite {c : Prop} [Decidable c] (x y : State) : (if c then x else y).takeReset = if c then x.takeReset else y.takeReset := by
  split <;> rfl

/-- A full write by an Expert's window of a register with ST fields (R101, R102). -/
theorem registerWrite_staged (he : ExpertWindow s h) (hp : Passes s h r v) (hst : r.isST = true) :
    exec (.registerWrite .window r.addr v true) s = .next
      (let o := s.stageReg h r (v &&& r.maskOf fun f => f.acc == .st)
       if o.2 = 0 then o.1.takeReset else (o.1.winRefuse o.2).takeReset) := by
  have hw : s.writeAddr (.sess h 3) r.addr v = s.stageReg h r (v &&& r.maskOf fun f => f.acc == .st) := by
    simp only [State.writeAddr, hp.1, hst, if_true]
    rfl
  rw [exec_registerWrite_window, pathWrite_expert he, hw, takeReset_ite]

theorem windowRead_expert (he : ExpertWindow s h) {t : State} (hr : s.readAddr (.sess h 3) a = (t, 0, v)) :
    exec (.windowRead a) s = .next (t.emit (.readData v)) := by
  obtain ⟨x, hx, hrole⟩ := he.holder
  rw [exec_windowRead, readOut_of_holder hx he.up he.live he.stewards, hrole, hr]
  rfl

section Unbound

variable (up : s.stepTwoDone = true) (live : s.halted = false) (stewards : s.stewardHeld = false) (free : s.winHolder = none)
include up live stewards free

theorem pathWrite_unbound (a : Nat) (v : Word) : s.pathWrite .window a v = s.anonWrite a v := by
  obtain ⟨hlost, hcause⟩ := Bool.or_eq_false_iff.mp stewards
  simp [State.pathWrite, State.winWho, up, live, hlost, hcause, free]

theorem windowRead_unbound (a : Nat) : exec (.windowRead a) s = .next ((s.anonRead a).1.emit (.readData (s.anonRead a).2)) := by
  obtain ⟨hlost, hcause⟩ := Bool.or_eq_false_iff.mp stewards
  rw [exec_windowRead]
  simp [State.readOut, State.pathRead, State.winWho, up, live, hlost, hcause, free]

end Unbound

theorem anonRead_none (ha : decodeAddr a = none) : s.anonRead a = (s, 0) := by simp only [State.anonRead, ha]

theorem anonRead_some (ha : decodeAddr a = some r) : s.anonRead a = if r.open' then s.readReg .anon r else (s, 0) := by
  simp only [State.anonRead, ha]

theorem anonWrite_none (ha : decodeAddr a = none) : s.anonWrite a v = s := by simp only [State.anonWrite, ha]

theorem anonWrite_closed (ha : decodeAddr a = some r) (hc : r.channel = false) : s.anonWrite a v = s := by
  simp only [State.anonWrite, ha, hc, Bool.false_and, Bool.false_eq_true, if_false]

/-! ## The test access port -/

/-- A read of an identity register has no effect. -/
theorem readReg_identity {w : Who} (hr : r.identity = true) : (s.readReg w r).1 = s := by
  unfold State.readReg
  split
  · rfl
  · cases r
    case CNT => cases hr
    case HST_IRQ_CLAIM => cases hr
    case TIM_SAF_TIME_F => cases hr
    case TIM_TIC_RES_ST => cases hr
    all_goals rfl

theorem exec_jtagRead (hir : s.boot.ir = 0x10) (h4 : s.stepFourDone = true) (hl : s.halted = false) (d : Word) :
    exec (.jtagRegAccess false a d) s =
      .next { (s.anonRead a).1 with boot := { (s.anonRead a).1.boot with drAddr := a, drData := (s.anonRead a).2 } } := by
  have h2 : s.stepTwoDone = true := by
    simp only [State.stepFourDone, State.stepTwoDone, Bool.and_eq_true, decide_eq_true_eq] at *
    exact ⟨h4.1, by omega⟩
  have hp : s.pathRead .jtag a = s.anonRead a := by simp [State.pathRead, h2, hl, h4]
  have he : exec (.jtagRegAccess false a d) s = execJtagRegAccess false a d s := rfl
  rw [he, execJtagRegAccess, if_neg (by simp [hir])]
  simp only [Bool.false_eq_true, if_false, hp]

theorem exec_jtagWrite (hir : s.boot.ir = 0x10) (hd : decodeAddr a = some r) (hc : r.channel = false) (d : Word) :
    exec (.jtagRegAccess true a d) s = .next { s with boot := { s.boot with drAddr := a, drData := 0 } } := by
  have hp : s.pathWrite .jtag a d = s := by
    unfold State.pathWrite
    split
    · rfl
    · dsimp only
      split
      · exact anonWrite_closed hd hc
      · rfl
  have he : exec (.jtagRegAccess true a d) s = execJtagRegAccess true a d s := rfl
  rw [he, execJtagRegAccess, if_neg (by simp [hir])]
  simp only [if_true, hp]
  rfl

theorem identity_open (hr : r.identity = true) : r.open' = true := by simp [Reg.open', hr]

/-! ## IDCODE and REG_ACCESS (R536, R538) -/

theorem idcode_toNat (s : State) :
    s.idcode.toNat = (4 * s.fld .STW_ID_STEPPING F.STW_ID_STEPPING_MAJOR + s.fld .STW_ID_STEPPING F.STW_ID_STEPPING_MINOR) % 2 ^ 4 * 2 ^ 28 +
      0x2048 * 2 ^ 12 + s.boot.fuses.jedec % 2 ^ 11 * 2 + 1 := by
  simp only [State.idcode, BitVec.toNat_ofNat]
  omega

theorem accessCapture_toNat (s : State) :
    s.accessCapture.toNat = s.boot.drData.toNat + s.boot.drAddr % 2 ^ 32 * 2 ^ 32 + 2 ^ 65 := by
  have := s.boot.drData.isLt
  simp only [State.accessCapture, BitVec.toNat_ofNat]
  omega

theorem getLsbD_eq_odd {n : Nat} (x : BitVec n) (i : Nat) : x.getLsbD i = decide (x.toNat / 2 ^ i % 2 = 1) :=
  Nat.testBit_eq_decide_div_mod_eq

theorem extractLsb'_eq {n : Nat} (x : BitVec n) (lo w y : Nat) (hy : x.toNat / 2 ^ lo % 2 ^ w = y % 2 ^ w) : x.extractLsb' lo w = BitVec.ofNat w y := by
  apply BitVec.eq_of_toNat_eq
  rw [BitVec.extractLsb'_toNat, BitVec.toNat_ofNat, Nat.shiftRight_eq_div_pow, hy]

theorem idcode_fields (s : State) :
    s.idcode.getLsbD 0 = true ∧ s.idcode.extractLsb' 1 11 = BitVec.ofNat 11 s.boot.fuses.jedec ∧
      s.idcode.extractLsb' 12 16 = 0x2048#16 ∧
      s.idcode.extractLsb' 28 4 = BitVec.ofNat 4 (4 * s.fld .STW_ID_STEPPING F.STW_ID_STEPPING_MAJOR +
        s.fld .STW_ID_STEPPING F.STW_ID_STEPPING_MINOR) := by
  have hx := idcode_toNat s
  refine ⟨?_, extractLsb'_eq _ _ _ _ ?_, extractLsb'_eq _ _ _ _ ?_, extractLsb'_eq _ _ _ _ ?_⟩
  · rw [getLsbD_eq_odd, hx]
    simp only [decide_eq_true_eq]
    omega
  · omega
  · omega
  · omega

theorem accessCapture_fields (s : State) :
    s.accessCapture.extractLsb' 0 32 = s.boot.drData ∧ s.accessCapture.extractLsb' 32 32 = BitVec.ofNat 32 s.boot.drAddr ∧
      s.accessCapture.getLsbD 64 = false ∧ s.accessCapture.getLsbD 65 = true := by
  have hx := accessCapture_toNat s
  have hd := s.boot.drData.isLt
  refine ⟨?_, extractLsb'_eq _ _ _ _ ?_, ?_, ?_⟩
  · rw [extractLsb'_eq _ _ _ s.boot.drData.toNat (by omega), BitVec.ofNat_toNat, BitVec.setWidth_eq]
  · omega
  · rw [getLsbD_eq_odd, hx]
    simp only [decide_eq_false_iff_not]
    omega
  · rw [getLsbD_eq_odd, hx]
    simp only [decide_eq_true_eq]
    omega

/-! ## Instructions (R536, R537) -/

theorem closeSessions_rest (l : List Nat) (s : State) :
    (l.foldl State.closeSession s).boot = s.boot ∧ (l.foldl State.closeSession s).sessions = l.foldl serase s.sessions := by
  induction l generalizing s with
  | nil => exact ⟨rfl, rfl⟩
  | cons h l ih =>
    obtain ⟨h1, h2⟩ := ih (s.closeSession h)
    have hr := closeSession_rest s h
    refine ⟨h1.trans (by rw [hr]), h2.trans ?_⟩
    rw [show (s.closeSession h).sessions = serase s.sessions h by rw [hr]]
    rfl

theorem serase_keys {α : Type} (m : SMap α) : (m.map Prod.fst).foldl serase m = [] := by
  induction m with
  | nil => rfl
  | cons kv m ih =>
    obtain ⟨k, x⟩ := kv
    simpa [serase] using ih

theorem closeAll_sessions (s : State) : s.closeAll.sessions = [] :=
  (closeSessions_rest _ _).2.trans (serase_keys _)

theorem closeAll_boot (s : State) : s.closeAll.boot = s.boot := (closeSessions_rest _ _).1

/-- What a load of the instruction register leaves of TRST_N and the boundary register (R536). -/
def tapLoaded (s : State) (trst : Option Bool) (cells : List Bool) : State :=
  { s with boot := { s.boot with
      trstLow := trst.getD s.boot.trstLow,
      boundary := if (tapInstr s.boot.ir).selectsBoundary = true ∧ s.boot.trstLow = false ∧ cells ≠ [] then cells else s.boot.boundary } }

theorem exec_tapInstructionLoad (c : Option Nat) (trst : Option Bool) (cells : List Bool) :
    exec (.tapInstructionLoad c trst cells) s = .next
      (let u := tapLoaded s trst cells
       let ir := if trst.getD s.boot.trstLow then 2 else c.getD 2
       if holdInstr ir then
         let w := if s.boot.scanHold then u else u.closeAll
         { w with boot := { w.boot with ir := ir, scanHold := true } }
       else if s.boot.scanHold then
         let t := u.resetTo 1 u.imageNow
         { t with boot := { t.boot with ir := ir, scanHold := false, begun := s.boot.begun, rstLow := s.boot.rstLow } }
       else { u with boot := { u.boot with ir := ir } }) := by
  have hc : ((tapInstr s.boot.ir).selectsBoundary && !s.boot.trstLow && !cells.isEmpty) = true ↔
      (tapInstr s.boot.ir).selectsBoundary = true ∧ s.boot.trstLow = false ∧ cells ≠ [] := by
    simp [and_assoc]
  have he : exec (.tapInstructionLoad c trst cells) s = execTapInstructionLoad c s trst cells := rfl
  rw [he, execTapInstructionLoad]
  simp only [hc]
  rfl

theorem tapLoaded_imageNow (trst : Option Bool) (cells : List Bool) : (tapLoaded s trst cells).imageNow = s.imageNow := rfl

/-- What a reset leaves, whatever its cause (R48, R49). -/
theorem resetTo_leaves (s : State) (cause : Nat) (image : Option RunImage) :
    let t := s.resetTo cause image
    t.boot = { Boot.reset s.boot.fuses with
        rails := s.boot.rails, image := image, warm := image.isSome, ir := s.boot.ir, scanHold := s.boot.scanHold, drAddr := s.boot.drAddr,
        drData := s.boot.drData, trstLow := s.boot.trstLow, boundary := s.boot.boundary } ∧
      t.sessions = [] ∧ t.frames = [] ∧ t.cnt = [] ∧ t.jobs = [] ∧ t.rows = [] ∧ t.reps = [] ∧ t.flash = ⟨s.flash.cells, none, none⟩ ∧
      t.pending = s.pending ∧ t.out = s.out := by
  intro t
  simp only [t, State.resetTo]
  split <;> exact ⟨rfl, rfl, rfl, rfl, rfl, rfl, rfl, rfl, rfl, rfl⟩

/-- Settles O14: the window by `writeAddr_direct`, `registerWrite_staged` and the section on the unbound window, the test access port
by `exec_jtagRead` and `exec_tapInstructionLoad`. -/
theorem pathsReachRegisters : Obligations.PathsReachRegisters := by
  unfold Obligations.PathsReachRegisters
  refine ⟨fun s h r v he _ _ hp => ⟨registerWrite_staged he hp, fun hst h1 h2 hd => ?_⟩, fun s h a v t he hr => windowRead_expert he hr,
    fun s a v up live stw free hreq => ⟨fun r hd ho => ?_, fun r hd ho => ?_, fun hd => ⟨?_, ?_⟩, fun r hd hc => ?_⟩,
    fun s w a d hir => congrArg Host.Outcome.next (if_pos hir), fun s => ?_, fun s a d r hir h4 hl hd => ⟨fun hi => ?_, fun ho => ?_, fun hc => exec_jtagWrite hir hd hc d⟩,
    fun s c trst cells hs => ?_, fun s => ⟨fun hi => ?_, fun hi => ?_, fun hi => ?_⟩⟩
  · rw [exec_registerWrite_window, pathWrite_expert he, writeAddr_direct hp hst h1 h2, directWrite_passed hp hd]
    rfl
  · rw [windowRead_unbound up live stw free, anonRead_some hd, ho]
    rfl
  · rw [windowRead_unbound up live stw free, anonRead_some hd, ho]
    rfl
  · rw [windowRead_unbound up live stw free, anonRead_none hd]
  · rw [exec_registerWrite_window, pathWrite_unbound up live stw free, anonWrite_none hd, takeReset_of_none hreq]
  · rw [exec_registerWrite_window, pathWrite_unbound up live stw free, anonWrite_closed hd hc, takeReset_of_none hreq]
  · obtain ⟨h1, h2, h3, h4⟩ := idcode_fields s
    exact ⟨h1, h2, h3, h4, accessCapture_fields s⟩
  · refine ⟨_, exec_jtagRead hir h4 hl d, rfl, ?_, ?_⟩
    · rw [anonRead_some hd, identity_open hi]
      rfl
    · rw [anonRead_some hd, identity_open hi, if_pos rfl, readReg_identity hi]
  · refine ⟨_, exec_jtagRead hir h4 hl d, ?_, ?_⟩
    · rw [anonRead_some hd, ho]
      rfl
    · rw [anonRead_some hd, ho]
      rfl
  · intro low ir held
    have he := exec_tapInstructionLoad (s := s) c trst cells
    refine ⟨fun hsc hh => ?_, fun hsc hh => ?_, fun hsc hh => ?_⟩
    · refine ⟨_, he.trans (congrArg Host.Outcome.next (if_pos hh)), ?_⟩
      rw [if_neg (by simp [hsc])]
      refine ⟨closeAll_sessions _, rfl, rfl, ?_, fun p => by simp [State.portIsUp]⟩
      exact congrArg Boot.boundary (closeAll_boot _)
    · exact he.trans (congrArg Host.Outcome.next ((if_neg (by rw [hh]; simp)).trans (if_neg (by simp [hsc]))))
    · refine ⟨_, he.trans (congrArg Host.Outcome.next ((if_neg (by rw [hh]; simp)).trans (if_pos hsc))), ?_⟩
      obtain ⟨hb, hse, hf, hc, -, -, -, hfl, -, -⟩ := resetTo_leaves (tapLoaded s trst cells) 1 (tapLoaded s trst cells).imageNow
      refine ⟨rfl, (congrArg Boot.trstLow hb).trans rfl, rfl, (congrArg Boot.image hb).trans (tapLoaded_imageNow trst cells), hse, hf, hc,
        (congrArg Flash.cells hfl).trans rfl⟩
  · simp only [State.tapData, hi, tapInstr]
    rfl
  · simp only [State.tapData, hi, tapInstr]
    rfl
  · simp only [State.tapData, hi]

end Sys2Proof
end

section
/-! PROOF. Writes of the flash: an upload, and the end of a persist (R64, R86, R111 to R113). -/
namespace Sys2Proof

open Sys2Proof.Machine

set_option Elab.async false

variable {s : State} {v : Via} {src h : Nat} {ws : List Word} {x : Session}

/-! ## IMAGE_BEGIN -/

/-- The running image came from the bank, and the device has not ended in RECOVERY. -/
def isSource (s : State) (k : Nat) : Prop := ∃ i, s.boot.image = some i ∧ s.bootStep ≠ 0xB ∧ i.bank = k

/-- A write is under way, or another session's upload. -/
def flashBusy (s : State) (h : Nat) : Prop := s.flash.op ≠ none ∨ ∃ u, s.flash.upload = some u ∧ u.handle ≠ h

/-- The bank erased and an upload of it begun. -/
def uploadBegun (s : State) (h k : Nat) (r : Reply) : State :=
  { s.eraseBank k with flash := { (s.eraseBank k).flash with op := some (.erase k r), upload := some ⟨h, k, 0, [], []⟩ } }

open Classical in
theorem exec_imageBegin (ha : AskedBy s v 0x30 src ws h x) (hx : x.role ≠ 0) :
    exec (.imageBegin v) s = .next
      (let r := replyFor v src ws
       let k := (reqWord ws 0).toNat / 2 ^ 24
       if x.mayUpload = false then s.respond r Stat.role 0 []
       else if 1 < k ∨ isSource s k then s.respond r Stat.value 0 []
       else if flashBusy s h then s.respond r Stat.busy 0 []
       else uploadBegun s h k r) := by
  have hsource : ∀ k, (match s.boot.image with | some i => s.bootStep != 0xB && i.bank == k | none => false) = true ↔ isSource s k := by
    intro k
    cases hi : s.boot.image <;> simp [isSource, hi]
  have hbusy : (s.flash.op.isSome || match s.flash.upload with | some u => u.handle != h | none => false) = true ↔ flashBusy s h := by
    cases hu : s.flash.upload <;> simp [flashBusy, hu, Option.isSome_iff_ne_none]
  have he : exec (.imageBegin v) s = execImageBegin v s := rfl
  rw [he, execImageBegin, serveSession_asked ha (.inr hx)]
  refine congrArg Host.Outcome.next (if_congr (by rw [Bool.not_eq_true']) rfl ?_)
  exact if_congr (or_congr Iff.rfl (hsource _)) rfl (if_congr hbusy rfl rfl)

theorem eraseBank_cells (s : State) (k i : Nat) :
    sgetD (s.eraseBank k).flash.cells i 0xFF#8 = if i / 0x1000000 = k then 0xFF#8 else sgetD s.flash.cells i 0xFF#8 := by
  have hc : sgetD (s.eraseBank k).flash.cells i 0xFF#8 = (sfind (s.flash.cells.filter fun kv => (fun a => a / 0x1000000 != k) kv.1) i).getD 0xFF#8 := rfl
  rw [hc, sfind_filter (fun a => a / 0x1000000 != k)]
  by_cases hk : i / 0x1000000 = k
  · simp [hk]
  · simp [hk, sgetD]

theorem bankOff_div {k o : Nat} (ho : o < 0x1000000) : (bankOff k + o) / 0x1000000 = k := by
  unfold bankOff
  omega

/-! ## IMAGE_DATA -/

theorem uploadOf_some {u : Upload} (hu : s.uploadOf h = some u) : s.flash.upload = some u ∧ s.flash.op = none := by
  unfold State.uploadOf at hu
  split at hu
  · next w hw =>
    split at hu
    · next hc =>
      cases hu
      exact ⟨hw, by simpa using hc.2⟩
    · cases hu
  · cases hu

theorem exec_imageData (ha : AskedBy s v 0x31 src ws h x) (hx : x.role ≠ 0) :
    exec (.imageData v) s = .next
      (let r := replyFor v src ws
       let n := reqLength ws / 4 - 1
       match s.uploadOf h with
       | none => s.respond r Stat.state 0 []
       | some u =>
         if !x.mayUpload then s.respond r Stat.role 0 []
         else if (reqWord ws 0).toNat ≠ u.next ∨ 0x1000000 < u.next + 4 * n then s.respond r Stat.value 0 []
         else ((reqBytes ws 1 n).foldl State.uploadByte s).respond r Stat.ok 0 []) := by
  have he : exec (.imageData v) s = execImageData v s := rfl
  rw [he, execImageData, serveSession_asked ha (.inr hx)] <;> cases s.uploadOf h <;> rfl

/-- The state with another upload: what a byte that completes no page leaves. -/
def withUpload (s : State) (u : Upload) : State := { s with flash := { s.flash with upload := some u } }

theorem uploadByte_header {u : Upload} (hu : s.flash.upload = some u) (hn : u.next < 256) (b : Byte) :
    s.uploadByte b = withUpload s { u with next := u.next + 1, header := u.header ++ [b] } := by
  simp only [State.uploadByte, hu, hn, if_true]
  rfl

theorem uploadByte_page {u : Upload} (hu : s.flash.upload = some u) (hn : 256 ≤ u.next) (hp : u.next % 256 ≠ 255) (b : Byte) :
    s.uploadByte b = withUpload s { u with next := u.next + 1, page := u.page ++ [b] } := by
  simp only [State.uploadByte, hu, if_neg (Nat.not_lt.mpr hn), if_neg (show ¬ (u.next + 1) % 256 = 0 by omega)]
  rfl

theorem uploadByte_full {u : Upload} (hu : s.flash.upload = some u) (hn : 256 ≤ u.next) (hp : u.next % 256 = 255) (b : Byte) :
    s.uploadByte b = (withUpload s { u with next := u.next + 1, page := [] }).program (bankOff u.bank + (u.next + 1) - 256) (u.page ++ [b]) := by
  simp only [State.uploadByte, hu, if_neg (Nat.not_lt.mpr hn), if_pos (show (u.next + 1) % 256 = 0 by omega)]
  rfl

theorem withUpload_self {u : Upload} (hu : s.flash.upload = some u) : withUpload s u = s := by
  rw [withUpload, ← hu]

theorem uploadBytes_header (bs : List Byte) {s : State} {u : Upload} (hu : s.flash.upload = some u) (hn : u.next + bs.length ≤ 256) :
    bs.foldl State.uploadByte s = withUpload s { u with next := u.next + bs.length, header := u.header ++ bs } := by
  induction bs generalizing s u with
  | nil => simpa using (withUpload_self hu).symm
  | cons b bs ih =>
    rw [List.length_cons] at hn
    rw [List.foldl_cons, uploadByte_header hu (by omega), ih (u := { u with next := u.next + 1, header := u.header ++ [b] }) rfl (by show u.next + 1 + _ ≤ _; omega)]
    simp [withUpload, Nat.add_assoc, Nat.add_comm bs.length]

theorem uploadBytes_page (bs : List Byte) {s : State} {u : Upload} (hu : s.flash.upload = some u) (h256 : 256 ≤ u.next)
    (hn : u.next % 256 + bs.length < 256) :
    bs.foldl State.uploadByte s = withUpload s { u with next := u.next + bs.length, page := u.page ++ bs } := by
  induction bs generalizing s u with
  | nil => simpa using (withUpload_self hu).symm
  | cons b bs ih =>
    rw [List.length_cons] at hn
    rw [List.foldl_cons, uploadByte_page hu h256 (by omega),
      ih (u := { u with next := u.next + 1, page := u.page ++ [b] }) rfl (by show _ ≤ u.next + 1; omega) (by show (u.next + 1) % 256 + _ < _; omega)]
    simp [withUpload, Nat.add_assoc, Nat.add_comm bs.length]

theorem uploadBytes_full (bs : List Byte) {u : Upload} (hu : s.flash.upload = some u) (h256 : 256 ≤ u.next)
    (hn : u.next % 256 + bs.length = 256) (h0 : 0 < bs.length) :
    bs.foldl State.uploadByte s =
      (withUpload s { u with next := u.next + bs.length, page := [] }).program (bankOff u.bank + (u.next - u.next % 256)) (u.page ++ bs) := by
  obtain ⟨bs, b, rfl⟩ := List.eq_nil_or_concat' bs |>.resolve_left (List.ne_nil_of_length_pos h0)
  rw [List.length_append, List.length_singleton] at hn
  rw [List.foldl_append, uploadBytes_page bs hu h256 (by omega), List.foldl_cons, List.foldl_nil,
    uploadByte_full (u := { u with next := u.next + bs.length, page := u.page ++ bs }) rfl (by show 256 ≤ u.next + _; omega)
      (by show (u.next + bs.length) % 256 = 255; omega)]
  have hoff : bankOff u.bank + (u.next + bs.length + 1) - 256 = bankOff u.bank + (u.next - u.next % 256) := by omega
  simp only [withUpload, List.append_assoc, List.length_append, List.length_singleton, hoff]
  rfl

theorem uploadByte_rest (s : State) (b : Byte) : s.uploadByte b = { s with flash := (s.uploadByte b).flash } ∧ (s.uploadByte b).flash.op = s.flash.op := by
  unfold State.uploadByte
  split
  · exact ⟨rfl, rfl⟩
  · split
    · exact ⟨rfl, rfl⟩
    · dsimp only
      split <;> exact ⟨rfl, rfl⟩

/-- Data change the upload and the cells alone. -/
theorem uploadBytes_rest (bs : List Byte) (s : State) :
    bs.foldl State.uploadByte s = { s with flash := (bs.foldl State.uploadByte s).flash } ∧ (bs.foldl State.uploadByte s).flash.op = s.flash.op := by
  induction bs generalizing s with
  | nil => exact ⟨rfl, rfl⟩
  | cons b bs ih =>
    obtain ⟨h1, h2⟩ := ih (s.uploadByte b)
    obtain ⟨h3, h4⟩ := uploadByte_rest s b
    refine ⟨?_, h2.trans h4⟩
    rw [List.foldl_cons, h1, h3]

/-! ## IMAGE_END -/

theorem exec_imageEnd {u : Upload} (ha : AskedBy s v 0x32 src ws h x) (hx : x.role ≠ 0) (hm : x.mayUpload = true) (hu : s.uploadOf h = some u) :
    exec (.imageEnd v) s = .next
      (let r := replyFor v src ws
       let p := s.program (bankOff u.bank + u.next - u.page.length) u.page
       let t : State := { p with flash := { p.flash with upload := none } }
       if p.receivedResult u ≠ 0 then t.respond r Stat.imageInvalid (p.receivedResult u) []
       else match p.uploadSeq with
         | none => t.respond r Stat.seqExhausted 0 []
         | some (q, other) =>
           { t with flash := { t.flash with op := some (.header u.bank (sealHeader s.boot.fuses.imageKey (beAt u.header 0xD 1 == 1) q u.header
               (p.flashBytes (bankOff u.bank + 256) (beAt u.header 0x14 4))) other r) } }) := by
  have he : exec (.imageEnd v) s = execImageEnd v s := rfl
  rw [he, execImageEnd, serveSession_asked ha (.inr hx)]
  simp only [hu, hm, Bool.not_true, Bool.false_eq_true, if_false]
  congr 1

/-! ## The end of a persist -/

theorem noteBank_leaves (hs : StoresCanonical s) {k r : Nat} (hk : k < 2) :
    (r < 16 → (s.noteBank k r).fld (.STW_BANK_STATE k) F.STW_BANK_STATE_RESULT = r) ∧ StoresCanonical (s.noteBank k r) ∧
      Writes [.STW_BANK_STATE k, .STW_BANK_SEQ k] [] s (s.noteBank k r) := by
  have h1 := hs.setFld (.STW_BANK_STATE k) F.STW_BANK_STATE_RESULT r
  have hok : (Reg.STW_BANK_STATE k).indexOk = true := by simpa [Reg.indexOk] using hk
  have hok' : (Reg.STW_BANK_SEQ k).indexOk = true := by simpa [Reg.indexOk] using hk
  refine ⟨fun hr => ?_, (h1.setFld ..).put .., ((Writes.refl.setFld (by simp) _ _).setFld (by simp) _ _).put (by simp) _⟩
  have hput : ∀ (u : State) (w : Word), (u.put (.STW_BANK_SEQ k) w).fld (.STW_BANK_STATE k) F.STW_BANK_STATE_RESULT =
      u.fld (.STW_BANK_STATE k) F.STW_BANK_STATE_RESULT := fun u w => by
    rw [State.fld, State.get_put_ne _ _ _ _ (addr_ne hok' hok (by simp)), State.fld]
  exact (hput _ _).trans ((fld_setFld_beside h1.regs (by decide) (by decide)).trans (fld_setFld_lt hs.regs (by decide) (by simpa using hr)))

theorem chooseBank_leaves (hs : StoresCanonical s) {k : Nat} (hk : k < 2) :
    (s.chooseBank k).fld (.STW_BANK_STATE k) F.STW_BANK_STATE_CHOSEN = 1 ∧
      (s.chooseBank k).fld (.STW_BANK_STATE (1 - k)) F.STW_BANK_STATE_CHOSEN = 0 ∧
      (s.chooseBank k).fld (.STW_BANK_STATE k) F.STW_BANK_STATE_RESULT = s.fld (.STW_BANK_STATE k) F.STW_BANK_STATE_RESULT ∧
      StoresCanonical (s.chooseBank k) ∧ Writes [.STW_BANK_STATE k, .STW_BANK_STATE (1 - k), .STW_BOOT_STATUS] [] s (s.chooseBank k) := by
  have hok : ∀ j, j < 2 → (Reg.STW_BANK_STATE j).indexOk = true := fun j hj => by simpa [Reg.indexOk] using hj
  have hother : 1 - k < 2 := by omega
  have hne : Reg.STW_BANK_STATE (1 - k) ≠ .STW_BANK_STATE k := by simp; omega
  have h1 := hs.setFld (.STW_BANK_STATE k) F.STW_BANK_STATE_CHOSEN 1
  have h2 := h1.setFld (.STW_BANK_STATE (1 - k)) F.STW_BANK_STATE_CHOSEN 0
  have hlast : ∀ (u : State) (j : Nat) (f : Fld), j < 2 →
      (u.setFld .STW_BOOT_STATUS F.STW_BOOT_STATUS_BANK k).fld (.STW_BANK_STATE j) f = u.fld (.STW_BANK_STATE j) f :=
    fun u j f hj => fld_setFld_off rfl (hok j hj) (by simp)
  refine ⟨(hlast _ k _ hk).trans ((fld_setFld_off (hok _ hother) (hok _ hk) hne).trans (fld_setFld_lt hs.regs (by decide) (by decide))),
    (hlast _ _ _ hother).trans (fld_setFld_lt h1.regs (by decide) (by decide)),
    (hlast _ k _ hk).trans ((fld_setFld_off (hok _ hother) (hok _ hk) hne).trans (fld_setFld_beside hs.regs (by decide) (by decide))),
    h2.setFld .., ((Writes.refl.setFld (by simp) _ _).setFld (by simp) _ _).setFld (by simp) _ _⟩

/-- STATE, STATUS and the interrupt of a persist that ends. -/
def persistShown (s : State) (state status : Nat) : State :=
  ((s.setPersist F.STW_PERSIST_STATUS_STATE state).setPersist F.STW_PERSIST_STATUS_STATUS status).irqEvent 48

theorem persistShown_leaves (hs : StoresCanonical s) {state status : Nat} (h1 : state < 4) (h2 : status < 256) :
    let t := persistShown s state status
    t.fld .STW_PERSIST_STATUS F.STW_PERSIST_STATUS_STATE = state ∧ t.fld .STW_PERSIST_STATUS F.STW_PERSIST_STATUS_STATUS = status ∧
      t.fld .STW_PERSIST_STATUS F.STW_PERSIST_STATUS_AGAIN = s.fld .STW_PERSIST_STATUS F.STW_PERSIST_STATUS_AGAIN ∧
      t.flash = s.flash ∧ t.boot = s.boot ∧ (∀ j f, j < 2 → t.fld (.STW_BANK_STATE j) f = s.fld (.STW_BANK_STATE j) f) := by
  intro t
  have hv := hs.setFld .STW_PERSIST_STATUS F.STW_PERSIST_STATUS_STATE state
  have hsig := (Signals.signalProof (rs := []) (ids := [])
    (s := (s.setPersist F.STW_PERSIST_STATUS_STATE state).setPersist F.STW_PERSIST_STATUS_STATUS status)).irqEvent .refl (by decide : 48 < 128)
  have hfld : ∀ f, t.fld .STW_PERSIST_STATUS f = _ := fun f => hsig.fld (not_signalAddr rfl (by simp) (by simp) (by simp)) (by simp) f
  refine ⟨(hfld _).trans ((fld_setFld_beside hv.regs (by decide) (by decide)).trans (fld_setFld_lt hs.regs (by decide) h1)),
    (hfld _).trans (fld_setFld_lt hv.regs (by decide) h2),
    (hfld _).trans ((fld_setFld_beside hv.regs (by decide) (by decide)).trans (fld_setFld_beside hs.regs (by decide) (by decide))),
    (congrArg State.flash hsig.rest).trans rfl, (congrArg State.boot hsig.rest).trans rfl, fun j f hj => ?_⟩
  have hok : (Reg.STW_BANK_STATE j).indexOk = true := by simpa [Reg.indexOk] using hj
  exact (hsig.fld (not_signalAddr hok (by simp) (by simp) (by simp)) (by simp) f).trans
    ((fld_setFld_off rfl hok (by simp)).trans (fld_setFld_off rfl hok (by simp)))

/-- The running image's source moves to the bank (R111). -/
def sourceMoved (s : State) (k : Nat) (bytes : List Byte) (i : RunImage) : State :=
  { (s.noteBank k 1).chooseBank k with
    boot := { ((s.noteBank k 1).chooseBank k).boot with image := some { i with bank := k, seq := beAt bytes 0x10 4 } } }

theorem bankState_ne_persist {k : Nat} (hk : k < 2) :
    ∀ r ∈ [Reg.STW_BANK_STATE k, .STW_BANK_STATE (1 - k), .STW_BOOT_STATUS], Reg.STW_PERSIST_STATUS.addr ≠ r.addr := by
  intro r hr
  simp only [List.mem_cons, List.not_mem_nil, or_false] at hr
  have hother : (Reg.STW_BANK_STATE (1 - k)).indexOk = true := by simp [Reg.indexOk]
  rcases hr with rfl | rfl | rfl
  · exact addr_ne rfl (by simpa [Reg.indexOk] using hk) (by simp)
  · exact addr_ne rfl hother (by simp)
  · exact addr_ne rfl rfl (by simp)

theorem bankSeq_ne_persist {k : Nat} (hk : k < 2) : ∀ r ∈ [Reg.STW_BANK_STATE k, .STW_BANK_SEQ k], Reg.STW_PERSIST_STATUS.addr ≠ r.addr := by
  intro r hr
  simp only [List.mem_cons, List.not_mem_nil, or_false] at hr
  rcases hr with rfl | rfl <;> exact addr_ne rfl (by simpa [Reg.indexOk] using hk) (by simp)

/-- What a persist that is done leaves. -/
theorem sourceMoved_shown (hs : StoresCanonical s) {k : Nat} (hk : k < 2) (bytes : List Byte) (i : RunImage) :
    let t := persistShown (sourceMoved s k bytes i) 2 0
    t.fld .STW_PERSIST_STATUS F.STW_PERSIST_STATUS_STATE = 2 ∧ t.fld .STW_PERSIST_STATUS F.STW_PERSIST_STATUS_STATUS = 0 ∧
      t.fld .STW_PERSIST_STATUS F.STW_PERSIST_STATUS_AGAIN = s.fld .STW_PERSIST_STATUS F.STW_PERSIST_STATUS_AGAIN ∧
      t.flash = s.flash ∧ t.boot.image = some { i with bank := k, seq := beAt bytes 0x10 4 } ∧
      t.fld (.STW_BANK_STATE k) F.STW_BANK_STATE_RESULT = 1 ∧ t.fld (.STW_BANK_STATE k) F.STW_BANK_STATE_CHOSEN = 1 ∧
      t.fld (.STW_BANK_STATE (1 - k)) F.STW_BANK_STATE_CHOSEN = 0 := by
  obtain ⟨hr1, hc1, hw1⟩ := noteBank_leaves (r := 1) hs hk
  obtain ⟨hch, hno, hr2, hc2, hw2⟩ := chooseBank_leaves hc1 hk
  unfold sourceMoved
  have hag0 := (hw2.fld (bankState_ne_persist hk) F.STW_PERSIST_STATUS_AGAIN).trans (hw1.fld (bankSeq_ne_persist hk) _)
  have hfl0 : ((s.noteBank k 1).chooseBank k).flash = s.flash := by rw [hw2.rest, hw1.rest]
  generalize (s.noteBank k 1).chooseBank k = w at *
  obtain ⟨hsta, hstu, hag, hfl, hbo, hbk⟩ := persistShown_leaves
    (s := { w with boot := { w.boot with image := some { i with bank := k, seq := beAt bytes 0x10 4 } } })
    ⟨hc2.regs, hc2.st0, hc2.st1, hc2.cnt, hc2.frames, hc2.reps, hc2.sessions⟩ (show 2 < 4 by decide) (show 0 < 256 by decide)
  exact ⟨hsta, hstu, hag.trans hag0, hfl.trans hfl0, congrArg Boot.image hbo, (hbk _ _ hk).trans (hr2.trans (hr1 (by decide))),
    (hbk _ _ hk).trans hch, (hbk _ _ (by omega)).trans hno⟩

theorem persistEnd_done {k : Nat} {bytes : List Byte} {i : RunImage} (hi : s.boot.image = some i) (hr : (s.program (bankOff k) bytes).bankResult k = 0) :
    s.persistEnd k bytes [] false = persistShown (sourceMoved (s.program (bankOff k) bytes) k bytes i) 2 0 := by
  have hb : (((s.program (bankOff k) bytes).noteBank k 1).chooseBank k).boot.image = some i := hi
  simp only [State.persistEnd, Bool.false_eq_true, if_false, State.spoil, List.foldl_nil, hr, bne_self_eq_false, Bool.or_self, hb]
  rfl

theorem persistEnd_error (k : Nat) (bytes : List Byte) :
    s.persistEnd k bytes [] true = persistShown (s.noteBank k (if s.bankResult k = 0 then 2 else s.bankResult k)) 3 Stat.flashError := by
  simp only [State.persistEnd, if_true, Bool.true_or]
  rfl

/-- Settles O21: `exec_imageBegin` and `eraseBank_cells`, the three ways bytes are taken in (`uploadBytes_header`, `uploadBytes_page`,
`uploadBytes_full`), `exec_imageEnd`, and `persistEnd_done` and `persistEnd_error`. -/
theorem flashWrites : Obligations.FlashWrites := by
  unfold Obligations.FlashWrites
  refine ⟨fun s v src h ws x ha hx => ?_, fun s k r hst hop => ?_, fun s v src h ws x ha hx => ?_, fun s v src h ws x u ha hx hm hu => ?_,
    fun s k bytes i hs hst hk hop hi hagain => ?_⟩
  · intro r k source busy
    have he := exec_imageBegin ha hx
    refine ⟨fun hm => he.trans (congrArg Host.Outcome.next (if_pos hm)), fun hm hv => ?_, fun hm hk hn hb => ?_, fun hm hk hn hb => ?_⟩
    · exact he.trans (congrArg Host.Outcome.next ((if_neg (by simp [hm])).trans (if_pos hv)))
    · have hn' : ¬ (1 < k ∨ isSource s k) := fun h => h.elim (by omega) hn
      exact he.trans (congrArg Host.Outcome.next ((if_neg (by simp [hm])).trans ((if_neg hn').trans (if_pos hb))))
    · have hn' : ¬ (1 < k ∨ isSource s k) := fun h => h.elim (by omega) hn
      refine ⟨_, he.trans (congrArg Host.Outcome.next ((if_neg (by simp [hm])).trans ((if_neg hn').trans (if_neg hb)))), rfl, rfl, rfl,
        fun o ho => ?_, fun _ o ho => ?_⟩
      · exact (eraseBank_cells s k _).trans (if_pos (bankOff_div ho))
      · exact (eraseBank_cells s k _).trans (if_neg (by rw [bankOff_div ho]; omega))
  · have he : ∀ b, exec (.bankEraseDone b) s = execBankEraseDone b s := fun _ => rfl
    rw [he, he, execBankEraseDone, execBankEraseDone, hst, hop]
    exact ⟨rfl, rfl⟩
  · intro r n bytes
    have he := exec_imageData ha hx
    refine ⟨fun hu => ?_, fun hu hm => ?_, fun u hu hm hv => ?_, fun u hu hm hoff hlen hn => ?_⟩
    · rw [he, hu]
    · obtain ⟨u, hu⟩ := Option.ne_none_iff_exists'.mp hu
      rw [he, hu]
      exact congrArg Host.Outcome.next (if_pos (by simp [hm]))
    · rw [he, hu]
      exact congrArg Host.Outcome.next ((if_neg (by simp [hm])).trans (if_pos hv))
    · rw [he, hu]
      obtain ⟨hup, hop⟩ := uploadOf_some hu
      refine ⟨bytes.foldl State.uploadByte s, congrArg Host.Outcome.next ((if_neg (by simp [hm])).trans (if_neg (by omega))), ?_⟩
      have hrest := uploadBytes_rest bytes s
      refine ⟨hrest.1, hrest.2.trans hop, fun hl => ?_, fun h256 hpl hl => ?_, fun h256 hpl hl h0 => ?_⟩
      · rw [uploadBytes_header bytes hup (by omega), hn]
        exact ⟨rfl, rfl⟩
      · rw [uploadBytes_page bytes hup h256 (by omega), hn]
        exact ⟨rfl, rfl⟩
      · rw [uploadBytes_full bytes hup h256 (by omega) (by omega), hn]
        exact ⟨rfl, rfl⟩
  · intro r p t
    have he := exec_imageEnd ha hx hm hu
    refine ⟨fun hr => he.trans (congrArg Host.Outcome.next (if_pos hr)), fun hr hq => ?_, fun q other hr hq => ⟨_, ?_, rfl⟩⟩
    · rw [he]
      refine congrArg Host.Outcome.next ((if_neg (fun h => h hr)).trans ?_)
      rw [show State.uploadSeq _ = none from hq] <;> rfl
    · rw [he]
      refine congrArg Host.Outcome.next ((if_neg (fun h => h hr)).trans ?_)
      rw [show State.uploadSeq _ = some (q, other) from hq] <;> rfl
  · generalize hv : ({ s with flash := { s.flash with op := none } } : State) = v
    have hvs : StoresCanonical v := hv ▸ ⟨hs.regs, hs.st0, hs.st1, hs.cnt, hs.frames, hs.reps, hs.sessions⟩
    have hvi : v.boot.image = some i := by rw [← hv]; exact hi
    have hva : v.fld .STW_PERSIST_STATUS F.STW_PERSIST_STATUS_AGAIN = 0 := by rw [← hv]; exact hagain
    have he : ∀ b, (v.persistEnd k bytes [] b).fld .STW_PERSIST_STATUS F.STW_PERSIST_STATUS_AGAIN = 0 →
        exec (.flashWriteDone [] b) s = .next (v.persistEnd k bytes [] b) := fun b ha => by
      have he : exec (.flashWriteDone [] b) s = execFlashWriteDone [] b s := rfl
      rw [he, execFlashWriteDone, hst, hop]
      dsimp only
      rw [hv]
      exact congrArg Host.Outcome.next (if_neg (show ¬ (v.persistEnd k bytes [] b).fld .STW_PERSIST_STATUS F.STW_PERSIST_STATUS_AGAIN = 1 by
        rw [ha]
        decide))
    refine ⟨fun hr => ?_, ?_⟩
    · have hr' : (v.program (bankOff k) bytes).bankResult k = 0 := by rw [← hv]; exact hr
      have hps : StoresCanonical (v.program (bankOff k) bytes) := ⟨hvs.regs, hvs.st0, hvs.st1, hvs.cnt, hvs.frames, hvs.reps, hvs.sessions⟩
      have hpa : (v.program (bankOff k) bytes).fld .STW_PERSIST_STATUS F.STW_PERSIST_STATUS_AGAIN = 0 := hva
      have hpo : (v.program (bankOff k) bytes).flash.op = none := by rw [← hv]; rfl
      have hpc : (v.program (bankOff k) bytes).flash.cells = (s.program (bankOff k) bytes).flash.cells := by rw [← hv]; rfl
      have hend := persistEnd_done hvi hr'
      generalize v.program (bankOff k) bytes = p at *
      obtain ⟨hsta, hstu, hag, hfl, hbo, hres, hch, hno⟩ := sourceMoved_shown hps hk bytes i
      rw [← hend] at hsta hstu hag hfl hbo hres hch hno
      exact ⟨_, he false (hag.trans hpa), hsta, hstu, by rw [hfl, hpo], hbo, hres, hch, hno, by rw [hfl, hpc]⟩
    · obtain ⟨-, hc1, hw1⟩ := noteBank_leaves (r := if v.bankResult k = 0 then 2 else v.bankResult k) hvs hk
      obtain ⟨hsta, hstu, hag, hfl, hbo, -⟩ := persistShown_leaves hc1 (show 3 < 4 by decide) (show Stat.flashError < 256 by decide)
      rw [← persistEnd_error k bytes] at hsta hstu hag hfl hbo
      refine ⟨_, he true (hag.trans ((hw1.fld (bankSeq_ne_persist hk) _).trans hva)), hsta, hstu, ?_, ?_, ?_⟩
      · rw [hfl, hw1.rest, ← hv]
      · rw [hbo, hw1.rest, hvi]
      · rw [hfl, hw1.rest, ← hv]

end Sys2Proof
end

section
/-! PROOF. Requests of the service port arrive and are answered; a channel's response (R88, R94, R455 to R458). -/
namespace Sys2Proof

open Sys2Proof.Machine

set_option Elab.async false

variable {s : State} {src : Nat} {ws : List Word}

/-! ## A frame of the service port (R455, R456) -/

/-- The service port operates, and a steward may look at what it brings. -/
def svcServed (s : State) : Prop := s.svcOn = true ∧ s.stepTwoDone = true ∧ s.halted = false

theorem exec_svcFrameRx_off {bytes : List Byte} (h : ¬ svcServed s) : exec (.svcFrameRx bytes) s = .next s := by
  refine congrArg Host.Outcome.next (if_pos ?_)
  by_cases h1 : s.svcOn = true <;> by_cases h2 : s.stepTwoDone = true <;> simp_all [svcServed]

theorem exec_svcFrameRx_on {bytes : List Byte} (h : svcServed s) :
    exec (.svcFrameRx bytes) s = .next (match s.svcMessage bytes with
      | none => s.count C.svcRxDrops
      | some (src, ws) =>
        if 16 ≤ s.mbx.queue.length then s.count C.svcRxDrops
        else
          let t : State := { s with mbx := { s.mbx with queue := s.mbx.queue ++ [(src, ws)] } }
          if s.stewardLost then t.answerQueue 16 else if s.mbx.queue.isEmpty then t.svcDrain 16 else t) := by
  obtain ⟨h1, h2, h3⟩ := h
  refine congrArg Host.Outcome.next ((if_neg (by simp [h1, h2, h3])).trans ?_)
  cases s.svcMessage bytes <;> rfl

/-- The message waits last. -/
def waiting (s : State) (src : Nat) (ws : List Word) : State := { s with mbx := { s.mbx with queue := s.mbx.queue ++ [(src, ws)] } }

theorem exec_svcFrameRx_message {bytes : List Byte} (h : svcServed s) (hm : s.svcMessage bytes = some (src, ws)) :
    exec (.svcFrameRx bytes) s = .next (if 16 ≤ s.mbx.queue.length then s.count C.svcRxDrops
      else if s.stewardLost then (waiting s src ws).answerQueue 16
      else if s.mbx.queue.isEmpty then (waiting s src ws).svcDrain 16 else waiting s src ws) := by
  rw [exec_svcFrameRx_on h, hm]
  rfl

theorem svcMessage_some {bytes : List Byte} (h : s.svcMessage bytes = some (src, ws)) :
    fcsGood bytes = true ∧ beAt bytes 12 2 = 0x88B5 ∧ beAt bytes 14 2 = 1 ∧ (beAt bytes 0 6 = s.macBase ∨ beAt bytes 0 6 = 2 ^ 48 - 1) ∧
      src = beAt bytes 6 6 := by
  unfold State.svcMessage at h
  extract_lets dst len at h
  split at h
  · cases h
  · next hc =>
    obtain ⟨rfl, -⟩ := Prod.mk.inj (Option.some.inj h)
    simp only [Bool.not_eq_true', not_or, Bool.not_eq_false, not_and, ne_eq, not_not] at hc
    obtain ⟨h1, h2, h3, h4, -⟩ := hc
    exact ⟨h1, h3, h4, Classical.or_iff_not_imp_left.mpr h2, rfl⟩

/-! ## The queue of the service port (R88, R457, R458) -/

theorem svcDrain_held (h : s.stewardHeld = true) (n : Nat) : s.svcDrain n = s := by
  cases n with
  | zero => rfl
  | succ n => exact if_pos h

theorem svcDrain_empty (h : s.mbx.queue = []) (n : Nat) : s.svcDrain n = s := by
  cases n with
  | zero => rfl
  | succ n =>
    rw [State.svcDrain, h]
    split <;> rfl

theorem answerQueue_empty (h : s.mbx.queue = []) (n : Nat) : s.answerQueue n = s := by
  cases n with
  | zero => rfl
  | succ n => rw [State.answerQueue, h]

theorem svcSend_rest (s : State) (src : Nat) (ws : List Word) : s.svcSend src ws = { s with out := (s.svcSend src ws).out } := by
  unfold State.svcSend
  split <;> rfl

/-- With one request waiting, a retry has its response sent again. -/
theorem svcDrain_retry {r : List Word} (hh : s.stewardHeld = false) (hq : s.mbx.queue = [(src, ws)]) (hk : s.svcKept src ws = some r) (n : Nat) :
    s.svcDrain (n + 1) = (({ s with mbx := { s.mbx with queue := [] } }).count C.svcReplays).svcSend src r := by
  rw [State.svcDrain, if_neg (by simp [hh]), hq]
  dsimp only
  rw [hk]
  dsimp only
  refine svcDrain_empty ?_ n
  rw [svcSend_rest]
  rfl

theorem svcDrain_listed (hh : s.stewardHeld = false) (hq : s.mbx.queue = [(src, ws)]) (hk : s.svcKept src ws = none)
    (hl : cmdListed (reqCommand ws) = true) (n : Nat) : s.svcDrain (n + 1) = s := by
  rw [State.svcDrain, if_neg (by simp [hh]), hq]
  dsimp only
  rw [hk]
  exact if_pos hl

/-! ## A response of the service port -/

/-- The response kept for a retry, by the session it names (R458). -/
def sessionKeeps (s : State) (src : Nat) (h t : Word) (msg : List Word) : State :=
  match s.session h.toNat with
  | some x => if x.chan = none ∧ x.src = src then { s with sessions := sinsert s.sessions h.toNat { x with kept := some (t, msg) } } else s
  | none => s

/-- The request leaves the queue, and an OPEN's response is kept by source and TAG. -/
def requestDone (s : State) (src : Nat) (t : Word) (msg : List Word) : State :=
  let u : State := { s with mbx := { s.mbx with queue := s.mbx.queue.drop 1 } }
  if (match s.mbx.queue with | x :: _ => reqCommand x.2 == 1 | [] => false) then u.keepOpen src t msg else u

theorem svcAnswer_eq (h t : Word) (msg : List Word) :
    s.svcAnswer src h t msg = (sessionKeeps (requestDone s src t msg) src h t msg).svcSend src msg := rfl

theorem sessionKeeps_rest (h t : Word) (msg : List Word) :
    sessionKeeps s src h t msg = { s with sessions := (sessionKeeps s src h t msg).sessions } := by
  unfold sessionKeeps
  split
  · split <;> rfl
  · rfl

theorem sessionKeeps_own {h t : Word} {msg : List Word} {x : Session} (hx : s.session h.toNat = some x) (hc : x.chan = none) (hs : x.src = src) :
    (sessionKeeps s src h t msg).session h.toNat = some { x with kept := some (t, msg) } := by
  unfold sessionKeeps
  rw [hx]
  dsimp only
  rw [if_pos ⟨hc, hs⟩]
  exact sfind_sinsert_self _ _ _

theorem sessionKeeps_ne {h t : Word} {msg : List Word} {k : Nat} (hk : k ≠ h.toNat) : (sessionKeeps s src h t msg).session k = s.session k := by
  unfold sessionKeeps
  split
  · split
    · exact sfind_sinsert_ne _ _ _ _ (Ne.symm hk)
    · rfl
  · rfl

theorem requestDone_one (hq : s.mbx.queue = [(src, ws)]) (t : Word) (msg : List Word) :
    requestDone s src t msg =
      if reqCommand ws = 1 then State.keepOpen { s with mbx := { s.mbx with queue := [] } } src t msg
      else { s with mbx := { s.mbx with queue := [] } } := by
  simp only [requestDone, hq, List.drop_succ_cons, List.drop_nil, beq_iff_eq]

theorem requestDone_rest (hq : s.mbx.queue = [(src, ws)]) (t : Word) (msg : List Word) :
    requestDone s src t msg = { s with mbx := { s.mbx with queue := [], kept := (requestDone s src t msg).mbx.kept } } := by
  rw [requestDone_one hq]
  split <;> rfl

theorem requestDone_kept (hq : s.mbx.queue = [(src, ws)]) (t : Word) (msg : List Word) :
    (reqCommand ws = 1 → (src, t, s.tim.tick, msg) ∈ (requestDone s src t msg).mbx.kept ∧
      ∀ k ∈ (requestDone s src t msg).mbx.kept, k = (src, t, s.tim.tick, msg) ∨ k ∈ s.mbx.kept) ∧
    (reqCommand ws ≠ 1 → (requestDone s src t msg).mbx.kept = s.mbx.kept) := by
  rw [requestDone_one hq]
  refine ⟨fun h => ?_, fun h => by rw [if_neg h]⟩
  rw [if_pos h]
  simp only [State.keepOpen, List.mem_append, List.mem_singleton, List.mem_filter]
  exact ⟨.inr trivial, fun k hk => hk.elim (fun h => .inr h.1) .inl⟩

/-- The only request that waits is answered, and no other comes up. -/
theorem respond_svc_one {h t : Word} {st d : Nat} {payload : List Word} (hq : s.mbx.queue = [(src, ws)]) :
    s.respond (.svc src h t) st d payload = s.svcAnswer src h t (response st d h t payload) := by
  refine svcDrain_empty ?_ 16
  rw [svcAnswer_eq, svcSend_rest, sessionKeeps_rest, requestDone_rest hq]

/-! ## A response on a channel (R94) -/

/-- The first `n` words of the response put in RSP. -/
def putRsp (s : State) (c : Nat) (ws : List Word) (n : Nat) : State :=
  (List.range n).foldl (fun (s : State) i => s.put (.HST_MBX_RSP c i) (ws.getD i 0)) s

theorem putRsp_succ (c : Nat) (ws : List Word) (n : Nat) : putRsp s c ws (n + 1) = (putRsp s c ws n).put (.HST_MBX_RSP c n) (ws.getD n 0) := by
  rw [putRsp, List.range_succ, List.foldl_append]
  rfl

theorem rsp_indexOk {c i : Nat} (hc : c < 8) (hi : i < 64) : (Reg.HST_MBX_RSP c i).indexOk = true := by
  simp [Reg.indexOk, hc, hi]

theorem doorbell_indexOk {c : Nat} (hc : c < 8) : (Reg.HST_MBX_DOORBELL c).indexOk = true := by simpa [Reg.indexOk] using hc

theorem putRsp_canonical (hs : StoresCanonical s) (c : Nat) (ws : List Word) (n : Nat) : StoresCanonical (putRsp s c ws n) :=
  foldl_keeps _ _ hs fun _ _ _ h => h.put ..

theorem putRsp_get (hs : StoresCanonical s) {c i n : Nat} (hc : c < 8) (hn : n ≤ 64) (ws : List Word) (hi : i < n) :
    (putRsp s c ws n).get (.HST_MBX_RSP c i) = ws.getD i 0 := by
  induction n with
  | zero => omega
  | succ n ih =>
    rw [putRsp_succ]
    by_cases hin : i = n
    · rw [hin, State.get_put_self _ _ _ (putRsp_canonical hs c ws n).regs]
    · rw [State.get_put_ne _ _ _ _ (addr_ne (rsp_indexOk hc (by omega)) (rsp_indexOk hc (by omega)) (by simp; omega))]
      exact ih (by omega) (by omega)

theorem putRsp_signals (s : State) (c : Nat) (ws : List Word) (n : Nat) {rs : List Reg} (hr : ∀ i, i < n → .HST_MBX_RSP c i ∈ rs) :
    Signals rs [] s (putRsp s c ws n) := by
  refine foldl_keeps _ _ .refl fun v i hi h => h.put (.inr ?_) _
  exact hr i (List.mem_range.mp hi)

/-- GO is 0 and DONE is 1 on a channel. -/
def doorbellDone (s : State) (c : Nat) : State :=
  (s.setFld (.HST_MBX_DOORBELL c) F.HST_MBX_DOORBELL_GO 0).setFld (.HST_MBX_DOORBELL c) F.HST_MBX_DOORBELL_DONE 1

theorem respond_mbx (c st d : Nat) (payload : List Word) :
    s.respond (.mbx c) st d payload =
      (doorbellDone (putRsp s c (response st d (s.get (.HST_MBX_REQ c 1)) (s.get (.HST_MBX_REQ c 2)) payload) (3 + payload.length)) c).irqRise
        (32 + c) (s.irqCond (32 + c)) := by
  have hlen : (response st d (s.get (.HST_MBX_REQ c 1)) (s.get (.HST_MBX_REQ c 2)) payload).length = 3 + payload.length := by
    simp [response]
    omega
  rw [← hlen]
  rfl

theorem respond_mbx_leaves (hs : StoresCanonical s) {c st d : Nat} {payload : List Word} (hc : c < 8) (hp : payload.length ≤ 61) :
    let t := s.respond (.mbx c) st d payload
    let ws := response st d (s.get (.HST_MBX_REQ c 1)) (s.get (.HST_MBX_REQ c 2)) payload
    (∀ i, i < 3 + payload.length → t.get (.HST_MBX_RSP c i) = ws.getD i 0) ∧
      t.fld (.HST_MBX_DOORBELL c) F.HST_MBX_DOORBELL_GO = 0 ∧ t.fld (.HST_MBX_DOORBELL c) F.HST_MBX_DOORBELL_DONE = 1 ∧
      Signals (.HST_MBX_DOORBELL c :: (List.range (3 + payload.length)).map (Reg.HST_MBX_RSP c)) [] s t ∧ t.cnt = s.cnt := by
  intro t ws
  have ht : t = (doorbellDone (putRsp s c ws (3 + payload.length)) c).irqRise (32 + c) (s.irqCond (32 + c)) := respond_mbx ..
  rw [ht]
  have hw := putRsp_canonical hs c ws (3 + payload.length)
  have hget := fun i hi => putRsp_get hs hc (show 3 + payload.length ≤ 64 by omega) ws (i := i) hi
  have hsig0 := putRsp_signals s c ws (3 + payload.length)
    (rs := .HST_MBX_DOORBELL c :: (List.range (3 + payload.length)).map (Reg.HST_MBX_RSP c))
    fun i hi => List.mem_cons_of_mem _ (List.mem_map_of_mem (List.mem_range.mpr hi))
  have hcnt0 : (putRsp s c ws (3 + payload.length)).cnt = s.cnt :=
    foldl_keeps (P := fun v : State => v.cnt = s.cnt) _ _ rfl fun _ _ _ h => h
  generalize putRsp s c ws (3 + payload.length) = w at *
  have hdc : (doorbellDone w c).regsOk := ((hw.setFld ..).setFld ..).regs
  have hsig := (Signals.signalProof (rs := []) (ids := []) (s := doorbellDone w c)).irqRise .refl (show 32 + c < 128 by omega) (s.irqCond (32 + c))
  have hchg := irqRise_changes (doorbellDone w c) (show 32 + c < 128 by omega) (s.irqCond (32 + c))
  have hdb := doorbell_indexOk hc
  have hfld := fun f => hsig.fld (not_signalAddr hdb (by simp) (by simp) (by simp)) (by simp) f
  refine ⟨fun i hi => ?_, (hfld _).trans ?_, (hfld _).trans ?_, ?_, hchg.cnt.trans hcnt0⟩
  · have hr := rsp_indexOk hc (show i < 64 by omega)
    rw [(hsig.regs _ (not_signalAddr hr (by simp) (by simp) (by simp)) (by simp)).1, doorbellDone, get_setFld_off hdb hr (by simp),
      get_setFld_off hdb hr (by simp), hget i hi]
  · exact (fld_setFld_beside (hw.setFld ..).regs (by decide) (by decide)).trans (fld_setFld_lt hw.regs (by decide) (by decide))
  · exact fld_setFld_lt (hw.setFld ..).regs (by decide) (by decide)
  · exact Signals.signalProof.irqRise ((hsig0.setFld (by simp) _ _).setFld (by simp) _ _) (show 32 + c < 128 by omega) _

/-- Settles O22: frames by `exec_svcFrameRx_message` and the rules of `State.svcDrain`, a channel's response by `respond_mbx_leaves`, the
service port's by `respond_svc_one`. -/
theorem requestsTravel : Obligations.RequestsTravel := by
  unfold Obligations.RequestsTravel
  refine ⟨fun s bytes => ⟨exec_svcFrameRx_off, fun hon hm => ?_, fun src ws hon hm => ?_, fun src ws hm => svcMessage_some hm⟩,
    fun s c st d payload hs hc hp hst => ?_, fun s src st d h tag ws payload hs hq => ?_⟩
  · rw [exec_svcFrameRx_on hon, hm]
  · intro waits
    have he := exec_svcFrameRx_message hon hm
    refine ⟨fun hfull => he.trans (congrArg Host.Outcome.next (if_pos hfull)), fun hl hne hroom => ?_, fun hempty => ?_⟩
    · refine he.trans (congrArg Host.Outcome.next ((if_neg (by omega)).trans ((if_neg (by simp [hl])).trans (if_neg ?_))))
      simpa using hne
    · have hroom : ¬ 16 ≤ s.mbx.queue.length := by simp [hempty]
      have hwq : (waiting s src ws).mbx.queue = [(src, ws)] := by simp [waiting, hempty]
      have hback : ({ waiting s src ws with mbx := { (waiting s src ws).mbx with queue := [] } } : State) = s := by
        rw [← hempty]
        rfl
      have hdrain : s.stewardLost = false → exec (.svcFrameRx bytes) s = .next ((waiting s src ws).svcDrain 16) := fun hl =>
        he.trans (congrArg Host.Outcome.next ((if_neg hroom).trans ((if_neg (by simp [hl])).trans (if_pos (by simp [hempty])))))
      have hlost : s.stewardHeld = false → s.stewardLost = false := fun h => (Bool.or_eq_false_iff.mp h).1
      refine ⟨fun hl => ?_, fun hl hh => ?_, fun r hh hk => ?_, fun hh hk hc => ?_⟩
      · rw [he, if_neg hroom, if_pos hl, State.answerQueue, hwq]
        dsimp only
        rw [answerQueue_empty]
        · rfl
        · rw [respond_svc_one hwq, svcAnswer_eq, svcSend_rest, sessionKeeps_rest, requestDone_rest hwq]
      · rw [hdrain hl, svcDrain_held (s := waiting s src ws) hh]
        rfl
      · rw [hdrain (hlost hh), svcDrain_retry (s := waiting s src ws) hh hwq hk, hback]
      · rw [hdrain (hlost hh), svcDrain_listed (s := waiting s src ws) hh hwq hk hc]
        rfl
  · intro t
    obtain ⟨hget, hgo, hdone, hsig, hcnt⟩ := respond_mbx_leaves (st := st) (d := d) hs hc hp
    refine ⟨hget 0 (by omega), hget 1 (by omega), hget 2 (by omega), fun i w hi => ?_, hgo, hdone, hsig, hcnt⟩
    obtain ⟨hlt, rfl⟩ := List.getElem?_eq_some_iff.mp hi
    refine (hget (3 + i) (by omega)).trans ?_
    simp [response, List.getD_eq_getElem?_getD, Nat.add_comm 3 i, hlt]
  · intro t msg
    have ht : t = (sessionKeeps (requestDone s src tag msg) src h tag msg).svcSend src msg := respond_svc_one hq
    have hr := requestDone_rest hq tag msg
    have hk := requestDone_kept hq tag msg
    have hse : ∀ k, (requestDone s src tag msg).session k = s.session k := fun k => by rw [hr]; rfl
    have hw := sessionKeeps_rest (s := requestDone s src tag msg) (src := src) tag msg (h := h)
    have hown := fun x => sessionKeeps_own (s := requestDone s src tag msg) (src := src) (h := h) (t := tag) (msg := msg) (x := x)
    have hne := fun k => sessionKeeps_ne (s := requestDone s src tag msg) (src := src) (h := h) (t := tag) (msg := msg) (k := k)
    rw [ht]
    generalize sessionKeeps (requestDone s src tag msg) src h tag msg = w at *
    generalize requestDone s src tag msg = u at *
    have hsend := svcSend_rest w src msg
    have hon : w.svcOn = s.svcOn := by rw [hw, hr]; rfl
    have hmac : w.macBase = s.macBase := by rw [hw, hr]; rfl
    have hwout : w.out = s.out := by rw [hw, hr]
    have hout : (w.svcSend src msg).out = if s.svcOn = true then Output.service (svcFrame src s.macBase msg) :: s.out else s.out := by
      unfold State.svcSend
      rw [hon, hmac]
      split
      · rw [State.emit_out, hwout]
      · exact hwout
    have hkept : (w.svcSend src msg).mbx.kept = u.mbx.kept := by rw [hsend, hw]
    have hsess : ∀ k, (w.svcSend src msg).session k = w.session k := fun k => by rw [hsend]; rfl
    refine ⟨by rw [hsend, hw, hr], hout, fun x hx hc hsrc => (hsess _).trans (hown x ((hse _).trans hx) hc hsrc),
      fun k hkn => (hsess k).trans ((hne k hkn).trans (hse k)), fun h1 => ?_, fun h1 => hkept.trans (hk.2 h1), ?_⟩
    · rw [hkept]
      exact hk.1 h1
    · rw [hkept, hsend, hw, hr]

end Sys2Proof
end

section
/-! PROOF. What the handling of frames, queues and ports leaves as it was (R105, R183, R188 to R190, R299, R311). A property that
each elementary change keeps is kept by every operation (`PathProof`, `QueueProof`, `PortProof`); `Flows` is one such property. -/
namespace Sys2Proof

open Sys2Proof.Machine

set_option Elab.async false

variable {s u v w : State} {P : State → Prop}

/-! ## What each layer writes -/

/-- Registers that the freeing of a frame may write: XOFF of a port, and the end of the epoch. -/
def pathReg : Reg → Prop
  | .PRT_PFC_STATUS p => p < 1024
  | .STW_EPOCH_STATUS => True
  | _ => False

/-- Counters that the freeing of a frame may advance. -/
def pathCnt (id : Nat) : Prop := id = C.ladderYield 2 ∨ id = C.ladderYield 6 ∨ ∃ r < 32, id = C.txFrames r

/-- Counters that the emptying of queues may advance. -/
def queueCnt (id : Nat) : Prop := pathCnt id ∨ ∃ p < 1024, id = C.prtTxStomped p ∨ id = C.flushed p ∨ id = C.stale p

/-- Registers that a port's transition may write. -/
def portReg : Reg → Prop
  | .PRT_PORT_STATUS p => p < 1024
  | r => pathReg r

/-- Counters that a port's transition may advance. -/
def portCnt (id : Nat) : Prop := queueCnt id ∨ ∃ p < 1024, id = C.portDown p

theorem pathReg_indexOk {r : Reg} (h : pathReg r) : r.indexOk = true := by
  cases r with
  | PRT_PFC_STATUS p => exact decide_eq_true h
  | STW_EPOCH_STATUS => rfl
  | _ => exact h.elim

theorem portReg_of_pathReg {r : Reg} (h : pathReg r) : portReg r := by
  cases r with
  | PRT_PORT_STATUS p => exact h.elim
  | _ => exact h

theorem portReg_indexOk {r : Reg} (h : portReg r) : r.indexOk = true := by
  cases r with
  | PRT_PORT_STATUS p => exact decide_eq_true h
  | _ => exact pathReg_indexOk h

/-! ## The freeing of a frame -/

/-- A property that the freeing of frames does not disturb. -/
structure PathProof (P : State → Prop) : Prop where
  canon : ∀ {u}, P u → StoresCanonical u
  range : ∀ {u}, P u → FramesInRange u
  due : ∀ {u} p i b, P u → P (u.pauseDue p (2 ^ i) b)
  xoff : ∀ {u p} v, p < 1024 → u.portIsUp p = true → P u → P (u.setFld (.PRT_PFC_STATUS p) F.PRT_PFC_STATUS_TX_XOFF v)
  endEpoch : ∀ {u}, P u → P u.endEpoch
  counts : ∀ {u id}, pathCnt id → P u → P (u.count id)
  yielded : ∀ {u w k r}, P u → P w → u.rep k = some r → P (w.putRep k { r with yielded := true })
  txDone : ∀ {u} id, P u → P (u.txDone id)
  erased : ∀ {u} id, P u → P { u with frames := serase u.frames id }
  dropped : ∀ {u w id f}, P u → P w → u.frame id = some f →
    P (w.putFrame id { f with stage := .dropped, pool := none, charge := 0, extra := 0, left := 0, cells := [] })
  freed : ∀ {u} k, P u → P { u with reps := serase u.reps k }

theorem keep_ite {c : Prop} [Decidable c] {a b : State} (ha : P a) (hb : P b) : P (if c then a else b) := by
  split
  · exact ha
  · exact hb

theorem portIsUp_lt {p : Nat} (h : u.portIsUp p = true) : p < 1024 := by
  simp only [State.portIsUp, State.isPort, Bool.and_eq_true, decide_eq_true_eq] at h
  exact h.1.1.1.1

theorem sfind_of_mem {α : Type} {m : SMap α} {l : Option Nat} (h : skeysFrom l m = true) {kv : Nat × α} (hm : kv ∈ m) : sfind m kv.1 = some kv.2 := by
  induction m generalizing l with
  | nil => cases hm
  | cons e m ih =>
    obtain ⟨j, x⟩ := e
    rw [skeysFrom_cons] at h
    rcases List.mem_cons.mp hm with rfl | hm
    · exact if_pos rfl
    · have hne : j ≠ kv.1 := fun hj => by
        have hk := ih h.2 hm
        rw [sfind_below m (Nat.le_of_eq hj.symm) h.2] at hk
        cases hk
      exact (if_neg hne).trans (ih h.2 hm)

theorem rep_of_mem (h : StoresCanonical u) {kv : Nat × Replica} (hm : kv ∈ u.reps) : u.rep kv.1 = some kv.2 :=
  sfind_of_mem h.reps hm

theorem frame_of_mem (h : StoresCanonical u) {kv : Nat × Frame} (hm : kv ∈ u.frames) : u.frame kv.1 = some kv.2 :=
  sfind_of_mem h.frames hm

/-- The noting of yields marks replicas and counts. -/
theorem frameYields_keeps (h : P u) (hm : ∀ v kv, kv ∈ u.reps → P v → P (v.putRep kv.1 { kv.2 with yielded := true }))
    (h2 : ∀ v, P v → P (v.count (C.ladderYield 2))) (h6 : ∀ v, P v → P (v.count (C.ladderYield 6))) : P u.frameYields := by
  unfold State.frameYields
  refine foldl_keeps _ _ h fun v kv hk hv => ?_
  have hy : P (v.putRep kv.1 { kv.2 with yielded := true }) := hm v kv (List.mem_of_mem_filter (List.mem_of_mem_filter hk)) hv
  exact keep_ite hv (keep_ite (keep_ite (h2 _ hy) hy) (keep_ite (h6 _ hy) hv))

/-- The port stays UP when a bit of its XOFF is put. -/
theorem pauseTest_up {p : Nat} (h : u.portIsUp p = true) (i occ : Nat) : (u.pauseTest p i occ).portIsUp p = true := by
  have hx : ∀ v m b, ((u.setFld (.PRT_PFC_STATUS p) F.PRT_PFC_STATUS_TX_XOFF v).pauseDue p m b).portIsUp p = true := fun v m b => by
    have hp := portIsUp_lt h
    have hi : (Reg.PRT_PFC_STATUS p).indexOk = true := decide_eq_true hp
    have hsel : (u.setFld (.PRT_PFC_STATUS p) F.PRT_PFC_STATUS_TX_XOFF v).curSel = u.curSel := fld_setFld_off hi rfl nofun
    have hst : (u.setFld (.PRT_PFC_STATUS p) F.PRT_PFC_STATUS_TX_XOFF v).portState p = u.portState p :=
      fld_setFld_off (q := .PRT_PORT_STATUS p) hi (decide_eq_true hp) nofun
    have hport : (u.setFld (.PRT_PFC_STATUS p) F.PRT_PFC_STATUS_TX_XOFF v).isPort p = u.isPort p := by
      unfold State.isPort State.blkLanes State.cFld
      rw [hsel]
      rfl
    have he : ((u.setFld (.PRT_PFC_STATUS p) F.PRT_PFC_STATUS_TX_XOFF v).pauseDue p m b).portIsUp p =
        (u.setFld (.PRT_PFC_STATUS p) F.PRT_PFC_STATUS_TX_XOFF v).portIsUp p := rfl
    rw [he, State.portIsUp, hport, hst]
    exact h
  exact keep_ite (P := fun w => w.portIsUp p = true) (keep_ite (P := fun w => w.portIsUp p = true) (hx ..) h)
    (keep_ite (P := fun w => w.portIsUp p = true) (hx ..) h)

namespace PathProof

variable (c : PathProof P)
include c

theorem pauseTest {p : Nat} (hup : u.portIsUp p = true) (i occ : Nat) (h : P u) : P (u.pauseTest p i occ) :=
  have hx b := c.due p i b (c.xoff _ (portIsUp_lt hup) hup h)
  keep_ite (keep_ite (hx _) h) (keep_ite (c.due p _ _ (c.xoff _ (portIsUp_lt hup) hup h)) h)

theorem pauseEval (p : Nat) (h : P u) : P (u.pauseEval p) := by
  unfold State.pauseEval
  split
  · exact h
  · next hup =>
    have hup : u.portIsUp p = true := by simpa using hup
    split
    · exact c.pauseTest hup _ _ h
    · refine (foldl_keeps (P := fun v => v.portIsUp p = true ∧ P v) _ _ ⟨hup, h⟩ fun v i _ ⟨hvu, hv⟩ => ?_).2
      exact ⟨keep_ite (P := fun w => w.portIsUp p = true) (pauseTest_up hvu ..) hvu, keep_ite (c.pauseTest hvu _ _ hv) hv⟩
    · exact h

theorem checkEpoch (h : P u) : P u.checkEpoch := keep_ite (c.endEpoch h) h

theorem frameYields (h : P u) : P u.frameYields :=
  frameYields_keeps h (fun _ kv hm hv => c.yielded h hv (rep_of_mem (c.canon h) hm)) (fun _ => c.counts (.inl rfl)) fun _ => c.counts (.inr (.inl rfl))

theorem frameGone (id : Nat) (h : P u) : P (u.frameGone id) := by
  unfold State.frameGone
  split
  · exact h
  · next f hf =>
    extract_lets u1 u2 u3 u4
    have h1 : P u1 := c.txDone id h
    have h2 : P u2 := by
      unfold u2
      split
      · next hh =>
        simp only [Bool.and_eq_true] at hh
        exact c.counts (.inr (.inr ⟨f.port, (c.range h).rings _ (mem_of_sfind hf) hh.1, rfl⟩)) h1
      · exact h1
    have h3 : P u3 := keep_ite (c.erased id h2) (c.dropped h h2 hf)
    exact c.checkEpoch (keep_ite h3 (c.pauseEval _ h3))

theorem checkGone (id : Nat) (h : P u) : P (u.checkGone id) := keep_ite (c.frameGone id h) h

theorem release (k : Nat) (h : P u) : P (u.release k) := by
  unfold State.release
  split
  · exact h
  · extract_lets u1 u2 u3
    have h2 : P u2 := c.freed k (keep_ite (c.frameYields h) h)
    exact c.checkGone _ (keep_ite (c.txDone _ h2) h2)

end PathProof

/-! ## Queues -/

/-- A property that the emptying of queues does not disturb. -/
structure QueueProof (P : State → Prop) : Prop extends PathProof P where
  sent : ∀ {u} p bs, P u → P (u.emit (.frame p bs true))
  qcounts : ∀ {u id}, queueCnt id → P u → P (u.count id)
  flushAdd : ∀ {u} p, P u → P (u.flushAdd p)

theorem portOf_lt {q : Nat} (h : q < 16384) : portOf q < 1024 := by
  unfold portOf
  omega

namespace QueueProof

variable (c : QueueProof P)
include c

theorem stompRep (k : Nat) (h : P u) : P (u.stompRep k) := by
  unfold State.stompRep
  split
  · exact h
  · next r hr =>
    have hq : portOf r.q < 1024 := portOf_lt ((c.range h).queues _ (mem_of_sfind hr))
    exact c.release k (c.qcounts (.inr ⟨_, hq, .inl rfl⟩) (c.sent _ _ h))

theorem killReplicas (id : Nat) (h : P u) : P (u.killReplicas id) :=
  foldl_keeps _ _ h fun v kv _ hv => keep_ite (c.stompRep kv.1 hv) (c.release kv.1 hv)

theorem flushPort {p : Nat} (hp : p < 1024) (h : P u) : P (u.flushPort p) := by
  unfold State.flushPort
  extract_lets ks v
  have hv : P v := foldl_keeps _ _ h fun w k _ hw => c.release k (c.qcounts (.inr ⟨p, hp, .inr (.inl rfl)⟩) hw)
  exact keep_ite (c.flushAdd p hv) hv

theorem stompPort (p : Nat) (h : P u) : P (u.stompPort p) := by
  unfold State.stompPort
  split
  · exact c.stompRep _ h
  · exact h

end QueueProof

/-! ## Ports -/

/-- A property that a port's transition does not disturb. -/
structure PortProof (P : State → Prop) : Prop extends QueueProof P where
  ports : ∀ {u} p x, P u → P (u.putPortSt p x)
  status : ∀ {u p} f v, p < 1024 → P u → P (u.setFld (.PRT_PORT_STATUS p) f v)
  paused : ∀ {u p}, p < 1024 → P u → P (u.put (.PRT_PFC_STATUS p) 0#32)
  downs : ∀ {u p}, p < 1024 → P u → P (u.count (C.portDown p))
  failReception : ∀ {u} p, P u → P (u.failReception p)

namespace PortProof

variable (c : PortProof P) {p : Nat} (hp : p < 1024)
include c hp

theorem seeFaults (l r : Bool) (h : P u) : P (u.seeFaults p l r) := c.status _ _ hp (c.status _ _ hp h)

theorem parkStart (h : P u) : P (u.parkStart p) := by
  unfold State.parkStart
  extract_lets x v
  have hv : P v := c.ports _ _ h
  exact keep_ite (c.status _ _ hp (c.flushPort hp hv)) (c.status _ _ hp hv)

theorem downPort (h : P u) : P (u.downPort p) :=
  have h1 := c.failReception p (c.stompPort p (c.status F.PRT_PORT_STATUS_STATE 1 hp (c.frameYields h)))
  c.parkStart hp (c.downs hp (c.status _ _ hp (c.ports _ _ (c.paused hp h1))))

theorem lanesLost (h : P u) : P (u.lanesLost p) :=
  keep_ite (c.downPort hp (c.seeFaults hp _ _ h)) (keep_ite (c.ports _ _ (c.seeFaults hp _ _ (c.status _ _ hp h))) h)

end PortProof

/-! ## Only the exact-match table -/

/-- Nothing but the exact-match table has changed. -/
def FwdOnly (s t : State) : Prop := t = { s with fwd := t.fwd }

namespace FwdOnly

theorem refl : FwdOnly s s := rfl

theorem fwd (h : FwdOnly s u) (x : Fwd) : FwdOnly s { u with fwd := x } := by
  unfold FwdOnly at *
  rw [h]

theorem setCopy (h : FwdOnly s u) (k : Nat) (m : SMap FwdEntry) : FwdOnly s (u.setCopy k m) := keep_ite (h.fwd _) (h.fwd _)

theorem changeKey (h : FwdOnly s u) (key : Nat) (g : FwdEntry → Option FwdEntry) : FwdOnly s (u.changeKey key g) :=
  FwdOnly.fwd (foldl_keeps _ _ h fun _ _ _ hv => hv.setCopy ..) _

theorem fwdMerge (h : FwdOnly s u) (keys : List Nat) (r c : Nat) : FwdOnly s (u.fwdMerge keys r c) :=
  foldl_keeps _ _ h fun _ _ _ hv => hv.changeKey ..

theorem flushAdd (h : FwdOnly s u) (p : Nat) : FwdOnly s (u.flushAdd p) := by
  have h1 : FwdOnly s (if u.fwd.pass.isSome && u.fwd.serving.contains p then
      (if u.fwd.again.contains p then u else { u with fwd := { u.fwd with again := u.fwd.again ++ [p] } })
    else if u.fwd.flushSet.contains p then u
    else { u with fwd := { u.fwd with flushSet := u.fwd.flushSet ++ [p] } }) :=
    keep_ite (keep_ite h (h.fwd _)) (keep_ite h (h.fwd _))
  exact keep_ite (h1.fwd _) h1

end FwdOnly

/-! ## The end of an epoch -/

/-- The banks once the free selector reads as the current one. -/
def banksAlike (s : State) : State := if s.curSel = 0 then { s with st1 := s.st0 } else { s with st0 := s.st1 }

theorem banksAlike_rest (s : State) : banksAlike s = { s with st0 := (banksAlike s).st0, st1 := (banksAlike s).st1 } := by
  unfold banksAlike
  split <;> rfl

/-- The end of an epoch shows in RETIRED_LIVE; the bank, the rows and the entries of the free selector become the current ones. -/
theorem endEpoch_eq (s : State) : ∃ rows fwd, s.endEpoch =
    { s.setFld .STW_EPOCH_STATUS F.STW_EPOCH_STATUS_RETIRED_LIVE 0 with
      st0 := (banksAlike s).st0, st1 := (banksAlike s).st1, rows := rows, fwd := fwd } := by
  have hu : (if s.curSel = 0 then
      { s.setFld .STW_EPOCH_STATUS F.STW_EPOCH_STATUS_RETIRED_LIVE 0 with st1 := s.st0 }
    else { s.setFld .STW_EPOCH_STATUS F.STW_EPOCH_STATUS_RETIRED_LIVE 0 with st0 := s.st1 }) =
      { s.setFld .STW_EPOCH_STATUS F.STW_EPOCH_STATUS_RETIRED_LIVE 0 with st0 := (banksAlike s).st0, st1 := (banksAlike s).st1 } := by
    unfold banksAlike
    split <;> rfl
  unfold State.endEpoch
  extract_lets c r u1 u2 u3
  have hu2 : u2 = { u1 with st0 := (banksAlike s).st0, st1 := (banksAlike s).st1 } := hu
  have hf : FwdOnly (u2.rowsMerge r c) u3 := FwdOnly.refl.fwdMerge ..
  clear_value u3
  refine ⟨(u2.rowsMerge r c).rows, { u3.fwd with touched := [] }, ?_⟩
  rw [FwdOnly] at hf
  rw [hf, State.rowsMerge, hu2]

theorem endEpoch_curSel (h : StoresCanonical s) : s.endEpoch.curSel = s.curSel := by
  obtain ⟨rows, fwd, he⟩ := endEpoch_eq s
  rw [he]
  exact fld_setFld_beside h.regs (by decide) (by decide)

theorem endEpoch_stGet (s : State) (r : Reg) : s.endEpoch.stGet s.curSel r = s.stGet s.curSel r := by
  obtain ⟨rows, fwd, he⟩ := endEpoch_eq s
  rw [he]
  unfold State.stGet State.bank banksAlike
  by_cases hc : s.curSel = 0 <;> simp only [hc, if_true, if_false, reduceIte]

/-! ## What flows leaves -/

/-- Every register whose address none of `R` has reads as before, and shows what it showed. -/
def Keeps (R : Reg → Prop) (s t : State) : Prop :=
  ∀ q : Reg, (∀ r, R r → q.addr ≠ r.addr) → t.get q = s.get q ∧ t.resetBits q = s.resetBits q

namespace Keeps

variable {R : Reg → Prop}

theorem refl : Keeps R s s := fun _ _ => ⟨rfl, rfl⟩

theorem of_regs (h : Keeps R s u) (hr : v.regs = u.regs := by rfl) (hm : v.masked = u.masked := by rfl) : Keeps R s v := by
  intro q hq
  obtain ⟨h1, h2⟩ := h q hq
  refine ⟨(get_of_regs hr q).trans h1, ?_⟩
  rw [State.resetBits, hm]
  exact h2

theorem put {r : Reg} (h : Keeps R s u) (hr : R r) (x : Word) : Keeps R s (u.put r x) := fun q hq => by
  obtain ⟨h1, h2⟩ := ((Writes.refl (s := u) (ids := [])).put (List.mem_singleton_self r) x).regs q
    fun k hk => List.mem_singleton.mp hk ▸ hq r hr
  exact ⟨h1.trans (h q hq).1, h2.trans (h q hq).2⟩

theorem setFld {r : Reg} (h : Keeps R s u) (hr : R r) (f : Fld) (x : Nat) : Keeps R s (u.setFld r f x) := fun q hq => by
  obtain ⟨h1, h2⟩ := ((Writes.refl (s := u) (ids := [])).setFld (List.mem_singleton_self r) f x).regs q
    fun k hk => List.mem_singleton.mp hk ▸ hq r hr
  exact ⟨h1.trans (h q hq).1, h2.trans (h q hq).2⟩

theorem trans (h : Keeps R s u) (h' : Keeps R u v) : Keeps R s v := fun q hq =>
  ⟨(h' q hq).1.trans (h q hq).1, (h' q hq).2.trans (h q hq).2⟩

theorem weaken {R' : Reg → Prop} (h : Keeps R s u) (hs : ∀ r, R r → R' r) : Keeps R' s u := fun q hq =>
  h q fun r hr => hq r (hs r hr)

theorem get (h : Keeps R s u) (hok : ∀ r, R r → r.indexOk = true) {q : Reg} (hq : q.indexOk = true) (hn : ¬ R q) : u.get q = s.get q :=
  (h q fun r hr => addr_ne hq (hok r hr) fun e => hn (e ▸ hr)).1

end Keeps

/-- What a flow of frames, ports and lanes leaves: it writes the registers `R` and the counters `C`, and the stores of frames,
replicas, rows, entries, rings, ports, lanes and signals; no committed setting changes. -/
structure Flows (R : Reg → Prop) (C : Nat → Prop) (s t : State) : Prop where
  canon : StoresCanonical t
  range : FramesInRange t
  rest : t = { s with regs := t.regs, masked := t.masked, st0 := t.st0, st1 := t.st1, cnt := t.cnt, frames := t.frames, reps := t.reps,
                      rows := t.rows, fwd := t.fwd, rings := t.rings, ports := t.ports, lne := t.lne, hlt := t.hlt, irq := t.irq,
                      nextLk := t.nextLk, out := t.out }
  regs : Keeps R s t
  cnts : ∀ id, ¬ C id → t.counter id = s.counter id
  sel : t.curSel = s.curSel
  settings : ∀ r, t.stGet s.curSel r = s.stGet s.curSel r

/-- What `Flows` reads of a state besides the register values. -/
def banksOf (s : State) : SMap Word × SMap Word := (s.st0, s.st1)

namespace Flows

variable {R : Reg → Prop} {C : Nat → Prop}

theorem refl (hs : StoresCanonical s) (hr : FramesInRange s) : Flows R C s s := ⟨hs, hr, rfl, .refl, fun _ _ => rfl, rfl, fun _ => rfl⟩

theorem trans (h : Flows R C s u) (h' : Flows R C u v) : Flows R C s v where
  canon := h'.canon
  range := h'.range
  rest := by
    rw [h'.rest, h.rest]
  regs := h.regs.trans h'.regs
  cnts id hid := (h'.cnts id hid).trans (h.cnts id hid)
  sel := h'.sel.trans h.sel
  settings r := by rw [← h.settings r, ← h.sel, h'.settings r]

theorem weaken {R' : Reg → Prop} {C' : Nat → Prop} (h : Flows R C s u) (hR : ∀ r, R r → R' r) (hC : ∀ id, C id → C' id) :
    Flows R' C' s u :=
  ⟨h.canon, h.range, h.rest, h.regs.weaken hR, fun id hid => h.cnts id fun hc => hid (hC id hc), h.sel, h.settings⟩

/-- A change that writes neither registers nor counters nor settings. -/
theorem of_stores (h : Flows R C s u) (hv : Evolves u v)
    (hrest : v = { u with
      frames := v.frames, reps := v.reps, rows := v.rows, fwd := v.fwd, rings := v.rings, ports := v.ports, lne := v.lne, hlt := v.hlt,
      irq := v.irq, nextLk := v.nextLk, out := v.out }) : Flows R C s v where
  canon := hv.stores h.canon
  range := hv.range h.range
  rest := by
    rw [hrest, h.rest]
  regs := h.regs.of_regs (by rw [hrest]) (by rw [hrest])
  cnts id hid := by
    rw [← h.cnts id hid, hrest]
    rfl
  sel := by
    rw [← h.sel, hrest]
    rfl
  settings r := by
    rw [← h.settings r, hrest]
    rfl

theorem count (h : Flows R C s u) {id : Nat} (hid : C id) : Flows R C s (u.count id) where
  canon := (Evolves.refl.count id).stores h.canon
  range := (Evolves.refl.count id).range h.range
  rest := by
    rw [h.rest]
    rfl
  regs := h.regs.of_regs
  cnts k hk := (State.counter_count_ne _ _ _ fun e : id = k => hk (e ▸ hid)).trans (h.cnts k hk)
  sel := h.sel
  settings := h.settings

theorem setFld (h : Flows R C s u) {r : Reg} (hr : R r) (f : Fld) (x : Nat) (hsel : (u.setFld r f x).curSel = u.curSel) :
    Flows R C s (u.setFld r f x) where
  canon := (Evolves.refl.setFld r f x).stores h.canon
  range := (Evolves.refl.setFld r f x).range h.range
  rest := by
    rw [h.rest]
    rfl
  regs := h.regs.setFld hr f x
  cnts := h.cnts
  sel := hsel.trans h.sel
  settings := h.settings

theorem put (h : Flows R C s u) {r : Reg} (hr : R r) (x : Word) (hsel : (u.put r x).curSel = u.curSel) : Flows R C s (u.put r x) where
  canon := (Evolves.refl.put r x).stores h.canon
  range := (Evolves.refl.put r x).range h.range
  rest := by
    rw [h.rest]
    rfl
  regs := h.regs.put hr x
  cnts := h.cnts
  sel := hsel.trans h.sel
  settings := h.settings

theorem endEpoch (h : Flows R C s u) (hr : R .STW_EPOCH_STATUS) : Flows R C s u.endEpoch := by
  obtain ⟨rows, fwd, he⟩ := endEpoch_eq u
  refine ⟨Evolves.refl.endEpoch.stores h.canon, Evolves.refl.endEpoch.range h.range, ?_, ?_, fun id hid => ?_,
    (endEpoch_curSel h.canon).trans h.sel, fun r => ?_⟩
  · rw [he, h.rest]
    rfl
  · rw [he]
    exact (h.regs.setFld hr _ _).of_regs
  · rw [← h.cnts id hid, he]
    rfl
  · rw [← h.settings r, ← h.sel, endEpoch_stGet]

/-- The selector is not in a register of a lane, a port or a reference. -/
theorem curSel_setFld {r : Reg} (hr : r.indexOk = true) (hn : r ≠ .STW_EPOCH_STATUS) (f : Fld) (x : Nat) : (u.setFld r f x).curSel = u.curSel :=
  fld_setFld_off hr rfl hn

theorem pathProof (hs : ∀ r, pathReg r → R r) (hc : ∀ id, pathCnt id → C id) : PathProof (Flows R C s) where
  canon h := h.canon
  range h := h.range
  due _ _ _ h := h.of_stores Evolves.refl.of_kept rfl
  xoff {_ p} _ hp _ h := h.setFld (hs (.PRT_PFC_STATUS p) hp) _ _ (curSel_setFld (r := .PRT_PFC_STATUS p) (decide_eq_true hp) nofun _ _)
  endEpoch h := h.endEpoch (hs _ trivial)
  counts hid h := h.count (hc _ hid)
  yielded hu hw hk := hw.of_stores (Evolves.refl.putRep _ fun _ => hu.range.queues _ (mem_of_sfind hk)) rfl
  txDone _ h := h.of_stores (Evolves.refl.txDone _) rfl
  erased _ h := h.of_stores (Evolves.refl.eraseFrame _) rfl
  dropped hu hw hf := hw.of_stores (Evolves.refl.putFrame _ fun _ =>
    have ⟨hp, hr, hk⟩ := hu.range.frame (mem_of_sfind hf)
    ⟨hp, hr, hk⟩) rfl
  freed _ h := h.of_stores (Evolves.refl.eraseRep _) rfl

theorem queueProof (hs : ∀ r, pathReg r → R r) (hc : ∀ id, queueCnt id → C id) : QueueProof (Flows R C s) where
  toPathProof := pathProof hs fun id h => hc id (.inl h)
  sent _ _ h := h.of_stores (Evolves.refl.emit _) rfl
  qcounts hid h := h.count (hc _ hid)
  flushAdd {u} p h := h.of_stores (Evolves.refl.flushAdd p) (by
    have hf := (FwdOnly.refl (s := u)).flushAdd p
    rw [FwdOnly] at hf
    rw [hf])

theorem portProof (hs : ∀ r, portReg r → R r) (hc : ∀ id, portCnt id → C id) : PortProof (Flows R C s) where
  toQueueProof := queueProof (fun r h => hs r (portReg_of_pathReg h)) fun id h => hc id (.inl h)
  ports _ _ h := h.of_stores Evolves.refl.of_kept rfl
  status {_ p} _ _ hp h := h.setFld (hs (.PRT_PORT_STATUS p) hp) _ _ (curSel_setFld (r := .PRT_PORT_STATUS p) (decide_eq_true hp) nofun _ _)
  paused {_ p} hp h := h.put (hs (.PRT_PFC_STATUS p) hp) _ (congrArg F.STW_EPOCH_STATUS_SELECTOR.get
    (State.get_put_ne _ _ _ _ (addr_ne (q := .PRT_PFC_STATUS p) (r := .STW_EPOCH_STATUS) (decide_eq_true hp) rfl nofun)))
  downs hp h := h.count (hc _ (.inr ⟨_, hp, rfl⟩))
  failReception _ h := h.of_stores (Evolves.refl.failReception _) rfl

end Flows

end Sys2Proof
end

section
/-! PROOF. Pause and PFC frames, received and sent (R181 to R184, R196). -/
namespace Sys2Proof

open Sys2Proof.Machine

set_option Elab.async false

variable {s u v w : State}

/-! ## Bits of a mask of priorities -/

theorem testBit_clrBit (m i j : Nat) : (clrBit m i).testBit j = (decide (j ≠ i) && m.testBit j) := by
  unfold clrBit
  split
  · next hi =>
    have hr : m % 2 ^ i < 2 ^ i := Nat.mod_lt _ (Nat.two_pow_pos i)
    have hp : 2 ^ (i + 1) = 2 ^ i + 2 ^ i := by rw [Nat.pow_succ]; omega
    have hm : m = 2 ^ (i + 1) * (m / 2 ^ (i + 1)) + (2 ^ i + m % 2 ^ i) := by
      rw [Nat.testBit_eq_decide_div_mod_eq, decide_eq_true_eq] at hi
      have h1 := Nat.div_add_mod m (2 ^ i)
      have h2 := Nat.div_add_mod (m / 2 ^ i) 2
      rw [hi, Nat.div_div_eq_div_mul, ← Nat.pow_succ] at h2
      calc m = 2 ^ i * (2 * (m / 2 ^ (i + 1)) + 1) + m % 2 ^ i := by rw [h2, h1]
        _ = 2 ^ (i + 1) * (m / 2 ^ (i + 1)) + (2 ^ i + m % 2 ^ i) := by rw [Nat.pow_succ]; ring
    generalize m / 2 ^ (i + 1) = q at hm
    generalize m % 2 ^ i = r at hm hr
    subst hm
    rw [show 2 ^ (i + 1) * q + (2 ^ i + r) - 2 ^ i = 2 ^ (i + 1) * q + r by omega, Nat.testBit_two_pow_mul_add _ (by omega),
      Nat.testBit_two_pow_mul_add _ (by omega)]
    rcases Nat.lt_trichotomy j i with hj | rfl | hj
    · rw [if_pos (by omega), if_pos (by omega), Nat.testBit_two_pow_add_gt hj]
      simp [Nat.ne_of_lt hj]
    · rw [if_pos (Nat.lt_succ_self j), Nat.testBit_lt_two_pow hr]
      simp
    · rw [if_neg (by omega), if_neg (by omega)]
      simp [Nat.ne_of_gt hj]
  · next hi =>
    by_cases hj : j = i
    · subst hj
      simpa using hi
    · simp [hj]

theorem testBit_setBit (m i j : Nat) : (setBit m i).testBit j = (decide (i = j) || m.testBit j) := by
  rw [setBit, Nat.testBit_or, Nat.testBit_two_pow, Bool.or_comm]

/-- The mask after each named priority has been paused or released. -/
def obeyed (v : Nat) (released : Nat → Bool) (l : List Nat) (m : Nat) : Nat :=
  l.foldl (fun m i => if v.testBit i then (if released i then clrBit m i else setBit m i) else m) m

theorem testBit_obeyed (v : Nat) (released : Nat → Bool) (l : List Nat) (m j : Nat) :
    (obeyed v released l m).testBit j = if j ∈ l ∧ v.testBit j = true then !released j else m.testBit j := by
  induction l generalizing m with
  | nil => simp [obeyed]
  | cons i l ih =>
    have hstep : obeyed v released (i :: l) m =
        obeyed v released l (if v.testBit i then (if released i then clrBit m i else setBit m i) else m) := rfl
    rw [hstep, ih]
    by_cases hl : j ∈ l ∧ v.testBit j = true
    · rw [if_pos hl, if_pos ⟨List.mem_cons_of_mem _ hl.1, hl.2⟩]
    · rw [if_neg hl]
      by_cases hji : j = i
      · subst hji
        cases hv : v.testBit j <;> cases hr : released j <;> simp [testBit_clrBit, testBit_setBit, hr, hv]
      · have hn : ¬ (j ∈ i :: l ∧ v.testBit j = true) := fun h => hl ⟨(List.mem_cons.mp h.1).resolve_left hji, h.2⟩
        rw [if_neg hn]
        cases v.testBit i <;> cases released i <;> simp [testBit_clrBit, testBit_setBit, hji, Ne.symm hji]

/-! ## Yields noted -/

/-- The noting of yields marks replicas and counts. -/
theorem frameYields_rest (s : State) : s.frameYields = { s with cnt := s.frameYields.cnt, reps := s.frameYields.reps } :=
  frameYields_keeps (P := fun u => u = { s with cnt := u.cnt, reps := u.reps }) rfl (fun u kv _ hu => by rw [hu]; rfl)
    (fun u hu => by rw [hu]; rfl) fun u hu => by rw [hu]; rfl

theorem frameYields_counter {id : Nat} (h2 : id ≠ C.ladderYield 2) (h6 : id ≠ C.ladderYield 6) (s : State) :
    s.frameYields.counter id = s.counter id :=
  frameYields_keeps (P := fun u => u.counter id = s.counter id) rfl (fun _ _ _ hu => hu)
    (fun u hu => (State.counter_count_ne _ _ _ (Ne.symm h2)).trans hu) fun u hu => (State.counter_count_ne _ _ _ (Ne.symm h6)).trans hu

theorem frameYields_cnt (h : skeysFrom none s.cnt = true) : skeysFrom none s.frameYields.cnt = true :=
  frameYields_keeps (P := fun u => skeysFrom none u.cnt = true) h (fun _ _ _ hu => hu) (fun _ hu => skeysFrom_sput _ _ _ _ hu)
    fun _ hu => skeysFrom_sput _ _ _ _ hu

/-! ## The pause state of a port -/

/-- A watermark test writes XOFF of its port, and what is due there. -/
theorem pauseTest_rest (s : State) (p i occ : Nat) :
    s.pauseTest p i occ = { s with regs := (s.pauseTest p i occ).regs, masked := (s.pauseTest p i occ).masked, ports := (s.pauseTest p i occ).ports } := by
  unfold State.pauseTest
  extract_lets st
  split
  · split <;> rfl
  · split <;> rfl

/-- A property that the XOFF of one port does not disturb. -/
theorem pauseEval_keeps {P : State → Prop} (p : Nat) (h : P s)
    (hx : ∀ u x, P u → P (u.setFld (.PRT_PFC_STATUS p) F.PRT_PFC_STATUS_TX_XOFF x)) (hp : ∀ u i b, P u → P (u.pauseDue p (2 ^ i) b)) : P (s.pauseEval p) := by
  have ht : ∀ u i occ, P u → P (u.pauseTest p i occ) := fun u i occ hu =>
    keep_ite (keep_ite (hp _ _ _ (hx _ _ hu)) hu) (keep_ite (hp _ _ _ (hx _ _ hu)) hu)
  unfold State.pauseEval
  split
  · exact h
  · split
    · exact ht _ _ _ h
    · exact foldl_keeps _ _ h fun v i _ hv => keep_ite (ht _ _ _ hv) hv
    · exact h

theorem pauseEval_rest (s : State) (p : Nat) :
    s.pauseEval p = { s with regs := (s.pauseEval p).regs, masked := (s.pauseEval p).masked, ports := (s.pauseEval p).ports } :=
  pauseEval_keeps (P := fun u => u = { s with regs := u.regs, masked := u.masked, ports := u.ports }) p rfl
    (fun u x hu => by rw [hu]; rfl) fun u m b hu => by rw [hu]; rfl

theorem pauseEval_regsOk (h : s.regsOk) (p : Nat) : (s.pauseEval p).regsOk :=
  pauseEval_keeps (P := State.regsOk) p h (fun _ _ hu => regsOk_setFld hu) fun _ _ _ hu => hu

theorem pauseEval_rxPaused (h : s.regsOk) (p : Nat) :
    (s.pauseEval p).fld (.PRT_PFC_STATUS p) F.PRT_PFC_STATUS_RX_PAUSED = s.fld (.PRT_PFC_STATUS p) F.PRT_PFC_STATUS_RX_PAUSED :=
  (pauseEval_keeps (P := fun u => u.regsOk ∧
      u.fld (.PRT_PFC_STATUS p) F.PRT_PFC_STATUS_RX_PAUSED = s.fld (.PRT_PFC_STATUS p) F.PRT_PFC_STATUS_RX_PAUSED) p ⟨h, rfl⟩
    (fun _ _ ⟨ho, hf⟩ => ⟨regsOk_setFld ho, (fld_setFld_beside ho (by decide) (by decide)).trans hf⟩) fun _ _ _ hu => hu).2

/-- The end of an epoch leaves frames and counters, and registers but its status. -/
theorem checkEpoch_frames (s : State) : s.checkEpoch.frames = s.frames := by
  obtain ⟨rows, fwd, he⟩ := endEpoch_eq s
  unfold State.checkEpoch
  split
  · rw [he]
    rfl
  · rfl

theorem checkEpoch_cnt (s : State) : s.checkEpoch.cnt = s.cnt := by
  obtain ⟨rows, fwd, he⟩ := endEpoch_eq s
  unfold State.checkEpoch
  split
  · rw [he]
    rfl
  · rfl

theorem checkEpoch_get {q : Reg} (hq : q.addr ≠ Reg.STW_EPOCH_STATUS.addr) (s : State) : s.checkEpoch.get q = s.get q := by
  obtain ⟨rows, fwd, he⟩ := endEpoch_eq s
  unfold State.checkEpoch
  split
  · rw [he]
    exact State.get_setFld_ne _ _ _ _ _ (Ne.symm hq)
  · rfl

/-! ## A pause frame received (R181, R184) -/

/-- The port's pause state after a received frame. -/
def pauseObeyed (s : State) (p : Nat) (bs : List Byte) : Nat :=
  if beAt bs 14 2 = 1 then (if s.fcMode s.curSel p = 1 then (if beAt bs 16 2 = 0 then 0 else 255) else s.fld (.PRT_PFC_STATUS p) F.PRT_PFC_STATUS_RX_PAUSED)
  else if s.fcMode s.curSel p = 2 then
    obeyed (beAt bs 16 2 &&& s.pfcEn s.curSel p) (fun i => decide (beAt bs (18 + 2 * i) 2 = 0)) (List.range 8) (s.fld (.PRT_PFC_STATUS p) F.PRT_PFC_STATUS_RX_PAUSED)
  else s.fld (.PRT_PFC_STATUS p) F.PRT_PFC_STATUS_RX_PAUSED

theorem obeyPause_rest (s : State) (p : Nat) (bs : List Byte) :
    s.obeyPause p bs = { s with regs := (s.obeyPause p bs).regs, masked := (s.obeyPause p bs).masked } := by
  unfold State.obeyPause
  extract_lets old mode x
  split
  · split <;> rfl
  · split <;> rfl

theorem obeyPause_regsOk (h : s.regsOk) (p : Nat) (bs : List Byte) : (s.obeyPause p bs).regsOk := by
  unfold State.obeyPause
  extract_lets old mode x
  exact keep_ite (keep_ite (regsOk_setFld h) h) (keep_ite (regsOk_setFld h) h)

theorem obeyPause_rxPaused (h : s.regsOk) (p : Nat) (bs : List Byte) :
    (s.obeyPause p bs).fld (.PRT_PFC_STATUS p) F.PRT_PFC_STATUS_RX_PAUSED = pauseObeyed s p bs % 256 := by
  have hold : s.fld (.PRT_PFC_STATUS p) F.PRT_PFC_STATUS_RX_PAUSED = s.fld (.PRT_PFC_STATUS p) F.PRT_PFC_STATUS_RX_PAUSED % 256 :=
    (Nat.mod_eq_of_lt (Fld.get_lt ..)).symm
  have hset : ∀ x, (s.setFld (.PRT_PFC_STATUS p) F.PRT_PFC_STATUS_RX_PAUSED x).fld (.PRT_PFC_STATUS p) F.PRT_PFC_STATUS_RX_PAUSED = x % 256 :=
    fun x => State.fld_setFld_self _ _ _ _ h (by decide)
  unfold State.obeyPause pauseObeyed
  extract_lets old mode x
  split
  · split
    · exact hset _
    · exact hold
  · split
    · simp only [obeyed, decide_eq_true_eq]
      exact hset _
    · exact hold

/-- A good frame of the wire whose references are gone leaves the device. -/
theorem frameGone_ended {id : Nat} {f : Frame} (hf : s.frame id = some f) (he : f.ended = true) (hh : f.fromHost = false) :
    s.frameGone id = (State.pauseEval { s.txDone id with frames := serase s.frames id } f.port).checkEpoch := by
  simp only [State.frameGone, hf, he, hh, Bool.false_and, Bool.false_eq_true, if_true, if_false, reduceIte]
  rfl

theorem exec_pauseFrameRx {id : Nat} {f : Frame} (hf : s.frame id = some f) (he : f.ended = true) (hb : f.bad = false) (hh : f.fromHost = false)
    (hg : f.engine = false) (hp : s.isPause f.port f.bytes = true) :
    exec (.pauseFrameRx id) s = .next (((s.frameYields.count (C.prtRxPause f.port)).obeyPause f.port f.bytes).frameGone id) := by
  have hx : exec (.pauseFrameRx id) s = execPauseFrameRx id s := rfl
  rw [hx, execPauseFrameRx]
  simp only [hf, he, hb, hh, hg, hp]
  rfl

/-- The status register of a port is none of the selectors', whatever the number of the port. -/
theorem pfcStatus_ne (p : Nat) : (Reg.PRT_PFC_STATUS p).addr ≠ Reg.STW_EPOCH_STATUS.addr := by
  simp only [Reg.addr, addrOf]
  omega

/-- What is left when a good frame of the wire leaves. -/
theorem frameGone_wire {id : Nat} {f : Frame} (hs : s.regsOk) (hf : s.frame id = some f) (he : f.ended = true) (hh : f.fromHost = false) :
    (s.frameGone id).frames = serase s.frames id ∧ (s.frameGone id).cnt = s.cnt ∧
      (s.frameGone id).fld (.PRT_PFC_STATUS f.port) F.PRT_PFC_STATUS_RX_PAUSED =
        s.fld (.PRT_PFC_STATUS f.port) F.PRT_PFC_STATUS_RX_PAUSED := by
  rw [frameGone_ended hf he hh]
  generalize hx : ({ s.txDone id with frames := serase s.frames id } : State) = x
  have hxr : x.regsOk := hx ▸ hs
  have hpe := pauseEval_rest x f.port
  refine ⟨?_, ?_, ?_⟩
  · rw [checkEpoch_frames, hpe, ← hx]
  · rw [checkEpoch_cnt, hpe, ← hx]
    rfl
  · rw [State.fld, checkEpoch_get (pfcStatus_ne _), ← State.fld, pauseEval_rxPaused hxr, ← hx]
    rfl

/-- The state in which a received pause frame has been counted. -/
def pauseCounted (s : State) (p : Nat) : State := s.frameYields.count (C.prtRxPause p)

theorem pauseCounted_rest (s : State) (p : Nat) :
    pauseCounted s p = { s with cnt := (pauseCounted s p).cnt, reps := (pauseCounted s p).reps } := by
  have h := frameYields_rest s
  unfold pauseCounted
  generalize s.frameYields = v at h
  rw [h]
  rfl

theorem pauseObeyed_congr (h : v = { s with cnt := v.cnt, reps := v.reps }) (p : Nat) (bs : List Byte) : pauseObeyed v p bs = pauseObeyed s p bs := by
  rw [h]
  rfl

theorem pauseFrameReceived {id : Nat} {f : Frame} (hs : StoresCanonical s) (hf : s.frame id = some f) (he : f.ended = true)
    (hh : f.fromHost = false) :
    (((pauseCounted s f.port).obeyPause f.port f.bytes).frameGone id).frames = serase s.frames id ∧
      (((pauseCounted s f.port).obeyPause f.port f.bytes).frameGone id).cnt = (pauseCounted s f.port).cnt ∧
      (((pauseCounted s f.port).obeyPause f.port f.bytes).frameGone id).fld (.PRT_PFC_STATUS f.port) F.PRT_PFC_STATUS_RX_PAUSED =
        pauseObeyed s f.port f.bytes % 256 := by
  have hv := pauseCounted_rest s f.port
  rw [← pauseObeyed_congr hv]
  generalize pauseCounted s f.port = v at hv
  have hvr : v.regsOk := by rw [State.regsOk, hv]; exact hs.regs
  have hw := obeyPause_rest v f.port f.bytes
  have hwr := obeyPause_regsOk hvr f.port f.bytes
  have hwf := obeyPause_rxPaused hvr f.port f.bytes
  generalize v.obeyPause f.port f.bytes = w at hw hwr hwf
  have hwfr : w.frames = s.frames := by rw [hw, hv]
  obtain ⟨h1, h2, h3⟩ := frameGone_wire hwr ((congrArg (sfind · id) hwfr).trans hf) he hh
  exact ⟨h1.trans (by rw [hwfr]), h2.trans (by rw [hw]), h3.trans hwf⟩

theorem pauseReceived {id : Nat} {f : Frame} (hs : StoresCanonical s) (hf : s.frame id = some f) (he : f.ended = true) (hb : f.bad = false)
    (hh : f.fromHost = false) (hg : f.engine = false) (hp : s.isPause f.port f.bytes = true) :
    ∃ t, exec (.pauseFrameRx id) s = .next t ∧ t.frame id = none ∧ CountedOnce (C.prtRxPause f.port) s t ∧
      KeepsCounters [C.prtRxPause f.port] s.frameYields t ∧ (∀ k, k ≠ id → t.frame k = s.frame k) ∧
      t.fld (.PRT_PFC_STATUS f.port) F.PRT_PFC_STATUS_RX_PAUSED = pauseObeyed s f.port f.bytes % 256 := by
  obtain ⟨h1, h2, h3⟩ := pauseFrameReceived hs hf he hh
  refine ⟨_, exec_pauseFrameRx hf he hb hh hg hp, ?_, ?_, fun k hk => ?_, fun k hk => ?_, h3⟩
  · exact (congrArg (sfind · id) h1).trans (sfind_serase_self _ _ _ hs.frames)
  · have hc : s.frameYields.counter (C.prtRxPause f.port) = s.counter (C.prtRxPause f.port) :=
      frameYields_counter (by simp only [C.prtRxPause, C.page, C.ladderYield]; omega) (by simp only [C.prtRxPause, C.page, C.ladderYield]; omega) s
    exact (counter_of_cnt h2 _).trans (by rw [pauseCounted, State.counter_count_self _ _ (frameYields_cnt hs.cnt), hc])
  · exact (counter_of_cnt h2 _).trans (State.counter_count_ne _ _ _ fun e => hk (e ▸ List.mem_singleton_self _))
  · exact (congrArg (sfind · k) h1).trans (sfind_serase_ne _ _ _ (Ne.symm hk))

/-! ## A pause time runs out, and XOFF repeats -/

theorem pauseExpires {p i : Nat} (hs : StoresCanonical s) (hp : s.isPort p = true) (hi : i < 8)
    (hb : (s.fld (.PRT_PFC_STATUS p) F.PRT_PFC_STATUS_RX_PAUSED).testBit i = true) :
    ∃ t, exec (.pauseExpires p i) s = .next t ∧ Writes [.PRT_PFC_STATUS p] [] s t ∧
      t.fld (.PRT_PFC_STATUS p) F.PRT_PFC_STATUS_TX_XOFF = s.fld (.PRT_PFC_STATUS p) F.PRT_PFC_STATUS_TX_XOFF ∧
      ∀ j, (t.fld (.PRT_PFC_STATUS p) F.PRT_PFC_STATUS_RX_PAUSED).testBit j =
        (decide (s.fcMode s.curSel p ≠ 1) && decide (j ≠ i) && (s.fld (.PRT_PFC_STATUS p) F.PRT_PFC_STATUS_RX_PAUSED).testBit j) := by
  have hlt : s.fld (.PRT_PFC_STATUS p) F.PRT_PFC_STATUS_RX_PAUSED < 2 ^ 8 := Fld.get_lt ..
  have he : exec (.pauseExpires p i) s = .next (s.setFld (.PRT_PFC_STATUS p) F.PRT_PFC_STATUS_RX_PAUSED
      (if s.fcMode s.curSel p = 1 then 0 else clrBit (s.fld (.PRT_PFC_STATUS p) F.PRT_PFC_STATUS_RX_PAUSED) i)) :=
    congrArg Host.Outcome.next (if_neg (by simp [hp, hb, hi]))
  refine ⟨_, he, Writes.refl.setFld (List.mem_singleton_self _) .., fld_setFld_beside hs.regs (by decide) (by decide), fun j => ?_⟩
  rw [State.fld_setFld_self _ _ _ _ hs.regs (by decide), Nat.testBit_mod_two_pow]
  have hj : ∀ h8 : ¬ j < 8, (s.fld (.PRT_PFC_STATUS p) F.PRT_PFC_STATUS_RX_PAUSED).testBit j = false := fun h8 =>
    Nat.testBit_lt_two_pow (Nat.lt_of_lt_of_le hlt (Nat.pow_le_pow_right (by decide) (by omega)))
  by_cases hm : s.fcMode s.curSel p = 1
  · simp [hm]
  · rw [if_neg hm, testBit_clrBit]
    by_cases h8 : j < 8
    · simp [hm, h8]
    · simp [hj h8]

theorem pauseRepeats {p i : Nat} (hp : s.isPort p = true) (hi : i < 8)
    (hb : (s.fld (.PRT_PFC_STATUS p) F.PRT_PFC_STATUS_TX_XOFF).testBit i = true) :
    ∃ t, exec (.pauseRepeatDue p i) s = .next t ∧ t = { s with ports := t.ports } ∧
      (skeysFrom none s.ports = true → (t.portSt p).dueXoff.testBit i = true ∧ (t.portSt p).dueXon.testBit i = false) ∧
      ∀ q, q ≠ p → t.portSt q = s.portSt q := by
  have he : exec (.pauseRepeatDue p i) s = .next (s.pauseDue p (2 ^ i) true) := congrArg Host.Outcome.next (if_pos (by simp [hp, hb, hi]))
  refine ⟨_, he, rfl, fun hk => ?_, fun q hq => sgetD_sput_ne _ _ _ _ _ _ (Ne.symm hq)⟩
  have hst : (s.pauseDue p (2 ^ i) true).portSt p =
      { s.portSt p with dueXoff := (s.portSt p).dueXoff ||| 2 ^ i, dueXon := (s.portSt p).dueXon &&& (255 - 2 ^ i) } :=
    sgetD_sput_self _ _ _ _ hk
  have hbit : (255 - 2 ^ i).testBit i = false := by
    have h8 : ∀ k < 8, (255 - 2 ^ k).testBit k = false := by decide
    exact h8 i hi
  rw [hst]
  exact ⟨by simp [Nat.testBit_or, Nat.testBit_two_pow], by simp [Nat.testBit_and, hbit]⟩

/-! ## A pause frame sent (R183) -/

theorem pauseSentOld {p m x : Nat} {rest : List (Nat × Nat)} (hk : skeysFrom none s.ports = true) (hup : s.portIsUp p = true)
    (ht : s.transmitting p = none) (ho : (s.portSt p).olds = (m, x) :: rest) :
    ∃ t, exec (.pauseFrameTx p) s = .next t ∧
      t = { s.emit (.pause p (pauseBytes (s.portMac p) m x fun _ => 0)) with ports := t.ports } ∧
      (t.portSt p).olds = rest ∧ (t.portSt p).dueXoff = (s.portSt p).dueXoff ∧ (t.portSt p).dueXon = (s.portSt p).dueXon ∧
      ∀ q, q ≠ p → t.portSt q = s.portSt q := by
  have he : exec (.pauseFrameTx p) s = .next
      ((s.emit (.pause p (pauseBytes (s.portMac p) m x fun _ => 0))).putPortSt p { s.portSt p with olds := rest }) := by
    have hx : exec (.pauseFrameTx p) s = execPauseFrameTx p s := rfl
    rw [hx, execPauseFrameTx]
    simp only [hup, ht, ho]
    rfl
  have hst : ((s.emit (.pause p (pauseBytes (s.portMac p) m x fun _ => 0))).putPortSt p { s.portSt p with olds := rest }).portSt p =
      { s.portSt p with olds := rest } := sgetD_sput_self _ _ _ _ hk
  refine ⟨_, he, rfl, ?_, ?_, ?_, fun q hq => sgetD_sput_ne _ _ _ _ _ _ (Ne.symm hq)⟩
  all_goals rw [hst]

theorem pauseSentDue {p : Nat} (hk : skeysFrom none s.ports = true) (hup : s.portIsUp p = true) (ht : s.transmitting p = none)
    (ho : (s.portSt p).olds = []) (hm : s.fcMode s.curSel p ≠ 0) (hd : (s.portSt p).dueXoff ||| (s.portSt p).dueXon ≠ 0) :
    ∃ t, exec (.pauseFrameTx p) s = .next t ∧
      t = { s.emit (.pause p (pauseBytes (s.portMac p) (s.fcMode s.curSel p) ((s.portSt p).dueXoff ||| (s.portSt p).dueXon) fun i =>
            if (s.portSt p).dueXoff.testBit i then s.cFld (.PRT_FC_CFG p) F.PRT_FC_CFG_QUANTA else 0)) with ports := t.ports } ∧
      (t.portSt p).dueXon = 0 ∧ (t.portSt p).olds = [] ∧
      (t.portSt p).dueXoff = (if s.cFld (.PRT_FC_CFG p) F.PRT_FC_CFG_QUANTA / 2 = 0
        then s.fld (.PRT_PFC_STATUS p) F.PRT_PFC_STATUS_TX_XOFF else 0) ∧
      ∀ q, q ≠ p → t.portSt q = s.portSt q := by
  have he : exec (.pauseFrameTx p) s = .next
      ((s.emit (.pause p (pauseBytes (s.portMac p) (s.fcMode s.curSel p) ((s.portSt p).dueXoff ||| (s.portSt p).dueXon) fun i =>
          if (s.portSt p).dueXoff.testBit i then s.cFld (.PRT_FC_CFG p) F.PRT_FC_CFG_QUANTA else 0))).putPortSt p
        { s.portSt p with
          dueXoff := if s.cFld (.PRT_FC_CFG p) F.PRT_FC_CFG_QUANTA / 2 = 0 then s.fld (.PRT_PFC_STATUS p) F.PRT_PFC_STATUS_TX_XOFF else 0
          dueXon := 0 }) := by
    have hx : exec (.pauseFrameTx p) s = execPauseFrameTx p s := rfl
    rw [hx, execPauseFrameTx]
    simp only [hup, ht, ho]
    exact congrArg Host.Outcome.next (if_neg (not_or.mpr ⟨hm, hd⟩))
  refine ⟨_, he, rfl, ?_, ?_, ?_, fun q hq => sgetD_sput_ne _ _ _ _ _ _ (Ne.symm hq)⟩
  · exact congrArg PortSt.dueXon (sgetD_sput_self _ _ _ _ hk)
  · exact (congrArg PortSt.olds (sgetD_sput_self _ _ _ _ hk)).trans ho
  · exact congrArg PortSt.dueXoff (sgetD_sput_self _ _ _ _ hk)

/-- Settles O28: a received frame by `pauseReceived`, the end of a pause by `pauseExpires`, XOFF again by `pauseRepeats`, and the frames
sent by `pauseSentOld` and `pauseSentDue`. -/
theorem pauseReceivedAndSent : Obligations.PauseReceivedAndSent := by
  unfold Obligations.PauseReceivedAndSent
  refine ⟨⟨fun s id f hs hf he hb hh hg hp => ?_, fun s p i hs hp hi hb => pauseExpires hs hp hi hb⟩,
    fun s p i hp hi hb => pauseRepeats hp hi hb, fun s p hk hup ht => ⟨fun m v rest ho => pauseSentOld hk hup ht ho, pauseSentDue hk hup ht⟩⟩
  obtain ⟨t, h1, h2, h3, h4, h5, h6⟩ := pauseReceived hs hf he hb hh hg hp
  have hlt : s.fld (.PRT_PFC_STATUS f.port) F.PRT_PFC_STATUS_RX_PAUSED < 256 := Fld.get_lt ..
  refine ⟨t, h1, h2, h3, h4, h5, fun ho hm => ?_, fun ho hm i hi => ?_, fun ho1 ho2 => ?_⟩
  · rw [h6, pauseObeyed, if_pos ho, if_pos hm]
    split <;> rfl
  · rw [h6, pauseObeyed, if_neg ho, if_pos hm, show (256 : Nat) = 2 ^ 8 from rfl, Nat.testBit_mod_two_pow, testBit_obeyed, Nat.testBit_and]
    cases hb1 : (beAt f.bytes 16 2).testBit i <;> cases hb2 : (s.pfcEn s.curSel f.port).testBit i <;> simp [hi]
  · rw [h6, pauseObeyed]
    by_cases ho : beAt f.bytes 14 2 = 1
    · rw [if_pos ho, if_neg (ho1 ho), Nat.mod_eq_of_lt hlt]
    · rw [if_neg ho, if_neg (ho2 ho), Nat.mod_eq_of_lt hlt]

end Sys2Proof
end

section
/-! PROOF. What the actions of a classified frame leave as it was (R216 to R222, R242). -/
namespace Sys2Proof

open Sys2Proof.Machine

set_option Elab.async false

variable {s u v w : State} {P : State → Prop}

/-- Counters that an action's discard, and a frame's leaving the inspection engine, may advance. -/
def actCnt (id : Nat) : Prop :=
  pathCnt id ∨ (∃ p < 1024, id = C.pipDrops p ∨ id = C.fwdDrops p) ∨ (∃ r < 32, id = C.txDrops r) ∨ ∃ sl < 8, id = C.dpiRecirc sl

/-- The record of a frame as it was received: source, bytes, and what its end has shown. -/
structure Kin (f g : Frame) : Prop where
  port : g.port = f.port
  fromHost : g.fromHost = f.fromHost
  bytes : g.bytes = f.bytes
  ended : g.ended = f.ended
  bad : g.bad = f.bad

theorem Kin.refl {f : Frame} : Kin f f := ⟨rfl, rfl, rfl, rfl, rfl⟩

/-- The device holds a frame under the number, of which `f` is a further record. -/
def Held (s : State) (id : Nat) (f : Frame) : Prop := ∃ f0, s.frame id = some f0 ∧ Kin f0 f

theorem Held.of_frame {id : Nat} {f g : Frame} (h : s.frame id = some f) (hk : Kin f g) : Held s id g := ⟨f, h, hk⟩

theorem Held.upd {id : Nat} {f g : Frame} (h : Held s id f) (hk : Kin f g) : Held s id g := by
  obtain ⟨f0, hf, a, b, c, d, e⟩ := h
  obtain ⟨a', b', c', d', e'⟩ := hk
  exact ⟨f0, hf, a'.trans a, b'.trans b, c'.trans c, d'.trans d, e'.trans e⟩

theorem Held.port_lt {id : Nat} {f : Frame} (h : Held s id f) (hr : FramesInRange s) : f.port < 1024 := by
  obtain ⟨f0, hf, hk⟩ := h
  rw [hk.port]
  exact hr.ports _ (mem_of_sfind hf)

theorem Held.ring_lt {id : Nat} {f : Frame} (h : Held s id f) (hr : FramesInRange s) (hh : f.fromHost = true) : f.port < 32 := by
  obtain ⟨f0, hf, hk⟩ := h
  rw [hk.port]
  exact hr.rings _ (mem_of_sfind hf) (hk.fromHost ▸ hh)

theorem Held.inRange {id : Nat} {f : Frame} (h : Held s id f) (hc : f.cls < 16) (hr : FramesInRange s) : FrameInRange f :=
  ⟨h.port_lt hr, h.ring_lt hr, hc⟩

/-- A property that the actions of frames do not disturb. -/
structure ActProof (P : State → Prop) : Prop extends PathProof P where
  acounts : ∀ {u id}, actCnt id → P u → P (u.count id)
  placed : ∀ {u id f} n, Held u id f → f.cls < 16 → P u → P { u with frames := sinsert u.frames id f, nextLk := n }

namespace ActProof

variable (c : ActProof P) {id : Nat} {f : Frame}
include c

theorem putFrame (hf : Held u id f) (hc : f.cls < 16) (h : P u) : P (u.putFrame id f) := c.placed u.nextLk hf hc h

theorem advance (st : Stage) (hf : Held u id f) (hc : f.cls < 16) (h : P u) : P (u.advance id f st) :=
  c.placed _ (hf.upd (g := { f with stage := st, lkSeq := u.nextLk }) ⟨rfl, rfl, rfl, rfl, rfl⟩) hc h

theorem countDrop {k : Nat → Nat} (hk : ∀ p < 1024, actCnt (k p)) (hf : Held u id f) (h : P u) : P (u.countDrop f k) := by
  refine c.acounts ?_ h
  split
  · next hh => exact .inr (.inr (.inl ⟨f.port, hf.ring_lt (c.range h) hh, rfl⟩))
  · exact hk _ (hf.port_lt (c.range h))

theorem discardTo {k : Nat → Nat} (hk : ∀ p < 1024, actCnt (k p)) (hf : Held u id f) (hc : f.cls < 16) (h : P u) : P (u.discardTo id f k) := by
  have hd : P (u.countDrop f k) := c.countDrop hk hf h
  unfold State.discardTo
  split
  · exact c.putFrame (hf.upd ⟨rfl, rfl, rfl, rfl, rfl⟩) hc hd
  · exact c.checkGone id (c.putFrame (u := u.countDrop f k) hf hc hd)

theorem pipDrops_act (p : Nat) (hp : p < 1024) : actCnt (C.pipDrops p) := .inr (.inl ⟨p, hp, .inl rfl⟩)
theorem fwdDrops_act (p : Nat) (hp : p < 1024) : actCnt (C.fwdDrops p) := .inr (.inl ⟨p, hp, .inr rfl⟩)

theorem applyAction (a : Action) (hf : Held u id f) (h : P u) : P (u.applyAction id f a) := by
  unfold State.applyAction
  extract_lets g
  have hg : Held u id g := hf.upd ⟨rfl, rfl, rfl, rfl, rfl⟩
  have hc : g.cls < 16 := Action.cls_lt a
  refine keep_ite (c.advance _ (hg.upd ⟨rfl, rfl, rfl, rfl, rfl⟩) hc h) (keep_ite (c.discardTo (pipDrops_act c) hg hc h)
    (keep_ite (keep_ite (c.advance _ (hg.upd ⟨rfl, rfl, rfl, rfl, rfl⟩) hc h) ?_) (c.advance _ hg hc h)))
  split
  · exact c.advance _ (hg.upd ⟨rfl, rfl, rfl, rfl, rfl⟩) hc (c.countDrop (pipDrops_act c) hg h)
  · exact c.discardTo (pipDrops_act c) hg hc h

theorem slice_lt (hf : Held u id f) (h : P u) : f.slice < 8 := by
  have hp := hf.port_lt (c.range h)
  unfold Frame.slice sliceOf
  split <;> omega

theorem dpiRelease (f0 : Frame) (n : Nat) (h : P u) : P (u.dpiRelease f0 n) := by
  induction n generalizing u with
  | zero => exact h
  | succ n ih =>
    unfold State.dpiRelease
    split
    · exact h
    · next id f hfind =>
      have hm := List.mem_of_find?_eq_some hfind
      have hf : Held u id f := .of_frame (frame_of_mem (c.canon h) hm) .refl
      have hs : P (u.count (C.dpiRecirc f.slice)) := c.acounts (.inr (.inr (.inr ⟨f.slice, c.slice_lt hf h, rfl⟩))) h
      have hcls : f.cls < 16 := (c.range h).classes _ hm
      exact keep_ite h (ih (keep_ite (c.putFrame (u := u.count _) (hf.upd ⟨rfl, rfl, rfl, rfl, rfl⟩) hcls hs)
        (c.applyAction _ (hf.upd ⟨rfl, rfl, rfl, rfl, rfl⟩) h)))

end ActProof

/-! ## Instances -/

theorem Flows.actProof {R : Reg → Prop} {C : Nat → Prop} (hs : ∀ r, pathReg r → R r) (hc : ∀ id, actCnt id → C id) : ActProof (Flows R C s) where
  toPathProof := pathProof hs fun id h => hc id (.inl h)
  acounts hid h := h.count (hc _ hid)
  placed {u id f} n hf hcls h := by
    refine h.of_stores (u := u) ?_ rfl
    refine Evolves.refl.frames rfl (skeysFrom_sinsert _ _ _ _ (fun _ hx => nomatch hx)) fun hr kv hm => (mem_sinsert hm).elim (fun e => ?_) hr.frame
    rw [e]
    exact hf.inRange hcls hr

/-- The replicas of `t` are among those of `s`, but for marks of counted yields. -/
structure RepsBelow (s t : State) : Prop where
  canon : StoresCanonical t
  range : FramesInRange t
  below : ∀ k r, t.rep k = some r → ∃ b, s.rep k = some { r with yielded := b }

namespace RepsBelow

theorem refl (hs : StoresCanonical s) (hr : FramesInRange s) : RepsBelow s s := ⟨hs, hr, fun _ r h => ⟨r.yielded, h⟩⟩

theorem of_reps (h : RepsBelow s u) (hv : Evolves u v) (hr : v.reps = u.reps) : RepsBelow s v :=
  ⟨hv.stores h.canon, hv.range h.range, fun k r hk => h.below k r (by rwa [State.rep, hr] at hk)⟩

theorem pathProof : PathProof (RepsBelow s) where
  canon h := h.canon
  range h := h.range
  due _ _ _ h := h.of_reps Evolves.refl.of_kept rfl
  xoff _ _ _ h := h.of_reps (Evolves.refl.setFld ..) rfl
  endEpoch {u} h := h.of_reps Evolves.refl.endEpoch (by
    obtain ⟨_, _, he⟩ := endEpoch_eq u
    rw [he]
    rfl)
  counts _ h := h.of_reps (Evolves.refl.count _) rfl
  yielded {u w k r} hu hw hk := by
    have hev : Evolves w (w.putRep k { r with yielded := true }) := Evolves.refl.putRep _ fun _ => hu.range.queues _ (mem_of_sfind hk)
    refine ⟨hev.stores hw.canon, hev.range hw.range, fun j r' hj => ?_⟩
    by_cases hjk : k = j
    · subst hjk
      rw [show (w.putRep k { r with yielded := true }).rep k = _ from sfind_sinsert_self ..] at hj
      cases hj
      exact hu.below k r hk
    · rw [show (w.putRep k { r with yielded := true }).rep j = _ from sfind_sinsert_ne _ _ _ _ hjk] at hj
      exact hw.below j r' hj
  txDone _ h := h.of_reps (Evolves.refl.txDone _) rfl
  erased _ h := h.of_reps (Evolves.refl.eraseFrame _) rfl
  dropped hu hw hf := hw.of_reps (Evolves.refl.putFrame _ fun _ =>
    have ⟨hp, hr, hk⟩ := hu.range.frame (mem_of_sfind hf)
    ⟨hp, hr, hk⟩) rfl
  freed {u} k h := by
    refine ⟨(Evolves.refl.eraseRep k).stores h.canon, (Evolves.refl.eraseRep k).range h.range, fun j r hj => ?_⟩
    by_cases hjk : k = j
    · subst hjk
      rw [show State.rep { u with reps := serase u.reps k } k = _ from sfind_serase_self _ _ _ h.canon.reps] at hj
      cases hj
    · rw [show State.rep { u with reps := serase u.reps k } j = _ from sfind_serase_ne _ _ _ hjk] at hj
      exact h.below j r hj

theorem queueProof : QueueProof (RepsBelow s) where
  toPathProof := pathProof
  sent _ _ h := h.of_reps (Evolves.refl.emit _) rfl
  qcounts _ h := h.of_reps (Evolves.refl.count _) rfl
  flushAdd {u} p h := h.of_reps (Evolves.refl.flushAdd p) (by
    have hf := (FwdOnly.refl (s := u)).flushAdd p
    rw [FwdOnly] at hf
    rw [hf])

theorem actProof : ActProof (RepsBelow s) where
  toPathProof := pathProof
  acounts _ h := h.of_reps (Evolves.refl.count _) rfl
  placed {u id f} n hf hcls h := by
    refine h.of_reps (u := u) ?_ rfl
    refine Evolves.refl.frames rfl (skeysFrom_sinsert _ _ _ _ (fun _ hx => nomatch hx)) fun hr kv hm => (mem_sinsert hm).elim (fun e => ?_) hr.frame
    rw [e]
    exact hf.inRange hcls hr

/-- A replica that is gone stays gone. -/
theorem gone (h : RepsBelow s u) {k : Nat} (hk : s.rep k = none) : u.rep k = none := by
  cases hr : u.rep k with
  | none => rfl
  | some r =>
    obtain ⟨b, hb⟩ := h.below k r hr
    rw [hk] at hb
    cases hb

end RepsBelow

/-- A released replica has left. -/
theorem release_gone (hs : StoresCanonical s) (hr : FramesInRange s) (k : Nat) : (s.release k).rep k = none := by
  unfold State.release
  split
  · assumption
  · next r hk =>
    extract_lets u1 u2 u3
    have h1 : RepsBelow s u1 := keep_ite (RepsBelow.pathProof.frameYields (.refl hs hr)) (.refl hs hr)
    have h2 : RepsBelow s u2 := RepsBelow.pathProof.freed k h1
    have hg : u2.rep k = none := sfind_serase_self _ _ _ h1.canon.reps
    have h3 : RepsBelow u2 u3 := keep_ite (RepsBelow.pathProof.txDone _ (.refl h2.canon h2.range)) (.refl h2.canon h2.range)
    exact (RepsBelow.pathProof.checkGone _ h3).gone hg

theorem stompRep_gone (hs : StoresCanonical s) (hr : FramesInRange s) (k : Nat) : (s.stompRep k).rep k = none := by
  unfold State.stompRep
  split
  · assumption
  · extract_lets sent
    exact release_gone (((Evolves.refl.emit _).count _).stores hs) (((Evolves.refl.emit _).count _).range hr) k

/-- No replica of a killed frame stays. -/
theorem killReplicas_gone (hs : StoresCanonical s) (hr : FramesInRange s) (id : Nat) : (s.killReplicas id).repsOf id = [] := by
  have hfold : ∀ (l : List (Nat × Replica)) (u : State), RepsBelow s u → ∀ kv ∈ l,
      (l.foldl (fun s kv => if kv.2.tx.isSome then s.stompRep kv.1 else s.release kv.1) u).rep kv.1 = none := by
    intro l
    induction l with
    | nil => exact fun _ _ _ hkv => nomatch hkv
    | cons x l ih =>
      intro u hu kv hkv
      have hstep : RepsBelow s (if x.2.tx.isSome then u.stompRep x.1 else u.release x.1) :=
        keep_ite (RepsBelow.queueProof.stompRep _ hu) (RepsBelow.queueProof.release _ hu)
      rcases List.mem_cons.mp hkv with rfl | hkv
      · have hg : State.rep (if kv.2.tx.isSome then u.stompRep kv.1 else u.release kv.1) kv.1 = none := by
          split
          · exact stompRep_gone hu.canon hu.range _
          · exact release_gone hu.canon hu.range _
        refine RepsBelow.gone (foldl_keeps l _ (.refl hstep.canon hstep.range) fun v y _ hv => ?_) hg
        exact keep_ite (RepsBelow.queueProof.stompRep _ hv) (RepsBelow.queueProof.release _ hv)
      · exact ih _ hstep kv hkv
  have hb : RepsBelow s (s.killReplicas id) := RepsBelow.queueProof.killReplicas id (.refl hs hr)
  refine List.filter_eq_nil_iff.mpr fun kv hkv hid => ?_
  have hk := rep_of_mem hb.canon hkv
  obtain ⟨b, hb'⟩ := hb.below _ _ hk
  have hm : (kv.1, { kv.2 with yielded := b }) ∈ s.repsOf id := List.mem_filter.mpr ⟨mem_of_sfind hb', hid⟩
  have hn := hfold _ s (.refl hs hr) _ hm
  rw [show State.rep (s.killReplicas id) kv.1 = none from hn] at hk
  cases hk

end Sys2Proof
end

section
/-! PROOF. The end of a received frame (R175, R179). -/
namespace Sys2Proof

open Sys2Proof.Machine

set_option Elab.async false

variable {s u v w : State} {id : Nat} {f : Frame}

/-! ## A frame that is killed -/

/-- The frame, where it is still in the device, has ended bad. -/
structure EndedBad (id : Nat) (t : State) : Prop where
  canon : StoresCanonical t
  range : FramesInRange t
  bad : ∀ g, t.frame id = some g → g.ended = true ∧ g.bad = true

namespace EndedBad

theorem of_frames (h : EndedBad id u) (hv : Evolves u v) (hf : v.frames = u.frames) : EndedBad id v :=
  ⟨hv.stores h.canon, hv.range h.range, fun g hg => h.bad g (by rwa [State.frame, hf] at hg)⟩

/-- A frame is stored under its number, with the marks that it has. -/
theorem stored (h : EndedBad id u) {k : Nat} {g : Frame} (hv : Evolves u v) (hf : v.frames = sinsert u.frames k g)
    (hg : k = id → g.ended = true ∧ g.bad = true) : EndedBad id v := by
  refine ⟨hv.stores h.canon, hv.range h.range, fun g' hg' => ?_⟩
  rw [State.frame, hf] at hg'
  by_cases hk : k = id
  · subst hk
    rw [sfind_sinsert_self] at hg'
    cases hg'
    exact hg rfl
  · rw [sfind_sinsert_ne _ _ _ _ hk] at hg'
    exact h.bad g' hg'

theorem pathProof : PathProof (EndedBad id) where
  canon h := h.canon
  range h := h.range
  due _ _ _ h := h.of_frames Evolves.refl.of_kept rfl
  xoff _ _ _ h := h.of_frames (Evolves.refl.setFld ..) rfl
  endEpoch {u} h := h.of_frames Evolves.refl.endEpoch (by
    obtain ⟨_, _, he⟩ := endEpoch_eq u
    rw [he]
    rfl)
  counts _ h := h.of_frames (Evolves.refl.count _) rfl
  yielded hu hw hk := hw.of_frames (Evolves.refl.putRep _ fun _ => hu.range.queues _ (mem_of_sfind hk)) rfl
  txDone _ h := h.of_frames (Evolves.refl.txDone _) rfl
  erased {u} k h := by
    refine ⟨(Evolves.refl.eraseFrame k).stores h.canon, (Evolves.refl.eraseFrame k).range h.range, fun g hg => ?_⟩
    by_cases hk : k = id
    · subst hk
      rw [show State.frame { u with frames := serase u.frames k } k = _ from sfind_serase_self _ _ _ h.canon.frames] at hg
      cases hg
    · rw [show State.frame { u with frames := serase u.frames k } id = _ from sfind_serase_ne _ _ _ hk] at hg
      exact h.bad g hg
  dropped hu hw hf := hw.stored (Evolves.refl.putFrame _ fun _ =>
    have ⟨hp, hr, hk⟩ := hu.range.frame (mem_of_sfind hf)
    ⟨hp, hr, hk⟩) rfl fun e => by
      have h := hu.bad _ (e ▸ hf)
      exact h
  freed k h := h.of_frames (Evolves.refl.eraseRep k) rfl

theorem queueProof : QueueProof (EndedBad id) where
  toPathProof := pathProof
  sent _ _ h := h.of_frames (Evolves.refl.emit _) rfl
  qcounts _ h := h.of_frames (Evolves.refl.count _) rfl
  flushAdd {u} p h := h.of_frames (Evolves.refl.flushAdd p) (by
    have hf := (FwdOnly.refl (s := u)).flushAdd p
    rw [FwdOnly] at hf
    rw [hf])

theorem actProof : ActProof (EndedBad id) where
  toPathProof := pathProof
  acounts _ h := h.of_frames (Evolves.refl.count _) rfl
  placed {u k f} n hf hcls h := by
    refine h.stored (u := u) (k := k) (g := f) ?_ rfl fun e => ?_
    · refine Evolves.refl.frames rfl (skeysFrom_sinsert _ _ _ _ (fun _ hx => nomatch hx)) fun hr kv hm =>
        (mem_sinsert hm).elim (fun e => ?_) hr.frame
      rw [e]
      exact hf.inRange hcls hr
    · obtain ⟨f0, hf0, hk⟩ := hf
      rw [hk.ended, hk.bad]
      exact h.bad _ (e ▸ hf0)

end EndedBad

/-- Counters that a killed frame's leaving may advance. -/
def killCnt (id : Nat) : Prop := queueCnt id ∨ actCnt id

/-- What becomes of a frame that ends bad or as a runt. -/
theorem killBad_leaves (hs : StoresCanonical s) (hr : FramesInRange s) (hf : s.frame id = some f) :
    (s.killBad id f).repsOf id = [] ∧ (∀ g, (s.killBad id f).frame id = some g → g.ended = true ∧ g.bad = true) ∧
      ∀ c, ¬ killCnt c → (s.killBad id f).counter c = s.counter c := by
  have hv : Evolves s (s.putFrame id { f with ended := true, bad := true }) := Evolves.refl.putFrame id fun hr =>
    have ⟨hp, hg, hk⟩ := hr.frame (mem_of_sfind hf)
    ⟨hp, hg, hk⟩
  have hvb : ∀ g, (s.putFrame id { f with ended := true, bad := true }).frame id = some g → g.ended = true ∧ g.bad = true := fun g hg => by
    rw [show State.frame (s.putFrame id { f with ended := true, bad := true }) id = _ from sfind_sinsert_self ..] at hg
    cases hg
    exact ⟨rfl, rfl⟩
  have hvc : ∀ c, (s.putFrame id { f with ended := true, bad := true }).counter c = s.counter c := fun _ => rfl
  unfold State.killBad
  generalize s.putFrame id { f with ended := true, bad := true } = v at hv hvb hvc ⊢
  extract_lets t
  have hvs := hv.stores hs
  have hvr := hv.range hr
  have hno := killReplicas_gone hvs hvr id
  have hmid : Evolves v (v.killReplicas id) := Evolves.refl.killReplicas id
  have hbelow : RepsBelow (v.killReplicas id) (t.dpiRelease f (t.frames.length + 1)) :=
    RepsBelow.actProof.dpiRelease _ _ (RepsBelow.pathProof.checkGone id (.refl (hmid.stores hvs) (hmid.range hvr)))
  have hbad : EndedBad id (t.dpiRelease f (t.frames.length + 1)) :=
    EndedBad.actProof.dpiRelease _ _ (EndedBad.pathProof.checkGone id (EndedBad.queueProof.killReplicas id ⟨hvs, hvr, hvb⟩))
  have hflow : Flows pathReg killCnt v (t.dpiRelease f (t.frames.length + 1)) :=
    have hq : QueueProof (Flows pathReg killCnt v) := Flows.queueProof (fun _ h => h) fun _ h => .inl h
    have ha : ActProof (Flows pathReg killCnt v) := Flows.actProof (fun _ h => h) fun _ h => .inr h
    ha.dpiRelease _ _ (hq.checkGone id (hq.killReplicas id (.refl hvs hvr)))
  refine ⟨List.filter_eq_nil_iff.mpr fun kv hkv hid => ?_, hbad.bad, fun c hc => (hflow.cnts c hc).trans (hvc c)⟩
  obtain ⟨b, hb⟩ := hbelow.below _ _ (rep_of_mem hbelow.canon hkv)
  have hm : (kv.1, { kv.2 with yielded := b }) ∈ (v.killReplicas id).repsOf id := List.mem_filter.mpr ⟨mem_of_sfind hb, hid⟩
  rw [hno] at hm
  cases hm

/-- The receive checks of a port count elsewhere. -/
theorem rxCheck_not_kill {p c : Nat} (hp : p < 1024)
    (hc : c ∈ [C.prtRxRunts p, C.prtRxFcsErrors p, C.prtRxOversize p, C.prtRxStompSeen p, C.prtRxFrames p]) : ¬ killCnt c := by
  simp only [List.mem_cons, List.not_mem_nil, or_false, C.prtRxRunts, C.prtRxFcsErrors, C.prtRxOversize, C.prtRxStompSeen, C.prtRxFrames, C.page] at hc
  simp only [killCnt, queueCnt, actCnt, pathCnt, C.prtTxStomped, C.flushed, C.stale, C.pipDrops, C.fwdDrops, C.page, C.txDrops, C.txFrames,
    C.ladderYield, C.dpiRecirc]
  rintro (((h | h | ⟨r, hr, h⟩) | ⟨q, hq, h | h | h⟩) | ((h | h | ⟨r, hr, h⟩) | ⟨q, hq, h | h⟩ | ⟨r, hr, h⟩ | ⟨r, hr, h⟩)) <;> omega

/-! ## The bad ends -/

theorem exec_frameEndRx (hf : s.frame id = some f) (he : f.ended = false) (hh : f.fromHost = false) :
    exec (.frameEndRx id) s = .next
      (if f.len < 64 then (s.count (C.prtRxRunts f.port)).killBad id f
       else if s.maxFrame f.sel f.port < f.len || f.errBlock || f.errCtl || !fcsGood f.bytes then s.endBad id f
       else if s.isPause f.port f.bytes then s.putFrame id { f with ended := true }
       else if f.stage == Stage.dropped then
         (((s.count (C.prtRxFrames f.port)).putFrame id { f with ended := true }).tryLearn id).checkGone id
       else ((s.count (C.prtRxFrames f.port)).putFrame id { f with ended := true }).tryLearn id) := by
  have hx : exec (.frameEndRx id) s = execFrameEndRx id s := rfl
  rw [hx, execFrameEndRx]
  simp only [hf, he, hh, Bool.or_self, Bool.false_eq_true, if_false]

theorem countedOnce_of_eq {c : Nat} (hs : skeysFrom none s.cnt = true) (h : w.counter c = (s.count c).counter c) : CountedOnce c s w := by
  rw [CountedOnce, h, State.counter_count_self _ _ hs]

/-- The counters at the end of a bad frame, as it is then killed. -/
def badCounted (s : State) (f : Frame) : State :=
  let s := s.count (C.prtRxFcsErrors f.port)
  let s := if s.maxFrame f.sel f.port < f.len then s.count (C.prtRxOversize f.port) else s
  if fcsStomped f.bytes || f.errCtl then s.count (C.prtRxStompSeen f.port) else s

theorem badCounted_rest (s : State) (f : Frame) : badCounted s f = { s with cnt := (badCounted s f).cnt } := by
  unfold badCounted
  extract_lets u1 u2
  have h2 : u2 = { s with cnt := u2.cnt } := keep_ite (P := fun u => u = { s with cnt := u.cnt }) rfl rfl
  clear_value u2
  split
  · rw [h2]
    rfl
  · exact h2

theorem badCounted_evolves (s : State) (f : Frame) : Evolves s (badCounted s f) :=
  have h1 : Evolves s (s.count (C.prtRxFcsErrors f.port)) := Evolves.refl.count _
  have h2 := Evolves.ite (c := (s.count (C.prtRxFcsErrors f.port)).maxFrame f.sel f.port < f.len) (h1.count (C.prtRxOversize f.port)) h1
  Evolves.ite (h2.count _) h2

theorem counter_count_other {c k : Nat} (h : k ≠ c) (s : State) : (s.count c).counter k = s.counter k := State.counter_count_ne _ _ _ (Ne.symm h)

theorem badCounted_counters (hs : StoresCanonical s) (f : Frame) :
    CountedOnce (C.prtRxFcsErrors f.port) s (badCounted s f) ∧
      (if s.maxFrame f.sel f.port < f.len then CountedOnce (C.prtRxOversize f.port) s (badCounted s f)
       else (badCounted s f).counter (C.prtRxOversize f.port) = s.counter (C.prtRxOversize f.port)) ∧
      (if fcsStomped f.bytes = true ∨ f.errCtl = true then CountedOnce (C.prtRxStompSeen f.port) s (badCounted s f)
       else (badCounted s f).counter (C.prtRxStompSeen f.port) = s.counter (C.prtRxStompSeen f.port)) ∧
      (badCounted s f).counter (C.prtRxRunts f.port) = s.counter (C.prtRxRunts f.port) ∧
      (badCounted s f).counter (C.prtRxFrames f.port) = s.counter (C.prtRxFrames f.port) := by
  have hfo : C.prtRxFcsErrors f.port ≠ C.prtRxOversize f.port := by simp only [C.prtRxFcsErrors, C.prtRxOversize, C.page]; omega
  have hfs : C.prtRxFcsErrors f.port ≠ C.prtRxStompSeen f.port := by simp only [C.prtRxFcsErrors, C.prtRxStompSeen, C.page]; omega
  have hos : C.prtRxOversize f.port ≠ C.prtRxStompSeen f.port := by simp only [C.prtRxOversize, C.prtRxStompSeen, C.page]; omega
  have hr : ∀ c ∈ [C.prtRxFcsErrors f.port, C.prtRxOversize f.port, C.prtRxStompSeen f.port],
      C.prtRxRunts f.port ≠ c ∧ C.prtRxFrames f.port ≠ c := by
    simp only [List.mem_cons, List.not_mem_nil, or_false, C.prtRxRunts, C.prtRxFcsErrors, C.prtRxOversize, C.prtRxStompSeen, C.prtRxFrames, C.page]
    rintro c (rfl | rfl | rfl) <;> omega
  have ho : (badCounted s f) = if fcsStomped f.bytes = true ∨ f.errCtl = true then
      (if s.maxFrame f.sel f.port < f.len then (s.count (C.prtRxFcsErrors f.port)).count (C.prtRxOversize f.port)
        else s.count (C.prtRxFcsErrors f.port)).count (C.prtRxStompSeen f.port)
      else if s.maxFrame f.sel f.port < f.len then (s.count (C.prtRxFcsErrors f.port)).count (C.prtRxOversize f.port)
        else s.count (C.prtRxFcsErrors f.port) := by
    unfold badCounted
    simp only [Bool.or_eq_true]
    rfl
  have h1 : skeysFrom none (s.count (C.prtRxFcsErrors f.port)).cnt = true := skeysFrom_sput _ _ _ _ hs.cnt
  obtain ⟨r1, r2⟩ := hr _ (List.mem_cons_self ..)
  obtain ⟨r3, r4⟩ := hr _ (List.mem_cons_of_mem _ (List.mem_cons_self ..))
  obtain ⟨r5, r6⟩ := hr _ (List.mem_cons_of_mem _ (List.mem_cons_of_mem _ (List.mem_cons_self ..)))
  by_cases hst : fcsStomped f.bytes = true ∨ f.errCtl = true <;> by_cases hov : s.maxFrame f.sel f.port < f.len
  · rw [if_pos hst, if_pos hov] at ho
    rw [if_pos hst, if_pos hov, ho]
    refine ⟨countedOnce_of_eq hs.cnt ?_, countedOnce_of_eq hs.cnt ?_, countedOnce_of_eq hs.cnt ?_, ?_, ?_⟩
    · rw [counter_count_other hfs, counter_count_other hfo]
    · rw [counter_count_other hos, State.counter_count_self _ _ h1, State.counter_count_self _ _ hs.cnt, counter_count_other hfo.symm]
    · rw [State.counter_count_self _ _ (skeysFrom_sput _ _ _ _ h1), State.counter_count_self _ _ hs.cnt, counter_count_other hos.symm,
        counter_count_other hfs.symm]
    · rw [counter_count_other r5, counter_count_other r3, counter_count_other r1]
    · rw [counter_count_other r6, counter_count_other r4, counter_count_other r2]
  · rw [if_pos hst, if_neg hov] at ho
    rw [if_pos hst, if_neg hov, ho]
    refine ⟨countedOnce_of_eq hs.cnt ?_, ?_, countedOnce_of_eq hs.cnt ?_, ?_, ?_⟩
    · rw [counter_count_other hfs]
    · rw [counter_count_other hos, counter_count_other hfo.symm]
    · rw [State.counter_count_self _ _ h1, State.counter_count_self _ _ hs.cnt, counter_count_other hfs.symm]
    · rw [counter_count_other r5, counter_count_other r1]
    · rw [counter_count_other r6, counter_count_other r2]
  · rw [if_neg hst, if_pos hov] at ho
    rw [if_neg hst, if_pos hov, ho]
    refine ⟨countedOnce_of_eq hs.cnt ?_, countedOnce_of_eq hs.cnt ?_, ?_, ?_, ?_⟩
    · rw [counter_count_other hfo]
    · rw [State.counter_count_self _ _ h1, State.counter_count_self _ _ hs.cnt, counter_count_other hfo.symm]
    · rw [counter_count_other hos.symm, counter_count_other hfs.symm]
    · rw [counter_count_other r3, counter_count_other r1]
    · rw [counter_count_other r4, counter_count_other r2]
  · rw [if_neg hst, if_neg hov] at ho
    rw [if_neg hst, if_neg hov, ho]
    exact ⟨countedOnce_of_eq hs.cnt rfl, counter_count_other hfo.symm _, counter_count_other hfs.symm _, counter_count_other r1 _,
      counter_count_other r2 _⟩

/-! ## The good end -/

/-- A learning request writes the frame's record, the queue of requests, or the counter of those skipped. -/
theorem tryLearn_good (hf : s.frame id = some f) :
    ∃ g, (s.tryLearn id).frame id = some g ∧ Kin f g ∧ g.stage = f.stage ∧ (s.tryLearn id).regs = s.regs ∧ (s.tryLearn id).reps = s.reps ∧
      KeepsCounters [C.learnSkipped] s (s.tryLearn id) := by
  unfold State.tryLearn
  simp only [hf]
  split
  · next k hk =>
    split
    · refine ⟨{ f with learnKey := none }, ?_, ⟨rfl, rfl, rfl, rfl, rfl⟩, rfl, ?_⟩
      · unfold State.queueLearn
        split
        · exact sfind_sinsert_self ..
        · split <;> exact sfind_sinsert_self ..
      · unfold State.queueLearn
        split
        · exact ⟨rfl, rfl, fun _ _ => rfl⟩
        · split
          · exact ⟨rfl, rfl, fun c hc => counter_count_other (fun e : c = _ => hc (List.mem_singleton.mpr e)) _⟩
          · exact ⟨rfl, rfl, fun _ _ => rfl⟩
    · exact ⟨f, hf, .refl, rfl, rfl, rfl, fun _ _ => rfl⟩
  · exact ⟨f, hf, .refl, rfl, rfl, rfl, fun _ _ => rfl⟩

theorem checkGone_wire_cnt (hs : s.regsOk) (hf : s.frame id = some f) (he : f.ended = true) (hh : f.fromHost = false) :
    (s.checkGone id).cnt = s.cnt := by
  unfold State.checkGone
  split
  · exact (frameGone_wire hs hf he hh).2.1
  · rfl

/-- Settles O29: bad frames and runts by `killBad_leaves`, good ones by `tryLearn_good`. -/
theorem frameEnds : Obligations.FrameEnds := by
  unfold Obligations.FrameEnds
  intro s id f hs hr hf he hh
  have hp : f.port < 1024 := hr.ports _ (mem_of_sfind hf)
  have hx := exec_frameEndRx hf he hh
  refine ⟨fun hl => ?_, fun hl hbad => ?_, fun hl hm hb hc hg => ⟨fun hpa => ?_, fun hpa => ?_⟩⟩
  · rw [if_pos hl] at hx
    have hev : Evolves s (s.count (C.prtRxRunts f.port)) := Evolves.refl.count _
    obtain ⟨h1, h2, h3⟩ := killBad_leaves (hev.stores hs) (hev.range hr) (id := id) (f := f) hf
    refine ⟨_, hx, countedOnce_of_eq hs.cnt (h3 _ (rxCheck_not_kill hp (List.mem_cons_self ..))), ⟨h1, h2⟩, fun c hc => ?_⟩
    refine (h3 c (rxCheck_not_kill hp (List.mem_cons_of_mem _ hc))).trans (counter_count_other ?_ _)
    simp only [List.mem_cons, List.not_mem_nil, or_false, C.prtRxRunts, C.prtRxFcsErrors, C.prtRxOversize, C.prtRxStompSeen, C.prtRxFrames,
      C.page] at hc ⊢
    omega
  · rw [if_neg (Nat.not_lt.mpr hl), if_pos (by simpa [or_assoc] using hbad)] at hx
    have hev := badCounted_evolves s f
    have hfr : (badCounted s f).frame id = some f := by
      rw [badCounted_rest]
      exact hf
    obtain ⟨h1, h2, h3⟩ := killBad_leaves (hev.stores hs) (hev.range hr) hfr
    obtain ⟨c1, c2, c3, c4, c5⟩ := badCounted_counters hs f
    have hk : ∀ c ∈ [C.prtRxRunts f.port, C.prtRxFcsErrors f.port, C.prtRxOversize f.port, C.prtRxStompSeen f.port, C.prtRxFrames f.port],
        (s.endBad id f).counter c = (badCounted s f).counter c := fun c hc => h3 c (rxCheck_not_kill hp hc)
    refine ⟨s.endBad id f, hx, (hk _ (by simp)).trans c1, ⟨h1, h2⟩, ?_, ?_, (hk _ (by simp)).trans c4, (hk _ (by simp)).trans c5⟩
    · rw [CountedOnce, hk _ (by simp)]
      exact c2
    · rw [CountedOnce, hk _ (by simp)]
      exact c3
  · rw [if_neg (Nat.not_lt.mpr hl), if_neg (by simp [hb, hc, hg, hm]), if_pos hpa] at hx
    exact ⟨_, hx, sfind_sinsert_self .., fun k hk => sfind_sinsert_ne _ _ _ _ (Ne.symm hk), rfl⟩
  · rw [if_neg (Nat.not_lt.mpr hl), if_neg (by simp [hb, hc, hg, hm]), if_neg (by simp [hpa])] at hx
    generalize hu : (s.count (C.prtRxFrames f.port)).putFrame id { f with ended := true } = u at hx
    have hur : u.regsOk := hu ▸ hs.regs
    have huf : u.frame id = some { f with ended := true } := hu ▸ sfind_sinsert_self ..
    have huc : u.cnt = (s.count (C.prtRxFrames f.port)).cnt := hu ▸ rfl
    obtain ⟨g, hgf, hk, hst, hregs, hreps, hcnt⟩ := tryLearn_good huf
    have hall : ∀ t : State, t.cnt = (u.tryLearn id).cnt → CountedOnce (C.prtRxFrames f.port) s t ∧
        KeepsCounters [C.prtRxFrames f.port, C.learnSkipped] s t := fun t ht => by
      refine ⟨countedOnce_of_eq hs.cnt ?_, fun c hc => ?_⟩
      · exact ((counter_of_cnt ht _).trans (hcnt _ (by simp [C.prtRxFrames, C.page, C.learnSkipped]; omega))).trans (counter_of_cnt huc _)
      · simp only [List.mem_cons, List.not_mem_nil, or_false, not_or] at hc
        exact (((counter_of_cnt ht _).trans (hcnt _ (by simpa using hc.2))).trans (counter_of_cnt huc _)).trans (counter_count_other hc.1 _)
    by_cases hd : f.stage = Stage.dropped
    · rw [if_pos (by simp [hd])] at hx
      have hgr : (u.tryLearn id).regsOk := by rw [State.regsOk, hregs]; exact hur
      obtain ⟨h1, h2⟩ := hall _ (checkGone_wire_cnt hgr hgf hk.ended (hk.fromHost.trans hh))
      exact ⟨_, hx, h1, h2, fun hn => absurd hd hn⟩
    · rw [if_neg (by simp [hd])] at hx
      obtain ⟨h1, h2⟩ := hall _ rfl
      exact ⟨_, hx, h1, h2, fun _ => ⟨hregs.trans (hu ▸ rfl), hreps.trans (hu ▸ rfl), g, hgf, hk.ended, hk.bytes, hst⟩⟩

end Sys2Proof
end

section
/-! PROOF. What a block's reset leaves (R11, R51, R52, R79). -/
namespace Sys2Proof

open Sys2Proof.Machine

set_option Elab.async false

variable {s t u v : State} {n : Nat} {r q : Reg}

/-! ## The registers of a block -/

theorem addr_of_decodeAddr {a : Nat} (h : decodeAddr a = some r) : r.addr = a := (registerMapDecodes.2.1 a r h).1

/-- A register that shows only its block, and holds no fuse: its Reset value does not depend on the rest of the device. -/
structure OfBlock (n : Nat) (r : Reg) : Prop where
  decodes : decodeAddr r.addr = some r
  block : r.addr / 0x400 = n
  kept : r.keptFields = []
  fused : r.fusedFields = []

theorem OfBlock.eq_of_addr (h : OfBlock n r) (hq : decodeAddr q.addr = some q) (ha : q.addr = r.addr) : q = r := by
  rw [ha, h.decodes] at hq
  exact (Option.some.inj hq).symm

theorem blockWord_eq (hi : s.boot.image = none) (h : OfBlock n r) (old : Word) : s.blockWord r old = r.resetWord := by
  simp only [State.blockWord, hi, Reg.keptMask, h.kept, h.fused, maskOfFields, List.foldl_nil]
  rw [show ~~~(0#32 ||| 0#32) = BitVec.allOnes 32 by decide, show (0#32 ||| 0#32 : Word) = 0#32 by decide, BitVec.and_allOnes, BitVec.and_zero,
    BitVec.or_zero]

theorem mem_blockRegs {m : SMap Word} (hi : s.boot.image = none) :
    r ∈ s.blockRegs m n ↔ ∃ kv ∈ m, kv.1 / 0x400 = n ∧ decodeAddr kv.1 = some r := by
  have hfold : ∀ (l acc : List Reg), r ∈ l.foldl (fun acc r => if acc.contains r then acc else r :: acc) acc ↔ r ∈ l ∨ r ∈ acc := by
    intro l
    induction l with
    | nil => simp
    | cons x l ih =>
      intro acc
      rw [List.foldl_cons, ih]
      split
      · next hc =>
        have hx : x ∈ acc := by simpa using hc
        constructor
        · rintro (h | h)
          · exact .inl (List.mem_cons_of_mem _ h)
          · exact .inr h
        · rintro (h | h)
          · rcases List.mem_cons.mp h with rfl | h
            · exact .inr hx
            · exact .inl h
          · exact .inr h
      · simp only [List.mem_cons]
        tauto
  simp only [State.blockRegs, hi, hfold, List.append_nil, List.not_mem_nil, or_false, List.mem_filterMap]
  constructor
  · rintro ⟨kv, hm, hk⟩
    split at hk
    · next hb => exact ⟨kv, hm, hb, hk⟩
    · cases hk
  · rintro ⟨kv, hm, hb, hk⟩
    exact ⟨kv, hm, by rw [if_pos hb]; exact hk⟩

theorem decodes_of_mem_blockRegs {m : SMap Word} (hi : s.boot.image = none) (h : r ∈ s.blockRegs m n) : decodeAddr r.addr = some r := by
  obtain ⟨kv, -, -, hk⟩ := (mem_blockRegs hi).mp h
  rw [addr_of_decodeAddr hk]
  exact hk

/-- A register that no store lists reads its Reset value. -/
theorem sgetD_of_not_mem_blockRegs {m : SMap Word} (hi : s.boot.image = none) (h : OfBlock n r) (hm : r ∉ s.blockRegs m n) :
    sgetD m r.addr r.resetWord = r.resetWord := by
  unfold sgetD
  cases hf : sfind m r.addr with
  | none => rfl
  | some x => exact absurd ((mem_blockRegs hi).mpr ⟨_, mem_of_sfind hf, h.block, h.decodes⟩) hm

theorem puts_get (f : State → Reg → Word) (l : List Reg) (hl : ∀ x ∈ l, x.addr = r.addr → x = r) (hf : ∀ v, f v r = r.resetWord)
    (hs : s.regsOk) (h : r ∈ l ∨ s.get r = r.resetWord) : (l.foldl (fun t x => t.put x (f t x)) s).get r = r.resetWord := by
  induction l generalizing s with
  | nil => exact h.resolve_left (List.not_mem_nil)
  | cons x l ih =>
    refine ih (fun y hy => hl y (List.mem_cons_of_mem _ hy)) (skeysFrom_sput _ _ _ _ hs) ?_
    by_cases hx : x.addr = r.addr
    · obtain rfl := hl x (List.mem_cons_self ..) hx
      exact .inr (by rw [State.get_put_self _ _ _ hs, hf])
    · refine (h.imp_left fun hm => (List.mem_cons.mp hm).resolve_left fun e => hx (by rw [e])).imp id fun hg => ?_
      rw [State.get_put_ne _ _ _ _ hx, hg]

theorem puts_rest (f : State → Reg → Word) (l : List Reg) (s : State) :
    l.foldl (fun t x => t.put x (f t x)) s = { s with
      regs := (l.foldl (fun t x => t.put x (f t x)) s).regs, masked := (l.foldl (fun t x => t.put x (f t x)) s).masked } :=
  foldl_keeps (P := fun u => u = { s with regs := u.regs, masked := u.masked }) l _ rfl fun u x _ hu => by
    rw [hu]
    rfl

theorem stPuts_get (e : Nat) (w : Reg → Word) (l : List Reg) (hl : ∀ x ∈ l, x.addr = r.addr → x = r) (hf : w r = r.resetWord)
    (hs : StoresCanonical s) (h : r ∈ l ∨ s.stGet e r = r.resetWord) : (l.foldl (fun t x => t.stPut e x (w x)) s).stGet e r = r.resetWord := by
  induction l generalizing s with
  | nil => exact h.resolve_left (List.not_mem_nil)
  | cons x l ih =>
    refine ih (fun y hy => hl y (List.mem_cons_of_mem _ hy)) ((Evolves.refl.stPut ..).stores hs) ?_
    by_cases hx : x.addr = r.addr
    · obtain rfl := hl x (List.mem_cons_self ..) hx
      exact .inr (by rw [stGet_stPut_self hs, hf])
    · refine (h.imp_left fun hm => (List.mem_cons.mp hm).resolve_left fun e => hx (by rw [e])).imp id fun hg => ?_
      rw [stGet_stPut_ne _ _ _ hx, hg]

theorem stPut_rest (e : Nat) (r : Reg) (x : Word) (s : State) :
    s.stPut e r x = { s with st0 := if e = 0 then (s.stPut e r x).st0 else s.st0, st1 := if e = 0 then s.st1 else (s.stPut e r x).st1 } := by
  unfold State.stPut
  split <;> rfl

theorem stPuts_rest (e : Nat) (w : Reg → Word) (l : List Reg) (s : State) :
    l.foldl (fun t x => t.stPut e x (w x)) s = { s with
      st0 := if e = 0 then (l.foldl (fun t x => t.stPut e x (w x)) s).st0 else s.st0
      st1 := if e = 0 then s.st1 else (l.foldl (fun t x => t.stPut e x (w x)) s).st1 } :=
  foldl_keeps (P := fun u => u = { s with st0 := if e = 0 then u.st0 else s.st0, st1 := if e = 0 then s.st1 else u.st1 }) l _
    (by split <;> rfl) fun u x _ hu => by
      rw [stPut_rest, hu]
      split <;> rfl

/-- The block's registers read their Reset values in the register file and in both banks. -/
def BlockClear (n : Nat) (s : State) : Prop :=
  ∀ r, OfBlock n r → (r.isST = false → s.get r = r.resetWord) ∧ (r.isST = true → s.stGet 0 r = r.resetWord ∧ s.stGet 1 r = r.resetWord)

theorem resetBlockRegs_clear (hs : StoresCanonical s) (hi : s.boot.image = none) (hj : s.jobs = []) : BlockClear n (s.resetBlockRegs n) := by
  intro r hr
  have hl : ∀ {m : SMap Word} {p : Reg → Bool}, ∀ x ∈ (s.blockRegs m n).filter p, x.addr = r.addr → x = r := fun x hx ha =>
    hr.eq_of_addr (decodes_of_mem_blockRegs hi (List.mem_of_mem_filter hx)) ha
  have hin : ∀ (m : SMap Word) (p : Reg → Bool), p r = true → r ∈ (s.blockRegs m n).filter p ∨ sgetD m r.addr r.resetWord = r.resetWord :=
    fun m p hp => by
      by_cases hm : r ∈ s.blockRegs m n
      · exact .inl (List.mem_filter.mpr ⟨hm, hp⟩)
      · exact .inr (sgetD_of_not_mem_blockRegs hi hr hm)
  simp only [State.resetBlockRegs, hj]
  have hev : Evolves s (((s.blockRegs s.regs n).filter fun r => !r.isST).foldl (fun (t : State) r => t.put r (s.blockWord r (s.get r))) s) :=
    Evolves.refl.foldl fun _ _ hv => hv.put ..
  have hput := puts_rest (fun _ r => s.blockWord r (s.get r)) ((s.blockRegs s.regs n).filter fun r => !r.isST) s
  constructor
  · intro hst
    have h1 := puts_get (fun _ r => s.blockWord r (s.get r)) ((s.blockRegs s.regs n).filter fun r => !r.isST) hl (fun _ => blockWord_eq hi hr _) hs.regs
      (hin s.regs (fun r => !r.isST) (by simp [hst]))
    rw [State.get, stPuts_rest 1 fun r => s.blockWord r 0#32, stPuts_rest 0 fun r => s.blockWord r 0#32]
    exact h1
  · intro hst
    generalize hu : ((s.blockRegs s.regs n).filter fun r => !r.isST).foldl (fun (t : State) r => t.put r (s.blockWord r (s.get r))) s = u at hev hput
    have hus := hev.stores hs
    have h0 : ∀ e, u.stGet e r = s.stGet e r := fun e => by
      rw [hput]
      rfl
    have hst0 := hin s.st0 Reg.isST hst
    have hst1 := hin s.st1 Reg.isST hst
    have hv0 := stPuts_get 0 (fun r => s.blockWord r 0#32) ((s.blockRegs s.st0 n).filter Reg.isST) hl (blockWord_eq hi hr _) hus
      (hst0.imp_right (h0 0).trans)
    have hr0 := stPuts_rest 0 (fun r => s.blockWord r 0#32) ((s.blockRegs s.st0 n).filter Reg.isST) u
    have hvs : StoresCanonical (((s.blockRegs s.st0 n).filter Reg.isST).foldl (fun t r => t.stPut 0 r (s.blockWord r 0#32)) u) :=
      (Evolves.refl.foldl fun _ _ hv => hv.stPut ..).stores hus
    generalize ((s.blockRegs s.st0 n).filter Reg.isST).foldl (fun t r => t.stPut 0 r (s.blockWord r 0#32)) u = v at hv0 hr0 hvs
    have h1 : v.stGet 1 r = s.stGet 1 r := by
      rw [← h0 1, hr0]
      rfl
    have hw1 := stPuts_get 1 (fun r => s.blockWord r 0#32) ((s.blockRegs s.st1 n).filter Reg.isST) hl (blockWord_eq hi hr _) hvs
      (hst1.imp_right h1.trans)
    refine ⟨?_, hw1⟩
    rw [stPuts_rest 1 (fun r => s.blockWord r 0#32)]
    exact hv0

/-- Only registers, staged ones among them, have changed. -/
def OnlyRegs (s t : State) : Prop := t = { s with regs := t.regs, masked := t.masked, st0 := t.st0, st1 := t.st1 }

theorem resetBlockRegs_rest (hj : s.jobs = []) :
    OnlyRegs s (s.resetBlockRegs n) := by
  simp only [State.resetBlockRegs, hj]
  have hst : ∀ (e : Nat) (l : List Reg) (u : State), OnlyRegs s u → OnlyRegs s (l.foldl (fun t r => t.stPut e r (s.blockWord r 0#32)) u) :=
    fun e l u hu => foldl_keeps l _ hu fun v x _ hv => by
      rw [OnlyRegs] at hv ⊢
      rw [stPut_rest, hv]
  exact hst 1 _ _ (hst 0 _ _ (foldl_keeps (P := OnlyRegs s) _ _ rfl fun v x _ hv => by
    rw [OnlyRegs] at hv ⊢
    rw [hv]
    rfl))

/-! ## What starts again -/

namespace BlockClear

variable {f : Fld} {x : Nat}

theorem get (h : BlockClear n s) (hr : OfBlock n r) (hst : r.isST = false) : s.get r = r.resetWord := (h r hr).1 hst

theorem of_regs (h : BlockClear n s) (hr : t.regs = s.regs := by rfl) (h0 : t.st0 = s.st0 := by rfl) (h1 : t.st1 = s.st1 := by rfl) : BlockClear n t := by
  intro q hq
  obtain ⟨ha, hb⟩ := h q hq
  refine ⟨fun hs => (get_of_regs hr q).trans (ha hs), fun hs => ?_⟩
  rw [State.stGet, State.stGet, State.bank, State.bank, h0, h1]
  exact hb hs

theorem setFld_out (h : BlockClear n s) (ho : r.addr / 0x400 ≠ n) : BlockClear n (s.setFld r f x) := by
  intro q hq
  have hne : r.addr ≠ q.addr := fun e => ho (e ▸ hq.block)
  exact ⟨fun hs => (State.get_setFld_ne _ _ _ _ _ hne).trans ((h q hq).1 hs), (h q hq).2⟩

/-- A field is stored that holds what it held after the reset. -/
theorem setFld_same (h : BlockClear n s) (hs : s.regsOk) (hr : OfBlock n r) (hst : r.isST = false) (hf : f.set r.resetWord x = r.resetWord) :
    BlockClear n (s.setFld r f x) := by
  intro q hq
  refine ⟨fun hqs => ?_, (h q hq).2⟩
  by_cases ha : r.addr = q.addr
  · obtain rfl := hq.eq_of_addr hr.decodes ha
    rw [State.get_setFld_self _ _ _ _ hs, h.get hr hst, hf]
  · exact (State.get_setFld_ne _ _ _ _ _ ha).trans ((h q hq).1 hqs)

end BlockClear

theorem mem_allPorts_lt {p : Nat} (h : p ∈ s.allPorts) : p < 1024 := by
  simp only [State.allPorts, List.mem_flatMap, List.mem_range] at h
  obtain ⟨b, hb, hp⟩ := h
  split at hp
  · obtain ⟨i, hi, rfl⟩ := List.mem_map.mp hp
    have hle := Nat.div_mul_le_self 8 (s.blkLanes b)
    have hpos : 0 < s.blkLanes b := Nat.pos_of_ne_zero fun e => by
      rw [e] at hi
      simp at hi
    have : (i + 1) * s.blkLanes b ≤ 8 := Nat.le_trans (Nat.mul_le_mul_right _ (List.mem_range.mp hi)) hle
    rw [Nat.add_mul] at this
    omega
  · cases hp

theorem ofBlock_timPort {p b : Nat} (hp : p < 1024) (hb : p / 32 = b) :
    OfBlock (blockNo 7 1 b) (.TIM_PORT_STATUS p) ∧ OfBlock (blockNo 7 1 b) (.TIM_PTP_PORT p) := by
  refine ⟨⟨decodeAddr_addr (decide_eq_true hp) nofun, ?_, rfl, rfl⟩, ⟨decodeAddr_addr (decide_eq_true hp) nofun, ?_, rfl, rfl⟩⟩
  all_goals
    simp only [Reg.addr, addrOf, blockNo]
    omega

theorem l1Eval_clear {p b : Nat} (h : BlockClear (blockNo 7 1 b) s) (hs : s.regsOk) (hp : p < 1024) (hb : p / 32 = b) :
    BlockClear (blockNo 7 1 b) (s.l1Eval p) := by
  obtain ⟨h1, h2⟩ := ofBlock_timPort hp hb
  have hcur : s.stGet s.curSel (.TIM_PTP_PORT p) = (Reg.TIM_PTP_PORT p).resetWord := by
    obtain ⟨ha, hb⟩ := (h _ h2).2 rfl
    rcases Nat.lt_succ_iff_lt_or_eq.mp (curSel_lt s) with hc | hc
    · rw [Nat.lt_one_iff.mp hc, ha]
    · rw [hc, hb]
  have hoff : s.l1Enabled p = false := by
    simp only [State.l1Enabled, State.cFld, State.stFld, hcur]
    simp [Reg.resetWord, Fld.get]
  unfold State.l1Eval
  simp only [hoff, Bool.not_false, if_true]
  exact h.setFld_same hs h1 rfl (show F.TIM_PORT_STATUS_L1_STATE.set 0#32 0 = 0#32 by decide)

theorem resume_timPorts {b : Nat} (h : BlockClear (blockNo 7 1 b) s) (hs : s.regsOk) : BlockClear (blockNo 7 1 b) (s.resume 7 1 b) := by
  have hg : ∀ (l : List Nat) (u : State), BlockClear (blockNo 7 1 b) u → BlockClear (blockNo 7 1 b) (u.gatesHeld l) := fun l u hu =>
    foldl_keeps l _ hu fun v p _ hv => by
      split
      · exact hv.of_regs
      · exact hv
  refine hg _ _ ?_
  split
  · refine (foldl_keeps (P := fun u => u.regsOk ∧ BlockClear (blockNo 7 1 b) u) _ _ ⟨hs, h⟩ fun v p hp hv => ?_).2
    obtain ⟨hp1, hp2⟩ := List.mem_filter.mp hp
    refine ⟨?_, l1Eval_clear hv.2 hv.1 (mem_allPorts_lt hp1) (by simpa using hp2)⟩
    unfold State.l1Eval
    exact keep_ite (regsOk_setFld hv.1) (keep_ite (regsOk_setFld hv.1) hv.1)
  · exact h

theorem holdoverEstimate_empty (h : s.tim.sel.store = []) : s.holdoverEstimate = s.setFld .TIM_SEL_STATUS F.TIM_SEL_STATUS_DRIFT_VALID 0 := by
  simp [State.holdoverEstimate, h, Machine.slope, fitSums]

theorem ofBlock_selection : OfBlock (blockNo 7 3 0) .TIM_SEL_STATUS ∧ OfBlock (blockNo 7 3 0) .TIM_HO_CFG :=
  ⟨⟨decodeAddr_addr rfl nofun, rfl, rfl, rfl⟩, ⟨decodeAddr_addr rfl nofun, rfl, rfl, rfl⟩⟩

theorem selFlags_clear (h : BlockClear (blockNo 7 3 0) s) (hs : s.regsOk) (he : s.tim.sel.store = []) : BlockClear (blockNo 7 3 0) s.selFlags := by
  obtain ⟨h1, h2⟩ := ofBlock_selection
  unfold State.selFlags
  extract_lets need v
  have hneed : ¬ need ≤ s.tim.sel.store.length := by
    have hw : s.get .TIM_HO_CFG = 0x18102384#32 := h.get h2 rfl
    simp only [need, State.fld, hw, he]
    decide
  have hv : BlockClear (blockNo 7 3 0) v := by
    unfold v
    rw [if_neg hneed]
    exact h.setFld_same hs h1 rfl (by decide)
  clear_value v
  refine foldl_keeps _ _ hv fun w k hk hw => hw.setFld_out ?_
  have hk8 := List.mem_range.mp hk
  simp only [Reg.addr, addrOf, blockNo]
  omega

theorem resume_selection (h : BlockClear (blockNo 7 3 0) s) (hs : s.regsOk) (he : s.tim.sel.store = []) :
    BlockClear (blockNo 7 3 0) (s.resume 7 3 0) := by
  have hx : s.resume 7 3 0 = s.holdoverEstimate.selFlags := rfl
  rw [hx, holdoverEstimate_empty he]
  exact selFlags_clear (h.setFld_same hs ofBlock_selection.1 rfl (by decide)) (regsOk_setFld hs) he

theorem ofBlock_avs : OfBlock (blockNo 8 0 2) .HLT_AVS_STATUS ∧ OfBlock (blockNo 8 0 2) .HLT_AVS_CFG :=
  ⟨⟨decodeAddr_addr rfl nofun, rfl, rfl, rfl⟩, ⟨decodeAddr_addr rfl nofun, rfl, rfl, rfl⟩⟩

theorem avsWritten_clear (h : BlockClear (blockNo 8 0 2) s) (hs : s.regsOk) : BlockClear (blockNo 8 0 2) s.avsWritten := by
  obtain ⟨h1, h2⟩ := ofBlock_avs
  have hreq : s.avs F.HLT_AVS_STATUS_REQUEST = 700 := by
    rw [State.avs, State.fld, h.get h1 rfl]
    decide
  have hfloor : s.avsCfg F.HLT_AVS_CFG_FLOOR = 700 := by
    rw [State.avsCfg, State.fld, h.get h2 rfl]
    decide
  have hceil : s.avsCfg F.HLT_AVS_CFG_CEIL = 800 := by
    rw [State.avsCfg, State.fld, h.get h2 rfl]
    decide
  have hmv : (if s.running ∧ s.avsCfg F.HLT_AVS_CFG_EN = 0 then s.avsCfg F.HLT_AVS_CFG_FLOOR
      else max (s.avsCfg F.HLT_AVS_CFG_FLOOR) (min (s.avsCfg F.HLT_AVS_CFG_CEIL) (s.avs F.HLT_AVS_STATUS_REQUEST))) = 700 := by
    rw [hreq, hfloor, hceil]
    split <;> rfl
  have hset : BlockClear (blockNo 8 0 2) (s.setRequest 700) := by
    unfold State.setRequest
    extract_lets old v w x soon
    have hv : v = s := if_pos hreq
    have hw : BlockClear (blockNo 8 0 2) w ∧ w.regsOk := by
      unfold w
      rw [hv]
      exact ⟨h.setFld_same hs h1 rfl (by decide), regsOk_setFld hs⟩
    have hcw : w.avsCfg F.HLT_AVS_CFG_CEIL ≠ 700 := by
      rw [State.avsCfg, State.fld, hw.1.get h2 rfl]
      decide
    have hx : BlockClear (blockNo 8 0 2) x := by
      unfold x
      rw [if_neg (Ne.symm hcw)]
      exact hw.1.setFld_same hw.2 h1 rfl (by decide)
    rw [if_pos (by simp [old, hreq])]
    exact hx
  unfold State.avsWritten
  rw [if_neg (by rw [hreq]; decide)]
  exact (congrArg s.setRequest hmv).symm ▸ hset

/-- What starts again in a block apart from lanes, ports and interrupts leaves its registers at their Reset values. -/
theorem resume_clear {d w b : Nat} (h : BlockClear (blockNo d w b) s) (hs : s.regsOk) (hj : s.jobs = []) (h2 : d ≠ 2) (h3 : d ≠ 3)
    (hirq : ¬ (d = 0 ∧ w = 3)) (hcal : d = 7 ∧ w = 4 ∧ b = 16 → s.tim.ticking = false) (hsel : d = 7 ∧ w = 3 ∧ b = 0 → s.tim.sel.store = []) :
    BlockClear (blockNo d w b) (s.resume d w b) := by
  by_cases h71 : d = 7 ∧ w = 1
  · obtain ⟨rfl, rfl⟩ := h71
    exact resume_timPorts h hs
  by_cases h73 : d = 7 ∧ w = 3 ∧ b = 0
  · obtain ⟨rfl, rfl, rfl⟩ := h73
    exact resume_selection h hs (hsel ⟨rfl, rfl, rfl⟩)
  by_cases h80 : d = 8 ∧ w = 0 ∧ b = 2
  · obtain ⟨rfl, rfl, rfl⟩ := h80
    exact avsWritten_clear (h.of_regs (t := s.askRequest)) hs
  unfold State.resume
  split
  · exact absurd ⟨rfl, rfl⟩ hirq
  · exact absurd rfl h2
  · exact absurd rfl h3
  · simpa [State.goOn, hj] using h
  · exact keep_ite h.of_regs h
  · exact absurd ⟨rfl, rfl⟩ h71
  · rw [if_neg fun e => h73 ⟨rfl, rfl, e⟩]
    exact h
  · rw [if_neg fun e => by simpa [hcal ⟨rfl, rfl, e.1⟩] using e.2]
    exact h
  · rw [if_neg fun e => h80 ⟨rfl, rfl, e⟩]
    exact h
  · exact h

end Sys2Proof
end

section
/-! PROOF. Resets of blocks and of the device (R11, R48 to R52, R65, R79, R524). -/
namespace Sys2Proof

open Sys2Proof.Machine

set_option Elab.async false

variable {s t u v : State} {n : Nat}

/-! ## What a frame's leaving touches -/

/-- Nothing has changed but registers, counters and the stores of the data path. -/
def PathOnly (s t : State) : Prop :=
  t = { s with
    regs := t.regs, masked := t.masked, st0 := t.st0, st1 := t.st1, cnt := t.cnt, frames := t.frames, reps := t.reps, rows := t.rows,
    fwd := t.fwd, rings := t.rings, ports := t.ports }

namespace PathOnly

theorem refl : PathOnly s s := rfl

theorem trans (h : PathOnly s u) (h' : PathOnly u v) : PathOnly s v := by
  rw [PathOnly] at *
  rw [h', h]

theorem count (h : PathOnly s u) (id : Nat) : PathOnly s (u.count id) := h.trans rfl
theorem setFld (h : PathOnly s u) (r : Reg) (f : Fld) (x : Nat) : PathOnly s (u.setFld r f x) := h.trans rfl
theorem putRing (h : PathOnly s u) (x : Nat) (r : Ring) : PathOnly s (u.putRing x r) := h.trans rfl

theorem pauseEval (h : PathOnly s u) (p : Nat) : PathOnly s (u.pauseEval p) :=
  h.trans (by
    rw [PathOnly, pauseEval_rest])

theorem checkEpoch (h : PathOnly s u) : PathOnly s u.checkEpoch := by
  refine keep_ite (h.trans ?_) h
  obtain ⟨rows, fwd, he⟩ := endEpoch_eq u
  rw [he]
  rfl

theorem frameGone (h : PathOnly s u) (id : Nat) : PathOnly s (u.frameGone id) := by
  unfold State.frameGone
  split
  · exact h
  · extract_lets u1 u2 u3 u4
    have h1 : PathOnly s u1 := h.trans rfl
    have h2 : PathOnly s u2 := keep_ite (h1.count _) h1
    have h3 : PathOnly s u3 := keep_ite (h2.trans rfl) (h2.trans rfl)
    exact checkEpoch (keep_ite h3 (h3.pauseEval _))

theorem checkGone (h : PathOnly s u) (id : Nat) : PathOnly s (u.checkGone id) := keep_ite (h.frameGone id) h

theorem rxPop (h : PathOnly s u) (r : Nat) : PathOnly s (u.rxPop r) := by
  unfold State.rxPop
  split
  · exact (h.putRing ..).checkGone _
  · exact h

theorem rxFlush (h : PathOnly s u) (r : Nat) : PathOnly s (u.rxFlush r) := foldl_keeps _ _ h fun _ _ _ hv => (hv.count _).rxPop r

theorem ringLost (h : PathOnly s u) (x : Nat) : PathOnly s (u.ringLost x) := by
  unfold State.ringLost
  extract_lets v w
  have hv : PathOnly s v := keep_ite (h.rxFlush x) h
  have hw : PathOnly s w := ((hv.setFld ..).setFld ..).putRing ..
  exact keep_ite hw (hw.trans rfl)

end PathOnly

/-! ## What stands behind a block's registers -/

/-- No commit is under way and no image runs; the tick runs as in `s`, and the holdover store is as in `s`. -/
structure Behind (s u : State) : Prop where
  jobs : u.jobs = []
  image : u.boot.image = none
  ticking : u.tim.ticking = s.tim.ticking
  store : u.tim.sel.store = s.tim.sel.store

namespace Behind

theorem refl (hj : s.jobs = []) (hi : s.boot.image = none) : Behind s s := ⟨hj, hi, rfl, rfl⟩

theorem of_eq (h : Behind s u) (hj : t.jobs = u.jobs := by rfl) (hb : t.boot.image = u.boot.image := by rfl)
    (ht : t.tim.ticking = u.tim.ticking := by rfl) (hs : t.tim.sel.store = u.tim.sel.store := by rfl) : Behind s t :=
  ⟨hj.trans h.jobs, hb.trans h.image, ht.trans h.ticking, hs.trans h.store⟩

theorem pathOnly (h : Behind s u) (hp : PathOnly u t) : Behind s t := by
  rw [PathOnly] at hp
  rw [hp]
  exact h.of_eq

theorem unbindWindow (h : Behind s u) : Behind s u.unbindWindow := keep_ite h.of_eq h

theorem closeSession (h : Behind s u) (k : Nat) : Behind s (u.closeSession k) := by
  rw [closeSession_rest]
  exact h.of_eq

theorem dropTxns (h : Behind s u) : Behind s u.dropTxns := by
  unfold State.dropTxns
  rw [h.jobs]
  exact h.of_eq (by simp [h.jobs])

theorem releaseActive (h : Behind s u) : Behind s u.releaseActive := by
  unfold State.releaseActive
  split
  · exact h.of_eq
  · exact h

theorem clearSlots (h : Behind s u) : Behind s u.clearSlots := by
  unfold State.clearSlots
  extract_lets v src
  have hv : Behind s v := keep_ite h.of_eq h
  exact hv.of_eq

theorem clearBehind (h : Behind s s) {d w b : Nat} (h2 : d ≠ 2) (h3 : d ≠ 3) (hirq : ¬ (d = 0 ∧ w = 3)) : Behind s (s.clearBehind d w b) := by
  unfold State.clearBehind
  extract_lets ps mbx irq boot pair t lne l tim v lne2 y fwd x fwd2 swc tim2 sel tic hlt
  clear_value t v y
  split
  · exact keep_ite h.of_eq (keep_ite h.of_eq h)
  · refine keep_ite h.unbindWindow ?_
    split
    · exact h.closeSession _
    · exact h
  · exact h.pathOnly (PathOnly.refl.ringLost b)
  · exact absurd ⟨rfl, rfl⟩ hirq
  · exact keep_ite h.of_eq (keep_ite h.dropTxns (keep_ite h.of_eq h))
  · exact absurd rfl h2
  · exact absurd rfl h3
  · exact keep_ite h (keep_ite h.of_eq (keep_ite h.of_eq h))
  · exact keep_ite h.of_eq (keep_ite h.of_eq (keep_ite h.of_eq (keep_ite h.of_eq h)))
  · exact keep_ite h.of_eq (keep_ite h.of_eq (keep_ite h.of_eq (keep_ite h.of_eq h)))
  · exact keep_ite (foldl_keeps _ _ h fun _ _ _ hz => hz.of_eq) h
  · exact keep_ite h.of_eq (keep_ite h.of_eq (keep_ite h.of_eq h))
  · exact h.of_eq
  · exact keep_ite h.of_eq h
  · exact keep_ite (releaseActive h.of_eq) (keep_ite h.clearSlots h)
  · exact keep_ite h.of_eq h.of_eq
  · exact keep_ite h.of_eq (keep_ite h.of_eq (keep_ite h.of_eq h))
  · exact h.of_eq
  · exact h

end Behind

/-! ## Block resets -/

theorem blockReset_request {d w b h : Nat} {x : Word} (hs : StoresCanonical s) (he : ExpertWindow s h) (hp : Passes s h (.BLKCTL d w b) x)
    (hx : F.BLKCTL_RST.get x = 1) :
    exec (.blockResetRequest .window d w b x) s = .next (wrote s (.BLKCTL d w b) x) ∧
      (wrote s (.BLKCTL d w b) x).fld (.BLKCTL d w b) F.BLKCTL_RST = 1 ∧ KeepsRegs [.BLKCTL d w b] s (wrote s (.BLKCTL d w b) x) := by
  have hex : exec (.blockResetRequest .window d w b x) s = .next (s.rowWriteReg .window (.BLKCTL d w b) x) :=
    congrArg Host.Outcome.next (if_pos (by simp [asks, hx]))
  refine ⟨?_, ?_, wrote_keeps s _ _⟩
  · rw [hex, rowWriteReg_expert he hp rfl nofun nofun rfl]
    have hq : (wrote s (.BLKCTL d w b) x).boot.resetReq = none := (wrote_resetReq s _ _).trans he.noReset
    exact congrArg Host.Outcome.next (takeReset_of_none hq)
  · rw [State.fld, wrote_get hs]
    have hf : (⟨F.BLKCTL_RST, .w1s, .e, false⟩ : FieldInfo) ∈ (Reg.BLKCTL d w b).fields := List.mem_cons_self ..
    refine (get_congr fun i hi hm => ?_).trans hx
    have hw := written_getLsbD hf hi hm (s.get (.BLKCTL d w b)) x
    have hi0 : i = 0 := by
      have : ∀ j < 32, F.BLKCTL_RST.mask.getLsbD j = true → j = 0 := by decide
      exact this i hi hm
    subst hi0
    have hx0 : x.getLsbD 0 = true := by
      have : x.toNat % 2 = 1 := by simpa [Fld.get] using hx
      simp [BitVec.getLsbD, this]
    rw [hw, hx0]
    simp [heldBit]

theorem blockReset_idle {d w b : Nat} (h : s.fld (.BLKCTL d w b) F.BLKCTL_RST = 0 ∨ s.blockBusy d w b = true) :
    exec (.blockResetDone d w b) s = .next s :=
  congrArg Host.Outcome.next (if_pos ((Bool.or_eq_true ..).mpr (h.imp (decide_eq_true ·) id)))

theorem suppressAll_clear (h : BlockClear (blockNo 7 0 1) s) : BlockClear (blockNo 7 0 1) s.suppressAll := by
  refine foldl_keeps _ _ h fun v k hk hv => keep_ite (hv.setFld_out ?_) hv
  have hk8 := List.mem_range.mp hk
  simp only [Reg.addr, addrOf, blockNo]
  omega

theorem polNoted_regs (was s : State) : (State.polNoted was s).regs = s.regs ∧ (State.polNoted was s).st0 = s.st0 ∧ (State.polNoted was s).st1 = s.st1 := by
  unfold State.polNoted
  split <;> exact ⟨rfl, rfl, rfl⟩

theorem resetBlock_clear {d w b : Nat} (hs : StoresCanonical s) (hi : s.boot.image = none) (hj : s.jobs = []) (h2 : d ≠ 2) (h3 : d ≠ 3)
    (hirq : ¬ (d = 0 ∧ w = 3)) (hosc : blockNo d w b = blockNo 7 0 1 → s.oscState ≠ 4) (hcal : d = 7 ∧ w = 4 ∧ b = 16 → s.tim.ticking = false)
    (hsel : d = 7 ∧ w = 3 ∧ b = 0 → s.tim.sel.store = []) : BlockClear (blockNo d w b) (s.resetBlock d w b) := by
  have hb := (Behind.refl hj hi).clearBehind (b := b) h2 h3 hirq
  have hu := (Evolves.refl.clearBehind d w b).stores hs
  unfold State.resetBlock
  generalize s.clearBehind d w b = u at hb hu
  have hv := resetBlockRegs_clear (n := blockNo d w b) hu hb.image hb.jobs
  have hrest := resetBlockRegs_rest (n := blockNo d w b) hb.jobs
  have hvs := (Evolves.refl.resetBlockRegs (blockNo d w b)).stores hu
  generalize u.resetBlockRegs (blockNo d w b) = v at hv hrest hvs
  rw [OnlyRegs] at hrest
  have hr := resume_clear hv hvs.regs (by rw [hrest]; exact hb.jobs) h2 h3 hirq (fun e => by rw [hrest]; exact hb.ticking.trans (hcal e))
    (fun e => by rw [hrest]; exact hb.store.trans (hsel e))
  generalize v.resume d w b = t at hr
  extract_lets t'
  split
  · next hn =>
    rw [if_neg (hosc hn)]
    obtain ⟨p1, p2, p3⟩ := polNoted_regs s t
    rw [hn] at hr ⊢
    exact suppressAll_clear (hr.of_regs p1 p2 p3)
  · exact hr

theorem blockReset_done {d w b : Nat} (hs : StoresCanonical s) (hd : decodeAddr (Reg.BLKCTL d w b).addr = some (.BLKCTL d w b))
    (hrst : s.fld (.BLKCTL d w b) F.BLKCTL_RST = 1) (hbusy : s.blockBusy d w b = false) (hi : s.boot.image = none) (hj : s.jobs = []) (h2 : d ≠ 2)
    (h3 : d ≠ 3) (hirq : ¬ (d = 0 ∧ w = 3)) (hosc : blockNo d w b = blockNo 7 0 1 → s.oscState ≠ 4)
    (hcal : d = 7 ∧ w = 4 ∧ b = 16 → s.tim.ticking = false) (hsel : d = 7 ∧ w = 3 ∧ b = 0 → s.tim.sel.store = []) :
    ∃ t, exec (.blockResetDone d w b) s = .next t ∧ t.fld (.BLKCTL d w b) F.BLKCTL_RST = 0 ∧
      t.fld (.BLKCTL d w b) F.BLKCTL_TIMEOUT = 0 ∧
      ∀ r : Reg, decodeAddr r.addr = some r → r.addr / 0x400 = blockNo d w b → r.keptFields = [] → r.fusedFields = [] →
        (r.isST = false → t.get r = r.resetWord) ∧ (r.isST = true → t.stGet 0 r = r.resetWord ∧ t.stGet 1 r = r.resetWord) := by
  have hex : exec (.blockResetDone d w b) s = .next ((s.resetBlock d w b).maskBlock (blockNo d w b)) :=
    congrArg Host.Outcome.next (if_neg (by simp [State.blockFld, hrst, hbusy]))
  have hc := resetBlock_clear hs hi hj h2 h3 hirq hosc hcal hsel
  have hctl : OfBlock (blockNo d w b) (.BLKCTL d w b) := by
    refine ⟨hd, ?_, rfl, rfl⟩
    simp only [Reg.addr, addrOf, blockNo]
    omega
  have hword : (s.resetBlock d w b).get (.BLKCTL d w b) = 0#32 := hc.get hctl rfl
  refine ⟨_, hex, ?_, ?_, fun r h1 h2 h3 h4 => hc r ⟨h1, h2, h3, h4⟩⟩
  · exact (congrArg F.BLKCTL_RST.get hword).trans (by decide)
  · exact (congrArg F.BLKCTL_TIMEOUT.get hword).trans (by decide)

theorem blockReset_timeout {d w b : Nat} (hs : StoresCanonical s) (hrst : s.fld (.BLKCTL d w b) F.BLKCTL_RST = 1) :
    ∃ t, exec (.blockResetTimeout d w b) s = .next t ∧ t.fld (.BLKCTL d w b) F.BLKCTL_RST = 0 ∧
      t.fld (.BLKCTL d w b) F.BLKCTL_TIMEOUT = 1 ∧ Writes [.BLKCTL d w b] [] s t := by
  have hex : exec (.blockResetTimeout d w b) s =
      .next ((s.setFld (.BLKCTL d w b) F.BLKCTL_RST 0).setFld (.BLKCTL d w b) F.BLKCTL_TIMEOUT 1) :=
    congrArg Host.Outcome.next (if_neg (by simp [State.blockFld, hrst]))
  refine ⟨_, hex, ?_, fld_setFld_lt (regsOk_setFld hs.regs) (by decide) (by decide),
    (Writes.refl.setFld (List.mem_singleton_self _) ..).setFld (List.mem_singleton_self _) ..⟩
  rw [fld_setFld_beside (regsOk_setFld hs.regs) (by decide) (by decide), fld_setFld_lt hs.regs (by decide) (by decide)]

/-! ## Resets of the device -/

/-- The bank registers kept through a reset that keeps the image. -/
def keepBanks (s t : State) : State :=
  [0, 1].foldl (fun (t : State) k => (t.put (.STW_BANK_STATE k) (s.get (.STW_BANK_STATE k))).put (.STW_BANK_SEQ k) (s.get (.STW_BANK_SEQ k))) t

theorem keepBanks_off (s t : State) (q : Reg) (hq : ∀ k, k < 2 → q.addr ≠ (Reg.STW_BANK_STATE k).addr ∧ q.addr ≠ (Reg.STW_BANK_SEQ k).addr) :
    (keepBanks s t).get q = t.get q := by
  obtain ⟨h1, h2⟩ := hq 0 (by decide)
  obtain ⟨h3, h4⟩ := hq 1 (by decide)
  simp only [keepBanks, List.foldl]
  rw [State.get_put_ne _ _ _ _ h4.symm, State.get_put_ne _ _ _ _ h3.symm, State.get_put_ne _ _ _ _ h2.symm, State.get_put_ne _ _ _ _ h1.symm]

theorem keepBanks_get (s : State) (ht : t.regsOk) {k : Nat} (hk : k < 2) :
    (keepBanks s t).get (.STW_BANK_STATE k) = s.get (.STW_BANK_STATE k) ∧ (keepBanks s t).get (.STW_BANK_SEQ k) = s.get (.STW_BANK_SEQ k) := by
  have ok : ∀ {u : State} (r : Reg) (x : Word), u.regsOk → (u.put r x).regsOk := fun r x h => State.regsOk_put _ r x h
  simp only [keepBanks, List.foldl]
  obtain rfl | rfl : k = 0 ∨ k = 1 := by omega
  · rw [State.get_put_ne _ _ _ _ (by decide), State.get_put_ne _ _ _ _ (by decide), State.get_put_ne _ _ _ _ (by decide), State.get_put_self _ _ _ ht,
      State.get_put_ne _ _ _ _ (by decide), State.get_put_ne _ _ _ _ (by decide), State.get_put_self _ _ _ (ok _ _ ht)]
    exact ⟨rfl, rfl⟩
  · rw [State.get_put_ne _ _ _ _ (by decide), State.get_put_self _ _ _ (ok _ _ (ok _ _ ht)), State.get_put_self _ _ _ (ok _ _ (ok _ _ (ok _ _ ht)))]
    exact ⟨rfl, rfl⟩

/-- The Reset values with the cause of the reset. -/
def causeShown (s : State) (cause : Nat) : State := (State.fresh s.boot.fuses).setFld .STW_BOOT_STATUS F.STW_BOOT_STATUS_CAUSE cause

theorem resetTo_sameRegs (s : State) (cause : Nat) (image : Option RunImage) :
    (s.resetTo cause image).regs = (if image.isSome then keepBanks s (causeShown s cause) else causeShown s cause).regs := by
  unfold State.resetTo
  split <;> rfl

/-- What a reset leaves of the registers: the cause, and with a kept image the state of the banks. -/
theorem resetTo_regs (s : State) (cause : Nat) (image : Option RunImage) :
    (s.resetTo cause image).fld .STW_BOOT_STATUS F.STW_BOOT_STATUS_CAUSE = cause % 4 ∧
      (s.resetTo cause image).bootStep = 1 ∧
      (image ≠ none → ∀ k, k < 2 → (s.resetTo cause image).get (.STW_BANK_STATE k) = s.get (.STW_BANK_STATE k) ∧
        (s.resetTo cause image).get (.STW_BANK_SEQ k) = s.get (.STW_BANK_SEQ k)) ∧
      (∀ q : Reg, q.addr ≠ Reg.STW_BOOT_STATUS.addr → (∀ k, k < 2 → q.addr ≠ (Reg.STW_BANK_STATE k).addr ∧ q.addr ≠ (Reg.STW_BANK_SEQ k).addr) →
        (s.resetTo cause image).get q = q.resetWord) := by
  have hok : (State.fresh s.boot.fuses).regsOk := (fresh_storesCanonical _).regs
  have hget := get_of_regs (resetTo_sameRegs s cause image)
  have hboot : (s.resetTo cause image).get .STW_BOOT_STATUS = (causeShown s cause).get .STW_BOOT_STATUS := by
    refine (hget _).trans ?_
    split
    · exact keepBanks_off _ _ _ (fun k hk => by (obtain rfl | rfl : k = 0 ∨ k = 1 := by omega) <;> decide)
    · rfl
  refine ⟨?_, ?_, fun hi k hk => ?_, fun q hq hb => ?_⟩
  · rw [State.fld, hboot]
    exact State.fld_setFld_self _ _ _ _ hok (by decide)
  · rw [State.bootStep, State.fld, hboot]
    exact (fld_setFld_beside hok (by decide) (by decide)).trans ((congrArg F.STW_BOOT_STATUS_STEP.get (fresh_get _ _)).trans (by decide))
  · rw [hget, hget, if_pos (by simpa [Option.isSome_iff_ne_none] using hi)]
    exact keepBanks_get s (regsOk_setFld hok) hk
  · have hc : (causeShown s cause).get q = q.resetWord := (State.get_setFld_ne _ _ _ _ _ hq.symm).trans (fresh_get _ _)
    rw [hget]
    split
    · rw [keepBanks_off _ _ _ hb, hc]
    · exact hc

/-! ## The running image under a write of STW_RESET_CTL -/

theorem wrote_resetCtl_get (hs : StoresCanonical s) (v : Word) {q : Reg} (hq : decodeAddr q.addr = some q) :
    (wrote s .STW_RESET_CTL v).get q = s.get q := by
  by_cases h : q.addr = Reg.STW_RESET_CTL.addr
  · have hq' : q = .STW_RESET_CTL := Option.some.inj (hq.symm.trans ((congrArg decodeAddr h).trans (by decide)))
    rw [hq', wrote_get hs]
    have hall : ∀ i < 32, (4294967295#32).getLsbD i = true := by decide
    simp only [Reg.written, Reg.maskOf, Reg.fields]
    exact BitVec.eq_of_getLsbD_eq fun i hi => by
      have := hall i hi
      simp_all
  · exact (wrote_keeps s .STW_RESET_CTL v q (by simpa using h)).1

theorem imageNow_congr (hget : ∀ q, decodeAddr q.addr = some q → t.get q = s.get q) (h : t = { s with regs := t.regs, masked := t.masked }) :
    t.imageNow = s.imageNow := by
  have hf : ∀ (q : Reg) (f : Fld), decodeAddr q.addr = some q → t.fld q f = s.fld q f := fun q f hq => congrArg f.get (hget q hq)
  have hsel : t.curSel = s.curSel := hf _ _ (by decide)
  have hst : t.stGet = s.stGet := by rw [h]; rfl
  have hcom : ∀ q, decodeAddr q.addr = some q → t.committed q = s.committed q := fun q hq => by
    rw [State.committed, State.committed, hsel, hst, hget q hq]
  have hinst : t.instIn = s.instIn := by rw [h]; rfl
  have hrows : t.visibleRows = s.visibleRows := by rw [h]; rfl
  have hmain : t.mainCopy = s.mainCopy := by
    rw [State.mainCopy, State.mainCopy, State.copyUp, State.copyUp, hf _ _ (by decide)]
  have hcopy : t.copy = s.copy := by rw [h]; rfl
  have hboot : t.boot = s.boot := by rw [h]
  have htab : t.tableRecords = s.tableRecords := by
    unfold State.tableRecords State.rowRecords
    rw [hrows, hsel, hmain, hcopy]
  have hsnap : ∀ i, t.snapshot i = s.snapshot i := fun i => by
    unfold State.snapshot
    rw [htab, hsel, hinst, hboot]
    congr 1
    refine List.filterMap_congr fun kv _ => ?_
    cases hd : decodeAddr kv.1 with
    | none => rfl
    | some r => simp only [hcom r (by rw [addr_of_decodeAddr hd]; exact hd)]
  unfold State.imageNow
  rw [hboot, State.bootStep, State.bootStep, hf _ _ (by decide)]
  cases s.boot.image with
  | none => rfl
  | some i => simp only [hsnap i]

theorem wrote_resetCtl_image (s : State) (v : Word) : (wrote s .STW_RESET_CTL v).boot.image = s.boot.image := by
  unfold wrote State.noteImage
  split <;> rfl

theorem wrote_resetCtl_imageNow (hs : StoresCanonical s) (v : Word) : (wrote s .STW_RESET_CTL v).imageNow = s.imageNow := by
  refine imageNow_congr (fun q => wrote_resetCtl_get hs v) ((wrote_rest s _ v).trans ?_)
  rw [wrote_resetCtl_image]

/-! ## The reset control -/

/-- Start-up step 1 begins after a reset of a cause from 1 to 3. -/
theorem resetTo_begins (s : State) {cause : Nat} (hc : cause < 4) (image : Option RunImage) :
    let t := (s.resetTo cause image).start
    t.fld .STW_BOOT_STATUS F.STW_BOOT_STATUS_CAUSE = cause ∧ t.bootStep = 1 ∧ t.boot.begun = true ∧ t.boot.resetReq = none ∧ t.sessions = [] ∧
      t.frames = [] ∧ t.jobs = [] ∧ t.cnt = [] ∧ t.flash.cells = s.flash.cells ∧ t.boot.image = image := by
  obtain ⟨hb, hse, hf, hc', hj, -, -, hfl, -, -⟩ := resetTo_leaves s cause image
  obtain ⟨h1, h2, -, -⟩ := resetTo_regs s cause image
  exact ⟨h1.trans (Nat.mod_eq_of_lt hc), h2, rfl, (congrArg Boot.resetReq hb).trans rfl, hse, hf, hj, hc', (congrArg Flash.cells hfl).trans rfl,
    congrArg Boot.image hb⟩

theorem resetCtl_expert {h : Nat} {x : Word} (he : ExpertWindow s h) (hp : Passes s h .STW_RESET_CTL x) :
    s.rowWriteReg .window .STW_RESET_CTL x =
      ((wrote s .STW_RESET_CTL x).writeAction h .STW_RESET_CTL (s.get .STW_RESET_CTL) x).takeReset :=
  rowWriteReg_expert he hp rfl nofun nofun rfl

theorem resetCtl_warm {h : Nat} {x : Word} (hs : StoresCanonical s) (he : ExpertWindow s h) (hp : Passes s h .STW_RESET_CTL x)
    (hw : F.STW_RESET_CTL_WARM.get x = 1) (hr : F.STW_RESET_CTL_RELOAD.get x = 0) :
    ∃ u : State, exec (.resetCtlWarm .window x) s = .next (u.resetTo 2 s.imageNow).start ∧ u.flash.cells = s.flash.cells := by
  have hex : exec (.resetCtlWarm .window x) s = .next (s.rowWriteReg .window .STW_RESET_CTL x) :=
    congrArg Host.Outcome.next (if_pos (by simp [asks, hw, hr]))
  have ha : ∀ u : State, u.writeAction h .STW_RESET_CTL (s.get .STW_RESET_CTL) x = { u with boot := { u.boot with resetReq := some 2 } } :=
    fun u => (if_neg (by rw [hr]; decide)).trans (if_pos hw)
  let w : State := { wrote s .STW_RESET_CTL x with boot := { (wrote s .STW_RESET_CTL x).boot with resetReq := some 2 } }
  have hi : w.imageNow = s.imageNow := wrote_resetCtl_imageNow hs x
  refine ⟨w, ?_, by rw [show w.flash = s.flash from (congrArg State.flash (wrote_rest s .STW_RESET_CTL x)).trans rfl]⟩
  rw [hex, resetCtl_expert he hp, ha, ← hi]
  rfl

theorem resetCtl_reload {h : Nat} {x : Word} (he : ExpertWindow s h) (hp : Passes s h .STW_RESET_CTL x)
    (hr : F.STW_RESET_CTL_RELOAD.get x = 1) :
    ∃ u : State, exec (.resetCtlReload .window x) s = .next (u.resetTo 3 none).start ∧ u.flash.cells = s.flash.cells := by
  have hex : exec (.resetCtlReload .window x) s = .next (s.rowWriteReg .window .STW_RESET_CTL x) :=
    congrArg Host.Outcome.next (if_pos (by simp [asks, hr]))
  have ha : ∀ u : State, u.writeAction h .STW_RESET_CTL (s.get .STW_RESET_CTL) x = { u with boot := { u.boot with resetReq := some 3 } } :=
    fun u => if_pos hr
  let w : State := { wrote s .STW_RESET_CTL x with boot := { (wrote s .STW_RESET_CTL x).boot with resetReq := some 3 } }
  refine ⟨w, ?_, by rw [show w.flash = s.flash from (congrArg State.flash (wrote_rest s .STW_RESET_CTL x)).trans rfl]⟩
  rw [hex, resetCtl_expert he hp, ha]
  rfl

/-- RST_N low: what the reset leaves while the pin holds. -/
theorem rstNLow_resets (hl : s.boot.rstLow = false) :
    ∃ cause, (s.boot.begun = true → cause = 1) ∧ exec .rstNLow s = .next { s.resetTo cause s.imageNow with
      boot := { (s.resetTo cause s.imageNow).boot with rstLow := true } } :=
  ⟨if s.boot.begun then 1 else s.fld .STW_BOOT_STATUS F.STW_BOOT_STATUS_CAUSE, fun h => if_pos h,
    congrArg Host.Outcome.next (if_neg (by rw [hl]; simp))⟩

/-- Settles O10: the block resets by `blockReset_request`, `blockReset_done` and `blockReset_timeout`, the resets of the device by
`resetTo_leaves` and `resetTo_regs`. -/
theorem resetsOfEveryKind : Obligations.ResetsOfEveryKind := by
  unfold Obligations.ResetsOfEveryKind
  refine ⟨⟨fun s h d w b v hs he hp hv => blockReset_request hs he hp hv, fun s d w b h => blockReset_idle h,
      fun s d w b hs _ hd hr hb hi hj h2 h3 hirq hosc hcal hsel => blockReset_done hs hd hr hb hi hj h2 h3 hirq hosc hcal hsel,
      fun s d w b hs => ⟨fun h => congrArg Host.Outcome.next (if_pos h), blockReset_timeout hs⟩⟩,
    fun s => ⟨_, rfl, fresh_get s.boot.fuses, fresh_stGet s.boot.fuses, rfl, rfl, rfl, rfl, rfl, rfl, rfl, rfl, rfl, rfl, rfl⟩,
    fun s => ⟨fun h => congrArg Host.Outcome.next (if_pos ((Bool.or_eq_true ..).mpr h)), fun h1 h2 => congrArg Host.Outcome.next (if_neg (by simp [h1, h2]))⟩,
    fun s => ⟨fun h => congrArg Host.Outcome.next (if_pos ((Bool.or_eq_true ..).mpr h)), fun h1 h2 => congrArg Host.Outcome.next (if_neg (by simp [h1, h2]))⟩,
    fun s => ⟨fun h => ⟨congrArg Host.Outcome.next (if_pos h), congrArg Host.Outcome.next (if_pos h)⟩, fun h => ⟨congrArg Host.Outcome.next (if_neg (by simp [h])), ?_⟩⟩,
    fun s h v hs he hp => ⟨fun hw hr => ?_, fun hr => ?_⟩⟩
  · obtain ⟨cause, hcause, hex⟩ := rstNLow_resets h
    obtain ⟨hb, hse, hf, hc, hj, hrows, -, hfl, -, -⟩ := resetTo_leaves s cause s.imageNow
    obtain ⟨h1, -, hbank, hrest⟩ := resetTo_regs s cause s.imageNow
    refine ⟨_, hex, rfl, (congrArg Boot.begun hb).trans rfl, congrArg Boot.image hb, (congrArg Flash.cells hfl).trans rfl, (congrArg Flash.op hfl).trans rfl, hc, hf, hse, hj, hrows,
      fun hbegun => ?_, hbank, hrest⟩
    rw [hcause hbegun] at h1 ⊢
    exact h1
  · obtain ⟨u, hex, hfl⟩ := resetCtl_warm hs he hp hw hr
    obtain ⟨h1, h2, h3, h4, h5, h6, h7, h8, h9, h10⟩ := resetTo_begins u (cause := 2) (by decide) s.imageNow
    exact ⟨_, hex, ⟨h1, h2, h3, h4, h5, h6, h7, h8, h9.trans hfl⟩, h10⟩
  · obtain ⟨u, hex, hfl⟩ := resetCtl_reload he hp hr
    obtain ⟨h1, h2, h3, h4, h5, h6, h7, h8, h9, h10⟩ := resetTo_begins u (cause := 3) (by decide) none
    exact ⟨_, hex, ⟨h1, h2, h3, h4, h5, h6, h7, h8, h9.trans hfl⟩, h10⟩

end Sys2Proof
end

section
/-! PROOF. Ports change their state; frames begin (R169 to R190, R326). -/
namespace Sys2Proof

open Sys2Proof.Machine

set_option Elab.async false

variable {s t u v w : State} {p : Nat}

/-! ## The status of one port -/

/-- The status registers of a port: nothing has changed but they and the port's own state, of which only the alignment. -/
structure PortShown (p : Nat) (s t : State) : Prop where
  rest : t = { s with regs := t.regs, ports := t.ports }
  regs : KeepsRegs [.PRT_PORT_STATUS p] s t
  ok : s.regsOk → t.regsOk
  keys : skeysFrom none s.ports = true → skeysFrom none t.ports = true
  mine : skeysFrom none s.ports = true → t.portSt p = { s.portSt p with aligned := (t.portSt p).aligned }
  others : ∀ q, q ≠ p → t.portSt q = s.portSt q

namespace PortShown

theorem refl : PortShown p s s := ⟨rfl, .refl, id, id, fun _ => rfl, fun _ _ => rfl⟩

theorem setFld (h : PortShown p s u) (f : Fld) (x : Nat) : PortShown p s (u.setFld (.PRT_PORT_STATUS p) f x) where
  rest := by
    rw [h.rest]
    rfl
  regs := h.regs.setFld (List.mem_singleton_self _) f x
  ok hs := regsOk_setFld (h.ok hs)
  keys := h.keys
  mine := h.mine
  others := h.others

theorem setAligned (h : PortShown p s u) (b : Bool) : PortShown p s (u.setAligned p b) where
  rest := by
    rw [h.rest]
    rfl
  regs := h.regs.of_regs rfl rfl
  ok := h.ok
  keys hk := skeysFrom_sput _ _ _ _ (h.keys hk)
  mine hk := by
    have hp : (u.setAligned p b).portSt p = { u.portSt p with aligned := b } := sgetD_sput_self _ _ _ _ (h.keys hk)
    rw [hp, h.mine hk]
  others q hq := (sgetD_sput_ne _ _ _ _ _ _ (Ne.symm hq)).trans (h.others q hq)

theorem seeFaults (h : PortShown p s u) (l r : Bool) : PortShown p s (u.seeFaults p l r) := (h.setFld ..).setFld ..

end PortShown

theorem aligned_setAligned (hk : skeysFrom none u.ports = true) (b : Bool) : ((u.setAligned p b).portSt p).aligned = b :=
  congrArg PortSt.aligned (sgetD_sput_self _ _ _ _ hk)

/-- A field of the status that no fault bit touches. -/
theorem seeFaults_fld {g : Fld} (hu : u.regsOk) (hl : F.PRT_PORT_STATUS_LOCAL_FAULT.apart g = true)
    (hr : F.PRT_PORT_STATUS_REMOTE_FAULT.apart g = true) (hg : g.lo + g.w ≤ 32) (l r : Bool) :
    (u.seeFaults p l r).fld (.PRT_PORT_STATUS p) g = u.fld (.PRT_PORT_STATUS p) g :=
  (fld_setFld_beside (regsOk_setFld hu) hr hg).trans (fld_setFld_beside hu hl hg)

theorem seeFaults_local (hu : u.regsOk) (l r : Bool) :
    (u.seeFaults p l r).fld (.PRT_PORT_STATUS p) F.PRT_PORT_STATUS_LOCAL_FAULT = if l = true then 1 else 0 :=
  (fld_setFld_beside (regsOk_setFld hu) (by decide) (by decide)).trans (fld_setFld_lt hu (by decide) (by cases l <;> decide))

theorem seeFaults_remote (hu : u.regsOk) (l r : Bool) :
    (u.seeFaults p l r).fld (.PRT_PORT_STATUS p) F.PRT_PORT_STATUS_REMOTE_FAULT = if r = true then 1 else 0 :=
  fld_setFld_lt (regsOk_setFld hu) (by decide) (by cases r <;> decide)

/-- A transition without traffic: a state, the faults seen and the alignment. -/
def shownAs (s : State) (p : Nat) (st : Option Nat) (l r a : Bool) : State :=
  ((match st with | some x => s.setPortState p x | none => s).seeFaults p l r).setAligned p a

theorem shownAs_shown (s : State) (p : Nat) (st : Option Nat) (l r a : Bool) : PortShown p s (shownAs s p st l r a) := by
  cases st with
  | none => exact (PortShown.refl.seeFaults l r).setAligned a
  | some x => exact ((PortShown.refl.setFld _ x).seeFaults l r).setAligned a

theorem shownAs_fld (hs : s.regsOk) (st : Option Nat) (l r a : Bool) :
    (shownAs s p st l r a).fld (.PRT_PORT_STATUS p) F.PRT_PORT_STATUS_LOCAL_FAULT = (if l = true then 1 else 0) ∧
      (shownAs s p st l r a).fld (.PRT_PORT_STATUS p) F.PRT_PORT_STATUS_REMOTE_FAULT = (if r = true then 1 else 0) ∧
      (shownAs s p st l r a).park p = s.park p ∧
      (shownAs s p st l r a).fld (.PRT_PORT_STATUS p) F.PRT_PORT_STATUS_DOWN_SEEN =
        s.fld (.PRT_PORT_STATUS p) F.PRT_PORT_STATUS_DOWN_SEEN ∧
      (shownAs s p st l r a).portState p = (st.map (· % 4)).getD (s.portState p) := by
  cases st with
  | none =>
    exact ⟨seeFaults_local hs l r, seeFaults_remote hs l r, seeFaults_fld hs (by decide) (by decide) (by decide) l r,
      seeFaults_fld hs (by decide) (by decide) (by decide) l r, seeFaults_fld hs (by decide) (by decide) (by decide) l r⟩
  | some x =>
    have hu : (s.setPortState p x).regsOk := regsOk_setFld hs
    exact ⟨seeFaults_local hu l r, seeFaults_remote hu l r,
      (seeFaults_fld hu (by decide) (by decide) (by decide) l r).trans (fld_setFld_beside hs (by decide) (by decide)),
      (seeFaults_fld hu (by decide) (by decide) (by decide) l r).trans (fld_setFld_beside hs (by decide) (by decide)),
      (seeFaults_fld hu (by decide) (by decide) (by decide) l r).trans (State.fld_setFld_self _ _ _ _ hs (by decide))⟩

theorem shownAs_aligned (st : Option Nat) (l r a : Bool) :
    (skeysFrom none s.ports = true → ((shownAs s p st l r a).portSt p).aligned = a) ∧
      ∀ q, q ≠ p → ((shownAs s p st l r a).portSt q).aligned = (s.portSt q).aligned := by
  refine ⟨fun hk => ?_, fun q hq => congrArg PortSt.aligned ((shownAs_shown s p st l r a).others q hq)⟩
  have hu : PortShown p s ((match st with | some x => s.setPortState p x | none => s).seeFaults p l r) := by
    cases st with
    | none => exact PortShown.refl.seeFaults l r
    | some x => exact (PortShown.refl.setFld _ x).seeFaults l r
  exact aligned_setAligned (hu.keys hk) a

/-! ## What the freeing of frames leaves of the ports' alignment -/

/-- A flow that leaves every port's alignment as it was. -/
structure Lined (R : Reg → Prop) (C : Nat → Prop) (s u : State) : Prop where
  flows : Flows R C s u
  aligned : ∀ q, (u.portSt q).aligned = (s.portSt q).aligned
  keys : skeysFrom none s.ports = true → skeysFrom none u.ports = true

namespace Lined

variable {R : Reg → Prop} {C : Nat → Prop}

theorem refl (hs : StoresCanonical s) (hr : FramesInRange s) : Lined R C s s := ⟨.refl hs hr, fun _ => rfl, id⟩

theorem of_ports (h : Lined R C s u) (hf : Flows R C s v) (hp : v.ports = u.ports := by rfl) : Lined R C s v :=
  ⟨hf, fun q => by rw [State.portSt, hp]; exact h.aligned q, fun hk => by rw [hp]; exact h.keys hk⟩

/-- What falls due at a port leaves its alignment. -/
theorem pauseDue_aligned (s : State) (p i : Nat) (b : Bool) (q : Nat) : ((s.pauseDue p (2 ^ i) b).portSt q).aligned = (s.portSt q).aligned := by
  by_cases hq : p = q
  · subst hq
    have hne : ∀ x y : Nat, x ||| 2 ^ i ≠ 0 := fun x _ h => by
      have := congrArg (Nat.testBit · i) h
      simp [Nat.testBit_or] at this
    have hself : ∀ x : PortSt, x ≠ ⟨0, 0, [], 0, false⟩ → (s.putPortSt p x).portSt p = x := fun x hx => by
      rw [State.portSt, State.putPortSt, sput, if_neg hx, sgetD, sfind_sinsert_self]
      rfl
    unfold State.pauseDue
    extract_lets x
    rw [hself]
    · split <;> rfl
    · split
      · exact fun h => hne x.dueXoff 0 (congrArg PortSt.dueXoff h)
      · exact fun h => hne x.dueXon 0 (congrArg PortSt.dueXon h)
  · exact congrArg PortSt.aligned (sgetD_sput_ne _ _ _ _ _ _ hq)

theorem pathProof (hs : R .STW_EPOCH_STATUS) (hx : ∀ u q, Lined R C s u → u.portIsUp q = true → q < 1024 → R (.PRT_PFC_STATUS q))
    (hc : ∀ id, pathCnt id → C id) : PathProof (Lined R C s) where
  canon h := h.flows.canon
  range h := h.flows.range
  due {u} p i b h := ⟨h.flows.of_stores Evolves.refl.of_kept rfl, fun q => (pauseDue_aligned u p i b q).trans (h.aligned q),
    fun hk => skeysFrom_sput _ _ _ _ (h.keys hk)⟩
  xoff {u p} _ hp hup h := h.of_ports (h.flows.setFld (hx u p h hup hp) _ _
    (Flows.curSel_setFld (r := .PRT_PFC_STATUS p) (decide_eq_true hp) nofun _ _))
  endEpoch {u} h := h.of_ports (h.flows.endEpoch hs) (by
    obtain ⟨_, _, he⟩ := endEpoch_eq u
    rw [he]
    rfl)
  counts hid h := h.of_ports (h.flows.count (hc _ hid))
  yielded hu hw hk := hw.of_ports (hw.flows.of_stores (Evolves.refl.putRep _ fun _ => hu.flows.range.queues _ (mem_of_sfind hk)) rfl)
  txDone _ h := h.of_ports (h.flows.of_stores (Evolves.refl.txDone _) rfl)
  erased _ h := h.of_ports (h.flows.of_stores (Evolves.refl.eraseFrame _) rfl)
  dropped hu hw hf := hw.of_ports (hw.flows.of_stores (Evolves.refl.putFrame _ fun _ =>
    have ⟨hp, hr, hk⟩ := hu.flows.range.frame (mem_of_sfind hf)
    ⟨hp, hr, hk⟩) rfl)
  freed _ h := h.of_ports (h.flows.of_stores (Evolves.refl.eraseRep _) rfl)

theorem queueProof (hs : R .STW_EPOCH_STATUS) (hx : ∀ u q, Lined R C s u → u.portIsUp q = true → q < 1024 → R (.PRT_PFC_STATUS q))
    (hc : ∀ id, queueCnt id → C id) : QueueProof (Lined R C s) where
  toPathProof := pathProof hs hx fun id h => hc id (.inl h)
  sent _ _ h := h.of_ports (h.flows.of_stores (Evolves.refl.emit _) rfl)
  qcounts hid h := h.of_ports (h.flows.count (hc _ hid))
  flushAdd {u} p h := by
    have hf := (FwdOnly.refl (s := u)).flushAdd p
    rw [FwdOnly] at hf
    exact h.of_ports (h.flows.of_stores (Evolves.refl.flushAdd p) (by rw [hf])) (by rw [hf])

end Lined

/-! ## An ALIGNING port enters UP (R170, R185, R189) -/

/-- The age check of a port ends, or goes on with the heads that wait. -/
theorem staleCheck_keeps {P : State → Prop} (c : QueueProof P) (hp : p < 1024)
    (ha : ∀ {u} kv, kv ∈ u.reps → P u → P (u.putRep kv.1 { kv.2 with aged := true })) (n : Nat) (h : P s) :
    ∃ u, P u ∧ (s.staleCheck p n = u ∨ s.staleCheck p n = u.setPark p 0) := by
  induction n generalizing s with
  | zero => exact ⟨s, h, .inl rfl⟩
  | succ n ih =>
    unfold State.staleCheck
    split
    · next kv hkv =>
      split
      · exact ih (c.release _ (c.qcounts (.inr ⟨p, hp, .inr (.inr rfl)⟩) h))
      · exact ih (ha kv (List.mem_of_mem_filter (List.mem_of_mem_filter (List.mem_of_mem_filter (List.mem_of_find?_eq_some hkv)))) h)
    · split
      · exact ⟨s, h, .inl rfl⟩
      · exact ⟨s, h, .inr rfl⟩

/-- What the freeing of frames leaves of a port's status. -/
theorem Lined.status {R : Reg → Prop} {C : Nat → Prop} (h : Lined R C s u) (hok : ∀ r, R r → r.indexOk = true) (hn : ¬ R (.PRT_PORT_STATUS p))
    (hp : p < 1024) (g : Fld) : u.fld (.PRT_PORT_STATUS p) g = s.fld (.PRT_PORT_STATUS p) g :=
  congrArg g.get (h.flows.regs.get hok (q := .PRT_PORT_STATUS p) (decide_eq_true hp) hn)

/-- The freeing of frames under the ports' own registers. -/
theorem linedPath : QueueProof (Lined pathReg queueCnt s) := Lined.queueProof trivial (fun _ _ _ _ hq => hq) fun _ h => h

/-- The replicas of a returning port wait for their age check. -/
def ageMarked (s : State) (p : Nat) : State :=
  { s with reps := s.reps.map fun (kv : Nat × Replica) =>
      if portOf kv.2.q = p then (kv.1, { kv.2 with ageChk := true, aged := false }) else kv }

theorem upPort_eq (s : State) (p : Nat) : s.upPort p =
    State.pauseEval (if (shownAs s p (some 3) false false true).park p = 1 then
      ((ageMarked (shownAs s p (some 3) false false true) p).setPark p 3).ageCheck p
    else (shownAs s p (some 3) false false true).setPark p 0) p := rfl

/-- An entry into UP: the status without PARK, the alignment, and PARK. -/
structure Entered (p : Nat) (v t : State) : Prop where
  status : ∀ g : Fld, F.PRT_PORT_STATUS_PARK.apart g = true → g.lo + g.w ≤ 32 → t.fld (.PRT_PORT_STATUS p) g = v.fld (.PRT_PORT_STATUS p) g
  aligned : ∀ q, (t.portSt q).aligned = (v.portSt q).aligned

theorem setPark_entered (hv : v.regsOk) (x : Nat) : Entered p v (v.setPark p x) :=
  ⟨fun _ ha hg => fld_setFld_beside hv ha hg, fun _ => rfl⟩

theorem Entered.trans (h : Entered p u v) (h' : Entered p v w) : Entered p u w :=
  ⟨fun g ha hg => (h'.status g ha hg).trans (h.status g ha hg), fun q => (h'.aligned q).trans (h.aligned q)⟩

theorem Lined.entered (hp : p < 1024) (h : Lined pathReg queueCnt u v) : Entered p u v :=
  ⟨fun g _ _ => h.status (fun _ => pathReg_indexOk) id hp g, h.aligned⟩

theorem pauseEval_entered (hp : p < 1024) (hs : StoresCanonical s) (hr : FramesInRange s) :
    Entered p s (s.pauseEval p) ∧ (s.pauseEval p).park p = s.park p := by
  have hl : Lined pathReg queueCnt s (s.pauseEval p) := linedPath.pauseEval p (.refl hs hr)
  exact ⟨hl.entered hp, hl.status (fun _ => pathReg_indexOk) id hp _⟩

theorem ageCheck_entered (hp : p < 1024) (hs : StoresCanonical s) (hr : FramesInRange s) (hk : s.park p = 3) :
    Entered p s (s.ageCheck p) ∧ ((s.ageCheck p).park p = 3 ∨ (s.ageCheck p).park p = 0) := by
  rw [State.ageCheck, if_pos hk]
  obtain ⟨u, hu, he⟩ := staleCheck_keeps (P := Lined pathReg queueCnt s) linedPath hp
    (fun kv hm h => h.of_ports (h.flows.of_stores (Evolves.refl.putRep _ fun _ => h.flows.range.queues kv hm) rfl)) (s.reps.length + 1) (.refl hs hr)
  have hpark : u.park p = 3 := (hu.status (fun _ => pathReg_indexOk) id hp _).trans hk
  rcases he with he | he
  · rw [he]
    exact ⟨hu.entered hp, .inl hpark⟩
  · rw [he]
    exact ⟨(hu.entered hp).trans (setPark_entered hu.flows.canon.regs 0), .inr (fld_setFld_lt hu.flows.canon.regs (by decide) (by decide))⟩

theorem ageMarked_evolves (s : State) (p : Nat) : Evolves s (ageMarked s p) :=
  Evolves.refl.mapReps (fun _ => by split <;> rfl) fun _ => by split <;> rfl

/-- A port entering UP shows no fault; parked, it begins its age check, which may end at once. -/
theorem upPort_parked (hp : p < 1024) (hs : StoresCanonical s) (hr : FramesInRange s) (hk : s.park p = 1) :
    Entered p (shownAs s p (some 3) false false true) (s.upPort p) ∧ ((s.upPort p).park p = 3 ∨ (s.upPort p).park p = 0) := by
  have hev : Evolves s (shownAs s p (some 3) false false true) := ((Evolves.refl.setPortState p 3).seeFaults p false false).setAligned p true
  have hpark : (shownAs s p (some 3) false false true).park p = 1 := (shownAs_fld hs.regs (some 3) false false true).2.2.1.trans hk
  rw [upPort_eq, if_pos hpark]
  generalize shownAs s p (some 3) false false true = v at hev hpark
  have h1 := ageMarked_evolves v p
  have h1r : (ageMarked v p).regsOk := (h1.stores (hev.stores hs)).regs
  have h2 := (hev.trans h1).setPark p 3
  have he2 : Entered p v ((ageMarked v p).setPark p 3) := (Entered.mk (p := p) (v := v) (t := ageMarked v p) (fun _ _ _ => rfl) fun _ => rfl).trans
    (setPark_entered h1r 3)
  have hk2 : ((ageMarked v p).setPark p 3).park p = 3 := fld_setFld_lt h1r (by decide) (by decide)
  generalize (ageMarked v p).setPark p 3 = w at h2 he2 hk2
  obtain ⟨h3, hk3⟩ := ageCheck_entered hp (h2.stores hs) (h2.range hr) hk2
  have h4 := h2.ageCheck p
  obtain ⟨h5, hk5⟩ := pauseEval_entered hp (h4.stores hs) (h4.range hr)
  exact ⟨(he2.trans h3).trans h5, by rw [hk5]; exact hk3⟩

theorem upPort_unparked (hp : p < 1024) (hs : StoresCanonical s) (hr : FramesInRange s) (hk : s.park p ≠ 1) :
    Entered p (shownAs s p (some 3) false false true) (s.upPort p) ∧ (s.upPort p).park p = 0 ∧
      KeepsRegs [.PRT_PORT_STATUS p, .PRT_PFC_STATUS p] s (s.upPort p) ∧ s.upPort p = { s with regs := (s.upPort p).regs, ports := (s.upPort p).ports } := by
  have hev : Evolves s (shownAs s p (some 3) false false true) := ((Evolves.refl.setPortState p 3).seeFaults p false false).setAligned p true
  have hpark : (shownAs s p (some 3) false false true).park p ≠ 1 := fun h => hk ((shownAs_fld hs.regs (some 3) false false true).2.2.1.symm.trans h)
  have hsh := (shownAs_shown s p (some 3) false false true).setFld F.PRT_PORT_STATUS_PARK 0
  rw [upPort_eq, if_neg hpark]
  generalize shownAs s p (some 3) false false true = v at hev hpark hsh
  have hvr : v.regsOk := (hev.stores hs).regs
  have he : Entered p v (v.setPark p 0) := setPark_entered hvr 0
  have h2 := hev.setPark p 0
  have hk0 : (v.setPark p 0).park p = 0 := fld_setFld_lt hvr (by decide) (by decide)
  change PortShown p s (v.setPark p 0) at hsh
  generalize v.setPark p 0 = w at he h2 hk0 hsh
  obtain ⟨h5, hk5⟩ := pauseEval_entered hp (h2.stores hs) (h2.range hr)
  have hrest := pauseEval_keeps (P := fun u => u = { w with regs := u.regs, ports := u.ports } ∧ KeepsRegs [.PRT_PORT_STATUS p, .PRT_PFC_STATUS p] s u) (s := w) p
    ⟨rfl, hsh.regs.weaken fun r hr => by simp_all⟩ (fun u x ⟨hu, hq⟩ => ⟨by rw [hu]; rfl, hq.setFld (by simp) _ _⟩)
    fun u i b ⟨hu, hq⟩ => ⟨by rw [hu]; rfl, hq.of_regs rfl rfl⟩
  refine ⟨he.trans h5, hk5.trans hk0, hrest.2, ?_⟩
  rw [hrest.1, hsh.rest]

/-! ## An UP port goes DOWN (R172, R187) -/

/-- What the freeing of frames writes while a port is not UP: the XOFF of other ports, and the end of an epoch. -/
def elsewhere (p : Nat) : Reg → Prop
  | .PRT_PFC_STATUS q => q < 1024 ∧ q ≠ p
  | .STW_EPOCH_STATUS => True
  | _ => False

theorem elsewhere_indexOk {r : Reg} (h : elsewhere p r) : r.indexOk = true := by
  cases r with
  | PRT_PFC_STATUS q => exact decide_eq_true h.1
  | STW_EPOCH_STATUS => rfl
  | _ => exact h.elim

theorem linedElsewhere (hp : p < 1024) (hd : s.portState p ≠ 3) : QueueProof (Lined (elsewhere p) queueCnt s) := by
  refine Lined.queueProof trivial (fun u q h hup hq => ⟨hq, fun e => hd ?_⟩) fun _ h => h
  subst e
  have hst : u.portState q = s.portState q := h.status (fun _ => elsewhere_indexOk) id hp _
  rw [← hst]
  simp only [State.portIsUp, Bool.and_eq_true, beq_iff_eq] at hup
  exact hup.1.2

theorem failReception_lined {R : Reg → Prop} {C : Nat → Prop} (h : Lined R C s u) (p : Nat) : Lined R C s (u.failReception p) :=
  h.of_ports (h.flows.of_stores (Evolves.refl.failReception p) rfl)

/-- The way down as far as DOWN_SEEN: the frames in transmission and in reception fail, and pause ends. -/
def downSeen (s : State) (p : Nat) : State :=
  (((((s.frameYields.setPortState p 1).stompPort p).failReception p).clearPause p).setFld (.PRT_PORT_STATUS p) F.PRT_PORT_STATUS_DOWN_SEEN 1).count
    (C.portDown p)

theorem downPort_eq (s : State) (p : Nat) : s.downPort p = (downSeen s p).parkStart p := rfl

/-- What stands at the instant a port is down. -/
structure Down (p : Nat) (s t : State) : Prop where
  canon : StoresCanonical t
  range : FramesInRange t
  state : t.portState p = 1
  seen : t.fld (.PRT_PORT_STATUS p) F.PRT_PORT_STATUS_DOWN_SEEN = 1
  localFault : t.fld (.PRT_PORT_STATUS p) F.PRT_PORT_STATUS_LOCAL_FAULT = s.fld (.PRT_PORT_STATUS p) F.PRT_PORT_STATUS_LOCAL_FAULT
  remoteFault : t.fld (.PRT_PORT_STATUS p) F.PRT_PORT_STATUS_REMOTE_FAULT = s.fld (.PRT_PORT_STATUS p) F.PRT_PORT_STATUS_REMOTE_FAULT
  pause : t.get (.PRT_PFC_STATUS p) = 0#32
  counted : CountedOnce (C.portDown p) s t
  keys : skeysFrom none s.ports = true → skeysFrom none t.ports = true

theorem queueCnt_not_portDown {q : Nat} (hq : q < 1024) : ¬ queueCnt (C.portDown q) := by
  rintro ((h | h | ⟨r, hr, h⟩) | ⟨r, hr, h | h | h⟩) <;> simp only [C.portDown, C.ladderYield, C.txFrames, C.prtTxStomped, C.flushed, C.stale, C.page] at h <;> omega

theorem pfc_addr_ne (p q : Nat) : (Reg.PRT_PFC_STATUS p).addr ≠ (Reg.PRT_PORT_STATUS q).addr := by
  simp only [Reg.addr, addrOf]
  omega

theorem clearPause_get (c : State) (p : Nat) (r : Reg) : (c.clearPause p).get r = (c.put (.PRT_PFC_STATUS p) 0#32).get r := by
  unfold State.clearPause State.putPortSt
  rfl

theorem clearPause_ports (c : State) (p : Nat) : (c.clearPause p).ports = sput ⟨0, 0, [], 0, false⟩ c.ports p ⟨0, 0, [], 0, false⟩ := rfl

theorem downSeen_down (hp : p < 1024) (hs : StoresCanonical s) (hr : FramesInRange s) :
    Down p s (downSeen s p) ∧ (downSeen s p).fld .PRT_PARK_CFG F.PRT_PARK_CFG_WINDOW = s.fld .PRT_PARK_CFG F.PRT_PARK_CFG_WINDOW := by
  have hfy := frameYields_rest s
  have hfc : s.frameYields.counter (C.portDown p) = s.counter (C.portDown p) :=
    frameYields_counter (by simp only [C.portDown, C.page, C.ladderYield]; omega) (by simp only [C.portDown, C.page, C.ladderYield]; omega) s
  have h1 := (Evolves.refl (s := s)).frameYields
  unfold downSeen
  generalize s.frameYields = a at hfy hfc h1
  have ha := h1.stores hs
  have hget : ∀ r, a.get r = s.get r := get_of_regs (by rw [hfy])
  have hb := h1.setPortState p 1
  have hbs : (a.setPortState p 1).portState p = 1 := fld_setFld_lt ha.regs (by decide) (by decide)
  have hbf : ∀ g : Fld, F.PRT_PORT_STATUS_STATE.apart g = true → g.lo + g.w ≤ 32 →
      (a.setPortState p 1).fld (.PRT_PORT_STATUS p) g = s.fld (.PRT_PORT_STATUS p) g := fun g hg hw =>
    (fld_setFld_beside ha.regs hg hw).trans (congrArg g.get (hget _))
  have hbw : (a.setPortState p 1).get .PRT_PARK_CFG = s.get .PRT_PARK_CFG :=
    (get_setFld_off (r := .PRT_PORT_STATUS p) (q := .PRT_PARK_CFG) (decide_eq_true hp) rfl nofun).trans (hget _)
  have hbc : (a.setPortState p 1).counter (C.portDown p) = s.counter (C.portDown p) := hfc
  have hbk : (a.setPortState p 1).ports = s.ports := by rw [State.setPortState, hfy]; rfl
  generalize a.setPortState p 1 = b at hb hbs hbf hbw hbc hbk
  have hl : Lined (elsewhere p) queueCnt b ((b.stompPort p).failReception p) :=
    failReception_lined ((linedElsewhere hp (by rw [hbs]; decide)).stompPort p (.refl (hb.stores hs) (hb.range hr))) p
  have hc := (hb.stompPort p).failReception p
  generalize (b.stompPort p).failReception p = c at hl hc
  have hcf : ∀ g, c.fld (.PRT_PORT_STATUS p) g = b.fld (.PRT_PORT_STATUS p) g := hl.status (fun _ => elsewhere_indexOk) id hp
  have hcw : c.get .PRT_PARK_CFG = b.get .PRT_PARK_CFG := hl.flows.regs.get (fun _ => elsewhere_indexOk) rfl id
  have hcc : c.counter (C.portDown p) = b.counter (C.portDown p) := hl.flows.cnts _ (queueCnt_not_portDown hp)
  have hcr : c.regsOk := (hc.stores hs).regs
  have hdf : ∀ g, (c.clearPause p).fld (.PRT_PORT_STATUS p) g = c.fld (.PRT_PORT_STATUS p) g := fun g =>
    congrArg g.get ((clearPause_get c p _).trans (State.get_put_ne _ _ _ _ (pfc_addr_ne p p)))
  have hdp : (c.clearPause p).get (.PRT_PFC_STATUS p) = 0#32 := (clearPause_get c p _).trans (State.get_put_self _ _ _ hcr)
  have hdw : (c.clearPause p).get .PRT_PARK_CFG = c.get .PRT_PARK_CFG :=
    (clearPause_get c p _).trans (State.get_put_ne _ _ _ _ (addr_ne (q := .PRT_PFC_STATUS p) (r := .PRT_PARK_CFG) (decide_eq_true hp) rfl nofun))
  have hd := hc.clearPause p
  have hdk : skeysFrom none c.ports = true → skeysFrom none (c.clearPause p).ports = true := fun hk => by
    rw [clearPause_ports]
    exact skeysFrom_sput _ _ _ _ hk
  have hdc : (c.clearPause p).counter (C.portDown p) = c.counter (C.portDown p) := rfl
  generalize c.clearPause p = d at hdf hdp hdw hd hdk hdc
  have hdr : d.regsOk := (hd.stores hs).regs
  have he := (hd.setFld (.PRT_PORT_STATUS p) F.PRT_PORT_STATUS_DOWN_SEEN 1).count (C.portDown p)
  have hbeside : ∀ g : Fld, F.PRT_PORT_STATUS_DOWN_SEEN.apart g = true → g.lo + g.w ≤ 32 →
      (d.setFld (.PRT_PORT_STATUS p) F.PRT_PORT_STATUS_DOWN_SEEN 1).fld (.PRT_PORT_STATUS p) g = d.fld (.PRT_PORT_STATUS p) g :=
    fun g hg hw => fld_setFld_beside hdr hg hw
  refine ⟨⟨he.stores hs, he.range hr, ?_, fld_setFld_lt hdr (by decide) (by decide), ?_, ?_, ?_, ?_, fun hk => hdk (hl.keys (by rw [hbk]; exact hk))⟩, ?_⟩
  · exact (hbeside _ (by decide) (by decide)).trans ((hdf _).trans ((hcf _).trans hbs))
  · exact (hbeside _ (by decide) (by decide)).trans ((hdf _).trans ((hcf _).trans (hbf _ (by decide) (by decide))))
  · exact (hbeside _ (by decide) (by decide)).trans ((hdf _).trans ((hcf _).trans (hbf _ (by decide) (by decide))))
  · exact (State.get_setFld_ne _ _ _ _ _ (pfc_addr_ne p p).symm).trans hdp
  · have hcnt : d.counter (C.portDown p) = s.counter (C.portDown p) := hdc.trans (hcc.trans hbc)
    unfold CountedOnce
    rw [← hcnt]
    exact State.counter_count_self _ _ (hd.stores hs).cnt
  · exact (fld_setFld_off (r := .PRT_PORT_STATUS p) (q := .PRT_PARK_CFG) (decide_eq_true hp) rfl nofun).trans
      (congrArg F.PRT_PARK_CFG_WINDOW.get (hdw.trans (hcw.trans hbw)))

theorem setPark_down (h : Down p s u) (x : Nat) : Down p s (u.setPark p x) where
  canon := (Evolves.refl.setPark p x).stores h.canon
  range := (Evolves.refl.setPark p x).range h.range
  state := (fld_setFld_beside h.canon.regs (by decide) (by decide)).trans h.state
  seen := (fld_setFld_beside h.canon.regs (by decide) (by decide)).trans h.seen
  localFault := (fld_setFld_beside h.canon.regs (by decide) (by decide)).trans h.localFault
  remoteFault := (fld_setFld_beside h.canon.regs (by decide) (by decide)).trans h.remoteFault
  pause := (State.get_setFld_ne _ _ _ _ _ (pfc_addr_ne p p).symm).trans h.pause
  counted := h.counted
  keys := h.keys

theorem putPortSt_down (h : Down p s u) (x : PortSt) : Down p s (u.putPortSt p x) where
  canon := (Evolves.refl.putPortSt p x).stores h.canon
  range := (Evolves.refl.putPortSt p x).range h.range
  state := h.state
  seen := h.seen
  localFault := h.localFault
  remoteFault := h.remoteFault
  pause := h.pause
  counted := h.counted
  keys hk := skeysFrom_sput _ _ _ _ (h.keys hk)

theorem lined_down (hp : p < 1024) (h : Down p s u) (hl : Lined (elsewhere p) queueCnt u v) : Down p s v where
  canon := hl.flows.canon
  range := hl.flows.range
  state := (hl.status (fun _ => elsewhere_indexOk) id hp _).trans h.state
  seen := (hl.status (fun _ => elsewhere_indexOk) id hp _).trans h.seen
  localFault := (hl.status (fun _ => elsewhere_indexOk) id hp _).trans h.localFault
  remoteFault := (hl.status (fun _ => elsewhere_indexOk) id hp _).trans h.remoteFault
  pause := (hl.flows.regs.get (fun _ => elsewhere_indexOk) (q := .PRT_PFC_STATUS p) (decide_eq_true hp) (fun h => h.2 rfl)).trans h.pause
  counted := (hl.flows.cnts _ (queueCnt_not_portDown hp)).trans h.counted
  keys hk := hl.keys (h.keys hk)

/-- A port that has gone down is parked, or flushed with WINDOW = 0. -/
theorem downPort_down (hp : p < 1024) (hs : StoresCanonical s) (hr : FramesInRange s) :
    Down p s (s.downPort p) ∧ (s.downPort p).park p = if s.fld .PRT_PARK_CFG F.PRT_PARK_CFG_WINDOW = 0 then 2 else 1 := by
  obtain ⟨hd, hw⟩ := downSeen_down hp hs hr
  rw [downPort_eq]
  generalize downSeen s p = u at hd hw
  unfold State.parkStart
  extract_lets x v
  have hv : Down p s v := putPortSt_down hd _
  have hvw : v.fld .PRT_PARK_CFG F.PRT_PARK_CFG_WINDOW = s.fld .PRT_PARK_CFG F.PRT_PARK_CFG_WINDOW := hw
  rw [hvw]
  split
  · have hl : Lined (elsewhere p) queueCnt v (v.flushPort p) :=
      (linedElsewhere hp (by rw [hv.state]; decide)).flushPort hp (.refl hv.canon hv.range)
    have hf := lined_down hp hv hl
    exact ⟨setPark_down hf 2, fld_setFld_lt hf.canon.regs (by decide) (by decide)⟩
  · exact ⟨setPark_down hv 1, fld_setFld_lt hv.canon.regs (by decide) (by decide)⟩

end Sys2Proof
end

section
/-! PROOF. Ports change their state and frames begin: the obligation (R169 to R190, R326). -/
namespace Sys2Proof

open Sys2Proof.Machine

set_option Elab.async false

variable {s t u v w : State} {p : Nat}

/-! ## A port that sends nothing parks with its replicas -/

theorem transmitting_none : s.transmitting p = none ↔ ∀ kv ∈ s.reps, ¬ (portOf kv.2.q == p && kv.2.tx.isSome) = true := by
  rw [State.transmitting, Option.map_eq_none_iff, List.find?_eq_none]

theorem frameYields_transmitting (h : s.transmitting p = none) : s.frameYields.transmitting p = none := by
  rw [transmitting_none] at h ⊢
  exact frameYields_keeps (P := fun u => ∀ kv ∈ u.reps, ¬ (portOf kv.2.q == p && kv.2.tx.isSome) = true) h
    (fun v kv hkv hv x hx => (mem_sinsert hx).elim (fun e => by rw [e]; exact h kv hkv) (hv x)) (fun _ hu => hu) fun _ hu => hu

/-- Where nothing is in transmission the way down only marks what is in reception. -/
theorem downSeen_quiet (h : s.transmitting p = none) :
    downSeen s p = ((((s.frameYields.setPortState p 1).failReception p).clearPause p).setFld (.PRT_PORT_STATUS p) F.PRT_PORT_STATUS_DOWN_SEEN 1).count
      (C.portDown p) := by
  have hn : (s.frameYields.setPortState p 1).transmitting p = none := frameYields_transmitting h
  have hst : (s.frameYields.setPortState p 1).stompPort p = s.frameYields.setPortState p 1 := by
    unfold State.stompPort
    rw [hn]
  rw [downSeen, hst]

theorem clearPause_keeps (h : KeepsRegs [.PRT_PORT_STATUS p, .PRT_PFC_STATUS p] s u) :
    KeepsRegs [.PRT_PORT_STATUS p, .PRT_PFC_STATUS p] s (u.clearPause p) :=
  h.trans (((Writes.refl (s := u) (ids := [])).put (rs := [.PRT_PORT_STATUS p, .PRT_PFC_STATUS p]) (r := .PRT_PFC_STATUS p) (by simp) 0#32).regs.of_regs rfl rfl)

theorem downSeen_quiet_leaves (h : s.transmitting p = none) :
    downSeen s p = { s.frameYields with regs := (downSeen s p).regs, cnt := (downSeen s p).cnt, frames := (downSeen s p).frames,
                                        ports := (downSeen s p).ports } ∧
      KeepsRegs [.PRT_PORT_STATUS p, .PRT_PFC_STATUS p] s (downSeen s p) ∧ KeepsCounters [C.portDown p] s.frameYields (downSeen s p) := by
  have hy : KeepsRegs [.PRT_PORT_STATUS p, .PRT_PFC_STATUS p] s s.frameYields := by
    rw [frameYields_rest]
    exact .of_eq rfl rfl
  rw [downSeen_quiet h]
  generalize s.frameYields = y at hy
  refine ⟨rfl, ?_, fun id hid => State.counter_count_ne _ _ _ fun e : C.portDown p = id => hid (e ▸ List.mem_singleton_self _)⟩
  have h1 : KeepsRegs [.PRT_PORT_STATUS p, .PRT_PFC_STATUS p] s ((y.setPortState p 1).failReception p) :=
    (hy.setFld (r := .PRT_PORT_STATUS p) (by simp) _ _).of_regs rfl rfl
  exact ((clearPause_keeps h1).setFld (r := .PRT_PORT_STATUS p) (by simp) _ _).of_regs rfl rfl

theorem downPort_quiet (h : s.transmitting p = none) (hp : p < 1024) (hs : StoresCanonical s) (hr : FramesInRange s)
    (hw : s.fld .PRT_PARK_CFG F.PRT_PARK_CFG_WINDOW ≠ 0) (a : Bool) :
    (s.downPort p).setAligned p a = { s.frameYields with
        regs := ((s.downPort p).setAligned p a).regs, cnt := ((s.downPort p).setAligned p a).cnt,
        frames := ((s.downPort p).setAligned p a).frames, ports := ((s.downPort p).setAligned p a).ports } ∧
      KeepsRegs [.PRT_PORT_STATUS p, .PRT_PFC_STATUS p] s ((s.downPort p).setAligned p a) ∧
      KeepsCounters [C.portDown p] s.frameYields ((s.downPort p).setAligned p a) := by
  obtain ⟨h1, h2, h3⟩ := downSeen_quiet_leaves h
  have hwd := (downSeen_down hp hs hr).2
  rw [downPort_eq]
  generalize s.frameYields = y at h1 h3
  generalize downSeen s p = d at h1 h2 h3 hwd
  unfold State.parkStart
  extract_lets x e
  have he : e.fld .PRT_PARK_CFG F.PRT_PARK_CFG_WINDOW ≠ 0 := by
    rw [show e.fld .PRT_PARK_CFG F.PRT_PARK_CFG_WINDOW = d.fld .PRT_PARK_CFG F.PRT_PARK_CFG_WINDOW from rfl, hwd]
    exact hw
  rw [if_neg he]
  refine ⟨?_, ((h2.of_regs (u := d) (t := e) rfl rfl).setFld (r := .PRT_PORT_STATUS p) (by simp) _ _).of_regs rfl rfl, h3⟩
  rw [show ((e.setPark p 1).setAligned p a) = { d with regs := ((e.setPark p 1).setAligned p a).regs, ports := ((e.setPark p 1).setAligned p a).ports } from rfl, h1]

/-! ## A parked port's window expires (R190) -/

/-- No replica whose turn in the flush has come stays. -/
theorem flushed_gone (id : Nat) (l : List Nat) (hu : RepsBelow s u) {k : Nat} (hk : k ∈ l) :
    (l.foldl (fun s k => (s.count id).release k) u).rep k = none := by
  induction l generalizing u with
  | nil => cases hk
  | cons x l ih =>
    have hc : RepsBelow s (u.count id) := hu.of_reps (Evolves.refl.count id) rfl
    have hx : RepsBelow s ((u.count id).release x) := RepsBelow.pathProof.release x hc
    rcases List.mem_cons.mp hk with rfl | hk
    · have hg : ((u.count id).release k).rep k = none := release_gone hc.canon hc.range k
      refine RepsBelow.gone (foldl_keeps l _ (.refl hx.canon hx.range) fun v y _ hv => ?_) hg
      exact RepsBelow.pathProof.release y (hv.of_reps (Evolves.refl.count id) rfl)
    · exact ih hx hk

theorem flushPort_replicas (hp : p < 1024) (hs : StoresCanonical s) (hr : FramesInRange s) {k : Nat} {r : Replica}
    (hk : (s.flushPort p).rep k = some r) : (∃ b, s.rep k = some { r with yielded := b }) ∧ (portOf r.q = p → r.tx.isSome = true) := by
  obtain ⟨b, hb⟩ := (RepsBelow.queueProof.flushPort hp (.refl hs hr)).below k r hk
  refine ⟨⟨b, hb⟩, fun hq => ?_⟩
  by_contra hn
  have hm : k ∈ (s.reps.filter fun kv => portOf kv.2.q == p && kv.2.tx.isNone).map Prod.fst :=
    List.mem_map.mpr ⟨(k, { r with yielded := b }), List.mem_filter.mpr ⟨mem_of_sfind hb, by simpa [hq] using hn⟩, rfl⟩
  have hg := flushed_gone (s := s) (C.flushed p) _ (.refl hs hr) hm
  have hfl : (s.flushPort p).reps = (((s.reps.filter fun kv => portOf kv.2.q == p && kv.2.tx.isNone).map Prod.fst).foldl
      (fun s k => (s.count (C.flushed p)).release k) s).reps := by
    unfold State.flushPort
    extract_lets ks v
    have hf := (FwdOnly.refl (s := v)).flushAdd p
    rw [FwdOnly] at hf
    split
    · rw [hf]
    · rfl
  rw [State.rep, hfl] at hk
  rw [State.rep] at hg
  rw [hg] at hk
  cases hk

theorem parkExpires (hp : s.isPort p = true) (hs : StoresCanonical s) (hr : FramesInRange s) (hk : s.park p = 1) (hst : s.portState p ≠ 3) :
    ∃ t, exec (.parkWindowExpires p) s = .next t ∧ t.park p = 2 ∧ t.portState p = s.portState p ∧
      ∀ k r, t.rep k = some r → (∃ b, s.rep k = some { r with yielded := b }) ∧ (portOf r.q = p → r.tx.isSome = true) := by
  have hlt : p < 1024 := by
    simp only [State.isPort, Bool.and_eq_true, decide_eq_true_eq] at hp
    exact hp.1.1
  have he : exec (.parkWindowExpires p) s = .next ((s.flushPort p).setPark p 2) := congrArg Host.Outcome.next (if_pos ⟨hp, hk, hst⟩)
  have hl : Lined pathReg queueCnt s (s.flushPort p) := linedPath.flushPort hlt (.refl hs hr)
  refine ⟨_, he, fld_setFld_lt hl.flows.canon.regs (by decide) (by decide), ?_, fun k r h => flushPort_replicas hlt hs hr h⟩
  exact (fld_setFld_beside hl.flows.canon.regs (by decide) (by decide)).trans (hl.status (fun _ => pathReg_indexOk) id hlt _)

/-! ## Frames begin, and codewords fail -/

theorem countedOnce_any (s : State) (id : Nat) : CountedOnce id s (s.count id) := by
  unfold CountedOnce
  have hne : (⟨(s.counter id).val + 1, (s.counter id).wrap || (s.counter id).val == BitVec.allOnes 64⟩ : Cnt) ≠ ⟨0, false⟩ := fun h => by
    obtain ⟨h1, h2⟩ := Cnt.mk.inj h
    have : (s.counter id).val = BitVec.allOnes 64 := by
      rw [← BitVec.neg_one_eq_allOnes]
      exact eq_neg_of_add_eq_zero_left h1
    simp [this] at h2
  rw [show (s.count id).counter id = sgetD (s.count id).cnt id ⟨0, false⟩ from rfl]
  simp only [State.count, sput, if_neg hne, sgetD, sfind_sinsert_self]
  rfl

theorem countOne_writes (s : State) (id : Nat) : Writes [] [id] s (s.count id) := Writes.refl.count (List.mem_singleton_self id)

/-- The frame in reception at a port fails; the others stay. -/
theorem failReception_frame (s : State) (p : Nat) {id : Nat} {f : Frame} (hf : s.frame id = some f) :
    (s.failReception p).frame id = some { f with errBlock := f.errBlock || (f.port == p && !f.fromHost && !f.engine && !f.ended) } := by
  have hfind : ∀ m : SMap Frame, sfind (m.map fun kv =>
      if kv.2.port = p ∧ !kv.2.fromHost ∧ !kv.2.engine ∧ !kv.2.ended then (kv.1, { kv.2 with errBlock := true }) else kv) id =
      (sfind m id).map fun f => { f with errBlock := f.errBlock || (f.port == p && !f.fromHost && !f.engine && !f.ended) } := by
    intro m
    induction m with
    | nil => rfl
    | cons e m ih =>
      obtain ⟨j, g⟩ := e
      by_cases hc : g.port = p ∧ !g.fromHost ∧ !g.engine ∧ !g.ended
      · have hb : (g.port == p && !g.fromHost && !g.engine && !g.ended) = true := by
          obtain ⟨h1, h2, h3, h4⟩ := hc
          simp [h1, h2, h3, h4]
        simp only [List.map_cons, if_pos hc, sfind, ih]
        split
        · simp [hb]
        · rfl
      · have hb : (g.port == p && !g.fromHost && !g.engine && !g.ended) = false := by
          refine Bool.eq_false_iff.mpr fun h => hc ?_
          simp only [Bool.and_eq_true, beq_iff_eq] at h
          exact ⟨h.1.1.1, h.1.1.2, h.1.2, h.2⟩
        simp only [List.map_cons, if_neg hc, sfind, ih]
        split
        · simp [hb]
        · rfl
  rw [State.frame, State.failReception]
  exact (hfind s.frames).trans (by rw [show sfind s.frames id = some f from hf]; rfl)

theorem codewordFails (hp : s.isPort p = true) (corrected : Bool) :
    ∃ t, exec (.fecCodewordError p corrected) s = .next t ∧
      (if corrected then CountedOnce (C.fecCorrected p) s t ∧ Writes [] [C.fecCorrected p] s t
       else CountedOnce (C.fecUncorrectable p) s t ∧ Writes [] [C.fecUncorrectable p] { s with frames := t.frames } t ∧
        ∀ id f, s.frame id = some f → t.frame id = some { f with errBlock := f.errBlock ||
          (f.port == p && !f.fromHost && !f.engine && !f.ended) }) := by
  have hx : exec (.fecCodewordError p corrected) s = execFecCodewordError p corrected s := rfl
  rw [hx, execFecCodewordError]
  cases corrected
  · refine ⟨(s.count (C.fecUncorrectable p)).failReception p, congrArg Host.Outcome.next ((if_neg (by simp [hp])).trans (if_neg nofun)), ?_⟩
    rw [if_neg Bool.false_ne_true]
    have hc : ∀ id, ((s.count (C.fecUncorrectable p)).failReception p).counter id = (s.count (C.fecUncorrectable p)).counter id := fun _ => rfl
    refine ⟨(hc _).trans (countedOnce_any s (C.fecUncorrectable p)), ⟨rfl, .of_eq rfl rfl, fun id hid => ?_⟩, fun id f hf => failReception_frame _ p hf⟩
    exact (hc id).trans (State.counter_count_ne _ _ _ fun e : C.fecUncorrectable p = id => hid (e ▸ List.mem_singleton_self _))
  · refine ⟨s.count (C.fecCorrected p), congrArg Host.Outcome.next ((if_neg (by simp [hp])).trans (if_pos rfl)), ?_⟩
    rw [if_pos rfl]
    exact ⟨countedOnce_any s _, countOne_writes s _⟩

/-- The record of a frame that begins. -/
def beginning (s : State) (f : RxFrame) : Frame :=
  { newFrame f.port f.lane (s.ingressTs f.port f.lane f.ball) s.curSel s.admitNow (f.bytes.take (s.maxFrame s.curSel f.port + 1)) with
    errBlock := f.errBlock, errCtl := f.errCtl, pipe := (s.dealTo (groupOf f.port)).1 }

theorem exec_frameStartRx (f : RxFrame) (hrun : s.running = true) (hup : s.portIsUp f.port = true) (h1 : f.port ≤ f.lane)
    (h2 : f.lane < f.port + s.blkLanes (f.port / 8))
    (hidle : ∀ kv ∈ s.frames, kv.2.port = f.port → kv.2.fromHost = true ∨ kv.2.engine = true ∨ kv.2.ended = true) :
    exec (.frameStartRx f) s = .next (if !f.room || s.rstSet 3 (f.port / 128) (f.port / 8 % 16) then s.count (C.prtRxFifoDrops f.port)
      else { s with frames := sinsert s.frames s.nextFrame (beginning s f), nextFrame := s.nextFrame + 1,
                    deal := (s.dealTo (groupOf f.port)).2.deal }) := by
  have hc1 : ¬ ((!s.running || !s.portIsUp f.port || f.lane < f.port || f.port + s.blkLanes (f.port / 8) ≤ f.lane) = true) := by
    simp [hrun, hup, h1, h2]
  have hc2 : ¬ ((s.frames.any fun kv => kv.2.port == f.port && !kv.2.fromHost && !kv.2.engine && !kv.2.ended) = true) := by
    rw [List.any_eq_true]
    rintro ⟨kv, hkv, h⟩
    simp only [Bool.and_eq_true, beq_iff_eq, Bool.not_eq_true'] at h
    obtain ⟨⟨⟨hport, ha⟩, hb⟩, hc⟩ := h
    rcases hidle kv hkv hport with h | h | h <;> simp_all
  exact congrArg Host.Outcome.next ((if_neg hc1).trans (if_neg hc2))

theorem frameBegins (f : RxFrame) (hrun : s.running = true) (hup : s.portIsUp f.port = true) (h1 : f.port ≤ f.lane)
    (h2 : f.lane < f.port + s.blkLanes (f.port / 8))
    (hidle : ∀ kv ∈ s.frames, kv.2.port = f.port → kv.2.fromHost = true ∨ kv.2.engine = true ∨ kv.2.ended = true) :
    let refused : Prop := f.room = false ∨ s.rstSet 3 (f.port / 128) (f.port / 8 % 16) = true
    ∃ t, exec (.frameStartRx f) s = .next t ∧
      (refused → CountedOnce (C.prtRxFifoDrops f.port) s t ∧ t.regs = s.regs ∧ Writes [] [C.prtRxFifoDrops f.port] s t) ∧
      (¬ refused → t = { s with frames := t.frames, nextFrame := s.nextFrame + 1, deal := t.deal } ∧
        (∀ id, id ≠ s.nextFrame → t.frame id = s.frame id) ∧ t.frame s.nextFrame = some (beginning s f)) := by
  intro refused
  have hx := exec_frameStartRx f hrun hup h1 h2 hidle
  have hr : refused ↔ (!f.room || s.rstSet 3 (f.port / 128) (f.port / 8 % 16)) = true := by
    rw [Bool.or_eq_true, Bool.not_eq_true']
  by_cases h : refused
  · rw [if_pos (hr.mp h)] at hx
    exact ⟨_, hx, fun _ => ⟨countedOnce_any s _, rfl, countOne_writes s _⟩, fun hn => absurd h hn⟩
  · rw [if_neg (fun h' => h (hr.mpr h'))] at hx
    exact ⟨_, hx, fun h' => absurd h' h, fun _ => ⟨rfl, fun id hid => sfind_sinsert_ne _ _ _ _ (Ne.symm hid), sfind_sinsert_self ..⟩⟩

/-! ## The obligation -/

theorem isPort_lt (h : s.isPort p = true) : p < 1024 := by
  simp only [State.isPort, Bool.and_eq_true, decide_eq_true_eq] at h
  exact h.1.1

/-- The record that a transition without traffic leaves alone. -/
theorem PortShown.alone (h : PortShown p s t) : t = { s with regs := t.regs, ports := t.ports } ∧ KeepsRegs [.PRT_PORT_STATUS p] s t ∧
    (skeysFrom none s.ports = true → t.portSt p = { s.portSt p with aligned := (t.portSt p).aligned }) ∧ ∀ q, q ≠ p → t.portSt q = s.portSt q :=
  ⟨h.rest, h.regs, h.mine, h.others⟩

theorem portUps {skew : Nat} (hp : s.isPort p = true) (hs : StoresCanonical s) (hr : FramesInRange s) (hk : skew ≤ 180000) (hst : s.portState p = 2)
    (hl : s.lanesUp p = true) :
    ∃ t, exec (.portUp p skew) s = .next t ∧ t.portState p = 3 ∧
      t.fld (.PRT_PORT_STATUS p) F.PRT_PORT_STATUS_LOCAL_FAULT = 0 ∧ t.fld (.PRT_PORT_STATUS p) F.PRT_PORT_STATUS_REMOTE_FAULT = 0 ∧
      t.fld (.PRT_PORT_STATUS p) F.PRT_PORT_STATUS_DOWN_SEEN = s.fld (.PRT_PORT_STATUS p) F.PRT_PORT_STATUS_DOWN_SEEN ∧
      ((skeysFrom none s.ports = true → (t.portSt p).aligned = true) ∧ ∀ q, q ≠ p → (t.portSt q).aligned = (s.portSt q).aligned) ∧
      (s.park p ≠ 1 → t.park p = 0 ∧ KeepsRegs [.PRT_PORT_STATUS p, .PRT_PFC_STATUS p] s t ∧ t = { s with regs := t.regs, ports := t.ports }) ∧
      (s.park p = 1 → t.park p = 3 ∨ t.park p = 0) := by
  have hlt := isPort_lt hp
  have hx : exec (.portUp p skew) s = .next (s.upPort p) := congrArg Host.Outcome.next (if_pos ⟨hp, hst, hl, hk⟩)
  obtain ⟨h1, h2, -, h4, h5⟩ := shownAs_fld (p := p) hs.regs (some 3) false false true
  obtain ⟨h6, h7⟩ := shownAs_aligned (s := s) (p := p) (some 3) false false true
  have he : Entered p (shownAs s p (some 3) false false true) (s.upPort p) := by
    by_cases hk : s.park p = 1
    · exact (upPort_parked hlt hs hr hk).1
    · exact (upPort_unparked hlt hs hr hk).1
  refine ⟨_, hx, (he.status _ (by decide) (by decide)).trans h5, (he.status _ (by decide) (by decide)).trans h1,
    (he.status _ (by decide) (by decide)).trans h2, (he.status _ (by decide) (by decide)).trans h4,
    ⟨fun hk => (he.aligned p).trans (h6 hk), fun q hq => (he.aligned q).trans (h7 q hq)⟩, fun hk => (upPort_unparked hlt hs hr hk).2,
    fun hk => (upPort_parked hlt hs hr hk).2⟩

theorem portAlignFails (hp : s.isPort p = true) (hs : StoresCanonical s) (hst : s.portState p = 2) (l r : Bool) :
    ∃ t, exec (.portAlignFail p l r) s = .next t ∧ t = (shownAs s p (some (if s.lanesUp p = true then 2 else 1)) l r false).count (C.alignFail p) ∧
      CountedOnce (C.alignFail p) s t ∧ KeepsCounters [C.alignFail p] s t := by
  have hrest : (shownAs s p (some (if s.lanesUp p = true then 2 else 1)) l r false).cnt = s.cnt := rfl
  refine ⟨_, congrArg Host.Outcome.next (if_pos ⟨hp, hst⟩), rfl, ?_⟩
  change CountedOnce _ s ((shownAs s p (some (if s.lanesUp p = true then 2 else 1)) l r false).count _) ∧
    KeepsCounters _ s ((shownAs s p (some (if s.lanesUp p = true then 2 else 1)) l r false).count _)
  generalize shownAs s p (some (if s.lanesUp p = true then 2 else 1)) l r false = v at hrest ⊢
  refine ⟨?_, fun id hid => ?_⟩
  · have hc := countedOnce_any v (C.alignFail p)
    rw [CountedOnce, counter_of_cnt hrest] at hc
    exact hc
  · exact (State.counter_count_ne _ _ _ fun e : C.alignFail p = id => hid (e ▸ List.mem_singleton_self _)).trans (counter_of_cnt hrest id)

theorem portDowns (hp : s.isPort p = true) (hs : StoresCanonical s) (hr : FramesInRange s) (hst : s.portState p = 3) (cause : DownCause) :
    ∃ t, exec (.portDown p cause) s = .next t ∧ t.portState p = 1 ∧
      t.fld (.PRT_PORT_STATUS p) F.PRT_PORT_STATUS_DOWN_SEEN = 1 ∧ t.get (.PRT_PFC_STATUS p) = 0#32 ∧ CountedOnce (C.portDown p) s t ∧
      t.park p = (if s.fld .PRT_PARK_CFG F.PRT_PARK_CFG_WINDOW = 0 then 2 else 1) ∧
      t.fld (.PRT_PORT_STATUS p) F.PRT_PORT_STATUS_LOCAL_FAULT = (if cause = .remoteFault then 0 else 1) ∧
      (skeysFrom none s.ports = true → (t.portSt p).aligned = (cause == .remoteFault)) ∧
      t.fld (.PRT_PORT_STATUS p) F.PRT_PORT_STATUS_REMOTE_FAULT = (if cause = .remoteFault then 1 else 0) ∧
      (s.fld .PRT_PARK_CFG F.PRT_PARK_CFG_WINDOW ≠ 0 → s.transmitting p = none →
        let u := (s.seeCause p cause).frameYields
        t = { u with regs := t.regs, cnt := t.cnt, frames := t.frames, ports := t.ports } ∧
        KeepsRegs [.PRT_PORT_STATUS p, .PRT_PFC_STATUS p] s t ∧ KeepsCounters [C.portDown p] u t) := by
  have hlt := isPort_lt hp
  have hx : exec (.portDown p cause) s = .next (((s.seeCause p cause).downPort p).setAligned p (cause == .remoteFault)) := by
    refine congrArg Host.Outcome.next ((if_neg ?_).trans (if_pos hst))
    simp [hp, hst]
  have hev : Evolves s (s.seeCause p cause) := Evolves.refl.seeCause p cause
  have hsh : PortShown p s (s.seeCause p cause) := PortShown.refl.seeFaults _ _
  have hl : (s.seeCause p cause).fld (.PRT_PORT_STATUS p) F.PRT_PORT_STATUS_LOCAL_FAULT = if cause = .remoteFault then 0 else 1 :=
    (seeFaults_local hs.regs _ _).trans (by cases cause <;> rfl)
  have hrf : (s.seeCause p cause).fld (.PRT_PORT_STATUS p) F.PRT_PORT_STATUS_REMOTE_FAULT = if cause = .remoteFault then 1 else 0 :=
    (seeFaults_remote hs.regs _ _).trans (by cases cause <;> rfl)
  have hw : (s.seeCause p cause).fld .PRT_PARK_CFG F.PRT_PARK_CFG_WINDOW = s.fld .PRT_PARK_CFG F.PRT_PARK_CFG_WINDOW :=
    hsh.regs.fld (q := .PRT_PARK_CFG) (fun r hr => by
      rw [List.mem_singleton.mp hr]
      exact addr_ne (q := .PRT_PARK_CFG) (r := .PRT_PORT_STATUS p) rfl (decide_eq_true hlt) nofun) _
  have hc : (s.seeCause p cause).counter (C.portDown p) = s.counter (C.portDown p) := rfl
  have htr : (s.seeCause p cause).transmitting p = s.transmitting p := rfl
  rw [hx]
  generalize s.seeCause p cause = v at hev hsh hl hrf hw hc htr
  obtain ⟨hd, hpark⟩ := downPort_down hlt (hev.stores hs) (hev.range hr)
  have ha : Down p v ((v.downPort p).setAligned p (cause == .remoteFault)) := putPortSt_down hd _
  have hpark : ((v.downPort p).setAligned p (cause == .remoteFault)).park p = _ := hpark
  have hal : skeysFrom none s.ports = true → (((v.downPort p).setAligned p (cause == .remoteFault)).portSt p).aligned = (cause == .remoteFault) :=
    fun hk => aligned_setAligned (hd.keys (hsh.keys hk)) _
  refine ⟨_, rfl, ha.state, ha.seen, ha.pause, ?_, hpark.trans (by rw [hw]), ha.localFault.trans hl, hal,
    ha.remoteFault.trans hrf, fun hwn ht => ?_⟩
  · have := ha.counted
    rw [CountedOnce, hc] at this
    exact this
  · obtain ⟨h1, h2, h3⟩ := downPort_quiet (htr.trans ht) hlt (hev.stores hs) (hev.range hr) (by rw [hw]; exact hwn) (cause == .remoteFault)
    exact ⟨h1, (hsh.regs.weaken fun r hr => by rw [List.mem_singleton.mp hr]; exact List.mem_cons_self ..).trans h2, h3⟩

/-- Settles O27: the transitions without traffic by `shownAs_fld`, the entry into UP by `portUps`, the way down by `portDowns`, the window
by `parkExpires`, a frame's begin by `frameBegins` and codewords by `codewordFails`. -/
theorem portsChangeAndReceive : Obligations.PortsChangeAndReceive := by
  unfold Obligations.PortsChangeAndReceive
  refine ⟨fun s p lf rf hs hr hp => ⟨fun h1 hl => ?_, fun h2 => ?_, fun skew hk => ?_, fun skew hk hst hl => portUps hp hs hr hk hst hl, fun h2 => ?_,
      fun cause hst => ?_, fun cause hst => portDowns hp hs hr hst cause, fun hk hst => parkExpires hp hs hr hk hst⟩,
    fun s f hrun hup h1 h2 hidle => ?_, fun s p corrected hp => codewordFails hp corrected⟩
  · obtain ⟨f1, f2, f3, f4, f5⟩ := shownAs_fld (p := p) hs.regs (some 2) lf rf false
    have hx : exec (.portLanesUp p lf rf) s = .next (shownAs s p (some 2) lf rf false) := congrArg Host.Outcome.next (if_pos ⟨hp, h1, hl⟩)
    exact ⟨_, hx, f5, ⟨f1, f2⟩, ⟨f3, f4⟩, (shownAs_shown s p (some 2) lf rf false).alone, shownAs_aligned (some 2) lf rf false⟩
  · obtain ⟨f1, f2, f3, f4, f5⟩ := shownAs_fld (p := p) hs.regs none lf rf (!lf)
    have hx : exec (.portLanesUp p lf rf) s = .next (shownAs s p none lf rf (!lf)) :=
      congrArg Host.Outcome.next ((if_neg fun h => by have := h.2.1; omega).trans (if_pos ⟨hp, h2⟩))
    exact ⟨_, hx, f5.trans h2, ⟨f1, f2⟩, ⟨f3, f4⟩, (shownAs_shown s p none lf rf (!lf)).alone, shownAs_aligned none lf rf (!lf)⟩
  · exact congrArg Host.Outcome.next (if_neg fun h => by omega)
  · obtain ⟨t, hx, ht, hc, hkc⟩ := portAlignFails hp hs h2 lf rf
    obtain ⟨f1, f2, f3, f4, f5⟩ := shownAs_fld (p := p) hs.regs (some (if s.lanesUp p = true then 2 else 1)) lf rf false
    have hsh := shownAs_shown s p (some (if s.lanesUp p = true then 2 else 1)) lf rf false
    have hal := shownAs_aligned (s := s) (p := p) (some (if s.lanesUp p = true then 2 else 1)) lf rf false
    generalize shownAs s p (some (if s.lanesUp p = true then 2 else 1)) lf rf false = v at ht f1 f2 f3 f4 f5 hsh hal
    subst ht
    refine ⟨_, hx, f5.trans (by split <;> rfl), ⟨f1, f2⟩, ⟨f3, f4⟩, hc, hkc, hal, hsh.regs.of_regs rfl rfl, ?_⟩
    rw [hsh.rest]
    rfl
  · obtain ⟨f1, f2, f3, f4, f5⟩ := shownAs_fld (p := p) hs.regs none (cause != .remoteFault) (cause == .remoteFault) (cause == .remoteFault)
    have hx : exec (.portDown p cause) s = .next (shownAs s p none (cause != .remoteFault) (cause == .remoteFault) (cause == .remoteFault)) := by
      refine congrArg Host.Outcome.next ((if_neg ?_).trans (if_neg (by omega)))
      rcases hst with h | h <;> simp [hp, h]
    refine ⟨_, hx, f5, ⟨f3, f4⟩, (shownAs_shown s p none _ _ _).alone, shownAs_aligned none (cause != .remoteFault) _ _, f1.trans (by cases cause <;> rfl), f2.trans (by cases cause <;> rfl)⟩
  · obtain ⟨t, hx, h3, h4⟩ := frameBegins f hrun hup h1 h2 hidle
    exact ⟨t, hx, h3, fun h => ⟨(h4 h).1, (h4 h).2.1, _, (h4 h).2.2, rfl, rfl, rfl, rfl, rfl, rfl, rfl, rfl, rfl, rfl, rfl, rfl⟩⟩

end Sys2Proof
end

section
/-! PROOF. Deep inspection, and what a classified frame's action does (R216 to R222). -/
namespace Sys2Proof

open Sys2Proof.Machine

set_option Elab.async false

variable {s t u v w : State} {id : Nat} {f g : Frame} {a : Action}

/-! ## A frame's leaving, in full -/

/-- The record of a frame that is dropped before it has ended. -/
def asDropped (f : Frame) : Frame := { f with stage := .dropped, pool := none, charge := 0, extra := 0, left := 0, cells := [] }

/-- A frame that leaves is gone, or stays marked as dropped until it has ended; a transmit frame counts as sent unless it was queued. -/
theorem frameGone_leaves (hf : s.frame id = some f) :
    (s.frameGone id).frames = (if f.ended then serase s.frames id else sinsert s.frames id (asDropped f)) ∧
      (s.frameGone id).cnt = (if f.fromHost && f.stage != Stage.queued then s.count (C.txFrames f.port) else s).cnt := by
  simp only [State.frameGone, hf]
  generalize hu : (if f.fromHost && f.stage != Stage.queued then (s.txDone id).count (C.txFrames f.port) else s.txDone id) = u
  have huf : u.frames = s.frames := by rw [← hu]; split <;> rfl
  have huc : u.cnt = (if f.fromHost && f.stage != Stage.queued then s.count (C.txFrames f.port) else s).cnt := by rw [← hu]; split <;> rfl
  generalize hv : (if f.ended then { u with frames := serase u.frames id } else u.putFrame id (asDropped f)) = v
  have hvf : v.frames = if f.ended then serase s.frames id else sinsert s.frames id (asDropped f) := by
    rw [← hv, ← huf]
    split <;> rfl
  have hvc : v.cnt = u.cnt := by rw [← hv]; split <;> rfl
  have hx : (if f.ended = true then { u with frames := serase u.frames id }
    else u.putFrame id { f with stage := .dropped, pool := none, charge := 0, extra := 0, left := 0, cells := [] }) = v := hv
  rw [hx]
  have hpf : ∀ p, (v.pauseEval p).frames = v.frames ∧ (v.pauseEval p).cnt = v.cnt := fun p => by
    rw [pauseEval_rest]
    exact ⟨rfl, rfl⟩
  rw [checkEpoch_frames, checkEpoch_cnt, ← huc, ← hvf, ← hvc]
  split
  · exact ⟨rfl, rfl⟩
  · exact hpf f.port

theorem checkGone_leaves (hr : s.refs id = 0) : s.checkGone id = s.frameGone id := if_pos hr

/-! ## Discards -/

theorem countDrop_rest (s : State) (f : Frame) (c : Nat → Nat) : s.countDrop f c = { s with cnt := (s.countDrop f c).cnt } := rfl

/-- A discard without a copy owed: the frame is gone, or marked as dropped. -/
theorem discardTo_leaves (c : Nat → Nat) (hr : s.refs id = 0) (hc : f.copyRing = none) :
    (s.discardTo id f c).frames = (if f.ended then serase (sinsert s.frames id f) id else sinsert (sinsert s.frames id f) id (asDropped f)) ∧
      (s.discardTo id f c).cnt =
        (if f.fromHost && f.stage != Stage.queued then (s.countDrop f c).count (C.txFrames f.port) else s.countDrop f c).cnt := by
  have hrefs : ((s.countDrop f c).putFrame id f).refs id = 0 := hr
  have hd : s.discardTo id f c = ((s.countDrop f c).putFrame id f).frameGone id := by
    simp only [State.discardTo, hc, State.dropFrame]
    exact checkGone_leaves hrefs
  rw [hd]
  have hf : ((s.countDrop f c).putFrame id f).frame id = some f := sfind_sinsert_self ..
  obtain ⟨h1, h2⟩ := frameGone_leaves hf
  refine ⟨h1, h2.trans ?_⟩
  split <;> rfl

/-- The discard counter of a frame counts once, whether or not the frame then leaves. -/
theorem countedOnce_discard (p : Nat) (b : Bool) :
    CountedOnce (if b then C.txDrops p else C.pipDrops p) s
      (if b && st then (s.count (if b then C.txDrops p else C.pipDrops p)).count (C.txFrames p)
       else s.count (if b then C.txDrops p else C.pipDrops p)) := by
  cases b
  · exact countedOnce_any s _
  · cases st
    · exact countedOnce_any s _
    · exact (State.counter_count_ne _ _ _ (by simp only [C.txDrops, C.txFrames, if_true]; omega)).trans (countedOnce_any s _)

/-! ## What an action does (R217) -/

/-- The record to which an action applies: class and action are noted, and the ring of its copy. -/
def acted (f : Frame) (a : Action) : Frame :=
  { f with act := some a, cls := a.cls, copyRing := if a.copyHost && a.disp == 0 then some a.ring else none }

theorem applyAction_host (h : a.disp = 2 ∨ a.disp = 1 ∧ a.copyHost = true) :
    s.applyAction id f a = s.advance id { acted f a with route := some (.ring a.ring 0) } .routed := if_pos h

theorem applyAction_redir (h0 : a.disp = 0) (hd : a.redir = true) (hp : s.isPort a.port = true) :
    s.applyAction id f a = s.advance id { acted f a with route := some (.port a.port) } .routed :=
  (if_neg (by simp [h0])).trans ((if_neg (by omega)).trans ((if_pos hd).trans (if_pos hp)))

theorem applyAction_lookup (h0 : a.disp = 0) (hd : a.redir = false) : s.applyAction id f a = s.advance id (acted f a) .lookup :=
  (if_neg (by simp [h0])).trans ((if_neg (by omega)).trans (if_neg (by simp [hd])))

theorem acted_ring (f : Frame) (a : Action) : (acted f a).copyRing = if a.disp = 0 ∧ a.copyHost = true then some a.ring else none := by
  unfold acted
  by_cases h0 : a.disp = 0 <;> cases h1 : a.copyHost <;> simp [h0]

theorem advance_leaves (s : State) (id : Nat) (f : Frame) (st : Stage) :
    (s.advance id f st).frame id = some { f with stage := st, lkSeq := s.nextLk } ∧
      s.advance id f st = { s with frames := (s.advance id f st).frames, nextLk := s.nextLk + 1 } ∧
      ∀ k, k ≠ id → (s.advance id f st).frame k = s.frame k :=
  ⟨sfind_sinsert_self .., rfl, fun _ hk => sfind_sinsert_ne _ _ _ _ (Ne.symm hk)⟩

/-- An action discards where it drops without a copy to the host, and where it redirects to what is no port. -/
theorem applyAction_discards (h : a.disp = 1 ∧ a.copyHost = false ∨ a.disp = 0 ∧ a.redir = true ∧ s.isPort a.port = false) :
    (∀ r, (acted f a).copyRing = some r → s.applyAction id f a =
        (s.countDrop (acted f a) C.pipDrops).advance id { acted f a with route := none } .routed) ∧
      ((acted f a).copyRing = none → s.applyAction id f a = s.discardTo id (acted f a) C.pipDrops) := by
  rcases h with ⟨h1, h2⟩ | ⟨h1, h2, h3⟩
  · have hc : (acted f a).copyRing = none := by rw [acted_ring, if_neg (by omega)]
    exact ⟨fun r hr => absurd (hc.symm.trans hr) nofun, fun _ => (if_neg (by simp [h1, h2])).trans (if_pos h1)⟩
  · refine ⟨fun r hr => ?_, fun hr => ?_⟩
    all_goals
      refine (if_neg (by simp [h1])).trans ((if_neg (by omega)).trans ((if_pos h2).trans ((if_neg (by simp [h3])).trans ?_)))
      unfold acted at hr ⊢
      simp only at hr ⊢
      rw [hr]

/-- An action's discard: its counter, the copy that is owed, and the frame's end. -/
theorem applyAction_discard (hr : s.refs id = 0)
    (h : a.disp = 1 ∧ a.copyHost = false ∨ a.disp = 0 ∧ a.redir = true ∧ s.isPort a.port = false) :
    let ring := if a.disp = 0 ∧ a.copyHost = true then some a.ring else none
    let drops := if f.fromHost then C.txDrops f.port else C.pipDrops f.port
    let t := s.applyAction id f a
    CountedOnce drops s t ∧
      (ring.isSome = true → ∃ g, t.frame id = some g ∧ g.stage = Stage.routed ∧ g.copyRing = ring) ∧
      (ring = none → f.fromHost = false → StoresCanonical s →
        (f.ended = true → t.frame id = none) ∧
        (f.ended = false → ∃ g, t.frame id = some g ∧ g.stage = Stage.dropped ∧ g.charge = 0 ∧ g.cells = [])) := by
  intro ring drops t
  have hring : (acted f a).copyRing = ring := acted_ring f a
  have ht : t = s.applyAction id f a := rfl
  obtain ⟨hcopy, hnone⟩ := applyAction_discards (id := id) (f := f) h
  clear_value t
  cases hc : (acted f a).copyRing with
  | some r =>
    rw [hcopy r hc] at ht
    have hc' : (acted f a).copyRing = some r := hc
    obtain ⟨hg, -, -⟩ := advance_leaves (s.countDrop (acted f a) C.pipDrops) id { acted f a with route := none } .routed
    rw [← ht] at hg
    refine ⟨?_, fun _ => ⟨_, hg, rfl, hring⟩, fun hn => ?_⟩
    · rw [ht]
      exact countedOnce_any s _
    · rw [hring, hn] at hc'
      cases hc'
  | none =>
    rw [hnone hc] at ht
    obtain ⟨h1, h2⟩ := discardTo_leaves (s := s) (id := id) C.pipDrops hr hc
    rw [← ht] at h1 h2
    refine ⟨?_, fun hs => ?_, fun _ hh hs => ⟨fun he => ?_, fun he => ?_⟩⟩
    · have := countedOnce_discard (s := s) (st := (acted f a).stage != Stage.queued) f.port f.fromHost
      exact (counter_of_cnt h2 _).trans this
    · rw [← hring, hc] at hs
      exact absurd hs (by decide)
    · rw [State.frame, h1, if_pos (show (acted f a).ended = true from he)]
      exact sfind_serase_self _ _ _ (skeysFrom_sinsert _ none _ _ (fun _ hx => nomatch hx) hs.frames)
    · refine ⟨(asDropped (acted f a)), ?_, rfl, rfl, rfl⟩
      rw [State.frame, h1, if_neg (by rw [show (acted f a).ended = f.ended from rfl, he]; decide)]
      exact sfind_sinsert_self ..

/-- An action moves a frame out of the inspection engine, and leaves every other frame. -/
theorem applyAction_frames (hs : StoresCanonical s) (hr : s.refs id = 0) (f : Frame) (a : Action) :
    (∀ k, k ≠ id → (s.applyAction id f a).frame k = s.frame k) ∧
      ∀ g, (s.applyAction id f a).frame id = some g → g.stage = Stage.routed ∨ g.stage = Stage.lookup ∨ g.stage = Stage.dropped := by
  have hadv : ∀ (u : State) (h : Frame) (st : Stage), u.frames = s.frames → st = .routed ∨ st = .lookup →
      (∀ k, k ≠ id → (u.advance id h st).frame k = s.frame k) ∧
        ∀ g, (u.advance id h st).frame id = some g → g.stage = Stage.routed ∨ g.stage = Stage.lookup ∨ g.stage = Stage.dropped := by
    intro u h st hu hst
    obtain ⟨h1, -, h3⟩ := advance_leaves u id h st
    refine ⟨fun k hk => (h3 k hk).trans (congrArg (sfind · k) hu), fun g hg => ?_⟩
    rw [h1] at hg
    cases hg
    rcases hst with rfl | rfl
    · exact .inl rfl
    · exact .inr (.inl rfl)
  have hdis : (acted f a).copyRing = none → (∀ k, k ≠ id → (s.discardTo id (acted f a) C.pipDrops).frame k = s.frame k) ∧
      ∀ g, (s.discardTo id (acted f a) C.pipDrops).frame id = some g → g.stage = Stage.routed ∨ g.stage = Stage.lookup ∨ g.stage = Stage.dropped := by
    intro hc
    obtain ⟨h1, -⟩ := discardTo_leaves (s := s) (id := id) C.pipDrops hr hc
    refine ⟨fun k hk => ?_, fun g hg => ?_⟩
    · rw [State.frame, h1]
      split
      · rw [sfind_serase_ne _ _ _ (Ne.symm hk), sfind_sinsert_ne _ _ _ _ (Ne.symm hk)]
        rfl
      · rw [sfind_sinsert_ne _ _ _ _ (Ne.symm hk), sfind_sinsert_ne _ _ _ _ (Ne.symm hk)]
        rfl
    · rw [State.frame, h1] at hg
      split at hg
      · rw [sfind_serase_self _ none _ (skeysFrom_sinsert _ none _ _ (fun _ hx => nomatch hx) hs.frames)] at hg
        cases hg
      · rw [sfind_sinsert_self] at hg
        cases hg
        exact .inr (.inr rfl)
  unfold State.applyAction
  extract_lets h
  split
  · exact hadv s _ _ rfl (.inl rfl)
  · next h1 =>
    split
    · next h2 =>
      have hcr : (acted f a).copyRing = none := by rw [acted_ring, if_neg (by omega)]
      exact hdis hcr
    · split
      · split
        · exact hadv s _ _ rfl (.inl rfl)
        · split
          · exact hadv _ _ _ rfl (.inl rfl)
          · next hc => exact hdis hc
      · exact hadv s _ _ rfl (.inr rfl)

/-! ## The inspection engine (R219 to R222) -/

/-- The frames of one source in the engine or on the way round. -/
def inEngine (f0 : Frame) (kv : Nat × Frame) : Bool :=
  (kv.2.stage == Stage.dpi || kv.2.stage == Stage.recirc) && kv.2.port == f0.port && kv.2.fromHost == f0.fromHost

theorem dpiRelease_stops (f0 : Frame) (n : Nat) (h : ∀ kv ∈ s.frames, inEngine f0 kv = true → kv.2.stage = Stage.recirc) :
    s.dpiRelease f0 n = s := by
  cases n with
  | zero => rfl
  | succ n =>
    unfold State.dpiRelease
    split
    · rfl
    · next id f hf =>
      have hst := h _ (List.mem_of_find?_eq_some hf) (List.find?_some hf)
      rw [if_pos (by simp [show f.stage = Stage.recirc from hst])]

/-- What the release of one scanned frame does to it. -/
def released (s : State) (id : Nat) (f : Frame) : State :=
  if (f.act.getD ⟨0, 0⟩).recirc = 2 ∨ ((f.act.getD ⟨0, 0⟩).recirc = 1 ∧ f.dpiHit) then
    (s.count (C.dpiRecirc f.slice)).putFrame id { f with stage := .recirc }
  else s.applyAction id { f with dpiHit := false, dpiTag := 0 } (f.act.getD ⟨0, 0⟩)

/-- A scanned frame that is alone in the engine is released, and nothing follows it. -/
theorem dpiRelease_alone {f0 : Frame} (hs : StoresCanonical s) (hf : s.frame id = some f) (hr : s.refs id = 0) (hst : f.stage = Stage.dpi)
    (hsc : f.scanned = true) (hport : f.port = f0.port) (hhost : f.fromHost = f0.fromHost)
    (halone : ∀ kv ∈ s.frames, inEngine f0 kv = true → kv.1 = id) (n : Nat) :
    s.dpiRelease f0 (n + 1) = released s id f := by
  have hin : inEngine f0 (id, f) = true := by simp [inEngine, hst, hport, hhost]
  have hfind : s.frames.find? (inEngine f0) = some (id, f) := by
    cases hx : s.frames.find? (inEngine f0) with
    | none => exact absurd hin (List.find?_eq_none.mp hx _ (mem_of_sfind hf))
    | some kv =>
      have hm := List.mem_of_find?_eq_some hx
      have hid := halone kv hm (List.find?_some hx)
      have hkv := frame_of_mem hs hm
      rw [hid, hf] at hkv
      rw [Option.some.inj hkv, ← hid]
  have hnext : ∀ kv ∈ (released s id f).frames, inEngine f0 kv = true → kv.2.stage = Stage.recirc := by
    have hcanon : StoresCanonical (released s id f) := by
      have hn : Named s f := Evolves.refl.frame (mem_of_sfind hf)
      exact Evolves.stores (s := s) (.ite ((Evolves.refl.count _).putFrame id hn.upd) (Evolves.refl.applyAction id _ hn.upd)) hs
    intro kv hkv hk
    have hu := frame_of_mem hcanon hkv
    have hother : kv.1 ≠ id → (∀ k, k ≠ id → (released s id f).frame k = s.frame k) → False := fun hne h =>
      hne (halone kv (mem_of_sfind ((h kv.1 hne).symm.trans hu)) hk)
    unfold released at hu hother
    split at hu
    · next hc =>
      rw [if_pos hc] at hother
      by_cases hid : kv.1 = id
      · rw [hid] at hu
        rw [← Option.some.inj ((sfind_sinsert_self ..).symm.trans hu)]
      · exact (hother hid fun k hkn => sfind_sinsert_ne _ _ _ _ (Ne.symm hkn)).elim
    · next hc =>
      rw [if_neg hc] at hother
      obtain ⟨h1, h2⟩ := applyAction_frames (id := id) hs hr { f with dpiHit := false, dpiTag := 0 } (f.act.getD ⟨0, 0⟩)
      by_cases hid : kv.1 = id
      · rw [hid] at hu
        have hstage := h2 _ hu
        rcases hstage with h | h | h <;> simp [inEngine, h] at hk
      · exact (hother hid h1).elim
  unfold State.dpiRelease
  rw [show (s.frames.find? fun kv => (kv.2.stage == Stage.dpi || kv.2.stage == Stage.recirc) && kv.2.port == f0.port &&
        kv.2.fromHost == f0.fromHost) = some (id, f) from hfind]
  exact (if_neg (by simp [hst, hsc])).trans (dpiRelease_stops f0 n hnext)

/-! ## The rows that match -/

theorem skeys_pairwise {α : Type} {m : SMap α} {l : Option Nat} (h : skeysFrom l m = true) :
    (∀ lo, l = some lo → ∀ kv ∈ m, lo < kv.1) ∧ m.Pairwise fun a b => a.1 < b.1 := by
  induction m generalizing l with
  | nil => exact ⟨fun _ _ _ h => (nomatch h), .nil⟩
  | cons e m ih =>
    obtain ⟨k, x⟩ := e
    rw [skeysFrom_cons] at h
    obtain ⟨h1, h2⟩ := ih h.2
    have hk : ∀ kv ∈ m, k < kv.1 := h1 k rfl
    refine ⟨fun lo hlo kv hkv => ?_, List.pairwise_cons.mpr ⟨hk, h2⟩⟩
    rcases List.mem_cons.mp hkv with rfl | hm
    · exact h.1 lo hlo
    · exact Nat.lt_trans (h.1 lo hlo) (hk kv hm)

theorem visibleRows_pairwise (h : skeysFrom none s.rows = true) (table e : Nat) : (s.visibleRows table e).Pairwise fun a b => a.1 < b.1 := by
  unfold State.visibleRows
  rw [List.pairwise_filterMap]
  refine (skeys_pairwise h).2.imp fun {x y} hxy b hb b' hb' => ?_
  split at hb
  · split at hb'
    · cases hx : x.2.find? fun r => r.vis e <;> rw [hx] at hb <;> cases hb
      cases hy : y.2.find? fun r => r.vis e <;> rw [hy] at hb' <;> cases hb'
      simp only
      omega
    · cases hb'
  · cases hb

theorem patternMatches_lowest (h : skeysFrom none s.rows = true) (f : Frame) (p : Parse) {x : Nat × Row} {rest : List (Nat × Row)}
    (hc : s.patternMatches f p = x :: rest) {y : Nat × Row} (hy : y ∈ rest) : x.1 < y.1 := by
  have hp := (visibleRows_pairwise h (0x18 + f.slice) f.sel).filter (fun x => x.2.patMatches (scanRegion p f.bytes))
  rw [show List.filter _ _ = x :: rest from hc, List.pairwise_cons] at hp
  exact hp.1 y hy

theorem searchRows_clean (s : State) (table : Nat) (x : Nat × Row) (rest : List (Nat × Row)) : s.searchRows table [] (x :: rest) = (s, some x) :=
  if_neg (by simp)

/-! ## The verdict -/

/-- The frame after its scan, before it is released. -/
def scanned (f : Frame) (hit : Option (Nat × Row)) : Frame :=
  match hit with
  | some x => { f with scanned := true, dpiHit := true, dpiTag := (x.2.words.getD 0 0).toNat % 65536 }
  | none => { f with scanned := true, dpiHit := false, dpiTag := 0 }

theorem exec_dpiVerdict {p : Parse} (hf : s.frame id = some f) (hp : f.parse = some p) (hst : f.stage = Stage.dpi) (hsc : f.scanned = false)
    (bad : List Nat) {hit : Option (Nat × Row)}
    (hr : s.searchRows (0x18 + f.slice) bad (f.scanOld.getD (s.patternMatches f p)) = (s, hit)) :
    exec (.dpiVerdict id bad) s =
      .next (State.dpiRelease ((if hit.isSome then s.count (C.dpiHits f.slice) else s).putFrame id (scanned f hit)) f
        (((if hit.isSome then s.count (C.dpiHits f.slice) else s).putFrame id (scanned f hit)).frames.length + 1)) := by
  have hx : exec (.dpiVerdict id bad) s = execDpiVerdict id bad s := rfl
  rw [hx, execDpiVerdict]
  refine congrArg Host.Outcome.next ?_
  split
  · next hn => cases hn.symm.trans hf
  · next f' hf' =>
    cases hf'.symm.trans hf
    split
    · next hn => cases hn.symm.trans hp
    · next p' hp' =>
      cases hp'.symm.trans hp
      rw [if_neg (by simp [hst, hsc]), hr]
      cases hit <;> rfl

/-- A scan whose frame is alone in the engine ends with the frame's release. -/
theorem dpiVerdict_releases {p : Parse} (hs : StoresCanonical s) (hrange : FramesInRange s) (hf : s.frame id = some f) (hp : f.parse = some p)
    (hst : f.stage = Stage.dpi) (hsc : f.scanned = false) (hr0 : s.refs id = 0)
    (halone : ∀ kv ∈ s.frames, kv.2.stage = Stage.dpi ∨ kv.2.stage = Stage.recirc → kv.2.port = f.port → kv.2.fromHost = f.fromHost → kv.1 = id)
    (bad : List Nat) {hit : Option (Nat × Row)}
    (hr : s.searchRows (0x18 + f.slice) bad (f.scanOld.getD (s.patternMatches f p)) = (s, hit)) :
    exec (.dpiVerdict id bad) s =
      .next (released ((if hit.isSome then s.count (C.dpiHits f.slice) else s).putFrame id (scanned f hit)) id (scanned f hit)) := by
  rw [exec_dpiVerdict hf hp hst hsc bad hr]
  generalize hu : (if hit.isSome then s.count (C.dpiHits f.slice) else s) = u
  have hev : Evolves s u := by rw [← hu]; exact .ite (Evolves.refl.count _) .refl
  have hfr : u.frames = s.frames := by rw [← hu]; split <;> rfl
  have href : u.refs id = 0 := by rw [← hu]; split <;> exact hr0
  have hcan : StoresCanonical (u.putFrame id (scanned f hit)) := by
    have hn : Named s f := Evolves.refl.frame (mem_of_sfind hf)
    exact (hev.putFrame id (by cases hit <;> exact hn.upd)).stores hs
  refine congrArg Host.Outcome.next (dpiRelease_alone hcan (sfind_sinsert_self ..) href ?_ ?_ ?_ ?_ (fun kv hkv hk => ?_) _)
  · cases hit <;> exact hst
  · cases hit <;> rfl
  · cases hit <;> rfl
  · cases hit <;> rfl
  · rcases mem_sinsert hkv with e | hm
    · rw [e]
    · simp only [inEngine, Bool.and_eq_true, Bool.or_eq_true, beq_iff_eq] at hk
      exact halone kv (hfr ▸ hm) hk.1.1 hk.1.2 hk.2

theorem released_recirc (h : (f.act.getD ⟨0, 0⟩).recirc = 2 ∨ ((f.act.getD ⟨0, 0⟩).recirc = 1 ∧ f.dpiHit = true)) :
    released (u.putFrame id f) id f = ((u.putFrame id f).count (C.dpiRecirc f.slice)).putFrame id { f with stage := .recirc } := if_pos h

theorem actCnt_not_dpiHits {sl : Nat} (h : sl < 8) : ¬ actCnt (C.dpiHits sl) := by
  rintro ((h1 | h1 | ⟨r, hr, h1⟩) | ⟨p, hp, h1 | h1⟩ | ⟨r, hr, h1⟩ | ⟨k, hk, h1⟩) <;>
    simp only [C.dpiHits, C.ladderYield, C.txFrames, C.pipDrops, C.fwdDrops, C.txDrops, C.dpiRecirc, C.page] at h1 <;> omega

/-- The release of a scanned frame counts no hit. -/
theorem released_counter (hs : StoresCanonical u) (hr : FramesInRange u) (hf : u.frame id = some f) :
    (released u id f).counter (C.dpiHits f.slice) = u.counter (C.dpiHits f.slice) := by
  have c : ActProof (Flows pathReg actCnt u) := Flows.actProof (fun _ h => h) fun _ h => h
  have h0 : Flows pathReg actCnt u u := .refl hs hr
  have hh : Held u id f := .of_frame hf .refl
  have hsl := c.slice_lt hh h0
  have hrel : Flows pathReg actCnt u (released u id f) := by
    unfold released
    refine keep_ite ?_ (c.applyAction _ (hh.upd ⟨rfl, rfl, rfl, rfl, rfl⟩) h0)
    exact c.putFrame (u := u.count _) (hh.upd ⟨rfl, rfl, rfl, rfl, rfl⟩) (hr.classes _ (mem_of_sfind hf))
      (c.acounts (.inr (.inr (.inr ⟨f.slice, hsl, rfl⟩))) h0)
  exact hrel.cnts _ (actCnt_not_dpiHits hsl)

theorem scanned_hits (hs : StoresCanonical s) (hr : FramesInRange s) (hf : s.frame id = some f) (x : Nat × Row) :
    CountedOnce (C.dpiHits f.slice) s (released ((s.count (C.dpiHits f.slice)).putFrame id (scanned f (some x))) id (scanned f (some x))) := by
  have hev : Evolves s ((s.count (C.dpiHits f.slice)).putFrame id (scanned f (some x))) := by
    have hn : Named s f := Evolves.refl.frame (mem_of_sfind hf)
    exact (Evolves.refl.count _).putFrame id hn.upd
  have hc : ((s.count (C.dpiHits f.slice)).putFrame id (scanned f (some x))).counter (C.dpiHits f.slice) =
      (s.count (C.dpiHits f.slice)).counter (C.dpiHits f.slice) := rfl
  have h := released_counter (hev.stores hs) (hev.range hr) (f := scanned f (some x)) (sfind_sinsert_self ..)
  exact (h.trans hc).trans (countedOnce_any s _)

/-- What is left when a frame goes to the recirculation port after counts of its slice. -/
theorem recirculated (ids : List Nat) {g g' : Frame} {c : Nat} (hu : Writes [] ids s u) (hc : c ∉ ids) :
    let t := ((u.putFrame id g).count c).putFrame id g'
    t.frame id = some g' ∧ CountedOnce c s t ∧ (∀ k, k ≠ id → t.frame k = s.frame k) ∧ Writes [] (ids ++ [c]) { s with frames := t.frames } t := by
  intro t
  have hcnt : ∀ k, t.counter k = (u.count c).counter k := fun _ => rfl
  have hfr : u.frames = s.frames := by rw [hu.rest]
  have ht : t = { u with frames := t.frames, cnt := t.cnt } := rfl
  refine ⟨sfind_sinsert_self .., ?_, fun k hk => ?_, ⟨?_, ?_, fun k hk => ?_⟩⟩
  · have := countedOnce_any u c
    rw [CountedOnce, hu.cnts c hc] at this
    exact (hcnt c).trans this
  · have h1 : t.frame k = (u.putFrame id g).frame k := sfind_sinsert_ne _ _ _ _ (Ne.symm hk)
    have h2 : (u.putFrame id g).frame k = u.frame k := sfind_sinsert_ne _ _ _ _ (Ne.symm hk)
    rw [h1, h2, State.frame, hfr]
    rfl
  · conv_lhs => rw [ht, hu.rest]
    rfl
  · exact hu.regs.of_regs rfl rfl
  · rw [List.mem_append, not_or] at hk
    exact (hcnt k).trans ((State.counter_count_ne _ _ _ fun e : c = k => hk.2 (e ▸ List.mem_singleton_self _)).trans (hu.cnts k hk.1))

/-- Settles O30: the engine by `dpiVerdict_releases`, the actions by `advance_leaves` and `applyAction_discard`. -/
theorem inspectionAndItsAction : Obligations.InspectionAndItsAction := by
  unfold Obligations.InspectionAndItsAction
  refine ⟨fun s id f p a hs hrange hf hp ha hst hsc hr0 halone => ⟨fun ho => ⟨fun y => ?_, fun hk x rest hc y hy => ?_⟩, fun x rest hc => ?_, fun hc bad => ⟨fun h2 => ?_, fun h2 => ?_⟩⟩,
    fun s id f a hv hr => ⟨fun r st h => ?_, fun h0 hd => ?_, fun h => applyAction_discard hr h⟩⟩
  · rw [ho]
    exact List.mem_filter
  · rw [ho] at hc
    exact patternMatches_lowest hk f p hc hy
  · have hx := dpiVerdict_releases hs hrange hf hp hst hsc hr0 halone [] (hc ▸ searchRows_clean s _ x rest)
    refine ⟨_, hx, ?_, fun hrc => ?_, fun h1 h2 => ?_⟩
    · exact scanned_hits hs hrange hf x
    · have hrel := released_recirc (u := s.count (C.dpiHits f.slice)) (id := id) (f := scanned f (some x)) (by
        rw [show (scanned f (some x)).act = some a from ha]
        exact hrc.elim (fun h => .inr ⟨h, rfl⟩) .inl)
      rw [show (if (some x).isSome = true then s.count (C.dpiHits f.slice) else s) = s.count (C.dpiHits f.slice) from rfl, hrel]
      exact recirculated [C.dpiHits f.slice] (countOne_writes s _) (by
        simp only [List.mem_singleton, C.dpiHits, C.dpiRecirc, show (scanned f (some x)).slice = f.slice from rfl]
        omega)
    · refine ((if_neg ?_).trans ?_)
      · rw [show (scanned f (some x)).act = some a from ha]
        exact fun h => h.elim h2 fun h => h1 h.1
      · rw [show (scanned f (some x)).act = some a from ha]
        rfl
  · have hx := dpiVerdict_releases hs hrange hf hp hst hsc hr0 halone bad (hit := none) (by rw [hc]; rfl)
    have hrel := released_recirc (u := s) (id := id) (f := scanned f none) (by
      rw [show (scanned f none).act = some a from ha]
      exact .inl h2)
    refine ⟨_, hx, ?_⟩
    rw [show (if (none : Option (Nat × Row)).isSome = true then s.count (C.dpiHits f.slice) else s) = s from rfl, hrel]
    exact recirculated [] Writes.refl List.not_mem_nil
  · have hx := dpiVerdict_releases hs hrange hf hp hst hsc hr0 halone bad (hit := none) (by rw [hc]; rfl)
    refine hx.trans (congrArg Host.Outcome.next ((if_neg ?_).trans ?_))
    · rw [show (scanned f none).act = some a from ha]
      exact fun h => h.elim h2 fun h => nomatch h.2
    · rw [show (scanned f none).act = some a from ha]
      rfl
  · rcases h with ⟨h1, rfl, rfl⟩ | ⟨h1, h2, rfl, rfl⟩ | ⟨h1, h2, h3, rfl, rfl⟩
    · rw [applyAction_host (.inl h1), ← acted_ring f a]
      exact advance_leaves s id { acted f a with route := some (.ring a.ring 0) } .routed
    · rw [applyAction_host (.inr ⟨h1, h2⟩), ← acted_ring f a]
      exact advance_leaves s id { acted f a with route := some (.ring a.ring 0) } .routed
    · rw [applyAction_redir h1 h2 h3, ← acted_ring f a]
      exact advance_leaves s id { acted f a with route := some (.port a.port) } .routed
  · rw [applyAction_lookup h0 hd, ← acted_ring f a]
    exact advance_leaves s id (acted f a) .lookup

end Sys2Proof
end

section
/-! PROOF. Hits, misses and promotion (R242, R244, R253). -/
namespace Sys2Proof

open Sys2Proof.Machine

set_option Elab.async false

variable {s t u v w : State} {id : Nat} {f g : Frame}

/-! ## Discards by a lookup -/

/-- A discard advances the frame's discard counter, and for a transmit frame perhaps the count of frames sent. -/
theorem discardTo_counter (id : Nat) (f : Frame) (c : Nat → Nat) {k : Nat} (hk : f.fromHost = true → k ≠ C.txFrames f.port) :
    (s.discardTo id f c).counter k = (s.countDrop f c).counter k := by
  unfold State.discardTo
  split
  · rfl
  · have hf : ((s.countDrop f c).putFrame id f).frame id = some f := sfind_sinsert_self ..
    have hc : ∀ x : State, x.cnt = ((s.countDrop f c).putFrame id f).cnt → x.counter k = (s.countDrop f c).counter k := fun x hx =>
      (counter_of_cnt hx k).trans rfl
    unfold State.dropFrame State.checkGone
    extract_lets z
    split
    · obtain ⟨-, h2⟩ := frameGone_leaves hf
      change ((State.putFrame z id f).frameGone id).cnt = _ at h2
      split at h2
      · next hh =>
        simp only [Bool.and_eq_true] at hh
        exact (counter_of_cnt h2 k).trans ((State.counter_count_ne _ _ _ (hk hh.1).symm).trans (hc _ rfl))
      · exact hc _ h2
    · rfl

theorem discardTo_counted (id : Nat) (f : Frame) (hr : f.fromHost = true → f.port < 32) :
    CountedOnce (if f.fromHost then C.txDrops f.port else C.fwdDrops f.port) s (s.discardTo id f C.fwdDrops) := by
  have h := discardTo_counter (s := s) id f C.fwdDrops (k := if f.fromHost then C.txDrops f.port else C.fwdDrops f.port) fun hh => by
    have := hr hh
    simp only [hh, if_true, C.txDrops, C.txFrames]
    omega
  exact h.trans (countedOnce_any s _)

theorem slice_below (hp : f.port < 1024) : f.slice < 8 := by
  unfold Frame.slice sliceOf
  split <;> omega

theorem misses_ne_drops (hp : f.port < 1024) (hr : f.fromHost = true → f.port < 32) :
    C.misses f.slice ≠ (if f.fromHost then C.txDrops f.port else C.fwdDrops f.port) ∧ (f.fromHost = true → C.misses f.slice ≠ C.txFrames f.port) := by
  have hsl := slice_below hp
  refine ⟨?_, fun hh => ?_⟩
  · split
    · next hh =>
      have := hr hh
      simp only [C.misses, C.txDrops]
      omega
    · simp only [C.misses, C.fwdDrops, C.page]
      omega
  · have := hr hh
    simp only [C.misses, C.txFrames]
    omega

/-! ## Misses (R242) -/

/-- What the disposition of a miss does, once it has been counted. -/
theorem miss_cases (s : State) (id : Nat) (f : Frame) :
    (s.lkpA f.sel f.profile F.FWD_LKP_A_MISS_DISP = 1 → s.miss id f = (s.count (C.misses f.slice)).routeTo id f
        (.mcast (s.lkpB f.sel f.profile F.FWD_LKP_B_MISS_MGID) (s.noHairpin f))) ∧
      (s.lkpA f.sel f.profile F.FWD_LKP_A_MISS_DISP = 2 → s.miss id f = (s.count (C.misses f.slice)).routeTo id f
        (.ring (s.lkpA f.sel f.profile F.FWD_LKP_A_MISS_RING) 2)) ∧
      (s.lkpA f.sel f.profile F.FWD_LKP_A_MISS_DISP ≠ 1 → s.lkpA f.sel f.profile F.FWD_LKP_A_MISS_DISP ≠ 2 →
        s.miss id f = (s.count (C.misses f.slice)).discardTo id f C.fwdDrops) := by
  have hd : (s.count (C.misses f.slice)).lkpA f.sel f.profile F.FWD_LKP_A_MISS_DISP = s.lkpA f.sel f.profile F.FWD_LKP_A_MISS_DISP := rfl
  unfold State.miss
  refine ⟨fun h => ?_, fun h => ?_, fun h1 h2 => ?_⟩
  · simp only [hd, h]
    rfl
  · simp only [hd, h]
    rfl
  · simp only [hd]

theorem miss_counts (hp : f.port < 1024) (hr : f.fromHost = true → f.port < 32) (id : Nat) : CountedOnce (C.misses f.slice) s (s.miss id f) := by
  obtain ⟨h1, h2, h3⟩ := miss_cases s id f
  obtain ⟨n1, n2⟩ := misses_ne_drops hp hr
  by_cases e1 : s.lkpA f.sel f.profile F.FWD_LKP_A_MISS_DISP = 1
  · rw [h1 e1]
    exact countedOnce_any s _
  by_cases e2 : s.lkpA f.sel f.profile F.FWD_LKP_A_MISS_DISP = 2
  · rw [h2 e2]
    exact countedOnce_any s _
  rw [h3 e1 e2]
  refine ((discardTo_counter id f C.fwdDrops n2).trans ?_).trans (countedOnce_any s _)
  exact State.counter_count_ne _ _ _ n1.symm

/-! ## Hits (R244) -/

/-- The record to which a hit applies its result. -/
def hitBy (f : Frame) (resA resB : Word) : Frame :=
  { f with cls := if resA.toNat.testBit 18 then resA.toNat / 2 ^ 19 % 16 else f.cls,
           vid := if resA.toNat.testBit 23 then some (resB.toNat % 4096) else none }

theorem applyHit_cases (s : State) (id : Nat) (f : Frame) (resA resB : Word) :
    let a := resA.toNat
    let arg := a / 4 % 65536
    let barred := s.isPort (arg % 1024) = false ∨ (s.noHairpin f = true ∧ f.fromHost = false ∧ arg % 1024 = f.port)
    (a % 4 = 0 → ¬ barred → s.applyHit id f resA resB = s.routeTo id (hitBy f resA resB) (.port (arg % 1024))) ∧
      (a % 4 = 1 → s.applyHit id f resA resB = s.routeTo id (hitBy f resA resB) (.mcast arg (s.noHairpin f))) ∧
      (a % 4 = 2 → s.applyHit id f resA resB = s.routeTo id (hitBy f resA resB) (.ring (arg % 32) 3)) ∧
      (a % 4 = 3 ∨ a % 4 = 0 ∧ barred → s.applyHit id f resA resB = s.discardTo id (hitBy f resA resB) C.fwdDrops) := by
  intro a arg barred
  have hn : s.noHairpin (hitBy f resA resB) = s.noHairpin f := rfl
  have hb : barred ↔ (!s.isPort (arg % 1024) || (s.noHairpin f && !f.fromHost && arg % 1024 == f.port)) = true := by
    simp only [barred, Bool.or_eq_true, Bool.and_eq_true, Bool.not_eq_true', beq_iff_eq, and_assoc]
  refine ⟨fun h h' => ?_, fun h => ?_, fun h => ?_, fun h => ?_⟩
  · unfold State.applyHit
    simp only [show resA.toNat % 4 = 0 from h]
    exact if_neg fun hc => h' (hb.mpr hc)
  · unfold State.applyHit
    simp only [show resA.toNat % 4 = 1 from h]
    rfl
  · unfold State.applyHit
    simp only [show resA.toNat % 4 = 2 from h]
    rfl
  · rcases h with h | ⟨h, h'⟩
    · unfold State.applyHit
      simp only [show resA.toNat % 4 = 3 from h]
      rfl
    · unfold State.applyHit
      simp only [show resA.toNat % 4 = 0 from h]
      exact if_pos (hb.mp h')

/-! ## Promotion (R253) -/

/-- The first entry of a list that meets a test. -/
theorem findIdx_spec {α : Type} (l : List α) (p : α → Bool) :
    (∃ i, l.findIdx? p = some i ∧ i < l.length ∧ (∃ x, l[i]? = some x ∧ p x = true) ∧ ∀ j, j < i → ∀ x, l[j]? = some x → p x = false) ∨
      (l.findIdx? p = none ∧ ∀ (j : Nat) x, l[j]? = some x → p x = false) := by
  cases h : l.findIdx? p with
  | some i =>
    obtain ⟨hi, hpi, hlt⟩ := List.findIdx?_eq_some_iff_getElem.mp h
    refine .inl ⟨i, rfl, hi, ⟨l[i], List.getElem?_eq_getElem hi, hpi⟩, fun j hj x hx => ?_⟩
    obtain ⟨hjl, rfl⟩ := List.getElem?_eq_some_iff.mp hx
    simpa using hlt j hj
  | none => exact .inr ⟨rfl, fun j x hx => List.findIdx?_eq_none_iff.mp h x (List.mem_of_getElem? hx)⟩

/-- The tests of a way that a promotion makes. -/
def sameWay (key : Nat) (o : Option Way) : Bool := match o with | some x => x.key == key | none => false
def coldWay (o : Option Way) : Bool := match o with | some x => x.recn == 0 | none => false

/-- The way that a promotion takes: that of the same key, else the lowest invalid one, else the lowest with REC = 0. -/
theorem t1Victim_spec (w : T1Set) (key : Nat) (hroom : t1Room w = true) :
    ∃ i, t1Victim w key = some i ∧ i < w.ways.length ∧
      (let same (j : Nat) : Prop := ∃ x : Way, w.ways[j]? = some (some x) ∧ x.key = key
       let free (j : Nat) : Prop := w.ways[j]? = some none
       let cold (j : Nat) : Prop := ∃ x : Way, w.ways[j]? = some (some x) ∧ x.recn = 0
       ((∃ j, same j) → same i ∧ ∀ j, j < i → ¬ same j) ∧
       ((∀ j, ¬ same j) → (∃ j, free j) → free i ∧ ∀ j, j < i → ¬ free j) ∧
       ((∀ j, ¬ same j) → (∀ j, ¬ free j) → cold i ∧ ∀ j, j < i → ¬ cold j)) := by
  have hv : t1Victim w key = (w.ways.findIdx? (sameWay key) <|> w.ways.findIdx? Option.isNone <|> w.ways.findIdx? coldWay) := rfl
  rw [hv]
  have hsame : ∀ {j : Nat}, (∃ x : Way, w.ways[j]? = some (some x) ∧ x.key = key) ↔ ∃ o, w.ways[j]? = some o ∧ sameWay key o = true :=
    fun {j} => ⟨fun ⟨x, h1, h2⟩ => ⟨some x, h1, by simpa [sameWay] using h2⟩, fun ⟨o, h1, h2⟩ => by
      cases o with
      | none => cases h2
      | some x => exact ⟨x, h1, by simpa [sameWay] using h2⟩⟩
  have hcold : ∀ {j : Nat}, (∃ x : Way, w.ways[j]? = some (some x) ∧ x.recn = 0) ↔ ∃ o, w.ways[j]? = some o ∧ coldWay o = true :=
    fun {j} => ⟨fun ⟨x, h1, h2⟩ => ⟨some x, h1, by simpa [coldWay] using h2⟩, fun ⟨o, h1, h2⟩ => by
      cases o with
      | none => cases h2
      | some x => exact ⟨x, h1, by simpa [coldWay] using h2⟩⟩
  rcases findIdx_spec w.ways (sameWay key) with ⟨i, h1, h2, h3, h4⟩ | ⟨h1, h4⟩
  · refine ⟨i, by rw [h1]; rfl, h2, fun _ => ⟨hsame.mpr h3, fun j hj hs => ?_⟩, fun hn => absurd (hsame.mpr h3) (hn i), fun hn => absurd (hsame.mpr h3) (hn i)⟩
    obtain ⟨o, ho, hp⟩ := hsame.mp hs
    simp [h4 j hj o ho] at hp
  have hno : ∀ j, ¬ ∃ x : Way, w.ways[j]? = some (some x) ∧ x.key = key := fun j hs => by
    obtain ⟨o, ho, hp⟩ := hsame.mp hs
    simp [h4 j o ho] at hp
  rw [h1]
  rcases findIdx_spec w.ways Option.isNone with ⟨i, g1, g2, ⟨x, g3, g5⟩, g4⟩ | ⟨g1, g4⟩
  · have hx : x = none := by simpa using g5
    rw [hx] at g3
    refine ⟨i, by rw [g1]; rfl, g2, fun ⟨j, hs⟩ => absurd hs (hno j), fun _ _ => ⟨g3, fun j hj hf => ?_⟩, fun _ hn => absurd g3 (hn i)⟩
    exact absurd (g4 j hj none hf) (by decide)
  have hnf : ∀ j : Nat, ¬ w.ways[j]? = some none := fun j hf => absurd (g4 j none hf) (by decide)
  rw [g1]
  rcases findIdx_spec w.ways coldWay with ⟨i, k1, k2, k3, k4⟩ | ⟨-, k4⟩
  · refine ⟨i, by rw [k1]; rfl, k2, fun ⟨j, hs⟩ => absurd hs (hno j), fun _ ⟨j, hf⟩ => absurd hf (hnf j), fun _ _ => ⟨hcold.mpr k3, fun j hj hs => ?_⟩⟩
    obtain ⟨o, ho, hp⟩ := hcold.mp hs
    simp [k4 j hj o ho] at hp
  · obtain ⟨o, ho, hp⟩ := List.any_eq_true.mp hroom
    obtain ⟨j, hj⟩ := List.getElem?_of_mem ho
    cases o with
    | none => exact absurd hj (hnf j)
    | some x => exact absurd hp (by simpa [coldWay] using k4 j (some x) hj)

/-! ## The obligation -/

theorem promote_cases {f : Frame} {key gen b : Nat} {e : FwdEntry} :
    let w := s.t1Set key
    let on : Prop := s.lkpA f.sel f.profile F.FWD_LKP_A_PROMOTE = 1 ∧ s.fld .FWD_CARAWAY_CFG F.FWD_CARAWAY_CFG_T1_EN = 1 ∧ w.gen = gen
    (¬ on → s.promote f key gen b e = s) ∧ (on → t1Room w = false → s.promote f key gen b e = s.count C.promoteSkipped) ∧
      ∀ i, on → t1Room w = true → t1Victim w key = some i →
        s.promote f key gen b e =
          (s.putT1 key { w with ways := w.ways.set i (some ⟨e.key, e.resA, e.resB, e.vis, b, 3⟩) }).count C.promotions := by
  intro w on
  refine ⟨fun h => if_neg h, fun h hr => (if_pos h).trans (if_pos (by simp [w, hr])), fun i h hr hi => ?_⟩
  refine (if_pos h).trans ((if_neg (by simp [w, hr])).trans ?_)
  simp only [w] at hi
  rw [hi]

/-- Settles O34: a miss by `miss_cases`, a hit by `applyHit_cases`, a promotion by `promote_cases` and `t1Victim_spec`. -/
theorem hitsMissesPromotion : Obligations.HitsMissesPromotion := by
  unfold Obligations.HitsMissesPromotion
  refine ⟨fun s id f hp hr => ?_, fun s f key gen b e hk => ?_⟩
  · obtain ⟨m1, m2, m3⟩ := miss_cases s id f
    refine ⟨miss_counts hp hr id, fun h => ?_, fun h => ?_, fun h1 h2 => ?_, fun resA resB => ?_⟩
    · rw [m1 h]
      exact ⟨sfind_sinsert_self .., rfl⟩
    · rw [m2 h]
      exact ⟨sfind_sinsert_self .., rfl⟩
    · rw [m3 h1 h2]
      have hd := discardTo_counted (s := s.count (C.misses f.slice)) id f hr
      rw [CountedOnce, State.counter_count_ne _ _ _ (misses_ne_drops hp hr).1] at hd
      exact hd
    · obtain ⟨c0, c1, c2, c3⟩ := applyHit_cases s id f resA resB
      refine ⟨fun h h' => ?_, fun h => ?_, fun h => ?_, fun h => ?_⟩
      · rw [c0 h h']
        exact ⟨sfind_sinsert_self .., rfl⟩
      · rw [c1 h]
        exact ⟨sfind_sinsert_self .., rfl⟩
      · rw [c2 h]
        exact ⟨sfind_sinsert_self .., rfl⟩
      · rw [c3 h]
        exact discardTo_counted id (hitBy f resA resB) hr
  · obtain ⟨p1, p2, p3⟩ := promote_cases (s := s) (f := f) (key := key) (gen := gen) (b := b) (e := e)
    refine ⟨p1, fun h hr => ?_, fun h hr => ?_⟩
    · rw [p2 h hr]
      exact ⟨countedOnce_any s _, countOne_writes s _⟩
    · obtain ⟨i, hi, hl, hspec⟩ := t1Victim_spec _ key hr
      rw [p3 i h hr hi]
      exact ⟨i, hl, countedOnce_any _ _, sgetD_sput_self _ _ _ _ hk, hspec⟩

end Sys2Proof
end

section
/-! PROOF. The rings of the host interface under the freeing of frames (R454, R463, R470). -/
namespace Sys2Proof

open Sys2Proof.Machine

set_option Elab.async false

variable {s t u v w : State} {x r n : Nat}

/-! ## Rings as frames leave -/

theorem sfind_map {α : Type} (g : α → α) (m : SMap α) (k : Nat) : sfind (m.map fun kv => (kv.1, g kv.2)) k = (sfind m k).map g := by
  induction m with
  | nil => rfl
  | cons e m ih =>
    obtain ⟨j, a⟩ := e
    simp only [List.map_cons, sfind, ih]
    split <;> rfl

/-- The completion of a transmit frame whose replicas are gone is ready. -/
def readied (id : Nat) (a : Machine.Ring) : Machine.Ring :=
  { a with items := a.items.map fun t => if t.frame == some id then { t with ready := true, frame := none } else t }

theorem txDone_ring (s : State) (id x : Nat) : (s.txDone id).ring x = readied id (s.ring x) := by
  have h : (s.txDone id).ring x = sgetD (s.rings.map fun kv => (kv.1, readied id kv.2)) x freshRing := rfl
  rw [h, sgetD, sfind_map, State.ring, sgetD]
  cases sfind s.rings x <;> rfl

/-- Every ring is as before but for what its items show. -/
structure Ringed (s u : State) : Prop where
  canon : StoresCanonical u
  range : FramesInRange u
  keys : skeysFrom none s.rings = true → skeysFrom none u.rings = true
  like : ∀ x, u.ring x = { s.ring x with items := (u.ring x).items }
  bare : ∀ x, (s.ring x).items = [] → (u.ring x).items = []

namespace Ringed

theorem refl (hs : StoresCanonical s) (hr : FramesInRange s) : Ringed s s := ⟨hs, hr, id, fun _ => rfl, fun _ => id⟩

theorem of_rings (h : Ringed s u) (hv : Evolves u v) (hr : v.rings = u.rings := by rfl) : Ringed s v where
  canon := hv.stores h.canon
  range := hv.range h.range
  keys hk := by
    rw [hr]
    exact h.keys hk
  like x := by
    rw [State.ring, hr]
    exact h.like x
  bare x hx := by
    rw [State.ring, hr]
    exact h.bare x hx

theorem txDone (h : Ringed s u) (id : Nat) : Ringed s (u.txDone id) where
  canon := (Evolves.refl.txDone id).stores h.canon
  range := (Evolves.refl.txDone id).range h.range
  keys hk := skeysFrom_map u.rings none _ (fun _ => rfl) (h.keys hk)
  like x := by
    rw [txDone_ring, readied, h.like x]
  bare x hx := by
    rw [txDone_ring, readied, h.bare x hx]
    rfl

theorem pathProof : PathProof (Ringed s) where
  canon h := h.canon
  range h := h.range
  due _ _ _ h := h.of_rings Evolves.refl.of_kept
  xoff _ _ _ h := h.of_rings (Evolves.refl.setFld ..)
  endEpoch {u} h := h.of_rings Evolves.refl.endEpoch (by
    obtain ⟨_, _, he⟩ := endEpoch_eq u
    rw [he]
    rfl)
  counts _ h := h.of_rings (Evolves.refl.count _)
  yielded hu hw hk := hw.of_rings (Evolves.refl.putRep _ fun _ => hu.range.queues _ (mem_of_sfind hk))
  txDone id h := h.txDone id
  erased _ h := h.of_rings (Evolves.refl.eraseFrame _)
  dropped hu hw hf := hw.of_rings (Evolves.refl.putFrame _ fun _ =>
    have ⟨hp, hr, hk⟩ := hu.range.frame (mem_of_sfind hf)
    ⟨hp, hr, hk⟩)
  freed _ h := h.of_rings (Evolves.refl.eraseRep _)

theorem fresh (h : Ringed s u) (hx : s.ring x = freshRing) : u.ring x = freshRing := by
  have h1 := h.like x
  rw [hx, h.bare x (by rw [hx]; rfl)] at h1
  exact h1

theorem dq (h : Ringed s u) (x : Nat) : (u.ring x).dq = (s.ring x).dq := (congrArg Machine.Ring.dq (h.like x)).trans rfl
theorem held (h : Ringed s u) (x : Nat) : (u.ring x).held = (s.ring x).held := (congrArg Machine.Ring.held (h.like x)).trans rfl

end Ringed

/-! ## Delivery queues emptied (R454, R470) -/

theorem rxPop_ring {it : RxItem} {rest : List RxItem} (hs : StoresCanonical s) (hr : FramesInRange s) (hk : skeysFrom none s.rings = true)
    (hd : (s.ring r).dq = it :: rest) :
    (s.rxPop r).ring r = { s.ring r with dq := rest, items := ((s.rxPop r).ring r).items } ∧ ∀ x, x ≠ r → ((s.rxPop r).ring x).dq = (s.ring x).dq ∧
      (s.ring x = freshRing → (s.rxPop r).ring x = freshRing) := by
  have hp : s.rxPop r = (s.putRing r { s.ring r with dq := rest }).checkGone it.frame := by
    unfold State.rxPop
    rw [hd]
  have hself : (s.putRing r { s.ring r with dq := rest }).ring r = { s.ring r with dq := rest } := sgetD_sput_self _ _ _ _ hk
  have hother : ∀ x, x ≠ r → (s.putRing r { s.ring r with dq := rest }).ring x = s.ring x := fun x hx => sgetD_sput_ne _ _ _ _ _ _ (Ne.symm hx)
  have hev : Evolves s (s.putRing r { s.ring r with dq := rest }) := Evolves.refl.of_kept
  rw [hp]
  generalize s.putRing r { s.ring r with dq := rest } = u at hself hother hev
  have hc : Ringed u (u.checkGone it.frame) := Ringed.pathProof.checkGone _ (.refl (hev.stores hs) (hev.range hr))
  refine ⟨?_, fun x hx => ⟨(hc.dq x).trans (by rw [hother x hx]), fun hf => hc.fresh ((hother x hx).trans hf)⟩⟩
  have h := hc.like r
  rw [hself] at h
  exact h

/-- Counters that the emptying of delivery queues may advance. -/
def ringCnt (id : Nat) : Prop := pathCnt id ∨ ∃ r < 32, id = C.rxDrops r

/-- Registers that the loss of a ring may write. -/
def ringReg : Reg → Prop
  | .HST_RING_CFG x => x < 64
  | .HST_RING_STATUS x => x < 64
  | r => pathReg r

theorem ringReg_of_pathReg {q : Reg} (h : pathReg q) : ringReg q := by
  cases q with
  | HST_RING_CFG x => exact h.elim
  | HST_RING_STATUS x => exact h.elim
  | _ => exact h

theorem ringReg_indexOk {q : Reg} (h : ringReg q) : q.indexOk = true := by
  cases q with
  | HST_RING_CFG x => exact decide_eq_true h
  | HST_RING_STATUS x => exact decide_eq_true h
  | _ => exact pathReg_indexOk h

theorem rxDrops_not_path {r : Nat} (h : r < 32) : ¬ pathCnt (C.rxDrops r) := by
  rintro (h1 | h1 | ⟨k, hk, h1⟩) <;> simp only [C.rxDrops, C.ladderYield, C.txFrames] at h1 <;> omega

/-- The emptying of a delivery queue, as far as it has gone. -/
structure Emptied (r : Nat) (s u : State) (n : Nat) : Prop where
  keys : skeysFrom none u.rings = true
  flows : Flows pathReg ringCnt s u
  dq : (u.ring r).dq = (s.ring r).dq.drop n
  others : ∀ x, x ≠ r → (u.ring x).dq = (s.ring x).dq ∧ (s.ring x = freshRing → u.ring x = freshRing)
  dropped : (u.counter (C.rxDrops r)).val = (s.counter (C.rxDrops r)).val + BitVec.ofNat 64 n
  kept : ∀ k, ¬ pathCnt k → k ≠ C.rxDrops r → u.counter k = s.counter k

theorem rxPop_flows {C' : Nat → Prop} (hc : ∀ id, pathCnt id → C' id) (h : Flows pathReg C' s u) (r : Nat) : Flows pathReg C' s (u.rxPop r) := by
  unfold State.rxPop
  split
  · exact (Flows.pathProof (fun _ h => h) hc).checkGone _ (h.of_stores Evolves.refl.of_kept rfl)
  · exact h

theorem emptied_step (hr : r < 32) (h : Emptied r s u n) (hn : n < (s.ring r).dq.length) : Emptied r s ((u.count (C.rxDrops r)).rxPop r) (n + 1) := by
  obtain ⟨it, hit⟩ : ∃ it, (u.ring r).dq = it :: (s.ring r).dq.drop (n + 1) := ⟨_, h.dq.trans (List.drop_eq_getElem_cons hn)⟩
  have hv : Flows pathReg ringCnt s (u.count (C.rxDrops r)) := h.flows.count (.inr ⟨r, hr, rfl⟩)
  have hpop : Flows pathReg pathCnt (u.count (C.rxDrops r)) ((u.count (C.rxDrops r)).rxPop r) :=
    rxPop_flows (fun _ h => h) (.refl hv.canon hv.range) r
  obtain ⟨h1, h2⟩ := rxPop_ring (s := u.count (C.rxDrops r)) hv.canon hv.range h.keys hit
  have hring : ∀ x, (u.count (C.rxDrops r)).ring x = u.ring x := fun _ => rfl
  refine ⟨?_, rxPop_flows (fun _ h => .inl h) hv r, ?_, fun x hx => ⟨?_, fun hf => ?_⟩, ?_, fun k hk hkr => ?_⟩
  · unfold State.rxPop
    split
    · refine (Ringed.pathProof.checkGone _ (.refl (s := State.putRing ..) ?_ ?_)).keys (skeysFrom_sput _ _ _ _ h.keys)
      · exact Evolves.stores (s := u.count (C.rxDrops r)) Evolves.refl.of_kept hv.canon
      · exact Evolves.range (s := u.count (C.rxDrops r)) Evolves.refl.of_kept hv.range
    · exact h.keys
  · rw [h1]
  · exact (h2 x hx).1.trans (h.others x hx).1
  · exact (h2 x hx).2 ((h.others x hx).2 hf)
  · rw [hpop.cnts _ (rxDrops_not_path hr), countedOnce_any u (C.rxDrops r)]
    simp only [h.dropped]
    rw [BitVec.add_assoc, BitVec.ofNat_add]
    rfl
  · exact (hpop.cnts _ hk).trans ((State.counter_count_ne _ _ _ hkr.symm).trans (h.kept k hk hkr))

theorem rxFlush_emptied (hr : r < 32) (hs : StoresCanonical s) (hrange : FramesInRange s) (hk : skeysFrom none s.rings = true) :
    Emptied r s (s.rxFlush r) (s.ring r).dq.length := by
  have hfold : ∀ (l : List RxItem) (u : State) (n : Nat), Emptied r s u n → n + l.length ≤ (s.ring r).dq.length →
      Emptied r s (l.foldl (fun (s : State) _ => (s.count (C.rxDrops r)).rxPop r) u) (n + l.length) := by
    intro l
    induction l with
    | nil => exact fun u n h _ => h
    | cons a l ih =>
      intro u n h hn
      rw [List.length_cons] at hn ⊢
      rw [List.foldl_cons, show n + (l.length + 1) = n + 1 + l.length by omega]
      exact ih _ _ (emptied_step hr h (by omega)) (by omega)
  have h0 : Emptied r s s 0 := ⟨hk, .refl hs hrange, rfl, fun _ _ => ⟨rfl, id⟩, by simp, fun _ _ _ => rfl⟩
  have h := hfold (s.ring r).dq s 0 h0 (by omega)
  rwa [Nat.zero_add] at h

end Sys2Proof
end

section
/-! PROOF. The links of PCIe and of the service port come up and go (R452, R454, R472). -/
namespace Sys2Proof

open Sys2Proof.Machine

set_option Elab.async false

variable {s t u v w : State} {q : Reg} {x y r n : Nat}

/-! ## The loss of one ring (R454) -/

/-- The queue of a receive ring emptied; a transmit ring as it was. -/
def drained (s : State) (x : Nat) : State := if x < 32 then s.rxFlush x else s

/-- A ring that is STOPPED, disabled and empty. -/
structure Lost (u : State) (x : Nat) : Prop where
  state : u.ringState x = 0
  en : u.fld (.HST_RING_CFG x) F.HST_RING_CFG_EN = 0
  ring : u.ring x = freshRing

/-- The rings below `n` are lost, and those from `n` on wait. -/
structure LostBelow (n : Nat) (s u : State) : Prop where
  keys : skeysFrom none u.rings = true
  flows : Flows ringReg ringCnt s u
  lost : ∀ x, x < n → Lost u x
  dq : ∀ x, n ≤ x → (u.ring x).dq = (s.ring x).dq
  dropped : ∀ r, r < 32 → r < n → (u.counter (C.rxDrops r)).val = (s.counter (C.rxDrops r)).val + BitVec.ofNat 64 (s.ring r).dq.length
  waiting : ∀ r, r < 32 → n ≤ r → u.counter (C.rxDrops r) = s.counter (C.rxDrops r)

theorem ringState_addr (x y : Nat) (h : x < 64) (h' : y < 64) : (Reg.HST_RING_CFG x).addr ≠ (Reg.HST_RING_STATUS y).addr := by
  simp only [Reg.addr, addrOf]
  omega

theorem ringLost_eq (s : State) (x : Nat) : s.ringLost x =
    if x < 32 then (((drained s x).setFld (.HST_RING_CFG x) F.HST_RING_CFG_EN 0).setRingState x 0).putRing x freshRing
    else { (((drained s x).setFld (.HST_RING_CFG x) F.HST_RING_CFG_EN 0).setRingState x 0).putRing x freshRing with
      frames := (drained s x).frames.filter fun kv =>
        !(kv.2.fromHost && kv.2.port + 32 == x && kv.2.stage != Stage.queued && kv.2.stage != Stage.dropped) } := rfl

theorem drained_leaves (hs : StoresCanonical s) (hr : FramesInRange s) (hk : skeysFrom none s.rings = true) (x : Nat) :
    skeysFrom none (drained s x).rings = true ∧ Flows pathReg ringCnt s (drained s x) ∧
      (∀ y, y ≠ x → ((drained s x).ring y).dq = (s.ring y).dq ∧ (s.ring y = freshRing → (drained s x).ring y = freshRing)) ∧
      (x < 32 → ((drained s x).counter (C.rxDrops x)).val = (s.counter (C.rxDrops x)).val + BitVec.ofNat 64 (s.ring x).dq.length) ∧
      ∀ r, r < 32 → r ≠ x → (drained s x).counter (C.rxDrops r) = s.counter (C.rxDrops r) := by
  unfold drained
  split
  · next hx =>
    have h := rxFlush_emptied hx hs hr hk
    exact ⟨h.keys, h.flows, h.others, fun _ => h.dropped, fun r hr32 hne => h.kept _ (rxDrops_not_path hr32) (by simp only [C.rxDrops]; omega)⟩
  · next hx => exact ⟨hk, .refl hs hr, fun _ _ => ⟨rfl, id⟩, fun h => absurd h hx, fun _ _ _ => rfl⟩

/-- The registers and the record of a ring that is lost, once its queue is empty. -/
def ringPut (d : State) (x : Nat) : State := ((d.setFld (.HST_RING_CFG x) F.HST_RING_CFG_EN 0).setRingState x 0).putRing x freshRing

theorem ringLost_put (s : State) (x : Nat) : ∃ fs, s.ringLost x = { ringPut (drained s x) x with frames := fs } := by
  rw [ringLost_eq]
  split
  · exact ⟨(drained s x).frames, rfl⟩
  · exact ⟨_, rfl⟩

theorem ringPut_rings (d : State) : (ringPut d x).rings = sput freshRing d.rings x freshRing := rfl

theorem ringPut_ring (d : State) (hk : skeysFrom none d.rings = true) :
    (ringPut d x).ring x = freshRing ∧ ∀ y, y ≠ x → (ringPut d x).ring y = d.ring y :=
  ⟨(congrArg (sgetD · x freshRing) (ringPut_rings d)).trans (sgetD_sput_self _ _ _ _ hk), fun y hy =>
    (congrArg (sgetD · y freshRing) (ringPut_rings d)).trans (sgetD_sput_ne _ _ _ _ _ _ (Ne.symm hy))⟩

theorem ringPut_regs (d : State) (hd : d.regsOk) (hx : x < 64) :
    (ringPut d x).ringState x = 0 ∧ (ringPut d x).fld (.HST_RING_CFG x) F.HST_RING_CFG_EN = 0 ∧
      ∀ y < 64, y ≠ x → (ringPut d x).ringState y = d.ringState y ∧
        (ringPut d x).fld (.HST_RING_CFG y) F.HST_RING_CFG_EN = d.fld (.HST_RING_CFG y) F.HST_RING_CFG_EN := by
  have hget : ∀ q f, (ringPut d x).fld q f = ((d.setFld (.HST_RING_CFG x) F.HST_RING_CFG_EN 0).setRingState x 0).fld q f := fun _ _ => rfl
  have h1 : (d.setFld (.HST_RING_CFG x) F.HST_RING_CFG_EN 0).regsOk := regsOk_setFld hd
  have ok : ∀ {z : Nat}, z < 64 → (Reg.HST_RING_CFG z).indexOk = true ∧ (Reg.HST_RING_STATUS z).indexOk = true := fun hz =>
    ⟨decide_eq_true hz, decide_eq_true hz⟩
  refine ⟨fld_setFld_lt h1 (by decide) (by decide), ?_, fun y hy hne => ⟨?_, ?_⟩⟩
  · exact (hget _ _).trans ((fld_setFld_off (r := .HST_RING_STATUS x) (q := .HST_RING_CFG x) (ok hx).2 (ok hx).1 nofun).trans (fld_setFld_lt hd (by decide) (by decide)))
  · have e1 : ((d.setFld (.HST_RING_CFG x) F.HST_RING_CFG_EN 0).setRingState x 0).ringState y = (d.setFld (.HST_RING_CFG x) F.HST_RING_CFG_EN 0).ringState y :=
      fld_setFld_off (r := .HST_RING_STATUS x) (q := .HST_RING_STATUS y) (ok hx).2 (ok hy).2 fun e => hne (Reg.HST_RING_STATUS.inj e).symm
    exact e1.trans (fld_setFld_off (r := .HST_RING_CFG x) (q := .HST_RING_STATUS y) (ok hx).1 (ok hy).2 nofun)
  · exact (hget _ _).trans ((fld_setFld_off (r := .HST_RING_STATUS x) (q := .HST_RING_CFG y) (ok hx).2 (ok hy).1 nofun).trans
      (fld_setFld_off (r := .HST_RING_CFG x) (q := .HST_RING_CFG y) (ok hx).1 (ok hy).1 fun e => hne (Reg.HST_RING_CFG.inj e).symm))

theorem ringLost_flows {C' : Nat → Prop} (h : Flows ringReg C' s u) (hc : ∀ id, ringCnt id → C' id) (hk : skeysFrom none u.rings = true) (hx : x < 64) :
    Flows ringReg C' s (u.ringLost x) := by
  obtain ⟨-, hf, -⟩ := drained_leaves h.canon h.range hk x
  have hd : Flows ringReg C' s (drained u x) := h.trans (hf.weaken (fun _ => ringReg_of_pathReg) hc)
  obtain ⟨fs, he⟩ := ringLost_put u x
  have hp : Flows ringReg C' s (ringPut (drained u x) x) :=
    (((hd.setFld (r := .HST_RING_CFG x) hx _ _ (Flows.curSel_setFld (r := .HST_RING_CFG x) (decide_eq_true hx) nofun _ _)).setFld
      (r := .HST_RING_STATUS x) hx _ _ (Flows.curSel_setFld (r := .HST_RING_STATUS x) (decide_eq_true hx) nofun _ _)).of_stores
      (v := ringPut (drained u x) x) Evolves.refl.of_kept rfl)
  have hl := (Evolves.refl (s := u)).ringLost x
  refine ⟨hl.stores h.canon, hl.range h.range, ?_, ?_, fun id hid => ?_, ?_, fun r => ?_⟩
  · rw [he, hp.rest]
  · rw [he]
    exact hp.regs.of_regs
  · rw [he]
    exact hp.cnts id hid
  · rw [he]
    exact hp.sel
  · rw [he]
    exact hp.settings r

theorem lostBelow_step (h : LostBelow n s u) (hn : n < 64) : LostBelow (n + 1) s (u.ringLost n) := by
  obtain ⟨d1, d2, d3, d4, d5⟩ := drained_leaves h.flows.canon h.flows.range h.keys n
  have hflows := ringLost_flows h.flows (fun _ h => h) h.keys hn
  obtain ⟨fs, he⟩ := ringLost_put u n
  obtain ⟨r1, r2⟩ := ringPut_ring (x := n) (drained u n) d1
  obtain ⟨g1, g2, g3⟩ := ringPut_regs (x := n) (drained u n) d2.canon.regs hn
  have hring : ∀ y, (u.ringLost n).ring y = (ringPut (drained u n) n).ring y := fun y => by rw [he]; rfl
  have hreg : ∀ q, (u.ringLost n).get q = (ringPut (drained u n) n).get q := fun q => by rw [he]; rfl
  have hcnt : ∀ k, (u.ringLost n).counter k = (drained u n).counter k := fun k => by rw [he]; rfl
  have hdreg : ∀ q : Reg, q.indexOk = true → ¬ pathReg q → (drained u n).get q = u.get q := fun q hq hn => d2.regs.get (fun _ => pathReg_indexOk) hq hn
  refine ⟨?_, hflows, fun x hx => ?_, fun x hx => ?_, fun r hr hrn => ?_, fun r hr hrn => ?_⟩
  · have hrings : (u.ringLost n).rings = (ringPut (drained u n) n).rings := by rw [he]
    rw [hrings, ringPut_rings]
    exact skeysFrom_sput _ _ _ _ d1
  · by_cases hxn : x = n
    · subst hxn
      exact ⟨(congrArg F.HST_RING_STATUS_STATE.get (hreg _)).trans g1, (congrArg F.HST_RING_CFG_EN.get (hreg _)).trans g2, (hring x).trans r1⟩
    · have hl := h.lost x (by omega)
      obtain ⟨k1, k2⟩ := g3 x (by omega) hxn
      refine ⟨?_, ?_, (hring x).trans ((r2 x hxn).trans ((d3 x hxn).2 hl.ring))⟩
      · exact (congrArg F.HST_RING_STATUS_STATE.get (hreg _)).trans (k1.trans ((congrArg F.HST_RING_STATUS_STATE.get
          (hdreg (.HST_RING_STATUS x) (decide_eq_true (show x < 64 by omega)) id)).trans hl.state))
      · exact (congrArg F.HST_RING_CFG_EN.get (hreg _)).trans (k2.trans ((congrArg F.HST_RING_CFG_EN.get
          (hdreg (.HST_RING_CFG x) (decide_eq_true (show x < 64 by omega)) id)).trans hl.en))
  · rw [hring, r2 x (by omega), (d3 x (by omega)).1]
    exact h.dq x (by omega)
  · rw [hcnt]
    by_cases hr' : r = n
    · subst hr'
      rw [d4 hr, h.waiting r hr (Nat.le_refl r), h.dq r (Nat.le_refl r)]
    · rw [d5 r hr hr']
      exact h.dropped r hr (by omega)
  · rw [hcnt, d5 r hr (by omega)]
    exact h.waiting r hr (by omega)

theorem ringsLost (hs : StoresCanonical s) (hr : FramesInRange s) (hk : skeysFrom none s.rings = true) :
    LostBelow 64 s ((List.range 64).foldl State.ringLost s) := by
  have h0 : LostBelow 0 s s := ⟨hk, .refl hs hr, fun _ h => absurd h (Nat.not_lt_zero _), fun _ _ => rfl, fun _ _ h => absurd h (Nat.not_lt_zero _),
    fun _ _ _ => rfl⟩
  have hfold : ∀ n, n ≤ 64 → LostBelow n s ((List.range n).foldl State.ringLost s) := by
    intro n
    induction n with
    | zero => exact fun _ => h0
    | succ n ih =>
      intro hn
      rw [List.range_succ, List.foldl_append]
      exact lostBelow_step (ih (by omega)) (by omega)
  exact hfold 64 (Nat.le_refl _)

/-! ## Sessions closed, and the window unbound -/

theorem winChan_lt (s : State) : s.winChan < 8 := Fld.get_lt ..

/-- A register whose address is none that a session's end writes. -/
def besideChannels (q : Reg) : Prop := q.addr % 0x400 ≠ 4 ∧ q.addr ≠ Reg.HST_WIN_STATUS.addr

theorem besideChannels.ne (h : besideChannels q) (c : Nat) : (Reg.HST_MBX_STATE c).addr ≠ q.addr := by
  have h1 := h.1
  simp only [Reg.addr, addrOf] at h1 ⊢
  omega

theorem unbindWindow_get {q : Reg} (h : besideChannels q) (s : State) : s.unbindWindow.get q = s.get q := by
  unfold State.unbindWindow
  split
  · exact (State.get_setFld_ne _ _ _ _ _ h.2.symm).trans ((State.get_setFld_ne _ _ _ _ _ h.2.symm).trans (State.get_setFld_ne _ _ _ _ _ (h.ne _)))
  · rfl

theorem closeSession_get {q : Reg} (h : besideChannels q) (s : State) (k : Nat) : (s.closeSession k).get q = s.get q := by
  cases hx : s.session k with
  | none => simp only [State.closeSession, hx]
  | some x =>
    have hf : (freeChannel s x).get q = s.get q := by
      unfold freeChannel
      split
      · refine (State.get_setFld_ne _ _ _ _ _ (h.ne _)).trans ((State.get_setFld_ne _ _ _ _ _ (h.ne _)).trans ?_)
        split
        · exact unbindWindow_get h s
        · rfl
      · rfl
    rw [closeSession_known hx, dropUpload_rest]
    exact hf

/-- The sessions of a list closed. -/
def closeThese (l : List Nat) (u : State) : State := l.foldl State.closeSession u

theorem closeThese_rest (l : List Nat) (u : State) :
    closeThese l u = { u with regs := (closeThese l u).regs, masked := (closeThese l u).masked, flash := (closeThese l u).flash,
                              sessions := (closeThese l u).sessions } := by
  refine foldl_keeps (P := fun v => v = { u with regs := v.regs, masked := v.masked, flash := v.flash, sessions := v.sessions }) _ _ rfl fun v k _ hv => ?_
  have h := closeSession_rest v k
  generalize v.closeSession k = w at h
  rw [h, hv]

theorem closeThese_get {q : Reg} (h : besideChannels q) (l : List Nat) (u : State) : (closeThese l u).get q = u.get q :=
  foldl_keeps (P := fun v => v.get q = u.get q) _ _ rfl fun v k _ hv => (closeSession_get h v k).trans hv

theorem sfind_serases {α : Type} {m : SMap α} (hm : skeysFrom none m = true) (l : List Nat) (k : Nat) :
    skeysFrom none (l.foldl serase m) = true ∧ sfind (l.foldl serase m) k = if k ∈ l then none else sfind m k := by
  induction l generalizing m with
  | nil => exact ⟨hm, rfl⟩
  | cons j l ih =>
    obtain ⟨h1, h2⟩ := ih (skeysFrom_serase m none j hm)
    refine ⟨h1, h2.trans ?_⟩
    by_cases hk : k ∈ l
    · rw [if_pos hk, if_pos (List.mem_cons_of_mem _ hk)]
    · rw [if_neg hk]
      by_cases hj : k = j
      · rw [hj, if_pos (List.mem_cons_self ..), sfind_serase_self _ _ _ hm]
      · rw [if_neg (by simp [hk, hj]), sfind_serase_ne _ _ _ (Ne.symm hj)]

/-! ## The interrupt controller cleared -/

/-- One source unbound and out of service. -/
def sourceCleared (s : State) (i : Nat) : State := (s.irqBind i none).setFld (.HST_IRQ_SRC i) F.HST_IRQ_SRC_IN_SERVICE 0

theorem sourceCleared_rest (s : State) (i : Nat) : sourceCleared s i = { s with regs := (sourceCleared s i).regs, masked := (sourceCleared s i).masked } := rfl

theorem sourceCleared_get {i : Nat} (h : (Reg.HST_IRQ_SRC i).addr ≠ q.addr) (s : State) : (sourceCleared s i).get q = s.get q :=
  (State.get_setFld_ne _ _ _ _ _ h).trans ((State.get_setFld_ne _ _ _ _ _ h).trans (State.get_setFld_ne _ _ _ _ _ h))

/-- The sources below `n` cleared. -/
def sourcesCleared (n : Nat) (s : State) : State := (List.range n).foldl sourceCleared s

theorem sourcesCleared_succ (n : Nat) (s : State) : sourcesCleared (n + 1) s = sourceCleared (sourcesCleared n s) n := by
  rw [sourcesCleared, List.range_succ, List.foldl_append]
  rfl

theorem sourcesCleared_rest (n : Nat) (s : State) :
    sourcesCleared n s = { s with regs := (sourcesCleared n s).regs, masked := (sourcesCleared n s).masked } :=
  foldl_keeps (P := fun v => v = { s with regs := v.regs, masked := v.masked }) _ _ rfl fun v i _ hv => by
    rw [sourceCleared_rest v i, hv]

theorem sourcesCleared_get (h : ∀ i < n, (Reg.HST_IRQ_SRC i).addr ≠ q.addr) (s : State) : (sourcesCleared n s).get q = s.get q :=
  foldl_keeps (P := fun v => v.get q = s.get q) _ _ rfl fun v i hi hv => (sourceCleared_get (h i (List.mem_range.mp hi)) v).trans hv

theorem sourcesCleared_regsOk (h : s.regsOk) (n : Nat) : (sourcesCleared n s).regsOk :=
  foldl_keeps (P := State.regsOk) _ _ h fun _ _ _ hv => regsOk_setFld (regsOk_setFld (regsOk_setFld hv))

theorem sourcesCleared_service (hs : s.regsOk) {i : Nat} (hi : i < n) (hn : n ≤ 128) : (sourcesCleared n s).src i F.HST_IRQ_SRC_IN_SERVICE = 0 := by
  induction n with
  | zero => cases hi
  | succ n ih =>
    rw [sourcesCleared_succ]
    have hok := sourcesCleared_regsOk hs n
    by_cases hin : i = n
    · subst hin
      exact fld_setFld_lt (regsOk_setFld (regsOk_setFld hok)) (by decide) (by decide)
    · have hne : (Reg.HST_IRQ_SRC n).addr ≠ (Reg.HST_IRQ_SRC i).addr := by
        simp only [Reg.addr, addrOf]
        omega
      exact (congrArg F.HST_IRQ_SRC_IN_SERVICE.get (sourceCleared_get hne _)).trans (ih (by omega) (by omega))

/-! ## What the re-evaluation of bindings leaves (R475, R476) -/

/-- A property that binding sources and notifying targets do not disturb. -/
structure BindProof (P : State → Prop) : Prop where
  bound : ∀ (u : State) i f v, i < 128 → f = F.HST_IRQ_SRC_BOUND ∨ f = F.HST_IRQ_SRC_BOUND_TGT → P u → P (u.setFld (.HST_IRQ_SRC i) f v)
  irq : ∀ (u : State) ptr noted pba, P u → P { u with irq := { u.irq with ptr := ptr, notified := noted, pba := pba } }
  msix : ∀ (u : State) t, P u → P (u.msixSend t)

namespace BindProof

variable {P : State → Prop} (c : BindProof P)
include c

theorem irqBind (h : P u) {i : Nat} (hi : i < 128) (t : Option Nat) : P (u.irqBind i t) := by
  cases t with
  | none => exact c.bound _ _ _ _ hi (.inr rfl) (c.bound _ _ _ _ hi (.inl rfl) h)
  | some t => exact c.bound _ _ _ _ hi (.inr rfl) (c.bound _ _ _ _ hi (.inl rfl) h)

theorem notify (h : P u) (t : Nat) : P (u.notify t) := by
  unfold State.notify
  extract_lets x v y
  have hv : P v := c.irq u u.irq.ptr _ u.irq.pba h
  clear_value v
  exact keep_ite h (keep_ite (c.irq v v.irq.ptr v.irq.notified _ hv) (c.msix _ _ hv))

theorem irqBindOne (h : P u) {i : Nat} (hi : i < 128) : P (u.irqBindOne i) := by
  unfold State.irqBindOne
  split
  · exact h
  · split
    · exact h
    · next t ptr _ => exact c.notify (c.irqBind (c.irq u ptr u.irq.notified u.irq.pba h) hi _) _

theorem irqSettle (h : P u) : P u.irqSettle := by
  unfold State.irqSettle
  extract_lets live v ordered
  have hv : P v := by
    refine foldl_keeps _ _ h fun w i hi hw => ?_
    split
    · exact keep_ite hw (c.irqBind hw (List.mem_range.mp hi) _)
    · exact hw
  refine foldl_keeps _ _ hv fun w i hi hw => ?_
  obtain ⟨_, -, hi⟩ := List.mem_flatMap.mp hi
  exact c.irqBindOne hw (irqLive_lt u (List.mem_filter.mp hi).1)

end BindProof

/-- What a re-evaluation leaves of the controller: priority stacks, vector masks and table, and the sources but for their bindings. -/
structure Rebound (s u : State) : Prop where
  ok : s.regsOk → u.regsOk
  prios : u.irq.prios = s.irq.prios
  vmask : u.irq.vmask = s.irq.vmask
  table : u.irq.table = s.irq.table
  src : s.regsOk → ∀ i f, F.HST_IRQ_SRC_BOUND.apart f = true → F.HST_IRQ_SRC_BOUND_TGT.apart f = true → f.lo + f.w ≤ 32 → i < 128 → u.src i f = s.src i f

theorem rebound_bindProof (s : State) : BindProof (Rebound s) where
  bound u i f v hi hf h := by
    refine ⟨fun hs => regsOk_setFld (h.ok hs), h.prios, h.vmask, h.table, fun hs j g h1 h2 hg hj => ?_⟩
    by_cases hij : i = j
    · subst hij
      refine Eq.trans (fld_setFld_beside (h.ok hs) ?_ hg) (h.src hs i g h1 h2 hg hj)
      rcases hf with rfl | rfl
      · exact h1
      · exact h2
    · exact (State.fld_setFld_ne _ _ _ _ _ _ (by simp only [Reg.addr, addrOf]; omega)).trans (h.src hs j g h1 h2 hg hj)
  irq u ptr noted pba h := ⟨h.ok, h.prios, h.vmask, h.table, h.src⟩
  msix u t h := ⟨h.ok, h.prios, h.vmask, h.table, h.src⟩

theorem irqSettle_rebound (s : State) : Rebound s s.irqSettle :=
  (rebound_bindProof s).irqSettle ⟨id, rfl, rfl, rfl, fun _ _ _ _ _ _ _ => rfl⟩

/-! ## The loss of PCIe (R454) -/

/-- The rings lost, the channels' sessions closed and the window unbound. -/
def channelsClosed (s : State) : State :=
  (closeThese ((((List.range 64).foldl State.ringLost s).checkEpoch.sessions.filter fun kv => kv.2.chan.isSome).map Prod.fst)
    ((List.range 64).foldl State.ringLost s).checkEpoch).unbindWindow

/-- The controller in its first state. -/
def irqCleared (s : State) : State :=
  { s with irq := { s.irq with prios := [], notified := 0, pba := 0, vmask := 255, table := [] } }

theorem irqCleared_get (s : State) (q : Reg) : (irqCleared s).get q = s.get q := rfl

/-- What HST_PCIE_STATUS shows of the link once it is lost. -/
def linkShown (cause : PcieLoss) (s : State) : State :=
  let s := (s.setFld .HST_PCIE_STATUS F.HST_PCIE_STATUS_MSIX_EN 0).setFld .HST_PCIE_STATUS F.HST_PCIE_STATUS_FUNC_MASK 0
  let s := if cause = .functionReset then s else ((s.setFld .HST_PCIE_STATUS F.HST_PCIE_STATUS_LINK_UP 0).setFld .HST_PCIE_STATUS
    F.HST_PCIE_STATUS_SPEED 0).setFld .HST_PCIE_STATUS F.HST_PCIE_STATUS_WIDTH 0
  s.setFld .HST_PCIE_STATUS F.HST_PCIE_STATUS_LINK_LOST 1

theorem exec_pcieLinkLoss (s : State) (cause : PcieLoss) :
    exec (.pcieLinkLoss cause) s = .next (linkShown cause (irqCleared (sourcesCleared 128 (channelsClosed s)))).irqSettle := by
  cases cause <;> rfl

theorem linkShown_rest (cause : PcieLoss) (s : State) :
    linkShown cause s = { s with regs := (linkShown cause s).regs, masked := (linkShown cause s).masked } := by
  unfold linkShown
  cases cause <;> rfl

theorem linkShown_get (h : q.addr ≠ Reg.HST_PCIE_STATUS.addr) (cause : PcieLoss) (s : State) : (linkShown cause s).get q = s.get q := by
  have hset : ∀ (u : State) f v, (u.setFld .HST_PCIE_STATUS f v).get q = u.get q := fun u f v => State.get_setFld_ne _ _ _ _ _ h.symm
  unfold linkShown
  cases cause <;> simp only [hset, if_true, if_false, reduceCtorEq, reduceIte]

/-- A field of the link's status put beside another. -/
theorem pcie_beside (hu : u.regsOk) {f g : Fld} (ha : f.apart g = true) (hg : g.lo + g.w ≤ 32) (x : Nat) :
    (u.setFld .HST_PCIE_STATUS f x).fld .HST_PCIE_STATUS g = u.fld .HST_PCIE_STATUS g := fld_setFld_beside hu ha hg

theorem linkShown_fld (hs : s.regsOk) (cause : PcieLoss) :
    (linkShown cause s).fld .HST_PCIE_STATUS F.HST_PCIE_STATUS_MSIX_EN = 0 ∧
      (linkShown cause s).fld .HST_PCIE_STATUS F.HST_PCIE_STATUS_FUNC_MASK = 0 ∧
      (linkShown cause s).fld .HST_PCIE_STATUS F.HST_PCIE_STATUS_LINK_LOST = 1 ∧
      (if cause = .functionReset then
        Holds ((linkShown cause s).get .HST_PCIE_STATUS) [F.HST_PCIE_STATUS_LINK_UP, F.HST_PCIE_STATUS_SPEED, F.HST_PCIE_STATUS_WIDTH]
          (s.get .HST_PCIE_STATUS)
      else Holds ((linkShown cause s).get .HST_PCIE_STATUS) [F.HST_PCIE_STATUS_LINK_UP, F.HST_PCIE_STATUS_SPEED, F.HST_PCIE_STATUS_WIDTH] 0#32) := by
  unfold linkShown
  extract_lets a b
  have ha : a.regsOk := regsOk_setFld (regsOk_setFld hs)
  have a1 : a.fld .HST_PCIE_STATUS F.HST_PCIE_STATUS_MSIX_EN = 0 :=
    (pcie_beside (regsOk_setFld hs) (by decide) (by decide) _).trans (fld_setFld_lt hs (by decide) (by decide))
  have a2 : a.fld .HST_PCIE_STATUS F.HST_PCIE_STATUS_FUNC_MASK = 0 := fld_setFld_lt (regsOk_setFld hs) (by decide) (by decide)
  have a3 : ∀ f ∈ [F.HST_PCIE_STATUS_LINK_UP, F.HST_PCIE_STATUS_SPEED, F.HST_PCIE_STATUS_WIDTH],
      a.fld .HST_PCIE_STATUS f = s.fld .HST_PCIE_STATUS f := fun f hf => by
    simp only [List.mem_cons, List.not_mem_nil, or_false] at hf
    rcases hf with rfl | rfl | rfl <;>
      exact (pcie_beside (regsOk_setFld hs) (by decide) (by decide) _).trans (pcie_beside hs (by decide) (by decide) _)
  clear_value a
  have hlost : ∀ u : State, u.regsOk → ∀ f ∈ [F.HST_PCIE_STATUS_LINK_UP, F.HST_PCIE_STATUS_SPEED, F.HST_PCIE_STATUS_WIDTH, F.HST_PCIE_STATUS_MSIX_EN,
      F.HST_PCIE_STATUS_FUNC_MASK], (u.setFld .HST_PCIE_STATUS F.HST_PCIE_STATUS_LINK_LOST 1).fld .HST_PCIE_STATUS f = u.fld .HST_PCIE_STATUS f := by
    intro u hu f hf
    simp only [List.mem_cons, List.not_mem_nil, or_false] at hf
    rcases hf with rfl | rfl | rfl | rfl | rfl <;> exact pcie_beside hu (by decide) (by decide) _
  by_cases hc : cause = .functionReset
  · have hb : b = a := if_pos hc
    rw [hb, if_pos hc]
    refine ⟨(hlost a ha _ (by simp)).trans a1, (hlost a ha _ (by simp)).trans a2, fld_setFld_lt ha (by decide) (by decide), fun f hf => ?_⟩
    exact (hlost a ha f (by simp only [List.mem_cons, List.not_mem_nil, or_false] at hf ⊢; tauto)).trans (a3 f hf)
  · have hb : b = ((a.setFld .HST_PCIE_STATUS F.HST_PCIE_STATUS_LINK_UP 0).setFld .HST_PCIE_STATUS F.HST_PCIE_STATUS_SPEED 0).setFld .HST_PCIE_STATUS
      F.HST_PCIE_STATUS_WIDTH 0 := if_neg hc
    have h1 : (a.setFld .HST_PCIE_STATUS F.HST_PCIE_STATUS_LINK_UP 0).regsOk := regsOk_setFld ha
    have h2 := regsOk_setFld (r := .HST_PCIE_STATUS) (f := F.HST_PCIE_STATUS_SPEED) (v := 0) h1
    have hbr : b.regsOk := by rw [hb]; exact regsOk_setFld h2
    have b1 : ∀ f ∈ [F.HST_PCIE_STATUS_MSIX_EN, F.HST_PCIE_STATUS_FUNC_MASK], b.fld .HST_PCIE_STATUS f = a.fld .HST_PCIE_STATUS f := fun f hf => by
      rw [hb]
      simp only [List.mem_cons, List.not_mem_nil, or_false] at hf
      rcases hf with rfl | rfl <;>
        exact (pcie_beside h2 (by decide) (by decide) _).trans ((pcie_beside h1 (by decide) (by decide) _).trans (pcie_beside ha (by decide) (by decide) _))
    have b2 : b.fld .HST_PCIE_STATUS F.HST_PCIE_STATUS_LINK_UP = 0 := by
      rw [hb]
      exact (pcie_beside h2 (by decide) (by decide) _).trans ((pcie_beside h1 (by decide) (by decide) _).trans (fld_setFld_lt ha (by decide) (by decide)))
    have b3 : b.fld .HST_PCIE_STATUS F.HST_PCIE_STATUS_SPEED = 0 := by
      rw [hb]
      exact (pcie_beside h2 (by decide) (by decide) _).trans (fld_setFld_lt h1 (by decide) (by decide))
    have b4 : b.fld .HST_PCIE_STATUS F.HST_PCIE_STATUS_WIDTH = 0 := by
      rw [hb]
      exact fld_setFld_lt h2 (by decide) (by decide)
    rw [if_neg hc]
    refine ⟨(hlost b hbr _ (by simp)).trans ((b1 _ (by simp)).trans a1), (hlost b hbr _ (by simp)).trans ((b1 _ (by simp)).trans a2),
      fld_setFld_lt hbr (by decide) (by decide), fun f hf => ?_⟩
    simp only [List.mem_cons, List.not_mem_nil, or_false] at hf
    rcases hf with rfl | rfl | rfl
    · exact (hlost b hbr _ (by simp)).trans (b2.trans (by decide))
    · exact (hlost b hbr _ (by simp)).trans (b3.trans (by decide))
    · exact (hlost b hbr _ (by simp)).trans (b4.trans (by decide))

theorem unbindWindow_unbound (h : s.regsOk) : s.unbindWindow.winBound = false := by
  by_cases hw : s.winBound = true
  · exact (unbindWindow_bound h hw (winChan_lt s)).1
  · unfold State.unbindWindow
    rw [if_neg hw]
    exact Bool.eq_false_iff.mpr hw

theorem unbindWindow_rest (s : State) : s.unbindWindow = { s with regs := s.unbindWindow.regs, masked := s.unbindWindow.masked } :=
  unbindWindow_regsOnly .refl

/-- What stands once the rings are lost and the channels closed. -/
structure Closed (s u : State) : Prop where
  ok : u.regsOk
  lost : ∀ x, x < 64 → Lost u x
  dropped : ∀ r, r < 32 → (u.counter (C.rxDrops r)).val = (s.counter (C.rxDrops r)).val + BitVec.ofNat 64 (s.ring r).dq.length
  chans : ∀ kv ∈ u.sessions, kv.2.chan = none
  kept : ∀ k x, s.session k = some x → x.chan = none → u.session k = some x
  window : u.winBound = false
  pcie : u.get .HST_PCIE_STATUS = s.get .HST_PCIE_STATUS

theorem besideChannels_ring (hx : x < 64) : besideChannels (.HST_RING_CFG x) ∧ besideChannels (.HST_RING_STATUS x) := by
  refine ⟨⟨?_, ?_⟩, ?_, ?_⟩ <;> simp only [Reg.addr, addrOf] <;> omega

theorem channelsClosed_closed (hs : StoresCanonical s) (hr : FramesInRange s) (hk : skeysFrom none s.rings = true) : Closed s (channelsClosed s) := by
  have h := ringsLost hs hr hk
  unfold channelsClosed
  generalize (List.range 64).foldl State.ringLost s = a at h
  have ha := h.flows.canon
  have hce : Flows pathReg ringCnt a a.checkEpoch := (Flows.pathProof (fun _ h => h) fun _ h => .inl h).checkEpoch (.refl ha h.flows.range)
  have hcr : Ringed a a.checkEpoch := Ringed.pathProof.checkEpoch (.refl ha h.flows.range)
  have hcc := checkEpoch_cnt a
  have hsess : a.checkEpoch.sessions = s.sessions := by rw [hce.rest, h.flows.rest]
  have hpcie : a.checkEpoch.get .HST_PCIE_STATUS = s.get .HST_PCIE_STATUS :=
    (hce.regs.get (fun _ => pathReg_indexOk) rfl id).trans (h.flows.regs.get (fun _ => ringReg_indexOk) rfl id)
  have hlost : ∀ x, x < 64 → Lost a.checkEpoch x := fun x hx => by
    obtain ⟨l1, l2, l3⟩ := h.lost x hx
    refine ⟨(congrArg F.HST_RING_STATUS_STATE.get (hce.regs.get (fun _ => pathReg_indexOk) (q := .HST_RING_STATUS x) (decide_eq_true hx) id)).trans l1,
      (congrArg F.HST_RING_CFG_EN.get (hce.regs.get (fun _ => pathReg_indexOk) (q := .HST_RING_CFG x) (decide_eq_true hx) id)).trans l2, hcr.fresh l3⟩
  have hdrop : ∀ r, r < 32 → (a.checkEpoch.counter (C.rxDrops r)).val = (s.counter (C.rxDrops r)).val + BitVec.ofNat 64 (s.ring r).dq.length :=
    fun r hr32 => by
      rw [counter_of_cnt hcc]
      exact h.dropped r hr32 (by omega)
  have hbs := hce.canon
  generalize a.checkEpoch = b at hsess hpcie hlost hdrop hbs
  generalize hl : (b.sessions.filter fun kv => kv.2.chan.isSome).map Prod.fst = l
  have hrest := closeThese_rest l b
  have hget : ∀ q, besideChannels q → (closeThese l b).unbindWindow.get q = b.get q := fun q hq =>
    (unbindWindow_get hq _).trans (closeThese_get hq l b)
  have hcs : (closeThese l b).sessions = l.foldl serase b.sessions := (closeSessions_rest l b).2
  have hcok : (closeThese l b).regsOk := (Evolves.stores (s := b) (Evolves.refl.foldl fun _ _ hv => hv.closeSession _) hbs).regs
  have hwok := regsOk_unbindWindow hcok
  have hwb := unbindWindow_unbound hcok
  have hur := unbindWindow_rest (closeThese l b)
  obtain ⟨hsk, -⟩ := sfind_serases hbs.sessions l 0
  have hfind := fun k => (sfind_serases hbs.sessions l k).2
  generalize (closeThese l b) = c at hrest hget hcs hcok hwok hwb hur
  generalize c.unbindWindow = d at hget hwok hwb hur
  have hds : d.sessions = l.foldl serase b.sessions := by rw [hur]; exact hcs
  have hmem : ∀ k x, sfind b.sessions k = some x → (k ∈ l ↔ x.chan.isSome = true) := by
    intro k x hx
    rw [← hl]
    constructor
    · intro hm
      obtain ⟨kv, hkv, rfl⟩ := List.mem_map.mp hm
      obtain ⟨hkm, hkc⟩ := List.mem_filter.mp hkv
      rw [sfind_of_mem hbs.sessions hkm] at hx
      cases hx
      exact hkc
    · exact fun hc => List.mem_map.mpr ⟨(k, x), List.mem_filter.mpr ⟨mem_of_sfind hx, hc⟩, rfl⟩
  refine ⟨hwok, fun x hx => ?_, fun r hr32 => ?_, fun kv hkv => ?_, fun k x hx hxc => ?_, hwb, ?_⟩
  · obtain ⟨l1, l2, l3⟩ := hlost x hx
    obtain ⟨n1, n2⟩ := besideChannels_ring hx
    refine ⟨(congrArg F.HST_RING_STATUS_STATE.get (hget _ n2)).trans l1, (congrArg F.HST_RING_CFG_EN.get (hget _ n1)).trans l2, ?_⟩
    rw [State.ring, hur, hrest]
    exact l3
  · rw [counter_of_cnt (show d.cnt = b.cnt by rw [hur, hrest])]
    exact hdrop r hr32
  · rw [hds] at hkv
    have hf := sfind_of_mem hsk hkv
    rw [hfind] at hf
    split at hf
    · cases hf
    · next hn =>
      rw [hmem _ _ hf] at hn
      simpa using hn
  · rw [State.session, hds, hfind]
    have hb : sfind b.sessions k = some x := by rw [hsess]; exact hx
    rw [if_neg fun hm => by rw [hmem k x hb, hxc] at hm; cases hm]
    exact hb
  · exact (hget _ ⟨by decide, by decide⟩).trans hpcie

/-- What the controller's clearing and the link's status leave, and what they show. -/
theorem linkLoss_leaves (hs : s.regsOk) (cause : PcieLoss) :
    let t := (linkShown cause (irqCleared (sourcesCleared 128 s))).irqSettle
    (∀ q : Reg, (∀ i < 128, (Reg.HST_IRQ_SRC i).addr ≠ q.addr) → q.addr ≠ Reg.HST_PCIE_STATUS.addr → t.get q = s.get q) ∧
      t.rings = s.rings ∧ t.cnt = s.cnt ∧ t.sessions = s.sessions ∧ t.irq.prios = [] ∧ t.irq.vmask = 255 ∧ t.irq.table = [] ∧
      (∀ i, i < 128 → t.src i F.HST_IRQ_SRC_IN_SERVICE = 0) ∧
      t.get .HST_PCIE_STATUS = (linkShown cause (irqCleared (sourcesCleared 128 s))).get .HST_PCIE_STATUS := by
  have hrest := sourcesCleared_rest 128 s
  have hget := fun q hq => sourcesCleared_get (n := 128) (q := q) hq s
  have hserv := fun i (hi : i < 128) => sourcesCleared_service hs hi (Nat.le_refl 128)
  have hok := sourcesCleared_regsOk hs 128
  generalize sourcesCleared 128 s = e at hrest hget hserv hok
  have frest := linkShown_rest cause (irqCleared e)
  have fget := fun q hq => linkShown_get (q := q) hq cause (irqCleared e)
  have hsrc : ∀ i < 128, (linkShown cause (irqCleared e)).src i F.HST_IRQ_SRC_IN_SERVICE = 0 := fun i hi =>
    (congrArg F.HST_IRQ_SRC_IN_SERVICE.get (fget (.HST_IRQ_SRC i) (by simp only [Reg.addr, addrOf]; omega))).trans (hserv i hi)
  have fok : (linkShown cause (irqCleared e)).regsOk := by
    unfold linkShown
    extract_lets a b
    have ha : a.regsOk := regsOk_setFld (regsOk_setFld hok)
    exact regsOk_setFld (keep_ite ha (regsOk_setFld (regsOk_setFld (regsOk_setFld ha))))
  generalize linkShown cause (irqCleared e) = f at frest fget hsrc fok
  have hi := irqSettle_changes f
  have hb := irqSettle_rebound f
  intro t
  change IrqChanges f t at hi
  change Rebound f t at hb
  clear_value t
  refine ⟨fun q hq hp => ((hi.regs q hq).1.trans (fget q hp)).trans (hget q hq), ?_, ?_, ?_, hb.prios.trans (by rw [frest]; rfl),
    hb.vmask.trans (by rw [frest]; rfl), hb.table.trans (by rw [frest]; rfl), fun i hi' => ?_, (hi.regs _ fun i _ => by simp only [Reg.addr, addrOf]; omega).1⟩
  · rw [hi.rest, frest, irqCleared, hrest]
  · rw [hi.rest, frest, irqCleared, hrest]
  · rw [hi.rest, frest, irqCleared, hrest]
  · exact (hb.src fok i _ (by decide) (by decide) (by decide) hi').trans (hsrc i hi')

theorem pcieLost (hs : StoresCanonical s) (hr : FramesInRange s) (hk : skeysFrom none s.rings = true) (cause : PcieLoss) :
    ∃ t, exec (.pcieLinkLoss cause) s = .next t ∧
      (∀ x, x < 64 → t.ringState x = 0 ∧ t.fld (.HST_RING_CFG x) F.HST_RING_CFG_EN = 0 ∧ t.ring x = freshRing) ∧
      (∀ r, r < 32 → CountedTimes (C.rxDrops r) (s.ring r).dq.length s t) ∧ (∀ kv ∈ t.sessions, kv.2.chan = none) ∧
      (∀ k x, s.session k = some x → x.chan = none → t.session k = some x) ∧
      t.winBound = false ∧ t.irq.prios = [] ∧ (∀ i, i < 128 → t.src i F.HST_IRQ_SRC_IN_SERVICE = 0) ∧
      t.irq.vmask = 255 ∧ t.irq.table = [] ∧ t.fld .HST_PCIE_STATUS F.HST_PCIE_STATUS_MSIX_EN = 0 ∧
      t.fld .HST_PCIE_STATUS F.HST_PCIE_STATUS_FUNC_MASK = 0 ∧ t.fld .HST_PCIE_STATUS F.HST_PCIE_STATUS_LINK_LOST = 1 ∧
      (if cause = .functionReset then
        Holds (t.get .HST_PCIE_STATUS) [F.HST_PCIE_STATUS_LINK_UP, F.HST_PCIE_STATUS_SPEED, F.HST_PCIE_STATUS_WIDTH] (s.get .HST_PCIE_STATUS)
      else Holds (t.get .HST_PCIE_STATUS) [F.HST_PCIE_STATUS_LINK_UP, F.HST_PCIE_STATUS_SPEED, F.HST_PCIE_STATUS_WIDTH] 0#32) := by
  have hc := channelsClosed_closed hs hr hk
  have hx := exec_pcieLinkLoss s cause
  generalize channelsClosed s = d at hc hx
  obtain ⟨g1, g2, g3, g4, g5, g6, g7, g8, g9⟩ := linkLoss_leaves hc.ok cause
  have he : (irqCleared (sourcesCleared 128 d)).regsOk := sourcesCleared_regsOk hc.ok 128
  obtain ⟨p1, p2, p3, p4⟩ := linkShown_fld he cause
  have hsame : (irqCleared (sourcesCleared 128 d)).get .HST_PCIE_STATUS = s.get .HST_PCIE_STATUS :=
    (irqCleared_get _ _).trans ((sourcesCleared_get (fun i _ => by simp only [Reg.addr, addrOf]; omega) d).trans hc.pcie)
  rw [hsame] at p4
  refine ⟨_, hx, ?_⟩
  generalize (linkShown cause (irqCleared (sourcesCleared 128 d))).irqSettle = t at g1 g2 g3 g4 g5 g6 g7 g8 g9
  refine ⟨fun x hx64 => ?_, fun r hr32 => ?_, fun kv hkv => hc.chans kv (g4 ▸ hkv), fun k x h1 h2 => ?_, ?_, g5, g8, g6, g7, ?_, ?_, ?_, ?_⟩
  · obtain ⟨l1, l2, l3⟩ := hc.lost x hx64
    refine ⟨(congrArg F.HST_RING_STATUS_STATE.get (g1 (.HST_RING_STATUS x) (fun i hi => ?_) ?_)).trans l1,
      (congrArg F.HST_RING_CFG_EN.get (g1 (.HST_RING_CFG x) (fun i hi => ?_) ?_)).trans l2, ?_⟩
    · simp only [Reg.addr, addrOf]
      omega
    · simp only [Reg.addr, addrOf]
      omega
    · simp only [Reg.addr, addrOf]
      omega
    · simp only [Reg.addr, addrOf]
      omega
    · rw [State.ring, g2]
      exact l3
  · rw [CountedTimes, counter_of_cnt g3]
    exact hc.dropped r hr32
  · rw [State.session, g4]
    exact hc.kept k x h1 h2
  · refine (winBound_eq (congrArg F.HST_WIN_STATUS_BOUND.get (g1 .HST_WIN_STATUS (fun i hi => ?_) (by decide)))).trans hc.window
    simp only [Reg.addr, addrOf]
    omega
  · rw [State.fld, g9]
    exact p1
  · rw [State.fld, g9]
    exact p2
  · rw [State.fld, g9]
    exact p3
  · rw [g9]
    exact p4

/-! ## The links come up (R452, R472) -/

theorem pcieComesUp (hs : StoresCanonical s) {speed width : Nat} (h1 : speed < 8) (h2 : width < 16) :
    ∃ t, exec (.pcieLinkUp speed width) s = .next t ∧ Writes [.HST_PCIE_STATUS] [] s t ∧
      t.fld .HST_PCIE_STATUS F.HST_PCIE_STATUS_LINK_UP = 1 ∧ t.fld .HST_PCIE_STATUS F.HST_PCIE_STATUS_SPEED = speed ∧
      t.fld .HST_PCIE_STATUS F.HST_PCIE_STATUS_WIDTH = width ∧
      t.fld .HST_PCIE_STATUS F.HST_PCIE_STATUS_LINK_LOST = s.fld .HST_PCIE_STATUS F.HST_PCIE_STATUS_LINK_LOST := by
  have o1 : (s.setFld .HST_PCIE_STATUS F.HST_PCIE_STATUS_LINK_UP 1).regsOk := regsOk_setFld hs.regs
  have o2 := regsOk_setFld (r := .HST_PCIE_STATUS) (f := F.HST_PCIE_STATUS_SPEED) (v := speed) o1
  refine ⟨_, rfl, ((Writes.refl.setFld (List.mem_singleton_self _) _ _).setFld (List.mem_singleton_self _) _ _).setFld (List.mem_singleton_self _) _ _,
    ?_, ?_, fld_setFld_lt o2 (by decide) h2, ?_⟩
  · exact (pcie_beside o2 (by decide) (by decide) _).trans ((pcie_beside o1 (by decide) (by decide) _).trans (fld_setFld_lt hs.regs (by decide) (by decide)))
  · exact (pcie_beside o2 (by decide) (by decide) _).trans (fld_setFld_lt o1 (by decide) h1)
  · exact (pcie_beside o2 (by decide) (by decide) _).trans ((pcie_beside o1 (by decide) (by decide) _).trans (pcie_beside hs.regs (by decide) (by decide) _))

/-- What a change of the service port's link writes before its interrupt. -/
def svcShown (s : State) (up lock : Nat) : State :=
  (s.setFld .HST_SVC_STATUS F.HST_SVC_STATUS_BLOCK_LOCK lock).setFld .HST_SVC_STATUS F.HST_SVC_STATUS_LINK_UP up

theorem svc_beside (hu : u.regsOk) {f g : Fld} (ha : f.apart g = true) (hg : g.lo + g.w ≤ 32) (x : Nat) :
    (u.setFld .HST_SVC_STATUS f x).fld .HST_SVC_STATUS g = u.fld .HST_SVC_STATUS g := fld_setFld_beside hu ha hg

theorem exec_svcLinkChange (hon : s.svcOn = true) (up lock : Bool) :
    exec (.svcLinkChange up lock) s = .next (
      if (if up && lock then 1 else 0) = s.fld .HST_SVC_STATUS F.HST_SVC_STATUS_LINK_UP then
        svcShown s (if up && lock then 1 else 0) (if lock then 1 else 0)
      else ((svcShown s (if up && lock then 1 else 0) (if lock then 1 else 0)).setFld .HST_SVC_STATUS F.HST_SVC_STATUS_LINK_CHANGED 1).irqEvent 41) := by
  have hx : exec (.svcLinkChange up lock) s = execSvcLinkChange up lock s := rfl
  rw [hx, execSvcLinkChange, hon]
  simp only [Bool.and_true]
  rfl

theorem svcLinkChanges (hs : StoresCanonical s) (hon : s.svcOn = true) (up lock : Bool) :
    let now := if up && lock then 1 else 0
    let was := s.fld .HST_SVC_STATUS F.HST_SVC_STATUS_LINK_UP
    ∃ t, exec (.svcLinkChange up lock) s = .next t ∧ Signals [.HST_SVC_STATUS] [] s t ∧
      t.fld .HST_SVC_STATUS F.HST_SVC_STATUS_LINK_UP = now ∧
      t.fld .HST_SVC_STATUS F.HST_SVC_STATUS_BLOCK_LOCK = (if lock then 1 else 0) ∧
      t.fld .HST_SVC_STATUS F.HST_SVC_STATUS_LINK_CHANGED =
        (if now = was then s.fld .HST_SVC_STATUS F.HST_SVC_STATUS_LINK_CHANGED else 1) := by
  intro now was
  have hx := exec_svcLinkChange hon up lock
  have hnow : now < 2 := by
    simp only [now]
    split <;> decide
  have hlock : (if lock = true then 1 else 0 : Nat) < 2 := by split <;> decide
  change exec _ s = .next (if now = was then svcShown s now _ else _) at hx
  generalize (if lock = true then 1 else 0) = l at hx hlock
  have o1 : (s.setFld .HST_SVC_STATUS F.HST_SVC_STATUS_BLOCK_LOCK l).regsOk := regsOk_setFld hs.regs
  have o2 : (svcShown s now l).regsOk := regsOk_setFld o1
  have hsig : Signals [.HST_SVC_STATUS] [] s (svcShown s now l) := (Signals.refl.setFld (List.mem_singleton_self _) _ _).setFld (List.mem_singleton_self _) _ _
  have f1 : (svcShown s now l).fld .HST_SVC_STATUS F.HST_SVC_STATUS_LINK_UP = now := fld_setFld_lt o1 (by decide) hnow
  have f2 : (svcShown s now l).fld .HST_SVC_STATUS F.HST_SVC_STATUS_BLOCK_LOCK = l :=
    (svc_beside o1 (by decide) (by decide) _).trans (fld_setFld_lt hs.regs (by decide) hlock)
  have f3 : (svcShown s now l).fld .HST_SVC_STATUS F.HST_SVC_STATUS_LINK_CHANGED = s.fld .HST_SVC_STATUS F.HST_SVC_STATUS_LINK_CHANGED :=
    (svc_beside o1 (by decide) (by decide) _).trans (svc_beside hs.regs (by decide) (by decide) _)
  by_cases hw : now = was
  · rw [if_pos hw] at hx ⊢
    exact ⟨_, hx, hsig, f1, f2, f3⟩
  · rw [if_neg hw] at hx ⊢
    have hget : ∀ u : State, ∀ f : Fld, (u.irqEvent 41).fld .HST_SVC_STATUS f = u.fld .HST_SVC_STATUS f := fun u f =>
      congrArg f.get (irqEvent_get u (by decide) .HST_SVC_STATUS (not_signalAddr rfl nofun nofun nofun))
    refine ⟨_, hx, Signals.signalProof.irqEvent (hsig.setFld (List.mem_singleton_self _) _ _) (by decide), (hget _ _).trans ?_, (hget _ _).trans ?_,
      (hget _ _).trans (fld_setFld_lt o2 (by decide) (by decide))⟩
    · exact (svc_beside o2 (by decide) (by decide) _).trans f1
    · exact (svc_beside o2 (by decide) (by decide) _).trans f2

/-- Settles O58: the loss by `pcieLost`, the link's return by `pcieComesUp`, the service port by `svcLinkChanges`. -/
theorem linksChange : Obligations.LinksChange := by
  unfold Obligations.LinksChange
  exact ⟨fun s c hs hr hk => pcieLost hs hr hk c, fun s speed width hs h1 h2 => pcieComesUp hs h1 h2, fun s up lock hs hon => svcLinkChanges hs hon up lock⟩

end Sys2Proof
end

section
/-! PROOF. The rings move between their states (R460, R470, R471). -/
namespace Sys2Proof

open Sys2Proof.Machine

set_option Elab.async false

variable {s t u v w : State} {q r : Reg} {h x n id : Nat} {val : Word}

/-! ## The re-evaluation of the bindings leaves the stores -/

theorem irqSettle_fld (hq : ¬ signalAddr q.addr) (u : State) (f : Fld) : u.irqSettle.fld q f = u.fld q f :=
  congrArg f.get (irqSettle_get u q hq)

theorem irqSettle_cnt (u : State) : u.irqSettle.cnt = u.cnt := (irqSettle_changes u).cnt
theorem irqSettle_rings (u : State) : u.irqSettle.rings = u.rings := (congrArg State.rings (irqSettle_changes u).rest).trans rfl
theorem irqSettle_frames (u : State) : u.irqSettle.frames = u.frames := (congrArg State.frames (irqSettle_changes u).rest).trans rfl
theorem irqSettle_reps (u : State) : u.irqSettle.reps = u.reps := (congrArg State.reps (irqSettle_changes u).rest).trans rfl

theorem irqSettle_signals (rs : List Reg) (ids : List Nat) (u : State) : Signals rs ids u u.irqSettle := Signals.signalProof.irqSettle .refl

theorem get_put_off (hr : r.indexOk = true) (hq : q.indexOk = true) (h : r ≠ q) (v : Word) : (s.put r v).get q = s.get q :=
  State.get_put_ne _ _ _ _ (addr_ne hr hq h)

theorem fld_put_off (hr : r.indexOk = true) (hq : q.indexOk = true) (h : r ≠ q) (v : Word) (f : Fld) : (s.put r v).fld q f = s.fld q f :=
  congrArg f.get (get_put_off hr hq h v)

/-! ## Writes of HST_RING_CFG -/

/-- A ring that EN starts, its settings written. -/
def ringStarted (u : State) (x : Nat) : State :=
  (((((u.put (.HST_RING_HEAD x) 0).put (.HST_RING_CPTR x) 0).put (.HST_RING_TAIL x) 0).put (.HST_RING_ACK x) 0).putRing x
    { u.ring x with written := [], short := none }).setRingState x 1

theorem ringCfgWritten_starts (h1 : u.fld (.HST_RING_CFG x) F.HST_RING_CFG_EN = 1) (h2 : u.ringState x = 0) :
    u.ringCfgWritten x = (ringStarted u x).irqSettle := by
  unfold State.ringCfgWritten
  simp only [h1, h2, and_self, if_true]
  rfl

theorem ringCfgWritten_flushes (h1 : u.fld (.HST_RING_CFG x) F.HST_RING_CFG_EN = 0) (h2 : u.ringState x = 1 ∨ u.ringState x = 3) (hx : x < 32) :
    u.ringCfgWritten x = ((u.setRingState x 2).rxFlush x).irqSettle := by
  unfold State.ringCfgWritten
  simp only [h1, h2, hx, Nat.zero_ne_one, false_and, true_and, and_self, if_true, if_false]

theorem ringCfgWritten_idles (h1 : u.fld (.HST_RING_CFG x) F.HST_RING_CFG_EN = 0) (h2 : u.ringState x = 1 ∨ u.ringState x = 3) (hx : 32 ≤ x)
    (hh : (u.ring x).held = none) : u.ringCfgWritten x = (u.setRingState x 2).irqSettle := by
  have hh' : ((u.setRingState x 2).ring x).held = none := hh
  unfold State.ringCfgWritten
  simp only [h1, h2, Nat.not_lt.mpr hx, hh', Nat.zero_ne_one, false_and, true_and, and_self, if_true, if_false]

theorem ringCfgWritten_aborts (h1 : u.fld (.HST_RING_CFG x) F.HST_RING_CFG_EN = 0) (h2 : u.ringState x = 1 ∨ u.ringState x = 3) (hx : 32 ≤ x)
    {hd : Machine.Held} (hh : (u.ring x).held = some hd) : u.ringCfgWritten x = ((u.setRingState x 2).txAbort hd.frame).irqSettle := by
  have hh' : ((u.setRingState x 2).ring x).held = some hd := hh
  unfold State.ringCfgWritten
  simp only [h1, h2, Nat.not_lt.mpr hx, hh', Nat.zero_ne_one, false_and, true_and, and_self, if_true, if_false]

theorem ringCfg_row (he : ExpertWindow s h) (hp : Passes s h (.HST_RING_CFG x) val) {c : State}
    (hc : (wrote s (.HST_RING_CFG x) val).ringCfgWritten x = c.irqSettle) (hb : c.boot = (wrote s (.HST_RING_CFG x) val).boot) :
    s.rowWriteReg .window (.HST_RING_CFG x) val = c.irqSettle := by
  rw [rowWriteReg_expert he hp rfl nofun nofun rfl]
  have hw : (wrote s (.HST_RING_CFG x) val).writeAction h (.HST_RING_CFG x) (s.get (.HST_RING_CFG x)) val = c.irqSettle := hc
  rw [hw]
  refine takeReset_of_none ?_
  rw [(irqSettle_changes c).rest, hb]
  exact (wrote_resetReq s _ val).trans he.noReset

theorem exec_ringEnable (he : ExpertWindow s h) (hp : Passes s h (.HST_RING_CFG x) val) (hv : F.HST_RING_CFG_EN.get val = 1) {c : State}
    (hc : (wrote s (.HST_RING_CFG x) val).ringCfgWritten x = c.irqSettle) (hb : c.boot = (wrote s (.HST_RING_CFG x) val).boot) :
    exec (.ringEnable .window x val) s = .next c.irqSettle := by
  have hx : exec (.ringEnable .window x val) s = execRingEnable .window x val s := rfl
  rw [hx, execRingEnable, if_pos (by simp [asks, hv]), ringCfg_row he hp hc hb]

theorem exec_ringDisable (he : ExpertWindow s h) (hp : Passes s h (.HST_RING_CFG x) val) (hv : F.HST_RING_CFG_EN.get val = 0) {c : State}
    (hc : (wrote s (.HST_RING_CFG x) val).ringCfgWritten x = c.irqSettle) (hb : c.boot = (wrote s (.HST_RING_CFG x) val).boot) :
    exec (.ringDisable .window x val) s = .next c.irqSettle := by
  have hx : exec (.ringDisable .window x val) s = execRingDisable .window x val s := rfl
  rw [hx, execRingDisable, if_pos (by simp [asks, hv]), ringCfg_row he hp hc hb]

/-- The settings of a ring read as the word written. -/
theorem wrote_ringCfg (hs : StoresCanonical s) (x : Nat) (val : Word) :
    Holds ((wrote s (.HST_RING_CFG x) val).get (.HST_RING_CFG x))
      [F.HST_RING_CFG_EN, F.HST_RING_CFG_SIZE_LOG2, F.HST_RING_CFG_BUF, F.HST_RING_CFG_IRQ_EN] val := by
  have hf : ∀ f : Fld, ⟨f, .rw, .b, false⟩ ∈ (Reg.HST_RING_CFG x).fields →
      f.get ((wrote s (.HST_RING_CFG x) val).get (.HST_RING_CFG x)) = f.get val := fun f hf => wrote_fld_rw hs hf (.inl rfl) val
  intro f hm
  refine hf f ?_
  simp only [List.mem_cons, List.not_mem_nil, or_false] at hm
  rcases hm with rfl | rfl | rfl | rfl <;> simp [Reg.fields]

theorem ringNotSignal (hx : x < 64) : ¬ signalAddr (Reg.HST_RING_CFG x).addr ∧ ¬ signalAddr (Reg.HST_RING_HEAD x).addr ∧
    ¬ signalAddr (Reg.HST_RING_CPTR x).addr ∧ ¬ signalAddr (Reg.HST_RING_TAIL x).addr ∧ ¬ signalAddr (Reg.HST_RING_ACK x).addr ∧
    ¬ signalAddr (Reg.HST_RING_STATUS x).addr ∧ ¬ signalAddr (Reg.HST_RING_IRQ x).addr :=
  have hi : decide (x < 64) = true := decide_eq_true hx
  ⟨not_signalAddr (r := .HST_RING_CFG x) hi nofun nofun nofun, not_signalAddr (r := .HST_RING_HEAD x) hi nofun nofun nofun,
    not_signalAddr (r := .HST_RING_CPTR x) hi nofun nofun nofun, not_signalAddr (r := .HST_RING_TAIL x) hi nofun nofun nofun,
    not_signalAddr (r := .HST_RING_ACK x) hi nofun nofun nofun, not_signalAddr (r := .HST_RING_STATUS x) hi nofun nofun nofun,
    not_signalAddr (r := .HST_RING_IRQ x) hi nofun nofun nofun⟩

theorem ringStarted_shows (hu : u.regsOk) (hx : x < 64) :
    (ringStarted u x).ringState x = 1 ∧ (ringStarted u x).get (.HST_RING_CFG x) = u.get (.HST_RING_CFG x) ∧ (ringStarted u x).ringHead x = 0 ∧
      (ringStarted u x).ringCptr x = 0 ∧ (ringStarted u x).ringTail x = 0 ∧ (ringStarted u x).ringAck x = 0 := by
  have hi : decide (x < 64) = true := decide_eq_true hx
  generalize hr : ({ u.ring x with written := [], short := none } : Machine.Ring) = rg
  have h1 : (u.put (.HST_RING_HEAD x) 0).regsOk := State.regsOk_put _ _ _ hu
  have h2 : ((u.put (.HST_RING_HEAD x) 0).put (.HST_RING_CPTR x) 0).regsOk := State.regsOk_put _ _ _ h1
  have h3 : (((u.put (.HST_RING_HEAD x) 0).put (.HST_RING_CPTR x) 0).put (.HST_RING_TAIL x) 0).regsOk := State.regsOk_put _ _ _ h2
  have h4 : ((((u.put (.HST_RING_HEAD x) 0).put (.HST_RING_CPTR x) 0).put (.HST_RING_TAIL x) 0).put (.HST_RING_ACK x) 0).regsOk :=
    State.regsOk_put _ _ _ h3
  have hg : ∀ q : Reg, (Reg.HST_RING_STATUS x).addr ≠ q.addr → (ringStarted u x).get q =
      ((((u.put (.HST_RING_HEAD x) 0).put (.HST_RING_CPTR x) 0).put (.HST_RING_TAIL x) 0).put (.HST_RING_ACK x) 0).get q := fun q hq => by
    unfold ringStarted
    rw [hr]
    exact (State.get_setFld_ne _ _ _ _ _ hq).trans rfl
  have hcfg := hg (.HST_RING_CFG x) (addr_ne (q := .HST_RING_STATUS x) (r := .HST_RING_CFG x) hi hi nofun)
  have hhead := hg (.HST_RING_HEAD x) (addr_ne (q := .HST_RING_STATUS x) (r := .HST_RING_HEAD x) hi hi nofun)
  have hcptr := hg (.HST_RING_CPTR x) (addr_ne (q := .HST_RING_STATUS x) (r := .HST_RING_CPTR x) hi hi nofun)
  have htail := hg (.HST_RING_TAIL x) (addr_ne (q := .HST_RING_STATUS x) (r := .HST_RING_TAIL x) hi hi nofun)
  have hack := hg (.HST_RING_ACK x) (addr_ne (q := .HST_RING_STATUS x) (r := .HST_RING_ACK x) hi hi nofun)
  refine ⟨fld_setFld_lt (s := State.putRing _ x rg) h4 (by decide) (by decide), ?_, ?_, ?_, ?_, ?_⟩
  · rw [hcfg, get_put_off (r := .HST_RING_ACK x) (q := .HST_RING_CFG x) hi hi nofun, get_put_off (r := .HST_RING_TAIL x) (q := .HST_RING_CFG x) hi hi nofun,
      get_put_off (r := .HST_RING_CPTR x) (q := .HST_RING_CFG x) hi hi nofun, get_put_off (r := .HST_RING_HEAD x) (q := .HST_RING_CFG x) hi hi nofun]
  · rw [State.ringHead, State.fld, hhead, get_put_off (r := .HST_RING_ACK x) (q := .HST_RING_HEAD x) hi hi nofun,
      get_put_off (r := .HST_RING_TAIL x) (q := .HST_RING_HEAD x) hi hi nofun, get_put_off (r := .HST_RING_CPTR x) (q := .HST_RING_HEAD x) hi hi nofun,
      State.get_put_self _ _ _ hu]
    rfl
  · rw [State.ringCptr, State.fld, hcptr, get_put_off (r := .HST_RING_ACK x) (q := .HST_RING_CPTR x) hi hi nofun,
      get_put_off (r := .HST_RING_TAIL x) (q := .HST_RING_CPTR x) hi hi nofun, State.get_put_self _ _ _ h1]
    rfl
  · rw [State.ringTail, State.fld, htail, get_put_off (r := .HST_RING_ACK x) (q := .HST_RING_TAIL x) hi hi nofun, State.get_put_self _ _ _ h2]
    rfl
  · rw [State.ringAck, State.fld, hack, State.get_put_self _ _ _ h3]
    rfl

theorem ringStarted_keeps (u : State) (x : Nat) :
    SignalsRegs [.HST_RING_CFG x, .HST_RING_HEAD x, .HST_RING_CPTR x, .HST_RING_TAIL x, .HST_RING_ACK x, .HST_RING_STATUS x] u (ringStarted u x) := by
  have hw : Signals [.HST_RING_CFG x, .HST_RING_HEAD x, .HST_RING_CPTR x, .HST_RING_TAIL x, .HST_RING_ACK x, .HST_RING_STATUS x] [] u
      (((((u.put (.HST_RING_HEAD x) 0).put (.HST_RING_CPTR x) 0).put (.HST_RING_TAIL x) 0).put (.HST_RING_ACK x) 0).setRingState x 1) :=
    ((((Signals.refl.put (.inr (by simp)) _).put (.inr (by simp)) _).put (.inr (by simp)) _).put (.inr (by simp)) _).setFld (by simp) _ _
  exact fun q hq hn => hw.regs q hq hn

theorem ringEnabled (hs : StoresCanonical s) (he : ExpertWindow s h) (hx : x < 64) (hp : Passes s h (.HST_RING_CFG x) val)
    (hv : F.HST_RING_CFG_EN.get val = 1) (hst : s.ringState x = 0) :
    ∃ t, exec (.ringEnable .window x val) s = .next t ∧ t.ringState x = 1 ∧
      Holds (t.get (.HST_RING_CFG x)) [F.HST_RING_CFG_EN, F.HST_RING_CFG_SIZE_LOG2, F.HST_RING_CFG_BUF, F.HST_RING_CFG_IRQ_EN] val ∧
      t.ringHead x = 0 ∧ t.ringCptr x = 0 ∧ t.ringTail x = 0 ∧ t.ringAck x = 0 ∧ t.frames = s.frames ∧ t.reps = s.reps ∧ t.cnt = s.cnt ∧
      SignalsRegs [.HST_RING_CFG x, .HST_RING_HEAD x, .HST_RING_CPTR x, .HST_RING_TAIL x, .HST_RING_ACK x, .HST_RING_STATUS x] s t := by
  have hi : decide (x < 64) = true := decide_eq_true hx
  have hw := wrote_canonical hs (.HST_RING_CFG x) val
  have hcfg := wrote_ringCfg hs x val
  have hrest := wrote_rest s (.HST_RING_CFG x) val
  have hkeep := wrote_keeps s (.HST_RING_CFG x) val
  have hwst : (wrote s (.HST_RING_CFG x) val).ringState x = 0 :=
    (wrote_fld_ne s (addr_ne (q := .HST_RING_STATUS x) (r := .HST_RING_CFG x) hi hi nofun) val _).trans hst
  have hex := exec_ringEnable he hp hv (ringCfgWritten_starts ((hcfg _ (by simp)).trans hv) hwst) rfl
  generalize wrote s (.HST_RING_CFG x) val = w at hw hcfg hrest hkeep hwst hex
  obtain ⟨c1, c2, c3, c4, c5, c6⟩ := ringStarted_shows hw.regs hx
  obtain ⟨n1, n2, n3, n4, n5, n6, -⟩ := ringNotSignal hx
  refine ⟨_, hex, (irqSettle_fld n6 _ _).trans c1, ?_, (irqSettle_fld n2 _ _).trans c3, (irqSettle_fld n3 _ _).trans c4,
    (irqSettle_fld n4 _ _).trans c5, (irqSettle_fld n5 _ _).trans c6, (irqSettle_frames _).trans ?_, (irqSettle_reps _).trans ?_,
    (irqSettle_cnt _).trans ?_, fun q hq hn => ?_⟩
  · rw [irqSettle_get _ _ n1, c2]
    exact hcfg
  · exact (show (ringStarted w x).frames = w.frames from rfl).trans (by rw [hrest])
  · exact (show (ringStarted w x).reps = w.reps from rfl).trans (by rw [hrest])
  · exact (show (ringStarted w x).cnt = w.cnt from rfl).trans (by rw [hrest])
  · obtain ⟨a1, a2⟩ := (irqSettle_signals [] [] (ringStarted w x)).regs q hq (by simp)
    obtain ⟨b1, b2⟩ := ringStarted_keeps w x q hq hn
    obtain ⟨d1, d2⟩ := hkeep q fun k hk => hn k (by simp only [List.mem_singleton] at hk; simp [hk])
    exact ⟨a1.trans (b1.trans d1), a2.trans (b2.trans d2)⟩

/-! ## Frames of a ring aborted -/

/-- What the abort of a frame leaves of an item and of a ring. -/
def abortedItem (id : Nat) (it : TxItem) : TxItem := if it.frame = some id then { it with status := 3, ready := true, frame := none } else it

def abortedRing (id : Nat) (a : Machine.Ring) : Machine.Ring :=
  { a with items := a.items.map (abortedItem id), held := if a.held.map Machine.Held.frame = some id then none else a.held }

theorem txAbort_eq (s : State) (id : Nat) :
    s.txAbort id = ({ s with rings := s.rings.map fun (kv : Nat × Machine.Ring) => (kv.1, abortedRing id kv.2), frames := serase s.frames id }).checkEpoch := by
  have hi : ∀ it : TxItem, (if it.frame == some id then { it with status := 3, ready := true, frame := none } else it) = abortedItem id it := fun it => by
    simp only [beq_iff_eq]
    rfl
  have hg : ∀ a : Machine.Ring, ({ a with
      items := a.items.map fun (t : TxItem) => if t.frame == some id then { t with status := 3, ready := true, frame := none } else t
      held := match a.held with
        | some h => if h.frame = id then none else some h
        | none => none } : Machine.Ring) = abortedRing id a := fun a => by
    obtain ⟨dq, items, held, written, short⟩ := a
    cases held with
    | none => simp only [hi]; rfl
    | some h => simp only [hi, abortedRing, Option.map_some, Option.some.injEq]
  unfold State.txAbort
  refine congrArg State.checkEpoch ?_
  refine congrArg (fun rs => ({ s with rings := rs, frames := serase s.frames id } : State)) (List.map_congr_left fun kv _ => ?_)
  exact congrArg (Prod.mk kv.1) (hg kv.2)

theorem checkEpoch_rings (s : State) : s.checkEpoch.rings = s.rings := by
  obtain ⟨rows, fwd, he⟩ := endEpoch_eq s
  unfold State.checkEpoch
  split
  · rw [he]
    rfl
  · rfl

theorem checkEpoch_boot (s : State) : s.checkEpoch.boot = s.boot := by
  obtain ⟨rows, fwd, he⟩ := endEpoch_eq s
  unfold State.checkEpoch
  split
  · rw [he]
    rfl
  · rfl

theorem txAbort_ring (s : State) (id x : Nat) : (s.txAbort id).ring x = abortedRing id (s.ring x) := by
  rw [txAbort_eq, State.ring, checkEpoch_rings, sgetD, sfind_map, State.ring, sgetD]
  cases sfind s.rings x with
  | none => rfl
  | some a => rfl

theorem txAbort_leaves (hs : StoresCanonical s) (id : Nat) : (s.txAbort id).frame id = none ∧ (s.txAbort id).cnt = s.cnt ∧
    (s.txAbort id).boot = s.boot ∧ ∀ q : Reg, q.addr ≠ Reg.STW_EPOCH_STATUS.addr → (s.txAbort id).get q = s.get q := by
  rw [txAbort_eq]
  refine ⟨?_, checkEpoch_cnt _, checkEpoch_boot _, fun q hq => checkEpoch_get hq _⟩
  rw [State.frame, checkEpoch_frames]
  exact sfind_serase_self s.frames none id hs.frames

/-! ## Disabling (R470) -/

/-- The registers of a ring that its transition shows, and those that it keeps. -/
structure RingShows (x state : Nat) (s t : State) : Prop where
  state : t.ringState x = state
  en : t.fld (.HST_RING_CFG x) F.HST_RING_CFG_EN = 0
  head : t.ringHead x = s.ringHead x
  cptr : t.ringCptr x = s.ringCptr x

/-- A state whose registers of the ring are those of the ring stopping shows it once settled. -/
theorem ringShows_settled (hs : StoresCanonical s) (hx : x < 64) (hv : F.HST_RING_CFG_EN.get val = 0) {c : State}
    (hc : ∀ q ∈ [Reg.HST_RING_CFG x, .HST_RING_HEAD x, .HST_RING_CPTR x, .HST_RING_STATUS x],
      c.get q = ((wrote s (.HST_RING_CFG x) val).setRingState x 2).get q) : RingShows x 2 s c.irqSettle := by
  have hi : decide (x < 64) = true := decide_eq_true hx
  have hw := wrote_canonical hs (.HST_RING_CFG x) val
  obtain ⟨n1, n2, n3, n4, n5, n6, -⟩ := ringNotSignal hx
  refine ⟨(irqSettle_fld n6 _ _).trans ?_, (irqSettle_fld n1 _ _).trans ?_, (irqSettle_fld n2 _ _).trans ?_, (irqSettle_fld n3 _ _).trans ?_⟩
  · rw [State.fld, hc _ (by simp)]
    exact fld_setFld_lt hw.regs (by decide) (by decide)
  · rw [State.fld, hc _ (by simp)]
    exact (fld_setFld_off (r := .HST_RING_STATUS x) (q := .HST_RING_CFG x) hi hi nofun).trans ((wrote_ringCfg hs x val _ (by simp)).trans hv)
  · rw [State.fld, hc _ (by simp)]
    exact (fld_setFld_off (r := .HST_RING_STATUS x) (q := .HST_RING_HEAD x) hi hi nofun).trans
      (wrote_fld_ne s (addr_ne (q := .HST_RING_HEAD x) (r := .HST_RING_CFG x) hi hi nofun) val _)
  · rw [State.fld, hc _ (by simp)]
    exact (fld_setFld_off (r := .HST_RING_STATUS x) (q := .HST_RING_CPTR x) hi hi nofun).trans
      (wrote_fld_ne s (addr_ne (q := .HST_RING_CPTR x) (r := .HST_RING_CFG x) hi hi nofun) val _)

theorem ringDisabled (hs : StoresCanonical s) (hr : FramesInRange s) (hk : skeysFrom none s.rings = true) (he : ExpertWindow s h) (hx : x < 64)
    (hp : Passes s h (.HST_RING_CFG x) val) (hv : F.HST_RING_CFG_EN.get val = 0) (hst : s.ringState x = 1 ∨ s.ringState x = 3) :
    ∃ t, exec (.ringDisable .window x val) s = .next t ∧ RingShows x 2 s t ∧
      (x < 32 → (t.ring x).dq = [] ∧ CountedTimes (C.rxDrops x) (s.ring x).dq.length s t) ∧
      (32 ≤ x → (s.ring x).held = none → t.rings = s.rings ∧ t.frames = s.frames ∧ t.cnt = s.cnt) ∧
      (∀ hd, 32 ≤ x → (s.ring x).held = some hd → (t.ring x).held = none ∧ t.frame hd.frame = none ∧ t.cnt = s.cnt ∧
        (t.ring x).items = (s.ring x).items.map fun it =>
          if it.frame = some hd.frame then { it with status := 3, ready := true, frame := none } else it) := by
  have hi : decide (x < 64) = true := decide_eq_true hx
  have hw : StoresCanonical ((wrote s (.HST_RING_CFG x) val).setRingState x 2) := (wrote_canonical hs (.HST_RING_CFG x) val).setFld ..
  have hrest := wrote_rest s (.HST_RING_CFG x) val
  have hen : (wrote s (.HST_RING_CFG x) val).fld (.HST_RING_CFG x) F.HST_RING_CFG_EN = 0 := (wrote_ringCfg hs x val _ (by simp)).trans hv
  have hwst : (wrote s (.HST_RING_CFG x) val).ringState x = 1 ∨ (wrote s (.HST_RING_CFG x) val).ringState x = 3 := by
    rw [show (wrote s (.HST_RING_CFG x) val).ringState x = s.ringState x from
      wrote_fld_ne s (addr_ne (q := .HST_RING_STATUS x) (r := .HST_RING_CFG x) hi hi nofun) val _]
    exact hst
  have hshow := fun c => ringShows_settled (c := c) hs hx hv
  have hex := fun c => exec_ringDisable (c := c) he hp hv
  have hrings : ((wrote s (.HST_RING_CFG x) val).setRingState x 2).rings = s.rings :=
    (show _ = (wrote s (.HST_RING_CFG x) val).rings from rfl).trans (by rw [hrest])
  have hframes : ((wrote s (.HST_RING_CFG x) val).setRingState x 2).frames = s.frames :=
    (show _ = (wrote s (.HST_RING_CFG x) val).frames from rfl).trans (by rw [hrest])
  have hreps : ((wrote s (.HST_RING_CFG x) val).setRingState x 2).reps = s.reps :=
    (show _ = (wrote s (.HST_RING_CFG x) val).reps from rfl).trans (by rw [hrest])
  have hcnt : ((wrote s (.HST_RING_CFG x) val).setRingState x 2).cnt = s.cnt :=
    (show _ = (wrote s (.HST_RING_CFG x) val).cnt from rfl).trans (by rw [hrest])
  have hring : (wrote s (.HST_RING_CFG x) val).ring x = s.ring x := by
    rw [hrest]
    rfl
  have hboot : ((wrote s (.HST_RING_CFG x) val).setRingState x 2).boot = (wrote s (.HST_RING_CFG x) val).boot := rfl
  rw [← hring]
  by_cases h32 : x < 32
  · have hstep := hex _ (ringCfgWritten_flushes hen hwst h32)
    have hring2 : ((wrote s (.HST_RING_CFG x) val).setRingState x 2).ring x = (wrote s (.HST_RING_CFG x) val).ring x := rfl
    rw [← hring2]
    generalize (wrote s (.HST_RING_CFG x) val).setRingState x 2 = u at hw hshow hrings hframes hreps hcnt hboot hstep
    have hur : FramesInRange u := ⟨hframes ▸ hr.ports, hframes ▸ hr.rings, hframes ▸ hr.classes, hreps ▸ hr.queues⟩
    have hm := rxFlush_emptied h32 hw hur (hrings ▸ hk)
    refine ⟨_, hstep (by rw [hm.flows.rest]; exact hboot), hshow _ fun q hq => ?_, fun _ => ⟨?_, ?_⟩, fun h => absurd h32 (by omega),
      fun _ h => absurd h32 (by omega)⟩
    · refine hm.flows.regs.get (fun _ => pathReg_indexOk) ?_ ?_
      · simp only [List.mem_cons, List.not_mem_nil, or_false] at hq
        rcases hq with rfl | rfl | rfl | rfl <;> exact hi
      · simp only [List.mem_cons, List.not_mem_nil, or_false] at hq
        rcases hq with rfl | rfl | rfl | rfl <;> exact id
    · rw [State.ring, irqSettle_rings]
      exact hm.dq.trans List.drop_length
    · rw [CountedTimes, counter_of_cnt (irqSettle_cnt _), hm.dropped, counter_of_cnt hcnt]
  · have h32' : 32 ≤ x := by omega
    cases hh : ((wrote s (.HST_RING_CFG x) val).ring x).held with
    | none =>
      refine ⟨_, hex _ (ringCfgWritten_idles hen hwst h32' hh) hboot, hshow _ fun _ _ => rfl, fun h => absurd h h32,
        fun _ _ => ⟨(irqSettle_rings _).trans hrings, (irqSettle_frames _).trans hframes, (irqSettle_cnt _).trans hcnt⟩, fun hd _ h => nomatch h⟩
    | some hd =>
      have hstep := hex _ (ringCfgWritten_aborts hen hwst h32' hh)
      have hra := txAbort_ring ((wrote s (.HST_RING_CFG x) val).setRingState x 2) hd.frame x
      rw [show ((wrote s (.HST_RING_CFG x) val).setRingState x 2).ring x = (wrote s (.HST_RING_CFG x) val).ring x from rfl] at hra
      obtain ⟨a1, a2, a3, a4⟩ := txAbort_leaves hw hd.frame
      refine ⟨_, hstep a3, hshow _ fun q hq => a4 q ?_, fun h => absurd h h32, fun _ h => (nomatch h), fun hd' _ hhd => ?_⟩
      · simp only [List.mem_cons, List.not_mem_nil, or_false] at hq
        rcases hq with rfl | rfl | rfl | rfl
        · exact addr_ne (q := .HST_RING_CFG x) hi rfl nofun
        · exact addr_ne (q := .HST_RING_HEAD x) hi rfl nofun
        · exact addr_ne (q := .HST_RING_CPTR x) hi rfl nofun
        · exact addr_ne (q := .HST_RING_STATUS x) hi rfl nofun
      · cases hhd
        refine ⟨?_, ?_, (irqSettle_cnt _).trans (a2.trans hcnt), ?_⟩
        · rw [State.ring, irqSettle_rings]
          refine (congrArg Machine.Ring.held hra).trans ?_
          simp [abortedRing, hh]
        · rw [State.frame, irqSettle_frames]
          exact a1
        · rw [State.ring, irqSettle_rings]
          exact congrArg Machine.Ring.items hra

/-! ## Stopped rings (R470) -/

theorem ringStops (hx : x < 64) (hs : StoresCanonical s) (hst : s.ringState x = 2) :
    ((s.ring x).items ≠ [] → exec (.ringStopped x) s = .next s) ∧
      ((s.ring x).items = [] → ∃ t, exec (.ringStopped x) s = .next t ∧ t.ringState x = 0 ∧ Signals [.HST_RING_STATUS x] [] s t) := by
  have hex : exec (.ringStopped x) s = execRingStopped x s := rfl
  obtain ⟨n1, n2, n3, n4, n5, n6, -⟩ := ringNotSignal hx
  refine ⟨fun hne => ?_, fun he => ⟨(s.setRingState x 0).irqSettle, ?_, ?_, ?_⟩⟩
  · rw [hex, execRingStopped, if_neg fun h => hne (List.isEmpty_iff.mp h.2)]
  · rw [hex, execRingStopped, if_pos ⟨hst, List.isEmpty_iff.mpr he⟩]
  · exact (irqSettle_fld n6 _ _).trans (fld_setFld_lt hs.regs (by decide) (by decide))
  · exact Signals.signalProof.irqSettle (Signals.refl.setFld (List.mem_singleton_self _) _ _)

/-! ## Failures of host memory (R470) -/

/-- ERROR shown with its cause, and the failure counted. -/
def ringFailed (s : State) (x err : Nat) : State :=
  ((s.setRingState x 3).setFld (.HST_RING_STATUS x) F.HST_RING_STATUS_ERR err).count C.dmaErrors

/-- The number that ERR shows. -/
def dmaErr : DmaError → Nat
  | .errorCompletion => 1
  | .timeout => 2

theorem exec_ringDmaError (hst : s.ringState x = 1) (err : DmaError) (fr : Option Nat) :
    exec (.ringDmaError x err fr) s = .next (
      if x < 32 then
        (if ((ringFailed s x (dmaErr err)).ring x).dq.isEmpty then ringFailed s x (dmaErr err)
        else ((ringFailed s x (dmaErr err)).count (C.rxDrops x)).rxPop x)
      else fr.elim (ringFailed s x (dmaErr err)) ((ringFailed s x (dmaErr err)).txDmaFail x)).irqSettle := by
  have hx : exec (.ringDmaError x err fr) s = execRingDmaError x err fr s := rfl
  rw [hx]
  unfold execRingDmaError
  rw [if_neg (by simp [hst])]
  cases err <;> cases fr <;> rfl

theorem ringFailed_shows (hs : StoresCanonical s) (x : Nat) {err : Nat} (herr : err < 4) :
    (ringFailed s x err).ringState x = 3 ∧ (ringFailed s x err).fld (.HST_RING_STATUS x) F.HST_RING_STATUS_ERR = err ∧
      CountedOnce C.dmaErrors s (ringFailed s x err) := by
  have h1 : (s.setRingState x 3).regsOk := regsOk_setFld hs.regs
  have hc : ∀ u : State, ∀ q f, (u.count C.dmaErrors).fld q f = u.fld q f := fun _ _ _ => rfl
  refine ⟨(hc _ _ _).trans ((fld_setFld_beside h1 (by decide) (by decide)).trans (fld_setFld_lt hs.regs (by decide) (by decide))),
    (hc _ _ _).trans (fld_setFld_lt h1 (by decide) herr), ?_⟩
  exact countedOnce_any ((s.setRingState x 3).setFld (.HST_RING_STATUS x) F.HST_RING_STATUS_ERR err) C.dmaErrors

theorem txDmaFail_frame {id : Nat} {f : Machine.Frame} {it : TxItem} (hit : it ∈ (s.ring x).items) (hf : it.frame = some id) (hfr : s.frame id = some f)
    (hst : f.stage ≠ Stage.queued) : s.txDmaFail x id = (s.count (C.txDrops (x - 32))).txAbort id := by
  have hany : ((s.ring x).items.any fun t => t.frame == some id) = true := List.any_eq_true.mpr ⟨it, hit, by simp [hf]⟩
  have hfr' : (s.count (C.txDrops (x - 32))).frame id = some f := hfr
  unfold State.txDmaFail
  rw [if_pos hany]
  simp only [hfr', bne_iff_ne, ne_eq, hst, not_false_eq_true, if_true]

/-- Counters that a failure of host memory may advance. -/
def dmaCnt (id : Nat) : Prop := queueCnt id ∨ (∃ r < 32, id = C.rxDrops r) ∨ ∃ r < 32, id = C.txDrops r

theorem txDmaFail_flows (hx : 32 ≤ x) (hx' : x < 64) (h : Flows pathReg dmaCnt s u) (id : Nat) : Flows pathReg dmaCnt s (u.txDmaFail x id) := by
  have hq : QueueProof (Flows pathReg dmaCnt s) := Flows.queueProof (fun _ h => h) fun _ h => .inl h
  unfold State.txDmaFail
  split
  · extract_lets v
    have hv : Flows pathReg dmaCnt s v := h.count (.inr (.inr ⟨x - 32, by omega, rfl⟩))
    clear_value v
    split
    · next f hf =>
      split
      · rw [txAbort_eq]
        exact hq.checkEpoch (hv.of_stores ((Evolves.refl (s := v)).eraseFrame id |>.trans Evolves.refl.of_kept) rfl)
      · have hput : ∀ items, Flows pathReg dmaCnt s (v.putRing x { v.ring x with items := items }) := fun _ => hv.of_stores Evolves.refl.of_kept rfl
        refine hq.checkGone _ (hq.killReplicas _ ((hput _).of_stores (Evolves.refl.putFrame _ fun _ => ?_) rfl))
        have ⟨hp, hr, hk⟩ := hv.range.frame (mem_of_sfind hf)
        exact ⟨hp, hr, hk⟩
    · exact hv
  · exact h

theorem dmaErrors_apart : ¬ dmaCnt C.dmaErrors := by
  rintro ((h | ⟨k, hk, h⟩) | ⟨k, hk, h⟩ | ⟨k, hk, h⟩)
  · rcases h with h | h | ⟨k, hk, h⟩ <;> simp only [C.dmaErrors, C.ladderYield, C.txFrames] at h <;> omega
  · simp only [C.dmaErrors, C.prtTxStomped, C.flushed, C.stale, C.page] at h
    omega
  · simp only [C.dmaErrors, C.rxDrops] at h
    omega
  · simp only [C.dmaErrors, C.txDrops] at h
    omega

/-- What a failure shows, whatever follows it among frames. -/
theorem ringFailed_settled (hs : StoresCanonical s) (hx : x < 64) {err : Nat} (herr : err < 4) (h : Flows pathReg dmaCnt (ringFailed s x err) u) :
    u.irqSettle.ringState x = 3 ∧ CountedOnce C.dmaErrors s u.irqSettle ∧
      u.irqSettle.fld (.HST_RING_STATUS x) F.HST_RING_STATUS_ERR = err := by
  obtain ⟨c1, c2, c3⟩ := ringFailed_shows hs x herr
  obtain ⟨n1, n2, n3, n4, n5, n6, -⟩ := ringNotSignal hx
  have hg := h.regs.get (q := .HST_RING_STATUS x) (fun _ => pathReg_indexOk) (decide_eq_true hx) id
  refine ⟨(irqSettle_fld n6 _ _).trans ((congrArg F.HST_RING_STATUS_STATE.get hg).trans c1), ?_,
    (irqSettle_fld n6 _ _).trans ((congrArg F.HST_RING_STATUS_ERR.get hg).trans c2)⟩
  rw [CountedOnce, counter_of_cnt (irqSettle_cnt u), h.cnts _ dmaErrors_apart]
  exact c3

theorem ringFails (hs : StoresCanonical s) (hr : FramesInRange s) (hk : skeysFrom none s.rings = true) (hx : x < 64) (hst : s.ringState x = 1)
    (err : DmaError) (fr : Option Nat) :
    ∃ t, exec (.ringDmaError x err fr) s = .next t ∧
      (t.ringState x = 3 ∧ CountedOnce C.dmaErrors s t ∧ t.fld (.HST_RING_STATUS x) F.HST_RING_STATUS_ERR = dmaErr err) ∧
      (x < 32 → ∀ it rest, (s.ring x).dq = it :: rest → (t.ring x).dq = rest ∧ CountedOnce (C.rxDrops x) s t) ∧
      (32 ≤ x → fr = none → t.rings = s.rings ∧ t.frames = s.frames) ∧
      (32 ≤ x → ∀ id f it, fr = some id → it ∈ (s.ring x).items → it.frame = some id → s.frame id = some f →
        f.stage ≠ Stage.queued → t.frame id = none ∧ CountedOnce (C.txDrops (x - 32)) s t ∧
        { it with status := 3, ready := true, frame := none } ∈ (t.ring x).items) := by
  have herr : dmaErr err < 4 := by cases err <;> decide
  have hex := exec_ringDmaError hst err fr
  have hsettled := fun u => ringFailed_settled (u := u) hs hx herr
  have hrings : (ringFailed s x (dmaErr err)).rings = s.rings := rfl
  have hframes : (ringFailed s x (dmaErr err)).frames = s.frames := rfl
  have hreps : (ringFailed s x (dmaErr err)).reps = s.reps := rfl
  have hcnt : ∀ k, k ≠ C.dmaErrors → (ringFailed s x (dmaErr err)).counter k = s.counter k := fun k hk => State.counter_count_ne _ _ _ (Ne.symm hk)
  have hcan : StoresCanonical (ringFailed s x (dmaErr err)) := ((hs.setFld ..).setFld ..).count _
  generalize ringFailed s x (dmaErr err) = w at hex hsettled hrings hframes hreps hcnt hcan
  have hwr : FramesInRange w := ⟨hframes ▸ hr.ports, hframes ▸ hr.rings, hframes ▸ hr.classes, hreps ▸ hr.queues⟩
  have hring : w.ring x = s.ring x := congrArg (sgetD · x freshRing) hrings
  have h0 : Flows pathReg dmaCnt w w := .refl hcan hwr
  refine ⟨_, hex, ?_⟩
  by_cases h32 : x < 32
  · rw [if_pos h32]
    have hflows : Flows pathReg dmaCnt w (if (w.ring x).dq.isEmpty then w else (w.count (C.rxDrops x)).rxPop x) := by
      split
      · exact h0
      · exact rxPop_flows (fun _ h => .inl (.inl h)) (h0.count (.inr (.inl ⟨x, h32, rfl⟩))) x
    refine ⟨hsettled _ hflows, fun _ it rest hd => ?_, fun h => absurd h32 (by omega), fun h => absurd h32 (by omega)⟩
    have hwd : ((w.count (C.rxDrops x)).ring x).dq = it :: rest := (congrArg Machine.Ring.dq hring).trans hd
    have hne : ¬ (w.ring x).dq.isEmpty = true := by
      rw [hring, hd]
      exact Bool.false_ne_true
    rw [if_neg hne]
    have hv := h0.count (id := C.rxDrops x) (.inr (.inl ⟨x, h32, rfl⟩))
    have hpop : Flows pathReg pathCnt (w.count (C.rxDrops x)) ((w.count (C.rxDrops x)).rxPop x) := rxPop_flows (fun _ h => h) (.refl hv.canon hv.range) x
    obtain ⟨p1, -⟩ := rxPop_ring hv.canon hv.range (hrings ▸ hk) hwd
    refine ⟨?_, ?_⟩
    · rw [State.ring, irqSettle_rings]
      exact congrArg Machine.Ring.dq p1
    · rw [CountedOnce, counter_of_cnt (irqSettle_cnt _), hpop.cnts _ (rxDrops_not_path h32), countedOnce_any w,
        hcnt _ (by simp only [C.rxDrops, C.dmaErrors]; omega)]
  · have h32' : 32 ≤ x := by omega
    rw [if_neg h32]
    cases fr with
    | none =>
      exact ⟨hsettled _ h0, fun h => absurd h h32, fun _ _ => ⟨(irqSettle_rings _).trans hrings, (irqSettle_frames _).trans hframes⟩,
        fun _ _ _ _ h => nomatch h⟩
    | some id =>
      refine ⟨hsettled _ (txDmaFail_flows h32' hx h0 id), fun h => absurd h h32, fun _ h => (nomatch h), fun _ id' f it hid hit hitf hf hfs => ?_⟩
      cases hid
      have hwit : it ∈ (w.ring x).items := hring ▸ hit
      have hwf : w.frame id = some f := (congrArg (sfind · id) hframes).trans hf
      rw [Option.elim_some, txDmaFail_frame hwit hitf hwf hfs]
      obtain ⟨a1, a2, -, -⟩ := txAbort_leaves (hcan.count (C.txDrops (x - 32))) id
      refine ⟨?_, ?_, ?_⟩
      · rw [State.frame, irqSettle_frames]
        exact a1
      · rw [CountedOnce, counter_of_cnt (irqSettle_cnt _), counter_of_cnt a2, countedOnce_any w,
          hcnt _ (by simp only [C.txDrops, C.dmaErrors]; omega)]
      · rw [State.ring, irqSettle_rings]
        have hra := txAbort_ring (w.count (C.txDrops (x - 32))) id x
        rw [show (w.count (C.txDrops (x - 32))).ring x = w.ring x from rfl] at hra
        have hitems := congrArg Machine.Ring.items hra
        rw [show sgetD _ x freshRing = (State.txAbort (w.count (C.txDrops (x - 32))) id).ring x from rfl, hitems]
        exact List.mem_map.mpr ⟨it, hwit, by simp [abortedItem, hitf]⟩

/-! ## Notices (R471) -/

theorem mem_unacked (s : State) (x : Nat) (e : Nat × Nat) : e ∈ s.unacked x ↔ e ∈ (s.ring x).written ∧ 0 < s.pastAck x e.1 ∧
    s.pastAck x e.1 ≤ s.pastAck x (s.ringCptr x) := by
  simp only [State.unacked, List.mem_filter, Bool.and_eq_true, decide_eq_true_eq]
  rfl

theorem ackAged_cons {e : Nat × Nat} {rest : List (Nat × Nat)} (h : s.unacked x = e :: rest) :
    s.ackAged x = decide (e.2 + 1000 * s.fld (.HST_RING_IRQ x) F.HST_RING_IRQ_TIME < s.tim.tick) := by
  unfold State.ackAged
  rw [h]

theorem exec_ringNoticeTimeout (s : State) (x : Nat) : exec (.ringNoticeTimeout x) s = .next (if s.ackAged x then s.irqSettle else s) := rfl

/-- The notice condition of a ring reads as before while its registers and record do. -/
theorem ringNotice_settled (hx : x < 64) (s : State) : s.irqSettle.ringNotice x = s.ringNotice x := by
  obtain ⟨n1, n2, n3, n4, n5, n6, n7⟩ := ringNotSignal hx
  have hring : s.irqSettle.ring x = s.ring x := congrArg (sgetD · x freshRing) (irqSettle_rings s)
  have hsize : s.irqSettle.ringSize x = s.ringSize x := congrArg (2 ^ ·) (irqSettle_fld n1 s _)
  have hpast : ∀ i, s.irqSettle.pastAck x i = s.pastAck x i := fun i => by
    rw [State.pastAck, hsize, irqSettle_fld n5, State.pastAck]
  have hu : s.irqSettle.ringU x = s.ringU x := by
    rw [State.ringU, hpast, irqSettle_fld n3, State.ringU]
  have hun : s.irqSettle.unacked x = s.unacked x := by
    simp only [State.unacked, hring, hpast, hu]
  have htick : s.irqSettle.tim = s.tim := (congrArg State.tim (irqSettle_changes s).rest).trans rfl
  have hage : s.irqSettle.ackAged x = s.ackAged x := by
    simp only [State.ackAged, hun, irqSettle_fld n7, htick]
  simp only [State.ringNotice, irqSettle_fld n1, irqSettle_fld n6, irqSettle_fld n7, hu, hage]

/-- An old completion that ACK has not passed makes the ring's source's condition hold. -/
theorem irqCond_aged (hx : x < 64) {e : Nat × Nat} {rest : List (Nat × Nat)} (h : s.unacked x = e :: rest) (ha : s.ackAged x = true)
    (hen : s.fld (.HST_RING_CFG x) F.HST_RING_CFG_IRQ_EN = 1) (ht : s.fld (.HST_RING_IRQ x) F.HST_RING_IRQ_TIME ≠ 0) :
    s.irqSettle.irqCond (x % 32) = true := by
  obtain ⟨-, h1, h2⟩ := (mem_unacked s x e).mp (by rw [h]; exact List.mem_cons_self)
  have hU : 0 < s.ringU x := Nat.lt_of_lt_of_le h1 h2
  have hn : s.irqSettle.ringNotice x = true := by
    rw [ringNotice_settled hx]
    simp [State.ringNotice, hen, hU, ht, ha]
  rw [State.irqCond, if_pos (Nat.mod_lt _ (by decide)), Bool.or_eq_true]
  rcases Nat.lt_or_ge x 32 with h32 | h32
  · rw [Nat.mod_eq_of_lt h32]
    exact .inl hn
  · rw [show x % 32 + 32 = x by omega]
    exact .inr hn

theorem noticeTimes (s : State) (hx : x < 64) :
    let old (e : Nat × Nat) : Prop := e.2 + 1000 * s.fld (.HST_RING_IRQ x) F.HST_RING_IRQ_TIME < s.tim.tick
    (s.unacked x = [] → exec (.ringNoticeTimeout x) s = .next s) ∧
      (∀ e rest, s.unacked x = e :: rest → ¬ old e → exec (.ringNoticeTimeout x) s = .next s) ∧
      (∀ e rest, s.unacked x = e :: rest → old e → ∃ t, exec (.ringNoticeTimeout x) s = .next t ∧ t = s.irqSettle ∧
        Signals [] [] s t ∧ (s.fld (.HST_RING_CFG x) F.HST_RING_CFG_IRQ_EN = 1 →
          s.fld (.HST_RING_IRQ x) F.HST_RING_IRQ_TIME ≠ 0 → t.irqCond (x % 32) = true)) := by
  refine ⟨fun h => ?_, fun e rest h ho => ?_, fun e rest h ho => ?_⟩
  · have ha : s.ackAged x = false := by
      unfold State.ackAged
      rw [h]
    rw [exec_ringNoticeTimeout, ha]
    rfl
  · rw [exec_ringNoticeTimeout, ackAged_cons h, if_neg (by simpa using ho)]
  · have ha : s.ackAged x = true := (ackAged_cons h).trans (decide_eq_true ho)
    rw [exec_ringNoticeTimeout, if_pos ha]
    exact ⟨_, rfl, rfl, irqSettle_signals [] [] s, irqCond_aged hx h ha⟩

/-- Settles O54: EN written by `ringEnabled` and `ringDisabled`, the end of a stop by `ringStops`, failures by `ringFails`, notices by
`noticeTimes` and `mem_unacked`. -/
theorem ringControl : Obligations.RingControl := by
  unfold Obligations.RingControl
  refine ⟨fun s h x v hs he hx hp hv hst => ringEnabled hs he hx hp hv hst, fun s h x v hs hr hk he hx hp hv hst => ?_,
    fun s x hs hx hst => ringStops hx hs hst, fun s x err fr hs hr hk hx hst => ?_, fun s x hx => noticeTimes s hx, mem_unacked⟩
  · obtain ⟨t, h1, ⟨h2, h3, h4, h5⟩, h6⟩ := ringDisabled hs hr hk he hx hp hv hst
    exact ⟨t, h1, h2, h3, h4, h5, h6⟩
  · obtain ⟨t, h1, ⟨h2, h3, h4⟩, h5⟩ := ringFails hs hr hk hx hst err fr
    refine ⟨t, h1, h2, h3, ?_, h5⟩
    cases err <;> exact h4

end Sys2Proof
end

section
/-! PROOF. An end of interrupt on a stack that names no source of the device (R472, R478). -/
namespace Sys2Proof

open Sys2Proof.Machine

set_option Elab.async false

variable {s : State} {h tt i p : Nat} {val : Word} {rest : List (Nat × Nat)}

/-- What an end of interrupt for the source on top of the stack leaves. -/
def endOfInterrupt (s : State) (tt i : Nat) (rest : List (Nat × Nat)) : State :=
  let t := s.setFld (.HST_IRQ_SRC i) F.HST_IRQ_SRC_IN_SERVICE 0
  ({ t with irq := { t.irq with prios := sput [] t.irq.prios tt rest } }).irqSettle

theorem irqEoi_matching (hst : s.irqStack tt = (p, i) :: rest) (hv : F.HST_IRQ_EOI_SOURCE.get val = i) :
    s.irqEoi tt val = endOfInterrupt s tt i rest := by
  unfold State.irqEoi
  rw [hst]
  simp only [hv, if_true]
  rfl

theorem endOfInterrupt_boot (s : State) (tt i : Nat) (rest : List (Nat × Nat)) : (endOfInterrupt s tt i rest).boot = s.boot :=
  (congrArg State.boot (irqSettle_changes _).rest).trans rfl

theorem exec_irqEoi (he : ExpertWindow s h) (hp : Passes s h (.HST_IRQ_EOI tt) val) (hst : s.irqStack tt = (p, i) :: rest)
    (hv : F.HST_IRQ_EOI_SOURCE.get val = i) :
    exec (.irqEoi .window tt val) s = .next (endOfInterrupt (wrote s (.HST_IRQ_EOI tt) val) tt i rest) := by
  have hx : exec (.irqEoi .window tt val) s = .next (s.rowWriteReg .window (.HST_IRQ_EOI tt) val) := rfl
  have hstack : (wrote s (.HST_IRQ_EOI tt) val).irqStack tt = (p, i) :: rest := by
    rw [wrote_rest]
    exact hst
  have hw : (wrote s (.HST_IRQ_EOI tt) val).writeAction h (.HST_IRQ_EOI tt) (s.get (.HST_IRQ_EOI tt)) val =
      (wrote s (.HST_IRQ_EOI tt) val).irqEoi tt val := rfl
  rw [hx, rowWriteReg_expert he hp rfl nofun nofun rfl, hw, irqEoi_matching hstack hv]
  refine congrArg _ (takeReset_of_none ?_)
  rw [endOfInterrupt_boot]
  exact (wrote_resetReq s _ val).trans he.noReset

/-- The end of interrupt clears IN_SERVICE at the address of whatever number stood on the stack. -/
theorem endOfInterrupt_serves (hs : StoresCanonical s) (hi : ¬ signalAddr (Reg.HST_IRQ_SRC i).addr) :
    (endOfInterrupt s tt i rest).src i F.HST_IRQ_SRC_IN_SERVICE = 0 :=
  (congrArg F.HST_IRQ_SRC_IN_SERVICE.get (irqSettle_get _ _ hi)).trans (fld_setFld_lt (r := .HST_IRQ_SRC i) hs.regs (by decide) (by decide))

theorem exec_irqEoi_serves {t : State} (hs : StoresCanonical s) (he : ExpertWindow s h) (hp : Passes s h (.HST_IRQ_EOI tt) val)
    (hst : s.irqStack tt = (p, i) :: rest) (hv : F.HST_IRQ_EOI_SOURCE.get val = i) (hi : ¬ signalAddr (Reg.HST_IRQ_SRC i).addr)
    (hx : exec (.irqEoi .window tt val) s = .next t) : t.src i F.HST_IRQ_SRC_IN_SERVICE = 0 := by
  rw [exec_irqEoi he hp hst hv] at hx
  exact Host.Outcome.next.inj hx ▸ endOfInterrupt_serves (wrote_canonical hs (.HST_IRQ_EOI tt) val) hi

/-- The number 200 names no source of the device; its address is no register of the signals. -/
theorem source200_notSignal : ¬ signalAddr (Reg.HST_IRQ_SRC 200).addr := by
  rintro (h | ⟨j, k, hj, hk, h⟩ | ⟨i, hi, h⟩) <;> simp only [Reg.addr, addrOf] at h <;> omega

/-! ## Small states for counterexamples -/

/-- A device after start-up, its tick running and its oscillator qualified. -/
def running : State :=
  let s := (State.reset.setFld .STW_BOOT_STATUS F.STW_BOOT_STATUS_STEP 10).setFld .TIM_OSC_QUAL_STATUS F.TIM_OSC_QUAL_STATUS_STATE 3
  { s with boot := { s.boot with begun := true }, tim := { s.tim with ticking := true } }

/-- A running device whose window an Expert session of channel 0 holds, under HANDLE 5. -/
def expertRunning : State :=
  { running.setFld .HST_WIN_STATUS F.HST_WIN_STATUS_BOUND 1 with sessions := [(5, ⟨some 0, 0, 0, 3, 0, 0, none, none, ⟨0, 0, 0, 0⟩⟩)] }

theorem storesCanonical_iff (s : State) : StoresCanonical s ↔ ∀ b ∈ [skeysFrom none s.regs, skeysFrom none s.st0, skeysFrom none s.st1,
    skeysFrom none s.cnt, skeysFrom none s.frames, skeysFrom none s.reps, skeysFrom none s.sessions], b = true := by
  simp only [List.mem_cons, List.not_mem_nil, or_false, forall_eq_or_imp, forall_eq]
  exact ⟨fun ⟨h1, h2, h3, h4, h5, h6, h7⟩ => ⟨h1, h2, h3, h4, h5, h6, h7⟩, fun ⟨h1, h2, h3, h4, h5, h6, h7⟩ => ⟨h1, h2, h3, h4, h5, h6, h7⟩⟩

theorem framesInRange_of_isEmpty {s : State} (hf : s.frames.isEmpty = true) (hr : s.reps.isEmpty = true) : FramesInRange s := by
  rw [List.isEmpty_iff] at hf hr
  have hn : ∀ kv, kv ∉ s.frames := fun kv => hf ▸ List.not_mem_nil
  exact ⟨fun kv h => absurd h (hn kv), fun kv h => absurd h (hn kv), fun kv h => absurd h (hn kv), fun kv h => by simp [hr] at h⟩

/-- An Expert's window, target 7's stack naming the number 200, and a 1 where a source 200 would have IN_SERVICE. -/
def strayStack : State :=
  let s := expertRunning.setFld (.HST_IRQ_SRC 200) F.HST_IRQ_SRC_IN_SERVICE 1
  { s with irq := { s.irq with prios := [(7, [(15, 200)])] } }

theorem strayStack_window : ExpertWindow strayStack 5 where
  holder := ⟨⟨some 0, 0, 0, 3, 0, 0, none, none, ⟨0, 0, 0, 0⟩⟩, by decide +kernel, rfl⟩
  up := by decide +kernel
  live := by decide +kernel
  stewards := by decide +kernel
  noReset := by decide +kernel

/-- Refutes O57: an EOI on the stack of `strayStack` writes the word at the address of a source 200, which is none of the registers that
the statement lets an EOI change; the statement bounds the source on the stack by 128 only for what it says of the stack. -/
theorem not_interruptsNotify : ¬ Obligations.InterruptsNotify := by
  unfold Obligations.InterruptsNotify
  rintro ⟨-, ⟨-, -, heoi, -⟩⟩
  have hs : StoresCanonical strayStack := (storesCanonical_iff _).mpr (by decide +kernel)
  have hp : Passes strayStack 5 (.HST_IRQ_EOI 7) 200#32 := ⟨by decide +kernel, by decide +kernel⟩
  obtain ⟨t, hx, hsig, -⟩ := heoi strayStack 5 7 200#32 hs (by decide +kernel) strayStack_window (by decide) hp
  have h0 := exec_irqEoi_serves (p := 15) (rest := []) hs strayStack_window hp (by decide +kernel) (by decide) source200_notSignal hx
  have h1 : strayStack.src 200 F.HST_IRQ_SRC_IN_SERVICE = 1 := by decide +kernel
  have h2 := congrArg F.HST_IRQ_SRC_IN_SERVICE.get (hsig.regs (.HST_IRQ_SRC 200) source200_notSignal (by decide)).1
  exact absurd (h1.symm.trans (h2.symm.trans h0)) Nat.one_ne_zero

end Sys2Proof
end

section
/-! PROOF. A fault of a Wornan link where the store of time copies is not in its one form (R155). -/
namespace Sys2Proof

open Sys2Proof.Machine

set_option Elab.async false

/-- The link of chiplet 0 is UP, and the store of time copies lists the chiplet twice. -/
def copiesTwice : State :=
  let s := State.reset.setFld (.LNE_WRN_STATUS 0) F.LNE_WRN_STATUS_STATE 2
  { s with tim := { s.tim with copies := [(0, ⟨0, 0, 0⟩), (0, ⟨1, 0, 0⟩)] } }

theorem exec_wornanLinkFault (s : State) (c : Nat) : exec (.wornanLinkFault c) s = .next (if s.wornanUp c then s.linkFault c else s) := rfl

/-- Refutes O26: of the two entries of `copiesTwice` for chiplet 0 the fault unlists the first, and the second is found. The statement asks
for no copy afterwards, and does not ask that the store of copies has its one form. -/
theorem not_wornanLinks : ¬ Obligations.WornanLinks := by
  unfold Obligations.WornanLinks
  rintro ⟨-, -, hfault, -⟩
  have hs : StoresCanonical copiesTwice := (storesCanonical_iff _).mpr (by decide +kernel)
  have hr : FramesInRange copiesTwice := framesInRange_of_isEmpty (by decide +kernel) (by decide +kernel)
  have hup : copiesTwice.wornanUp 0 = true := by decide +kernel
  obtain ⟨t, hx, hf⟩ := ((hfault copiesTwice 0 hs hr (by decide)).2 hup).1
  obtain ⟨-, -, -, -, hnone, -⟩ := hf
  rw [exec_wornanLinkFault, if_pos hup] at hx
  rw [← Host.Outcome.next.inj hx] at hnone
  have hsome : sfind (copiesTwice.linkFault 0).tim.copies 0 = some ⟨1, 0, 0⟩ := by decide +kernel
  rw [hsome] at hnone
  cases hnone

end Sys2Proof
end

section
/-! PROOF. Which conditions stand raised after an event, an end and the end of a code; scrubs, self-tests, sensors and temperature limits
(R348, R440 to R442, R445, R446, R528). -/
namespace Sys2Proof

open Sys2Proof.Machine

set_option Elab.async false

variable {s u t : State} {rs : List Reg} {ids : List Nat} {code inst c i : Nat}

/-! ## Raised conditions -/

theorem occurred_raised_iff (s : State) (code inst : Nat) (x : Nat × Nat) :
    x ∈ (occurred s code inst).hlt.raised ↔ x ∈ s.hlt.raised ∨ evCondition code = true ∧ x = (code, inst) := by
  by_cases hc : evCondition code = true <;> by_cases hm : (code, inst) ∈ s.hlt.raised
  · have hr : (occurred s code inst).hlt.raised = s.hlt.raised := by
      simp only [occurred]
      rw [if_neg (by simpa [hc] using hm)]
      rfl
    rw [hr]
    exact ⟨.inl, fun h => h.elim id fun h => h.2 ▸ hm⟩
  · have hr : (occurred s code inst).hlt.raised = s.hlt.raised ++ [(code, inst)] := by
      simp only [occurred]
      rw [if_pos (by simpa [hc] using hm)]
      rfl
    simp [hr, hc]
  all_goals
    have hr : (occurred s code inst).hlt.raised = s.hlt.raised := by
      simp only [occurred]
      rw [if_neg (by simp [hc])]
      rfl
    simp [hr, hc]

theorem raised_event (s : State) (code inst d c i : Nat) :
    (s.event code inst d).raised c i = (s.raised c i || evCondition code && decide ((c, i) = (code, inst))) := by
  rw [Bool.eq_iff_iff, raised_iff, event_raised, occurred_raised_iff]
  simp [raised_iff]

theorem raised_raise (s : State) (code inst d c i : Nat) :
    (s.raise code inst d).raised c i = (s.raised c i || evCondition code && decide ((c, i) = (code, inst))) := by
  unfold State.raise
  split
  · next h =>
    cases he : decide ((c, i) = (code, inst)) with
    | false => simp
    | true =>
      obtain ⟨rfl, rfl⟩ := Prod.mk.inj (of_decide_eq_true he)
      simp [h]
  · exact raised_event ..

theorem raised_eventClear (s : State) (code inst c i : Nat) :
    (s.eventClear code inst).raised c i = (s.raised c i && decide ((c, i) ≠ (code, inst))) := by
  by_cases h : s.raised code inst = true
  · rw [Bool.eq_iff_iff, raised_iff, eventClear_raised h, Bool.and_eq_true, raised_iff, decide_eq_true_eq]
  · have he : s.eventClear code inst = s := if_neg h
    rw [he]
    cases hd : decide ((c, i) ≠ (code, inst)) with
    | true => simp
    | false =>
      obtain ⟨rfl, rfl⟩ := Prod.mk.inj (by simpa using hd)
      simpa using h

/-- Every instance of the code has ended. -/
theorem clearCode_ended (s : State) (code i : Nat) : (s.clearCode code).raised code i = false := by
  have key : ∀ (l : List (Nat × Nat)) (v : State), (∀ j, v.raised code j = true → (code, j) ∈ l) →
      (l.foldl (fun (v : State) x => v.eventClear code x.2) v).raised code i = false := by
    intro l
    induction l with
    | nil =>
      intro v hv
      exact Bool.eq_false_iff.mpr fun h => nomatch hv i h
    | cons x l ih =>
      intro v hv
      refine ih _ fun j hj => ?_
      rw [raised_eventClear, Bool.and_eq_true] at hj
      refine (List.mem_cons.mp (hv j hj.1)).resolve_left fun he => ?_
      have hne := of_decide_eq_true hj.2
      rw [← he] at hne
      exact hne rfl
  refine key _ s fun j hj => List.mem_filter.mpr ⟨(raised_iff s code j).mp hj, by simp⟩

theorem clearCode_raised_ne (s : State) (h : c ≠ code) (i : Nat) : (s.clearCode code).raised c i = s.raised c i :=
  foldl_keeps (P := fun v : State => v.raised c i = s.raised c i) _ _ rfl fun v x _ hv => by
    rw [raised_eventClear, hv]
    simp [h]

theorem Signals.event (h : Signals rs ids s u) (hc : code < 256) (i d : Nat) : Signals rs ids s (u.event code i d) := signalProof.event h hc i d
theorem Signals.raise (h : Signals rs ids s u) (hc : code < 256) (i d : Nat) : Signals rs ids s (u.raise code i d) := signalProof.raise h hc i d
theorem Signals.eventClear (h : Signals rs ids s u) (code i : Nat) : Signals rs ids s (u.eventClear code i) := signalProof.eventClear h code i
theorem Signals.clearCode (h : Signals rs ids s u) (code : Nat) : Signals rs ids s (u.clearCode code) :=
  foldl_keeps (P := Signals rs ids s) _ _ h fun _ _ _ hv => hv.eventClear ..
theorem Signals.hlt (h : Signals rs ids s u) (x : Hlt) : Signals rs ids s { u with hlt := x } := signalProof.hlt _ x h

theorem StoresCanonical.event (h : StoresCanonical u) (code i d : Nat) : StoresCanonical (u.event code i d) := (Evolves.refl.event ..).stores h
theorem StoresCanonical.raise (h : StoresCanonical u) (code i d : Nat) : StoresCanonical (u.raise code i d) := (Evolves.refl.raise ..).stores h

/-! ## The stewards' states (R420) -/

/-- Whether a field of STW_PAIR_STATUS lies within the word and beside another. -/
theorem stwFld_in (w : Nat) : (stwFld w).lo + (stwFld w).w ≤ 32 := by
  unfold stwFld
  split <;> decide

theorem stwFld_apart (w : Nat) : (stwFld w).apart F.STW_PAIR_STATUS_STANDBY_OK = true ∧ (stwFld w).apart F.STW_PAIR_STATUS_ACTIVE = true ∧
    F.STW_PAIR_STATUS_STANDBY_OK.apart (stwFld w) = true ∧ F.STW_PAIR_STATUS_ACTIVE.apart (stwFld w) = true := by
  unfold stwFld
  split <;> decide

theorem setPair_state (hs : s.regsOk) (w : Nat) {v : Nat} (hv : v < 4) : (s.setPair (stwFld w) v).pairFld (stwFld w) = v :=
  fld_setFld_lt hs (stwFld_in w) (by unfold stwFld; split <;> exact hv)

/-- A steward's state is put: which one is active and whether the standby is ready stay. -/
theorem setPair_state_leaves (hs : s.regsOk) (w v : Nat) :
    (s.setPair (stwFld w) v).activeStw = s.activeStw ∧ (s.setPair (stwFld w) v).standbyOk = s.standbyOk := by
  obtain ⟨h1, h2, _, _⟩ := stwFld_apart w
  exact ⟨fld_setFld_beside hs h2 (by decide), congrArg (· == 1) (fld_setFld_beside hs h1 (by decide))⟩

theorem setPair_ok_leaves (hs : s.regsOk) (v : Nat) : (s.setPair F.STW_PAIR_STATUS_STANDBY_OK v).activeStw = s.activeStw ∧
    ∀ w, (s.setPair F.STW_PAIR_STATUS_STANDBY_OK v).pairFld (stwFld w) = s.pairFld (stwFld w) :=
  ⟨fld_setFld_beside hs (by decide) (by decide), fun w => fld_setFld_beside hs (stwFld_apart w).2.2.1 (stwFld_in w)⟩

theorem setPair_ok (hs : s.regsOk) {v : Nat} (hv : v < 2) : (s.setPair F.STW_PAIR_STATUS_STANDBY_OK v).standbyOk = (v == 1) :=
  congrArg (· == 1) (fld_setFld_lt hs (by decide) hv)

/-- A steward takes a state, and STANDBY_OK falls. -/
theorem standbyFalls (hs : s.regsOk) (w : Nat) {v : Nat} (hv : v < 4) :
    let t := (s.setPair (stwFld w) v).setStandbyOk false
    Writes [.STW_PAIR_STATUS] [] s t ∧ t.activeStw = s.activeStw ∧ t.pairFld (stwFld w) = v ∧ t.standbyOk = false := by
  intro t
  have h1 : (s.setPair (stwFld w) v).regsOk := regsOk_setFld hs
  obtain ⟨ha, hp⟩ := setPair_ok_leaves h1 0
  exact ⟨(Writes.refl.setFld (by simp) _ _).setFld (by simp) _ _, ha.trans (setPair_state_leaves hs w v).1,
    (hp w).trans (setPair_state hs w hv), setPair_ok h1 (by decide)⟩

/-! ## Sensors (R440, R446) -/

theorem temp_indexOk (hi : i < 32) : (Reg.HLT_TEMP i).indexOk = true := by simpa [Reg.indexOk] using hi

theorem temp_not_signal (hi : i < 32) : ¬ signalAddr (Reg.HLT_TEMP i).addr := not_signalAddr (temp_indexOk hi) nofun nofun nofun

/-- Nothing that a temperature rule reads has changed. -/
def SensorsKept (s t : State) : Prop := ∀ j < 32, t.get (.HLT_TEMP j) = s.get (.HLT_TEMP j)

theorem Signals.sensorsKept (h : Signals [] ids s t) : SensorsKept s t := fun _ hj => (h.regs _ (temp_not_signal hj) nofun).1

theorem SensorsKept.tempOf (h : SensorsKept s t) (hi : i < 32) : t.tempOf i = s.tempOf i := congrArg _ (h i hi)
theorem SensorsKept.valid (h : SensorsKept s t) (hi : i < 32) : t.fld (.HLT_TEMP i) F.HLT_TEMP_VALID = s.fld (.HLT_TEMP i) F.HLT_TEMP_VALID :=
  congrArg _ (h i hi)

theorem tempRule_raises (limit : Nat) (hv : s.fld (.HLT_TEMP i) F.HLT_TEMP_VALID = 1) (h : (limit * 8 : Int) ≤ s.tempOf i) :
    s.tempRule code limit i = s.raise code i (s.tempOf i % 2 ^ 32).toNat := by
  unfold State.tempRule
  refine if_pos ?_
  simp only [hv, beq_self_eq_true, Bool.true_and, decide_eq_true_eq]
  push_cast
  omega

theorem not_tempRaises (limit : Nat) (h : s.fld (.HLT_TEMP i) F.HLT_TEMP_VALID ≠ 1 ∨ s.tempOf i < (limit * 8 : Int)) :
    ¬ ((s.fld (.HLT_TEMP i) F.HLT_TEMP_VALID == 1 && decide (((8 * limit : Nat) : Int) ≤ s.tempOf i)) = true) := by
  rw [Bool.and_eq_true, beq_iff_eq, decide_eq_true_eq]
  push_cast
  omega

theorem tempRule_clears (limit : Nat) (hi : i < 32) (h : ∀ j, j < 32 → s.fld (.HLT_TEMP j) F.HLT_TEMP_VALID = 1 → s.tempOf j ≤ (limit * 8 : Int) - 40) :
    s.tempRule code limit i = s.clearCode code := by
  unfold State.tempRule
  refine (if_neg (not_tempRaises limit ?_)).trans (if_pos ?_)
  · by_cases hv : s.fld (.HLT_TEMP i) F.HLT_TEMP_VALID = 1
    · have := h i hi hv
      omega
    · exact .inl hv
  · simp only [List.all_eq_true, List.mem_range, Bool.or_eq_true, Bool.not_eq_true', decide_eq_true_eq, beq_eq_false_iff_ne, ne_eq]
    intro j hj
    by_cases hv : s.fld (.HLT_TEMP j) F.HLT_TEMP_VALID = 1
    · have := h j hj hv
      push_cast
      omega
    · exact .inl hv

theorem tempRule_keeps (limit : Nat) (h1 : s.fld (.HLT_TEMP i) F.HLT_TEMP_VALID ≠ 1 ∨ s.tempOf i < (limit * 8 : Int))
    (h2 : ∃ j, j < 32 ∧ s.fld (.HLT_TEMP j) F.HLT_TEMP_VALID = 1 ∧ (limit * 8 : Int) - 40 < s.tempOf j) :
    s.tempRule code limit i = s := by
  unfold State.tempRule
  refine (if_neg (not_tempRaises limit h1)).trans (if_neg fun h => ?_)
  obtain ⟨j, hj, hv, hlt⟩ := h2
  have := (List.all_eq_true.mp h) j (List.mem_range.mpr hj)
  simp only [hv, Bool.or_eq_true, Bool.not_eq_true', decide_eq_true_eq, beq_self_eq_true, Bool.true_eq_false, false_or] at this
  push_cast at this
  omega

theorem tempRule_signals (s : State) (hc : code < 256) (limit i : Nat) : Signals [] [] s (s.tempRule code limit i) := by
  unfold State.tempRule
  exact keep_ite (Signals.refl.raise hc ..) (keep_ite (Signals.refl.clearCode _) .refl)

theorem tempRule_raised_ne (s : State) (h : c ≠ code) (limit i j : Nat) : (s.tempRule code limit i).raised c j = s.raised c j := by
  unfold State.tempRule
  refine keep_ite (P := fun v : State => v.raised c j = s.raised c j) ?_
    (keep_ite (P := fun v : State => v.raised c j = s.raised c j) (clearCode_raised_ne s h j) rfl)
  rw [raised_raise]
  simp [h]

/-- What one code's rule does with the instances that stand raised (R446). -/
theorem tempRule_raised (limit : Nat) (hi : i < 32) (hc : evCondition code = true) :
    let valid (j : Nat) : Prop := s.fld (.HLT_TEMP j) F.HLT_TEMP_VALID = 1
    let t := s.tempRule code limit i
    (valid i → (limit * 8 : Int) ≤ s.tempOf i → t.raised code i = true) ∧
    ((∀ j, j < 32 → valid j → s.tempOf j ≤ (limit * 8 : Int) - 40) → ∀ j, t.raised code j = false) ∧
    (¬ valid i ∨ s.tempOf i < (limit * 8 : Int) → (∃ j, j < 32 ∧ valid j ∧ (limit * 8 : Int) - 40 < s.tempOf j) →
      ∀ j, t.raised code j = s.raised code j) := by
  intro valid t
  refine ⟨fun hv h => ?_, fun h j => ?_, fun h1 h2 j => ?_⟩
  · rw [show t = _ from tempRule_raises limit hv h]
    exact raise_raised hc _
  · rw [show t = _ from tempRule_clears limit hi h]
    exact clearCode_ended s code j
  · rw [show t = _ from tempRule_keeps limit h1 h2]

/-- Twelve bits hold the reading in two's complement. -/
theorem sget_of_get {f : Fld} {w : Word} {e : Int} (hf : f.w = 12) (h : f.get w = (e % 4096).toNat) (h1 : -2048 ≤ e) (h2 : e < 2048) : f.sget w = e := by
  unfold Fld.sget
  simp only [h, hf]
  split <;> omega

/-- The reading of a sensor is put. -/
def readingPut (s : State) (i : Nat) (e : Int) : State := s.setFld (.HLT_TEMP i) F.HLT_TEMP_TEMP (e % 4096).toNat

theorem readingPut_tempOf (hs : s.regsOk) {e : Int} (h1 : -2048 ≤ e) (h2 : e < 2048) : (readingPut s i e).tempOf i = e :=
  sget_of_get rfl (fld_setFld_lt hs (by decide) (by change (e % 4096).toNat < 4096; omega)) h1 h2

theorem readingPut_tempOf_ne {j : Nat} (hi : i < 32) (hj : j < 32) (h : j ≠ i) (e : Int) : (readingPut s i e).tempOf j = s.tempOf j :=
  congrArg _ (get_setFld_off (temp_indexOk hi) (temp_indexOk hj) (by simpa using Ne.symm h))

theorem readingPut_valid (hs : s.regsOk) {j : Nat} (hi : i < 32) (hj : j < 32) (e : Int) :
    (readingPut s i e).fld (.HLT_TEMP j) F.HLT_TEMP_VALID = s.fld (.HLT_TEMP j) F.HLT_TEMP_VALID := by
  by_cases h : j = i
  · subst h
    exact fld_setFld_beside hs (by decide) (by decide)
  · exact fld_setFld_off (temp_indexOk hi) (temp_indexOk hj) (by simpa using Ne.symm h)

theorem readingPut_cfg (hi : i < 32) (e : Int) (f : Fld) : (readingPut s i e).fld .HLT_TEMP_CFG f = s.fld .HLT_TEMP_CFG f :=
  fld_setFld_off (temp_indexOk hi) rfl nofun

/-- The two rules after a reading (R446). -/
def tempRuled (s : State) (i : Nat) (e : Int) : State :=
  ((readingPut s i e).tempRule Ev.tempHigh (s.fld .HLT_TEMP_CFG F.HLT_TEMP_CFG_WARN) i).tempRule Ev.tempCrit
    (s.fld .HLT_TEMP_CFG F.HLT_TEMP_CFG_CRIT) i

theorem exec_tempReading (hi : i < 32) (e : Int) : exec (.tempReading i e) s = .next (tempRuled s i e) := by
  have hx : exec (.tempReading i e) s = execTempReading i e s := rfl
  rw [hx, execTempReading, if_neg (by omega), tempRuled, ← readingPut_cfg hi e F.HLT_TEMP_CFG_WARN, ← readingPut_cfg hi e F.HLT_TEMP_CFG_CRIT]
  rfl

theorem tempCrit_pins (hr : s.raised Ev.tempCrit i = true) (hp : s.pinsHeld = false) (hh : s.boot.scanHold = false) :
    s.tempNLow = true ∧ s.faultNLow = true := by
  have hm := (raised_iff ..).mp hr
  refine ⟨?_, ?_⟩
  · unfold State.tempNLow
    rw [if_neg (by simp [hh]), hp]
    exact List.any_eq_true.mpr ⟨_, hm, rfl⟩
  · have hpos : 0 < (s.hlt.raised.filter fun e => evSeverity e.1 == 2).length :=
      List.length_pos_of_mem (List.mem_filter.mpr ⟨hm, rfl⟩)
    have hne : F.HLT_HEALTH_STATUS_FAULT_ACTIVE.get s.healthStatus ≠ 0 := by
      rw [(healthStatus_counts s).2]
      omega
    unfold State.faultNLow
    rw [if_neg (by simp [hh]), hp]
    simp [hne]

theorem signals_pinsHeld (h : Signals rs ids s t) (hr : ∀ r ∈ rs, Reg.STW_BOOT_STATUS.addr ≠ r.addr) :
    t.pinsHeld = s.pinsHeld ∧ t.boot.scanHold = s.boot.scanHold := by
  have hb : t.boot = s.boot := (congrArg State.boot h.rest).trans rfl
  have hf : t.fld .STW_BOOT_STATUS F.STW_BOOT_STATUS_STEP = s.fld .STW_BOOT_STATUS F.STW_BOOT_STATUS_STEP :=
    h.fld (q := .STW_BOOT_STATUS) (not_signalAddr rfl nofun nofun nofun) hr _
  have hstep : t.stepTwoDone = s.stepTwoDone := by rw [State.stepTwoDone, State.stepTwoDone, hb, State.bootStep, State.bootStep, hf]
  exact ⟨by rw [State.pinsHeld, State.pinsHeld, hb, hstep], by rw [hb]⟩


/-- What a reading leaves (R446). -/
theorem tempRuled_leaves (hs : StoresCanonical s) (hi : i < 32) {e : Int} (h1 : -2048 ≤ e) (h2 : e < 2048) :
    let warn := s.fld .HLT_TEMP_CFG F.HLT_TEMP_CFG_WARN
    let crit := s.fld .HLT_TEMP_CFG F.HLT_TEMP_CFG_CRIT
    let valid (j : Nat) : Prop := s.fld (.HLT_TEMP j) F.HLT_TEMP_VALID = 1
    let t := tempRuled s i e
    t.tempOf i = e ∧ (∀ j, j < 32 → j ≠ i → t.tempOf j = s.tempOf j) ∧ Signals [.HLT_TEMP i] [] s t ∧
      (valid i → (warn * 8 : Int) ≤ e → t.raised Ev.tempHigh i = true) ∧
      (valid i → (crit * 8 : Int) ≤ e → t.raised Ev.tempCrit i = true ∧
        (s.pinsHeld = false → s.boot.scanHold = false → t.tempNLow = true ∧ t.faultNLow = true)) ∧
      ((∀ j, j < 32 → valid j → t.tempOf j ≤ (warn * 8 : Int) - 40) → ∀ j, t.raised Ev.tempHigh j = false) ∧
      ((∀ j, j < 32 → valid j → t.tempOf j ≤ (crit * 8 : Int) - 40) → ∀ j, t.raised Ev.tempCrit j = false) ∧
      (¬ valid i ∨ e < (warn * 8 : Int) → (∃ j, j < 32 ∧ valid j ∧ (warn * 8 : Int) - 40 < t.tempOf j) →
        ∀ j, t.raised Ev.tempHigh j = s.raised Ev.tempHigh j) ∧
      (¬ valid i ∨ e < (crit * 8 : Int) → (∃ j, j < 32 ∧ valid j ∧ (crit * 8 : Int) - 40 < t.tempOf j) →
        ∀ j, t.raised Ev.tempCrit j = s.raised Ev.tempCrit j) := by
  intro warn crit valid t
  let u := readingPut s i e
  let v := u.tempRule Ev.tempHigh warn i
  have hv : Signals [] [] u v := tempRule_signals u (by decide) ..
  have ht : Signals [] [] v t := tempRule_signals v (by decide) ..
  have hu : Signals [.HLT_TEMP i] [] s u := Signals.refl.setFld (by simp) _ _
  have hut : Signals [.HLT_TEMP i] [] s t :=
    keep_ite (Signals.raise (keep_ite (hu.raise (by decide) ..) (keep_ite (hu.clearCode _) hu)) (by decide) ..)
      (keep_ite (Signals.clearCode (keep_ite (hu.raise (by decide) ..) (keep_ite (hu.clearCode _) hu)) _)
        (keep_ite (hu.raise (by decide) ..) (keep_ite (hu.clearCode _) hu)))
  have hvalU {j : Nat} (hj : j < 32) : u.fld (.HLT_TEMP j) F.HLT_TEMP_VALID = s.fld (.HLT_TEMP j) F.HLT_TEMP_VALID := readingPut_valid hs.regs hi hj e
  have hvalV {j : Nat} (hj : j < 32) : v.fld (.HLT_TEMP j) F.HLT_TEMP_VALID = s.fld (.HLT_TEMP j) F.HLT_TEMP_VALID :=
    (hv.sensorsKept.valid hj).trans (hvalU hj)
  have htV {j : Nat} (hj : j < 32) : t.tempOf j = v.tempOf j := ht.sensorsKept.tempOf hj
  have htU {j : Nat} (hj : j < 32) : t.tempOf j = u.tempOf j := (htV hj).trans (hv.sensorsKept.tempOf hj)
  have hei : u.tempOf i = e := readingPut_tempOf hs.regs h1 h2
  have heiV : v.tempOf i = e := (hv.sensorsKept.tempOf hi).trans hei
  obtain ⟨hh1, hh2, hh3⟩ := tempRule_raised (s := u) (code := Ev.tempHigh) warn hi rfl
  obtain ⟨hc1, hc2, hc3⟩ := tempRule_raised (s := v) (code := Ev.tempCrit) crit hi rfl
  have hhigh (j : Nat) : t.raised Ev.tempHigh j = v.raised Ev.tempHigh j := tempRule_raised_ne v (by decide) ..
  have hcrit (j : Nat) : v.raised Ev.tempCrit j = s.raised Ev.tempCrit j := (tempRule_raised_ne u (by decide) ..).trans rfl
  simp only [hei, hvalU hi] at hh1 hh3
  simp only [heiV, hvalV hi] at hc1 hc3
  refine ⟨(htU hi).trans hei, fun j hj hne => (htU hj).trans (readingPut_tempOf_ne hi hj hne e), hut, fun hval hle => ?_, fun hval hle => ?_,
    fun hlow j => ?_, fun hlow j => ?_, fun hn ⟨k, hk, hkv, hkl⟩ j => ?_, fun hn ⟨k, hk, hkv, hkl⟩ j => ?_⟩
  · rw [hhigh]
    exact hh1 hval hle
  · have hr := hc1 hval hle
    obtain ⟨hp, hb⟩ := signals_pinsHeld hut fun r hm => List.mem_singleton.mp hm ▸ addr_ne (r := .HLT_TEMP i) rfl (temp_indexOk hi) nofun
    exact ⟨hr, fun hp' hb' => tempCrit_pins hr (hp.trans hp') (hb.trans hb')⟩
  · rw [hhigh]
    refine hh2 (fun k hk hkv => ?_) j
    rw [← htU hk]
    exact hlow k hk ((hvalU hk).symm.trans hkv)
  · refine hc2 (fun k hk hkv => ?_) j
    rw [← htV hk]
    exact hlow k hk ((hvalV hk).symm.trans hkv)
  · rw [hhigh]
    refine hh3 hn ⟨k, hk, (hvalU hk).trans hkv, ?_⟩ j
    rwa [← htU hk]
  · refine (hc3 hn ⟨k, hk, (hvalV hk).trans hkv, ?_⟩ j).trans (hcrit j)
    rwa [← htV hk]

/-! ## A sensor check (R440) -/

/-- One sensor's part of the check. -/
def sensorJudged (failed : List Nat) (s : State) (i : Nat) : State :=
  if failed.contains i then (s.setFld (.HLT_TEMP i) F.HLT_TEMP_VALID 0).event Ev.selftestFail (0xF0000000 + i) 0
  else s.setFld (.HLT_TEMP i) F.HLT_TEMP_VALID 1

/-- The first `n` sensors are checked. -/
def sensorsJudged (failed : List Nat) (s : State) (n : Nat) : State := (List.range n).foldl (sensorJudged failed) s

theorem sensorsJudged_succ (failed : List Nat) (s : State) (n : Nat) :
    sensorsJudged failed s (n + 1) = sensorJudged failed (sensorsJudged failed s n) n := by
  rw [sensorsJudged, List.range_succ, List.foldl_append]
  rfl

theorem sensorJudged_valid {failed : List Nat} (hs : s.regsOk) (hi : i < 32) :
    (sensorJudged failed s i).fld (.HLT_TEMP i) F.HLT_TEMP_VALID = (if i ∈ failed then 0 else 1) ∧ (sensorJudged failed s i).tempOf i = s.tempOf i := by
  have hget : ∀ v : Nat, F.HLT_TEMP_TEMP.sget ((s.setFld (.HLT_TEMP i) F.HLT_TEMP_VALID v).get (.HLT_TEMP i)) = s.tempOf i := fun v => by
    have hf : F.HLT_TEMP_TEMP.get ((s.setFld (.HLT_TEMP i) F.HLT_TEMP_VALID v).get (.HLT_TEMP i)) = F.HLT_TEMP_TEMP.get (s.get (.HLT_TEMP i)) :=
      fld_setFld_beside (g := F.HLT_TEMP_TEMP) hs (by decide) (by decide)
    rw [State.tempOf, Fld.sget, Fld.sget, hf]
  unfold sensorJudged
  by_cases h : i ∈ failed
  · have hk : SensorsKept (s.setFld (.HLT_TEMP i) F.HLT_TEMP_VALID 0) _ :=
      (Signals.refl.event (rs := []) (ids := []) (code := Ev.selftestFail) (by decide) (0xF0000000 + i) 0).sensorsKept
    rw [if_pos (by simpa using h), if_pos h]
    exact ⟨(hk.valid hi).trans (fld_setFld_lt hs (by decide) (by decide)), (hk.tempOf hi).trans (hget 0)⟩
  · rw [if_neg (by simpa using h), if_neg h]
    exact ⟨fld_setFld_lt hs (by decide) (by decide), hget 1⟩

theorem sensorJudged_signals (failed : List Nat) (s : State) (i : Nat) : Signals [.HLT_TEMP i] [] s (sensorJudged failed s i) :=
  keep_ite ((Signals.refl.setFld (by simp) _ _).event (by decide) _ _) (Signals.refl.setFld (by simp) _ _)

theorem sensorJudged_ne {failed : List Nat} {j : Nat} (hi : i < 32) (hj : j < 32) (h : j ≠ i) :
    (sensorJudged failed s i).get (.HLT_TEMP j) = s.get (.HLT_TEMP j) :=
  ((sensorJudged_signals failed s i).regs _ (temp_not_signal hj) (by simpa using addr_ne (temp_indexOk hj) (temp_indexOk hi) (by simpa using h))).1

theorem sensorJudged_canonical {failed : List Nat} (hs : StoresCanonical s) (i : Nat) : StoresCanonical (sensorJudged failed s i) :=
  keep_ite ((hs.setFld ..).event ..) (hs.setFld ..)

theorem sensorsJudged_canonical {failed : List Nat} (hs : StoresCanonical s) (n : Nat) : StoresCanonical (sensorsJudged failed s n) :=
  foldl_keeps _ _ hs fun _ _ _ h => sensorJudged_canonical h _

theorem sensorsJudged_signals (failed : List Nat) (s : State) {n : Nat} (hn : n ≤ 32) :
    Signals ((List.range 32).map Reg.HLT_TEMP) [] s (sensorsJudged failed s n) :=
  foldl_keeps (P := Signals ((List.range 32).map Reg.HLT_TEMP) [] s) _ _ .refl fun v j hj hv => by
    have hr : Reg.HLT_TEMP j ∈ (List.range 32).map Reg.HLT_TEMP :=
      List.mem_map_of_mem (List.mem_range.mpr (Nat.lt_of_lt_of_le (List.mem_range.mp hj) hn))
    exact keep_ite ((hv.setFld hr _ _).event (by decide) _ _) (hv.setFld hr _ _)

theorem sensorsJudged_sensor {failed : List Nat} (hs : StoresCanonical s) {n : Nat} (hn : n ≤ 32) {j : Nat} (hj : j < n) :
    (sensorsJudged failed s n).fld (.HLT_TEMP j) F.HLT_TEMP_VALID = (if j ∈ failed then 0 else 1) ∧ (sensorsJudged failed s n).tempOf j = s.tempOf j := by
  have hlater : ∀ m, m ≤ j → (sensorsJudged failed s m).get (.HLT_TEMP j) = s.get (.HLT_TEMP j) := fun m hm => by
    induction m with
    | zero => rfl
    | succ m ih =>
      rw [sensorsJudged_succ, sensorJudged_ne (by omega) (by omega) (by omega)]
      exact ih (by omega)
  induction n with
  | zero => omega
  | succ n ih =>
    rw [sensorsJudged_succ]
    by_cases hjn : j = n
    · subst hjn
      obtain ⟨h1, h2⟩ := sensorJudged_valid (failed := failed) (sensorsJudged_canonical hs j (failed := failed)).regs (show j < 32 by omega)
      exact ⟨h1, h2.trans (congrArg _ (hlater j (Nat.le_refl j)))⟩
    · have hk := sensorJudged_ne (s := sensorsJudged failed s n) (failed := failed) (show n < 32 by omega) (show j < 32 by omega) hjn
      obtain ⟨h1, h2⟩ := ih (by omega) (by omega)
      exact ⟨(congrArg _ hk).trans h1, (congrArg _ hk).trans h2⟩

/-- One failed sensor counts one occurrence. -/
theorem sensorsJudged_counted (hs : StoresCanonical s) {j n : Nat} (hn : n ≤ 32) (hj : j < 32) :
    (j < n → CountedOnce (C.events Ev.selftestFail) s (sensorsJudged [j] s n)) ∧ (n ≤ j → (sensorsJudged [j] s n).cnt = s.cnt) := by
  induction n with
  | zero => exact ⟨nofun, fun _ => rfl⟩
  | succ n ih =>
    obtain ⟨h1, h2⟩ := ih (by omega)
    rw [sensorsJudged_succ]
    by_cases hjn : j = n
    · subst hjn
      refine ⟨fun _ => ?_, fun h => absurd h (by omega)⟩
      have he : sensorJudged [j] (sensorsJudged [j] s j) j =
          ((sensorsJudged [j] s j).setFld (.HLT_TEMP j) F.HLT_TEMP_VALID 0).event Ev.selftestFail (0xF0000000 + j) 0 := if_pos (by simp)
      have hcnt : ∀ id, ((sensorsJudged [j] s j).setFld (.HLT_TEMP j) F.HLT_TEMP_VALID 0).counter id = s.counter id :=
        fun id => counter_of_cnt (h2 (Nat.le_refl j)) id
      have hc := event_countedOnce ((sensorsJudged_canonical (failed := [j]) hs j).setFld (.HLT_TEMP j) F.HLT_TEMP_VALID 0) Ev.selftestFail (0xF0000000 + j) 0
      rw [he]
      unfold CountedOnce at hc ⊢
      rwa [hcnt] at hc
    · have he : sensorJudged [j] (sensorsJudged [j] s n) n = (sensorsJudged [j] s n).setFld (.HLT_TEMP n) F.HLT_TEMP_VALID 1 :=
        if_neg (by simpa using Ne.symm hjn)
      rw [he]
      exact ⟨fun h => h1 (by omega), fun h => h2 (by omega)⟩

/-! ## A spare's self-test (R440) -/

theorem unitKey_inj {k k' i i' : Nat} (hi : i < 2 ^ 16) (hi' : i' < 2 ^ 16) (h : unitKey k i = unitKey k' i') : k = k' ∧ i = i' := by
  unfold unitKey at h
  omega

theorem unit_setUnit (hu : skeysFrom none s.hlt.units = true) {k i k' i' : Nat} (hi : i < 2 ^ 16) (hi' : i' < 2 ^ 16) (x : UnitSt) :
    (s.setUnit k i x).unit k' i' = if (k', i') = (k, i) then x else s.unit k' i' := by
  by_cases h : (k', i') = (k, i)
  · obtain ⟨rfl, rfl⟩ := Prod.mk.inj h
    rw [if_pos rfl]
    exact sgetD_sput_self _ _ _ _ hu
  · rw [if_neg h]
    refine sgetD_sput_ne _ _ _ _ _ _ fun he => h ?_
    obtain ⟨rfl, rfl⟩ := unitKey_inj hi hi' he
    rfl

theorem event_units (s : State) (code inst d : Nat) : (s.event code inst d).hlt.units = s.hlt.units := by
  by_cases h : loggedLately s code inst
  · rw [event_of_lately h, occurred_rest]
  · rw [event_of_not_lately h, logEntry_hlt, occurred_rest]

theorem unit_of_units (h : t.hlt.units = s.hlt.units) (k i : Nat) : t.unit k i = s.unit k i := by rw [State.unit, h, State.unit]

/-- A spare, or a unit that awaits its return. -/
def watched (u : UnitSt) : Bool := u == .spare || u == .testing

/-- One failed unit is retired. -/
def spareFailed (s : State) (x : Nat × Nat) : State :=
  if s.unit x.1 x.2 == UnitSt.spare || s.unit x.1 x.2 == UnitSt.testing then (s.setUnit x.1 x.2 .retired).event Ev.selftestFail (unitInst x.1 x.2) 0 else s

theorem spareFailed_units (hu : skeysFrom none s.hlt.units = true) {x : Nat × Nat} (hx : x.2 < 2 ^ 16) :
    skeysFrom none (spareFailed s x).hlt.units = true ∧ ∀ k i, i < 2 ^ 16 → (spareFailed s x).unit k i =
      if (k, i) = x ∧ (s.unit k i = .spare ∨ s.unit k i = .testing) then .retired else s.unit k i := by
  unfold spareFailed
  by_cases h : (s.unit x.1 x.2 == UnitSt.spare || s.unit x.1 x.2 == UnitSt.testing) = true
  · rw [if_pos h]
    have hk : skeysFrom none (s.setUnit x.1 x.2 .retired).hlt.units = true := skeysFrom_sput _ _ _ _ hu
    refine ⟨by rwa [event_units], fun k i hi => ?_⟩
    rw [unit_of_units (event_units ..), unit_setUnit hu hx hi]
    by_cases hki : (k, i) = x
    · subst hki
      rw [if_pos rfl, if_pos ⟨rfl, by simpa using h⟩]
    · rw [if_neg hki, if_neg fun hc => hki hc.1]
  · rw [if_neg h]
    refine ⟨hu, fun k i _ => (if_neg fun ⟨hki, hc⟩ => h ?_).symm⟩
    subst hki
    simpa using hc

theorem sparesFailed_units (hu : skeysFrom none s.hlt.units = true) {failed : List (Nat × Nat)} (hf : ∀ x ∈ failed, x.2 < 2 ^ 16) :
    ∀ k i, i < 2 ^ 16 → (failed.foldl spareFailed s).unit k i =
      if (k, i) ∈ failed ∧ (s.unit k i = .spare ∨ s.unit k i = .testing) then .retired else s.unit k i := by
  induction failed generalizing s with
  | nil => exact fun k i _ => (if_neg (by simp)).symm
  | cons x l ih =>
    intro k i hi
    obtain ⟨hk, h1⟩ := spareFailed_units hu (hf x (by simp))
    refine (ih hk (fun y hy => hf y (List.mem_cons_of_mem _ hy)) k i hi).trans ?_
    rw [h1 k i hi]
    by_cases hx : (k, i) = x <;> by_cases hl : (k, i) ∈ l <;> by_cases hw : s.unit k i = .spare ∨ s.unit k i = .testing <;> simp [hx, hl, hw]

theorem spareFailed_signals (h : Signals [] [] s u) (x : Nat × Nat) : Signals [] [] s (spareFailed u x) :=
  keep_ite ((h.hlt _).event (by decide) _ _) h

/-! ## The engine's standby (R348) -/

theorem engFld_in (e : Nat) : (engFld e).lo + (engFld e).w ≤ 32 ∧ (engFld e).w = 2 := by
  unfold engFld
  split <;> decide

theorem engFld_apart (e : Nat) : (engFld e).apart F.TIM_SAF_STATUS_STANDBY_OK = true ∧ (engFld e).apart F.TIM_SAF_STATUS_ACTIVE = true ∧
    F.TIM_SAF_STATUS_STANDBY_OK.apart (engFld e) = true := by
  unfold engFld
  split <;> decide

/-- The standby engine is out of service. -/
def engineOut (s : State) (e : Nat) : State :=
  { (s.setFld .TIM_SAF_STATUS (engFld e) 2).setFld .TIM_SAF_STATUS F.TIM_SAF_STATUS_STANDBY_OK 0 with tim := { s.tim with standby := none } }

theorem engineOut_fld (hs : s.regsOk) (e : Nat) : (engineOut s e).fld .TIM_SAF_STATUS (engFld e) = 2 ∧
    (engineOut s e).fld .TIM_SAF_STATUS F.TIM_SAF_STATUS_STANDBY_OK = 0 ∧
    (engineOut s e).fld .TIM_SAF_STATUS F.TIM_SAF_STATUS_ACTIVE = s.fld .TIM_SAF_STATUS F.TIM_SAF_STATUS_ACTIVE := by
  obtain ⟨h1, h2⟩ := engFld_in e
  obtain ⟨a1, a2, a3⟩ := engFld_apart e
  have hr : (s.setFld .TIM_SAF_STATUS (engFld e) 2).regsOk := regsOk_setFld hs
  exact ⟨(fld_setFld_beside hr a3 h1).trans (fld_setFld_lt hs h1 (by rw [h2]; decide)), fld_setFld_lt hr (by decide) (by decide),
    (fld_setFld_beside hr (by decide) (by decide)).trans (fld_setFld_beside hs a2 (by decide))⟩

theorem exec_engineStandbyFails (h1 : s.engineOn = true) (h2 : s.fld .TIM_SAF_STATUS (engFld (1 - s.fld .TIM_SAF_STATUS F.TIM_SAF_STATUS_ACTIVE)) = 1) :
    exec (.engineStandbySelftest false) s = .next ((engineOut s (1 - s.fld .TIM_SAF_STATUS F.TIM_SAF_STATUS_ACTIVE)).raise Ev.saffronSingle
      (1 - s.fld .TIM_SAF_STATUS F.TIM_SAF_STATUS_ACTIVE) 0) :=
  congrArg Host.Outcome.next (if_neg (by simp [h1, h2]))

/-- Settles O51: temperatures by `tempRuled_leaves`, sensors by `sensorsJudged_sensor`, spares by `sparesFailed_units`. -/
theorem scrubsTestsTemperatures : Obligations.ScrubsTestsTemperatures := by
  unfold Obligations.ScrubsTestsTemperatures
  refine ⟨⟨fun s => ⟨rfl, fun _ _ => rfl⟩, fun s hs => ?_, fun s failed hu hf => ?_, fun s => rfl, fun s hs h1 _ => ?_,
    fun s failed hs => ?_⟩, fun s i e hs hi h1 h2 => ⟨_, exec_tempReading hi e, tempRuled_leaves hs hi h1 h2⟩⟩
  · intro w h1 hc
    have hx : exec (.memoryScrub .standbyBad) s = .next (if s.pairFld (stwFld w) = 1 ∧ s.pair.cause.isNone then (s.setPair (stwFld w) 2).setStandbyOk false else s) := rfl
    exact ⟨_, hx.trans (congrArg Host.Outcome.next (if_pos ⟨h1, by simp [hc]⟩)), standbyFalls hs.regs w (by decide)⟩
  · have hx : exec (.spareSelftest failed) s = .next (if s.fld .HLT_HEALTH_CFG F.HLT_HEALTH_CFG_CAL_FREEZE = 1 then s else failed.foldl spareFailed s) := rfl
    refine ⟨_, hx, keep_ite .refl (foldl_keeps _ _ .refl fun _ _ _ h => spareFailed_signals h _), fun h => if_pos h, fun h k i hi => ?_⟩
    rw [if_neg (by omega)]
    exact sparesFailed_units hu hf k i hi
  · intro e h2
    obtain ⟨f1, f2, f3⟩ := engineOut_fld hs.regs e
    have hsig : Signals [] [] (engineOut s e) ((engineOut s e).raise Ev.saffronSingle e 0) := Signals.refl.raise (by decide) ..
    have hfld := hsig.fld (q := .TIM_SAF_STATUS) (not_signalAddr rfl nofun nofun nofun) nofun
    refine ⟨_, exec_engineStandbyFails h1 h2, (hfld _).trans f1, (hfld _).trans f2, raise_raised rfl _, (hfld _).trans f3, ?_⟩
    exact ((Signals.refl.setFld (by simp) _ _).setFld (by simp) _ _).raise (by decide) ..
  · have hx : exec (.sensorCheck failed) s = .next (sensorsJudged failed s 32) := rfl
    refine ⟨_, hx, sensorsJudged_signals failed s (Nat.le_refl _), fun i hi => sensorsJudged_sensor hs (Nat.le_refl _) hi, fun i hi hf => ?_⟩
    subst hf
    exact (sensorsJudged_counted hs (Nat.le_refl _) hi).1 hi

end Sys2Proof
end

section
/-! PROOF. The steward pair: give-ups, the loss of the steward, the take-over and what waits for it (R421 to R426, R440). -/
namespace Sys2Proof

open Sys2Proof.Machine

set_option Elab.async false

variable {s u v t : State} {c w h : Nat} {val : Word}

/-! ## STANDBY_OK (R420, R425) -/

theorem eventClear_cnt (s : State) (code i : Nat) : (s.eventClear code i).cnt = s.cnt := by
  unfold State.eventClear
  split
  · rw [logEntry_cnt]
  · rfl

theorem clearCode_cnt (s : State) (code : Nat) : (s.clearCode code).cnt = s.cnt :=
  foldl_keeps (P := fun v : State => v.cnt = s.cnt) _ _ rfl fun v _ _ hv => (eventClear_cnt v _ _).trans hv

theorem clearCode_pair (s : State) (code : Nat) (f : Fld) : (s.clearCode code).pairFld f = s.pairFld f :=
  ((Signals.refl (rs := []) (ids := [])).clearCode code).fld (q := .STW_PAIR_STATUS) (not_signalAddr rfl nofun nofun nofun) nofun f

theorem setStandbyOk_true (s : State) : s.setStandbyOk true = (s.setPair F.STW_PAIR_STATUS_STANDBY_OK 1).clearCode Ev.stewardSingle := rfl

/-- STANDBY_OK rises: the conditions STEWARD_SINGLE end. -/
theorem standbyReady (hs : s.regsOk) :
    let t := s.setStandbyOk true
    Signals [.STW_PAIR_STATUS] [] s t ∧ t.activeStw = s.activeStw ∧ (∀ w, t.pairFld (stwFld w) = s.pairFld (stwFld w)) ∧ t.standbyOk = true ∧
      t.cnt = s.cnt ∧ ∀ i, t.raised Ev.stewardSingle i = false := by
  intro t
  obtain ⟨ha, hp⟩ := setPair_ok_leaves hs 1
  exact ⟨(Signals.refl.setFld (by simp) _ _).clearCode _, (clearCode_pair ..).trans ha, fun w => (clearCode_pair ..).trans (hp w),
    (congrArg (· == 1) (clearCode_pair _ _ F.STW_PAIR_STATUS_STANDBY_OK)).trans (setPair_ok hs (by decide)), (clearCode_cnt ..).trans rfl,
    clearCode_ended _ _⟩

theorem setPair_state_ne (hs : s.regsOk) {a b : Nat} (ha : a < 2) (hb : b < 2) (h : a ≠ b) (v : Nat) :
    (s.setPair (stwFld a) v).pairFld (stwFld b) = s.pairFld (stwFld b) := by
  refine fld_setFld_beside hs ?_ (stwFld_in b)
  rcases (show a = 0 ∧ b = 1 ∨ a = 1 ∧ b = 0 by omega) with ⟨rfl, rfl⟩ | ⟨rfl, rfl⟩ <;> decide

theorem activeStw_lt (s : State) : s.activeStw < 2 := Fld.get_lt ..

/-! ## The take-over (R423) -/

/-- The other steward is active, and the take-over is counted. -/
def takenOver (s : State) (c : Nat) : State :=
  let u : State := { s with pair := { s.pair with cause := none } }
  (((u.setPair F.STW_PAIR_STATUS_ACTIVE (1 - s.activeStw)).setPair (stwFld (1 - s.activeStw)) 0).count C.handovers).event Ev.stewardHandover
    (1 - s.activeStw) c

/-- What becomes of the former active steward. -/
def formerGoes (s v : State) (c a : Nat) : State :=
  if c ≤ 1 then (v.setPair (stwFld a) 2).setStandbyOk false
  else if s.giveUps a < 3 then (v.setPair (stwFld a) 1).setStandbyOk true
  else (v.setPair (stwFld a) 3).setStandbyOk false

theorem giveUps_of {s t : State} (hA : t.pair.giveA = s.pair.giveA) (hB : t.pair.giveB = s.pair.giveB) (ht : t.tim.tick = s.tim.tick) (w : Nat) :
    t.giveUps w = s.giveUps w := by
  rw [State.giveUps, hA, hB, ht, State.giveUps]

/-- The state in which the take-over is signalled. -/
def overPut (s : State) : State :=
  ({ s with pair := { s.pair with cause := none } } : State).setPair F.STW_PAIR_STATUS_ACTIVE (1 - s.activeStw) |>.setPair (stwFld (1 - s.activeStw)) 0

theorem takenOver_rest (s : State) (c : Nat) : (takenOver s c).pair = { s.pair with cause := none } ∧ (takenOver s c).tim = s.tim := by
  have hr := event_rest ((overPut s).count C.handovers) (code := Ev.stewardHandover) (by decide) (1 - s.activeStw) c
  exact ⟨(congrArg State.pair hr).trans rfl, (congrArg State.tim hr).trans rfl⟩

theorem takeover_eq (h : s.pair.cause = some c) : s.takeover = formerGoes s (takenOver s c) c s.activeStw := by
  obtain ⟨hp, ht⟩ := takenOver_rest s c
  have hg : (takenOver s c).giveUps s.activeStw = s.giveUps s.activeStw :=
    giveUps_of (by rw [hp]) (by rw [hp]) (by rw [ht]) _
  rw [formerGoes, ← hg]
  simp only [State.takeover, h]
  rfl

theorem takenOver_leaves (hs : StoresCanonical s) (c : Nat) :
    let t := takenOver s c
    StoresCanonical t ∧ t.activeStw = 1 - s.activeStw ∧ t.pairFld (stwFld (1 - s.activeStw)) = 0 ∧ CountedOnce C.handovers s t ∧
      CountedOnce (C.events Ev.stewardHandover) s t ∧ Signals [.STW_PAIR_STATUS] [C.handovers] { s with pair := t.pair } t := by
  intro t
  let u : State := { s with pair := { s.pair with cause := none } }
  let w := overPut s
  have hu : StoresCanonical u := Evolves.refl.of_kept.stores hs
  have hu1 : StoresCanonical (u.setPair F.STW_PAIR_STATUS_ACTIVE (1 - s.activeStw)) := hu.setFld ..
  have hw : StoresCanonical w := hu1.setFld ..
  have hsig : Signals [] [] (w.count C.handovers) t := Signals.refl.event (by decide) ..
  have hfld := hsig.fld (q := .STW_PAIR_STATUS) (not_signalAddr rfl nofun nofun nofun) nofun
  have hc := event_counter (w.count C.handovers) (code := Ev.stewardHandover) (by decide) (1 - s.activeStw) c C.handovers (by decide)
  refine ⟨(hw.count _).event .., (hfld _).trans ?_, (hfld _).trans ?_, hc.trans (countedOnce_count hw C.handovers), ?_, ?_⟩
  · exact (setPair_state_leaves hu1.regs _ _).1.trans (fld_setFld_lt hu.regs (by decide) (by change 1 - s.activeStw < 2; omega))
  · exact setPair_state hu1.regs _ (by decide)
  · have he := event_countedOnce (hw.count C.handovers) Ev.stewardHandover (1 - s.activeStw) c
    rw [CountedOnce, State.counter_count_ne _ _ _ (by decide)] at he
    exact he
  · rw [show t.pair = u.pair from (takenOver_rest s c).1]
    exact (((Signals.refl.setFld (by simp) _ _).setFld (by simp) _ _).count (.inr (by simp))).event (by decide) ..

theorem Signals.trans {rs : List Reg} {ids : List Nat} (h : Signals rs ids s u) (h' : Signals rs ids u t) : Signals rs ids s t := by
  refine ⟨?_, fun q hn hq => ?_, fun id hn hi => (h'.cnts id hn hi).trans (h.cnts id hn hi)⟩
  · rw [h'.rest, h.rest]
  · obtain ⟨h1, h2⟩ := h'.regs q hn hq
    obtain ⟨h3, h4⟩ := h.regs q hn hq
    exact ⟨h1.trans h3, h2.trans h4⟩

theorem Signals.weaken {rs rs' : List Reg} {ids ids' : List Nat} (h : Signals rs ids s t) (hr : ∀ r ∈ rs, r ∈ rs') (hi : ∀ i ∈ ids, i ∈ ids') :
    Signals rs' ids' s t :=
  ⟨h.rest, fun q hn hq => h.regs q hn fun r hm => hq r (hr r hm), fun id hn hid => h.cnts id hn fun hm => hid (hi id hm)⟩

theorem Writes.signals {rs : List Reg} {ids : List Nat} (h : Writes rs ids s t) : Signals rs ids s t :=
  ⟨by rw [h.rest], fun q _ hq => h.regs q hq, fun id _ hi => h.cnts id hi⟩

/-- The former active steward takes its place. -/
theorem formerGoes_leaves (hv : StoresCanonical v) (s : State) {a : Nat} (ha : a < 2) (c : Nat) :
    let t := formerGoes s v c a
    t.activeStw = v.activeStw ∧ t.pairFld (stwFld (1 - a)) = v.pairFld (stwFld (1 - a)) ∧ Signals [.STW_PAIR_STATUS] [] v t ∧ t.cnt = v.cnt ∧
      (if c ≤ 1 then t.pairFld (stwFld a) = 2 ∧ t.standbyOk = false
       else if s.giveUps a < 3 then t.pairFld (stwFld a) = 1 ∧ t.standbyOk = true ∧ ∀ i, t.raised Ev.stewardSingle i = false
       else t.pairFld (stwFld a) = 3 ∧ t.standbyOk = false) := by
  intro t
  have hfall : ∀ {x}, x < 4 → let t := (v.setPair (stwFld a) x).setStandbyOk false
      t.activeStw = v.activeStw ∧ t.pairFld (stwFld (1 - a)) = v.pairFld (stwFld (1 - a)) ∧ Signals [.STW_PAIR_STATUS] [] v t ∧ t.cnt = v.cnt ∧
        t.pairFld (stwFld a) = x ∧ t.standbyOk = false := fun hx => by
    obtain ⟨h1, h2, h3, h4⟩ := standbyFalls hv.regs a hx
    exact ⟨h2, ((setPair_ok_leaves (regsOk_setFld hv.regs) 0).2 _).trans (setPair_state_ne hv.regs ha (by omega) (by omega) _), h1.signals, rfl, h3, h4⟩
  unfold t formerGoes
  split
  · exact hfall (by decide)
  · split
    · obtain ⟨h1, h2, h3, h4, h5, h6⟩ := standbyReady (s := v.setPair (stwFld a) 1) (regsOk_setFld hv.regs)
      exact ⟨h2.trans (setPair_state_leaves hv.regs a 1).1, (h3 _).trans (setPair_state_ne hv.regs ha (by omega) (by omega) _),
        (Signals.refl.setFld (by simp) _ _).trans h1, h5, (h3 a).trans (setPair_state hv.regs a (by decide)), h4, h6⟩
    · exact hfall (by decide)

theorem countedOnce_of_cnt {id : Nat} (h : CountedOnce id s u) (hc : t.cnt = u.cnt) : CountedOnce id s t :=
  (counter_of_cnt hc id).trans h

/-- STEWARD_TAKEOVER (R423). -/
theorem takeover_leaves (hs : StoresCanonical s) (h : s.pair.cause = some c) :
    let a := s.activeStw
    let t := s.takeover
    t.activeStw = 1 - a ∧ t.pairFld (stwFld (1 - a)) = 0 ∧ t.pair.cause = none ∧ (∀ w, t.giveUps w = s.giveUps w) ∧ CountedOnce C.handovers s t ∧
      CountedOnce (C.events Ev.stewardHandover) s t ∧ Signals [.STW_PAIR_STATUS] [C.handovers] { s with pair := t.pair } t ∧
      (if c ≤ 1 then t.pairFld (stwFld a) = 2 ∧ t.standbyOk = false
       else if s.giveUps a < 3 then t.pairFld (stwFld a) = 1 ∧ t.standbyOk = true ∧ ∀ i, t.raised Ev.stewardSingle i = false
       else t.pairFld (stwFld a) = 3 ∧ t.standbyOk = false) := by
  intro a t
  obtain ⟨hv, h1, h2, h3, h4, h5⟩ := takenOver_leaves hs c
  obtain ⟨g1, g2, g3, g4, g5⟩ := formerGoes_leaves hv s (activeStw_lt s) c
  obtain ⟨hp, ht⟩ := takenOver_rest s c
  rw [show t = _ from takeover_eq h]
  have hpair : (formerGoes s (takenOver s c) c s.activeStw).pair = (takenOver s c).pair := (congrArg State.pair g3.rest).trans rfl
  have htim : (formerGoes s (takenOver s c) c s.activeStw).tim = (takenOver s c).tim := (congrArg State.tim g3.rest).trans rfl
  refine ⟨g1.trans h1, g2.trans h2, ?_, fun w => ?_, countedOnce_of_cnt h3 g4, countedOnce_of_cnt h4 g4, ?_, g5⟩
  · rw [hpair, hp]
  · exact giveUps_of (by rw [hpair, hp]) (by rw [hpair, hp]) (by rw [htim, ht]) w
  · rw [hpair]
    exact h5.trans (g3.weaken (fun _ h => h) nofun)

/-! ## Give-ups (R422) -/

/-- The give-up of the active steward is noted. -/
def giveUpNoted (s : State) : State :=
  { s with pair := if s.activeStw = 0 then { s.pair with giveA := s.tim.tick :: s.pair.giveA } else { s.pair with giveB := s.tim.tick :: s.pair.giveB } }

/-- STEWARD_LOST begins. -/
def lostBegins (s : State) : State := ((giveUpNoted s).setPair F.STW_PAIR_STATUS_LOST 1).raise Ev.stewardLost 0 0

theorem giveUp_eq (hc : s.pair.cause = none) (hl : s.stewardLost = false) (cause : Nat) :
    s.giveUp cause = if s.standbyOk then { giveUpNoted s with pair := { (giveUpNoted s).pair with cause := some cause } }
      else (lostBegins s).answerLost := by
  unfold State.giveUp
  rw [if_neg (by simp [hc, hl])]
  rfl

theorem giveUpNoted_giveUps (s : State) : (giveUpNoted s).giveUps s.activeStw = s.giveUps s.activeStw + 1 ∧
    (giveUpNoted s).giveUps (1 - s.activeStw) = s.giveUps (1 - s.activeStw) := by
  have hlt := activeStw_lt s
  have hday : s.tim.tick - s.tim.tick < day := by rw [Nat.sub_self]; decide
  have hnew : ∀ l : List Nat, ((s.tim.tick :: l).filter fun t => decide (s.tim.tick - t < day)).length =
      (l.filter fun t => decide (s.tim.tick - t < day)).length + 1 := fun l => by
    rw [List.filter_cons, if_pos (decide_eq_true hday), List.length_cons]
  unfold State.giveUps giveUpNoted
  rcases (show s.activeStw = 0 ∨ s.activeStw = 1 by omega) with h | h <;> simp [h, hnew]

/-! ## Requests answered STATE (R426) -/

/-- The registers through which a channel is answered. -/
def mbxRegs : List Reg := (List.range 8).flatMap fun c => .HST_MBX_DOORBELL c :: (List.range 64).map (Reg.HST_MBX_RSP c)

theorem mem_mbxRegs {r : Reg} : r ∈ mbxRegs ↔ ∃ c < 8, r = .HST_MBX_DOORBELL c ∨ ∃ i < 64, r = .HST_MBX_RSP c i := by
  simp [mbxRegs, eq_comm]

theorem not_mbxRegs {q : Reg} (hq : q.indexOk = true) (h1 : ∀ c, q ≠ .HST_MBX_DOORBELL c) (h2 : ∀ c i, q ≠ .HST_MBX_RSP c i) :
    ∀ r ∈ mbxRegs, q.addr ≠ r.addr := by
  intro r hr
  obtain ⟨c, hc, rfl | ⟨i, hi, rfl⟩⟩ := mem_mbxRegs.mp hr
  · exact addr_ne hq (doorbell_indexOk hc) (h1 c)
  · exact addr_ne hq (rsp_indexOk hc hi) (h2 c i)

/-- The channels of a list are answered STATE one after another. -/
def refuseAll (l : List Nat) (s : State) : State := l.foldl (fun (s : State) c => s.respond (.mbx c) Stat.state 0 []) s

/-- A channel shows the answer STATE. -/
def ShowsState (s : State) (c : Nat) : Prop :=
  s.fld (.HST_MBX_DOORBELL c) F.HST_MBX_DOORBELL_GO = 0 ∧ s.fld (.HST_MBX_DOORBELL c) F.HST_MBX_DOORBELL_DONE = 1 ∧
    s.get (.HST_MBX_RSP c 0) = BitVec.ofNat 32 Stat.state

/-- The registers of a channel that show an answer stay. -/
def ChannelKept (s t : State) (c : Nat) : Prop :=
  t.get (.HST_MBX_DOORBELL c) = s.get (.HST_MBX_DOORBELL c) ∧ t.get (.HST_MBX_RSP c 0) = s.get (.HST_MBX_RSP c 0)

theorem ShowsState.kept {c : Nat} (h : ShowsState s c) (hk : ChannelKept s t c) : ShowsState t c := by
  obtain ⟨h1, h2, h3⟩ := h
  obtain ⟨k1, k2⟩ := hk
  exact ⟨(congrArg _ k1).trans h1, (congrArg _ k1).trans h2, k2.trans h3⟩

theorem refused_channel (hs : StoresCanonical s) {c : Nat} (hc : c < 8) :
    let t := s.respond (.mbx c) Stat.state 0 []
    Signals mbxRegs [] s t ∧ t.cnt = s.cnt ∧ t.hlt = s.hlt ∧ ShowsState t c ∧ ∀ k < 8, k ≠ c → ChannelKept s t k := by
  intro t
  obtain ⟨h1, h2, h3, h4, h5⟩ := respond_mbx_leaves hs (st := Stat.state) (d := 0) (payload := []) hc (by simp)
  have hhlt : t.hlt = s.hlt := by
    rw [show t = _ from respond_mbx c Stat.state 0 []]
    exact (congrArg State.hlt (irqRise_changes _ (show 32 + c < 128 by omega) _).rest).trans
      (foldl_keeps (P := fun v : State => v.hlt = s.hlt) _ _ rfl fun _ _ _ h => h)
  have hmem : ∀ r ∈ .HST_MBX_DOORBELL c :: (List.range (3 + ([] : List Word).length)).map (Reg.HST_MBX_RSP c), r ∈ mbxRegs := by
    intro r hr
    refine mem_mbxRegs.mpr ⟨c, hc, ?_⟩
    rcases List.mem_cons.mp hr with rfl | hr
    · exact .inl rfl
    · obtain ⟨i, hi, rfl⟩ := List.mem_map.mp hr
      exact .inr ⟨i, by have := List.mem_range.mp hi; simp at this; omega, rfl⟩
  refine ⟨h4.weaken hmem fun _ h => h, h5, hhlt, ⟨h2, h3, (h1 0 (by simp)).trans rfl⟩, fun k hk hne => ?_⟩
  have hoff : ∀ {q : Reg}, q.indexOk = true → (∀ j, q ≠ .HST_IRQ_SRC j) → (q ≠ .HLT_LOG_HEAD) → (∀ j m, q ≠ .HLT_LOG j m) →
      q ≠ .HST_MBX_DOORBELL c → (∀ i, q ≠ .HST_MBX_RSP c i) → t.get q = s.get q := by
    intro q hq n1 n2 n3 n4 n5
    refine (h4.regs q (not_signalAddr hq n2 n3 n1) fun r hr => ?_).1
    rcases List.mem_cons.mp hr with rfl | hr
    · exact addr_ne hq (doorbell_indexOk hc) n4
    · obtain ⟨i, hi, rfl⟩ := List.mem_map.mp hr
      exact addr_ne hq (rsp_indexOk hc (by have := List.mem_range.mp hi; simp at this; omega)) (n5 i)
  exact ⟨hoff (doorbell_indexOk hk) nofun nofun nofun (by simpa using hne) nofun,
    hoff (rsp_indexOk hk (by decide)) nofun nofun nofun nofun (fun i => by simp [hne])⟩

theorem refuseAll_leaves {l : List Nat} (hl : ∀ c ∈ l, c < 8) (hs : StoresCanonical s) :
    let t := refuseAll l s
    Signals mbxRegs [] s t ∧ t.cnt = s.cnt ∧ t.hlt = s.hlt ∧ (∀ c ∈ l, ShowsState t c) ∧ ∀ c < 8, c ∉ l → ChannelKept s t c := by
  induction l generalizing s with
  | nil => exact ⟨.refl, rfl, rfl, nofun, fun _ _ _ => ⟨rfl, rfl⟩⟩
  | cons x l ih =>
    intro t
    obtain ⟨h1, h2, h3, h4, h5⟩ := refused_channel hs (hl x (by simp))
    have hcan : StoresCanonical (s.respond (.mbx x) Stat.state 0 []) := (Evolves.refl.respond ..).stores hs
    obtain ⟨g1, g2, g3, g4, g5⟩ := ih (fun c hc => hl c (List.mem_cons_of_mem _ hc)) hcan
    refine ⟨h1.trans g1, g2.trans h2, g3.trans h3, fun c hc => ?_, fun c hc hn => ?_⟩
    · by_cases hcl : c ∈ l
      · exact g4 c hcl
      · obtain rfl : c = x := (List.mem_cons.mp hc).resolve_right hcl
        exact h4.kept (g5 c (hl c (by simp)) hcl)
    · simp only [List.mem_cons, not_or] at hn
      obtain ⟨k1, k2⟩ := h5 c hc hn.1
      obtain ⟨m1, m2⟩ := g5 c hc hn.2
      exact ⟨m1.trans k1, m2.trans k2⟩

/-- Only the service port's messages and the sessions' kept answers change. -/
def Talked (s t : State) : Prop := t = { s with mbx := t.mbx, sessions := t.sessions, out := t.out }

theorem requestDone_queue (src : Nat) (t : Word) (msg : List Word) :
    requestDone s src t msg = { s with mbx := (requestDone s src t msg).mbx } ∧ (requestDone s src t msg).mbx.queue = s.mbx.queue.drop 1 := by
  unfold requestDone
  extract_lets u
  split
  · split <;> exact ⟨rfl, rfl⟩
  · exact ⟨rfl, rfl⟩

theorem svcAnswer_talked (src : Nat) (h t : Word) (msg : List Word) :
    Talked s (s.svcAnswer src h t msg) ∧ (s.svcAnswer src h t msg).mbx.queue = s.mbx.queue.drop 1 := by
  obtain ⟨h1, h2⟩ := requestDone_queue (s := s) src t msg
  have h3 : s.svcAnswer src h t msg = { s with mbx := (s.svcAnswer src h t msg).mbx, sessions := (s.svcAnswer src h t msg).sessions, out := (s.svcAnswer src h t msg).out } := by
    rw [svcAnswer_eq, svcSend_rest, sessionKeeps_rest, h1]
  refine ⟨h3, ?_⟩
  rw [svcAnswer_eq, svcSend_rest, sessionKeeps_rest]
  exact h2

theorem Talked.held (h : Talked s t) : t.stewardHeld = s.stewardHeld := (congrArg State.stewardHeld h).trans rfl

theorem Talked.trans (h : Talked s u) (h' : Talked u t) : Talked s t := by
  unfold Talked at *
  rw [h', h]

theorem answerQueue_held (n : Nat) (h : s.stewardHeld = true) :
    Talked s (s.answerQueue n) ∧ (s.mbx.queue = [] → s.answerQueue n = s) ∧ (s.mbx.queue.length ≤ n → (s.answerQueue n).mbx.queue = []) := by
  induction n generalizing s with
  | zero => exact ⟨rfl, fun _ => rfl, fun hl => List.length_eq_zero_iff.mp (Nat.le_zero.mp hl)⟩
  | succ n ih =>
    cases hq : s.mbx.queue with
    | nil =>
      have he : s.answerQueue (n + 1) = s := by simp only [State.answerQueue, hq]
      rw [he]
      exact ⟨rfl, fun _ => rfl, fun _ => hq⟩
    | cons x rest =>
      obtain ⟨src, ws⟩ := x
      obtain ⟨ht, htq⟩ := svcAnswer_talked (s := s) src (ws.getD 1 0) (ws.getD 2 0) (response Stat.state 0 (ws.getD 1 0) (ws.getD 2 0) [])
      have he : s.answerQueue (n + 1) = (s.svcAnswer src (ws.getD 1 0) (ws.getD 2 0) (response Stat.state 0 (ws.getD 1 0) (ws.getD 2 0) [])).answerQueue n := by
        simp only [State.answerQueue, hq]
        exact congrArg (State.answerQueue · n) (svcDrain_held (ht.held.trans h) 16)
      obtain ⟨i1, _, i3⟩ := ih (ht.held.trans h)
      rw [he]
      refine ⟨ht.trans i1, nofun, fun hl => i3 ?_⟩
      rw [htq, hq]
      simpa using hl


/-- The requests whose answers are to come are owed none any more. -/
def paidOff (s : State) : State :=
  { s with jobs := s.jobs.map fun j => { j with reply := j.reply.paid }, flash := { s.flash with op := s.flash.op.map FlashOp.paid } }

/-- The channels on which a request stands. -/
def standing (s : State) : List Nat := (List.range 8).filter fun c => s.fld (.HST_MBX_DOORBELL c) F.HST_MBX_DOORBELL_GO == 1

theorem mem_standing {c : Nat} : c ∈ standing s ↔ c < 8 ∧ s.fld (.HST_MBX_DOORBELL c) F.HST_MBX_DOORBELL_GO = 1 := by
  simp [standing]

theorem answerLost_eq (s : State) : s.answerLost = (refuseAll (standing s) (paidOff s)).answerQueue 16 := rfl

theorem go_lt (s : State) (c : Nat) : s.fld (.HST_MBX_DOORBELL c) F.HST_MBX_DOORBELL_GO < 2 := Fld.get_lt ..

/-- Every request that stands is answered STATE (R426). -/
theorem answerLost_leaves (hs : StoresCanonical s) (h : s.stewardHeld = true) :
    let t := s.answerLost
    (∀ q : Reg, ¬ signalAddr q.addr → (∀ r ∈ mbxRegs, q.addr ≠ r.addr) → t.get q = s.get q) ∧ t.cnt = s.cnt ∧ t.hlt = s.hlt ∧ t.pair = s.pair ∧
      t.tim = s.tim ∧ (∀ c < 8, t.fld (.HST_MBX_DOORBELL c) F.HST_MBX_DOORBELL_GO = 0 ∧
        (s.fld (.HST_MBX_DOORBELL c) F.HST_MBX_DOORBELL_GO = 1 → ShowsState t c)) ∧
      (s.mbx.queue.length ≤ 16 → t.mbx.queue = []) ∧
      ((∀ c < 8, s.fld (.HST_MBX_DOORBELL c) F.HST_MBX_DOORBELL_GO = 0) → s.mbx.queue = [] → t = paidOff s) := by
  intro t
  have hp : StoresCanonical (paidOff s) := Evolves.refl.of_kept.stores hs
  obtain ⟨h1, h2, h3, h4, h5⟩ := refuseAll_leaves (l := standing s) (fun c hc => (mem_standing.mp hc).1) hp
  have hheld : (refuseAll (standing s) (paidOff s)).stewardHeld = true := by
    have hpair : (refuseAll (standing s) (paidOff s)).pair = s.pair := (congrArg State.pair h1.rest).trans rfl
    have hlost := h1.fld (q := .STW_PAIR_STATUS) (not_signalAddr rfl nofun nofun nofun) (not_mbxRegs rfl nofun nofun) F.STW_PAIR_STATUS_LOST
    rw [State.stewardHeld, hpair, State.stewardLost, hlost]
    exact h
  obtain ⟨q1, q2, q3⟩ := answerQueue_held 16 hheld
  have hreg : ∀ q : Reg, t.get q = (refuseAll (standing s) (paidOff s)).get q := fun q => (congrArg (State.get · q) q1).trans rfl
  have hmbx : (refuseAll (standing s) (paidOff s)).mbx = s.mbx := (congrArg State.mbx h1.rest).trans rfl
  have hshow : ∀ c, s.fld (.HST_MBX_DOORBELL c) F.HST_MBX_DOORBELL_GO = 1 → c < 8 → ShowsState t c := fun c hg hc =>
    (h4 c (mem_standing.mpr ⟨hc, hg⟩)).kept ⟨hreg _, hreg _⟩
  refine ⟨fun q n1 n2 => (hreg q).trans (h1.regs q n1 n2).1, (congrArg State.cnt q1).trans h2, (congrArg State.hlt q1).trans h3,
    (congrArg State.pair q1).trans ((congrArg State.pair h1.rest).trans rfl), (congrArg State.tim q1).trans ((congrArg State.tim h1.rest).trans rfl),
    fun c hc => ⟨?_, fun hg => hshow c hg hc⟩, fun hl => q3 (by rwa [hmbx]), fun hg hq => ?_⟩
  · have hlt := go_lt s c
    by_cases hg : s.fld (.HST_MBX_DOORBELL c) F.HST_MBX_DOORBELL_GO = 1
    · exact (hshow c hg hc).1
    · obtain ⟨k1, _⟩ := h5 c hc fun hm => hg (mem_standing.mp hm).2
      have hz : s.fld (.HST_MBX_DOORBELL c) F.HST_MBX_DOORBELL_GO = 0 := by omega
      exact (congrArg _ ((hreg _).trans k1)).trans hz
  · have hnil : standing s = [] := List.filter_eq_nil_iff.mpr fun c hc => by
      rw [hg c (List.mem_range.mp hc)]
      decide
    have he : t = (refuseAll (standing s) (paidOff s)).answerQueue 16 := answerLost_eq s
    rw [he, q2 (by rw [hmbx, hq]), hnil]
    rfl

/-! ## What a give-up leaves -/

theorem lostBegins_leaves (hs : StoresCanonical s) :
    let w := lostBegins s
    StoresCanonical w ∧ w.pair = (giveUpNoted s).pair ∧ w.tim = s.tim ∧ w.fld .STW_PAIR_STATUS F.STW_PAIR_STATUS_LOST = 1 ∧
      w.activeStw = s.activeStw ∧ (∀ k, w.pairFld (stwFld k) = s.pairFld (stwFld k)) ∧ w.raised Ev.stewardLost 0 = true ∧
      Signals [.STW_PAIR_STATUS] [] (giveUpNoted s) w ∧ (s.raised Ev.stewardLost 0 = false → CountedOnce (C.events Ev.stewardLost) s w) := by
  intro w
  have hn : StoresCanonical (giveUpNoted s) := Evolves.refl.of_kept.stores hs
  have hl : StoresCanonical ((giveUpNoted s).setPair F.STW_PAIR_STATUS_LOST 1) := hn.setFld ..
  have hsig : Signals [] [] ((giveUpNoted s).setPair F.STW_PAIR_STATUS_LOST 1) w := Signals.refl.raise (by decide) ..
  have hfld := hsig.fld (q := .STW_PAIR_STATUS) (not_signalAddr rfl nofun nofun nofun) nofun
  have hput : Signals [.STW_PAIR_STATUS] [] (giveUpNoted s) w := (Signals.refl.setFld (by simp) _ _).raise (by decide) ..
  refine ⟨hl.raise .., (congrArg State.pair hput.rest).trans rfl, (congrArg State.tim hput.rest).trans rfl, (hfld _).trans ?_, (hfld _).trans ?_,
    fun k => (hfld _).trans ?_, raise_raised rfl _, hput, fun hr => ?_⟩
  · exact fld_setFld_lt hn.regs (by decide) (by decide)
  · exact fld_setFld_beside hn.regs (by decide) (by decide)
  · refine fld_setFld_beside hn.regs ?_ (stwFld_in k)
    unfold stwFld
    split <;> decide
  · have he : w = ((giveUpNoted s).setPair F.STW_PAIR_STATUS_LOST 1).event Ev.stewardLost 0 0 := if_neg (by
      rw [Bool.not_eq_true]
      exact hr)
    rw [he]
    exact event_countedOnce hl ..

/-- A give-up (R422, R426). -/
theorem giveUp_leaves (hs : StoresCanonical s) (hc : s.pair.cause = none) (hl : s.fld .STW_PAIR_STATUS F.STW_PAIR_STATUS_LOST = 0) (cause : Nat) :
    let a := s.activeStw
    let t := s.giveUp cause
    t.giveUps a = s.giveUps a + 1 ∧ t.giveUps (1 - a) = s.giveUps (1 - a) ∧
      (s.standbyOk = true → t = { s with pair := t.pair } ∧ t.pair.cause = some cause) ∧
      (s.standbyOk = false → t.pair.cause = none ∧ t.fld .STW_PAIR_STATUS F.STW_PAIR_STATUS_LOST = 1 ∧
        t.raised Ev.stewardLost 0 = true ∧ t.activeStw = a ∧ (∀ w, t.pairFld (stwFld w) = s.pairFld (stwFld w)) ∧
        (∀ c, c < 8 → t.fld (.HST_MBX_DOORBELL c) F.HST_MBX_DOORBELL_GO = 0 ∧
          (s.fld (.HST_MBX_DOORBELL c) F.HST_MBX_DOORBELL_GO = 1 →
            t.get (.HST_MBX_RSP c 0) = BitVec.ofNat 32 Stat.state ∧ t.fld (.HST_MBX_DOORBELL c) F.HST_MBX_DOORBELL_DONE = 1)) ∧
        (s.mbx.queue.length ≤ 16 → t.mbx.queue = []) ∧
        ((∀ c, c < 8 → s.fld (.HST_MBX_DOORBELL c) F.HST_MBX_DOORBELL_GO = 0) → s.mbx.queue = [] →
          Signals [.STW_PAIR_STATUS] [] { s with pair := t.pair, jobs := t.jobs, flash := t.flash } t) ∧
        (s.raised Ev.stewardLost 0 = false → CountedOnce (C.events Ev.stewardLost) s t)) := by
  intro a t
  obtain ⟨n1, n2⟩ := giveUpNoted_giveUps s
  have ht : t = if s.standbyOk then { giveUpNoted s with pair := { (giveUpNoted s).pair with cause := some cause } } else (lostBegins s).answerLost :=
    giveUp_eq hc (by simp [State.stewardLost, hl]) cause
  by_cases hok : s.standbyOk = true
  · rw [if_pos hok] at ht
    rw [ht]
    exact ⟨n1, n2, fun _ => ⟨rfl, rfl⟩, fun h => absurd h (by simp [hok])⟩
  · obtain ⟨hw, w1, w2, w3, w4, w5, w6, w7, w8⟩ := lostBegins_leaves hs
    have hheld : (lostBegins s).stewardHeld = true := by simp [State.stewardHeld, State.stewardLost, w3]
    obtain ⟨r1, r2, r3, r4, r5, r6, r7, r8⟩ := answerLost_leaves hw hheld
    rw [if_neg hok] at ht
    rw [ht]
    have hpair : (lostBegins s).answerLost.pair = (giveUpNoted s).pair := r4.trans w1
    have htim : (lostBegins s).answerLost.tim = s.tim := r5.trans w2
    have hst : ∀ f, (lostBegins s).answerLost.fld .STW_PAIR_STATUS f = (lostBegins s).fld .STW_PAIR_STATUS f := fun f =>
      congrArg f.get (r1 _ (not_signalAddr rfl nofun nofun nofun) (not_mbxRegs rfl nofun nofun))
    have hgive : ∀ k, (lostBegins s).answerLost.giveUps k = (giveUpNoted s).giveUps k := fun k =>
      giveUps_of (by rw [hpair]) (by rw [hpair]) (by rw [htim]; rfl) k
    have hgo : ∀ c < 8, (lostBegins s).fld (.HST_MBX_DOORBELL c) F.HST_MBX_DOORBELL_GO = s.fld (.HST_MBX_DOORBELL c) F.HST_MBX_DOORBELL_GO := fun c hc8 =>
      w7.fld (q := .HST_MBX_DOORBELL c) (not_signalAddr (doorbell_indexOk hc8) nofun nofun nofun)
        (by simpa using addr_ne (q := .HST_MBX_DOORBELL c) (r := .STW_PAIR_STATUS) (doorbell_indexOk hc8) rfl nofun) _
    have hq : (lostBegins s).mbx = s.mbx := (congrArg State.mbx w7.rest).trans rfl
    refine ⟨(hgive a).trans n1, (hgive (1 - a)).trans n2, fun h => absurd h hok, fun _ => ⟨?_, (hst _).trans w3, ?_, (hst _).trans w4,
      fun k => (hst _).trans (w5 k), fun c hc8 => ⟨(r6 c hc8).1, fun hg => ?_⟩, fun hl16 => r7 (by rwa [hq]), fun hg hqn => ?_, fun hr => ?_⟩⟩
    · rw [hpair]
      unfold giveUpNoted
      split <;> exact hc
    · rw [State.raised, r3]
      exact w6
    · obtain ⟨_, g2, g3⟩ := (r6 c hc8).2 ((hgo c hc8).trans hg)
      exact ⟨g3, g2⟩
    · have he := r8 (fun c hc8 => (hgo c hc8).trans (hg c hc8)) (by rw [hq]; exact hqn)
      rw [he]
      have hsig := w7
      exact ⟨by rw [w7.rest]; rfl, w7.regs, w7.cnts⟩
    · exact countedOnce_of_cnt (w8 hr) r2

/-! ## Window accesses wait for the take-over (R424) -/

theorem not_openAddr {a : Nat} (h : ∀ r, decodeAddr a = some r → r.channel = false ∧ r.identity = false) : openAddr a = false := by
  unfold openAddr
  split
  · next r hr =>
    obtain ⟨h1, h2⟩ := h r hr
    rw [Reg.open', h1, h2]
    rfl
  · rfl

theorem readOut_awaits {a : Nat} (h2 : s.stepTwoDone = true) (hh : s.halted = false) (hc : s.pair.cause ≠ none) (hn : openAddr a = false) :
    s.readOut .window a = s.awaitStw a none := by
  unfold State.readOut
  refine if_pos ?_
  have hs : s.pair.cause.isSome = true := Option.isSome_iff_ne_none.mpr hc
  simp [h2, hh, hs, hn]

theorem pathWrite_awaits {a : Nat} (h2 : s.stepTwoDone = true) (hh : s.halted = false) (hl : s.stewardLost = false) (hc : s.pair.cause ≠ none)
    (hn : ∀ r, decodeAddr a = some r → r.channel = false ∧ r.identity = false) (v : Word) :
    s.pathWrite .window a v = s.awaitStw a (some v) := by
  have hs : s.pair.cause.isSome = true := Option.isSome_iff_ne_none.mpr hc
  unfold State.pathWrite
  rw [if_neg (by simp [h2, hh])]
  dsimp only
  rw [if_neg (by simp [hl]), if_pos hs]
  split
  · next r hr => exact if_neg (by simp [(hn r hr).1])
  · rfl

/-! ## Waiting work goes on (R423) -/

theorem resumeWork_idle (hj : s.jobs = []) (hq : s.mbx.queue = []) (hg : ∀ c, c < 8 → s.fld (.HST_MBX_DOORBELL c) F.HST_MBX_DOORBELL_GO = 0) :
    s.resumeWork = State.takeReset (s.pair.waiting.foldl (fun t x => match x.2 with
      | some w => t.pathWrite .window x.1 w
      | none => t.readOut .window x.1) { s with pair := { s.pair with waiting := [] } }) := by
  have hgo : State.goOn { s with pair := { s.pair with waiting := [] } } = { s with pair := { s.pair with waiting := [] } } := by
    simp only [State.goOn, hj]
  have hnil : ((List.range 8).filter fun c => s.fld (.HST_MBX_DOORBELL c) F.HST_MBX_DOORBELL_GO == 1 &&
      !State.awaiting { s with pair := { s.pair with waiting := [] } } (.mbx c)) = [] := List.filter_eq_nil_iff.mpr fun c hc => by
    rw [hg c (List.mem_range.mp hc)]
    simp
  have hdrain : State.svcDrain { s with pair := { s.pair with waiting := [] } } 16 = { s with pair := { s.pair with waiting := [] } } :=
    svcDrain_empty (s := { s with pair := { s.pair with waiting := [] } }) hq 16
  unfold State.resumeWork
  dsimp only
  rw [hgo]
  have hl : ∀ c, State.fld { s with pair := { s.pair with waiting := [] } } (.HST_MBX_DOORBELL c) F.HST_MBX_DOORBELL_GO =
    s.fld (.HST_MBX_DOORBELL c) F.HST_MBX_DOORBELL_GO := fun _ => rfl
  simp only [hl, hnil, List.foldl_nil, hdrain] <;> rfl

/-! ## A swap asked for (R425) -/

theorem exec_stewardSwap (he : ExpertWindow s h) (hp : Passes s h .STW_PAIR_CTL val) (hv : F.STW_PAIR_CTL_SWAP.get val = 1)
    (hb : (wrote s .STW_PAIR_CTL val).stewardSwap.boot.resetReq = none) :
    exec (.stewardSwap .window val) s = .next (wrote s .STW_PAIR_CTL val).stewardSwap := by
  have hx : exec (.stewardSwap .window val) s = execStewardSwap .window val s := rfl
  have hw : (wrote s .STW_PAIR_CTL val).writeAction h .STW_PAIR_CTL (s.get .STW_PAIR_CTL) val = (wrote s .STW_PAIR_CTL val).stewardSwap := if_pos hv
  rw [hx, execStewardSwap, if_pos (by simp [asks, hv]), rowWriteReg_expert he hp rfl nofun nofun rfl, hw, takeReset_of_none hb]

theorem wrote_pairLost (s : State) (v : Word) : (wrote s .STW_PAIR_CTL v).stewardLost = s.stewardLost := by
  have h : (wrote s .STW_PAIR_CTL v).get .STW_PAIR_STATUS = s.get .STW_PAIR_STATUS :=
    (wrote_keeps s .STW_PAIR_CTL v .STW_PAIR_STATUS (by simpa using addr_ne (q := .STW_PAIR_STATUS) (r := .STW_PAIR_CTL) rfl rfl nofun)).1
  rw [State.stewardLost, State.fld, h]
  rfl

/-- Settles O50: give-ups by `giveUp_leaves`, the take-over by `takeover_leaves`. -/
theorem stewardFailsOver : Obligations.StewardFailsOver := by
  unfold Obligations.StewardFailsOver
  refine ⟨⟨fun s c cause hs hc hl hrow => ?_, fun s h => ?_, fun s h v hs he hp hv => ?_⟩, fun s c hs hc => takeover_leaves hs hc,
    fun s offs htick hb => ?_, fun s a v h2 hh hl hc hn => ⟨?_, fun hr => ?_⟩, fun s hj hq hg => resumeWork_idle hj hq hg, fun s pass hs => ?_,
    fun s hs => ?_, fun s hs => ?_, fun s hs => ⟨fun hok => ?_, fun hok => ?_⟩⟩
  · have hx : exec c s = .next (s.giveUp cause) := by
      rcases hrow with ⟨rfl, rfl⟩ | ⟨rfl, rfl⟩ | ⟨rfl, rfl⟩ | ⟨rfl, rfl, hok, hrot⟩
      · rfl
      · rfl
      · rfl
      · exact congrArg Host.Outcome.next (if_pos (by simp [hok, hrot]))
    exact ⟨_, hx, giveUp_leaves hs hc hl cause⟩
  · exact congrArg Host.Outcome.next (if_neg (by rcases h with h | h <;> simp [h]))
  · intro u
    have hres : u.boot.resetReq = none := (wrote_resetReq s _ v).trans he.noReset
    refine ⟨fun hok hc => ?_, fun hok => ?_⟩
    · have hgive : u.stewardSwap = { giveUpNoted u with pair := { (giveUpNoted u).pair with cause := some 2 } } := by
        have hl : u.stewardLost = false := (wrote_pairLost s v).trans (Bool.or_eq_false_iff.mp he.stewards).1
        rw [State.stewardSwap, if_pos hok, giveUp_eq hc hl, if_pos hok]
      have hxe := exec_stewardSwap he hp hv (show u.stewardSwap.boot.resetReq = none by rw [hgive]; exact hres)
      refine ⟨_, hxe, ?_⟩
      change u.stewardSwap = { u with pair := u.stewardSwap.pair } ∧ u.stewardSwap.pair.cause = some 2 ∧ u.stewardSwap.giveUps u.activeStw = u.giveUps u.activeStw + 1
      rw [hgive]
      exact ⟨rfl, rfl, (giveUpNoted_giveUps u).1⟩
    · have hno : u.stewardSwap = u := if_neg (by simp [hok])
      have hxe := exec_stewardSwap he hp hv (show u.stewardSwap.boot.resetReq = none by rw [hno]; exact hres)
      exact hxe.trans (congrArg Host.Outcome.next hno)
  · intro u
    have hx : exec (.stewardStrobe offs) s = execStewardStrobe offs s := rfl
    have hs : exec (.stewardStrobe offs) s = .next u.handOver := by
      rw [hx, execStewardStrobe, if_pos (by simp [State.sysclkStrobes, htick]), if_neg (by simp [hb])]
      exact congrArg Host.Outcome.next (if_neg (by simpa using htick))
    refine ⟨fun hc => hs.trans (congrArg Host.Outcome.next (if_neg ?_)), fun hc => hs.trans (congrArg Host.Outcome.next (if_pos ?_))⟩
    · exact fun h => Option.isSome_iff_ne_none.mp h hc
    · exact Option.isSome_iff_ne_none.mpr hc
  · exact congrArg Host.Outcome.next (readOut_awaits h2 hh hc (not_openAddr hn))
  · have hx : exec (.registerWrite .window a v true) s = .next ((s.pathWrite .window a v).takeReset) := rfl
    rw [hx, pathWrite_awaits h2 hh hl hc hn]
    exact congrArg Host.Outcome.next (takeReset_of_none hr)
  · intro w hw
    have hx : exec (.stewardSelftestDone pass) s = .next (if s.pairFld (stwFld w) ≠ 2 then s
      else if pass && decide (s.giveUps w < 3) then (s.setPair (stwFld w) 1).setStandbyOk true else s.setPair (stwFld w) 3) := rfl
    rw [if_neg (by simp [hw])] at hx
    by_cases hp : pass = true ∧ s.giveUps w < 3
    · rw [if_pos (by simpa using hp)] at hx
      obtain ⟨h1, h2, h3, h4, _, h6⟩ := standbyReady (s := s.setPair (stwFld w) 1) (regsOk_setFld hs.regs)
      refine ⟨_, hx, (Signals.refl.setFld (by simp) _ _).trans h1, h2.trans (setPair_state_leaves hs.regs w 1).1, ?_⟩
      rw [if_pos hp]
      exact ⟨(h3 w).trans (setPair_state hs.regs w (by decide)), h4, h6⟩
    · rw [if_neg (by simpa using hp)] at hx
      obtain ⟨h1, h2⟩ := setPair_state_leaves hs.regs w 3
      refine ⟨_, hx, Signals.refl.setFld (by simp) _ _, h1, ?_⟩
      rw [if_neg hp]
      exact ⟨setPair_state hs.regs w (by decide), h2⟩
  · intro w hw
    have hx : ∀ pass, exec (.standbySelftest pass) s = .next (if s.pairFld (stwFld w) ≠ 1 ∨ pass then s
      else (s.setPair (stwFld w) 3).setStandbyOk false) := fun _ => rfl
    exact ⟨(hx true).trans (congrArg Host.Outcome.next (if_pos (.inr rfl))), _, (hx false).trans (congrArg Host.Outcome.next (if_neg (by simp [hw]))),
      standbyFalls hs.regs w (by decide)⟩
  · have hx : exec .standbyAckTimeout s = .next (if s.standbyOk then s.setStandbyOk false else s) := rfl
    refine ⟨_, hx, ?_⟩
    by_cases hok : s.standbyOk = true
    · obtain ⟨h1, h2⟩ := setPair_ok_leaves hs.regs 0
      rw [if_pos hok]
      exact ⟨setPair_ok hs.regs (by decide), Writes.refl.setFld (by simp) _ _, h1, h2⟩
    · rw [if_neg hok]
      exact ⟨by simpa using hok, .refl, rfl, fun _ => rfl⟩
  · exact congrArg Host.Outcome.next (if_pos hok)
  · exact ⟨_, congrArg Host.Outcome.next (if_neg (by simp [hok])), raise_raised rfl _, Signals.refl.raise (by decide) ..⟩

end Sys2Proof
end

section
/-! PROOF. The voltage follows the margin: evaluations, rate limits, readings and retries (R436 to R439). -/
namespace Sys2Proof

open Sys2Proof.Machine

set_option Elab.async false

variable {s u v t : State} {rs : List Reg} {ids : List Nat} {kind idx kind' idx' : Nat} {m x : Margin}

/-! ## What signalling leaves of the health state -/

theorem event_hlt (s : State) (code inst d : Nat) :
    (s.event code inst d).hlt = { s.hlt with raised := (s.event code inst d).hlt.raised, lastLog := (s.event code inst d).hlt.lastLog } := by
  by_cases h : loggedLately s code inst
  · rw [event_of_lately h, occurred_rest]
  · rw [event_of_not_lately h, logEntry_hlt, occurred_rest]

theorem eventClear_hlt (s : State) (code inst : Nat) :
    (s.eventClear code inst).hlt = { s.hlt with raised := (s.eventClear code inst).hlt.raised, lastLog := (s.eventClear code inst).hlt.lastLog } := by
  by_cases h : s.raised code inst = true
  · rw [eventClear_of_raised h, logEntry_hlt]
    rfl
  · rw [show s.eventClear code inst = s from if_neg h]

theorem raise_hlt (s : State) (code inst d : Nat) :
    (s.raise code inst d).hlt = { s.hlt with raised := (s.raise code inst d).hlt.raised, lastLog := (s.raise code inst d).hlt.lastLog } := by
  unfold State.raise
  split
  · rfl
  · exact event_hlt ..

theorem SendsOnlyMsix.eventClear (h : SendsOnlyMsix s u) (code i : Nat) : SendsOnlyMsix s (u.eventClear code i) := by
  by_cases hr : u.raised code i = true
  · rw [eventClear_of_raised hr]
    have hc : SendsOnlyMsix s (conditionEnded u code i) := h.of_out_eq rfl
    exact hc.logEntry ..
  · rwa [show u.eventClear code i = u from if_neg hr]

theorem SendsOnlyMsix.raise (h : SendsOnlyMsix s u) (code i d : Nat) : SendsOnlyMsix s (u.raise code i d) :=
  keep_ite (P := SendsOnlyMsix s) h (h.event ..)

theorem SendsOnlyMsix.mem (h : SendsOnlyMsix s t) {o : Output} (ho : o ∈ s.out) : o ∈ t.out := by
  obtain ⟨pre, hout, _⟩ := h
  rw [hout]
  exact List.mem_append_right _ ho

/-! ## The smallest margin (R436) -/

theorem worst_mem {ms : List Margin} (h : worst ms = some m) : m ∈ ms := by
  induction ms with
  | nil => cases h
  | cons a ms ih =>
    cases hw : worst ms with
    | none =>
      simp only [worst, hw, Option.some.injEq] at h
      simp [h]
    | some y =>
      simp only [worst, hw] at h
      split at h
      · simp [Option.some.inj h]
      · exact List.mem_cons_of_mem _ (ih (hw.trans h))

theorem worst_none {ms : List Margin} (h : worst ms = none) : ms = [] := by
  cases ms with
  | nil => rfl
  | cons a ms =>
    cases hw : worst ms with
    | none => simp [worst, hw] at h
    | some y =>
      simp only [worst, hw] at h
      split at h <;> cases h

/-- The order of fractions with positive denominators is transitive. -/
theorem frac_le_trans {a b c : Int} {p q r : Nat} (hq : 0 < q) (h1 : a * q ≤ b * p) (h2 : b * r ≤ c * q) : a * r ≤ c * p := by
  have hq' : (0 : Int) < q := by omega
  refine le_of_mul_le_mul_right ?_ hq'
  calc a * r * q = a * q * r := by ring
    _ ≤ b * p * r := Int.mul_le_mul_of_nonneg_right h1 (by omega)
    _ = b * r * p := by ring
    _ ≤ c * q * p := Int.mul_le_mul_of_nonneg_right h2 (by omega)
    _ = c * p * q := by ring

theorem worst_le {ms : List Margin} (hd : ∀ y ∈ ms, 0 < y.den) (h : worst ms = some m) : ∀ y ∈ ms, m.num * y.den ≤ y.num * m.den := by
  induction ms generalizing m with
  | nil => nofun
  | cons a ms ih =>
    have hd' : ∀ y ∈ ms, 0 < y.den := fun y hy => hd y (List.mem_cons_of_mem _ hy)
    intro y hy
    cases hw : worst ms with
    | none =>
      obtain rfl := worst_none hw
      obtain rfl : y = a := by simpa using hy
      obtain rfl : y = m := by simpa [worst] using h
      exact Int.le_refl _
    | some z =>
      have hz := ih hd' hw
      simp only [worst, hw] at h
      split at h
      · next hle =>
        obtain rfl := Option.some.inj h
        rcases List.mem_cons.mp hy with rfl | hy
        · exact Int.le_refl _
        · exact frac_le_trans (hd' z (worst_mem hw)) hle (hz y hy)
      · next hle =>
        obtain rfl := Option.some.inj h
        rcases List.mem_cons.mp hy with rfl | hy
        · exact Int.le_of_lt (Int.not_le.mp hle)
        · exact hz y hy

/-- Either of the two integers beside a fraction. -/
theorem roundFree_near (s : State) (n : Int) {d : Nat} (hd : 0 < d) :
    (s.roundFree n d).2 * d - d < n ∧ n < (s.roundFree n d).2 * d + d := by
  have hd' : (0 : Int) < d := by omega
  have h1 : n / d * d ≤ n := Int.ediv_mul_le n (by omega)
  have h2 : n < n / d * d + d := Int.lt_ediv_add_one_mul_self n hd' |>.trans_eq (by ring)
  have h3 : -n / d * d ≤ -n := Int.ediv_mul_le (-n) (by omega)
  have h4 : -n < -n / d * d + d := Int.lt_ediv_add_one_mul_self (-n) hd' |>.trans_eq (by ring)
  change freeIn s.free (n / d) (-(-n / d)) * d - d < n ∧ n < freeIn s.free (n / d) (-(-n / d)) * d + d
  have hlo : n / d ≤ freeIn s.free (n / d) (-(-n / d)) := Int.le_max_left _ _
  have hle : n / d ≤ -(-n / d) := by
    refine le_of_mul_le_mul_right ?_ hd'
    calc n / d * d ≤ n := h1
      _ ≤ -(-n / d) * d := by linarith
  have hhi : freeIn s.free (n / d) (-(-n / d)) ≤ -(-n / d) := Int.max_le.mpr ⟨hle, Int.min_le_left _ _⟩
  generalize freeIn s.free (n / d) (-(-n / d)) = f at *
  have g1 : n / d * d ≤ f * d := Int.mul_le_mul_of_nonneg_right hlo (by omega)
  have g2 : f * d ≤ -(-n / d) * d := Int.mul_le_mul_of_nonneg_right hhi (by omega)
  constructor <;> linarith

/-! ## HLT_MARGIN shows the smallest margin -/

/-- The word of a margin. -/
def marginWord (v : Int) (m : Margin) : Word :=
  BitVec.ofNat 32 (((max (-32768) (min 32766 v)) % 65536).toNat + m.kind % 16 * 65536 + m.index % 4096 * 2 ^ 20)

theorem marginWord_shows (v : Int) (hk : m.kind < 8) (hi : m.index < 4096) :
    F.HLT_MARGIN_MARGIN.sget (marginWord v m) = max (-32768) (min 32766 v) ∧ F.HLT_MARGIN_KIND.get (marginWord v m) = m.kind ∧
      F.HLT_MARGIN_INDEX.get (marginWord v m) = m.index := by
  have hlo : -32768 ≤ max (-32768) (min 32766 v) := Int.le_max_left _ _
  have hhi : max (-32768) (min 32766 v) ≤ 32766 := Int.max_le.mpr ⟨by decide, Int.min_le_left _ _⟩
  unfold marginWord
  generalize max (-32768) (min 32766 v) = c at *
  have hget : F.HLT_MARGIN_MARGIN.get (BitVec.ofNat 32 ((c % 65536).toNat + m.kind % 16 * 65536 + m.index % 4096 * 2 ^ 20)) = (c % 65536).toNat := by
    simp only [Fld.get, BitVec.toNat_ofNat]
    omega
  refine ⟨?_, ?_, ?_⟩
  · simp only [Fld.sget, hget]
    split <;> omega
  · simp only [Fld.get, BitVec.toNat_ofNat]
    omega
  · simp only [Fld.get, BitVec.toNat_ofNat]
    omega

theorem showMargin_some (s : State) (m : Margin) :
    s.showMargin (some m) = ({ s with free := s.free + 1 } : State).put .HLT_MARGIN (marginWord (s.roundFree (10000 * m.num) m.den).2 m) := rfl

/-! ## The request (R435, R437) -/

/-- What the rate limits read of the health state. -/
def ratesOf (h : Hlt) : SMap UnitSt × SMap Nat × SMap Nat := (h.units, h.neg, h.nonneg)

theorem event_rates (s : State) (code inst d : Nat) : ratesOf (s.event code inst d).hlt = ratesOf s.hlt := by rw [event_hlt]; rfl

/-- The request's fields take their values. -/
def requestPut (s : State) (mv : Nat) : State :=
  let s := if s.avs F.HLT_AVS_STATUS_REQUEST = mv then s else s.emit (.avs mv)
  (s.setFld .HLT_AVS_STATUS F.HLT_AVS_STATUS_REQUEST mv).setFld .HLT_AVS_STATUS F.HLT_AVS_STATUS_AT_CEIL
    (if mv = (s.setFld .HLT_AVS_STATUS F.HLT_AVS_STATUS_REQUEST mv).avsCfg F.HLT_AVS_CFG_CEIL then 1 else 0)

theorem setRequest_cases (s : State) (mv : Nat) :
    s.setRequest mv = requestPut s mv ∨
    s.setRequest mv = ({ requestPut s mv with hlt := { s.hlt with levelAt := some s.tim.tick } } : State).event Ev.avsLevel 0 mv := by
  have hh : (requestPut s mv).hlt = s.hlt ∧ (requestPut s mv).tim = s.tim := by
    unfold requestPut
    dsimp only
    split <;> exact ⟨rfl, rfl⟩
  have he : s.setRequest mv =
      if (s.avs F.HLT_AVS_STATUS_REQUEST - 550) / 25 = (mv - 550) / 25 ||
        (match (requestPut s mv).hlt.levelAt with | some t => decide ((requestPut s mv).tim.tick - t < 1000000000) | none => false) then requestPut s mv
      else ({ requestPut s mv with hlt := { (requestPut s mv).hlt with levelAt := some (requestPut s mv).tim.tick } } : State).event Ev.avsLevel 0 mv := rfl
  rw [he, hh.1, hh.2]
  exact ite_eq_or_eq ..

theorem requestPut_leaves (hs : StoresCanonical s) {mv : Nat} (hm : mv < 1024) :
    let t := requestPut s mv
    StoresCanonical t ∧ Signals [.HLT_AVS_STATUS] [] s t ∧ ratesOf t.hlt = ratesOf s.hlt ∧ t.avs F.HLT_AVS_STATUS_REQUEST = mv ∧
      t.avs F.HLT_AVS_STATUS_AT_CEIL = (if mv = s.avsCfg F.HLT_AVS_CFG_CEIL then 1 else 0) ∧
      (s.avs F.HLT_AVS_STATUS_REQUEST ≠ mv → Output.avs mv ∈ t.out) := by
  intro t
  let w : State := if s.avs F.HLT_AVS_STATUS_REQUEST = mv then s else s.emit (.avs mv)
  have hw : StoresCanonical w := keep_ite hs (Evolves.refl.of_kept.stores hs)
  have hsig : Signals [.HLT_AVS_STATUS] [] s w := keep_ite .refl (Signals.signalProof.emit _ _ .refl)
  have hcfg : ∀ f, w.avsCfg f = s.avsCfg f := fun f => keep_ite (P := fun v : State => v.avsCfg f = s.avsCfg f) rfl rfl
  have hceil : (w.setFld .HLT_AVS_STATUS F.HLT_AVS_STATUS_REQUEST mv).avsCfg F.HLT_AVS_CFG_CEIL = s.avsCfg F.HLT_AVS_CFG_CEIL :=
    (fld_setFld_off (s := w) (r := .HLT_AVS_STATUS) (q := .HLT_AVS_CFG) rfl rfl nofun).trans (hcfg _)
  have ht : t = (w.setFld .HLT_AVS_STATUS F.HLT_AVS_STATUS_REQUEST mv).setFld .HLT_AVS_STATUS F.HLT_AVS_STATUS_AT_CEIL
      (if mv = s.avsCfg F.HLT_AVS_CFG_CEIL then 1 else 0) := by
    rw [← hceil]
    rfl
  have hbit : (if mv = s.avsCfg F.HLT_AVS_CFG_CEIL then 1 else 0) < 2 := by split <;> decide
  rw [ht]
  refine ⟨(hw.setFld ..).setFld .., (hsig.setFld (by simp) _ _).setFld (by simp) _ _,
    keep_ite (P := fun v : State => ratesOf v.hlt = ratesOf s.hlt) (a := s) (b := s.emit (.avs mv)) rfl rfl,
    (fld_setFld_beside (hw.setFld ..).regs (by decide) (by decide)).trans (fld_setFld_lt hw.regs (by decide) hm),
    fld_setFld_lt (hw.setFld ..).regs (by decide) hbit, fun hne => ?_⟩
  have hout : w.out = .avs mv :: s.out := congrArg State.out (if_neg hne)
  change Output.avs mv ∈ w.out
  rw [hout]
  exact List.mem_cons_self

theorem setRequest_leaves (hs : StoresCanonical s) {mv : Nat} (hm : mv < 1024) :
    let t := s.setRequest mv
    StoresCanonical t ∧ Signals [.HLT_AVS_STATUS] [] s t ∧ ratesOf t.hlt = ratesOf s.hlt ∧ t.avs F.HLT_AVS_STATUS_REQUEST = mv ∧
      t.avs F.HLT_AVS_STATUS_AT_CEIL = (if mv = s.avsCfg F.HLT_AVS_CFG_CEIL then 1 else 0) ∧
      (s.avs F.HLT_AVS_STATUS_REQUEST ≠ mv → Output.avs mv ∈ t.out) := by
  intro t
  obtain ⟨h1, h2, h3, h4, h5, h6⟩ := requestPut_leaves hs hm
  rcases setRequest_cases s mv with ht | ht
  · rw [show t = _ from ht]
    exact ⟨h1, h2, h3, h4, h5, h6⟩
  · let w : State := { requestPut s mv with hlt := { s.hlt with levelAt := some s.tim.tick } }
    have hw : StoresCanonical w := Evolves.refl.of_kept.stores h1
    have hsig : Signals [] [] w (w.event Ev.avsLevel 0 mv) := Signals.refl.event (by decide) ..
    have hfld := hsig.fld (q := .HLT_AVS_STATUS) (not_signalAddr rfl nofun nofun nofun) nofun
    rw [show t = _ from ht]
    exact ⟨hw.event .., (h2.hlt _).event (by decide) .., (event_rates ..).trans rfl, (hfld _).trans h4, (hfld _).trans h5,
      fun hne => (SendsOnlyMsix.refl.event ..).mem (show Output.avs mv ∈ w.out from h6 hne)⟩

/-- The length of the run of high margins. -/
def highRun (s : State) (m : Margin) : Nat := if !m.below (s.avsCfg F.HLT_AVS_CFG_DOWN) then min 100 (s.hlt.downRun + 1) else 0

def runNoted (s : State) (m : Margin) : State := { s with hlt := { s.hlt with downRun := highRun s m } }

theorem avsStep_some (h1 : s.avs F.HLT_AVS_STATUS_NO_RESPONSE = 0) (h2 : s.avsCfg F.HLT_AVS_CFG_EN = 1) :
    s.avsStep (some m) =
      if m.below (s.avsCfg F.HLT_AVS_CFG_UP) then
        if s.avs F.HLT_AVS_STATUS_REQUEST < s.avsCfg F.HLT_AVS_CFG_CEIL then
          ((runNoted s m).setRequest (min (s.avsCfg F.HLT_AVS_CFG_CEIL) (s.avs F.HLT_AVS_STATUS_REQUEST + 5))).count C.avsUp
        else runNoted s m
      else if highRun s m = 100 ∧ s.avsCfg F.HLT_AVS_CFG_FLOOR < s.avs F.HLT_AVS_STATUS_REQUEST then
        ((runNoted s m).setRequest (max (s.avsCfg F.HLT_AVS_CFG_FLOOR) (s.avs F.HLT_AVS_STATUS_REQUEST - 5))).count C.avsDown
      else runNoted s m := by
  have he : s.avsStep (some m) =
      if (runNoted s m).avs F.HLT_AVS_STATUS_NO_RESPONSE = 1 then runNoted s m
      else if (runNoted s m).avsCfg F.HLT_AVS_CFG_EN = 0 then (runNoted s m).setRequest (s.avsCfg F.HLT_AVS_CFG_FLOOR)
      else if m.below ((runNoted s m).avsCfg F.HLT_AVS_CFG_UP) then
        if s.avs F.HLT_AVS_STATUS_REQUEST < s.avsCfg F.HLT_AVS_CFG_CEIL then
          ((runNoted s m).setRequest (min (s.avsCfg F.HLT_AVS_CFG_CEIL) (s.avs F.HLT_AVS_STATUS_REQUEST + 5))).count C.avsUp
        else runNoted s m
      else if highRun s m = 100 ∧ s.avsCfg F.HLT_AVS_CFG_FLOOR < s.avs F.HLT_AVS_STATUS_REQUEST then
        ((runNoted s m).setRequest (max (s.avsCfg F.HLT_AVS_CFG_FLOOR) (s.avs F.HLT_AVS_STATUS_REQUEST - 5))).count C.avsDown
      else runNoted s m := rfl
  have ha : (runNoted s m).avs F.HLT_AVS_STATUS_NO_RESPONSE = 0 := h1
  have hb : (runNoted s m).avsCfg F.HLT_AVS_CFG_EN = 1 := h2
  rw [he, ha, hb, if_neg (by decide), if_neg (by decide)]
  rfl

/-- One step of the request by the smallest margin (R437). -/
theorem avsStep_leaves (hs : StoresCanonical s) (hd : 0 < m.den) (h1 : s.avs F.HLT_AVS_STATUS_NO_RESPONSE = 0) (h2 : s.avsCfg F.HLT_AVS_CFG_EN = 1) :
    let req := s.avs F.HLT_AVS_STATUS_REQUEST
    let lo := s.avsCfg F.HLT_AVS_CFG_FLOOR
    let hi := s.avsCfg F.HLT_AVS_CFG_CEIL
    let up := s.avsCfg F.HLT_AVS_CFG_UP
    let down := s.avsCfg F.HLT_AVS_CFG_DOWN
    let low : Prop := 100 * m.num < (up * m.den : Int)
    let high : Prop := (down * m.den : Int) ≤ 100 * m.num
    let t := s.avsStep (some m)
    lo ≤ req → req ≤ hi → up < down → Signals [.HLT_AVS_STATUS] [C.avsUp, C.avsDown] s t ∧ ratesOf t.hlt = ratesOf s.hlt ∧
      (low → req < hi → t.avs F.HLT_AVS_STATUS_REQUEST = min hi (req + 5) ∧ Output.avs (min hi (req + 5)) ∈ t.out ∧
        CountedOnce C.avsUp s t ∧ t.avs F.HLT_AVS_STATUS_AT_CEIL = if min hi (req + 5) = hi then 1 else 0) ∧
      (high → 99 ≤ s.hlt.downRun → lo < req → t.avs F.HLT_AVS_STATUS_REQUEST = max lo (req - 5) ∧
        Output.avs (max lo (req - 5)) ∈ t.out ∧ CountedOnce C.avsDown s t) ∧
      (¬ low → ¬ high ∨ s.hlt.downRun < 99 ∨ lo = req → t.avs F.HLT_AVS_STATUS_REQUEST = req ∧ t.counter C.avsUp = s.counter C.avsUp ∧
        t.counter C.avsDown = s.counter C.avsDown) := by
  intro req lo hi up down low high t hlo hhi hud
  have hn : StoresCanonical (runNoted s m) := Evolves.refl.of_kept.stores hs
  have hsn : Signals [.HLT_AVS_STATUS] [] s (runNoted s m) := Signals.refl.hlt _
  have hhi10 : hi < 1024 := Fld.get_lt ..
  have hlow : m.below up = true ↔ low := decide_eq_true_iff
  have hhigh : m.below down = false ↔ high := by rw [Bool.eq_false_iff, Margin.below, Ne, decide_eq_true_iff]; exact Int.not_lt
  have hrun : highRun s m = 100 ↔ high ∧ 99 ≤ s.hlt.downRun := by
    have he : highRun s m = if !m.below down then min 100 (s.hlt.downRun + 1) else 0 := rfl
    rw [he, ← hhigh]
    cases m.below down with
    | false => simp
    | true => simp
  have hexcl : high → ¬ low := fun hh hl => by
    have hmul : (up * m.den : Int) ≤ down * m.den := Int.mul_le_mul_of_nonneg_right (by omega) (by omega)
    change 100 * m.num < (up * m.den : Int) at hl
    change (down * m.den : Int) ≤ 100 * m.num at hh
    omega
  have hcount : ∀ {mv id}, mv < 1024 → C.events 0 > id → CountedOnce id s (((runNoted s m).setRequest mv).count id) ∧
      ∀ k, k < 0x100 → k ≠ id → (((runNoted s m).setRequest mv).count id).counter k = s.counter k := fun {mv id} hm hid => by
    obtain ⟨g1, g2, _⟩ := setRequest_leaves hn hm
    have hk : ∀ k, k < 0x100 → ((runNoted s m).setRequest mv).counter k = s.counter k := fun k hk => g2.cnts k (by omega) nofun
    refine ⟨?_, fun k hk' hne => (State.counter_count_ne _ _ _ (Ne.symm hne)).trans (hk k hk')⟩
    have hc := countedOnce_count g1 id
    unfold CountedOnce at hc ⊢
    rwa [hk id hid] at hc
  rw [show t = _ from avsStep_some h1 h2]
  by_cases hl : low
  · rw [if_pos (hlow.mpr hl)]
    by_cases hr : req < hi
    · rw [if_pos hr]
      have hmv : min hi (req + 5) < 1024 := by omega
      obtain ⟨_, g2, g3, g4, g5, g6⟩ := setRequest_leaves hn hmv
      exact ⟨((hsn.trans g2).weaken (fun _ h => h) nofun).count (.inr (by simp)), g3.trans rfl, fun _ _ => ⟨g4, g6 (show req ≠ _ by omega), (hcount hmv (by decide)).1, g5⟩,
        fun hh => absurd hl (hexcl hh), fun hnl => absurd hl hnl⟩
    · rw [if_neg hr]
      exact ⟨hsn.weaken (fun _ h => h) nofun, rfl, fun _ h => absurd h hr, fun hh => absurd hl (hexcl hh), fun hnl => absurd hl hnl⟩
  · rw [if_neg (fun h => hl (hlow.mp h))]
    by_cases hr : highRun s m = 100 ∧ lo < req
    · rw [if_pos hr]
      have hmv : max lo (req - 5) < 1024 := by omega
      obtain ⟨_, g2, g3, g4, g5, g6⟩ := setRequest_leaves hn hmv
      obtain ⟨hh, hrun'⟩ := hrun.mp hr.1
      refine ⟨((hsn.trans g2).weaken (fun _ h => h) nofun).count (.inr (by simp)), g3.trans rfl, fun h => absurd h hl,
        fun _ _ _ => ⟨g4, g6 (show req ≠ _ by omega), (hcount hmv (by decide)).1⟩, fun _ hno => ?_⟩
      rcases hno with hno | hno | hno
      · exact absurd hh hno
      · omega
      · omega
    · rw [if_neg hr]
      refine ⟨hsn.weaken (fun _ h => h) nofun, rfl, fun h => absurd h hl, fun hh hrun' hlt => absurd ⟨hrun.mpr ⟨hh, hrun'⟩, hlt⟩ hr, fun _ _ => ⟨rfl, rfl, rfl⟩⟩

end Sys2Proof
end

section
/-! PROOF. The rate limits of an evaluation, and the regulator's answers (R438, R439). -/
namespace Sys2Proof

open Sys2Proof.Machine

set_option Elab.async false

variable {s u v t : State} {kind idx kind' idx' : Nat} {m : Margin}

/-! ## One resource's limit (R438) -/

/-- Whether the latest margin is negative. -/
def belowZero (margin : Option Margin) : Bool := match margin with | some x => x.below 0 | none => false

/-- The lengths of the runs of negative, and of other, margins. -/
def negRun (s : State) (kind idx : Nat) (margin : Option Margin) : Nat :=
  if belowZero margin then min 10 (sgetD s.hlt.neg (unitKey kind idx) 0 + 1) else 0
def nonnegRun (s : State) (kind idx : Nat) (margin : Option Margin) : Nat :=
  if belowZero margin then 0 else min 1000 (sgetD s.hlt.nonneg (unitKey kind idx) 0 + 1)

/-- The runs are noted. -/
def rateNoted (s : State) (kind idx : Nat) (margin : Option Margin) : State :=
  { s with hlt := { s.hlt with neg := sput 0 s.hlt.neg (unitKey kind idx) (negRun s kind idx margin),
                               nonneg := sput 0 s.hlt.nonneg (unitKey kind idx) (nonnegRun s kind idx margin) } }

theorem rateLimit_eq (s : State) (kind idx : Nat) (margin : Option Margin) :
    s.rateLimit kind idx margin =
      if nonnegRun s kind idx margin = 1000 || !(s.avs F.HLT_AVS_STATUS_AT_CEIL == 1) then
        (rateNoted s kind idx margin).eventClear Ev.rateLimit (unitInst kind idx)
      else if negRun s kind idx margin = 10 && (s.spareOf kind (resourcePool kind idx)).isNone then
        (rateNoted s kind idx margin).raise Ev.rateLimit (unitInst kind idx) 0
      else rateNoted s kind idx margin := by cases margin <;> rfl

/-- The three ways an evaluation of a resource may end. -/
theorem rateLimit_keeps {P : State → Prop} (margin : Option Margin) (h0 : P (rateNoted s kind idx margin))
    (h1 : P ((rateNoted s kind idx margin).eventClear Ev.rateLimit (unitInst kind idx)))
    (h2 : P ((rateNoted s kind idx margin).raise Ev.rateLimit (unitInst kind idx) 0)) : P (s.rateLimit kind idx margin) := by
  rw [rateLimit_eq]
  exact keep_ite h1 (keep_ite h2 h0)

theorem rateLimit_signals (s : State) (kind idx : Nat) (margin : Option Margin) : Signals [] [] s (s.rateLimit kind idx margin) :=
  have h : Signals [] [] s (rateNoted s kind idx margin) := Signals.refl.hlt _
  rateLimit_keeps margin h (h.eventClear _ _) (h.raise (by decide) _ _)

theorem rateLimit_sends (s : State) (kind idx : Nat) (margin : Option Margin) : SendsOnlyMsix s (s.rateLimit kind idx margin) :=
  have h : SendsOnlyMsix s (rateNoted s kind idx margin) := SendsOnlyMsix.refl.of_out_eq rfl
  rateLimit_keeps margin h (h.eventClear _ _) (h.raise ..)

theorem rateLimit_rates (s : State) (kind idx : Nat) (margin : Option Margin) :
    ratesOf (s.rateLimit kind idx margin).hlt = ratesOf (rateNoted s kind idx margin).hlt :=
  rateLimit_keeps (P := fun v => ratesOf v.hlt = ratesOf (rateNoted s kind idx margin).hlt) margin rfl
    (by rw [eventClear_hlt]; rfl) (by rw [raise_hlt]; rfl)

/-! ## Other resources -/

theorem unitInst_inj (hi : idx < 2 ^ 16) (hi' : idx' < 2 ^ 16) (h : unitInst kind idx = unitInst kind' idx') : kind = kind' ∧ idx = idx' := by
  unfold unitInst at h
  omega

/-- The state of one resource's limit is as before. -/
structure RateKept (kind idx : Nat) (s t : State) : Prop where
  raised : t.raised Ev.rateLimit (unitInst kind idx) = s.raised Ev.rateLimit (unitInst kind idx)
  neg : sgetD t.hlt.neg (unitKey kind idx) 0 = sgetD s.hlt.neg (unitKey kind idx) 0
  nonneg : sgetD t.hlt.nonneg (unitKey kind idx) 0 = sgetD s.hlt.nonneg (unitKey kind idx) 0

theorem RateKept.trans (h : RateKept kind idx s u) (h' : RateKept kind idx u t) : RateKept kind idx s t :=
  ⟨h'.raised.trans h.raised, h'.neg.trans h.neg, h'.nonneg.trans h.nonneg⟩

theorem rateLimit_kept (hi : idx < 2 ^ 16) (hi' : idx' < 2 ^ 16) (h : (kind, idx) ≠ (kind', idx')) (s : State) (margin : Option Margin) :
    RateKept kind idx s (s.rateLimit kind' idx' margin) := by
  have hinst : unitInst kind idx ≠ unitInst kind' idx' := fun he => h (by obtain ⟨rfl, rfl⟩ := unitInst_inj hi hi' he; rfl)
  have hkey : unitKey kind' idx' ≠ unitKey kind idx := fun he => h (by obtain ⟨rfl, rfl⟩ := unitKey_inj hi' hi he; rfl)
  have hr := rateLimit_rates s kind' idx' margin
  simp only [ratesOf, Prod.mk.injEq] at hr
  obtain ⟨-, h2, h3⟩ := hr
  refine ⟨?_, ?_, ?_⟩
  · refine rateLimit_keeps (P := fun v => v.raised Ev.rateLimit (unitInst kind idx) = s.raised Ev.rateLimit (unitInst kind idx)) margin rfl ?_ ?_
    · rw [raised_eventClear]
      simp only [ne_eq, Prod.mk.injEq, hinst, and_false, not_false_eq_true, decide_true, Bool.and_true]
      rfl
    · rw [raised_raise]
      simp only [Prod.mk.injEq, hinst, and_false, decide_false, Bool.and_false, Bool.or_false]
      rfl
  · rw [h2]
    exact sgetD_sput_ne _ _ _ _ _ _ hkey
  · rw [h3]
    exact sgetD_sput_ne _ _ _ _ _ _ hkey

/-- A list of resources is evaluated. -/
def rateAll (l : List (Nat × Nat × Option Margin)) (s : State) : State := l.foldl (fun (s : State) x => s.rateLimit x.1 x.2.1 x.2.2) s

/-- What evaluating resources leaves. -/
structure Rated (s t : State) : Prop where
  signals : Signals [] [] s t
  sends : SendsOnlyMsix s t
  units : t.hlt.units = s.hlt.units

theorem Rated.trans (h : Rated s u) (h' : Rated u t) : Rated s t := by
  refine ⟨h.signals.trans h'.signals, ?_, h'.units.trans h.units⟩
  obtain ⟨p1, e1, m1⟩ := h.sends
  obtain ⟨p2, e2, m2⟩ := h'.sends
  exact ⟨p2 ++ p1, by rw [e2, e1, List.append_assoc], fun o ho => (List.mem_append.mp ho).elim (m2 o) (m1 o)⟩

theorem rateLimit_rated (s : State) (kind idx : Nat) (margin : Option Margin) : Rated s (s.rateLimit kind idx margin) :=
  ⟨rateLimit_signals .., rateLimit_sends .., (congrArg Prod.fst (rateLimit_rates s kind idx margin)).trans rfl⟩

theorem rateAll_rated (l : List (Nat × Nat × Option Margin)) (s : State) : Rated s (rateAll l s) :=
  foldl_keeps (P := Rated s) _ _ ⟨.refl, .refl, rfl⟩ fun _ _ _ h => h.trans (rateLimit_rated ..)

theorem rateAll_kept (hi : idx < 2 ^ 16) {l : List (Nat × Nat × Option Margin)} (hl : ∀ x ∈ l, x.2.1 < 2 ^ 16 ∧ (kind, idx) ≠ (x.1, x.2.1)) (s : State) :
    RateKept kind idx s (rateAll l s) :=
  foldl_keeps (P := RateKept kind idx s) _ _ ⟨rfl, rfl, rfl⟩ fun _ x hx h => h.trans (rateLimit_kept hi (hl x hx).1 (hl x hx).2 ..)

/-- What an evaluation of a resource with its margin raises and clears. -/
theorem rateLimit_own (s : State) (m : Margin) :
    let t := s.rateLimit m.kind m.index (some m)
    (m.num < 0 → s.avs F.HLT_AVS_STATUS_AT_CEIL = 1 → 9 ≤ sgetD s.hlt.neg (unitKey m.kind m.index) 0 →
      s.spareOf m.kind (resourcePool m.kind m.index) = none → t.raised Ev.rateLimit (unitInst m.kind m.index) = true) ∧
    ((0 ≤ m.num ∧ 999 ≤ sgetD s.hlt.nonneg (unitKey m.kind m.index) 0) ∨ s.avs F.HLT_AVS_STATUS_AT_CEIL = 0 →
      t.raised Ev.rateLimit (unitInst m.kind m.index) = false) := by
  intro t
  have hz : belowZero (some m) = true ↔ m.num < 0 := by
    change decide (100 * m.num < ((0 : Nat) : Int) * m.den) = true ↔ _
    rw [decide_eq_true_iff]
    simp only [Nat.cast_zero, zero_mul]
    omega
  refine ⟨fun hn hc h9 hsp => ?_, fun h => ?_⟩
  · have hb := hz.mpr hn
    have h1 : nonnegRun s m.kind m.index (some m) = 0 := if_pos hb
    have h2 : negRun s m.kind m.index (some m) = 10 := (if_pos hb).trans (by omega)
    rw [show t = _ from rateLimit_eq .., if_neg (by simp [h1, hc]), if_pos (by simp [h2, hsp])]
    exact raise_raised rfl _
  · have hcond : (nonnegRun s m.kind m.index (some m) = 1000 || !(s.avs F.HLT_AVS_STATUS_AT_CEIL == 1)) = true := by
      rcases h with ⟨h0, h9⟩ | h
      · have hb : ¬ belowZero (some m) = true := fun hb => by have := hz.mp hb; omega
        have h1 : nonnegRun s m.kind m.index (some m) = 1000 := (if_neg hb).trans (by omega)
        simp [h1]
      · simp [h]
    rw [show t = _ from rateLimit_eq .., if_pos hcond, raised_eventClear]
    simp

/-! ## An evaluation (R436 to R438) -/

/-- The margins taken, each for its resource. -/
def taken (ms : List Margin) : List (Nat × Nat × Option Margin) := ms.map fun m => (m.kind, m.index, some m)

/-- The resources without a margin this time that have a run of negative ones or a limit. -/
def leftOut (s : State) (ms : List Margin) : List (Nat × Nat × Option Margin) :=
  ((((s.hlt.neg.map Prod.fst) ++ (s.hlt.raised.filter fun x => x.1 == Ev.rateLimit).map fun x =>
      unitKey (x.2 / 2 ^ 28) (x.2 % 2 ^ 16)).eraseDups.filter fun k => !(ms.map fun m => unitKey m.kind m.index).contains k)).map
    fun k => (k / 2 ^ 16, k % 2 ^ 16, none)

/-- The request follows the smallest margin, once the device runs. -/
def requestFollows (s : State) (ms : List Margin) : State :=
  let s := s.showMargin (worst ms)
  if s.running then s.avsStep (worst ms) else s

theorem exec_avsEval (s : State) (ds : List Demand) :
    exec (.avsEval ds) s = .next (rateAll (leftOut (rateAll (taken (ds.filterMap s.marginOf)) (requestFollows s (ds.filterMap s.marginOf)))
      (ds.filterMap s.marginOf)) (rateAll (taken (ds.filterMap s.marginOf)) (requestFollows s (ds.filterMap s.marginOf)))) := by
  have h1 : ∀ (l : List Margin) (u : State), rateAll (taken l) u = l.foldl (fun (s : State) m => s.rateLimit m.kind m.index (some m)) u :=
    fun l u => List.foldl_map
  have h2 : ∀ (l : List Nat) (u : State), rateAll (l.map fun k => (k / 2 ^ 16, k % 2 ^ 16, none)) u =
      l.foldl (fun (s : State) k => s.rateLimit (k / 2 ^ 16) (k % 2 ^ 16) none) u := fun l u => List.foldl_map
  rw [leftOut, h1, h2]
  rfl

theorem leftOut_other {ms : List Margin} (hm : m ∈ ms) (s : State) :
    ∀ x ∈ leftOut s ms, x.2.1 < 2 ^ 16 ∧ (m.kind, m.index) ≠ (x.1, x.2.1) := by
  intro x hx
  obtain ⟨k, hk, rfl⟩ := List.mem_map.mp hx
  obtain ⟨-, hk⟩ := List.mem_filter.mp hk
  refine ⟨Nat.mod_lt _ (by decide), fun he => ?_⟩
  obtain ⟨h1, h2⟩ := Prod.mk.inj he
  have hke : unitKey m.kind m.index = k := by
    unfold unitKey
    change m.kind = k / 2 ^ 16 at h1
    change m.index = k % 2 ^ 16 at h2
    omega
  have : (ms.map fun m => unitKey m.kind m.index).contains k = true := by
    rw [List.contains_iff_mem, ← hke]
    exact List.mem_map_of_mem hm
  rw [this] at hk
  cases hk

/-- The limit of a resource taken is what its own evaluation leaves. -/
theorem rates_of_taken {ms : List Margin} (hm : m ∈ ms) (hp : ms.Pairwise fun x y => (x.kind, x.index) ≠ (y.kind, y.index))
    (hi : ∀ y ∈ ms, y.index < 2 ^ 16) (s u : State) : ∃ v, Rated u v ∧ RateKept m.kind m.index u v ∧
      (rateAll (leftOut s ms) (rateAll (taken ms) u)).raised Ev.rateLimit (unitInst m.kind m.index) =
        (v.rateLimit m.kind m.index (some m)).raised Ev.rateLimit (unitInst m.kind m.index) := by
  obtain ⟨l1, l2, rfl⟩ := List.append_of_mem hm
  have hidx := hi m hm
  rw [List.pairwise_append, List.pairwise_cons] at hp
  obtain ⟨-, ⟨h2, -⟩, h12⟩ := hp
  have hl1 : ∀ x ∈ taken l1, x.2.1 < 2 ^ 16 ∧ (m.kind, m.index) ≠ (x.1, x.2.1) := fun x hx => by
    obtain ⟨y, hy, rfl⟩ := List.mem_map.mp hx
    exact ⟨hi y (by simp [hy]), Ne.symm (h12 y hy m (by simp))⟩
  have hl2 : ∀ x ∈ taken l2, x.2.1 < 2 ^ 16 ∧ (m.kind, m.index) ≠ (x.1, x.2.1) := fun x hx => by
    obtain ⟨y, hy, rfl⟩ := List.mem_map.mp hx
    exact ⟨hi y (by simp [hy]), h2 y hy⟩
  have hsplit : rateAll (taken (l1 ++ m :: l2)) u = rateAll (taken l2) ((rateAll (taken l1) u).rateLimit m.kind m.index (some m)) := by
    rw [taken, List.map_append, rateAll, List.foldl_append]
    rfl
  refine ⟨rateAll (taken l1) u, rateAll_rated .., rateAll_kept hidx hl1 u, ?_⟩
  rw [hsplit]
  exact (rateAll_kept hidx (leftOut_other hm s) _).raised.trans (rateAll_kept hidx hl2 _).raised

theorem spareOf_of_units (h : t.hlt.units = s.hlt.units) (kind pool : Nat) : t.spareOf kind pool = s.spareOf kind pool := by
  unfold State.spareOf
  simp only [unit_of_units h]

theorem avs_of_signals {rs : List Reg} {ids : List Nat} (h : Signals rs ids s t) (hr : ∀ r ∈ rs, Reg.HLT_AVS_STATUS.addr ≠ r.addr) (f : Fld) :
    t.avs f = s.avs f := h.fld (q := .HLT_AVS_STATUS) (not_signalAddr rfl nofun nofun nofun) hr f

theorem marginOf_eq (s : State) (d : Demand) :
    let c := capacity ((d.times.filter fun x => s.unit d.kind x.1 == UnitSt.active).map Prod.snd)
    s.marginOf d = if d.tokens = 0 || decide (4 * d.tokens * c.2 < c.1) then none
      else some ⟨d.kind, d.index, (c.1 : Int) - (d.tokens * c.2 : Nat), d.tokens * c.2⟩ := rfl

theorem capacity_cons {x : Nat} (hx : 0 < x) (l : List Nat) :
    (capacity (x :: l)).1 = (capacity l).1 * x + (capacity l).2 * 100000000 ∧ (capacity (x :: l)).2 = (capacity l).2 * x := by
  rw [capacity, if_neg (Nat.ne_of_gt hx)]
  exact ⟨rfl, rfl⟩

/-- A word of HLT_MARGIN is put, and a rounding used up. -/
theorem marginPut_leaves (hs : StoresCanonical s) (w : Word) :
    let t := ({ s with free := s.free + 1 } : State).put .HLT_MARGIN w
    StoresCanonical t ∧ Signals [.HLT_MARGIN] [] { s with free := s.free + 1 } t ∧ t.cnt = s.cnt ∧ t.hlt = s.hlt ∧ t.get .HLT_MARGIN = w :=
  have hf : StoresCanonical { s with free := s.free + 1 } := Evolves.refl.of_kept.stores hs
  ⟨hf.put .., Signals.refl.put (.inr (by simp)) _, rfl, rfl, State.get_put_self _ _ _ hf.regs⟩

/-- The margin is shown. -/
theorem showMargin_leaves (hs : StoresCanonical s) (hd : 0 < m.den) (hk : m.kind < 8) (hi : m.index < 4096) :
    ∃ v : Int, v * m.den - m.den < 10000 * m.num ∧ 10000 * m.num < v * m.den + m.den ∧
      let t := s.showMargin (some m)
      (∀ q : Reg, q.indexOk = true → q ≠ .HLT_MARGIN → t.get q = s.get q) ∧
      StoresCanonical t ∧ Signals [.HLT_MARGIN] [] { s with free := s.free + 1 } t ∧ t.cnt = s.cnt ∧ t.hlt = s.hlt ∧
      F.HLT_MARGIN_MARGIN.sget (t.get .HLT_MARGIN) = max (-32768) (min 32766 v) ∧ t.fld .HLT_MARGIN F.HLT_MARGIN_KIND = m.kind ∧
      t.fld .HLT_MARGIN F.HLT_MARGIN_INDEX = m.index := by
  obtain ⟨h1, h2⟩ := roundFree_near s (10000 * m.num) hd
  have he := showMargin_some s m
  generalize (s.roundFree (10000 * m.num) m.den).2 = v at *
  obtain ⟨p1, p2, p3, p4, hget⟩ := marginPut_leaves hs (marginWord v m)
  obtain ⟨w1, w2, w3⟩ := marginWord_shows (m := m) v hk hi
  refine ⟨v, h1, h2, ?_⟩
  rw [he]
  exact ⟨fun q hq hne => get_put_off (r := .HLT_MARGIN) rfl hq (Ne.symm hne) _, p1, p2, p3, p4, (congrArg _ hget).trans w1, (congrArg _ hget).trans w2, (congrArg _ hget).trans w3⟩

theorem Signals.free {rs : List Reg} {ids : List Nat} (h : Signals rs ids s t) : t.free = s.free := (congrArg State.free h.rest).trans rfl

theorem countedOnce_of_counter {id : Nat} (h : CountedOnce id s u) (h1 : u.counter id = t.counter id) : CountedOnce id s t := by
  unfold CountedOnce at *
  rwa [← h1]

theorem running_of_get (h : t.get .STW_BOOT_STATUS = s.get .STW_BOOT_STATUS) : t.running = s.running := by
  rw [State.running, State.bootStep, State.fld, h]
  rfl

theorem marginPut_apart {x : State} (hx : x.regs = s.regs) (v : Word) :
    let t := x.put .HLT_MARGIN v
    t.get .HLT_AVS_STATUS = s.get .HLT_AVS_STATUS ∧ t.running = s.running ∧ t.avsCfg F.HLT_AVS_CFG_EN = s.avsCfg F.HLT_AVS_CFG_EN := by
  have hq : ∀ q : Reg, q.indexOk = true → .HLT_MARGIN ≠ q → (x.put .HLT_MARGIN v).get q = s.get q := fun q hq hne =>
    (get_put_off (r := .HLT_MARGIN) rfl hq hne v).trans (get_of_regs hx q)
  exact ⟨hq _ rfl nofun, running_of_get (hq .STW_BOOT_STATUS rfl nofun), congrArg F.HLT_AVS_CFG_EN.get (hq .HLT_AVS_CFG rfl nofun)⟩

theorem showMargin_none (s : State) : s.showMargin none = s.put .HLT_MARGIN 0x000F7FFF#32 := rfl

/-- A word of HLT_MARGIN is put: nothing else that an evaluation reads changes. -/
theorem marginShown_apart {x a : State} {w : Word} (hx : x.regs = s.regs) (hc : x.cnt = s.cnt) (h : a = x.put .HLT_MARGIN w) :
    a.get .HLT_AVS_STATUS = s.get .HLT_AVS_STATUS ∧ a.cnt = s.cnt ∧ a.running = s.running ∧ a.avsCfg F.HLT_AVS_CFG_EN = s.avsCfg F.HLT_AVS_CFG_EN := by
  rw [h]
  obtain ⟨h1, h2, h3⟩ := marginPut_apart hx w
  exact ⟨h1, hc, h2, h3⟩

theorem showMargin_apart (s : State) (w : Option Margin) :
    (s.showMargin w).get .HLT_AVS_STATUS = s.get .HLT_AVS_STATUS ∧ (s.showMargin w).cnt = s.cnt ∧ (s.showMargin w).running = s.running ∧
      (s.showMargin w).avsCfg F.HLT_AVS_CFG_EN = s.avsCfg F.HLT_AVS_CFG_EN := by
  cases w with
  | none => exact marginShown_apart rfl rfl (showMargin_none s)
  | some m => exact marginShown_apart (x := { s with free := s.free + 1 }) rfl rfl (showMargin_some s m)

theorem avsStep_none (h : s.avsCfg F.HLT_AVS_CFG_EN = 1) : s.avsStep none = { s with hlt := { s.hlt with downRun := 0 } } := by
  have he : s.avsStep none =
      if s.avs F.HLT_AVS_STATUS_NO_RESPONSE = 1 then { s with hlt := { s.hlt with downRun := 0 } }
      else if s.avsCfg F.HLT_AVS_CFG_EN = 0 then ({ s with hlt := { s.hlt with downRun := 0 } } : State).setRequest (s.avsCfg F.HLT_AVS_CFG_FLOOR)
      else { s with hlt := { s.hlt with downRun := 0 } } := rfl
  rw [he, h, if_neg (by decide : ¬ (1 : Nat) = 0), ite_self]

theorem requestFollows_eq (s : State) (ms : List Margin) : requestFollows s ms =
    if (s.showMargin (worst ms)).running then (s.showMargin (worst ms)).avsStep (worst ms) else s.showMargin (worst ms) := rfl

/-- Nothing but the margin shown and the limits changes when the request does not follow. -/
theorem requestFollows_stays (ms : List Margin) (h : s.running = false ∨ (ms = [] ∧ s.avsCfg F.HLT_AVS_CFG_EN = 1)) :
    (requestFollows s ms).get .HLT_AVS_STATUS = s.get .HLT_AVS_STATUS ∧ (requestFollows s ms).cnt = s.cnt ∧
      (ms = [] → (requestFollows s ms).get .HLT_MARGIN = (s.showMargin none).get .HLT_MARGIN) := by
  rw [requestFollows_eq]
  have hnone : ms = [] → s.showMargin none = s.showMargin (worst ms) := fun hn => by rw [hn, worst]
  obtain ⟨h1, h2, h3, h4⟩ := showMargin_apart s (worst ms)
  generalize s.showMargin (worst ms) = a at *
  by_cases hr : s.running = true
  · obtain ⟨hn, hen⟩ := h.resolve_left (by simp [hr])
    have hw : worst ms = none := by rw [hn, worst]
    rw [if_pos (h3.trans hr), hw, avsStep_none (h4.trans hen)]
    refine ⟨h1, h2, fun _ => ?_⟩
    rw [hnone hn]
    rfl
  · rw [if_neg (by rw [h3]; exact hr)]
    exact ⟨h1, h2, fun hn => by rw [hnone hn]⟩

/-! ## The regulator's answers (R439) -/

/-- A transaction succeeds: its reading is shown. -/
def answerShown (s : State) (mv : Nat) : State :=
  { (s.setFld .HLT_AVS_STATUS F.HLT_AVS_STATUS_READBACK mv).setFld .HLT_AVS_STATUS F.HLT_AVS_STATUS_NO_RESPONSE 0 with
    hlt := { s.hlt with avsFails := 0 } }

theorem avsAnswer_leaves (hs : StoresCanonical s) {mv : Nat} (hm : mv < 1024) :
    let t := s.avsAnswer mv
    t.avs F.HLT_AVS_STATUS_READBACK = mv ∧ t.avs F.HLT_AVS_STATUS_REQUEST = s.avs F.HLT_AVS_STATUS_REQUEST ∧ t.avs F.HLT_AVS_STATUS_NO_RESPONSE = 0 ∧
      t.hlt.avsFails = 0 ∧ t.raised Ev.avsNoResponse 0 = false ∧ Signals [.HLT_AVS_STATUS] [] s t := by
  intro t
  have ht : t = (answerShown s mv).eventClear Ev.avsNoResponse 0 := rfl
  have h1 : (s.setFld .HLT_AVS_STATUS F.HLT_AVS_STATUS_READBACK mv).regsOk := regsOk_setFld hs.regs
  have hsig : Signals [.HLT_AVS_STATUS] [] s (answerShown s mv) := ((Signals.refl.setFld (by simp) _ _).setFld (by simp) _ _).hlt _
  have hfld := avs_of_signals (Signals.refl (rs := []) (ids := []) |>.eventClear (s := answerShown s mv) Ev.avsNoResponse 0) nofun
  rw [ht]
  refine ⟨(hfld _).trans ?_, (hfld _).trans ?_, (hfld _).trans ?_, ?_, ?_, hsig.eventClear ..⟩
  · exact (fld_setFld_beside h1 (by decide) (by decide)).trans (fld_setFld_lt hs.regs (by decide) hm)
  · exact (fld_setFld_beside h1 (by decide) (by decide)).trans (fld_setFld_beside hs.regs (by decide) (by decide))
  · exact fld_setFld_lt h1 (by decide) (by decide)
  · rw [eventClear_hlt]
    rfl
  · rw [raised_eventClear]
    simp

/-- One more transaction has failed. -/
def failNoted (s : State) : State := { s with hlt := { s.hlt with avsFails := s.hlt.avsFails + 1 } }

theorem exec_avsReadback_none (h : s.avs F.HLT_AVS_STATUS_NO_RESPONSE = 0) :
    exec (.avsReadback none) s = .next (if 3 ≤ s.hlt.avsFails + 1 then
      ((failNoted s).setFld .HLT_AVS_STATUS F.HLT_AVS_STATUS_NO_RESPONSE 1).raise Ev.avsNoResponse 0 0 else failNoted s) := by
  have hx : exec (.avsReadback none) s = execAvsReadback none s := rfl
  rw [hx, execAvsReadback, if_neg (by omega)]
  rfl

/-- An evaluation that the request follows (R436 to R438). -/
theorem avsEval_follows (hs : StoresCanonical s) (ds : List Demand) (w : Margin) :
      let ms := ds.filterMap s.marginOf
      worst ms = some w → ms.Pairwise (fun x y => (x.kind, x.index) ≠ (y.kind, y.index)) →
      (∀ m ∈ ms, m.kind < 8 ∧ m.index < 4096 ∧ 0 < m.den) →
      s.avs F.HLT_AVS_STATUS_NO_RESPONSE = 0 → s.avsCfg F.HLT_AVS_CFG_EN = 1 → s.running = true →
      let req := s.avs F.HLT_AVS_STATUS_REQUEST
      let lo := s.avsCfg F.HLT_AVS_CFG_FLOOR
      let hi := s.avsCfg F.HLT_AVS_CFG_CEIL
      let up := s.avsCfg F.HLT_AVS_CFG_UP
      let down := s.avsCfg F.HLT_AVS_CFG_DOWN
      let low : Prop := 100 * w.num < (up * w.den : Int)
      let high : Prop := (down * w.den : Int) ≤ 100 * w.num
      lo ≤ req → req ≤ hi → up < down → (∀ m ∈ ms, w.num * m.den ≤ m.num * w.den) ∧
      ∃ t v, exec (.avsEval ds) s = .next t ∧
        Signals [.HLT_MARGIN, .HLT_AVS_STATUS] [C.avsUp, C.avsDown] { s with free := t.free } t ∧
        v * w.den - w.den < 10000 * w.num ∧ 10000 * w.num < v * w.den + w.den ∧
        F.HLT_MARGIN_MARGIN.sget (t.get .HLT_MARGIN) = max (-32768) (min 32766 v) ∧
        t.fld .HLT_MARGIN F.HLT_MARGIN_KIND = w.kind ∧ t.fld .HLT_MARGIN F.HLT_MARGIN_INDEX = w.index ∧
        (low → req < hi → t.avs F.HLT_AVS_STATUS_REQUEST = min hi (req + 5) ∧ Output.avs (min hi (req + 5)) ∈ t.out ∧
          CountedOnce C.avsUp s t ∧ t.avs F.HLT_AVS_STATUS_AT_CEIL = if min hi (req + 5) = hi then 1 else 0) ∧
        (high → 99 ≤ s.hlt.downRun → lo < req → t.avs F.HLT_AVS_STATUS_REQUEST = max lo (req - 5) ∧
          Output.avs (max lo (req - 5)) ∈ t.out ∧ CountedOnce C.avsDown s t) ∧
        (¬ low → ¬ high ∨ s.hlt.downRun < 99 ∨ lo = req →
          t.avs F.HLT_AVS_STATUS_REQUEST = req ∧ t.counter C.avsUp = s.counter C.avsUp ∧
          t.counter C.avsDown = s.counter C.avsDown) ∧
        (∀ m ∈ ms, m.num < 0 → t.avs F.HLT_AVS_STATUS_AT_CEIL = 1 → 9 ≤ sgetD s.hlt.neg (unitKey m.kind m.index) 0 →
          s.spareOf m.kind (resourcePool m.kind m.index) = none → t.raised Ev.rateLimit (unitInst m.kind m.index) = true) ∧
        (∀ m ∈ ms, (0 ≤ m.num ∧ 999 ≤ sgetD s.hlt.nonneg (unitKey m.kind m.index) 0) ∨
          t.avs F.HLT_AVS_STATUS_AT_CEIL = 0 → t.raised Ev.rateLimit (unitInst m.kind m.index) = false) := by
  intro ms hw hp hms hnr hen hrun req lo hi up down low high hlo hhi hud
  have hmem := worst_mem hw
  obtain ⟨hwk, hwi, hwd⟩ := hms w hmem
  refine ⟨worst_le (fun y hy => (hms y hy).2.2) hw, ?_⟩
  obtain ⟨v, v1, v2, hoff, hsc, hsig, hcnt, hhlt, m1, m2, m3⟩ := showMargin_leaves hs hwd hwk hwi
  have hb0 : requestFollows s ms = if (s.showMargin (some w)).running then (s.showMargin (some w)).avsStep (some w) else s.showMargin (some w) :=
    (requestFollows_eq s ms).trans (by rw [hw])
  generalize s.showMargin (some w) = a at *
  have havs : ∀ f, a.avs f = s.avs f := fun f => congrArg f.get (hoff .HLT_AVS_STATUS rfl nofun)
  have hcfg : ∀ f, a.avsCfg f = s.avsCfg f := fun f => congrArg f.get (hoff .HLT_AVS_CFG rfl nofun)
  have harun : a.running = true := (congrArg (fun w : Word => F.STW_BOOT_STATUS_STEP.get w == 0xA) (hoff .STW_BOOT_STATUS rfl nofun)).trans hrun
  have hstep := avsStep_leaves (s := a) (m := w) hsc hwd ((havs _).trans hnr) ((hcfg _).trans hen)
  simp only [havs, hcfg, show a.hlt = s.hlt from hhlt] at hstep
  obtain ⟨b1, b2, b3, b4, b5⟩ := hstep hlo hhi hud
  let b := a.avsStep (some w)
  have hb : requestFollows s ms = b := hb0.trans (if_pos harun)
  have hcounter : ∀ id, a.counter id = s.counter id := counter_of_cnt hcnt
  let t := rateAll (leftOut (rateAll (taken ms) b) ms) (rateAll (taken ms) b)
  have hx : exec (.avsEval ds) s = .next t := (exec_avsEval s ds).trans
    (congrArg (fun b => Host.Outcome.next (rateAll (leftOut (rateAll (taken ms) b) ms) (rateAll (taken ms) b))) hb)
  have hrated : Rated b t := (rateAll_rated ..).trans (rateAll_rated ..)
  have htavs : ∀ f, t.avs f = b.avs f := avs_of_signals hrated.signals nofun
  have htcnt : ∀ id, id < 0x100 → t.counter id = b.counter id := fun id hid => hrated.signals.cnts id (by omega) nofun
  have htm : t.get .HLT_MARGIN = a.get .HLT_MARGIN :=
    (hrated.signals.regs .HLT_MARGIN (not_signalAddr rfl nofun nofun nofun) nofun).1.trans
      (b1.regs .HLT_MARGIN (not_signalAddr rfl nofun nofun nofun) (by simpa using addr_ne (q := .HLT_MARGIN) (r := .HLT_AVS_STATUS) rfl rfl nofun)).1
  have hfree : t.free = s.free + 1 := hrated.signals.free.trans (b1.free.trans hsig.free)
  have hcount : ∀ {id}, id < 0x100 → CountedOnce id a b → CountedOnce id s t := fun hid h => by
    unfold CountedOnce at *
    rwa [htcnt _ hid, ← hcounter]
  have htaken : ∀ y ∈ ms, ∃ z, Rated b z ∧ RateKept y.kind y.index b z ∧ t.raised Ev.rateLimit (unitInst y.kind y.index) =
      (z.rateLimit y.kind y.index (some y)).raised Ev.rateLimit (unitInst y.kind y.index) := fun y hy =>
    rates_of_taken hy hp (fun y hy => by have := (hms y hy).2.1; omega) _ b
  have hrates : b.hlt.units = s.hlt.units ∧ b.hlt.neg = s.hlt.neg ∧ b.hlt.nonneg = s.hlt.nonneg := by
    simpa only [ratesOf, Prod.mk.injEq] using b2
  obtain ⟨r1, r2, r3⟩ := hrates
  refine ⟨t, v, hx, ?_, v1, v2, ?_, ?_, ?_, fun hl hr => ?_, fun hh h99 hr => ?_, fun hl hno => ?_, fun y hy hneg hceil h9 hsp => ?_, fun y hy hcl => ?_⟩
  · rw [hfree]
    exact ((hsig.weaken (by simp) nofun).trans (b1.weaken (by simp) (fun _ h => h))).trans (hrated.signals.weaken nofun nofun)
  · rw [htm]
    exact m1
  · rw [State.fld, htm]
    exact m2
  · rw [State.fld, htm]
    exact m3
  · obtain ⟨c1, c2, c3, c4⟩ := b3 hl hr
    exact ⟨(htavs _).trans c1, hrated.sends.mem c2, hcount (by decide) c3, (htavs _).trans c4⟩
  · obtain ⟨c1, c2, c3⟩ := b4 hh h99 hr
    exact ⟨(htavs _).trans c1, hrated.sends.mem c2, hcount (by decide) c3⟩
  · obtain ⟨c1, c2, c3⟩ := b5 hl hno
    exact ⟨(htavs _).trans c1, (htcnt _ (by decide)).trans (c2.trans (hcounter _)), (htcnt _ (by decide)).trans (c3.trans (hcounter _))⟩
  · obtain ⟨z, z1, z2, z3⟩ := htaken y hy
    rw [z3]
    refine (rateLimit_own z y).1 hneg ?_ ?_ ?_
    · rw [avs_of_signals z1.signals nofun, ← htavs]
      exact hceil
    · rw [z2.neg, r2]
      exact h9
    · rw [spareOf_of_units (z1.units.trans r1)]
      exact hsp
  · obtain ⟨z, z1, z2, z3⟩ := htaken y hy
    rw [z3]
    refine (rateLimit_own z y).2 ?_
    rw [z2.nonneg, r3, avs_of_signals z1.signals nofun, ← htavs]
    exact hcl

/-- An evaluation that the request does not follow. -/
theorem avsEval_stays (hs : StoresCanonical s) (ds : List Demand) (hno : s.running = false ∨ (ds.filterMap s.marginOf = [] ∧ s.avsCfg F.HLT_AVS_CFG_EN = 1)) :
    ∃ t, exec (.avsEval ds) s = .next t ∧
        t.get .HLT_AVS_STATUS = s.get .HLT_AVS_STATUS ∧
        t.counter C.avsUp = s.counter C.avsUp ∧ t.counter C.avsDown = s.counter C.avsDown ∧
        (ds.filterMap s.marginOf = [] → t.fld .HLT_MARGIN F.HLT_MARGIN_MARGIN = 0x7FFF) := by
  obtain ⟨h1, h2, h3⟩ := requestFollows_stays (ds.filterMap s.marginOf) hno
  have hrated : ∀ l l' : List (Nat × Nat × Option Margin), Rated (requestFollows s (ds.filterMap s.marginOf))
    (rateAll l' (rateAll l (requestFollows s (ds.filterMap s.marginOf)))) := fun l l' => (rateAll_rated ..).trans (rateAll_rated ..)
  refine ⟨_, exec_avsEval s ds, ?_, ?_, ?_, fun he => ?_⟩
  · exact ((hrated _ _).signals.regs .HLT_AVS_STATUS (not_signalAddr rfl nofun nofun nofun) nofun).1.trans h1
  · exact ((hrated _ _).signals.cnts _ (by decide) nofun).trans (counter_of_cnt h2 _)
  · exact ((hrated _ _).signals.cnts _ (by decide) nofun).trans (counter_of_cnt h2 _)
  · have hm : (requestFollows s (ds.filterMap s.marginOf)).get .HLT_MARGIN = 0x000F7FFF#32 :=
      (h3 he).trans ((congrArg (State.get · .HLT_MARGIN) (showMargin_none s)).trans (State.get_put_self _ _ _ hs.regs))
    rw [State.fld, ((hrated _ _).signals.regs .HLT_MARGIN (not_signalAddr rfl nofun nofun nofun) nofun).1, hm]
    decide

/-- Settles O53: the request by `avsStep_leaves`, the limits by `rates_of_taken` and `rateLimit_own`. -/
theorem voltageFollowsMargin : Obligations.VoltageFollowsMargin := by
  unfold Obligations.VoltageFollowsMargin
  refine ⟨fun s d => ?_, ⟨rfl, fun x l hx => capacity_cons hx l⟩, fun s ds w hs hn hnn => ?_, fun s ds hs hno => ?_, fun s mv hs hm => ⟨fun h => ?_, fun h => ?_⟩,
    fun s hs h => ⟨?_, ?_⟩⟩
  · intro c
    refine ⟨fun h => (marginOf_eq s d).trans (if_pos (by simpa using h)), fun h1 h2 => (marginOf_eq s d).trans (if_neg ?_)⟩
    simpa [h1] using h2
  · exact avsEval_follows hs ds w
  · exact avsEval_stays hs ds hno
  · obtain ⟨h1, h2, _, h4, _, h6⟩ := avsAnswer_leaves hs hm
    exact ⟨_, congrArg Host.Outcome.next (if_neg (by omega)), h1, h2, h4, h6⟩
  · obtain ⟨h1, _, h3, h4, h5, h6⟩ := avsAnswer_leaves hs hm
    exact ⟨_, congrArg Host.Outcome.next (if_pos h), h1, h3, h4, h5, h6⟩
  · rfl
  · have hf : StoresCanonical (failNoted s) := Evolves.refl.of_kept.stores hs
    refine ⟨_, exec_avsReadback_none h, ?_⟩
    by_cases h3 : 2 ≤ s.hlt.avsFails
    · rw [if_pos (by omega), if_pos h3]
      have hsig : Signals [] [] ((failNoted s).setFld .HLT_AVS_STATUS F.HLT_AVS_STATUS_NO_RESPONSE 1) _ := Signals.refl.raise (code := Ev.avsNoResponse) (by decide) 0 0
      refine ⟨by rw [raise_hlt]; rfl, ((Signals.refl.hlt _).setFld (by simp) _ _).raise (by decide) .., ?_, fun _ => raise_raised rfl _⟩
      exact (avs_of_signals hsig nofun _).trans (fld_setFld_lt hf.regs (by decide) (by decide))
    · rw [if_neg (by omega), if_neg h3]
      exact ⟨rfl, Signals.refl.hlt _, h, fun h => absurd h h3⟩

end Sys2Proof
end

section
/-! PROOF. Frames delivered to the host (R462 to R464). -/
namespace Sys2Proof

open Sys2Proof.Machine

set_option Elab.async false

variable {s u v t : State} {r : Nat} {bufs : List Nat} {it : RxItem} {rest : List RxItem} {f : Machine.Frame}

/-! ## The freeing of a frame sends nothing -/

/-- The stores are canonical and in range, and nothing was sent. -/
structure Quiet (o : List Output) (s : State) : Prop where
  canon : StoresCanonical s
  range : FramesInRange s
  out : s.out = o

namespace Quiet

variable {o : List Output}

theorem of_out (h : Quiet o u) (hv : Evolves u v) (ho : v.out = u.out := by rfl) : Quiet o v :=
  ⟨hv.stores h.canon, hv.range h.range, ho.trans h.out⟩

theorem pathProof : PathProof (Quiet o) where
  canon h := h.canon
  range h := h.range
  due _ _ _ h := h.of_out Evolves.refl.of_kept
  xoff _ _ _ h := h.of_out (Evolves.refl.setFld ..)
  endEpoch {u} h := h.of_out Evolves.refl.endEpoch (by
    obtain ⟨_, _, he⟩ := endEpoch_eq u
    rw [he]
    rfl)
  counts _ h := h.of_out (Evolves.refl.count _)
  yielded hu hw hk := hw.of_out (Evolves.refl.putRep _ fun _ => hu.range.queues _ (mem_of_sfind hk))
  txDone id h := h.of_out (Evolves.refl.txDone id)
  erased _ h := h.of_out (Evolves.refl.eraseFrame _)
  dropped hu hw hf := hw.of_out (Evolves.refl.putFrame _ fun _ =>
    have ⟨hp, hr, hk⟩ := hu.range.frame (mem_of_sfind hf)
    ⟨hp, hr, hk⟩)
  freed _ h := h.of_out (Evolves.refl.eraseRep _)

end Quiet

/-- The head leaves the delivery queue: nothing is sent, and of the ring no other part than completions changes. -/
theorem rxPop_leaves (hs : StoresCanonical s) (hr : FramesInRange s) (hk : skeysFrom none s.rings = true) (hd : (s.ring r).dq = it :: rest) :
    let t := s.rxPop r
    Flows pathReg pathCnt s t ∧ t.out = s.out ∧ (t.ring r).dq = rest ∧ t.rxNext = s.rxNext := by
  intro t
  have hf : Flows pathReg pathCnt s t := rxPop_flows (fun _ h => h) (.refl hs hr) r
  refine ⟨hf, ?_, ?_, (congrArg State.rxNext hf.rest).trans rfl⟩
  · have hp : t = (s.putRing r { s.ring r with dq := rest }).checkGone it.frame := by
      unfold t State.rxPop
      rw [hd]
    have hq : Quiet s.out (s.putRing r { s.ring r with dq := rest }) := Quiet.of_out ⟨hs, hr, rfl⟩ Evolves.refl.of_kept
    rw [hp]
    exact (Quiet.pathProof.checkGone it.frame hq).out
  · rw [(rxPop_ring hs hr hk hd).1]

theorem rxReg_kept (hf : Flows pathReg pathCnt s t) {q : Reg} (hq : q.indexOk = true) (hn : ¬ pathReg q) : t.get q = s.get q :=
  hf.regs.get (fun _ h => pathReg_indexOk h) hq hn

theorem rxFrames_not_path {r : Nat} (h : r < 32) : ¬ pathCnt (C.rxFrames r) := by
  rintro (h1 | h1 | ⟨k, hk, h1⟩) <;> simp only [C.rxFrames, C.ladderYield, C.txFrames] at h1 <;> omega

/-! ## The turn (R462) -/

theorem rxTurn_lt (h : s.rxTurn = some r) : r < 32 := by
  obtain ⟨k, -, hk⟩ := List.mem_map.mp (List.mem_of_find?_eq_some h)
  omega

theorem exec_hostRxDeliver (ht : s.rxTurn = some r) (hd : (s.ring r).dq = it :: rest) (hf : s.frame it.frame = some f) :
    exec (.hostRxDeliver r bufs) s = .next (if f.bad then s.rxPop r else ({ s with rxNext := (r + 1) % 32 } : State).rxServe r bufs it f) := by
  have hx : exec (.hostRxDeliver r bufs) s = execHostRxDeliver r bufs s := rfl
  rw [hx, execHostRxDeliver, if_neg (by simp [ht])]
  simp only [hd, hf]

/-! ## What is written (R463) -/

theorem foldl_emit_rest (g : Nat → Output) (l : List Nat) (s : State) :
    l.foldl (fun (s : State) i => s.emit (g i)) s = { s with out := (l.foldl (fun (s : State) i => s.emit (g i)) s).out } :=
  foldl_keeps (P := fun v : State => v = { s with out := v.out }) _ _ rfl fun v i _ hv => by
    rw [State.emit, hv]

theorem rxWrites_rest (s : State) (r : Nat) (f : Machine.Frame) (why : Nat) (bufs : List Nat) :
    s.rxWrites r f why bufs = { s with out := (s.rxWrites r f why bufs).out } := by
  unfold State.rxWrites
  extract_lets buf data d at' s1 s2
  have h1 : s1 = { s with out := s1.out } := foldl_emit_rest _ _ s
  have h2 : s2 = { s1 with out := s2.out } := foldl_emit_rest _ _ s1
  clear_value s1 s2
  rw [State.emit, State.emit, h2, h1]

/-- The writes do not depend on whose turn comes next. -/
theorem rxWrites_turn (s : State) (r : Nat) (f : Machine.Frame) (why : Nat) (bufs : List Nat) (n : Nat) :
    (({ s with rxNext := n } : State).rxWrites r f why bufs).out = (s.rxWrites r f why bufs).out := by
  have hfold : ∀ (g : Nat → Output) (l : List Nat) (a b : State), a.out = b.out →
      (l.foldl (fun (s : State) i => s.emit (g i)) a).out = (l.foldl (fun (s : State) i => s.emit (g i)) b).out := fun g l => by
    induction l with
    | nil => exact fun _ _ h => h
    | cons i l ih => exact fun a b h => ih _ _ (congrArg (g i :: ·) h)
  unfold State.rxWrites
  extract_lets buf data d at' s1 s2 buf' d' at'' s1' s2'
  have h1 : s1.out = s1'.out := hfold (fun i => .dma (bufs.getD i 0) ((data.drop (i * buf)).take buf)) (List.range d) { s with rxNext := n } s rfl
  have h2 : s2.out = s2'.out := hfold (fun i => .dma (at' i 2) (leBytes [rxWord2 data.length buf d i, 0, 0, 0, 0, 0])) ((List.range d).drop 1) s1 s1' h1
  change _ :: _ :: s2.out = _ :: _ :: s2'.out
  rw [h2]
  rfl

theorem rxWrites_one (s : State) (r : Nat) (f : Machine.Frame) (why : Nat) (bufs : List Nat)
    (hd : (f.len - 4 + 256 * s.fld (.HST_RING_CFG r) F.HST_RING_CFG_BUF - 1) / (256 * s.fld (.HST_RING_CFG r) F.HST_RING_CFG_BUF) = 1) :
    let a := s.descAddr r (s.ringHead r % s.ringSize r)
    (s.rxWrites r f why bufs).out = Output.dma (a + 8) (leBytes [f.len - 4 + 2 ^ 14 + (f.len - 4) * 2 ^ 16 + 2 ^ 15 + 2 ^ 31]) ::
      Output.dma (a + 12) (leBytes (rxWords f why)) :: Output.dma (bufs.getD 0 0) (f.bytes.take (f.len - 4)) :: s.out := by
  intro a
  have hlen : (f.bytes.take (f.len - 4)).length = f.len - 4 := by
    rw [List.length_take, Frame.len]
    omega
  unfold State.rxWrites
  extract_lets buf data d at' s1 s2
  have hd1 : d = 1 := by
    unfold d data buf
    rw [hlen]
    exact hd
  have hbuf : f.len - 4 ≤ buf := by
    by_cases hb : buf = 0
    · have hz : d = 0 := by
        unfold d
        rw [hb, Nat.div_zero]
      omega
    · have h2 : (f.len - 4 + buf - 1) / buf < 2 := by
        change (f.len - 4 + buf - 1) / buf = 1 at hd
        omega
      have := (Nat.div_lt_iff_lt_mul (Nat.pos_of_ne_zero hb)).mp h2
      omega
  have hword : rxWord2 data.length buf 1 0 = f.len - 4 + 2 ^ 14 + (f.len - 4) * 2 ^ 16 + 2 ^ 15 + 2 ^ 31 := by
    have hdl : data.length = f.len - 4 := hlen
    simp only [rxWord2, hdl, Nat.zero_mul, Nat.sub_zero, Nat.min_eq_right hbuf, if_true, Nat.zero_add]
    omega
  have hdata : (data.drop (0 * buf)).take buf = data := by
    rw [Nat.zero_mul, List.drop_zero]
    exact List.take_of_length_le (hlen.trans_le hbuf)
  have h1 : s1 = s.emit (.dma (bufs.getD 0 0) ((data.drop (0 * buf)).take buf)) := by
    unfold s1
    rw [hd1]
    rfl
  have h2 : s2 = s1 := by
    unfold s2
    rw [hd1]
    rfl
  change Output.dma (at' 0 2) (leBytes [rxWord2 data.length buf d 0]) :: Output.dma (at' 0 3) (leBytes (rxWords f why)) :: s2.out = _
  rw [h2, h1, hd1, hword, hdata]
  rfl

/-! ## Delivery -/

/-- The frame is written, HEAD and CPTR pass its descriptors, and it is counted. -/
def delivered (s : State) (r : Nat) (bufs : List Nat) (it : RxItem) (f : Machine.Frame) (h : Nat) : State :=
  (((s.rxWrites r f it.reason bufs).setHead r h).completed r h).count (C.rxFrames r)

theorem rxServe_delivers {d : Nat}
    (hd : d = (f.len - 4 + 256 * s.fld (.HST_RING_CFG r) F.HST_RING_CFG_BUF - 1) / (256 * s.fld (.HST_RING_CFG r) F.HST_RING_CFG_BUF))
    (hp : d ≤ s.posted r) :
    s.rxServe r bufs it f = ((delivered s r bufs it f ((s.ringHead r + d) % s.ringSize r)).rxPop r).irqSettle := by
  subst hd
  exact if_neg (by omega)

theorem rxServe_drops (hp : s.posted r < (f.len - 4 + 256 * s.fld (.HST_RING_CFG r) F.HST_RING_CFG_BUF - 1) / (256 * s.fld (.HST_RING_CFG r) F.HST_RING_CFG_BUF)) :
    s.rxServe r bufs it f = ((s.count (C.rxDrops r)).setFld (.HST_RING_STATUS r) F.HST_RING_STATUS_DROP_SEEN 1).rxPop r := if_pos hp

theorem ringSize_le (s : State) (x : Nat) : s.ringSize x ≤ 2 ^ 15 :=
  Nat.pow_le_pow_right (by decide) (Nat.le_of_lt_succ (Fld.get_lt ..))

theorem cptr_indexOk {x : Nat} (hx : x < 64) : (Reg.HST_RING_CPTR x).indexOk = true ∧ (Reg.HST_RING_HEAD x).indexOk = true ∧
    (Reg.HST_RING_STATUS x).indexOk = true ∧ (Reg.HST_RING_CFG x).indexOk = true :=
  ⟨decide_eq_true hx, decide_eq_true hx, decide_eq_true hx, decide_eq_true hx⟩

theorem delivered_leaves (hs : StoresCanonical s) (hr : FramesInRange s) (hk : skeysFrom none s.rings = true) (hr32 : r < 32) {h : Nat} (hh : h < 2 ^ 16) :
    let t := delivered s r bufs it f h
    StoresCanonical t ∧ FramesInRange t ∧ skeysFrom none t.rings = true ∧ (t.ring r).dq = (s.ring r).dq ∧ t.ringHead r = h ∧ t.ringCptr r = h ∧
      CountedOnce (C.rxFrames r) s t ∧ t.counter (C.rxDrops r) = s.counter (C.rxDrops r) ∧ t.out = (s.rxWrites r f it.reason bufs).out ∧
      t.rxNext = s.rxNext := by
  intro t
  obtain ⟨i1, i2, -, -⟩ := cptr_indexOk (x := r) (by omega)
  have ht : t = ((({ s with out := (s.rxWrites r f it.reason bufs).out } : State).setHead r h).completed r h).count (C.rxFrames r) := by
    unfold t delivered
    rw [← rxWrites_rest]
  rw [ht]
  generalize (s.rxWrites r f it.reason bufs).out = o
  let a : State := { s with out := o }
  have ha : Evolves s a := Evolves.refl.of_kept
  have hb : Evolves s (a.setHead r h) := ha.setFld ..
  have hc : Evolves s ((a.setHead r h).completed r h) := Evolves.setFld (hb.of_kept) ..
  have hput : (((a.setHead r h).completed r h).ring r) = { a.ring r with written := (a.setHead r h).unacked r ++ [(h, s.tim.tick)] } :=
    sgetD_sput_self _ _ _ _ hk
  refine ⟨(hc.count _).stores hs, (hc.count _).range hr, skeysFrom_sput _ _ _ _ hk, (congrArg Machine.Ring.dq hput).trans rfl, ?_, ?_,
    countedOnce_any s (C.rxFrames r), State.counter_count_ne _ _ _ (by simp only [C.rxFrames, C.rxDrops]; omega), rfl, rfl⟩
  · exact (fld_setFld_off i1 i2 nofun).trans (fld_setFld_lt (ha.stores hs).regs (by decide) hh)
  · exact fld_setFld_lt (s := State.putRing ..) (hb.stores hs).regs (by decide) hh

/-- Settles O55: delivery by `delivered_leaves` and `rxPop_leaves`, the writes by `rxWrites_one`. -/
theorem hostReceives : Obligations.HostReceives := by
  unfold Obligations.HostReceives
  intro s r bufs hs hr hk
  refine ⟨fun h => congrArg Host.Outcome.next (if_pos h), fun it rest f ht hd hf => ?_⟩
  intro buf d
  have hr32 := rxTurn_lt ht
  obtain ⟨i1, i2, i3, -⟩ := cptr_indexOk (x := r) (by omega)
  have hx := exec_hostRxDeliver (bufs := bufs) ht hd hf
  by_cases hbad : f.bad = true
  · rw [if_pos hbad] at hx
    obtain ⟨p1, p2, p3, -⟩ := rxPop_leaves hs hr hk hd
    exact ⟨_, hx, p3, fun h => absurd hbad (by simp [h]), fun h => absurd hbad (by simp [h]), fun _ => ⟨p2, congrArg F.HST_RING_HEAD_INDEX.get (rxReg_kept p1 i2 nofun),
      p1.cnts _ (rxDrops_not_path hr32), p1.cnts _ (rxFrames_not_path hr32)⟩⟩
  · rw [if_neg hbad] at hx
    let a : State := { s with rxNext := (r + 1) % 32 }
    have ha : Evolves s a := Evolves.refl.of_kept
    by_cases hp : d ≤ s.posted r
    · have hsv := rxServe_delivers (s := a) (r := r) (bufs := bufs) (it := it) (f := f) (d := d) rfl hp
      rw [hsv] at hx
      have hlt : (a.ringHead r + d) % a.ringSize r < 2 ^ 16 := by
        have h1 := ringSize_le a r
        have h2 : (a.ringHead r + d) % a.ringSize r < a.ringSize r := Nat.mod_lt _ (Nat.pow_pos (by decide))
        omega
      obtain ⟨d1, d2, d3, d4, d5, d6, d7, d8, d9, d10⟩ := delivered_leaves (bufs := bufs) (it := it) (f := f) (ha.stores hs) (ha.range hr) hk hr32 hlt
      generalize delivered a r bufs it f ((a.ringHead r + d) % a.ringSize r) = b at *
      obtain ⟨p1, p2, p3, p4⟩ := rxPop_leaves d1 d2 d3 (d4.trans hd)
      generalize b.rxPop r = c at *
      have hreg : ∀ {q : Reg}, q.indexOk = true → ¬ pathReg q → ¬ signalAddr q.addr → c.irqSettle.get q = b.get q := fun hq h1 h2 =>
        (irqSettle_get c _ h2).trans (rxReg_kept p1 hq h1)
      have hhead : c.irqSettle.ringHead r = (s.ringHead r + d) % s.ringSize r :=
        (congrArg F.HST_RING_HEAD_INDEX.get (hreg i2 nofun (not_signalAddr i2 nofun nofun nofun))).trans d5
      have hcptr : c.irqSettle.ringCptr r = (s.ringHead r + d) % s.ringSize r :=
        (congrArg F.HST_RING_CPTR_INDEX.get (hreg i1 nofun (not_signalAddr i1 nofun nofun nofun))).trans d6
      have hcnt : ∀ id, ¬ pathCnt id → c.irqSettle.counter id = b.counter id := fun id h =>
        (counter_of_cnt (irqSettle_cnt c) id).trans (p1.cnts id h)
      refine ⟨_, hx, ?_, fun _ _ => ⟨hhead, hcptr.trans hhead.symm, ?_, ?_, ?_, ?_, fun h1 => ?_⟩, fun _ h => absurd h (by omega), fun h => absurd h hbad⟩
      · rw [State.ring, irqSettle_rings]
        exact p3
      · exact (hcnt _ (rxFrames_not_path hr32)).trans d7
      · exact (hcnt _ (rxDrops_not_path hr32)).trans d8
      · exact (congrArg State.rxNext (irqSettle_changes c).rest).trans (p4.trans d10)
      · obtain ⟨pre, ho, hm⟩ := (SendsOnlyMsix.refl (s := c)).irqSettle
        exact ⟨pre, by rw [ho, p2, d9, rxWrites_turn], hm⟩
      · exact rxWrites_one s r f it.reason bufs h1
    · have hsv := rxServe_drops (s := a) (r := r) (bufs := bufs) (it := it) (f := f) (Nat.not_le.mp hp)
      rw [hsv] at hx
      have hb : Evolves s ((a.count (C.rxDrops r)).setFld (.HST_RING_STATUS r) F.HST_RING_STATUS_DROP_SEEN 1) := (ha.count _).setFld ..
      obtain ⟨p1, p2, p3, -⟩ := rxPop_leaves (r := r) (s := (a.count (C.rxDrops r)).setFld (.HST_RING_STATUS r) F.HST_RING_STATUS_DROP_SEEN 1)
        (hb.stores hs) (hb.range hr) hk hd
      refine ⟨_, hx, p3, fun _ h => absurd h hp, fun _ _ => ⟨(p1.cnts _ (rxDrops_not_path hr32)).trans (countedOnce_any s (C.rxDrops r)), ?_, p2, ?_⟩,
        fun h => absurd h hbad⟩
      · exact (congrArg F.HST_RING_HEAD_INDEX.get (rxReg_kept p1 i2 nofun)).trans (fld_setFld_off i3 i2 nofun)
      · exact (congrArg F.HST_RING_STATUS_DROP_SEEN.get (rxReg_kept p1 i3 nofun)).trans (fld_setFld_lt (ha.stores hs).regs (by decide) (by decide))

end Sys2Proof
end

section
/-! PROOF. What the work of the time core leaves as it was: steps of T, the units and gates that a step passes, reference slots, selection
and the loop (R322, R343, R359 to R377). `Leaves g R K s t` says that a view of the state, every register outside `R` and every counter outside
`C` read as before. -/
namespace Sys2Proof

open Sys2Proof.Machine

set_option Elab.async false

variable {α : Type} {s u v t : State} {g : State → α} {R : Reg → Prop} {K : Nat → Prop}

/-! ## Views, registers and counters -/

/-- The registers that signalling writes (R444, R473). -/
def signalReg : Reg → Prop
  | .HLT_LOG_HEAD => True
  | .HLT_LOG j k => j < 256 ∧ k < 8
  | .HST_IRQ_SRC i => i < 128
  | _ => False

/-- The registers that a step of T may write: those of trigger units and captures, and of signalling. -/
def stepReg : Reg → Prop
  | .TIM_TRIG_STATUS k | .TIM_TRIG_FIRED k | .TIM_TRIG_CTRL k => k < 16
  | .HLT_CAP_VAL_L j m | .HLT_CAP_VAL_H j m => j < 8 ∧ m < 64
  | .HLT_CAP_WRAP_L j | .HLT_CAP_WRAP_H j | .HLT_CAP_TIME_L j | .HLT_CAP_TIME_H j | .HLT_CAP_SEQ j => j < 8
  | r => signalReg r

/-- The counters of health events. -/
def eventCnt (id : Nat) : Prop := 0x100 ≤ id ∧ id < 0x200

theorem signalReg_indexOk {r : Reg} (h : signalReg r) : r.indexOk = true := by
  cases r with
  | HLT_LOG_HEAD => rfl
  | HLT_LOG j k => simpa [Reg.indexOk, signalReg] using h
  | HST_IRQ_SRC i => exact decide_eq_true h
  | _ => exact h.elim

theorem stepReg_indexOk {r : Reg} (h : stepReg r) : r.indexOk = true := by
  cases r with
  | TIM_TRIG_STATUS k => exact decide_eq_true h
  | TIM_TRIG_FIRED k => exact decide_eq_true h
  | TIM_TRIG_CTRL k => exact decide_eq_true h
  | HLT_CAP_VAL_L j m => simpa [Reg.indexOk, stepReg] using h
  | HLT_CAP_VAL_H j m => simpa [Reg.indexOk, stepReg] using h
  | HLT_CAP_WRAP_L j => exact decide_eq_true h
  | HLT_CAP_WRAP_H j => exact decide_eq_true h
  | HLT_CAP_TIME_L j => exact decide_eq_true h
  | HLT_CAP_TIME_H j => exact decide_eq_true h
  | HLT_CAP_SEQ j => exact decide_eq_true h
  | _ => exact signalReg_indexOk h

theorem stepReg_of_signalReg {r : Reg} (h : signalReg r) : stepReg r := by
  cases r with
  | TIM_TRIG_STATUS | TIM_TRIG_FIRED | TIM_TRIG_CTRL | HLT_CAP_VAL_L | HLT_CAP_VAL_H | HLT_CAP_WRAP_L | HLT_CAP_WRAP_H | HLT_CAP_TIME_L
  | HLT_CAP_TIME_H | HLT_CAP_SEQ => exact h.elim
  | _ => exact h

/-- The view does not see what signalling changes, the marks of replicas and the free values. -/
structure Blind (g : State → α) : Prop where
  signals : ∀ (u : State) (regs masked : SMap Word) (cnt : SMap Cnt) (hlt : Hlt) (irq : Irq) (out : List Output),
    g { u with regs := regs, masked := masked, cnt := cnt, hlt := hlt, irq := irq, out := out } = g u
  reps : ∀ (u : State) x, g { u with reps := x } = g u
  free : ∀ (u : State) x, g { u with free := x } = g u

/-- The view does not see trigger units, gates and measurements. -/
structure BlindStep (g : State → α) : Prop where
  trigs : ∀ (u : State) x, g { u with tim := { u.tim with trigs := x } } = g u
  gates : ∀ (u : State) x, g { u with tim := { u.tim with gates := x } } = g u
  tic : ∀ (u : State) x, g { u with tic := x } = g u

/-- A view, every register outside `R` and every counter outside `K` read as before. -/
structure Leaves (g : State → α) (R : Reg → Prop) (K : Nat → Prop) (s t : State) : Prop where
  view : g t = g s
  regs : Keeps R s t
  cnts : ∀ id, ¬ K id → t.counter id = s.counter id

namespace Leaves

theorem refl : Leaves g R K s s := ⟨rfl, .refl, fun _ _ => rfl⟩

theorem trans (h : Leaves g R K s u) (h' : Leaves g R K u v) : Leaves g R K s v :=
  ⟨h'.view.trans h.view, h.regs.trans h'.regs, fun id hid => (h'.cnts id hid).trans (h.cnts id hid)⟩

theorem weaken {R' : Reg → Prop} {K' : Nat → Prop} (h : Leaves g R K s u) (hR : ∀ r, R r → R' r) (hC : ∀ id, K id → K' id) :
    Leaves g R' K' s u :=
  ⟨h.view, h.regs.weaken hR, fun id hid => h.cnts id fun hc => hid (hC id hc)⟩

/-- A change of what is neither a register nor a counter nor in view. -/
theorem of_kept (h : Leaves g R K s u) (hg : g v = g u) (hr : v.regs = u.regs := by rfl) (hm : v.masked = u.masked := by rfl)
    (hc : v.cnt = u.cnt := by rfl) : Leaves g R K s v :=
  ⟨hg.trans h.view, h.regs.of_regs hr hm, fun id hid => (counter_of_cnt hc id).trans (h.cnts id hid)⟩

theorem ite {c : Prop} [Decidable c] (h : Leaves g R K s u) (h' : Leaves g R K s v) : Leaves g R K s (if c then u else v) := keep_ite h h'

theorem foldl {β : Type} {l : List β} {f : State → β → State} (h : Leaves g R K s u)
    (hf : ∀ w x, x ∈ l → Leaves g R K s w → Leaves g R K s (f w x)) : Leaves g R K s (l.foldl f u) := foldl_keeps l f h hf

section
variable (b : Blind g)
include b

theorem put (h : Leaves g R K s u) {r : Reg} (hr : R r) (x : Word) : Leaves g R K s (u.put r x) :=
  ⟨(b.signals u (u.put r x).regs (u.put r x).masked u.cnt u.hlt u.irq u.out).trans h.view, h.regs.put hr x, h.cnts⟩

theorem setFld (h : Leaves g R K s u) {r : Reg} (hr : R r) (f : Fld) (x : Nat) : Leaves g R K s (u.setFld r f x) :=
  ⟨(b.signals u (u.setFld r f x).regs (u.setFld r f x).masked u.cnt u.hlt u.irq u.out).trans h.view, h.regs.setFld hr f x, h.cnts⟩

theorem count (h : Leaves g R K s u) {id : Nat} (hid : K id) : Leaves g R K s (u.count id) :=
  ⟨(b.signals u u.regs u.masked (u.count id).cnt u.hlt u.irq u.out).trans h.view, h.regs.of_regs,
    fun k hk => (State.counter_count_ne _ _ _ fun e : id = k => hk (e ▸ hid)).trans (h.cnts k hk)⟩

/-- What signalling changes, with registers `rs` and counters `ids`. -/
theorem signals {rs : List Reg} {ids : List Nat} (h : Leaves g R K s u) (h' : Signals rs ids u v) (hR : ∀ r ∈ rs, R r)
    (hS : ∀ r, signalReg r → R r) (hC : ∀ id ∈ ids, K id) (hE : ∀ id, eventCnt id → K id) : Leaves g R K s v := by
  refine h.trans ⟨(congrArg g h'.rest).trans (b.signals ..), fun q hq => h'.regs q ?_ fun r hr => hq r (hR r hr),
    fun id hid => h'.cnts id (fun he => hid (hE id he)) fun hm => hid (hC id hm)⟩
  rintro (h | ⟨j, k, hj, hk, h⟩ | ⟨i, hi, h⟩)
  · exact hq _ (hS .HLT_LOG_HEAD trivial) h
  · exact hq _ (hS (.HLT_LOG j k) ⟨hj, hk⟩) h
  · exact hq _ (hS (.HST_IRQ_SRC i) hi) h

theorem irqEvent (h : Leaves g R K s u) (hS : ∀ r, signalReg r → R r) {i : Nat} (hi : i < 128) : Leaves g R K s (u.irqEvent i) := by
  have hc := irqEvent_changes u hi
  refine h.trans ⟨(congrArg g hc.rest).trans (b.signals u _ _ u.cnt u.hlt _ _), fun q hq => hc.regs q fun i hi e => ?_,
    fun id _ => counter_of_cnt hc.cnt id⟩
  exact hq _ (hS (.HST_IRQ_SRC i) hi) e.symm

theorem event (h : Leaves g R K s u) (hS : ∀ r, signalReg r → R r) (hE : ∀ id, eventCnt id → K id) {code : Nat} (hc : code < 256) (i d : Nat) :
    Leaves g R K s (u.event code i d) :=
  h.signals b (rs := []) (ids := []) (Signals.refl.event hc i d) nofun hS nofun hE

theorem eventClear (h : Leaves g R K s u) (hS : ∀ r, signalReg r → R r) (hE : ∀ id, eventCnt id → K id) (code i : Nat) :
    Leaves g R K s (u.eventClear code i) :=
  h.signals b (rs := []) (ids := []) (Signals.refl.eventClear code i) nofun hS nofun hE

theorem clearCode (h : Leaves g R K s u) (hS : ∀ r, signalReg r → R r) (hE : ∀ id, eventCnt id → K id) (code : Nat) :
    Leaves g R K s (u.clearCode code) :=
  h.signals b (rs := []) (ids := []) (Signals.refl.clearCode code) nofun hS nofun hE

theorem frameYields (h : Leaves g R K s u) (h2 : K (C.ladderYield 2)) (h6 : K (C.ladderYield 6)) : Leaves g R K s u.frameYields :=
  frameYields_keeps h (fun w _ _ hw => hw.of_kept (b.reps w _)) (fun _ hw => hw.count b h2) fun _ hw => hw.count b h6

theorem roundFree (h : Leaves g R K s u) (n d : Int) : Leaves g R K s (u.roundFree n d).1 := h.of_kept (b.free u _)

/-! ## Trigger units, gates and steps of T -/

theorem capture (h : Leaves g R K s u) (hR : ∀ r, stepReg r → R r) {j : Nat} (hj : j < 8) (ns : Nat) : Leaves g R K s (u.capture j ns) := by
  have hi : 80 + j < 128 := by omega
  unfold State.capture
  extract_lets copy v w
  have hv : Leaves g R K s v := h.foldl fun x m hm hx => by
    have hm := List.mem_range.mp hm
    refine ((hx.put b (hR (.HLT_CAP_VAL_L j m) ⟨hj, hm⟩) _).put b (hR (.HLT_CAP_VAL_H j m) ⟨hj, hm⟩) _).put b ?_ _
    split
    · exact hR (.HLT_CAP_WRAP_L j) hj
    · exact hR (.HLT_CAP_WRAP_H j) hj
  have hw : Leaves g R K s w := (hv.put b (hR (.HLT_CAP_TIME_L j) hj) _).put b (hR (.HLT_CAP_TIME_H j) hj) _
  refine (hw.put b (hR (.HLT_CAP_SEQ j) hj) _).irqEvent b (fun r hr => hR r (stepReg_of_signalReg hr)) hi

variable (bt : BlindStep g)
include bt

theorem putTrig (h : Leaves g R K s u) (k : Nat) (x : Trig) : Leaves g R K s (u.putTrig k x) := h.of_kept (bt.trigs u _)

theorem setTrigStatus (h : Leaves g R K s u) (hR : ∀ r, stepReg r → R r) {k : Nat} (hk : k < 16) (f : Fld) (v : Nat) :
    Leaves g R K s (u.setTrigStatus k f v) := h.setFld b (hR (.TIM_TRIG_STATUS k) hk) f v

theorem trigDone (h : Leaves g R K s u) (hR : ∀ r, stepReg r → R r) {k : Nat} (hk : k < 16) (x : Trig) : Leaves g R K s (u.trigDone k x) :=
  (((h.setFld b (hR (.TIM_TRIG_CTRL k) hk) _ _).setTrigStatus b bt hR hk _ _).setTrigStatus b bt hR hk _ _).putTrig b bt _ _

theorem fireTrigger (h : Leaves g R K s u) (hR : ∀ r, stepReg r → R r) {k : Nat} (hk : k < 16) (i : Int) (late : Bool) :
    Leaves g R K s (u.fireTrigger k i late) := by
  unfold State.fireTrigger
  extract_lets x fired v1 v2 held v3 p nx y v4 v5 counts
  have h1 : Leaves g R K s v1 := h.put b (hR (.TIM_TRIG_FIRED k) hk) _
  have h2 : Leaves g R K s v2 := .ite (h1.setTrigStatus b bt hR hk _ _) h1
  have h3 : Leaves g R K s v3 := .ite (h2.setTrigStatus b bt hR hk _ _) h2
  have h4 : Leaves g R K s v4 := h3.putTrig b bt _ _
  have h5 : Leaves g R K s v5 := by
    unfold v5
    split
    · exact h4.capture b hR (by omega) _
    · exact h4
  exact .ite (h5.trigDone b bt hR hk _) (h5.putTrig b bt _ _)

theorem changeGate (h : Leaves g R K s u) (h2 : K (C.ladderYield 2)) (h6 : K (C.ladderYield 6)) (p : Nat) (x : Gate) :
    Leaves g R K s (u.changeGate p x) := (h.frameYields b h2 h6).of_kept (bt.gates _ _)

theorem gateSwitch (h : Leaves g R K s u) (h2 : K (C.ladderYield 2)) (h6 : K (C.ladderYield 6)) (p : Nat) :
    Leaves g R K s (u.gateSwitch p) := by
  unfold State.gateSwitch
  split
  · exact h.changeGate b bt h2 h6 p _
  · exact h

theorem gateLate (h : Leaves g R K s u) (h2 : K (C.ladderYield 2)) (h6 : K (C.ladderYield 6)) (p : Nat) : Leaves g R K s (u.gateLate p) := by
  unfold State.gateLate
  extract_lets v x
  have hv : Leaves g R K s v := by
    unfold v
    split
    · exact .ite (h.gateSwitch b bt h2 h6 p) h
    · exact h
  split
  · exact .ite (hv.changeGate b bt h2 h6 p _) hv
  · exact hv

end

end Leaves

/-- T stepped, with what moves with it, before the units and gates that the step passes act. -/
def stepped (s : State) (v : Int) : State :=
  let t := (v % 2 ^ 96).toNat
  let u := s.holdEdges.shiftTimes (v - s.t32)
  { u with tim := { u.tim with
    t := BitVec.ofNat 96 t, stepSeq := s.tim.stepSeq + 1,
    nextStw := ceilTo (1000 * 2 ^ 32) (t + 500 * 2 ^ 32) / 2 ^ 32,
    nextServo := ceilTo (1000000 * 2 ^ 32) (t + 500000 * 2 ^ 32) / 2 ^ 32 } }

/-- Beyond the step itself, only units and gates act. -/
theorem stepTo_leaves (b : Blind g) (bt : BlindStep g) (hR : ∀ r, stepReg r → R r) (h2 : K (C.ladderYield 2)) (h6 : K (C.ladderYield 6))
    (s : State) (v : Int) : Leaves g R K (stepped s v) (s.stepTo v) := by
  unfold State.stepTo
  extract_lets n forward u1 x u2 u3
  have hu : u2 = stepped s v := rfl
  clear_value u2 forward
  subst hu
  have h3 : Leaves g R K (stepped s v) u3 := by
    refine foldl_keeps (P := Leaves g R K (stepped s v)) _ _ .refl fun x k hk hx => ?_
    split
    · next i _ => exact .ite (hx.fireTrigger b bt hR (List.mem_range.mp hk) i true) hx
    · exact hx
  exact .ite (Leaves.refl.of_kept (bt.tic _ _)) (h3.foldl fun x p _ hx => hx.gateLate b bt h2 h6 p)

theorem ofNat_emod (n : Nat) (v : Int) : BitVec.ofNat n (v % 2 ^ n).toNat = BitVec.ofInt n v := by
  apply BitVec.eq_of_toNat_eq
  rw [BitVec.toNat_ofNat, BitVec.toNat_ofInt]
  have h0 : 0 ≤ v % 2 ^ n := Int.emod_nonneg _ (by positivity)
  have h1 : v % 2 ^ n < 2 ^ n := Int.emod_lt_of_pos _ (by positivity)
  have h2 : (v % 2 ^ n).toNat < 2 ^ n := by
    have : ((2 ^ n : Nat) : Int) = 2 ^ n := by push_cast; rfl
    omega
  rw [Nat.mod_eq_of_lt h2]
  norm_cast

/-- The new time, modulo 2^96. -/
theorem stepped_t (s : State) (v : Int) : (stepped s v).tim.t = BitVec.ofInt 96 v := by
  have h : (stepped s v).tim.t = BitVec.ofNat 96 (v % 2 ^ 96).toNat := rfl
  rw [h, ofNat_emod]

/-! ## Slots, the loop and selection -/

/-- The view does not see selection and the loop's outputs. -/
structure BlindSel (g : State → α) : Prop where
  sel : ∀ (u : State) x, g { u with tim := { u.tim with sel := x } } = g u
  servo : ∀ (u : State) x y, g { u with tim := { u.tim with servo := x, sel := y } } = g u

/-- Nor does it see slots and the chiplets' copies. -/
structure BlindLoop (g : State → α) : Prop extends BlindSel g where
  slots : ∀ (u : State) x, g { u with tim := { u.tim with slots := x } } = g u
  copies : ∀ (u : State) x, g { u with tim := { u.tim with copies := x } } = g u

/-- The registers that slots, selection and the loop write at a strobe. -/
def strobeReg : Reg → Prop
  | .TIM_REF_STATUS k => k < 8
  | .TIM_SEL_STATUS | .TIM_SERVO_ERR | .TIM_HO_DRIFT | .TIM_HO_FREQ => True
  | r => signalReg r

theorem strobeReg_indexOk {r : Reg} (h : strobeReg r) : r.indexOk = true := by
  cases r with
  | TIM_REF_STATUS k => exact decide_eq_true h
  | TIM_SEL_STATUS | TIM_SERVO_ERR | TIM_HO_DRIFT | TIM_HO_FREQ => rfl
  | _ => exact signalReg_indexOk h

theorem strobeReg_of_signalReg {r : Reg} (h : signalReg r) : strobeReg r := by
  cases r with
  | TIM_REF_STATUS | TIM_SEL_STATUS | TIM_SERVO_ERR | TIM_HO_DRIFT | TIM_HO_FREQ => exact h.elim
  | _ => exact h

/-- The counters that slots and selection advance at a strobe. -/
def strobeCnt (id : Nat) : Prop := eventCnt id ∨ id = C.selHoldovers ∨ id = C.selAbandoned ∨ ∃ k < 8, id = C.refFaults k

/-- The view does not see the estimates of holdover. -/
structure BlindEstimate (g : State → α) : Prop where
  drift : ∀ (u : State) x y, g { u with tim := { u.tim with sel := { u.tim.sel with driftN := x, driftD := y } } } = g u
  mean : ∀ (u : State) x y, g { u with tim := { u.tim with sel := { u.tim.sel with ho := x, tc := y } } } = g u

theorem BlindSel.estimate (bl : BlindSel g) : BlindEstimate g := ⟨fun u _ _ => bl.sel u _, fun u _ _ => bl.sel u _⟩

/-- The estimates show whether DRIFT is valid, and write their two registers. -/
theorem holdoverEstimate_leaves (b : Blind g) (be : BlindEstimate g) (s : State) :
    ∃ v < 2, Leaves g (fun r => r = .TIM_HO_DRIFT ∨ r = .TIM_HO_FREQ) (fun _ => False)
      (s.setFld .TIM_SEL_STATUS F.TIM_SEL_STATUS_DRIFT_VALID v) s.holdoverEstimate := by
  unfold State.holdoverEstimate
  extract_lets avg l used m span driftOk v r src w n q tc src2 x f
  refine ⟨if driftOk then 1 else 0, by split <;> decide, ?_⟩
  have hr : Leaves g (fun r => r = .TIM_HO_DRIFT ∨ r = .TIM_HO_FREQ) (fun _ => False) v r.1 := Leaves.refl.roundFree b _ _
  have hw : Leaves g (fun r => r = .TIM_HO_DRIFT ∨ r = .TIM_HO_FREQ) (fun _ => False) v w :=
    .ite ((hr.put b (.inl rfl) _).of_kept (be.drift _ _ _)) .refl
  have hq : Leaves g (fun r => r = .TIM_HO_DRIFT ∨ r = .TIM_HO_FREQ) (fun _ => False) v q.1 := hw.roundFree b _ _
  have hx : Leaves g (fun r => r = .TIM_HO_DRIFT ∨ r = .TIM_HO_FREQ) (fun _ => False) v x := hq.of_kept (be.mean _ _ _)
  exact .ite hw ((hx.roundFree b _ _).put b (.inr rfl) _)

namespace Leaves

section
variable (b : Blind g) (bl : BlindSel g)
include b bl

theorem setSel (h : Leaves g R K s u) (x : Sel) : Leaves g R K s (u.setSel x) := h.of_kept (bl.sel u _)

theorem setY (h : Leaves g R K s u) (y : Int) : Leaves g R K s (u.setY y) := h.of_kept (bl.servo u _ _)

theorem loopEval (h : Leaves g R K s u) (he : R .TIM_SERVO_ERR) (k : Nat) (e : Int) : Leaves g R K s (u.loopEval k e) := by
  unfold State.loopEval
  extract_lets l x dt r1 i r2 big src v r3
  have h2 : Leaves g R K s r2.1 := (h.roundFree b _ _).roundFree b _ _
  have hv : Leaves g R K s v := h2.setSel b bl _
  exact ((hv.roundFree b _ _).put b he _).setY b bl _

theorem settle (h : Leaves g R K s u) (hs : R .TIM_SEL_STATUS) : Leaves g R K s u.settle :=
  .ite h (.ite ((h.setFld b hs _ _).setSel b bl _) h)

theorem loopSample (h : Leaves g R K s u) (he : R .TIM_SERVO_ERR) (hs : R .TIM_SEL_STATUS) (k : Nat) (e : Int) :
    Leaves g R K s (u.loopSample k e) := .ite ((h.loopEval b bl he _ _).settle b bl hs) h

theorem holdoverY (h : Leaves g R K s u) : Leaves g R K s u.holdoverY.1 := by
  unfold State.holdoverY
  extract_lets l r
  have hr : Leaves g R K s r.1 := h.roundFree b _ _
  split
  · exact hr
  · exact h

theorem holdoverEstimate (h : Leaves g R K s u) (hR : ∀ r, strobeReg r → R r) : Leaves g R K s u.holdoverEstimate := by
  obtain ⟨v, -, hv⟩ := holdoverEstimate_leaves b bl.estimate u
  exact (h.setFld b (hR .TIM_SEL_STATUS trivial) _ v).trans (hv.weaken (fun r hr => hR r (by rcases hr with rfl | rfl <;> trivial)) fun _ => False.elim)

end

section
variable (b : Blind g) (bl : BlindLoop g)
include b bl

theorem putSlot (h : Leaves g R K s u) (k : Nat) (x : Slot) : Leaves g R K s (u.putSlot k x) := h.of_kept (bl.slots u _)

theorem setRef (h : Leaves g R K s u) {k : Nat} (hk : R (.TIM_REF_STATUS k)) (f : Fld) (v : Nat) : Leaves g R K s (u.setRef k f v) :=
  h.setFld b hk f v

theorem timeWords (h : Leaves g R K s u) (offs : List Int) : Leaves g R K s (u.timeWords offs) :=
  foldl_keeps (P := Leaves g R K s) _ _ h fun w _ _ hw => .ite (hw.of_kept (bl.copies w _)) hw

theorem freqLost (h : Leaves g R K s u) {k : Nat} (hk : R (.TIM_REF_STATUS k)) : Leaves g R K s (u.freqLost k) :=
  (h.setRef b bl hk _ _).putSlot b bl _ _

theorem addSample (h : Leaves g R K s u) (k : Nat) (t e : Int) : Leaves g R K s (u.addSample k t e) := h.putSlot b bl _ _

theorem enterQual (h : Leaves g R K s u) {k : Nat} (hk : R (.TIM_REF_STATUS k)) (w : Bool) : Leaves g R K s (u.enterQual k w) :=
  (((h.setRef b bl hk _ _).setRef b bl hk _ _).setRef b bl hk _ _).putSlot b bl _ _

theorem failSlot (h : Leaves g R K s u) {k : Nat} (hk : R (.TIM_REF_STATUS k)) (hs : R .TIM_SEL_STATUS) (hc : K (C.refFaults k)) (arm : Bool) :
    Leaves g R K s (u.failSlot k arm) := by
  unfold State.failSlot
  extract_lets active v src w src2 x
  have hv : Leaves g R K s v := (h.setRef b bl hk _ _).setRef b bl hk _ _
  have hw : Leaves g R K s w := .ite (hv.putSlot b bl _ _) hv
  have hx : Leaves g R K s x := .ite ((hw.setFld b hs _ _).setSel b bl.toBlindSel _) hw
  exact hx.count b hc

theorem slotOff (h : Leaves g R K s u) {k : Nat} (hk : R (.TIM_REF_STATUS k)) (hs : R .TIM_SEL_STATUS) : Leaves g R K s (u.slotOff k) := by
  have hv : Leaves g R K s ((u.put (.TIM_REF_STATUS k) (u.get (.TIM_REF_STATUS k) &&& faultMask (u.refKind k))).putSlot k
      { idleSlot with lastEdge := (u.slot k).lastEdge }) := (h.put b hk _).putSlot b bl _ _
  exact .ite (hv.setFld b hs _ _) hv

theorem freqFault (h : Leaves g R K s u) {k : Nat} (hk : R (.TIM_REF_STATUS k)) : Leaves g R K s (u.freqFault k) :=
  .ite (h.setRef b bl hk _ _) (.ite (h.setRef b bl hk _ _) h)

theorem slotStep (h : Leaves g R K s u) {k : Nat} (hk : R (.TIM_REF_STATUS k)) (hs : R .TIM_SEL_STATUS) (hc : K (C.refFaults k)) :
    Leaves g R K s (u.slotStep k) := by
  unfold State.slotStep
  extract_lets v
  have hv : Leaves g R K s v := .ite h (h.freqFault b bl hk)
  refine .ite (h.slotOff b bl hk hs) ?_
  split
  · exact .ite hv (.ite (hv.setRef b bl hk _ _) (hv.enterQual b bl hk _))
  · exact .ite hv (hv.enterQual b bl hk _)
  · exact .ite (hv.failSlot b bl hk hs hc _) (.ite ((hv.setRef b bl hk _ _).setRef b bl hk _ _) hv)
  · exact .ite (hv.failSlot b bl hk hs hc _) hv
  · exact .ite (hv.failSlot b bl hk hs hc _) hv
  · exact hv

theorem portFault (h : Leaves g R K s u) {k : Nat} (hk : R (.TIM_REF_STATUS k)) : Leaves g R K s (u.portFault k) :=
  .ite h (.ite (h.setRef b bl hk _ _) (.ite h ((h.setRef b bl hk _ _).freqLost b bl hk)))

theorem clkStrobe (h : Leaves g R K s u) {k : Nat} (hk : R (.TIM_REF_STATUS k)) (he : R .TIM_SERVO_ERR) (hs : R .TIM_SEL_STATUS) :
    Leaves g R K s (u.clkStrobe k) := by
  unfold State.clkStrobe
  refine .ite h ?_
  extract_lets x period m
  split
  · extract_lets o v w e
    have hv : Leaves g R K s v := h.putSlot b bl _ _
    have hw : Leaves g R K s w := .ite (hv.setRef b bl hk _ _) hv
    exact (hw.addSample b bl _ _ _).loopSample b bl.toBlindSel he hs _ _
  · exact h.putSlot b bl _ _

theorem selFlags (h : Leaves g R K s u) (hR : ∀ r, strobeReg r → R r) : Leaves g R K s u.selFlags :=
  foldl_keeps (P := Leaves g R K s) _ _ (h.setFld b (hR .TIM_SEL_STATUS trivial) _ _) fun _ k hk hv =>
    hv.setRef b bl (hR (.TIM_REF_STATUS k) (List.mem_range.mp hk)) _ _

end

section
variable (b : Blind g)
include b

theorem setSelState (h : Leaves g R K s u) (hs : R .TIM_SEL_STATUS) (hS : ∀ r, signalReg r → R r) (hE : ∀ id, eventCnt id → K id) (v : Nat) :
    Leaves g R K s (u.setSelState v) := by
  unfold State.setSelState
  extract_lets old w x y
  have hw : Leaves g R K s w := h.setFld b hs _ _
  have hx : Leaves g R K s x := .ite (((hw.setFld b hs _ _).clearCode b hS hE _).clearCode b hS hE _) (.ite (hw.clearCode b hS hE _) hw)
  have hy : Leaves g R K s y := .ite hx (hx.setFld b hs _ _)
  exact .ite h (.irqEvent b (.ite hy (hy.setFld b hs _ _)) hS (by decide))

theorem disagree (h : Leaves g R K s u) (hR : ∀ r, strobeReg r → R r) (hK : ∀ id, strobeCnt id → K id) : Leaves g R K s u.disagree := by
  have hS : ∀ r, signalReg r → R r := fun r hr => hR r (strobeReg_of_signalReg hr)
  have hE : ∀ id, eventCnt id → K id := fun id he => hK id (.inl he)
  have hs := hR .TIM_SEL_STATUS trivial
  exact .ite (.ite h ((h.setFld b hs _ _).event b hS hE (by decide) _ _)) ((h.setFld b hs _ _).eventClear b hS hE _ _)

theorem releaseActive (h : Leaves g R K s u) (hR : ∀ r, strobeReg r → R r) : Leaves g R K s u.releaseActive := by
  unfold State.releaseActive State.activeSlot
  split
  · next a ha => exact h.setFld b (hR (.TIM_REF_STATUS a) (List.mem_range.mp (List.mem_of_find?_eq_some ha))) _ _
  · exact h

variable (bl : BlindSel g)
include bl

theorem enterLocked (h : Leaves g R K s u) (hR : ∀ r, strobeReg r → R r) (hK : ∀ id, strobeCnt id → K id) : Leaves g R K s u.enterLocked :=
  (h.setSelState b (hR .TIM_SEL_STATUS trivial) (fun r hr => hR r (strobeReg_of_signalReg hr)) (fun id he => hK id (.inl he)) 3).holdoverEstimate b bl hR

theorem loseTarget (h : Leaves g R K s u) (hR : ∀ r, strobeReg r → R r) (hK : ∀ id, strobeCnt id → K id) : Leaves g R K s u.loseTarget := by
  have hS : ∀ r, signalReg r → R r := fun r hr => hR r (strobeReg_of_signalReg hr)
  have hE : ∀ id, eventCnt id → K id := fun id he => hK id (.inl he)
  unfold State.loseTarget
  extract_lets a v r w src x
  have hv : Leaves g R K s v := (h.releaseActive b hR).setFld b (hR .TIM_SEL_STATUS trivial) _ _
  have hr : Leaves g R K s r.1 := hv.holdoverY b bl
  have hw : Leaves g R K s w := (hr.setY b bl _).setSelState b (hR .TIM_SEL_STATUS trivial) hS hE 4
  have hx : Leaves g R K s x := hw.setSel b bl _
  exact .ite ((hx.count b (hK _ (.inr (.inl rfl)))).event b hS hE (by decide) _ _)
    (((hv.setY b bl _).setSelState b (hR .TIM_SEL_STATUS trivial) hS hE 1).event b hS hE (by decide) _ _)

end
end Leaves

end Sys2Proof
end

section
/-! PROOF. Time commands, the strobe that applies them, and the ticks of a slew (R320, R322, R368). -/
namespace Sys2Proof

open Sys2Proof.Machine

set_option Elab.async false

variable {s u v t : State} {h : Nat}

/-! ## A command is taken -/

theorem wrote_plain {r : Reg} (hi : r.imaged = false) (x : Word) : wrote s r x = s.put r (r.written (s.get r) x) := by
  unfold wrote State.noteImage
  split
  · rw [hi]
    rfl
  · rfl

/-- The word of the value registers. -/
def heldValue (s : State) : Word64 := (s.get .TIM_SAF_VAL_H).setWidth 64 <<< 32 ||| (s.get .TIM_SAF_VAL_L).setWidth 64

/-- The state after the word of a command is held. -/
def commanded (s : State) (x : Word) : State := s.put .TIM_SAF_CMD (Reg.TIM_SAF_CMD.written (s.get .TIM_SAF_CMD) x)

theorem safWrite_eq (he : ExpertWindow s h) {x : Word} (hp : Passes s h .TIM_SAF_CMD x) {op : Nat} (ho : F.TIM_SAF_CMD_OP.get x = op) :
    s.safWrite .window op x = (commanded s x).safTake op := by
  have hw : wrote s .TIM_SAF_CMD x = commanded s x := wrote_plain rfl x
  have ha : asks F.TIM_SAF_CMD_OP x op = true := by rw [asks, ho]; exact beq_self_eq_true op
  have hq : ((commanded s x).safTake op).boot.resetReq = none := by
    have hb : ((commanded s x).safTake op).boot = s.boot := by
      unfold State.safTake
      split
      · split <;> rfl
      · rfl
    rw [hb, he.noReset]
  rw [State.safWrite, if_pos ha, rowWriteReg_expert he hp rfl nofun nofun rfl, hw]
  have hr : (commanded s x).writeAction h .TIM_SAF_CMD (s.get .TIM_SAF_CMD) x = (commanded s x).safTake op := by rw [← ho]; rfl
  rw [hr, takeReset_of_none hq]

/-- Nothing but the two registers and the command changes. -/
theorem safTake_leaves (s : State) (x : Word) (op : Nat) :
    let t := (commanded s x).safTake op
    t = { s with regs := t.regs, masked := t.masked, tim := { s.tim with cmd := t.tim.cmd } } ∧ KeepsRegs [.TIM_SAF_CMD, .TIM_SAF_STATUS] s t := by
  have hk : Keeps (fun r => r = .TIM_SAF_CMD ∨ r = .TIM_SAF_STATUS) s (commanded s x) := Keeps.refl.put (.inl rfl) _
  have key : ∀ {t : State}, Keeps (fun r => r = .TIM_SAF_CMD ∨ r = .TIM_SAF_STATUS) s t → KeepsRegs [.TIM_SAF_CMD, .TIM_SAF_STATUS] s t :=
    fun hk q hq => hk q fun r hr => hq r (by simpa using hr)
  unfold State.safTake
  split
  · split
    · exact ⟨rfl, key (hk.of_regs.setFld (.inr rfl) _ _)⟩
    · next hc =>
      refine ⟨?_, key hk⟩
      rfl
  · exact ⟨rfl, key (hk.of_regs.setFld (.inr rfl) _ _)⟩

theorem commanded_regsOk (hs : StoresCanonical s) (x : Word) : (commanded s x).regsOk := (hs.put _ _).regs

theorem heldValue_commanded (s : State) (x : Word) : heldValue (commanded s x) = heldValue s := by
  unfold heldValue commanded
  rw [get_put_off (r := .TIM_SAF_CMD) (q := .TIM_SAF_VAL_H) rfl rfl nofun, get_put_off (r := .TIM_SAF_CMD) (q := .TIM_SAF_VAL_L) rfl rfl nofun]

/-! ## A strobe applies it (R322, R368) -/

/-- What the rest of a strobe leaves of time. -/
def clockView (s : State) : Time × Nat × Nat × Option (Nat × Word64) × Pair := (s.tim.t, s.tim.tick, s.tim.stepSeq, s.tim.cmd, s.pair)

theorem clockView_blind : Blind clockView := ⟨fun _ _ _ _ _ _ _ => rfl, fun _ _ => rfl, fun _ _ => rfl⟩
theorem clockView_blindStep : BlindStep clockView := ⟨fun _ _ => rfl, fun _ _ => rfl, fun _ _ => rfl⟩
theorem clockView_blindLoop : BlindLoop clockView := ⟨⟨fun _ _ => rfl, fun _ _ _ => rfl⟩, fun _ _ => rfl, fun _ _ => rfl⟩

/-- Time, the command and the fields of TIM_SAF_STATUS beside SLEWING are as they were. -/
structure Clocked (s t : State) : Prop where
  view : clockView t = clockView s
  saf : ∀ f : Fld, F.TIM_SAF_STATUS_SLEWING.apart f = true → f.lo + f.w ≤ 32 → t.fld .TIM_SAF_STATUS f = s.fld .TIM_SAF_STATUS f
  canon : StoresCanonical t

/-- The changes of a strobe apart from the end of a slew. -/
abbrev Strobes (s t : State) : Prop := Leaves clockView strobeReg (fun _ => True) s t

namespace Clocked

theorem step (hc : Clocked s u) (hl : Strobes u v) (hv : Evolves u v) : Clocked s v :=
  ⟨hl.view.trans hc.view, fun f ha hf =>
    (congrArg f.get (hl.regs.get (fun _ => strobeReg_indexOk) (q := .TIM_SAF_STATUS) rfl nofun)).trans (hc.saf f ha hf), hv.stores hc.canon⟩

theorem slewEnd (hc : Clocked s u) : Clocked s u.slewEnd := by
  unfold State.slewEnd
  split
  · exact ⟨hc.view, fun f ha hf => (fld_setFld_beside hc.canon.regs ha hf).trans (hc.saf f ha hf), hc.canon.setFld _ _ _⟩
  · exact hc

theorem settle (hc : Clocked s u) : Clocked s u.settle :=
  hc.step (Leaves.refl.settle clockView_blind clockView_blindLoop.toBlindSel trivial) Evolves.refl.settle

theorem selDecide (hc : Clocked s u) (k : Nat) (again : Bool) : Clocked s (u.selDecide k again) := by
  have b := clockView_blind
  have bl := clockView_blindLoop
  unfold State.selDecide
  extract_lets l old lost expired v r w valid x src y z
  have hv : Clocked s v := hc.step (Leaves.refl.setSel b bl.toBlindSel _) (Evolves.refl.setSel _)
  have hr : Clocked s r.1 := hv.step (Leaves.refl.holdoverY b bl.toBlindSel) Evolves.refl.holdoverY
  have hw : Clocked s w := by
    unfold w
    split
    · exact hr.step (Leaves.refl.setY b bl.toBlindSel _) (Evolves.refl.setY _)
    · exact hv
  have hx : Clocked s x := by
    unfold x
    split
    · exact hw
    · exact hw.step (Leaves.refl.setFld b trivial _ _) (Evolves.refl.setFld ..)
  clear_value x
  have hx0 : Clocked s ({ x with tim := { x.tim with slew := 0 } }) := ⟨hx.view, hx.saf, (Evolves.refl.tim _).stores hx.canon⟩
  have hy : Clocked s y := hx0.slewEnd
  have hz : Clocked s z :=
    (hy.step (Leaves.refl.setSelState b trivial (fun _ => strobeReg_of_signalReg) (fun _ _ => trivial) 2) (Evolves.refl.setSelState 2)).step
      (Leaves.refl.setFld b trivial _ _) (Evolves.refl.setFld ..)
  exact hz.step (Leaves.refl.setFld b trivial _ _) (Evolves.refl.setFld ..)

theorem selectionEval (hc : Clocked s u) : Clocked s u.selectionEval := by
  have b := clockView_blind
  have bl := clockView_blindLoop
  have hR : ∀ r, strobeReg r → strobeReg r := fun _ => id
  have hK : ∀ id, strobeCnt id → True := fun _ _ => trivial
  have lose {w : State} (hw : Clocked s w) : Clocked s w.loseTarget := hw.step (Leaves.refl.loseTarget b bl.toBlindSel hR hK) Evolves.refl.loseTarget
  have setY {w : State} (hw : Clocked s w) (y : Int) : Clocked s (w.setY y) := hw.step (Leaves.refl.setY b bl.toBlindSel y) (Evolves.refl.setY y)
  unfold State.selectionEval
  refine keep_ite hc ?_
  split
  · exact keep_ite ((setY hc 0).step (Leaves.refl.setSelState b trivial (fun _ => strobeReg_of_signalReg) (fun _ _ => trivial) 1) (Evolves.refl.setSelState 1)) hc
  · extract_lets v target cur w x src r
    have hv : Clocked s v := hc.step (Leaves.refl.disagree b hR hK) Evolves.refl.disagree
    have hw : Clocked s w := hv.step (Leaves.refl.count b trivial) (Evolves.refl.count _)
    have hx : Clocked s x := (setY hw _).step (Leaves.refl.enterLocked b bl.toBlindSel hR hK) Evolves.refl.enterLocked
    have hr : Clocked s r.1 := hv.step (Leaves.refl.holdoverY b bl.toBlindSel) Evolves.refl.holdoverY
    clear_value target
    refine keep_ite (keep_ite hv ?_) ?_
    · split
      · exact lose hw
      · exact keep_ite (hx.step (Leaves.refl.setSel b bl.toBlindSel _) (Evolves.refl.setSel _)) (hw.selDecide ..)
    · split
      · exact keep_ite (lose hv) (keep_ite (setY hr _) hv)
      · exact keep_ite hv.settle (hv.selDecide ..)

end Clocked

/-- With no hand-over due, a strobe leaves time as the command has put it. -/
theorem stewardActs_clocked (hs : StoresCanonical s) (he : s.engineOn = true) (hp : s.safApply.pair.cause = none) (offs : List Int) :
    Clocked s.safApply (s.stewardActs offs) := by
  have b := clockView_blind
  have bl := clockView_blindLoop
  have hm {n k : Nat} (hk : k ∈ List.range n) (hn : n ≤ 8 := by decide) : k < 8 := (List.mem_range.mp hk).trans_le hn
  unfold State.stewardActs
  rw [if_pos he]
  extract_lets u1 u2 u3
  have h1 : Strobes s.safApply u1 := Leaves.refl.timeWords b bl offs
  have h2 : Strobes s.safApply u2 := foldl_keeps (P := Strobes s.safApply) _ _ h1 fun w k hk hw =>
    hw.clkStrobe b bl (R := strobeReg) (hm hk) trivial trivial
  have h3 : Strobes s.safApply u3 := foldl_keeps (P := Strobes s.safApply) _ _
    (foldl_keeps (P := Strobes s.safApply) _ _ h2 fun w k hk hw => hw.portFault b bl (R := strobeReg) (hm hk)) fun w k hk hw =>
    hw.slotStep b bl (R := strobeReg) (hm hk) trivial trivial
  have e3 : Evolves s.safApply u3 := by
    have e1 : Evolves s.safApply u1 := Evolves.refl.timeWords offs
    have e2 : Evolves s.safApply u2 := e1.foldl fun _ _ hy => hy.clkStrobe _
    exact (e2.foldl fun _ _ hy => hy.portFault _).foldl fun _ _ hy => hy.slotStep _
  have h0 : Clocked s.safApply s.safApply := ⟨rfl, fun _ _ _ => rfl, Evolves.refl.safApply.stores hs⟩
  have h4 : Clocked s.safApply (u3.selFlags.selectionEval.settle) :=
    ((h0.step h3 e3).step (Leaves.refl.selFlags b bl fun _ => id) Evolves.refl.selFlags).selectionEval.settle
  have hc : u3.selFlags.selectionEval.settle.pair.cause = none := by
    have hv := congrArg (fun x : Time × Nat × Nat × Option (Nat × Word64) × Pair => x.2.2.2.2.cause) h4.view
    exact hv.trans hp
  have hh : u3.selFlags.selectionEval.settle.handOver = u3.selFlags.selectionEval.settle := by
    unfold State.handOver
    rw [hc]
    rfl
  rw [hh]
  exact h4

/-! ## What a pending command does -/

/-- The command is taken up, before it is done. -/
def takenUp (s : State) : State := { s with tim := { s.tim with cmd := none } }

theorem safApply_refused {op : Nat} {w : Word64} (hc : s.tim.cmd = some (op, w)) (hs : s.selState = 2 ∨ s.selState = 3) :
    s.safApply = (takenUp s).setFld .TIM_SAF_STATUS F.TIM_SAF_STATUS_CMD_RESULT 2 := by
  rw [State.safApply, hc]
  exact if_pos hs

/-- The command is not refused: CMD_RESULT says so. -/
def granted (s : State) : State := (takenUp s).setFld .TIM_SAF_STATUS F.TIM_SAF_STATUS_CMD_RESULT 0

/-- A slew ended and the alignment gone, before T is stepped. -/
def unslewed (s : State) : State :=
  (({ granted s with tim := { (granted s).tim with slew := 0 } }).setFld .TIM_SAF_STATUS F.TIM_SAF_STATUS_SLEWING 0).setFld
    .TIM_SEL_STATUS F.TIM_SEL_STATUS_ALIGNED 0

theorem safApply_slew {w : Word64} (hc : s.tim.cmd = some (3, w)) (hs : ¬ (s.selState = 2 ∨ s.selState = 3)) :
    s.safApply = ({ granted s with tim := { (granted s).tim with slew := signed64 w * 2 ^ 16 } }).setFld .TIM_SAF_STATUS
      F.TIM_SAF_STATUS_SLEWING 1 := by
  rw [State.safApply, hc]
  exact if_neg hs

theorem safApply_set {w : Word64} (hc : s.tim.cmd = some (1, w)) (hs : ¬ (s.selState = 2 ∨ s.selState = 3)) :
    s.safApply = ((unslewed s).stepTo (w.toNat * 2 ^ 32 : Nat)).setFld .TIM_SAF_STATUS F.TIM_SAF_STATUS_TIME_SET 1 := by
  rw [State.safApply, hc]
  exact if_neg hs

theorem safApply_step {w : Word64} (hc : s.tim.cmd = some (2, w)) (hs : ¬ (s.selState = 2 ∨ s.selState = 3)) :
    s.safApply = (unslewed s).stepTo ((unslewed s).t32 + signed64 w * 2 ^ 16) := by
  unfold State.safApply
  rw [hc]
  dsimp only
  exact (if_neg hs).trans ((if_neg (by decide)).trans (if_neg (by decide)))

theorem unslewed_t32 (s : State) : (unslewed s).t32 = s.t32 := rfl

theorem granted_result (hs : s.regsOk) : (granted s).fld .TIM_SAF_STATUS F.TIM_SAF_STATUS_CMD_RESULT = 0 :=
  fld_setFld_lt (s := takenUp s) hs (by decide) (by decide)

theorem unslewed_result (hs : s.regsOk) : (unslewed s).fld .TIM_SAF_STATUS F.TIM_SAF_STATUS_CMD_RESULT = 0 := by
  have h1 : (granted s).regsOk := regsOk_setFld (s := takenUp s) hs
  rw [unslewed, fld_setFld_off (r := .TIM_SEL_STATUS) (q := .TIM_SAF_STATUS) rfl rfl nofun,
    fld_setFld_beside (s := { granted s with tim := { (granted s).tim with slew := 0 } }) h1 (by decide) (by decide)]
  exact granted_result hs

/-- A step of T leaves the other fields of the core's status. -/
theorem stepTo_clock (x : Int) : clockView (s.stepTo x) = (BitVec.ofInt 96 x, s.tim.tick, s.tim.stepSeq + 1, s.tim.cmd, s.pair) ∧
    (s.stepTo x).get .TIM_SAF_STATUS = s.get .TIM_SAF_STATUS := by
  have hl := stepTo_leaves (R := stepReg) (K := fun _ => True) clockView_blind clockView_blindStep (fun _ => id) trivial trivial s x
  refine ⟨hl.view.trans ?_, hl.regs.get (fun _ => stepReg_indexOk) (q := .TIM_SAF_STATUS) rfl nofun⟩
  have hv : clockView (stepped s x) = ((stepped s x).tim.t, s.tim.tick, s.tim.stepSeq + 1, s.tim.cmd, s.pair) := rfl
  rw [hv, stepped_t]

/-- What a strobe's command does to time and to CMD_RESULT (R322, R368). -/
structure Applied (s t : State) (op : Nat) (w : Word64) : Prop where
  cmd : t.tim.cmd = none
  tick : t.tim.tick = s.tim.tick
  refused : s.selState = 2 ∨ s.selState = 3 → t.fld .TIM_SAF_STATUS F.TIM_SAF_STATUS_CMD_RESULT = 2 ∧ t.tim.t = s.tim.t ∧
    t.tim.stepSeq = s.tim.stepSeq
  granted : s.selState ≠ 2 → s.selState ≠ 3 → t.fld .TIM_SAF_STATUS F.TIM_SAF_STATUS_CMD_RESULT = 0
  set : s.selState ≠ 2 → s.selState ≠ 3 → op = 1 → t.tim.t = BitVec.ofNat 96 (w.toNat * 2 ^ 32) ∧ t.tim.stepSeq = s.tim.stepSeq + 1 ∧
    t.fld .TIM_SAF_STATUS F.TIM_SAF_STATUS_TIME_SET = 1
  step : s.selState ≠ 2 → s.selState ≠ 3 → op = 2 → t.tim.t = BitVec.ofInt 96 (s.t32 + w.toInt * 2 ^ 16) ∧
    t.tim.stepSeq = s.tim.stepSeq + 1
  slew : s.selState ≠ 2 → s.selState ≠ 3 → op = 3 → t.tim.t = s.tim.t ∧ t.tim.stepSeq = s.tim.stepSeq

theorem Applied.clocked {op : Nat} {w : Word64} (h : Applied s u op w) (hc : Clocked u t) : Applied s t op w := by
  obtain ⟨h1, h2, h3, h4, h5, h6, h7⟩ := h
  have hv := hc.view
  simp only [clockView, Prod.mk.injEq] at hv
  obtain ⟨ht, htick, hseq, hcmd, -⟩ := hv
  have hr := hc.saf F.TIM_SAF_STATUS_CMD_RESULT (by decide) (by decide)
  have hset := hc.saf F.TIM_SAF_STATUS_TIME_SET (by decide) (by decide)
  exact ⟨hcmd.trans h1, htick.trans h2, by rwa [hr, ht, hseq], by rwa [hr], by rwa [ht, hseq, hset], by rwa [ht, hseq], by rwa [ht, hseq]⟩

theorem refused_applied (hs : s.regsOk) (hsel : s.selState = 2 ∨ s.selState = 3) (op : Nat) (w : Word64) :
    Applied s ((takenUp s).setFld .TIM_SAF_STATUS F.TIM_SAF_STATUS_CMD_RESULT 2) op w := by
  have no {P : Prop} (h2 : s.selState ≠ 2) (h3 : s.selState ≠ 3) : P := (hsel.elim h2 h3).elim
  exact ⟨rfl, rfl, fun _ => ⟨fld_setFld_lt (s := takenUp s) hs (by decide) (by decide), rfl, rfl⟩, no, fun h2 h3 _ => no h2 h3,
    fun h2 h3 _ => no h2 h3, fun h2 h3 _ => no h2 h3⟩

/-- T is stepped by a command. -/
theorem unslewed_stepTo (hs : StoresCanonical s) (x : Int) :
    let t := (unslewed s).stepTo x
    clockView t = (BitVec.ofInt 96 x, s.tim.tick, s.tim.stepSeq + 1, none, s.pair) ∧
    t.fld .TIM_SAF_STATUS F.TIM_SAF_STATUS_CMD_RESULT = 0 ∧ t.regsOk := by
  intro t
  obtain ⟨hv, hg⟩ := stepTo_clock (s := unslewed s) x
  have hu : StoresCanonical (unslewed s) :=
    StoresCanonical.setFld (StoresCanonical.setFld ((Evolves.refl.tim _).stores (StoresCanonical.setFld ((Evolves.refl.tim _).stores hs) ..)) ..) ..
  exact ⟨hv, (congrArg F.TIM_SAF_STATUS_CMD_RESULT.get hg).trans (unslewed_result hs.regs), ((Evolves.refl.stepTo x).stores hu).regs⟩

theorem set_applied (hs : StoresCanonical s) (hsel : ¬ (s.selState = 2 ∨ s.selState = 3)) (w : Word64) {n : Nat} (hn : n = w.toNat * 2 ^ 32) :
    Applied s (((unslewed s).stepTo n).setFld .TIM_SAF_STATUS F.TIM_SAF_STATUS_TIME_SET 1) 1 w := by
  obtain ⟨hv, hr, hok⟩ := unslewed_stepTo hs n
  rw [BitVec.ofInt_natCast] at hv
  generalize (unslewed s).stepTo n = u at hv hr hok
  simp only [clockView, Prod.mk.injEq] at hv
  obtain ⟨ht, htick, hseq, hcmd, -⟩ := hv
  rw [hn] at ht
  exact ⟨hcmd, htick, fun h => absurd h hsel, fun _ _ => (fld_setFld_beside hok (by decide) (by decide)).trans hr,
    fun _ _ _ => ⟨ht, hseq, fld_setFld_lt hok (by decide) (by decide)⟩, nofun, nofun⟩

theorem step_applied (hs : StoresCanonical s) (hsel : ¬ (s.selState = 2 ∨ s.selState = 3)) (w : Word64) :
    Applied s ((unslewed s).stepTo ((unslewed s).t32 + signed64 w * 2 ^ 16)) 2 w := by
  obtain ⟨hv, hr, -⟩ := unslewed_stepTo hs ((unslewed s).t32 + signed64 w * 2 ^ 16)
  generalize (unslewed s).stepTo ((unslewed s).t32 + signed64 w * 2 ^ 16) = u at hv hr
  simp only [clockView, Prod.mk.injEq, unslewed_t32] at hv
  obtain ⟨ht, htick, hseq, hcmd, -⟩ := hv
  exact ⟨hcmd, htick, fun h => absurd h hsel, fun _ _ => hr, nofun, fun _ _ _ => ⟨ht, hseq⟩, nofun⟩

theorem slew_applied (hs : s.regsOk) (hsel : ¬ (s.selState = 2 ∨ s.selState = 3)) (w : Word64) (x : Int) :
    Applied s (({ granted s with tim := { (granted s).tim with slew := x } }).setFld .TIM_SAF_STATUS F.TIM_SAF_STATUS_SLEWING 1) 3 w := by
  have h1 : (granted s).regsOk := regsOk_setFld (s := takenUp s) hs
  have hr := (fld_setFld_beside (s := { granted s with tim := { (granted s).tim with slew := x } }) (r := .TIM_SAF_STATUS) (v := 1) h1
    (by decide : F.TIM_SAF_STATUS_SLEWING.apart F.TIM_SAF_STATUS_CMD_RESULT = true) (by decide)).trans (granted_result hs)
  exact ⟨rfl, rfl, fun h => absurd h hsel, fun _ _ => hr, nofun, nofun, fun _ _ _ => ⟨rfl, rfl⟩⟩

theorem safApply_pair (hs : StoresCanonical s) {op : Nat} {w : Word64} (hc : s.tim.cmd = some (op, w)) (ho : op = 1 ∨ op = 2 ∨ op = 3) :
    s.safApply.pair = s.pair := by
  have hp : ∀ x : Int, ((unslewed s).stepTo x).pair = s.pair := fun x =>
    congrArg (fun x : Time × Nat × Nat × Option (Nat × Word64) × Pair => x.2.2.2.2) (unslewed_stepTo hs x).1
  by_cases hsel : s.selState = 2 ∨ s.selState = 3
  · rw [safApply_refused hc hsel]
    rfl
  · rcases ho with rfl | rfl | rfl
    · rw [safApply_set hc hsel, State.setFld_pair]
      exact hp _
    · rw [safApply_step hc hsel]
      exact hp _
    · rw [safApply_slew hc hsel]
      rfl

theorem safApply_applied (hs : StoresCanonical s) {op : Nat} {w : Word64} (hc : s.tim.cmd = some (op, w)) (ho : op = 1 ∨ op = 2 ∨ op = 3) :
    Applied s s.safApply op w := by
  by_cases hsel : s.selState = 2 ∨ s.selState = 3
  · rw [safApply_refused hc hsel]
    exact refused_applied hs.regs hsel op w
  · rcases ho with rfl | rfl | rfl
    · rw [safApply_set hc hsel]
      exact set_applied hs hsel w rfl
    · rw [safApply_step hc hsel]
      exact step_applied hs hsel w
    · rw [safApply_slew hc hsel]
      exact slew_applied hs.regs hsel w _

theorem stewardActs_applied (hs : StoresCanonical s) (he : s.engineOn = true) {op : Nat} {w : Word64} (hc : s.tim.cmd = some (op, w))
    (ho : op = 1 ∨ op = 2 ∨ op = 3) (hp : s.pair.cause = none) (offs : List Int) : Applied s (s.stewardActs offs) op w := by
  exact (safApply_applied hs hc ho).clocked (stewardActs_clocked hs he (by rw [safApply_pair hs hc ho, hp]) offs)

/-! ## A tick -/

theorem clampInc_range (x : Int) : -(2 ^ 20) ≤ clampInc x ∧ clampInc x ≤ 2 ^ 20 := by
  unfold clampInc
  omega

theorem clampInc_of_small {x : Int} (h : x.natAbs ≤ 2 ^ 20) : clampInc x = x := by
  unfold clampInc
  omega

/-- One tick of an active engine, before a slew that has ended is shown. -/
def ticked (s : State) : State :=
  { s with tim := { s.tim with t := s.tim.t + BitVec.ofNat 96 s.inc.toNat, tick := s.tim.tick + 1, slew := s.tim.slew - s.slewPart } }

theorem saffronTick_engine (he : s.engineOn = true) : s.saffronTick = (ticked s).slewEnd := by
  have ht : s.tim.ticking = true := (Bool.and_eq_true_iff.mp he).1
  rw [State.saffronTick, if_neg (by simp [ht]), if_neg (by simp [he])]
  rfl

/-! ## The commands, the strobe and a read of T -/

theorem exec_safCommand (he : ExpertWindow s h) {x : Word} (hp : Passes s h .TIM_SAF_CMD x) {c : Instr}
    (hm : (c, F.TIM_SAF_CMD_OP.get x) ∈ [(Instr.safSet .window x, 1), (.safStep .window x, 2), (.safSlew .window x, 3), (.safCancel .window x, 0)]) :
    exec c s = .next ((commanded s x).safTake (F.TIM_SAF_CMD_OP.get x)) := by
  simp only [List.mem_cons, Prod.mk.injEq, List.not_mem_nil, or_false] at hm
  rcases hm with ⟨rfl, ho⟩ | ⟨rfl, ho⟩ | ⟨rfl, ho⟩ | ⟨rfl, ho⟩
  all_goals
    rw [ho]
    exact congrArg Host.Outcome.next (safWrite_eq he hp ho)

/-- A command other than a cancel is pending, with the value then held. -/
theorem safTake_pending (hs : StoresCanonical s) (x : Word) {op : Nat} (ho : op ≠ 0) :
    ((commanded s x).safTake op).tim.cmd = some (op, heldValue s) ∧
    ((commanded s x).safTake op).fld .TIM_SAF_STATUS F.TIM_SAF_STATUS_CMD_RESULT = 1 := by
  have hok := commanded_regsOk hs x
  have hv := heldValue_commanded s x
  generalize commanded s x = u at hok hv
  rw [State.safTake, if_neg ho, ← hv]
  exact ⟨rfl, fld_setFld_lt (s := { u with tim := { u.tim with cmd := some (op, heldValue u) } }) hok (by decide) (by decide)⟩

/-- A cancel drops what is pending. -/
theorem safTake_cancel (hs : StoresCanonical s) (x : Word) :
    ((commanded s x).safTake 0).tim.cmd = none ∧
    (s.tim.cmd ≠ none → ((commanded s x).safTake 0).fld .TIM_SAF_STATUS F.TIM_SAF_STATUS_CMD_RESULT = 0) := by
  have hok := commanded_regsOk hs x
  have hc : (commanded s x).tim.cmd = s.tim.cmd := rfl
  generalize commanded s x = u at hok hc
  rw [State.safTake, if_pos rfl, ← hc]
  split
  · exact ⟨rfl, fun _ => fld_setFld_lt (s := { u with tim := { u.tim with cmd := none } }) hok (by decide) (by decide)⟩
  · next h => exact ⟨h, fun hn => absurd h hn⟩

theorem safTake_zero_rest (x : Word) : let t := (commanded s x).safTake 0
    t = { s with regs := t.regs, masked := t.masked, tim := { s.tim with cmd := none } } := by
  unfold State.safTake
  rw [if_pos rfl]
  split
  · rfl
  · next hc =>
    have hs : s.tim = { s.tim with cmd := none } := by
      have hc : s.tim.cmd = none := hc
      rw [← hc]
    rw [← hs]
    rfl

theorem exec_stewardStrobe_early {offs : List Int} (h1 : s.sysclkStrobes = false) (h2 : s.nowNs < s.tim.nextStw) :
    exec (.stewardStrobe offs) s = .next s := by
  have hx : exec (.stewardStrobe offs) s = execStewardStrobe offs s := rfl
  rw [hx, execStewardStrobe, if_neg (by simp [h1]), if_pos h2]

/-- The state whose strobe acts: the strobe of T is planned again, or that of SYSCLK_IN is counted. -/
def strobed (s : State) : State :=
  if s.tim.unlocked then { s with tim := { s.tim with strobes := s.tim.strobes + 1 } } else { s with tim := { s.tim with nextStw := s.nextMultiple 1000 } }

theorem exec_stewardStrobe_due {offs : List Int} (he : s.engineOn = true)
    (hd : (s.tim.unlocked = false ∧ s.tim.nextStw ≤ s.nowNs) ∨ (s.tim.unlocked = true ∧ s.boot.begun = true)) :
    exec (.stewardStrobe offs) s = .next ((strobed s).stewardActs offs) := by
  have ht : s.tim.ticking = true := (Bool.and_eq_true_iff.mp he).1
  have hx : exec (.stewardStrobe offs) s = execStewardStrobe offs s := rfl
  rw [hx, execStewardStrobe]
  rcases hd with ⟨hu, hn⟩ | ⟨hu, hb⟩
  · rw [if_neg (by simp [State.sysclkStrobes, ht, hu]), if_neg (by omega), strobed, if_neg (by simp [hu])]
  · rw [if_pos (by simp [State.sysclkStrobes, hu]), if_neg (by simp [hb]), strobed, if_pos hu]
    exact congrArg Host.Outcome.next (if_pos ht)

/-- A command applies as in the state before the strobe is planned. -/
theorem strobed_applied {op : Nat} {w : Word64} (ha : Applied (strobed s) t op w) : Applied s t op w := by
  unfold strobed at ha
  split at ha
  · exact ⟨ha.cmd, ha.tick, ha.refused, ha.granted, ha.set, ha.step, ha.slew⟩
  · exact ⟨ha.cmd, ha.tick, ha.refused, ha.granted, ha.set, ha.step, ha.slew⟩

theorem strobed_same : StoresCanonical s → StoresCanonical (strobed s) ∧ (strobed s).engineOn = s.engineOn ∧ (strobed s).tim.cmd = s.tim.cmd ∧
    (strobed s).pair = s.pair := by
  intro hs
  unfold strobed
  split
  · exact ⟨(Evolves.refl.tim _).stores hs, rfl, rfl, rfl⟩
  · exact ⟨(Evolves.refl.tim _).stores hs, rfl, rfl, rfl⟩

/-- The registers of T latched by a read of its fraction (R320). -/
def latchedTime (s : State) : State :=
  (s.put .TIM_SAF_TIME_L (BitVec.ofNat 32 s.nowNs)).put .TIM_SAF_TIME_H (BitVec.ofNat 32 (s.nowNs / 2 ^ 32))

theorem fraction_seen (n : Nat) : BitVec.ofNat 32 (n % 65536) &&& (0x0000FFFF#32) = BitVec.ofNat 32 (n % 65536) := by
  apply BitVec.eq_of_toNat_eq
  have h : n % 65536 < 2 ^ 16 := Nat.mod_lt _ (by decide)
  rw [BitVec.toNat_and, BitVec.toNat_ofNat, Nat.mod_eq_of_lt (by omega : n % 65536 < 2 ^ 32)]
  exact (Nat.and_two_pow_sub_one_eq_mod _ 16).trans (Nat.mod_eq_of_lt h)

theorem exec_safTimeRead (he : ExpertWindow s h) :
    exec (.safTimeRead .window) s = .next ((latchedTime s).emit (.readData (BitVec.ofNat 32 (s.now16 % 65536)))) := by
  obtain ⟨y, hy, hrole⟩ := he.holder
  have hm : Reg.TIM_SAF_TIME_F.fieldMask &&& ~~~(Reg.TIM_SAF_TIME_F.maskOf fun f => f.acc == .wo) &&& ~~~(eMask (.sess h 3) .TIM_SAF_TIME_F) =
      0x0000FFFF#32 := by
    simp only [eMask, Who.seesE, Who.role, beq_self_eq_true, Bool.true_or, if_true]
    decide
  have hr : s.readReg (.sess h 3) .TIM_SAF_TIME_F = (latchedTime s, BitVec.ofNat 32 (s.now16 % 65536)) := by
    have hi : s.instIn s.curSel .TIM_SAF_TIME_F = true := rfl
    have ha : s.readActing (.sess h 3) .TIM_SAF_TIME_F = (latchedTime s, BitVec.ofNat 32 (s.now16 % 65536)) := rfl
    simp only [State.readReg, hi, Bool.not_true, Bool.false_eq_true, if_false, ha]
    rw [hm, fraction_seen]
  have hd : decodeAddr Reg.TIM_SAF_TIME_F.addr = some .TIM_SAF_TIME_F := decodeAddr_addr rfl nofun
  have ha : s.readAddr (.sess h 3) Reg.TIM_SAF_TIME_F.addr = (latchedTime s, 0, BitVec.ofNat 32 (s.now16 % 65536)) := by
    simp only [State.readAddr, hd, Who.role, hr]
    rfl
  have hx : exec (.safTimeRead .window) s = .next (s.readOut .window Reg.TIM_SAF_TIME_F.addr) := rfl
  rw [hx, readOut_of_holder hy he.up he.live he.stewards, hrole, ha]
  exact congrArg Host.Outcome.next (if_pos rfl)

theorem latchedTime_leaves (hs : StoresCanonical s) (d : Word) : let t := (latchedTime s).emit (.readData d)
    t.get .TIM_SAF_TIME_L = BitVec.ofNat 32 s.nowNs ∧ t.get .TIM_SAF_TIME_H = BitVec.ofNat 32 (s.nowNs / 2 ^ 32) ∧
    t.out = Output.readData d :: s.out ∧ t = { s with regs := t.regs, out := t.out } ∧ KeepsRegs [.TIM_SAF_TIME_L, .TIM_SAF_TIME_H] s t := by
  intro t
  have hm : t.masked = s.masked := by
    have h1 : (latchedTime s).masked = s.masked :=
      (State.masked_put_plain _ _ _ rfl).trans (State.masked_put_plain _ _ _ rfl)
    exact h1
  have hk : Keeps (fun r => r = .TIM_SAF_TIME_L ∨ r = .TIM_SAF_TIME_H) s t := ((Keeps.refl.put (.inl rfl) _).put (.inr rfl) _).of_regs
  refine ⟨?_, State.get_put_self _ _ _ (hs.put _ _).regs, rfl, ?_, fun q hq => hk q fun r hr => hq r (by simpa using hr)⟩
  · have h1 : t.get .TIM_SAF_TIME_L = (s.put .TIM_SAF_TIME_L (BitVec.ofNat 32 s.nowNs)).get .TIM_SAF_TIME_L :=
      get_put_off (r := .TIM_SAF_TIME_H) (q := .TIM_SAF_TIME_L) rfl rfl nofun _
    exact h1.trans (State.get_put_self _ _ _ hs.regs)
  · have h2 : t = { s with regs := t.regs, out := t.out, masked := t.masked } := rfl
    rw [hm] at h2
    exact h2

/-! ## A slew at its end (R322) -/

theorem slewPart_last (h1 : s.tim.slew.natAbs < s.slewStep) (h2 : (s.tim.servo + s.tim.slew).natAbs ≤ 2 ^ 20) : s.slewPart = s.tim.slew := by
  rw [State.slewPart, State.slewAsk, if_pos h1, clampInc_of_small h2]
  omega

theorem exec_slewComplete_last (hs : s.regsOk) (he : s.engineOn = true) (h0 : s.tim.slew ≠ 0) (h1 : s.tim.slew.natAbs < s.slewStep)
    (h2 : (s.tim.servo + s.tim.slew).natAbs ≤ 2 ^ 20) :
    ∃ t, exec .slewComplete s = .next t ∧ t.tim.slew = 0 ∧ t.fld .TIM_SAF_STATUS F.TIM_SAF_STATUS_SLEWING = 0 ∧
      t.tim.t = s.tim.t + BitVec.ofNat 96 (2 ^ 32 + s.tim.servo + s.tim.slew).toNat ∧ t.tim.tick = s.tim.tick + 1 := by
  have hp := slewPart_last h1 h2
  have hslew : (ticked s).tim.slew = 0 := by
    have h : (ticked s).tim.slew = s.tim.slew - s.slewPart := rfl
    rw [h, hp, sub_self]
  have hend : (ticked s).slewEnd = (ticked s).setFld .TIM_SAF_STATUS F.TIM_SAF_STATUS_SLEWING 0 := if_pos hslew
  have hx : exec .slewComplete s = .next ((ticked s).setFld .TIM_SAF_STATUS F.TIM_SAF_STATUS_SLEWING 0) := by
    have hx : exec .slewComplete s = execSlewComplete s := rfl
    rw [hx, execSlewComplete, if_pos (by simp [he, h0, h1]), saffronTick_engine he, hend]
  refine ⟨_, hx, hslew, fld_setFld_lt (s := ticked s) hs (by decide) (by decide), ?_, rfl⟩
  have ht : (ticked s).tim.t = s.tim.t + BitVec.ofNat 96 s.inc.toNat := rfl
  rw [State.setFld_tim, ht, State.inc, hp]

theorem exec_slewComplete_idle (h : s.tim.slew = 0 ∨ s.engineOn = false) : exec .slewComplete s = .next s := by
  have hx : exec .slewComplete s = execSlewComplete s := rfl
  rw [hx, execSlewComplete, if_neg]
  rcases h with h | h <;> simp [h]

theorem saffronTick_range (he : s.engineOn = true) (hsv : s.tim.servo.natAbs ≤ 2 ^ 20) :
    2 ^ 32 - 2 ^ 20 ≤ s.inc ∧ s.inc ≤ 2 ^ 32 + 2 ^ 20 ∧ s.saffronTick.tim.t = s.tim.t + BitVec.ofNat 96 s.inc.toNat ∧
      s.saffronTick.tim.slew = s.tim.slew - s.slewPart ∧ s.saffronTick.tim.tick = s.tim.tick + 1 := by
  obtain ⟨h1, h2⟩ := clampInc_range (s.tim.servo + s.slewAsk)
  have hi : s.inc = 2 ^ 32 + clampInc (s.tim.servo + s.slewAsk) := by
    rw [State.inc, State.slewPart]
    ring
  rw [saffronTick_engine he, slewEnd_tim]
  exact ⟨by omega, by omega, rfl, rfl, rfl⟩

/-- Settles O41: time commands are taken through the window, applied at a strobe and refused while selection has a slot; a read latches T. -/
theorem timeCommandsTaken : Obligations.TimeCommandsTaken := by
  unfold Obligations.TimeCommandsTaken
  refine ⟨?_, fun s offs => exec_stewardStrobe_early, ?_, ?_, ?_⟩
  · intro s h x hs he hp held op
    refine ⟨fun c hc => ?_, fun ho => ?_⟩
    · have hne : op ≠ 0 := by
        intro h0
        simp [h0] at hc
      have hx := exec_safCommand he hp (c := c) (by
        simp only [List.mem_cons, List.not_mem_nil, or_false] at hc ⊢
        tauto)
      obtain ⟨h1, h2⟩ := safTake_pending hs x hne
      obtain ⟨h3, h4⟩ := safTake_leaves s x op
      exact ⟨_, hx, h1, h2, h3, h4⟩
    · have hx := exec_safCommand he hp (c := .safCancel .window x) (by rw [show F.TIM_SAF_CMD_OP.get x = 0 from ho]; simp)
      rw [show F.TIM_SAF_CMD_OP.get x = 0 from ho] at hx
      obtain ⟨h1, h2⟩ := safTake_cancel hs x
      exact ⟨_, hx, h1, h2, safTake_zero_rest x, (safTake_leaves s x 0).2⟩
  · intro s op w offs hs he hd hc ho hp
    obtain ⟨k1, k2, k3, k4⟩ := strobed_same hs
    have ha := strobed_applied (stewardActs_applied k1 (k2.trans he) (k3.trans hc) ho (k4 ▸ hp) offs)
    refine ⟨_, exec_stewardStrobe_due he hd, ha.cmd, ha.tick, ha.refused, fun h2 h3 => ⟨ha.granted h2 h3, ha.set h2 h3, ha.step h2 h3, fun h => ?_⟩⟩
    subst h
    obtain ⟨e1, e2⟩ := ha.slew h2 h3 rfl
    have hok : (granted s).regsOk := regsOk_setFld (s := takenUp s) hs.regs
    rw [safApply_slew hc fun h => h.elim h2 h3]
    exact ⟨e1, e2, rfl, fld_setFld_lt (s := { granted s with tim := { (granted s).tim with slew := signed64 w * 2 ^ 16 } }) hok (by decide)
      (by decide)⟩
  · intro s h hs he
    exact ⟨_, exec_safTimeRead he, latchedTime_leaves hs _⟩
  · intro s hs
    exact ⟨exec_slewComplete_last hs, exec_slewComplete_idle, saffronTick_range⟩

end Sys2Proof
end

section
/-! PROOF. The commit of a switch, the phase at it, and the holdover store (R366, R367, R372, R373, R375). -/
namespace Sys2Proof

open Sys2Proof.Machine

set_option Elab.async false

variable {α : Type} {g : State → α} {s u v t : State} {k : Nat} {e : Int}

/-! ## Fields of TIM_SEL_STATUS -/

/-- A field of TIM_SEL_STATUS is put: it reads the value, and the fields beside it read as before. -/
theorem selPut {f : Fld} {x : Nat} (hs : u.regsOk) (hf : f.lo + f.w ≤ 32) (hx : x < 2 ^ f.w) :
    (u.setFld .TIM_SEL_STATUS f x).fld .TIM_SEL_STATUS f = x ∧
    ∀ q : Fld, f.apart q = true → q.lo + q.w ≤ 32 → (u.setFld .TIM_SEL_STATUS f x).fld .TIM_SEL_STATUS q = u.fld .TIM_SEL_STATUS q :=
  ⟨fld_setFld_lt hs hf hx, fun _ ha hq => fld_setFld_beside hs ha hq⟩

/-! ## LOCKED is entered -/

/-- The registers that the entry to LOCKED writes beside TIM_SEL_STATUS. -/
def lockReg : Reg → Prop
  | .TIM_HO_DRIFT | .TIM_HO_FREQ => True
  | r => signalReg r

theorem lockReg_of_signalReg {r : Reg} (h : signalReg r) : lockReg r := by
  cases r with
  | TIM_HO_DRIFT | TIM_HO_FREQ => exact h.elim
  | _ => exact h

theorem lockReg_indexOk {r : Reg} (h : lockReg r) : r.indexOk = true := by
  cases r with
  | TIM_HO_DRIFT | TIM_HO_FREQ => rfl
  | _ => exact signalReg_indexOk h

/-- From SWITCHING, the entry to LOCKED puts the state and whether DRIFT is valid. -/
theorem enterLocked_leaves (b : Blind g) (be : BlindEstimate g) (h2 : s.selState = 2) :
    ∃ u, ∃ x < 2, Leaves g lockReg (fun _ => False) (s.setFld .TIM_SEL_STATUS F.TIM_SEL_STATUS_STATE 3) u ∧
      Leaves g lockReg (fun _ => False) (u.setFld .TIM_SEL_STATUS F.TIM_SEL_STATUS_DRIFT_VALID x) s.enterLocked ∧
      Evolves (s.setFld .TIM_SEL_STATUS F.TIM_SEL_STATUS_STATE 3) u := by
  have hs : s.setSelState 3 = (s.setFld .TIM_SEL_STATUS F.TIM_SEL_STATUS_STATE 3).irqEvent 88 := by
    unfold State.setSelState
    rw [h2]
    rfl
  obtain ⟨x, hx, hl⟩ := holdoverEstimate_leaves b be (s.setSelState 3)
  refine ⟨s.setSelState 3, x, hx, ?_, hl.weaken (fun r hr => by rcases hr with rfl | rfl <;> trivial) (fun _ => id), ?_⟩
  · rw [hs]
    exact Leaves.refl.irqEvent b (fun _ => lockReg_of_signalReg) (by decide)
  · rw [hs]
    exact Evolves.refl.irqEvent 88

/-- What the entry to LOCKED leaves. -/
theorem enterLocked_spec (b : Blind g) (be : BlindEstimate g) (hs : StoresCanonical s) (h2 : s.selState = 2) :
    g s.enterLocked = g s ∧ s.enterLocked.selState = 3 ∧ (∀ id, s.enterLocked.counter id = s.counter id) ∧
    (∀ q : Reg, q.indexOk = true → ¬ lockReg q → q ≠ .TIM_SEL_STATUS → s.enterLocked.get q = s.get q) ∧
    ∀ f : Fld, F.TIM_SEL_STATUS_STATE.apart f = true → F.TIM_SEL_STATUS_DRIFT_VALID.apart f = true → f.lo + f.w ≤ 32 →
      s.enterLocked.fld .TIM_SEL_STATUS f = s.fld .TIM_SEL_STATUS f := by
  obtain ⟨u, x, hx, h1, h3, hev⟩ := enterLocked_leaves b be h2
  have hsel : ¬ lockReg .TIM_SEL_STATUS := nofun
  have hok : u.regsOk := (hev.stores (hs.setFld ..)).regs
  have p1 := selPut (u := s) (f := F.TIM_SEL_STATUS_STATE) (x := 3) hs.regs (by decide) (by decide)
  have p2 := selPut (u := u) (f := F.TIM_SEL_STATUS_DRIFT_VALID) (x := x) hok (by decide) hx
  have g1 : u.get .TIM_SEL_STATUS = _ := h1.regs.get (fun _ => lockReg_indexOk) rfl hsel
  have g3 : s.enterLocked.get .TIM_SEL_STATUS = _ := h3.regs.get (fun _ => lockReg_indexOk) rfl hsel
  have key : ∀ f : Fld, F.TIM_SEL_STATUS_DRIFT_VALID.apart f = true → f.lo + f.w ≤ 32 →
      s.enterLocked.fld .TIM_SEL_STATUS f = (s.setFld .TIM_SEL_STATUS F.TIM_SEL_STATUS_STATE 3).fld .TIM_SEL_STATUS f := fun f ha hf =>
    (congrArg f.get g3).trans ((p2.2 f ha hf).trans (congrArg f.get g1))
  refine ⟨?_, (key _ (by decide) (by decide)).trans p1.1, fun id => ?_, fun q hq hl hne => ?_, fun f ha hd hf => (key f hd hf).trans (p1.2 f ha hf)⟩
  · refine h3.view.trans ?_
    have e1 : g (u.setFld .TIM_SEL_STATUS F.TIM_SEL_STATUS_DRIFT_VALID x) = g u :=
      b.signals u (u.setFld .TIM_SEL_STATUS F.TIM_SEL_STATUS_DRIFT_VALID x).regs (u.setFld .TIM_SEL_STATUS F.TIM_SEL_STATUS_DRIFT_VALID x).masked
        u.cnt u.hlt u.irq u.out
    have e2 : g (s.setFld .TIM_SEL_STATUS F.TIM_SEL_STATUS_STATE 3) = g s :=
      b.signals s (s.setFld .TIM_SEL_STATUS F.TIM_SEL_STATUS_STATE 3).regs (s.setFld .TIM_SEL_STATUS F.TIM_SEL_STATUS_STATE 3).masked
        s.cnt s.hlt s.irq s.out
    exact e1.trans (h1.view.trans e2)
  · exact (h3.cnts id not_false).trans (h1.cnts id not_false)
  · refine (h3.regs.get (fun _ => lockReg_indexOk) hq hl).trans ?_
    rw [get_setFld_off rfl hq (Ne.symm hne)]
    refine (h1.regs.get (fun _ => lockReg_indexOk) hq hl).trans ?_
    rw [get_setFld_off rfl hq (Ne.symm hne)]

/-! ## The phase at a commit (R372, R373) -/

/-- The registers that the phase at a commit may write. -/
def phaseReg : Reg → Prop
  | .TIM_PJ_LAST | .TIM_PJ_ABSORBED | .TIM_SEL_STATUS | .TIM_SAF_STATUS => True
  | r => stepReg r

/-- The counters that it may advance. -/
def phaseCnt (id : Nat) : Prop := eventCnt id ∨ id = C.ladderYield 2 ∨ id = C.ladderYield 6 ∨ id = C.selPhaseJumps

theorem phaseReg_of_stepReg {r : Reg} (h : stepReg r) : phaseReg r := by
  cases r with
  | TIM_PJ_LAST | TIM_PJ_ABSORBED | TIM_SEL_STATUS | TIM_SAF_STATUS => exact h.elim
  | _ => exact h

theorem phaseReg_indexOk {r : Reg} (h : phaseReg r) : r.indexOk = true := by
  cases r with
  | TIM_PJ_LAST | TIM_PJ_ABSORBED | TIM_SEL_STATUS | TIM_SAF_STATUS => rfl
  | _ => exact stepReg_indexOk h

/-- What the phase at a commit leaves of time. -/
def phaseView (s : State) : Nat × Int := (s.tim.tick, s.tim.sel.y)

theorem phaseView_blind : Blind phaseView := ⟨fun _ _ _ _ _ _ _ => rfl, fun _ _ => rfl, fun _ _ => rfl⟩
theorem phaseView_blindStep : BlindStep phaseView := ⟨fun _ _ => rfl, fun _ _ => rfl, fun _ _ => rfl⟩

/-- What the phase at a commit leaves: the tick and y, and the fields of TIM_SEL_STATUS beside ALIGNED and PHASE_JUMP. -/
structure Phased (s t : State) : Prop where
  leaves : Leaves phaseView phaseReg phaseCnt s t
  sel : ∀ f : Fld, F.TIM_SEL_STATUS_ALIGNED.apart f = true → F.TIM_SEL_STATUS_PHASE_JUMP.apart f = true → f.lo + f.w ≤ 32 →
    t.fld .TIM_SEL_STATUS f = s.fld .TIM_SEL_STATUS f
  canon : StoresCanonical t

namespace Phased

theorem refl (hs : StoresCanonical s) : Phased s s := ⟨.refl, fun _ _ _ _ => rfl, hs⟩

theorem trans (h : Phased s u) (h' : Phased u v) : Phased s v :=
  ⟨h.leaves.trans h'.leaves, fun f h1 h2 h3 => (h'.sel f h1 h2 h3).trans (h.sel f h1 h2 h3), h'.canon⟩

/-- A change that does not write TIM_SEL_STATUS. -/
theorem step (h : Phased s u) (hl : Leaves phaseView phaseReg phaseCnt u v) (hg : v.get .TIM_SEL_STATUS = u.get .TIM_SEL_STATUS)
    (hv : Evolves u v) : Phased s v :=
  h.trans ⟨hl, fun f _ _ _ => congrArg f.get hg, hv.stores h.canon⟩

theorem putSel (h : Phased s u) {f : Fld} (hf : f = F.TIM_SEL_STATUS_ALIGNED ∨ f = F.TIM_SEL_STATUS_PHASE_JUMP) (x : Nat) :
    Phased s (u.setFld .TIM_SEL_STATUS f x) := by
  refine h.trans ⟨Leaves.refl.setFld phaseView_blind trivial _ _, fun q h1 h2 h3 => fld_setFld_beside h.canon.regs ?_ h3, h.canon.setFld ..⟩
  rcases hf with rfl | rfl
  · exact h1
  · exact h2

theorem stepTo (h : Phased s u) (x : Int) : Phased s (u.stepTo x) := by
  have hl := stepTo_leaves (R := stepReg) (K := phaseCnt) phaseView_blind phaseView_blindStep (fun _ => id) (.inr (.inl rfl))
    (.inr (.inr (.inl rfl))) u x
  refine h.step ?_ (hl.regs.get (fun _ => stepReg_indexOk) rfl nofun) (Evolves.refl.stepTo x)
  have h0 : Leaves phaseView phaseReg phaseCnt u (stepped u x) := Leaves.refl.of_kept rfl
  exact h0.trans (hl.weaken (fun _ => phaseReg_of_stepReg) fun _ => id)

end Phased

/-- A step of T: the new time, and STEP_SEQ one more; the loop's offset stays. -/
theorem stepTo_time (s : State) (x : Int) :
    (s.stepTo x).tim.t = BitVec.ofInt 96 x ∧ (s.stepTo x).tim.stepSeq = s.tim.stepSeq + 1 ∧ (s.stepTo x).tim.sel.aOff = s.tim.sel.aOff := by
  let view (s : State) : Time × Nat × Int := (s.tim.t, s.tim.stepSeq, s.tim.sel.aOff)
  have hl := stepTo_leaves (g := view) (R := stepReg) (K := fun _ => True) ⟨fun _ _ _ _ _ _ _ => rfl, fun _ _ => rfl, fun _ _ => rfl⟩
    ⟨fun _ _ => rfl, fun _ _ => rfl, fun _ _ => rfl⟩ (fun _ => id) trivial trivial s x
  have hv : view (s.stepTo x) = ((stepped s x).tim.t, s.tim.stepSeq + 1, s.tim.sel.aOff) := hl.view
  rw [stepped_t] at hv
  simp only [view, Prod.mk.injEq] at hv
  exact hv

theorem stepTo_counter (s : State) (x : Int) {id : Nat} (h2 : id ≠ C.ladderYield 2) (h6 : id ≠ C.ladderYield 6) :
    (s.stepTo x).counter id = s.counter id :=
  (stepTo_leaves (g := fun _ => ()) (R := stepReg) (K := fun id => id = C.ladderYield 2 ∨ id = C.ladderYield 6)
    ⟨fun _ _ _ _ _ _ _ => rfl, fun _ _ => rfl, fun _ _ => rfl⟩ ⟨fun _ _ => rfl, fun _ _ => rfl, fun _ _ => rfl⟩ (fun _ h => h) (.inl rfl)
    (.inr rfl) s x).cnts id (not_or.mpr ⟨h2, h6⟩)

/-- One of the two integers beside a quotient (log 94). -/
theorem roundFree_beside (s : State) (n : Int) {d : Int} (hd : 0 < d) :
    n / d ≤ (s.roundFree n d).2 ∧ ((s.roundFree n d).2 - 1) * d < n := by
  have h1 : n / d ≤ freeIn s.free (n / d) (-(-n / d)) := Int.le_max_left _ _
  refine ⟨h1, ?_⟩
  have h2 : -n / d * d ≤ -n := Int.ediv_mul_le (-n) hd.ne'
  have h3 : -n < -n / d * d + d := Int.lt_ediv_add_one_mul_self (-n) hd |>.trans_eq (by ring)
  have h4 : n / d * d ≤ n := Int.ediv_mul_le n hd.ne'
  have hle : freeIn s.free (n / d) (-(-n / d)) ≤ -(-n / d) := by
    refine max_le ?_ (min_le_left _ _)
    by_contra hc
    have : (-(-n / d) + 1) * d ≤ n / d * d := mul_le_mul_of_nonneg_right (by omega) hd.le
    nlinarith
  have h5 : (freeIn s.free (n / d) (-(-n / d)) - 1) * d ≤ (-(-n / d) - 1) * d := mul_le_mul_of_nonneg_right (by omega) hd.le
  change (freeIn s.free (n / d) (-(-n / d)) - 1) * d < n
  nlinarith

/-- A phase jump is shown, in its register, and counted. -/
theorem notePhaseJump_spec (b : Blind g) (hs : StoresCanonical s) (k : Nat) (e : Int) :
    let t := s.notePhaseJump k e
    g t = g s ∧ Phased s t ∧ t.fld .TIM_SEL_STATUS F.TIM_SEL_STATUS_PHASE_JUMP = 1 ∧
    (∃ v, e / 2 ^ 16 ≤ v ∧ (v - 1) * 2 ^ 16 < e ∧ t.get .TIM_PJ_LAST = sat32 v) ∧ CountedOnce C.selPhaseJumps s t := by
  unfold State.notePhaseJump
  extract_lets r t
  have hp := (Phased.refl hs).putSel (.inr rfl) 1
  have hr : r.1.get .TIM_SEL_STATUS = (s.setFld .TIM_SEL_STATUS F.TIM_SEL_STATUS_PHASE_JUMP 1).get .TIM_SEL_STATUS := rfl
  have hcanon : StoresCanonical r.1 := (Evolves.refl.roundFree ..).stores hp.canon
  have hput : (r.1.put .TIM_PJ_LAST (sat32 r.2)).get .TIM_SEL_STATUS = r.1.get .TIM_SEL_STATUS := get_put_off (r := .TIM_PJ_LAST) (q := .TIM_SEL_STATUS) rfl rfl nofun _
  have hsig : Signals [] [] ((r.1.put .TIM_PJ_LAST (sat32 r.2)).count C.selPhaseJumps) t := Signals.refl.event (by decide) _ _
  have hsel : t.get .TIM_SEL_STATUS = r.1.get .TIM_SEL_STATUS :=
    (hsig.regs .TIM_SEL_STATUS (not_signalAddr rfl nofun nofun nofun) nofun).1.trans hput
  have hlast : t.get .TIM_PJ_LAST = sat32 r.2 :=
    (hsig.regs .TIM_PJ_LAST (not_signalAddr rfl nofun nofun nofun) nofun).1.trans (State.get_put_self _ _ _ hcanon.regs)
  have all {β : Type} {g : State → β} (b : Blind g) : Leaves g phaseReg phaseCnt s t :=
    ((((Leaves.refl.setFld b (r := .TIM_SEL_STATUS) trivial _ _).roundFree b _ _).put b (r := .TIM_PJ_LAST) trivial _).count b (.inr (.inr (.inr rfl)))).event b
      (fun _ h => phaseReg_of_stepReg (stepReg_of_signalReg h)) (fun _ => .inl) (by decide) _ _
  refine ⟨(all b).view, ⟨all phaseView_blind, fun f h1 h2 h3 => ?_, ?_⟩, ?_, ⟨r.2, ?_⟩, ?_⟩
  · exact (congrArg f.get (hsel.trans hr)).trans (fld_setFld_beside hs.regs h2 h3)
  · exact (((Evolves.refl.put ..).count _).event ..).stores hcanon
  · exact (congrArg _ (hsel.trans hr)).trans (fld_setFld_lt hs.regs (by decide) (by decide))
  · obtain ⟨h1, h2⟩ := roundFree_beside (s.setFld .TIM_SEL_STATUS F.TIM_SEL_STATUS_PHASE_JUMP 1) e (d := 2 ^ 16) (by decide)
    exact ⟨h1, h2, hlast⟩
  · have hc : CountedOnce C.selPhaseJumps s (s.count C.selPhaseJumps) := countedOnce_count hs _
    exact countedOnce_of_counter (u := s.count C.selPhaseJumps) hc (hsig.cnts _ (by decide) (by decide)).symm

/-- The slot's phase is free: a frequency-only reference. -/
def freeKind (s : State) (k : Nat) : Prop := s.refKind k ≠ 0 ∧ s.refKind k ≠ 4

/-- An alignment holds for the slot's kind. -/
def alignedTo (s : State) (k : Nat) : Prop :=
  s.fld .TIM_SEL_STATUS F.TIM_SEL_STATUS_ALIGNED = 1 ∧ (s.refKind k = 0 ∨ s.fld .TIM_SAF_STATUS F.TIM_SAF_STATUS_TIME_SET = 1)

/-- The offset of the loop cleared, before the phase is taken. -/
def unabsorbed (s : State) : State := (s.setSel { s.tim.sel with aOff := 0 }).put .TIM_PJ_ABSORBED 0#32

theorem unabsorbed_get {q : Reg} (hq : q.indexOk = true) (hn : q ≠ .TIM_PJ_ABSORBED) : (unabsorbed s).get q = s.get q :=
  get_put_off (s := s.setSel { s.tim.sel with aOff := 0 }) rfl hq (Ne.symm hn) _

theorem unabsorbed_fld {q : Reg} (hq : q.indexOk = true) (hn : q ≠ .TIM_PJ_ABSORBED) (f : Fld) : (unabsorbed s).fld q f = s.fld q f :=
  congrArg f.get (unabsorbed_get hq hn)

theorem unabsorbed_phased (hs : StoresCanonical s) : Phased s (unabsorbed s) := by
  have h0 : Leaves phaseView phaseReg phaseCnt s (s.setSel { s.tim.sel with aOff := 0 }) := Leaves.refl.of_kept rfl
  exact (Phased.refl hs).step (h0.put phaseView_blind (r := .TIM_PJ_ABSORBED) trivial _) (unabsorbed_get rfl nofun)
    ((Evolves.refl.setSel _).put ..)

theorem unabsorbed_kind (hk : k < 8) : (unabsorbed s).refKind k = s.refKind k :=
  unabsorbed_fld (q := .TIM_REF_CFG k) (decide_eq_true hk) nofun _

/-- A phase jump is larger than a tenth of the threshold. -/
def phaseJump (s : State) (e : Int) : Prop := s.fld .TIM_SEL_CFG F.TIM_SEL_CFG_PJ_THRESH * 2 ^ 32 < 10 * e.natAbs

theorem unabsorbed_freeKind (hk : k < 8) : freeKind (unabsorbed s) k ↔ freeKind s k := by
  rw [freeKind, freeKind, unabsorbed_kind hk]

theorem unabsorbed_aligned (hk : k < 8) : alignedTo (unabsorbed s) k ↔ alignedTo s k := by
  rw [alignedTo, alignedTo, unabsorbed_kind hk, unabsorbed_fld (q := .TIM_SEL_STATUS) rfl nofun, unabsorbed_fld (q := .TIM_SAF_STATUS) rfl nofun]

theorem unabsorbed_jump (e : Int) : phaseJump (unabsorbed s) e ↔ phaseJump s e := by
  rw [phaseJump, phaseJump, unabsorbed_fld (q := .TIM_SEL_CFG) rfl nofun]

theorem unabsorbed_mode : (unabsorbed s).fld .TIM_SEL_CFG F.TIM_SEL_CFG_PJ_MODE = s.fld .TIM_SEL_CFG F.TIM_SEL_CFG_PJ_MODE :=
  unabsorbed_fld (q := .TIM_SEL_CFG) rfl nofun _

/-- The target's phase becomes its origin. -/
theorem commitPhase_free (h : freeKind (unabsorbed s) k) (e : Int) : ∃ x, s.commitPhase k e = (unabsorbed s).putSlot k x := ⟨_, if_pos h⟩

/-- The two ways to see that no alignment holds. -/
theorem not_alignedTo_iff (h : ¬ freeKind u k) : (!(u.fld .TIM_SEL_STATUS F.TIM_SEL_STATUS_ALIGNED == 1) ||
    (u.refKind k == 4 && !(u.fld .TIM_SAF_STATUS F.TIM_SAF_STATUS_TIME_SET == 1))) = true ↔ ¬ alignedTo u k := by
  have hk : u.refKind k = 0 ∨ u.refKind k = 4 := by
    simp only [freeKind, not_and, ne_eq, Decidable.not_not] at h
    tauto
  rw [alignedTo]
  rcases hk with hk | hk <;> simp [hk, imp_iff_not_or]

/-- T is aligned to the target. -/
theorem commitPhase_align (h : ¬ freeKind (unabsorbed s) k) (ha : ¬ alignedTo (unabsorbed s) k) (e : Int) :
    let u := ((unabsorbed s).stepTo ((unabsorbed s).t32 - e)).setFld .TIM_SEL_STATUS F.TIM_SEL_STATUS_ALIGNED 1
    s.commitPhase k e = if (unabsorbed s).refKind k = 4 then u.setFld .TIM_SAF_STATUS F.TIM_SAF_STATUS_TIME_SET 1 else u :=
  (if_neg h).trans (if_pos ((not_alignedTo_iff h).mpr ha))

theorem commitPhase_small (h : ¬ freeKind (unabsorbed s) k) (ha : alignedTo (unabsorbed s) k) (hj : ¬ phaseJump (unabsorbed s) e) :
    s.commitPhase k e = unabsorbed s :=
  (if_neg h).trans ((if_neg fun hc => (not_alignedTo_iff h).mp hc ha).trans (if_pos (Nat.le_of_not_lt hj)))

/-- A phase jump is stepped. -/
theorem commitPhase_step (h : ¬ freeKind (unabsorbed s) k) (ha : alignedTo (unabsorbed s) k) (hj : phaseJump (unabsorbed s) e)
    (hm : (unabsorbed s).fld .TIM_SEL_CFG F.TIM_SEL_CFG_PJ_MODE = 0) :
    s.commitPhase k e = ((unabsorbed s).stepTo ((unabsorbed s).t32 - e)).notePhaseJump k e :=
  (if_neg h).trans ((if_neg fun hc => (not_alignedTo_iff h).mp hc ha).trans ((if_neg (Nat.not_le_of_lt hj)).trans (if_pos hm)))

/-- A phase jump absorbed. -/
def absorbed (s : State) (e : Int) : State :=
  let r := (s.setSel { s.tim.sel with aOff := e }).roundFree e (2 ^ 16)
  r.1.put .TIM_PJ_ABSORBED (sat32 r.2)

theorem commitPhase_absorb (h : ¬ freeKind (unabsorbed s) k) (ha : alignedTo (unabsorbed s) k) (hj : phaseJump (unabsorbed s) e)
    (hm : (unabsorbed s).fld .TIM_SEL_CFG F.TIM_SEL_CFG_PJ_MODE ≠ 0) :
    s.commitPhase k e = absorbed ((unabsorbed s).notePhaseJump k e) e :=
  (if_neg h).trans ((if_neg fun hc => (not_alignedTo_iff h).mp hc ha).trans ((if_neg (Nat.not_le_of_lt hj)).trans (if_neg hm)))

theorem absorbed_phased (hs : StoresCanonical s) (e : Int) : Phased s (absorbed s e) ∧
    (∃ v, e / 2 ^ 16 ≤ v ∧ (v - 1) * 2 ^ 16 < e ∧ (absorbed s e).get .TIM_PJ_ABSORBED = sat32 v) ∧
    (absorbed s e).get .TIM_PJ_LAST = s.get .TIM_PJ_LAST ∧ (absorbed s e).get .TIM_SEL_STATUS = s.get .TIM_SEL_STATUS := by
  unfold absorbed
  extract_lets x r
  have hr : StoresCanonical r.1 := ((Evolves.refl.setSel _).roundFree ..).stores hs
  have h0 : Leaves phaseView phaseReg phaseCnt s r.1 := Leaves.refl.of_kept rfl
  obtain ⟨h1, h2⟩ := roundFree_beside (s.setSel { s.tim.sel with aOff := e }) e (d := 2 ^ 16) (by decide)
  have g1 : (r.1.put .TIM_PJ_ABSORBED (sat32 r.2)).get .TIM_SEL_STATUS = r.1.get .TIM_SEL_STATUS :=
    get_put_off (r := .TIM_PJ_ABSORBED) (q := .TIM_SEL_STATUS) rfl rfl nofun _
  refine ⟨(Phased.refl hs).step (h0.put phaseView_blind (r := .TIM_PJ_ABSORBED) trivial _) g1 (((Evolves.refl.setSel _).roundFree ..).put ..),
    ⟨r.2, h1, h2, State.get_put_self _ _ _ hr.regs⟩, ?_, g1⟩
  exact get_put_off (r := .TIM_PJ_ABSORBED) (q := .TIM_PJ_LAST) rfl rfl nofun _

/-- What the phase at a commit does, by the target's kind and the alignment. -/
structure PhaseTaken (s t : State) (k : Nat) (e : Int) : Prop where
  free : freeKind s k → t.tim.t = s.tim.t ∧ t.tim.stepSeq = s.tim.stepSeq
  align : ¬ freeKind s k → ¬ alignedTo s k → t.tim.t = BitVec.ofInt 96 (s.t32 - e) ∧ t.tim.stepSeq = s.tim.stepSeq + 1 ∧
    t.fld .TIM_SEL_STATUS F.TIM_SEL_STATUS_ALIGNED = 1
  small : ¬ freeKind s k → alignedTo s k → ¬ phaseJump s e → t.tim.t = s.tim.t ∧ t.tim.sel.aOff = 0
  jump : ¬ freeKind s k → alignedTo s k → phaseJump s e → CountedOnce C.selPhaseJumps s t ∧
    t.fld .TIM_SEL_STATUS F.TIM_SEL_STATUS_PHASE_JUMP = 1 ∧ (∃ v, e / 2 ^ 16 ≤ v ∧ (v - 1) * 2 ^ 16 < e ∧ t.get .TIM_PJ_LAST = sat32 v) ∧
    (s.fld .TIM_SEL_CFG F.TIM_SEL_CFG_PJ_MODE = 0 → t.tim.t = BitVec.ofInt 96 (s.t32 - e)) ∧
    (s.fld .TIM_SEL_CFG F.TIM_SEL_CFG_PJ_MODE ≠ 0 → t.tim.t = s.tim.t ∧ t.tim.sel.aOff = e ∧
      ∃ v, e / 2 ^ 16 ≤ v ∧ (v - 1) * 2 ^ 16 < e ∧ t.get .TIM_PJ_ABSORBED = sat32 v)

theorem commitPhase_spec (hs : StoresCanonical s) (hk : k < 8) (e : Int) :
    Phased s (s.commitPhase k e) ∧ PhaseTaken s (s.commitPhase k e) k e := by
  have hp := unabsorbed_phased hs
  have ht : (unabsorbed s).t32 = s.t32 := rfl
  have no {P Q : Prop} (h : P) (hn : ¬ P) : Q := absurd h hn
  by_cases hf : freeKind s k
  · obtain ⟨x, hx⟩ := commitPhase_free ((unabsorbed_freeKind hk).mpr hf) e
    rw [hx]
    exact ⟨hp.step (Leaves.refl.of_kept rfl) rfl (Evolves.refl.putSlot ..), fun _ => ⟨rfl, rfl⟩, no hf, no hf, no hf⟩
  have hf' := mt (unabsorbed_freeKind hk).mp hf
  by_cases ha : alignedTo s k
  · have ha' := (unabsorbed_aligned hk).mpr ha
    by_cases hj : phaseJump s e
    · have hj' := (unabsorbed_jump e).mpr hj
      by_cases hm : s.fld .TIM_SEL_CFG F.TIM_SEL_CFG_PJ_MODE = 0
      · rw [commitPhase_step hf' ha' hj' (unabsorbed_mode.trans hm)]
        obtain ⟨h1, h2, -⟩ := stepTo_time (unabsorbed s) ((unabsorbed s).t32 - e)
        have hq := hp.stepTo ((unabsorbed s).t32 - e)
        have hc := stepTo_counter (unabsorbed s) ((unabsorbed s).t32 - e) (id := C.selPhaseJumps) (by decide) (by decide)
        generalize (unabsorbed s).stepTo ((unabsorbed s).t32 - e) = u at h1 h2 hq hc
        obtain ⟨n1, n2, n3, n4, n5⟩ := notePhaseJump_spec (g := fun s => s.tim.t) ⟨fun _ _ _ _ _ _ _ => rfl, fun _ _ => rfl, fun _ _ => rfl⟩
          hq.canon k e
        have hcount : CountedOnce C.selPhaseJumps s (u.notePhaseJump k e) := by
          unfold CountedOnce at n5 ⊢
          rw [n5, hc]
          rfl
        exact ⟨hq.trans n2, fun h => no h hf, fun _ h => no ha h, fun _ _ h => no hj h,
          fun _ _ _ => ⟨hcount, n3, n4, fun _ => n1.trans h1, fun h => no hm h⟩⟩
      · rw [commitPhase_absorb hf' ha' hj' (by rwa [unabsorbed_mode])]
        obtain ⟨n1, n2, n3, n4, n5⟩ := notePhaseJump_spec (g := fun s => s.tim.t) ⟨fun _ _ _ _ _ _ _ => rfl, fun _ _ => rfl, fun _ _ => rfl⟩
          hp.canon k e
        generalize (unabsorbed s).notePhaseJump k e = u at n1 n2 n3 n4 n5
        obtain ⟨a1, a2, a3, a4⟩ := absorbed_phased n2.canon e
        have hcount : CountedOnce C.selPhaseJumps s (absorbed u e) := n5
        exact ⟨(hp.trans n2).trans a1, fun h => no h hf, fun _ h => no ha h, fun _ _ h => no hj h,
          fun _ _ _ => ⟨hcount, (congrArg _ a4).trans n3, by rwa [a3], fun h => no h hm, fun _ => ⟨n1, rfl, a2⟩⟩⟩
    · rw [commitPhase_small hf' ha' (mt (unabsorbed_jump e).mp hj)]
      exact ⟨hp, fun h => no h hf, fun _ h => no ha h, fun _ _ _ => ⟨rfl, rfl⟩, fun _ _ h => no h hj⟩
  · rw [commitPhase_align hf' (mt (unabsorbed_aligned hk).mp ha)]
    obtain ⟨h1, h2, -⟩ := stepTo_time (unabsorbed s) ((unabsorbed s).t32 - e)
    have hq := hp.stepTo ((unabsorbed s).t32 - e)
    generalize (unabsorbed s).stepTo ((unabsorbed s).t32 - e) = u at h1 h2 hq
    have hu := hq.putSel (.inl rfl) 1
    have hA : (u.setFld .TIM_SEL_STATUS F.TIM_SEL_STATUS_ALIGNED 1).fld .TIM_SEL_STATUS F.TIM_SEL_STATUS_ALIGNED = 1 :=
      fld_setFld_lt hq.canon.regs (by decide) (by decide)
    split
    · have hg : ((u.setFld .TIM_SEL_STATUS F.TIM_SEL_STATUS_ALIGNED 1).setFld .TIM_SAF_STATUS F.TIM_SAF_STATUS_TIME_SET 1).get .TIM_SEL_STATUS =
          (u.setFld .TIM_SEL_STATUS F.TIM_SEL_STATUS_ALIGNED 1).get .TIM_SEL_STATUS :=
        get_setFld_off (r := .TIM_SAF_STATUS) (q := .TIM_SEL_STATUS) rfl rfl nofun
      exact ⟨hu.step (Leaves.refl.setFld phaseView_blind (r := .TIM_SAF_STATUS) trivial _ _) hg (Evolves.refl.setFld ..), fun h => no h hf,
        fun _ _ => ⟨h1, h2, (congrArg _ hg).trans hA⟩, fun _ h => no h ha, fun _ h => no h ha⟩
    · exact ⟨hu, fun h => no h hf, fun _ _ => ⟨h1, h2, hA⟩, fun _ h => no h ha, fun _ h => no h ha⟩

/-! ## The commit of a switch (R366) -/

theorem releaseActive_sel (s : State) : s.releaseActive.get .TIM_SEL_STATUS = s.get .TIM_SEL_STATUS := by
  unfold State.releaseActive State.activeSlot
  split
  · next a ha =>
    have ha8 : a < 8 := List.mem_range.mp (List.mem_of_find?_eq_some ha)
    exact get_setFld_off (r := .TIM_REF_STATUS a) (decide_eq_true ha8) rfl nofun
  · rfl

/-- The target is ACTIVE, and named. -/
def switched (s : State) (k : Nat) : State :=
  ((s.releaseActive.setRef k F.TIM_REF_STATUS_STATE 4).setFld .TIM_SEL_STATUS F.TIM_SEL_STATUS_ACTIVE k).setFld .TIM_SEL_STATUS
    F.TIM_SEL_STATUS_SYNTONIZED 0

theorem switched_spec (hs : StoresCanonical s) (hk : k < 8) (g : State → α) (b : Blind g) :
    StoresCanonical (switched s k) ∧ Leaves g strobeReg (fun _ => False) s (switched s k) ∧
    (switched s k).refState k = 4 ∧ (switched s k).fld .TIM_SEL_STATUS F.TIM_SEL_STATUS_ACTIVE = k ∧
    ∀ f : Fld, F.TIM_SEL_STATUS_ACTIVE.apart f = true → F.TIM_SEL_STATUS_SYNTONIZED.apart f = true → f.lo + f.w ≤ 32 →
      (switched s k).fld .TIM_SEL_STATUS f = s.fld .TIM_SEL_STATUS f := by
  have hi : (Reg.TIM_REF_STATUS k).indexOk = true := decide_eq_true hk
  have c0 : StoresCanonical s.releaseActive := Evolves.refl.releaseActive.stores hs
  have c1 : StoresCanonical (s.releaseActive.setRef k F.TIM_REF_STATUS_STATE 4) := c0.setFld ..
  have c2 := c1.setFld .TIM_SEL_STATUS F.TIM_SEL_STATUS_ACTIVE k
  have g1 : (s.releaseActive.setRef k F.TIM_REF_STATUS_STATE 4).get .TIM_SEL_STATUS = s.get .TIM_SEL_STATUS :=
    (get_setFld_off (r := .TIM_REF_STATUS k) (q := .TIM_SEL_STATUS) hi rfl nofun).trans (releaseActive_sel s)
  have p1 := selPut (f := F.TIM_SEL_STATUS_ACTIVE) (x := k) c1.regs (by decide) hk
  have p2 := selPut (f := F.TIM_SEL_STATUS_SYNTONIZED) (x := 0) c2.regs (by decide) (by decide)
  refine ⟨c2.setFld .., ((((Leaves.refl.releaseActive b fun _ => id).setFld b (r := .TIM_REF_STATUS k) hk _ _).setFld b (r := .TIM_SEL_STATUS)
    trivial _ _).setFld b (r := .TIM_SEL_STATUS) trivial _ _), ?_, (p2.2 _ (by decide) (by decide)).trans p1.1, fun f h1 h2 h3 => ?_⟩
  · refine (fld_setFld_off (r := .TIM_SEL_STATUS) (q := .TIM_REF_STATUS k) rfl hi nofun).trans ?_
    refine (fld_setFld_off (r := .TIM_SEL_STATUS) (q := .TIM_REF_STATUS k) rfl hi nofun).trans ?_
    exact fld_setFld_lt c0.regs (by decide) (by decide)
  · exact (p2.2 f h2 h3).trans ((p1.2 f h1 h3).trans (congrArg f.get g1))

/-- The loop starts anew at the commit. -/
def loopBegun (s : State) : State :=
  let u := s.count C.selSwitches
  u.setSel { u.tim.sel with i := -u.tim.sel.y, evalAt := u.t32, lockedAt := u.t32, bigAt := none, faulted := false }

/-- The end of a commit: the loop begins, LOCKED is entered, the slot is valid. -/
def lockDone (s : State) : State := (loopBegun s).enterLocked.setFld .TIM_SEL_STATUS F.TIM_SEL_STATUS_ACTIVE_VALID 1

/-- A commit that takes place. -/
def switchDone (s : State) (k : Nat) (e : Int) : State := lockDone ((switched s k).commitPhase k e)

theorem exec_switchCommit_idle (h : s.selState ≠ 2 ∨ s.engineOn = false ∨ s.qualified = false ∨
    s.refState (s.fld .TIM_SEL_STATUS F.TIM_SEL_STATUS_TARGET) ≠ 3 ∨ s.switchSample (s.fld .TIM_SEL_STATUS F.TIM_SEL_STATUS_TARGET) = none) :
    exec .switchCommit s = .next s := by
  have hx : exec .switchCommit s = execSwitchCommit s := rfl
  rw [hx, execSwitchCommit]
  extract_lets k
  split
  · rfl
  · next hc =>
    have hn : s.switchSample k = none := by
      simp only [not_or, Bool.not_eq_true', Bool.not_eq_true, Bool.not_eq_false] at hc
      obtain ⟨c1, c2, c3, c4⟩ := hc
      rcases h with h | h | h | h | h
      · exact absurd h c1
      · simp [h] at c2
      · simp [h] at c3
      · exact absurd h c4
      · exact h
    rw [hn]

theorem exec_switchCommit (h2 : s.selState = 2) (he : s.engineOn = true) (hq : s.qualified = true)
    (hk : s.fld .TIM_SEL_STATUS F.TIM_SEL_STATUS_TARGET = k) (h3 : s.refState k = 3) (hsmp : s.switchSample k = some e) :
    exec .switchCommit s = .next (switchDone s k e) := by
  have hx : exec .switchCommit s = execSwitchCommit s := rfl
  rw [hx, execSwitchCommit, hk]
  extract_lets u1 u2 u3 l u4
  have h3 : s.refState u1 = 3 := h3
  have hsmp : s.switchSample u1 = some e := hsmp
  rw [if_neg (by simp [h2, he, hq, h3]), hsmp]
  rfl

/-- The phase taken is told by what the slot and the settings were, and what time and the phase registers are. -/
theorem PhaseTaken.transport (h : PhaseTaken s u k e) {w t : State} (hkind : w.refKind k = s.refKind k)
    (hal : w.fld .TIM_SEL_STATUS F.TIM_SEL_STATUS_ALIGNED = s.fld .TIM_SEL_STATUS F.TIM_SEL_STATUS_ALIGNED)
    (hset : w.get .TIM_SAF_STATUS = s.get .TIM_SAF_STATUS) (hcfg : w.get .TIM_SEL_CFG = s.get .TIM_SEL_CFG) (htim : w.tim = s.tim)
    (hcnt : w.counter C.selPhaseJumps = s.counter C.selPhaseJumps) (ht : t.tim.t = u.tim.t) (hseq : t.tim.stepSeq = u.tim.stepSeq)
    (hoff : t.tim.sel.aOff = u.tim.sel.aOff)
    (hA : t.fld .TIM_SEL_STATUS F.TIM_SEL_STATUS_ALIGNED = u.fld .TIM_SEL_STATUS F.TIM_SEL_STATUS_ALIGNED)
    (hJ : t.fld .TIM_SEL_STATUS F.TIM_SEL_STATUS_PHASE_JUMP = u.fld .TIM_SEL_STATUS F.TIM_SEL_STATUS_PHASE_JUMP)
    (hL : t.get .TIM_PJ_LAST = u.get .TIM_PJ_LAST) (hB : t.get .TIM_PJ_ABSORBED = u.get .TIM_PJ_ABSORBED)
    (hc : t.counter C.selPhaseJumps = u.counter C.selPhaseJumps) : PhaseTaken w t k e := by
  have hfree : freeKind w k ↔ freeKind s k := by rw [freeKind, freeKind, hkind]
  have hsf := congrArg F.TIM_SAF_STATUS_TIME_SET.get hset
  have haligned : alignedTo w k ↔ alignedTo s k := by rw [alignedTo, alignedTo, hkind, hal, State.fld, State.fld, hset]; rfl
  have hjump : phaseJump w e ↔ phaseJump s e := by rw [phaseJump, phaseJump, State.fld, hcfg]; rfl
  have hmode : w.fld .TIM_SEL_CFG F.TIM_SEL_CFG_PJ_MODE = s.fld .TIM_SEL_CFG F.TIM_SEL_CFG_PJ_MODE := congrArg F.TIM_SEL_CFG_PJ_MODE.get hcfg
  have ht32 : w.t32 = s.t32 := by rw [State.t32, htim]; rfl
  obtain ⟨h1, h2, h3, h4⟩ := h
  refine ⟨?_, ?_, ?_, ?_⟩
  · rwa [hfree, ht, hseq, htim]
  · rwa [hfree, haligned, ht, hseq, hA, ht32, htim]
  · rwa [hfree, haligned, hjump, ht, hoff, htim]
  · rwa [hfree, haligned, hjump, hmode, CountedOnce, hc, hcnt, hJ, hL, hB, ht, hoff, ht32, htim]

/-- What the end of a commit leaves. -/
structure LockedFrom (s t : State) : Prop where
  state : t.selState = 3
  valid : t.fld .TIM_SEL_STATUS F.TIM_SEL_STATUS_ACTIVE_VALID = 1
  sel : ∀ f : Fld, F.TIM_SEL_STATUS_ACTIVE_VALID.apart f = true → F.TIM_SEL_STATUS_STATE.apart f = true →
    F.TIM_SEL_STATUS_DRIFT_VALID.apart f = true → f.lo + f.w ≤ 32 → t.fld .TIM_SEL_STATUS f = s.fld .TIM_SEL_STATUS f
  regs : ∀ q : Reg, q.indexOk = true → q ≠ .TIM_SEL_STATUS → ¬ lockReg q → t.get q = s.get q
  counted : CountedOnce C.selSwitches s t
  jumps : t.counter C.selPhaseJumps = s.counter C.selPhaseJumps
  loop : t.tim.sel.i = -s.tim.sel.y
  time : t.tim.t = s.tim.t ∧ t.tim.tick = s.tim.tick ∧ t.tim.stepSeq = s.tim.stepSeq ∧ t.tim.sel.aOff = s.tim.sel.aOff

/-- The part of time that LOCKED does not touch. -/
def lockView (s : State) : Time × Nat × Nat × Int × Int := (s.tim.t, s.tim.tick, s.tim.stepSeq, s.tim.sel.i, s.tim.sel.aOff)

theorem lockDone_spec (hs : StoresCanonical s) (h2 : s.selState = 2) : LockedFrom s (lockDone s) := by
  have hd : lockDone s = (loopBegun s).enterLocked.setFld .TIM_SEL_STATUS F.TIM_SEL_STATUS_ACTIVE_VALID 1 := rfl
  have hb : StoresCanonical (loopBegun s) := ((Evolves.refl.count _).setSel _).stores hs
  have hb2 : (loopBegun s).selState = 2 := h2
  have hbt : lockView (loopBegun s) = (s.tim.t, s.tim.tick, s.tim.stepSeq, -s.tim.sel.y, s.tim.sel.aOff) := rfl
  have hbg (q : Reg) : (loopBegun s).get q = s.get q := rfl
  have hcnt : (loopBegun s).cnt = (s.count C.selSwitches).cnt := rfl
  have hbs : CountedOnce C.selSwitches s (loopBegun s) := (counter_of_cnt hcnt _).trans (countedOnce_count hs _)
  have hbc : (loopBegun s).counter C.selPhaseJumps = s.counter C.selPhaseJumps :=
    (counter_of_cnt hcnt _).trans (State.counter_count_ne _ _ _ (by decide))
  rw [hd]
  generalize loopBegun s = b at hb hb2 hbt hbg hbs hbc
  obtain ⟨l1, l2, l3, l4, l5⟩ := enterLocked_spec (g := lockView) ⟨fun _ _ _ _ _ _ _ => rfl, fun _ _ => rfl, fun _ _ => rfl⟩
    ⟨fun _ _ _ => rfl, fun _ _ _ => rfl⟩ hb hb2
  have hl : StoresCanonical b.enterLocked := Evolves.refl.enterLocked.stores hb
  generalize b.enterLocked = c at l1 l2 l3 l4 l5 hl
  rw [hbt] at l1
  simp only [lockView, Prod.mk.injEq] at l1
  obtain ⟨lt, ltick, lseq, li, loff⟩ := l1
  have pt := selPut (u := c) (f := F.TIM_SEL_STATUS_ACTIVE_VALID) (x := 1) hl.regs (by decide) (by decide)
  refine ⟨(pt.2 F.TIM_SEL_STATUS_STATE (by decide) (by decide)).trans l2, pt.1, fun f h1 h2 h3 h4 => ?_, fun q hq hn hl' => ?_,
    countedOnce_of_counter hbs (l3 C.selSwitches).symm, (l3 _).trans hbc, li, ⟨lt, ltick, lseq, loff⟩⟩
  · exact (pt.2 f h1 h4).trans ((l5 f h2 h3 h4).trans (congrArg f.get (hbg _)))
  · exact (get_setFld_off (r := .TIM_SEL_STATUS) rfl hq (Ne.symm hn)).trans ((l4 q hq hl' hn).trans (hbg q))

/-- What a commit does. -/
structure SwitchedTo (s t : State) (k : Nat) (e : Int) : Prop where
  state : t.selState = 3
  ref : t.refState k = 4
  active : t.fld .TIM_SEL_STATUS F.TIM_SEL_STATUS_ACTIVE = k
  valid : t.fld .TIM_SEL_STATUS F.TIM_SEL_STATUS_ACTIVE_VALID = 1
  counted : CountedOnce C.selSwitches s t
  loop : t.tim.sel.i = -s.tim.sel.y
  tick : t.tim.tick = s.tim.tick
  phase : PhaseTaken s t k e

/-- The end of a commit after the phase `u` taken from `w`, which stands for the state `s` with its slot put. -/
theorem SwitchedTo.of_phase {w : State} (hk : k < 8) (hw : Leaves (fun u => u.tim) strobeReg (fun _ => False) s w) (hr : w.refState k = 4)
    (ha : w.fld .TIM_SEL_STATUS F.TIM_SEL_STATUS_ACTIVE = k)
    (hal : w.fld .TIM_SEL_STATUS F.TIM_SEL_STATUS_ALIGNED = s.fld .TIM_SEL_STATUS F.TIM_SEL_STATUS_ALIGNED)
    (hp : Phased w u) (ht : PhaseTaken w u k e) (hl : LockedFrom u t) : SwitchedTo s t k e := by
  have hi : (Reg.TIM_REF_STATUS k).indexOk = true := decide_eq_true hk
  have hi' : (Reg.TIM_REF_CFG k).indexOk = true := decide_eq_true hk
  have htim : w.tim = s.tim := hw.view
  have gw {q : Reg} (hq : q.indexOk = true) (hn : ¬ strobeReg q) : w.get q = s.get q := hw.regs.get (fun _ => strobeReg_indexOk) hq hn
  have cw (id : Nat) : w.counter id = s.counter id := hw.cnts id not_false
  have gu {q : Reg} (hq : q.indexOk = true) (hn : ¬ phaseReg q) : u.get q = w.get q := hp.leaves.regs.get (fun _ => phaseReg_indexOk) hq hn
  have cu : u.counter C.selSwitches = w.counter C.selSwitches :=
    hp.leaves.cnts _ (by simp [phaseCnt, eventCnt, C.selSwitches, C.ladderYield, C.selPhaseJumps])
  have hview : phaseView u = phaseView w := hp.leaves.view
  simp only [phaseView, Prod.mk.injEq] at hview
  obtain ⟨htick, hy⟩ := hview
  obtain ⟨t1, t2, t3, t4⟩ := hl.time
  refine ⟨hl.state, ?_, ?_, hl.valid, ?_, ?_, ?_, ?_⟩
  · exact (congrArg F.TIM_REF_STATUS_STATE.get ((hl.regs _ hi nofun nofun).trans (gu hi nofun))).trans hr
  · exact (hl.sel _ (by decide) (by decide) (by decide) (by decide)).trans ((hp.sel _ (by decide) (by decide) (by decide)).trans ha)
  · have h1 := hl.counted
    unfold CountedOnce at h1 ⊢
    rw [h1, cu, cw]
  · rw [hl.loop, hy, htim]
  · rw [t2, htick, htim]
  · exact ht.transport (congrArg F.TIM_REF_CFG_KIND.get (gw hi' nofun)).symm hal.symm (gw (q := .TIM_SAF_STATUS) rfl nofun).symm
      (gw (q := .TIM_SEL_CFG) rfl nofun).symm htim.symm (cw _).symm t1 t3 t4
      (hl.sel _ (by decide) (by decide) (by decide) (by decide)) (hl.sel _ (by decide) (by decide) (by decide) (by decide))
      (hl.regs .TIM_PJ_LAST rfl nofun nofun) (hl.regs .TIM_PJ_ABSORBED rfl nofun nofun) hl.jumps

theorem switchDone_spec (hs : StoresCanonical s) (h2 : s.selState = 2) (hk : k < 8) (e : Int) : SwitchedTo s (switchDone s k e) k e := by
  obtain ⟨cw, lw, rw', aw, sw⟩ := switched_spec hs hk (fun u => u.tim) ⟨fun _ _ _ _ _ _ _ => rfl, fun _ _ => rfl, fun _ _ => rfl⟩
  obtain ⟨hp, ht⟩ := commitPhase_spec cw hk e
  have hu2 : ((switched s k).commitPhase k e).selState = 2 :=
    (hp.sel F.TIM_SEL_STATUS_STATE (by decide) (by decide) (by decide)).trans ((sw _ (by decide) (by decide) (by decide)).trans h2)
  exact .of_phase hk lw rw' aw (sw _ (by decide) (by decide) (by decide)) hp ht (lockDone_spec hp.canon hu2)

/-! ## The holdover store (R367, R375) -/

theorem exec_holdoverStore_idle (h : s.selState ≠ 3 ∨ s.fld .TIM_SEL_STATUS F.TIM_SEL_STATUS_SETTLED = 0 ∨
    s.t32 < s.tim.sel.settledAt + sec32) : exec .holdoverStore s = .next s := by
  have hx : exec .holdoverStore s = execHoldoverStore s := rfl
  rw [hx, execHoldoverStore]
  exact congrArg Host.Outcome.next (if_pos h)

theorem exec_holdoverStore (h3 : s.selState = 3) (h1 : s.fld .TIM_SEL_STATUS F.TIM_SEL_STATUS_SETTLED = 1)
    (ht : s.tim.sel.settledAt + sec32 ≤ s.t32) :
    ∃ t v, exec .holdoverStore s = .next t ∧ t.tim.t = s.tim.t ∧ t.tim.sel.store = (s.t32, v) ::
      s.tim.sel.store.filter fun x => decide (s.t32 - 86400 * sec32 < x.1) := by
  have hx : exec .holdoverStore s = execHoldoverStore s := rfl
  rw [hx, execHoldoverStore]
  extract_lets l now r store
  rw [if_neg (by simp only [h3, h1, ne_eq, not_true_eq_false, one_ne_zero, false_or, not_lt]; exact ht)]
  let view (s : State) : Time × List (Int × Int) := (s.tim.t, s.tim.sel.store)
  have b : Blind view := ⟨fun _ _ _ _ _ _ _ => rfl, fun _ _ => rfl, fun _ _ => rfl⟩
  obtain ⟨x, -, hl⟩ := holdoverEstimate_leaves (g := view) b ⟨fun _ _ _ => rfl, fun _ _ _ => rfl⟩ (r.1.setSel { r.1.tim.sel with store := store })
  have hf : Leaves view (fun _ => True) (fun _ => True) (r.1.setSel { r.1.tim.sel with store := store }).holdoverEstimate
      (r.1.setSel { r.1.tim.sel with store := store }).holdoverEstimate.selFlags :=
    foldl_keeps (P := Leaves view _ _ _) _ _ (Leaves.refl.setFld b trivial _ _) fun _ _ _ hv => hv.setFld b trivial _ _
  obtain ⟨h4, h5⟩ := Prod.mk.inj (hf.view.trans hl.view)
  exact ⟨_, r.2, rfl, h4, h5⟩

theorem exec_holdoverExpires_idle (h : s.selState ≠ 4 ∨ s.fld .TIM_SEL_STATUS F.TIM_SEL_STATUS_HO_EXPIRED = 1 ∨
    ¬ s.fld .TIM_HO_CFG F.TIM_HO_CFG_HO_LIMIT * 3600 * 1000000000 ≤ s.tim.tick - s.tim.sel.hoAt) : exec .holdoverExpires s = .next s := by
  have hx : exec .holdoverExpires s = execHoldoverExpires s := rfl
  rw [hx, execHoldoverExpires, if_neg]
  rintro ⟨h1, h2, h3⟩
  rcases h with h | h | h
  · exact h h1
  · omega
  · exact h (of_decide_eq_true h3)

theorem exec_holdoverExpires (hs : StoresCanonical s) (h4 : s.selState = 4) (h0 : s.fld .TIM_SEL_STATUS F.TIM_SEL_STATUS_HO_EXPIRED = 0)
    (hp : s.fld .TIM_HO_CFG F.TIM_HO_CFG_HO_LIMIT * 3600 * 1000000000 ≤ s.tim.tick - s.tim.sel.hoAt) :
    ∃ t, exec .holdoverExpires s = .next t ∧ t.fld .TIM_SEL_STATUS F.TIM_SEL_STATUS_HO_EXPIRED = 1 ∧
      CountedOnce (C.events Ev.holdoverExpired) s t ∧ Signals [.TIM_SEL_STATUS] [] s t := by
  have hx : exec .holdoverExpires s = .next ((s.setFld .TIM_SEL_STATUS F.TIM_SEL_STATUS_HO_EXPIRED 1).event Ev.holdoverExpired 0 0) := by
    have hx : exec .holdoverExpires s = execHoldoverExpires s := rfl
    rw [hx, execHoldoverExpires, if_pos ⟨h4, h0, decide_eq_true hp⟩]
  have hsig : Signals [] [] (s.setFld .TIM_SEL_STATUS F.TIM_SEL_STATUS_HO_EXPIRED 1)
      ((s.setFld .TIM_SEL_STATUS F.TIM_SEL_STATUS_HO_EXPIRED 1).event Ev.holdoverExpired 0 0) := Signals.refl.event (by decide) _ _
  refine ⟨_, hx, ?_, event_countedOnce (hs.setFld .TIM_SEL_STATUS F.TIM_SEL_STATUS_HO_EXPIRED 1) .., ?_⟩
  · exact (congrArg _ (hsig.regs .TIM_SEL_STATUS (not_signalAddr rfl nofun nofun nofun) nofun).1).trans
      (fld_setFld_lt hs.regs (by decide) (by decide))
  · exact (Signals.refl.setFld (List.mem_singleton_self _) _ _).event (by decide) _ _

/-- Settles O47: what a switch's commit does to the slot, the state and T, and how holdover stores and expires. -/
theorem switchingAndHoldover : Obligations.SwitchingAndHoldover := by
  unfold Obligations.SwitchingAndHoldover
  refine ⟨fun s => exec_switchCommit_idle, ?_, fun s => ⟨exec_holdoverStore_idle, exec_holdoverStore⟩,
    fun s hs => ⟨exec_holdoverExpires_idle, exec_holdoverExpires hs⟩⟩
  intro s k e hs h2 he hq hk hk8 h3 hsmp
  have h := switchDone_spec hs h2 hk8 e
  refine ⟨_, exec_switchCommit h2 he hq hk h3 hsmp, h.state, h.ref, h.active, h.valid, h.counted, h.loop, h.tick, h.phase.free, h.phase.align,
    fun hf ha hj => h.phase.small hf ha (Nat.not_lt.mpr hj), h.phase.jump⟩

end Sys2Proof
end

section
/-! PROOF. Reference slots: edges, faults, settings, states and estimates (R331, R359 to R363). -/
namespace Sys2Proof

open Sys2Proof.Machine

set_option Elab.async false

variable {s u v t : State} {k : Nat}

/-! ## The store of slots -/

/-- Stores with rising keys that list the same are the same. -/
theorem smap_ext {α : Type} {l : Option Nat} {m n : SMap α} (hm : skeysFrom l m = true) (hn : skeysFrom l n = true)
    (h : ∀ k, sfind m k = sfind n k) : m = n := by
  induction m generalizing l n with
  | nil =>
    cases n with
    | nil => rfl
    | cons y n =>
      have := h y.1
      simp [sfind] at this
  | cons x m ih =>
    cases n with
    | nil =>
      have := h x.1
      simp [sfind] at this
    | cons y n =>
      obtain ⟨j, a⟩ := x
      obtain ⟨i, b⟩ := y
      rw [skeysFrom_cons] at hm hn
      have hij : j = i := by
        by_contra hne
        rcases Nat.lt_or_gt_of_ne hne with hlt | hgt
        · have h1 := h j
          rw [sfind, if_pos rfl, sfind, if_neg (Ne.symm hne), sfind_below n hlt.le hn.2] at h1
          cases h1
        · have h1 := h i
          rw [sfind, if_neg hne, sfind_below m hgt.le hm.2, sfind, if_pos rfl] at h1
          cases h1
      subst hij
      have hab : a = b := by simpa [sfind] using h j
      rw [hab, ih hm.2 hn.2 fun k => ?_]
      by_cases hk : j = k
      · subst hk
        rw [sfind_below m le_rfl hm.2, sfind_below n le_rfl hn.2]
      · simpa [sfind, hk] using h k

theorem sfind_sput {α : Type} [DecidableEq α] (d : α) {m : SMap α} (hm : skeysFrom none m = true) (k j : Nat) (a : α) :
    sfind (sput d m k a) j = if k = j then (if a = d then none else some a) else sfind m j := by
  unfold sput
  by_cases hk : k = j
  · subst hk
    by_cases ha : a = d
    · rw [if_pos ha, if_pos rfl, if_pos ha, sfind_serase_self _ _ _ hm]
    · rw [if_neg ha, if_pos rfl, if_neg ha, sfind_sinsert_self]
  · rw [if_neg hk]
    split
    · exact sfind_serase_ne _ _ _ hk
    · exact sfind_sinsert_ne _ _ _ _ hk

theorem sput_sput {α : Type} [DecidableEq α] (d : α) {m : SMap α} (hm : skeysFrom none m = true) (k : Nat) (a b : α) :
    sput d (sput d m k a) k b = sput d m k b := by
  have h1 := skeysFrom_sput d m k a hm
  refine smap_ext (skeysFrom_sput _ _ _ _ h1) (skeysFrom_sput _ _ _ _ hm) fun j => ?_
  rw [sfind_sput d h1, sfind_sput d hm, sfind_sput d hm]
  split <;> rfl

theorem slot_putSlot (h : skeysFrom none s.tim.slots = true) (k : Nat) (x : Slot) : (s.putSlot k x).slot k = x :=
  sgetD_sput_self idleSlot _ _ _ h

theorem slot_putSlot_ne {j : Nat} (h : j ≠ k) (x : Slot) : (s.putSlot k x).slot j = s.slot j := sgetD_sput_ne idleSlot _ _ _ _ _ (Ne.symm h)

theorem slots_putSlot (h : skeysFrom none s.tim.slots = true) (k : Nat) (x : Slot) : skeysFrom none (s.putSlot k x).tim.slots = true :=
  skeysFrom_sput _ _ _ _ h

theorem putSlot_putSlot (h : skeysFrom none s.tim.slots = true) (k : Nat) (x y : Slot) : (s.putSlot k x).putSlot k y = s.putSlot k y := by
  have hs : sput idleSlot (sput idleSlot s.tim.slots k x) k y = sput idleSlot s.tim.slots k y := sput_sput idleSlot h k x y
  have hl : (s.putSlot k x).putSlot k y = { s with tim := { s.tim with slots := sput idleSlot (sput idleSlot s.tim.slots k x) k y } } := rfl
  rw [hl, hs]
  rfl

/-! ## Fields of a slot's status -/

theorem refStatus_indexOk (hk : k < 8) : (Reg.TIM_REF_STATUS k).indexOk = true := decide_eq_true hk

/-- A bit of a slot's status is put. -/
theorem refBit_setRef (hs : s.regsOk) (k : Nat) {f : Fld} (hf : f.lo + f.w ≤ 32) (hw : f.w = 1) (b : Bool) :
    (s.setRef k f (if b then 1 else 0)).refBit k f = b := by
  have h : (s.setFld (.TIM_REF_STATUS k) f (if b then 1 else 0)).fld (.TIM_REF_STATUS k) f = if b then 1 else 0 :=
    fld_setFld_lt hs hf (by rw [hw]; split <;> decide)
  rw [State.refBit]
  refine (congrArg (· == 1) h).trans ?_
  cases b <;> rfl

theorem refFld_setRef (hs : s.regsOk) (k : Nat) {f q : Fld} (ha : f.apart q = true) (hq : q.lo + q.w ≤ 32) (x : Nat) :
    (s.setRef k f x).fld (.TIM_REF_STATUS k) q = s.fld (.TIM_REF_STATUS k) q := fld_setFld_beside hs ha hq

theorem refBit_beside (hs : s.regsOk) (k : Nat) {f q : Fld} (ha : f.apart q = true) (hq : q.lo + q.w ≤ 32) (x : Nat) :
    (s.setRef k f x).refBit k q = s.refBit k q := congrArg (· == 1) (refFld_setRef hs k ha hq x)

/-! ## Edges (R359 to R362) -/

/-- The stamp of an edge at REF_INk. -/
def edgeStamp (s : State) (k code : Nat) : Stamp := s.stampNow (16 + k) code true (s.refDelay k)

/-- The edge comes within the dead time of the last one taken. -/
def edgeEarly (s : State) (k code : Nat) : Prop := ∃ l, (s.slot k).lastEdge = some l ∧ (edgeStamp s k code).raw - l < 4 * 65536

/-- The time of the edge, in steps of T. -/
def edgeTime (s : State) (k code : Nat) : Int := (s.full16 + tsDiff (edgeStamp s k code).saf.toNat s.now16) * 2 ^ 16

/-- An edge taken. -/
def edgeTaken (s : State) (k code : Nat) : State := s.putSlot k { s.slot k with lastEdge := some (edgeStamp s k code).raw }

theorem tooSoon_iff (k code : Nat) : tooSoon (s.slot k).lastEdge (edgeStamp s k code).raw deadTime = true ↔ edgeEarly s k code := by
  unfold tooSoon edgeEarly
  split
  · next l hl =>
    have hd : ((deadTime : Nat) : Int) = 4 * 65536 := rfl
    rw [hd]
    simp only [decide_eq_true_eq, Option.some.injEq, exists_eq_left', hl]
  · next hl => simp [hl]

theorem exec_refEdge_idle {code : Nat} (h : 2 < s.refKind k ∨ s.refState k = 0 ∨ s.tim.ticking = false ∨ edgeEarly s k code) :
    exec (.refEdge k code) s = .next s := by
  have hx : exec (.refEdge k code) s = execRefEdge k code s := rfl
  rw [hx, execRefEdge]
  split
  · rfl
  · next hc =>
    have he : edgeEarly s k code := by
      simp only [Bool.not_eq_true', Bool.not_eq_false, Bool.and_eq_true, decide_eq_true_eq, bne_iff_ne, ne_eq] at hc
      obtain ⟨⟨⟨-, c1⟩, c2⟩, c3⟩ := hc
      rcases h with h | h | h | h
      · omega
      · exact absurd h c2
      · simp [h] at c3
      · exact h
    exact congrArg Host.Outcome.next (if_pos ((tooSoon_iff k code).mpr he))

theorem exec_refEdge {code : Nat} (hk : k < 4) (hkind : s.refKind k ≤ 2) (h0 : s.refState k ≠ 0) (ht : s.tim.ticking = true) (he : ¬ edgeEarly s k code) :
    exec (.refEdge k code) s = .next (if s.refKind k = 0 then (edgeTaken s k code).ppsEdge k (edgeTime s k code)
      else (edgeTaken s k code).clkEdge k (edgeTime s k code)) := by
  have hx : exec (.refEdge k code) s = execRefEdge k code s := rfl
  rw [hx, execRefEdge, if_neg (by simp [hk, hkind, h0, ht])]
  exact congrArg Host.Outcome.next (if_neg (mt (tooSoon_iff k code).mp he))

theorem clkEdge_edgeTaken (hsl : skeysFrom none s.tim.slots = true) (k code : Nat) (st : Int) :
    (edgeTaken s k code).clkEdge k st = s.putSlot k
      (if (s.slot k).fresh then { s.slot k with lastEdge := some (edgeStamp s k code).raw, edges := (s.slot k).edges + 1 }
       else { s.slot k with lastEdge := some (edgeStamp s k code).raw, edges := (s.slot k).edges + 1, stamp := some st,
                            stampEdges := (s.slot k).edges + 1, fresh := true }) := by
  rw [State.clkEdge, edgeTaken, slot_putSlot hsl, putSlot_putSlot hsl]

/-- The offset of an edge from the nearest second. -/
def secondOffset (st : Int) : Int := if 2 * (st % sec32) ≤ sec32 then st % sec32 else st % sec32 - sec32

theorem secondOffset_spec (st : Int) : (secondOffset st - st) % sec32 = 0 ∧ 2 * secondOffset st ≤ sec32 ∧ -sec32 < 2 * secondOffset st := by
  have hpos : (0 : Int) < sec32 := by decide
  have h0 := Int.emod_nonneg st hpos.ne'
  have h1 := Int.emod_lt_of_pos st hpos
  have hd : sec32 ∣ st % sec32 - st := ⟨-(st / sec32), by have := Int.emod_add_mul_ediv st sec32; linarith⟩
  unfold secondOffset
  generalize st % sec32 = r at h0 h1 hd ⊢
  generalize sec32 = m at *
  split
  · exact ⟨Int.emod_eq_zero_of_dvd hd, by omega, by omega⟩
  · refine ⟨Int.emod_eq_zero_of_dvd ?_, by omega, by omega⟩
    have : r - m - st = (r - st) - m := by ring
    rw [this]
    exact Int.dvd_sub hd (Int.dvd_refl m)

/-- The stamp of a good or a bad PPS edge is held. -/
def ppsStamped (s : State) (k : Nat) (st : Int) : State :=
  let x := s.slot k
  let s := s.setRef k F.TIM_REF_STATUS_LOS 0
  match x.stamp with
  | none => s.putSlot k { x with stamp := some st }
  | some p =>
    if (st - p - sec32).natAbs ≤ 1000 * 2 ^ 32 then
      let s := s.putSlot k { x with stamp := some st, run := x.run + 1 }
      if 2 ≤ x.run + 1 then s.setRef k F.TIM_REF_STATUS_PHASE_FAULT 0 else s
    else (s.setRef k F.TIM_REF_STATUS_PHASE_FAULT 1).putSlot k { x with stamp := some st, run := 0 }

theorem ppsEdge_eq (s : State) (k : Nat) (st : Int) :
    s.ppsEdge k st = ((ppsStamped s k st).addSample k st (secondOffset st)).loopSample k (secondOffset st) := rfl

/-- What the stamp of a PPS edge leaves. -/
theorem ppsStamped_spec (hs : s.regsOk) (hsl : skeysFrom none s.tim.slots = true) (k : Nat) (st : Int) :
    let t := ppsStamped s k st
    t.tim.t = s.tim.t ∧ skeysFrom none t.tim.slots = true ∧ t.regsOk ∧ (t.slot k).stamp = some st ∧ (t.slot k).lastEdge = (s.slot k).lastEdge ∧
    t.refBit k F.TIM_REF_STATUS_LOS = false ∧
    ∀ p, (s.slot k).stamp = some p → 1000 * 2 ^ 32 < (st - p - sec32).natAbs → t.refBit k F.TIM_REF_STATUS_PHASE_FAULT = true := by
  have h1 : (s.setRef k F.TIM_REF_STATUS_LOS 0).regsOk := regsOk_setFld hs
  have hlos : (s.setRef k F.TIM_REF_STATUS_LOS 0).refBit k F.TIM_REF_STATUS_LOS = false := refBit_setRef hs k (by decide) rfl false
  have hslot {x : Slot} : ((s.setRef k F.TIM_REF_STATUS_LOS 0).putSlot k x).slot k = x := slot_putSlot (s := s.setRef k F.TIM_REF_STATUS_LOS 0) hsl k x
  have hsl' {x : Slot} : skeysFrom none ((s.setRef k F.TIM_REF_STATUS_LOS 0).putSlot k x).tim.slots = true :=
    slots_putSlot (s := s.setRef k F.TIM_REF_STATUS_LOS 0) hsl k x
  have hb {x : Nat} : ∀ {w : State}, w.regsOk → w.refBit k F.TIM_REF_STATUS_LOS = false →
      (w.setRef k F.TIM_REF_STATUS_PHASE_FAULT x).refBit k F.TIM_REF_STATUS_LOS = false := fun hw h =>
    (refBit_beside hw k (by decide) (by decide) x).trans h
  cases hst : (s.slot k).stamp with
  | none =>
    have ht : ppsStamped s k st = (s.setRef k F.TIM_REF_STATUS_LOS 0).putSlot k { s.slot k with stamp := some st } := by
      simp only [ppsStamped, hst]
    rw [ht]
    exact ⟨rfl, hsl', h1, by rw [hslot], by rw [hslot], hlos, nofun⟩
  | some p =>
    by_cases hgood : (st - p - sec32).natAbs ≤ 1000 * 2 ^ 32
    · have ht : ppsStamped s k st = if 2 ≤ (s.slot k).run + 1 then
          ((s.setRef k F.TIM_REF_STATUS_LOS 0).putSlot k { s.slot k with stamp := some st, run := (s.slot k).run + 1 }).setRef k
            F.TIM_REF_STATUS_PHASE_FAULT 0
        else (s.setRef k F.TIM_REF_STATUS_LOS 0).putSlot k { s.slot k with stamp := some st, run := (s.slot k).run + 1 } := by
        simp only [ppsStamped, hst, if_pos hgood]
      have hfar : ∀ q, some p = some q → 1000 * 2 ^ 32 < (st - q - sec32).natAbs → ∀ {P : Prop}, P := fun q hq hn => by
        cases hq
        exact absurd hgood (Nat.not_le_of_lt hn)
      have h2 {x : Slot} : ((s.setRef k F.TIM_REF_STATUS_LOS 0).putSlot k x).regsOk := h1
      rw [ht]
      split
      · exact ⟨rfl, hsl', regsOk_setFld h2, congrArg Slot.stamp hslot, (congrArg Slot.lastEdge hslot).trans rfl, hb h2 hlos, fun q hq hn => hfar q hq hn⟩
      · exact ⟨rfl, hsl', h2, congrArg Slot.stamp hslot, (congrArg Slot.lastEdge hslot).trans rfl, hlos, fun q hq hn => hfar q hq hn⟩
    · have ht : ppsStamped s k st = ((s.setRef k F.TIM_REF_STATUS_LOS 0).setRef k F.TIM_REF_STATUS_PHASE_FAULT 1).putSlot k
          { s.slot k with stamp := some st, run := 0 } := by
        simp only [ppsStamped, hst, if_neg hgood]
      have hs2 {x : Slot} : (((s.setRef k F.TIM_REF_STATUS_LOS 0).setRef k F.TIM_REF_STATUS_PHASE_FAULT 1).putSlot k x).slot k = x :=
        slot_putSlot (s := (s.setRef k F.TIM_REF_STATUS_LOS 0).setRef k F.TIM_REF_STATUS_PHASE_FAULT 1) hsl k x
      have hph : ((s.setRef k F.TIM_REF_STATUS_LOS 0).setRef k F.TIM_REF_STATUS_PHASE_FAULT 1).refBit k F.TIM_REF_STATUS_PHASE_FAULT = true :=
        refBit_setRef h1 k (by decide) rfl true
      rw [ht]
      exact ⟨rfl, hsl', regsOk_setFld h1, by rw [hs2], by rw [hs2], hb h1 hlos, fun _ _ _ => hph⟩

/-- What a loop evaluation leaves: T and the slots, and every register but its own two. -/
theorem loopSample_leaves (s : State) (k : Nat) (e : Int) :
    Leaves (fun u => (u.tim.t, u.tim.slots)) (fun r => r = .TIM_SERVO_ERR ∨ r = .TIM_SEL_STATUS) (fun _ => False) s (s.loopSample k e) :=
  Leaves.refl.loopSample ⟨fun _ _ _ _ _ _ _ => rfl, fun _ _ => rfl, fun _ _ => rfl⟩ ⟨fun _ _ => rfl, fun _ _ _ => rfl⟩ (.inl rfl) (.inr rfl) k e

/-- What a PPS edge leaves (R359 to R362). -/
theorem ppsEdge_spec (hs : s.regsOk) (hsl : skeysFrom none s.tim.slots = true) (hk : k < 8) (st : Int) :
    let t := s.ppsEdge k st
    (t.slot k).stamp = some st ∧ (t.slot k).sample = some (st, secondOffset st) ∧ (t.slot k).lastEdge = (s.slot k).lastEdge ∧ t.tim.t = s.tim.t ∧
    t.refBit k F.TIM_REF_STATUS_LOS = false ∧
    ∀ p, (s.slot k).stamp = some p → 1000 * 2 ^ 32 < (st - p - sec32).natAbs → t.refBit k F.TIM_REF_STATUS_PHASE_FAULT = true := by
  rw [ppsEdge_eq]
  obtain ⟨h1, h2, h3, h4, h5, h6, h7⟩ := ppsStamped_spec hs hsl k st
  generalize ppsStamped s k st = u at h1 h2 h3 h4 h5 h6 h7
  have hw : (u.addSample k st (secondOffset st)).slot k = _ := slot_putSlot h2 k _
  have hl := loopSample_leaves (u.addSample k st (secondOffset st)) k (secondOffset st)
  have hv := hl.view
  simp only [Prod.mk.injEq] at hv
  obtain ⟨v1, v2⟩ := hv
  have hslot : ((u.addSample k st (secondOffset st)).loopSample k (secondOffset st)).slot k = (u.addSample k st (secondOffset st)).slot k := by
    rw [State.slot, State.slot, v2]
  have hget : ((u.addSample k st (secondOffset st)).loopSample k (secondOffset st)).get (.TIM_REF_STATUS k) = u.get (.TIM_REF_STATUS k) :=
    hl.regs.get (fun r hr => by rcases hr with rfl | rfl <;> rfl) (refStatus_indexOk hk) (by simp)
  have hbit (f : Fld) : ((u.addSample k st (secondOffset st)).loopSample k (secondOffset st)).refBit k f = u.refBit k f :=
    congrArg (fun w => f.get w == 1) hget
  dsimp only
  rw [hslot, hw]
  exact ⟨h4, rfl, h5, v1.trans h1, (hbit _).trans h6, fun p hp hn => (hbit _).trans (h7 p hp hn)⟩

/-! ## A missing edge (R362) -/

theorem exec_refLos_idle (h : 2 < s.refKind k ∨ s.refState k = 0) : exec (.refLos k) s = .next s := by
  have hx : exec (.refLos k) s = execRefLos k s := rfl
  rw [hx, execRefLos, if_neg]
  rintro ⟨-, h1, h2⟩
  rcases h with h | h
  · omega
  · exact h2 h

theorem exec_refLos (hs : StoresCanonical s) (hsl : skeysFrom none s.tim.slots = true) (hk : k < 4) (hkind : s.refKind k ≤ 2)
    (h0 : s.refState k ≠ 0) :
    ∃ t, exec (.refLos k) s = .next t ∧ t.refBit k F.TIM_REF_STATUS_LOS = true ∧ t.refBit k F.TIM_REF_STATUS_FREQ_VALID = false ∧
      (t.slot k).samples = [] ∧ t = { s with regs := t.regs, tim := { s.tim with slots := t.tim.slots } } ∧ KeepsRegs [.TIM_REF_STATUS k] s t := by
  have hx : exec (.refLos k) s = .next (s.declareLos k) := by
    have hx : exec (.refLos k) s = execRefLos k s := rfl
    rw [hx, execRefLos, if_pos ⟨hk, hkind, h0⟩]
  have h1 : (s.setRef k F.TIM_REF_STATUS_LOS 1).regsOk := regsOk_setFld hs.regs
  have e1 : (s.setRef k F.TIM_REF_STATUS_LOS 1).refBit k F.TIM_REF_STATUS_LOS = true := refBit_setRef hs.regs k (by decide) rfl true
  have hsl1 : skeysFrom none ((s.setRef k F.TIM_REF_STATUS_LOS 1).freqLost k).tim.slots = true :=
    slots_putSlot (s := (s.setRef k F.TIM_REF_STATUS_LOS 1).setRef k F.TIM_REF_STATUS_FREQ_VALID 0) hsl k _
  have hslot1 : ((s.setRef k F.TIM_REF_STATUS_LOS 1).freqLost k).slot k = _ :=
    slot_putSlot (s := (s.setRef k F.TIM_REF_STATUS_LOS 1).setRef k F.TIM_REF_STATUS_FREQ_VALID 0) hsl k _
  have hslot : (s.declareLos k).slot k = _ := slot_putSlot (s := (s.setRef k F.TIM_REF_STATUS_LOS 1).freqLost k) hsl1 k _
  have hreg : (s.declareLos k).regs = ((s.setRef k F.TIM_REF_STATUS_LOS 1).setRef k F.TIM_REF_STATUS_FREQ_VALID 0).regs := rfl
  have hbit (f : Fld) : (s.declareLos k).refBit k f =
      ((s.setRef k F.TIM_REF_STATUS_LOS 1).setRef k F.TIM_REF_STATUS_FREQ_VALID 0).refBit k f :=
    congrArg (fun w => f.get w == 1) (get_of_regs hreg _)
  have hm : (s.declareLos k).masked = s.masked :=
    have h1 : (s.declareLos k).masked = ((s.setRef k F.TIM_REF_STATUS_LOS 1).setRef k F.TIM_REF_STATUS_FREQ_VALID 0).masked := rfl
    h1.trans ((State.masked_setFld_plain (s := s.setRef k F.TIM_REF_STATUS_LOS 1) _ _ _ rfl).trans (State.masked_setFld_plain (s := s) _ _ _ rfl))
  refine ⟨_, hx, (hbit _).trans ((refBit_beside h1 k (by decide) (by decide) 0).trans e1), (hbit _).trans (refBit_setRef h1 k (by decide) rfl false),
    ?_, ?_, ?_⟩
  · rw [hslot, hslot1]
  · have ht : s.declareLos k = { s with regs := (s.declareLos k).regs, masked := (s.declareLos k).masked, tim := { s.tim with slots := (s.declareLos k).tim.slots } } := rfl
    rw [hm] at ht
    exact ht
  · have hk1 : Keeps (fun r => r = .TIM_REF_STATUS k) s ((s.setRef k F.TIM_REF_STATUS_LOS 1).setRef k F.TIM_REF_STATUS_FREQ_VALID 0) :=
      (Keeps.refl.setFld (R := fun r => r = .TIM_REF_STATUS k) rfl _ _).setFld rfl _ _
    have hk' : Keeps (fun r => r = .TIM_REF_STATUS k) s (s.declareLos k) := hk1.of_regs
    exact fun q hq => hk' q fun r hr => hq r (by simpa using hr)

/-! ## A slot's settings (R363, R386) -/

theorem exec_refCfgWrite {h : Nat} {x : Word} (hs : StoresCanonical s) (he : ExpertWindow s h) (hk : k < 8) (hp : Passes s h (.TIM_REF_CFG k) x) :
    exec (.refCfgWrite .window k x) s = .next (
      if F.TIM_REF_CFG_PRIO.get x = 0 ∨ F.TIM_REF_CFG_KIND.get x ≠ s.refKind k ∨ (4 ≤ k ∧ F.TIM_REF_CFG_PORT.get x ≠ s.refPort k) then
        (wrote s (.TIM_REF_CFG k) x).putSlot k { s.slot k with off := true }
      else wrote s (.TIM_REF_CFG k) x) := by
  have hx : exec (.refCfgWrite .window k x) s = .next (s.rowWriteReg .window (.TIM_REF_CFG k) x) := rfl
  have hw : (wrote s (.TIM_REF_CFG k) x).writeAction h (.TIM_REF_CFG k) (s.get (.TIM_REF_CFG k)) x =
      (wrote s (.TIM_REF_CFG k) x).refCfgWritten k (s.get (.TIM_REF_CFG k)) := rfl
  have hprio : (wrote s (.TIM_REF_CFG k) x).refPrio k = F.TIM_REF_CFG_PRIO.get x :=
    wrote_fld_rw hs (r := .TIM_REF_CFG k) (f := ⟨F.TIM_REF_CFG_PRIO, .rw, .b, true⟩) (by simp [Reg.fields]) (.inl rfl) x
  have hkind : (wrote s (.TIM_REF_CFG k) x).refKind k = F.TIM_REF_CFG_KIND.get x :=
    wrote_fld_rw hs (r := .TIM_REF_CFG k) (f := ⟨F.TIM_REF_CFG_KIND, .rw, .b, true⟩) (by simp [Reg.fields]) (.inl rfl) x
  have hport : (wrote s (.TIM_REF_CFG k) x).refPort k = F.TIM_REF_CFG_PORT.get x :=
    wrote_fld_rw hs (r := .TIM_REF_CFG k) (f := ⟨F.TIM_REF_CFG_PORT, .rw, .b, true⟩) (by simp [Reg.fields]) (.inl rfl) x
  have hslot : (wrote s (.TIM_REF_CFG k) x).slot k = s.slot k := by
    rw [State.slot, wrote_rest]
    rfl
  have hreq : (wrote s (.TIM_REF_CFG k) x).boot.resetReq = none := (wrote_resetReq ..).trans he.noReset
  rw [hx, rowWriteReg_expert he hp rfl nofun nofun rfl, hw, State.refCfgWritten, hprio, hkind, hport, hslot]
  refine congrArg Host.Outcome.next ?_
  have hcond : (F.TIM_REF_CFG_PRIO.get x = 0 ∨ F.TIM_REF_CFG_KIND.get (s.get (.TIM_REF_CFG k)) ≠ F.TIM_REF_CFG_KIND.get x ∨
      (4 ≤ k ∧ F.TIM_REF_CFG_PORT.get (s.get (.TIM_REF_CFG k)) ≠ F.TIM_REF_CFG_PORT.get x)) ↔
      (F.TIM_REF_CFG_PRIO.get x = 0 ∨ F.TIM_REF_CFG_KIND.get x ≠ s.refKind k ∨ (4 ≤ k ∧ F.TIM_REF_CFG_PORT.get x ≠ s.refPort k)) := by
    rw [ne_comm (a := F.TIM_REF_CFG_KIND.get (s.get (.TIM_REF_CFG k))), ne_comm (a := F.TIM_REF_CFG_PORT.get (s.get (.TIM_REF_CFG k)))]
    rfl
  by_cases hc : F.TIM_REF_CFG_PRIO.get x = 0 ∨ F.TIM_REF_CFG_KIND.get x ≠ s.refKind k ∨ (4 ≤ k ∧ F.TIM_REF_CFG_PORT.get x ≠ s.refPort k)
  · rw [if_pos (hcond.mpr hc), if_pos hc]
    exact takeReset_of_none hreq
  · rw [if_neg (mt hcond.mp hc), if_neg hc]
    exact takeReset_of_none hreq

/-! ## Transitions at a strobe (R362, R363) -/

theorem slotOff_spec (hs : StoresCanonical s) (hsl : skeysFrom none s.tim.slots = true) (hk : k < 8) :
    let t := s.slotOff k
    t.get (.TIM_REF_STATUS k) = s.get (.TIM_REF_STATUS k) &&& faultMask (s.refKind k) ∧ t.slot k = { idleSlot with lastEdge := (s.slot k).lastEdge } ∧
    (∀ j, j ≠ k → t.slot j = s.slot j) ∧ KeepsRegs [.TIM_REF_STATUS k, .TIM_SEL_STATUS] s t ∧
    (s.refState k = 4 → t.fld .TIM_SEL_STATUS F.TIM_SEL_STATUS_ACTIVE_VALID = 0) := by
  have hi := refStatus_indexOk hk
  have hw : KeepsRegs [.TIM_REF_STATUS k, .TIM_SEL_STATUS] s (s.slotOff k) := by
    have hk1 : Keeps (fun r => r ∈ [Reg.TIM_REF_STATUS k, .TIM_SEL_STATUS]) s (s.slotOff k) := by
      have h1 : Keeps (fun r => r ∈ [Reg.TIM_REF_STATUS k, .TIM_SEL_STATUS]) s
          (s.put (.TIM_REF_STATUS k) (s.get (.TIM_REF_STATUS k) &&& faultMask (s.refKind k))) := Keeps.refl.put (by simp) _
      unfold State.slotOff
      extract_lets active last x u
      have h2 : Keeps (fun r => r ∈ [Reg.TIM_REF_STATUS k, .TIM_SEL_STATUS]) s u := h1.of_regs
      exact keep_ite (h2.setFld (by simp) _ _) h2
    exact hk1
  have hslot (x : Slot) (j : Nat) (hj : j ≠ k) : (s.putSlot k x).slot j = s.slot j := slot_putSlot_ne hj x
  have hput : (s.put (.TIM_REF_STATUS k) (s.get (.TIM_REF_STATUS k) &&& faultMask (s.refKind k))).get (.TIM_REF_STATUS k) = _ :=
    State.get_put_self _ _ _ hs.regs
  refine ⟨?_, ?_, fun j hj => ?_, hw, fun h4 => ?_⟩
  · unfold State.slotOff
    extract_lets active last x u
    split
    · exact (get_setFld_off (r := .TIM_SEL_STATUS) (q := .TIM_REF_STATUS k) rfl hi nofun).trans hput
    · exact hput
  · have h1 : (s.slotOff k).tim.slots = (s.putSlot k { idleSlot with lastEdge := (s.slot k).lastEdge }).tim.slots := by
      unfold State.slotOff
      extract_lets active last x u
      split <;> rfl
    rw [State.slot, h1]
    exact slot_putSlot hsl k _
  · have h1 : (s.slotOff k).tim.slots = (s.putSlot k { idleSlot with lastEdge := (s.slot k).lastEdge }).tim.slots := by
      unfold State.slotOff
      extract_lets active last x u
      split <;> rfl
    rw [State.slot, h1]
    exact hslot _ j hj
  · unfold State.slotOff
    extract_lets active last x u
    rw [if_pos (beq_iff_eq.mpr h4)]
    exact fld_setFld_lt (s := u) (hs.put _ _).regs (by decide) (by decide)

/-- Of what is held of a slot's status at OFF, the state is none. -/
theorem state_of_faults (w : Word) (kind : Nat) : F.TIM_REF_STATUS_STATE.get (w &&& faultMask kind) = 0 := by
  have hm : ∀ i < 3, (faultMask kind).getLsbD i = false := by
    intro i hi
    unfold faultMask
    interval_cases i <;> split <;> split <;> split <;> decide
  refine Nat.eq_of_testBit_eq fun i => ?_
  rw [Fld.get_testBit, Nat.zero_testBit]
  by_cases hi : i < 3
  · simp [BitVec.getLsbD_and, hm i hi]
  · simp [hi]

/-- The FREQ fault after a strobe. -/
theorem freqFault_bit (hs : s.regsOk) (k : Nat) :
    (s.freqFault k).refBit k F.TIM_REF_STATUS_FREQ_FAULT =
      (if s.refBit k F.TIM_REF_STATUS_FREQ_VALID = true ∧ s.fld .TIM_SEL_CFG F.TIM_SEL_CFG_FREQ_LIMIT * 25600 < (s.get (.TIM_REF_FREQ k)).toInt.natAbs
       then true
       else if 10 * (s.get (.TIM_REF_FREQ k)).toInt.natAbs ≤ 9 * (s.fld .TIM_SEL_CFG F.TIM_SEL_CFG_FREQ_LIMIT * 25600) then false
       else s.refBit k F.TIM_REF_STATUS_FREQ_FAULT) := by
  unfold State.freqFault
  extract_lets f lim
  by_cases h1 : s.refBit k F.TIM_REF_STATUS_FREQ_VALID = true ∧ lim < f
  · rw [if_pos h1, if_pos (by simpa using h1)]
    exact refBit_setRef hs k (by decide) rfl true
  · rw [if_neg h1, if_neg (by simpa using h1)]
    by_cases h2 : 10 * f ≤ 9 * lim
    · rw [if_pos h2, if_pos h2]
      exact refBit_setRef hs k (by decide) rfl false
    · rw [if_neg h2, if_neg h2]

/-- The FREQ fault is one bit of the slot's status. -/
theorem freqFault_leaves (hs : s.regsOk) (k : Nat) :
    (∀ f : Fld, F.TIM_REF_STATUS_FREQ_FAULT.apart f = true → f.lo + f.w ≤ 32 →
      (s.freqFault k).fld (.TIM_REF_STATUS k) f = s.fld (.TIM_REF_STATUS k) f) ∧
    (s.freqFault k).regsOk ∧ Writes [.TIM_REF_STATUS k] [] s (s.freqFault k) := by
  have h (x : Nat) : (∀ f : Fld, F.TIM_REF_STATUS_FREQ_FAULT.apart f = true → f.lo + f.w ≤ 32 →
      (s.setRef k F.TIM_REF_STATUS_FREQ_FAULT x).fld (.TIM_REF_STATUS k) f = s.fld (.TIM_REF_STATUS k) f) ∧
      (s.setRef k F.TIM_REF_STATUS_FREQ_FAULT x).regsOk ∧ Writes [.TIM_REF_STATUS k] [] s (s.setRef k F.TIM_REF_STATUS_FREQ_FAULT x) :=
    ⟨fun f h1 h2 => fld_setFld_beside hs h1 h2, regsOk_setFld hs, Writes.refl.setFld (by simp) _ _⟩
  unfold State.freqFault
  extract_lets f lim
  split
  · exact h 1
  · split
    · exact h 0
    · exact ⟨fun _ _ _ => rfl, hs, Writes.refl⟩

theorem exec_slotRemainExpires_idle (h : s.refState k ≠ 2 ∨ s.fld (.TIM_REF_STATUS k) F.TIM_REF_STATUS_REMAIN ≠ 0) :
    exec (.slotRemainExpires k) s = .next s := by
  have hx : exec (.slotRemainExpires k) s = execSlotRemainExpires k s := rfl
  rw [hx, execSlotRemainExpires, if_neg]
  rintro ⟨-, h1, h2⟩
  exact h.elim (fun h => h h1) fun h => h h2

theorem slotStep_off (h : (s.slot k).off = true) : s.slotStep k = s.slotOff k := if_pos h

/-- The rows of QUAL (R363). -/
theorem slotStep_qual (hs : s.regsOk) (h : (s.slot k).off = false) (h2 : s.refState k = 2) :
    s.slotStep k = if (s.freqFault k).refFault k then (s.freqFault k).failSlot k false
      else if (s.freqFault k).fld (.TIM_REF_STATUS k) F.TIM_REF_STATUS_REMAIN = 0 ∧ (s.freqFault k).refBit k F.TIM_REF_STATUS_FREQ_VALID then
        ((s.freqFault k).setRef k F.TIM_REF_STATUS_STATE 3).setRef k F.TIM_REF_STATUS_WTR 0
      else s.freqFault k := by
  have hst : (s.freqFault k).refState k = 2 := ((freqFault_leaves hs k).1 F.TIM_REF_STATUS_STATE (by decide) (by decide)).trans h2
  unfold State.slotStep
  extract_lets v
  have hv : v = s.freqFault k := if_neg (by simp [h2])
  rw [if_neg (by simp [h]), hv]
  simp only [hst]

/-- A slot in QUAL whose REMAIN is 0 becomes READY, fails, or stays. -/
theorem slotRemain_spec (hs : StoresCanonical s) (h2 : s.refState k = 2)
    (h0 : s.fld (.TIM_REF_STATUS k) F.TIM_REF_STATUS_REMAIN = 0) (hoff : (s.slot k).off = false) :
    let u := s.freqFault k
    (u.refFault k = true → (s.slotStep k).refState k = 1 ∧ CountedOnce (C.refFaults k) s (s.slotStep k)) ∧
    (u.refFault k = false → s.refBit k F.TIM_REF_STATUS_FREQ_VALID = true → (s.slotStep k).refState k = 3 ∧
      Writes [.TIM_REF_STATUS k] [] s (s.slotStep k)) ∧
    (u.refFault k = false → s.refBit k F.TIM_REF_STATUS_FREQ_VALID = false → s.slotStep k = u) := by
  obtain ⟨hf, hok, hw⟩ := freqFault_leaves hs.regs k
  rw [slotStep_qual hs.regs hoff h2]
  have hrem : (s.freqFault k).fld (.TIM_REF_STATUS k) F.TIM_REF_STATUS_REMAIN = 0 := (hf _ (by decide) (by decide)).trans h0
  have hvalid : (s.freqFault k).refBit k F.TIM_REF_STATUS_FREQ_VALID = s.refBit k F.TIM_REF_STATUS_FREQ_VALID :=
    congrArg (· == 1) (hf F.TIM_REF_STATUS_FREQ_VALID (by decide) (by decide))
  have hst : (s.freqFault k).refState k = 2 := (hf F.TIM_REF_STATUS_STATE (by decide) (by decide)).trans h2
  have hcnt : (s.freqFault k).counter (C.refFaults k) = s.counter (C.refFaults k) := hw.cnts _ (by simp)
  have hcanon : StoresCanonical (s.freqFault k) := (Evolves.refl.freqFault k).stores hs
  generalize s.freqFault k = u at hok hw hrem hvalid hst hcnt hcanon
  have put (x : Nat) (hx : x < 8) : ((u.setRef k F.TIM_REF_STATUS_STATE x).setRef k F.TIM_REF_STATUS_WTR 0).refState k = x :=
    (refFld_setRef (regsOk_setFld hok) k (by decide) (by decide) 0).trans (fld_setFld_lt hok (by decide) hx)
  refine ⟨fun h => ?_, fun h hv => ?_, fun h hv => ?_⟩
  · have hfail : u.failSlot k false = ((u.setRef k F.TIM_REF_STATUS_STATE 1).setRef k F.TIM_REF_STATUS_WTR 0).count (C.refFaults k) := by
      unfold State.failSlot
      extract_lets active v src w src2 x
      have ha : ¬ active = true := by simp [active, hst]
      have hx : x = (u.setRef k F.TIM_REF_STATUS_STATE 1).setRef k F.TIM_REF_STATUS_WTR 0 := (if_neg ha).trans (if_neg Bool.false_ne_true)
      rw [hx]
    rw [if_pos h, hfail]
    refine ⟨put 1 (by decide), ?_⟩
    have hc : CountedOnce (C.refFaults k) u (((u.setRef k F.TIM_REF_STATUS_STATE 1).setRef k F.TIM_REF_STATUS_WTR 0).count (C.refFaults k)) :=
      countedOnce_count (s := (u.setRef k F.TIM_REF_STATUS_STATE 1).setRef k F.TIM_REF_STATUS_WTR 0) ((hcanon.setFld ..).setFld ..) _
    unfold CountedOnce at hc ⊢
    rw [hc, hcnt]
  · rw [if_neg (by simp [h]), if_pos ⟨hrem, by rw [hvalid, hv]⟩]
    exact ⟨put 3 (by decide), (hw.setFld (by simp) _ _).setFld (by simp) _ _⟩
  · rw [if_neg (by simp [h]), if_neg (by simp [hvalid, hv])]

theorem exec_slotRemainExpires (hk : k < 8) (h2 : s.refState k = 2) (h0 : s.fld (.TIM_REF_STATUS k) F.TIM_REF_STATUS_REMAIN = 0) :
    exec (.slotRemainExpires k) s = .next (s.slotStep k) := by
  have hx : exec (.slotRemainExpires k) s = execSlotRemainExpires k s := rfl
  rw [hx, execSlotRemainExpires, if_pos ⟨hk, h2, h0⟩]

/-! ## The frequency estimate (R361, R363) -/

/-- An estimate writes the slot's status and its FREQ. -/
theorem estimate_leaves (s : State) (k : Nat) : Leaves (fun u => u.tim.t) (fun r => r = .TIM_REF_STATUS k ∨ r = .TIM_REF_FREQ k) (fun _ => False) s
    (s.estimate k) := by
  have b : Blind fun u : State => u.tim.t := ⟨fun _ _ _ _ _ _ _ => rfl, fun _ _ => rfl, fun _ _ => rfl⟩
  have bl : BlindLoop fun u : State => u.tim.t := ⟨⟨fun _ _ => rfl, fun _ _ _ => rfl⟩, fun _ _ => rfl, fun _ _ => rfl⟩
  unfold State.estimate
  extract_lets x now recent m yInt den r v full
  have hv : Leaves (fun u => u.tim.t) (fun r => r = .TIM_REF_STATUS k ∨ r = .TIM_REF_FREQ k) (fun _ => False) s v :=
    .ite .refl ((Leaves.refl.roundFree b _ _).put b (.inr rfl) _)
  exact .freqFault b bl (.ite (hv.setFld b (.inl rfl) _ _) hv) (.inl rfl)

/-- It puts FREQ_VALID and FREQ_FAULT of the status, and leaves the other fields. -/
theorem estimate_fld (hs : StoresCanonical s) (hk : k < 8) {f : Fld} (h1 : F.TIM_REF_STATUS_FREQ_VALID.apart f = true)
    (h2 : F.TIM_REF_STATUS_FREQ_FAULT.apart f = true) (h3 : f.lo + f.w ≤ 32) :
    (s.estimate k).fld (.TIM_REF_STATUS k) f = s.fld (.TIM_REF_STATUS k) f := by
  unfold State.estimate
  extract_lets x now recent m yInt den r v full
  have hv : v.get (.TIM_REF_STATUS k) = s.get (.TIM_REF_STATUS k) := by
    unfold v
    split
    · rfl
    · exact get_put_off (s := r.1) (r := .TIM_REF_FREQ k) (q := .TIM_REF_STATUS k) (decide_eq_true hk) (refStatus_indexOk hk) nofun _
  have hok : v.regsOk := by
    unfold v
    split
    · exact hs.regs
    · exact (((Evolves.refl (s := s)).roundFree .. |>.put ..).stores hs).regs
  have hw : ∀ w : State, w.regsOk → w.fld (.TIM_REF_STATUS k) f = s.fld (.TIM_REF_STATUS k) f →
      (w.freqFault k).fld (.TIM_REF_STATUS k) f = s.fld (.TIM_REF_STATUS k) f := fun w hok hw => ((freqFault_leaves hok k).1 f h2 h3).trans hw
  split
  · exact hw _ (regsOk_setFld hok) ((refFld_setRef hok k h1 h3 1).trans (congrArg f.get hv))
  · exact hw _ hok (congrArg f.get hv)

/-- One slot's turn of the estimate. -/
def estimated (s : State) (k : Nat) : State :=
  if s.refState k = 0 then s
  else
    let s := s.estimate k
    if s.refState k = 2 then s.setRef k F.TIM_REF_STATUS_REMAIN (s.fld (.TIM_REF_STATUS k) F.TIM_REF_STATUS_REMAIN - 1) else s

theorem estimated_leaves (s : State) (k : Nat) : Leaves (fun u => u.tim.t) (fun r => r = .TIM_REF_STATUS k ∨ r = .TIM_REF_FREQ k) (fun _ => False) s
    (estimated s k) :=
  .ite .refl (.ite ((estimate_leaves s k).setFld ⟨fun _ _ _ _ _ _ _ => rfl, fun _ _ => rfl, fun _ _ => rfl⟩ (.inl rfl) _ _) (estimate_leaves s k))

/-- What one slot's turn does to its own registers. -/
theorem estimated_own (hs : StoresCanonical s) (hk : k < 8) :
    (estimated s k).refState k = s.refState k ∧ (s.refState k = 0 → estimated s k = s) ∧
    (s.refState k = 2 → (estimated s k).fld (.TIM_REF_STATUS k) F.TIM_REF_STATUS_REMAIN = s.fld (.TIM_REF_STATUS k) F.TIM_REF_STATUS_REMAIN - 1) := by
  have hst : (s.estimate k).refState k = s.refState k := estimate_fld hs hk (f := F.TIM_REF_STATUS_STATE) (by decide) (by decide) (by decide)
  have hrem := estimate_fld hs hk (f := F.TIM_REF_STATUS_REMAIN) (by decide) (by decide) (by decide)
  have hok : (s.estimate k).regsOk := ((Evolves.refl.estimate k).stores hs).regs
  have hlt : s.fld (.TIM_REF_STATUS k) F.TIM_REF_STATUS_REMAIN < 2 ^ 16 := Fld.get_lt _ _
  unfold estimated
  extract_lets u
  by_cases h0 : s.refState k = 0
  · rw [if_pos h0]
    exact ⟨rfl, fun _ => rfl, fun h => absurd (h0.symm.trans h) (by decide)⟩
  rw [if_neg h0]
  by_cases h2 : s.refState k = 2
  · rw [if_pos (hst.trans h2)]
    refine ⟨(refFld_setRef hok k (by decide) (by decide) _).trans hst, fun h => absurd h h0, fun _ => ?_⟩
    refine (fld_setFld_lt hok (by decide) ?_).trans (congrArg (· - 1) hrem)
    have : u.fld (.TIM_REF_STATUS k) F.TIM_REF_STATUS_REMAIN = _ := hrem
    rw [this]
    exact (Nat.sub_le _ _).trans_lt hlt
  · rw [if_neg (mt hst.symm.trans h2)]
    exact ⟨hst, fun h => absurd h h0, fun h => absurd h h2⟩

/-- A fold whose steps each own a part of the state: each part ends as its own step leaves it. -/
theorem foldl_own {β γ : Type} {l : List β} {f : State → β → State} {P : State → Prop} {V : State → γ} {Q : γ → Prop} {k : β} (hn : l.Nodup)
    (hk : k ∈ l) (hP : ∀ u j, j ∈ l → P u → P (f u j)) (hV : ∀ u j, j ∈ l → j ≠ k → P u → V (f u j) = V u)
    (hQ : ∀ u, P u → V u = V s → Q (V (f u k))) (hs : P s) : Q (V (l.foldl f s)) := by
  have after : ∀ (l' : List β) (u : State), (∀ j ∈ l', j ∈ l ∧ j ≠ k) → P u → V (l'.foldl f u) = V u := by
    intro l'
    induction l' with
    | nil => exact fun _ _ _ => rfl
    | cons j l' ih =>
      intro u hj hu
      obtain ⟨h1, h2⟩ := hj j List.mem_cons_self
      exact (ih _ (fun i hi => hj i (List.mem_cons_of_mem _ hi)) (hP _ _ h1 hu)).trans (hV _ _ h1 h2 hu)
  obtain ⟨l1, l2, rfl⟩ := List.append_of_mem hk
  rw [List.nodup_append] at hn
  obtain ⟨-, hn2, hdis⟩ := hn
  have hk1 : ∀ j ∈ l1, j ∈ l1 ++ k :: l2 ∧ j ≠ k := fun j hj => ⟨List.mem_append_left _ hj, fun h => hdis j hj k List.mem_cons_self h⟩
  have hk2 : ∀ j ∈ l2, j ∈ l1 ++ k :: l2 ∧ j ≠ k := fun j hj =>
    ⟨List.mem_append_right _ (List.mem_cons_of_mem _ hj), fun h => (List.nodup_cons.mp hn2).1 (h ▸ hj)⟩
  have h1 : P (l1.foldl f s) := foldl_keeps l1 f hs fun u j hj hu => hP u j (hk1 j hj).1 hu
  rw [List.foldl_append, List.foldl_cons, after l2 _ hk2 (hP _ _ hk h1)]
  exact hQ _ h1 (after l1 _ hk1 hs)

theorem exec_freqEstimate (hs : StoresCanonical s) : ∃ t, exec .freqEstimate s = .next t ∧ t.tim.t = s.tim.t ∧ ∀ k, k < 8 →
    t.refState k = s.refState k ∧
    (s.refState k = 0 → t.get (.TIM_REF_STATUS k) = s.get (.TIM_REF_STATUS k) ∧ t.get (.TIM_REF_FREQ k) = s.get (.TIM_REF_FREQ k)) ∧
    (s.refState k = 2 → t.fld (.TIM_REF_STATUS k) F.TIM_REF_STATUS_REMAIN = s.fld (.TIM_REF_STATUS k) F.TIM_REF_STATUS_REMAIN - 1) := by
  have hx : exec .freqEstimate s = .next ((List.range 8).foldl estimated s) := rfl
  have hcanon : ∀ u j, StoresCanonical u → StoresCanonical (estimated u j) := fun u j hu => by
    have he : Evolves u (estimated u j) := .ite .refl (.ite ((Evolves.refl.estimate j).setRef ..) (Evolves.refl.estimate j))
    exact he.stores hu
  refine ⟨_, hx, foldl_keeps (P := fun u => u.tim.t = s.tim.t) _ _ rfl fun u j _ hu => ((estimated_leaves u j).view).trans hu, fun k hk => ?_⟩
  have hi := refStatus_indexOk hk
  have hi' : (Reg.TIM_REF_FREQ k).indexOk = true := decide_eq_true hk
  refine foldl_own (P := StoresCanonical) (V := fun u => (u.get (.TIM_REF_STATUS k), u.get (.TIM_REF_FREQ k)))
    (Q := fun w => F.TIM_REF_STATUS_STATE.get w.1 = s.refState k ∧
      (s.refState k = 0 → w.1 = s.get (.TIM_REF_STATUS k) ∧ w.2 = s.get (.TIM_REF_FREQ k)) ∧
      (s.refState k = 2 → F.TIM_REF_STATUS_REMAIN.get w.1 = s.fld (.TIM_REF_STATUS k) F.TIM_REF_STATUS_REMAIN - 1))
    List.nodup_range (List.mem_range.mpr hk) (fun u j _ => hcanon u j) (fun u j hj hne hu => ?_) (fun u hu hv => ?_) hs
  · have hl := (estimated_leaves u j).regs
    have hj := List.mem_range.mp hj
    have hok : ∀ r, (r = Reg.TIM_REF_STATUS j ∨ r = .TIM_REF_FREQ j) → r.indexOk = true := fun r hr => by
      rcases hr with rfl | rfl
      · exact refStatus_indexOk hj
      · exact decide_eq_true hj
    exact Prod.ext (hl.get hok hi (by simp [Ne.symm hne])) (hl.get hok hi' (by simp [Ne.symm hne]))
  · obtain ⟨v1, v2⟩ := Prod.mk.inj hv
    obtain ⟨h1, h2, h3⟩ := estimated_own hu hk
    have hst : u.refState k = s.refState k := congrArg F.TIM_REF_STATUS_STATE.get v1
    refine ⟨h1.trans hst, fun h0 => ?_, fun hq => (h3 (hst.trans hq)).trans (congrArg (fun w => F.TIM_REF_STATUS_REMAIN.get w - 1) v1)⟩
    rw [h2 (hst.trans h0)]
    exact ⟨v1, v2⟩

/-! ## A beat of a phase detector (R331, R332) -/

theorem exec_phaseSample_off {p : Nat} (h : s.isPort p = false) (w : Nat) (far : Bool) : exec (.phaseSample p w far) s = .next s := by
  have hx : exec (.phaseSample p w far) s = execPhaseSample p w far s := rfl
  rw [hx, execPhaseSample, if_pos (by simp [h])]

/-- The status that a beat leaves. -/
def beatShown (s : State) (p : Nat) (far : Bool) : State :=
  (s.setFld (.TIM_PORT_STATUS p) F.TIM_PORT_STATUS_PH_OOR (if far then 1 else 0)).setFld (.TIM_PORT_STATUS p) F.TIM_PORT_STATUS_PH_VALID
    (if !far && s.laneState p == 6 then 1 else 0)

theorem exec_phaseSample (hs : StoresCanonical s) {p : Nat} (h : s.isPort p = true) (w : Nat) (far : Bool) :
    ∃ t, exec (.phaseSample p w far) s = .next t ∧
      t.fld (.TIM_PORT_STATUS p) F.TIM_PORT_STATUS_PH_OOR = (if far then 1 else 0) ∧
      t.fld (.TIM_PORT_STATUS p) F.TIM_PORT_STATUS_PH_VALID = (if far = false ∧ s.laneState p = 6 then 1 else 0) ∧
      (far = false → s.laneState p = 6 → s.fld (.TIM_PORT_STATUS p) F.TIM_PORT_STATUS_PH_VALID = 0 →
        t.get (.TIM_PHASE p) = BitVec.ofNat 32 (w % 16384)) ∧
      KeepsRegs [.TIM_PORT_STATUS p, .TIM_PHASE p] s t := by
  have hp := isPort_lt h
  have hi : (Reg.TIM_PORT_STATUS p).indexOk = true := decide_eq_true hp
  have hi' : (Reg.TIM_PHASE p).indexOk = true := decide_eq_true hp
  have hx : exec (.phaseSample p w far) s = execPhaseSample p w far s := rfl
  have h1 : (s.setFld (.TIM_PORT_STATUS p) F.TIM_PORT_STATUS_PH_OOR (if far then 1 else 0)).regsOk := regsOk_setFld hs.regs
  have hu : (beatShown s p far).regsOk := regsOk_setFld h1
  have hoor : (beatShown s p far).fld (.TIM_PORT_STATUS p) F.TIM_PORT_STATUS_PH_OOR = if far then 1 else 0 :=
    (fld_setFld_beside h1 (by decide) (by decide)).trans (fld_setFld_lt hs.regs (by decide) (by split <;> decide))
  have hval : (beatShown s p far).fld (.TIM_PORT_STATUS p) F.TIM_PORT_STATUS_PH_VALID = if far = false ∧ s.laneState p = 6 then 1 else 0 := by
    refine (fld_setFld_lt h1 (by decide) (by split <;> decide)).trans ?_
    simp
  have hkeep : Keeps (fun r => r ∈ [Reg.TIM_PORT_STATUS p, .TIM_PHASE p]) s (beatShown s p far) :=
    (Keeps.refl.setFld (by simp) _ _).setFld (by simp) _ _
  have hform : execPhaseSample p w far s = .next (
      if !(!far && s.laneState p == 6) then beatShown s p far
      else if !(s.fld (.TIM_PORT_STATUS p) F.TIM_PORT_STATUS_PH_VALID == 1) then
        ((beatShown s p far).putPtp p { s.ptpPort p with beat := w % 16384 }).put (.TIM_PHASE p) (BitVec.ofNat 32 (w % 16384))
      else (beatShown s p far).putPtp p { s.ptpPort p with beat := (s.ptpPort p).beat +
        (if (((w : Int) - (s.ptpPort p).beat) % 16384) < 8192 then (((w : Int) - (s.ptpPort p).beat) % 16384)
         else (((w : Int) - (s.ptpPort p).beat) % 16384) - 16384) }) := by
    rw [execPhaseSample, if_neg (by simp [h])]
    rfl
  rw [hx, hform]
  generalize beatShown s p far = u at hu hoor hval hkeep
  by_cases hok : far = false ∧ s.laneState p = 6
  · rw [if_neg (by simp [hok.1, hok.2])]
    by_cases hwas : s.fld (.TIM_PORT_STATUS p) F.TIM_PORT_STATUS_PH_VALID = 1
    · rw [if_neg (by simp [hwas])]
      exact ⟨_, rfl, hoor, hval, fun _ _ h0 => absurd (hwas.symm.trans h0) (by decide), hkeep.of_regs⟩
    · rw [if_pos (by simp [hwas])]
      have hg (x : PtpPort) (y : Word) : ((u.putPtp p x).put (.TIM_PHASE p) y).get (.TIM_PORT_STATUS p) = u.get (.TIM_PORT_STATUS p) :=
        get_put_off (s := u.putPtp p x) (r := .TIM_PHASE p) (q := .TIM_PORT_STATUS p) hi' hi nofun y
      refine ⟨_, rfl, (congrArg _ (hg _ _)).trans hoor, (congrArg _ (hg _ _)).trans hval,
        fun _ _ _ => State.get_put_self (s := u.putPtp p _) _ _ hu, ?_⟩
      have hk1 : ∀ x : PtpPort, Keeps (fun r => r ∈ [Reg.TIM_PORT_STATUS p, .TIM_PHASE p]) s (u.putPtp p x) := fun x => hkeep.of_regs
      exact (hk1 _).put (by simp) _
  · rw [if_pos (by rw [Bool.not_eq_true', Bool.and_eq_false_iff]; by_contra hc; exact hok (by simpa using hc))]
    exact ⟨_, rfl, hoor, hval, fun h1 h2 => absurd ⟨h1, h2⟩ hok, hkeep⟩

/-- Settles O46: edges, faults, settings, transitions, estimates and beats of the reference slots. -/
theorem referenceSlots : Obligations.ReferenceSlots := by
  unfold Obligations.ReferenceSlots
  refine ⟨?_, fun s k hs hsl hk => ⟨exec_refLos hs hsl hk, exec_refLos_idle⟩, ?_, ?_, fun s hs => exec_freqEstimate hs,
    fun s p w far hs => ⟨fun h => exec_phaseSample_off h w far, fun h => exec_phaseSample hs h w far⟩⟩
  · intro s k code hs hsl hk at' early st
    refine ⟨exec_refEdge_idle, fun h0 ht he => ⟨fun hkind => ?_, fun hkind => ?_⟩⟩
    · have hsl1 : skeysFrom none (edgeTaken s k code).tim.slots = true := slots_putSlot hsl k _
      have hslot : (edgeTaken s k code).slot k = _ := slot_putSlot hsl k _
      obtain ⟨p1, p2, p3, p4, p5, p6⟩ := ppsEdge_spec (s := edgeTaken s k code) hs.regs hsl1 (hk.trans (by decide)) (edgeTime s k code)
      rw [hslot] at p3 p6
      obtain ⟨q1, q2, q3⟩ := secondOffset_spec (edgeTime s k code)
      exact ⟨_, secondOffset (edgeTime s k code), (exec_refEdge hk (by omega) h0 ht he).trans (congrArg Host.Outcome.next (if_pos hkind)),
        p1, p2, p3, p4, q1, q2, q3, p5, p6⟩
    · intro x
      rw [exec_refEdge hk (by omega) h0 ht he, if_neg (by omega), clkEdge_edgeTaken hsl]
      rfl
  · intro s h k x hs hsl he hk hp
    refine ⟨_, exec_refCfgWrite hs he hk hp, ?_, fun h => if_pos h, fun h => if_neg h⟩
    split
    · exact (get_of_regs (s := wrote s (.TIM_REF_CFG k) x) rfl _).trans (wrote_get hs _ _)
    · exact wrote_get hs _ _
  · intro s k hs hsl hk
    refine ⟨fun hoff => ?_, freqFault_bit hs.regs k, exec_slotRemainExpires_idle, fun h2 h0 => ⟨_, exec_slotRemainExpires hk h2 h0, fun hoff => ?_,
      fun hoff => slotRemain_spec hs h2 h0 hoff⟩⟩
    · rw [slotStep_off hoff]
      exact slotOff_spec hs hsl hk
    · rw [slotStep_off hoff, State.refState, State.fld, (slotOff_spec hs hsl hk).1]
      exact state_of_faults _ _

end Sys2Proof
end

section
/-! PROOF. Fail-over of the engines, their self-test, and the servo strobe (R332, R347 to R349). -/
namespace Sys2Proof

open Sys2Proof.Machine

set_option Elab.async false

variable {α : Type} {g : State → α} {R : Reg → Prop} {K : Nat → Prop} {s u t : State} {k p a : Nat}

/-! ## Fields of TIM_SAF_STATUS -/

/-- The two engines' fields are beside each other. -/
theorem engFld_beside (h : a ≤ 1) : (engFld a).apart (engFld (1 - a)) = true ∧ (engFld (1 - a)).apart (engFld a) = true := by
  interval_cases a <;> decide

/-! ## A fail-over (R348) -/

/-- The engine that gave up is under test, and the standby's copy is used. -/
def handedOver (s : State) (a : Nat) : State := { s with tim := { s.tim with testing := some a, standby := none } }

/-- The standby is ACTIVE. -/
def failedOver (s : State) (a : Nat) : State :=
  ((((handedOver s a).setFld .TIM_SAF_STATUS F.TIM_SAF_STATUS_ACTIVE (1 - a)).setFld .TIM_SAF_STATUS F.TIM_SAF_STATUS_STANDBY_OK 0).setFld
    .TIM_SAF_STATUS (engFld (1 - a)) 0).setFld .TIM_SAF_STATUS (engFld a) 2

theorem engineGiveUp_standby (ha : s.fld .TIM_SAF_STATUS F.TIM_SAF_STATUS_ACTIVE = a) (h : s.fld .TIM_SAF_STATUS F.TIM_SAF_STATUS_STANDBY_OK = 1) :
    s.engineGiveUp = ((failedOver s a).count C.engFailovers).event Ev.saffronFailover (1 - a) 0 := by
  subst ha
  exact if_pos h

theorem failedOver_fld (hs : s.regsOk) (h1 : a ≤ 1) :
    (failedOver s a).fld .TIM_SAF_STATUS F.TIM_SAF_STATUS_ACTIVE = 1 - a ∧ (failedOver s a).fld .TIM_SAF_STATUS F.TIM_SAF_STATUS_STANDBY_OK = 0 ∧
    (failedOver s a).fld .TIM_SAF_STATUS (engFld (1 - a)) = 0 ∧ (failedOver s a).fld .TIM_SAF_STATUS (engFld a) = 2 := by
  have k0 : (handedOver s a).regsOk := hs
  unfold failedOver
  generalize handedOver s a = w at k0
  obtain ⟨i1, j1⟩ := engFld_in a
  obtain ⟨i2, j2⟩ := engFld_in (1 - a)
  obtain ⟨a1, a2, a3⟩ := engFld_apart a
  obtain ⟨b1, b2, b3⟩ := engFld_apart (1 - a)
  obtain ⟨c1, c2⟩ := engFld_beside h1
  have k1 : (w.setFld .TIM_SAF_STATUS F.TIM_SAF_STATUS_ACTIVE (1 - a)).regsOk := regsOk_setFld k0
  have k2 : ((w.setFld .TIM_SAF_STATUS F.TIM_SAF_STATUS_ACTIVE (1 - a)).setFld .TIM_SAF_STATUS F.TIM_SAF_STATUS_STANDBY_OK 0).regsOk :=
    regsOk_setFld k1
  have p1 := (fld_setFld_beside k1 (r := .TIM_SAF_STATUS) (v := 0) (by decide : F.TIM_SAF_STATUS_STANDBY_OK.apart F.TIM_SAF_STATUS_ACTIVE = true)
    (by decide)).trans (fld_setFld_lt k0 (by decide) (by show 1 - a < 4; omega))
  have p2 := fld_setFld_lt k1 (r := .TIM_SAF_STATUS) (f := F.TIM_SAF_STATUS_STANDBY_OK) (v := 0) (by decide) (by decide)
  generalize (w.setFld .TIM_SAF_STATUS F.TIM_SAF_STATUS_ACTIVE (1 - a)).setFld .TIM_SAF_STATUS F.TIM_SAF_STATUS_STANDBY_OK 0 = u at k2 p1 p2
  have k3 : (u.setFld .TIM_SAF_STATUS (engFld (1 - a)) 0).regsOk := regsOk_setFld k2
  refine ⟨?_, ?_, ?_, ?_⟩
  · exact (fld_setFld_beside k3 a2 (by decide)).trans ((fld_setFld_beside k2 b2 (by decide)).trans p1)
  · exact (fld_setFld_beside k3 a1 (by decide)).trans ((fld_setFld_beside k2 b1 (by decide)).trans p2)
  · exact (fld_setFld_beside k3 c1 i2).trans (fld_setFld_lt k2 i2 (by rw [j2]; decide))
  · exact fld_setFld_lt k3 i1 (by rw [j1]; decide)

theorem not_signal_saf : ¬ signalAddr (Reg.TIM_SAF_STATUS).addr := not_signalAddr rfl nofun nofun nofun

theorem failedOver_writes (s : State) (a : Nat) : Signals [.TIM_SAF_STATUS] [C.engFailovers] (handedOver s a) (failedOver s a) :=
  (((Signals.refl.setFld (by simp) _ _).setFld (by simp) _ _).setFld (by simp) _ _).setFld (by simp) _ _

theorem failover_spec (hs : StoresCanonical s) (ha : s.fld .TIM_SAF_STATUS F.TIM_SAF_STATUS_ACTIVE = a) (h1 : a ≤ 1)
    (hok : s.fld .TIM_SAF_STATUS F.TIM_SAF_STATUS_STANDBY_OK = 1) :
    let t := s.engineGiveUp
    t.fld .TIM_SAF_STATUS F.TIM_SAF_STATUS_ACTIVE = 1 - a ∧ t.fld .TIM_SAF_STATUS F.TIM_SAF_STATUS_STANDBY_OK = 0 ∧
    t.fld .TIM_SAF_STATUS (engFld (1 - a)) = 0 ∧ t.fld .TIM_SAF_STATUS (engFld a) = 2 ∧
    CountedOnce C.engFailovers s t ∧ SignalsRegs [.TIM_SAF_STATUS] s t ∧ SignalsCounters [C.engFailovers] s t ∧
    t = { s with regs := t.regs, masked := t.masked, cnt := t.cnt, hlt := t.hlt, irq := t.irq, out := t.out,
                 tim := { s.tim with testing := some a, standby := none } } := by
  intro t
  have ht : t = ((failedOver s a).count C.engFailovers).event Ev.saffronFailover (1 - a) 0 := engineGiveUp_standby ha hok
  obtain ⟨f1, f2, f3, f4⟩ := failedOver_fld hs.regs h1
  have hw := failedOver_writes s a
  have hcnt : (failedOver s a).cnt = s.cnt := rfl
  clear_value t
  generalize failedOver s a = u at ht f1 f2 f3 f4 hw hcnt
  have hsig : Signals [.TIM_SAF_STATUS] [C.engFailovers] (handedOver s a) t := by
    rw [ht]
    exact (hw.count (.inr (by simp))).event (by decide) _ _
  have hev : Signals [] [] (u.count C.engFailovers) t := by
    rw [ht]
    exact Signals.refl.event (by decide) _ _
  have hg (f : Fld) : t.fld .TIM_SAF_STATUS f = u.fld .TIM_SAF_STATUS f := congrArg f.get (hev.regs .TIM_SAF_STATUS not_signal_saf nofun).1
  refine ⟨(hg _).trans f1, (hg _).trans f2, (hg _).trans f3, (hg _).trans f4, ?_, hsig.regs, hsig.cnts, hsig.rest⟩
  have hc : CountedOnce C.engFailovers u (u.count C.engFailovers) := countedOnce_any u _
  have hc' := countedOnce_of_counter hc (hev.cnts C.engFailovers (by decide) (by simp)).symm
  unfold CountedOnce at hc' ⊢
  rw [hc', counter_of_cnt hcnt]

/-! ## No standby (R349, R367, R371) -/

/-- No engine is ACTIVE. -/
def enginesLost (s : State) (a : Nat) : State :=
  (s.setFld .TIM_SAF_STATUS F.TIM_SAF_STATUS_ACTIVE 2).setFld .TIM_SAF_STATUS (engFld a) 2

theorem engineGiveUp_lost (ha : s.fld .TIM_SAF_STATUS F.TIM_SAF_STATUS_ACTIVE = a) (h : s.fld .TIM_SAF_STATUS F.TIM_SAF_STATUS_STANDBY_OK = 0) :
    s.engineGiveUp = ((enginesLost s a).suppressAll.raise Ev.saffronLost 0 0).selectionLost := by
  subst ha
  exact if_neg (by rw [h]; decide)

theorem suppressAll_leaves {g : State → α} (b : Blind g) (s : State) :
    Leaves g (fun r => ∃ k < 8, r = .TIM_TRIG_STATUS k) (fun _ => False) s s.suppressAll :=
  foldl_keeps (P := Leaves g _ _ s) _ _ .refl fun _ k hk hw => .ite (hw.setFld b ⟨k, List.mem_range.mp hk, rfl⟩ _ _) hw

theorem suppressAll_spec (hs : StoresCanonical s) (hk : k < 8) (h : s.fld (.TIM_TRIG_STATUS k) F.TIM_TRIG_STATUS_ARMED = 1) :
    s.suppressAll.fld (.TIM_TRIG_STATUS k) F.TIM_TRIG_STATUS_SUPPRESSED = 1 := by
  have hi {j : Nat} (hj : j < 8) : (Reg.TIM_TRIG_STATUS j).indexOk = true := decide_eq_true (hj.trans (by decide))
  refine foldl_own (P := StoresCanonical) (V := fun u => u.get (.TIM_TRIG_STATUS k)) (Q := fun w => F.TIM_TRIG_STATUS_SUPPRESSED.get w = 1)
    List.nodup_range (List.mem_range.mpr hk) (fun u j _ hu => keep_ite (hu.setFld ..) hu) (fun u j hj hne hu => ?_) (fun u hu hv => ?_) hs
  · split
    · exact get_setFld_off (r := .TIM_TRIG_STATUS j) (q := .TIM_TRIG_STATUS k) (hi (List.mem_range.mp hj)) (hi hk) (by simpa using hne)
    · rfl
  · have he : u.fld (.TIM_TRIG_STATUS k) F.TIM_TRIG_STATUS_ARMED = 1 := (congrArg F.TIM_TRIG_STATUS_ARMED.get hv).trans h
    rw [if_pos he]
    exact fld_setFld_lt hu.regs (by decide) (by decide)

/-- The slots as selection stops. -/
def slotsReleased (s : State) : State :=
  (List.range 8).foldl (fun (s : State) k =>
    if s.fld (.TIM_REF_STATUS k) F.TIM_REF_STATUS_STATE = 4 then s.setFld (.TIM_REF_STATUS k) F.TIM_REF_STATUS_STATE 3 else s) s

theorem slotsReleased_leaves {g : State → α} (b : Blind g) (s : State) :
    Leaves g (fun r => ∃ k < 8, r = .TIM_REF_STATUS k) (fun _ => False) s (slotsReleased s) :=
  foldl_keeps (P := Leaves g _ _ s) _ _ .refl fun _ k hk hw => .ite (hw.setFld b ⟨k, List.mem_range.mp hk, rfl⟩ _ _) hw

theorem slotsReleased_state (hs : StoresCanonical s) (hk : k < 8) : (slotsReleased s).refState k = if s.refState k = 4 then 3 else s.refState k := by
  refine foldl_own (P := StoresCanonical) (V := fun u => u.get (.TIM_REF_STATUS k))
    (Q := fun w => F.TIM_REF_STATUS_STATE.get w = if s.refState k = 4 then 3 else s.refState k)
    List.nodup_range (List.mem_range.mpr hk) (fun u j _ hu => keep_ite (hu.setFld ..) hu) (fun u j hj hne hu => ?_) (fun u hu hv => ?_) hs
  · split
    · exact get_setFld_off (r := .TIM_REF_STATUS j) (q := .TIM_REF_STATUS k) (refStatus_indexOk (List.mem_range.mp hj)) (refStatus_indexOk hk)
        (by simpa using hne)
    · rfl
  · have he : u.fld (.TIM_REF_STATUS k) F.TIM_REF_STATUS_STATE = s.refState k := congrArg F.TIM_REF_STATUS_STATE.get hv
    rw [he]
    by_cases h4 : s.refState k = 4
    · rw [if_pos h4, if_pos h4]
      exact fld_setFld_lt hu.regs (by decide) (by decide)
    · rw [if_neg h4, if_neg h4]
      exact he

theorem slotsReleased_canonical (hs : StoresCanonical s) : StoresCanonical (slotsReleased s) :=
  foldl_keeps (P := StoresCanonical) _ _ hs fun _ _ _ hu => keep_ite (hu.setFld ..) hu

/-- WAIT_OSC is shown. -/
structure WaitsOsc (n : Nat) (s : State) : Prop where
  canon : StoresCanonical s
  state : s.selState = 0
  synt : s.fld .TIM_SEL_STATUS F.TIM_SEL_STATUS_SYNTONIZED = n

namespace WaitsOsc

variable {n : Nat}

theorem putSel (h : WaitsOsc n u) {f : Fld} (h1 : f.apart F.TIM_SEL_STATUS_STATE = true) (h2 : f.apart F.TIM_SEL_STATUS_SYNTONIZED = true) (x : Nat) :
    WaitsOsc n (u.setFld .TIM_SEL_STATUS f x) :=
  ⟨h.canon.setFld .., (fld_setFld_beside h.canon.regs h1 (by decide)).trans h.state, (fld_setFld_beside h.canon.regs h2 (by decide)).trans h.synt⟩

theorem signals (h : WaitsOsc n u) (hs : Signals [] [] u t) (hc : StoresCanonical t) : WaitsOsc n t := by
  have hg := (hs.regs .TIM_SEL_STATUS (not_signalAddr rfl nofun nofun nofun) nofun).1
  exact ⟨hc, (congrArg F.TIM_SEL_STATUS_STATE.get hg).trans h.state, (congrArg F.TIM_SEL_STATUS_SYNTONIZED.get hg).trans h.synt⟩

theorem clearCode (h : WaitsOsc n u) (code : Nat) : WaitsOsc n (u.clearCode code) :=
  h.signals (Signals.refl.clearCode code) ((Evolves.refl.clearCode code).stores h.canon)

end WaitsOsc

theorem setSelState_zero (hs : StoresCanonical s) :
    WaitsOsc (s.fld .TIM_SEL_STATUS F.TIM_SEL_STATUS_SYNTONIZED) (s.setSelState 0) := by
  unfold State.setSelState
  extract_lets old w x y
  split
  · next h => exact ⟨hs, h, rfl⟩
  · have hw : WaitsOsc (s.fld .TIM_SEL_STATUS F.TIM_SEL_STATUS_SYNTONIZED) w :=
      ⟨hs.setFld .., fld_setFld_lt hs.regs (by decide) (by decide), fld_setFld_beside hs.regs (by decide) (by decide)⟩
    have hx : WaitsOsc (s.fld .TIM_SEL_STATUS F.TIM_SEL_STATUS_SYNTONIZED) x :=
      keep_ite (((hw.putSel (by decide) (by decide) 0).clearCode _).clearCode _) (keep_ite (hw.clearCode _) hw)
    have hy : WaitsOsc (s.fld .TIM_SEL_STATUS F.TIM_SEL_STATUS_SYNTONIZED) y := keep_ite hx (hx.putSel (by decide) (by decide) 0)
    have hz : WaitsOsc (s.fld .TIM_SEL_STATUS F.TIM_SEL_STATUS_SYNTONIZED)
        (if (0 : Nat) = 3 then y else y.setFld .TIM_SEL_STATUS F.TIM_SEL_STATUS_SETTLED 0) := keep_ite hy (hy.putSel (by decide) (by decide) 0)
    exact hz.signals (Signals.signalProof.irqEvent .refl (by decide)) ((Evolves.refl.irqEvent 88).stores hz.canon)

/-- The conditions of other codes stay raised when the selection state changes. -/
theorem setSelState_raised (s : State) (v : Nat) {c : Nat} (h1 : c ≠ Ev.holdoverEnter) (h2 : c ≠ Ev.holdoverExpired) (h3 : c ≠ Ev.freeRun) (i : Nat) :
    (s.setSelState v).raised c i = s.raised c i := by
  unfold State.setSelState
  extract_lets old w x y
  have hw : w.raised c i = s.raised c i := rfl
  have hx : x.raised c i = s.raised c i := by
    unfold x
    split
    · rw [clearCode_raised_ne _ h2, clearCode_raised_ne _ h1]
      exact hw
    · split
      · rw [clearCode_raised_ne _ h3]
        exact hw
      · exact hw
  have hy : y.raised c i = s.raised c i := by
    unfold y
    split
    · exact hx
    · exact hx
  have hz : ∀ z : State, z.raised c i = s.raised c i → (z.irqEvent 88).raised c i = s.raised c i := fun z hz => by
    rw [← hz, State.raised, (irqEvent_changes z (by decide : 88 < 128)).hlt]
    rfl
  split
  · rfl
  · refine hz _ ?_
    split
    · exact hy
    · exact hy

/-- What the loss of the last engine leaves. -/
theorem saffronLost_spec (hs : StoresCanonical s) (ha : s.fld .TIM_SAF_STATUS F.TIM_SAF_STATUS_ACTIVE = a)
    (hok : s.fld .TIM_SAF_STATUS F.TIM_SAF_STATUS_STANDBY_OK = 0) :
    let t := s.engineGiveUp
    t.fld .TIM_SAF_STATUS F.TIM_SAF_STATUS_ACTIVE = 2 ∧ t.fld .TIM_SAF_STATUS (engFld a) = 2 ∧ t.selState = 0 ∧
    t.tim = s.tim ∧ t.raised Ev.saffronLost 0 = true ∧ t.fld .TIM_SEL_STATUS F.TIM_SEL_STATUS_SYNTONIZED = 0 ∧
    (∀ k, k < 8 → t.refState k = if s.refState k = 4 then 3 else s.refState k) ∧
    ∀ k, k < 8 → s.fld (.TIM_TRIG_STATUS k) F.TIM_TRIG_STATUS_ARMED = 1 → t.fld (.TIM_TRIG_STATUS k) F.TIM_TRIG_STATUS_SUPPRESSED = 1 := by
  intro t
  have b : Blind fun u : State => u.tim := ⟨fun _ _ _ _ _ _ _ => rfl, fun _ _ => rfl, fun _ _ => rfl⟩
  have ht : t = _ := engineGiveUp_lost ha hok
  obtain ⟨i1, j1⟩ := engFld_in a
  obtain ⟨a1, a2, a3⟩ := engFld_apart a
  -- the engines
  have c1 : StoresCanonical (s.setFld .TIM_SAF_STATUS F.TIM_SAF_STATUS_ACTIVE 2) := hs.setFld ..
  have ce : StoresCanonical (enginesLost s a) := c1.setFld ..
  have e1 : (enginesLost s a).fld .TIM_SAF_STATUS F.TIM_SAF_STATUS_ACTIVE = 2 :=
    (fld_setFld_beside c1.regs a2 (by decide)).trans (fld_setFld_lt hs.regs (by decide) (by decide))
  have e2 : (enginesLost s a).fld .TIM_SAF_STATUS (engFld a) = 2 := fld_setFld_lt c1.regs i1 (by rw [j1]; decide)
  have e3 (q : Reg) (hq : q.indexOk = true) (hn : Reg.TIM_SAF_STATUS ≠ q) : (enginesLost s a).get q = s.get q :=
    (get_setFld_off rfl hq hn).trans (get_setFld_off rfl hq hn)
  have e4 : (enginesLost s a).tim = s.tim := rfl
  generalize enginesLost s a = u at ht ce e1 e2 e3 e4
  -- the units, the condition, the slots, the state
  have l1 := suppressAll_leaves b u
  have s1 : ∀ k, k < 8 → s.fld (.TIM_TRIG_STATUS k) F.TIM_TRIG_STATUS_ARMED = 1 →
      u.suppressAll.fld (.TIM_TRIG_STATUS k) F.TIM_TRIG_STATUS_SUPPRESSED = 1 := fun k hk h =>
    suppressAll_spec ce hk ((congrArg F.TIM_TRIG_STATUS_ARMED.get (e3 (.TIM_TRIG_STATUS k) (decide_eq_true (hk.trans (by decide))) nofun)).trans h)
  have cu : StoresCanonical u.suppressAll := foldl_keeps (P := StoresCanonical) _ _ ce fun _ _ _ hu => keep_ite (hu.setFld ..) hu
  generalize u.suppressAll = v at ht l1 s1 cu
  have l2 : Signals [] [] v (v.raise Ev.saffronLost 0 0) := Signals.refl.raise (by decide) _ _
  have r2 : (v.raise Ev.saffronLost 0 0).raised Ev.saffronLost 0 = true := raise_raised rfl _
  have cv : StoresCanonical (v.raise Ev.saffronLost 0 0) := cu.raise _ _ _
  generalize v.raise Ev.saffronLost 0 0 = w at ht l2 r2 cv
  have hl : w.selectionLost = ((slotsReleased w).setFld .TIM_SEL_STATUS F.TIM_SEL_STATUS_SYNTONIZED 0).setSelState 0 := rfl
  rw [hl] at ht
  have l3 := slotsReleased_leaves b w
  have s3 : ∀ k, k < 8 → (slotsReleased w).refState k = if w.refState k = 4 then 3 else w.refState k := fun k hk => slotsReleased_state cv hk
  have c3 := slotsReleased_canonical cv
  have r3 : (slotsReleased w).raised Ev.saffronLost 0 = true :=
    foldl_keeps (P := fun u : State => u.raised Ev.saffronLost 0 = true) _ _ r2 fun _ _ _ hu => keep_ite (P := fun u : State => u.raised Ev.saffronLost 0 = true) hu hu
  generalize slotsReleased w = x at ht l3 s3 c3 r3
  have p4 := setSelState_zero (c3.setFld .TIM_SEL_STATUS F.TIM_SEL_STATUS_SYNTONIZED 0)
  have z4 : (x.setFld .TIM_SEL_STATUS F.TIM_SEL_STATUS_SYNTONIZED 0).fld .TIM_SEL_STATUS F.TIM_SEL_STATUS_SYNTONIZED = 0 :=
    fld_setFld_lt c3.regs (by decide) (by decide)
  have l4 : Leaves (fun u : State => u.tim) (fun r => r = .TIM_SEL_STATUS ∨ signalReg r) (fun _ => True) x t := by
    rw [ht]
    exact (Leaves.refl.setFld b (.inl rfl) _ _).setSelState b (.inl rfl) (fun _ => .inr) (fun _ _ => trivial) 0
  have l2' : Leaves (fun u : State => u.tim) signalReg (fun _ => True) v w :=
    Leaves.refl.signals b l2 nofun (fun _ => id) nofun fun _ _ => trivial
  have r4 : t.raised Ev.saffronLost 0 = true := by
    rw [ht, setSelState_raised _ _ (by decide) (by decide) (by decide)]
    exact r3
  rw [← ht] at p4
  have g4 {q : Reg} (hq : q.indexOk = true) (h1 : ¬ strobeReg q) : t.get q = x.get q :=
    l4.regs.get (fun r hr => by rcases hr with rfl | hr; exacts [rfl, signalReg_indexOk hr]) hq fun h => h1 (by
      rcases h with rfl | h
      exacts [trivial, strobeReg_of_signalReg h])
  have g4' {k : Nat} (hk : k < 8) : t.get (.TIM_REF_STATUS k) = x.get (.TIM_REF_STATUS k) :=
    l4.regs.get (fun r hr => by rcases hr with rfl | hr; exacts [rfl, signalReg_indexOk hr]) (refStatus_indexOk hk) (by simp [signalReg])
  have g3 {q : Reg} (hq : q.indexOk = true) (h1 : ¬ strobeReg q) : x.get q = w.get q :=
    l3.regs.get (fun r ⟨k, hk, hr⟩ => hr ▸ refStatus_indexOk hk) hq fun ⟨k, hk, hr⟩ => h1 (hr ▸ hk)
  have g2 {q : Reg} (hq : q.indexOk = true) (h1 : ¬ signalReg q) : w.get q = v.get q := l2'.regs.get (fun _ => signalReg_indexOk) hq h1
  have g1 {q : Reg} (hq : q.indexOk = true) (h2 : ∀ k < 8, q ≠ .TIM_TRIG_STATUS k) : v.get q = u.get q :=
    l1.regs.get (fun r ⟨k, hk, hr⟩ => hr ▸ decide_eq_true (hk.trans (by decide))) hq fun ⟨k, hk, hr⟩ => h2 k hk hr
  have hsaf : t.get .TIM_SAF_STATUS = u.get .TIM_SAF_STATUS :=
    (g4 (q := .TIM_SAF_STATUS) rfl not_false).trans ((g3 (q := .TIM_SAF_STATUS) rfl not_false).trans
      ((g2 (q := .TIM_SAF_STATUS) rfl not_false).trans (g1 rfl fun _ _ => nofun)))
  refine ⟨(congrArg _ hsaf).trans e1, (congrArg _ hsaf).trans e2, p4.state, l4.view.trans (l3.view.trans (l2'.view.trans (l1.view.trans e4))), r4,
    p4.synt.trans z4, fun k hk => ?_, fun k hk h => ?_⟩
  · have hi := refStatus_indexOk hk
    have hw : w.refState k = s.refState k :=
      congrArg F.TIM_REF_STATUS_STATE.get ((g2 hi not_false).trans ((g1 hi fun _ _ => nofun).trans (e3 _ hi nofun)))
    rw [← hw]
    exact (congrArg F.TIM_REF_STATUS_STATE.get (g4' hk)).trans (s3 k hk)
  · have hi : (Reg.TIM_TRIG_STATUS k).indexOk = true := decide_eq_true (hk.trans (by decide))
    exact (congrArg F.TIM_TRIG_STATUS_SUPPRESSED.get ((g4 hi not_false).trans ((g3 hi not_false).trans (g2 hi not_false)))).trans (s1 k hk h)

/-! ## The commands (R347 to R349) -/

theorem engineOn_of_active (ht : s.tim.ticking = true) (n : Nat) (h : s.fld .TIM_SAF_STATUS F.TIM_SAF_STATUS_ACTIVE = n) :
    s.engineOn = (n != 2) := by
  rw [State.engineOn, ht, h, Bool.true_and]

theorem exec_engineFault_off (h : s.engineOn = false) (lost : Bool) : exec (.engineFault lost) s = .next s := by
  have hx : exec (.engineFault lost) s = execEngineFault s lost := rfl
  rw [hx, execEngineFault, if_pos (by simp [h])]

theorem exec_engineFault (h : s.engineOn = true) (lost : Bool) :
    exec (.engineFault lost) s = .next (
      if lost && !s.engineGiveUp.engineOn then { s.engineGiveUp with tim := { s.engineGiveUp.tim with unlocked := true } } else s.engineGiveUp) := by
  have hx : exec (.engineFault lost) s = execEngineFault s lost := rfl
  rw [hx, execEngineFault, if_neg (by simp [h])]

theorem exec_engineFault_standby (hs : StoresCanonical s) (he : s.engineOn = true) (ha : s.fld .TIM_SAF_STATUS F.TIM_SAF_STATUS_ACTIVE ≤ 1)
    (hok : s.fld .TIM_SAF_STATUS F.TIM_SAF_STATUS_STANDBY_OK = 1) (lost : Bool) : exec (.engineFault lost) s = .next s.engineGiveUp := by
  have hspec := failover_spec hs rfl ha hok
  rw [exec_engineFault he, if_neg]
  obtain ⟨h1, -, -, -, -, -, -, hrest⟩ := hspec
  have ht : s.engineGiveUp.tim.ticking = true := by
    rw [hrest]
    exact (Bool.and_eq_true_iff.mp he).1
  rw [engineOn_of_active ht _ h1]
  have hne : (1 - s.fld .TIM_SAF_STATUS F.TIM_SAF_STATUS_ACTIVE != 2) = true := by
    simp only [bne_iff_ne]
    omega
  simp [hne]

/-- An engine's pass of its self-test. -/
theorem exec_engineSelftestDone (pass : Bool) : exec (.engineSelftestDone pass) s = .next (
    match s.tim.testing with
    | none => s
    | some e =>
      let s := { s with tim := { s.tim with testing := none } }
      if !s.engineOn then s
      else if pass then { s with tim := { s.tim with passed := some e } }
      else s.raise Ev.saffronSingle e 0) := rfl

theorem selftestFailed_spec (e : Nat) : let u : State := { s with tim := { s.tim with testing := none } }
    (u.raise Ev.saffronSingle e 0).raised Ev.saffronSingle e = true ∧ (u.raise Ev.saffronSingle e 0).get .TIM_SAF_STATUS = s.get .TIM_SAF_STATUS ∧
    (u.raise Ev.saffronSingle e 0).tim = { s.tim with testing := none } := by
  intro u
  have hsig : Signals [] [] u (u.raise Ev.saffronSingle e 0) := Signals.refl.raise (by decide) _ _
  exact ⟨raise_raised rfl _, (hsig.regs .TIM_SAF_STATUS not_signal_saf nofun).1, (congrArg State.tim hsig.rest).trans rfl⟩

/-- The state has no reset asked for through a fault of the engine. -/
theorem engineGiveUp_boot (s : State) : s.engineGiveUp.boot = s.boot := by
  have b : Blind State.boot := ⟨fun _ _ _ _ _ _ _ => rfl, fun _ _ => rfl, fun _ _ => rfl⟩
  unfold State.engineGiveUp
  extract_lets a u v w y x
  split
  · exact (Leaves.refl.event (R := fun _ => True) (K := fun _ => True) b (fun _ _ => trivial) (fun _ _ => trivial) (by decide) _ _).view
  · have h1 : (x.suppressAll.raise Ev.saffronLost 0 0).boot = s.boot := by
      have hsig : Signals [] [] x.suppressAll (x.suppressAll.raise Ev.saffronLost 0 0) := Signals.refl.raise (by decide) _ _
      exact ((congrArg State.boot hsig.rest).trans rfl).trans ((suppressAll_leaves b x).view.trans rfl)
    have h2 : ∀ w : State, w.selectionLost.boot = w.boot := fun w =>
      ((Leaves.refl (K := fun _ => True).setFld b (r := .TIM_SEL_STATUS) trivial _ _).setSelState b (R := fun _ => True) trivial (fun _ _ => trivial)
        (fun _ _ => trivial) 0).view.trans (slotsReleased_leaves b w).view
    exact (h2 _).trans h1

/-- A SWAP that is taken. -/
theorem exec_engineSwap {h : Nat} {x : Word} (he : ExpertWindow s h) (hp : Passes s h .TIM_ENG_CTL x) (hsw : F.TIM_ENG_CTL_SWAP.get x = 1) :
    exec (.engineSwap .window x) s = .next (wrote s .TIM_ENG_CTL x).engineSwap := by
  have hx : exec (.engineSwap .window x) s = execEngineSwap .window x s := rfl
  have ha : asks F.TIM_ENG_CTL_SWAP x 1 = true := by rw [asks, hsw]; rfl
  have hw : (wrote s .TIM_ENG_CTL x).writeAction h .TIM_ENG_CTL (s.get .TIM_ENG_CTL) x = (wrote s .TIM_ENG_CTL x).engineSwap := if_pos hsw
  have hreq : (wrote s .TIM_ENG_CTL x).engineSwap.boot.resetReq = none := by
    have h1 : (wrote s .TIM_ENG_CTL x).engineSwap.boot = (wrote s .TIM_ENG_CTL x).boot := by
      unfold State.engineSwap
      split
      · exact engineGiveUp_boot _
      · rfl
    rw [h1]
    exact (wrote_resetReq ..).trans he.noReset
  rw [hx, execEngineSwap, if_pos ha, rowWriteReg_expert he hp rfl nofun nofun rfl, hw, takeReset_of_none hreq]

/-! ## The servo strobe (R332, R347, R360, R371) -/

namespace Leaves

section
variable (b : Blind g) (bl : BlindLoop g)
include b bl

theorem declareLos (h : Leaves g R K s u) (hk : R (.TIM_REF_STATUS k)) : Leaves g R K s (u.declareLos k) :=
  ((h.setRef b bl hk _ _).freqLost b bl hk).putSlot b bl _ _

theorem slotServo (h : Leaves g R K s u) (hk : R (.TIM_REF_STATUS k)) (he : R .TIM_SERVO_ERR) (hs : R .TIM_SEL_STATUS) :
    Leaves g R K s (u.slotServo k) := by
  unfold State.slotServo
  extract_lets p v los w x o y e z l old bad
  have hv : Leaves g R K s v := h.portFault b bl hk
  have hw : Leaves g R K s w := .ite (hv.setRef b bl hk _ _) (.ite hv (hv.declareLos b bl hk))
  have hy : Leaves g R K s y := hw.putSlot b bl _ _
  exact .ite h (.ite (.ite hw ((hy.addSample b bl _ _ _).loopSample b bl.toBlindSel he hs _ _)) (hw.setRef b bl hk _ _))

theorem syntServo (h : Leaves g R K s u) (he : R .TIM_SERVO_ERR) (hs : R .TIM_SEL_STATUS) (k : Nat) : Leaves g R K s (u.syntServo k) := by
  unfold State.syntServo
  extract_lets p ok l v
  have hv : Leaves g R K s v := .ite h ((h.setFld b hs _ _).setSel b bl.toBlindSel _)
  exact .ite h (.ite (h.setFld b hs _ _) (.ite hv ((hv.loopEval b bl.toBlindSel he _ _).settle b bl.toBlindSel hs)))

end
end Leaves

theorem blkLanes_dvd (s : State) (b : Nat) : s.blkLanes b ∣ 8 ∧ 0 < s.blkLanes b := by
  unfold State.blkLanes modeLanes
  have h : s.cFld (.PRT_BLK_CFG b) F.PRT_BLK_CFG_MODE % 4 < 4 := Nat.mod_lt _ (by decide)
  generalize s.cFld (.PRT_BLK_CFG b) F.PRT_BLK_CFG_MODE % 4 = m at h
  interval_cases m <;> decide

theorem mem_allPorts (h : s.isPort p = true) : p ∈ s.allPorts := by
  simp only [State.isPort, Bool.and_eq_true, decide_eq_true_eq, beq_iff_eq] at h
  obtain ⟨⟨hp, hen⟩, hm⟩ := h
  obtain ⟨hdvd, hpos⟩ := blkLanes_dvd s (p / 8)
  simp only [State.allPorts, List.mem_flatMap, List.mem_range]
  refine ⟨p / 8, by omega, ?_⟩
  rw [if_pos (by simp [hen])]
  refine List.mem_map.mpr ⟨p % 8 / s.blkLanes (p / 8), List.mem_range.mpr ?_, ?_⟩
  · rw [Nat.div_lt_iff_lt_mul hpos, Nat.div_mul_cancel hdvd]
    omega
  · have := Nat.div_mul_cancel (Nat.dvd_of_mod_eq_zero hm)
    omega

theorem isPort_putPhase (u : State) {q : Nat} (hq : q < 1024) (w : Word) (p : Nat) : (u.put (.TIM_PHASE q) w).isPort p = u.isPort p := by
  have hsel : (u.put (.TIM_PHASE q) w).curSel = u.curSel :=
    fld_put_off (r := .TIM_PHASE q) (q := .STW_EPOCH_STATUS) (decide_eq_true hq) rfl nofun w _
  unfold State.isPort State.blkLanes State.cFld
  rw [hsel]
  rfl

/-- What the phases do not touch decides which of them are valid. -/
theorem phValid_put (u : State) {q : Nat} (hq : q < 1024) (w : Word) (p : Nat) :
    (u.put (.TIM_PHASE q) w).phValid p = u.phValid p ∧ (u.put (.TIM_PHASE q) w).ptpPort p = u.ptpPort p := by
  have hqi : (Reg.TIM_PHASE q).indexOk = true := decide_eq_true hq
  have h1 := isPort_putPhase u hq w p
  refine ⟨?_, rfl⟩
  by_cases hport : u.isPort p = true
  · have hp := isPort_lt hport
    have h2 : (u.put (.TIM_PHASE q) w).laneState p = u.laneState p :=
      fld_put_off (r := .TIM_PHASE q) (q := .LNE_LANE_STATUS p) hqi (decide_eq_true hp) nofun w _
    have h3 : (u.put (.TIM_PHASE q) w).fld (.TIM_PORT_STATUS p) F.TIM_PORT_STATUS_PH_VALID = u.fld (.TIM_PORT_STATUS p) F.TIM_PORT_STATUS_PH_VALID :=
      fld_put_off (r := .TIM_PHASE q) (q := .TIM_PORT_STATUS p) hqi (decide_eq_true hp) nofun w _
    rw [State.phValid, State.phValid, h1, h2, h3]
  · rw [State.phValid, State.phValid, h1]
    simp [hport]

/-- ACC of each valid detector takes its beat. -/
theorem phaseServo_get (hs : StoresCanonical s) (hp : p < 1024) :
    s.phaseServo.get (.TIM_PHASE p) = if s.phValid p then BitVec.ofInt 32 (s.ptpPort p).beat else s.get (.TIM_PHASE p) := by
  have hi : (Reg.TIM_PHASE p).indexOk = true := decide_eq_true hp
  have key : ∀ (l : List Nat) (u : State), (∀ q ∈ l, q < 1024) → StoresCanonical u → (∀ q, u.phValid q = s.phValid q ∧ u.ptpPort q = s.ptpPort q) →
      (l.foldl (fun (s : State) p => if s.phValid p then s.put (.TIM_PHASE p) (BitVec.ofInt 32 (s.ptpPort p).beat) else s) u).get (.TIM_PHASE p) =
        if p ∈ l ∧ s.phValid p = true then BitVec.ofInt 32 (s.ptpPort p).beat else u.get (.TIM_PHASE p) := by
    intro l
    induction l with
    | nil => intro u _ _ _; simp
    | cons q l ih =>
      intro u hl hu hsame
      have hq := hl q List.mem_cons_self
      obtain ⟨v1, v2⟩ := hsame q
      rw [List.foldl_cons]
      by_cases hv : s.phValid q = true
      · rw [if_pos (v1.trans hv), ih _ (fun i hi => hl i (List.mem_cons_of_mem _ hi)) (hu.put _ _)
          fun i => ⟨((phValid_put u hq _ i).1).trans (hsame i).1, (hsame i).2⟩]
        by_cases hqp : q = p
        · subst hqp
          rw [State.get_put_self _ _ _ hu.regs, v2]
          simp [hv]
        · rw [get_put_off (r := .TIM_PHASE q) (decide_eq_true hq) hi (by simpa using hqp)]
          simp [Ne.symm hqp]
      · rw [if_neg (by rw [v1]; exact hv), ih _ (fun i hi => hl i (List.mem_cons_of_mem _ hi)) hu hsame]
        by_cases hqp : q = p
        · subst hqp
          simp [hv]
        · simp [Ne.symm hqp]
  have h1 := key s.allPorts s (fun q hq => mem_allPorts_lt hq) hs fun _ => ⟨rfl, rfl⟩
  have hfold : s.phaseServo = s.allPorts.foldl
      (fun (s : State) p => if s.phValid p then s.put (.TIM_PHASE p) (BitVec.ofInt 32 (s.ptpPort p).beat) else s) s := rfl
  rw [hfold, h1]
  by_cases hv : s.phValid p = true
  · have hport : s.isPort p = true := by
      simp only [State.phValid, Bool.and_eq_true] at hv
      exact hv.1.2
    rw [if_pos ⟨mem_allPorts hport, hv⟩, if_pos hv]
  · rw [if_neg fun h => hv h.2, if_neg hv]

/-- What the servo strobe leaves of time before the standby loads its copy. -/
def servoView (s : State) : Time × Nat × Nat × Option Nat × Option EngineCopy × Bool :=
  (s.tim.t, s.tim.strobes, s.tim.nextServo, s.tim.passed, s.tim.standby, s.tim.ticking)

/-- The servo strobe before the standby loads its copy. -/
def servoLoops (s : State) : State :=
  let s := [4, 5, 6, 7].foldl State.slotServo s.phaseServo
  match s.activeSlot with
  | some k => s.syntServo k
  | none => s

theorem servoActs_eq (s : State) (copied near : Bool) : s.servoActs copied near = (servoLoops s).engineCopy copied near := rfl

theorem servoLoops_leaves (hs : StoresCanonical s) : StoresCanonical (servoLoops s) ∧ servoView (servoLoops s) = servoView s ∧
    (servoLoops s).get .TIM_SAF_STATUS = s.get .TIM_SAF_STATUS ∧ ∀ p < 1024, (servoLoops s).get (.TIM_PHASE p) = s.phaseServo.get (.TIM_PHASE p) := by
  have b : Blind servoView := ⟨fun _ _ _ _ _ _ _ => rfl, fun _ _ => rfl, fun _ _ => rfl⟩
  have bl : BlindLoop servoView := ⟨⟨fun _ _ => rfl, fun _ _ _ => rfl⟩, fun _ _ => rfl, fun _ _ => rfl⟩
  have h1 : Leaves servoView (fun r => ∃ p < 1024, r = .TIM_PHASE p) (fun _ => False) s s.phaseServo :=
    foldl_keeps (P := Leaves servoView _ _ s) _ _ .refl fun u p hp hu => .ite (hu.put b ⟨p, mem_allPorts_lt hp, rfl⟩ _) hu
  have h2 : Leaves servoView strobeReg (fun _ => False) s.phaseServo ([4, 5, 6, 7].foldl State.slotServo s.phaseServo) :=
    foldl_keeps (P := Leaves servoView strobeReg _ s.phaseServo) _ _ .refl fun u k hk hu =>
      hu.slotServo b bl (show k < 8 by simp at hk; omega) trivial trivial
  have e2 : Evolves s ([4, 5, 6, 7].foldl State.slotServo s.phaseServo) := Evolves.refl.phaseServo.foldl fun _ _ hy => hy.slotServo _
  have h3 : Leaves servoView strobeReg (fun _ => False) s.phaseServo (servoLoops s) ∧ Evolves s (servoLoops s) := by
    unfold servoLoops
    extract_lets u
    split
    · exact ⟨h2.syntServo b bl trivial trivial _, e2.syntServo _⟩
    · exact ⟨h2, e2⟩
  obtain ⟨h3, e3⟩ := h3
  refine ⟨e3.stores hs, h3.view.trans h1.view, ?_, fun p hp => h3.regs.get (fun _ => strobeReg_indexOk) (decide_eq_true hp) not_false⟩
  exact (h3.regs.get (fun _ => strobeReg_indexOk) (q := .TIM_SAF_STATUS) rfl not_false).trans
    (h1.regs.get (fun r ⟨p, hp, hr⟩ => hr ▸ decide_eq_true hp) rfl fun ⟨_, _, hr⟩ => nomatch hr)

/-- The standby's copy (R347, R348). -/
structure Copied (s t : State) (copied near : Bool) : Prop where
  keeps : t.tim.t = s.tim.t ∧ t.tim.strobes = s.tim.strobes ∧ t.tim.nextServo = s.tim.nextServo
  regs : ∀ q : Reg, q.indexOk = true → q ≠ .TIM_SAF_STATUS → t.get q = s.get q
  loaded : s.engineOn = true → s.fld .TIM_SAF_STATUS F.TIM_SAF_STATUS_ACTIVE ≤ 1 →
    let e := 1 - s.fld .TIM_SAF_STATUS F.TIM_SAF_STATUS_ACTIVE
    let joins := copied = true ∧ s.tim.passed = some e
    (joins → t.fld .TIM_SAF_STATUS (engFld e) = 1 ∧ t.tim.passed = none) ∧
    (joins ∨ s.fld .TIM_SAF_STATUS (engFld e) = 1 →
      t.fld .TIM_SAF_STATUS F.TIM_SAF_STATUS_STANDBY_OK = (if copied && near then 1 else 0) ∧
      t.tim.standby = (if copied then some ⟨t.tim.t.toNat, t.tim.slew, t.tim.servo, t.tim.sel.y, t.tim.sel.i⟩ else s.tim.standby)) ∧
    (¬ joins → s.fld .TIM_SAF_STATUS (engFld e) ≠ 1 → t.fld .TIM_SAF_STATUS F.TIM_SAF_STATUS_STANDBY_OK =
      s.fld .TIM_SAF_STATUS F.TIM_SAF_STATUS_STANDBY_OK ∧ t.tim.standby = s.tim.standby)

theorem engineCopy_idle (copied near : Bool) (h : s.engineOn = false ∨
    (¬ (copied = true ∧ s.tim.passed = some (1 - s.fld .TIM_SAF_STATUS F.TIM_SAF_STATUS_ACTIVE)) ∧
      s.fld .TIM_SAF_STATUS (engFld (1 - s.fld .TIM_SAF_STATUS F.TIM_SAF_STATUS_ACTIVE)) ≠ 1)) : s.engineCopy copied near = s := by
  refine if_pos ?_
  rcases h with h | ⟨h1, h2⟩
  · simp [h]
  · cases copied <;> simp_all

/-- The engine that passed its test is standby. -/
def joined (s : State) (e : Nat) : State := ({ s with tim := { s.tim with passed := none } }).setFld .TIM_SAF_STATUS (engFld e) 1

/-- The standby loads what the active engine holds. -/
def copyLoaded (s : State) (copied near : Bool) : State :=
  let s := if copied then { s with tim := { s.tim with standby := some ⟨s.tim.t.toNat, s.tim.slew, s.tim.servo, s.tim.sel.y, s.tim.sel.i⟩ } } else s
  s.setFld .TIM_SAF_STATUS F.TIM_SAF_STATUS_STANDBY_OK (if copied && near then 1 else 0)

theorem engineCopy_joins {copied near : Bool} (he : s.engineOn = true)
    (hj : copied = true ∧ s.tim.passed = some (1 - s.fld .TIM_SAF_STATUS F.TIM_SAF_STATUS_ACTIVE)) :
    s.engineCopy copied near = copyLoaded (joined s (1 - s.fld .TIM_SAF_STATUS F.TIM_SAF_STATUS_ACTIVE)) copied near := by
  have hJ : (copied && s.tim.passed == some (1 - s.fld .TIM_SAF_STATUS F.TIM_SAF_STATUS_ACTIVE)) = true := by simp [hj]
  unfold State.engineCopy
  extract_lets e joins x u copy y v
  have hJ' : joins = true := hJ
  have hu : u = joined s e := if_pos hJ'
  rw [if_neg (by simp [he, hJ'])]
  have hv : v = if copied then { u with tim := { u.tim with standby := some copy } } else u := rfl
  rw [hv]
  show _ = copyLoaded (joined s e) copied near
  rw [← hu]
  rfl

theorem engineCopy_standby {copied near : Bool} (he : s.engineOn = true)
    (hj : ¬ (copied = true ∧ s.tim.passed = some (1 - s.fld .TIM_SAF_STATUS F.TIM_SAF_STATUS_ACTIVE)))
    (h1 : s.fld .TIM_SAF_STATUS (engFld (1 - s.fld .TIM_SAF_STATUS F.TIM_SAF_STATUS_ACTIVE)) = 1) :
    s.engineCopy copied near = copyLoaded s copied near := by
  have hJ : (copied && s.tim.passed == some (1 - s.fld .TIM_SAF_STATUS F.TIM_SAF_STATUS_ACTIVE)) = false := by
    cases copied <;> simp_all
  unfold State.engineCopy
  extract_lets e joins x u copy y v
  have hJ' : joins = false := hJ
  have hu : u = s := if_neg (by simp [hJ'])
  have h1' : s.fld .TIM_SAF_STATUS (engFld e) = 1 := h1
  rw [if_neg (by simp [he, h1'])]
  have hv : v = if copied then { u with tim := { u.tim with standby := some copy } } else u := rfl
  have hc : copy = ⟨u.tim.t.toNat, u.tim.slew, u.tim.servo, u.tim.sel.y, u.tim.sel.i⟩ := rfl
  rw [hv, hc, hu]
  rfl

theorem copyLoaded_spec (hs : s.regsOk) (copied near : Bool) :
    let t := copyLoaded s copied near
    t.tim.t = s.tim.t ∧ t.tim.strobes = s.tim.strobes ∧ t.tim.nextServo = s.tim.nextServo ∧ t.tim.passed = s.tim.passed ∧
    (∀ q : Reg, q.indexOk = true → q ≠ .TIM_SAF_STATUS → t.get q = s.get q) ∧
    t.fld .TIM_SAF_STATUS F.TIM_SAF_STATUS_STANDBY_OK = (if copied && near then 1 else 0) ∧
    (∀ e, t.fld .TIM_SAF_STATUS (engFld e) = s.fld .TIM_SAF_STATUS (engFld e)) ∧
    t.tim.standby = (if copied then some ⟨t.tim.t.toNat, t.tim.slew, t.tim.servo, t.tim.sel.y, t.tim.sel.i⟩ else s.tim.standby) := by
  have hone {b : Bool} : (if b then 1 else 0) < 2 ^ 1 := by cases b <;> decide
  cases copied
  · refine ⟨rfl, rfl, rfl, rfl, fun q hq hn => get_setFld_off rfl hq (Ne.symm hn), fld_setFld_lt hs (by decide) hone,
      fun e => fld_setFld_beside hs (engFld_apart e).2.2 (engFld_in e).1, rfl⟩
  · have hs' : ({ s with tim := { s.tim with standby := some ⟨s.tim.t.toNat, s.tim.slew, s.tim.servo, s.tim.sel.y, s.tim.sel.i⟩ } } : State).regsOk := hs
    exact ⟨rfl, rfl, rfl, rfl, fun q hq hn => (get_setFld_off rfl hq (Ne.symm hn)).trans rfl, fld_setFld_lt hs' (by decide) hone,
      fun e => (fld_setFld_beside hs' (engFld_apart e).2.2 (engFld_in e).1).trans rfl, rfl⟩

theorem engineCopy_spec (hs : StoresCanonical s) (copied near : Bool) : Copied s (s.engineCopy copied near) copied near := by
  by_cases he : s.engineOn = true
  · by_cases hj : copied = true ∧ s.tim.passed = some (1 - s.fld .TIM_SAF_STATUS F.TIM_SAF_STATUS_ACTIVE)
    · rw [engineCopy_joins he hj]
      have hjoin : (joined s (1 - s.fld .TIM_SAF_STATUS F.TIM_SAF_STATUS_ACTIVE)).regsOk :=
        regsOk_setFld (s := { s with tim := { s.tim with passed := none } }) hs.regs
      have hjf := fld_setFld_lt (s := { s with tim := { s.tim with passed := none } }) (r := .TIM_SAF_STATUS)
        (f := engFld (1 - s.fld .TIM_SAF_STATUS F.TIM_SAF_STATUS_ACTIVE)) (v := 1) hs.regs (engFld_in _).1 (by rw [(engFld_in _).2]; decide)
      obtain ⟨c1, c2, c3, c4, c5, c6, c7, c8⟩ := copyLoaded_spec hjoin copied near
      refine ⟨⟨c1, c2, c3⟩, fun q hq hn => (c5 q hq hn).trans ?_, fun _ _ => ⟨fun _ => ⟨(c7 _).trans hjf, c4⟩, fun _ => ⟨c6, c8⟩, fun hn => absurd hj hn⟩⟩
      exact get_setFld_off (s := { s with tim := { s.tim with passed := none } }) rfl hq (Ne.symm hn)
    · by_cases h1 : s.fld .TIM_SAF_STATUS (engFld (1 - s.fld .TIM_SAF_STATUS F.TIM_SAF_STATUS_ACTIVE)) = 1
      · rw [engineCopy_standby he hj h1]
        obtain ⟨c1, c2, c3, c4, c5, c6, c7, c8⟩ := copyLoaded_spec hs.regs copied near
        exact ⟨⟨c1, c2, c3⟩, c5, fun _ _ => ⟨fun h => absurd h hj, fun _ => ⟨c6, c8⟩, fun _ hn => absurd h1 hn⟩⟩
      · rw [engineCopy_idle copied near (.inr ⟨hj, h1⟩)]
        exact ⟨⟨rfl, rfl, rfl⟩, fun _ _ _ => rfl, fun _ _ => ⟨fun h => absurd h hj, fun h => (h.elim hj h1).elim, fun _ _ => ⟨rfl, rfl⟩⟩⟩
  · rw [engineCopy_idle copied near (.inl (by simpa using he))]
    exact ⟨⟨rfl, rfl, rfl⟩, fun _ _ _ => rfl, fun h => absurd h he⟩

/-- The servo strobe as planned again, or as counted. -/
def servoDue (s : State) : State :=
  if s.sysclkStrobes then { s with tim := { s.tim with strobes := 0 } } else { s with tim := { s.tim with nextServo := s.nextMultiple 1000000 } }

theorem exec_servoStrobe_early {copied near : Bool} (h : if s.sysclkStrobes then s.tim.strobes < 1000 else s.nowNs < s.tim.nextServo) :
    exec (.servoStrobe copied near) s = .next s := by
  have hx : exec (.servoStrobe copied near) s = execServoStrobe s copied near := rfl
  rw [hx, execServoStrobe]
  split at h
  · next hc => rw [if_pos hc, if_pos h]
  · next hc => rw [if_neg hc, if_pos h]

theorem exec_servoStrobe {copied near : Bool} (h : if s.sysclkStrobes then 1000 ≤ s.tim.strobes else s.tim.nextServo ≤ s.nowNs) :
    exec (.servoStrobe copied near) s = .next ((servoDue s).servoActs copied near) := by
  have hx : exec (.servoStrobe copied near) s = execServoStrobe s copied near := rfl
  rw [hx, execServoStrobe, servoDue]
  split at h
  · next hc => rw [if_pos hc, if_neg (by omega), if_pos hc]
  · next hc => rw [if_neg hc, if_neg (by omega), if_neg hc]

theorem servoStrobe_spec (hs : StoresCanonical s) (copied near : Bool) :
    let t := (servoDue s).servoActs copied near
    t.tim.t = s.tim.t ∧
    (if s.sysclkStrobes then t.tim.strobes = 0 ∧ t.tim.nextServo = s.tim.nextServo else t.tim.nextServo = (s.nowNs / 1000000 + 1) * 1000000) ∧
    (∀ p, p < 1024 → s.phValid p = true → t.get (.TIM_PHASE p) = BitVec.ofInt 32 (s.ptpPort p).beat) ∧
    (∀ p, p < 1024 → s.phValid p = false → t.get (.TIM_PHASE p) = s.get (.TIM_PHASE p)) ∧
    (s.engineOn = true → s.fld .TIM_SAF_STATUS F.TIM_SAF_STATUS_ACTIVE ≤ 1 →
      let e := 1 - s.fld .TIM_SAF_STATUS F.TIM_SAF_STATUS_ACTIVE
      let joins := copied = true ∧ s.tim.passed = some e
      (joins → t.fld .TIM_SAF_STATUS (engFld e) = 1 ∧ t.tim.passed = none) ∧
      (joins ∨ s.fld .TIM_SAF_STATUS (engFld e) = 1 →
        t.fld .TIM_SAF_STATUS F.TIM_SAF_STATUS_STANDBY_OK = (if copied && near then 1 else 0) ∧
        t.tim.standby = (if copied then some ⟨t.tim.t.toNat, t.tim.slew, t.tim.servo, t.tim.sel.y, t.tim.sel.i⟩ else s.tim.standby)) ∧
      (¬ joins → s.fld .TIM_SAF_STATUS (engFld e) ≠ 1 → t.fld .TIM_SAF_STATUS F.TIM_SAF_STATUS_STANDBY_OK =
        s.fld .TIM_SAF_STATUS F.TIM_SAF_STATUS_STANDBY_OK ∧ t.tim.standby = s.tim.standby)) := by
  have hd : StoresCanonical (servoDue s) := by
    unfold servoDue
    split
    · exact (Evolves.refl.tim _).stores hs
    · exact (Evolves.refl.tim _).stores hs
  have hsame : (servoDue s).tim.t = s.tim.t ∧ (servoDue s).tim.passed = s.tim.passed ∧ (servoDue s).tim.standby = s.tim.standby ∧
      (servoDue s).tim.ticking = s.tim.ticking ∧ (servoDue s).get .TIM_SAF_STATUS = s.get .TIM_SAF_STATUS ∧
      (∀ p, (servoDue s).phValid p = s.phValid p ∧ (servoDue s).ptpPort p = s.ptpPort p ∧ (servoDue s).get (.TIM_PHASE p) = s.get (.TIM_PHASE p)) ∧
      (if s.sysclkStrobes then (servoDue s).tim.strobes = 0 ∧ (servoDue s).tim.nextServo = s.tim.nextServo
       else (servoDue s).tim.nextServo = (s.nowNs / 1000000 + 1) * 1000000) := by
    unfold servoDue
    split
    · exact ⟨rfl, rfl, rfl, rfl, rfl, fun _ => ⟨rfl, rfl, rfl⟩, rfl, rfl⟩
    · exact ⟨rfl, rfl, rfl, rfl, rfl, fun _ => ⟨rfl, rfl, rfl⟩, rfl⟩
  obtain ⟨d1, d2, d3, d4, d5, d6, d7⟩ := hsame
  rw [servoActs_eq]
  generalize servoDue s = u at hd d1 d2 d3 d4 d5 d6 d7
  obtain ⟨cl, vl, gl, pl⟩ := servoLoops_leaves hd
  simp only [servoView, Prod.mk.injEq] at vl
  obtain ⟨v1, v2, v3, v4, v5, v6⟩ := vl
  have hc := engineCopy_spec cl copied near
  generalize servoLoops u = w at cl gl pl v1 v2 v3 v4 v5 v6 hc
  have hph (p : Nat) (hp : p < 1024) : (w.engineCopy copied near).get (.TIM_PHASE p) =
      if s.phValid p then BitVec.ofInt 32 (s.ptpPort p).beat else s.get (.TIM_PHASE p) := by
    obtain ⟨e1, e2, e3⟩ := d6 p
    rw [hc.regs (.TIM_PHASE p) (decide_eq_true hp) nofun, pl p hp, phaseServo_get hd hp, e1, e2, e3]
  have hg : w.get .TIM_SAF_STATUS = s.get .TIM_SAF_STATUS := gl.trans d5
  have hf (f : Fld) : w.fld .TIM_SAF_STATUS f = s.fld .TIM_SAF_STATUS f := congrArg f.get hg
  have hen : w.engineOn = s.engineOn := by
    rw [State.engineOn, State.engineOn, hf, v6, d4]
  obtain ⟨⟨k1, k2, k3⟩, -, hloaded⟩ := hc
  rw [hen, hf, v4.trans d2, v5.trans d3] at hloaded
  refine ⟨k1.trans (v1.trans d1), ?_, fun p hp hv => (hph p hp).trans (if_pos hv), fun p hp hv => (hph p hp).trans (if_neg (by simp [hv])), ?_⟩
  · rw [k2, k3, v2, v3]
    exact d7
  · simpa only [hf] using hloaded

/-- Settles O43: fail-over with and without a standby, a swap, the self-test, and the servo strobe. -/
theorem enginesFailOver : Obligations.EnginesFailOver := by
  unfold Obligations.EnginesFailOver
  refine ⟨?_, fun s lost h => exec_engineFault_off h lost, ?_, ?_, ?_, ?_, fun s copied near => exec_servoStrobe_early, ?_⟩
  · intro s hs he ha a
    refine ⟨fun hok lost => ⟨_, exec_engineFault_standby hs he ha hok lost, failover_spec hs rfl ha hok⟩, fun hok lost => ?_⟩
    obtain ⟨h1, h2, h3, h4, h5, h6, h7, h8⟩ := saffronLost_spec hs rfl hok
    have hoff : s.engineGiveUp.engineOn = false := by
      rw [engineOn_of_active (by rw [h4]; exact (Bool.and_eq_true_iff.mp he).1) 2 h1]
      rfl
    refine ⟨_, exec_engineFault he lost, ?_⟩
    cases lost
    · rw [if_neg (by simp)]
      exact ⟨h1, h2, h3, h4, h5, h6, h7, h8⟩
    · rw [if_pos (by simp [hoff])]
      refine ⟨h1, h2, h3, ?_, h5, h6, h7, h8⟩
      show ({ s.engineGiveUp.tim with unlocked := true } : Tim) = _
      rw [h4]
      rfl
  · intro s h x he hp hsw u
    refine ⟨fun hon hok => ?_, fun h => ?_⟩
    · have hgive : u.engineSwap = u.engineGiveUp := if_pos (by simp [hon, hok])
      rw [exec_engineSwap he hp hsw, exec_engineFault hon]
      exact congrArg Host.Outcome.next hgive
    · have hgive : u.engineSwap = u := if_neg (by rcases h with h | h <;> simp [h])
      rw [exec_engineSwap he hp hsw]
      exact congrArg Host.Outcome.next hgive
  · intro s pass h
    rw [exec_engineSelftestDone, h]
  · intro s e pass h hoff
    have hoff' : ({ s with tim := { s.tim with testing := none } } : State).engineOn = false := hoff
    rw [exec_engineSelftestDone, h]
    exact congrArg Host.Outcome.next (if_pos (by simp [hoff']))
  · intro s e hs h he hon
    have hon' : ({ s with tim := { s.tim with testing := none } } : State).engineOn = true := hon
    refine ⟨?_, _, ?_, selftestFailed_spec e⟩
    · rw [exec_engineSelftestDone, h]
      exact congrArg Host.Outcome.next (if_neg (by simp [hon']))
    · rw [exec_engineSelftestDone, h]
      exact congrArg Host.Outcome.next (if_neg (by simp [hon']))
  · intro s copied near hs _ hd
    exact ⟨_, exec_servoStrobe hd, servoStrobe_spec hs copied near⟩

end Sys2Proof
end

section
/-! PROOF. Time triggers and gate schedules (R340 to R346). -/
namespace Sys2Proof

open Sys2Proof.Machine

set_option Elab.async false

variable {s u t : State} {k p : Nat}

/-! ## Trigger units in their store -/

theorem trig_putTrig (h : skeysFrom none u.tim.trigs = true) (k : Nat) (x : Trig) : (u.putTrig k x).trig k = x :=
  sgetD_sput_self _ _ _ _ h

theorem trig_putTrig_ne (u : State) {j k : Nat} (h : k ≠ j) (x : Trig) : (u.putTrig k x).trig j = u.trig j :=
  sgetD_sput_ne _ _ _ _ _ _ h

theorem get_putTrig (u : State) (k : Nat) (x : Trig) (q : Reg) : (u.putTrig k x).get q = u.get q := rfl

theorem fld_putTrig (u : State) (k : Nat) (x : Trig) (q : Reg) (f : Fld) : (u.putTrig k x).fld q f = u.fld q f := rfl

theorem trigs_putTrig (h : skeysFrom none u.tim.trigs = true) (k : Nat) (x : Trig) : skeysFrom none (u.putTrig k x).tim.trigs = true :=
  skeysFrom_sput _ _ _ _ h

/-! ## The grid of instants -/

/-- `stepsTo a b p` steps of `p` from `a` reach `b`, one less does not. -/
theorem stepsTo_spec (a b : Int) {p : Nat} (hp : 0 < p) :
    b ≤ a + stepsTo a b p * p ∧ (a < b → a + ((stepsTo a b p : Int) - 1) * p < b) := by
  unfold stepsTo
  split
  · next h => exact ⟨by simpa using h, fun hn => by omega⟩
  · next h =>
    have hp' : (0 : Int) < p := by exact_mod_cast hp
    have hm : 0 ≤ (b - a + p - 1) / (p : Int) := Int.ediv_nonneg (by omega) (by omega)
    have hd := Int.mul_ediv_add_emod (b - a + p - 1) p
    have h0 := Int.emod_nonneg (b - a + p - 1) (Int.ne_of_gt hp')
    have h1 := Int.emod_lt_of_pos (b - a + p - 1) hp'
    rw [Int.toNat_of_nonneg hm, Int.sub_mul, Int.one_mul, Int.mul_comm]
    omega

/-! ## Pulses planned ahead -/

theorem Trig.plan_next (x : Trig) (ofs i : Int) : (x.plan ofs i).next = x.next := by
  unfold Trig.plan
  extract_lets rise close
  split <;> rfl

theorem Trig.plan_pulses {x : Trig} {q : Pulse} (h : q ∈ x.pulses) (ofs i : Int) : q ∈ (x.plan ofs i).pulses := by
  unfold Trig.plan
  extract_lets rise close
  split
  · exact h
  · exact List.mem_append_left _ h

theorem planPulses_next (u : State) (k : Nat) (x : Trig) : (u.planPulses k x).next = x.next := by
  unfold State.planPulses
  split
  · rfl
  · refine List.foldlRecOn (motive := fun y : Trig => y.next = x.next) _ _ rfl fun y hy i _ => ?_
    split
    · exact hy
    · exact (Trig.plan_next y _ _).trans hy

theorem planPulses_pulses {x : Trig} {q : Pulse} (h : q ∈ x.pulses) (u : State) (k : Nat) : q ∈ (u.planPulses k x).pulses := by
  unfold State.planPulses
  split
  · exact h
  · refine List.foldlRecOn (motive := fun y : Trig => q ∈ y.pulses) _ _ h fun y hy i _ => ?_
    split
    · exact hy
    · exact Trig.plan_pulses hy _ _

/-! ## Arming -/

/-- The first instant that an arming write finds. -/
def armFirst (u : State) (k : Nat) : Option Int :=
  let start : Int := (u.get (.TIM_TRIG_START_F k)).toNat % 65536 +
    65536 * ((u.get (.TIM_TRIG_START_L k)).toNat + 2 ^ 32 * (u.get (.TIM_TRIG_START_H k)).toNat : Nat)
  let period := (u.get (.TIM_TRIG_PERIOD k)).toNat
  let width := u.fld (.TIM_TRIG_CTRL k) F.TIM_TRIG_CTRL_WIDTH
  let bad := (k < 4 && period != 0 && decide (period ≤ width * 1000)) || (4 ≤ k && k < 8 && decide (period ≤ 1))
  if bad then none
  else if u.full16 + us16 ≤ start then some start
  else if period ≠ 0 then some (start + stepsTo start (u.full16 + us16) (period * 65536) * (period * 65536 : Nat))
  else none

/-- A unit that no instant is left for. -/
def armMissed (u : State) (k : Nat) : State :=
  let s := u.put (.TIM_TRIG_FIRED k) 0#32
  let s := (s.setTrigStatus k F.TIM_TRIG_STATUS_MISSED 1).setTrigStatus k F.TIM_TRIG_STATUS_ARMED 0
  (s.setFld (.TIM_TRIG_CTRL k) F.TIM_TRIG_CTRL_EN 0).putTrig k { s.trig k with next := none }

/-- The registers of a unit armed. -/
def armShown (u : State) (k : Nat) : State :=
  let s := (u.put (.TIM_TRIG_FIRED k) 0#32).setTrigStatus k F.TIM_TRIG_STATUS_ARMED 1
  s.setTrigStatus k F.TIM_TRIG_STATUS_SUPPRESSED (if k < 8 && s.outputsHeld then 1 else 0)

/-- The settings copied, with the first instant `i`. -/
def armTrig (u : State) (k : Nat) (i : Int) : Trig :=
  { armedAt := u.full16, period := (u.get (.TIM_TRIG_PERIOD k)).toNat, count := (u.get (.TIM_TRIG_COUNT k)).toNat,
    width := u.fld (.TIM_TRIG_CTRL k) F.TIM_TRIG_CTRL_WIDTH, next := some i, planned := none,
    pulses := (u.trig k).pulses.filter fun p => decide (u.full16 < p.fall) }

theorem armTrigger_none (h : armFirst u k = none) : u.armTrigger k = armMissed u k := by
  have he : u.armTrigger k = match armFirst u k with
    | none => armMissed u k
    | some i => (armShown u k).putTrig k ((armShown u k).planPulses k (armTrig u k i)) := rfl
  rw [he, h]

theorem armTrigger_some {i : Int} (h : armFirst u k = some i) :
    u.armTrigger k = (armShown u k).putTrig k ((armShown u k).planPulses k (armTrig u k i)) := by
  have he : u.armTrigger k = match armFirst u k with
    | none => armMissed u k
    | some i => (armShown u k).putTrig k ((armShown u k).planPulses k (armTrig u k i)) := rfl
  rw [he, h]

theorem armTrigger_boot (u : State) (k : Nat) : (u.armTrigger k).boot = u.boot := by
  cases h : armFirst u k with
  | none => rw [armTrigger_none h]; rfl
  | some i => rw [armTrigger_some h]; rfl

theorem armMissed_spec (hs : StoresCanonical u) (ht : skeysFrom none u.tim.trigs = true) (hk : k < 16) :
    (armMissed u k).get (.TIM_TRIG_FIRED k) = 0 ∧ ((armMissed u k).trig k).next = none ∧
    (armMissed u k).fld (.TIM_TRIG_STATUS k) F.TIM_TRIG_STATUS_MISSED = 1 ∧
    (armMissed u k).fld (.TIM_TRIG_STATUS k) F.TIM_TRIG_STATUS_ARMED = 0 ∧ (armMissed u k).fld (.TIM_TRIG_CTRL k) F.TIM_TRIG_CTRL_EN = 0 := by
  have hF : (Reg.TIM_TRIG_FIRED k).indexOk = true := decide_eq_true hk
  have hS : (Reg.TIM_TRIG_STATUS k).indexOk = true := decide_eq_true hk
  have hC : (Reg.TIM_TRIG_CTRL k).indexOk = true := decide_eq_true hk
  have htrig : ((armMissed u k).trig k).next = none := congrArg Trig.next (trig_putTrig ht _ _)
  refine ⟨?_, htrig, ?_⟩
  · unfold armMissed State.setTrigStatus
    rw [get_putTrig, get_setFld_off hC hF nofun, get_setFld_off hS hF nofun, get_setFld_off hS hF nofun]
    exact State.get_put_self _ _ _ hs.regs
  · unfold armMissed State.setTrigStatus
    have h1 : (u.put (.TIM_TRIG_FIRED k) 0#32).regsOk := State.regsOk_put _ _ _ hs.regs
    generalize u.put (.TIM_TRIG_FIRED k) 0#32 = v at h1
    have h2 := regsOk_setFld (r := .TIM_TRIG_STATUS k) (f := F.TIM_TRIG_STATUS_MISSED) (v := 1) h1
    have h3 := regsOk_setFld (r := .TIM_TRIG_STATUS k) (f := F.TIM_TRIG_STATUS_ARMED) (v := 0) h2
    dsimp only
    rw [fld_putTrig, fld_putTrig, fld_putTrig, fld_setFld_off hC hS nofun, fld_setFld_off hC hS nofun, fld_setFld_beside h2 rfl (by decide),
      fld_setFld_lt h1 (by decide) (by decide), fld_setFld_lt h2 (by decide) (by decide), fld_setFld_lt h3 (by decide) (by decide)]
    exact ⟨rfl, rfl, rfl⟩

theorem armed_spec (hs : StoresCanonical u) (ht : skeysFrom none u.tim.trigs = true) (hk : k < 16) {i : Int} (h : armFirst u k = some i) :
    (u.armTrigger k).get (.TIM_TRIG_FIRED k) = 0 ∧ ((u.armTrigger k).trig k).next = some i ∧
    (u.armTrigger k).fld (.TIM_TRIG_STATUS k) F.TIM_TRIG_STATUS_ARMED = 1 := by
  have hF : (Reg.TIM_TRIG_FIRED k).indexOk = true := decide_eq_true hk
  have hS : (Reg.TIM_TRIG_STATUS k).indexOk = true := decide_eq_true hk
  have h1 : (u.put (.TIM_TRIG_FIRED k) 0#32).regsOk := State.regsOk_put _ _ _ hs.regs
  have h2 := regsOk_setFld (r := .TIM_TRIG_STATUS k) (f := F.TIM_TRIG_STATUS_ARMED) (v := 1) h1
  rw [armTrigger_some h]
  refine ⟨?_, ?_, ?_⟩
  · rw [get_putTrig, armShown, State.setTrigStatus, State.setTrigStatus, get_setFld_off hS hF nofun, get_setFld_off hS hF nofun]
    exact State.get_put_self _ _ _ hs.regs
  · exact (congrArg Trig.next (trig_putTrig ht _ _)).trans (planPulses_next ..)
  · rw [fld_putTrig, armShown, State.setTrigStatus, State.setTrigStatus, fld_setFld_beside h2 rfl (by decide)]
    exact fld_setFld_lt h1 (by decide) (by decide)

theorem stopTrigger_spec (hs : StoresCanonical u) (ht : skeysFrom none u.tim.trigs = true) (hk : k < 16) :
    (u.stopTrigger k).trig k = { u.trig k with next := none, pulses := (u.trig k).pulses.filter fun q => q.risen u.full16 } ∧
    (u.stopTrigger k).fld (.TIM_TRIG_CTRL k) F.TIM_TRIG_CTRL_EN = 0 ∧
    (u.stopTrigger k).fld (.TIM_TRIG_STATUS k) F.TIM_TRIG_STATUS_ARMED = 0 ∧
    (u.stopTrigger k).fld (.TIM_TRIG_STATUS k) F.TIM_TRIG_STATUS_SUPPRESSED = u.fld (.TIM_TRIG_STATUS k) F.TIM_TRIG_STATUS_SUPPRESSED := by
  have hS : (Reg.TIM_TRIG_STATUS k).indexOk = true := decide_eq_true hk
  have hC : (Reg.TIM_TRIG_CTRL k).indexOk = true := decide_eq_true hk
  have h1 := regsOk_setFld (r := .TIM_TRIG_CTRL k) (f := F.TIM_TRIG_CTRL_EN) (v := 0) hs.regs
  refine ⟨trig_putTrig ht _ _, ?_, fld_setFld_lt h1 (by decide) (by decide), ?_⟩
  · exact (fld_setFld_off hS hC nofun).trans (fld_setFld_lt hs.regs (by decide) (by decide))
  · exact (fld_setFld_beside h1 rfl (by decide)).trans (fld_setFld_off hC hS nofun)

/-- The clock output of a unit that is stopped stays as it stood: only pulses that have not risen go. -/
theorem stopTrigger_clkPin (hs : StoresCanonical u) (ht : skeysFrom none u.tim.trigs = true) {j : Nat} (hj : j < 4) :
    (u.stopTrigger (4 + j)).clkPin j = u.clkPin j := by
  obtain ⟨htrig, -, -, hsup⟩ := stopTrigger_spec hs ht (k := 4 + j) (by omega)
  have hheld : (u.stopTrigger (4 + j)).outputsHeld = u.outputsHeld := by
    have hoff (q : Reg) (f : Fld) (hq : q.indexOk = true) (h1 : Reg.TIM_TRIG_CTRL (4 + j) ≠ q) (h2 : Reg.TIM_TRIG_STATUS (4 + j) ≠ q) :
        (u.stopTrigger (4 + j)).fld q f = u.fld q f :=
      (fld_setFld_off (r := .TIM_TRIG_STATUS (4 + j)) (decide_eq_true (by omega)) hq h2).trans
        (fld_setFld_off (r := .TIM_TRIG_CTRL (4 + j)) (decide_eq_true (by omega)) hq h1)
    unfold State.outputsHeld State.qualified State.engineOn State.oscState
    simp only [hoff .TIM_OSC_QUAL_STATUS _ rfl nofun nofun, hoff .TIM_SAF_STATUS _ rfl nofun nofun]
    rfl
  have hnow : (u.stopTrigger (4 + j)).full16 = u.full16 := rfl
  rw [State.clkPin, State.clkPin, State.outputOn, State.outputOn, htrig, hheld, hsup, hnow]
  simp only [List.any_filter]
  refine congrArg _ (List.any_congr rfl fun q => ?_)
  simp [Pulse.high]

/-! ## A write of EN -/

/-- A write of TIM_TRIG_CTRL that does not ask for a reset starts what a change of EN starts. -/
theorem rowWrite_trigCtrl (hs : StoresCanonical s) {h : Nat} {v : Word} (he : ExpertWindow s h) (hk : k < 16)
    (hp : Passes s h (.TIM_TRIG_CTRL k) v) :
    s.rowWriteReg .window (.TIM_TRIG_CTRL k) v = (
      let u := wrote s (.TIM_TRIG_CTRL k) v
      let was := s.fld (.TIM_TRIG_CTRL k) F.TIM_TRIG_CTRL_EN
      if was = 0 ∧ F.TIM_TRIG_CTRL_EN.get v = 1 then u.armTrigger k
      else if was = 1 ∧ F.TIM_TRIG_CTRL_EN.get v = 0 then u.stopTrigger k else u) := by
  have hen : (wrote s (.TIM_TRIG_CTRL k) v).fld (.TIM_TRIG_CTRL k) F.TIM_TRIG_CTRL_EN = F.TIM_TRIG_CTRL_EN.get v :=
    wrote_fld_rw hs (f := ⟨F.TIM_TRIG_CTRL_EN, .rw, .b, true⟩) (by simp [Reg.fields]) (.inl rfl) v
  have hw : (wrote s (.TIM_TRIG_CTRL k) v).writeAction h (.TIM_TRIG_CTRL k) (s.get (.TIM_TRIG_CTRL k)) v =
      (wrote s (.TIM_TRIG_CTRL k) v).trigWritten k (s.get (.TIM_TRIG_CTRL k)) := rfl
  have hreq : ((wrote s (.TIM_TRIG_CTRL k) v).trigWritten k (s.get (.TIM_TRIG_CTRL k))).boot.resetReq = none := by
    have hb : ((wrote s (.TIM_TRIG_CTRL k) v).trigWritten k (s.get (.TIM_TRIG_CTRL k))).boot = (wrote s (.TIM_TRIG_CTRL k) v).boot := by
      unfold State.trigWritten
      extract_lets was now
      exact keep_ite (P := fun w : State => w.boot = _) (armTrigger_boot _ _) (keep_ite (P := fun w : State => w.boot = _) rfl rfl)
    rw [hb]
    exact (wrote_resetReq ..).trans he.noReset
  rw [rowWriteReg_expert he hp rfl nofun nofun rfl, hw, takeReset_of_none hreq, State.trigWritten, hen]
  rfl

/-! ## An instant -/

/-- The registers that a capture writes, but for its sequence. -/
def captureReg : Reg → Prop
  | .HLT_CAP_VAL_L j m | .HLT_CAP_VAL_H j m => j < 8 ∧ m < 64
  | .HLT_CAP_WRAP_L j | .HLT_CAP_WRAP_H j | .HLT_CAP_TIME_L j | .HLT_CAP_TIME_H j => j < 8
  | _ => False

theorem captureReg_indexOk {r : Reg} (h : captureReg r) : r.indexOk = true := by
  cases r with
  | HLT_CAP_VAL_L j m => simpa [Reg.indexOk, captureReg] using h
  | HLT_CAP_VAL_H j m => simpa [Reg.indexOk, captureReg] using h
  | HLT_CAP_WRAP_L j => exact decide_eq_true h
  | HLT_CAP_WRAP_H j => exact decide_eq_true h
  | HLT_CAP_TIME_L j => exact decide_eq_true h
  | HLT_CAP_TIME_H j => exact decide_eq_true h
  | _ => exact h.elim

/-- A capture advances its sequence by 2 and writes the registers of captures; a view blind to signalling stays. -/
theorem capture_spec {α : Type} {g : State → α} (b : Blind g) (hs : u.regsOk) {j : Nat} (hj : j < 8) (ns : Nat) :
    (u.capture j ns).get (.HLT_CAP_SEQ j) = u.get (.HLT_CAP_SEQ j) + 2 ∧ g (u.capture j ns) = g u ∧ (u.capture j ns).regsOk ∧
    (∀ q : Reg, q.indexOk = true → ¬ captureReg q → (∀ i, q ≠ .HST_IRQ_SRC i) → (∀ i, q ≠ .HLT_CAP_SEQ i) →
      (u.capture j ns).get q = u.get q) := by
  have hI : 80 + j < 128 := by omega
  have hS : (Reg.HLT_CAP_SEQ j).indexOk = true := decide_eq_true hj
  unfold State.capture
  extract_lets copy v w
  have hv : Leaves g captureReg (fun _ => False) u v ∧ v.regsOk := by
    refine foldl_keeps (P := fun x => Leaves g captureReg (fun _ => False) u x ∧ x.regsOk) _ _ ⟨.refl, hs⟩ fun x m hm ⟨hx, ho⟩ => ?_
    have hm := List.mem_range.mp hm
    refine ⟨((hx.put b (r := .HLT_CAP_VAL_L j m) ⟨hj, hm⟩ _).put b (r := .HLT_CAP_VAL_H j m) ⟨hj, hm⟩ _).put b ?_ _,
      State.regsOk_put _ _ _ (State.regsOk_put _ _ _ (State.regsOk_put _ _ _ ho))⟩
    split
    · exact hj
    · exact hj
  have hw : Leaves g captureReg (fun _ => False) u w := (hv.1.put b (r := .HLT_CAP_TIME_L j) hj _).put b (r := .HLT_CAP_TIME_H j) hj _
  have hwo : w.regsOk := State.regsOk_put _ _ _ (State.regsOk_put _ _ _ hv.2)
  have hseq : w.get (.HLT_CAP_SEQ j) = u.get (.HLT_CAP_SEQ j) := hw.regs.get (fun _ => captureReg_indexOk) hS not_false
  have hc := irqEvent_changes (w.put (.HLT_CAP_SEQ j) (w.get (.HLT_CAP_SEQ j) + 2)) hI
  refine ⟨?_, ?_, ?_, fun q hq hn hsrc hcap => ?_⟩
  · rw [(hc.regs (.HLT_CAP_SEQ j) fun i hi => addr_ne (q := .HST_IRQ_SRC i) (r := .HLT_CAP_SEQ j) (decide_eq_true hi) hS nofun).1, State.get_put_self _ _ _ hwo, hseq]
  · exact ((congrArg g hc.rest).trans (b.signals (w.put (.HLT_CAP_SEQ j) (w.get (.HLT_CAP_SEQ j) + 2)) _ _ _ _ _ _)).trans
      ((hw.weaken (R' := fun _ => True) (fun _ _ => trivial) fun _ => id).put b trivial _).view
  · exact hc.canonical (State.regsOk_put _ _ _ hwo)
  · rw [(hc.regs q fun i hi => addr_ne (q := .HST_IRQ_SRC i) (decide_eq_true hi) hq (Ne.symm (hsrc i))).1, get_put_off hS hq (Ne.symm (hcap j))]
    exact hw.regs.get (fun _ => captureReg_indexOk) hq hn

theorem outputsHeld_of (hq : t.get .TIM_OSC_QUAL_STATUS = u.get .TIM_OSC_QUAL_STATUS) (he : t.get .TIM_SAF_STATUS = u.get .TIM_SAF_STATUS)
    (ht : t.tim.ticking = u.tim.ticking) : t.outputsHeld = u.outputsHeld := by
  have hx : t.oscState = u.oscState := congrArg F.TIM_OSC_QUAL_STATUS_STATE.get hq
  rw [State.outputsHeld, State.outputsHeld, State.qualified, State.qualified, hx, State.engineOn, State.engineOn, State.fld, State.fld, he, ht]

theorem Trig.fire_period (x : Trig) (k : Nat) (i now nx : Int) (late : Bool) : (x.fire k i now nx late).period = x.period := by
  unfold Trig.fire
  split
  · split <;> rfl
  · split <;> rfl

theorem Trig.fire_count (x : Trig) (k : Nat) (i now nx : Int) (late : Bool) : (x.fire k i now nx late).count = x.count := by
  unfold Trig.fire
  split
  · split <;> rfl
  · split <;> rfl

/-- The state in which a unit has acted at the instant `i`, its next one not yet found: `y` is the unit's record. -/
structure Acted (s : State) (k : Nat) (i : Int) (v : State) (y : Trig) : Prop where
  fire : s.fireTrigger k i false = if y.period = 0 ∨ (¬ (4 ≤ k ∧ k < 8) ∧ y.count ≠ 0 ∧ y.count ≤ (s.get (.TIM_TRIG_FIRED k)).toNat + 1) then
    v.trigDone k y else v.putTrig k (v.planPulses k { y with next := some (i + (y.period * 65536 : Nat)) })
  period : y.period = (s.trig k).period
  count : y.count = (s.trig k).count
  pulses : k < 4 → s.outputsHeld = false → y.pulses = (s.trig k).pulses
  regs : v.regsOk
  trigs : skeysFrom none v.tim.trigs = true
  now : v.tim.t = s.tim.t
  fired : v.get (.TIM_TRIG_FIRED k) = s.get (.TIM_TRIG_FIRED k) + 1
  en : v.fld (.TIM_TRIG_CTRL k) F.TIM_TRIG_CTRL_EN = s.fld (.TIM_TRIG_CTRL k) F.TIM_TRIG_CTRL_EN
  seq : 8 ≤ k → v.get (.HLT_CAP_SEQ (k - 8)) = s.get (.HLT_CAP_SEQ (k - 8)) + 2

theorem fireTrigger_acted (hs : StoresCanonical s) (ht : skeysFrom none s.tim.trigs = true) (hk : k < 16) (i : Int) :
    ∃ v y, Acted s k i v y := by
  have hF : (Reg.TIM_TRIG_FIRED k).indexOk = true := decide_eq_true hk
  have hS : (Reg.TIM_TRIG_STATUS k).indexOk = true := decide_eq_true hk
  have hC : (Reg.TIM_TRIG_CTRL k).indexOk = true := decide_eq_true hk
  have hfire : s.fireTrigger k i false = s.fireTrigger k i false := rfl
  conv at hfire => rhs; unfold State.fireTrigger
  revert hfire
  extract_lets x fired v1 v2 held v3 p nx y v4 v5 counts
  intro hfire
  have hp : y.period = x.period := by
    unfold y
    split
    · rfl
    · exact Trig.fire_period ..
  have hc : y.count = x.count := by
    unfold y
    split
    · rfl
    · exact Trig.fire_count ..
  have h1 : v1.get (.TIM_TRIG_FIRED k) = s.get (.TIM_TRIG_FIRED k) + 1 := by
    refine (State.get_put_self _ _ _ hs.regs).trans ?_
    apply BitVec.eq_of_toNat_eq
    simp [fired, BitVec.toNat_add]
  have hv2 : v2 = v1 := if_neg (by simp)
  have h3 : (v3 = v1 ∨ ∃ n, v3 = v1.setFld (.TIM_TRIG_STATUS k) F.TIM_TRIG_STATUS_SUPPRESSED n) := by
    unfold v3
    rw [hv2]
    split
    · exact .inr ⟨_, rfl⟩
    · exact .inl rfl
  have hr1 : v1.regsOk := State.regsOk_put _ _ _ hs.regs
  have hr3 : v3.regsOk := by
    rcases h3 with h | ⟨n, h⟩
    · rw [h]
      exact hr1
    · rw [h]
      exact regsOk_setFld hr1
  have hg3 (q : Reg) (hq : q.indexOk = true) (hn : Reg.TIM_TRIG_STATUS k ≠ q) : v3.get q = v1.get q := by
    rcases h3 with h | ⟨n, h⟩
    · rw [h]
    · rw [h, get_setFld_off hS hq hn]
  have ht3 : v3.tim = s.tim := by
    rcases h3 with h | ⟨n, h⟩ <;> exact (congrArg State.tim h :)
  have ht4 : v4.tim.t = s.tim.t ∧ skeysFrom none v4.tim.trigs = true :=
    ⟨(congrArg Tim.t ht3 :), trigs_putTrig (ht3 ▸ ht) _ _⟩
  have h5 : v5.tim = v4.tim ∧ v5.regsOk ∧ v5.get (.TIM_TRIG_FIRED k) = v4.get (.TIM_TRIG_FIRED k) ∧
      v5.get (.TIM_TRIG_CTRL k) = v4.get (.TIM_TRIG_CTRL k) ∧ (8 ≤ k → v5.get (.HLT_CAP_SEQ (k - 8)) = v4.get (.HLT_CAP_SEQ (k - 8)) + 2) := by
    unfold v5
    split
    · obtain ⟨c1, c2, c3, c4⟩ := capture_spec (u := v4) (g := State.tim) ⟨fun _ _ _ _ _ _ _ => rfl, fun _ _ => rfl, fun _ _ => rfl⟩ hr3
        (j := k - 8) (by omega) (if false = true then v4.nowNs else (i / 65536).toNat)
      exact ⟨c2, c3, c4 (.TIM_TRIG_FIRED k) hF not_false nofun nofun, c4 (.TIM_TRIG_CTRL k) hC not_false nofun nofun, fun _ => c1⟩
    · next hn => exact ⟨rfl, hr3, rfl, rfl, fun h => absurd h hn⟩
  obtain ⟨k1, k2, k3, k4, k5⟩ := h5
  have hg4 (q : Reg) : v4.get q = v3.get q := rfl
  have hcounts : counts = true ↔ ¬ (4 ≤ k ∧ k < 8) ∧ y.count ≠ 0 ∧ y.count ≤ (s.get (.TIM_TRIG_FIRED k)).toNat + 1 := by
    simp [counts, fired, and_assoc]
    omega
  refine ⟨v5, y, ?_, hp, hc, fun h4 hh => ?_, k2, k1 ▸ ht4.2, (congrArg Tim.t k1).trans ht4.1, ?_, ?_, fun h8 => ?_⟩
  · rw [hfire]
    have hcond : (y.period = 0 ∨ ¬ (4 ≤ k ∧ k < 8) ∧ y.count ≠ 0 ∧ y.count ≤ (s.get (.TIM_TRIG_FIRED k)).toNat + 1) ↔
        (decide (y.period = 0) || counts) = true := by
      rw [Bool.or_eq_true, decide_eq_true_eq, hcounts]
    have hnx : nx = i + (y.period * 65536 : Nat) := by
      rw [hp]
      exact if_neg (by simp)
    rw [hnx]
    exact (if_congr hcond rfl rfl).symm
  · have hheld : held = false := by
      have : v2.outputsHeld = false := by
        rw [hv2]
        exact (outputsHeld_of (u := s) (get_put_off (q := .TIM_OSC_QUAL_STATUS) hF rfl nofun _)
          (get_put_off (q := .TIM_SAF_STATUS) hF rfl nofun _) rfl).trans hh
      simp [held, this]
    have hy : y = x.fire k i v3.full16 nx false := if_neg (by simp [hheld])
    rw [hy, Trig.fire, if_pos h4]
    rfl
  · rw [k3, hg4, hg3 _ hF nofun, h1]
  · exact congrArg F.TIM_TRIG_CTRL_EN.get (k4.trans ((hg4 _).trans ((hg3 _ hC nofun).trans (get_put_off hF hC nofun _))))
  · have hQ : (Reg.HLT_CAP_SEQ (k - 8)).indexOk = true := decide_eq_true (by omega)
    rw [k5 h8, hg4, hg3 _ hQ nofun]
    exact congrArg (· + 2) (get_put_off hF hQ nofun _)

/-- TRIGGER_INSTANT at an instant that T has reached. -/
theorem exec_triggerInstant {i : Int} (hi : (s.trig k).next = some i) :
    exec (.triggerInstant k) s = .next (if k < 16 ∧ i ≤ s.full16 then s.fireTrigger k i false else s) := by
  have hx : exec (.triggerInstant k) s = execTriggerInstant k s := rfl
  rw [hx, execTriggerInstant, hi]

theorem exec_triggerInstant_idle (hi : (s.trig k).next = none) : exec (.triggerInstant k) s = .next s := by
  have hx : exec (.triggerInstant k) s = execTriggerInstant k s := rfl
  rw [hx, execTriggerInstant, hi]

theorem trigDone_spec (hr : u.regsOk) (ht : skeysFrom none u.tim.trigs = true) (hk : k < 16) (x : Trig) :
    (u.trigDone k x).trig k = { x with next := none } ∧ (u.trigDone k x).fld (.TIM_TRIG_STATUS k) F.TIM_TRIG_STATUS_DONE = 1 ∧
    (u.trigDone k x).fld (.TIM_TRIG_CTRL k) F.TIM_TRIG_CTRL_EN = 0 ∧
    (∀ q : Reg, q.indexOk = true → Reg.TIM_TRIG_STATUS k ≠ q → Reg.TIM_TRIG_CTRL k ≠ q → (u.trigDone k x).get q = u.get q) := by
  have hS : (Reg.TIM_TRIG_STATUS k).indexOk = true := decide_eq_true hk
  have hC : (Reg.TIM_TRIG_CTRL k).indexOk = true := decide_eq_true hk
  have h1 := regsOk_setFld (r := .TIM_TRIG_CTRL k) (f := F.TIM_TRIG_CTRL_EN) (v := 0) hr
  have h2 := regsOk_setFld (r := .TIM_TRIG_STATUS k) (f := F.TIM_TRIG_STATUS_ARMED) (v := 0) h1
  refine ⟨trig_putTrig ht _ _, ?_, ?_, fun q hq hn hm => ?_⟩ <;> rw [State.trigDone]
  · exact fld_setFld_lt h2 (by decide) (by decide)
  · rw [fld_putTrig, State.setTrigStatus, State.setTrigStatus, fld_setFld_off hS hC nofun, fld_setFld_off hS hC nofun]
    exact fld_setFld_lt hr (by decide) (by decide)
  · rw [get_putTrig, State.setTrigStatus, State.setTrigStatus, get_setFld_off hS hq hn, get_setFld_off hS hq hn, get_setFld_off hC hq hm]

theorem fireTrigger_spec (hs : StoresCanonical s) (ht : skeysFrom none s.tim.trigs = true) (hk : k < 16) (i : Int) :
    let t := s.fireTrigger k i false
    t.get (.TIM_TRIG_FIRED k) = s.get (.TIM_TRIG_FIRED k) + 1 ∧ t.tim.t = s.tim.t ∧
    (let x := s.trig k
     let last : Prop := x.period = 0 ∨ (¬ (4 ≤ k ∧ k < 8) ∧ x.count ≠ 0 ∧ x.count ≤ (s.get (.TIM_TRIG_FIRED k)).toNat + 1)
     (last → (t.trig k).next = none ∧ t.fld (.TIM_TRIG_STATUS k) F.TIM_TRIG_STATUS_DONE = 1 ∧ t.fld (.TIM_TRIG_CTRL k) F.TIM_TRIG_CTRL_EN = 0) ∧
     (¬ last → (t.trig k).next = some (i + (x.period * 65536 : Nat)) ∧
        t.fld (.TIM_TRIG_CTRL k) F.TIM_TRIG_CTRL_EN = s.fld (.TIM_TRIG_CTRL k) F.TIM_TRIG_CTRL_EN)) ∧
    (k < 4 → s.outputsHeld = false → ∀ q ∈ (s.trig k).pulses, q ∈ (t.trig k).pulses) ∧
    (8 ≤ k → t.get (.HLT_CAP_SEQ (k - 8)) = s.get (.HLT_CAP_SEQ (k - 8)) + 2) := by
  obtain ⟨v, y, h⟩ := fireTrigger_acted hs ht hk i
  have hfire := h.fire
  rw [h.period, h.count] at hfire
  dsimp only
  split at hfire
  · next hlast =>
    obtain ⟨d1, d2, d3, d4⟩ := trigDone_spec h.regs h.trigs hk y
    rw [hfire]
    refine ⟨(d4 (.TIM_TRIG_FIRED k) (decide_eq_true hk) nofun nofun).trans h.fired, h.now, ⟨fun _ => ⟨congrArg Trig.next d1, d2, d3⟩, fun hn => absurd hlast hn⟩,
      fun h4 hh q hq => ?_, fun h8 => (d4 (.HLT_CAP_SEQ (k - 8)) (decide_eq_true (by omega)) nofun nofun).trans (h.seq h8)⟩
    rw [d1]
    exact h.pulses h4 hh ▸ hq
  · next hlast =>
    rw [hfire]
    refine ⟨h.fired, h.now, ⟨fun hl => absurd hl hlast, fun _ => ⟨?_, h.en⟩⟩, fun h4 hh q hq => ?_, h.seq⟩
    · rw [trig_putTrig h.trigs, planPulses_next]
    · rw [trig_putTrig h.trigs]
      exact planPulses_pulses (h.pulses h4 hh ▸ hq) _ _

/-! ## Gates -/

/-- The noting of yields marks replicas that it has found, and counts rungs 2 and 6. -/
theorem frameYields_noted (hs : StoresCanonical s) : YieldsNoted s s.frameYields := by
  refine ⟨?_, fun id hid => frameYields_counter (fun e => hid (by simp [e])) (fun e => hid (by simp [e])) s⟩
  refine frameYields_keeps (P := fun v : State => ∀ k, (v.rep k).map Replica.calm = (s.rep k).map Replica.calm) (fun _ => rfl)
    (fun v kv hm hv k => ?_) (fun v hv => hv) fun v hv => hv
  by_cases hk : kv.1 = k
  · subst hk
    have h1 : (v.putRep kv.1 { kv.2 with yielded := true }).rep kv.1 = some { kv.2 with yielded := true } := sfind_sinsert_self ..
    rw [h1, rep_of_mem hs hm]
    rfl
  · have h1 : (v.putRep kv.1 { kv.2 with yielded := true }).rep k = v.rep k := sfind_sinsert_ne _ _ _ _ hk
    rw [h1]
    exact hv k

/-- Gates of port `p` change to `x`: nothing else but the noting of yields. -/
theorem changeGate_spec (hs : StoresCanonical s) (hg : skeysFrom none s.tim.gates = true) (p : Nat) (x : Gate) :
    let t := s.changeGate p x
    t = { s with tim := { s.tim with gates := t.tim.gates }, reps := t.reps, cnt := t.cnt } ∧ YieldsNoted s t ∧
    (∀ q, q ≠ p → t.gate q = s.gate q) ∧ t.gate p = x := by
  have hrest := frameYields_rest s
  have htim : s.frameYields.tim = s.tim := (congrArg State.tim hrest :)
  refine ⟨?_, ⟨(frameYields_noted hs).reps, (frameYields_noted hs).cnts⟩, fun q hq => ?_, ?_⟩
  · rw [State.changeGate, hrest]
    rfl
  · have h1 : (s.changeGate p x).gate q = s.frameYields.gate q := sgetD_sput_ne _ _ _ _ _ _ (Ne.symm hq)
    exact h1.trans (congrArg (fun w : Tim => sgetD w.gates q allOpen) htim)
  · exact sgetD_sput_self _ _ _ _ (htim ▸ hg)

theorem Gate.open'_opened {g : Gate} {mask c : Nat} (hc : c < 16) (h : mask.testBit c = true) (hn : g.mask.testBit c = false) (n : Nat) :
    (c, n) ∈ (g.open' mask n).opened := by
  refine List.mem_append_right _ (List.mem_map.mpr ⟨c, List.mem_filter.mpr ⟨List.mem_range.mpr hc, ?_⟩, rfl⟩)
  rw [h, hn]
  rfl

theorem Sched.maskAt_on {x : Sched} (h : x.en = true) (i : Nat) : x.maskAt i = (x.entries.getD i (65535, 0)).1 := by
  rw [Sched.maskAt, if_neg (by simp [h]), List.getD_eq_getElem?_getD]
  cases x.entries[i]? <;> rfl

/-- The gates in the next entry, or in the first of the next cycle. -/
def gateAdvanced (s : State) (p : Nat) (x : Sched) : Gate :=
  let g := s.gate p
  if g.idx + 1 < x.entries.length then
    { (g.open' (x.maskAt (g.idx + 1)) s.tim.tick) with idx := g.idx + 1, next := x.endOf g.start (g.idx + 1) }
  else { (g.open' (x.maskAt 0) s.tim.tick) with start := g.start + x.cycle, idx := 0, next := x.endOf (g.start + x.cycle) 0 }

theorem gateAdvance_eq {x : Sched} (h : (s.gate p).oper = some x) : s.gateAdvance p = s.changeGate p (gateAdvanced s p x) := by
  unfold State.gateAdvance gateAdvanced
  extract_lets g
  have h' : g.oper = some x := h
  simp only [h']
  split <;> rfl

/-- The gates that a schedule change puts in force. -/
def gateSwitched (s : State) (p : Nat) (x : Sched) (t : Nat) : Gate :=
  if x.en then (s.gate p).begin x t s.tim.tick
  else { ((s.gate p).open' 65535 s.tim.tick) with oper := some x, start := 0, idx := 0, next := 0, pend := none }

theorem gateSwitch_eq {x : Sched} {n : Nat} (h : (s.gate p).pend = some (x, n)) : s.gateSwitch p = s.changeGate p (gateSwitched s p x n) := by
  unfold State.gateSwitch gateSwitched
  rw [h]

theorem exec_gateEntryChange {x : Sched} (h : (s.gate p).oper = some x) (he : x.en = true) :
    exec (.gateEntryChange p) s = .next (if (s.gate p).next ≤ s.nowNs then s.changeGate p (gateAdvanced s p x) else s) := by
  have hx : exec (.gateEntryChange p) s = execGateEntryChange p s := rfl
  have ha : s.gateActive p = true := by rw [State.gateActive, h]; exact he
  rw [hx, execGateEntryChange, ha, gateAdvance_eq h]
  simp

theorem exec_gateEntryChange_off (h : ∀ x, (s.gate p).oper = some x → x.en = false) : exec (.gateEntryChange p) s = .next s := by
  have hx : exec (.gateEntryChange p) s = execGateEntryChange p s := rfl
  have ha : s.gateActive p = false := by
    unfold State.gateActive
    cases ho : (s.gate p).oper with
    | none => rfl
    | some x => exact h x ho
  rw [hx, execGateEntryChange, ha]
  rfl

theorem exec_gateScheduleChange {x : Sched} {n : Nat} (h : (s.gate p).pend = some (x, n)) :
    exec (.gateScheduleChange p) s = .next (if n ≤ s.nowNs then s.changeGate p (gateSwitched s p x n) else s) := by
  have hx : exec (.gateScheduleChange p) s = execGateScheduleChange p s := rfl
  rw [hx, execGateScheduleChange, h, gateSwitch_eq h]

theorem exec_gateScheduleChange_idle (h : (s.gate p).pend = none) : exec (.gateScheduleChange p) s = .next s := by
  have hx : exec (.gateScheduleChange p) s = execGateScheduleChange p s := rfl
  rw [hx, execGateScheduleChange, h]

theorem gateAdvanced_next {x : Sched} (he : x.en = true) (hi : (s.gate p).idx + 1 < x.entries.length) :
    let g := s.gate p
    gateAdvanced s p x =
      { g with idx := g.idx + 1, mask := (x.entries.getD (g.idx + 1) (65535, 0)).1, opened := (gateAdvanced s p x).opened,
               next := g.start + ((x.spans.take (g.idx + 2)).map Prod.snd).sum } := by
  intro g
  rw [← Sched.maskAt_on he]
  unfold gateAdvanced
  dsimp only
  rw [if_pos hi]
  rfl

theorem gateAdvanced_wrap {x : Sched} (he : x.en = true) (hi : x.entries.length ≤ (s.gate p).idx + 1) :
    let g := s.gate p
    gateAdvanced s p x =
      { g with idx := 0, start := g.start + x.cycle, mask := (x.entries.getD 0 (65535, 0)).1, opened := (gateAdvanced s p x).opened,
               next := g.start + x.cycle + ((x.spans.take 1).map Prod.snd).sum } := by
  intro g
  rw [← Sched.maskAt_on he]
  unfold gateAdvanced
  dsimp only
  rw [if_neg (Nat.not_lt.mpr hi)]
  rfl

/-- The class whose gate the next entry opens begins its interval at this tick. -/
theorem gateAdvanced_opened {x : Sched} {c : Nat} (hc : c < 16) (h : (gateAdvanced s p x).mask.testBit c = true)
    (hn : (s.gate p).mask.testBit c = false) : (c, s.tim.tick) ∈ (gateAdvanced s p x).opened := by
  unfold gateAdvanced at h ⊢
  dsimp only at h ⊢
  split at h
  · next hi =>
    rw [if_pos hi]
    exact Gate.open'_opened hc h hn _
  · next hi =>
    rw [if_neg hi]
    exact Gate.open'_opened hc h hn _

theorem gateSwitched_spec (s : State) (p : Nat) (x : Sched) (n : Nat) :
    (gateSwitched s p x n).pend = none ∧ (gateSwitched s p x n).oper = some x ∧ (x.en = false → (gateSwitched s p x n).mask = 65535) ∧
    (x.en = true → (gateSwitched s p x n).start = n ∧ (gateSwitched s p x n).idx = 0 ∧
      (gateSwitched s p x n).mask = (x.entries.getD 0 (65535, 0)).1) := by
  unfold gateSwitched
  split
  · next he => exact ⟨rfl, rfl, fun h => absurd he (by simp [h]), fun h => ⟨rfl, rfl, Sched.maskAt_on h 0⟩⟩
  · next he => exact ⟨rfl, rfl, fun _ => rfl, fun h => absurd h he⟩

/-! ## The obligation -/

theorem ppsPulseEnd_spec (ht : skeysFrom none s.tim.trigs = true) (hk : k < 4) : ∃ t, exec (.ppsPulseEnd k) s = .next t ∧
    t.trig k = { s.trig k with pulses := (s.trig k).pulses.filter fun q => decide (s.full16 < q.fall) } ∧
    (∀ j, j ≠ k → t.trig j = s.trig j) ∧ t = { s with tim := { s.tim with trigs := t.tim.trigs } } := by
  have hx : exec (.ppsPulseEnd k) s = execPpsPulseEnd k s := rfl
  refine ⟨_, by rw [hx, execPpsPulseEnd, if_pos hk], trig_putTrig ht _ _, fun j hj => trig_putTrig_ne _ (Ne.symm hj) _, rfl⟩

/-- What an arming write finds. -/
theorem armTrigger_spec (hs : StoresCanonical u) (htr : skeysFrom none u.tim.trigs = true) (hk : k < 16) :
    let start : Int := (u.get (.TIM_TRIG_START_F k)).toNat % 65536 +
      65536 * ((u.get (.TIM_TRIG_START_L k)).toNat + 2 ^ 32 * (u.get (.TIM_TRIG_START_H k)).toNat : Nat)
    let p := (u.get (.TIM_TRIG_PERIOD k)).toNat
    let width := u.fld (.TIM_TRIG_CTRL k) F.TIM_TRIG_CTRL_WIDTH
    let soon := u.full16 + 1000 * 65536
    let bad : Prop := (k < 4 ∧ p ≠ 0 ∧ p ≤ width * 1000) ∨ (4 ≤ k ∧ k < 8 ∧ p ≤ 1)
    let t := u.armTrigger k
    t.get (.TIM_TRIG_FIRED k) = 0 ∧
    (bad ∨ (p = 0 ∧ start < soon) → (t.trig k).next = none ∧
      t.fld (.TIM_TRIG_STATUS k) F.TIM_TRIG_STATUS_MISSED = 1 ∧ t.fld (.TIM_TRIG_STATUS k) F.TIM_TRIG_STATUS_ARMED = 0 ∧
      t.fld (.TIM_TRIG_CTRL k) F.TIM_TRIG_CTRL_EN = 0) ∧
    (¬ bad → soon ≤ start → (t.trig k).next = some start ∧ t.fld (.TIM_TRIG_STATUS k) F.TIM_TRIG_STATUS_ARMED = 1) ∧
    (¬ bad → start < soon → p ≠ 0 → ∃ n : Nat, (t.trig k).next = some (start + n * (p * 65536)) ∧
      soon ≤ start + n * (p * 65536) ∧ start + ((n : Int) - 1) * (p * 65536) < soon ∧
      t.fld (.TIM_TRIG_STATUS k) F.TIM_TRIG_STATUS_ARMED = 1) := by
  intro start p width soon bad t
  have hfirst : armFirst u k = if bad then none else if soon ≤ start then some start
      else if p ≠ 0 then some (start + stepsTo start soon (p * 65536) * (p * 65536 : Nat)) else none := by
    have hbad : bad ↔ ((k < 4 && p != 0 && decide (p ≤ width * 1000)) || (4 ≤ k && k < 8 && decide (p ≤ 1))) = true := by
      simp [bad, and_assoc]
    exact if_congr hbad.symm rfl rfl
  by_cases hmiss : bad ∨ (p = 0 ∧ start < soon)
  · have hf : armFirst u k = none := by
      rw [hfirst]
      split
      · rfl
      · next hb =>
        obtain ⟨h0, h1⟩ := hmiss.resolve_left hb
        rw [if_neg (by omega), if_neg (by simp [h0])]
    have ht : t = armMissed u k := armTrigger_none hf
    obtain ⟨m1, m2, m3, m4, m5⟩ := armMissed_spec hs htr hk
    rw [ht]
    exact ⟨m1, fun _ => ⟨m2, m3, m4, m5⟩, fun hb hle => by omega, fun hb hlt hp => by omega⟩
  · have hb : ¬ bad := fun h => hmiss (.inl h)
    rw [if_neg hb] at hfirst
    by_cases hle : soon ≤ start
    · rw [if_pos hle] at hfirst
      obtain ⟨a1, a2, a3⟩ := armed_spec hs htr hk hfirst
      exact ⟨a1, fun h => absurd h hmiss, fun _ _ => ⟨a2, a3⟩, fun _ hlt => by omega⟩
    · have hp : p ≠ 0 := fun h => hmiss (.inr ⟨h, by omega⟩)
      rw [if_neg hle, if_pos hp] at hfirst
      obtain ⟨a1, a2, a3⟩ := armed_spec hs htr hk hfirst
      obtain ⟨g1, g2⟩ := stepsTo_spec start soon (p := p * 65536) (by omega)
      have hcast : ((p * 65536 : Nat) : Int) = (p : Int) * 65536 := by push_cast; rfl
      rw [hcast] at a2 g1 g2
      exact ⟨a1, fun h => absurd h hmiss, fun _ h => absurd h hle, fun _ hlt _ => ⟨_, a2, g1, g2 hlt, a3⟩⟩

/-- Settles O42: an arming write finds its first instant on the unit's grid, an instant plans the next, a stop drops what has not risen,
and a change of gates is one gate record with the yields of that moment. -/
theorem triggersAndGates : Obligations.TriggersAndGates := by
  unfold Obligations.TriggersAndGates
  refine ⟨⟨?_, ?_, ?_, ?_, fun s k ht hk => ppsPulseEnd_spec ht hk⟩, ?_, fun s p h => exec_gateEntryChange_off h,
    fun s p h => exec_gateScheduleChange_idle h, ?_⟩
  · intro s h k v hs he hk hp
    have h1 : exec (.triggerArm .window k v) s = execTriggerArm .window k v s := rfl
    have h0 : exec (.triggerStop .window k v) s = execTriggerStop .window k v s := rfl
    refine ⟨fun hv => ?_, fun hv => ?_⟩
    · have ha : asks F.TIM_TRIG_CTRL_EN v 1 = true := by rw [asks, hv]; rfl
      rw [h1, execTriggerArm, if_pos ha, rowWrite_trigCtrl hs he hk hp, hv]
      simp
    · have ha : asks F.TIM_TRIG_CTRL_EN v 0 = true := by rw [asks, hv]; rfl
      rw [h0, execTriggerStop, if_pos ha, rowWrite_trigCtrl hs he hk hp, hv]
      simp
  · exact fun u k hs ht hk => armTrigger_spec hs ht hk
  · intro u k hs ht hk
    obtain ⟨s1, s2, s3, -⟩ := stopTrigger_spec hs ht hk
    refine ⟨congrArg Trig.next s1, s2, s3, congrArg Trig.pulses s1, fun j hj h4 => ?_⟩
    subst hj
    exact stopTrigger_clkPin hs ht h4
  · intro s k hs ht
    refine ⟨exec_triggerInstant_idle, fun i hi hlt => ?_, fun i hi hle hk => ⟨_, ?_, fireTrigger_spec hs ht hk i⟩⟩
    · rw [exec_triggerInstant hi, if_neg (by omega)]
    · rw [exec_triggerInstant hi, if_pos ⟨hk, hle⟩]
  · intro s p x hs hg ho he g
    refine ⟨fun hlt => ?_, fun hle => ?_⟩
    · rw [exec_gateEntryChange ho he, if_neg (Nat.not_le.mpr hlt)]
    · obtain ⟨c1, c2, c3, c4⟩ := changeGate_spec hs hg p (gateAdvanced s p x)
      refine ⟨_, by rw [exec_gateEntryChange ho he, if_pos hle], c1, c2, c3, fun c hc hm hn => ?_, fun hi => ?_, fun hi => ?_⟩
      · rw [c4] at hm ⊢
        exact gateAdvanced_opened hc hm hn
      · rw [c4]
        exact gateAdvanced_next he hi
      · rw [c4]
        exact gateAdvanced_wrap he hi
  · intro s p n x hs hg hpend
    refine ⟨fun hlt => ?_, fun hle => ?_⟩
    · rw [exec_gateScheduleChange hpend, if_neg (Nat.not_le.mpr hlt)]
    · obtain ⟨c1, c2, c3, c4⟩ := changeGate_spec hs hg p (gateSwitched s p x n)
      obtain ⟨g1, g2, g3, g4⟩ := gateSwitched_spec s p x n
      refine ⟨_, by rw [exec_gateScheduleChange hpend, if_pos hle], c1, c2, c3, ?_⟩
      rw [c4]
      exact ⟨g1, g2, g3, g4⟩

end Sys2Proof
end

section
/-! PROOF. Calibration of the stampers (R404 to R411). -/
namespace Sys2Proof

open Sys2Proof.Machine

set_option Elab.async false

variable {s u t : State} {p : Nat}

/-! ## The position served next -/

theorem table_putTable (h : skeysFrom none u.tic.tables = true) (p : Nat) (x : CalTable) : (u.putTable p x).table p = x :=
  sgetD_sput_self _ _ _ _ h

/-- What choosing the next position leaves: tables, counters but that of runs, and SPARE_OK. -/
structure ChoiceKeeps (s t : State) : Prop where
  tables : t.tic.tables = s.tic.tables
  cnts : ∀ id, id ≠ C.ticCalRuns → t.counter id = s.counter id
  spare : t.fld .TIM_TIC_CAL_STATUS F.TIM_TIC_CAL_STATUS_SPARE_OK = s.fld .TIM_TIC_CAL_STATUS F.TIM_TIC_CAL_STATUS_SPARE_OK

/-- A position and its phase are shown. -/
def calAt (u : State) (p phase : Nat) : State := (u.setCal F.TIM_TIC_CAL_STATUS_POS p).setCal F.TIM_TIC_CAL_STATUS_PHASE phase

theorem calAt_shown (h : u.regsOk) {phase : Nat} (hp : p < 32) (hph : phase < 8) :
    (calAt u p phase).calPos = p ∧ (calAt u p phase).calPhase = phase ∧
    (calAt u p phase).fld .TIM_TIC_CAL_STATUS F.TIM_TIC_CAL_STATUS_SPARE_OK = u.fld .TIM_TIC_CAL_STATUS F.TIM_TIC_CAL_STATUS_SPARE_OK := by
  have h1 := regsOk_setFld (r := .TIM_TIC_CAL_STATUS) (f := F.TIM_TIC_CAL_STATUS_POS) (v := p) h
  refine ⟨?_, fld_setFld_lt h1 (by decide) hph, ?_⟩
  · exact (fld_setFld_beside h1 rfl (by decide)).trans (fld_setFld_lt h (by decide) hp)
  · exact (fld_setFld_beside h1 rfl (by decide)).trans (fld_setFld_beside h rfl (by decide))

theorem calAt_keeps (h : u.regsOk) (p phase : Nat) : ChoiceKeeps u (calAt u p phase) :=
  ⟨rfl, fun _ _ => rfl, (fld_setFld_beside (regsOk_setFld h) rfl (by decide)).trans (fld_setFld_beside h rfl (by decide))⟩

theorem nextPos_keeps (h : u.regsOk) (n : Nat) : ChoiceKeeps u (u.nextPos n) := by
  induction n generalizing u with
  | zero => exact ⟨rfl, fun _ _ => rfl, rfl⟩
  | succ n ih =>
    unfold State.nextPos
    extract_lets ts spare hot src
    split
    next pos todo _ =>
    extract_lets v src2 w inPlace
    split
    · have k := calAt_keeps (u := w) h 0x1F 0
      exact ⟨k.tables, k.cnts, k.spare⟩
    · next q _ =>
      have k := calAt_keeps (u := v) h q (if (v.tic.first || v.idlePos q) = true then 6 else 1)
      have hv : ChoiceKeeps u (v.nextPos n) := ⟨(ih (u := v) h).tables, (ih (u := v) h).cnts, (ih (u := v) h).spare⟩
      exact keep_ite hv ⟨k.tables, fun id hid => (State.counter_count_ne _ _ _ (Ne.symm hid)).trans (k.cnts id hid), k.spare⟩

theorem calOn_keeps (h : u.regsOk) : ChoiceKeeps u u.calOn := nextPos_keeps h _

theorem calOn_only (u : State) : TicOnly [.TIM_TIC_CAL_STATUS] u u.calOn := TicOnly.refl.nextPos (List.mem_singleton_self _) _

/-- The position to serve first, by its temperature. -/
def hotPos (u : State) : Option Nat :=
  let ts := u.fld .TIM_TIC_CAL_CFG F.TIM_TIC_CAL_CFG_TEMP_STEP * 8
  let spare := u.fld .TIM_TIC_CAL_STATUS F.TIM_TIC_CAL_STATUS_SPARE_OK == 1
  if ts = 0 then none else (List.range 21).find? fun p =>
    decide (ts ≤ (u.table p).moved) && p != u.calPos && (u.tic.first || u.idlePos p || spare)

/-- With no position hot and none left the work ends. -/
theorem nextPos_done (hh : hotPos u = none) (ht : u.tic.todo = []) (n : Nat) :
    u.nextPos (n + 1) = calAt { u with tic := { u.tic with todo := [], first := false } } 0x1F 0 := by
  unfold State.nextPos
  extract_lets ts spare hot
  have hhot : hot = none := hh
  simp only [hhot, ht]
  rfl

/-- A position that can be measured in place. -/
theorem nextPos_inPlace {todo : List Nat} (hsel : (hotPos u = some p ∧ todo = u.tic.todo) ∨ (hotPos u = none ∧ u.tic.todo = p :: todo))
    (hin : u.tic.first = true ∨ u.idlePos p = true) (n : Nat) :
    u.nextPos (n + 1) = (calAt { u with tic := { u.tic with todo := todo } } p 6).count C.ticCalRuns := by
  unfold State.nextPos
  extract_lets ts spare hot
  have hplace : (u.tic.first || ({ u with tic := { u.tic with todo := todo } } : State).idlePos p) = true := by
    rw [Bool.or_eq_true]
    exact hin
  rcases hsel with ⟨hh, ht⟩ | ⟨hh, ht⟩
  · have hhot : hot = some p := hh
    subst ht
    simp only [hhot]
    rw [if_neg (by rw [hplace]; simp), if_pos hplace]
    rfl
  · have hhot : hot = none := hh
    simp only [hhot, ht]
    rw [if_neg (by rw [hplace]; simp), if_pos hplace]
    rfl

/-! ## The start of a rotation -/

theorem exec_calRotationStart (s : State) (due : Bool) : exec (.calRotationStart [] due) s = .next (
    if !s.tim.ticking || s.calPos != 0x1F || s.fld .HLT_HEALTH_CFG F.HLT_HEALTH_CFG_CAL_FREEZE == 1 then s
    else if !due || s.fld .TIM_TIC_CAL_CFG F.TIM_TIC_CAL_CFG_PERIOD == 0 then s.calOn else s.calRotation) := rfl

/-- A rotation may start, or positions may be served alone. -/
def MayStart (s : State) : Prop :=
  s.tim.ticking = true ∧ s.calPos = 0x1F ∧ s.fld .HLT_HEALTH_CFG F.HLT_HEALTH_CFG_CAL_FREEZE = 0

theorem mayStart_iff (s : State) : MayStart s ↔
    ¬ (!s.tim.ticking || s.calPos != 0x1F || s.fld .HLT_HEALTH_CFG F.HLT_HEALTH_CFG_CAL_FREEZE == 1) = true := by
  have hlt : s.fld .HLT_HEALTH_CFG F.HLT_HEALTH_CFG_CAL_FREEZE < 2 := Fld.get_lt _ _
  simp only [MayStart, Bool.or_eq_true, Bool.not_eq_true', bne_iff_ne, beq_iff_eq]
  cases s.tim.ticking <;> simp <;> omega

theorem exec_calRotationStart_off {due : Bool} (h : ¬ MayStart s) : exec (.calRotationStart [] due) s = .next s := by
  rw [exec_calRotationStart, if_pos (not_not.mp fun hn => h ((mayStart_iff s).mpr hn))]

theorem exec_calRotationStart_alone {due : Bool} (h : MayStart s)
    (hd : due = false ∨ s.fld .TIM_TIC_CAL_CFG F.TIM_TIC_CAL_CFG_PERIOD = 0) : exec (.calRotationStart [] due) s = .next s.calOn := by
  rw [exec_calRotationStart, if_neg ((mayStart_iff s).mp h), if_pos (by simpa using hd)]

theorem hotPos_none (h : ∀ q, q ≤ 20 → s.fld .TIM_TIC_CAL_CFG F.TIM_TIC_CAL_CFG_TEMP_STEP = 0 ∨
    (s.table q).moved < s.fld .TIM_TIC_CAL_CFG F.TIM_TIC_CAL_CFG_TEMP_STEP * 8) : hotPos s = none := by
  unfold hotPos
  extract_lets ts spare
  split
  · rfl
  · next hts =>
    refine List.find?_eq_none.mpr fun q hq hcon => ?_
    have hq := List.mem_range.mp hq
    simp only [Bool.and_eq_true, decide_eq_true_eq] at hcon
    have := h q (by omega)
    omega

theorem hotPos_some (hp : p ≤ 20) (hpos : s.calPos = 0x1F) (hstep : s.fld .TIM_TIC_CAL_CFG F.TIM_TIC_CAL_CFG_TEMP_STEP ≠ 0)
    (hm : s.fld .TIM_TIC_CAL_CFG F.TIM_TIC_CAL_CFG_TEMP_STEP * 8 ≤ (s.table p).moved)
    (hbelow : ∀ q, q < p → (s.table q).moved < s.fld .TIM_TIC_CAL_CFG F.TIM_TIC_CAL_CFG_TEMP_STEP * 8)
    (hin : s.tic.first = true ∨ s.idlePos p = true) : hotPos s = some p := by
  unfold hotPos
  extract_lets ts spare
  rw [if_neg (by omega), List.find?_range_eq_some]
  refine ⟨?_, List.mem_range.mpr (by omega), fun q hq => ?_⟩
  · have h31 : p ≠ s.calPos := by omega
    rcases hin with h | h <;> simp [h, h31, ts, hm]
  · have := hbelow q hq
    simp [ts, this]

/-- A start with the spare: position 20, in place, and 0 to 19 after it. -/
theorem exec_calRotationStart_full (h : MayStart s) (hper : s.fld .TIM_TIC_CAL_CFG F.TIM_TIC_CAL_CFG_PERIOD ≠ 0)
    (hstep : s.fld .TIM_TIC_CAL_CFG F.TIM_TIC_CAL_CFG_TEMP_STEP = 0) :
    exec (.calRotationStart []) s = .next ((calAt { s with tic := { s.tic with todo := List.range 20 } } 20 6).count C.ticCalRuns) := by
  have hhot : hotPos { s with tic := { s.tic with todo := 20 :: List.range 20 } } = none := hotPos_none fun _ _ => .inl hstep
  have hpos : s.calRotation = _ := nextPos_inPlace (u := { s with tic := { s.tic with todo := 20 :: List.range 20 } }) (p := 20) (.inr ⟨hhot, rfl⟩)
    (.inr rfl) _
  rw [exec_calRotationStart, if_neg ((mayStart_iff s).mp h), if_neg (by simpa using hper), hpos]

/-! ## Steps of a position -/

theorem exec_calStepDone_idle {seen : CalSeen} (h : 20 < s.calPos) : exec (.calStepDone seen []) s = .next s := by
  have hx : exec (.calStepDone seen []) s = execCalStepDone seen [] s := rfl
  rw [hx, execCalStepDone]
  exact congrArg Host.Outcome.next (if_pos h)

/-- A step that does not choose the next position. -/
def calStep (s : State) (seen : CalSeen) : Nat → State
  | 1 => if agree seen.diffs then (s.setCal F.TIM_TIC_CAL_STATUS_PHASE 2).setOnSpare s.calPos 1
      else ((s.calMismatch s.calPos).finishTable s.calPos none).calOn
  | 2 => s.setCal F.TIM_TIC_CAL_STATUS_PHASE 3
  | 3 => ({ s.noteSources s.calPos (s.tryCal (s.table s.calPos) seen) with
            tic := { (s.noteSources s.calPos (s.tryCal (s.table s.calPos) seen)).tic with cand := (s.tryCal (s.table s.calPos) seen).1 } } : State).setCal
          F.TIM_TIC_CAL_STATUS_PHASE 4
  | 4 => let u := if agree seen.diffs then s.finishTable s.calPos s.tic.cand else (s.calMismatch s.calPos).finishTable s.calPos none
      ({ u with tic := { u.tic with cand := none } }).setCal F.TIM_TIC_CAL_STATUS_PHASE 5
  | 5 => (s.setOnSpare s.calPos 0).calOn
  | 6 => let r := s.tryCal (s.table s.calPos) seen
      let u := (s.noteSources s.calPos r).finishTable s.calPos r.1
      (if s.calPos = 20 then
        if r.1.isSome then (u.setCal F.TIM_TIC_CAL_STATUS_SPARE_OK 1).eventClear Ev.ticSpareDown 0
        else (u.setCal F.TIM_TIC_CAL_STATUS_SPARE_OK 0).event Ev.ticSpareDown 0 0
      else u).calOn
  | _ => s

theorem exec_calStepDone {seen : CalSeen} (h : s.calPos ≤ 20) : exec (.calStepDone seen []) s = .next (calStep s seen s.calPhase) := by
  have hx : exec (.calStepDone seen []) s = execCalStepDone seen [] s := rfl
  rw [hx, execCalStepDone]
  have hpos : ¬ 20 < (s.noteTemps []).calPos := Nat.not_lt.mpr h
  dsimp only
  rw [if_neg hpos]
  exact congrArg Host.Outcome.next rfl

/-- What calibration of one position reads and writes besides: registers of signalling and of the calibration, and its failures. -/
def calReg (r : Reg) : Prop := r = .TIM_TIC_CAL_STATUS ∨ signalReg r

theorem calReg_indexOk {r : Reg} (h : calReg r) : r.indexOk = true := by
  rcases h with rfl | h
  · rfl
  · exact signalReg_indexOk h

def calCnt (id : Nat) : Prop := id = C.ticCalFails ∨ eventCnt id

def calView (s : State) : Tic × Tim := (s.tic, s.tim)

theorem calView_blind : Blind calView := ⟨fun _ _ _ _ _ _ _ => rfl, fun _ _ => rfl, fun _ _ => rfl⟩

theorem calMismatch_leaves (s : State) (p : Nat) : Leaves calView signalReg calCnt s (s.calMismatch p) :=
  (Leaves.refl.count calView_blind (.inl rfl)).event calView_blind (fun _ => id) (fun _ => .inr) (by decide) _ _

theorem calMismatch_counted (s : State) (p : Nat) : CountedOnce C.ticCalFails s (s.calMismatch p) :=
  countedOnce_of_counter (countedOnce_any s _) (event_counter_ne _ (by decide) _ _).symm

/-- The sources tried: flags and the fallback event. -/
def sourcesShown (s : State) (p : Nat) (r : Option CalTable × Option Bool × Option Bool) : State :=
  let s := match r.2.1 with
    | some true => s.setCal F.TIM_TIC_CAL_STATUS_INT_SRC_OK 1
    | some false => (s.setCal F.TIM_TIC_CAL_STATUS_INT_SRC_OK 0).event Ev.ticSourceFallback p 0
    | none => s
  match r.2.2 with
    | some b => s.setCal F.TIM_TIC_CAL_STATUS_CAL_IN_OK (if b then 1 else 0)
    | none => s

theorem noteSources_eq (s : State) (p : Nat) (r : Option CalTable × Option Bool × Option Bool) :
    s.noteSources p r = if r.1.isNone then (sourcesShown s p r).count C.ticCalFails else sourcesShown s p r := rfl

theorem sourcesShown_leaves (s : State) (p : Nat) (r : Option CalTable × Option Bool × Option Bool) :
    Leaves calView calReg eventCnt s (sourcesShown s p r) := by
  have b := calView_blind
  have hset {u : State} (h : Leaves calView calReg eventCnt s u) (f : Fld) (v : Nat) : Leaves calView calReg eventCnt s (u.setCal f v) :=
    h.setFld b (.inl rfl) f v
  unfold sourcesShown
  extract_lets v
  have hv : Leaves calView calReg eventCnt s v := by
    unfold v
    split
    · exact hset .refl _ _
    · exact (hset .refl _ _).event b (fun _ => .inr) (fun _ => id) (by decide) _ _
    · exact .refl
  split
  · exact hset hv _ _
  · exact hv

theorem noteSources_leaves (s : State) (p : Nat) (r : Option CalTable × Option Bool × Option Bool) :
    Leaves calView calReg calCnt s (s.noteSources p r) := by
  have h : Leaves calView calReg calCnt s (sourcesShown s p r) := (sourcesShown_leaves s p r).weaken (fun _ => id) fun _ => .inr
  rw [noteSources_eq]
  exact .ite (h.count calView_blind (.inl rfl)) h

theorem noteSources_counted {r : Option CalTable × Option Bool × Option Bool} (h : r.1 = none) (s : State) (p : Nat) :
    CountedOnce C.ticCalFails s (s.noteSources p r) := by
  have hw := (sourcesShown_leaves s p r).cnts C.ticCalFails fun h => absurd h.1 (by decide)
  have hc := countedOnce_any (sourcesShown s p r) C.ticCalFails
  rw [noteSources_eq, h]
  unfold CountedOnce at hc ⊢
  rwa [hw] at hc

/-- The end of a position's calibration: its table is done, new or as it was. -/
structure Finished (s : State) (p : Nat) (new : Option CalTable) (t : State) : Prop where
  done : (t.table p).done = true
  doneAt : (t.table p).doneAt = if new.isSome then s.tim.tick else (s.table p).doneAt
  widths : (t.table p).widths = (new.getD (s.table p)).widths
  rest : t = { s with regs := t.regs, masked := t.masked, tic := { s.tic with tables := t.tic.tables } }
  cal : t.get .TIM_TIC_CAL_STATUS = s.get .TIM_TIC_CAL_STATUS
  regs : s.regsOk → t.regsOk

theorem finishTable_finished (ht : skeysFrom none s.tic.tables = true) (p : Nat) (new : Option CalTable) :
    Finished s p new (s.finishTable p new) := by
  have hput (x : CalTable) : (s.putTable p x).table p = x := table_putTable ht p x
  unfold State.finishTable
  split
  · next x =>
    have htab := hput { x with done := true, doneAt := s.tim.tick, moved := 0 }
    extract_lets u
    split
    · next hp =>
      exact ⟨(congrArg CalTable.done htab :), (congrArg CalTable.doneAt htab :), (congrArg CalTable.widths htab :), rfl,
        get_setFld_off (r := .TIM_TIC_STATUS p) (q := .TIM_TIC_CAL_STATUS) (decide_eq_true hp) rfl nofun, fun h => regsOk_setFld h⟩
    · exact ⟨(congrArg CalTable.done htab :), (congrArg CalTable.doneAt htab :), (congrArg CalTable.widths htab :), rfl, rfl, id⟩
  · have htab := hput { s.table p with done := true }
    exact ⟨(congrArg CalTable.done htab :), (congrArg CalTable.doneAt htab :), (congrArg CalTable.widths htab :), rfl, rfl, id⟩

theorem table_of_tables (h : t.tic.tables = u.tic.tables) (p : Nat) : t.table p = u.table p := congrArg (sgetD · p freshTable) h

theorem onSpare_shown (hs : s.regsOk) {v : Nat} (hv : v < 2) (hp : p < 16) :
    (s.setOnSpare p v).fld (.TIM_TIC_STATUS p) F.TIM_TIC_STATUS_ON_SPARE = v := by
  rw [State.setOnSpare, if_pos hp]
  exact fld_setFld_lt hs (by decide) hv

theorem onSpare_cal (s : State) (p v : Nat) : (s.setOnSpare p v).get .TIM_TIC_CAL_STATUS = s.get .TIM_TIC_CAL_STATUS := by
  unfold State.setOnSpare
  split
  · next hp => exact get_setFld_off (r := .TIM_TIC_STATUS p) (decide_eq_true hp) rfl nofun
  · rfl

theorem onSpare_tic (s : State) (p v : Nat) : (s.setOnSpare p v).tic = s.tic := by
  unfold State.setOnSpare
  split <;> rfl

theorem regsOk_onSpare (hs : s.regsOk) (p v : Nat) : (s.setOnSpare p v).regsOk := by
  unfold State.setOnSpare
  split
  · exact regsOk_setFld hs
  · exact hs

/-- The hand-over to the spare. -/
theorem calStep_handover (hs : StoresCanonical s) (ht : skeysFrom none s.tic.tables = true) (seen : CalSeen) :
    let p := s.calPos
    let t := calStep s seen 1
    (agree seen.diffs = true → t.calPhase = 2 ∧ t.calPos = p ∧ (p < 16 → t.fld (.TIM_TIC_STATUS p) F.TIM_TIC_STATUS_ON_SPARE = 1)) ∧
    (agree seen.diffs = false → CountedOnce C.ticCalFails s t ∧ (t.table p).done = true ∧ (t.table p).widths = (s.table p).widths) := by
  intro p t
  refine ⟨fun ha => ?_, fun ha => ?_⟩
  · have ht' : t = (s.setCal F.TIM_TIC_CAL_STATUS_PHASE 2).setOnSpare p 1 := if_pos ha
    have hg := onSpare_cal (s.setCal F.TIM_TIC_CAL_STATUS_PHASE 2) p 1
    rw [ht']
    refine ⟨?_, ?_, onSpare_shown (regsOk_setFld hs.regs) (by decide)⟩
    · exact (congrArg F.TIM_TIC_CAL_STATUS_PHASE.get hg).trans (fld_setFld_lt hs.regs (by decide) (by decide))
    · exact (congrArg F.TIM_TIC_CAL_STATUS_POS.get hg).trans (fld_setFld_beside hs.regs rfl (by decide))
  · have ht' : t = ((s.calMismatch p).finishTable p none).calOn := if_neg (by simp [ha])
    have hm := calMismatch_leaves s p
    have htic : (s.calMismatch p).tic = s.tic := congrArg Prod.fst hm.view
    have hok : (s.calMismatch p).regsOk := ((Evolves.refl.calMismatch p).stores hs).regs
    have hf := finishTable_finished (s := s.calMismatch p) (htic ▸ ht) p none
    have hk := calOn_keeps (hf.regs hok)
    have htab := table_of_tables hk.tables p
    rw [ht']
    refine ⟨countedOnce_of_counter (calMismatch_counted s p) ?_, htab ▸ hf.done, ?_⟩
    · exact ((hk.cnts _ (by decide)).trans (counter_of_cnt (congrArg State.cnt hf.rest) _)).symm
    · rw [htab, hf.widths]
      exact congrArg CalTable.widths (table_of_tables (congrArg Tic.tables htic) p)

/-- The check of a new table has ended. -/
def checked (u : State) : State := ({ u with tic := { u.tic with cand := none } } : State).setCal F.TIM_TIC_CAL_STATUS_PHASE 5

theorem checked_phase (h : u.regsOk) : (checked u).calPhase = 5 :=
  fld_setFld_lt (s := { u with tic := { u.tic with cand := none } }) h (by decide) (by decide)

/-- The table of the served position is measured. -/
theorem calStep_measure (hs : StoresCanonical s) (seen : CalSeen) :
    let made := s.tryCal (s.table s.calPos) seen
    let t := calStep s seen 3
    t.calPhase = 4 ∧ t.tic.cand = made.1 ∧ (made.1 = none → CountedOnce C.ticCalFails s t) := by
  intro made t
  have hok : (s.noteSources s.calPos made).regsOk := ((Evolves.refl.noteSources s.calPos made).stores hs).regs
  refine ⟨fld_setFld_lt (s := { s.noteSources s.calPos made with tic := { (s.noteSources s.calPos made).tic with cand := made.1 } }) hok
    (by decide) (by decide), rfl, fun hn => ?_⟩
  exact countedOnce_of_counter (noteSources_counted hn s _) rfl

/-- The check takes the new table, or keeps the old one. -/
theorem calStep_check (hs : StoresCanonical s) (ht : skeysFrom none s.tic.tables = true) (seen : CalSeen) :
    let p := s.calPos
    let t := calStep s seen 4
    t.calPhase = 5 ∧ t.tic.cand = none ∧ (t.table p).done = true ∧
    (t.table p).doneAt = (if agree seen.diffs = true ∧ s.tic.cand.isSome = true then s.tim.tick else (s.table p).doneAt) ∧
    (t.table p).widths = (if agree seen.diffs then s.tic.cand.getD (s.table p) else s.table p).widths := by
  intro p t
  by_cases ha : agree seen.diffs = true
  · have hf := finishTable_finished ht p s.tic.cand
    have ht' : t = checked (s.finishTable p s.tic.cand) := congrArg checked (if_pos ha)
    have htab : t.table p = (s.finishTable p s.tic.cand).table p := by rw [ht']; rfl
    refine ⟨by rw [ht', checked_phase (hf.regs hs.regs)], by rw [ht']; rfl, htab ▸ hf.done, ?_, ?_⟩
    · rw [htab, hf.doneAt]
      simp only [ha, true_and]
    · rw [htab, hf.widths, if_pos ha]
  · have hm := calMismatch_leaves s p
    have htic : (s.calMismatch p).tic = s.tic := congrArg Prod.fst hm.view
    have hold : (s.calMismatch p).table p = s.table p := table_of_tables (congrArg Tic.tables htic) p
    have hok : (s.calMismatch p).regsOk := ((Evolves.refl.calMismatch p).stores hs).regs
    have hf := finishTable_finished (s := s.calMismatch p) (htic ▸ ht) p none
    have ht' : t = checked ((s.calMismatch p).finishTable p none) := congrArg checked (if_neg ha)
    have htab : t.table p = ((s.calMismatch p).finishTable p none).table p := by rw [ht']; rfl
    refine ⟨by rw [ht', checked_phase (hf.regs hok)], by rw [ht']; rfl, htab ▸ hf.done, ?_, ?_⟩
    · rw [htab, hf.doneAt, hold]
      simp [ha]
    · rw [htab, hf.widths, if_neg ha]
      exact congrArg CalTable.widths hold

/-- The position returns from the spare. -/
theorem calStep_return (hs : StoresCanonical s) (seen : CalSeen) :
    let p := s.calPos
    let t := calStep s seen 5
    (p < 16 → t.fld (.TIM_TIC_STATUS p) F.TIM_TIC_STATUS_ON_SPARE = 0) ∧ (t.table p).widths = (s.table p).widths := by
  intro p t
  have hk := calOn_keeps (regsOk_onSpare hs.regs p 0)
  have ho := calOn_only (s.setOnSpare p 0)
  refine ⟨fun hp => ?_, ?_⟩
  · refine (ho.regs.fld (q := .TIM_TIC_STATUS p) (fun r hr => ?_) _).trans (onSpare_shown hs.regs (by decide) hp)
    rw [List.mem_singleton.mp hr]
    exact addr_ne (decide_eq_true hp) rfl nofun
  · exact congrArg CalTable.widths (table_of_tables (hk.tables.trans (congrArg Tic.tables (onSpare_tic s p 0))) p)

/-- SPARE_OK and its condition after the spare's own calibration. -/
def spareShown (u : State) (ok : Bool) : State :=
  if ok then (u.setCal F.TIM_TIC_CAL_STATUS_SPARE_OK 1).eventClear Ev.ticSpareDown 0
  else (u.setCal F.TIM_TIC_CAL_STATUS_SPARE_OK 0).event Ev.ticSpareDown 0 0

theorem spareShown_spec (hs : u.regsOk) (ok : Bool) :
    (spareShown u ok).fld .TIM_TIC_CAL_STATUS F.TIM_TIC_CAL_STATUS_SPARE_OK = (if ok then 1 else 0) ∧
    (spareShown u ok).raised Ev.ticSpareDown 0 = !ok ∧ (spareShown u ok).tic = u.tic := by
  have hw {w : State} (h : Leaves calView signalReg eventCnt (u.setCal F.TIM_TIC_CAL_STATUS_SPARE_OK (if ok then 1 else 0)) w) :
      w.fld .TIM_TIC_CAL_STATUS F.TIM_TIC_CAL_STATUS_SPARE_OK = (if ok then 1 else 0) ∧ w.tic = u.tic := by
    refine ⟨?_, congrArg Prod.fst h.view⟩
    exact (congrArg F.TIM_TIC_CAL_STATUS_SPARE_OK.get (h.regs.get (fun _ => signalReg_indexOk) (q := .TIM_TIC_CAL_STATUS) rfl not_false)).trans
      (fld_setFld_lt hs (by decide) (by cases ok <;> decide))
  cases ok with
  | true =>
    obtain ⟨h1, h2⟩ := hw (Leaves.refl.eventClear calView_blind (fun _ => id) (fun _ => id) Ev.ticSpareDown 0)
    exact ⟨h1, (raised_eventClear ..).trans (by simp), h2⟩
  | false =>
    obtain ⟨h1, h2⟩ := hw (Leaves.refl.event calView_blind (fun _ => id) (fun _ => id) (code := Ev.ticSpareDown) (by decide) 0 0)
    refine ⟨h1, ?_, h2⟩
    have hr : ((u.setCal F.TIM_TIC_CAL_STATUS_SPARE_OK 0).event Ev.ticSpareDown 0 0).raised Ev.ticSpareDown 0 = true := by
      rw [raised_iff, event_raised]
      exact occurred_raised (by decide)
    exact hr

/-- A position is calibrated in place. -/
theorem calStep_inPlace (hs : StoresCanonical s) (ht : skeysFrom none s.tic.tables = true) (seen : CalSeen) :
    let p := s.calPos
    let made := s.tryCal (s.table p) seen
    let t := calStep s seen 6
    (t.table p).done = true ∧ (t.table p).widths = (made.1.getD (s.table p)).widths ∧
    (p = 20 → t.fld .TIM_TIC_CAL_STATUS F.TIM_TIC_CAL_STATUS_SPARE_OK = (if made.1.isSome then 1 else 0) ∧
      t.raised Ev.ticSpareDown 0 = !made.1.isSome) := by
  intro p made t
  have htic : (s.noteSources p made).tic = s.tic := congrArg Prod.fst (noteSources_leaves s p made).view
  have hu := ((Evolves.refl.noteSources p made).finishTable p made.1).stores hs
  have hf := finishTable_finished (s := s.noteSources p made) (htic ▸ ht) p made.1
  have hold : (s.noteSources p made).table p = s.table p := table_of_tables (congrArg Tic.tables htic) p
  have ht' : t = (if p = 20 then spareShown ((s.noteSources p made).finishTable p made.1) made.1.isSome
    else (s.noteSources p made).finishTable p made.1).calOn := rfl
  generalize (s.noteSources p made).finishTable p made.1 = u at hf hu ht'
  obtain ⟨h1, h2, h3⟩ := spareShown_spec hu.regs made.1.isSome
  have hvt : (if p = 20 then spareShown u made.1.isSome else u).tic = u.tic := by
    split
    · exact h3
    · rfl
  have hvok : StoresCanonical (if p = 20 then spareShown u made.1.isSome else u) :=
    keep_ite (P := StoresCanonical) (keep_ite (P := StoresCanonical) (((Evolves.refl.setCal ..).eventClear ..).stores hu)
      (((Evolves.refl.setCal ..).event ..).stores hu)) hu
  have hk := calOn_keeps hvok.regs
  have htab : t.table p = u.table p := ht' ▸ table_of_tables (hk.tables.trans (congrArg Tic.tables hvt)) p
  refine ⟨htab ▸ hf.done, ?_, fun h20 => ?_⟩
  · rw [htab, hf.widths, hold]
  · rw [if_pos h20] at hk ht'
    rw [ht', hk.spare]
    exact ⟨h1, (congrArg (fun h : Hlt => h.raised.contains (Ev.ticSpareDown, 0)) (congrArg State.hlt (calOn_only _).rest)).trans h2⟩

theorem rotation_full (hs : StoresCanonical s) (h : MayStart s) (hper : s.fld .TIM_TIC_CAL_CFG F.TIM_TIC_CAL_CFG_PERIOD ≠ 0)
    (hstep : s.fld .TIM_TIC_CAL_CFG F.TIM_TIC_CAL_CFG_TEMP_STEP = 0) :
    ∃ t, exec (.calRotationStart []) s = .next t ∧ t.calPos = 20 ∧ t.calPhase = 6 ∧ CountedOnce C.ticCalRuns s t ∧ t.tic.todo = List.range 20 := by
  obtain ⟨a1, a2, -⟩ := calAt_shown (u := { s with tic := { s.tic with todo := List.range 20 } }) (p := 20) (phase := 6) hs.regs (by decide) (by decide)
  exact ⟨_, exec_calRotationStart_full h hper hstep, a1, a2,
    countedOnce_any (calAt { s with tic := { s.tic with todo := List.range 20 } } 20 6) C.ticCalRuns, rfl⟩

theorem rotation_none (hs : StoresCanonical s) (due : Bool) (h : MayStart s)
    (hd : due = false ∨ s.fld .TIM_TIC_CAL_CFG F.TIM_TIC_CAL_CFG_PERIOD = 0) (htodo : s.tic.todo = [])
    (hq : ∀ q, q ≤ 20 → s.fld .TIM_TIC_CAL_CFG F.TIM_TIC_CAL_CFG_TEMP_STEP = 0 ∨
      (s.table q).moved < s.fld .TIM_TIC_CAL_CFG F.TIM_TIC_CAL_CFG_TEMP_STEP * 8) :
    ∃ t, exec (.calRotationStart [] due) s = .next t ∧ t.calPos = 0x1F ∧ t.calPhase = 0 ∧ t.tic.tables = s.tic.tables := by
  have hon : s.calOn = _ := nextPos_done (hotPos_none hq) htodo _
  obtain ⟨a1, a2, -⟩ := calAt_shown (u := { s with tic := { s.tic with todo := [], first := false } }) (p := 0x1F) (phase := 0) hs.regs
    (by decide) (by decide)
  exact ⟨_, (exec_calRotationStart_alone h hd).trans (congrArg _ hon), a1, a2, rfl⟩

theorem rotation_hot (hs : StoresCanonical s) (p : Nat) (due : Bool) (h : MayStart s)
    (hd : due = false ∨ s.fld .TIM_TIC_CAL_CFG F.TIM_TIC_CAL_CFG_PERIOD = 0)
    (hstep : s.fld .TIM_TIC_CAL_CFG F.TIM_TIC_CAL_CFG_TEMP_STEP ≠ 0) (hp : p ≤ 20)
    (hm : s.fld .TIM_TIC_CAL_CFG F.TIM_TIC_CAL_CFG_TEMP_STEP * 8 ≤ (s.table p).moved)
    (hbelow : ∀ q, q < p → (s.table q).moved < s.fld .TIM_TIC_CAL_CFG F.TIM_TIC_CAL_CFG_TEMP_STEP * 8)
    (hin : s.tic.first = true ∨ s.idlePos p = true) :
    ∃ t, exec (.calRotationStart [] due) s = .next t ∧ t.calPos = p ∧ t.calPhase = 6 ∧ CountedOnce C.ticCalRuns s t := by
  have hon : s.calOn = _ := nextPos_inPlace (.inl ⟨hotPos_some hp h.2.1 hstep hm hbelow hin, rfl⟩) hin _
  obtain ⟨a1, a2, -⟩ := calAt_shown (u := s) (p := p) (phase := 6) hs.regs (by omega) (by decide)
  exact ⟨_, (exec_calRotationStart_alone h hd).trans (congrArg _ hon), a1, a2, countedOnce_any (calAt s p 6) C.ticCalRuns⟩

/-- Settles O49: the position chosen is read off the choice of a step, and each phase's step is one lemma. -/
theorem stampersCalibrated : Obligations.StampersCalibrated := by
  unfold Obligations.StampersCalibrated
  refine ⟨?_, ?_⟩
  · intro s hs ht may period step
    exact ⟨fun due h => exec_calRotationStart_off h, rotation_full hs, rotation_none hs, rotation_hot hs⟩
  · intro s seen hs ht p made
    refine ⟨exec_calStepDone_idle, fun hp hlo hhi => ⟨_, exec_calStepDone hp, ?_⟩⟩
    have hcase : s.calPhase = 1 ∨ s.calPhase = 2 ∨ s.calPhase = 3 ∨ s.calPhase = 4 ∨ s.calPhase = 5 ∨ s.calPhase = 6 := by omega
    rcases hcase with h | h | h | h | h | h <;> rw [h]
    · exact ⟨fun _ => calStep_handover hs ht seen, by omega, by omega, by omega, by omega, by omega⟩
    · exact ⟨by omega, fun _ => ⟨fld_setFld_lt hs.regs (by decide) (by decide), fld_setFld_beside hs.regs rfl (by decide)⟩, by omega, by omega,
        by omega, by omega⟩
    · exact ⟨by omega, by omega, fun _ => calStep_measure hs seen, by omega, by omega, by omega⟩
    · exact ⟨by omega, by omega, by omega, fun _ => calStep_check hs ht seen, by omega, by omega⟩
    · exact ⟨by omega, by omega, by omega, by omega, fun _ => calStep_return hs seen, by omega⟩
    · exact ⟨by omega, by omega, by omega, by omega, by omega, fun _ => calStep_inPlace hs ht seen⟩

end Sys2Proof
end

section
/-! PROOF. Measurement channels (R392 to R403). -/
namespace Sys2Proof

open Sys2Proof.Machine

set_option Elab.async false

variable {s u v t : State} {k j : Nat}

/-! ## Channels in their store -/

theorem chan_of_tic (h : t.tic = u.tic) (j : Nat) : t.chan j = u.chan j := congrArg (fun x : Tic => sgetD x.chans j freshChan) h

theorem chan_putChan (h : skeysFrom none u.tic.chans = true) (k : Nat) (x : TicChan) : (u.putChan k x).chan k = x :=
  sgetD_sput_self _ _ _ _ h

theorem chan_putChan_ne (u : State) {j k : Nat} (h : k ≠ j) (x : TicChan) : (u.putChan k x).chan j = u.chan j :=
  sgetD_sput_ne _ _ _ _ _ _ h

theorem chans_putChan (h : skeysFrom none u.tic.chans = true) (k : Nat) (x : TicChan) : skeysFrom none (u.putChan k x).tic.chans = true :=
  skeysFrom_sput _ _ _ _ h

/-- The registers that measurements write. -/
def measureReg : Reg → Prop
  | .TIM_TIC_STATUS k => k < 16
  | .HST_IRQ_SRC i => i < 128
  | _ => False

theorem measureReg_indexOk {r : Reg} (h : measureReg r) : r.indexOk = true := by
  cases r with
  | TIM_TIC_STATUS k => exact decide_eq_true h
  | HST_IRQ_SRC i => exact decide_eq_true h
  | _ => exact h.elim

/-- The counters that measurements count, but for edges stamped or held off. -/
def measureCnt (id : Nat) : Prop := ∃ j, j < 16 ∧ (id = C.ticIgnored j ∨ id = C.ticLost j)

theorem tim_blind : Blind State.tim := ⟨fun _ _ _ _ _ _ _ => rfl, fun _ _ => rfl, fun _ _ => rfl⟩

/-- The settings in force of a channel, and its last edges. -/
def marks (x : TicChan) : Word × Word × Option Int × Option Int := (x.cfg, x.cfg2, x.last, x.lastStop)

/-- Measurements have gone on: settings and last edges stay, and time. -/
structure Measured (s t : State) : Prop where
  leaves : Leaves State.tim measureReg measureCnt s t
  marks : ∀ j, marks (t.chan j) = marks (s.chan j)
  chans : skeysFrom none s.tic.chans = true → skeysFrom none t.tic.chans = true
  tables : t.tic.tables = s.tic.tables

namespace Measured

theorem refl : Measured s s := ⟨.refl, fun _ => rfl, id, rfl⟩

theorem trans (h : Measured s u) (h' : Measured u v) : Measured s v :=
  ⟨h.leaves.trans h'.leaves, fun j => (h'.marks j).trans (h.marks j), fun hc => h'.chans (h.chans hc), h'.tables.trans h.tables⟩

theorem count (h : Measured s u) {id : Nat} (hid : measureCnt id) : Measured s (u.count id) :=
  ⟨h.leaves.count tim_blind hid, h.marks, h.chans, h.tables⟩

theorem of_tic (h : Measured s u) (h' : Leaves State.tim measureReg measureCnt u v) (ht : v.tic = u.tic) : Measured s v :=
  h.trans ⟨h', fun j => congrArg _ (chan_of_tic ht j), fun hc => ht ▸ hc, congrArg Tic.tables ht⟩

theorem setFld (h : Measured s u) (hk : k < 16) (f : Fld) (x : Nat) : Measured s (u.setFld (.TIM_TIC_STATUS k) f x) :=
  h.of_tic (Leaves.refl.setFld tim_blind (r := .TIM_TIC_STATUS k) hk f x) rfl

theorem putChan (hc : skeysFrom none s.tic.chans = true) (h : Measured s u) (hk : k < 16) {x : TicChan}
    (hx : Sys2Proof.marks x = Sys2Proof.marks (u.chan k)) : Measured s (u.putChan k x) := by
  refine h.trans ⟨?_, fun j => ?_, fun hc => chans_putChan hc k x, rfl⟩
  · have h0 : Leaves State.tim measureReg measureCnt u { u with tic := { u.tic with chans := sput freshChan u.tic.chans k x } } :=
      Leaves.refl.of_kept rfl
    exact (h0.setFld tim_blind (r := .TIM_TIC_STATUS k) hk _ _).setFld tim_blind (r := .TIM_TIC_STATUS k) hk _ _
  · by_cases hj : k = j
    · subst hj
      rw [chan_putChan (h.chans hc), hx]
    · rw [chan_putChan_ne _ hj]

theorem irqEvent (h : Measured s u) {i : Nat} (hi : i < 128) : Measured s (u.irqEvent i) := by
  have hc := irqEvent_changes u hi
  refine h.of_tic ⟨(congrArg State.tim hc.rest :), fun q hq => hc.regs q fun i hi e => hq (.HST_IRQ_SRC i) hi e.symm,
    fun id _ => counter_of_cnt (congrArg State.cnt hc.rest) id⟩ (congrArg State.tic hc.rest :)

end Measured

/-! ## Results -/

/-- A result in a FIFO that is not full. -/
theorem pushResult_taken (hk : k < 16) (r : TicRes) (h : (u.chan k).fifo.length < 64) :
    (u.pushResult k r).tic = (u.putChan k { u.chan k with fifo := (u.chan k).fifo ++ [r] }).tic ∧ (u.pushResult k r).cnt = u.cnt := by
  unfold State.pushResult
  extract_lets x v
  rw [if_neg (by simpa [x] using h)]
  split
  · have hc := irqEvent_changes v (i := 64 + k) (by omega)
    exact ⟨(congrArg State.tic hc.rest :), (congrArg State.cnt hc.rest :)⟩
  · exact ⟨rfl, rfl⟩

/-- A full FIFO loses the result. -/
theorem pushResult_lost (r : TicRes) (h : 64 ≤ (u.chan k).fifo.length) :
    u.pushResult k r = (u.count (C.ticLost k)).setFld (.TIM_TIC_STATUS k) F.TIM_TIC_STATUS_OVERFLOW 1 := if_pos h

theorem Measured.pushResult (hc : skeysFrom none s.tic.chans = true) (h : Measured s u) (hk : k < 16) (r : TicRes) :
    Measured s (u.pushResult k r) := by
  by_cases hf : (u.chan k).fifo.length < 64
  · have ht := pushResult_taken hk r hf
    have hput : Measured s (u.putChan k { u.chan k with fifo := (u.chan k).fifo ++ [r] }) := h.putChan hc hk rfl
    unfold State.pushResult
    extract_lets x v
    rw [if_neg (by simpa [x] using hf)]
    split
    · exact hput.irqEvent (by omega)
    · exact hput
  · rw [pushResult_lost r (Nat.not_lt.mp hf)]
    exact (h.count ⟨k, hk, .inr rfl⟩).setFld hk _ _

/-- A result is pushed at channel `k`: its channel but for the FIFO, every other channel, and the counts of other channels stay. -/
structure Pushed (s : State) (k : Nat) (r : TicRes) (t : State) : Prop where
  taken : (s.chan k).fifo.length < 64 → t.chan k = { s.chan k with fifo := (s.chan k).fifo ++ [r] } ∧ t.cnt = s.cnt
  lost : 64 ≤ (s.chan k).fifo.length → t.chan k = s.chan k ∧ CountedOnce (C.ticLost k) s t ∧ t.fld (.TIM_TIC_STATUS k) F.TIM_TIC_STATUS_OVERFLOW = 1
  other : ∀ j, j ≠ k → t.chan j = s.chan j
  cnts : ∀ id, id ≠ C.ticLost k → t.counter id = s.counter id

theorem pushResult_pushed (hs : u.regsOk) (hc : skeysFrom none u.tic.chans = true) (hk : k < 16) (r : TicRes) : Pushed u k r (u.pushResult k r) := by
  by_cases hf : (u.chan k).fifo.length < 64
  · obtain ⟨ht, hn⟩ := pushResult_taken hk r hf
    exact ⟨fun _ => ⟨(chan_of_tic ht k).trans (chan_putChan hc _ _), hn⟩, fun h => absurd hf (Nat.not_lt.mpr h),
      fun j hj => (chan_of_tic ht j).trans (chan_putChan_ne _ (Ne.symm hj) _), fun id _ => counter_of_cnt hn id⟩
  · rw [pushResult_lost r (Nat.not_lt.mp hf)]
    exact ⟨fun h => absurd h hf, fun _ => ⟨rfl, countedOnce_any u _, fld_setFld_lt (s := u.count (C.ticLost k)) hs (by decide) (by decide)⟩,
      fun _ _ => rfl, fun id hid => State.counter_count_ne _ _ _ (Ne.symm hid)⟩

/-! ## Stop stamps -/

theorem regsOk_putChan (h : u.regsOk) (k : Nat) (x : TicChan) : (u.putChan k x).regsOk := regsOk_setFld (regsOk_setFld h)

theorem pushResult_other (hj : j < 16) (r : TicRes) {i : Nat} (hi : i ≠ j) :
    (u.pushResult j r).chan i = u.chan i ∧ (u.pushResult j r).counter (C.ticLost i) = u.counter (C.ticLost i) := by
  by_cases hf : (u.chan j).fifo.length < 64
  · obtain ⟨ht, hn⟩ := pushResult_taken hj r hf
    exact ⟨(chan_of_tic ht i).trans (chan_putChan_ne _ (Ne.symm hi) _), counter_of_cnt hn _⟩
  · have hlost : C.ticLost i ≠ C.ticLost j := by
      unfold C.ticLost
      omega
    rw [pushResult_lost r (Nat.not_lt.mp hf)]
    exact ⟨rfl, State.counter_count_ne _ _ _ (Ne.symm hlost)⟩

/-- A stop stamp acts at its own start channel. -/
theorem stopFor_other (hj : j < 16) (x : Stamp) {i : Nat} (hi : i ≠ j) :
    (u.stopFor j x).chan i = u.chan i ∧ (u.stopFor j x).counter (C.ticLost i) = u.counter (C.ticLost i) := by
  have hput (y : TicChan) : (u.putChan j y).chan i = u.chan i ∧ (u.putChan j y).counter (C.ticLost i) = u.counter (C.ticLost i) :=
    ⟨chan_putChan_ne _ (Ne.symm hi) _, rfl⟩
  have hpush (y : TicChan) (r : TicRes) : ((u.putChan j y).pushResult j r).chan i = u.chan i ∧
      ((u.putChan j y).pushResult j r).counter (C.ticLost i) = u.counter (C.ticLost i) := by
    obtain ⟨h1, h2⟩ := pushResult_other (u := u.putChan j y) hj r hi
    exact ⟨h1.trans (hput y).1, h2.trans (hput y).2⟩
  unfold State.stopFor
  extract_lets y
  split
  · split
    · exact hpush { y with start := none } _
    · exact hput { y with stops := y.stops ++ [x] }
  · exact hput { y with stops := y.stops ++ [x] }

theorem Measured.stopFor (hc : skeysFrom none s.tic.chans = true) (h : Measured s u) (hj : j < 16) (x : Stamp) : Measured s (u.stopFor j x) := by
  unfold State.stopFor
  extract_lets y
  split
  · split
    · exact (h.putChan hc hj (x := { y with start := none }) rfl).pushResult hc hj _
    · exact h.putChan hc hj (x := { y with stops := y.stops ++ [x] }) rfl
  · exact h.putChan hc hj (x := { y with stops := y.stops ++ [x] }) rfl

theorem mem_stopsFor {x : Stamp} (h : j ∈ (List.range 16).filter fun j => u.stopsFor k j x.rising) : j < 16 ∧ u.stopsFor k j x.rising = true := by
  obtain ⟨h1, h2⟩ := List.mem_filter.mp h
  exact ⟨List.mem_range.mp h1, h2⟩

theorem Measured.stopStamp (hc : skeysFrom none s.tic.chans = true) (h : Measured s u) (k : Nat) (x : Stamp) : Measured s (u.stopStamp k x) :=
  foldl_keeps _ _ h fun _ _ hj hv => hv.stopFor hc (mem_stopsFor hj).1 _

/-- A channel that the stamp does not stop stays, with its losses. -/
theorem stopStamp_other (hc : skeysFrom none u.tic.chans = true) {x : Stamp} {i : Nat} (hi : u.stopsFor k i x.rising = false) :
    (u.stopStamp k x).chan i = u.chan i ∧ (u.stopStamp k x).counter (C.ticLost i) = u.counter (C.ticLost i) := by
  have hP : Measured u (u.stopStamp k x) ∧ (u.stopStamp k x).chan i = u.chan i ∧
      (u.stopStamp k x).counter (C.ticLost i) = u.counter (C.ticLost i) := by
    refine foldl_keeps (P := fun w => Measured u w ∧ w.chan i = u.chan i ∧ w.counter (C.ticLost i) = u.counter (C.ticLost i)) _ _
      ⟨.refl, rfl, rfl⟩ fun w j hj ⟨hm, h1, h2⟩ => ?_
    obtain ⟨hj16, hjs⟩ := mem_stopsFor hj
    obtain ⟨o1, o2⟩ := stopFor_other hj16 x (i := i) fun e => by simp [← e, hi] at hjs
    exact ⟨hm.stopFor hc hj16 x, o1.trans h1, o2.trans h2⟩
  exact hP.2

/-- A stop stamp that no open measurement awaits is held by every channel that it stops. -/
theorem stopStamp_held (hc : skeysFrom none u.tic.chans = true) {x : Stamp}
    (hn : ∀ j, u.stopsFor k j x.rising = true → (u.chan j).start = none) (hj : j < 16) :
    ((u.stopStamp k x).chan j).stops = if u.stopsFor k j x.rising then (u.chan j).stops ++ [x] else (u.chan j).stops := by
  split
  · next hst =>
    refine foldl_own (V := fun w : State => w.chan j) (P := fun w => Measured u w) (Q := fun y : TicChan => y.stops = (u.chan j).stops ++ [x])
      (l := (List.range 16).filter fun j => u.stopsFor k j x.rising) (f := fun w j => w.stopFor j x) (k := j)
      (List.nodup_range.filter _) (List.mem_filter.mpr ⟨List.mem_range.mpr hj, hst⟩) (fun w i hi hw => hw.stopFor hc (mem_stopsFor hi).1 x)
      (fun w i hi hne hw => (stopFor_other (mem_stopsFor hi).1 x (Ne.symm hne)).1) (fun w hw hv => ?_) .refl
    have hstart : (w.chan j).start = none := by
      rw [hv]
      exact hn j hst
    have hstop : w.stopFor j x = w.putChan j { w.chan j with stops := (w.chan j).stops ++ [x] } := by
      unfold State.stopFor
      extract_lets y
      have hy : y.start = none := hstart
      simp only [hy]
      rfl
    have hch : (w.stopFor j x).chan j = { w.chan j with stops := (w.chan j).stops ++ [x] } := by
      rw [hstop]
      exact chan_putChan (hw.chans hc) _ _
    rw [hch, hv]
  · next hst => rw [(stopStamp_other hc (by simpa using hst)).1]

/-! ## An edge that is accepted -/

namespace Measured

theorem startEdge (hc : skeysFrom none s.tic.chans = true) (h : Measured s u) (hk : k < 16) (x : Stamp) : Measured s (u.startEdge k x) := by
  unfold State.startEdge
  extract_lets y both d held near
  split
  · exact h.count ⟨k, hk, .inl rfl⟩
  · split
    · next v _ => exact (h.putChan hc hk (x := { y with stops := y.stops.filter (· != v) }) rfl).pushResult hc hk _
    · exact h.putChan hc hk (x := { y with start := some x }) rfl

theorem periodEdge (hc : skeysFrom none s.tic.chans = true) (h : Measured s u) (hk : k < 16) (x : Stamp) : Measured s (u.periodEdge k x) := by
  have hp := h.putChan hc hk (x := { u.chan k with start := some x }) rfl
  unfold State.periodEdge
  extract_lets y
  split
  · exact hp.pushResult hc hk _
  · exact hp

theorem recipEdge (hc : skeysFrom none s.tic.chans = true) (h : Measured s u) (hk : k < 16) (x : Stamp) : Measured s (u.recipEdge k x) := by
  unfold State.recipEdge
  extract_lets y
  split
  · exact h
  · split
    · exact h.putChan hc hk (x := { y with prev := some x }) rfl
    · exact h.putChan hc hk (x := { y with cur := some x, n := y.n + 1 }) rfl

theorem ownEdge (hc : skeysFrom none s.tic.chans = true) (h : Measured s u) (hk : k < 16) (x : Stamp) (b : Bool) :
    Measured s (u.ownEdge k x b) := by
  unfold State.ownEdge
  extract_lets y p stamped v
  have hv : Measured s v := h.putChan hc hk (x := { y with idx := y.idx + 1 }) rfl
  split
  · split
    · exact hv.pushResult hc hk _
    · exact hv
  · split
    · exact hv.periodEdge hc hk x
    · split
      · exact hv.startEdge hc hk x
      · exact hv
  · split
    · exact hv.recipEdge hc hk x
    · exact hv
  · exact hv

end Measured

/-- A channel whose last edges are at `raw`, of its own use and as a stop channel. -/
def withEdge (x : TicChan) (raw : Int) (own stop : Bool) : TicChan :=
  { x with last := if own then some raw else x.last, lastStop := if stop then some raw else x.lastStop }

/-- The edge noted as the channel's last, before what it means is worked out. -/
def edgeNoted (s : State) (k : Nat) (t : Stamp) (own stop : Bool) : State :=
  (s.count (C.ticStamps k)).putChan k (withEdge (s.chan k) t.raw own stop)

/-- Stop stamps of the edge have gone to the channels that it stops. -/
def edgeStops (s : State) (k : Nat) (t : Stamp) (own stop : Bool) : State :=
  if stop then (edgeNoted s k t own stop).stopStamp k t else edgeNoted s k t own stop

theorem acceptEdge_eq (s : State) (k : Nat) (x : Stamp) (own stop : Bool) :
    s.acceptEdge k x own stop = if own then (edgeStops s k x own stop).ownEdge k x stop else edgeStops s k x own stop := rfl

theorem edgeStops_measured (hc : skeysFrom none s.tic.chans = true) (k : Nat) (x : Stamp) (own stop : Bool) :
    Measured (edgeNoted s k x own stop) (edgeStops s k x own stop) := by
  have hc' : skeysFrom none (edgeNoted s k x own stop).tic.chans = true := chans_putChan hc _ _
  unfold edgeStops
  split
  · exact Measured.refl.stopStamp hc' k x
  · exact .refl

theorem acceptEdge_measured (hc : skeysFrom none s.tic.chans = true) (hk : k < 16) (x : Stamp) (own stop : Bool) :
    Measured (edgeNoted s k x own stop) (s.acceptEdge k x own stop) := by
  have hc' : skeysFrom none (edgeNoted s k x own stop).tic.chans = true := chans_putChan hc _ _
  have h := edgeStops_measured hc k x own stop
  rw [acceptEdge_eq]
  split
  · exact h.ownEdge hc' hk x stop
  · exact h

theorem ticStamps_apart (k : Nat) (hk : k < 16) : ¬ measureCnt (C.ticStamps k) := by
  rintro ⟨j, hj, h | h⟩ <;> simp only [C.ticStamps, C.ticIgnored, C.ticLost] at h <;> omega

theorem acceptEdge_stamped (hc : skeysFrom none s.tic.chans = true) (hk : k < 16) (x : Stamp) (own stop : Bool) :
    CountedOnce (C.ticStamps k) s (s.acceptEdge k x own stop) ∧
    ((s.acceptEdge k x own stop).chan k).last = (if own then some x.raw else (s.chan k).last) ∧
    ((s.acceptEdge k x own stop).chan k).lastStop = (if stop then some x.raw else (s.chan k).lastStop) := by
  have hm := acceptEdge_measured hc hk x own stop
  have hcnt : (edgeNoted s k x own stop).counter (C.ticStamps k) = (s.count (C.ticStamps k)).counter (C.ticStamps k) := rfl
  have hch : (edgeNoted s k x own stop).chan k = _ := chan_putChan hc k _
  have hmark := hm.marks k
  rw [hch] at hmark
  simp only [marks, Prod.mk.injEq] at hmark
  obtain ⟨-, -, hl, hls⟩ := hmark
  exact ⟨countedOnce_of_counter (countedOnce_any s _) (hcnt.symm.trans (hm.leaves.cnts _ (ticStamps_apart k hk)).symm), hl, hls⟩

theorem edgeStops_canonical (hs : StoresCanonical s) (k : Nat) (x : Stamp) (own stop : Bool) : StoresCanonical (edgeStops s k x own stop) := by
  have h : Evolves s (edgeNoted s k x own stop) := (Evolves.refl.count _).putChan ..
  exact (Evolves.ite (h.stopStamp ..) h).stores hs

/-- A channel that the edge does not stop itself: its record and losses before its own use of the edge. -/
theorem edgeStops_own (hc : skeysFrom none s.tic.chans = true) {x : Stamp} {own stop : Bool} (hn : s.stopsFor k k x.rising = false) :
    (edgeStops s k x own stop).chan k = withEdge (s.chan k) x.raw own stop ∧
    (edgeStops s k x own stop).counter (C.ticLost k) = s.counter (C.ticLost k) := by
  have hc' : skeysFrom none (edgeNoted s k x own stop).tic.chans = true := chans_putChan hc _ _
  have hch : (edgeNoted s k x own stop).chan k = _ := chan_putChan hc k _
  have hlost : (edgeNoted s k x own stop).counter (C.ticLost k) = s.counter (C.ticLost k) := by
    refine State.counter_count_ne s (C.ticStamps k) (C.ticLost k) ?_
    simp [C.ticStamps, C.ticLost]
  unfold edgeStops
  split
  · have hst : (edgeNoted s k x own stop).stopsFor k k x.rising = false := by
      have he : (edgeNoted s k x own stop).stopsFor k k x.rising = s.stopsFor k k x.rising := by
        unfold State.stopsFor
        rw [hch]
        rfl
      exact he.trans hn
    obtain ⟨h1, h2⟩ := stopStamp_other hc' hst
    exact ⟨h1.trans hch, h2.trans hlost⟩
  · exact ⟨hch, hlost⟩

/-- The result of a stamp. -/
def stampResult (x : TicChan) (t : Stamp) : TicRes :=
  ⟨0, t.tb, false, 0, 0, x.form t % 2 ^ 64, x.idx / 2 ^ x.fld F.TIM_TIC_CFG_PRESCALE % 2 ^ 32⟩

/-- An edge that a STAMP channel takes as a result. -/
theorem acceptEdge_stamp (hs : StoresCanonical s) (hc : skeysFrom none s.tic.chans = true) (hk : k < 16) {x : Stamp} {stop : Bool} (hm : (s.chan k).mode = 1)
    (hi : (s.chan k).idx % 2 ^ (s.chan k).fld F.TIM_TIC_CFG_PRESCALE = 0) :
    ((s.chan k).fifo.length < 64 → ((s.acceptEdge k x true stop).chan k).fifo = (s.chan k).fifo ++ [stampResult (s.chan k) x]) ∧
    (64 ≤ (s.chan k).fifo.length → ((s.acceptEdge k x true stop).chan k).fifo = (s.chan k).fifo ∧
      CountedOnce (C.ticLost k) s (s.acceptEdge k x true stop) ∧
      (s.acceptEdge k x true stop).fld (.TIM_TIC_STATUS k) F.TIM_TIC_STATUS_OVERFLOW = 1) := by
  have hnot : s.stopsFor k k x.rising = false := by simp [State.stopsFor, hm]
  obtain ⟨h1, h2⟩ := edgeStops_own hc (own := true) (stop := stop) hnot
  have hc2 := (edgeStops_measured hc k x true stop).chans (chans_putChan hc _ _)
  have hr2 := (edgeStops_canonical hs k x true stop).regs
  rw [acceptEdge_eq, if_pos rfl]
  generalize edgeStops s k x true stop = w at h1 h2 hc2 hr2
  have hown : w.ownEdge k x stop = (w.putChan k { w.chan k with idx := (w.chan k).idx + 1 }).pushResult k (stampResult (w.chan k) x) := by
    have hmode : (w.chan k).mode = 1 := by
      rw [h1]
      exact hm
    have hst : ((w.chan k).idx % 2 ^ (w.chan k).fld F.TIM_TIC_CFG_PRESCALE == 0) = true := by
      rw [h1]
      exact beq_iff_eq.mpr hi
    unfold State.ownEdge
    extract_lets y p stamped v
    simp only [show y.mode = 1 from hmode]
    exact if_pos hst
  have hput : (w.putChan k { w.chan k with idx := (w.chan k).idx + 1 }).chan k = { w.chan k with idx := (w.chan k).idx + 1 } :=
    chan_putChan hc2 _ _
  obtain ⟨p1, p2, -, -⟩ := pushResult_pushed (regsOk_putChan hr2 k { w.chan k with idx := (w.chan k).idx + 1 }) (chans_putChan hc2 _ _) hk
    (stampResult (w.chan k) x)
  rw [hput] at p1 p2
  rw [hown]
  have hfifo : (w.chan k).fifo = (s.chan k).fifo := by rw [h1]; rfl
  have hres : stampResult (w.chan k) x = stampResult (s.chan k) x := by rw [h1]; rfl
  refine ⟨fun hl => ?_, fun hl => ?_⟩
  · rw [(p1 (hfifo ▸ hl)).1, hres]
    exact congrArg (· ++ _) hfifo
  · obtain ⟨q1, q2, q3⟩ := p2 (hfifo ▸ hl)
    refine ⟨(congrArg TicChan.fifo q1).trans hfifo, ?_, q3⟩
    have h2' : (w.putChan k { w.chan k with idx := (w.chan k).idx + 1 }).counter (C.ticLost k) = s.counter (C.ticLost k) := h2
    unfold CountedOnce at q2 ⊢
    rwa [h2'] at q2

theorem timebase_of {K : Nat → Prop} (h : Leaves State.tim measureReg K s t) : t.timebase = s.timebase := by
  have hg (q : Reg) (hq : q.indexOk = true) (hn : ¬ measureReg q) : t.get q = s.get q := h.regs.get (fun _ => measureReg_indexOk) hq hn
  have htim : t.tim = s.tim := h.view
  unfold State.timebase State.engineOn State.qualified State.oscState State.fld
  rw [hg .TIM_SAF_STATUS rfl not_false, hg .TIM_OSC_QUAL_STATUS rfl not_false, htim]

theorem edgeNoted_leaves (s : State) (hk : k < 16) (x : Stamp) (own stop : Bool) :
    Leaves State.tim measureReg (fun _ => True) s (edgeNoted s k x own stop) := by
  have h : Leaves State.tim measureReg (fun _ => True) s (s.count (C.ticStamps k)) := Leaves.refl.count tim_blind trivial
  have h' : Leaves State.tim measureReg (fun _ => True) s { s.count (C.ticStamps k) with
      tic := { s.tic with chans := sput freshChan s.tic.chans k (withEdge (s.chan k) x.raw own stop) } } := h.of_kept rfl
  exact (h'.setFld tim_blind (r := .TIM_TIC_STATUS k) hk _ _).setFld tim_blind (r := .TIM_TIC_STATUS k) hk _ _

theorem pairResult_of (ht : t.timebase = s.timebase) {y z : TicChan} (hc : y.cfg = z.cfg) (a b : Stamp) :
    t.pairResult y a b = s.pairResult z a b := by
  have hf (f : Fld) : y.fld f = z.fld f := congrArg f.get hc
  unfold State.pairResult TicChan.form
  simp only [hf, ht]

/-- An edge in a channel of periods opens the next one, and gives the result of the one it ends. -/
theorem periodEdge_spec (hr : u.regsOk) (hc : skeysFrom none u.tic.chans = true) (hk : k < 16) (x : Stamp) :
    ((u.periodEdge k x).chan k).start = some x ∧
    (∀ a, (u.chan k).start = some a → (u.chan k).fifo.length < 64 →
      ((u.periodEdge k x).chan k).fifo = (u.chan k).fifo ++ [u.pairResult (u.chan k) a x]) := by
  have hput : (u.putChan k { u.chan k with start := some x }).chan k = { u.chan k with start := some x } := chan_putChan hc _ _
  cases hst : (u.chan k).start with
  | none =>
    have he : u.periodEdge k x = u.putChan k { u.chan k with start := some x } := by
      unfold State.periodEdge
      extract_lets y
      simp only [show y.start = none from hst]
    rw [he, hput]
    exact ⟨rfl, fun a ha => by cases ha⟩
  | some a =>
    have he : u.periodEdge k x = (u.putChan k { u.chan k with start := some x }).pushResult k (u.pairResult (u.chan k) a x) := by
      unfold State.periodEdge
      extract_lets y
      simp only [show y.start = some a from hst]
      rfl
    obtain ⟨p1, p2, -, -⟩ := pushResult_pushed (regsOk_putChan hr k { u.chan k with start := some x }) (chans_putChan hc _ _) hk
      (u.pairResult (u.chan k) a x)
    rw [hput] at p1 p2
    rw [he]
    refine ⟨?_, fun b hb hl => ?_⟩
    · by_cases hl : (u.chan k).fifo.length < 64
      · exact congrArg TicChan.start (p1 hl).1
      · exact congrArg TicChan.start (p2 (Nat.not_lt.mp hl)).1
    · cases hb
      exact congrArg TicChan.fifo (p1 hl).1

/-- An edge that both ends and begins a measurement of periods. -/
theorem acceptEdge_period (hs : StoresCanonical s) (hc : skeysFrom none s.tic.chans = true) (hk : k < 16) {x : Stamp} (hm : (s.chan k).mode = 2)
    (hst : (s.chan k).stopCh = k) (he : (s.chan k).fld F.TIM_TIC_CFG_EDGE ≠ 2) :
    ((s.acceptEdge k x true true).chan k).start = some x ∧
    (∀ a, (s.chan k).start = some a → (s.chan k).fifo.length < 64 →
      ((s.acceptEdge k x true true).chan k).fifo = (s.chan k).fifo ++ [s.pairResult (s.chan k) a x]) := by
  have hper : ∀ y : TicChan, y.cfg = (s.chan k).cfg → y.isPeriod k x.rising = true := fun y hy => by
    have hf (f : Fld) : y.fld f = (s.chan k).fld f := congrArg f.get hy
    unfold TicChan.isPeriod TicChan.isStart TicChan.isStop TicChan.mode TicChan.stopCh
    simp only [hf]
    have h1 : (s.chan k).fld F.TIM_TIC_CFG_MODE = 2 := hm
    have h2 : (s.chan k).fld F.TIM_TIC_CFG_STOP_CH = k := hst
    simp [h1, h2, he]
  have hnot : s.stopsFor k k x.rising = false := by simp [State.stopsFor, hper _ rfl]
  obtain ⟨h1, -⟩ := edgeStops_own hc (own := true) (stop := true) hnot
  have hms := edgeStops_measured hc k x true true
  have hc2 := hms.chans (chans_putChan hc _ _)
  have hr2 := (edgeStops_canonical hs k x true true).regs
  have htb : (edgeStops s k x true true).timebase = s.timebase :=
    (timebase_of hms.leaves).trans (timebase_of (edgeNoted_leaves s hk x true true))
  rw [acceptEdge_eq, if_pos rfl]
  generalize edgeStops s k x true true = w at h1 hc2 hr2 htb
  let z : TicChan := { w.chan k with idx := (w.chan k).idx + 1 }
  have hz : z.cfg = (s.chan k).cfg := (congrArg TicChan.cfg h1 :)
  have hput : (w.putChan k z).chan k = z := chan_putChan hc2 _ _
  have hown : w.ownEdge k x true = (w.putChan k z).periodEdge k x := by
    have hmode : (w.chan k).mode = 2 := by
      rw [h1]
      exact hm
    unfold State.ownEdge
    extract_lets y p stamped v
    simp only [show y.mode = 2 from hmode]
    exact if_pos (by rw [hper y hz]; rfl)
  obtain ⟨q1, q2⟩ := periodEdge_spec (regsOk_putChan hr2 k z) (chans_putChan hc2 k z) hk x
  rw [hput] at q2
  rw [hown]
  refine ⟨q1, fun a ha hl => ?_⟩
  have hzs : z.start = some a := (congrArg TicChan.start h1 :).trans ha
  have hzf : z.fifo = (s.chan k).fifo := (congrArg TicChan.fifo h1 :)
  have htz : (w.putChan k z).timebase = s.timebase :=
    (timebase_of (((Leaves.refl (K := fun _ => True).of_kept (v := { w with tic := { w.tic with chans := sput freshChan w.tic.chans k z } }) rfl).setFld
      tim_blind (r := .TIM_TIC_STATUS k) hk _ _).setFld tim_blind (r := .TIM_TIC_STATUS k) hk _ _)).trans htb
  rw [q2 a hzs (hzf ▸ hl), hzf, pairResult_of htz hz]

/-! ## Edges (R392, R395 to R402) -/

/-- Settings that are in force are not taken again. -/
theorem takeCfg_settled (h1 : (s.chan j).cfg = s.get (.TIM_TIC_CFG j)) (h2 : (s.chan j).cfg2 = s.get (.TIM_TIC_CFG2 j))
    (h3 : (s.chan j).dirty = false) : s.takeCfg j = s := by
  unfold State.takeCfg
  extract_lets x c c2
  exact if_pos ⟨h1, h2, by simp [x, h3]⟩

theorem tooSoon_not (last : Option Int) (raw : Int) (n : Nat) :
    (!tooSoon last raw n) = match last with | some l => decide ((n : Int) ≤ raw - l) | none => true := by
  cases last with
  | none => rfl
  | some l =>
    simp only [tooSoon]
    rw [← decide_not]
    exact decide_eq_decide.mpr Int.not_lt

/-- The edge is accepted for the channel's own use. -/
def ownTaken (s : State) (k : Nat) (raw : Int) : Bool :=
  (s.chan k).mode != 0 && !tooSoon (s.chan k).last raw ((s.chan k).holdoff ((s.chan k).fld F.TIM_TIC_CFG_PRESCALE))

/-- The edge is accepted as a stop edge. -/
def stopTaken (s : State) (k : Nat) (raw : Int) : Bool := s.namedStop k && !tooSoon (s.chan k).lastStop raw ((s.chan k).holdoff 0)

/-- TIC_EDGE with the settings in force. -/
theorem exec_ticEdge (hk : k < 16) (hcfg : ∀ j, j < 16 → (s.chan j).cfg = s.get (.TIM_TIC_CFG j) ∧ (s.chan j).cfg2 = s.get (.TIM_TIC_CFG2 j) ∧
    (s.chan j).dirty = false) (rising : Bool) (code : Nat) :
    let x := s.stampNow k code rising (s.get (.TIM_TIC_DELAY k)).toInt
    exec (.ticEdge k rising code) s = .next (
      if s.tim.ticking = false ∨ s.stamping k = false ∨ (s.chan k).selects rising = false then s
      else if (s.table k).done = false then s.count (C.ticIgnored k)
      else if ownTaken s k x.raw = false ∧ stopTaken s k x.raw = false then s.count (C.ticHoldoff k)
      else s.acceptEdge k x (ownTaken s k x.raw) (stopTaken s k x.raw)) := by
  intro x
  have hx : exec (.ticEdge k rising code) s = execTicEdge k rising code s := rfl
  have htake : (List.range 16).foldl (fun (u : State) j =>
      if j = k ∨ F.TIM_TIC_CFG_STOP_CH.get (u.get (.TIM_TIC_CFG j)) = k then u.takeCfg j else u) s = s := by
    refine foldl_keeps (P := fun u => u = s) _ _ rfl fun u j hj hu => ?_
    subst hu
    obtain ⟨h1, h2, h3⟩ := hcfg j (List.mem_range.mp hj)
    exact keep_ite (P := fun w => w = u) (takeCfg_settled h1 h2 h3) rfl
  rw [hx, execTicEdge]
  refine congrArg Host.Outcome.next ?_
  have h16 : ¬ 16 ≤ k := Nat.not_le.mpr hk
  cases ht : s.tim.ticking with
  | false => rw [if_pos (by simp), if_pos (.inl rfl)]
  | true =>
    rw [if_neg (by simp [h16])]
    dsimp only
    rw [htake]
    have hcond : (!ownTaken s k x.raw && !stopTaken s k x.raw) = true ↔ ownTaken s k x.raw = false ∧ stopTaken s k x.raw = false := by simp
    exact if_congr (by simp) rfl (if_congr (by simp) rfl (if_congr hcond rfl rfl))

/-! ## Ends of measurements -/

/-- A stop stamp is more than 1 µs old. -/
def stampOld (s : State) (k : Nat) (u : Stamp) : Bool := decide (usec16 < formDiff (s.formNow (s.chan k)) ((s.chan k).form u))

theorem exec_stopStampExpires (hk : k < 16) : exec (.stopStampExpires k) s = .next (
    if (s.chan k).mode ≠ 2 then s
    else (s.putChan k { s.chan k with stops := (s.chan k).stops.filter fun u => !stampOld s k u }).countN (C.ticIgnored k)
      ((s.chan k).stops.filter (stampOld s k)).length) := by
  have hx : exec (.stopStampExpires k) s = execStopStampExpires k s := rfl
  rw [hx, execStopStampExpires]
  refine congrArg Host.Outcome.next ?_
  have h16 : ¬ 16 ≤ k := Nat.not_le.mpr hk
  exact if_congr (by simp [h16]) rfl rfl

theorem exec_intervalTimeout_idle (h : (s.chan k).start = none) : exec (.intervalTimeout k) s = .next s := by
  have hx : exec (.intervalTimeout k) s = execIntervalTimeout k s := rfl
  rw [hx, execIntervalTimeout]
  simp only [h]

theorem exec_intervalTimeout {a : Stamp} (h : (s.chan k).start = some a) : exec (.intervalTimeout k) s = .next (
    if k < 16 ∧ (2 ^ ((s.chan k).fld F.TIM_TIC_CFG_LIMIT_EXP + 16) : Int) ≤ formDiff (s.formNow (s.chan k)) ((s.chan k).form a) then
      (s.putChan k { s.chan k with start := none }).pushResult k ⟨3, a.tb, false, a.code, 0, 0, 0⟩
    else s) := by
  have hx : exec (.intervalTimeout k) s = execIntervalTimeout k s := rfl
  rw [hx, execIntervalTimeout]
  simp only [h]

/-- A result pushed after its channel was stored as `y`. -/
theorem push_putChan (hc : skeysFrom none s.tic.chans = true) (hk : k < 16) {y : TicChan} (hl : y.fifo.length < 64) (r : TicRes) :
    ((s.putChan k y).pushResult k r).chan k = { y with fifo := y.fifo ++ [r] } := by
  have hput := chan_putChan hc k y
  have ht := pushResult_taken (u := s.putChan k y) hk r (by rw [hput]; exact hl)
  rw [hput] at ht
  exact (chan_of_tic ht.1 k).trans (chan_putChan (chans_putChan hc k y) k _)

/-- The gate's state while it restarts at the next multiple of GATE. -/
def gateNext (s : State) (k : Nat) : Int := (s.formNow (s.chan k) / (s.chan k).gate + 1) * (s.chan k).gate

/-- The result of a gate that ends. -/
def gateResult (s : State) (k : Nat) : TicRes :=
  match (s.chan k).prev, (s.chan k).cur with
  | some a, some b =>
    let stepped := (s.chan k).fld F.TIM_TIC_CFG_TIMEBASE == 0 && a.step != b.step
    if 2 ^ 32 ≤ (s.chan k).n then ⟨5, b.tb, stepped, 0, 0, 0, 0⟩
    else ⟨0, b.tb, stepped, 0, 0, formDiff ((s.chan k).form b) ((s.chan k).form a), (s.chan k).n⟩
  | p, _ => ⟨4, (p.map Stamp.tb).getD s.timebase, false, 0, 0, 0, 0⟩

/-- The last stamp that the next gate's first interval begins with. -/
def gatePrev (x : TicChan) : Option Stamp :=
  match x.prev, x.cur with
  | some _, some b => some b
  | _, _ => none

theorem exec_recipGateEnd (hk : k < 16) : exec (.recipGateEnd k) s = .next (
    if (s.chan k).mode ≠ 3 ∨ (s.chan k).dirty = true ∨ s.formNow (s.chan k) < (s.chan k).gateEnd ∨ (s.chan k).gate ≤ 0 then s
    else if (s.chan k).gated = false ∨ (s.table k).done = false then
      s.putChan k { s.chan k with gateEnd := gateNext s k, gated := true, prev := none, cur := none, n := 0 }
    else (s.putChan k { s.chan k with gateEnd := gateNext s k, prev := gatePrev (s.chan k), cur := none, n := 0 }).pushResult k (gateResult s k)) := by
  have hx : exec (.recipGateEnd k) s = execRecipGateEnd k s := rfl
  have h16 : ¬ 16 ≤ k := Nat.not_le.mpr hk
  rw [hx, execRecipGateEnd]
  refine congrArg Host.Outcome.next ?_
  refine if_congr (by simp [h16, or_assoc]) rfl (if_congr (by simp) rfl ?_)
  unfold gatePrev gateResult
  cases hp : (s.chan k).prev with
  | none => rfl
  | some a =>
    cases hcur : (s.chan k).cur with
    | none => rfl
    | some b =>
      dsimp only
      split <;> rfl

/-! ## Reading results (R403) -/

/-- The status word of a result. -/
def resultWord (r : TicRes) : Word := BitVec.ofNat 32 (r.status + r.tb * 16 + (if r.stepped then 64 else 0) + r.binA * 256 + r.binB * 2 ^ 18)

theorem readReg_resSt (hk : k < 16) (h : Nat) : s.readReg (.sess h 3) (.TIM_TIC_RES_ST k) =
    ((s.readResult k).1, (s.readResult k).2 &&& 0x0FFFFF7F#32) := by
  have hm : (Reg.TIM_TIC_RES_ST k).fieldMask &&& ~~~((Reg.TIM_TIC_RES_ST k).maskOf fun f => f.acc == .wo) &&& ~~~(eMask (.sess h 3) (.TIM_TIC_RES_ST k)) =
      0x0FFFFF7F#32 := by
    simp only [eMask, Who.seesE, Who.role, beq_self_eq_true, Bool.true_or, if_true, Reg.fieldMask, Reg.maskOf, Reg.fields]
    decide
  have hi : s.instIn s.curSel (.TIM_TIC_RES_ST k) = true := rfl
  have ha : s.readActing (.sess h 3) (.TIM_TIC_RES_ST k) = s.readResult k := rfl
  simp only [State.readReg, hi, Bool.not_true, Bool.false_eq_true, if_false, ha]
  rw [hm]

theorem exec_ticResultRead {h : Nat} (he : ExpertWindow s h) (hk : k < 16) :
    exec (.ticResultRead .window k) s = .next ((s.readResult k).1.emit (.readData ((s.readResult k).2 &&& 0x0FFFFF7F#32))) := by
  obtain ⟨y, hy, hrole⟩ := he.holder
  have hd : decodeAddr (Reg.TIM_TIC_RES_ST k).addr = some (.TIM_TIC_RES_ST k) := decodeAddr_addr (decide_eq_true hk) nofun
  have ha : s.readAddr (.sess h 3) (Reg.TIM_TIC_RES_ST k).addr = ((s.readResult k).1, 0, (s.readResult k).2 &&& 0x0FFFFF7F#32) := by
    simp only [State.readAddr, hd, Who.role, readReg_resSt hk]
    rfl
  have hx : exec (.ticResultRead .window k) s = .next (s.readOut .window (Reg.TIM_TIC_RES_ST k).addr) := rfl
  rw [hx, readOut_of_holder hy he.up he.live he.stewards, hrole, ha]
  exact congrArg Host.Outcome.next (if_pos rfl)

/-- A field of the word that the mask shows whole. -/
theorem get_shown {f : Fld} (h : f.mask &&& 0x0FFFFF7F#32 = f.mask) (w : Word) : f.get (w &&& 0x0FFFFF7F#32) = f.get w := by
  refine get_congr fun i hi hb => ?_
  have hm : (f.mask &&& 0x0FFFFF7F#32).getLsbD i = true := by rw [h]; exact hb
  rw [BitVec.getLsbD_and, Bool.and_eq_true] at hm
  rw [BitVec.getLsbD_and, hm.2, Bool.and_true]

theorem resultWord_fields {r : TicRes} (h1 : r.status < 16) (h2 : r.tb < 4) (h3 : r.binA < 1024) (h4 : r.binB < 1024) :
    F.TIM_TIC_RES_ST_STATUS.get (resultWord r) = r.status ∧ F.TIM_TIC_RES_ST_TB.get (resultWord r) = r.tb ∧
    F.TIM_TIC_RES_ST_BIN_A.get (resultWord r) = r.binA ∧ F.TIM_TIC_RES_ST_BIN_B.get (resultWord r) = r.binB := by
  have hst : (if r.stepped then 64 else 0) ≤ 64 ∧ (if r.stepped then 64 else 0) % 64 = 0 := by cases r.stepped <;> decide
  unfold resultWord Fld.get
  generalize (if r.stepped then 64 else 0) = st at hst
  rw [BitVec.toNat_ofNat]
  norm_num
  omega

/-! ## The obligation -/

/-- What an edge does, with the settings in force. -/
theorem ticEdge_spec (hk : k < 16)
    (hcfg : ∀ j, j < 16 → (s.chan j).cfg = s.get (.TIM_TIC_CFG j) ∧ (s.chan j).cfg2 = s.get (.TIM_TIC_CFG2 j) ∧ (s.chan j).dirty = false)
    (rising : Bool) (code : Nat) :
    let x := s.chan k
    let at' := s.stampNow k code rising (s.get (.TIM_TIC_DELAY k)).toInt
    let own := ownTaken s k at'.raw
    let stop := stopTaken s k at'.raw
    (s.tim.ticking = false ∨ s.stamping k = false ∨ x.selects rising = false → exec (.ticEdge k rising code) s = .next s) ∧
    (s.tim.ticking = true → s.stamping k = true → x.selects rising = true →
      ((s.table k).done = false → exec (.ticEdge k rising code) s = .next (s.count (C.ticIgnored k))) ∧
      ((s.table k).done = true → own = false → stop = false → exec (.ticEdge k rising code) s = .next (s.count (C.ticHoldoff k))) ∧
      ((s.table k).done = true → own = true ∨ stop = true → exec (.ticEdge k rising code) s = .next (s.acceptEdge k at' own stop))) := by
  intro x at' own stop
  have he := exec_ticEdge hk hcfg rising code
  refine ⟨fun h => he.trans (congrArg _ (if_pos h)), fun h1 h2 h3 => ?_⟩
  have hn : ¬ (s.tim.ticking = false ∨ s.stamping k = false ∨ (s.chan k).selects rising = false) := by
    rintro (h | h | h)
    · rw [h1] at h; cases h
    · rw [h2] at h; cases h
    · rw [show (s.chan k).selects rising = true from h3] at h; cases h
  have he' := he.trans (congrArg _ (if_neg hn))
  refine ⟨fun hd => he'.trans (congrArg _ (if_pos hd)), fun hd ho hst => ?_, fun hd ho => ?_⟩
  · exact he'.trans (congrArg _ ((if_neg (by simp [hd])).trans (if_pos ⟨ho, hst⟩)))
  · refine he'.trans (congrArg _ ((if_neg (by simp [hd])).trans (if_neg ?_)))
    rintro ⟨h4, h5⟩
    rcases ho with ho | ho
    · rw [show ownTaken s k at'.raw = true from ho] at h4; cases h4
    · rw [show stopTaken s k at'.raw = true from ho] at h5; cases h5

theorem ticEdge_measures (hs : StoresCanonical s) (hc : skeysFrom none s.tic.chans = true) (hk : k < 16) (rising : Bool) (code : Nat) :
    let x := s.chan k
    let at' := s.stampNow k code rising (s.get (.TIM_TIC_DELAY k)).toInt
    let own := ownTaken s k at'.raw
    let stop := stopTaken s k at'.raw
    let t := s.acceptEdge k at' own stop
    CountedOnce (C.ticStamps k) s t ∧ (t.chan k).last = (if own then some at'.raw else x.last) ∧
    (t.chan k).lastStop = (if stop then some at'.raw else x.lastStop) ∧
    (own = true → x.mode = 1 → x.idx % 2 ^ x.fld F.TIM_TIC_CFG_PRESCALE = 0 →
      (x.fifo.length < 64 → (t.chan k).fifo = x.fifo ++
        [⟨0, s.timebase, false, 0, 0, x.form at' % 2 ^ 64, x.idx / 2 ^ x.fld F.TIM_TIC_CFG_PRESCALE % 2 ^ 32⟩]) ∧
      (64 ≤ x.fifo.length → (t.chan k).fifo = x.fifo ∧ CountedOnce (C.ticLost k) s t ∧
        t.fld (.TIM_TIC_STATUS k) F.TIM_TIC_STATUS_OVERFLOW = 1)) ∧
    (own = true → stop = true → x.mode = 2 → x.stopCh = k → x.fld F.TIM_TIC_CFG_EDGE ≠ 2 → (t.chan k).start = some at' ∧
      (∀ a, x.start = some a → x.fifo.length < 64 → (t.chan k).fifo = x.fifo ++ [s.pairResult x a at'])) := by
  intro x at' own stop t
  obtain ⟨h1, h2, h3⟩ := acceptEdge_stamped hc hk at' own stop
  refine ⟨h1, h2, h3, fun ho hm hi => ?_, fun ho hst hm hch he => ?_⟩
  · have hr := acceptEdge_stamp hs hc hk (x := at') (stop := stop) hm hi
    rw [← ho] at hr
    exact hr
  · have hr := acceptEdge_period hs hc hk (x := at') hm hch he
    have ht : t = s.acceptEdge k at' true true := congrArg₂ (s.acceptEdge k at') ho hst
    rw [ht]
    exact hr

theorem stopStampExpires_spec (hs : StoresCanonical s) (hc : skeysFrom none s.tic.chans = true) (hk : k < 16) (hm : (s.chan k).mode = 2) :
    ∃ t, exec (.stopStampExpires k) s = .next t ∧ t.chan k = { s.chan k with stops := (s.chan k).stops.filter fun u => !stampOld s k u } ∧
      (∀ j, j ≠ k → t.chan j = s.chan j) ∧ CountedTimes (C.ticIgnored k) ((s.chan k).stops.filter (stampOld s k)).length s t ∧
      ∀ j, j < 16 → j ≠ k → t.counter (C.ticIgnored j) = s.counter (C.ticIgnored j) := by
  refine ⟨_, (exec_stopStampExpires hk).trans (congrArg _ (if_neg (not_not.mpr hm))), ?_⟩
  have hch := chan_putChan hc k { s.chan k with stops := (s.chan k).stops.filter fun u => !stampOld s k u }
  have hne (j : Nat) (hj : j ≠ k) := chan_putChan_ne s (Ne.symm hj) { s.chan k with stops := (s.chan k).stops.filter fun u => !stampOld s k u }
  have hcnt : skeysFrom none (s.putChan k { s.chan k with stops := (s.chan k).stops.filter fun u => !stampOld s k u }).cnt = true := hs.cnt
  have hc0 (id : Nat) : (s.putChan k { s.chan k with stops := (s.chan k).stops.filter fun u => !stampOld s k u }).counter id = s.counter id := rfl
  generalize s.putChan k { s.chan k with stops := (s.chan k).stops.filter fun u => !stampOld s k u } = v at hch hne hcnt hc0
  generalize ((s.chan k).stops.filter (stampOld s k)).length = n
  have htic : (v.countN (C.ticIgnored k) n).tic = v.tic := countN_keeps (P := fun w => w.tic = v.tic) (fun _ hw => hw) n rfl
  have hval := (countN_counter hcnt (C.ticIgnored k) n).1
  refine ⟨(chan_of_tic htic k).trans hch, fun j hj => (chan_of_tic htic j).trans (hne j hj), ?_, fun j hj hjk => ?_⟩
  · rw [CountedTimes, hval, hc0]
  · have hid : C.ticIgnored k ≠ C.ticIgnored j := by
      unfold C.ticIgnored
      omega
    exact (countN_keeps (P := fun w => w.counter (C.ticIgnored j) = v.counter (C.ticIgnored j))
      (fun _ hw => (State.counter_count_ne _ _ _ hid).trans hw) n rfl).trans (hc0 _)

theorem intervalTimeout_spec (hc : skeysFrom none s.tic.chans = true) (hk : k < 16) {a : Stamp} (ha : (s.chan k).start = some a) :
    let x := s.chan k
    let open' := formDiff (s.formNow x) (x.form a)
    let limit : Int := 2 ^ (x.fld F.TIM_TIC_CFG_LIMIT_EXP + 16)
    (open' < limit → exec (.intervalTimeout k) s = .next s) ∧
    (limit ≤ open' → x.fifo.length < 64 → ∃ t r, exec (.intervalTimeout k) s = .next t ∧ r.status = 3 ∧ r.value = 0 ∧ r.tb = a.tb ∧
      t.chan k = { x with start := none, fifo := x.fifo ++ [r] }) := by
  intro x open' limit
  refine ⟨fun h => ?_, fun h hl => ⟨_, ⟨3, a.tb, false, a.code, 0, 0, 0⟩, (exec_intervalTimeout ha).trans (congrArg _ (if_pos ⟨hk, h⟩)), rfl, rfl, rfl, ?_⟩⟩
  · exact (exec_intervalTimeout ha).trans (congrArg _ (if_neg fun hn => absurd hn.2 (Int.not_le.mpr h)))
  · exact push_putChan hc hk (y := { x with start := none }) hl _

/-- The channel after its gate has ended with a result. -/
theorem recipGateEnd_spec (hc : skeysFrom none s.tic.chans = true) (hk : k < 16) (hm : (s.chan k).mode = 3) (hd : (s.chan k).dirty = false)
    (he : (s.chan k).gateEnd ≤ s.formNow (s.chan k)) (hg : 0 < (s.chan k).gate) :
    ((s.chan k).gated = false ∨ (s.table k).done = false → ∃ t, exec (.recipGateEnd k) s = .next t ∧
      t.chan k = { s.chan k with gateEnd := gateNext s k, gated := true, prev := none, cur := none, n := 0 }) ∧
    ((s.chan k).gated = true → (s.table k).done = true → (s.chan k).fifo.length < 64 → ∃ t, exec (.recipGateEnd k) s = .next t ∧
      (t.chan k).fifo = (s.chan k).fifo ++ [gateResult s k] ∧ (t.chan k).n = 0 ∧ (t.chan k).gateEnd = gateNext s k ∧
      (t.chan k).prev = gatePrev (s.chan k)) := by
  have hn : ¬ ((s.chan k).mode ≠ 3 ∨ (s.chan k).dirty = true ∨ s.formNow (s.chan k) < (s.chan k).gateEnd ∨ (s.chan k).gate ≤ 0) := by
    rintro (h | h | h | h)
    · exact h hm
    · rw [hd] at h; cases h
    · omega
    · omega
  have hx := (exec_recipGateEnd (s := s) hk).trans (congrArg _ (if_neg hn))
  refine ⟨fun h => ⟨_, hx.trans (congrArg _ (if_pos h)), chan_putChan hc k _⟩, fun h1 h2 hl => ⟨_, hx.trans (congrArg _ (if_neg (by simp [h1, h2]))), ?_⟩⟩
  rw [push_putChan hc hk (y := { s.chan k with gateEnd := gateNext s k, prev := gatePrev (s.chan k), cur := none, n := 0 }) hl]
  exact ⟨rfl, rfl, rfl, rfl⟩

theorem gateResult_stamps {a b : Stamp} (ha : (s.chan k).prev = some a) (hb : (s.chan k).cur = some b) :
    gatePrev (s.chan k) = some b ∧ (2 ^ 32 ≤ (s.chan k).n → (gateResult s k).status = 5) ∧
    ((s.chan k).n < 2 ^ 32 → (gateResult s k).status = 0 ∧ (gateResult s k).tb = b.tb ∧
      (gateResult s k).value = formDiff ((s.chan k).form b) ((s.chan k).form a) ∧ (gateResult s k).count = (s.chan k).n) := by
  unfold gatePrev gateResult
  rw [ha, hb]
  refine ⟨rfl, fun h => ?_, fun h => ?_⟩
  · dsimp only
    rw [if_pos h]
  · dsimp only
    rw [if_neg (Nat.not_le.mpr h)]
    exact ⟨rfl, rfl, rfl, rfl⟩

theorem gateResult_none (h : (s.chan k).prev = none ∨ (s.chan k).cur = none) :
    (gateResult s k).status = 4 ∧ gatePrev (s.chan k) = none ∧ (gateResult s k).tb = (((s.chan k).prev.map Stamp.tb).getD s.timebase) := by
  unfold gatePrev gateResult
  rcases h with h | h
  · rw [h]
    exact ⟨rfl, rfl, rfl⟩
  · cases hp : (s.chan k).prev with
    | none => exact ⟨rfl, rfl, rfl⟩
    | some a =>
      rw [h]
      exact ⟨rfl, rfl, rfl⟩

theorem get_emit (u : State) (o : Output) (q : Reg) : (u.emit o).get q = u.get q := rfl

/-- The result registers written. -/
theorem resultShown (hu : StoresCanonical u) (hk : k < 16) (a b c : Word) :
    let t := ((u.put (.TIM_TIC_RES_L k) a).put (.TIM_TIC_RES_H k) b).put (.TIM_TIC_RES_CNT k) c
    t.get (.TIM_TIC_RES_L k) = a ∧ t.get (.TIM_TIC_RES_H k) = b ∧ t.get (.TIM_TIC_RES_CNT k) = c := by
  have hL : (Reg.TIM_TIC_RES_L k).indexOk = true := decide_eq_true hk
  have hH : (Reg.TIM_TIC_RES_H k).indexOk = true := decide_eq_true hk
  have hC : (Reg.TIM_TIC_RES_CNT k).indexOk = true := decide_eq_true hk
  have h1 := hu.put (.TIM_TIC_RES_L k) a
  have h2 := h1.put (.TIM_TIC_RES_H k) b
  refine ⟨?_, ?_, State.get_put_self _ _ _ h2.regs⟩
  · rw [get_put_off hC hL nofun, get_put_off hH hL nofun, State.get_put_self _ _ _ hu.regs]
  · rw [get_put_off hC hH nofun, State.get_put_self _ _ _ h1.regs]

theorem resultRead_empty {h : Nat} (hs : StoresCanonical s) (he : ExpertWindow s h) (hk : k < 16) (hf : (s.chan k).fifo = []) :
    ∃ t, exec (.ticResultRead .window k) s = .next t ∧ t.out = Output.readData 6#32 :: s.out ∧ t.get (.TIM_TIC_RES_L k) = 0 ∧
      t.get (.TIM_TIC_RES_H k) = 0 ∧ t.get (.TIM_TIC_RES_CNT k) = 0 := by
  have hr : s.readResult k = (((s.put (.TIM_TIC_RES_L k) 0#32).put (.TIM_TIC_RES_H k) 0#32).put (.TIM_TIC_RES_CNT k) 0#32, 6#32) := by
    unfold State.readResult
    extract_lets x
    simp only [show x.fifo = [] from hf]
  refine ⟨_, exec_ticResultRead he hk, ?_⟩
  rw [hr, get_emit, get_emit, get_emit]
  exact ⟨congrArg (fun w : Word => Output.readData w :: s.out) (show 6#32 &&& 0x0FFFFF7F#32 = 6#32 by decide), resultShown hs hk _ _ _⟩

theorem resultRead_next {h : Nat} (hs : StoresCanonical s) (hc : skeysFrom none s.tic.chans = true) (he : ExpertWindow s h) (hk : k < 16)
    {r : TicRes} {rest : List TicRes} (hf : (s.chan k).fifo = r :: rest) :
    ∃ t pre, exec (.ticResultRead .window k) s = .next t ∧ t.out = Output.readData (resultWord r &&& 0x0FFFFF7F#32) :: (pre ++ s.out) ∧
      (∀ o ∈ pre, ∃ n a d, o = Output.msix n a d) ∧ (t.chan k).fifo = rest ∧
      t.get (.TIM_TIC_RES_L k) = (BitVec.ofInt 64 r.value).setWidth 32 ∧
      t.get (.TIM_TIC_RES_H k) = (BitVec.ofInt 64 r.value >>> 32).setWidth 32 ∧ t.get (.TIM_TIC_RES_CNT k) = BitVec.ofNat 32 r.count := by
  let u := (s.putChan k { s.chan k with fifo := rest }).irqSettle
  have hr : s.readResult k = (((u.put (.TIM_TIC_RES_L k) ((BitVec.ofInt 64 r.value).setWidth 32)).put (.TIM_TIC_RES_H k)
      ((BitVec.ofInt 64 r.value >>> 32).setWidth 32)).put (.TIM_TIC_RES_CNT k) (BitVec.ofNat 32 r.count), resultWord r) := by
    unfold State.readResult
    extract_lets x
    simp only [show x.fifo = r :: rest from hf]
    rfl
  have hch : IrqChanges (s.putChan k { s.chan k with fifo := rest }) u := (IrqChanges.irqProof _).irqSettle .refl
  obtain ⟨pre, hout, hmsix⟩ := hch.sends
  have hfifo : (u.chan k).fifo = rest :=
    congrArg TicChan.fifo ((chan_of_tic (congrArg State.tic hch.rest :) k).trans (chan_putChan hc k { s.chan k with fifo := rest }))
  have hu : StoresCanonical u := (((Evolves.refl.putChan ..).irqSettle).stores hs)
  refine ⟨_, pre, exec_ticResultRead he hk, ?_⟩
  rw [hr, get_emit, get_emit, get_emit]
  exact ⟨congrArg _ hout, hmsix, hfifo, resultShown hu hk _ _ _⟩

/-- A write of a channel's settings. -/
theorem exec_ticCfgWrite {h : Nat} {x : Word} (second : Bool) (he : ExpertWindow s h) :
    let r : Reg := if second then .TIM_TIC_CFG2 k else .TIM_TIC_CFG k
    Passes s h r x → exec (.ticCfgWrite .window k second x) s = .next ((wrote s r x).ticCfgWritten k (s.get r) ((wrote s r x).get r)) := by
  intro r hp
  have hx : exec (.ticCfgWrite .window k second x) s = .next (s.rowWriteReg .window r x) := rfl
  have hw : (wrote s r x).writeAction h r (s.get r) x = (wrote s r x).ticCfgWritten k (s.get r) ((wrote s r x).get r) := by
    cases second <;> rfl
  have hst : r.isST = false ∧ r ≠ .FWD_HASH_SEED1 ∧ r ≠ .FWD_HASH_SEED2 ∧ s.discardWrite r = none := by
    cases second
    · exact ⟨rfl, nofun, nofun, rfl⟩
    · exact ⟨rfl, nofun, nofun, rfl⟩
  have hreq : ((wrote s r x).ticCfgWritten k (s.get r) ((wrote s r x).get r)).boot.resetReq = none := by
    have hb : ((wrote s r x).ticCfgWritten k (s.get r) ((wrote s r x).get r)).boot = (wrote s r x).boot := by
      unfold State.ticCfgWritten
      split <;> rfl
    rw [hb]
    exact (wrote_resetReq ..).trans he.noReset
  rw [hx, rowWriteReg_expert he hp hst.1 hst.2.1 hst.2.2.1 hst.2.2.2, hw, takeReset_of_none hreq]

/-- Settles O48: an edge is worked out in its three parts (noted, as a stop stamp, for the channel's own use), and each end of a
measurement stores its channel and pushes one result. -/
theorem intervalsMeasured : Obligations.IntervalsMeasured := by
  unfold Obligations.IntervalsMeasured
  refine ⟨?_, ?_, ?_, ?_⟩
  · intro s k rising code hs hc hk hcfg x at' after own stop
    have hown : own = ownTaken s k at'.raw := by
      unfold ownTaken
      rw [tooSoon_not] <;> rfl
    have hstop : stop = stopTaken s k at'.raw := by
      unfold stopTaken
      rw [tooSoon_not] <;> rfl
    obtain ⟨h1, h2⟩ := ticEdge_spec hk hcfg rising code
    refine ⟨h1, fun ht hst hse => ?_⟩
    obtain ⟨h3, h4, h5⟩ := h2 ht hst hse
    rw [hown, hstop]
    exact ⟨h3, h4, fun hd ho => ⟨_, h5 hd ho, ticEdge_measures hs hc hk rising code⟩⟩
  · intro s k hs hc hk x old
    refine ⟨fun hm => (exec_stopStampExpires hk).trans (congrArg _ (if_pos hm)), stopStampExpires_spec hs hc hk,
      fun at' hn j hj => stopStamp_held hc hn hj, exec_intervalTimeout_idle, fun a ha => intervalTimeout_spec hc hk ha,
      fun h => (exec_recipGateEnd hk).trans (congrArg _ (if_pos h)), fun hm hd he hg hgate => (recipGateEnd_spec hc hk hm hd he hg).1 hgate,
      fun hm hd he hg hgate hdone hl => ?_⟩
    obtain ⟨t, h1, h2, h3, h4, h5⟩ := (recipGateEnd_spec hc hk hm hd he hg).2 hgate hdone hl
    refine ⟨t, _, h1, h2, h3, h4, fun a b ha hb => ?_, fun hn => ?_⟩
    · obtain ⟨r1, r2, r3⟩ := gateResult_stamps ha hb
      exact ⟨h5.trans r1, r2, r3⟩
    · obtain ⟨r1, r2, r3⟩ := gateResult_none hn
      exact ⟨r1, h5.trans r2, r3⟩
  · intro s h k hs hc he hk
    refine ⟨resultRead_empty hs he hk, fun r rest hf h1 h2 h3 h4 => ?_⟩
    obtain ⟨t, pre, ht, hout, hpre, hrest, hL, hH, hC⟩ := resultRead_next hs hc he hk hf
    obtain ⟨f1, f2, f3, f4⟩ := resultWord_fields h1 h2 h3 h4
    exact ⟨t, _, pre, ht, hout, hpre, hrest, (get_shown (by decide) _).trans f1, (get_shown (by decide) _).trans f2,
      (get_shown (by decide) _).trans f3, (get_shown (by decide) _).trans f4, hL, hH, hC⟩
  · intro s h k v second he r hp u
    have hx := exec_ticCfgWrite second he hp
    have hch : u.chan k = s.chan k := chan_of_tic (congrArg State.tic (wrote_rest s r v) :) k
    refine ⟨fun heq => hx.trans (congrArg _ (if_pos heq.symm)), fun hne => hx.trans (congrArg _ ((if_neg (Ne.symm hne)).trans ?_))⟩
    rw [← hch]
    rfl

end Sys2Proof
end

section
/-! PROOF. What frames on their way to and through the queues leave alone (R183, R258, R287 to R299): a view that sees neither registers nor
counters, frames, replicas, rings, ports, tables, staged banks and the switch core's own state is the same afterwards. -/
namespace Sys2Proof

open Sys2Proof.Machine

set_option Elab.async false

variable {α : Type} {s u v : State} {g : State → α} {a : α}

theorem view_ite {c : Prop} [Decidable c] (h : g u = a) (h' : g v = a) : g (if c then u else v) = a := keep_ite (P := fun w => g w = a) h h'

theorem view_foldl {β : Type} {l : List β} {f : State → β → State} (h : g u = a) (hf : ∀ w x, g w = a → g (f w x) = a) : g (l.foldl f u) = a :=
  foldl_keeps (P := fun w => g w = a) _ _ h fun w x _ hw => hf w x hw

/-- The view does not see what the enqueueing of replicas and the writing of cells change. -/
structure EnqueueBlind (g : State → α) : Prop where
  cnt : ∀ (u : State) x, g { u with cnt := x } = g u
  frames : ∀ (u : State) x, g { u with frames := x } = g u
  reps : ∀ (u : State) x, g { u with reps := x } = g u
  nextRep : ∀ (u : State) x, g { u with nextRep := x } = g u
  swc : ∀ (u : State) x, g { u with swc := x } = g u

namespace EnqueueBlind

variable (b : EnqueueBlind g)
include b

theorem count (h : g u = a) (id : Nat) : g (u.count id) = a := (b.cnt u _).trans h

theorem countDrop (h : g u = a) (f : Machine.Frame) (c : Nat → Nat) : g (u.countDrop f c) = a := b.count h _

theorem putFrame (h : g u = a) (id : Nat) (f : Machine.Frame) : g (u.putFrame id f) = a := (b.frames u _).trans h

theorem writeCell (h : g u = a) (id : Nat) : g (u.writeCell id) = a := by
  unfold State.writeCell
  split
  · exact h
  · extract_lets used
    split
    · split
      · exact b.putFrame h _ _
      · exact b.putFrame h _ _
    · split
      · next f _ _ _ _ c j _ =>
        extract_lets v
        exact (b.swc v _).trans (b.putFrame h _ _)
      · exact b.putFrame h _ _

theorem writeCells (h : g u = a) (id n : Nat) : g (u.writeCells id n) = a := by
  induction n generalizing u with
  | zero => exact h
  | succ n ih => exact ih (b.writeCell h id)

theorem updFrame (h : g u = a) (id : Nat) (f : Machine.Frame → Machine.Frame) : g (u.updFrame id f) = a := by
  unfold State.updFrame
  split
  · exact b.putFrame h _ _
  · exact h

/-! ## Enqueueing -/

theorem choosePool (h : g u = a) (f : Machine.Frame) (q n : Nat) (l m o : Bool) : g (u.choosePool f q n l m o).1 = a := by
  unfold State.choosePool
  extract_lets hr sp v x w
  have hw : g w = a := view_ite ((b.swc v _).trans (b.count h _)) h
  split
  · exact h
  · split
    · exact h
    · split
      · exact h
      · split
        · exact (b.swc u _).trans h
        · split
          · exact hw
          · exact hw

theorem addReplica (h : g u = a) (id : Nat) (f : Machine.Frame) (q : Nat) (p : Pool) (l : Bool) (n : Nat) : g (u.addReplica id f q p l n) = a := by
  unfold State.addReplica
  extract_lets f' sp st ct bad r dc x
  calc g _ = g { u with frames := sinsert u.frames id f', reps := sinsert u.reps u.nextRep r, nextRep := u.nextRep + 1 } :=
        b.swc { u with frames := sinsert u.frames id f', reps := sinsert u.reps u.nextRep r, nextRep := u.nextRep + 1 } _
    _ = g { u with frames := sinsert u.frames id f', reps := sinsert u.reps u.nextRep r } :=
        b.nextRep { u with frames := sinsert u.frames id f', reps := sinsert u.reps u.nextRep r } _
    _ = g { u with frames := sinsert u.frames id f' } := b.reps { u with frames := sinsert u.frames id f' } _
    _ = g u := b.frames u _
    _ = a := h

theorem testPools (h : g u = a) (id q : Nat) (f : Machine.Frame) (l m o : Bool) : g (u.testPools id q f l m o).1 = a := by
  unfold State.testPools
  extract_lets n r
  have hr : g r.1 = a := b.choosePool h ..
  split
  · exact b.addReplica hr _ _ _ _ _ _
  · exact hr

theorem redTest (h : g u = a) (f : Machine.Frame) (q : Nat) : g (u.redTest f q).1 = a := (b.swc u _).trans h

theorem enqueueOne (h : g u = a) (id q : Nat) (m : Bool) : g (u.enqueueOne id q m).1 = a := by
  unfold State.enqueueOne
  split
  · exact h
  · next f _ =>
    extract_lets e n l full r
    have hr : g r.1 = a := b.redTest h f q
    split
    · exact b.count h _
    · split
      · exact b.count h _
      · split
        · exact b.count (b.count h _) _
        · split
          · split
            · exact b.count hr _
            · exact b.testPools hr ..
          · exact b.testPools h ..

theorem dropFull (h : g u = a) (q : Nat) (l : Bool) : g (u.dropFull q l) = a := by
  unfold State.dropFull
  extract_lets low v w
  have hv : g v = a := b.count h _
  have hw : g w = a := view_ite (b.count hv _) hv
  exact view_ite (b.count hw _) hw

theorem enqueueAll (h : g u = a) (id : Nat) (m : Bool) (qs : List Nat) : g (u.enqueueAll id m qs).1 = a := by
  induction qs generalizing u with
  | nil => exact h
  | cons q qs ih => exact ih (b.enqueueOne h id q m)

theorem countNoReplica (h : g u = a) (f : Machine.Frame) : g (u.countNoReplica f) = a := by
  unfold State.countNoReplica
  refine view_ite h ?_
  split
  · exact b.countDrop h _ _
  · exact b.countDrop h _ _
  · exact h

end EnqueueBlind

/-- The view does not see what the path of a frame changes. -/
structure PathBlind (g : State → α) : Prop extends Blind g where
  frames : ∀ (u : State) x, g { u with frames := x } = g u
  nextRep : ∀ (u : State) x, g { u with nextRep := x } = g u
  rings : ∀ (u : State) x, g { u with rings := x } = g u
  ports : ∀ (u : State) x, g { u with ports := x } = g u
  swc : ∀ (u : State) x, g { u with swc := x } = g u
  st0 : ∀ (u : State) x, g { u with st0 := x } = g u
  st1 : ∀ (u : State) x, g { u with st1 := x } = g u
  rows : ∀ (u : State) x, g { u with rows := x } = g u
  fwd : ∀ (u : State) x, g { u with fwd := x } = g u

namespace PathBlind

variable (b : PathBlind g)
include b

theorem setFld (h : g u = a) (r : Reg) (f : Fld) (x : Nat) : g (u.setFld r f x) = a :=
  (b.signals u (u.setFld r f x).regs (u.setFld r f x).masked u.cnt u.hlt u.irq u.out).trans h

theorem put (h : g u = a) (r : Reg) (x : Word) : g (u.put r x) = a :=
  (b.signals u (u.put r x).regs (u.put r x).masked u.cnt u.hlt u.irq u.out).trans h

theorem count (h : g u = a) (id : Nat) : g (u.count id) = a := (b.signals u u.regs u.masked (u.count id).cnt u.hlt u.irq u.out).trans h

theorem emit (h : g u = a) (o : Output) : g (u.emit o) = a := (b.signals u u.regs u.masked u.cnt u.hlt u.irq (u.emit o).out).trans h

theorem putFrame (h : g u = a) (id : Nat) (f : Machine.Frame) : g (u.putFrame id f) = a := (b.frames u _).trans h

theorem putRep (h : g u = a) (k : Nat) (r : Replica) : g (u.putRep k r) = a := (b.reps u _).trans h

theorem putRing (h : g u = a) (x : Nat) (r : Machine.Ring) : g (u.putRing x r) = a := (b.rings u _).trans h

theorem putPortSt (h : g u = a) (p : Nat) (x : PortSt) : g (u.putPortSt p x) = a := (b.ports u _).trans h

theorem enqueue : EnqueueBlind g :=
  ⟨fun u x => b.signals u u.regs u.masked x u.hlt u.irq u.out, b.frames, b.reps, b.nextRep, b.swc⟩

/-! ## Pause and epochs -/

theorem pauseTest (h : g u = a) (p i occ : Nat) : g (u.pauseTest p i occ) = a := by
  unfold State.pauseTest
  extract_lets st
  have hx (v : Nat) (m : Nat) (x : Bool) : g ((u.setFld (.PRT_PFC_STATUS p) F.PRT_PFC_STATUS_TX_XOFF v).pauseDue p m x) = a :=
    b.putPortSt (b.setFld h _ _ _) _ _
  exact view_ite (view_ite (hx ..) h) (view_ite (hx ..) h)

theorem pauseEval (h : g u = a) (p : Nat) : g (u.pauseEval p) = a := by
  unfold State.pauseEval
  split
  · exact h
  · split
    · exact b.pauseTest h _ _ _
    · exact view_foldl h fun w i hw => view_ite (b.pauseTest hw _ _ _) hw
    · exact h

theorem checkEpoch (h : g u = a) : g u.checkEpoch = a := by
  refine view_ite ?_ h
  obtain ⟨rows, fwd, he⟩ := endEpoch_eq u
  have hw := b.setFld h .STW_EPOCH_STATUS F.STW_EPOCH_STATUS_RETIRED_LIVE 0
  rw [he]
  generalize u.setFld .STW_EPOCH_STATUS F.STW_EPOCH_STATUS_RETIRED_LIVE 0 = w at hw
  generalize (banksAlike u).st0 = x
  generalize (banksAlike u).st1 = y
  calc g { w with st0 := x, st1 := y, rows := rows, fwd := fwd }
      = g { w with st0 := x, st1 := y, rows := rows } := b.fwd { w with st0 := x, st1 := y, rows := rows } fwd
    _ = g { w with st0 := x, st1 := y } := b.rows { w with st0 := x, st1 := y } rows
    _ = g { w with st0 := x } := b.st1 { w with st0 := x } y
    _ = g w := b.st0 w x
    _ = a := hw

/-! ## Frames that leave, and replicas -/

theorem txDone (h : g u = a) (id : Nat) : g (u.txDone id) = a := (b.rings u _).trans h

theorem frameYields (h : g u = a) : g u.frameYields = a :=
  frameYields_keeps (P := fun w => g w = a) h (fun _ _ _ hw => b.putRep hw _ _) (fun _ hw => b.count hw _) fun _ hw => b.count hw _

theorem frameGone (h : g u = a) (id : Nat) : g (u.frameGone id) = a := by
  unfold State.frameGone
  split
  · exact h
  · next f _ =>
    have h1 : g (u.txDone id) = a := b.txDone h id
    have h2 : g (if f.fromHost && f.stage != Stage.queued then (u.txDone id).count (C.txFrames f.port) else u.txDone id) = a :=
      view_ite (b.count h1 _) h1
    extract_lets v w x y
    have h3 : g x = a := view_ite ((b.frames w _).trans h2) (b.putFrame h2 _ _)
    exact b.checkEpoch (view_ite h3 (b.pauseEval h3 _))

theorem checkGone (h : g u = a) (id : Nat) : g (u.checkGone id) = a := view_ite (b.frameGone h id) h

theorem release (h : g u = a) (k : Nat) : g (u.release k) = a := by
  unfold State.release
  split
  · exact h
  · next r _ =>
    extract_lets v w x
    have hv : g v = a := view_ite (b.frameYields h) h
    have hw : g w = a := (b.reps v _).trans hv
    exact b.checkGone (view_ite (b.txDone hw _) hw) _

theorem stompRep (h : g u = a) (k : Nat) : g (u.stompRep k) = a := by
  unfold State.stompRep
  split
  · exact h
  · exact b.release (b.count (b.emit h _) _) _

theorem killReplicas (h : g u = a) (id : Nat) : g (u.killReplicas id) = a :=
  view_foldl h fun _ _ hw => view_ite (b.stompRep hw _) (b.release hw _)

/-! ## Enqueueing -/

theorem hostEnqueue (h : g u = a) (id : Nat) (c : Nat × Nat) : g (u.hostEnqueue id c) = a := by
  unfold State.hostEnqueue
  split
  · exact h
  · exact view_ite (b.putRing (b.putFrame h _ _) _ _) (b.count h _)

theorem txAdmitted (h : g u = a) (id : Nat) (x : Bool) : g (u.txAdmitted id x) = a := (b.rings u _).trans h

theorem settleEnqueue (h : g u = a) (id : Nat) : g (u.settleEnqueue id) = a := by
  unfold State.settleEnqueue
  split
  · exact h
  · next f _ =>
    extract_lets v w
    have hv : g v = a := b.putFrame h _ _
    have hw : g w = a := b.enqueue.updFrame (b.enqueue.writeCells hv _ _) _ _
    exact view_ite (b.frameGone hv _) (view_ite (view_ite (view_foldl hw fun _ _ hx => b.count hx _) hw) (b.pauseEval (b.enqueue.writeCell hv _) _))

theorem enqueueFrame (h : g u = a) (id : Nat) (f : Machine.Frame) (m : Bool) : g (u.enqueueFrame id f m) = a := by
  unfold State.enqueueFrame
  extract_lets qs v r l w
  have hr : g r.1 = a := b.enqueue.enqueueAll (b.enqueue.countNoReplica h f) id m _
  have hw : g w = a := view_foldl hr fun _ _ hx => b.enqueue.dropFull hx _ _
  exact b.settleEnqueue (view_foldl hw fun _ _ hx => b.hostEnqueue hx _ _) id

end PathBlind

end Sys2Proof
end

section
/-! PROOF. Messages that the PTP engine sends (R335, R336, R338, R379): their fields, and the commands. -/
namespace Sys2Proof

open Sys2Proof.Machine

set_option Elab.async false

variable {s u : State} {p : Nat}

/-! ## Fields in a list of bytes -/

@[simp] theorem beBytes_length (n v : Nat) : (beBytes n v).length = n := by simp [beBytes]

theorem byteAt_drop (w : List Byte) (o i : Nat) : byteAt (w.drop o) i = byteAt w (o + i) := by
  simp [byteAt, List.getD_eq_getElem?_getD, List.getElem?_drop]

theorem beAt_drop (w : List Byte) (o n : Nat) : beAt w o n = beAt (w.drop o) 0 n := by
  induction n with
  | zero => rfl
  | succ n ih => rw [beAt, beAt, ih, byteAt_drop, Nat.zero_add]

/-- The bytes before a field are passed over. -/
theorem drop_chunk {n o : Nat} (h : n ≤ o) (v : Nat) (r : List Byte) : (beBytes n v ++ r).drop o = r.drop (o - n) := by
  rw [List.drop_append, List.drop_eq_nil_of_le (by simpa using h), beBytes_length, List.nil_append]

theorem byteAt_chunk {n i : Nat} (h : i < n) (v : Nat) (r : List Byte) : byteAt (beBytes n v ++ r) i = v / 2 ^ (8 * (n - 1 - i)) % 256 := by
  rw [byteAt, List.getD_append _ _ _ _ (by simpa using h)]
  simp [beBytes, List.getD_eq_getElem?_getD, h]

/-- A field read at its own place, up to its first `k` bytes. -/
theorem beAt_chunk_upto (n v : Nat) (r : List Byte) {k : Nat} (h : k ≤ n) : beAt (beBytes n v ++ r) 0 k = v / 2 ^ (8 * (n - k)) % 2 ^ (8 * k) := by
  induction k with
  | zero => simp [beAt, Nat.mod_one]
  | succ k ih =>
    have hpow : v / 2 ^ (8 * (n - k)) = v / 2 ^ (8 * (n - (k + 1))) / 256 := by
      rw [Nat.div_div_eq_div_mul, show 8 * (n - k) = 8 * (n - (k + 1)) + 8 by omega, pow_add, show (2 : Nat) ^ 8 = 256 from rfl]
    have hi : n - 1 - (0 + k) = n - (k + 1) := by omega
    rw [beAt, ih (by omega), byteAt_chunk (by omega), hi, hpow]
    generalize v / 2 ^ (8 * (n - (k + 1))) = x
    rw [show 8 * (k + 1) = 8 + 8 * k by omega, pow_add, Nat.mod_mul, show (2 : Nat) ^ 8 = 256 from rfl]
    omega

theorem beAt_chunk (n v : Nat) (r : List Byte) : beAt (beBytes n v ++ r) 0 n = v % 2 ^ (8 * n) := by
  rw [beAt_chunk_upto n v r le_rfl, Nat.sub_self, Nat.mul_zero, pow_zero, Nat.div_one]

/-- The fields of a message in their order, and what follows them. -/
def ptpChunks (s : State) (p : Nat) (m : PtpHead) (body tail : List Byte) : List Byte :=
  beBytes 6 (if s.ptpFld p F.TIM_PTP_PORT_DEST = 0 then 0x011B19000000 else 0x0180C200000E) ++ (beBytes 6 (s.portMac p) ++ (beBytes 2 0x88F7 ++
    (beBytes 1 m.type ++ (beBytes 1 0x12 ++ (beBytes 2 (34 + body.length) ++ (beBytes 1 (s.cFld .TIM_PTP_CFG F.TIM_PTP_CFG_DOMAIN) ++
      (beBytes 1 0 ++ (beBytes 2 m.flags ++ (beBytes 8 m.cf ++ (beBytes 4 0 ++ (beBytes 10 (s.portId p) ++ (beBytes 2 m.seq ++
        (beBytes 1 m.control ++ (beBytes 1 m.log ++ (body ++ tail)))))))))))))))

theorem ptpFrame_chunks (s : State) (p : Nat) (m : PtpHead) (body : List Byte) : ∃ tail, s.ptpFrame p m body = ptpChunks s p m body tail := by
  have hseal (x : List Byte) : ∃ tail, sealFrame x = x ++ tail := ⟨_, List.append_assoc ..⟩
  unfold State.ptpFrame ptpChunks
  extract_lets dest
  obtain ⟨tail, ht⟩ := hseal (beBytes 6 dest ++ beBytes 6 (s.portMac p) ++ beBytes 2 0x88F7 ++ beBytes 1 m.type ++ beBytes 1 0x12 ++
    beBytes 2 (34 + body.length) ++ beBytes 1 (s.cFld .TIM_PTP_CFG F.TIM_PTP_CFG_DOMAIN) ++ beBytes 1 0 ++ beBytes 2 m.flags ++ beBytes 8 m.cf ++
    beBytes 4 0 ++ beBytes 10 (s.portId p) ++ beBytes 2 m.seq ++ beBytes 1 m.control ++ beBytes 1 m.log ++ body)
  refine ⟨tail, ht.trans ?_⟩
  simp only [List.append_assoc]
  rfl

theorem ptpFrame_fields (s : State) (p : Nat) (m : PtpHead) (body : List Byte) (hl : body.length < 1400) :
    let b := s.ptpFrame p m body
    beAt b 12 2 = 0x88F7 ∧ beAt b 14 1 = m.type % 256 ∧ beAt b 16 2 = 34 + body.length ∧
      beAt b 20 2 = m.flags % 65536 ∧ beAt b 44 2 = m.seq % 65536 ∧ beAt b 47 1 = m.log % 256 ∧
      beAt b 34 10 = s.portId p % 2 ^ 80 ∧ (b.drop 48).take body.length = body := by
  obtain ⟨tail, hb⟩ := ptpFrame_chunks s p m body
  dsimp only
  rw [hb]
  unfold ptpChunks
  simp (disch := decide) only [beAt_drop _ 12, beAt_drop _ 14, beAt_drop _ 16, beAt_drop _ 20, beAt_drop _ 44, beAt_drop _ 47, beAt_drop _ 34,
    drop_chunk, Nat.reduceSub, List.drop_zero, beAt_chunk]
  exact ⟨rfl, rfl, Nat.mod_eq_of_lt (by omega), rfl, rfl, rfl, trivial, List.take_left⟩

/-! ## The commands -/

theorem mayTransmit_iff (s : State) (p : Nat) : s.mayTransmit p = true ↔
    s.running = true ∧ s.isPort p = true ∧ s.ptpRole p = 1 ∧ s.qualified = true ∧ s.engineOn = true := by
  simp [State.mayTransmit, and_assoc]

theorem exec_ptpSyncTx (h : s.mayTransmit p = true) : exec (.ptpSyncTx p) s = .next
    ((s.putPtp p { s.ptpPort p with seqSync := ((s.ptpPort p).seqSync + 1) % 65536 }).engineSend p
      (s.ptpFrame p ⟨0, if s.ptpFld p F.TIM_PTP_PORT_ONE_STEP = 0 then 0x200 else 0, 0, (s.ptpPort p).seqSync, 0,
        logByte (s.ptpFld p F.TIM_PTP_PORT_LOG_SYNC)⟩ (beBytes 10 0))) := by
  have hx : exec (.ptpSyncTx p) s = execPtpSyncTx p s := rfl
  have hflags : (if (s.ptpFld p F.TIM_PTP_PORT_ONE_STEP == 0) = true then 0x200 else 0) =
      if s.ptpFld p F.TIM_PTP_PORT_ONE_STEP = 0 then 0x200 else 0 := if_congr beq_iff_eq rfl rfl
  rw [hx, execPtpSyncTx, if_neg (by simp [h]), ← hflags]

theorem exec_ptpFollowUpTx (h : s.mayTransmit p = true) {seq : Nat} {n : Int} (hf : (s.ptpPort p).fup = some (seq, n)) :
    exec (.ptpFollowUpTx p) s = .next ((s.putPtp p { s.ptpPort p with fup := none }).engineSend p
      (s.ptpFrame p ⟨8, 0, (ptpTime n).2.2, seq, 2, logByte (s.ptpFld p F.TIM_PTP_PORT_LOG_SYNC)⟩ (timeBytes n))) := by
  have hx : exec (.ptpFollowUpTx p) s = execPtpFollowUpTx p s := rfl
  rw [hx, execPtpFollowUpTx, hf]
  exact congrArg _ (if_neg (by simp [h]))

theorem exec_ptpFollowUpTx_none (hf : (s.ptpPort p).fup = none) : exec (.ptpFollowUpTx p) s = .next s := by
  have hx : exec (.ptpFollowUpTx p) s = execPtpFollowUpTx p s := rfl
  rw [hx, execPtpFollowUpTx, hf]

theorem exec_ptpDelayRespTx (h : s.mayTransmit p = true) {r : RespDue} {rest : List RespDue} (hr : (s.ptpPort p).resps = r :: rest) :
    exec (.ptpDelayRespTx p) s = .next ((s.putPtp p { s.ptpPort p with resps := rest }).engineSend p
      (s.ptpFrame p ⟨9, 0, ((r.cf - (ptpTime r.t4).2.2) % 2 ^ 64).toNat, r.seq, 3, logByte (s.ptpFld p F.TIM_PTP_PORT_LOG_DREQ)⟩
        (timeBytes r.t4 ++ beBytes 10 r.req))) := by
  have hx : exec (.ptpDelayRespTx p) s = execPtpDelayRespTx p s := rfl
  rw [hx, execPtpDelayRespTx, hr]
  exact congrArg _ (if_neg (by simp [h]))

theorem exec_ptpDelayRespTx_none (hr : (s.ptpPort p).resps = []) : exec (.ptpDelayRespTx p) s = .next s := by
  have hx : exec (.ptpDelayRespTx p) s = execPtpDelayRespTx p s := rfl
  rw [hx, execPtpDelayRespTx, hr]

theorem exec_ptpDelayReqTx (h1 : s.running = true) (h2 : s.isPort p = true) (h3 : s.ptpRole p = 2) : exec (.ptpDelayReqTx p) s = .next
    ((s.putPtp p { s.ptpPort p with
      seqReq := ((s.ptpPort p).seqReq + 1) % 65536, req := some ((s.ptpPort p).seqReq, s.tim.tick, none) }).engineSend p
        (s.ptpFrame p ⟨1, 0, 0, (s.ptpPort p).seqReq, 1, 0x7F⟩ (beBytes 10 0))) := by
  have hx : exec (.ptpDelayReqTx p) s = execPtpDelayReqTx p s := rfl
  rw [hx, execPtpDelayReqTx, if_neg (by simp [h1, h2, h3])]

/-- The flags and the body of an Announce (R379). -/
def annFlags (s : State) : Nat :=
  s.fld .TIM_PTP_UTC F.TIM_PTP_UTC_LEAP61 + 2 * s.fld .TIM_PTP_UTC F.TIM_PTP_UTC_LEAP59 + 4 * s.fld .TIM_PTP_UTC F.TIM_PTP_UTC_UTC_VALID + 8

def annBody (s : State) : List Byte :=
  beBytes 10 0 ++ beBytes 2 (s.fld .TIM_PTP_UTC F.TIM_PTP_UTC_UTC_OFFSET) ++ beBytes 1 0 ++ beBytes 1 s.annFields.prio1 ++
    beBytes 1 s.annFields.cls ++ beBytes 1 s.annFields.acc ++ beBytes 2 s.annFields.var ++ beBytes 1 s.annFields.prio2 ++
    beBytes 8 s.annFields.gm ++ beBytes 2 s.annFields.steps ++ beBytes 1 s.annFields.tsrc

theorem exec_ptpAnnounceTx (h : s.mayTransmit p = true) : exec (.ptpAnnounceTx p) s = .next
    ((s.putPtp p { s.ptpPort p with seqAnn := ((s.ptpPort p).seqAnn + 1) % 65536 }).engineSend p
      (s.ptpFrame p ⟨11, annFlags s, 0, (s.ptpPort p).seqAnn, 5, logByte (s.ptpFld p F.TIM_PTP_PORT_LOG_ANN)⟩ (annBody s))) := by
  have hx : exec (.ptpAnnounceTx p) s = execPtpAnnounceTx p s := rfl
  rw [hx, execPtpAnnounceTx, if_neg (by simp [h])]
  rfl

theorem annBody_fields (s : State) : (annBody s).length = 30 ∧ (annBody s).getD 14 0 = BitVec.ofNat 8 s.annFields.cls ∧
    (annBody s).getD 13 0 = BitVec.ofNat 8 s.annFields.prio1 := by
  refine ⟨by simp [annBody], ?_, ?_⟩
  · simp [annBody, beBytes, List.range_succ]
  · simp [annBody, beBytes, List.range_succ]

theorem exec_ptpSignalingTx (h : s.mayTransmit p = true) (ha : s.ptpFld p F.TIM_PTP_PORT_HA = 1) : exec (.ptpSignalingTx p) s = .next
    ((s.putPtp p { s.ptpPort p with seqSig := ((s.ptpPort p).seqSig + 1) % 65536 }).engineSend p
      (s.ptpFrame p ⟨12, 0, 0, (s.ptpPort p).seqSig, 5, 0x7F⟩ (beBytes 10 (2 ^ 80 - 1) ++ beBytes 2 0x8001 ++ beBytes 2 2 ++
        beBytes 1 (s.l1Flags p).1 ++ beBytes 1 (s.l1Flags p).2))) := by
  have hx : exec (.ptpSignalingTx p) s = execPtpSignalingTx p s := rfl
  obtain ⟨-, -, hrole, -⟩ := (mayTransmit_iff s p).mp h
  rw [hx, execPtpSignalingTx]
  exact congrArg _ (if_neg (by simp [hrole, h, ha]))

theorem exec_ptpSignalingTx_off (ha : s.ptpFld p F.TIM_PTP_PORT_HA = 0) : exec (.ptpSignalingTx p) s = .next s := by
  have hx : exec (.ptpSignalingTx p) s = execPtpSignalingTx p s := rfl
  rw [hx, execPtpSignalingTx]
  exact congrArg _ (if_pos (by simp [ha]))

theorem nextFrame_blind : PathBlind State.nextFrame :=
  ⟨⟨fun _ _ _ _ _ _ _ => rfl, fun _ _ => rfl, fun _ _ => rfl⟩, fun _ _ => rfl, fun _ _ => rfl, fun _ _ => rfl, fun _ _ => rfl, fun _ _ => rfl,
    fun _ _ => rfl, fun _ _ => rfl, fun _ _ => rfl, fun _ _ => rfl⟩

/-- A message of the engine takes the next frame number. -/
theorem engineSend_nextFrame (u : State) (p : Nat) (b : List Byte) : (u.engineSend p b).nextFrame = u.nextFrame + 1 := by
  unfold State.engineSend
  extract_lets f f' id
  exact nextFrame_blind.enqueueFrame (u := { u with frames := sinsert u.frames id f', nextFrame := id + 1 }) rfl id f' true

/-- Settles O45: each command is the branch of its role, and the fields of a message lie where its bytes are dealt out. -/
theorem ptpMessagesSent : Obligations.PtpMessagesSent := by
  unfold Obligations.PtpMessagesSent
  refine ⟨fun s p h => ⟨⟨_, exec_ptpSyncTx h, rfl⟩, fun seq n hf => exec_ptpFollowUpTx h hf, exec_ptpFollowUpTx_none,
    fun r rest hr => exec_ptpDelayRespTx h hr, exec_ptpDelayRespTx_none, ⟨annBody s, annFlags s, ?_⟩, exec_ptpSignalingTx h, exec_ptpSignalingTx_off⟩,
    fun s p h1 h2 h3 => exec_ptpDelayReqTx h1 h2 h3, fun s p h => ?_, mayTransmit_iff, engineSend_nextFrame,
    fun s p m body hl => ptpFrame_fields s p m body hl⟩
  · obtain ⟨h1, h2, h3⟩ := annBody_fields s
    exact ⟨h1, exec_ptpAnnounceTx h, h2, h3⟩
  · have hs : exec (.ptpSyncTx p) s = execPtpSyncTx p s := rfl
    have ha : exec (.ptpAnnounceTx p) s = execPtpAnnounceTx p s := rfl
    have hd : exec (.ptpDelayReqTx p) s = execPtpDelayReqTx p s := rfl
    refine ⟨?_, ?_, fun hr => ?_⟩
    · rw [hs, execPtpSyncTx, if_pos (by simp [h])]
    · rw [ha, execPtpAnnounceTx, if_pos (by simp [h])]
    · rw [hd, execPtpDelayReqTx, if_pos (by simp [hr])]

end Sys2Proof
end

section
/-! PROOF. Messages that the PTP engine receives (R334, R336 to R338). -/
namespace Sys2Proof

open Sys2Proof.Machine

set_option Elab.async false

variable {s u : State} {p o : Nat} {f : Machine.Frame}

/-! ## Reception -/

theorem ptpReceive_taken {id : Nat} (h : s.ptpTaken id = some (f, o)) (ty : Nat → Bool) (roles : List Nat) (use : State → Machine.Frame → Nat → State) :
    s.ptpReceive id ty roles use = if ty (byteAt f.bytes o % 16) = true then
      (if roles.contains (s.roleOf f) then use (s.count (C.ptpRx f.port)) f o else (s.count (C.ptpRx f.port)).count (C.ptpIgnored f.port)).frameGone id
      else s := by
  have hrole : (s.count (C.ptpRx f.port)).roleOf f = s.roleOf f := rfl
  unfold State.ptpReceive
  simp only [h, hrole]
  cases ty (byteAt f.bytes o % 16) <;> rfl

theorem ptpReceive_none {id : Nat} (h : s.ptpTaken id = none) (ty : Nat → Bool) (roles : List Nat) (use : State → Machine.Frame → Nat → State) :
    s.ptpReceive id ty roles use = s := by
  unfold State.ptpReceive
  simp only [h]

/-- What becomes of a message that its port's role uses, or not. -/
def ptpDone (s : State) (id : Nat) (f : Machine.Frame) (used : Bool) (v : State) : State :=
  (if used then v else (s.count (C.ptpRx f.port)).count (C.ptpIgnored f.port)).frameGone id

theorem ptpReceive_of_type {id : Nat} (h : s.ptpTaken id = some (f, o)) {ty : Nat → Bool} (ht : ty (byteAt f.bytes o % 16) = true)
    {roles : List Nat} {used : Bool} (hu : roles.contains (s.roleOf f) = used) (use : State → Machine.Frame → Nat → State) :
    s.ptpReceive id ty roles use = ptpDone s id f used (use (s.count (C.ptpRx f.port)) f o) := by
  rw [ptpReceive_taken h, if_pos ht, hu]
  rfl

theorem exec_ptpSignalingRx {id : Nat} (h : s.ptpTaken id = some (f, o)) : exec (.ptpSignalingRx id) s = .next
    (s.ptpReceive id (fun t => !(([0, 1, 8, 9, 11] : List Nat).contains t)) (if byteAt f.bytes o % 16 = 12 then [1, 2] else []) State.useSignaling) := by
  have hx : exec (.ptpSignalingRx id) s = execPtpSignalingRx id s := rfl
  rw [hx, execPtpSignalingRx]
  simp only [h]

theorem contains_one (a r : Nat) : ([a] : List Nat).contains r = (r == a) := by
  simp only [List.contains_cons, List.contains_nil, Bool.or_false]

theorem contains_two (a b r : Nat) : ([a, b] : List Nat).contains r = (r == a || r == b) := by
  simp only [List.contains_cons, List.contains_nil, Bool.or_false]

/-! ## What each message leaves -/

theorem ptpPort_putPtp (h : skeysFrom none u.tim.ptp = true) (p : Nat) (x : PtpPort) : (u.putPtp p x).ptpPort p = x := sgetD_sput_self _ _ _ _ h

theorem useFollowUp_match {y : SyncIn} (h : (u.ptpPort f.port).sync = some y) : u.useFollowUp f o =
    if y.t1 = none ∧ y.seq = beAt f.bytes (o + 30) 2 ∧ y.src = beAt f.bytes (o + 20) 10 then
      u.putPtp f.port { u.ptpPort f.port with sync := some { y with t1 := some (tsAt f.bytes (o + 34)), cS := y.cS + cfOf f.bytes o } }
    else u := by
  unfold State.useFollowUp
  extract_lets x
  simp only [show x.sync = some y from h]
  exact if_congr (by simp [and_assoc]) rfl rfl

theorem tick1Free_stores (u : State) : u.tick1Free.regs = u.regs := rfl

/-- The state of layer 1 that a message of the partner leads to. -/
theorem useSignaling_l1 (hs : StoresCanonical u) (h1 : beAt f.bytes (o + 44) 2 = 0x8001) (h2 : u.l1Enabled f.port = true) :
    let old := u.fld (.TIM_PORT_STATUS f.port) F.TIM_PORT_STATUS_L1_STATE
    let l := (u.useSignaling f o).fld (.TIM_PORT_STATUS f.port) F.TIM_PORT_STATUS_L1_STATE
    (old ≤ 1 → l = 2) ∧ (old = 2 → l = 2 ∨ l = 3) ∧ (3 ≤ old → 2 ≤ l ∧ l ≤ 4) := by
  intro old l
  have hset (w : State) (hw : w.regsOk) {n : Nat} (hn : n < 8) : (w.setL1 f.port n).fld (.TIM_PORT_STATUS f.port) F.TIM_PORT_STATUS_L1_STATE = n :=
    fld_setFld_lt hw (by decide) hn
  have hc : ¬ (beAt f.bytes (o + 44) 2 ≠ 0x8001 ∨ (!u.l1Enabled f.port) = true) := by simp [h1, h2]
  have he : u.useSignaling f o = match old with
    | 0 => u.setL1 f.port 2
    | 1 => u.setL1 f.port 2
    | 2 => u.tick1Free.setL1 f.port (2 + Config.freeNat u.free % 2)
    | _ => u.tick1Free.setL1 f.port (2 + Config.freeNat u.free % 3) := if_neg hc
  have hl : l = (u.useSignaling f o).fld (.TIM_PORT_STATUS f.port) F.TIM_PORT_STATUS_L1_STATE := rfl
  rw [he] at hl
  clear_value l old
  have hfree : u.tick1Free.regsOk := hs.regs
  split at hl
  · rw [hset u hs.regs (by decide)] at hl
    omega
  · rw [hset u hs.regs (by decide)] at hl
    omega
  · rw [hset _ hfree (by omega)] at hl
    omega
  · next h0 h1 h2 =>
    rw [hset _ hfree (by omega)] at hl
    refine ⟨fun h => absurd (show old ≠ 0 ∧ old ≠ 1 from ⟨h0, h1⟩) (by omega), fun h => absurd h h2, fun _ => by omega⟩

/-! ## An exchange -/

/-- The view of ports that a sample of an exchange does not see. -/
def exchangeView (s : State) : SMap PtpPort := s.tim.ptp

theorem exchangeView_blind : Blind exchangeView := ⟨fun _ _ _ _ _ _ _ => rfl, fun _ _ => rfl, fun _ _ => rfl⟩
theorem exchangeView_loop : BlindLoop exchangeView := ⟨⟨fun _ _ => rfl, fun _ _ _ => rfl⟩, fun _ _ => rfl, fun _ _ => rfl⟩

theorem ptpSample_leaves (u : State) (p : Nat) (x : Int) (since : Option Nat) :
    Leaves exchangeView strobeReg (fun _ => True) u (u.ptpSample p x since) := by
  have b := exchangeView_blind
  have bl := exchangeView_loop
  refine Leaves.refl.foldl fun w k _ hw => ?_
  refine .ite hw ?_
  have ha := hw.addSample b bl k w.t32 x
  refine .ite ha (.ite ?_ (ha.loopSample b bl.toBlindSel trivial trivial k x))
  exact .ite (ha.setSel b bl.toBlindSel _) ((ha.roundFree b _ _).setSel b bl.toBlindSel _)

theorem roundFree_half (s : State) (n : Int) : (2 * (s.roundFree n 2).2 - n).natAbs ≤ 1 := by
  obtain ⟨h1, h2⟩ := roundFree_near s n (d := 2) (by decide)
  simp only [Nat.cast_ofNat] at h1 h2
  omega

/-- The registers of port `p` with half the sums `n` (the delay) and `m` (the offset). -/
def exchangeShown (s : State) (p : Nat) (n m : Int) : State :=
  let rd := s.roundFree n 2
  let ro := rd.1.roundFree m 2
  (ro.1.put (.TIM_PTP_DELAY p) (satU32 rd.2)).put (.TIM_PTP_OFFSET p) (sat32 ro.2)

/-- Port `p` with its exchange over. -/
def exchangeOver (s : State) (p : Nat) : State := s.putPtp p { s.ptpPort p with req := none, exAt := some s.tim.tick }

theorem exchange_eq (u : State) (p : Nat) (y : SyncIn) (t1 t3 t4 cD : Int) : ∃ x since, u.exchange p y t1 t3 t4 cD =
    (exchangeOver (exchangeShown u p (y.t2 - t1 - y.cS + (t4 - t3 - cD))
      (y.t2 - t1 - y.cS - (t4 - t3 - cD) - 2 * (u.committed (.TIM_PORT_ASYM p)).toInt)) p).ptpSample p x since := ⟨_, _, rfl⟩

theorem exchangeShown_spec (hs : u.regsOk) (hlt : p < 1024) (n m : Int) : ∃ d off : Int,
    (exchangeShown u p n m).get (.TIM_PTP_DELAY p) = satU32 d ∧ (exchangeShown u p n m).get (.TIM_PTP_OFFSET p) = sat32 off ∧
    (2 * d - n).natAbs ≤ 1 ∧ (2 * off - m).natAbs ≤ 1 := by
  have hD : (Reg.TIM_PTP_DELAY p).indexOk = true := decide_eq_true hlt
  have hO : (Reg.TIM_PTP_OFFSET p).indexOk = true := decide_eq_true hlt
  refine ⟨(u.roundFree n 2).2, ((u.roundFree n 2).1.roundFree m 2).2, ?_, ?_, roundFree_half _ _, roundFree_half _ _⟩
  · refine (get_put_off hO hD nofun _).trans (State.get_put_self (s := ((u.roundFree n 2).1.roundFree m 2).1) _ _ hs)
  · exact State.get_put_self (s := ((u.roundFree n 2).1.roundFree m 2).1.put (.TIM_PTP_DELAY p) (satU32 _)) _ _
      (State.regsOk_put _ _ _ hs)

theorem exchangeShown_tim (u : State) (p : Nat) (n m : Int) : (exchangeShown u p n m).tim = u.tim := rfl

theorem exchangeOver_sample (u : State) (p : Nat) (x : Int) (since : Option Nat) :
    Leaves exchangeView strobeReg (fun _ => True) (exchangeOver u p) ((exchangeOver u p).ptpSample p x since) := ptpSample_leaves _ _ _ _

theorem exchangeOver_port (hp : skeysFrom none u.tim.ptp = true) (p : Nat) :
    (exchangeOver u p).ptpPort p = { u.ptpPort p with req := none, exAt := some u.tim.tick } := ptpPort_putPtp hp _ _

theorem exchangeOver_regs (u : State) (p : Nat) : (exchangeOver u p).regs = u.regs := rfl

theorem ptpPort_of_view {t v : State} (h : exchangeView t = exchangeView v) (p : Nat) : t.ptpPort p = v.ptpPort p :=
  congrArg (fun m => sgetD m p freshPtp) h

/-- A complete exchange shows its delay and offset. -/
theorem exchange_spec (hs : StoresCanonical u) (hp : skeysFrom none u.tim.ptp = true) (hlt : p < 1024) (y : SyncIn) (t1 t3 t4 cD : Int) {t : State}
    (ht : t = u.exchange p y t1 t3 t4 cD) :
    (t.ptpPort p).req = none ∧ (t.ptpPort p).exAt = some u.tim.tick ∧
    ∃ d off : Int, t.get (.TIM_PTP_DELAY p) = satU32 d ∧ t.get (.TIM_PTP_OFFSET p) = sat32 off ∧
      (2 * d - (y.t2 - t1 - y.cS + (t4 - t3 - cD))).natAbs ≤ 1 ∧
      (2 * off - (y.t2 - t1 - y.cS - (t4 - t3 - cD) - 2 * (u.committed (.TIM_PORT_ASYM p)).toInt)).natAbs ≤ 1 := by
  obtain ⟨x, since, he⟩ := exchange_eq u p y t1 t3 t4 cD
  rw [he] at ht
  generalize y.t2 - t1 - y.cS + (t4 - t3 - cD) = n at ht ⊢
  generalize y.t2 - t1 - y.cS - (t4 - t3 - cD) - 2 * (u.committed (.TIM_PORT_ASYM p)).toInt = m at ht ⊢
  obtain ⟨d, off, hd, ho, hdn, hon⟩ := exchangeShown_spec (p := p) hs.regs hlt n m
  have htim := exchangeShown_tim u p n m
  generalize exchangeShown u p n m = w at ht hd ho htim
  have hl := exchangeOver_sample w p x since
  rw [← ht] at hl
  have hport := (ptpPort_of_view hl.view p).trans (exchangeOver_port (by rw [htim]; exact hp) p)
  rw [htim] at hport
  refine ⟨congrArg PtpPort.req hport, congrArg PtpPort.exAt hport, d, off, ?_, ?_, hdn, hon⟩
  · exact (hl.regs.get (q := .TIM_PTP_DELAY p) (fun _ => strobeReg_indexOk) (decide_eq_true hlt) not_false).trans
      ((get_of_regs (exchangeOver_regs w p) _).trans hd)
  · exact (hl.regs.get (q := .TIM_PTP_OFFSET p) (fun _ => strobeReg_indexOk) (decide_eq_true hlt) not_false).trans
      ((get_of_regs (exchangeOver_regs w p) _).trans ho)

theorem pow2Log_sum (n : Nat) (hn : n < 16) {x : Nat} (hx : x ≤ 1000) : x * (pow2Log n).2 ≤ (pow2Log n).1 * 1000000000 := by
  unfold pow2Log
  split
  · have h1 : 1 ≤ 2 ^ n := Nat.one_le_two_pow
    dsimp only
    omega
  · have h2 : 2 ^ (16 - n) ≤ 2 ^ 8 := Nat.pow_le_pow_right (by decide) (by omega)
    dsimp only
    calc x * 2 ^ (16 - n) ≤ 1000 * 2 ^ 8 := Nat.mul_le_mul hx h2
      _ ≤ 1 * 1000000000 := by decide

theorem useDelayResp_match {y : SyncIn} {t1 t3 : Int} {sent : Nat} (hy : (u.ptpPort f.port).sync = some y) (h1 : y.t1 = some t1)
    (hr : (u.ptpPort f.port).req = some (beAt f.bytes (o + 30) 2, sent, some t3)) (hid : beAt f.bytes (o + 44) 10 = u.portId f.port)
    (hsent : u.tim.tick ≤ sent + 1000) :
    u.useDelayResp f o = u.exchange f.port y t1 t3 (tsAt f.bytes (o + 34)) (cfOf f.bytes o) := by
  have hlim := pow2Log_sum (u.ptpFld f.port F.TIM_PTP_PORT_LOG_DREQ) (Fld.get_lt _ _) (x := u.tim.tick - sent) (by omega)
  unfold State.useDelayResp
  extract_lets p x l
  simp only [show x.sync = some y from hy, h1, show x.req = some (beAt f.bytes (o + 30) 2, sent, some t3) from hr]
  exact if_pos ⟨trivial, hid, hlim⟩

/-! ## Timeouts -/

theorem exec_announceTimeout (hs : StoresCanonical s) (h1 : s.isPort p = true) (h2 : 2 ≤ s.ptpRole p) : ∃ t, exec (.announceTimeout p) s = .next t ∧
    t.fld (.TIM_PORT_STATUS p) F.TIM_PORT_STATUS_ANN_OK = 0 ∧ CountedOnce (C.ptpTimeouts p) s t ∧ Writes [.TIM_PORT_STATUS p] [C.ptpTimeouts p] s t := by
  have hx : exec (.announceTimeout p) s = execAnnounceTimeout p s := rfl
  refine ⟨(s.setFld (.TIM_PORT_STATUS p) F.TIM_PORT_STATUS_ANN_OK 0).count (C.ptpTimeouts p),
    by rw [hx, execAnnounceTimeout, if_pos ⟨h1, h2⟩], fld_setFld_lt hs.regs (by decide) (by decide),
    countedOnce_of_cnt (countedOnce_any s _) rfl, ?_⟩
  exact (Writes.refl.setFld (List.mem_singleton_self _) _ _).count (List.mem_singleton_self _)

/-- The state of layer 1 after its peer is lost. -/
def l1Lost (old : Nat) : Nat := if old = 4 then 2 else if old = 3 ∨ old = 2 then 1 else old

theorem exec_l1PeerTimeout (hs : StoresCanonical s) (h1 : s.isPort p = true) (h2 : 2 ≤ s.l1State p) (h4 : s.l1State p ≤ 4) :
    ∃ t, exec (.l1PeerTimeout p) s = .next t ∧
      t.fld (.TIM_PORT_STATUS p) F.TIM_PORT_STATUS_L1_STATE = (if s.l1State p = 4 then 2 else 1) ∧ Writes [.TIM_PORT_STATUS p] [] s t := by
  have hx : exec (.l1PeerTimeout p) s = .next (s.setL1 p (if s.l1State p = 4 then 2 else 1)) := by
    have hx : exec (.l1PeerTimeout p) s = execL1PeerTimeout p s := rfl
    rw [hx, execL1PeerTimeout, if_neg (by simp [h1])]
    refine congrArg _ ?_
    generalize s.l1State p = n at h2 h4
    have hn : n = 2 ∨ n = 3 ∨ n = 4 := by omega
    rcases hn with rfl | rfl | rfl <;> rfl
  refine ⟨_, hx, fld_setFld_lt hs.regs (by decide) (by split <;> decide), Writes.refl.setFld (List.mem_singleton_self _) _ _⟩

theorem exec_l1PeerTimeout_idle (h : s.isPort p = false ∨ s.l1State p < 2) : exec (.l1PeerTimeout p) s = .next s := by
  have hx : exec (.l1PeerTimeout p) s = execL1PeerTimeout p s := rfl
  rw [hx, execL1PeerTimeout]
  refine congrArg _ ?_
  split
  · rfl
  · next hp =>
    have hlt : s.l1State p < 2 := h.resolve_left (by simpa using hp)
    generalize s.l1State p = n at hlt
    have hn : n = 0 ∨ n = 1 := by omega
    rcases hn with rfl | rfl <;> rfl

/-- Settles O44: a message taken is counted and used by role, and each use is one store of its port. -/
theorem ptpMessagesReceived : Obligations.PtpMessagesReceived := by
  unfold Obligations.PtpMessagesReceived
  refine ⟨?_, ?_, ?_, ?_⟩
  · intro s id o f h ty u role out
    have hrx (code : Nat) (roles : List Nat) (use) {used : Bool} (hu : roles.contains role = used) (ht : ty = code) :
        Host.Outcome.next (s.ptpReceive id (· == code) roles use) = (.next (out used (use u f o)) : Answer) :=
      congrArg _ (ptpReceive_of_type h (ty := (· == code)) (beq_iff_eq.mpr ht) hu use)
    refine ⟨hrx 0 [2] State.useSync (contains_one ..), hrx 8 [2] State.useFollowUp (contains_one ..), hrx 1 [1] State.useDelayReq (contains_one ..),
      hrx 9 [2] State.useDelayResp (contains_one ..), hrx 11 [2, 3] State.useAnnounce (contains_two ..), fun ht => ?_,
      fun h0 h1 h8 h9 h11 h12 => ?_, fun h0 => ?_⟩
    · rw [exec_ptpSignalingRx h]
      have ht' : byteAt f.bytes o % 16 = 12 := ht
      exact congrArg _ (ptpReceive_of_type h (by rw [ht']; decide) ((congrArg (List.contains · role) (if_pos ht')).trans (contains_two 1 2 role)) _)
    · rw [exec_ptpSignalingRx h]
      have ht' : ¬ byteAt f.bytes o % 16 = 12 := h12
      refine congrArg _ (ptpReceive_of_type h ?_ (used := false) ((congrArg (List.contains · role) (if_neg ht')).trans rfl) _)
      have hty : byteAt f.bytes o % 16 = ty := rfl
      rw [hty]
      simp [h0, h1, h8, h9, h11]
    · have hx : exec (.ptpSyncRx id) s = .next (s.ptpReceive id (· == 0) [2] State.useSync) := rfl
      rw [hx, ptpReceive_taken h, if_neg (by simpa using h0)]
  · intro s id h
    have hx : exec (.ptpSyncRx id) s = .next (s.ptpReceive id (· == 0) [2] State.useSync) := rfl
    have ha : exec (.ptpAnnounceRx id) s = .next (s.ptpReceive id (· == 11) [2, 3] State.useAnnounce) := rfl
    rw [hx, ha, ptpReceive_none h, ptpReceive_none h]
    exact ⟨rfl, rfl⟩
  · intro u f o hs hp hlt x seq src
    refine ⟨congrArg PtpPort.sync (ptpPort_putPtp hp _ _), fun y hy => ⟨fun h1 h2 h3 => ?_, fun h => ?_⟩, congrArg PtpPort.resps (ptpPort_putPtp hp _ _),
      fun y t1 t3 sent hy h1 hr hid hsent => ?_, ?_, fun h => ?_, useSignaling_l1 hs⟩
    · rw [useFollowUp_match hy, if_pos ⟨h1, h2, h3⟩]
      exact congrArg PtpPort.sync (ptpPort_putPtp hp _ _)
    · rw [useFollowUp_match hy, if_neg]
      rintro ⟨h1, h2, h3⟩
      rcases h with h | h | h
      · exact h h1
      · exact h h2
      · exact h h3
    · rw [useDelayResp_match hy h1 hr hid hsent]
      exact exchange_spec hs hp hlt y t1 t3 _ _ rfl
    · exact fld_setFld_lt (s := u.putPtp f.port _) hs.regs (by decide) (by decide)
    · exact if_pos (by simpa using h)
  · intro s p hs
    refine ⟨exec_announceTimeout hs, fun h => ?_, exec_l1PeerTimeout hs, exec_l1PeerTimeout_idle⟩
    have hx : exec (.announceTimeout p) s = execAnnounceTimeout p s := rfl
    rw [hx, execAnnounceTimeout, if_neg]
    rintro ⟨h1, h2⟩
    rcases h with h | h
    · rw [h1] at h; cases h
    · omega

end Sys2Proof
end

section
/-! PROOF. Lookups in tier 1 and tier 2 (R240 to R242, R249 to R253, R267). -/
namespace Sys2Proof

open Sys2Proof.Machine

set_option Elab.async false

variable {s u v : State} {id : Nat} {f : Machine.Frame} {p : Parse}

/-! ## Learning at the lookup -/

theorem sinsert_sinsert {α : Type} (m : SMap α) (k : Nat) (v w : α) : sinsert (sinsert m k v) k w = sinsert m k w := by
  induction m with
  | nil => simp [sinsert]
  | cons e m ih =>
    obtain ⟨j, x⟩ := e
    rw [sinsert, sinsert]
    rcases Nat.lt_trichotomy k j with h | h | h
    · rw [if_pos h, if_pos h, sinsert, if_neg (Nat.lt_irrefl _), if_pos rfl]
    · rw [if_neg (by omega), if_pos h, if_neg (by omega), if_pos h, sinsert, if_neg (Nat.lt_irrefl _), if_pos rfl]
    · rw [if_neg (by omega), if_neg (by omega), if_neg (by omega), if_neg (by omega), sinsert, if_neg (by omega), if_neg (by omega), ih]

theorem putFrame_putFrame (s : State) (id : Nat) (f g : Machine.Frame) : (s.putFrame id f).putFrame id g = s.putFrame id g :=
  congrArg (fun m => { s with frames := m }) (sinsert_sinsert s.frames id f g)

theorem frame_putFrame_self (s : State) (id : Nat) (f : Machine.Frame) : (s.putFrame id f).frame id = some f := sfind_sinsert_self _ _ _

theorem queueLearn_frames (s : State) (key port : Nat) : (s.queueLearn key port).frames = s.frames := by
  unfold State.queueLearn
  split
  · rfl
  · split <;> rfl

/-- A frame that has ended good asks to be learned from. -/
theorem tryLearn_asks {k : Nat} (h1 : f.ended = true) (h2 : f.bad = false) :
    (s.putFrame id { f with learnKey := some k }).tryLearn id = (s.putFrame id { f with learnKey := none }).queueLearn k f.port := by
  unfold State.tryLearn
  simp only [frame_putFrame_self, h1, h2, Bool.not_false, Bool.and_self, if_pos]
  exact congrArg (fun w : State => w.queueLearn k f.port) (putFrame_putFrame s id _ _)

/-- Any other frame keeps its source key. -/
theorem tryLearn_keeps {o : Option Nat} (h : o = none ∨ f.ended = false ∨ f.bad = true) :
    (s.putFrame id { f with learnKey := o }).tryLearn id = s.putFrame id { f with learnKey := o } := by
  unfold State.tryLearn
  simp only [frame_putFrame_self]
  cases o with
  | none => rfl
  | some k =>
    have hc : (f.ended && !f.bad) = false := by
      rcases h with h | h | h
      · cases h
      · rw [h]; rfl
      · rw [h, Bool.not_true, Bool.and_false]
    exact if_neg (by simp only [hc, Bool.false_eq_true, not_false_eq_true])

/-- The state in which a frame is looked up, and the frame. -/
def atLookup (s : State) (id : Nat) (f : Machine.Frame) (p : Parse) : State := (s.putFrame id { f with learnKey := s.sourceKey f p }).tryLearn id

theorem atLookup_asks {k : Nat} (hk : s.sourceKey f p = some k) (h1 : f.ended = true) (h2 : f.bad = false) :
    atLookup s id f p = (s.putFrame id { f with learnKey := none }).queueLearn k f.port ∧
      ((atLookup s id f p).frame id).getD f = { f with learnKey := none } := by
  have h : atLookup s id f p = (s.putFrame id { f with learnKey := none }).queueLearn k f.port := by
    unfold atLookup
    rw [hk]
    exact tryLearn_asks h1 h2
  refine ⟨h, ?_⟩
  rw [h, State.frame, queueLearn_frames]
  exact congrArg (·.getD f) (frame_putFrame_self s id _)

theorem atLookup_keeps (h : s.sourceKey f p = none ∨ f.ended = false ∨ f.bad = true) :
    atLookup s id f p = s.putFrame id { f with learnKey := s.sourceKey f p } ∧
      ((atLookup s id f p).frame id).getD f = { f with learnKey := s.sourceKey f p } := by
  have h : atLookup s id f p = s.putFrame id { f with learnKey := s.sourceKey f p } := tryLearn_keeps h
  refine ⟨h, ?_⟩
  rw [h]
  exact congrArg (·.getD f) (frame_putFrame_self s id _)

/-! ## Tier 1 -/

/-- What the lookup of frame `f` in state `u` does, its key's type `kt`. -/
def lookedUp (u : State) (id : Nat) (f : Machine.Frame) (p : Parse) (k kt : Nat) (shorter : Option Nat) : State :=
  if kt = 0 then u.miss id f
  else match keyAddr kt p with
    | none => (u.count (C.keyInvalid f.slice)).miss id f
    | some a =>
      let key := fwdKey kt (u.domain f p k) a
      let w := u.t1Set key
      match t1Find w key f.sel with
      | some x =>
        let r := u.hitOp x.bucket
        if r.2 then ((r.1.count (C.t1Hits f.slice)).putT1 key (t1Touch w key)).applyHit id f x.resA x.resB
        else u.miss id f
      | none =>
        if !u.t2Up then (u.count C.t2Unavailable).miss id f
        else
          let want := shorter.getD (f.slice / 4) % 2
          let c := if u.copyUp want then want else u.mainCopy
          (u.count (C.t2Lookups f.slice)).putFrame id { f with stage := .tier2 c w.gen key }

theorem exec_lookup (hf : s.frame id = some f) (hp : f.parse = some p) (hst : f.stage = Stage.lookup) (shorter : Option Nat) :
    exec (.lookup id shorter) s = .next (if s.rstSet 5 8 2 = true ∨ 2048 ≤ s.t2Waiting f.slice then s
      else lookedUp (atLookup s id f p) id (((atLookup s id f p).frame id).getD f) p f.profile (s.lkpA f.sel f.profile F.FWD_LKP_A_KTYPE) shorter) := by
  have hx : exec (.lookup id shorter) s = execLookup id shorter s := rfl
  rw [hx, execLookup, hf]
  refine congrArg _ ?_
  dsimp only
  split
  · next h => rw [hp] at h; cases h
  · next q h =>
    obtain rfl : p = q := Option.some.inj (hp.symm.trans h)
    exact if_congr (by simp [hst]) rfl rfl

theorem lookedUp_noKey (k : Nat) (shorter : Option Nat) : lookedUp u id f p k 0 shorter = u.miss id f := if_pos rfl

theorem lookedUp_invalid {kt : Nat} (hk : kt ≠ 0) (ha : keyAddr kt p = none) (k : Nat) (shorter : Option Nat) :
    lookedUp u id f p k kt shorter = (u.count (C.keyInvalid f.slice)).miss id f := by
  unfold lookedUp
  rw [if_neg hk]
  simp only [ha]

theorem hitOp_gone {b : Nat} (h : (s.hitBits b).testBit 1 = true) : s.hitOp b = (s, false) := if_pos h

theorem hitOp_hit {b : Nat} (h : (s.hitBits b).testBit 1 = false) : s.hitOp b = (s.setHit b (setBit (s.hitBits b) 0), true) :=
  if_neg (by rw [h]; exact Bool.false_ne_true)

theorem lookedUp_tier1 {kt a k : Nat} {x : Way} (hk : kt ≠ 0) (ha : keyAddr kt p = some a)
    (hx : t1Find (u.t1Set (fwdKey kt (u.domain f p k) a)) (fwdKey kt (u.domain f p k) a) f.sel = some x) (shorter : Option Nat) :
    ((u.hitBits x.bucket).testBit 1 = true → lookedUp u id f p k kt shorter = u.miss id f) ∧
    ((u.hitBits x.bucket).testBit 1 = false → lookedUp u id f p k kt shorter =
      (((u.setHit x.bucket (setBit (u.hitBits x.bucket) 0)).count (C.t1Hits f.slice)).putT1 (fwdKey kt (u.domain f p k) a)
        (t1Touch (u.t1Set (fwdKey kt (u.domain f p k) a)) (fwdKey kt (u.domain f p k) a))).applyHit id f x.resA x.resB) := by
  unfold lookedUp
  rw [if_neg hk]
  simp only [ha, hx]
  refine ⟨fun h => ?_, fun h => ?_⟩
  · rw [hitOp_gone h]
    rfl
  · rw [hitOp_hit h]
    rfl

theorem copyUp_main (h : s.t2Up = true) : s.copyUp s.mainCopy = true := by
  unfold State.mainCopy
  cases h0 : s.copyUp 0
  · simpa [State.t2Up, h0] using h
  · exact h0

theorem mainCopy_le (s : State) : s.mainCopy ≤ 1 := by
  unfold State.mainCopy
  split <;> decide

theorem lookedUp_tier2 {kt a k : Nat} (hk : kt ≠ 0) (ha : keyAddr kt p = some a)
    (hx : t1Find (u.t1Set (fwdKey kt (u.domain f p k) a)) (fwdKey kt (u.domain f p k) a) f.sel = none) (shorter : Option Nat) :
    (u.t2Up = false → lookedUp u id f p k kt shorter = (u.count C.t2Unavailable).miss id f) ∧
    (u.t2Up = true → ∃ c, u.copyUp c = true ∧ c ≤ 1 ∧ lookedUp u id f p k kt shorter = (u.count (C.t2Lookups f.slice)).putFrame id
      { f with stage := .tier2 c (u.t1Set (fwdKey kt (u.domain f p k) a)).gen (fwdKey kt (u.domain f p k) a) }) := by
  unfold lookedUp
  rw [if_neg hk]
  simp only [ha, hx]
  refine ⟨fun h => if_pos (by rw [h]; rfl), fun h => ?_⟩
  refine ⟨if u.copyUp (shorter.getD (f.slice / 4) % 2) then shorter.getD (f.slice / 4) % 2 else u.mainCopy, ?_, ?_, if_neg (by rw [h]; exact Bool.false_ne_true)⟩
  · split
    · assumption
    · exact copyUp_main h
  · split
    · omega
    · exact mainCopy_le u

/-! ## Tier 2 -/

/-- What the end of tier-2 reads does: `lost` says whether a bucket was lost. -/
def tier2Read (u : State) (id : Nat) (f : Machine.Frame) (c gen key : Nat) (sd : Nat × Nat) (lost : Bool) : State :=
  if lost then u.miss id f
  else match findVer (u.copy c) sd key (fun e => visTo e.vis f.sel) with
    | none => u.miss id f
    | some (b, e) =>
      let b := if e.moved then altBucket sd key b else b
      let h := u.hitOp b
      if h.2 then ((h.1.count (C.t2Hits f.slice)).promote f key gen b e).applyHit id f e.resA e.resB
      else u.miss id f

theorem exec_tier2_down {c0 gen key : Nat} (hf : s.frame id = some f) (hst : f.stage = Stage.tier2 c0 gen key) (h : s.t2Up = false)
    (e1 e2 : BucketEcc) : exec (.tier2ReadDone id e1 e2) s = .next ((s.count C.t2Unavailable).miss id f) := by
  have hx : exec (.tier2ReadDone id e1 e2) s = execTier2ReadDone id e1 e2 s := rfl
  rw [hx, execTier2ReadDone]
  simp only [hf, hst]
  exact congrArg _ (if_pos (by rw [h]; rfl))

/-- The copy read in the end: the one chosen, or the main one where that has gone down. -/
def readCopy (s : State) (c0 : Nat) : Nat := if s.copyUp c0 = true then c0 else s.mainCopy

theorem exec_tier2_read {c0 gen key : Nat} (hf : s.frame id = some f) (hst : f.stage = Stage.tier2 c0 gen key) (h : s.t2Up = true)
    (e1 e2 : BucketEcc) {c : Nat} (hc : c = readCopy s c0) :
    exec (.tier2ReadDone id e1 e2) s = .next (
      let r1 := s.bucketEcc c (buckets (s.seedsOf c) key).1 e1
      let r2 := r1.1.bucketEcc c (buckets (s.seedsOf c) key).2 e2
      tier2Read r2.1 id f c gen key (s.seedsOf c) (r1.2 || r2.2)) := by
  subst hc
  have hx : exec (.tier2ReadDone id e1 e2) s = execTier2ReadDone id e1 e2 s := rfl
  rw [hx, execTier2ReadDone]
  simp only [hf, hst]
  exact congrArg _ (if_neg (by rw [h]; exact Bool.false_ne_true))

theorem tier2Read_miss {c gen key : Nat} {sd : Nat × Nat} (h : findVer (u.copy c) sd key (fun e => visTo e.vis f.sel) = none) (b : Bool) :
    tier2Read u id f c gen key sd b = u.miss id f := by
  unfold tier2Read
  simp only [h, ite_self]

theorem tier2Read_hit {c gen key b : Nat} {sd : Nat × Nat} {e : FwdEntry}
    (h : findVer (u.copy c) sd key (fun e => visTo e.vis f.sel) = some (b, e)) {at' : Nat} (ha : at' = if e.moved then altBucket sd key b else b) :
    ((u.hitBits at').testBit 1 = true → tier2Read u id f c gen key sd false = u.miss id f) ∧
    ((u.hitBits at').testBit 1 = false → tier2Read u id f c gen key sd false =
      (((u.setHit at' (setBit (u.hitBits at') 0)).count (C.t2Hits f.slice)).promote f key gen at' e).applyHit id f e.resA e.resB) := by
  subst ha
  unfold tier2Read
  simp only [h]
  refine ⟨fun h1 => ?_, fun h1 => ?_⟩
  · rw [hitOp_gone h1]
    rfl
  · rw [hitOp_hit h1]
    rfl

/-! ## A bucket lost -/

theorem copy_of_fwd (h : u.fwd = v.fwd) (c : Nat) : u.copy c = v.copy c := by
  rw [State.copy, State.copy, h]

theorem copy_setCopy (s : State) {c : Nat} (m : SMap FwdEntry) : (s.setCopy c m).copy c = m := by
  unfold State.setCopy State.copy
  by_cases h : c = 0
  · rw [if_pos h, if_pos h]
  · rw [if_neg h, if_neg h]

theorem copy_putT1 (s : State) (key : Nat) (w : T1Set) (c : Nat) : (s.putT1 key w).copy c = s.copy c := rfl

/-- The counter of lost buckets and its event, before the bucket is emptied. -/
def lossNoted (s : State) (b : Nat) : State := (s.count C.t2Lost).event Ev.tableEntryLost b 0

theorem lossNoted_counted (s : State) (b : Nat) : CountedOnce C.t2Lost s (lossNoted s b) := by
  refine countedOnce_of_counter (countedOnce_any s _) ?_
  exact (event_counter_ne _ (by decide) _ _).symm

theorem lossNoted_fwd (s : State) (b : Nat) : (lossNoted s b).fwd = s.fwd :=
  (congrArg State.fwd (event_rest (s.count C.t2Lost) (code := Ev.tableEntryLost) (by decide) b 0) :)

theorem lossNoted_frames (s : State) (b : Nat) : (lossNoted s b).frames = s.frames :=
  (congrArg State.frames (event_rest (s.count C.t2Lost) (code := Ev.tableEntryLost) (by decide) b 0) :)

theorem setCopy_rest (s : State) (c : Nat) (m : SMap FwdEntry) : s.setCopy c m = { s with fwd := (s.setCopy c m).fwd } := by
  unfold State.setCopy
  split <;> rfl

theorem bucketEcc_lost {c : Nat} (b : Nat) (h : s.copyUp (1 - c) = false) (hk : skeysFrom none (s.copy c) = true) :
    (s.bucketEcc c b .uncorrectable).2 = true ∧ CountedOnce C.t2Lost s (s.bucketEcc c b .uncorrectable).1 ∧
      sfind ((s.bucketEcc c b .uncorrectable).1.copy c) b = none ∧ (s.bucketEcc c b .uncorrectable).1.frames = s.frames := by
  have hcopy : (lossNoted s b).copy c = s.copy c := copy_of_fwd (lossNoted_fwd s b) c
  have he : s.bucketEcc c b .uncorrectable = match sfind ((lossNoted s b).copy c) b with
      | some x => (((lossNoted s b).setCopy c (serase ((lossNoted s b).copy c) b)).t1Inval x.key, true)
      | none => (lossNoted s b, true) := if_neg (by rw [h]; exact Bool.false_ne_true)
  rw [he, hcopy]
  have hcnt := lossNoted_counted s b
  have hfr := lossNoted_frames s b
  generalize lossNoted s b = w at *
  cases hb : sfind (s.copy c) b with
  | none => exact ⟨rfl, hcnt, by rw [hcopy]; exact hb, hfr⟩
  | some x =>
    refine ⟨rfl, countedOnce_of_cnt hcnt ?_, ?_, ?_⟩
    · exact (congrArg State.cnt (setCopy_rest w c (serase (s.copy c) b)) :)
    · exact (congrArg (sfind · b) (copy_setCopy w (serase (s.copy c) b))).trans (sfind_serase_self _ _ _ hk)
    · exact (congrArg State.frames (setCopy_rest w c (serase (s.copy c) b)) :).trans hfr

/-- Settles O33: a lookup follows its key through tier 1 and tier 2, and each outcome is one branch of it. -/
theorem lookupTiers : Obligations.LookupTiers := by
  unfold Obligations.LookupTiers
  refine ⟨fun s id f p shorter hf hp hst => ⟨fun h => ?_, fun h1 h2 => ?_⟩, fun s id f c0 gen key hf hst hc0 => ⟨fun h e1 e2 => exec_tier2_down hf hst h e1 e2, fun h => ?_⟩⟩
  · rw [exec_lookup hf hp hst, if_pos h]
  · have hx : exec (.lookup id shorter) s = .next (lookedUp (atLookup s id f p) id (((atLookup s id f p).frame id).getD f) p f.profile
        (s.lkpA f.sel f.profile F.FWD_LKP_A_KTYPE) shorter) := by
      rw [exec_lookup hf hp hst, if_neg]
      rintro (h | h)
      · rw [h1] at h; cases h
      · omega
    rw [hx]
    refine ⟨fun k hk he hb => atLookup_asks hk he hb, fun hn => atLookup_keeps hn, fun hk => ?_, fun hk ha => ?_, fun a hk ha => ?_⟩
    · rw [hk]
      exact congrArg _ (lookedUp_noKey _ _)
    · exact congrArg _ (lookedUp_invalid hk ha _ _)
    · refine ⟨fun x hx => ?_, fun hx => ?_⟩
      · obtain ⟨h1, h2⟩ := lookedUp_tier1 (id := id) hk ha hx shorter
        exact ⟨fun h => congrArg _ (h1 h), fun h => congrArg _ (h2 h)⟩
      · obtain ⟨h1, h2⟩ := lookedUp_tier2 (id := id) hk ha hx shorter
        refine ⟨fun h => congrArg _ (h1 h), fun h => ?_⟩
        obtain ⟨c, hup, hc, he⟩ := h2 h
        exact ⟨c, hup, hc, congrArg _ he⟩
  · have hr := exec_tier2_read hf hst h (c := readCopy s c0) (hc := rfl)
    intro c sd seen
    have hup : s.copyUp c = true := by
      show s.copyUp (if s.copyUp c0 = true then c0 else s.mainCopy) = true
      split
      · assumption
      · exact copyUp_main h
    have hc1 : c = readCopy s c0 := rfl
    rw [← hc1] at hr
    refine ⟨hup, fun hn => ?_, fun b e hs => ?_, fun hup' hn => ?_, fun hn => ?_, fun hd hk => ?_⟩
    · rw [hr]
      exact congrArg _ (tier2Read_miss hn _)
    · rw [hr]
      obtain ⟨h1, h2⟩ := tier2Read_hit (id := id) (gen := gen) hs rfl
      exact ⟨fun h => congrArg _ (h1 h), fun h => congrArg _ (h2 h)⟩
    · rw [hr]
      have he : s.bucketEcc c (buckets sd key).1 .uncorrectable = (s.count C.t2EccRepaired, false) := if_pos hup'
      simp only [show s.bucketEcc c (buckets (s.seedsOf c) key).1 .uncorrectable = (s.count C.t2EccRepaired, false) from he]
      exact congrArg _ (tier2Read_miss (u := s.count C.t2EccRepaired) hn _)
    · rw [hr]
      exact congrArg _ (tier2Read_miss (u := s.count C.t2EccCorrected) hn _)
    · obtain ⟨h1, h2, h3, h4⟩ := bucketEcc_lost (buckets sd key).1 hd hk
      refine ⟨(s.bucketEcc c (buckets sd key).1 .uncorrectable).1, ?_, h2, h3, h4⟩
      rw [hr]
      refine congrArg _ ?_
      show tier2Read _ id f c gen key sd ((s.bucketEcc c (buckets sd key).1 .uncorrectable).2 || false) = _
      rw [h1]
      rfl

end Sys2Proof
end

section
/-! PROOF. The table unit's operations on the copies of tier 2 (R250, R251, R257, R266, R267): what bucket reads leave alone, and where an
entry lands. -/
namespace Sys2Proof

open Sys2Proof.Machine

set_option Elab.async false

variable {s u v t : State}

/-! ## Bucket reads -/

/-- What bucket reads leave as it was: all but the copies and tier 1, and what signalling changes. -/
def unitView (s : State) : Fwd × List Job × SMap Nat × SMap Session :=
  ({ s.fwd with copy0 := [], copy1 := [], t1 := [] }, s.jobs, s.tblOwner, s.sessions)

theorem unitView_blind : Blind unitView := ⟨fun _ _ _ _ _ _ _ => rfl, fun _ _ => rfl, fun _ _ => rfl⟩

/-- The counters of bucket reads and their events. -/
def readCnt (id : Nat) : Prop := id = C.t2EccCorrected ∨ id = C.t2EccRepaired ∨ id = C.t2Lost ∨ eventCnt id

theorem unitView_setCopy (s : State) (c : Nat) (m : SMap FwdEntry) : unitView (s.setCopy c m) = unitView s := by
  unfold State.setCopy
  split <;> rfl

theorem bucketEcc_leaves (h : Leaves unitView signalReg readCnt s u) (c b : Nat) (e : BucketEcc) :
    Leaves unitView signalReg readCnt s (u.bucketEcc c b e).1 := by
  have hb := unitView_blind
  cases e with
  | clean => exact h
  | corrected => exact h.count hb (.inl rfl)
  | uncorrectable =>
    unfold State.bucketEcc
    extract_lets w
    dsimp only
    have hw : Leaves unitView signalReg readCnt s w :=
      (h.count hb (id := C.t2Lost) (.inr (.inr (.inl rfl)))).event hb (fun _ hr => hr) (fun _ hr => .inr (.inr (.inr hr))) (by decide) _ _
    split
    · exact h.count hb (.inr (.inl rfl))
    · split
      · next x _ =>
        refine hw.of_kept (v := (w.setCopy c (serase (w.copy c) b)).t1Inval x.key) (unitView_setCopy w c _) ?_ ?_ ?_
        · exact (congrArg State.regs (setCopy_rest w c (serase (w.copy c) b)) :)
        · exact (congrArg State.masked (setCopy_rest w c (serase (w.copy c) b)) :)
        · exact (congrArg State.cnt (setCopy_rest w c (serase (w.copy c) b)) :)
      · exact hw

theorem readEcc_leaves (s : State) (l : List (Nat × BucketEcc)) : Leaves unitView signalReg readCnt s (s.readEcc l) :=
  keep_ite (Leaves.refl.foldl fun _ _ _ hw => bucketEcc_leaves hw ..) .refl

section
variable (l : List (Nat × BucketEcc))

theorem readEcc_get {r : Reg} (hr : r.indexOk = true) (h : ¬ signalReg r) : (s.readEcc l).get r = s.get r :=
  (readEcc_leaves s l).regs.get (fun _ => signalReg_indexOk) hr h

theorem readEcc_fwd : { (s.readEcc l).fwd with copy0 := [], copy1 := [], t1 := [] } = { s.fwd with copy0 := [], copy1 := [], t1 := [] } :=
  congrArg Prod.fst (readEcc_leaves s l).view

theorem readEcc_job : (s.readEcc l).fwd.job = s.fwd.job := (congrArg Fwd.job (readEcc_fwd l) :)
theorem readEcc_learnQ : (s.readEcc l).fwd.learnQ = s.fwd.learnQ := (congrArg Fwd.learnQ (readEcc_fwd l) :)
theorem readEcc_pass : (s.readEcc l).fwd.pass = s.fwd.pass := (congrArg Fwd.pass (readEcc_fwd l) :)

end

theorem copyUp_of_get (h : t.get .FWD_HASH_STATUS = s.get .FWD_HASH_STATUS) (c : Nat) : t.copyUp c = s.copyUp c := by
  rw [State.copyUp, State.copyUp, State.fld, State.fld, h]

theorem t2Up_of_get (h : t.get .FWD_HASH_STATUS = s.get .FWD_HASH_STATUS) : t.t2Up = s.t2Up := by
  rw [State.t2Up, State.t2Up, copyUp_of_get h, copyUp_of_get h]

theorem mainCopy_of_get (h : t.get .FWD_HASH_STATUS = s.get .FWD_HASH_STATUS) : t.mainCopy = s.mainCopy := by
  rw [State.mainCopy, State.mainCopy, copyUp_of_get h]

theorem hashState_of_get (h : t.get .FWD_HASH_STATUS = s.get .FWD_HASH_STATUS) : t.hashState = s.hashState := by
  rw [State.hashState, State.hashState, State.fld, State.fld, h]

theorem rebuilding_of_get (h : t.get .FWD_HASH_STATUS = s.get .FWD_HASH_STATUS) : t.rebuilding = s.rebuilding := by
  rw [State.rebuilding, State.rebuilding, hashState_of_get h]

theorem readEcc_status (s : State) (l : List (Nat × BucketEcc)) : (s.readEcc l).get .FWD_HASH_STATUS = s.get .FWD_HASH_STATUS :=
  readEcc_get l rfl not_false

/-! ## The copies in service -/

/-- A copy after a change to those in service. -/
def servedCopy (s : State) (f : SMap FwdEntry → SMap FwdEntry) (c : Nat) : SMap FwdEntry := if s.copyUp c = true then f (s.copy c) else s.copy c

theorem onServing_eq (s : State) (f : SMap FwdEntry → SMap FwdEntry) :
    s.onServing f = { s with fwd := { s.fwd with copy0 := servedCopy s f 0, copy1 := servedCopy s f 1 } } := by
  unfold State.onServing State.servingCopies servedCopy
  cases h0 : s.copyUp 0 <;> cases h1 : s.copyUp 1 <;> simp only [List.filter, h0, h1] <;> rfl

theorem onServing_copy (f : SMap FwdEntry → SMap FwdEntry) {c : Nat} (hc : c ≤ 1) (h : s.copyUp c = true) : (s.onServing f).copy c = f (s.copy c) := by
  have hserved : servedCopy s f c = f (s.copy c) := if_pos h
  rw [← hserved, onServing_eq]
  obtain rfl | rfl : c = 0 ∨ c = 1 := by omega
  · rfl
  · rfl

theorem onServing_rest (s : State) (f : SMap FwdEntry → SMap FwdEntry) : s.onServing f = { s with fwd := (s.onServing f).fwd } := by
  rw [onServing_eq]

theorem onServing_view (s : State) (f : SMap FwdEntry → SMap FwdEntry) : unitView (s.onServing f) = unitView s := by
  rw [onServing_eq]
  rfl

theorem onServing_hit (s : State) (f : SMap FwdEntry → SMap FwdEntry) : (s.onServing f).fwd.hit = s.fwd.hit := by
  rw [onServing_eq]

/-! ## An entry lands, a move begins -/

theorem landEntry_rest (s : State) (b : Nat) (e : FwdEntry) : s.landEntry b e = { s with fwd := (s.landEntry b e).fwd } := by
  unfold State.landEntry
  rw [onServing_eq]
  rfl

theorem landEntry_copy (b : Nat) (e : FwdEntry) {c : Nat} (hc : c ≤ 1) (h : s.copyUp c = true) :
    (s.landEntry b e).copy c = placeAt s.seeds b e (s.copy c) :=
  onServing_copy (placeAt s.seeds b e) hc h

theorem landEntry_hitBits (s : State) (b : Nat) (e : FwdEntry) : (s.landEntry b e).hitBits b = 1 := by
  refine congrArg (·.getD 0) (?_ : sfind (sput 0 (s.onServing (placeAt s.seeds b e)).fwd.hit b 1) b = some 1)
  rw [sput, if_neg (by decide)]
  exact sfind_sinsert_self _ _ _

theorem sfind_placeAt_self (sd : Nat × Nat) (b : Nat) (e : FwdEntry) (m : SMap FwdEntry) :
    sfind (placeAt sd b e m) b = some { e with moved := false, slot := if b = (buckets sd e.key).1 then 0 else 1 } := sfind_sinsert_self _ _ _

/-- An entry that lands in the first bucket of its key. -/
theorem landEntry_first {b : Nat} {e : FwdEntry} (he : b = (buckets s.seeds e.key).1) {c : Nat} (hc : c ≤ 1) (h : s.copyUp c = true) :
    sfind ((s.landEntry b e).copy c) b = some { e with moved := false, slot := 0 } := by
  rw [landEntry_copy b e hc h, sfind_placeAt_self, if_pos he]

theorem count_cnt_congr (h : u.cnt = v.cnt) (id : Nat) : (u.count id).cnt = (v.count id).cnt := by
  simp only [State.count, State.counter, h]

theorem count_copy (s : State) (id c : Nat) : (s.count id).copy c = s.copy c := rfl

theorem count_hitBits (s : State) (id b : Nat) : (s.count id).hitBits b = s.hitBits b := rfl

theorem landEntry_learnQ (s : State) (b : Nat) (e : FwdEntry) : (s.landEntry b e).fwd.learnQ = s.fwd.learnQ :=
  (congrArg (fun x => x.1.learnQ) (onServing_view s (placeAt s.seeds b e)) :)

theorem rebuiltCopy_none (h : s.rebuilding = false) : s.rebuiltCopy = none := by
  obtain ⟨h1, h2⟩ : s.hashState ≠ 1 ∧ s.hashState ≠ 2 := by simpa [State.rebuilding] using h
  unfold State.rebuiltCopy
  rw [if_neg (fun hh => h1 hh.1), if_neg h2]

theorem insertRebuilt_none (h : s.rebuilding = false) (e : FwdEntry) : s.insertRebuilt e = s := by
  unfold State.insertRebuilt
  rw [rebuiltCopy_none h]

/-- An entry lands while no rebuild runs. -/
theorem landed (b : Nat) (e : FwdEntry) (h : s.rebuilding = false) : (s.landEntry b e).insertRebuilt e = s.landEntry b e := by
  refine insertRebuilt_none ?_ e
  rw [landEntry_rest]
  exact h

theorem beginMove_some {a : Nat} {e : FwdEntry} (h : sfind (s.copy s.mainCopy) a = some e) (c : Nat) :
    s.beginMove a c = (((s.onServing (moveEntry s.seeds a c)).setHit c (s.hitBits a)).t1Inval e.key).count C.relocations := by
  unfold State.beginMove
  rw [h]

theorem moveEntry_some {sd : Nat × Nat} {a : Nat} {m : SMap FwdEntry} {e : FwdEntry} (h : sfind m a = some e) (c : Nat) :
    moveEntry sd a c m = sinsert (placeAt sd c e m) a { e with moved := true } := by
  unfold moveEntry
  rw [h]

end Sys2Proof
end

section
/-! PROOF. Learning and the moves of a chain (R251, R257, R260). -/
namespace Sys2Proof

open Sys2Proof.Machine

set_option Elab.async false

variable {s v : State} {key port : Nat} {rest : List (Nat × Nat)} {ecc : List (Nat × BucketEcc)} {j : TuJob}

/-! ## LEARN_CHECK -/

/-- The state with the head request off the learning queue. -/
def learnPopped (s : State) (rest : List (Nat × Nat)) : State := { s with fwd := { s.fwd with learnQ := rest } }

theorem exec_learnCheck (hq : v.fwd.learnQ = (key, port) :: rest) (hj : v.fwd.job = none) (hup : v.t2Up = true) (cap : Bool) :
    exec (.learnCheck cap ecc) v = .next (if cap then (learnPopped (v.readEcc ecc) rest).learn key port
      else (learnPopped (v.readEcc ecc) rest).count C.learnSkipped) := by
  have hx : exec (.learnCheck cap ecc) v = execLearnCheck cap v ecc := rfl
  rw [hx, execLearnCheck]
  refine congrArg _ ?_
  have hq' : (v.readEcc ecc).fwd.learnQ = (key, port) :: rest := (readEcc_learnQ ecc).trans hq
  have hj' : (v.readEcc ecc).fwd.job = none := (readEcc_job ecc).trans hj
  have hup' : (v.readEcc ecc).t2Up = true := (t2Up_of_get (readEcc_status v ecc)).trans hup
  dsimp only
  rw [hq']
  exact if_neg (by rw [hj', hup']; decide)

theorem learnSkipped_counted (s : State) (rest : List (Nat × Nat)) : CountedOnce C.learnSkipped s ((learnPopped s rest).count C.learnSkipped) :=
  countedOnce_any (learnPopped s rest) _

/-- A request for a key that has no place to go. -/
theorem learn_skips (hv : s.versions key = []) (h : ¬ (s.learnedHeld < s.fld .FWD_LEARN_CFG F.FWD_LEARN_CFG_MAX_LEARNED ∧ s.keysHeld < maxKeys)) :
    s.learn key port = s.count C.learnSkipped := by
  unfold State.learn
  rw [hv]
  exact if_neg h

/-- A new key whose first bucket is empty, while no rebuild runs. -/
theorem learn_installs (hv : s.versions key = []) (h1 : s.learnedHeld < s.fld .FWD_LEARN_CFG F.FWD_LEARN_CFG_MAX_LEARNED)
    (h2 : s.keysHeld < maxKeys) (hr : s.rebuilding = false) (hb : sfind (s.copy s.mainCopy) (buckets s.seeds key).1 = none) :
    s.learn key port = (s.landEntry (buckets s.seeds key).1 (learnedEntry key port)).count C.learned := by
  have he : s.insertEntry (learnedEntry key port) false = (s.landEntry (buckets s.seeds key).1 (learnedEntry key port), .placed) := by
    have hl : s.insertEntry (learnedEntry key port) false =
        ((s.landEntry (buckets s.seeds key).1 (learnedEntry key port)).insertRebuilt (learnedEntry key port), .placed) :=
      if_pos (show (sfind (s.copy s.mainCopy) (buckets s.seeds key).1).isNone = true by rw [hb]; rfl)
    rw [hl, landed _ _ hr]
  unfold State.learn
  rw [hv]
  refine (if_pos ⟨h1, h2⟩).trans ?_
  rw [he]

theorem learn_static {k : Nat} {e : FwdEntry} {vs : List (Nat × FwdEntry)} (hv : s.versions key = (k, e) :: vs)
    (h : e.learned = false ∨ vs.any (fun x => !x.2.learned) = true) : s.learn key port = s := by
  unfold State.learn
  rw [hv]
  refine if_pos ?_
  rcases h with h | h
  · rw [h]; rfl
  · rw [h, Bool.or_true]

theorem learn_refreshes {k : Nat} {e : FwdEntry} {vs : List (Nat × FwdEntry)} (hv : s.versions key = (k, e) :: vs) (h1 : e.learned = true)
    (h2 : vs.any (fun x => !x.2.learned) = false) (h3 : e.resA.toNat / 4 % 65536 = port) (h4 : (s.hitBits k).testBit 1 = false) :
    s.learn key port = s.setHit k (setBit (s.hitBits k) 0) := by
  unfold State.learn
  rw [hv]
  refine (if_neg (by rw [h1, h2]; decide)).trans ((if_pos h3).trans ?_)
  exact congrArg Prod.fst (hitOp_hit h4)

/-! ## RELOCATION_MOVE_END -/

theorem exec_moveEnd (hj : v.fwd.job = some j) : exec (.relocationMoveEnd ecc) v = .next (
    let s := v.readEcc ecc
    let r := s.endMove j
    if !s.t2Up then s.insertLost j
    else if !r.2 then r.1
    else
      let s := if j.commit then r.1 else r.1.count C.learned
      match s.jobs with
      | x :: rest =>
        if j.commit && x.started && !x.ready then
          let s := s.clearOlder (1 - s.curSel) j.entry.key
          ({ s with jobs := { x with done := x.done + 1 } :: rest }).goOn
        else s.goOn
      | [] => s) := by
  have hx : exec (.relocationMoveEnd ecc) v = execRelocationMoveEnd v ecc := rfl
  rw [hx, execRelocationMoveEnd, hj] <;> rfl

/-- The state once the vacated bucket is empty. -/
def vacated (s : State) (j : TuJob) : State := s.onServing fun m => serase m j.moved

theorem vacated_rest (s : State) (j : TuJob) : vacated s j = { s with fwd := (vacated s j).fwd } := onServing_rest s _

theorem vacated_status (s : State) (j : TuJob) : (vacated s j).get .FWD_HASH_STATUS = s.get .FWD_HASH_STATUS := by
  rw [vacated_rest]
  rfl

theorem vacated_copy {c : Nat} (hc : c ≤ 1) (h : s.copyUp c = true) : (vacated s j).copy c = serase (s.copy c) j.moved := onServing_copy _ hc h

/-- The next move of a chain, in state `s`. -/
def nextMove (s : State) (j : TuJob) (a : Nat) (rest : List Nat) : State :=
  let s := (vacated s j).beginMove a j.moved
  { s with fwd := { s.fwd with job := some { j with moved := a, chain := rest } } }

theorem endMove_chain {a : Nat} {rest : List Nat} (h : j.chain = a :: rest) : s.endMove j = (nextMove s j a rest, false) := by
  unfold State.endMove
  rw [h]
  rfl

/-- The last move of a chain, in state `s`. -/
def lastMove (s : State) (j : TuJob) : State :=
  let s := ((vacated s j).landEntry j.moved j.entry).insertRebuilt j.entry
  { s with fwd := { s.fwd with job := none } }

theorem endMove_last (h : j.chain = []) : s.endMove j = (lastMove s j, true) := by
  unfold State.endMove
  rw [h]
  rfl

theorem nextMove_spec {a : Nat} {rest : List Nat} {e : FwdEntry} (hup : s.t2Up = true) (ha : a ≠ j.moved)
    (he : sfind (s.copy s.mainCopy) a = some e) : (nextMove s j a rest).fwd.job = some { j with moved := a, chain := rest } ∧
      CountedOnce C.relocations s (nextMove s j a rest) ∧ sfind ((nextMove s j a rest).copy s.mainCopy) a = some { e with moved := true } ∧
      (∃ x, sfind ((nextMove s j a rest).copy s.mainCopy) j.moved = some x ∧ x.key = e.key ∧ x.resA = e.resA ∧ x.resB = e.resB ∧
        x.vis = e.vis ∧ x.moved = false) ∧ (nextMove s j a rest).regs = s.regs := by
  have hst := vacated_status s j
  have hcopy : (vacated s j).copy s.mainCopy = serase (s.copy s.mainCopy) j.moved := vacated_copy (mainCopy_le s) (copyUp_main hup)
  have hup' : (vacated s j).copyUp s.mainCopy = true := (copyUp_of_get hst _).trans (copyUp_main hup)
  have hmain : (vacated s j).mainCopy = s.mainCopy := mainCopy_of_get hst
  have hregs : (vacated s j).regs = s.regs := (congrArg State.regs (vacated_rest s j) :)
  have hcnt : (vacated s j).cnt = s.cnt := (congrArg State.cnt (vacated_rest s j) :)
  unfold nextMove
  generalize vacated s j = w at hst hcopy hup' hmain hregs hcnt
  have hfind : sfind (w.copy s.mainCopy) a = some e := by rw [hcopy, sfind_serase_ne _ _ _ ha.symm, he]
  have hb := beginMove_some (s := w) (by rw [hmain]; exact hfind) j.moved
  have hmove : (w.beginMove a j.moved).copy s.mainCopy = sinsert (placeAt w.seeds j.moved e (w.copy s.mainCopy)) a { e with moved := true } := by
    rw [hb]
    exact (onServing_copy (moveEntry w.seeds a j.moved) (mainCopy_le s) hup').trans (moveEntry_some hfind j.moved)
  have hr : (w.beginMove a j.moved).regs = w.regs := by
    rw [hb]
    exact (congrArg State.regs (onServing_rest w (moveEntry w.seeds a j.moved)) :)
  have hc : (w.beginMove a j.moved).cnt = (w.count C.relocations).cnt := by
    rw [hb]
    exact count_cnt_congr (congrArg State.cnt (onServing_rest w (moveEntry w.seeds a j.moved)) :) _
  generalize w.beginMove a j.moved = x at hmove hr hc
  refine ⟨rfl, ?_, ?_, ⟨{ e with moved := false, slot := if j.moved = (buckets w.seeds e.key).1 then 0 else 1 }, ?_, rfl, rfl, rfl, rfl, rfl⟩, hr.trans hregs⟩
  · refine countedOnce_of_cnt (u := s.count C.relocations) (countedOnce_any s _) (hc.trans (count_cnt_congr hcnt _))
  · exact (congrArg (sfind · a) hmove).trans (sfind_sinsert_self _ _ _)
  · refine (congrArg (sfind · j.moved) hmove).trans ((sfind_sinsert_ne _ _ _ _ ha).trans (sfind_placeAt_self ..))

theorem lastMove_eq (hr : s.rebuilding = false) : lastMove s j =
    { (vacated s j).landEntry j.moved j.entry with fwd := { ((vacated s j).landEntry j.moved j.entry).fwd with job := none } } := by
  unfold lastMove
  rw [landed _ _ ((rebuilding_of_get (vacated_status s j)).trans hr)]

theorem lastMove_spec (hup : s.t2Up = true) (hr : s.rebuilding = false) : (lastMove s j).fwd.job = none ∧
    (∃ x, sfind ((lastMove s j).copy s.mainCopy) j.moved = some x ∧ x.key = j.entry.key ∧ x.resA = j.entry.resA ∧ x.resB = j.entry.resB ∧
      x.moved = false) ∧ (lastMove s j).regs = s.regs ∧ (lastMove s j).cnt = s.cnt ∧ (lastMove s j).jobs = s.jobs := by
  have hup' : (vacated s j).copyUp s.mainCopy = true := (copyUp_of_get (vacated_status s j) _).trans (copyUp_main hup)
  have hc := landEntry_copy (s := vacated s j) j.moved j.entry (mainCopy_le s) hup'
  have hl := landEntry_rest (vacated s j) j.moved j.entry
  have hv := vacated_rest s j
  rw [lastMove_eq hr]
  refine ⟨rfl, ⟨_, (congrArg (sfind · j.moved) hc).trans (sfind_placeAt_self ..), rfl, rfl, rfl, rfl⟩, ?_, ?_, ?_⟩
  · exact (congrArg State.regs hl :).trans (congrArg State.regs hv :)
  · exact (congrArg State.cnt hl :).trans (congrArg State.cnt hv :)
  · exact (congrArg State.jobs hl :).trans (congrArg State.jobs hv :)

theorem goOn_idle (h : s.jobs = [] ∨ s.stewardHeld = true) : s.goOn = s := by
  unfold State.goOn
  split
  · next hs =>
    rcases h with h | h
    · rw [h] at hs; cases hs
    · rw [h, Bool.or_true, if_pos rfl]
  · rfl

/-- Settles O35: a learning request is answered by the key's versions, and a move ends by the rest of its chain. -/
theorem learning : Obligations.Learning := by
  unfold Obligations.Learning
  refine ⟨fun v ecc key port rest hq hj hup hr => ?_, fun v ecc j hj hup hr => ?_, fun s ecc j hj hup hjobs => ?_, fun s ecc hj hjobs => ?_⟩
  · intro s b popped
    have hx := fun cap => exec_learnCheck (ecc := ecc) hq hj hup cap
    have hskip : CountedOnce C.learnSkipped s (popped.count C.learnSkipped) ∧ Writes [] [C.learnSkipped] popped (popped.count C.learnSkipped) :=
      ⟨learnSkipped_counted s rest, Writes.refl.count (List.mem_singleton_self _)⟩
    have hrs : s.rebuilding = false := (rebuilding_of_get (readEcc_status v ecc)).trans hr
    refine ⟨⟨_, hx false, hskip⟩, fun hv => ⟨fun h => ?_, fun h1 h2 hb => ?_⟩, fun k e vs hv => ⟨fun h => ?_, fun h1 h2 h3 h4 => ?_⟩⟩
    · refine ⟨_, (hx true).trans (congrArg _ (learn_skips (s := popped) (port := port) hv ?_)), hskip⟩
      rintro ⟨h1, h2⟩
      rcases h with h | h
      · exact absurd h1 (Nat.not_lt.mpr h)
      · exact absurd h2 (Nat.not_lt.mpr h)
    · refine ⟨_, (hx true).trans (congrArg _ (learn_installs (s := popped) (port := port) hv h1 h2 hrs hb)), ?_, ?_, fun c hc hu => ?_, fun _ => ?_, ?_⟩
      · exact countedOnce_of_cnt (u := s.count C.learned) (countedOnce_any s _)
          (count_cnt_congr (congrArg State.cnt (landEntry_rest popped b (learnedEntry key port)) :) _)
      · rw [State.count_fwd, landEntry_learnQ]
      · rw [count_copy]
        exact landEntry_first (s := popped) (e := learnedEntry key port) rfl hc hu
      · rw [count_hitBits]
        exact landEntry_hitBits popped b _
      · rw [landEntry_rest]
        rfl
    · exact (hx true).trans (congrArg _ (learn_static (s := popped) hv h))
    · exact (hx true).trans (congrArg _ (learn_refreshes (s := popped) hv h1 h2 h3 h4))
  · intro s
    have hst := readEcc_status v ecc
    have hups : s.t2Up = true := (t2Up_of_get hst).trans hup
    have hrs : s.rebuilding = false := (rebuilding_of_get hst).trans hr
    have hx := exec_moveEnd (ecc := ecc) hj
    simp only [show (v.readEcc ecc).t2Up = true from hups, Bool.not_true, Bool.false_eq_true, if_false] at hx
    refine ⟨fun a rest e hc ha he => ?_, fun hc hcom hjobs => ?_⟩
    · simp only [endMove_chain hc, Bool.not_false, if_true] at hx
      exact ⟨_, hx, nextMove_spec hups ha he⟩
    · obtain ⟨h1, h2, h3, h4, h5⟩ := lastMove_spec (j := j) hups hrs
      have hnil : ((lastMove s j).count C.learned).jobs = [] := h5.trans hjobs
      simp only [endMove_last hc, hcom, Bool.not_true, Bool.false_eq_true, if_false] at hx
      rw [hnil] at hx
      refine ⟨_, hx, h1, countedOnce_of_cnt (u := s.count C.learned) (countedOnce_any s _) (count_cnt_congr h4 _), h2, h3⟩
  · have hr : s.readEcc ecc = s := if_neg (by rw [hup]; exact Bool.false_ne_true)
    have hx := exec_moveEnd (ecc := ecc) hj
    rw [hx]
    refine congrArg _ ?_
    simp only [hr, hup, Bool.not_false, if_true]
    unfold State.insertLost
    simp only [hjobs]
  · have hx : exec (.relocationMoveEnd ecc) s = execRelocationMoveEnd s ecc := rfl
    rw [hx, execRelocationMoveEnd, hj]
    exact congrArg _ (goOn_idle hjobs)

end Sys2Proof
end

section
/-! PROOF. Rebuilds of the exact-match table (R266, R274). -/
namespace Sys2Proof

open Sys2Proof.Machine

set_option Elab.async false

variable {s u v w t : State} {ecc : List (Nat × BucketEcc)} {rs : List Reg} {ids : List Nat}

/-! ## The register of the rebuild's state -/

theorem hashState_setHashState (h : s.regsOk) {n : Nat} (hn : n < 8) : (s.setHashState n).hashState = n := fld_setFld_lt h (by decide) hn

theorem copyUp_setHashState (h : s.regsOk) (n c : Nat) : (s.setHashState n).copyUp c = s.copyUp c := by
  refine congrArg (· == 1) ?_
  by_cases hc : c = 0
  · simp only [hc, if_true]
    exact fld_setFld_beside h (by decide) (by decide)
  · simp only [hc, if_false]
    exact fld_setFld_beside h (by decide) (by decide)

theorem hashState_setCopyUp (h : s.regsOk) (c : Nat) (b : Bool) : (s.setCopyUp c b).hashState = s.hashState := by
  unfold State.setCopyUp
  by_cases hc : c = 0
  · rw [if_pos hc]
    exact fld_setFld_beside h (by decide) (by decide)
  · rw [if_neg hc]
    exact fld_setFld_beside h (by decide) (by decide)

theorem copyUp_setCopyUp (h : s.regsOk) (c : Nat) (b : Bool) : (s.setCopyUp c b).copyUp c = b := by
  have hn : (if b then 1 else 0 : Nat) < 2 ^ 1 := by cases b <;> decide
  have he : (s.setCopyUp c b).copyUp c = ((if b then 1 else 0 : Nat) == 1) := by
    unfold State.setCopyUp State.copyUp
    refine congrArg (· == 1) ?_
    by_cases hc : c = 0
    · rw [if_pos hc]
      exact fld_setFld_lt h (by decide) hn
    · rw [if_neg hc]
      exact fld_setFld_lt h (by decide) hn
  rw [he]
  cases b <;> rfl

theorem copyUp_zero_of_one (h : s.regsOk) (b : Bool) : (s.setCopyUp 1 b).copyUp 0 = s.copyUp 0 :=
  congrArg (· == 1) (fld_setFld_beside (f := F.FWD_HASH_STATUS_COPY1) (g := F.FWD_HASH_STATUS_COPY0) h (by decide) (by decide))

theorem copyUp_one_of_zero (h : s.regsOk) (b : Bool) : (s.setCopyUp 0 b).copyUp 1 = s.copyUp 1 :=
  congrArg (· == 1) (fld_setFld_beside (f := F.FWD_HASH_STATUS_COPY0) (g := F.FWD_HASH_STATUS_COPY1) h (by decide) (by decide))

theorem regsOk_setCopyUp (h : s.regsOk) (c : Nat) (b : Bool) : (s.setCopyUp c b).regsOk := regsOk_setFld h

theorem regsOk_setHashState (h : s.regsOk) (n : Nat) : (s.setHashState n).regsOk := regsOk_setFld h

theorem rehashCtl_off {q : Reg} (hq : q.indexOk = true) (h : .FWD_REHASH_CTL ≠ q) (n : Nat) (f : Fld) :
    (s.setFld .FWD_REHASH_CTL F.FWD_REHASH_CTL_GO n).fld q f = s.fld q f := fld_setFld_off rfl hq h

theorem copyUp_rehashCtl (n c : Nat) : (s.setFld .FWD_REHASH_CTL F.FWD_REHASH_CTL_GO n).copyUp c = s.copyUp c :=
  copyUp_of_get (get_setFld_off (r := .FWD_REHASH_CTL) rfl rfl nofun) c

theorem hashState_rehashCtl (n : Nat) : (s.setFld .FWD_REHASH_CTL F.FWD_REHASH_CTL_GO n).hashState = s.hashState :=
  hashState_of_get (get_setFld_off (r := .FWD_REHASH_CTL) rfl rfl nofun)

/-! ## What else a step of the table unit changes -/

theorem Writes.withFwd (h : Writes rs ids s u) (x : Fwd) : Writes rs ids { s with fwd := x } { u with fwd := x } :=
  ⟨by rw [h.rest], h.regs, h.cnts⟩

theorem Signals.withFwd (h : Signals rs ids s u) (x : Fwd) : Signals rs ids { s with fwd := x } { u with fwd := x } :=
  ⟨by rw [h.rest], h.regs, h.cnts⟩

theorem Writes.countN {id : Nat} (h : Writes rs ids s u) (hi : id ∈ ids) (n : Nat) : Writes rs ids s (u.countN id n) := by
  induction n generalizing u with
  | zero => exact h
  | succ n ih => exact ih (h.count hi)

theorem nextPass_only (s : State) : FwdOnly s s.nextPass := keep_ite rfl (keep_ite rfl (keep_ite rfl rfl))

theorem nextPass_copies (s : State) : s.nextPass.fwd.copy0 = s.fwd.copy0 ∧ s.nextPass.fwd.copy1 = s.fwd.copy1 :=
  keep_ite (P := fun t : State => t.fwd.copy0 = s.fwd.copy0 ∧ t.fwd.copy1 = s.fwd.copy1) ⟨rfl, rfl⟩
    (keep_ite (P := fun t : State => t.fwd.copy0 = s.fwd.copy0 ∧ t.fwd.copy1 = s.fwd.copy1) ⟨rfl, rfl⟩
      (keep_ite (P := fun t : State => t.fwd.copy0 = s.fwd.copy0 ∧ t.fwd.copy1 = s.fwd.copy1) ⟨rfl, rfl⟩ ⟨rfl, rfl⟩))

/-! ## GO (R274) -/

/-- The registers of a rebuild that begins. -/
def goRegs (s : State) : State := ((s.setFld .FWD_REHASH_CTL F.FWD_REHASH_CTL_GO 1).setHashState 1).setCopyUp 1 false

theorem goRegs_writes (h : Writes [.FWD_HASH_STATUS, .FWD_REHASH_CTL] [] s u) : Writes [.FWD_HASH_STATUS, .FWD_REHASH_CTL] [] s (goRegs u) :=
  ((h.setFld (by simp) _ _).setFld (by simp) _ _).setFld (by simp) _ _

theorem goRegs_spec (h : s.regsOk) : (goRegs s).hashState = 1 ∧ (goRegs s).fld .FWD_REHASH_CTL F.FWD_REHASH_CTL_GO = 1 ∧
    (goRegs s).copyUp 1 = false ∧ (goRegs s).copyUp 0 = s.copyUp 0 := by
  have h1 : (s.setFld .FWD_REHASH_CTL F.FWD_REHASH_CTL_GO 1).regsOk := regsOk_setFld h
  have h2 := regsOk_setHashState h1 1
  unfold goRegs
  refine ⟨(hashState_setCopyUp h2 _ _).trans (hashState_setHashState h1 (by decide)), ?_, copyUp_setCopyUp h2 _ _, ?_⟩
  · refine (fld_setFld_off (r := .FWD_HASH_STATUS) (q := .FWD_REHASH_CTL) rfl rfl nofun).trans
      ((fld_setFld_off (r := .FWD_HASH_STATUS) (q := .FWD_REHASH_CTL) rfl rfl nofun).trans ?_)
    exact fld_setFld_lt h (by decide) (by decide)
  · exact (copyUp_zero_of_one h2 _).trans ((copyUp_setHashState h1 _ _).trans (copyUp_rehashCtl _ _))

theorem rehashStart_cases (s : State) :
    (s.fld .FWD_REHASH_CTL F.FWD_REHASH_CTL_GO = 1 → s.rehashStart = s) ∧
    (s.fld .FWD_REHASH_CTL F.FWD_REHASH_CTL_GO = 0 → (s.copyUp 0 = false ∨ s.copyUp 1 = false) → s.rehashStart = s.setHashState 5) ∧
    (s.fld .FWD_REHASH_CTL F.FWD_REHASH_CTL_GO = 0 → s.copyUp 0 = true → s.copyUp 1 = true → s.rehashStart = { goRegs s with
      fwd := { s.fwd with copy1 := [], newSeeds := ((s.get .FWD_REHASH_SEED1).toNat, (s.get .FWD_REHASH_SEED2).toNat),
                          over1 := some ((s.get .FWD_REHASH_SEED1).toNat, (s.get .FWD_REHASH_SEED2).toNat), rebuildFailed := false } }) := by
  refine ⟨fun h => if_pos h, fun h hc => ?_, fun h h0 h1 => ?_⟩
  · refine (if_neg (by rw [h]; decide)).trans (if_pos ?_)
    rcases hc with hc | hc
    · rw [hc]; rfl
    · rw [hc]; exact Bool.or_true _
  · exact (if_neg (by rw [h]; decide)).trans (if_neg (by rw [h0, h1]; decide))

/-- A word of FWD_REHASH_CTL written and put back. -/
def goAsked (s : State) (x : Word) : State := (s.put .FWD_REHASH_CTL (Reg.FWD_REHASH_CTL.written (s.get .FWD_REHASH_CTL) x)).put .FWD_REHASH_CTL (s.get .FWD_REHASH_CTL)

theorem goAsked_get (hs : s.regsOk) (x : Word) {q : Reg} (hq : q.indexOk = true) : (goAsked s x).get q = s.get q := by
  have h1 : (s.put .FWD_REHASH_CTL (Reg.FWD_REHASH_CTL.written (s.get .FWD_REHASH_CTL) x)).regsOk := State.regsOk_put _ _ _ hs
  by_cases h : q = .FWD_REHASH_CTL
  · subst h
    exact State.get_put_self _ _ _ h1
  · exact (get_put_off (r := .FWD_REHASH_CTL) rfl hq (Ne.symm h) _).trans (get_put_off (r := .FWD_REHASH_CTL) rfl hq (Ne.symm h) _)

theorem rehashStart_boot (s : State) : s.rehashStart.boot = s.boot :=
  keep_ite (P := fun t : State => t.boot = s.boot) rfl (keep_ite (P := fun t : State => t.boot = s.boot) rfl rfl)

theorem exec_rehashGo {h : Nat} {x : Word} (he : ExpertWindow s h) (hp : Passes s h .FWD_REHASH_CTL x) (hx : F.FWD_REHASH_CTL_GO.get x = 1) :
    exec (.rehashGo .window x) s = .next (goAsked s x).rehashStart := by
  have hc : exec (.rehashGo .window x) s = execRehashGo .window x s := rfl
  have hw : wrote s .FWD_REHASH_CTL x = s.put .FWD_REHASH_CTL (Reg.FWD_REHASH_CTL.written (s.get .FWD_REHASH_CTL) x) := wrote_plain rfl x
  have hq : (goAsked s x).rehashStart.boot.resetReq = none := by
    rw [rehashStart_boot]
    exact he.noReset
  have ha : (wrote s .FWD_REHASH_CTL x).writeAction h .FWD_REHASH_CTL (s.get .FWD_REHASH_CTL) x = (goAsked s x).rehashStart := by
    rw [hw]
    exact if_pos hx
  rw [hc, execRehashGo, if_pos (by simp [asks, hx]), rowWriteReg_expert he hp rfl nofun nofun rfl, ha, takeReset_of_none hq]

/-! ## The end of a step (R266) -/

/-- What the insertion of every version gives. -/
def placedAll (s : State) : Option (SMap FwdEntry) × Nat := insertAll s.fwd.newSeeds (versionsOf s.fwd.copy0) s.fwd.copy1

/-- The end of step 1, its moves counted: copy 1 as the insertions left it, or none. -/
def stepOneEnd (s : State) : Option (SMap FwdEntry) → State
  | none =>
    let s := s.rehashNeeded
    { s with fwd := { s.fwd with copy1 := [], rebuildFailed := true } }
  | some m =>
    let s := ({ s with fwd := { s.fwd with copy1 := m } }).placedAnew m
    let s := (s.setCopyUp 1 true).setCopyUp 0 false
    ({ s with fwd := { s.fwd with over0 := some s.fwd.newSeeds, copy0 := m } }).setHashState 2

/-- A step of a rebuild ends in state `s`, with no chain under way. -/
def rehashStep (s : State) : State :=
  if s.hashState = 1 then
    if s.fwd.rebuildFailed then
      (({ s with fwd := { s.fwd with copy1 := s.fwd.copy0, over1 := s.fwd.over0 } }).setCopyUp 1 true).rehashFailed
    else stepOneEnd (s.countN C.relocations (placedAll s).2) (placedAll s).1
  else if s.hashState = 2 then
    let s := ({ s with fwd := { s.fwd with copy0 := s.fwd.copy1, over0 := none, over1 := none } }).setCopyUp 0 true
    let s := (s.put .FWD_HASH_SEED1 (BitVec.ofNat 32 s.fwd.newSeeds.1)).put .FWD_HASH_SEED2
      (BitVec.ofNat 32 s.fwd.newSeeds.2)
    let s := (s.noteImage .FWD_HASH_SEED1).noteImage .FWD_HASH_SEED2
    let s := ((s.setFld .FWD_HASH_STATUS F.FWD_HASH_STATUS_NEEDED 0).eventClear Ev.rehashNeeded 0).setHashState 3
    (s.setFld .FWD_REHASH_CTL F.FWD_REHASH_CTL_GO 0).nextPass
  else s

theorem exec_rehashStep (hj : v.fwd.job = none) : exec (.rehashStepDone ecc) v = .next (rehashStep (v.readEcc ecc)) := by
  have hx : exec (.rehashStepDone ecc) v = execRehashStepDone v ecc := rfl
  have hj' : (v.readEcc ecc).fwd.job = none := (readEcc_job ecc).trans hj
  rw [hx, execRehashStepDone]
  generalize v.readEcc ecc = s at hj' ⊢
  refine congrArg _ ((if_neg (by rw [hj']; decide)).trans ?_)
  unfold rehashStep stepOneEnd placedAll
  rfl

/-- Copy 1, filled, serves, and copy 0 does not (step 2). -/
def turned (s : State) (n : Nat) : State := (((s.countN C.relocations n).setCopyUp 1 true).setCopyUp 0 false).setHashState 2

/-- The exact-match table at the begin of step 3. -/
def turnedFwd (x : Fwd) (m : SMap FwdEntry) : Fwd :=
  { x with copy1 := m, copy0 := m, over0 := some x.newSeeds, hit := m.map fun kv => (kv.1, 1), pos := 0, gone := [],
           t1 := x.t1.filterMap fun kv => if kv.2.gen = 0 then none else some (kv.1, ⟨[none, none, none, none], kv.2.gen⟩) }

/-- The table once copy 1 is placed anew. -/
def placedFwd (x : Fwd) (m : SMap FwdEntry) : Fwd :=
  { x with copy1 := m, hit := m.map fun kv => (kv.1, 1), pos := 0, gone := [],
           t1 := x.t1.filterMap fun kv => if kv.2.gen = 0 then none else some (kv.1, ⟨[none, none, none, none], kv.2.gen⟩) }

theorem setFwd_setCopyUp (u : State) (x : Fwd) (c : Nat) (b : Bool) : ({ u with fwd := x }).setCopyUp c b = { u.setCopyUp c b with fwd := x } := rfl

theorem setFwd_setHashState (u : State) (x : Fwd) (n : Nat) : ({ u with fwd := x }).setHashState n = { u.setHashState n with fwd := x } := rfl

theorem turned_eq (u : State) (m : SMap FwdEntry) :
    stepOneEnd u (some m) =
    { ((u.setCopyUp 1 true).setCopyUp 0 false).setHashState 2 with fwd := turnedFwd u.fwd m } := by
  have h1 : ({ u with fwd := { u.fwd with copy1 := m } }).placedAnew m = { u with fwd := placedFwd u.fwd m } := rfl
  unfold stepOneEnd
  dsimp only
  rw [h1, setFwd_setCopyUp, setFwd_setCopyUp]
  exact setFwd_setHashState _ _ _

theorem turnedFwd_t1 (x : Fwd) (m : SMap FwdEntry) : ∀ kv ∈ (turnedFwd x m).t1, kv.2.ways = [none, none, none, none] := by
  intro kv hkv
  obtain ⟨e, -, he⟩ := List.mem_filterMap.mp hkv
  split at he
  · cases he
  · rw [← Option.some.inj he]

theorem countN_only (s : State) (id n : Nat) : s.countN id n = { s with cnt := (s.countN id n).cnt } := by
  induction n generalizing s with
  | zero => rfl
  | succ n ih =>
    rw [State.countN, ih]
    rfl

theorem turned_spec (hs : StoresCanonical s) (n : Nat) : (turned s n).copyUp 1 = true ∧ (turned s n).copyUp 0 = false ∧ (turned s n).hashState = 2 ∧
    CountedTimes C.relocations n s (turned s n) ∧ Writes [.FWD_HASH_STATUS] [C.relocations] s (turned s n) := by
  have h0 : (s.countN C.relocations n).regsOk := by rw [countN_only]; exact hs.regs
  have h1 := regsOk_setCopyUp h0 1 true
  have h2 := regsOk_setCopyUp h1 0 false
  refine ⟨?_, ?_, hashState_setHashState h2 (by decide), (countN_counter hs.cnt C.relocations n).1, ?_⟩
  · exact (copyUp_setHashState h2 _ _).trans ((copyUp_one_of_zero h1 _).trans (copyUp_setCopyUp h0 _ _))
  · exact (copyUp_setHashState h2 _ _).trans (copyUp_setCopyUp h1 _ _)
  · exact (((Writes.refl.countN (by simp) n).setFld (by simp) _ _).setFld (by simp) _ _).setFld (by simp) _ _

theorem hashStatus_not_signal : ¬ signalAddr Reg.FWD_HASH_STATUS.addr := not_signalAddr rfl nofun nofun nofun

theorem rehashNeeded_spec (hs : u.regsOk) : u.rehashNeeded.fld .FWD_HASH_STATUS F.FWD_HASH_STATUS_NEEDED = 1 ∧
    u.rehashNeeded.hashState = u.hashState ∧ u.rehashNeeded.raised Ev.rehashNeeded 0 = true ∧
    u.rehashNeeded.counter C.relocations = u.counter C.relocations ∧ Signals [.FWD_HASH_STATUS] [C.relocations] u u.rehashNeeded := by
  have hsig : Signals [] [] (u.setFld .FWD_HASH_STATUS F.FWD_HASH_STATUS_NEEDED 1) u.rehashNeeded := Signals.refl.event (by decide) 0 0
  have hget : u.rehashNeeded.get .FWD_HASH_STATUS = (u.setFld .FWD_HASH_STATUS F.FWD_HASH_STATUS_NEEDED 1).get .FWD_HASH_STATUS :=
    (hsig.regs _ hashStatus_not_signal nofun).1
  refine ⟨?_, ?_, ?_, ?_, (Signals.refl.setFld (by simp) _ _).trans (hsig.weaken nofun nofun)⟩
  · rw [State.fld, hget]
    exact fld_setFld_lt hs (by decide) (by decide)
  · exact (hashState_of_get hget).trans (fld_setFld_beside hs (by decide) (by decide))
  · rw [raised_iff, State.rehashNeeded, event_raised]
    exact occurred_raised (by decide)
  · exact (event_counter_ne _ (by decide) _ _).trans rfl

/-- The registers once a failed rebuild has been restored. -/
def restoredRegs (s : State) : State := ((s.setCopyUp 1 true).setFld .FWD_REHASH_CTL F.FWD_REHASH_CTL_GO 0).setHashState 4

/-- A restored rebuild, before the pass of Caraway that waited. -/
def restored (s : State) : State :=
  { restoredRegs s with fwd := { s.fwd with copy1 := s.fwd.copy0, over1 := s.fwd.over0, rebuildFailed := false } }

theorem restored_spec (hs : s.regsOk) : (restored s).nextPass.fwd.copy1 = s.fwd.copy0 ∧ (restored s).nextPass.fwd.copy0 = s.fwd.copy0 ∧
    (restored s).nextPass.copyUp 1 = true ∧ (restored s).nextPass.hashState = 4 ∧
    (restored s).nextPass.fld .FWD_REHASH_CTL F.FWD_REHASH_CTL_GO = 0 ∧
    Writes [.FWD_HASH_STATUS, .FWD_REHASH_CTL] [] { s with fwd := (restored s).nextPass.fwd } (restored s).nextPass := by
  have h1 : (s.setCopyUp 1 true).regsOk := regsOk_setCopyUp hs 1 true
  have h2 : ((s.setCopyUp 1 true).setFld .FWD_REHASH_CTL F.FWD_REHASH_CTL_GO 0).regsOk := regsOk_setFld h1
  have hw : Writes [.FWD_HASH_STATUS, .FWD_REHASH_CTL] [] s (restoredRegs s) :=
    ((Writes.refl.setFld (by simp) _ _).setFld (by simp) _ _).setFld (by simp) _ _
  have hup : (restoredRegs s).copyUp 1 = true := (copyUp_setHashState h2 _ _).trans ((copyUp_rehashCtl _ _).trans (copyUp_setCopyUp hs _ _))
  have hst : (restoredRegs s).hashState = 4 := hashState_setHashState h2 (by decide)
  have hgo : (restoredRegs s).fld .FWD_REHASH_CTL F.FWD_REHASH_CTL_GO = 0 :=
    (fld_setFld_off (r := .FWD_HASH_STATUS) (q := .FWD_REHASH_CTL) rfl rfl nofun).trans (fld_setFld_lt h1 (by decide) (by decide))
  obtain ⟨hc0, hc1⟩ := nextPass_copies (restored s)
  have he : (restored s).nextPass = { restoredRegs s with fwd := (restored s).nextPass.fwd } := nextPass_only (restored s)
  refine ⟨hc1, hc0, ?_, ?_, ?_, ?_⟩
  · rw [he]; exact hup
  · rw [he]; exact hst
  · rw [he]; exact hgo
  · rw [he]; exact hw.withFwd _

/-! ## The end of a rebuild -/

/-- The new seeds in their registers, and copy 0 in service. -/
def seedsPut (s : State) (n : Nat × Nat) : State :=
  ((s.setCopyUp 0 true).put .FWD_HASH_SEED1 (BitVec.ofNat 32 n.1)).put .FWD_HASH_SEED2 (BitVec.ofNat 32 n.2)

/-- The records of an image with the seeds that the registers hold. -/
def seedRecords (w : State) (m : SMap Word) : SMap Word :=
  sinsert (sinsert m Reg.FWD_HASH_SEED1.addr (w.get .FWD_HASH_SEED1)) Reg.FWD_HASH_SEED2.addr (w.get .FWD_HASH_SEED2)

/-- The running image with the seeds that the registers hold. -/
def seedsImage (w : State) : Option RunImage := w.boot.image.map fun i => { i with regs := seedRecords w i.regs }

theorem noteImage_some {i : RunImage} {r : Reg} (h : w.boot.image = some i) (hr : r.imaged = true) :
    w.noteImage r = { w with boot := { w.boot with image := some { i with regs := sinsert i.regs r.addr (w.committed r) } } } := by
  unfold State.noteImage
  rw [h]
  exact if_pos hr

theorem noteImage_none (h : w.boot.image = none) (r : Reg) : w.noteImage r = w := by
  unfold State.noteImage
  rw [h]

theorem seedsNoted (w : State) : (w.noteImage .FWD_HASH_SEED1).noteImage .FWD_HASH_SEED2 = { w with boot := { w.boot with image := seedsImage w } } := by
  cases h : w.boot.image with
  | none =>
    rw [noteImage_none h, noteImage_none h]
    have hi : seedsImage w = w.boot.image := by rw [seedsImage, h]; rfl
    rw [hi]
  | some i =>
    rw [noteImage_some h rfl, noteImage_some (i := { i with regs := sinsert i.regs Reg.FWD_HASH_SEED1.addr (w.committed .FWD_HASH_SEED1) }) rfl rfl]
    have hi : seedsImage w = some { i with regs := seedRecords w i.regs } := by rw [seedsImage, h]; rfl
    rw [hi]
    rfl

/-- The registers once the rebuild is done. -/
def doneRegs (w : State) : State :=
  (((w.setFld .FWD_HASH_STATUS F.FWD_HASH_STATUS_NEEDED 0).eventClear Ev.rehashNeeded 0).setHashState 3).setFld .FWD_REHASH_CTL F.FWD_REHASH_CTL_GO 0

/-- The registers that the end of a rebuild writes. -/
def doneList : List Reg := [.FWD_HASH_STATUS, .FWD_REHASH_CTL, .FWD_HASH_SEED1, .FWD_HASH_SEED2]

theorem seedsPut_spec (hs : s.regsOk) (n : Nat × Nat) : (seedsPut s n).get .FWD_HASH_SEED1 = BitVec.ofNat 32 n.1 ∧
    (seedsPut s n).get .FWD_HASH_SEED2 = BitVec.ofNat 32 n.2 ∧ (seedsPut s n).copyUp 0 = true ∧ (seedsPut s n).regsOk ∧
    Signals doneList [] s (seedsPut s n) := by
  have h1 : (s.setCopyUp 0 true).regsOk := regsOk_setCopyUp hs 0 true
  have h2 : ((s.setCopyUp 0 true).put .FWD_HASH_SEED1 (BitVec.ofNat 32 n.1)).regsOk := State.regsOk_put _ _ _ h1
  have hst : (seedsPut s n).get .FWD_HASH_STATUS = (s.setCopyUp 0 true).get .FWD_HASH_STATUS :=
    (get_put_off (r := .FWD_HASH_SEED2) (q := .FWD_HASH_STATUS) rfl rfl nofun _).trans
      (get_put_off (r := .FWD_HASH_SEED1) (q := .FWD_HASH_STATUS) rfl rfl nofun _)
  refine ⟨?_, State.get_put_self _ _ _ h2, (copyUp_of_get hst 0).trans (copyUp_setCopyUp hs 0 true), State.regsOk_put _ _ _ h2, ?_⟩
  · exact (get_put_off (r := .FWD_HASH_SEED2) (q := .FWD_HASH_SEED1) rfl rfl nofun _).trans (State.get_put_self _ _ _ h1)
  · exact ((Signals.refl.setFld (by simp [doneList]) _ _).put (.inr (by simp [doneList])) _).put (.inr (by simp [doneList])) _

theorem doneRegs_signals (w : State) : Signals doneList [] w (doneRegs w) :=
  (((Signals.refl.setFld (by simp [doneList]) _ _).eventClear _ _).setFld (by simp [doneList]) _ _).setFld (by simp [doneList]) _ _

theorem doneRegs_seed (w : State) {q : Reg} (hq : q = .FWD_HASH_SEED1 ∨ q = .FWD_HASH_SEED2) : (doneRegs w).get q = w.get q := by
  have hok : q.indexOk = true := by rcases hq with rfl | rfl <;> rfl
  have hsig : ¬ signalAddr q.addr := by rcases hq with rfl | rfl <;> exact not_signalAddr rfl nofun nofun nofun
  have hc : Reg.FWD_REHASH_CTL ≠ q := by rcases hq with rfl | rfl <;> nofun
  have hh : Reg.FWD_HASH_STATUS ≠ q := by rcases hq with rfl | rfl <;> nofun
  have hev : Signals [] [] (w.setFld .FWD_HASH_STATUS F.FWD_HASH_STATUS_NEEDED 0)
    ((w.setFld .FWD_HASH_STATUS F.FWD_HASH_STATUS_NEEDED 0).eventClear Ev.rehashNeeded 0) := Signals.refl.eventClear _ _
  exact (get_setFld_off rfl hok hc).trans ((get_setFld_off rfl hok hh).trans ((hev.regs q hsig nofun).1.trans (get_setFld_off rfl hok hh)))

theorem doneRegs_spec (hw : StoresCanonical w) : (doneRegs w).fld .FWD_HASH_STATUS F.FWD_HASH_STATUS_NEEDED = 0 ∧ (doneRegs w).hashState = 3 ∧
    (doneRegs w).copyUp 0 = w.copyUp 0 ∧ (doneRegs w).fld .FWD_REHASH_CTL F.FWD_REHASH_CTL_GO = 0 := by
  have h1 := hw.setFld .FWD_HASH_STATUS F.FWD_HASH_STATUS_NEEDED 0
  have hev : Signals [] [] (w.setFld .FWD_HASH_STATUS F.FWD_HASH_STATUS_NEEDED 0)
    ((w.setFld .FWD_HASH_STATUS F.FWD_HASH_STATUS_NEEDED 0).eventClear Ev.rehashNeeded 0) := Signals.refl.eventClear _ _
  have hget := (hev.regs _ hashStatus_not_signal nofun).1
  have h2 : ((w.setFld .FWD_HASH_STATUS F.FWD_HASH_STATUS_NEEDED 0).eventClear Ev.rehashNeeded 0).regsOk :=
    (StoresCanonical.signalProof.eventClear h1 Ev.rehashNeeded 0).regs
  have h3 := regsOk_setHashState h2 3
  refine ⟨?_, ?_, ?_, fld_setFld_lt h3 (by decide) (by decide)⟩
  · refine (fld_setFld_off (r := .FWD_REHASH_CTL) (q := .FWD_HASH_STATUS) rfl rfl nofun).trans
      ((fld_setFld_beside (f := F.FWD_HASH_STATUS_STATE) h2 (by decide) (by decide)).trans ((congrArg _ hget).trans (fld_setFld_lt hw.regs (by decide) (by decide))))
  · exact (hashState_rehashCtl _).trans (hashState_setHashState h2 (by decide))
  · exact (copyUp_rehashCtl _ _).trans ((copyUp_setHashState h2 _ _).trans ((copyUp_of_get hget 0).trans
      (congrArg (· == 1) (fld_setFld_beside (f := F.FWD_HASH_STATUS_NEEDED) (g := F.FWD_HASH_STATUS_COPY0) hw.regs (by decide) (by decide)))))

theorem readEcc_stores (hv : StoresCanonical v) (ecc : List (Nat × BucketEcc)) : StoresCanonical (v.readEcc ecc) := (Evolves.refl.readEcc ecc).stores hv

theorem doneRegs_boot (w : State) : (doneRegs w).boot = w.boot := (congrArg State.boot (doneRegs_signals w).rest :)

theorem doneRegs_fwd (w : State) : (doneRegs w).fwd = w.fwd := (congrArg State.fwd (doneRegs_signals w).rest :)

theorem seedRecords_find (w : State) (m : SMap Word) {r : Reg} (hr : r ∈ [Reg.FWD_HASH_SEED1, Reg.FWD_HASH_SEED2]) :
    sfind (seedRecords w m) r.addr = some (w.get r) := by
  obtain rfl | rfl : r = .FWD_HASH_SEED1 ∨ r = .FWD_HASH_SEED2 := by simpa using hr
  · exact (sfind_sinsert_ne _ _ _ _ (addr_ne (q := .FWD_HASH_SEED2) (r := .FWD_HASH_SEED1) rfl rfl nofun)).trans (sfind_sinsert_self _ _ _)
  · exact sfind_sinsert_self _ _ _

/-- The state at the end of a rebuild, with the running image `i`, before the registers change. -/
def rebuiltBase (s : State) (i : Option RunImage) : State :=
  { s with fwd := { s.fwd with copy0 := s.fwd.copy1, over0 := none, over1 := none }, boot := { s.boot with image := i } }

theorem rebuilt_eq (s : State) : ∃ i, i = seedsImage (seedsPut (rebuiltBase s s.boot.image) s.fwd.newSeeds) ∧
    ((seedsPut (rebuiltBase s s.boot.image) s.fwd.newSeeds).noteImage .FWD_HASH_SEED1).noteImage .FWD_HASH_SEED2 =
      seedsPut (rebuiltBase s i) s.fwd.newSeeds := ⟨_, rfl, seedsNoted _⟩

theorem rehashStep_placed (h : s.hashState = 1) (hf : s.fwd.rebuildFailed = false) {m : SMap FwdEntry} (hm : (placedAll s).1 = some m) :
    rehashStep s = { turned s (placedAll s).2 with fwd := turnedFwd s.fwd m } := by
  have hfwd : (s.countN C.relocations (placedAll s).2).fwd = s.fwd := (congrArg State.fwd (countN_only s C.relocations (placedAll s).2) :)
  have he : stepOneEnd (s.countN C.relocations (placedAll s).2) (some m) = { turned s (placedAll s).2 with fwd := turnedFwd s.fwd m } := by
    rw [turned_eq, hfwd]
    rfl
  exact (if_pos h).trans ((if_neg (by rw [hf]; decide)).trans ((congrArg (stepOneEnd _) hm).trans he))

/-- Step 1 that found no place for a version. -/
def unplaced (s : State) : State :=
  let u := (s.countN C.relocations (placedAll s).2).rehashNeeded
  { u with fwd := { u.fwd with copy1 := [], rebuildFailed := true } }

theorem rehashStep_unplaced (h : s.hashState = 1) (hf : s.fwd.rebuildFailed = false) (hm : (placedAll s).1 = none) : rehashStep s = unplaced s :=
  (if_pos h).trans ((if_neg (by rw [hf]; decide)).trans (congrArg (stepOneEnd _) hm))

theorem unplaced_spec (hs : StoresCanonical s) : (unplaced s).fld .FWD_HASH_STATUS F.FWD_HASH_STATUS_NEEDED = 1 ∧
    (unplaced s).hashState = s.hashState ∧ (unplaced s).raised Ev.rehashNeeded 0 = true ∧ CountedTimes C.relocations (placedAll s).2 s (unplaced s) ∧
    Signals [.FWD_HASH_STATUS] [C.relocations] { s with fwd := (unplaced s).fwd } (unplaced s) := by
  have hc := countN_only s C.relocations (placedAll s).2
  have hok : (s.countN C.relocations (placedAll s).2).regsOk := by rw [hc]; exact hs.regs
  obtain ⟨k1, k2, k3, k4, k5⟩ := rehashNeeded_spec hok
  have hst : (s.countN C.relocations (placedAll s).2).hashState = s.hashState := by rw [hc]; rfl
  have hsig := (((Writes.refl (s := s)).countN (rs := [.FWD_HASH_STATUS]) (ids := [C.relocations]) (by simp) (placedAll s).2).signals).trans k5
  exact ⟨k1, k2.trans hst, k3, (congrArg Cnt.val k4).trans (countN_counter hs.cnt C.relocations (placedAll s).2).1, hsig.withFwd _⟩

theorem rehashStep_restored (h : s.hashState = 1) (hf : s.fwd.rebuildFailed = true) : rehashStep s = (restored s).nextPass :=
  (if_pos h).trans (if_pos hf)

theorem rehashStep_done (h : s.hashState = 2) {i : Option RunImage}
    (he : ((seedsPut (rebuiltBase s s.boot.image) s.fwd.newSeeds).noteImage .FWD_HASH_SEED1).noteImage .FWD_HASH_SEED2 =
      seedsPut (rebuiltBase s i) s.fwd.newSeeds) : rehashStep s = (doneRegs (seedsPut (rebuiltBase s i) s.fwd.newSeeds)).nextPass :=
  (if_neg (by rw [h]; decide)).trans ((if_pos h).trans (congrArg (fun w => (doneRegs w).nextPass) he))

theorem seedsPut_fwd (s : State) (n : Nat × Nat) : (seedsPut s n).fwd = s.fwd := rfl

theorem seedsPut_boot (s : State) (n : Nat × Nat) : (seedsPut s n).boot = s.boot := rfl

/-- The end of a rebuild. -/
theorem done_spec (hs : StoresCanonical s) (n : Nat × Nat) {t : State} (ht : t = (doneRegs (seedsPut s n)).nextPass) :
    t.fwd.copy0 = s.fwd.copy0 ∧ t.copyUp 0 = true ∧ t.get .FWD_HASH_SEED1 = BitVec.ofNat 32 n.1 ∧ t.get .FWD_HASH_SEED2 = BitVec.ofNat 32 n.2 ∧
    t.fld .FWD_HASH_STATUS F.FWD_HASH_STATUS_NEEDED = 0 ∧ t.hashState = 3 ∧ t.fld .FWD_REHASH_CTL F.FWD_REHASH_CTL_GO = 0 ∧
    t.boot = s.boot ∧ Signals doneList [] { s with fwd := t.fwd } t := by
  have hput : StoresCanonical (seedsPut s n) := ((hs.setFld ..).put ..).put ..
  obtain ⟨k1, k2, k3, -, k5⟩ := seedsPut_spec hs.regs n
  obtain ⟨l1, l2, l3, l4⟩ := doneRegs_spec hput
  have hsig := k5.trans (doneRegs_signals (seedsPut s n))
  have hs1 := (doneRegs_seed (seedsPut s n) (.inl rfl)).trans k1
  have hs2 := (doneRegs_seed (seedsPut s n) (.inr rfl)).trans k2
  have hfwd : (doneRegs (seedsPut s n)).fwd = s.fwd := (doneRegs_fwd _).trans (seedsPut_fwd s n)
  have hboot : (doneRegs (seedsPut s n)).boot = s.boot := (doneRegs_boot _).trans (seedsPut_boot s n)
  rw [k3] at l3
  generalize doneRegs (seedsPut s n) = w at *
  have he : t = { w with fwd := t.fwd } := by
    rw [ht]
    exact nextPass_only w
  have hc : t.fwd.copy0 = w.fwd.copy0 := by rw [ht]; exact (nextPass_copies w).1
  rw [he]
  exact ⟨hc.trans (congrArg Fwd.copy0 hfwd), l3, hs1, hs2, l1, l2, l4, hboot, hsig.withFwd _⟩

/-- Settles O37: GO by `rehashStart_cases`, and each step by the registers that it leaves. -/
theorem rebuildSteps : Obligations.RebuildSteps := by
  unfold Obligations.RebuildSteps
  refine ⟨fun s h x hs he hp hx => ?_, fun v ecc hv hj => ?_⟩
  · have hasked (q : Reg) (hq : q.indexOk = true) : (goAsked s x).get q = s.get q := goAsked_get hs.regs x hq
    have hw : Writes [.FWD_HASH_STATUS, .FWD_REHASH_CTL] [] s (goAsked s x) := (Writes.refl.put (by simp) _).put (by simp) _
    have hfwd : (goAsked s x).fwd = s.fwd := rfl
    have hok : (goAsked s x).regsOk := State.regsOk_put _ _ _ (State.regsOk_put _ _ _ hs.regs)
    have hup := fun c => copyUp_of_get (hasked .FWD_HASH_STATUS rfl) c
    have hgo : (goAsked s x).fld .FWD_REHASH_CTL F.FWD_REHASH_CTL_GO = s.fld .FWD_REHASH_CTL F.FWD_REHASH_CTL_GO :=
      congrArg F.FWD_REHASH_CTL_GO.get (hasked .FWD_REHASH_CTL rfl)
    have hst := hashState_of_get (hasked .FWD_HASH_STATUS rfl)
    have hseed1 := hasked .FWD_REHASH_SEED1 rfl
    have hseed2 := hasked .FWD_REHASH_SEED2 rfl
    obtain ⟨h1, h2, h3⟩ := rehashStart_cases (goAsked s x)
    rw [hgo] at h1 h2 h3
    rw [hup, hup] at h2 h3
    refine ⟨_, exec_rehashGo he hp hx, ?_⟩
    generalize goAsked s x = w at *
    have hlt : s.fld .FWD_REHASH_CTL F.FWD_REHASH_CTL_GO < 2 := Fld.get_lt _ _
    by_cases hg : s.fld .FWD_REHASH_CTL F.FWD_REHASH_CTL_GO = 1
    · rw [h1 hg]
      refine ⟨?_, fun h0 => absurd (hg.symm.trans h0) (by decide), fun _ => ⟨hfwd, hst⟩⟩
      have := hw.withFwd w.fwd
      exact this
    · have hg0 : s.fld .FWD_REHASH_CTL F.FWD_REHASH_CTL_GO = 0 := by omega
      by_cases hc : s.copyUp 0 = true ∧ s.copyUp 1 = true
      · rw [h3 hg0 hc.1 hc.2]
        obtain ⟨k1, k2, k3, k4⟩ := goRegs_spec hok
        refine ⟨(goRegs_writes hw).withFwd _, fun _ => ⟨fun _ _ => ⟨k1, k2, k3, k4.trans ((hup 0).trans hc.1), rfl, (congrArg Fwd.copy0 hfwd :), ?_⟩, fun hn => ?_⟩, fun h => absurd h hg⟩
        · rw [← hseed1, ← hseed2]
        · rcases hn with hn | hn
          · rw [hc.1] at hn; cases hn
          · rw [hc.2] at hn; cases hn
      · have hn : s.copyUp 0 = false ∨ s.copyUp 1 = false := by
          cases h0 : s.copyUp 0
          · exact .inl rfl
          · exact .inr (by simpa [h0] using hc)
        rw [h2 hg0 hn]
        refine ⟨?_, fun _ => ⟨fun a b => absurd ⟨a, b⟩ hc, fun _ => ⟨hashState_setHashState hok (by decide), hfwd⟩⟩, fun h => absurd h hg⟩
        exact (hw.setFld (by simp) _ _).withFwd w.fwd
  · have hs := readEcc_stores hv ecc
    have hx := exec_rehashStep (ecc := ecc) hj
    generalize v.readEcc ecc = s at hs hx
    intro s' status placed counted
    refine ⟨fun h1 hf m hm => ?_, fun h1 hf hm => ?_, fun h1 hf => ?_, fun h2 => ?_⟩
    · obtain ⟨k1, k2, k3, k4, k5⟩ := turned_spec hs (placedAll s).2
      refine ⟨{ turned s (placedAll s).2 with fwd := turnedFwd s.fwd m }, ?_, rfl, k1, k2, k3, rfl, rfl, rfl, turnedFwd_t1 s.fwd m, fun _ => k4, k5.withFwd _⟩
      rw [hx, rehashStep_placed h1 hf hm]
    · obtain ⟨k1, k2, k3, k4, k5⟩ := unplaced_spec hs
      exact ⟨unplaced s, by rw [hx, rehashStep_unplaced h1 hf hm], rfl, rfl, k1, k2.trans h1, k3, fun _ => k4, k5⟩
    · exact ⟨(restored s).nextPass, by rw [hx, rehashStep_restored h1 hf], restored_spec hs.regs⟩
    · obtain ⟨i, hi, he⟩ := rebuilt_eq s
      have hb : StoresCanonical (rebuiltBase s i) := ⟨hs.regs, hs.st0, hs.st1, hs.cnt, hs.frames, hs.reps, hs.sessions⟩
      obtain ⟨k1, k2, k3, k4, k5, k6, k7, k8, k9⟩ := done_spec hb s.fwd.newSeeds rfl
      have himg : (doneRegs (seedsPut (rebuiltBase s i) s.fwd.newSeeds)).nextPass.boot.image = i := congrArg Boot.image k8
      refine ⟨_, hx.trans (congrArg _ (rehashStep_done h2 he)), k1, k2, k3, k4, k5, k6, k7, ?_, fun i0 hi0 => ?_⟩
      · rw [himg]
        exact k9
      · refine ⟨seedRecords (seedsPut (rebuiltBase s s.boot.image) s.fwd.newSeeds) i0.regs, ?_, fun _ r hr _ => ?_⟩
        · rw [himg, hi, seedsImage, seedsPut_boot]
          exact congrArg (Option.map _) hi0
        · rw [seedRecords_find _ _ hr, Option.getD_some]
          obtain ⟨m1, m2, -⟩ := seedsPut_spec (s := rebuiltBase s s.boot.image) hs.regs s.fwd.newSeeds
          obtain rfl | rfl : r = .FWD_HASH_SEED1 ∨ r = .FWD_HASH_SEED2 := by simpa using hr
          · exact m1.trans k3.symm
          · exact m2.trans k4.symm

end Sys2Proof
end

section
/-! PROOF. Caraway: its passes, its visits and the decay of tier 1 (R262 to R264). -/
namespace Sys2Proof

open Sys2Proof.Machine

set_option Elab.async false

variable {s u v t : State} {ecc : List (Nat × BucketEcc)} {aging : Bool} {b : Nat} {e : FwdEntry}

/-! ## A pass begins -/

theorem agingHeld_of (hup : s.t2Up = true) (hr : s.rebuilding = false) : s.agingHeld = false := by
  rw [State.agingHeld, hup, hr]
  rfl

theorem exec_agingPassStart (hp : s.fld .FWD_CARAWAY_CFG F.FWD_CARAWAY_CFG_PERIOD ≠ 0) (hup : s.t2Up = true) (hrun : s.running = true) :
    exec .agingPassStart s = .next (if s.fwd.pass.isNone && !s.agingHeld then s.beginPass true
      else { s with fwd := { s.fwd with agingDue := true } }) := by
  have hx : exec .agingPassStart s = execAgingPassStart s := rfl
  rw [hx, execAgingPassStart]
  exact congrArg _ (if_neg (by simp [hp, hup, hrun]))

/-! ## The versions of a key change -/

theorem copy_setCopy_other {c d : Nat} (h : ¬ (c = 0 ↔ d = 0)) (m : SMap FwdEntry) : (s.setCopy c m).copy d = s.copy d := by
  unfold State.setCopy State.copy
  by_cases hc : c = 0
  · have hd : d ≠ 0 := fun hd => h ⟨fun _ => hd, fun _ => hc⟩
    rw [if_pos hc, if_neg hd, if_neg hd]
  · have hd : d = 0 := by_contra fun hd => h ⟨fun e => absurd e hc, fun e => absurd e hd⟩
    rw [if_neg hc, if_pos hd, if_pos hd]

theorem copy_congr {c d : Nat} (h : c = 0 ↔ d = 0) : s.copy c = s.copy d := if_congr h rfl rfl

theorem seedsOf_congr {c d : Nat} (h : c = 0 ↔ d = 0) : s.seedsOf c = s.seedsOf d :=
  congrArg (fun o : Option (Nat × Nat) => o.getD s.seedRegs) (if_congr h rfl rfl)

theorem seedsOf_setCopy (c d : Nat) (m : SMap FwdEntry) : (s.setCopy c m).seedsOf d = s.seedsOf d := by
  unfold State.setCopy
  split <;> rfl

/-- The map whose bucket `b` is empty or holds a version that `g` removes. -/
def Removable (key : Nat) (g : FwdEntry → Option FwdEntry) (b : Nat) (m : SMap FwdEntry) : Prop :=
  skeysFrom none m = true ∧ ∀ x, sfind m b = some x → x.key = key ∧ g x = none

theorem skeysFrom_serase_none {α : Type} {m : SMap α} (h : skeysFrom none m = true) (k : Nat) : skeysFrom none (serase m k) = true :=
  skeysFrom_serase _ _ _ h

theorem skeysFrom_sinsert_none {α : Type} {m : SMap α} (h : skeysFrom none m = true) (k : Nat) (v : α) : skeysFrom none (sinsert m k v) = true :=
  skeysFrom_sinsert _ _ _ _ nofun h

/-- One bucket of a key's change. -/
def mapBucket (key : Nat) (g : FwdEntry → Option FwdEntry) (m : SMap FwdEntry) (a : Nat) : SMap FwdEntry :=
  match sfind m a with
  | some x => if x.key = key then (match g x with | some y => sinsert m a y | none => serase m a) else m
  | none => m

theorem mapKey_eq (sd : Nat × Nat) (key : Nat) (g : FwdEntry → Option FwdEntry) (m : SMap FwdEntry) :
    mapKey sd key g m = mapBucket key g (mapBucket key g m (buckets sd key).1) (buckets sd key).2 := rfl

theorem mapBucket_self {key : Nat} {g : FwdEntry → Option FwdEntry} {m : SMap FwdEntry} (h : Removable key g b m) :
    skeysFrom none (mapBucket key g m b) = true ∧ sfind (mapBucket key g m b) b = none := by
  obtain ⟨hm, hb⟩ := h
  unfold mapBucket
  cases hf : sfind m b with
  | none => exact ⟨hm, hf⟩
  | some x =>
    obtain ⟨hk, hg⟩ := hb x hf
    simp only [hk, hg, if_true]
    exact ⟨skeysFrom_serase_none hm b, sfind_serase_self _ _ _ hm⟩

theorem mapBucket_other {key a : Nat} {g : FwdEntry → Option FwdEntry} {m : SMap FwdEntry} (hm : skeysFrom none m = true) (ha : a ≠ b) :
    skeysFrom none (mapBucket key g m a) = true ∧ sfind (mapBucket key g m a) b = sfind m b := by
  unfold mapBucket
  split
  · split
    · split
      · exact ⟨skeysFrom_sinsert_none hm _ _, sfind_sinsert_ne _ _ _ _ ha⟩
      · exact ⟨skeysFrom_serase_none hm _, sfind_serase_ne _ _ _ ha⟩
    · exact ⟨hm, rfl⟩
  · exact ⟨hm, rfl⟩

/-- A change of a key leaves bucket `b` empty or removable. -/
theorem mapBucket_removable {key : Nat} {g : FwdEntry → Option FwdEntry} {m : SMap FwdEntry} (h : Removable key g b m) (a : Nat) :
    Removable key g b (mapBucket key g m a) ∧ (sfind m b = none ∨ a = b → sfind (mapBucket key g m a) b = none) := by
  by_cases ha : a = b
  · subst ha
    obtain ⟨h1, h2⟩ := mapBucket_self h
    exact ⟨⟨h1, fun x hx => by rw [h2] at hx; cases hx⟩, fun _ => h2⟩
  · obtain ⟨h1, h2⟩ := mapBucket_other (key := key) (g := g) h.1 ha
    exact ⟨⟨h1, fun x hx => h.2 x (h2 ▸ hx)⟩, fun h' => h2.trans (h'.resolve_right ha)⟩

theorem mapKey_removable {key : Nat} {g : FwdEntry → Option FwdEntry} {m : SMap FwdEntry} (h : Removable key g b m) (sd : Nat × Nat) :
    Removable key g b (mapKey sd key g m) ∧
      (sfind m b = none ∨ (b = (buckets sd key).1 ∨ b = (buckets sd key).2) → sfind (mapKey sd key g m) b = none) := by
  rw [mapKey_eq]
  obtain ⟨h1, h2⟩ := mapBucket_removable h (buckets sd key).1
  obtain ⟨h3, h4⟩ := mapBucket_removable h1 (buckets sd key).2
  refine ⟨h3, fun hc => h4 ?_⟩
  rcases hc with hn | h' | h'
  · exact .inl (h2 (.inl hn))
  · exact .inl (h2 (.inr h'.symm))
  · exact .inr h'.symm

/-- One copy of a key's change. -/
def changeCopy (key : Nat) (g : FwdEntry → Option FwdEntry) (s : State) (c : Nat) : State := s.setCopy c (mapKey (s.seedsOf c) key g (s.copy c))

theorem changeKey_eq (s : State) (key : Nat) (g : FwdEntry → Option FwdEntry) :
    s.changeKey key g = ((s.servingCopies ++ s.rebuiltCopy.toList).foldl (changeCopy key g) s).t1Inval key := rfl

theorem changeCopy_copy {key c d : Nat} {g : FwdEntry → Option FwdEntry} (s : State) :
    (changeCopy key g s c).seedsOf d = s.seedsOf d ∧
      (changeCopy key g s c).copy d = if c = 0 ↔ d = 0 then mapKey (s.seedsOf d) key g (s.copy d) else s.copy d := by
  refine ⟨seedsOf_setCopy .., ?_⟩
  unfold changeCopy
  split
  · next h =>
    rw [← copy_congr (s := s.setCopy c (mapKey (s.seedsOf c) key g (s.copy c))) h, copy_setCopy, seedsOf_congr h, copy_congr h]
  · next h => exact copy_setCopy_other h _

/-- The version of a bucket of the copy that serves is removed. -/
theorem changeKey_removes {key : Nat} {g : FwdEntry → Option FwdEntry} {c : Nat} (hc : c ∈ s.servingCopies) (h : Removable key g b (s.copy c))
    (hb : b = (buckets (s.seedsOf c) key).1 ∨ b = (buckets (s.seedsOf c) key).2) : sfind ((s.changeKey key g).copy c) b = none := by
  obtain ⟨l, r, hl⟩ := List.append_of_mem (List.mem_append_left s.rebuiltCopy.toList hc)
  have hcopy : (s.changeKey key g).copy c = ((s.servingCopies ++ s.rebuiltCopy.toList).foldl (changeCopy key g) s).copy c := rfl
  rw [hcopy, hl, List.foldl_append, List.foldl_cons]
  have h1 : (l.foldl (changeCopy key g) s).seedsOf c = s.seedsOf c ∧ Removable key g b ((l.foldl (changeCopy key g) s).copy c) := by
    refine foldl_keeps (P := fun v : State => v.seedsOf c = s.seedsOf c ∧ Removable key g b (v.copy c)) l _ ⟨rfl, h⟩ fun v d _ hv => ?_
    obtain ⟨k1, k2⟩ := changeCopy_copy (key := key) (g := g) (c := d) (d := c) v
    refine ⟨k1.trans hv.1, ?_⟩
    rw [k2]
    split
    · exact (mapKey_removable hv.2 _).1
    · exact hv.2
  generalize l.foldl (changeCopy key g) s = v at h1
  obtain ⟨hsd, hrem⟩ := h1
  obtain ⟨k1, k2⟩ := changeCopy_copy (key := key) (g := g) (c := c) (d := c) v
  rw [if_pos Iff.rfl] at k2
  obtain ⟨m1, m2⟩ := mapKey_removable hrem (v.seedsOf c)
  have hstart : Removable key g b ((changeCopy key g v c).copy c) ∧ sfind ((changeCopy key g v c).copy c) b = none := by
    rw [k2]
    exact ⟨m1, m2 (.inr (by rw [hsd]; exact hb))⟩
  refine (foldl_keeps (P := fun w : State => Removable key g b (w.copy c) ∧ sfind (w.copy c) b = none) r _ hstart fun w d _ hw => ?_).2
  obtain ⟨-, l2⟩ := changeCopy_copy (key := key) (g := g) (c := d) (d := c) w
  rw [l2]
  split
  · obtain ⟨n1, n2⟩ := mapKey_removable hw.1 (w.seedsOf c)
    exact ⟨n1, n2 (.inl hw.2)⟩
  · exact hw

theorem changeKey_view (s : State) (key : Nat) (g : FwdEntry → Option FwdEntry) : unitView (s.changeKey key g) = unitView s := by
  have h : unitView ((s.servingCopies ++ s.rebuiltCopy.toList).foldl (changeCopy key g) s) = unitView s :=
    foldl_keeps (P := fun v => unitView v = unitView s) _ _ rfl fun v c _ hv => (unitView_setCopy v c _).trans hv
  rw [changeKey_eq]
  exact h

theorem changeKey_only (s : State) (key : Nat) (g : FwdEntry → Option FwdEntry) : FwdOnly s (s.changeKey key g) := FwdOnly.changeKey .refl key g

/-! ## A removal -/

theorem removeAged_spec (s : State) (b : Nat) (e : FwdEntry) : (s.removeAged b e).fwd.pos = s.fwd.pos ∧
    s.removeAged b e = { s with fwd := (s.removeAged b e).fwd, cnt := (s.removeAged b e).cnt } ∧ CountedOnce C.aged s (s.removeAged b e) ∧
    ((s.removeAged b e).hitBits b).testBit 1 = true ∧ b ∈ (s.removeAged b e).fwd.gone ∧
    (s.removeAged b e).copy s.mainCopy = ((s.setHit b (setBit (s.hitBits b) 1)).removeVersion e).copy s.mainCopy := by
  have ho := changeKey_only (s.setHit b (setBit (s.hitBits b) 1)) e.key (fun x => if x.vis = e.vis then none else some x)
  have hv := changeKey_view (s.setHit b (setBit (s.hitBits b) 1)) e.key (fun x => if x.vis = e.vis then none else some x)
  have hhit := (congrArg (fun x => x.1.hit) hv :)
  have hpos := (congrArg (fun x => x.1.pos) hv :)
  have hcnt := (congrArg State.cnt ho :)
  have hfind : ((s.setHit b (setBit (s.hitBits b) 1)).hitBits b).testBit 1 = true := by
    have hne : setBit (s.hitBits b) 1 ≠ 0 := fun h0 => by
      have h1 := testBit_setBit (s.hitBits b) 1 1
      rw [h0] at h1
      simp at h1
    have hh : (s.setHit b (setBit (s.hitBits b) 1)).hitBits b = setBit (s.hitBits b) 1 := by
      refine congrArg (·.getD 0) (?_ : sfind (sput 0 s.fwd.hit b (setBit (s.hitBits b) 1)) b = some _)
      rw [sput, if_neg hne]
      exact sfind_sinsert_self _ _ _
    rw [hh, testBit_setBit]
    rfl
  unfold State.removeAged State.removeVersion
  generalize (s.setHit b (setBit (s.hitBits b) 1)).changeKey e.key (fun x => if x.vis = e.vis then none else some x) = w at *
  refine ⟨hpos, ?_, countedOnce_of_cnt (u := s.count C.aged) (countedOnce_any s _) (count_cnt_congr hcnt _), ?_, ?_, rfl⟩
  · rw [show w = { s with fwd := w.fwd } from ho]
    rfl
  · have hb : w.hitBits b = (s.setHit b (setBit (s.hitBits b) 1)).hitBits b := congrArg (sgetD · b 0) hhit
    show (w.hitBits b).testBit 1 = true
    rw [hb]
    exact hfind
  · show b ∈ if w.fwd.gone.contains b then w.fwd.gone else w.fwd.gone ++ [b]
    split
    · next h => simpa using h
    · simp

theorem main_serves (hup : s.t2Up = true) : s.mainCopy ∈ s.servingCopies := by
  have h := copyUp_main hup
  have hle := mainCopy_le s
  unfold State.servingCopies
  rw [List.mem_filter]
  refine ⟨?_, h⟩
  generalize s.mainCopy = c at hle
  obtain rfl | rfl : c = 0 ∨ c = 1 := by omega
  · decide
  · decide

/-- The removal of the version that stands in a bucket of its key. -/
theorem removeAged_empties (hup : s.t2Up = true) (hk : skeysFrom none (s.copy s.mainCopy) = true) (hf : sfind (s.copy s.mainCopy) b = some e)
    (hb : b = (buckets s.seeds e.key).1 ∨ b = (buckets s.seeds e.key).2) : sfind ((s.removeAged b e).copy s.mainCopy) b = none := by
  obtain ⟨-, -, -, -, -, hc⟩ := removeAged_spec s b e
  rw [hc]
  refine changeKey_removes (s := s.setHit b (setBit (s.hitBits b) 1)) (main_serves hup) ⟨hk, fun x hx => ?_⟩ hb
  obtain rfl : e = x := Option.some.inj (hf.symm.trans hx)
  exact ⟨rfl, if_pos rfl⟩

/-! ## A visit -/

/-- The visit of bucket `b`, in state `s`. -/
def visited (s : State) (aging : Bool) (b : Nat) (e : FwdEntry) : State :=
  if e.learned && (s.fwd.serving.contains (e.resA.toNat / 4 % 1024) || s.fwd.serving.contains everyPort) then s.removeAged b e
  else if aging && !s.agingHeld && e.ageEn && e.vis == 3 then
    if (s.hitBits b).testBit 0 then s.setHit b (clrBit (s.hitBits b) 0) else s.removeAged b e
  else s

theorem exec_carawayVisit (hp : v.fwd.pass = some aging) (hj : v.fwd.job = none) (hup : v.t2Up = true)
    (hf : ((v.readEcc ecc).copy (v.readEcc ecc).mainCopy).find? (fun kv => decide ((v.readEcc ecc).fwd.pos ≤ kv.1) && !kv.2.moved) = some (b, e)) :
    exec (.carawayVisit ecc) v = .next (visited { v.readEcc ecc with fwd := { (v.readEcc ecc).fwd with pos := b + 1 } } aging b e) := by
  have hx : exec (.carawayVisit ecc) v = execCarawayVisit v ecc := rfl
  have hp' : (v.readEcc ecc).fwd.pass = some aging := (readEcc_pass ecc).trans hp
  have hj' : (v.readEcc ecc).fwd.job = none := (readEcc_job ecc).trans hj
  have hup' : (v.readEcc ecc).t2Up = true := (t2Up_of_get (readEcc_status v ecc)).trans hup
  rw [hx, execCarawayVisit]
  generalize v.readEcc ecc = s at *
  refine congrArg _ ?_
  dsimp only
  rw [hp']
  refine (if_neg (by rw [hj', hup']; decide)).trans ?_
  rw [hf]
  rfl

theorem sfind_of_find {m : SMap FwdEntry} {P : Nat × FwdEntry → Bool} (hm : skeysFrom none m = true) (h : m.find? P = some (b, e)) : sfind m b = some e :=
  sfind_of_mem hm (List.mem_of_find?_eq_some h)

theorem hitBits_cleared (h : skeysFrom none s.fwd.hit = true) (b i : Nat) :
    ((s.setHit b (clrBit (s.hitBits b) i)).hitBits b).testBit i = false := by
  have hh : (s.setHit b (clrBit (s.hitBits b) i)).hitBits b = clrBit (s.hitBits b) i := sgetD_sput_self _ _ _ _ h
  rw [hh, testBit_clrBit]
  simp

/-! ## The end of a pass -/

theorem beginPass_eq (s : State) (aging : Bool) : s.beginPass aging = { s with fwd := (s.beginPass aging).fwd } := rfl

theorem nextPass_spec (hp : s.fwd.pass = none) : s.nextPass.fwd.again = s.fwd.again ∧ s.nextPass.fwd.flushSet = s.fwd.flushSet ∧
    s.nextPass.fwd.flushCmd = s.fwd.flushCmd ∧
    s.nextPass.fwd.pass = (if s.fwd.agingDue = true ∧ s.fld .FWD_CARAWAY_CFG F.FWD_CARAWAY_CFG_PERIOD ≠ 0 ∧ s.agingHeld = false then some true
      else if s.fwd.flushSet ≠ [] ∧ s.t2Up = true then some false else none) := by
  have hne : s.nextPass = if s.agingWaits && !s.agingHeld then s.beginPass true else s.flushStart := if_neg (by rw [hp]; decide)
  have hcond : (s.agingWaits && !s.agingHeld) = true ↔
      (s.fwd.agingDue = true ∧ s.fld .FWD_CARAWAY_CFG F.FWD_CARAWAY_CFG_PERIOD ≠ 0 ∧ s.agingHeld = false) := by
    rw [State.agingWaits, Bool.and_eq_true, Bool.and_eq_true, bne_iff_ne, Bool.not_eq_true', and_assoc]
  have hfl : (s.fwd.pass.isNone && !s.fwd.flushSet.isEmpty && s.t2Up) = true ↔ (s.fwd.flushSet ≠ [] ∧ s.t2Up = true) := by
    rw [hp, Option.isNone_none, Bool.true_and, Bool.and_eq_true, Bool.not_eq_true', List.isEmpty_eq_false_iff]
  rw [hne]
  by_cases h1 : s.agingWaits && !s.agingHeld
  · rw [if_pos h1, if_pos (hcond.mp h1)]
    exact ⟨rfl, rfl, rfl, rfl⟩
  · rw [if_neg h1, if_neg (fun h => h1 (hcond.mpr h)), State.flushStart]
    by_cases h2 : (s.fwd.pass.isNone && !s.fwd.flushSet.isEmpty && s.t2Up) = true
    · rw [if_pos h2, if_pos (hfl.mp h2)]
      exact ⟨rfl, rfl, rfl, rfl⟩
    · rw [if_neg h2, if_neg (fun h => h2 (hfl.mpr h))]
      exact ⟨rfl, rfl, rfl, hp⟩

/-- The state at the end of a pass, before the next one begins. -/
def passOver (s : State) : State :=
  { s with fwd := { s.fwd with
      pass := none, serving := [], again := [], pos := 0,
      flushSet := s.fwd.flushSet.filter fun p => !(s.fwd.serving.filter fun p => !s.fwd.again.contains p).contains p,
      flushCmd := if s.fwd.cmdServed then none else s.fwd.flushCmd, cmdServed := false } }

theorem exec_carawayPassEnd (hp : s.fwd.pass = some aging) (h : ((s.copy s.mainCopy).any fun kv => decide (s.fwd.pos ≤ kv.1) && !kv.2.moved) = false) :
    exec .carawayPassEnd s = .next (passOver s).nextPass := by
  have hx : exec .carawayPassEnd s = execCarawayPassEnd s := rfl
  rw [hx, execCarawayPassEnd]
  refine congrArg _ ?_
  rw [hp]
  exact if_neg (by rw [h]; decide)

/-! ## GONE and the decay -/

theorem exec_goneClear (hg : b ∈ s.fwd.gone) : exec (.goneClear b) s = .next
    { (s.setHit b (clrBit (s.hitBits b) 1)) with
      fwd := { (s.setHit b (clrBit (s.hitBits b) 1)).fwd with gone := s.fwd.gone.filter (· != b) } } := by
  have hx : exec (.goneClear b) s = execGoneClear b s := rfl
  rw [hx, execGoneClear]
  exact congrArg _ (if_pos (by simpa using hg))

theorem hitBits_setHit_ne {k : Nat} (h : k ≠ b) (n : Nat) : (s.setHit b n).hitBits k = s.hitBits k := sgetD_sput_ne _ _ _ _ _ _ (Ne.symm h)

/-- A set of tier 1 one step later. -/
def decayed (w : T1Set) : T1Set :=
  { w with ways := w.ways.map fun o => match o with
      | some x => some { x with recn := x.recn - 1 }
      | none => none }

theorem decayed_ways (w : T1Set) : decayed w = { w with ways := w.ways.map (Option.map fun x : Way => { x with recn := x.recn - 1 }) } := by
  unfold decayed
  refine congrArg (fun l => { w with ways := l }) (List.map_congr_left fun o _ => ?_)
  cases o <;> rfl

theorem exec_t1DecayTick (h : s.t2Up = true) : exec .t1DecayTick s = .next { s with fwd := { s.fwd with t1 := s.fwd.t1.map fun kv => (kv.1, decayed kv.2) } } := by
  have hx : exec .t1DecayTick s = execT1DecayTick s := rfl
  rw [hx, execT1DecayTick]
  exact congrArg _ (if_neg (by rw [h]; decide))

end Sys2Proof
end

section
/-! PROOF. HBM_STACK_DOWN: the copies of tier 2 and the cells spilled there (R267, R294, R297). -/
namespace Sys2Proof

open Sys2Proof.Machine

set_option Elab.async false

variable {s u v w t : State} {aging : Bool} {b : Nat} {e : FwdEntry}

/-! ## What the loss of a copy leaves alone -/

/-- Nothing but the table's registers, the exact-match table, counters of moves, free values and what signalling changes; conditions
stay raised. -/
structure Downs (s t : State) : Prop where
  sig : Signals [.FWD_HASH_STATUS, .FWD_REHASH_CTL] [C.relocations] { s with fwd := t.fwd, free := t.free } t
  raised : ∀ c i, s.raised c i = true → t.raised c i = true

theorem event_keeps_raised {c i : Nat} (h : s.raised c i = true) (code inst d : Nat) : (s.event code inst d).raised c i = true := by
  rw [raised_iff] at h ⊢
  rw [event_raised]
  unfold occurred
  dsimp only
  split
  · exact List.mem_append_left _ h
  · exact h

theorem raise_keeps_raised {c i : Nat} (h : s.raised c i = true) (code inst d : Nat) : (s.raise code inst d).raised c i = true :=
  keep_ite (P := fun t : State => t.raised c i = true) h (event_keeps_raised h code inst d)

namespace Downs

theorem refl : Downs s s := ⟨.refl, fun _ _ h => h⟩

theorem trans (h : Downs s u) (h' : Downs u v) : Downs s v := by
  refine ⟨?_, fun c i hc => h'.raised c i (h.raised c i hc)⟩
  refine Signals.trans (u := { u with fwd := v.fwd, free := v.free }) ?_ h'.sig
  exact ⟨by rw [h.sig.rest], h.sig.regs, h.sig.cnts⟩

theorem fwd (h : Downs s u) (x : Fwd) : Downs s { u with fwd := x } := ⟨⟨by rw [h.sig.rest], h.sig.regs, h.sig.cnts⟩, h.raised⟩

theorem free (h : Downs s u) (x : Nat) : Downs s { u with free := x } := ⟨⟨by rw [h.sig.rest], h.sig.regs, h.sig.cnts⟩, h.raised⟩

theorem ite {c : Prop} [Decidable c] (h : Downs s u) (h' : Downs s v) : Downs s (if c then u else v) := keep_ite h h'

theorem status (h : Downs s u) (f : Fld) (n : Nat) : Downs s (u.setFld .FWD_HASH_STATUS f n) :=
  h.trans ⟨Signals.refl.setFld (by simp) f n, fun _ _ hc => hc⟩

theorem ctl (h : Downs s u) (f : Fld) (n : Nat) : Downs s (u.setFld .FWD_REHASH_CTL f n) :=
  h.trans ⟨Signals.refl.setFld (by simp) f n, fun _ _ hc => hc⟩

theorem countN (h : Downs s u) (n : Nat) : Downs s (u.countN C.relocations n) := by
  refine h.trans ⟨?_, fun _ _ hc => ?_⟩
  · have hw : Writes [.FWD_HASH_STATUS, .FWD_REHASH_CTL] [C.relocations] u (u.countN C.relocations n) := Writes.refl.countN (by simp) n
    have he := countN_only u C.relocations n
    rw [he] at hw ⊢
    exact hw.signals
  · rw [countN_only]
    exact hc

theorem raise (h : Downs s u) {code : Nat} (hc : code < 256) (i d : Nat) : Downs s (u.raise code i d) := by
  have hr : (u.raise code i d).fwd = u.fwd ∧ (u.raise code i d).free = u.free := by
    have hs : Signals [] [] u (u.raise code i d) := Signals.refl.raise hc i d
    exact ⟨(congrArg State.fwd hs.rest :), (congrArg State.free hs.rest :)⟩
  refine h.trans ⟨?_, fun _ _ hc => raise_keeps_raised hc code i d⟩
  rw [hr.1, hr.2]
  exact Signals.refl.raise hc i d

theorem setCopy (h : Downs s u) (c : Nat) (m : SMap FwdEntry) : Downs s (u.setCopy c m) := .ite (h.fwd _) (h.fwd _)

theorem nextPass (h : Downs s u) : Downs s u.nextPass := .ite h (.ite (h.fwd _) (.ite (h.fwd _) h))

theorem rehashFailed (h : Downs s u) : Downs s u.rehashFailed := ((((h.ctl _ _).status _ _).fwd _)).nextPass

theorem jobLost (h : Downs s u) : Downs s u.jobLost := by
  unfold State.jobLost
  split
  · exact h
  · exact h.fwd _

theorem survivor (h : Downs s u) (c : Nat) : Downs s (u.survivor c) := by
  unfold State.survivor
  extract_lets n src r m src2 w
  have hw : Downs s w := (h.countN _).fwd _
  clear_value w
  refine .ite (.ite ((((h.fwd _).free _).fwd _).status _ _) ?_) (.ite ((((h.fwd _).free _).fwd _).status _ _) h)
  exact ((((hw.free _).fwd _).jobLost).status _ _)

end Downs

/-! ## The copy that survives -/

/-- No set of tier 1 holds a copy. -/
def T1Empty (s : State) : Prop := ∀ kv ∈ s.fwd.t1, kv.2.ways = [none, none, none, none]

theorem t1Clear_empty (s : State) : T1Empty s.t1Clear := by
  intro kv hkv
  obtain ⟨x, -, hx⟩ := List.mem_filterMap.mp hkv
  split at hx
  · cases hx
  · rw [← Option.some.inj hx]

theorem survivor_idle {c : Nat} (h : ¬ (s.hashState = 1 ∧ c = 0)) (h' : ¬ (s.hashState = 2 ∧ c = 1)) : s.survivor c = s :=
  (if_neg h).trans (if_neg h')

theorem jobLost_fwd (s : State) : s.jobLost.fwd.t1 = s.fwd.t1 ∧ s.jobLost.fwd.stacks0 = s.fwd.stacks0 ∧ s.jobLost.fwd.stacks1 = s.fwd.stacks1 ∧ s.jobLost.regs = s.regs := by
  unfold State.jobLost
  split <;> exact ⟨rfl, rfl, rfl, rfl⟩

/-- What a copy that survives the other is: in service, with tier 1 empty. -/
structure Survives (s t : State) (c : Nat) : Prop where
  up : t.copyUp c = true
  empty : T1Empty t
  places : t.fwd.stacks0 = s.fwd.stacks0 ∧ t.fwd.stacks1 = s.fwd.stacks1
  state : t.hashState = s.hashState

/-- A copy enters service in a state that has emptied tier 1. -/
theorem survives_setCopyUp (hr : u.regs = s.regs) (hs : s.regsOk) (h1 : T1Empty u) (h2 : u.fwd.stacks0 = s.fwd.stacks0 ∧ u.fwd.stacks1 = s.fwd.stacks1)
    (c : Nat) : Survives s (u.setCopyUp c true) c := by
  have hu : u.regsOk := by unfold State.regsOk at *; rwa [hr]
  exact ⟨copyUp_setCopyUp hu c true, h1, h2, (hashState_setCopyUp hu c true).trans (hashState_of_get (get_of_regs hr _))⟩

theorem countN_regs (s : State) (id n : Nat) : (s.countN id n).regs = s.regs ∧ (s.countN id n).fwd = s.fwd := by
  rw [countN_only]
  exact ⟨rfl, rfl⟩

theorem survivor_of_one (hs : s.regsOk) (h : s.hashState = 1) : Survives s (s.survivor 0) 1 := by
  unfold State.survivor
  extract_lets n src r m src2 w
  rw [if_pos ⟨h, rfl⟩]
  split
  · exact survives_setCopyUp (s := s) (u := ({ s with fwd := { src with copy1 := List.take n s.fwd.copy0, over1 := s.fwd.over0 } }).tick1Free.t1Clear) rfl hs
      (t1Clear_empty _) ⟨rfl, rfl⟩ 1
  · obtain ⟨k1, k2, k3, k4⟩ := jobLost_fwd (w.tick1Free.placedAnew m)
    have hreg : w.regs = s.regs := (countN_regs s C.relocations r.2).1
    refine survives_setCopyUp (s := s) (u := (w.tick1Free.placedAnew m).jobLost) (k4.trans hreg) hs ?_ ⟨k2.trans rfl, k3.trans rfl⟩ 1
    intro kv hkv
    rw [k1] at hkv
    exact t1Clear_empty w.tick1Free kv hkv

theorem survivor_of_two (hs : s.regsOk) (h : s.hashState = 2) : Survives s (s.survivor 1) 0 := by
  unfold State.survivor
  extract_lets n src r m src2 w
  rw [if_neg (fun h' => absurd h'.2 (by decide)), if_pos ⟨h, rfl⟩]
  exact survives_setCopyUp (s := s) (u := ({ s with fwd := { src with copy0 := List.take n s.fwd.copy1 } }).tick1Free.t1Clear) rfl hs (t1Clear_empty _) ⟨rfl, rfl⟩ 0

/-- Whatever a survivor is, the stacks stay where they are, and no rebuild's state changes. -/
theorem survivor_keeps (hs : s.regsOk) (c : Nat) : (s.survivor c).fwd.stacks0 = s.fwd.stacks0 ∧ (s.survivor c).fwd.stacks1 = s.fwd.stacks1 ∧
    (s.survivor c).hashState = s.hashState := by
  by_cases h1 : s.hashState = 1 ∧ c = 0
  · obtain ⟨h, rfl⟩ := h1
    obtain ⟨-, -, ⟨k1, k2⟩, k3⟩ := survivor_of_one hs h
    exact ⟨k1, k2, k3⟩
  · by_cases h2 : s.hashState = 2 ∧ c = 1
    · obtain ⟨h, rfl⟩ := h2
      obtain ⟨-, -, ⟨k1, k2⟩, k3⟩ := survivor_of_two hs h
      exact ⟨k1, k2, k3⟩
    · rw [survivor_idle h1 h2]
      exact ⟨rfl, rfl, rfl⟩

/-! ## A copy goes down -/

/-- The table once copy `c` has gone. -/
def downFwd (s : State) (c : Nat) : State :=
  let s := s.setCopy c []
  let s := if c = 0 then { s with fwd := { s.fwd with stacks0 := none } } else { s with fwd := { s.fwd with stacks1 := none } }
  let kept := if s.copyUp (1 - c) == (c == 0) then s.fwd.over1 else s.fwd.over0
  { s with fwd := { s.fwd with over0 := kept, over1 := kept } }

/-- The copy is out of service, its condition raised. -/
def downNoted (s : State) (c h : Nat) : State := ((s.survivor c).setCopyUp c false).raise Ev.t2CopyDown c h

/-- A rebuild under way fails. -/
def downFailed (s : State) : State := if s.rebuilding then s.rehashFailed else s

/-- With no copy left tier 2 is down. -/
def downLast (s : State) : State :=
  if s.t2Up then s else { (s.raise Ev.tier2Down 0 0) with fwd := { (s.raise Ev.tier2Down 0 0).fwd with pass := none } }

theorem copyDown_eq (s : State) (c h : Nat) : s.copyDown c h = downLast (downFailed (downFwd (downNoted s c h) c)) := rfl

theorem downFwd_only (s : State) (c : Nat) : FwdOnly s (downFwd s c) := by
  unfold downFwd
  extract_lets u f0 v o f1
  have hu : FwdOnly s u := FwdOnly.setCopy .refl c []
  clear_value u
  have hv : FwdOnly s v := keep_ite (hu.fwd _) (hu.fwd _)
  clear_value v
  exact hv.fwd _

theorem downs_of_fwdOnly (h : FwdOnly s t) : Downs s t := by
  rw [show t = { s with fwd := t.fwd } from h]
  exact Downs.refl.fwd _

theorem downLast_downs (s : State) : Downs s (downLast s) := .ite .refl ((Downs.refl.raise (by decide) 0 0).fwd _)

theorem downFailed_downs (s : State) : Downs s (downFailed s) := .ite (Downs.refl.rehashFailed) .refl

theorem downNoted_downs (s : State) (c h : Nat) : Downs s (downNoted s c h) := ((Downs.refl.survivor c).status _ _).raise (by decide) _ _

theorem copyDown_downs (s : State) (c h : Nat) : Downs s (s.copyDown c h) := by
  rw [copyDown_eq]
  exact (((downNoted_downs s c h).trans (downs_of_fwdOnly (downFwd_only _ c))).trans (downFailed_downs _)).trans (downLast_downs _)

/-- The copies, their stacks and tier 1 of a state. -/
def tiers (s : State) : SMap FwdEntry × SMap FwdEntry × Option (Nat × Nat) × Option (Nat × Nat) × SMap T1Set :=
  (s.fwd.copy0, s.fwd.copy1, s.fwd.stacks0, s.fwd.stacks1, s.fwd.t1)

theorem raise_status (s : State) {code : Nat} (hc : code < 256) (i d : Nat) :
    (s.raise code i d).get .FWD_HASH_STATUS = s.get .FWD_HASH_STATUS ∧ (s.raise code i d).fwd = s.fwd := by
  have hs : Signals [] [] s (s.raise code i d) := Signals.refl.raise hc i d
  exact ⟨(hs.regs _ hashStatus_not_signal nofun).1, (congrArg State.fwd hs.rest :)⟩

theorem downLast_spec (s : State) : (∀ d, (downLast s).copyUp d = s.copyUp d) ∧ tiers (downLast s) = tiers s ∧ (downLast s).hashState = s.hashState := by
  obtain ⟨h1, h2⟩ := raise_status s (code := Ev.tier2Down) (by decide) 0 0
  unfold downLast
  split
  · exact ⟨fun _ => rfl, rfl, rfl⟩
  · exact ⟨fun d => copyUp_of_get h1 d, (congrArg (fun x : Fwd => (x.copy0, x.copy1, x.stacks0, x.stacks1, x.t1)) h2 :), hashState_of_get h1⟩

theorem nextPass_tiers (s : State) : tiers s.nextPass = tiers s :=
  keep_ite (P := fun t => tiers t = tiers s) rfl (keep_ite (P := fun t => tiers t = tiers s) rfl (keep_ite (P := fun t => tiers t = tiers s) rfl rfl))

theorem rehashFailed_spec (hs : s.regsOk) : (∀ d, s.rehashFailed.copyUp d = s.copyUp d) ∧ tiers s.rehashFailed = tiers s ∧ s.rehashFailed.hashState = 4 := by
  have h1 : (s.setFld .FWD_REHASH_CTL F.FWD_REHASH_CTL_GO 0).regsOk := regsOk_setFld hs
  have hn := nextPass_only { (s.setFld .FWD_REHASH_CTL F.FWD_REHASH_CTL_GO 0).setHashState 4 with fwd := { s.fwd with rebuildFailed := false } }
  have hreg : s.rehashFailed.regs = ((s.setFld .FWD_REHASH_CTL F.FWD_REHASH_CTL_GO 0).setHashState 4).regs := (congrArg State.regs hn :)
  have hget := get_of_regs hreg .FWD_HASH_STATUS
  refine ⟨fun d => ?_, nextPass_tiers _, ?_⟩
  · exact (copyUp_of_get hget d).trans ((copyUp_setHashState h1 4 d).trans (copyUp_rehashCtl 0 d))
  · exact (hashState_of_get hget).trans (hashState_setHashState h1 (by decide))

theorem downFailed_spec (hs : s.regsOk) : (∀ d, (downFailed s).copyUp d = s.copyUp d) ∧ tiers (downFailed s) = tiers s ∧
    (downFailed s).hashState = if s.rebuilding = true then 4 else s.hashState := by
  unfold downFailed
  split
  · exact rehashFailed_spec hs
  · exact ⟨fun _ => rfl, rfl, rfl⟩

theorem downFwd_tiers (s : State) : tiers (downFwd s 0) = ([], s.fwd.copy1, none, s.fwd.stacks1, s.fwd.t1) ∧
    tiers (downFwd s 1) = (s.fwd.copy0, [], s.fwd.stacks0, none, s.fwd.t1) := ⟨rfl, rfl⟩

theorem downNoted_spec (hs : s.regsOk) (hu : (s.survivor c).regsOk) (h : Nat) : (downNoted s c h).copyUp c = false ∧
    (downNoted s c h).fwd = (s.survivor c).fwd ∧ (downNoted s c h).hashState = s.hashState ∧
    (downNoted s c h).get .FWD_HASH_STATUS = ((s.survivor c).setCopyUp c false).get .FWD_HASH_STATUS := by
  obtain ⟨h1, h2⟩ := raise_status ((s.survivor c).setCopyUp c false) (code := Ev.t2CopyDown) (by decide) c h
  refine ⟨(copyUp_of_get h1 c).trans (copyUp_setCopyUp hu c false), h2, ?_, h1⟩
  exact (hashState_of_get h1).trans ((hashState_setCopyUp hu c false).trans (survivor_keeps hs c).2.2)

/-- Copy `c` has gone: everything but its own place in service, its buckets and stacks is its survivor's. -/
theorem copyDown_spec (hs : StoresCanonical s) (c h : Nat) : (s.copyDown c h).copyUp c = false ∧
    (∀ d, ((s.survivor c).setCopyUp c false).copyUp d = (s.copyDown c h).copyUp d) ∧
    tiers (s.copyDown c h) = tiers (downFwd (s.survivor c) c) ∧
    (s.copyDown c h).hashState = if s.rebuilding = true then 4 else s.hashState := by
  have hu : (s.survivor c).regsOk := ((Evolves.refl.survivor c).stores hs).regs
  obtain ⟨k1, k2, k3, k4⟩ := downNoted_spec hs.regs hu h
  have hn : (downNoted s c h).regsOk := (StoresCanonical.signalProof.raise (((Evolves.refl.survivor c).stores hs).setFld ..) (by decide : Ev.t2CopyDown < 256) c h).regs
  have hf := downFwd_only (downNoted s c h) c
  have hreg : (downFwd (downNoted s c h) c).regs = (downNoted s c h).regs := (congrArg State.regs hf :)
  have hget := get_of_regs hreg .FWD_HASH_STATUS
  have hok : (downFwd (downNoted s c h) c).regsOk := by unfold State.regsOk at *; rwa [hreg]
  obtain ⟨l1, l2, l3⟩ := downFailed_spec hok
  obtain ⟨m1, m2, m3⟩ := downLast_spec (downFailed (downFwd (downNoted s c h) c))
  have hreb : (downFwd (downNoted s c h) c).rebuilding = s.rebuilding := by
    rw [State.rebuilding, hashState_of_get hget, k3, State.rebuilding]
  have ht : tiers (downFwd (downNoted s c h) c) = tiers (downFwd (s.survivor c) c) := by
    by_cases hc : c = 0
    · subst hc
      rw [(downFwd_tiers _).1, (downFwd_tiers _).1, k2]
    · have he (x : State) : tiers (downFwd x c) = (x.fwd.copy0, [], x.fwd.stacks0, none, x.fwd.t1) := by
        unfold downFwd State.setCopy tiers
        simp only [hc, if_false]
      rw [he, he, k2]
  have hup (d : Nat) : (s.copyDown c h).copyUp d = (downNoted s c h).copyUp d := by
    rw [copyDown_eq]
    exact (m1 d).trans ((l1 d).trans (copyUp_of_get hget d))
  refine ⟨(hup c).trans k1, fun d => ?_, ?_, ?_⟩
  · rw [hup]
    exact (copyUp_of_get k4 d).symm
  · rw [copyDown_eq, m2, l2, ht]
  · rw [copyDown_eq, m3, l3, hreb, hashState_of_get hget, k3]

end Sys2Proof
end

section
/-! PROOF. HBM_STACK_DOWN as a whole, and the obligation on Caraway and stacks (R262 to R267, R294, R297). -/
namespace Sys2Proof

open Sys2Proof.Machine

set_option Elab.async false

variable {s u v w t : State} {h : Nat}

/-! ## Spilled cells -/

/-- What the loss of spilled cells leaves alone. -/
structure SpillKeeps (s t : State) : Prop where
  fwd : t.fwd = s.fwd
  frames : t.frames = s.frames
  regs : ∀ q : Reg, ¬ signalAddr q.addr → t.get q = s.get q
  raised : ∀ c i, s.raised c i = true → t.raised c i = true

/-- A replica once the cells spilled on stack `h` are lost. -/
def cellsLost (h : Nat) (r : Replica) : Replica := if r.spill = SpillSt.inSpill h then { r with spill := .lost h } else r

/-- One replica of the loss. -/
def lossStep (h : Nat) (s : State) (kv : Nat × Replica) : State :=
  if kv.2.spill = SpillSt.inSpill h then ((s.putRep kv.1 { kv.2 with spill := .lost h }).count C.spillLost).event Ev.spillLost h 0 else s

theorem spillLoss_eq (s : State) (h : Nat) : s.spillLoss h = s.frameYields.reps.foldl (lossStep h) s.frameYields := rfl

theorem lossStep_keeps (hv : SpillKeeps s v) (kv : Nat × Replica) : SpillKeeps s (lossStep h v kv) := by
  refine keep_ite ?_ hv
  have hw : SpillKeeps s (v.putRep kv.1 { kv.2 with spill := .lost h }) := ⟨hv.fwd, hv.frames, hv.regs, hv.raised⟩
  generalize v.putRep kv.1 { kv.2 with spill := .lost h } = w at hw ⊢
  have hs : Signals [] [] (w.count C.spillLost) ((w.count C.spillLost).event Ev.spillLost h 0) := Signals.refl.event (by decide) _ _
  have hc : SpillKeeps s (w.count C.spillLost) := ⟨hw.fwd, hw.frames, hw.regs, hw.raised⟩
  generalize w.count C.spillLost = x at hs hc ⊢
  exact ⟨(congrArg State.fwd hs.rest :).trans hc.fwd, (congrArg State.frames hs.rest :).trans hc.frames,
    fun q hq => (hs.regs q hq nofun).1.trans (hc.regs q hq), fun c i hr => event_keeps_raised (hc.raised c i hr) _ _ _⟩

theorem lossStep_rep (v : State) (kv : Nat × Replica) (k : Nat) :
    (lossStep h v kv).rep k = if kv.1 = k ∧ kv.2.spill = SpillSt.inSpill h then some (cellsLost h kv.2) else v.rep k := by
  unfold lossStep
  by_cases hsp : kv.2.spill = SpillSt.inSpill h
  · rw [if_pos hsp]
    have hr : (((v.putRep kv.1 { kv.2 with spill := .lost h }).count C.spillLost).event Ev.spillLost h 0).reps = sinsert v.reps kv.1 { kv.2 with spill := .lost h } :=
      (congrArg State.reps (event_rest ((v.putRep kv.1 { kv.2 with spill := .lost h }).count C.spillLost) (code := Ev.spillLost) (by decide) h 0) :)
    rw [State.rep, hr]
    by_cases hk : kv.1 = k
    · subst hk
      rw [if_pos ⟨rfl, hsp⟩, sfind_sinsert_self, cellsLost, if_pos hsp]
    · rw [if_neg (fun hh => hk hh.1), sfind_sinsert_ne _ _ _ _ hk]
      rfl
  · rw [if_neg hsp, if_neg (fun hh => hsp hh.2)]

theorem cellsLost_idle {r : Replica} (hr : r.spill ≠ SpillSt.inSpill h) : cellsLost h r = r := if_neg hr

/-- Each replica of the list loses the cells that it has on the stack. -/
theorem loss_rep (hw : skeysFrom none w.reps = true) {k : Nat} {r : Replica} (hr : w.rep k = some r) :
    (w.reps.foldl (lossStep h) w).rep k = some (cellsLost h r) := by
  have huniq : ∀ kv ∈ w.reps, kv.1 = k → kv.2 = r := fun kv hm hk => by
    have := sfind_of_mem hw hm
    rw [hk] at this
    exact Option.some.inj (this.symm.trans hr)
  obtain ⟨a, b, hl⟩ := List.append_of_mem (mem_of_sfind hr)
  have hstep {v : State} (kv : Nat × Replica) (hm : kv ∈ w.reps) (hv : v.rep k = some r ∨ v.rep k = some (cellsLost h r)) :
      (lossStep h v kv).rep k = some r ∨ (lossStep h v kv).rep k = some (cellsLost h r) := by
    rw [lossStep_rep]
    split
    · next hk => rw [huniq kv hm hk.1]; exact .inr rfl
    · exact hv
  have hafter {v : State} (kv : Nat × Replica) (hm : kv ∈ w.reps) (hv : v.rep k = some (cellsLost h r)) :
      (lossStep h v kv).rep k = some (cellsLost h r) := by
    rw [lossStep_rep]
    split
    · next hk => rw [huniq kv hm hk.1]
    · exact hv
  have h1 : (a.foldl (lossStep h) w).rep k = some r ∨ (a.foldl (lossStep h) w).rep k = some (cellsLost h r) :=
    foldl_keeps (P := fun v : State => v.rep k = some r ∨ v.rep k = some (cellsLost h r)) a _ (.inl hr)
      fun v kv hm hv => hstep kv (by rw [hl]; exact List.mem_append_left _ hm) hv
  have h2 : (lossStep h (a.foldl (lossStep h) w) (k, r)).rep k = some (cellsLost h r) := by
    rw [lossStep_rep]
    split
    · rfl
    · next hn =>
      have hsp : r.spill ≠ SpillSt.inSpill h := fun hh => hn ⟨rfl, hh⟩
      rw [cellsLost_idle hsp] at h1 ⊢
      exact h1.elim id id
  rw [hl, List.foldl_append, List.foldl_cons]
  exact foldl_keeps (P := fun v : State => v.rep k = some (cellsLost h r)) b _ h2
    fun v kv hm hv => hafter kv (by rw [hl]; exact List.mem_append_right _ (List.mem_cons_of_mem _ hm)) hv

theorem calm_eq {r r' : Replica} (he : Replica.calm r' = Replica.calm r) : r' = { r with yielded := r'.yielded } := by
  have : { Replica.calm r' with yielded := r'.yielded } = { Replica.calm r with yielded := r'.yielded } := congrArg (fun x : Replica => { x with yielded := r'.yielded }) he
  exact this

theorem spillLoss_spec (hs : StoresCanonical s) (h : Nat) : SpillKeeps s (s.spillLoss h) ∧
    ∀ k r, s.rep k = some r → ∃ b, (s.spillLoss h).rep k = some { cellsLost h r with yielded := b } := by
  have hy := (frameYields_noted hs).reps
  have hrest := frameYields_rest s
  have hcan : StoresCanonical s.frameYields := Evolves.refl.frameYields.stores hs
  rw [spillLoss_eq]
  generalize s.frameYields = w at *
  have hw : SpillKeeps s w := ⟨by rw [hrest], by rw [hrest], fun q _ => get_of_regs (congrArg State.regs hrest :) q, fun c i hc => by rw [hrest]; exact hc⟩
  refine ⟨foldl_keeps (P := SpillKeeps s) _ _ hw fun v kv _ hv => lossStep_keeps hv kv, fun k r hr => ?_⟩
  have hk := hy k
  rw [hr] at hk
  obtain ⟨r', hr', hcalm⟩ := Option.map_eq_some_iff.mp hk
  refine ⟨r'.yielded, (loss_rep hcan.reps hr').trans (congrArg some ?_)⟩
  rw [calm_eq hcalm]
  unfold cellsLost
  dsimp only
  split <;> rfl

/-! ## The copies on a stack -/

/-- A copy lies on stack `h`. -/
def onStack (h : Nat) (o : Option (Nat × Nat)) : Bool := match o with | some (a, b) => a == h || b == h | none => false

/-- What the loss of a stack does to the copies that lie on it, `a` and `b` saying which. -/
structure StackLoss (a b : Bool) (s t : State) : Prop where
  first : a = true → t.copyUp 0 = false ∧ t.fwd.copy0 = [] ∧ t.fwd.stacks0 = none
  second : b = true → t.copyUp 1 = false ∧ t.fwd.copy1 = [] ∧ t.fwd.stacks1 = none
  over1 : s.hashState = 1 → a = true → b = false → t.copyUp 1 = true ∧ T1Empty t
  over0 : s.hashState = 2 → b = true → a = false → t.copyUp 0 = true ∧ T1Empty t
  kept0 : a = false → s.hashState ≠ 2 ∨ b = false → t.copyUp 0 = s.copyUp 0 ∧ t.fwd.copy0 = s.fwd.copy0
  kept1 : b = false → s.hashState ≠ 1 ∨ a = false → t.copyUp 1 = s.copyUp 1 ∧ t.fwd.copy1 = s.fwd.copy1

/-- The copies that a state without stack `h` has lost. -/
def copiesLost (s : State) (h : Nat) : State :=
  let s := if onStack h s.fwd.stacks0 then s.copyDown 0 h else s
  if onStack h s.fwd.stacks1 then s.copyDown 1 h else s

theorem copiesLost_downs (s : State) (h : Nat) : Downs s (copiesLost s h) := by
  have h1 : Downs s (if onStack h s.fwd.stacks0 then s.copyDown 0 h else s) := .ite (copyDown_downs s 0 h) .refl
  exact .ite (h1.trans (copyDown_downs _ 1 h)) h1

theorem t1Empty_of (h : T1Empty u) (ht : t.fwd.t1 = u.fwd.t1) : T1Empty t := by
  unfold T1Empty at *
  rwa [ht]

/-- Both copies were there, and no rebuild ran. -/
theorem copiesLost_both (hs : StoresCanonical s) (ha : onStack h s.fwd.stacks0 = true) (hb : onStack h s.fwd.stacks1 = true) :
    StackLoss true true s (copiesLost s h) := by
  obtain ⟨k1, k2, k3, k4⟩ := copyDown_spec hs 0 h
  rw [(downFwd_tiers _).1] at k3
  have hst1 : (s.copyDown 0 h).fwd.stacks1 = s.fwd.stacks1 := (congrArg (·.2.2.2.1) k3 :).trans (survivor_keeps hs.regs 0).2.1
  have hidle : (s.copyDown 0 h).survivor 1 = s.copyDown 0 h := by
    refine survivor_idle (by simp) fun hh => ?_
    rw [k4] at hh
    by_cases hr : s.rebuilding = true
    · rw [if_pos hr] at hh; exact absurd hh.1 (by decide)
    · rw [if_neg hr] at hh
      exact hr (by rw [State.rebuilding, hh.1]; rfl)
  have hcan : StoresCanonical (s.copyDown 0 h) := (Evolves.refl.copyDown 0 h).stores hs
  obtain ⟨l1, l2, l3, -⟩ := copyDown_spec hcan 1 h
  rw [hidle] at l2 l3
  rw [(downFwd_tiers _).2] at l3
  have he : copiesLost s h = (s.copyDown 0 h).copyDown 1 h := by
    unfold copiesLost
    dsimp only
    rw [if_pos ha, hst1, if_pos hb]
  rw [he]
  have hup0 : ((s.copyDown 0 h).copyDown 1 h).copyUp 0 = false := (l2 0).symm.trans ((copyUp_zero_of_one hcan.regs false).trans k1)
  refine ⟨fun _ => ⟨hup0, ?_, ?_⟩, fun _ => ⟨l1, (congrArg (·.2.1) l3 :), (congrArg (·.2.2.2.1) l3 :)⟩, nofun, nofun, nofun, nofun⟩
  · exact (congrArg (·.1) l3 :).trans (congrArg (·.1) k3 :)
  · exact (congrArg (·.2.2.1) l3 :).trans (congrArg (·.2.2.1) k3 :)

theorem copiesLost_first (hs : StoresCanonical s) (ha : onStack h s.fwd.stacks0 = true) (hb : onStack h s.fwd.stacks1 = false) :
    StackLoss true false s (copiesLost s h) := by
  obtain ⟨k1, k2, k3, k4⟩ := copyDown_spec hs 0 h
  rw [(downFwd_tiers _).1] at k3
  have hu : (s.survivor 0).regsOk := ((Evolves.refl.survivor 0).stores hs).regs
  have hst1 : (s.copyDown 0 h).fwd.stacks1 = s.fwd.stacks1 := (congrArg (·.2.2.2.1) k3 :).trans (survivor_keeps hs.regs 0).2.1
  have he : copiesLost s h = s.copyDown 0 h := by
    unfold copiesLost
    dsimp only
    rw [if_pos ha, hst1, if_neg (by rw [hb]; decide)]
  have hup1 : (s.copyDown 0 h).copyUp 1 = (s.survivor 0).copyUp 1 := (k2 1).symm.trans (copyUp_one_of_zero hu false)
  rw [he]
  refine ⟨fun _ => ⟨k1, (congrArg (·.1) k3 :), (congrArg (·.2.2.1) k3 :)⟩, nofun, fun h1 _ _ => ?_, nofun, nofun, fun _ hne => ?_⟩
  · have hsv := survivor_of_one hs.regs h1
    exact ⟨hup1.trans hsv.up, t1Empty_of hsv.empty (congrArg (·.2.2.2.2) k3 :)⟩
  · have hidle : s.survivor 0 = s := survivor_idle (fun hh => hne.resolve_right nofun hh.1) (by simp)
    rw [hidle] at hup1 k3
    exact ⟨hup1, (congrArg (·.2.1) k3 :)⟩

theorem copiesLost_second (hs : StoresCanonical s) (ha : onStack h s.fwd.stacks0 = false) (hb : onStack h s.fwd.stacks1 = true) :
    StackLoss false true s (copiesLost s h) := by
  obtain ⟨k1, k2, k3, k4⟩ := copyDown_spec hs 1 h
  rw [(downFwd_tiers _).2] at k3
  have hu : (s.survivor 1).regsOk := ((Evolves.refl.survivor 1).stores hs).regs
  have he : copiesLost s h = s.copyDown 1 h := by
    unfold copiesLost
    dsimp only
    simp only [ha, Bool.false_eq_true, if_false, hb, if_true]
  have hup0 : (s.copyDown 1 h).copyUp 0 = (s.survivor 1).copyUp 0 := (k2 0).symm.trans (copyUp_zero_of_one hu false)
  rw [he]
  refine ⟨nofun, fun _ => ⟨k1, (congrArg (·.2.1) k3 :), (congrArg (·.2.2.2.1) k3 :)⟩, nofun, fun h2 _ _ => ?_, fun _ hne => ?_, nofun⟩
  · have hsv := survivor_of_two hs.regs h2
    exact ⟨hup0.trans hsv.up, t1Empty_of hsv.empty (congrArg (·.2.2.2.2) k3 :)⟩
  · have hidle : s.survivor 1 = s := survivor_idle (by simp) (fun hh => hne.resolve_right nofun hh.1)
    rw [hidle] at hup0 k3
    exact ⟨hup0, (congrArg (·.1) k3 :)⟩

theorem copiesLost_spec (hs : StoresCanonical s) (h : Nat) :
    StackLoss (onStack h s.fwd.stacks0) (onStack h s.fwd.stacks1) s (copiesLost s h) := by
  cases ha : onStack h s.fwd.stacks0 <;> cases hb : onStack h s.fwd.stacks1
  · have he : copiesLost s h = s := by
      unfold copiesLost
      dsimp only
      simp only [ha, Bool.false_eq_true, if_false, hb]
    rw [he]
    exact ⟨nofun, nofun, nofun, nofun, fun _ _ => ⟨rfl, rfl⟩, fun _ _ => ⟨rfl, rfl⟩⟩
  · exact copiesLost_second hs ha hb
  · exact copiesLost_first hs ha hb
  · exact copiesLost_both hs ha hb

/-- The result carries over to states that differ elsewhere. -/
theorem StackLoss.congr {a b : Bool} {s' t' : State} (hl : StackLoss a b s' t') (hs : ∀ d, s'.copyUp d = s.copyUp d) (hst : s'.hashState = s.hashState)
    (hsf : s'.fwd = s.fwd) (ht : ∀ d, t.copyUp d = t'.copyUp d) (htf : t.fwd = t'.fwd) : StackLoss a b s t := by
  obtain ⟨h1, h2, h3, h4, h5, h6⟩ := hl
  have hT : T1Empty t' → T1Empty t := fun h => t1Empty_of h (congrArg Fwd.t1 htf)
  simp only [hs, hst, hsf] at h3 h4 h5 h6
  refine ⟨?_, ?_, fun a b c => ?_, fun a b c => ?_, ?_, ?_⟩
  · rw [ht, htf]; exact h1
  · rw [ht, htf]; exact h2
  · rw [ht]; exact ⟨(h3 a b c).1, hT (h3 a b c).2⟩
  · rw [ht]; exact ⟨(h4 a b c).1, hT (h4 a b c).2⟩
  · rw [ht, htf]; exact h5
  · rw [ht, htf]; exact h6

/-! ## The command -/

/-- The stack is out of service. -/
def stackOut (s : State) (h : Nat) : State :=
  (copiesLost (s.raise Ev.hbmStackDown h 0) h).setFld .SWC_SPILL_STATUS F.SWC_SPILL_STATUS_STACKS
    (clrBit (copiesLost (s.raise Ev.hbmStackDown h 0) h).spillStacks h)

theorem exec_hbmStackDown (hh : h < 4) (hr : s.raised Ev.hbmStackDown h = false) : exec (.hbmStackDown h) s = .next ((stackOut s h).spillLoss h) := by
  have hx : exec (.hbmStackDown h) s = execHbmStackDown h s := rfl
  rw [hx, execHbmStackDown]
  exact congrArg _ (if_neg (by rw [hr]; simpa using hh))

theorem clrBit_lt {m n : Nat} (hm : m < n) (i : Nat) : clrBit m i < n := by
  unfold clrBit
  split
  · exact Nat.lt_of_le_of_lt (Nat.sub_le _ _) hm
  · exact hm

theorem spill_not_signal : ¬ signalAddr Reg.SWC_SPILL_STATUS.addr := not_signalAddr rfl nofun nofun nofun

theorem stackOut_spec (hs : StoresCanonical s) (h : Nat) : StoresCanonical (stackOut s h) ∧ Downs s (copiesLost (s.raise Ev.hbmStackDown h 0) h) ∧
    (∀ k, (stackOut s h).spillStacks.testBit k = (s.spillStacks.testBit k && decide (k ≠ h))) ∧
    (stackOut s h).raised Ev.hbmStackDown h = true ∧ StackLoss (onStack h s.fwd.stacks0) (onStack h s.fwd.stacks1) s (stackOut s h) ∧
    (stackOut s h).frames = s.frames ∧ (stackOut s h).reps = s.reps := by
  have hcan : StoresCanonical (s.raise Ev.hbmStackDown h 0) := StoresCanonical.signalProof.raise hs (by decide : Ev.hbmStackDown < 256) h 0
  have hraised : (s.raise Ev.hbmStackDown h 0).raised Ev.hbmStackDown h = true := raise_raised (by decide) 0
  obtain ⟨hst, hfw⟩ := raise_status s (code := Ev.hbmStackDown) (by decide) h 0
  have hd0 : Downs s (s.raise Ev.hbmStackDown h 0) := Downs.refl.raise (by decide) h 0
  have hl := copiesLost_spec hcan h
  have hd := copiesLost_downs (s.raise Ev.hbmStackDown h 0) h
  have hc2 : StoresCanonical (copiesLost (s.raise Ev.hbmStackDown h 0) h) := by
    have hfirst : Evolves (s.raise Ev.hbmStackDown h 0) (if onStack h (s.raise Ev.hbmStackDown h 0).fwd.stacks0 then
        (s.raise Ev.hbmStackDown h 0).copyDown 0 h else s.raise Ev.hbmStackDown h 0) := keep_ite (Evolves.refl.copyDown 0 h) .refl
    have he : Evolves (s.raise Ev.hbmStackDown h 0) (copiesLost (s.raise Ev.hbmStackDown h 0) h) := keep_ite (hfirst.copyDown 1 h) hfirst
    exact he.stores hcan
  have hall := hd0.trans hd
  have hspill := hall.sig.regs _ spill_not_signal (by simpa using ⟨addr_ne (q := .SWC_SPILL_STATUS) (r := .FWD_HASH_STATUS) rfl rfl nofun,
    addr_ne (q := .SWC_SPILL_STATUS) (r := .FWD_REHASH_CTL) rfl rfl nofun⟩)
  have hsp : (copiesLost (s.raise Ev.hbmStackDown h 0) h).spillStacks = s.spillStacks := congrArg F.SWC_SPILL_STATUS_STACKS.get hspill.1
  have hgot := hd.raised _ _ hraised
  have hfr : (copiesLost (s.raise Ev.hbmStackDown h 0) h).frames = s.frames := (congrArg State.frames hall.sig.rest :)
  have hrp : (copiesLost (s.raise Ev.hbmStackDown h 0) h).reps = s.reps := (congrArg State.reps hall.sig.rest :)
  unfold stackOut
  rw [hfw] at hl
  generalize copiesLost (s.raise Ev.hbmStackDown h 0) h = w at *
  have hlt : clrBit s.spillStacks h < 2 ^ 4 := clrBit_lt (Fld.get_lt _ _) h
  refine ⟨hc2.setFld .., hall, fun k => ?_, hgot, ?_, hfr, hrp⟩
  · have hv : (w.setFld .SWC_SPILL_STATUS F.SWC_SPILL_STATUS_STACKS (clrBit w.spillStacks h)).spillStacks = clrBit s.spillStacks h := by
      rw [hsp]
      exact fld_setFld_lt hc2.regs (by decide) hlt
    rw [hv, testBit_clrBit, Bool.and_comm]
  · exact hl.congr (fun d => copyUp_of_get hst d) (hashState_of_get hst) hfw
      (fun d => copyUp_of_get (get_setFld_off (r := .SWC_SPILL_STATUS) (q := .FWD_HASH_STATUS) rfl rfl nofun) d) rfl

/-- Settles O36: Caraway's commands by their cases, the stack's loss copy by copy and replica by replica. -/
theorem carawayAndStacks : Obligations.CarawayAndStacks := by
  unfold Obligations.CarawayAndStacks
  refine ⟨⟨fun s hp hup hrun => ⟨fun hn hr => ?_, fun hn => ?_⟩, fun v ecc aging b e hp hj hup => ?_, fun s aging hp hany => ?_, fun s b hk hg => ?_,
    fun s hup => ?_, fun s hup => ?_⟩, fun s h hs hh hr => ?_⟩
  · rw [exec_agingPassStart hp hup hrun, if_pos (by rw [hn, agingHeld_of hup hr]; decide)]
    rfl
  · rw [exec_agingPassStart hp hup hrun, if_neg]
    rcases hn with hn | hn
    · cases hpass : s.fwd.pass with
      | none => rw [hpass] at hn; cases hn
      | some x => exact Bool.false_ne_true
    · rw [State.agingHeld, hn, Bool.true_or, Bool.not_true, Bool.and_false]
      decide
  · intro s hf hk hhit served ages hit
    have hx := exec_carawayVisit (ecc := ecc) hp hj hup hf
    have hups : s.t2Up = true := (t2Up_of_get (readEcc_status v ecc)).trans hup
    have hfind := sfind_of_find hk hf
    let p : State := { s with fwd := { s.fwd with pos := b + 1 } }
    have hserved : (e.learned && (p.fwd.serving.contains (e.resA.toNat / 4 % 1024) || p.fwd.serving.contains everyPort)) = true ↔ served := by
      simp only [served, Bool.and_eq_true, Bool.or_eq_true, List.contains_iff_mem]
      rfl
    have hages : (aging && !p.agingHeld && e.ageEn && e.vis == 3) = true ↔ ages := by
      have hheld : p.agingHeld = s.rebuilding := by
        show (s.rebuilding || !s.t2Up) = s.rebuilding
        rw [hups, Bool.not_true, Bool.or_false]
      simp only [ages, hheld, Bool.and_eq_true, Bool.not_eq_true', beq_iff_eq, and_assoc]
    have hrem : visited p aging b e = p.removeAged b e → (CountedOnce C.aged s (visited p aging b e) ∧ ((visited p aging b e).hitBits b).testBit 1 = true ∧
        b ∈ (visited p aging b e).fwd.gone ∧ (b = (buckets s.seeds e.key).1 ∨ b = (buckets s.seeds e.key).2 → sfind ((visited p aging b e).copy s.mainCopy) b = none)) ∧
        (visited p aging b e).fwd.pos = b + 1 ∧ visited p aging b e = { s with fwd := (visited p aging b e).fwd, cnt := (visited p aging b e).cnt } := by
      intro he
      obtain ⟨k1, k2, k3, k4, k5, -⟩ := removeAged_spec p b e
      rw [he]
      exact ⟨⟨k3, k4, k5, fun hb => removeAged_empties (s := p) hups hk hfind hb⟩, k1, k2⟩
    by_cases h1 : served
    · obtain ⟨k1, k2, k3⟩ := hrem (if_pos (hserved.mpr h1))
      exact ⟨_, hx, k2, k3, fun _ => k1, fun hn => absurd h1 hn, fun hn => absurd h1 hn⟩
    · have hn1 : ¬ (e.learned && (p.fwd.serving.contains (e.resA.toNat / 4 % 1024) || p.fwd.serving.contains everyPort)) = true := fun hh => h1 (hserved.mp hh)
      by_cases h2 : ages
      · by_cases h3 : hit
        · have he : visited p aging b e = p.setHit b (clrBit (p.hitBits b) 0) := (if_neg hn1).trans ((if_pos (hages.mpr h2)).trans (if_pos h3))
          refine ⟨_, hx, ?_, ?_, fun hh => ?_, fun _ _ _ => ?_, fun _ hn => absurd h2 hn⟩
          · exact congrArg (fun t : State => t.fwd.pos) he
          · rw [show visited { v.readEcc ecc with fwd := { (v.readEcc ecc).fwd with pos := b + 1 } } aging b e = p.setHit b (clrBit (p.hitBits b) 0) from he]
            rfl
          · rcases hh with hh | hh
            · exact absurd hh h1
            · exact absurd h3 hh.2
          · rw [show visited { v.readEcc ecc with fwd := { (v.readEcc ecc).fwd with pos := b + 1 } } aging b e = p.setHit b (clrBit (p.hitBits b) 0) from he]
            exact ⟨hitBits_cleared (s := p) hhit b 0, rfl, rfl, rfl⟩
        · have he : visited p aging b e = p.removeAged b e := (if_neg hn1).trans ((if_pos (hages.mpr h2)).trans (if_neg h3))
          obtain ⟨k1, k2, k3⟩ := hrem he
          exact ⟨_, hx, k2, k3, fun _ => k1, fun _ _ hh => absurd hh h3, fun _ hn => absurd h2 hn⟩
      · have he : visited p aging b e = p := (if_neg hn1).trans (if_neg fun hh => h2 (hages.mp hh))
        refine ⟨_, hx, ?_, ?_, fun hh => ?_, fun _ hh => absurd hh h2, fun _ _ => he⟩
        · exact congrArg (fun t : State => t.fwd.pos) he
        · rw [show visited { v.readEcc ecc with fwd := { (v.readEcc ecc).fwd with pos := b + 1 } } aging b e = p from he]
        · rcases hh with hh | hh
          · exact absurd hh h1
          · exact absurd hh.1 h2
  · intro served
    obtain ⟨k1, k2, k3, k4⟩ := nextPass_spec (s := passOver s) rfl
    have ho := nextPass_only (passOver s)
    refine ⟨_, exec_carawayPassEnd hp hany, k1, ho, k2, ?_, k3⟩
    rw [k2]
    exact k4
  · refine ⟨_, exec_goneClear hg, hitBits_cleared hk b 1, fun k hne => hitBits_setHit_ne hne _, ?_, rfl⟩
    simp
  · have hx : exec .t1DecayTick s = execT1DecayTick s := rfl
    rw [hx, execT1DecayTick]
    exact congrArg _ (if_pos (by rw [hup]; rfl))
  · refine ⟨_, exec_t1DecayTick hup, rfl, fun k w hw => ?_⟩
    refine (sfind_map decayed s.fwd.t1 k).trans ?_
    rw [hw]
    exact congrArg some (decayed_ways w)
  · intro on empty
    obtain ⟨k1, -, k3, k4, k5, k6, k7⟩ := stackOut_spec hs h
    obtain ⟨l1, l2⟩ := spillLoss_spec k1 h
    have hst := l1.regs _ hashStatus_not_signal
    obtain ⟨m1, m2, m3, m4, m5, m6⟩ := k5.congr (t := (stackOut s h).spillLoss h) (fun _ => rfl) rfl rfl (fun d => copyUp_of_get hst d) l1.fwd
    refine ⟨_, exec_hbmStackDown hh hr, l1.raised _ _ k4, fun k => ?_, m1, m2, m3, m4, m5, m6, fun k r hk => ?_, l1.frames.trans k6⟩
    · rw [← k3]
      exact congrArg (fun x : Word => (F.SWC_SPILL_STATUS_STACKS.get x).testBit k) (l1.regs _ spill_not_signal)
    · exact l2 k r ((congrArg (fun m => sfind m k) k7).trans hk)

end Sys2Proof
end

section
/-! PROOF. The command registers of the tables (R226, R231 to R233, R271, R272): how an operation ends, and where its words stand. -/
namespace Sys2Proof

open Sys2Proof.Machine

set_option Elab.async false

variable {s u v t : State} {T op n code sess : Nat} {ecc : List (Nat × BucketEcc)}

/-! ## The registers of a table -/

theorem cmdReg_ok (hT : T ≤ 10) : (cmdReg T).indexOk = true ∧ (statusReg T).indexOk = true ∧ cmdReg T ≠ statusReg T ∧
    (cmdReg T).keptFields = [] ∧ (statusReg T).keptFields = [] := by
  by_cases h : T < 8
  · simp only [cmdReg, statusReg, h, if_true]
    exact ⟨decide_eq_true h, decide_eq_true h, nofun, rfl, rfl⟩
  · obtain rfl | rfl | rfl : T = 8 ∨ T = 9 ∨ T = 10 := by omega
    · exact ⟨rfl, rfl, nofun, rfl, rfl⟩
    · exact ⟨rfl, rfl, nofun, rfl, rfl⟩
    · exact ⟨rfl, rfl, nofun, rfl, rfl⟩

/-- The data registers that the reads of a table fill. -/
def dataCount (T : Nat) : Nat := if T < 8 then 34 else if T = 8 then 9 else if T = 9 then 32 else 4

theorem dataReg_ok (hT : T ≤ 10) {i : Nat} (hi : i < dataCount T) : (dataReg T i).indexOk = true ∧ dataReg T i ≠ cmdReg T ∧
    dataReg T i ≠ statusReg T ∧ (dataReg T i).keptFields = [] := by
  by_cases h : T < 8
  · simp only [cmdReg, statusReg, dataReg, h, if_true]
    rw [dataCount, if_pos h] at hi
    exact ⟨by simp [Reg.indexOk, h]; omega, nofun, nofun, rfl⟩
  · obtain rfl | rfl | rfl : T = 8 ∨ T = 9 ∨ T = 10 := by omega
    · exact ⟨decide_eq_true (Nat.lt_of_lt_of_le hi (by decide)), nofun, nofun, rfl⟩
    · exact ⟨decide_eq_true (Nat.lt_of_lt_of_le hi (by decide)), nofun, nofun, rfl⟩
    · exact ⟨decide_eq_true (Nat.lt_of_lt_of_le hi (by decide)), nofun, nofun, rfl⟩

theorem dataReg_ne {i j : Nat} (h : i ≠ j) : dataReg T i ≠ dataReg T j := by
  unfold dataReg
  split
  · exact fun he => h (Reg.PIP_TBL_DATA.inj he).2
  · split
    · exact fun he => h (Reg.FWD_TBL_DATA.inj he)
    · split
      · exact fun he => h (Reg.SWC_TBL_DATA.inj he)
      · exact fun he => h (Reg.TIM_TBL_DATA.inj he)

theorem KeepsRegs.put {rs : List Reg} {r : Reg} (h : KeepsRegs rs s u) (hr : r ∈ rs) (x : Word) : KeepsRegs rs s (u.put r x) :=
  h.trans ((Writes.refl (s := u) (ids := [])).put hr x).regs

/-! ## The end of an operation -/

/-- The state at the end of an operation, but for VIS_BOTH. -/
def cmdEnded (s : State) (T code sess : Nat) : State :=
  (((s.cmdTake T).setFld (cmdReg T) F.PIP_TBL_CMD_GO 0).setFld (statusReg T) F.PIP_TBL_STATUS_CODE code).setFld (statusReg T) F.PIP_TBL_STATUS_SESSION sess

theorem cmdEnd_eq (s : State) (T code sess : Nat) : s.cmdEnd T code sess =
    if T < 8 then (cmdEnded s T code sess).setFld (statusReg T) F.PIP_TBL_STATUS_VIS_BOTH 0 else cmdEnded s T code sess := rfl

/-- Nothing but registers without kept fields and the owners of operations has changed. -/
def OwnersOnly (s t : State) : Prop := t = { s with regs := t.regs, tblOwner := t.tblOwner }

theorem OwnersOnly.setFld (h : OwnersOnly s u) {r : Reg} (hr : r.keptFields = []) (f : Fld) (n : Nat) : OwnersOnly s (u.setFld r f n) := by
  have hm := u.masked_setFld_plain r f n hr
  have he : u.setFld r f n = { u with regs := (u.setFld r f n).regs, masked := (u.setFld r f n).masked } := rfl
  unfold OwnersOnly at *
  rw [he, hm, h]

theorem OwnersOnly.put (h : OwnersOnly s u) {r : Reg} (hr : r.keptFields = []) (x : Word) : OwnersOnly s (u.put r x) := by
  have hm := u.masked_put_plain r x hr
  have he : u.put r x = { u with regs := (u.put r x).regs, masked := (u.put r x).masked } := rfl
  unfold OwnersOnly at *
  rw [he, hm, h]

theorem cmdEnded_only (h : OwnersOnly s u) (hT : T ≤ 10) : OwnersOnly s (cmdEnded u T code sess) := by
  obtain ⟨-, -, -, h4, h5⟩ := cmdReg_ok hT
  have ht : OwnersOnly s (u.cmdTake T) := by
    unfold OwnersOnly at *
    rw [State.cmdTake, h]
  exact ((ht.setFld h4 _ _).setFld h5 _ _).setFld h5 _ _

theorem cmdEnd_only (h : OwnersOnly s u) (hT : T ≤ 10) : OwnersOnly s (u.cmdEnd T code sess) :=
  keep_ite ((cmdEnded_only h hT).setFld (cmdReg_ok hT).2.2.2.2 _ _) (cmdEnded_only h hT)

theorem cmdEnd_owner (s : State) (T code sess : Nat) : (s.cmdEnd T code sess).tblOwner = serase s.tblOwner T :=
  keep_ite (P := fun t : State => t.tblOwner = serase s.tblOwner T) rfl rfl

theorem cmdEnd_keeps {rs : List Reg} (h : KeepsRegs rs s u) (hc : cmdReg T ∈ rs) (hst : statusReg T ∈ rs) : KeepsRegs rs s (u.cmdEnd T code sess) := by
  have hk : KeepsRegs rs s (cmdEnded u T code sess) := (((h.of_regs rfl rfl : KeepsRegs rs s (u.cmdTake T)).setFld hc _ _).setFld hst _ _).setFld hst _ _
  exact keep_ite (hk.setFld hst _ _) hk

theorem cmdEnded_spec (hs : s.regsOk) (hT : T ≤ 10) (hc : code < 256) (hd : sess < 256) :
    (cmdEnded s T code sess).cmdGo T = false ∧ (cmdEnded s T code sess).fld (statusReg T) F.PIP_TBL_STATUS_CODE = code ∧
    (cmdEnded s T code sess).fld (statusReg T) F.PIP_TBL_STATUS_SESSION = sess ∧ (cmdEnded s T code sess).regsOk := by
  obtain ⟨h1, h2, h3, -, -⟩ := cmdReg_ok hT
  have k1 : ((s.cmdTake T).setFld (cmdReg T) F.PIP_TBL_CMD_GO 0).regsOk := regsOk_setFld (s := s.cmdTake T) hs
  have k2 : (((s.cmdTake T).setFld (cmdReg T) F.PIP_TBL_CMD_GO 0).setFld (statusReg T) F.PIP_TBL_STATUS_CODE code).regsOk := regsOk_setFld k1
  refine ⟨?_, ?_, fld_setFld_lt k2 (by decide) hd, regsOk_setFld k2⟩
  · have hg : (cmdEnded s T code sess).fld (cmdReg T) F.PIP_TBL_CMD_GO = 0 :=
      (fld_setFld_off h2 h1 h3.symm).trans ((fld_setFld_off h2 h1 h3.symm).trans (fld_setFld_lt (s := s.cmdTake T) hs (by decide) (by decide)))
    rw [State.cmdGo, hg]
    rfl
  · exact (fld_setFld_beside k2 (by decide) (by decide)).trans (fld_setFld_lt k1 (by decide) hc)

/-- The result of an operation. -/
theorem cmdEnd_spec (hs : s.regsOk) (hT : T ≤ 10) (hc : code < 256) (hd : sess < 256) : (s.cmdEnd T code sess).cmdGo T = false ∧
    (s.cmdEnd T code sess).fld (statusReg T) F.PIP_TBL_STATUS_CODE = code ∧
    (s.cmdEnd T code sess).fld (statusReg T) F.PIP_TBL_STATUS_SESSION = sess ∧ (s.cmdEnd T code sess).regsOk ∧
    (T < 8 → (s.cmdEnd T code sess).fld (statusReg T) F.PIP_TBL_STATUS_VIS_BOTH = 0) := by
  obtain ⟨h1, h2, h3, -, -⟩ := cmdReg_ok hT
  obtain ⟨k1, k2, k3, k4⟩ := cmdEnded_spec hs hT hc hd
  rw [cmdEnd_eq]
  by_cases h : T < 8
  · rw [if_pos h]
    refine ⟨?_, ?_, ?_, regsOk_setFld k4, fun _ => fld_setFld_lt k4 (by decide) (by decide)⟩
    · rw [State.cmdGo, fld_setFld_off h2 h1 h3.symm]
      exact k1
    · exact (fld_setFld_beside k4 (by decide) (by decide)).trans k2
    · exact (fld_setFld_beside k4 (by decide) (by decide)).trans k3
  · rw [if_neg h]
    exact ⟨k1, k2, k3, k4, fun h' => absurd h' h⟩

theorem cmdEnd_get (s : State) (hT : T ≤ 10) {q : Reg} (hq : q.indexOk = true) (h1 : q ≠ cmdReg T) (h2 : q ≠ statusReg T) :
    (s.cmdEnd T code sess).get q = s.get q := by
  obtain ⟨k1, k2, -, -, -⟩ := cmdReg_ok hT
  refine (cmdEnd_keeps (rs := [cmdReg T, statusReg T]) .refl (by simp) (by simp) q fun r hr => ?_).1
  obtain rfl | rfl : r = cmdReg T ∨ r = statusReg T := by simpa using hr
  · exact addr_ne hq k1 h1
  · exact addr_ne hq k2 h2

/-! ## The words of a read -/

/-- The data registers that a read fills, and nothing else. -/
theorem cmdData_spec (hs : s.regsOk) (hT : T ≤ 10) (hn : n ≤ dataCount T) (ws : List Word) :
    (∀ i, i < n → (s.cmdData T n ws).get (dataReg T i) = ws.getD i 0) ∧ (s.cmdData T n ws).regsOk ∧ (s.cmdData T n ws).tblOwner = s.tblOwner ∧
    OwnersOnly s (s.cmdData T n ws) ∧ KeepsRegs ((List.range n).map (dataReg T)) s (s.cmdData T n ws) := by
  induction n with
  | zero => exact ⟨nofun, hs, rfl, rfl, .refl⟩
  | succ n ih =>
    obtain ⟨h1, h2, h3, h4, h5⟩ := ih (by omega)
    have he : s.cmdData T (n + 1) ws = (s.cmdData T n ws).put (dataReg T n) (ws.getD n 0) := by
      unfold State.cmdData
      rw [List.range_succ, List.foldl_append]
      rfl
    have hok := fun i (hi : i < n + 1) => (dataReg_ok hT (Nat.lt_of_lt_of_le hi hn)).1
    rw [he]
    refine ⟨fun i hi => ?_, State.regsOk_put _ _ _ h2, h3, h4.put (dataReg_ok hT hn).2.2.2 _, ?_⟩
    · by_cases hin : i = n
      · subst hin
        exact State.get_put_self _ _ _ h2
      · exact (get_put_off (hok n (by omega)) (hok i hi) (dataReg_ne (Ne.symm hin)) _).trans (h1 i (by omega))
    · have hsub : ∀ r ∈ (List.range n).map (dataReg T), r ∈ (List.range (n + 1)).map (dataReg T) := fun r hr => by
        rw [List.range_succ, List.map_append]
        exact List.mem_append_left _ hr
      exact (h5.weaken hsub).put (List.mem_map.mpr ⟨n, List.mem_range.mpr (by omega), rfl⟩) _

/-- A read that ends with SUCCESS. -/
theorem readDone_spec (hs : s.regsOk) (hT : T ≤ 10) (hn : n ≤ dataCount T) (ws : List Word) :
    let t := (s.cmdData T n ws).cmdEnd T 0 0
    t.cmdGo T = false ∧ t.fld (statusReg T) F.PIP_TBL_STATUS_CODE = 0 ∧ t.fld (statusReg T) F.PIP_TBL_STATUS_SESSION = 0 ∧ t.regsOk ∧
    (T < 8 → t.fld (statusReg T) F.PIP_TBL_STATUS_VIS_BOTH = 0) ∧ t.tblOwner = serase s.tblOwner T ∧ OwnersOnly s t ∧
    (∀ i, i < n → t.get (dataReg T i) = ws.getD i 0) ∧ KeepsRegs ([cmdReg T, statusReg T] ++ (List.range n).map (dataReg T)) s t := by
  intro t
  obtain ⟨h1, h2, h3, h4, h5⟩ := cmdData_spec hs hT hn ws
  obtain ⟨k1, k2, k3, k4, k5⟩ := cmdEnd_spec h2 hT (by decide : 0 < 256) (by decide : 0 < 256)
  refine ⟨k1, k2, k3, k4, k5, (cmdEnd_owner _ _ _ _).trans (congrArg (serase · T) h3), cmdEnd_only h4 hT, fun i hi => ?_, ?_⟩
  · obtain ⟨l1, l2, l3, -⟩ := dataReg_ok hT (Nat.lt_of_lt_of_le hi hn)
    exact (cmdEnd_get _ hT l1 l2 l3).trans (h1 i hi)
  · exact cmdEnd_keeps (h5.weaken fun r hr => List.mem_append_right _ hr) (by simp) (by simp)

end Sys2Proof
end

section
/-! PROOF. The table commands (R225, R226, R254, R264, R298). -/
namespace Sys2Proof

open Sys2Proof.Machine

set_option Elab.async false

variable {s u v t : State} {T op n h : Nat} {x : Session} {ecc : List (Nat × BucketEcc)}

/-! ## WRITE and CLEAR -/

theorem exec_tableCommand {c : Instr} (hc : tableCommand c = some (T, op)) (hw : s.cmdWaiting T op = true) (hh : s.stewardHeld = false) :
    exec c s = .next (s.cmdStage T) ∧ T ≤ 10 := by
  have hserve : s.cmdServe T op = s.cmdStage T := if_pos (by rw [hw, hh]; rfl)
  have hsl {sl o : Nat} (h : (if sl < 8 then some (sl, o) else none) = some (T, op)) : sl < 8 ∧ sl = T ∧ o = op := by
    split at h
    · next hlt =>
      obtain ⟨h1, h2⟩ := Prod.mk.inj (Option.some.inj h)
      exact ⟨hlt, h1, h2⟩
    · cases h
  have hfix {a b : Nat} (h : some (a, b) = some (T, op)) : a = T ∧ b = op := Prod.mk.inj (Option.some.inj h)
  cases c with
  | pipTblWrite sl =>
    obtain ⟨hlt, rfl, rfl⟩ := hsl hc
    exact ⟨congrArg _ ((if_pos hlt).trans hserve), by omega⟩
  | pipTblClear sl =>
    obtain ⟨hlt, rfl, rfl⟩ := hsl hc
    exact ⟨congrArg _ ((if_pos hlt).trans hserve), by omega⟩
  | fwdTblWrite =>
    obtain ⟨rfl, rfl⟩ := hfix hc
    exact ⟨congrArg _ hserve, by decide⟩
  | fwdTblClear =>
    obtain ⟨rfl, rfl⟩ := hfix hc
    exact ⟨congrArg _ hserve, by decide⟩
  | mcastTblWrite =>
    obtain ⟨rfl, rfl⟩ := hfix hc
    exact ⟨congrArg _ hserve, by decide⟩
  | mcastTblClear =>
    obtain ⟨rfl, rfl⟩ := hfix hc
    exact ⟨congrArg _ hserve, by decide⟩
  | gateTblWrite =>
    obtain ⟨rfl, rfl⟩ := hfix hc
    exact ⟨congrArg _ hserve, by decide⟩
  | gateTblClear =>
    obtain ⟨rfl, rfl⟩ := hfix hc
    exact ⟨congrArg _ hserve, by decide⟩
  | _ => cases hc

/-- What an operation that has ended leaves, its result `code` and `sess`. -/
structure CmdEnds (T code sess : Nat) (s t : State) : Prop where
  ends : t.cmdGo T = false ∧ t.fld (statusReg T) F.PIP_TBL_STATUS_CODE = code ∧ t.fld (statusReg T) F.PIP_TBL_STATUS_SESSION = sess ∧
    KeepsRegs [cmdReg T, statusReg T] s t

/-- Nothing but registers and the owner of the operation has changed. -/
def CmdPlain (T : Nat) (s t : State) : Prop :=
  t = { s with regs := t.regs, tblOwner := t.tblOwner } ∧ ∀ k, k ≠ T → sfind t.tblOwner k = sfind s.tblOwner k

theorem cmdEnd_ends (hs : s.regsOk) (hT : T ≤ 10) {code sess : Nat} (hc : code < 256) (hd : sess < 256) : CmdEnds T code sess s (s.cmdEnd T code sess) := by
  obtain ⟨h1, h2, h3, -, -⟩ := cmdEnd_spec hs hT hc hd
  exact ⟨h1, h2, h3, cmdEnd_keeps .refl (by simp) (by simp)⟩

theorem cmdEnd_plain (hT : T ≤ 10) (code sess : Nat) : CmdPlain T s (s.cmdEnd T code sess) := by
  refine ⟨cmdEnd_only rfl hT, fun k hk => ?_⟩
  rw [cmdEnd_owner]
  exact sfind_serase_ne _ _ _ (Ne.symm hk)

/-- The same after the operation is taken up. -/
theorem cmdEnd_plain_taken (hT : T ≤ 10) (code sess : Nat) : CmdPlain T s ((s.cmdTake T).cmdEnd T code sess) := by
  refine ⟨cmdEnd_only (u := s.cmdTake T) rfl hT, fun k hk => ?_⟩
  rw [cmdEnd_owner]
  exact (sfind_serase_ne _ _ _ (Ne.symm hk)).trans (sfind_serase_ne _ _ _ (Ne.symm hk))

theorem cmdFault_lt (s : State) (T : Nat) : s.cmdFault T < 256 := by
  unfold State.cmdFault TblOp.check
  repeat' split
  all_goals decide

theorem cmdStage_gone (hx : s.session (sgetD s.tblOwner T 0) = none) : s.cmdStage T = s.cmdEnd T 6 5 := by
  unfold State.cmdStage
  simp only [hx]
  rfl

variable (hx : s.session (sgetD s.tblOwner T 0) = some x)
include hx

theorem cmdStage_role (h2 : x.role ≠ 2) (h3 : x.role ≠ 3) : s.cmdStage T = s.cmdEnd T 6 9 := by
  unfold State.cmdStage
  simp only [hx]
  exact if_pos ⟨h2, h3⟩

theorem cmdStage_fault (hr : x.role = 2 ∨ x.role = 3) (hf : s.cmdFault T ≠ 0) : s.cmdStage T = s.cmdEnd T (s.cmdFault T) 0 := by
  unfold State.cmdStage
  simp only [hx]
  exact (if_neg (by omega)).trans (if_pos hf)

variable (hr : x.role = 2 ∨ x.role = 3) (hf : s.cmdFault T = 0)
include hr hf

theorem cmdStage_refused {st : Nat} (ho : (s.cmdTake T).stageOp (sgetD s.tblOwner T 0) (.cmd T) (s.cmdRecord T) = (s.cmdTake T, some (st, 0)))
    (h0 : st ≠ Stat.ok) (ht : st ≠ Stat.table) : s.cmdStage T = (s.cmdTake T).cmdEnd T 6 st := by
  unfold State.cmdStage
  simp only [hx]
  refine (if_neg (by omega)).trans ((if_neg (by rw [hf]; decide)).trans ?_)
  simp only [ho]
  exact (if_neg h0).trans (if_neg ht)

theorem cmdStage_staged (ho : (s.cmdTake T).stageOp (sgetD s.tblOwner T 0) (.cmd T) (s.cmdRecord T) = (u, some (0, 0))) :
    s.cmdStage T = u.cmdEnd T 0 0 := by
  unfold State.cmdStage
  simp only [hx]
  refine (if_neg (by omega)).trans ((if_neg (by rw [hf]; decide)).trans ?_)
  simp only [ho]
  exact if_pos rfl

theorem cmdStage_accepted (ho : (s.cmdTake T).stageOp (sgetD s.tblOwner T 0) (.cmd T) (s.cmdRecord T) = (u, none)) : s.cmdStage T = u := by
  unfold State.cmdStage
  simp only [hx]
  refine (if_neg (by omega)).trans ((if_neg (by rw [hf]; decide)).trans ?_)
  simp only [ho]

omit hx hr in
theorem cmdRecord_good : (s.cmdRecord T).check = 0 := by
  unfold State.cmdFault at hf
  split at hf
  · cases hf
  · exact hf

omit hx hr hf

/-! ## Reads of rows -/

theorem readRow_ends (hs : StoresCanonical s) (hT : T ≤ 10) {code : Nat} (hc : code < 256) : (s.cmdEnd T code 0).cmdGo T = false ∧
    s.cmdEnd T code 0 = { s with regs := (s.cmdEnd T code 0).regs, tblOwner := serase s.tblOwner T } ∧
    (s.cmdEnd T code 0).fld (statusReg T) F.PIP_TBL_STATUS_SESSION = 0 ∧ (s.cmdEnd T code 0).fld (statusReg T) F.PIP_TBL_STATUS_CODE = code ∧
    KeepsRegs [cmdReg T, statusReg T] s (s.cmdEnd T code 0) := by
  obtain ⟨h1, h2, h3, -, -⟩ := cmdEnd_spec hs.regs hT hc (by decide : 0 < 256)
  have ho : OwnersOnly s (s.cmdEnd T code 0) := cmdEnd_only rfl hT
  have hown := cmdEnd_owner s T code 0
  unfold OwnersOnly at ho
  rw [hown] at ho
  exact ⟨h1, ho, h3, h2, cmdEnd_keeps .refl (by simp) (by simp)⟩

/-- A row read: its words in the data registers, and VIS_BOTH of a row both selectors see. -/
def rowRead (s : State) (T n : Nat) (r : Row) : State :=
  let s := (s.cmdData T n r.words).cmdEnd T 0 0
  if T < 8 && r.vis0 && r.vis1 then s.setFld (statusReg T) F.PIP_TBL_STATUS_VIS_BOTH 1 else s

theorem rowRead_spec (hs : StoresCanonical s) (hT : T ≤ 10) (hn : n ≤ dataCount T) (r : Row) : (rowRead s T n r).cmdGo T = false ∧
    rowRead s T n r = { s with regs := (rowRead s T n r).regs, tblOwner := serase s.tblOwner T } ∧
    (rowRead s T n r).fld (statusReg T) F.PIP_TBL_STATUS_SESSION = 0 ∧ (rowRead s T n r).fld (statusReg T) F.PIP_TBL_STATUS_CODE = 0 ∧
    (∀ i, i < n → (rowRead s T n r).get (dataReg T i) = r.words.getD i 0) ∧
    (T < 8 → (rowRead s T n r).fld (statusReg T) F.PIP_TBL_STATUS_VIS_BOTH = if r.vis0 && r.vis1 then 1 else 0) ∧
    KeepsRegs ([cmdReg T, statusReg T] ++ (List.range n).map (dataReg T)) s (rowRead s T n r) := by
  obtain ⟨h1, h2, h3, h4, h5, h6, h7, h8, h9⟩ := readDone_spec hs.regs hT hn r.words
  obtain ⟨k1, k2, k3, -, k5⟩ := cmdReg_ok hT
  unfold rowRead
  generalize (s.cmdData T n r.words).cmdEnd T 0 0 = u at *
  dsimp only
  by_cases hv : (decide (T < 8) && r.vis0 && r.vis1) = true
  · have hT8 : T < 8 := by
      rw [Bool.and_eq_true, Bool.and_eq_true] at hv
      exact of_decide_eq_true hv.1.1
    have hb : (r.vis0 && r.vis1) = true := by
      rw [Bool.and_assoc, Bool.and_eq_true] at hv
      exact hv.2
    rw [if_pos hv]
    have ho : OwnersOnly s (u.setFld (statusReg T) F.PIP_TBL_STATUS_VIS_BOTH 1) := h7.setFld k5 _ _
    unfold OwnersOnly at ho
    rw [show (u.setFld (statusReg T) F.PIP_TBL_STATUS_VIS_BOTH 1).tblOwner = serase s.tblOwner T from h6] at ho
    refine ⟨?_, ho, ?_, ?_, fun i hi => ?_, fun _ => ?_, h9.setFld (by simp) _ _⟩
    · rw [State.cmdGo, fld_setFld_off k2 k1 k3.symm]
      exact h1
    · exact (fld_setFld_beside h4 (by decide) (by decide)).trans h3
    · exact (fld_setFld_beside h4 (by decide) (by decide)).trans h2
    · obtain ⟨l1, -, l3, -⟩ := dataReg_ok hT (Nat.lt_of_lt_of_le hi hn)
      exact (get_setFld_off k2 l1 l3.symm).trans (h8 i hi)
    · rw [hb]
      exact fld_setFld_lt h4 (by decide) (by decide)
  · rw [if_neg hv]
    unfold OwnersOnly at h7
    rw [h6] at h7
    refine ⟨h1, h7, h3, h2, h8, fun hT8 => ?_, h9⟩
    have hb : (r.vis0 && r.vis1) = false := by
      simpa [hT8] using hv
    rw [hb]
    exact h5 hT8

theorem readRow_wrong (h : s.cmdTable T ∉ cmdTables T) : s.readRow T n = s.cmdEnd T 2 0 :=
  if_pos (by simpa [State.cmdRecord] using h)

theorem readRow_beyond (h : s.cmdTable T ∈ cmdTables T) (hi : indexLimit (s.cmdTable T) ≤ s.cmdIndex T) : s.readRow T n = s.cmdEnd T 3 0 :=
  (if_neg (by simpa [State.cmdRecord] using h)).trans (if_pos hi)

theorem readRow_at (h : s.cmdTable T ∈ cmdTables T) (hi : s.cmdIndex T < indexLimit (s.cmdTable T)) :
    (s.rowFor (s.cmdTable T) (s.cmdIndex T) s.curSel = none → s.readRow T n = s.cmdEnd T 5 0) ∧
    ∀ r, s.rowFor (s.cmdTable T) (s.cmdIndex T) s.curSel = some r → s.readRow T n = rowRead s T n r := by
  have hne : ¬ (!(cmdTables T).contains (s.cmdRecord T).table) = true := by simpa [State.cmdRecord] using h
  have hle : ¬ indexLimit (s.cmdRecord T).table ≤ (s.cmdRecord T).index := Nat.not_le.mpr hi
  unfold State.readRow
  refine ⟨fun hn => (if_neg hne).trans ((if_neg hle).trans ?_), fun r hr => (if_neg hne).trans ((if_neg hle).trans ?_)⟩
  · rw [show s.rowFor (s.cmdRecord T).table (s.cmdRecord T).index s.curSel = none from hn]
  · rw [show s.rowFor (s.cmdRecord T).table (s.cmdRecord T).index s.curSel = some r from hr]
    rfl

/-! ## READ, READ_NEXT and FLUSH of the exact-match table -/

theorem fwdRead_down (ht : s.cmdTable 8 = 0x20) (h : s.t2Up = false) : s.fwdRead = s.cmdEnd 8 10 0 :=
  (if_neg (fun hn => hn ht)).trans (if_pos (by rw [h]; rfl))

theorem fwdRead_up (ht : s.cmdTable 8 = 0x20) (h : s.t2Up = true) :
    let o := findVer (s.copy s.mainCopy) s.seeds (recKey ((List.range 5).map fun i => s.get (.FWD_TBL_DATA i))) fun e => visTo e.vis s.curSel
    (o = none → s.fwdRead = s.cmdEnd 8 5 0) ∧ ∀ b e, o = some (b, e) → s.fwdRead = (s.cmdData 8 9 (s.fwdWords b e)).cmdEnd 8 0 0 := by
  intro o
  have he : s.fwdRead = match o with
    | none => s.cmdEnd 8 5 0
    | some (b, e) => (s.cmdData 8 9 (s.fwdWords b e)).cmdEnd 8 0 0 :=
    (if_neg (fun hn => hn ht)).trans (if_neg (by rw [h]; decide))
  rw [he]
  exact ⟨fun hn => by rw [hn], fun b e hs => by rw [hs]⟩

/-- READ_NEXT from bucket `b` on: the first entry visible. -/
def nextVisible (s : State) (b : Nat) : Option (Nat × FwdEntry) :=
  (s.copy s.mainCopy).find? fun kv => decide (b ≤ kv.1) && decide (kv.1 < b + 65536) && visTo kv.2.vis s.curSel

/-- READ_NEXT that finds nothing. -/
def nothingNext (s : State) (b : Nat) : State := (s.put (.FWD_TBL_DATA 8) (BitVec.ofNat 32 (min (b + 65536) (2 ^ 27)))).cmdEnd 8 5 0

theorem fwdReadNext_cases (ht : s.cmdTable 8 = 0x20) {b : Nat} (hb : b = (s.get (.FWD_TBL_DATA 0)).toNat) :
    (2 ^ 27 ≤ b → s.fwdReadNext = s.cmdEnd 8 3 0) ∧ (b < 2 ^ 27 → s.rebuilding = true → s.fwdReadNext = s.cmdEnd 8 9 0) ∧
    (b < 2 ^ 27 → s.rebuilding = false → s.t2Up = true → (nextVisible s b = none → s.fwdReadNext = nothingNext s b) ∧
      ∀ k e, nextVisible s b = some (k, e) → s.fwdReadNext = (s.cmdData 8 9 (s.fwdWords k e)).cmdEnd 8 0 0) := by
  have h0 : ¬ s.cmdTable 8 ≠ 0x20 := fun hn => hn ht
  refine ⟨fun h => ?_, fun h h1 => ?_, fun h h1 h2 => ?_⟩
  · exact (if_neg h0).trans (if_pos (by rw [← hb]; exact h))
  · exact (if_neg h0).trans ((if_neg (by rw [← hb]; omega)).trans (if_pos h1))
  · have he : s.fwdReadNext = match nextVisible s b with
      | some (k, e) => (s.cmdData 8 9 (s.fwdWords k e)).cmdEnd 8 0 0
      | none => nothingNext s b := by
      subst hb
      exact (if_neg h0).trans ((if_neg (by omega)).trans ((if_neg (by rw [h1]; decide)).trans (if_neg (by rw [h2]; decide))))
    rw [he]
    exact ⟨fun hn => by rw [hn], fun k e hs => by rw [hs]⟩

theorem put_owner (s : State) (r : Reg) (x : Word) : (s.put r x).tblOwner = s.tblOwner := rfl

theorem nothingNext_spec (hs : StoresCanonical s) (b : Nat) : (nothingNext s b).cmdGo 8 = false ∧
    nothingNext s b = { s with regs := (nothingNext s b).regs, tblOwner := serase s.tblOwner 8 } ∧
    (nothingNext s b).fld .FWD_TBL_STATUS F.PIP_TBL_STATUS_CODE = 5 ∧
    KeepsRegs ([.FWD_TBL_CMD, .FWD_TBL_STATUS] ++ (List.range 9).map .FWD_TBL_DATA) s (nothingNext s b) ∧
    ((nothingNext s b).get (.FWD_TBL_DATA 8)).toNat = min (b + 65536) (2 ^ 27) := by
  have hr : (s.put (.FWD_TBL_DATA 8) (BitVec.ofNat 32 (min (b + 65536) (2 ^ 27)))).regsOk := State.regsOk_put _ _ _ hs.regs
  obtain ⟨h1, h2, -, -, -⟩ := cmdEnd_spec (T := 8) hr (by decide) (by decide : 5 < 256) (by decide : 0 < 256)
  have ho : OwnersOnly s (nothingNext s b) := cmdEnd_only ((show OwnersOnly s s from rfl).put rfl _) (by decide)
  have hown : (nothingNext s b).tblOwner = serase s.tblOwner 8 := by
    rw [nothingNext, cmdEnd_owner, put_owner]
  unfold OwnersOnly at ho
  rw [hown] at ho
  refine ⟨h1, ho, h2, cmdEnd_keeps (T := 8) (KeepsRegs.refl.put ?_ _) (by simp [cmdReg]) (by simp [statusReg]), ?_⟩
  · exact List.mem_append_right _ (List.mem_map.mpr ⟨8, by decide, rfl⟩)
  · have hg : (nothingNext s b).get (.FWD_TBL_DATA 8) = BitVec.ofNat 32 (min (b + 65536) (2 ^ 27)) :=
      (cmdEnd_get _ (T := 8) (by decide) (q := .FWD_TBL_DATA 8) rfl nofun nofun).trans (State.get_put_self _ _ _ hs.regs)
    rw [hg, BitVec.toNat_ofNat, Nat.mod_eq_of_lt]
    omega

/-- A read of the exact-match table that ends with SUCCESS. -/
theorem fwdDone_spec (hs : StoresCanonical s) (ws : List Word) : let t := (s.cmdData 8 9 ws).cmdEnd 8 0 0
    t.cmdGo 8 = false ∧ t = { s with regs := t.regs, tblOwner := serase s.tblOwner 8 } ∧ t.fld .FWD_TBL_STATUS F.PIP_TBL_STATUS_CODE = 0 ∧
    KeepsRegs ([.FWD_TBL_CMD, .FWD_TBL_STATUS] ++ (List.range 9).map .FWD_TBL_DATA) s t ∧ ∀ i, i < 9 → t.get (.FWD_TBL_DATA i) = ws.getD i 0 := by
  intro t
  obtain ⟨h1, h2, -, -, -, h6, h7, h8, h9⟩ := readDone_spec (T := 8) hs.regs (by decide) (n := 9) (by decide) ws
  unfold OwnersOnly at h7
  rw [h6] at h7
  exact ⟨h1, h7, h2, h9, h8⟩

theorem fwdEnds_spec (hs : StoresCanonical s) {code : Nat} (hc : code < 256) : (s.cmdEnd 8 code 0).cmdGo 8 = false ∧
    s.cmdEnd 8 code 0 = { s with regs := (s.cmdEnd 8 code 0).regs, tblOwner := serase s.tblOwner 8 } ∧
    (s.cmdEnd 8 code 0).fld .FWD_TBL_STATUS F.PIP_TBL_STATUS_CODE = code ∧
    KeepsRegs ([.FWD_TBL_CMD, .FWD_TBL_STATUS] ++ (List.range 9).map .FWD_TBL_DATA) s (s.cmdEnd 8 code 0) := by
  obtain ⟨h1, h2, -, h4, h5⟩ := readRow_ends (T := 8) hs (by decide) hc
  exact ⟨h1, h2, h4, h5.weaken fun r hr => List.mem_append_left _ hr⟩

theorem flushAdd_cmd (s : State) (p : Nat) : (s.flushAdd p).fwd.flushCmd = s.fwd.flushCmd := by
  have h1 : (if s.fwd.pass.isSome && s.fwd.serving.contains p then
     (if s.fwd.again.contains p then s else { s with fwd := { s.fwd with again := s.fwd.again ++ [p] } })
   else if s.fwd.flushSet.contains p then s
   else { s with fwd := { s.fwd with flushSet := s.fwd.flushSet ++ [p] } }).fwd.flushCmd = s.fwd.flushCmd :=
    keep_ite (P := fun t : State => t.fwd.flushCmd = s.fwd.flushCmd) (keep_ite (P := fun t : State => t.fwd.flushCmd = s.fwd.flushCmd) rfl rfl)
      (keep_ite (P := fun t : State => t.fwd.flushCmd = s.fwd.flushCmd) rfl rfl)
  exact keep_ite (P := fun t : State => t.fwd.flushCmd = s.fwd.flushCmd) h1 h1

/-- The state with a FLUSH pending. -/
def flushNoted (s : State) : State :=
  let p := if (s.get (.FWD_TBL_DATA 0)).toNat.testBit 31 then everyPort else (s.get (.FWD_TBL_DATA 0)).toNat % 1024
  ({ s with fwd := { s.fwd with flushCmd := some p } }).flushAdd p

theorem fwdFlush_cases (ht : s.cmdTable 8 = 0x20) (hup : s.t2Up = true) :
    (s.fwd.flushCmd.isSome = true → s.fwdFlush = s.cmdEnd 8 9 0) ∧ (s.fwd.flushCmd = none → s.fwdFlush = (flushNoted s).cmdEnd 8 0 0) := by
  have h0 : ¬ s.cmdTable 8 ≠ 0x20 := fun hn => hn ht
  have h1 : ¬ (!s.t2Up) = true := by rw [hup]; decide
  exact ⟨fun h => (if_neg h0).trans ((if_neg h1).trans (if_pos h)),
    fun h => (if_neg h0).trans ((if_neg h1).trans (if_neg (by rw [h]; decide)))⟩

theorem flushNoted_only (s : State) : FwdOnly s (flushNoted s) := (FwdOnly.refl.fwd _).flushAdd _

theorem readEcc_of_down (h : v.t2Up = false) (ecc : List (Nat × BucketEcc)) : v.readEcc ecc = v := if_neg (by rw [h]; exact Bool.false_ne_true)

/-- Settles O32: each command ends its operation with one code, or stages it. -/
theorem tableCommandsDone : Obligations.TableCommandsDone := by
  unfold Obligations.TableCommandsDone
  refine ⟨fun s c T op hc hs hw hh => ?_, fun s c T n hc hs hw => ?_, fun v ecc hv ht => ?_, fun s hs ht hw hup => ?_⟩
  · obtain ⟨hx, hT⟩ := exec_tableCommand hc hw hh
    refine ⟨_, hx, ?_⟩
    intro h ends plain
    refine ⟨fun hn => ?_, fun x hxs => ⟨fun h2 h3 => ?_, fun hr => ⟨fun hf => ?_, fun hf => ⟨fun hl => ?_, fun hl => ⟨fun y hy => ⟨fun hfull => ?_, fun hfree => ?_⟩, fun hy hval => ?_⟩⟩⟩⟩⟩
    · simp only [ends, plain, cmdStage_gone hn]
      exact ⟨(cmdEnd_ends hs.regs hT (by decide) (by decide)).ends, cmdEnd_plain hT 6 5⟩
    · simp only [ends, plain, cmdStage_role hxs h2 h3]
      exact ⟨(cmdEnd_ends hs.regs hT (by decide) (by decide)).ends, cmdEnd_plain hT 6 9⟩
    · simp only [ends, plain, cmdStage_fault hxs hr hf]
      exact ⟨(cmdEnd_ends hs.regs hT (cmdFault_lt s T) (by decide)).ends, cmdEnd_plain hT _ 0⟩
    · have ho := stageOp_locked (s := s.cmdTake T) (r := .cmd T) hxs (cmdRecord_good hf) hl
      simp only [ends, plain, cmdStage_refused hxs hr hf ho (by decide) (by decide)]
      exact ⟨(cmdEnd_ends (s := s.cmdTake T) hs.regs hT (by decide) (by decide)).ends, cmdEnd_plain_taken hT 6 17⟩
    · have ho := (stageOp_open (s := s.cmdTake T) (r := .cmd T) hxs (cmdRecord_good hf) hl hy).trans (if_pos hfull)
      simp only [ends, plain, cmdStage_refused hxs hr hf ho (by decide) (by decide)]
      exact ⟨(cmdEnd_ends (s := s.cmdTake T) hs.regs hT (by decide) (by decide)).ends, cmdEnd_plain_taken hT 6 16⟩
    · have ho := (stageOp_open (s := s.cmdTake T) (r := .cmd T) hxs (cmdRecord_good hf) hl hy).trans (if_neg (Nat.not_lt.mpr hfree))
      simp only [ends, cmdStage_staged hxs hr hf ho]
      let w : State := (s.cmdTake T).putSession h { x with txn := some { y with ops := y.ops ++ [s.cmdRecord T], units := y.units + 4 } }
      have hwr : w.regsOk := hs.regs
      have honly : OwnersOnly w (w.cmdEnd T 0 0) := cmdEnd_only rfl hT
      have hsess : (w.cmdEnd T 0 0).session h = some { x with txn := some { y with ops := y.ops ++ [s.cmdRecord T], units := y.units + 4 } } := by
        rw [honly]
        exact sfind_sinsert_self _ _ _
      refine ⟨(cmdEnd_ends (s := w) hwr hT (by decide) (by decide)).ends, ?_, ?_⟩
      · exact (congrArg (fun o : Option Session => o.bind (·.txn)) hsess).trans rfl
      · exact (congrArg State.jobs honly :)
    · have ho := stageOp_alone (s := s.cmdTake T) (r := .cmd T) hxs (cmdRecord_good hf) hl hy hval
      rw [cmdStage_accepted hxs hr hf ho]
      refine ⟨?_, rfl⟩
      rw [State.cmdWaiting, Bool.and_eq_true, Bool.and_eq_true] at hw
      exact hw.1.1
  · have hcase : exec c s = .next (s.readRow T n) ∧ T ≤ 10 ∧ n ≤ dataCount T := by
      rcases hc with ⟨sl, hsl, rfl, rfl, rfl⟩ | ⟨rfl, rfl, rfl⟩ | ⟨rfl, rfl, rfl⟩
      · have hd : dataCount T = 34 := if_pos hsl
        exact ⟨congrArg _ (if_pos (by rw [hw, decide_eq_true hsl]; rfl)), by omega, by omega⟩
      · exact ⟨congrArg _ (if_pos hw), by decide, by decide⟩
      · exact ⟨congrArg _ (if_pos hw), by decide, by decide⟩
    obtain ⟨hx, hT, hn⟩ := hcase
    by_cases h1 : s.cmdTable T ∈ cmdTables T
    · by_cases h2 : indexLimit (s.cmdTable T) ≤ s.cmdIndex T
      · obtain ⟨k1, k2, k3, k4, k5⟩ := readRow_ends hs hT (by decide : 3 < 256)
        rw [readRow_beyond h1 h2] at hx
        exact ⟨_, hx, k1, k2, k3, fun h => absurd h1 h, fun _ => ⟨fun _ => ⟨k4, k5⟩, fun h => absurd h (Nat.not_lt.mpr h2)⟩⟩
      · obtain ⟨l1, l2⟩ := readRow_at (n := n) h1 (Nat.lt_of_not_le h2)
        cases hrow : s.rowFor (s.cmdTable T) (s.cmdIndex T) s.curSel with
        | none =>
          obtain ⟨k1, k2, k3, k4, k5⟩ := readRow_ends hs hT (by decide : 5 < 256)
          rw [l1 hrow] at hx
          exact ⟨_, hx, k1, k2, k3, fun h => absurd h1 h, fun _ => ⟨fun h => absurd h h2, fun _ => ⟨fun _ => ⟨k4, k5⟩, nofun⟩⟩⟩
        | some r =>
          obtain ⟨k1, k2, k3, k4, k5, k6, k7⟩ := rowRead_spec hs hT hn r
          rw [l2 r hrow] at hx
          refine ⟨_, hx, k1, k2, k3, fun h => absurd h1 h, fun _ => ⟨fun h => absurd h h2, fun _ => ⟨nofun, fun q hq => ?_⟩⟩⟩
          obtain rfl := Option.some.inj hq
          exact ⟨k4, k5, k6, k7⟩
    · obtain ⟨k1, k2, k3, k4, k5⟩ := readRow_ends hs hT (by decide : 2 < 256)
      rw [readRow_wrong h1] at hx
      exact ⟨_, hx, k1, k2, k3, fun _ => ⟨k4, k5⟩, fun h => absurd h h1⟩
  · intro s key from' done
    have hs : StoresCanonical s := readEcc_stores hv ecc
    have hst := readEcc_status v ecc
    have hts : s.cmdTable 8 = 0x20 := (congrArg F.PIP_TBL_CMD_TABLE.get (readEcc_get (r := .FWD_TBL_CMD) ecc rfl not_false)).trans ht
    have hdata (i : Nat) (hi : i < 9) : s.get (.FWD_TBL_DATA i) = v.get (.FWD_TBL_DATA i) := readEcc_get ecc (decide_eq_true hi) not_false
    have hkey : recKey ((List.range 5).map fun i => s.get (.FWD_TBL_DATA i)) = key :=
      congrArg recKey (List.map_congr_left fun i hi => hdata i (Nat.lt_trans (List.mem_range.mp hi) (by decide)))
    refine ⟨fun hw => ?_, fun hw => ?_⟩
    · have hx : exec (.fwdTblRead ecc) v = .next s.fwdRead := congrArg _ (if_pos hw)
      cases hup : v.t2Up with
      | false =>
        obtain ⟨k1, k2, k3, k4⟩ := fwdEnds_spec hs (by decide : 10 < 256)
        rw [fwdRead_down hts ((t2Up_of_get hst).trans hup)] at hx
        exact ⟨_, hx, k2, fun _ => ⟨readEcc_of_down hup ecc, k1, k3, k4⟩, nofun⟩
      | true =>
        obtain ⟨l1, l2⟩ := fwdRead_up hts ((t2Up_of_get hst).trans hup)
        rw [hkey] at l1 l2
        cases hfv : findVer (s.copy s.mainCopy) s.seeds key (fun e => visTo e.vis s.curSel) with
        | none =>
          obtain ⟨k1, k2, k3, k4⟩ := fwdEnds_spec hs (by decide : 5 < 256)
          rw [l1 hfv] at hx
          exact ⟨_, hx, k2, nofun, fun _ => ⟨fun _ => ⟨k1, k3, k4⟩, nofun⟩⟩
        | some be =>
          obtain ⟨b, e⟩ := be
          obtain ⟨k1, k2, k3, k4, k5⟩ := fwdDone_spec hs (s.fwdWords b e)
          rw [l2 b e hfv] at hx
          refine ⟨_, hx, k2, nofun, fun _ => ⟨nofun, fun b' e' he => ?_⟩⟩
          obtain ⟨rfl, rfl⟩ := Prod.mk.inj (Option.some.inj he)
          exact ⟨⟨k1, k3, k4⟩, k5⟩
    · have hx : exec (.fwdTblReadNext ecc) v = .next s.fwdReadNext := congrArg _ (if_pos hw)
      have hfrom : from' = (s.get (.FWD_TBL_DATA 0)).toNat := congrArg BitVec.toNat (hdata 0 (by decide)).symm
      have hrb := rebuilding_of_get hst
      obtain ⟨l1, l2, l3⟩ := fwdReadNext_cases hts hfrom
      by_cases h1 : from' < 2 ^ 27
      · cases h2 : v.rebuilding with
        | true =>
          obtain ⟨k1, k2, k3, k4⟩ := fwdEnds_spec hs (by decide : 9 < 256)
          rw [l2 h1 (hrb.trans h2)] at hx
          exact ⟨_, hx, k2, fun h => absurd h (Nat.not_le.mpr h1), fun _ _ => ⟨k1, k3, k4⟩, nofun, nofun⟩
        | false =>
          cases h3 : v.t2Up with
          | false =>
            have hdown : s.fwdReadNext = s.cmdEnd 8 10 0 := by
              have h0 : ¬ s.cmdTable 8 ≠ 0x20 := fun hn => hn hts
              have hu : s.t2Up = false := (t2Up_of_get hst).trans h3
              have hr : s.rebuilding = false := hrb.trans h2
              exact (if_neg h0).trans ((if_neg (by rw [← hfrom]; omega)).trans ((if_neg (by rw [hr]; decide)).trans (if_pos (by rw [hu]; rfl))))
            obtain ⟨k1, k2, k3, k4⟩ := fwdEnds_spec hs (by decide : 10 < 256)
            rw [hdown] at hx
            exact ⟨_, hx, k2, fun h => absurd h (Nat.not_le.mpr h1), nofun, nofun, nofun⟩
          | true =>
            obtain ⟨m1, m2⟩ := l3 h1 (hrb.trans h2) ((t2Up_of_get hst).trans h3)
            cases hfv : nextVisible s from' with
            | none =>
              obtain ⟨k1, k2, k3, k4, k5⟩ := nothingNext_spec hs from'
              rw [m1 hfv] at hx
              refine ⟨_, hx, k2, fun h => absurd h (Nat.not_le.mpr h1), nofun, fun _ _ _ _ => ⟨⟨k1, k3, k4⟩, k5⟩, fun _ _ _ b e he => ?_⟩
              have := hfv.symm.trans he
              cases this
            | some be =>
              obtain ⟨b, e⟩ := be
              obtain ⟨k1, k2, k3, k4, k5⟩ := fwdDone_spec hs (s.fwdWords b e)
              rw [m2 b e hfv] at hx
              refine ⟨_, hx, k2, fun h => absurd h (Nat.not_le.mpr h1), nofun, fun _ _ _ he => ?_, fun _ _ _ b' e' he => ?_⟩
              · have := hfv.symm.trans he
                cases this
              · obtain ⟨rfl, rfl⟩ := Prod.mk.inj (Option.some.inj (hfv.symm.trans he))
                exact ⟨⟨k1, k3, k4⟩, k5⟩
      · obtain ⟨k1, k2, k3, k4⟩ := fwdEnds_spec hs (by decide : 3 < 256)
        rw [l1 (Nat.le_of_not_lt h1)] at hx
        exact ⟨_, hx, k2, fun _ => ⟨k1, k3, k4⟩, fun h => absurd h h1, fun h => absurd h h1, fun h => absurd h h1⟩
  · intro from' done
    have hx : exec .fwdTblFlush s = .next s.fwdFlush := congrArg _ (if_pos hw)
    obtain ⟨l1, l2⟩ := fwdFlush_cases ht hup
    cases hcmd : s.fwd.flushCmd with
    | some p =>
      obtain ⟨k1, k2, k3, k4, k5⟩ := readRow_ends (T := 8) hs (by decide) (by decide : 9 < 256)
      rw [l1 (by rw [hcmd]; rfl)] at hx
      exact ⟨_, hx, fun _ => ⟨⟨k1, k4, k5⟩, (congrArg State.fwd k2 :)⟩, nofun⟩
    | none =>
      have ho := flushNoted_only s
      have hreg : (flushNoted s).regs = s.regs := (congrArg State.regs ho :)
      have hmask : (flushNoted s).masked = s.masked := (congrArg State.masked ho :)
      have hok : (flushNoted s).regsOk := by
        have := hs.regs
        unfold State.regsOk at *
        rwa [hreg]
      obtain ⟨k1, k2, -, -, -⟩ := cmdEnd_spec (T := 8) hok (by decide) (by decide : 0 < 256) (by decide : 0 < 256)
      have honly : OwnersOnly (flushNoted s) ((flushNoted s).cmdEnd 8 0 0) := cmdEnd_only rfl (by decide)
      rw [l2 hcmd] at hx
      refine ⟨_, hx, nofun, fun _ => ⟨⟨k1, k2, cmdEnd_keeps (T := 8) (KeepsRegs.refl.of_regs hreg hmask) (by simp [cmdReg]) (by simp [statusReg])⟩, ?_, ?_, ?_, ?_⟩⟩
      · exact (congrArg (fun t : State => t.fwd.flushCmd) honly :).trans (flushAdd_cmd _ _)
      · exact (congrArg State.cnt honly :).trans (congrArg State.cnt ho :)
      · exact (congrArg State.st0 honly :).trans (congrArg State.st0 ho :)
      · exact (congrArg State.st1 honly :).trans (congrArg State.st1 ho :)

end Sys2Proof
end

section
/-! PROOF. The ternary search, the parse of a frame and its two passes (R205, R208, R214, R218, R223). -/
namespace Sys2Proof

open Sys2Proof.Machine

set_option Elab.async false

variable {s t : State} {id sl e key : Nat} {f : Frame} {p : Parse} {x y : Nat × Row} {l pre post : List (Nat × Row)}

/-! ## Counting a list of matches -/

/-- Every position of the list counted in its slice. -/
def countRows (sl : Nat) (l : List (Nat × Row)) (s : State) : State := l.foldl (fun (t : State) m => t.count (C.tcamHits sl m.1)) s

theorem countRows_rest (sl : Nat) (l : List (Nat × Row)) (s : State) : countRows sl l s = { s with cnt := (countRows sl l s).cnt } := by
  induction l generalizing s with
  | nil => rfl
  | cons m l ih => exact (ih (s.count _)).trans rfl

theorem countRows_other {c : Nat} (h : ∀ m ∈ l, c ≠ C.tcamHits sl m.1) : (countRows sl l s).counter c = s.counter c := by
  induction l generalizing s with
  | nil => rfl
  | cons m l ih =>
    calc (countRows sl l (s.count (C.tcamHits sl m.1))).counter c
      _ = (s.count (C.tcamHits sl m.1)).counter c := ih fun m' h' => h m' (List.mem_cons_of_mem _ h')
      _ = s.counter c := State.counter_count_ne _ _ _ (h m List.mem_cons_self).symm

/-- Of positions that strictly rise each counts once. -/
theorem countRows_once (hl : l.Pairwise fun a b => a.1 < b.1) (hy : y ∈ l) : CountedOnce (C.tcamHits sl y.1) s (countRows sl l s) := by
  induction l generalizing s with
  | nil => cases hy
  | cons m l ih =>
    obtain ⟨hm, hl⟩ := List.pairwise_cons.mp hl
    rcases List.mem_cons.mp hy with rfl | hy
    · have ho : (countRows sl l (s.count (C.tcamHits sl y.1))).counter (C.tcamHits sl y.1) = (s.count (C.tcamHits sl y.1)).counter (C.tcamHits sl y.1) :=
        countRows_other fun m' h' => by
          have := hm m' h'
          unfold C.tcamHits
          omega
      exact ho.trans (countedOnce_any s _)
    · have ho : (s.count (C.tcamHits sl m.1)).counter (C.tcamHits sl y.1) = s.counter (C.tcamHits sl y.1) := State.counter_count_ne _ _ _ (by
        have := hm y hy
        unfold C.tcamHits
        omega)
      have := ih (s := s.count (C.tcamHits sl m.1)) hl hy
      unfold CountedOnce at this
      rw [ho] at this
      exact this

/-! ## The search -/

theorem mem_tcamMatches : y ∈ s.tcamMatches sl e key ↔ y ∈ s.visibleRows (0x10 + sl) e ∧ key &&& y.2.mask = y.2.value := by
  simp [State.tcamMatches, List.mem_filter]

theorem tcamMatches_nil : s.tcamMatches sl e key = [] ↔ ∀ x ∈ s.visibleRows (0x10 + sl) e, key &&& x.2.mask ≠ x.2.value := by
  simp [State.tcamMatches, List.filter_eq_nil_iff]

theorem tcamMatches_pairwise (h : skeysFrom none s.rows = true) : (s.tcamMatches sl e key).Pairwise fun a b => a.1 < b.1 :=
  (visibleRows_pairwise h _ _).filter _

/-- The first visible row that matches stands at the head of the matches. -/
theorem tcamMatches_first (h : s.visibleRows (0x10 + sl) e = pre ++ x :: post) (hpre : ∀ y ∈ pre, key &&& y.2.mask ≠ y.2.value)
    (hx : key &&& x.2.mask = x.2.value) : ∃ l, s.tcamMatches sl e key = x :: l := by
  have hp : pre.filter (fun x => key &&& x.2.mask == x.2.value) = [] := by simpa [List.filter_eq_nil_iff] using hpre
  refine ⟨post.filter fun x => key &&& x.2.mask == x.2.value, ?_⟩
  rw [State.tcamMatches, h, List.filter_append, hp, List.filter_cons_of_pos (by simpa using hx), List.nil_append]

/-- The search without a match. -/
theorem tcamSearch_none (h : s.tcamMatches sl e key = []) (bad : List Nat) : s.tcamSearch sl e key bad = (s, none) := by
  simp only [State.tcamSearch, h, State.searchRows]

/-- The search whose first match passes its row check. -/
theorem tcamSearch_first {bad : List Nat} (h : s.tcamMatches sl e key = x :: l) (hb : x.1 ∉ bad) :
    s.tcamSearch sl e key bad = (countRows sl ((s.tcamMatches sl e key).filter fun m => decide (x.1 ≤ m.1)) s, some x) := by
  have hr : s.searchRows (0x10 + sl) bad (x :: l) = (s, some x) := if_neg (by simpa using hb)
  simp only [State.tcamSearch, h, hr]
  rfl

/-- What a search with no failing row answers is the head of its matches. -/
theorem tcamSearch_clean (h : skeysFrom none s.rows = true) :
    (s.tcamMatches sl e key = [] ∧ s.tcamSearch sl e key [] = (s, none)) ∨
      ∃ x l, s.tcamMatches sl e key = x :: l ∧ s.tcamSearch sl e key [] = (countRows sl (s.tcamMatches sl e key) s, some x) := by
  cases hm : s.tcamMatches sl e key with
  | nil => exact .inl ⟨rfl, tcamSearch_none hm _⟩
  | cons x l =>
    refine .inr ⟨x, l, rfl, ?_⟩
    have hall : (x :: l).filter (fun m => decide (x.1 ≤ m.1)) = x :: l := List.filter_eq_self.mpr fun m h' => by
      have hp := tcamMatches_pairwise (sl := sl) (e := e) (key := key) h
      rw [hm, List.pairwise_cons] at hp
      rcases List.mem_cons.mp h' with rfl | h'
      · simp
      · exact decide_eq_true (hp.1 m h').le
    rw [tcamSearch_first hm (List.not_mem_nil), hm, hall]

theorem tcamSearch_answers (hs : skeysFrom none s.rows = true) :
    (∀ i r, (s.tcamSearch sl e key []).2 = some (i, r) →
      (i, r) ∈ s.visibleRows (0x10 + sl) e ∧ key &&& r.mask = r.value ∧
      (∀ j q, (j, q) ∈ s.visibleRows (0x10 + sl) e → key &&& q.mask = q.value → i ≤ j) ∧
      (let t := (s.tcamSearch sl e key []).1
       (∀ j q, (j, q) ∈ s.visibleRows (0x10 + sl) e → key &&& q.mask = q.value → CountedOnce (C.tcamHits sl j) s t) ∧
       t = { s with cnt := t.cnt } ∧
       ∀ c, (∀ j q, (j, q) ∈ s.visibleRows (0x10 + sl) e → key &&& q.mask = q.value → c ≠ C.tcamHits sl j) →
        t.counter c = s.counter c)) ∧
    ((s.tcamSearch sl e key []).2 = none ↔ ∀ j q, (j, q) ∈ s.visibleRows (0x10 + sl) e → key &&& q.mask ≠ q.value) ∧
    ((s.tcamSearch sl e key []).2 = none → (s.tcamSearch sl e key []).1 = s) := by
  have hp := tcamMatches_pairwise (sl := sl) (e := e) (key := key) hs
  rcases tcamSearch_clean (sl := sl) (e := e) (key := key) hs with ⟨hm, h⟩ | ⟨x, l, hm, h⟩
  · rw [h]
    exact ⟨nofun, ⟨fun _ j q => tcamMatches_nil.mp hm (j, q), fun _ => rfl⟩, fun _ => rfl⟩
  · have hx := mem_tcamMatches.mp (hm ▸ List.mem_cons_self)
    rw [h]
    refine ⟨fun i r hi => ?_, ⟨nofun, fun hn => absurd hx.2 (hn x.1 x.2 hx.1)⟩, nofun⟩
    cases hi
    refine ⟨hx.1, hx.2, fun j q hj hq => ?_, fun j q hj hq => countRows_once hp (y := (j, q)) (mem_tcamMatches.mpr ⟨hj, hq⟩),
      countRows_rest .., fun c hc => countRows_other fun m h' => ?_⟩
    · rw [hm, List.pairwise_cons] at hp
      have := mem_tcamMatches (sl := sl) (y := (j, q)).mpr ⟨hj, hq⟩
      rw [hm] at this
      rcases List.mem_cons.mp this with h' | h'
      · cases h'
        exact le_rfl
      · exact (hp.1 _ h').le
    · obtain ⟨h1, h2⟩ := mem_tcamMatches.mp h'
      exact hc m.1 m.2 h1 h2

/-! ## The parse -/

/-- A verdict other than OK counted at the frame's port. -/
def parseCounted (s : State) (f : Frame) (v : Verdict) : State :=
  match v with
  | .deep => s.count (C.parseDeep f.port)
  | .length => s.count (C.parseLength f.port)
  | .ok => s

theorem parseCounted_spec (s : State) (f : Frame) (v : Verdict) :
    parseCounted s f v = { s with cnt := (parseCounted s f v).cnt } ∧
      (match v with
       | .deep => CountedOnce (C.parseDeep f.port) s (parseCounted s f v) ∧ KeepsCounters [C.parseDeep f.port] s (parseCounted s f v)
       | .length => CountedOnce (C.parseLength f.port) s (parseCounted s f v) ∧ KeepsCounters [C.parseLength f.port] s (parseCounted s f v)
       | .ok => (parseCounted s f v).cnt = s.cnt) := by
  have other (c : Nat) : KeepsCounters [c] s (s.count c) := fun k hk => State.counter_count_ne _ _ _ fun h => hk (by simp [h])
  cases v with
  | ok => exact ⟨rfl, rfl⟩
  | deep => exact ⟨rfl, countedOnce_any s _, other _⟩
  | length => exact ⟨rfl, countedOnce_any s _, other _⟩

/-- The frame with its parse result. -/
def parsed (f : Frame) (p : Parse) : Frame := { f with parse := some p, stage := .parsed }

theorem exec_frameParse (hf : s.frame id = some f) :
    exec (.frameParse id) s = .next
      (if f.stage != Stage.admitted || f.fromHost || s.isPause f.port f.bytes || s.rstSet 4 f.slice (groupOf f.port % 8) then s
       else (parseCounted s f (parseFrame (s.parseCfg f) f.bytes).verdict).putFrame id (parsed f (parseFrame (s.parseCfg f) f.bytes))) := by
  have hx : exec (.frameParse id) s = execFrameParse id s := rfl
  rw [hx, execFrameParse, hf]
  rfl

theorem parseCounted_putFrame {v : Verdict} {g : Frame} :
    let t := (parseCounted s f v).putFrame id g
    t.frame id = some g ∧ (∀ k, k ≠ id → t.frame k = s.frame k) ∧ t = { s with frames := t.frames, cnt := t.cnt } := by
  have hr := (parseCounted_spec s f v).1
  generalize parseCounted s f v = u at hr ⊢
  refine ⟨sfind_sinsert_self .., fun k hk => ?_, ?_⟩
  · exact (sfind_sinsert_ne _ _ _ _ (Ne.symm hk)).trans (congrArg (fun v : State => v.frame k) hr :)
  · rw [hr]
    rfl

theorem frameParse_parses (hf : s.frame id = some f) (hst : f.stage = Stage.admitted) (hh : f.fromHost = false)
    (hp : s.isPause f.port f.bytes = false) :
    (s.rstSet 4 f.slice (groupOf f.port % 8) = true → exec (.frameParse id) s = .next s) ∧
      (s.rstSet 4 f.slice (groupOf f.port % 8) = false → ∃ t, exec (.frameParse id) s = .next t ∧
        t.frame id = some { f with parse := some (parseFrame (s.parseCfg f) f.bytes), stage := .parsed } ∧
        (∀ k, k ≠ id → t.frame k = s.frame k) ∧ t = { s with frames := t.frames, cnt := t.cnt } ∧
        (match (parseFrame (s.parseCfg f) f.bytes).verdict with
         | .deep => CountedOnce (C.parseDeep f.port) s t ∧ KeepsCounters [C.parseDeep f.port] s t
         | .length => CountedOnce (C.parseLength f.port) s t ∧ KeepsCounters [C.parseLength f.port] s t
         | .ok => t.cnt = s.cnt)) := by
  rw [exec_frameParse hf]
  generalize parseFrame (s.parseCfg f) f.bytes = q
  refine ⟨fun hr => by rw [if_pos (by simp [hr])], fun hr => ⟨_, congrArg _ (if_neg (by simp [hst, hh, hp, hr])), ?_⟩⟩
  obtain ⟨h1, h2, h3⟩ := parseCounted_putFrame (s := s) (f := f) (id := id) (v := q.verdict) (g := parsed f q)
  exact ⟨h1, h2, h3, (parseCounted_spec s f q.verdict).2⟩

/-! ## The two passes -/

theorem exec_classify (hf : s.frame id = some f) (hp : f.parse = some p) (hst : f.stage = Stage.parsed) (hc : s.ptpConsumes f = false)
    (hr : s.rstSet 4 f.slice 8 = false) (hb : s.behind id f (fun t => t == Stage.admitted || t == Stage.parsed) = false) (bad : List Nat) :
    exec (.classify id bad) s = .next (s.firstPass id f p (s.defAction f.sel f.port) bad) := by
  have hx : exec (.classify id bad) s = execClassify id bad s := rfl
  rw [hx, execClassify, hf]
  refine congrArg _ ?_
  dsimp only
  split
  · next hn => cases hn.symm.trans hp
  · next q hq =>
    cases hq.symm.trans hp
    exact if_neg (by simp [hst, hc, hr, hb])

theorem firstPass_notOk {d : Action} {bad : List Nat} (hv : p.verdict ≠ Verdict.ok) : s.firstPass id f p d bad = s.applyAction id f d :=
  if_pos (by simpa using hv)

theorem firstPass_miss {d : Action} {bad : List Nat} (hv : p.verdict = Verdict.ok) (hh : f.fromHost = false)
    (hm : s.tcamMatches f.slice f.sel (makeKey (s.keyCtx f) p) = []) :
    s.firstPass id f p d bad = (s.count (C.pipDefault f.port)).applyAction id f d := by
  rw [State.firstPass, if_neg (by simp [hv]), tcamSearch_none hm]
  simp only [hh, Bool.false_eq_true, if_false]

theorem firstPass_hit {d : Action} {bad : List Nat} (hv : p.verdict = Verdict.ok)
    (hm : s.tcamMatches f.slice f.sel (makeKey (s.keyCtx f) p) = x :: l) (hb : x.1 ∉ bad) :
    let hit := countRows f.slice ((s.tcamMatches f.slice f.sel (makeKey (s.keyCtx f) p)).filter fun m => decide (x.1 ≤ m.1)) s
    s.firstPass id f p d bad =
      if x.2.action.steer = false then hit.applyAction id f x.2.action
      else if s.rstSet 4 f.slice 9 = true then s else hit.dpiAdmit id f x.2.action := by
  intro hit
  rw [State.firstPass, if_neg (by simp [hv]), tcamSearch_first hm hb]
  simp only [Bool.not_eq_true']
  rfl

/-- What the second pass searches: the frame's key of the second pass, under the action noted with it. -/
theorem exec_recircPass {a : Action} (hf : s.frame id = some f) (hp : f.parse = some p) (ha : f.act = some a) (hst : f.stage = Stage.recirc)
    (hr : s.rstSet 4 f.slice 8 = false) (hb : s.behind id f (fun t => t == Stage.recirc) = false) (bad : List Nat) (g : Frame)
    (hg : g = { f with pass2 := true }) {u : State} (hit : Option (Nat × Row))
    (hs : s.tcamSearch g.slice g.sel (makeKey (s.keyCtx g) p) bad = (u, hit)) (fr : Nat) (hfr : fr = (u.applyAction id g ((hit.map fun x => x.2.action).getD a)).frames.length + 1) :
    exec (.recircPass id bad) s = .next ((u.applyAction id g ((hit.map fun x => x.2.action).getD a)).dpiRelease g fr) := by
  have hx : exec (.recircPass id bad) s = execRecircPass id bad s := rfl
  rw [hx, execRecircPass, hf, hfr]
  refine congrArg _ ?_
  dsimp only
  split
  · next hn => cases hn.symm.trans hp
  · next q hq =>
    cases hq.symm.trans hp
    refine (if_neg (by simp [hst, hr, hb])).trans ?_
    subst hg
    simp only [hs]
    cases hit with
    | some x => rfl
    | none =>
      simp only [ha]
      rfl

/-- Settles O31: the rows that match are the visible rows in their order, so the search answers the first and counts each at a counter
of its own; the passes are that search, and the action of its answer. -/
theorem framesParsedAndClassified : Obligations.FramesParsedAndClassified := by
  unfold Obligations.FramesParsedAndClassified
  refine ⟨fun s sl e key hs => tcamSearch_answers hs, fun s id f hf hst hh hp => frameParse_parses hf hst hh hp,
    fun s id f p hf hp hst hh hc hr hb => ⟨fun hv bad => ?_, fun hv hm bad => ?_, fun x pre post hv h hpre hx bad hbad => ?_⟩,
    fun s id f p a hf hp ha hst hr hb => ⟨fun hm bad => ?_, fun x pre post h hpre hx bad hbad => ?_⟩⟩
  · rw [exec_classify hf hp hst hc hr hb, firstPass_notOk hv]
  · rw [exec_classify hf hp hst hc hr hb, firstPass_miss hv hh (tcamMatches_nil.mpr hm)]
  · obtain ⟨l, hm⟩ := tcamMatches_first h hpre hx
    rw [exec_classify hf hp hst hc hr hb, firstPass_hit hv hm hbad]
    rfl
  · exact exec_recircPass hf hp ha hst hr hb bad _ rfl none (tcamSearch_none (tcamMatches_nil.mpr hm) bad) _ rfl
  · obtain ⟨l, hm⟩ := tcamMatches_first h hpre hx
    exact exec_recircPass hf hp ha hst hr hb bad _ rfl (some x) (tcamSearch_first hm hbad) _ rfl

end Sys2Proof
end

section
/-! PROOF. A matching round whose crossings end an epoch (R189, R215, R303). -/
namespace Sys2Proof

open Sys2Proof.Machine

set_option Elab.async false

/-- A replica of queue 0 whose frame is on die. -/
def onDieReplica (id : Nat) : Replica := ⟨id, 0, 0, .shared, false, false, false, none, .onDie, 0, 0, none, false, false, true, 0⟩

/-- A frame of two cells under a selector, whole in the buffer, of an age beyond any stale limit. -/
def oldFrame (sel : Nat) : Machine.Frame :=
  { newFrame 0 0 0 sel 1 (List.replicate 300 0#8) with ended := true, whole := true, written := 2, stage := .queued }

/-- A port whose age check runs: a frame half crossed, and behind it a stale one, the last in flight of the retired selector, which does
not see the device's one row. -/
def staleBehind : State :=
  let s := (State.reset.setFld (.PRT_PORT_STATUS 0) F.PRT_PORT_STATUS_PARK 3).setFld .STW_EPOCH_STATUS F.STW_EPOCH_STATUS_RETIRED_LIVE 1
  { s with frames := [(1, oldFrame 0), (2, oldFrame 1)], rows := [(0, [⟨[], true, false⟩])]
           reps := [(1, { onDieReplica 1 with crossed := 1 }), (2, { onDieReplica 2 with ageChk := true })] }

/-- What a round does before its requests leaves the row as it is. -/
theorem staleBehind_start : (staleBehind.takeArrivals []).ageChecks.growDeficits.frameYields.rows = staleBehind.rows := by decide +kernel

/-- The crossing brings the stale frame to the head; its discard ends the epoch, and the retired selector sees the row. -/
theorem staleBehind_round {t : State} (h : exec (.matchingRound [] []) staleBehind = .next t) : t.rows ≠ staleBehind.rows := by
  have hx : exec (.matchingRound [] []) staleBehind = execMatchingRound [] [] staleBehind := rfl
  rw [hx, execMatchingRound] at h
  obtain rfl := Host.Outcome.next.inj h
  decide +kernel

/-- Refutes O39: in `staleBehind` the last cell of the frame that crosses brings a stale frame to the head of its queue (R189); its
discard ends the retired epoch (R215), and the crossings so change a row. -/
theorem not_matchingRound : ¬ Obligations.MatchingRound := by
  unfold Obligations.MatchingRound
  intro h
  obtain ⟨-, -, -, hrun⟩ := h staleBehind [] []
  obtain ⟨t, hx, -, -, -, hrows, -⟩ := hrun (by decide +kernel)
  exact staleBehind_round hx (hrows.trans staleBehind_start)

end Sys2Proof
end

section
/-! PROOF. A frame on the wire: its start at a port, and its end whole or stomped (R284, R297, R299, R326, R497). -/
namespace Sys2Proof

open Sys2Proof.Machine

set_option Elab.async false

variable {s t u v w : State} {P Q : State → Prop} {p k id lane ball ts : Nat} {r : Replica} {f g : Machine.Frame} {ecc : EccSeen}

/-! ## The freeing of frames, and marks of one frame -/

theorem PathProof.and (c : PathProof P) (d : PathProof Q) : PathProof fun u => P u ∧ Q u where
  canon h := c.canon h.1
  range h := c.range h.1
  due p i b h := ⟨c.due p i b h.1, d.due p i b h.2⟩
  xoff v hp hup h := ⟨c.xoff v hp hup h.1, d.xoff v hp hup h.2⟩
  endEpoch h := ⟨c.endEpoch h.1, d.endEpoch h.2⟩
  counts hid h := ⟨c.counts hid h.1, d.counts hid h.2⟩
  yielded hu hw hk := ⟨c.yielded hu.1 hw.1 hk, d.yielded hu.2 hw.2 hk⟩
  txDone id h := ⟨c.txDone id h.1, d.txDone id h.2⟩
  erased id h := ⟨c.erased id h.1, d.erased id h.2⟩
  dropped hu hw hf := ⟨c.dropped hu.1 hw.1 hf, d.dropped hu.2 hw.2 hf⟩
  freed k h := ⟨c.freed k h.1, d.freed k h.2⟩

/-- The frame, while it is in the device, is marked as `M` says. -/
structure FrameMarks (id : Nat) (M : Machine.Frame → Prop) (u : State) : Prop where
  canon : StoresCanonical u
  range : FramesInRange u
  marks : ∀ x, u.frame id = some x → M x

namespace FrameMarks

variable {M : Machine.Frame → Prop}

theorem of_frames (h : FrameMarks id M u) (hv : Evolves u v) (hf : v.frames = u.frames) : FrameMarks id M v :=
  ⟨hv.stores h.canon, hv.range h.range, fun g hg => h.marks g (by rwa [State.frame, hf] at hg)⟩

theorem pathProof (hM : ∀ x, M x → M (asDropped x)) : PathProof (FrameMarks id M) where
  canon h := h.canon
  range h := h.range
  due _ _ _ h := h.of_frames Evolves.refl.of_kept rfl
  xoff _ _ _ h := h.of_frames (Evolves.refl.setFld ..) rfl
  endEpoch {u} h := h.of_frames Evolves.refl.endEpoch (by
    obtain ⟨_, _, he⟩ := endEpoch_eq u
    rw [he]
    rfl)
  counts _ h := h.of_frames (Evolves.refl.count _) rfl
  yielded hu hw hk := hw.of_frames (Evolves.refl.putRep _ fun _ => hu.range.queues _ (mem_of_sfind hk)) rfl
  txDone _ h := h.of_frames (Evolves.refl.txDone _) rfl
  erased {u} j h := by
    refine ⟨(Evolves.refl.eraseFrame j).stores h.canon, (Evolves.refl.eraseFrame j).range h.range, fun x hx => ?_⟩
    by_cases hj : j = id
    · subst hj
      rw [show State.frame { u with frames := serase u.frames j } j = _ from sfind_serase_self _ _ _ h.canon.frames] at hx
      cases hx
    · rw [show State.frame { u with frames := serase u.frames j } id = _ from sfind_serase_ne _ _ _ hj] at hx
      exact h.marks x hx
  dropped {u w j f} hu hw hf := by
    have hev : Evolves w (w.putFrame j (asDropped f)) := Evolves.refl.putFrame _ fun _ =>
      have ⟨hp, hr, hk⟩ := hu.range.frame (mem_of_sfind hf)
      ⟨hp, hr, hk⟩
    refine ⟨hev.stores hw.canon, hev.range hw.range, fun x hx => ?_⟩
    have hx : (w.putFrame j (asDropped f)).frame id = some x := hx
    by_cases hj : j = id
    · subst hj
      rw [show (w.putFrame j (asDropped f)).frame j = _ from sfind_sinsert_self ..] at hx
      cases hx
      exact hM f (hu.marks f hf)
    · rw [show (w.putFrame j (asDropped f)).frame id = _ from sfind_sinsert_ne _ _ _ _ hj] at hx
      exact hw.marks x hx
  freed k h := h.of_frames (Evolves.refl.eraseRep k) rfl

end FrameMarks

/-- The replica is not in the device. -/
structure RepGone (k : Nat) (u : State) : Prop where
  canon : StoresCanonical u
  range : FramesInRange u
  gone : u.rep k = none

namespace RepGone

theorem of_reps (h : RepGone k u) (hv : Evolves u v) (hr : v.reps = u.reps) : RepGone k v :=
  ⟨hv.stores h.canon, hv.range h.range, by rw [State.rep, hr]; exact h.gone⟩

theorem putRep {j : Nat} {x y : Replica} (h : RepGone k w) (hu : u.rep j = some x) (hk : u.rep k = none) (hv : Evolves w (w.putRep j y)) :
    RepGone k (w.putRep j y) := by
  have hj : j ≠ k := fun e => by
    rw [e, hk] at hu
    cases hu
  exact ⟨hv.stores h.canon, hv.range h.range, (sfind_sinsert_ne _ _ _ _ hj).trans h.gone⟩

theorem pathProof : PathProof (RepGone k) where
  canon h := h.canon
  range h := h.range
  due _ _ _ h := h.of_reps Evolves.refl.of_kept rfl
  xoff _ _ _ h := h.of_reps (Evolves.refl.setFld ..) rfl
  endEpoch {u} h := h.of_reps Evolves.refl.endEpoch (by
    obtain ⟨_, _, he⟩ := endEpoch_eq u
    rw [he]
    rfl)
  counts _ h := h.of_reps (Evolves.refl.count _) rfl
  yielded hu hw hk := hw.putRep hk hu.gone (Evolves.refl.putRep _ fun _ => hu.range.queues _ (mem_of_sfind hk))
  txDone _ h := h.of_reps (Evolves.refl.txDone _) rfl
  erased _ h := h.of_reps (Evolves.refl.eraseFrame _) rfl
  dropped hu hw hf := hw.of_reps (Evolves.refl.putFrame _ fun _ =>
    have ⟨hp, hr, hk⟩ := hu.range.frame (mem_of_sfind hf)
    ⟨hp, hr, hk⟩) rfl
  freed {u} j h := by
    refine ⟨(Evolves.refl.eraseRep j).stores h.canon, (Evolves.refl.eraseRep j).range h.range, ?_⟩
    by_cases hj : j = k
    · subst hj
      exact sfind_serase_self _ _ _ h.canon.reps
    · exact (sfind_serase_ne _ _ _ hj).trans h.gone

end RepGone

/-- The age check of a port frees stale frames and marks the others; then it may end. -/
theorem ageCheck_keeps (c : PathProof P) (hs : ∀ {u}, P u → P (u.count (C.stale p)))
    (ha : ∀ {u} kv, kv ∈ u.reps → P u → P (u.putRep kv.1 { kv.2 with aged := true })) (h : P s) :
    ∃ u, P u ∧ (s.ageCheck p = u ∨ s.ageCheck p = u.setPark p 0) := by
  have hcheck : ∀ (n : Nat) (v : State), P v → ∃ u, P u ∧ (v.staleCheck p n = u ∨ v.staleCheck p n = u.setPark p 0) := by
    intro n
    induction n with
    | zero => exact fun v hv => ⟨v, hv, .inl rfl⟩
    | succ n ih =>
      intro v hv
      unfold State.staleCheck
      split
      · next kv hkv =>
        split
        · exact ih _ (c.release _ (hs hv))
        · exact ih _ (ha kv (List.mem_of_mem_filter (List.mem_of_mem_filter (List.mem_of_mem_filter (List.mem_of_find?_eq_some hkv)))) hv)
      · split
        · exact ⟨v, hv, .inl rfl⟩
        · exact ⟨v, hv, .inr rfl⟩
  unfold State.ageCheck
  split
  · exact hcheck _ s h
  · exact ⟨s, h, .inl rfl⟩

/-! ## The end of a replica -/

/-- What stays as it was while a replica leaves and its port's age check goes on: counters, outputs, and the marks of its frame. -/
def Leaving (id : Nat) (M : Machine.Frame → Prop) (s u : State) : Prop := Flows pathReg queueCnt s u ∧ Quiet s.out u ∧ FrameMarks id M u

theorem Leaving.pathProof {M : Machine.Frame → Prop} (hM : ∀ x, M x → M (asDropped x)) : PathProof (Leaving id M s) :=
  (Flows.pathProof (fun _ h => h) fun _ h => .inl h).and (Quiet.pathProof.and (FrameMarks.pathProof hM))

/-- A replica leaves, and its port's age check goes on. -/
theorem releaseAge_spec {M : Machine.Frame → Prop} (hM : ∀ x, M x → M (asDropped x)) (hp : p < 1024) (hs : StoresCanonical s) (hr : FramesInRange s)
    (hm : ∀ x, s.frame id = some x → M x) :
    let t := (s.release k).ageCheck p
    t.rep k = none ∧ t.out = s.out ∧ (∀ c, ¬ queueCnt c → t.counter c = s.counter c) ∧ ∀ x, t.frame id = some x → M x := by
  intro t
  have c := Leaving.pathProof (id := id) (s := s) hM
  have hv : Leaving id M s (s.release k) := c.release k ⟨.refl hs hr, ⟨hs, hr, rfl⟩, hs, hr, hm⟩
  have haged {u : State} (hu : FramesInRange u) (kv : Nat × Replica) (hkv : kv ∈ u.reps) : Evolves u (u.putRep kv.1 { kv.2 with aged := true }) :=
    Evolves.refl.putRep _ fun _ => hu.queues kv hkv
  obtain ⟨u, ⟨⟨hf, hq, hm⟩, hg⟩, ht⟩ := ageCheck_keeps (p := p) (c.and (RepGone.pathProof (k := k)))
    (fun {u} h => ⟨⟨h.1.1.count (.inr ⟨p, hp, .inr (.inr rfl)⟩), h.1.2.1.of_out (Evolves.refl.count _),
      h.1.2.2.of_frames (Evolves.refl.count _) rfl⟩, h.2.of_reps (Evolves.refl.count _) rfl⟩)
    (fun {u} kv hkv h =>
      have he := haged h.2.range kv hkv
      ⟨⟨h.1.1.of_stores he rfl, h.1.2.1.of_out he, h.1.2.2.of_frames he rfl⟩, h.2.putRep (rep_of_mem h.2.canon hkv) h.2.gone he⟩)
    ⟨hv, hv.1.canon, hv.1.range, release_gone hs hr k⟩
  have ht : t = u ∨ t = u.setPark p 0 := ht
  rcases ht with rfl | ht
  · exact ⟨hg.gone, hq.out, hf.cnts, hm.marks⟩
  · rw [ht]
    exact ⟨hg.gone, hq.out, hf.cnts, hm.marks⟩

/-! ## What the wire carries -/

/-- The cells of a replica were lost in spill. -/
def spilledAway (r : Replica) : Bool := match r.spill with | .lost _ => true | _ => false

/-- A frame read without an uncorrectable error is as it was. -/
theorem seen_clean (h : (f.seen r ecc).faulty = false) : f.seen r ecc = f ∧ f.badWords = [] ∧ f.gone = [] := by
  obtain ⟨⟨hw, hl⟩, hg⟩ : ((f.badWords ++ (ecc.bad.filter fun w => decide (8 * w.1 < f.bytes.length) && !f.badWords.contains w)) = [] ∧
      (f.seen r ecc).badLink = none) ∧ f.gone = [] := by
    simp only [Machine.Frame.faulty, Bool.or_eq_false_iff, Bool.not_eq_false', List.isEmpty_iff, Option.isSome_eq_false_iff, Option.isNone_iff_eq_none] at h
    exact h
  obtain ⟨hw1, hw2⟩ := List.append_eq_nil_iff.mp hw
  have hlink : (f.seen r ecc).badLink = f.badLink := by
    simp only [Machine.Frame.seen] at hl ⊢
    split at hl
    · rfl
    · cases hl
  refine ⟨?_, hw1, hg⟩
  calc f.seen r ecc = { f.readBad ecc.bad with badLink := (f.seen r ecc).badLink } := rfl
    _ = { f with badWords := f.badWords ++ (ecc.bad.filter fun w => decide (8 * w.1 < f.bytes.length) && !f.badWords.contains w), badLink := f.badLink } := by
      rw [hlink]
      rfl
    _ = { f with badWords := f.badWords, badLink := f.badLink } := by rw [hw2, List.append_nil]
    _ = f := rfl

/-- A whole frame with nothing bad is on the wire as its bytes rewritten for the port. -/
theorem wireBytes_clean (hl : spilledAway r = false) (hw : f.badWords = []) (hg : f.gone = []) : s.wireBytes f r ts = s.sentBytes f r ts := by
  unfold State.wireBytes
  split
  · next h =>
    rw [spilledAway, h] at hl
    cases hl
  · rw [hw, hg]
    rfl

theorem stompedBody_lost (h : spilledAway r = true) :
    s.stompedBody f r ts = List.replicate (256 * ((f.bytes.length + 255) / 256)) 0#8 := by
  unfold spilledAway at h
  simp only [State.stompedBody, State.wireBytes]
  split at h
  · next st hst => rw [hst]
  · cases h

/-- What a frame with damaged cells puts on the wire before its stomped FCS. -/
def stompedPart (s : State) (g : Machine.Frame) (r : Replica) (ts : Nat) : List Byte :=
  let damaged := zeroCells g.gone (s.sentBytes { g with bytes := asRead g.badWords g.bytes } r ts)
  match g.badLink with
  | some i => damaged.take (min (256 * (i + 1)) (damaged.length - 4))
  | none => damaged.take (damaged.length - 4)

theorem stompedBody_kept (h : spilledAway r = false) : s.stompedBody f r ts = stompedPart s f r ts := by
  have hw : s.wireBytes f r ts = zeroCells f.gone (s.sentBytes { f with bytes := asRead f.badWords f.bytes } r ts) := by
    unfold State.wireBytes
    split
    · next hs =>
      rw [spilledAway, hs] at h
      cases h
    · rfl
  unfold State.stompedBody stompedPart
  rw [hw]
  generalize zeroCells f.gone (s.sentBytes { f with bytes := asRead f.badWords f.bytes } r ts) = b
  unfold spilledAway at h
  cases hs : r.spill with
  | lost n =>
    rw [hs] at h
    cases h
  | onDie => cases f.badLink <;> rfl
  | inSpill n => cases f.badLink <;> rfl

/-! ## The end of a frame (R284, R297, R497) -/

/-- A frame with damaged or lost cells ends stomped, and counts so. -/
theorem endFrame_stomped (h : spilledAway r = true ∨ f.faulty = true) :
    s.endFrame f r ts = (s.emit (.frame (portOf r.q) (s.stompedBody f r ts ++ stompFcs (s.stompedBody f r ts)) true)).count C.bufEccStomped :=
  if_pos (Bool.or_eq_true_iff.mpr h)

/-- The bin of a replica that the port's histogram counts. -/
def histBin (s : State) (f : Machine.Frame) (p ts : Nat) : Nat := C.latHist p (latency f ts (F.SWC_HIST_CFG_MIN_EXP.get (s.get (.SWC_HIST_CFG p))))

/-- The histogram of the replica's port counts its class. -/
def histOn (s : State) (r : Replica) : Prop :=
  F.SWC_HIST_CFG_EN.get (s.get (.SWC_HIST_CFG (portOf r.q))) = 1 ∧ (F.SWC_HIST_CFG_CLASSES.get (s.get (.SWC_HIST_CFG (portOf r.q)))).testBit (classOf r.q) = true

/-- A clean frame leaves on the wire; its latency may count in a bin, and a frame of the engine's own as one sent. -/
theorem endFrame_clean (hl : spilledAway r = false) (hf : f.faulty = false) :
    (s.endFrame f r ts).out = .frame (portOf r.q) (s.wireBytes f r ts) false :: s.out ∧
      (∀ c, c ≠ histBin s f (portOf r.q) ts → c ≠ C.ptpTx (portOf r.q) → (s.endFrame f r ts).counter c = s.counter c) ∧
      (portOf r.q < 1024 → (histOn s r → CountedOnce (histBin s f (portOf r.q) ts) s (s.endFrame f r ts)) ∧
        (¬ histOn s r → ∀ c, c ≠ C.ptpTx (portOf r.q) → (s.endFrame f r ts).counter c = s.counter c)) := by
  have he : s.endFrame f r ts = if f.engine then ((s.emit (.frame (portOf r.q) (s.wireBytes f r ts) false)).histCount f r ts).count (C.ptpTx (portOf r.q))
      else (s.emit (.frame (portOf r.q) (s.wireBytes f r ts) false)).histCount f r ts := if_neg (by
    rw [Bool.or_eq_true]
    rintro (h | h)
    · exact absurd (hl.symm.trans h) nofun
    · exact absurd (hf.symm.trans h) nofun)
  rw [he]
  have hu : ∀ c, (s.emit (.frame (portOf r.q) (s.wireBytes f r ts) false)).counter c = s.counter c := fun _ => rfl
  have hbin : histBin (s.emit (.frame (portOf r.q) (s.wireBytes f r ts) false)) f (portOf r.q) ts = histBin s f (portOf r.q) ts := rfl
  have hon : histOn (s.emit (.frame (portOf r.q) (s.wireBytes f r ts) false)) r ↔ histOn s r := Iff.rfl
  have hout : (s.emit (.frame (portOf r.q) (s.wireBytes f r ts) false)).out = .frame (portOf r.q) (s.wireBytes f r ts) false :: s.out := rfl
  generalize s.emit (.frame (portOf r.q) (s.wireBytes f r ts) false) = u at hu hbin hon hout
  have hyes : histOn u r → u.histCount f r ts = u.count (histBin u f (portOf r.q) ts) := fun h => if_pos h
  have hno : ¬ histOn u r → u.histCount f r ts = u := fun h => if_neg h
  have hcases (c : Nat) (hc : c ≠ histBin s f (portOf r.q) ts ∨ ¬ histOn s r) : (u.histCount f r ts).counter c = s.counter c := by
    by_cases h : histOn u r
    · rw [hyes h, hbin, State.counter_count_ne _ _ _ (Ne.symm (hc.resolve_right (not_not.mpr (hon.mp h))))]
      exact hu c
    · rw [hno h]
      exact hu c
  have hengine (v : State) (c : Nat) (hc : c ≠ C.ptpTx (portOf r.q)) : (if f.engine then v.count (C.ptpTx (portOf r.q)) else v).counter c = v.counter c := by
    split
    · exact State.counter_count_ne _ _ _ (Ne.symm hc)
    · rfl
  refine ⟨?_, fun c hc hp => (hengine _ c hp).trans (hcases c (.inl hc)), fun hp => ⟨fun h => ?_, fun h c hc => (hengine _ c hc).trans (hcases c (.inr h))⟩⟩
  · have hh : (u.histCount f r ts).out = u.out := by
      by_cases h : histOn u r
      · rw [hyes h]
        rfl
      · rw [hno h]
    rw [← hout, ← hh]
    split <;> rfl
  · have hne : histBin s f (portOf r.q) ts ≠ C.ptpTx (portOf r.q) := by
      simp only [histBin, C.latHist, C.ptpTx, C.page]
      omega
    unfold CountedOnce
    rw [hengine _ _ hne, hyes (hon.mpr h), hbin, ← hu]
    exact countedOnce_any u _

theorem endFrame_rest (s : State) (f : Machine.Frame) (r : Replica) (ts : Nat) :
    s.endFrame f r ts = { s with out := (s.endFrame f r ts).out, cnt := (s.endFrame f r ts).cnt } := by
  unfold State.endFrame State.histCount
  extract_lets lost b port word v
  have hv : v = { s with out := v.out, cnt := v.cnt } := by
    unfold v
    split <;> rfl
  split
  · rfl
  · split
    · rw [hv]
      rfl
    · exact hv

/-- The state in which a frame's end is put on the wire: the corrected words counted, and what the code saw kept with the frame. -/
def readOut (s : State) (r : Replica) (g : Machine.Frame) (n : Nat) : State := (s.countN C.bufEccCorrected n).putFrame r.frame g

theorem readOut_eq (s : State) (r : Replica) (g : Machine.Frame) (n : Nat) :
    readOut s r g n = { s with frames := (readOut s r g n).frames, cnt := (readOut s r g n).cnt } := by
  unfold readOut
  rw [countN_only]
  rfl

theorem readOut_other (s : State) (r : Replica) (g : Machine.Frame) (n : Nat) {c : Nat} (h : c ≠ C.bufEccCorrected) : (readOut s r g n).counter c = s.counter c := by
  have hc : ∀ (n : Nat) (u : State), (u.countN C.bufEccCorrected n).counter c = u.counter c := by
    intro n
    induction n with
    | zero => exact fun _ => rfl
    | succ n ih => exact fun u => (ih _).trans (State.counter_count_ne _ _ _ h.symm)
  exact hc n s

theorem transmitting_port (hs : StoresCanonical s) (hr : FramesInRange s) (ht : s.transmitting p = some k) (hk : s.rep k = some r) :
    portOf r.q = p ∧ p < 1024 := by
  unfold State.transmitting at ht
  obtain ⟨kv, hfind, rfl⟩ := Option.map_eq_some_iff.mp ht
  have hm := List.mem_of_find?_eq_some hfind
  have hc := List.find?_some hfind
  rw [rep_of_mem hs hm] at hk
  cases hk
  simp only [Bool.and_eq_true, beq_iff_eq] at hc
  exact ⟨hc.1, hc.1 ▸ portOf_lt (hr.queues kv hm)⟩

theorem exec_frameTxEnd (hh : s.boot.scanHold = false) (ht : s.transmitting p = some k) (hk : s.rep k = some r) (hf : s.frame r.frame = some f)
    (htx : r.tx = some ts) (hc : s.allCrossed r = true ∨ ∃ i, (f.seen r ecc).badLink = some i ∧ i < r.crossed) :
    exec (.frameTxEnd p ecc) s = .next ((((readOut s r (f.seen r ecc) ecc.corrected).endFrame (f.seen r ecc) r ts).release k).ageCheck p) := by
  have hx : exec (.frameTxEnd p ecc) s = execFrameTxEnd p ecc s := rfl
  rw [hx, execFrameTxEnd]
  have hcut : (!s.allCrossed r && !(f.seen r ecc).cutShort r) = false := by
    rcases hc with h | ⟨i, h, hi⟩
    · simp [h]
    · simp [Machine.Frame.cutShort, h, hi]
  simp only [hh, ht, hk, hf, htx, hcut, Bool.false_eq_true, if_false]
  rfl

/-- What the end of a frame shows of the wire and of the counters, from the state in which it was read. -/
theorem frameTxEnd_spec (hs : StoresCanonical s) (hr : FramesInRange s) (hh : s.boot.scanHold = false) (ht : s.transmitting p = some k)
    (hk : s.rep k = some r) (hf : s.frame r.frame = some f) (htx : r.tx = some ts)
    (hc : s.allCrossed r = true ∨ ∃ i, (f.seen r ecc).badLink = some i ∧ i < r.crossed) :
    ∃ t, exec (.frameTxEnd p ecc) s = .next t ∧ t.rep k = none ∧
      (∀ x, t.frame r.frame = some x → x.badWords = (f.seen r ecc).badWords ∧ x.badLink = (f.seen r ecc).badLink) ∧
      t.out = ((readOut s r (f.seen r ecc) ecc.corrected).endFrame (f.seen r ecc) r ts).out ∧
      ∀ c, ¬ queueCnt c → t.counter c = ((readOut s r (f.seen r ecc) ecc.corrected).endFrame (f.seen r ecc) r ts).counter c := by
  obtain ⟨hp, hlt⟩ := transmitting_port hs hr ht hk
  refine ⟨_, exec_frameTxEnd hh ht hk hf htx hc, ?_⟩
  have hev : Evolves s (readOut s r (f.seen r ecc) ecc.corrected) := (Evolves.refl.countN ..).putFrame _ fun hr =>
    have ⟨hp, hr, hk⟩ := hr.frame (mem_of_sfind hf)
    ⟨hp, hr, hk⟩
  have hg : (readOut s r (f.seen r ecc) ecc.corrected).frame r.frame = some (f.seen r ecc) := sfind_sinsert_self ..
  generalize readOut s r (f.seen r ecc) ecc.corrected = u at hev hg
  have hev2 : Evolves s (u.endFrame (f.seen r ecc) r ts) := hev.endFrame ..
  have hm : ∀ x, (u.endFrame (f.seen r ecc) r ts).frame r.frame = some x → x.badWords = (f.seen r ecc).badWords ∧ x.badLink = (f.seen r ecc).badLink := by
    intro x hx
    have hfr : (u.endFrame (f.seen r ecc) r ts).frame r.frame = u.frame r.frame := (congrArg (fun v : State => v.frame r.frame) (endFrame_rest u (f.seen r ecc) r ts) :)
    rw [hfr, hg] at hx
    cases hx
    exact ⟨rfl, rfl⟩
  obtain ⟨h1, h2, h3, h4⟩ := releaseAge_spec (k := k) (M := fun x => x.badWords = (f.seen r ecc).badWords ∧ x.badLink = (f.seen r ecc).badLink)
    (fun _ h => h) hlt (hev2.stores hs) (hev2.range hr) hm
  exact ⟨h1, h4, h2, h3⟩

theorem not_queueCnt_of_ge {c : Nat} (h : 0x10000 ≤ c) : ¬ queueCnt c := by
  rintro ((h1 | h1 | ⟨k, hk, h1⟩) | ⟨q, hq, h1 | h1 | h1⟩) <;>
    simp only [C.txFrames, C.ladderYield, C.prtTxStomped, C.flushed, C.stale, C.page] at h1 <;> omega

theorem not_queueCnt_bufEcc : ¬ queueCnt C.bufEccCorrected ∧ ¬ queueCnt C.bufEccStomped := by
  constructor <;> rintro ((h1 | h1 | ⟨k, hk, h1⟩) | ⟨q, hq, h1 | h1 | h1⟩) <;>
    simp only [C.bufEccCorrected, C.bufEccStomped, C.txFrames, C.ladderYield, C.prtTxStomped, C.flushed, C.stale, C.page] at h1 <;> omega

/-- A frame that ends stomped sends one message with the body it had, and counts. -/
theorem readOut_stomped {n : Nat} (h : spilledAway r = true ∨ g.faulty = true) :
    let v := (readOut s r g n).endFrame g r ts
    v.out = .frame (portOf r.q) (s.stompedBody g r ts ++ stompFcs (s.stompedBody g r ts)) true :: s.out ∧ CountedOnce C.bufEccStomped s v ∧
      v.counter C.bufEccCorrected = (readOut s r g n).counter C.bufEccCorrected := by
  intro v
  have hv : v = _ := endFrame_stomped h
  have hb : (readOut s r g n).stompedBody g r ts = s.stompedBody g r ts := by
    rw [readOut_eq]
    rfl
  rw [hb] at hv
  rw [hv]
  refine ⟨?_, ?_, State.counter_count_ne _ _ _ (by decide)⟩
  · rw [readOut_eq]
    rfl
  · have := countedOnce_any ((readOut s r g n).emit (.frame (portOf r.q) (s.stompedBody g r ts ++ stompFcs (s.stompedBody g r ts)) true)) C.bufEccStomped
    unfold CountedOnce at this ⊢
    rw [this]
    have h0 : ((readOut s r g n).emit (.frame (portOf r.q) (s.stompedBody g r ts ++ stompFcs (s.stompedBody g r ts)) true)).counter C.bufEccStomped =
      s.counter C.bufEccStomped := readOut_other s r g n (by decide)
    rw [h0]

/-- A frame that ends clean sends one message with its bytes, and counts in its bin alone. -/
theorem readOut_clean {n : Nat} (hl : spilledAway r = false) (hg : (f.seen r ecc).faulty = false) (hp : portOf r.q < 1024) :
    let v := (readOut s r (f.seen r ecc) n).endFrame (f.seen r ecc) r ts
    v.out = .frame (portOf r.q) (s.sentBytes f r ts) false :: s.out ∧ v.counter C.bufEccStomped = s.counter C.bufEccStomped ∧
      v.counter C.bufEccCorrected = (readOut s r (f.seen r ecc) n).counter C.bufEccCorrected ∧
      (histOn s r → CountedOnce (histBin s f (portOf r.q) ts) s v) ∧
      (¬ histOn s r → ∀ j, v.counter (C.latHist (portOf r.q) j) = s.counter (C.latHist (portOf r.q) j)) := by
  intro v
  obtain ⟨hf, hw, hgone⟩ := seen_clean hg
  have hv : v = (readOut s r f n).endFrame f r ts := by
    unfold v
    rw [hf]
  rw [hf] at hg ⊢
  obtain ⟨h1, h2, h3⟩ := endFrame_clean (s := readOut s r f n) (ts := ts) hl hg
  obtain ⟨h3, h4⟩ := h3 hp
  rw [← hv] at h1 h2 h3 h4
  rw [wireBytes_clean hl hw hgone] at h1
  have hbytes : (readOut s r f n).sentBytes f r ts = s.sentBytes f r ts := by
    rw [readOut_eq]
    rfl
  have hon : histOn (readOut s r f n) r ↔ histOn s r := by
    rw [readOut_eq]
    rfl
  have hbin : histBin (readOut s r f n) f (portOf r.q) ts = histBin s f (portOf r.q) ts := by
    rw [readOut_eq]
    rfl
  have hout : (readOut s r f n).out = s.out := by rw [readOut_eq]
  have hne (c : Nat) (hc : c < 0x100) : c ≠ histBin (readOut s r f n) f (portOf r.q) ts ∧ c ≠ C.ptpTx (portOf r.q) := by
    simp only [histBin, C.latHist, C.ptpTx, C.page]
    omega
  have hbuf (j : Nat) : C.latHist (portOf r.q) j ≠ C.bufEccCorrected ∧ C.latHist (portOf r.q) j ≠ C.ptpTx (portOf r.q) := by
    simp only [C.latHist, C.bufEccCorrected, C.ptpTx, C.page]
    omega
  rw [hbytes, hout] at h1
  rw [hon, hbin] at h3
  refine ⟨h1, (h2 _ (hne _ (by decide)).1 (hne _ (by decide)).2).trans (readOut_other s r f n (by decide)), h2 _ (hne _ (by decide)).1 (hne _ (by decide)).2,
    fun h => ?_, fun h j => (h4 (mt hon.mp h) _ (hbuf j).2).trans (readOut_other s r f n (hbuf j).1)⟩
  have h5 := h3 h
  have h0 : (readOut s r f n).counter (histBin s f (portOf r.q) ts) = s.counter (histBin s f (portOf r.q) ts) := readOut_other s r f n (hbuf _).1
  unfold CountedOnce at h5 ⊢
  rw [h5, h0]

theorem readOut_corrected (hs : StoresCanonical s) (n : Nat) : CountedTimes C.bufEccCorrected n s (readOut s r g n) :=
  (countN_counter hs.cnt C.bufEccCorrected n).1

/-! ## The start of a frame (R186, R304, R326) -/

theorem nextToSend_rep (hs : StoresCanonical s) (h : s.nextToSend p = some (k, r)) : s.rep k = some r := by
  unfold State.nextToSend at h
  extract_lets xs at h
  split at h
  · next kv hkv =>
    split at h
    · cases h
      exact rep_of_mem hs (List.mem_of_mem_filter (List.mem_of_find?_eq_some hkv))
    · cases h
  · cases h

/-- The start of a frame counts what overruns its gate, and what carries a correction. -/
def countStart (s : State) (p : Nat) (never tc : Bool) : State :=
  let s := if never then s.count (C.gateOverrun p) else s
  if tc then s.count (C.ptpTc p) else s

/-- What the PTP engine and a transmit ring note of the start. -/
def noteStart (s : State) (p id ts : Nat) (f : Machine.Frame) : State :=
  let s := if f.engine then s.noteEngine f ts else s
  if f.fromHost then s.stampTx id p ts else s

/-- The egress timestamp of a frame (R326). -/
def egressTs (s : State) (p lane ball sel : Nat) : Nat :=
  (s.chipTime lane ball + 16 * s.stFld sel (.TIM_PORT_LAT p) F.TIM_PORT_LAT_TX_LAT) % 2 ^ 64

/-- The start of a frame, once it is found. -/
def startFrame (s : State) (p k lane ball : Nat) (r : Replica) (f : Machine.Frame) (never : Bool) : State :=
  let ts := egressTs s p lane ball f.sel
  let s := s.updRep k fun r => { r with tx := some ts }
  let s := if never then s.count (C.gateOverrun p) else s
  let s := if s.tcUpdates f r then s.count (C.ptpTc p) else s
  noteStart s p r.frame ts f

theorem startFrame_eq {x : Replica} (hk : s.rep k = some x) (never : Bool) :
    startFrame s p k lane ball r f never =
      noteStart (countStart (s.putRep k { x with tx := some (egressTs s p lane ball f.sel) }) p never (s.tcUpdates f r)) p r.frame
        (egressTs s p lane ball f.sel) f := by
  unfold startFrame
  extract_lets ts u v w
  have hu : u = s.putRep k { x with tx := some ts } := by
    unfold u State.updRep
    rw [hk]
  have hv : v.tcUpdates f r = s.tcUpdates f r := by
    unfold v
    rw [hu]
    split <;> rfl
  have hw : w = countStart u p never (s.tcUpdates f r) := by
    unfold w
    rw [hv]
    rfl
  rw [hw, hu]

/-- The MAC may start the frame under its gate. -/
def mayStart (s : State) (p : Nat) (r : Replica) (len : Nat) : Prop :=
  if s.neverFits p (classOf r.q) len = true then s.gateOpening p (classOf r.q) = true else s.fitsGate p (classOf r.q) len = true

theorem mayStart_of {len : Nat} (h1 : s.neverFits p (classOf r.q) len = true → s.gateOpening p (classOf r.q) = true)
    (h2 : s.neverFits p (classOf r.q) len = false → s.fitsGate p (classOf r.q) len = true) : mayStart s p r len := by
  unfold mayStart
  split
  · next h => exact h1 h
  · next h => exact h2 (Bool.eq_false_iff.mpr h)

theorem exec_frameTxStart (hup : s.portIsUp p = true) (ht : s.transmitting p = none) (h1 : p ≤ lane) (h2 : lane < p + s.blkLanes (p / 8))
    (hn : s.nextToSend p = some (k, r)) (hf : s.frame r.frame = some f) (hq : s.queuePaused r.q = false) (hg : s.gateOpen r.q = true)
    (len : Nat) (hlen : len = if f.whole then f.len else s.maxFrame s.curSel p) :
    (s.pauseWaits p = true → exec (.frameTxStart p lane ball) s = .next s) ∧
      (s.pauseWaits p = false → mayStart s p r len →
        exec (.frameTxStart p lane ball) s = .next (startFrame s.frameYields p k lane ball r f (s.neverFits p (classOf r.q) len))) := by
  have hx : exec (.frameTxStart p lane ball) s = execFrameTxStart p lane ball s := rfl
  rw [hx, execFrameTxStart]
  refine ⟨fun hw => by simp only [hw, Bool.or_true, Bool.true_or, if_true], fun hw hm => congrArg _ ((if_neg ?_).trans ?_)⟩
  · have ha : ¬ lane < p := by omega
    have hb : ¬ p + s.blkLanes (p / 8) ≤ lane := by omega
    simp [hup, ht, hw, ha, hb]
  · rw [hn]
    dsimp only
    rw [hf]
    dsimp only
    rw [← hlen]
    refine (if_neg ?_).trans rfl
    unfold mayStart at hm
    simp only [hq, hg, Bool.not_true, Bool.or_self, Bool.false_or, Bool.not_eq_true', Bool.not_eq_false]
    split at hm
    · next h => rw [if_pos h]; exact hm
    · next h => rw [if_neg h]; exact hm

theorem noteStart_rest (s : State) (p id ts : Nat) (f : Machine.Frame) :
    noteStart s p id ts f = { s with tim := (noteStart s p id ts f).tim, rings := (noteStart s p id ts f).rings } := by
  have he : s.noteEngine f ts = { s with tim := (s.noteEngine f ts).tim } := by
    unfold State.noteEngine
    extract_lets x seq
    split
    · split <;> rfl
    · split
      · split <;> rfl
      · rfl
    · rfl
  unfold noteStart
  extract_lets u
  have hu : u = { s with tim := u.tim } := by
    unfold u
    split
    · exact he
    · rfl
  split
  · rw [State.stampTx]
    rw [hu]
  · rw [hu]

theorem countStart_rest (s : State) (p : Nat) (never tc : Bool) : countStart s p never tc = { s with cnt := (countStart s p never tc).cnt } := by
  cases never <;> cases tc <;> rfl

theorem countStart_counted (s : State) (p : Nat) (never tc : Bool) :
    (if never = true then CountedOnce (C.gateOverrun p) s (countStart s p never tc)
     else (countStart s p never tc).counter (C.gateOverrun p) = s.counter (C.gateOverrun p)) ∧
    (if tc = true then CountedOnce (C.ptpTc p) s (countStart s p never tc)
     else (countStart s p never tc).counter (C.ptpTc p) = s.counter (C.ptpTc p)) := by
  have hne : C.gateOverrun p ≠ C.ptpTc p := by simp only [C.gateOverrun, C.ptpTc, C.page]; omega
  have h1 : (s.count (C.gateOverrun p)).counter (C.ptpTc p) = s.counter (C.ptpTc p) := State.counter_count_ne _ _ _ hne
  cases never <;> cases tc
  · exact ⟨rfl, rfl⟩
  · exact ⟨State.counter_count_ne _ _ _ hne.symm, countedOnce_any s _⟩
  · exact ⟨countedOnce_any s _, h1⟩
  · refine ⟨(State.counter_count_ne _ _ _ hne.symm).trans (countedOnce_any s _), ?_⟩
    have h2 := countedOnce_any (s.count (C.gateOverrun p)) (C.ptpTc p)
    unfold CountedOnce at h2 ⊢
    rw [h1] at h2
    exact h2

/-- What the start of a frame shows, the yields of that instant noted. -/
theorem startFrame_spec (hs : StoresCanonical s) (hk : s.rep k = some r) (hp : p < 1024) (never : Bool) :
    let t := startFrame s.frameYields p k lane ball r f never
    (t.rep k).map Replica.calm = some (Replica.calm { r with tx := some (egressTs s p lane ball f.sel) }) ∧
      (∀ j, j ≠ k → (t.rep j).map Replica.calm = (s.rep j).map Replica.calm) ∧ t.frames = s.frames ∧ t.regs = s.regs ∧ t.out = s.out ∧
      (if never = true then CountedOnce (C.gateOverrun p) s t else t.counter (C.gateOverrun p) = s.counter (C.gateOverrun p)) ∧
      (if s.tcUpdates f r = true then CountedOnce (C.ptpTc p) s t else t.counter (C.ptpTc p) = s.counter (C.ptpTc p)) := by
  intro t
  obtain ⟨hreps, -⟩ := frameYields_noted hs
  have hc (c : Nat) (h : 0x400 ≤ c) : s.frameYields.counter c = s.counter c := by
    refine frameYields_counter ?_ ?_ s <;> simp only [C.ladderYield] <;> omega
  have hrest := frameYields_rest s
  have hts : egressTs s.frameYields p lane ball f.sel = egressTs s p lane ball f.sel := by
    rw [hrest]
    rfl
  have htc : s.frameYields.tcUpdates f r = s.tcUpdates f r := by
    rw [hrest]
    rfl
  have hfr : s.frameYields.frames = s.frames ∧ s.frameYields.regs = s.regs ∧ s.frameYields.out = s.out := by
    rw [hrest]
    exact ⟨rfl, rfl, rfl⟩
  obtain ⟨x, hx, hxr⟩ : ∃ x, s.frameYields.rep k = some x ∧ Replica.calm x = Replica.calm r := by
    have := hreps k
    rw [hk] at this
    exact Option.map_eq_some_iff.mp this
  have ht : t = _ := startFrame_eq (p := p) (lane := lane) (ball := ball) (r := r) (f := f) hx never
  clear_value t
  rw [hts, htc] at ht
  have h1 := hc (C.gateOverrun p) (by simp only [C.gateOverrun, C.page]; omega)
  have h2 := hc (C.ptpTc p) (by simp only [C.ptpTc, C.page]; omega)
  generalize s.frameYields = u at *
  generalize htc : s.tcUpdates f r = tc at *
  have hn := noteStart_rest (countStart (u.putRep k { x with tx := some (egressTs s p lane ball f.sel) }) p never tc) p r.frame (egressTs s p lane ball f.sel) f
  rw [← ht] at hn
  obtain ⟨h3, h4⟩ := countStart_counted (u.putRep k { x with tx := some (egressTs s p lane ball f.sel) }) p never tc
  have hcr := countStart_rest (u.putRep k { x with tx := some (egressTs s p lane ball f.sel) }) p never tc
  generalize countStart (u.putRep k { x with tx := some (egressTs s p lane ball f.sel) }) p never tc = v at *
  have hreps' : t.reps = sinsert u.reps k { x with tx := some (egressTs s p lane ball f.sel) } := by
    rw [hn]
    exact congrArg State.reps hcr
  have hcnt (c : Nat) : t.counter c = v.counter c := (congrArg (fun y : State => y.counter c) hn :)
  have hu (c : Nat) : (u.putRep k { x with tx := some (egressTs s p lane ball f.sel) }).counter c = u.counter c := rfl
  refine ⟨?_, fun j hj => ?_, ?_, ?_, ?_, ?_, ?_⟩
  · rw [State.rep, hreps', sfind_sinsert_self]
    have : Replica.calm { x with tx := some (egressTs s p lane ball f.sel) } = { Replica.calm x with tx := some (egressTs s p lane ball f.sel) } := rfl
    rw [Option.map_some, this, hxr]
    rfl
  · rw [State.rep, hreps', sfind_sinsert_ne _ _ _ _ (Ne.symm hj)]
    exact hreps j
  · rw [hn]
    exact (congrArg State.frames hcr).trans hfr.1
  · rw [hn]
    exact (congrArg State.regs hcr).trans hfr.2.1
  · rw [hn]
    exact (congrArg State.out hcr).trans hfr.2.2
  · unfold CountedOnce at h3 ⊢
    rw [hcnt, ← h1, ← hu]
    exact h3
  · unfold CountedOnce at h4 ⊢
    rw [hcnt, ← h2, ← hu]
    exact h4

/-- Settles O40: the start puts an instant on one replica, after the yields of that instant are noted; the end puts one message on the
wire, and what then frees the replica and goes on with its port's age check sends nothing. -/
theorem frameSent : Obligations.FrameSent := by
  unfold Obligations.FrameSent
  refine ⟨fun s p lane ball k r f hs hup ht h1 h2 hn hf hq hg => ?_, fun s p k ts r f ecc hs hr ht hk hf htx hh => ?_⟩
  · obtain ⟨hwait, hrun⟩ := exec_frameTxStart (ball := ball) hup ht h1 h2 hn hf hq hg _ rfl
    refine ⟨hwait, fun hw => ?_⟩
    intro len never calm hopen hfits
    exact ⟨_, hrun hw (mayStart_of hopen hfits), startFrame_spec hs (nextToSend_rep hs hn) (portIsUp_lt hup) _⟩
  · intro g lost faulty bytes zeros damaged body cfg bin hc
    obtain ⟨hp, hlt⟩ := transmitting_port hs hr ht hk
    obtain ⟨t, hx, hgone, hmarks, hout, hcnt⟩ := frameTxEnd_spec hs hr hh ht hk hf htx hc
    have hcor := readOut_corrected (r := r) (g := g) hs ecc.corrected
    have hstomp (h : spilledAway r = true ∨ g.faulty = true) : CountedOnce C.bufEccStomped s t ∧
        t.counter C.bufEccCorrected = (readOut s r g ecc.corrected).counter C.bufEccCorrected ∧
        t.out = .frame p (s.stompedBody g r ts ++ stompFcs (s.stompedBody g r ts)) true :: s.out := by
      obtain ⟨h1, h2, h3⟩ := readOut_stomped (s := s) (ts := ts) (n := ecc.corrected) h
      refine ⟨(hcnt _ not_queueCnt_bufEcc.2).trans h2, (hcnt _ not_queueCnt_bufEcc.1).trans h3, hout.trans ?_⟩
      rw [h1, hp]
    have hclean (h : spilledAway r = false) (h' : g.faulty = false) := readOut_clean (s := s) (ts := ts) (n := ecc.corrected) h h' (hp ▸ hlt)
    have hkeep (h : spilledAway r = false) (h' : g.faulty = false) : t.counter C.bufEccCorrected = (readOut s r g ecc.corrected).counter C.bufEccCorrected := by
      obtain ⟨-, -, h3, -⟩ := hclean h h'
      exact (hcnt _ not_queueCnt_bufEcc.1).trans h3
    refine ⟨t, hx, hgone, ?_, hmarks, fun h => ?_, fun h h' => ?_, fun h h' => ?_⟩
    · have h3 : t.counter C.bufEccCorrected = (readOut s r g ecc.corrected).counter C.bufEccCorrected := by
        cases h : spilledAway r with
        | true => exact (hstomp (.inl h)).2.1
        | false =>
          cases h' : g.faulty with
          | true => exact (hstomp (.inr h')).2.1
          | false => exact hkeep h h'
      unfold CountedTimes at hcor ⊢
      rw [h3]
      exact hcor
    · obtain ⟨h1, -, h2⟩ := hstomp (.inl h)
      rw [stompedBody_lost h] at h2
      exact ⟨h1, h2⟩
    · obtain ⟨h1, -, h2⟩ := hstomp (.inr h')
      rw [stompedBody_kept h] at h2
      exact ⟨h1, h2⟩
    · obtain ⟨h1, h2, -, h3, h4⟩ := hclean h h'
      rw [hp] at h1 h3 h4
      refine ⟨hout.trans h1, (hcnt _ not_queueCnt_bufEcc.2).trans h2, ?_⟩
      have hlat (j : Nat) : ¬ queueCnt (C.latHist p j) := not_queueCnt_of_ge (by unfold C.latHist; omega)
      have hon : histOn s r ↔ F.SWC_HIST_CFG_EN.get cfg = 1 ∧ (F.SWC_HIST_CFG_CLASSES.get cfg).testBit (classOf r.q) = true := by
        unfold histOn
        rw [hp]
      split
      · next h5 => exact (hcnt _ (hlat _)).trans (h3 (hon.mpr h5))
      · next h5 => exact fun j _ => (hcnt _ (hlat j)).trans (h4 (mt hon.mp h5) j)

end Sys2Proof
end

section
/-! PROOF. A start-up step 6 that undoes its image while a commit is under way (R52, R62). -/
namespace Sys2Proof

open Sys2Proof.Machine

set_option Elab.async false

/-- Start-up step 6 with a TABLE record that fails, an image that has written the tables' block, and a commit under way whose next
operation writes a ternary row. -/
def commitInStepSix : State :=
  let s := State.reset.setFld .STW_BOOT_STATUS F.STW_BOOT_STATUS_STEP 6
  { s with
    boot := { s.boot with begun := true, trained := true, applied := [Reg.FWD_LEARN_CFG.addr], records := [⟨0, 0, 0, []⟩] }
    jobs := [{ newJob 1 (.cmd 0) false [] [⟨0x10, 1, 0, []⟩] with started := true }] }

/-- A step that takes no time and sees no failure. -/
def stepFine : StepSeen := ⟨0, false, false, false, false, false, true, true, []⟩

/-- The reset of the tables' block lets the commit go on, after the tables have been cleared. -/
theorem commitInStepSix_rows {t : State} (h : exec (.startupStepEnd stepFine) commitInStepSix = .next t) : t.rows ≠ [] := by
  have hx : exec (.startupStepEnd stepFine) commitInStepSix = execStartupStepEnd stepFine commitInStepSix := rfl
  rw [hx, execStartupStepEnd] at h
  obtain rfl := Host.Outcome.next.inj h
  decide +kernel

/-- Refutes O9: in `commitInStepSix` a TABLE record fails at step 6, and the image is undone: the tables are cleared, and then the
blocks that the image wrote are reset. The reset of the tables' block lets the commit under way go on (R52), which writes its row, so that
a table is not empty at step 4. -/
theorem not_startupSteps : ¬ Obligations.StartupSteps := by
  unfold Obligations.StartupSteps
  intro h
  have hs : StoresCanonical commitInStepSix := (storesCanonical_iff _).mpr (by decide +kernel)
  obtain ⟨-, hrun⟩ := h commitInStepSix stepFine hs
  obtain ⟨t, hx, -, -, -, -, -, -, h6, -⟩ := hrun ⟨by decide +kernel, by decide +kernel, by decide +kernel⟩
  obtain ⟨-, -, -, -, hfail⟩ := h6 (by decide +kernel) (fun _ hi => nomatch hi)
  have happly : (if commitInStepSix.boot.trained then commitInStepSix.noteTime commitInStepSix.bootStep stepFine.micros
    else (commitInStepSix.noteTime commitInStepSix.bootStep stepFine.micros).trainHbm stepFine.hbmBad).applyTable.2 = false := by decide +kernel
  obtain ⟨-, -, -, hrows, -⟩ := hfail happly
  exact commitInStepSix_rows hx hrows

end Sys2Proof
end

section
/-! PROOF. The cells of a frame as they are written, and a replica at enqueue (R188, R190, R289 to R293, R305). -/
namespace Sys2Proof

open Sys2Proof.Machine

set_option Elab.async false

variable {s t u v w : State} {id q n e : Nat} {f g : Machine.Frame} {b : Bool}

/-! ## Cells -/

/-- Nothing but one frame, and the rotation of the banks that its cells are written to, has changed. -/
structure CellsOnly (id : Nat) (s t : State) : Prop where
  rest : t = { s with frames := t.frames, swc := { s.swc with bankRot := t.swc.bankRot } }
  others : ∀ k, k ≠ id → t.frame k = s.frame k

theorem CellsOnly.trans (h : CellsOnly id s u) (h' : CellsOnly id u v) : CellsOnly id s v where
  rest := by
    rw [h'.rest, h.rest]
  others k hk := (h'.others k hk).trans (h.others k hk)

theorem CellsOnly.putFrame (s : State) (id : Nat) (f : Machine.Frame) : CellsOnly id s (s.putFrame id f) :=
  ⟨rfl, fun _ hk => sfind_sinsert_ne _ _ _ _ (Ne.symm hk)⟩

/-- One cell more of a frame is written. -/
theorem writeCell_spec (hf : s.frame id = some f) :
    ∃ cs, (s.writeCell id).frame id = some { f with cells := cs, written := f.written + 1 } ∧ CellsOnly id s (s.writeCell id) := by
  have hput (cs : List Nat) : (s.putFrame id { f with cells := cs, written := f.written + 1 }).frame id = some { f with cells := cs, written := f.written + 1 } ∧
      CellsOnly id s (s.putFrame id { f with cells := cs, written := f.written + 1 }) := ⟨sfind_sinsert_self .., .putFrame ..⟩
  simp only [State.writeCell, hf]
  split
  · split
    · exact ⟨_, hput _⟩
    · exact ⟨f.cells, hput _⟩
  · split
    · next a j _ => exact ⟨f.cells ++ [a], sfind_sinsert_self .., rfl, fun k hk => sfind_sinsert_ne _ _ _ _ (Ne.symm hk)⟩
    · exact ⟨f.cells, hput _⟩

theorem writeCells_spec (hf : s.frame id = some f) (n : Nat) :
    ∃ cs, (s.writeCells id n).frame id = some { f with cells := cs, written := f.written + n } ∧ CellsOnly id s (s.writeCells id n) := by
  induction n generalizing s f with
  | zero => exact ⟨f.cells, hf, rfl, fun _ _ => rfl⟩
  | succ n ih =>
    obtain ⟨cs, h1, h2⟩ := writeCell_spec hf
    obtain ⟨cs', h3, h4⟩ := ih h1
    refine ⟨cs', ?_, h2.trans h4⟩
    rw [State.writeCells, h3, Nat.add_right_comm, Nat.add_assoc]

/-! ## A frame that leaves its queues -/

theorem checkEpoch_reps (s : State) : s.checkEpoch.reps = s.reps := by
  obtain ⟨rows, fwd, he⟩ := endEpoch_eq s
  unfold State.checkEpoch
  split
  · rw [he]
    rfl
  · rfl

theorem pauseEval_reps (s : State) (p : Nat) : (s.pauseEval p).reps = s.reps := by rw [pauseEval_rest]

theorem pauseEval_frame (s : State) (p k : Nat) : (s.pauseEval p).frame k = s.frame k := (congrArg (fun v : State => v.frame k) (pauseEval_rest s p) :)

theorem frameGone_reps (s : State) (id : Nat) : (s.frameGone id).reps = s.reps := by
  unfold State.frameGone
  split
  · rfl
  · next f _ =>
    extract_lets v w x y
    have hw : w.reps = s.reps := by
      unfold w
      split <;> rfl
    have hx : x.reps = s.reps := by
      rw [← hw]
      unfold x
      split <;> rfl
    have hy : y.reps = s.reps := by
      unfold y
      split
      · exact hx
      · exact (pauseEval_reps x f.port).trans hx
    exact (checkEpoch_reps y).trans hy

/-- A frame of the wire that no replica and no ring holds leaves its enqueueing, uncounted. -/
theorem settleEnqueue_gone (hf : s.frame id = some f) (hr : s.refs id = 0) :
    (s.settleEnqueue id).reps = s.reps ∧ ∀ c, (s.settleEnqueue id).counter c = s.counter c := by
  have he : s.settleEnqueue id = (s.putFrame id { f with stage := .queued }).frameGone id := by
    simp only [State.settleEnqueue, hf]
    exact if_pos hr
  have hq : (s.putFrame id { f with stage := .queued }).frame id = some { f with stage := .queued } := sfind_sinsert_self ..
  rw [he]
  refine ⟨frameGone_reps _ id, fun c => counter_of_cnt ((frameGone_leaves hq).2.trans ?_) c⟩
  have hst : ((Stage.queued : Stage) != Stage.queued) = false := rfl
  simp only [hst, Bool.and_false, Bool.false_eq_true, if_false]
  rfl

/-- A frame of the wire that some replica holds stands in its queues, its first cell written. -/
theorem settleEnqueue_held (hf : s.frame id = some f) (hr : s.refs id ≠ 0) (hh : f.fromHost = false) (hg : f.engine = false) :
    ∃ cs, (s.settleEnqueue id).frame id = some { f with stage := .queued, cells := cs, written := f.written + 1 } ∧
      (s.settleEnqueue id).reps = s.reps ∧ (s.settleEnqueue id).nextRep = s.nextRep ∧ (s.settleEnqueue id).cnt = s.cnt ∧
      ∀ k, k ≠ id → (s.settleEnqueue id).frame k = s.frame k := by
  have he : s.settleEnqueue id = ((s.putFrame id { f with stage := .queued }).writeCell id).pauseEval f.port := by
    simp only [State.settleEnqueue, hf]
    exact (if_neg hr).trans (if_neg (by simp [hh, hg]))
  have hq : (s.putFrame id { f with stage := .queued }).frame id = some { f with stage := .queued } := sfind_sinsert_self ..
  obtain ⟨cs, h1, h2⟩ := writeCell_spec hq
  rw [he]
  refine ⟨cs, (pauseEval_frame _ _ _).trans h1, (pauseEval_reps _ _).trans ?_, ?_, ?_, fun k hk => (pauseEval_frame _ _ _).trans ((h2.others k hk).trans ?_)⟩
  · rw [h2.rest]
    rfl
  · rw [pauseEval_rest, h2.rest]
    rfl
  · rw [pauseEval_rest, h2.rest]
    rfl
  · exact sfind_sinsert_ne _ _ _ _ (Ne.symm hk)

/-! ## One replica at enqueue -/

/-- Whether a frame is lossless at enqueue (R287). -/
def losslessAt (s : State) (f : Machine.Frame) : Bool := !f.fromHost && !f.engine && s.lossless f.sel f.port f.cls

theorem enqueueOne_flushed (hf : s.frame id = some f) (hp : s.park (portOf q) = 2) :
    s.enqueueOne id q b = (s.count (C.flushed (portOf q)), .discarded) := by
  simp only [State.enqueueOne, hf]
  exact if_pos hp

/-- At a port that is neither flushed nor parked the test of the time classes comes first, then that of the express classes. -/
theorem enqueueOne_open (hf : s.frame id = some f) (h2 : s.park (portOf q) ≠ 2) (h1 : s.park (portOf q) ≠ 1) :
    (s.timeClass f.sel f.cls = true → s.fld .SWC_TIME_CFG F.SWC_TIME_CFG_BURST < s.timeHeld (portOf q) + 2 →
      s.enqueueOne id q b = ((s.count (C.dropsFull q)).count (C.timeOver (portOf q)), .discarded)) ∧
    (s.timeClass f.sel f.cls = false → s.expressClass f.sel f.cls = false →
      s.enqueueOne id q b = s.testPools id q f (losslessAt s f) b false) := by
  have hpark : (s.park (portOf q) == 1) = false := by simpa using h1
  simp only [State.enqueueOne, hf, hpark, Bool.false_and]
  constructor
  · intro ht hb
    exact (if_neg h2).trans ((if_neg (by simp)).trans (if_pos (by simp [ht, hb])))
  · intro ht hx
    exact (if_neg h2).trans ((if_neg (by simp)).trans ((if_neg (by simp [ht])).trans (if_neg (by simp [hx]))))

/-- The first replica of a frame that its queue's reserve accepts. -/
theorem testPools_reserve (hin : s.queuePool q .reserve + s.reserveCells f ≤ s.classFld f.sel f.cls F.SWC_CLASS_CFG_RESERVE)
    (hfree : s.poolUsed .reserve < s.reservePool) (l : Bool) :
    s.testPools id q f l b false = (s.addReplica id f q .reserve l (s.reserveCells f), .admitted) := by
  have hc : s.choosePool f q (s.reserveCells f) l b false = (s, some .reserve) := by
    simp only [State.choosePool, Bool.false_eq_true, if_false]
    exact if_pos ⟨hin, hfree⟩
  simp only [State.testPools, hc]

/-- A frame that is not lossless and that neither the reserve nor the shared pool accepts is refused. -/
theorem testPools_refused (hin : ¬ (s.queuePool q .reserve + s.reserveCells f ≤ s.classFld f.sel f.cls F.SWC_CLASS_CFG_RESERVE ∧ s.poolUsed .reserve < s.reservePool))
    (hsh : s.sharedAccepts f.sel f.cls (s.queuePool q .shared) (s.reserveCells f) = false) :
    s.testPools id q f false b false = (s, .refused) := by
  have hc : s.choosePool f q (s.reserveCells f) false b false = (s, none) := by
    simp only [State.choosePool, Bool.false_and, Bool.false_eq_true, if_false]
    refine (if_neg hin).trans ?_
    simp only [hsh, Bool.false_eq_true, if_false]
  simp only [State.testPools, hc]

/-- A frame's first replica, charged to its queue's reserve. -/
theorem addReplica_reserve (hp : f.pool = none) (hh : f.fromHost = false) (hg : f.engine = false) (l : Bool) (n : Nat) :
    let t := s.addReplica id f q .reserve l n
    t.frame id = some { f with pool := some .reserve, charge := n } ∧ t.nextRep = s.nextRep + 1 ∧
      (∀ k, k ≠ s.nextRep → t.rep k = s.rep k) ∧ (∀ k, k ≠ id → t.frame k = s.frame k) ∧
      ∃ r, t.rep s.nextRep = some r ∧ r.frame = id ∧ r.q = q ∧ r.g = groupOf f.port ∧ r.pool = .reserve ∧ r.lossless = l ∧
        r.spill = SpillSt.onDie ∧ r.crossed = 0 ∧ r.tx = none := by
  have hch : f.chargeTo .reserve n = { f with pool := some .reserve, charge := n } := if_pos (by simp [hp])
  intro t
  refine ⟨(sfind_sinsert_self ..).trans (congrArg some hch), rfl, fun k hk => sfind_sinsert_ne _ _ _ _ (Ne.symm hk),
    fun k hk => sfind_sinsert_ne _ _ _ _ (Ne.symm hk), _, sfind_sinsert_self .., rfl, rfl, ?_, rfl, rfl, ?_, rfl, rfl⟩
  · simp only [hch, hh, hg]
    rfl
  · simp only [hch]
    rfl

/-- A queue that is full counts once; the yields of its rung may count beside it. -/
theorem dropFull_counted (s : State) (q : Nat) (l : Bool) : CountedOnce (C.dropsFull q) s (s.dropFull q l) ∧
    ∀ c, c ≠ C.dropsFull q → c ≠ C.ladderYield 4 → c ≠ C.ladderYield 5 → (s.dropFull q l).counter c = s.counter c := by
  have other (w : State) (d c : Nat) (p : Prop) [Decidable p] (h : c ≠ d) : (if p then w.count d else w).counter c = w.counter c := by
    split
    · exact State.counter_count_ne _ _ _ (Ne.symm h)
    · rfl
  have h4 : C.dropsFull q ≠ C.ladderYield 4 := by simp only [C.dropsFull, C.ladderYield]; omega
  have h5 : C.dropsFull q ≠ C.ladderYield 5 := by simp only [C.dropsFull, C.ladderYield]; omega
  unfold State.dropFull
  extract_lets low v x
  refine ⟨?_, fun c h1 h2 h3 => ?_⟩
  · exact (other x _ _ _ h5).trans ((other v _ _ _ h4).trans (countedOnce_any s _))
  · exact (other x _ _ _ h3).trans ((other v _ _ _ h2).trans (State.counter_count_ne _ _ _ h1.symm))

end Sys2Proof
end

section
/-! PROOF. Frames that enter their queues, their last cells, and refill (R188, R190, R289, R290, R296, R308). -/
namespace Sys2Proof

open Sys2Proof.Machine

set_option Elab.async false

variable {s t u v w : State} {id q n e g' : Nat} {f g : Machine.Frame} {b : Bool} {r : Replica}

/-! ## A frame for one port (R188 to R190, R217, R290, R305) -/

/-- A frame of the wire for one egress port, at the point of its enqueueing. -/
structure AtEnqueue (s : State) (id e : Nat) (f : Machine.Frame) : Prop where
  frame : s.frame id = some f
  routed : f.stage = Stage.routed
  wire : f.fromHost = false
  own : f.engine = false
  route : f.route = some (.port e)
  noCopy : f.copyRing = none
  port : e < 1024
  cls : f.cls < 16
  first : s.enqueueBehind id f = false
  opened : s.enqueueShut f = false
  noRef : s.refs id = 0

namespace AtEnqueue

variable (h : AtEnqueue s id e f)
include h

theorem portOf_queue : portOf (16 * e + f.cls) = e := by
  have := h.cls
  unfold portOf
  omega

theorem hostCopies : f.hostCopies = [] := by
  unfold Machine.Frame.hostCopies
  rw [h.route, h.noCopy]
  rfl

theorem targets : s.targetQueues f = if s.isPort e then [16 * e + f.cls] else [] := by
  unfold State.targetQueues
  rw [h.route]

theorem lossless : losslessAt s f = s.lossless f.sel f.port f.cls := by
  unfold losslessAt
  rw [h.wire, h.own]
  rfl

theorem exec (b : Bool) : exec (.enqueue id b) s = .next (s.enqueueFrame id f b) := by
  have hx : Machine.exec (.enqueue id b) s = execEnqueue id b s := rfl
  rw [hx, execEnqueue, h.frame]
  refine congrArg _ ((if_neg ?_).trans (if_neg ?_))
  · simp [h.routed, h.first, h.opened]
  · simp [h.wire]

/-- The position is no port: the frame counts as discarded where it was sent from. -/
theorem noPort (hp : s.isPort e = false) (b : Bool) :
    s.enqueueFrame id f b = (s.count ((if (f.act.map Action.redir).getD false then C.pipDrops else C.fwdDrops) f.port)).settleEnqueue id := by
  have ht : s.targetQueues f = [] := by rw [h.targets, hp]; rfl
  have hc : s.countNoReplica f = s.count ((if (f.act.map Action.redir).getD false then C.pipDrops else C.fwdDrops) f.port) := by
    unfold State.countNoReplica State.countDrop
    rw [ht, h.route, h.wire]
    rfl
  unfold State.enqueueFrame
  rw [ht, hc, h.hostCopies]
  rfl

/-- At a port there is one queue, and what becomes of its replica decides. -/
theorem atPort (hp : s.isPort e = true) {v : State} {d : Fate} (ho : s.enqueueOne id (16 * e + f.cls) b = (v, d)) :
    s.enqueueFrame id f b = (if d = .refused then v.dropFull (16 * e + f.cls) (losslessAt s f) else v).settleEnqueue id := by
  have ht : s.targetQueues f = [16 * e + f.cls] := by rw [h.targets, hp]; rfl
  have hc : s.countNoReplica f = s := by
    unfold State.countNoReplica
    rw [ht]
    rfl
  have hall : s.enqueueAll id b [16 * e + f.cls] = (v, if d = .refused then [16 * e + f.cls] else []) := by
    simp only [State.enqueueAll, ho]
  have hl : (!f.fromHost && !f.engine && s.lossless f.sel f.port f.cls) = losslessAt s f := rfl
  unfold State.enqueueFrame
  rw [ht, hc, h.hostCopies]
  dsimp only
  rw [hl, hall]
  cases d <;> rfl

/-- Where only counters have changed, the frame leaves with no replica. -/
theorem settled (hv : v = { s with cnt := v.cnt }) :
    (v.settleEnqueue id).reps = s.reps ∧ ∀ c, (v.settleEnqueue id).counter c = v.counter c := by
  have hf : v.frame id = some f := by
    rw [hv]
    exact h.frame
  have hr : v.refs id = 0 := by
    rw [hv]
    exact h.noRef
  obtain ⟨h1, h2⟩ := settleEnqueue_gone hf hr
  refine ⟨h1.trans ?_, h2⟩
  rw [hv]

end AtEnqueue

theorem dropFull_rest (s : State) (q : Nat) (l : Bool) : s.dropFull q l = { s with cnt := (s.dropFull q l).cnt } := by
  unfold State.dropFull
  extract_lets low v w
  have hw : w = { s with cnt := w.cnt } := by
    unfold w
    split <;> rfl
  split
  · rw [hw]
    rfl
  · exact hw

theorem CountedOnce.of_counter {c : Nat} (h : CountedOnce c s v) (hc : t.counter c = v.counter c) : CountedOnce c s t := hc.trans h

/-- A frame that time-class frames hold up counts as dropped full and as over the burst. -/
theorem countedOnce_timeOver (he : e < 1024) (hq : q < 16384) :
    let v := (s.count (C.dropsFull q)).count (C.timeOver e)
    CountedOnce (C.dropsFull q) s v ∧ CountedOnce (C.timeOver e) s v := by
  have hne : C.timeOver e ≠ C.dropsFull q := by simp only [C.timeOver, C.dropsFull, C.page]; omega
  intro v
  refine ⟨(State.counter_count_ne _ _ _ hne).trans (countedOnce_any s _), ?_⟩
  have h := countedOnce_any (s.count (C.dropsFull q)) (C.timeOver e)
  unfold CountedOnce at h ⊢
  rw [State.counter_count_ne _ _ _ hne.symm] at h
  exact h

/-- A replica that the reserve of its queue takes. -/
theorem AtEnqueue.taken (h : AtEnqueue s id e f) (hp : s.isPort e = true)
    (ho : s.enqueueOne id (16 * e + f.cls) b = (s.addReplica id f (16 * e + f.cls) .reserve (losslessAt s f) (s.reserveCells f), .admitted))
    (hpool : f.pool = none) :
    let t := s.enqueueFrame id f b
    t.nextRep = s.nextRep + 1 ∧ (∀ k, k ≠ s.nextRep → t.rep k = s.rep k) ∧
      (∃ r, t.rep s.nextRep = some r ∧ r.frame = id ∧ r.q = 16 * e + f.cls ∧ r.g = groupOf f.port ∧ r.pool = .reserve ∧
        r.lossless = s.lossless f.sel f.port f.cls ∧ r.spill = SpillSt.onDie ∧ r.crossed = 0 ∧ r.tx = none) ∧
      ∃ g, t.frame id = some g ∧ g.stage = Stage.queued ∧ g.pool = some .reserve ∧ g.charge = s.reserveCells f ∧ g.written = f.written + 1 := by
  intro t
  have ht : t = _ := h.atPort hp ho
  obtain ⟨h1, h2, h3, -, r, hr, hrf, hrq, hrg, hrp, hrl, hrs, hrc, hrt⟩ :=
    addReplica_reserve (s := s) (id := id) (q := 16 * e + f.cls) hpool h.wire h.own (losslessAt s f) (s.reserveCells f)
  generalize s.addReplica id f (16 * e + f.cls) .reserve (losslessAt s f) (s.reserveCells f) = v at *
  have hrefs : v.refs id ≠ 0 := by
    have hm : (s.nextRep, r) ∈ v.repsOf id := List.mem_filter.mpr ⟨mem_of_sfind hr, by simp [hrf]⟩
    have := List.length_pos_of_mem hm
    unfold State.refs
    omega
  obtain ⟨cs, h4, h5, h6, -, -⟩ := settleEnqueue_held h1 hrefs h.wire h.own
  have hne : (if (Fate.admitted : Fate) = .refused then v.dropFull (16 * e + f.cls) (losslessAt s f) else v) = v := if_neg nofun
  rw [hne] at ht
  have hrep (k : Nat) : t.rep k = v.rep k := by rw [State.rep, ht, h5]; rfl
  refine ⟨?_, fun k hk => (hrep k).trans (h3 k hk), ⟨r, (hrep _).trans hr, hrf, hrq, hrg, hrp, hrl.trans h.lossless, hrs, hrc, hrt⟩,
    ⟨_, (congrArg (fun u : State => u.frame id) ht).trans h4, rfl, rfl, rfl, rfl⟩⟩
  rw [ht, h6, h2]

theorem framesEnqueued (hr : FramesInRange s) (hf : s.frame id = some f) (hst : f.stage = Stage.routed)
    (hh : f.fromHost = false) (hg : f.engine = false) (hrt : f.route = some (.port e)) (hc : f.copyRing = none) (he : e < 1024)
    (hb : s.enqueueBehind id f = false) (ho : s.enqueueShut f = false) (hn : s.refs id = 0) :
    AtEnqueue s id e f :=
  ⟨hf, hst, hh, hg, hrt, hc, he, hr.classes _ (mem_of_sfind hf), hb, ho, hn⟩

/-! ## The last cell (R289) -/

theorem arriveTo_long (hf : s.frame id = some f) (hs : s.shortTime f = false) (n : Nat) : s.arriveTo id n = s.writeCells id (n - f.written) := by
  simp only [State.arriveTo, hf, hs, Bool.false_eq_true, if_false]

theorem exec_frameLastCell (hf : s.frame id = some f) (hst : f.stage = Stage.queued) (hw : f.whole = false) (he : f.ended = true)
    (hb : f.bad = false) (hs : s.shortTime f = false) (hn : f.written ≤ f.ncells) :
    ∃ t, exec (.frameLastCell id) s = .next t ∧ t.reps = s.reps ∧ t.cnt = s.cnt ∧ (∀ k, k ≠ id → t.frame k = s.frame k) ∧
      ∃ g, t.frame id = some g ∧ g.whole = true ∧ g.written = f.ncells ∧ g.charge = min f.charge f.ncells ∧
        g.bytes = f.bytes ∧ g.stage = Stage.queued := by
  obtain ⟨cs, h1, h2⟩ := writeCells_spec hf (f.ncells - f.written)
  rw [← arriveTo_long hf hs, Nat.add_sub_cancel' hn] at h1
  rw [← arriveTo_long hf hs] at h2
  have hx : exec (.frameLastCell id) s = execFrameLastCell id s := rfl
  have hcond : (f.stage != Stage.queued || f.whole || !f.ended || f.bad) = false := by simp [hst, hw, he, hb]
  generalize hv : s.arriveTo id f.ncells = v at h1 h2
  have hshort : v.shortTime { f with cells := cs, written := f.ncells } = false := by
    rw [h2.rest]
    exact hs
  refine ⟨(v.putFrame id { { f with cells := cs, written := f.ncells } with whole := true, charge := min f.charge f.ncells }).pauseEval f.port, ?_,
    (pauseEval_reps _ _).trans ?_, ?_, fun k hk => (pauseEval_frame _ _ _).trans ?_, _, (pauseEval_frame _ _ _).trans (sfind_sinsert_self ..),
    rfl, rfl, rfl, rfl, hst⟩
  · rw [hx, execFrameLastCell, hf]
    refine congrArg _ ((if_neg (by simp only [hcond, Bool.false_eq_true, not_false_eq_true])).trans ?_)
    dsimp only
    rw [hv, h1]
    dsimp only
    rw [hshort]
    exact if_neg (by simp [hb])
  · rw [h2.rest]
    rfl
  · rw [pauseEval_rest, h2.rest]
    rfl
  · exact (sfind_sinsert_ne _ _ _ _ (Ne.symm hk)).trans (h2.others k hk)

/-- A frame of the wire for one port at its enqueueing. -/
theorem AtEnqueue.cases (h : AtEnqueue s id e f) (b : Bool) :
    let q := 16 * e + f.cls
    let n := s.reserveCells f
    let plain := s.timeClass f.sel f.cls = false ∧ s.expressClass f.sel f.cls = false
    let inReserve := s.queuePool q .reserve + n ≤ s.classFld f.sel f.cls F.SWC_CLASS_CFG_RESERVE ∧ s.poolUsed .reserve < s.reservePool
    let t := s.enqueueFrame id f b
    (s.isPort e = false → t.reps = s.reps ∧
      CountedOnce ((if (f.act.map Action.redir).getD false then C.pipDrops else C.fwdDrops) f.port) s t) ∧
    (s.isPort e = true → s.park e = 2 → t.reps = s.reps ∧ CountedOnce (C.flushed e) s t) ∧
    (s.isPort e = true → s.park e ≠ 2 → s.park e ≠ 1 → s.timeClass f.sel f.cls = true →
      s.fld .SWC_TIME_CFG F.SWC_TIME_CFG_BURST < s.timeHeld e + 2 →
      t.reps = s.reps ∧ CountedOnce (C.dropsFull q) s t ∧ CountedOnce (C.timeOver e) s t) ∧
    (s.isPort e = true → s.park e ≠ 2 → s.park e ≠ 1 → plain → ¬ inReserve → s.lossless f.sel f.port f.cls = false →
      s.sharedAccepts f.sel f.cls (s.queuePool q .shared) n = false → t.reps = s.reps ∧ CountedOnce (C.dropsFull q) s t) := by
  have hpo := h.portOf_queue
  have he := h.port
  have hcls := h.cls
  intro q n plain inReserve t
  refine ⟨fun hp => ?_, fun hp h2 => ?_, fun hp h2 h1 ht hb => ?_, fun hp h2 h1 ⟨ht, hx⟩ hin hl hsh => ?_⟩
  · obtain ⟨hr, hc⟩ := h.settled (v := s.count ((if (f.act.map Action.redir).getD false then C.pipDrops else C.fwdDrops) f.port)) rfl
    have hex : t = _ := h.noPort hp b
    rw [hex]
    exact ⟨hr, .of_counter (countedOnce_any s _) (hc _)⟩
  · have ho : s.enqueueOne id q b = (s.count (C.flushed e), .discarded) := by
      rw [enqueueOne_flushed h.frame (hpo.symm ▸ h2), hpo]
    have hex : t = (s.count (C.flushed e)).settleEnqueue id := (h.atPort hp ho).trans (congrArg (State.settleEnqueue · id) (if_neg nofun))
    obtain ⟨hr, hc⟩ := h.settled (v := s.count (C.flushed e)) rfl
    rw [hex]
    exact ⟨hr, .of_counter (countedOnce_any s _) (hc _)⟩
  · have ho := (enqueueOne_open (b := b) (q := q) h.frame (hpo.symm ▸ h2) (hpo.symm ▸ h1)).1 ht (hpo.symm ▸ hb)
    rw [hpo] at ho
    have hex : t = ((s.count (C.dropsFull q)).count (C.timeOver e)).settleEnqueue id :=
      (h.atPort hp ho).trans (congrArg (State.settleEnqueue · id) (if_neg nofun))
    obtain ⟨hr, hc⟩ := h.settled (v := (s.count (C.dropsFull q)).count (C.timeOver e)) rfl
    obtain ⟨c1, c2⟩ := countedOnce_timeOver (s := s) (q := q) he (by omega)
    rw [hex]
    exact ⟨hr, .of_counter c1 (hc _), .of_counter c2 (hc _)⟩
  · have hl' : losslessAt s f = false := h.lossless.trans hl
    have ho := (enqueueOne_open (b := b) (q := q) h.frame (hpo.symm ▸ h2) (hpo.symm ▸ h1)).2 ht hx
    rw [hl', testPools_refused hin hsh] at ho
    have hex : t = (s.dropFull q (losslessAt s f)).settleEnqueue id := (h.atPort hp ho).trans (congrArg (State.settleEnqueue · id) (if_pos rfl))
    obtain ⟨hr, hc⟩ := h.settled (dropFull_rest s q (losslessAt s f))
    rw [hex]
    exact ⟨hr, .of_counter (dropFull_counted s q _).1 (hc _)⟩

/-- At a port that takes its frames the reserve takes what fits it. -/
theorem AtEnqueue.inReserve (h : AtEnqueue s id e f) (h2 : s.park e ≠ 2) (h1 : s.park e ≠ 1)
    (ht : s.timeClass f.sel f.cls = false) (hx : s.expressClass f.sel f.cls = false)
    (hin : s.queuePool (16 * e + f.cls) .reserve + s.reserveCells f ≤ s.classFld f.sel f.cls F.SWC_CLASS_CFG_RESERVE)
    (hfree : s.poolUsed .reserve < s.reservePool) :
    s.enqueueOne id (16 * e + f.cls) b = (s.addReplica id f (16 * e + f.cls) .reserve (losslessAt s f) (s.reserveCells f), .admitted) :=
  ((enqueueOne_open h.frame (h.portOf_queue.symm ▸ h2) (h.portOf_queue.symm ▸ h1)).2 ht hx).trans (testPools_reserve hin hfree _)

/-! ## Refill (R295 to R297) -/

/-- What a refill does to a replica of the frame. -/
def refilledIn (id : Nat) (x : Replica) : Replica := if x.frame = id ∧ x.inSpillNow then x.refilled else x

theorem map_refilledIn (m : SMap Replica) (id : Nat) :
    (m.map fun (kv : Nat × Replica) => if kv.2.frame = id ∧ kv.2.inSpillNow then (kv.1, kv.2.refilled) else kv) =
      m.map fun kv => (kv.1, refilledIn id kv.2) := by
  refine List.map_congr_left fun kv _ => ?_
  unfold refilledIn
  split <;> rfl

theorem refilledIn_marked (id : Nat) (x : Replica) (b : Bool) : refilledIn id { x with yielded := b } = { refilledIn id x with yielded := b } := by
  unfold refilledIn
  show (if x.frame = id ∧ x.inSpillNow then _ else _) = _
  split <;> rfl

/-- A replica as the noting of yields leaves it. -/
theorem YieldsNoted.marked (h : YieldsNoted s t) {j : Nat} {x : Replica} (hx : s.rep j = some x) :
    ∃ b, t.rep j = some { x with yielded := b } := by
  have hj := h.1 j
  rw [hx] at hj
  obtain ⟨y, hy, hc⟩ := Option.map_eq_some_iff.mp hj
  refine ⟨y.yielded, hy.trans (congrArg some ?_)⟩
  calc y = { Replica.calm y with yielded := y.yielded } := rfl
    _ = { Replica.calm x with yielded := y.yielded } := by rw [hc]
    _ = { x with yielded := y.yielded } := rfl

theorem mem_readBad (f : Machine.Frame) (bad : BadWords) (w : Nat × List Byte) :
    w ∈ (f.readBad bad).badWords ↔ w ∈ f.badWords ∨ w ∈ bad ∧ 8 * w.1 < f.bytes.length := by
  simp only [Machine.Frame.readBad, List.mem_append, List.mem_filter, Bool.and_eq_true, decide_eq_true_eq, Bool.not_eq_true',
    List.contains_eq_mem, decide_eq_false_iff_not]
  tauto

/-- The frame that a refill finds. -/
theorem refillable_iff (hk : r.g = g' ∧ r.q = q) (hf : s.frame r.frame = some f) {k : Nat} :
    s.refillable k r = true ↔
      let ahead := s.reps.filter fun kv => kv.2.g == g' && kv.2.q == q && decide (kv.1 < k)
      r.inSpillNow = true ∧ (∀ x ∈ ahead, x.2.inSpillNow = false) ∧
        ((ahead.filter fun kv => kv.2.onDie).map fun kv => s.repCells kv.2).sum < 64 ∧ f.whole = true ∧ f.charge ≤ s.sharedFree := by
  obtain ⟨rfl, rfl⟩ := hk
  simp only [State.refillable, hf, Bool.and_eq_true, Bool.not_eq_true', List.any_eq_false, decide_eq_true_eq, Bool.not_eq_true, and_assoc]

/-- The cells carried join those of the last microsecond. -/
theorem spillWindow_spillCarry (s : State) (n : Nat) : (s.spillCarry n).spillWindow = s.spillWindow + n := by
  have h : (s.spillCarry n).spillRecent = (s.tim.tick, n) :: s.spillRecent := by
    refine (List.filter_cons_of_pos (by simp [State.spillCarry])).trans (congrArg _ ?_)
    exact (List.filter_filter ..).trans (List.filter_congr fun x _ => Bool.and_self _)
  rw [State.spillWindow, h, List.map_cons, List.sum_cons, Nat.add_comm]
  rfl

/-- A refill puts a frame and all its spilled replicas on die. -/
theorem exec_spillRefill {g q k : Nat} {bad : BadWords} (hs : StoresCanonical s)
    (hfind : s.reps.find? (fun kv => kv.2.g == g && kv.2.q == q && s.refillable kv.1 kv.2) = some (k, r))
    (hf : s.frame r.frame = some f) (hw : s.spillWindow + f.ncells ≤ 18750) :
    ∃ t, exec (.spillRefill g q bad) s = .next t ∧ t.regs = s.regs ∧ KeepsCounters [C.ladderYield 2, C.ladderYield 6] s t ∧
      t.spillWindow = s.spillWindow + f.ncells ∧
      (∀ j x, s.rep j = some x → ∃ b, t.rep j = some { (if x.frame = r.frame ∧ x.inSpillNow then
        { x with spill := .onDie, pool := if x.pool = .spill then .shared else x.pool } else x) with yielded := b }) ∧
      (∀ j, j ≠ r.frame → t.frame j = s.frame j) ∧
      ∃ h, t.frame r.frame = some h ∧ h.pool = some .shared ∧ h.charge = f.charge ∧ h.written = f.ncells ∧
        h.bytes = f.bytes ∧ ∀ w, w ∈ h.badWords ↔ w ∈ f.badWords ∨ w ∈ bad ∧ 8 * w.1 < f.bytes.length := by
  have hx : exec (.spillRefill g q bad) s = execSpillRefill g q s bad := rfl
  have hy := frameYields_rest s
  have hn := frameYields_noted hs
  generalize hu : s.frameYields = u at hy hn
  let v : State := { u.spillCarry f.ncells with reps := u.reps.map fun kv => (kv.1, refilledIn r.frame kv.2) }
  let w := v.putFrame r.frame { f.readBad bad with pool := some .shared, cells := [], written := 0 }
  have hwf : w.frame r.frame = some { f.readBad bad with pool := some .shared, cells := [], written := 0 } := sfind_sinsert_self ..
  obtain ⟨cs, h1, h2⟩ := writeCells_spec hwf f.ncells
  refine ⟨w.writeCells r.frame f.ncells, ?_, ?_, fun c hc => ?_, ?_, fun j x hj => ?_, fun j hj => ?_, _, h1, rfl, rfl, ?_, rfl, mem_readBad f bad⟩
  · simp only [hx, execSpillRefill, hfind, hf]
    refine congrArg _ ((if_neg (Nat.not_lt.mpr hw)).trans ?_)
    rw [hu, map_refilledIn]
  · rw [h2.rest]
    exact (congrArg State.regs hy :)
  · rw [h2.rest]
    exact hn.2 c hc
  · have ht : (w.writeCells r.frame f.ncells).spillWindow = (u.spillCarry f.ncells).spillWindow := by
      rw [h2.rest]
      rfl
    rw [ht, spillWindow_spillCarry, hy]
    rfl
  · obtain ⟨b, hb⟩ := hn.marked hj
    refine ⟨b, ?_⟩
    have ht : (w.writeCells r.frame f.ncells).rep j = (u.rep j).map (refilledIn r.frame) := by
      rw [h2.rest]
      exact sfind_map _ _ _
    rw [ht, hb, Option.map_some, refilledIn_marked]
    rfl
  · refine (h2.others j hj).trans ((sfind_sinsert_ne _ _ _ _ (Ne.symm hj)).trans ?_)
    exact (congrArg (fun x : State => x.frame j) hy :)
  · exact Nat.zero_add _

/-- Settles O38: the one queue of a frame for one port decides what becomes of it; a refill and the last cell write cells alone. -/
theorem framesQueuedAndHeld : Obligations.FramesQueuedAndHeld := by
  unfold Obligations.FramesQueuedAndHeld
  refine ⟨fun s id e f budget _ hr hf hst hh hg hrt hc he hb ho hn => ?_,
    fun s id f hf hst hw he hb hs hn => exec_frameLastCell hf hst hw he hb hs hn,
    fun s g q k r f bad hs hfind hf => ?_, fun s bank => ⟨_, rfl, rfl, fun x => ?_⟩⟩
  · intro q n plain inReserve
    have h := framesEnqueued hr hf hst hh hg hrt hc he hb ho hn
    obtain ⟨h1, h2, h3, h4⟩ := h.cases budget
    exact ⟨_, h.exec budget, h1, h2, h3, fun hp hf hk ⟨ht, hx⟩ ⟨hin, hfree⟩ hpool _ => h.taken hp (h.inReserve hf hk ht hx hin hfree) hpool, h4⟩
  · intro ahead
    have hk := List.find?_some hfind
    simp only [Bool.and_eq_true, beq_iff_eq] at hk
    obtain ⟨hgq, hre⟩ := hk
    obtain ⟨hin, hall, hsum, hw, hch⟩ := (refillable_iff hgq hf).mp hre
    refine ⟨hin, hw, hch, hall, hsum, fun hfull => ?_, fun hfree => exec_spillRefill hs hfind hf hfree⟩
    have hx : exec (.spillRefill g q bad) s = execSpillRefill g q s bad := rfl
    simp only [hx, execSpillRefill, hfind, hf]
    exact congrArg _ (if_pos hfull)
  · simp [List.mem_filter]

end Sys2Proof
end

section
/-! PROOF. A transmit frame that is tested again and admitted (R467, R468). -/
namespace Sys2Proof

open Sys2Proof.Machine

set_option Elab.async false

variable {s t u v w : State} {id q c x : Nat} {f g : Machine.Frame} {b : Bool} {qs : List Nat}

/-! ## The counters that an enqueue advances -/

/-- The counters that the enqueueing of a replica may advance, beside that of its full queue. -/
def enqueueCnt (c : Nat) : Prop :=
  c = C.spillRefused ∨ (∃ p < 1024, c = C.flushed p ∨ c = C.parkDrops p ∨ c = C.timeOver p) ∨ ∃ q < 16384, c = C.dropsRed q

theorem choosePool_counter (hc : c ≠ C.spillRefused) (s : State) (f : Machine.Frame) (q n : Nat) (l m o : Bool) :
    (s.choosePool f q n l m o).1.counter c = s.counter c := by
  unfold State.choosePool
  extract_lets hr sp v x w
  have hw : w.counter c = s.counter c := by
    unfold w
    split
    · exact (counter_of_cnt (s := s.count C.spillRefused) rfl c).trans (State.counter_count_ne s _ _ (Ne.symm hc))
    · rfl
  split
  · rfl
  · split
    · rfl
    · split
      · rfl
      · split
        · rfl
        · split <;> exact hw

theorem testPools_counter (hc : c ≠ C.spillRefused) (s : State) (id q : Nat) (f : Machine.Frame) (l m o : Bool) :
    (s.testPools id q f l m o).1.counter c = s.counter c := by
  unfold State.testPools
  extract_lets n r
  have hr : r.1.counter c = s.counter c := choosePool_counter hc ..
  split <;> exact hr

/-- Only a replica that is discarded, not one that the pools refuse, counts its queue as full at its test. -/
theorem enqueueOne_counter (hq : q < 16384) (hc : ¬ enqueueCnt c) (hd : (s.enqueueOne id q b).2 = .refused ∨ c ≠ C.dropsFull q) :
    (s.enqueueOne id q b).1.counter c = s.counter c := by
  have hs : c ≠ C.spillRefused := fun e => hc (.inl e)
  have hp : portOf q < 1024 := by unfold portOf; omega
  have hf : C.flushed (portOf q) ≠ c := fun e => hc (.inr (.inl ⟨_, hp, .inl e.symm⟩))
  have hk : C.parkDrops (portOf q) ≠ c := fun e => hc (.inr (.inl ⟨_, hp, .inr (.inl e.symm)⟩))
  have ho : C.timeOver (portOf q) ≠ c := fun e => hc (.inr (.inl ⟨_, hp, .inr (.inr e.symm)⟩))
  have hr : C.dropsRed q ≠ c := fun e => hc (.inr (.inr ⟨_, hq, e.symm⟩))
  revert hd
  unfold State.enqueueOne
  split
  · exact fun _ => rfl
  · extract_lets e n l full r
    split
    · exact fun _ => State.counter_count_ne _ _ _ hf
    · split
      · exact fun _ => State.counter_count_ne _ _ _ hk
      · split
        · intro hd
          have hne : c ≠ C.dropsFull q := hd.resolve_left nofun
          exact (State.counter_count_ne _ _ _ ho).trans (State.counter_count_ne _ _ _ hne.symm)
        · split
          · split
            · exact fun _ => State.counter_count_ne _ _ _ hr
            · exact fun _ => testPools_counter hs ..
          · exact fun _ => testPools_counter hs ..

theorem enqueueAll_cons (s : State) (id q : Nat) (b : Bool) (qs : List Nat) :
    s.enqueueAll id b (q :: qs) = (((s.enqueueOne id q b).1.enqueueAll id b qs).1,
      if (s.enqueueOne id q b).2 = .refused then q :: ((s.enqueueOne id q b).1.enqueueAll id b qs).2
      else ((s.enqueueOne id q b).1.enqueueAll id b qs).2) := rfl

theorem mem_of_refused (h : q ∈ (s.enqueueAll id b qs).2) : q ∈ qs := by
  induction qs generalizing s with
  | nil => cases h
  | cons p qs ih =>
    rw [enqueueAll_cons] at h
    dsimp only at h
    split at h
    · rcases List.mem_cons.mp h with rfl | h
      · exact List.mem_cons_self
      · exact List.mem_cons_of_mem _ (ih h)
    · exact List.mem_cons_of_mem _ (ih h)

theorem refused_nodup (hn : qs.Nodup) : (s.enqueueAll id b qs).2.Nodup := by
  induction qs generalizing s with
  | nil => exact List.nodup_nil
  | cons p qs ih =>
    obtain ⟨hp, hn⟩ := List.nodup_cons.mp hn
    rw [enqueueAll_cons]
    dsimp only
    split
    · exact List.nodup_cons.mpr ⟨fun h => hp (mem_of_refused h), ih hn⟩
    · exact ih hn

/-- A queue that is refused counts nothing at the test of the queues. -/
theorem enqueueAll_counter (hn : qs.Nodup) (hq : ∀ q ∈ qs, q < 16384) (hc : ¬ enqueueCnt c)
    (hd : ∀ q ∈ qs, c = C.dropsFull q → q ∈ (s.enqueueAll id b qs).2) : (s.enqueueAll id b qs).1.counter c = s.counter c := by
  induction qs generalizing s with
  | nil => rfl
  | cons p qs ih =>
    obtain ⟨hp, hn⟩ := List.nodup_cons.mp hn
    rw [enqueueAll_cons] at hd ⊢
    dsimp only at hd ⊢
    have hhead : (s.enqueueOne id p b).2 = .refused ∨ c ≠ C.dropsFull p := by
      by_cases hr : (s.enqueueOne id p b).2 = .refused
      · exact .inl hr
      · refine .inr fun e => hp (mem_of_refused (s := (s.enqueueOne id p b).1) (id := id) (b := b) ?_)
        have := hd p List.mem_cons_self e
        rwa [if_neg hr] at this
    refine (ih hn (fun q h => hq q (List.mem_cons_of_mem _ h)) fun q h e => ?_).trans
      (enqueueOne_counter (hq p List.mem_cons_self) hc hhead)
    have hm := hd q (List.mem_cons_of_mem _ h) e
    split at hm
    · exact (List.mem_cons.mp hm).resolve_left fun e => hp (e ▸ h)
    · exact hm

/-! ## The refused queues are counted -/

/-- Every queue of the list counted as full. -/
def dropFulls (qs : List Nat) (s : State) : State := qs.foldl (fun (s : State) q => s.dropFull q false) s

theorem dropFulls_other (hc : ∀ q ∈ qs, c ≠ C.dropsFull q) (h4 : c ≠ C.ladderYield 4) (h5 : c ≠ C.ladderYield 5) :
    (dropFulls qs s).counter c = s.counter c := by
  induction qs generalizing s with
  | nil => rfl
  | cons q qs ih =>
    exact (ih (s := s.dropFull q false) fun p h => hc p (List.mem_cons_of_mem _ h)).trans ((dropFull_counted s q false).2 c (hc q List.mem_cons_self) h4 h5)

theorem dropFulls_once (hn : qs.Nodup) (hq : q ∈ qs) : CountedOnce (C.dropsFull q) s (dropFulls qs s) := by
  have h4 : C.dropsFull q ≠ C.ladderYield 4 := by simp only [C.dropsFull, C.ladderYield]; omega
  have h5 : C.dropsFull q ≠ C.ladderYield 5 := by simp only [C.dropsFull, C.ladderYield]; omega
  induction qs generalizing s with
  | nil => cases hq
  | cons p qs ih =>
    obtain ⟨hp, hn⟩ := List.nodup_cons.mp hn
    rcases List.mem_cons.mp hq with rfl | hm
    · refine .of_counter (v := s.dropFull q false) (dropFull_counted s q false).1
        (dropFulls_other (s := s.dropFull q false) (qs := qs) (fun p hm e => hp ?_) h4 h5)
      have : q = p := by simpa [C.dropsFull] using e
      exact this ▸ hm
    · have hne : C.dropsFull q ≠ C.dropsFull p := fun e => hp (by
        have : q = p := by simpa [C.dropsFull] using e
        exact this ▸ hm)
      have h := ih (s := s.dropFull p false) hn hm
      unfold CountedOnce at h ⊢
      rw [(dropFull_counted s p false).2 _ hne h4 h5] at h
      exact h

theorem targetQueues_nodup (s : State) (f : Machine.Frame) : (s.targetQueues f).Nodup := by
  unfold State.targetQueues
  split
  · split
    · exact List.nodup_singleton _
    · exact List.nodup_nil
  · exact (List.nodup_range.filter _).map fun _ _ (h : _ = _) => by omega
  · exact List.nodup_nil

/-! ## Host copies and the completion -/

theorem hostEnqueue_counter {k : Nat × Nat} (hc : c ≠ C.rxDrops k.1) (s : State) (id : Nat) : (s.hostEnqueue id k).counter c = s.counter c := by
  unfold State.hostEnqueue
  split
  · rfl
  · extract_lets n held
    split
    · rfl
    · exact State.counter_count_ne _ _ _ (Ne.symm hc)

theorem hostEnqueue_ring {k : Nat × Nat} (hx : k.1 ≠ x) (s : State) (id : Nat) : (s.hostEnqueue id k).ring x = s.ring x := by
  unfold State.hostEnqueue
  split
  · rfl
  · extract_lets n held
    split
    · exact sgetD_sput_ne _ _ _ _ _ _ hx
    · rfl

theorem hostEnqueue_keys (h : skeysFrom none s.rings = true) (id : Nat) (k : Nat × Nat) : skeysFrom none (s.hostEnqueue id k).rings = true := by
  unfold State.hostEnqueue
  split
  · exact h
  · extract_lets n held
    split
    · exact skeysFrom_sput _ _ _ _ h
    · exact h

/-- The host copies of a frame enter their delivery queues or are counted there. -/
def copied (id : Nat) (ks : List (Nat × Nat)) (s : State) : State := ks.foldl (fun (s : State) k => s.hostEnqueue id k) s

theorem copied_spec {ks : List (Nat × Nat)} (hk : ∀ k ∈ ks, k.1 < 32) (s : State) (id : Nat) :
    (∀ c, (∀ r < 32, c ≠ C.rxDrops r) → (copied id ks s).counter c = s.counter c) ∧
      (∀ x, 32 ≤ x → (copied id ks s).ring x = s.ring x) ∧
      (skeysFrom none s.rings = true → skeysFrom none (copied id ks s).rings = true) := by
  refine ⟨fun c hc => ?_, fun x hx => ?_, fun h => ?_⟩
  · exact foldl_keeps (P := fun v : State => v.counter c = s.counter c) ks _ rfl fun v k hm hv =>
      (hostEnqueue_counter (hc _ (hk k hm)) v id).trans hv
  · exact foldl_keeps (P := fun v : State => v.ring x = s.ring x) ks _ rfl fun v k hm hv =>
      (hostEnqueue_ring (by have := hk k hm; omega) v id).trans hv
  · exact foldl_keeps (P := fun v : State => skeysFrom none v.rings = true) ks _ h fun v k _ hv => hostEnqueue_keys hv id k

/-- A completion of the frame as its admission leaves it. -/
def admittedItem (id : Nat) (full none : Bool) (low : Option Nat) (t : TxItem) : TxItem :=
  if t.frame == some id then { t with status := if full then 1 else 0, ready := !t.tsReq || none, low := low } else t

/-- The lowest egress port of a frame's replicas. -/
def lowestPort (s : State) (id : Nat) : Option Nat :=
  match (s.repsOf id).map fun kv => portOf kv.2.q with
  | [] => none
  | p :: ps => some (ps.foldl min p)

theorem txAdmitted_ring (s : State) (id x : Nat) (full : Bool) :
    (s.txAdmitted id full).ring x = { s.ring x with
      items := (s.ring x).items.map (admittedItem id full (s.repsOf id).isEmpty (lowestPort s id)) } := by
  let g (a : Machine.Ring) : Machine.Ring := { a with items := a.items.map (admittedItem id full (s.repsOf id).isEmpty (lowestPort s id)) }
  refine (congrArg (Option.getD · freshRing) (sfind_map g s.rings x)).trans ?_
  rw [State.ring, sgetD]
  cases sfind s.rings x <;> rfl

/-! ## A frame settles in its queues -/

theorem frameGone_rings (s : State) (id : Nat) : (s.frameGone id).rings = s.rings ∨ (s.frameGone id).rings = (s.txDone id).rings := by
  have hce (v : State) : v.checkEpoch.rings = v.rings := by
    obtain ⟨rows, fwd, he⟩ := endEpoch_eq v
    unfold State.checkEpoch
    split
    · rw [he]
      rfl
    · rfl
  unfold State.frameGone
  split
  · exact .inl rfl
  · next f _ =>
    extract_lets v w x y
    have hw : w.rings = v.rings := by
      unfold w
      split <;> rfl
    have hx : x.rings = w.rings := by
      unfold x
      split <;> rfl
    have hy : y.rings = x.rings := by
      unfold y
      split
      · rfl
      · rw [pauseEval_rest]
    exact .inr ((hce y).trans (hy.trans (hx.trans hw)))

theorem updFrame_rings (s : State) (id : Nat) (h : Machine.Frame → Machine.Frame) : (s.updFrame id h).rings = s.rings := by
  unfold State.updFrame
  split <;> rfl

theorem updFrame_cnt (s : State) (id : Nat) (h : Machine.Frame → Machine.Frame) : (s.updFrame id h).cnt = s.cnt := by
  unfold State.updFrame
  split <;> rfl

theorem countLong_rest (s : State) (id : Nat) : s.countLong id = { s with cnt := (s.countLong id).cnt } :=
  foldl_keeps (P := fun v : State => v = { s with cnt := v.cnt }) _ _ rfl fun v k _ hv => by
    rw [hv]
    rfl

/-- The rings are as they were, or the completion of the frame is ready. -/
theorem settleEnqueue_ring (s : State) (id x : Nat) : (s.settleEnqueue id).ring x = s.ring x ∨ (s.settleEnqueue id).ring x = readied id (s.ring x) := by
  have hput (f : Machine.Frame) (n : Nat) : ((s.putFrame id f).writeCells id n).rings = s.rings := by
    have h1 : (s.putFrame id f).frame id = some f := sfind_sinsert_self ..
    obtain ⟨-, -, h⟩ := writeCells_spec h1 n
    rw [h.rest]
    rfl
  unfold State.settleEnqueue
  split
  · exact .inl rfl
  · next f _ =>
    extract_lets v w
    split
    · rcases frameGone_rings v id with h | h
      · exact .inl (congrArg (sgetD · x freshRing) h :)
      · refine .inr ((congrArg (sgetD · x freshRing) h : (v.frameGone id).ring x = (v.txDone id).ring x).trans (txDone_ring v id x))
    · left
      split
      · have hw : w.rings = s.rings := (updFrame_rings _ id _).trans (hput _ _)
        split
        · exact (congrArg (sgetD · x freshRing) ((congrArg State.rings (countLong_rest w id) :).trans hw) :)
        · exact (congrArg (sgetD · x freshRing) hw :)
      · rw [pauseEval_rest]
        exact (congrArg (sgetD · x freshRing) (hput { f with stage := .queued } 1) :)

theorem countLong_counter (hr : FramesInRange s) (hc : ∀ p < 1024, c ≠ C.timeLong p) (id : Nat) : (s.countLong id).counter c = s.counter c :=
  foldl_keeps (P := fun v : State => v.counter c = s.counter c) _ _ rfl fun v k hk hv => by
    have hq := hr.queues _ (List.mem_of_mem_filter hk)
    exact (State.counter_count_ne v _ _ (Ne.symm (hc _ (by unfold portOf; omega)))).trans hv

theorem settleEnqueue_counter (hr : FramesInRange s) (hc : ∀ p < 1024, c ≠ C.timeLong p) (id : Nat) : (s.settleEnqueue id).counter c = s.counter c := by
  have hput (f : Machine.Frame) (n : Nat) : ((s.putFrame id f).writeCells id n).cnt = s.cnt := by
    have h1 : (s.putFrame id f).frame id = some f := sfind_sinsert_self ..
    obtain ⟨-, -, h⟩ := writeCells_spec h1 n
    rw [h.rest]
    rfl
  cases hf : s.frame id with
  | none => simp only [State.settleEnqueue, hf]
  | some f =>
    simp only [State.settleEnqueue, hf]
    split
    · have hq : (s.putFrame id { f with stage := .queued }).frame id = some { f with stage := .queued } := sfind_sinsert_self ..
      refine counter_of_cnt ((frameGone_leaves hq).2.trans ?_) c
      have hst : ((Stage.queued : Stage) != Stage.queued) = false := rfl
      simp only [hst, Bool.and_false, Bool.false_eq_true, if_false]
      rfl
    · split
      · have he : Evolves s (((s.putFrame id { f with stage := .queued }).writeCells id f.ncells).updFrame id fun f => { f with whole := true }) :=
          (((Evolves.refl.putFrame id (Evolves.refl.named hf).upd).writeCells id f.ncells).updFrame id) fun g ⟨a, b, c⟩ => ⟨a, b, c⟩
        have hw : (((s.putFrame id { f with stage := .queued }).writeCells id f.ncells).updFrame id fun f => { f with whole := true }).counter c = s.counter c :=
          counter_of_cnt ((updFrame_cnt _ id _).trans (hput _ _)) c
        split
        · exact (countLong_counter (he.range hr) hc id).trans hw
        · exact hw
      · rw [pauseEval_rest]
        exact counter_of_cnt (hput { f with stage := .queued } 1) c

/-! ## Admission -/

/-- A counter that only the queues of a frame advance at its enqueueing. -/
structure OwnCount (c : Nat) : Prop where
  enqueue : ¬ enqueueCnt c
  copies : ∀ r < 32, c ≠ C.rxDrops r
  long : ∀ p < 1024, c ≠ C.timeLong p
  yield4 : c ≠ C.ladderYield 4
  yield5 : c ≠ C.ladderYield 5

theorem ownCount_txFrames {r : Nat} (hr : r < 32) : OwnCount (C.txFrames r) where
  enqueue := by
    rintro (h | ⟨p, -, h | h | h⟩ | ⟨q, -, h⟩) <;>
      simp only [C.txFrames, C.spillRefused, C.flushed, C.parkDrops, C.timeOver, C.dropsRed, C.page] at h <;> omega
  copies k hk h := by simp only [C.txFrames, C.rxDrops] at h; omega
  long p hp h := by simp only [C.txFrames, C.timeLong, C.page] at h; omega
  yield4 h := by simp only [C.txFrames, C.ladderYield] at h; omega
  yield5 h := by simp only [C.txFrames, C.ladderYield] at h; omega

theorem ownCount_dropsFull (hq : q < 16384) : OwnCount (C.dropsFull q) where
  enqueue := by
    rintro (h | ⟨p, hp, h | h | h⟩ | ⟨q, -, h⟩) <;>
      simp only [C.dropsFull, C.spillRefused, C.flushed, C.parkDrops, C.timeOver, C.dropsRed, C.page] at h <;> omega
  copies k hk h := by simp only [C.dropsFull, C.rxDrops] at h; omega
  long p hp h := by simp only [C.dropsFull, C.timeLong, C.page] at h; omega
  yield4 h := by simp only [C.dropsFull, C.ladderYield] at h; omega
  yield5 h := by simp only [C.dropsFull, C.ladderYield] at h; omega

/-- The queues that no pool admits the frame to. -/
def refusedAt (s : State) (id : Nat) (f : Machine.Frame) (b : Bool) : List Nat := (s.enqueueAll id b (s.targetQueues f)).2

/-- The replicas and host copies of an admitted transmit frame stand in their queues. -/
def spread (s : State) (id : Nat) (f : Machine.Frame) (b : Bool) : State :=
  copied id f.hostCopies (dropFulls (refusedAt s id f b) ((s.enqueueAll id b (s.targetQueues f)).1.countNoReplica f))

/-- Its completion knows how it fared. -/
def completedAt (s : State) (id : Nat) (f : Machine.Frame) (b : Bool) : State :=
  ((spread s id f b).count (C.txFrames f.port)).txAdmitted id (!(refusedAt s id f b).isEmpty)

theorem enqueueHost_admits {force : Bool} (h : refusedAt s id f b = [] ∨ force = true) :
    s.enqueueHost id f b force = ((completedAt s id f b).putRing (f.port + 32)
      { (completedAt s id f b).ring (f.port + 32) with held := none }).settleEnqueue id := by
  have hc : ((s.enqueueAll id b (s.targetQueues f)).2.isEmpty || force) = true := by
    rcases h with h | h
    · rw [show (s.enqueueAll id b (s.targetQueues f)).2 = [] from h]
      rfl
    · rw [h, Bool.or_true]
  unfold State.enqueueHost
  exact if_pos hc

variable (hf : s.frame id = some f) (hh : f.fromHost = true) (hp : f.port < 32) (hk : ∀ k ∈ f.hostCopies, k.1 < 32) (hr : FramesInRange s)

section
include hf

theorem spread_evolves : Evolves s (spread s id f b) := by
  have hn : Named s f := Evolves.refl.named hf
  have h1 := (Evolves.refl (s := s)).enqueueAll id b (s.targetQueues f) (Evolves.targets hn)
  have h2 : Evolves s (dropFulls (refusedAt s id f b) ((s.enqueueAll id b (s.targetQueues f)).1.countNoReplica f)) :=
    (h1.countNoReplica f).foldl fun _ _ hx => hx.dropFull ..
  exact h2.foldl fun _ _ hx => hx.hostEnqueue ..

end

section
include hk

/-- The rings of a transmit frame's own class keep what they hold. -/
theorem spread_ring (hx : 32 ≤ x) : (spread s id f b).ring x = s.ring x := by
  refine ((copied_spec hk _ id).2.1 x hx).trans ?_
  have hb : EnqueueBlind State.rings := ⟨fun _ _ => rfl, fun _ _ => rfl, fun _ _ => rfl, fun _ _ => rfl, fun _ _ => rfl⟩
  have h1 := hb.countNoReplica (hb.enqueueAll (u := s) rfl id b (s.targetQueues f)) f
  have h2 : (dropFulls (refusedAt s id f b) ((s.enqueueAll id b (s.targetQueues f)).1.countNoReplica f)).rings = s.rings :=
    foldl_keeps (P := fun v : State => v.rings = s.rings) _ _ h1 fun v q _ hv => hb.dropFull hv q false
  exact (congrArg (sgetD · x freshRing) h2 :)

theorem spread_keys (h : skeysFrom none s.rings = true) : skeysFrom none (spread s id f b).rings = true := by
  refine (copied_spec hk _ id).2.2 ?_
  have hb : EnqueueBlind State.rings := ⟨fun _ _ => rfl, fun _ _ => rfl, fun _ _ => rfl, fun _ _ => rfl, fun _ _ => rfl⟩
  have h1 := hb.countNoReplica (hb.enqueueAll (u := s) rfl id b (s.targetQueues f)) f
  have h2 : (dropFulls (refusedAt s id f b) ((s.enqueueAll id b (s.targetQueues f)).1.countNoReplica f)).rings = s.rings :=
    foldl_keeps (P := fun v : State => v.rings = s.rings) _ _ h1 fun v q _ hv => hb.dropFull hv q false
  rw [h2]
  exact h

include hf hr hh

/-- What the queues count at an admission. -/
theorem spread_counter (hc : OwnCount c) (hd : c ≠ C.txDrops f.port) (hin : ∀ q < 16384, c = C.dropsFull q → q ∈ refusedAt s id f b) :
    (∀ q ∈ refusedAt s id f b, c = C.dropsFull q → CountedOnce c s (spread s id f b)) ∧
      ((∀ q ∈ refusedAt s id f b, c ≠ C.dropsFull q) → (spread s id f b).counter c = s.counter c) := by
  have hq : ∀ q ∈ s.targetQueues f, q < 16384 := fun q => State.targetQueues_lt (hr.classes _ (mem_of_sfind hf))
  have hall : (s.enqueueAll id b (s.targetQueues f)).1.counter c = s.counter c :=
    enqueueAll_counter (targetQueues_nodup s f) hq hc.enqueue fun q hm e => hin q (hq q hm) e
  have hno : ((s.enqueueAll id b (s.targetQueues f)).1.countNoReplica f).counter c = s.counter c := by
    refine Eq.trans ?_ hall
    generalize (s.enqueueAll id b (s.targetQueues f)).1 = v
    have hdrop (d : Nat → Nat) : (v.countDrop f d).counter c = v.counter c := by
      rw [State.countDrop, hh]
      exact State.counter_count_ne v _ _ (Ne.symm hd)
    unfold State.countNoReplica
    split
    · rfl
    · split
      · exact hdrop _
      · exact hdrop _
      · rfl
  have hcopy := (copied_spec hk (dropFulls (refusedAt s id f b) ((s.enqueueAll id b (s.targetQueues f)).1.countNoReplica f)) id).1 c hc.copies
  refine ⟨fun q hm e => ?_, fun ho => hcopy.trans ((dropFulls_other ho hc.yield4 hc.yield5).trans hno)⟩
  subst e
  have h := dropFulls_once (s := (s.enqueueAll id b (s.targetQueues f)).1.countNoReplica f) (refused_nodup (targetQueues_nodup s f)) hm
  unfold CountedOnce at h ⊢
  rw [hno] at h
  exact hcopy.trans h

end

section
include hf hh hp hk hr

/-- A transmit frame that is admitted counts, as do the queues that refused it, and nothing is held. -/
theorem enqueueHost_counts {force : Bool} (ha : refusedAt s id f b = [] ∨ force = true) :
    CountedOnce (C.txFrames f.port) s (s.enqueueHost id f b force) ∧
      ∀ q ∈ refusedAt s id f b, CountedOnce (C.dropsFull q) s (s.enqueueHost id f b force) := by
  have hlt : ∀ q ∈ refusedAt s id f b, q < 16384 := fun q hq =>
    State.targetQueues_lt (hr.classes _ (mem_of_sfind hf)) (mem_of_refused hq)
  have hev : Evolves s ((completedAt s id f b).putRing (f.port + 32) { (completedAt s id f b).ring (f.port + 32) with held := none }) :=
    (((spread_evolves hf).count _).txAdmitted ..).putRing ..
  have hset {c : Nat} (hc : OwnCount c) : (s.enqueueHost id f b force).counter c = ((spread s id f b).count (C.txFrames f.port)).counter c := by
    rw [enqueueHost_admits ha]
    exact settleEnqueue_counter (hev.range hr) hc.long id
  have hown := ownCount_txFrames hp
  have hne (q : Nat) : C.txFrames f.port ≠ C.dropsFull q := fun e => by simp only [C.txFrames, C.dropsFull] at e; omega
  have hsent := (spread_counter (b := b) hf hh hk hr hown (fun e => by simp only [C.txFrames, C.txDrops] at e; omega)
    fun q _ e => absurd e (hne q)).2 fun q _ => hne q
  refine ⟨.of_counter ?_ (hset hown), fun q hq => .of_counter ?_ (hset (ownCount_dropsFull (hlt q hq)))⟩
  · have h := countedOnce_any (spread s id f b) (C.txFrames f.port)
    unfold CountedOnce at h ⊢
    rw [hsent] at h
    exact h
  · have h := (spread_counter (b := b) hf hh hk hr (ownCount_dropsFull (hlt q hq)) (fun e => by simp only [C.dropsFull, C.txDrops] at e; omega)
      fun q' _ e => by
        have : q = q' := by simpa [C.dropsFull] using e
        exact this ▸ hq).1 q hq rfl
    exact (State.counter_count_ne _ _ _ (hne q)).trans h

omit hf hh hr

/-- The completion of an admitted frame shows how it fared. -/
theorem enqueueHost_item {force : Bool} (ha : refusedAt s id f b = [] ∨ force = true) (hkeys : skeysFrom none s.rings = true) :
    ((s.enqueueHost id f b force).ring (f.port + 32)).held = none ∧
      ∀ it ∈ (s.ring (f.port + 32)).items, it.frame = some id → ∃ u ∈ ((s.enqueueHost id f b force).ring (f.port + 32)).items,
        u.sop = it.sop ∧ u.descs = it.descs ∧ u.status = (if refusedAt s id f b = [] then 0 else 1) ∧ (it.tsReq = false → u.ready = true) := by
  rw [enqueueHost_admits ha]
  let full := !(refusedAt s id f b).isEmpty
  let v := completedAt s id f b
  have hring : (spread s id f b).ring (f.port + 32) = s.ring (f.port + 32) := spread_ring hk (by omega)
  have hv : v.ring (f.port + 32) = { s.ring (f.port + 32) with
      items := (s.ring (f.port + 32)).items.map (admittedItem id full ((spread s id f b).repsOf id).isEmpty (lowestPort (spread s id f b) id)) } := by
    have h := txAdmitted_ring ((spread s id f b).count (C.txFrames f.port)) id (f.port + 32) full
    have hc : ((spread s id f b).count (C.txFrames f.port)).ring (f.port + 32) = s.ring (f.port + 32) := hring
    rw [hc] at h
    exact h
  have hvk : skeysFrom none v.rings = true := skeysFrom_map (spread s id f b).rings none _ (fun _ => rfl) (spread_keys hk hkeys)
  have hw : (v.putRing (f.port + 32) { v.ring (f.port + 32) with held := none }).ring (f.port + 32) = { v.ring (f.port + 32) with held := none } :=
    sgetD_sput_self _ _ _ _ hvk
  have hst (t : TxItem) (n : Bool) (l : Option Nat) (ht : t.frame = some id) :
      admittedItem id full n l t = { t with status := if full then 1 else 0, ready := !t.tsReq || n, low := l } := if_pos (by simp [ht])
  have hfull : (if full then 1 else 0) = if refusedAt s id f b = [] then 0 else 1 := by
    unfold full
    cases refusedAt s id f b <;> rfl
  generalize ((spread s id f b).repsOf id).isEmpty = n at hv
  generalize lowestPort (spread s id f b) id = l at hv
  generalize hz : v.putRing (f.port + 32) { v.ring (f.port + 32) with held := none } = z at hw
  rw [hv] at hw
  have hready (t : TxItem) (h : t.tsReq = false) : (!t.tsReq || n) = true := by
    rw [h]
    rfl
  show ((z.settleEnqueue id).ring (f.port + 32)).held = none ∧ ∀ it ∈ (s.ring (f.port + 32)).items, it.frame = some id →
    ∃ u ∈ ((z.settleEnqueue id).ring (f.port + 32)).items, _
  rcases settleEnqueue_ring z id (f.port + 32) with h | h
  · rw [h, hw]
    exact ⟨rfl, fun it hm hit => ⟨_, List.mem_map_of_mem hm, by rw [hst it n l hit]; exact ⟨rfl, rfl, hfull, hready it⟩⟩⟩
  · rw [h, hw]
    refine ⟨rfl, fun it hm hit => ⟨_, List.mem_map_of_mem (List.mem_map_of_mem hm), ?_⟩⟩
    rw [hst it n l hit]
    dsimp only
    rw [if_pos (by simp [hit])]
    exact ⟨rfl, rfl, hfull, fun _ => rfl⟩

end

end Sys2Proof
end

section
/-! PROOF. Transmit chains, held frames and completions (R465 to R468). -/
namespace Sys2Proof

open Sys2Proof.Machine

set_option Elab.async false

variable {s t u v w : State} {r n x : Nat} {f g : Machine.Frame}

/-! ## Chains (R466) -/

/-- What a chain's descriptors, an end among them, must fulfil. -/
def chainOk (c : List Desc) : Bool :=
  descSop (c.headD []) && !c.any (fun d => descBytes d == 0) && decide ((c.map descBytes).sum ≤ 16379) &&
    txActionOk ⟨(c.headD []).getD 4 0, (c.headD []).getD 5 0⟩

/-- A descriptor with EOP is a chain of its own. -/
theorem checkChain_eop {d : Desc} (h : descEop d = true) (ds : List Desc) :
    checkChain (d :: ds) = if chainOk [d] then .whole 1 else .bad 1 := by
  have hc : chainFrom 0 (d :: ds) = .whole 1 := by simp [chainFrom, h]
  have ht : (d :: ds).take 1 = [d] := rfl
  simp only [checkChain, hc, ht]
  have hiff : (!descSop ([d].headD []) || [d].any (fun d => descBytes d == 0) || decide (16379 < ([d].map descBytes).sum) ||
      !txActionOk ⟨([d].headD []).getD 4 0, ([d].headD []).getD 5 0⟩) = !chainOk [d] := by
    simp only [chainOk, Bool.not_and, Bool.not_not, ← decide_not, Nat.not_le]
  rw [hiff]
  cases chainOk [d] <;> rfl

theorem chainOk_single (d : Desc) : chainOk [d] = true ↔
    descSop d = true ∧ descBytes d ≠ 0 ∧ descBytes d ≤ 16379 ∧ txActionOk ⟨d.getD 4 0, d.getD 5 0⟩ = true := by
  simp [chainOk, and_assoc]

/-- Without EOP a chain goes on, and ends malformed at the next SOP. -/
theorem checkChain_open {d : Desc} (h : descEop d = false) :
    checkChain [d] = .short ∧ ∀ e rest, descSop e = true → checkChain (d :: e :: rest) = .bad 1 := by
  refine ⟨?_, fun e rest he => ?_⟩
  · simp [checkChain, chainFrom, h]
  · simp [checkChain, chainFrom, h, he]

/-! ## Turns (R467) -/

theorem txReady_iff (s : State) (r : Nat) : s.txReady r = true ↔ s.running = true ∧ s.ringState (r + 32) = 1 ∧ (s.ring (r + 32)).held = none ∧
    s.txPendingAdmission r = false ∧ s.txShut (r + 32) = false ∧ 0 < s.posted (r + 32) ∧ (s.ring (r + 32)).short ≠ some (s.ringTail (r + 32)) := by
  simp [State.txReady, and_assoc]

theorem txTurn_of_first {j : Nat} (hj : j < 32) (h : s.txReady ((s.txNext + j) % 32) = true)
    (hb : ∀ k, k < j → s.txReady ((s.txNext + k) % 32) = false) : s.txTurn = some ((s.txNext + j) % 32) := by
  have hf : (List.range 32).find? (fun k => s.txReady ((s.txNext + k) % 32)) = some j :=
    List.find?_range_eq_some.mpr ⟨h, List.mem_range.mpr hj, fun k hk => by rw [hb k hk]; rfl⟩
  unfold State.txTurn
  rw [List.find?_map]
  exact congrArg (Option.map _) hf

/-! ## A chain leaves the ring -/

/-- HEAD passes the descriptors, and the item waits for its completion. -/
theorem txTake_spec (hs : StoresCanonical s) (r n : Nat) (it : TxItem) :
    let t := s.txTake r n it
    t.ringHead (r + 32) = (s.ringHead (r + 32) + n) % s.ringSize (r + 32) ∧
      (t.ring (r + 32)).items = (s.ring (r + 32)).items ++ [it] ∧ Writes [.HST_RING_HEAD (r + 32)] [] { s with rings := t.rings } t := by
  intro t
  have hlt : (s.ringHead (r + 32) + n) % s.ringSize (r + 32) < 2 ^ 16 := by
    have h1 := ringSize_le s (r + 32)
    have h2 : (s.ringHead (r + 32) + n) % s.ringSize (r + 32) < s.ringSize (r + 32) := Nat.mod_lt _ (Nat.pow_pos (by decide))
    omega
  refine ⟨fld_setFld_lt (s := State.putRing ..) hs.regs (by decide) hlt, ?_, Writes.refl.setFld (List.mem_singleton.mpr rfl) _ _⟩
  have hne : ({ s.ring (r + 32) with items := (s.ring (r + 32)).items ++ [it], short := none } : Machine.Ring) ≠ freshRing := fun h => by
    have hi := congrArg Machine.Ring.items h
    exact absurd hi (by simp [freshRing])
  have hring : t.ring (r + 32) = { s.ring (r + 32) with items := (s.ring (r + 32)).items ++ [it], short := none } := by
    refine (congrArg (sgetD · (r + 32) freshRing) (if_neg hne : sput freshRing s.rings (r + 32) _ = _)).trans ?_
    rw [sgetD, sfind_sinsert_self]
    rfl
  rw [hring]

theorem exec_hostTxFrame {chain : List Desc} {data : List Byte} {bad : List Nat} (ht : s.txTurn = some r) :
    let x := r + 32
    let ds := chain.take (s.posted x)
    let sop := ds.headD []
    let item : TxItem := ⟨s.ringHead x, 0, (sop.getD 2 0).toNat.testBit 16, 0, none, false, none, none, sop.getD 2 0⟩
    (checkChain ds = .short → exec (.hostTxFrame r chain data bad) s = .next (s.putRing x { s.ring x with short := some (s.ringTail x) })) ∧
    (checkChain ds = .bad n → exec (.hostTxFrame r chain data bad) s =
      .next ((({ s with txNext := (r + 1) % 32 } : State).count (C.txMalformed r)).txTake r n { item with descs := n, tsReq := false, status := 2, ready := true })) := by
  have hx : exec (.hostTxFrame r chain data bad) s = execHostTxFrame r chain data bad s := rfl
  intro x ds sop item
  constructor
  all_goals
    intro hc
    rw [hx, execHostTxFrame]
    refine congrArg _ ((if_neg (fun h => h ht)).trans ?_)
    dsimp only
    rw [hc]

/-- A malformed chain is counted, and its completion is ready. -/
theorem txTake_malformed (hs : StoresCanonical s) (r n : Nat) (it : TxItem) :
    let t := (({ s with txNext := (r + 1) % 32 } : State).count (C.txMalformed r)).txTake r n it
    CountedOnce (C.txMalformed r) s t ∧ t.ringHead (r + 32) = (s.ringHead (r + 32) + n) % s.ringSize (r + 32) ∧
      (t.ring (r + 32)).items = (s.ring (r + 32)).items ++ [it] ∧
      Writes [.HST_RING_HEAD (r + 32)] [C.txMalformed r] { s with rings := t.rings, txNext := (r + 1) % 32 } t := by
  intro t
  have hev : Evolves s (({ s with txNext := (r + 1) % 32 } : State).count (C.txMalformed r)) := Evolves.count (Evolves.refl.of_kept) _
  obtain ⟨h1, h2, h3⟩ := txTake_spec (hev.stores hs) r n it
  refine ⟨.of_counter (countedOnce_any s (C.txMalformed r)) (h3.cnts _ (List.not_mem_nil)), h1, h2, ?_⟩
  exact ((Writes.refl (s := { s with rings := t.rings, txNext := (r + 1) % 32 })).count (List.mem_singleton.mpr rfl)).setFld (List.mem_singleton.mpr rfl) _ _

/-- A whole chain as the frame that it makes. -/
def chainFrame (s : State) (r : Nat) (bytes : List Byte) : Machine.Frame :=
  { s.txFrame r bytes with parse := some (parseFrame (s.parseCfg (s.txFrame r bytes)) (s.txFrame r bytes).bytes) }

/-- The frame of a whole chain is in the device, and its item waits. -/
def chainTaken (s : State) (r n : Nat) (bytes : List Byte) (it : TxItem) : State :=
  ({ s with frames := sinsert s.frames s.nextFrame (chainFrame s r bytes), nextFrame := s.nextFrame + 1, txNext := (r + 1) % 32 } : State).txTake r n it

theorem exec_hostTxFrame_whole {chain : List Desc} {data : List Byte} {bad : List Nat} (ht : s.txTurn = some r)
    (hc : checkChain (chain.take (s.posted (r + 32))) = .whole n) :
    let ds := chain.take (s.posted (r + 32))
    let sop := ds.headD []
    let len := ((ds.take n).map descBytes).sum
    let bytes := (data ++ List.replicate (len - data.length) 0#8).take len
    let u := chainTaken s r n bytes ⟨s.ringHead (r + 32), n, (sop.getD 2 0).toNat.testBit 16, 0, some s.nextFrame, false, none, none, sop.getD 2 0⟩
    exec (.hostTxFrame r chain data bad) s = .next
      (if (sop.getD 2 0).toNat.testBit 17 then u.applyAction s.nextFrame (chainFrame s r bytes) ⟨sop.getD 4 0, sop.getD 5 0⟩
       else u.firstPass s.nextFrame (chainFrame s r bytes) (parseFrame (s.parseCfg (chainFrame s r bytes)) (chainFrame s r bytes).bytes)
         ⟨sop.getD 4 0, sop.getD 5 0⟩ bad) := by
  have hx : exec (.hostTxFrame r chain data bad) s = execHostTxFrame r chain data bad s := rfl
  intro ds sop len bytes u
  rw [hx, execHostTxFrame]
  refine congrArg _ ((if_neg (fun h => h ht)).trans ?_)
  dsimp only
  rw [hc]
  rfl

/-! ## A held frame is tested again (R467) -/

theorem exec_hostTxRetry {b : Bool} {hd : Machine.Held} (hh : (s.ring (r + 32)).held = some hd) (hf : s.frame hd.frame = some f)
    (hst : s.ringState (r + 32) = 1 ∨ s.ringState (r + 32) = 3) (ho : s.enqueueShut f = false) :
    exec (.hostTxRetry r b) s = .next (s.enqueueHost hd.frame f b (s.fld .HST_RING_GLOBAL F.HST_RING_GLOBAL_HOLD_LIMIT != 0 &&
      decide (s.fld .HST_RING_GLOBAL F.HST_RING_GLOBAL_HOLD_LIMIT * 1000 ≤ s.tim.tick - hd.since))) := by
  have hx : exec (.hostTxRetry r b) s = execHostTxRetry r b s := rfl
  simp only [hx, execHostTxRetry, hh, hf]
  exact congrArg _ (if_pos ⟨hst, by rw [ho]; rfl⟩)

/-- A frame that stays held moves the averages and the random drop alone. -/
theorem enqueueHost_holds {b : Bool} {id : Nat} {hd : Machine.Held} (hh : (s.ring (f.port + 32)).held = some hd)
    (hst : s.ringState (f.port + 32) = 1 ∨ s.ringState (f.port + 32) = 3) (hr : refusedAt s id f b ≠ []) :
    s.enqueueHost id f b false = { s with swc := { s.swc with avg := (s.enqueueAll id b (s.targetQueues f)).1.swc.avg,
                                                              lfsr := (s.enqueueAll id b (s.targetQueues f)).1.swc.lfsr } } := by
  have hc : ((s.enqueueAll id b (s.targetQueues f)).2.isEmpty || false) = false := by
    rw [Bool.or_false]
    exact List.isEmpty_eq_false_iff.mpr hr
  have h2 : ¬ s.fld (.HST_RING_STATUS (f.port + 32)) F.HST_RING_STATUS_STATE = 2 := fun h => by
    have : s.ringState (f.port + 32) = 2 := h
    omega
  unfold State.enqueueHost
  refine (if_neg (by rw [hc]; nofun)).trans ((if_neg h2).trans (if_pos ?_))
  exact Option.isSome_iff_exists.mpr ⟨hd, hh⟩

/-! ## Completions (R468) -/

/-- The timestamp that a completion shows. -/
def shownStamp (it : TxItem) : Option Nat := if it.tsReq = true ∧ it.status ≠ 3 then it.stamp else none

/-- The writes of a completion. -/
def completionSent (s : State) (x : Nat) (it : TxItem) (stamp : Option Nat) : State :=
  let a := s.descAddr x it.sop
  ((s.emit (.dma (a + 12) (leBytes [it.status + (if stamp.isSome then 4 else 0)]))).emit
    (.dma (a + 24) (leBytes [stamp.getD 0 % 2 ^ 32, stamp.getD 0 / 2 ^ 32]))).emit (.dma (a + 8) (leBytes [it.w2.toNat % 2 ^ 31 + 2 ^ 31]))

/-- The item leaves, and CPTR passes its descriptors. -/
def completionDone (v : State) (x : Nat) (it : TxItem) (rest : List TxItem) : State :=
  (v.putRing x { v.ring x with items := rest }).completed x ((v.ringCptr x + it.descs) % v.ringSize x)

theorem exec_hostTxCompletion {it : TxItem} {rest : List TxItem} (hi : (s.ring (r + 32)).items = it :: rest) :
    (s.ringState (r + 32) = 0 ∨ it.ready = false → exec (.hostTxCompletion r) s = .next s) ∧
      (s.ringState (r + 32) ≠ 0 → it.ready = true →
        exec (.hostTxCompletion r) s = .next (completionDone (completionSent s (r + 32) it (shownStamp it)) (r + 32) it rest).irqSettle) := by
  have hx : exec (.hostTxCompletion r) s = execHostTxCompletion r s := rfl
  rw [hx, execHostTxCompletion]
  dsimp only
  rw [hi]
  refine ⟨fun h => congrArg _ (if_pos ?_), fun h1 h2 => congrArg _ ((if_neg ?_).trans ?_)⟩
  · simpa using h
  · simp [h1, h2]
  · refine congrArg (fun st => (completionDone (completionSent s (r + 32) it st) (r + 32) it rest).irqSettle) ?_
    unfold shownStamp
    cases it.stamp <;> simp

theorem completionDone_spec {it : TxItem} {rest : List TxItem} (hs : StoresCanonical s) (hk : skeysFrom none s.rings = true) (x : Nat) :
    let t := completionDone s x it rest
    (t.ring x).items = rest ∧ t.ringCptr x = (s.ringCptr x + it.descs) % s.ringSize x ∧ t.out = s.out ∧
      Writes [.HST_RING_CPTR x] [] { s with rings := t.rings } t := by
  intro t
  have hlt : (s.ringCptr x + it.descs) % s.ringSize x < 2 ^ 16 := by
    have h1 := ringSize_le s x
    have h2 : (s.ringCptr x + it.descs) % s.ringSize x < s.ringSize x := Nat.mod_lt _ (Nat.pow_pos (by decide))
    omega
  refine ⟨?_, fld_setFld_lt (s := State.putRing ..) hs.regs (by decide) hlt, rfl, Writes.refl.setFld (List.mem_singleton.mpr rfl) _ _⟩
  have h1 := skeysFrom_sput freshRing s.rings x { s.ring x with items := rest } hk
  have h2 : (s.putRing x { s.ring x with items := rest }).ring x = { s.ring x with items := rest } := sgetD_sput_self _ _ _ _ hk
  exact (congrArg Machine.Ring.items (sgetD_sput_self freshRing _ x _ h1)).trans (congrArg Machine.Ring.items h2)

theorem hostTxCompletion_spec {it : TxItem} {rest : List TxItem} (hs : StoresCanonical s) (hk : skeysFrom none s.rings = true) (hr : r < 32)
    (o : List Output) :
    let x := r + 32
    let t := (completionDone ({ s with out := o } : State) x it rest).irqSettle
    (t.ring x).items = rest ∧ t.ringCptr x = (s.ringCptr x + it.descs) % s.ringSize x ∧
      (∃ pre, (∀ o ∈ pre, ∃ v a d, o = Output.msix v a d) ∧ t.out = pre ++ o) ∧
      Signals [.HST_RING_CPTR x] [] { s with rings := t.rings } t := by
  intro x t
  have hv : Evolves s { s with out := o } := Evolves.refl.of_kept
  obtain ⟨h1, h2, h3, h4⟩ := completionDone_spec (s := { s with out := o }) (it := it) (rest := rest) (hv.stores hs) hk x
  have i1 := (cptr_indexOk (x := x) (by omega)).1
  have hrings : t.rings = (completionDone ({ s with out := o } : State) x it rest).rings := irqSettle_rings _
  rw [hrings]
  show _ ∧ _ ∧ _ ∧ Signals _ _ _ (completionDone ({ s with out := o } : State) x it rest).irqSettle
  have ht : t = (completionDone ({ s with out := o } : State) x it rest).irqSettle := rfl
  generalize completionDone ({ s with out := o } : State) x it rest = w at *
  have hw : Signals [.HST_RING_CPTR x] [] { s with rings := w.rings } w := by
    refine ⟨?_, fun q _ hq => h4.regs q hq, fun id _ hid => h4.cnts id hid⟩
    rw [h4.rest]
  refine ⟨?_, ?_, ?_, hw.trans (irqSettle_signals _ _ w)⟩
  · rw [State.ring, hrings]
    exact h1
  · rw [ht]
    exact (congrArg F.HST_RING_CPTR_INDEX.get (irqSettle_get w _ (not_signalAddr i1 nofun nofun nofun))).trans h2
  · obtain ⟨pre, ho, hm⟩ := (SendsOnlyMsix.refl (s := w)).irqSettle
    exact ⟨pre, hm, (congrArg State.out ht).trans (ho.trans (congrArg (pre ++ ·) h3))⟩

/-- Settles O56: chains by `txTake_spec`, held frames by `enqueueHost_counts` and `enqueueHost_item`, completions by `completionDone_spec`. -/
theorem hostFramesCompleteInOrder : Obligations.HostFramesCompleteInOrder := by
  unfold Obligations.HostFramesCompleteInOrder
  refine ⟨⟨fun s r n chain data bad hs hr ht => ?_, fun s r chain data bad ht => congrArg Host.Outcome.next (if_pos ht), txReady_iff,
    fun s j hj h hb => txTurn_of_first hj h hb, fun d ds => ?_⟩, fun s r b hd f hs hrange hk hr hh hf hhost hp _ hcopies hst ho => ?_,
    fun s r it rest hs hk hr hi => ?_⟩
  · intro x ds sop
    obtain ⟨h1, h2⟩ := exec_hostTxFrame (n := n) (chain := chain) (data := data) (bad := bad) ht
    refine ⟨h1, fun hc => ?_, fun hc => ?_⟩
    · obtain ⟨t1, t2, t3, t4⟩ := txTake_malformed hs r n
        ⟨s.ringHead x, n, false, 2, none, true, none, none, sop.getD 2 0⟩
      exact ⟨_, h2 hc, t1, t2, ⟨_, t3, rfl, rfl, rfl, rfl⟩, t4⟩
    · intro len bytes
      let it : TxItem := ⟨s.ringHead x, n, (sop.getD 2 0).toNat.testBit 16, 0, some s.nextFrame, false, none, none, sop.getD 2 0⟩
      have hev : StoresCanonical ({ s with frames := sinsert s.frames s.nextFrame (chainFrame s r bytes), nextFrame := s.nextFrame + 1, txNext := (r + 1) % 32 } : State) :=
        { hs with frames := skeysFrom_sinsert _ _ _ _ (fun _ hx => nomatch hx) hs.frames }
      obtain ⟨t1, t2, t3⟩ := txTake_spec hev r n it
      exact ⟨chainTaken s r n bytes it, chainFrame s r bytes, sfind_sinsert_self .., rfl, fun k hk => sfind_sinsert_ne _ _ _ _ (Ne.symm hk), rfl, rfl, rfl, rfl, rfl,
        rfl, rfl, rfl, t1, ⟨it, t2, rfl, rfl, rfl, rfl, rfl⟩, t3, exec_hostTxFrame_whole ht hc⟩
  · refine ⟨fun h => (checkChain_open h).1, fun h hsop h1 h2 ha => ?_, fun h hb => ?_, fun h ⟨e, rest, he, hsop⟩ => ?_⟩
    · rw [checkChain_eop h, if_pos ((chainOk_single d).mpr ⟨hsop, by omega, h2, ha⟩)]
    · rw [checkChain_eop h, if_neg fun hc => ?_]
      obtain ⟨c1, c2, -, c4⟩ := (chainOk_single d).mp hc
      rcases hb with h | h | h
      · exact absurd c1 (by rw [h]; nofun)
      · exact c2 h
      · exact absurd c4 (by rw [h]; nofun)
    · subst he
      exact (checkChain_open h).2 e rest hsop
  · intro limit force refused
    subst hp
    have hx := exec_hostTxRetry (b := b) hh hf hst ho
    have hforce : (limit != 0 && decide (limit * 1000 ≤ s.tim.tick - hd.since)) = true ↔ force := by
      unfold force
      simp
    refine ⟨_, hx, fun ha => ?_, fun hne hnf => ?_⟩
    · have ha' : refusedAt s hd.frame f b = [] ∨ (limit != 0 && decide (limit * 1000 ≤ s.tim.tick - hd.since)) = true := ha.imp id hforce.mpr
      obtain ⟨c1, c2⟩ := enqueueHost_counts hf hhost hr hcopies hrange ha'
      obtain ⟨c3, c4⟩ := enqueueHost_item hr hcopies ha' hk
      exact ⟨c3, c1, c2, c4⟩
    · have hfalse : (limit != 0 && decide (limit * 1000 ≤ s.tim.tick - hd.since)) = false := Bool.eq_false_iff.mpr fun h => hnf (hforce.mp h)
      rw [hfalse, enqueueHost_holds hh hst hne]
      exact ⟨rfl, rfl⟩
  · intro x a stamp
    obtain ⟨h1, h2⟩ := exec_hostTxCompletion hi
    exact ⟨h1, fun hs1 hr1 => ⟨_, h2 hs1 hr1, hostTxCompletion_spec hs hk hr _⟩⟩

end Sys2Proof
end

section
/-! PROOF. The transitions of lanes, and what they leave of other lanes (R136 to R143, R148). -/
namespace Sys2Proof

open Sys2Proof.Machine

set_option Elab.async false

variable {s t u v w : State} {n m p k b x : Nat}

/-! ## What the rows of lanes write -/

/-- Registers that the rows of lanes may write. -/
def laneReg : Reg → Prop
  | .LNE_LANE_STATUS n => n < 1024
  | .LNE_LANE_ANISE n => n < 1024
  | .LNE_LANE_TXFFE n => n < 1024
  | .TIM_PORT_STATUS n => n < 1024
  | r => portReg r

/-- Counters that the rows of lanes may advance. -/
def laneCnt (id : Nat) : Prop := portCnt id ∨ ∃ n < 1024, id = C.trainAttempts n

theorem laneReg_indexOk {r : Reg} (h : laneReg r) : r.indexOk = true := by
  cases r with
  | LNE_LANE_STATUS n => exact decide_eq_true h
  | LNE_LANE_ANISE n => exact decide_eq_true h
  | LNE_LANE_TXFFE n => exact decide_eq_true h
  | TIM_PORT_STATUS n => exact decide_eq_true h
  | _ => exact portReg_indexOk h

theorem laneReg_of_portReg {r : Reg} (h : portReg r) : laneReg r := by
  cases r with
  | LNE_LANE_STATUS n => exact h.elim
  | LNE_LANE_ANISE n => exact h.elim
  | LNE_LANE_TXFFE n => exact h.elim
  | TIM_PORT_STATUS n => exact h.elim
  | _ => exact h

/-- Nothing moves but what lanes and their ports move. -/
structure LaneFlows (s t : State) : Prop where
  flows : Flows laneReg laneCnt s t
  hlt : t.hlt = s.hlt
  lne : t.lne = { s.lne with lanes := t.lne.lanes }

/-- Lane `m` stands as it did. -/
structure LaneKept (m : Nat) (s t : State) : Prop where
  status : t.get (.LNE_LANE_STATUS m) = s.get (.LNE_LANE_STATUS m)
  taps : t.get (.LNE_LANE_TXFFE m) = s.get (.LNE_LANE_TXFFE m)
  own : t.lane m = s.lane m

namespace LaneKept

theorem refl : LaneKept m s s := ⟨rfl, rfl, rfl⟩
theorem trans (h : LaneKept m s u) (h' : LaneKept m u v) : LaneKept m s v :=
  ⟨h'.status.trans h.status, h'.taps.trans h.taps, h'.own.trans h.own⟩

theorem laneState (h : LaneKept m s t) : t.laneState m = s.laneState m := congrArg F.LNE_LANE_STATUS_STATE.get h.status

end LaneKept

namespace LaneFlows

theorem refl (hs : StoresCanonical s) (hr : FramesInRange s) : LaneFlows s s := ⟨.refl hs hr, rfl, rfl⟩

theorem trans (h : LaneFlows s u) (h' : LaneFlows u v) : LaneFlows s v :=
  ⟨h.flows.trans h'.flows, h'.hlt.trans h.hlt, by rw [h'.lne, h.lne]⟩

theorem canon (h : LaneFlows s t) : StoresCanonical t := h.flows.canon
theorem range (h : LaneFlows s t) : FramesInRange t := h.flows.range

/-- A register that lanes do not write. -/
theorem get (h : LaneFlows s t) {q : Reg} (hq : q.indexOk = true) (hn : ¬ laneReg q) : t.get q = s.get q :=
  h.flows.regs.get (fun _ => laneReg_indexOk) hq hn

theorem cFld (h : LaneFlows s t) (r : Reg) (f : Fld) : t.cFld r f = s.cFld r f := by
  unfold State.cFld State.stFld
  rw [h.flows.sel, h.flows.settings]

theorem blkLanes (h : LaneFlows s t) (b : Nat) : t.blkLanes b = s.blkLanes b := by rw [State.blkLanes, h.cFld, State.blkLanes]

theorem portOfLane (h : LaneFlows s t) (n : Nat) : t.portOfLane n = s.portOfLane n := by rw [State.portOfLane, h.blkLanes, State.portOfLane]

theorem grpEn (h : LaneFlows s t) (b : Nat) : t.grpEn b = s.grpEn b := by rw [State.grpEn, h.cFld, State.grpEn]

theorem laneCfg (h : LaneFlows s t) (hn : n < 1024) (f : Fld) : t.laneCfg n f = s.laneCfg n f :=
  congrArg f.get (h.get (q := .LNE_LANE_CFG n) (decide_eq_true hn) nofun)

theorem grp (h : LaneFlows s t) (hb : b < 128) (f : Fld) : t.grp b f = s.grp b f :=
  congrArg f.get (h.get (q := .LNE_GRP_STATUS b) (decide_eq_true hb) nofun)

theorem bootStep (h : LaneFlows s t) : t.bootStep = s.bootStep :=
  congrArg F.STW_BOOT_STATUS_STEP.get (h.get (q := .STW_BOOT_STATUS) rfl nofun)

theorem wornanUp (h : LaneFlows s t) {c : Nat} (hc : c < 8) : t.wornanUp c = s.wornanUp c :=
  congrArg (fun w => F.LNE_WRN_STATUS_STATE.get w == 2) (h.get (q := .LNE_WRN_STATUS c) (decide_eq_true hc) nofun)

theorem setFld (h : LaneFlows s u) {r : Reg} (hr : laneReg r) (hi : r.indexOk = true) (hne : r ≠ .STW_EPOCH_STATUS) (f : Fld) (x : Nat) :
    LaneFlows s (u.setFld r f x) :=
  ⟨h.flows.setFld hr f x (Flows.curSel_setFld hi hne f x), h.hlt, h.lne⟩

theorem putLane (h : LaneFlows s u) (n : Nat) (x : LaneSt) : LaneFlows s (u.putLane n x) :=
  ⟨h.flows.of_stores Evolves.refl.of_kept rfl, h.hlt, by rw [State.putLane, h.lne]⟩

theorem putTaps (h : LaneFlows s u) (hn : n < 1024) (x : Word) : LaneFlows s (u.put (.LNE_LANE_TXFFE n) x) :=
  ⟨h.flows.put (R := laneReg) (r := .LNE_LANE_TXFFE n) hn x (congrArg F.STW_EPOCH_STATUS_SELECTOR.get
    (State.get_put_ne _ _ _ _ (addr_ne (q := .LNE_LANE_TXFFE n) (r := .STW_EPOCH_STATUS) (decide_eq_true hn) rfl nofun))), h.hlt, h.lne⟩

theorem countAttempt (h : LaneFlows s u) (hn : n < 1024) : LaneFlows s (u.count (C.trainAttempts n)) :=
  ⟨h.flows.count (.inr ⟨n, hn, rfl⟩), h.hlt, h.lne⟩

theorem emit (h : LaneFlows s u) (o : Output) : LaneFlows s (u.emit o) := ⟨h.flows.of_stores (Evolves.refl.emit _) rfl, h.hlt, h.lne⟩

end LaneFlows

/-! ## A port whose lanes are no longer up -/

/-- The rest of the device's own state of lanes and health stays. -/
structure PortFlows (s t : State) : Prop where
  flows : Flows portReg portCnt s t
  hlt : t.hlt = s.hlt
  lne : t.lne = s.lne

theorem PortFlows.portProof : PortProof (PortFlows s) := by
  have c : PortProof (Flows portReg portCnt s) := Flows.portProof (fun _ h => h) fun _ h => h
  exact {
    canon := fun h => h.flows.canon
    range := fun h => h.flows.range
    due := fun p i b h => ⟨c.due p i b h.flows, h.hlt, h.lne⟩
    xoff := fun v hp hup h => ⟨c.xoff v hp hup h.flows, h.hlt, h.lne⟩
    endEpoch := fun {u} h => by
      obtain ⟨rows, fwd, he⟩ := endEpoch_eq u
      exact ⟨c.endEpoch h.flows, by rw [he]; exact h.hlt, by rw [he]; exact h.lne⟩
    counts := fun hid h => ⟨c.counts hid h.flows, h.hlt, h.lne⟩
    yielded := fun hu hw hk => ⟨c.yielded hu.flows hw.flows hk, hw.hlt, hw.lne⟩
    txDone := fun id h => ⟨c.txDone id h.flows, h.hlt, h.lne⟩
    erased := fun id h => ⟨c.erased id h.flows, h.hlt, h.lne⟩
    dropped := fun hu hw hf => ⟨c.dropped hu.flows hw.flows hf, hw.hlt, hw.lne⟩
    freed := fun k h => ⟨c.freed k h.flows, h.hlt, h.lne⟩
    sent := fun p bs h => ⟨c.sent p bs h.flows, h.hlt, h.lne⟩
    qcounts := fun hid h => ⟨c.qcounts hid h.flows, h.hlt, h.lne⟩
    flushAdd := fun {u} p h => by
      have hf := (FwdOnly.refl (s := u)).flushAdd p
      rw [FwdOnly] at hf
      exact ⟨c.flushAdd p h.flows, by rw [hf]; exact h.hlt, by rw [hf]; exact h.lne⟩
    ports := fun p x h => ⟨c.ports p x h.flows, h.hlt, h.lne⟩
    status := fun f v hp h => ⟨c.status f v hp h.flows, h.hlt, h.lne⟩
    paused := fun hp h => ⟨c.paused hp h.flows, h.hlt, h.lne⟩
    downs := fun hp h => ⟨c.downs hp h.flows, h.hlt, h.lne⟩
    failReception := fun p h => ⟨c.failReception p h.flows, h.hlt, h.lne⟩ }

theorem lanesLost_flows (hs : StoresCanonical s) (hr : FramesInRange s) (hp : p < 1024) : PortFlows s (s.lanesLost p) :=
  PortFlows.portProof.lanesLost hp ⟨.refl hs hr, rfl, rfl⟩

theorem PortFlows.laneFlows (h : PortFlows s t) : LaneFlows s t :=
  ⟨h.flows.weaken (fun _ => laneReg_of_portReg) fun _ => .inl, h.hlt, by rw [h.lne]⟩

theorem PortFlows.laneKept (h : PortFlows s t) (hm : m < 1024) : LaneKept m s t :=
  ⟨h.flows.regs.get (fun _ => portReg_indexOk) (q := .LNE_LANE_STATUS m) (decide_eq_true hm) nofun,
    h.flows.regs.get (fun _ => portReg_indexOk) (q := .LNE_LANE_TXFFE m) (decide_eq_true hm) nofun, by rw [State.lane, h.lne, State.lane]⟩

/-! ## A lane enters a state -/

/-- STATE of a lane, and the bits of STATUS that its new state ends. -/
def laneMarked (s : State) (n v : Nat) : State :=
  let s' := s.setLaneState n v
  let s' := if v = 6 then s' else s'.setFld (.LNE_LANE_STATUS n) F.LNE_LANE_STATUS_CW_LOCK 0
  if s.laneState n = 8 ∧ v ≠ 8 then s'.setFld (.LNE_LANE_STATUS n) F.LNE_LANE_STATUS_PRBS_LOCK 0 else s'

/-- A lane that was UP no longer serves its port. -/
def laneLeft (s : State) (n : Nat) : State :=
  ((if n = s.portOfLane n then s.setFld (.TIM_PORT_STATUS (s.portOfLane n)) F.TIM_PORT_STATUS_PH_VALID 0 else s).setFld
    (.LNE_LANE_ANISE n) F.LNE_LANE_ANISE_PHASE 0).lanesLost (s.portOfLane n)

theorem goLane_eq (s : State) (n v : Nat) :
    s.goLane n v = if s.laneState n = 6 ∧ v ≠ 6 then laneLeft (laneMarked s n v) n else laneMarked s n v := rfl

theorem modeLanes_pos (m : Nat) : modeLanes m = 1 ∨ modeLanes m = 2 ∨ modeLanes m = 4 ∨ modeLanes m = 8 := by
  unfold modeLanes
  have : m % 4 = 0 ∨ m % 4 = 1 ∨ m % 4 = 2 ∨ m % 4 = 3 := by omega
  rcases this with h | h | h | h <;> rw [h] <;> decide

theorem portOfLane_le (s : State) (n : Nat) : s.portOfLane n ≤ n := Nat.sub_le ..

theorem laneMarked_writes (s : State) (n v : Nat) : Writes [.LNE_LANE_STATUS n] [] s (laneMarked s n v) := by
  have h1 : Writes [.LNE_LANE_STATUS n] [] s (s.setLaneState n v) := Writes.refl.setFld (List.mem_singleton_self _) _ _
  unfold laneMarked
  extract_lets a c
  have hc : Writes [.LNE_LANE_STATUS n] [] s c := by
    unfold c
    split
    · exact h1
    · exact h1.setFld (List.mem_singleton_self _) _ _
  split
  · exact hc.setFld (List.mem_singleton_self _) _ _
  · exact hc

/-- The fields of a lane's STATUS that its transitions leave. -/
structure Lasting (f : Fld) : Prop where
  state : F.LNE_LANE_STATUS_STATE.apart f = true
  lock : F.LNE_LANE_STATUS_CW_LOCK.apart f = true
  prbs : F.LNE_LANE_STATUS_PRBS_LOCK.apart f = true
  inside : f.lo + f.w ≤ 32

theorem lasting_signal : Lasting F.LNE_LANE_STATUS_SIGNAL := ⟨by decide, by decide, by decide, by decide⟩
theorem lasting_trainFail : Lasting F.LNE_LANE_STATUS_TRAIN_FAIL := ⟨by decide, by decide, by decide, by decide⟩

theorem laneMarked_fld (hs : StoresCanonical s) {c : Nat} (hc : c < 16) :
    (laneMarked s n c).laneState n = c ∧
      (∀ f, Lasting f → (laneMarked s n c).fld (.LNE_LANE_STATUS n) f = s.fld (.LNE_LANE_STATUS n) f) ∧
      (c ≠ 6 → (laneMarked s n c).fld (.LNE_LANE_STATUS n) F.LNE_LANE_STATUS_CW_LOCK = 0) := by
  have h1 : StoresCanonical (s.setLaneState n c) := hs.setFld _ _ _
  have s1 : (s.setLaneState n c).laneState n = c := fld_setFld_lt hs.regs (by decide) hc
  have l1 (f : Fld) (hf : Lasting f) : (s.setLaneState n c).fld (.LNE_LANE_STATUS n) f = s.fld (.LNE_LANE_STATUS n) f :=
    fld_setFld_beside hs.regs hf.state hf.inside
  unfold laneMarked
  extract_lets a d
  have hd : StoresCanonical d ∧ d.laneState n = c ∧ (∀ f, Lasting f → d.fld (.LNE_LANE_STATUS n) f = s.fld (.LNE_LANE_STATUS n) f) ∧
      (c ≠ 6 → d.fld (.LNE_LANE_STATUS n) F.LNE_LANE_STATUS_CW_LOCK = 0) := by
    unfold d
    split
    · next h => exact ⟨h1, s1, l1, fun hne => absurd h hne⟩
    · exact ⟨h1.setFld _ _ _, (fld_setFld_beside h1.regs (by decide) (by decide)).trans s1,
        fun f hf => (fld_setFld_beside h1.regs hf.lock hf.inside).trans (l1 f hf), fun _ => fld_setFld_lt h1.regs (by decide) (by decide)⟩
  obtain ⟨h2, s2, l2, k2⟩ := hd
  split
  · exact ⟨(fld_setFld_beside h2.regs (by decide) (by decide)).trans s2, fun f hf => (fld_setFld_beside h2.regs hf.prbs hf.inside).trans (l2 f hf),
      fun hne => (fld_setFld_beside h2.regs (by decide) (by decide)).trans (k2 hne)⟩
  · exact ⟨s2, l2, k2⟩

theorem LaneFlows.marked (hs : StoresCanonical s) (hr : FramesInRange s) (hn : n < 1024) (c : Nat) : LaneFlows s (laneMarked s n c) := by
  have hi : (Reg.LNE_LANE_STATUS n).indexOk = true := decide_eq_true hn
  have h1 (a : State) (ha : LaneFlows s a) (f : Fld) (x : Nat) : LaneFlows s (a.setFld (.LNE_LANE_STATUS n) f x) := ha.setFld (r := .LNE_LANE_STATUS n) hn hi nofun f x
  unfold laneMarked
  extract_lets a d
  have ha : LaneFlows s a := h1 _ (.refl hs hr) _ _
  have hd : LaneFlows s d := keep_ite ha (h1 _ ha _ _)
  exact keep_ite (h1 _ hd _ _) hd

/-- A register's write leaves another lane. -/
theorem laneKept_setFld {r : Reg} (hi : r.indexOk = true) (hm : m < 1024) (h1 : r ≠ .LNE_LANE_STATUS m) (h2 : r ≠ .LNE_LANE_TXFFE m) (f : Fld) (x : Nat) :
    LaneKept m s (s.setFld r f x) :=
  ⟨get_setFld_off hi (decide_eq_true hm) h1, get_setFld_off hi (decide_eq_true hm) h2, rfl⟩

/-- What a lane's transition does to the lane itself, and to the others. -/
structure LaneEntered (n c : Nat) (s t : State) : Prop where
  flows : LaneFlows s t
  lne : t.lne = s.lne
  state : t.laneState n = c
  lasting : ∀ f, Lasting f → t.fld (.LNE_LANE_STATUS n) f = s.fld (.LNE_LANE_STATUS n) f
  lock : c ≠ 6 → t.fld (.LNE_LANE_STATUS n) F.LNE_LANE_STATUS_CW_LOCK = 0
  taps : t.get (.LNE_LANE_TXFFE n) = s.get (.LNE_LANE_TXFFE n)
  others : ∀ m, m < 1024 → m ≠ n → LaneKept m s t
  counts : ∀ id, ¬ portCnt id → t.counter id = s.counter id

theorem laneMarked_entered (hs : StoresCanonical s) (hr : FramesInRange s) (hn : n < 1024) {c : Nat} (hc : c < 16) :
    LaneEntered n c s (laneMarked s n c) := by
  obtain ⟨h1, h2, h3⟩ := laneMarked_fld (n := n) hs hc
  have hw := laneMarked_writes s n c
  have hi : (Reg.LNE_LANE_STATUS n).indexOk = true := decide_eq_true hn
  have hget {q : Reg} (hq : q.indexOk = true) (hne : q ≠ .LNE_LANE_STATUS n) : (laneMarked s n c).get q = s.get q :=
    (hw.regs q fun r hr => by rw [List.mem_singleton.mp hr]; exact addr_ne hq hi hne).1
  have hl : (laneMarked s n c).lne = s.lne := (congrArg State.lne hw.rest).trans rfl
  refine ⟨.marked hs hr hn c, hl, h1, h2, h3, hget (decide_eq_true hn) nofun, fun m hm hne => ⟨hget (decide_eq_true hm) (by simpa using hne), hget (decide_eq_true hm) nofun, ?_⟩,
    fun id _ => hw.cnts id (List.not_mem_nil)⟩
  rw [State.lane, hl, State.lane]

theorem laneLeft_flows (hs : StoresCanonical s) (hr : FramesInRange s) (hn : n < 1024) :
    LaneFlows s (laneLeft s n) ∧ (laneLeft s n).lne = s.lne ∧ (∀ m, m < 1024 → LaneKept m s (laneLeft s n)) ∧
      ∀ id, ¬ portCnt id → (laneLeft s n).counter id = s.counter id := by
  have hp : s.portOfLane n < 1024 := Nat.lt_of_le_of_lt (portOfLane_le s n) hn
  have hip : (Reg.TIM_PORT_STATUS (s.portOfLane n)).indexOk = true := decide_eq_true hp
  have hia : (Reg.LNE_LANE_ANISE n).indexOk = true := decide_eq_true hn
  let a : State := if n = s.portOfLane n then s.setFld (.TIM_PORT_STATUS (s.portOfLane n)) F.TIM_PORT_STATUS_PH_VALID 0 else s
  let b := a.setFld (.LNE_LANE_ANISE n) F.LNE_LANE_ANISE_PHASE 0
  have ha : LaneFlows s a := keep_ite ((LaneFlows.refl hs hr).setFld (r := .TIM_PORT_STATUS (s.portOfLane n)) hp hip nofun _ _) (.refl hs hr)
  have hb : LaneFlows s b := ha.setFld (r := .LNE_LANE_ANISE n) hn hia nofun _ _
  have hak : a.lne = s.lne ∧ (∀ m, m < 1024 → LaneKept m s a) ∧ ∀ id, a.counter id = s.counter id := by
    unfold a
    split
    · exact ⟨rfl, fun m hm => laneKept_setFld hip hm nofun nofun _ _, fun _ => rfl⟩
    · exact ⟨rfl, fun _ _ => .refl, fun _ => rfl⟩
  have hl := lanesLost_flows hb.canon hb.range hp
  have ht : laneLeft s n = b.lanesLost (s.portOfLane n) := rfl
  rw [ht]
  exact ⟨hb.trans hl.laneFlows, hl.lne.trans hak.1, fun m hm => ((hak.2.1 m hm).trans (laneKept_setFld hia hm nofun nofun _ _)).trans (hl.laneKept hm),
    fun id hid => (hl.flows.cnts id hid).trans (hak.2.2 id)⟩

theorem goLane_entered (hs : StoresCanonical s) (hr : FramesInRange s) (hn : n < 1024) {c : Nat} (hc : c < 16) : LaneEntered n c s (s.goLane n c) := by
  have h := laneMarked_entered hs hr hn hc
  rw [goLane_eq]
  split
  · obtain ⟨l1, l2, l3, l4⟩ := laneLeft_flows h.flows.canon h.flows.range hn
    have hk := l3 n hn
    exact ⟨h.flows.trans l1, l2.trans h.lne, hk.laneState.trans h.state, fun f hf => (congrArg f.get hk.status).trans (h.lasting f hf),
      fun hne => (congrArg F.LNE_LANE_STATUS_CW_LOCK.get hk.status).trans (h.lock hne), hk.taps.trans h.taps,
      fun m hm hne => (h.others m hm hne).trans (l3 m hm), fun id hid => (l4 id hid).trans (h.counts id hid)⟩
  · exact h

/-- A lane that is not UP changes only its own STATUS. -/
theorem goLane_writes {c : Nat} (h : s.laneState n ≠ 6 ∨ c = 6) : Writes [.LNE_LANE_STATUS n] [] s (s.goLane n c) := by
  rw [goLane_eq, if_neg fun hh => h.elim (fun a => a hh.1) hh.2]
  exact laneMarked_writes s n c

/-! ## Lanes of a port -/

/-- The lanes of a port, of 1, 2, 4 or 8 lanes, lie in one block and after its first lane. -/
theorem port_lanes {l n i : Nat} (hl : l = 1 ∨ l = 2 ∨ l = 4 ∨ l = 8) (hi : i < l) :
    (n - n % 8 % l) / 8 = n / 8 ∧ (n - n % 8 % l + i) / 8 = n / 8 ∧ (n - n % 8 % l + i) - (n - n % 8 % l + i) % 8 % l = n - n % 8 % l := by
  rcases hl with rfl | rfl | rfl | rfl <;> omega

theorem lanesOf_port (hn : n < 1024) (hk : k ∈ s.lanesOf (s.portOfLane n)) : k < 1024 ∧ s.portOfLane k = s.portOfLane n := by
  obtain ⟨i, hi, rfl⟩ := List.mem_map.mp hk
  rw [List.mem_range] at hi
  have hl := modeLanes_pos (s.cFld (.PRT_BLK_CFG (n / 8)) F.PRT_BLK_CFG_MODE)
  have hdiv : s.portOfLane n / 8 = n / 8 := (port_lanes (n := n) (i := 0) hl (by omega)).1
  rw [hdiv] at hi
  obtain ⟨-, h2, h3⟩ := port_lanes (n := n) hl hi
  have hq : (s.portOfLane n + i) / 8 = n / 8 := h2
  refine ⟨by omega, ?_⟩
  rw [State.portOfLane, hq]
  exact h3

/-- Some of the lanes of a list, none of them DISABLED, have gone to a state. -/
structure LanesTo (c : Nat) (l : List Nat) (s t : State) : Prop where
  flows : LaneFlows s t
  lne : t.lne = s.lne
  others : ∀ m, m < 1024 → m ∉ l → LaneKept m s t
  disabled : ∀ m, m < 1024 → s.laneState m = 0 → t.laneState m = 0
  states : ∀ m, m < 1024 → t.laneState m = s.laneState m ∨ t.laneState m = c ∧ s.laneState m ≠ 0
  counts : ∀ id, ¬ portCnt id → t.counter id = s.counter id

namespace LanesTo

variable {c : Nat} {l : List Nat}

theorem refl (hs : StoresCanonical s) (hr : FramesInRange s) : LanesTo c l s s :=
  ⟨.refl hs hr, rfl, fun _ _ _ => .refl, fun _ _ h => h, fun _ _ => .inl rfl, fun _ _ => rfl⟩

theorem goLane (h : LanesTo c l s u) (hl : n ∈ l) (hn : n < 1024) (hc : c < 16) (h0 : u.laneState n ≠ 0) : LanesTo c l s (u.goLane n c) := by
  have e := goLane_entered h.flows.canon h.flows.range hn hc
  refine ⟨h.flows.trans e.flows, e.lne.trans h.lne, fun m hm hml => (h.others m hm hml).trans (e.others m hm fun he => hml (he ▸ hl)),
    fun m hm hz => ?_, fun m hm => ?_, fun id hid => (e.counts id hid).trans (h.counts id hid)⟩
  · by_cases he : m = n
    · subst he
      exact absurd (h.disabled m hm hz) h0
    · exact (e.others m hm he).laneState.trans (h.disabled m hm hz)
  · by_cases he : m = n
    · subst he
      exact .inr ⟨e.state, fun hz => h0 (h.disabled m hm hz)⟩
    · rw [(e.others m hm he).laneState]
      exact h.states m hm

end LanesTo

theorem sleepPort_spec (hs : StoresCanonical s) (hr : FramesInRange s) (hn : n < 1024) :
    LanesTo 1 (s.lanesOf (s.portOfLane n)) s (s.sleepPort (s.portOfLane n)) := by
  refine foldl_keeps (P := LanesTo 1 (s.lanesOf (s.portOfLane n)) s) _ _ (.refl hs hr) fun u k hk hu => ?_
  split
  · exact hu
  · next h0 => exact hu.goLane hk (lanesOf_port hn hk).1 (by decide) h0

theorem sleepNow_spec (hs : StoresCanonical s) (hr : FramesInRange s) (hn : n < 1024) :
    LanesTo 1 (s.lanesOf (s.portOfLane n)) s (s.sleepNow (s.portOfLane n)) := by
  unfold State.sleepNow
  split
  · exact sleepPort_spec hs hr hn
  · exact .refl hs hr

/-- A port that does not sleep at once leaves its lanes. -/
theorem sleepNow_off (h : s.sleepMode p ≠ 2) : s.sleepNow p = s := if_neg fun hh => h hh.1

/-- The lanes of a port that does not sleep at once stand as they did when another port sleeps. -/
theorem sleepNow_kept (hs : StoresCanonical s) (hr : FramesInRange s) (hn : n < 1024) (hm : m < 1024) (hk : s.sleepMode (s.portOfLane m) ≠ 2) :
    LaneKept m s (s.sleepNow (s.portOfLane n)) := by
  by_cases he : s.portOfLane m = s.portOfLane n
  · rw [← he, sleepNow_off hk]
    exact .refl
  · exact (sleepNow_spec hs hr hn).others m hm fun hmem => he (lanesOf_port hn hmem).2

/-- Lanes sent to WAIT_GROUP. -/
theorem toWait_spec (hs : StoresCanonical s) (hr : FramesInRange s) {l : List Nat} (hl : ∀ n ∈ l, n < 1024) :
    LanesTo 2 l s (s.toWait l) ∧ ∀ n ∈ l, s.laneState n ≠ 0 → (s.toWait l).laneState n = 2 := by
  have hall : LanesTo 2 l s (s.toWait l) := by
    refine foldl_keeps (P := LanesTo 2 l s) _ _ (.refl hs hr) fun u k hk hu => ?_
    split
    · exact hu
    · next h0 => exact hu.goLane hk (hl k hk) (by decide) fun h => h0 (.inl h)
  refine ⟨hall, ?_⟩
  clear hall
  induction l generalizing s with
  | nil => exact fun n hn => nomatch hn
  | cons k l ih =>
    intro n hm h0
    have hk := hl k List.mem_cons_self
    have hstep : LanesTo 2 (k :: l) s (s.toWait [k]) ∧ (s.laneState k ≠ 0 → (s.toWait [k]).laneState k = 2) := by
      unfold State.toWait
      simp only [List.foldl_cons, List.foldl_nil]
      split
      · next h => exact ⟨.refl hs hr, fun h0 => h.resolve_left h0⟩
      · next h => exact ⟨(LanesTo.refl hs hr).goLane List.mem_cons_self hk (by decide) fun hz => h (.inl hz), fun _ => (goLane_entered hs hr hk (by decide)).state⟩
    have he : s.toWait (k :: l) = (s.toWait [k]).toWait l := rfl
    rw [he]
    generalize s.toWait [k] = u at hstep
    obtain ⟨h1, h2⟩ := hstep
    have hl' : ∀ n ∈ l, n < 1024 := fun n h => hl n (List.mem_cons_of_mem _ h)
    have hn := hl n hm
    have hu0 : u.laneState n ≠ 0 := by
      rcases h1.states n hn with h | ⟨h, -⟩
      · rw [h]
        exact h0
      · rw [h]
        decide
    rcases List.mem_cons.mp hm with rfl | hm
    · have hrest : LanesTo 2 l u (u.toWait l) := by
        refine foldl_keeps (P := LanesTo 2 l u) _ _ (.refl h1.flows.canon h1.flows.range) fun u k hk hu => ?_
        split
        · exact hu
        · next h0 => exact hu.goLane hk (hl' k hk) (by decide) fun h => h0 (.inl h)
      rcases hrest.states n hn with h | ⟨h, -⟩
      · exact h.trans (h2 h0)
      · exact h
    · exact ih h1.flows.canon h1.flows.range hl' n hm hu0

end Sys2Proof
end

section
/-! PROOF. Lanes in WAIT_GROUP, and the loop of their block (R123 to R129, R142). -/
namespace Sys2Proof

open Sys2Proof.Machine

set_option Elab.async false

variable {s t u v w : State} {n m p k b x : Nat}

theorem sleepMode_flows (h : LaneFlows s t) (hm : m < 1024) : t.sleepMode (t.portOfLane m) = s.sleepMode (s.portOfLane m) := by
  have hp : s.portOfLane m < 1024 := Nat.lt_of_le_of_lt (portOfLane_le s m) hm
  rw [h.portOfLane]
  exact h.laneCfg hp F.LNE_LANE_CFG_SLEEP

/-! ## Bring-up (R137 to R139, R142) -/

/-- A register of another lane. -/
theorem laneKept_putTaps (hn : n < 1024) (hm : m < 1024) (hne : m ≠ n) (y : Word) : LaneKept m s (s.put (.LNE_LANE_TXFFE n) y) :=
  ⟨get_put_off (r := .LNE_LANE_TXFFE n) (q := .LNE_LANE_STATUS m) (decide_eq_true hn) (decide_eq_true hm) nofun _,
    get_put_off (r := .LNE_LANE_TXFFE n) (q := .LNE_LANE_TXFFE m) (decide_eq_true hn) (decide_eq_true hm) (by simpa using hne.symm) _, rfl⟩

theorem laneKept_putLane (hne : m ≠ n) (y : LaneSt) : LaneKept m s (s.putLane n y) :=
  ⟨rfl, rfl, sgetD_sput_ne _ _ _ _ _ _ (Ne.symm hne)⟩

/-- What a lane's bring-up leaves: the lane is in state `c` with its other bits, the other lanes as they were. -/
structure LaneUp (n c : Nat) (s t : State) : Prop where
  flows : LaneFlows s t
  state : t.laneState n = c
  lasting : ∀ f, Lasting f → t.fld (.LNE_LANE_STATUS n) f = s.fld (.LNE_LANE_STATUS n) f
  others : ∀ m, m < 1024 → m ≠ n → LaneKept m s t

namespace LaneUp

variable {c : Nat}

theorem putTaps (h : LaneUp n c s u) (hn : n < 1024) (y : Word) : LaneUp n c s (u.put (.LNE_LANE_TXFFE n) y) := by
  have hst : (u.put (.LNE_LANE_TXFFE n) y).get (.LNE_LANE_STATUS n) = u.get (.LNE_LANE_STATUS n) :=
    get_put_off (r := .LNE_LANE_TXFFE n) (q := .LNE_LANE_STATUS n) (decide_eq_true hn) (decide_eq_true hn) nofun _
  exact ⟨h.flows.putTaps hn _, (congrArg F.LNE_LANE_STATUS_STATE.get hst).trans h.state, fun f hf => (congrArg f.get hst).trans (h.lasting f hf),
    fun m hm hne => (h.others m hm hne).trans (laneKept_putTaps hn hm hne _)⟩

theorem putLane (h : LaneUp n c s u) (y : LaneSt) : LaneUp n c s (u.putLane n y) :=
  ⟨h.flows.putLane n y, h.state, h.lasting, fun m hm hne => (h.others m hm hne).trans (laneKept_putLane hne y)⟩

theorem countAttempt (h : LaneUp n c s u) (hn : n < 1024) : LaneUp n c s (u.count (C.trainAttempts n)) :=
  ⟨h.flows.countAttempt hn, h.state, h.lasting, fun m hm hne => (h.others m hm hne).trans ⟨rfl, rfl, rfl⟩⟩

theorem ask (h : LaneUp n c s u) (req : CoeffReq) (i : Nat) : LaneUp n c s (u.ask n req i) :=
  have h' := h.putLane { u.lane n with asked := some (req, i) }
  ⟨h'.flows.emit _, h'.state, h'.lasting, fun m hm hne => (h'.others m hm hne).trans ⟨rfl, rfl, rfl⟩⟩

end LaneUp

theorem LaneEntered.laneUp {c : Nat} (h : LaneEntered n c s t) : LaneUp n c s t := ⟨h.flows, h.state, h.lasting, h.others⟩

theorem loadTaps_spec {c : Nat} (h : LaneUp n c s u) (hn : n < 1024) :
    LaneUp n c s (u.loadTaps n) ∧ (s.laneCfg n F.LNE_LANE_CFG_TRAIN_EN = 0 → (u.loadTaps n).get (.LNE_LANE_TXFFE n) = s.get (.LNE_LANE_TXFFE_SET n)) := by
  have hset : u.get (.LNE_LANE_TXFFE_SET n) = s.get (.LNE_LANE_TXFFE_SET n) := h.flows.get (decide_eq_true hn) nofun
  have hcfg := h.flows.laneCfg hn F.LNE_LANE_CFG_TRAIN_EN
  unfold State.loadTaps
  split
  · exact ⟨h.putTaps hn _, fun _ => (State.get_put_self _ _ _ h.flows.canon.regs).trans hset⟩
  · next h0 => exact ⟨h, fun hz => absurd (hcfg.trans hz) h0⟩

theorem trainAttempts_not_port {id : Nat} (h : portCnt id) : ∀ n < 1024, id ≠ C.trainAttempts n := by
  rintro n hn rfl
  rcases h with ((h | h | ⟨r, hr, h⟩) | ⟨r, hr, h | h | h⟩) | ⟨r, hr, h⟩ <;>
    simp only [C.trainAttempts, C.ladderYield, C.txFrames, C.prtTxStomped, C.flushed, C.stale, C.portDown, C.page] at h <;> omega

/-- An attempt as it starts, before precoding is asked for. -/
def trainStarted (s : State) (n : Nat) : State :=
  let v := (s.goLane n 4).count (C.trainAttempts n)
  (v.putLane n { v.lane n with precode := false, asked := none }).put (.LNE_LANE_TXFFE n) (F.LNE_LANE_TXFFE_C0.set 0#32 64)

theorem enterTrain_eq (s : State) (n : Nat) : s.enterTrain n =
    if (trainStarted s n).fld .LNE_TRAIN_CFG F.LNE_TRAIN_CFG_PRECODE = 1 then (trainStarted s n).ask n (.precode true) 0 else trainStarted s n := rfl

theorem trainStarted_spec (hs : StoresCanonical s) (hr : FramesInRange s) (hn : n < 1024) :
    LaneUp n 4 s (trainStarted s n) ∧ CountedOnce (C.trainAttempts n) s (trainStarted s n) ∧
      (trainStarted s n).get (.LNE_LANE_TXFFE n) = F.LNE_LANE_TXFFE_C0.set 0#32 64 := by
  have e := goLane_entered hs hr hn (c := 4) (by decide)
  have h1 := (e.laneUp.countAttempt hn).putLane { ((s.goLane n 4).count (C.trainAttempts n)).lane n with precode := false, asked := none }
  refine ⟨h1.putTaps hn _, ?_, State.get_put_self _ _ _ h1.flows.canon.regs⟩
  have h := countedOnce_any (s.goLane n 4) (C.trainAttempts n)
  unfold CountedOnce at h
  rw [e.counts _ fun h => trainAttempts_not_port h n hn rfl] at h
  exact .of_counter (v := (s.goLane n 4).count (C.trainAttempts n)) h rfl

/-- An attempt starts from preset 1. -/
theorem enterTrain_spec (hs : StoresCanonical s) (hr : FramesInRange s) (hn : n < 1024) :
    LaneUp n 4 s (s.enterTrain n) ∧ CountedOnce (C.trainAttempts n) s (s.enterTrain n) ∧
      (s.enterTrain n).get (.LNE_LANE_TXFFE n) = F.LNE_LANE_TXFFE_C0.set 0#32 64 := by
  obtain ⟨h1, h2, h3⟩ := trainStarted_spec hs hr hn
  rw [enterTrain_eq]
  generalize trainStarted s n = g at h1 h2 h3
  split
  · exact ⟨h1.ask _ _, .of_counter h2 rfl, h3⟩
  · exact ⟨h1, h2, h3⟩

theorem bringUp_spec (hs : StoresCanonical s) (hr : FramesInRange s) (hn : n < 1024) :
    LaneUp n (if s.laneCfg n F.LNE_LANE_CFG_TRAIN_EN = 1 then 4 else 5) s (s.bringUp n) := by
  unfold State.bringUp
  split
  · exact (enterTrain_spec hs hr hn).1
  · exact (loadTaps_spec (goLane_entered hs hr hn (by decide)).laneUp hn).1

/-! ## WAIT_GROUP (R142) -/

/-- What a lane in WAIT_GROUP does, its port's sleep judged. -/
def waitRow (s : State) (n : Nat) : State :=
  if s.laneState n = 2 ∧ s.grpState (n / 8) = 4 ∧ s.wornanUp (n / 128) then
    if s.laneCfg n F.LNE_LANE_CFG_PATTERN ≠ 0 ∨ s.laneCfg n F.LNE_LANE_CFG_LOOPBACK = 1 then (s.goLane n 8).loadTaps n
    else if (s.lane n).wake then (s.goLane n 3).loadTaps n
    else s.bringUp n
  else s

theorem leaveWait_eq (s : State) (n : Nat) : s.leaveWait n = waitRow (s.sleepNow (s.portOfLane n)) n := rfl

theorem waitRow_spec (hs : StoresCanonical s) (hr : FramesInRange s) (hn : n < 1024) :
    LaneFlows s (waitRow s n) ∧ ∀ m, m < 1024 → m ≠ n → LaneKept m s (waitRow s n) := by
  have key {c : Nat} {t : State} (h : LaneUp n c s t) : LaneFlows s t ∧ ∀ m, m < 1024 → m ≠ n → LaneKept m s t := ⟨h.flows, h.others⟩
  unfold waitRow
  split
  · split
    · exact key (loadTaps_spec (goLane_entered hs hr hn (by decide)).laneUp hn).1
    · split
      · exact key (loadTaps_spec (goLane_entered hs hr hn (by decide)).laneUp hn).1
      · exact key (bringUp_spec hs hr hn)
  · exact ⟨.refl hs hr, fun _ _ _ => .refl⟩

theorem waitRow_off (h : s.laneState n ≠ 2 ∨ s.grpState (n / 8) ≠ 4) : waitRow s n = s :=
  if_neg fun hh => h.elim (fun a => a hh.1) fun a => a hh.2.1

/-- A waiting lane of a locked group trains, where nothing else is asked of it. -/
theorem waitRow_trains (hs : StoresCanonical s) (hr : FramesInRange s) (hn : n < 1024) (h2 : s.laneState n = 2) (hg : s.grpState (n / 8) = 4)
    (hw : s.wornanUp (n / 128) = true) (hp : s.laneCfg n F.LNE_LANE_CFG_PATTERN = 0) (hl : s.laneCfg n F.LNE_LANE_CFG_LOOPBACK = 0)
    (ht : s.laneCfg n F.LNE_LANE_CFG_TRAIN_EN = 1) (hk : (s.lane n).wake = false) : (waitRow s n).laneState n = 4 := by
  have he : waitRow s n = s.bringUp n := (if_pos ⟨h2, hg, hw⟩).trans ((if_neg (by simp [hp, hl])).trans (if_neg (by simp [hk])))
  have h := (bringUp_spec hs hr hn).state
  rw [if_pos ht] at h
  rw [he]
  exact h

theorem leaveWait_flows (hs : StoresCanonical s) (hr : FramesInRange s) (hn : n < 1024) : LaneFlows s (s.leaveWait n) := by
  have h := sleepNow_spec hs hr hn
  rw [leaveWait_eq]
  exact h.flows.trans (waitRow_spec h.flows.canon h.flows.range hn).1

/-- A lane of a port that does not sleep at once stands as it did, unless it is the lane itself, waiting in a locked group. -/
theorem leaveWait_kept (hs : StoresCanonical s) (hr : FramesInRange s) (hn : n < 1024) (hm : m < 1024) (hk : s.sleepMode (s.portOfLane m) ≠ 2)
    (h : m ≠ n ∨ s.laneState m ≠ 2 ∨ s.grpState (m / 8) ≠ 4) : LaneKept m s (s.leaveWait n) := by
  have h1 := sleepNow_spec hs hr hn
  have h2 := sleepNow_kept hs hr hn hm hk
  rw [leaveWait_eq]
  refine h2.trans ?_
  by_cases he : m = n
  · subst he
    rw [waitRow_off ((h.resolve_left fun a => a rfl).imp (fun a => by rw [h2.laneState]; exact a)
      fun a e => a ((h1.flows.grp (by omega) F.LNE_GRP_STATUS_STATE).symm.trans e))]
    exact .refl
  · exact (waitRow_spec h1.flows.canon h1.flows.range hn).2 m hm he

/-- Without a locked group its lanes sleep or wait. -/
theorem leaveWait_unlocked (hs : StoresCanonical s) (hr : FramesInRange s) (hn : n < 1024) (hg : s.grpState (n / 8) ≠ 4) :
    LanesTo 1 (s.lanesOf (s.portOfLane n)) s (s.leaveWait n) := by
  have h := sleepNow_spec hs hr hn
  rw [leaveWait_eq, waitRow_off (.inr ?_)]
  · exact h
  · exact fun e => hg ((h.flows.grp (by omega) F.LNE_GRP_STATUS_STATE).symm.trans e)

/-! ## The lanes of a block -/

theorem mem_blockLanes : n ∈ blockLanes b ↔ n / 8 = b := by
  simp only [blockLanes, List.mem_map, List.mem_range]
  constructor
  · rintro ⟨i, hi, rfl⟩
    omega
  · intro h
    exact ⟨n - 8 * b, by omega, by omega⟩

/-- Every lane of a block judged in WAIT_GROUP. -/
def blockWaits (s : State) (b : Nat) : State := (blockLanes b).foldl State.leaveWait s

theorem leaveWaits_flows (hs : StoresCanonical s) (hr : FramesInRange s) {l : List Nat} (hl : ∀ n ∈ l, n < 1024) : LaneFlows s (l.foldl State.leaveWait s) :=
  foldl_keeps (P := LaneFlows s) _ _ (.refl hs hr) fun _ n hm hv => hv.trans (leaveWait_flows hv.canon hv.range (hl n hm))

theorem leaveWaits_kept (hs : StoresCanonical s) (hr : FramesInRange s) {l : List Nat} (hl : ∀ n ∈ l, n < 1024) (hm : m < 1024)
    (hk : s.sleepMode (s.portOfLane m) ≠ 2) (h : m ∉ l ∨ s.laneState m ≠ 2 ∨ s.grpState (m / 8) ≠ 4) : LaneKept m s (l.foldl State.leaveWait s) := by
  refine (foldl_keeps (P := fun v => LaneFlows s v ∧ LaneKept m s v) _ _ ⟨.refl hs hr, .refl⟩ fun v n hn ⟨hf, hv⟩ => ?_).2
  refine ⟨hf.trans (leaveWait_flows hf.canon hf.range (hl n hn)), hv.trans (leaveWait_kept hf.canon hf.range (hl n hn) hm ?_ ?_)⟩
  · rw [sleepMode_flows hf hm]
    exact hk
  · refine h.imp (fun a e => a (e ▸ hn)) fun a => a.imp (fun a => by rw [hv.laneState]; exact a) fun a e => ?_
    exact a ((hf.grp (by omega) F.LNE_GRP_STATUS_STATE).symm.trans e)

theorem blockLanes_lt (hb : b < 128) : ∀ n ∈ blockLanes b, n < 1024 := fun n hn => by
  have := mem_blockLanes.mp hn
  omega

end Sys2Proof
end

section
/-! PROOF. The loop of a lane group: the band sweep, lock and its loss (R123 to R134). -/
namespace Sys2Proof

open Sys2Proof.Machine

set_option Elab.async false

variable {s t u v w : State} {n m p k b x : Nat}

/-! ## Bands (R123) -/

theorem mem_spiral_lt {g : Nat} (h : k ∈ spiral g) : k < 256 := of_decide_eq_true (List.mem_filter.mp h).2

theorem spiral_head {g : Nat} (hg : g < 256) : ∃ rest, spiral g = g :: rest := by
  have hf : [g].filter (· < 256) = [g] := List.filter_cons_of_pos (by simpa using hg)
  unfold spiral
  rw [List.range_succ_eq_map, List.flatMap_cons, if_pos rfl, List.filter_append, hf]
  exact ⟨_, rfl⟩

theorem nextBand_lt (h : s.nextBand b = some k) : k < 256 := mem_spiral_lt (List.mem_of_find?_eq_some h)

/-- A new acquisition checks the good band first. -/
theorem nextBand_fresh (h : (s.loop b).checked = []) : s.nextBand b = some (s.grp b F.LNE_GRP_STATUS_GOOD_BAND) := by
  obtain ⟨rest, hr⟩ := spiral_head (g := s.grp b F.LNE_GRP_STATUS_GOOD_BAND) (Fld.get_lt ..)
  rw [State.nextBand, hr, h]
  rfl

theorem nextBand_of (hg : t.grp b F.LNE_GRP_STATUS_GOOD_BAND = s.grp b F.LNE_GRP_STATUS_GOOD_BAND) (hl : t.loop b = s.loop b) :
    t.nextBand b = s.nextBand b := by
  rw [State.nextBand, hg, hl, State.nextBand]

/-! ## The status of a group -/

theorem setGrp_self (hs : StoresCanonical s) {f : Fld} {y : Nat} (hf : f.lo + f.w ≤ 32) (hy : y < 2 ^ f.w) : (s.setGrp b f y).grp b f = y :=
  fld_setFld_lt hs.regs hf hy

theorem setGrp_beside (hs : StoresCanonical s) {f g : Fld} {y : Nat} (ha : f.apart g = true) (hg : g.lo + g.w ≤ 32) :
    (s.setGrp b f y).grp b g = s.grp b g := fld_setFld_beside hs.regs ha hg

theorem setGrp_writes (s : State) (b : Nat) (f : Fld) (y : Nat) : Writes [.LNE_GRP_STATUS b] [] s (s.setGrp b f y) :=
  Writes.refl.setFld (List.mem_singleton_self _) _ _

theorem Writes.trans {rs : List Reg} {ids : List Nat} (h : Writes rs ids s u) (h' : Writes rs ids u t) : Writes rs ids s t := by
  refine ⟨?_, fun q hq => ?_, fun id hid => (h'.cnts id hid).trans (h.cnts id hid)⟩
  · rw [h'.rest, h.rest]
  · exact ⟨(h'.regs q hq).1.trans (h.regs q hq).1, (h'.regs q hq).2.trans (h.regs q hq).2⟩

/-- A failed group: no lock is raised. -/
structure GroupFailed (b : Nat) (s t : State) : Prop where
  signals : Signals [.LNE_GRP_STATUS b, .STW_BOOT_STATUS] [] s t
  state : t.grpState b = 5
  others : ∀ f : Fld, F.LNE_GRP_STATUS_STATE.apart f = true → f.lo + f.w ≤ 32 → t.grp b f = s.grp b f
  counted : CountedOnce (C.events Ev.pllNoLock) s t
  raised : t.raised Ev.pllNoLock b = true

theorem grpFail_spec (hs : StoresCanonical s) (hb : b < 128) : GroupFailed b s (s.grpFail b) := by
  have hi : (Reg.LNE_GRP_STATUS b).indexOk = true := decide_eq_true hb
  have h1 : StoresCanonical (s.setGrpState b 5) := hs.setFld _ _ _
  have hsig : Signals [.LNE_GRP_STATUS b, .STW_BOOT_STATUS] [] s (s.setGrpState b 5) := Signals.refl.setFld (by simp) _ _
  have hev : Signals [] [] (s.setGrpState b 5) ((s.setGrpState b 5).event Ev.pllNoLock b 0) := Signals.refl.event (by decide) _ _
  have hget (f : Fld) : ((s.setGrpState b 5).event Ev.pllNoLock b 0).grp b f = (s.setGrpState b 5).grp b f :=
    hev.fld (not_signalAddr hi nofun nofun nofun) nofun f
  have hc : CountedOnce (C.events Ev.pllNoLock) s ((s.setGrpState b 5).event Ev.pllNoLock b 0) := event_countedOnce h1 ..
  have hr : ((s.setGrpState b 5).event Ev.pllNoLock b 0).raised Ev.pllNoLock b = true := by
    rw [raised_iff, event_raised]
    exact occurred_raised (by decide)
  have hx := hsig.event (code := Ev.pllNoLock) (by decide) b 0
  unfold State.grpFail
  generalize (s.setGrpState b 5).event Ev.pllNoLock b 0 = a at *
  have h5 : a.grpState b = 5 := (hget _).trans (fld_setFld_lt hs.regs (by decide) (by decide))
  have ho (f : Fld) (h1 : F.LNE_GRP_STATUS_STATE.apart f = true) (h2 : f.lo + f.w ≤ 32) : a.grp b f = s.grp b f :=
    (hget f).trans (fld_setFld_beside hs.regs h1 h2)
  dsimp only
  split
  · have hoff (f : Fld) : a.degrade.grp b f = a.grp b f := fld_setFld_off rfl hi nofun
    exact ⟨hx.setFld (by simp) _ _, (hoff _).trans h5, fun f h1 h2 => (hoff f).trans (ho f h1 h2), .of_counter hc rfl, hr⟩
  · exact ⟨hx, h5, ho, hc, hr⟩

/-- The band checked next. -/
structure GroupSweeps (b k : Nat) (s t : State) : Prop where
  writes : Writes [.LNE_GRP_STATUS b] [] s t
  state : t.grpState b = 1
  band : t.grp b F.LNE_GRP_STATUS_BAND = k
  others : ∀ f : Fld, F.LNE_GRP_STATUS_STATE.apart f = true → F.LNE_GRP_STATUS_BAND.apart f = true → f.lo + f.w ≤ 32 → t.grp b f = s.grp b f

theorem sweep_next (hs : StoresCanonical s) (h : s.nextBand b = some k) : GroupSweeps b k s (s.sweep b) := by
  have he : s.sweep b = (s.setGrpState b 1).setGrp b F.LNE_GRP_STATUS_BAND k := by
    rw [State.sweep, h]
  have h1 : StoresCanonical (s.setGrpState b 1) := hs.setFld _ _ _
  rw [he]
  refine ⟨(setGrp_writes s b _ 1).trans (setGrp_writes _ b _ k), ?_, setGrp_self h1 (by decide) (nextBand_lt h), fun f ha hb hf => ?_⟩
  · exact (setGrp_beside h1 (f := F.LNE_GRP_STATUS_BAND) (g := F.LNE_GRP_STATUS_STATE) (by decide) (by decide)).trans (setGrp_self hs (by decide) (by decide))
  · exact (setGrp_beside h1 hb hf).trans (setGrp_beside hs ha hf)

theorem sweep_none (hs : StoresCanonical s) (hb : b < 128) (h : s.nextBand b = none) : GroupFailed b s (s.sweep b) := by
  have he : s.sweep b = s.grpFail b := by
    rw [State.sweep, h]
  rw [he]
  exact grpFail_spec hs hb

/-- The loop as a new acquisition begins. -/
def acquiring (s : State) (b : Nat) : State :=
  (s.putLoop b ⟨[], s.fld (.LNE_GRP_PLL_CFG b) F.LNE_GRP_PLL_CFG_LOCK_WIN, s.fld (.LNE_GRP_PLL_CFG b) F.LNE_GRP_PLL_CFG_ATTEMPTS⟩).setGrp b F.LNE_GRP_STATUS_ATTEMPT 1

theorem acquire_eq (s : State) (b : Nat) : s.acquire b = (acquiring s b).sweep b := rfl

theorem acquire_spec (hs : StoresCanonical s) (hk : skeysFrom none s.lne.loops = true) (b : Nat) :
    let t := s.acquire b
    t.grpState b = 1 ∧ t.grp b F.LNE_GRP_STATUS_BAND = s.grp b F.LNE_GRP_STATUS_GOOD_BAND ∧ t.grp b F.LNE_GRP_STATUS_ATTEMPT = 1 ∧
      t.grp b F.LNE_GRP_STATUS_LOL_SEEN = s.grp b F.LNE_GRP_STATUS_LOL_SEEN ∧
      t.lne = { s.lne with loops := t.lne.loops } ∧ Writes [.LNE_GRP_STATUS b] [] { s with lne := t.lne } t := by
  have hs' : StoresCanonical (acquiring s b) := StoresCanonical.setFld (s := State.putLoop ..) ⟨hs.regs, hs.st0, hs.st1, hs.cnt, hs.frames, hs.reps, hs.sessions⟩ _ _ _
  have hloop : ((acquiring s b).loop b).checked = [] := congrArg Loop.checked (sgetD_sput_self freshLoop _ _ _ hk)
  have hgrp (f : Fld) (ha : F.LNE_GRP_STATUS_ATTEMPT.apart f = true) (hf : f.lo + f.w ≤ 32) : (acquiring s b).grp b f = s.grp b f :=
    fld_setFld_beside (s := State.putLoop ..) hs.regs ha hf
  have hatt : (acquiring s b).grp b F.LNE_GRP_STATUS_ATTEMPT = 1 := fld_setFld_lt (s := State.putLoop ..) hs.regs (by decide) (by decide)
  have hgood := hgrp F.LNE_GRP_STATUS_GOOD_BAND (by decide) (by decide)
  have h := sweep_next hs' (nextBand_fresh hloop)
  have hlne : ((acquiring s b).sweep b).lne = (acquiring s b).lne := (congrArg State.lne h.writes.rest).trans rfl
  have hw : Writes [.LNE_GRP_STATUS b] [] { s with lne := (acquiring s b).lne } (acquiring s b) := Writes.refl.setFld (List.mem_singleton_self _) _ _
  have hlol := hgrp F.LNE_GRP_STATUS_LOL_SEEN (by decide) (by decide)
  have hl : (acquiring s b).lne = { s.lne with loops := (acquiring s b).lne.loops } := rfl
  intro t
  have ht : t = (acquiring s b).sweep b := acquire_eq s b
  rw [ht]
  generalize acquiring s b = a at *
  refine ⟨h.state, h.band.trans hgood, (h.others _ (by decide) (by decide) (by decide)).trans hatt,
    (h.others _ (by decide) (by decide) (by decide)).trans hlol, by rw [hlne]; exact hl, ?_⟩
  rw [hlne]
  exact hw.trans h.writes

/-! ## Changes of a group beside its lanes -/

/-- Nothing that lanes read changes but the registers `rs`. -/
structure Steady (rs : List Reg) (ids : List Nat) (s t : State) : Prop where
  signals : Signals rs ids { s with lne := t.lne } t
  lanes : t.lne.lanes = s.lne.lanes

namespace Steady

variable {rs : List Reg} {ids : List Nat}

theorem of_signals (h : Signals rs ids s t) : Steady rs ids s t := by
  have hl : t.lne = s.lne := (congrArg State.lne h.rest).trans rfl
  refine ⟨?_, by rw [hl]⟩
  rw [hl]
  exact h

theorem get (h : Steady rs ids s t) {q : Reg} (hq : q.indexOk = true) (h1 : q ≠ .HLT_LOG_HEAD) (h2 : ∀ j k, q ≠ .HLT_LOG j k)
    (h3 : ∀ i, q ≠ .HST_IRQ_SRC i) (hne : ∀ r ∈ rs, q.addr ≠ r.addr) : t.get q = s.get q :=
  (h.signals.regs q (not_signalAddr hq h1 h2 h3) hne).1

theorem cFld (h : Steady rs ids s t) (hne : ∀ r ∈ rs, Reg.STW_EPOCH_STATUS.addr ≠ r.addr) (r : Reg) (f : Fld) : t.cFld r f = s.cFld r f := by
  have hsel : t.curSel = s.curSel := congrArg F.STW_EPOCH_STATUS_SELECTOR.get (h.get (q := .STW_EPOCH_STATUS) rfl nofun nofun nofun hne)
  have h0 : t.st0 = s.st0 := (congrArg State.st0 h.signals.rest).trans rfl
  have h1 : t.st1 = s.st1 := (congrArg State.st1 h.signals.rest).trans rfl
  unfold State.cFld State.stFld State.stGet State.bank
  rw [hsel, h0, h1]

theorem blkLanes (h : Steady rs ids s t) (hne : ∀ r ∈ rs, Reg.STW_EPOCH_STATUS.addr ≠ r.addr) (b : Nat) : t.blkLanes b = s.blkLanes b := by
  rw [State.blkLanes, h.cFld hne, State.blkLanes]

theorem portOfLane (h : Steady rs ids s t) (hne : ∀ r ∈ rs, Reg.STW_EPOCH_STATUS.addr ≠ r.addr) (n : Nat) : t.portOfLane n = s.portOfLane n := by
  rw [State.portOfLane, h.blkLanes hne, State.portOfLane]

end Steady

/-- The registers that a group's loop writes when it fails or starts. -/
abbrev groupRegs (b : Nat) : List Reg := [.LNE_GRP_STATUS b, .STW_BOOT_STATUS]

theorem ne_groupRegs (hb : b < 128) {q : Reg} (hq : q.indexOk = true) (h1 : q ≠ .LNE_GRP_STATUS b) (h2 : q ≠ .STW_BOOT_STATUS) :
    ∀ r ∈ groupRegs b, q.addr ≠ r.addr := by
  intro r hr
  rcases List.mem_cons.mp hr with rfl | hr
  · exact addr_ne hq (decide_eq_true hb) h1
  · rw [List.mem_singleton.mp hr]
    exact addr_ne hq rfl h2

theorem ne_grpStatus (hb : b < 128) {q : Reg} (hq : q.indexOk = true) (h1 : q ≠ .LNE_GRP_STATUS b) :
    ∀ r ∈ [Reg.LNE_GRP_STATUS b], q.addr ≠ r.addr := fun r hr => by
  rw [List.mem_singleton.mp hr]
  exact addr_ne hq (decide_eq_true hb) h1

/-! ## The settling of a block (R127) -/

/-- The loop of a block, its lanes in WAIT_GROUP judged. -/
def blockSettled (s : State) (b : Nat) : State :=
  if !s.grpEn b ∨ (blockLanes b).all (fun n => s.laneState n ≤ 1) then (if s.grpState b = 0 then s else s.setGrpState b 0)
  else if s.grpState b = 0 ∧ (blockLanes b).any (fun n => s.laneState n == 2) then s.acquire b
  else s

theorem settleBlock_eq (s : State) (b : Nat) :
    s.settleBlock b = if s.bootStep < 7 ∨ 0xA < s.bootStep then s else blockSettled (blockWaits s b) b := rfl

/-- A group whose loop runs goes on, or goes OFF with its lanes asleep. -/
structure LoopRuns (b : Nat) (s t : State) : Prop where
  off : 7 ≤ s.bootStep → s.bootStep ≤ 0xA → (s.grpEn b = false ∨ ∀ n ∈ blockLanes b, t.laneState n ≤ 1) → t.grpState b = 0
  on : ¬ (7 ≤ s.bootStep ∧ s.bootStep ≤ 0xA ∧ (s.grpEn b = false ∨ ∀ n ∈ blockLanes b, t.laneState n ≤ 1)) → t.grpState b = s.grpState b
  others : ∀ f : Fld, F.LNE_GRP_STATUS_STATE.apart f = true → f.lo + f.w ≤ 32 → t.grp b f = s.grp b f
  hlt : t.hlt = s.hlt
  counts : ∀ id, ¬ laneCnt id → t.counter id = s.counter id
  idle : ¬ (7 ≤ s.bootStep ∧ s.bootStep ≤ 0xA) → t = s
  lanes : 7 ≤ s.bootStep → s.bootStep ≤ 0xA → ∀ n, n < 1024 → t.laneState n = (blockWaits s b).laneState n

theorem settleBlock_runs (hs : StoresCanonical s) (hr : FramesInRange s) (hb : b < 128) (hg : s.grpState b ≠ 0) : LoopRuns b s (s.settleBlock b) := by
  have hi : (Reg.LNE_GRP_STATUS b).indexOk = true := decide_eq_true hb
  rw [settleBlock_eq]
  split
  · next hstep =>
    exact ⟨fun h1 h2 => by omega, fun _ => rfl, fun _ _ _ => rfl, rfl, fun _ _ => rfl, fun _ => rfl, fun h1 h2 => by omega⟩
  · next hstep =>
    have hw : LaneFlows s (blockWaits s b) := leaveWaits_flows hs hr (blockLanes_lt hb)
    have hwg := hw.grp hb
    have hen := hw.grpEn b
    generalize hwd : blockWaits s b = w at *
    have h0 : w.grpState b ≠ 0 := fun e => hg ((hwg _).symm.trans e)
    have hall : (!w.grpEn b ∨ (blockLanes b).all (fun n => w.laneState n ≤ 1)) ↔ s.grpEn b = false ∨ ∀ n ∈ blockLanes b, w.laneState n ≤ 1 := by
      simp [hen]
    have hlane (n : Nat) (hn : n < 1024) : (w.setGrpState b 0).laneState n = w.laneState n :=
      fld_setFld_off (q := .LNE_LANE_STATUS n) hi (decide_eq_true hn) nofun
    have hoff : (s.grpEn b = false ∨ ∀ n ∈ blockLanes b, (w.setGrpState b 0).laneState n ≤ 1) ↔ s.grpEn b = false ∨ ∀ n ∈ blockLanes b, w.laneState n ≤ 1 := by
      refine or_congr_right (forall₂_congr fun n hn => ?_)
      rw [hlane n (blockLanes_lt hb n hn)]
    by_cases hc : s.grpEn b = false ∨ ∀ n ∈ blockLanes b, w.laneState n ≤ 1
    · have he : blockSettled w b = w.setGrpState b 0 := (if_pos (hall.mpr hc)).trans (if_neg h0)
      rw [he]
      exact ⟨fun _ _ _ => setGrp_self hw.canon (by decide) (by decide), fun h => absurd ⟨by omega, by omega, hoff.mpr hc⟩ h,
        fun f ha hf => (setGrp_beside hw.canon ha hf).trans (hwg f), hw.hlt, hw.flows.cnts, fun h => absurd ⟨by omega, by omega⟩ h, fun _ _ n hn => (hlane n hn).trans (by rw [hwd])⟩
    · have he : blockSettled w b = w := (if_neg fun h => hc (hall.mp h)).trans (if_neg fun h => h0 h.1)
      rw [he]
      exact ⟨fun _ _ h => absurd h hc, fun _ => hwg _, fun f _ _ => hwg f, hw.hlt, hw.flows.cnts, fun h => absurd ⟨by omega, by omega⟩ h, fun _ _ _ _ => by rw [hwd]⟩

/-- A waiting lane of a locked group trains when its block settles. -/
theorem blockWaits_trains (hs : StoresCanonical s) (hr : FramesInRange s) (hb : b < 128) (hn : n ∈ blockLanes b) (h2 : s.laneState n = 2) (hg : s.grpState b = 4)
    (hw : s.wornanUp (n / 128) = true) (hp : s.laneCfg n F.LNE_LANE_CFG_PATTERN = 0) (hl : s.laneCfg n F.LNE_LANE_CFG_LOOPBACK = 0)
    (ht : s.laneCfg n F.LNE_LANE_CFG_TRAIN_EN = 1) (hk : (s.lane n).wake = false) (hm : s.sleepMode (s.portOfLane n) ≠ 2) : (blockWaits s b).laneState n = 4 := by
  have hlt := blockLanes_lt hb
  have hn' := hlt n hn
  have hdiv := mem_blockLanes.mp hn
  have hnd : (blockLanes b).Nodup := List.nodup_range.map fun i j (h : 8 * b + i = 8 * b + j) => by omega
  obtain ⟨l1, l2, hsplit⟩ := List.append_of_mem hn
  rw [blockWaits, hsplit, List.foldl_append, List.foldl_cons]
  rw [hsplit] at hlt hnd
  obtain ⟨-, hnd2, hdis⟩ := List.nodup_append.mp hnd
  have h1 : n ∉ l1 := fun h => hdis n h n List.mem_cons_self rfl
  have hn2 : n ∉ l2 := (List.nodup_cons.mp hnd2).1
  have hl1 : ∀ k ∈ l1, k < 1024 := fun k h => hlt k (List.mem_append_left _ h)
  have hl2 : ∀ k ∈ l2, k < 1024 := fun k h => hlt k (List.mem_append_right _ (List.mem_cons_of_mem _ h))
  have f1 := leaveWaits_flows hs hr hl1
  have k1 := leaveWaits_kept hs hr hl1 hn' hm (.inl h1)
  generalize l1.foldl State.leaveWait s = u at f1 k1
  have hmu : u.sleepMode (u.portOfLane n) ≠ 2 := by
    rw [sleepMode_flows f1 hn']
    exact hm
  have hu : u.leaveWait n = waitRow u n := by rw [leaveWait_eq, sleepNow_off hmu]
  have f2 := leaveWait_flows f1.canon f1.range hn'
  have h4 : (u.leaveWait n).laneState n = 4 := by
    rw [hu]
    refine waitRow_trains f1.canon f1.range hn' (k1.laneState.trans h2) ?_ ((f1.wornanUp (by omega)).trans hw) ((f1.laneCfg hn' _).trans hp) ((f1.laneCfg hn' _).trans hl)
      ((f1.laneCfg hn' _).trans ht) (by rw [k1.own]; exact hk)
    rw [hdiv]
    exact (f1.grp hb _).trans hg
  generalize u.leaveWait n = v at f2 h4
  refine (leaveWaits_kept f2.canon f2.range hl2 hn' ?_ (.inl hn2)).laneState.trans h4
  rw [sleepMode_flows f2 hn']
  exact hmu

/-- Without a locked group the lanes of a block keep their state or sleep. -/
theorem blockWaits_unlocked (hs : StoresCanonical s) (hr : FramesInRange s) (hb : b < 128) (hg : s.grpState b ≠ 4) (hm : m < 1024) :
    (blockWaits s b).laneState m = s.laneState m ∨ (blockWaits s b).laneState m = 1 ∧ s.laneState m ≠ 0 := by
  refine (foldl_keeps (P := fun v => LaneFlows s v ∧ (v.laneState m = s.laneState m ∨ v.laneState m = 1 ∧ s.laneState m ≠ 0)) _ _
    ⟨.refl hs hr, .inl rfl⟩ fun v n hn ⟨hf, hv⟩ => ?_).2
  have hl := leaveWait_unlocked hf.canon hf.range (blockLanes_lt hb n hn) (by rw [mem_blockLanes.mp hn]; exact fun e => hg ((hf.grp hb _).symm.trans e))
  refine ⟨hf.trans hl.flows, ?_⟩
  rcases hl.states m hm with h | ⟨h, h0⟩
  · rw [h]
    exact hv
  · refine .inr ⟨h, ?_⟩
    rcases hv with hv | ⟨-, hv⟩
    · rw [← hv]
      exact h0
    · exact hv

end Sys2Proof
end

section
/-! PROOF. What starts, ends and loses a lock of a lane group (R123 to R134). -/
namespace Sys2Proof

open Sys2Proof.Machine

set_option Elab.async false

variable {s t u v w : State} {n m p k b x : Nat}

/-! ## Sweep and attempts -/

theorem bandPasses_iff (count : Nat) : bandPasses count = true ↔ 108692 ≤ count ∧ count ≤ 108908 := by
  unfold bandPasses
  rw [decide_eq_true_eq]
  omega

/-- The band under check joins the ones checked. -/
def bandChecked (s : State) (b : Nat) : State := s.putLoop b { s.loop b with checked := (s.loop b).checked ++ [s.grp b F.LNE_GRP_STATUS_BAND] }

theorem exec_bandCheckEnd (count : Nat) : exec (.bandCheckEnd b count) s =
    .next (if s.grpState b = 1 then (if bandPasses count then (bandChecked s b).setGrpState b 2 else (bandChecked s b).sweep b) else s) := rfl

theorem bandChecked_canonical (hs : StoresCanonical s) (b : Nat) : StoresCanonical (bandChecked s b) :=
  ⟨hs.regs, hs.st0, hs.st1, hs.cnt, hs.frames, hs.reps, hs.sessions⟩

/-- A failed attempt of a group's loop. -/
theorem attemptFail_spec (hs : StoresCanonical s) (hb : b < 128) :
    let a := s.grp b F.LNE_GRP_STATUS_ATTEMPT
    let t := s.attemptFail b
    (a < (s.loop b).attempts → a < 15 → t.grp b F.LNE_GRP_STATUS_ATTEMPT = a + 1 ∧
      (∀ k, s.nextBand b = some k → t.grpState b = 1 ∧ t.grp b F.LNE_GRP_STATUS_BAND = k) ∧ (s.nextBand b = none → t.grpState b = 5)) ∧
    ((s.loop b).attempts ≤ a → t.grpState b = 5 ∧ CountedOnce (C.events Ev.pllNoLock) s t) := by
  intro a t
  refine ⟨fun ha h15 => ?_, fun ha => ?_⟩
  · have ht : t = (s.setGrp b F.LNE_GRP_STATUS_ATTEMPT (a + 1)).sweep b := if_pos ha
    have hv : StoresCanonical (s.setGrp b F.LNE_GRP_STATUS_ATTEMPT (a + 1)) := hs.setFld _ _ _
    have hn : (s.setGrp b F.LNE_GRP_STATUS_ATTEMPT (a + 1)).nextBand b = s.nextBand b :=
      nextBand_of (setGrp_beside hs (f := F.LNE_GRP_STATUS_ATTEMPT) (g := F.LNE_GRP_STATUS_GOOD_BAND) (by decide) (by decide)) rfl
    have hat : (s.setGrp b F.LNE_GRP_STATUS_ATTEMPT (a + 1)).grp b F.LNE_GRP_STATUS_ATTEMPT = a + 1 :=
      setGrp_self hs (by decide) (Nat.succ_lt_succ h15)
    rw [ht]
    generalize s.setGrp b F.LNE_GRP_STATUS_ATTEMPT (a + 1) = v at *
    cases hk : s.nextBand b with
    | some k =>
      have h := sweep_next hv (hn.trans hk)
      exact ⟨(h.others F.LNE_GRP_STATUS_ATTEMPT (by decide) (by decide) (by decide)).trans hat,
        fun k' hk' => by cases hk'; exact ⟨h.state, h.band⟩, nofun⟩
    | none =>
      have h := sweep_none hv hb (hn.trans hk)
      exact ⟨(h.others F.LNE_GRP_STATUS_ATTEMPT (by decide) (by decide)).trans hat, nofun, fun _ => h.state⟩
  · have ht : t = s.grpFail b := if_neg (Nat.not_lt.mpr ha)
    have h := grpFail_spec hs hb
    rw [ht]
    exact ⟨h.state, h.counted⟩

/-! ## Lock (R125, R129) -/

/-- A locked group, its lanes still to be judged. -/
def groupLocked (s : State) (b : Nat) : State :=
  ((s.setGrpState b 4).setGrp b F.LNE_GRP_STATUS_GOOD_BAND (s.grp b F.LNE_GRP_STATUS_BAND)).eventClear Ev.pllNoLock b

theorem exec_alignmentDone : exec (.alignmentDone b) s = .next (if s.grpState b = 3 then (groupLocked s b).settleBlock b else s) := rfl

theorem groupLocked_spec (hs : StoresCanonical s) (hr : FramesInRange s) (hb : b < 128) :
    StoresCanonical (groupLocked s b) ∧ FramesInRange (groupLocked s b) ∧ Steady [.LNE_GRP_STATUS b] [] s (groupLocked s b) ∧ (groupLocked s b).grpState b = 4 ∧
      (groupLocked s b).grp b F.LNE_GRP_STATUS_GOOD_BAND = s.grp b F.LNE_GRP_STATUS_BAND ∧ (groupLocked s b).raised Ev.pllNoLock b = false := by
  have hi : (Reg.LNE_GRP_STATUS b).indexOk = true := decide_eq_true hb
  have h1 : StoresCanonical (s.setGrpState b 4) := hs.setFld _ _ _
  let a := (s.setGrpState b 4).setGrp b F.LNE_GRP_STATUS_GOOD_BAND (s.grp b F.LNE_GRP_STATUS_BAND)
  have hgood : a.grp b F.LNE_GRP_STATUS_GOOD_BAND = s.grp b F.LNE_GRP_STATUS_BAND := setGrp_self h1 (by decide) (Fld.get_lt ..)
  have hst : a.grpState b = 4 := (setGrp_beside h1 (f := F.LNE_GRP_STATUS_GOOD_BAND) (g := F.LNE_GRP_STATUS_STATE) (by decide) (by decide)).trans
    (setGrp_self hs (by decide) (by decide))
  have hsig : Signals [.LNE_GRP_STATUS b] [] s a := ((setGrp_writes s b _ 4).trans (setGrp_writes _ b _ _)).signals
  have hev : Evolves s a := (Evolves.refl.setGrpState b 4).setGrp ..
  have ht : groupLocked s b = a.eventClear Ev.pllNoLock b := rfl
  have hclear : Signals [] [] a (a.eventClear Ev.pllNoLock b) := Signals.refl.eventClear _ _
  have hget (f : Fld) : (a.eventClear Ev.pllNoLock b).grp b f = a.grp b f := hclear.fld (not_signalAddr hi nofun nofun nofun) nofun f
  rw [ht]
  refine ⟨(hev.eventClear ..).stores hs, (hev.eventClear ..).range hr, .of_signals (hsig.eventClear _ _), (hget _).trans hst, (hget _).trans hgood, ?_⟩
  rw [raised_eventClear]
  simp

/-! ## Loss of lock (R126, R134) -/

/-- The lanes of a group that has lost its lock wait. -/
def lockLost (s : State) (b : Nat) : State := (s.setGrp b F.LNE_GRP_STATUS_LOL_SEEN 1).toWait (blockLanes b)

/-- The loss is noted. -/
def lolNoted (s : State) (b : Nat) : State := ((lockLost s b).count (C.grpLol b)).event Ev.pllLoss b 0

theorem exec_lossOfLock (cause : LolCause) : exec (.lossOfLock b cause) s =
    .next (if s.grpState b = 4 && s.lolHolds b cause then ((lolNoted s b).acquire b).settleBlock b else s) := rfl

theorem grpLol_not_lane (hb : b < 128) : ¬ laneCnt (C.grpLol b) ∧ ¬ laneCnt (C.events Ev.pllLoss) := by
  have h {id : Nat} (h1 : 0x100 ≤ id) (h2 : id < 0x400) : ¬ laneCnt id := by
    rintro ((((h | h | ⟨r, hr, h⟩) | ⟨r, hr, h | h | h⟩) | ⟨r, hr, h⟩) | ⟨r, hr, h⟩) <;>
      simp only [C.trainAttempts, C.ladderYield, C.txFrames, C.prtTxStomped, C.flushed, C.stale, C.portDown, C.page] at h <;> omega
  exact ⟨h (by unfold C.grpLol; omega) (by unfold C.grpLol; omega), h (by decide) (by decide)⟩

theorem lockLost_spec (hs : StoresCanonical s) (hr : FramesInRange s) (hb : b < 128) :
    LanesTo 2 (blockLanes b) (s.setGrp b F.LNE_GRP_STATUS_LOL_SEEN 1) (lockLost s b) ∧
      ∀ n ∈ blockLanes b, (s.laneState n = 0 → (lockLost s b).laneState n = 0) ∧ (s.laneState n ≠ 0 → (lockLost s b).laneState n = 2) := by
  have hev : Evolves s (s.setGrp b F.LNE_GRP_STATUS_LOL_SEEN 1) := Evolves.refl.setGrp ..
  obtain ⟨h1, h2⟩ := toWait_spec (hev.stores hs) (hev.range hr) (blockLanes_lt hb)
  have hlane (n : Nat) (hn : n ∈ blockLanes b) : (s.setGrp b F.LNE_GRP_STATUS_LOL_SEEN 1).laneState n = s.laneState n :=
    fld_setFld_off (r := .LNE_GRP_STATUS b) (q := .LNE_LANE_STATUS n) (decide_eq_true hb) (decide_eq_true (blockLanes_lt hb n hn)) nofun
  exact ⟨h1, fun n hn => ⟨fun h0 => h1.disabled n (blockLanes_lt hb n hn) ((hlane n hn).trans h0), fun h0 => h2 n hn (by rw [hlane n hn]; exact h0)⟩⟩

/-- The start of a new acquisition after a loss of lock. -/
structure LockGone (b : Nat) (s t : State) : Prop where
  canon : StoresCanonical t
  range : FramesInRange t
  state : t.grpState b = 1
  seen : t.grp b F.LNE_GRP_STATUS_LOL_SEEN = 1
  band : t.grp b F.LNE_GRP_STATUS_BAND = s.grp b F.LNE_GRP_STATUS_GOOD_BAND
  attempt : t.grp b F.LNE_GRP_STATUS_ATTEMPT = 1
  lol : CountedOnce (C.grpLol b) s t
  loss : CountedOnce (C.events Ev.pllLoss) s t
  lanes : ∀ n ∈ blockLanes b, (s.laneState n = 0 → t.laneState n = 0) ∧ (s.laneState n ≠ 0 → t.laneState n = 2)
  step : t.bootStep = s.bootStep
  en : t.grpEn b = s.grpEn b

theorem reacquired_spec (hs : StoresCanonical s) (hr : FramesInRange s) (hb : b < 128) (hk : skeysFrom none s.lne.loops = true) :
    LockGone b s ((lolNoted s b).acquire b) := by
  have hi : (Reg.LNE_GRP_STATUS b).indexOk = true := decide_eq_true hb
  have hne {q : Reg} := ne_grpStatus hb (q := q)
  -- LOL_SEEN, then the lanes
  let a := s.setGrp b F.LNE_GRP_STATUS_LOL_SEEN 1
  have ha : Steady [.LNE_GRP_STATUS b] [] s a := .of_signals (setGrp_writes s b _ _).signals
  obtain ⟨h1, h2⟩ := lockLost_spec hs hr hb
  have hseen : a.grp b F.LNE_GRP_STATUS_LOL_SEEN = 1 := setGrp_self hs (by decide) (by decide)
  have hgood : a.grp b F.LNE_GRP_STATUS_GOOD_BAND = s.grp b F.LNE_GRP_STATUS_GOOD_BAND := setGrp_beside hs (by decide) (by decide)
  have hac (id : Nat) : a.counter id = s.counter id := rfl
  obtain ⟨nl1, nl2⟩ := grpLol_not_lane hb
  have np1 : ¬ portCnt (C.grpLol b) := fun h => nl1 (.inl h)
  have np2 : ¬ portCnt (C.events Ev.pllLoss) := fun h => nl2 (.inl h)
  -- the loss noted
  let c := lockLost s b
  have hcf : LaneFlows a c := h1.flows
  let d := c.count (C.grpLol b)
  let g := d.event Ev.pllLoss b 0
  have hd : Evolves c d := Evolves.refl.count _
  have hdev : Signals [] [] d g := Signals.refl.event (by decide) _ _
  have hgg (f : Fld) : g.grp b f = a.grp b f := (hdev.fld (not_signalAddr hi nofun nofun nofun) nofun f).trans (hcf.grp hb f)
  have hglne : g.lne = a.lne := ((congrArg State.lne hdev.rest).trans rfl : g.lne = c.lne).trans h1.lne
  have hgc : Evolves s g := ((((Evolves.refl.setGrp ..).toWait _).count _).event ..)
  have hglanes (n : Nat) (hn : n ∈ blockLanes b) : g.laneState n = c.laneState n :=
    hdev.fld (q := .LNE_LANE_STATUS n) (not_signalAddr (decide_eq_true (blockLanes_lt hb n hn)) nofun nofun nofun) nofun _
  have hgstep : g.bootStep = s.bootStep :=
    (hdev.fld (q := .STW_BOOT_STATUS) (not_signalAddr rfl nofun nofun nofun) nofun _).trans (hcf.bootStep.trans
      (congrArg F.STW_BOOT_STATUS_STEP.get (ha.get (q := .STW_BOOT_STATUS) rfl nofun nofun nofun (hne rfl nofun))))
  have hgen : g.grpEn b = s.grpEn b := by
    have hx : g.grpEn b = c.grpEn b := congrArg (· == 1) ((Steady.of_signals hdev).cFld nofun _ _)
    rw [hx, hcf.grpEn]
    exact congrArg (· == 1) (ha.cFld (hne rfl nofun) _ _)
  have hlc : C.grpLol b ≠ C.events Ev.pllLoss := by
    have : Ev.pllLoss < 256 := by decide
    unfold C.grpLol C.events
    omega
  have hlol : CountedOnce (C.grpLol b) s g := by
    have h := countedOnce_any c (C.grpLol b)
    unfold CountedOnce at h
    rw [h1.counts _ np1, hac] at h
    exact .of_counter (v := d) h (event_counter_ne _ hlc.symm _ _)
  have hloss : CountedOnce (C.events Ev.pllLoss) s g := by
    have h := event_countedOnce (hd.stores h1.flows.canon) Ev.pllLoss b 0
    unfold CountedOnce at h
    rw [State.counter_count_ne _ _ _ hlc, h1.counts _ np2, hac] at h
    exact h
  have hg : lolNoted s b = g := rfl
  rw [hg]
  clear_value g
  -- the new acquisition
  obtain ⟨q1, q2, q3, q4, q5, q6⟩ := acquire_spec (hgc.stores hs) (by rw [hglne]; exact hk) b
  have hsig : Steady [.LNE_GRP_STATUS b] [] g (g.acquire b) := ⟨q6.signals, by rw [q5]⟩
  refine ⟨(hgc.acquire b).stores hs, (hgc.acquire b).range hr, q1, q4.trans ((hgg _).trans hseen), q2.trans ((hgg _).trans hgood), q3,
    .of_counter hlol (q6.cnts _ (List.not_mem_nil)), .of_counter hloss (q6.cnts _ (List.not_mem_nil)), fun n hn => ?_, ?_, ?_⟩
  · have hl : (g.acquire b).laneState n = c.laneState n :=
      (congrArg F.LNE_LANE_STATUS_STATE.get (hsig.get (q := .LNE_LANE_STATUS n) (decide_eq_true (blockLanes_lt hb n hn)) nofun nofun nofun
        (hne (decide_eq_true (blockLanes_lt hb n hn)) nofun))).trans (hglanes n hn)
    rw [hl]
    exact h2 n hn
  · exact (congrArg F.STW_BOOT_STATUS_STEP.get (hsig.get (q := .STW_BOOT_STATUS) rfl nofun nofun nofun (hne rfl nofun))).trans hgstep
  · exact (congrArg (· == 1) (hsig.cFld (hne rfl nofun) _ _)).trans hgen

/-! ## The obligation -/

theorem bandCheckEnd_spec (hs : StoresCanonical s) (hb : b < 128) (h1 : s.grpState b = 1) (count : Nat) :
    ∃ t, exec (.bandCheckEnd b count) s = .next t ∧
      (108692 ≤ count → count ≤ 108908 → t.grpState b = 2 ∧ Writes [.LNE_GRP_STATUS b] [] (bandChecked s b) t) ∧
      (count < 108692 ∨ 108908 < count →
        (∀ k, (bandChecked s b).nextBand b = some k → t.grpState b = 1 ∧ t.grp b F.LNE_GRP_STATUS_BAND = k ∧ Writes [.LNE_GRP_STATUS b] [] (bandChecked s b) t) ∧
        ((bandChecked s b).nextBand b = none → t.grpState b = 5 ∧ CountedOnce (C.events Ev.pllNoLock) s t ∧ t.raised Ev.pllNoLock b = true)) := by
  have hu := bandChecked_canonical hs b
  refine ⟨_, (exec_bandCheckEnd count).trans (congrArg _ (if_pos h1)), fun h2 h3 => ?_, fun h2 => ?_⟩
  · rw [if_pos ((bandPasses_iff count).mpr ⟨h2, h3⟩)]
    exact ⟨setGrp_self hu (by decide) (by decide), setGrp_writes _ b _ 2⟩
  · have hp : ¬ bandPasses count = true := fun h => by
      have := (bandPasses_iff count).mp h
      omega
    rw [if_neg hp]
    refine ⟨fun k hk => ?_, fun hk => ?_⟩
    · have h := sweep_next hu hk
      exact ⟨h.state, h.band, h.writes⟩
    · have h := sweep_none hu hb hk
      have hc := h.counted
      unfold CountedOnce at hc
      exact ⟨h.state, hc.trans rfl, h.raised⟩

theorem alignmentDone_spec (hs : StoresCanonical s) (hr : FramesInRange s) (hb : b < 128) :
    let t := (groupLocked s b).settleBlock b
    let asleep := 7 ≤ s.bootStep ∧ s.bootStep ≤ 0xA ∧ (s.grpEn b = false ∨ ∀ n ∈ blockLanes b, t.laneState n ≤ 1)
    (asleep → t.grpState b = 0) ∧ (¬ asleep → t.grpState b = 4) ∧
      t.grp b F.LNE_GRP_STATUS_GOOD_BAND = s.grp b F.LNE_GRP_STATUS_BAND ∧ t.raised Ev.pllNoLock b = false ∧
      ∀ n ∈ blockLanes b, 7 ≤ s.bootStep → s.bootStep ≤ 0xA → s.laneState n = 2 → s.wornanUp (n / 128) = true →
        s.laneCfg n F.LNE_LANE_CFG_PATTERN = 0 → s.laneCfg n F.LNE_LANE_CFG_LOOPBACK = 0 → s.laneCfg n F.LNE_LANE_CFG_TRAIN_EN = 1 →
        (s.lane n).wake = false → s.sleepMode (s.portOfLane n) ≠ 2 → t.laneState n = 4 := by
  obtain ⟨h1, h2, h3, h4, h5, h6⟩ := groupLocked_spec hs hr hb
  have h := settleBlock_runs h1 h2 hb (by rw [h4]; decide)
  have hne {q : Reg} := ne_grpStatus hb (q := q)
  have hstep : (groupLocked s b).bootStep = s.bootStep := congrArg F.STW_BOOT_STATUS_STEP.get (h3.get (q := .STW_BOOT_STATUS) rfl nofun nofun nofun (hne rfl nofun))
  have hen : (groupLocked s b).grpEn b = s.grpEn b := congrArg (· == 1) (h3.cFld (hne rfl nofun) _ _)
  have hport := h3.portOfLane (hne rfl nofun)
  have hlanes : ∀ n, (groupLocked s b).lane n = s.lane n := fun n => congrArg (sgetD · n freshLane) h3.lanes
  have hget {q : Reg} (hq : q.indexOk = true) := h3.get (q := q) hq
  have hoff := h.off
  have hon := h.on
  have hidle := h.lanes
  rw [hstep] at hoff hon hidle
  rw [hen] at hoff hon
  intro t asleep
  refine ⟨fun ha => hoff ha.1 ha.2.1 ha.2.2, fun ha => (hon ha).trans h4, (h.others _ (by decide) (by decide)).trans h5, ?_, fun n hn b1 b2 l2 hw hp hl ht hk hm => ?_⟩
  · unfold State.raised at h6 ⊢
    rw [show t.hlt = _ from h.hlt]
    exact h6
  · have hn' := blockLanes_lt hb n hn
    have hcfg (m : Nat) (hm : m < 1024) (f : Fld) : (groupLocked s b).laneCfg m f = s.laneCfg m f :=
      congrArg f.get (hget (q := .LNE_LANE_CFG m) (decide_eq_true hm) nofun nofun nofun (hne (decide_eq_true hm) nofun))
    have hi : (Reg.LNE_WRN_STATUS (n / 128)).indexOk = true := decide_eq_true (by omega)
    refine (hidle b1 b2 n hn').trans (blockWaits_trains h1 h2 hb hn ?_ h4 ?_ ((hcfg n hn' _).trans hp) ((hcfg n hn' _).trans hl) ((hcfg n hn' _).trans ht)
      (by rw [hlanes]; exact hk) ?_)
    · exact (congrArg F.LNE_LANE_STATUS_STATE.get (hget (q := .LNE_LANE_STATUS n) (decide_eq_true hn') nofun nofun nofun (hne (decide_eq_true hn') nofun))).trans l2
    · exact (congrArg (fun w => F.LNE_WRN_STATUS_STATE.get w == 2) (hget hi nofun nofun nofun (hne hi nofun))).trans hw
    · rw [hport]
      exact fun e => hm ((hcfg _ (Nat.lt_of_le_of_lt (portOfLane_le s n) hn') _).symm.trans e)

theorem lossOfLock_spec (hs : StoresCanonical s) (hr : FramesInRange s) (hb : b < 128) (hk : skeysFrom none s.lne.loops = true) :
    let t := ((lolNoted s b).acquire b).settleBlock b
    let asleep := 7 ≤ s.bootStep ∧ s.bootStep ≤ 0xA ∧ (s.grpEn b = false ∨ ∀ n ∈ blockLanes b, t.laneState n ≤ 1)
    t.grp b F.LNE_GRP_STATUS_LOL_SEEN = 1 ∧ CountedOnce (C.grpLol b) s t ∧ CountedOnce (C.events Ev.pllLoss) s t ∧ (asleep → t.grpState b = 0) ∧
      (¬ asleep → t.grpState b = 1) ∧ t.grp b F.LNE_GRP_STATUS_BAND = s.grp b F.LNE_GRP_STATUS_GOOD_BAND ∧ t.grp b F.LNE_GRP_STATUS_ATTEMPT = 1 ∧
      ∀ n ∈ blockLanes b, (s.laneState n = 0 → t.laneState n = 0) ∧ (s.laneState n ≠ 0 → t.laneState n = 2 ∨ t.laneState n = 1) := by
  have l := reacquired_spec hs hr hb hk
  obtain ⟨nl1, nl2⟩ := grpLol_not_lane hb
  generalize (lolNoted s b).acquire b = a at l
  have h := settleBlock_runs l.canon l.range hb (by rw [l.state]; decide)
  have hlanes (n : Nat) (hn : n ∈ blockLanes b) : (a.settleBlock b).laneState n = a.laneState n ∨ (a.settleBlock b).laneState n = 1 ∧ a.laneState n ≠ 0 := by
    by_cases hstep : 7 ≤ a.bootStep ∧ a.bootStep ≤ 0xA
    · rw [h.lanes hstep.1 hstep.2 n (blockLanes_lt hb n hn)]
      exact blockWaits_unlocked l.canon l.range hb (by rw [l.state]; decide) (blockLanes_lt hb n hn)
    · rw [h.idle hstep]
      exact .inl rfl
  have hoff := h.off
  have hon := h.on
  rw [l.step, l.en] at hoff hon
  intro t asleep
  refine ⟨(h.others _ (by decide) (by decide)).trans l.seen, .of_counter l.lol (h.counts _ nl1), .of_counter l.loss (h.counts _ nl2), fun ha => hoff ha.1 ha.2.1 ha.2.2,
    fun ha => (hon ha).trans l.state, (h.others _ (by decide) (by decide)).trans l.band, (h.others _ (by decide) (by decide)).trans l.attempt, fun n hn => ⟨fun h0 => ?_, fun h0 => ?_⟩⟩
  · have ha0 := (l.lanes n hn).1 h0
    rcases hlanes n hn with hl | ⟨-, hl⟩
    · exact hl.trans ha0
    · exact absurd ha0 hl
  · rcases hlanes n hn with hl | ⟨hl, -⟩
    · exact .inl (hl.trans ((l.lanes n hn).2 h0))
    · exact .inr hl

/-- Settles O23: each row of the loop by its lemma, the lanes by `settleBlock_runs`. -/
theorem groupLoopsAcquire : Obligations.GroupLoopsAcquire := by
  unfold Obligations.GroupLoopsAcquire
  refine ⟨fun s b count hs _ hb => ⟨fun h => congrArg Host.Outcome.next (if_neg h), fun h => bandCheckEnd_spec hs hb h count⟩,
    fun s b ps hs hb => ⟨fun h => congrArg Host.Outcome.next (if_neg fun hh => ?_), fun h1 h2 => ?_⟩,
    fun s b c at' hs hb hc => ?_,
    fun s b hs hr hb => ⟨fun h => congrArg Host.Outcome.next (if_neg h), fun h => ⟨_, exec_alignmentDone.trans (congrArg _ (if_pos h)), alignmentDone_spec hs hr hb⟩⟩,
    fun s b cause hs hr hb hk => ⟨fun h => congrArg Host.Outcome.next (if_neg ?_),
      fun h1 h2 => ⟨_, (exec_lossOfLock cause).trans (congrArg _ (if_pos (by simp [h1, h2]))), lossOfLock_spec hs hr hb hk⟩⟩,
    fun s b hs hk hb => ⟨fun h => congrArg Host.Outcome.next (if_neg ?_), fun h1 h2 => ?_⟩⟩
  · exact h.elim (fun a => a hh.1) fun a => Nat.not_le.mpr a hh.2
  · exact ⟨s.setGrpState b 3, congrArg Host.Outcome.next (if_pos ⟨h1, h2⟩), setGrp_self hs (by decide) (by decide), setGrp_writes _ b _ 3⟩
  · have hx : exec c s = .next (if s.grpState b = at' then s.attemptFail b else s) := by
      rcases List.mem_cons.mp hc with h | h
      · cases h
        rfl
      · cases List.mem_singleton.mp h
        rfl
    refine ⟨fun h => hx.trans (congrArg _ (if_neg h)), fun h => ⟨_, hx.trans (congrArg _ (if_pos h)), attemptFail_spec hs hb⟩⟩
  · rcases h with h | h <;> simp [h]
  · rcases h with h | h <;> simp [h]
  · obtain ⟨q1, q2, q3, -⟩ := acquire_spec hs hk b
    exact ⟨s.acquire b, congrArg Host.Outcome.next (if_pos (by simp [h1, h2])), q1, q3, q2⟩

end Sys2Proof
end

section
/-! PROOF. What the settling of a block leaves, and the transmit taps of a lane (R127, R136 to R142). -/
namespace Sys2Proof

open Sys2Proof.Machine

set_option Elab.async false

variable {s t u v w : State} {n m p k b x : Nat}

/-! ## The settling of a block, as lanes see it -/

theorem LaneFlows.boot (h : LaneFlows s t) : t.boot = s.boot := (congrArg State.boot h.flows.rest).trans rfl

theorem groupFailed_steady (h : GroupFailed b s t) : Steady (groupRegs b) [] s t := .of_signals h.signals

/-- The start of an acquisition, whatever band it finds. -/
theorem acquire_steady (hs : StoresCanonical s) (hb : b < 128) : Steady (groupRegs b) [] s (s.acquire b) ∧ (s.acquire b).boot = s.boot := by
  have ha : StoresCanonical (acquiring s b) := StoresCanonical.setFld (s := State.putLoop ..) ⟨hs.regs, hs.st0, hs.st1, hs.cnt, hs.frames, hs.reps, hs.sessions⟩ _ _ _
  have h1 : Signals (groupRegs b) [] { s with lne := (acquiring s b).lne } (acquiring s b) := Signals.refl.setFld (by simp) _ _
  have h2 : Signals (groupRegs b) [] (acquiring s b) ((acquiring s b).sweep b) := by
    cases hk : (acquiring s b).nextBand b with
    | some k => exact ((sweep_next ha hk).writes.signals).weaken (by simp) (by simp)
    | none => exact (sweep_none ha hb hk).signals
  have hl : ((acquiring s b).sweep b).lne = (acquiring s b).lne := (congrArg State.lne h2.rest).trans rfl
  have h12 := h1.trans h2
  rw [acquire_eq]
  refine ⟨⟨?_, by rw [hl]; rfl⟩, ?_⟩
  · rw [hl]
    exact h12
  · exact (congrArg State.boot h12.rest).trans rfl

theorem blockSettled_steady (hs : StoresCanonical s) (hb : b < 128) : Steady (groupRegs b) [] s (blockSettled s b) ∧ (blockSettled s b).boot = s.boot := by
  have hrefl : Steady (groupRegs b) [] s s ∧ s.boot = s.boot := ⟨.of_signals .refl, rfl⟩
  unfold blockSettled
  split
  · split
    · exact hrefl
    · exact ⟨.of_signals (Signals.refl.setFld (by simp) _ _), rfl⟩
  · split
    · exact acquire_steady hs hb
    · exact hrefl

/-- Nothing but registers of lanes, ports and the group, and what signalling writes, has changed. -/
structure LaneRows (b : Nat) (s t : State) : Prop where
  canon : StoresCanonical t
  range : FramesInRange t
  regs : ∀ q : Reg, q.indexOk = true → ¬ laneReg q → ¬ signalAddr q.addr → (∀ r ∈ groupRegs b, q.addr ≠ r.addr) → t.get q = s.get q
  boot : t.boot = s.boot

theorem LaneRows.trans (h : LaneRows b s u) (h' : LaneRows b u t) : LaneRows b s t :=
  ⟨h'.canon, h'.range, fun q h1 h2 h3 h4 => (h'.regs q h1 h2 h3 h4).trans (h.regs q h1 h2 h3 h4), h'.boot.trans h.boot⟩

theorem LaneFlows.rows (h : LaneFlows s t) (b : Nat) : LaneRows b s t := ⟨h.canon, h.range, fun _ hq hn _ _ => h.get hq hn, h.boot⟩

theorem settleBlock_rows (hs : StoresCanonical s) (hr : FramesInRange s) (hb : b < 128) : LaneRows b s (s.settleBlock b) := by
  have hev : Evolves s (s.settleBlock b) := Evolves.refl.settleBlock b
  have hw : LaneFlows s (blockWaits s b) := leaveWaits_flows hs hr (blockLanes_lt hb)
  obtain ⟨h1, h2⟩ := blockSettled_steady hw.canon hb
  refine ⟨hev.stores hs, hev.range hr, ?_, ?_⟩
  · rw [settleBlock_eq]
    split
    · exact fun _ _ _ _ _ => rfl
    · exact fun q hq hn hsig hne => (h1.signals.regs q hsig hne).1.trans (hw.get hq hn)
  · rw [settleBlock_eq]
    split
    · rfl
    · exact h2.trans hw.boot

/-- A lane of a port that does not sleep at once stands as it did when its block settles, unless it waits in a locked group. -/
theorem settleBlock_kept (hs : StoresCanonical s) (hr : FramesInRange s) (hb : b < 128) (hm : m < 1024) (hk : s.sleepMode (s.portOfLane m) ≠ 2)
    (h : m ∉ blockLanes b ∨ s.laneState m ≠ 2 ∨ s.grpState (m / 8) ≠ 4) : LaneKept m s (s.settleBlock b) := by
  rw [settleBlock_eq]
  split
  · exact .refl
  · have hw : LaneFlows s (blockWaits s b) := leaveWaits_flows hs hr (blockLanes_lt hb)
    have hkept : LaneKept m s (blockWaits s b) := leaveWaits_kept hs hr (blockLanes_lt hb) hm hk h
    have h1 := (blockSettled_steady hw.canon hb).1
    have i1 : (Reg.LNE_LANE_STATUS m).indexOk = true := decide_eq_true hm
    have i2 : (Reg.LNE_LANE_TXFFE m).indexOk = true := decide_eq_true hm
    exact hkept.trans ⟨h1.get i1 nofun nofun nofun (ne_groupRegs hb i1 nofun nofun), h1.get i2 nofun nofun nofun (ne_groupRegs hb i2 nofun nofun),
      congrArg (sgetD · m freshLane) h1.lanes⟩

theorem settleBlock_counts (hs : StoresCanonical s) (hr : FramesInRange s) (hb : b < 128) {id : Nat} (h1 : ¬ laneCnt id) (h2 : ¬ (0x100 ≤ id ∧ id < 0x200)) :
    (s.settleBlock b).counter id = s.counter id := by
  rw [settleBlock_eq]
  split
  · rfl
  · have hw : LaneFlows s (blockWaits s b) := leaveWaits_flows hs hr (blockLanes_lt hb)
    exact ((blockSettled_steady hw.canon hb).1.signals.cnts id h2 (List.not_mem_nil)).trans (hw.flows.cnts id h1)

/-! ## HOLDOFF (R142) -/

/-- A lane in HOLDOFF whose port does not sleep at once. -/
structure HeldOff (n : Nat) (s t : State) : Prop where
  canon : StoresCanonical t
  state : t.laneState n = 7
  lasting : ∀ f, Lasting f → t.fld (.LNE_LANE_STATUS n) f = s.fld (.LNE_LANE_STATUS n) f
  counts : ∀ id, ¬ laneCnt id → ¬ (0x100 ≤ id ∧ id < 0x200) → t.counter id = s.counter id

theorem holdOff_spec (hs : StoresCanonical s) (hr : FramesInRange s) (hn : n < 1024) (hk : s.sleepMode (s.portOfLane n) ≠ 2) : HeldOff n s (s.holdOff n) := by
  have e := goLane_entered hs hr hn (c := 7) (by decide)
  have he : s.holdOff n = ((s.goLane n 7).sleepNow ((s.goLane n 7).portOfLane n)).settleBlock (n / 8) := rfl
  have hku : (s.goLane n 7).sleepMode ((s.goLane n 7).portOfLane n) ≠ 2 := by
    rw [sleepMode_flows e.flows hn]
    exact hk
  rw [he, sleepNow_off hku]
  have hc (id : Nat) (h : ¬ laneCnt id) : (s.goLane n 7).counter id = s.counter id := e.flows.flows.cnts id h
  have k := settleBlock_kept e.flows.canon e.flows.range (b := n / 8) (by omega) hn hku (.inr (.inl (by rw [e.state]; decide)))
  have r := settleBlock_rows e.flows.canon e.flows.range (b := n / 8) (by omega)
  exact ⟨r.canon, k.laneState.trans e.state, fun f hf => (congrArg f.get k.status).trans (e.lasting f hf),
    fun id h1 h2 => (settleBlock_counts e.flows.canon e.flows.range (by omega) h1 h2).trans (hc id h1)⟩

/-! ## Taps (R136, R137) -/

theorem tapWord_fields (a c d e g : Int) :
    let w := tapWord [a, c, d, e, g]
    F.LNE_LANE_TXFFE_CM3.get w = (a % 64).toNat ∧ F.LNE_LANE_TXFFE_CM2.get w = (c % 64).toNat ∧ F.LNE_LANE_TXFFE_CM1.get w = (d % 64).toNat ∧
      F.LNE_LANE_TXFFE_C0.get w = (e % 128).toNat ∧ F.LNE_LANE_TXFFE_CP1.get w = (g % 64).toNat := by
  have hm (y : Int) : (y % 64).toNat % 2 ^ 6 = (y % 64).toNat := Nat.mod_eq_of_lt (by omega)
  have hm' (y : Int) : (y % 128).toNat % 2 ^ 7 = (y % 128).toNat := Nat.mod_eq_of_lt (by omega)
  intro w
  have hw : w = F.LNE_LANE_TXFFE_CM3.set (F.LNE_LANE_TXFFE_CM2.set (F.LNE_LANE_TXFFE_CM1.set (F.LNE_LANE_TXFFE_C0.set
    (F.LNE_LANE_TXFFE_CP1.set 0#32 (g % 64).toNat) (e % 128).toNat) (d % 64).toNat) (c % 64).toNat) (a % 64).toNat := rfl
  rw [hw]
  refine ⟨?_, ?_, ?_, ?_, ?_⟩
  · rw [Fld.get_set _ _ _ (by decide), hm]
  · rw [Fld.get_set_apart _ _ _ _ (by decide) (by decide), Fld.get_set _ _ _ (by decide), hm]
  · rw [Fld.get_set_apart _ _ _ _ (by decide) (by decide), Fld.get_set_apart _ _ _ _ (by decide) (by decide), Fld.get_set _ _ _ (by decide), hm]
  · rw [Fld.get_set_apart _ _ _ _ (by decide) (by decide), Fld.get_set_apart _ _ _ _ (by decide) (by decide),
      Fld.get_set_apart _ _ _ _ (by decide) (by decide), Fld.get_set _ _ _ (by decide), hm']
  · rw [Fld.get_set_apart _ _ _ _ (by decide) (by decide), Fld.get_set_apart _ _ _ _ (by decide) (by decide),
      Fld.get_set_apart _ _ _ _ (by decide) (by decide), Fld.get_set_apart _ _ _ _ (by decide) (by decide), Fld.get_set _ _ _ (by decide), hm]

/-- Six bits hold a tap in two's complement. -/
theorem sget_six {f : Fld} {w : Word} {y : Int} (hf : f.w = 6) (h : f.get w = (y % 64).toNat) (h1 : -32 ≤ y) (h2 : y < 32) : f.sget w = y := by
  unfold Fld.sget
  simp only [h, hf]
  split <;> omega

/-- A register word holds taps within their limits. -/
theorem tapsOf_tapWord {l : List Int} (hl : l.length = 5) (h : tapListOk l = true) : tapsOf (tapWord l) = l := by
  obtain ⟨a, c, d, e, g, rfl⟩ : ∃ a c d e g, l = [a, c, d, e, g] := by
    match l, hl with
    | [a, c, d, e, g], _ => exact ⟨a, c, d, e, g, rfl⟩
  simp only [tapListOk, tapsOk, List.getD_cons_zero, List.getD_cons_succ, Bool.and_eq_true, decide_eq_true_eq] at h
  obtain ⟨h1, h2, h3, h4, h5⟩ := tapWord_fields a c d e g
  unfold tapsOf
  rw [sget_six rfl h1 (by omega) (by omega), sget_six rfl h2 (by omega) (by omega), sget_six rfl h3 (by omega) (by omega), h4,
    sget_six rfl h5 (by omega) (by omega)]
  have : ((e % 128).toNat : Int) = e := by omega
  rw [this]

theorem preset_taps {i : Nat} {l : List Int} (h : preset i = some l) : tapsOf (tapWord l) = l := by
  have hl : l = [0, 0, 0, 64, 0] ∨ l = [0, 0, -8, 56, 0] ∨ l = [0, 4, -12, 44, -4] := by
    unfold preset at h
    split at h <;> simp_all
  rcases hl with rfl | rfl | rfl <;> exact tapsOf_tapWord rfl (by decide)

end Sys2Proof
end

section
/-! PROOF. The rows of one lane (R136 to R143, R152, R160). -/
namespace Sys2Proof

open Sys2Proof.Machine

set_option Elab.async false

variable {s t u v w : State} {n m p k b h x : Nat} {env : Bool}

/-! ## SIGNAL (R141) -/

/-- What a lane's envelope shows in SIGNAL. -/
abbrev SignalShows (n : Nat) (env : Bool) (t : State) : Prop := t.fld (.LNE_LANE_STATUS n) F.LNE_LANE_STATUS_SIGNAL = if env = true then 1 else 0

theorem signalIs_shows (hs : StoresCanonical s) (n : Nat) (env : Bool) : SignalShows n env (s.signalIs n env) := by
  have h : (if env = true then 1 else 0) < 2 ^ F.LNE_LANE_STATUS_SIGNAL.w := by split <;> decide
  exact fld_setFld_lt hs.regs (by decide) h

theorem signalIs_beside (hs : StoresCanonical s) (n : Nat) (env : Bool) {f : Fld} (ha : F.LNE_LANE_STATUS_SIGNAL.apart f = true) (hf : f.lo + f.w ≤ 32) :
    (s.signalIs n env).fld (.LNE_LANE_STATUS n) f = s.fld (.LNE_LANE_STATUS n) f := fld_setFld_beside hs.regs ha hf

theorem signalIs_state (hs : StoresCanonical s) (n : Nat) (env : Bool) : (s.signalIs n env).laneState n = s.laneState n :=
  signalIs_beside hs n env (by decide) (by decide)

theorem signalIs_writes (s : State) (n : Nat) (env : Bool) : Writes [.LNE_LANE_STATUS n] [] s (s.signalIs n env) :=
  Writes.refl.setFld (List.mem_singleton_self _) _ _

theorem signalIs_flows (hs : StoresCanonical s) (hr : FramesInRange s) (hn : n < 1024) (env : Bool) : LaneFlows s (s.signalIs n env) :=
  (LaneFlows.refl hs hr).setFld (r := .LNE_LANE_STATUS n) hn (decide_eq_true hn) nofun _ _

theorem signalIs_txffe (hn : n < 1024) (s : State) (env : Bool) : (s.signalIs n env).get (.LNE_LANE_TXFFE n) = s.get (.LNE_LANE_TXFFE n) :=
  get_setFld_off (r := .LNE_LANE_STATUS n) (decide_eq_true hn) (decide_eq_true hn) nofun

/-! ## Tap requests (R137, R138) -/

theorem exec_coeffRequestRx (h4 : s.laneState n = 4) (req : CoeffReq) : exec (.coeffRequestRx n req) s = .next (
    let s := s.signalIs n true
    match req with
    | .step k up =>
      let t := tapsOf (s.get (.LNE_LANE_TXFFE n))
      let t' := t.set k (t.getD k 0 + (if up then 1 else -1))
      if k < 5 && tapListOk t' then (s.put (.LNE_LANE_TXFFE n) (tapWord t')).emit (.coeff n 0) else s.emit (.coeff n 1)
    | .preset k => match preset k with
      | some t => (s.put (.LNE_LANE_TXFFE n) (tapWord t)).emit (.coeff n 0)
      | none => s.emit (.coeff n 2)
    | .precode on => (s.putLane n { s.lane n with precode := on }).emit (.coeff n 0)) :=
  congrArg Host.Outcome.next (if_neg (fun h => h h4))

/-- Taps put and answered. -/
theorem tapsAnswered (hs : StoresCanonical s) (hn : n < 1024) (y : Word) :
    let t := ((s.signalIs n true).put (.LNE_LANE_TXFFE n) y).emit (.coeff n 0)
    t.get (.LNE_LANE_TXFFE n) = y ∧ t.out = Output.coeff n 0 :: s.out ∧ t.fld (.LNE_LANE_STATUS n) F.LNE_LANE_STATUS_SIGNAL = 1 ∧
      Writes [.LNE_LANE_TXFFE n, .LNE_LANE_STATUS n] [] { s with out := t.out } t := by
  have hv : StoresCanonical (s.signalIs n true) := hs.setFld _ _ _
  have hst := get_put_off (s := s.signalIs n true) (r := .LNE_LANE_TXFFE n) (q := .LNE_LANE_STATUS n) (decide_eq_true hn) (decide_eq_true hn) nofun y
  exact ⟨State.get_put_self _ _ _ hv.regs, rfl, (congrArg F.LNE_LANE_STATUS_SIGNAL.get hst).trans (signalIs_shows hs n true),
    ((Writes.refl (s := { s with out := Output.coeff n 0 :: s.out })).setFld (r := .LNE_LANE_STATUS n) (by simp) _ _).put (by simp) _⟩

/-- A request answered without a change of the taps. -/
theorem tapsRefused (hs : StoresCanonical s) (n i : Nat) :
    let t := (s.signalIs n true).emit (.coeff n i)
    t.out = Output.coeff n i :: s.out ∧ t.fld (.LNE_LANE_STATUS n) F.LNE_LANE_STATUS_SIGNAL = 1 ∧ Writes [.LNE_LANE_STATUS n] [] { s with out := t.out } t :=
  ⟨rfl, signalIs_shows hs n true, (Writes.refl (s := { s with out := Output.coeff n i :: s.out })).setFld (r := .LNE_LANE_STATUS n) (by simp) _ _⟩

/-- A request for one tap. -/
theorem coeffStep_spec (hs : StoresCanonical s) (hn : n < 1024) (h4 : s.laneState n = 4) (k : Nat) (up : Bool) :
    let old := tapsOf (s.get (.LNE_LANE_TXFFE n))
    let new := old.set k (old.getD k 0 + (if up then 1 else -1))
    let signal (t : State) : Nat := t.fld (.LNE_LANE_STATUS n) F.LNE_LANE_STATUS_SIGNAL
    (k < 5 → tapListOk new = true → ∃ t, exec (.coeffRequestRx n (.step k up)) s = .next t ∧
      t.get (.LNE_LANE_TXFFE n) = tapWord new ∧ tapsOf (tapWord new) = new ∧ t.out = Output.coeff n 0 :: s.out ∧
      signal t = 1 ∧ Writes [.LNE_LANE_TXFFE n, .LNE_LANE_STATUS n] [] { s with out := t.out } t) ∧
    (5 ≤ k ∨ tapListOk new = false → ∃ t, exec (.coeffRequestRx n (.step k up)) s = .next t ∧
      t.out = Output.coeff n 1 :: s.out ∧ signal t = 1 ∧ Writes [.LNE_LANE_STATUS n] [] { s with out := t.out } t) := by
  have hx := exec_coeffRequestRx h4 (.step k up)
  dsimp only at hx
  rw [signalIs_txffe hn s true] at hx
  have hlen : (tapsOf (s.get (.LNE_LANE_TXFFE n))).length = 5 := rfl
  intro old new signal
  have hnew : new = old.set k (old.getD k 0 + (if up then 1 else -1)) := rfl
  have hold : old = tapsOf (s.get (.LNE_LANE_TXFFE n)) := rfl
  rw [← hold, ← hnew] at hx
  have hn5 : new.length = 5 := (List.length_set).trans hlen
  clear_value new
  refine ⟨fun hk hok => ?_, fun hno => ?_⟩
  · have hc : (decide (k < 5) && tapListOk new) = true := by rw [hok, decide_eq_true hk]; rfl
    rw [if_pos hc] at hx
    obtain ⟨h1, h2, h3, h5⟩ := tapsAnswered hs hn (tapWord new)
    exact ⟨_, hx, h1, tapsOf_tapWord hn5 hok, h2, h3, h5⟩
  · have hc : ¬ (decide (k < 5) && tapListOk new) = true := by
      rcases hno with h | h
      · simp [Nat.not_lt.mpr h]
      · simp [h]
    rw [if_neg hc] at hx
    exact ⟨_, hx, tapsRefused hs n 1⟩

/-- A request for a preset or for precoding. -/
theorem coeffPreset_spec (hs : StoresCanonical s) (hn : n < 1024) (h4 : s.laneState n = 4) :
    (∀ p w, preset p = some w → ∃ t, exec (.coeffRequestRx n (.preset p)) s = .next t ∧
      tapsOf (t.get (.LNE_LANE_TXFFE n)) = w ∧ t.out = Output.coeff n 0 :: s.out) ∧
    (∀ p, preset p = none → ∃ t, exec (.coeffRequestRx n (.preset p)) s = .next t ∧ t.out = Output.coeff n 2 :: s.out ∧
      Writes [.LNE_LANE_STATUS n] [] { s with out := t.out } t) ∧
    (∀ on, ∃ t, exec (.coeffRequestRx n (.precode on)) s = .next t ∧ t.out = Output.coeff n 0 :: s.out ∧
      (skeysFrom none s.lne.lanes = true → (t.lane n).precode = on)) := by
  refine ⟨fun p w hp => ?_, fun p hp => ?_, fun on => ?_⟩
  · have hx := exec_coeffRequestRx h4 (.preset p)
    dsimp only at hx
    rw [hp] at hx
    obtain ⟨h1, h2, -⟩ := tapsAnswered hs hn (tapWord w)
    exact ⟨_, hx, (congrArg tapsOf h1).trans (preset_taps hp), h2⟩
  · have hx := exec_coeffRequestRx h4 (.preset p)
    dsimp only at hx
    rw [hp] at hx
    obtain ⟨h1, -, h2⟩ := tapsRefused hs n 2
    exact ⟨_, hx, h1, h2⟩
  · refine ⟨_, exec_coeffRequestRx h4 (.precode on), rfl, fun hk => ?_⟩
    exact congrArg LaneSt.precode (sgetD_sput_self freshLane s.lne.lanes n _ hk)

/-- The lane asks its partner once more. -/
theorem ask_asked (s : State) (n : Nat) (req : CoeffReq) (i : Nat) : ((s.ask n req i).lane n).asked = some (req, i) := by
  have hne : ({ s.lane n with asked := some (req, i) } : LaneSt) ≠ freshLane := fun h => nomatch congrArg LaneSt.asked h
  refine congrArg LaneSt.asked (?_ : (s.ask n req i).lane n = { s.lane n with asked := some (req, i) })
  refine (congrArg (sgetD · n freshLane) (if_neg hne : sput freshLane s.lne.lanes n _ = _)).trans ?_
  rw [sgetD, sfind_sinsert_self]
  rfl

/-! ## Failed training and lost lanes (R139, R142) -/

/-- What a lane's row finds of its port. -/
structure OwnLane (n : Nat) (s : State) : Prop where
  canon : StoresCanonical s
  range : FramesInRange s
  lane : n < 1024
  awake : s.sleepMode (s.portOfLane n) ≠ 2

theorem OwnLane.of_flows (ho : OwnLane n s) (h : LaneFlows s t) : OwnLane n t :=
  ⟨h.canon, h.range, ho.lane, by rw [sleepMode_flows h ho.lane]; exact ho.awake⟩

theorem OwnLane.signalIs (ho : OwnLane n s) (env : Bool) : OwnLane n (s.signalIs n env) := ho.of_flows (signalIs_flows ho.canon ho.range ho.lane env)

theorem trainFail_spec (ho : OwnLane n s) :
    StoresCanonical (s.trainFail n) ∧ (s.trainFail n).laneState n = 7 ∧ (s.trainFail n).fld (.LNE_LANE_STATUS n) F.LNE_LANE_STATUS_TRAIN_FAIL = 1 := by
  have hf : LaneFlows s (s.setFld (.LNE_LANE_STATUS n) F.LNE_LANE_STATUS_TRAIN_FAIL 1) :=
    (LaneFlows.refl ho.canon ho.range).setFld (r := .LNE_LANE_STATUS n) ho.lane (decide_eq_true ho.lane) nofun _ _
  have ho' := ho.of_flows hf
  have h := holdOff_spec ho'.canon ho'.range ho.lane ho'.awake
  exact ⟨h.canon, h.state, (h.lasting _ lasting_trainFail).trans (fld_setFld_lt ho.canon.regs (by decide) (by decide))⟩

theorem linkDown_not_lane (hn : n < 1024) : ¬ laneCnt (C.linkDown n) ∧ ¬ (0x100 ≤ C.linkDown n ∧ C.linkDown n < 0x200) := by
  refine ⟨?_, fun h => ?_⟩
  · rintro ((((h | h | ⟨r, hr, h⟩) | ⟨r, hr, h | h | h⟩) | ⟨r, hr, h⟩) | ⟨r, hr, h⟩) <;>
      simp only [C.linkDown, C.trainAttempts, C.ladderYield, C.txFrames, C.prtTxStomped, C.flushed, C.stale, C.portDown, C.page] at h <;> omega
  · simp only [C.linkDown, C.page] at h
    omega

/-- The rows of a lane in training. -/
theorem trainRows (ho : OwnLane n s) (req : CoeffReq) (anew env : Bool) :
    (s.laneState n ≠ 4 ∨ s.mayAsk req = false → exec (.coeffRequestRepeat n req anew env) s = .next s) ∧
    (s.laneState n = 4 → s.mayAsk req = true → (s.lane n).repeats req anew < 3 → ∃ t, exec (.coeffRequestRepeat n req anew env) s = .next t ∧
      t.laneState n = 4 ∧ (t.lane n).asked = some (req, (s.lane n).repeats req anew + 1) ∧ t.out = Output.coeffReq n req :: s.out ∧ SignalShows n env t) ∧
    (s.laneState n = 4 → s.mayAsk req = true → 3 ≤ (s.lane n).repeats req anew → ∃ t, exec (.coeffRequestRepeat n req anew env) s = .next t ∧
      t.laneState n = 7 ∧ t.fld (.LNE_LANE_STATUS n) F.LNE_LANE_STATUS_TRAIN_FAIL = 1) ∧
    (s.laneState n = 4 → (∃ t, exec (.trainTimeout n env) s = .next t ∧ t.laneState n = 7 ∧
        t.fld (.LNE_LANE_STATUS n) F.LNE_LANE_STATUS_TRAIN_FAIL = 1 ∧ SignalShows n env t) ∧
      (∃ t, exec (.trainSuccess n) s = .next t ∧ t.laneState n = 5 ∧ t.fld (.LNE_LANE_STATUS n) F.LNE_LANE_STATUS_SIGNAL = 1 ∧
        Writes [.LNE_LANE_STATUS n] [] s t)) ∧
    (s.laneState n ≠ 4 → exec (.trainSuccess n) s = .next s ∧ exec (.trainTimeout n env) s = .next s) := by
  have hx (h4 : s.laneState n = 4) (ha : s.mayAsk req = true) : exec (.coeffRequestRepeat n req anew env) s = .next
      (if (s.lane n).repeats req anew < 3 then (s.signalIs n env).ask n req ((s.lane n).repeats req anew + 1) else (s.signalIs n env).trainFail n) :=
    congrArg Host.Outcome.next (if_neg (by simp [h4, ha]))
  have hsig := ho.signalIs env
  refine ⟨fun h => congrArg Host.Outcome.next (if_pos ?_), fun h4 ha hb => ?_, fun h4 ha hb => ?_, fun h4 => ⟨?_, ?_⟩, fun h => ⟨congrArg Host.Outcome.next (if_neg h), congrArg Host.Outcome.next (if_neg h)⟩⟩
  · simpa using h
  · exact ⟨_, (hx h4 ha).trans (congrArg _ (if_pos hb)), (signalIs_state ho.canon n env).trans h4, ask_asked .., rfl, signalIs_shows ho.canon n env⟩
  · obtain ⟨-, h1, h2⟩ := trainFail_spec hsig
    exact ⟨_, (hx h4 ha).trans (congrArg _ (if_neg (by omega))), h1, h2⟩
  · obtain ⟨h1, h2, h3⟩ := trainFail_spec ho
    exact ⟨(s.trainFail n).signalIs n env, congrArg Host.Outcome.next (if_pos h4), (signalIs_state h1 n env).trans h2,
      (signalIs_beside h1 n env (by decide) (by decide)).trans h3, signalIs_shows h1 n env⟩
  · have e := goLane_entered ho.canon ho.range ho.lane (c := 5) (by decide)
    have hw := (goLane_writes (s := s) (n := n) (c := 5) (.inl (by rw [h4]; decide))).trans (signalIs_writes _ n true)
    exact ⟨(s.goLane n 5).signalIs n true, congrArg Host.Outcome.next (if_pos h4), (signalIs_state e.flows.canon n true).trans e.state,
      signalIs_shows e.flows.canon n true, hw⟩

/-- The rows of a lane in search, and of one that is UP. -/
theorem searchRows (ho : OwnLane n s) (env : Bool) :
    (s.laneState n = 5 → (∃ t, exec (.cwLockGained n) s = .next t ∧ t.laneState n = 6 ∧ t.fld (.LNE_LANE_STATUS n) F.LNE_LANE_STATUS_CW_LOCK = 1 ∧
        t.fld (.LNE_LANE_STATUS n) F.LNE_LANE_STATUS_SIGNAL = 1 ∧ Writes [.LNE_LANE_STATUS n] [] s t) ∧
      (∃ t, exec (.cwSearchTimeout n env) s = .next t ∧ t.laneState n = 7 ∧ SignalShows n env t)) ∧
    (s.laneState n ≠ 5 → exec (.cwLockGained n) s = .next s ∧ exec (.cwSearchTimeout n env) s = .next s) ∧
    (s.laneState n = 6 → s.fld (.LNE_LANE_STATUS n) F.LNE_LANE_STATUS_SIGNAL = 1 → ∃ t, exec (.cwLockLost n) s = .next t ∧
      t.laneState n = 5 ∧ t.fld (.LNE_LANE_STATUS n) F.LNE_LANE_STATUS_CW_LOCK = 0 ∧ CountedOnce (C.linkDown n) s t) ∧
    (s.laneState n = 6 → ∃ t, exec (.lossOfSignal n) s = .next t ∧ t.laneState n = 7 ∧
      t.fld (.LNE_LANE_STATUS n) F.LNE_LANE_STATUS_SIGNAL = 0 ∧ CountedOnce (C.linkDown n) s t) ∧
    (s.laneState n ≠ 6 → exec (.cwLockLost n) s = .next s ∧ ∃ t, exec (.lossOfSignal n) s = .next t ∧
      t.laneState n = s.laneState n ∧ t.fld (.LNE_LANE_STATUS n) F.LNE_LANE_STATUS_SIGNAL = 0 ∧ Writes [.LNE_LANE_STATUS n] [] s t) := by
  obtain ⟨nl1, nl2⟩ := linkDown_not_lane ho.lane
  have hls (h : (s.signalIs n false).laneState n = 6) : exec (.lossOfSignal n) s = .next (((s.signalIs n false).count (C.linkDown n)).holdOff n) :=
    congrArg Host.Outcome.next (if_pos h)
  refine ⟨fun h5 => ⟨?_, ?_⟩, fun h => ⟨congrArg Host.Outcome.next (if_neg h), congrArg Host.Outcome.next (if_neg h)⟩, fun h6 hsig => ?_, fun h6 => ?_, fun h6 => ⟨?_, ?_⟩⟩
  · have e := goLane_entered ho.canon ho.range ho.lane (c := 6) (by decide)
    have h1 : StoresCanonical ((s.goLane n 6).setFld (.LNE_LANE_STATUS n) F.LNE_LANE_STATUS_CW_LOCK 1) := e.flows.canon.setFld _ _ _
    refine ⟨((s.goLane n 6).setFld (.LNE_LANE_STATUS n) F.LNE_LANE_STATUS_CW_LOCK 1).signalIs n true, congrArg Host.Outcome.next (if_pos h5), ?_, ?_, signalIs_shows h1 n true, ?_⟩
    · exact (signalIs_state h1 n true).trans ((fld_setFld_beside e.flows.canon.regs (by decide) (by decide)).trans e.state)
    · exact (signalIs_beside h1 n true (by decide) (by decide)).trans (fld_setFld_lt e.flows.canon.regs (by decide) (by decide))
    · exact ((goLane_writes (.inr rfl)).setFld (List.mem_singleton_self _) _ _).trans (signalIs_writes _ n true)
  · have h := holdOff_spec ho.canon ho.range ho.lane ho.awake
    exact ⟨(s.holdOff n).signalIs n env, congrArg Host.Outcome.next (if_pos h5), (signalIs_state h.canon n env).trans h.state, signalIs_shows h.canon n env⟩
  · have e := goLane_entered ho.canon ho.range ho.lane (c := 5) (by decide)
    refine ⟨(s.goLane n 5).count (C.linkDown n), congrArg Host.Outcome.next (if_pos ⟨h6, hsig⟩), e.state, e.lock (by decide), ?_⟩
    have h := countedOnce_any (s.goLane n 5) (C.linkDown n)
    unfold CountedOnce at h ⊢
    rw [e.counts _ fun hp => nl1 (.inl hp)] at h
    exact h
  · have hv := ho.signalIs false
    let w := (s.signalIs n false).count (C.linkDown n)
    have hw : Evolves (s.signalIs n false) w := Evolves.refl.count _
    have h := holdOff_spec (s := w) (hw.stores hv.canon) (hw.range hv.range) ho.lane hv.awake
    refine ⟨w.holdOff n, hls ((signalIs_state ho.canon n false).trans h6), h.state, (h.lasting _ lasting_signal).trans (signalIs_shows ho.canon n false), ?_⟩
    exact .of_counter (countedOnce_any s (C.linkDown n)) (h.counts _ nl1 nl2)
  · exact congrArg Host.Outcome.next (if_neg fun hh => h6 hh.1)
  · refine ⟨s.signalIs n false, congrArg Host.Outcome.next (if_neg fun hh => h6 ?_), signalIs_state ho.canon n false, signalIs_shows ho.canon n false, signalIs_writes s n false⟩
    exact (signalIs_state ho.canon n false).symm.trans hh

/-- The end of HOLDOFF. -/
theorem holdoffRows (ho : OwnLane n s) (env : Bool) :
    (s.laneState n ≠ 7 → exec (.holdoffExpires n env) s = .next s) ∧
    (s.laneState n = 7 → ∃ t, exec (.holdoffExpires n env) s = .next t ∧ SignalShows n env t ∧
      (s.laneCfg n F.LNE_LANE_CFG_TRAIN_EN = 1 → t.laneState n = 4 ∧ CountedOnce (C.trainAttempts n) s t ∧
        tapsOf (t.get (.LNE_LANE_TXFFE n)) = [0, 0, 0, 64, 0]) ∧
      (s.laneCfg n F.LNE_LANE_CFG_TRAIN_EN = 0 → t.laneState n = 5 ∧ t.get (.LNE_LANE_TXFFE n) = s.get (.LNE_LANE_TXFFE_SET n))) := by
  refine ⟨fun h => congrArg Host.Outcome.next (if_neg h), fun h => ⟨(s.signalIs n env).bringUp n, congrArg Host.Outcome.next (if_pos h), ?_⟩⟩
  have hf := signalIs_flows ho.canon ho.range ho.lane env
  have hsig := signalIs_shows ho.canon n env
  have hcfg := hf.laneCfg ho.lane F.LNE_LANE_CFG_TRAIN_EN
  have hset : (s.signalIs n env).get (.LNE_LANE_TXFFE_SET n) = s.get (.LNE_LANE_TXFFE_SET n) :=
    get_setFld_off (r := .LNE_LANE_STATUS n) (decide_eq_true ho.lane) (decide_eq_true ho.lane) nofun
  have hcnt : (s.signalIs n env).counter (C.trainAttempts n) = s.counter (C.trainAttempts n) := rfl
  generalize s.signalIs n env = v at *
  refine ⟨((bringUp_spec hf.canon hf.range ho.lane).lasting _ lasting_signal).trans hsig, fun h1 => ?_, fun h0 => ?_⟩
  · have he : v.bringUp n = v.enterTrain n := if_pos (hcfg.trans h1)
    obtain ⟨t1, t2, t3⟩ := enterTrain_spec hf.canon hf.range ho.lane
    rw [he, t3]
    refine ⟨t1.state, ?_, by decide⟩
    unfold CountedOnce at t2 ⊢
    rw [hcnt] at t2
    exact t2
  · have he : v.bringUp n = (v.goLane n 5).loadTaps n := if_neg (by rw [hcfg, h0]; decide)
    obtain ⟨t1, t2⟩ := loadTaps_spec (goLane_entered hf.canon hf.range ho.lane (c := 5) (by decide)).laneUp ho.lane
    rw [he]
    exact ⟨t1.state, (t2 (hcfg.trans h0)).trans hset⟩

/-! ## The settings of a lane (R142, R148, R160) -/

theorem LaneRows.refl (hs : StoresCanonical s) (hr : FramesInRange s) : LaneRows b s s := ⟨hs, hr, fun _ _ _ _ _ => rfl, rfl⟩

theorem LaneRows.settle (h : LaneRows b s u) (hb : b < 128) : LaneRows b s (u.settleBlock b) := h.trans (settleBlock_rows h.canon h.range hb)

/-- A port that wakes moves registers of lanes and of its group. -/
theorem wakePort_rows (hs : StoresCanonical s) (hr : FramesInRange s) (hn : n < 1024) (hp : s.portOfLane n = n) : LaneRows (n / 8) s (s.wakePort n) := by
  refine LaneRows.settle ?_ (by omega)
  refine foldl_keeps (P := LaneRows (n / 8) s) _ _ (.refl hs hr) fun u k hk hu => ?_
  have hk' : k < 1024 := (lanesOf_port (s := s) hn (by rw [hp]; exact hk)).1
  split
  · have h1 : LaneFlows u (u.putLane k { u.lane k with wake := true }) := (LaneFlows.refl hu.canon hu.range).putLane k _
    have e := goLane_entered h1.canon h1.range hk' (c := 2) (by decide)
    have h2 := hu.trans ((h1.trans e.flows).rows (n / 8))
    have hev : Evolves ((u.putLane k { u.lane k with wake := true }).goLane k 2) (((u.putLane k { u.lane k with wake := true }).goLane k 2).count (C.wakes k)) :=
      Evolves.refl.count _
    exact ⟨hev.stores h2.canon, hev.range h2.range, h2.regs, h2.boot⟩
  · exact hu

/-- What a write of a lane's settings has done before its block settles. -/
def cfgJudged (s : State) (n : Nat) (old : Word) : State :=
  let w := s.get (.LNE_LANE_CFG n)
  let changed (f : Fld) : Bool := f.get w != f.get old
  let s := if 2 ≤ s.laneState n && (changed F.LNE_LANE_CFG_TX_INV || changed F.LNE_LANE_CFG_RX_INV ||
      changed F.LNE_LANE_CFG_TRAIN_EN || changed F.LNE_LANE_CFG_PATTERN || changed F.LNE_LANE_CFG_LOOPBACK) then
    s.toWait [n] else s
  if s.portOfLane n = n then (if s.sleepMode n = 0 ∧ s.laneState n = 1 then s.wakePort n else s.sleepNow n) else s

theorem laneCfgWritten_eq (s : State) (n : Nat) (old : Word) : s.laneCfgWritten n old = (cfgJudged s n old).settleBlock (n / 8) := rfl

theorem cfgJudged_rows (hs : StoresCanonical s) (hr : FramesInRange s) (hn : n < 1024) (old : Word) : LaneRows (n / 8) s (cfgJudged s n old) := by
  unfold cfgJudged
  extract_lets w changed u
  have hu : LaneRows (n / 8) s u := by
    unfold u
    split
    · exact (toWait_spec hs hr (l := [n]) fun k hk => by rwa [List.mem_singleton.mp hk]).1.flows.rows _
    · exact .refl hs hr
  clear_value u
  split
  · next hp =>
    split
    · exact hu.trans (wakePort_rows hu.canon hu.range hn hp)
    · have h := sleepNow_spec hu.canon hu.range hn
      rw [hp] at h
      exact hu.trans (h.flows.rows _)
  · exact hu

/-- With another PATTERN a lane waits, unless its port sleeps at once. -/
theorem cfgJudged_waits (ho : OwnLane n s) {old : Word} (h2 : 2 ≤ s.laneState n)
    (hp : F.LNE_LANE_CFG_PATTERN.get (s.get (.LNE_LANE_CFG n)) ≠ F.LNE_LANE_CFG_PATTERN.get old) :
    LaneFlows s (cfgJudged s n old) ∧ (cfgJudged s n old).laneState n = 2 := by
  obtain ⟨h1, h3⟩ := toWait_spec ho.canon ho.range (l := [n]) fun k hk => by rw [List.mem_singleton.mp hk]; exact ho.lane
  have h4 : (s.toWait [n]).laneState n = 2 := h3 n (List.mem_singleton_self _) (by omega)
  have hok := ho.of_flows h1.flows
  have hcond : (decide (2 ≤ s.laneState n) && (F.LNE_LANE_CFG_TX_INV.get (s.get (.LNE_LANE_CFG n)) != F.LNE_LANE_CFG_TX_INV.get old ||
      F.LNE_LANE_CFG_RX_INV.get (s.get (.LNE_LANE_CFG n)) != F.LNE_LANE_CFG_RX_INV.get old ||
      F.LNE_LANE_CFG_TRAIN_EN.get (s.get (.LNE_LANE_CFG n)) != F.LNE_LANE_CFG_TRAIN_EN.get old ||
      F.LNE_LANE_CFG_PATTERN.get (s.get (.LNE_LANE_CFG n)) != F.LNE_LANE_CFG_PATTERN.get old ||
      F.LNE_LANE_CFG_LOOPBACK.get (s.get (.LNE_LANE_CFG n)) != F.LNE_LANE_CFG_LOOPBACK.get old)) = true := by
    rw [decide_eq_true h2, bne_iff_ne.mpr hp]
    simp
  unfold cfgJudged
  dsimp only
  rw [if_pos hcond]
  generalize s.toWait [n] = u at *
  split
  · next hpn =>
    have ha := hok.awake
    rw [hpn] at ha
    rw [if_neg fun hh => absurd (hh.2.symm.trans h4) (by decide), sleepNow_off ha]
    exact ⟨h1.flows, h4⟩
  · exact ⟨h1.flows, h4⟩

theorem wrote_range (hr : FramesInRange s) (r : Reg) (y : Word) : FramesInRange (wrote s r y) := by
  rw [wrote_rest]
  exact ⟨hr.ports, hr.rings, hr.classes, hr.queues⟩

/-- A lane under its new settings. -/
theorem wrote_ownLane (ho : OwnLane n s) {y : Word} (hy : F.LNE_LANE_CFG_SLEEP.get y ≠ 2) : OwnLane n (wrote s (.LNE_LANE_CFG n) y) := by
  have hi : (Reg.LNE_LANE_CFG n).indexOk = true := decide_eq_true ho.lane
  have hp : s.portOfLane n < 1024 := Nat.lt_of_le_of_lt (portOfLane_le s n) ho.lane
  have hsel : (wrote s (.LNE_LANE_CFG n) y).curSel = s.curSel := wrote_fld_ne s (q := .STW_EPOCH_STATUS) (addr_ne rfl hi nofun) y _
  have hport : (wrote s (.LNE_LANE_CFG n) y).portOfLane n = s.portOfLane n := by
    have h0 : (wrote s (.LNE_LANE_CFG n) y).st0 = s.st0 ∧ (wrote s (.LNE_LANE_CFG n) y).st1 = s.st1 := by
      rw [wrote_rest]
      exact ⟨rfl, rfl⟩
    unfold State.portOfLane State.blkLanes State.cFld State.stFld State.stGet State.bank
    rw [hsel, h0.1, h0.2]
  refine ⟨wrote_canonical ho.canon _ _, wrote_range ho.range _ _, ho.lane, ?_⟩
  rw [hport]
  by_cases he : s.portOfLane n = n
  · rw [he]
    have hrw := wrote_fld_rw ho.canon (r := .LNE_LANE_CFG n) (f := ⟨F.LNE_LANE_CFG_SLEEP, .rw, .b, true⟩) (by simp [Reg.fields]) (.inl rfl) y
    exact fun h2 => hy (hrw.symm.trans h2)
  · have hne := wrote_fld_ne s (r := .LNE_LANE_CFG n) (q := .LNE_LANE_CFG (s.portOfLane n)) (addr_ne (decide_eq_true hp) hi (by simpa using he)) y F.LNE_LANE_CFG_SLEEP
    exact fun h2 => ho.awake (hne.symm.trans h2)

/-- A write of a lane's settings by an Expert's window. -/
theorem laneCfgWrite_spec (hs : StoresCanonical s) (hr : FramesInRange s) (he : ExpertWindow s h) (hn : n < 1024) {y : Word} (hp : Passes s h (.LNE_LANE_CFG n) y) :
    ∃ t, exec (.laneCfgWrite .window n y) s = .next t ∧ t.get (.LNE_LANE_CFG n) = (Reg.LNE_LANE_CFG n).written (s.get (.LNE_LANE_CFG n)) y ∧
      (2 ≤ s.laneState n → s.laneCfg n F.LNE_LANE_CFG_PATTERN ≠ F.LNE_LANE_CFG_PATTERN.get y → s.grpState (n / 8) ≠ 4 →
        F.LNE_LANE_CFG_SLEEP.get y ≠ 2 → s.sleepMode (s.portOfLane n) ≠ 2 → t.laneState n = 2) := by
  have hi : (Reg.LNE_LANE_CFG n).indexOk = true := decide_eq_true hn
  have hb : n / 8 < 128 := by omega
  have hx : exec (.laneCfgWrite .window n y) s = .next (s.rowWriteReg .window (.LNE_LANE_CFG n) y) := rfl
  have hget := wrote_get hs (.LNE_LANE_CFG n) y
  have hc := wrote_canonical hs (.LNE_LANE_CFG n) y
  have hrw := cfgJudged_rows hc (wrote_range hr _ _) hn (s.get (.LNE_LANE_CFG n))
  have hrows := hrw.settle hb
  have hreq : ((wrote s (.LNE_LANE_CFG n) y).laneCfgWritten n (s.get (.LNE_LANE_CFG n))).boot.resetReq = none := by
    rw [laneCfgWritten_eq, hrows.boot]
    exact (wrote_resetReq ..).trans he.noReset
  have ha : (wrote s (.LNE_LANE_CFG n) y).writeAction h (.LNE_LANE_CFG n) (s.get (.LNE_LANE_CFG n)) y =
      (wrote s (.LNE_LANE_CFG n) y).laneCfgWritten n (s.get (.LNE_LANE_CFG n)) := rfl
  refine ⟨_, hx.trans (congrArg _ ((rowWriteReg_expert he hp rfl nofun nofun rfl).trans (by rw [ha, takeReset_of_none hreq]))), ?_, fun h2 hpat hg hsl hk => ?_⟩
  · rw [laneCfgWritten_eq]
    exact (hrows.regs _ hi nofun (not_signalAddr hi nofun nofun nofun) (ne_groupRegs hb hi nofun nofun)).trans hget
  · have ho := wrote_ownLane ⟨hs, hr, hn, hk⟩ hsl
    have hst : (wrote s (.LNE_LANE_CFG n) y).laneState n = s.laneState n := wrote_fld_ne s (q := .LNE_LANE_STATUS n) (addr_ne (decide_eq_true hn) hi nofun) y _
    have hgrp : (wrote s (.LNE_LANE_CFG n) y).grpState (n / 8) = s.grpState (n / 8) := wrote_fld_ne s (q := .LNE_GRP_STATUS (n / 8)) (addr_ne (decide_eq_true hb) hi nofun) y _
    have hpw := wrote_fld_rw hs (r := .LNE_LANE_CFG n) (f := ⟨F.LNE_LANE_CFG_PATTERN, .rw, .e, true⟩) (by simp [Reg.fields]) (.inl rfl) y
    obtain ⟨h3, h4⟩ := cfgJudged_waits ho (old := s.get (.LNE_LANE_CFG n)) (by rw [hst]; exact h2) fun e => hpat (e.symm.trans hpw)
    have ho' := ho.of_flows h3
    have hg' : (cfgJudged (wrote s (.LNE_LANE_CFG n) y) n (s.get (.LNE_LANE_CFG n))).grpState (n / 8) ≠ 4 := fun e =>
      hg (hgrp.symm.trans ((h3.grp hb F.LNE_GRP_STATUS_STATE).symm.trans e))
    rw [laneCfgWritten_eq]
    exact (settleBlock_kept ho'.canon ho'.range hb hn ho'.awake (.inr (.inr hg'))).laneState.trans h4

/-! ## Test patterns (R152) -/

theorem prbsRows (hs : StoresCanonical s) (n : Nat) :
    (∀ env, s.laneState n ≠ 8 → exec (.prbsLockGained n env) s = .next s ∧ exec (.prbsSymbolMismatch n) s = .next s) ∧
    (∀ env, s.laneState n = 8 → ∃ t, exec (.prbsLockGained n env) s = .next t ∧ t.fld (.LNE_LANE_STATUS n) F.LNE_LANE_STATUS_PRBS_LOCK = 1 ∧
      SignalShows n env t ∧ Writes [.LNE_LANE_STATUS n] [] s t) ∧
    (s.laneState n = 8 → s.fld (.LNE_LANE_STATUS n) F.LNE_LANE_STATUS_PRBS_LOCK = 1 → ∃ t, exec (.prbsSymbolMismatch n) s = .next t ∧
      CountedOnce (C.prbsErrors n) s t ∧ Writes [] [C.prbsErrors n] s t) := by
  refine ⟨fun env h => ⟨congrArg Host.Outcome.next (if_neg h), congrArg Host.Outcome.next (if_neg fun hh => h hh.1)⟩, fun env h => ?_, fun h hl => ?_⟩
  · have h1 : StoresCanonical (s.setFld (.LNE_LANE_STATUS n) F.LNE_LANE_STATUS_PRBS_LOCK 1) := hs.setFld _ _ _
    refine ⟨(s.setFld (.LNE_LANE_STATUS n) F.LNE_LANE_STATUS_PRBS_LOCK 1).signalIs n env, congrArg Host.Outcome.next (if_pos h), ?_, signalIs_shows h1 n env, ?_⟩
    · exact (signalIs_beside h1 n env (by decide) (by decide)).trans (fld_setFld_lt hs.regs (by decide) (by decide))
    · exact (Writes.refl.setFld (List.mem_singleton_self _) _ _).trans (signalIs_writes _ n env)
  · exact ⟨s.count (C.prbsErrors n), congrArg Host.Outcome.next (if_pos ⟨h, hl⟩), countedOnce_any s _, Writes.refl.count (List.mem_singleton_self _)⟩

/-- Settles O24: each row of a lane by its lemma, what lies beside it by `goLane_entered` and `settleBlock_kept`. -/
theorem lanesTrainAndLock : Obligations.LanesTrainAndLock := by
  unfold Obligations.LanesTrainAndLock
  refine ⟨fun s n req h => congrArg Host.Outcome.next (if_pos h), fun s n k up hs hn h4 => ?_, fun s n req anew env hs hr hn hk => ?_,
    fun s h n y hs hr he hn hp => laneCfgWrite_spec hs hr he hn hp, fun s n hs _ => prbsRows hs n⟩
  · obtain ⟨h1, h2⟩ := coeffStep_spec hs hn h4 k up
    exact ⟨h1, h2, coeffPreset_spec hs hn h4⟩
  · have ho : OwnLane n s := ⟨hs, hr, hn, hk⟩
    obtain ⟨a1, a2, a3, a4, a5⟩ := trainRows ho req anew env
    obtain ⟨b1, b2, b3, b4, b5⟩ := searchRows ho env
    obtain ⟨c1, c2⟩ := holdoffRows ho env
    exact ⟨a1, a2, a3, a4, a5, b1, b2, b3, b4, b5, c1, c2⟩

end Sys2Proof
end

section
/-! PROOF. Watched units: a swap for the pool's lowest spare, and a declared straggler (R428, R431, R432). -/
namespace Sys2Proof

open Sys2Proof.Machine

set_option Elab.async false

variable {s u v t : State} {kind idx sp i k pool : Nat}

/-! ## Units of one kind -/

theorem unitKey_ne (kind : Nat) (h : i ≠ k) : unitKey kind i ≠ unitKey kind k := fun he => h (Nat.add_left_cancel he)

theorem unit_setUnit_self (hu : skeysFrom none s.hlt.units = true) (x : UnitSt) : (s.setUnit kind idx x).unit kind idx = x :=
  sgetD_sput_self _ _ _ _ hu

theorem unit_setUnit_ne (h : i ≠ idx) (x : UnitSt) : (s.setUnit kind idx x).unit kind i = s.unit kind i :=
  sgetD_sput_ne _ _ _ _ _ _ (unitKey_ne kind (Ne.symm h))

theorem setUnit_keys (hu : skeysFrom none s.hlt.units = true) (kind idx : Nat) (x : UnitSt) : skeysFrom none (s.setUnit kind idx x).hlt.units = true :=
  skeysFrom_sput _ _ _ _ hu

theorem sgetD_serase_ne {α : Type} (m : SMap α) {k k' : Nat} (h : k ≠ k') (d : α) : sgetD (serase m k) k' d = sgetD m k' d :=
  congrArg (·.getD d) (sfind_serase_ne m k k' h)

theorem spareOf_spare (h : s.spareOf kind pool = some sp) : s.unit kind sp = .spare := by
  unfold State.spareOf at h
  split at h
  · cases h
  · have hs := List.find?_some h
    exact eq_of_beq hs

/-- The spare that an active unit is swapped for is another unit. -/
theorem spare_ne_active (ha : s.unit kind idx = .active) (h : s.spareOf kind pool = some sp) : sp ≠ idx := by
  rintro rfl
  have hs := spareOf_spare h
  rw [ha] at hs
  cases hs

/-! ## The swap -/

/-- The records of units once one is under test and a spare stands in its place. -/
def swappedHlt (s : State) (kind idx spare : Nat) : Hlt :=
  let k := unitKey kind idx
  { ((s.setUnit kind idx .testing).setUnit kind spare .active).hlt with
    logical := sput (initialLogical kind spare) s.hlt.logical (unitKey kind spare) (s.logicalOf kind idx)
    declared := s.hlt.declared.filter (· != k)
    swaps := sput 0 s.hlt.swaps k (sgetD s.hlt.swaps k 0 + 1)
    aboveRun := serase s.hlt.aboveRun k
    belowRun := serase s.hlt.belowRun k }

/-- The banks being copied once a unit is swapped. -/
def bankSwapped (s : State) (kind idx spare : Nat) : List (Nat × Nat) :=
  if kind = 1 then s.swc.bankCopy ++ [(idx, spare)] else s.swc.bankCopy

/-- The swap before it is counted. -/
def swapped (s : State) (kind idx spare : Nat) : State :=
  { s with hlt := swappedHlt s kind idx spare, swc := { s.swc with bankCopy := bankSwapped s kind idx spare } }

/-- The swap counted, before a pool without a spare is noted. -/
def swapCounted (s : State) (kind idx spare : Nat) : State :=
  ((swapped s kind idx spare).count C.swaps).event Ev.stragglerSwap (unitInst kind idx) spare

/-- A pool without a spare is noted. -/
def poolNoted (s : State) (kind pool : Nat) : State :=
  if (s.spareOf kind pool).isNone then s.event Ev.sparesExhausted (unitInst kind pool) 0 else s

theorem swapUnit_eq (s : State) (kind idx spare : Nat) :
    s.swapUnit kind idx spare = poolNoted (swapCounted s kind idx spare) kind (poolOf kind idx) := by
  have hb : s.swapUnit kind idx spare = poolNoted (((if kind = 1 then
      { s with hlt := swappedHlt s kind idx spare, swc := { s.swc with bankCopy := s.swc.bankCopy ++ [(idx, spare)] } }
      else { s with hlt := swappedHlt s kind idx spare } : State).count C.swaps).event Ev.stragglerSwap (unitInst kind idx) spare) kind
        (poolOf kind idx) := rfl
  rw [hb, swapCounted, swapped, bankSwapped]
  split <;> rfl

theorem poolNoted_units (s : State) (kind pool : Nat) : (poolNoted s kind pool).hlt.units = s.hlt.units := by
  unfold poolNoted
  split
  · exact event_units ..
  · rfl

theorem swapUnit_hlt (s : State) (kind idx spare : Nat) :
    ∃ r l, (s.swapUnit kind idx spare).hlt = { swappedHlt s kind idx spare with raised := r, lastLog := l } := by
  rw [swapUnit_eq]
  obtain ⟨r, l, h⟩ : ∃ r l, (swapCounted s kind idx spare).hlt = { swappedHlt s kind idx spare with raised := r, lastLog := l } :=
    ⟨_, _, event_hlt ..⟩
  unfold poolNoted
  split
  · exact ⟨_, _, by rw [event_hlt, h]⟩
  · exact ⟨r, l, h⟩

theorem swapUnit_units (s : State) (kind idx spare : Nat) :
    (s.swapUnit kind idx spare).hlt.units = ((s.setUnit kind idx .testing).setUnit kind spare .active).hlt.units := by
  obtain ⟨r, l, h⟩ := swapUnit_hlt s kind idx spare
  rw [h]
  rfl

/-- The unit is under test, the spare active under its logical number, and no other unit of the kind moves. -/
theorem swapUnit_moves (hu : skeysFrom none s.hlt.units = true) (hl : skeysFrom none s.hlt.logical = true) (hne : sp ≠ idx) :
    (s.swapUnit kind idx sp).unit kind idx = .testing ∧ (s.swapUnit kind idx sp).unit kind sp = .active ∧
    (∀ i, i ≠ idx → i ≠ sp → (s.swapUnit kind idx sp).unit kind i = s.unit kind i) ∧
    (s.swapUnit kind idx sp).logicalOf kind sp = s.logicalOf kind idx := by
  have hunit := fun i => unit_of_units (swapUnit_units s kind idx sp) kind i
  refine ⟨?_, ?_, fun i h1 h2 => ?_, ?_⟩
  · rw [hunit, unit_setUnit_ne (Ne.symm hne), unit_setUnit_self hu]
  · rw [hunit, unit_setUnit_self (setUnit_keys hu ..)]
  · rw [hunit, unit_setUnit_ne h2, unit_setUnit_ne h1]
  · obtain ⟨r, l, h⟩ := swapUnit_hlt s kind idx sp
    rw [State.logicalOf, h]
    exact sgetD_sput_self _ _ _ _ hl

theorem poolNoted_signals {ids : List Nat} (h : Signals [] ids s u) (kind pool : Nat) : Signals [] ids s (poolNoted u kind pool) :=
  keep_ite (h.event (by decide) _ _) h

theorem swapUnit_signals (s : State) (kind idx spare : Nat) :
    Signals [] [C.swaps] { s with swc := { s.swc with bankCopy := bankSwapped s kind idx spare } } (s.swapUnit kind idx spare) := by
  rw [swapUnit_eq]
  refine poolNoted_signals (Signals.event ?_ (by decide) _ _) _ _
  exact (Signals.refl.hlt (swappedHlt s kind idx spare)).count (.inr (by simp))

theorem swapUnit_swc (s : State) (kind idx spare : Nat) :
    (s.swapUnit kind idx spare).swc = { s.swc with bankCopy := bankSwapped s kind idx spare } := by
  rw [(swapUnit_signals s kind idx spare).rest]

theorem poolNoted_counter (s : State) (kind pool : Nat) {id : Nat} (h : id ≠ C.events Ev.sparesExhausted) :
    (poolNoted s kind pool).counter id = s.counter id := by
  unfold poolNoted
  split
  · exact event_counter_ne _ (Ne.symm h) ..
  · rfl

theorem swapUnit_counter (s : State) (kind idx spare : Nat) {id : Nat} (h1 : id ≠ C.swaps) (h2 : id ≠ C.events Ev.stragglerSwap)
    (h3 : id ≠ C.events Ev.sparesExhausted) : (s.swapUnit kind idx spare).counter id = s.counter id := by
  rw [swapUnit_eq, poolNoted_counter _ _ _ h3, swapCounted, event_counter_ne _ (Ne.symm h2), State.counter_count_ne _ _ _ (Ne.symm h1)]
  rfl

theorem event_countedOnce_of_cnt (h : skeysFrom none s.cnt = true) (code inst d : Nat) : CountedOnce (C.events code) s (s.event code inst d) := by
  rw [CountedOnce, counter_of_cnt (event_cnt ..)]
  exact s.counter_count_self _ h

theorem count_keys (h : skeysFrom none s.cnt = true) (id : Nat) : skeysFrom none (s.count id).cnt = true := skeysFrom_sput _ _ _ _ h

theorem swapUnit_counts (h : skeysFrom none s.cnt = true) (kind idx spare : Nat) :
    CountedOnce C.swaps s (s.swapUnit kind idx spare) ∧ CountedOnce (C.events Ev.stragglerSwap) s (s.swapUnit kind idx spare) := by
  have hw : skeysFrom none (swapped s kind idx spare).cnt = true := h
  have h1 : CountedOnce C.swaps s ((swapped s kind idx spare).count C.swaps) := (swapped s kind idx spare).counter_count_self _ hw
  have h2 := event_countedOnce_of_cnt (count_keys hw C.swaps) Ev.stragglerSwap (unitInst kind idx) spare
  rw [swapUnit_eq]
  constructor
  · rw [CountedOnce, poolNoted_counter _ _ _ (by decide), swapCounted, event_counter_ne _ (by decide)]
    exact h1
  · rw [CountedOnce, poolNoted_counter _ _ _ (by decide), swapCounted]
    rw [CountedOnce, State.counter_count_ne _ _ _ (by decide)] at h2
    exact h2

/-- A swap raises no condition but that its pool has no spare. -/
theorem swapUnit_raised (s : State) (kind idx spare : Nat) {c : Nat} (h : c ≠ Ev.sparesExhausted) (i : Nat) :
    (s.swapUnit kind idx spare).raised c i = s.raised c i := by
  have hc : (swapCounted s kind idx spare).raised c i = s.raised c i := by
    rw [swapCounted, raised_event, show evCondition Ev.stragglerSwap = false from by decide, Bool.false_and, Bool.or_false]
    rfl
  rw [swapUnit_eq, poolNoted]
  split
  · rw [raised_event, hc]
    simp [h]
  · exact hc

theorem swapUnit_exhausted (h : (s.swapUnit kind idx sp).spareOf kind (poolOf kind idx) = none) :
    (s.swapUnit kind idx sp).raised Ev.sparesExhausted (unitInst kind (poolOf kind idx)) = true := by
  rw [swapUnit_eq] at h ⊢
  rw [spareOf_of_units (poolNoted_units ..)] at h
  rw [poolNoted, if_pos (by simp [h]), raised_event]
  simp [show evCondition Ev.sparesExhausted = true from by decide]

/-! ## A declared straggler (R431) -/

theorem straggler_swaps (ha : s.unit kind idx = .active) (h : s.spareOf kind (poolOf kind idx) = some sp) :
    s.straggler kind idx = (s.count C.stragglers).swapUnit kind idx sp := by
  have h' : (s.count C.stragglers).spareOf kind (poolOf kind idx) = some sp := (spareOf_of_units rfl ..).trans h
  simp only [State.straggler, ha, h']

theorem straggler_stays (ha : s.unit kind idx = .active) (h : s.spareOf kind (poolOf kind idx) = none) :
    s.straggler kind idx = (s.count C.stragglers).event Ev.stragglerNoSpare (unitInst kind idx) 0 := by
  have h' : (s.count C.stragglers).spareOf kind (poolOf kind idx) = none := (spareOf_of_units rfl ..).trans h
  simp only [State.straggler, ha, h']

/-- What a straggler's declaration does: nothing, a retirement, a swap, or the event that there is no spare. -/
theorem straggler_keeps {P : State → Prop} (s : State) (kind idx : Nat) (h0 : P s) (h1 : P ((s.count C.stragglers).setUnit kind idx .retired))
    (h2 : ∀ sp, P ((s.count C.stragglers).swapUnit kind idx sp))
    (h3 : P ((s.count C.stragglers).event Ev.stragglerNoSpare (unitInst kind idx) 0)) : P (s.straggler kind idx) := by
  unfold State.straggler
  split
  · extract_lets w
    split
    · exact h2 _
    · exact h3
  · exact h1
  · exact h0
  · exact h0

end Sys2Proof
end

section
/-! PROOF. One window of a peer group, unit by unit (R430, R431). -/
namespace Sys2Proof

open Sys2Proof.Machine

set_option Elab.async false

variable {s u v t : State} {kind idx idx' sp i k n x m base : Nat} {times : List Nat}

/-! ## One unit's window -/

/-- The unit exceeds its threshold in this window. -/
def aboveAt (s : State) (kind idx x m : Nat) : Bool :=
  decide (s.fld .HLT_SUMAC_CFG F.HLT_SUMAC_CFG_THRESH * Config.fusedRatio kind idx * m < x * 2 * 64 * 65536)

/-- The unit's runs above and below after this window. -/
def aboveAfter (s : State) (kind idx x m : Nat) : Nat := if aboveAt s kind idx x m then sgetD s.hlt.aboveRun (unitKey kind idx) 0 + 1 else 0
def belowAfter (s : State) (kind idx x m : Nat) : Nat := if aboveAt s kind idx x m then 0 else sgetD s.hlt.belowRun (unitKey kind idx) 0 + 1

/-- The unit has been declared in this run. -/
def toldAt (s : State) (kind idx x m : Nat) : Bool := aboveAt s kind idx x m && s.hlt.declared.contains (unitKey kind idx)

/-- The unit is declared a straggler in this window. -/
def dueAt (s : State) (kind idx x m : Nat) : Bool :=
  aboveAt s kind idx x m && !toldAt s kind idx x m && decide (s.fld .HLT_SUMAC_CFG F.HLT_SUMAC_CFG_HOLD ≤ aboveAfter s kind idx x m)

/-- The runs of one unit are noted. -/
def windowNoted (s : State) (kind idx x m : Nat) : State :=
  let k := unitKey kind idx
  let rest := s.hlt.declared.filter (· != k)
  { s with hlt := { s.hlt with aboveRun := sput 0 s.hlt.aboveRun k (aboveAfter s kind idx x m),
                               belowRun := sput 0 s.hlt.belowRun k (min 100 (belowAfter s kind idx x m)),
                               declared := if toldAt s kind idx x m || dueAt s kind idx x m then k :: rest else rest } }

theorem sumacUnit_eq (s : State) (kind idx x m : Nat) : s.sumacUnit kind idx x m =
    if dueAt s kind idx x m then (windowNoted s kind idx x m).straggler kind idx
    else if 100 ≤ belowAfter s kind idx x m then (windowNoted s kind idx x m).eventClear Ev.stragglerNoSpare (unitInst kind idx)
    else windowNoted s kind idx x m := rfl

theorem sumacUnit_keeps {P : State → Prop} (s : State) (kind idx x m : Nat) (h0 : P (windowNoted s kind idx x m))
    (h1 : P ((windowNoted s kind idx x m).straggler kind idx))
    (h2 : P ((windowNoted s kind idx x m).eventClear Ev.stragglerNoSpare (unitInst kind idx))) : P (s.sumacUnit kind idx x m) := by
  rw [sumacUnit_eq]
  exact keep_ite h1 (keep_ite h2 h0)

theorem sumacUnit_due (h : dueAt s kind idx x m = true) : s.sumacUnit kind idx x m = (windowNoted s kind idx x m).straggler kind idx := by
  rw [sumacUnit_eq, if_pos h]

/-! ## The stores of units keep their one form -/

/-- The stores of counters and units have strictly rising keys. -/
structure UnitStores (s : State) : Prop where
  cnt : skeysFrom none s.cnt = true
  units : skeysFrom none s.hlt.units = true
  logical : skeysFrom none s.hlt.logical = true
  above : skeysFrom none s.hlt.aboveRun = true
  below : skeysFrom none s.hlt.belowRun = true

namespace UnitStores

theorem event (h : UnitStores s) (code inst d : Nat) : UnitStores (s.event code inst d) := by
  obtain ⟨h1, h2, h3, h4, h5⟩ := h
  have hh := event_hlt s code inst d
  exact ⟨by rw [event_cnt]; exact count_keys h1 _, by rw [hh]; exact h2, by rw [hh]; exact h3, by rw [hh]; exact h4, by rw [hh]; exact h5⟩

theorem eventClear (h : UnitStores s) (code inst : Nat) : UnitStores (s.eventClear code inst) := by
  obtain ⟨h1, h2, h3, h4, h5⟩ := h
  have hh := eventClear_hlt s code inst
  exact ⟨by rw [eventClear_cnt]; exact h1, by rw [hh]; exact h2, by rw [hh]; exact h3, by rw [hh]; exact h4, by rw [hh]; exact h5⟩

theorem count (h : UnitStores s) (id : Nat) : UnitStores (s.count id) := ⟨count_keys h.cnt id, h.units, h.logical, h.above, h.below⟩

theorem swapUnit (h : UnitStores s) (kind idx sp : Nat) : UnitStores (s.swapUnit kind idx sp) := by
  have hs : UnitStores (swapped s kind idx sp) := ⟨h.cnt, setUnit_keys (setUnit_keys h.units ..) .., skeysFrom_sput _ _ _ _ h.logical,
    skeysFrom_serase _ _ _ h.above, skeysFrom_serase _ _ _ h.below⟩
  have hc : UnitStores (swapCounted s kind idx sp) := (hs.count _).event ..
  rw [swapUnit_eq]
  exact keep_ite (hc.event ..) hc

theorem straggler (h : UnitStores s) (kind idx : Nat) : UnitStores (s.straggler kind idx) :=
  straggler_keeps s kind idx h ⟨count_keys h.cnt _, setUnit_keys h.units .., h.logical, h.above, h.below⟩ (fun _ => (h.count _).swapUnit ..)
    ((h.count _).event ..)

theorem windowNoted (h : UnitStores s) (kind idx x m : Nat) : UnitStores (windowNoted s kind idx x m) :=
  ⟨h.cnt, h.units, h.logical, skeysFrom_sput _ _ _ _ h.above, skeysFrom_sput _ _ _ _ h.below⟩

theorem sumacUnit (h : UnitStores s) (kind idx x m : Nat) : UnitStores (s.sumacUnit kind idx x m) :=
  sumacUnit_keeps s kind idx x m (h.windowNoted ..) ((h.windowNoted ..).straggler ..) ((h.windowNoted ..).eventClear ..)

end UnitStores

/-! ## Other units of the group -/

/-- The runs of one unit, its declaration and its want of a spare are as before. -/
structure UnitKept (kind idx : Nat) (s t : State) : Prop where
  above : sgetD t.hlt.aboveRun (unitKey kind idx) 0 = sgetD s.hlt.aboveRun (unitKey kind idx) 0
  below : sgetD t.hlt.belowRun (unitKey kind idx) 0 = sgetD s.hlt.belowRun (unitKey kind idx) 0
  declared : unitKey kind idx ∈ t.hlt.declared ↔ unitKey kind idx ∈ s.hlt.declared
  raised : t.raised Ev.stragglerNoSpare (unitInst kind idx) = s.raised Ev.stragglerNoSpare (unitInst kind idx)

namespace UnitKept

theorem refl : UnitKept kind idx s s := ⟨rfl, rfl, .rfl, rfl⟩

theorem trans (h : UnitKept kind idx s u) (h' : UnitKept kind idx u t) : UnitKept kind idx s t :=
  ⟨h'.above.trans h.above, h'.below.trans h.below, h'.declared.trans h.declared, h'.raised.trans h.raised⟩

theorem inst_ne (h : idx ≠ idx') : unitInst kind idx ≠ unitInst kind idx' := fun he => h (Nat.add_left_cancel he)

theorem event (s : State) (h : idx ≠ idx') (code d : Nat) : UnitKept kind idx s (s.event code (unitInst kind idx') d) := by
  have hh := event_hlt s code (unitInst kind idx') d
  refine ⟨by rw [hh], by rw [hh], by rw [hh], ?_⟩
  rw [raised_event]
  simp [inst_ne h]

theorem eventClear (s : State) (h : idx ≠ idx') (code : Nat) : UnitKept kind idx s (s.eventClear code (unitInst kind idx')) := by
  have hh := eventClear_hlt s code (unitInst kind idx')
  refine ⟨by rw [hh], by rw [hh], by rw [hh], ?_⟩
  rw [raised_eventClear]
  simp [inst_ne h]

theorem mem_rest (h : idx ≠ idx') (l : List Nat) : unitKey kind idx ∈ l.filter (· != unitKey kind idx') ↔ unitKey kind idx ∈ l := by
  simp [unitKey_ne kind h]

theorem swapUnit (s : State) (h : idx ≠ idx') (sp : Nat) : UnitKept kind idx s (s.swapUnit kind idx' sp) := by
  obtain ⟨r, l, hh⟩ := swapUnit_hlt s kind idx' sp
  have hk := unitKey_ne kind (Ne.symm h)
  refine ⟨?_, ?_, ?_, swapUnit_raised s kind idx' sp (by decide) _⟩
  · rw [hh]
    exact sgetD_serase_ne _ hk _
  · rw [hh]
    exact sgetD_serase_ne _ hk _
  · rw [hh]
    exact mem_rest h _

theorem windowNoted (s : State) (h : idx ≠ idx') (x m : Nat) : UnitKept kind idx s (windowNoted s kind idx' x m) := by
  have hk := unitKey_ne kind (Ne.symm h)
  refine ⟨sgetD_sput_ne _ _ _ _ _ _ hk, sgetD_sput_ne _ _ _ _ _ _ hk, ?_, rfl⟩
  have hd : unitKey kind idx ∈ (if toldAt s kind idx' x m || dueAt s kind idx' x m then
      unitKey kind idx' :: s.hlt.declared.filter (· != unitKey kind idx') else s.hlt.declared.filter (· != unitKey kind idx')) ↔
      unitKey kind idx ∈ s.hlt.declared := by
    split
    · rw [List.mem_cons, mem_rest h]
      exact or_iff_right (Ne.symm hk)
    · exact mem_rest h _
  exact hd

theorem straggler (s : State) (h : idx ≠ idx') : UnitKept kind idx s (s.straggler kind idx') :=
  straggler_keeps s kind idx' .refl ⟨rfl, rfl, .rfl, rfl⟩ (fun sp => .trans (u := s.count C.stragglers) ⟨rfl, rfl, .rfl, rfl⟩ (swapUnit _ h sp))
    (.trans (u := s.count C.stragglers) ⟨rfl, rfl, .rfl, rfl⟩ (event _ h ..))

theorem sumacUnit (s : State) (h : idx ≠ idx') (x m : Nat) : UnitKept kind idx s (s.sumacUnit kind idx' x m) :=
  have h0 := windowNoted s h x m
  sumacUnit_keeps s kind idx' x m h0 (h0.trans (straggler _ h)) (h0.trans (eventClear _ h _))

end UnitKept

/-! ## What windows change -/

/-- Nothing changes but the stragglers' and swaps' counters, the banks being copied, the health state, and what signalling changes. -/
def Banked (s t : State) : Prop := Signals [] [C.stragglers, C.swaps] { s with swc := { s.swc with bankCopy := t.swc.bankCopy } } t

namespace Banked

theorem of_signals {ids : List Nat} (h : Signals [] ids s t) (hi : ∀ i ∈ ids, i ∈ [C.stragglers, C.swaps]) : Banked s t := by
  have hs : s = { s with swc := { s.swc with bankCopy := t.swc.bankCopy } } := by rw [h.rest]
  unfold Banked
  rw [← hs]
  exact h.weaken nofun hi

theorem refl : Banked s s := of_signals (ids := []) .refl nofun

theorem trans (h : Banked s u) (h' : Banked u t) : Banked s t := by
  unfold Banked at h h'
  refine ⟨?_, fun q hn hq => ?_, fun id hn hi => (h'.cnts id hn hi).trans (h.cnts id hn hi)⟩
  · rw [h'.rest, h.rest]
  · obtain ⟨h1, h2⟩ := h'.regs q hn hq
    obtain ⟨h3, h4⟩ := h.regs q hn hq
    exact ⟨h1.trans h3, h2.trans h4⟩

theorem swapUnit (s : State) (kind idx sp : Nat) : Banked s (s.swapUnit kind idx sp) := by
  have h := swapUnit_signals s kind idx sp
  unfold Banked
  rw [swapUnit_swc]
  exact h.weaken nofun (by simp)

theorem straggler (s : State) (kind idx : Nat) : Banked s (s.straggler kind idx) := by
  have hc : Signals [] [C.stragglers] s (s.count C.stragglers) := Signals.refl.count (.inr (by simp))
  have hb : Banked s (s.count C.stragglers) := of_signals hc (by simp)
  exact straggler_keeps s kind idx .refl (of_signals (hc.hlt _) (by simp)) (fun sp => hb.trans (swapUnit ..))
    (of_signals (hc.event (by decide) _ _) (by simp))

theorem sumacUnit (s : State) (kind idx x m : Nat) : Banked s (s.sumacUnit kind idx x m) := by
  have h0 : Signals [] [] s (windowNoted s kind idx x m) := Signals.refl.hlt _
  exact sumacUnit_keeps s kind idx x m (of_signals h0 nofun) ((of_signals h0 nofun).trans (straggler ..))
    (of_signals (h0.eventClear ..) nofun)

theorem setting (h : Banked s t) (f : Fld) : t.fld .HLT_SUMAC_CFG f = s.fld .HLT_SUMAC_CFG f :=
  (Signals.fld h (q := .HLT_SUMAC_CFG) (not_signalAddr rfl nofun nofun nofun) nofun f).trans rfl

end Banked

/-! ## A window in which the unit is not declared -/

/-- No unit moves and nothing is counted. -/
structure UnitsRest (s t : State) : Prop where
  sig : Signals [] [] s t
  units : t.hlt.units = s.hlt.units
  logical : t.hlt.logical = s.hlt.logical
  cnt : t.cnt = s.cnt
  raised : ∀ c i, c ≠ Ev.stragglerNoSpare → t.raised c i = s.raised c i

theorem UnitsRest.refl : UnitsRest s s := ⟨.refl, rfl, rfl, rfl, fun _ _ _ => rfl⟩

theorem UnitsRest.trans (h : UnitsRest s u) (h' : UnitsRest u t) : UnitsRest s t :=
  ⟨h.sig.trans h'.sig, h'.units.trans h.units, h'.logical.trans h.logical, h'.cnt.trans h.cnt,
    fun c i hc => (h'.raised c i hc).trans (h.raised c i hc)⟩

theorem windowNoted_quiet (s : State) (kind idx x m : Nat) : UnitsRest s (windowNoted s kind idx x m) :=
  ⟨Signals.refl.hlt _, rfl, rfl, rfl, fun _ _ _ => rfl⟩

theorem eventClear_quiet (s : State) (inst : Nat) : UnitsRest s (s.eventClear Ev.stragglerNoSpare inst) := by
  have hh := eventClear_hlt s Ev.stragglerNoSpare inst
  refine ⟨Signals.refl.eventClear .., by rw [hh], by rw [hh], eventClear_cnt .., fun c i hc => ?_⟩
  rw [raised_eventClear]
  simp [hc]

theorem sumacUnit_quiet (h : dueAt s kind idx x m = false) : UnitsRest s (s.sumacUnit kind idx x m) := by
  have h0 := windowNoted_quiet s kind idx x m
  rw [sumacUnit_eq, if_neg (by simp [h])]
  exact keep_ite (h0.trans (eventClear_quiet ..)) h0

/-- The runs of the unit whose window it is. -/
theorem sumacUnit_own (hs : UnitStores s) (h : dueAt s kind idx x m = false) :
    sgetD (s.sumacUnit kind idx x m).hlt.aboveRun (unitKey kind idx) 0 = aboveAfter s kind idx x m ∧
    sgetD (s.sumacUnit kind idx x m).hlt.belowRun (unitKey kind idx) 0 = min 100 (belowAfter s kind idx x m) ∧
    (unitKey kind idx ∈ (s.sumacUnit kind idx x m).hlt.declared ↔ toldAt s kind idx x m = true) ∧
    (100 ≤ belowAfter s kind idx x m → (s.sumacUnit kind idx x m).raised Ev.stragglerNoSpare (unitInst kind idx) = false) := by
  have hd : unitKey kind idx ∈ (windowNoted s kind idx x m).hlt.declared ↔ toldAt s kind idx x m = true := by
    have he : (windowNoted s kind idx x m).hlt.declared = if toldAt s kind idx x m then
      unitKey kind idx :: s.hlt.declared.filter (· != unitKey kind idx) else s.hlt.declared.filter (· != unitKey kind idx) := by
      simp only [windowNoted, h, Bool.or_false]
    rw [he]
    split
    · next ht => simp [ht]
    · next ht => simp [ht]
  have ha : sgetD (windowNoted s kind idx x m).hlt.aboveRun (unitKey kind idx) 0 = aboveAfter s kind idx x m := sgetD_sput_self _ _ _ _ hs.above
  have hb : sgetD (windowNoted s kind idx x m).hlt.belowRun (unitKey kind idx) 0 = min 100 (belowAfter s kind idx x m) :=
    sgetD_sput_self _ _ _ _ hs.below
  rw [sumacUnit_eq, if_neg (by simp [h])]
  split
  · have hh := eventClear_hlt (windowNoted s kind idx x m) Ev.stragglerNoSpare (unitInst kind idx)
    refine ⟨by rw [hh]; exact ha, by rw [hh]; exact hb, by rw [hh]; exact hd, fun _ => ?_⟩
    rw [raised_eventClear]
    simp
  · next hlt => exact ⟨ha, hb, hd, fun h100 => absurd h100 hlt⟩

/-! ## The group, unit after unit -/

/-- The state once the first units of the group have had their window. -/
def windowed (kind base m : Nat) (times : List Nat) (s : State) : Nat → State
  | 0 => s
  | n + 1 => (windowed kind base m times s n).sumacUnit kind (base + n) (times.getD n 0) m

theorem zip_range (l : List Nat) : (List.range l.length).zip l = (List.range l.length).map fun i => (i, l.getD i 0) := by
  refine List.ext_getElem (by simp) fun i h1 h2 => ?_
  have hi : i < l.length := by simpa using h2
  simp [List.getD_eq_getElem?_getD, List.getElem?_eq_getElem hi]

theorem foldl_windowed (kind base m : Nat) (times : List Nat) (s : State) (n : Nat) :
    (List.range n).foldl (fun (u : State) i => u.sumacUnit kind (base + i) (times.getD i 0) m) s = windowed kind base m times s n := by
  induction n with
  | zero => rfl
  | succ n ih => rw [List.range_succ, List.foldl_append, ih, List.foldl_cons, List.foldl_nil, windowed]

theorem exec_sumacWindow (g : CycleGroup) (hk : g.kind < 8) (hn : g.times.length = peerSize g.kind) :
    exec (.sumacWindow [g]) s = .next (windowed g.kind (g.group * peerSize g.kind) (median2 g.times) g.times s (peerSize g.kind)) := by
  have he : exec (.sumacWindow [g]) s = .next (if 8 ≤ g.kind ∨ g.times.length ≠ peerSize g.kind then s else
      ((List.range g.times.length).zip g.times).foldl (fun (u : State) y =>
        u.sumacUnit g.kind (g.group * peerSize g.kind + y.1) y.2 (median2 g.times)) s) := rfl
  rw [he, if_neg (by omega), zip_range, List.foldl_map, foldl_windowed, hn]

theorem windowed_stores (hs : UnitStores s) : UnitStores (windowed kind base m times s n) := by
  induction n with
  | zero => exact hs
  | succ n ih => exact ih.sumacUnit ..

theorem windowed_banked : Banked s (windowed kind base m times s n) := by
  induction n with
  | zero => exact .refl
  | succ n ih => exact ih.trans (.sumacUnit ..)

/-- The windows of the other units leave a unit as it was. -/
theorem windowed_kept (hk : k ≤ n) (h : ∀ j, k ≤ j → j < n → j ≠ i) :
    UnitKept kind (base + i) (windowed kind base m times s k) (windowed kind base m times s n) := by
  induction n with
  | zero =>
    obtain rfl : k = 0 := by omega
    exact .refl
  | succ n ih =>
    rcases Nat.lt_or_ge n k with hlt | hge
    · obtain rfl : k = n + 1 := by omega
      exact .refl
    · refine (ih hge fun j h1 h2 => h j h1 (by omega)).trans (.sumacUnit _ ?_ ..)
      have := h n hge (by omega)
      omega

theorem windowed_before (s : State) (i : Nat) : UnitKept kind (base + i) s (windowed kind base m times s i) :=
  windowed_kept (k := 0) (Nat.zero_le i) fun j _ h => by omega

theorem windowed_after (h : i < n) : UnitKept kind (base + i) (windowed kind base m times s (i + 1)) (windowed kind base m times s n) :=
  windowed_kept h fun j h1 _ => by omega

theorem aboveAt_congr (h : Banked s u) : aboveAt u kind idx x m = aboveAt s kind idx x m := by
  unfold aboveAt
  rw [h.setting]

theorem dueAt_congr (hk : UnitKept kind idx s u) (hb : Banked s u) : aboveAfter u kind idx x m = aboveAfter s kind idx x m ∧
    belowAfter u kind idx x m = belowAfter s kind idx x m ∧ toldAt u kind idx x m = toldAt s kind idx x m ∧
    dueAt u kind idx x m = dueAt s kind idx x m := by
  have ha : aboveAt u kind idx x m = aboveAt s kind idx x m := aboveAt_congr hb
  have h1 : aboveAfter u kind idx x m = aboveAfter s kind idx x m := by rw [aboveAfter, ha, hk.above, aboveAfter]
  have h2 : belowAfter u kind idx x m = belowAfter s kind idx x m := by rw [belowAfter, ha, hk.below, belowAfter]
  have h3 : toldAt u kind idx x m = toldAt s kind idx x m := by
    have hd : u.hlt.declared.contains (unitKey kind idx) = s.hlt.declared.contains (unitKey kind idx) := by
      rw [Bool.eq_iff_iff, List.contains_iff_mem, List.contains_iff_mem]
      exact hk.declared
    rw [toldAt, ha, hd, toldAt]
  exact ⟨h1, h2, h3, by rw [dueAt, ha, h1, h3, hb.setting, dueAt]⟩

/-- A unit's own window starts from the runs it had. -/
theorem windowed_at (s : State) (kind base m : Nat) (times : List Nat) (i x : Nat) :
    let u := windowed kind base m times s i
    aboveAfter u kind (base + i) x m = aboveAfter s kind (base + i) x m ∧ belowAfter u kind (base + i) x m = belowAfter s kind (base + i) x m ∧
    toldAt u kind (base + i) x m = toldAt s kind (base + i) x m ∧ dueAt u kind (base + i) x m = dueAt s kind (base + i) x m :=
  dueAt_congr (windowed_before s i) windowed_banked

/-- While none of the units is declared, none moves. -/
theorem windowed_quiet (hk : k ≤ n) (h : ∀ j, k ≤ j → j < n → dueAt s kind (base + j) (times.getD j 0) m = false) :
    UnitsRest (windowed kind base m times s k) (windowed kind base m times s n) := by
  induction n with
  | zero =>
    obtain rfl : k = 0 := by omega
    exact .refl
  | succ n ih =>
    rcases Nat.lt_or_ge n k with hlt | hge
    · obtain rfl : k = n + 1 := by omega
      exact .refl
    · obtain ⟨-, -, -, hd⟩ := windowed_at s kind base m times n (times.getD n 0)
      exact (ih hge fun j h1 h2 => h j h1 (by omega)).trans (sumacUnit_quiet (hd.trans (h n hge (by omega))))

end Sys2Proof
end

section
/-! PROOF. The frames that are lost with a stalled unit, and what replaces it (R179, R434). -/
namespace Sys2Proof

open Sys2Proof.Machine

set_option Elab.async false

variable {s u v w t : State} {kind idx id sp : Nat} {f : Frame}

/-! ## What the loss of frames leaves as it was -/

/-- Counters that the loss of a frame may advance. -/
def stallCnt (id : Nat) : Prop := queueCnt id ∨ actCnt id ∨ ∃ q < 16384, id = C.dropsFull q

/-- No record of a unit changes; frames and replicas are among the former ones, and a bad frame stays bad. -/
structure Stalls (s t : State) : Prop extends RepsBelow s t where
  hlt : t.hlt = s.hlt
  swc : t.swc = s.swc
  cnts : ∀ id, ¬ stallCnt id → t.counter id = s.counter id
  frames : ∀ k g, t.frame k = some g → ∃ f, s.frame k = some f ∧ (f.bad = true → g.bad = true)

namespace Stalls

theorem refl (hs : StoresCanonical s) (hr : FramesInRange s) : Stalls s s := ⟨.refl hs hr, rfl, rfl, fun _ _ => rfl, fun _ g h => ⟨g, h, id⟩⟩

theorem trans (h : Stalls s u) (h' : Stalls u v) : Stalls s v where
  canon := h'.canon
  range := h'.range
  below k r hk := by
    obtain ⟨b, hb⟩ := h'.below k r hk
    exact h.below k { r with yielded := b } hb
  hlt := h'.hlt.trans h.hlt
  swc := h'.swc.trans h.swc
  cnts id hid := (h'.cnts id hid).trans (h.cnts id hid)
  frames k g hg := by
    obtain ⟨f, hf, hb⟩ := h'.frames k g hg
    obtain ⟨f', hf', hb'⟩ := h.frames k f hf
    exact ⟨f', hf', fun hx => hb (hb' hx)⟩

theorem count (h : Stalls s u) {id : Nat} (hid : stallCnt id) : Stalls s (u.count id) :=
  ⟨h.of_reps (Evolves.refl.count _) rfl, h.hlt, h.swc,
    fun k hk => (State.counter_count_ne _ _ _ fun e : id = k => hk (e ▸ hid)).trans (h.cnts k hk), h.frames⟩

/-- A further record of a frame that the device holds takes its place. -/
theorem placed_frames (h : Stalls s u) {g : Frame} (hf : ∃ f, s.frame id = some f ∧ (f.bad = true → g.bad = true)) (k : Nat) (x : Frame)
    (hx : sfind (sinsert u.frames id g) k = some x) : ∃ f, s.frame k = some f ∧ (f.bad = true → x.bad = true) := by
  by_cases hk : id = k
  · subst hk
    rw [sfind_sinsert_self] at hx
    cases hx
    exact hf
  · rw [sfind_sinsert_ne _ _ _ _ hk] at hx
    exact h.frames k x hx

theorem pathProof : PathProof (Stalls s) where
  canon h := h.canon
  range h := h.range
  due p i b h := ⟨RepsBelow.pathProof.due p i b h.toRepsBelow, h.hlt, h.swc, h.cnts, h.frames⟩
  xoff v hp hu h := ⟨RepsBelow.pathProof.xoff v hp hu h.toRepsBelow, h.hlt, h.swc, h.cnts, h.frames⟩
  endEpoch {u} h := by
    obtain ⟨rows, fwd, he⟩ := endEpoch_eq u
    have hb := RepsBelow.pathProof.endEpoch h.toRepsBelow
    rw [he] at hb ⊢
    exact ⟨hb, h.hlt, h.swc, h.cnts, h.frames⟩
  counts hid h := h.count (.inl (.inl hid))
  yielded hu hw hk := ⟨RepsBelow.pathProof.yielded hu.toRepsBelow hw.toRepsBelow hk, hw.hlt, hw.swc, hw.cnts, hw.frames⟩
  txDone id h := ⟨RepsBelow.pathProof.txDone id h.toRepsBelow, h.hlt, h.swc, h.cnts, h.frames⟩
  erased {u} id h := by
    refine ⟨RepsBelow.pathProof.erased id h.toRepsBelow, h.hlt, h.swc, h.cnts, fun k g hg => h.frames k g ?_⟩
    by_cases hk : id = k
    · subst hk
      rw [State.frame, sfind_serase_self _ none _ h.canon.frames] at hg
      cases hg
    · rwa [State.frame, sfind_serase_ne _ _ _ hk] at hg
  dropped {u w id f} hu hw hf :=
    ⟨RepsBelow.pathProof.dropped hu.toRepsBelow hw.toRepsBelow hf, hw.hlt, hw.swc, hw.cnts, hw.placed_frames (hu.frames id f hf)⟩
  freed k h := ⟨RepsBelow.pathProof.freed k h.toRepsBelow, h.hlt, h.swc, h.cnts, h.frames⟩

theorem queueProof : QueueProof (Stalls s) where
  toPathProof := pathProof
  sent p bs h := ⟨RepsBelow.queueProof.sent p bs h.toRepsBelow, h.hlt, h.swc, h.cnts, h.frames⟩
  qcounts hid h := h.count (.inl hid)
  flushAdd {u} p h := by
    have hb := RepsBelow.queueProof.flushAdd p h.toRepsBelow
    have hf := (FwdOnly.refl (s := u)).flushAdd p
    rw [FwdOnly] at hf
    rw [hf] at hb ⊢
    exact ⟨hb, h.hlt, h.swc, h.cnts, h.frames⟩

theorem actProof : ActProof (Stalls s) where
  toPathProof := pathProof
  acounts hid h := h.count (.inr (.inl hid))
  placed {u id f} n hf hcls h := by
    have hf' := hf
    obtain ⟨f0, hf0, hk⟩ := hf'
    obtain ⟨f1, hf1, hb⟩ := h.frames _ f0 hf0
    exact ⟨RepsBelow.actProof.placed n hf hcls h.toRepsBelow, h.hlt, h.swc, h.cnts,
      h.placed_frames ⟨f1, hf1, fun hx => hk.bad.trans (hb hx)⟩⟩

end Stalls

/-! ## A frame leaves only after its replicas (R299) -/

/-- Of a frame that has left no replica stays. -/
structure Cleared (s t : State) : Prop extends Stalls s t where
  cleared : ∀ id f, s.frame id = some f → t.frame id = none → ∀ k r, t.rep k = some r → r.frame ≠ id

namespace Cleared

theorem of_live (h : Stalls s t) (hl : ∀ k f, s.frame k = some f → t.frame k ≠ none) : Cleared s t :=
  ⟨h, fun k f hf hn => absurd hn (hl k f hf)⟩

theorem refl (hs : StoresCanonical s) (hr : FramesInRange s) : Cleared s s := .of_live (.refl hs hr) fun k f hf hn => by rw [hf] at hn; cases hn

theorem trans (h : Cleared s u) (h' : Cleared u v) : Cleared s v := by
  refine ⟨h.toStalls.trans h'.toStalls, fun id f hf hn k r hk => ?_⟩
  cases hu : u.frame id with
  | none =>
    obtain ⟨b, hb⟩ := h'.below k r hk
    exact h.cleared id f hf hu k { r with yielded := b } hb
  | some g => exact h'.cleared id g hu hn k r hk

/-- A step after which every frame is still there. -/
theorem live (h : Cleared s u) (hv : Stalls u u → Stalls u v) (hl : ∀ k f, u.frame k = some f → v.frame k ≠ none) : Cleared s v :=
  h.trans (.of_live (hv (.refl h.canon h.range)) hl)

theorem same (h : Cleared s u) (hv : Stalls u u → Stalls u v) (hf : v.frames = u.frames) : Cleared s v :=
  h.live hv fun k f hk hn => by
    rw [State.frame, hf] at hn
    exact absurd (hk.symm.trans hn) nofun

theorem checkGone (h : Cleared s u) (id : Nat) : Cleared s (u.checkGone id) := by
  refine h.trans ⟨Stalls.pathProof.checkGone id (.refl h.canon h.range), fun j f hj hn k r hk hrj => ?_⟩
  unfold State.checkGone at hn hk
  split at hn
  · next hr =>
    rw [if_pos hr, State.rep, frameGone_reps] at hk
    by_cases hij : id = j
    · have hm : (k, r) ∈ u.repsOf id := List.mem_filter.mpr ⟨mem_of_sfind hk, by simp [hrj, hij]⟩
      have hlen := List.length_pos_of_mem hm
      rw [State.refs] at hr
      omega
    · cases hf : u.frame id with
      | none =>
        simp only [State.frameGone, hf] at hn
        exact absurd (hj.symm.trans hn) nofun
      | some g =>
        rw [State.frame, (frameGone_leaves hf).1] at hn
        have hsame : sfind u.frames j = none := by
          split at hn
          · rwa [sfind_serase_ne _ _ _ hij] at hn
          · rwa [sfind_sinsert_ne _ _ _ _ hij] at hn
        exact absurd (hj.symm.trans hsame) nofun
  · exact absurd (hj.symm.trans hn) nofun

theorem release (h : Cleared s u) (k : Nat) : Cleared s (u.release k) := by
  unfold State.release
  split
  · exact h
  · extract_lets u1 u2 u3
    have h1 : Cleared s u1 := keep_ite (h.same Stalls.pathProof.frameYields (by rw [frameYields_rest])) h
    have h2 : Cleared s u2 := h1.same (Stalls.pathProof.freed k) rfl
    exact checkGone (keep_ite (h2.same (Stalls.pathProof.txDone _) rfl) h2) _

theorem stompRep (h : Cleared s u) (k : Nat) : Cleared s (u.stompRep k) := by
  unfold State.stompRep
  split
  · exact h
  · next r hr =>
    have hq : portOf r.q < 1024 := portOf_lt (h.range.queues _ (mem_of_sfind hr))
    exact release (h.same (fun hu => Stalls.queueProof.qcounts (.inr ⟨_, hq, .inl rfl⟩) (Stalls.queueProof.sent _ _ hu)) rfl) k

theorem killReplicas (h : Cleared s u) (id : Nat) : Cleared s (u.killReplicas id) :=
  foldl_keeps _ _ h fun _ kv _ hv => keep_ite (hv.stompRep kv.1) (hv.release kv.1)

theorem placed (h : Cleared s u) (n : Nat) (hf : Held u id f) (hc : f.cls < 16) :
    Cleared s { u with frames := sinsert u.frames id f, nextLk := n } := by
  refine h.live (Stalls.actProof.placed n hf hc) fun k g hk hn => ?_
  by_cases hid : id = k
  · subst hid
    rw [State.frame, sfind_sinsert_self] at hn
    cases hn
  · rw [State.frame, sfind_sinsert_ne _ _ _ _ hid] at hn
    exact absurd (hk.symm.trans hn) nofun

theorem discardTo {c : Nat → Nat} (hk : ∀ p < 1024, actCnt (c p)) (hf : Held u id f) (hc : f.cls < 16) (h : Cleared s u) :
    Cleared s (u.discardTo id f c) := by
  have hd : Cleared s (u.countDrop f c) := h.same (Stalls.actProof.countDrop hk hf) rfl
  unfold State.discardTo
  split
  · exact hd.placed _ (hf.upd ⟨rfl, rfl, rfl, rfl, rfl⟩) hc
  · exact checkGone (hd.placed (u.countDrop f c).nextLk hf hc) id

theorem applyAction (h : Cleared s u) (a : Action) (hf : Held u id f) : Cleared s (u.applyAction id f a) := by
  unfold State.applyAction
  extract_lets g
  have hg : Held u id g := hf.upd ⟨rfl, rfl, rfl, rfl, rfl⟩
  have hc : g.cls < 16 := Action.cls_lt a
  have hadv : ∀ (w : State) (x : Frame) (st : Stage), Cleared s w → Held w id x → x.cls < 16 → Cleared s (w.advance id x st) :=
    fun w x st hw hx hcx => hw.placed _ (hx.upd (g := { x with stage := st, lkSeq := w.nextLk }) ⟨rfl, rfl, rfl, rfl, rfl⟩) hcx
  have hdrops : ∀ p < 1024, actCnt (C.pipDrops p) := fun p hp => .inr (.inl ⟨p, hp, .inl rfl⟩)
  have hdis : Cleared s (u.discardTo id g C.pipDrops) := discardTo hdrops hg hc h
  refine keep_ite (hadv _ _ _ h (hg.upd ⟨rfl, rfl, rfl, rfl, rfl⟩) hc) (keep_ite hdis (keep_ite (keep_ite
    (hadv _ _ _ h (hg.upd ⟨rfl, rfl, rfl, rfl, rfl⟩) hc) ?_) (hadv _ _ _ h hg hc)))
  split
  · exact hadv _ _ _ (h.same (Stalls.actProof.countDrop hdrops hg) rfl) (hg.upd ⟨rfl, rfl, rfl, rfl, rfl⟩) hc
  · exact hdis

theorem dpiRelease (h : Cleared s u) (f0 : Frame) (n : Nat) : Cleared s (u.dpiRelease f0 n) := by
  induction n generalizing u with
  | zero => exact h
  | succ n ih =>
    unfold State.dpiRelease
    split
    · exact h
    · next id f hfind =>
      have hm := List.mem_of_find?_eq_some hfind
      have hf : Held u id f := .of_frame (frame_of_mem h.canon hm) .refl
      have hslice : f.slice < 8 := Stalls.actProof.slice_lt hf (Stalls.refl h.canon h.range)
      have hs : Cleared s (u.count (C.dpiRecirc f.slice)) :=
        h.same (Stalls.actProof.acounts (.inr (.inr (.inr ⟨f.slice, hslice, rfl⟩)))) rfl
      refine keep_ite h (ih (keep_ite ?_ (h.applyAction _ (hf.upd ⟨rfl, rfl, rfl, rfl, rfl⟩))))
      exact hs.placed (u.count (C.dpiRecirc f.slice)).nextLk (hf.upd (g := { f with stage := .recirc }) ⟨rfl, rfl, rfl, rfl, rfl⟩)
        (h.range.classes _ hm)

end Cleared

/-! ## One lost frame (R179, R434) -/

/-- The frame is bad where it is still there, and no replica of it is. -/
structure LostOf (id : Nat) (s : State) : Prop where
  bad : ∀ g, s.frame id = some g → g.bad = true
  reps : ∀ k r, s.rep k = some r → r.frame ≠ id

theorem LostOf.keep (h : LostOf id s) (h' : Stalls s t) : LostOf id t := by
  refine ⟨fun g hg => ?_, fun k r hk => ?_⟩
  · obtain ⟨f, hf, hb⟩ := h'.frames id g hg
    exact hb (h.bad f hf)
  · obtain ⟨b, hb⟩ := h'.below k r hk
    exact h.reps k { r with yielded := b } hb

/-- What counts a lost frame. -/
def lossCounted (s : State) (kind id : Nat) (f : Frame) : State :=
  if kind = 0 then s.countDrop f C.pipDrops
  else (s.repsOf id).foldl (fun (s : State) kv => if kv.2.tx.isSome then s else s.count (C.dropsFull kv.2.q)) s

/-- The frame is marked as found bad. -/
def markedBad (s : State) (id : Nat) : State := s.updFrame id fun f => { f with bad := true }

theorem stallFrame_eq (hf : s.frame id = some f) : s.stallFrame kind s id =
    ((((markedBad (lossCounted s kind id f) id).killReplicas id).checkGone id).dpiRelease f
      ((((markedBad (lossCounted s kind id f) id).killReplicas id).checkGone id).frames.length + 1)) := by
  simp only [State.stallFrame, hf]
  rfl

theorem lossCounted_cleared (h : Cleared s u) (kind : Nat) (hf : u.frame id = some f) :
    Cleared s (lossCounted u kind id f) ∧ (lossCounted u kind id f).frames = u.frames := by
  have key : Stalls u (lossCounted u kind id f) ∧ (lossCounted u kind id f).frames = u.frames := by
    unfold lossCounted
    split
    · exact ⟨Stalls.actProof.countDrop (fun p hp => .inr (.inl ⟨p, hp, .inl rfl⟩)) (.of_frame hf .refl) (.refl h.canon h.range), rfl⟩
    · refine foldl_keeps (P := fun w => Stalls u w ∧ w.frames = u.frames) _ _ ⟨.refl h.canon h.range, rfl⟩ fun w kv hkv hw => ?_
      refine keep_ite (P := fun w => Stalls u w ∧ w.frames = u.frames) hw ⟨hw.1.count (.inr (.inr ⟨_, ?_, rfl⟩)), hw.2⟩
      exact h.range.queues _ (List.mem_of_mem_filter hkv)
  exact ⟨h.same (fun _ => key.1) key.2, key.2⟩

theorem markedBad_cleared (h : Cleared s u) (id : Nat) :
    Cleared s (markedBad u id) ∧ ∀ g, (markedBad u id).frame id = some g → g.bad = true := by
  unfold markedBad State.updFrame
  split
  · next f hf =>
    have hev : Evolves u (u.putFrame id { f with bad := true }) := Evolves.refl.putFrame _ fun _ =>
      have ⟨hp, hr, hk⟩ := h.range.frame (mem_of_sfind hf)
      ⟨hp, hr, hk⟩
    refine ⟨h.live (fun hu => ⟨hu.of_reps hev rfl, rfl, rfl, fun _ _ => rfl, hu.placed_frames ⟨f, hf, fun _ => rfl⟩⟩) fun k g hk hn => ?_,
      fun g hg => ?_⟩
    · by_cases hid : id = k
      · subst hid
        rw [show State.frame (u.putFrame id _) id = _ from sfind_sinsert_self ..] at hn
        cases hn
      · rw [show State.frame (u.putFrame id _) k = _ from sfind_sinsert_ne _ _ _ _ hid] at hn
        exact absurd (hk.symm.trans hn) nofun
    · rw [show State.frame (u.putFrame id _) id = _ from sfind_sinsert_self ..] at hg
      cases hg
      rfl
  · next hn => exact ⟨h, fun g hg => absurd (hn.symm.trans hg) nofun⟩

theorem stallFrame_loses (h : Cleared s u) (kind : Nat) (hf : u.frame id = some f) :
    Cleared s (u.stallFrame kind u id) ∧ LostOf id (u.stallFrame kind u id) := by
  rw [stallFrame_eq hf]
  obtain ⟨h1, -⟩ := lossCounted_cleared h kind hf
  generalize lossCounted u kind id f = a at h1
  obtain ⟨h2, hbad⟩ := markedBad_cleared h1 id
  generalize markedBad a id = b at h2 hbad
  have hkill : Cleared b (b.killReplicas id) := (Cleared.refl h2.canon h2.range).killReplicas id
  have hlost : LostOf id (b.killReplicas id) := by
    refine ⟨fun g hg => ?_, fun k r hk hid => ?_⟩
    · obtain ⟨f, hf, hb⟩ := hkill.frames id g hg
      exact hb (hbad f hf)
    · have hm : (k, r) ∈ (b.killReplicas id).repsOf id := List.mem_filter.mpr ⟨mem_of_sfind hk, by simp [hid]⟩
      rw [killReplicas_gone h2.canon h2.range] at hm
      cases hm
  have h3 := h2.trans hkill
  generalize b.killReplicas id = c at h3 hlost
  have hrest : Cleared c ((c.checkGone id).dpiRelease f ((c.checkGone id).frames.length + 1)) :=
    ((Cleared.refl h3.canon h3.range).checkGone id).dpiRelease _ _
  exact ⟨h3.trans hrest, hlost.keep hrest.toStalls⟩

/-- Every frame that the unit held is lost. -/
theorem stallFrames_lose (h : Cleared s u) (kind : Nat) (l : List Nat) :
    Cleared s (l.foldl (fun (s : State) id => s.stallFrame kind s id) u) ∧
      ∀ id ∈ l, (∃ f, s.frame id = some f) → LostOf id (l.foldl (fun (s : State) id => s.stallFrame kind s id) u) := by
  induction l generalizing u with
  | nil => exact ⟨h, nofun⟩
  | cons j l ih =>
    have hstep : Cleared s (u.stallFrame kind u j) ∧ ((∃ f, s.frame j = some f) → LostOf j (u.stallFrame kind u j)) := by
      cases hf : u.frame j with
      | none =>
        have he : u.stallFrame kind u j = u := by simp only [State.stallFrame, hf]
        rw [he]
        exact ⟨h, fun ⟨f, hs⟩ => ⟨fun g hg => absurd (hf.symm.trans hg) nofun, h.cleared j f hs hf⟩⟩
      | some f =>
        obtain ⟨h1, h2⟩ := stallFrame_loses h kind hf
        exact ⟨h1, fun _ => h2⟩
    obtain ⟨h1, h2⟩ := ih hstep.1
    refine ⟨h1, fun id hid hf => ?_⟩
    rcases List.mem_cons.mp hid with rfl | hid
    · have hrefl : Cleared (u.stallFrame kind u id) (u.stallFrame kind u id) := .refl hstep.1.canon hstep.1.range
      exact (hstep.2 hf).keep (foldl_keeps (P := Stalls (u.stallFrame kind u id)) l _ hrefl.toStalls fun w k _ hw => by
        cases hk : w.frame k with
        | none =>
          have he : w.stallFrame kind w k = w := by simp only [State.stallFrame, hk]
          rwa [he]
        | some g => exact hw.trans (stallFrame_loses (.refl hw.canon hw.range) kind hk).1.toStalls)
    · exact h2 id hid hf

end Sys2Proof
end

section
/-! PROOF. A unit that stalls, and a unit whose self-test ends (R433, R434). -/
namespace Sys2Proof

open Sys2Proof.Machine

set_option Elab.async false

variable {s u v w t : State} {kind idx id sp : Nat} {f : Frame} {tokens : List Nat}

/-! ## What replaces a stalled unit -/

/-- A stalled active unit gives way to its pool's spare, its rows not copied; without a spare it stays. -/
def replaced (s : State) (kind idx : Nat) : State :=
  match s.spareOf kind (poolOf kind idx) with
  | some sp =>
    let t := s.swapUnit kind idx sp
    if kind = 1 then { t with swc := { t.swc with bankCopy := t.swc.bankCopy.filter fun x => x.1 != idx } } else t
  | none => s.event Ev.stragglerNoSpare (unitInst kind idx) 0

theorem replaced_stays (h : s.spareOf kind (poolOf kind idx) = none) :
    replaced s kind idx = s.event Ev.stragglerNoSpare (unitInst kind idx) 0 := by
  unfold replaced
  rw [h]

theorem replaced_swaps (h : s.spareOf kind (poolOf kind idx) = some sp) :
    ∃ l, replaced s kind idx = { s.swapUnit kind idx sp with swc := { s.swc with bankCopy := l } } ∧
      ((∀ x ∈ s.swc.bankCopy, x.1 ≠ idx) → l = s.swc.bankCopy) := by
  unfold replaced
  rw [h]
  have hw := swapUnit_swc s kind idx sp
  by_cases hk : kind = 1
  · refine ⟨(s.swc.bankCopy ++ [(idx, sp)]).filter fun x => x.1 != idx, ?_, fun hno => ?_⟩
    · simp only [hk, if_true] at hw ⊢
      rw [hw]
      simp only [bankSwapped, if_true]
    · rw [List.filter_append, List.filter_eq_self.mpr (by simpa using hno)]
      simp
  · refine ⟨s.swc.bankCopy, ?_, fun _ => rfl⟩
    simp only [hk, if_false]
    rw [bankSwapped, if_neg hk] at hw
    rw [← hw]

/-! ## The stall -/

/-- The stall is noted, and every frame that the unit held is lost. -/
def stallNoted (s : State) (kind idx : Nat) : State := s.event Ev.unitStalled (unitInst kind idx) 0
def emptied (s : State) (kind idx : Nat) (tokens : List Nat) : State :=
  ((stallNoted s kind idx).heldIn kind idx tokens).foldl (fun (s : State) id => s.stallFrame kind s id) (stallNoted s kind idx)

/-- The cells of a stalled buffer bank are lost too. -/
def bankEmptied (s : State) (kind bank : Nat) : State := if kind = 1 then s.loseBank bank else s

theorem exec_unitStalled (hk : kind < 8) (tokens : List Nat) : exec (.unitStalled kind idx tokens) s = .next
    (if s.unit kind idx = .active then replaced (bankEmptied (emptied s kind idx tokens) kind (s.logicalOf kind idx)) kind idx
     else emptied s kind idx tokens) := by
  have hx : exec (.unitStalled kind idx tokens) s = execUnitStalled kind idx tokens s := rfl
  rw [hx, execUnitStalled]
  refine congrArg Host.Outcome.next ((if_neg (Nat.not_le.mpr hk)).trans ?_)
  by_cases ha : s.unit kind idx = .active
  · have hb : (s.unit kind idx == UnitSt.active) = true := by rw [ha]; rfl
    rw [if_pos ha]
    simp only [hb, and_true, Bool.not_true, Bool.false_eq_true, if_false]
    rfl
  · have hb : (s.unit kind idx == UnitSt.active) = false := Bool.eq_false_iff.mpr fun h => ha (eq_of_beq h)
    rw [if_neg ha]
    simp only [hb, and_false, Bool.not_false, if_true, if_false, Bool.false_eq_true]
    rfl

theorem stallNoted_signals (s : State) (kind idx : Nat) : Signals [] [] s (stallNoted s kind idx) := Signals.refl.event (by decide) ..

theorem stallNoted_units (s : State) (kind idx : Nat) :
    (stallNoted s kind idx).hlt.units = s.hlt.units ∧ (stallNoted s kind idx).hlt.logical = s.hlt.logical := by
  unfold stallNoted
  rw [event_hlt]
  exact ⟨rfl, rfl⟩

theorem not_stallCnt {id : Nat} (h : id = C.swaps ∨ id = C.events Ev.unitStalled) : ¬ stallCnt id := by
  have hid : id = 0x41 ∨ id = 0x182 := h
  rintro (hq | ha | ⟨q, hq, hc⟩)
  · rcases hq with hp | ⟨p, hp, hc⟩
    · rcases hp with hc | hc | ⟨r, hr, hc⟩ <;> simp only [C.ladderYield, C.txFrames] at hc <;> omega
    · simp only [C.prtTxStomped, C.flushed, C.stale, C.page] at hc
      omega
  · rcases ha with hp | ⟨p, hp, hc⟩ | ⟨r, hr, hc⟩ | ⟨sl, hsl, hc⟩
    · rcases hp with hc | hc | ⟨r, hr, hc⟩ <;> simp only [C.ladderYield, C.txFrames] at hc <;> omega
    · simp only [C.pipDrops, C.fwdDrops, C.page] at hc
      omega
    · simp only [C.txDrops] at hc
      omega
    · simp only [C.dpiRecirc] at hc
      omega
  · simp only [C.dropsFull] at hc
    omega

/-- The frames that a unit holds. -/
theorem mem_heldIn (hid : if kind = 0 then ∃ f, s.frame id = some f ∧ f.stage = Stage.admitted ∧ f.pipe = idx else id ∈ tokens) :
    id ∈ s.heldIn kind idx tokens := by
  unfold State.heldIn
  split
  · next hk =>
    rw [if_pos hk] at hid
    obtain ⟨f, hf, h1, h2⟩ := hid
    exact List.mem_map.mpr ⟨(id, f), List.mem_filter.mpr ⟨mem_of_sfind hf, by simp [h1, h2]⟩, rfl⟩
  · next hk => rwa [if_neg hk] at hid

/-- The loss of the frames held. -/
theorem emptied_spec (hs : StoresCanonical s) (hr : FramesInRange s) (kind idx : Nat) (tokens : List Nat) :
    Cleared (stallNoted s kind idx) (emptied s kind idx tokens) ∧
      ∀ id f, (if kind = 0 then ∃ f, s.frame id = some f ∧ f.stage = Stage.admitted ∧ f.pipe = idx else id ∈ tokens) → s.frame id = some f →
        LostOf id (emptied s kind idx tokens) := by
  have hev : Evolves s (stallNoted s kind idx) := Evolves.refl.event ..
  have hframe : ∀ id, (stallNoted s kind idx).frame id = s.frame id := fun id => by rw [(stallNoted_signals s kind idx).rest]; rfl
  obtain ⟨h1, h2⟩ := stallFrames_lose (.refl (hev.stores hs) (hev.range hr)) kind ((stallNoted s kind idx).heldIn kind idx tokens)
  refine ⟨h1, fun id f hid hf => h2 id (mem_heldIn ?_) ⟨f, (hframe id).trans hf⟩⟩
  simp only [hframe]
  exact hid

/-- The cells of a frame that lie on die in a bank. -/
def cellsIn (bank : Nat) (f : Frame) : List Nat :=
  (List.range f.cells.length).filter fun i => f.pool != some Pool.spill && f.cells.getD i 0 / 2048 == bank

/-- A frame without its cells in a bank. -/
def withoutBank (bank : Nat) (f : Frame) : Frame := { f with gone := f.gone ++ cellsIn bank f }

theorem mem_cellsIn (bank : Nat) (f : Frame) (c : Nat) :
    c ∈ cellsIn bank f ↔ c < f.cells.length ∧ f.pool ≠ some .spill ∧ f.cells.getD c 0 / 2048 = bank := by
  simp [cellsIn]

theorem loseBank_frame (s : State) (bank id : Nat) : (s.loseBank bank).frame id = (s.frame id).map (withoutBank bank) :=
  sfind_map (withoutBank bank) s.frames id

/-- The loss of a bank's cells brings no lost frame back. -/
theorem bankEmptied_lost (kind bank : Nat) (h : LostOf id s) : LostOf id (bankEmptied s kind bank) := by
  unfold bankEmptied
  split
  · refine ⟨fun g hg => ?_, h.reps⟩
    rw [loseBank_frame] at hg
    obtain ⟨f, hf, rfl⟩ := Option.map_eq_some_iff.mp hg
    exact h.bad f hf
  · exact h

theorem bankEmptied_rest (s : State) (kind bank : Nat) : bankEmptied s kind bank = { s with frames := (bankEmptied s kind bank).frames } := by
  unfold bankEmptied
  split <;> rfl

/-- What no swap and no event reaches. -/
theorem LostOf.rest (h : LostOf id s) (hf : t.frames = s.frames) (hr : t.reps = s.reps) : LostOf id t := by
  refine ⟨fun g hg => h.bad g ?_, fun k r hk => h.reps k r ?_⟩
  · rwa [State.frame, hf] at hg
  · rwa [State.rep, hr] at hk

theorem replaced_held (s : State) (kind idx : Nat) : (replaced s kind idx).frames = s.frames ∧ (replaced s kind idx).reps = s.reps := by
  cases hsp : s.spareOf kind (poolOf kind idx) with
  | some sp =>
    obtain ⟨l, he, -⟩ := replaced_swaps hsp
    have hw := swapUnit_signals s kind idx sp
    rw [he]
    exact ⟨by rw [hw.rest], by rw [hw.rest]⟩
  | none =>
    have hw : Signals [] [] s (s.event Ev.stragglerNoSpare (unitInst kind idx) 0) := Signals.refl.event (by decide) ..
    rw [replaced_stays hsp]
    exact ⟨by rw [hw.rest], by rw [hw.rest]⟩

/-- A stall in full: its count, the frames lost, and the unit and its spare. -/
theorem unitStalled_spec (hs : StoresCanonical s) (hr : FramesInRange s) (hu : skeysFrom none s.hlt.units = true)
    (hl : skeysFrom none s.hlt.logical = true) (hk : kind < 8) (tokens : List Nat) :
    ∃ t, exec (.unitStalled kind idx tokens) s = .next t ∧ CountedOnce (C.events Ev.unitStalled) s t ∧
      (∀ id f, (if kind = 0 then ∃ f, s.frame id = some f ∧ f.stage = Stage.admitted ∧ f.pipe = idx else id ∈ tokens) →
        s.frame id = some f → LostOf id t) ∧
      (∀ k r, t.rep k = some r → ∃ b, s.rep k = some { r with yielded := b }) ∧
      (s.unit kind idx ≠ .active → t.hlt.units = s.hlt.units ∧ t.swc.bankCopy = s.swc.bankCopy ∧ t.counter C.swaps = s.counter C.swaps) ∧
      (∀ sp, s.unit kind idx = .active → s.spareOf kind (poolOf kind idx) = some sp →
        t.unit kind idx = .testing ∧ t.unit kind sp = .active ∧ t.logicalOf kind sp = s.logicalOf kind idx ∧
        (∀ i, i ≠ idx → i ≠ sp → t.unit kind i = s.unit kind i) ∧ CountedOnce C.swaps s t) ∧
      (s.unit kind idx = .active → s.spareOf kind (poolOf kind idx) = none → t.hlt.units = s.hlt.units ∧
        t.raised Ev.stragglerNoSpare (unitInst kind idx) = true ∧ t.counter C.swaps = s.counter C.swaps) := by
  obtain ⟨hclear, hlost⟩ := emptied_spec hs hr kind idx tokens
  have hunits := stallNoted_units s kind idx
  have hsig := stallNoted_signals s kind idx
  have hev : CountedOnce (C.events Ev.unitStalled) s (stallNoted s kind idx) := event_countedOnce hs ..
  have hsw : (stallNoted s kind idx).counter C.swaps = s.counter C.swaps := event_counter_ne _ (by decide) ..
  have hex := exec_unitStalled (s := s) (idx := idx) hk tokens
  generalize stallNoted s kind idx = u at *
  generalize emptied s kind idx tokens = v at *
  have hvc : skeysFrom none v.cnt = true := hclear.canon.cnt
  have hbelow : ∀ k r, v.rep k = some r → ∃ b, s.rep k = some { r with yielded := b } := fun k r hk => by
    obtain ⟨b, hb⟩ := hclear.below k r hk
    rw [hsig.rest] at hb
    exact ⟨b, hb⟩
  have hv1 : CountedOnce (C.events Ev.unitStalled) s v := countedOnce_of_counter hev (hclear.cnts _ (not_stallCnt (.inr rfl))).symm
  have hv2 : v.counter C.swaps = s.counter C.swaps := (hclear.cnts _ (not_stallCnt (.inl rfl))).trans hsw
  have hvu : v.hlt.units = s.hlt.units := (congrArg Hlt.units hclear.hlt).trans hunits.1
  have hvl : v.hlt.logical = s.hlt.logical := (congrArg Hlt.logical hclear.hlt).trans hunits.2
  by_cases ha : s.unit kind idx = .active
  · rw [if_pos ha] at hex
    have hrest := bankEmptied_rest v kind (s.logicalOf kind idx)
    have hlostb : ∀ id, LostOf id v → LostOf id (bankEmptied v kind (s.logicalOf kind idx)) := fun id h => bankEmptied_lost _ _ h
    generalize bankEmptied v kind (s.logicalOf kind idx) = w at *
    have hwh : w.hlt = v.hlt := by rw [hrest]
    have hwc : w.cnt = v.cnt := by rw [hrest]
    have hwu : w.hlt.units = s.hlt.units := (congrArg Hlt.units hwh).trans hvu
    have hwl : w.hlt.logical = s.hlt.logical := (congrArg Hlt.logical hwh).trans hvl
    have hw1 : CountedOnce (C.events Ev.unitStalled) s w := countedOnce_of_counter hv1 (counter_of_cnt hwc _).symm
    have hw2 : w.counter C.swaps = s.counter C.swaps := (counter_of_cnt hwc _).trans hv2
    have hwr : w.reps = v.reps := by rw [hrest]
    obtain ⟨hframes, hreps⟩ := replaced_held w kind idx
    refine ⟨_, hex, ?_, fun id f hid hf => (hlostb id (hlost id f hid hf)).rest hframes hreps, fun k r hk => hbelow k r ?_,
      fun h => absurd ha h, fun sp _ hsp => ?_, fun _ hsp => ?_⟩
    · cases hsp : w.spareOf kind (poolOf kind idx) with
      | some sp =>
        obtain ⟨l, he, -⟩ := replaced_swaps hsp
        rw [he]
        exact countedOnce_of_counter hw1 (swapUnit_counter w kind idx sp (by decide) (by decide) (by decide)).symm
      | none =>
        rw [replaced_stays hsp]
        exact countedOnce_of_counter hw1 (event_counter_ne _ (by decide) ..).symm
    · rwa [State.rep, hreps, hwr] at hk
    · have hsp' : w.spareOf kind (poolOf kind idx) = some sp := (spareOf_of_units hwu ..).trans hsp
      obtain ⟨l, he, -⟩ := replaced_swaps hsp'
      obtain ⟨m1, m2, m3, m4⟩ := swapUnit_moves (s := w) (hwu ▸ hu) (hwl ▸ hl) (spare_ne_active ha hsp)
      obtain ⟨c1, -⟩ := swapUnit_counts (s := w) (by rw [hwc]; exact hvc) kind idx sp
      rw [he]
      refine ⟨m1, m2, m4.trans (by rw [State.logicalOf, hwl, State.logicalOf]), fun i h1 h2 => (m3 i h1 h2).trans (unit_of_units hwu ..), ?_⟩
      unfold CountedOnce at c1 ⊢
      rwa [hw2] at c1
    · have hsp' : w.spareOf kind (poolOf kind idx) = none := (spareOf_of_units hwu ..).trans hsp
      rw [replaced_stays hsp']
      refine ⟨(event_units ..).trans hwu, ?_, (event_counter_ne _ (by decide) ..).trans hw2⟩
      rw [raised_event]
      simp [show evCondition Ev.stragglerNoSpare = true from by decide]
  · rw [if_neg ha] at hex
    refine ⟨v, hex, hv1, fun id f => hlost id f, hbelow, fun _ => ⟨hvu, ?_, hv2⟩, fun _ h => absurd h ha, fun h => absurd h ha⟩
    rw [hclear.swc, hsig.rest]

/-! ## A stall that holds no frame -/

theorem Signals.withFrames {rs : List Reg} {ids : List Nat} (h : Signals rs ids s u) (x : SMap Frame) :
    Signals rs ids { s with frames := x } { u with frames := x } := ⟨by rw [h.rest], h.regs, h.cnts⟩

theorem replaced_signals (hno : ∀ x ∈ s.swc.bankCopy, x.1 ≠ idx) (kind : Nat) : Signals [] [C.swaps] s (replaced s kind idx) := by
  cases hsp : s.spareOf kind (poolOf kind idx) with
  | some sp =>
    obtain ⟨l, he, hl⟩ := replaced_swaps hsp
    have hw := swapUnit_signals s kind idx sp
    rw [he, hl hno]
    exact ⟨by rw [hw.rest], hw.regs, hw.cnts⟩
  | none =>
    rw [replaced_stays hsp]
    exact Signals.refl.event (by decide) ..

theorem emptied_none (h : kind = 0 → ∀ id f, s.frame id = some f → f.stage ≠ Stage.admitted ∨ f.pipe ≠ idx) (hs : StoresCanonical s) :
    emptied s kind idx [] = stallNoted s kind idx := by
  have hno : (stallNoted s kind idx).heldIn kind idx [] = [] := by
    unfold State.heldIn
    split
    · next hk =>
      rw [show (stallNoted s kind idx).frames = s.frames by rw [(stallNoted_signals s kind idx).rest], List.map_eq_nil_iff,
        List.filter_eq_nil_iff]
      intro kv hkv hx
      simp only [Bool.and_eq_true, beq_iff_eq] at hx
      have hst : kv.2.stage = Stage.admitted := hx.1
      rcases h hk kv.1 kv.2 (frame_of_mem hs hkv) with h1 | h1
      · exact h1 hst
      · exact h1 hx.2
    · rfl
  rw [emptied, hno]
  rfl

theorem unitStalled_alone (hk : kind < 8) (ha : s.unit kind idx = .active) (hno : ∀ x ∈ s.swc.bankCopy, x.1 ≠ idx)
    (h : kind = 0 → ∀ id f, s.frame id = some f → f.stage ≠ Stage.admitted ∨ f.pipe ≠ idx) (hs : StoresCanonical s) :
    ∃ t, exec (.unitStalled kind idx []) s = .next t ∧ t.swc.bankCopy = s.swc.bankCopy ∧ t.reps = s.reps ∧
      t.frames = (bankEmptied s kind (s.logicalOf kind idx)).frames ∧ Signals [] [C.swaps] { s with frames := t.frames } t := by
  have hex := exec_unitStalled (s := s) (idx := idx) hk []
  rw [if_pos ha, emptied_none h hs] at hex
  have hn := stallNoted_signals s kind idx
  have hfr : (stallNoted s kind idx).frames = s.frames := by rw [hn.rest]
  have hbf : (bankEmptied (stallNoted s kind idx) kind (s.logicalOf kind idx)).frames = (bankEmptied s kind (s.logicalOf kind idx)).frames := by
    unfold bankEmptied
    split
    · simp only [State.loseBank, hfr]
    · exact hfr
  have hbn : (stallNoted s kind idx).swc.bankCopy = s.swc.bankCopy := by rw [hn.rest]
  generalize stallNoted s kind idx = u at *
  have hrest := bankEmptied_rest u kind (s.logicalOf kind idx)
  generalize bankEmptied u kind (s.logicalOf kind idx) = w at *
  have hwu : Signals [] [] { s with frames := w.frames } w := by
    have hw := hn.withFrames w.frames
    rwa [← hrest] at hw
  have hnow : ∀ x ∈ w.swc.bankCopy, x.1 ≠ idx := by
    rw [show w.swc.bankCopy = s.swc.bankCopy by rw [hrest]; exact hbn]
    exact hno
  have hr := replaced_signals hnow kind
  have hall : Signals [] [C.swaps] { s with frames := w.frames } (replaced w kind idx) := (hwu.weaken nofun nofun).trans hr
  have hfin : (replaced w kind idx).frames = w.frames := by rw [hr.rest]
  refine ⟨_, hex, by rw [hall.rest], by rw [hall.rest], hfin.trans hbf, ?_⟩
  rw [hfin]
  exact hall

/-! ## A frame held in a parse pipeline, without references -/

theorem repsOf_nil (h : s.refs id = 0) : s.repsOf id = [] := List.length_eq_zero_iff.mp (Nat.eq_zero_of_add_eq_zero_right h)

theorem killReplicas_none (h : s.repsOf id = []) : s.killReplicas id = s := by
  rw [State.killReplicas, h]
  rfl

theorem stallFrame_leaves (hs : StoresCanonical s) (hf : s.frame id = some f) (hh : f.fromHost = false) (hr : s.refs id = 0)
    (he : f.ended = true)
    (hno : ∀ k g, s.frame k = some g → k ≠ id → g.port = f.port → g.stage ≠ Stage.dpi ∧ g.stage ≠ Stage.recirc) :
    (s.stallFrame 0 s id).frame id = none ∧ (∀ k, k ≠ id → (s.stallFrame 0 s id).frame k = s.frame k) ∧
      (s.stallFrame 0 s id).reps = s.reps ∧ (s.stallFrame 0 s id).cnt = (s.count (C.pipDrops f.port)).cnt := by
  have hl : lossCounted s 0 id f = s.count (C.pipDrops f.port) := by
    rw [lossCounted, if_pos rfl, State.countDrop, hh]
    rfl
  have hm : markedBad (lossCounted s 0 id f) id = (s.count (C.pipDrops f.port)).putFrame id { f with bad := true } := by
    have hf' : (s.count (C.pipDrops f.port)).frame id = some f := hf
    rw [hl, markedBad, State.updFrame, hf']
  generalize hw : (s.count (C.pipDrops f.port)).putFrame id { f with bad := true } = w at hm
  have hwr : w.refs id = 0 := by rw [← hw]; exact hr
  have hwf : w.frame id = some { f with bad := true } := by rw [← hw]; exact sfind_sinsert_self ..
  have hgone : (w.killReplicas id).checkGone id = w.frameGone id := by
    rw [killReplicas_none (repsOf_nil hwr), checkGone_leaves hwr]
  obtain ⟨h1, h2⟩ := frameGone_leaves hwf
  rw [if_pos he] at h1
  simp only [hh, Bool.false_and, Bool.false_eq_true, if_false] at h2
  have hws : w.frames = sinsert s.frames id { f with bad := true } := by rw [← hw]; rfl
  have hwk : skeysFrom none w.frames = true := by
    rw [hws]
    exact skeysFrom_sinsert_none hs.frames _ _
  have hself : (w.frameGone id).frame id = none := by
    rw [State.frame, h1]
    exact sfind_serase_self _ _ _ hwk
  have hother : ∀ k, k ≠ id → (w.frameGone id).frame k = s.frame k := fun k hk => by
    rw [State.frame, h1, sfind_serase_ne _ _ _ (Ne.symm hk), hws, sfind_sinsert_ne _ _ _ _ (Ne.symm hk)]
    rfl
  have hgk : skeysFrom none (w.frameGone id).frames = true := by
    rw [h1]
    exact skeysFrom_serase _ _ _ hwk
  have hstop : ∀ kv ∈ (w.frameGone id).frames, inEngine f kv = true → kv.2.stage = Stage.recirc := fun kv hkv hin => by
    have hfk : (w.frameGone id).frame kv.1 = some kv.2 := sfind_of_mem hgk hkv
    have hne : kv.1 ≠ id := fun e => by
      rw [e, hself] at hfk
      cases hfk
    rw [hother _ hne] at hfk
    simp only [inEngine, Bool.and_eq_true, Bool.or_eq_true, beq_iff_eq] at hin
    obtain ⟨⟨hst, hp⟩, -⟩ := hin
    obtain ⟨n1, n2⟩ := hno _ _ hfk hne hp
    exact absurd hst (not_or.mpr ⟨n1, n2⟩)
  rw [stallFrame_eq hf, hm, hgone, dpiRelease_stops f _ hstop]
  refine ⟨hself, hother, ?_, ?_⟩
  · rw [frameGone_reps, ← hw]
    rfl
  · rw [h2, ← hw]
    rfl

end Sys2Proof
end

section
/-! PROOF. Sumac's windows, swaps, self-tests and stalls (R430 to R434). -/
namespace Sys2Proof

open Sys2Proof.Machine

set_option Elab.async false

variable {s u v t : State} {kind idx id sp j n m base : Nat} {f : Frame} {times : List Nat}

/-! ## Windows of any groups -/

theorem sumacWindow_banked (groups : List CycleGroup) (s : State) : ∃ t, exec (.sumacWindow groups) s = .next t ∧ Banked s t := by
  refine ⟨_, rfl, foldl_keeps (P := Banked s) groups _ .refl fun u g _ hu => ?_⟩
  exact keep_ite hu (foldl_keeps (P := Banked s) _ _ hu fun v y _ hv => hv.trans (.sumacUnit ..))

/-! ## A window in which no unit is declared -/

theorem windowed_own (hs : UnitStores s) (hj : j < n) (hd : dueAt s kind (base + j) (times.getD j 0) m = false) :
    let t := windowed kind base m times s n
    let k := unitKey kind (base + j)
    let x := times.getD j 0
    (aboveAt s kind (base + j) x m = false → sgetD t.hlt.aboveRun k 0 = 0 ∧ k ∉ t.hlt.declared ∧
      sgetD t.hlt.belowRun k 0 = min 100 (sgetD s.hlt.belowRun k 0 + 1) ∧
      (99 ≤ sgetD s.hlt.belowRun k 0 → t.raised Ev.stragglerNoSpare (unitInst kind (base + j)) = false)) ∧
    (aboveAt s kind (base + j) x m = true → sgetD t.hlt.aboveRun k 0 = sgetD s.hlt.aboveRun k 0 + 1 ∧ sgetD t.hlt.belowRun k 0 = 0 ∧
      (k ∈ t.hlt.declared ↔ k ∈ s.hlt.declared)) := by
  intro t k x
  obtain ⟨ha, hb, ht, hdue⟩ := windowed_at s kind base m times j x
  obtain ⟨o1, o2, o3, o4⟩ := sumacUnit_own (windowed_stores hs) (hdue.trans hd)
  rw [ha] at o1
  rw [hb] at o2 o4
  rw [ht] at o3
  obtain ⟨k1, k2, k3, k4⟩ := windowed_after (kind := kind) (base := base) (m := m) (times := times) (s := s) hj
  refine ⟨fun h => ?_, fun h => ?_⟩
  · have hbelow : belowAfter s kind (base + j) x m = sgetD s.hlt.belowRun k 0 + 1 := if_neg (by simp [h])
    refine ⟨(k1.trans o1).trans (if_neg (by simp [h])), fun hm => ?_, (k2.trans o2).trans (by rw [hbelow]), fun h99 => ?_⟩
    · have htold := o3.mp (k3.mp hm)
      rw [toldAt, h] at htold
      cases htold
    · exact k4.trans (o4 (by rw [hbelow]; omega))
  · have hbelow : belowAfter s kind (base + j) x m = 0 := if_pos h
    refine ⟨(k1.trans o1).trans (if_pos h), (k2.trans o2).trans (by rw [hbelow]; rfl), k3.trans (o3.trans ?_)⟩
    rw [toldAt, h, Bool.true_and, List.contains_iff_mem]

/-! ## A window in which one unit alone is declared -/

/-- The window's one declaration: the state before it, with no unit moved, and the rest of the window after it. -/
theorem windowed_declares (hs : UnitStores s) (hj : j < n) (hd : dueAt s kind (base + j) (times.getD j 0) m = true)
    (ho : ∀ i, i < n → i ≠ j → dueAt s kind (base + i) (times.getD i 0) m = false) :
    ∃ u, UnitStores u ∧ UnitsRest s u ∧ unitKey kind (base + j) ∈ u.hlt.declared ∧
      UnitsRest (u.straggler kind (base + j)) (windowed kind base m times s n) ∧
      UnitKept kind (base + j) (u.straggler kind (base + j)) (windowed kind base m times s n) := by
  obtain ⟨ha, hb, ht, hdue⟩ := windowed_at s kind base m times j (times.getD j 0)
  have hstep : windowed kind base m times s (j + 1) =
      (windowNoted (windowed kind base m times s j) kind (base + j) (times.getD j 0) m).straggler kind (base + j) := sumacUnit_due (hdue.trans hd)
  have hbefore : UnitsRest s (windowed kind base m times s j) :=
    windowed_quiet (k := 0) (Nat.zero_le j) fun i _ hi => ho i (by omega) (by omega)
  have hafter : UnitsRest (windowed kind base m times s (j + 1)) (windowed kind base m times s n) :=
    windowed_quiet (k := j + 1) hj fun i h1 h2 => ho i h2 (by omega)
  have hkept := windowed_after (kind := kind) (base := base) (m := m) (times := times) (s := s) hj
  rw [hstep] at hafter hkept
  have hstores : UnitStores (windowed kind base m times s j) := windowed_stores hs
  have hdue' := hdue.trans hd
  generalize windowed kind base m times s j = u at *
  refine ⟨windowNoted u kind (base + j) (times.getD j 0) m, hstores.windowNoted .., hbefore.trans (windowNoted_quiet ..), ?_, hafter, hkept⟩
  have hm : unitKey kind (base + j) ∈ (if toldAt u kind (base + j) (times.getD j 0) m || dueAt u kind (base + j) (times.getD j 0) m then
      unitKey kind (base + j) :: u.hlt.declared.filter (· != unitKey kind (base + j))
      else u.hlt.declared.filter (· != unitKey kind (base + j))) := by
    rw [if_pos (by rw [hdue', Bool.or_true])]
    exact List.mem_cons_self ..
  exact hm

theorem UnitsRest.counted {c : Nat} (h : UnitsRest s u) (h' : UnitsRest v t) (hc : CountedOnce c u v) : CountedOnce c s t := by
  unfold CountedOnce at hc ⊢
  rwa [counter_of_cnt h'.cnt, ← counter_of_cnt h.cnt]

/-- The unit is swapped for its pool's spare. -/
theorem windowed_swaps (hs : UnitStores s) (hj : j < n) (hd : dueAt s kind (base + j) (times.getD j 0) m = true)
    (ho : ∀ i, i < n → i ≠ j → dueAt s kind (base + i) (times.getD i 0) m = false) (ha : s.unit kind (base + j) = .active)
    (hsp : s.spareOf kind (poolOf kind (base + j)) = some sp) :
    let t := windowed kind base m times s n
    t.unit kind (base + j) = .testing ∧ t.unit kind sp = .active ∧ (∀ i, i ≠ base + j → i ≠ sp → t.unit kind i = s.unit kind i) ∧
      t.logicalOf kind sp = s.logicalOf kind (base + j) ∧ CountedOnce C.stragglers s t ∧ CountedOnce C.swaps s t ∧
      CountedOnce (C.events Ev.stragglerSwap) s t ∧ t.swc.bankCopy = bankSwapped s kind (base + j) sp ∧
      (t.spareOf kind (poolOf kind (base + j)) = none → t.raised Ev.sparesExhausted (unitInst kind (poolOf kind (base + j))) = true) := by
  intro t
  obtain ⟨u, hu, h1, -, h2, -⟩ := windowed_declares hs hj hd ho
  have hau : u.unit kind (base + j) = .active := (unit_of_units h1.units ..).trans ha
  have hspu : u.spareOf kind (poolOf kind (base + j)) = some sp := (spareOf_of_units h1.units ..).trans hsp
  rw [straggler_swaps hau hspu] at h2
  have hc : UnitStores (u.count C.stragglers) := hu.count _
  have hcount : CountedOnce C.stragglers u (u.count C.stragglers) := u.counter_count_self _ hu.cnt
  obtain ⟨m1, m2, m3, m4⟩ := swapUnit_moves hc.units hc.logical (spare_ne_active ha hsp)
  obtain ⟨c1, c2⟩ := swapUnit_counts hc.cnt kind (base + j) sp
  have hx := swapUnit_exhausted (s := u.count C.stragglers) (kind := kind) (idx := base + j) (sp := sp)
  have hswc := swapUnit_swc (u.count C.stragglers) kind (base + j) sp
  have hstr := swapUnit_counter (u.count C.stragglers) kind (base + j) sp (id := C.stragglers) (by decide) (by decide) (by decide)
  generalize (u.count C.stragglers).swapUnit kind (base + j) sp = v at *
  refine ⟨(unit_of_units h2.units ..).trans m1, (unit_of_units h2.units ..).trans m2, fun i e1 e2 => ?_, ?_, ?_, ?_, ?_, ?_, fun hn => ?_⟩
  · exact (unit_of_units h2.units ..).trans ((m3 i e1 e2).trans (unit_of_units h1.units ..))
  · have ht : t.logicalOf kind sp = v.logicalOf kind sp := by rw [State.logicalOf, h2.logical, State.logicalOf]
    have hl : (u.count C.stragglers).logicalOf kind (base + j) = s.logicalOf kind (base + j) :=
      (congrArg (fun l => sgetD l (unitKey kind (base + j)) (initialLogical kind (base + j))) h1.logical :)
    exact ht.trans (m4.trans hl)
  · exact h1.counted h2 (countedOnce_of_counter hcount hstr.symm)
  · refine h1.counted h2 ?_
    rwa [CountedOnce, State.counter_count_ne _ _ _ (by decide)] at c1
  · refine h1.counted h2 ?_
    rwa [CountedOnce, State.counter_count_ne _ _ _ (by decide)] at c2
  · have hb : u.swc = s.swc := by rw [h1.sig.rest]
    have hbank : bankSwapped (u.count C.stragglers) kind (base + j) sp = bankSwapped s kind (base + j) sp := by
      unfold bankSwapped
      rw [show (u.count C.stragglers).swc = s.swc from hb]
    have ht : t.swc = v.swc := (congrArg State.swc h2.sig.rest).trans rfl
    rw [ht, hswc]
    exact hbank
  · rw [h2.raised _ _ (by decide)]
    exact hx ((spareOf_of_units h2.units ..).symm.trans hn)

/-- Without a spare the unit stays, and this is noted. -/
theorem windowed_lacks (hs : UnitStores s) (hj : j < n) (hd : dueAt s kind (base + j) (times.getD j 0) m = true)
    (ho : ∀ i, i < n → i ≠ j → dueAt s kind (base + i) (times.getD i 0) m = false) (ha : s.unit kind (base + j) = .active)
    (hsp : s.spareOf kind (poolOf kind (base + j)) = none) :
    let t := windowed kind base m times s n
    t.hlt.units = s.hlt.units ∧ unitKey kind (base + j) ∈ t.hlt.declared ∧ CountedOnce C.stragglers s t ∧
      CountedOnce (C.events Ev.stragglerNoSpare) s t ∧ t.raised Ev.stragglerNoSpare (unitInst kind (base + j)) = true ∧
      Signals [] [C.stragglers] s t := by
  intro t
  obtain ⟨u, hu, h1, hm, h2, hk⟩ := windowed_declares hs hj hd ho
  have hau : u.unit kind (base + j) = .active := (unit_of_units h1.units ..).trans ha
  have hspu : u.spareOf kind (poolOf kind (base + j)) = none := (spareOf_of_units h1.units ..).trans hsp
  rw [straggler_stays hau hspu] at h2 hk
  have hcount : CountedOnce C.stragglers u (u.count C.stragglers) := u.counter_count_self _ hu.cnt
  have hc := event_countedOnce_of_cnt (hu.count C.stragglers).cnt Ev.stragglerNoSpare (unitInst kind (base + j)) 0
  have hsig : Signals [] [C.stragglers] u ((u.count C.stragglers).event Ev.stragglerNoSpare (unitInst kind (base + j)) 0) :=
    (Signals.refl.count (.inr (by simp))).event (by decide) _ _
  refine ⟨?_, hk.declared.mpr ?_, ?_, ?_, ?_, ?_⟩
  · exact h2.units.trans ((event_units ..).trans h1.units)
  · rw [event_hlt]
    exact hm
  · exact h1.counted h2 (countedOnce_of_counter hcount (event_counter_ne _ (by decide) ..).symm)
  · refine h1.counted h2 ?_
    rwa [CountedOnce, State.counter_count_ne _ _ _ (by decide)] at hc
  · rw [hk.raised, raised_event]
    simp [show evCondition Ev.stragglerNoSpare = true from by decide]
  · exact ((h1.sig.weaken nofun nofun).trans hsig).trans (h2.sig.weaken nofun nofun)

/-! ## The end of a unit's self-test (R433) -/

/-- A unit under test comes back as a spare. -/
def comesBack (s : State) (kind idx : Nat) (pass : Bool) (probes : List (Nat × List Nat)) : Prop :=
  pass = true ∧ s.fld .HLT_SUMAC_CFG F.HLT_SUMAC_CFG_RESPARE = 1 ∧ sgetD s.hlt.swaps (unitKey kind idx) 0 < 3 ∧
    ∀ x ∈ probes, 10 * 2 * 65536 * x.1 ≤ 11 * Config.fusedRatio kind idx * median2 x.2

theorem exec_unitSelftestDone (pass : Bool) (probes : List (Nat × List Nat)) (ht : s.unit kind idx = .testing) :
    (comesBack s kind idx pass probes → exec (.unitSelftestDone kind idx pass probes) s =
      .next ((s.setUnit kind idx .spare).eventClear Ev.sparesExhausted (unitInst kind (poolOf kind idx)))) ∧
    (¬ comesBack s kind idx pass probes → exec (.unitSelftestDone kind idx pass probes) s = .next (s.setUnit kind idx .retired)) := by
  have hx : exec (.unitSelftestDone kind idx pass probes) s = execUnitSelftestDone kind idx pass probes s := rfl
  have hb : (s.unit kind idx != UnitSt.testing) = false := by rw [ht]; rfl
  have hcond : (pass && probes.all (withinNominal kind idx) && s.fld .HLT_SUMAC_CFG F.HLT_SUMAC_CFG_RESPARE == 1 &&
      decide (sgetD s.hlt.swaps (unitKey kind idx) 0 < 3)) = true ↔ comesBack s kind idx pass probes := by
    simp only [comesBack, withinNominal, Bool.and_eq_true, List.all_eq_true, decide_eq_true_eq, beq_iff_eq]
    tauto
  rw [hx, execUnitSelftestDone]
  refine ⟨fun hc => congrArg Host.Outcome.next ?_, fun hc => congrArg Host.Outcome.next ?_⟩
  · exact (if_neg (by simp [hb])).trans (if_pos (hcond.mpr hc))
  · exact (if_neg (by simp [hb])).trans (if_neg fun h => hc (hcond.mp h))

theorem unitSelftestDone_spec (hu : skeysFrom none s.hlt.units = true) (hi : idx < 2 ^ 16) (pass : Bool) (probes : List (Nat × List Nat)) :
    ∃ t, exec (.unitSelftestDone kind idx pass probes) s = .next t ∧ Signals [] [] s t ∧
      (∀ k u, u < 2 ^ 16 → (k, u) ≠ (kind, idx) → t.unit k u = s.unit k u) ∧ (s.unit kind idx ≠ .testing → t = s) ∧
      (s.unit kind idx = .testing → (comesBack s kind idx pass probes → t.unit kind idx = .spare ∧
          t.raised Ev.sparesExhausted (unitInst kind (poolOf kind idx)) = false) ∧
        (¬ comesBack s kind idx pass probes → t.unit kind idx = .retired)) := by
  by_cases ht : s.unit kind idx = .testing
  · obtain ⟨h1, h2⟩ := exec_unitSelftestDone pass probes ht
    by_cases hc : comesBack s kind idx pass probes
    · have hh := eventClear_hlt (s.setUnit kind idx .spare) Ev.sparesExhausted (unitInst kind (poolOf kind idx))
      have hun : ((s.setUnit kind idx .spare).eventClear Ev.sparesExhausted (unitInst kind (poolOf kind idx))).hlt.units =
        (s.setUnit kind idx .spare).hlt.units := by rw [hh]
      refine ⟨_, h1 hc, (Signals.refl.hlt _).eventClear .., fun k i hk hne => ?_, fun h => absurd ht h,
        fun _ => ⟨fun _ => ⟨?_, ?_⟩, fun h => absurd hc h⟩⟩
      · exact (unit_of_units hun ..).trans ((unit_setUnit hu hi hk _).trans (if_neg hne))
      · exact (unit_of_units hun ..).trans (unit_setUnit_self hu _)
      · rw [raised_eventClear]
        simp
    · exact ⟨_, h2 hc, Signals.refl.hlt _, fun k i hk hne => (unit_setUnit hu hi hk _).trans (if_neg hne), fun h => absurd ht h,
        fun _ => ⟨fun h => absurd h hc, fun _ => unit_setUnit_self hu _⟩⟩
  · have hx : exec (.unitSelftestDone kind idx pass probes) s = execUnitSelftestDone kind idx pass probes s := rfl
    refine ⟨s, ?_, .refl, fun _ _ _ _ => rfl, fun _ => rfl, fun h => absurd h ht⟩
    rw [hx, execUnitSelftestDone]
    exact congrArg Host.Outcome.next (if_pos (bne_iff_ne.mpr ht))

/-! ## One frame held in a parse pipeline -/

theorem unitStalled_drops (hs : StoresCanonical s) (hr : FramesInRange s) (hret : s.unit 0 idx = .retired) (hf : s.frame id = some f)
    (hh : f.fromHost = false) (href : s.refs id = 0) (he : f.ended = true) (hst : f.stage = Stage.admitted) (hp : f.pipe = idx)
    (hno : ∀ k g, s.frame k = some g → k ≠ id → (g.stage ≠ Stage.admitted ∨ g.pipe ≠ idx) ∧
      (g.port = f.port → g.stage ≠ Stage.dpi ∧ g.stage ≠ Stage.recirc)) (tokens : List Nat) :
    ∃ t, exec (.unitStalled 0 idx tokens) s = .next t ∧ t.frame id = none ∧ (∀ k, k ≠ id → t.frame k = s.frame k) ∧ t.reps = s.reps ∧
      CountedOnce (C.pipDrops f.port) s t := by
  have hport : f.port < 1024 := hr.ports _ (mem_of_sfind hf)
  have hex := exec_unitStalled (s := s) (kind := 0) (idx := idx) (by decide) tokens
  rw [if_neg (by rw [hret]; nofun), emptied] at hex
  have hn := stallNoted_signals s 0 idx
  have hu : StoresCanonical (stallNoted s 0 idx) := hs.event ..
  have hcnt : (stallNoted s 0 idx).counter (C.pipDrops f.port) = s.counter (C.pipDrops f.port) :=
    event_counter_ne _ (by simp only [C.events, C.pipDrops, C.page, Ev.unitStalled]; omega) ..
  generalize stallNoted s 0 idx = u at *
  have hframe : ∀ k, u.frame k = s.frame k := fun k => by rw [hn.rest]; rfl
  have hreps : u.reps = s.reps := by rw [hn.rest]
  have hl : ∀ k ∈ u.heldIn 0 idx tokens, k = id := fun k hk => by
    simp only [State.heldIn, if_true, List.mem_map, List.mem_filter, Bool.and_eq_true, beq_iff_eq] at hk
    obtain ⟨kv, ⟨hm, h1, h2⟩, rfl⟩ := hk
    by_contra hne
    rcases (hno _ _ ((hframe _).symm.trans (frame_of_mem hu hm)) hne).1 with h | h
    · exact h h1
    · exact h h2
  have hid : id ∈ u.heldIn 0 idx tokens := mem_heldIn (by rw [if_pos rfl]; exact ⟨f, (hframe id).trans hf, hst, hp⟩)
  obtain ⟨d1, d2, d3, d4⟩ := stallFrame_leaves hu ((hframe id).trans hf) hh
    (by rw [State.refs, State.repsOf, State.copiesOf, hn.rest]; exact href) he
    (fun k g hk hne hport => (hno k g ((hframe k).symm.trans hk) hne).2 hport)
  have hfold : ∀ l : List Nat, (∀ k ∈ l, k = id) →
      l.foldl (fun (s : State) id => s.stallFrame 0 s id) (u.stallFrame 0 u id) = u.stallFrame 0 u id := fun l hl =>
    foldl_keeps (P := fun v => v = u.stallFrame 0 u id) l _ rfl fun v k hk hv => by
      rw [hv, hl k hk]
      simp only [State.stallFrame.eq_def (u.stallFrame 0 u id), d1]
  cases hlist : u.heldIn 0 idx tokens with
  | nil =>
    rw [hlist] at hid
    cases hid
  | cons k l =>
    rw [hlist] at hl hex
    rw [List.foldl_cons, hl k (by simp), hfold l fun j hj => hl j (List.mem_cons_of_mem _ hj)] at hex
    refine ⟨_, hex, d1, fun k hk => (d2 k hk).trans (hframe k), d3.trans hreps, ?_⟩
    rw [CountedOnce, counter_of_cnt d4, ← hcnt]
    exact u.counter_count_self _ hu.cnt

/-! ## O52 -/

/-- A unit is declared where it is above its threshold, not told of yet, and its run has reached HOLD. -/
theorem dueAt_iff (s : State) (kind idx x m : Nat) : dueAt s kind idx x m = true ↔
    (s.fld .HLT_SUMAC_CFG F.HLT_SUMAC_CFG_THRESH * Config.fusedRatio kind idx * m < x * 2 * 64 * 65536 ∧
      unitKey kind idx ∉ s.hlt.declared ∧ s.fld .HLT_SUMAC_CFG F.HLT_SUMAC_CFG_HOLD ≤ sgetD s.hlt.aboveRun (unitKey kind idx) 0 + 1) := by
  by_cases ha : aboveAt s kind idx x m = true
  · have hlt := of_decide_eq_true ha
    simp [dueAt, toldAt, aboveAfter, ha, hlt]
  · have hlt : ¬ _ := fun h => ha (decide_eq_true h)
    simp [dueAt, ha, hlt]

/-- Settles O52: windows by what each unit's window does to its own runs and to other units, stalls by the loss of the frames held. -/
theorem sumacSwapsUnits : Obligations.SumacSwapsUnits := by
  unfold Obligations.SumacSwapsUnits
  refine ⟨⟨fun s groups _ => sumacWindow_banked groups s, fun s g hcnt hu hl ha hb _ hk hn _ => ?_,
    fun s kind idx pass probes hu _ hi => ?_⟩, fun s kind idx tokens hs hr hu hl hk _ => ?_,
    fun s kind idx hu hl hk _ hact hno hfr hs => ?_, fun s idx id f tokens hs hr hret hf hh href he hst hp hno => ?_⟩
  · intro n idx key above due
    have hs : UnitStores s := ⟨hcnt, hu, hl, ha, hb⟩
    have hdue : ∀ i, dueAt s g.kind (idx i) (g.times.getD i 0) (median2 g.times) = true ↔ due i := fun i => dueAt_iff ..
    have hnot : ∀ i, ¬ due i → dueAt s g.kind (idx i) (g.times.getD i 0) (median2 g.times) = false := fun i h =>
      Bool.eq_false_iff.mpr fun hd => h ((hdue i).mp hd)
    refine ⟨_, exec_sumacWindow g hk hn, fun hnone => ?_, fun j sp hj hd ho hact hsp => ?_, fun j hj hd ho hact hsp => ?_⟩
    · have hq : UnitsRest s (windowed g.kind (g.group * n) (median2 g.times) g.times s n) :=
        windowed_quiet (k := 0) (Nat.zero_le n) fun i _ hi => hnot i (hnone i hi)
      refine ⟨hq.sig, hq.units, fun i hi => ?_⟩
      obtain ⟨h1, h2⟩ := windowed_own hs hi (hnot i (hnone i hi))
      exact ⟨fun hab => h1 (decide_eq_false hab), fun hab => h2 (decide_eq_true hab)⟩
    · obtain ⟨h1, h2, h3, h4, h5, h6, h7, h8, h9⟩ :=
        windowed_swaps hs hj ((hdue j).mpr hd) (fun i hi hne => hnot i (ho i hi hne)) hact hsp
      exact ⟨h1, h2, fun i _ => h3 i, h4, h5, h6, h7, fun h1 => h8.trans (if_pos h1), h9⟩
    · exact windowed_lacks hs hj ((hdue j).mpr hd) (fun i hi hne => hnot i (ho i hi hne)) hact hsp
  · obtain ⟨t, hx, h1, h2, h3, h4⟩ := unitSelftestDone_spec (kind := kind) hu hi pass probes
    refine ⟨t, hx, h1, h2, h3, fun ht => ?_⟩
    obtain ⟨hback, hout⟩ := h4 ht
    split
    · next hc => exact hback hc
    · next hc => exact hout hc
  · intro held
    obtain ⟨t, hx, h1, h2, hbelow, h3, h4, h5⟩ := unitStalled_spec (idx := idx) hs hr hu hl hk tokens
    refine ⟨t, hx, h1, fun id f hid hf => ?_, h3, fun sp ha hsp => ?_, h5⟩
    · have hlost : LostOf id t := h2 id f hid hf
      refine ⟨hlost.bad, fun k r hs hrf => ?_⟩
      cases hk : t.rep k with
      | none => rfl
      | some r' =>
        obtain ⟨b, hb⟩ := hbelow k r' hk
        obtain rfl : { r' with yielded := b } = r := Option.some.inj (hb.symm.trans hs)
        exact absurd hrf (hlost.reps k r' hk)
    · obtain ⟨m1, m2, m3, m4, m5⟩ := h4 sp ha hsp
      exact ⟨m1, m2, m3, fun i _ => m4 i, m5⟩
  · obtain ⟨t, hx, h1, h2, h3, h4⟩ := unitStalled_alone hk hact hno hfr hs
    refine ⟨t, hx, h1, h2, fun hne => h3.trans ?_, fun he => ⟨?_, fun id f hf => ?_⟩, h4⟩
    · rw [bankEmptied, if_neg hne]
    · rw [h3, bankEmptied, if_pos he, State.loseBank, List.map_map]
      rfl
    · have hft : t.frame id = some (withoutBank (s.logicalOf kind idx) f) := by
        rw [State.frame, h3, bankEmptied, if_pos he]
        exact (loseBank_frame s _ id).trans (by rw [hf]; rfl)
      refine ⟨_, hft, fun c => ?_⟩
      rw [withoutBank, List.mem_append, mem_cellsIn]
  · exact unitStalled_drops hs hr hret hf hh href he hst hp hno tokens

end Sys2Proof
end
